-- ==== Sys2Proof/Word.lean ====
section
/-!
DEFINITION. The word types of the machine and the index types of its units (R12, R13, R17, R18, R372, R450).
-/
namespace Sys2Proof

/-- One byte. -/
abbrev Byte := BitVec 8
/-- A 32-bit word: a general register, a window register. -/
abbrev Word32 := BitVec 32
/-- A 64-bit word: a 64-bit register, an instruction word, a timebase value. -/
abbrev Word := BitVec 64

/-- Wafer slot W00 to W35 (R13). -/
abbrev WaferId := Fin 36
/-- Compute field F00 to F71 (R17). -/
abbrev FieldId := Fin 72
/-- Off-wafer port P00 to P19 (R17). -/
abbrev PortId := Fin 20
/-- Switch plane, one B72 chip (R15). -/
abbrev PlaneId := Fin 16
/-- Port of a B72 chip (R16). -/
abbrev ChipPort := Fin 72
/-- Partition number on one wafer (R372). -/
abbrev PartId := Fin 288
/-- Core quadrant: field times 4 plus quadrant (R93). -/
abbrev QuadId := Fin 288
/-- Park group of a wafer: quadrant times 9 plus group (R466). -/
abbrev GroupId := Fin 2592
/-- Power domain of a wafer (R450). -/
abbrev DomId := Fin 455
/-- Unit code of a core in its field: physical row times 24 plus column (R18). -/
abbrev UnitId := Fin 600
/-- Power shelf PSH0 to PSH7 (R12). -/
abbrev ShelfId := Fin 8
/-- Battery backup unit of a shelf (R12). -/
abbrev BbuId := Fin 4
/-- Coolant distribution unit (R12). -/
abbrev CduId := Fin 2
/-- Rack management controller (R12). -/
abbrev RmcId := Fin 2
/-- Tray management controller: 0 to 35 the wafer trays, 36 to 43 switch trays S0 to S7 (R12). -/
abbrev TmcId := Fin 44
/-- Access path to the window: 0 PCIe, 1 TWI target, 2 prompter port (R52, R65). -/
abbrev PathId := Fin 3
/-- Cue slot (R274). -/
abbrev SlotId := Fin 8
/-- DMA channel (R577). -/
abbrev ChanId := Fin 4
/-- Semaphore of a wafer (R391). -/
abbrev SemId := Fin 1024
/-- Lane of a link (R171). -/
abbrev LaneId := Fin 16

end Sys2Proof
end

