-- ==== Sys2Proof/Syntax.lean ====
section
/-!
DEFINITION. The commands of the machine: one constructor of `Instr` for each row of the table of operations and events,
with the operands that say which unit it concerns and what the outside (a host, a driver, a link partner, a sensor, the
passage of time) brings to it. The operand types come first.
-/
namespace Sys2Proof

/-- A packet on the on-wafer network or a link: the header fields of R145 and the payload bytes (R144). -/
structure Packet where
  act : Nat := 0
  cls : Nat := 0
  level : Nat := 0
  dline : Nat := 0
  typ : Nat := 0
  rsvd : Nat := 0
  dest : Nat := 0
  src : Nat := 0
  spart : Nat := 0
  tseq : Nat := 0
  addr : Nat := 0
  rid : Nat := 0
  aux : Nat := 0
  pcrc : Nat := 0
  hcrc : Nat := 0
  payload : List Nat := []
deriving DecidableEq, Repr

/-- A DMA descriptor as it stands in host memory (R579). `rsvd` is 1 where a reserved field is nonzero. -/
structure DmaDesc where
  haddr : Nat
  laddr : Nat
  len : Nat
  dir : Bool
  irq : Bool
  rsvd : Bool
  cookie : Nat
deriving DecidableEq, Repr

/-- One end of a link: a wafer's port or a B72's port (R14, R15, R16). -/
inductive LinkRef where
  | port (w : WaferId) (p : PortId)
  | chip (c : PlaneId) (p : ChipPort)
deriving DecidableEq, Repr

/-- A mask register of the attention tree: a group's leaf mask, ATN_MASK or ATN_TMC_MASK (R598). -/
inductive MaskReg where
  | leaf (g : Fin 16)
  | host
  | tmc
deriving DecidableEq, Repr

/-- What a completion of a DMA channel's host read brings (R580, R581): a descriptor, data for the oldest host-to-loft
descriptor, or an error completion. -/
inductive DmaArrival where
  | desc (d : DmaDesc)
  | data (bytes : List Byte)
  | error
deriving DecidableEq, Repr

/-- What the link partner does to the PCIe link (R587): it takes it out of L1, into Recovery, back to L0, or down. -/
inductive PcieEvent where
  | exitL1 | recovery | backToL0 | down
deriving DecidableEq, Repr


/-- What an error-correcting decoder finds in what a step reads: nothing, a corrected error in the given word or line of the access, or an
uncorrectable one (R349, R351). -/
inductive Ecc where
  | good
  | corrected (i : Nat)
  | bad (i : Nat)
deriving DecidableEq, Repr

/-- A scalar integer operation (R95). The instruction-set documentation names and encodes them; the specification gives examples of classes only, so
any other operation of the class is `other` with a code of its own. -/
inductive IntOp where
  | add | sub | mul
  | other (code : Nat)
deriving DecidableEq, Repr

inductive LogicOp where
  | and | or | xor | shiftLeft | shiftRight
  | other (code : Nat)
deriving DecidableEq, Repr

inductive CmpOp where
  | eq | ne | ltSigned | ltUnsigned
  | other (code : Nat)
deriving DecidableEq, Repr

/-- When a branch is taken (R95, R113). -/
inductive BrCond where
  | always
  | zero (r : Fin 32)
  | nonzero (r : Fin 32)
deriving DecidableEq, Repr

/-- A format of an MMA operand (R98). -/
inductive Fmt where
  | e4m3 | e5m2 | mxE4m3 | mxE5m2 | mxE2m3 | mxE3m2 | mxE2m1 | bf16 | fp16 | int8
deriving DecidableEq, Repr

/-- A format of a conversion (R104). -/
inductive CvtFmt where
  | fp32 | bf16 | fp16 | e4m3 | e5m2 | mxE4m3 | mxE5m2 | mxE2m3 | mxE3m2 | mxE2m1 | int32 | int8
deriving DecidableEq, Repr

/-- An element of a field's network that forwards packets (R136): the spine router, a fly-line tap, a port tap or a link bridge in the
direction to its port or from it, the NI bridge and the host bridge. -/
inductive NetElem where
  | router
  | flyTap (line : Fin 8)
  | portTap (p : PortId) (inbound : Bool)
  | linkBridge (p : PortId) (inbound : Bool)
  | niBridge (inbound : Bool)
  | hostBridge (inbound : Bool)
deriving DecidableEq, Repr

/-- A flit slot of a link block (R143, R173, R174). -/
structure LinkFlit where
  kind : BitVec 2
  vc : BitVec 3
  data : BitVec 256
deriving DecidableEq, Repr


/-- One domain's sample of one instant (R454, R491, R492): voltage in millivolts, current in milliamperes, temperature, and what the accounting estimates and counts for
it in the 10 µs: leakage, memory accesses and a loft's idle draw in units of 10 pJ, and bytes or flits by SPART. -/
structure EnergySample where
  dom : DomId
  missing : Bool
  volt : BitVec 12
  cur : BitVec 20
  temp : BitVec 8
  leak : BitVec 32
  mem : BitVec 32
  idle : BitVec 32
  traffic : List (BitVec 9 × BitVec 32)
deriving DecidableEq, Repr

/-- The four junction sub-sensors of a quadrant, in sixteenths of a degree (R539). -/
structure QuadTemp where
  quad : QuadId
  t0 : BitVec 12
  t1 : BitVec 12
  t2 : BitVec 12
  t3 : BitVec 12
deriving DecidableEq, Repr

/-- The spine and loft sensors of a field, in sixteenths of a degree (R539). -/
structure FieldTemp where
  field : FieldId
  spine : BitVec 12
  loft : BitVec 12
deriving DecidableEq, Repr

/-- A counter of time: a wafer's or an RMC's. -/
inductive TimeUnit where
  | wafer (w : WaferId)
  | rmc (r : RmcId)
deriving DecidableEq, Repr

/-- What a bring-up test condemns (R316, R317): the object's type and code, the kind and the test signature. -/
structure TestFinding where
  objType : BitVec 4
  kind : BitVec 5
  object : BitVec 17
  signature : Word32
deriving DecidableEq, Repr

/-- What calibration finds for a quadrant (R72): the trims needed at points L, N and H in millivolts, and whether it failed. -/
structure Calibration where
  quad : QuadId
  trimL : BitVec 8
  trimN : BitVec 8
  trimH : BitVec 8
  fail : Bool
deriving DecidableEq, Repr

/-- A handshake-delay monitor's transit (R553). -/
structure MonSample where
  mon : Fin 1152
  transit : BitVec 32
deriving DecidableEq, Repr

/-- A change of the act that is requested of the RMC (R223, R226, R232): a wafer, a plane or a spine leaves or joins, or new on-wafer routes. -/
inductive ActChange where
  | dropWafer (w : Nat)
  | dropPlane (p : Nat)
  | dropSpine (w f : Nat)
  | addWafer (w : Nat)
  | addPlane (p : Nat)
  | addSpine (w f : Nat)
  | routes (w : Nat)
deriving DecidableEq, Repr

/-- An entry of a wafer's route tables: the element's field code, the table kind, the index and the entry (R217). -/
structure RouteEntry where
  w : WaferId
  kind : Fin 7
  field : BitVec 7
  index : BitVec 13
  entry : Word
deriving DecidableEq, Repr

/-- A drain domain (R221): a plane, a wafer's east (0) or south (1) side-stage link, or a wafer's own network. -/
inductive DrainDom where
  | plane (c : PlaneId)
  | side (w : WaferId) (south : Bool)
  | wafer (w : WaferId)
deriving DecidableEq, Repr

/-- A forwarding-only unit that the RMC resets (R226). -/
inductive ResetUnit where
  | chip (c : PlaneId)
  | spine (w : WaferId) (f : FieldId)
deriving DecidableEq, Repr

/-- A request that waits at a pseudo-channel (R348): its class (0 forced maintenance, 1 SMC, 2 partition, 3 aperture, 4 unforced maintenance), its partition and how
long it has waited in nanoseconds. -/
structure PchReq where
  cls : Fin 5
  part : PartId
  waited : Word32
deriving DecidableEq, Repr


/-- What a shelf controller measures of a BBU (R510, R514): its usable energy and learned capacity in kilojoules, its current in units of 10 mA, its cell temperature, and the
seconds that its precheck has left. -/
structure BbuMeas where
  bbu : BbuId
  energy : BitVec 16
  cap : BitVec 16
  current : BitVec 16
  temp : BitVec 8
  left : BitVec 6
deriving DecidableEq, Repr

/-- What a CDU controller measures (R534): pump speed, coolant supply and return, flow, tank level, and facility water in and out. -/
structure CduMeas where
  cdu : CduId
  pump : BitVec 7
  supply : BitVec 12
  ret : BitVec 12
  flow : BitVec 12
  level : BitVec 7
  facIn : BitVec 12
  facOut : BitVec 12
deriving DecidableEq, Repr

/-- A Redfish resource (R667). -/
inductive RfRes where
  | tank
  | tray (t : TmcId)
  | sensors (w : WaferId)
  | rmc (r : RmcId)
  | tmc (t : TmcId)
  | journal (r : RmcId)
  | switchPort (c : PlaneId) (p : ChipPort)
  | endpointPort (w : WaferId) (p : PortId)
  | shelf (h : ShelfId)
  | supply (h : ShelfId) (m : Fin 6)
  | battery (h : ShelfId) (b : BbuId)
  | cdu (c : CduId)
  | firmware (part : Fin 10) (unit : BitVec 12)
  | eventService
  | taskService
deriving DecidableEq, Repr

/-- A property that a PATCH can name (R668); any other property is `readOnly`. -/
inductive RfProp where
  | machinePowerLimitW | rideThroughGraceS | barrierBalance | coolantSetpointC | machineNumber | drainMaxMs
  | shedRank | floorW | autoStart | spotlightTimeoutS | locationIndicatorActive
  | timeSource | ptpProfile | ptpDomain
  | readOnly
deriving DecidableEq, Repr
/-- The commands of the machine, in the order of the table of operations and events. -/
inductive Instr where
  /-- WAFER_LOSS (R24): A wafer's supply or reset takes effect while it is in the running act, starting the loss timeline. -/
  | waferLoss (w : WaferId)
  /-- LINK_LOSS_OF_SIGNAL (R24): A link engine or B72 port detects loss of signal from its peer. -/
  | linkLossOfSignal (e : LinkRef)
  /-- RMC_DECLARE_WAFER_LOST (R24): The active RMC declares a wafer lost and starts building an act that excludes it. -/
  | rmcDeclareWaferLost (w : WaferId)
  /-- RMC_HEARTBEAT (R26): Every 100 ms the active RMC sends a heartbeat on the management Ethernet. -/
  | rmcHeartbeat (standbyHears : Bool) (tmcs : List TmcId)
  /-- RMC_TAKEOVER (R26): After three missing heartbeats the standby RMC takes the active role from its mirrored planner state. -/
  | rmcTakeover
  /-- TMC_KEEPALIVE_TICK (R650): Every 100 ms the TMC writes the keepalive pair and reads TMC_REQ. -/
  | tmcKeepaliveTick (w : WaferId) (trayIn : BitVec 12) (valve : BitVec 7)
  /-- KEEPALIVE_COMMIT (R650): A write of TMC_KEEPALIVE1 commits both keepalive words and updates NET_MGMT and THM_COOLANT. -/
  | keepaliveCommit (w : WaferId) (ka : Word32)
  /-- RMCS_ABSENT (R26): A TMC that has heard neither RMC for 1.0 s declares both RMCs absent. -/
  | rmcsAbsent (t : TmcId)
  /-- REGISTER_WRITE (R48): A write to a window register without a row of its own acts as its access type decides. -/
  | registerWrite (w : WaferId) (path : PathId) (word : BitVec 22) (ds : List (BitVec 4 × Word32))
  /-- RC_READ (R48): A read of an RC register returns its value and clears it in one atomic step. -/
  | rcRead (w : WaferId) (path : PathId) (word : BitVec 22) (bes : List (BitVec 4))
  /-- WINGS_COPY_DONE (R49): The SMC finishes copying new live values into the wings after a cue, ending its lock. -/
  | wingsCopyDone (w : WaferId) (c : Fin 8)
  /-- JOURNAL_SPILL (R55): The SMC copies a ring entry to the carrier flash. -/
  | journalSpill (w : WaferId)
  /-- JOURNAL_FETCH (R57): Committing ID_JRNL_SEL's high word starts a journal fetch, ending any running one. -/
  | journalFetch (w : WaferId) (n : Word)
  /-- JOURNAL_FETCH_DONE (R57): A journal fetch ends with OK, GONE or FUTURE and fills the entry words. -/
  | journalFetchDone (w : WaferId)
  /-- SUPPLY_SETTLED (R76): Every ON domain lies within 5 mV of its new supply and IN_TRANSITION clears. -/
  | supplySettled (w : WaferId)
  /-- DROOP_GATE_ENGAGE (R78): A domain's supply falls to 480 mV or below and its droop gate withholds acknowledges. -/
  | droopGateEngage (w : WaferId) (d : DomId)
  /-- DROOP_GATE_RELEASE (R78): A domain's supply rises above 500 mV and its droop gate releases. -/
  | droopGateRelease (w : WaferId) (d : DomId)
  /-- UNDERVOLT (R462): A quadrant or spine supply reaches 430 mV, or a fixed supply stays below 90 % for 10 µs. -/
  | undervolt (w : WaferId) (d : DomId) (volt : BitVec 12)
  /-- GATE_TIMEOUT (R79): A droop gate engaged for 1 ms without release causes a supply fault. -/
  | gateTimeout (w : WaferId) (d : DomId) (volt : BitVec 12)
  /-- INT_ARITHMETIC (R95): A scalar integer arithmetic instruction updates general registers. -/
  | intArithmetic (w : WaferId) (f : FieldId) (u : UnitId) (op : IntOp) (rd ra rb : Fin 32)
  /-- LOGIC (R95): A scalar logic instruction updates general registers. -/
  | logic (w : WaferId) (f : FieldId) (u : UnitId) (op : LogicOp) (rd ra rb : Fin 32)
  /-- COMPARE (R95): A scalar compare instruction updates general registers. -/
  | compare (w : WaferId) (f : FieldId) (u : UnitId) (op : CmpOp) (rd ra rb : Fin 32)
  /-- BRANCH (R113): A branch changes program flow, faulting ISTORE_RANGE beyond instruction 3,071. -/
  | branch (w : WaferId) (f : FieldId) (u : UnitId) (c : BrCond) (target : BitVec 16)
  /-- TIME (R115): TIME writes the 64-bit timebase into a pair of general registers. -/
  | time (w : WaferId) (f : FieldId) (u : UnitId) (rd : Fin 32)
  /-- TOKENS (R115): TOKENS writes the core's 64-bit token count into a pair of general registers. -/
  | tokens (w : WaferId) (f : FieldId) (u : UnitId) (rd : Fin 32)
  /-- FLAGS (R107): FLAGS reads the core's four sticky flags. -/
  | flags (w : WaferId) (f : FieldId) (u : UnitId) (rd : Fin 32)
  /-- WAIT (R96): WAIT holds the core until a signal word allows it to continue. -/
  | wait (w : WaferId) (f : FieldId) (u : UnitId) (word : Fin 16) (count : Word32)
  /-- MMA (R101): MMA computes C plus A times B with exact block sums and one rounding per addition. -/
  | mma (w : WaferId) (f : FieldId) (u : UnitId) (fa fb : Fmt) (pair : Fin 4) (ta tb : Fin 8)
  /-- CVT (R104): CVT converts values between formats with round-to-nearest-even and the SAT rules. -/
  | cvt (w : WaferId) (f : FieldId) (u : UnitId) (src dst : CvtFmt) (td ta : Fin 8) (shift : Fin 32)
  /-- VEC_ADD (R108): Vector element-wise add. -/
  | vecAdd (w : WaferId) (f : FieldId) (u : UnitId) (bf : Bool) (td ta tb : Fin 8)
  /-- VEC_SUB (R108): Vector element-wise subtract. -/
  | vecSub (w : WaferId) (f : FieldId) (u : UnitId) (bf : Bool) (td ta tb : Fin 8)
  /-- VEC_MUL (R108): Vector element-wise multiply. -/
  | vecMul (w : WaferId) (f : FieldId) (u : UnitId) (bf : Bool) (td ta tb : Fin 8)
  /-- VEC_FMA (R108): Vector fused multiply-add with one rounding. -/
  | vecFma (w : WaferId) (f : FieldId) (u : UnitId) (bf : Bool) (td ta tb tc : Fin 8)
  /-- VEC_MIN (R108): Vector element-wise minimum. -/
  | vecMin (w : WaferId) (f : FieldId) (u : UnitId) (bf : Bool) (td ta tb : Fin 8)
  /-- VEC_MAX (R108): Vector element-wise maximum. -/
  | vecMax (w : WaferId) (f : FieldId) (u : UnitId) (bf : Bool) (td ta tb : Fin 8)
  /-- VEC_COMPARE (R108): Vector element-wise compare. -/
  | vecCompare (w : WaferId) (f : FieldId) (u : UnitId) (bf : Bool) (td ta tb : Fin 8)
  /-- VEC_EXP2 (R108): Vector exp2 within 2 ulp, bit-identical across B0 cores. -/
  | vecExp2 (w : WaferId) (f : FieldId) (u : UnitId) (bf : Bool) (td ta : Fin 8)
  /-- VEC_RECIP (R108): Vector reciprocal within 2 ulp. -/
  | vecRecip (w : WaferId) (f : FieldId) (u : UnitId) (bf : Bool) (td ta : Fin 8)
  /-- VEC_RSQRT (R108): Vector reciprocal square root within 2 ulp. -/
  | vecRsqrt (w : WaferId) (f : FieldId) (u : UnitId) (bf : Bool) (td ta : Fin 8)
  /-- VEC_REDUCE (R108): A VEC reduction sums a tensor register in a fixed pairwise tree. -/
  | vecReduce (w : WaferId) (f : FieldId) (u : UnitId) (bf : Bool) (td ta : Fin 8)
  /-- LD (R109): LD loads from the scratchpad into a general register. -/
  | ld (w : WaferId) (f : FieldId) (u : UnitId) (rd : Fin 32) (addr : Word32) (ecc : Ecc)
  /-- ST (R109): ST stores a general register into the scratchpad. -/
  | st (w : WaferId) (f : FieldId) (u : UnitId) (rs : Fin 32) (addr : Word32) (ecc : Ecc)
  /-- TLD (R109): TLD loads scratchpad data into a tensor register. -/
  | tld (w : WaferId) (f : FieldId) (u : UnitId) (td : Fin 8) (addr : Word32) (ecc : Ecc)
  /-- TST (R109): TST stores a tensor register into the scratchpad. -/
  | tst (w : WaferId) (f : FieldId) (u : UnitId) (ts : Fin 8) (addr : Word32) (ecc : Ecc)
  /-- LGET (R123): LGET requests committed loft contents into the scratchpad. -/
  | lget (w : WaferId) (f : FieldId) (u : UnitId) (dest : BitVec 23) (off : BitVec 40) (ret : Word32) (len : BitVec 16)
  /-- SEND (R96): SEND writes 4 bytes to 4 KiB into a peer core's scratchpad. -/
  | send (w : WaferId) (f : FieldId) (u : UnitId) (rank : Word32) (addr src : Word32) (len : BitVec 16)
  /-- FETCH (R96): FETCH reads a range from a peer core's scratchpad. -/
  | fetch (w : WaferId) (f : FieldId) (u : UnitId) (rank : Word32) (addr ret : Word32) (len : BitVec 16)
  /-- SIGNAL (R96): SIGNAL adds 1 to one of 16 signal words of a peer core. -/
  | signal (w : WaferId) (f : FieldId) (u : UnitId) (rank : Word32) (word : Fin 16)
  /-- PUSH (R116): PUSH adds an entry at the bottom of a deque, reporting failure when full. -/
  | push (w : WaferId) (f : FieldId) (u : UnitId) (d : Fin 4) (rd rs : Fin 32)
  /-- POP (R116): POP removes the bottom entry of the highest-priority non-empty deque and starts it as a task. -/
  | pop (w : WaferId) (f : FieldId) (u : UnitId)
  /-- STEAL (R117): An idle core sends steal requests to ranks of its partition in seating order. -/
  | steal (w : WaferId) (f : FieldId) (u : UnitId)
  /-- STEAL_RETRY (R117): After a failed steal round the core waits 64 tokens and starts again. -/
  | stealRetry (w : WaferId) (f : FieldId) (u : UnitId)
  /-- LPUT (R119): LPUT records an outbound loft write in the commit buffer. -/
  | lput (w : WaferId) (f : FieldId) (u : UnitId) (dest : BitVec 23) (off : BitVec 40) (src : Word32) (len : BitVec 16)
  /-- XPUT (R119): XPUT records an outbound write to a core outside the command in the commit buffer. -/
  | xput (w : WaferId) (f : FieldId) (u : UnitId) (dest : BitVec 23) (addr src : Word32) (len : BitVec 16)
  /-- ATOM_ADD (R95): ATOM.ADD records a modular add on a loft word in the commit buffer. -/
  | atomAdd (w : WaferId) (f : FieldId) (u : UnitId) (wide : Bool) (dest : BitVec 23) (off : BitVec 40) (rs : Fin 32)
  /-- ATOM_MIN (R95): ATOM.MIN records an unsigned minimum on a loft word in the commit buffer. -/
  | atomMin (w : WaferId) (f : FieldId) (u : UnitId) (wide : Bool) (dest : BitVec 23) (off : BitVec 40) (rs : Fin 32)
  /-- ATOM_MAX (R95): ATOM.MAX records an unsigned maximum on a loft word in the commit buffer. -/
  | atomMax (w : WaferId) (f : FieldId) (u : UnitId) (wide : Bool) (dest : BitVec 23) (off : BitVec 40) (rs : Fin 32)
  /-- ATOM_OR (R95): ATOM.OR records an OR into a loft word in the commit buffer. -/
  | atomOr (w : WaferId) (f : FieldId) (u : UnitId) (wide : Bool) (dest : BitVec 23) (off : BitVec 40) (rs : Fin 32)
  /-- ATOM_SWAP (R95): ATOM.SWAP records a replacement of a loft word in the commit buffer. -/
  | atomSwap (w : WaferId) (f : FieldId) (u : UnitId) (wide : Bool) (dest : BitVec 23) (off : BitVec 40) (rs : Fin 32)
  /-- SEMA_TAKE (R391): SEMA.TAKE sends a TAKE and waits for a grant that leases one unit to the command. -/
  | semaTake (w : WaferId) (f : FieldId) (u : UnitId) (rs : Fin 32)
  /-- SEMA_GIVE (R391): SEMA.GIVE takes an atomic commit-buffer entry that returns a unit when it drains. -/
  | semaGive (w : WaferId) (f : FieldId) (u : UnitId) (rs : Fin 32)
  /-- SPAD_SCRUB_LINE (R355): Every 4,096 tokens the core scrubber reads one scratchpad or instruction store line. -/
  | spadScrubLine (w : WaferId) (f : FieldId) (u : UnitId) (line : BitVec 11) (ecc : Ecc)
  /-- ROUTER_FORWARD (R155): A router, tap or bridge takes a packet and routes it by the table of its ACT bit. -/
  | routerForward (w : WaferId) (f : FieldId) (e : NetElem) (input : BitVec 8) (p : Packet) (ecc : Ecc)
  /-- OUTPUT_ARBITRATION (R152): An output grants its next flit time by class weights, round-robin and the age rule. -/
  | outputArbitration (w : WaferId) (f : FieldId) (e : NetElem) (out : BitVec 8)
  /-- CREDIT_RETURN (R151): A credit returns to the sender when a flit leaves the receiver's buffer. -/
  | creditReturn (w : WaferId) (f : FieldId) (e : NetElem) (out : BitVec 8) (vc : Fin 8)
  /-- INJECTION_ARBITRATION (R153): The NI chooses the next partition queue to inject by live priority and age. -/
  | injectionArbitration (w : WaferId) (f : Fin 84)
  /-- SEND_DELIVERY (R193): A SEND packet reaches its destination NI, is ordered by the transport and written to the scratchpad. -/
  | sendDelivery (w : WaferId) (f : Fin 84) (p : Packet)
  /-- FETCH_REQ (R96): A FETCH request is answered with FETCH_DATA from the target scratchpad. -/
  | fetchReq (w : WaferId) (f : Fin 84) (p : Packet) (ecc : Ecc)
  /-- FETCH_DATA (R146): Fetched data is written into the requester's scratchpad. -/
  | fetchData (w : WaferId) (f : Fin 84) (p : Packet)
  /-- SIGNAL_DELIVERY (R96): A SIGNAL packet adds 1 to a signal word of the destination core. -/
  | signalDelivery (w : WaferId) (f : Fin 84) (p : Packet)
  /-- LGET_REQ (R341): A loft interface serves an LGET request and returns LGET_DATA. -/
  | lgetReq (w : WaferId) (f : Fin 84) (p : Packet) (ecc : Ecc)
  /-- LGET_DATA (R146): Loft data is written into the requester's scratchpad. -/
  | lgetData (w : WaferId) (f : Fin 84) (p : Packet)
  /-- LPUT_PACKET (R347): A loft interface writes an LPUT, by read-modify-write for a partial line. -/
  | lputPacket (w : WaferId) (f : Fin 84) (p : Packet) (ecc : Ecc)
  /-- XPUT_PACKET (R146): An XPUT packet is written into the destination scratchpad. -/
  | xputPacket (w : WaferId) (f : Fin 84) (p : Packet)
  /-- ATOM_PACKET (R197): A loft interface applies an atomic unless its (NI, RID) pair is in the replay table. -/
  | atomPacket (w : WaferId) (f : Fin 84) (p : Packet) (ecc : Ecc)
  /-- STEAL_REQ (R116): A victim core removes the top entry of its highest-priority deque, or answers empty. -/
  | stealReq (w : WaferId) (f : Fin 84) (p : Packet)
  /-- STEAL_ANS (R118): A stealing core receives an entry and starts it as a task, or records a miss. -/
  | stealAns (w : WaferId) (f : Fin 84) (p : Packet)
  /-- TACK (R194): A TACK acknowledges every packet of its stream up to its count. -/
  | tack (w : WaferId) (f : Fin 84) (p : Packet)
  /-- NACK (R195): A NACK ends the named packet and its successors, resets the stream and reports the reason. -/
  | nack (w : WaferId) (f : Fin 84) (p : Packet)
  /-- MGMT_READ (R147): A spine management target carries out a window read and returns READ_DATA. -/
  | mgmtRead (w : WaferId) (f : Fin 84) (p : Packet)
  /-- MGMT_WRITE (R147): A spine management target carries out a window write and returns WRITE_DONE. -/
  | mgmtWrite (w : WaferId) (f : Fin 84) (p : Packet)
  /-- MGMT_READ_DATA (R147): The window arbiter completes a field-window read with the returned words. -/
  | mgmtReadData (w : WaferId) (f : Fin 84) (p : Packet)
  /-- MGMT_WRITE_DONE (R147): The window arbiter completes a field-window write. -/
  | mgmtWriteDone (w : WaferId) (f : Fin 84) (p : Packet)
  /-- MGMT_ACC_ERROR (R147): The window arbiter completes a field-window access with an access error. -/
  | mgmtAccError (w : WaferId) (f : Fin 84) (p : Packet)
  /-- MGMT_TAKE (R391): A TAKE reaches a semaphore and waits, or counts a full lease table. -/
  | mgmtTake (w : WaferId) (sem : SemId) (src : BitVec 23) (spart : BitVec 9)
  /-- MGMT_GRANT (R391): A GRANT reaches the core, whose TAKE completes with a lease. -/
  | mgmtGrant (w : WaferId) (f : FieldId) (u : UnitId) (sem : SemId) (slot : WaferId)
  /-- MGMT_GIVE (R391): A drained GIVE adds one unit to the semaphore's COUNT. -/
  | mgmtGive (w : WaferId) (sem : SemId)
  /-- MGMT_CONSUME (R391): A lease is consumed at completion; its unit stays taken. -/
  | mgmtConsume (w : WaferId) (sem : SemId) (src : BitVec 23) (spart : BitVec 9)
  /-- MGMT_RETURN (R391): A lease is returned and COUNT regains its unit. -/
  | mgmtReturn (w : WaferId) (sem : SemId) (src : BitVec 23) (spart : BitVec 9)
  /-- CMD_FWD (R384): A follower's Serving Engine receives a command entry and descriptor from the lead and runs it. -/
  | cmdFwd (w : WaferId) (p : PartId) (q : Fin 64) (bytes : List Byte)
  /-- IDLE_REPORT (R384): The lead receives a follower's report that its cores are idle. -/
  | idleReport (w : WaferId) (p : PartId) (q : Fin 64) (seq : BitVec 48) (src : WaferId)
  /-- CMD_END (R147): A follower commits or discards the command as the lead's status says. -/
  | cmdEnd (w : WaferId) (p : PartId) (q : Fin 64) (seq : BitVec 48) (status : Byte)
  /-- PMT_FWD (R437): A follower receives a forwarded pre-emption request or resume. -/
  | pmtFwd (w : WaferId) (p : PartId) (v : BitVec 8)
  /-- BATCH_FWD (R390): A follower receives batch header or list bytes from the lead. -/
  | batchFwd (w : WaferId) (p : PartId) (off : BitVec 20) (bytes : List Byte)
  /-- DONE_BITS (R390): The lead receives a follower's done bits and ORs them into its own. -/
  | doneBits (w : WaferId) (p : PartId) (src : WaferId) (off : BitVec 10) (bytes : List Byte)
  /-- FAULT_FWD (R376): A partition receives a forwarded fault of another partition of its job. -/
  | faultFwd (w : WaferId) (p : PartId) (cause : BitVec 3)
  /-- LINK_BLOCK_TX (R177): A link engine sends its next block with the next BSEQ, or repeats its newest when the replay buffer is full. -/
  | linkBlockTx (l : LinkRef) (flits : List LinkFlit)
  /-- LINK_BLOCK_RX (R178): A link receiver decodes a block, accepts it in order or discards it and sends a NAK. -/
  | linkBlockRx (l : LinkRef) (bytes : List Byte)
  /-- ACK_DEADLINE (R178): 100 ns after the first unacknowledged block an ACK is sent. -/
  | ackDeadline (l : LinkRef)
  /-- LINK_FAULT_REPLAY_LIMIT (R180): A BSEQ replayed 16 times in a row makes the link FAULT and retrain. -/
  | linkFaultReplayLimit (l : LinkRef)
  /-- LINK_FAULT_ACK_TIMEOUT (R180): No ACK for 10 µs with blocks unacknowledged makes the link FAULT and retrain. -/
  | linkFaultAckTimeout (l : LinkRef)
  /-- IDENTITY_BLOCK (R184): An identity block is received in training; 8 identical ones accept the peer's identity. -/
  | identityBlock (l : LinkRef) (ident : Word32)
  /-- LINK_TRAINED (R185): Training ends with credit initialisation and the port is UP, DEGRADED or MISCABLED. -/
  | linkTrained (l : LinkRef)
  /-- PORT_ADMIN_DOWN (R208): A write of LNK_CFG.ADMIN_DOWN holds the port down or releases it. -/
  | portAdminDown (w : WaferId) (p : PortId) (down : Bool)
  /-- LANE_SYMBOL_LOSS (R182): A lane loses symbol lock and both ends retrain to 8 lanes, or the port goes FAULT. -/
  | laneSymbolLoss (l : LinkRef) (lane : LaneId)
  /-- LANE_BER_CHECK (R182): Over each 1 ms a lane whose corrected bytes exceed the threshold is failing. -/
  | laneBerCheck (l : LinkRef)
  /-- DEGRADE_RELOCK (R182): The port relocks at 8 lanes, the receiver NAKs and replay continues at half rate. -/
  | degradeRelock (l : LinkRef)
  /-- B72_FORWARD (R187): A B72 checks HCRC and forwards a packet by its act's table entry. -/
  | b72Forward (c : PlaneId) (inp : ChipPort) (p : Packet)
  /-- RETRANSMIT_TIMEOUT (R196): An unacknowledged packet is retransmitted on the next port with a doubled wait. -/
  | retransmitTimeout (w : WaferId) (f : Fin 84) (dest : BitVec 23) (cls : Fin 4) (spart : BitVec 9) (count : BitVec 30)
  /-- TACK_TIMER (R194): 200 ns after the first unacknowledged delivery a TACK is sent. -/
  | tackTimer (w : WaferId) (f : Fin 84) (src : BitVec 23) (cls : Fin 4) (spart : BitVec 9)
  /-- RECAL_TRIGGER (R200): A lane's eye margin falls below its trigger and recalibration of its group becomes due. -/
  | recalTrigger (l : LinkRef) (lane : LaneId)
  /-- RECAL_IDLE_SLOT (R200): An idle gap of 2 µs lets a due lane group recalibrate. -/
  | recalIdleSlot (l : LinkRef)
  /-- RECAL_FORCED (R200): At RECAL_MAX_MS the engine holds new blocks up to 2 µs and recalibrates. -/
  | recalForced (l : LinkRef)
  /-- ROUTE_TABLE_WRITE (R218): Committing NET_RT_DATA's high word writes a route entry if its act accepts writes. -/
  | routeTableWrite (w : WaferId) (v : Word)
  /-- ACT_CHANGE_REQUEST (R223): A requested act change is queued in arrival order, or refused beyond 16. -/
  | actChangeRequest (c : ActChange)
  /-- ACT_BUILD (R220): The RMC writes the complete inactive act on every member wafer and B72. -/
  | actBuild (es : List RouteEntry)
  /-- ACT_CUE (R220): The RMC stages the new stamp and generation and starts a machine-scope cue. -/
  | actCue (time : BitVec 64) (mid : Word32)
  /-- ELEMENT_QUIET (R221): An element has held and seen no flit of the draining act for 2 × LPATH. -/
  | elementQuiet (d : DrainDom)
  /-- ACT_FREE (R221): Once every drain domain is quiet the RMC declares the old act FREE on every element. -/
  | actFree
  /-- DRAIN_DEADLINE (R222): At DRAIN_MAX_MS the RMC forces the old act FREE. -/
  | drainDeadline
  /-- UNIT_PLANNED_RESET (R226): A forwarding-only unit is reset after an act without it has drained. -/
  | unitPlannedReset (u : ResetUnit)
  /-- B72_LOSS (R228): A B72 is lost unplanned; packets on its plane are lost and an act without it follows. -/
  | b72Loss (c : PlaneId)
  /-- SPINE_LOSS (R229): A spine is lost unplanned; its packets are lost and it is reported to the RMC. -/
  | spineLoss (w : WaferId) (f : FieldId)
  /-- UNIT_ADMIT (R232): The RMC writes and cues an act that includes a unit in rehearsal status. -/
  | unitAdmit (c : ActChange)
  /-- IMAGE_LOAD_START (R257): IMG_CTL.START begins loading a set image, or is discarded while a load runs. -/
  | imageLoadStart (w : WaferId) (path : PathId)
  /-- IMAGE_LOAD_ABORT (R263): IMG_CTL.ABORT ends a running load with ABORTED, rolling wings back when needed. -/
  | imageLoadAbort (w : WaferId)
  /-- IMAGE_CHECK_DONE (R259): The loader finishes steps 1–9 of validation, failing with the first error or starting expansion. -/
  | imageCheckDone (w : WaferId) (bad : Option (BitVec 35))
  /-- IMAGE_EXPANSION_DONE (R260): Expansion into the wings ends, completing the load or handing ACTS to the RMC. -/
  | imageExpansionDone (w : WaferId) (bad : Option (BitVec 35))
  /-- ACTS_HANDOVER_ACK (R260): The RMC acknowledges the ACTS handover and the load completes. -/
  | actsHandoverAck (w : WaferId)
  /-- ACTS_ACK_TIMEOUT (R262): No acknowledgement within 1 s fails the load with NO_PLANNER and rolls back. -/
  | actsAckTimeout (w : WaferId)
  /-- PUSH_START (R258): IMG_PUSH_CTL.START begins copying a staged range to destination wafers. -/
  | pushStart (w : WaferId) (bad : Option (BitVec 35))
  /-- PUSH_ABORT (R273): IMG_PUSH_CTL.ABORT stops sending and marks unfinished destinations failed. -/
  | pushAbort (w : WaferId)
  /-- PUSH_DONE (R258): A push ends, marking failed destinations and raising PUSH_DONE. -/
  | pushDone (w : WaferId)
  /-- CUE_START (R276): CUE_CTRL.START starts a cue in a slot, which waits or rehearses. -/
  | cueStart (w : WaferId) (path : PathId) (v : Word32)
  /-- CUE_DISARM (R287): CUE_CTRL.DISARM ends a waiting, rehearsing or armed cue without applying it. -/
  | cueDisarm (w : WaferId) (path : PathId) (v : Word32)
  /-- REHEARSAL_DONE (R279): Rehearsal finishes its rules and the cue arms or fails. -/
  | rehearsalDone (w : WaferId) (c : Fin 8)
  /-- REHEARSAL_TIMEOUT (R279): WAITING and REHEARSING lasting over 2 s fail the cue with TIMEOUT. -/
  | rehearsalTimeout (w : WaferId) (c : Fin 8)
  /-- CUE_APPLY (R285): An armed cue applies: every unit takes its new live copies at a token boundary. -/
  | cueApply (w : WaferId) (c : Fin 8)
  /-- SCHED_CUE_VALUE (R284): The timebase counter reaches an armed scheduled cue's value. -/
  | schedCueValue (w : WaferId) (c : Fin 8)
  /-- MACHINE_CUE_START (R288): The RMC stages wings and starts slot 0 on every member wafer. -/
  | machineCueStart (members : BitVec 36) (time : BitVec 64) (mid : Word32)
  /-- MACHINE_CUE_CHECK (R289): With every member armed or failed, the RMC checks machine-wide and disarms or sends the go frame. -/
  | machineCueCheck
  /-- GO_FRAME (R630): A wafer receives a GO frame and records it if it matches slot 0 in time. -/
  | goFrame (w : WaferId) (bytes : List Byte)
  /-- COLD_START (R301): The TMC enables the tray feed and the wafer powers up toward phase 0. -/
  | coldStart (w : WaferId) (bus : BitVec 16)
  /-- WARM_START (R301): BUP_CTL.WARM_RESET or a TMC request takes domains down and restarts at phase 0. -/
  | warmStart (w : WaferId)
  /-- BRINGUP_PHASE_0 (R303): Host field start test, SMC boot, straps and ledger derivation run. -/
  | bringupPhase0 (w : WaferId) (straps : BitVec 7) (ledgerOk : Bool)
  /-- HOST_START_TEST_TIMEOUT (R303): The selected host field fails its start test or does not pass within 0.3 s. -/
  | hostStartTestTimeout (w : WaferId)
  /-- BRINGUP_PHASE_1 (R304): Timebase lock and spine, NI, mesh, tap and fly line self-tests run. -/
  | bringupPhase1 (w : WaferId) (findings : List TestFinding)
  /-- PPS_LOCK_TIMEOUT (R304): No PPS lock within 2.0 s lets phase 1 continue with quality FREE. -/
  | ppsLockTimeout (w : WaferId)
  /-- BRINGUP_PHASE_2 (R305): Core memory BIST, loft bond test, training and zeroing run. -/
  | bringupPhase2 (w : WaferId) (findings : List TestFinding)
  /-- BRINGUP_PHASE_3 (R306): Link engine self-tests, optics checks and port training run. -/
  | bringupPhase3 (w : WaferId) (findings : List TestFinding)
  /-- PORT_TRAIN_TIMEOUT (R306): A port training 4 s without reaching UP no longer holds phase 3. -/
  | portTrainTimeout (w : WaferId) (p : PortId)
  /-- BRINGUP_PHASE_4 (R307): Logic test, skip rows, calibration, ageing baseline and quadrant power-up run. -/
  | bringupPhase4 (w : WaferId) (findings : List TestFinding) (cals : List Calibration) (baseline : List MonSample)
  /-- BRINGUP_DONE (R307): Phase 4 becomes ready and the wafer waits in rehearsal status. -/
  | bringupDone (w : WaferId) (findings : List TestFinding)
  /-- PHASE_SLOW (R302): A phase passes its latest time and raises PHASE_SLOW. -/
  | phaseSlow (w : WaferId)
  /-- LEDGER_FETCH (R319): A write of BUP_LDG_SEL starts a ledger fetch, ending any running one. -/
  | ledgerFetch (w : WaferId) (slot : BitVec 16)
  /-- LEDGER_FETCH_DONE (R319): A ledger fetch ends with OK, EMPTY or TORN. -/
  | ledgerFetchDone (w : WaferId)
  /-- FDR_START (R324): BUP_CTL.FDR_START starts a factory-depth retest, or it is refused. -/
  | fdrStart (w : WaferId) (path : PathId)
  /-- FDR_ABORT (R326): BUP_CTL.FDR_ABORT ends a retest before commit, keeping the old bank. -/
  | fdrAbort (w : WaferId)
  /-- FDR_COMMIT (R325): The retest commits its new epoch, rewrites the boot record and starts again. -/
  | fdrCommit (w : WaferId) (findings : List TestFinding)
  /-- FIELD_RETEST_START (R327): BUP_CTL.RETEST_START begins a field retest, or it is refused. -/
  | fieldRetestStart (w : WaferId) (f : BitVec 7)
  /-- FIELD_RETEST_DONE (R327): A field retest ends PASSED or RETIRED. -/
  | fieldRetestDone (w : WaferId) (findings : List TestFinding) (cals : List Calibration) (baseline : List MonSample)
  /-- PCH_ARBITRATION (R348): A pseudo-channel grants its next requester by class, priority and age. -/
  | pchArbitration (w : WaferId) (f : FieldId) (ch : Fin 32) (rs : List PchReq)
  /-- LOFT_SCRUB_READ (R354): A bank's scrubber reads a line in an idle slot. -/
  | loftScrubRead (w : WaferId) (f : FieldId) (bank : BitVec 9) (e : Ecc)
  /-- SCRUB_FORCED_SLOT (R354): A scrubber behind schedule takes a forced slot of at most 1 µs. -/
  | scrubForcedSlot (w : WaferId) (f : FieldId) (bank : BitVec 9) (es : List Ecc)
  /-- SCRUB_LATE (R354): A pass not complete 24 h after its start sets SCRUB_LATE. -/
  | scrubLate (w : WaferId) (f : FieldId) (bank : BitVec 9)
  /-- ROW_SPARE_COPY (R356): A row is copied onto a spare row and served from it. -/
  | rowSpareCopy (w : WaferId) (f : FieldId) (row : BitVec 21) (es : List Ecc)
  /-- ROW_SPARE_FORCED (R356): 100 ms after the trigger a pending row copy takes a forced slot. -/
  | rowSpareForced (w : WaferId) (f : FieldId) (row : BitVec 21) (es : List Ecc)
  /-- QUARTER_ZEROED (R346): A curtained partition's quarter finishes zeroing. -/
  | quarterZeroed (w : WaferId) (q : QuadId)
  /-- APERTURE_READ (R359): A BAR4 read is mapped through HIF_APT and served from a loft. -/
  | apertureRead (w : WaferId) (off : BitVec 36) (n : BitVec 13) (e : Ecc)
  /-- APERTURE_WRITE (R359): A BAR4 write is mapped through HIF_APT and written into a loft. -/
  | apertureWrite (w : WaferId) (off : BitVec 36) (bs : List (Bool × Byte)) (e : Ecc)
  /-- DOORBELL (R379): A BAR2 doorbell write gives a queue's new tail, or is discarded. -/
  | doorbell (w : WaferId) (p : PartId) (q : Fin 64) (tail : Word32)
  /-- COMMAND_TAKE (R381): The IDLE Serving Engine takes the next entry, checks it and runs or answers it. -/
  | commandTake (w : WaferId) (p : PartId) (badFill : Option (FieldId × UnitId × BitVec 40))
  /-- COMMIT_INSTANT (R383): Every command core is idle; the command commits and commit buffers drain. -/
  | commitInstant (w : WaferId) (p : PartId) (bad : Option (FieldId × UnitId × BitVec 14))
  /-- COMMAND_COMPLETE (R383): Every drain is acknowledged; leases end, the result is recorded and a completion written. -/
  | commandComplete (w : WaferId) (p : PartId)
  /-- SLOT_JOIN (R387): SE_SLOT_CTL JOIN moves a FREE slot to JOINING with its tag. -/
  | slotJoin (w : WaferId) (slot : BitVec 13)
  /-- SLOT_LEAVE (R387): SE_SLOT_CTL LEAVE frees or marks a slot LEAVING. -/
  | slotLeave (w : WaferId) (slot : BitVec 13)
  /-- STEP_BOUNDARY (R388): The Serving Engine applies done marks, leaves, joins and waiting cues, then runs the next step. -/
  | stepBoundary (w : WaferId) (p : PartId)
  /-- SEMA_DECISION (R392): A semaphore with COUNT ≥ 1 picks the winning waiter's partition for a tenure. -/
  | semaDecision (w : WaferId) (sem : SemId)
  /-- SEMA_TENURE_END (R392): A semaphore tenure ends 2 µs after it began. -/
  | semaTenureEnd (w : WaferId) (sem : SemId)
  /-- CURTAIN (R395): PRT_CTL.CURTAIN drops a curtain: NACKs, discard, reset and zeroing begin. -/
  | curtain (w : WaferId) (p : PartId)
  /-- CURTAIN_DONE (R395): Zeroing ends and the partition enters IDLE. -/
  | curtainDone (w : WaferId) (p : PartId)
  /-- RESET_SEQ (R411): CQ_CTL.RESET_SEQ clears a queue's high-water mark and result record. -/
  | resetSeq (w : WaferId)
  /-- PREEMPT (R413): PMT_CTL.PREEMPT starts a cut or hold, or is refused. -/
  | preempt (w : WaferId) (p : PartId)
  /-- RESUME (R430): PMT_CTL.RESUME restarts a STOPPED partition or restores a HELD one. -/
  | resume (w : WaferId) (p : PartId)
  /-- CUT_SURRENDER_TIMEOUT (R420): After SURRENDER_US the NI resets streams of unacknowledged packets. -/
  | cutSurrenderTimeout (w : WaferId) (p : PartId)
  /-- CUT_COMPLETE (R420): Surrender ends, queue records are written and the partition is STOPPED. -/
  | cutComplete (w : WaferId) (p : PartId)
  /-- HOLD_HALT_DONE (R424): Every core of the held command has halted at an instruction boundary. -/
  | holdHaltDone (w : WaferId) (p : PartId)
  /-- HOLD_SURRENDER_TIMEOUT (R424): Surrender not done in SURRENDER_US turns the hold into a cut. -/
  | holdSurrenderTimeout (w : WaferId) (p : PartId)
  /-- HOLD_SAVE_DONE (R424): Every core state is saved, records are written and quadrants park. -/
  | holdSaveDone (w : WaferId) (p : PartId)
  /-- RESTORE_DONE (R431): State is reloaded from every save slot and the cores run. -/
  | restoreDone (w : WaferId) (p : PartId) (bad : Option (FieldId × BitVec 40))
  /-- DONATION_BOUND (R435): 500 µs without a commit cuts the donating command. -/
  | donationBound (w : WaferId) (p : PartId)
  /-- DOMAIN_ON_REQUEST (R456): PWR_DOM_REQ ON is latched for a domain, or refused. -/
  | domainOnRequest (w : WaferId) (d : BitVec 9)
  /-- DOMAIN_OFF_REQUEST (R456): PWR_DOM_REQ OFF is latched for a domain, or refused. -/
  | domainOffRequest (w : WaferId) (d : BitVec 9)
  /-- DOMAIN_RESET_REQUEST (R456): PWR_DOM_REQ RESET is latched for a domain, or refused. -/
  | domainResetRequest (w : WaferId) (d : BitVec 9)
  /-- RAMP_DONE (R457): A domain's supply reaches target and it enters ISOL, or drains for a latched OFF. -/
  | rampDone (w : WaferId) (d : DomId)
  /-- ISOL_DONE (R458): Initialisation ends and the domain opens its clamps to ON. -/
  | isolDone (w : WaferId) (d : DomId)
  /-- DRAIN_DONE (R457): DRAIN ends and the domain's supply switches OFF. -/
  | drainDone (w : WaferId) (d : DomId)
  /-- OFF_DWELL_DONE (R457): The OFF dwell passes and a pending ON or RESET enters RAMP. -/
  | offDwellDone (w : WaferId) (d : DomId)
  /-- NO_POWER_GOOD (R462): RAMP passes its latest time without reaching target. -/
  | noPowerGood (w : WaferId) (d : DomId) (volt : BitVec 12)
  /-- OVERCURRENT (R453): A domain held at its current limit for 50 µs faults. -/
  | overcurrent (w : WaferId) (d : DomId) (volt : BitVec 12)
  /-- REG_FAIL (R462): A regulator reports an internal fault or exceeds 125 °C. -/
  | regFail (w : WaferId) (d : DomId) (volt : BitVec 12)
  /-- SUPPLY_FAULT_RETRY (R463): 10 ms after a fault the SMC requests the domain ON again. -/
  | supplyFaultRetry (w : WaferId) (d : DomId)
  /-- PARK_DONE (R466): A park group finishes parking at RETAIN or GATE depth. -/
  | parkDone (w : WaferId) (q : QuadId) (k : Fin 9)
  /-- UNPARK_DONE (R466): A park group finishes unparking. -/
  | unparkDone (w : WaferId) (q : QuadId) (k : Fin 9)
  /-- GATE_WAIT_CLEAR (R466): A waiting GATE request proceeds once every core of the group qualifies. -/
  | gateWaitClear (w : WaferId) (q : QuadId)
  /-- BUS_UNDERVOLT (R471): The 54 V bus below 46.0 V for 20 µs forces every domain down. -/
  | busUndervolt (w : WaferId) (torn : Bool)
  /-- IBC_FAULT (R471): An IBC faults and the wafer cap is lowered when two or more are lost. -/
  | ibcFault (w : WaferId) (k : Fin 4)
  /-- TRAY_POWER_OFF (R470): A planned power-off takes every domain down in order. -/
  | trayPowerOff (w : WaferId)
  /-- CAP_WRITE (R482): A PWR_CAP write sets the PLAN limit, clamped, effective from the next loop period. -/
  | capWrite (w : WaferId) (path : PathId) (v : Word32)
  /-- CAP_LOOP_PERIOD (R486): Every 100 µs the cap loop computes allotments and parks or unparks groups. -/
  | capLoopPeriod (w : WaferId)
  /-- ENVELOPE_STEP (R487): A sample above 20,000 W makes the loop park within 10 µs. -/
  | envelopeStep (w : WaferId)
  /-- ENERGY_SAMPLE (R491): Every 10 µs each domain's energy is charged to a partition or overhead. -/
  | energySample (w : WaferId) (bus : BitVec 16) (ibcs : List (BitVec 16)) (xs : List EnergySample)
  /-- ENERGY_INTEGRATE (R491): Every 100 µs energy counters integrate in millijoules. -/
  | energyIntegrate (w : WaferId)
  /-- DROOP_GUARD_SAMPLE (R489): A sagging quadrant supply parks two more groups per sample. -/
  | droopGuardSample (w : WaferId) (q : QuadId) (volt : BitVec 12)
  /-- DROOP_GUARD_RELEASE (R489): After RECOVER_US of good supply one droop-parked group unparks. -/
  | droopGuardRelease (w : WaferId) (q : QuadId)
  /-- CURRENT_GUARD_SAMPLE (R489): A quadrant current above 140 A parks one more group per sample. -/
  | currentGuardSample (w : WaferId) (q : QuadId) (cur : BitVec 20)
  /-- CURRENT_GUARD_RELEASE (R489): After 100 µs below 120 A one current-parked group unparks. -/
  | currentGuardRelease (w : WaferId) (q : QuadId)
  /-- TEL_SNAPSHOT (R505): A TEL_SEL write snapshots every per-partition counter of one partition. -/
  | telSnapshot (w : WaferId) (p : BitVec 9)
  /-- BARRIER_BALANCE (R495): Every 100 ms the RMC moves PLAN cap between wafers by barrier wait. -/
  | barrierBalance (dest : WaferId) (sources : List (WaferId × BitVec 8))
  /-- BBU_PRESENCE_LOSS (R512): A BBU's presence pin opens; charge and discharge stop and it is ABSENT. -/
  | bbuPresenceLoss (h : ShelfId) (b : BbuId)
  /-- BBU_INSERTION (R512): Presence steady for 100 ms puts a BBU into PRECHECK. -/
  | bbuInsertion (h : ShelfId) (b : BbuId) (serial : Word)
  /-- BBU_PRECHECK_DONE (R514): After 60 s a BBU enters CHARGE_LIM or FAULT. -/
  | bbuPrecheckDone (h : ShelfId) (pass : Bool) (m : BbuMeas)
  /-- CELL_FAULT (R513): A BBU's current collapses without command; it enters FAULT and its serial is recorded. -/
  | cellFault (h : ShelfId) (b : BbuId)
  /-- BBU_FULL (R514): A BBU reaches SoC 100 % and becomes READY. -/
  | bbuFull (h : ShelfId) (b : BbuId) (cap : BitVec 16)
  /-- CHARGE_HEADROOM (R515): Every 1 ms a shelf shares its charge headroom among charging BBUs. -/
  | chargeHeadroom (h : ShelfId) (load : BitVec 20)
  /-- CHARGE_INHIBIT (R515): AC loss or a busbar below 780 V drives the inhibit pair and stops all charging. -/
  | chargeInhibit (h : ShelfId) (busV : BitVec 10)
  /-- SHELF_REPORT (R517): A shelf report reaches the RMC, which recomputes the machine limit and replans. -/
  | shelfReport (h : ShelfId)
  /-- SHELF_REPORT_PERIODIC (R516): Every 100 ms a shelf controller reports its ride-through terms. -/
  | shelfReportPeriodic (h : ShelfId) (out : BitVec 17) (busV vll : BitVec 10) (ms : List BbuMeas)
  /-- PLAN_RAISE_CHECK (R519): Once per second the RMC raises caps one step if L allows. -/
  | planRaiseCheck
  /-- AC_LOSS (R522): AC is lost on every shelf and the BBUs carry the busbar. -/
  | acLoss (shelves : List (ShelfId × BitVec 10))
  /-- RIDE_THROUGH_GRACE (R522): After RT_GRACE every wafer cap falls to 1,500 W with RIDE_THROUGH. -/
  | rideThroughGrace
  /-- BBU_RESERVE_LOW (R522): Usable energy reaches 10 s of load and every tray is powered off. -/
  | bbuReserveLow (load : BitVec 20)
  /-- AC_RETURN (R530): AC returns; charging starts and caps rise as L_RT allows. -/
  | acReturn (shelves : List (ShelfId × BitVec 10))
  /-- SHELF_STATIC_FALLBACK (R524): A shelf controller hearing no RMC for 1.0 s limits its own output. -/
  | shelfStaticFallback (h : ShelfId)
  /-- BUSBAR_COLLAPSE (R508): A busbar below 700 V for 1 ms stops every consumer's converter. -/
  | busbarCollapse (busV : BitVec 10)
  /-- CDU_FAILOVER (R534): One CDU is lost and the other raises its flow to 2,400 L/min. -/
  | cduFailover (c : CduId)
  /-- COOLANT_REPORT (R536): The RMC sets each wafer's COOLANT limit from tray inlet and flow. -/
  | coolantReport (cdus : List CduMeas) (inlets : List (WaferId × BitVec 12))
  /-- TRAY_INLET_OVERTEMP (R536): A tray inlet at 60 °C for 10 s powers that tray off. -/
  | trayInletOvertemp (w : WaferId)
  /-- FLOW_LOSS (R537): Flow below 200 L/min for 1 s sets every COOLANT limit to 1,500 W. -/
  | flowLoss
  /-- FLOW_LOSS_POWER_OFF (R537): Flow still lost 60 s later, or supply at 60 °C for 10 s, powers off every tray. -/
  | flowLossPowerOff
  /-- LEVEL_ALARM (R537): Tank level below 95 % raises a Redfish alarm. -/
  | levelAlarm (level : BitVec 7)
  /-- LEVEL_LOW_POWER_OFF (R537): Tank level below 90 % powers off every tray within 10 s. -/
  | levelLowPowerOff (level : BitVec 7)
  /-- THERMAL_SAMPLE (R541): Every 100 µs quadrant Tj is sampled and stress hours accumulate. -/
  | thermalSample (w : WaferId) (qs : List QuadTemp) (fs : List FieldTemp)
  /-- PARK_HOTTEST_EVAL (R542): Every 1 ms a hot channel parks or releases one group of its hottest quadrant. -/
  | parkHottestEval (w : WaferId) (f : FieldId)
  /-- ROTATION_DUE (R546): PERIOD_S after the last rotation, a rotation becomes due. -/
  | rotationDue (w : WaferId) (p : PartId)
  /-- GHOST_LIGHT_ENTER (R549): After DELAY_S idle the wafer closes the valve, parks all groups and warms. -/
  | ghostLightEnter (w : WaferId)
  /-- GHOST_WARM_ADJUST (R550): Every 100 ms the number of warming groups moves by up to 8. -/
  | ghostWarmAdjust (w : WaferId)
  /-- GHOST_WARM_ROTATE (R550): Every 1 s the warming set rotates. -/
  | ghostWarmRotate (w : WaferId)
  /-- GHOST_WAKE (R551): THM_GHOST_CTL.WAKE ends ghost light. -/
  | ghostWake (w : WaferId)
  /-- AGE_SAMPLE_DUE (R554): Every 10 s a monitor sample starts if its quadrant is quiet. -/
  | ageSampleDue (w : WaferId) (m : Fin 1152)
  /-- AGE_SAMPLE_FORCED (R554): 60 s after the last sample a monitor sample is forced. -/
  | ageSampleForced (w : WaferId) (m : Fin 1152)
  /-- AGE_SAMPLE_DONE (R553): A 1,024-launch monitor sample completes and its drift is recorded. -/
  | ageSampleDone (w : WaferId) (m : Fin 1152) (transit : Word32)
  /-- AGE_SAMPLE_LATE (R554): An ON quadrant without a GOOD sample for 1 h raises SAMPLE_LATE. -/
  | ageSampleLate (w : WaferId) (q : QuadId)
  /-- AGE_HOURLY_FIT (R555): Hourly the SMC fits drift, predicts life and acts on LIFE_LOW or WEAR. -/
  | ageHourlyFit (w : WaferId)
  /-- PERST_ASSERT (R573): PERST# asserted resets the host interface and ends DMA descriptors ABORTED. -/
  | perstAssert (w : WaferId)
  /-- PERST_RELEASE (R589): PERST# released withdraws WAKE# and lets the link train. -/
  | perstRelease (w : WaferId)
  /-- HOT_RESET (R573): A hot reset resets only the host interface. -/
  | hotReset (w : WaferId)
  /-- FLR (R573): A function level reset resets only the host interface. -/
  | flr (w : WaferId)
  /-- PCIE_LINK_UP (R572): The PCIe link reaches L0 after phase 0 is ready. -/
  | pcieLinkUp (w : WaferId) (speed : BitVec 3) (width : BitVec 5)
  /-- PMCSR_WRITE (R586): A PMCSR write moves the device power state or clears PME_Status. -/
  | pmcsrWrite (w : WaferId) (d3hot pmeEn clearPme : Bool)
  /-- MSIX_ENABLE (R585): Enabling MSI-X sends one message if ATN_SUMMARY is nonzero. -/
  | msixEnable (w : WaferId) (enable : Bool)
  /-- MSIX_UNMASK (R585): Clearing a mask sends one message if the pending bit is set. -/
  | msixUnmask (w : WaferId) (func vector : Bool)
  /-- BUS_MASTER_ENABLE (R583): A Bus Master Enable change pauses or resumes DMA and MSI-X. -/
  | busMasterEnable (w : WaferId) (on : Bool)
  /-- DMA_TAIL_WRITE (R578): HIF_DMA_TAIL gives descriptors to a channel, or is refused. -/
  | dmaTailWrite (w : WaferId) (c : ChanId) (v : Word32)
  /-- DMA_ENABLE (R578): HIF_DMA_CFG.ENABLE = 1 starts a channel with its ring size. -/
  | dmaEnable (w : WaferId) (c : ChanId) (ringLog2 : BitVec 4)
  /-- DMA_DISABLE (R581): HIF_DMA_CFG.ENABLE = 0 ends descriptors ABORTED and zeroes HEAD and TAIL. -/
  | dmaDisable (w : WaferId) (c : ChanId)
  /-- DMA_RESUME (R581): HIF_DMA_CFG.RESUME leaves HALTED and continues. -/
  | dmaResume (w : WaferId) (c : ChanId)
  /-- DMA_COMPLETION (R580): A completion for a DMA host read arrives with a descriptor or data. -/
  | dmaCompletion (w : WaferId) (c : ChanId) (x : DmaArrival)
  /-- DMA_COMPLETION_TIMEOUT (R581): A DMA host read passes its completion timeout and the descriptor ends TIMEOUT. -/
  | dmaCompletionTimeout (w : WaferId) (c : ChanId)
  /-- DMA_DESC_DONE (R580): A descriptor finishes, its STATUS is written and DMA_DONE or DMA_ERR raised. -/
  | dmaDescDone (w : WaferId) (c : ChanId)
  /-- L1_ENTRY (R587): After L1_IDLE_US of idleness the endpoint requests L1. -/
  | l1Entry (w : WaferId)
  /-- PME_TURN_OFF (R587): PME_Turn_Off is answered with PME_TO_Ack and L2/L3 Ready. -/
  | pmeTurnOff (w : WaferId)
  /-- PME_REPEAT (R588): Every 100 ms in D3hot with PME_Status set, PM_PME is sent again. -/
  | pmeRepeat (w : WaferId)
  /-- ATN_TEST (R603): An ATN_TEST write raises TEST in each named group. -/
  | atnTest (w : WaferId) (groups : BitVec 16)
  /-- ATN_UNMASK (R599): Clearing a mask that uncovers a set leaf is a new event. -/
  | atnUnmask (w : WaferId) (m : MaskReg) (v : Word32)
  /-- MSIX_COALESCE_EXPIRY (R600): The host coalescing timer expires and one message is sent or suppressed. -/
  | msixCoalesceExpiry (w : WaferId)
  /-- MSIX_SPACING (R600): With MSIX_US = 0, a held-back event is sent 1 µs after the previous message. -/
  | msixSpacing (w : WaferId)
  /-- TMC_COALESCE_EXPIRY (R601): The TMC timer expires and ATTN_N is asserted if unmasked bits are seen. -/
  | tmcCoalesceExpiry (w : WaferId)
  /-- TMC_SEEN_CLEAR (R601): A W1C of ATN_TMC_SEEN releases ATTN_N when nothing unmasked remains. -/
  | tmcSeenClear (w : WaferId) (v : BitVec 16)
  /-- PTP_SYNC (R618): The RMC takes a PTP Sync and disciplines its oscillator. -/
  | ptpSync (r : RmcId) (offset : Word) (utc : BitVec 16) (leaps : BitVec 2)
  /-- PPS_EDGE (R619): The RMC takes a PPS input edge as phase reference. -/
  | ppsEdge (r : RmcId) (offset : Word)
  /-- RMC_REFERENCE_LOSS (R619): No Sync for 5 s or two missing PPS edges puts the RMC in HOLDOVER. -/
  | rmcReferenceLoss (r : RmcId)
  /-- RMC_REFERENCE_RETURN (R628): The RMC's reference returns and it slews or steps forward. -/
  | rmcReferenceReturn (r : RmcId) (offset : Word)
  /-- MARKER_SEND (R620): Each second the fan-out sends a marker to every tray. -/
  | markerSend
  /-- TOD_SEND (R620): 500 ms after each marker the RMC sends a TOD frame. -/
  | todSend (step : BitVec 36)
  /-- FANOUT_SWITCH (R620): A missing marker switches the fan-out to the standby RMC's marker. -/
  | fanoutSwitch
  /-- MARKER (R625): A wafer takes a marker, measures its offset and trims, slews or steps its counter. -/
  | marker (w : WaferId)
  /-- TOD_FRAME (R621): A wafer takes a TOD frame, or discards it on a bad CRC. -/
  | todFrame (w : WaferId) (bytes : List Byte)
  /-- MARKER_MISSING (R626): Two missing markers put the wafer in HOLDOVER and raise PPS_LOST. -/
  | markerMissing (w : WaferId)
  /-- HOLDOVER_BOUND_EXCEEDED (R622): An error bound over 1 ms makes the quality FREE. -/
  | holdoverBoundExceeded (u : TimeUnit)
  /-- TAF_READ_REQUEST (R644): A responder carries out a tray access read request. -/
  | tafReadRequest (u : Fin 54) (sender : BitVec 16) (bytes : List Byte)
  /-- TAF_WRITE_REQUEST (R644): A responder carries out a tray access write request, once per SEQ. -/
  | tafWriteRequest (u : Fin 54) (sender : BitVec 16) (bytes : List Byte)
  /-- TAF_RESPONSE (R645): A sender receives the response to its request. -/
  | tafResponse (u : Fin 56) (bytes : List Byte)
  /-- TAF_EVENT (R646): The active RMC receives an event frame and acknowledges it. -/
  | tafEvent (t : TmcId) (bytes : List Byte)
  /-- TAF_RETRY (R645): An unanswered request or event is repeated after 20 ms. -/
  | tafRetry (u : Fin 56) (number : Word32)
  /-- SIDEBAND_CHANGE (R647): A TMC accepts a new side-band state and sends an event frame. -/
  | sidebandChange (t : TmcId) (port : BitVec 8) (pair : BitVec 2)
  /-- ATTN_N_CHANGE (R646): A TMC sees ATTN_N asserted or released and reports it. -/
  | attnNChange (w : WaferId)
  /-- PRESENCE_CHANGE (R656): A presence pin changes; the TMC reports it and rereads identity. -/
  | presenceChange (t : TmcId) (pos : BitVec 8) (present : Bool) (record : List Byte)
  /-- TMC_RESTART (R31): A TMC restarts, reads the tray state back and reports its restart. -/
  | tmcRestart (t : TmcId)
  /-- STANDBY_RAIL_UP (R649): The standby rail appears and the TMC autostarts the tray if requested. -/
  | standbyRailUp (t : TmcId) (bus : BitVec 16)
  /-- SPOTLIGHT_BUTTON (R652): A press of the spotlight button inverts LocationIndicatorActive. -/
  | spotlightButton (u : BitVec 8)
  /-- SPOTLIGHT_TIMEOUT (R652): After SpotlightTimeoutS the spotlight property becomes false. -/
  | spotlightTimeout (u : BitVec 8)
  /-- FIRMWARE_INSTALL (R658): An image is accepted into a slot and its writing begins. -/
  | firmwareInstall (part : Fin 10) (unit : BitVec 12) (slot : Fin 2) (version : Word32) (digest : List Byte)
  /-- FIRMWARE_WRITE_DONE (R658): A slot is written and its digest checked, leaving it INSTALLED or BAD. -/
  | firmwareWriteDone (part : Fin 10) (unit : BitVec 12) (digest : List Byte)
  /-- FIRMWARE_ACTIVATE (R658): An installed slot is marked TRIAL and the part starts from it. -/
  | firmwareActivate (part : Fin 10) (unit : BitVec 12)
  /-- FIRMWARE_ROLLBACK (R658): A rollback activates the PREVIOUS slot through TRIAL. -/
  | firmwareRollback (part : Fin 10) (unit : BitVec 12)
  /-- UPDATE_TASK_TIMEOUT (R669): A pending update task ends as Exception after 24 h. -/
  | updateTaskTimeout (task : BitVec 16)
  /-- CAP_CONSISTENCY_CHECK (R665): Once per second the RMC writes back caps that differ from its plan. -/
  | capConsistencyCheck
  /-- B72_ACT_STATE_SET (R662): A B72_ACT_CTL write moves one of the chip's acts to a new state. -/
  | b72ActStateSet (c : PlaneId) (v : Word32)
  /-- REDFISH_GET (R666): A Redfish GET returns a resource. -/
  | redfishGet (r : RmcId) (x : RfRes)
  /-- REDFISH_PATCH (R668): A Redfish PATCH changes writable properties, or is refused. -/
  | redfishPatch (r : RmcId) (x : RfRes) (ifMatch : Option Word32) (ps : List (RfProp × Word32))
  /-- RESET_ON (R667): Redfish Reset On powers a tray on. -/
  | resetOn (r : RmcId) (t : TmcId) (bus : BitVec 16)
  /-- RESET_FORCE_OFF (R649): Redfish Reset ForceOff stores Off and removes the tray's power. -/
  | resetForceOff (r : RmcId) (t : TmcId)
  /-- RESET_GRACEFUL_SHUTDOWN (R649): Redfish Reset GracefulShutdown stores Off and powers the tray off in order. -/
  | resetGracefulShutdown (r : RmcId) (t : TmcId)
  /-- RESET_POWER_CYCLE (R667): Redfish Reset PowerCycle power-cycles a tray. -/
  | resetPowerCycle (r : RmcId) (t : TmcId)
  /-- WINDOW_ACCESS (R668): The WindowAccess action sends a tray access frame of TARGET 1. -/
  | windowAccess (r : RmcId) (w : WaferId) (off : BitVec 24) (count : BitVec 9) (data : List Word32)
  /-- CLEAR_CELL_FAULT (R513): The ClearCellFault action clears a BBU's recorded cell fault. -/
  | clearCellFault (r : RmcId) (h : ShelfId) (b : BbuId)
  /-- SET_SECONDS (R618): The SetSeconds action sets the RMC's TAI seconds for PPS without PTP. -/
  | setSeconds (r : RmcId) (seconds : BitVec 48)
  /-- FAILOVER (R668): The Failover action makes the standby take the active role at the next heartbeat. -/
  | failover (r : RmcId)
  /-- SIMPLE_UPDATE (R668): SimpleUpdate fetches and installs an image, activating it as ApplyTime says. -/
  | simpleUpdate (r : RmcId) (part : Fin 10) (unit : BitVec 12) (version : Word32) (digest : List Byte) (immediate : Bool)
  /-- MULTIPART_UPDATE (R667): A multipart HTTP push installs an image through UpdateService. -/
  | multipartUpdate (r : RmcId) (part : Fin 10) (unit : BitVec 12) (version : Word32) (digest : List Byte) (immediate : Bool)
  /-- EVENT_SUBSCRIBE (R666): A POST creates an event subscription. -/
  | eventSubscribe (r : RmcId) (dest : Word)
  /-- EVENT_UNSUBSCRIBE (R666): A DELETE removes an event subscription. -/
  | eventUnsubscribe (r : RmcId) (number : BitVec 16)
  /-- TWI_WRITE (R686): Target command 0x10 carries out a tagged window write unless it repeats the last one. -/
  | twiWrite (w : WaferId) (cmd : Byte) (bytes : List Byte) (pec : Option Byte) (wakeUs : BitVec 16)
  /-- TWI_READ (R684): Target command 0x11 reads window words and returns them. -/
  | twiRead (w : WaferId) (bytes : List Byte) (wakeUs : BitVec 16)
  /-- TWI_AON (R687): Target command 0x30 returns the 8-byte always-on status. -/
  | twiAon (w : WaferId)
  /-- TWI_STRETCH_TIMEOUT (R688): A stretch reaching STRETCH_MS releases the bus and discards the transaction. -/
  | twiStretchTimeout (w : WaferId)
  /-- TWI_TARGET_BUS_RESET (R689): SCL held low by another device for 30 ms resets the target to idle. -/
  | twiTargetBusReset (w : WaferId)
  /-- SMC_SLEEP (R687): After 1 ms without work the SMC sleeps. -/
  | smcSleep (w : WaferId)
  /-- TWI_GO (R693): TWI_CTRL_CMD.GO queues a controller transaction. -/
  | twiGo (w : WaferId) (v : Word32)
  /-- TWI_CTRL_DONE (R693): A controller transaction ends with its result. -/
  | twiCtrlDone (w : WaferId) (result : Fin 6) (nackAt : BitVec 6) (data : List Byte)
  /-- TWI_ARB_LOST (R691): A controller loses arbitration, releases the bus and retries. -/
  | twiArbLost (w : WaferId)
  /-- TWI_BUS_RECOVERY (R692): A line low for 35 ms triggers clock-out recovery and BUS_STUCK. -/
  | twiBusRecovery (w : WaferId) (seg : Fin 9) (ok : Bool)
  /-- JTAG_IDCODE (R703): IDCODE scans out 0x1465_29D3. -/
  | jtagIdcode (w : WaferId)
  /-- JTAG_BYPASS (R702): BYPASS selects the one-bit bypass register. -/
  | jtagBypass (w : WaferId) (ir : BitVec 5)
  /-- JTAG_SAMPLE_PRELOAD (R702): SAMPLE/PRELOAD samples or preloads the boundary cells. -/
  | jtagSamplePreload (w : WaferId) (pins cells : BitVec 96)
  /-- JTAG_EXTEST (R703): EXTEST drives the boundary cells, only while no host field runs. -/
  | jtagExtest (w : WaferId)
  /-- DPSTAT (R702): DPSTAT captures the always-on status. -/
  | dpstat (w : WaferId)
  /-- DPACC_NOP (R704): A DPACC NOP returns the previous result. -/
  | dpaccNop (w : WaferId) (early : Bool)
  /-- DPACC_READ (R705): A DPACC READ carries out a path-2 window read. -/
  | dpaccRead (w : WaferId) (word : BitVec 22) (early : Bool)
  /-- DPACC_WRITE (R705): A DPACC WRITE carries out a path-2 window write. -/
  | dpaccWrite (w : WaferId) (word : BitVec 22) (v : Word32) (early : Bool)
  /-- TRST (R707): TRST* resets the TAP and detaches a prompter-port debugger. -/
  | trst (w : WaferId)
  /-- DEBUG_ATTACH (R707): DBG_CTL.ATTACH = 1 attaches a debugger and records its path. -/
  | debugAttach (w : WaferId) (path : PathId) (v : Word32)
  /-- DEBUG_DETACH (R708): ATTACH = 0 detaches, disabling comparators and resuming cores unless KEEP. -/
  | debugDetach (w : WaferId) (path : PathId) (v : Word32)
  /-- DEBUG_PRESENCE_LOST (R707): The debug presence pin open for 10 ms detaches the prompter port. -/
  | debugPresenceLost (w : WaferId)
  /-- DBG_HALT (R710): DBG_CORE_CTL.HALT requests a halt of the target. -/
  | dbgHalt (w : WaferId)
  /-- DBG_RESUME (R711): DBG_CORE_CTL.RESUME makes a halted target continue. -/
  | dbgResume (w : WaferId)
  /-- DBG_STEP (R711): DBG_CORE_CTL.STEP makes a halted target issue one instruction. -/
  | dbgStep (w : WaferId)
  /-- CORE_HALTED (R710): A core completes its halt, updating captures and raising HALTED. -/
  | coreHalted (w : WaferId) (f : FieldId) (u : UnitId)
  /-- DBG_REG_WRITE (R715): A DBG_REG_DATA write sets a halted core's register. -/
  | dbgRegWrite (w : WaferId) (v : Word32)
  /-- DBG_MEM_WRITE (R715): Committing DBG_MEM_DATA writes a scratchpad word or instruction. -/
  | dbgMemWrite (w : WaferId) (v : Word)
  /-- DBG_MEM_READ (R715): A DBG_MEM_DATA read returns memory and advances ADDR under AUTOINC. -/
  | dbgMemRead (w : WaferId)
  /-- TRAY_INTERLOCK_OPEN (R741): A withdrawn tray's interlock opens and its IBCs stop. -/
  | trayInterlockOpen (w : WaferId)
  /-- KEEPALIVE_TIMEOUT (R39): No TMC keepalive has arrived for 1.0 s, so NET_MGMT.TMC_SEEN and THM_COOLANT.VALID fall and TMC_LOST is raised. -/
  | keepaliveTimeout (w : WaferId)
  /-- RECTIFIER_MODULE_FAULT (R509): A rectifier module stops being OK, lowering its shelf's rectifier limit so the BBUs supplement and L_AC falls. -/
  | rectifierModuleFault (h : ShelfId) (m : Fin 6)
  /-- FIRMWARE_TRIAL_END (R658): A part started from a TRIAL slot passes or fails its own start check, marking the slot ACTIVE or BAD. -/
  | firmwareTrialEnd (part : Fin 10) (unit : BitVec 12) (pass : Bool)
  /-- MACHINE_CUE_ARM_TIMEOUT (R289): A member wafer has not armed slot 0 within 2 s, so the RMC disarms every armed member with PEER_FAILED. -/
  | machineCueArmTimeout
  /-- INSULATION_FAULT (R508): The insulation monitor in PSH0 detects a busbar fault to ground and reports an alarm without switching anything off. -/
  | insulationFault
  /-- PCIE_LINK_RECOVERY (R587): The link partner takes the PCIe link out of L1 or into Recovery, or the link drops to DOWN, and HIF_LINK_EVENTS counts it. -/
  | pcieLinkRecovery (w : WaferId) (e : PcieEvent)
deriving DecidableEq, Repr

end Sys2Proof
end

