-- ==== Sys2Proof/Decode.lean ====
section
/-!
DEFINITION. Decoding of a command from a word. The table of operations and events gives no row any bits: the machine takes commands, not instruction words
that it decodes, so no word spells one.
-/
namespace Sys2Proof

/-- The command that a word spells by the table's bits: none, for no row of the table has bits. -/
def decodeTableWord (_nbits _w : Nat) : Option Instr := none

end Sys2Proof
end

