-- ==== Sys2Proof/Config.lean ====
section
/-!
DEFINITION. The values the specification leaves open. Each is an opaque constant with no body: nothing can be proved of
it beyond its type, so a statement that holds does so whatever the value is. A value that is fresh each time is the
constant applied to the counter `State.freeCtr`, which the step reads and advances (log entry 3).
-/
namespace Sys2Proof.Config

/-- A fresh open value: applied to the free counter of State (log entry 3). -/
opaque free : Nat → Nat

/-- The serial number fused into the wafer in a slot (ID_SERIAL, R65: reset value "fuse"). -/
opaque serial : Nat → Nat

/-- The result of a scalar operation whose encoding the instruction-set manual defines and this specification does
not (R95): operation code and the two operands. -/
opaque scalarOther : Nat → Nat → Nat → Nat

/-- A general register that nothing has written since the start of the command with this seed (R114). -/
opaque startReg : Nat → Nat → Nat

/-- A scratchpad byte that nothing has written since the start of the command with this seed (R114). -/
opaque startByte : Nat → Nat → Nat

/-- The element that a vector compare writes for two elements (R108 gives the compare, not the form of its result). -/
opaque vecCompare : Bool → Nat → Nat → Nat

/-- Where exp2, reciprocal and reciprocal square root land among the results within 2 ulp: a function of the
operation, the format and the input alone, because every core returns the same bits (R108). -/
opaque vecNudge : Nat → Bool → Nat → Nat

/-- The result of a vector operation on inputs for which R108 states none (a NaN or an infinity, the reciprocal of zero, the
reciprocal square root of a negative number, two zeros of different sign in a minimum). -/
opaque vecSpecial : Nat → Bool → Nat → Nat → Nat

/-- The INT32 result of a conversion from a floating value outside its range or from a NaN (R104 states none). -/
opaque cvtInt : Nat → Nat

end Sys2Proof.Config
end

