-- ==== Sys2Proof/Machine/Bits.lean ====
section
/-!
DEFINITION. Bit fields of words, saturating counts, byte order, and the check codes the specification names: the
CRC-16 of packet headers and time frames (R145), the CRC-32C of payloads and images (R145, R247), CRC-8 of the two-wire bus
(R684) and SHA-256 (R248, R280).
-/
namespace Sys2Proof.Machine

/-- Bits `hi` down to `lo` of a number. -/
def bits (v hi lo : Nat) : Nat := (v >>> lo) % 2 ^ (hi + 1 - lo)

/-- The number with bits `hi` down to `lo` replaced by the low bits of `x`. -/
def putBits (v hi lo x : Nat) : Nat :=
  let n := 2 ^ (hi + 1 - lo)
  v - ((v >>> lo) % n) * 2 ^ lo + (x % n) * 2 ^ lo

/-- Bit `i` of a number as a Boolean. -/
def bitAt (v i : Nat) : Bool := (v >>> i) % 2 == 1

/-- A Boolean as a bit. -/
def b2n (b : Bool) : Nat := if b then 1 else 0

/-- A count plus `n` that saturates at the largest value of `w` bits. -/
def satAdd (w v n : Nat) : Nat := min (v + n) (2 ^ w - 1)

/-- The two's-complement value of the low `w` bits. -/
def toInt (w v : Nat) : Int :=
  let u := v % 2 ^ w
  if u < 2 ^ (w - 1) then (u : Int) else (u : Int) - (2 ^ w : Nat)

/-- The low `w` bits of an integer in two's complement. -/
def ofInt (w : Nat) (x : Int) : Nat := (x % ((2 ^ w : Nat) : Int)).toNat

/-- The `w`-bit complement. -/
def notBits (w v : Nat) : Nat := (2 ^ w - 1) ^^^ (v % 2 ^ w)

/-- The low `n` bytes of a number, least significant first. -/
def leBytes : Nat → Nat → List Nat
  | 0, _ => []
  | n + 1, v => (v % 256) :: leBytes n (v / 256)

/-- The number whose bytes, least significant first, are the list. -/
def ofLeBytes : List Nat → Nat
  | [] => 0
  | b :: r => b % 256 + 256 * ofLeBytes r

/-- The number whose bits, least significant first, are the list. -/
def ofLeBits : List Bool → Nat
  | [] => 0
  | b :: r => b2n b + 2 * ofLeBits r

/-- How many of bits 0 to `n - 1` are set. -/
def popCount : Nat → Nat → Nat
  | 0, _ => 0
  | n + 1, v => v % 2 + popCount n (v / 2)

/-- The least of bits `i`, `i + 1`, … that is set, searching `n` of them. -/
def lowBit? : Nat → Nat → Nat → Option Nat
  | 0, _, _ => none
  | n + 1, v, i => if bitAt v i then some i else lowBit? n v (i + 1)

/-- One bit step of a most-significant-bit-first CRC of width `w`. -/
def crcBitMsb (w poly c : Nat) : Nat :=
  let c2 := (c * 2) % 2 ^ w
  if bitAt c (w - 1) then c2 ^^^ poly else c2

/-- Apply `f` `n` times. -/
def iterate {α : Type} (f : α → α) : Nat → α → α
  | 0, a => a
  | n + 1, a => iterate f n (f a)

/-- A most-significant-bit-first CRC of width `w` over bytes. -/
def crcMsb (w poly : Nat) : Nat → List Nat → Nat
  | c, [] => c
  | c, b :: r => crcMsb w poly (iterate (crcBitMsb w poly) 8 (c ^^^ ((b % 256) <<< (w - 8)))) r

/-- CRC-16 with polynomial 0x1021 from 0xFFFF and no final exclusive or (R145). -/
def crc16 (bs : List Nat) : Nat := crcMsb 16 0x1021 0xFFFF bs

/-- CRC-8 with polynomial 0x07 from 0: the packet error code of the two-wire bus (R684). -/
def crc8 (bs : List Nat) : Nat := crcMsb 8 0x07 0 bs

/-- One bit step of the reflected CRC-32C. -/
def crc32cBit (c : Nat) : Nat := if c % 2 = 1 then (c / 2) ^^^ 0x82F63B78 else c / 2

/-- The running part of CRC-32C. -/
def crc32cRun : Nat → List Nat → Nat
  | c, [] => c
  | c, b :: r => crc32cRun (iterate crc32cBit 8 (c ^^^ (b % 256))) r

/-- CRC-32C (Castagnoli) over bytes (R145, R247). -/
def crc32c (bs : List Nat) : Nat := crc32cRun 0xFFFFFFFF bs ^^^ 0xFFFFFFFF

/-- Rotation right in 32 bits. -/
def rotr32 (v n : Nat) : Nat := (v >>> n) ||| ((v <<< (32 - n)) % 2 ^ 32)

def sha256K : List Nat :=
  [0x428a2f98, 0x71374491, 0xb5c0fbcf, 0xe9b5dba5, 0x3956c25b, 0x59f111f1, 0x923f82a4, 0xab1c5ed5,
   0xd807aa98, 0x12835b01, 0x243185be, 0x550c7dc3, 0x72be5d74, 0x80deb1fe, 0x9bdc06a7, 0xc19bf174,
   0xe49b69c1, 0xefbe4786, 0x0fc19dc6, 0x240ca1cc, 0x2de92c6f, 0x4a7484aa, 0x5cb0a9dc, 0x76f988da,
   0x983e5152, 0xa831c66d, 0xb00327c8, 0xbf597fc7, 0xc6e00bf3, 0xd5a79147, 0x06ca6351, 0x14292967,
   0x27b70a85, 0x2e1b2138, 0x4d2c6dfc, 0x53380d13, 0x650a7354, 0x766a0abb, 0x81c2c92e, 0x92722c85,
   0xa2bfe8a1, 0xa81a664b, 0xc24b8b70, 0xc76c51a3, 0xd192e819, 0xd6990624, 0xf40e3585, 0x106aa070,
   0x19a4c116, 0x1e376c08, 0x2748774c, 0x34b0bcb5, 0x391c0cb3, 0x4ed8aa4a, 0x5b9cca4f, 0x682e6ff3,
   0x748f82ee, 0x78a5636f, 0x84c87814, 0x8cc70208, 0x90befffa, 0xa4506ceb, 0xbef9a3f7, 0xc67178f2]

/-- The SHA-256 working variables. -/
structure ShaVars where
  a : Nat
  b : Nat
  c : Nat
  d : Nat
  e : Nat
  f : Nat
  g : Nat
  h : Nat
deriving DecidableEq, Repr

/-- The SHA-256 message schedule, newest word first: `n` further words. -/
def shaSchedule : Nat → List Nat → List Nat
  | 0, ws => ws
  | n + 1, ws =>
    let w2 := ws.getD 1 0
    let w7 := ws.getD 6 0
    let w15 := ws.getD 14 0
    let w16 := ws.getD 15 0
    let s0 := rotr32 w15 7 ^^^ rotr32 w15 18 ^^^ (w15 >>> 3)
    let s1 := rotr32 w2 17 ^^^ rotr32 w2 19 ^^^ (w2 >>> 10)
    shaSchedule n (((w16 + s0 + w7 + s1) % 2 ^ 32) :: ws)

/-- The rounds of SHA-256 over pairs of schedule word and constant. -/
def shaRounds : List (Nat × Nat) → ShaVars → ShaVars
  | [], v => v
  | (w, k) :: r, v =>
    let s1 := rotr32 v.e 6 ^^^ rotr32 v.e 11 ^^^ rotr32 v.e 25
    let ch := (v.e &&& v.f) ^^^ (notBits 32 v.e &&& v.g)
    let t1 := (v.h + s1 + ch + k + w) % 2 ^ 32
    let s0 := rotr32 v.a 2 ^^^ rotr32 v.a 13 ^^^ rotr32 v.a 22
    let mj := (v.a &&& v.b) ^^^ (v.a &&& v.c) ^^^ (v.b &&& v.c)
    let t2 := (s0 + mj) % 2 ^ 32
    shaRounds r ⟨(t1 + t2) % 2 ^ 32, v.a, v.b, v.c, (v.d + t1) % 2 ^ 32, v.e, v.f, v.g⟩

/-- One 64-byte block of SHA-256. -/
def shaBlock (v : ShaVars) (blk : List Nat) : ShaVars :=
  let word := fun i => ofLeBytes ((blk.drop (4 * i)).take 4).reverse
  let ws := ((List.range 16).map word).reverse
  let sched := (shaSchedule 48 ws).reverse
  let o := shaRounds (sched.zip sha256K) v
  let p := fun x y => (x + y) % 2 ^ 32
  ⟨p v.a o.a, p v.b o.b, p v.c o.c, p v.d o.d, p v.e o.e, p v.f o.f, p v.g o.g, p v.h o.h⟩

/-- SHA-256 over `n` whole blocks. -/
def shaBlocks : Nat → ShaVars → List Nat → ShaVars
  | 0, v, _ => v
  | n + 1, v, bs => shaBlocks n (shaBlock v (bs.take 64)) (bs.drop 64)

/-- The SHA-256 digest of a byte list: 32 bytes (R248, R280). -/
def sha256 (bs : List Nat) : List Nat :=
  let n := bs.length
  let padLen := (119 - n % 64) % 64
  let msg := bs ++ [0x80] ++ List.replicate padLen 0 ++ (leBytes 8 (8 * n)).reverse
  let v := shaBlocks (msg.length / 64)
    ⟨0x6a09e667, 0xbb67ae85, 0x3c6ef372, 0xa54ff53a, 0x510e527f, 0x9b05688c, 0x1f83d9ab, 0x5be0cd19⟩ msg
  [v.a, v.b, v.c, v.d, v.e, v.f, v.g, v.h].flatMap fun x => (leBytes 4 x).reverse

end Sys2Proof.Machine
end

