-- ==== Sys2Proof/Machine/Regs.lean ====
section
/-!
DEFINITION. Every register the specification tabulates: where it lies, which bits have which access type, and the
value of its fields at reset. One constant per register (named as the specification names it) and one per field
(REGISTER_FIELD). The tables are those of the rules named in each docstring.
-/
namespace Sys2Proof.Machine

/-- Which address space a register lies in: a wafer's management window (R40), a B72 chip (R680), a power shelf
(R533) or a CDU (R568). -/
inductive Space where
  | window | chip | shelf | cdu
deriving DecidableEq, Repr

/-- What selects the copy of a banked register that an access reaches: nothing, CQ_SEL, SE_SEL, TEL_SEL, DBG_SEL,
the access path, NET_RT_SEL or NET_SEAT_SEL. -/
inductive Sel where
  | none | queue | sePart | tel | core | path | route | seat
deriving DecidableEq, Repr

/-- One register of the specification's tables. `off` is the offset of its first copy, `dims` the strides and counts of
its array dimensions, and the masks are the bits of each access type of R48. -/
structure Reg where
  id : Nat
  space : Space := .window
  sel : Sel := .none
  off : Nat
  dims : List (Nat × Nat) := []
  wide : Bool := false
  rw : Nat := 0
  st : Nat := 0
  w1c : Nat := 0
  w1s : Nat := 0
  rc : Nat := 0
  wo : Nat := 0
  ro : Nat := 0
  reset : Nat := 0
deriving DecidableEq, Repr

/-- One field of a register: bits `hi` down to `lo`. -/
structure Fld where
  reg : Reg
  hi : Nat
  lo : Nat
deriving DecidableEq, Repr

/-- NET_SELF (R39). -/
def NET_SELF : Reg := { id := 0, off := 0x8F000, ro := 0x3FFF }
def NET_SELF_SLOT : Fld := ⟨NET_SELF, 5, 0⟩
def NET_SELF_TROW : Fld := ⟨NET_SELF, 8, 6⟩
def NET_SELF_TCOL : Fld := ⟨NET_SELF, 11, 9⟩
def NET_SELF_STRAP_BAD : Fld := ⟨NET_SELF, 12, 12⟩
def NET_SELF_HOST_FIELD : Fld := ⟨NET_SELF, 13, 13⟩
/-- NET_MEMBERS_LO (R39). -/
def NET_MEMBERS_LO : Reg := { id := 1, off := 0x8F008, ro := 0xFFFFFFFF }
def NET_MEMBERS_LO_MEMBER : Fld := ⟨NET_MEMBERS_LO, 31, 0⟩
/-- NET_MEMBERS_HI (R39). -/
def NET_MEMBERS_HI : Reg := { id := 2, off := 0x8F00C, ro := 0xF }
def NET_MEMBERS_HI_MEMBER : Fld := ⟨NET_MEMBERS_HI, 3, 0⟩
/-- NET_LINKS_USED (R39). -/
def NET_LINKS_USED : Reg := { id := 3, off := 0x8F010, ro := 0xFFFFF }
def NET_LINKS_USED_PLANE : Fld := ⟨NET_LINKS_USED, 15, 0⟩
def NET_LINKS_USED_SIDE_N : Fld := ⟨NET_LINKS_USED, 16, 16⟩
def NET_LINKS_USED_SIDE_E : Fld := ⟨NET_LINKS_USED, 17, 17⟩
def NET_LINKS_USED_SIDE_S : Fld := ⟨NET_LINKS_USED, 18, 18⟩
def NET_LINKS_USED_SIDE_W : Fld := ⟨NET_LINKS_USED, 19, 19⟩
/-- NET_MGMT (R39). -/
def NET_MGMT : Reg := { id := 4, off := 0x8F014, ro := 0xFFFF007F, reset := 0x40 }
def NET_MGMT_RMC0_SEEN : Fld := ⟨NET_MGMT, 0, 0⟩
def NET_MGMT_RMC1_SEEN : Fld := ⟨NET_MGMT, 1, 1⟩
def NET_MGMT_ACTIVE_RMC : Fld := ⟨NET_MGMT, 2, 2⟩
def NET_MGMT_TMC_SEEN : Fld := ⟨NET_MGMT, 3, 3⟩
def NET_MGMT_PLANNER_OK : Fld := ⟨NET_MGMT, 4, 4⟩
def NET_MGMT_STATIC_CAP : Fld := ⟨NET_MGMT, 5, 5⟩
def NET_MGMT_REHEARSAL_STATUS : Fld := ⟨NET_MGMT, 6, 6⟩
def NET_MGMT_PLANNER_LOSS_COUNT : Fld := ⟨NET_MGMT, 31, 16⟩
/-- ID_CHIP (R65). -/
def ID_CHIP : Reg := { id := 5, off := 0x0, ro := 0xFFFFFF, reset := 0x14652 }
def ID_CHIP_PART : Fld := ⟨ID_CHIP, 15, 0⟩
def ID_CHIP_STEP_MAJOR : Fld := ⟨ID_CHIP, 19, 16⟩
def ID_CHIP_STEP_MINOR : Fld := ⟨ID_CHIP, 23, 20⟩
/-- ID_SMC_FW (R65). -/
def ID_SMC_FW : Reg := { id := 6, off := 0x4, ro := 0xFFFFFFFF }
def ID_SMC_FW_PATCH : Fld := ⟨ID_SMC_FW, 15, 0⟩
def ID_SMC_FW_MINOR : Fld := ⟨ID_SMC_FW, 23, 16⟩
def ID_SMC_FW_MAJOR : Fld := ⟨ID_SMC_FW, 31, 24⟩
/-- ID_SERIAL (R65). -/
def ID_SERIAL : Reg := { id := 7, off := 0x8, wide := true, ro := 0xFFFFFFFFFFFFFFFF }
def ID_SERIAL_SERIAL : Fld := ⟨ID_SERIAL, 63, 0⟩
/-- ID_WINCTL (R65). -/
def ID_WINCTL : Reg := { id := 8, sel := .path, off := 0x100, rw := 0x1, ro := 0x70 }
def ID_WINCTL_WINGS_VIEW : Fld := ⟨ID_WINCTL, 0, 0⟩
def ID_WINCTL_PATH : Fld := ⟨ID_WINCTL, 6, 4⟩
/-- ID_ERR_STAT (R65). -/
def ID_ERR_STAT : Reg := { id := 9, off := 0x110, w1c := 0x1, ro := 0xFFFF0FF0 }
def ID_ERR_STAT_VALID : Fld := ⟨ID_ERR_STAT, 0, 0⟩
def ID_ERR_STAT_KIND : Fld := ⟨ID_ERR_STAT, 7, 4⟩
def ID_ERR_STAT_PATH : Fld := ⟨ID_ERR_STAT, 10, 8⟩
def ID_ERR_STAT_WRITE : Fld := ⟨ID_ERR_STAT, 11, 11⟩
def ID_ERR_STAT_COUNT : Fld := ⟨ID_ERR_STAT, 31, 16⟩
/-- ID_ERR_ADDR (R65). -/
def ID_ERR_ADDR : Reg := { id := 10, off := 0x114, ro := 0xFFFFFF }
def ID_ERR_ADDR_OFFSET : Fld := ⟨ID_ERR_ADDR, 23, 0⟩
/-- ID_STRUCT_TAG (R65). -/
def ID_STRUCT_TAG : Reg := { id := 11, off := 0x120, st := 0xFFFFFFFF }
def ID_STRUCT_TAG_TAG : Fld := ⟨ID_STRUCT_TAG, 31, 0⟩
/-- ID_JRNL_NEXT (R65). -/
def ID_JRNL_NEXT : Reg := { id := 12, off := 0x200, wide := true, ro := 0xFFFFFFFFFFFFFFFF }
def ID_JRNL_NEXT_SEQ : Fld := ⟨ID_JRNL_NEXT, 63, 0⟩
/-- ID_JRNL_OLDEST (R65). -/
def ID_JRNL_OLDEST : Reg := { id := 13, off := 0x208, wide := true, ro := 0xFFFFFFFFFFFFFFFF }
def ID_JRNL_OLDEST_SEQ : Fld := ⟨ID_JRNL_OLDEST, 63, 0⟩
/-- ID_JRNL_STAT (R65). -/
def ID_JRNL_STAT : Reg := { id := 14, off := 0x210, ro := 0xFFFF1FFF }
def ID_JRNL_STAT_UNSPILLED : Fld := ⟨ID_JRNL_STAT, 12, 0⟩
def ID_JRNL_STAT_LOST : Fld := ⟨ID_JRNL_STAT, 31, 16⟩
/-- ID_JRNL_SEL (R65). -/
def ID_JRNL_SEL : Reg := { id := 15, off := 0x218, wide := true, rw := 0xFFFFFFFFFFFFFFFF }
def ID_JRNL_SEL_SEQ : Fld := ⟨ID_JRNL_SEL, 63, 0⟩
/-- ID_JRNL_FETCH (R65). -/
def ID_JRNL_FETCH : Reg := { id := 16, off := 0x220, ro := 0x31 }
def ID_JRNL_FETCH_BUSY : Fld := ⟨ID_JRNL_FETCH, 0, 0⟩
def ID_JRNL_FETCH_RESULT : Fld := ⟨ID_JRNL_FETCH, 5, 4⟩
/-- ID_JRNL_ENTRY (R65). -/
def ID_JRNL_ENTRY : Reg := { id := 17, off := 0x240, dims := [(0x4, 16)], ro := 0xFFFFFFFF }
def ID_JRNL_ENTRY_WORD : Fld := ⟨ID_JRNL_ENTRY, 31, 0⟩
/-- PWR_OPPOINT (R93). -/
def PWR_OPPOINT : Reg := { id := 18, off := 0x40100, st := 0x3, reset := 0x1 }
def PWR_OPPOINT_POINT : Fld := ⟨PWR_OPPOINT, 1, 0⟩
/-- PWR_OPP_STAT (R93). -/
def PWR_OPP_STAT : Reg := { id := 19, off := 0x40104, ro := 0x1FF13, reset := 0x1 }
def PWR_OPP_STAT_POINT : Fld := ⟨PWR_OPP_STAT, 1, 0⟩
def PWR_OPP_STAT_IN_TRANSITION : Fld := ⟨PWR_OPP_STAT, 4, 4⟩
def PWR_OPP_STAT_TRIM_LIMITED : Fld := ⟨PWR_OPP_STAT, 16, 8⟩
/-- PWR_GATE_EVENTS (R93). -/
def PWR_GATE_EVENTS : Reg := { id := 20, off := 0x40108, rc := 0xFFFFFFFF }
def PWR_GATE_EVENTS_COUNT : Fld := ⟨PWR_GATE_EVENTS, 31, 0⟩
/-- PWR_QTRIM (R93). -/
def PWR_QTRIM : Reg := { id := 21, off := 0x41000, dims := [(0x4, 288)], ro := 0xFFFFFFF }
def PWR_QTRIM_TRIM_L : Fld := ⟨PWR_QTRIM, 7, 0⟩
def PWR_QTRIM_TRIM_N : Fld := ⟨PWR_QTRIM, 15, 8⟩
def PWR_QTRIM_TRIM_H : Fld := ⟨PWR_QTRIM, 23, 16⟩
def PWR_QTRIM_LIM_L : Fld := ⟨PWR_QTRIM, 24, 24⟩
def PWR_QTRIM_LIM_N : Fld := ⟨PWR_QTRIM, 25, 25⟩
def PWR_QTRIM_LIM_H : Fld := ⟨PWR_QTRIM, 26, 26⟩
def PWR_QTRIM_CAL_FAIL : Fld := ⟨PWR_QTRIM, 27, 27⟩
/-- PWR_QRATE (R93). -/
def PWR_QRATE : Reg := { id := 22, off := 0x42000, dims := [(0x4, 288)], ro := 0x1FFFF }
def PWR_QRATE_RATE : Fld := ⟨PWR_QRATE, 15, 0⟩
def PWR_QRATE_GATED : Fld := ⟨PWR_QRATE, 16, 16⟩
/-- CORE_MODE (R135). -/
def CORE_MODE : Reg := { id := 23, off := 0x218000, dims := [(0x20000, 72)], st := 0x3F3, reset := 0x82 }
def CORE_MODE_ARRAY : Fld := ⟨CORE_MODE, 0, 0⟩
def CORE_MODE_SAT : Fld := ⟨CORE_MODE, 1, 1⟩
def CORE_MODE_STEAL_RADIUS : Fld := ⟨CORE_MODE, 9, 4⟩
/-- CORE_FAULT (R135). -/
def CORE_FAULT : Reg := { id := 24, off := 0x218004, dims := [(0x20000, 72)], w1c := 0x1, ro := 0xFF03FFF0 }
def CORE_FAULT_VALID : Fld := ⟨CORE_FAULT, 0, 0⟩
def CORE_FAULT_CAUSE : Fld := ⟨CORE_FAULT, 7, 4⟩
def CORE_FAULT_UNIT : Fld := ⟨CORE_FAULT, 17, 8⟩
def CORE_FAULT_COUNT : Fld := ⟨CORE_FAULT, 31, 24⟩
/-- CORE_CB_PEAK (R135). -/
def CORE_CB_PEAK : Reg := { id := 25, off := 0x218008, dims := [(0x20000, 72)], rc := 0x7FFFFFF }
def CORE_CB_PEAK_WRITES : Fld := ⟨CORE_CB_PEAK, 9, 0⟩
def CORE_CB_PEAK_ATOMICS : Fld := ⟨CORE_CB_PEAK, 16, 10⟩
def CORE_CB_PEAK_BYTES64 : Fld := ⟨CORE_CB_PEAK, 26, 17⟩
/-- CORE_BANK_WAIT (R135). -/
def CORE_BANK_WAIT : Reg := { id := 26, off := 0x21800C, dims := [(0x20000, 72)], rc := 0xFFFFFFFF }
def CORE_BANK_WAIT_COUNT : Fld := ⟨CORE_BANK_WAIT, 31, 0⟩
/-- CORE_STEAL_OK (R135). -/
def CORE_STEAL_OK : Reg := { id := 27, off := 0x218010, dims := [(0x20000, 72)], rc := 0xFFFFFFFF }
def CORE_STEAL_OK_COUNT : Fld := ⟨CORE_STEAL_OK, 31, 0⟩
/-- CORE_STEAL_MISS (R135). -/
def CORE_STEAL_MISS : Reg := { id := 28, off := 0x218014, dims := [(0x20000, 72)], rc := 0xFFFFFFFF }
def CORE_STEAL_MISS_COUNT : Fld := ⟨CORE_STEAL_MISS, 31, 0⟩
/-- CORE_ECC_CORR (R135). -/
def CORE_ECC_CORR : Reg := { id := 29, off := 0x218018, dims := [(0x20000, 72)], rc := 0xFFFFFFFF }
def CORE_ECC_CORR_COUNT : Fld := ⟨CORE_ECC_CORR, 31, 0⟩
/-- CORE_STAT (R135). -/
def CORE_STAT : Reg := { id := 30, off := 0x219000, dims := [(0x20000, 72), (0x4, 600)], ro := 0x3FFFFFF7 }
def CORE_STAT_STATE : Fld := ⟨CORE_STAT, 2, 0⟩
def CORE_STAT_CB_WRITES : Fld := ⟨CORE_STAT, 13, 4⟩
def CORE_STAT_CB_ATOMICS : Fld := ⟨CORE_STAT, 20, 14⟩
def CORE_STAT_DEQ_TOTAL : Fld := ⟨CORE_STAT, 29, 21⟩
/-- CORE_TOKENS (R135). -/
def CORE_TOKENS : Reg := { id := 31, off := 0x21A000, dims := [(0x20000, 72), (0x8, 600)], wide := true, ro := 0xFFFFFFFFFFFFFFFF }
def CORE_TOKENS_COUNT : Fld := ⟨CORE_TOKENS, 63, 0⟩
/-- NET_ARB (R169). -/
def NET_ARB : Reg := { id := 32, off := 0x8E000, st := 0x3FFF, reset := 0x1124 }
def NET_ARB_RESP_W : Fld := ⟨NET_ARB, 3, 0⟩
def NET_ARB_REQ_W : Fld := ⟨NET_ARB, 7, 4⟩
def NET_ARB_BULK_W : Fld := ⟨NET_ARB, 11, 8⟩
def NET_ARB_MGMT_SHARE : Fld := ⟨NET_ARB, 13, 12⟩
/-- NET_INJ_AGE (R169). -/
def NET_INJ_AGE : Reg := { id := 33, off := 0x8E004, st := 0xFF, reset := 0xA }
def NET_INJ_AGE_AGE_US : Fld := ⟨NET_INJ_AGE, 7, 0⟩
/-- NET_DROP_WAFER (R169). -/
def NET_DROP_WAFER : Reg := { id := 34, off := 0x8E010, rc := 0xFFFFFFFF }
def NET_DROP_WAFER_COUNT : Fld := ⟨NET_DROP_WAFER, 31, 0⟩
/-- SPN_STAT (R170). -/
def SPN_STAT : Reg := { id := 35, off := 0x21C000, dims := [(0x20000, 72)], ro := 0xFFFFF0F }
def SPN_STAT_ON : Fld := ⟨SPN_STAT, 0, 0⟩
def SPN_STAT_GATED : Fld := ⟨SPN_STAT, 1, 1⟩
def SPN_STAT_ACT_STAMP : Fld := ⟨SPN_STAT, 2, 2⟩
def SPN_STAT_HOST_BRIDGE : Fld := ⟨SPN_STAT, 3, 3⟩
def SPN_STAT_ROOT_PORTS : Fld := ⟨SPN_STAT, 27, 8⟩
/-- SPN_DROP (R170). -/
def SPN_DROP : Reg := { id := 36, off := 0x21C004, dims := [(0x20000, 72)], rc := 0xFFFFFFFF }
def SPN_DROP_CRC : Fld := ⟨SPN_DROP, 7, 0⟩
def SPN_DROP_ECC : Fld := ⟨SPN_DROP, 15, 8⟩
def SPN_DROP_NOROUTE : Fld := ⟨SPN_DROP, 23, 16⟩
def SPN_DROP_PORT_DOWN : Fld := ⟨SPN_DROP, 31, 24⟩
/-- SPN_DROP_CAP (R170). -/
def SPN_DROP_CAP : Reg := { id := 37, off := 0x21C008, dims := [(0x20000, 72)], w1c := 0x80000000, ro := 0x3FFFFFF }
def SPN_DROP_CAP_DEST : Fld := ⟨SPN_DROP_CAP, 22, 0⟩
def SPN_DROP_CAP_ACT : Fld := ⟨SPN_DROP_CAP, 23, 23⟩
def SPN_DROP_CAP_REASON : Fld := ⟨SPN_DROP_CAP, 25, 24⟩
def SPN_DROP_CAP_VALID : Fld := ⟨SPN_DROP_CAP, 31, 31⟩
/-- SPN_ECC_CORR (R170). -/
def SPN_ECC_CORR : Reg := { id := 38, off := 0x21C00C, dims := [(0x20000, 72)], rc := 0xFFFFFFFF }
def SPN_ECC_CORR_COUNT : Fld := ⟨SPN_ECC_CORR, 31, 0⟩
/-- SPN_FLITS (R170). -/
def SPN_FLITS : Reg := { id := 39, off := 0x21C010, dims := [(0x20000, 72), (0x8, 4)], wide := true, ro := 0xFFFFFFFFFFFFFFFF }
def SPN_FLITS_COUNT : Fld := ⟨SPN_FLITS, 63, 0⟩
/-- SPN_STARVE (R170). -/
def SPN_STARVE : Reg := { id := 40, off := 0x21C030, dims := [(0x20000, 72)], rc := 0xFFFFFFFF }
def SPN_STARVE_ROUTER : Fld := ⟨SPN_STARVE, 15, 0⟩
def SPN_STARVE_INJECT : Fld := ⟨SPN_STARVE, 31, 16⟩
/-- LNK_STAT (R208). -/
def LNK_STAT : Reg := { id := 41, off := 0x90000, dims := [(0x1000, 20)], ro := 0xFFFF001F }
def LNK_STAT_STATE : Fld := ⟨LNK_STAT, 2, 0⟩
def LNK_STAT_MISCABLED : Fld := ⟨LNK_STAT, 3, 3⟩
def LNK_STAT_HALF : Fld := ⟨LNK_STAT, 4, 4⟩
def LNK_STAT_LANE_OK : Fld := ⟨LNK_STAT, 31, 16⟩
/-- LNK_PEER (R208). -/
def LNK_PEER : Reg := { id := 42, off := 0x90004, dims := [(0x1000, 20)], ro := 0x7FFFF }
def LNK_PEER_KIND : Fld := ⟨LNK_PEER, 1, 0⟩
def LNK_PEER_ID : Fld := ⟨LNK_PEER, 7, 2⟩
def LNK_PEER_PORT : Fld := ⟨LNK_PEER, 14, 8⟩
def LNK_PEER_MACHINE : Fld := ⟨LNK_PEER, 18, 15⟩
/-- LNK_CFG (R208). -/
def LNK_CFG : Reg := { id := 43, off := 0x90008, dims := [(0x1000, 20)], rw := 0xFFF3, reset := 0x6462 }
def LNK_CFG_ADMIN_DOWN : Fld := ⟨LNK_CFG, 0, 0⟩
def LNK_CFG_DEGRADE_EN : Fld := ⟨LNK_CFG, 1, 1⟩
def LNK_CFG_LANE_BER_EXP : Fld := ⟨LNK_CFG, 7, 4⟩
def LNK_CFG_RECAL_MAX_MS : Fld := ⟨LNK_CFG, 15, 8⟩
/-- LNK_FEC_CORR (R208). -/
def LNK_FEC_CORR : Reg := { id := 44, off := 0x90010, dims := [(0x1000, 20)], rc := 0xFFFFFFFF }
def LNK_FEC_CORR_COUNT : Fld := ⟨LNK_FEC_CORR, 31, 0⟩
/-- LNK_FEC_BAD (R208). -/
def LNK_FEC_BAD : Reg := { id := 45, off := 0x90014, dims := [(0x1000, 20)], rc := 0xFFFFFFFF }
def LNK_FEC_BAD_COUNT : Fld := ⟨LNK_FEC_BAD, 31, 0⟩
/-- LNK_RETRY (R208). -/
def LNK_RETRY : Reg := { id := 46, off := 0x90018, dims := [(0x1000, 20)], rc := 0xFFFFFFFF }
def LNK_RETRY_NAKS_SENT : Fld := ⟨LNK_RETRY, 15, 0⟩
def LNK_RETRY_REPLAYS : Fld := ⟨LNK_RETRY, 31, 16⟩
/-- LNK_EVENTS (R208). -/
def LNK_EVENTS : Reg := { id := 47, off := 0x9001C, dims := [(0x1000, 20)], rc := 0xFFFFFFFF }
def LNK_EVENTS_DEGRADES : Fld := ⟨LNK_EVENTS, 7, 0⟩
def LNK_EVENTS_FAULTS : Fld := ⟨LNK_EVENTS, 15, 8⟩
def LNK_EVENTS_RECAL_FORCED : Fld := ⟨LNK_EVENTS, 23, 16⟩
def LNK_EVENTS_RECAL_DONE : Fld := ⟨LNK_EVENTS, 31, 24⟩
/-- LNK_LANE_CORR (R208). -/
def LNK_LANE_CORR : Reg := { id := 48, off := 0x90040, dims := [(0x1000, 20), (0x4, 16)], rc := 0xFFFFFFFF }
def LNK_LANE_CORR_COUNT : Fld := ⟨LNK_LANE_CORR, 31, 0⟩
/-- TRN_CFG (R209). -/
def TRN_CFG : Reg := { id := 49, off := 0x8D000, st := 0x7FFFF, reset := 0x40804 }
def TRN_CFG_RTO_US : Fld := ⟨TRN_CFG, 7, 0⟩
def TRN_CFG_RETRY_MAX : Fld := ⟨TRN_CFG, 11, 8⟩
def TRN_CFG_WINDOW : Fld := ⟨TRN_CFG, 18, 12⟩
/-- TRN_RETX (R209). -/
def TRN_RETX : Reg := { id := 50, off := 0x8D010, rc := 0xFFFFFFFF }
def TRN_RETX_COUNT : Fld := ⟨TRN_RETX, 31, 0⟩
/-- TRN_DUP (R209). -/
def TRN_DUP : Reg := { id := 51, off := 0x8D014, rc := 0xFFFFFFFF }
def TRN_DUP_COUNT : Fld := ⟨TRN_DUP, 31, 0⟩
/-- TRN_REORDER (R209). -/
def TRN_REORDER : Reg := { id := 52, off := 0x8D018, rc := 0xFFFFFFFF }
def TRN_REORDER_COUNT : Fld := ⟨TRN_REORDER, 31, 0⟩
/-- TRN_ATOM_REPLAY (R209). -/
def TRN_ATOM_REPLAY : Reg := { id := 53, off := 0x8D01C, rc := 0xFFFFFFFF }
def TRN_ATOM_REPLAY_COUNT : Fld := ⟨TRN_ATOM_REPLAY, 31, 0⟩
/-- TRN_FAIL (R209). -/
def TRN_FAIL : Reg := { id := 54, off := 0x8D020, w1c := 0x80000000, ro := 0x3FFFF }
def TRN_FAIL_DEST_NI : Fld := ⟨TRN_FAIL, 12, 0⟩
def TRN_FAIL_CLASS : Fld := ⟨TRN_FAIL, 14, 13⟩
def TRN_FAIL_REASON : Fld := ⟨TRN_FAIL, 17, 15⟩
def TRN_FAIL_VALID : Fld := ⟨TRN_FAIL, 31, 31⟩
/-- NET_ACT_STAT (R239). -/
def NET_ACT_STAT : Reg := { id := 55, off := 0x80000, ro := 0xFFFF1771 }
def NET_ACT_STAT_STAMP : Fld := ⟨NET_ACT_STAT, 0, 0⟩
def NET_ACT_STAT_A_STATE : Fld := ⟨NET_ACT_STAT, 6, 4⟩
def NET_ACT_STAT_B_STATE : Fld := ⟨NET_ACT_STAT, 10, 8⟩
def NET_ACT_STAT_LOCAL_QUIET : Fld := ⟨NET_ACT_STAT, 12, 12⟩
def NET_ACT_STAT_LAST_DRAIN_US : Fld := ⟨NET_ACT_STAT, 31, 16⟩
/-- NET_ACT_STAMP (R239). -/
def NET_ACT_STAMP : Reg := { id := 56, off := 0x80004, st := 0x1 }
def NET_ACT_STAMP_STAMP : Fld := ⟨NET_ACT_STAMP, 0, 0⟩
/-- NET_ACT_GEN (R239). -/
def NET_ACT_GEN : Reg := { id := 57, off := 0x80008, st := 0xFFFFFFFF }
def NET_ACT_GEN_GEN : Fld := ⟨NET_ACT_GEN, 31, 0⟩
/-- NET_ACT_DRAIN (R239). -/
def NET_ACT_DRAIN : Reg := { id := 58, off := 0x8000C, rw := 0xFF0000, ro := 0xFFFF, reset := 0xA0000 }
def NET_ACT_DRAIN_LPATH_NS : Fld := ⟨NET_ACT_DRAIN, 15, 0⟩
def NET_ACT_DRAIN_DRAIN_MAX_MS : Fld := ⟨NET_ACT_DRAIN, 23, 16⟩
/-- NET_ACT_APPLY_TIME (R239). -/
def NET_ACT_APPLY_TIME : Reg := { id := 59, off := 0x80010, wide := true, ro := 0xFFFFFFFFFFFFFFFF }
def NET_ACT_APPLY_TIME_TIME : Fld := ⟨NET_ACT_APPLY_TIME, 63, 0⟩
/-- NET_ACT_FREE_TIME (R239). -/
def NET_ACT_FREE_TIME : Reg := { id := 60, off := 0x80018, wide := true, ro := 0xFFFFFFFFFFFFFFFF }
def NET_ACT_FREE_TIME_TIME : Fld := ⟨NET_ACT_FREE_TIME, 63, 0⟩
/-- NET_RT_SEL (R239). -/
def NET_RT_SEL : Reg := { id := 61, off := 0x80100, rw := 0xFFFFFF }
def NET_RT_SEL_KIND : Fld := ⟨NET_RT_SEL, 2, 0⟩
def NET_RT_SEL_ACT : Fld := ⟨NET_RT_SEL, 3, 3⟩
def NET_RT_SEL_FIELD : Fld := ⟨NET_RT_SEL, 10, 4⟩
def NET_RT_SEL_INDEX : Fld := ⟨NET_RT_SEL, 23, 11⟩
/-- NET_RT_DATA (R239). -/
def NET_RT_DATA : Reg := { id := 62, sel := .route, off := 0x80108, wide := true, rw := 0xFFFFFFFFFFFFFFFF }
def NET_RT_DATA_ENTRY : Fld := ⟨NET_RT_DATA, 63, 0⟩
/-- NET_SEAT_SEL (R239). -/
def NET_SEAT_SEL : Reg := { id := 63, off := 0x80200, rw := 0xFFFFFF }
def NET_SEAT_SEL_PART : Fld := ⟨NET_SEAT_SEL, 8, 0⟩
def NET_SEAT_SEL_HDR : Fld := ⟨NET_SEAT_SEL, 9, 9⟩
def NET_SEAT_SEL_INDEX : Fld := ⟨NET_SEAT_SEL, 23, 10⟩
/-- NET_SEAT_DATA (R239). -/
def NET_SEAT_DATA : Reg := { id := 64, sel := .seat, off := 0x80208, wide := true, st := 0xFFFFFFFFFFFFFFFF }
def NET_SEAT_DATA_ENTRY : Fld := ⟨NET_SEAT_DATA, 63, 0⟩
/-- IMG_SRC_OFF (R272). -/
def IMG_SRC_OFF : Reg := { id := 65, off := 0x28000, wide := true, rw := 0xFFFFFFFFFFFFFFFF }
def IMG_SRC_OFF_OFFSET : Fld := ⟨IMG_SRC_OFF, 63, 0⟩
/-- IMG_LEN (R272). -/
def IMG_LEN : Reg := { id := 66, off := 0x28008, rw := 0xFFFFFFFF }
def IMG_LEN_LEN : Fld := ⟨IMG_LEN, 31, 0⟩
/-- IMG_CTL (R272). -/
def IMG_CTL : Reg := { id := 67, off := 0x2800C, rw := 0x7FF7F, wo := 0x3000000 }
def IMG_CTL_FIELD : Fld := ⟨IMG_CTL, 6, 0⟩
def IMG_CTL_SCOPE : Fld := ⟨IMG_CTL, 8, 8⟩
def IMG_CTL_PART : Fld := ⟨IMG_CTL, 17, 9⟩
def IMG_CTL_AUTO_CUE : Fld := ⟨IMG_CTL, 18, 18⟩
def IMG_CTL_START : Fld := ⟨IMG_CTL, 24, 24⟩
def IMG_CTL_ABORT : Fld := ⟨IMG_CTL, 25, 25⟩
/-- IMG_STAT (R272). -/
def IMG_STAT : Reg := { id := 68, off := 0x28010, ro := 0xF7FFF }
def IMG_STAT_STATE : Fld := ⟨IMG_STAT, 3, 0⟩
def IMG_STAT_ERR : Fld := ⟨IMG_STAT, 8, 4⟩
def IMG_STAT_SECTION : Fld := ⟨IMG_STAT, 14, 9⟩
def IMG_STAT_STEP : Fld := ⟨IMG_STAT, 19, 16⟩
/-- IMG_OBJECTS (R272). -/
def IMG_OBJECTS : Reg := { id := 69, off := 0x28014, ro := 0x7F1FFF }
def IMG_OBJECTS_OBJECTS : Fld := ⟨IMG_OBJECTS, 12, 0⟩
def IMG_OBJECTS_SECTIONS : Fld := ⟨IMG_OBJECTS, 22, 16⟩
/-- IMG_FAIL_OFF (R272). -/
def IMG_FAIL_OFF : Reg := { id := 70, off := 0x28018, wide := true, ro := 0xFFFFFFFFFFFFFFFF }
def IMG_FAIL_OFF_OFFSET : Fld := ⟨IMG_FAIL_OFF, 63, 0⟩
/-- IMG_ELAPSED (R272). -/
def IMG_ELAPSED : Reg := { id := 71, off := 0x28020, ro := 0xFFFFFFFF }
def IMG_ELAPSED_US : Fld := ⟨IMG_ELAPSED, 31, 0⟩
/-- IMG_TAG (R272). -/
def IMG_TAG : Reg := { id := 72, off := 0x28024, ro := 0xFFFFFFFF }
def IMG_TAG_TAG : Fld := ⟨IMG_TAG, 31, 0⟩
/-- IMG_DIGEST (R272). -/
def IMG_DIGEST : Reg := { id := 73, off := 0x28040, dims := [(0x4, 8)], ro := 0xFFFFFFFF }
def IMG_DIGEST_WORD : Fld := ⟨IMG_DIGEST, 31, 0⟩
/-- IMG_PUSH_DST (R273). -/
def IMG_PUSH_DST : Reg := { id := 74, off := 0x28080, wide := true, rw := 0xFFFFFFFFF }
def IMG_PUSH_DST_SLOTS : Fld := ⟨IMG_PUSH_DST, 35, 0⟩
/-- IMG_PUSH_OFF (R273). -/
def IMG_PUSH_OFF : Reg := { id := 75, off := 0x28088, wide := true, rw := 0xFFFFFFFFFFFFFFFF }
def IMG_PUSH_OFF_OFFSET : Fld := ⟨IMG_PUSH_OFF, 63, 0⟩
/-- IMG_PUSH_CTL (R273). -/
def IMG_PUSH_CTL : Reg := { id := 76, off := 0x28090, rw := 0x7F, wo := 0x3000000 }
def IMG_PUSH_CTL_DST_FIELD : Fld := ⟨IMG_PUSH_CTL, 6, 0⟩
def IMG_PUSH_CTL_START : Fld := ⟨IMG_PUSH_CTL, 24, 24⟩
def IMG_PUSH_CTL_ABORT : Fld := ⟨IMG_PUSH_CTL, 25, 25⟩
/-- IMG_PUSH_STAT (R273). -/
def IMG_PUSH_STAT : Reg := { id := 77, off := 0x28094, ro := 0x3 }
def IMG_PUSH_STAT_STATE : Fld := ⟨IMG_PUSH_STAT, 1, 0⟩
/-- IMG_PUSH_FAILED (R273). -/
def IMG_PUSH_FAILED : Reg := { id := 78, off := 0x28098, wide := true, ro := 0xFFFFFFFFF }
def IMG_PUSH_FAILED_SLOTS : Fld := ⟨IMG_PUSH_FAILED, 35, 0⟩
/-- CUE_CTRL (R300). -/
def CUE_CTRL : Reg := { id := 79, off := 0x20000, rw := 0xFF00FFF7, wo := 0x30000 }
def CUE_CTRL_SLOT : Fld := ⟨CUE_CTRL, 2, 0⟩
def CUE_CTRL_SCOPE : Fld := ⟨CUE_CTRL, 5, 4⟩
def CUE_CTRL_PART : Fld := ⟨CUE_CTRL, 14, 6⟩
def CUE_CTRL_SCHED : Fld := ⟨CUE_CTRL, 15, 15⟩
def CUE_CTRL_START : Fld := ⟨CUE_CTRL, 16, 16⟩
def CUE_CTRL_DISARM : Fld := ⟨CUE_CTRL, 17, 17⟩
def CUE_CTRL_RULE : Fld := ⟨CUE_CTRL, 31, 24⟩
/-- CUE_TIME (R300). -/
def CUE_TIME : Reg := { id := 80, off := 0x20008, wide := true, rw := 0xFFFFFFFFFFFFFFFF }
def CUE_TIME_TIME : Fld := ⟨CUE_TIME, 63, 0⟩
/-- CUE_MID (R300). -/
def CUE_MID : Reg := { id := 81, off := 0x20010, rw := 0xFFFFFFFF }
def CUE_MID_MID : Fld := ⟨CUE_MID, 31, 0⟩
/-- CUE_DUP (R300). -/
def CUE_DUP : Reg := { id := 82, off := 0x20014, rc := 0xFFFFFFFF }
def CUE_DUP_COUNT : Fld := ⟨CUE_DUP, 31, 0⟩
/-- CUE_DIGEST_SEL (R300). -/
def CUE_DIGEST_SEL : Reg := { id := 83, off := 0x20018, rw := 0x1FF }
def CUE_DIGEST_SEL_PART : Fld := ⟨CUE_DIGEST_SEL, 8, 0⟩
/-- CUE_DIGEST (R300). -/
def CUE_DIGEST : Reg := { id := 84, off := 0x20020, wide := true, ro := 0xFFFFFFFFFFFFFFFF }
def CUE_DIGEST_DIGEST : Fld := ⟨CUE_DIGEST, 63, 0⟩
/-- CUE_SSTAT (R300). -/
def CUE_SSTAT : Reg := { id := 85, off := 0x20100, dims := [(0x40, 8)], ro := 0x3FFFF7 }
def CUE_SSTAT_STATE : Fld := ⟨CUE_SSTAT, 2, 0⟩
def CUE_SSTAT_SCOPE : Fld := ⟨CUE_SSTAT, 5, 4⟩
def CUE_SSTAT_PART : Fld := ⟨CUE_SSTAT, 14, 6⟩
def CUE_SSTAT_SCHED : Fld := ⟨CUE_SSTAT, 15, 15⟩
def CUE_SSTAT_SOURCE : Fld := ⟨CUE_SSTAT, 17, 16⟩
def CUE_SSTAT_DISARM_WHY : Fld := ⟨CUE_SSTAT, 21, 18⟩
/-- CUE_SFAIL (R300). -/
def CUE_SFAIL : Reg := { id := 86, off := 0x20104, dims := [(0x40, 8)], ro := 0x1FFF0FFF }
def CUE_SFAIL_RULE : Fld := ⟨CUE_SFAIL, 7, 0⟩
def CUE_SFAIL_OBJ_KIND : Fld := ⟨CUE_SFAIL, 11, 8⟩
def CUE_SFAIL_OBJECTS : Fld := ⟨CUE_SFAIL, 28, 16⟩
/-- CUE_SOBJ (R300). -/
def CUE_SOBJ : Reg := { id := 87, off := 0x20108, dims := [(0x40, 8)], ro := 0xFFFFFFFF }
def CUE_SOBJ_ID : Fld := ⟨CUE_SOBJ, 31, 0⟩
/-- CUE_SUS (R300). -/
def CUE_SUS : Reg := { id := 88, off := 0x2010C, dims := [(0x40, 8)], ro := 0xFFFFFFFF }
def CUE_SUS_US : Fld := ⟨CUE_SUS, 31, 0⟩
/-- CUE_STIME (R300). -/
def CUE_STIME : Reg := { id := 89, off := 0x20110, dims := [(0x40, 8)], wide := true, ro := 0xFFFFFFFFFFFFFFFF }
def CUE_STIME_TIME : Fld := ⟨CUE_STIME, 63, 0⟩
/-- CUE_SJSEQ (R300). -/
def CUE_SJSEQ : Reg := { id := 90, off := 0x20118, dims := [(0x40, 8)], wide := true, ro := 0xFFFFFFFFFFFFFFFF }
def CUE_SJSEQ_SEQ : Fld := ⟨CUE_SJSEQ, 63, 0⟩
/-- BUP_STAT (R337). -/
def BUP_STAT : Reg := { id := 91, off := 0x30000, ro := 0x1FF7FF }
def BUP_STAT_READY : Fld := ⟨BUP_STAT, 4, 0⟩
def BUP_STAT_PHASE : Fld := ⟨BUP_STAT, 7, 5⟩
def BUP_STAT_HOST : Fld := ⟨BUP_STAT, 8, 8⟩
def BUP_STAT_START_KIND : Fld := ⟨BUP_STAT, 10, 9⟩
def BUP_STAT_STOP : Fld := ⟨BUP_STAT, 15, 12⟩
def BUP_STAT_PPS_LOCKED : Fld := ⟨BUP_STAT, 16, 16⟩
def BUP_STAT_VOLATILE : Fld := ⟨BUP_STAT, 17, 17⟩
def BUP_STAT_H0_DEAD : Fld := ⟨BUP_STAT, 18, 18⟩
def BUP_STAT_H1_DEAD : Fld := ⟨BUP_STAT, 19, 19⟩
def BUP_STAT_RETEST : Fld := ⟨BUP_STAT, 20, 20⟩
/-- BUP_ELAPSED (R337). -/
def BUP_ELAPSED : Reg := { id := 92, off := 0x30010, dims := [(0x4, 5)], ro := 0xFFFFFFFF }
def BUP_ELAPSED_US : Fld := ⟨BUP_ELAPSED, 31, 0⟩
/-- BUP_NEW (R337). -/
def BUP_NEW : Reg := { id := 93, off := 0x30030, ro := 0xFFFFFFFF }
def BUP_NEW_START : Fld := ⟨BUP_NEW, 15, 0⟩
def BUP_NEW_RUNTIME : Fld := ⟨BUP_NEW, 31, 16⟩
/-- BUP_USABLE (R337). -/
def BUP_USABLE : Reg := { id := 94, off := 0x30040, ro := 0xFF7FFFFF }
def BUP_USABLE_CORES : Fld := ⟨BUP_USABLE, 15, 0⟩
def BUP_USABLE_LOFTS : Fld := ⟨BUP_USABLE, 22, 16⟩
def BUP_USABLE_RETIRED : Fld := ⟨BUP_USABLE, 30, 24⟩
def BUP_USABLE_BELOW : Fld := ⟨BUP_USABLE, 31, 31⟩
/-- BUP_CORECOUNT (R337). -/
def BUP_CORECOUNT : Reg := { id := 95, off := 0x30044, ro := 0xFFFFFFFF }
def BUP_CORECOUNT_HOLES : Fld := ⟨BUP_CORECOUNT, 15, 0⟩
def BUP_CORECOUNT_HIDDEN : Fld := ⟨BUP_CORECOUNT, 31, 16⟩
/-- BUP_RETIRED_LO (R337). -/
def BUP_RETIRED_LO : Reg := { id := 96, off := 0x30048, wide := true, ro := 0xFFFFFFFFFFFFFFFF }
def BUP_RETIRED_LO_FIELD : Fld := ⟨BUP_RETIRED_LO, 63, 0⟩
/-- BUP_RETIRED_HI (R337). -/
def BUP_RETIRED_HI : Reg := { id := 97, off := 0x30050, ro := 0xFF }
def BUP_RETIRED_HI_FIELD : Fld := ⟨BUP_RETIRED_HI, 7, 0⟩
/-- BUP_LOFT_DEAD_LO (R337). -/
def BUP_LOFT_DEAD_LO : Reg := { id := 98, off := 0x30058, wide := true, ro := 0xFFFFFFFFFFFFFFFF }
def BUP_LOFT_DEAD_LO_LOFT : Fld := ⟨BUP_LOFT_DEAD_LO, 63, 0⟩
/-- BUP_LOFT_DEAD_HI (R337). -/
def BUP_LOFT_DEAD_HI : Reg := { id := 99, off := 0x30060, ro := 0xFF }
def BUP_LOFT_DEAD_HI_LOFT : Fld := ⟨BUP_LOFT_DEAD_HI, 7, 0⟩
/-- BUP_LDG_STAT (R337). -/
def BUP_LDG_STAT : Reg := { id := 100, off := 0x30100, ro := 0xFF01FFFF }
def BUP_LDG_STAT_USED : Fld := ⟨BUP_LDG_STAT, 16, 0⟩
def BUP_LDG_STAT_TORN : Fld := ⟨BUP_LDG_STAT, 31, 24⟩
/-- BUP_LDG_EPOCH (R337). -/
def BUP_LDG_EPOCH : Reg := { id := 101, off := 0x30104, ro := 0x1FFFF }
def BUP_LDG_EPOCH_EPOCH : Fld := ⟨BUP_LDG_EPOCH, 15, 0⟩
def BUP_LDG_EPOCH_OTHER_OPEN : Fld := ⟨BUP_LDG_EPOCH, 16, 16⟩
/-- BUP_LDG_SEL (R337). -/
def BUP_LDG_SEL : Reg := { id := 102, off := 0x30108, rw := 0xFFFF }
def BUP_LDG_SEL_SLOT : Fld := ⟨BUP_LDG_SEL, 15, 0⟩
/-- BUP_LDG_FETCH (R337). -/
def BUP_LDG_FETCH : Reg := { id := 103, off := 0x3010C, ro := 0x31 }
def BUP_LDG_FETCH_BUSY : Fld := ⟨BUP_LDG_FETCH, 0, 0⟩
def BUP_LDG_FETCH_RESULT : Fld := ⟨BUP_LDG_FETCH, 5, 4⟩
/-- BUP_LDG_ENTRY (R337). -/
def BUP_LDG_ENTRY : Reg := { id := 104, off := 0x30120, dims := [(0x4, 8)], ro := 0xFFFFFFFF }
def BUP_LDG_ENTRY_WORD : Fld := ⟨BUP_LDG_ENTRY, 31, 0⟩
/-- BUP_CTL (R337). -/
def BUP_CTL : Reg := { id := 105, off := 0x30200, wo := 0x7FF }
def BUP_CTL_WARM_RESET : Fld := ⟨BUP_CTL, 0, 0⟩
def BUP_CTL_FDR_START : Fld := ⟨BUP_CTL, 1, 1⟩
def BUP_CTL_FDR_ABORT : Fld := ⟨BUP_CTL, 2, 2⟩
def BUP_CTL_RETEST_START : Fld := ⟨BUP_CTL, 3, 3⟩
def BUP_CTL_RETEST_FIELD : Fld := ⟨BUP_CTL, 10, 4⟩
/-- BUP_FDR_ARM (R337). -/
def BUP_FDR_ARM : Reg := { id := 106, off := 0x30204, rw := 0xFFFFFFFF }
def BUP_FDR_ARM_KEY : Fld := ⟨BUP_FDR_ARM, 31, 0⟩
/-- BUP_FDR_STAT (R337). -/
def BUP_FDR_STAT : Reg := { id := 107, off := 0x30208, ro := 0x7F07 }
def BUP_FDR_STAT_STATE : Fld := ⟨BUP_FDR_STAT, 2, 0⟩
def BUP_FDR_STAT_PERCENT : Fld := ⟨BUP_FDR_STAT, 14, 8⟩
/-- BUP_RETEST_STAT (R337). -/
def BUP_RETEST_STAT : Reg := { id := 108, off := 0x3020C, ro := 0xFFFF7F7 }
def BUP_RETEST_STAT_STATE : Fld := ⟨BUP_RETEST_STAT, 2, 0⟩
def BUP_RETEST_STAT_FIELD : Fld := ⟨BUP_RETEST_STAT, 10, 4⟩
def BUP_RETEST_STAT_NEW : Fld := ⟨BUP_RETEST_STAT, 27, 12⟩
/-- BUP_SKIP (R337). -/
def BUP_SKIP : Reg := { id := 109, off := 0x31000, dims := [(0x10, 72), (0x4, 4)], ro := 0x3FFFFFFF, reset := 0x318C6318 }
def BUP_SKIP_SKIP : Fld := ⟨BUP_SKIP, 29, 0⟩
/-- BUP_HOLEMAP (R337). -/
def BUP_HOLEMAP : Reg := { id := 110, off := 0x32000, dims := [(0x48, 72), (0x4, 18)], ro := 0xFFFFFFFF }
def BUP_HOLEMAP_HOLE : Fld := ⟨BUP_HOLEMAP, 31, 0⟩
/-- LOFT_STAT (R370). -/
def LOFT_STAT : Reg := { id := 111, off := 0x21D000, dims := [(0x20000, 72)], ro := 0xFFFFFF0F }
def LOFT_STAT_ON : Fld := ⟨LOFT_STAT, 0, 0⟩
def LOFT_STAT_DEAD : Fld := ⟨LOFT_STAT, 1, 1⟩
def LOFT_STAT_ZEROING : Fld := ⟨LOFT_STAT, 2, 2⟩
def LOFT_STAT_SCRUB_LATE : Fld := ⟨LOFT_STAT, 3, 3⟩
def LOFT_STAT_SPARES_MAX : Fld := ⟨LOFT_STAT, 15, 8⟩
def LOFT_STAT_SPARES_USED : Fld := ⟨LOFT_STAT, 31, 16⟩
/-- LOFT_CE (R370). -/
def LOFT_CE : Reg := { id := 112, off := 0x21D004, dims := [(0x20000, 72)], rc := 0xFFFFFFFF }
def LOFT_CE_COUNT : Fld := ⟨LOFT_CE, 31, 0⟩
/-- LOFT_UE (R370). -/
def LOFT_UE : Reg := { id := 113, off := 0x21D008, dims := [(0x20000, 72)], rc := 0xFFFFFFFF }
def LOFT_UE_COUNT : Fld := ⟨LOFT_UE, 31, 0⟩
/-- LOFT_EVENTS (R370). -/
def LOFT_EVENTS : Reg := { id := 114, off := 0x21D00C, dims := [(0x20000, 72)], rc := 0xFFFFFFFF }
def LOFT_EVENTS_RANGE : Fld := ⟨LOFT_EVENTS, 15, 0⟩
def LOFT_EVENTS_POISON_WR : Fld := ⟨LOFT_EVENTS, 31, 16⟩
/-- LOFT_UE_CAP (R370). -/
def LOFT_UE_CAP : Reg := { id := 115, off := 0x21D010, dims := [(0x20000, 72)], wide := true, w1c := 0x8000000000000000, ro := 0x1FFFFFFFFFF }
def LOFT_UE_CAP_LINE : Fld := ⟨LOFT_UE_CAP, 28, 0⟩
def LOFT_UE_CAP_SOURCE : Fld := ⟨LOFT_UE_CAP, 31, 29⟩
def LOFT_UE_CAP_PART : Fld := ⟨LOFT_UE_CAP, 40, 32⟩
def LOFT_UE_CAP_VALID : Fld := ⟨LOFT_UE_CAP, 63, 63⟩
/-- LOFT_RANGE_CAP (R370). -/
def LOFT_RANGE_CAP : Reg := { id := 116, off := 0x21D018, dims := [(0x20000, 72)], wide := true, w1c := 0x8000000000000000, ro := 0x7FFFFFFFFFFFF }
def LOFT_RANGE_CAP_ADDR : Fld := ⟨LOFT_RANGE_CAP, 39, 0⟩
def LOFT_RANGE_CAP_SPART : Fld := ⟨LOFT_RANGE_CAP, 48, 40⟩
def LOFT_RANGE_CAP_KIND : Fld := ⟨LOFT_RANGE_CAP, 50, 49⟩
def LOFT_RANGE_CAP_VALID : Fld := ⟨LOFT_RANGE_CAP, 63, 63⟩
/-- LOFT_SCRUB (R370). -/
def LOFT_SCRUB : Reg := { id := 117, off := 0x21D020, dims := [(0x20000, 72)], rc := 0xFF000000, ro := 0xFFFFFF }
def LOFT_SCRUB_PERCENT : Fld := ⟨LOFT_SCRUB, 7, 0⟩
def LOFT_SCRUB_PASSES : Fld := ⟨LOFT_SCRUB, 23, 8⟩
def LOFT_SCRUB_FORCED : Fld := ⟨LOFT_SCRUB, 31, 24⟩
/-- LOFT_STG_PART (R370). -/
def LOFT_STG_PART : Reg := { id := 118, off := 0x21D024, dims := [(0x20000, 72)], rw := 0x1FF, reset := 0x1FF }
def LOFT_STG_PART_PART : Fld := ⟨LOFT_STG_PART, 8, 0⟩
/-- LOFT_RD_BYTES (R370). -/
def LOFT_RD_BYTES : Reg := { id := 119, off := 0x21D028, dims := [(0x20000, 72)], wide := true, ro := 0xFFFFFFFFFFFFFFFF }
def LOFT_RD_BYTES_COUNT : Fld := ⟨LOFT_RD_BYTES, 63, 0⟩
/-- LOFT_WR_BYTES (R370). -/
def LOFT_WR_BYTES : Reg := { id := 120, off := 0x21D030, dims := [(0x20000, 72)], wide := true, ro := 0xFFFFFFFFFFFFFFFF }
def LOFT_WR_BYTES_COUNT : Fld := ⟨LOFT_WR_BYTES, 63, 0⟩
/-- SPAD_CE (R370). -/
def SPAD_CE : Reg := { id := 121, off := 0x21D100, dims := [(0x20000, 72)], rc := 0xFFFFFFFF }
def SPAD_CE_COUNT : Fld := ⟨SPAD_CE, 31, 0⟩
/-- SPAD_UE (R370). -/
def SPAD_UE : Reg := { id := 122, off := 0x21D104, dims := [(0x20000, 72)], rc := 0xFFFFFFFF }
def SPAD_UE_COUNT : Fld := ⟨SPAD_UE, 31, 0⟩
/-- SPAD_UE_CAP (R370). -/
def SPAD_UE_CAP : Reg := { id := 123, off := 0x21D108, dims := [(0x20000, 72)], w1c := 0x1, ro := 0x3FFFFFE }
def SPAD_UE_CAP_VALID : Fld := ⟨SPAD_UE_CAP, 0, 0⟩
def SPAD_UE_CAP_MEM : Fld := ⟨SPAD_UE_CAP, 1, 1⟩
def SPAD_UE_CAP_FOUND_BY : Fld := ⟨SPAD_UE_CAP, 3, 2⟩
def SPAD_UE_CAP_UNIT : Fld := ⟨SPAD_UE_CAP, 13, 4⟩
def SPAD_UE_CAP_LINE : Fld := ⟨SPAD_UE_CAP, 25, 14⟩
/-- SPAD_EVENTS (R370). -/
def SPAD_EVENTS : Reg := { id := 124, off := 0x21D10C, dims := [(0x20000, 72)], rc := 0xFFFF }
def SPAD_EVENTS_ISTORE_REFILL : Fld := ⟨SPAD_EVENTS, 15, 0⟩
/-- HIF_APT_CAP (R371). -/
def HIF_APT_CAP : Reg := { id := 125, off := 0x117F00, wide := true, w1c := 0x8000000000000000, ro := 0x7FFFFFFFFF }
def HIF_APT_CAP_OFFSET : Fld := ⟨HIF_APT_CAP, 35, 0⟩
def HIF_APT_CAP_WRITE : Fld := ⟨HIF_APT_CAP, 36, 36⟩
def HIF_APT_CAP_REASON : Fld := ⟨HIF_APT_CAP, 38, 37⟩
def HIF_APT_CAP_VALID : Fld := ⟨HIF_APT_CAP, 63, 63⟩
/-- HIF_APT (R371). -/
def HIF_APT : Reg := { id := 126, off := 0x118000, dims := [(0x8, 4096)], wide := true, rw := 0x7FFFF }
def HIF_APT_VALID : Fld := ⟨HIF_APT, 0, 0⟩
def HIF_APT_FIELD : Fld := ⟨HIF_APT, 7, 1⟩
def HIF_APT_PAGE : Fld := ⟨HIF_APT, 18, 8⟩
/-- PRT_DEF (R410). -/
def PRT_DEF : Reg := { id := 127, off := 0xB0000, dims := [(0x40, 288)], st := 0x7FFFFF }
def PRT_DEF_JOB_ID : Fld := ⟨PRT_DEF, 15, 0⟩
def PRT_DEF_VALID : Fld := ⟨PRT_DEF, 16, 16⟩
def PRT_DEF_LEAD_SLOT : Fld := ⟨PRT_DEF, 22, 17⟩
/-- PRT_PRIO (R410). -/
def PRT_PRIO : Reg := { id := 128, off := 0xB0004, dims := [(0x40, 288)], st := 0xF, reset := 0x8 }
def PRT_PRIO_PRIO : Fld := ⟨PRT_PRIO, 3, 0⟩
/-- PRT_QCFG (R410). -/
def PRT_QCFG : Reg := { id := 129, off := 0xB0008, dims := [(0x40, 288)], st := 0x3FFFF }
def PRT_QCFG_QUEUES : Fld := ⟨PRT_QCFG, 6, 0⟩
def PRT_QCFG_RING_FIELD : Fld := ⟨PRT_QCFG, 13, 7⟩
def PRT_QCFG_RING_LOG2 : Fld := ⟨PRT_QCFG, 17, 14⟩
/-- PRT_QBASE (R410). -/
def PRT_QBASE : Reg := { id := 130, off := 0xB0010, dims := [(0x40, 288)], wide := true, st := 0xFFFFFFFFFF }
def PRT_QBASE_OFFSET : Fld := ⟨PRT_QBASE, 39, 0⟩
/-- PRT_SE_BASE (R410). -/
def PRT_SE_BASE : Reg := { id := 131, off := 0xB0020, dims := [(0x40, 288)], wide := true, st := 0xFFFFFFFFFF }
def PRT_SE_BASE_OFFSET : Fld := ⟨PRT_SE_BASE, 39, 0⟩
/-- PRT_SE (R410). -/
def PRT_SE : Reg := { id := 132, off := 0xB0018, dims := [(0x40, 288)], st := 0x1FFFFF }
def PRT_SE_ENABLE : Fld := ⟨PRT_SE, 0, 0⟩
def PRT_SE_STEP_Q : Fld := ⟨PRT_SE, 6, 1⟩
def PRT_SE_MAX_BATCH : Fld := ⟨PRT_SE, 20, 7⟩
/-- PRT_STAT (R410). -/
def PRT_STAT : Reg := { id := 133, off := 0xB0028, dims := [(0x40, 288)], ro := 0x3FFFF }
def PRT_STAT_STATE : Fld := ⟨PRT_STAT, 2, 0⟩
def PRT_STAT_LEAD : Fld := ⟨PRT_STAT, 3, 3⟩
def PRT_STAT_HOME : Fld := ⟨PRT_STAT, 10, 4⟩
def PRT_STAT_CUR_Q : Fld := ⟨PRT_STAT, 16, 11⟩
def PRT_STAT_STEP : Fld := ⟨PRT_STAT, 17, 17⟩
/-- PRT_CTL (R410). -/
def PRT_CTL : Reg := { id := 134, off := 0xB002C, dims := [(0x40, 288)], wo := 0x1 }
def PRT_CTL_CURTAIN : Fld := ⟨PRT_CTL, 0, 0⟩
/-- PRT_FAULT (R410). -/
def PRT_FAULT : Reg := { id := 135, off := 0xB0030, dims := [(0x40, 288)], ro := 0x7 }
def PRT_FAULT_CAUSE : Fld := ⟨PRT_FAULT, 2, 0⟩
/-- PRT_DONE_CMDS (R410). -/
def PRT_DONE_CMDS : Reg := { id := 136, off := 0xB0034, dims := [(0x40, 288)], rc := 0xFFFFFFFF }
def PRT_DONE_CMDS_COUNT : Fld := ⟨PRT_DONE_CMDS, 31, 0⟩
/-- PRT_QMASK (R410). -/
def PRT_QMASK : Reg := { id := 137, off := 0xB6000, dims := [(0x40, 288), (0x4, 9)], st := 0xFFFFFFFF }
def PRT_QMASK_QUAD : Fld := ⟨PRT_QMASK, 31, 0⟩
/-- SEM_VAL (R410). -/
def SEM_VAL : Reg := { id := 138, off := 0xBC000, dims := [(0x8, 1024)], rw := 0xFFFF }
def SEM_VAL_COUNT : Fld := ⟨SEM_VAL, 15, 0⟩
/-- SEM_STAT (R410). -/
def SEM_STAT : Reg := { id := 139, off := 0xBC004, dims := [(0x8, 1024)], ro := 0xFFFFFFFF }
def SEM_STAT_LEASED : Fld := ⟨SEM_STAT, 15, 0⟩
def SEM_STAT_WAITING : Fld := ⟨SEM_STAT, 31, 16⟩
/-- SEM_TABLE (R410). -/
def SEM_TABLE : Reg := { id := 140, off := 0xBE000, rc := 0xFFFF0000, ro := 0x1FFF }
def SEM_TABLE_LEASES : Fld := ⟨SEM_TABLE, 12, 0⟩
def SEM_TABLE_FULL_EVENTS : Fld := ⟨SEM_TABLE, 31, 16⟩
/-- CQ_SEL (R411). -/
def CQ_SEL : Reg := { id := 141, off := 0xC0000, rw := 0x7FFF }
def CQ_SEL_PART : Fld := ⟨CQ_SEL, 8, 0⟩
def CQ_SEL_QUEUE : Fld := ⟨CQ_SEL, 14, 9⟩
/-- CQ_HEAD (R411). -/
def CQ_HEAD : Reg := { id := 142, sel := .queue, off := 0xC0008, ro := 0xFFFFFFFF }
def CQ_HEAD_COUNT : Fld := ⟨CQ_HEAD, 31, 0⟩
/-- CQ_TAIL (R411). -/
def CQ_TAIL : Reg := { id := 143, sel := .queue, off := 0xC000C, ro := 0xFFFFFFFF }
def CQ_TAIL_COUNT : Fld := ⟨CQ_TAIL, 31, 0⟩
/-- CQ_CTAIL (R411). -/
def CQ_CTAIL : Reg := { id := 144, sel := .queue, off := 0xC0018, ro := 0xFFFFFFFF }
def CQ_CTAIL_COUNT : Fld := ⟨CQ_CTAIL, 31, 0⟩
/-- CQ_HWM (R411). -/
def CQ_HWM : Reg := { id := 145, sel := .queue, off := 0xC0010, wide := true, ro := 0xFFFFFFFFFFFF }
def CQ_HWM_SEQ : Fld := ⟨CQ_HWM, 47, 0⟩
/-- CQ_CHEAD (R411). -/
def CQ_CHEAD : Reg := { id := 146, sel := .queue, off := 0xC001C, rw := 0xFFFFFFFF }
def CQ_CHEAD_COUNT : Fld := ⟨CQ_CHEAD, 31, 0⟩
/-- CQ_CTL (R411). -/
def CQ_CTL : Reg := { id := 147, sel := .queue, off := 0xC0024, wo := 0x1 }
def CQ_CTL_RESET_SEQ : Fld := ⟨CQ_CTL, 0, 0⟩
/-- CQ_STALE (R411). -/
def CQ_STALE : Reg := { id := 148, sel := .queue, off := 0xC0028, rc := 0xFFFFFFFF }
def CQ_STALE_COUNT : Fld := ⟨CQ_STALE, 31, 0⟩
/-- CQ_DUP (R411). -/
def CQ_DUP : Reg := { id := 149, sel := .queue, off := 0xC002C, rc := 0xFFFFFFFF }
def CQ_DUP_COUNT : Fld := ⟨CQ_DUP, 31, 0⟩
/-- CQ_BADDB (R411). -/
def CQ_BADDB : Reg := { id := 150, off := 0xC0040, w1c := 0x80000000, ro := 0x3FFFF }
def CQ_BADDB_PART : Fld := ⟨CQ_BADDB, 8, 0⟩
def CQ_BADDB_QUEUE : Fld := ⟨CQ_BADDB, 14, 9⟩
def CQ_BADDB_REASON : Fld := ⟨CQ_BADDB, 17, 15⟩
def CQ_BADDB_VALID : Fld := ⟨CQ_BADDB, 31, 31⟩
/-- SE_SEL (R411). -/
def SE_SEL : Reg := { id := 151, off := 0xC0100, rw := 0x1FF }
def SE_SEL_PART : Fld := ⟨SE_SEL, 8, 0⟩
/-- SE_STAT (R411). -/
def SE_STAT : Reg := { id := 152, sel := .sePart, off := 0xC0104, ro := 0xFFFFFFF }
def SE_STAT_ACTIVE : Fld := ⟨SE_STAT, 13, 0⟩
def SE_STAT_PENDING : Fld := ⟨SE_STAT, 27, 14⟩
/-- SE_SLOT_TAG (R411). -/
def SE_SLOT_TAG : Reg := { id := 153, sel := .sePart, off := 0xC0110, rw := 0xFFFFFFFF }
def SE_SLOT_TAG_TAG : Fld := ⟨SE_SLOT_TAG, 31, 0⟩
/-- SE_SLOT_CTL (R411). -/
def SE_SLOT_CTL : Reg := { id := 154, sel := .sePart, off := 0xC0114, wo := 0x7FFF }
def SE_SLOT_CTL_SLOT : Fld := ⟨SE_SLOT_CTL, 12, 0⟩
def SE_SLOT_CTL_OP : Fld := ⟨SE_SLOT_CTL, 14, 13⟩
/-- SE_REFUSED (R411). -/
def SE_REFUSED : Reg := { id := 155, sel := .sePart, off := 0xC0124, rc := 0xFFFFFFFF }
def SE_REFUSED_COUNT : Fld := ⟨SE_REFUSED, 31, 0⟩
/-- SE_DONE (R411). -/
def SE_DONE : Reg := { id := 156, sel := .sePart, off := 0xC0200, dims := [(0x4, 256)], ro := 0xFFFFFFFF }
def SE_DONE_DONE : Fld := ⟨SE_DONE, 31, 0⟩
/-- PMT_MODE (R449). -/
def PMT_MODE : Reg := { id := 157, off := 0xD0000, dims := [(0x20, 288)], st := 0x1F01, reset := 0x1400 }
def PMT_MODE_MODE : Fld := ⟨PMT_MODE, 0, 0⟩
def PMT_MODE_SURRENDER_US : Fld := ⟨PMT_MODE, 12, 8⟩
/-- PMT_CTL (R449). -/
def PMT_CTL : Reg := { id := 158, off := 0xD0004, dims := [(0x20, 288)], wo := 0x3 }
def PMT_CTL_PREEMPT : Fld := ⟨PMT_CTL, 0, 0⟩
def PMT_CTL_RESUME : Fld := ⟨PMT_CTL, 1, 1⟩
/-- PMT_STAT (R449). -/
def PMT_STAT : Reg := { id := 159, off := 0xD0008, dims := [(0x20, 288)], ro := 0xFFF7 }
def PMT_STAT_STATE : Fld := ⟨PMT_STAT, 2, 0⟩
def PMT_STAT_FAULT_PENDING : Fld := ⟨PMT_STAT, 4, 4⟩
def PMT_STAT_FAULT_CAUSE : Fld := ⟨PMT_STAT, 7, 5⟩
def PMT_STAT_CMD_SAVED : Fld := ⟨PMT_STAT, 8, 8⟩
def PMT_STAT_LAST_END : Fld := ⟨PMT_STAT, 11, 9⟩
def PMT_STAT_HTC_WHY : Fld := ⟨PMT_STAT, 15, 12⟩
/-- PMT_LAST_US (R449). -/
def PMT_LAST_US : Reg := { id := 160, off := 0xD000C, dims := [(0x20, 288)], ro := 0xFFFFFFFF }
def PMT_LAST_US_REQ_TO_FREE : Fld := ⟨PMT_LAST_US, 15, 0⟩
def PMT_LAST_US_DRAIN_US : Fld := ⟨PMT_LAST_US, 31, 16⟩
/-- PMT_LAST_SURR (R449). -/
def PMT_LAST_SURR : Reg := { id := 161, off := 0xD0010, dims := [(0x20, 288)], ro := 0xFFFFFFFF }
def PMT_LAST_SURR_WAITED : Fld := ⟨PMT_LAST_SURR, 15, 0⟩
def PMT_LAST_SURR_RESET : Fld := ⟨PMT_LAST_SURR, 31, 16⟩
/-- PMT_SAVE_FIELD (R449). -/
def PMT_SAVE_FIELD : Reg := { id := 162, off := 0xD0014, dims := [(0x20, 288)], ro := 0xFF }
def PMT_SAVE_FIELD_FIELD : Fld := ⟨PMT_SAVE_FIELD, 6, 0⟩
def PMT_SAVE_FIELD_VALID : Fld := ⟨PMT_SAVE_FIELD, 7, 7⟩
/-- PMT_DON (R449). -/
def PMT_DON : Reg := { id := 163, off := 0xD0018, dims := [(0x20, 288)], ro := 0xFFFF }
def PMT_DON_SEM : Fld := ⟨PMT_DON, 9, 0⟩
def PMT_DON_SLOT : Fld := ⟨PMT_DON, 15, 10⟩
/-- PMT_DONATIONS (R449). -/
def PMT_DONATIONS : Reg := { id := 164, off := 0xD4000, rc := 0xFFFFFFFF }
def PMT_DONATIONS_COUNT : Fld := ⟨PMT_DONATIONS, 31, 0⟩
/-- PMT_DON_CUTS (R449). -/
def PMT_DON_CUTS : Reg := { id := 165, off := 0xD4004, rc := 0xFFFFFFFF }
def PMT_DON_CUTS_COUNT : Fld := ⟨PMT_DON_CUTS, 31, 0⟩
/-- PMT_REFUSED (R449). -/
def PMT_REFUSED : Reg := { id := 166, off := 0xD4010, w1c := 0x80000000, ro := 0xFFF }
def PMT_REFUSED_PART : Fld := ⟨PMT_REFUSED, 8, 0⟩
def PMT_REFUSED_REASON : Fld := ⟨PMT_REFUSED, 11, 9⟩
def PMT_REFUSED_VALID : Fld := ⟨PMT_REFUSED, 31, 31⟩
/-- PWR_DOM_REQ (R480). -/
def PWR_DOM_REQ : Reg := { id := 167, off := 0x40200, wo := 0x7FF }
def PWR_DOM_REQ_DOMAIN : Fld := ⟨PWR_DOM_REQ, 8, 0⟩
def PWR_DOM_REQ_REQ : Fld := ⟨PWR_DOM_REQ, 10, 9⟩
/-- PWR_DOM_REFUSED (R480). -/
def PWR_DOM_REFUSED : Reg := { id := 168, off := 0x40204, w1c := 0x80000000, ro := 0x3FFF }
def PWR_DOM_REFUSED_DOMAIN : Fld := ⟨PWR_DOM_REFUSED, 8, 0⟩
def PWR_DOM_REFUSED_REQ : Fld := ⟨PWR_DOM_REFUSED, 10, 9⟩
def PWR_DOM_REFUSED_REASON : Fld := ⟨PWR_DOM_REFUSED, 13, 11⟩
def PWR_DOM_REFUSED_VALID : Fld := ⟨PWR_DOM_REFUSED, 31, 31⟩
/-- PWR_SEQ_STAT (R480). -/
def PWR_SEQ_STAT : Reg := { id := 169, off := 0x40208, ro := 0x7FFFFF }
def PWR_SEQ_STAT_ON : Fld := ⟨PWR_SEQ_STAT, 8, 0⟩
def PWR_SEQ_STAT_RAMPING : Fld := ⟨PWR_SEQ_STAT, 13, 9⟩
def PWR_SEQ_STAT_MOVING : Fld := ⟨PWR_SEQ_STAT, 22, 14⟩
/-- PWR_PARK_TOTAL (R480). -/
def PWR_PARK_TOTAL : Reg := { id := 170, off := 0x4020C, ro := 0xFFFFFF }
def PWR_PARK_TOTAL_RETAIN : Fld := ⟨PWR_PARK_TOTAL, 11, 0⟩
def PWR_PARK_TOTAL_GATE : Fld := ⟨PWR_PARK_TOTAL, 23, 12⟩
/-- PWR_FAULT_CAP (R480). -/
def PWR_FAULT_CAP : Reg := { id := 171, off := 0x40210, wide := true, w1c := 0x8000000000000000, ro := 0xFFFFFF }
def PWR_FAULT_CAP_DOMAIN : Fld := ⟨PWR_FAULT_CAP, 8, 0⟩
def PWR_FAULT_CAP_KIND : Fld := ⟨PWR_FAULT_CAP, 11, 9⟩
def PWR_FAULT_CAP_VOLT : Fld := ⟨PWR_FAULT_CAP, 23, 12⟩
def PWR_FAULT_CAP_VALID : Fld := ⟨PWR_FAULT_CAP, 63, 63⟩
/-- PWR_FAULT_TIME (R480). -/
def PWR_FAULT_TIME : Reg := { id := 172, off := 0x40218, wide := true, ro := 0xFFFFFFFFFFFFFFFF }
def PWR_FAULT_TIME_TIME : Fld := ⟨PWR_FAULT_TIME, 63, 0⟩
/-- PWR_FAULTS (R480). -/
def PWR_FAULTS : Reg := { id := 173, off := 0x40220, rc := 0xFFFFFFFF }
def PWR_FAULTS_COUNT : Fld := ⟨PWR_FAULTS, 31, 0⟩
/-- PWR_IBC (R480). -/
def PWR_IBC : Reg := { id := 174, off := 0x40240, dims := [(0x4, 4)], ro := 0xFFFF0003 }
def PWR_IBC_OK : Fld := ⟨PWR_IBC, 0, 0⟩
def PWR_IBC_FAULT : Fld := ⟨PWR_IBC, 1, 1⟩
def PWR_IBC_OUT_W : Fld := ⟨PWR_IBC, 31, 16⟩
/-- PWR_BUS (R480). -/
def PWR_BUS : Reg := { id := 175, off := 0x40250, ro := 0xFFFF }
def PWR_BUS_BUS : Fld := ⟨PWR_BUS, 15, 0⟩
/-- PWR_DOM_STAT (R480). -/
def PWR_DOM_STAT : Reg := { id := 176, off := 0x43000, dims := [(0x4, 455)], ro := 0x1FFF }
def PWR_DOM_STAT_STATE : Fld := ⟨PWR_DOM_STAT, 2, 0⟩
def PWR_DOM_STAT_PENDING : Fld := ⟨PWR_DOM_STAT, 4, 3⟩
def PWR_DOM_STAT_FAULT : Fld := ⟨PWR_DOM_STAT, 5, 5⟩
def PWR_DOM_STAT_FAULTS_24H : Fld := ⟨PWR_DOM_STAT, 7, 6⟩
def PWR_DOM_STAT_KIND : Fld := ⟨PWR_DOM_STAT, 10, 8⟩
def PWR_DOM_STAT_BLOCKED : Fld := ⟨PWR_DOM_STAT, 11, 11⟩
def PWR_DOM_STAT_HALTED : Fld := ⟨PWR_DOM_STAT, 12, 12⟩
/-- PWR_DOM_MEAS (R480). -/
def PWR_DOM_MEAS : Reg := { id := 177, off := 0x44000, dims := [(0x8, 455)], wide := true, ro := 0xFFFFFFFFFF }
def PWR_DOM_MEAS_VOLT : Fld := ⟨PWR_DOM_MEAS, 11, 0⟩
def PWR_DOM_MEAS_CURRENT : Fld := ⟨PWR_DOM_MEAS, 31, 12⟩
def PWR_DOM_MEAS_TEMP : Fld := ⟨PWR_DOM_MEAS, 39, 32⟩
/-- PWR_PARK (R480). -/
def PWR_PARK : Reg := { id := 178, off := 0x45000, dims := [(0x4, 288)], ro := 0xFFFFFFF }
def PWR_PARK_RETAIN : Fld := ⟨PWR_PARK, 8, 0⟩
def PWR_PARK_GATE : Fld := ⟨PWR_PARK, 17, 9⟩
def PWR_PARK_MOVING : Fld := ⟨PWR_PARK, 26, 18⟩
def PWR_PARK_GATE_WAIT : Fld := ⟨PWR_PARK, 27, 27⟩
/-- PWR_CAP (R504). -/
def PWR_CAP : Reg := { id := 179, off := 0x40300, rw := 0xFFF7FFFF, reset := 0x4A38 }
def PWR_CAP_CAP_W : Fld := ⟨PWR_CAP, 15, 0⟩
def PWR_CAP_REASON : Fld := ⟨PWR_CAP, 18, 16⟩
def PWR_CAP_PLAN_ID : Fld := ⟨PWR_CAP, 31, 20⟩
/-- PWR_CAP_EFF (R504). -/
def PWR_CAP_EFF : Reg := { id := 180, off := 0x40304, ro := 0x177FFFF, reset := 0x4A38 }
def PWR_CAP_EFF_EFF_W : Fld := ⟨PWR_CAP_EFF, 15, 0⟩
def PWR_CAP_EFF_LIMIT : Fld := ⟨PWR_CAP_EFF, 18, 16⟩
def PWR_CAP_EFF_REASON : Fld := ⟨PWR_CAP_EFF, 22, 20⟩
def PWR_CAP_EFF_BINDING : Fld := ⟨PWR_CAP_EFF, 24, 24⟩
/-- PWR_LOOP (R504). -/
def PWR_LOOP : Reg := { id := 181, off := 0x40308, st := 0xFFFFFFF, reset := 0x284B064 }
def PWR_LOOP_HEADROOM_W : Fld := ⟨PWR_LOOP, 9, 0⟩
def PWR_LOOP_HYST_W : Fld := ⟨PWR_LOOP, 19, 10⟩
def PWR_LOOP_DWELL : Fld := ⟨PWR_LOOP, 27, 20⟩
/-- PWR_DROOP_CFG (R504). -/
def PWR_DROOP_CFG : Reg := { id := 182, off := 0x4030C, st := 0xFF3F, reset := 0xC828 }
def PWR_DROOP_CFG_MARGIN_MV : Fld := ⟨PWR_DROOP_CFG, 5, 0⟩
def PWR_DROOP_CFG_RECOVER_US : Fld := ⟨PWR_DROOP_CFG, 15, 8⟩
/-- PWR_DRAW (R504). -/
def PWR_DRAW : Reg := { id := 183, off := 0x40310, ro := 0xFFFFFFFF }
def PWR_DRAW_DRAW_W : Fld := ⟨PWR_DRAW, 15, 0⟩
def PWR_DRAW_SETPOINT_W : Fld := ⟨PWR_DRAW, 31, 16⟩
/-- PWR_GUARDS (R504). -/
def PWR_GUARDS : Reg := { id := 184, off := 0x40314, rc := 0xFF000000, ro := 0xFFFFFF }
def PWR_GUARDS_DROOP : Fld := ⟨PWR_GUARDS, 11, 0⟩
def PWR_GUARDS_CURRENT : Fld := ⟨PWR_GUARDS, 23, 12⟩
def PWR_GUARDS_ENVELOPE : Fld := ⟨PWR_GUARDS, 31, 24⟩
/-- PWR_PART_CFG (R504). -/
def PWR_PART_CFG : Reg := { id := 185, off := 0x46000, dims := [(0x4, 288)], st := 0xF7F, reset := 0x800 }
def PWR_PART_CFG_DECL_PCT : Fld := ⟨PWR_PART_CFG, 6, 0⟩
def PWR_PART_CFG_WEIGHT : Fld := ⟨PWR_PART_CFG, 11, 8⟩
/-- PWR_PART_ALLOT (R504). -/
def PWR_PART_ALLOT : Reg := { id := 186, off := 0x47000, dims := [(0x4, 288)], ro := 0xFFFFFFF }
def PWR_PART_ALLOT_ALLOT_W : Fld := ⟨PWR_PART_ALLOT, 15, 0⟩
def PWR_PART_ALLOT_PARKED : Fld := ⟨PWR_PART_ALLOT, 27, 16⟩
/-- TEL_SEL (R505). -/
def TEL_SEL : Reg := { id := 187, off := 0xE0000, rw := 0x1FF }
def TEL_SEL_PART : Fld := ⟨TEL_SEL, 8, 0⟩
/-- TEL_SNAP_TIME (R505). -/
def TEL_SNAP_TIME : Reg := { id := 188, off := 0xE0008, wide := true, ro := 0xFFFFFFFFFFFFFFFF }
def TEL_SNAP_TIME_TIME : Fld := ⟨TEL_SNAP_TIME, 63, 0⟩
/-- TEL_REASON_TIME (R505). -/
def TEL_REASON_TIME : Reg := { id := 189, sel := .tel, off := 0xE0100, dims := [(0x10, 7)], wide := true, ro := 0xFFFFFFFFFFFFFFFF }
def TEL_REASON_TIME_COUNT : Fld := ⟨TEL_REASON_TIME, 63, 0⟩
/-- TEL_REASON_GTIME (R505). -/
def TEL_REASON_GTIME : Reg := { id := 190, sel := .tel, off := 0xE0108, dims := [(0x10, 7)], wide := true, ro := 0xFFFFFFFFFFFFFFFF }
def TEL_REASON_GTIME_COUNT : Fld := ⟨TEL_REASON_GTIME, 63, 0⟩
/-- TEL_PE (R505). -/
def TEL_PE : Reg := { id := 191, sel := .tel, off := 0xE0200, dims := [(0x8, 6)], wide := true, ro := 0xFFFFFFFFFFFFFFFF }
def TEL_PE_MJ : Fld := ⟨TEL_PE, 63, 0⟩
/-- TEL_PE_TOTAL (R505). -/
def TEL_PE_TOTAL : Reg := { id := 192, sel := .tel, off := 0xE0230, wide := true, ro := 0xFFFFFFFFFFFFFFFF }
def TEL_PE_TOTAL_COUNT : Fld := ⟨TEL_PE_TOTAL, 63, 0⟩
/-- TEL_OPS (R505). -/
def TEL_OPS : Reg := { id := 193, sel := .tel, off := 0xE0240, wide := true, ro := 0xFFFFFFFFFFFFFFFF }
def TEL_OPS_COUNT : Fld := ⟨TEL_OPS, 63, 0⟩
/-- TEL_SLOTS (R505). -/
def TEL_SLOTS : Reg := { id := 194, sel := .tel, off := 0xE0248, wide := true, ro := 0xFFFFFFFFFFFFFFFF }
def TEL_SLOTS_COUNT : Fld := ⟨TEL_SLOTS, 63, 0⟩
/-- TEL_BAR_WAIT (R505). -/
def TEL_BAR_WAIT : Reg := { id := 195, sel := .tel, off := 0xE0250, wide := true, ro := 0xFFFFFFFFFFFFFFFF }
def TEL_BAR_WAIT_COUNT : Fld := ⟨TEL_BAR_WAIT, 63, 0⟩
/-- TEL_CORE_WAIT (R505). -/
def TEL_CORE_WAIT : Reg := { id := 196, sel := .tel, off := 0xE0260, wide := true, ro := 0xFFFFFFFFFFFFFFFF }
def TEL_CORE_WAIT_COUNT : Fld := ⟨TEL_CORE_WAIT, 63, 0⟩
/-- TEL_BAR_CMDS (R505). -/
def TEL_BAR_CMDS : Reg := { id := 197, sel := .tel, off := 0xE0258, ro := 0xFFFFFFFF }
def TEL_BAR_CMDS_COUNT : Fld := ⟨TEL_BAR_CMDS, 31, 0⟩
/-- TEL_BAR_LAST (R505). -/
def TEL_BAR_LAST : Reg := { id := 198, sel := .tel, off := 0xE0300, dims := [(0x4, 36)], ro := 0xFFFFFFFF }
def TEL_BAR_LAST_COUNT : Fld := ⟨TEL_BAR_LAST, 31, 0⟩
/-- TEL_WE (R505). -/
def TEL_WE : Reg := { id := 199, off := 0xE1000, dims := [(0x8, 6)], wide := true, ro := 0xFFFFFFFFFFFFFFFF }
def TEL_WE_MJ : Fld := ⟨TEL_WE, 63, 0⟩
/-- TEL_WE_OVERHEAD (R505). -/
def TEL_WE_OVERHEAD : Reg := { id := 200, off := 0xE1030, wide := true, ro := 0xFFFFFFFFFFFFFFFF }
def TEL_WE_OVERHEAD_MJ : Fld := ⟨TEL_WE_OVERHEAD, 63, 0⟩
/-- SHF_STAT (R533). -/
def SHF_STAT : Reg := { id := 201, space := .shelf, off := 0x0, ro := 0x771F }
def SHF_STAT_STATE : Fld := ⟨SHF_STAT, 2, 0⟩
def SHF_STAT_STATIC : Fld := ⟨SHF_STAT, 3, 3⟩
def SHF_STAT_CHG_INHIBIT : Fld := ⟨SHF_STAT, 4, 4⟩
def SHF_STAT_MODULES_OK : Fld := ⟨SHF_STAT, 10, 8⟩
def SHF_STAT_BBU_USABLE : Fld := ⟨SHF_STAT, 14, 12⟩
/-- SHF_AC (R533). -/
def SHF_AC : Reg := { id := 202, space := .shelf, off := 0x4, ro := 0x7FF }
def SHF_AC_V_LL : Fld := ⟨SHF_AC, 9, 0⟩
def SHF_AC_AC_OK : Fld := ⟨SHF_AC, 10, 10⟩
/-- SHF_OUT (R533). -/
def SHF_OUT : Reg := { id := 203, space := .shelf, off := 0x8, ro := 0x7FFFFFF }
def SHF_OUT_OUT_W : Fld := ⟨SHF_OUT, 16, 0⟩
def SHF_OUT_BUS_V : Fld := ⟨SHF_OUT, 26, 17⟩
/-- SHF_ALLOT (R533). -/
def SHF_ALLOT : Reg := { id := 204, space := .shelf, off := 0xC, rw := 0x1FFFFFFF }
def SHF_ALLOT_ALLOT_W : Fld := ⟨SHF_ALLOT, 16, 0⟩
def SHF_ALLOT_PLAN_ID : Fld := ⟨SHF_ALLOT, 28, 17⟩
/-- SHF_CHG (R533). -/
def SHF_CHG : Reg := { id := 205, space := .shelf, off := 0x10, ro := 0x1FFFF }
def SHF_CHG_CHG_W : Fld := ⟨SHF_CHG, 16, 0⟩
/-- SHF_EVENTS (R533). -/
def SHF_EVENTS : Reg := { id := 206, space := .shelf, off := 0x14, rc := 0xFFFFFFFF }
def SHF_EVENTS_PRES_LOSS_CHG : Fld := ⟨SHF_EVENTS, 7, 0⟩
def SHF_EVENTS_CELL_FAULTS : Fld := ⟨SHF_EVENTS, 15, 8⟩
def SHF_EVENTS_AC_LOSSES : Fld := ⟨SHF_EVENTS, 23, 16⟩
def SHF_EVENTS_LIMIT_ENTRIES : Fld := ⟨SHF_EVENTS, 31, 24⟩
/-- BBU_STAT (R533). -/
def BBU_STAT : Reg := { id := 207, space := .shelf, off := 0x100, dims := [(0x10, 4)], ro := 0xFFFFF }
def BBU_STAT_STATE : Fld := ⟨BBU_STAT, 2, 0⟩
def BBU_STAT_REPLACE : Fld := ⟨BBU_STAT, 3, 3⟩
def BBU_STAT_SOC : Fld := ⟨BBU_STAT, 10, 4⟩
def BBU_STAT_PRECHECK_S : Fld := ⟨BBU_STAT, 16, 11⟩
def BBU_STAT_FAULT_KIND : Fld := ⟨BBU_STAT, 19, 17⟩
/-- BBU_ENERGY (R533). -/
def BBU_ENERGY : Reg := { id := 208, space := .shelf, off := 0x104, dims := [(0x10, 4)], ro := 0xFFFFFFFF }
def BBU_ENERGY_E_KJ : Fld := ⟨BBU_ENERGY, 15, 0⟩
def BBU_ENERGY_CAP_KJ : Fld := ⟨BBU_ENERGY, 31, 16⟩
/-- BBU_FLOW (R533). -/
def BBU_FLOW : Reg := { id := 209, space := .shelf, off := 0x108, dims := [(0x10, 4)], ro := 0xFFFFFF }
def BBU_FLOW_CURRENT : Fld := ⟨BBU_FLOW, 15, 0⟩
def BBU_FLOW_TEMP : Fld := ⟨BBU_FLOW, 23, 16⟩
/-- THM_LIMITS (R566). -/
def THM_LIMITS : Reg := { id := 210, off := 0x50000, st := 0xFFF, reset := 0x350 }
def THM_LIMITS_HOT_C : Fld := ⟨THM_LIMITS, 7, 0⟩
def THM_LIMITS_HYST_C : Fld := ⟨THM_LIMITS, 11, 8⟩
/-- THM_GHOST (R566). -/
def THM_GHOST : Reg := { id := 211, off := 0x50004, st := 0xFFFF01, reset := 0x281E01 }
def THM_GHOST_ENABLE : Fld := ⟨THM_GHOST, 0, 0⟩
def THM_GHOST_DELAY_S : Fld := ⟨THM_GHOST, 15, 8⟩
def THM_GHOST_FLOOR_C : Fld := ⟨THM_GHOST, 23, 16⟩
/-- THM_GHOST_STAT (R566). -/
def THM_GHOST_STAT : Reg := { id := 212, off := 0x50008, ro := 0xFFFFFFF7 }
def THM_GHOST_STAT_STATE : Fld := ⟨THM_GHOST_STAT, 1, 0⟩
def THM_GHOST_STAT_FLOOR_MISS : Fld := ⟨THM_GHOST_STAT, 2, 2⟩
def THM_GHOST_STAT_WARM_GROUPS : Fld := ⟨THM_GHOST_STAT, 15, 4⟩
def THM_GHOST_STAT_ENTRIES : Fld := ⟨THM_GHOST_STAT, 31, 16⟩
/-- THM_GHOST_CTL (R566). -/
def THM_GHOST_CTL : Reg := { id := 213, off := 0x5000C, wo := 0x1 }
def THM_GHOST_CTL_WAKE : Fld := ⟨THM_GHOST_CTL, 0, 0⟩
/-- THM_HOT_STAT (R566). -/
def THM_HOT_STAT : Reg := { id := 214, off := 0x50010, rc := 0xFF000000, ro := 0xFFFFFF }
def THM_HOT_STAT_HOT_GROUPS : Fld := ⟨THM_HOT_STAT, 11, 0⟩
def THM_HOT_STAT_JLIM_GROUPS : Fld := ⟨THM_HOT_STAT, 23, 12⟩
def THM_HOT_STAT_JEVENTS : Fld := ⟨THM_HOT_STAT, 31, 24⟩
/-- THM_COOLANT (R566). -/
def THM_COOLANT : Reg := { id := 215, off := 0x50014, ro := 0xFFFFF }
def THM_COOLANT_TRAY_IN : Fld := ⟨THM_COOLANT, 11, 0⟩
def THM_COOLANT_VALVE : Fld := ⟨THM_COOLANT, 18, 12⟩
def THM_COOLANT_VALID : Fld := ⟨THM_COOLANT, 19, 19⟩
/-- THM_CH_CFG (R566). -/
def THM_CH_CFG : Reg := { id := 216, off := 0x50100, dims := [(0x4, 72)], st := 0x1 }
def THM_CH_CFG_MODE : Fld := ⟨THM_CH_CFG, 0, 0⟩
/-- THM_CH_STAT (R566). -/
def THM_CH_STAT : Reg := { id := 217, off := 0x50300, dims := [(0x4, 72)], ro := 0x3FFFFFF }
def THM_CH_STAT_SPINE_TJ : Fld := ⟨THM_CH_STAT, 11, 0⟩
def THM_CH_STAT_LOFT_T : Fld := ⟨THM_CH_STAT, 23, 12⟩
def THM_CH_STAT_HOTTEST : Fld := ⟨THM_CH_STAT, 25, 24⟩
/-- THM_Q (R566). -/
def THM_Q : Reg := { id := 218, off := 0x51000, dims := [(0x4, 288)], ro := 0x3F000FFF }
def THM_Q_TJ : Fld := ⟨THM_Q, 11, 0⟩
def THM_Q_SENSORS_OK : Fld := ⟨THM_Q, 27, 24⟩
def THM_Q_HOT : Fld := ⟨THM_Q, 28, 28⟩
def THM_Q_JLIM : Fld := ⟨THM_Q, 29, 29⟩
/-- THM_ROT (R566). -/
def THM_ROT : Reg := { id := 219, off := 0x52000, dims := [(0x8, 288)], st := 0xFFFFF, reset := 0x3A0A2 }
def THM_ROT_ENABLE : Fld := ⟨THM_ROT, 0, 0⟩
def THM_ROT_GROUPS : Fld := ⟨THM_ROT, 3, 1⟩
def THM_ROT_PERIOD_S : Fld := ⟨THM_ROT, 11, 4⟩
def THM_ROT_WEAR_K : Fld := ⟨THM_ROT, 15, 12⟩
def THM_ROT_MIN_C : Fld := ⟨THM_ROT, 19, 16⟩
/-- THM_ROT_STAT (R566). -/
def THM_ROT_STAT : Reg := { id := 220, off := 0x52004, dims := [(0x8, 288)], rc := 0xFFFFFFFF }
def THM_ROT_STAT_DONE : Fld := ⟨THM_ROT_STAT, 15, 0⟩
def THM_ROT_STAT_SKIPPED : Fld := ⟨THM_ROT_STAT, 23, 16⟩
def THM_ROT_STAT_NOT_NEEDED : Fld := ⟨THM_ROT_STAT, 31, 24⟩
/-- AGE_CFG (R567). -/
def AGE_CFG : Reg := { id := 221, off := 0x60000, st := 0xFFFFFFFF, reset := 0x1414EA60 }
def AGE_CFG_EOL_PPM : Fld := ⟨AGE_CFG, 15, 0⟩
def AGE_CFG_WARN : Fld := ⟨AGE_CFG, 23, 16⟩
def AGE_CFG_RETIRE : Fld := ⟨AGE_CFG, 31, 24⟩
/-- AGE_STAT (R567). -/
def AGE_STAT : Reg := { id := 222, off := 0x60004, rc := 0xFFFFFFFF }
def AGE_STAT_FORCED : Fld := ⟨AGE_STAT, 15, 0⟩
def AGE_STAT_DISTURBED : Fld := ⟨AGE_STAT, 31, 16⟩
/-- AGE_LIFE (R567). -/
def AGE_LIFE : Reg := { id := 223, off := 0x61000, dims := [(0x8, 288)], wide := true, ro := 0xFFFFFFFFFFFF, reset := 0xFFFFFFFFFFFF }
def AGE_LIFE_EST : Fld := ⟨AGE_LIFE, 15, 0⟩
def AGE_LIFE_LOW : Fld := ⟨AGE_LIFE, 31, 16⟩
def AGE_LIFE_HIGH : Fld := ⟨AGE_LIFE, 47, 32⟩
/-- AGE_MON (R567). -/
def AGE_MON : Reg := { id := 224, off := 0x62000, dims := [(0x4, 1152)], ro := 0xFFFFFFFF, reset := 0x200000 }
def AGE_MON_DRIFT : Fld := ⟨AGE_MON, 19, 0⟩
def AGE_MON_QUALITY : Fld := ⟨AGE_MON, 21, 20⟩
def AGE_MON_AGE_S : Fld := ⟨AGE_MON, 31, 22⟩
/-- CDU_STAT (R568). -/
def CDU_STAT : Reg := { id := 225, space := .cdu, off := 0x0, ro := 0x7F7 }
def CDU_STAT_STATE : Fld := ⟨CDU_STAT, 2, 0⟩
def CDU_STAT_PUMP : Fld := ⟨CDU_STAT, 10, 4⟩
/-- CDU_TEMP (R568). -/
def CDU_TEMP : Reg := { id := 226, space := .cdu, off := 0x4, ro := 0xFFF0FFF }
def CDU_TEMP_SUPPLY : Fld := ⟨CDU_TEMP, 11, 0⟩
def CDU_TEMP_RETURN : Fld := ⟨CDU_TEMP, 27, 16⟩
/-- CDU_FLOW (R568). -/
def CDU_FLOW : Reg := { id := 227, space := .cdu, off := 0x8, ro := 0x7F0FFF }
def CDU_FLOW_FLOW : Fld := ⟨CDU_FLOW, 11, 0⟩
def CDU_FLOW_LEVEL : Fld := ⟨CDU_FLOW, 22, 16⟩
/-- CDU_FAC (R568). -/
def CDU_FAC : Reg := { id := 228, space := .cdu, off := 0xC, ro := 0xFFF0FFF }
def CDU_FAC_FAC_IN : Fld := ⟨CDU_FAC, 11, 0⟩
def CDU_FAC_FAC_OUT : Fld := ⟨CDU_FAC, 27, 16⟩
/-- HIF_ID (R595). -/
def HIF_ID : Reg := { id := 229, off := 0x110000, ro := 0xFFFFFFFF, reset := 0x36C7E5 }
def HIF_ID_VENDOR : Fld := ⟨HIF_ID, 15, 0⟩
def HIF_ID_DEVICE : Fld := ⟨HIF_ID, 31, 16⟩
/-- HIF_LINK (R595). -/
def HIF_LINK : Reg := { id := 230, off := 0x110010, ro := 0xFFFF }
def HIF_LINK_SPEED : Fld := ⟨HIF_LINK, 2, 0⟩
def HIF_LINK_WIDTH : Fld := ⟨HIF_LINK, 7, 3⟩
def HIF_LINK_STATE : Fld := ⟨HIF_LINK, 11, 8⟩
def HIF_LINK_DSTATE : Fld := ⟨HIF_LINK, 13, 12⟩
def HIF_LINK_PERST : Fld := ⟨HIF_LINK, 14, 14⟩
def HIF_LINK_BME : Fld := ⟨HIF_LINK, 15, 15⟩
/-- HIF_LINK_EVENTS (R595). -/
def HIF_LINK_EVENTS : Reg := { id := 231, off := 0x110014, rc := 0xFFFFFFFF }
def HIF_LINK_EVENTS_LINK_DOWN : Fld := ⟨HIF_LINK_EVENTS, 7, 0⟩
def HIF_LINK_EVENTS_RECOVERY : Fld := ⟨HIF_LINK_EVENTS, 15, 8⟩
def HIF_LINK_EVENTS_RESETS : Fld := ⟨HIF_LINK_EVENTS, 23, 16⟩
def HIF_LINK_EVENTS_CORR_ERR : Fld := ⟨HIF_LINK_EVENTS, 31, 24⟩
/-- HIF_PM (R595). -/
def HIF_PM : Reg := { id := 232, off := 0x110020, rw := 0xFFFFFF, reset := 0xA8200 }
def HIF_PM_WAKE_EN : Fld := ⟨HIF_PM, 15, 0⟩
def HIF_PM_L1_IDLE_US : Fld := ⟨HIF_PM, 23, 16⟩
/-- HIF_WAKE (R595). -/
def HIF_WAKE : Reg := { id := 233, off := 0x110024, w1c := 0xFFFF, ro := 0xF0000 }
def HIF_WAKE_GROUPS : Fld := ⟨HIF_WAKE, 15, 0⟩
def HIF_WAKE_SIGNAL : Fld := ⟨HIF_WAKE, 17, 16⟩
def HIF_WAKE_WAKE_ASSERTED : Fld := ⟨HIF_WAKE, 18, 18⟩
def HIF_WAKE_PME_STATUS : Fld := ⟨HIF_WAKE, 19, 19⟩
/-- HIF_MSIX_STAT (R595). -/
def HIF_MSIX_STAT : Reg := { id := 234, off := 0x110028, rc := 0xFFFF0000, ro := 0x7 }
def HIF_MSIX_STAT_PENDING : Fld := ⟨HIF_MSIX_STAT, 0, 0⟩
def HIF_MSIX_STAT_MASKED : Fld := ⟨HIF_MSIX_STAT, 1, 1⟩
def HIF_MSIX_STAT_ENABLED : Fld := ⟨HIF_MSIX_STAT, 2, 2⟩
def HIF_MSIX_STAT_SENT : Fld := ⟨HIF_MSIX_STAT, 31, 16⟩
/-- HIF_MSIX_ADDR (R595). -/
def HIF_MSIX_ADDR : Reg := { id := 235, off := 0x111000, wide := true, rw := 0xFFFFFFFFFFFFFFFF }
def HIF_MSIX_ADDR_ADDR : Fld := ⟨HIF_MSIX_ADDR, 63, 0⟩
/-- HIF_MSIX_DATA (R595). -/
def HIF_MSIX_DATA : Reg := { id := 236, off := 0x111008, rw := 0xFFFFFFFF }
def HIF_MSIX_DATA_DATA : Fld := ⟨HIF_MSIX_DATA, 31, 0⟩
/-- HIF_MSIX_VCTL (R595). -/
def HIF_MSIX_VCTL : Reg := { id := 237, off := 0x11100C, rw := 0x1, reset := 0x1 }
def HIF_MSIX_VCTL_MASK : Fld := ⟨HIF_MSIX_VCTL, 0, 0⟩
/-- HIF_MSIX_PBA (R595). -/
def HIF_MSIX_PBA : Reg := { id := 238, off := 0x111800, ro := 0x1 }
def HIF_MSIX_PBA_PENDING : Fld := ⟨HIF_MSIX_PBA, 0, 0⟩
/-- HIF_DMA_BASE (R595). -/
def HIF_DMA_BASE : Reg := { id := 239, off := 0x112000, dims := [(0x40, 4)], wide := true, rw := 0xFFFFFFFFFFFFF000 }
def HIF_DMA_BASE_ADDR : Fld := ⟨HIF_DMA_BASE, 63, 12⟩
/-- HIF_DMA_CFG (R595). -/
def HIF_DMA_CFG : Reg := { id := 240, off := 0x112008, dims := [(0x40, 4)], rw := 0x1F, wo := 0x100 }
def HIF_DMA_CFG_ENABLE : Fld := ⟨HIF_DMA_CFG, 0, 0⟩
def HIF_DMA_CFG_RING_LOG2 : Fld := ⟨HIF_DMA_CFG, 4, 1⟩
def HIF_DMA_CFG_RESUME : Fld := ⟨HIF_DMA_CFG, 8, 8⟩
/-- HIF_DMA_TAIL (R595). -/
def HIF_DMA_TAIL : Reg := { id := 241, off := 0x11200C, dims := [(0x40, 4)], rw := 0xFFFFFFFF }
def HIF_DMA_TAIL_COUNT : Fld := ⟨HIF_DMA_TAIL, 31, 0⟩
/-- HIF_DMA_HEAD (R595). -/
def HIF_DMA_HEAD : Reg := { id := 242, off := 0x112010, dims := [(0x40, 4)], ro := 0xFFFFFFFF }
def HIF_DMA_HEAD_COUNT : Fld := ⟨HIF_DMA_HEAD, 31, 0⟩
/-- HIF_DMA_STAT (R595). -/
def HIF_DMA_STAT : Reg := { id := 243, off := 0x112014, dims := [(0x40, 4)], ro := 0xFF07 }
def HIF_DMA_STAT_STATE : Fld := ⟨HIF_DMA_STAT, 1, 0⟩
def HIF_DMA_STAT_PAUSED : Fld := ⟨HIF_DMA_STAT, 2, 2⟩
def HIF_DMA_STAT_LAST_CODE : Fld := ⟨HIF_DMA_STAT, 15, 8⟩
/-- HIF_DMA_BYTES (R595). -/
def HIF_DMA_BYTES : Reg := { id := 244, off := 0x112018, dims := [(0x40, 4)], wide := true, ro := 0xFFFFFFFFFFFFFFFF }
def HIF_DMA_BYTES_COUNT : Fld := ⟨HIF_DMA_BYTES, 63, 0⟩
/-- ATN_SUMMARY (R617). -/
def ATN_SUMMARY : Reg := { id := 245, off := 0x10000, ro := 0xFFFF }
def ATN_SUMMARY_GROUPS : Fld := ⟨ATN_SUMMARY, 15, 0⟩
/-- ATN_PENDING (R617). -/
def ATN_PENDING : Reg := { id := 246, off := 0x10004, ro := 0xFFFF }
def ATN_PENDING_GROUPS : Fld := ⟨ATN_PENDING, 15, 0⟩
/-- ATN_MASK (R617). -/
def ATN_MASK : Reg := { id := 247, off := 0x10008, rw := 0xFFFF }
def ATN_MASK_GROUPS : Fld := ⟨ATN_MASK, 15, 0⟩
/-- ATN_TMC_MASK (R617). -/
def ATN_TMC_MASK : Reg := { id := 248, off := 0x1000C, rw := 0xFFFF, reset := 0xE608 }
def ATN_TMC_MASK_GROUPS : Fld := ⟨ATN_TMC_MASK, 15, 0⟩
/-- ATN_COAL (R617). -/
def ATN_COAL : Reg := { id := 249, off := 0x10010, rw := 0x3FF03FF, reset := 0x64000A }
def ATN_COAL_MSIX_US : Fld := ⟨ATN_COAL, 9, 0⟩
def ATN_COAL_TMC_US : Fld := ⟨ATN_COAL, 25, 16⟩
/-- ATN_AGAIN (R617). -/
def ATN_AGAIN : Reg := { id := 250, off := 0x10014, w1c := 0xFFFF }
def ATN_AGAIN_GROUPS : Fld := ⟨ATN_AGAIN, 15, 0⟩
/-- ATN_TMC_SEEN (R617). -/
def ATN_TMC_SEEN : Reg := { id := 251, off := 0x10018, w1c := 0xFFFF }
def ATN_TMC_SEEN_GROUPS : Fld := ⟨ATN_TMC_SEEN, 15, 0⟩
/-- ATN_TEST (R617). -/
def ATN_TEST : Reg := { id := 252, off := 0x1001C, wo := 0xFFFF }
def ATN_TEST_GROUPS : Fld := ⟨ATN_TEST, 15, 0⟩
/-- ATN_SUPPRESSED (R617). -/
def ATN_SUPPRESSED : Reg := { id := 253, off := 0x10020, rc := 0xFFFFFFFF }
def ATN_SUPPRESSED_COUNT : Fld := ⟨ATN_SUPPRESSED, 31, 0⟩
/-- ATN_CAUSE (R617). -/
def ATN_CAUSE : Reg := { id := 254, off := 0x10100, dims := [(0x10, 16)], w1c := 0xFFFFFFFF }
def ATN_CAUSE_LEAF : Fld := ⟨ATN_CAUSE, 30, 0⟩
def ATN_CAUSE_TEST : Fld := ⟨ATN_CAUSE, 31, 31⟩
/-- ATN_LMASK (R617). -/
def ATN_LMASK : Reg := { id := 255, off := 0x10104, dims := [(0x10, 16)], rw := 0xFFFFFFFF }
def ATN_LMASK_LEAF : Fld := ⟨ATN_LMASK, 30, 0⟩
def ATN_LMASK_TEST : Fld := ⟨ATN_LMASK, 31, 31⟩
/-- ATN_GTIME (R617). -/
def ATN_GTIME : Reg := { id := 256, off := 0x10108, dims := [(0x10, 16)], wide := true, ro := 0xFFFFFFFFFFFFFFFF }
def ATN_GTIME_TIME : Fld := ⟨ATN_GTIME, 63, 0⟩
/-- ATN_PSRC (R617). -/
def ATN_PSRC : Reg := { id := 257, off := 0x10400, dims := [(0x4, 9)], w1c := 0xFFFFFFFF }
def ATN_PSRC_SRC : Fld := ⟨ATN_PSRC, 31, 0⟩
/-- ATN_FSRC (R617). -/
def ATN_FSRC : Reg := { id := 258, off := 0x10440, dims := [(0x4, 3)], w1c := 0xFFFFFFFF }
def ATN_FSRC_SRC : Fld := ⟨ATN_FSRC, 31, 0⟩
/-- ATN_CUE_SRC (R617). -/
def ATN_CUE_SRC : Reg := { id := 259, off := 0x10450, w1c := 0xFFFFFFFF }
def ATN_CUE_SRC_SRC : Fld := ⟨ATN_CUE_SRC, 31, 0⟩
/-- TB_NOW (R639). -/
def TB_NOW : Reg := { id := 260, off := 0x70000, wide := true, ro := 0xFFFFFFFFFFFFFFFF }
def TB_NOW_TIME : Fld := ⟨TB_NOW, 63, 0⟩
/-- TB_STAT (R639). -/
def TB_STAT : Reg := { id := 261, off := 0x70008, ro := 0xFFF, reset := 0x802 }
def TB_STAT_QUALITY : Fld := ⟨TB_STAT, 1, 0⟩
def TB_STAT_PPS_OK : Fld := ⟨TB_STAT, 2, 2⟩
def TB_STAT_TOD_OK : Fld := ⟨TB_STAT, 3, 3⟩
def TB_STAT_HOLD_SRC : Fld := ⟨TB_STAT, 5, 4⟩
def TB_STAT_SLEWING : Fld := ⟨TB_STAT, 6, 6⟩
def TB_STAT_STEP_WAIT : Fld := ⟨TB_STAT, 7, 7⟩
def TB_STAT_SCHED_ARMED : Fld := ⟨TB_STAT, 8, 8⟩
def TB_STAT_RMC_ID : Fld := ⟨TB_STAT, 9, 9⟩
def TB_STAT_RMC_QUALITY : Fld := ⟨TB_STAT, 11, 10⟩
/-- TB_OFFSET (R639). -/
def TB_OFFSET : Reg := { id := 262, off := 0x7000C, ro := 0xFFFFFFFF }
def TB_OFFSET_OFFSET : Fld := ⟨TB_OFFSET, 31, 0⟩
/-- TB_SLEW (R639). -/
def TB_SLEW : Reg := { id := 263, off := 0x70010, ro := 0xFFFFFFFF }
def TB_SLEW_SLEW : Fld := ⟨TB_SLEW, 31, 0⟩
/-- TB_ERR_BOUND (R639). -/
def TB_ERR_BOUND : Reg := { id := 264, off := 0x70014, ro := 0xFFFFFFFF, reset := 0xFFFFFFFF }
def TB_ERR_BOUND_BOUND : Fld := ⟨TB_ERR_BOUND, 31, 0⟩
/-- TB_UTC (R639). -/
def TB_UTC : Reg := { id := 265, off := 0x70018, ro := 0x7FFFF }
def TB_UTC_UTC_OFFSET : Fld := ⟨TB_UTC, 15, 0⟩
def TB_UTC_LEAP59 : Fld := ⟨TB_UTC, 16, 16⟩
def TB_UTC_LEAP61 : Fld := ⟨TB_UTC, 17, 17⟩
def TB_UTC_VALID : Fld := ⟨TB_UTC, 18, 18⟩
/-- TB_EVENTS (R639). -/
def TB_EVENTS : Reg := { id := 266, off := 0x7001C, rc := 0xFFFFFFFF }
def TB_EVENTS_MISSED : Fld := ⟨TB_EVENTS, 7, 0⟩
def TB_EVENTS_FRAME_ERR : Fld := ⟨TB_EVENTS, 15, 8⟩
def TB_EVENTS_STEPS : Fld := ⟨TB_EVENTS, 23, 16⟩
def TB_EVENTS_REACQ : Fld := ⟨TB_EVENTS, 31, 24⟩
/-- TB_LAST_STEP (R639). -/
def TB_LAST_STEP : Reg := { id := 267, off := 0x70020, wide := true, ro := 0xFFFFFFFFFFFFFFFF }
def TB_LAST_STEP_VALUE : Fld := ⟨TB_LAST_STEP, 63, 0⟩
/-- TB_STEP_TIME (R639). -/
def TB_STEP_TIME : Reg := { id := 268, off := 0x70028, wide := true, ro := 0xFFFFFFFFFFFFFFFF }
def TB_STEP_TIME_VALUE : Fld := ⟨TB_STEP_TIME, 63, 0⟩
/-- TB_HOLD_START (R639). -/
def TB_HOLD_START : Reg := { id := 269, off := 0x70030, wide := true, ro := 0xFFFFFFFFFFFFFFFF }
def TB_HOLD_START_VALUE : Fld := ⟨TB_HOLD_START, 63, 0⟩
/-- TB_DELAY (R639). -/
def TB_DELAY : Reg := { id := 270, off := 0x70038, rw := 0xFFFF }
def TB_DELAY_DELAY_NS : Fld := ⟨TB_DELAY, 15, 0⟩
/-- TMC_KEEPALIVE0 (R679). -/
def TMC_KEEPALIVE0 : Reg := { id := 271, off := 0x108000, rw := 0xFFFF001F }
def TMC_KEEPALIVE0_RMC0_SEEN : Fld := ⟨TMC_KEEPALIVE0, 0, 0⟩
def TMC_KEEPALIVE0_RMC1_SEEN : Fld := ⟨TMC_KEEPALIVE0, 1, 1⟩
def TMC_KEEPALIVE0_ACTIVE_RMC : Fld := ⟨TMC_KEEPALIVE0, 2, 2⟩
def TMC_KEEPALIVE0_PLANNER_OK : Fld := ⟨TMC_KEEPALIVE0, 3, 3⟩
def TMC_KEEPALIVE0_STATIC_CAP : Fld := ⟨TMC_KEEPALIVE0, 4, 4⟩
def TMC_KEEPALIVE0_SEQ : Fld := ⟨TMC_KEEPALIVE0, 31, 16⟩
/-- TMC_KEEPALIVE1 (R679). -/
def TMC_KEEPALIVE1 : Reg := { id := 272, off := 0x108004, rw := 0x7FFFF }
def TMC_KEEPALIVE1_TRAY_IN : Fld := ⟨TMC_KEEPALIVE1, 11, 0⟩
def TMC_KEEPALIVE1_VALVE : Fld := ⟨TMC_KEEPALIVE1, 18, 12⟩
/-- TMC_REQ (R679). -/
def TMC_REQ : Reg := { id := 273, off := 0x108008, ro := 0x7F, reset := 0x64 }
def TMC_REQ_VALVE_PCT : Fld := ⟨TMC_REQ, 6, 0⟩
/-- TMC_INFO (R679). -/
def TMC_INFO : Reg := { id := 274, off := 0x10800C, rw := 0xFFFFFFFF }
def TMC_INFO_FW : Fld := ⟨TMC_INFO, 31, 0⟩
/-- FW_SMC_SLOT (R679). -/
def FW_SMC_SLOT : Reg := { id := 275, off := 0x108040, dims := [(0x8, 2)], ro := 0xF }
def FW_SMC_SLOT_STATE : Fld := ⟨FW_SMC_SLOT, 2, 0⟩
def FW_SMC_SLOT_RUNNING : Fld := ⟨FW_SMC_SLOT, 3, 3⟩
/-- FW_SMC_VER (R679). -/
def FW_SMC_VER : Reg := { id := 276, off := 0x108044, dims := [(0x8, 2)], ro := 0xFFFFFFFF }
def FW_SMC_VER_VERSION : Fld := ⟨FW_SMC_VER, 31, 0⟩
/-- B72_ID (R680). -/
def B72_ID : Reg := { id := 277, space := .chip, off := 0x0, ro := 0xFFFFFF, reset := 0x104272 }
def B72_ID_PART : Fld := ⟨B72_ID, 15, 0⟩
def B72_ID_STEP_MAJOR : Fld := ⟨B72_ID, 19, 16⟩
def B72_ID_STEP_MINOR : Fld := ⟨B72_ID, 23, 20⟩
/-- B72_ACT_STAT (R680). -/
def B72_ACT_STAT : Reg := { id := 278, space := .chip, off := 0x10, ro := 0xF1771 }
def B72_ACT_STAT_STAMP : Fld := ⟨B72_ACT_STAT, 0, 0⟩
def B72_ACT_STAT_A_STATE : Fld := ⟨B72_ACT_STAT, 6, 4⟩
def B72_ACT_STAT_B_STATE : Fld := ⟨B72_ACT_STAT, 10, 8⟩
def B72_ACT_STAT_LOCAL_QUIET : Fld := ⟨B72_ACT_STAT, 12, 12⟩
def B72_ACT_STAT_MACHINE : Fld := ⟨B72_ACT_STAT, 19, 16⟩
/-- B72_ACT_CTL (R680). -/
def B72_ACT_CTL : Reg := { id := 279, space := .chip, off := 0x14, rw := 0xF0001, wo := 0x72 }
def B72_ACT_CTL_STAMP : Fld := ⟨B72_ACT_CTL, 0, 0⟩
def B72_ACT_CTL_ACT : Fld := ⟨B72_ACT_CTL, 1, 1⟩
def B72_ACT_CTL_STATE : Fld := ⟨B72_ACT_CTL, 6, 4⟩
def B72_ACT_CTL_MACHINE : Fld := ⟨B72_ACT_CTL, 19, 16⟩
/-- B72_EVENTS (R680). -/
def B72_EVENTS : Reg := { id := 280, space := .chip, off := 0x20, rc := 0xFFFFFFFF }
def B72_EVENTS_NOROUTE : Fld := ⟨B72_EVENTS, 11, 0⟩
def B72_EVENTS_HCRC : Fld := ⟨B72_EVENTS, 23, 12⟩
def B72_EVENTS_RT_BUSY : Fld := ⟨B72_EVENTS, 31, 24⟩
/-- B72_RT (R680). -/
def B72_RT : Reg := { id := 281, space := .chip, off := 0x1000, dims := [(0x100, 2), (0x4, 64)], rw := 0x800000FF }
def B72_RT_PORT : Fld := ⟨B72_RT, 6, 0⟩
def B72_RT_GROUP : Fld := ⟨B72_RT, 7, 7⟩
def B72_RT_VALID : Fld := ⟨B72_RT, 31, 31⟩
/-- B72_UPGRP (R680). -/
def B72_UPGRP : Reg := { id := 282, space := .chip, off := 0x1400, dims := [(0x40, 2), (0x4, 8)], rw := 0xFFFFFFFF }
def B72_UPGRP_MASK : Fld := ⟨B72_UPGRP, 31, 0⟩
/-- B72_PORT (R680). -/
def B72_PORT : Reg := { id := 283, space := .chip, off := 0x2000, dims := [(0x4, 72)], ro := 0x3FF }
def B72_PORT_STATE : Fld := ⟨B72_PORT, 2, 0⟩
def B72_PORT_MISCABLED : Fld := ⟨B72_PORT, 3, 3⟩
def B72_PORT_PEER : Fld := ⟨B72_PORT, 9, 4⟩
/-- TWI_TGT_CFG (R701). -/
def TWI_TGT_CFG : Reg := { id := 284, off := 0x100000, rw := 0x1F0F, reset := 0x1408 }
def TWI_TGT_CFG_GLITCH : Fld := ⟨TWI_TGT_CFG, 2, 0⟩
def TWI_TGT_CFG_PEC_REQ : Fld := ⟨TWI_TGT_CFG, 3, 3⟩
def TWI_TGT_CFG_STRETCH_MS : Fld := ⟨TWI_TGT_CFG, 12, 8⟩
/-- TWI_TGT_STAT (R701). -/
def TWI_TGT_STAT : Reg := { id := 285, off := 0x100004, ro := 0xFFFFFF77 }
def TWI_TGT_STAT_STATE : Fld := ⟨TWI_TGT_STAT, 1, 0⟩
def TWI_TGT_STAT_WINDOW_READY : Fld := ⟨TWI_TGT_STAT, 2, 2⟩
def TWI_TGT_STAT_LAST_RESULT : Fld := ⟨TWI_TGT_STAT, 6, 4⟩
def TWI_TGT_STAT_LAST_TAG : Fld := ⟨TWI_TGT_STAT, 15, 8⟩
def TWI_TGT_STAT_LAST_WAKE_US : Fld := ⟨TWI_TGT_STAT, 31, 16⟩
/-- TWI_TGT_EVENTS (R701). -/
def TWI_TGT_EVENTS : Reg := { id := 286, off := 0x100008, rc := 0xFFFFFFFF }
def TWI_TGT_EVENTS_PEC_BAD : Fld := ⟨TWI_TGT_EVENTS, 7, 0⟩
def TWI_TGT_EVENTS_BAD_CMD : Fld := ⟨TWI_TGT_EVENTS, 15, 8⟩
def TWI_TGT_EVENTS_STRETCH_TO : Fld := ⟨TWI_TGT_EVENTS, 23, 16⟩
def TWI_TGT_EVENTS_DUP : Fld := ⟨TWI_TGT_EVENTS, 31, 24⟩
/-- TWI_CTRL_CFG (R701). -/
def TWI_CTRL_CFG : Reg := { id := 287, off := 0x100100, rw := 0x7FF, reset := 0x4E8 }
def TWI_CTRL_CFG_SEGMENT : Fld := ⟨TWI_CTRL_CFG, 3, 0⟩
def TWI_CTRL_CFG_SPEED : Fld := ⟨TWI_CTRL_CFG, 5, 4⟩
def TWI_CTRL_CFG_RETRY : Fld := ⟨TWI_CTRL_CFG, 9, 6⟩
def TWI_CTRL_CFG_PEC : Fld := ⟨TWI_CTRL_CFG, 10, 10⟩
/-- TWI_CTRL_CMD (R701). -/
def TWI_CTRL_CMD : Reg := { id := 288, off := 0x100104, rw := 0x3FFFF7F, wo := 0x80000000, reset := 0x3F00000 }
def TWI_CTRL_CMD_ADDR : Fld := ⟨TWI_CTRL_CMD, 6, 0⟩
def TWI_CTRL_CMD_WLEN : Fld := ⟨TWI_CTRL_CMD, 13, 8⟩
def TWI_CTRL_CMD_RLEN : Fld := ⟨TWI_CTRL_CMD, 19, 14⟩
def TWI_CTRL_CMD_BRANCH : Fld := ⟨TWI_CTRL_CMD, 25, 20⟩
def TWI_CTRL_CMD_GO : Fld := ⟨TWI_CTRL_CMD, 31, 31⟩
/-- TWI_CTRL_STAT (R701). -/
def TWI_CTRL_STAT : Reg := { id := 289, off := 0x100108, ro := 0x1FFF3F0F }
def TWI_CTRL_STAT_BUSY : Fld := ⟨TWI_CTRL_STAT, 0, 0⟩
def TWI_CTRL_STAT_RESULT : Fld := ⟨TWI_CTRL_STAT, 3, 1⟩
def TWI_CTRL_STAT_NACK_AT : Fld := ⟨TWI_CTRL_STAT, 13, 8⟩
def TWI_CTRL_STAT_RETRIES : Fld := ⟨TWI_CTRL_STAT, 19, 16⟩
def TWI_CTRL_STAT_STUCK : Fld := ⟨TWI_CTRL_STAT, 28, 20⟩
/-- TWI_CTRL_BUF (R701). -/
def TWI_CTRL_BUF : Reg := { id := 290, off := 0x100140, dims := [(0x4, 8)], rw := 0xFFFFFFFF }
def TWI_CTRL_BUF_BYTES : Fld := ⟨TWI_CTRL_BUF, 31, 0⟩
/-- DBG_CTL (R725). -/
def DBG_CTL : Reg := { id := 291, off := 0xF0000, rw := 0x3 }
def DBG_CTL_ATTACH : Fld := ⟨DBG_CTL, 0, 0⟩
def DBG_CTL_KEEP : Fld := ⟨DBG_CTL, 1, 1⟩
/-- DBG_STAT (R725). -/
def DBG_STAT : Reg := { id := 292, off := 0xF0004, ro := 0xFFFF000F }
def DBG_STAT_ATTACHED : Fld := ⟨DBG_STAT, 0, 0⟩
def DBG_STAT_PRESENT : Fld := ⟨DBG_STAT, 1, 1⟩
def DBG_STAT_PATH : Fld := ⟨DBG_STAT, 3, 2⟩
def DBG_STAT_HALTED : Fld := ⟨DBG_STAT, 31, 16⟩
/-- DBG_SEL (R725). -/
def DBG_SEL : Reg := { id := 293, off := 0xF0010, rw := 0x7FFFFFF }
def DBG_SEL_FIELD : Fld := ⟨DBG_SEL, 6, 0⟩
def DBG_SEL_UNIT : Fld := ⟨DBG_SEL, 16, 7⟩
def DBG_SEL_BCAST : Fld := ⟨DBG_SEL, 17, 17⟩
def DBG_SEL_PART : Fld := ⟨DBG_SEL, 26, 18⟩
/-- DBG_CORE_CTL (R725). -/
def DBG_CORE_CTL : Reg := { id := 294, off := 0xF0014, wo := 0x7 }
def DBG_CORE_CTL_HALT : Fld := ⟨DBG_CORE_CTL, 0, 0⟩
def DBG_CORE_CTL_RESUME : Fld := ⟨DBG_CORE_CTL, 1, 1⟩
def DBG_CORE_CTL_STEP : Fld := ⟨DBG_CORE_CTL, 2, 2⟩
/-- DBG_CORE_STAT (R725). -/
def DBG_CORE_STAT : Reg := { id := 295, sel := .core, off := 0xF0018, ro := 0x7FFF377 }
def DBG_CORE_STAT_STATE : Fld := ⟨DBG_CORE_STAT, 2, 0⟩
def DBG_CORE_STAT_REASON : Fld := ⟨DBG_CORE_STAT, 6, 4⟩
def DBG_CORE_STAT_HIT : Fld := ⟨DBG_CORE_STAT, 9, 8⟩
def DBG_CORE_STAT_PC : Fld := ⟨DBG_CORE_STAT, 23, 12⟩
def DBG_CORE_STAT_ACC_ERR : Fld := ⟨DBG_CORE_STAT, 26, 24⟩
/-- DBG_REG_SEL (R725). -/
def DBG_REG_SEL : Reg := { id := 296, sel := .core, off := 0xF0020, rw := 0x3F }
def DBG_REG_SEL_INDEX : Fld := ⟨DBG_REG_SEL, 5, 0⟩
/-- DBG_REG_DATA (R725). -/
def DBG_REG_DATA : Reg := { id := 297, sel := .core, off := 0xF0024, rw := 0xFFFFFFFF }
def DBG_REG_DATA_VALUE : Fld := ⟨DBG_REG_DATA, 31, 0⟩
/-- DBG_MEM_ADDR (R725). -/
def DBG_MEM_ADDR : Reg := { id := 298, sel := .core, off := 0xF0028, rw := 0x31FFFF }
def DBG_MEM_ADDR_ADDR : Fld := ⟨DBG_MEM_ADDR, 16, 0⟩
def DBG_MEM_ADDR_SPACE : Fld := ⟨DBG_MEM_ADDR, 20, 20⟩
def DBG_MEM_ADDR_AUTOINC : Fld := ⟨DBG_MEM_ADDR, 21, 21⟩
/-- DBG_MEM_DATA (R725). -/
def DBG_MEM_DATA : Reg := { id := 299, sel := .core, off := 0xF0030, wide := true, rw := 0xFFFFFFFFFFFFFFFF }
def DBG_MEM_DATA_DATA : Fld := ⟨DBG_MEM_DATA, 63, 0⟩
/-- DBG_BP (R725). -/
def DBG_BP : Reg := { id := 300, sel := .core, off := 0xF0040, dims := [(0x4, 4)], rw := 0x80000FFF }
def DBG_BP_INDEX : Fld := ⟨DBG_BP, 11, 0⟩
def DBG_BP_ENABLE : Fld := ⟨DBG_BP, 31, 31⟩
/-- DBG_WP_ADDR (R725). -/
def DBG_WP_ADDR : Reg := { id := 301, sel := .core, off := 0xF0050, dims := [(0x8, 2)], rw := 0x1FFFF }
def DBG_WP_ADDR_BASE : Fld := ⟨DBG_WP_ADDR, 16, 0⟩
/-- DBG_WP_CFG (R725). -/
def DBG_WP_CFG : Reg := { id := 302, sel := .core, off := 0xF0054, dims := [(0x8, 2)], rw := 0x80031FFF, reset := 0x4 }
def DBG_WP_CFG_LEN : Fld := ⟨DBG_WP_CFG, 12, 0⟩
def DBG_WP_CFG_KIND : Fld := ⟨DBG_WP_CFG, 17, 16⟩
def DBG_WP_CFG_ENABLE : Fld := ⟨DBG_WP_CFG, 31, 31⟩
/-- DBG_HALT_CAP (R725). -/
def DBG_HALT_CAP : Reg := { id := 303, off := 0xF0100, wide := true, w1c := 0x8000000000000000, ro := 0xFFFFF }
def DBG_HALT_CAP_FIELD : Fld := ⟨DBG_HALT_CAP, 6, 0⟩
def DBG_HALT_CAP_UNIT : Fld := ⟨DBG_HALT_CAP, 16, 7⟩
def DBG_HALT_CAP_REASON : Fld := ⟨DBG_HALT_CAP, 19, 17⟩
def DBG_HALT_CAP_VALID : Fld := ⟨DBG_HALT_CAP, 63, 63⟩
/-- DBG_FHALT (R725). -/
def DBG_FHALT : Reg := { id := 304, off := 0xF0110, dims := [(0x4, 3)], ro := 0xFFFFFFFF }
def DBG_FHALT_FIELDS : Fld := ⟨DBG_FHALT, 31, 0⟩
/-- DBG_PART_CTL (R725). -/
def DBG_PART_CTL : Reg := { id := 305, off := 0xF1000, dims := [(0x4, 288)], rw := 0x3 }
def DBG_PART_CTL_CASCADE : Fld := ⟨DBG_PART_CTL, 0, 0⟩
def DBG_PART_CTL_HALT_ON_FAULT : Fld := ⟨DBG_PART_CTL, 1, 1⟩
/-- DBG_PART_STAT (R725). -/
def DBG_PART_STAT : Reg := { id := 306, off := 0xF1800, dims := [(0x4, 288)], rc := 0xFFFF0000, ro := 0xFFFF }
def DBG_PART_STAT_HALTED : Fld := ⟨DBG_PART_STAT, 15, 0⟩
def DBG_PART_STAT_ENDED : Fld := ⟨DBG_PART_STAT, 31, 16⟩
/-- Registers of the management window, part 0. -/
def windowRegs0 : List Reg :=
  [NET_SELF, NET_MEMBERS_LO, NET_MEMBERS_HI, NET_LINKS_USED, NET_MGMT, ID_CHIP,
   ID_SMC_FW, ID_SERIAL, ID_WINCTL, ID_ERR_STAT, ID_ERR_ADDR, ID_STRUCT_TAG,
   ID_JRNL_NEXT, ID_JRNL_OLDEST, ID_JRNL_STAT, ID_JRNL_SEL, ID_JRNL_FETCH, ID_JRNL_ENTRY,
   PWR_OPPOINT, PWR_OPP_STAT, PWR_GATE_EVENTS, PWR_QTRIM, PWR_QRATE, CORE_MODE,
   CORE_FAULT, CORE_CB_PEAK, CORE_BANK_WAIT, CORE_STEAL_OK, CORE_STEAL_MISS, CORE_ECC_CORR,
   CORE_STAT, CORE_TOKENS, NET_ARB, NET_INJ_AGE, NET_DROP_WAFER, SPN_STAT,
   SPN_DROP, SPN_DROP_CAP, SPN_ECC_CORR, SPN_FLITS, SPN_STARVE, LNK_STAT,
   LNK_PEER, LNK_CFG, LNK_FEC_CORR, LNK_FEC_BAD, LNK_RETRY, LNK_EVENTS]
/-- Registers of the management window, part 1. -/
def windowRegs1 : List Reg :=
  [LNK_LANE_CORR, TRN_CFG, TRN_RETX, TRN_DUP, TRN_REORDER, TRN_ATOM_REPLAY,
   TRN_FAIL, NET_ACT_STAT, NET_ACT_STAMP, NET_ACT_GEN, NET_ACT_DRAIN, NET_ACT_APPLY_TIME,
   NET_ACT_FREE_TIME, NET_RT_SEL, NET_RT_DATA, NET_SEAT_SEL, NET_SEAT_DATA, IMG_SRC_OFF,
   IMG_LEN, IMG_CTL, IMG_STAT, IMG_OBJECTS, IMG_FAIL_OFF, IMG_ELAPSED,
   IMG_TAG, IMG_DIGEST, IMG_PUSH_DST, IMG_PUSH_OFF, IMG_PUSH_CTL, IMG_PUSH_STAT,
   IMG_PUSH_FAILED, CUE_CTRL, CUE_TIME, CUE_MID, CUE_DUP, CUE_DIGEST_SEL,
   CUE_DIGEST, CUE_SSTAT, CUE_SFAIL, CUE_SOBJ, CUE_SUS, CUE_STIME,
   CUE_SJSEQ, BUP_STAT, BUP_ELAPSED, BUP_NEW, BUP_USABLE, BUP_CORECOUNT]
/-- Registers of the management window, part 2. -/
def windowRegs2 : List Reg :=
  [BUP_RETIRED_LO, BUP_RETIRED_HI, BUP_LOFT_DEAD_LO, BUP_LOFT_DEAD_HI, BUP_LDG_STAT, BUP_LDG_EPOCH,
   BUP_LDG_SEL, BUP_LDG_FETCH, BUP_LDG_ENTRY, BUP_CTL, BUP_FDR_ARM, BUP_FDR_STAT,
   BUP_RETEST_STAT, BUP_SKIP, BUP_HOLEMAP, LOFT_STAT, LOFT_CE, LOFT_UE,
   LOFT_EVENTS, LOFT_UE_CAP, LOFT_RANGE_CAP, LOFT_SCRUB, LOFT_STG_PART, LOFT_RD_BYTES,
   LOFT_WR_BYTES, SPAD_CE, SPAD_UE, SPAD_UE_CAP, SPAD_EVENTS, HIF_APT_CAP,
   HIF_APT, PRT_DEF, PRT_PRIO, PRT_QCFG, PRT_QBASE, PRT_SE_BASE,
   PRT_SE, PRT_STAT, PRT_CTL, PRT_FAULT, PRT_DONE_CMDS, PRT_QMASK,
   SEM_VAL, SEM_STAT, SEM_TABLE, CQ_SEL, CQ_HEAD, CQ_TAIL]
/-- Registers of the management window, part 3. -/
def windowRegs3 : List Reg :=
  [CQ_CTAIL, CQ_HWM, CQ_CHEAD, CQ_CTL, CQ_STALE, CQ_DUP,
   CQ_BADDB, SE_SEL, SE_STAT, SE_SLOT_TAG, SE_SLOT_CTL, SE_REFUSED,
   SE_DONE, PMT_MODE, PMT_CTL, PMT_STAT, PMT_LAST_US, PMT_LAST_SURR,
   PMT_SAVE_FIELD, PMT_DON, PMT_DONATIONS, PMT_DON_CUTS, PMT_REFUSED, PWR_DOM_REQ,
   PWR_DOM_REFUSED, PWR_SEQ_STAT, PWR_PARK_TOTAL, PWR_FAULT_CAP, PWR_FAULT_TIME, PWR_FAULTS,
   PWR_IBC, PWR_BUS, PWR_DOM_STAT, PWR_DOM_MEAS, PWR_PARK, PWR_CAP,
   PWR_CAP_EFF, PWR_LOOP, PWR_DROOP_CFG, PWR_DRAW, PWR_GUARDS, PWR_PART_CFG,
   PWR_PART_ALLOT, TEL_SEL, TEL_SNAP_TIME, TEL_REASON_TIME, TEL_REASON_GTIME, TEL_PE]
/-- Registers of the management window, part 4. -/
def windowRegs4 : List Reg :=
  [TEL_PE_TOTAL, TEL_OPS, TEL_SLOTS, TEL_BAR_WAIT, TEL_CORE_WAIT, TEL_BAR_CMDS,
   TEL_BAR_LAST, TEL_WE, TEL_WE_OVERHEAD, THM_LIMITS, THM_GHOST, THM_GHOST_STAT,
   THM_GHOST_CTL, THM_HOT_STAT, THM_COOLANT, THM_CH_CFG, THM_CH_STAT, THM_Q,
   THM_ROT, THM_ROT_STAT, AGE_CFG, AGE_STAT, AGE_LIFE, AGE_MON,
   HIF_ID, HIF_LINK, HIF_LINK_EVENTS, HIF_PM, HIF_WAKE, HIF_MSIX_STAT,
   HIF_MSIX_ADDR, HIF_MSIX_DATA, HIF_MSIX_VCTL, HIF_MSIX_PBA, HIF_DMA_BASE, HIF_DMA_CFG,
   HIF_DMA_TAIL, HIF_DMA_HEAD, HIF_DMA_STAT, HIF_DMA_BYTES, ATN_SUMMARY, ATN_PENDING,
   ATN_MASK, ATN_TMC_MASK, ATN_COAL, ATN_AGAIN, ATN_TMC_SEEN, ATN_TEST]
/-- Registers of the management window, part 5. -/
def windowRegs5 : List Reg :=
  [ATN_SUPPRESSED, ATN_CAUSE, ATN_LMASK, ATN_GTIME, ATN_PSRC, ATN_FSRC,
   ATN_CUE_SRC, TB_NOW, TB_STAT, TB_OFFSET, TB_SLEW, TB_ERR_BOUND,
   TB_UTC, TB_EVENTS, TB_LAST_STEP, TB_STEP_TIME, TB_HOLD_START, TB_DELAY,
   TMC_KEEPALIVE0, TMC_KEEPALIVE1, TMC_REQ, TMC_INFO, FW_SMC_SLOT, FW_SMC_VER,
   TWI_TGT_CFG, TWI_TGT_STAT, TWI_TGT_EVENTS, TWI_CTRL_CFG, TWI_CTRL_CMD, TWI_CTRL_STAT,
   TWI_CTRL_BUF, DBG_CTL, DBG_STAT, DBG_SEL, DBG_CORE_CTL, DBG_CORE_STAT,
   DBG_REG_SEL, DBG_REG_DATA, DBG_MEM_ADDR, DBG_MEM_DATA, DBG_BP, DBG_WP_ADDR,
   DBG_WP_CFG, DBG_HALT_CAP, DBG_FHALT, DBG_PART_CTL, DBG_PART_STAT]
/-- Every register of the management window (R40). -/
def windowRegs : List Reg :=
  windowRegs0 ++ windowRegs1 ++ windowRegs2 ++ windowRegs3 ++ windowRegs4 ++ windowRegs5
/-- Registers of a B72 chip (R680). -/
def chipRegs : List Reg :=
  [B72_ID, B72_ACT_STAT, B72_ACT_CTL, B72_EVENTS, B72_RT, B72_UPGRP,
   B72_PORT]
/-- Registers of a power shelf and its BBUs (R533). -/
def shelfRegs : List Reg :=
  [SHF_STAT, SHF_AC, SHF_OUT, SHF_ALLOT, SHF_CHG, SHF_EVENTS,
   BBU_STAT, BBU_ENERGY, BBU_FLOW]
/-- Registers of a CDU (R568). -/
def cduRegs : List Reg :=
  [CDU_STAT, CDU_TEMP, CDU_FLOW, CDU_FAC]

end Sys2Proof.Machine
end

