-- ==== Sys2Proof/Machine/Store.lean ====
section
/-!
DEFINITION. Sparse maps held as plain data: a list of pairs of a key and a value in one canonical form. Keys rise strictly and
no listed value equals what an unlisted key reads as, so equal maps are equal lists. Keys of several parts are
paired with `key2` and `key3`, which are injective.
-/
namespace Sys2Proof.Machine

/-- A key of two parts. -/
def key2 (a b : Nat) : Nat := Nat.pair a b

/-- A key of three parts. -/
def key3 (a b c : Nat) : Nat := Nat.pair a (Nat.pair b c)

/-- What a map holds at a key: the listed value, or `d` where the key is unlisted. -/
def mget {α : Type} (d : α) : List (Nat × α) → Nat → α
  | [], _ => d
  | (k, v) :: r, x => if k = x then v else mget d r x

/-- Remove a key. -/
def mdel {α : Type} : List (Nat × α) → Nat → List (Nat × α)
  | [], _ => []
  | (k, v) :: r, x => if k = x then mdel r x else (k, v) :: mdel r x

/-- Insert a pair before the first larger key. -/
def mins {α : Type} (x : Nat) (y : α) : List (Nat × α) → List (Nat × α)
  | [] => [(x, y)]
  | (k, v) :: r => if x < k then (x, y) :: (k, v) :: r else (k, v) :: mins x y r

/-- Write a key. Writing the default removes the entry, so the map stays canonical. -/
def mset {α : Type} [DecidableEq α] (d : α) (m : List (Nat × α)) (x : Nat) (y : α) : List (Nat × α) :=
  if y = d then mdel m x else mins x y (mdel m x)

/-- Change every listed value, leaving out what becomes the default. -/
def mmap {α : Type} [DecidableEq α] (d : α) (g : Nat → α → α) : List (Nat × α) → List (Nat × α)
  | [] => []
  | (k, v) :: r => if g k v = d then mmap d g r else (k, g k v) :: mmap d g r

/-- Every key of a list of pairs is above `lo`, the keys rise strictly and no value is the default. -/
def mwfFrom {α : Type} [DecidableEq α] (d : α) : List (Nat × α) → Nat → Bool
  | [], _ => true
  | (k, v) :: r, lo => decide (lo ≤ k) && decide (v ≠ d) && mwfFrom d r (k + 1)

/-- The canonical form of a sparse map. -/
def mwf {α : Type} [DecidableEq α] (d : α) (m : List (Nat × α)) : Bool := mwfFrom d m 0

end Sys2Proof.Machine
end

