-- ==== Sys2Proof/Machine/State.lean ====
section
/-!
DEFINITION. The whole state of one Z36: every register of the specification's tables (live copies and wings), the lofts,
the cores, and the typed state the rules name besides registers. All of it is plain data. Sparse maps are
canonical lists (Machine/Store.lean), so State.reset lists nothing in them.
-/
namespace Sys2Proof.Machine

/-- Why the machine stops: never. Every command of the specification has an effect, be it none, so no command of the model raises a fault. -/
inductive Fault where
deriving DecidableEq, Repr

/-- Why a command has no meaning in the model. -/
inductive Refusal where
  /-- Raised by the arm of `exec` of a command that has no meaning yet. Safe: nothing can be proved of its effect. -/
  | notModelled (mnemonic : String)
deriving DecidableEq, Repr

/-- The pair latch of one access path (R44): a captured high word with its pair's offset, and a held low word with its pair's. -/
structure Latch where
  captured : Option (Nat × Nat) := none
  low : Option (Nat × Nat) := none
deriving DecidableEq, Repr

/-- One journal entry (R56). -/
structure JEntry where
  seq : Nat
  time : Nat
  word4 : Nat
  detail : List Nat
  digest : List Nat
  inRing : Bool := true
  inFlash : Bool := false
deriving DecidableEq, Repr

/-- The change journal of a wafer (R55, R63, R64): the next number and the entries still retrievable, oldest first, and the
fetch that runs. -/
structure Journal where
  next : Nat := 0
  entries : List JEntry := []
  fetching : Option Nat := none
  held : Option JEntry := none
deriving DecidableEq, Repr

/-- The attention timers of a wafer (R600, R601): whether the host and TMC coalescing timers run, whether the 1 µs
spacing after a message runs, whether an event is held back by it, and the ATTN_N pin. -/
structure Atn where
  hostTimer : Option Nat := none
  tmcTimer : Option Nat := none
  spacing : Bool := false
  heldEvent : Bool := false
  attnN : Bool := false
deriving DecidableEq, Repr

/-- The configuration-space state of a wafer's PCIe function that the window shows only in part (R573, R585-R589). -/
structure Hif where
  msixEnable : Bool := false
  funcMask : Bool := false
  pmeEn : Bool := false
  l23Ready : Bool := false
  termination : Bool := false
  l1Asked : Bool := false
deriving DecidableEq, Repr

/-- A DMA channel beyond its registers (R578-R581): descriptors read from the ring and not finished, oldest first, with the
bytes each has moved. -/
structure Chan where
  live : List (DmaDesc × Nat) := []
  fetched : Nat := 0
deriving DecidableEq, Repr

/-- What a core does; the codes of CORE_STAT.STATE (R135). -/
inductive CoreSt where
  | off | idle | run | steal | commit | fault | halt | unused
deriving DecidableEq, Repr

/-- What a running core waits for: a signal word to reach a count, or a grant of a semaphore (R96, R391). -/
inductive Wait where
  | none
  | signal (word count : Nat)
  | sema (sem slot : Nat)
deriving DecidableEq, Repr

/-- One entry of a commit buffer, in issue order (R119, R120): an outbound loft write or core write (source range only), an
atomic, or a GIVE. `dest` is a physical address. -/
inductive CbEntry where
  | lput (dest addr src len : Nat)
  | xput (dest addr src len : Nat)
  | atom (op : Nat) (wide : Bool) (dest addr operand : Nat)
  | give (sem slot : Nat)
deriving DecidableEq, Repr

/-- One core beyond its CORE_STAT and CORE_TOKENS registers (R94-R125, R710). Registers and scratchpad bytes that are not listed
read 0, or, from the start of a command on, an open value named by `seed` (R114). -/
structure Core where
  st : CoreSt := .off
  g : List (Nat × Word32) := []
  pc : Nat := 0
  invalid : Bool := false
  overflow : Bool := false
  intSat : Bool := false
  inexact : Bool := false
  signals : List (Nat × Nat) := []
  deques : List (List Nat) := [[], [], [], []]
  cb : List CbEntry := []
  mode : Nat := 0x82
  rank : Nat := 0
  part : Option Nat := none
  wait : Wait := .none
  waitSince : Nat := 0
  stealAt : Nat := 0
  spad : List (Nat × Byte) := []
  seed : Option Nat := none
  spadPoison : List Nat := []
  istore : List (Nat × Word) := []
  istorePoison : List Nat := []
  refill : Bool := false
  ops : Nat := 0
  before : CoreSt := .off
  haltReq : Option Nat := none
  reason : Nat := 0
  stepping : Bool := false
  skipBreak : Bool := false
  beforeTake : Bool := false
  faultHeld : Bool := false
deriving DecidableEq, Repr

/-- A command of a queue that a partition runs or drains (R378-R383): the entry's fields and where it stands. -/
structure Cmd where
  queue : Nat
  seq : Nat
  flags : Nat
  entry : Nat
  arg : Nat
  dlen : Nat := 0
  daddr : Nat := 0
  step : Bool := false
  committed : Bool := false
  commitTime : Nat := 0
  status : Nat := 0
  peerLost : Bool := false
deriving DecidableEq, Repr

/-- Where a pre-emption of a partition stands, beyond PMT_STAT (R420, R424, R430, R433). -/
inductive PmtPhase where
  | none | surrender | holdHalt | holdSurrender | holdSave | restoring | draining
deriving DecidableEq, Repr

/-- A partition beyond its registers (R372-R409, R412-R448). `cut` lists queues whose head entry is a command that was cut; `endCode` is the
LAST_END that the running pre-emption will show; `savedCores` holds, while a command is held, what a core keeps besides its save slot; `zeroing` lists
quarters (field times 4 plus quarter) that a curtain has still to zero. -/
structure Part where
  cmd : Option Cmd := none
  leases : List Nat := []
  stealing : Nat := 0
  reportAt : Nat := 0
  reported : List Nat := []
  peersReady : List Nat := []
  blockedSeen : List Nat := []
  cut : List (Nat × Cmd) := []
  skippedFull : List Nat := []
  nextQueue : Nat := 0
  stepDue : Bool := false
  rotating : Bool := false
  lastRotation : Nat := 0
  earlyRotation : Bool := false
  stepRan : Bool := false
  batch : Nat := 0
  phase : PmtPhase := .none
  endCode : Nat := 0
  savedCores : List (Nat × Core) := []
  held : Bool := false
  donating : Bool := false
  discardAccept : Bool := false
  zeroing : List Nat := []
  reqTime : Nat := 0
  rotationDue : Bool := false
deriving DecidableEq, Repr

/-- A slot of a Serving Engine's slot table (R387). -/
inductive SlotSt where
  | free | joining | active | leaving | done
deriving DecidableEq, Repr

structure SeSlot where
  st : SlotSt := .free
  tag : Nat := 0
  new : Bool := false
deriving DecidableEq, Repr

/-- A TAKE that waits on a semaphore (R391, R392): its partition, its core's physical address and when it arrived. -/
structure Waiter where
  part : Nat
  core : Nat
  since : Nat
deriving DecidableEq, Repr

/-- A semaphore beyond SEM_VAL and SEM_STAT: waiting TAKEs in arrival order, the partition in tenure, and the
partition of each lease. A partition is the source slot times 288 plus its number. -/
structure Sema where
  waiters : List Waiter := []
  tenure : Option Nat := none
  leases : List Nat := []
deriving DecidableEq, Repr

/-- A packet that a sender holds until it is acknowledged, with its retransmission count (R192, R196). -/
structure Unacked where
  pkt : Packet
  port : Nat
  tries : Nat := 0
deriving DecidableEq, Repr

/-- The sending half of a stream (R191, R192, R196). -/
structure SendStream where
  next : Nat := 0
  unacked : List Unacked := []
  waiting : List Packet := []
  lastPort : Nat := 0
  failed : Bool := false
deriving DecidableEq, Repr

/-- The receiving half of a stream (R193, R194): the next TSEQ awaited, early packets held, deliveries not yet
acknowledged. -/
structure RecvStream where
  expect : Nat := 0
  early : List Packet := []
  unacked : Nat := 0
deriving DecidableEq, Repr

/-- A block held in a link engine's replay buffer (R177): its BSEQ and its 544 bytes. -/
structure Block where
  bseq : Nat
  bytes : List Nat
deriving DecidableEq, Repr

/-- One end of a link: a wafer's link engine or a B72 port (R173-R185, R200). The sending half: the next BSEQ, the replay buffer, the block to replay next, and
since when no ACK has come. The receiving half: the BSEQ expected, blocks accepted since the last ACK, and FEC lock. Credits are flits sent and not yet returned
on each VC, and flits freed and not yet returned, oldest VC first. -/
structure LinkEnd where
  nextSeq : Nat := 0
  replay : List Block := []
  replayAt : Option Nat := none
  replayedSeq : Nat := 0
  replayRun : Nat := 0
  lastNak : Option (Nat × Nat) := none
  expect : Nat := 0
  anyAccepted : Bool := false
  sinceAck : Nat := 0
  ackDue : Bool := false
  nakDue : Bool := false
  goodRun : Nat := 0
  badRun : Nat := 0
  locked : Bool := false
  idWord : Nat := 0
  idRun : Nat := 0
  peer : Option Nat := none
  sent : List (Nat × Nat) := []
  owed : List (Nat × Nat) := []
  failing : List Nat := []
  half : Option Nat := none
  degrading : Bool := false
  laneCorr : List (Nat × Nat) := []
  laneBytes : Nat := 0
  recalDue : List Nat := []
  lastForced : Option Nat := none
  los : Bool := false
deriving DecidableEq, Repr

/-- A packet that waits at an output or holds one of its VCs: its input, its VC there, flits still to pass, flit times waited, and whether its
head has passed (R152); `inVc` is the VC on which it came from a link. -/
structure Waiting where
  input : Nat
  vc : Nat
  flits : Nat
  pkt : Packet
  inVc : Nat := 0
  waited : Nat := 0
  started : Bool := false
deriving DecidableEq, Repr

/-- A network element's output arbiter (R152): what waits, flits each class may still send in its weighted round, the input last served in
each class, and flits granted to other classes since management's last one. -/
structure OutArb where
  queue : List Waiting := []
  left : List (Nat × Nat) := []
  pointer : List (Nat × Nat) := []
  sinceMgmt : Nat := 0
deriving DecidableEq, Repr

/-- An NI's injection arbiter (R153): each partition's queue of packets with the time its head began to wait, and the
round-robin pointer. -/
structure Inject where
  queues : List (Nat × List Packet) := []
  since : List (Nat × Nat) := []
  pointer : Nat := 0
  rid : Nat := 0
  lastPort : Nat := 0
deriving DecidableEq, Repr

/-- The pair table of atomics an NI has applied (R197), oldest first. -/
structure ReplayTable where
  pairs : List (Nat × Nat) := []
deriving DecidableEq, Repr

/-- What a wafer is to the machine, beyond its registers: whether its supply is up, whether it has been lost from the running act
and declared, whether it is admitted, the last plan cap of an RMC (R23, R24, R481), and whether its domains are being taken down in order: 0 for a power-off, 1 for a
warm start (R470). -/
structure Wafer where
  powered : Bool := false
  declaredLost : Bool := false
  outOfStep : Bool := false
  planCap : Nat := 19000
  planPath : Nat := 0
  interlockOpen : Bool := false
  idle : Nat := 0
  downSeq : Option Nat := none
  stretches : Nat := 0
deriving DecidableEq, Repr

/-- A tray management controller (R26, R29, R31, R640-R653): which RMCs it hears, whether it has declared both absent,
its keepalive count, the tray's properties, and its event frames that no RMC has acknowledged: number, repeats and words. -/
structure Tmc where
  hears0 : Bool := false
  hears1 : Bool := false
  absent : Bool := false
  running : Bool := true
  seq : Nat := 0
  valve : Nat := 100
  powerOn : Bool := false
  autoStart : Bool := true
  lastState : Bool := true
  sideband : List (Nat × Nat) := []
  events : List (Nat × Nat × List Nat) := []
  eventSeq : Nat := 0
  attnSeen : Bool := false
  presence : List (Nat × Bool) := []
  identity : List (Nat × Nat) := []
  restarts : Nat := 0
deriving DecidableEq, Repr

/-- Where the RMC stands in a change of the act (R35, R220). -/
inductive ActStep where
  | none | writing | built | rehearsing | rehearsed | draining
deriving DecidableEq, Repr

/-- What an act includes: wafers and planes as bit masks, the spines it excludes (wafer times 72 plus field), the ports it
leaves out (wafer times 20 plus port), and its generation (R220). -/
structure Act where
  wafers : Nat := 0
  planes : Nat := 0
  noSpines : List Nat := []
  noPorts : List Nat := []
  gen : Nat := 0
deriving DecidableEq, Repr

/-- What the RMC's power plan holds for a wafer (R519, R520, R536, R665): its shed rank and floor; the cap of rack power, whether it is shed, the cap it
returns to, and the cap before a proportional reduction; the cap, reason and plan number last written; the tray inlet last reported, the COOLANT limit, and a better limit with the time
since which it has held; and the overrides counted. -/
structure PlanW where
  rank : Nat := 0
  floor : Nat := 12000
  rack : Nat := 19000
  shed : Bool := false
  unshed : Nat := 19000
  scaled : Option Nat := none
  written : Nat := 19000
  reason : Nat := 0
  planNo : Nat := 0
  inlet : Nat := 0
  coolant : Option Nat := none
  better : Option (Option Nat × Nat) := none
  overrides : Nat := 0
deriving DecidableEq, Repr

/-- A power shelf beyond its registers (R506, R513): its rectifier modules that are not OK, and the serial number in each BBU bay. Recorded cell faults are serial
numbers. -/
structure Shelf where
  badModules : Nat := 0
  serials : List (Nat × Nat) := []
  faulted : List Nat := []
deriving DecidableEq, Repr

/-- An update task (R666, R669): its number, the part, the unit and the slot, whether it activates at once, when it began to wait, and its state: 0 the image is written, 1
Pending, 2 completed, 3 Exception, 4 waiting for a reset. -/
structure Task where
  num : Nat
  part : Nat
  unit : Nat
  slot : Nat
  immediate : Bool := false
  since : Nat := 0
  st : Nat := 0
deriving DecidableEq, Repr

/-- A spotlight (R652): whether it is on, its timeout in seconds, and when it came on. -/
structure Spot where
  lit : Bool := false
  timeout : Nat := 0
  since : Nat := 0
deriving DecidableEq, Repr

/-- The TWI target and controller and the prompter port of a wafer beyond their registers (R686, R687, R692, R702-R705): the last WRITE carried out (TAG, OFFSET, data),
whether the SMC sleeps, bus recoveries of each segment with their times, the instruction register, the boundary cells driven, and the result of the last DPACC request. -/
structure Twi where
  last : Option (Nat × Nat × List Nat) := none
  asleep : Bool := false
  recoveries : List (Nat × Nat) := []
  ir : Nat := 2
  cells : Nat := 0
  driving : Bool := false
  dpAck : Nat := 0
  dpOp : Nat := 0
  dpData : Nat := 0
deriving DecidableEq, Repr

/-- The planner state that the active RMC mirrors to the standby at every step (R26, R35), and the role of each RMC. Further: the operator's properties, alarms, update tasks, event subscriptions, tray access requests unanswered
(station times 8 plus repeats, number, frame) and the last answer, what event frames have told of each tray, and the RMC's journal. -/
structure Planner where
  active : Nat := 0
  haveActive : Bool := true
  missed : Nat := 0
  queue : List ActChange := []
  step : ActStep := .none
  change : Option ActChange := none
  drainQuiet : List Nat := []
  lastStamp : Nat := 0
  drainMaxMs : Nat := 10
  liveAct : Nat := 0
  actFaults : Nat := 0
  planFaults : Nat := 0
  planId : Nat := 0
  machineNo : Nat := 0
  cueMid : Nat := 0
  cueTime : Nat := 0
  cueActive : Bool := false
  cueMembers : Nat := 0
  goSent : List Nat := []
  lostPlanes : Nat := 0
  rehearsalUnits : List Nat := []
  barrierBalance : Bool := false
  fanout : Nat := 0
  stepRead : List (Nat × Nat) := []
  rotation : Option (Nat × Nat) := none
  failover : Bool := false
  handed : List (Nat × List Nat) := []
  opLimit : Nat := 756000
  rtGrace : Nat := 5
  graceOver : Bool := false
  coolantSet : Nat := 35
  alarms : List Nat := []
  tasks : List Task := []
  nextTask : Nat := 0
  subs : List (Nat × Nat) := []
  nextSub : Nat := 0
  asks : List (Nat × Nat × List Nat) := []
  askSeq : Nat := 0
  answer : List Nat := []
  known : List (Nat × Nat) := []
  journal : List JEntry := []
  plannedShelves : Nat := 0
deriving DecidableEq, Repr

/-- What leaves the machine or starts a travel inside it: what a step sends (R141, R144, R585, R645). -/
inductive Emit where
  | packet (w f : Nat) (p : Packet)
  | forwarded (w f elem out : Nat) (p : Packet)
  | linkPacket (w port : Nat) (p : Packet)
  | block (port : Nat) (bytes : List Nat)
  | linkFlits (port : Nat) (flits : List LinkFlit)
  | msix (w : Nat) (addr data : Nat)
  | pme (w : Nat)
  | hostWrite (w : Nat) (addr : Nat) (data : List Nat)
  | completion (w : Nat) (status : Nat) (data : List Nat)
  | marker (rmc : Nat)
  | timeFrame (tray : Nat) (bytes : List Nat)
  | frame (unit : Nat) (bytes : List Nat)
  | reply (path w : Nat) (data : List Nat)
  | event (kind unit : Nat)
  | redfish (code : Nat) (resource : List Nat)
  | twi (w : Nat) (bytes : List Nat)
  | jtag (w : Nat) (bits : Nat) (value : Nat)
deriving DecidableEq, Repr

/-- A counter of time (R619, R624-R627): its offset from the machine's instant, the rate adjustment in parts per billion, when it was set and how far in nanoseconds it may
take the counter; and what its holder knows of the reference: whether it has reacquired, consecutive markers missed, the counter at the last marker and at the last one accepted
while LOCKED, whether a TOD frame has come since the last marker, and that frame's contents. -/
structure Clock where
  offset : Int := 0
  ppb : Int := 0
  setAt : Nat := 0
  span : Nat := 0
  acquired : Bool := false
  missed : Nat := 0
  marker : Option Nat := none
  lastLocked : Nat := 0
  lastOffset : Int := 0
  todSince : Bool := false
  todAt : Option Nat := none
  todSeconds : Nat := 0
  todStep : Bool := false
  todUtc : Nat := 0
  rmcBound : Nat := 0xFFFFFFFF
deriving DecidableEq, Repr

/-- An RMC's time (R618-R620, R628): its counter, its quality, since when its offset has stayed within 50 ns, its last reference, since when markers count, missing PPS edges,
and the UTC offset with the leap flags. -/
structure Rmc where
  clock : Clock := {}
  quality : Nat := 2
  lockRun : Option Nat := none
  lastSync : Option Nat := none
  lastPps : Option Nat := none
  lastRef : Nat := 0
  utc : Nat := 0
  leaps : Nat := 0
  lastMarker : Nat := 0
  timeSource : Nat := 0
  ptpProfile : Nat := 0
  ptpDomain : Nat := 0
  givenSeconds : Option Nat := none
deriving DecidableEq, Repr

/-- A loft's error history and repairs beyond its registers (R346, R354-R357): lines corrected and found uncorrectable with the times, rows whose copy onto
a spare row is triggered, rows that live on spare rows, spare rows used in each bank; and for each bank the lines scrubbed in this pass, the passes
completed and whether its pass is late. -/
structure LoftSt where
  ceLines : List (Nat × Nat) := []
  ueLines : List (Nat × Nat) := []
  copies : List Nat := []
  sparedRows : List Nat := []
  spares : List (Nat × Nat) := []
  scrub : List (Nat × Nat) := []
  passes : List (Nat × Nat) := []
  lateBanks : List Nat := []
deriving DecidableEq, Repr

/-- A pseudo-channel's arbiter (R348): the class and partition that hold it, and the partition last granted. -/
structure Pch where
  holder : Option (Nat × Nat) := none
  last : Nat := 0
deriving DecidableEq, Repr

/-- A program shadow (R251): for each placed core unit, its instructions; `fresh` lists the units that the images staged since it was last live have placed. -/
structure Shadow where
  placed : List (Nat × List Word) := []
  fresh : List Nat := []
deriving DecidableEq, Repr

/-- The running set-image load beyond the IMG registers (R257-R266). -/
structure Load where
  start : Nat := 0
  field : Nat := 0
  off : Nat := 0
  len : Nat := 0
  wafer : Bool := false
  part : Nat := 0
  autoCue : Bool := false
  path : Nat := 0
  staged : Bool := false
  digest : List Nat := []
deriving DecidableEq, Repr

/-- A running push beyond the IMG_PUSH registers (R258). -/
structure Push where
  left : Nat := 0
  field : Nat := 0
  src : Nat := 0
  len : Nat := 0
  dstField : Nat := 0
  dstOff : Nat := 0
deriving DecidableEq, Repr

/-- A cue slot beyond its registers (R276-R296): the scheduled value and the machine cue's MID, when it started by the machine's instant and
by the wafer's counter, whether its go frame came in time, the partitions that must stand between steps before it applies, the partition that it rotates,
and the act it locked. -/
structure CueSlot where
  time : Nat := 0
  mid : Nat := 0
  started : Nat := 0
  startTb : Nat := 0
  go : Bool := false
  waitParts : List Nat := []
  rotation : Option Nat := none
  lockedAct : Option Nat := none
deriving DecidableEq, Repr

/-- What the cue unit of a wafer keeps besides its slots: the MID last applied, the digest of the last image expanded into
each scope, the scope into which a load expands, and the chart digests of the last rehearsal (R265, R277, R278, R280, R290). -/
structure CueUnit where
  lastMid : Option Nat := none
  waferDigest : List Nat := []
  partDigest : List (Nat × List Nat) := []
  loadLock : Option (Nat × Nat) := none
  chartDigests : List (Nat × Nat) := []
deriving DecidableEq, Repr

/-- The park requests on a quadrant's nine groups, one bit a group for each requester (R467), which groups ghost light wants at GATE
depth, where the groups that move are going, since when each group has been where it is, and what the last samples of its supply and current
showed: below the droop guard's margin, good enough for it to release, and low enough for the current guard to release (R489). -/
structure ParkQ where
  cap : Nat := 0
  droop : Nat := 0
  cur : Nat := 0
  hot : Nat := 0
  jlim : Nat := 0
  ghost : Nat := 0
  ghostGate : Nat := 0
  hold : Nat := 0
  smc : Nat := 0
  toRetain : Nat := 0
  toGate : Nat := 0
  since : List (Nat × Nat) := []
  low : Bool := false
  good : Bool := false
  cool : Bool := false
  guardAt : Option Nat := none
deriving DecidableEq, Repr

/-- A power domain beyond PWR_DOM_STAT (R456-R463): whether its OFF dwell still runs, a spine's children that are to return, whether a
spine waits for its children, whether it is to go down once idle, whether a quadrant's droop gate is engaged, and the times of its faults. -/
structure DomX where
  dwelling : Bool := false
  children : List Nat := []
  spineDown : Bool := false
  downWhenIdle : Bool := false
  gated : Bool := false
  faultTimes : List Nat := []
  retryOwed : Bool := false
deriving DecidableEq, Repr

/-- One finding of the ledger (R315, R316), or a torn slot (R318). -/
structure Finding where
  torn : Bool := false
  objType : Nat := 0
  kind : Nat := 0
  phase : Nat := 0
  object : Nat := 0
  signature : Nat := 0
  time : Nat := 0
  epoch : Nat := 1
  quality : Nat := 0
deriving DecidableEq, Repr

/-- The defect ledger of a wafer and the boot record (R309, R314-R320): the active bank's slots, the volatile findings, the OPEN bank of a
factory-depth retest, the findings the running edit has added, and a running fetch. -/
structure Ledger where
  bad : Bool := false
  epoch : Nat := 1
  slots : List Finding := []
  vols : List Finding := []
  openBank : Option (List Finding) := none
  h0Live : Bool := true
  h1Live : Bool := true
  added : Nat := 0
  first : Option Nat := none
  volAdded : Bool := false
  fetching : Option Nat := none
deriving DecidableEq, Repr

/-- Bring-up beyond the BUP registers (R301-R327): whether a start runs, when the phase began, findings added in the phase, the arming time and path of a
factory-depth retest, whether the wait for the tray PPS is over, the ports whose training is, whether phase 4 powers its quadrants, the findings counted before a field retest,
which host fields failed at this start, when it began, and the error history that runtime findings count. -/
structure Bup where
  starting : Bool := false
  phaseStart : Nat := 0
  slow : Bool := false
  armTime : Nat := 0
  fdrPath : Nat := 0
  ppsTimeout : Bool := false
  portsOut : List Nat := []
  powering : Bool := false
  newBefore : Nat := 0
  h0Failed : Bool := false
  h1Failed : Bool := false
  startTime : Nat := 0
  coreLines : List (Nat × Nat) := []
deriving DecidableEq, Repr

/-- What the cap loop and the energy accounting of a wafer keep (R485-R492), energies in units of 10 pJ: up to when throttling has been charged; energy not yet
integrated, by partition plus 1 (0 for overhead) times 8 plus heading; each domain's last sample and how many it has missed; what each partition and overhead
drew in this loop period and in the last sample; overhead of the last 100 periods; periods that each partition was below its allotment; and groups that the
loop holds with the time since when. -/
structure Meter where
  chargedTo : Nat := 0
  acc : List (Nat × Nat) := []
  last : List (Nat × Nat) := []
  missed : List (Nat × Nat) := []
  period : List (Nat × Nat) := []
  sample : List (Nat × Nat) := []
  standing : List Nat := []
  below : List (Nat × Nat) := []
  heldSince : List (Nat × Nat) := []
deriving DecidableEq, Repr

/-- A handshake-delay monitor (R553, R554): its reference transit in the epoch it belongs to, and the times of its last sample and its last GOOD one. -/
structure AgeMon where
  ref : Option Nat := none
  refEpoch : Nat := 0
  transit : Nat := 0
  lastAt : Nat := 0
  forced : Bool := false
  disturbed : Bool := false
  running : Bool := false
deriving DecidableEq, Repr

/-- A quadrant's ageing (R541, R546, R555-R557): stress hours in 2^-32 of a microsecond, the hourly points of stress and drift, stress per hour of the last 168 h, the
trim at the epoch's reference start, whether the trim stands for the drift, when it was last GOOD, what has been raised, and the sum and number of its temperature samples
since its partition last rotated. -/
structure AgeQ where
  stress : Nat := 0
  hourStart : Nat := 0
  points : List (Nat × Nat) := []
  rates : List Nat := []
  trimRef : Option Int := none
  refEpoch : Nat := 0
  trimDrift : Option Nat := none
  goodAt : Nat := 0
  lifeRaised : Bool := false
  lateRaised : Bool := false
  tjSum : Nat := 0
  tjCount : Nat := 0
  sensorBad : Bool := false
deriving DecidableEq, Repr

/-- A thermal channel (R542, R544): since when its hottest quadrant has been cool enough to release a group, when an early rotation was asked for, and when a group was
last released. -/
structure ThermCh where
  coolSince : Option Nat := none
  askedAt : Option Nat := none
deriving DecidableEq, Repr

/-- A firmware slot of a part (R657, R658): its state (0 EMPTY, 1 WRITING, 2 INSTALLED, 3 TRIAL, 4 ACTIVE, 5 PREVIOUS, 6 BAD), the image's version and digest, and
the digest the image's header promises while it is written. -/
structure FwSlot where
  st : Nat := 0
  ver : Nat := 0
  digest : List Nat := []
deriving DecidableEq, Repr

/-- The firmware of a part (R657): its two slots and the one it runs. -/
structure FwPart where
  a : FwSlot := { st := 4 }
  b : FwSlot := {}
  running : Nat := 0
deriving DecidableEq, Repr

/-- The window's own bookkeeping and the host interface (chapters 2, 18 and 19). -/
structure WinState where
  latches : List (Nat × Latch) := []
  journals : List (Nat × Journal) := []
  atns : List (Nat × Atn) := []
  hifs : List (Nat × Hif) := []
  chans : List (Nat × Chan) := []
  clocks : List (Nat × Clock) := []
  rmcs : List (Nat × Rmc) := []
deriving DecidableEq, Repr

/-- Cores, partitions and semaphores (chapters 4, 12 and 13). -/
structure JobState where
  cores : List (Nat × Core) := []
  parts : List (Nat × Part) := []
  results : List (Nat × List (Nat × Nat)) := []
  seSlots : List (Nat × SeSlot) := []
  semas : List (Nat × Sema) := []
deriving DecidableEq, Repr

/-- The networks: streams, links, arbiters and credits (chapters 5 and 6). -/
structure NetState where
  sends : List (Nat × SendStream) := []
  recvs : List (Nat × RecvStream) := []
  replays : List (Nat × ReplayTable) := []
  links : List (Nat × LinkEnd) := []
  arbs : List (Nat × OutArb) := []
  injects : List (Nat × Inject) := []
  fabricCredits : List (Nat × Nat) := []
  groupPtr : List (Nat × Nat) := []
deriving DecidableEq, Repr

/-- Lofts, images and cues (chapters 8, 9 and 11). -/
structure CueState where
  lofts : List (Nat × LoftSt) := []
  pchs : List (Nat × Pch) := []
  shadows : List (Nat × Shadow) := []
  loads : List (Nat × Load) := []
  pushes : List (Nat × Push) := []
  slots : List (Nat × CueSlot) := []
  cueUnits : List (Nat × CueUnit) := []
deriving DecidableEq, Repr

/-- Power domains, park groups, the ledger and bring-up (chapters 10 and 14). -/
structure PowState where
  parks : List (Nat × ParkQ) := []
  doms : List (Nat × DomX) := []
  ledgers : List (Nat × Ledger) := []
  bups : List (Nat × Bup) := []
  meters : List (Nat × Meter) := []
  ageMons : List (Nat × AgeMon) := []
  ageQs : List (Nat × AgeQ) := []
  thermChs : List (Nat × ThermCh) := []
  warming : List (Nat × List Nat) := []
deriving DecidableEq, Repr

/-- The rack: wafers as units, tray and rack management, acts (chapters 1, 7 and 21). -/
structure RackState where
  wafers : List (Nat × Wafer) := []
  tmcs : List (Nat × Tmc) := []
  acts : List (Nat × Act) := []
  fws : List (Nat × FwPart) := []
  spots : List (Nat × Spot) := []
  twis : List (Nat × Twi) := []
  tafKept : List (Nat × List (Nat × Nat × List Nat)) := []
  etags : List (Nat × Nat) := []
  plans : List (Nat × PlanW) := []
  shelves : List (Nat × Shelf) := []
  planner : Planner := {}
deriving DecidableEq, Repr

/-- The whole machine. -/
structure State where
  pending : List Instr := []
  now : Nat := 0
  freeCtr : Nat := 0
  out : List Emit := []
  regs : List (Nat × Word) := []
  wings : List (Nat × Word) := []
  loft : List Host.Cell := []
  loftPoison : List Nat := []
  win : WinState := {}
  job : JobState := {}
  net : NetState := {}
  cue : CueState := {}
  pow : PowState := {}
  rack : RackState := {}
deriving DecidableEq, Repr

/-- The machine right after reset. -/
def State.reset : State := {}

end Sys2Proof.Machine
end

