-- ==== Sys2Proof/Machine/Fields.lean ====
section
/-!
DEFINITION. One reader and one writer for each sparse map of State, and one writer for each field: every other definition changes
State through these.
-/
namespace Sys2Proof.Machine

/-- Replace `pending`. -/
def State.withPending (s : State) (v : List Instr) : State := { s with pending := v }
/-- Replace `now`. -/
def State.withNow (s : State) (v : Nat) : State := { s with now := v }
/-- Replace `freeCtr`. -/
def State.withFreeCtr (s : State) (v : Nat) : State := { s with freeCtr := v }
/-- Replace `out`. -/
def State.withOut (s : State) (v : List Emit) : State := { s with out := v }
/-- Replace `regs`. -/
def State.withRegs (s : State) (v : List (Nat × Word)) : State := { s with regs := v }
/-- Replace `wings`. -/
def State.withWings (s : State) (v : List (Nat × Word)) : State := { s with wings := v }
/-- Replace `loft`. -/
def State.withLoft (s : State) (v : List Host.Cell) : State := { s with loft := v }
/-- Replace `loftPoison`. -/
def State.withLoftPoison (s : State) (v : List Nat) : State := { s with loftPoison := v }
/-- Replace `latches`. -/
def State.withLatches (s : State) (v : List (Nat × Latch)) : State := { s with win := { s.win with latches := v } }
/-- What `latches` holds at a key. -/
def State.getLatches (s : State) (k : Nat) : Latch := mget {} s.win.latches k
/-- Write one key of `latches`. -/
def State.putLatches (s : State) (k : Nat) (v : Latch) : State := s.withLatches (mset {} s.win.latches k v)
/-- Replace `journals`. -/
def State.withJournals (s : State) (v : List (Nat × Journal)) : State := { s with win := { s.win with journals := v } }
/-- What `journals` holds at a key. -/
def State.getJournals (s : State) (k : Nat) : Journal := mget {} s.win.journals k
/-- Write one key of `journals`. -/
def State.putJournals (s : State) (k : Nat) (v : Journal) : State := s.withJournals (mset {} s.win.journals k v)
/-- Replace `atns`. -/
def State.withAtns (s : State) (v : List (Nat × Atn)) : State := { s with win := { s.win with atns := v } }
/-- What `atns` holds at a key. -/
def State.getAtns (s : State) (k : Nat) : Atn := mget {} s.win.atns k
/-- Write one key of `atns`. -/
def State.putAtns (s : State) (k : Nat) (v : Atn) : State := s.withAtns (mset {} s.win.atns k v)
/-- Replace `hifs`. -/
def State.withHifs (s : State) (v : List (Nat × Hif)) : State := { s with win := { s.win with hifs := v } }
/-- What `hifs` holds at a key. -/
def State.getHifs (s : State) (k : Nat) : Hif := mget {} s.win.hifs k
/-- Write one key of `hifs`. -/
def State.putHifs (s : State) (k : Nat) (v : Hif) : State := s.withHifs (mset {} s.win.hifs k v)
/-- Replace `chans`. -/
def State.withChans (s : State) (v : List (Nat × Chan)) : State := { s with win := { s.win with chans := v } }
/-- What `chans` holds at a key. -/
def State.getChans (s : State) (k : Nat) : Chan := mget {} s.win.chans k
/-- Write one key of `chans`. -/
def State.putChans (s : State) (k : Nat) (v : Chan) : State := s.withChans (mset {} s.win.chans k v)
/-- Replace `clocks`. -/
def State.withClocks (s : State) (v : List (Nat × Clock)) : State := { s with win := { s.win with clocks := v } }
/-- What `clocks` holds at a key. -/
def State.getClocks (s : State) (k : Nat) : Clock := mget {} s.win.clocks k
/-- Write one key of `clocks`. -/
def State.putClocks (s : State) (k : Nat) (v : Clock) : State := s.withClocks (mset {} s.win.clocks k v)
/-- Replace `rmcs`. -/
def State.withRmcs (s : State) (v : List (Nat × Rmc)) : State := { s with win := { s.win with rmcs := v } }
/-- What `rmcs` holds at a key. -/
def State.getRmcs (s : State) (k : Nat) : Rmc := mget {} s.win.rmcs k
/-- Write one key of `rmcs`. -/
def State.putRmcs (s : State) (k : Nat) (v : Rmc) : State := s.withRmcs (mset {} s.win.rmcs k v)
/-- Replace `cores`. -/
def State.withCores (s : State) (v : List (Nat × Core)) : State := { s with job := { s.job with cores := v } }
/-- What `cores` holds at a key. -/
def State.getCores (s : State) (k : Nat) : Core := mget {} s.job.cores k
/-- Write one key of `cores`. -/
def State.putCores (s : State) (k : Nat) (v : Core) : State := s.withCores (mset {} s.job.cores k v)
/-- Replace `parts`. -/
def State.withParts (s : State) (v : List (Nat × Part)) : State := { s with job := { s.job with parts := v } }
/-- What `parts` holds at a key. -/
def State.getParts (s : State) (k : Nat) : Part := mget {} s.job.parts k
/-- Write one key of `parts`. -/
def State.putParts (s : State) (k : Nat) (v : Part) : State := s.withParts (mset {} s.job.parts k v)
/-- Replace `results`. -/
def State.withResults (s : State) (v : List (Nat × List (Nat × Nat))) : State := { s with job := { s.job with results := v } }
/-- What `results` holds at a key. -/
def State.getResults (s : State) (k : Nat) : (List (Nat × Nat)) := mget [] s.job.results k
/-- Write one key of `results`. -/
def State.putResults (s : State) (k : Nat) (v : (List (Nat × Nat))) : State := s.withResults (mset [] s.job.results k v)
/-- Replace `seSlots`. -/
def State.withSeSlots (s : State) (v : List (Nat × SeSlot)) : State := { s with job := { s.job with seSlots := v } }
/-- What `seSlots` holds at a key. -/
def State.getSeSlots (s : State) (k : Nat) : SeSlot := mget {} s.job.seSlots k
/-- Write one key of `seSlots`. -/
def State.putSeSlots (s : State) (k : Nat) (v : SeSlot) : State := s.withSeSlots (mset {} s.job.seSlots k v)
/-- Replace `semas`. -/
def State.withSemas (s : State) (v : List (Nat × Sema)) : State := { s with job := { s.job with semas := v } }
/-- What `semas` holds at a key. -/
def State.getSemas (s : State) (k : Nat) : Sema := mget {} s.job.semas k
/-- Write one key of `semas`. -/
def State.putSemas (s : State) (k : Nat) (v : Sema) : State := s.withSemas (mset {} s.job.semas k v)
/-- Replace `sends`. -/
def State.withSends (s : State) (v : List (Nat × SendStream)) : State := { s with net := { s.net with sends := v } }
/-- What `sends` holds at a key. -/
def State.getSends (s : State) (k : Nat) : SendStream := mget {} s.net.sends k
/-- Write one key of `sends`. -/
def State.putSends (s : State) (k : Nat) (v : SendStream) : State := s.withSends (mset {} s.net.sends k v)
/-- Replace `recvs`. -/
def State.withRecvs (s : State) (v : List (Nat × RecvStream)) : State := { s with net := { s.net with recvs := v } }
/-- What `recvs` holds at a key. -/
def State.getRecvs (s : State) (k : Nat) : RecvStream := mget {} s.net.recvs k
/-- Write one key of `recvs`. -/
def State.putRecvs (s : State) (k : Nat) (v : RecvStream) : State := s.withRecvs (mset {} s.net.recvs k v)
/-- Replace `replays`. -/
def State.withReplays (s : State) (v : List (Nat × ReplayTable)) : State := { s with net := { s.net with replays := v } }
/-- What `replays` holds at a key. -/
def State.getReplays (s : State) (k : Nat) : ReplayTable := mget {} s.net.replays k
/-- Write one key of `replays`. -/
def State.putReplays (s : State) (k : Nat) (v : ReplayTable) : State := s.withReplays (mset {} s.net.replays k v)
/-- Replace `links`. -/
def State.withLinks (s : State) (v : List (Nat × LinkEnd)) : State := { s with net := { s.net with links := v } }
/-- What `links` holds at a key. -/
def State.getLinks (s : State) (k : Nat) : LinkEnd := mget {} s.net.links k
/-- Write one key of `links`. -/
def State.putLinks (s : State) (k : Nat) (v : LinkEnd) : State := s.withLinks (mset {} s.net.links k v)
/-- Replace `arbs`. -/
def State.withArbs (s : State) (v : List (Nat × OutArb)) : State := { s with net := { s.net with arbs := v } }
/-- What `arbs` holds at a key. -/
def State.getArbs (s : State) (k : Nat) : OutArb := mget {} s.net.arbs k
/-- Write one key of `arbs`. -/
def State.putArbs (s : State) (k : Nat) (v : OutArb) : State := s.withArbs (mset {} s.net.arbs k v)
/-- Replace `injects`. -/
def State.withInjects (s : State) (v : List (Nat × Inject)) : State := { s with net := { s.net with injects := v } }
/-- What `injects` holds at a key. -/
def State.getInjects (s : State) (k : Nat) : Inject := mget {} s.net.injects k
/-- Write one key of `injects`. -/
def State.putInjects (s : State) (k : Nat) (v : Inject) : State := s.withInjects (mset {} s.net.injects k v)
/-- Replace `fabricCredits`. -/
def State.withFabricCredits (s : State) (v : List (Nat × Nat)) : State := { s with net := { s.net with fabricCredits := v } }
/-- What `fabricCredits` holds at a key. -/
def State.getFabricCredits (s : State) (k : Nat) : Nat := mget 0 s.net.fabricCredits k
/-- Write one key of `fabricCredits`. -/
def State.putFabricCredits (s : State) (k : Nat) (v : Nat) : State := s.withFabricCredits (mset 0 s.net.fabricCredits k v)
/-- Replace `groupPtr`. -/
def State.withGroupPtr (s : State) (v : List (Nat × Nat)) : State := { s with net := { s.net with groupPtr := v } }
/-- What `groupPtr` holds at a key. -/
def State.getGroupPtr (s : State) (k : Nat) : Nat := mget 0 s.net.groupPtr k
/-- Write one key of `groupPtr`. -/
def State.putGroupPtr (s : State) (k : Nat) (v : Nat) : State := s.withGroupPtr (mset 0 s.net.groupPtr k v)
/-- Replace `lofts`. -/
def State.withLofts (s : State) (v : List (Nat × LoftSt)) : State := { s with cue := { s.cue with lofts := v } }
/-- What `lofts` holds at a key. -/
def State.getLofts (s : State) (k : Nat) : LoftSt := mget {} s.cue.lofts k
/-- Write one key of `lofts`. -/
def State.putLofts (s : State) (k : Nat) (v : LoftSt) : State := s.withLofts (mset {} s.cue.lofts k v)
/-- Replace `pchs`. -/
def State.withPchs (s : State) (v : List (Nat × Pch)) : State := { s with cue := { s.cue with pchs := v } }
/-- What `pchs` holds at a key. -/
def State.getPchs (s : State) (k : Nat) : Pch := mget {} s.cue.pchs k
/-- Write one key of `pchs`. -/
def State.putPchs (s : State) (k : Nat) (v : Pch) : State := s.withPchs (mset {} s.cue.pchs k v)
/-- Replace `shadows`. -/
def State.withShadows (s : State) (v : List (Nat × Shadow)) : State := { s with cue := { s.cue with shadows := v } }
/-- What `shadows` holds at a key. -/
def State.getShadows (s : State) (k : Nat) : Shadow := mget {} s.cue.shadows k
/-- Write one key of `shadows`. -/
def State.putShadows (s : State) (k : Nat) (v : Shadow) : State := s.withShadows (mset {} s.cue.shadows k v)
/-- Replace `loads`. -/
def State.withLoads (s : State) (v : List (Nat × Load)) : State := { s with cue := { s.cue with loads := v } }
/-- What `loads` holds at a key. -/
def State.getLoads (s : State) (k : Nat) : Load := mget {} s.cue.loads k
/-- Write one key of `loads`. -/
def State.putLoads (s : State) (k : Nat) (v : Load) : State := s.withLoads (mset {} s.cue.loads k v)
/-- Replace `pushes`. -/
def State.withPushes (s : State) (v : List (Nat × Push)) : State := { s with cue := { s.cue with pushes := v } }
/-- What `pushes` holds at a key. -/
def State.getPushes (s : State) (k : Nat) : Push := mget {} s.cue.pushes k
/-- Write one key of `pushes`. -/
def State.putPushes (s : State) (k : Nat) (v : Push) : State := s.withPushes (mset {} s.cue.pushes k v)
/-- Replace `slots`. -/
def State.withSlots (s : State) (v : List (Nat × CueSlot)) : State := { s with cue := { s.cue with slots := v } }
/-- What `slots` holds at a key. -/
def State.getSlots (s : State) (k : Nat) : CueSlot := mget {} s.cue.slots k
/-- Write one key of `slots`. -/
def State.putSlots (s : State) (k : Nat) (v : CueSlot) : State := s.withSlots (mset {} s.cue.slots k v)
/-- Replace `cueUnits`. -/
def State.withCueUnits (s : State) (v : List (Nat × CueUnit)) : State := { s with cue := { s.cue with cueUnits := v } }
/-- What `cueUnits` holds at a key. -/
def State.getCueUnits (s : State) (k : Nat) : CueUnit := mget {} s.cue.cueUnits k
/-- Write one key of `cueUnits`. -/
def State.putCueUnits (s : State) (k : Nat) (v : CueUnit) : State := s.withCueUnits (mset {} s.cue.cueUnits k v)
/-- Replace `parks`. -/
def State.withParks (s : State) (v : List (Nat × ParkQ)) : State := { s with pow := { s.pow with parks := v } }
/-- What `parks` holds at a key. -/
def State.getParks (s : State) (k : Nat) : ParkQ := mget {} s.pow.parks k
/-- Write one key of `parks`. -/
def State.putParks (s : State) (k : Nat) (v : ParkQ) : State := s.withParks (mset {} s.pow.parks k v)
/-- Replace `doms`. -/
def State.withDoms (s : State) (v : List (Nat × DomX)) : State := { s with pow := { s.pow with doms := v } }
/-- What `doms` holds at a key. -/
def State.getDoms (s : State) (k : Nat) : DomX := mget {} s.pow.doms k
/-- Write one key of `doms`. -/
def State.putDoms (s : State) (k : Nat) (v : DomX) : State := s.withDoms (mset {} s.pow.doms k v)
/-- Replace `ledgers`. -/
def State.withLedgers (s : State) (v : List (Nat × Ledger)) : State := { s with pow := { s.pow with ledgers := v } }
/-- What `ledgers` holds at a key. -/
def State.getLedgers (s : State) (k : Nat) : Ledger := mget {} s.pow.ledgers k
/-- Write one key of `ledgers`. -/
def State.putLedgers (s : State) (k : Nat) (v : Ledger) : State := s.withLedgers (mset {} s.pow.ledgers k v)
/-- Replace `bups`. -/
def State.withBups (s : State) (v : List (Nat × Bup)) : State := { s with pow := { s.pow with bups := v } }
/-- What `bups` holds at a key. -/
def State.getBups (s : State) (k : Nat) : Bup := mget {} s.pow.bups k
/-- Write one key of `bups`. -/
def State.putBups (s : State) (k : Nat) (v : Bup) : State := s.withBups (mset {} s.pow.bups k v)
/-- Replace `meters`. -/
def State.withMeters (s : State) (v : List (Nat × Meter)) : State := { s with pow := { s.pow with meters := v } }
/-- What `meters` holds at a key. -/
def State.getMeters (s : State) (k : Nat) : Meter := mget {} s.pow.meters k
/-- Write one key of `meters`. -/
def State.putMeters (s : State) (k : Nat) (v : Meter) : State := s.withMeters (mset {} s.pow.meters k v)
/-- Replace `ageMons`. -/
def State.withAgeMons (s : State) (v : List (Nat × AgeMon)) : State := { s with pow := { s.pow with ageMons := v } }
/-- What `ageMons` holds at a key. -/
def State.getAgeMons (s : State) (k : Nat) : AgeMon := mget {} s.pow.ageMons k
/-- Write one key of `ageMons`. -/
def State.putAgeMons (s : State) (k : Nat) (v : AgeMon) : State := s.withAgeMons (mset {} s.pow.ageMons k v)
/-- Replace `ageQs`. -/
def State.withAgeQs (s : State) (v : List (Nat × AgeQ)) : State := { s with pow := { s.pow with ageQs := v } }
/-- What `ageQs` holds at a key. -/
def State.getAgeQs (s : State) (k : Nat) : AgeQ := mget {} s.pow.ageQs k
/-- Write one key of `ageQs`. -/
def State.putAgeQs (s : State) (k : Nat) (v : AgeQ) : State := s.withAgeQs (mset {} s.pow.ageQs k v)
/-- Replace `thermChs`. -/
def State.withThermChs (s : State) (v : List (Nat × ThermCh)) : State := { s with pow := { s.pow with thermChs := v } }
/-- What `thermChs` holds at a key. -/
def State.getThermChs (s : State) (k : Nat) : ThermCh := mget {} s.pow.thermChs k
/-- Write one key of `thermChs`. -/
def State.putThermChs (s : State) (k : Nat) (v : ThermCh) : State := s.withThermChs (mset {} s.pow.thermChs k v)
/-- Replace `warming`. -/
def State.withWarming (s : State) (v : List (Nat × List Nat)) : State := { s with pow := { s.pow with warming := v } }
/-- What `warming` holds at a key. -/
def State.getWarming (s : State) (k : Nat) : (List Nat) := mget [] s.pow.warming k
/-- Write one key of `warming`. -/
def State.putWarming (s : State) (k : Nat) (v : (List Nat)) : State := s.withWarming (mset [] s.pow.warming k v)
/-- Replace `wafers`. -/
def State.withWafers (s : State) (v : List (Nat × Wafer)) : State := { s with rack := { s.rack with wafers := v } }
/-- What `wafers` holds at a key. -/
def State.getWafers (s : State) (k : Nat) : Wafer := mget {} s.rack.wafers k
/-- Write one key of `wafers`. -/
def State.putWafers (s : State) (k : Nat) (v : Wafer) : State := s.withWafers (mset {} s.rack.wafers k v)
/-- Replace `tmcs`. -/
def State.withTmcs (s : State) (v : List (Nat × Tmc)) : State := { s with rack := { s.rack with tmcs := v } }
/-- What `tmcs` holds at a key. -/
def State.getTmcs (s : State) (k : Nat) : Tmc := mget {} s.rack.tmcs k
/-- Write one key of `tmcs`. -/
def State.putTmcs (s : State) (k : Nat) (v : Tmc) : State := s.withTmcs (mset {} s.rack.tmcs k v)
/-- Replace `acts`. -/
def State.withActs (s : State) (v : List (Nat × Act)) : State := { s with rack := { s.rack with acts := v } }
/-- What `acts` holds at a key. -/
def State.getActs (s : State) (k : Nat) : Act := mget {} s.rack.acts k
/-- Write one key of `acts`. -/
def State.putActs (s : State) (k : Nat) (v : Act) : State := s.withActs (mset {} s.rack.acts k v)
/-- Replace `fws`. -/
def State.withFws (s : State) (v : List (Nat × FwPart)) : State := { s with rack := { s.rack with fws := v } }
/-- What `fws` holds at a key. -/
def State.getFws (s : State) (k : Nat) : FwPart := mget {} s.rack.fws k
/-- Write one key of `fws`. -/
def State.putFws (s : State) (k : Nat) (v : FwPart) : State := s.withFws (mset {} s.rack.fws k v)
/-- Replace `spots`. -/
def State.withSpots (s : State) (v : List (Nat × Spot)) : State := { s with rack := { s.rack with spots := v } }
/-- What `spots` holds at a key. -/
def State.getSpots (s : State) (k : Nat) : Spot := mget {} s.rack.spots k
/-- Write one key of `spots`. -/
def State.putSpots (s : State) (k : Nat) (v : Spot) : State := s.withSpots (mset {} s.rack.spots k v)
/-- Replace `twis`. -/
def State.withTwis (s : State) (v : List (Nat × Twi)) : State := { s with rack := { s.rack with twis := v } }
/-- What `twis` holds at a key. -/
def State.getTwis (s : State) (k : Nat) : Twi := mget {} s.rack.twis k
/-- Write one key of `twis`. -/
def State.putTwis (s : State) (k : Nat) (v : Twi) : State := s.withTwis (mset {} s.rack.twis k v)
/-- Replace `tafKept`. -/
def State.withTafKept (s : State) (v : List (Nat × List (Nat × Nat × List Nat))) : State := { s with rack := { s.rack with tafKept := v } }
/-- What `tafKept` holds at a key. -/
def State.getTafKept (s : State) (k : Nat) : (List (Nat × Nat × List Nat)) := mget [] s.rack.tafKept k
/-- Write one key of `tafKept`. -/
def State.putTafKept (s : State) (k : Nat) (v : (List (Nat × Nat × List Nat))) : State := s.withTafKept (mset [] s.rack.tafKept k v)
/-- Replace `etags`. -/
def State.withEtags (s : State) (v : List (Nat × Nat)) : State := { s with rack := { s.rack with etags := v } }
/-- What `etags` holds at a key. -/
def State.getEtags (s : State) (k : Nat) : Nat := mget 0 s.rack.etags k
/-- Write one key of `etags`. -/
def State.putEtags (s : State) (k : Nat) (v : Nat) : State := s.withEtags (mset 0 s.rack.etags k v)
/-- Replace `plans`. -/
def State.withPlans (s : State) (v : List (Nat × PlanW)) : State := { s with rack := { s.rack with plans := v } }
/-- What `plans` holds at a key. -/
def State.getPlans (s : State) (k : Nat) : PlanW := mget {} s.rack.plans k
/-- Write one key of `plans`. -/
def State.putPlans (s : State) (k : Nat) (v : PlanW) : State := s.withPlans (mset {} s.rack.plans k v)
/-- Replace `shelves`. -/
def State.withShelves (s : State) (v : List (Nat × Shelf)) : State := { s with rack := { s.rack with shelves := v } }
/-- What `shelves` holds at a key. -/
def State.getShelves (s : State) (k : Nat) : Shelf := mget {} s.rack.shelves k
/-- Write one key of `shelves`. -/
def State.putShelves (s : State) (k : Nat) (v : Shelf) : State := s.withShelves (mset {} s.rack.shelves k v)
/-- Replace `planner`. -/
def State.withPlanner (s : State) (v : Planner) : State := { s with rack := { s.rack with planner := v } }

end Sys2Proof.Machine
end

