-- ==== Sys2Proof/Machine/Ops.lean ====
section
/-!
DEFINITION. The shared operations over the machine's state: registers and their fields, the wings, free values, the wafer's
timebase, capture registers, the attention tree's raise (R597-R602, R585, R588) and the change journal (R55, R63).
-/
namespace Sys2Proof.Machine

/-- The result of a command. -/
abbrev Res := Host.Outcome State Fault Refusal

/-! ## Registers -/

/-- The key of copy `i` of a register of unit `w`. -/
def Reg.key (r : Reg) (w i : Nat) : Nat := key3 r.id w i

/-- The kind of power domain `d` (R450, PWR_DOM_STAT.KIND). -/
def domKind (d : Nat) : Nat :=
  if d < 288 then 0 else if d < 360 then 1 else if d < 432 then 2 else if d < 452 then 3 else if d < 454 then 4 else 5

/-- The value of copy `i` of a register at reset. PWR_DOM_STAT shows each domain's kind, and the always-on domain
reads ON (R480). Firmware slot A is ACTIVE (log entry 23). The TMC's group mask and every other value are in the tables. -/
def Reg.resetAt (r : Reg) (i : Nat) : Nat :=
  if r.id = PWR_DOM_STAT.id then domKind i <<< 8 ||| (if i = 454 then 3 else 0)
  else if r.id = FW_SMC_SLOT.id && i == 0 then 4
  else r.reset

/-- The live value of a register's copy. -/
def State.reg (s : State) (r : Reg) (w i : Nat) : Nat :=
  (mget (BitVec.ofNat 64 (r.resetAt i)) s.regs (r.key w i)).toNat

/-- Write the live value of a register's copy. -/
def State.setReg (s : State) (r : Reg) (w i v : Nat) : State :=
  s.withRegs (mset (BitVec.ofNat 64 (r.resetAt i)) s.regs (r.key w i) (BitVec.ofNat 64 v))

/-- The wings copy of a register's copy (R48, R49). -/
def State.wreg (s : State) (r : Reg) (w i : Nat) : Nat :=
  (mget (BitVec.ofNat 64 (r.resetAt i)) s.wings (r.key w i)).toNat

/-- Write the wings copy of a register's copy. -/
def State.setWreg (s : State) (r : Reg) (w i v : Nat) : State :=
  s.withWings (mset (BitVec.ofNat 64 (r.resetAt i)) s.wings (r.key w i) (BitVec.ofNat 64 v))

/-- Read a field of copy `i` of its register on unit `w`. -/
def State.rd (s : State) (f : Fld) (w i : Nat) : Nat := bits (s.reg f.reg w i) f.hi f.lo

/-- Write a field; the value is cut to the field's width. -/
def State.wr (s : State) (f : Fld) (w i v : Nat) : State :=
  s.setReg f.reg w i (putBits (s.reg f.reg w i) f.hi f.lo v)

/-- Read a field of the wings copy. -/
def State.rdW (s : State) (f : Fld) (w i : Nat) : Nat := bits (s.wreg f.reg w i) f.hi f.lo

/-- Write a field of the wings copy. -/
def State.wrW (s : State) (f : Fld) (w i v : Nat) : State :=
  s.setWreg f.reg w i (putBits (s.wreg f.reg w i) f.hi f.lo v)

/-- The width of a field. -/
def Fld.width (f : Fld) : Nat := f.hi + 1 - f.lo

/-- Add to a counting field, which saturates. -/
def State.bump (s : State) (f : Fld) (w i n : Nat) : State := s.wr f w i (satAdd f.width (s.rd f w i) n)

/-- Add to a counting field, which wraps at its width. -/
def State.incWrap (s : State) (f : Fld) (w i n : Nat) : State := s.wr f w i (s.rd f w i + n)

/-- Write a measured value into a field, limited to what the field can hold. -/
def State.wrSat (s : State) (f : Fld) (w i v : Nat) : State := s.wr f w i (min v (2 ^ f.width - 1))

/-- Apply `g` to a state for every element of a list, in order. -/
def forEach {α : Type} (xs : List α) (s : State) (g : α → State → State) : State := xs.foldl (fun t x => g x t) s

/-- The state, changed by `g` where the condition holds. -/
def State.when (s : State) (c : Bool) (g : State → State) : State := if c then g s else s

/-- Record what the step sends, newest first. -/
def State.emit (s : State) (e : Emit) : State := s.withOut (e :: s.out)

/-- A fresh open value (log entry 3): the counter advances, and the value is the opaque constant at the old count. -/
def State.fresh (s : State) : Nat × State := (Config.free s.freeCtr, s.withFreeCtr (s.freeCtr + 1))

/-- Change the record of a sparse map at a key. -/
def State.modAtns (s : State) (k : Nat) (g : Atn → Atn) : State := s.putAtns k (g (s.getAtns k))
def State.modHifs (s : State) (k : Nat) (g : Hif → Hif) : State := s.putHifs k (g (s.getHifs k))
def State.modChans (s : State) (k : Nat) (g : Chan → Chan) : State := s.putChans k (g (s.getChans k))
def State.modCores (s : State) (k : Nat) (g : Core → Core) : State := s.putCores k (g (s.getCores k))
def State.modParts (s : State) (k : Nat) (g : Part → Part) : State := s.putParts k (g (s.getParts k))
def State.modLinks (s : State) (k : Nat) (g : LinkEnd → LinkEnd) : State := s.putLinks k (g (s.getLinks k))
def State.modTmcs (s : State) (k : Nat) (g : Tmc → Tmc) : State := s.putTmcs k (g (s.getTmcs k))
def State.modWafers (s : State) (k : Nat) (g : Wafer → Wafer) : State := s.putWafers k (g (s.getWafers k))
def State.modPlanner (s : State) (g : Planner → Planner) : State := s.withPlanner (g s.rack.planner)

/-! ## Units -/

/-- Key of partition `p` of wafer `w`, and its number in machine-wide lists. -/
def partKey (w p : Nat) : Nat := w * 288 + p
/-- Key of core `u` of field `f` of wafer `w`. -/
def coreKey (w f u : Nat) : Nat := (w * 72 + f) * 600 + u
/-- Index of core `u` of field `f` in the field-window registers that have one copy a core. -/
def coreIdx (f u : Nat) : Nat := f * 600 + u
/-- Key of port `p` of wafer `w`; ports of B72 chip `c` follow those of the wafers. -/
def portKey (w p : Nat) : Nat := w * 72 + p
def chipPortKey (c p : Nat) : Nat := (36 + c) * 72 + p
/-- Key of field `f` of wafer `w`. -/
def fieldKey (w f : Nat) : Nat := w * 72 + f
/-- Index of queue `q` of partition `p` in the queue registers (R411). -/
def queueIdx (p q : Nat) : Nat := p * 64 + q
/-- All wafers, fields, ports, partitions and domains. -/
def allWafers : List Nat := List.range 36
def allFields : List Nat := List.range 72
def allPorts : List Nat := List.range 20
def allParts : List Nat := List.range 288
def allDomains : List Nat := List.range 455

/-! ## The wafer's timebase -/

/-- What a counter reads at an instant: the instant plus its offset, plus what its rate adjustment has added since it was set, up to its span (R624, R627, R639). -/
def Clock.read (c : Clock) (now : Nat) : Nat :=
  let moved := min (c.ppb.natAbs * (now - c.setAt) / 1000000000) c.span
  ofInt 64 ((now : Int) + c.offset + (if c.ppb < 0 then -(moved : Int) else (moved : Int)))

/-- The counter of a wafer's timebase. -/
def State.tbNow (s : State) (w : Nat) : Nat := (s.getClocks w).read s.now

/-! ## Attention -/

/-- A leaf cause: its group and bit (R606). -/
structure Leaf where
  g : Nat
  b : Nat
deriving DecidableEq, Repr

/-- POWER bit 0, SUPPLY_FAULT: a supply fault (R462). -/
def Leaf.supplyFault : Leaf := ⟨0, 0⟩
/-- POWER bit 1, DOMAIN_BLOCKED: a partition's quadrant is blocked (R464). -/
def Leaf.domainBlocked : Leaf := ⟨0, 1⟩
/-- POWER bit 2, REQ_REFUSED: a domain request is refused (R460). -/
def Leaf.reqRefused : Leaf := ⟨0, 2⟩
/-- POWER bit 3, IBC_FAULT: an IBC faults (R471). -/
def Leaf.ibcFault : Leaf := ⟨0, 3⟩
/-- POWER bit 4, CAP_CHANGED: the effective cap changes (R483). -/
def Leaf.capChanged : Leaf := ⟨0, 4⟩
/-- POWER bit 5, FLOOR_SHORT: declared draws are scaled (R485). -/
def Leaf.floorShort : Leaf := ⟨0, 5⟩
/-- POWER bit 6, ENVELOPE: a sample exceeds 20,000 W (R487). -/
def Leaf.envelope : Leaf := ⟨0, 6⟩
/-- POWER bit 7, SENSOR_LOST: a domain sample is missing (R503). -/
def Leaf.sensorLost : Leaf := ⟨0, 7⟩
/-- THERMAL bit 0, SENSOR_FAIL: a sub-sensor becomes invalid (R540). -/
def Leaf.sensorFail : Leaf := ⟨1, 0⟩
/-- THERMAL bit 1, JUNCTION: the junction limit engages (R541). -/
def Leaf.junction : Leaf := ⟨1, 1⟩
/-- THERMAL bit 2, HOTSPOT: park-hottest takes its first step (R542). -/
def Leaf.hotspot : Leaf := ⟨1, 2⟩
/-- THERMAL bit 3, GHOST_FLOOR: the floor is missed (R550). -/
def Leaf.ghostFloor : Leaf := ⟨1, 3⟩
/-- AGEING bit 0, SAMPLE_LATE: no GOOD sample for 1 h (R554). -/
def Leaf.sampleLate : Leaf := ⟨2, 0⟩
/-- AGEING bit 1, LIFE_LOW: EST falls below WARN (R557). -/
def Leaf.lifeLow : Leaf := ⟨2, 1⟩
/-- CUE bit 0, CUE_DONE: a slot reaches APPLIED (R286). -/
def Leaf.cueDone : Leaf := ⟨3, 0⟩
/-- CUE bit 1, CUE_FAIL: rehearsal fails (R282). -/
def Leaf.cueFail : Leaf := ⟨3, 1⟩
/-- CUE bit 2, CUE_DISARM: a cue is disarmed, or misses its go frame (R287, R34). -/
def Leaf.cueDisarm : Leaf := ⟨3, 2⟩
/-- CUE bit 3, BAD_START: a start is discarded (R276). -/
def Leaf.badStart : Leaf := ⟨3, 3⟩
/-- CUE bit 4, NO_SLOT: no slot for a wafer-started cue (R276). -/
def Leaf.noSlot : Leaf := ⟨3, 4⟩
/-- CUE bit 5, IMG_DONE: a load completes (R260). -/
def Leaf.imgDone : Leaf := ⟨3, 5⟩
/-- CUE bit 6, IMG_FAIL: a load fails (R259). -/
def Leaf.imgFail : Leaf := ⟨3, 6⟩
/-- CUE bit 7, IMG_BUSY: a START is discarded (R263). -/
def Leaf.imgBusy : Leaf := ⟨3, 7⟩
/-- CUE bit 8, PUSH_DONE: a push ends (R258). -/
def Leaf.pushDone : Leaf := ⟨3, 8⟩
/-- BRINGUP bit 0, PHASE_DONE: a phase ready bit sets (R302). -/
def Leaf.phaseDone : Leaf := ⟨4, 0⟩
/-- BRINGUP bit 1, PHASE_SLOW: a phase passes its latest time (R302). -/
def Leaf.phaseSlow : Leaf := ⟨4, 1⟩
/-- BRINGUP bit 2, STOPPED: bring-up stops (R308). -/
def Leaf.stopped : Leaf := ⟨4, 2⟩
/-- BRINGUP bit 3, RETEST_DONE: a field retest leaves RUNNING (R327). -/
def Leaf.retestDone : Leaf := ⟨4, 3⟩
/-- BRINGUP bit 4, FDR_DONE: a factory-depth retest commits, aborts or is refused (R324-R326). -/
def Leaf.fdrDone : Leaf := ⟨4, 4⟩
/-- LEDGER bit 0, LEDGER_NEAR: 61,440 slots used (R320). -/
def Leaf.ledgerNear : Leaf := ⟨5, 0⟩
/-- LEDGER bit 1, LEDGER_FULL: a finding is held as volatile (R320). -/
def Leaf.ledgerFull : Leaf := ⟨5, 1⟩
/-- LEDGER bit 2, NEW_HOLE_SEATED: a live chart seats a new hole (R323). -/
def Leaf.newHoleSeated : Leaf := ⟨5, 2⟩
/-- LEDGER bit 3, BELOW_GUARANTEE: BUP_USABLE.BELOW sets (R313). -/
def Leaf.belowGuarantee : Leaf := ⟨5, 3⟩
/-- LEDGER bit 4, JOURNAL_LOST: a journal entry is lost (R63). -/
def Leaf.journalLost : Leaf := ⟨5, 4⟩
/-- NET bit 0, TMC_LOST: NET_MGMT.TMC_SEEN falls (R39). -/
def Leaf.tmcLost : Leaf := ⟨6, 0⟩
/-- NET bit 1, PLANNER_LOST: NET_MGMT.PLANNER_OK falls. -/
def Leaf.plannerLost : Leaf := ⟨6, 1⟩
/-- NET bit 2, SPINE_DROP: SPN_DROP_CAP.VALID sets in any field. -/
def Leaf.spineDrop : Leaf := ⟨6, 2⟩
/-- NET bit 3, RT_BUSY: a route table write is discarded (R218). -/
def Leaf.rtBusy : Leaf := ⟨6, 3⟩
/-- NET bit 4, DRAIN_LATE: an old act is forced FREE (R222). -/
def Leaf.drainLate : Leaf := ⟨6, 4⟩
/-- NET bit 5, LOCAL_QUIET: NET_ACT_STAT.LOCAL_QUIET rises (R221). -/
def Leaf.localQuiet : Leaf := ⟨6, 5⟩
/-- NET bit 6, STREAM_FAIL: TRN_FAIL.VALID sets (R196). -/
def Leaf.streamFail : Leaf := ⟨6, 6⟩
/-- LOFT bit 0, LOFT_UE: an uncorrectable loft line (R349). -/
def Leaf.loftUe : Leaf := ⟨8, 0⟩
/-- LOFT bit 1, RANGE: a core access outside its region (R345). -/
def Leaf.range : Leaf := ⟨8, 1⟩
/-- LOFT bit 2, SPARE_USED: a row is spared (R356). -/
def Leaf.spareUsed : Leaf := ⟨8, 2⟩
/-- LOFT bit 3, SCRUB_LATE: a pass exceeds 24 h (R354). -/
def Leaf.scrubLate : Leaf := ⟨8, 3⟩
/-- LOFT bit 4, APT_ERR: an aperture access fails (R359). -/
def Leaf.aptErr : Leaf := ⟨8, 4⟩
/-- LOFT bit 5, SPAD_UE: an uncorrectable scratchpad or instruction word (R351). -/
def Leaf.spadUe : Leaf := ⟨8, 5⟩
/-- CQ bit 0, CMD_DONE: a completion record is written (R383). -/
def Leaf.cmdDone : Leaf := ⟨9, 0⟩
/-- CQ bit 1, SEQ_DONE: a slot becomes DONE (R388). -/
def Leaf.seqDone : Leaf := ⟨9, 1⟩
/-- CQ bit 2, BAD_DOORBELL: a doorbell is discarded (R379). -/
def Leaf.badDoorbell : Leaf := ⟨9, 2⟩
/-- CQ bit 3, CRING_FULL: a queue is first skipped for a full ring (R408). -/
def Leaf.cringFull : Leaf := ⟨9, 3⟩
/-- PREEMPT bit 0, PMT_DONE: STOPPED or HELD is reached (R420, R424). -/
def Leaf.pmtDone : Leaf := ⟨10, 0⟩
/-- PREEMPT bit 1, PMT_RESUMED: a partition resumes (R430). -/
def Leaf.pmtResumed : Leaf := ⟨10, 1⟩
/-- PREEMPT bit 2, PMT_REFUSED: a request is refused (R413). -/
def Leaf.pmtRefused : Leaf := ⟨10, 2⟩
/-- PREEMPT bit 3, DONATION: donation starts (R433). -/
def Leaf.donation : Leaf := ⟨10, 3⟩
/-- PREEMPT bit 4, DONATION_CUT: donation ends by its bound (R435). -/
def Leaf.donationCut : Leaf := ⟨10, 4⟩
/-- TIME bit 0, TIME_STEP: a forward step of time is taken. -/
def Leaf.timeStep : Leaf := ⟨11, 0⟩
/-- TIME bit 1, QUALITY: timestamp quality changes. -/
def Leaf.quality : Leaf := ⟨11, 1⟩
/-- TIME bit 2, PPS_LOST: the tray PPS is lost. -/
def Leaf.ppsLost : Leaf := ⟨11, 2⟩
/-- TWI bit 0, CTRL_DONE: a controller transfer completes. -/
def Leaf.ctrlDone : Leaf := ⟨12, 0⟩
/-- TWI bit 1, CTRL_NACK: a controller transfer is not acknowledged. -/
def Leaf.ctrlNack : Leaf := ⟨12, 1⟩
/-- TWI bit 2, ARB_LOST: the controller loses arbitration. -/
def Leaf.arbLost : Leaf := ⟨12, 2⟩
/-- TWI bit 3, STRETCH_TIMEOUT: the stretch timeout resets the target. -/
def Leaf.stretchTimeout : Leaf := ⟨12, 3⟩
/-- TWI bit 4, BUS_STUCK: a bus line is held low beyond its limit. -/
def Leaf.busStuck : Leaf := ⟨12, 4⟩
/-- DEBUG bit 0, ATTACH: a debugger attaches or detaches. -/
def Leaf.attach : Leaf := ⟨13, 0⟩
/-- DEBUG bit 1, HALTED: a core halts. -/
def Leaf.halted : Leaf := ⟨13, 1⟩
/-- DEBUG bit 2, BREAKPOINT: a breakpoint is hit. -/
def Leaf.breakpoint : Leaf := ⟨13, 2⟩
/-- DEBUG bit 3, WATCHPOINT: a watchpoint is hit. -/
def Leaf.watchpoint : Leaf := ⟨13, 3⟩
/-- HOST bit 0, UNIMPL: an access error of that kind. -/
def Leaf.unimpl : Leaf := ⟨14, 0⟩
/-- HOST bit 1, NOT_SERVED: an access error of that kind. -/
def Leaf.notServed : Leaf := ⟨14, 1⟩
/-- HOST bit 2, PARTIAL_WRITE: an access error of that kind. -/
def Leaf.partialWrite : Leaf := ⟨14, 2⟩
/-- HOST bit 3, WINGS_LOCKED: an access error of that kind. -/
def Leaf.wingsLocked : Leaf := ⟨14, 3⟩
/-- HOST bit 4, RSVD_NONZERO: an access error of that kind. -/
def Leaf.rsvdNonzero : Leaf := ⟨14, 4⟩
/-- HOST bit 5, TOO_LONG: an access error of that kind. -/
def Leaf.tooLong : Leaf := ⟨14, 5⟩
/-- HOST bit 6, DMA_DONE: a descriptor with IRQ = 1 finishes (R580). -/
def Leaf.dmaDone : Leaf := ⟨14, 6⟩
/-- HOST bit 7, DMA_ERR: a descriptor ends with code 1-4, or a TAIL or ring size is refused (R578, R581). -/
def Leaf.dmaErr : Leaf := ⟨14, 7⟩
/-- HOST bit 8, WAKE: a wake event sets PME_Status (R588). -/
def Leaf.wake : Leaf := ⟨14, 8⟩
/-- PART bit 0, PART_FAULT: a partition enters FAULTED (R376). -/
def Leaf.partFault : Leaf := ⟨15, 0⟩
/-- PART bit 1, CURTAIN_DONE: a curtain completes (R395). -/
def Leaf.curtainDone : Leaf := ⟨15, 1⟩


/-- LINK bit p, PORTp: LNK_STAT.STATE or MISCABLED of port P`p` changes. -/
def Leaf.port (p : Nat) : Leaf := ⟨7, p⟩
/-- Bit 31 of a group, TEST (R603). -/
def Leaf.test (g : Nat) : Leaf := ⟨g, 31⟩

/-- ATN_PENDING bit of group `g`: the OR of the group's unmasked leaves (R598). -/
def State.groupPending (s : State) (w g : Nat) : Bool :=
  s.reg ATN_CAUSE w g &&& notBits 32 (s.reg ATN_LMASK w g) != 0

/-- ATN_PENDING (R598). -/
def State.atnPending (s : State) (w : Nat) : Nat :=
  ofLeBits ((List.range 16).map fun g => s.groupPending w g)

/-- ATN_SUMMARY: ATN_PENDING with the bits of ATN_MASK cleared (R598). -/
def State.atnSummary (s : State) (w : Nat) : Nat :=
  s.atnPending w &&& notBits 16 (s.reg ATN_MASK w 0)

/-- A coalescing time: values above 1,000 µs act as 1,000 (R617). -/
def coalTime (v : Nat) : Nat := min v 1000

/-- Copy the MSI-X state into the registers that show it (R595). -/
def State.msixSync (s : State) (w : Nat) : State :=
  let h := s.getHifs w
  let s1 := s.wr HIF_MSIX_STAT_MASKED w 0 (b2n (h.funcMask || s.rd HIF_MSIX_VCTL_MASK w 0 == 1))
  let s2 := s1.wr HIF_MSIX_STAT_ENABLED w 0 (b2n h.msixEnable)
  s2.wr HIF_MSIX_STAT_PENDING w 0 (s2.rd HIF_MSIX_PBA_PENDING w 0)

/-- Set or clear the vector's pending bit (R585). -/
def State.msixPend (s : State) (w : Nat) (b : Bool) : State := (s.wr HIF_MSIX_PBA_PENDING w 0 (b2n b)).msixSync w

/-- Send one MSI-X message now, or set the pending bit while the vector is masked or the function may not send (R583, R585).
While MSI-X is disabled nothing is sent. -/
def State.sendMsix (s : State) (w : Nat) : State :=
  let h := s.getHifs w
  if !h.msixEnable then s
  else if h.funcMask || s.rd HIF_MSIX_VCTL_MASK w 0 == 1 || s.rd HIF_LINK_DSTATE w 0 != 0 || s.rd HIF_LINK_BME w 0 == 0 then
    s.msixPend w true
  else
    let s1 := (s.bump HIF_MSIX_STAT_SENT w 0 1).emit (.msix w (s.reg HIF_MSIX_ADDR w 0) (s.reg HIF_MSIX_DATA w 0))
    (s1.msixPend w false).modAtns w fun a => { a with spacing := true }

/-- One host-path event (R599, R600): with MSIX_US above 0 it starts the coalescing timer or joins it; with MSIX_US = 0 it sends its
own message, or is held back while the 1 µs spacing runs. -/
def State.hostEvent (s : State) (w : Nat) : State :=
  let a := s.getAtns w
  if a.hostTimer.isSome then s
  else
    let us := coalTime (s.rd ATN_COAL_MSIX_US w 0)
    if us = 0 then
      if a.spacing then s.putAtns w { a with heldEvent := true } else s.sendMsix w
    else s.putAtns w { a with hostTimer := some us }

/-- One TMC-path event of group `g` (R599, R601). -/
def State.tmcEvent (s : State) (w g : Nat) : State :=
  let s1 := s.setReg ATN_TMC_SEEN w 0 (s.reg ATN_TMC_SEEN w 0 ||| 2 ^ g)
  let a := s1.getAtns w
  if a.attnN || a.tmcTimer.isSome then s1
  else s1.putAtns w { a with tmcTimer := some (coalTime (s1.rd ATN_COAL_TMC_US w 0)) }

/-- Set a leaf that was 0 or mark ATN_AGAIN, without looking at wake events (R597, R599). -/
def State.raiseBare (s : State) (w : Nat) (l : Leaf) : State :=
  let old := s.reg ATN_CAUSE w l.g
  let s1 := s.setReg ATN_GTIME w l.g (s.tbNow w)
  if bitAt old l.b then s1.setReg ATN_AGAIN w 0 (s1.reg ATN_AGAIN w 0 ||| 2 ^ l.g)
  else
    let s2 := s1.setReg ATN_CAUSE w l.g (old ||| 2 ^ l.b)
    if bitAt (s.reg ATN_LMASK w l.g) l.b then s2
    else
      let s3 := if bitAt (s.reg ATN_MASK w 0) l.g then s2 else s2.hostEvent w
      if bitAt (s.reg ATN_TMC_MASK w 0) l.g then s3 else s3.tmcEvent w l.g

/-- A wake event of group `g` (R588-R590): the group is recorded; the first one while PME_Status is 0 sets it, raises WAKE
and signals by WAKE# in D3cold or by PM_PME in D3hot. WAKE# is not asserted once PERST# is released. -/
def State.wakeEvent (s : State) (w g : Nat) : State :=
  let s1 := s.wr HIF_WAKE_GROUPS w 0 (s.rd HIF_WAKE_GROUPS w 0 ||| 2 ^ g)
  if s1.rd HIF_WAKE_PME_STATUS w 0 == 1 then s1
  else
    let s2 := (s1.wr HIF_WAKE_PME_STATUS w 0 1).raiseBare w Leaf.wake
    let s3 :=
      if s2.rd HIF_LINK_DSTATE w 0 = 2 then
        if s2.rd HIF_LINK_PERST w 0 == 1 then (s2.wr HIF_WAKE_SIGNAL w 0 1).wr HIF_WAKE_WAKE_ASSERTED w 0 1 else s2
      else (s2.wr HIF_WAKE_SIGNAL w 0 2).emit (.pme w)
    if bitAt (s3.atnSummary w) 14 && !bitAt (s.atnSummary w) 14 && bitAt (s3.rd HIF_PM_WAKE_EN w 0) 14 then
      s3.wr HIF_WAKE_GROUPS w 0 (s3.rd HIF_WAKE_GROUPS w 0 ||| 2 ^ 14)
    else s3

/-- What follows when ATN_SUMMARY may have gained group `g`: a wake event if the group's bit has just set, is enabled in
HIF_PM.WAKE_EN, and the function sleeps with PME_En = 1 (R588). `before` is the summary before the change. -/
def State.wakeCheck (s : State) (w g before : Nat) : State :=
  if bitAt (s.atnSummary w) g && !bitAt before g && bitAt (s.rd HIF_PM_WAKE_EN w 0) g
      && s.rd HIF_LINK_DSTATE w 0 != 0 && (s.getHifs w).pmeEn then s.wakeEvent w g
  else s

/-- Raise a leaf cause of a wafer (R597). -/
def State.raise (s : State) (w : Nat) (l : Leaf) : State :=
  (s.raiseBare w l).wakeCheck w l.g (s.atnSummary w)

/-- Set a source bit (R602). -/
def State.setSrc (s : State) (r : Reg) (w n : Nat) : State :=
  s.setReg r w (n / 32) (s.reg r w (n / 32) ||| 2 ^ (n % 32))

/-- Raise a leaf that names a partition, a field or a cue slot (R602). -/
def State.raiseP (s : State) (w p : Nat) (l : Leaf) : State := (s.setSrc ATN_PSRC w p).raise w l
def State.raiseF (s : State) (w f : Nat) (l : Leaf) : State := (s.setSrc ATN_FSRC w f).raise w l
def State.raiseS (s : State) (w c : Nat) (l : Leaf) : State := (s.setSrc ATN_CUE_SRC w c).raise w l

/-! ## The change journal -/

/-- Show the journal's counts in its registers (R65). -/
def State.jrnlSync (s : State) (w : Nat) : State :=
  let j := s.getJournals w
  let unsp := (j.entries.filter fun e => e.inRing && !e.inFlash).length
  let s1 := s.setReg ID_JRNL_NEXT w 0 j.next
  let s2 := s1.setReg ID_JRNL_OLDEST w 0 (match j.entries with | [] => j.next | e :: _ => e.seq)
  s2.wr ID_JRNL_STAT_UNSPILLED w 0 unsp

/-- The timestamp quality of a wafer (R56). -/
def State.quality (s : State) (w : Nat) : Nat := s.rd TB_STAT_QUALITY w 0

/-- Record one journal entry (R55, R56). The ring holds the latest 4,096 entries and the flash the latest 65,536. An
entry that leaves the ring before it has been copied is lost, counted and raised (R63); a fetch that holds it goes on (R64). -/
def State.journalAt (s : State) (time w kind source scope outcome scopeId : Nat) (detail digest : List Nat) : State :=
  let j := s.getJournals w
  let e : JEntry := ⟨j.next, time,
    kind % 16 + source % 16 * 16 + s.quality w % 4 * 256 + scope % 4 * 1024 + outcome % 16 * 4096 + scopeId % 65536 * 65536,
    detail, digest, true, false⟩
  let aged := j.entries.map fun x => { x with inRing := x.inRing && decide (j.next < x.seq + 4096), inFlash := x.inFlash && decide (j.next < x.seq + 65536) }
  let lost := j.entries.any fun x => x.inRing && !x.inFlash && decide (x.seq + 4096 ≤ j.next)
  let j2 : Journal := { j with next := j.next + 1, entries := (aged.filter fun x => x.inRing || x.inFlash) ++ [e] }
  let s1 := (s.putJournals w j2).jrnlSync w
  if lost then (s1.bump ID_JRNL_STAT_LOST w 0 1).raise w Leaf.journalLost else s1

/-- Add an entry whose TIME is now. -/
def State.journal (s : State) (w kind source scope outcome scopeId : Nat) (detail digest : List Nat) : State :=
  s.journalAt (s.tbNow w) w kind source scope outcome scopeId detail digest

end Sys2Proof.Machine
end

