-- ==== Sys2Proof/Machine/Attention.lean ====
section
/-!
DEFINITION. The attention tree's commands (R596-R617): tests, unmasking, the two coalescing timers, the 1 µs spacing and the
clearing of ATN_TMC_SEEN. Raising a leaf is in Machine/Ops.lean.
-/
namespace Sys2Proof.Machine

/-- Release ATTN_N if ATN_TMC_SEEN holds no bit outside ATN_TMC_MASK (R601). -/
def State.attnRelease (s : State) (w : Nat) : State :=
  let a := s.getAtns w
  if a.attnN && s.reg ATN_TMC_SEEN w 0 &&& notBits 16 (s.reg ATN_TMC_MASK w 0) == 0 then
    s.putAtns w { a with attnN := false }
  else s

/-- A write of a group's leaf mask: uncovering a set leaf is an event of each path whose group mask is clear
(R598, R599). -/
def leafMaskWrite (w g v : Nat) (s : State) : State :=
  let uncovered := s.reg ATN_CAUSE w g &&& s.reg ATN_LMASK w g &&& notBits 32 v
  let before := s.atnSummary w
  let s1 := s.setReg ATN_LMASK w g (v % 2 ^ 32)
  if uncovered = 0 then s1
  else
    let s2 := if bitAt (s1.reg ATN_MASK w 0) g then s1 else s1.hostEvent w
    let s3 := if bitAt (s1.reg ATN_TMC_MASK w 0) g then s2 else s2.tmcEvent w g
    s3.wakeCheck w g before

/-- A write of ATN_MASK: uncovering a pending group is a host-path event (R598, R599). -/
def hostMaskWrite (w v : Nat) (s : State) : State :=
  let before := s.atnSummary w
  let uncovered := s.atnPending w &&& s.reg ATN_MASK w 0 &&& notBits 16 v
  let s1 := s.setReg ATN_MASK w 0 (v % 2 ^ 16)
  if uncovered = 0 then s1
  else forEach (List.range 16) (s1.hostEvent w) fun g t => if bitAt uncovered g then t.wakeCheck w g before else t

/-- A write of ATN_TMC_MASK: uncovering a pending group is a TMC-path event, and covering the last seen group releases
ATTN_N (R599, R601). -/
def tmcMaskWrite (w v : Nat) (s : State) : State :=
  let uncovered := s.atnPending w &&& s.reg ATN_TMC_MASK w 0 &&& notBits 16 v
  let s1 := s.setReg ATN_TMC_MASK w 0 (v % 2 ^ 16)
  let s2 := forEach (List.range 16) s1 fun g t => if bitAt uncovered g then t.tmcEvent w g else t
  s2.attnRelease w

/-- ATN_TEST: raise TEST in each named group (R603). -/
def atnTest (w groups : Nat) (s : State) : State :=
  forEach (List.range 16) s fun g t => if bitAt groups g then t.raise w (Leaf.test g) else t

/-- A W1C write of ATN_TMC_SEEN (R601). -/
def tmcSeenClear (w v : Nat) (s : State) : State :=
  (s.setReg ATN_TMC_SEEN w 0 (s.reg ATN_TMC_SEEN w 0 &&& notBits 16 v)).attnRelease w

/-- The host coalescing timer expires (R600, R611, R613). -/
def msixExpiry (w : Nat) (s : State) : State :=
  let a := s.getAtns w
  if a.hostTimer.isNone then s
  else
    let s1 := s.putAtns w { a with hostTimer := none }
    if s1.atnSummary w = 0 then s1.bump ATN_SUPPRESSED_COUNT w 0 1 else s1.sendMsix w

/-- 1 µs has passed since the last message: an event the spacing held back is sent (R600). -/
def msixSpacing (w : Nat) (s : State) : State :=
  let a := s.getAtns w
  let s1 := s.putAtns w { a with spacing := false, heldEvent := false }
  if a.heldEvent then s1.sendMsix w else s1

/-- The TMC coalescing timer expires (R601). -/
def tmcExpiry (w : Nat) (s : State) : State :=
  let a := s.getAtns w
  if a.tmcTimer.isNone then s
  else
    s.putAtns w { a with
      tmcTimer := none
      attnN := a.attnN || (s.reg ATN_TMC_SEEN w 0 &&& notBits 16 (s.reg ATN_TMC_MASK w 0) != 0) }

/-- Every start clears the tree: causes, ATN_AGAIN, ATN_TMC_SEEN, sources, timers; masks and ATN_COAL return to their reset values
(R604). -/
def atnStart (w : Nat) (s : State) : State :=
  let s1 := forEach (List.range 16) s fun g t => (t.setReg ATN_CAUSE w g 0).setReg ATN_LMASK w g 0
  let s2 := forEach (List.range 9) s1 fun i t => t.setReg ATN_PSRC w i 0
  let s3 := forEach (List.range 3) s2 fun i t => t.setReg ATN_FSRC w i 0
  let s4 := (((s3.setReg ATN_CUE_SRC w 0 0).setReg ATN_AGAIN w 0 0).setReg ATN_TMC_SEEN w 0 0).setReg ATN_MASK w 0 ATN_MASK.reset
  let s5 := (s4.setReg ATN_TMC_MASK w 0 ATN_TMC_MASK.reset).setReg ATN_COAL w 0 ATN_COAL.reset
  s5.putAtns w {}

/-- ATN_TEST. -/
def execAtnTest (w : WaferId) (groups : BitVec 16) (s : State) : Res := .next (atnTest w groups.toNat s)

/-- ATN_UNMASK: a write of a mask register that clears mask bits. -/
def execAtnUnmask (w : WaferId) (m : MaskReg) (v : Word32) (s : State) : Res :=
  match m with
  | .leaf g => .next (leafMaskWrite w g v.toNat s)
  | .host => .next (hostMaskWrite w v.toNat s)
  | .tmc => .next (tmcMaskWrite w v.toNat s)

/-- MSIX_COALESCE_EXPIRY. -/
def execMsixCoalesceExpiry (w : WaferId) (s : State) : Res := .next (msixExpiry w s)

/-- MSIX_SPACING. -/
def execMsixSpacing (w : WaferId) (s : State) : Res := .next (msixSpacing w s)

/-- TMC_COALESCE_EXPIRY. -/
def execTmcCoalesceExpiry (w : WaferId) (s : State) : Res := .next (tmcExpiry w s)

/-- TMC_SEEN_CLEAR. -/
def execTmcSeenClear (w : WaferId) (v : BitVec 16) (s : State) : Res := .next (tmcSeenClear w v.toNat s)

end Sys2Proof.Machine
end

