-- ==== Sys2Proof/Machine/Loft.lean ====
section
/-!
DEFINITION. Lofts as memory: bytes, poisoned lines, the row-sparing and retirement bookkeeping, and the wings of a cue's scope with
the rollback a failed load needs (R260, R266), because every write into a loft may hit the source of a load.
-/
namespace Sys2Proof.Machine

def State.modLofts (s : State) (k : Nat) (g : LoftSt → LoftSt) : State := s.putLofts k (g (s.getLofts k))
def State.modLoads (s : State) (k : Nat) (g : Load → Load) : State := s.putLoads k (g (s.getLoads k))
def State.modSlots (s : State) (k : Nat) (g : CueSlot → CueSlot) : State := s.putSlots k (g (s.getSlots k))
def State.modCueUnits (s : State) (k : Nat) (g : CueUnit → CueUnit) : State := s.putCueUnits k (g (s.getCueUnits k))

/-! ## Scopes and wings -/

/-- A field's program pointer (R251): which program shadow its cores fill from. A staged object of the model's own
number; it is not in the window. -/
def PROG_PTR : Reg := { id := 307, off := 0, dims := [(1, 72)], st := 0x1 }

/-- Registers with scope "per partition" that hold ST fields, besides PRT_QMASK (R274). -/
def partRegs : List Reg :=
  [PRT_DEF, PRT_PRIO, PRT_QCFG, PRT_QBASE, PRT_SE_BASE, PRT_SE, PMT_MODE, PWR_PART_CFG, THM_ROT]

/-- Registers with scope "per field" that hold ST fields (R274). -/
def fieldRegs : List Reg := [CORE_MODE, THM_CH_CFG]

/-- Wafer-scope registers that hold ST fields, besides the act stamp pair. -/
def waferRegs : List Reg :=
  [ID_STRUCT_TAG, PWR_OPPOINT, NET_ARB, NET_INJ_AGE, TRN_CFG, PWR_LOOP, PWR_DROOP_CFG, THM_LIMITS, THM_GHOST, AGE_CFG]

/-- The index of entry `i` of partition `p`'s seating chart, header or segment (NET_SEAT_SEL). -/
def seatIdx (p : Nat) (hdr : Bool) (i : Nat) : Nat := p + 512 * b2n hdr + 1024 * i

/-- Whether a quadrant belongs to partition `p` in the live or in the wings copy. -/
def State.quadOf (s : State) (wing : Bool) (w p q : Nat) : Bool :=
  bitAt (if wing then s.wreg PRT_QMASK w (p * 9 + q / 32) else s.reg PRT_QMASK w (p * 9 + q / 32)) (q % 32)

/-- The four quadrants of field `f` all belong to `p`, in both copies (R274). -/
def State.wholeField (s : State) (w p f : Nat) : Bool :=
  (List.range 4).all fun k => s.quadOf false w p (4 * f + k) && s.quadOf true w p (4 * f + k)

/-- A field holds a quadrant of partition `p`. -/
def State.fieldInPart (s : State) (wing : Bool) (w p f : Nat) : Bool :=
  (List.range 4).any fun k => s.quadOf wing w p (4 * f + k)

/-- One staged object or a part of one: a register and a copy. -/
abbrev StObj := Reg × Nat

/-- The segments that a partition's chart holds in a copy: the header and the segments it counts (R213). -/
def State.seatCount (s : State) (wing : Bool) (w p : Nat) : Nat :=
  bits (if wing then s.wreg NET_SEAT_DATA w (seatIdx p true 0) else s.reg NET_SEAT_DATA w (seatIdx p true 0)) 51 37

/-- A partition's chart, as register copies. -/
def State.chartObjs (s : State) (w p : Nat) : List StObj :=
  (NET_SEAT_DATA, seatIdx p true 0) ::
    (List.range (max (s.seatCount false w p) (s.seatCount true w p))).map fun i => (NET_SEAT_DATA, seatIdx p false i)

/-- The staged objects of partition scope (R274). -/
def State.partObjs (s : State) (w p : Nat) : List StObj :=
  partRegs.map (fun r => (r, p)) ++ (List.range 9).map (fun i => (PRT_QMASK, p * 9 + i))
    ++ allFields.flatMap (fun f => if s.wholeField w p f then fieldRegs.map fun r => (r, f) else [])
    ++ s.chartObjs w p
    ++ allFields.flatMap (fun f => if s.fieldInPart false w p f || s.fieldInPart true w p f then [(PROG_PTR, f)] else [])

/-- The staged objects of a wafer, the act stamp pair among them when `stamp` holds. -/
def State.waferObjs (s : State) (w : Nat) (stamp : Bool) : List StObj :=
  waferRegs.map (fun r => (r, 0)) ++ (if stamp then [(NET_ACT_STAMP, 0), (NET_ACT_GEN, 0)] else [])
    ++ allFields.flatMap (fun f => (PROG_PTR, f) :: fieldRegs.map fun r => (r, f))
    ++ allParts.flatMap (fun p => partRegs.map (fun r => (r, p)) ++ (List.range 9).map (fun i => (PRT_QMASK, p * 9 + i)) ++ s.chartObjs w p)

/-- The staged objects of a cue's scope on one wafer (R274): scope 0 partition, 1 wafer, 2 machine. -/
def State.scopeObjs (s : State) (w scope p : Nat) : List StObj :=
  if scope = 0 then s.partObjs w p else s.waferObjs w true

/-- Copy the live value of the objects into their wings (R49, R260). -/
def State.liveToWings (s : State) (w : Nat) (os : List StObj) : State :=
  forEach os s fun o t => t.setWreg o.1 w o.2 (t.reg o.1 w o.2)

/-- The staged objects that the expansion of a partition image may have written: those of R248 under the staged quadrants (R256). -/
def State.imageObjs (s : State) (w p : Nat) : List StObj :=
  partRegs.map (fun r => (r, p)) ++ (List.range 9).map (fun i => (PRT_QMASK, p * 9 + i))
    ++ allFields.flatMap (fun f => if (List.range 4).all (fun k => s.quadOf true w p (4 * f + k)) then fieldRegs.map fun r => (r, f) else [])
    ++ s.chartObjs w p
    ++ allFields.flatMap (fun f => if s.fieldInPart false w p f || s.fieldInPart true w p f then [(PROG_PTR, f)] else [])

/-- A cue that starts rehearsing locks the LOADING act that it stamps (R218). -/
def lockStamp (w c : Nat) (s : State) : State :=
  let changes := s.wreg NET_ACT_STAMP w 0 != s.reg NET_ACT_STAMP w 0 || s.wreg NET_ACT_GEN w 0 != s.reg NET_ACT_GEN w 0
  let t := s.wreg NET_ACT_STAMP w 0 % 2
  let st := if t = 0 then s.rd NET_ACT_STAT_A_STATE w 0 else s.rd NET_ACT_STAT_B_STATE w 0
  let s1 := if t = 0 then s.wr NET_ACT_STAT_A_STATE w 0 2 else s.wr NET_ACT_STAT_B_STATE w 0 2
  if s.rd CUE_SSTAT_SCOPE w c ≠ 0 ∧ changes = true ∧ st = 1 then s1.modSlots (w * 8 + c) fun x => { x with lockedAct := some t } else s

/-- Cues that wait for a load go on to rehearsal (R278). -/
def leaveWaiting (w : Nat) (s : State) : State :=
  forEach (List.range 8) s fun c t => if t.rd CUE_SSTAT_STATE w c = 1 then lockStamp w c (t.wr CUE_SSTAT_STATE w c 2) else t

/-- End the running load of a wafer with an error; a load that was expanding or waiting rolls its wings back and releases the
lock (R259, R260). -/
def imgFail (w err : Nat) (s : State) : State :=
  let l := s.getLoads w
  let st := s.rd IMG_STAT_STATE w 0
  if st = 1 ∨ st = 2 ∨ st = 5 then
    let s1 := if st = 1 then s
      else (s.liveToWings w (if l.wafer then s.waferObjs w false else s.imageObjs w l.part)).modCueUnits w
        fun u => { u with loadLock := none }
    let s2 := (s1.wr IMG_STAT_STATE w 0 4).wr IMG_STAT_ERR w 0 err
    let s3 := s2.wrSat IMG_ELAPSED_US w 0 ((s2.now - l.start + 999) / 1000)
    leaveWaiting w (s3.raise w Leaf.imgFail)
  else s

/-- A write into the source range of a running load fails it with SRC_CHANGED (R266). -/
def sourceHit (w f off n : Nat) (s : State) : State :=
  let st := s.rd IMG_STAT_STATE w 0
  let l := s.getLoads w
  if (st = 1 ∨ st = 2 ∨ st = 5) ∧ l.field = f ∧ off < l.off + l.len ∧ l.off < off + n then imgFail w 24 s else s

/-! ## Loft bytes and lines -/

/-- The loft's domain is ON (R359). -/
def State.domOn (s : State) (w d : Nat) : Bool := s.rd PWR_DOM_STAT_STATE w d == 3
def State.loftOn (s : State) (w f : Nat) : Bool := s.domOn w (360 + f)
def State.loftDead (s : State) (w f : Nat) : Bool := s.rd LOFT_STAT_DEAD w f == 1
def State.spineOn (s : State) (w f : Nat) : Bool := s.domOn w (288 + f)

/-- The key of byte `off` of the loft of field `f` of wafer `w`: lofts lie 2^35 apart (log entry 5). -/
def loftKey (w f off : Nat) : Nat := fieldKey w f * 2 ^ 35 + off
/-- The number of a 64-byte line among all lofts. -/
def lineKey (w f off : Nat) : Nat := loftKey w f off / 64

/-- One byte of a loft. A byte that nothing has written reads 0: bring-up writes every working loft with zero (R346). -/
def State.loftByte (s : State) (w f off : Nat) : Nat := (mget (0 : Byte) s.loft (loftKey w f off)).toNat

/-- `n` bytes of a loft from `off`. -/
def State.loftBytes (s : State) (w f off n : Nat) : List Nat := (List.range n).map fun i => s.loftByte w f (off + i)

/-- A line is poisoned (R349). -/
def State.poisoned (s : State) (w f off : Nat) : Bool := s.loftPoison.contains (lineKey w f off)

/-- The offsets of the lines that a range touches. -/
def linesOf (off n : Nat) : List Nat :=
  if n = 0 then [] else (List.range ((off + n - 1) / 64 - off / 64 + 1)).map fun i => (off / 64 + i) * 64

/-- Store bytes whatever the lines hold. -/
def storeBytes (w f off : Nat) (bs : List Nat) (s : State) : State :=
  s.withLoft ((bs.zipIdx).foldl (fun m bi => mset (0 : Byte) m (loftKey w f (off + bi.2)) (BitVec.ofNat 8 bi.1)) s.loft)

/-- Poison a line. -/
def State.poisonLine (s : State) (w f off : Nat) : State :=
  if s.poisoned w f off then s else s.withLoftPoison (lineKey w f off :: s.loftPoison)

/-- Write the part of `bs` (from offset `off`) that falls into the line at `line`: a write of all 64 bytes clears poison, and a
write of fewer bytes into a poisoned line is discarded and counted (R347, R349). -/
def writeLine (w f off : Nat) (bs : List Nat) (line : Nat) (s : State) : State :=
  let lo := max off line
  let hi := min (off + bs.length) (line + 64)
  let part := (bs.drop (lo - off)).take (hi - lo)
  if s.poisoned w f line then
    if part.length = 64 then
      storeBytes w f lo part (s.withLoftPoison (s.loftPoison.filter fun k => k ≠ lineKey w f line))
    else s.bump LOFT_EVENTS_POISON_WR w f 1
  else storeBytes w f lo part s

/-- Write bytes into a working loft; a dead loft discards the write and counts it as poisoned (R357). -/
def loftWrite (w f off : Nat) (bs : List Nat) (s : State) : State :=
  if s.loftDead w f then s.bump LOFT_EVENTS_POISON_WR w f 1
  else
    let s1 := forEach (linesOf off bs.length) s (writeLine w f off bs)
    sourceHit w f off bs.length (s1.incWrap LOFT_WR_BYTES_COUNT w f bs.length)

/-- Count bytes read from a loft (R370). -/
def loftCountRead (w f n : Nat) (s : State) : State := s.incWrap LOFT_RD_BYTES_COUNT w f n

/-- A quarter's range in its loft (R342). -/
def quarterBase (k : Nat) : Nat := 0x10000000 + k * 0x15C000000
def quarterSize : Nat := 0x15C000000

/-- Zero a range of a loft: no listed byte and no poison of it stays (R346). -/
def zeroLoft (w f off n : Nat) (s : State) : State :=
  let lo := loftKey w f off
  (s.withLoft (s.loft.filter fun c => c.1 < lo || lo + n ≤ c.1)).withLoftPoison
    (s.loftPoison.filter fun k => k < lo / 64 || (lo + n + 63) / 64 ≤ k)

/-- A partition's quarters of a field in ascending order (R343). -/
def State.quartersOf (s : State) (w p f : Nat) : List Nat := (List.range 4).filter fun k => s.quadOf false w p (4 * f + k)

/-- Translate a range of a partition's region offsets to the absolute ranges it covers (R343-R345). None where any byte
falls outside the region and outside the staging window that LOFT_STG_PART grants. -/
def State.regionMap (s : State) (w f p off n : Nat) : Option (List (Nat × Nat)) :=
  let qs := s.quartersOf w p f
  if n ≠ 0 ∧ off + n ≤ qs.length * quarterSize then
    let first := off / quarterSize
    let last := (off + n - 1) / quarterSize
    some ((List.range (last - first + 1)).map fun i =>
      let j := first + i
      let lo := max off (j * quarterSize)
      let hi := min (off + n) ((j + 1) * quarterSize)
      (quarterBase (qs.getD j 0) + (lo - j * quarterSize), hi - lo))
  else if n ≠ 0 ∧ 0x800000000 ≤ off ∧ off + n ≤ 0x880000000 ∧ s.rd LOFT_STG_PART_PART w f = p then
    some [(0x580000000 + (off - 0x800000000), n)]
  else none

/-- Every offset of the pieces of a translated range, as the lines touched. -/
def piecesLines (ps : List (Nat × Nat)) : List Nat := ps.flatMap fun x => linesOf x.1 x.2

/-- Read a translated range. -/
def State.readPieces (s : State) (w f : Nat) (ps : List (Nat × Nat)) : List Nat := ps.flatMap fun x => s.loftBytes w f x.1 x.2

/-- Write a translated range piece by piece. -/
def writePieces (w f : Nat) : List (Nat × Nat) → List Nat → State → State
  | [], _, s => s
  | (o, n) :: r, bs, s => writePieces w f r (bs.drop n) (loftWrite w f o (bs.take n) s)

/-- An access from a core outside its region (R345): counted, the first one captured, RANGE raised. -/
def rangeError (w f p addr kind : Nat) (s : State) : State :=
  let s1 := s.bump LOFT_EVENTS_RANGE w f 1
  let s2 := if s1.rd LOFT_RANGE_CAP_VALID w f = 1 then s1
    else (((s1.wr LOFT_RANGE_CAP_ADDR w f addr).wr LOFT_RANGE_CAP_SPART w f p).wr LOFT_RANGE_CAP_KIND w f kind).wr LOFT_RANGE_CAP_VALID w f 1
  s2.raiseF w f Leaf.range

/-- The row of line L: its row number L >> 13 with its pseudo-channel and bank, L mod 512 (R339). -/
def rowOf (line : Nat) : Nat := line / 8192 * 512 + line % 512
/-- The pseudo-channel and bank of a row (R339). -/
def bankOf (row : Nat) : Nat := row % 512

/-- A curtain is zeroing a quarter that a range touches: accesses wait (R365). -/
def State.zeroingAt (s : State) (w f off n : Nat) : Bool :=
  s.job.parts.any fun x => decide (x.1 / 288 = w) && x.2.zeroing.any fun q =>
    q / 4 == f && decide (off < quarterBase (q % 4) + quarterSize) && decide (quarterBase (q % 4) < off + n)

end Sys2Proof.Machine
end

