-- ==== Sys2Proof/Machine/HostIf.lean ====
section
/-!
DEFINITION. The host interface (R569-R595): the PCIe link, resets, power states and wake, MSI-X enabling and masking, and the DMA
engine.
-/
namespace Sys2Proof.Machine

/-- The states of HIF_LINK.STATE (R595). -/
def pcieDown : Nat := 0
def pcieL0 : Nat := 2

/-- DMA channel states (R595). -/
def chStopped : Nat := 0
def chRunning : Nat := 1
def chIdle : Nat := 2
def chHalted : Nat := 3

/-- The engine may issue requests: Bus Master Enable is 1 and the function is in D0 (R583). -/
def State.mayIssue (s : State) (w : Nat) : Bool := s.rd HIF_LINK_BME w 0 == 1 && s.rd HIF_LINK_DSTATE w 0 == 0

/-- Ring size of a channel, in descriptors. -/
def State.dmaRingSize (s : State) (w c : Nat) : Nat := 2 ^ s.rd HIF_DMA_CFG_RING_LOG2 w c

/-- TAIL minus HEAD modulo 2^32 (R578). -/
def State.dmaGiven (s : State) (w c : Nat) : Nat := (s.reg HIF_DMA_TAIL w c + 2 ^ 32 - s.reg HIF_DMA_HEAD w c) % 2 ^ 32

/-- Set a channel's STATE and PAUSED from its counts: RUNNING with work, IDLE without; a HALTED or STOPPED channel stays (R583,
R595). -/
def State.chanSync (s : State) (w c : Nat) : State :=
  let st := s.rd HIF_DMA_STAT_STATE w c
  let s1 := if st = chRunning ∨ st = chIdle then s.wr HIF_DMA_STAT_STATE w c (if s.dmaGiven w c = 0 then chIdle else chRunning) else s
  s1.wr HIF_DMA_STAT_PAUSED w c (b2n (s1.rd HIF_DMA_STAT_STATE w c == chRunning && !s1.mayIssue w))

/-- Resynchronise every channel of a wafer after a change of Bus Master Enable or of the device power state. -/
def State.chansSync (s : State) (w : Nat) : State := forEach (List.range 4) s fun c t => t.chanSync w c

/-- End a channel's descriptors ABORTED: no status is written and HEAD does not count them (R581). -/
def chanAbort (w c : Nat) (s : State) : State := s.putChans (key2 w c) {}

/-- Reset a channel's registers and stop it (R573). -/
def chanReset (w c : Nat) (s : State) : State :=
  let s1 := chanAbort w c s
  ((((s1.setReg HIF_DMA_BASE w c 0).setReg HIF_DMA_CFG w c 0).setReg HIF_DMA_TAIL w c 0).setReg HIF_DMA_HEAD w c 0).setReg HIF_DMA_STAT w c 0
    |>.setReg HIF_DMA_BYTES w c 0

/-- What PERST#, a hot reset and an FLR reset alike (R573): configuration space, MSI-X enable, function mask, table entry and
pending bit, and the DMA channels. PME_Status, PME_En, HIF_WAKE and every other register are kept. -/
def hifReset (w : Nat) (s : State) : State :=
  let s1 := s.modHifs w fun h => { h with msixEnable := false, funcMask := false, l1Asked := false }
  let s2 := (((s1.setReg HIF_MSIX_ADDR w 0 0).setReg HIF_MSIX_DATA w 0 0).setReg HIF_MSIX_VCTL w 0 1).setReg HIF_MSIX_PBA w 0 0
  let s3 := s2.wr HIF_LINK_BME w 0 0
  (forEach (List.range 4) s3 (chanReset w)).msixSync w

/-- The link goes down: an exit from L0 is counted (R595), descriptors end as in R591. -/
def pcieLinkDown (w : Nat) (s : State) : State :=
  let s1 := if s.rd HIF_LINK_STATE w 0 = pcieL0 then s.bump HIF_LINK_EVENTS_LINK_DOWN w 0 1 else s
  ((s1.wr HIF_LINK_STATE w 0 pcieDown).wr HIF_LINK_SPEED w 0 0).wr HIF_LINK_WIDTH w 0 0

/-- The link goes down with the host field that carries it (R572, R592): the function is as after a reset. -/
def pcieLost (w : Nat) (s : State) : State :=
  ((hifReset w (pcieLinkDown w s)).wr HIF_LINK_DSTATE w 0 0).modHifs w fun h => { h with termination := false, l23Ready := false }

/-- PERST# asserted (R573, R586, R591): after L2/L3 Ready the function enters D3cold. A conventional reset otherwise leaves
it in D0. -/
def perstAssert (w : Nat) (s : State) : State :=
  let cold := (s.getHifs w).l23Ready
  let s1 := hifReset w (s.bump HIF_LINK_EVENTS_RESETS w 0 1)
  let s2 := if cold then (s1.wr HIF_LINK_DSTATE w 0 2).wr HIF_LINK_STATE w 0 6
    else (pcieLinkDown w s1).wr HIF_LINK_DSTATE w 0 0
  s2.wr HIF_LINK_PERST w 0 1

/-- PERST# released: WAKE# is withdrawn, PME_Status and HIF_WAKE are kept, and the link trains (R589). -/
def perstRelease (w : Nat) (s : State) : State :=
  if s.rd HIF_LINK_PERST w 0 = 0 then s
  else
    let s1 := ((s.wr HIF_LINK_PERST w 0 0).wr HIF_WAKE_WAKE_ASSERTED w 0 0).wr HIF_LINK_DSTATE w 0 0
    let s2 := s1.modHifs w fun h => { h with l23Ready := false }
    if (s2.getHifs w).termination then s2.wr HIF_LINK_STATE w 0 1 else s2.wr HIF_LINK_STATE w 0 pcieDown

/-- A hot reset (R573). -/
def hotReset (w : Nat) (s : State) : State :=
  (pcieLinkDown w (hifReset w (s.bump HIF_LINK_EVENTS_RESETS w 0 1))).wr HIF_LINK_DSTATE w 0 0

/-- A function level reset (R573): the link itself stays up. -/
def flr (w : Nat) (s : State) : State :=
  (hifReset w (s.bump HIF_LINK_EVENTS_RESETS w 0 1)).wr HIF_LINK_DSTATE w 0 0

/-- The link reaches L0, which it may only after phase 0 is ready and while PERST# is released (R572). -/
def pcieLinkUp (w speed width : Nat) (s : State) : State :=
  if (s.getHifs w).termination ∧ s.rd HIF_LINK_PERST w 0 = 0 then
    ((s.wr HIF_LINK_STATE w 0 pcieL0).wr HIF_LINK_SPEED w 0 speed).wr HIF_LINK_WIDTH w 0 width
  else s

/-- A write of PMCSR (R586, R588): D3hot puts the link into L1; D0 keeps the configuration space and resumes DMA; PME_Status is
cleared only here; a pending message follows on the return to D0 (R600). -/
def pmcsrWrite (w : Nat) (d3hot pmeEn clearPme : Bool) (s : State) : State :=
  if s.rd HIF_LINK_DSTATE w 0 = 2 then s
  else
    let was := s.rd HIF_LINK_DSTATE w 0
    let s1 := (s.wr HIF_LINK_DSTATE w 0 (b2n d3hot)).modHifs w fun h => { h with pmeEn := pmeEn }
    let s2 := if clearPme then s1.wr HIF_WAKE_PME_STATUS w 0 0 else s1
    let s3 := if d3hot && was == 0 && s2.rd HIF_LINK_STATE w 0 == pcieL0 then s2.wr HIF_LINK_STATE w 0 3
      else if !d3hot && was == 1 && s2.rd HIF_LINK_STATE w 0 == 3 then s2.wr HIF_LINK_STATE w 0 pcieL0 else s2
    let s4 := s3.chansSync w
    if !d3hot && was == 1 && s4.rd HIF_MSIX_PBA_PENDING w 0 == 1 then s4.sendMsix w else s4

/-- MSI-X Enable (R585): enabling sends one message if ATN_SUMMARY is nonzero. -/
def msixEnable (w : Nat) (on : Bool) (s : State) : State :=
  let was := (s.getHifs w).msixEnable
  let s1 := (s.modHifs w fun h => { h with msixEnable := on }).msixSync w
  if on && !was && s1.atnSummary w != 0 then s1.sendMsix w else s1

/-- Write the function mask and the vector mask; clearing the last mask sends one message if the pending bit is set (R585). -/
def msixMask (w : Nat) (func vector : Bool) (s : State) : State :=
  let s1 := (((s.modHifs w fun h => { h with funcMask := func }).wr HIF_MSIX_VCTL_MASK w 0 (b2n vector))).msixSync w
  if !func && !vector && s1.rd HIF_MSIX_PBA_PENDING w 0 == 1 then s1.sendMsix w else s1

/-- A change of Bus Master Enable pauses or resumes DMA and MSI-X (R583). -/
def busMaster (w : Nat) (on : Bool) (s : State) : State :=
  let s1 := (s.wr HIF_LINK_BME w 0 (b2n on)).chansSync w
  if on && s1.rd HIF_MSIX_PBA_PENDING w 0 == 1 && !(s1.getHifs w).funcMask && s1.rd HIF_MSIX_VCTL_MASK w 0 == 0 then s1.sendMsix w else s1

/-- A write of HIF_DMA_TAIL (R578): discarded with DMA_ERR when more than the ring would be given. -/
def dmaTail (w c v : Nat) (s : State) : State :=
  if s.rd HIF_DMA_STAT_STATE w c = chStopped then s
  else if s.dmaRingSize w c < (v + 2 ^ 32 - s.reg HIF_DMA_HEAD w c) % 2 ^ 32 then s.raise w Leaf.dmaErr
  else (s.setReg HIF_DMA_TAIL w c v).chanSync w c

/-- HIF_DMA_CFG.ENABLE = 1 (R578, R595): a ring size outside 4 to 15 keeps the channel STOPPED and raises DMA_ERR. A channel that is
already enabled keeps its counts. -/
def dmaEnable (w c log2 : Nat) (s : State) : State :=
  let was := s.rd HIF_DMA_CFG_ENABLE w c
  let s1 := (s.wr HIF_DMA_CFG_ENABLE w c 1).wr HIF_DMA_CFG_RING_LOG2 w c log2
  if log2 < 4 then s1.raise w Leaf.dmaErr
  else if was = 1 ∧ s.rd HIF_DMA_STAT_STATE w c ≠ chStopped then s1
  else
    let s2 := ((s1.setReg HIF_DMA_HEAD w c 0).setReg HIF_DMA_TAIL w c 0).setReg HIF_DMA_BYTES w c 0
    (((s2.putChans (key2 w c) {}).wr HIF_DMA_STAT_STATE w c chIdle).wr HIF_DMA_STAT_LAST_CODE w c 0).chanSync w c

/-- HIF_DMA_CFG.ENABLE = 0 (R581). -/
def dmaDisable (w c : Nat) (s : State) : State :=
  let s1 := (chanAbort w c s).wr HIF_DMA_CFG_ENABLE w c 0
  (((s1.setReg HIF_DMA_HEAD w c 0).setReg HIF_DMA_TAIL w c 0).wr HIF_DMA_STAT_STATE w c chStopped).wr HIF_DMA_STAT_PAUSED w c 0

/-- HIF_DMA_CFG.RESUME leaves HALTED (R581). -/
def dmaResume (w c : Nat) (s : State) : State :=
  if s.rd HIF_DMA_STAT_STATE w c = chHalted then (s.wr HIF_DMA_STAT_STATE w c chRunning).chanSync w c else s

/-- A descriptor is well formed (R579, R581 code 1). -/
def dmaOk (d : DmaDesc) : Bool :=
  !d.rsvd && d.haddr % 4 == 0 && d.laddr % 4 == 0 && d.len % 4 == 0 && decide (4 ≤ d.len) && decide (d.len ≤ 0x4000000)
    && decide (d.laddr >>> 40 ≤ 71) && decide (d.laddr % 2 ^ 40 + d.len ≤ 0x600000000)

/-- The 4-byte STATUS word of a descriptor in host memory: DONE and the code (R579). -/
def dmaStatus (code : Nat) : List Nat := leBytes 4 (2 ^ 31 + code)

/-- The oldest descriptor of a channel ends with a code (R580, R581): its STATUS is written in host memory, HEAD counts it, and
DMA_DONE follows with IRQ = 1; codes 1 to 4 halt the channel and raise DMA_ERR. -/
def dmaEnd (w c code : Nat) (s : State) : State :=
  match (s.getChans (key2 w c)).live with
  | [] => s
  | (d, _) :: rest =>
    let pos := s.reg HIF_DMA_HEAD w c % s.dmaRingSize w c
    let s1 := s.emit (.hostWrite w (s.reg HIF_DMA_BASE w c + pos * 32 + 0x1C) (dmaStatus code))
    let s2 := (s1.modChans (key2 w c) fun ch => { ch with live := rest }).incWrap HIF_DMA_HEAD_COUNT w c 1
    let s3 := (s2.wr HIF_DMA_STAT_LAST_CODE w c code).chanSync w c
    let s4 := if code = 0 then s3 else (s3.wr HIF_DMA_STAT_STATE w c chHalted).wr HIF_DMA_STAT_PAUSED w c 0
    let s5 := if d.irq then s4.raise w Leaf.dmaDone else s4
    if code = 0 then s5 else s5.raise w Leaf.dmaErr

/-- The first line of a loft range that a loft-to-host transfer cannot read. -/
def State.firstPoison (s : State) (w f off n : Nat) : Option Nat :=
  (linesOf off n).find? fun l => s.poisoned w f l

/-- Carry out a loft-to-host descriptor (R580, R581): the bytes before a poisoned line are written to the host. -/
def dmaToHost (w c : Nat) (d : DmaDesc) (s : State) : State :=
  let f := d.laddr >>> 40
  let off := d.laddr % 2 ^ 40
  if s.loftDead w f || !s.loftOn w f then dmaEnd w c 4 s
  else if s.zeroingAt w f off d.len then s
  else
    let n := match s.firstPoison w f off d.len with | none => d.len | some l => l - off
    let s1 := (loftCountRead w f n s).emit (.hostWrite w d.haddr (s.loftBytes w f off n))
    let s2 := s1.incWrap HIF_DMA_BYTES_COUNT w c n
    if n = d.len then dmaEnd w c 0 s2 else dmaEnd w c 4 s2

/-- A host read fails (R581): the oldest descriptor ends, or the descriptor whose own read failed, of which nothing is known. -/
def dmaReadFails (w c code : Nat) (s : State) : State :=
  if (s.getChans (key2 w c)).live.isEmpty then
    if s.dmaGiven w c = 0 then s
    else dmaEnd w c code (s.modChans (key2 w c) fun k => { k with live := [(⟨0, 0, 0, false, false, false, 0⟩, 0)] })
  else dmaEnd w c code s

/-- A completion of a host read arrives (R580-R582): a descriptor joins the channel's work, and a malformed one ends BAD_DESC in its
turn; data of the oldest host-to-loft descriptor is written into the loft; an error completion ends it HOST_ERR. -/
def dmaArrive (w c : Nat) (x : DmaArrival) (s : State) : State :=
  let ch := s.getChans (key2 w c)
  let st := s.rd HIF_DMA_STAT_STATE w c
  if st ≠ chRunning then s
  else match x with
  | .desc d =>
    if s.dmaGiven w c ≤ ch.live.length then s
    else s.putChans (key2 w c) { ch with live := ch.live ++ [(d, 0)], fetched := ch.fetched + 1 }
  | .data bs =>
    match ch.live with
    | (d, moved) :: rest =>
      if d.dir || !dmaOk d then s
      else
        let f := d.laddr >>> 40
        let n := min bs.length (d.len - moved)
        if s.loftDead w f || !s.loftOn w f then dmaEnd w c 4 s
        else if s.zeroingAt w f (d.laddr % 2 ^ 40 + moved) n then s
        else
          let s1 := loftWrite w f (d.laddr % 2 ^ 40 + moved) ((bs.take n).map (·.toNat)) s
          (s1.incWrap HIF_DMA_BYTES_COUNT w c n).modChans (key2 w c) fun k => { k with live := (d, moved + n) :: rest }
    | [] => s
  | .error => dmaReadFails w c 2 s

/-- The oldest descriptor of a channel finishes (R580): BAD_DESC if it is malformed, its transfer for loft to host, OK for host to
loft once all its data is in the loft. -/
def dmaDone (w c : Nat) (s : State) : State :=
  if s.rd HIF_DMA_STAT_STATE w c ≠ chRunning then s
  else match (s.getChans (key2 w c)).live with
  | [] => s
  | (d, moved) :: _ =>
    if !dmaOk d then dmaEnd w c 1 s
    else if !s.mayIssue w then s
    else if d.dir then dmaToHost w c d s
    else if s.loftDead w (d.laddr >>> 40) || !s.loftOn w (d.laddr >>> 40) then dmaEnd w c 4 s
    else if moved = d.len then dmaEnd w c 0 s else s

/-- A host read passes its completion timeout (R581). -/
def dmaTimeout (w c : Nat) (s : State) : State :=
  if s.rd HIF_DMA_STAT_STATE w c = chRunning then dmaReadFails w c 3 s else s

/-- The endpoint requests L1 after L1_IDLE_US with nothing outstanding in D0 (R587). -/
def l1Entry (w : Nat) (s : State) : State :=
  if s.rd HIF_LINK_STATE w 0 = pcieL0 ∧ s.rd HIF_LINK_DSTATE w 0 = 0 ∧ s.rd HIF_MSIX_PBA_PENDING w 0 = 0
      ∧ (List.range 4).all (fun c => (s.getChans (key2 w c)).live.isEmpty) then
    (s.modHifs w fun h => { h with l1Asked := true }).wr HIF_LINK_STATE w 0 3
  else s

/-- PME_Turn_Off is answered by PME_TO_Ack and L2/L3 Ready (R587). -/
def pmeTurnOff (w : Nat) (s : State) : State :=
  (s.modHifs w fun h => { h with l23Ready := true }).wr HIF_LINK_STATE w 0 6

/-- PM_PME is sent again every 100 ms in D3hot while PME_Status is set; no register changes (R588). -/
def pmeRepeat (w : Nat) (s : State) : State :=
  if s.rd HIF_LINK_DSTATE w 0 = 1 ∧ s.rd HIF_WAKE_PME_STATUS w 0 = 1 then s.emit (.pme w) else s

/-- The link partner moves the link (R587, R595). -/
def pcieEvent (w : Nat) (e : PcieEvent) (s : State) : State :=
  let st := s.rd HIF_LINK_STATE w 0
  match e with
  | .exitL1 => if st = 3 ∨ st = 4 ∨ st = 5 then s.wr HIF_LINK_STATE w 0 pcieL0 else s
  | .recovery => if st = 2 ∨ st = 3 ∨ st = 4 ∨ st = 5 then (s.bump HIF_LINK_EVENTS_RECOVERY w 0 1).wr HIF_LINK_STATE w 0 7 else s
  | .backToL0 => if st = 7 then s.wr HIF_LINK_STATE w 0 pcieL0 else s
  | .down => if st = 0 then s else pcieLinkDown w s

def execPerstAssert (w : WaferId) (s : State) : Res := .next (perstAssert w s)
def execPerstRelease (w : WaferId) (s : State) : Res := .next (perstRelease w s)
def execHotReset (w : WaferId) (s : State) : Res := .next (hotReset w s)
def execFlr (w : WaferId) (s : State) : Res := .next (flr w s)
def execPcieLinkUp (w : WaferId) (speed : BitVec 3) (width : BitVec 5) (s : State) : Res := .next (pcieLinkUp w speed.toNat width.toNat s)
def execPmcsrWrite (w : WaferId) (d3hot pmeEn clearPme : Bool) (s : State) : Res := .next (pmcsrWrite w d3hot pmeEn clearPme s)
def execMsixEnable (w : WaferId) (enable : Bool) (s : State) : Res := .next (msixEnable w enable s)
def execMsixUnmask (w : WaferId) (func vector : Bool) (s : State) : Res := .next (msixMask w func vector s)
def execBusMasterEnable (w : WaferId) (on : Bool) (s : State) : Res := .next (busMaster w on s)
def execDmaTailWrite (w : WaferId) (c : ChanId) (v : Word32) (s : State) : Res := .next (dmaTail w c v.toNat s)
def execDmaEnable (w : WaferId) (c : ChanId) (ringLog2 : BitVec 4) (s : State) : Res := .next (dmaEnable w c ringLog2.toNat s)
def execDmaDisable (w : WaferId) (c : ChanId) (s : State) : Res := .next (dmaDisable w c s)
def execDmaResume (w : WaferId) (c : ChanId) (s : State) : Res := .next (dmaResume w c s)
def execDmaCompletion (w : WaferId) (c : ChanId) (x : DmaArrival) (s : State) : Res := .next (dmaArrive w c x s)
def execDmaCompletionTimeout (w : WaferId) (c : ChanId) (s : State) : Res := .next (dmaTimeout w c s)
def execDmaDescDone (w : WaferId) (c : ChanId) (s : State) : Res := .next (dmaDone w c s)
def execL1Entry (w : WaferId) (s : State) : Res := .next (l1Entry w s)
def execPmeTurnOff (w : WaferId) (s : State) : Res := .next (pmeTurnOff w s)
def execPmeRepeat (w : WaferId) (s : State) : Res := .next (pmeRepeat w s)
def execPcieLinkRecovery (w : WaferId) (e : PcieEvent) (s : State) : Res := .next (pcieEvent w e s)

end Sys2Proof.Machine
end

