-- ==== Sys2Proof/Machine/Lookup.lean ====
section
/-!
DEFINITION. Which register, and which copy of it, stands at an offset of the management window or of a B72's space (R40, R680).
-/
namespace Sys2Proof.Machine

/-- The copy of an arrayed register at a distance from its first copy, and what remains of the distance. -/
def locateDims : List (Nat × Nat) → Nat → Nat → Option (Nat × Nat)
  | [], i, rel => some (i, rel)
  | (stride, n) :: r, i, rel => if rel / stride < n then locateDims r (i * n + rel / stride) (rel % stride) else none

/-- The number of bytes of a register. -/
def Reg.size (r : Reg) : Nat := if r.wide then 8 else 4

/-- The copy of a register that holds the byte at an offset, and the byte's place in it. -/
def Reg.locate (r : Reg) (o : Nat) : Option (Nat × Nat) :=
  if o < r.off then none
  else match locateDims r.dims 0 (o - r.off) with
  | some (i, rem) => if rem < r.size then some (i, rem) else none
  | none => none

/-- The first register of a list that holds the byte at an offset: the register, its copy and the byte's place in it. -/
def findIn : List Reg → Nat → Option (Reg × Nat × Nat)
  | [], _ => none
  | r :: rs, o =>
    match r.locate o with
    | some x => some (r, x)
    | none => findIn rs o

/-- Every register of the management window. -/
def findReg (o : Nat) : Option (Reg × Nat × Nat) := findIn windowRegs o

/-- Offset of a copy of a register. -/
def dimsOff : List (Nat × Nat) → Nat → Nat
  | [], _ => 0
  | (stride, n) :: r, i => let m := r.foldl (fun a x => a * x.2) 1; (i / m) % n * stride + dimsOff r (i % m)

/-- The window offset of copy `i` of a register. -/
def Reg.offsetOf (r : Reg) (i : Nat) : Nat := r.off + dimsOff r.dims i

end Sys2Proof.Machine
end

