-- ==== Sys2Proof/Machine/Packets.lean ====
section
/-!
DEFINITION. Physical addresses and seats (R210-R215), packet headers and their checks (R144-R148), and what an NI does with an
outbound packet: its queue for injection, its stream, its port and its TSEQ (R153, R191, R192, R219).
-/
namespace Sys2Proof.Machine

/-- A physical address (R210). -/
def physAddr (slot field unit : Nat) : Nat := slot % 64 + field % 128 * 64 + unit % 1024 * 8192
def addrSlot (a : Nat) : Nat := a % 64
def addrField (a : Nat) : Nat := a / 64 % 128
def addrUnit (a : Nat) : Nat := a / 8192 % 1024

/-- Whether a physical address names a unit (R210, R211). -/
def addrValid (a : Nat) : Bool :=
  decide (addrSlot a ≤ 51) &&
    ((decide (addrField a ≤ 71) && decide (addrUnit a ≤ 602)) || (decide (72 ≤ addrField a) && decide (addrField a ≤ 81) && decide (addrUnit a ≤ 1))
      || (decide (82 ≤ addrField a) && decide (addrField a ≤ 83) && decide (addrUnit a ≤ 1)) || decide (36 ≤ addrSlot a))

/-- The act bit a wafer's NIs stamp (R218). -/
def State.stamp (s : State) (w : Nat) : Nat := s.rd NET_ACT_STAT_STAMP w 0

/-- The index of a route-table entry (NET_RT_SEL, R217). -/
def rtIdx (kind act field index : Nat) : Nat := kind + 8 * act + 16 * field + 2048 * index

/-- A route-table entry of a wafer. -/
def State.route (s : State) (w kind act field index : Nat) : Nat := s.reg NET_RT_DATA w (rtIdx kind act field index)

/-- The skip row of column `c` of a field, in the skip map of the stamped act (R215, R217). -/
def State.skipMap (s : State) (w slot field c : Nat) : Nat :=
  bits (s.route w 6 (s.stamp w) 0 ((slot * 72 + field) * 2 + c / 12)) (5 * (c % 12) + 4) (5 * (c % 12))

/-- The skip row of a column of the wafer's own fields (R311). -/
def State.skipRow (s : State) (w f c : Nat) : Nat := bits (s.reg BUP_SKIP w (f * 4 + c / 6)) (5 * (c % 6) + 4) (5 * (c % 6))

/-- The logical row of a core unit, if its physical row is not skipped (R18). -/
def State.logicalRow (s : State) (w f u : Nat) : Option Nat :=
  let pr := u / 24
  let sk := s.skipRow w f (u % 24)
  if pr = sk then none else if pr < sk then some pr else some (pr - 1)

/-- The quadrant of a logical position (R19). -/
def quadAt (row col : Nat) : Nat := row / 12 * 2 + col / 12

/-- The partition whose live quadrant mask holds a quadrant. -/
def State.partOfQuad (s : State) (w q : Nat) : Option Nat :=
  allParts.find? fun p => s.rd PRT_DEF_VALID w p == 1 && s.quadOf false w p q

/-- The partition that holds a core unit. -/
def State.partOfCore (s : State) (w f u : Nat) : Option Nat :=
  match s.logicalRow w f u with
  | some r => s.partOfQuad w (4 * f + quadAt r (u % 24))
  | none => none

/-- One segment of a seating chart (R213). -/
structure Seg where
  first : Nat
  count : Nat
  slot : Nat
  field : Nat
  quad : Nat
  pos : Nat
deriving DecidableEq, Repr

def segOf (e : Nat) : Seg := ⟨bits e 19 0, bits e 27 20, bits e 33 28, bits e 40 34, bits e 42 41, bits e 50 43⟩

/-- The segments of a partition's chart, live or in the wings. -/
def State.segs (s : State) (wing : Bool) (w p : Nat) : List Seg :=
  (List.range (s.seatCount wing w p)).map fun i =>
    segOf (if wing then s.wreg NET_SEAT_DATA w (seatIdx p false i) else s.reg NET_SEAT_DATA w (seatIdx p false i))

/-- N_RANKS of a partition's live chart. -/
def State.nRanks (s : State) (w p : Nat) : Nat := bits (s.reg NET_SEAT_DATA w (seatIdx p true 0)) 20 0

/-- The physical unit code of a logical position under the skip map (R215). -/
def State.seatUnit (s : State) (w : Nat) (g : Seg) (r : Nat) : Nat :=
  let pos := g.pos + (r - g.first)
  let row := g.quad / 2 * 12 + pos / 12
  let col := g.quad % 2 * 12 + pos % 12
  let skip := s.skipMap w g.slot g.field col
  (if row < skip then row else row + 1) * 24 + col

/-- The NI's lookup of a rank (R215): none is RANK_SCOPE. -/
def State.seatOf (s : State) (w p r : Nat) : Option Nat :=
  if s.nRanks w p ≤ r then none
  else
    match (s.segs false w p).reverse.find? fun g => decide (g.first ≤ r) with
    | none => none
    | some g => some (physAddr g.slot g.field (s.seatUnit w g r))

/-- Every seat of a partition's live chart on its own wafer: field, unit and rank. -/
def State.localSeats (s : State) (w p : Nat) : List (Nat × Nat × Nat) :=
  (s.segs false w p).flatMap fun g =>
    if g.slot = w then (List.range g.count).map fun i => (g.field, s.seatUnit w g (g.first + i), g.first + i) else []

/-! ## Headers -/

end Sys2Proof.Machine

namespace Sys2Proof
open Machine

/-- Payload flits and the words of the last one, minus 1 (R145). -/
def Packet.pflits (p : Packet) : Nat := (p.payload.length + 31) / 32
def Packet.lastw (p : Packet) : Nat := if p.payload.isEmpty then 0 else (p.payload.length - 1) % 32 / 4

/-- Header bytes 0 to 29 (R145). The fields LEVEL and DLINE and the channel's VC are left 0: HCRC takes bits 7:3 of word 0 as 0
(R148). -/
def Packet.headBytes (p : Packet) : List Nat :=
  leBytes 4 (p.act % 2 + p.cls % 4 * 2 + p.typ % 16 * 256 + p.pflits % 32 * 4096 + p.lastw % 8 * 131072 + p.rsvd % 4096 * 1048576)
    ++ leBytes 4 (p.dest % 2 ^ 23)
    ++ leBytes 4 (p.src % 2 ^ 23 + p.spart % 512 * 2 ^ 23)
    ++ leBytes 4 p.tseq ++ leBytes 4 p.addr
    ++ leBytes 4 (p.addr >>> 32 % 256 + p.rid % 65536 * 256)
    ++ leBytes 4 p.pcrc ++ leBytes 2 p.aux

/-- The header check that belongs to a packet (R148). -/
def Packet.hcrcOf (p : Packet) : Nat := crc16 p.headBytes

/-- The payload check that belongs to a packet; 0 without payload (R145, R148). -/
def Packet.pcrcOf (p : Packet) : Nat := if p.payload.isEmpty then 0 else crc32c p.payload

/-- A packet with both checks in place. -/
def Packet.sealed (p : Packet) : Packet :=
  let q := { p with pcrc := p.pcrcOf }
  { q with hcrc := q.hcrcOf }

def Packet.hcrcOk (p : Packet) : Bool := p.hcrc == p.hcrcOf
def Packet.pcrcOk (p : Packet) : Bool := p.pcrc == p.pcrcOf

/-- Word 0 of a header as it stands on a channel with VC `vc` (R145). -/
def Packet.word0 (p : Packet) (vc : Nat) : Nat :=
  ofLeBytes (p.headBytes.take 4) + vc % 8 * 8 + p.level % 2 * 64 + p.dline % 2 * 128

end Sys2Proof

namespace Sys2Proof.Machine

/-- The class of a message of `n` bytes (R146). -/
def msgClass (n : Nat) : Nat := if 256 < n then 2 else 0

/-! ## Outbound packets -/

/-- SPART of packets that no partition sends (R191). -/
def noPart : Nat := 0x1FF

/-- The number of an NI of a wafer: its field code, host fields among them. -/
def niKey (w f : Nat) : Nat := w * 128 + f
/-- The key of a send stream at an NI: destination NI, class and source partition (R191). -/
def sendKey (w f destNi cls spart : Nat) : Nat := ((niKey w f * 2 ^ 23 + destNi) * 4 + cls) * 512 + spart
/-- The key of a receive stream at an NI: source NI, class and source partition. -/
def recvKey (w f srcNi cls spart : Nat) : Nat := ((niKey w f * 2 ^ 23 + srcNi) * 4 + cls) * 512 + spart
/-- The NI of an address: slot and field; in far form all of it, since the unit bits name the field (R188). -/
def niOf (a : Nat) : Nat := if addrSlot a < 36 then a % 8192 else a % 2 ^ 23

/-- The parts of a stream's key. -/
def streamNi (k : Nat) : Nat := k / 2 ^ 34
def streamPeer (k : Nat) : Nat := k / 2048 % 2 ^ 23
def streamCls (k : Nat) : Nat := k / 512 % 4
def streamPart (k : Nat) : Nat := k % 512

/-- Put a packet at the end of a partition's queue for injection at the NI of its source (R153). -/
def enqueue (w f : Nat) (p : Packet) (s : State) : State :=
  let k := niKey w f
  let inj := s.getInjects k
  let q := mget [] inj.queues p.spart
  s.putInjects k { inj with
    queues := mset [] inj.queues p.spart (q ++ [p])
    since := if q.isEmpty then mset 0 inj.since p.spart s.now else inj.since }

/-- The field whose spine an NI uses: its own, or the one that bridges a host field (R141). -/
def spineOf (f : Nat) : Nat := if f < 72 then f else if f = 82 then 36 else 44

/-- A packet is discarded at a spine (R148, R155, R167): reason 0 CRC, 1 ECC, 2 NOROUTE, 3 PORT_DOWN; counted, the first one captured. -/
def dropPacket (w f reason : Nat) (p : Packet) (s : State) : State :=
  let s0 := if reason = 0 then s.bump SPN_DROP_CRC w f 1 else if reason = 1 then s.bump SPN_DROP_ECC w f 1
    else if reason = 2 then s.bump SPN_DROP_NOROUTE w f 1 else s.bump SPN_DROP_PORT_DOWN w f 1
  let s1 := s0.bump NET_DROP_WAFER_COUNT w 0 1
  if s1.rd SPN_DROP_CAP_VALID w f = 1 then s1
  else
    ((((s1.wr SPN_DROP_CAP_DEST w f p.dest).wr SPN_DROP_CAP_ACT w f p.act).wr SPN_DROP_CAP_REASON w f reason).wr SPN_DROP_CAP_VALID w f 1).raise w Leaf.spineDrop

/-- The key of an output's channel: element code and output of an element of a field's network (Machine/Network.lean); the NI's channel into port tree `p` is
output `p` of element 96. -/
def outKey (w f elem out : Nat) : Nat := (niKey w f * 128 + elem) * 256 + out
/-- Flits that the receiver's buffer of a channel's VC holds, of 20 (R151). -/
def State.usedCredits (s : State) (key vc : Nat) : Nat := s.getFabricCredits (key * 8 + vc)
def State.useCredits (s : State) (key vc n : Nat) : State := s.putFabricCredits (key * 8 + vc) (s.usedCredits key vc + n)
/-- The channel holds credits for a whole packet (R151). -/
def State.hasCredit (s : State) (key vc flits : Nat) : Bool := decide (s.usedCredits key vc + flits ≤ 20)

/-- The flits of a packet: its header and its payload. -/
def flitsOf (p : Packet) : Nat := 1 + p.pflits

/-- The next port of a mask after `last`, in round-robin order (R192). -/
def nextPort (mask last : Nat) : Option Nat := ((List.range 20).map fun i => (last + 1 + i) % 20).find? fun p => bitAt mask p

/-- The ports of the live act for a destination slot and class (R192, R217). -/
def State.portMask (s : State) (w slot cls : Nat) : Nat := s.route w 0 (s.stamp w) 0 (slot * 4 + cls) % 2 ^ 20

/-- Those of them whose tree holds credit for the packet at the NI's tap; all of them if none does. -/
def State.freePorts (s : State) (w f : Nat) (p : Packet) : Nat :=
  let m := s.portMask w (addrSlot p.dest) p.cls
  let free := (List.range 20).foldl (fun n i => if bitAt m i && s.hasCredit (outKey w f 96 i) p.cls (flitsOf p) then n + 2 ^ i else n) 0
  if free = 0 then m else free

/-- Hand a packet to the network: onto the wafer, into the tree of a port, or nowhere without a route (R155, R192). The port is 31 for a packet that
stays on the wafer. -/
def emitOn (w f port : Nat) (p : Packet) (s : State) : State :=
  if port = 31 then s.emit (.packet w f p)
  else if port < 20 then (s.useCredits (outKey w f 96 port) p.cls (flitsOf p)).emit (.linkPacket w port p)
  else dropPacket w (spineOf f) 2 p s

/-- The source of a packet as it travels: in far form when the destination is another machine (R188). -/
def State.srcFor (s : State) (w f : Nat) (p : Packet) : Nat :=
  if 36 ≤ addrSlot p.dest then physAddr (36 + s.rack.planner.machineNo) w f else p.src

/-- Send a packet that is not sequenced: a TACK or a NACK (R194). -/
def sendLoose (w f : Nat) (p : Packet) (s : State) : State :=
  let q := Packet.sealed { p with act := s.stamp w, src := s.srcFor w f p }
  if addrSlot p.dest = w then s.emit (.packet w f q)
  else
    let k := niKey w f
    let port := (nextPort (s.freePorts w f q) (s.getInjects k).lastPort).getD 30
    emitOn w f port q (s.putInjects k { s.getInjects k with lastPort := port })

/-- Give a packet its TSEQ and port and send it; a packet to the NI's own field is turned around without the transport (R138, R191,
R192). Beyond the window it waits. -/
def streamSend (w f : Nat) (p : Packet) (s : State) : State :=
  if niOf p.dest = w + f * 64 then s.emit (.packet w f (Packet.sealed { p with act := s.stamp w }))
  else
    let k := sendKey w f (niOf p.dest) p.cls p.spart
    let st := s.getSends k
    if max 1 (s.rd TRN_CFG_WINDOW w 0) ≤ st.unacked.length then s.putSends k { st with waiting := st.waiting ++ [p] }
    else
      let q := Packet.sealed { p with act := s.stamp w, src := s.srcFor w f p, tseq := p.cls % 4 * 2 ^ 30 + st.next % 2 ^ 30 }
      let port := if addrSlot p.dest = w then 31 else (nextPort (s.freePorts w f q) st.lastPort).getD 30
      let s1 := s.putSends k { st with
        next := (st.next + 1) % 2 ^ 30
        unacked := st.unacked ++ [⟨q, port, 0⟩]
        lastPort := if port < 20 then port else st.lastPort }
      emitOn w f port q s1

/-- Cut a message into packets of at most 512 payload bytes, each with its own address (R144). -/
def segmentFrom : Nat → Packet → List Nat → List Packet
  | 0, _, _ => []
  | n + 1, p, bs =>
    { p with payload := bs.take 512 } ::
      (if bs.length ≤ 512 then [] else segmentFrom n { p with addr := p.addr + 512 } (bs.drop 512))

def segmentMsg (p : Packet) (bs : List Nat) : List Packet := segmentFrom (bs.length / 512 + 1) p bs

/-- Queue a message for injection at an NI. -/
def sendMsg (w f : Nat) (p : Packet) (bs : List Nat) (s : State) : State :=
  forEach (segmentMsg { p with cls := msgClass bs.length } bs) s (enqueue w f)

/-- Reset the streams a predicate on (destination or source NI, class, partition) selects at both halves of an NI (R191). -/
def resetSends (sel : Nat → Bool) (s : State) : State := s.withSends (s.net.sends.filter fun x => !sel x.1)
def resetRecvs (sel : Nat → Bool) (s : State) : State := s.withRecvs (s.net.recvs.filter fun x => !sel x.1)

end Sys2Proof.Machine
end

