-- ==== Sys2Proof/Machine/Cores.lean ====
section
/-!
DEFINITION. Cores as units: their registers, scratchpad, instruction store and signal words, CORE_STAT, how a core is initialised, where it sits
in its quadrant and park group, and the halts of the prompter port (R94-R125, R351, R458, R465, R710-R719).
-/
namespace Sys2Proof.Machine

/-! ## Places -/

/-- The physical unit of a logical core of the wafer's own fields (R18). -/
def State.unitAt (s : State) (w f row col : Nat) : Nat :=
  (if row < s.skipRow w f col then row else row + 1) * 24 + col

/-- A field is retired (R310). -/
def State.fieldRetired (s : State) (w f : Nat) : Bool :=
  if f < 64 then bitAt (s.reg BUP_RETIRED_LO w 0) f else bitAt (s.reg BUP_RETIRED_HI w 0) (f - 64)

/-- A logical core is a hole (R312, BUP_HOLEMAP). -/
def State.isHole (s : State) (w f row col : Nat) : Bool :=
  s.fieldRetired w f || bitAt (s.reg BUP_HOLEMAP w (f * 18 + (row * 24 + col) / 32)) ((row * 24 + col) % 32)

/-- The quadrant of a core unit, if its tile is not skipped (R19, R93). -/
def State.quadOfUnit (s : State) (w f u : Nat) : Option Nat := (s.logicalRow w f u).map fun r => 4 * f + quadAt r (u % 24)

/-- The logical position of a core in its quadrant (R213). -/
def posIn (row col : Nat) : Nat := row % 12 * 12 + col % 12

/-- The units of park group `k` of quadrant `q` (R465). -/
def State.groupUnits (s : State) (w q k : Nat) : List Nat :=
  (List.range 16).map fun i =>
    let pos := 16 * k + i
    s.unitAt w (q / 4) (q % 4 / 2 * 12 + pos / 12) (q % 2 * 12 + pos % 12)

/-- The units of a quadrant. -/
def State.quadUnits (s : State) (w q : Nat) : List Nat := (List.range 9).flatMap fun k => s.groupUnits w q k

/-- The park group of a core unit in its quadrant. -/
def State.groupOfUnit (s : State) (w f u : Nat) : Option Nat :=
  (s.logicalRow w f u).map fun r => posIn r (u % 24) / 16

/-! ## CORE_STAT -/

def CoreSt.code : CoreSt → Nat
  | .off => 0 | .idle => 1 | .run => 2 | .steal => 3 | .commit => 4 | .fault => 5 | .halt => 6 | .unused => 7

def Core.writes (c : Core) : Nat :=
  (c.cb.filter fun e => match e with | .lput _ _ _ _ => true | .xput _ _ _ _ => true | _ => false).length
/-- Atomic entries held; a GIVE occupies one (R391). -/
def Core.atomics (c : Core) : Nat := c.cb.length - c.writes
/-- Bytes of the outbound writes held (R119). -/
def Core.cbBytes (c : Core) : Nat :=
  c.cb.foldl (fun n e => match e with | .lput _ _ _ l => n + l | .xput _ _ _ l => n + l | _ => n) 0
def Core.dequeTotal (c : Core) : Nat := c.deques.foldl (fun n d => n + d.length) 0

def State.core (s : State) (w f u : Nat) : Core := s.getCores (coreKey w f u)

/-- Write a core and show it in CORE_STAT (R135). -/
def State.setCore (s : State) (w f u : Nat) (c : Core) : State :=
  let i := coreIdx f u
  ((((s.putCores (coreKey w f u) c).wr CORE_STAT_STATE w i c.st.code).wr CORE_STAT_CB_WRITES w i c.writes).wr
    CORE_STAT_CB_ATOMICS w i c.atomics).wr CORE_STAT_DEQ_TOTAL w i c.dequeTotal

def State.modCore (s : State) (w f u : Nat) (g : Core → Core) : State := s.setCore w f u (g (s.core w f u))

/-- Tokens a core has completed (R86). -/
def State.addTokens (s : State) (w f u n : Nat) : State := s.incWrap CORE_TOKENS_COUNT w (coreIdx f u) n

/-! ## Registers and memories of a core -/

/-- Insert or replace, whatever the value: for maps whose unlisted keys may read an open value. -/
def mput {α : Type} (m : List (Nat × α)) (k : Nat) (v : α) : List (Nat × α) := mins k v (mdel m k)

def mfind {α : Type} : List (Nat × α) → Nat → Option α
  | [], _ => none
  | (k, v) :: r, x => if k = x then some v else mfind r x

/-- A general register: g0 reads 0 (R114). -/
def Core.reg (c : Core) (r : Nat) : Nat :=
  if r = 0 then 0
  else match mfind c.g r with
    | some v => v.toNat
    | none => match c.seed with
      | none => 0
      | some k => Config.startReg k r % 2 ^ 32

/-- Write a general register: a write of g0 is discarded (R114). -/
def Core.setReg (c : Core) (r v : Nat) : Core := if r = 0 then c else { c with g := mput c.g r (BitVec.ofNat 32 v) }

/-- Write a 64-bit value into a register and the next one, low word first (R115). -/
def Core.setPair (c : Core) (r v : Nat) : Core := (c.setReg r (v % 2 ^ 32)).setReg ((r + 1) % 32) (v >>> 32)

/-- One scratchpad byte. -/
def Core.byte (c : Core) (a : Nat) : Nat :=
  match mfind c.spad a with
  | some v => v.toNat
  | none => match c.seed with
    | none => 0
    | some k => Config.startByte k a % 256

def Core.bytes (c : Core) (a n : Nat) : List Nat := (List.range n).map fun i => c.byte (a + i)

/-- Write one scratchpad byte. While no command has started since the power-up, the list holds no zero byte. -/
def Core.setByte (c : Core) (a v : Nat) : Core :=
  { c with spad := match c.seed with
    | none => mset (0 : Byte) c.spad a (BitVec.ofNat 8 v)
    | some _ => mput c.spad a (BitVec.ofNat 8 v) }

def Core.setBytes (c : Core) : Nat → List Nat → Core
  | _, [] => c
  | a, b :: r => (c.setByte a b).setBytes (a + 1) r

/-- The 64-bit words that a range of scratchpad bytes touches. -/
def wordsOf (a n : Nat) : List Nat := if n = 0 then [] else (List.range ((a + n - 1) / 8 - a / 8 + 1)).map fun i => a / 8 + i

/-- A range includes a poisoned word (R351). -/
def Core.poisonIn (c : Core) (a n : Nat) : Bool := (wordsOf a n).any fun k => c.spadPoison.contains k

/-- An inbound delivery (R351): a whole word clears its poison; part of a poisoned word is discarded for that word. -/
def Core.deliver (c : Core) (a : Nat) (bs : List Nat) : Core :=
  (wordsOf a bs.length).foldl (fun (c : Core) k =>
    let lo := max a (8 * k)
    let hi := min (a + bs.length) (8 * k + 8)
    let part := (bs.drop (lo - a)).take (hi - lo)
    if c.spadPoison.contains k then
      if part.length = 8 then ({ c with spadPoison := c.spadPoison.filter fun x => x ≠ k } : Core).setBytes lo part else c
    else c.setBytes lo part) c

/-- A signal word (R96), 32 bits (R425). -/
def Core.signal (c : Core) (k : Nat) : Nat := mget 0 c.signals k
def Core.addSignal (c : Core) (k : Nat) : Core := { c with signals := mset 0 c.signals k ((c.signal k + 1) % 2 ^ 32) }

/-- One instruction of the store. An entry that no program has filled is an undefined encoding (R251); it reads all ones. -/
def Core.instr (c : Core) (i : Nat) : Nat := (mget (0xFFFFFFFFFFFFFFFF : Word) c.istore i).toNat
def Core.setInstr (c : Core) (i v : Nat) : Core :=
  { c with istore := mset (0xFFFFFFFFFFFFFFFF : Word) c.istore i (BitVec.ofNat 64 v), istorePoison := c.istorePoison.filter fun x => x ≠ i }

def Core.flags (c : Core) : Nat := b2n c.invalid + b2n c.overflow * 2 + b2n c.intSat * 4 + b2n c.inexact * 8
def Core.setFlags (c : Core) (v : Nat) : Core :=
  { c with invalid := bitAt v 0, overflow := bitAt v 1, intSat := bitAt v 2, inexact := bitAt v 3 }

/-! ## Programs and initialisation -/

/-- The key of program shadow `n` of a field; the live one is named by PROG_PTR (R251). -/
def shadowKey (w f n : Nat) : Nat := fieldKey w f * 2 + n % 2

/-- The instructions that the field's live shadow places on a core, if any (R251). -/
def State.placedProg (s : State) (w f u : Nat) : Option (List Word) :=
  mfind (s.getShadows (shadowKey w f (s.reg PROG_PTR w f))).placed u

/-- Fill a core's instruction store from the live shadow (R251, R353). A core that no placement names keeps its store. -/
def State.fillStore (s : State) (w f u : Nat) (c : Core) : Core :=
  match s.placedProg w f u with
  | none => { c with refill := false }
  | some p => { c with istore := (p.zipIdx.map fun x => (x.2, x.1)).filter fun x => x.2 ≠ 0xFFFFFFFFFFFFFFFF, istorePoison := [], refill := false }

/-- What a core is after its quadrant's power-up or an unpark from GATE depth (R458, R466): scratchpad zero, instruction store filled, deques and commit
buffer empty, token count zero, CORE_MODE taken. A skipped tile or a hole is UNUSED. -/
def State.initCore (s : State) (w f u : Nat) : State :=
  let unused := match s.logicalRow w f u with
    | none => true
    | some r => s.isHole w f r (u % 24)
  let c : Core := s.fillStore w f u { st := if unused then .unused else .idle, mode := s.reg CORE_MODE w f }
  (s.setCore w f u c).setReg CORE_TOKENS w (coreIdx f u) 0

/-- A core loses everything: its quadrant is OFF, or its group is parked at GATE depth (R455, R466). -/
def State.clearCore (s : State) (w f u : Nat) (st : CoreSt) : State := s.setCore w f u { st := st }

/-! ## Halts -/

/-- Cores of a wafer that a debugger's halt holds; a core that a hold has halted has reason 0. -/
def State.haltedCores (s : State) (w : Nat) : List (Nat × Core) :=
  s.job.cores.filter fun x => decide (x.1 / 43200 = w) && x.2.st == .halt && x.2.reason != 0

/-- Show the counts of halted cores (R725). -/
def State.haltSync (s : State) (w f : Nat) (p : Option Nat) : State :=
  let hs := s.haltedCores w
  let inField := hs.any fun x => decide (x.1 / 600 % 72 = f)
  let old := s.reg DBG_FHALT w (f / 32)
  let s1 := (s.wr DBG_STAT_HALTED w 0 hs.length).setReg DBG_FHALT w (f / 32)
    (if inField then old ||| 2 ^ (f % 32) else old &&& notBits 32 (2 ^ (f % 32)))
  match p with
  | none => s1
  | some q => s1.wr DBG_PART_STAT_HALTED w q (hs.filter fun x => x.2.part == some q).length

/-- Withdraw the TAKE that a core waits for (R391, R711): its waiter leaves the semaphore. -/
def withdrawTake (w f u : Nat) (s : State) : State :=
  match (s.core w f u).wait with
  | .sema sem slot =>
    let k := slot * 1024 + sem
    let m := s.getSemas k
    let ws := m.waiters.filter fun x => x.core ≠ physAddr w f u
    (s.putSemas k { m with waiters := ws }).wrSat SEM_STAT_WAITING slot sem ws.length
  | _ => s

/-- Time spent in WAIT or in a waiting TAKE is added to the partition's CORE_WAIT when the wait ends (R494), in whole microseconds. -/
def endWait (w f u : Nat) (s : State) : State :=
  let c := s.core w f u
  match c.wait, c.part with
  | .none, _ => s
  | _, none => s.modCore w f u fun c => { c with wait := .none }
  | _, some p =>
    (s.incWrap TEL_CORE_WAIT_COUNT w ((p + 1) * 64) ((s.now - c.waitSince) / 1000)).modCore w f u fun c => { c with wait := .none }

/-- A core halts (R710): nothing changes for a core that is halted already (R717). A waiting TAKE is withdrawn and re-issued on
resume (R711). -/
def haltCore (w f u reason hit : Nat) (s : State) : State :=
  let c0 := s.core w f u
  if c0.st = .halt then s
  else
    let take := match c0.wait with | .sema _ _ => true | _ => false
    let s1 := endWait w f u (withdrawTake w f u s)
    let c := s1.core w f u
    let s2 := s1.setCore w f u { c with st := .halt, before := c.st, reason := reason, haltReq := none, stepping := false, beforeTake := take }
    let i := coreIdx f u
    let s3 := ((s2.wr DBG_CORE_STAT_STATE w i 2).wr DBG_CORE_STAT_REASON w i reason).wr DBG_CORE_STAT_HIT w i hit
    let s4 := if s3.rd DBG_HALT_CAP_VALID w 0 = 1 then s3
      else (((s3.wr DBG_HALT_CAP_FIELD w 0 f).wr DBG_HALT_CAP_UNIT w 0 u).wr DBG_HALT_CAP_REASON w 0 reason).wr DBG_HALT_CAP_VALID w 0 1
    let s5 := (s4.haltSync w f c.part).raise w Leaf.halted
    let s6 := if reason = 3 then s5.raise w Leaf.breakpoint else if reason = 4 then s5.raise w Leaf.watchpoint else s5
    -- R714: with CASCADE set, the other cores of the command on this wafer are asked to halt
    match c.part with
    | none => s6
    | some p =>
      if s6.rd DBG_PART_CTL_CASCADE w p = 1 then
        forEach s6.job.cores s6 fun x t =>
          if x.1 / 43200 = w ∧ x.1 ≠ coreKey w f u ∧ x.2.part = some p ∧ x.2.st ≠ .halt ∧ x.2.haltReq = none then
            (t.putCores x.1 { x.2 with haltReq := some 5 }).wr DBG_CORE_STAT_STATE w (x.1 % 43200) 1
          else t
      else s6

/-- A halt ends without a resume (R718-R720): counted in ENDED. -/
def endHalt (w f u : Nat) (s : State) : State :=
  let c := s.core w f u
  if c.st = .halt then
    let s1 := s.setCore w f u { c with st := c.before, reason := 0, stepping := false, faultHeld := false, beforeTake := false }
    let i := coreIdx f u
    let s2 := ((s1.wr DBG_CORE_STAT_STATE w i 0).wr DBG_CORE_STAT_REASON w i 0).haltSync w f c.part
    match c.part with
    | some p => if c.reason = 0 then s2 else s2.bump DBG_PART_STAT_ENDED w p 1
    | none => s2
  else if c.haltReq.isSome then (s.setCore w f u { c with haltReq := none }).wr DBG_CORE_STAT_STATE w (coreIdx f u) 0
  else s

end Sys2Proof.Machine
end

