-- ==== Sys2Proof/Machine/Domains.lean ====
section
/-!
DEFINITION. Power domains and park groups as state: the sequencer's counts, the parking requests and their depth (R455, R465-R468), and the states a
quadrant's cores fall into (R455, R458). Requests, steps and faults of domains are in Machine/Power.lean.
-/
namespace Sys2Proof.Machine

def domKey (w d : Nat) : Nat := w * 455 + d
def parkKey (w q : Nat) : Nat := w * 288 + q
def State.modDoms (s : State) (k : Nat) (g : DomX → DomX) : State := s.putDoms k (g (s.getDoms k))
def State.modParks (s : State) (k : Nat) (g : ParkQ → ParkQ) : State := s.putParks k (g (s.getParks k))

/-- The compute field that a port attaches to (R17). -/
def portField (p : Nat) : Nat := [2, 4, 6, 26, 62, 69, 67, 65, 54, 18].getD (p / 2) 0

/-- The compute field whose spine carries the bridge of a host field (R17, R141). -/
def hostBridge (h : Nat) : Nat := if h = 0 then 36 else 44

/-- The parent of a domain (R450); the always-on domain stands for itself. -/
def State.parentOf (s : State) (w d : Nat) : Nat :=
  if d < 288 then 288 + d / 4 else if d < 360 then 452 + s.rd NET_SELF_HOST_FIELD w 0 else if d < 432 then d - 72
  else if d < 452 then 288 + portField (d - 432) else 454

def State.domState (s : State) (w d : Nat) : Nat := s.rd PWR_DOM_STAT_STATE w d

/-- Change a domain's state and the sequencer's counts (R455, PWR_SEQ_STAT). -/
def State.setDom (s : State) (w d st : Nat) : State :=
  let old := s.domState w d
  if old = st then s
  else
    let on := s.rd PWR_SEQ_STAT_ON w 0 + b2n (st == 3) - b2n (old == 3)
    let ramp := s.rd PWR_SEQ_STAT_RAMPING w 0 + b2n (st == 1) - b2n (old == 1)
    let isMove := fun (x : Nat) => x == 1 || x == 2 || x == 4
    let mv := s.rd PWR_SEQ_STAT_MOVING w 0 + b2n (isMove st) - b2n (isMove old)
    (((s.wr PWR_DOM_STAT_STATE w d st).wr PWR_SEQ_STAT_ON w 0 on).wr PWR_SEQ_STAT_RAMPING w 0 ramp).wr PWR_SEQ_STAT_MOVING w 0 mv

/-! ## Park groups -/

/-- The groups that some requester wants parked, and those wanted at GATE depth (R467). -/
def ParkQ.wanted (k : ParkQ) : Nat := k.cap ||| k.droop ||| k.cur ||| k.hot ||| k.jlim ||| k.ghost ||| k.hold ||| k.smc
def ParkQ.wantGate (k : ParkQ) : Nat := k.hold ||| k.smc ||| k.ghostGate

/-- The reasons for which a group is parked (R487), in the order in which its group-time is charged (R490); none for a group that a hold, the SMC or ghost light parks. -/
def ParkQ.reasons (x : ParkQ) (capReason k : Nat) : List Nat :=
  if bitAt (x.hold ||| x.smc ||| x.ghost) k then []
  else (if bitAt x.droop k then [1] else []) ++ (if bitAt x.cur k then [5] else []) ++ (if bitAt (x.hot ||| x.jlim) k then [2] else [])
    ++ (if bitAt x.cap k then [capReason] else [])

/-- The parked groups of a wafer's partitions, each with its partition and its reasons. -/
def State.throttled (s : State) (w : Nat) : List (Nat × List Nat) :=
  s.pow.parks.flatMap fun e =>
    let q := e.1 % 288
    if e.1 / 288 ≠ w ∨ s.domState w q ≠ 3 then []
    else match s.partOfQuad w q with
    | none => []
    | some p => (List.range 9).filterMap fun k =>
      let r := e.2.reasons (s.rd PWR_CAP_EFF_REASON w 0) k
      if bitAt (s.rd PWR_PARK_RETAIN w q ||| s.rd PWR_PARK_GATE w q) k && !r.isEmpty then some (p, r) else none

/-- The partitions to which an engaged droop gate is charged: a quadrant's holder, or every holder in a spine's field (R489). -/
def State.gatedParts (s : State) (w : Nat) : List Nat :=
  (s.pow.doms.filterMap fun e => if e.1 / 455 = w ∧ e.2.gated = true ∧ e.1 % 455 < 288 then s.partOfQuad w (e.1 % 455) else none)
    ++ (allFields.filter fun f => s.rd SPN_STAT_GATED w f == 1).flatMap fun f => (List.range 4).filterMap fun k => s.partOfQuad w (4 * f + k)

/-- Charge the throttling of the time since it was last charged, in whole microseconds, before anything about it changes (R490). -/
def accrue (w : Nat) (s : State) : State :=
  let m := s.getMeters w
  let us := (s.now - m.chargedTo) / 1000
  if us = 0 then s
  else
    let s1 := s.putMeters w { m with chargedTo := m.chargedTo + us * 1000 }
    let groups := s.throttled w
    let gated := s.gatedParts w
    let turning := s.job.parts.filterMap fun e => if e.1 / 288 = w ∧ e.2.rotating = true then some (e.1 % 288) else none
    let ps := ((groups.map fun g => g.1) ++ gated ++ turning).dedup
    forEach ps s1 fun p t =>
      let mine := groups.filter fun g => g.1 == p
      let quads := ((List.range 288).filter fun q => s.quadOf false w p q).length
      forEach (List.range 7) t fun r t =>
        let any := mine.any (fun g => g.2.contains r) || (r == 1 && gated.contains p) || (r == 6 && turning.contains p)
        let n := if r = 6 then (if turning.contains p then 9 * quads - mine.length else 0) else (mine.filter fun g => g.2.head? == some r).length
        (t.when any fun t => t.incWrap TEL_REASON_TIME_COUNT w ((p + 1) * 64 + r) us).when (decide (0 < n)) fun t =>
          t.incWrap TEL_REASON_GTIME_COUNT w ((p + 1) * 64 + r) (us * n)

/-- A core allows its group to be parked at GATE depth (R466): outside any command, UNUSED, or halted with its state saved by a hold. -/
def State.gateOk (s : State) (w f u : Nat) : Bool :=
  let c := s.core w f u
  match c.st with
  | .unused => true
  | .off => true
  | .idle => c.part.isNone
  | .fault => c.part.isNone
  | .halt => c.reason == 0 && (match c.part with | some p => (s.getParts (partKey w p)).held | none => false)
  | _ => false

def State.groupGateOk (s : State) (w q k : Nat) : Bool := (s.groupUnits w q k).all fun u => s.gateOk w (q / 4) u

/-- Depth of a group as PWR_PARK shows it: 0 running, 1 RETAIN, 2 GATE. -/
def State.groupDepth (s : State) (w q k : Nat) : Nat :=
  if bitAt (s.rd PWR_PARK_GATE w q) k then 2 else if bitAt (s.rd PWR_PARK_RETAIN w q) k then 1 else 0

/-- Set or clear one bit of a field. -/
def State.wrBit (s : State) (f : Fld) (w i b : Nat) (v : Bool) : State :=
  s.wr f w i (if v then s.rd f w i ||| 2 ^ b else s.rd f w i &&& notBits f.width (2 ^ b))

/-- Start the next move of one group, if its depth differs from what is asked (R467, R468): a change from GATE to RETAIN passes through
UNPARKING. -/
def evalGroup (w q k : Nat) (s : State) : State :=
  if bitAt (s.rd PWR_PARK_MOVING w q) k then s
  else
    let pk := s.getParks (parkKey w q)
    let gate := bitAt pk.wantGate k && (s.groupDepth w q k == 2 || s.groupGateOk w q k)
    let want := if gate then 2 else if bitAt pk.wanted k then 1 else 0
    let cur := s.groupDepth w q k
    if want = cur then s
    else
      let s1 := s.wrBit PWR_PARK_MOVING w q k true
      s1.modParks (parkKey w q) fun x => { x with
        toRetain := if want = 1 ∧ cur = 0 then x.toRetain ||| 2 ^ k else x.toRetain &&& notBits 9 (2 ^ k)
        toGate := if want = 2 then x.toGate ||| 2 ^ k else x.toGate &&& notBits 9 (2 ^ k) }

/-- Let every group of an ON quadrant follow the requests as they stand, and show whether a GATE request waits (R466-R468). -/
def evalPark (w q : Nat) (s : State) : State :=
  if s.domState w q ≠ 3 then s
  else
    let s1 := forEach (List.range 9) s (evalGroup w q)
    let pk := s1.getParks (parkKey w q)
    let waits := (List.range 9).any fun k => bitAt pk.wantGate k && s1.groupDepth w q k != 2 && !bitAt pk.toGate k
    s1.wr PWR_PARK_GATE_WAIT w q (b2n waits)

/-- Change a quadrant's park requests. -/
def setParkReq (w q : Nat) (g : ParkQ → ParkQ) (s : State) : State := evalPark w q ((accrue w s).modParks (parkKey w q) g)

/-- Groups at RETAIN and at GATE depth on the wafer (PWR_PARK_TOTAL). -/
def State.parkCount (s : State) (w q : Nat) : Nat × Nat := (popCount 9 (s.rd PWR_PARK_RETAIN w q), popCount 9 (s.rd PWR_PARK_GATE w q))

/-- Set a group's depth and the wafer's totals. -/
def setDepth (w q k depth : Nat) (s0 : State) : State :=
  let s := accrue w s0
  let old := s.groupDepth w q k
  let s1 := ((s.wrBit PWR_PARK_RETAIN w q k (depth == 1)).wrBit PWR_PARK_GATE w q k (depth == 2)).wrBit PWR_PARK_MOVING w q k false
  let s2 := s1.wr PWR_PARK_TOTAL_RETAIN w 0 (s1.rd PWR_PARK_TOTAL_RETAIN w 0 + b2n (depth == 1) - b2n (old == 1))
  let s3 := s2.wr PWR_PARK_TOTAL_GATE w 0 (s2.rd PWR_PARK_TOTAL_GATE w 0 + b2n (depth == 2) - b2n (old == 2))
  s3.modParks (parkKey w q) fun x => { x with
    toRetain := x.toRetain &&& notBits 9 (2 ^ k)
    toGate := x.toGate &&& notBits 9 (2 ^ k)
    since := mset 0 x.since k s.now }

/-- PARK_DONE: the group reaches its depth; at GATE depth its cores lose everything (R466). -/
def parkDone (w q k : Nat) (s : State) : State :=
  let pk := s.getParks (parkKey w q)
  if !bitAt (s.rd PWR_PARK_MOVING w q) k then s
  else if bitAt pk.toGate k then
    let s1 := forEach (s.groupUnits w q k) (setDepth w q k 2 s) fun u t =>
      if (t.core w (q / 4) u).st = .unused then t else t.setCore w (q / 4) u { st := .off, part := (t.core w (q / 4) u).part }
    evalPark w q s1
  else if bitAt pk.toRetain k then evalPark w q (setDepth w q k 1 s)
  else s

/-- UNPARK_DONE: the group runs; from GATE depth its cores are initialised (R458, R466), and it may go on into RETAIN (R468). -/
def unparkDone (w q k : Nat) (s : State) : State :=
  let pk := s.getParks (parkKey w q)
  if !bitAt (s.rd PWR_PARK_MOVING w q) k || bitAt pk.toGate k || bitAt pk.toRetain k then s
  else
    let wasGate := s.groupDepth w q k = 2
    let s1 := setDepth w q k 0 s
    let s2 := if wasGate then forEach (s1.groupUnits w q k) s1 fun u t =>
        let p := (t.core w (q / 4) u).part
        (t.initCore w (q / 4) u).modCore w (q / 4) u fun c => { c with part := p }
      else s1
    evalPark w q s2

/-- The park requests that end when a quadrant leaves ON, and its park state, which reads 0 (R465). -/
def leaveOn (w q : Nat) (s : State) : State :=
  let s1 := forEach (List.range 9) s fun k t => setDepth w q k 0 t
  (s1.setReg PWR_PARK w q 0).modParks (parkKey w q) fun x => { hold := x.hold, smc := x.smc }

/-- The cores of a group run: its quadrant is ON, its droop gate open, and the group is neither parked nor moving (R78, R459, R466). -/
def State.coreRuns (s : State) (w f u : Nat) : Bool :=
  match s.quadOfUnit w f u, s.groupOfUnit w f u with
  | some q, some k =>
    s.domState w q == 3 && !(s.getDoms (domKey w q)).gated && s.groupDepth w q k == 0 && !bitAt (s.rd PWR_PARK_MOVING w q) k
  | _, _ => false

/-- The SMC asks for GATE depth on every group of a quadrant that no live partition holds (R467). -/
def State.smcWant (s : State) (w q : Nat) : Nat := if (s.partOfQuad w q).isNone then 0x1FF else 0

/-- Ghost light ends (R551): warming stops, its park requests are withdrawn, the valve is asked to open, and the idle time starts again. -/
def ghostExit (w : Nat) (s : State) : State :=
  let s1 := s.modWafers w fun x => { x with idle := s.now }
  if s.rd THM_GHOST_STAT_STATE w 0 ≠ 2 then s1
  else
    let s2 := (((s1.wr THM_GHOST_STAT_STATE w 0 0).wr THM_GHOST_STAT_WARM_GROUPS w 0 0).wr TMC_REQ_VALVE_PCT w 0 100).putWarming w []
    forEach (List.range 288) s2 fun q t => setParkReq w q (fun k => { k with ghost := 0, ghostGate := 0, smc := t.smcWant w q }) t

/-- A quadrant may take a command (R464): ON, with no group at GATE depth or on its way there, and not blocked. -/
def State.quadReady (s : State) (w q : Nat) : Bool :=
  s.domState w q == 3 && s.rd PWR_PARK_GATE w q == 0 && s.rd PWR_PARK_GATE_WAIT w q == 0 && (s.getParks (parkKey w q)).toGate == 0
    && s.rd PWR_DOM_STAT_BLOCKED w q == 0 && !(s.getDoms (domKey w q)).downWhenIdle

end Sys2Proof.Machine
end

