-- ==== Sys2Proof/Machine/Ledger.lean ====
section
/-!
DEFINITION. The defect ledger: appending findings, what the SMC derives from them, and the journal entries of ledger edits
(R309-R323, R753).
-/
namespace Sys2Proof.Machine

def State.modLedgers (s : State) (k : Nat) (g : Ledger → Ledger) : State := s.putLedgers k (g (s.getLedgers k))
def State.modBups (s : State) (k : Nat) (g : Bup → Bup) : State := s.putBups k (g (s.getBups k))

/-- Object types (R316). -/
def objCore : Nat := 1
def objMesh : Nat := 2
def objQuad : Nat := 3
def objSpine : Nat := 4
def objFly : Nat := 5
def objLoft : Nat := 6
def objPort : Nat := 7
def objLane : Nat := 8
def objHost : Nat := 9

/-- The field of a finding's object, for objects that lie in a field (R316). -/
def objField (o : Nat) : Nat := o % 128
def objRow (o : Nat) : Nat := bits o 11 7
def objCol (o : Nat) : Nat := bits o 16 12
/-- OBJECT of a core tile. -/
def coreObject (f u : Nat) : Nat := f + u / 24 * 128 + u % 24 * 4096

/-- Every finding in force: the active bank's and the volatile ones (R310, R320). -/
def Ledger.all (l : Ledger) : List Finding := (l.slots.filter fun x => !x.torn) ++ l.vols

def Ledger.names (l : Ledger) (ty ob : Nat) : Bool := l.all.any fun x => x.objType == ty && x.object == ob
def Ledger.has (l : Ledger) (ty : Nat) (g : Nat → Bool) : Bool := l.all.any fun x => x.objType == ty && g x.object

/-- A field is retired (R310): a SPINE finding, or MESH_ROUTER findings on two tiles of one column. -/
def Ledger.retired (l : Ledger) (f : Nat) : Bool :=
  l.has objSpine (fun o => objField o == f)
    || (List.range 24).any fun c => decide (2 ≤ (l.all.filter fun x => x.objType == objMesh && objField x.object == f && objCol x.object == c).length)
def Ledger.loftDead (l : Ledger) (f : Nat) : Bool := l.retired f || l.has objLoft (fun o => objField o == f)
def Ledger.quadFailed (l : Ledger) (q : Nat) : Bool := l.has objQuad (fun o => objField o * 4 + bits o 8 7 == q)
def Ledger.laneHalf (l : Ledger) (p h : Nat) : Bool := l.has objLane (fun o => o % 32 == p && bits o 8 5 / 8 == h)
def Ledger.portDead (l : Ledger) (p : Nat) : Bool :=
  l.has objPort (fun o => o % 32 == p) || (l.laneHalf p 0 && l.laneHalf p 1) || l.retired (portField p)
def Ledger.hostDead (l : Ledger) (h : Nat) : Bool := l.has objHost (fun o => o == h) || !(if h = 0 then l.h0Live else l.h1Live)

/-- The skip row of a column (R311): the row of its mesh router finding, else of its first core finding, else 24. -/
def Ledger.skip (l : Ledger) (f c : Nat) : Nat :=
  let here := l.all.filter fun x => objField x.object == f && objCol x.object == c
  match here.find? fun x => x.objType == objMesh with
  | some x => objRow x.object
  | none => match here.find? fun x => x.objType == objCore with
    | some x => objRow x.object
    | none => 24

/-- Set the skip rows of a field from the ledger (R311). -/
def setSkips (w f : Nat) (s : State) : State :=
  let l := s.getLedgers w
  if l.retired f then s
  else forEach (List.range 4) s fun k t =>
    t.setReg BUP_SKIP w (f * 4 + k) ((List.range 6).foldl (fun n i => n + l.skip f (6 * k + i) * 2 ^ (5 * i)) 0)

/-- The logical positions of a field's holes (R312). -/
def State.holesOf (s : State) (w f : Nat) : List Nat :=
  let l := s.getLedgers w
  let tiles := l.all.filterMap fun x =>
    if (x.objType = objCore ∨ x.objType = objMesh) ∧ objField x.object = f then
      let sk := s.skipRow w f (objCol x.object)
      let q := objRow x.object
      if q = sk then none else some ((if q < sk then q else q - 1) * 24 + objCol x.object)
    else none
  let quads := (List.range 4).flatMap fun k =>
    if l.quadFailed (4 * f + k) then
      (List.range 144).map fun i => (k / 2 * 12 + i / 12) * 24 + (k % 2 * 12 + i % 12)
    else []
  (tiles ++ quads).eraseDups

/-- Write the hole map of a field: all ones in a retired field. -/
def setHoles (w f : Nat) (s : State) : State :=
  let hs := s.holesOf w f
  let ret := (s.getLedgers w).retired f
  forEach (List.range 18) s fun k t =>
    t.setReg BUP_HOLEMAP w (f * 18 + k) (if ret then 0xFFFFFFFF else
      (hs.filter fun h => h / 32 == k).foldl (fun n h => n ||| 2 ^ (h % 32)) 0)

/-- Whether the ledger makes a domain unusable (R451). -/
def Ledger.blocks (l : Ledger) (d : Nat) : Bool :=
  if d < 288 then l.retired (d / 4) || l.quadFailed d else if d < 360 then l.retired (d - 288) else if d < 432 then l.loftDead (d - 360)
  else if d < 452 then l.portDead (d - 432) else if d < 454 then l.hostDead (d - 452) else false

/-- A domain that becomes blocked while it is not OFF (R753): a loft drains at once, a quadrant when it is idle, a spine after the acts. -/
def blockDomain (w d : Nat) (s : State) : State :=
  let s1 := s.wr PWR_DOM_STAT_BLOCKED w d 1
  if s1.domState w d = 0 ∨ 452 ≤ d then s1
  else if 360 ≤ d ∧ d < 432 then (if s1.domState w d = 3 then s1.setDom w d 4 else s1.wr PWR_DOM_STAT_PENDING w d 2)
  else s1.modDoms (domKey w d) fun x => { x with downWhenIdle := true }

/-- Every seat of a live chart on the wafer that lies on a hole. -/
def State.seatedHoles (s : State) (w : Nat) : Nat :=
  (allParts.filter fun p => s.rd PRT_DEF_VALID w p == 1).foldl (fun n p =>
    n + ((s.localSeats w p).filter fun x => match s.logicalRow w x.1 x.2.1 with
      | some r => s.isHole w x.1 r (x.2.1 % 24)
      | none => true).length) 0

/-- Bring every derived list up to date (R310-R313): the hole map, the retired and dead lists, the counts, blocked domains. -/
def deriveLists (w : Nat) (s : State) : State :=
  let l := s.getLedgers w
  let ret := allFields.filter l.retired
  let dead := allFields.filter l.loftDead
  let mask := fun (xs : List Nat) => xs.foldl (fun n f => n ||| 2 ^ f) 0
  let s1 := forEach allFields s (setHoles w)
  let s2 := (s1.setReg BUP_RETIRED_LO w 0 (mask (ret.filter (· < 64)))).setReg BUP_RETIRED_HI w 0 (mask ((ret.filter (64 ≤ ·)).map (· - 64)))
  let s3 := (s2.setReg BUP_LOFT_DEAD_LO w 0 (mask (dead.filter (· < 64)))).setReg BUP_LOFT_DEAD_HI w 0 (mask ((dead.filter (64 ≤ ·)).map (· - 64)))
  let s4 := forEach allFields s3 fun f t => t.wr LOFT_STAT_DEAD w f (b2n (l.loftDead f))
  let live := allFields.filter fun f => !l.retired f
  let holes := live.foldl (fun n f => n + (s4.holesOf w f).length) 0
  let hidden := live.foldl (fun n f => n + ((List.range 24).filter fun c => s4.skipRow w f c < 24).length) 0
  let cores := 41472 - 576 * ret.length - holes
  let lofts := 72 - dead.length
  let s5 := (s4.wr BUP_CORECOUNT_HOLES w 0 holes).wr BUP_CORECOUNT_HIDDEN w 0 hidden
  let s6 := ((s5.wr BUP_USABLE_CORES w 0 cores).wr BUP_USABLE_LOFTS w 0 lofts).wr BUP_USABLE_RETIRED w 0 ret.length
  let below := decide (cores < 40960) || decide (lofts < 70)
  let was := s6.rd BUP_USABLE_BELOW w 0
  let s7 := s6.wr BUP_USABLE_BELOW w 0 (b2n below)
  let s8 := if below ∧ was = 0 then s7.raise w Leaf.belowGuarantee else s7
  let s9 := forEach allDomains s8 fun d t =>
    let b := l.blocks d
    if b then (if t.rd PWR_DOM_STAT_BLOCKED w d = 1 then t else blockDomain w d t)
    else (t.wr PWR_DOM_STAT_BLOCKED w d 0).when ((t.getDoms (domKey w d)).downWhenIdle) fun t => t.modDoms (domKey w d) fun x => { x with downWhenIdle := false }
  (s9.wr BUP_STAT_H0_DEAD w 0 (b2n (l.hostDead 0))).wr BUP_STAT_H1_DEAD w 0 (b2n (l.hostDead 1))

/-- Show the ledger's counts (R337). -/
def ledgerSync (w : Nat) (s : State) : State :=
  let l := s.getLedgers w
  let s1 := (s.wr BUP_LDG_STAT_USED w 0 l.slots.length).wrSat BUP_LDG_STAT_TORN w 0 (l.slots.filter fun x => x.torn).length
  let s2 := (s1.wr BUP_LDG_EPOCH_EPOCH w 0 l.epoch).wr BUP_LDG_EPOCH_OTHER_OPEN w 0 (b2n l.openBank.isSome)
  s2.wr BUP_STAT_VOLATILE w 0 (b2n (!l.vols.isEmpty))

/-- Append one finding (R318, R320): only for an object that the ledger does not name and that lies in no retired field. A HOST finding
clears its field's boot flag in the same step (R309). -/
def appendFinding (w : Nat) (x : Finding) (s : State) : State :=
  let l := s.getLedgers w
  let inRetired := (x.objType = objCore ∨ x.objType = objMesh ∨ x.objType = objQuad ∨ x.objType = objLoft) ∧ l.retired (objField x.object)
  if l.names x.objType x.object ∨ inRetired then s
  else
    let y : Finding := { x with torn := false, time := s.tbNow w, epoch := l.epoch, quality := s.quality w }
    let full := 65536 ≤ l.slots.length
    let l1 : Ledger := { l with
      slots := if full then l.slots else l.slots ++ [y]
      vols := if full then l.vols ++ [y] else l.vols
      added := l.added + 1
      first := if full then l.first else some (l.first.getD l.slots.length)
      volAdded := l.volAdded || full
      h0Live := l.h0Live && !(x.objType == objHost && x.object == 0)
      h1Live := l.h1Live && !(x.objType == objHost && x.object == 1) }
    let s1 := ledgerSync w (s.putLedgers w l1)
    let s2 := if x.phase < 5 then s1.bump BUP_NEW_START w 0 1 else s1.bump BUP_NEW_RUNTIME w 0 1
    let s3 := if l1.slots.length = 61440 ∧ !full then s2.raise w Leaf.ledgerNear else s2
    if full then s3.raise w Leaf.ledgerFull else s3

/-- Record the ledger edit of the findings added since the last one (R321). -/
def closeEdit (w phase : Nat) (s : State) : State :=
  let l := s.getLedgers w
  if l.added = 0 then s
  else
    let s1 := s.journal w 4 3 1 (b2n l.volAdded) 0
      [l.added % 2 ^ 16 + phase * 2 ^ 16 + 2 ^ 24, l.first.getD 0xFFFFFFFF, l.epoch % 2 ^ 16] []
    s1.modLedgers w fun l => { l with added := 0, first := none, volAdded := false }

/-- A runtime finding (R322, R323): it updates the derived lists at once, leaves skip rows, is journalled, and raises NEW_HOLE_SEATED where a
live chart seats a new hole. -/
def runtimeFinding (w ty kind ob sig : Nat) (s : State) : State :=
  if (s.getLedgers w).names ty ob then s
  else
    let before := s.seatedHoles w
    let s1 := deriveLists w (appendFinding w { objType := ty, kind := kind, phase := 5, object := ob, signature := sig } s)
    let s2 := closeEdit w 5 s1
    if before < s2.seatedHoles w then s2.raise w Leaf.newHoleSeated else s2

/-- An uncorrectable word of a core's scratchpad or instruction store is recorded (R351): counted, the first captured, SPAD_UE raised; the same line of one
core twice within 24 h is a finding (R322). `line` is a scratchpad line, or an instruction. -/
def spadUncorrectable (w f u mem foundBy line : Nat) (s : State) : State :=
  let s1 := s.bump SPAD_UE_COUNT w f 1
  let s2 := if s1.rd SPAD_UE_CAP_VALID w f = 1 then s1
    else ((((s1.wr SPAD_UE_CAP_MEM w f mem).wr SPAD_UE_CAP_FOUND_BY w f foundBy).wr SPAD_UE_CAP_UNIT w f u).wr SPAD_UE_CAP_LINE w f line).wr
      SPAD_UE_CAP_VALID w f 1
  let s3 := s2.raiseF w f Leaf.spadUe
  let key := key3 u mem (if mem = 0 then line else line / 8)
  let kf := (key2 f key, s3.now)
  let day := 86400000000000
  let b := s3.getBups w
  let again := b.coreLines.any fun x => x.1 = kf.1 ∧ s3.now < x.2 + day
  let s4 := s3.putBups w { b with coreLines := kf :: b.coreLines.filter fun x => s3.now < x.2 + day }
  -- the signature is a test-specific value that the specification does not give
  if again then runtimeFinding w objCore 17 (coreObject f u) (Config.free s4.freeCtr % 2 ^ 32) (s4.withFreeCtr (s4.freeCtr + 1)) else s4

/-! ## Loft errors -/

/-- A day in nanoseconds. -/
def day : Nat := 86400000000000

/-- The loft meets the retirement rule (R357): a bank needs a ninth spare row, or 64 distinct uncorrectable lines were found within 24 h. -/
def LoftSt.retires (l : LoftSt) (now : Nat) : Bool :=
  decide (64 ≤ (l.ueLines.filter fun x => decide (now < x.2 + day)).length)
    || l.copies.any fun r => decide (9 ≤ mget 0 l.spares (bankOf r) + (l.copies.filter fun q => bankOf q == bankOf r).length)

/-- A loft that meets the rule gains a finding and becomes dead (R322, R357). -/
def loftRetire (w f : Nat) (s : State) : State :=
  if (s.getLofts (fieldKey w f)).retires s.now && !s.loftDead w f && s.rd BUP_STAT_PHASE w 0 == 5 then
    let r := s.fresh
    runtimeFinding w objLoft 17 f (r.1 % 2 ^ 32) r.2
  else s

/-- Trigger the copy of a row onto a spare row, unless it is triggered already (R356). -/
def spareTrigger (w f row : Nat) (s : State) : State :=
  let l := s.getLofts (fieldKey w f)
  loftRetire w f (if l.copies.contains row then s else s.putLofts (fieldKey w f) { l with copies := l.copies ++ [row] })

/-- A line's error history with one more error now; what is older than a day is dropped. -/
def noteLine (line now : Nat) (xs : List (Nat × Nat)) : List (Nat × Nat) :=
  (line, now) :: xs.filter fun x => decide (x.1 ≠ line) && decide (now < x.2 + day)

/-- A line was corrected (R349): counted; a second distinct corrected line of its row within 24 h triggers sparing (R356). -/
def loftCorrected (w f off : Nat) (s : State) : State :=
  let line := off / 64
  let l := s.getLofts (fieldKey w f)
  let ce := noteLine line s.now l.ceLines
  let s1 := (s.bump LOFT_CE_COUNT w f 1).putLofts (fieldKey w f) { l with ceLines := ce }
  if 2 ≤ (ce.filter fun x => rowOf x.1 = rowOf line).length then spareTrigger w f (rowOf line) s1 else s1

/-- A line was found uncorrectable (R349): poisoned, counted, the first one captured with its source and partition, LOFT_UE
raised, its row's copy triggered (R356). -/
def loftUncorrectable (w f off source part : Nat) (s : State) : State :=
  let line := off / 64
  let s1 := (s.poisonLine w f off).bump LOFT_UE_COUNT w f 1
  let s2 := if s1.rd LOFT_UE_CAP_VALID w f = 1 then s1
    else (((s1.wr LOFT_UE_CAP_LINE w f line).wr LOFT_UE_CAP_SOURCE w f source).wr LOFT_UE_CAP_PART w f part).wr LOFT_UE_CAP_VALID w f 1
  let s3 := (s2.raiseF w f Leaf.loftUe).modLofts (fieldKey w f) fun l => { l with ueLines := noteLine line s.now l.ueLines }
  spareTrigger w f (rowOf line) s3

end Sys2Proof.Machine
end

