-- ==== Sys2Proof/Machine/Jobs.lean ====
section
/-!
DEFINITION. Partitions and their commands: who belongs to a job, discarding and completing a command, leases, completion records, partition faults
and core faults (R25, R125, R373-R385, R391, R445, R446).
-/
namespace Sys2Proof.Machine

/-! ## Partitions of a job -/

def State.part (s : State) (w p : Nat) : Part := s.getParts (partKey w p)
def State.modPart (s : State) (w p : Nat) (g : Part → Part) : State := s.putParts (partKey w p) (g (s.part w p))

def State.partState (s : State) (w p : Nat) : Nat := s.rd PRT_STAT_STATE w p
def State.defined (s : State) (w p : Nat) : Bool := s.rd PRT_DEF_VALID w p == 1
def State.isLead (s : State) (w p : Nat) : Bool := s.rd PRT_DEF_LEAD_SLOT w p == w

/-- The quadrants of a partition, and its fields in ascending order (R372). -/
def State.quads (s : State) (w p : Nat) : List Nat := (List.range 288).filter fun q => s.quadOf false w p q
def State.fields (s : State) (w p : Nat) : List Nat := allFields.filter fun f => s.fieldInPart false w p f
/-- The home field (R373). -/
def State.home (s : State) (w p : Nat) : Nat := (s.fields w p).headD 0
def State.ringField (s : State) (w p : Nat) : Nat := s.rd PRT_QCFG_RING_FIELD w p

/-- The other partitions of the job, wafer by wafer (R384): a job has at most one on each wafer (R372). -/
def State.peersOf (s : State) (w p : Nat) : List (Nat × Nat) :=
  (allWafers.filter fun v => v ≠ w).filterMap fun v =>
    (allParts.find? fun q => s.defined v q && s.rd PRT_DEF_JOB_ID v q == s.rd PRT_DEF_JOB_ID w p
      && s.rd PRT_DEF_LEAD_SLOT v q == s.rd PRT_DEF_LEAD_SLOT w p).map fun q => (v, q)

/-- The lead partition of a partition's job (R384). -/
def State.leadOf (s : State) (w p : Nat) : Option (Nat × Nat) :=
  if s.isLead w p then some (w, p) else (s.peersOf w p).find? fun x => x.1 == s.rd PRT_DEF_LEAD_SLOT w p

/-- Show a partition's state (R375, PRT_STAT). -/
def State.setPartState (s : State) (w p st : Nat) : State :=
  let s1 := ((s.wr PRT_STAT_STATE w p st).wr PRT_STAT_LEAD w p (b2n (s.isLead w p))).wr PRT_STAT_HOME w p (s.home w p)
  match (s.part w p).cmd with
  | some c => (s1.wr PRT_STAT_CUR_Q w p c.queue).wr PRT_STAT_STEP w p (b2n c.step)
  | none => (s1.wr PRT_STAT_CUR_Q w p 0).wr PRT_STAT_STEP w p 0

/-! ## Management packets -/

/-- The physical address of the window arbiter of a wafer's active host field (R211). -/
def State.arbiter (s : State) (slot : Nat) : Nat := physAddr slot (82 + s.rd NET_SELF_HOST_FIELD slot 0) 1

/-- The window offset of a semaphore's SEM_VAL (R391). -/
def semOffset (sem : Nat) : Nat := 0xBC000 + 8 * sem

/-- Send a MGMT packet (R146, R147) from unit `src` of field `f`. -/
def sendMgmt (w f src dest spart kind val addr : Nat) (bs : List Nat) (s : State) : State :=
  forEach (if bs.isEmpty then [[]] else (segmentMsg {} bs).map (·.payload)) s fun payload t =>
    enqueue w f { typ := 13, cls := 3, dest := dest, src := physAddr w f src, spart := spart, addr := addr, aux := kind + val * 256, payload := payload } t

/-- Send a MGMT packet from a partition's Serving Engine (unit 600 of its home field) to the Serving Engine of another partition of the job. -/
def sendPeer (w p : Nat) (peer : Nat × Nat) (kind val addr : Nat) (bs : List Nat) (s : State) : State :=
  sendMgmt w (s.home w p) 600 (physAddr peer.1 (s.home peer.1 peer.2) 600) p kind val addr bs s

/-! ## Leases -/

/-- Return every lease of a partition's command (R391): one RETURN packet for each. -/
def returnLeases (w p : Nat) (s : State) : State :=
  let s1 := forEach (s.part w p).leases s fun k t =>
    sendMgmt w (t.home w p) 600 (t.arbiter (k / 1024)) p 0x14 0 (semOffset (k % 1024)) [] t
  s1.modPart w p fun x => { x with leases := [] }

/-- Consume every lease at completion (R391): one CONSUME packet for each. -/
def consumeLeases (w p : Nat) (s : State) : State :=
  let s1 := forEach (s.part w p).leases s fun k t =>
    sendMgmt w (t.home w p) 600 (t.arbiter (k / 1024)) p 0x13 0 (semOffset (k % 1024)) [] t
  s1.modPart w p fun x => { x with leases := [] }

/-! ## Cores of a command -/

/-- The units of a partition's command on its wafer (R96, R382). -/
def State.cmdCores (s : State) (w p : Nat) : List (Nat × Nat × Nat) := s.localSeats w p

/-- A core leaves its command: nothing of the command stays in it but a faulted core's mark (R125), and CORE_STAT reads IDLE or FAULT. -/
def leaveCmd (w f u : Nat) (s : State) : State :=
  let s1 := endWait w f u (withdrawTake w f u (endHalt w f u s))
  let c := s1.core w f u
  let st := match c.st with
    | .off => .off | .unused => .unused | .fault => .fault | _ => .idle
  s1.setCore w f u { c with
    st := st, cb := [], deques := [[], [], [], []], wait := .none, part := none, ops := 0, haltReq := none, faultHeld := false, beforeTake := false }

/-- What follows on a quadrant once its cores run no command: a waiting GATE request may proceed (R466), and a blocked quadrant drains (R753). -/
def quadIdle (w q : Nat) (s : State) : State :=
  let s1 := evalPark w q s
  if (s1.getDoms (domKey w q)).downWhenIdle ∧ s1.domState w q = 3 then
    (leaveOn w q (s1.setDom w q 4)).modDoms (domKey w q) fun x => { x with downWhenIdle := false }
  else s1

/-- Every core of the partition's command leaves it. -/
def endCores (w p : Nat) (s : State) : State :=
  let s1 := forEach (s.cmdCores w p) s fun x t => if (t.core w x.1 x.2.1).part = some p then leaveCmd w x.1 x.2.1 t else t
  forEach (s1.quads w p) s1 (quadIdle w)

/-- Withdraw the packets that the partition's NIs hold for injection, those that wait for a stream's window among them (R420, R25). -/
def withdrawQueued (w p : Nat) (s : State) : State :=
  forEach (s.fields w p) s fun f t =>
    let k := niKey w f
    let inj := t.getInjects k
    let t1 := t.putInjects k { inj with queues := mset [] inj.queues p [], since := mset 0 inj.since p 0 }
    t1.withSends (mmap {} (fun n x => if streamNi n = k ∧ streamPart n = p then { x with waiting := [] } else x) t1.net.sends)

/-- Withdraw the queued packets, then return the leases and the cores: a command discarded exactly as in cut (R25, R420 step 2). -/
def discardCmd (w p : Nat) (s : State) : State :=
  let s1 := returnLeases w p (withdrawQueued w p (endCores w p s))
  s1.modPart w p fun x => { x with cmd := none, stealing := 0, reported := [], peersReady := [], savedCores := [], held := false }

/-! ## Queues, results and completion records -/

def qIdx (p q : Nat) : Nat := queueIdx p q
def resultKey (w p q : Nat) : Nat := partKey w p * 64 + q
def State.results (s : State) (w p q : Nat) : List (Nat × Nat) := s.getResults (resultKey w p q)

/-- Entries of a ring (R377). -/
def State.ringSize (s : State) (w p : Nat) : Nat := 2 ^ s.rd PRT_QCFG_RING_LOG2 w p
/-- Region offset of completion record `n` of queue `q`, and of command entry `n` (R377). -/
def State.recordOff (s : State) (w p q n : Nat) : Nat :=
  let e := s.ringSize w p
  s.reg PRT_QBASE w p + s.rd PRT_QCFG_QUEUES w p * e * 64 + q * e * 16 + n % e * 16
def State.entryOff (s : State) (w p q n : Nat) : Nat :=
  let e := s.ringSize w p
  s.reg PRT_QBASE w p + q * e * 64 + n % e * 64

/-- Write bytes at a region offset of the partition's RING_FIELD loft; what falls outside the region is not written. -/
def ringWrite (w p off : Nat) (bs : List Nat) (s : State) : State :=
  match s.regionMap w (s.ringField w p) p off bs.length with
  | some ps => writePieces w (s.ringField w p) ps bs s
  | none => s

/-- Write one completion record (R385) in the ring of a lead, count it and raise CMD_DONE. -/
def writeRecord (w p q seq status flags time : Nat) (s : State) : State :=
  if !s.isLead w p then s
  else
    let n := s.reg CQ_CTAIL w (qIdx p q)
    let s1 := ringWrite w p (s.recordOff w p q n) (leBytes 6 seq ++ [status, flags] ++ leBytes 8 time) s
    ((s1.incWrap CQ_CTAIL_COUNT w (qIdx p q) 1).bump PRT_DONE_CMDS_COUNT w p 1).raiseP w p Leaf.cmdDone

/-- Record the result of a command (R383, R385): the latest 1,024 of a queue, and the high-water mark. -/
def recordResult (w p q seq code : Nat) (s : State) : State :=
  let s1 := s.putResults (resultKey w p q) (((seq, code) :: s.results w p q).take 1024)
  if s1.reg CQ_HWM w (qIdx p q) < seq then s1.setReg CQ_HWM w (qIdx p q) seq else s1

/-- The flags of a command's completion record (R385). -/
def Cmd.flagBits (c : Cmd) : Nat := b2n c.peerLost * 2 + b2n c.step * 4

/-- The end of a command in the partition's queues: its leases are consumed or gone, its result and record are written, and the partition is
IDLE unless something else holds it (R383, R385). -/
def finishCmd (w p : Nat) (c : Cmd) (time : Nat) (s : State) : State :=
  let s1 := recordResult w p c.queue c.seq (c.status + 256 * c.flagBits) s
  let s2 := writeRecord w p c.queue c.seq c.status c.flagBits time s1
  let s3 := s2.modPart w p fun x => { x with cmd := none, stepDue := x.stepDue && !c.step, stealing := 0, reported := [], peersReady := [] }
  if s3.partState w p = 2 then s3.setPartState w p 1 else s3

/-- A command that was cut returns to the head of its queue (R380, R284); CQ_HEAD counts it as not taken. A step is not an entry of a ring. -/
def requeue (w p : Nat) (c : Cmd) (s : State) : State :=
  let s1 := s.modPart w p fun x => { x with cut := (c.queue, { c with committed := false, peerLost := false }) :: x.cut.filter fun y => y.1 ≠ c.queue }
  let s2 := if c.step then s1 else s1.incWrap CQ_HEAD_COUNT w (qIdx p c.queue) (2 ^ 32 - 1)
  if s2.partState w p = 2 then s2.setPartState w p 1 else s2

/-- Cut the running command of a partition that has not reached its commit instant: it is discarded and will run again (R284, R420). -/
def cutRunning (w p : Nat) (s : State) : State :=
  match (s.part w p).cmd with
  | some c => if c.committed then s else requeue w p c (discardCmd w p s)
  | none => s

/-- End the running command of one partition with status 3 to 9 (R385): discarded exactly as in cut, not run again. A committed command drains. -/
def failLocal (w p status : Nat) (s : State) : State :=
  match (s.part w p).cmd with
  | some c => if c.committed then s else finishCmd w p { c with status := status } (s.tbNow w) (discardCmd w p s)
  | none => s

/-- End a job's running command with status 3 to 9: at the lead, which tells the followers by CMD_END, and at the partition concerned
(R147, R384, R385; log entry 12). -/
def failCmd (w p status : Nat) (s : State) : State :=
  let s1 := failLocal w p status s
  if s.isLead w p then
    match (s.part w p).cmd with
    | some c =>
      if c.committed then s1
      else forEach (s.peersOf w p) s1 fun x t => sendPeer w p x 0x22 status c.queue (leBytes 6 c.seq) t
    | none => s1
  else
    match s.leadOf w p with
    | none => s1
    | some l =>
      match (s1.part l.1 l.2).cmd with
      | none => s1
      | some c =>
        if c.committed then s1
        else forEach (s1.peersOf l.1 l.2) (failLocal l.1 l.2 status s1) fun x t => sendPeer l.1 l.2 x 0x22 status c.queue (leBytes 6 c.seq) t

/-! ## Core faults -/

/-- Record a core fault in its field's capture (R125, CORE_FAULT). -/
def captureFault (w f u cause : Nat) (s : State) : State :=
  let s1 := s.bump CORE_FAULT_COUNT w f 1
  if s1.rd CORE_FAULT_VALID w f = 1 then s1
  else ((s1.wr CORE_FAULT_CAUSE w f cause).wr CORE_FAULT_UNIT w f u).wr CORE_FAULT_VALID w f 1

/-- A core faults (R125): the fault is captured, and the core's command is discarded with status CORE_FAULT, or the core halts with reason FAULT
where HALT_ON_FAULT is set (R716). -/
def coreFault (w f u cause : Nat) (s : State) : State :=
  let c := s.core w f u
  let s1 := captureFault w f u cause s
  match c.part with
  | none => s1.modCore w f u fun c => { c with st := .fault }
  | some p =>
    if s1.rd DBG_PART_CTL_HALT_ON_FAULT w p = 1 then
      haltCore w f u 6 0 (s1.modCore w f u fun c => { c with faultHeld := true })
    else failCmd w p 3 (s1.modCore w f u fun c => { c with st := .fault })

/-- A core meets an uncorrectable scratchpad word (R351): recorded, and the core faults SPAD_ECC. -/
def spadFault (w f u foundBy word : Nat) (s : State) : State :=
  coreFault w f u 8 (spadUncorrectable w f u 0 foundBy (word / 8) s)

/-! ## Partition faults -/

/-- Enter FAULTED (R25, R376): the running command ends with PART_FAULT, the cause of the first fault is held, and
the pre-emption ends (R445). A cut in progress completes its surrender first. -/
def enterFaulted (w p cause : Nat) (s : State) : State :=
  let s1 := failLocal w p 6 s
  let s2 := (s1.setPartState w p 3).wr PRT_FAULT_CAUSE w p cause
  let pm := s2.rd PMT_STAT_STATE w p
  let s4 := if pm = 0 ∨ pm = 1 then s2
    else (((s2.wr PMT_STAT_STATE w p 0).wr PMT_STAT_LAST_END w p 7).wr PMT_STAT_CMD_SAVED w p 0).modPart w p fun x => { x with
      phase := .none, held := false, donating := false, savedCores := [] }
  s4.raiseP w p Leaf.partFault

/-- Raise the partition fault on one partition, without telling the job (R376, R446): a held partition latches it. -/
def faultOne (w p cause : Nat) (s : State) : State :=
  let st := s.partState w p
  if st = 0 ∨ st = 3 ∨ st = 4 then s
  else
    let pm := s.rd PMT_STAT_STATE w p
    if st = 5 ∧ pm ≠ 6 ∧ pm ≠ 7 then
      if s.rd PMT_STAT_FAULT_PENDING w p = 1 then s
      else (s.wr PMT_STAT_FAULT_PENDING w p 1).wr PMT_STAT_FAULT_CAUSE w p cause
    else enterFaulted w p cause s

/-- Raise the partition fault and tell the job (R376): a lead sends PEER_FAULT to every other partition of the job, a follower reports to the lead. -/
def partFault (w p cause : Nat) (s : State) : State :=
  let s1 := faultOne w p cause s
  if s.isLead w p then forEach (s.peersOf w p) s1 fun x t => sendPeer w p x 0x26 6 x.2 [] t
  else match s.leadOf w p with
    | some l => sendPeer w p l 0x26 cause l.2 [] s1
    | none => s1

/-- Every partition that holds a quadrant of a field. -/
def State.partsOfField (s : State) (w f : Nat) : List Nat := allParts.filter fun p => s.defined w p && s.fieldInPart false w p f
/-- Every partition that uses a domain: a quadrant's, those of a spine's or a loft's field, all of them for a host field (R79, R462). -/
def State.partsOfDom (s : State) (w d : Nat) : List Nat :=
  if d < 288 then allParts.filter fun p => s.defined w p && s.quadOf false w p d
  else if d < 360 then s.partsOfField w (d - 288)
  else if d < 432 then s.partsOfField w (d - 360)
  else if d < 452 then [] else allParts.filter fun p => s.defined w p

end Sys2Proof.Machine
end

