-- ==== Sys2Proof/Machine/Preempt.lean ====
section
/-!
DEFINITION. Pre-emption (R412-R449): requests, cut, hold and the save slots, queue records, resume, restore and donation. The layout of a save slot's
deque indices, the model's copy of what a slot does not hold, and the place of the queue records are log entry 13.
-/
namespace Sys2Proof.Machine

def State.pmt (s : State) (w p : Nat) : Nat := s.rd PMT_STAT_STATE w p
def State.setPmt (s : State) (w p st : Nat) : State := s.wr PMT_STAT_STATE w p st

/-! ## Link credits -/

/-- The link credits of a partition (R418): packets injected and not acknowledged, and packets for its cores held in reorder buffers. -/
def State.linkCredits (s : State) (w p : Nat) : Nat :=
  let fs := s.fields w p
  (s.net.sends.foldl (fun n x => if streamNi x.1 / 128 = w ∧ fs.contains (streamNi x.1 % 128) ∧ streamPart x.1 = p then n + x.2.unacked.length else n) 0)
    + s.net.recvs.foldl (fun n x => if streamNi x.1 / 128 = w ∧ fs.contains (streamNi x.1 % 128) then
        n + (x.2.early.filter fun k => s.partOfCore w (addrField k.dest) (addrUnit k.dest) == some p).length else n) 0

/-- Packets of a partition that wait at its NIs for injection. -/
def State.queuedPackets (s : State) (w p : Nat) : Nat :=
  (s.fields w p).foldl (fun n f => n + (mget [] (s.getInjects (niKey w f)).queues p).length) 0
    + s.net.sends.foldl (fun n x => if streamNi x.1 / 128 = w ∧ streamPart x.1 = p then n + x.2.waiting.length else n) 0

/-- Reset both halves of a stream between two NIs (R191). -/
def resetStream (w srcNi destNi cls spart : Nat) (s : State) : State :=
  resetRecvs (fun k => k == recvKey (destNi % 64) (destNi / 64) srcNi cls spart)
    (resetSends (fun k => k == sendKey w (srcNi / 64) destNi cls spart) s)

/-- Reset every stream of a partition that holds an unacknowledged packet, and drop what its cores' reorder buffers hold (R420 step 4). -/
def resetUnacked (w p : Nat) (s : State) : State :=
  let fs := s.fields w p
  let bad := s.net.sends.filter fun x => streamNi x.1 / 128 = w && fs.contains (streamNi x.1 % 128) && streamPart x.1 == p && !x.2.unacked.isEmpty
  let s1 := forEach bad s fun x t =>
    resetStream w (w + streamNi x.1 % 128 * 64) (streamPeer x.1) (streamCls x.1) p t
  let s2 := s1.withRecvs (mmap {} (fun n x => if streamNi n / 128 = w ∧ fs.contains (streamNi n % 128) then
    { x with early := x.early.filter fun k => s.partOfCore w (addrField k.dest) (addrUnit k.dest) != some p } else x) s1.net.recvs)
  s2.wrSat PMT_LAST_SURR_RESET w p bad.length

/-! ## Queue records -/

/-- Absolute loft offset of the queue record of queue `q` of partition `p` (R421; log entry 13). -/
def queueRecordOff (p q : Nat) : Nat := 0x04C00000 + p * 4096 + q * 64

def leadBytes (w p q : Nat) (s : State) : List Nat :=
  let i := queueIdx p q
  let isStep := s.rd PRT_SE_ENABLE w p == 1 && s.rd PRT_SE_STEP_Q w p == q
  let cut := mfind (s.part w p).cut q
  leBytes 4 (s.reg CQ_HEAD w i) ++ leBytes 4 (s.reg CQ_TAIL w i) ++ leBytes 4 (s.reg CQ_CTAIL w i) ++ leBytes 4 (s.reg CQ_CHEAD w i)
    ++ leBytes 8 (s.reg CQ_HWM w i) ++ leBytes 8 (match cut with | some c => c.seq | none => 0)
    ++ leBytes 4 (b2n cut.isSome + 2 * b2n isStep) ++ List.replicate 24 0

/-- Write the queue records into the home field's loft (R421). -/
def writeRecords (w p : Nat) (s : State) : State :=
  let h := s.home w p
  let s1 := forEach (List.range (s.rd PRT_QCFG_QUEUES w p)) s fun q t =>
    let bs := leadBytes w p q t
    loftWrite w h (queueRecordOff p q) (bs ++ leBytes 4 (crc32c bs)) t
  (s1.wr PMT_SAVE_FIELD_FIELD w p h).wr PMT_SAVE_FIELD_VALID w p 1

/-- Read the queue records back (R430). A record whose CRC fails changes nothing (log entry 13). -/
def readRecords (w p : Nat) (s : State) : State :=
  let h := s.home w p
  let s1 := forEach (List.range (s.rd PRT_QCFG_QUEUES w p)) s fun q t =>
    let bs := t.loftBytes w h (queueRecordOff p q) 64
    if ofLeBytes (bs.drop 60) = crc32c (bs.take 60) then
      let i := queueIdx p q
      let t1 := ((t.setReg CQ_HEAD w i (ofLeBytes (bs.take 4))).setReg CQ_CTAIL w i (ofLeBytes ((bs.drop 8).take 4))).wr CQ_HWM_SEQ w i (ofLeBytes ((bs.drop 16).take 8))
      if bitAt (bs.getD 32 0) 0 then t1 else t1.modPart w p fun x => { x with cut := x.cut.filter fun y => y.1 ≠ q }
    else t
  s1.wr PMT_SAVE_FIELD_VALID w p 0

/-! ## Save slots -/

/-- Absolute offset of the save slot of a logical core (R425). -/
def slotOff (row col : Nat) : Nat := (row * 24 + col) * 0x20000

/-- A list cut or filled with zeros to `n` elements. -/
def padTo (n : Nat) (xs : List Nat) : List Nat := xs.take n ++ List.replicate (n - xs.length) 0

/-- The 124,128 bytes of a core's saved state (R425). -/
def Core.image (c : Core) : List Nat :=
  c.bytes 0 0x18000
    ++ (List.range 3072).flatMap (fun i => leBytes 8 (c.instr i))
    ++ (List.range 4).flatMap (fun d => padTo 256 ((c.deques.getD d []).flatMap (leBytes 4)))
    ++ (List.range 32).flatMap (fun r => leBytes 4 (c.reg r))
    ++ leBytes 4 c.pc ++ leBytes 4 c.flags
    ++ (List.range 16).flatMap (fun k => leBytes 4 (c.signal k))
    ++ leBytes 4 c.mode ++ leBytes 4 (b2n c.beforeTake)
    ++ (List.range 4).flatMap (fun d => leBytes 2 0 ++ leBytes 2 (c.deques.getD d []).length)

/-- Bytes `o` to `o + n - 1` of a list, as a number. -/
def fieldOf (bs : List Nat) (o n : Nat) : Nat := ofLeBytes ((bs.drop o).take n)

/-- A core with the state that a save slot holds. -/
def Core.ofImage (c : Core) (bs : List Nat) : Core :=
  let c1 := c.setBytes 0 (bs.take 0x18000)
  let c2 := (List.range 3072).foldl (fun x i => x.setInstr i (fieldOf bs (0x18000 + 8 * i) 8)) c1
  let c3 := (List.range 32).foldl (fun x r => x.setReg r (fieldOf bs (0x1E400 + 4 * r) 4)) c2
  let top := fun d => fieldOf bs (0x1E4D0 + 4 * d) 2
  let bot := fun d => fieldOf bs (0x1E4D2 + 4 * d) 2
  let c4 := { c3 with
    deques := (List.range 4).map fun d => (List.range (min 64 (bot d - top d))).map fun i => fieldOf bs (0x1E000 + 256 * d + 4 * ((top d + i) % 64)) 4
    pc := fieldOf bs 0x1E480 4
    signals := (List.range 16).foldl (fun m k => mset 0 m k (fieldOf bs (0x1E488 + 4 * k) 4)) []
    mode := fieldOf bs 0x1E4C8 4
    beforeTake := bitAt (fieldOf bs 0x1E4CC 4) 0 }
  c4.setFlags (fieldOf bs 0x1E484 4)

/-- Byte offset in a loft of a core's save slot, from its unit. -/
def State.slotOfUnit (s : State) (w f u : Nat) : Nat := slotOff ((s.logicalRow w f u).getD 0) (u % 24)

/-- A core halts for a hold (R424, R717, R719): a debugger's halt ends, a waiting TAKE is withdrawn, and the next instruction is that TAKE. -/
def holdHaltCore (w f u : Nat) (s : State) : State :=
  let wasTake := (s.core w f u).beforeTake
  let s1 := endHalt w f u s
  let take := match (s1.core w f u).wait with | .sema _ _ => true | _ => wasTake
  let s2 := endWait w f u (withdrawTake w f u s1)
  s2.modCore w f u fun c => { c with st := .halt, before := c.st, reason := 0, beforeTake := take }

/-! ## Ends of a pre-emption -/

/-- Whole microseconds since an instant, rounded up. -/
def State.usSince (s : State) (t : Nat) : Nat := (s.now - t + 999) / 1000

/-- Every other partition of a lead's job has completed its pre-emption (R437). -/
def State.peersStopped (s : State) (w p : Nat) : Bool :=
  !s.isLead w p || (s.peersOf w p).all fun x => s.pmt x.1 x.2 == 2 || s.pmt x.1 x.2 == 5

/-- A pre-emption reaches STOPPED (R420 step 5, R417): the records are written, PMT_DONE is raised. -/
def reachStopped (w p : Nat) (s : State) : State :=
  let s1 := (writeRecords w p s).setPmt w p 2
  let s2 := ((s1.wr PMT_STAT_CMD_SAVED w p 0).wr PMT_STAT_LAST_END w p (s.part w p).endCode).wrSat PMT_LAST_US_REQ_TO_FREE w p (s.usSince (s.part w p).reqTime)
  (s2.modPart w p fun x => { x with phase := .none, savedCores := [], held := false, donating := false }).raiseP w p Leaf.pmtDone

/-- Steps 2 to 4 of a cut (R420): the running command, if it may still be discarded, goes back to the head of its queue; what waits for injection is
withdrawn; the surrender begins. -/
def beginCut (w p endCode : Nat) (s : State) : State :=
  let s1 := s.modPart w p fun x => { x with discardAccept := true, endCode := endCode }
  let s2 := cutRunning w p s1
  let s3 := withdrawQueued w p s2
  let s4 := ((s3.setPmt w p 1).wr PMT_STAT_CMD_SAVED w p 0).setPartState w p 1
  let s5 := (s4.wrSat PMT_LAST_SURR_WAITED w p (s4.linkCredits w p)).wr PMT_LAST_SURR_RESET w p 0
  s5.modPart w p fun x => { x with phase := .surrender }

/-- The pre-emption of a partition with no command that may be discarded (R417), in either mode. -/
def beginStop (w p : Nat) (s : State) : State := beginCut w p 7 s

/-- A field of the partition has a dead loft (R427). -/
def State.deadLoftIn (s : State) (w p : Nat) : Bool := (s.fields w p).any fun f => s.loftDead w f

/-- A hold's step 3 ends once the partition holds no link credit and nothing waits for injection; the save follows (R424). -/
def surrenderCheck (w p : Nat) (s : State) : State :=
  if (s.part w p).phase = .holdSurrender ∧ s.linkCredits w p = 0 ∧ s.queuedPackets w p = 0 then
    (s.setPmt w p 4).modPart w p fun x => { x with phase := .holdSave }
  else s

/-- A core of the partition's command that HALT_ON_FAULT holds: the command is discarded with CORE_FAULT first (R716). -/
def faultHeldFirst (w p : Nat) (s : State) : State :=
  if (s.cmdCores w p).any fun x => (s.core w x.1 x.2.1).faultHeld && (s.core w x.1 x.2.1).part == some p then failCmd w p 3 s else s

/-- A partition starts to be pre-empted in its live mode (R416, R417, R420, R424, R427). -/
def startPreempt (w p : Nat) (s : State) : State :=
  let hold := s.rd PMT_MODE_MODE w p = 1
  let s0 := faultHeldFirst w p ((s.wr PMT_LAST_US_DRAIN_US w p 0).modPart w p fun x => { x with reqTime := s.now })
  let s1 := s0.wr PMT_STAT_HTC_WHY w p 0
  match (s1.part w p).cmd with
  | none => beginStop w p s1
  | some c =>
    if c.committed then
      (s1.setPmt w p (if hold then 3 else 1)).modPart w p fun x => { x with phase := .draining }
    else if !hold then beginCut w p 1 s1
    else if s1.deadLoftIn w p then (beginCut w p 3 s1).wr PMT_STAT_HTC_WHY w p 2
    else ((s1.setPmt w p 3).setPartState w p 5).modPart w p fun x => { x with phase := .holdHalt }

/-- Refuse a request (R413). -/
def pmtRefuse (w p reason : Nat) (s : State) : State :=
  let s1 := if s.rd PMT_REFUSED_VALID w 0 = 1 then s
    else ((s.wr PMT_REFUSED_PART w 0 p).wr PMT_REFUSED_REASON w 0 reason).wr PMT_REFUSED_VALID w 0 1
  s1.raiseP w p Leaf.pmtRefused

/-- Send a request or resume on to the followers (R437). -/
def forwardPmt (w p v : Nat) (s : State) : State := forEach (s.peersOf w p) s fun x t => sendPeer w p x 0x23 v x.2 [] t

/-- PMT_CTL.PREEMPT = 1 (R413). -/
def preempt (w p : Nat) (s : State) : State :=
  let st := s.partState w p
  if !s.defined w p then pmtRefuse w p 1 s
  else if !s.isLead w p then pmtRefuse w p 3 s
  else if st = 3 ∨ st = 4 ∨ s.pmt w p ≠ 0 then pmtRefuse w p 2 s
  else forwardPmt w p 1 (startPreempt w p s)

/-- The drain of R416 has ended: the partition is stopped as an idle one, with the times counted from here. -/
def drainEnded (w p : Nat) (s : State) : State :=
  let pt := s.part w p
  if pt.phase = .draining then
    beginStop w p ((s.wrSat PMT_LAST_US_DRAIN_US w p (s.usSince pt.reqTime)).modPart w p fun x => { x with reqTime := s.now })
  else s

/-! ## Hold -/

/-- HOLD_HALT_DONE (R424 steps 2 and 3). -/
def holdHalted (w p : Nat) (s : State) : State :=
  if (s.part w p).phase ≠ .holdHalt then s
  else
    let s1 := forEach (s.cmdCores w p) s fun x t =>
      if (t.core w x.1 x.2.1).part = some p then holdHaltCore w x.1 x.2.1 t else t
    let s2 := (s1.wrSat PMT_LAST_SURR_WAITED w p (s1.linkCredits w p + s1.queuedPackets w p)).wr PMT_LAST_SURR_RESET w p 0
    if (s2.part w p).cmd.isNone then beginStop w p s2
    else surrenderCheck w p (s2.modPart w p fun x => { x with phase := .holdSurrender })

/-- HOLD_SURRENDER_TIMEOUT (R424 step 4): the hold becomes a cut. -/
def holdTimeout (w p : Nat) (s : State) : State :=
  if (s.part w p).phase ≠ .holdSurrender then s
  else (beginCut w p 3 s).wr PMT_STAT_HTC_WHY w p 1

/-- HOLD_SAVE_DONE (R424 steps 5 and 6): every core's state is in its save slot, the records are written and the quadrants park. -/
def holdSaved (w p : Nat) (s : State) : State :=
  if (s.part w p).phase ≠ .holdSave ∨ !s.peersStopped w p then s
  else if (s.part w p).cmd.isNone then beginStop w p s
  else
    let cs := (s.cmdCores w p).filter fun x => (s.core w x.1 x.2.1).part == some p
    let s1 := forEach cs s fun x t => loftWrite w x.1 (t.slotOfUnit w x.1 x.2.1) (t.core w x.1 x.2.1).image t
    let s2 := s1.modPart w p fun y => { y with
      phase := .none, held := true, endCode := 2
      savedCores := cs.map fun x => (coreKey w x.1 x.2.1, s.core w x.1 x.2.1) }
    let s3 := ((writeRecords w p s2).setPmt w p 5).wr PMT_STAT_CMD_SAVED w p 1
    let s4 := (s3.wr PMT_STAT_LAST_END w p 2).wrSat PMT_LAST_US_REQ_TO_FREE w p (s.usSince (s.part w p).reqTime)
    let s5 := forEach (s4.quads w p) s4 fun q t => setParkReq w q (fun k => { k with hold := 0x1FF }) t
    s5.raiseP w p Leaf.pmtDone

/-- A hold's park requests end (R467). -/
def unparkHold (w p : Nat) (s : State) : State :=
  forEach (s.quads w p) s fun q t => if (t.getParks (parkKey w q)).hold = 0 then t else setParkReq w q (fun k => { k with hold := 0 }) t

/-- The held command is discarded: leases returned, saved state gone (R446, R432, R444). The command ends with the given status, or, with none, it
goes back to the head of its queue (R443). -/
def discardHeld (w p : Nat) (s : State) : State :=
  match (s.part w p).cmd with
  | none => s
  | some c => (requeue w p c (discardCmd w p s)).wr PMT_STAT_CMD_SAVED w p 0

/-- A fault latched while the partition was held takes effect (R446). -/
def latchedFault (w p : Nat) (s : State) : State :=
  let cause := s.rd PMT_STAT_FAULT_CAUSE w p
  let s1 := ((s.wr PMT_STAT_FAULT_PENDING w p 0).wr PMT_STAT_FAULT_CAUSE w p 0).wr PMT_STAT_CMD_SAVED w p 0
  unparkHold w p (enterFaulted w p cause (s1.modPart w p fun x => { x with phase := .none, donating := false }))

/-! ## Cut -/

/-- CUT_SURRENDER_TIMEOUT (R420 step 4). -/
def cutTimeout (w p : Nat) (s : State) : State :=
  if (s.part w p).phase = .surrender then resetUnacked w p s else s

/-- CUT_COMPLETE (R420 step 5): nothing of the partition is unacknowledged any longer; at a lead, every partition of the job is done (R437). A
partition that faulted meanwhile only ends its pre-emption (R445). -/
def cutComplete (w p : Nat) (s : State) : State :=
  if (s.part w p).phase ≠ .surrender ∨ s.linkCredits w p ≠ 0 then s
  else if s.partState w p = 3 then
    ((s.setPmt w p 0).wr PMT_STAT_LAST_END w p 7).modPart w p fun x => { x with phase := .none, donating := false }
  else if s.peersStopped w p then reachStopped w p s
  else s

/-! ## Resume -/

/-- Dispatch restarts (R430): from STOPPED, or from HELD without a saved command. -/
def restart (w p : Nat) (s : State) : State :=
  let s1 := (readRecords w p (unparkHold w p s)).setPmt w p 0
  let s2 := s1.modPart w p fun x => { x with discardAccept := false, phase := .none, held := false }
  (s2.setPartState w p 1).raiseP w p Leaf.pmtResumed

/-- Begin to restore a held command (R430, R431). -/
def beginRestore (w p st : Nat) (s : State) : State :=
  (unparkHold w p (s.setPmt w p st)).modPart w p fun x => { x with phase := .restoring }

/-- One partition resumes (R430, R446). -/
def resumeOne (w p : Nat) (s : State) : State :=
  if s.pmt w p = 2 then restart w p s
  else if s.pmt w p = 5 then
    if s.rd PMT_STAT_FAULT_PENDING w p = 1 then latchedFault w p s
    else if s.rd PMT_STAT_CMD_SAVED w p = 1 then (beginRestore w p 6 s).raiseP w p Leaf.pmtResumed
    else restart w p s
  else s

/-- RESUME written (R430, R413, R445). -/
def resume (w p : Nat) (s : State) : State :=
  if !s.defined w p then pmtRefuse w p 1 s
  else if !s.isLead w p then pmtRefuse w p 3 s
  else if s.pmt w p = 0 ∧ s.partState w p = 3 ∧ s.rd PMT_STAT_LAST_END w p = 7 then pmtRefuse w p 5 s
  else if s.pmt w p ≠ 2 ∧ s.pmt w p ≠ 5 then pmtRefuse w p 4 s
  else forwardPmt w p 2 (resumeOne w p (ghostExit w s))

/-- A quadrant's groups all run. -/
def State.unparked (s : State) (w q : Nat) : Bool :=
  s.domState w q == 3 && s.rd PWR_PARK_GATE w q == 0 && (s.getParks (parkKey w q)).toGate == 0

/-- A save slot of the held command includes a bad loft line. -/
def State.slotBad (s : State) (w p : Nat) : Option (Nat × Nat) :=
  (s.part w p).savedCores.findSome? fun x =>
    let f := x.1 / 600 % 72
    let o := s.slotOfUnit w f (x.1 % 600)
    ((linesOf o 124128).find? fun l => s.poisoned w f l).map fun l => (f, l)

/-- RESTORE_DONE (R430-R432): every core of the held command has its state back and runs on; an uncorrectable line discards the command and faults
the partition with RESTORE_ECC. `bad` is a line that the restore finds uncorrectable. -/
def restoreDone (w p : Nat) (bad : Option (Nat × Nat)) (s : State) : State :=
  let pt := s.part w p
  if pt.phase ≠ .restoring ∨ !((s.quads w p).all fun q => s.unparked w q) then s
  else
    match (match bad with | some x => some x | none => s.slotBad w p) with
    | some x =>
      let s1 := loftUncorrectable w x.1 x.2 4 p s
      partFault w p 4 (s1.wr PMT_STAT_CMD_SAVED w p 0)
    | none =>
      let s1 := forEach pt.savedCores s fun x t =>
        let f := x.1 / 600 % 72
        let u := x.1 % 600
        let c := x.2.ofImage (t.loftBytes w f (t.slotOfUnit w f u) 124128)
        (loftCountRead w f 124128 t).setCore w f u { c with st := x.2.before, reason := 0, wait := .none }
      let s2 := (s1.modPart w p fun y => { y with phase := .none, held := false, savedCores := [] }).wr PMT_STAT_CMD_SAVED w p 0
      (if pt.donating then s2 else s2.setPmt w p 0).setPartState w p 2

/-! ## Donation -/

/-- Donation starts for one partition (R433, R446). -/
def donateOne (w p : Nat) (s : State) : State :=
  if s.pmt w p ≠ 5 then s
  else if s.rd PMT_STAT_FAULT_PENDING w p = 1 then latchedFault w p s
  else beginRestore w p 7 (s.modPart w p fun x => { x with donating := true })

/-- Donation to a held partition starts at a semaphore's decision (R433, R436, R438). -/
def donate (w p sem slot : Nat) (s : State) : State :=
  if s.pmt w p ≠ 5 ∨ s.rd PMT_STAT_CMD_SAVED w p = 0 then s
  else if s.rd PMT_STAT_FAULT_PENDING w p = 1 then latchedFault w p s
  else
    let s1 := ((donateOne w p s).wr PMT_DON_SEM w p sem).wr PMT_DON_SLOT w p slot
    let s2 := forEach (s.peersOf w p) s1 fun x t => donateOne x.1 x.2 t
    (s2.bump PMT_DONATIONS_COUNT w 0 1).raiseP w p Leaf.donation

/-- A donating command has completed (R434): the quadrants park and the partition is STOPPED. -/
def donated (w p : Nat) (s : State) : State :=
  if !(s.part w p).donating then s
  else
    let s1 := forEach (s.quads w p) s fun q t => setParkReq w q (fun k => { k with hold := 0x1FF }) t
    let s2 := (writeRecords w p s1).setPmt w p 2
    let s3 := (s2.wr PMT_STAT_CMD_SAVED w p 0).wr PMT_STAT_LAST_END w p 5
    (s3.modPart w p fun x => { x with donating := false, phase := .none, discardAccept := true }).raiseP w p Leaf.pmtDone

/-- DONATION_BOUND (R435, R438): a donating command that has not reached its commit instant is cut, in every partition of the job. -/
def donationBound (w p : Nat) (s : State) : State :=
  let pt := s.part w p
  let committed := match pt.cmd with | some c => c.committed | none => true
  if !pt.donating || committed then s
  else
    let one := fun (x : Nat × Nat) (t : State) =>
      if (t.part x.1 x.2).donating then beginCut x.1 x.2 6 (t.modPart x.1 x.2 fun y => { y with donating := false }) else t
    let s1 := forEach ((w, p) :: s.peersOf w p) s one
    (s1.bump PMT_DON_CUTS_COUNT w 0 1).raiseP w p Leaf.donationCut

/-! ## Pre-emption ended from outside -/

/-- A curtain ends a pre-emption (R444): saved state and records are discarded. -/
def abortPreempt (w p : Nat) (s : State) : State :=
  let s1 := unparkHold w p s
  let s2 := s1.modPart w p fun x => { x with phase := .none, held := false, donating := false, savedCores := [], discardAccept := false, endCode := 0, cut := [] }
  if s.pmt w p = 0 then s2
  else
    (((((s2.setPmt w p 0).wr PMT_STAT_LAST_END w p 4).wr PMT_STAT_CMD_SAVED w p 0).wr PMT_STAT_FAULT_PENDING w p 0).wr PMT_STAT_FAULT_CAUSE w p 0).wr
      PMT_SAVE_FIELD_VALID w p 0

/-- A cue that changes a held partition's chart, quadrant set or program cuts its held command (R443). -/
def heldCueCut (w p : Nat) (s : State) : State :=
  if s.pmt w p = 5 ∧ s.rd PMT_STAT_CMD_SAVED w p = 1 then ((discardHeld w p s).setPartState w p 5).wr PMT_STAT_HTC_WHY w p 3 else s

def execPreempt (w : WaferId) (p : PartId) (s : State) : Res := .next (preempt w p s)
def execResume (w : WaferId) (p : PartId) (s : State) : Res := .next (resume w p s)
def execCutSurrenderTimeout (w : WaferId) (p : PartId) (s : State) : Res := .next (cutTimeout w p s)
def execCutComplete (w : WaferId) (p : PartId) (s : State) : Res := .next (cutComplete w p s)
def execHoldHaltDone (w : WaferId) (p : PartId) (s : State) : Res := .next (holdHalted w p s)
def execHoldSurrenderTimeout (w : WaferId) (p : PartId) (s : State) : Res := .next (holdTimeout w p s)
def execHoldSaveDone (w : WaferId) (p : PartId) (s : State) : Res := .next (holdSaved w p s)

/-- RESTORE_DONE. -/
def execRestoreDone (w : WaferId) (p : PartId) (bad : Option (FieldId × BitVec 40)) (s : State) : Res :=
  .next (restoreDone w p (bad.map fun x => (x.1.val, x.2.toNat / 64 * 64)) s)

def execDonationBound (w : WaferId) (p : PartId) (s : State) : Res := .next (donationBound w p s)

/-- A follower carries out a forwarded request or resume (R437). -/
def pmtForwarded (w p v : Nat) (s : State) : State :=
  if v = 1 then (if s.pmt w p = 0 ∧ (s.partState w p = 1 ∨ s.partState w p = 2) then startPreempt w p s else s)
  else if v = 2 then resumeOne w p s else s

/-- PMT_FWD. -/
def execPmtFwd (w : WaferId) (p : PartId) (v : BitVec 8) (s : State) : Res := .next (pmtForwarded w p v.toNat s)

end Sys2Proof.Machine
end

