-- ==== Sys2Proof/Machine/Serving.lean ====
section
/-!
DEFINITION. Command queues and the Serving Engine (R372-R411): doorbells, taking a command, the commit instant, completion, multi-wafer commands, the slot
table and the curtain. Open points are in log entry 12.
-/
namespace Sys2Proof.Machine

/-! ## Doorbells -/

/-- Discard a doorbell (R379): the first one is captured, and every one raises BAD_DOORBELL. -/
def badDoorbell (w p q reason : Nat) (s : State) : State :=
  let s1 := if s.rd CQ_BADDB_VALID w 0 = 1 then s
    else (((s.wr CQ_BADDB_PART w 0 p).wr CQ_BADDB_QUEUE w 0 q).wr CQ_BADDB_REASON w 0 reason).wr CQ_BADDB_VALID w 0 1
  s1.raiseP w p Leaf.badDoorbell

/-- The queue that carries steps, if the Serving Engine is enabled. -/
def State.stepQueue (s : State) (w p : Nat) : Option Nat :=
  if s.rd PRT_SE_ENABLE w p = 1 then some (s.rd PRT_SE_STEP_Q w p) else none

/-- A doorbell (R379): the new tail, or a discard by the first reason that applies. -/
def doorbell (w p q tail : Nat) (s : State) : State :=
  let i := queueIdx p q
  let st := s.partState w p
  let fwd := fun (a b : Nat) => (a + 2 ^ 32 - b) % 2 ^ 32
  if !s.defined w p || decide (s.rd PRT_QCFG_QUEUES w p ≤ q) then badDoorbell w p q 1 s
  else if st = 3 ∨ st = 4 then badDoorbell w p q 2 s
  else if s.ringSize w p < fwd tail (s.reg CQ_HEAD w i) ∨ 2 ^ 31 ≤ fwd tail (s.reg CQ_TAIL w i) then badDoorbell w p q 3 s
  else if s.stepQueue w p = some q then badDoorbell w p q 4 s
  else if !s.isLead w p then badDoorbell w p q 5 s
  else ghostExit w (s.wr CQ_TAIL_COUNT w i tail)

def execDoorbell (w : WaferId) (p : PartId) (q : Fin 64) (tail : Word32) (s : State) : Res := .next (doorbell w p q tail.toNat s)

/-! ## Reads of the Serving Engine -/

/-- Bytes of the partition's region in its RING_FIELD loft, for the Serving Engine. R350 names no outcome for it at a bad line: the bytes of a poisoned
line are open (log entry 3). Outside the region it reads nothing. -/
def seRead (w p off n : Nat) (s : State) : List Nat × State :=
  let f := s.ringField w p
  match s.regionMap w f p off n with
  | none => ([], s)
  | some ps =>
    let s1 := loftCountRead w f n s
    if (piecesLines ps).any fun l => s.poisoned w f l then
      ((List.range n).map fun i => Config.free (s1.freeCtr + i) % 256, s1.withFreeCtr (s1.freeCtr + n))
    else (s1.readPieces w f ps, s1)

/-! ## Starting a command -/

/-- One core starts a command (R107, R114, R124, R353, R382): its store is refilled if that is due, CORE_MODE is taken, registers and scratchpad hold open
values but for the descriptor and g1 to g3. -/
def startCore (w p : Nat) (c : Cmd) (desc : List Nat) (f u rank : Nat) (s : State) : State :=
  let old := s.core w f u
  let s1 := if old.refill && !old.istorePoison.isEmpty then s.bump SPAD_EVENTS_ISTORE_REFILL w f 1 else s
  let filled := if old.refill then s1.fillStore w f u old else old
  let base : Core := { filled with
    st := .idle, g := [], spad := [], spadPoison := [], seed := some s1.freeCtr
    deques := [[], [], [], []], cb := [], mode := s1.reg CORE_MODE w f, rank := rank, part := some p, wait := .none, stealAt := 0, ops := 0, before := .idle
    skipBreak := false, beforeTake := false, faultHeld := false }
  let ready := ((base.setFlags 0).setReg 1 0x12A00).setReg 2 rank |>.setBytes 0x12A00 desc
  let task := bitAt c.flags 0 || rank == 0
  (s1.withFreeCtr (s1.freeCtr + 1)).setCore w f u (if task then { ready.setReg 3 c.arg with st := .run, pc := c.entry } else ready)

/-- Start a command on every core that the chart seats on this wafer (R382). `badFill` is a core whose store met an uncorrectable line of the program
shadow, and the line: it faults ISTORE_ECC (R350). -/
def startCmd (w p : Nat) (c : Cmd) (desc : List Nat) (badFill : Option (Nat × Nat × Nat)) (s : State) : State :=
  let s1 := ((accrue w s).modPart w p fun x => { x with
    cmd := some c, stealing := 0, reported := [], rotating := false, stepDue := x.stepDue && !c.step, cut := x.cut.filter fun y => y.1 ≠ c.queue }).setPartState w p 2
  let refilled : Bool := match badFill with
    | some x => (s1.core w x.1 x.2.1).refill
    | none => false
  let s2 := forEach (s1.cmdCores w p) s1 fun x t => startCore w p c desc x.1 x.2.1 x.2.2 t
  match badFill with
  | some x =>
    if refilled && (s2.core w x.1 x.2.1).part == some p then coreFault w x.1 x.2.1 7 (loftUncorrectable w x.1 x.2.2 6 p s2) else s2
  | none => s2

/-- Dispatch at the lead (R382, R384): the followers receive the entry with its descriptor. -/
def dispatch (w p : Nat) (c : Cmd) (raw : List Nat) (badFill : Option (Nat × Nat × Nat)) (s : State) : State :=
  let d := seRead w p c.daddr c.dlen s
  let desc := if c.dlen = 0 then [] else d.1
  let s1 := startCmd w p c desc badFill (if c.dlen = 0 then s else d.2)
  forEach (s.peersOf w p) s1 fun x t => sendPeer w p x 0x20 0 c.queue (raw ++ desc) t

/-! ## Taking a command -/

/-- A live cue waits for the partition to be between steps (R283): the Serving Engine starts nothing for it. -/
def State.cueBlocks (s : State) (w p : Nat) : Bool := s.cue.slots.any fun x => decide (x.1 / 8 = w) && x.2.waitParts.contains p

/-- Raise DOMAIN_BLOCKED once for each blocked quadrant of a partition (R464). -/
def blockedQuads (w p : Nat) (s : State) : State :=
  let bs := (s.quads w p).filter fun q => s.rd PWR_DOM_STAT_BLOCKED w q == 1
  let new := bs.filter fun q => !(s.part w p).blockedSeen.contains q
  if new.isEmpty then s else (s.modPart w p fun x => { x with blockedSeen := bs }).raiseP w p Leaf.domainBlocked

/-- A queue has something to take: an entry, a cut command, or a due step (R380). -/
def State.queueReady (s : State) (w p q : Nat) : Bool :=
  let pt := s.part w p
  let i := queueIdx p q
  (mfind pt.cut q).isSome || (if s.stepQueue w p = some q then pt.stepDue else s.reg CQ_HEAD w i != s.reg CQ_TAIL w i)

/-- A queue's completion ring is full (R380). -/
def State.ringFull (s : State) (w p q : Nat) : Bool :=
  let i := queueIdx p q
  (s.reg CQ_CTAIL w i + 2 ^ 32 - s.reg CQ_CHEAD w i) % 2 ^ 32 == s.ringSize w p

/-- CRING_FULL when a queue is first skipped (R408). -/
def skipFull (w p : Nat) (s : State) : State :=
  let full := (List.range (s.rd PRT_QCFG_QUEUES w p)).filter fun q => s.queueReady w p q && s.ringFull w p q
  let new := full.filter fun q => !(s.part w p).skippedFull.contains q
  let s1 := s.modPart w p fun x => { x with skippedFull := full }
  if new.isEmpty then s1 else s1.raiseP w p Leaf.cringFull

/-- The next queue in round-robin order (R380). -/
def State.pickQueue (s : State) (w p : Nat) : Option Nat :=
  let n := s.rd PRT_QCFG_QUEUES w p
  ((List.range n).map fun i => ((s.part w p).nextQueue + i) % n).find? fun q => s.queueReady w p q && !s.ringFull w p q

/-- The fields of a command entry (R378). -/
def entryOf (q : Nat) (bs : List Nat) : Cmd :=
  { queue := q, seq := fieldOf bs 0 6, flags := fieldOf bs 6 2 % 2, entry := fieldOf bs 8 2, arg := fieldOf bs 0xC 4, dlen := fieldOf bs 0xA 2, daddr := fieldOf bs 0x10 8 }

/-- The first check of R381. -/
def State.entryBad (s : State) (w p : Nat) (c : Cmd) (bs : List Nat) : Bool :=
  decide (4 ≤ fieldOf bs 6 2) || (bs.drop 0x18).any (fun b => b != 0) || c.seq == 0 || decide (3071 < c.entry) || decide (512 < c.dlen)
    || c.dlen % 4 != 0 || c.daddr % 4 != 0 || (c.dlen != 0 && (s.regionMap w (s.ringField w p) p c.daddr c.dlen).isNone)

/-- Answer an entry without running it (R381): one completion record with the time of the answer. -/
def answer (w p : Nat) (c : Cmd) (status flags : Nat) (s : State) : State := writeRecord w p c.queue c.seq status flags (s.tbNow w) s

/-- Check a taken entry and answer or run it (R381). Check 4 cannot arise here: an entry with the sequence of a running command stays in the ring until
the partition is IDLE again, and check 2 then answers it as check 4 would. -/
def checkEntry (w p : Nat) (c : Cmd) (bs : List Nat) (badFill : Option (Nat × Nat × Nat)) (s : State) : State :=
  let i := queueIdx p c.queue
  if s.entryBad w p c bs then answer w p c 2 (4 * b2n c.step) s |>.modPart w p fun x => { x with stepDue := x.stepDue && !c.step, stepRan := x.stepRan || c.step }
  else if c.seq ≤ s.rd CQ_HWM_SEQ w i then
    match mfind (s.results w p c.queue) c.seq with
    | some code => (answer w p c (code % 256) (code / 256 % 256 ||| 1) s).bump CQ_DUP_COUNT w i 1
    | none => (answer w p c 1 0 s).bump CQ_STALE_COUNT w i 1
  else dispatch w p c bs badFill s

/-- The step command (R388): the template's fields, SEQ above the queue's high-water mark, FLAGS only STEP. -/
def stepCmd (w p q : Nat) (s : State) : (Cmd × List Nat) × State :=
  let r := seRead w p (s.reg PRT_SE_BASE w p) 64 s
  let seq := s.rd CQ_HWM_SEQ w (queueIdx p q) + 1
  let bs := leBytes 6 seq ++ leBytes 2 2 ++ (padTo 64 r.1).drop 8
  (({ entryOf q bs with step := true, seq := seq }, bs), r.2)

/-- The wings of a partition are locked by an expanding image (R268). -/
def State.loadBlocks (s : State) (w p : Nat) : Bool :=
  match (s.getCueUnits w).loadLock with
  | some (scope, q) => scope == 1 || q == p
  | none => false

/-- The Serving Engine may take a command (R268, R283, R375, R380, R414, R464). -/
def State.mayTake (s : State) (w p : Nat) : Bool :=
  s.defined w p && s.isLead w p && s.partState w p == 1 && s.pmt w p == 0 && (s.part w p).cmd.isNone && !s.cueBlocks w p && !s.loadBlocks w p
    && (s.quads w p).all fun q => s.quadReady w q

/-- COMMAND_TAKE (R380, R381). -/
def commandTake (w p : Nat) (badFill : Option (Nat × Nat × Nat)) (s0 : State) : State :=
  let s := if s0.defined w p ∧ s0.partState w p = 1 then blockedQuads w p s0 else s0
  if !s.mayTake w p then s
  else
    let s1 := skipFull w p s
    match s1.pickQueue w p with
    | none => s1
    | some q =>
      let i := queueIdx p q
      let s2 := s1.modPart w p fun x => { x with nextQueue := (q + 1) % s1.rd PRT_QCFG_QUEUES w p }
      match mfind (s2.part w p).cut q with
      | some c =>
        let s3 := if c.step then s2 else s2.incWrap CQ_HEAD_COUNT w i 1
        dispatch w p { c with status := 0 } (leBytes 6 c.seq ++ leBytes 2 (c.flags + 2 * b2n c.step) ++ leBytes 2 c.entry ++ leBytes 2 c.dlen ++ leBytes 4 c.arg ++ leBytes 8 c.daddr ++ List.replicate 40 0)
          badFill s3
      | none =>
        if s2.stepQueue w p = some q then
          let r := stepCmd w p q s2
          checkEntry w p r.1.1 r.1.2 badFill r.2
        else
          let r := seRead w p (s2.entryOff w p q (s2.reg CQ_HEAD w i)) 64 s2
          let bs := padTo 64 r.1
          checkEntry w p (entryOf q bs) bs badFill (r.2.incWrap CQ_HEAD_COUNT w i 1)

def execCommandTake (w : WaferId) (p : PartId) (badFill : Option (FieldId × UnitId × BitVec 40)) (s : State) : Res :=
  .next (commandTake w p (badFill.map fun x => (x.1.val, x.2.1.val, x.2.2.toNat / 64 * 64)) s)

/-- CMD_FWD (R384): a follower runs the entry that its lead sent, in its same-numbered queue; CQ_TAIL and CQ_HEAD count it (log entry 12). -/
def cmdForwarded (w p q : Nat) (bs : List Nat) (s : State) : State :=
  if !s.defined w p || s.isLead w p || s.partState w p != 1 || s.pmt w p != 0 || (s.part w p).cmd.isSome then s
  else
    let flags := fieldOf bs 6 2
    let c : Cmd := { entryOf q bs with step := bitAt flags 1 }
    let i := queueIdx p q
    let again := (mfind (s.part w p).cut q).isSome
    let s1 := if c.step then s else (s.incWrap CQ_HEAD_COUNT w i 1).incWrap CQ_TAIL_COUNT w i (if again then 0 else 1)
    startCmd w p c ((bs.drop 64).take c.dlen) none s1

def execCmdFwd (w : WaferId) (p : PartId) (q : Fin 64) (bytes : List Byte) (s : State) : Res :=
  .next (cmdForwarded w p q (bytes.map fun b => b.toNat) s)

/-! ## The commit instant -/

/-- A core counts as idle for the commit instant (R383, R712): IDLE, stealing with no entry on its way, or halted without a task. -/
def Core.idleForCommit (c : Core) : Bool :=
  match c.st with
  | .idle => true
  | .steal => true
  | .off => true
  | .unused => true
  | .halt => !c.faultHeld && (c.before == .idle || c.before == .steal)
  | _ => false

def State.coresIdle (s : State) (w p : Nat) : Bool :=
  (s.part w p).stealing == 0 && (s.cmdCores w p).all fun x => (s.core w x.1 x.2.1).part != some p || (s.core w x.1 x.2.1).idleForCommit

/-- The packets of a core's commit buffer in issue order (R119, R122, R146, R391), up to the first entry whose source holds a bad word: that word, if
any. `rid` is the next RID of the NI. -/
def drainCore (w f u p : Nat) (c : Core) : List CbEntry → State → State × Option Nat
  | [], s => (s, none)
  | e :: r, s =>
    let me := physAddr w f u
    let send := fun (typ dest addr src len : Nat) =>
      if c.poisonIn src len then (s, (wordsOf src len).find? fun k => c.spadPoison.contains k)
      else drainCore w f u p c r (sendMsg w f { typ := typ, dest := dest, src := me, spart := p, addr := addr } (c.bytes src len) s)
    match e with
    | .lput dest addr src len => send 6 dest addr src len
    | .xput dest addr src len => send 7 dest addr src len
    | .atom op wide dest addr v =>
      let k := niKey w f
      let rid := (s.getInjects k).rid
      let s1 := s.putInjects k { s.getInjects k with rid := (rid + 1) % 65536 }
      drainCore w f u p c r
        (enqueue w f { typ := 8, dest := dest, src := me, spart := p, addr := addr, rid := rid, aux := op + 16 * b2n wide, payload := leBytes (if wide then 8 else 4) v } s1)
    | .give sem slot => drainCore w f u p c r (sendMgmt w f u (s.arbiter slot) p 0x12 0 (semOffset sem) [] s)

/-- Index of a partition's live telemetry counter `i` (R505). -/
def telIdx (p i : Nat) : Nat := (p + 1) * 64 + i

/-- Commit a partition's part of a command (R122, R383, R493): the operations and slots count, and every core drains its commit buffer. An uncorrectable word
stops that core's drain and faults the partition with COMMIT_ECC (R352). -/
def commitPart (w p : Nat) (c : Cmd) (time : Nat) (s : State) : State :=
  let cs := (s.cmdCores w p).filter fun x => (s.core w x.1 x.2.1).part == some p
  let ops := cs.foldl (fun n x => n + (s.core w x.1 x.2.1).ops) 0
  let s1 := s.incWrap TEL_OPS_COUNT w (telIdx p 0) ops
  let s2 := if c.step then s1.incWrap TEL_SLOTS_COUNT w (telIdx p 0) (s.part w p).batch else s1
  let s3 := s2.modPart w p fun x => { x with cmd := some { c with committed := true, commitTime := time } }
  forEach cs s3 fun x t =>
    let core := t.core w x.1 x.2.1
    let r := drainCore w x.1 x.2.1 p core core.cb t
    let t1 := r.1.modCore w x.1 x.2.1 fun y => { y with cb := [], st := if y.st = .idle ∨ y.st = .steal then .commit else y.st }
    match r.2 with
    | none => t1
    | some k =>
      let t2 := spadUncorrectable w x.1 x.2.1 0 2 (k / 8) t1
      partFault w p 5 (t2.modPart w p fun y => { y with cmd := y.cmd.map fun z => { z with status := 5 } })

/-- Barrier counters at a multi-wafer command's commit instant (R494). -/
def barrierCount (w p last : Nat) (lead : Bool) (s : State) : State :=
  let s1 := (s.incWrap TEL_BAR_WAIT_COUNT w (telIdx p 0) ((s.now - (s.part w p).reportAt) / 1000)).incWrap TEL_BAR_CMDS_COUNT w (telIdx p 0) 1
  if lead then s1.incWrap TEL_BAR_LAST_COUNT w (telIdx p last) 1 else s1

/-- A word of a core's scratchpad that the drain finds uncorrectable (R352). -/
def markBad (w p : Nat) (bad : Option (Nat × Nat × Nat)) (s : State) : State :=
  match bad with
  | none => s
  | some x => if (s.core w x.1 x.2.1).part = some p then s.modCore w x.1 x.2.1 fun c => { c with spadPoison := x.2.2 :: c.spadPoison } else s

/-- COMMIT_INSTANT (R383, R384): with every core of the command idle, a follower reports to its lead, and a lead commits once every partition has
reported. -/
def commitInstant (w p : Nat) (bad : Option (Nat × Nat × Nat)) (s : State) : State :=
  match (s.part w p).cmd with
  | none => s
  | some c =>
    if c.committed || s.partState w p != 2 || !s.coresIdle w p then s
    else
      let peers := s.peersOf w p
      let mine := (s.part w p).reported.contains w
      let s1 := if mine then s else s.modPart w p fun x => { x with reported := x.reported ++ [w], reportAt := s.now }
      if !s.isLead w p then
        if mine then s1
        else match s.leadOf w p with
          | some l => sendPeer w p l 0x21 0 c.queue (padTo 32 (leBytes 6 c.seq)) s1
          | none => s1
      else if !peers.all fun x => (s1.part w p).reported.contains x.1 then s1
      else
        let s2 := commitPart w p c (s.tbNow w) (markBad w p bad s1)
        if peers.isEmpty then s2
        else
          let s3 := barrierCount w p ((s1.part w p).reported.getLastD w) true s2
          forEach peers s3 fun x t => sendPeer w p x 0x22 0 c.queue (padTo 32 (leBytes 6 c.seq)) t

def execCommitInstant (w : WaferId) (p : PartId) (bad : Option (FieldId × UnitId × BitVec 14)) (s : State) : Res :=
  .next (commitInstant w p (bad.map fun x => (x.1.val, x.2.1.val, x.2.2.toNat)) s)

/-- IDLE_REPORT (R384). -/
def idleReport (w p q seq src : Nat) (s : State) : State :=
  match (s.part w p).cmd with
  | some c =>
    if s.isLead w p ∧ c.queue = q ∧ c.seq = seq ∧ !c.committed ∧ !(s.part w p).reported.contains src then
      s.modPart w p fun x => { x with reported := x.reported ++ [src] }
    else s
  | none => s

def execIdleReport (w : WaferId) (p : PartId) (q : Fin 64) (seq : BitVec 48) (src : WaferId) (s : State) : Res :=
  .next (idleReport w p q seq.toNat src s)

/-- CMD_END (R147, R384): status 0 commits the follower's part, any other status discards it. -/
def cmdEnd (w p q seq status : Nat) (s : State) : State :=
  match (s.part w p).cmd with
  | some c =>
    if s.isLead w p ∨ c.queue ≠ q ∨ c.seq ≠ seq ∨ c.committed then s
    else if status = 0 then barrierCount w p 0 false (commitPart w p c (s.tbNow w) s)
    else failLocal w p status s
  | none => s

def execCmdEnd (w : WaferId) (p : PartId) (q : Fin 64) (seq : BitVec 48) (status : Byte) (s : State) : Res :=
  .next (cmdEnd w p q seq.toNat status.toNat s)

/-! ## Completion -/

/-- A packet of a commit drain: LPUT, XPUT, ATOM or GIVE. -/
def drainPacket (p : Packet) : Bool := p.typ == 6 || p.typ == 7 || p.typ == 8 || (p.typ == 13 && p.aux % 256 == 0x12)

/-- A drain packet of the partition has not been acknowledged (R122). -/
def State.draining (s : State) (w p : Nat) : Bool :=
  ((s.fields w p).any fun f => (mget [] (s.getInjects (niKey w f)).queues p).any drainPacket)
    || s.net.sends.any fun x => decide (streamNi x.1 / 128 = w) && streamPart x.1 == p && ((x.2.unacked.any fun k => drainPacket k.pkt) || x.2.waiting.any drainPacket)

/-- The partition's batch-area offset of done bits (R386). -/
def State.doneOff (s : State) (w p : Nat) : Nat := s.reg PRT_SE_BASE w p + 0x80

/-- A follower's done bits go to its lead, and are cleared here (R390). -/
def sendDone (w p : Nat) (s : State) : State :=
  match s.leadOf w p with
  | none => s
  | some l =>
    let r := seRead w p (s.doneOff w p) 1024 s
    let s1 := forEach [0, 512] r.2 fun o t => sendPeer w p l 0x25 0 o ((padTo 1024 r.1).drop o |>.take 512) t
    ringWrite w p (s.doneOff w p) (List.replicate 1024 0) s1

/-- The cores of a completed command leave it. -/
def completeCores (w p : Nat) (s : State) : State := endCores w p s

/-- The streams of a partition reset, on its own NIs and towards it (R191). -/
def resetStreams (w p : Nat) (s : State) : State :=
  let fs := s.fields w p
  let peers := s.peersOf w p
  let toUs := fun (slot part : Nat) => slot == w || peers.any fun x => x == (slot, part)
  let here := fun (ni : Nat) => decide (ni % 64 = w) && fs.contains (ni / 64)
  let s1 := resetSends (fun k =>
    (decide (streamNi k / 128 = w) && fs.contains (streamNi k % 128) && streamPart k == p) || (toUs (streamNi k / 128) (streamPart k) && here (streamPeer k))) s
  resetRecvs (fun k =>
    (decide (streamNi k / 128 = w) && fs.contains (streamNi k % 128) && (streamPart k == p || peers.any fun x => x == (streamPeer k % 64, streamPart k)))
      || (here (streamPeer k) && streamPart k == p)) s1

/-- What a curtain resets once nothing of the partition runs any longer (R395 step 5): cores, NI state, streams, queue counts; the quarters begin to be zeroed. -/
def resetPart (w p : Nat) (s : State) : State :=
  let fs := s.fields w p
  let s1 := forEach (s.quads w p) s fun q t => forEach (t.quadUnits w q) t fun u t =>
    let c := t.core w (q / 4) u
    if c.st = .off ∨ c.st = .unused then t
    else t.setCore w (q / 4) u { st := .idle, mode := c.mode, istore := c.istore, istorePoison := c.istorePoison, refill := c.refill }
  let s4 := resetStreams w p (withdrawQueued w p s1)
  let s5 := forEach (List.range 64) s4 fun q t =>
    let i := queueIdx p q
    (((t.setReg CQ_HEAD w i 0).setReg CQ_TAIL w i 0).setReg CQ_CTAIL w i 0).setReg CQ_CHEAD w i 0
  let s6 := forEach fs s5 fun f t => t.wr LOFT_STAT_ZEROING w f 1
  s6.modPart w p fun x => { x with zeroing := s.quads w p, cmd := none, stealing := 0, skippedFull := [], nextQueue := 0, cut := [] }

/-- COMMAND_COMPLETE (R383, R384, R390, R391): leases are consumed, the result recorded, the high-water mark raised, the completion record written. A lead
waits for its followers. A donation, a drain that a pre-emption awaits, and a curtain go on from here (R416, R434, R395). -/
def commandComplete (w p : Nat) (s : State) : State :=
  match (s.part w p).cmd with
  | none => s
  | some c =>
    let peersDone := !s.isLead w p || (s.peersOf w p).all fun x => match (s.part x.1 x.2).cmd with
      | some d => d.queue != c.queue || d.seq != c.seq
      | none => true
    if !c.committed || s.draining w p || !peersDone then s
    else
      let s1 := completeCores w p (consumeLeases w p s)
      let s2 := finishCmd w p c c.commitTime s1
      let s3 := if c.step then (if s.isLead w p then s2.modPart w p fun x => { x with stepRan := true } else sendDone w p s2) else s2
      let s4 := drainEnded w p (donated w p s3)
      if s4.partState w p = 4 then resetPart w p s4 else s4

def execCommandComplete (w : WaferId) (p : PartId) (s : State) : Res := .next (commandComplete w p s)

/-! ## The slot table -/

def seKey (w p n : Nat) : Nat := partKey w p * 8192 + n
def State.slot (s : State) (w p n : Nat) : SeSlot := s.getSeSlots (seKey w p n)
/-- The slots of a partition that are not FREE, in ascending order. -/
def State.slots (s : State) (w p : Nat) : List (Nat × SeSlot) :=
  (s.job.seSlots.filter fun x => x.1 / 8192 == partKey w p).map fun x => (x.1 % 8192, x.2)

/-- Show the counts of the slot table (SE_STAT, SE_DONE). -/
def seSync (w p : Nat) (s : State) : State :=
  let ss := s.slots w p
  let count := fun (g : SlotSt → Bool) => (ss.filter fun x => g x.2.st).length
  let s1 := (s.wr SE_STAT_ACTIVE w p (count fun x => x == .active || x == .leaving)).wr SE_STAT_PENDING w p (count fun x => x == .joining)
  let done := (ss.filter fun x => x.2.st == .done).map fun x => x.1
  forEach (List.range 256) s1 fun k t =>
    t.setReg SE_DONE w (p * 256 + k) ((done.filter fun n => n / 32 == k).foldl (fun v n => v ||| 2 ^ (n % 32)) 0)

/-- A refused slot operation counts (R387). -/
def slotRefused (w p : Nat) (s : State) : State := s.bump SE_REFUSED_COUNT w p 1

/-- JOIN (R387, R390). -/
def slotJoin (w p n : Nat) (s : State) : State :=
  if !s.isLead w p || (s.slot w p n).st != .free then slotRefused w p s
  else seSync w p (s.putSeSlots (seKey w p n) { st := .joining, tag := s.reg SE_SLOT_TAG w p })

/-- LEAVE (R387, R390). -/
def slotLeave (w p n : Nat) (s : State) : State :=
  let x := s.slot w p n
  if !s.isLead w p then slotRefused w p s
  else match x.st with
    | .free => slotRefused w p s
    | .joining => seSync w p (s.putSeSlots (seKey w p n) {})
    | .active => seSync w p (s.putSeSlots (seKey w p n) { x with st := .leaving })
    | .leaving => s
    | .done => seSync w p (s.putSeSlots (seKey w p n) {})

/-- SLOT_JOIN: a write of SE_SLOT_CTL to the partition that SE_SEL names. -/
def execSlotJoin (w : WaferId) (slot : BitVec 13) (s : State) : Res := .next (slotJoin w (s.rd SE_SEL_PART w 0) slot.toNat s)
/-- SLOT_LEAVE. -/
def execSlotLeave (w : WaferId) (slot : BitVec 13) (s : State) : Res := .next (slotLeave w (s.rd SE_SEL_PART w 0) slot.toNat s)

/-- Step 1 of a boundary (R388, R389): done marks of ACTIVE slots count, and the done bits are cleared. -/
def applyDone (w p : Nat) (s : State) : State :=
  let r := seRead w p (s.doneOff w p) 1024 s
  let bits := ofLeBytes r.1
  let marked := (s.slots w p).filter fun x => x.2.st == .active && bitAt bits x.1
  let s1 := forEach marked r.2 fun x t => t.putSeSlots (seKey w p x.1) { x.2 with st := .done }
  let s2 := ringWrite w p (s.doneOff w p) (List.replicate 1024 0) s1
  if marked.isEmpty then s2 else s2.raiseP w p Leaf.seqDone

/-- Steps 2 and 3 (R388): LEAVING slots become FREE, JOINING slots ACTIVE in ascending order up to MAX_BATCH. -/
def admitSlots (w p : Nat) (s : State) : State :=
  let limit := if s.rd PRT_SE_MAX_BATCH w p = 0 then 8192 else s.rd PRT_SE_MAX_BATCH w p
  let s1 := forEach (s.slots w p) s fun x t => if x.2.st = .leaving then t.putSeSlots (seKey w p x.1) {} else t
  let active := ((s1.slots w p).filter fun x => x.2.st == .active).length
  let new := ((s1.slots w p).filter fun x => x.2.st == .joining).take (limit - active)
  forEach new s1 fun x t => t.putSeSlots (seKey w p x.1) { x.2 with st := .active, new := true }

/-- Step 5 (R386, R388, R390): the batch header and list are written, sent to the followers, and the step is due. -/
def writeBatch (w p : Nat) (s : State) : State :=
  let act := (s.slots w p).filter fun x => x.2.st == .active
  if act.isEmpty then s
  else
    let base := s.reg PRT_SE_BASE w p
    let seq := s.rd CQ_HWM_SEQ w (queueIdx p (s.rd PRT_SE_STEP_Q w p)) + 1
    let header := leBytes 8 seq ++ leBytes 4 act.length ++ List.replicate 52 0
    let list := act.flatMap fun x => leBytes 8 (x.1 + 8192 * b2n x.2.new + x.2.tag * 2 ^ 32)
    let s1 := ringWrite w p (base + 0x480) list (ringWrite w p (base + 0x40) header s)
    let s2 := forEach (s.peersOf w p) s1 fun x t =>
      let t1 := sendPeer w p x 0x24 0 0x40 header t
      forEach (List.range ((list.length + 511) / 512)) t1 fun k t => sendPeer w p x 0x24 0 (0x480 + 512 * k) ((list.drop (512 * k)).take 512) t
    let s3 := forEach act s2 fun x t => t.putSeSlots (seKey w p x.1) { x.2 with new := false }
    s3.modPart w p fun x => { x with stepDue := true, batch := act.length }

/-- The partition stands at a step boundary (R388, R390, R414): IDLE with no step to run, and every follower's done bits in. -/
def State.atBoundary (s : State) (w p : Nat) : Bool :=
  let pt := s.part w p
  s.defined w p && s.isLead w p && s.rd PRT_SE_ENABLE w p == 1 && s.partState w p == 1 && s.pmt w p == 0 && pt.cmd.isNone && !pt.stepDue
    && (mfind pt.cut (s.rd PRT_SE_STEP_Q w p)).isNone
    && (!pt.stepRan || (s.peersOf w p).all fun x => pt.peersReady.contains (x.1 * 2) && pt.peersReady.contains (x.1 * 2 + 1))

/-- Steps 1 to 3 of a boundary. -/
def boundarySlots (w p : Nat) (s : State) : State :=
  let s1 := if (s.part w p).stepRan then applyDone w p s else s
  seSync w p (admitSlots w p (s1.modPart w p fun x => { x with stepRan := false, peersReady := [] }))

/-- BATCH_FWD (R390): a follower writes the bytes into its batch area. -/
def batchForwarded (w p off : Nat) (bs : List Nat) (s : State) : State :=
  if s.isLead w p || !s.defined w p then s
  else
    let s1 := ringWrite w p (s.reg PRT_SE_BASE w p + off) bs s
    if off = 0x40 then s1.modPart w p fun x => { x with batch := fieldOf bs 8 4 } else s1

def execBatchFwd (w : WaferId) (p : PartId) (off : BitVec 20) (bytes : List Byte) (s : State) : Res :=
  .next (batchForwarded w p off.toNat (bytes.map fun b => b.toNat) s)

/-- DONE_BITS (R390): a lead ORs a follower's done bits into its own. -/
def doneBits (w p src off : Nat) (bs : List Nat) (s : State) : State :=
  if !s.isLead w p then s
  else
    let r := seRead w p (s.doneOff w p + off) bs.length s
    let mixed := (padTo bs.length r.1).zip bs |>.map fun x => x.1 ||| x.2
    (ringWrite w p (s.doneOff w p + off) mixed r.2).modPart w p fun x => { x with peersReady := (src * 2 + off / 512 % 2) :: x.peersReady }

def execDoneBits (w : WaferId) (p : PartId) (src : WaferId) (off : BitVec 10) (bytes : List Byte) (s : State) : Res :=
  .next (doneBits w p src off.toNat (bytes.map fun b => b.toNat) s)

/-- FAULT_FWD (R376, R409): a lead that learns of a fault raises PEER_FAULT on itself and every other partition of the job; a follower faults with
the cause. -/
def faultForwarded (w p cause : Nat) (s : State) : State :=
  if !s.defined w p then s
  else if s.isLead w p then forEach (s.peersOf w p) (faultOne w p 6 s) fun x t => sendPeer w p x 0x26 6 x.2 [] t
  else faultOne w p cause s

def execFaultFwd (w : WaferId) (p : PartId) (cause : BitVec 3) (s : State) : Res := .next (faultForwarded w p cause.toNat s)

/-- RESET_SEQ (R411): for the queue that CQ_SEL names. -/
def resetSeq (w p q : Nat) (s : State) : State :=
  let i := queueIdx p q
  if (s.partState w p = 1 ∨ s.partState w p = 0) ∧ s.reg CQ_HEAD w i = s.reg CQ_TAIL w i ∧ (mfind (s.part w p).cut q).isNone then
    (s.setReg CQ_HWM w i 0).putResults (resultKey w p q) []
  else s

def execResetSeq (w : WaferId) (s : State) : Res := .next (resetSeq w (s.rd CQ_SEL_PART w 0) (s.rd CQ_SEL_QUEUE w 0) s)

/-! ## The curtain -/

/-- A curtain drops (R395, R397): the disarming of cues and the abort of loads are added by Machine/Cues.lean. -/
def curtainDrop (w p : Nat) (s : State) : State :=
  let s1 := s.setPartState w p 4
  let s2 := if s.isLead w p then forEach (s.peersOf w p) s1 fun x t => sendPeer w p x 0x26 6 x.2 [] t else s1
  let committed := match (s.part w p).cmd with | some c => c.committed | none => false
  let s3 := abortPreempt w p s2
  let s4 := s3.wr PRT_FAULT_CAUSE w p 0
  if committed then s4 else resetPart w p (discardCmd w p s4)

/-- QUARTER_ZEROED (R346): quarters of a curtained partition are zeroed one after another in each loft. -/
def quarterZeroed (w q : Nat) (s : State) : State :=
  match allParts.find? fun p => (s.part w p).zeroing.contains q with
  | none => s
  | some p =>
    if (s.part w p).zeroing.any fun x => decide (x / 4 = q / 4) && decide (x < q) then s
    else
      let s1 := zeroLoft w (q / 4) (quarterBase (q % 4)) quarterSize s
      let s2 := s1.modPart w p fun x => { x with zeroing := x.zeroing.filter fun y => y ≠ q }
      if (s2.part w p).zeroing.any fun x => x / 4 = q / 4 then s2 else s2.wr LOFT_STAT_ZEROING w (q / 4) 0

def execQuarterZeroed (w : WaferId) (q : QuadId) (s : State) : Res := .next (quarterZeroed w q s)

/-- CURTAIN_DONE (R395 steps 7 and 8). -/
def curtainDone (w p : Nat) (s : State) : State :=
  let pt := s.part w p
  if s.partState w p ≠ 4 ∨ pt.cmd.isSome ∨ !pt.zeroing.isEmpty then s
  else
    let s1 := forEach (s.slots w p) s fun x t => t.putSeSlots (seKey w p x.1) {}
    let s2 := (seSync w p s1).modPart w p fun x => { x with stepDue := false, stepRan := false, batch := 0, peersReady := [] }
    (s2.setPartState w p 1).raiseP w p Leaf.curtainDone

def execCurtainDone (w : WaferId) (p : PartId) (s : State) : Res := .next (curtainDone w p s)

end Sys2Proof.Machine
end

