-- ==== Sys2Proof/Machine/Images.lean ====
section
/-!
DEFINITION. Set images (R240-R273): the layout of an image, the loader's checks in their order, what expansion writes into the wings, and pushes. What
completes a load and starts its cue is in Machine/Cues.lean. How placements of two images meet in one program shadow is log entry 19.
-/
namespace Sys2Proof.Machine

/-! ## Layout -/

/-- One entry of the section table (R243). -/
structure Sect where
  idx : Nat
  kind : Nat
  flags : Nat
  off : Nat
  len : Nat
  crc : Nat
  count : Nat
  rsvd : Nat
deriving DecidableEq, Repr

def sectAt (img : List Nat) (i : Nat) : Sect :=
  let o := 256 + 32 * i
  ⟨i, fieldOf img o 2, fieldOf img (o + 2) 2, fieldOf img (o + 8) 8, fieldOf img (o + 16) 8, fieldOf img (o + 24) 4, fieldOf img (o + 28) 4, fieldOf img (o + 4) 4⟩

def imgSects (img : List Nat) : List Sect := (List.range (fieldOf img 0x1A 2)).map (sectAt img)

/-- The bytes of a range of an image. -/
def sliceOf (img : List Nat) (off n : Nat) : List Nat := (img.drop off).take n

/-- Every byte of a range is 0. -/
def zeroIn (img : List Nat) (off n : Nat) : Bool := (sliceOf img off n).all fun b => b == 0

/-- The bytes that DIGEST covers: DIGEST and HDR_CRC taken as zero (R242). -/
def digestInput (img : List Nat) : List Nat := img.take 0xDC ++ List.replicate 36 0 ++ img.drop 0x100

/-- A register record (R246). -/
structure Rec where
  off : Nat
  width : Nat
  rsvd : Nat
  value : Nat
  at_ : Nat
deriving DecidableEq, Repr

def recAt (img : List Nat) (o : Nat) : Rec := ⟨fieldOf img o 4, fieldOf img (o + 4) 1, fieldOf img (o + 5) 3, fieldOf img (o + 8) 8, o⟩

/-- A section of register records (R246). -/
def recKind (k : Nat) : Bool := k == 1 || k == 2 || k == 4 || k == 6 || k == 7

def sectRecs (img : List Nat) (x : Sect) : List Rec := if recKind x.kind then (List.range x.count).map fun j => recAt img (x.off + 16 * j) else []

/-- All records of an image, in image order. -/
def imgRecs (img : List Nat) : List Rec := (imgSects img).flatMap (sectRecs img)

/-- What the image stages into a register's copy: its record's value, or the register's reset value (R256). -/
def imgValue (img : List Nat) (r : Reg) (i : Nat) : Nat :=
  match (imgRecs img).find? fun x => x.off == r.offsetOf i with
  | some x => x.value
  | none => r.reset

/-- Whether the image's STRUCT defines a partition, and gives it a quadrant. -/
def imgDefined (img : List Nat) (p : Nat) : Bool := decide (p < 288) && bits (imgValue img PRT_DEF p) PRT_DEF_VALID.hi PRT_DEF_VALID.lo == 1
def imgQuad (img : List Nat) (p q : Nat) : Bool := bitAt (imgValue img PRT_QMASK (p * 9 + q / 32)) (q % 32)

/-- A chart of a SEAT section (R249): its partition, its entries, and where it stands. -/
structure ImgChart where
  part : Nat
  rsvd : Nat
  header : Nat
  segs : List Nat
  at_ : Nat
deriving DecidableEq, Repr

def chartCount (h : Nat) : Nat := bits h 51 37

def chartAt (img : List Nat) (o : Nat) : ImgChart :=
  let h := fieldOf img (o + 8) 8
  ⟨fieldOf img o 2, fieldOf img (o + 2) 6, h, (List.range (chartCount h)).map fun i => fieldOf img (o + 16 + 8 * i) 8, o⟩

/-- The charts of a section, one after another, and where they end. -/
def chartsFrom (img : List Nat) : Nat → Nat → List ImgChart × Nat
  | 0, o => ([], o)
  | n + 1, o =>
    let c := chartAt img o
    let (r, e) := chartsFrom img n (o + 16 + 8 * chartCount c.header)
    (c :: r, e)

/-- A placement entry and a program of a PROGRAM section (R250). -/
structure Placement where
  field : Nat
  quad : Nat
  first : Nat
  count : Nat
  prog : Nat
  at_ : Nat
deriving DecidableEq, Repr

structure ImgProg where
  id : Nat
  n : Nat
  code : List Nat
  at_ : Nat
deriving DecidableEq, Repr

def placementAt (img : List Nat) (o : Nat) : Placement :=
  ⟨fieldOf img o 1, fieldOf img (o + 1) 1, fieldOf img (o + 2) 1, fieldOf img (o + 3) 1, fieldOf img (o + 4) 2, o⟩

def progsFrom (img : List Nat) : Nat → Nat → List ImgProg × Nat
  | 0, o => ([], o)
  | n + 1, o =>
    let k := fieldOf img (o + 4) 4
    let (r, e) := progsFrom img n (o + 8 + 8 * k)
    (⟨fieldOf img o 2, k, (List.range (min k 3072)).map fun i => fieldOf img (o + 8 + 8 * i) 8, o⟩ :: r, e)

def sectPlacements (img : List Nat) (x : Sect) : List Placement :=
  (List.range (min 4096 (fieldOf img x.off 4))).map fun i => placementAt img (x.off + 8 + 8 * i)
def sectProgs (img : List Nat) (x : Sect) : List ImgProg × Nat :=
  progsFrom img (min 256 (fieldOf img (x.off + 4) 4)) (x.off + 8 + 8 * fieldOf img x.off 4)

/-- A block of a CONST section (R252). -/
structure ImgBlock where
  part : Nat
  field : Nat
  len : Nat
  off : Nat
  at_ : Nat
deriving DecidableEq, Repr

def blocksFrom (img : List Nat) (base : Nat) : Nat → Nat → List ImgBlock
  | 0, _ => []
  | n + 1, o =>
    let len := fieldOf img (o + 4) 4
    ⟨fieldOf img o 2, fieldOf img (o + 2) 1, len, fieldOf img (o + 8) 8, o⟩
      :: blocksFrom img base n (base + (o + 16 + len - base + 63) / 64 * 64)

def sectBlocks (img : List Nat) (x : Sect) : List ImgBlock := blocksFrom img x.off x.count x.off

def sectOf (img : List Nat) (k : Nat) : Option Sect := (imgSects img).find? fun x => x.kind == k

def imgCharts (img : List Nat) : List ImgChart := match sectOf img 5 with | some x => (chartsFrom img x.count x.off).1 | none => []
def imgPlacements (img : List Nat) : List Placement := match sectOf img 8 with | some x => sectPlacements img x | none => []
def imgProgs (img : List Nat) : List ImgProg := match sectOf img 8 with | some x => (sectProgs img x).1 | none => []
def imgBlocks (img : List Nat) : List ImgBlock := match sectOf img 9 with | some x => sectBlocks img x | none => []

/-! ## Validation -/

/-- What a failed check reports: the error code, the step, the section and the offset (R259). -/
structure ImgErr where
  code : Nat
  step : Nat
  sect : Nat := 0
  off : Nat := 0
deriving DecidableEq, Repr

/-- A check: nothing, or the error where it does not hold. -/
def need (ok : Bool) (e : ImgErr) : Option ImgErr := if ok then none else some e

/-- The first error of a list of checks. -/
def firstErr : List (Option ImgErr) → Option ImgErr
  | [] => none
  | some e :: _ => some e
  | none :: r => firstErr r

/-- Sections ascend, are aligned, do not overlap and lie in the image (R243). -/
def tableOk (size : Nat) (img : List Nat) : Bool :=
  let n := fieldOf img 0x1A 2
  let xs := imgSects img
  decide (1 ≤ n ∧ n ≤ 64)
    && xs.all (fun x => decide (x.flags < 2 ∧ x.rsvd = 0 ∧ x.off % 64 = 0 ∧ 256 + 32 * n ≤ x.off ∧ 1 ≤ x.len ∧ x.off + x.len ≤ size))
    && (xs.zip (xs.drop 1)).all fun p => decide (p.1.off + p.1.len ≤ p.2.off)

/-- Kinds are known or skippable, none is repeated, STRUCT is there, and each is allowed in the scope (R244, R245). -/
def kindsOk (wafer : Bool) (img : List Nat) : Bool :=
  let xs := imgSects img
  xs.all (fun x => decide (x.kind ≠ 0) && (decide (x.kind ≤ 10) || !bitAt x.flags 0)
      && decide ((xs.filter fun y => y.kind == x.kind).length = 1) && (wafer || (x.kind != 2 && x.kind != 3)))
    && xs.any fun x => x.kind == 1

/-- The range of window offsets that a section of records may name (R244). -/
def kindRange (k o : Nat) : Bool :=
  if k = 1 then decide (0xB0000 ≤ o ∧ o < 0xE0000)
  else if k = 2 then decide (0x8D000 ≤ o ∧ o < 0x8F000)
  else if k = 4 then decide (0x200000 ≤ o ∧ o < 0xB00000)
  else if k = 6 then decide ((0x40000 ≤ o ∧ o < 0x50000) ∨ (0xE0000 ≤ o ∧ o < 0xF0000))
  else decide (0x50000 ≤ o ∧ o < 0x70000)

/-- A record is valid (R247). -/
def recOk (img : List Nat) (k : Nat) (x : Rec) : Bool :=
  match findReg x.off with
  | some (r, _, rem) =>
    rem == 0 && r.st != 0 && kindRange k x.off && x.width == r.size && x.rsvd == 0 && x.value &&& notBits 64 r.st == 0
      && decide (((imgRecs img).filter fun y => y.off == x.off).length = 1)
      && !(r.id == NET_ACT_STAMP.id || r.id == NET_ACT_GEN.id || r.id == NET_SEAT_DATA.id || r.id == ID_STRUCT_TAG.id)
  | none => false

/-- A partition image may name the register (R248). -/
def recInScope (img : List Nat) (p : Nat) (x : Rec) : Bool :=
  match findReg x.off with
  | some (r, i, _) =>
    (partRegs.any (fun y => y.id == r.id) && i == p) || (r.id == PRT_QMASK.id && i / 9 == p)
      || (fieldRegs.any (fun y => y.id == r.id) && (List.range 4).all fun k => imgQuad img p (4 * i + k))
  | none => false

def checkRecs (img : List Nat) (wafer : Bool) (p : Nat) (x : Sect) : Option ImgErr :=
  firstErr (need (x.len == 16 * x.count) ⟨13, 8, x.idx, x.off⟩ ::
    (sectRecs img x).flatMap fun r =>
      [need (recOk img x.kind r) ⟨13, 8, x.idx, r.at_⟩, need (wafer || recInScope img p r) ⟨14, 8, x.idx, r.at_⟩])

/-- A list of numbers rises strictly. -/
def risesStrictly (xs : List Nat) : Bool := (xs.zip (xs.drop 1)).all fun p => decide (p.1 < p.2)

/-- SEAT format (R249). -/
def checkSeat (img : List Nat) (wafer : Bool) (p : Nat) (x : Sect) : Option ImgErr :=
  let (cs, e) := chartsFrom img x.count x.off
  firstErr ((cs.map fun c =>
      need (c.rsvd == 0 && decide (c.header < 2 ^ 52) && decide (1 ≤ chartCount c.header ∧ chartCount c.header ≤ 16384)
          && c.segs.all (fun g => decide (g < 2 ^ 51)) && risesStrictly (c.segs.map fun g => g % 2 ^ 20)
          && decide ((cs.filter fun d => d.part == c.part).length = 1) && imgDefined img c.part && (wafer || c.part == p))
        ⟨15, 8, x.idx, c.at_⟩)
    ++ [need (e == x.off + x.len) ⟨15, 8, x.idx, x.off⟩])

/-- Two placements cover one logical core. -/
def placeOverlap (a b : Placement) : Bool :=
  a.field == b.field && a.quad == b.quad && decide (a.first < b.first + b.count ∧ b.first < a.first + a.count)

/-- PROGRAM format (R250). -/
def checkProgram (img : List Nat) (wafer : Bool) (p : Nat) (x : Sect) : Option ImgErr :=
  let np := fieldOf img x.off 4
  let pl := sectPlacements img x
  let (pg, e) := sectProgs img x
  firstErr (need (decide (1 ≤ np ∧ np ≤ 4096 ∧ 1 ≤ x.count ∧ x.count ≤ 256) && fieldOf img (x.off + 4) 4 == x.count) ⟨16, 8, x.idx, x.off⟩
    :: pl.map (fun a =>
        need (decide (a.field < 72 ∧ a.quad < 4 ∧ 1 ≤ a.count ∧ a.first + a.count ≤ 144) && pg.any (fun g => g.id == a.prog)
            && decide ((pl.filter (placeOverlap a)).length = 1) && (wafer || imgQuad img p (4 * a.field + a.quad)))
          ⟨16, 8, x.idx, a.at_⟩)
    ++ pg.map (fun g => need (decide (1 ≤ g.n ∧ g.n ≤ 3072 ∧ (pg.filter fun h => h.id == g.id).length = 1)) ⟨16, 8, x.idx, g.at_⟩)
    ++ [need (decide (e ≤ x.off + x.len)) ⟨16, 8, x.idx, x.off⟩])

/-- Bytes of a partition's region in a field under the image's STRUCT (R343). -/
def imgRegion (img : List Nat) (p f : Nat) : Nat := ((List.range 4).filter fun k => imgQuad img p (4 * f + k)).length * quarterSize

/-- CONST format (R252). -/
def checkConst (img : List Nat) (wafer : Bool) (p : Nat) (x : Sect) : Option ImgErr :=
  let bs := sectBlocks img x
  firstErr (bs.map fun b =>
    need (decide (b.part < 288 ∧ b.field < 72 ∧ 4 ≤ b.len ∧ b.len % 4 = 0 ∧ b.off % 64 = 0 ∧ b.at_ + 16 + b.len ≤ x.off + x.len)
        && decide (b.off + b.len ≤ imgRegion img b.part b.field)
        && decide ((bs.filter fun c => c.part == b.part && c.field == b.field && decide (b.off < c.off + c.len ∧ c.off < b.off + b.len)).length = 1)
        && (wafer || b.part == p))
      ⟨17, 8, x.idx, b.at_⟩)

/-- An entry of ACTS names a route-table entry that exists (R217, R253). -/
def actEntryOk (kind f i : Nat) : Bool :=
  if kind = 1 then decide (f < 72 ∧ i < 84)
  else if kind = 2 then decide (f < 72 ∧ i < 16)
  else if kind = 3 then decide (f < 72 ∧ i / 128 < 20 ∧ i % 128 < 84)
  else if kind = 4 then decide (f < 72 ∧ i < 20)
  else if kind = 5 then decide ((f = 54 ∨ f = 18) ∧ i < 64)
  else false

def checkActs (img : List Nat) (x : Sect) : Option ImgErr :=
  firstErr (need (x.len == 16 * x.count) ⟨18, 8, x.idx, x.off⟩ ::
    (List.range x.count).map fun j =>
      let o := x.off + 16 * j
      need (actEntryOk (fieldOf img o 1) (fieldOf img (o + 1) 1) (fieldOf img (o + 2) 2)) ⟨18, 8, x.idx, o⟩)

/-- Step 8 of one section. -/
def checkSect (img : List Nat) (wafer : Bool) (p : Nat) (x : Sect) : Option ImgErr :=
  if recKind x.kind then checkRecs img wafer p x
  else if x.kind = 5 then checkSeat img wafer p x
  else if x.kind = 8 then checkProgram img wafer p x
  else if x.kind = 9 then checkConst img wafer p x
  else if x.kind = 3 then checkActs img x
  else none

/-- The staged objects of an image (R255). -/
def imgObjects (wafer : Bool) (img : List Nat) : Nat :=
  (imgRecs img).length + (imgCharts img).length + (((imgPlacements img).map fun a => a.field).dedup).length + b2n wafer

/-- The magic number "FERAHSET". -/
def imgMagic : List Nat := [0x46, 0x45, 0x52, 0x41, 0x48, 0x53, 0x45, 0x54]

/-- Steps 1 to 7 (R259). `bad` says whether the loft reports an uncorrectable error in a range of the source. -/
def earlyChecks (w : Nat) (s : State) (l : Load) (img : List Nat) (bad : Nat → Nat → Bool) : Option ImgErr :=
  let n := fieldOf img 0x1A 2
  firstErr
    [need (decide (256 ≤ l.len ∧ l.len ≤ 2 ^ 31 ∧ l.len % 64 = 0 ∧ l.off % 64 = 0 ∧ l.field < 72 ∧ 0x580000000 ≤ l.off ∧ l.off + l.len ≤ 0x600000000)) ⟨1, 1, 0, 0⟩,
     need (!bad 0 256) ⟨23, 2, 0, 0⟩,
     need (img.take 8 == imgMagic) ⟨2, 2, 0, 0⟩,
     need (fieldOf img 0xFC 4 == crc32c (img.take 0xFC)) ⟨4, 2, 0, 0⟩,
     need (fieldOf img 8 2 == 1 && fieldOf img 12 4 == 0x100 && fieldOf img 0x1C 4 == 0x100 && zeroIn img 0x24 4 && zeroIn img 0x31 15 && zeroIn img 0xA0 52) ⟨3, 2, 0, 0⟩,
     need (fieldOf img 16 8 == l.len) ⟨5, 3, 0, 0⟩,
     need (fieldOf img 0x19 1 == bits (s.reg ID_CHIP w 0) 23 16 && (fieldOf img 0x28 8 == 0 || fieldOf img 0x28 8 == Config.serial w % 2 ^ 64)
        && (fieldOf img 0x30 1 == 0xFF || fieldOf img 0x30 1 == w)) ⟨6, 4, 0, 0⟩,
     need (fieldOf img 0x18 1 == b2n l.wafer && (if l.wafer then fieldOf img 0x20 2 == 0xFFFF else fieldOf img 0x20 2 == l.part && decide (l.part ≤ 287))) ⟨7, 4, 0, 0⟩,
     need (!bad 256 (32 * n)) ⟨23, 5, 0, 256⟩,
     need (fieldOf img 0xD4 4 == crc32c (sliceOf img 256 (32 * n))) ⟨8, 5, 0, 256⟩,
     need (tableOk l.len img) ⟨9, 5, 0, 256⟩,
     need (kindsOk l.wafer img) ⟨10, 5, 0, 256⟩,
     firstErr ((imgSects img).map fun x => firstErr
       [need (!bad x.off x.len) ⟨23, 6, x.idx, x.off⟩, need (x.crc == crc32c (sliceOf img x.off x.len)) ⟨11, 6, x.idx, x.off⟩]),
     need (!bad 0 l.len) ⟨23, 7, 0, 0⟩,
     need (sliceOf img 0xDC 32 == sha256 (digestInput img)) ⟨12, 7, 0, 0⟩]

/-- Step 8 (R259). -/
def formatChecks (l : Load) (img : List Nat) : Option ImgErr :=
  firstErr ((imgSects img).map (checkSect img l.wafer l.part) ++ [need (decide (imgObjects l.wafer img ≤ 4096)) ⟨19, 8, 0, 0⟩])

/-- Two partition scopes share a program pointer: a field holds quadrants of both (R274). -/
def State.partsMeet (s : State) (w p q : Nat) : Bool :=
  p == q || allFields.any fun f =>
    (s.fieldInPart false w p f || s.fieldInPart true w p f) && (s.fieldInPart false w q f || s.fieldInPart true w q f)

/-- Two scopes of one wafer overlap (R274). -/
def State.scopesMeet (s : State) (w sc1 p1 sc2 p2 : Nat) : Bool := sc1 != 0 || sc2 != 0 || s.partsMeet w p1 p2

/-- A partition runs nothing and has nothing queued (R260). -/
def State.partQuiet (s : State) (w p : Nat) : Bool :=
  (s.part w p).cmd.isNone && (s.part w p).cut.isEmpty && (List.range 64).all fun q => s.reg CQ_HEAD w (queueIdx p q) == s.reg CQ_TAIL w (queueIdx p q)

/-- Step 9's preconditions (R260). -/
def preChecks (w : Nat) (s : State) (l : Load) (img : List Nat) : Option ImgErr :=
  let locked := (List.range 8).any fun c =>
    (s.rd CUE_SSTAT_STATE w c == 2 || s.rd CUE_SSTAT_STATE w c == 3)
      && s.scopesMeet w (b2n l.wafer) l.part (s.rd CUE_SSTAT_SCOPE w c) (s.rd CUE_SSTAT_PART w c)
  firstErr
    [need (!locked) ⟨20, 9, 0, 0⟩,
     firstErr ((imgBlocks img).map fun b =>
       need (!s.defined w b.part || s.partState w b.part == 4 || s.partQuiet w b.part) ⟨21, 9, (match sectOf img 9 with | some x => x.idx | none => 0), b.at_⟩),
     match sectOf img 3 with
     | some x => need (s.rd NET_MGMT_PLANNER_OK w 0 == 1) ⟨22, 9, x.idx, x.off⟩
     | none => none]

/-! ## Loads -/

/-- A load runs (R263). -/
def State.loading (s : State) (w : Nat) : Bool := s.rd IMG_STAT_STATE w 0 == 1 || s.rd IMG_STAT_STATE w 0 == 2 || s.rd IMG_STAT_STATE w 0 == 5

/-- IMAGE_LOAD_START (R257, R263). -/
def imageStart (w path : Nat) (s : State) : State :=
  if s.loading w then s.raise w Leaf.imgBusy
  else
    let s1 := ghostExit w s
    let s2 := s1.putLoads w {
      start := s.now, field := s.rd IMG_CTL_FIELD w 0, off := s.reg IMG_SRC_OFF w 0, len := s.reg IMG_LEN w 0, wafer := s.rd IMG_CTL_SCOPE w 0 == 1
      part := s.rd IMG_CTL_PART w 0, autoCue := s.rd IMG_CTL_AUTO_CUE w 0 == 1, path := path }
    (s2.setReg IMG_STAT w 0 0).setReg IMG_FAIL_OFF w 0 0 |>.wr IMG_STAT_STATE w 0 1 |>.wr IMG_STAT_STEP w 0 1

def execImageLoadStart (w : WaferId) (path : PathId) (s : State) : Res := .next (imageStart w path s)

/-- IMAGE_LOAD_ABORT (R263). -/
def execImageLoadAbort (w : WaferId) (s : State) : Res := .next (imgFail w 25 s)

/-- Fail the running load with what a check reports. -/
def failLoad (w : Nat) (e : ImgErr) (s : State) : State :=
  imgFail w e.code (((s.wr IMG_STAT_SECTION w 0 e.sect).wr IMG_STAT_STEP w 0 e.step).setReg IMG_FAIL_OFF w 0 e.off)

/-- The source of a load. -/
def State.source (s : State) (w : Nat) : List Nat := s.loftBytes w (s.getLoads w).field (s.getLoads w).off (s.getLoads w).len

/-- The loft reports an uncorrectable error in part of the source: a line that is poisoned, the line that the decoder now finds bad, or a loft that does not work. -/
def State.sourceBad (s : State) (w : Nat) (bad : Option Nat) (off n : Nat) : Bool :=
  let l := s.getLoads w
  s.loftDead w l.field || !s.loftOn w l.field
    || (linesOf (l.off + off) (min n l.len)).any fun o => s.poisoned w l.field o || (match bad with | some b => b / 64 == o / 64 | none => false)

/-- Show what a load that passed step 7 has read. -/
def showDigest (w : Nat) (img : List Nat) (s : State) : State :=
  forEach (List.range 8) (s.setReg IMG_TAG w 0 (fieldOf img 0xD8 4)) fun i t => t.setReg IMG_DIGEST w i (fieldOf img (0xDC + 4 * i) 4)

/-- IMAGE_CHECK_DONE (R259, R260): steps 1 to 8 and the preconditions of step 9; then the wings of the scope are locked. -/
def imageCheck (w : Nat) (bad : Option Nat) (s0 : State) : State :=
  if s0.rd IMG_STAT_STATE w 0 ≠ 1 then s0
  else
    let l := s0.getLoads w
    let s := match bad with | some b => if l.field < 72 then loftUncorrectable w l.field (b / 64 * 64) 5 noPart s0 else s0 | none => s0
    let img := s.source w
    match earlyChecks w s l img (fun o n => s.sourceBad w bad o n) with
    | some e => failLoad w e s
    | none =>
      let s1 := loftCountRead w l.field l.len (showDigest w img s)
      match formatChecks l img with
      | some e => failLoad w e s1
      | none =>
        let s2 := (s1.wr IMG_OBJECTS_OBJECTS w 0 (imgObjects l.wafer img)).wr IMG_OBJECTS_SECTIONS w 0 (imgSects img).length
        match preChecks w s2 l img with
        | some e => failLoad w e s2
        | none =>
          let s3 := (s2.wr IMG_STAT_STATE w 0 2).wr IMG_STAT_STEP w 0 9
          let s4 := s3.putLoads w { l with digest := sliceOf img 0xDC 32 }
          s4.modCueUnits w fun u => { u with loadLock := some (b2n l.wafer, l.part) }

def execImageCheckDone (w : WaferId) (bad : Option (BitVec 35)) (s : State) : Res := .next (imageCheck w (bad.map BitVec.toNat) s)

/-! ## Expansion -/

/-- The registers that expansion resets (R256). -/
def resetObjs (img : List Nat) (wafer : Bool) (p : Nat) : List StObj :=
  if wafer then
    waferRegs.map (fun r => (r, 0)) ++ allFields.flatMap (fun f => fieldRegs.map fun r => (r, f))
      ++ allParts.flatMap (fun q => partRegs.map (fun r => (r, q)) ++ (List.range 9).map fun i => (PRT_QMASK, q * 9 + i))
  else
    partRegs.map (fun r => (r, p)) ++ (List.range 9).map (fun i => (PRT_QMASK, p * 9 + i))
      ++ allFields.flatMap fun f => if (List.range 4).all (fun k => imgQuad img p (4 * f + k)) then fieldRegs.map fun r => (r, f) else []

/-- Empty the wings copy of a partition's chart. -/
def emptyChart (w p : Nat) (s : State) : State := forEach (s.chartObjs w p) s fun o t => t.setWreg o.1 w o.2 0

/-- Stage a chart. -/
def stageChart (w : Nat) (c : ImgChart) (s : State) : State :=
  forEach c.segs.zipIdx (s.setWreg NET_SEAT_DATA w (seatIdx c.part true 0) c.header) fun x t => t.setWreg NET_SEAT_DATA w (seatIdx c.part false x.2) x.1

/-- The units that a placement covers. -/
def State.placementUnits (s : State) (w : Nat) (a : Placement) : List Nat :=
  (List.range a.count).map fun i => s.unitAt w a.field (a.quad / 2 * 12 + (a.first + i) / 12) (a.quad % 2 * 12 + (a.first + i) % 12)

/-- The instructions a core finds: 3,072 of them, those beyond N_INSTR undefined (R251). -/
def progWords (g : ImgProg) : List Word := (g.code.map (BitVec.ofNat 64)) ++ List.replicate (3072 - g.code.length) 0xFFFFFFFFFFFFFFFF

/-- Write the placements of one field into its new shadow and stage the pointer to it (R251). -/
def stagePrograms (w : Nat) (pl : List Placement) (pg : List ImgProg) (f : Nat) (s : State) : State :=
  let live := s.reg PROG_PTR w f
  let staged := s.wreg PROG_PTR w f
  let new := 1 - live % 2
  let base := s.getShadows (shadowKey w f staged)
  let fresh0 := if staged = live then [] else base.fresh
  let here := pl.filter fun a => a.field == f
  let units := here.flatMap fun a => (s.placementUnits w a).map fun u => (u, a.prog)
  let code := fun (id : Nat) => match pg.find? fun g => g.id == id with | some g => progWords g | none => []
  let placed := units.foldl (fun m x => mput m x.1 (code x.2)) base.placed
  (s.putShadows (shadowKey w f new) { placed := placed, fresh := (units.map fun x => x.1) ++ fresh0.filter fun u => !(units.any fun x => x.1 == u) }).setWreg PROG_PTR w f new

/-- Write a CONST block into its loft (R252); a staged quadrant set says where the region lies. -/
def writeConst (w : Nat) (img : List Nat) (b : ImgBlock) (s : State) : State :=
  let qs := (List.range 4).filter fun k => imgQuad img b.part (4 * b.field + k)
  let bs := sliceOf img (b.at_ + 16) b.len
  forEach (List.range 4) s fun j t =>
    let lo := max b.off (j * quarterSize)
    let hi := min (b.off + b.len) ((j + 1) * quarterSize)
    if lo < hi ∧ j < qs.length then loftWrite w b.field (quarterBase (qs.getD j 0) + (lo - j * quarterSize)) (sliceOf bs (lo - b.off) (hi - lo)) t else t

/-- Everything that expansion writes, in its order (R256, R260). -/
def expand (w : Nat) (l : Load) (img : List Nat) (s : State) : State :=
  let s1 := forEach (resetObjs img l.wafer l.part) s fun o t => t.setWreg o.1 w o.2 (o.1.resetAt o.2)
  let s2 := forEach (if l.wafer then allParts else [l.part]) s1 (emptyChart w)
  let s3 := forEach (imgRecs img) s2 fun x t => match findReg x.off with | some (r, i, _) => t.setWreg r w i x.value | none => t
  let s4 := forEach (imgCharts img) s3 (stageChart w)
  let pl := imgPlacements img
  let s5 := forEach (pl.map fun a => a.field).dedup s4 (stagePrograms w pl (imgProgs img))
  let s6 := if l.wafer then s5.setWreg ID_STRUCT_TAG w 0 (fieldOf img 0xD8 4) else s5
  forEach (imgBlocks img) s6 (writeConst w img)

/-- The digest of the last image expanded into each scope (R265, R291). A wafer image's scope holds every partition's. -/
def noteDigest (w : Nat) (l : Load) (s : State) : State :=
  s.modCueUnits w fun u =>
    if l.wafer then { u with waferDigest := l.digest, partDigest := [] }
    else { u with partDigest := mset [] u.partDigest l.part l.digest }

/-- A load completes (R260). -/
def loadDone (w : Nat) (s : State) : State :=
  let l := s.getLoads w
  let s1 := (s.wr IMG_STAT_STATE w 0 3).modCueUnits w fun u => { u with loadLock := none }
  let s2 := (noteDigest w l s1).wrSat IMG_ELAPSED_US w 0 ((s.now - l.start + 999) / 1000)
  leaveWaiting w (s2.raise w Leaf.imgDone)

/-! ## Pushes -/

/-- The active host field's code on a wafer. -/
def State.hostField (s : State) (w : Nat) : Nat := 82 + s.rd NET_SELF_HOST_FIELD w 0

/-- A slot is a member of the act the wafer stamps (NET_MEMBERS_LO, NET_MEMBERS_HI). -/
def State.inAct (s : State) (w slot : Nat) : Bool :=
  if slot < 32 then bitAt (s.reg NET_MEMBERS_LO w 0) slot else bitAt (s.reg NET_MEMBERS_HI w 0) (slot - 32)

/-- Slots that a mask names. -/
def slotsOf (mask : Nat) : List Nat := allWafers.filter fun n => bitAt mask n

/-- The packets of a push that the SMC has still to send to a slot, and those not yet acknowledged (R258). -/
def isPush (slot : Nat) (p : Packet) : Bool := p.typ == 6 && addrSlot p.dest == slot
def State.pushLeft (s : State) (w slot : Nat) : Bool :=
  let hf := s.hostField w
  (mget [] (s.getInjects (niKey w hf)).queues noPart).any (isPush slot)
    || (let st := s.getSends (sendKey w hf (slot + 64 * (s.getPushes w).dstField) 2 noPart)
        st.waiting.any (isPush slot) || st.unacked.any fun u => isPush slot u.pkt)

/-- End a push: what is not complete is failed (R258, R273). -/
def endPush (w failed : Nat) (s : State) : State :=
  let f := s.reg IMG_PUSH_FAILED w 0 ||| failed
  (((s.setReg IMG_PUSH_FAILED w 0 f).wr IMG_PUSH_STAT_STATE w 0 (if f = 0 then 2 else 3)).putPushes w {}).raise w Leaf.pushDone

/-- Stop sending: the packets of a push that have not left are withdrawn. -/
def withdrawPush (w : Nat) (s : State) : State :=
  let hf := s.hostField w
  let k := niKey w hf
  let inj := s.getInjects k
  s.putInjects k { inj with queues := mset [] inj.queues noPart ((mget [] inj.queues noPart).filter fun p => p.typ ≠ 6) }

/-- PUSH_START (R258, R273): each line of the source is read once and goes to every destination; an uncorrectable line stops the push (R350). -/
def pushStart (w : Nat) (bad : Option Nat) (s : State) : State :=
  if s.rd IMG_PUSH_STAT_STATE w 0 = 1 then s
  else
    let asked := s.reg IMG_PUSH_DST w 0 &&& notBits 36 (2 ^ w)
    let live := (slotsOf asked).filter fun n => s.inAct w n
    let failed := asked &&& notBits 36 (live.foldl (fun m n => m + 2 ^ n) 0)
    let f := s.rd IMG_CTL_FIELD w 0
    let src := s.reg IMG_SRC_OFF w 0
    let len := s.reg IMG_LEN w 0
    let df := s.rd IMG_PUSH_CTL_DST_FIELD w 0
    let d := s.reg IMG_PUSH_OFF w 0
    let s1 := ghostExit w s
    let s2 := match bad with | some b => loftUncorrectable w f (b / 64 * 64) 5 noPart s1 | none => s1
    let stop := if s2.loftDead w f ∨ s2.loftOn w f = false then some src else (linesOf src len).find? fun o => s2.poisoned w f o
    let n := match stop with | some o => o - src | none => len
    let bs := s2.loftBytes w f src n
    let hf := s2.hostField w
    let s3 := (loftCountRead w f n s2).putPushes w { left := asked, field := f, src := src, len := len, dstField := df, dstOff := d }
    let s4 := (s3.wr IMG_PUSH_STAT_STATE w 0 1).setReg IMG_PUSH_FAILED w 0 failed
    let s5 := forEach live s4 fun m t =>
      if n = 0 then t
      else forEach (segmentMsg { typ := 6, cls := 2, dest := physAddr m df 601, src := physAddr w hf 0, spart := noPart, addr := d } bs) t (enqueue w hf)
    match stop with
    | some _ => endPush w asked s5
    | none => s5

def execPushStart (w : WaferId) (bad : Option (BitVec 35)) (s : State) : Res := .next (pushStart w (bad.map BitVec.toNat) s)

/-- PUSH_ABORT (R273). -/
def pushAbort (w : Nat) (s : State) : State :=
  if s.rd IMG_PUSH_STAT_STATE w 0 ≠ 1 then s
  else
    let left := (slotsOf (s.getPushes w).left).foldl (fun m n => if s.pushLeft w n then m + 2 ^ n else m) 0
    endPush w left (withdrawPush w s)

def execPushAbort (w : WaferId) (s : State) : Res := .next (pushAbort w s)

/-- PUSH_DONE (R258): every packet of the push is acknowledged, or its destination has failed. -/
def pushDone (w : Nat) (s : State) : State :=
  if s.rd IMG_PUSH_STAT_STATE w 0 ≠ 1 || (slotsOf (s.getPushes w).left).any (fun n => s.pushLeft w n) then s else endPush w 0 s

def execPushDone (w : WaferId) (s : State) : Res := .next (pushDone w s)

end Sys2Proof.Machine
end

