-- ==== Sys2Proof/Machine/Fec.lean ====
section
/-!
DEFINITION. The forward error correction of link blocks (R175): arithmetic in GF(2^8), the four interleaved RS(136,132) codewords of a block, their
parity and their decoding.
-/
namespace Sys2Proof.Machine

/-- One doubling in GF(2^8) with x^8 + x^4 + x^3 + x^2 + 1. -/
def gfDouble (a : Nat) : Nat := if bitAt a 7 then (2 * a) % 256 ^^^ 0x1D else 2 * a

/-- Multiplication over the low `n` bits of the first factor. -/
def gfMulN : Nat → Nat → Nat → Nat
  | 0, _, _ => 0
  | n + 1, a, b => (if a % 2 = 1 then b else 0) ^^^ gfMulN n (a / 2) (gfDouble b)

def gfMul (a b : Nat) : Nat := gfMulN 8 a b

/-- α to the power `n`. -/
def gfExp (n : Nat) : Nat := iterate gfDouble n 1

/-- The inverse, a to the power 254. -/
def gfInv (a : Nat) : Nat :=
  let a2 := gfMul a a
  let a4 := gfMul a2 a2
  let a8 := gfMul a4 a4
  let a16 := gfMul a8 a8
  let a32 := gfMul a16 a16
  let a64 := gfMul a32 a32
  let a128 := gfMul a64 a64
  gfMul a128 (gfMul a64 (gfMul a32 (gfMul a16 (gfMul a8 (gfMul a4 a2)))))

/-- The coefficients of (x − α^0)(x − α^1)(x − α^2)(x − α^3) below x^4, highest first. -/
def fecGen : List Nat := [15, 54, 120, 64]

/-- One step of the division by the generator: the remainder after one more coefficient. -/
def fecStep (rem : List Nat) (b : Nat) : List Nat :=
  let fb := (b % 256) ^^^ rem.headD 0
  (List.zipWith (fun r g => r ^^^ gfMul fb g) (rem.drop 1 ++ [0]) fecGen)

/-- The four parity bytes of a codeword's 132 bytes. -/
def fecParity (bs : List Nat) : List Nat := bs.foldl fecStep [0, 0, 0, 0]

/-- The bytes of codeword `c` of a block. -/
def codeword (block : List Nat) (c : Nat) : List Nat := (List.range ((block.length + 3 - c) / 4)).map fun i => block.getD (4 * i + c) 0

/-- A block's 528 bytes with their 16 parity bytes. -/
def fecEncode (bs : List Nat) : List Nat :=
  let ps := (List.range 4).map fun c => fecParity (codeword bs c)
  bs ++ (List.range 16).map fun i => (ps.getD (i % 4) []).getD (i / 4) 0

/-- Syndrome `j` of a codeword. -/
def syndrome (cw : List Nat) (j : Nat) : Nat := cw.foldl (fun a b => gfMul (gfExp j) a ^^^ (b % 256)) 0

/-- The power of α that a locator is, below 136. -/
def locate (x : Nat) : Option Nat := (List.range 136).find? fun i => gfExp i == x

/-- The errors of a codeword: the byte index in it and the error value of each; none where it is uncorrectable (R175). -/
def fecErrors (cw : List Nat) : Option (List (Nat × Nat)) :=
  let s0 := syndrome cw 0
  let s1 := syndrome cw 1
  let s2 := syndrome cw 2
  let s3 := syndrome cw 3
  let det := gfMul s0 s2 ^^^ gfMul s1 s1
  if s0 = 0 ∧ s1 = 0 ∧ s2 = 0 ∧ s3 = 0 then some []
  else if det = 0 then
    if s0 = 0 then none
    else
      let x := gfMul s1 (gfInv s0)
      if gfMul s1 x = s2 ∧ gfMul s2 x = s3 then (locate x).map fun i => [(135 - i, s0)] else none
  else
    let di := gfInv det
    let a := gfMul di (gfMul s0 s3 ^^^ gfMul s1 s2)
    let b := gfMul di (gfMul s1 s3 ^^^ gfMul s2 s2)
    match (List.range 136).filter fun i => gfMul (gfExp i) (gfExp i) ^^^ gfMul a (gfExp i) ^^^ b == 0 with
    | [i, j] =>
      let x := gfExp i
      let y := gfExp j
      let ey := gfMul (s1 ^^^ gfMul s0 x) (gfInv (x ^^^ y))
      some [(135 - i, s0 ^^^ ey), (135 - j, ey)]
    | _ => none

/-- A received block: whether it is good, its corrected bytes, and the indices of the bytes corrected (R175). -/
structure Decoded where
  good : Bool
  bytes : List Nat
  fixed : List Nat
deriving DecidableEq, Repr

/-- Exclusive-or a value into one byte. -/
def flipByte (bs : List Nat) (i v : Nat) : List Nat := bs.set i (bs.getD i 0 ^^^ v)

def fecDecode (block : List Nat) : Decoded :=
  (List.range 4).foldl (fun d c =>
    match fecErrors (codeword block c) with
    | none => { d with good := false }
    | some es => { d with
        bytes := es.foldl (fun bs e => flipByte bs (4 * e.1 + c) e.2) d.bytes
        fixed := d.fixed ++ es.map fun e => 4 * e.1 + c }) ⟨true, block, []⟩

/-- The control header of a block (R174): the value of each field. -/
structure BlockHead where
  tags : List (Nat × Nat) := []
  nslot : Nat := 0
  bseq : Nat := 0
  ackSeq : Nat := 0
  ackK : Nat := 0
  cr0 : Nat × Nat := (0, 0)
  cr1 : Nat × Nat := (0, 0)
deriving DecidableEq, Repr

/-- The tag bits of slots from `i` up. -/
def tagBits : List (Nat × Nat) → Nat → Nat
  | [], _ => 0
  | (k, v) :: r, i => (k % 4 + v % 8 * 4) * 2 ^ (5 * i) + tagBits r (i + 1)

def BlockHead.encode (h : BlockHead) : Nat :=
  tagBits h.tags 0 + h.nslot % 32 * 2 ^ 80 + h.bseq % 4096 * 2 ^ 85 + h.ackSeq % 4096 * 2 ^ 97 + h.ackK % 4 * 2 ^ 109
    + h.cr0.1 % 8 * 2 ^ 111 + h.cr0.2 % 32 * 2 ^ 114 + h.cr1.1 % 8 * 2 ^ 119 + h.cr1.2 % 32 * 2 ^ 122

def BlockHead.decode (v : Nat) : BlockHead :=
  { tags := (List.range 16).map fun i => (bits v (5 * i + 1) (5 * i), bits v (5 * i + 4) (5 * i + 2))
    nslot := bits v 84 80, bseq := bits v 96 85, ackSeq := bits v 108 97, ackK := bits v 110 109
    cr0 := (bits v 113 111, bits v 118 114), cr1 := (bits v 121 119, bits v 126 122) }

end Sys2Proof.Machine
end

