-- ==== Sys2Proof/Machine/Network.lean ====
section
/-!
DEFINITION. The on-wafer network (R136-R170): what a router, tap or bridge does with a packet, its output arbiter, hop credits and the NI's injection
arbiter. Which way the two fly lines of each direction are numbered is log entry 14.
-/
namespace Sys2Proof.Machine

/-- The number of an element in its field. -/
def elemCode : NetElem → Nat
  | .router => 0
  | .flyTap l => 1 + l
  | .portTap p i => 16 + 2 * p + b2n i
  | .linkBridge p i => 56 + 2 * p + b2n i
  | .niBridge i => 96 + b2n i
  | .hostBridge i => 98 + b2n i

/-- The state of an act on a wafer (R218, NET_ACT_STAT). -/
def State.actState (s : State) (w act : Nat) : Nat := if act % 2 = 0 then s.rd NET_ACT_STAT_A_STATE w 0 else s.rd NET_ACT_STAT_B_STATE w 0
def State.setActState (s : State) (w act v : Nat) : State := if act % 2 = 0 then s.wr NET_ACT_STAT_A_STATE w 0 v else s.wr NET_ACT_STAT_B_STATE w 0 v

/-- The tables of an act route its packets: the act is LOCKED, LIVE or DRAINING (R155, R222). -/
def State.actRoutes (s : State) (w act : Nat) : Bool := decide (2 ≤ s.actState w act)

/-- A port takes packets: UP or DEGRADED, or held while it goes over to 8 lanes (R167, R182). -/
def State.portUp (s : State) (w p : Nat) : Bool :=
  s.rd LNK_STAT_STATE w p == 2 || s.rd LNK_STAT_STATE w p == 3 || (s.getLinks (portKey w p)).degrading

/-- The VC of a packet on a port's link (R181, R190). -/
def linkVc (port : Nat) (p : Packet) : Nat := if port < 16 then p.cls % 4 else 2 * (p.cls % 4) + p.dline % 2

/-- Flits leave a link receiver's buffer: the freed credits are owed to the sender, oldest VC first (R181). -/
def oweCredit (key vc n : Nat) (s : State) : State :=
  if n = 0 then s
  else s.modLinks key fun e => { e with
    owed := if e.owed.any fun x => x.1 == vc then e.owed.map fun x => if x.1 = vc then (vc, x.2 + n) else x else e.owed ++ [(vc, n)] }

/-- What a link bridge does to DLINE on the side-stage torus (R190): on arrival the turn from row ring to column ring clears it; on leaving over a ring's dateline
it is set. -/
def dlineAt (w : Nat) (e : NetElem) (out : Nat) (p : Packet) : Packet :=
  match e with
  | .linkBridge q true => if (q.val = 17 ∨ q.val = 19) ∧ (out = 16 ∨ out = 18) then { p with dline := 0 } else p
  | .linkBridge q false =>
    let crosses := (q.val = 16 ∧ w / 6 = 0) ∨ (q.val = 18 ∧ w / 6 = 5) ∨ (q.val = 17 ∧ w % 6 = 5) ∨ (q.val = 19 ∧ w % 6 = 0)
    if crosses then { p with dline := 1 } else p
  | _ => p

/-- The link an element receives from, if it is an inbound link bridge. -/
def bridgeIn : NetElem → Option Nat
  | .linkBridge q true => some q.val
  | _ => none

/-- The field code by which spine routers and taps route a packet: its destination field on its own wafer, else the link field of the side-stage port on
which it leaves again (R142, R217). -/
def State.routeCode (s : State) (w act dest : Nat) : Nat :=
  if addrSlot dest = w then addrField dest
  else
    let e := s.route w 5 act 54 (addrSlot dest) % 32
    let port := if e = 0 then s.route w 5 act 18 (addrSlot dest) % 32 else e
    72 + port / 2

/-- The next field along a fly line from field `f`: direction 0 east, 1 west, 2 north, 3 south (R17). -/
def nextField (f dir : Nat) : Option Nat :=
  match dir with
  | 0 => if f % 9 < 8 then some (f + 1) else none
  | 1 => if 0 < f % 9 then some (f - 1) else none
  | 2 => if 9 ≤ f then some (f - 9) else none
  | _ => if f + 9 < 72 then some (f + 9) else none

/-- The exit mask bit of a fly-line tap for a field code (R217). -/
def State.tapExits (s : State) (w act f line code : Nat) : Bool := bitAt (s.route w 2 act f (line * 2 + code / 42)) (code % 42)

/-- The spine router at which a packet leaves a fly line, within `n` fields. -/
def State.flyExit (s : State) (w act line code dir : Nat) : Nat → Nat → Option Nat
  | 0, _ => none
  | n + 1, f =>
    match nextField f dir with
    | none => none
    | some g => if s.tapExits w act g line code then some g else s.flyExit w act line code dir n g

/-- A spine that the act excludes (R150, R155). -/
def State.spineExcluded (s : State) (w act f : Nat) : Bool := (s.getActs act).noSpines.contains (w * 72 + f)

/-- What an element does with a packet: the output and whether it moves to level 1, or the discard reason (R155, R167, R217). -/
inductive Route where
  | out (n : Nat) (levelUp : Bool)
  | drop (reason : Nat)
deriving DecidableEq, Repr

/-- The routing decision of an element (R139, R142, R155, R167, R217). -/
def State.routeAt (s : State) (w f : Nat) (e : NetElem) (p : Packet) : Route :=
  let act := p.act % 2
  let code := s.routeCode w act p.dest
  match e with
  | .router =>
    let x := if code < 84 then s.route w 1 act f code else 0
    let out := x % 8
    if out = 0 then .drop 2
    else if 2 ≤ out ∧ out ≤ 5 then
      let line := (out - 2) * 2 + bits x 3 3
      match s.flyExit w act line code (out - 2) 9 f with
      | some g => if s.spineExcluded w act g then .drop 2 else .out (2 * out + bits x 3 3) (bitAt x 4 && p.level == 0)
      | none => .out (2 * out + bits x 3 3) (bitAt x 4 && p.level == 0)
    else .out (2 * out) (bitAt x 4 && p.level == 0)
  | .flyTap l => .out (b2n (s.tapExits w act f l code)) false
  | .portTap q inbound =>
    if inbound then
      let x := bits (s.route w 3 act f (q * 128 + code)) 6 0
      if x = 127 then .drop 2 else if x = f then .out 0 false else .out (2 + x) false
    else
      let x := bits (s.route w 4 act f q) 6 0
      if x = 127 then .out 1 false else .out (2 + x) false
  | .linkBridge q inbound =>
    if inbound then
      if 16 ≤ q.val then
        let x := s.route w 5 act (portField q) (addrSlot p.dest) % 32
        if addrSlot p.dest = w ∨ x = 31 then .out 0 false else if 16 ≤ x ∧ x < 20 then .out x false else .drop 2
      else .out 0 false
    else if s.portUp w q then .out 1 false else .drop 3
  | .niBridge _ => .out 0 false
  | .hostBridge _ => .out 0 false

/-- The VC of a packet at an element (R150): four VCs in port trees, eight elsewhere. -/
def vcAt (e : NetElem) (p : Packet) : Nat :=
  match e with
  | .portTap _ _ => p.cls % 4
  | .linkBridge _ _ => p.cls % 4
  | _ => 2 * (p.cls % 4) + p.level % 2

/-- A spine takes packets: it is ON and its droop gate is released (R159, R168). -/
def State.spineWorks (s : State) (w f : Nat) : Bool := s.spineOn w f && s.rd SPN_STAT_GATED w f == 0

/-- ROUTER_FORWARD (R148, R155): a packet whose header is bad, or that has no route, is discarded; any other one waits at its output. A packet of an act
that is FREE here has no route (R222). -/
def routerForward (w f : Nat) (e : NetElem) (input : Nat) (p : Packet) (ecc : Ecc) (s : State) : State :=
  if !s.spineWorks w f then s
  else
    let s1 := match ecc with | .corrected _ => s.bump SPN_ECC_CORR_COUNT w f 1 | _ => s
    let bad := match ecc with | .bad _ => true | _ => false
    let inVc := match bridgeIn e with | some q => linkVc q p | none => 0
    let drop := fun (r : Nat) =>
      let s2 := dropPacket w f r p s1
      match bridgeIn e with | some q => oweCredit (portKey w q) inVc (flitsOf p) s2 | none => s2
    if bad then drop 1
    else if !p.hcrcOk then drop 0
    else if !addrValid p.dest || !s.actRoutes w p.act then drop 2
    else
      match s1.routeAt w f e p with
      | .drop r => drop r
      | .out n up =>
        let q := dlineAt w e n (if up then { p with level := 1 } else p)
        let k := outKey w f (elemCode e) n
        let a := s1.getArbs k
        s1.putArbs k { a with queue := a.queue ++ [{ input := input, vc := vcAt e q, flits := flitsOf q, pkt := q, inVc := inVc }] }

def execRouterForward (w : WaferId) (f : FieldId) (e : NetElem) (input : BitVec 8) (p : Packet) (ecc : Ecc) (s : State) : Res :=
  .next (routerForward w f e input.toNat p ecc s)

/-! ## The output arbiter -/

/-- What waits can take the next flit time: a packet whose head has passed, or one whose VC is free and for whose whole length the receiver holds credit
(R151, R152). -/
def State.canPass (s : State) (k : Nat) (a : OutArb) (x : Waiting) : Bool :=
  x.started || (!(a.queue.any fun y => y.started && y.vc == x.vc) && s.hasCredit k x.vc x.flits)

/-- The weights of NET_ARB by class (R152, NET_ARB): 0 acts as 1. -/
def State.arbWeight (s : State) (w cls : Nat) : Nat :=
  max 1 (if cls = 1 then s.rd NET_ARB_RESP_W w 0 else if cls = 0 then s.rd NET_ARB_REQ_W w 0 else s.rd NET_ARB_BULK_W w 0)

/-- Management's share while others wait: one flit in 8, 4 or 2, or unlimited. -/
def State.mgmtShare (s : State) (w : Nat) : Nat := [8, 4, 2, 1].getD (s.rd NET_ARB_MGMT_SHARE w 0) 1

/-- Within one class, the packet of the input next after the one last served. -/
def pickInput (xs : List Waiting) (last : Nat) : Option Waiting :=
  let d := fun (x : Waiting) => (x.input + 256 - last - 1) % 256
  xs.foldl (fun b x => match b with | none => some x | some y => if d x < d y then some x else some y) none

/-- The packet that takes the next flit time, and the classes' remaining flits of the round (R152). -/
def State.arbPick (s : State) (w : Nat) (a : OutArb) (xs : List Waiting) : Option Waiting × List (Nat × Nat) :=
  match xs.find? fun x => decide (512 ≤ x.waited) with
  | some x => (some x, a.left)
  | none =>
    let mg := xs.filter fun x => x.pkt.cls == 3
    let rest := xs.filter fun x => x.pkt.cls != 3
    if !mg.isEmpty && (rest.isEmpty || decide (s.mgmtShare w ≤ a.sinceMgmt + 1)) then (pickInput mg (mget 0 a.pointer 3), a.left)
    else
      let here := [1, 0, 2].filter fun c => rest.any fun x => x.pkt.cls == c
      let fresh := here.all fun c => mget 0 a.left c == 0
      let left := if fresh then here.foldl (fun m c => mset 0 m c (s.arbWeight w c)) [] else a.left
      match here.find? fun c => mget 0 left c != 0 with
      | none => (none, left)
      | some c => (pickInput (rest.filter fun x => x.pkt.cls == c) (mget 0 a.pointer c), mset 0 left c (mget 0 left c - 1))

/-- OUTPUT_ARBITRATION (R151, R152, R154): one flit of one packet passes; with its tail flit the packet goes on. -/
def outputArbitration (w f : Nat) (e : NetElem) (out : Nat) (s : State) : State :=
  let k := outKey w f (elemCode e) out
  let a := s.getArbs k
  let ready := a.queue.filter fun x => s.canPass k a x
  if !s.spineWorks w f then s
  else
    match s.arbPick w a ready with
    | (none, _) => s
    | (some x, left) =>
      let s1 := if 512 ≤ x.waited then s.bump SPN_STARVE_ROUTER w f 1 else s
      let y : Waiting := { x with flits := x.flits - 1, started := true, waited := 0 }
      let others := (a.queue.erase x).map fun z => { z with waited := z.waited + 1 }
      let q := if y.flits = 0 then others else y :: others
      let s2 := s1.putArbs k { a with
        queue := q, left := left, pointer := mset 0 a.pointer x.pkt.cls x.input
        sinceMgmt := if x.pkt.cls = 3 then 0 else min 8 (a.sinceMgmt + 1) }
      let s3 := (s2.useCredits k x.vc 1).incWrap SPN_FLITS_COUNT w (f * 4 + x.pkt.cls % 4) 1
      let s4 := match bridgeIn e with | some q => oweCredit (portKey w q) x.inVc 1 s3 | none => s3
      if y.flits = 0 then s4.emit (.forwarded w f (elemCode e) out x.pkt) else s4

def execOutputArbitration (w : WaferId) (f : FieldId) (e : NetElem) (out : BitVec 8) (s : State) : Res :=
  .next (outputArbitration w f e out.toNat s)

/-- CREDIT_RETURN (R151): one flit has left the receiver's buffer. -/
def creditReturn (w f : Nat) (e : NetElem) (out vc : Nat) (s : State) : State :=
  let k := outKey w f (elemCode e) out
  s.putFabricCredits (k * 8 + vc) (s.usedCredits k vc - 1)

def execCreditReturn (w : WaferId) (f : FieldId) (e : NetElem) (out : BitVec 8) (vc : Fin 8) (s : State) : Res :=
  .next (creditReturn w f e out.toNat vc s)

/-! ## Injection -/

/-- The priority of a queue at the injection arbiter: the partition's live PRT_PRIO; packets of no partition compete at its reset value (log entry 14). -/
def State.injectPrio (s : State) (w spart : Nat) : Nat := if spart < 288 then s.rd PRT_PRIO_PRIO w spart else 8

/-- A faulted partition's NIs send nothing to any rank of the job, but for the drain of a command past its commit instant (R25, R401). -/
def State.mayInject (s : State) (w : Nat) (p : Packet) : Bool :=
  if p.typ = 13 ∨ 288 ≤ p.spart then true
  else
    let committed := match (s.part w p.spart).cmd with | some c => c.committed | none => false
    s.partState w p.spart != 3 || committed

/-- The head of a queue can go: it may be sent, and a port of its route has credit for it (R153, R192). -/
def State.headReady (s : State) (w f : Nat) (p : Packet) : Bool :=
  s.mayInject w p && (decide (addrSlot p.dest = w) || s.portMask w (addrSlot p.dest) p.cls == 0
    || (List.range 20).any fun i => bitAt (s.portMask w (addrSlot p.dest) p.cls) i && s.hasCredit (outKey w f 96 i) p.cls (flitsOf p))

/-- The queue that wins the next decision (R153): the oldest that has waited AGE_US, else the highest live priority, equal ones in round-robin order. -/
def State.injectWinner (s : State) (w f : Nat) : Option (Nat × Bool) :=
  let inj := s.getInjects (niKey w f)
  let qs := (inj.queues.filter fun x => match x.2.head? with | some p => s.headReady w f p | none => false).map fun x => x.1
  let age := (if s.rd NET_INJ_AGE_AGE_US w 0 = 0 then 10 else s.rd NET_INJ_AGE_AGE_US w 0) * 1000
  let old := qs.filter fun q => decide (mget 0 inj.since q + age ≤ s.now)
  let oldest := old.foldl (fun b q => match b with | none => some q | some r => if mget 0 inj.since q < mget 0 inj.since r then some q else some r) (none : Option Nat)
  match oldest with
  | some q => some (q, true)
  | none =>
    let top := qs.foldl (fun n q => max n (s.injectPrio w q)) 0
    let best := qs.filter fun q => s.injectPrio w q == top
    match best.find? fun q => decide (inj.pointer < q) with
    | some q => some (q, false)
    | none => best.head?.map fun q => (q, false)

/-- INJECTION_ARBITRATION (R153): one packet of the winner's queue enters the network. -/
def injectionArbitration (w f : Nat) (s : State) : State :=
  match s.injectWinner w f with
  | none => s
  | some (q, aged) =>
    let k := niKey w f
    let inj := s.getInjects k
    match mget [] inj.queues q with
    | [] => s
    | p :: r =>
      let s1 := if aged then s.bump SPN_STARVE_INJECT w (spineOf f) 1 else s
      let s2 := s1.putInjects k { inj with
        queues := mset [] inj.queues q r, since := mset 0 inj.since q (if r.isEmpty then 0 else s.now), pointer := q }
      streamSend w f p s2

def execInjectionArbitration (w : WaferId) (f : Fin 84) (s : State) : Res := .next (injectionArbitration w f s)

end Sys2Proof.Machine
end

