-- ==== Sys2Proof/Machine/Links.lean ====
section
/-!
DEFINITION. Links and switch planes (R14-R16, R171-R190, R200): the two ends of a cable, blocks and their retry, lane degrade, training and identity,
recalibration, and what a B72 does with a packet (R187, R188, R225, R663). When an end in FAULT is seen TRAINING is log entry 16, when an ACK goes out log
entry 17.
-/
namespace Sys2Proof.Machine

/-! ## The two kinds of link end -/

/-- The four torus neighbours, through P16 (N), P17 (E), P18 (S) and P19 (W) (R14). -/
def neighbour (w port : Nat) : Nat :=
  let a := w / 6
  let b := w % 6
  if port = 16 then (a + 5) % 6 * 6 + b else if port = 17 then a * 6 + (b + 1) % 6 else if port = 18 then (a + 1) % 6 * 6 + b else a * 6 + (b + 5) % 6

/-- The opposite side-stage port. -/
def oppositePort (p : Nat) : Nat := if p = 16 then 18 else if p = 17 then 19 else if p = 18 then 16 else 17

end Sys2Proof.Machine

namespace Sys2Proof
open Machine

/-- The key of a link end. -/
def LinkRef.key : LinkRef → Nat
  | .port w p => portKey w p
  | .chip c p => chipPortKey c p

/-- The other end of a cable (R14, R15); an uplink's lies outside the machine. -/
def LinkRef.peer : LinkRef → Option LinkRef
  | .port w p =>
    if h : p.val < 16 then some (.chip ⟨p.val, h⟩ ⟨w.val, by omega⟩)
    else some (.port (Fin.ofNat 36 (neighbour w.val p.val)) (Fin.ofNat 20 (oppositePort p.val)))
  | .chip c p => if h : p.val < 36 then some (.port ⟨p.val, h⟩ ⟨c.val, by omega⟩) else none

/-- The wafer whose LNK_CFG governs a link: that of the end itself or of its peer. Uplinks keep the reset values (log entry 18). -/
def LinkRef.cfg (l : LinkRef) : Option (Nat × Nat) :=
  match l with
  | .port w p => some (w, p)
  | .chip c p => if p.val < 36 then some (p.val, c.val) else none

/-- The VCs a link has: 8 on the side stage, 4 elsewhere (R181). -/
def LinkRef.vcs : LinkRef → Nat
  | .port _ p => if p.val < 16 then 4 else 8
  | .chip _ _ => 4

end Sys2Proof

namespace Sys2Proof.Machine

/-- A link's state as LNK_STAT.STATE or B72_PORT.STATE shows it (R208, R680). -/
def State.linkState (s : State) : LinkRef → Nat
  | .port w p => s.rd LNK_STAT_STATE w p
  | .chip c p => s.rd B72_PORT_STATE c p

/-- Change a link's state; a wafer's port raises its LINK cause (R208). -/
def setLinkState (l : LinkRef) (v : Nat) (s : State) : State :=
  if s.linkState l = v then s
  else match l with
  | .port w p => (s.wr LNK_STAT_STATE w p v).raise w (Leaf.port p)
  | .chip c p => s.wr B72_PORT_STATE c p v

/-- Record whether the peer contradicts the cabling rules. -/
def setMiscabled (l : LinkRef) (v : Bool) (s : State) : State :=
  match l with
  | .port w p => if s.rd LNK_STAT_MISCABLED w p = b2n v then s else (s.wr LNK_STAT_MISCABLED w p (b2n v)).raise w (Leaf.port p)
  | .chip c p => s.wr B72_PORT_MISCABLED c p (b2n v)

/-- Count in a wafer port's register; a B72 has none of these. -/
def bumpPort (l : LinkRef) (f : Fld) (n : Nat) (s : State) : State :=
  match l with
  | .port w p => s.bump f w p n
  | .chip _ _ => s

def State.linkCfg (s : State) (l : LinkRef) (f : Fld) : Nat :=
  match l.cfg with
  | some (w, p) => s.rd f w p
  | none => bits LNK_CFG.reset f.hi f.lo

/-- The identity an end sends (R184). -/
def State.ownIdentity (s : State) : LinkRef → Nat
  | .port w p => 1 + w.val * 4 + p.val * 256 + s.rack.planner.machineNo % 16 * 2 ^ 15
  | .chip c p => 2 + c.val * 4 + p.val * 256 + s.rd B72_ACT_STAT_MACHINE c 0 * 2 ^ 15

/-- A peer's identity contradicts R14, R15 or R16. -/
def contradicts (l : LinkRef) (ident : Nat) : Bool :=
  let kind := ident % 4
  let num := bits ident 7 2
  let port := bits ident 14 8
  match l with
  | .port w p =>
    if p.val < 16 then !(kind == 2 && num == p.val && port == w.val)
    else !(kind == 1 && num == neighbour w p && port == oppositePort p)
  | .chip c p => if p.val < 36 then !(kind == 1 && num == p.val && port == c.val) else p.val < 68 && kind != 2

/-- A port may train: its domain is ON, no software holds it down, and its wafer's straps are good (R20, R208). -/
def State.mayTrain (s : State) : LinkRef → Bool
  | .port w p => s.domOn w (432 + p) && s.rd LNK_CFG_ADMIN_DOWN w p == 0 && s.rd NET_SELF_STRAP_BAD w 0 == 0
  | .chip _ _ => true

/-- An end carries blocks: UP or DEGRADED. -/
def State.carries (s : State) (l : LinkRef) : Bool := s.linkState l == 2 || s.linkState l == 3

/-- Training starts over, with both buffers empty (R180, R184, R185). -/
def startTraining (l : LinkRef) (s : State) : State :=
  let e := s.getLinks l.key
  if !s.mayTrain l then s else setLinkState l 1 (s.putLinks l.key { recalDue := e.recalDue, lastForced := e.lastForced })

/-- The link faults (R180): its buffers are discarded and the port trains again as soon as it hears its peer. -/
def linkFault (l : LinkRef) (s : State) : State :=
  let e := s.getLinks l.key
  let s1 := s.putLinks l.key { failing := e.failing, recalDue := e.recalDue, lastForced := e.lastForced, los := e.los }
  setLinkState l 4 (bumpPort l LNK_EVENTS_FAULTS 1 s1)

/-- Hold a port down or drop it with its domain: nothing of the link remains. -/
def linkDown (l : LinkRef) (st : Nat) (s : State) : State := setLinkState l st (s.putLinks l.key {})

/-! ## Sending -/

/-- The blocks of a replay buffer that an ACK up to `seq` does not cover. -/
def unackedBlocks (bs : List Block) (seq : Nat) : List Block := bs.filter fun b => decide (2048 ≤ (seq + 4096 - b.bseq) % 4096)

/-- The next credit returns: up to two VCs, at most 31 flits each, and what is still owed (R181). -/
def nextCredits (owed : List (Nat × Nat)) : List (Nat × Nat) × List (Nat × Nat) :=
  let now := (owed.take 2).map fun x => (x.1, min 31 x.2)
  let rest := (owed.take 2).map (fun x => (x.1, x.2 - min 31 x.2)) ++ owed.drop 2
  (now, rest.filter fun x => decide (0 < x.2))

/-- Flits of one VC among some. -/
def countVc (fs : List LinkFlit) (vc : Nat) : Nat := (fs.filter fun f => f.vc.toNat == vc).length

/-- The far end holds credits for the flits (R181). -/
def LinkEnd.creditFor (e : LinkEnd) (fs : List LinkFlit) : Bool :=
  (List.range 8).all fun vc => decide (mget 0 e.sent vc + countVc fs vc ≤ 1024) || countVc fs vc == 0

/-- The 544 bytes of a block (R173-R175). -/
def blockBytes (h : BlockHead) (fs : List LinkFlit) : List Nat :=
  fecEncode ((fs.flatMap fun f => leBytes 32 f.data.toNat) ++ List.replicate (512 - 32 * fs.length) 0 ++ leBytes 16 h.encode)

/-- An identity block (R184). -/
def identityBytes (ident : Nat) : List Nat := fecEncode (List.replicate 512 0 ++ leBytes 16 (ident % 2 ^ 32 * 2 ^ 85 + 0x2A5 * 2 ^ 117))

/-- LINK_BLOCK_TX (R177-R179, R184): the replay goes on, a full buffer repeats its newest block, a training end sends its identity; else a new block takes
the flits, the acknowledgement and the credits that are due. -/
def linkTx (l : LinkRef) (fs : List LinkFlit) (s : State) : State :=
  let e := s.getLinks l.key
  if s.linkState l = 1 ∧ !e.degrading then s.emit (.block l.key (identityBytes (s.ownIdentity l)))
  else if !s.carries l || e.degrading then s
  else match e.replayAt with
  | some q =>
    match e.replay.find? fun b => b.bseq == q with
    | some b =>
      let more := e.replay.any fun x => x.bseq == (q + 1) % 4096
      (s.putLinks l.key { e with replayAt := if more then some ((q + 1) % 4096) else none }).emit (.block l.key b.bytes)
    | none => s.putLinks l.key { e with replayAt := none }
  | none =>
    if 512 ≤ e.replay.length then
      match e.replay.getLast? with
      | some b => s.emit (.block l.key b.bytes)
      | none => s
    else if 16 < fs.length || !e.creditFor fs || fs.any (fun f => decide (l.vcs ≤ f.vc.toNat)) then s
    else
      let ackNow := e.anyAccepted && (e.ackDue || decide (32 ≤ e.sinceAck))
      let (cr, rest) := nextCredits e.owed
      let h : BlockHead := {
        tags := fs.map fun f => (f.kind.toNat, f.vc.toNat), nslot := fs.length, bseq := e.nextSeq
        ackSeq := if e.nakDue || ackNow then (e.expect + 4095) % 4096 else 0
        ackK := if e.nakDue then 2 else if ackNow then 1 else 0
        cr0 := cr.getD 0 (0, 0), cr1 := cr.getD 1 (0, 0) }
      let bytes := blockBytes h fs
      let s1 := s.putLinks l.key { e with
        nextSeq := (e.nextSeq + 1) % 4096
        replay := e.replay ++ [⟨e.nextSeq, bytes⟩]
        sent := (List.range 8).foldl (fun m vc => mset 0 m vc (mget 0 m vc + countVc fs vc)) e.sent
        owed := rest
        nakDue := false
        ackDue := e.ackDue && !(e.nakDue || ackNow)
        sinceAck := if e.nakDue || ackNow then 0 else e.sinceAck }
      (if e.nakDue then bumpPort l LNK_RETRY_NAKS_SENT 1 s1 else s1).emit (.block l.key bytes)

def execLinkBlockTx (l : LinkRef) (flits : List LinkFlit) (s : State) : Res := .next (linkTx l flits s)

/-! ## Receiving -/

/-- The lane on which byte `j` of a block travels (R173, R182). -/
def LinkEnd.laneOf (e : LinkEnd) (j : Nat) : Nat := match e.half with | some h => j % 8 + 8 * h | none => j % 16

/-- Count corrected bytes by port and by lane. -/
def countFixed (l : LinkRef) (fixed : List Nat) (s : State) : State :=
  let e := s.getLinks l.key
  let s1 := s.putLinks l.key { e with
    laneCorr := fixed.foldl (fun m j => mset 0 m (e.laneOf j) (mget 0 m (e.laneOf j) + 1)) e.laneCorr
    laneBytes := e.laneBytes + (if e.half.isSome then 68 else 34) }
  let s2 := bumpPort l LNK_FEC_CORR_COUNT fixed.length s1
  match l with
  | .port w p => forEach fixed s2 fun j t => t.bump LNK_LANE_CORR_COUNT w (p.val * 16 + e.laneOf j) 1
  | .chip _ _ => s2

/-- Use a block's ACK or NAK (R177, R179). -/
def takeAck (l : LinkRef) (h : BlockHead) (s : State) : State :=
  let e := s.getLinks l.key
  if h.ackK = 1 then s.putLinks l.key { e with replay := unackedBlocks e.replay h.ackSeq }
  else if h.ackK = 2 then
    let rest := unackedBlocks e.replay h.ackSeq
    let again := match e.lastNak with | some (q, t) => q == h.ackSeq && decide (s.now < t + 200) | none => false
    let q := (h.ackSeq + 1) % 4096
    if again || !rest.any fun b => b.bseq == q then s.putLinks l.key { e with replay := rest }
    else
      bumpPort l LNK_RETRY_REPLAYS 1 (s.putLinks l.key { e with
        replay := rest, replayAt := some q, replayedSeq := q, replayRun := if e.replayedSeq = q ∧ e.replayRun ≠ 0 then e.replayRun + 1 else 1
        lastNak := some (h.ackSeq, s.now) })
  else s

/-- Credits come back (R181). -/
def takeCredit (e : LinkEnd) (c : Nat × Nat) : LinkEnd := { e with sent := mset 0 e.sent c.1 (mget 0 e.sent c.1 - c.2) }

/-- Flit `i` of a block. -/
def flitOf (bs : List Nat) (h : BlockHead) (i : Nat) : LinkFlit :=
  let t := h.tags.getD i (0, 0)
  ⟨BitVec.ofNat 2 t.1, BitVec.ofNat 3 t.2, BitVec.ofNat 256 (ofLeBytes ((bs.drop (32 * i)).take 32))⟩

/-- A good block of a link in service (R178): accepted in order, a duplicate, or ahead. -/
def takeBlock (l : LinkRef) (bs : List Nat) (s : State) : State :=
  let e := s.getLinks l.key
  let h := BlockHead.decode (ofLeBytes ((bs.drop 512).take 16))
  let behind := (e.expect + 4096 - h.bseq) % 4096
  if behind = 0 then
    let e1 : LinkEnd := { e with expect := (e.expect + 1) % 4096, anyAccepted := true, sinceAck := e.sinceAck + 1 }
    let s1 := takeAck l h (s.putLinks l.key (takeCredit (takeCredit e1 h.cr0) h.cr1))
    if h.nslot = 0 then s1 else s1.emit (.linkFlits l.key ((List.range (min 16 h.nslot)).map (flitOf bs h)))
  else if behind ≤ 2047 then takeAck l h s
  else s.putLinks l.key { e with nakDue := true }

/-- One identity block of a training end (R184): 8 identical ones in a row make the peer known. -/
def takeIdentity (l : LinkRef) (ident : Nat) (s : State) : State :=
  let e := s.getLinks l.key
  if s.linkState l ≠ 1 ∨ e.degrading then s
  else
    let run := if e.idWord = ident ∧ e.idRun ≠ 0 then e.idRun + 1 else 1
    let s1 := s.putLinks l.key { e with idWord := ident, idRun := run, peer := if 8 ≤ run then some ident else e.peer }
    if run ≠ 8 then s1
    else match l with
    | .port w p => s1.setReg LNK_PEER w p (ident % 2 ^ 19)
    | .chip c p => s1.wr B72_PORT_PEER c p (if p.val < 36 then bits ident 7 2 else bits ident 18 15)

/-- LINK_BLOCK_RX (R175, R176, R178, R184): decode, keep FEC lock, then take the block as training or service asks. -/
def linkRx (l : LinkRef) (block : List Nat) (s : State) : State :=
  let s0 := if s.linkState l = 4 then startTraining l s else s
  let e := s0.getLinks l.key
  if e.degrading ∨ (s0.linkState l ≠ 1 ∧ !s0.carries l) then s0
  else
    let d := fecDecode block
    if !d.good then
      let bad := e.badRun + 1
      bumpPort l LNK_FEC_BAD_COUNT 1 (s0.putLinks l.key { e with
        badRun := bad, goodRun := 0, locked := e.locked && decide (bad < 8), nakDue := e.nakDue || s0.carries l })
    else
      let s1 := countFixed l d.fixed (s0.putLinks l.key { e with badRun := 0, goodRun := e.goodRun + 1, locked := e.locked || decide (64 ≤ e.goodRun + 1) })
      let v := ofLeBytes ((d.bytes.drop 512).take 16)
      if !e.locked then s1
      else if s1.carries l then takeBlock l d.bytes s1
      else if bits v 126 117 = 0x2A5 ∧ bits v 84 80 = 0 then takeIdentity l (bits v 116 85) s1
      else s1

def execLinkBlockRx (l : LinkRef) (bytes : List Byte) (s : State) : Res := .next (linkRx l (bytes.map BitVec.toNat) s)

/-- ACK_DEADLINE (R178). -/
def ackDeadline (l : LinkRef) (s : State) : State :=
  let e := s.getLinks l.key
  if e.sinceAck = 0 then s else s.putLinks l.key { e with ackDue := true }

def execAckDeadline (l : LinkRef) (s : State) : Res := .next (ackDeadline l s)

/-- LINK_FAULT_REPLAY_LIMIT (R180). -/
def replayLimit (l : LinkRef) (s : State) : State :=
  if s.carries l && decide (16 ≤ (s.getLinks l.key).replayRun) then linkFault l s else s

def execLinkFaultReplayLimit (l : LinkRef) (s : State) : Res := .next (replayLimit l s)

/-- LINK_FAULT_ACK_TIMEOUT (R180). -/
def ackTimeout (l : LinkRef) (s : State) : State :=
  if s.carries l && !(s.getLinks l.key).replay.isEmpty then linkFault l s else s

def execLinkFaultAckTimeout (l : LinkRef) (s : State) : Res := .next (ackTimeout l s)

/-- LINK_LOSS_OF_SIGNAL (R24): the end hears nothing, and every lane of it has lost symbol lock. -/
def lossOfSignal (l : LinkRef) (s : State) : State :=
  if s.linkState l = 1 ∨ s.carries l then linkFault l (s.modLinks l.key fun e => { e with los := true }) else s

def execLinkLossOfSignal (e : LinkRef) (s : State) : Res := .next (lossOfSignal e s)

/-! ## Training -/

/-- IDENTITY_BLOCK (R184). -/
def execIdentityBlock (l : LinkRef) (ident : Word32) (s : State) : Res :=
  .next (takeIdentity l ident.toNat (if s.linkState l = 4 then startTraining l s else s))

/-- Lanes that the ledger names keep a port to the other half (R306, R309). -/
def State.deadHalf (s : State) : LinkRef → Option Nat
  | .port w p =>
    let lg := s.getLedgers w
    if lg.laneHalf p 0 then some 1 else if lg.laneHalf p 1 then some 0 else none
  | .chip c p => if p.val < 36 then
      let lg := s.getLedgers p.val
      if lg.laneHalf c 0 then some 1 else if lg.laneHalf c 1 then some 0 else none
    else none

/-- The lanes of a wafer's port that no LANE finding names. -/
def State.laneMask (s : State) (w p : Nat) : Nat :=
  (List.range 16).foldl (fun m i => if (s.getLedgers w).has objLane (fun o => o % 32 == p && bits o 8 5 == i) then m else m + 2 ^ i) 0

/-- LINK_TRAINED (R184, R185): credit initialisation is done, and the first block each end expects is BSEQ 0. -/
def linkTrained (l : LinkRef) (s : State) : State :=
  let e := s.getLinks l.key
  match e.peer with
  | none => s
  | some ident =>
    if s.linkState l ≠ 1 ∨ e.degrading then s
    else
      let half := s.deadHalf l
      let s1 := s.putLinks l.key { locked := true, peer := some ident, half := half, recalDue := e.recalDue, lastForced := e.lastForced }
      let s2 := setMiscabled l (contradicts l ident) s1
      let s3 := match l with
        | .port w p => (s2.wr LNK_STAT_LANE_OK w p (s2.laneMask w p)).wr LNK_STAT_HALF w p (half.getD 0)
        | .chip _ _ => s2
      setLinkState l (if half.isSome then 3 else 2) s3

def execLinkTrained (l : LinkRef) (s : State) : Res := .next (linkTrained l s)

/-- PORT_ADMIN_DOWN (R208): the port is held down, or released to train. -/
def adminDown (w p : Nat) (down : Bool) (s : State) : State :=
  let l : LinkRef := .port (Fin.ofNat 36 w) (Fin.ofNat 20 p)
  let s1 := s.wr LNK_CFG_ADMIN_DOWN w p (b2n down)
  if down then (if s1.rd LNK_STAT_STATE w p = 0 then s1 else linkDown l 5 s1)
  else if s1.rd LNK_STAT_STATE w p = 5 then startTraining l s1 else s1

def execPortAdminDown (w : WaferId) (p : PortId) (down : Bool) (s : State) : Res := .next (adminDown w p down s)

/-! ## Lanes -/

/-- Take a lane out at one end. -/
def laneOut (lane : Nat) (l : LinkRef) (s : State) : State :=
  let s1 := s.modLinks l.key fun e => { e with failing := if e.failing.contains lane then e.failing else e.failing ++ [lane] }
  match l with
  | .port w p => s1.wr LNK_STAT_LANE_OK w p (s1.rd LNK_STAT_LANE_OK w p &&& notBits 16 (2 ^ lane))
  | .chip _ _ => s1

/-- The half on which a link may go on: lanes 0 to 7 if all of them are sound, else lanes 8 to 15 (R182). -/
def LinkEnd.soundHalf (e : LinkEnd) : Option Nat :=
  if e.failing.all fun i => decide (8 ≤ i) then some 0 else if e.failing.all fun i => decide (i < 8) then some 1 else none

/-- One end leaves for 8 lanes, or faults (R182). Its buffers and sequence numbers stay. -/
def degradeEnd (half : Option Nat) (l : LinkRef) (s : State) : State :=
  match half with
  | none => linkFault l s
  | some h =>
    let s1 := s.modLinks l.key fun e => { e with half := some h, degrading := true, locked := false, goodRun := 0, badRun := 0 }
    setLinkState l 1 (bumpPort l LNK_EVENTS_DEGRADES 1 s1)

/-- A lane is failing: both ends go over to a sound half, or the port faults (R182). A lane outside the active half changes nothing more. -/
def laneFails (l : LinkRef) (lane : Nat) (s : State) : State :=
  let ends := l :: l.peer.toList
  let s1 := forEach ends s (laneOut lane)
  let e := s1.getLinks l.key
  let lanesUsed := match (s.getLinks l.key).half with | some h => lane / 8 == h | none => true
  if !s1.carries l || !lanesUsed then s1
  else
    let half := if s1.linkCfg l LNK_CFG_DEGRADE_EN = 1 ∧ e.half.isNone then e.soundHalf else none
    forEach ends s1 (degradeEnd half)

/-- LANE_SYMBOL_LOSS (R182). -/
def execLaneSymbolLoss (l : LinkRef) (lane : LaneId) (s : State) : Res := .next (laneFails l lane s)

/-- LANE_BER_CHECK (R182): each lane whose corrected bytes since the last check exceed its share of the bytes it carried is failing. -/
def berCheck (l : LinkRef) (s : State) : State :=
  let e := s.getLinks l.key
  let bad := (List.range 16).filter fun i => decide (e.laneBytes < mget 0 e.laneCorr i * 10 ^ s.linkCfg l LNK_CFG_LANE_BER_EXP)
  let s1 := s.putLinks l.key { e with laneCorr := [], laneBytes := 0 }
  forEach bad s1 fun i t => laneFails l i t

def execLaneBerCheck (l : LinkRef) (s : State) : Res := .next (berCheck l s)

/-- DEGRADE_RELOCK (R182, R185, R202): the end runs on 8 lanes and asks for a replay from the block it expects. -/
def degradeRelock (l : LinkRef) (s : State) : State :=
  let e := s.getLinks l.key
  match e.half with
  | some h =>
    if !e.degrading then s
    else
      let s1 := s.putLinks l.key { e with degrading := false, locked := true, nakDue := true, laneCorr := [], laneBytes := 0 }
      let s2 := match l with
        | .port w p => s1.wr LNK_STAT_HALF w p h
        | .chip _ _ => s1
      setLinkState l 3 s2
  | none => s

def execDegradeRelock (l : LinkRef) (s : State) : Res := .next (degradeRelock l s)

/-! ## Recalibration -/

/-- RECAL_TRIGGER (R200): the group of 4 lanes becomes due. -/
def recalTrigger (l : LinkRef) (lane : Nat) (s : State) : State :=
  s.modLinks l.key fun e => { e with recalDue := if e.recalDue.contains (lane / 4) then e.recalDue else e.recalDue ++ [lane / 4] }

def execRecalTrigger (l : LinkRef) (lane : LaneId) (s : State) : Res := .next (recalTrigger l lane s)

/-- The first due group is recalibrated. -/
def recalibrate (l : LinkRef) (s : State) : State :=
  bumpPort l LNK_EVENTS_RECAL_DONE 1 (s.modLinks l.key fun e => { e with recalDue := e.recalDue.drop 1 })

/-- RECAL_IDLE_SLOT (R200). -/
def recalIdle (l : LinkRef) (s : State) : State :=
  if (s.getLinks l.key).recalDue.isEmpty || !s.carries l then s else recalibrate l s

def execRecalIdleSlot (l : LinkRef) (s : State) : Res := .next (recalIdle l s)

/-- RECAL_FORCED (R200): no flit is lost; two forced slots on one port are at least 1 ms apart. -/
def recalForced (l : LinkRef) (s : State) : State :=
  let e := s.getLinks l.key
  let soon := match e.lastForced with | some t => decide (s.now < t + 1000000) | none => false
  if e.recalDue.isEmpty || !s.carries l || soon then s
  else bumpPort l LNK_EVENTS_RECAL_FORCED 1 (recalibrate l (s.putLinks l.key { e with lastForced := some s.now }))

def execRecalForced (l : LinkRef) (s : State) : Res := .next (recalForced l s)

/-! ## The B72 -/

/-- The state of an act on a chip (R662, R680). -/
def State.chipActState (s : State) (c act : Nat) : Nat := if act % 2 = 0 then s.rd B72_ACT_STAT_A_STATE c 0 else s.rd B72_ACT_STAT_B_STATE c 0
def State.setChipActState (s : State) (c act v : Nat) : State :=
  if act % 2 = 0 then s.wr B72_ACT_STAT_A_STATE c 0 v else s.wr B72_ACT_STAT_B_STATE c 0 v

/-- A chip's port carries traffic. -/
def State.chipPortUp (s : State) (c p : Nat) : Bool := s.rd B72_PORT_STATE c p == 2 || s.rd B72_PORT_STATE c p == 3 || (s.getLinks (chipPortKey c p)).degrading

/-- The B72 at which a far-form packet enters its machine gives it local form and the live stamp (R188, R225). -/
def enterMachine (c : Nat) (p : Packet) (s : State) : Packet :=
  if addrSlot p.dest = 36 + s.rd B72_ACT_STAT_MACHINE c 0 then
    let q := { p with dest := physAddr (addrField p.dest % 64) (addrUnit p.dest) 600, act := s.rd B72_ACT_STAT_STAMP c 0 }
    { q with hcrc := q.hcrcOf }
  else p

/-- The output port of a packet and the group it used, if its entry names a live one (R187, R663). -/
def State.chipRoute (s : State) (c act slot : Nat) : Option (Nat × Option Nat) :=
  let k := act * 64 + slot
  if s.rd B72_RT_VALID c k = 0 then none
  else
    let port := s.rd B72_RT_PORT c k
    if s.rd B72_RT_GROUP c k = 0 then (if port < 72 ∧ s.chipPortUp c port then some (port, none) else none)
    else
      let g := port % 8
      let mask := s.rd B72_UPGRP_MASK c (act * 8 + g)
      let last := s.getGroupPtr (c * 16 + act * 8 + g)
      (((List.range 32).map fun i => (last + 1 + i) % 32).find? fun i => bitAt mask i && s.chipPortUp c (36 + i)).map fun i => (36 + i, some g)

/-- B72_FORWARD (R187). -/
def b72Forward (c inp : Nat) (p : Packet) (s : State) : State :=
  if !s.chipPortUp c inp then s
  else
    let s1 := oweCredit (chipPortKey c inp) (p.cls % 4) (flitsOf p) s
    if !p.hcrcOk then s1.bump B72_EVENTS_HCRC c 0 1
    else
      let q := enterMachine c p s1
      let act := q.act % 2
      match (if 2 ≤ s1.chipActState c act then s1.chipRoute c act (addrSlot q.dest) else none) with
      | none => s1.bump B72_EVENTS_NOROUTE c 0 1
      | some (port, g) =>
        let s2 := match g with | some k => s1.putGroupPtr (c * 16 + act * 8 + k) (port - 36) | none => s1
        s2.emit (.linkPacket (36 + c) port q)

def execB72Forward (c : PlaneId) (inp : ChipPort) (p : Packet) (s : State) : Res := .next (b72Forward c inp p s)

end Sys2Proof.Machine
end

