-- ==== Sys2Proof/Machine/Power.lean ====
section
/-!
DEFINITION. The power sequencer (R450-R463, R470, R474, R475, R478, R753): domain requests and their checks, the steps of a domain, ordered take-downs,
forced transitions and supply faults, droop gates and park groups' moves. What a start does is in Machine/Bringup.lean.
-/
namespace Sys2Proof.Machine

/-! ## Membership of the acts -/

/-- An act includes a wafer. -/
def Act.hasWafer (a : Act) (w : Nat) : Bool := bitAt a.wafers w
/-- An act routes over a port of a wafer. -/
def Act.hasPort (a : Act) (w p : Nat) : Bool := a.hasWafer w && !(a.noPorts.contains (w * 20 + p)) && (decide (16 ≤ p) || bitAt a.planes p)
/-- An act includes a spine. -/
def Act.hasSpine (a : Act) (w f : Nat) : Bool := a.hasWafer w && !(a.noSpines.contains (w * 72 + f))
/-- The ports attached to the spine of field `f` (R17). -/
def attachedPorts (f : Nat) : List Nat := allPorts.filter fun p => portField p == f

/-- The act that is LIVE on a wafer. -/
def State.liveAct? (s : State) (w : Nat) : Option Nat := [0, 1].find? fun a => s.actState w a == 3
/-- A unit is in the live act. -/
def State.inLive (s : State) (w : Nat) (g : Act → Bool) : Bool := match s.liveAct? w with | some a => g (s.getActs a) | none => false
/-- The act that is not live is not FREE (R460). -/
def State.otherBusy (s : State) (w : Nat) : Bool := [0, 1].any fun a => s.actState w a != 3 && s.actState w a != 0
/-- A port is in either act of a wafer. -/
def State.portInActs (s : State) (w p : Nat) : Bool := [0, 1].any fun a => s.actState w a != 0 && (s.getActs a).hasPort w p

/-! ## The checks of a request -/

/-- The domain is on its way out of ON: it drains, or a spine waits for its children (R460, R461). -/
def State.leaving (s : State) (w d : Nat) : Bool := s.domState w d != 3 || (s.getDoms (domKey w d)).spineDown

/-- The running load or push reads or writes the loft of field `f` of wafer `w` (R257, R258, R460). -/
def State.loftLoading (s : State) (w f : Nat) : Bool :=
  let reads := s.loading w && ((s.getLoads w).field == f || (imgBlocks (s.source w)).any fun b => b.field == f)
  let pushes := allWafers.any fun v => s.rd IMG_PUSH_STAT_STATE v 0 == 1 &&
    ((v == w && (s.getPushes v).field == f) || (bitAt (s.getPushes v).left w && (s.getPushes v).dstField == f))
  reads || pushes

/-- The reason for which a request is refused; 0 where none applies (R460). -/
def State.refusal (s : State) (w d req : Nat) : Nat :=
  let down := req = 2 ∨ req = 3
  let f := if d < 288 then d / 4 else if d < 360 then d - 288 else d - 360
  if 454 < d ∨ req = 0 ∨ 3 < req then 7
  else if s.rd PWR_DOM_STAT_BLOCKED w d = 1 ∨ s.rd PWR_DOM_STAT_HALTED w d = 1 then 1
  else if 452 ≤ d then 2
  else if down ∧ 288 ≤ d ∧ d < 360 ∧ (s.inLive w (fun a => a.hasSpine w f) ∨ s.otherBusy w ∨ (attachedPorts f).any (s.portInActs w)) then 3
  else if down ∧ 432 ≤ d ∧ (s.inLive w (fun a => a.hasPort w (d - 432)) ∨ s.otherBusy w) then 3
  else if down ∧ d < 288 ∧ (s.partOfQuad w d).isSome then 4
  else if down ∧ 288 ≤ d ∧ d < 432 ∧ !(s.partsOfField w f).isEmpty then 4
  else if req ≠ 2 ∧ s.leaving w (s.parentOf w d) then 5
  else if down ∧ 360 ≤ d ∧ d < 432 ∧ s.loftLoading w f then 6
  else 0

/-- Refuse a request (R460): dropped from the latch, captured, REQ_REFUSED raised. -/
def refuseReq (w d req reason : Nat) (s : State) : State :=
  let s1 := if s.rd PWR_DOM_REFUSED_VALID w 0 = 1 then s
    else (((s.wr PWR_DOM_REFUSED_DOMAIN w 0 d).wr PWR_DOM_REFUSED_REQ w 0 req).wr PWR_DOM_REFUSED_REASON w 0 reason).wr PWR_DOM_REFUSED_VALID w 0 1
  s1.raise w Leaf.reqRefused

/-! ## The contents of domains -/

/-- Empty a spine (R458): both acts' tables of its field, its buffers and credits, and the streams of its NI. -/
def clearSpine (w f : Nat) (s : State) : State :=
  let ni := niKey w f
  let mine := fun (k : Nat) => k / 32768 == ni
  let s1 := s.withArbs (s.net.arbs.filter fun x => !mine x.1)
  let s2 := s1.withFabricCredits (s1.net.fabricCredits.filter fun x => !mine (x.1 / 8))
  let s3 := s2.putInjects ni {}
  resetRecvs (fun k => streamNi k == ni) (resetSends (fun k => streamNi k == ni) s3)

/-- The tables of a spine's elements, both acts (R217, R458). -/
def clearTables (w f : Nat) (s : State) : State :=
  s.withRegs (s.regs.filter fun x =>
    let k := Nat.unpair x.1
    let r := Nat.unpair k.2
    !(k.1 == NET_RT_DATA.id && r.1 == w && decide (1 ≤ r.2 % 8) && decide (r.2 % 8 ≤ 5) && r.2 / 16 % 128 == f))

/-- What a domain is when it reaches ON (R455, R458, R465): its initial contents and nothing older. -/
def enterOn (w d : Nat) (s : State) : State :=
  let s1 := (s.setDom w d 3).wr PWR_DOM_STAT_FAULT w d 0
  if d < 288 then
    let s2 := forEach (s1.quadUnits w d) s1 fun u t => t.initCore w (d / 4) u
    quadIdle w d (setParkReq w d (fun k => { k with smc := s2.smcWant w d }) s2)
  else if d < 360 then
    let f := d - 288
    let s2 := clearTables w f (clearSpine w f s1)
    if s2.rd BUP_STAT_PHASE w 0 < 5 then s2
    else s2.modPlanner fun p => { p with rehearsalUnits := if p.rehearsalUnits.contains (100 + w * 72 + f) then p.rehearsalUnits else p.rehearsalUnits ++ [100 + w * 72 + f] }
  else if d < 432 then zeroLoft w (d - 360) 0 0x600000000 s1
  else if d < 452 then startTraining (.port (Fin.ofNat 36 w) (Fin.ofNat 20 (d - 432))) s1
  else s1

/-- What leaves a domain with its ON state (R459, R465, R186). -/
def leaveDom (w d : Nat) (s : State) : State :=
  if d < 288 then leaveOn w d s
  else if 432 ≤ d ∧ d < 452 then linkDown (.port (Fin.ofNat 36 w) (Fin.ofNat 20 (d - 432))) 0 s
  else s

/-- What a domain loses when it is OFF (R455). -/
def loseDom (w d : Nat) (s : State) : State :=
  if d < 288 then
    (forEach (s.quadUnits w d) s fun u t => t.setCore w (d / 4) u { st := .off, part := (t.core w (d / 4) u).part }).modDoms (domKey w d) fun x => { x with gated := false }
  else if d < 360 then (clearSpine w (d - 288) s).wr SPN_STAT_GATED w (d - 288) 0
  else s

/-! ## Steps -/

/-- The sequencer itself takes the domain down: in the order of R470 for the wafer, or before its spine (R461). -/
def State.goingDown (s : State) (w d : Nat) : Bool :=
  (s.getWafers w).downSeq.isSome || (decide (d < 288 ∨ 360 ≤ d ∧ d < 452) && (s.getDoms (domKey w (s.parentOf w d))).spineDown)

/-- ON to DRAIN. -/
def startDrain (w d : Nat) (s : State) : State := (leaveDom w d s).setDom w d 4

/-- Take one domain down for a take-down of others: a domain in the middle of a step finishes it first (R470). -/
def takeDown (w d : Nat) (s : State) : State :=
  match s.domState w d with
  | 3 => startDrain w d (s.wr PWR_DOM_STAT_PENDING w d 0)
  | 1 => s.wr PWR_DOM_STAT_PENDING w d 2
  | 2 => s.wr PWR_DOM_STAT_PENDING w d 2
  | _ => s

/-- The stages in which a spine's children go down (R461, R470). -/
def spineStages (f : Nat) : List (List Nat) := [(List.range 4).map (fun k => 4 * f + k), (attachedPorts f).map (432 + ·), [360 + f]]

/-- Carry a spine's take-down on: the first stage that is not OFF yet, then the spine itself (R461). -/
def spineStep (w f : Nat) (s : State) : State :=
  let d := 288 + f
  if !(s.getDoms (domKey w d)).spineDown then s
  else match (spineStages f).find? fun ds => ds.any fun c => s.domState w c != 0 with
    | some ds => forEach ds s (takeDown w)
    | none =>
      let reset := s.rd PWR_DOM_STAT_PENDING w d = 3
      startDrain w d ((s.wr PWR_DOM_STAT_PENDING w d (if reset then 3 else 0)).modDoms (domKey w d) fun x =>
        { x with spineDown := false, downWhenIdle := false, children := if reset then x.children else [] })

/-- Start a spine's OFF or RESET: remember which children are to return, and take them down (R461). -/
def spineOff (w f req : Nat) (s : State) : State :=
  let d := 288 + f
  let up := (spineStages f).flatten.filter fun c =>
    let st := s.domState w c
    let pd := s.rd PWR_DOM_STAT_PENDING w c
    st == 3 || ((st == 1 || st == 2) && pd != 2) || (st == 4 && (pd == 1 || pd == 3))
  spineStep w f ((s.wr PWR_DOM_STAT_PENDING w d req).modDoms (domKey w d) fun x => { x with spineDown := true, children := up })

/-- The stages of the wafer's take-down (R470). -/
def waferStages : List (List Nat) :=
  [List.range 288, (List.range 20).map (432 + ·), (List.range 72).map (360 + ·), (List.range 72).map (288 + ·), [452, 453]]

/-- Carry the wafer's take-down on. -/
def downStep (w : Nat) (s : State) : State :=
  if (s.getWafers w).downSeq.isNone then s
  else match waferStages.find? fun ds => ds.any fun c => s.domState w c != 0 with
    | some ds => forEach ds s (takeDown w)
    | none => s

/-- Enter RAMP with the latched ON, or go on waiting for a place among 16 (R456, R457). Only the always-on sequencer latches a request for a host field's domain, so
HOST refuses nothing here (R460). -/
def tryRamp (w d : Nat) (s : State) : State :=
  let x := s.getDoms (domKey w d)
  let pd := s.rd PWR_DOM_STAT_PENDING w d
  if s.domState w d ≠ 0 ∨ (pd ≠ 1 ∧ pd ≠ 3) ∨ x.dwelling ∨ (s.getWafers w).downSeq.isSome ∨ 16 ≤ s.rd PWR_SEQ_STAT_RAMPING w 0 then s
  else
    let reason := s.refusal w d pd
    let s1 := s.wr PWR_DOM_STAT_PENDING w d 0
    if reason ≠ 0 ∧ reason ≠ 2 then refuseReq w d pd reason s1 else s1.setDom w d 1

/-- Places in RAMP have become free: waiting domains enter in ascending order (R457). -/
def admitWaiting (w : Nat) (s : State) : State := forEach allDomains s (tryRamp w)

/-- Take the request that a domain in OFF, ON or DRAIN holds; in RAMP and ISOL it waits for the step's end (R456). -/
def latchReq (w d req : Nat) (s : State) : State :=
  match s.domState w d with
  | 0 => if req = 2 then s.wr PWR_DOM_STAT_PENDING w d 0 else tryRamp w d (s.wr PWR_DOM_STAT_PENDING w d req)
  | 3 =>
    if 288 ≤ d ∧ d < 360 then
      let f := d - 288
      if req = 1 then
        let x := s.getDoms (domKey w d)
        if x.spineDown then
          let s1 := (s.wr PWR_DOM_STAT_PENDING w d 0).modDoms (domKey w d) fun x => { x with spineDown := false, children := [] }
          forEach x.children s1 fun c t => match t.domState w c with
            | 0 => tryRamp w c (t.wr PWR_DOM_STAT_PENDING w c 1)
            | 4 => t.wr PWR_DOM_STAT_PENDING w c 1
            | 3 => t
            | _ => t.wr PWR_DOM_STAT_PENDING w c 0
        else s
      else if (s.getDoms (domKey w d)).spineDown then s.wr PWR_DOM_STAT_PENDING w d req
      else spineOff w f req s
    else if req = 1 then s
    else startDrain w d (s.wr PWR_DOM_STAT_PENDING w d (if req = 3 then 3 else 0))
  | _ => s.wr PWR_DOM_STAT_PENDING w d req

/-- A request for a domain (R456, R460). -/
def domRequest (w d req : Nat) (s : State) : State :=
  let reason := s.refusal w d req
  if reason ≠ 0 then refuseReq w d req reason s else latchReq w d req s

def execDomainOnRequest (w : WaferId) (d : BitVec 9) (s : State) : Res := .next (domRequest w d.toNat 1 s)
def execDomainOffRequest (w : WaferId) (d : BitVec 9) (s : State) : Res := .next (domRequest w d.toNat 2 s)
def execDomainResetRequest (w : WaferId) (d : BitVec 9) (s : State) : Res := .next (domRequest w d.toNat 3 s)

/-- The end of RAMP or ISOL (R456, R457): a latched OFF or RESET takes the domain to DRAIN if it still passes its checks; otherwise `go` is the next state. -/
def moveEnd (w d : Nat) (go : State → State) (s : State) : State :=
  let pd := s.rd PWR_DOM_STAT_PENDING w d
  if s.goingDown w d then (s.wr PWR_DOM_STAT_PENDING w d 0).setDom w d 4
  else if pd = 2 ∨ pd = 3 then
    let reason := s.refusal w d pd
    if reason ≠ 0 then go (refuseReq w d pd reason (s.wr PWR_DOM_STAT_PENDING w d 0))
    else (s.wr PWR_DOM_STAT_PENDING w d (if pd = 3 then 3 else 0)).setDom w d 4
  else go (s.wr PWR_DOM_STAT_PENDING w d 0)

/-- RAMP_DONE (R457). -/
def rampDone (w d : Nat) (s : State) : State :=
  if s.domState w d ≠ 1 then s else admitWaiting w (moveEnd w d (fun t => t.setDom w d 2) s)

def execRampDone (w : WaferId) (d : DomId) (s : State) : Res := .next (rampDone w d s)

/-- The children of a spine that a RESET took down return once it is ON (R461). -/
def returnChildren (w d : Nat) (s : State) : State :=
  let cs := (s.getDoms (domKey w d)).children
  if cs.isEmpty then s
  else forEach cs (s.modDoms (domKey w d) fun x => { x with children := [] }) fun c t => domRequest w c 1 t

/-- ISOL_DONE (R458). -/
def isolDone (w d : Nat) (s : State) : State :=
  if s.domState w d ≠ 2 then s
  else moveEnd w d (fun t => returnChildren w d (enterOn w d t)) s

def execIsolDone (w : WaferId) (d : DomId) (s : State) : Res := .next (isolDone w d s)

/-- A domain reaches OFF (R455-R457): its contents are lost, its dwell runs, a latched RESET becomes an ON, and what waited for it goes on. -/
def reachOff (w d : Nat) (s : State) : State :=
  let pd := s.rd PWR_DOM_STAT_PENDING w d
  let s1 := (loseDom w d (s.setDom w d 0)).wr PWR_DOM_STAT_PENDING w d (if pd = 1 ∨ pd = 3 then 1 else 0)
  let s2 := s1.modDoms (domKey w d) fun x => { x with dwelling := true }
  if d < 288 ∨ (360 ≤ d ∧ d < 452) then spineStep w (s2.parentOf w d - 288) s2 else s2

/-- OFF_DWELL_DONE (R457). -/
def dwellDone (w d : Nat) (s : State) : State :=
  if (s.getDoms (domKey w d)).dwelling = false then s
  else tryRamp w d (s.modDoms (domKey w d) fun x => { x with dwelling := false })

def execOffDwellDone (w : WaferId) (d : DomId) (s : State) : Res := .next (dwellDone w d s)

/-- A spine that its field's retirement blocked goes down once an act that excludes it is LIVE and the other act is FREE (R753). -/
def retireSpines (w : Nat) (s : State) : State :=
  forEach allFields s fun f t =>
    let x := t.getDoms (domKey w (288 + f))
    if x.downWhenIdle ∧ !x.spineDown ∧ t.domState w (288 + f) = 3 ∧ (t.liveAct? w).isSome ∧ !t.inLive w (fun a => a.hasSpine w f) ∧ !t.otherBusy w then
      spineOff w f 2 t
    else t

/-! ## Forced transitions and faults -/

/-- One domain is forced to OFF (R461): its latch is cleared and nothing of its contents stays. -/
def forceOne (w d : Nat) (s : State) : State :=
  if s.domState w d = 0 then s.wr PWR_DOM_STAT_PENDING w d 0
  else
    let s1 := (loseDom w d ((leaveDom w d (s.wr PWR_DOM_STAT_PENDING w d 0)).setDom w d 0)).modDoms (domKey w d) fun x =>
      { x with dwelling := true, spineDown := false, children := [] }
    if d = 452 + s1.rd NET_SELF_HOST_FIELD w 0 then pcieLost w s1 else s1

/-- The domains below a domain (R450). -/
def State.below (s : State) (w d : Nat) : List Nat :=
  if 288 ≤ d ∧ d < 360 then (spineStages (d - 288)).flatten
  else if d = 454 then allDomains.filter fun c => c != 454
  else if 452 ≤ d ∧ d = 452 + s.rd NET_SELF_HOST_FIELD w 0 then List.range 452
  else []

/-- Force a domain and everything below it down (R461, R478). The always-on domain has no state of R455. -/
def forceDown (w d : Nat) (s : State) : State :=
  let s1 := forEach (s.below w d) s (forceOne w)
  admitWaiting w (if d = 454 then s1 else forceOne w d s1)

/-- Every domain but the always-on one is forced down, in the order of R470. -/
def forceAll (w : Nat) (s : State) : State := forEach waferStages.flatten s (forceOne w)

/-- The running command of a partition's job is cut on every wafer (R79). -/
def cutJob (w p : Nat) (s : State) : State := forEach ((w, p) :: s.peersOf w p) s fun x t => cutRunning x.1 x.2 t

/-- Record a supply fault (R462, R463). -/
def recordFault (w d kind volt : Nat) (s : State) : State :=
  let day := 86400000000000
  let x := s.getDoms (domKey w d)
  let times := s.now :: x.faultTimes.filter fun t => s.now < t + day
  let s1 := (s.putDoms (domKey w d) { x with faultTimes := times }).wr PWR_DOM_STAT_FAULTS_24H w d (min 3 times.length)
  let s2 := s1.bump PWR_FAULTS_COUNT w 0 1
  let s3 := if s2.rd PWR_FAULT_CAP_VALID w 0 = 1 then s2
    else ((((s2.wr PWR_FAULT_CAP_DOMAIN w 0 d).wr PWR_FAULT_CAP_KIND w 0 kind).wr PWR_FAULT_CAP_VOLT w 0 volt).wr PWR_FAULT_CAP_VALID w 0 1).setReg
      PWR_FAULT_TIME w 0 (s2.tbNow w)
  s3.raise w Leaf.supplyFault

/-- A finding whose signature the specification does not give (R316). -/
def runtimeOpen (w ty kind ob : Nat) (s : State) : State :=
  let (sig, s1) := s.fresh
  runtimeFinding w ty kind ob (sig % 2 ^ 32) s1

/-- What follows a fault of a quadrant, a spine, a loft or a port (R463). -/
def afterFault (w d : Nat) (s : State) : State :=
  let n := (s.getDoms (domKey w d)).faultTimes.length
  let retry := fun (t : State) => t.modDoms (domKey w d) fun x => { x with retryOwed := true }
  if d < 288 then (if 2 ≤ n then runtimeOpen w objQuad 18 (d / 4 + d % 4 * 128) s else retry s)
  else if d < 360 then (if 2 ≤ n then runtimeOpen w objSpine 18 (d - 288) s else retry s)
  else
    let s1 := if 432 ≤ d then setLinkState (.port (Fin.ofNat 36 w) (Fin.ofNat 20 (d - 432))) 4 s else s
    if 3 ≤ n then s1.wr PWR_DOM_STAT_HALTED w d 1 else retry s1

/-- A partition holds a quadrant that is blocked: DOMAIN_BLOCKED is raised once for it (R464). -/
def raiseBlocked (w d was : Nat) (s : State) : State :=
  if d < 288 ∧ was = 0 ∧ s.rd PWR_DOM_STAT_BLOCKED w d = 1 ∧ (s.partOfQuad w d).isSome then s.raise w Leaf.domainBlocked else s

/-- A supply fault of a domain below the host fields (R79, R461-R463, R474). -/
def supplyFault (w d kind volt : Nat) (s : State) : State :=
  let s1 := forEach (s.partsOfDom w d) s (cutJob w)
  let s2 := recordFault w d kind volt s1
  let s3 := (forceDown w d s2).wr PWR_DOM_STAT_FAULT w d 1
  -- during bring-up the fault fails the phase's test of the domain (R308)
  if s3.rd BUP_STAT_PHASE w 0 < 5 then s3 else raiseBlocked w d (s.rd PWR_DOM_STAT_BLOCKED w d) (afterFault w d s3)

/-- SUPPLY_FAULT_RETRY (R463): the SMC requests the domain ON; a spine only once an act that excludes it has applied (R229). -/
def faultRetry (w d : Nat) (s : State) : State :=
  let x := s.getDoms (domKey w d)
  if !x.retryOwed ∨ s.domState w d ≠ 0 ∨ (288 ≤ d ∧ d < 360 ∧ s.inLive w fun a => a.hasSpine w (d - 288)) then s
  else domRequest w d 1 (s.putDoms (domKey w d) { x with retryOwed := false })

def execSupplyFaultRetry (w : WaferId) (d : DomId) (s : State) : Res := .next (faultRetry w d s)

/-! ## Supplies and droop gates (R76, R78) -/

/-- SUPPLY_SETTLED: every ON domain lies within 5 mV of its new supply. -/
def execSupplySettled (w : WaferId) (s : State) : Res := .next (s.wr PWR_OPP_STAT_IN_TRANSITION w 0 0)

/-- DROOP_GATE_ENGAGE. -/
def gateEngage (w d : Nat) (s0 : State) : State :=
  let s := accrue w s0
  if s.domState w d ≠ 3 then s
  else if d < 288 then
    if (s.getDoms (domKey w d)).gated then s
    else ((s.modDoms (domKey w d) fun x => { x with gated := true }).wr PWR_QRATE_GATED w d 1).bump PWR_GATE_EVENTS_COUNT w 0 1
  else if d < 360 then
    if s.rd SPN_STAT_GATED w (d - 288) = 1 then s else (s.wr SPN_STAT_GATED w (d - 288) 1).bump PWR_GATE_EVENTS_COUNT w 0 1
  else s

/-- DROOP_GATE_RELEASE. -/
def gateRelease (w d : Nat) (s0 : State) : State :=
  let s := accrue w s0
  if d < 288 then s.modDoms (domKey w d) fun x => { x with gated := false }
  else if d < 360 then s.wr SPN_STAT_GATED w (d - 288) 0
  else s

def execDroopGateEngage (w : WaferId) (d : DomId) (s : State) : Res := .next (gateEngage w d s)
def execDroopGateRelease (w : WaferId) (d : DomId) (s : State) : Res := .next (gateRelease w d s)

/-! ## Park groups (R466, R468) -/

def execParkDone (w : WaferId) (q : QuadId) (k : Fin 9) (s : State) : Res := .next (parkDone w q k s)
def execUnparkDone (w : WaferId) (q : QuadId) (k : Fin 9) (s : State) : Res := .next (unparkDone w q k s)

/-- GATE_WAIT_CLEAR: a waiting GATE request proceeds once every core of its group qualifies. -/
def execGateWaitClear (w : WaferId) (q : QuadId) (s : State) : Res := .next (evalPark w q s)

end Sys2Proof.Machine
end

