-- ==== Sys2Proof/Machine/Fix.lean ====
section
/-!
DEFINITION. Fixed-point logarithm and power of two with 32 fraction bits, for the stress hours and the drift fit of R555, whose precision the specification leaves open
(log entry 20), and sorting of short lists.
-/
namespace Sys2Proof.Machine

/-- The integer part of the logarithm to base 2, searching `n` bits. -/
def ilog2 : Nat → Nat → Nat
  | 0, _ => 0
  | n + 1, v => if v < 2 then 0 else ilog2 n (v / 2) + 1

/-- `n` fraction bits of the logarithm of a mantissa with 32 fraction bits, most significant first. -/
def logBits : Nat → Nat → Nat → Nat
  | 0, _, acc => acc
  | n + 1, m, acc =>
    let m2 := m * m / 2 ^ 32
    if 2 ^ 33 ≤ m2 then logBits n (m2 / 2) (2 * acc + 1) else logBits n m2 (2 * acc)

/-- The logarithm to base 2 of `v` ≥ 1, with 32 fraction bits. -/
def log2Fix (v : Nat) : Nat :=
  let k := ilog2 256 v
  k * 2 ^ 32 + logBits 32 (v * 2 ^ 32 / 2 ^ k) 0

/-- 2 to the powers 1/2, 1/4, 1/8 and so on, with 32 fraction bits. -/
def rootsOfTwo : List Nat :=
  [6074001000, 5107605667, 4683695048, 4485121744, 4389014833, 4341736423, 4318288544, 4306612134,
   4300785774, 4297875550, 4296421177, 4295694175, 4295330720, 4295149004, 4295058149, 4295012722,
   4294990009, 4294978653, 4294972974, 4294970135, 4294968716, 4294968006, 4294967651, 4294967473,
   4294967385, 4294967340, 4294967318, 4294967307, 4294967302, 4294967299, 4294967297, 4294967297]

/-- 2 to a fraction `f` / 2^32, with 32 fraction bits. -/
def exp2Bits (f : Nat) : Nat :=
  (rootsOfTwo.zipIdx).foldl (fun m x => if bitAt f (31 - x.2) then m * x.1 / 2 ^ 32 else m) (2 ^ 32)

/-- 2 to the power `x` / 2^32, with 32 fraction bits; powers above 2^64 stop there. -/
def exp2Fix (x : Int) : Nat :=
  let i := x / (2 ^ 32 : Nat)
  let m := exp2Bits (x % ((2 ^ 32 : Nat) : Int)).toNat
  if 64 < i then 2 ^ 96 else if 0 ≤ i then m * 2 ^ i.toNat else m / 2 ^ (-i).toNat

/-- Insert into a list sorted by a key. -/
def insertBy {α : Type} (key : α → Nat) (x : α) : List α → List α
  | [] => [x]
  | y :: r => if key x < key y then x :: y :: r else y :: insertBy key x r

/-- Sort by a key; equal keys keep their order. -/
def sortBy {α : Type} (key : α → Nat) (xs : List α) : List α := xs.foldl (fun r x => insertBy key x r) []

end Sys2Proof.Machine
end

