-- ==== Sys2Proof/Machine/Capping.lean ====
section
/-!
DEFINITION. Power capping and energy accounting (R471, R481-R505): the limits of a wafer's cap, the cap loop, the droop and current guards, the charging of energy and
the telemetry snapshot. Energies are in units of 10 pJ, so that 10^7 units in a loop period of 100 µs are 1 W.
-/
namespace Sys2Proof.Machine

def State.modMeters (s : State) (k : Nat) (g : Meter → Meter) : State := s.putMeters k (g (s.getMeters k))

/-! ## The cap -/

/-- The IBCs of a wafer that are lost. -/
def State.ibcsLost (s : State) (w : Nat) : Nat := ((List.range 4).filter fun i => s.rd PWR_IBC_FAULT w i == 1).length

/-- The limits in force: value, source and reason, in the order of R481. -/
def State.capLimits (s : State) (w : Nat) : List (Nat × Nat × Nat) :=
  let lost := s.ibcsLost w
  [(s.rd PWR_CAP_CAP_W w 0, 0, s.rd PWR_CAP_REASON w 0)]
    ++ (if s.rd NET_MGMT_STATIC_CAP w 0 = 1 then [((s.getWafers w).planCap * 9 / 10, 1, 0)] else [])
    ++ (if 3 ≤ lost then [(6500, 2, 0)] else if lost = 2 then [(13000, 2, 0)] else [])
    ++ [(20000, 3, 0)]

/-- The lowest limit; the first of equal ones. -/
def lowestLimit : List (Nat × Nat × Nat) → Nat × Nat × Nat
  | [] => (20000, 3, 0)
  | [x] => x
  | x :: r => let y := lowestLimit r; if y.1 < x.1 then y else x

/-- Bring the effective cap up to date; a change of its value or source is journalled and raised (R483). -/
def capUpdate (w source clamped : Nat) (s0 : State) : State :=
  let s := accrue w s0
  let x := lowestLimit (s.capLimits w)
  let old := s.rd PWR_CAP_EFF_EFF_W w 0
  let was := s.rd PWR_CAP_EFF_LIMIT w 0
  let s1 := ((s.wr PWR_CAP_EFF_EFF_W w 0 x.1).wr PWR_CAP_EFF_LIMIT w 0 x.2.1).wr PWR_CAP_EFF_REASON w 0 x.2.2
  if x.1 = old ∧ x.2.1 = was then s1
  else
    (s1.journal w 3 source 1 clamped 0 [x.1 + old * 2 ^ 16, x.2.1 + x.2.2 * 16, s.rd PWR_CAP_PLAN_ID w 0] []).raise w Leaf.capChanged

/-- A write of PWR_CAP (R482). A plan value that comes by the TWI target is taken as an RMC's (log entry 21). -/
def capWrite (w path v : Nat) (s : State) : State :=
  let asked := bits v 15 0
  let cap := max 1500 (min 20000 asked)
  let r := bits v 18 16
  let reason := if r = 0 ∨ r = 3 ∨ r = 4 then r else 0
  let s1 := ((s.wr PWR_CAP_CAP_W w 0 cap).wr PWR_CAP_REASON w 0 reason).wr PWR_CAP_PLAN_ID w 0 (bits v 31 20)
  let s2 := if path = 1 then s1.modWafers w fun x => { x with planCap := cap } else s1
  capUpdate w path (b2n (decide (cap ≠ asked))) s2

def execCapWrite (w : WaferId) (path : PathId) (v : Word32) (s : State) : Res := .next (capWrite w path v.toNat s)

/-- IBC_FAULT (R471, R481). -/
def ibcFault (w i : Nat) (s : State) : State :=
  if s.rd PWR_IBC_FAULT w i = 1 then s
  else capUpdate w 3 0 (((s.wr PWR_IBC_OK w i 0).wr PWR_IBC_FAULT w i 1).raise w Leaf.ibcFault)

def execIbcFault (w : WaferId) (i : Fin 4) (s : State) : Res := .next (ibcFault w i s)

/-! ## Draws -/

/-- The full dense FP8 draw of a wafer at a point, in watts (R484). -/
def fullDraw (point : Nat) : Nat := if point = 0 then 13420 else if point = 1 then 19750 else 28310

/-- The declared draw of a partition, in units a period, from its configuration word and its number of quadrants (R484). -/
def declared (cfg quads point : Nat) : Nat := bits cfg 6 0 * quads * fullDraw point * 10000000 / 28800

/-- The standing draw: overhead averaged over the last 10 ms (R484). -/
def Meter.standingDraw (m : Meter) : Nat := if m.standing.isEmpty then 0 else m.standing.foldl (· + ·) 0 / m.standing.length

/-- The applied supply of a quadrant at a point: the point's supply plus the trim, clamped (R72). -/
def State.supplyAt (s : State) (w q point : Nat) : Nat :=
  let base : Int := if point = 0 then 550 else if point = 1 then 620 else 700
  let trim := toInt 8 (if point = 0 then s.rd PWR_QTRIM_TRIM_L w q else if point = 1 then s.rd PWR_QTRIM_TRIM_N w q else s.rd PWR_QTRIM_TRIM_H w q)
  (max 550 (min 700 (base + trim))).toNat

/-- The target supply of a domain, in millivolts (R450). -/
def State.targetSupply (s : State) (w d : Nat) : Nat :=
  let point := s.rd PWR_OPP_STAT_POINT w 0
  match domKind d with
  | 0 => s.supplyAt w d point
  | 1 => if point = 0 then 550 else if point = 1 then 620 else 700
  | 2 => 1100
  | 3 => 750
  | 4 => 800
  | _ => 750

/-- The current limit of a domain, in milliamperes (R453). -/
def currentLimit (d : Nat) : Nat := [150000, 60000, 40000, 60000, 30000, 5000].getD (domKind d) 0

/-! ## The charging of energy -/

/-- Divide an amount by weights; what does not divide goes to the last of them. -/
def splitBy (total : Nat) (ws : List (Nat × Nat)) : List (Nat × Nat) :=
  let sum := ws.foldl (fun n x => n + x.2) 0
  if sum = 0 then []
  else
    let shares := ws.map fun x => (x.1, total * x.2 / sum)
    let rest := total - shares.foldl (fun n x => n + x.2) 0
    match shares.reverse with
    | [] => []
    | (k, v) :: r => ((k, v + rest) :: r).reverse

/-- The account of a partition number: 0 where it names no defined partition (R491). -/
def State.account (s : State) (w p : Nat) : Nat := if p < 288 ∧ s.defined w p then p + 1 else 0
/-- The account of a quadrant's holder. -/
def State.holder (s : State) (w q : Nat) : Nat := match s.partOfQuad w q with | some p => p + 1 | none => 0
/-- A quarter that a curtain zeroes is charged to the curtained partition, which holds it still. -/
def State.fieldShares (s : State) (w f : Nat) : List (Nat × Nat) := (List.range 4).map fun k => (s.holder w (4 * f + k), 1)

/-- To whom a domain's energy is charged (R491). -/
def State.chargeOf (s : State) (w : Nat) (x : EnergySample) (e : Nat) : List (Nat × Nat) :=
  let d := x.dom.val
  let tr := x.traffic.map fun t => (s.account w t.1.toNat, t.2.toNat)
  let busy := decide (0 < tr.foldl (fun n y => n + y.2) 0)
  match domKind d with
  | 0 => [(s.holder w d, e)]
  | 1 => if busy then splitBy e tr else splitBy e (s.fieldShares w (d - 288))
  | 2 =>
    let idle := min x.idle.toNat e
    if busy then splitBy (e - idle) tr ++ splitBy idle (s.fieldShares w (d - 360)) else splitBy e (s.fieldShares w (d - 360))
  | 3 => if busy then splitBy e tr else [(0, e)]
  | _ => [(0, e)]

/-- Add to an account's heading: energy not yet integrated. -/
def addAcc (m : Meter) (a h v : Nat) : Meter := { m with acc := mset 0 m.acc (a * 8 + h) (mget 0 m.acc (a * 8 + h) + v) }

/-- The energy of one sample: the measured one, the previous one for up to 3 missing samples, then the limit's (R503). -/
def State.sampleEnergy (s : State) (w : Nat) (x : EnergySample) : Nat :=
  let m := s.getMeters w
  let d := x.dom.val
  if !x.missing then x.volt.toNat * x.cur.toNat
  else if mget 0 m.missed d < 3 then mget 0 m.last d
  else currentLimit d * s.targetSupply w d

/-- Charge one domain's sample under its headings (R491, R492). -/
def chargeSample (w : Nat) (x : EnergySample) (s : State) : State :=
  let d := x.dom.val
  let e := s.sampleEnergy w x
  let m := s.getMeters w
  let lost := decide (x.missing = true ∧ mget 0 m.missed d = 3)
  let leak := if 4 ≤ domKind d then e else min x.leak.toNat e
  let mem := if domKind d = 0 then min x.mem.toNat (e - leak) else 0
  let main := if domKind d = 0 then 0 else domKind d + 1
  let parts := s.chargeOf w x e
  let m1 := parts.foldl (fun m y =>
    let l := if e = 0 then 0 else y.2 * leak / e
    let k := if e = 0 then 0 else y.2 * mem / e
    let m2 := addAcc (addAcc (if 4 ≤ domKind d then m else addAcc m y.1 main (y.2 - l - k)) y.1 1 k) y.1 5 (if 4 ≤ domKind d then y.2 else l)
    { m2 with period := mset 0 m2.period y.1 (mget 0 m2.period y.1 + y.2), sample := mset 0 m2.sample y.1 (mget 0 m2.sample y.1 + y.2) }) m
  let m3 := { m1 with last := mset 0 m1.last d e, missed := mset 0 m1.missed d (if x.missing then mget 0 m1.missed d + 1 else 0) }
  let s1 := s.putMeters w m3
  let s2 := if x.missing then s1
    else ((s1.wr PWR_DOM_MEAS_VOLT w d x.volt.toNat).wr PWR_DOM_MEAS_CURRENT w d x.cur.toNat).wr PWR_DOM_MEAS_TEMP w d x.temp.toNat
  if lost then s2.raise w Leaf.sensorLost else s2

/-- ENERGY_SAMPLE: the samples of one instant. -/
def energySample (w bus : Nat) (ibcs : List Nat) (xs : List EnergySample) (s : State) : State :=
  let s1 := forEach ((List.range 4).zip ibcs) (s.wr PWR_BUS_BUS w 0 bus) fun x t => t.wr PWR_IBC_OUT_W w x.1 x.2
  forEach xs (s1.modMeters w fun m => { m with sample := [] }) (chargeSample w)

def execEnergySample (w : WaferId) (bus : BitVec 16) (ibcs : List (BitVec 16)) (xs : List EnergySample) (s : State) : Res :=
  .next (energySample w bus.toNat (ibcs.map BitVec.toNat) xs s)

/-- ENERGY_INTEGRATE: whole millijoules enter the counters and fractions stay (R491). -/
def energyIntegrate (w : Nat) (s : State) : State :=
  let m := s.getMeters w
  let unit := 100000000
  let s1 := s.putMeters w { m with acc := m.acc.filterMap fun x => if x.2 % unit = 0 then none else some (x.1, x.2 % unit) }
  forEach m.acc s1 fun x t =>
    let mj := x.2 / unit
    let a := x.1 / 8
    let h := x.1 % 8
    if mj = 0 then t
    else
      let t1 := t.incWrap TEL_WE_MJ w h mj
      if a = 0 then t1.incWrap TEL_WE_OVERHEAD_MJ w 0 mj
      else (t1.incWrap TEL_PE_MJ w (a * 64 + h) mj).incWrap TEL_PE_TOTAL_COUNT w (a * 64) mj

def execEnergyIntegrate (w : WaferId) (s : State) : Res := .next (energyIntegrate w s)

/-! ## The cap loop -/

/-- A group of a wafer: its quadrant and its number in it. -/
abbrev Group := Nat × Nat

def Group.key (g : Group) : Nat := g.1 * 9 + g.2

/-- A group runs: its quadrant is ON, and it is neither parked nor moving. -/
def State.groupRuns (s : State) (w : Nat) (g : Group) : Bool :=
  s.domState w g.1 == 3 && s.groupDepth w g.1 g.2 == 0 && !bitAt (s.rd PWR_PARK_MOVING w g.1) g.2 && !bitAt (s.getParks (parkKey w g.1)).wanted g.2

/-- The groups of a partition. -/
def State.groupsOf (s : State) (w p : Nat) : List Group := (s.quads w p).flatMap fun q => (List.range 9).map fun k => (q, k)

/-- Every core of the group is idle outside any command. -/
def State.groupIdle (s : State) (w : Nat) (g : Group) : Bool := (s.groupUnits w g.1 g.2).all fun u => (s.core w (g.1 / 4) u).part.isNone

def State.groupSince (s : State) (w : Nat) (g : Group) : Nat := mget 0 (s.getParks (parkKey w g.1)).since g.2

/-- The running groups of a partition in the order in which the loop parks them (R486): idle ones, then the longest-running first. -/
def State.parkOrder (s : State) (w p : Nat) : List Group :=
  let gs := (s.groupsOf w p).filter (s.groupRuns w)
  gs.filter (s.groupIdle w) ++ sortBy (s.groupSince w) (gs.filter fun g => !s.groupIdle w g)

/-- The groups of a partition that the cap loop holds, the longest-held first. -/
def State.capHeld (s : State) (w p : Nat) : List Group :=
  sortBy (fun g => mget 0 (s.getMeters w).heldSince (Group.key g)) ((s.groupsOf w p).filter fun g => bitAt (s.getParks (parkKey w g.1)).cap g.2)

/-- Park a group for the cap loop, and release one. -/
def capPark (w : Nat) (g : Group) (s : State) : State :=
  setParkReq w g.1 (fun x => { x with cap := x.cap ||| 2 ^ g.2 }) (s.modMeters w fun m => { m with heldSince := mset 0 m.heldSince (Group.key g) s.now })
def capRelease (w : Nat) (g : Group) (s : State) : State :=
  setParkReq w g.1 (fun x => { x with cap := x.cap &&& notBits 9 (2 ^ g.2) }) (s.modMeters w fun m => { m with heldSince := mset 0 m.heldSince (Group.key g) 0 })

/-- What the loop weighs of a partition in one period: its draw, its declared draw, its weight, its running groups, and the draw of one of them. -/
structure Load1 where
  part : Nat
  draw : Nat
  decl : Nat
  weight : Nat
  running : Nat
  held : Nat
deriving DecidableEq, Repr

def Load1.unit (x : Load1) : Nat := if x.running = 0 then 0 else x.draw / x.running
def Load1.demand (x : Load1) : Nat := x.draw + x.held * x.unit

/-- The allotment at level `lam` (R485). -/
def Load1.allot (lam : Nat) (x : Load1) : Nat := max x.decl (min x.demand (lam * x.weight))

/-- The largest level below `2 ^ n` whose allotments fit the budget, found bit by bit. -/
def waterLevel (xs : List Load1) (budget : Nat) : Nat → Nat → Nat
  | 0, lam => lam
  | n + 1, lam => let try_ := lam + 2 ^ n
    waterLevel xs budget n (if xs.foldl (fun t x => t + x.allot try_) 0 ≤ budget then try_ else lam)

/-- The partitions of a wafer as the loop weighs them, with declared draws scaled to fit the budget (R485). The scale is 1 when they fit. -/
def State.loads (s : State) (w point : Nat) (draws : List (Nat × Nat)) : List Load1 :=
  (allParts.filter fun p => s.defined w p).map fun p =>
    { part := p, draw := mget 0 draws (p + 1), decl := declared (s.reg PWR_PART_CFG w p) (s.quads w p).length point
      weight := max 1 (s.rd PWR_PART_CFG_WEIGHT w p), running := ((s.groupsOf w p).filter (s.groupRuns w)).length, held := (s.capHeld w p).length }

def scaleDecl (xs : List Load1) (budget : Nat) : List Load1 :=
  let sum := xs.foldl (fun n x => n + x.decl) 0
  if sum ≤ budget then xs else xs.map fun x => { x with decl := x.decl * budget / sum }

/-- The setpoint S, in watts (R485). -/
def State.setpoint (s : State) (w : Nat) : Nat := s.rd PWR_CAP_EFF_EFF_W w 0 - s.rd PWR_LOOP_HEADROOM_W w 0

/-- Park the groups that step 1 of R486 asks for, at most `left` of them. -/
def parkOver (w : Nat) : List (Load1 × Nat) → Nat → State → State
  | [], _, s => s
  | (x, a) :: r, left, s =>
    let n := if a < x.draw ∧ 0 < x.unit then (x.draw - a + x.unit - 1) / x.unit else 0
    let gs := (s.parkOrder w x.part).take (min n left)
    parkOver w r (left - gs.length) (forEach gs s (capPark w))

/-- Release the groups that step 2 of R486 allows, at most `left` of them. -/
def releaseUnder (w hyst : Nat) : List (Load1 × Nat) → Nat → State → State
  | [], _, s => s
  | (x, a) :: r, left, s =>
    let m := s.getMeters w
    let under := decide (x.draw + hyst < a)
    let run := if under then mget 0 m.below x.part + 1 else 0
    let s1 := s.putMeters w { m with below := mset 0 m.below x.part (min run 3) }
    let room := a - hyst / 2 - x.draw
    let n := if 3 ≤ run then (if x.unit = 0 then x.held else room / x.unit) else 0
    let gs := (s1.capHeld w x.part).take (min n left)
    releaseUnder w hyst r (left - gs.length) (forEach gs s1 (capRelease w))

/-- No running group stays parked beyond DWELL (R486): the partition's longest-running group takes its place. -/
def dwellSwap (w p : Nat) (s : State) : State :=
  let limit := s.rd PWR_LOOP_DWELL w 0 * 10000
  forEach ((s.capHeld w p).filter fun g => decide (mget 0 (s.getMeters w).heldSince (Group.key g) + limit ≤ s.now)) s fun g t =>
    let t1 := match sortBy (t.groupSince w) ((t.groupsOf w p).filter (t.groupRuns w)) with
      | h :: _ => capPark w h t
      | [] => t
    capRelease w g t1

/-- The groups that each guard holds (PWR_GUARDS), and those of park-hottest and the junction limit (THM_HOT_STAT). -/
def guardSync (w : Nat) (s : State) : State :=
  let ks := s.pow.parks.filter fun e => e.1 / 288 == w
  let n := fun (g : ParkQ → Nat) => ks.foldl (fun t e => t + popCount 9 (g e.2)) 0
  (((s.wr PWR_GUARDS_DROOP w 0 (n fun x => x.droop)).wr PWR_GUARDS_CURRENT w 0 (n fun x => x.cur)).wr THM_HOT_STAT_HOT_GROUPS w 0 (n fun x => x.hot)).wr
    THM_HOT_STAT_JLIM_GROUPS w 0 (n fun x => x.jlim)

/-- Show what the loop holds (PWR_CAP_EFF.BINDING, PWR_PART_ALLOT.PARKED). -/
def loopSync (w : Nat) (xs : List (Load1 × Nat)) (s : State) : State :=
  let any := s.pow.parks.any fun e => e.1 / 288 == w && e.2.cap != 0
  forEach xs (s.wr PWR_CAP_EFF_BINDING w 0 (b2n any)) fun x t =>
    (t.wrSat PWR_PART_ALLOT_ALLOT_W w x.1.part (x.2 / 10000000)).wr PWR_PART_ALLOT_PARKED w x.1.part (t.capHeld w x.1.part).length

/-- Weigh the partitions: allotments at the given point from the given draws, and whether the declared draws had to be scaled (R485). -/
def State.allotments (s : State) (w point : Nat) (draws : List (Nat × Nat)) : List (Load1 × Nat) × Bool :=
  let budget := s.setpoint w * 10000000 - (s.getMeters w).standingDraw
  let raw := s.loads w point draws
  let xs := scaleDecl raw budget
  let lam := waterLevel xs budget 48 0
  (xs.map fun x => (x, x.allot lam), decide (budget < raw.foldl (fun n x => n + x.decl) 0))

/-- CAP_LOOP_PERIOD (R485, R486). -/
def capLoop (w : Nat) (s0 : State) : State :=
  let s := accrue w s0
  let m := s.getMeters w
  let ovh := mget 0 m.period 0
  let total := m.period.foldl (fun n x => n + x.2) 0
  let s1 := s.putMeters w { m with standing := (ovh :: m.standing).take 100 }
  let r := s1.allotments w (s1.rd PWR_OPP_STAT_POINT w 0) m.period
  let s2 := if r.2 then s1.raise w Leaf.floorShort else s1
  let hyst := if s2.rd PWR_LOOP_HYST_W w 0 = 0 then 300 else s2.rd PWR_LOOP_HYST_W w 0
  let s3 := releaseUnder w (hyst * 10000000) r.1 64 (parkOver w r.1 256 s2)
  let s4 := forEach r.1 s3 fun x t => dwellSwap w x.1.part t
  let s5 := loopSync w r.1 s4
  let s6 := (s5.wrSat PWR_DRAW_DRAW_W w 0 (total / 10000000)).wrSat PWR_DRAW_SETPOINT_W w 0 (s5.setpoint w)
  s6.modMeters w fun m => { m with period := [] }

def execCapLoopPeriod (w : WaferId) (s : State) : Res := .next (capLoop w s)

/-- ENVELOPE_STEP (R487): the last sample's draws, at the rate of a period, go through steps 1 and 3 of R486. -/
def envelopeStep (w : Nat) (s : State) : State :=
  let m := s.getMeters w
  let total : Nat := m.sample.foldl (fun n x => n + x.2) 0
  if total ≤ 20000 * 1000000 then s
  else
    let r := s.allotments w (s.rd PWR_OPP_STAT_POINT w 0) (m.sample.map fun x => (x.1, x.2 * 10))
    loopSync w r.1 (((parkOver w r.1 256 s).bump PWR_GUARDS_ENVELOPE w 0 1).raise w Leaf.envelope)

def execEnvelopeStep (w : WaferId) (s : State) : Res := .next (envelopeStep w s)

/-- What the loop does at the instant a raise of the point applies while it binds (R488): draws and declared draws are scaled to the new point. -/
def pointRaise (w old new : Nat) (s : State) : State :=
  if new ≤ old ∨ s.rd PWR_CAP_EFF_BINDING w 0 = 0 then s
  else
    let draws := (s.getMeters w).period.map fun x => (x.1, if x.1 = 0 then x.2 else x.2 * fullDraw new / fullDraw old)
    let r := s.allotments w new draws
    loopSync w r.1 (parkOver w r.1 256 s)

/-! ## The guards (R489) -/

/-- The highest running groups of a quadrant, at most `n`. -/
def State.topGroups (s : State) (w q n : Nat) : Nat :=
  ((((List.range 9).reverse).filter fun k => s.groupRuns w (q, k)).take n).foldl (fun m k => m ||| 2 ^ k) 0

/-- DROOP_GUARD_SAMPLE. -/
def droopSample (w q volt : Nat) (s : State) : State :=
  let x := s.getParks (parkKey w q)
  let target := s.targetSupply w q
  let low := decide (volt + s.rd PWR_DROOP_CFG_MARGIN_MV w 0 < target)
  let s1 := s.modParks (parkKey w q) fun y => { y with low := low, good := decide (target ≤ volt + 20) }
  if s.domState w q = 3 ∧ ((low = true ∧ x.low = true) ∨ volt ≤ 500) then
    let g := s1.topGroups w q 2
    guardSync w (setParkReq w q (fun y => { y with droop := y.droop ||| g, guardAt := if g = 0 then y.guardAt else some s.now }) s1)
  else s1

def execDroopGuardSample (w : WaferId) (q : QuadId) (volt : BitVec 12) (s : State) : Res := .next (droopSample w q volt.toNat s)

/-- One group fewer: the lowest, which was parked last. -/
def dropLow (m : Nat) : Nat := match lowBit? 9 m 0 with | some k => m &&& notBits 9 (2 ^ k) | none => m

/-- DROOP_GUARD_RELEASE. -/
def droopRelease (w q : Nat) (s : State) : State :=
  if (s.getParks (parkKey w q)).good then guardSync w (setParkReq w q (fun y => { y with droop := dropLow y.droop }) s) else s

def execDroopGuardRelease (w : WaferId) (q : QuadId) (s : State) : Res := .next (droopRelease w q s)

/-- CURRENT_GUARD_SAMPLE. -/
def currentSample (w q cur : Nat) (s : State) : State :=
  let s1 := s.modParks (parkKey w q) fun y => { y with cool := decide (cur < 120000) }
  if s.domState w q = 3 ∧ 140000 < cur then
    let g := s1.topGroups w q 1
    guardSync w (setParkReq w q (fun y => { y with cur := y.cur ||| g, guardAt := if g = 0 then y.guardAt else some s.now }) s1)
  else s1

def execCurrentGuardSample (w : WaferId) (q : QuadId) (cur : BitVec 20) (s : State) : Res := .next (currentSample w q cur.toNat s)

/-- CURRENT_GUARD_RELEASE. -/
def currentRelease (w q : Nat) (s : State) : State :=
  if (s.getParks (parkKey w q)).cool then guardSync w (setParkReq w q (fun y => { y with cur := dropLow y.cur }) s) else s

def execCurrentGuardRelease (w : WaferId) (q : QuadId) (s : State) : Res := .next (currentRelease w q s)

/-! ## Telemetry (R505) -/

/-- The per-partition counters: each register and its number of copies. -/
def telRegs : List (Reg × Nat) :=
  [(TEL_REASON_TIME, 7), (TEL_REASON_GTIME, 7), (TEL_PE, 6), (TEL_PE_TOTAL, 1), (TEL_OPS, 1), (TEL_SLOTS, 1), (TEL_BAR_WAIT, 1), (TEL_CORE_WAIT, 1), (TEL_BAR_CMDS, 1),
   (TEL_BAR_LAST, 36)]

/-- TEL_SNAPSHOT: every counter of the partition, at one instant. A number that names no partition snapshots zeros. -/
def telSnapshot (w p : Nat) (s0 : State) : State :=
  let s := accrue w s0
  let s1 := (s.wr TEL_SEL_PART w 0 p).setReg TEL_SNAP_TIME w 0 (s.tbNow w)
  forEach telRegs s1 fun r t => forEach (List.range r.2) t fun i t => t.setReg r.1 w i (if p < 288 then s.reg r.1 w ((p + 1) * 64 + i) else 0)

def execTelSnapshot (w : WaferId) (p : BitVec 9) (s : State) : Res := .next (telSnapshot w p.toNat s)

/-- A partition's counters start again from zero (R493). -/
def telReset (w p : Nat) (s : State) : State :=
  forEach telRegs s fun r t => forEach (List.range r.2) t fun i t => t.setReg r.1 w ((p + 1) * 64 + i) 0

/-! ## Barrier balance (R495) -/

/-- A wafer's PLAN cap changes by an order of the RMC. -/
def planCapTo (w cap : Nat) (s : State) : State :=
  let r := s.rd PWR_CAP_REASON w 0
  let n := s.rd PWR_CAP_PLAN_ID w 0
  capWrite w 1 (cap + r * 2 ^ 16 + n * 2 ^ 20) (s.putPlans w { s.getPlans w with rack := cap, written := cap, reason := r, planNo := n })

/-- BARRIER_BALANCE: the RMC moves at most 250 W of PLAN cap from each wafer of a job to one other, up to 20,000 W. -/
def barrierBalance (to_ : Nat) (from_ : List (Nat × Nat)) (s : State) : State :=
  if s.rack.planner.barrierBalance = false ∨ s.rack.planner.haveActive = false then s
  else forEach from_ s fun x t =>
    let n := min (min x.2 250) (min (20000 - t.rd PWR_CAP_CAP_W to_ 0) (t.rd PWR_CAP_CAP_W x.1 0 - 1500))
    if x.1 = to_ ∨ n = 0 then t
    else planCapTo to_ (t.rd PWR_CAP_CAP_W to_ 0 + n) (planCapTo x.1 (t.rd PWR_CAP_CAP_W x.1 0 - n) t)

def execBarrierBalance (dest : WaferId) (sources : List (WaferId × BitVec 8)) (s : State) : Res :=
  .next (barrierBalance dest (sources.map fun x => (x.1.val, x.2.toNat)) s)

end Sys2Proof.Machine
end

