-- ==== Sys2Proof/Machine/Thermal.lean ====
section
/-!
DEFINITION. A wafer's heat and wear (R539-R557): junction sensors, the junction limit, park-hottest, the request of a rotation, ghost light and its warming load, and
the handshake-delay monitors with the prediction of remaining life. Temperatures are in sixteenths of a degree. Log entry 20 names what the rules leave open here.
-/
namespace Sys2Proof.Machine

def ageKey (w m : Nat) : Nat := w * 1152 + m
def State.modAgeMons (s : State) (k : Nat) (g : AgeMon → AgeMon) : State := s.putAgeMons k (g (s.getAgeMons k))
def State.modAgeQs (s : State) (k : Nat) (g : AgeQ → AgeQ) : State := s.putAgeQs k (g (s.getAgeQs k))
def State.modThermChs (s : State) (k : Nat) (g : ThermCh → ThermCh) : State := s.putThermChs k (g (s.getThermChs k))

def limit85 : Nat := 1360
def limit95 : Nat := 1520

/-! ## Sensors -/

/-- The median of at most three readings; the mean of two. -/
def medianOf (xs : List Nat) : Option Nat :=
  match sortBy id xs with
  | [] => none
  | [a] => some a
  | [a, b] => some ((a + b) / 2)
  | _ :: b :: _ => some b

def inRange (t : Nat) : Bool := decide (t ≤ 2400)

/-- A sub-sensor is valid (R540): within its range, and within 15 °C of the median of the others that are in range. -/
def subValid (ts : List Nat) (i : Nat) : Bool :=
  let t := ts.getD i 4095
  let others := (ts.zipIdx.filter fun x => x.2 ≠ i && inRange x.1).map fun x => x.1
  inRange t && match medianOf others with
    | some m => decide (t ≤ m + 240) && decide (m ≤ t + 240)
    | none => true

def quadTemps (x : QuadTemp) : List Nat := [x.t0.toNat, x.t1.toNat, x.t2.toNat, x.t3.toNat]

/-- A quadrant's Tj: its highest valid sub-sensor, or 85 °C with none (R539, R540). -/
def quadTj (x : QuadTemp) : Nat :=
  let ok := (List.range 4).filter (subValid (quadTemps x))
  if ok.isEmpty then limit85 else ok.foldl (fun m i => max m ((quadTemps x).getD i 0)) 0

def State.tj (s : State) (w q : Nat) : Nat := s.rd THM_Q_TJ w q

/-- The hottest quadrant of a field; the lowest of equal ones. -/
def State.hottest (s : State) (w f : Nat) : Nat :=
  (List.range 4).foldl (fun b k => if s.tj w (4 * f + b) < s.tj w (4 * f + k) then k else b) 0

/-- Show what holds a quadrant's groups (THM_Q). -/
def heatSync (w q : Nat) (s : State) : State :=
  let x := s.getParks (parkKey w q)
  guardSync w ((s.wr THM_Q_HOT w q (b2n (x.hot != 0))).wr THM_Q_JLIM w q (b2n (x.jlim != 0)))

/-- Stress of one sample in 2^-32 of a microsecond (R555): 100 µs times 2^((Tj - 50 °C)/10 °C) and the point's factor. -/
def stressOf (tj point : Nat) : Nat :=
  let x : Int := ((tj : Int) - 800) * (2 ^ 32 : Nat) / 160
  100 * exp2Fix x * (if point = 0 then 5 else if point = 1 then 10 else 22) / 10

/-- The quadrant has a group that is not parked. -/
def State.quadRuns (s : State) (w q : Nat) : Bool := s.domState w q == 3 && (s.rd PWR_PARK_RETAIN w q ||| s.rd PWR_PARK_GATE w q) != 0x1FF

/-- Take one quadrant's sample: Tj, SENSOR_FAIL at the first invalid sub-sensor, and stress. -/
def quadSample (w : Nat) (x : QuadTemp) (s : State) : State :=
  let q := x.quad.val
  let ok := (List.range 4).foldl (fun n i => n + b2n (subValid (quadTemps x) i) * 2 ^ i) 0
  let k := parkKey w q
  let a := s.getAgeQs k
  let s1 := (s.wr THM_Q_TJ w q (quadTj x)).wr THM_Q_SENSORS_OK w q ok
  let s2 := if ok ≠ 15 ∧ !a.sensorBad then s1.raise w Leaf.sensorFail else s1
  s2.putAgeQs k { a with
    sensorBad := decide (ok ≠ 15), tjSum := a.tjSum + (quadTj x), tjCount := a.tjCount + 1
    stress := a.stress + if s.quadRuns w q then stressOf (quadTj x) (s.rd PWR_OPP_STAT_POINT w 0) else 0 }

/-- The junction limit parks every running group of a quadrant (R541). -/
def junctionLimit (w q : Nat) (s : State) : State :=
  let run := s.topGroups w q 9
  let x := s.getParks (parkKey w q)
  if s.domState w q ≠ 3 then s
  else
    let s1 := if x.jlim = 0 then (s.bump THM_HOT_STAT_JEVENTS w 0 1).raise w Leaf.junction else s
    heatSync w q (setParkReq w q (fun y => { y with jlim := y.jlim ||| run }) s1)

/-- THERMAL_SAMPLE (R539-R541, R555). -/
def thermalSample (w : Nat) (qs : List QuadTemp) (fs : List FieldTemp) (s : State) : State :=
  let s1 := forEach qs s (quadSample w)
  let s2 := forEach fs s1 fun x t => (t.wr THM_CH_STAT_SPINE_TJ w x.field x.spine.toNat).wr THM_CH_STAT_LOFT_T w x.field x.loft.toNat
  let s3 := forEach allFields s2 fun f t => t.wr THM_CH_STAT_HOTTEST w f (t.hottest w f)
  let s4 := forEach (qs.map fun x => x.quad.val) s3 fun q t => if limit85 ≤ t.tj w q then junctionLimit w q t else t
  forEach fs s4 fun x t =>
    if limit85 ≤ x.spine.toNat ∨ limit95 ≤ x.loft.toNat then junctionLimit w (4 * x.field.val + t.hottest w x.field) t else t

def execThermalSample (w : WaferId) (qs : List QuadTemp) (fs : List FieldTemp) (s : State) : Res := .next (thermalSample w qs fs s)

/-! ## Park-hottest -/

def State.hotC (s : State) (w : Nat) : Nat := s.rd THM_LIMITS_HOT_C w 0 * 16
def State.coolC (s : State) (w : Nat) : Nat := (s.rd THM_LIMITS_HOT_C w 0 - s.rd THM_LIMITS_HYST_C w 0) * 16

/-- The partition of a quadrant, if rotation is enabled for it. -/
def State.rotatingPart (s : State) (w q : Nat) : Option Nat :=
  match s.partOfQuad w q with
  | some p => if s.rd THM_ROT_ENABLE w p = 1 then some p else none
  | none => none

/-- Ask for an early rotation of a quadrant's partition (R544). -/
def askRotation (w f q : Nat) (s : State) : State :=
  match s.rotatingPart w q with
  | none => s
  | some p =>
    let s1 := s.modParts (partKey w p) fun x => { x with rotationDue := true, earlyRotation := true }
    s1.modThermChs (fieldKey w f) fun c => { c with askedAt := some (c.askedAt.getD s.now) }

/-- One more group of the hottest quadrant parks (R542). -/
def hotStep (w f q : Nat) (s : State) : State :=
  let run := s.topGroups w q 1
  let first := (List.range 4).all fun k => (s.getParks (parkKey w (4 * f + k))).hot == 0
  if run = 0 then s
  else
    let s1 := if first then s.raise w Leaf.hotspot else s
    heatSync w q (setParkReq w q (fun y => { y with hot := y.hot ||| run }) s1)

/-- One group of the channel unparks: of park-hottest first, then of the junction limit (R541, R542). -/
def hotRelease (w f : Nat) (s : State) : State :=
  match (List.range 4).find? fun k => (s.getParks (parkKey w (4 * f + k))).hot != 0 with
  | some k => heatSync w (4 * f + k) (setParkReq w (4 * f + k) (fun y => { y with hot := dropLow y.hot }) s)
  | none => match (List.range 4).find? fun k => (s.getParks (parkKey w (4 * f + k))).jlim != 0 with
    | some k => heatSync w (4 * f + k) (setParkReq w (4 * f + k) (fun y => { y with jlim := dropLow y.jlim }) s)
    | none => s

/-- PARK_HOTTEST_EVAL: one evaluation of one channel (R542, R544). -/
def parkHottest (w f : Nat) (s : State) : State :=
  let q := 4 * f + s.hottest w f
  let t := s.tj w q
  let key := fieldKey w f
  let c := s.getThermChs key
  let ms10 := 10000000
  if s.hotC w ≤ t then
    let s1 := s.putThermChs key { c with coolSince := none }
    let rotates := s.rd THM_CH_CFG_MODE w f = 1 ∧ (List.range 4).any (fun k => (s.rotatingPart w (4 * f + k)).isSome)
    if rotates then
      let s2 := askRotation w f q s1
      let late := match c.askedAt with | some a => decide (a + ms10 ≤ s.now) | none => false
      if s.hotC w + 32 ≤ t ∨ late = true then hotStep w f q s2 else s2
    else hotStep w f q s1
  else
    let s1 := s.putThermChs key { c with askedAt := none }
    if t < s.coolC w then
      match c.coolSince with
      | none => s1.putThermChs key { coolSince := some s.now }
      | some a => if a + ms10 ≤ s.now then hotRelease w f (s1.putThermChs key { coolSince := some s.now }) else s1
    else s1.putThermChs key {}

def execParkHottestEval (w : WaferId) (f : FieldId) (s : State) : Res := .next (parkHottest w f s)

/-- ROTATION_DUE (R546, R548): only the lead's Serving Engine rotates a job of several wafers, and not while no RMC is active. -/
def rotationDue (w p : Nat) (s : State) : State :=
  if !s.defined w p || s.rd THM_ROT_ENABLE w p == 0 || !s.isLead w p then s
  else if !(s.peersOf w p).isEmpty && s.rd NET_MGMT_PLANNER_OK w 0 == 0 then
    (s.bump THM_ROT_STAT_SKIPPED w p 1).modPart w p fun x => { x with lastRotation := s.now }
  else s.modPart w p fun x => { x with rotationDue := true }

def execRotationDue (w : WaferId) (p : PartId) (s : State) : Res := .next (rotationDue w p s)

/-! ## Ghost light -/

/-- The wafer is idle (R549). -/
def State.waferIdle (s : State) (w : Nat) : Bool :=
  bitAt (s.rd BUP_STAT_READY w 0) 4
    && (allParts.all fun p => !s.defined w p || s.partState w p == 3 || s.partState w p == 4 || s.partQuiet w p)
    && ((List.range 8).all fun c => let st := s.rd CUE_SSTAT_STATE w c; !(decide (1 ≤ st) && decide (st ≤ 4)))
    && !s.loading w && s.rd IMG_PUSH_STAT_STATE w 0 != 1 && s.rd DBG_STAT_HALTED w 0 == 0

/-- GHOST_LIGHT_ENTER (R549). -/
def ghostEnter (w : Nat) (s : State) : State :=
  if s.rd THM_GHOST_ENABLE w 0 = 0 ∨ s.rd THM_GHOST_STAT_STATE w 0 = 2 ∨ s.waferIdle w = false then s
  else
    let s1 := ((s.wr THM_GHOST_STAT_STATE w 0 2).bump THM_GHOST_STAT_ENTRIES w 0 1).wr TMC_REQ_VALVE_PCT w 0 25
    forEach (List.range 288) s1 fun q t => setParkReq w q (fun k => { k with ghost := 0x1FF, ghostGate := 0 }) t

def execGhostLightEnter (w : WaferId) (s : State) : Res := .next (ghostEnter w s)

/-- The groups in the order in which they are taken to warm (R550): quadrants that no partition holds, then held ones in ascending partition number. -/
def State.warmOrder (s : State) (w : Nat) : List Group :=
  let on := (List.range 288).filter fun q => s.domState w q == 3
  let free := on.filter fun q => (s.partOfQuad w q).isNone
  let held := allParts.flatMap fun p => if s.defined w p then on.filter fun q => s.quadOf false w p q else []
  (free ++ held).flatMap fun q => (List.range 9).map fun k => (q, k)

/-- Start and stop warming a group. -/
def warmStart (w : Nat) (g : Group) (s : State) : State :=
  (setParkReq w g.1 (fun x => { x with ghost := x.ghost &&& notBits 9 (2 ^ g.2), smc := x.smc &&& notBits 9 (2 ^ g.2) }) s).putWarming w (s.getWarming w ++ [Group.key g])
def warmStop (w : Nat) (g : Group) (s : State) : State :=
  (setParkReq w g.1 (fun x => { x with ghost := x.ghost ||| 2 ^ g.2, smc := x.smc ||| (s.smcWant w g.1 &&& 2 ^ g.2) }) s).putWarming w ((s.getWarming w).filter (· ≠ Group.key g))

/-- The wafer's draw of the last sample and what ghost light may draw, in watts (R550). -/
def State.sampleDraw (s : State) (w : Nat) : Nat := (s.getMeters w).sample.foldl (fun n x => n + x.2) 0 / 1000000
def State.ghostLimit (s : State) (w : Nat) : Nat := min ((s.getMeters w).standingDraw / 10000000 + 3000) (s.setpoint w)

/-- GHOST_WARM_ADJUST (R550). -/
def warmAdjust (w : Nat) (s : State) : State :=
  if s.rd THM_GHOST_STAT_STATE w 0 ≠ 2 then s
  else
    let floor := s.rd THM_GHOST_FLOOR_C w 0 * 16
    let on := (List.range 288).filter fun q => s.domState w q == 3
    let cold := on.any fun q => decide (s.tj w q < floor)
    let hot := !on.isEmpty && decide ((floor + 48) * on.length < on.foldl (fun n q => n + s.tj w q) 0)
    let warm := s.getWarming w
    let above := decide (s.ghostLimit w < s.sampleDraw w)
    let free := (s.warmOrder w).filter fun g => !warm.contains (Group.key g)
    let more := if cold && !above && decide (s.sampleDraw w < s.ghostLimit w) then free.take 8 else []
    let less := if above || (hot && !cold) then (warm.reverse.take 8).map fun k => ((k / 9, k % 9) : Group) else []
    let s1 := forEach less (forEach more s (warmStart w)) (warmStop w)
    let miss := cold && more.isEmpty
    let s2 := (s1.wr THM_GHOST_STAT_WARM_GROUPS w 0 (s1.getWarming w).length).wr THM_GHOST_STAT_FLOOR_MISS w 0 (b2n miss)
    if miss && s.rd THM_GHOST_STAT_FLOOR_MISS w 0 == 0 then s2.raise w Leaf.ghostFloor else s2

def execGhostWarmAdjust (w : WaferId) (s : State) : Res := .next (warmAdjust w s)

/-- GHOST_WARM_ROTATE: as many groups warm as before, the next ones in the order (R550). -/
def warmRotate (w : Nat) (s : State) : State :=
  if s.rd THM_GHOST_STAT_STATE w 0 ≠ 2 then s
  else
    let warm := s.getWarming w
    let order := s.warmOrder w
    let fresh := order.filter fun g => !warm.contains (Group.key g)
    let after := fresh.filter fun g => match warm.getLast? with | some k => decide (k < Group.key g) | none => true
    let next := (after ++ fresh.filter fun g => !after.contains g).take warm.length
    let old := (warm.take next.length).map fun k => ((k / 9, k % 9) : Group)
    forEach next (forEach old s (warmStop w)) (warmStart w)

def execGhostWarmRotate (w : WaferId) (s : State) : Res := .next (warmRotate w s)
def execGhostWake (w : WaferId) (s : State) : Res := .next (ghostExit w s)

/-! ## Ageing -/

/-- Something disturbs a sample in a quadrant (R554). -/
def State.disturbed (s : State) (w q : Nat) : Bool :=
  let x := s.getParks (parkKey w q)
  s.domState w q != 3 || s.rd PWR_OPP_STAT_IN_TRANSITION w 0 == 1 || (s.getDoms (domKey w q)).gated
    || (match x.guardAt with | some t => decide (s.now < t + 1000000) | none => false)
    || s.rd PWR_PARK_MOVING w q != 0

/-- AGE_SAMPLE_DUE (R554): the sample starts, or waits. -/
def ageDue (w m : Nat) (s : State) : State :=
  if s.disturbed w (m / 4) || (s.getAgeMons (ageKey w m)).running then s
  else s.modAgeMons (ageKey w m) fun x => { x with running := true, forced := false, disturbed := false }

def execAgeSampleDue (w : WaferId) (m : Fin 1152) (s : State) : Res := .next (ageDue w m s)

/-- AGE_SAMPLE_FORCED (R554). -/
def ageForced (w m : Nat) (s : State) : State :=
  if s.domState w (m / 4) ≠ 3 || (s.getAgeMons (ageKey w m)).running then s
  else (s.bump AGE_STAT_FORCED w 0 1).modAgeMons (ageKey w m) fun x => { x with running := true, forced := true, disturbed := s.disturbed w (m / 4) }

def execAgeSampleForced (w : WaferId) (m : Fin 1152) (s : State) : Res := .next (ageForced w m s)

/-- Drift in parts per million, limited to what AGE_MON holds (R553). -/
def driftPpm (transit ref : Nat) : Int :=
  if ref = 0 then 0 else max (-524288) (min 524287 (((transit : Int) - ref) * 1000000 / ref))

/-- Record a sample of a monitor. -/
def ageRecord (w m transit : Nat) (bad : Bool) (s : State) : State :=
  let k := ageKey w m
  let x := s.getAgeMons k
  let s1 := s.putAgeMons k { x with transit := transit, lastAt := s.now, running := false, forced := false, disturbed := bad }
  let s2 := ((s1.wr AGE_MON_DRIFT w m (ofInt 20 (driftPpm transit (x.ref.getD transit)))).wr AGE_MON_QUALITY w m (b2n bad)).wr AGE_MON_AGE_S w m 0
  if bad then s2.bump AGE_STAT_DISTURBED w 0 1
  else s2.modAgeQs (parkKey w (m / 4)) fun a => { a with goodAt := s.now, lateRaised := false }

/-- AGE_SAMPLE_DONE (R553, R554): a forced sample during which a waiting condition held is DISTURBED. -/
def ageDone (w m transit : Nat) (s : State) : State :=
  let x := s.getAgeMons (ageKey w m)
  if x.running then ageRecord w m transit (x.forced && (x.disturbed || s.disturbed w (m / 4))) s else s

def execAgeSampleDone (w : WaferId) (m : Fin 1152) (transit : Word32) (s : State) : Res := .next (ageDone w m transit.toNat s)

/-- AGE_SAMPLE_LATE (R554). -/
def ageLate (w q : Nat) (s : State) : State := if s.domState w q = 3 then s.raise w Leaf.sampleLate else s

def execAgeSampleLate (w : WaferId) (q : QuadId) (s : State) : Res := .next (ageLate w q s)

/-- The baseline sample of a start (R307, R553): the first one of the ledger's epoch is the reference. -/
def ageBaseline (w m transit : Nat) (s : State) : State :=
  let e := (s.getLedgers w).epoch
  let x := s.getAgeMons (ageKey w m)
  let s1 := if x.ref.isNone ∨ x.refEpoch ≠ e then s.putAgeMons (ageKey w m) { x with ref := some transit, refEpoch := e } else s
  ageRecord w m transit false s1

/-- A quadrant's drift: the highest of its four monitors' (R553), those with a sample that is not disturbed. -/
def State.monitorDrift (s : State) (w q : Nat) : Int :=
  (List.range 4).foldl (fun d i => if s.rd AGE_MON_QUALITY w (4 * q + i) = 0 then max d (toInt 20 (s.rd AGE_MON_DRIFT w (4 * q + i))) else d) (-524288)

/-- The trim comparison of a start (R556). -/
def trimCheck (w q : Nat) (s : State) : State :=
  let e := (s.getLedgers w).epoch
  let k := parkKey w q
  let trim := toInt 8 (s.rd PWR_QTRIM_TRIM_N w q)
  let s1 := if (s.getAgeQs k).trimRef.isNone ∨ (s.getAgeQs k).refEpoch ≠ e then s.modAgeQs k fun a => { a with trimRef := some trim, refEpoch := e } else s
  let eq := (trim - (s1.getAgeQs k).trimRef.getD trim) * 2300
  s1.modAgeQs k fun a => { a with trimDrift := if s1.monitorDrift w q + 10000 < eq then some eq.toNat else none, lifeRaised := false }

/-- The drift that counts in the fit. -/
def State.drift (s : State) (w q : Nat) : Int :=
  match (s.getAgeQs (parkKey w q)).trimDrift with | some d => (d : Int) | none => s.monitorDrift w q

/-- A stress hour, in the units in which stress is kept. -/
def stressHour : Nat := 3600000000 * 2 ^ 32

/-- The fit of R555 over points of stress and drift, in logarithms to base 2 with 32 fraction bits: the stress at which the drift reaches `eol`. -/
def fitEol (pts : List (Nat × Nat)) (eol : Nat) : Option Nat :=
  let xs : List (Int × Int) := (pts.filter fun p => decide (100 * stressHour ≤ p.1) && decide (0 < p.2)).map fun p => ((log2Fix p.1 : Int), (log2Fix p.2 : Int))
  let n := xs.length
  if n < 2 then none
  else
    let mx := xs.foldl (fun (t : Int) x => t + x.1) 0 / n
    let my := xs.foldl (fun (t : Int) x => t + x.2) 0 / n
    let var := xs.foldl (fun (t : Int) x => t + (x.1 - mx) * (x.1 - mx)) 0
    let cov := xs.foldl (fun (t : Int) x => t + (x.1 - mx) * (x.2 - my)) 0
    if var = 0 then none
    else
      let one : Int := (2 ^ 32 : Nat)
      let slope := max (one * 15 / 100) (min (one / 2) (cov * one / var))
      some (exp2Fix (mx + ((log2Fix eol : Int) - my) * one / slope - 64 * one) * 2 ^ 32)

/-- The remaining life in hours, if it is known (R555). -/
def AgeQ.life (a : AgeQ) (eol : Nat) : Option Nat :=
  if a.stress < 500 * stressHour then none
  else match fitEol a.points eol with
  | none => none
  | some x =>
    let rate := if a.rates.isEmpty then 0 else a.rates.foldl (· + ·) 0 / a.rates.length
    some (if x ≤ a.stress then 0 else if rate = 0 then 65534 else min 65534 ((x - a.stress) / rate))

/-- The hour of one quadrant (R555, R557). The ends of the prediction band are open values on either side of EST. -/
def ageHour (w q : Nat) (s : State) : State :=
  let k := parkKey w q
  let a := s.getAgeQs k
  let d := s.drift w q
  let a1 : AgeQ := { a with
    points := a.points ++ [(a.stress, d.toNat)], rates := ((a.stress - a.hourStart) :: a.rates).take 168, hourStart := a.stress }
  let eol := s.rd AGE_CFG_EOL_PPM w 0
  let s1 := s.putAgeQs k a1
  let s2 := match a1.life eol with
    | none => ((s1.wr AGE_LIFE_EST w q 0xFFFF).wr AGE_LIFE_LOW w q 0xFFFF).wr AGE_LIFE_HIGH w q 0xFFFF
    | some e =>
      let (lo, t1) := s1.fresh
      let (hi, t2) := t1.fresh
      ((t2.wr AGE_LIFE_EST w q e).wr AGE_LIFE_LOW w q (min e lo)).wr AGE_LIFE_HIGH w q (min 65534 (max e hi))
  let est := s2.rd AGE_LIFE_EST w q
  let high := s2.rd AGE_LIFE_HIGH w q
  let s3 := if est ≠ 0xFFFF ∧ est < s2.rd AGE_CFG_WARN w 0 * 100 ∧ !a1.lifeRaised then
      (s2.raise w Leaf.lifeLow).modAgeQs k fun a => { a with lifeRaised := true }
    else s2
  let worn := decide ((eol : Int) ≤ d) || (high != 0xFFFF && s3.rd AGE_CFG_RETIRE w 0 != 0 && decide (high < s3.rd AGE_CFG_RETIRE w 0 * 10))
  if worn then raiseBlocked w q (s3.rd PWR_DOM_STAT_BLOCKED w q) (runtimeOpen w objQuad 19 (q / 4 + q % 4 * 128) s3) else s3

/-- AGE_HOURLY_FIT: every quadrant that has a sample. -/
def ageHourly (w : Nat) (s : State) : State :=
  forEach (List.range 288) s fun q t => if (List.range 4).any (fun i => t.rd AGE_MON_QUALITY w (4 * q + i) != 2) then ageHour w q t else t

def execAgeHourlyFit (w : WaferId) (s : State) : Res := .next (ageHourly w s)

end Sys2Proof.Machine
end

