-- ==== Sys2Proof/Machine/Timebase.lean ====
section
/-!
DEFINITION. Time (R618-R639): the RMCs' references and quality, markers and frames of the fan-out, and each wafer's counter with its trim, slew, steps, holdover and
quality. A wafer's crystal counts the machine's instants exactly but for the adjustments of these rules (log entry 22).
-/
namespace Sys2Proof.Machine

def State.modClocks (s : State) (k : Nat) (g : Clock → Clock) : State := s.putClocks k (g (s.getClocks k))
def State.modRmcs (s : State) (k : Nat) (g : Rmc → Rmc) : State := s.putRmcs k (g (s.getRmcs k))

/-- Fold what the adjustment has added into the offset and set a new one: `ppb` until the counter has moved `span` nanoseconds. -/
def Clock.adjust (c : Clock) (now : Nat) (ppb : Int) (span : Nat) : Clock :=
  { c with offset := ((c.read now : Int) - now), ppb := ppb, setAt := now, span := span }

/-- Step a counter forward. -/
def Clock.stepBy (c : Clock) (now n : Nat) : Clock := let d := c.adjust now 0 0; { d with offset := d.offset + n }

/-- Slew a counter by an offset at 20 ppm (R627); `fast` trims it away over one second instead (R625). -/
def Clock.slewBy (c : Clock) (now : Nat) (offset : Int) (fast : Bool) : Clock :=
  let rate : Int := if fast then min 20000 offset.natAbs else 20000
  c.adjust now (if offset < 0 then -rate else if offset = 0 then 0 else rate) offset.natAbs

def ms1 : Int := 1000000

/-! ## The RMCs -/

/-- An RMC's error bound (R622): 50 ns while LOCKED, growing in holdover, unknown while FREE. -/
def Rmc.bound (r : Rmc) (now : Nat) : Nat :=
  if r.quality = 0 then 50
  else if r.quality = 2 then 0xFFFFFFFF
  else
    let t := now - r.lastRef
    50 + t / 10000000000 + 58 * (t / 1000000) * (t / 1000000) / 10 ^ 13

/-- A member wafer reports an armed scheduled cue. -/
def State.anySchedArmed (s : State) : Bool := allWafers.any fun w => s.rd NET_MGMT_PLANNER_OK w 0 == 1 && s.rd TB_STAT_SCHED_ARMED w 0 == 1

/-- An RMC moves its own time to its reference (R628): forward steps only beyond 1 ms and while no member holds an armed scheduled cue; otherwise a slew. -/
def rmcFollow (r : Nat) (offset : Int) (s : State) : State :=
  let c := (s.getRmcs r).clock
  let moved := if ms1 < offset then (if s.anySchedArmed then c.adjust s.now 20000 offset.natAbs else c.stepBy s.now offset.natAbs)
    else c.slewBy s.now offset true
  s.modRmcs r fun x => { x with clock := moved }

/-- A reference measurement counts toward LOCKED (R619): within 50 ns for 60 s. -/
def rmcMeasure (r : Nat) (offset : Int) (s : State) : State :=
  let x := s.getRmcs r
  let close := decide (offset.natAbs ≤ 50)
  let run := if close then some (x.lockRun.getD s.now) else none
  let locked := match run with | some t => decide (t + 60000000000 ≤ s.now) | none => false
  rmcFollow r offset (s.putRmcs r { x with lockRun := run, lastRef := s.now, quality := if locked then 0 else if x.quality = 0 then 1 else x.quality })

/-- PTP_SYNC (R618, R619). -/
def ptpSync (r : Nat) (offset : Int) (utc leaps : Nat) (s : State) : State :=
  rmcMeasure r offset (s.modRmcs r fun x => { x with lastSync := some s.now, utc := utc, leaps := leaps })

def execPtpSync (r : RmcId) (offset : Word) (utc : BitVec 16) (leaps : BitVec 2) (s : State) : Res := .next (ptpSync r offset.toInt utc.toNat leaps.toNat s)

/-- PPS_EDGE (R619): the phase of the second. -/
def ppsEdge (r : Nat) (offset : Int) (s : State) : State := rmcMeasure r offset (s.modRmcs r fun x => { x with lastPps := some s.now })

def execPpsEdge (r : RmcId) (offset : Word) (s : State) : Res := .next (ppsEdge r offset.toInt s)

/-- RMC_REFERENCE_LOSS (R619): an RMC that was LOCKED goes into HOLDOVER. -/
def referenceLoss (r : Nat) (s : State) : State :=
  s.modRmcs r fun x => { x with quality := if x.quality = 0 then 1 else x.quality, lockRun := none, clock := x.clock.adjust s.now 0 0 }

def execRmcReferenceLoss (r : RmcId) (s : State) : Res := .next (referenceLoss r s)

/-- RMC_REFERENCE_RETURN (R628). -/
def execRmcReferenceReturn (r : RmcId) (offset : Word) (s : State) : Res := .next (rmcMeasure r offset.toInt s)

/-- The RMC that drives the fan-out. -/
def State.fanRmc (s : State) : Nat := s.rack.planner.fanout

/-- MARKER_SEND (R620). -/
def markerSend (s : State) : State :=
  if s.rack.planner.haveActive then (s.modRmcs s.fanRmc fun x => { x with lastMarker := s.now }).emit (.marker s.fanRmc) else s

def execMarkerSend (s : State) : Res := .next (markerSend s)

/-- A frame of the fan-out (R620, R621). -/
def timeFrame (typ : Nat) (payload : List Nat) : List Nat :=
  let b := [0xA5, typ] ++ payload
  b ++ leBytes 2 (crc16 b)

/-- TOD_SEND (R620, R621, R628): one frame for every tray; STEP only for a wafer whose TB_STAT shows no armed scheduled cue. -/
def todSend (step : Nat) (s : State) : State :=
  if !s.rack.planner.haveActive then s
  else
    let r := s.fanRmc
    let x := s.getRmcs r
    let secs := x.clock.read s.now / 1000000000 + 1
    forEach (List.range 44) s fun tray t =>
      let may := decide (tray < 36) && bitAt step tray && s.rd TB_STAT_SCHED_ARMED tray 0 == 0
      t.emit (.timeFrame tray (timeFrame 1 (leBytes 6 secs ++ [x.quality + r * 4 + b2n may * 8 + x.leaps * 16] ++ leBytes 2 x.utc ++ leBytes 4 (min (x.bound s.now) 0xFFFFFFFF))))

def execTodSend (step : BitVec 36) (s : State) : Res := .next (todSend step.toNat s)

/-- FANOUT_SWITCH (R620). -/
def execFanoutSwitch (s : State) : Res := .next (s.modPlanner fun p => { p with fanout := 1 - p.fanout })

/-! ## A wafer's quality and bound -/

/-- A wafer's error bound (R622). -/
def State.tbBound (s : State) (w : Nat) : Nat :=
  let c := s.getClocks w
  let own := if s.rd TB_STAT_QUALITY w 0 = 0 ∨ (s.rd TB_STAT_QUALITY w 0 = 1 ∧ s.rd TB_STAT_HOLD_SRC w 0 = 1) then 10
    else if c.acquired then c.lastOffset.natAbs + 100
    else if c.rmcBound = 0xFFFFFFFF then 0xFFFFFFFF
    else 100 + (s.tbNow w - s.reg TB_HOLD_START w 0) / 10000000
  min 0xFFFFFFFF (own + c.rmcBound)

/-- Change a wafer's quality (R626): QUALITY is raised, and leaving LOCKED is remembered. -/
def setQuality (w q src : Nat) (s : State) : State :=
  let old := s.rd TB_STAT_QUALITY w 0
  let s1 := (s.wr TB_STAT_QUALITY w 0 q).wr TB_STAT_HOLD_SRC w 0 src
  let s2 := if old = 0 ∧ q ≠ 0 then s1.setReg TB_HOLD_START w 0 (s.getClocks w).lastLocked else s1
  if old = q then s2 else s2.raise w Leaf.quality

/-- HOLDOVER while the bound is at most 1 ms, otherwise FREE (R622, R626). -/
def holdQuality (w src : Nat) (s : State) : State := setQuality w (if s.tbBound w ≤ 1000000 then 1 else 2) src s

/-- Set the slew shown (TB_SLEW, TB_STAT.SLEWING). -/
def showSlew (w : Nat) (slewing : Bool) (s : State) : State :=
  (s.setReg TB_SLEW w 0 (ofInt 32 (s.getClocks w).ppb)).wr TB_STAT_SLEWING w 0 (b2n slewing)

/-! ## Markers and frames -/

/-- The offset at a marker (R625). -/
def State.markerOffset (s : State) (w : Nat) : Int :=
  ((s.getClocks w).todSeconds : Int) * 1000000000 + s.rd TB_DELAY_DELAY_NS w 0 - s.tbNow w

def satOffset (x : Int) : Nat := ofInt 32 (max (-2147483648) (min 2147483647 x))

/-- What the UTC fields take at the marker that the frame names (R637). -/
def takeUtc (w : Nat) (s : State) : State :=
  let c := s.getClocks w
  if c.todSince then s.setReg TB_UTC w 0 (c.todUtc % 2 ^ 18 + 2 ^ 18) else s

/-- A forward step may be taken at this marker: the frame allows it and no slot is armed with a scheduled cue (R627). -/
def State.mayStep (s : State) (w : Nat) : Bool := (s.getClocks w).todStep && (s.getClocks w).todSince && s.rd TB_STAT_SCHED_ARMED w 0 == 0

/-- Slew a wafer's counter. -/
def slew (w : Nat) (offset : Int) (fast : Bool) (s : State) : State :=
  showSlew w (decide (10 < offset.natAbs)) (s.modClocks w fun c => c.slewBy s.now offset fast)

/-- A marker at a wafer that has reacquired (R627). `first` is the marker at which it did. -/
def markerAcquired (w : Nat) (first : Bool) (s : State) : State :=
  let off := s.markerOffset w
  let s1 := (s.setReg TB_OFFSET w 0 (satOffset off)).modClocks w fun c => { c with lastOffset := off }
  if ms1 < off then
    if s1.mayStep w then
      let s2 := s1.modClocks w fun c => c.stepBy s.now off.natAbs
      let s3 := ((s2.bump TB_EVENTS_STEPS w 0 1).setReg TB_LAST_STEP w 0 off.natAbs).setReg TB_STEP_TIME w 0 (s2.tbNow w)
      holdQuality w 2 (((showSlew w false s3).wr TB_STAT_STEP_WAIT w 0 0).raise w Leaf.timeStep)
    else holdQuality w 2 ((slew w off false s1).wr TB_STAT_STEP_WAIT w 0 1)
  else
    let s2 := s1.wr TB_STAT_STEP_WAIT w 0 0
    if !first ∧ off.natAbs ≤ 10 ∧ s2.rd TB_STAT_RMC_QUALITY w 0 = 0 then
      setQuality w 0 0 (slew w off true (s2.modClocks w fun c => { c with lastLocked := s.tbNow w }))
    else holdQuality w (if s2.rd TB_STAT_RMC_QUALITY w 0 = 0 then 2 else s2.rd TB_STAT_HOLD_SRC w 0) (slew w off false s2)

/-- A marker is missing or unusable (R624, R626): two in a row end LOCKED. -/
def markerLost (w : Nat) (s : State) : State :=
  let c := s.getClocks w
  let s1 := ((s.bump TB_EVENTS_MISSED w 0 1).wr TB_STAT_PPS_OK w 0 0).putClocks w { c with missed := c.missed + 1 }
  if c.missed + 1 = 2 then
    let s2 := (s1.modClocks w fun c => { (c.adjust s.now 0 0) with acquired := false }).raise w Leaf.ppsLost
    let s3 := (showSlew w false s2).wr TB_STAT_TOD_OK w 0 (b2n c.todSince)
    if s3.rd TB_STAT_QUALITY w 0 = 2 then s3 else setQuality w 1 2 s3
  else s1

/-- A wafer follows its markers: LOCKED, or in a holdover that is the RMC's. -/
def State.follows (s : State) (w : Nat) : Bool :=
  s.rd TB_STAT_QUALITY w 0 == 0 || (s.rd TB_STAT_QUALITY w 0 == 1 && s.rd TB_STAT_HOLD_SRC w 0 == 1)

/-- A marker at a wafer that follows (R624, R625). -/
def markerFollow (w : Nat) (s : State) : State :=
  let off := s.markerOffset w
  if 2000 < off.natAbs then markerLost w s
  else
    let s1 := ((s.setReg TB_OFFSET w 0 (satOffset off)).wr TB_STAT_PPS_OK w 0 1).modClocks w fun c => { c with missed := 0, lastOffset := off }
    let s2 := slew w off true s1
    if off.natAbs ≤ 10 then
      if s2.rd TB_STAT_RMC_QUALITY w 0 = 0 then setQuality w 0 0 (s2.modClocks w fun c => { c with lastLocked := s.tbNow w }) else s2
    else holdQuality w 2 (s2.modClocks w fun c => { c with acquired := true })

/-- MARKER (R625-R627). -/
def marker (w : Nat) (s : State) : State :=
  let c := s.getClocks w
  let t := s.tbNow w
  let s1 := takeUtc w s
  let s2 :=
    if s.follows w then markerFollow w s1
    else
      let ok := s1.wr TB_STAT_PPS_OK w 0 1
      if c.acquired then markerAcquired w false (ok.modClocks w fun c => { c with missed := 0 })
      else match c.marker with
      | none => ok
      | some m =>
        if m + 999975000 ≤ t ∧ t ≤ m + 1000025000 ∧ c.todSince then
          markerAcquired w true ((ok.bump TB_EVENTS_REACQ w 0 1).modClocks w fun c => { c with acquired := true, missed := 0 })
        else ok
  s2.modClocks w fun c => { c with marker := some (s2.tbNow w), todSince := false, todSeconds := c.todSeconds + b2n (!c.todSince) }

def execMarker (w : WaferId) (s : State) : Res := .next (marker w s)

/-- MARKER_MISSING (R626). -/
def markerMissing (w : Nat) (s : State) : State :=
  (markerLost w s).modClocks w fun c => { c with marker := none, todSince := false, todSeconds := c.todSeconds + b2n (!c.todSince) }

def execMarkerMissing (w : WaferId) (s : State) : Res := .next (markerMissing w s)

/-- A frame's body, if its start byte, length and CRC are right (R620). -/
def frameBody (typ len : Nat) (bs : List Nat) : Option (List Nat) :=
  if bs.length = len ∧ bs.take 2 = [0xA5, typ] ∧ ofLeBytes (bs.drop (len - 2)) = crc16 (bs.take (len - 2)) then some ((bs.drop 2).take (len - 4)) else none

/-- TOD_FRAME (R620-R622, R626). -/
def todFrame (w : Nat) (bs : List Nat) (s : State) : State :=
  match frameBody 1 17 bs with
  | none => s.bump TB_EVENTS_FRAME_ERR w 0 1
  | some b =>
    let flags := b.getD 6 0
    let q := flags % 4
    let s1 := s.modClocks w fun c => { c with
      todSince := true, todAt := some (s.tbNow w), todSeconds := ofLeBytes (b.take 6), todStep := bitAt flags 3, todUtc := ofLeBytes ((b.drop 7).take 2) + bits flags 5 4 * 2 ^ 16
      rmcBound := ofLeBytes ((b.drop 9).take 4) }
    let s2 := ((s1.wr TB_STAT_TOD_OK w 0 1).wr TB_STAT_RMC_ID w 0 (bits flags 2 2)).wr TB_STAT_RMC_QUALITY w 0 q
    if s2.rd TB_STAT_QUALITY w 0 = 0 ∧ q ≠ 0 then setQuality w 1 1 s2 else s2

def execTodFrame (w : WaferId) (bytes : List Byte) (s : State) : Res := .next (todFrame w (bytes.map BitVec.toNat) s)

/-- HOLDOVER_BOUND_EXCEEDED (R622). -/
def boundExceeded (u : TimeUnit) (s : State) : State :=
  match u with
  | .wafer w => if 1000000 < s.tbBound w ∧ s.rd TB_STAT_QUALITY w 0 = 1 then setQuality w 2 2 s else s
  | .rmc r => if 1000000 < (s.getRmcs r).bound s.now ∧ (s.getRmcs r).quality = 1 then s.modRmcs r fun x => { x with quality := 2 } else s

def execHoldoverBoundExceeded (u : TimeUnit) (s : State) : Res := .next (boundExceeded u s)

/-! ## Starts -/

/-- A cold start sets the counter to 0 with quality FREE (R623). The registers of the block are at their reset values already. -/
def tbCold (w : Nat) (s : State) : State := s.putClocks w { offset := -(s.now : Int) }

/-- A warm start keeps the counter; quality is HOLDOVER until the first offset (R626). A change of host field brings a new crystal. -/
def tbWarm (w : Nat) (s : State) : State :=
  let s1 := s.modClocks w fun c => { (c.adjust s.now 0 0) with acquired := false, marker := none, todSince := false }
  let s2 := (showSlew w false s1).wr TB_STAT_STEP_WAIT w 0 0
  if s2.rd TB_STAT_QUALITY w 0 = 2 then s2 else setQuality w 1 2 s2

end Sys2Proof.Machine
end

