-- ==== Sys2Proof/Machine/Bringup.lean ====
section
/-!
DEFINITION. Starts and bring-up (R301-R337, R470, R471, R660): what a start keeps, the choice of the host field, the five phases and what their tests add to the ledger,
ledger fetches, factory-depth and field retests, and the take-downs that end in a start or in the loss of power.
-/
namespace Sys2Proof.Machine

/-! ## Firmware slots (R658, R660) -/

/-- The key of a part's firmware: PART of R661 and the instance. -/
def fwKey (part inst : Nat) : Nat := part * 4096 + inst
def FwPart.slot (p : FwPart) (i : Nat) : FwSlot := if i = 0 then p.a else p.b
def FwPart.setSlot (p : FwPart) (i : Nat) (x : FwSlot) : FwPart := if i = 0 then { p with a := x } else { p with b := x }
def FwPart.find (p : FwPart) (st : Nat) : Option Nat := [0, 1].find? fun i => (p.slot i).st == st

/-- The journal of the RMC or of the wafer that holds the entries of a part (R661): an SMC, a TMC of a wafer tray or an optical engine has its wafer's. -/
def fwWafer (part inst : Nat) : Option Nat :=
  if part = 1 ∨ (part = 2 ∧ inst < 36) then some inst else if part = 3 then some (inst / 20) else none

/-- Record an install or activation of a part (R661). Parts without a wafer's journal leave theirs in the RMC's log. -/
def fwJournal (part inst slot outcome old : Nat) (s : State) : State :=
  let x := (s.getFws (fwKey part inst)).slot slot
  let detail := [part % 256 + inst % 256 * 256 + slot * 2 ^ 16, x.ver, old]
  match fwWafer part inst with
  | some w => s.journal w 2 (if outcome = 3 ∨ outcome = 1 then 1 else 3) 3 outcome 0 [part % 256 + (if part = 3 then inst % 20 else 0) * 256 + slot * 2 ^ 16, x.ver, old] x.digest
  | none => s.modPlanner fun p => { p with journal := p.journal ++
      [{ seq := p.journal.length, time := (s.getRmcs p.active).clock.read s.now, word4 := 2 + 3 * 16 + 3 * 1024 + outcome * 4096, detail := detail, digest := x.digest }] }

/-- Show an SMC's slots (R679). -/
def fwSync (w : Nat) (s : State) : State :=
  let p := s.getFws (fwKey 1 w)
  let s1 := forEach [0, 1] s fun i t =>
    ((t.wr FW_SMC_SLOT_STATE w i (p.slot i).st).wr FW_SMC_SLOT_RUNNING w i (b2n (p.running == i && t.rd BUP_STAT_READY w 0 % 2 == 1))).setReg FW_SMC_VER w i (p.slot i).ver
  let v := (p.slot p.running).ver
  ((s1.wr ID_SMC_FW_MAJOR w 0 (bits v 31 24)).wr ID_SMC_FW_MINOR w 0 (bits v 23 16)).wr ID_SMC_FW_PATCH w 0 (bits v 15 0)

def State.modFws (s : State) (k : Nat) (g : FwPart → FwPart) : State := s.putFws k (g (s.getFws k))

/-- A part passes its start check from a TRIAL slot: the slot is ACTIVE, the old one PREVIOUS (R658). -/
def fwPass (part inst : Nat) (s : State) : State :=
  let k := fwKey part inst
  let p := s.getFws k
  match p.find 3 with
  | none => s
  | some i =>
    let old := p.slot (1 - i)
    let p1 := (p.setSlot i { p.slot i with st := 4 }).setSlot (1 - i) (if old.st = 4 then { old with st := 5 } else old)
    fwJournal part inst i 0 old.ver (s.putFws k { p1 with running := i })

/-- A part fails it: the slot is BAD, and the part starts again from the ACTIVE slot (R658, R660). -/
def fwFail (part inst : Nat) (s : State) : State :=
  let k := fwKey part inst
  let p := s.getFws k
  match p.find 3 with
  | none => s
  | some i => fwJournal part inst i 2 (p.slot (1 - i)).ver (s.putFws k { p.setSlot i { p.slot i with st := 6 } with running := 1 - i })

/-- The SMC's slot for a start: the TRIAL slot if one exists, otherwise the ACTIVE one (R660). -/
def bootSlot (w : Nat) (s : State) : State :=
  s.modFws (fwKey 1 w) fun p => { p with running := (p.find 3).getD ((p.find 4).getD p.running) }

/-! ## What a start keeps (R301) -/

/-- The registers of the always-on domain and of retention SRAM, which a warm start keeps. -/
def keptWarm : List Reg :=
  [PWR_DOM_REFUSED, PWR_SEQ_STAT, PWR_FAULT_CAP, PWR_FAULT_TIME, PWR_FAULTS, PWR_IBC, PWR_BUS, PWR_DOM_STAT, PWR_DOM_MEAS, TB_NOW, TB_STAT, TB_OFFSET, TB_SLEW, TB_ERR_BOUND,
   TB_UTC, TB_EVENTS, TB_LAST_STEP, TB_STEP_TIME, TB_HOLD_START, TB_DELAY, TWI_TGT_CFG, TWI_TGT_STAT, TWI_TGT_EVENTS, TMC_KEEPALIVE0, TMC_KEEPALIVE1, TMC_INFO, NET_MGMT,
   THM_COOLANT, TEL_WE, TEL_WE_OVERHEAD, FW_SMC_SLOT, FW_SMC_VER, HIF_WAKE, ID_JRNL_STAT, ID_JRNL_NEXT, ID_JRNL_OLDEST]

/-- The registers that flash keeps. -/
def keptCold : List Reg := [FW_SMC_SLOT, FW_SMC_VER]

/-- Return every register of a wafer to its reset value, except those of `keep`. -/
def resetRegs (w : Nat) (keep : List Reg) (s : State) : State :=
  let ids := keep.map fun r => r.id
  let own := fun (id : Nat) => id == 307 || windowRegs.any fun r => r.id == id
  let s1 := s.withRegs (s.regs.filter fun x => let k := Nat.unpair x.1; (Nat.unpair k.2).1 != w || !own k.1 || ids.contains k.1)
  s1.withWings (s1.wings.filter fun x => (Nat.unpair (Nat.unpair x.1).2).1 != w)

/-- Keep the entries of a map that are not a wafer's. -/
abbrev others {α : Type} (w per : Nat) (m : List (Nat × α)) : List (Nat × α) := m.filter fun x => x.1 / per != w

/-- Drop what the wafer's cores, partitions, networks, lofts, images and cues hold. -/
def dropRunning (w : Nat) (s : State) : State :=
  let s1 := s.withCores (others w 43200 s.job.cores) |>.withParts (others w 288 s.job.parts) |>.withResults (others w 18432 s.job.results)
    |>.withSeSlots (others w (288 * 8192) s.job.seSlots) |>.withSemas (others w 1024 s.job.semas)
  let ni := fun (k : Nat) => decide (k / 128 = w)
  let s2 := s1.withLinks (others w 72 s1.net.links) |>.withArbs (others w (128 * 32768) s1.net.arbs) |>.withFabricCredits (others w (128 * 32768 * 8) s1.net.fabricCredits)
    |>.withInjects (others w 128 s1.net.injects) |>.withReplays (others w 128 s1.net.replays)
  let s3 := resetRecvs (fun k => ni (streamNi k)) (resetSends (fun k => ni (streamNi k)) s2)
  let s4 := s3.withShadows (others w 144 s3.cue.shadows) |>.withLoads (others w 1 s3.cue.loads) |>.withPushes (others w 1 s3.cue.pushes)
    |>.withSlots (others w 8 s3.cue.slots) |>.withCueUnits (others w 1 s3.cue.cueUnits)
  let s5 := s4.withLofts (others w 72 s4.cue.lofts) |>.withPchs (others w (72 * 32) s4.cue.pchs)
  let s6 := s5.withLoft (s5.loft.filter fun c => c.1 / 2 ^ 35 / 72 != w) |>.withLoftPoison (s5.loftPoison.filter fun l => l / 2 ^ 29 / 72 != w)
  s6.withParks (others w 288 s6.pow.parks) |>.withMeters (others w 1 s6.pow.meters) |>.withThermChs (others w 72 s6.pow.thermChs) |>.withWarming (others w 1 s6.pow.warming)
    |>.withLatches (others w 8 s6.win.latches) |>.withHifs (mmap {} (fun k x => if k = w then { pmeEn := x.pmeEn } else x) s6.win.hifs)
    |>.withChans (s6.win.chans.filter fun x => (Nat.unpair x.1).1 != w) |>.withAtns (others w 1 s6.win.atns)

/-- Keep only the OFF dwells and the fault times of a wafer's domains. -/
def trimDoms (w : Nat) (cold : Bool) (s : State) : State :=
  s.withDoms (mmap {} (fun k x => if k / 455 ≠ w then x else if cold then {} else { dwelling := x.dwelling, faultTimes := x.faultTimes }) s.pow.doms)

/-- What the SMC shows of the journal after a start; the ring is lost at a cold start, the flash is kept (R55, R301). -/
def journalStart (w : Nat) (cold : Bool) (s : State) : State :=
  let j := s.getJournals w
  let es := if cold then (j.entries.filter fun e => e.inFlash).map fun e => { e with inRing := false } else j.entries
  let nx := if cold then es.foldl (fun n e => max n (e.seq + 1)) 0 else j.next
  ((s.putJournals w { j with entries := es, next := nx, fetching := none, held := none }).wr ID_JRNL_FETCH_BUSY w 0 0).jrnlSync w

/-- Reset a wafer as a start does. A cold start keeps flash only; a warm one also the always-on domain and retention SRAM (R301). -/
def resetWafer (w : Nat) (cold : Bool) (s : State) : State :=
  let entries := s.rd THM_GHOST_STAT_ENTRIES w 0
  let perst := s.rd HIF_LINK_PERST w 0
  let s1 := (trimDoms w cold (dropRunning w (resetRegs w (if cold then keptCold else keptWarm) s))).wr HIF_LINK_PERST w 0 perst
  let s2 := if cold then s1 else
    forEach allDomains (s1.wr THM_GHOST_STAT_ENTRIES w 0 entries) fun d t => (t.wr PWR_DOM_STAT_PENDING w d 0).wr PWR_DOM_STAT_HALTED w d 0
  let s3 := journalStart w cold s2
  let s4 := s3.modLedgers w fun l => { l with vols := if cold then [] else l.vols, added := 0, first := none, volAdded := false, fetching := none }
  atnStart w (s4.wr NET_MGMT_REHEARSAL_STATUS w 0 1)

/-! ## Starting (R303, R309) -/

/-- The host field that the boot record selects. -/
def Ledger.boot (l : Ledger) : Option Nat := if l.h0Live then some 0 else if l.h1Live then some 1 else none

/-- Bring-up stops (R308). -/
def stopBringup (w code : Nat) (s : State) : State :=
  ((((s.wr BUP_STAT_STOP w 0 code).wr BUP_STAT_PHASE w 0 6).modBups w fun b => { b with starting := false })).raise w Leaf.stopped

/-- Release a host field's reset: its domain ramps, and phase 0 begins. -/
def startHost (w h : Nat) (s : State) : State :=
  let s1 := (((s.wr NET_SELF_HOST_FIELD w 0 h).wr BUP_STAT_HOST w 0 h).wr BUP_STAT_PHASE w 0 0).wr BUP_STAT_READY w 0 0
  let s2 := (bootSlot w s1).modBups w fun b => { b with starting := true, phaseStart := s1.now, slow := false }
  tryRamp w (452 + h) ((forceOne w (453 - h) s2).wr PWR_DOM_STAT_PENDING w (452 + h) 1)

/-- Start the selected host field; with both flags cleared bring-up stops with nobody to show it but the always-on status (R309, R687). -/
def startSelected (w : Nat) (s : State) : State :=
  match (s.getLedgers w).boot with
  | some h => startHost w h s
  | none => ((s.wr BUP_STAT_STOP w 0 3).wr BUP_STAT_PHASE w 0 6).modBups w fun b => { b with starting := false }

/-- Restart the wafer at phase 0: the kind of start, or none where a change of host field keeps the kind of the start that began (R308). -/
def startWafer (w : Nat) (kind : Option Nat) (s : State) : State :=
  let cold := kind = some 0
  let k := kind.getD (s.rd BUP_STAT_START_KIND w 0)
  let b := s.getBups w
  let fdr := s.reg BUP_FDR_STAT w 0
  let s1 := resetWafer w cold s
  let s2 := s1.putBups w (if kind.isNone then { h0Failed := b.h0Failed, h1Failed := b.h1Failed, startTime := b.startTime } else { startTime := s1.now })
  let s3 := (s2.wr BUP_STAT_START_KIND w 0 k).when (kind == some 2) fun t => t.setReg BUP_FDR_STAT w 0 fdr
  let s4 := if cold then tbCold w s3 else tbWarm w s3
  startSelected w (capUpdate w 3 0 s4)

/-- The wafer's supply is gone: nothing but flash is left (R455, R463, R471). -/
def unpower (w : Nat) (s : State) : State :=
  let s1 := resetWafer w true (pcieLost w s)
  (tbCold w ((s1.putBups w {}).putTwis w {})).modWafers w fun x => { x with powered := false, downSeq := none }

/-- Whether every domain but the always-on one is OFF. -/
def State.allOff (s : State) (w : Nat) : Bool := (List.range 454).all fun d => s.domState w d == 0

/-- A take-down in order has ended: the power-off or the restart that it was for. -/
def finishDown (w : Nat) (s : State) : State :=
  match (s.getWafers w).downSeq with
  | none => s
  | some n =>
    if !s.allOff w then s
    else
      let s1 := s.modWafers w fun x => { x with downSeq := none }
      if n = 0 then unpower w s1 else startWafer w (if n = 1 then some 1 else if n = 3 then some 2 else none) s1

/-- Carry a take-down on. -/
def settle (w : Nat) (s : State) : State := finishDown w (downStep w s)

/-- Take the wafer down in order for `n`: 0 a power-off, 1 a warm start, 2 a change of host field, 3 a start after a factory-depth retest (R470). -/
def takeWaferDown (w n : Nat) (s : State) : State := settle w (s.modWafers w fun x => { x with downSeq := some n })

/-- DRAIN_DONE (R457). -/
def drainDone (w d : Nat) (s : State) : State :=
  if s.domState w d ≠ 4 then s else admitWaiting w (tryRamp w d (settle w (reachOff w d s)))

def execDrainDone (w : WaferId) (d : DomId) (s : State) : Res := .next (drainDone w d s)

/-- COLD_START: the TMC enables the tray's feed (R301, R302). -/
def coldStart (w bus : Nat) (s : State) : State :=
  if (s.getWafers w).powered ∨ (s.getWafers w).interlockOpen ∨ !(s.getTmcs w).running then s
  else
    let s1 := startWafer w (some 0) ((s.modWafers w fun x => { x with powered := true, downSeq := none, stretches := 0 }).modTmcs w fun t => { t with powerOn := true })
    forEach (List.range 4) (s1.wr PWR_BUS_BUS w 0 bus) fun i t => t.wr PWR_IBC_OK w i 1

def execColdStart (w : WaferId) (bus : BitVec 16) (s : State) : Res := .next (coldStart w bus.toNat s)

/-- A start ends what the phase in progress has added as one edit (R321). -/
def endPhaseEdit (w : Nat) (s : State) : State := if (s.getBups w).starting then closeEdit w (s.rd BUP_STAT_PHASE w 0) s else s

/-- WARM_START (R301, R470): the link goes down, and the domains with it in order. -/
def warmStart1 (w : Nat) (s : State) : State :=
  if !(s.getWafers w).powered ∨ (s.getWafers w).downSeq = some 0 then s
  else
    let s1 := pcieLost w (endPhaseEdit w s)
    let s2 := (s1.wr BUP_STAT_READY w 0 0).modBups w fun b => { b with starting := false }
    takeWaferDown w 1 (forEach (List.range 454) s2 fun d t => t.wr PWR_DOM_STAT_PENDING w d 0)

def execWarmStart (w : WaferId) (s : State) : Res := .next (warmStart1 w s)

/-- TRAY_POWER_OFF: a planned power-off takes every domain down in order (R470). -/
def trayPowerOff (w : Nat) (s : State) : State :=
  if !(s.getWafers w).powered then s
  else takeWaferDown w 0 ((s.modBups w fun b => { b with starting := false }).modTmcs w fun t => { t with powerOn := false })

def execTrayPowerOff (w : WaferId) (s : State) : Res := .next (trayPowerOff w s)

/-- BUS_UNDERVOLT: every domain is forced down; the wafer stays down until the TMC starts it (R471). An entry that was being programmed is torn (R328). -/
def busUndervolt (w : Nat) (torn : Bool) (s : State) : State :=
  if !(s.getWafers w).powered then s
  else
    let s1 := s.when torn fun t => t.modLedgers w fun l => if l.slots.length < 65536 then { l with slots := l.slots ++ [{ torn := true }] } else l
    unpower w (forceAll w s1)

def execBusUndervolt (w : WaferId) (torn : Bool) (s : State) : Res := .next (busUndervolt w torn s)

/-! ## Supply faults (R462, R463) -/

/-- A supply fault of any domain. -/
def anyFault (w d kind volt : Nat) (s : State) : State :=
  if !(s.getWafers w).powered ∨ s.domState w d = 0 then s
  else if d < 452 then settle w (supplyFault w d kind volt s)
  else if d = 454 then unpower w (forceAll w s)
  else
    let s1 := forEach allParts s fun p t => if t.defined w p then cutJob w p t else t
    let s2 := endPhaseEdit w (recordFault w d kind volt s1)
    startWafer w (some 1) (forceAll w (pcieLost w s2))

def execUndervolt (w : WaferId) (d : DomId) (volt : BitVec 12) (s : State) : Res := .next (anyFault w d 1 volt.toNat s)

/-- GATE_TIMEOUT: the domain's droop gate has been engaged for 1 ms (R79). -/
def gateTimeout (w d volt : Nat) (s : State) : State :=
  let engaged := if d < 288 then (s.getDoms (domKey w d)).gated else decide (d < 360) && s.rd SPN_STAT_GATED w (d - 288) == 1
  if engaged then anyFault w d 2 volt s else s

def execGateTimeout (w : WaferId) (d : DomId) (volt : BitVec 12) (s : State) : Res := .next (gateTimeout w d volt.toNat s)
def execOvercurrent (w : WaferId) (d : DomId) (volt : BitVec 12) (s : State) : Res := .next (anyFault w d 3 volt.toNat s)

/-- NO_POWER_GOOD: RAMP has passed its latest time. -/
def execNoPowerGood (w : WaferId) (d : DomId) (volt : BitVec 12) (s : State) : Res :=
  .next (if s.domState w d = 1 then anyFault w d 4 volt.toNat s else s)

def execRegFail (w : WaferId) (d : DomId) (volt : BitVec 12) (s : State) : Res := .next (anyFault w d 5 volt.toNat s)

/-! ## Findings of tests (R316-R318) -/

/-- An object's code is one of R316. -/
def objectOk (ty o : Nat) : Bool :=
  let f := decide (objField o < 72)
  if ty = 1 ∨ ty = 2 then f && decide (objRow o < 25) && decide (objCol o < 24)
  else if ty = 3 then f && decide (o < 512)
  else if ty = 4 ∨ ty = 6 then decide (o < 72)
  else if ty = 5 then f && decide (o < 1024)
  else if ty = 7 then decide (o < 20)
  else if ty = 8 then decide (o % 32 < 20) && decide (o < 1024)
  else ty == 9 && decide (o < 2)

/-- The object types and the phases of a kind (R317). -/
def kindOk (phase ty kind : Nat) : Bool :=
  let row := fun (tys phs : List Nat) => tys.contains ty && (phase == 6 || phs.contains phase)
  match kind with
  | 1 => row [9] [0]
  | 2 => row [9] [0, 1]
  | 3 => row [4] [1, 7]
  | 4 => row [2] [1, 7]
  | 5 => row [5] [1]
  | 6 => row [1] [2, 7]
  | 7 => row [1] [2, 7]
  | 8 => row [6] [2, 7]
  | 9 => row [6] [2, 7]
  | 10 => row [6] [2, 7]
  | 11 => row [7] [3]
  | 12 => row [7] [3]
  | 13 => row [8] [3]
  | 14 => row [1] [4, 7]
  | 15 => row [3] [4, 7]
  | 16 => row [3] [4, 7]
  | 17 => row [1, 6] []
  | 18 => row [3, 4] []
  | 19 => row [3] []
  | _ => false

/-- An object that a retired field takes out of the tests (R306, R318). -/
def Ledger.untested (l : Ledger) (ty o : Nat) : Bool :=
  if ty = 1 ∨ ty = 2 ∨ ty = 3 ∨ ty = 4 ∨ ty = 6 then l.retired (objField o)
  else if ty = 7 ∨ ty = 8 then l.retired (portField (o % 32)) || l.has objPort (fun x => x == o % 32)
  else false

/-- Append what a phase's tests find. -/
def addFindings (w phase : Nat) (xs : List TestFinding) (s : State) : State :=
  forEach xs s fun x t =>
    let ty := x.objType.toNat
    let o := x.object.toNat
    if kindOk phase ty x.kind.toNat && objectOk ty o && !(t.getLedgers w).untested ty o then
      appendFinding w { objType := ty, kind := x.kind.toNat, phase := phase, object := o, signature := x.signature.toNat } t
    else t

/-- A finding whose signature is not given. -/
def openFinding (w phase ty kind ob : Nat) (s : State) : State :=
  appendFinding w { objType := ty, kind := kind, phase := phase, object := ob, signature := s.fresh.1 % 2 ^ 32 } s.fresh.2

/-! ## The phases (R302-R308) -/

/-- The domains of a kind that the ledger leaves usable. -/
def State.usableDoms (s : State) (w lo n : Nat) : List Nat := ((List.range n).map (lo + ·)).filter fun d => !(s.getLedgers w).blocks d

/-- A domain that could not be brought ON: OFF by a fault with nothing pending (R308). -/
def State.domFailed (s : State) (w d : Nat) : Bool := s.domState w d == 0 && s.rd PWR_DOM_STAT_FAULT w d == 1 && s.rd PWR_DOM_STAT_PENDING w d == 0
def State.domsReady (s : State) (w : Nat) (ds : List Nat) : Bool := ds.all fun d => s.domState w d == 3 || s.domFailed w d

/-- Ask for domains that are OFF; those that find no place in RAMP wait (R457). -/
def powerUp (w : Nat) (ds : List Nat) (s : State) : State :=
  admitWaiting w (forEach ds s fun d t =>
    if t.domState w d = 0 ∧ t.domState w (t.parentOf w d) = 3 then (t.wr PWR_DOM_STAT_PENDING w d 1).wr PWR_DOM_STAT_FAULT w d 0 else t)

/-- Every finding condemns domains that are on their way up or ON: they are forced down. -/
def dropCondemned (w : Nat) (s : State) : State :=
  forEach (List.range 452) s fun d t => if (t.getLedgers w).blocks d ∧ (t.domState w d ≠ 0 ∨ t.rd PWR_DOM_STAT_PENDING w d ≠ 0) then forceDown w d t else t

/-- Findings for the domains that failed their phase's test by a fault. -/
def failedDoms (w phase ty kind lo n : Nat) (object : Nat → Nat) (s : State) : State :=
  forEach (s.usableDoms w lo n) s fun d t => if t.domFailed w d then openFinding w phase ty kind (object (d - lo)) t else t

/-- A phase sets its ready bit (R302, R321). -/
def phaseReady (w n : Nat) (s : State) : State :=
  let s1 := closeEdit w n s
  let us := (s1.now - (s1.getBups w).phaseStart + 999) / 1000
  let s2 := ((s1.wr BUP_STAT_READY w 0 (s1.rd BUP_STAT_READY w 0 ||| 2 ^ n)).wr BUP_STAT_PHASE w 0 (n + 1)).wrSat BUP_ELAPSED_US w n us
  (s2.modBups w fun b => { b with phaseStart := s2.now, slow := false }).raise w Leaf.phaseDone

/-- Bring-up is in phase `n`. -/
def State.inPhase (s : State) (w n : Nat) : Bool := (s.getBups w).starting && s.rd BUP_STAT_PHASE w 0 == n && (s.getWafers w).downSeq.isNone

/-- The running host field is condemned (R304, R308, R309): its finding is appended and its flag cleared; the other field takes over, or bring-up stops. -/
def hostCondemned (w phase : Nat) (s : State) : State :=
  let h := s.rd NET_SELF_HOST_FIELD w 0
  let s1 := openFinding w phase objHost 2 h s
  let s2 := s1.modLedgers w fun l => { l with h0Live := l.h0Live && h != 0, h1Live := l.h1Live && h != 1 }
  let s3 := closeEdit w phase s2
  if (s3.getLedgers w).hostDead (1 - h) then
    let s4 := forEach (List.range 452) (deriveLists w s3) (forceOne w)
    stopBringup w 2 (s4.wr BUP_STAT_READY w 0 1)
  else takeWaferDown w 2 (pcieLost w ((s3.wr BUP_STAT_READY w 0 0).modBups w fun b => { b with starting := false }))

/-- NET_SELF from the straps (R20, R739): six bits of slot number and odd parity. -/
def readStraps (w straps : Nat) (s : State) : State :=
  let v := straps % 64
  let bad := decide (35 < v) || popCount 7 straps % 2 == 0
  (((s.wr NET_SELF_SLOT w 0 v).wr NET_SELF_TROW w 0 (if bad then 0 else v / 6)).wr NET_SELF_TCOL w 0 (if bad then 0 else v % 6)).wr NET_SELF_STRAP_BAD w 0 (b2n bad)

/-- The SMC brings flags and ledger into agreement (R309). -/
def agreeFlags (w : Nat) (s : State) : State :=
  forEach [0, 1] s fun h t =>
    let l := t.getLedgers w
    if l.has objHost (fun o => o == h) then t.modLedgers w fun l => { l with h0Live := l.h0Live && h != 0, h1Live := l.h1Live && h != 1 }
    else if l.hostDead h then openFinding w 0 objHost 1 h t
    else t

/-- What phase 0 makes ready: the derived lists, the endpoint, and the raises of every start (R303, R313, R320). -/
def phase0Ready (w : Nat) (s : State) : State :=
  let s1 := phaseReady w 0 (deriveLists w (ledgerSync w (forEach allFields s fun f t => setSkips w f t)))
  let l := s1.getLedgers w
  let s2 := if 61440 ≤ l.slots.length then s1.raise w Leaf.ledgerNear else s1
  let s3 := if 65536 ≤ l.slots.length ∨ !l.vols.isEmpty then s2.raise w Leaf.ledgerFull else s2
  let s4 := s3.modHifs w fun h => { h with termination := true }
  let s5 := if s4.rd HIF_LINK_PERST w 0 = 0 then s4.wr HIF_LINK_STATE w 0 1 else s4
  fwSync w (if (s5.getFws (fwKey 1 w)).find 3 = some (s5.getFws (fwKey 1 w)).running then fwPass 1 w s5 else s5)

/-- BRINGUP_PHASE_0 (R303): the host field has passed its start test. -/
def phase0 (w straps : Nat) (ledgerOk : Bool) (s : State) : State :=
  let h := s.rd NET_SELF_HOST_FIELD w 0
  if !s.inPhase w 0 ∨ s.domState w (452 + h) ≠ 3 then s
  else
    let s1 := (readStraps w straps s).modLedgers w fun l => { l with openBank := none, bad := !ledgerOk }
    if !ledgerOk then stopBringup w 1 (phase0Ready w s1)
    else
      let s2 := agreeFlags w s1
      if (s2.getLedgers w).hostDead h then hostCondemned w 0 s2
      else if (s2.getLedgers w).retired (hostBridge h) then hostCondemned w 0 s2
      else
        let s3 := phase0Ready w s2
        powerUp w (s3.usableDoms w 288 72) s3

def execBringupPhase0 (w : WaferId) (straps : BitVec 7) (ledgerOk : Bool) (s : State) : Res := .next (phase0 w straps.toNat ledgerOk s)

/-- HOST_START_TEST_TIMEOUT (R303, R309, R660): a trial image is given up first; then the field's flag is cleared and the other field starts. -/
def hostTestFails (w : Nat) (s : State) : State :=
  let h := s.rd NET_SELF_HOST_FIELD w 0
  if !s.inPhase w 0 then s
  else if (s.getFws (fwKey 1 w)).find 3 = some (s.getFws (fwKey 1 w)).running then startHost w h (forceOne w (452 + h) (fwFail 1 w s))
  else
    let s1 := (s.modLedgers w fun l => { l with h0Live := l.h0Live && h != 0, h1Live := l.h1Live && h != 1 }).modBups w fun b =>
      { b with h0Failed := b.h0Failed || h == 0, h1Failed := b.h1Failed || h == 1 }
    startWafer w none (forceOne w (452 + h) (closeEdit w 0 s1))

def execHostStartTestTimeout (w : WaferId) (s : State) : Res := .next (hostTestFails w s)

/-- PPS_LOCK_TIMEOUT (R304): phase 1 goes on with quality FREE. -/
def ppsTimeout (w : Nat) (s : State) : State :=
  if !s.inPhase w 1 ∨ s.rd TB_STAT_QUALITY w 0 = 0 then s
  else
    let s1 := s.modBups w fun b => { b with ppsTimeout := true }
    if s1.rd TB_STAT_QUALITY w 0 = 2 then s1 else setQuality w 2 2 s1

def execPpsLockTimeout (w : WaferId) (s : State) : Res := .next (ppsTimeout w s)

/-- BRINGUP_PHASE_1 (R304). -/
def phase1 (w : Nat) (xs : List TestFinding) (s : State) : State :=
  let locked := s.rd TB_STAT_QUALITY w 0 = 0
  if !s.inPhase w 1 ∨ !s.domsReady w (s.usableDoms w 288 72) ∨ (¬locked ∧ !(s.getBups w).ppsTimeout) then s
  else
    let s1 := dropCondemned w (addFindings w 1 xs (failedDoms w 1 objSpine 3 288 72 id s))
    let s2 := s1.wr BUP_STAT_PPS_LOCKED w 0 (b2n (decide locked))
    if (s2.getLedgers w).retired (hostBridge (s2.rd NET_SELF_HOST_FIELD w 0)) then hostCondemned w 1 s2
    else
      let s3 := phaseReady w 1 s2
      powerUp w (s3.usableDoms w 360 72) s3

def execBringupPhase1 (w : WaferId) (findings : List TestFinding) (s : State) : Res := .next (phase1 w findings s)

/-- BRINGUP_PHASE_2 (R305). -/
def phase2 (w : Nat) (xs : List TestFinding) (s : State) : State :=
  if !s.inPhase w 2 ∨ !s.domsReady w (s.usableDoms w 360 72) then s
  else
    let s1 := phaseReady w 2 (dropCondemned w (addFindings w 2 xs (failedDoms w 2 objLoft 9 360 72 id s)))
    powerUp w (s1.usableDoms w 432 20) s1

def execBringupPhase2 (w : WaferId) (findings : List TestFinding) (s : State) : Res := .next (phase2 w findings s)

/-- Phase 3 waits no longer for a port (R306). -/
def State.portSettled (s : State) (w p : Nat) : Bool :=
  let st := s.rd LNK_STAT_STATE w p
  st == 2 || st == 3 || s.rd LNK_STAT_MISCABLED w p == 1 || (s.getBups w).portsOut.contains p || !s.mayTrain (.port (Fin.ofNat 36 w) (Fin.ofNat 20 p)) || s.domFailed w (432 + p)

/-- BRINGUP_PHASE_3 (R306). -/
def phase3 (w : Nat) (xs : List TestFinding) (s : State) : State :=
  let ds := s.usableDoms w 432 20
  if !s.inPhase w 3 ∨ !s.domsReady w ds ∨ !(ds.all fun d => s.portSettled w (d - 432)) then s
  else phaseReady w 3 (dropCondemned w (addFindings w 3 xs (failedDoms w 3 objPort 11 432 20 id s)))

def execBringupPhase3 (w : WaferId) (findings : List TestFinding) (s : State) : Res := .next (phase3 w findings s)

/-- PORT_TRAIN_TIMEOUT (R306). -/
def portTrainTimeout (w p : Nat) (s : State) : State :=
  if s.inPhase w 3 ∧ s.rd LNK_STAT_STATE w p = 1 then s.modBups w fun b => { b with portsOut := if b.portsOut.contains p then b.portsOut else b.portsOut ++ [p] } else s

def execPortTrainTimeout (w : WaferId) (p : PortId) (s : State) : Res := .next (portTrainTimeout w p s)

/-- Record one quadrant's calibration (R72). A failed one gives a QUAD finding. -/
def calibrate (w phase : Nat) (c : Calibration) (s : State) : State :=
  let q := c.quad.val
  let v := c.trimL.toNat + c.trimN.toNat * 2 ^ 8 + c.trimH.toNat * 2 ^ 16 + b2n (decide (c.trimL.toInt < 0)) * 2 ^ 24 + b2n (decide (0 < c.trimH.toInt)) * 2 ^ 26 + b2n c.fail * 2 ^ 27
  let s1 := s.setReg PWR_QTRIM w q v
  let s2 := if c.fail && !(s1.getLedgers w).untested objQuad (q / 4 + q % 4 * 128) then openFinding w phase objQuad 15 (q / 4 + q % 4 * 128) s1 else s1
  trimCheck w q s2

/-- Quadrants that the point in force would take above 700 mV (PWR_OPP_STAT). -/
def trimLimited (w : Nat) (s : State) : State :=
  let pt := s.rd PWR_OPP_STAT_POINT w 0
  let n := ((List.range 288).filter fun q => pt == 2 && s.rd PWR_QTRIM_LIM_H w q == 1).length
  s.wr PWR_OPP_STAT_TRIM_LIMITED w 0 n

/-- Steps 1 to 5 of phase 4 over the fields that `sel` names, up to the power-up. -/
def phase4Steps (w phase : Nat) (sel : Nat → Bool) (xs : List TestFinding) (cs : List Calibration) (ms : List MonSample) (s : State) : State :=
  let fs := allFields.filter fun f => sel f && !(s.getLedgers w).retired f
  let s1 := forEach fs (addFindings w phase xs s) fun f t => setSkips w f t
  let s2 := forEach (cs.filter fun c => fs.contains (c.quad.val / 4)) s1 fun c t => calibrate w phase c t
  let s3 := forEach (ms.filter fun m => fs.contains (m.mon.val / 16)) s2 fun m t => ageBaseline w m.mon.val m.transit.toNat t
  powerUp w ((s3.usableDoms w 0 288).filter fun q => fs.contains (q / 4)) (trimLimited w s3)

/-- BRINGUP_PHASE_4 (R307), up to the power-up of the quadrants. -/
def phase4 (w : Nat) (xs : List TestFinding) (cs : List Calibration) (ms : List MonSample) (s : State) : State :=
  if !s.inPhase w 4 ∨ (s.getBups w).powering then s
  else (phase4Steps w 4 (fun _ => true) xs cs ms s).modBups w fun b => { b with powering := true }

def execBringupPhase4 (w : WaferId) (findings : List TestFinding) (cals : List Calibration) (baseline : List MonSample) (s : State) : Res :=
  .next (phase4 w findings cals baseline s)

/-- The cores on holes of a field take no part (R312, CORE_STAT). -/
def markUnused (w f : Nat) (s : State) : State :=
  forEach (s.holesOf w f) s fun h t =>
    let u := t.unitAt w f (h / 24) (h % 24)
    if (t.core w f u).st = .off then t else t.setCore w f u { st := .unused }

/-- BRINGUP_DONE: phase 4 is ready (R307). -/
def bringupDone (w : Nat) (xs : List TestFinding) (s : State) : State :=
  if !s.inPhase w 4 ∨ !(s.getBups w).powering ∨ !s.domsReady w (s.usableDoms w 0 288) then s
  else
    let s1 := addFindings w 4 xs (failedDoms w 4 objQuad 16 0 288 (fun q => q / 4 + q % 4 * 128) s)
    let s2 := forEach allFields (deriveLists w (dropCondemned w s1)) fun f t => markUnused w f t
    let s3 := phaseReady w 4 s2
    (s3.modBups w fun b => { b with starting := false, powering := false }).modWafers w fun x => { x with idle := s3.now }

def execBringupDone (w : WaferId) (findings : List TestFinding) (s : State) : Res := .next (bringupDone w findings s)

/-- PHASE_SLOW (R302); a trial image whose phase 0 is late has failed (R660). -/
def phaseSlow (w : Nat) (s : State) : State :=
  if !(s.getBups w).starting ∨ 4 < s.rd BUP_STAT_PHASE w 0 ∨ (s.getBups w).slow then s
  else
    let s1 := (s.modBups w fun b => { b with slow := true }).raise w Leaf.phaseSlow
    if s1.rd BUP_STAT_PHASE w 0 = 0 ∧ (s1.getFws (fwKey 1 w)).find 3 = some (s1.getFws (fwKey 1 w)).running then hostTestFails w s1 else s1

def execPhaseSlow (w : WaferId) (s : State) : Res := .next (phaseSlow w s)

/-! ## Reading the ledger (R315, R319) -/

/-- The eight words of an entry. -/
def entryWords (slot : Nat) (x : Finding) : List Nat :=
  let ws := [slot, x.objType + x.kind * 256 + x.phase * 2 ^ 16, x.object, x.signature, x.time % 2 ^ 32, x.time / 2 ^ 32, x.epoch % 2 ^ 16 + x.quality * 2 ^ 16]
  ws ++ [crc32c (ws.flatMap (leBytes 4))]

/-- LEDGER_FETCH: a write of BUP_LDG_SEL ends a running fetch and starts another. -/
def ledgerFetch (w slot : Nat) (s : State) : State :=
  ((s.setReg BUP_LDG_SEL w 0 slot).wr BUP_LDG_FETCH_BUSY w 0 1).modLedgers w fun l => { l with fetching := some slot }

def execLedgerFetch (w : WaferId) (slot : BitVec 16) (s : State) : Res := .next (ledgerFetch w slot.toNat s)

/-- LEDGER_FETCH_DONE. -/
def ledgerFetched (w : Nat) (s : State) : State :=
  let l := s.getLedgers w
  match l.fetching with
  | none => s
  | some k =>
    let s1 := (s.putLedgers w { l with fetching := none }).wr BUP_LDG_FETCH_BUSY w 0 0
    match l.slots[k]? with
    | none => s1.wr BUP_LDG_FETCH_RESULT w 0 1
    | some x =>
      if x.torn then s1.wr BUP_LDG_FETCH_RESULT w 0 2
      else forEach ((List.range 8).zip (entryWords k x)) (s1.wr BUP_LDG_FETCH_RESULT w 0 0) fun y t => t.setReg BUP_LDG_ENTRY w y.1 y.2

def execLedgerFetchDone (w : WaferId) (s : State) : Res := .next (ledgerFetched w s)

/-! ## The factory-depth retest (R324-R326) -/

/-- No load and no cue is in progress. -/
def State.noCueWork (s : State) (w : Nat) : Bool := !s.loading w && (List.range 8).all fun c => let st := s.rd CUE_SSTAT_STATE w c; st == 0 || decide (3 < st)

/-- The conditions of R324. Under LEDGER_BAD phase 4 never becomes ready, and the retest is the only way out (R308). -/
def State.fdrAllowed (s : State) (w : Nat) : Bool :=
  s.reg BUP_FDR_ARM w 0 == 0xFAC70000 + s.rd NET_SELF_SLOT w 0 && decide (s.now ≤ (s.getBups w).armTime + 1000000000)
    && s.rd NET_MGMT_REHEARSAL_STATUS w 0 == 1 && (allParts.all fun p => !s.defined w p) && s.noCueWork w
    && (bitAt (s.rd BUP_STAT_READY w 0) 4 || s.rd BUP_STAT_STOP w 0 == 1)

/-- FDR_START. -/
def fdrStart (w path : Nat) (s : State) : State :=
  if s.rd BUP_FDR_STAT_STATE w 0 = 1 then s
  else
    let ok := s.fdrAllowed w
    let s1 := s.setReg BUP_FDR_ARM w 0 0
    if !ok then (s1.wr BUP_FDR_STAT_STATE w 0 4).raise w Leaf.fdrDone
    else
      let s2 := ((s1.wr BUP_FDR_STAT_STATE w 0 1).wr BUP_FDR_STAT_PERCENT w 0 0).wr BUP_STAT_PHASE w 0 7
      ledgerSync w ((s2.modLedgers w fun l => { l with openBank := some [] }).modBups w fun b => { b with fdrPath := path })

def execFdrStart (w : WaferId) (path : PathId) (s : State) : Res := .next (fdrStart w path s)

/-- The journal entry of a factory-depth retest (R321). -/
def fdrJournal (w outcome added used epoch : Nat) (s : State) : State :=
  s.journal w 4 (s.getBups w).fdrPath 1 outcome 0 [added % 2 ^ 16 + 6 * 2 ^ 16 + 2 * 2 ^ 24, used, epoch % 2 ^ 16] []

/-- FDR_ABORT. -/
def fdrAbort (w : Nat) (s : State) : State :=
  if s.rd BUP_FDR_STAT_STATE w 0 ≠ 1 then s
  else
    let l := s.getLedgers w
    let s1 := (s.wr BUP_FDR_STAT_STATE w 0 3).wr BUP_STAT_PHASE w 0 (if l.bad then 6 else 5)
    (fdrJournal w 2 (l.openBank.getD []).length l.slots.length (l.epoch + 1) s1).raise w Leaf.fdrDone

def execFdrAbort (w : WaferId) (s : State) : Res := .next (fdrAbort w s)

/-- FDR_COMMIT (R325): the new bank holds what the retest finds, the boot record follows its HOST findings, and a start follows. -/
def fdrCommit (w : Nat) (xs : List TestFinding) (s : State) : State :=
  if s.rd BUP_FDR_STAT_STATE w 0 ≠ 1 then s
  else
    let l := s.getLedgers w
    let epoch := l.epoch + 1
    let blank : Ledger := { epoch := epoch }
    let s1 := addFindings w 6 xs (s.putLedgers w blank)
    let n := (s1.getLedgers w).added
    let s2 := s1.modLedgers w fun l => { l with added := 0, first := none, volAdded := false }
    let s3 := ((s2.wr BUP_FDR_STAT_STATE w 0 2).wr BUP_FDR_STAT_PERCENT w 0 100).raise w Leaf.fdrDone
    takeWaferDown w 3 (pcieLost w (fdrJournal w 0 n l.slots.length epoch s3))

def execFdrCommit (w : WaferId) (findings : List TestFinding) (s : State) : Res := .next (fdrCommit w findings s)

/-! ## The field retest (R327) -/

/-- The conditions of R327. -/
def State.retestAllowed (s : State) (w f : Nat) : Bool :=
  decide (f < 72) && bitAt (s.rd BUP_STAT_READY w 0) 4 && !(s.getLedgers w).retired f && (s.partsOfField w f).isEmpty
    && !s.inLive w (fun a => a.hasSpine w f) && !s.otherBusy w

/-- FIELD_RETEST_START: the field's halted domains are freed and what is OFF of it is asked for. -/
def retestStart (w f : Nat) (s : State) : State :=
  if s.rd BUP_RETEST_STAT_STATE w 0 = 1 then s
  else if !s.retestAllowed w f then (s.wr BUP_RETEST_STAT_STATE w 0 4).wr BUP_RETEST_STAT_FIELD w 0 f
  else
    let s1 := ((((s.wr BUP_RETEST_STAT_STATE w 0 1).wr BUP_RETEST_STAT_FIELD w 0 f).wr BUP_RETEST_STAT_NEW w 0 0).wr BUP_STAT_RETEST w 0 1).modBups w fun b =>
      { b with newBefore := s.rd BUP_NEW_RUNTIME w 0 }
    let kids := (spineStages f).flatten.filter fun d => !(s1.getLedgers w).blocks d
    let s2 := forEach ((288 + f) :: kids) s1 fun d t => t.wr PWR_DOM_STAT_HALTED w d 0
    if s2.domState w (288 + f) = 3 then powerUp w kids s2
    else domRequest w (288 + f) 1 (s2.modDoms (domKey w (288 + f)) fun x => { x with children := kids })

def execFieldRetestStart (w : WaferId) (f : BitVec 7) (s : State) : Res := .next (retestStart w f.toNat s)

/-- FIELD_RETEST_DONE: the field's findings of its spine, cores, loft and quadrants, with PHASE 7. -/
def retestDone (w : Nat) (xs : List TestFinding) (cs : List Calibration) (ms : List MonSample) (s : State) : State :=
  if s.rd BUP_RETEST_STAT_STATE w 0 ≠ 1 then s
  else
    let f := s.rd BUP_RETEST_STAT_FIELD w 0
    let s1 := zeroLoft w f 0 0x600000000 s
    let s2 := phase4Steps w 7 (fun g => g == f) (xs.filter fun x => objField x.object.toNat == f) cs ms s1
    let s3 := forEach (List.range 4) s2 fun k t => if t.domState w (4 * f + k) = 3 then forEach (t.quadUnits w (4 * f + k)) t fun u t => t.initCore w f u else t
    let s4 := markUnused w f (deriveLists w s3)
    let s5 := closeEdit w 7 s4
    let retired := (s5.getLedgers w).retired f
    let s6 := ((s5.wr BUP_RETEST_STAT_STATE w 0 (if retired then 3 else 2)).wrSat BUP_RETEST_STAT_NEW w 0 (s5.rd BUP_NEW_RUNTIME w 0 - (s5.getBups w).newBefore)).wr BUP_STAT_RETEST w 0 0
    let s7 := if retired then retireSpines w s6
      else s6.modPlanner fun p => { p with rehearsalUnits := if p.rehearsalUnits.contains (100 + w * 72 + f) then p.rehearsalUnits else p.rehearsalUnits ++ [100 + w * 72 + f] }
    s7.raise w Leaf.retestDone

def execFieldRetestDone (w : WaferId) (findings : List TestFinding) (cals : List Calibration) (baseline : List MonSample) (s : State) : Res :=
  .next (retestDone w findings cals baseline s)

end Sys2Proof.Machine
end

