-- ==== Sys2Proof/Machine/Cues.lean ====
section
/-!
DEFINITION. The cue (R274-R299): slots, rehearsal with its twenty rules, the apply instant with everything that changes at it, disarming, the journal
entry, and the copying of the wings. Open points are in log entry 24.
-/
namespace Sys2Proof.Machine

/-! ## What a cue changes -/

/-- An object is counted if its wings differ from its live copy (R275). -/
def State.counted (s : State) (w : Nat) (o : StObj) : Bool := (s.wreg o.1 w o.2 ^^^ s.reg o.1 w o.2) &&& o.1.st != 0

/-- The register copies that a cue of a scope changes (R274, R275). -/
def State.cueChanges (s : State) (w scope p : Nat) : List StObj := (s.scopeObjs w scope p).filter (s.counted w)

/-- Live and wings copies of a staged object exchange roles (R49). -/
def swapObj (w : Nat) (o : StObj) (s : State) : State :=
  let l := s.reg o.1 w o.2
  let g := s.wreg o.1 w o.2
  let m := o.1.st
  (s.setReg o.1 w o.2 ((l &&& notBits 64 m) ||| (g &&& m))).setWreg o.1 w o.2 ((g &&& notBits 64 m) ||| (l &&& m))

def isReg (r : Reg) (o : StObj) : Bool := o.1.id == r.id

/-- The partitions whose charts, whose quadrant sets, and the fields whose programs a cue changes. -/
def chartsIn (ch : List StObj) : List Nat := (ch.filterMap fun o => if isReg NET_SEAT_DATA o then some (o.2 % 512) else none).eraseDups
def quadSetsIn (ch : List StObj) : List Nat := (ch.filterMap fun o => if isReg PRT_QMASK o then some (o.2 / 9) else none).eraseDups
def progsIn (ch : List StObj) : List Nat := ch.filterMap fun o => if isReg PROG_PTR o then some o.2 else none
def stampsIn (ch : List StObj) : Bool := ch.any fun o => isReg NET_ACT_STAMP o || isReg NET_ACT_GEN o
/-- The partitions whose chart or quadrant set a cue changes (R283, R284). -/
def reseated (ch : List StObj) : List Nat := (chartsIn ch ++ quadSetsIn ch).eraseDups
/-- The register objects, which leave out the charts, the program pointers and the stamp pair (R274). -/
def regsIn (ch : List StObj) : List StObj :=
  ch.filter fun o => !(isReg NET_SEAT_DATA o || isReg PROG_PTR o || isReg NET_ACT_STAMP o || isReg NET_ACT_GEN o)
/-- The number of counted objects (R275). -/
def countObjs (ch : List StObj) : Nat := (regsIn ch).length + (chartsIn ch).length + (progsIn ch).length + b2n (stampsIn ch)

/-- The register at the least window offset (R279). -/
def firstReg (os : List StObj) : Option StObj :=
  os.foldl (fun m o => match m with
    | none => some o
    | some x => if o.1.offsetOf o.2 < x.1.offsetOf x.2 then some o else some x) none

/-- The machine as it would stand after the apply instant, as far as rehearsal reads it (R279, R280). -/
def State.afterCue (s : State) (w : Nat) (ch : List StObj) : State :=
  let s1 := forEach ch s (swapObj w)
  if stampsIn ch then s1.wr NET_ACT_STAT_STAMP w 0 (s1.rd NET_ACT_STAMP_STAMP w 0) else s1

/-! ## Rehearsal rules -/

/-- A rehearsal failure: the rule, the kind of object and its identifier (R279). -/
structure CueErr where
  rule : Nat
  kind : Nat := 7
  id : Nat := 0
deriving DecidableEq, Repr

/-- What rehearsal looks at: the cue, the changes it counts, the machine before it and as it would be after it. -/
structure Reh where
  w : Nat
  scope : Nat
  part : Nat
  slot : Nat
  ch : List StObj
  s : State
  a : State

def firstFail : List (Option CueErr) → Option CueErr
  | [] => none
  | some e :: _ => some e
  | none :: r => firstFail r

/-- The partitions of the scope that are defined after the cue. -/
def Reh.parts (x : Reh) : List Nat := (if x.scope = 0 then [x.part] else allParts).filter (x.a.defined x.w)

/-- A partition's chart, quadrant set or program changes. -/
def Reh.touches (x : Reh) (p : Nat) : Bool :=
  (reseated x.ch).contains p || (progsIn x.ch).any fun f => x.s.fieldInPart false x.w p f || x.a.fieldInPart false x.w p f

def regErr (rule : Nat) (os : List StObj) : Option CueErr := (firstReg os).map fun o => ⟨rule, 1, o.1.offsetOf o.2⟩

/-- Rule 2, HELD. -/
def Reh.held (x : Reh) : Option CueErr := (allParts.find? fun p => x.s.pmt x.w p == 5 && x.touches p).map fun p => ⟨2, 5, p⟩

/-- Rule 3, NOT_READY. -/
def Reh.notReady (x : Reh) : Option CueErr :=
  if bitAt (x.s.rd BUP_STAT_READY x.w 0) 4 then none
  else firstFail [regErr 3 (x.ch.filter fun o => isReg PWR_OPPOINT o || isReg PRT_QMASK o), (progsIn x.ch).head?.map fun f => ⟨3, 3, f⟩]

/-- Rule 4, COORD: what needs the active RMC. -/
def Reh.coord (x : Reh) : Option CueErr :=
  if x.scope = 2 then (if x.s.rd NET_MGMT_PLANNER_OK x.w 0 = 1 then none else some ⟨4, 7, 0⟩)
  else
    let away := fun (v : Nat) => v != 0 && (segOf v).slot != x.w
    let segs := x.ch.filter fun o => isReg NET_SEAT_DATA o && !bitAt o.2 9 && (away (x.s.reg NET_SEAT_DATA x.w o.2) || away (x.a.reg NET_SEAT_DATA x.w o.2))
    firstFail [segs.head?.map fun o => ⟨4, 2, o.2⟩, if stampsIn x.ch then some ⟨4, 4, 8 * x.a.stamp x.w⟩ else none]

/-- The value that a register would have after the cue lies outside what its chapter allows (R75, R209, R374, R437, R485, R489, R501, R543, R545, R552, R557). -/
def rangeBad (a : State) (w : Nat) (o : StObj) : Bool :=
  let out := fun (f : Fld) (lo hi : Nat) => decide (a.rd f w o.2 < lo ∨ hi < a.rd f w o.2)
  let p := o.2
  let valid := a.defined w p
  let rf := a.rd PRT_QCFG_RING_FIELD w p
  let e := 2 ^ a.rd PRT_QCFG_RING_LOG2 w p
  let n := a.rd PRT_QCFG_QUEUES w p
  let base := a.reg PRT_QBASE w p
  let se := a.reg PRT_SE_BASE w p
  let seOn := a.rd PRT_SE_ENABLE w p == 1
  let size := (a.quartersOf w p rf).length * quarterSize
  if isReg PWR_OPPOINT o then out PWR_OPPOINT_POINT 0 2
  else if isReg TRN_CFG o then out TRN_CFG_WINDOW 8 64
  else if isReg PWR_LOOP o then out PWR_LOOP_DWELL 10 255
  else if isReg PWR_DROOP_CFG o then out PWR_DROOP_CFG_MARGIN_MV 20 60 || out PWR_DROOP_CFG_RECOVER_US 20 255
  else if isReg THM_LIMITS o then out THM_LIMITS_HOT_C 70 82 || out THM_LIMITS_HYST_C 1 10
  else if isReg THM_GHOST o then out THM_GHOST_DELAY_S 5 255 || out THM_GHOST_FLOOR_C 35 45
  else if isReg AGE_CFG o then out AGE_CFG_EOL_PPM 10000 65535
  else if isReg PMT_MODE o then a.rd PMT_MODE_SURRENDER_US w p != 0 && out PMT_MODE_SURRENDER_US 5 25
  else if isReg PWR_PART_CFG o then out PWR_PART_CFG_DECL_PCT 0 100
  else if isReg PRT_QCFG o then valid && (out PRT_QCFG_QUEUES 0 64 || out PRT_QCFG_RING_LOG2 4 12 || !(a.fieldInPart false w p rf))
  else if isReg PRT_QBASE o then valid && (base % 4096 != 0 || decide (size < base + n * e * 80))
  else if isReg PRT_SE o then valid && ((seOn && decide (n ≤ a.rd PRT_SE_STEP_Q w p)) || decide (8192 < a.rd PRT_SE_MAX_BATCH w p))
  else if isReg PRT_SE_BASE o then
    valid && (se % 4096 != 0 || (seOn && decide (size < se + 0x11000 ∨ (0 < n ∧ base < se + 0x11000 ∧ se < base + n * e * 80))))
  else if isReg THM_ROT o then
    let segs := a.segs false w p
    let g := a.rd THM_ROT_GROUPS w p + 1
    let len := segs.length / g
    valid && a.rd THM_ROT_ENABLE w p == 1
      && (g == 1 || segs.length % g != 0
        || (List.range segs.length).any fun i => (segs[i]?.map Seg.count) != (segs[i % len]?.map Seg.count) || (segs[i]?.map Seg.slot) != (segs[i / len * len]?.map Seg.slot))
  else false

/-- Rule 7, PART_ALIGN (R279, R372). A partition that the cue leaves alone may lie on a lost spine that the cue's own act excludes: it faults at the apply instant (R229). -/
def Reh.align (x : Reh) : Option CueErr :=
  firstFail (x.parts.map fun p =>
    let qs := x.a.quads x.w p
    let bad := qs.find? fun q =>
      (allParts.any fun r => r != p && x.a.defined x.w r && x.a.quadOf false x.w r q) || x.a.fieldRetired x.w (q / 4)
        || (!x.a.spineOn x.w (q / 4) && !(stampsIn x.ch && !x.touches p && x.a.spineExcluded x.w (x.a.stamp x.w) (q / 4)))
    let h := x.a.reg NET_SEAT_DATA x.w (seatIdx p true 0)
    match bad with
    | some q => some ⟨7, 6, q⟩
    | none => if h ≠ 0 ∧ bits h 36 21 ≠ x.a.rd PRT_DEF_JOB_ID x.w p then some ⟨7, 5, p⟩ else none)

/-- The partitions of the scope whose charts are not empty after the cue. -/
def Reh.charts (x : Reh) : List Nat :=
  (if x.scope = 0 then [x.part] else allParts).filter fun p => x.a.reg NET_SEAT_DATA x.w (seatIdx p true 0) != 0

/-- The first segment that does not continue the run of ranks, or the header if the run does not end at N_RANKS (R214). -/
def coverGo (p n : Nat) : List (Seg × Nat) → Nat → Option Nat
  | [], next => if next = n ∧ 0 < n ∧ n ≤ 2 ^ 20 then none else some (seatIdx p true 0)
  | (g, i) :: r, next => if g.first ≠ next ∨ g.count = 0 ∨ 144 < g.pos + g.count then some (seatIdx p false i) else coverGo p n r (next + g.count)

/-- Rule 8, SEAT_COVER. -/
def coverBad (a : State) (w p : Nat) : Option Nat :=
  let segs := a.segs false w p
  if 16384 < segs.length then some (seatIdx p true 0) else coverGo p (a.nRanks w p) segs.zipIdx 0

def Seg.meets (g h : Seg) : Bool :=
  g.slot == h.slot && g.field == h.field && g.quad == h.quad && decide (g.pos < h.pos + h.count) && decide (h.pos < g.pos + g.count)

/-- Rule 9, SEAT_DUP: the first segment that seats a core again. -/
def dupBad (a : State) (w p : Nat) : Option Nat :=
  let segs := (a.segs false w p).zipIdx
  (segs.find? fun g => segs.any fun h => decide (h.2 < g.2) && g.1.meets h.1).map fun g => seatIdx p false g.2

/-- A physical tile is a hole on its wafer's ledger, or its quadrant or field is lost (R279 rule 10). -/
def State.seatHole (a : State) (slot f quad u : Nat) : Bool :=
  let l := a.getLedgers slot
  a.fieldRetired slot f || l.quadFailed (4 * f + quad)
    || l.all.any fun y => (y.objType == objCore || y.objType == objMesh) && objField y.object == f && objRow y.object == u / 24 && objCol y.object == u % 24

/-- Rule 10, SEAT_HOLE. Seats on other wafers are looked up where the cue changes the chart. -/
def Reh.holeBad (x : Reh) (p : Nat) : Option Nat :=
  let a := x.a
  let w := x.w
  ((a.segs false w p).zipIdx.find? fun g =>
    (g.1.slot == w || (chartsIn x.ch).contains p) && (List.range g.1.count).any fun i => a.seatHole g.1.slot g.1.field g.1.quad (a.seatUnit w g.1 (g.1.first + i))).map fun g => seatIdx p false g.2

/-- A quadrant of a wafer belongs to the partition of the job on that wafer, in the wings where the cue reaches that wafer too (R279 rule 11). -/
def State.jobHolds (a : State) (machine : Bool) (slot job f quad : Nat) : Bool :=
  allParts.any fun r =>
    let d := if machine then a.wreg PRT_DEF slot r else a.reg PRT_DEF slot r
    bitAt d 16 && bits d 15 0 == job && a.quadOf machine slot r (4 * f + quad)

/-- Rule 11, SEAT_PART. Seats on other wafers are looked up where the cue changes the chart. -/
def Reh.partBad (x : Reh) (p : Nat) : Option Nat :=
  let job := x.a.rd PRT_DEF_JOB_ID x.w p
  ((x.a.segs false x.w p).zipIdx.find? fun g =>
    !(if g.1.slot = x.w then decide (g.1.field < 72) && x.a.quadOf false x.w p (4 * g.1.field + g.1.quad)
      else !(chartsIn x.ch).contains p || decide (g.1.slot < 36 ∧ g.1.field < 72) && x.a.jobHolds (x.scope == 2) g.1.slot job g.1.field g.1.quad)).map fun g => seatIdx p false g.2

/-- Rule 12, SEAT_LIMIT. -/
def limitBad (a : State) (w p : Nat) : Option Nat :=
  let segs := (a.segs false w p).zipIdx
  let crowded := segs.find? fun g => decide (4 < (segs.filter fun h => decide (h.2 ≤ g.2) && h.1.first / 256 == g.1.first / 256).length)
  let perField := fun f => (allParts.filter fun r => a.defined w r && a.fieldInPart false w r f).foldl (fun n r => n + a.seatCount false w r) 0
  match crowded with
  | some g => some (seatIdx p false g.2)
  | none => if (a.fields w p).any fun f => decide (16384 < perField f) then some (seatIdx p true 0) else none

/-- A chart rule over the charts of the scope in ascending partition order. -/
def Reh.chartRule (x : Reh) (rule : Nat) (g : Nat → Option Nat) : Option CueErr := firstFail (x.charts.map fun p => (g p).map fun i => ⟨rule, 2, i⟩)

/-- Rule 13, PROGRAM_FIT: the lowest field whose pointer names no program for a seated core or one that does not fit (R279). -/
def Reh.program (x : Reh) : Option CueErr :=
  let seats := x.charts.flatMap fun p => x.a.localSeats x.w p
  (allFields.find? fun f =>
    (seats.any fun y => y.1 == f && (x.a.placedProg x.w f y.2.1).isNone)
      || (seats.any fun y => y.1 == f) && (x.a.getShadows (shadowKey x.w f (x.a.reg PROG_PTR x.w f))).placed.any fun y => decide (3072 < y.2.length)).map
    fun f => ⟨13, 3, f⟩

/-- The identifier of an act table entry: the NET_RT_SEL layout. -/
def actErr (rule kind act f i : Nat) : CueErr := ⟨rule, 4, rtIdx kind act f i⟩

/-- Follow a route from spine to spine: the spine where it breaks the order of R150, if any. `col` says that it has run along a column at this level. -/
def vcWalk (a : State) (w act code : Nat) : Nat → Nat → Nat → Bool → Option Nat
  | 0, f, _, _ => some f
  | n + 1, f, level, col =>
    let e := a.route w 1 act f code
    let out := e % 8
    let row := out == 2 || out == 3
    if out < 2 ∨ 5 < out then none
    else
      let lifts := bitAt e 4 && level == 0
      if lifts && !(row && col) then some f
      else
        let level' := if lifts then 1 else level
        let col' := if lifts then false else col
        if row && col' then some f
        else match a.flyExit w act ((out - 2) * 2 + bits e 3 3) code (out - 2) 9 f with
          | none => none
          | some g => vcWalk a w act code n g level' (!row)

/-- The port on which a torus route toward a slot leaves the wafer (R190). -/
def torusPort (w d : Nat) : Nat :=
  let dc := (d % 6 + 6 - w % 6) % 6
  let dr := (d / 6 + 6 - w / 6) % 6
  if dc ≠ 0 then (if dc ≤ 3 then 17 else 19) else if dr ≤ 3 then 18 else 16

def State.inSpines (a : State) (w act : Nat) : List Nat := allFields.filter fun f => !a.spineExcluded w act f

/-- Rule 14, ACT_DEADLOCK. -/
def deadlockBad (a : State) (w act : Nat) : Option CueErr :=
  let others := (List.range 36).filter fun d => d != w
  let sides := others.flatMap fun d => (List.range 4).filterMap fun c =>
    if a.route w 0 act 0 (d * 4 + c) / 65536 % 16 &&& notBits 4 (2 ^ (torusPort w d - 16)) = 0 then none else some (actErr 14 0 act 0 (d * 4 + c))
  let spines := a.inSpines w act
  let walks := spines.flatMap fun f => (List.range 84).filterMap fun c =>
    if c < 72 ∧ a.spineExcluded w act c = true then none
    else match vcWalk a w act c 64 f 0 false with
      | some g => some (actErr 14 1 act g c)
      | none => if f = 54 ∨ f = 18 then (vcWalk a w act c 64 f 1 false).map fun g => actErr 14 1 act g c else none
  let turns := [18, 54].flatMap fun f => others.filterMap fun d =>
    let v := a.route w 5 act f d % 32
    if v = 0 ∨ v = torusPort w d then none else if 16 ≤ v then some (actErr 14 5 act f d) else none
  (sides ++ walks ++ turns).head?

/-- The ports that the act routes to. -/
def State.actPorts (a : State) (w act : Nat) : List Nat :=
  allPorts.filter fun p => (List.range 144).any fun i => bitAt (a.route w 0 act 0 i) p

def State.tapParent (a : State) (w act p f : Nat) : Nat := a.route w 4 act f p % 128

/-- The way up a port's tree ends at the root, over spines of the act and at most eight taps (R139, R140). -/
def climbs (a : State) (w act p : Nat) : Nat → Nat → Bool
  | 0, _ => false
  | n + 1, f =>
    let up := a.tapParent w act p f
    if f = portField p then up == 127 else decide (up < 72) && !a.spineExcluded w act up && climbs a w act p n up

/-- The inbound next hops of a port's tree lead from a tap down to a field. -/
def descends (a : State) (w act p dest : Nat) : Nat → Nat → Bool
  | 0, _ => false
  | n + 1, f =>
    let x := a.route w 3 act f (p * 128 + dest) % 128
    if x = f then f == dest else decide (x < 72) && a.tapParent w act p x == f && descends a w act p dest n x

/-- Rule 15, ACT_TREE. -/
def treeBad (a : State) (w act : Nat) : Option CueErr :=
  let spines := a.inSpines w act
  ((a.actPorts w act).flatMap fun p => spines.filterMap fun f =>
    if climbs a w act p 8 f = false ∨ 8 < (spines.filter fun g => g != portField p && a.tapParent w act p g == f).length then some (actErr 15 4 act f p)
    else if descends a w act p f 8 (portField p) = false then some (actErr 15 3 act f (p * 128 + f))
    else none).head?

/-- Rule 16, ACT_MEMBER, of a stamped act (R227, R232, R279). R227 is about spines that still work: one that is lost must leave the act whatever it carries (R229). -/
def memberBad (a : State) (w act : Nat) : Option CueErr :=
  let r := a.getActs act
  let dead := fun (p : Nat) => !(a.rd LNK_STAT_STATE w p == 2 || a.rd LNK_STAT_STATE w p == 3) || a.rd LNK_STAT_MISCABLED w p == 1
  let ports := (List.range 36).flatMap fun d => (List.range 4).filterMap fun c =>
    let m := a.route w 0 act 0 (d * 4 + c) % 2 ^ 20
    if m ≠ 0 ∧ ((allPorts.any fun p => bitAt m p && dead p) ∨ bitAt r.wafers d = false) then some (actErr 16 0 act 0 (d * 4 + c)) else none
  let out := allFields.filter fun f => a.spineExcluded w act f
  let held := (out.filter (a.spineOn w)).flatMap fun f => (List.range 4).filterMap fun k => (a.partOfQuad w (4 * f + k)).map fun p => (⟨16, 5, p⟩ : CueErr)
  let bridge := if out.contains (hostBridge (a.rd BUP_STAT_HOST w 0)) && a.spineOn w (hostBridge (a.rd BUP_STAT_HOST w 0)) then [actErr 16 1 act (hostBridge (a.rd BUP_STAT_HOST w 0)) 0] else []
  let through := (a.inSpines w act).flatMap fun f => (List.range 84).filterMap fun c =>
    let e := a.route w 1 act f c
    if 2 ≤ e % 8 ∧ e % 8 ≤ 5 then
      match a.flyExit w act ((e % 8 - 2) * 2 + bits e 3 3) c (e % 8 - 2) 9 f with
      | some g => if out.contains g then some (actErr 16 1 act f c) else none
      | none => none
    else none
  let transit := [18, 54].flatMap fun f => (List.range 36).filterMap fun d =>
    let v := a.route w 5 act f d % 32
    if 16 ≤ v ∧ v < 20 ∧ dead v = true then some (actErr 16 5 act f d) else none
  (ports ++ through ++ transit ++ held ++ bridge).head?

/-- Rule 16 of a cue that places a partition on a field in rehearsal status or outside the act (R334). -/
def Reh.fieldOut (x : Reh) : Option CueErr :=
  let act := x.a.stamp x.w
  let admitted := fun (f : Nat) => stampsIn x.ch && (x.a.getActs act).hasSpine x.w f
  ((reseated x.ch).flatMap fun p => (x.a.quads x.w p).filterMap fun q =>
    if x.s.rack.planner.rehearsalUnits.contains (100 + x.w * 72 + q / 4) = true ∧ admitted (q / 4) = false then some (⟨16, 6, q⟩ : CueErr)
    else if 3 ≤ x.a.actState x.w act ∧ x.a.spineExcluded x.w act (q / 4) = true then some ⟨16, 6, q⟩ else none).head?

/-- Rules 14 to 17, for a cue that stamps an act. -/
def Reh.actRules (x : Reh) : Option CueErr :=
  if stampsIn x.ch then
    let act := x.a.stamp x.w
    let seq := x.a.rd NET_ACT_GEN_GEN x.w 0 < x.s.rd NET_ACT_GEN_GEN x.w 0 ∨ (x.s.getSlots (x.w * 8 + x.slot)).lockedAct ≠ some act
      ∨ (x.s.rd CUE_SSTAT_SCHED x.w x.slot = 1 ∧ (x.s.getSlots (x.w * 8 + x.slot)).time < x.s.reg NET_ACT_APPLY_TIME x.w 0 + 20000 ∧ x.s.reg NET_ACT_APPLY_TIME x.w 0 ≠ 0)
    firstFail [deadlockBad x.a x.w act, treeBad x.a x.w act, memberBad x.a x.w act, x.fieldOut, if seq then some ⟨17, 4, 8 * act⟩ else none]
  else x.fieldOut

/-- Rule 18, POWER (R279, R501). -/
def Reh.power (x : Reh) : Option CueErr :=
  let point := x.a.rd PWR_OPPOINT_POINT x.w 0
  let total := (allParts.filter (x.a.defined x.w)).foldl (fun n p => n + declared (x.a.reg PWR_PART_CFG x.w p) (x.a.quads x.w p).length point) 0
  if x.a.rd PWR_CAP_EFF_EFF_W x.w 0 * 10000000 < total + (x.a.getMeters x.w).standingDraw then some ⟨18, 7, 0⟩ else none

/-- Rule 19, TIME. -/
def Reh.timing (x : Reh) : Option CueErr :=
  let c := x.s.getSlots (x.w * 8 + x.slot)
  let sched := x.s.rd CUE_SSTAT_SCHED x.w x.slot = 1
  if (sched ∧ (c.time < x.s.tbNow x.w + 10000 ∨ c.startTb + 60000000000 < c.time)) ∨ (x.scope = 2 ∧ x.s.quality x.w = 2) then some ⟨19, 7, 0⟩ else none

/-- The first failure of rehearsal, in the order of R279's table. -/
def Reh.verdict (x : Reh) : Option CueErr :=
  firstFail
    [x.held, x.notReady, x.coord, if 4096 < countObjs x.ch then some ⟨5, 7, 0⟩ else none,
     regErr 6 ((x.a.scopeObjs x.w x.scope x.part).filter (rangeBad x.a x.w)), x.align,
     x.chartRule 8 (coverBad x.a x.w), x.chartRule 9 (dupBad x.a x.w), x.chartRule 10 x.holeBad, x.chartRule 11 x.partBad,
     x.chartRule 12 (limitBad x.a x.w), x.program, x.actRules, x.power, x.timing]

/-- A chart's digest (R280). -/
def State.chartDigest (s : State) (w p : Nat) : Nat :=
  if s.wreg NET_SEAT_DATA w (seatIdx p true 0) = 0 then 0
  else ofLeBytes ((sha256 (leBytes 8 (s.wreg NET_SEAT_DATA w (seatIdx p true 0))
    ++ (List.range (s.seatCount true w p)).flatMap fun i => leBytes 8 (s.wreg NET_SEAT_DATA w (seatIdx p false i)))).take 8)

/-! ## Ending a cue -/

/-- Wafer status of scheduled cues (R298): whether one is armed. -/
def schedSync (w : Nat) (s : State) : State :=
  s.wr TB_STAT_SCHED_ARMED w 0 (b2n ((List.range 8).any fun c => s.rd CUE_SSTAT_STATE w c == 3 && s.rd CUE_SSTAT_SCHED w c == 1))

/-- The digest that a cue of a slot journals, and the scope's digest cleared (R291). -/
def State.cueDigest (s : State) (w c : Nat) : List Nat :=
  let u := s.getCueUnits w
  if s.rd CUE_SSTAT_SCOPE w c = 0 then mget [] u.partDigest (s.rd CUE_SSTAT_PART w c) else u.waferDigest

/-- Record a cue's journal entry (R290). -/
def journalCue (w c outcome time id : Nat) (s : State) : State :=
  let src := s.rd CUE_SSTAT_SOURCE w c
  let scope := s.rd CUE_SSTAT_SCOPE w c
  let word5 := s.rd CUE_SFAIL_RULE w c + s.rd CUE_SFAIL_OBJ_KIND w c * 2 ^ 8 + c * 2 ^ 12 + s.rd CUE_SSTAT_SCHED w c * 2 ^ 15 + s.rd CUE_SFAIL_OBJECTS w c * 2 ^ 16
  let seq := (s.getJournals w).next
  (s.journalAt time w 1 src scope outcome (if scope = 0 then s.rd CUE_SSTAT_PART w c else 0) [word5, id, s.reg CUE_SUS w c] (s.cueDigest w c)).setReg CUE_SJSEQ w c seq

/-- The act that a slot locked returns to LOADING (R218). -/
def unlockAct (w c : Nat) (s : State) : State :=
  match (s.getSlots (w * 8 + c)).lockedAct with
  | some t => (if s.actState w t = 2 then s.setActState w t 1 else s).modSlots (w * 8 + c) fun x => { x with lockedAct := none }
  | none => s

/-- The time that a slot has spent in WAITING and REHEARSING, in microseconds rounded up (R290). -/
def noteTime (w c : Nat) (s : State) : State := s.wrSat CUE_SUS_US w c ((s.now - (s.getSlots (w * 8 + c)).started + 999) / 1000)

/-- A rotation whose cue came to nothing is skipped, and due again (R547). -/
def rotationSkipped (w p : Nat) (s : State) : State :=
  ((accrue w s).bump THM_ROT_STAT_SKIPPED w p 1).modPart w p fun x => { x with rotationDue := true, rotating := false }

/-- What ending a slot without applying it does to a rotation. -/
def dropRotation (w c : Nat) (s : State) : State :=
  match (s.getSlots (w * 8 + c)).rotation with
  | some p => (rotationSkipped w p s).modSlots (w * 8 + c) fun x => { x with rotation := none }
  | none => s

/-- A cue fails rehearsal (R282, R290). -/
def failCue (w c : Nat) (e : CueErr) (s : State) : State :=
  let s1 := (((noteTime w c s).wr CUE_SSTAT_STATE w c 6).wr CUE_SFAIL_RULE w c e.rule).wr CUE_SFAIL_OBJ_KIND w c e.kind
  let s2 := unlockAct w c (s1.setReg CUE_SOBJ w c e.id)
  let s3 := (dropRotation w c s2).modSlots (w * 8 + c) fun x => { x with waitParts := [] }
  (journalCue w c 1 (s3.tbNow w) e.id s3).raiseS w c Leaf.cueFail

/-- A cue is disarmed (R287): only a slot that waits, rehearses or is armed. -/
def disarm (w c why rule : Nat) (s : State) : State :=
  let st := s.rd CUE_SSTAT_STATE w c
  if st = 0 ∨ 3 < st then s
  else
    let s0 := if st = 3 then s else noteTime w c s
    let s1 := ((s0.wr CUE_SSTAT_STATE w c 7).wr CUE_SSTAT_DISARM_WHY w c why).wr CUE_SFAIL_RULE w c rule
    let s2 := (dropRotation w c (unlockAct w c s1)).modSlots (w * 8 + c) fun x => { x with waitParts := [], go := false }
    schedSync w ((journalCue w c 2 (s2.tbNow w) 0 s2).raiseS w c Leaf.cueDisarm)

/-! ## Starting a cue -/

/-- Begin a cue in a slot (R276, R278): it fails under OVERLAP, waits for a load, or rehearses. -/
def beginCue (w c scope p sched source time mid : Nat) (rotation : Option Nat) (s0 : State) : State :=
  let s := ghostExit w s0
  let busy := (List.range 8).any fun d => d != c && decide (1 ≤ s.rd CUE_SSTAT_STATE w d ∧ s.rd CUE_SSTAT_STATE w d ≤ 4)
    && s.scopesMeet w scope p (s.rd CUE_SSTAT_SCOPE w d) (s.rd CUE_SSTAT_PART w d)
  let waits := match (s.getCueUnits w).loadLock with
    | some (ls, lp) => s.scopesMeet w scope p ls lp
    | none => false
  let stat := (if waits && !busy then 1 else 2) + scope * 2 ^ 4 + p * 2 ^ 6 + sched * 2 ^ 15 + source * 2 ^ 16
  let s1 := (((((s.setReg CUE_SSTAT w c stat).setReg CUE_SFAIL w c 0).setReg CUE_SOBJ w c 0).setReg CUE_SUS w c 0).setReg CUE_STIME w c 0).putSlots (w * 8 + c) {
    time := time, mid := mid, started := s.now, startTb := s.tbNow w, rotation := rotation, waitParts := rotation.toList }
  if busy then failCue w c ⟨1, 7, 0⟩ s1 else if waits then s1 else lockStamp w c s1

/-- The slot that a cue of the wafer's own takes (R276). -/
def State.ownSlot (s : State) (w : Nat) : Option Nat :=
  [7, 6, 5, 4, 3, 2, 1].find? fun c => s.rd CUE_SSTAT_STATE w c == 0 || decide (5 ≤ s.rd CUE_SSTAT_STATE w c)

/-- A cue that the wafer itself starts, immediate (R261, R276, R546). -/
def ownCue (w scope p : Nat) (rotation : Option Nat) (s : State) : State :=
  match s.ownSlot w with
  | some c => beginCue w c scope p 0 3 0 0 rotation s
  | none => s.raise w Leaf.noSlot

/-- A write of CUE_CTRL with START (R276, R277), the fields being written. -/
def startCue (w path : Nat) (s : State) : State :=
  let c := s.rd CUE_CTRL_SLOT w 0
  let scope := s.rd CUE_CTRL_SCOPE w 0
  let p := s.rd CUE_CTRL_PART w 0
  let sched := s.rd CUE_CTRL_SCHED w 0
  let st := s.rd CUE_SSTAT_STATE w c
  if scope = 3 ∨ (scope = 0 ∧ 287 < p) ∨ (c = 0 ∧ scope ≠ 2) ∨ (c ≠ 0 ∧ scope = 2) ∨ (1 ≤ st ∧ st ≤ 4) ∨ (scope = 2 ∧ sched = 0) then s.raise w Leaf.badStart
  else if scope = 2 ∧ (s.getCueUnits w).lastMid = some (s.reg CUE_MID w 0) then s.bump CUE_DUP_COUNT w 0 1
  else beginCue w c scope (if scope = 0 then p else 0) sched path (s.reg CUE_TIME w 0) (s.reg CUE_MID w 0) none s

/-- A write of CUE_CTRL: its fields, then START, then DISARM. -/
def cueCtrl (w path v : Nat) (s : State) : State :=
  let s1 := s.setReg CUE_CTRL w 0 (v &&& CUE_CTRL.rw)
  let s2 := if bitAt v 16 then startCue w path s1 else s1
  let c := bits v 2 0
  let rule := bits v 31 24
  if bitAt v 17 then disarm w c (if rule ≠ 0 ∧ s2.rd CUE_SSTAT_SCOPE w c = 2 then 4 else 1) rule s2 else s2

/-- CUE_START (R276): the write of CUE_CTRL with START = 1. -/
def execCueStart (w : WaferId) (path : PathId) (v : Word32) (s : State) : Res := .next (cueCtrl w path (v.toNat ||| 0x10000) s)

/-- CUE_DISARM (R287): the write of CUE_CTRL with DISARM = 1. -/
def execCueDisarm (w : WaferId) (path : PathId) (v : Word32) (s : State) : Res :=
  .next (cueCtrl w path ((v.toNat &&& notBits 32 0x10000) ||| 0x20000) s)

/-! ## Rehearsal -/

/-- REHEARSAL_DONE (R279-R283): the rules are evaluated, and the cue arms or fails. -/
def rehearsalDone (w c : Nat) (s : State) : State :=
  if s.rd CUE_SSTAT_STATE w c ≠ 2 then s
  else
    let scope := s.rd CUE_SSTAT_SCOPE w c
    let p := s.rd CUE_SSTAT_PART w c
    let ch := s.cueChanges w scope p
    let x : Reh := ⟨w, scope, p, c, ch, s, s.afterCue w ch⟩
    let s1 := s.wr CUE_SFAIL_OBJECTS w c (min (countObjs ch) 8191)
    let s2 := s1.modCueUnits w fun u => { u with
      chartDigests := (if scope = 0 then [p] else allParts).foldl (fun m q => mset 0 m q (s.chartDigest w q)) u.chartDigests }
    match x.verdict with
    | some e => failCue w c e s2
    | none =>
      let s3 := (noteTime w c s2).wr CUE_SSTAT_STATE w c 3
      let slot := s.getSlots (w * 8 + c)
      if s.rd CUE_SSTAT_SCHED w c = 1 then schedSync w (s3.setReg CUE_STIME w c slot.time)
      else s3.modSlots (w * 8 + c) fun y => { y with waitParts := if slot.rotation.isSome then slot.waitParts else reseated ch }

def execRehearsalDone (w : WaferId) (c : Fin 8) (s : State) : Res := .next (rehearsalDone w c s)

/-- REHEARSAL_TIMEOUT (R279 rule 20): the slot has waited and rehearsed for more than 2 s. -/
def rehearsalTimeout (w c : Nat) (s : State) : State :=
  let st := s.rd CUE_SSTAT_STATE w c
  if st = 1 ∨ st = 2 then failCue w c ⟨20, 7, 0⟩ s else s

def execRehearsalTimeout (w : WaferId) (c : Fin 8) (s : State) : Res := .next (rehearsalTimeout w c s)

/-! ## The apply instant -/

/-- The wafers, planes and links of an act as a member wafer shows them (R39). -/
def showAct (w : Nat) (r : Act) (s : State) : State :=
  let planes := (List.range 16).foldl (fun n p => if bitAt r.planes p && r.hasPort w p then n + 2 ^ p else n) 0
  let sides := [16, 17, 18, 19].foldl (fun n p =>
    if bitAt r.wafers (neighbour w p) && r.hasPort w p && r.hasPort (neighbour w p) (oppositePort p) then n + 2 ^ p else n) 0
  ((s.setReg NET_MEMBERS_LO w 0 (r.wafers % 2 ^ 32)).setReg NET_MEMBERS_HI w 0 (r.wafers / 2 ^ 32 % 16)).setReg NET_LINKS_USED w 0 (planes + sides)

/-- The streams between a wafer and the wafers that an act admits reset (R191). -/
def admitStreams (w : Nat) (new : Nat → Bool) (s : State) : State :=
  let sel := fun (k : Nat) =>
    let a := streamNi k / 128
    let b := streamPeer k % 64
    (a == w || b == w) && (new a || new b)
  resetRecvs sel (resetSends sel s)

/-- The stamp of a new act applies on a wafer (R24, R218, R220-R222, R229, R232): NIs stamp its bit, the old act drains, and partitions that have lost a
wafer or a spine fault. -/
def stampApply (w time : Nat) (s : State) : State :=
  let t := s.rd NET_ACT_STAMP_STAMP w 0
  let old := s.liveAct? w
  let r := s.getActs t
  let had := match old with | some o => (s.getActs o).wafers | none => 0
  let s1 := s.setActState w t 3
  let s2 := match old with | some o => if o = t then s1 else s1.setActState w o 4 | none => s1
  let f := s2.fresh
  let s3 := (((f.2.wr NET_ACT_STAT_STAMP w 0 t).wr NET_ACT_STAT_LOCAL_QUIET w 0 0).setReg NET_ACT_APPLY_TIME w 0 time).wr NET_ACT_DRAIN_LPATH_NS w 0 (f.1 % 65536)
  let s4 := showAct w r (s3.wr NET_ACT_DRAIN_DRAIN_MAX_MS w 0 s3.rack.planner.drainMaxMs)
  let inNew := bitAt r.wafers w
  let s5 := if inNew then s4.wr NET_MGMT_REHEARSAL_STATUS w 0 0 else s4
  let s6 := admitStreams w (fun x => bitAt r.wafers x && !bitAt had x) s5
  let s7 := s6.modPlanner fun p => { p with
    liveAct := t, step := if p.step = .none then .none else .draining, drainQuiet := []
    rehearsalUnits := p.rehearsalUnits.filter fun u =>
      if u < 100 then !bitAt r.planes u else !(decide ((u - 100) / 72 = w) && r.hasSpine w ((u - 100) % 72)) }
  let lost := allParts.filter fun p => s7.defined w p && (s7.segs false w p).any fun g => g.slot != w && bitAt had g.slot && !bitAt r.wafers g.slot
  let s8 := forEach lost s7 fun p u => partFault w p 1 u
  let gone := allFields.filter fun f => !r.hasSpine w f && (match old with | some o => (s.getActs o).hasSpine w f | none => true)
  forEach (gone.flatMap fun f => s8.partsOfField w f) s8 fun p u => if u.partState w p = 3 then u else partFault w p 3 u

/-- What a partition's new definition, chart or quadrants bring (R375, R443, R476, R492, R502). -/
def partChanged (w p : Nat) (defined0 : Bool) (job0 : Nat) (defOrChart : Bool) (s : State) : State :=
  let now := s.defined w p
  let s1 := if now && (!defined0 || job0 != s.rd PRT_DEF_JOB_ID w p) then telReset w p s else s
  let st := s1.partState w p
  if !now then (if st = 4 then s1 else s1.setPartState w p 0)
  else if st = 0 then s1.setPartState w p 1
  else if st = 3 ∧ defOrChart = true then (resetStreams w p (s1.setPartState w p 1)).wr PRT_FAULT_CAUSE w p 0
  else s1

/-- A quadrant's holder has changed (R467, R476, R502): the loop's groups are released, and an ON request follows for a quadrant that is now held. -/
def holderChanged (w q : Nat) (s : State) : State :=
  let s1 := forEach ((List.range 9).filter fun k => bitAt (s.getParks (parkKey w q)).cap k) s fun k t => capRelease w (q, k) t
  let s2 := setParkReq w q (fun k => { k with smc := s1.smcWant w q }) s1
  if (s2.partOfQuad w q).isSome ∧ s2.domState w q ≠ 3 then domRequest w q 1 s2 else s2

/-- The operating point takes its new value and the supplies start to slew (R76, R488). -/
def pointChanged (w old : Nat) (s : State) : State :=
  let new := s.rd PWR_OPPOINT_POINT w 0
  let field := if new = 0 then PWR_QTRIM_LIM_L else if new = 1 then PWR_QTRIM_LIM_N else PWR_QTRIM_LIM_H
  let limited := ((List.range 288).filter fun q => s.rd field w q == 1).length
  pointRaise w old new (((s.wr PWR_OPP_STAT_POINT w 0 new).wr PWR_OPP_STAT_IN_TRANSITION w 0 1).wr PWR_OPP_STAT_TRIM_LIMITED w 0 limited)

/-- A program pointer becomes live (R251): the cores that the new shadow places fill before their next command. -/
def programLive (w f : Nat) (s : State) : State :=
  let k := shadowKey w f (s.reg PROG_PTR w f)
  let sh := s.getShadows k
  (forEach sh.fresh s fun u t => t.modCore w f u fun c => { c with refill := true }).putShadows k { sh with fresh := [] }

/-- Apply an armed cue (R49, R76, R251, R283-R286): the copies exchange roles, and everything that depends on them follows. -/
def applyCue (w c : Nat) (s0 : State) : State :=
  let scope := s0.rd CUE_SSTAT_SCOPE w c
  let p := s0.rd CUE_SSTAT_PART w c
  let time := s0.tbNow w
  let ch := s0.cueChanges w scope p
  let cut := (reseated ch).filter fun r => (s0.part w r).cmd.isSome && s0.pmt w r != 5
  let s1 := accrue w (forEach cut s0 fun r t => cutRunning w r t)
  let holders := (List.range 288).map fun q => s1.partOfQuad w q
  let heldBefore := if (quadSetsIn ch).isEmpty ∧ (ch.all fun o => !isReg PRT_DEF o) then [] else holders
  let touched := allParts.filter fun r => (reseated ch).contains r || ch.any fun o => isReg PRT_DEF o && o.2 == r
  let before := touched.map fun r => (r, s1.defined w r, s1.rd PRT_DEF_JOB_ID w r)
  let x : Reh := ⟨w, scope, p, c, ch, s1, s1.afterCue w ch⟩
  let held := allParts.filter fun r => s1.pmt w r == 5 && x.touches r
  let s2 := forEach held s1 fun r t => heldCueCut w r t
  let point0 := s2.rd PWR_OPPOINT_POINT w 0
  let ghost0 := s2.rd THM_GHOST_ENABLE w 0
  let s3 := forEach ch s2 (swapObj w)
  let s4 := (((s3.wr CUE_SSTAT_STATE w c 4).setReg CUE_STIME w c time).modSlots (w * 8 + c) fun y => { y with waitParts := [], go := false, lockedAct := none })
  let s5 := forEach (progsIn ch) s4 fun f t => programLive w f t
  let s6 := forEach before s5 fun r t => partChanged w r.1 r.2.1 r.2.2 (ch.any fun o => (isReg PRT_DEF o && o.2 == r.1) || (isReg NET_SEAT_DATA o && o.2 % 512 == r.1)) t
  let s7 := forEach ((heldBefore.zipIdx.filter fun h => s6.partOfQuad w h.2 != h.1).map fun h => h.2) s6 fun q t => holderChanged w q t
  let s8 := if stampsIn ch then stampApply w time s7 else s7
  let s9 := if ch.any (isReg PWR_OPPOINT) then pointChanged w point0 s8 else s8
  let s10 := if ghost0 = 1 ∧ s9.rd THM_GHOST_ENABLE w 0 = 0 then ghostExit w s9 else s9
  let s11 := if scope = 2 then
      (s10.modCueUnits w fun u => { u with lastMid := some (s0.getSlots (w * 8 + c)).mid }).modWafers w fun x => { x with outOfStep := false }
    else s10
  schedSync w s11

/-- CUE_APPLY (R283): an armed immediate cue applies once every partition it re-seats stands between steps. -/
def cueApply (w c : Nat) (s : State) : State :=
  if s.rd CUE_SSTAT_STATE w c = 3 ∧ s.rd CUE_SSTAT_SCHED w c = 0 ∧ (s.getSlots (w * 8 + c)).waitParts.all (fun p => (s.part w p).cmd.isNone || s.pmt w p == 5) = true
  then applyCue w c s else s

def execCueApply (w : WaferId) (c : Fin 8) (s : State) : Res := .next (cueApply w c s)

/-- SCHED_CUE_VALUE (R34, R284, R630): the counter reaches an armed cue's value. A machine cue without its go frame is disarmed with NO_GO, and a wafer that missed
a frame that was sent is out of step. -/
def schedCueValue (w c : Nat) (s : State) : State :=
  let slot := s.getSlots (w * 8 + c)
  if s.rd CUE_SSTAT_STATE w c ≠ 3 ∨ s.rd CUE_SSTAT_SCHED w c = 0 ∨ s.tbNow w < slot.time then s
  else if s.rd CUE_SSTAT_SCOPE w c = 2 ∧ slot.go = false then
    let s1 := if s.rack.planner.goSent.contains slot.mid then s.modWafers w fun x => { x with outOfStep := true } else s
    disarm w c 2 24 s1
  else applyCue w c s

def execSchedCueValue (w : WaferId) (c : Fin 8) (s : State) : Res := .next (schedCueValue w c s)

/-- A rotation has applied (R546). -/
def rotationDone (w p : Nat) (s : State) : State :=
  let s1 := (s.bump THM_ROT_STAT_DONE w p 1).modPart w p fun x => { x with rotationDue := false, earlyRotation := false, lastRotation := s.now }
  forEach (s.quads w p) s1 fun q t => t.putAgeQs (parkKey w q) { t.getAgeQs (parkKey w q) with tjSum := 0, tjCount := 0 }

/-- WINGS_COPY_DONE (R49, R286, R290, R291): the new live values are in the wings, and the cue is done. -/
def wingsCopyDone (w c : Nat) (s : State) : State :=
  if s.rd CUE_SSTAT_STATE w c ≠ 4 then s
  else
    let scope := s.rd CUE_SSTAT_SCOPE w c
    let p := s.rd CUE_SSTAT_PART w c
    let s1 := (s.liveToWings w (s.scopeObjs w scope p)).wr CUE_SSTAT_STATE w c 5
    let s2 := journalCue w c 0 (s1.reg CUE_STIME w c) (if scope = 2 then (s1.getSlots (w * 8 + c)).mid else 0) s1
    let s3 := s2.modCueUnits w fun u =>
      if scope = 0 then { u with partDigest := mset [] u.partDigest p [] } else { u with waferDigest := [], partDigest := [] }
    let s4 := match (s3.getSlots (w * 8 + c)).rotation with
      | some r => (rotationDone w r s3).modSlots (w * 8 + c) fun x => { x with rotation := none }
      | none => s3
    s4.raiseS w c Leaf.cueDone

def execWingsCopyDone (w : WaferId) (c : Fin 8) (s : State) : Res := .next (wingsCopyDone w c s)

end Sys2Proof.Machine
end

