-- ==== Sys2Proof/Machine/Steps.lean ====
section
/-!
DEFINITION. What joins cues with the rest of the wafer: the end of a load, machine-scope cues as the active RMC carries them out, step boundaries with
rotation, and the curtain. Open points are in log entry 24.
-/
namespace Sys2Proof.Machine

/-! ## The end of a load -/

/-- A load completes, and starts its cue if AUTO_CUE asked for one (R260, R261). -/
def loadComplete (w : Nat) (s : State) : State :=
  let l := s.getLoads w
  let s1 := loadDone w s
  if l.autoCue then ownCue w (b2n l.wafer) (if l.wafer then 0 else l.part) none s1 else s1

/-- IMAGE_EXPANSION_DONE (R256, R260): the expansion is written. `bad` is a source line that the loft found uncorrectable. -/
def imageExpanded (w : Nat) (bad : Option Nat) (s0 : State) : State :=
  if s0.rd IMG_STAT_STATE w 0 ≠ 2 then s0
  else
    let l := s0.getLoads w
    let s := match bad with | some b => loftUncorrectable w l.field (b / 64 * 64) 5 noPart s0 | none => s0
    if s.sourceBad w bad 0 l.len then failLoad w ⟨23, 9, 0, 0⟩ s
    else
      let img := s.source w
      let s1 := expand w l img s
      if s1.rd IMG_STAT_STATE w 0 ≠ 2 then s1
      else match sectOf img 3 with
        | some _ => s1.wr IMG_STAT_STATE w 0 5
        | none => loadComplete w s1

def execImageExpansionDone (w : WaferId) (bad : Option (BitVec 35)) (s : State) : Res := .next (imageExpanded w (bad.map BitVec.toNat) s)

/-- ACTS_HANDOVER_ACK (R253, R260): the active RMC takes the section for the next act it builds. -/
def actsHandoverAck (w : Nat) (s : State) : State :=
  if s.rd IMG_STAT_STATE w 0 ≠ 5 ∨ s.rack.planner.haveActive = false then s
  else
    let img := s.source w
    let bytes := match sectOf img 3 with | some x => sliceOf img x.off x.len | none => []
    loadComplete w (s.modPlanner fun p => { p with
      handed := mset [] p.handed w bytes, queue := if p.queue.length < 16 then p.queue ++ [.routes w] else p.queue
      actFaults := if p.queue.length < 16 then p.actFaults else p.actFaults + 1 })

def execActsHandoverAck (w : WaferId) (s : State) : Res := .next (actsHandoverAck w s)

/-- ACTS_ACK_TIMEOUT (R262). -/
def actsAckTimeout (w : Nat) (s : State) : State := if s.rd IMG_STAT_STATE w 0 = 5 then failLoad w ⟨22, 9, 0, 0⟩ s else s

def execActsAckTimeout (w : WaferId) (s : State) : Res := .next (actsAckTimeout w s)

/-! ## Machine-scope cues -/

def State.memberList (mask : Nat) : List Nat := allWafers.filter fun w => bitAt mask w

/-- The RMC starts slot 0 on every member wafer (R288); a rotation of a job of several wafers holds its lead at a step boundary (R548). -/
def machineCueStart (members time mid : Nat) (s : State) : State :=
  if !s.rack.planner.haveActive then s
  else
    let ws := (State.memberList members).filter fun w => (s.getWafers w).powered
    let s1 := forEach ws s fun w t => cueCtrl w 1 (0x10000 + 0x8000 + 0x20) ((t.setReg CUE_TIME w 0 time).setReg CUE_MID w 0 mid)
    let s2 := match s1.rack.planner.rotation with
      | some (w, p) => if ws.contains w ∧ 1 ≤ s1.rd CUE_SSTAT_STATE w 0 ∧ s1.rd CUE_SSTAT_STATE w 0 ≤ 2 then
          s1.modSlots (w * 8) fun x => { x with waitParts := [p], rotation := some p } else s1
      | none => s1
    s2.modPlanner fun p => { p with cueMid := mid, cueTime := time, cueActive := true, cueMembers := members, rotation := none }

/-- MACHINE_CUE_START (R288). -/
def execMachineCueStart (members : BitVec 36) (time : BitVec 64) (mid : Word32) (s : State) : Res :=
  .next (machineCueStart members.toNat time.toNat mid.toNat s)

/-- The RMC disarms slot 0 on the members that armed, with a code (R289). -/
def machineDisarm (code : Nat) (s : State) : State :=
  let armed := (State.memberList s.rack.planner.cueMembers).filter fun w => s.rd CUE_SSTAT_STATE w 0 == 3 && (s.getSlots (w * 8)).mid == s.rack.planner.cueMid
  (forEach armed s fun w t => cueCtrl w 1 (code * 2 ^ 24 + 0x20000 + 0x8000 + 0x20) t).modPlanner fun p => { p with
    cueActive := false, step := if p.step = .rehearsing then .built else p.step }

/-- The partitions defined in the wings of a wafer, with job, lead slot, mode and the chart digest rehearsed (R289). -/
def State.stagedJobs (s : State) (w : Nat) : List (Nat × Nat × Nat × Nat) :=
  (allParts.filter fun p => bitAt (s.wreg PRT_DEF w p) 16).map fun p =>
    let d := s.wreg PRT_DEF w p
    (bits d 15 0, bits d 22 17, s.rdW PMT_MODE_MODE w p, mget 0 (s.getCueUnits w).chartDigests p)

/-- The code of the first machine-wide check that fails, or 0 (R289). A digest means something only of a member that armed, so PEER_FAILED comes first. -/
def State.machineCheck (s : State) : Nat :=
  let ws := State.memberList s.rack.planner.cueMembers
  let jobs := ws.flatMap fun w => s.stagedJobs w
  let differ := fun (g : Nat × Nat × Nat × Nat → Nat) => jobs.any fun x => jobs.any fun y => x.1 == y.1 && g x != g y
  let stamps := (ws.filter fun w => s.wreg NET_ACT_STAMP w 0 != s.reg NET_ACT_STAMP w 0 || s.wreg NET_ACT_GEN w 0 != s.reg NET_ACT_GEN w 0).map fun w =>
    (s.wreg NET_ACT_STAMP w 0, s.wreg NET_ACT_GEN w 0)
  if ws.any fun w => s.rd CUE_SSTAT_STATE w 0 != 3 then 22
  else if differ fun x => x.2.2.2 then 21
  else if differ (fun x => x.2.1) || differ (fun x => x.2.2.1) then 7
  else if stamps.any fun x => stamps.head? != some x then 23
  else 0

/-- MACHINE_CUE_CHECK (R288, R289): with every member armed or failed, disarm or send the go frame, which must end at least 100 µs before the value. -/
def machineCueCheck (s : State) : State :=
  let p := s.rack.planner
  let ws := State.memberList p.cueMembers
  if !p.haveActive || !p.cueActive || ws.any (fun w => s.rd CUE_SSTAT_STATE w 0 == 1 || s.rd CUE_SSTAT_STATE w 0 == 2) then s
  else
    let code := s.machineCheck
    if code ≠ 0 then machineDisarm code s
    else if (s.getRmcs p.active).clock.read s.now + 100000 < p.cueTime then
      let s1 := forEach ((List.range 44)) s fun tray t => t.emit (.timeFrame tray (timeFrame 2 (leBytes 4 p.cueMid ++ leBytes 8 p.cueTime)))
      s1.modPlanner fun q => { q with
        cueActive := false, goSent := q.cueMid :: q.goSent.take 15, step := if q.step = .rehearsing then .rehearsed else q.step }
    else s.modPlanner fun q => { q with cueActive := false, step := if q.step = .rehearsing then .built else q.step }

def execMachineCueCheck (s : State) : Res := .next (machineCueCheck s)

/-- MACHINE_CUE_ARM_TIMEOUT (R289): a member has neither armed nor failed within 2 s. -/
def machineCueArmTimeout (s : State) : State :=
  let p := s.rack.planner
  if p.haveActive ∧ p.cueActive = true ∧ (State.memberList p.cueMembers).any (fun w => s.rd CUE_SSTAT_STATE w 0 != 3) = true then machineDisarm 22 s else s

def execMachineCueArmTimeout (s : State) : Res := .next (machineCueArmTimeout s)

/-- GO_FRAME (R34, R630): it counts if it names slot 0's MID and value and comes at least 100 µs before the value. -/
def goFrame (w : Nat) (bs : List Nat) (s : State) : State :=
  match frameBody 2 16 bs with
  | none => s.bump TB_EVENTS_FRAME_ERR w 0 1
  | some b =>
    let c := s.getSlots (w * 8)
    let st := s.rd CUE_SSTAT_STATE w 0
    if 1 ≤ st ∧ st ≤ 3 ∧ ofLeBytes (b.take 4) = c.mid ∧ ofLeBytes (b.drop 4) = c.time ∧ s.tbNow w + 100000 ≤ c.time then
      s.modSlots (w * 8) fun x => { x with go := true }
    else s

def execGoFrame (w : WaferId) (bytes : List Byte) (s : State) : Res := .next (goFrame w (bytes.map BitVec.toNat) s)

/-! ## Rotation -/

/-- A rotation group's adjusted temperature as a fraction, in 1/16 °C over twice the median life (R546). `med2` is twice the median. -/
def State.adjusted (s : State) (k med2 : Nat) (segs : List Seg) : Nat × Nat :=
  let quads := (segs.map fun g => (g.slot, 4 * g.field + g.quad)).eraseDups
  let sum := quads.foldl (fun n q => n + (s.getAgeQs (parkKey q.1 q.2)).tjSum) 0
  let cnt := max 1 (quads.foldl (fun n q => n + (s.getAgeQs (parkKey q.1 q.2)).tjCount) 0)
  let low := quads.foldl (fun m q => min m (if s.rd AGE_LIFE_EST q.1 q.2 = 0xFFFF then med2 else 2 * s.rd AGE_LIFE_EST q.1 q.2)) med2
  if med2 = 0 then (sum, cnt) else (sum * med2 + 16 * cnt * k * (med2 - low), cnt * med2)

/-- Twice the median of the known lives. -/
def median2 (xs : List Nat) : Nat :=
  let ys := sortBy id xs
  if ys.length % 2 = 1 then 2 * ys.getD (ys.length / 2) 0 else ys.getD (ys.length / 2 - 1) 0 + ys.getD (ys.length / 2) 0

/-- The place of a segment: slot, field, quadrant and first position (R213). -/
def placeMask : Nat := 0x7FFFFF * 2 ^ 28

/-- The chart entries after two groups have exchanged their places (R546). -/
def swapGroups (len a b : Nat) (es : List Nat) : List Nat :=
  es.zipIdx.map fun e =>
    let other := if e.2 / len = a then es.getD (b * len + e.2 % len) 0 else if e.2 / len = b then es.getD (a * len + e.2 % len) 0 else e.1
    (e.1 &&& notBits 64 placeMask) ||| (other &&& placeMask)

/-- The new entries of a partition's chart, or none where no rotation is needed (R545, R546). -/
def State.rotated (s : State) (w p : Nat) : Option (List Nat) :=
  let es := (List.range (s.seatCount false w p)).map fun i => s.reg NET_SEAT_DATA w (seatIdx p false i)
  let g := s.rd THM_ROT_GROUPS w p + 1
  let len := es.length / g
  let segs := es.map segOf
  let quads := (segs.map fun x => (x.slot, 4 * x.field + x.quad)).eraseDups
  let med2 := median2 (quads.filterMap fun q => let e := s.rd AGE_LIFE_EST q.1 q.2; if e = 0xFFFF then none else some e)
  let ts := (List.range g).map fun i => s.adjusted (s.rd THM_ROT_WEAR_K w p) med2 ((segs.drop (i * len)).take len)
  let hot := (List.range g).foldl (fun b i => if (ts.getD b (0, 1)).1 * (ts.getD i (0, 1)).2 < (ts.getD i (0, 1)).1 * (ts.getD b (0, 1)).2 then i else b) 0
  let cool := (List.range g).foldl (fun b i => if (ts.getD i (0, 1)).1 * (ts.getD b (0, 1)).2 < (ts.getD b (0, 1)).1 * (ts.getD i (0, 1)).2 then i else b) 0
  let h := ts.getD hot (0, 1)
  let c := ts.getD cool (0, 1)
  let least := 16 * (if s.rd THM_ROT_MIN_C w p = 0 then 3 else s.rd THM_ROT_MIN_C w p)
  if c.1 * h.2 + least * h.2 * c.2 ≤ h.1 * c.2 then some (swapGroups len hot cool es) else none

/-- Write a chart's segments into the wings. -/
def stageSegs (w p : Nat) (es : List Nat) (s : State) : State :=
  forEach es.zipIdx s fun e t => t.setWreg NET_SEAT_DATA w (seatIdx p false e.2) e.1

/-- Carry out a due rotation (R546-R548). -/
def rotate (w p : Nat) (s : State) : State :=
  let peers := s.peersOf w p
  let all := (w, p) :: peers
  if !peers.isEmpty && (s.rd NET_MGMT_PLANNER_OK w 0 == 0 || !s.rack.planner.haveActive) then
    (s.bump THM_ROT_STAT_SKIPPED w p 1).modPart w p fun x => { x with rotationDue := false, lastRotation := s.now }
  else match s.rotated w p with
    | none =>
      let s1 := (s.bump THM_ROT_STAT_NOT_NEEDED w p 1).modPart w p fun x => { x with rotationDue := false, earlyRotation := false, lastRotation := s.now }
      forEach (s.quads w p) s1 fun q t => t.putAgeQs (parkKey w q) { t.getAgeQs (parkKey w q) with tjSum := 0, tjCount := 0 }
    | some es =>
      let differs := all.any fun x => !(s.cueChanges x.1 0 x.2).isEmpty
      let turning := (accrue w s).modPart w p fun x => { x with rotationDue := false, rotating := true }
      if differs then rotationSkipped w p s
      else if peers.isEmpty then
        (if s.ownSlot w = none then (rotationSkipped w p s).raise w Leaf.noSlot else ownCue w 0 p (some p) (stageSegs w p es turning))
      else if s.rack.planner.rotation.isSome then rotationSkipped w p s
      else (forEach all turning fun x t => stageSegs x.1 x.2 es t).modPlanner fun q => { q with rotation := some (w, p) }

/-- STEP_BOUNDARY (R388, R546): done marks, leaves and joins; then a cue that waits for the boundary, a due rotation, or the next batch. A partition without
steps only rotates, while it stands between commands. -/
def stepBoundary (w p : Nat) (s : State) : State :=
  let due := (s.part w p).rotationDue && s.rd THM_ROT_ENABLE w p == 1
  if s.atBoundary w p then
    let s1 := boundarySlots w p s
    if s1.cueBlocks w p then s1
    else
      let s2 := if due then rotate w p s1 else s1
      if s2.cueBlocks w p then s2 else writeBatch w p s2
  else if due && s.defined w p && s.isLead w p && s.rd PRT_SE_ENABLE w p == 0 && s.partState w p == 1 && (s.part w p).cmd.isNone && !s.cueBlocks w p then rotate w p s
  else s

def execStepBoundary (w : WaferId) (p : PartId) (s : State) : Res := .next (stepBoundary w p s)

/-! ## Curtain -/

/-- CURTAIN (R293, R395, R397): PRT_CTL.CURTAIN of a defined partition that is not behind one. -/
def curtain (w p : Nat) (s : State) : State :=
  if s.defined w p = false ∨ s.partState w p = 4 then s
  else
    let s1 := curtainDrop w p s
    let s2 := forEach (List.range 8) s1 fun c t => if t.rd CUE_SSTAT_SCOPE w c = 0 ∧ t.rd CUE_SSTAT_PART w c = p then disarm w c 3 0 t else t
    let l := s2.getLoads w
    if s2.loading w = true ∧ l.wafer = false ∧ l.part = p then imgFail w 25 s2 else s2

def execCurtain (w : WaferId) (p : PartId) (s : State) : Res := .next (curtain w p s)

end Sys2Proof.Machine
end

