-- ==== Sys2Proof/Machine/Acts.lean ====
section
/-!
DEFINITION. Management redundancy and acts: heartbeats, takeover and keepalives (R21-R39, R650), and the way the active RMC changes the act (R218-R238): the
queue of changes, building, cueing, the drain, and the units that leave and return. Open points are in log entry 25.
-/
namespace Sys2Proof.Machine

/-! ## Heartbeats and keepalives -/

/-- RMC_HEARTBEAT: a 100 ms beat of the active RMC (R26). `tmcs` are the TMCs that hear it. A TMC hears the standby while the two RMCs hear each other. -/
def rmcHeartbeat (standbyHears : Bool) (tmcs : List Nat) (s : State) : State :=
  let p := s.rack.planner
  let missed := if standbyHears then 0 else min (p.missed + 1) 3
  let s1 := s.modPlanner fun q => { q with missed := missed, haveActive := standbyHears || !tmcs.isEmpty || decide (missed < 3) && q.haveActive }
  forEach (List.range 44) s1 fun t u => u.modTmcs t fun x =>
    let here := tmcs.contains t && x.running
    if p.active = 0 then { x with hears0 := here, hears1 := here && standbyHears } else { x with hears1 := here, hears0 := here && standbyHears }

def execRmcHeartbeat (standbyHears : Bool) (tmcs : List TmcId) (s : State) : Res := .next (rmcHeartbeat standbyHears (tmcs.map Fin.val) s)

/-- A TMC hears the RMC that holds the active role. -/
def State.hearsActive (s : State) (t : Nat) : Bool :=
  s.rack.planner.haveActive && (if s.rack.planner.active = 0 then (s.getTmcs t).hears0 else (s.getTmcs t).hears1)

/-- KEEPALIVE_COMMIT: the write of TMC_KEEPALIVE1 commits both words (R39, R535, R650). -/
def keepaliveCommit (w ka : Nat) (s : State) : State :=
  let s1 := s.setReg TMC_KEEPALIVE1 w 0 (ka &&& TMC_KEEPALIVE1.rw)
  let k := fun (f : Fld) => s1.rd f w 0
  let was := s1.rd NET_MGMT_PLANNER_OK w 0
  let s2 := ((((s1.wr NET_MGMT_RMC0_SEEN w 0 (k TMC_KEEPALIVE0_RMC0_SEEN)).wr NET_MGMT_RMC1_SEEN w 0 (k TMC_KEEPALIVE0_RMC1_SEEN)).wr NET_MGMT_ACTIVE_RMC w 0
    (k TMC_KEEPALIVE0_ACTIVE_RMC)).wr NET_MGMT_PLANNER_OK w 0 (k TMC_KEEPALIVE0_PLANNER_OK)).wr NET_MGMT_TMC_SEEN w 0 1
  let s3 := ((s2.wr THM_COOLANT_TRAY_IN w 0 (k TMC_KEEPALIVE1_TRAY_IN)).wr THM_COOLANT_VALVE w 0 (k TMC_KEEPALIVE1_VALVE)).wr THM_COOLANT_VALID w 0 1
  let s4 := if was = 1 ∧ k TMC_KEEPALIVE0_PLANNER_OK = 0 then (s3.bump NET_MGMT_PLANNER_LOSS_COUNT w 0 1).raise w Leaf.plannerLost else s3
  let s5 := if was = 0 ∧ k TMC_KEEPALIVE0_PLANNER_OK = 1 then
      forEach (allParts.filter fun p => s4.rd THM_ROT_ENABLE w p == 1 && !(s4.peersOf w p).isEmpty) s4 fun p t => t.modPart w p fun x => { x with lastRotation := s.now }
    else s4
  capUpdate w 3 0 ((accrue w s5).wr NET_MGMT_STATIC_CAP w 0 (k TMC_KEEPALIVE0_STATIC_CAP))

def execKeepaliveCommit (w : WaferId) (ka : Word32) (s : State) : Res := .next (keepaliveCommit w ka.toNat s)

/-- The TMC writes its keepalive pair (R26, R650). -/
def writeKeepalive (w trayIn valve : Nat) (s : State) : State :=
  let x := s.getTmcs w
  let s1 := s.modTmcs w fun x => { x with seq := (x.seq + 1) % 65536 }
  let word := b2n x.hears0 + b2n x.hears1 * 2 + s.rack.planner.active * 4 + b2n (s.hearsActive w) * 8 + b2n x.absent * 16 + (s1.getTmcs w).seq * 65536
  keepaliveCommit w (trayIn % 4096 + valve % 128 * 4096) (s1.setReg TMC_KEEPALIVE0 w 0 word)

/-- TMC_KEEPALIVE_TICK (R26, R535, R650): the pair is written with the tray's readings, and the valve follows TMC_REQ. -/
def keepaliveTick (w trayIn valve : Nat) (s : State) : State :=
  if !(s.getTmcs w).running || !(s.getWafers w).powered then s
  else (writeKeepalive w trayIn valve s).modTmcs w fun x => { x with valve := s.rd TMC_REQ_VALVE_PCT w 0 }

def execTmcKeepaliveTick (w : WaferId) (trayIn : BitVec 12) (valve : BitVec 7) (s : State) : Res := .next (keepaliveTick w trayIn.toNat valve.toNat s)

/-- A tray access frame (R644). -/
def taf (typ target seq off count status : Nat) (data : List Nat) : List Nat :=
  let b := leBytes 2 0x5A36 ++ [typ, target] ++ leBytes 4 seq ++ leBytes 4 off ++ leBytes 2 count ++ [status, 0] ++ data.flatMap (leBytes 4)
  b ++ leBytes 4 (crc32c b)

/-- A TMC sends an event frame to both RMC addresses (R646) and keeps it until it is acknowledged. -/
def sendEvent (t : Nat) (words : List Nat) (s : State) : State :=
  let q := (s.getTmcs t).eventSeq
  let b := taf 4 0 q 0 words.length 0 words
  ((s.modTmcs t fun x => { x with eventSeq := (q + 1) % 2 ^ 32, events := x.events ++ [(q, 0, words)] }).emit (.frame t b)).emit (.frame t b)

/-- RMCS_ABSENT (R26, R29, R646): the TMC has heard neither RMC for 1.0 s, and brings its static cap into force. -/
def rmcsAbsent (t : Nat) (s : State) : State :=
  let x := s.getTmcs t
  if !x.running || x.absent || x.hears0 || x.hears1 then s
  else
    let s1 := sendEvent t [5] (s.modTmcs t fun x => { x with absent := true })
    if t < 36 ∧ (s1.getWafers t).powered = true then writeKeepalive t (s1.rd THM_COOLANT_TRAY_IN t 0) (s1.rd THM_COOLANT_VALVE t 0) s1 else s1

def execRmcsAbsent (t : TmcId) (s : State) : Res := .next (rmcsAbsent t s)

/-- KEEPALIVE_TIMEOUT (R39, R535): no keepalive has come for 1.0 s. -/
def keepaliveTimeout (w : Nat) (s : State) : State :=
  if s.rd NET_MGMT_TMC_SEEN w 0 = 0 then s
  else ((s.wr NET_MGMT_TMC_SEEN w 0 0).wr THM_COOLANT_VALID w 0 0).raise w Leaf.tmcLost

def execKeepaliveTimeout (w : WaferId) (s : State) : Res := .next (keepaliveTimeout w s)

/-! ## Route tables -/

/-- An index lies inside the table of its kind (R217). -/
def routeOk (kind index : Nat) : Bool :=
  match kind with
  | 0 => decide (index < 144)
  | 1 => decide (index < 84)
  | 2 => decide (index < 16)
  | 3 => decide (index < 2560)
  | 4 => decide (index < 20)
  | 5 => decide (index < 36)
  | 6 => decide (index < 5184)
  | _ => false

/-- Write a route entry, or discard it where its act takes no writes (R218). -/
def routeWrite (w kind act field index v : Nat) (s : State) : State :=
  let st := s.actState w act
  if 2 ≤ st then s.raise w Leaf.rtBusy
  else if routeOk kind index then
    (s.setActState w act 1).setReg NET_RT_DATA w (rtIdx kind act (if kind = 0 ∨ kind = 6 then 0 else field) index) v
  else s

/-- ROUTE_TABLE_WRITE: the high word of NET_RT_DATA commits the entry that NET_RT_SEL selects (R218). -/
def routeTableWrite (w v : Nat) (s : State) : State :=
  routeWrite w (s.rd NET_RT_SEL_KIND w 0) (s.rd NET_RT_SEL_ACT w 0) (s.rd NET_RT_SEL_FIELD w 0) (s.rd NET_RT_SEL_INDEX w 0) v s

def execRouteTableWrite (w : WaferId) (v : Word) (s : State) : Res := .next (routeTableWrite w v.toNat s)

/-! ## Changing the act -/

/-- Queue a change of the act (R223); beyond 16 it is refused as an act fault. A change that is queued or in progress is not queued twice by the machine itself. -/
def queueChange (c : ActChange) (s : State) : State :=
  if s.rack.planner.queue.length < 16 then s.modPlanner fun p => { p with queue := p.queue ++ [c] } else s.modPlanner fun p => { p with actFaults := p.actFaults + 1 }

def queueOnce (c : ActChange) (s : State) : State :=
  if s.rack.planner.queue.contains c ∨ (s.rack.planner.change = some c ∧ s.rack.planner.step ≠ .draining) then s else queueChange c s

/-- ACT_CHANGE_REQUEST (R223). -/
def execActChangeRequest (c : ActChange) (s : State) : Res := .next (if s.rack.planner.haveActive then queueChange c s else s)

/-- Some wafer of the machine runs an act. -/
def State.anyLive (s : State) : Bool := allWafers.any fun w => (s.liveAct? w).isSome

/-- The act that the next change writes: the one that is not live (R220). -/
def State.nextAct (s : State) : Nat := if s.anyLive then 1 - s.rack.planner.liveAct % 2 else s.rack.planner.liveAct % 2

/-- A wafer that no act may include: unpowered, in bring-up, or out of step (R23, R34). -/
def State.unfit (s : State) (w : Nat) : Bool := !(s.getWafers w).powered || s.rd BUP_STAT_PHASE w 0 != 5 || (s.getWafers w).outOfStep

/-- An act after a change (R24, R32, R220, R226): without the unit or with it, without units that no act may include, and without planes whose switch tray has no TMC. -/
def State.changed (s : State) (c : ActChange) (r : Act) : Act :=
  let x : Act := match c with
    | .dropWafer w => { r with wafers := r.wafers &&& notBits 36 (2 ^ w) }
    | .dropPlane p => { r with planes := r.planes &&& notBits 16 (2 ^ p) }
    | .dropSpine w f => { r with noSpines := r.noSpines ++ [w * 72 + f], noPorts := r.noPorts ++ (attachedPorts f).map fun p => w * 20 + p }
    | .addWafer w => { r with wafers := r.wafers ||| 2 ^ w, noSpines := r.noSpines.filter (fun k => k / 72 != w), noPorts := r.noPorts.filter fun k => k / 20 != w }
    | .addPlane p => { r with planes := r.planes ||| 2 ^ p }
    | .addSpine w f => { r with noSpines := r.noSpines.filter (· != w * 72 + f), noPorts := r.noPorts.filter fun k => !((attachedPorts f).any fun p => k == w * 20 + p) }
    | .routes _ => r
  { x with
    wafers := (allWafers.filter fun w => bitAt x.wafers w && !s.unfit w).foldl (fun n w => n + 2 ^ w) 0
    planes := ((List.range 16).filter fun p => bitAt x.planes p && (s.getTmcs (36 + p / 2)).running && !bitAt s.rack.planner.lostPlanes p).foldl (fun n p => n + 2 ^ p) 0 }

/-- Empty a wafer's tables of an act. -/
def emptyAct (w act : Nat) (s : State) : State :=
  s.withRegs (s.regs.filter fun x =>
    let k := Nat.unpair x.1
    let r := Nat.unpair k.2
    !(k.1 == NET_RT_DATA.id && r.1 == w && r.2 / 8 % 2 == act % 2))

/-- The skip maps of an act's wafers, as each wafer's ledger gives them (R217, R232). -/
def writeSkips (w act wafers : Nat) (s : State) : State :=
  forEach (State.memberList wafers) s fun d t => forEach allFields t fun f t => forEach [0, 1] t fun h t =>
    routeWrite w 6 act 0 ((d * 72 + f) * 2 + h) ((List.range 12).foldl (fun n i => n + t.skipRow d f (12 * h + i) * 2 ^ (5 * i)) 0) t

/-- The entries of an ACTS section (R253). -/
def handedEntries (bs : List Nat) : List (Nat × Nat × Nat × Nat) :=
  (List.range (bs.length / 16)).map fun i =>
    let b := (bs.drop (16 * i)).take 16
    (b.getD 0 0, b.getD 1 0, ofLeBytes ((b.drop 2).take 2), ofLeBytes ((b.drop 8).take 8))

/-- Route every wafer of an act through a B72 (R15, R187): slot n leaves on port n. -/
def writeChip (c act wafers : Nat) (s : State) : State :=
  let s1 := forEach (List.range 64) (s.setChipActState c act 1) fun n t => t.setReg B72_RT c (act * 64 + n) 0
  forEach (State.memberList wafers) s1 fun n t => t.setReg B72_RT c (act * 64 + n) (n + 2 ^ 31)

/-- ACT_BUILD (R220, R232, R233, R253): the change at the head of the queue is built into the inactive act, once that act is nowhere DRAINING. `es` are the on-wafer
route entries that the RMC has computed. -/
def actBuild (es : List (Nat × Nat × Nat × Nat × Nat)) (s : State) : State :=
  let p := s.rack.planner
  let t := s.nextAct
  match p.queue with
  | [] => s
  | c :: rest =>
    let r := { s.changed c (if s.anyLive then s.getActs (p.liveAct % 2) else { planes := 0xFFFF }) with gen := ((s.getActs (p.liveAct % 2)).gen + 1) % 2 ^ 32 }
    let ws := State.memberList r.wafers
    let busy := ws.any (fun w => 2 ≤ s.actState w t) || (List.range 16).any fun k => bitAt r.planes k && 2 ≤ s.chipActState k t
    if !p.haveActive || p.step = .draining || p.step = .rehearsing || p.step = .rehearsed || busy then s
    else
      let s1 := (s.putActs t r).modPlanner fun q => { q with queue := rest, change := some c, step := .built, handed := q.handed.filter fun x => !bitAt r.wafers x.1 }
      let s2 := forEach ws s1 fun w u =>
        let own := (es.filter fun e => e.1 == w).map fun e => e.2
        forEach (own ++ handedEntries (mget [] p.handed w)) (writeSkips w t r.wafers (emptyAct w t u)) fun e u => routeWrite w e.1 t e.2.1 e.2.2.1 e.2.2.2 u
      forEach ((List.range 16).filter (bitAt r.planes)) s2 fun k u => writeChip k t r.wafers u

def execActBuild (es : List RouteEntry) (s : State) : Res :=
  .next (actBuild (es.map fun e => (e.w.val, e.kind.val, e.field.toNat, e.index.toNat, e.entry.toNat)) s)

/-- ACT_CUE (R220, R223): the built act's bit and generation are staged on every member and slot 0 is started. -/
def actCue (time mid : Nat) (s : State) : State :=
  let p := s.rack.planner
  let t := s.nextAct
  let r := s.getActs t
  let ws := State.memberList r.wafers
  let draining := ws.any fun w => [0, 1].any fun a => s.actState w a == 4
  let early := ws.any fun w => (s.liveAct? w).isSome && decide (time < s.reg NET_ACT_APPLY_TIME w 0 + 20000)
  if !p.haveActive || p.step != .built || draining || early then s
  else
    let s1 := forEach ws s fun w u => (u.setWreg NET_ACT_STAMP w 0 t).setWreg NET_ACT_GEN w 0 r.gen
    (machineCueStart r.wafers time mid s1).modPlanner fun q => { q with step := .rehearsing }

def execActCue (time : BitVec 64) (mid : Word32) (s : State) : Res := .next (actCue time.toNat mid.toNat s)

/-! ## The drain -/

/-- The act that a wafer drains. -/
def State.drainingAct (s : State) (w : Nat) : Option Nat := [0, 1].find? fun a => s.actState w a == 4

/-- A wafer's routers hold no packet of an act. -/
def State.holdsNone (s : State) (w act : Nat) : Bool :=
  s.net.arbs.all fun x => decide (x.1 / (32768 * 128) ≠ w) || x.2.queue.all fun y => y.pkt.act % 2 != act % 2

def drainCode : DrainDom → Nat
  | .plane c => c.val
  | .side w south => 100 + w.val * 2 + b2n south
  | .wafer w => 200 + w.val

/-- ELEMENT_QUIET (R221): a drain domain's last element has become quiet. -/
def elementQuiet (d : DrainDom) (s : State) : State :=
  let note := s.modPlanner fun p => { p with drainQuiet := if p.drainQuiet.contains (drainCode d) then p.drainQuiet else p.drainQuiet ++ [drainCode d] }
  match d with
  | .plane c => if s.chipActState c 0 = 4 ∨ s.chipActState c 1 = 4 then note.wr B72_ACT_STAT_LOCAL_QUIET c 0 1 else s
  | .side _ _ => if s.rack.planner.step = .draining then note else s
  | .wafer w =>
    match s.drainingAct w with
    | some a => if s.holdsNone w a ∧ s.rd NET_ACT_STAT_LOCAL_QUIET w 0 = 0 then (note.wr NET_ACT_STAT_LOCAL_QUIET w 0 1).raise w Leaf.localQuiet else s
    | none => s

def execElementQuiet (d : DrainDom) (s : State) : Res := .next (elementQuiet d s)

/-- A wafer that is lost or not running drains nothing (R237). -/
def State.drained (s : State) (w : Nat) : Bool := (s.drainingAct w).isNone || s.rd NET_ACT_STAT_LOCAL_QUIET w 0 == 1 || !(s.getWafers w).powered

/-- Every drain domain is quiet (R221, R237). -/
def State.allQuiet (s : State) : Bool :=
  let q := s.rack.planner.drainQuiet
  (List.range 16).all (fun c => q.contains c || !(s.chipActState c 0 == 4 || s.chipActState c 1 == 4) || bitAt s.rack.planner.lostPlanes c)
    && allWafers.all fun w => s.drained w && [0, 1].all fun k =>
      q.contains (100 + w * 2 + k) || !(s.getWafers w).powered || !(s.getWafers (neighbour w (17 + k))).powered

/-- Discard what a wafer's routers hold of an act that is FREE (R222). -/
def purgeAct (w act : Nat) (s : State) : State :=
  forEach (s.net.arbs.filter fun x => x.1 / (32768 * 128) == w) s fun x t =>
    let gone := x.2.queue.filter fun y => y.pkt.act % 2 == act % 2
    if gone.isEmpty then t
    else forEach gone (t.putArbs x.1 { x.2 with queue := x.2.queue.filter fun y => y.pkt.act % 2 != act % 2 }) fun y u => dropPacket w (x.1 / 32768 % 128) 2 y.pkt u

/-- The old act is FREE on every element (R221, R222). -/
def freeOld (late : Bool) (s : State) : State :=
  let s1 := forEach allWafers s fun w t =>
    match t.drainingAct w with
    | none => t
    | some a =>
      let quiet := t.rd NET_ACT_STAT_LOCAL_QUIET w 0
      let now := t.tbNow w
      let t1 := ((purgeAct w a (t.setActState w a 0)).wr NET_ACT_STAT_LOCAL_QUIET w 0 0).setReg NET_ACT_FREE_TIME w 0 now
      let t2 := t1.wrSat NET_ACT_STAT_LAST_DRAIN_US w 0 ((now - t.reg NET_ACT_APPLY_TIME w 0 + 999) / 1000)
      retireSpines w (if late && quiet == 0 then t2.raise w Leaf.drainLate else t2)
  let s2 := forEach (List.range 16) s1 fun c t => forEach [0, 1] t fun a t => if t.chipActState c a = 4 then (t.setChipActState c a 0).wr B72_ACT_STAT_LOCAL_QUIET c 0 0 else t
  s2.modPlanner fun p => { p with step := if p.step = .draining then .none else p.step, change := if p.step = .draining then none else p.change, drainQuiet := [] }

/-- ACT_FREE (R221). -/
def actFree (s : State) : State := if s.rack.planner.haveActive && s.rack.planner.step == .draining && s.allQuiet then freeOld false s else s

def execActFree (s : State) : Res := .next (actFree s)

/-- DRAIN_DEADLINE (R222): the drain has lasted DrainMaxMs. -/
def execDrainDeadline (s : State) : Res :=
  .next (if s.rack.planner.haveActive && s.rack.planner.step == .draining then freeOld true s else s)

/-! ## Units that leave and return -/

/-- WAFER_LOSS (R21, R24): a wafer's supply goes while it is in the running act. Everything in it but flash is gone. -/
def waferLoss (w : Nat) (s : State) : State :=
  if (s.getWafers w).powered = true ∧ s.inLive w (fun a => a.hasWafer w) = true then unpower w (forceAll w s) else s

def execWaferLoss (w : WaferId) (s : State) : Res := .next (waferLoss w s)

/-- RMC_DECLARE_WAFER_LOST (R24, R33, R237): the RMC takes the wafer for lost, and an act without it is queued. -/
def declareLost (w : Nat) (s : State) : State :=
  let live := bitAt (s.getActs (s.rack.planner.liveAct % 2)).wafers w
  if !s.rack.planner.haveActive || !live || (s.getWafers w).declaredLost then s
  else queueOnce (.dropWafer w) (s.modWafers w fun x => { x with declaredLost := true })

def execRmcDeclareWaferLost (w : WaferId) (s : State) : Res := .next (declareLost w s)

/-- A B72 stops: nothing of it but its identity is left. -/
def chipReset (c : Nat) (s : State) : State :=
  let ids := [B72_ACT_STAT, B72_ACT_CTL, B72_EVENTS, B72_RT, B72_UPGRP, B72_PORT].map fun r => r.id
  let s1 := s.withRegs (s.regs.filter fun x => let k := Nat.unpair x.1; !(ids.contains k.1 && (Nat.unpair k.2).1 == c))
  let s2 := (s1.withLinks (s1.net.links.filter fun x => !decide (chipPortKey c 0 ≤ x.1 ∧ x.1 < chipPortKey (c + 1) 0))).withGroupPtr
    (s1.net.groupPtr.filter fun x => x.1 / 16 != c)
  s2.modPlanner fun p => { p with rehearsalUnits := if p.rehearsalUnits.contains c then p.rehearsalUnits else p.rehearsalUnits ++ [c] }

/-- A B72 starts: the RMC writes it the machine's number (R189). -/
def chipStart (c : Nat) (s : State) : State :=
  let n := s.rack.planner.machineNo
  ((chipReset c s).wr B72_ACT_CTL_MACHINE c 0 n).wr B72_ACT_STAT_MACHINE c 0 n

/-- B72_LOSS (R32, R228, R237): packets on the plane are gone, its drain domain counts as quiet, and an act without it is queued. -/
def b72Loss (c : Nat) (s : State) : State :=
  let s1 := (chipReset c s).modPlanner fun p => { p with lostPlanes := p.lostPlanes ||| 2 ^ c }
  if s.rack.planner.haveActive && bitAt (s.getActs (s.rack.planner.liveAct % 2)).planes c then queueOnce (.dropPlane c) s1 else s1

def execB72Loss (c : PlaneId) (s : State) : Res := .next (b72Loss c s)

/-- SPINE_LOSS (R229): what the spine held is gone, and the RMC queues an act without it; with the active host bridge, without the wafer. -/
def spineLoss (w f : Nat) (s : State) : State :=
  if s.spineOn w f ∨ !s.inLive w (fun a => a.hasSpine w f) then s
  else
    let s1 := clearSpine w f s
    if !s.rack.planner.haveActive then s1
    else if f = hostBridge (s.rd BUP_STAT_HOST w 0) then queueOnce (.dropWafer w) s1 else queueOnce (.dropSpine w f) s1

def execSpineLoss (w : WaferId) (f : FieldId) (s : State) : Res := .next (spineLoss w f s)

/-- UNIT_PLANNED_RESET (R226, R230): once an act without the unit is live and the other act is FREE, the TMC resets a B72, or the sequencer a spine. -/
def unitPlannedReset (u : ResetUnit) (s : State) : State :=
  match u with
  | .chip c =>
    let busy := bitAt (s.getActs (s.rack.planner.liveAct % 2)).planes c || [0, 1].any fun a => 2 ≤ s.chipActState c a
    if busy || s.rack.planner.step == .draining || !(s.getTmcs (36 + c.val / 2)).running then s
    else (chipStart c s).modPlanner fun p => { p with lostPlanes := p.lostPlanes &&& notBits 16 (2 ^ c.val) }
  | .spine w f => if (s.getWafers w).powered then domRequest w (288 + f.val) 3 s else s

def execUnitPlannedReset (u : ResetUnit) (s : State) : Res := .next (unitPlannedReset u s)

/-- A unit waits in rehearsal status (R231). -/
def State.awaits (s : State) (c : ActChange) : Bool :=
  match c with
  | .addWafer w => s.rd NET_MGMT_REHEARSAL_STATUS w 0 == 1 && !s.unfit w
  | .addPlane p => s.rack.planner.rehearsalUnits.contains p
  | .addSpine w f => s.rack.planner.rehearsalUnits.contains (100 + w * 72 + f) && s.spineOn w f
  | _ => false

/-- UNIT_ADMIT (R232, R234): an act that includes the unit is queued; a wafer is no longer taken for lost. -/
def unitAdmit (c : ActChange) (s : State) : State :=
  if !s.rack.planner.haveActive || !s.awaits c then s
  else
    let s1 := match c with
      | .addWafer w => s.modWafers w fun x => { x with declaredLost := false }
      | .addPlane p => s.modPlanner fun q => { q with lostPlanes := q.lostPlanes &&& notBits 16 (2 ^ p) }
      | _ => s
    queueOnce c s1

def execUnitAdmit (c : ActChange) (s : State) : Res := .next (unitAdmit c s)

end Sys2Proof.Machine
end

