-- ==== Sys2Proof/Machine/Aperture.lean ====
section
/-!
DEFINITION. The rest of the loft interface: pseudo-channel arbitration (R348), patrol scrub (R354), row sparing (R356) and the host's BAR4 aperture (R358-R360,
R576). Open points are in log entry 26.
-/
namespace Sys2Proof.Machine

/-! ## Arbitration -/

def State.modPchs (s : State) (k : Nat) (g : Pch → Pch) : State := s.putPchs k (g (s.getPchs k))

/-- The first element with the greatest value. -/
def firstMax {α : Type} (v : α → Nat) : List α → Option α
  | [] => none
  | x :: r => match firstMax v r with
    | some y => if v x < v y then some y else some x
    | none => some x

/-- The request that wins at a pseudo-channel (R348): one of the third or fourth kind that has waited 20 us, the longest first; then by kind; partitions by live priority,
equal ones in round-robin after the one last granted. -/
def State.pchWinner (s : State) (w last : Nat) (rs : List PchReq) : Option PchReq :=
  let aged := rs.filter fun r => (r.cls == 2 || r.cls == 3) && decide (20000 ≤ r.waited.toNat)
  let turn := fun (r : PchReq) => (r.part.val + 287 - last) % 288
  match firstMax (fun r => r.waited.toNat) aged with
  | some r => some r
  | none =>
    firstMax (fun r => (4 - r.cls.val) * 100000 + if r.cls = 2 then s.rd PRT_PRIO_PRIO w r.part * 1000 + (288 - turn r) else 0) rs

/-- PCH_ARBITRATION (R348). -/
def pchArbitration (w f ch : Nat) (rs : List PchReq) (s : State) : State :=
  if !s.loftOn w f then s
  else
    let k := fieldKey w f * 32 + ch
    match s.pchWinner w (s.getPchs k).last rs with
    | none => s.modPchs k fun x => { x with holder := none }
    | some r => s.modPchs k fun x => { holder := some (r.cls.val, r.part.val), last := if r.cls = 2 then r.part.val else x.last }

def execPchArbitration (w : WaferId) (f : FieldId) (ch : Fin 32) (rs : List PchReq) (s : State) : Res := .next (pchArbitration w f ch rs s)

/-! ## Scrub -/

/-- Lines of a bank: 24 GiB over 512 banks. -/
def bankLines : Nat := 786432

/-- Line `i` of a bank's pass (R339). -/
def bankLine (bank i : Nat) : Nat := i / 16 * 8192 + i % 16 * 512 + bank

/-- Show the progress of the slowest bank and the passes of every bank (R354). -/
def scrubSync (w f : Nat) (s : State) : State :=
  let l := s.getLofts (fieldKey w f)
  let least := fun (g : Nat → Nat) => (List.range 512).foldl (fun m b => min m (g b)) (g 0)
  let s1 := s.wr LOFT_SCRUB_PERCENT w f (least (fun b => mget 0 l.scrub b) * 100 / bankLines)
  (s1.wrSat LOFT_SCRUB_PASSES w f (least fun b => mget 0 l.passes b)).wr LOFT_STAT_SCRUB_LATE w f (b2n !l.lateBanks.isEmpty)

/-- A bank's scrubber reads its next line (R354); the end of a pass starts the next one. -/
def scrubLine (w f bank : Nat) (e : Ecc) (s : State) : State :=
  let l := s.getLofts (fieldKey w f)
  let i := mget 0 l.scrub bank
  let off := bankLine bank i * 64
  let s1 := match e with
    | .good => s
    | .corrected _ => if s.poisoned w f off then s else loftCorrected w f off s
    | .bad _ => if s.poisoned w f off then s else loftUncorrectable w f off 3 noPart s
  let last := decide (i + 1 = bankLines)
  s1.modLofts (fieldKey w f) fun x => { x with
    scrub := mset 0 x.scrub bank (if last then 0 else i + 1)
    passes := if last then mset 0 x.passes bank (mget 0 x.passes bank + 1) else x.passes
    lateBanks := if last then x.lateBanks.filter (· != bank) else x.lateBanks }

def State.scrubs (s : State) (w f : Nat) : Bool := s.loftOn w f && !s.loftDead w f

/-- LOFT_SCRUB_READ (R354). -/
def execLoftScrubRead (w : WaferId) (f : FieldId) (bank : BitVec 9) (e : Ecc) (s : State) : Res :=
  .next (if s.scrubs w f then scrubSync w f (scrubLine w f bank.toNat e s) else s)

/-- SCRUB_FORCED_SLOT (R354): a forced slot scrubs one row, 16 lines. -/
def execScrubForcedSlot (w : WaferId) (f : FieldId) (bank : BitVec 9) (es : List Ecc) (s : State) : Res :=
  .next (if s.scrubs w f then
    scrubSync w f (forEach (List.range 16) (s.bump LOFT_SCRUB_FORCED w f 1) fun i t => scrubLine w f bank.toNat (es.getD i .good) t)
  else s)

/-- SCRUB_LATE (R354): a bank's pass has not completed within 24 h. -/
def scrubLate (w f bank : Nat) (s : State) : State :=
  let l := s.getLofts (fieldKey w f)
  if !s.scrubs w f || l.lateBanks.contains bank then s
  else (scrubSync w f (s.putLofts (fieldKey w f) { l with lateBanks := l.lateBanks ++ [bank] })).raiseF w f Leaf.scrubLate

def execScrubLate (w : WaferId) (f : FieldId) (bank : BitVec 9) (s : State) : Res := .next (scrubLate w f bank.toNat s)

/-- Copy a triggered row onto a free spare row of its bank (R356). `es` is what the code finds in its 16 lines. -/
def spareCopy (w f row : Nat) (es : List Ecc) (s : State) : State :=
  let l := s.getLofts (fieldKey w f)
  if !s.scrubs w f || !l.copies.contains row then s
  else
    let off := fun (i : Nat) => (row / 512 * 8192 + i * 512 + row % 512) * 64
    let s1 := forEach (List.range 16) s fun i t =>
      if t.poisoned w f (off i) then t
      else match es.getD i .good with
        | .good => t
        | .corrected _ => t.bump LOFT_CE_COUNT w f 1
        | .bad _ => loftUncorrectable w f (off i) 3 noPart t
    let bank := bankOf row
    let used := mget 0 (s1.getLofts (fieldKey w f)).spares bank + 1
    let s2 := s1.modLofts (fieldKey w f) fun x => { x with
      copies := x.copies.filter (· != row), spares := mset 0 x.spares bank used
      sparedRows := if x.sparedRows.contains row then x.sparedRows else x.sparedRows ++ [row], ceLines := x.ceLines.filter fun y => rowOf y.1 != row }
    let s3 := (s2.wrSat LOFT_STAT_SPARES_USED w f (s2.rd LOFT_STAT_SPARES_USED w f + 1)).wr LOFT_STAT_SPARES_MAX w f (max used (s2.rd LOFT_STAT_SPARES_MAX w f))
    loftRetire w f (s3.raiseF w f Leaf.spareUsed)

/-- ROW_SPARE_COPY (R356). -/
def execRowSpareCopy (w : WaferId) (f : FieldId) (row : BitVec 21) (es : List Ecc) (s : State) : Res := .next (spareCopy w f row.toNat es s)

/-- ROW_SPARE_FORCED (R356): the copy takes a forced slot 100 ms after its trigger. -/
def execRowSpareForced (w : WaferId) (f : FieldId) (row : BitVec 21) (es : List Ecc) (s : State) : Res :=
  .next (if s.scrubs w f && (s.getLofts (fieldKey w f)).copies.contains row.toNat then spareCopy w f row.toNat es (s.bump LOFT_SCRUB_FORCED w f 1) else s)

/-! ## The aperture -/

/-- Capture the first failed aperture access and raise APT_ERR (R359). -/
def apertureError (w off reason : Nat) (write : Bool) (s : State) : State :=
  let s1 := if s.rd HIF_APT_CAP_VALID w 0 = 1 then s
    else (((s.wr HIF_APT_CAP_OFFSET w 0 off).wr HIF_APT_CAP_WRITE w 0 (b2n write)).wr HIF_APT_CAP_REASON w 0 reason).wr HIF_APT_CAP_VALID w 0 1
  s1.raise w Leaf.aptErr

/-- Where an aperture offset lies: a loft and its absolute offset, or why it cannot be reached (R358, R359). While the active host bridge's spine is not ON,
the aperture fails (R229). -/
def State.apertureAt (s : State) (w off : Nat) : Except Nat (Nat × Nat) :=
  let i := off / 0x1000000
  let f := s.rd HIF_APT_FIELD w i
  let page := s.rd HIF_APT_PAGE w i
  if s.rd HIF_APT_VALID w i = 0 ∨ 71 < f ∨ 1535 < page then .error 0
  else if s.loftDead w f ∨ !s.loftOn w f ∨ !s.spineOn w (hostBridge (s.rd BUP_STAT_HOST w 0)) then .error 1
  else .ok (f, page * 0x1000000 + off % 0x1000000)

/-- The pieces of an aperture access: one for each 64-byte line that it touches. -/
def linePieces (off n : Nat) : List (Nat × Nat) := (linesOf off n).map fun l => (max off l, min (off + n) (l + 64) - max off l)

/-- The bytes of a repeated word from an offset. -/
def wordBytes (word off n : Nat) : List Nat := (List.range n).map fun i => word / 256 ^ ((off + i) % 4) % 256

/-- The host can reach the aperture: the link is up and the function is awake (R573, R576). -/
def State.apertureOpen (s : State) (w : Nat) : Bool := s.rd HIF_LINK_STATE w 0 == pcieL0 && s.rd HIF_LINK_DSTATE w 0 == 0

/-- Some piece of an access lies in a quarter that is being zeroed, and waits (R365). -/
def State.apertureWaits (s : State) (w off n : Nat) : Bool :=
  (linePieces off n).any fun x => match s.apertureAt w x.1 with
    | .ok (f, o) => s.zeroingAt w f o x.2
    | .error _ => false

/-- What the loft's code finds in piece `i` of an access. -/
def eccAt (e : Ecc) (i : Nat) : Ecc :=
  match e with
  | .good => .good
  | .corrected j => if i = j then e else .good
  | .bad j => if i = j then e else .good

/-- APERTURE_READ (R350, R358, R359, R576): one completion a line; status 1 marks poisoned data, which carries none of the line. -/
def apertureRead (w off n : Nat) (e : Ecc) (s : State) : State :=
  if !s.apertureOpen w || n == 0 || decide (4096 < n) || s.apertureWaits w off n then s
  else forEach (linePieces off n).zipIdx s fun x t =>
    match t.apertureAt w x.1.1 with
    | .error r => (apertureError w x.1.1 r false t).emit (.completion w 0 (wordBytes (if r = 0 then 0xDEAD0BAD else 0xDEAD0FF0) x.1.1 x.1.2))
    | .ok (f, o) =>
      let t1 := if t.poisoned w f o then t
        else match eccAt e x.2 with
          | .good => t
          | .corrected _ => loftCorrected w f (o / 64 * 64) t
          | .bad _ => loftUncorrectable w f (o / 64 * 64) 2 noPart t
      if t1.poisoned w f o then (apertureError w x.1.1 2 false t1).emit (.completion w 1 [])
      else (loftCountRead w f x.1.2 t1).emit (.completion w 0 (t1.loftBytes w f o x.1.2))

def execApertureRead (w : WaferId) (off : BitVec 36) (n : BitVec 13) (e : Ecc) (s : State) : Res := .next (apertureRead w off.toNat n.toNat e s)

/-- APERTURE_WRITE (R347, R349, R358, R359, R576): bytes with their enables, each line written whole or by read-modify-write. -/
def apertureWrite (w off : Nat) (bs : List (Bool × Nat)) (e : Ecc) (s : State) : State :=
  if !s.apertureOpen w || bs.isEmpty || s.apertureWaits w off bs.length then s
  else forEach (linePieces off bs.length).zipIdx s fun x t =>
    let part := (bs.drop (x.1.1 - off)).take x.1.2
    match t.apertureAt w x.1.1 with
    | .error r => apertureError w x.1.1 r true t
    | .ok (f, o) =>
      let whole := part.length == 64 && part.all fun b => b.1
      let t1 := if whole || t.poisoned w f o then t
        else match eccAt e x.2 with
          | .good => t
          | .corrected _ => loftCorrected w f (o / 64 * 64) t
          | .bad _ => loftUncorrectable w f (o / 64 * 64) 2 noPart t
      if whole then loftWrite w f o (part.map fun b => b.2) t1
      else if t1.poisoned w f o then apertureError w x.1.1 2 true (t1.bump LOFT_EVENTS_POISON_WR w f 1)
      else forEach part.zipIdx t1 fun b u => if b.1.1 then loftWrite w f (o + b.2) [b.1.2] u else u

def execApertureWrite (w : WaferId) (off : BitVec 36) (bs : List (Bool × Byte)) (e : Ecc) (s : State) : Res :=
  .next (apertureWrite w off.toNat (bs.map fun b => (b.1, b.2.toNat)) e s)

end Sys2Proof.Machine
end

