-- ==== Sys2Proof/Machine/Arith.lean ====
section
/-!
DEFINITION. The core's arithmetic, bit for bit: formats (R98), exact block sums and single rounding of MMA (R99-R103), conversions
(R104-R106), and the vector unit's operations (R108). A number is converted to an exact value, computed exactly and rounded once.
-/
namespace Sys2Proof.Machine

/-- An exact value: a NaN, an infinity, or `mant` times two to the `exp` with a sign (zero keeps its sign). -/
inductive FVal where
  | nan
  | inf (neg : Bool)
  | fin (neg : Bool) (mant : Nat) (exp : Int)
deriving DecidableEq, Repr

/-- How a format spends its top exponent: IEEE infinities and NaNs, only the all-ones NaN of E4M3, or neither. -/
inductive Special where
  | ieee | nanOnly | none
deriving DecidableEq, Repr

/-- A floating format (R98). -/
structure FFmt where
  eb : Nat
  mb : Nat
  bias : Nat
  sp : Special
deriving DecidableEq, Repr

def fmtFP32 : FFmt := ⟨8, 23, 127, .ieee⟩
def fmtBF16 : FFmt := ⟨8, 7, 127, .ieee⟩
def fmtFP16 : FFmt := ⟨5, 10, 15, .ieee⟩
def fmtE4M3 : FFmt := ⟨4, 3, 7, .nanOnly⟩
def fmtE5M2 : FFmt := ⟨5, 2, 15, .ieee⟩
def fmtE2M3 : FFmt := ⟨2, 3, 1, .none⟩
def fmtE3M2 : FFmt := ⟨3, 2, 3, .none⟩
def fmtE2M1 : FFmt := ⟨2, 1, 1, .none⟩

/-- Bits of a format's code. -/
def FFmt.width (f : FFmt) : Nat := 1 + f.eb + f.mb

/-- The exponent of the least subnormal step. -/
def FFmt.emin (f : FFmt) : Int := 1 - (f.bias : Int) - (f.mb : Int)

/-- The exact value of a code. -/
def FFmt.decode (f : FFmt) (c : Nat) : FVal :=
  let neg := bitAt c (f.eb + f.mb)
  let e := (c >>> f.mb) % 2 ^ f.eb
  let m := c % 2 ^ f.mb
  let top := e == 2 ^ f.eb - 1
  if f.sp = .ieee ∧ top then (if m = 0 then .inf neg else .nan)
  else if f.sp = .nanOnly ∧ top ∧ m = 2 ^ f.mb - 1 then .nan
  else if e = 0 then .fin neg m f.emin
  else .fin neg (m + 2 ^ f.mb) (f.emin + (e : Int) - 1)

/-- Round a shifted-out part to nearest, ties to even: the quotient of `m` by two to the `k`. -/
def rne (m k : Nat) : Nat :=
  let q := m >>> k
  let r := m % 2 ^ k
  if k = 0 then m else if 2 ^ (k - 1) < r ∨ (r = 2 ^ (k - 1) ∧ q % 2 = 1) then q + 1 else q

/-- Round a magnitude to a format with an unbounded exponent: the code of exponent and mantissa, and whether it is inexact. -/
def FFmt.roundMag (f : FFmt) (m : Nat) (e : Int) : Nat × Bool :=
  if m = 0 then (0, false)
  else
    let n := Nat.log2 m + 1
    let lsb : Int := max (e + (n : Int) - ((f.mb + 1 : Nat) : Int)) f.emin
    let q := if lsb ≤ e then m <<< (e - lsb).toNat else rne m (lsb - e).toNat
    let exact := lsb ≤ e || m % 2 ^ (lsb - e).toNat == 0
    let step := (lsb - f.emin).toNat
    let code := if q < 2 ^ f.mb then q else (step + 1) * 2 ^ f.mb + (q - 2 ^ f.mb)
    (code, !exact)

/-- The largest finite code of a format. -/
def FFmt.maxCode (f : FFmt) : Nat :=
  match f.sp with
  | .ieee => (2 ^ f.eb - 1) * 2 ^ f.mb - 1
  | .nanOnly => 2 ^ (f.eb + f.mb) - 2
  | .none => 2 ^ (f.eb + f.mb) - 1

/-- A sign bit in front of a magnitude code. -/
def FFmt.signed (f : FFmt) (neg : Bool) (c : Nat) : Nat := c + (if neg then 2 ^ (f.eb + f.mb) else 0)

/-- The canonical NaN of a format (R102, R105). -/
def FFmt.nanCode (f : FFmt) : Nat :=
  match f.sp with
  | .ieee => if f.mb = 2 then 0x7E else (2 ^ f.eb - 1) * 2 ^ f.mb + 2 ^ (f.mb - 1)
  | .nanOnly => 2 ^ (f.eb + f.mb) - 1
  | .none => 0

/-- The infinity of an IEEE format. -/
def FFmt.infCode (f : FFmt) : Nat := (2 ^ f.eb - 1) * 2 ^ f.mb

/-- The four sticky flags that an operation sets (R107). -/
structure Flg where
  invalid : Bool := false
  overflow : Bool := false
  intSat : Bool := false
  inexact : Bool := false
deriving DecidableEq, Repr

def Flg.or (a b : Flg) : Flg := ⟨a.invalid || b.invalid, a.overflow || b.overflow, a.intSat || b.intSat, a.inexact || b.inexact⟩

/-- Round an exact value to an IEEE-like format: a result beyond the range becomes infinity and sets OVERFLOW (R101, R104). -/
def FFmt.round (f : FFmt) (v : FVal) : Nat × Flg :=
  match v with
  | .nan => (f.nanCode, {})
  | .inf n => (f.signed n f.infCode, {})
  | .fin n m e =>
    let (c, ix) := f.roundMag m e
    if f.maxCode < c then (f.signed n f.infCode, { overflow := true, inexact := true }) else (f.signed n c, { inexact := ix })

/-! ## Exact arithmetic -/

/-- The signed integer mantissa of a finite value at exponent `e0`, which is at most its own. -/
def scaled (neg : Bool) (m : Nat) (e e0 : Int) : Int :=
  let x := (m <<< (e - e0).toNat : Nat)
  if neg then -(x : Int) else (x : Int)

/-- The exact value of an integer mantissa; an exact zero takes the sign given. -/
def ofScaled (x : Int) (e0 : Int) (zneg : Bool) : FVal :=
  if x = 0 then .fin zneg 0 e0 else .fin (decide (x < 0)) x.natAbs e0

/-- The exact sum of two values: opposite infinities and NaNs give NaN, an exact zero is +0 unless both terms are −0 (R102). -/
def fadd (a b : FVal) : FVal :=
  match a, b with
  | .nan, _ => .nan
  | _, .nan => .nan
  | .inf x, .inf y => if x = y then .inf x else .nan
  | .inf x, _ => .inf x
  | _, .inf y => .inf y
  | .fin x m e, .fin y n f =>
    let e0 := min e f
    ofScaled (scaled x m e e0 + scaled y n f e0) e0 (x && y && m == 0 && n == 0)

/-- The exact product: infinity times zero is NaN (R102). -/
def fmul (a b : FVal) : FVal :=
  match a, b with
  | .nan, _ => .nan
  | _, .nan => .nan
  | .inf x, .inf y => .inf (x != y)
  | .inf x, .fin y n _ => if n = 0 then .nan else .inf (x != y)
  | .fin x m _, .inf y => if m = 0 then .nan else .inf (x != y)
  | .fin x m e, .fin y n f => .fin (x != y) (m * n) (e + f)

def fneg : FVal → FVal
  | .nan => .nan
  | .inf n => .inf (!n)
  | .fin n m e => .fin (!n) m e

def FVal.isNan : FVal → Bool
  | .nan => true
  | _ => false

/-- Multiply exactly by a power of two. -/
def fscale (v : FVal) (k : Int) : FVal :=
  match v with
  | .fin n m e => .fin n m (e + k)
  | x => x

/-- The exact sum of products of one block (R101, R102). -/
def blockSum : List (FVal × FVal) → FVal
  | [] => .fin true 0 0
  | (a, b) :: r => fadd (fmul a b) (blockSum r)

/-- One addition of a block sum to C: exact, rounded once to FP32 (R101). INVALID is set by a NaN that no operand held. -/
def accumulate (c : Nat) (bs : FVal) (inputNan : Bool) : Nat × Flg :=
  let v := fadd (fmtFP32.decode c) bs
  let (r, f) := fmtFP32.round v
  (r, { f with invalid := v.isNan && !inputNan && !(fmtFP32.decode c).isNan })

/-- Saturating signed 32-bit accumulation (R103). -/
def accInt (c : Int) (x : Int) : Int × Flg :=
  let v := c + x
  if v < -2147483648 then (-2147483648, { intSat := true })
  else if 2147483647 < v then (2147483647, { intSat := true }) else (v, {})

/-! ## Conversions -/

/-- An FP32 value to FP8 under CORE_MODE.SAT (R104, R105). -/
def toFp8 (f : FFmt) (sat : Bool) (v : FVal) : Nat × Flg :=
  match v with
  | .nan => (f.nanCode, {})
  | .inf n => if f.sp = .nanOnly then (if sat then (f.signed n f.maxCode, {}) else (f.nanCode, { invalid := true })) else (f.signed n f.infCode, {})
  | .fin n m e =>
    let big := if f.sp = .nanOnly then (0 < m ∧ (464 : Int) ≤ (if 0 ≤ e then (m <<< e.toNat : Nat) else (m >>> (-e).toNat : Nat)))
      else (0 < m ∧ (61440 : Int) ≤ (if 0 ≤ e then (m <<< e.toNat : Nat) else (m >>> (-e).toNat : Nat)))
    if big then
      if sat then (f.signed n f.maxCode, { overflow := true, inexact := true })
      else ((if f.sp = .nanOnly then f.nanCode else f.signed n f.infCode), { overflow := true, inexact := true, invalid := f.sp == .nanOnly })
    else
      let (c, ix) := f.roundMag m e
      (f.signed n c, { inexact := ix })

/-- An INT32 shifted right by 0 to 31 to INT8, ties to even, saturating (R104). -/
def toInt8 (x : Int) (sh : Nat) : Nat × Flg :=
  let q : Int := if x < 0 then -((rne x.natAbs sh : Nat) : Int) else ((rne x.natAbs sh : Nat) : Int)
  let ix := x.natAbs % 2 ^ sh != 0
  if q < -128 then (0x80, { intSat := true, inexact := ix }) else if 127 < q then (0x7F, { intSat := true, inexact := ix })
  else (ofInt 8 q, { inexact := ix })

/-- Floor of the base-two logarithm of a positive finite magnitude. -/
def flog2 (m : Nat) (e : Int) : Int := (Nat.log2 m : Int) + e

/-- The largest exponent of an MX element format (R106 step 3). -/
def emaxOf (f : FFmt) : Int := if f = fmtE4M3 then 8 else if f = fmtE5M2 then 15 else if f = fmtE2M3 then 2 else if f = fmtE3M2 then 4 else 2

/-- The MX scale of a block of values (R106): 0xFF for a NaN or infinity, 0 for all zeros, otherwise the clamped exponent. -/
def mxScale (f : FFmt) (vs : List FVal) : Nat :=
  if vs.any (fun v => match v with | .fin _ _ _ => false | _ => true) then 0xFF
  else
    let logs := vs.filterMap fun v => match v with | .fin _ m e => if m = 0 then none else some (flog2 m e) | _ => none
    match logs with
    | [] => 0
    | l :: r => ((max (-127) (min 127 (r.foldl max l - emaxOf f))) + 127).toNat

/-- The largest finite magnitude code of an MX element (E5M2 elements keep IEEE infinities out of reach). -/
def mxElem (f : FFmt) (scale : Nat) (v : FVal) : Nat × Flg :=
  if scale = 0xFF then (0, {})
  else match v with
  | .fin n m e =>
    let (c, ix) := f.roundMag m (if m = 0 then e else e - ((scale : Int) - 127))
    if f.maxCode < c then (f.signed n f.maxCode, { overflow := true, inexact := true }) else (f.signed n c, { inexact := ix })
  | _ => (0, {})

/-- One MX block: its scale and its elements (R106). -/
def toMx (f : FFmt) (vs : List FVal) : Nat × List Nat × Flg :=
  let sc := mxScale f vs
  let es := vs.map (mxElem f sc)
  (sc, es.map (·.1), es.foldl (fun a x => a.or x.2) {})

/-- The value of an MX element under its scale (R98, R101). -/
def mxValue (f : FFmt) (scale code : Nat) : FVal :=
  if scale = 0xFF then .nan else fscale (f.decode code) ((scale : Int) - 127)

/-! ## The vector unit -/

/-- Compare two finite or infinite values: less, equal, greater; none with a NaN. -/
def fcompare (a b : FVal) : Option Ordering :=
  match fadd a (fneg b) with
  | .fin n m _ => some (if m = 0 then .eq else if n then .lt else .gt)
  | .inf n => some (if n then .lt else .gt)
  | .nan => match a, b with
    | .inf x, .inf y => if x = y then some .eq else none
    | _, _ => none

/-- The integer square root by bits: `n` bits of result. -/
def isqrtBits : Nat → Nat → Nat → Nat
  | 0, _, r => r
  | n + 1, x, r => let c := r + 2 ^ n; isqrtBits n x (if c * c ≤ x then c else r)

/-- Move a finite code by −2 to +2 units in the last place of its magnitude, as an open value says (R108); an infinity stays. -/
def FFmt.nudge (f : FFmt) (c k : Nat) : Nat :=
  let mag := c % 2 ^ (f.eb + f.mb)
  if f.maxCode < mag then c else c - mag + min (mag + k % 5 - 2) f.infCode

/-- The reciprocal of a nonzero finite value, rounded, before the open error of at most 2 ulp (R108). -/
def recipOf (f : FFmt) (n : Bool) (m : Nat) (e : Int) : Nat × Flg := f.round (.fin n (2 ^ 80 / m) (-e - 80))

/-- The reciprocal square root of a positive finite value, rounded, before the open error (R108). -/
def rsqrtOf (f : FFmt) (m : Nat) (e : Int) : Nat × Flg :=
  let odd := e % 2 ≠ 0
  let m2 := if odd then m * 2 else m
  let e2 := if odd then e - 1 else e
  let q := isqrtBits 100 (2 ^ 160 / m2) 0
  f.round (.fin false q (-(e2 / 2) - 80))

end Sys2Proof.Machine
end

