-- ==== Sys2Proof/Machine/Operands.lean ====
section
/-!
DEFINITION. Operand forms of the core's instructions: formats, elements of tensor registers, scratchpad ranges and the checks an access passes (R98, R100,
R109, R351), and the scalar operations (R95).
-/
namespace Sys2Proof.Machine

/-! ## Scratchpad ranges -/

/-- A range that LD, ST and the other accesses of a program may touch (R109): program data or the tensor registers. -/
def accessible (a n : Nat) : Bool := decide (a + n ≤ 0x12C00) || (decide (0x14000 ≤ a) && decide (a + n ≤ 0x18000))

/-- Where tensor register `t` lies (R109). -/
def tensorBase (t : Nat) : Nat := 0x14000 + t * 0x800

/-- Read a range for the core: an error the decoder reports, or poison in it, stops the core with SPAD_ECC (R351). -/
def readChecked (w f u a n : Nat) (e : Ecc) (s : State) (k : State → State) : State :=
  match e with
  | .bad i => spadFault w f u 0 ((wordsOf a n).getD i (a / 8)) s
  | .corrected _ => if (s.core w f u).poisonIn a n then spadFault w f u 0 (a / 8) s else k (s.bump SPAD_CE_COUNT w f 1)
  | .good =>
    match (wordsOf a n).find? fun x => (s.core w f u).spadPoison.contains x with
    | some x => spadFault w f u 0 x s
    | none => k s

/-- The 64-bit words that a range covers only in part. -/
def partWords (a n : Nat) : List Nat := (wordsOf a n).filter fun k => decide (8 * k < a) || decide (a + n < 8 * k + 8)

/-- Write a range for the core: a partly covered word is read first, so poison or an error in it stops the core; a whole word's poison clears (R351). -/
def writeChecked (w f u a : Nat) (bs : List Nat) (e : Ecc) (s : State) (k : State → State) : State :=
  let n := bs.length
  let go := fun (t : State) => k (t.modCore w f u fun c => c.deliver a bs)
  match e with
  | .bad i => if (partWords a n).isEmpty then go s else spadFault w f u 0 ((partWords a n).getD i (a / 8)) s
  | .corrected _ => if (partWords a n).any fun x => (s.core w f u).spadPoison.contains x then spadFault w f u 0 (a / 8) s else go (s.bump SPAD_CE_COUNT w f 1)
  | .good =>
    match (partWords a n).find? fun x => (s.core w f u).spadPoison.contains x with
    | some x => spadFault w f u 0 x s
    | none => go s

/-! ## Formats -/

def fmtFloat : Fmt → FFmt
  | .e4m3 => fmtE4M3 | .e5m2 => fmtE5M2 | .mxE4m3 => fmtE4M3 | .mxE5m2 => fmtE5M2
  | .mxE2m3 => fmtE2M3 | .mxE3m2 => fmtE3M2 | .mxE2m1 => fmtE2M1 | .bf16 => fmtBF16 | .fp16 => fmtFP16 | .int8 => fmtE4M3
/-- Whether a format carries MX scales (R98). -/
def fmtMx : Fmt → Bool
  | .mxE4m3 => true | .mxE5m2 => true | .mxE2m3 => true | .mxE3m2 => true | .mxE2m1 => true | _ => false
/-- Bits of an element. -/
def fmtBits : Fmt → Nat
  | .mxE2m3 => 6 | .mxE3m2 => 6 | .mxE2m1 => 4 | .bf16 => 16 | .fp16 => 16 | _ => 8
/-- The reduction length K (R99). -/
def fmtK : Fmt → Nat
  | .mxE2m1 => 64 | _ => 32
/-- Tokens of an MMA (R99). -/
def fmtTokens : Fmt → Nat
  | .bf16 => 64 | .fp16 => 64 | _ => 32

/-- The pairings of formats that one MMA allows (R98). -/
def fmtPair (a b : Fmt) : Bool :=
  if a = b then true
  else match a, b with
  | .e4m3, .e5m2 => true | .e5m2, .e4m3 => true
  | .mxE4m3, .mxE5m2 => true | .mxE5m2, .mxE4m3 => true
  | .mxE2m3, .mxE3m2 => true | .mxE3m2, .mxE2m3 => true
  | _, _ => false

/-- Element `i` of a packed array of `nb`-bit elements at byte `base`, low bits first (R100). -/
def Core.elem (c : Core) (base nb i : Nat) : Nat :=
  let bit := nb * i
  (ofLeBytes (c.bytes (base + bit / 8) 5) >>> (bit % 8)) % 2 ^ nb

/-- The bytes of operand data and of scales that `rows` rows or columns of K elements use (R99, R100). -/
def operandBytes (x : Fmt) (rows : Nat) : Nat := rows * fmtK x * fmtBits x / 8
def scaleBytes (x : Fmt) (rows : Nat) : Nat := if fmtMx x then rows * (fmtK x / 32) else 0

/-! ## Matrix step -/

/-- Row or column `r` of an operand, block `b`: its 32 element codes (R100). -/
def Core.block (c : Core) (base : Nat) (x : Fmt) (r b : Nat) : List Nat :=
  (List.range 32).map fun k => c.elem base (fmtBits x) (r * fmtK x + 32 * b + k)

/-- The MX scale of a block; 127 (a factor of 1) where the format has none. -/
def Core.scale (c : Core) (base : Nat) (x : Fmt) (r b : Nat) : Nat :=
  if fmtMx x then c.byte (base + 0x700 + r * (fmtK x / 32) + b) else 127

/-- The exact sum of one block of products, scaled, and whether an input of it is NaN (R101, R102). -/
def blockValue (xa xb : Fmt) (as bs : List Nat) (sa sb : Nat) : FVal × Bool :=
  let va := as.map (fmtFloat xa).decode
  let vb := bs.map (fmtFloat xb).decode
  let nanScale := (fmtMx xa && sa == 0xFF) || (fmtMx xb && sb == 0xFF)
  let inNan := nanScale || va.any FVal.isNan || vb.any FVal.isNan
  (if nanScale then .nan else fscale (blockSum (va.zip vb)) ((sa : Int) + sb - 254), inNan)

/-- One element of C after an MMA (R101, R103). -/
def Core.mmaElem (c : Core) (xa xb : Fmt) (ba bb : Nat) (i j cv : Nat) : Nat × Flg :=
  (List.range (fmtK xa / 32)).foldl (fun acc b =>
    let as := c.block ba xa i b
    let bs := c.block bb xb j b
    if xa = .int8 then
      let r := accInt (toInt 32 acc.1) ((as.zip bs).foldl (fun n x => n + toInt 8 x.1 * toInt 8 x.2) 0)
      (ofInt 32 r.1, acc.2.or r.2)
    else
      let v := blockValue xa xb as bs (c.scale ba xa i b) (c.scale bb xb j b)
      let r := accumulate acc.1 v.1 v.2
      (r.1, acc.2.or r.2)) (cv, {})

/-- All 768 elements of C, row-major (R100). -/
def Core.mma (c : Core) (xa xb : Fmt) (pair ta tb : Nat) : List (Nat × Flg) :=
  (List.range 768).map fun n =>
    c.mmaElem xa xb (tensorBase ta) (tensorBase tb) (n / 32) (n % 32) (ofLeBytes (c.bytes (tensorBase (2 * pair) + 4 * n) 4))

/-- The sticky flags of a core after an operation (R107). -/
def Core.stick (c : Core) (x : Flg) : Core :=
  { c with invalid := c.invalid || x.invalid, overflow := c.overflow || x.overflow, intSat := c.intSat || x.intSat, inexact := c.inexact || x.inexact }

def orFlags (xs : List (Nat × Flg)) : Flg := xs.foldl (fun a x => a.or x.2) {}

/-! ## Conversions -/

def cvtMx : CvtFmt → Option FFmt
  | .mxE4m3 => some fmtE4M3 | .mxE5m2 => some fmtE5M2 | .mxE2m3 => some fmtE2M3 | .mxE3m2 => some fmtE3M2 | .mxE2m1 => some fmtE2M1 | _ => none
def cvtBits : CvtFmt → Nat
  | .fp32 => 32 | .bf16 => 16 | .fp16 => 16 | .mxE2m3 => 6 | .mxE3m2 => 6 | .mxE2m1 => 4 | .int32 => 32 | _ => 8

/-- A conversion exists: INT8 is made only from INT32 (R104). -/
def cvtLegal (src dst : CvtFmt) : Bool := !(dst == .int8) || src == .int32

/-- The exact value of source element `i` of a register (R98). -/
def Core.cvtIn (c : Core) (x : CvtFmt) (base i : Nat) : FVal :=
  let code := c.elem base (cvtBits x) i
  match x with
  | .fp32 => fmtFP32.decode code
  | .bf16 => fmtBF16.decode code
  | .fp16 => fmtFP16.decode code
  | .e4m3 => fmtE4M3.decode code
  | .e5m2 => fmtE5M2.decode code
  | .int32 => ofScaled (toInt 32 code) 0 false
  | .int8 => ofScaled (toInt 8 code) 0 false
  | _ => match cvtMx x with
    | some ff => mxValue ff (c.byte (base + 0x700 + i / 32)) code
    | none => .nan

/-- Values rounded and saturated into a destination format that carries no MX scale (R104): the code of each and the flags. INT32 results of values outside
its range or of a NaN are open. -/
def cvtOut (dst : CvtFmt) (sat : Bool) (sh : Nat) (code : Nat) (v : FVal) : Nat × Flg :=
  match dst with
  | .fp32 => fmtFP32.round v
  | .bf16 => fmtBF16.round v
  | .fp16 => fmtFP16.round v
  | .e4m3 => toFp8 fmtE4M3 sat v
  | .e5m2 => toFp8 fmtE5M2 sat v
  | .int8 => toInt8 (toInt 32 code) sh
  | .int32 =>
    match v with
    | .fin n m e =>
      let q := if 0 ≤ e then m <<< e.toNat else rne m (-e).toNat
      let x : Int := if n then -(q : Int) else (q : Int)
      if -2147483648 ≤ x ∧ x ≤ 2147483647 then (ofInt 32 x, { inexact := !(decide (0 ≤ e)) && m % 2 ^ (-e).toNat != 0 }) else (Config.cvtInt code % 2 ^ 32, {})
    | _ => (Config.cvtInt code % 2 ^ 32, {})
  | _ => (0, {})

/-- Pack codes of `nb` bits into bytes, low bits first (R100). -/
def packBits (nb : Nat) (cs : List Nat) : List Nat :=
  leBytes ((nb * cs.length + 7) / 8) ((cs.reverse).foldl (fun n c => n * 2 ^ nb + c % 2 ^ nb) 0)

/-- The blocks of 32 of a list, `n` of them. -/
def blocksOf {α : Type} : Nat → List α → List (List α)
  | 0, _ => []
  | n + 1, l => l.take 32 :: blocksOf n (l.drop 32)

/-- Convert the 512 elements of a register (log entry 9): the bytes of the destination and, for an MX format, its scales, with the flags. -/
def Core.cvt (c : Core) (src dst : CvtFmt) (ta sh : Nat) : List Nat × List Nat × Flg :=
  let base := tensorBase ta
  let vals := (List.range 512).map fun i => (c.elem base (cvtBits src) i, c.cvtIn src base i)
  match cvtMx dst with
  | some ff =>
    let bs := (blocksOf 16 (vals.map (·.2))).map (toMx ff)
    (packBits (cvtBits dst) (bs.flatMap fun b => b.2.1), bs.map (·.1), bs.foldl (fun a b => a.or b.2.2) {})
  | none =>
    let rs := vals.map fun x => cvtOut dst (bitAt c.mode 1) sh x.1 x.2
    (packBits (cvtBits dst) (rs.map (·.1)), [], orFlags rs)

/-! ## Vector unit -/

def vecFmt (bf : Bool) : FFmt := if bf then fmtBF16 else fmtFP32
/-- Elements of a tensor register (R108). -/
def vecCount (bf : Bool) : Nat := if bf then 1024 else 512
/-- Tokens of one pass over a tensor register: 64 FP32 or 128 BF16 elements a token (R108). -/
def vecTokens : Nat := 8

/-- The NaN that an operation makes from operands without one sets INVALID (R107). -/
def vecRound (bf : Bool) (v : FVal) (inNan : Bool) : Nat × Flg :=
  let r := (vecFmt bf).round v
  (r.1, { r.2 with invalid := v.isNan && !inNan })

def vecAdd (bf : Bool) (a b : Nat) : Nat × Flg :=
  let x := (vecFmt bf).decode a
  let y := (vecFmt bf).decode b
  vecRound bf (fadd x y) (x.isNan || y.isNan)

def vecSub (bf : Bool) (a b : Nat) : Nat × Flg :=
  let x := (vecFmt bf).decode a
  let y := (vecFmt bf).decode b
  vecRound bf (fadd x (fneg y)) (x.isNan || y.isNan)

def vecMul (bf : Bool) (a b : Nat) : Nat × Flg :=
  let x := (vecFmt bf).decode a
  let y := (vecFmt bf).decode b
  vecRound bf (fmul x y) (x.isNan || y.isNan)

/-- a times b plus c, rounded once (R108). -/
def vecFma (bf : Bool) (a b c : Nat) : Nat × Flg :=
  let x := (vecFmt bf).decode a
  let y := (vecFmt bf).decode b
  let z := (vecFmt bf).decode c
  vecRound bf (fadd (fmul x y) z) (x.isNan || y.isNan || z.isNan)

/-- The lesser or the greater of two elements; with a NaN, or between zeros of different sign, the result is open (R108 states none). -/
def vecPick (min : Bool) (bf : Bool) (a b : Nat) : Nat × Flg :=
  match fcompare ((vecFmt bf).decode a) ((vecFmt bf).decode b) with
  | some .lt => (if min then a else b, {})
  | some .gt => (if min then b else a, {})
  | some .eq => (if a = b then a else Config.vecSpecial (b2n min) bf a b % 2 ^ (vecFmt bf).width, {})
  | none => (Config.vecSpecial (b2n min) bf a b % 2 ^ (vecFmt bf).width, {})

def vecCmp (bf : Bool) (a b : Nat) : Nat × Flg := (Config.vecCompare bf a b % 2 ^ (vecFmt bf).width, {})

/-- Roots of two: the 40 numbers two to the 2^-k, k from 1, with 64 fraction bits. -/
def expRoots : Nat → Nat → List Nat
  | 0, _ => []
  | n + 1, x => let r := isqrtBits 66 (x <<< 64) 0; r :: expRoots n r

/-- Two to the fraction `f` of 40 bits, with 64 fraction bits. -/
def exp2Frac (f : Nat) : Nat :=
  ((expRoots 40 (2 ^ 65)).zipIdx).foldl (fun p x => if bitAt f (39 - x.2) then (p * x.1) >>> 64 else p) (2 ^ 64)

/-- exp2 of an element, within 2 ulp (R108): infinities and NaN are not stated. -/
def vecExp2 (bf : Bool) (a : Nat) : Nat × Flg :=
  let ff := vecFmt bf
  match ff.decode a with
  | .fin n m e =>
    -- the input as a fixed-point number with 40 fraction bits, cut at a size at which every format has overflowed
    let mag := if 0 ≤ e + 40 then min (m <<< (min (e + 40).toNat 60)) (2 ^ 60) else m >>> (-(e + 40)).toNat
    let x : Int := if n then -(mag : Int) else (mag : Int)
    let ip := x / 2 ^ 40
    let fr := (x % 2 ^ 40).toNat
    let r := ff.round (.fin false (exp2Frac fr) (ip - 64))
    if m = 0 then r else (ff.nudge r.1 (Config.vecNudge 0 bf a), { r.2 with inexact := true })
  | _ => (Config.vecSpecial 2 bf a 0 % 2 ^ ff.width, {})

/-- The reciprocal, within 2 ulp (R108). -/
def vecRecip (bf : Bool) (a : Nat) : Nat × Flg :=
  let ff := vecFmt bf
  match ff.decode a with
  | .fin n m e => if m = 0 then (Config.vecSpecial 3 bf a 0 % 2 ^ ff.width, {}) else (ff.nudge (recipOf ff n m e).1 (Config.vecNudge 1 bf a), { (recipOf ff n m e).2 with inexact := true })
  | _ => (Config.vecSpecial 3 bf a 0 % 2 ^ ff.width, {})

/-- The reciprocal square root, within 2 ulp (R108). -/
def vecRsqrt (bf : Bool) (a : Nat) : Nat × Flg :=
  let ff := vecFmt bf
  match ff.decode a with
  | .fin n m e => if m = 0 ∨ n then (Config.vecSpecial 4 bf a 0 % 2 ^ ff.width, {}) else (ff.nudge (rsqrtOf ff m e).1 (Config.vecNudge 2 bf a), { (rsqrtOf ff m e).2 with inexact := true })
  | _ => (Config.vecSpecial 4 bf a 0 % 2 ^ ff.width, {})

/-- The elements of a tensor register. -/
def Core.vec (c : Core) (bf : Bool) (t : Nat) : List Nat :=
  (List.range (vecCount bf)).map fun i => c.elem (tensorBase t) (vecFmt bf).width i

/-- One pass of the pairwise tree, with its flags (R108). -/
def treePassF (bf : Bool) : List Nat → List (Nat × Flg)
  | a :: b :: r => vecAdd bf a b :: treePassF bf r
  | [a] => [(a, {})]
  | [] => []

/-- The sum over a fixed pairwise tree, lowest-indexed pairs first, rounding at every node (R108). -/
def treeSumF (bf : Bool) : Nat → List Nat → Flg → Nat × Flg
  | 0, l, fl => (l.headD 0, fl)
  | n + 1, l, fl =>
    match l with
    | [a] => (a, fl)
    | l => let r := treePassF bf l; treeSumF bf n (r.map (·.1)) (fl.or (orFlags r))

/-! ## Scalar operations -/

def intOp (op : IntOp) (a b : Nat) : Nat :=
  match op with
  | .add => (a + b) % 2 ^ 32
  | .sub => (a + notBits 32 b + 1) % 2 ^ 32
  | .mul => a * b % 2 ^ 32
  | .other c => Config.scalarOther (3 * c) a b % 2 ^ 32

def logicOp (op : LogicOp) (a b : Nat) : Nat :=
  match op with
  | .and => a &&& b
  | .or => a ||| b
  | .xor => a ^^^ b
  | .shiftLeft => (a <<< (b % 32)) % 2 ^ 32
  | .shiftRight => a >>> (b % 32)
  | .other c => Config.scalarOther (3 * c + 1) a b % 2 ^ 32

def cmpOp (op : CmpOp) (a b : Nat) : Nat :=
  match op with
  | .eq => b2n (a == b)
  | .ne => b2n (a != b)
  | .ltSigned => b2n (decide (toInt 32 a < toInt 32 b))
  | .ltUnsigned => b2n (decide (a < b))
  | .other c => Config.scalarOther (3 * c + 2) a b % 2 ^ 32

end Sys2Proof.Machine
end

