-- ==== Sys2Proof/Machine/Flags.lean ====
section
/-!
DEFINITION. Issuing one instruction: whether the core may issue, breakpoints and watchpoints, the next instruction index, token counts, and how results and the four sticky
flags reach the core (R86, R97, R107, R113, R710, R711, R713).
-/
namespace Sys2Proof.Machine

/-- The breakpoint armed at an instruction index, if any (R713). -/
def State.breakAt (s : State) (w f u pc : Nat) : Option Nat :=
  (List.range 4).find? fun n => s.rd DBG_BP_ENABLE w (coreIdx f u * 4 + n) == 1 && s.rd DBG_BP_INDEX w (coreIdx f u * 4 + n) == pc

/-- The watchpoint that an access of `n` bytes at `a` matches, if any (R713): kind 1 reads, 2 writes. -/
def State.watchAt (s : State) (w f u a n kind : Nat) : Option Nat :=
  (List.range 2).find? fun k =>
    let i := coreIdx f u * 2 + k
    let base := s.rd DBG_WP_ADDR_BASE w i
    s.rd DBG_WP_CFG_ENABLE w i == 1 && (s.rd DBG_WP_CFG_KIND w i == kind || s.rd DBG_WP_CFG_KIND w i == 3)
      && decide (a < base + s.rd DBG_WP_CFG_LEN w i) && decide (base < a + n)

/-- The core can issue its next instruction now. -/
def State.canIssue (s : State) (w f u : Nat) : Bool :=
  let c := s.core w f u
  c.st == .run && c.wait == .none && s.coreRuns w f u

/-- The core goes to its next instruction. -/
def advance (w f u : Nat) (s : State) : State := s.modCore w f u fun c => { c with pc := c.pc + 1 }

/-- What follows a completed instruction: a core that a debugger steps halts again (R711). -/
def stepEnd (w f u : Nat) (s : State) : State :=
  let c := s.core w f u
  if c.stepping ∧ c.wait = .none ∧ c.st ≠ .halt ∧ c.st ≠ .fault then haltCore w f u 2 0 s else s

/-- Issue one instruction (R97, R113, R710): nothing happens while the core cannot issue; an armed breakpoint at its index halts the core first; an index beyond the store or a bad
instruction faults it; otherwise `body` is the instruction's effect, whole. -/
def issue (w f u : Nat) (body : State → State) (s : State) : State :=
  let c := s.core w f u
  if !s.canIssue w f u then s
  else
    match if c.skipBreak then none else s.breakAt w f u c.pc with
    | some n => haltCore w f u 3 n s
    | none =>
      if 3072 ≤ c.pc then coreFault w f u 1 s
      else if c.istorePoison.contains c.pc then coreFault w f u 7 (spadUncorrectable w f u 1 0 c.pc s)
      else stepEnd w f u (body (s.modCore w f u fun c => { c with skipBreak := false }))

/-- Token counts: known for MMA and VEC (R99, R108), open for every other instruction (R86 counts tokens, no rule gives theirs). -/
def openTokens (w f u : Nat) (s : State) : State := (s.fresh.2).addTokens w f u s.fresh.1

/-- Write a general register and go on. -/
def writeReg (w f u rd v : Nat) (s : State) : State :=
  openTokens w f u (s.modCore w f u fun c => { c.setReg rd v with pc := c.pc + 1 })

/-- Write a register pair and go on (R115). -/
def writePair (w f u rd v : Nat) (s : State) : State :=
  openTokens w f u (s.modCore w f u fun c => { c.setPair rd v with pc := c.pc + 1 })

/-- Halt on a matching watchpoint after an access completes (R710, R713). -/
def watched (w f u a n kind : Nat) (s : State) : State :=
  match s.watchAt w f u a n kind with
  | some k => if (s.core w f u).st = .fault then s else haltCore w f u 4 k s
  | none => s

/-- Write a tensor register's first bytes, set the sticky flags, count the tokens and go on. -/
def writeTensor (w f u td : Nat) (bs : List Nat) (fl : Flg) (tokens : Nat) (s : State) : State :=
  (s.modCore w f u fun c => { (c.deliver (tensorBase td) bs).stick fl with pc := c.pc + 1 }).addTokens w f u tokens

/-- Read tensor registers for the MAC array or the vector unit: poison in the bytes used stops the core (R351). -/
def tensorChecked (w f u : Nat) (ranges : List (Nat × Nat)) (s : State) (k : State → State) : State :=
  match ranges.find? fun x => (s.core w f u).poisonIn x.1 x.2 with
  | some x =>
    match (wordsOf x.1 x.2).find? fun y => (s.core w f u).spadPoison.contains y with
    | some y => spadFault w f u 0 y s
    | none => k s
  | none => k s

/-- An element-wise vector operation over tensor registers (R108). -/
def vecOp (w f u : Nat) (bf : Bool) (td : Nat) (srcs : List Nat) (op : List Nat → Nat × Flg) (s : State) : State :=
  tensorChecked w f u (srcs.map fun t => (tensorBase t, 0x800)) s fun s =>
    let c := s.core w f u
    let rs := (List.range (vecCount bf)).map fun i => op (srcs.map fun t => c.elem (tensorBase t) (vecFmt bf).width i)
    writeTensor w f u td (packBits (vecFmt bf).width (rs.map (·.1))) (orFlags rs) vecTokens s

end Sys2Proof.Machine
end

