-- ==== Sys2Proof/Machine/CoreOps.lean ====
section
/-!
DEFINITION. The core's instructions (R94-R135): scalar, tensor, local memory, loft reads, peer messages, tasks and stealing, the commit buffer, semaphores and the
scrubber.
-/
namespace Sys2Proof.Machine

/-! ## Scalar -/

def execIntArithmetic (w : WaferId) (f : FieldId) (u : UnitId) (op : IntOp) (rd ra rb : Fin 32) (s : State) : Res :=
  .next (issue w f u (fun t => writeReg w f u rd (intOp op ((t.core w f u).reg ra) ((t.core w f u).reg rb)) t) s)

def execLogic (w : WaferId) (f : FieldId) (u : UnitId) (op : LogicOp) (rd ra rb : Fin 32) (s : State) : Res :=
  .next (issue w f u (fun t => writeReg w f u rd (logicOp op ((t.core w f u).reg ra) ((t.core w f u).reg rb)) t) s)

def execCompare (w : WaferId) (f : FieldId) (u : UnitId) (op : CmpOp) (rd ra rb : Fin 32) (s : State) : Res :=
  .next (issue w f u (fun t => writeReg w f u rd (cmpOp op ((t.core w f u).reg ra) ((t.core w f u).reg rb)) t) s)

/-- Whether a branch is taken. -/
def Core.taken (c : Core) : BrCond → Bool
  | .always => true
  | .zero r => c.reg r == 0
  | .nonzero r => c.reg r != 0

/-- BRANCH: a target beyond instruction 3,071 faults ISTORE_RANGE (R113). -/
def branch (w f u : Nat) (c : BrCond) (target : Nat) (s : State) : State :=
  if (s.core w f u).taken c then
    if 3072 ≤ target then coreFault w f u 1 s
    else openTokens w f u (s.modCore w f u fun x => { x with pc := target })
  else openTokens w f u (advance w f u s)

def execBranch (w : WaferId) (f : FieldId) (u : UnitId) (c : BrCond) (target : BitVec 16) (s : State) : Res :=
  .next (issue w f u (branch w f u c target.toNat) s)

/-- TIME: the timebase as the core reads it (R85, R115; log entry 10). -/
def execTime (w : WaferId) (f : FieldId) (u : UnitId) (rd : Fin 32) (s : State) : Res :=
  .next (issue w f u (fun t => writePair w f u rd (t.tbNow w) t) s)

def execTokens (w : WaferId) (f : FieldId) (u : UnitId) (rd : Fin 32) (s : State) : Res :=
  .next (issue w f u (fun t => writePair w f u rd (t.reg CORE_TOKENS w (coreIdx f u)) t) s)

def execFlags (w : WaferId) (f : FieldId) (u : UnitId) (rd : Fin 32) (s : State) : Res :=
  .next (issue w f u (fun t => writeReg w f u rd (t.core w f u).flags t) s)

/-- WAIT: goes on once the signal word has reached the count (R96); a signal that arrives later ends the wait. -/
def waitOn (w f u word count : Nat) (s : State) : State :=
  if count ≤ (s.core w f u).signal word then openTokens w f u (advance w f u s)
  else s.modCore w f u fun c => { c with wait := .signal word count, waitSince := s.now }

def execWait (w : WaferId) (f : FieldId) (u : UnitId) (word : Fin 16) (count : Word32) (s : State) : Res :=
  .next (issue w f u (waitOn w f u word count.toNat) s)

/-! ## Tensor -/

/-- MMA (R98-R103): ARRAY_OFF in VECTOR mode, ILLEGAL for a pairing or a register use that R98 and R100 do not allow. -/
def mma (w f u : Nat) (xa xb : Fmt) (pair ta tb : Nat) (s : State) : State :=
  let c := s.core w f u
  if bitAt c.mode 0 then coreFault w f u 3 s
  else if !fmtPair xa xb || ta / 2 == pair || tb / 2 == pair then coreFault w f u 9 s
  else
    let ranges := [(tensorBase ta, operandBytes xa 24), (tensorBase ta + 0x700, scaleBytes xa 24),
      (tensorBase tb, operandBytes xb 32), (tensorBase tb + 0x700, scaleBytes xb 32), (tensorBase (2 * pair), 3072)]
    tensorChecked w f u ranges s fun s =>
      let c := s.core w f u
      let rs := c.mma xa xb pair ta tb
      writeTensor w f u (2 * pair) (rs.flatMap fun r => leBytes 4 r.1) (orFlags rs) (fmtTokens xa)
        (s.modCore w f u fun c => { c with ops := c.ops + 2 * 768 * fmtK xa })

def execMma (w : WaferId) (f : FieldId) (u : UnitId) (fa fb : Fmt) (pair : Fin 4) (ta tb : Fin 8) (s : State) : Res :=
  .next (issue w f u (mma w f u fa fb pair ta tb) s)

/-- CVT (R104-R106): the converted elements, then the scales of an MX destination. -/
def cvt (w f u : Nat) (src dst : CvtFmt) (td ta sh : Nat) (s : State) : State :=
  if !cvtLegal src dst then coreFault w f u 9 s
  else
    tensorChecked w f u [(tensorBase ta, 0x800)] s fun s =>
      let r := (s.core w f u).cvt src dst ta sh
      openTokens w f u (s.modCore w f u fun c =>
        { ((c.deliver (tensorBase td) r.1).deliver (tensorBase td + 0x700) r.2.1).stick r.2.2 with pc := c.pc + 1 })

def execCvt (w : WaferId) (f : FieldId) (u : UnitId) (src dst : CvtFmt) (td ta : Fin 8) (shift : Fin 32) (s : State) : Res :=
  .next (issue w f u (cvt w f u src dst td ta shift) s)

def execVecAdd (w : WaferId) (f : FieldId) (u : UnitId) (bf : Bool) (td ta tb : Fin 8) (s : State) : Res :=
  .next (issue w f u (vecOp w f u bf td [ta, tb] fun x => vecAdd bf (x.getD 0 0) (x.getD 1 0)) s)
def execVecSub (w : WaferId) (f : FieldId) (u : UnitId) (bf : Bool) (td ta tb : Fin 8) (s : State) : Res :=
  .next (issue w f u (vecOp w f u bf td [ta, tb] fun x => vecSub bf (x.getD 0 0) (x.getD 1 0)) s)
def execVecMul (w : WaferId) (f : FieldId) (u : UnitId) (bf : Bool) (td ta tb : Fin 8) (s : State) : Res :=
  .next (issue w f u (vecOp w f u bf td [ta, tb] fun x => vecMul bf (x.getD 0 0) (x.getD 1 0)) s)
def execVecFma (w : WaferId) (f : FieldId) (u : UnitId) (bf : Bool) (td ta tb tc : Fin 8) (s : State) : Res :=
  .next (issue w f u (vecOp w f u bf td [ta, tb, tc] fun x => vecFma bf (x.getD 0 0) (x.getD 1 0) (x.getD 2 0)) s)
def execVecMin (w : WaferId) (f : FieldId) (u : UnitId) (bf : Bool) (td ta tb : Fin 8) (s : State) : Res :=
  .next (issue w f u (vecOp w f u bf td [ta, tb] fun x => vecPick true bf (x.getD 0 0) (x.getD 1 0)) s)
def execVecMax (w : WaferId) (f : FieldId) (u : UnitId) (bf : Bool) (td ta tb : Fin 8) (s : State) : Res :=
  .next (issue w f u (vecOp w f u bf td [ta, tb] fun x => vecPick false bf (x.getD 0 0) (x.getD 1 0)) s)
def execVecCompare (w : WaferId) (f : FieldId) (u : UnitId) (bf : Bool) (td ta tb : Fin 8) (s : State) : Res :=
  .next (issue w f u (vecOp w f u bf td [ta, tb] fun x => vecCmp bf (x.getD 0 0) (x.getD 1 0)) s)
def execVecExp2 (w : WaferId) (f : FieldId) (u : UnitId) (bf : Bool) (td ta : Fin 8) (s : State) : Res :=
  .next (issue w f u (vecOp w f u bf td [ta] fun x => vecExp2 bf (x.getD 0 0)) s)
def execVecRecip (w : WaferId) (f : FieldId) (u : UnitId) (bf : Bool) (td ta : Fin 8) (s : State) : Res :=
  .next (issue w f u (vecOp w f u bf td [ta] fun x => vecRecip bf (x.getD 0 0)) s)
def execVecRsqrt (w : WaferId) (f : FieldId) (u : UnitId) (bf : Bool) (td ta : Fin 8) (s : State) : Res :=
  .next (issue w f u (vecOp w f u bf td [ta] fun x => vecRsqrt bf (x.getD 0 0)) s)

/-- VEC reduction (R108): the sum is written into element 0 of the destination (log entry 9). -/
def vecReduce (w f u : Nat) (bf : Bool) (td ta : Nat) (s : State) : State :=
  tensorChecked w f u [(tensorBase ta, 0x800)] s fun s =>
    let r := treeSumF bf 11 ((s.core w f u).vec bf ta) {}
    writeTensor w f u td (leBytes ((vecFmt bf).width / 8) r.1) r.2 vecTokens s

def execVecReduce (w : WaferId) (f : FieldId) (u : UnitId) (bf : Bool) (td ta : Fin 8) (s : State) : Res :=
  .next (issue w f u (vecReduce w f u bf td ta) s)

/-! ## Local memory -/

/-- LD (R109): four bytes into a general register. -/
def load (w f u rd a : Nat) (e : Ecc) (s : State) : State :=
  if !accessible a 4 then coreFault w f u 2 s
  else readChecked w f u a 4 e s fun t =>
    watched w f u a 4 1 (writeReg w f u rd (ofLeBytes ((t.core w f u).bytes a 4)) t)

/-- ST (R109): a general register into four bytes. -/
def store (w f u rs a : Nat) (e : Ecc) (s : State) : State :=
  if !accessible a 4 then coreFault w f u 2 s
  else writeChecked w f u a (leBytes 4 ((s.core w f u).reg rs)) e s fun t =>
    watched w f u a 4 2 (openTokens w f u (advance w f u t))

/-- TLD (R109): 2 KiB of the scratchpad into a tensor register. -/
def loadTensor (w f u td a : Nat) (e : Ecc) (s : State) : State :=
  if !accessible a 0x800 then coreFault w f u 2 s
  else readChecked w f u a 0x800 e s fun t =>
    watched w f u a 0x800 1 (openTokens w f u (t.modCore w f u fun c => { c.deliver (tensorBase td) (c.bytes a 0x800) with pc := c.pc + 1 }))

/-- TST (R109): a tensor register into 2 KiB of the scratchpad. -/
def storeTensor (w f u ts a : Nat) (e : Ecc) (s : State) : State :=
  if !accessible a 0x800 then coreFault w f u 2 s
  else tensorChecked w f u [(tensorBase ts, 0x800)] s fun t =>
    writeChecked w f u a ((t.core w f u).bytes (tensorBase ts) 0x800) e t fun t =>
      watched w f u a 0x800 2 (openTokens w f u (advance w f u t))

def execLd (w : WaferId) (f : FieldId) (u : UnitId) (rd : Fin 32) (addr : Word32) (ecc : Ecc) (s : State) : Res :=
  .next (issue w f u (load w f u rd addr.toNat ecc) s)
def execSt (w : WaferId) (f : FieldId) (u : UnitId) (rs : Fin 32) (addr : Word32) (ecc : Ecc) (s : State) : Res :=
  .next (issue w f u (store w f u rs addr.toNat ecc) s)
def execTld (w : WaferId) (f : FieldId) (u : UnitId) (td : Fin 8) (addr : Word32) (ecc : Ecc) (s : State) : Res :=
  .next (issue w f u (loadTensor w f u td addr.toNat ecc) s)
def execTst (w : WaferId) (f : FieldId) (u : UnitId) (ts : Fin 8) (addr : Word32) (ecc : Ecc) (s : State) : Res :=
  .next (issue w f u (storeTensor w f u ts addr.toNat ecc) s)

/-! ## Loft reads and peer messages -/

/-- A message length (R96, R119): 4 bytes to 4 KiB in multiples of 4. -/
def lenOk (n : Nat) : Bool := decide (4 ≤ n) && decide (n ≤ 4096) && n % 4 == 0

/-- The partition number under which a core's packets travel. -/
def Core.spart (c : Core) : Nat := c.part.getD noPart

/-- LGET (R123, R146): a request for committed loft contents; LGET_DATA brings them into the scratchpad at `ret`. -/
def lget (w f u dest off ret len : Nat) (s : State) : State :=
  if !lenOk len then coreFault w f u 9 s
  else if !accessible ret len then coreFault w f u 2 s
  else
    let s1 := sendMsg w f { typ := 4, dest := dest, src := physAddr w f u, spart := (s.core w f u).spart, addr := off, aux := len / 4 - 1 } (leBytes 4 ret) s
    openTokens w f u (advance w f u s1)

def execLget (w : WaferId) (f : FieldId) (u : UnitId) (dest : BitVec 23) (off : BitVec 40) (ret : Word32) (len : BitVec 16) (s : State) : Res :=
  .next (issue w f u (lget w f u dest.toNat off.toNat ret.toNat len.toNat) s)

/-- Address a peer of the command by its rank: a rank without a seat in the chart faults RANK_SCOPE (R96, R125, R215). -/
def toRank (w f u rank : Nat) (s : State) (k : Nat → State → State) : State :=
  match (s.core w f u).part with
  | none => coreFault w f u 10 s
  | some p =>
    match s.seatOf w p rank with
    | none => coreFault w f u 10 s
    | some a => k a s

/-- SEND (R96): 4 bytes to 4 KiB of the core's scratchpad into a peer's. -/
def send (w f u rank a src len : Nat) (s : State) : State :=
  if !lenOk len then coreFault w f u 9 s
  else if !accessible src len || !accessible a len then coreFault w f u 2 s
  else toRank w f u rank s fun d s => readChecked w f u src len .good s fun t =>
    let c := t.core w f u
    openTokens w f u (advance w f u
      (sendMsg w f { typ := 0, dest := d, src := physAddr w f u, spart := c.spart, addr := a } (c.bytes src len) t))

def execSend (w : WaferId) (f : FieldId) (u : UnitId) (rank : Word32) (addr src : Word32) (len : BitVec 16) (s : State) : Res :=
  .next (issue w f u (send w f u rank.toNat addr.toNat src.toNat len.toNat) s)

/-- FETCH (R96): asks a peer for a range; FETCH_DATA brings it to `ret`. -/
def fetch (w f u rank a ret len : Nat) (s : State) : State :=
  if !lenOk len then coreFault w f u 9 s
  else if !accessible a len || !accessible ret len then coreFault w f u 2 s
  else toRank w f u rank s fun d s =>
    openTokens w f u (advance w f u
      (sendMsg w f { typ := 1, dest := d, src := physAddr w f u, spart := (s.core w f u).spart, addr := a, aux := len / 4 - 1 } (leBytes 4 ret) s))

def execFetch (w : WaferId) (f : FieldId) (u : UnitId) (rank : Word32) (addr ret : Word32) (len : BitVec 16) (s : State) : Res :=
  .next (issue w f u (fetch w f u rank.toNat addr.toNat ret.toNat len.toNat) s)

/-- SIGNAL (R96): adds 1 to a signal word of a peer. -/
def signal (w f u rank word : Nat) (s : State) : State :=
  toRank w f u rank s fun d s =>
    openTokens w f u (advance w f u
      (enqueue w f { typ := 3, dest := d, src := physAddr w f u, spart := (s.core w f u).spart, aux := word } s))

def execSignal (w : WaferId) (f : FieldId) (u : UnitId) (rank : Word32) (word : Fin 16) (s : State) : Res :=
  .next (issue w f u (signal w f u rank.toNat word) s)

/-! ## Tasks -/

/-- PUSH (R116): an entry at the bottom of deque `d`; on a full deque nothing is added and the result register reads 0. -/
def push (w f u d rd rs : Nat) (s : State) : State :=
  let c := s.core w f u
  let q := c.deques.getD d []
  if 64 ≤ q.length then writeReg w f u rd 0 s
  else writeReg w f u rd 1 (s.setCore w f u { c with deques := c.deques.set d (q ++ [c.reg rs]) })

def execPush (w : WaferId) (f : FieldId) (u : UnitId) (d : Fin 4) (rd rs : Fin 32) (s : State) : Res :=
  .next (issue w f u (push w f u d rd rs) s)

/-- The highest-priority non-empty deque (R116). -/
def Core.topDeque (c : Core) : Option Nat := (List.range 4).find? fun d => !(c.deques.getD d []).isEmpty

/-- A task starts at its instruction index with g3 holding its argument (R116, R118). -/
def Core.startTask (c : Core) (e : Nat) : Core := { c.setReg 3 (bits e 31 12) with pc := bits e 11 0, st := .run }

/-- POP (R116): the bottom entry of the highest-priority non-empty deque starts as a task; with all four empty the core is idle (R117). -/
def pop (w f u : Nat) (s : State) : State :=
  let c := s.core w f u
  match c.topDeque with
  | some d =>
    let q := c.deques.getD d []
    openTokens w f u (s.setCore w f u ({ c with deques := c.deques.set d q.dropLast }.startTask (q.getLastD 0)))
  | none => openTokens w f u (s.setCore w f u { c with st := .idle, stealAt := 0, pc := c.pc + 1 })

def execPop (w : WaferId) (f : FieldId) (u : UnitId) (s : State) : Res := .next (issue w f u (pop w f u) s)

/-- The victims of a core in stealing order (R117): rank + 1, − 1, + 2, − 2, … up to the radius, wrapping within the ranks that the partition seats on
its wafer. -/
def State.victims (s : State) (w f u : Nat) : List (Nat × Nat) :=
  let c := s.core w f u
  match c.part with
  | none => []
  | some p =>
    let seats := s.localSeats w p
    let n := seats.length
    let me := (seats.findIdx? fun x => x.2.2 == c.rank).getD 0
    let radius := bits c.mode 9 4
    ((List.range radius).flatMap fun i => [(me + i + 1) % n, (me + n * (i + 1) - (i + 1)) % n]).eraseDups.filterMap fun j =>
      if j = me then none else (seats[j]?).map fun x => (x.1, x.2.1)

/-- An idle core sends its next steal request (R117): a debugger's halt stops stealing (R712), and so does a round that has failed. -/
def stealNext (w f u : Nat) (s : State) : State :=
  let c := s.core w f u
  if c.st ≠ .idle ∨ c.part.isNone ∨ !s.coreRuns w f u then s
  else
    match (s.victims w f u)[c.stealAt]? with
    | none => s
    | some v => enqueue w f { typ := 9, dest := physAddr w v.1 v.2, src := physAddr w f u, spart := c.spart } (s.setCore w f u { c with st := .steal })

def execSteal (w : WaferId) (f : FieldId) (u : UnitId) (s : State) : Res := .next (stealNext w f u s)

/-- STEAL_RETRY (R117): 64 tokens after a failed round the core starts the round again. -/
def stealRetry (w f u : Nat) (s : State) : State :=
  let c := s.core w f u
  if c.st = .idle ∧ (s.victims w f u).length ≤ c.stealAt then stealNext w f u (s.setCore w f u { c with stealAt := 0 }) else s

def execStealRetry (w : WaferId) (f : FieldId) (u : UnitId) (s : State) : Res := .next (stealRetry w f u s)

/-! ## The commit buffer -/

/-- Keep the largest value a field has held. -/
def State.peak (s : State) (x : Fld) (w i v : Nat) : State := if s.rd x w i < v then s.wr x w i v else s

/-- Add an entry to the commit buffer and show the field's peaks (R119, CORE_CB_PEAK). -/
def cbAdd (w f u : Nat) (e : CbEntry) (s : State) : State :=
  let s1 := s.modCore w f u fun c => { c with cb := c.cb ++ [e], pc := c.pc + 1 }
  let c := s1.core w f u
  openTokens w f u (s1.peak CORE_CB_PEAK_WRITES w f c.writes |>.peak CORE_CB_PEAK_ATOMICS w f c.atomics |>.peak CORE_CB_PEAK_BYTES64 w f ((c.cbBytes + 63) / 64))

/-- An outbound write (R119, R121): beyond a limit it does not issue and faults CB_WRITES or CB_BYTES. -/
def outWrite (w f u src len : Nat) (e : CbEntry) (s : State) : State :=
  let c := s.core w f u
  if !lenOk len then coreFault w f u 9 s
  else if !accessible src len then coreFault w f u 2 s
  else if 512 ≤ c.writes then coreFault w f u 4 s
  else if 32768 < c.cbBytes + len then coreFault w f u 5 s
  else cbAdd w f u e s

def execLput (w : WaferId) (f : FieldId) (u : UnitId) (dest : BitVec 23) (off : BitVec 40) (src : Word32) (len : BitVec 16) (s : State) : Res :=
  .next (issue w f u (outWrite w f u src.toNat len.toNat (.lput dest.toNat off.toNat src.toNat len.toNat)) s)
def execXput (w : WaferId) (f : FieldId) (u : UnitId) (dest : BitVec 23) (addr src : Word32) (len : BitVec 16) (s : State) : Res :=
  .next (issue w f u (outWrite w f u src.toNat len.toNat (.xput dest.toNat addr.toNat src.toNat len.toNat)) s)

/-- A remote atomic (R95, R119, R121): an offset that is not a multiple of its width faults ILLEGAL, a 65th entry CB_ATOMICS. A 64-bit operand is a
register pair, low word first. -/
def atomic (w f u op : Nat) (wide : Bool) (dest off rs : Nat) (s : State) : State :=
  let c := s.core w f u
  let v := if wide then c.reg rs + c.reg ((rs + 1) % 32) * 2 ^ 32 else c.reg rs
  if off % (if wide then 8 else 4) ≠ 0 then coreFault w f u 9 s
  else if 64 ≤ c.atomics then coreFault w f u 6 s
  else cbAdd w f u (.atom op wide dest off v) s

def execAtomAdd (w : WaferId) (f : FieldId) (u : UnitId) (wide : Bool) (dest : BitVec 23) (off : BitVec 40) (rs : Fin 32) (s : State) : Res :=
  .next (issue w f u (atomic w f u 0 wide dest.toNat off.toNat rs) s)
def execAtomMin (w : WaferId) (f : FieldId) (u : UnitId) (wide : Bool) (dest : BitVec 23) (off : BitVec 40) (rs : Fin 32) (s : State) : Res :=
  .next (issue w f u (atomic w f u 1 wide dest.toNat off.toNat rs) s)
def execAtomMax (w : WaferId) (f : FieldId) (u : UnitId) (wide : Bool) (dest : BitVec 23) (off : BitVec 40) (rs : Fin 32) (s : State) : Res :=
  .next (issue w f u (atomic w f u 2 wide dest.toNat off.toNat rs) s)
def execAtomOr (w : WaferId) (f : FieldId) (u : UnitId) (wide : Bool) (dest : BitVec 23) (off : BitVec 40) (rs : Fin 32) (s : State) : Res :=
  .next (issue w f u (atomic w f u 3 wide dest.toNat off.toNat rs) s)
def execAtomSwap (w : WaferId) (f : FieldId) (u : UnitId) (wide : Bool) (dest : BitVec 23) (off : BitVec 40) (rs : Fin 32) (s : State) : Res :=
  .next (issue w f u (atomic w f u 4 wide dest.toNat off.toNat rs) s)

/-! ## Semaphores -/

/-- Send a TAKE and wait for its grant (R391): the next instruction stays the TAKE until then. -/
def sendTake (w f u sem slot : Nat) (s : State) : State :=
  let s1 := sendMgmt w f u (s.arbiter slot) (s.core w f u).spart 0x10 0 (semOffset sem) [] s
  s1.modCore w f u fun c => { c with wait := .sema sem slot, waitSince := s.now, beforeTake := false }

/-- A semaphore is named by a register: its index in bits 9:0, the wafer slot in bits 15:10 (R391). -/
def semaTake (w f u rs : Nat) (s : State) : State :=
  let v := (s.core w f u).reg rs
  sendTake w f u (v % 1024) (bits v 15 10) s

def execSemaTake (w : WaferId) (f : FieldId) (u : UnitId) (rs : Fin 32) (s : State) : Res := .next (issue w f u (semaTake w f u rs) s)

/-- GIVE takes one atomic entry of the commit buffer (R391). -/
def semaGive (w f u rs : Nat) (s : State) : State :=
  let c := s.core w f u
  if 64 ≤ c.atomics then coreFault w f u 6 s
  else cbAdd w f u (.give (c.reg rs % 1024) (bits (c.reg rs) 15 10)) s

def execSemaGive (w : WaferId) (f : FieldId) (u : UnitId) (rs : Fin 32) (s : State) : Res := .next (issue w f u (semaGive w f u rs) s)

/-! ## The scrubber -/

/-- SPAD_SCRUB_LINE (R351, R353, R355): lines 0 to 1,535 are the scratchpad's, the 384 after them the instruction store's. -/
def spadScrub (w f u line : Nat) (e : Ecc) (s : State) : State :=
  let c := s.core w f u
  if 1920 ≤ line ∨ !s.coreRuns w f u then s
  else if line < 1536 then
    match e with
    | .good => s
    | .corrected _ => s.bump SPAD_CE_COUNT w f 1
    | .bad i =>
      let k := line * 8 + i % 8
      let s1 := s.modCore w f u fun c => { c with spadPoison := if c.spadPoison.contains k then c.spadPoison else k :: c.spadPoison }
      spadUncorrectable w f u 0 3 line s1
  else
    match e with
    | .good => s
    | .corrected _ => s.bump CORE_ECC_CORR_COUNT w f 1
    | .bad i =>
      let k := (line - 1536) * 8 + i % 8
      let s1 := s.modCore w f u fun c => { c with
        istorePoison := if c.istorePoison.contains k then c.istorePoison else k :: c.istorePoison
        refill := true }
      -- outside a command the store is refilled before the next one, which is counted (R353)
      let s2 := if c.part.isNone then s1.bump SPAD_EVENTS_ISTORE_REFILL w f 1 else s1
      spadUncorrectable w f u 1 3 k s2

def execSpadScrubLine (w : WaferId) (f : FieldId) (u : UnitId) (line : BitVec 11) (ecc : Ecc) (s : State) : Res :=
  .next (spadScrub w f u line.toNat ecc s)

end Sys2Proof.Machine
end

