-- ==== Sys2Proof/Machine/Rack.lean ====
section
/-!
DEFINITION. Rack power and cooling: the shelves and their BBUs (R506-R516), the RMC's power plan (R517-R523), its fallbacks (R524-R532), the coolant units and the
COOLANT limits (R534-R538), the tray interlock (R741), and the takeover of the RMC role (R26, R35). Open points are in log entry 27.
-/
namespace Sys2Proof.Machine

def State.modPlans (s : State) (k : Nat) (g : PlanW → PlanW) : State := s.putPlans k (g (s.getPlans k))
def State.modShelves (s : State) (k : Nat) (g : Shelf → Shelf) : State := s.putShelves k (g (s.getShelves k))

def allShelves : List Nat := List.range 8
def allBbus : List Nat := List.range 4
def sumOf {α : Type} (xs : List α) (f : α → Nat) : Nat := xs.foldl (fun n x => n + f x) 0

/-! ## Shelves and BBUs -/

def State.bbu (s : State) (h b : Nat) : Nat := s.rd BBU_STAT_STATE h b
/-- A BBU that counts toward ride-through (R511). -/
def State.usable (s : State) (h b : Nat) : Bool := decide (2 ≤ s.bbu h b ∧ s.bbu h b ≤ 5)
def State.acOk (s : State) (h : Nat) : Bool := s.rd SHF_AC_AC_OK h 0 == 1
/-- A shelf's rectifier limit in watts (R507): nothing while its AC is lost. -/
def State.rectifier (s : State) (h : Nat) : Nat := if s.acOk h then 18000 * s.rd SHF_STAT_MODULES_OK h 0 else 0
/-- The rectifier limit L_AC (R509). -/
def State.limitAc (s : State) : Nat := min 756000 (sumOf allShelves s.rectifier)
/-- The number of a shelf's BBUs that are usable, and their energy in kilojoules (R510, R511). -/
def State.usableBbus (s : State) (h : Nat) : Nat := (allBbus.filter (s.usable h)).length
def State.usableEnergy (s : State) (h : Nat) : Nat := sumOf (allBbus.filter (s.usable h)) fun b => s.rd BBU_ENERGY_E_KJ h b
/-- The ride-through limit L_RT (R516). -/
def State.limitRt (s : State) : Nat :=
  min (sumOf allShelves fun h => min 108000 (27000 * s.usableBbus h)) (sumOf allShelves s.usableEnergy * 1000 / 30)
/-- The machine limit L (R517). -/
def State.limit (s : State) : Nat := min (min s.limitAc s.limitRt) s.rack.planner.opLimit

/-- The counts that SHF_STAT shows. -/
def shelfSync (h : Nat) (s : State) : State :=
  (s.wr SHF_STAT_BBU_USABLE h 0 (s.usableBbus h)).wr SHF_STAT_MODULES_OK h 0 (if s.rd SHF_STAT_STATE h 0 = 0 then 0 else 6 - popCount 6 (s.getShelves h).badModules)

/-- Change each BBU of a shelf that is in one of some states. -/
def moveBbus (h : Nat) (from_ : List Nat) (dest : Nat) (s : State) : State :=
  forEach (allBbus.filter fun b => from_.contains (s.bbu h b)) s fun b t => t.wr BBU_STAT_STATE h b dest

/-- No BBU of a shelf charges: one in CHARGE holds its charge (R511, R515). -/
def stopCharge (h : Nat) (s : State) : State := (moveBbus h [3] 4 s).wr SHF_CHG_CHG_W h 0 0

/-- A shelf drives the charge-inhibit pair while its AC is lost or the busbar is below 780 V (R515). -/
def State.inhibits (s : State) (h : Nat) : Bool := s.rd SHF_STAT_STATE h 0 != 0 && (!s.acOk h || decide (s.rd SHF_OUT_BUS_V h 0 < 780))

/-- The shared charge-inhibit pair: while any shelf drives it, no shelf charges (R515). -/
def inhibitSync (s : State) : State :=
  let d := allShelves.any s.inhibits
  forEach allShelves s fun h t =>
    let t1 := t.wr SHF_STAT_CHG_INHIBIT h 0 (b2n d)
    if d then stopCharge h t1 else t1

/-- What a shelf shows for its load (R507, R533): its BBUs supplement the rectifiers where the output exceeds their limit. -/
def shelfState (h : Nat) (s : State) : State :=
  let st := s.rd SHF_STAT_STATE h 0
  if st = 0 then s
  else if !s.acOk h then moveBbus h [2, 3, 4] 5 ((s.wr SHF_STAT_STATE h 0 2).wr SHF_CHG_CHG_W h 0 0)
  else if s.rectifier h < s.rd SHF_OUT_OUT_W h 0 then
    moveBbus h [2, 3, 4] 5 ((s.when (st != 3) fun t => t.bump SHF_EVENTS_LIMIT_ENTRIES h 0 1).wr SHF_STAT_STATE h 0 3)
  else moveBbus h [5] 4 (s.wr SHF_STAT_STATE h 0 1)

/-- BBU_PRESENCE_LOSS (R512): charge and discharge stop and the bay is empty; a loss while charging is counted. -/
def bbuLost (h b : Nat) (s : State) : State :=
  let st := s.bbu h b
  if st = 0 then s
  else
    let s1 := s.when (st == 2 || st == 3) fun t => t.bump SHF_EVENTS_PRES_LOSS_CHG h 0 1
    let s2 := ((s1.setReg BBU_STAT h b 0).setReg BBU_ENERGY h b 0).setReg BBU_FLOW h b 0
    shelfSync h (s2.modShelves h fun x => { x with serials := mset 0 x.serials b 0 })

def execBbuPresenceLoss (h : ShelfId) (b : BbuId) (s : State) : Res := .next (bbuLost h b s)

/-- BBU_INSERTION (R512): presence has been steady for 100 ms, and the precheck of 60 s begins. -/
def bbuInserted (h b serial : Nat) (s : State) : State :=
  if s.bbu h b ≠ 0 then s
  else ((s.setReg BBU_STAT h b 0).wr BBU_STAT_STATE h b 1).wr BBU_STAT_PRECHECK_S h b 60 |>.modShelves h fun x => { x with serials := mset 0 x.serials b serial }

def execBbuInsertion (h : ShelfId) (b : BbuId) (serial : Word) (s : State) : Res := .next (bbuInserted h b serial.toNat s)

/-- A BBU's measured energy and capacity (R510). -/
def bbuEnergy (h b energy cap : Nat) (s : State) : State :=
  let s1 := (s.wr BBU_ENERGY_E_KJ h b energy).wr BBU_ENERGY_CAP_KJ h b cap
  (s1.wrSat BBU_STAT_SOC h b (if cap = 0 then 0 else min 100 (energy * 100 / cap))).wr BBU_STAT_REPLACE h b (b2n (decide (cap < 648)))

/-- What a shelf measures of a BBU. -/
def bbuMeasured (h : Nat) (m : BbuMeas) (s : State) : State :=
  let b := m.bbu.val
  if s.bbu h b = 0 then s
  else
    let s1 := (s.wr BBU_FLOW_CURRENT h b m.current.toNat).wr BBU_FLOW_TEMP h b m.temp.toNat
    if s.bbu h b = 1 then s1.wr BBU_STAT_PRECHECK_S h b (min 60 m.left.toNat) else bbuEnergy h b m.energy.toNat m.cap.toNat s1

/-- BBU_PRECHECK_DONE (R514): a BBU whose serial number carries a recorded cell fault fails (R513). -/
def precheckDone (h : Nat) (pass : Bool) (m : BbuMeas) (s : State) : State :=
  let b := m.bbu.val
  let x := s.getShelves h
  if s.bbu h b ≠ 1 then s
  else
    let s1 := s.wr BBU_STAT_PRECHECK_S h b 0
    if pass ∧ ¬ x.faulted.contains (mget 0 x.serials b) then shelfSync h (bbuMeasured h m (s1.wr BBU_STAT_STATE h b 2))
    else (s1.wr BBU_STAT_STATE h b 6).wr BBU_STAT_FAULT_KIND h b 2

def execBbuPrecheckDone (h : ShelfId) (pass : Bool) (m : BbuMeas) (s : State) : Res := .next (precheckDone h pass m s)

/-- CELL_FAULT (R513, R526): the current of a charging or discharging BBU collapses without a command. -/
def cellFault (h b : Nat) (s : State) : State :=
  let st := s.bbu h b
  if st = 2 ∨ st = 3 ∨ st = 5 then
    let s1 := ((s.wr BBU_STAT_STATE h b 6).wr BBU_STAT_FAULT_KIND h b 1).bump SHF_EVENTS_CELL_FAULTS h 0 1
    shelfSync h (s1.modShelves h fun x =>
      let n := mget 0 x.serials b
      { x with faulted := if x.faulted.contains n then x.faulted else x.faulted ++ [n] })
  else s

def execCellFault (h : ShelfId) (b : BbuId) (s : State) : Res := .next (cellFault h b s)

/-- BBU_FULL (R510, R514): at a full charge the capacity is measured, and the BBU is READY. -/
def bbuFull (h b cap : Nat) (s : State) : State :=
  if s.bbu h b = 2 ∨ s.bbu h b = 3 then shelfSync h ((bbuEnergy h b cap cap s).wr BBU_STAT_STATE h b 4) else s

def execBbuFull (h : ShelfId) (b : BbuId) (cap : BitVec 16) (s : State) : Res := .next (bbuFull h b cap.toNat s)

/-- The output limit of a shelf's static fallback (R524). -/
def State.fallbackLimit (s : State) (h : Nat) : Nat :=
  min 108000 (9 * s.rd SHF_ALLOT_ALLOT_W h 0 * s.rack.planner.plannedShelves / (10 * max 1 (allShelves.filter s.acOk).length))

/-- CHARGE_HEADROOM (R515, R524): the headroom is shared equally among the BBUs that charge, each up to its own rate. A READY BBU that is not full charges again. -/
def chargeHeadroom (h load : Nat) (s0 : State) : State :=
  let s := inhibitSync s0
  let static := s.rd SHF_STAT_STATIC h 0 == 1
  let room := if static then s.fallbackLimit h - s.rd SHF_OUT_OUT_W h 0 else s.limitAc - load
  if s.rd SHF_STAT_CHG_INHIBIT h 0 = 1 ∨ room = 0 ∨ !s.acOk h then stopCharge h s
  else
    let s1 := forEach (allBbus.filter fun b => s.bbu h b == 4 && decide (s.rd BBU_ENERGY_E_KJ h b < s.rd BBU_ENERGY_CAP_KJ h b)) s fun b t => t.wr BBU_STAT_STATE h b 3
    let charging := fun (k : Nat) => allBbus.filter fun b => s1.bbu k b == 2 || s1.bbu k b == 3
    let n := if static then (charging h).length else sumOf allShelves fun k => (charging k).length
    s1.wr SHF_CHG_CHG_W h 0 (sumOf (charging h) fun b => min (room / max 1 n) (if s1.bbu h b = 2 then 1000 else 4500))

def execChargeHeadroom (h : ShelfId) (load : BitVec 20) (s : State) : Res := .next (chargeHeadroom h load.toNat s)

/-- CHARGE_INHIBIT (R515): a shelf sees the busbar's voltage, and drives the pair where it must. -/
def chargeInhibit (h busV : Nat) (s : State) : State := inhibitSync (s.wr SHF_OUT_BUS_V h 0 busV)

def execChargeInhibit (h : ShelfId) (busV : BitVec 10) (s : State) : Res := .next (chargeInhibit h busV.toNat s)

/-! ## The power plan -/

/-- A wafer's cap in the plan: rack power's, or the COOLANT limit where that is lower (R519, R536). -/
def PlanW.cap (x : PlanW) : Nat := max 1500 (match x.coolant with | some c => min c x.rack | none => x.rack)

/-- The wafers whose caps the RMC can write: powered, through a TMC that runs (R520). -/
def State.planned (s : State) (w : Nat) : Bool := (s.getWafers w).powered && (s.getTmcs w).running

/-- The planned load in milliwatts (R518), with caps as `cap` gives them. -/
def State.loadWith (s : State) (cap : Nat → Nat) : Nat :=
  sumOf allWafers (fun w => if (s.getWafers w).powered then 1052 * cap w + 300000 else 60000)
    + sumOf (List.range 8) (fun k => if (s.getTmcs (36 + k)).powerOn then 2200000 else 40000)
    + sumOf [0, 1] (fun c => if s.rd CDU_STAT_STATE c 0 = 1 ∨ s.rd CDU_STAT_STATE c 0 = 2 then 2500000 else 0) + 300000

def State.planLoad (s : State) : Nat := s.loadWith fun w => (s.getPlans w).cap

/-- Some shelf has AC. -/
def State.anyAc (s : State) : Bool := allShelves.any s.acOk

/-- The reason that L's caps carry (R517). -/
def State.rackReason (s : State) : Nat :=
  if !s.anyAc ∨ (s.limitRt < s.limitAc ∧ s.limitRt < s.rack.planner.opLimit) then 4 else 0

/-- The reason of a wafer's cap (R517, R536). -/
def State.capReason (s : State) (w : Nat) : Nat :=
  let x := s.getPlans w
  match x.coolant with
  | some c => if c ≤ x.rack then 3 else if x.shed ∨ x.scaled.isSome then s.rackReason else 0
  | none => if x.shed ∨ x.scaled.isSome then s.rackReason else 0

/-- Shed wafer after wafer to its floor until the plan fits (R519, step 1). -/
def shedFloors (ws : List Nat) (s : State) : State :=
  forEach ws s fun w t =>
    let x := t.getPlans w
    if t.planLoad ≤ t.limit * 1000 ∨ x.cap ≤ x.floor ∨ x.shed = true then t else t.modPlans w fun x => { x with shed := true, unshed := x.rack, rack := x.floor }

/-- A cap lowered by k in 2^20 (R519, step 2). -/
def scaleCap (k cap : Nat) : Nat := if cap ≤ 1500 then cap else max 1500 (cap * k / 2 ^ 20)

/-- The largest proportion at which the plan fits, found bit by bit. -/
def bestScale (fits : Nat → Bool) : Nat → Nat → Nat
  | 0, k => k
  | n + 1, k => bestScale fits n (if fits (k + 2 ^ n) then k + 2 ^ n else k)

/-- Lower every cap in the same proportion, down to 1,500 W (R519, step 2). -/
def shedScale (s : State) : State :=
  let k := bestScale (fun k => decide (s.loadWith (fun w => if s.planned w then scaleCap k (s.getPlans w).cap else (s.getPlans w).cap) ≤ s.limit * 1000)) 20 0
  forEach (allWafers.filter s.planned) s fun w t =>
    t.modPlans w fun x => { x with scaled := some (x.scaled.getD x.rack), rack := scaleCap k x.cap }

/-- The shedding order: rank 3 first, ascending slots within a rank (R519). -/
def State.shedOrder (s : State) : List Nat := [3, 2, 1, 0].flatMap fun r => allWafers.filter fun w => s.planned w && (s.getPlans w).rank == r

/-- Shed until the planned load is at most L (R519); a shortfall is a power-plan fault (PLAN_SHORTFALL, R38). -/
def shed (s : State) : State :=
  if s.planLoad ≤ s.limit * 1000 then s
  else
    let s1 := shedFloors s.shedOrder s
    if s1.planLoad ≤ s1.limit * 1000 then s1
    else
      let s2 := shedScale s1
      if s2.planLoad ≤ s2.limit * 1000 then s2 else (s2.modPlanner fun p => { p with planFaults := p.planFaults + 1 }).emit (.event 1 0)

/-- Write a wafer's cap with its reason and the plan's number, through its TMC (R520). -/
def planWrite (w : Nat) (s : State) : State :=
  let c := (s.getPlans w).cap
  let r := s.capReason w
  let s1 := (s.modPlans w fun x => { x with written := c, reason := r, planNo := s.rack.planner.planId }).modTmcs w fun x => { x with absent := false }
  capWrite w 1 (c + r * 2 ^ 16 + s.rack.planner.planId * 2 ^ 20) s1

/-- A new plan (PLAN_WRITE, R520): the given wafers are written, lowerings first, and every shelf's allotment. -/
def newPlan (ws : List Nat) (s : State) : State :=
  let s1 := s.modPlanner fun p => { p with planId := (p.planId + 1) % 4096, plannedShelves := (allShelves.filter s.acOk).length }
  let lower := ws.filter fun w => decide ((s1.getPlans w).cap < (s1.getPlans w).written)
  let rest := ws.filter fun w => !decide ((s1.getPlans w).cap < (s1.getPlans w).written)
  let s2 := forEach rest (forEach lower s1 planWrite) planWrite
  let total := sumOf allShelves s2.rectifier
  let load := s2.planLoad / 1000
  forEach allShelves s2 fun h t =>
    let a := if total = 0 then 0 else load * t.rectifier h / total
    (((t.wrSat SHF_ALLOT_ALLOT_W h 0 a).wr SHF_ALLOT_PLAN_ID h 0 t.rack.planner.planId).wr SHF_STAT_STATIC h 0 0)

/-- The wafers whose cap or reason the plan changes. -/
def State.planChanges (s : State) : List Nat :=
  allWafers.filter fun w => s.planned w && ((s.getPlans w).cap != (s.getPlans w).written || s.capReason w != (s.getPlans w).reason)

def commitPlan (s : State) : State := if s.planChanges.isEmpty then s else newPlan s.planChanges s

/-- The RMC recomputes L and the plan from the latest reports (R517, R519, R522, R523). While AC is lost on every shelf, the plan in force stays until the grace ends. -/
def replan (s : State) : State :=
  if !s.rack.planner.haveActive then s
  else if !s.anyAc then s
  else commitPlan (shed (s.modPlanner fun p => { p with graceOver := false }))

def execShelfReport (_h : ShelfId) (s : State) : Res := .next (replan s)

/-- SHELF_REPORT_PERIODIC (R516, R533): the shelf's measurements, and its two terms to the RMC. -/
def shelfReport (h out busV vll : Nat) (ms : List BbuMeas) (s : State) : State :=
  let s1 := ((s.wr SHF_OUT_OUT_W h 0 out).wr SHF_OUT_BUS_V h 0 busV).wr SHF_AC_V_LL h 0 vll
  replan (inhibitSync (shelfSync h (shelfState h (forEach ms s1 (bbuMeasured h)))))

def execShelfReportPeriodic (h : ShelfId) (out : BitVec 17) (busV vll : BitVec 10) (ms : List BbuMeas) (s : State) : Res :=
  .next (shelfReport h out.toNat busV.toNat vll.toNat ms s)

/-- The load after a change of one wafer's plan. -/
def State.fitsRaise (s : State) : Bool := decide (s.planLoad + 2000000 ≤ s.limit * 1000)

/-- Raise a wafer's COOLANT limit that a better condition has held for 10 s (R536). -/
def raiseCoolant (now : Nat) (x : PlanW) : PlanW :=
  match x.better with
  | some (b, since) => if since + 10000000000 ≤ now then { x with coolant := b, better := none } else x
  | none => x

/-- The next raising step, if any fits (R519, R536): a proportional reduction undone whole, else the wafer shed last, else one COOLANT limit. -/
def raiseStep (s : State) : State :=
  let scaled := allWafers.filter fun w => (s.getPlans w).scaled.isSome
  let s1 :=
    if !scaled.isEmpty then forEach scaled s fun w t => t.modPlans w fun x => { x with rack := x.scaled.getD x.rack, scaled := none }
    else match s.shedOrder.reverse.find? fun w => (s.getPlans w).shed with
      | some w => s.modPlans w fun x => { x with shed := false, rack := x.unshed }
      | none => match allWafers.find? fun w => raiseCoolant s.now (s.getPlans w) != s.getPlans w with
        | some w => s.modPlans w (raiseCoolant s.now)
        | none => s
  if s1.fitsRaise then s1 else s

/-- PLAN_RAISE_CHECK (R519). -/
def planRaise (s : State) : State :=
  if !s.rack.planner.haveActive ∨ !s.anyAc then s else commitPlan (raiseStep s)

def execPlanRaiseCheck (s : State) : Res := .next (planRaise s)

/-! ## Losses of AC -/

/-- AC_LOSS (R507, R515, R522): the shelves' BBUs carry their load, and nothing charges. `vll` is the line voltage that a shelf still sees. -/
def acLoss (xs : List (Nat × Nat)) (s : State) : State :=
  inhibitSync (forEach xs s fun x t =>
    if t.rd SHF_STAT_STATE x.1 0 = 0 ∨ !t.acOk x.1 then t
    else shelfSync x.1 (shelfState x.1 (((t.wr SHF_AC_AC_OK x.1 0 0).wr SHF_AC_V_LL x.1 0 x.2).bump SHF_EVENTS_AC_LOSSES x.1 0 1)))

def execAcLoss (shelves : List (ShelfId × BitVec 10)) (s : State) : Res := .next (acLoss (shelves.map fun x => (x.1.val, x.2.toNat)) s)

/-- RIDE_THROUGH_GRACE (R522, step 2): AC has not returned within the grace, and every cap falls to 1,500 W. -/
def graceEnd (s : State) : State :=
  if !s.rack.planner.haveActive ∨ s.anyAc ∨ s.rack.planner.graceOver then s
  else
    let s1 := forEach (allWafers.filter s.planned) (s.modPlanner fun p => { p with graceOver := true }) fun w t =>
      t.modPlans w fun x => { x with scaled := some (x.scaled.getD x.rack), rack := min x.rack 1500 }
    let s2 := forEach (allWafers.filter s.planned) s1 fun w t => t.modPlans w fun x => { x with coolant := x.coolant.bind fun c => if c ≤ 1500 then some c else none, better := some (x.coolant, t.now) }
    commitPlan s2

def execRideThroughGrace (s : State) : Res := .next (graceEnd s)

/-- A switch tray loses its power: both chips stop (R16, R21). -/
def switchTrayOff (k : Nat) (s : State) : State :=
  (chipReset (2 * k + 1) (chipReset (2 * k) s)).modTmcs (36 + k) fun x => { x with powerOn := false }

/-- A CDU stops. -/
def cduOff (c code : Nat) (s : State) : State := ((s.wr CDU_STAT_STATE c 0 code).wr CDU_STAT_PUMP c 0 0).wr CDU_FLOW_FLOW c 0 0

/-- Planned power-off of every wafer tray, then of every switch tray (R470, R522, R537). -/
def allTraysOff (s : State) : State := forEach (List.range 8) (forEach allWafers s trayPowerOff) switchTrayOff

/-- BBU_RESERVE_LOW (R522, step 3): the usable energy is that of 10 s at the measured load. -/
def reserveLow (load : Nat) (s : State) : State :=
  if !s.rack.planner.haveActive ∨ s.anyAc ∨ 10 * load < sumOf allShelves s.usableEnergy * 1000 then s
  else forEach [0, 1] (allTraysOff s) fun c t => if t.rd CDU_STAT_STATE c 0 = 0 then t else cduOff c 0 t

def execBbuReserveLow (load : BitVec 20) (s : State) : Res := .next (reserveLow load.toNat s)

/-- AC_RETURN (R507, R530): the shelves' AC is within its limits again, or comes for the first time. -/
def acReturn (xs : List (Nat × Nat)) (s : State) : State :=
  inhibitSync (forEach xs s fun x t =>
    if t.acOk x.1 then t
    else
      let t1 := ((t.wr SHF_AC_AC_OK x.1 0 1).wr SHF_AC_V_LL x.1 0 x.2).wr SHF_STAT_STATE x.1 0 1
      shelfState x.1 (shelfSync x.1 t1))

def execAcReturn (shelves : List (ShelfId × BitVec 10)) (s : State) : Res := .next (acReturn (shelves.map fun x => (x.1.val, x.2.toNat)) s)

/-- SHELF_STATIC_FALLBACK (R524): a shelf controller has heard neither RMC for 1.0 s. -/
def execShelfStaticFallback (h : ShelfId) (s : State) : Res :=
  .next (if s.rack.planner.haveActive ∨ s.rd SHF_STAT_STATE h 0 = 0 then s else s.wr SHF_STAT_STATIC h 0 1)

/-- BUSBAR_COLLAPSE (R508, R471, R21): below 700 V for 1 ms, every consumer stops: wafers, switch trays with their TMCs, the CDUs and the management bay. -/
def busCollapse (busV : Nat) (s : State) : State :=
  if 700 ≤ busV then s
  else
    let s1 := forEach allWafers (forEach allShelves s fun h t => t.wr SHF_OUT_BUS_V h 0 busV) fun w t => busUndervolt w false t
    let s2 := forEach [0, 1] (forEach (List.range 8) s1 switchTrayOff) fun c t => cduOff c 0 t
    inhibitSync (forEach (List.range 44) (s2.modPlanner fun p => { p with haveActive := false }) fun t u => u.modTmcs t fun x => { x with running := false, hears0 := false, hears1 := false })

def execBusbarCollapse (busV : BitVec 10) (s : State) : Res := .next (busCollapse busV.toNat s)

/-- RECTIFIER_MODULE_FAULT (R509): the shelf's limit falls, and its BBUs supplement where its output exceeds it. -/
def moduleFault (h m : Nat) (s : State) : State :=
  if s.rd SHF_STAT_STATE h 0 = 0 then s
  else shelfSync h (shelfState h (shelfSync h (s.modShelves h fun x => { x with badModules := x.badModules ||| 2 ^ m })))

def execRectifierModuleFault (h : ShelfId) (m : Fin 6) (s : State) : Res := .next (moduleFault h m s)

/-- An alarm through Redfish. -/
def alarm (code : Nat) (s : State) : State :=
  (s.modPlanner fun p => { p with alarms := if p.alarms.contains code then p.alarms else p.alarms ++ [code] }).emit (.event 2 code)

/-- INSULATION_FAULT (R508): an alarm that switches nothing off. -/
def execInsulationFault (s : State) : Res := .next (alarm 1 s)

/-! ## Cooling -/

/-- CDU_FAILOVER (R534): one CDU is lost, and the other raises its flow. -/
def cduFailover (c : Nat) (s : State) : State :=
  let o := 1 - c
  let s1 := cduOff c 3 s
  if s1.rd CDU_STAT_STATE o 0 = 1 ∨ s1.rd CDU_STAT_STATE o 0 = 2 then s1.wr CDU_FLOW_FLOW o 0 2400 else s1

def execCduFailover (c : CduId) (s : State) : Res := .next (cduFailover c s)

/-- The tank flow F (R536). -/
def State.tankFlow (s : State) : Nat := s.rd CDU_FLOW_FLOW 0 0 + s.rd CDU_FLOW_FLOW 1 0

/-- The COOLANT limit for an inlet in sixteenths of a degree and a tank flow (R536). -/
def coolantLimit (inlet flow : Nat) : Option Nat :=
  let row := if inlet ≤ 720 then 19000 else if inlet ≤ 880 then 19000 - (1500 * (inlet - 720) + 15) / 16 else 1500
  if flow < 2000 then some (max 1500 (min row (19000 * flow / 2000))) else if inlet ≤ 720 then none else some row

/-- One limit is lower than another, where none is the highest. -/
def limitBelow : Option Nat → Option Nat → Bool
  | some a, some b => decide (a < b)
  | some _, none => true
  | none, _ => false

/-- A wafer's COOLANT limit follows its inlet and the flow: down at once, up when a better value has held (R536). -/
def coolantFollow (now flow : Nat) (x : PlanW) : PlanW :=
  let l := coolantLimit x.inlet flow
  if l = x.coolant then { x with better := none }
  else if limitBelow l x.coolant then { x with coolant := l, better := none }
  else
    match x.better with
    | some (b, since) => { x with better := some (l, if limitBelow l b then now else since) }
    | none => { x with better := some (l, now) }

/-- What a CDU controller reports. -/
def cduMeasured (m : CduMeas) (s : State) : State :=
  let c := m.cdu.val
  let s1 := ((s.wr CDU_TEMP_SUPPLY c 0 m.supply.toNat).wr CDU_TEMP_RETURN c 0 m.ret.toNat).wr CDU_FLOW_LEVEL c 0 m.level.toNat
  let s2 := (s1.wr CDU_FAC_FAC_IN c 0 m.facIn.toNat).wr CDU_FAC_FAC_OUT c 0 m.facOut.toNat
  let s3 := (s2.wr CDU_FLOW_FLOW c 0 m.flow.toNat).wr CDU_STAT_PUMP c 0 m.pump.toNat
  let st := if m.flow = 0 then (if s.rd CDU_STAT_STATE c 0 = 3 then 3 else 0) else if m.level.toNat < 95 then 2 else 1
  s3.wr CDU_STAT_STATE c 0 st

/-- COOLANT_REPORT (R534-R536). While both RMCs are absent no limit changes (R538). -/
def coolantReport (ms : List CduMeas) (inlets : List (Nat × Nat)) (s : State) : State :=
  let s1 := forEach ms s cduMeasured
  if !s1.rack.planner.haveActive then s1
  else
    let s2 := forEach inlets s1 fun x t => t.modPlans x.1 fun y => { y with inlet := x.2 }
    commitPlan (forEach allWafers s2 fun w t => t.modPlans w (coolantFollow t.now t.tankFlow))

def execCoolantReport (cdus : List CduMeas) (inlets : List (WaferId × BitVec 12)) (s : State) : Res :=
  .next (coolantReport cdus (inlets.map fun x => (x.1.val, x.2.toNat)) s)

/-- TRAY_INLET_OVERTEMP (R536, R538): an inlet of 60 °C for 10 s powers its tray off, by the RMC or, with both absent, by its TMC. -/
def inletOvertemp (w : Nat) (s : State) : State :=
  if 960 ≤ (s.getPlans w).inlet ∨ 960 ≤ s.rd THM_COOLANT_TRAY_IN w 0 then trayPowerOff w s else s

def execTrayInletOvertemp (w : WaferId) (s : State) : Res := .next (inletOvertemp w s)

/-- FLOW_LOSS (R537): below 200 L/min for 1 s every COOLANT limit is 1,500 W. -/
def flowLoss (s : State) : State :=
  if 200 ≤ s.tankFlow ∨ !s.rack.planner.haveActive then s
  else commitPlan (forEach allWafers s fun w t => t.modPlans w fun x => { x with coolant := some 1500, better := none })

def execFlowLoss (s : State) : Res := .next (flowLoss s)

/-- FLOW_LOSS_POWER_OFF (R537): flow still lost 60 s later, or supply at 60 °C for 10 s. -/
def flowOff (s : State) : State :=
  if !s.rack.planner.haveActive ∨ (200 ≤ s.tankFlow ∧ s.rd CDU_TEMP_SUPPLY 0 0 < 960 ∧ s.rd CDU_TEMP_SUPPLY 1 0 < 960) then s else allTraysOff s

def execFlowLossPowerOff (s : State) : Res := .next (flowOff s)

/-- The tank level, which both CDUs show. -/
def setLevel (level : Nat) (s : State) : State := forEach [0, 1] s fun c t => t.wr CDU_FLOW_LEVEL c 0 level

/-- LEVEL_ALARM (R537): a level below 95 %. -/
def levelAlarm (level : Nat) (s : State) : State :=
  let s1 := setLevel level s
  if 95 ≤ level ∨ !s.rack.planner.haveActive then s1
  else alarm 2 (forEach [0, 1] s1 fun c t => if t.rd CDU_STAT_STATE c 0 = 1 then t.wr CDU_STAT_STATE c 0 2 else t)

def execLevelAlarm (level : BitVec 7) (s : State) : Res := .next (levelAlarm level.toNat s)

/-- LEVEL_LOW_POWER_OFF (R537): a level below 90 %. -/
def levelOff (level : Nat) (s : State) : State :=
  let s1 := setLevel level s
  if 90 ≤ level ∨ !s.rack.planner.haveActive then s1 else allTraysOff s1

def execLevelLowPowerOff (level : BitVec 7) (s : State) : Res := .next (levelOff level.toNat s)

/-! ## The tray interlock and the takeover -/

/-- TRAY_INTERLOCK_OPEN (R737, R741): the IBCs stop and every domain is forced down; its TMC's rail breaks with it, and the tray starts no more until it is seated. -/
def interlockOpen (w : Nat) (s : State) : State :=
  ((busUndervolt w false s).modWafers w fun x => { x with interlockOpen := true }).modTmcs w fun x => { x with running := false, hears0 := false, hears1 := false }

def execTrayInterlockOpen (w : WaferId) (s : State) : Res := .next (interlockOpen w s)

/-- RMC_TAKEOVER (R26, R35, R532): after three missing heartbeats, or a Failover, the standby takes the active role from the mirrored planner state. It rewrites the last
plan under a new number, and then computes afresh. -/
def rmcTakeover (s : State) : State :=
  let p := s.rack.planner
  if p.missed < 3 ∧ p.failover = false then s
  else
    let s1 := s.modPlanner fun q => { q with
      active := 1 - q.active, haveActive := true, missed := 0, failover := false, cueActive := false
      queue := (match q.step, q.change with | .writing, some c => [c] | _, _ => []) ++ q.queue
      change := if q.step = .writing then none else q.change
      step := match q.step with
        | .writing => .none
        | .rehearsing => .built
        | .rehearsed => .built
        | x => x }
    replan (newPlan (allWafers.filter s1.planned) s1)

def execRmcTakeover (s : State) : Res := .next (rmcTakeover s)

end Sys2Proof.Machine
end

