-- ==== Sys2Proof/Machine/Debug.lean ====
section
/-!
DEFINITION. The debug registers (R707-R722): attaching and detaching, halting, resuming and stepping cores, and the access to the registers and memories of cores. Open
points are in log entry 29.
-/
namespace Sys2Proof.Machine

/-! ## Targets -/

/-- The core that DBG_SEL names, by field and unit (R709). -/
def State.dbgCore (s : State) (w : Nat) : Nat × Nat := (s.rd DBG_SEL_FIELD w 0, s.rd DBG_SEL_UNIT w 0)
def State.dbgBcast (s : State) (w : Nat) : Bool := s.rd DBG_SEL_BCAST w 0 == 1

/-- A core that a control can reach: not OFF, UNUSED or a hole (R709). -/
def State.dbgReach (s : State) (w f u : Nat) : Bool :=
  decide (f < 72) && decide (u < 600) && s.spineOn w f && (s.core w f u).st != .off && (s.core w f u).st != .unused

/-- The targets of a control (R709). -/
def State.dbgTargets (s : State) (w : Nat) : List (Nat × Nat) :=
  if s.dbgBcast w then
    let p := s.rd DBG_SEL_PART w 0
    (s.cmdCores w p).filterMap fun x => if (s.core w x.1 x.2.1).part = some p then some (x.1, x.2.1) else none
  else [s.dbgCore w]

/-- The result of the last access or control at the selected core. -/
def accErr (w code : Nat) (s : State) : State :=
  let c := s.dbgCore w
  s.wr DBG_CORE_STAT_ACC_ERR w (coreIdx c.1 c.2) code

/-! ## Halts -/

/-- HALT reaches a core (R710, R711, R717): an idle core halts at once, a running one at its next instruction boundary. -/
def haltAsk (w f u : Nat) (s : State) : State :=
  let c := s.core w f u
  match c.st with
  | .halt => s
  | .idle => haltCore w f u 1 0 s
  | _ => if c.haltReq.isSome then s else (s.setCore w f u { c with haltReq := some 1 }).wr DBG_CORE_STAT_STATE w (coreIdx f u) 1

/-- A halted core goes on (R711). A core that HALT_ON_FAULT holds first discards its command (R716). -/
def resumeCore (w f u : Nat) (stepping : Bool) (s : State) : State :=
  let c0 := s.core w f u
  if c0.st ≠ .halt ∨ c0.reason = 0 then s
  else
    let s0 := match c0.faultHeld, c0.part with
      | true, some p => failCmd w p 3 s
      | _, _ => s
    let c := s0.core w f u
    if c.st ≠ .halt then s0
    else
      let s1 := s0.setCore w f u { c with st := c.before, reason := 0, stepping := stepping, skipBreak := c.reason == 3, beforeTake := false, faultHeld := false }
      let i := coreIdx f u
      ((s1.wr DBG_CORE_STAT_STATE w i (if stepping then 3 else 0)).wr DBG_CORE_STAT_REASON w i 0).haltSync w f c.part

/-- A control of the targets; a single target that no control can reach refuses it (R709). -/
def dbgControl (w : Nat) (act : Nat → Nat → State → State) (s : State) : State :=
  let c := s.dbgCore w
  if s.dbgBcast w then forEach (s.dbgTargets w) s fun x t => act x.1 x.2 t
  else if s.dbgReach w c.1 c.2 then act c.1 c.2 (accErr w 0 s)
  else accErr w 3 s

/-- DBG_HALT, DBG_RESUME and DBG_STEP (R710, R711). -/
def execDbgHalt (w : WaferId) (s : State) : Res := .next (dbgControl w (haltAsk w) s)
def execDbgResume (w : WaferId) (s : State) : Res := .next (dbgControl w (fun f u => resumeCore w f u false) s)
def execDbgStep (w : WaferId) (s : State) : Res := .next (dbgControl w (fun f u => resumeCore w f u true) s)

/-- CORE_HALTED (R710, R714, R717): a core that was asked to halt is at its instruction boundary; a breakpoint there is the reason recorded. -/
def coreHalted (w f u : Nat) (s : State) : State :=
  let c := s.core w f u
  match c.haltReq with
  | none => s
  | some r =>
    match if c.st = .run ∧ c.wait = .none ∧ !c.skipBreak then s.breakAt w f u c.pc else none with
    | some n => haltCore w f u 3 n s
    | none => haltCore w f u r 0 s

def execCoreHalted (w : WaferId) (f : FieldId) (u : UnitId) (s : State) : Res := .next (coreHalted w f u s)

/-! ## Attaching and detaching -/

/-- Disable every comparator of a register (R708). -/
def disarmAll (w : Nat) (r : Reg) (s : State) : State :=
  forEach (s.regs.filter fun x => (Nat.unpair x.1).1 == r.id && (Nat.unpair (Nat.unpair x.1).2).1 == w) s fun x t =>
    let i := (Nat.unpair (Nat.unpair x.1).2).2
    t.setReg r w i (t.reg r w i &&& notBits 32 0x80000000)

/-- A debugger detaches (R707, R708). -/
def dbgDetach (w : Nat) (s : State) : State :=
  if s.rd DBG_STAT_ATTACHED w 0 = 0 then s
  else
    let s1 := (s.wr DBG_CTL_ATTACH w 0 0).wr DBG_STAT_ATTACHED w 0 0
    let s2 := if s.rd DBG_CTL_KEEP w 0 = 1 then s1
      else forEach (s1.haltedCores w) (disarmAll w DBG_WP_CFG (disarmAll w DBG_BP s1)) fun x t => resumeCore w (x.1 / 600 % 72) (x.1 % 600) false t
    s2.raise w Leaf.attach

/-- A write of DBG_CTL (R707). -/
def dbgCtl (w path v : Nat) (s : State) : State :=
  let s1 := s.wr DBG_CTL_KEEP w 0 (bits v 1 1)
  if v % 2 = 0 then dbgDetach w s1
  else
    let was := s1.rd DBG_STAT_ATTACHED w 0
    let s2 := ((s1.wr DBG_CTL_ATTACH w 0 1).wr DBG_STAT_ATTACHED w 0 1).wr DBG_STAT_PATH w 0 path
    if was = 1 then s2 else s2.raise w Leaf.attach

/-- DEBUG_ATTACH and DEBUG_DETACH: writes of DBG_CTL with ATTACH = 1 and 0. -/
def execDebugAttach (w : WaferId) (path : PathId) (v : Word32) (s : State) : Res := .next (dbgCtl w path (v.toNat ||| 1) s)
def execDebugDetach (w : WaferId) (path : PathId) (v : Word32) (s : State) : Res := .next (dbgCtl w path (v.toNat &&& notBits 32 1) s)

/-- The prompter port's debugger is gone (R707). -/
def portDetach (w : Nat) (s : State) : State := if s.rd DBG_STAT_PATH w 0 = 2 then dbgDetach w s else s

/-- DEBUG_PRESENCE_LOST (R707): the connector's presence pin has been open for 10 ms. -/
def execDebugPresenceLost (w : WaferId) (s : State) : Res := .next (portDetach w (s.wr DBG_STAT_PRESENT w 0 0))

/-! ## Comparators -/

/-- A write of a comparator register of a broadcast target: of every core of the partition's quadrants on this wafer (R713). -/
def comparatorWrite (w : Nat) (r : Reg) (n v : Nat) (s : State) : State :=
  let k := match r.dims with | [(_, c)] => c | _ => 1
  let put := fun (f u : Nat) (t : State) => t.setReg r w (coreIdx f u * k + n) (v &&& r.rw)
  if s.dbgBcast w then
    forEach (s.quads w (s.rd DBG_SEL_PART w 0)) s fun q t => forEach (t.quadUnits w q) t fun u => put (q / 4) u
  else
    let c := s.dbgCore w
    if c.1 < 72 ∧ c.2 < 600 then put c.1 c.2 s else s

/-! ## Registers and memories of a core (R715) -/

/-- The selected core's register that DBG_REG_SEL names. -/
def Core.dbgReg (c : Core) (n : Nat) : Nat :=
  if n < 32 then c.reg n else if n = 32 then c.pc else if n = 33 then c.flags else if n < 50 then c.signal (n - 34) else 0

def Core.setDbgReg (c : Core) (n v : Nat) : Core :=
  if n < 32 then c.setReg n v
  else if n = 32 then { c with pc := v % 4096 }
  else if n = 33 then c.setFlags v
  else if n < 50 then { c with signals := mset 0 c.signals (n - 34) (v % 2 ^ 32) }
  else c

/-- A read of DBG_REG_DATA. -/
def dbgRegRead (w : Nat) (s : State) : Nat × State :=
  let x := s.dbgCore w
  let c := s.core w x.1 x.2
  if !s.dbgReach w x.1 x.2 then (0, accErr w 3 s)
  else if c.st ≠ .halt then (0, accErr w 1 s)
  else (c.dbgReg (s.rd DBG_REG_SEL_INDEX w (coreIdx x.1 x.2)), accErr w 0 s)

/-- DBG_REG_WRITE: a write of DBG_REG_DATA. -/
def dbgRegWrite (w v : Nat) (s : State) : State :=
  let x := s.dbgCore w
  let c := s.core w x.1 x.2
  if !s.dbgReach w x.1 x.2 then accErr w 3 s
  else if c.st ≠ .halt then accErr w 1 s
  else (accErr w 0 s).setCore w x.1 x.2 (c.setDbgReg (s.rd DBG_REG_SEL_INDEX w (coreIdx x.1 x.2)) v)

def execDbgRegWrite (w : WaferId) (v : Word32) (s : State) : Res := .next (dbgRegWrite w v.toNat s)

/-- ADDR goes on by 8 under AUTOINC (R725). -/
def autoInc (w : Nat) (s : State) : State :=
  let x := s.dbgCore w
  let i := coreIdx x.1 x.2
  if s.rd DBG_MEM_ADDR_AUTOINC w i = 1 then s.wr DBG_MEM_ADDR_ADDR w i (s.rd DBG_MEM_ADDR_ADDR w i + 8) else s

/-- The address lies in the memory that DBG_MEM_ADDR names. -/
def memInRange (space a : Nat) : Bool := if space = 0 then decide (a + 8 ≤ 0x18000) else decide (a / 8 < 3072)

/-- The value of DBG_MEM_DATA, without advancing the address. -/
def dbgMemPeek (w : Nat) (s : State) : Nat × State :=
  let x := s.dbgCore w
  let c := s.core w x.1 x.2
  let a := s.rd DBG_MEM_ADDR_ADDR w (coreIdx x.1 x.2) / 8 * 8
  let space := s.rd DBG_MEM_ADDR_SPACE w (coreIdx x.1 x.2)
  if !s.dbgReach w x.1 x.2 then (0, accErr w 3 s)
  else if !memInRange space a then (0, accErr w 2 s)
  else (if space = 0 then ofLeBytes (c.bytes a 8) else c.instr (a / 8), accErr w 0 s)

/-- DBG_MEM_READ: a read of DBG_MEM_DATA with its high word. -/
def dbgMemRead (w : Nat) (s : State) : Nat × State :=
  let r := dbgMemPeek w s
  (r.1, autoInc w r.2)

def execDbgMemRead (w : WaferId) (s : State) : Res :=
  let r := dbgMemRead w s
  .next (r.2.emit (.reply 3 w [r.1]))

/-- DBG_MEM_WRITE: DBG_MEM_DATA is committed. -/
def dbgMemWrite (w v : Nat) (s : State) : State :=
  let x := s.dbgCore w
  let c := s.core w x.1 x.2
  let a := s.rd DBG_MEM_ADDR_ADDR w (coreIdx x.1 x.2) / 8 * 8
  let space := s.rd DBG_MEM_ADDR_SPACE w (coreIdx x.1 x.2)
  let s1 :=
    if !s.dbgReach w x.1 x.2 then accErr w 3 s
    else if !memInRange space a then accErr w 2 s
    else if space = 0 then (accErr w 0 s).setCore w x.1 x.2 (c.deliver a (leBytes 8 v))
    else if c.st ≠ .halt then accErr w 1 s
    else (accErr w 0 s).setCore w x.1 x.2 (c.setInstr (a / 8) v)
  autoInc w s1

def execDbgMemWrite (w : WaferId) (v : Word) (s : State) : Res := .next (dbgMemWrite w v.toNat s)

end Sys2Proof.Machine
end

