-- ==== Sys2Proof/Machine/Semas.lean ====
section
/-!
DEFINITION. Semaphores and their arbiter (R391-R394, R433).
-/
namespace Sys2Proof.Machine

/-- A message of a wafer's window arbiter, unit 1 of its active host field (R17, R211, R391). -/
def sendArbiter (w dest kind val addr : Nat) (bs : List Nat) (s : State) : State :=
  enqueue w (82 + s.rd NET_SELF_HOST_FIELD w 0) { typ := 13, cls := 3, dest := dest, src := s.arbiter w, spart := noPart, addr := addr, aux := kind + val * 256, payload := bs } s

def semaKey (w n : Nat) : Nat := w * 1024 + n

/-- The number of a partition in the machine's semaphores: source slot times 288 plus its number. -/
def semaPart (slot p : Nat) : Nat := slot * 288 + p

/-- COUNT regains units (R391); what it holds beyond 65,535 is open (log entry 3). -/
def semaAdd (w n : Nat) (s : State) : State :=
  let v := s.rd SEM_VAL_COUNT w n + 1
  if v < 65536 then s.wr SEM_VAL_COUNT w n v else (s.fresh.2).wr SEM_VAL_COUNT w n s.fresh.1

/-- Show waiting TAKEs and leases (SEM_STAT, SEM_TABLE). -/
def semaSync (w n : Nat) (s : State) : State :=
  let m := s.getSemas (semaKey w n)
  (s.wrSat SEM_STAT_WAITING w n m.waiters.length).wrSat SEM_STAT_LEASED w n m.leases.length

/-- MGMT_TAKE (R391, R393). -/
def mgmtTake (w n src spart : Nat) (s : State) : State :=
  let m := s.getSemas (semaKey w n)
  let s1 := if 4096 ≤ s.rd SEM_TABLE_LEASES w 0 then s.bump SEM_TABLE_FULL_EVENTS w 0 1 else s
  semaSync w n (s1.putSemas (semaKey w n) { m with waiters := m.waiters ++ [⟨semaPart (addrSlot src) spart, src, s.now⟩] })

def execMgmtTake (w : WaferId) (sem : SemId) (src : BitVec 23) (spart : BitVec 9) (s : State) : Res :=
  .next (mgmtTake w sem src.toNat spart.toNat s)

/-- The live priority of a waiter's partition. -/
def State.waiterPrio (s : State) (x : Waiter) : Nat := s.rd PRT_PRIO_PRIO (x.part / 288) (x.part % 288)

/-- The winner among waiters (R392): the oldest that has waited 1 ms, else the oldest of the highest priority. Waiters stand in arrival order. -/
def State.semaWinner (s : State) (ws : List Waiter) : Option Waiter :=
  match ws.find? fun x => decide (x.since + 1000000 ≤ s.now) with
  | some x => some x
  | none =>
    let top := ws.foldl (fun n x => max n (s.waiterPrio x)) 0
    ws.find? fun x => s.waiterPrio x == top

/-- Grant one TAKE (R391): a unit leaves COUNT and a lease is recorded. -/
def semaGrant (w n : Nat) (x : Waiter) (s : State) : State :=
  let m := s.getSemas (semaKey w n)
  let ws := m.waiters.erase x
  let count := s.rd SEM_VAL_COUNT w n - 1
  let more := ws.any fun y => y.part = x.part
  let s1 := (s.wr SEM_VAL_COUNT w n count).putSemas (semaKey w n) { m with
    waiters := ws, leases := m.leases ++ [x.part], tenure := if more ∧ count ≠ 0 then some x.part else none }
  let s2 := semaSync w n (s1.wr SEM_TABLE_LEASES w 0 (s1.rd SEM_TABLE_LEASES w 0 + 1))
  sendArbiter w x.core 0x11 0 (semOffset n) [] s2

/-- The held partitions to which a decision on an empty semaphore starts donation (R433). -/
def State.donees (s : State) (w n : Nat) : List Nat :=
  let m := s.getSemas (semaKey w n)
  let top := m.waiters.foldl (fun k x => max k (s.waiterPrio x)) 0
  m.leases.eraseDups.filter fun h => decide (s.rd PRT_PRIO_PRIO (h / 288) (h % 288) < top) && s.pmt (h / 288) (h % 288) == 5
    && s.rd PMT_STAT_CMD_SAVED (h / 288) (h % 288) == 1

/-- SEMA_DECISION (R392, R393, R433): during a tenure the tenured partition's next TAKE is granted; otherwise the winner's partition begins one. With COUNT 0
nothing is granted, and donation may start. -/
def semaDecision (w n : Nat) (s : State) : State :=
  let m := s.getSemas (semaKey w n)
  if m.waiters.isEmpty then s
  else if s.rd SEM_VAL_COUNT w n = 0 then forEach (s.donees w n) s fun h t => donate (h / 288) (h % 288) n w t
  else if 4096 ≤ s.rd SEM_TABLE_LEASES w 0 then s
  else
    let next := match m.tenure with
      | some p => m.waiters.find? fun x => x.part == p
      | none => s.semaWinner m.waiters
    match next with
    | some x => semaGrant w n x s
    | none => s.putSemas (semaKey w n) { m with tenure := none }

def execSemaDecision (w : WaferId) (sem : SemId) (s : State) : Res := .next (semaDecision w sem s)

/-- SEMA_TENURE_END (R392). -/
def execSemaTenureEnd (w : WaferId) (sem : SemId) (s : State) : Res :=
  .next (s.putSemas (semaKey w sem) { s.getSemas (semaKey w sem) with tenure := none })

/-- MGMT_GRANT (R391): the waiting TAKE completes with a lease of the command; a core that no longer waits for it returns the lease. -/
def mgmtGrant (w f u sem slot : Nat) (s : State) : State :=
  let c := s.core w f u
  match (match c.part with | some p => some p | none => s.partOfCore w f u) with
  | some p =>
    if c.part.isSome ∧ c.wait = .sema sem slot then
      let s1 := endWait w f u s
      let s2 := s1.modPart w p fun x => { x with leases := x.leases ++ [slot * 1024 + sem] }
      let s3 := (s2.fresh.2).addTokens w f u s2.fresh.1
      let s4 := s3.modCore w f u fun c => { c with pc := c.pc + 1 }
      -- a stepped TAKE halts the core again once it completes (R711)
      if c.stepping then haltCore w f u 2 0 s4 else s4
    else sendMgmt w f u (s.arbiter slot) p 0x14 0 (semOffset sem) [] s
  | none => sendMgmt w f u (s.arbiter slot) noPart 0x14 0 (semOffset sem) [] s

def execMgmtGrant (w : WaferId) (f : FieldId) (u : UnitId) (sem : SemId) (slot : WaferId) (s : State) : Res := .next (mgmtGrant w f u sem slot s)

/-- MGMT_GIVE (R391). -/
def execMgmtGive (w : WaferId) (sem : SemId) (s : State) : Res := .next (semaAdd w sem s)

/-- One lease of a partition ends (R391). -/
def leaseEnd (w n part : Nat) (back : Bool) (s : State) : State :=
  let m := s.getSemas (semaKey w n)
  if m.leases.contains part then
    let s1 := semaSync w n (s.putSemas (semaKey w n) { m with leases := m.leases.erase part })
    let s2 := s1.wr SEM_TABLE_LEASES w 0 (s1.rd SEM_TABLE_LEASES w 0 - 1)
    if back then semaAdd w n s2 else s2
  else s

/-- MGMT_CONSUME and MGMT_RETURN (R391): a lease of partition `spart` of the sender's wafer ends. -/
def execMgmtConsume (w : WaferId) (sem : SemId) (src : BitVec 23) (spart : BitVec 9) (s : State) : Res :=
  .next (leaseEnd w sem (semaPart (addrSlot src.toNat) spart.toNat) false s)
def execMgmtReturn (w : WaferId) (sem : SemId) (src : BitVec 23) (spart : BitVec 9) (s : State) : Res :=
  .next (leaseEnd w sem (semaPart (addrSlot src.toNat) spart.toNat) true s)

end Sys2Proof.Machine
end

