-- ==== Sys2Proof/Machine/Transport.lean ====
section
/-!
DEFINITION. The transport between NIs (R191-R198) and what a delivered packet does at a core or a loft (R96, R116-R118, R146, R341-R350, R429). What a
management packet does is in Machine/Deliver.lean. Which local partition a packet's SPART stands for is log entry 15.
-/
namespace Sys2Proof.Machine

/-! ## Sending half -/

/-- A stream has ended (R195, R196): the first one is captured and raises STREAM_FAIL. -/
def captureStream (w destNi cls reason : Nat) (s : State) : State :=
  if s.rd TRN_FAIL_VALID w 0 = 1 then s
  else (((s.wr TRN_FAIL_DEST_NI w 0 destNi).wr TRN_FAIL_CLASS w 0 cls).wr TRN_FAIL_REASON w 0 reason).wr TRN_FAIL_VALID w 0 1 |>.raise w Leaf.streamFail

/-- A push's stream to a destination has ended: the destination is marked failed and nothing more is sent to it (R258). -/
def pushStreamEnds (w f destNi cls spart : Nat) (s : State) : State :=
  let ps := s.getPushes w
  let slot := addrSlot destNi
  if s.rd IMG_PUSH_STAT_STATE w 0 = 1 ∧ 72 ≤ f ∧ cls = 2 ∧ spart = noPart ∧ addrField destNi = ps.dstField ∧ bitAt ps.left slot then
    let k := niKey w f
    let inj := s.getInjects k
    let rest := (mget [] inj.queues noPart).filter fun p => p.typ ≠ 6 || addrSlot p.dest != slot
    (s.putInjects k { inj with queues := mset [] inj.queues noPart rest }).setReg IMG_PUSH_FAILED w 0 (s.reg IMG_PUSH_FAILED w 0 ||| 2 ^ slot)
  else s

/-- A pre-emption may go on once a stream holds fewer packets. -/
def afterAck (w spart : Nat) (s : State) : State := if spart < 288 then surrenderCheck w spart s else s

/-- RETRANSMIT_TIMEOUT (R196, R219): the packet with this count goes out again on the next port, stamped anew; after the last wait its stream fails. -/
def retransmit (w f destNi cls spart count : Nat) (s : State) : State :=
  let k := sendKey w f destNi cls spart
  let st := s.getSends k
  let maxTries := if s.rd TRN_CFG_RETRY_MAX w 0 = 0 then 8 else s.rd TRN_CFG_RETRY_MAX w 0
  match st.unacked.find? fun u => u.pkt.tseq % 2 ^ 30 == count with
  | none => s
  | some u =>
    if maxTries ≤ u.tries then
      let s1 := pushStreamEnds w f destNi cls spart (resetStream w (w + f * 64) destNi cls spart (captureStream w destNi cls 0 s))
      afterAck w spart (if spart < 288 then partFault w spart 2 s1 else s1)
    else if !s.mayInject w u.pkt then s
    else
      let q := Packet.sealed { u.pkt with act := s.stamp w, level := 0, dline := 0 }
      let port := if addrSlot q.dest = w then 31 else (nextPort (s.freePorts w f q) u.port).getD 30
      let s1 := s.putSends k { st with unacked := st.unacked.map fun x => if x.pkt.tseq = u.pkt.tseq then ⟨q, port, u.tries + 1⟩ else x }
      emitOn w f port q (s1.bump TRN_RETX_COUNT w 0 1)

def execRetransmitTimeout (w : WaferId) (f : Fin 84) (dest : BitVec 23) (cls : Fin 4) (spart : BitVec 9) (count : BitVec 30) (s : State) : Res :=
  .next (retransmit w f (niOf dest.toNat) cls spart.toNat count.toNat s)

/-- Packets that waited for the window go out as far as it allows. -/
def releaseWaiting (w f k : Nat) (s : State) : State :=
  let st := s.getSends k
  forEach st.waiting (s.putSends k { st with waiting := [] }) (streamSend w f)

/-- TACK (R194): every packet of the stream up to its count is acknowledged. -/
def tackArrives (w f : Nat) (p : Packet) (s : State) : State :=
  let k := sendKey w f (niOf p.src) (p.tseq / 2 ^ 30) p.spart
  let st := s.getSends k
  let ack := p.tseq % 2 ^ 30
  let rest := st.unacked.filter fun u => decide (2 ^ 29 ≤ (ack + 2 ^ 30 - u.pkt.tseq % 2 ^ 30) % 2 ^ 30)
  afterAck w p.spart (releaseWaiting w f k (s.putSends k { st with unacked := rest }))

/-- NACK (R195, R385, R403): the stream ends; before its commit instant the partition's command is discarded with the reason, after it the completion
record shows PEER_LOST. -/
def nackArrives (w f : Nat) (p : Packet) (s : State) : State :=
  let cls := p.tseq / 2 ^ 30
  let k := sendKey w f (niOf p.src) cls p.spart
  if !(s.getSends k).unacked.any fun u => u.pkt.tseq == p.tseq then s
  else
    let s1 := pushStreamEnds w f (niOf p.src) cls p.spart
      (resetStream w (w + f * 64) (niOf p.src) cls p.spart (captureStream w (niOf p.src) cls p.aux s))
    let s2 := if p.spart < 288 then
        match (s1.part w p.spart).cmd with
        | some c =>
          if c.committed then s1.modPart w p.spart fun x => { x with cmd := some { c with peerLost := true } }
          else failCmd w p.spart (6 + p.aux) s1
        | none => s1
      else s1
    afterAck w p.spart s2

/-! ## Receiving half -/

/-- The address of the NI that a stream comes from. -/
def niAddr (ni : Nat) : Nat := if addrSlot ni < 36 then ni + 600 * 8192 else ni

/-- Send a TACK for everything delivered so far in a stream (R194). -/
def sendTackFor (w f srcNi cls spart : Nat) (s : State) : State :=
  let k := recvKey w f srcNi cls spart
  let st := s.getRecvs k
  sendLoose w f { typ := 11, cls := 1, dest := niAddr srcNi, src := physAddr w f 600, spart := spart, tseq := cls * 2 ^ 30 + (st.expect + 2 ^ 30 - 1) % 2 ^ 30 }
    (s.putRecvs k { st with unacked := 0 })

/-- TACK_TIMER (R194): 200 ns after the first unacknowledged delivery. -/
def tackTimer (w f srcNi cls spart : Nat) (s : State) : State :=
  if (s.getRecvs (recvKey w f srcNi cls spart)).unacked = 0 then s else sendTackFor w f srcNi cls spart s

def execTackTimer (w : WaferId) (f : Fin 84) (src : BitVec 23) (cls : Fin 4) (spart : BitVec 9) (s : State) : Res :=
  .next (tackTimer w f (niOf src.toNat) cls spart.toNat s)

/-- Answer a packet with a NACK (R195). -/
def sendNack (w f reason : Nat) (p : Packet) (s : State) : State :=
  sendLoose w f { typ := 12, cls := 1, dest := niAddr (niOf p.src), src := physAddr w f 600, spart := p.spart, tseq := p.tseq, aux := reason } s

/-- The partition of this wafer that a packet's SPART stands for (R343, R191): the sender's own number on its own wafer, else the partition of the
same job here. -/
def State.localPart (s : State) (w : Nat) (p : Packet) : Option Nat :=
  if 288 ≤ p.spart then none
  else if addrSlot p.src = w ∨ 36 ≤ addrSlot p.src then some p.spart
  else allParts.find? fun q => s.defined w q && s.rd PRT_DEF_JOB_ID w q == s.rd PRT_DEF_JOB_ID (addrSlot p.src) p.spart
    && s.rd PRT_DEF_LEAD_SLOT w q == s.rd PRT_DEF_LEAD_SLOT (addrSlot p.src) p.spart

/-- A packet is for a partition whose NIs refuse it (R195): the reason. -/
def State.nackReason (s : State) (w f : Nat) (p : Packet) : Option Nat :=
  if 36 ≤ addrSlot p.src ∧ p.typ ≠ 6 ∧ p.typ ≠ 8 then some 3
  else if 72 ≤ f then none
  else
    let u := addrUnit p.dest
    if u < 600 then
      match s.logicalRow w f u, s.partOfCore w f u with
      | some r, some q => if s.isHole w f r (u % 24) then some 2 else if s.partState w q = 4 then some 1 else none
      | _, _ => some 2
    else match s.localPart w p with
      | some q => if s.defined w q && s.partState w q == 4 then some 1 else none
      | none => none

/-- Bytes that an NI's reorder buffer holds (R193). -/
def State.reorderBytes (s : State) (w f : Nat) : Nat :=
  s.net.recvs.foldl (fun n x => if streamNi x.1 = niKey w f then x.2.early.foldl (fun m p => m + 32 * flitsOf p) n else n) 0

/-- A MGMT kind that R147 lists. -/
def mgmtKindKnown (k : Nat) : Bool := (decide (1 ≤ k) && decide (k ≤ 5)) || (decide (0x10 ≤ k) && decide (k ≤ 0x14)) || (decide (0x20 ≤ k) && decide (k ≤ 0x26))

/-- Deliver the early packets that have become next in order (R193). -/
def deliverEarly (w f k : Nat) (deliver : Packet → State → State) : Nat → State → State
  | 0, s => s
  | n + 1, s =>
    let st := s.getRecvs k
    match st.early.find? fun x => x.tseq % 2 ^ 30 == st.expect with
    | none => s
    | some x =>
      let s1 := s.putRecvs k { st with expect := (st.expect + 1) % 2 ^ 30, early := st.early.erase x, unacked := st.unacked + 1 }
      deliverEarly w f k deliver n (deliver x s1)

/-- A packet reaches its destination NI (R148, R166, R193, R194): a bad one is discarded, a refused one answered with a NACK, a duplicate
acknowledged again; the packet in order is delivered, and those behind it that wait. -/
def arrive (w f : Nat) (deliver : Packet → State → State) (p : Packet) (s : State) : State :=
  if !p.hcrcOk || !p.pcrcOk || decide (14 ≤ p.typ) || (p.typ == 13 && !mgmtKindKnown (p.aux % 256)) then dropPacket w (spineOf f) 0 p s
  else match s.nackReason w f p with
  | some r => sendNack w f r p s
  | none =>
    if niOf p.src = w + f * 64 then deliver p s
    else
      let cls := p.tseq / 2 ^ 30
      let k := recvKey w f (niOf p.src) cls p.spart
      let st := s.getRecvs k
      let ahead := (p.tseq % 2 ^ 30 + 2 ^ 30 - st.expect) % 2 ^ 30
      let window := max 1 (s.rd TRN_CFG_WINDOW w 0)
      if ahead = 0 then
        let s1 := s.putRecvs k { st with expect := (st.expect + 1) % 2 ^ 30, unacked := st.unacked + 1 }
        let s2 := deliverEarly w f k deliver st.early.length (deliver p s1)
        if 8 ≤ (s2.getRecvs k).unacked then sendTackFor w f (niOf p.src) cls p.spart s2 else s2
      else if ahead < window ∧ !st.early.any fun x => x.tseq == p.tseq then
        if s.reorderBytes w f + 32 * flitsOf p ≤ 262144 then s.putRecvs k { st with early := st.early ++ [p] }
        else s.bump TRN_REORDER_COUNT w 0 1
      else sendTackFor w f (niOf p.src) cls p.spart (s.bump TRN_DUP_COUNT w 0 1)

/-! ## Deliveries at a core -/

/-- How a core's packets are served (R420, R429): as usual, from its save slot, or accepted and discarded. -/
inductive Serve where
  | live | slot | discard
deriving DecidableEq, Repr

def State.serve (s : State) (w f u : Nat) : Serve :=
  match (if u < 600 then s.partOfCore w f u else none) with
  | none => .discard
  | some p =>
    let pt := s.part w p
    if pt.held then .slot
    else if pt.discardAccept then .discard
    else if (s.core w f u).st = .off ∨ (s.core w f u).st = .unused then .discard else .live

/-- Scratchpad bytes arrive for a core. What lies outside the accessible scratchpad is not written. -/
def toScratch (w f u a : Nat) (bs : List Nat) (s : State) : State :=
  if !accessible a bs.length then s
  else match s.serve w f u with
    | .live => s.modCore w f u fun c => c.deliver a bs
    | .slot => loftWrite w f (s.slotOfUnit w f u + a) bs s
    | .discard => s

/-- A response of a unit of this field to a request (R146, R147). -/
def respond (w f : Nat) (p : Packet) (bs : List Nat) (s : State) : State := forEach (segmentMsg { p with cls := 1 } bs) s (enqueue w f)

/-- The number under which a core's field answers: the partition that holds it. -/
def State.unitPart (s : State) (w f u : Nat) : Nat := (s.partOfCore w f u).getD noPart

/-- FETCH_REQ (R96, R351, R429): the range as it stands; a bad word faults the target core and nothing is sent. -/
def fetchServed (w f : Nat) (p : Packet) (ecc : Ecc) (s : State) : State :=
  let u := addrUnit p.dest
  let len := (p.aux + 1) * 4
  let ret := fieldOf p.payload 0 4
  let reply : Packet := { typ := 2, dest := p.src, src := physAddr w f u, spart := s.unitPart w f u, addr := ret }
  match s.serve w f u with
  | .discard => s
  | .slot => respond w f reply (s.loftBytes w f (s.slotOfUnit w f u + p.addr) len) s
  | .live =>
    let s1 := match ecc with
      | .good => s
      | .corrected _ => s.bump SPAD_CE_COUNT w f 1
      | .bad i => s.modCore w f u fun c => { c with spadPoison := (p.addr / 8 + i) :: c.spadPoison }
    let c := s1.core w f u
    match (wordsOf p.addr len).find? fun k => c.spadPoison.contains k with
    | some k => spadFault w f u 1 k s1
    | none => respond w f reply (c.bytes p.addr len) s1

/-- SIGNAL (R96, R429): adds 1 to a signal word; a core that waits for it goes on once its count is reached. -/
def signalDelivered (w f : Nat) (p : Packet) (s : State) : State :=
  let u := addrUnit p.dest
  let k := p.aux % 16
  match s.serve w f u with
  | .discard => s
  | .slot =>
    let o := s.slotOfUnit w f u + 0x1E488 + 4 * k
    loftWrite w f o (leBytes 4 (ofLeBytes (s.loftBytes w f o 4) + 1)) s
  | .live =>
    let s1 := s.modCore w f u fun c => c.addSignal k
    let c := s1.core w f u
    match c.wait with
    | .signal word count =>
      if word = k ∧ count ≤ c.signal k then
        stepEnd w f u (openTokens w f u (advance w f u (endWait w f u s1)))
      else s1
    | _ => s1

/-- STEAL_REQ (R116, R420, R429, R712): the top entry of the victim's highest-priority non-empty deque; a halted core, and one served otherwise than live, answers
empty. -/
def stealServed (w f : Nat) (p : Packet) (s : State) : State :=
  let u := addrUnit p.dest
  let c := s.core w f u
  let reply : Packet := { typ := 10, cls := 1, dest := p.src, src := physAddr w f u, spart := s.unitPart w f u }
  let give := s.serve w f u = .live ∧ c.st ≠ .halt ∧ c.part.isSome
  match (if give then c.topDeque else none) with
  | none => enqueue w f { reply with aux := 0 } s
  | some d =>
    let q := c.deques.getD d []
    let s1 := s.setCore w f u { c with deques := c.deques.set d (q.drop 1) }
    let s2 := match c.part with
      | some pt => s1.modPart w pt fun x => { x with stealing := x.stealing + 1 }
      | none => s1
    enqueue w f { reply with aux := 1, payload := leBytes 4 (q.headD 0) } s2

/-- STEAL_ANS (R117, R118): an entry starts as a task; an empty answer is a miss, and the round goes on. -/
def stealAnswered (w f : Nat) (p : Packet) (s : State) : State :=
  let u := addrUnit p.dest
  let c := s.core w f u
  let waits := c.st = .steal ∨ (c.st = .halt ∧ c.before = .steal)
  match c.part with
  | none => s
  | some pt =>
    let s0 := if p.aux = 1 then s.bump CORE_STEAL_OK_COUNT w f 1 else s.bump CORE_STEAL_MISS_COUNT w f 1
    let s1 := if p.aux = 1 then s0.modPart w pt fun x => { x with stealing := x.stealing - 1 } else s0
    if s1.serve w f u ≠ .live ∨ !waits then s1
    else if p.aux = 1 then
      let d := c.startTask (fieldOf p.payload 0 4)
      s1.setCore w f u (if c.st = .halt then { d with st := .halt, before := .run, stealAt := 0 } else { d with stealAt := 0 })
    else s1.setCore w f u (if c.st = .halt then { c with before := .idle, stealAt := c.stealAt + 1 } else { c with st := .idle, stealAt := c.stealAt + 1 })

/-! ## Deliveries at a loft -/

/-- ADDR is absolute where SRC names a host field (R343). -/
def absoluteAddr (p : Packet) : Bool := addrField p.src == 82 || addrField p.src == 83

/-- The absolute ranges of a loft access, none where it falls outside the region (R343-R345). -/
def State.loftRanges (s : State) (w f : Nat) (p : Packet) (n : Nat) : Option (List (Nat × Nat)) :=
  if absoluteAddr p then (if p.addr + n ≤ 0x600000000 then some [(p.addr, n)] else none)
  else match s.localPart w p with
    | some q => s.regionMap w f q p.addr n
    | none => none

/-- What the decoder finds in the lines of an access (R349): line `i` of it. -/
def loftEcc (w f source part : Nat) (lines : List Nat) (e : Ecc) (s : State) : State :=
  match e with
  | .good => s
  | .corrected i => match lines[i]? with | some l => loftCorrected w f l s | none => s
  | .bad i => match lines[i]? with | some l => loftUncorrectable w f l source part s | none => s

/-- LGET_REQ (R341, R345, R350, R357). -/
def lgetServed (w f : Nat) (p : Packet) (ecc : Ecc) (s : State) : State :=
  let n := (p.aux + 1) * 4
  let ret := fieldOf p.payload 0 4
  let reply : Packet := { typ := 5, dest := p.src, src := physAddr w f 601, spart := (s.localPart w p).getD noPart, addr := ret }
  let fail := fun (t : State) => if p.spart < 288 ∧ addrSlot p.src < 36 then failCmd (addrSlot p.src) p.spart 4 t else t
  match s.loftRanges w f p n with
  | none => respond w f reply ((List.range (n / 4)).flatMap fun _ => leBytes 4 0xDEAD0BAD) (rangeError w f p.spart p.addr 0 s)
  | some ps =>
    if s.loftDead w f then fail s
    else
      let ls := piecesLines ps
      let s1 := loftEcc w f 0 p.spart ls ecc s
      if ls.any fun l => s1.poisoned w f l then fail s1
      else respond w f reply (s1.readPieces w f ps) (loftCountRead w f n s1)

/-- LPUT (R347, R349): whole lines are written, a partial line is read, checked and modified. -/
def lputServed (w f : Nat) (p : Packet) (ecc : Ecc) (s : State) : State :=
  match s.loftRanges w f p p.payload.length with
  | none => rangeError w f p.spart p.addr 1 s
  | some ps =>
    if s.loftDead w f then s.bump LOFT_EVENTS_POISON_WR w f 1
    else writePieces w f ps p.payload (loftEcc w f 1 p.spart (piecesLines ps) ecc s)

/-- The result of a remote atomic on an unsigned word of `b` bytes (R95). -/
def atomResult (op b old v : Nat) : Nat :=
  match op with
  | 0 => (old + v) % 2 ^ (8 * b)
  | 1 => min old v
  | 2 => max old v
  | 3 => old ||| v
  | _ => v

/-- ATOM (R95, R197, R345, R347, R350): applied once for each pair of source NI and RID. -/
def atomServed (w f : Nat) (p : Packet) (ecc : Ecc) (s : State) : State :=
  let k := niKey w f
  let pair := (niOf p.src, p.rid)
  let tab := s.getReplays k
  let b := if bitAt p.aux 4 then 8 else 4
  if tab.pairs.contains pair then s.bump TRN_ATOM_REPLAY_COUNT w 0 1
  else
    let s1 := s.putReplays k { pairs := (tab.pairs ++ [pair]).drop (tab.pairs.length + 1 - 1024) }
    if p.addr % b ≠ 0 then rangeError w f p.spart p.addr 2 s1
    else match s1.loftRanges w f p b with
      | none => rangeError w f p.spart p.addr 2 s1
      | some ps =>
        if s1.loftDead w f then s1.bump LOFT_EVENTS_POISON_WR w f 1
        else
          let ls := piecesLines ps
          let s2 := loftEcc w f 1 p.spart ls ecc s1
          if ls.any fun l => s2.poisoned w f l then s2.bump LOFT_EVENTS_POISON_WR w f 1
          else
            let old := ofLeBytes (s2.readPieces w f ps)
            writePieces w f ps (leBytes b (atomResult (p.aux % 16) b old (fieldOf p.payload 0 b))) s2

/-- What a delivered packet of TYPE 0 to 10 does (R146). A far-form LPUT or ATOM names the NI's unit code and means the field's loft (R188). A host field has no
core and no loft (R17, R211): there these packets do nothing. -/
def deliverData (w f : Nat) (p : Packet) (ecc : Ecc) (s : State) : State :=
  let u := addrUnit p.dest
  let loft := u = 601 ∨ (u = 600 ∧ 36 ≤ addrSlot p.src)
  if 72 ≤ f then s
  else match p.typ with
  | 0 => toScratch w f u p.addr p.payload s
  | 1 => fetchServed w f p ecc s
  | 2 => toScratch w f u p.addr p.payload s
  | 3 => signalDelivered w f p s
  | 4 => if loft ∧ s.loftOn w f then lgetServed w f p ecc s else s
  | 5 => toScratch w f u p.addr p.payload s
  | 6 => if loft ∧ s.loftOn w f then lputServed w f p ecc s else s
  | 7 => toScratch w f u p.addr p.payload s
  | 8 => if loft ∧ s.loftOn w f then atomServed w f p ecc s else s
  | 9 => stealServed w f p s
  | 10 => stealAnswered w f p s
  | _ => s

end Sys2Proof.Machine
end

