-- ==== Sys2Proof/Machine/Twi.lean ====
section
/-!
DEFINITION. The two-wire bus controller of the wafer (R691-R693), the sleep of the SMC (R687), the reset of the target's front end (R689), and the always-on status
(R687). Open points are in log entry 30.
-/
namespace Sys2Proof.Machine

def State.modTwis (s : State) (k : Nat) (g : Twi → Twi) : State := s.putTwis k (g (s.getTwis k))

/-- A host field runs: from phase 0's ready on, until a start, a change of host field or a power-off (R303, R687). -/
def State.hostRuns (s : State) (w : Nat) : Bool := (s.getWafers w).powered && s.rd BUP_STAT_READY w 0 % 2 == 1

/-! ## The controller -/

/-- A window transaction ends (R693). -/
def ctrlEnd (w result nackAt : Nat) (leaf : Leaf) (s : State) : State :=
  (((s.wr TWI_CTRL_STAT_BUSY w 0 0).wr TWI_CTRL_STAT_RESULT w 0 result).wr TWI_CTRL_STAT_NACK_AT w 0 nackAt).raise w leaf

/-- A write of TWI_CTRL_CMD (R692, R693): GO is discarded while a transaction is queued or in progress, or where SEGMENT names none; a STUCK segment is not used. -/
def twiCmd (w v : Nat) (s : State) : State :=
  let s1 := s.setReg TWI_CTRL_CMD w 0 (v &&& TWI_CTRL_CMD.rw)
  let seg := s1.rd TWI_CTRL_CFG_SEGMENT w 0
  if !bitAt v 31 ∨ s1.rd TWI_CTRL_STAT_BUSY w 0 = 1 ∨ 8 < seg then s1
  else
    let s2 := (((s1.wr TWI_CTRL_STAT_BUSY w 0 1).wr TWI_CTRL_STAT_RESULT w 0 0).wr TWI_CTRL_STAT_NACK_AT w 0 0).wr TWI_CTRL_STAT_RETRIES w 0 0
    if bitAt (s2.rd TWI_CTRL_STAT_STUCK w 0) seg then ctrlEnd w 4 0 Leaf.busStuck s2
    else s2.emit (.twi w (if s2.rd TWI_CTRL_CMD_WLEN w 0 = 0 then [] else
      ((List.range 8).flatMap fun i => leBytes 4 (s2.reg TWI_CTRL_BUF w i)).take (s2.rd TWI_CTRL_CMD_WLEN w 0)))

/-- TWI_GO (R693). -/
def execTwiGo (w : WaferId) (v : Word32) (s : State) : Res := .next (twiCmd w (v.toNat ||| 2 ^ 31) s)

/-- Bytes into TWI_CTRL_BUF, from byte 0. -/
def bufBytes (w : Nat) (bs : List Nat) (s : State) : State :=
  forEach (List.range ((bs.length + 3) / 4)) s fun i t =>
    let old := leBytes 4 (t.reg TWI_CTRL_BUF w i)
    let new := (bs.drop (4 * i)).take 4
    t.setReg TWI_CTRL_BUF w i (ofLeBytes (new ++ old.drop new.length))

/-- TWI_CTRL_DONE (R693): 0 OK, 1 NACK_ADDR, 2 NACK_DATA, 3 ARB_LOST, 4 BUS_STUCK, 5 PEC_BAD. -/
def ctrlDone (w result nackAt : Nat) (data : List Nat) (s : State) : State :=
  if s.rd TWI_CTRL_STAT_BUSY w 0 = 0 then s
  else
    let s1 := if result = 0 then bufBytes w (data.take (min 32 (s.rd TWI_CTRL_CMD_RLEN w 0))) s else s
    ctrlEnd w result (if result = 2 then nackAt else 0)
      (match result with | 1 => Leaf.ctrlNack | 2 => Leaf.ctrlNack | 3 => Leaf.arbLost | 4 => Leaf.busStuck | _ => Leaf.ctrlDone) s1

def execTwiCtrlDone (w : WaferId) (result : Fin 6) (nackAt : BitVec 6) (data : List Byte) (s : State) : Res :=
  .next (ctrlDone w result nackAt.toNat (data.map BitVec.toNat) s)

/-- TWI_ARB_LOST (R691): the loser starts the whole transaction again, at most RETRY times. -/
def arbLost (w : Nat) (s : State) : State :=
  if s.rd TWI_CTRL_STAT_BUSY w 0 = 0 then s
  else if s.rd TWI_CTRL_STAT_RETRIES w 0 < s.rd TWI_CTRL_CFG_RETRY w 0 then
    (s.wr TWI_CTRL_STAT_RETRIES w 0 (s.rd TWI_CTRL_STAT_RETRIES w 0 + 1)).raise w Leaf.arbLost
  else ctrlEnd w 3 0 Leaf.arbLost s

def execTwiArbLost (w : WaferId) (s : State) : Res := .next (arbLost w s)

/-- TWI_BUS_RECOVERY (R692): `ok` where SDA came high. The controller's transaction on the segment ends; a third recovery within 1 s marks the segment STUCK; a recovery that
succeeds on a STUCK segment frees it. -/
def busRecovery (w seg : Nat) (ok : Bool) (s : State) : State :=
  let stuck := s.rd TWI_CTRL_STAT_STUCK w 0
  if bitAt stuck seg then
    if ok then (s.wr TWI_CTRL_STAT_STUCK w 0 (stuck &&& notBits 9 (2 ^ seg))).modTwis w fun x => { x with recoveries := x.recoveries.filter fun y => y.1 ≠ seg } else s
  else
    let xs := (seg, s.now) :: (s.getTwis w).recoveries.filter fun y => decide (s.now < y.2 + 1000000000)
    let s1 := s.modTwis w fun x => { x with recoveries := xs }
    let s2 := if 3 ≤ (xs.filter fun y => y.1 = seg).length then s1.wr TWI_CTRL_STAT_STUCK w 0 (stuck ||| 2 ^ seg) else s1
    if s2.rd TWI_CTRL_STAT_BUSY w 0 = 1 ∧ s2.rd TWI_CTRL_CFG_SEGMENT w 0 = seg then ctrlEnd w 4 0 Leaf.busStuck s2 else s2

def execTwiBusRecovery (w : WaferId) (seg : Fin 9) (ok : Bool) (s : State) : Res := .next (busRecovery w seg ok s)

/-! ## The target's front end -/

/-- TWI_TARGET_BUS_RESET (R689): the front end is idle again; nothing else changes. -/
def execTwiTargetBusReset (w : WaferId) (s : State) : Res := .next (s.wr TWI_TGT_STAT_STATE w 0 0)

/-- SMC_SLEEP (R687, R694): no work for 1 ms. -/
def execSmcSleep (w : WaferId) (s : State) : Res := .next (if s.hostRuns w then s.modTwis w fun x => { x with asleep := true } else s)

/-- TWI_STRETCH_TIMEOUT (R688, R689): a transaction that has waited STRETCH_MS before its hand-off is discarded, and nothing of it has reached the window. -/
def stretchTimeout (w : Nat) (s : State) : State :=
  if !s.hostRuns w then s
  else
    let s1 := (s.bump TWI_TGT_EVENTS_STRETCH_TO w 0 1).modWafers w fun x => { x with stretches := min 0xFFFF (x.stretches + 1) }
    ((s1.wr TWI_TGT_STAT_STATE w 0 0).wr TWI_TGT_STAT_LAST_RESULT w 0 4).raise w Leaf.stretchTimeout

def execTwiStretchTimeout (w : WaferId) (s : State) : Res := .next (stretchTimeout w s)

/-- What the always-on sequencer does (R687). -/
def State.seqState (s : State) (w : Nat) : Nat :=
  if (s.getWafers w).downSeq.isSome then 4
  else if s.hostRuns w then 3
  else if (s.getBups w).starting then 2
  else 0

/-- The always-on status, 8 bytes (R687). -/
def State.aonStatus (s : State) (w : Nat) : List Nat :=
  let b := s.getBups w
  let l := s.getLedgers w
  let stop := s.rd BUP_STAT_STOP w 0
  [b2n (s.hostRuns w) + s.rd BUP_STAT_HOST w 0 * 2 + b2n l.h0Live * 4 + b2n l.h1Live * 8 + b2n b.h0Failed * 16 + b2n b.h1Failed * 32 + s.rd BUP_STAT_START_KIND w 0 % 4 * 64,
    stop % 16 + s.seqState w * 16] ++ leBytes 2 (min 0xFFFF (s.getWafers w).stretches) ++ leBytes 4 (min 0xFFFFFFFF ((s.now - b.startTime) / 1000000))

/-- TWI_AON (R684, R687): the status is served whatever the SMC's state. -/
def execTwiAon (w : WaferId) (s : State) : Res :=
  .next (if (s.getWafers w).powered then s.emit (.twi w (8 :: s.aonStatus w)) else s)

end Sys2Proof.Machine
end

