-- ==== Sys2Proof/Machine/Window.lean ====
section
/-!
DEFINITION. The management window (R40-R65): where an offset leads, what a register reads as, what a write of it does, the pair latch, the access errors, and the reading
of the change journal. Open points are in log entry 30.
-/
namespace Sys2Proof.Machine

/-! ## Places -/

/-- The copy of an array register that lies a distance from its first one, and the bytes left. -/
def dimHit : List (Nat × Nat) → Nat → Nat → Option (Nat × Nat)
  | [], d, i => some (i, d)
  | (st, n) :: r, d, i => if d / st < n then dimHit r (d % st) (i * n + d / st) else none

/-- Whether a register holds the word at an offset: its copy, and whether the word is its high one. -/
def Reg.hit (r : Reg) (off : Nat) : Option (Nat × Bool) :=
  if off < r.off then none
  else match dimHit r.dims (off - r.off) 0 with
    | some (i, 0) => some (i, false)
    | some (i, 4) => if r.wide then some (i, true) else none
    | _ => none

/-- The register of a list at an offset. -/
def regAt (rs : List Reg) (off : Nat) : Option (Reg × Nat × Bool) := rs.findSome? fun r => (r.hit off).map fun x => (r, x.1, x.2)

/-- The number of copies of a register. -/
def Reg.copies (r : Reg) : Nat := r.dims.foldl (fun n d => n * d.2) 1

/-- The copy of a banked register that an access reaches; none where its selection names nothing. -/
def State.bank (s : State) (w path : Nat) (r : Reg) (i : Nat) : Option Nat :=
  match r.sel with
  | .none => some i
  | .path => some path
  | .queue => if s.rd CQ_SEL_PART w 0 < 288 then some (queueIdx (s.rd CQ_SEL_PART w 0) (s.rd CQ_SEL_QUEUE w 0)) else none
  | .sePart => if s.rd SE_SEL_PART w 0 < 288 then some (s.rd SE_SEL_PART w 0 * r.copies + i) else none
  | .tel => some i
  | .core => if (s.dbgCore w).1 < 72 ∧ (s.dbgCore w).2 < 600 then some (coreIdx (s.dbgCore w).1 (s.dbgCore w).2 * r.copies + i) else none
  | .route =>
    let k := s.rd NET_RT_SEL_KIND w 0
    if routeOk k (s.rd NET_RT_SEL_INDEX w 0) then
      some (rtIdx k (s.rd NET_RT_SEL_ACT w 0) (if k = 0 ∨ k = 6 then 0 else s.rd NET_RT_SEL_FIELD w 0) (s.rd NET_RT_SEL_INDEX w 0)) else none
  | .seat =>
    let hdr := s.rd NET_SEAT_SEL_HDR w 0 == 1
    if s.rd NET_SEAT_SEL_PART w 0 < 288 then some (seatIdx (s.rd NET_SEAT_SEL_PART w 0) hdr (if hdr then 0 else s.rd NET_SEAT_SEL_INDEX w 0)) else none

/-- The field whose window holds an offset (R40). -/
def fieldWindow (off : Nat) : Option Nat := if 0x200000 ≤ off ∧ off < 0xB00000 then some ((off - 0x200000) / 0x20000) else none

/-- An offset's server is not there: a field window, or the selected core's debug registers, with the spine not ON (R41, R709). -/
def State.unserved (s : State) (w off : Nat) : Bool :=
  match fieldWindow off with
  | some f => !s.spineOn w f
  | none =>
    match regAt windowRegs off with
    | some (r, _, _) => (r.sel == .core || r.id == DBG_CORE_CTL.id) && !s.dbgBcast w && decide ((s.dbgCore w).1 < 72) && !s.spineOn w (s.dbgCore w).1
    | none => false

/-! ## Errors (R41-R47, R65) -/

/-- An access error: the first one is captured, all are counted, and its leaf is raised. Kinds: 1 UNIMPL, 2 NOT_SERVED, 3 PARTIAL_WRITE, 4 WINGS_LOCKED, 5
RSVD_NONZERO, 6 TOO_LONG. -/
def accessError (w path kind off : Nat) (write : Bool) (s : State) : State :=
  let s1 := if s.rd ID_ERR_STAT_VALID w 0 = 1 then s
    else (s.setReg ID_ERR_STAT w 0 (1 + kind * 16 + path * 256 + b2n write * 2048)).setReg ID_ERR_ADDR w 0 (off % 2 ^ 24)
  (s1.bump ID_ERR_STAT_COUNT w 0 1).raise w ⟨14, kind - 1⟩

/-! ## Locks of the wings (R50, R260) -/

/-- A staged register's copy belongs to a scope: 0 a partition, above it the wafer. -/
def State.inScope (s : State) (w scope p : Nat) (r : Reg) (i : Nat) : Bool :=
  if scope ≠ 0 then true
  else if r.id = NET_SEAT_DATA.id then i % 512 == p
  else if r.id = PRT_QMASK.id then i / 9 == p
  else if partRegs.any fun x => x.id == r.id then i == p
  else if fieldRegs.any fun x => x.id == r.id then s.wholeField w p i
  else false

/-- Some cue slot in one of the states holds the copy in its scope. -/
def State.slotHolds (s : State) (w lo hi : Nat) (r : Reg) (i : Nat) : Bool :=
  (List.range 8).any fun c =>
    decide (lo ≤ s.rd CUE_SSTAT_STATE w c) && decide (s.rd CUE_SSTAT_STATE w c ≤ hi) && s.inScope w (s.rd CUE_SSTAT_SCOPE w c) (s.rd CUE_SSTAT_PART w c) r i

/-- A staged register's copy is locked: from the start of rehearsal until copying completes, and while a load expands into it. -/
def State.stLocked (s : State) (w : Nat) (r : Reg) (i : Nat) : Bool :=
  s.slotHolds w 2 4 r i || (match (s.getCueUnits w).loadLock with | some (sc, p) => s.inScope w sc p r i | none => false)

/-! ## The journal's fetch (R55-R64) -/

/-- JOURNAL_SPILL (R55): the oldest entry not yet in flash is copied there. -/
def journalSpill (w : Nat) (s : State) : State :=
  let j := s.getJournals w
  match j.entries.find? fun e => e.inRing && !e.inFlash with
  | none => s
  | some e => (s.putJournals w { j with entries := j.entries.map fun x => if x.seq = e.seq then { x with inFlash := true } else x }).jrnlSync w

def execJournalSpill (w : WaferId) (s : State) : Res := .next (journalSpill w s)

/-- JOURNAL_FETCH (R57): the commit of ID_JRNL_SEL ends a running fetch and starts another; the entry is held from here on (R64). -/
def journalFetch (w n : Nat) (s : State) : State :=
  let j := s.getJournals w
  ((s.setReg ID_JRNL_SEL w 0 n).wr ID_JRNL_FETCH_BUSY w 0 1).putJournals w { j with fetching := some n, held := j.entries.find? fun e => e.seq == n }

def execJournalFetch (w : WaferId) (n : Word) (s : State) : Res := .next (journalFetch w n.toNat s)

/-- The sixteen words of an entry (R56). -/
def JEntry.words (e : JEntry) : List Nat :=
  [e.seq % 2 ^ 32, e.seq / 2 ^ 32, e.time % 2 ^ 32, e.time / 2 ^ 32, e.word4] ++ (List.range 3).map (fun i => e.detail.getD i 0)
    ++ (List.range 8).map fun i => ofLeBytes ((e.digest.drop (4 * i)).take 4)

/-- JOURNAL_FETCH_DONE (R57): 0 OK, 1 GONE, 2 FUTURE. -/
def journalFetched (w : Nat) (s : State) : State :=
  let j := s.getJournals w
  match j.fetching with
  | none => s
  | some n =>
    let s1 := (s.putJournals w { j with fetching := none, held := none }).wr ID_JRNL_FETCH_BUSY w 0 0
    match j.held with
    | some e => forEach ((List.range 16).zip e.words) (s1.wr ID_JRNL_FETCH_RESULT w 0 0) fun x t => t.setReg ID_JRNL_ENTRY w x.1 x.2
    | none => s1.wr ID_JRNL_FETCH_RESULT w 0 (if j.next ≤ n then 2 else 1)

def execJournalFetchDone (w : WaferId) (s : State) : Res := .next (journalFetched w s)

/-! ## Reading a register -/

/-- What reading a register gives, whole, and the state after it: `w`, `path`, the copy. -/
abbrev RegRead := Nat → Nat → Nat → State → Nat × State

/-- A value that the state decides. -/
def shows (g : Nat → Nat → State → Nat) : RegRead := fun w _ i s => (g w i s, s)

/-- A register whose field reads as a fresh open value. -/
def showsFree (f : Fld) (on : Nat → Nat → State → Bool) : RegRead := fun w _ i s =>
  if on w i s then (putBits (s.reg f.reg w i) f.hi f.lo s.fresh.1, s.fresh.2) else (putBits (s.reg f.reg w i) f.hi f.lo 0, s)

/-- The registers whose value is not simply what was stored. -/
def shownRegs : List (Reg × RegRead) :=
  [(ID_SERIAL, shows fun w _ _ => Config.serial w % 2 ^ 64),
   (ID_WINCTL, fun w path i s => (s.reg ID_WINCTL w i % 2 + path * 16, s)),
   (ATN_PENDING, shows fun w _ s => s.atnPending w),
   (ATN_SUMMARY, shows fun w _ s => s.atnSummary w),
   (TB_NOW, shows fun w _ s => s.tbNow w),
   (TB_ERR_BOUND, shows fun w _ s => s.tbBound w),
   (TB_STAT, shows fun w _ s => putBits (s.reg TB_STAT w 0) 3 3
     (match (s.getClocks w).todAt with | some t => b2n (decide (s.tbNow w ≤ t + 2000000000)) | none => 0)),
   (CUE_DIGEST, shows fun w _ s => mget 0 (s.getCueUnits w).chartDigests (s.rd CUE_DIGEST_SEL_PART w 0)),
   (SPN_STAT, shows fun w f s => putBits (putBits (putBits (putBits (s.reg SPN_STAT w f) 0 0 (b2n (s.spineOn w f))) 2 2 (s.stamp w)) 3 3
     (b2n (decide (f = hostBridge (s.rd BUP_STAT_HOST w 0))))) 27 8 ((attachedPorts f).foldl (fun m p => m + 2 ^ p) 0)),
   (LOFT_STAT, shows fun w f s => putBits (s.reg LOFT_STAT w f) 0 0 (b2n (s.loftOn w f))),
   (PWR_DOM_STAT, shows fun w d s => putBits (s.reg PWR_DOM_STAT w d) PWR_DOM_STAT_FAULTS_24H.hi PWR_DOM_STAT_FAULTS_24H.lo
     (min 3 ((s.getDoms (domKey w d)).faultTimes.filter fun t => decide (s.now < t + day)).length)),
   (PWR_QRATE, showsFree PWR_QRATE_RATE fun w q s => s.domState w q == 3),
   (CORE_BANK_WAIT, showsFree CORE_BANK_WAIT_COUNT fun _ _ _ => true),
   (HIF_LINK_EVENTS, showsFree HIF_LINK_EVENTS_CORR_ERR fun _ _ _ => true),
   (BUP_ELAPSED, shows fun w n s => if (s.getBups w).starting && s.rd BUP_STAT_PHASE w 0 == n then (s.now - (s.getBups w).phaseStart + 999) / 1000 else s.reg BUP_ELAPSED w n),
   (THM_GHOST_STAT, shows fun w _ s => if s.rd THM_GHOST_STAT_STATE w 0 = 2 then s.reg THM_GHOST_STAT w 0
     else putBits (s.reg THM_GHOST_STAT w 0) 1 0 (b2n (s.rd THM_GHOST_ENABLE w 0 == 1 && s.waferIdle w))),
   (AGE_MON, shows fun w m s => if s.rd AGE_MON_QUALITY w m = 2 then s.reg AGE_MON w m else putBits (s.reg AGE_MON w m) 31 22 (min 1023 ((s.now - (s.getAgeMons (w * 1152 + m)).lastAt) / 1000000000))),
   (DBG_CORE_STAT, shows fun w _ s =>
     let c := s.dbgCore w
     let i := coreIdx c.1 c.2
     let v := putBits (s.reg DBG_CORE_STAT w i) 23 12 (s.core w c.1 c.2).pc
     if s.dbgReach w c.1 c.2 then v else putBits v 2 0 4),
   (DBG_REG_DATA, fun w _ _ s => dbgRegRead w s),
   (TWI_TGT_STAT, fun w path _ s => (putBits (putBits (s.reg TWI_TGT_STAT w 0) 2 2 (b2n (s.hostRuns w))) 1 0 (if path = 1 then 2 else s.rd TWI_TGT_STAT_STATE w 0), s)),
   (DBG_MEM_DATA, fun w _ _ s => dbgMemPeek w s)]

/-- Whether reads of this path show the wings for a staged copy: WINGS_VIEW is set, and no copying of R49 covers it (R48, R60). -/
def State.viewsWings (s : State) (w path : Nat) (r : Reg) (i : Nat) : Bool :=
  r.st != 0 && s.rd ID_WINCTL_WINGS_VIEW w path == 1 && !s.slotHolds w 4 4 r i

/-- A register's value as a path reads it, with RC bits cleared after. -/
def readReg (w path : Nat) (r : Reg) (i : Nat) (s : State) : Nat × State :=
  match shownRegs.find? fun x => x.1.id == r.id with
  | some x => let y := x.2 w path i s; (y.1, if r.rc = 0 then y.2 else y.2.setReg r w i (y.2.reg r w i &&& notBits 64 r.rc))
  | none =>
    let live := s.reg r w i
    let v := if s.viewsWings w path r i then (live &&& notBits 64 r.st) ||| (s.wreg r w i &&& r.st) else live
    (v &&& notBits 64 r.wo, if r.rc = 0 then s else s.setReg r w i (live &&& notBits 64 r.rc))

/-- A read of the register at a place; a selection that names nothing reads 0. -/
def readPlace (w path : Nat) (r : Reg) (i : Nat) (s : State) : Nat × State :=
  match s.bank w path r i with
  | some k => readReg w path r k s
  | none => if r.sel = .core then readReg w path r 0 s else (0, s)

/-! ## Writing a register -/

/-- What a write of a register does: `w`, `path`, the copy, the value. -/
abbrev RegWrite := Nat → Nat → Nat → Nat → State → State

/-- The write that the access types alone decide (R48). -/
def storeReg (w : Nat) (r : Reg) (i v : Nat) (s : State) : State :=
  let old := s.reg r w i
  let new := (((old &&& notBits 64 r.rw) ||| (v &&& r.rw)) &&& notBits 64 (v &&& r.w1c)) ||| (v &&& r.w1s)
  let s1 := if new = old then s else s.setReg r w i new
  if r.st = 0 then s1 else s1.setWreg r w i ((s1.wreg r w i &&& notBits 64 r.st) ||| (v &&& r.st))

/-- A write of a register that is only stored, and something more where a bit of it is set. -/
def andThen (w : Nat) (r : Reg) (i v bit : Nat) (g : State → State) (s : State) : State := (storeReg w r i v s).when (bitAt v bit) g

/-- A write of BUP_CTL (R304, R324, R327). -/
def bupCtl (w path v : Nat) (s : State) : State :=
  ((((s.when (bitAt v 1) (fdrStart w path)).when (bitAt v 2) (fdrAbort w)).when (bitAt v 3) (retestStart w (bits v 10 4))).when (bitAt v 0) (warmStart1 w))

/-- A write of HIF_DMA_CFG (R578, R581). -/
def dmaCfg (w c v : Nat) (s : State) : State :=
  let s1 := if bitAt v 0 then dmaEnable w c (bits v 4 1) s
    else (if s.rd HIF_DMA_CFG_ENABLE w c = 1 then dmaDisable w c s else s).wr HIF_DMA_CFG_RING_LOG2 w c (bits v 4 1)
  s1.when (bitAt v 8) (dmaResume w c)

/-- A write of DBG_CORE_CTL (R710, R711). -/
def dbgCoreCtl (w v : Nat) (s : State) : State :=
  ((s.when (bitAt v 0) (dbgControl w (haltAsk w))).when (bitAt v 1) (dbgControl w fun f u => resumeCore w f u false)).when (bitAt v 2)
    (dbgControl w fun f u => resumeCore w f u true)

/-- Clearing a VALID bit in bit 0 clears the count beside it (R65, R135). -/
def clearCount (r : Reg) (c : Fld) : RegWrite := fun w _ i v s => (storeReg w r i v s).when (bitAt v 0) fun t => t.wr c w i 0

/-- The registers whose write does more than store. -/
def actingRegs : List (Reg × RegWrite) :=
  [(ID_ERR_STAT, clearCount ID_ERR_STAT ID_ERR_STAT_COUNT), (CORE_FAULT, clearCount CORE_FAULT CORE_FAULT_COUNT),
   (ID_JRNL_SEL, fun w _ _ v => journalFetch w v),
   (ATN_MASK, fun w _ _ v => hostMaskWrite w v), (ATN_TMC_MASK, fun w _ _ v => tmcMaskWrite w v), (ATN_LMASK, fun w _ g v => leafMaskWrite w g v),
   (ATN_TMC_SEEN, fun w _ _ v => tmcSeenClear w v), (ATN_TEST, fun w _ _ v => atnTest w v),
   (CUE_CTRL, fun w path _ v => cueCtrl w path v),
   (IMG_CTL, fun w path i v s => (andThen w IMG_CTL i v 24 (imageStart w path) s).when (bitAt v 25) (imgFail w 25)),
   (IMG_PUSH_CTL, fun w _ i v s => (andThen w IMG_PUSH_CTL i v 24 (pushStart w none) s).when (bitAt v 25) (pushAbort w)),
   (BUP_CTL, fun w path _ v => bupCtl w path v),
   (BUP_FDR_ARM, fun w _ i v s => (storeReg w BUP_FDR_ARM i v s).modBups w fun b => { b with armTime := s.now }),
   (BUP_LDG_SEL, fun w _ _ v => ledgerFetch w (v % 2 ^ 16)),
   (PRT_CTL, fun w _ p v s => s.when (bitAt v 0) (curtain w p)),
   (CQ_CTL, fun w _ k v s => s.when (bitAt v 0) (resetSeq w (k / 64) (k % 64))),
   (SE_SLOT_CTL, fun w _ p v s => (s.when (bits v 14 13 == 1) (slotJoin w p (bits v 12 0))).when (bits v 14 13 == 2) (slotLeave w p (bits v 12 0))),
   (PMT_CTL, fun w _ p v s => (s.when (bitAt v 0) (preempt w p)).when (bitAt v 1) (resume w p)),
   (PWR_DOM_REQ, fun w _ _ v => domRequest w (bits v 8 0) (bits v 10 9)),
   (PWR_CAP, fun w path _ v => capWrite w path v),
   (TEL_SEL, fun w _ _ v => telSnapshot w (v % 512)),
   (THM_GHOST_CTL, fun w _ _ v s => s.when (bitAt v 0) (ghostExit w)),
   (HIF_DMA_CFG, fun w _ c v => dmaCfg w c v), (HIF_DMA_TAIL, fun w _ c v => dmaTail w c v),
   (HIF_MSIX_VCTL, fun w _ _ v s => msixMask w (s.getHifs w).funcMask (bitAt v 0) s),
   (NET_RT_DATA, fun w _ _ v => routeTableWrite w v),
   (LNK_CFG, fun w _ p v s =>
     let s1 := s.setReg LNK_CFG w p (putBits (v &&& LNK_CFG.rw) 0 0 (s.rd LNK_CFG_ADMIN_DOWN w p))
     if s.rd LNK_CFG_ADMIN_DOWN w p = v % 2 then s1 else adminDown w p (bitAt v 0) s1),
   (TMC_KEEPALIVE1, fun w _ _ v => keepaliveCommit w v),
   (TWI_CTRL_CMD, fun w _ _ v => twiCmd w v),
   (DBG_CTL, fun w path _ v => dbgCtl w path v), (DBG_CORE_CTL, fun w _ _ v => dbgCoreCtl w v),
   (DBG_REG_DATA, fun w _ _ v => dbgRegWrite w v), (DBG_MEM_DATA, fun w _ _ v => dbgMemWrite w v),
   (DBG_BP, fun w _ i v => comparatorWrite w DBG_BP (i % 4) v), (DBG_WP_ADDR, fun w _ i v => comparatorWrite w DBG_WP_ADDR (i % 2) v),
   (DBG_WP_CFG, fun w _ i v => comparatorWrite w DBG_WP_CFG (i % 2) v)]

/-- Bits of a value that no field of the register has (R46). -/
def Reg.reservedBits (r : Reg) (v : Nat) : Nat :=
  v &&& notBits (if r.wide then 64 else 32) (r.rw ||| r.st ||| r.w1c ||| r.w1s ||| r.rc ||| r.wo ||| r.ro)

/-- A whole write of a register's copy (R46, R48, R50). -/
def commitReg (w path off : Nat) (r : Reg) (i v : Nat) (s : State) : State :=
  if r.st ≠ 0 ∧ s.stLocked w r i = true then accessError w path 4 off true s
  else
    let u := v - r.reservedBits v
    let s1 := match actingRegs.find? fun x => x.1.id == r.id with
      | some x => x.2 w path i u s
      | none => storeReg w r i u s
    s1.when (r.reservedBits v != 0) (accessError w path 5 off true)

/-- A whole write at a place; a selection that names nothing holds nothing, but debug controls answer for it. -/
def writePlace (w path off : Nat) (r : Reg) (i v : Nat) (s : State) : State :=
  match s.bank w path r i with
  | some k => commitReg w path off r k v s
  | none =>
    if r.sel = .core ∧ (actingRegs.any fun x => x.1.id == r.id) = true then commitReg w path off r i v s
    else s.when (r.reservedBits v != 0) (accessError w path 5 off true)

/-! ## Accesses (R42-R47) -/

def State.modLatches (s : State) (k : Nat) (g : Latch → Latch) : State := s.putLatches k (g (s.getLatches k))

/-- The key of a path's latch. -/
def latchKey (w path : Nat) : Nat := w * 8 + path

def unservedWord : Nat := 0xDEAD0FF0
def unimplWord : Nat := 0xDEAD0BAD

/-- A read of DBG_MEM_DATA with its high word takes the address on (R725). -/
def afterHigh (w : Nat) (r : Reg) (s : State) : State := if r.id = DBG_MEM_DATA.id then autoInc w s else s

/-- A 4-byte read, after the latch's captured word has been taken out of it. -/
def readWord (w path off : Nat) (captured : Option (Nat × Nat)) (s : State) : Nat × State :=
  if s.unserved w off then (unservedWord, accessError w path 2 off false s)
  else match regAt windowRegs off with
    | none => (unimplWord, accessError w path 1 off false s)
    | some (r, i, false) =>
      let x := readPlace w path r i s
      (x.1 % 2 ^ 32, if r.wide then x.2.modLatches (latchKey w path) fun l => { l with captured := some (off, x.1 / 2 ^ 32) } else x.2)
    | some (r, i, true) =>
      match captured with
      | some (o, v) => if o + 4 = off then (v, afterHigh w r s) else let x := readPlace w path r i s; (x.1 / 2 ^ 32, afterHigh w r x.2)
      | none => let x := readPlace w path r i s; (x.1 / 2 ^ 32, afterHigh w r x.2)

/-- A 4-byte read with no byte enabled: the value and nothing else (R43). -/
def quietWord (w path off : Nat) (s : State) : Nat :=
  if s.unserved w off then unservedWord
  else match regAt windowRegs off with
    | none => unimplWord
    | some (r, i, high) => let v := (readPlace w path r i s).1; if high then v / 2 ^ 32 else v % 2 ^ 32

/-- Take the word captured for this access, if any (R44). -/
def takeCaptured (w path : Nat) (s : State) : Option (Nat × Nat) × State :=
  let l := s.getLatches (latchKey w path)
  (l.captured, if l.captured.isSome then s.putLatches (latchKey w path) { l with captured := none } else s)

/-- A 4-byte read with byte enables. -/
def read4 (w path off be : Nat) (s : State) : Nat × State :=
  if be = 0 then (quietWord w path off s, s)
  else let x := takeCaptured w path s; readWord w path off x.1 x.2

/-- An 8-byte read at an aligned offset: atomic on a 64-bit register, otherwise two words. -/
def read8 (w path off : Nat) (s0 : State) : (Nat × Nat) × State :=
  let s := (takeCaptured w path s0).2
  if s.unserved w off then ((unservedWord, unservedWord), accessError w path 2 off false s)
  else match regAt windowRegs off with
    | some (r, i, _) =>
      if r.wide then let x := readPlace w path r i s; ((x.1 % 2 ^ 32, x.1 / 2 ^ 32), afterHigh w r x.2)
      else let x := readWord w path off none s; let y := readWord w path (off + 4) none x.2; ((x.1, y.1), y.2)
    | none =>
      if (regAt windowRegs (off + 4)).isNone then ((unimplWord, unimplWord), accessError w path 1 off false s)
      else let x := readWord w path off none s; let y := readWord w path (off + 4) none x.2; ((x.1, y.1), y.2)

/-- The current low word of a 64-bit register: of the wings for staged fields (R44). -/
def State.lowWord (s : State) (w path : Nat) (r : Reg) (i : Nat) : Nat :=
  if r.st = 0 then (readPlace w path r i s).1 % 2 ^ 32
  else match s.bank w path r i with
    | some k => s.wreg r w k % 2 ^ 32
    | none => 0

/-- A 4-byte write of a whole word. -/
def writeWord (w path off v : Nat) (s : State) : State :=
  if s.unserved w off then accessError w path 2 off true s
  else match regAt windowRegs off with
    | none => accessError w path 1 off true s
    | some (r, i, false) =>
      if r.wide then s.modLatches (latchKey w path) fun l => { l with low := some (off, v) } else writePlace w path off r i v s
    | some (r, i, true) =>
      match (s.getLatches (latchKey w path)).low with
      | some (o, lo) =>
        if o + 4 = off then writePlace w path o r i (lo + v * 2 ^ 32) (s.modLatches (latchKey w path) fun l => { l with low := none })
        else writePlace w path (off - 4) r i (s.lowWord w path r i + v * 2 ^ 32) s
      | none => writePlace w path (off - 4) r i (s.lowWord w path r i + v * 2 ^ 32) s

/-- A 4-byte write with byte enables (R43). -/
def write4 (w path off be v : Nat) (s0 : State) : State :=
  if be = 0 then s0
  else
    let s := (takeCaptured w path s0).2
    if be = 15 then writeWord w path off v s
    else if s.unserved w off then accessError w path 2 off true s
    else if (regAt windowRegs off).isNone then accessError w path 1 off true s
    else accessError w path 3 off true s

/-- An 8-byte write at an aligned offset. -/
def write8 (w path off lo hi : Nat) (s0 : State) : State :=
  let s := (takeCaptured w path s0).2
  if s.unserved w off then accessError w path 2 off true s
  else match regAt windowRegs off with
    | some (r, i, _) =>
      if r.wide then writePlace w path off r i (lo + hi * 2 ^ 32) s else writeWord w path (off + 4) hi (writeWord w path off lo s)
    | none =>
      if (regAt windowRegs (off + 4)).isNone then accessError w path 1 off true s else writeWord w path (off + 4) hi (writeWord w path off lo s)

/-- The words of a read request in ascending order (R42); `n` bounds how many accesses there are. -/
def readWords : Nat → Nat → Nat → Nat → List Nat → State → List Nat × State
  | 0, _, _, _, _, s => ([], s)
  | _, _, _, _, [], s => ([], s)
  | n + 1, w, path, off, [b], s => let x := read4 w path off b s; let r := readWords n w path (off + 4) [] x.2; (x.1 :: r.1, r.2)
  | n + 1, w, path, off, b :: c :: bs, s =>
    if off % 8 = 0 ∧ b = 15 ∧ c = 15 then
      let x := read8 w path off s
      let r := readWords n w path (off + 8) bs x.2
      (x.1.1 :: x.1.2 :: r.1, r.2)
    else
      let x := read4 w path off b s
      let r := readWords n w path (off + 4) (c :: bs) x.2
      (x.1 :: r.1, r.2)

/-- The words of a write request in ascending order. -/
def writeWords : Nat → Nat → Nat → Nat → List (Nat × Nat) → State → State
  | 0, _, _, _, _, s => s
  | _, _, _, _, [], s => s
  | n + 1, w, path, off, [b], s => writeWords n w path (off + 4) [] (write4 w path off b.1 b.2 s)
  | n + 1, w, path, off, b :: c :: bs, s =>
    if off % 8 = 0 ∧ b.1 = 15 ∧ c.1 = 15 then writeWords n w path (off + 8) bs (write8 w path off b.2 c.2 s)
    else writeWords n w path (off + 4) (c :: bs) (write4 w path off b.1 b.2 s)

/-- The window answers a path: a host field runs (R41), and the PCIe path has its link and an awake function. -/
def State.windowOpen (s : State) (w path : Nat) : Bool := s.hostRuns w && (path != 0 || s.apertureOpen w)

/-- A read request: its data and the state after it; nothing where the window does not answer. -/
def windowRead (w path off : Nat) (bes : List Nat) (s : State) : List Nat × State :=
  if !s.windowOpen w path then ([], s)
  else if path = 0 ∧ 16 < bes.length then ([], accessError w path 6 off false s)
  else readWords bes.length w path off bes s

/-- A write request. -/
def windowWrite (w path off : Nat) (ds : List (Nat × Nat)) (s : State) : State :=
  if !s.windowOpen w path then s
  else if path = 0 ∧ 16 < ds.length then (accessError w path 6 off true s).emit (.completion w 4 [])
  else writeWords ds.length w path off ds s

/-- REGISTER_WRITE (R42-R48). -/
def execRegisterWrite (w : WaferId) (path : PathId) (word : BitVec 22) (ds : List (BitVec 4 × Word32)) (s : State) : Res :=
  .next (windowWrite w path (word.toNat * 4) (ds.map fun d => (d.1.toNat, d.2.toNat)) s)

/-- RC_READ: a read of the window (R42-R48); it clears RC fields. -/
def registerRead (w path off : Nat) (bes : List Nat) (s : State) : State :=
  let x := windowRead w path off bes s
  if !s.windowOpen w path then s
  else if path = 0 ∧ 16 < bes.length then x.2.emit (.completion w 4 [])
  else x.2.emit (.reply path w x.1)

def execRcRead (w : WaferId) (path : PathId) (word : BitVec 22) (bes : List (BitVec 4)) (s : State) : Res :=
  .next (registerRead w path (word.toNat * 4) (bes.map BitVec.toNat) s)

end Sys2Proof.Machine
end

