-- ==== Sys2Proof/Machine/Deliver.lean ====
section
/-!
DEFINITION. Packets that reach their destination NI: the transport orders them and what they carry happens (R146-R148, R193-R195). Here too is what the packets of
window accesses do at a spine's management target and at the window arbiter (R147). Open points are in log entries 17 and 31.
-/
namespace Sys2Proof.Machine

/-! ## Window accesses as packets (R147) -/

/-- The access path of a window access that travels as a packet: its RID (log entry 31). -/
def packetPath (p : Packet) : Nat := p.rid % 3

/-- An answer of a spine's management target. -/
def mgmtAnswer (w f kind val : Nat) (p : Packet) (bs : List Nat) (s : State) : State :=
  enqueue w f { typ := 13, cls := 3, dest := p.src, src := physAddr w f 602, spart := noPart, addr := p.addr, rid := p.rid, aux := kind + val * 256, payload := bs } s

/-- The kind of error that an access would capture were none captured; 0 for none. -/
def errorKind (w : Nat) (g : State → State) (s : State) : Nat :=
  let t := g (s.setReg ID_ERR_STAT w 0 0)
  if t.rd ID_ERR_STAT_VALID w 0 = 1 then t.rd ID_ERR_STAT_KIND w 0 else 0

/-- A READ at a spine's management target. -/
def mgmtRead (w f : Nat) (p : Packet) (s : State) : State :=
  let n := p.aux / 256 % 256
  let x := fun (t : State) => readWords n w (packetPath p) p.addr (List.replicate n 15) t
  let k := errorKind w (fun t => (x t).2) s
  if fieldWindow p.addr ≠ some f then mgmtAnswer w f 5 1 p [] (accessError w (packetPath p) 1 p.addr false s)
  else if k ≠ 0 then mgmtAnswer w f 5 k p [] (x s).2 else mgmtAnswer w f 3 n p ((x s).1.flatMap (leBytes 4)) (x s).2

/-- A WRITE at a spine's management target. -/
def mgmtWrite (w f : Nat) (p : Packet) (s : State) : State :=
  let n := p.aux / 256 % 256
  let ws := (List.range n).map fun i => (15, fieldOf p.payload (4 * i) 4)
  let g := writeWords n w (packetPath p) p.addr ws
  let k := errorKind w g s
  if fieldWindow p.addr ≠ some f then mgmtAnswer w f 5 1 p [] (accessError w (packetPath p) 1 p.addr true s)
  else if k ≠ 0 then mgmtAnswer w f 5 k p [] (g s) else mgmtAnswer w f 4 n p [] (g s)

/-- A MGMT packet of a window access, delivered: READ and WRITE at unit 602 of a compute field, the answers at unit 1 of the active host field. -/
def deliverMgmt (w f : Nat) (p : Packet) (s : State) : State :=
  let k := p.aux % 256
  let target := f < 72 ∧ addrUnit p.dest = 602
  let arbiter := f = s.hostField w ∧ addrUnit p.dest = 1
  if k = 1 ∧ target then mgmtRead w f p s
  else if k = 2 ∧ target then mgmtWrite w f p s
  else if k = 3 ∧ arbiter then s.emit (.reply (packetPath p) w ((List.range (p.aux / 256 % 256)).map fun i => fieldOf p.payload (4 * i) 4))
  else if (k = 4 ∨ k = 5) ∧ arbiter then s.emit (.reply (packetPath p) w [])
  else s

/-! ## Arrivals -/

/-- What a delivered packet does; the decoder's finding concerns the packet that arrives now, not those that waited for it. -/
def deliverAny (w f : Nat) (now : Packet) (ecc : Ecc) (p : Packet) (s : State) : State :=
  if p.typ = 13 then deliverMgmt w f p s else deliverData w f p (if p = now then ecc else .good) s

/-- A packet of a type arrives at the NI that it is addressed to. -/
def arrives (w f typ : Nat) (p : Packet) (ecc : Ecc) (s : State) : State :=
  if p.typ = typ ∧ niOf p.dest = w + f * 64 then arrive w f (deliverAny w f p ecc) p s else s

/-- A MGMT packet of a kind arrives. -/
def mgmtArrives (w f kind : Nat) (p : Packet) (s : State) : State := if p.aux % 256 = kind then arrives w f 13 p .good s else s

/-- A TACK or NACK arrives; a damaged one is discarded (R148). -/
def answerArrives (w f typ : Nat) (g : Packet → State → State) (p : Packet) (s : State) : State :=
  if p.typ ≠ typ ∨ niOf p.dest ≠ w + f * 64 then s
  else if !p.hcrcOk || !p.pcrcOk then dropPacket w (spineOf f) 0 p s
  else g p s

/-- SEND_DELIVERY (R96, R193). -/
def execSendDelivery (w : WaferId) (f : Fin 84) (p : Packet) (s : State) : Res := .next (arrives w f 0 p .good s)
/-- FETCH_REQ (R96, R351). -/
def execFetchReq (w : WaferId) (f : Fin 84) (p : Packet) (ecc : Ecc) (s : State) : Res := .next (arrives w f 1 p ecc s)
/-- FETCH_DATA (R146). -/
def execFetchData (w : WaferId) (f : Fin 84) (p : Packet) (s : State) : Res := .next (arrives w f 2 p .good s)
/-- SIGNAL_DELIVERY (R96). -/
def execSignalDelivery (w : WaferId) (f : Fin 84) (p : Packet) (s : State) : Res := .next (arrives w f 3 p .good s)
/-- LGET_REQ (R341, R345, R350). -/
def execLgetReq (w : WaferId) (f : Fin 84) (p : Packet) (ecc : Ecc) (s : State) : Res := .next (arrives w f 4 p ecc s)
/-- LGET_DATA (R146). -/
def execLgetData (w : WaferId) (f : Fin 84) (p : Packet) (s : State) : Res := .next (arrives w f 5 p .good s)
/-- LPUT_PACKET (R347, R349). -/
def execLputPacket (w : WaferId) (f : Fin 84) (p : Packet) (ecc : Ecc) (s : State) : Res := .next (arrives w f 6 p ecc s)
/-- XPUT_PACKET (R146). -/
def execXputPacket (w : WaferId) (f : Fin 84) (p : Packet) (s : State) : Res := .next (arrives w f 7 p .good s)
/-- ATOM_PACKET (R197). -/
def execAtomPacket (w : WaferId) (f : Fin 84) (p : Packet) (ecc : Ecc) (s : State) : Res := .next (arrives w f 8 p ecc s)
/-- STEAL_REQ (R116). -/
def execStealReq (w : WaferId) (f : Fin 84) (p : Packet) (s : State) : Res := .next (arrives w f 9 p .good s)
/-- STEAL_ANS (R118). -/
def execStealAns (w : WaferId) (f : Fin 84) (p : Packet) (s : State) : Res := .next (arrives w f 10 p .good s)
/-- TACK (R194). -/
def execTack (w : WaferId) (f : Fin 84) (p : Packet) (s : State) : Res := .next (answerArrives w f 11 (tackArrives w f) p s)
/-- NACK (R195). -/
def execNack (w : WaferId) (f : Fin 84) (p : Packet) (s : State) : Res := .next (answerArrives w f 12 (nackArrives w f) p s)
/-- MGMT_READ (R147). -/
def execMgmtRead (w : WaferId) (f : Fin 84) (p : Packet) (s : State) : Res := .next (mgmtArrives w f 1 p s)
/-- MGMT_WRITE (R147). -/
def execMgmtWrite (w : WaferId) (f : Fin 84) (p : Packet) (s : State) : Res := .next (mgmtArrives w f 2 p s)
/-- MGMT_READ_DATA (R147). -/
def execMgmtReadData (w : WaferId) (f : Fin 84) (p : Packet) (s : State) : Res := .next (mgmtArrives w f 3 p s)
/-- MGMT_WRITE_DONE (R147). -/
def execMgmtWriteDone (w : WaferId) (f : Fin 84) (p : Packet) (s : State) : Res := .next (mgmtArrives w f 4 p s)
/-- MGMT_ACC_ERROR (R147). -/
def execMgmtAccError (w : WaferId) (f : Fin 84) (p : Packet) (s : State) : Res := .next (mgmtArrives w f 5 p s)

end Sys2Proof.Machine
end

