-- ==== Sys2Proof/Machine/Ports.lean ====
section
/-!
DEFINITION. The two-wire bus target of a wafer (R684-R687, R696, R697) and its prompter port (R702-R707). Open points are in log entry 30.
-/
namespace Sys2Proof.Machine

/-! ## The two-wire bus target -/

/-- A transaction ends with a result code: 0 OK, 1 PEC_BAD, 2 BAD_CMD, 3 NOT_READY, 5 DUP; refusals and repeats are counted. -/
def tgtEnd (w result : Nat) (s : State) : State :=
  let s1 := s.wr TWI_TGT_STAT_LAST_RESULT w 0 result
  match result with
  | 1 => s1.bump TWI_TGT_EVENTS_PEC_BAD w 0 1
  | 2 => s1.bump TWI_TGT_EVENTS_BAD_CMD w 0 1
  | 3 => s1.bump TWI_TGT_EVENTS_BAD_CMD w 0 1
  | 5 => s1.bump TWI_TGT_EVENTS_DUP w 0 1
  | _ => s1

/-- A window command wakes a sleeping SMC, which runs some time later (R687). -/
def smcWake (w us : Nat) (s : State) : State :=
  if (s.getTwis w).asleep then (s.modTwis w fun x => { x with asleep := false }).wrSat TWI_TGT_STAT_LAST_WAKE_US w 0 us else s

/-- The words of a byte list. -/
def dwords (bs : List Nat) : List Nat := (List.range (bs.length / 4)).map fun i => ofLeBytes ((bs.drop (4 * i)).take 4)

/-- The written bytes of a WRITE are in range (R684). -/
def writeOk (bs : List Nat) : Bool :=
  let n := (bs.length - 6) / 4
  bs.length == 6 + 4 * n && decide (1 ≤ n) && decide (n ≤ 8) && bs.getD 0 0 == 5 + 4 * n && bs.getD 5 0 == 0 && bs.getD 2 0 % 4 == 0

/-- A WRITE that has been received and checked (R685, R686). -/
def tgtWrite (w : Nat) (bs : List Nat) (s : State) : State :=
  let tag := bs.getD 1 0
  let off := ofLeBytes ((bs.drop 2).take 3)
  let data := bs.drop 6
  if tag ≠ 0 ∧ (s.getTwis w).last = some (tag, off, data) then tgtEnd w 5 s
  else
    let s1 := windowWrite w 1 off ((dwords data).map fun v => (15, v)) s
    let s2 := (s1.modTwis w fun x => { x with last := if tag = 0 then x.last else some (tag, off, data) })
    tgtEnd w 0 (if tag = 0 then s2 else s2.wr TWI_TGT_STAT_LAST_TAG w 0 tag)

/-- A block write to the target: its command, its bytes from the count on, and its PEC where one came. -/
def twiWrite (w cmd : Nat) (bs : List Nat) (pec : Option Nat) (us : Nat) (s : State) : State :=
  if (s.getWafers w).powered = false then s
  else if cmd ≠ 0x10 then tgtEnd w 2 s
  else if s.hostRuns w = false then tgtEnd w 3 s
  else
    let s1 := smcWake w us s
    if writeOk bs = false then tgtEnd w 2 s1
    else match pec with
      | none => if s1.rd TWI_TGT_CFG_PEC_REQ w 0 = 1 then tgtEnd w 1 s1 else tgtWrite w bs s1
      | some p => if p = crc8 (0x58 :: cmd :: bs) then tgtWrite w bs s1 else tgtEnd w 1 s1

/-- TWI_WRITE (R684-R687). -/
def execTwiWrite (w : WaferId) (cmd : Byte) (bytes : List Byte) (pec : Option Byte) (wakeUs : BitVec 16) (s : State) : Res :=
  .next (twiWrite w cmd.toNat (bytes.map BitVec.toNat) (pec.map BitVec.toNat) wakeUs.toNat s)

/-- The written bytes of a READ are in range (R684). -/
def readOk (bs : List Nat) : Bool :=
  bs.length == 6 && bs.getD 0 0 == 5 && bs.getD 4 0 == 0 && bs.getD 1 0 % 4 == 0 && decide (1 ≤ bs.getD 5 0) && decide (bs.getD 5 0 ≤ 8)

/-- A block process call to the target: its bytes from the write count on. It answers the count, the data and the PEC. -/
def twiRead (w : Nat) (bs : List Nat) (us : Nat) (s : State) : State :=
  if (s.getWafers w).powered = false then s
  else if s.hostRuns w = false then tgtEnd w 3 s
  else
    let s1 := smcWake w us s
    if readOk bs = false then tgtEnd w 2 s1
    else
      let n := bs.getD 5 0
      let x := windowRead w 1 (ofLeBytes ((bs.drop 1).take 3)) (List.replicate n 15) s1
      let data := (4 * n) :: x.1.flatMap (leBytes 4)
      (tgtEnd w 0 x.2).emit (.twi w (data ++ [crc8 ([0x58, 0x11] ++ bs ++ [0x59] ++ data)]))

/-- TWI_READ (R684, R685). -/
def execTwiRead (w : WaferId) (bytes : List Byte) (wakeUs : BitVec 16) (s : State) : Res :=
  .next (twiRead w (bytes.map BitVec.toNat) wakeUs.toNat s)

/-! ## The prompter port -/

/-- A scan of the port: the wafer is powered and a prompter is there (R702, R707). -/
def scan (w : Nat) (g : State → State) (s : State) : State :=
  if (s.getWafers w).powered then g (s.wr DBG_STAT_PRESENT w 0 1) else s

/-- Select an instruction; boundary cells are driven under EXTEST only. -/
def setIr (w ir : Nat) (s : State) : State := s.modTwis w fun x => { x with ir := ir, driving := ir == 0 }

/-- The device identification of the wafer (R703). -/
def idcode : Nat := 0x146529D3

/-- JTAG_IDCODE (R703). -/
def execJtagIdcode (w : WaferId) (s : State) : Res := .next (scan w (fun t => (setIr w 2 t).emit (.jtag w 32 idcode)) s)

/-- Instructions that do not select BYPASS (R702). -/
def portInstr (ir : Nat) : Bool := ir == 0 || ir == 1 || ir == 2 || ir == 8 || ir == 9

/-- JTAG_BYPASS (R702): BYPASS itself, and every instruction that is not supported. -/
def jtagBypass (w ir : Nat) (s : State) : State :=
  if portInstr ir then s else scan w (fun t => (setIr w 0x1F t).emit (.jtag w 1 0)) s

def execJtagBypass (w : WaferId) (ir : BitVec 5) (s : State) : Res := .next (jtagBypass w ir.toNat s)

/-- JTAG_SAMPLE_PRELOAD (R702): the pins are sampled, and the cells loaded. -/
def execJtagSamplePreload (w : WaferId) (pins cells : BitVec 96) (s : State) : Res :=
  .next (scan w (fun t => ((setIr w 1 t).modTwis w fun x => { x with cells := cells.toNat }).emit (.jtag w 96 pins.toNat)) s)

/-- JTAG_EXTEST (R703): while a host field runs it selects BYPASS. -/
def execJtagExtest (w : WaferId) (s : State) : Res := .next (scan w (fun t => setIr w (if t.hostRuns w then 0x1F else 0) t) s)

/-- DPSTAT (R702): the always-on status of R687. -/
def execDpstat (w : WaferId) (s : State) : Res := .next (scan w (fun t => (setIr w 9 t).emit (.jtag w 64 (ofLeBytes (t.aonStatus w)))) s)

/-- The value that a DPACC scan captures (R704, R705, R723). -/
def State.dpCaptured (s : State) (w : Nat) (early : Bool) : Nat :=
  let x := s.getTwis w
  if early then 1 + x.dpOp * 4
  else if s.hostRuns w = false then 3 + x.dpOp * 4
  else x.dpAck + x.dpOp * 4 + x.dpData * 2 ^ 32

/-- An access of path 2 raised a HOST leaf cause: it captures an error where none is captured. -/
def accessFailed (w : Nat) (g : State → State) (s : State) : Bool := (g (s.setReg ID_ERR_STAT w 0 0)).rd ID_ERR_STAT_VALID w 0 == 1

/-- The result of the request taken at Update-DR. -/
def dpResult (w ack op data : Nat) (s : State) : State := s.modTwis w fun x => { x with dpAck := ack, dpOp := op, dpData := data }

/-- A DPACC scan (R704, R705): the result of the previous request is captured, and the request is carried out unless the previous access is still running. -/
def dpacc (w op off v : Nat) (early : Bool) (s : State) : State :=
  scan w (fun t =>
    let t1 := (setIr w 8 t).emit (.jtag w 64 (t.dpCaptured w early))
    if early then t1
    else if t1.hostRuns w = false then dpResult w 3 op 0 t1
    else match op with
      | 1 =>
        let x := windowRead w 2 off [15] t1
        dpResult w (if accessFailed w (fun y => (windowRead w 2 off [15] y).2) t1 then 2 else 0) 1 (x.1.getD 0 0) x.2
      | 2 =>
        dpResult w (if accessFailed w (windowWrite w 2 off [(15, v)]) t1 then 2 else 0) 2 0 (windowWrite w 2 off [(15, v)] t1)
      | _ => dpResult w 0 0 0 t1) s

/-- DPACC_NOP, DPACC_READ and DPACC_WRITE (R704, R705). -/
def execDpaccNop (w : WaferId) (early : Bool) (s : State) : Res := .next (dpacc w 0 0 0 early s)
def execDpaccRead (w : WaferId) (word : BitVec 22) (early : Bool) (s : State) : Res := .next (dpacc w 1 (word.toNat * 4) 0 early s)
def execDpaccWrite (w : WaferId) (word : BitVec 22) (v : Word32) (early : Bool) (s : State) : Res :=
  .next (dpacc w 2 (word.toNat * 4) v.toNat early s)

/-- TRST (R702, R707): the TAP is reset, and a debugger on this port detaches. -/
def execTrst (w : WaferId) (s : State) : Res :=
  .next (if (s.getWafers w).powered then portDetach w (setIr w 2 s) else s)

end Sys2Proof.Machine
end

