-- ==== Sys2Proof/Machine/Trays.lean ====
section
/-!
DEFINITION. Tray access frames (R644-R646), the registers of B72 chips, shelves and CDUs behind them (R662, R680, R533, R568), and the duties of a tray management
controller that frames report (R647-R656). Open points are in log entry 32.
-/
namespace Sys2Proof.Machine

/-! ## Registers outside the wafers -/

/-- A read of a chip's, shelf's or CDU's register word. What an offset that holds no register reads as is open. -/
def readUnit (rs : List Reg) (u off : Nat) (s : State) : Nat × State :=
  match regAt rs off with
  | some (r, i, _) =>
    let v := s.reg r u i
    (v &&& notBits 32 r.wo, if r.rc = 0 then s else s.setReg r u i (v &&& notBits 32 r.rc))
  | none => (s.fresh.1 % 2 ^ 32, s.fresh.2)

/-- A write of B72_ACT_CTL (R662, R663, R680): the stamp, the machine number, and the new state of one act. -/
def b72ActCtl (c v : Nat) (s : State) : State :=
  let s1 := storeReg c B72_ACT_CTL 0 v s
  let s2 := (s1.wr B72_ACT_STAT_STAMP c 0 (bits v 0 0)).wr B72_ACT_STAT_MACHINE c 0 (bits v 19 16)
  let st := bits v 6 4
  if 4 < st then s2
  else (s2.setChipActState c (bits v 1 1) st).when (st == 4) fun t => t.wr B72_ACT_STAT_LOCAL_QUIET c 0 0

/-- A table of an act that is LOCKED, LIVE or DRAINING takes no writes (R662). -/
def chipTable (c act : Nat) (g : State → State) (s : State) : State :=
  if 2 ≤ s.chipActState c act then s.bump B72_EVENTS_RT_BUSY c 0 1 else g s

/-- A write of a chip's, shelf's or CDU's register word. -/
def writeUnit (rs : List Reg) (u off v : Nat) (s : State) : State :=
  match regAt rs off with
  | none => s
  | some (r, i, _) =>
    if r.id = B72_ACT_CTL.id then b72ActCtl u v s
    else if r.id = B72_RT.id then chipTable u (i / 64) (storeReg u r i v) s
    else if r.id = B72_UPGRP.id then chipTable u (i / 8) (storeReg u r i v) s
    else if r.id = SHF_ALLOT.id then (storeReg u r i v s).wr SHF_STAT_STATIC u 0 0
    else storeReg u r i v s

/-- B72_ACT_STATE_SET (R662): the RMC's write of B72_ACT_CTL, while the chip's tray has power. -/
def execB72ActStateSet (c : PlaneId) (v : Word32) (s : State) : Res :=
  .next (if (s.getTmcs (36 + c.val / 2)).powerOn && (s.getTmcs (36 + c.val / 2)).running then b72ActCtl c v.toNat s else s)

/-! ## Frames (R644) -/

/-- A frame whose MAGIC and CRC are right. -/
structure Frame where
  typ : Nat
  target : Nat
  seq : Nat
  off : Nat
  count : Nat
  status : Nat
  data : List Nat
deriving DecidableEq, Repr

/-- The frame in a datagram; none for a wrong MAGIC or CRC, or one too short to hold them. -/
def parseFrame (bs : List Nat) : Option Frame :=
  let n := bs.length
  let body := bs.take (n - 4)
  if n < 20 ∨ ofLeBytes (bs.take 2) ≠ 0x5A36 ∨ ofLeBytes (bs.drop (n - 4)) ≠ crc32c body then none
  else some ⟨bs.getD 2 0, bs.getD 3 0, ofLeBytes ((bs.drop 4).take 4), ofLeBytes ((bs.drop 8).take 4), ofLeBytes ((bs.drop 12).take 2), bs.getD 14 0,
    dwords (body.drop 16)⟩

/-- The fields of a request are in range (R644). -/
def Frame.ok (x : Frame) : Bool :=
  decide (1 ≤ x.count) && decide (x.count ≤ 256) && x.off % 4 == 0 && decide (x.target ≤ 5) && (if x.typ = 2 then x.data.length == x.count else x.data.isEmpty)

/-- The words of consecutive reads. -/
def readUnits (rs : List Reg) (u : Nat) : Nat → Nat → State → List Nat × State
  | 0, _, s => ([], s)
  | n + 1, off, s => let x := readUnit rs u off s; let r := readUnits rs u n (off + 4) x.2; (x.1 :: r.1, r.2)

/-- A request to a set of unit registers. -/
def onUnit (rs : List Reg) (u : Nat) (x : Frame) (s : State) : Nat × List Nat × State :=
  if x.typ = 1 then let r := readUnits rs u x.count x.off s; (0, r.1, r.2)
  else (0, [], forEach x.data.zipIdx s fun d t => writeUnit rs u (x.off + 4 * d.2) d.1 t)

/-- Carry a request out at a station (R644, R662): its status (0 OK, 1 NO_TARGET, 2 BUSY, 3 BAD_FRAME), the words read and the state after it. The station is a TMC (0 to 43), a
shelf controller (44 to 51) or a CDU controller (52, 53). -/
def carryOut (u : Nat) (x : Frame) (s : State) : Nat × List Nat × State :=
  if !x.ok then (3, [], s)
  else if 52 ≤ u then (if x.target = 5 then onUnit cduRegs (u - 52) x s else (1, [], s))
  else if 44 ≤ u then (if x.target = 4 then onUnit shelfRegs (u - 44) x s else (1, [], s))
  else if x.target = 0 then
    (if x.typ = 1 then (0, (List.range x.count).map fun i => Config.free (s.freeCtr + i) % 2 ^ 32, s.withFreeCtr (s.freeCtr + x.count)) else (0, [], s))
  else if u < 36 then
    if x.target ≠ 1 ∨ (s.getWafers u).powered = false then (1, [], s)
    else if 2 ^ 24 ≤ x.off + 4 * x.count then (3, [], s)
    else if s.hostRuns u = false then (2, [], s)
    else if x.typ = 1 then let r := windowRead u 1 x.off (List.replicate x.count 15) s; (0, r.1, r.2)
    else (0, [], windowWrite u 1 x.off (x.data.map fun d => (15, d)) s)
  else if (x.target = 2 ∨ x.target = 3) ∧ (s.getTmcs u).powerOn = true then onUnit chipRegs (2 * (u - 36) + (x.target - 2)) x s
  else (1, [], s)

/-- A station's controller runs. -/
def State.stationRuns (s : State) (u : Nat) : Bool := decide (44 ≤ u) || (s.getTmcs u).running

/-- Keep a response: the last 64 of each sender (R645). -/
def keepResponse (u sender seq : Nat) (bs : List Nat) (s : State) : State :=
  let xs := (s.getTafKept u) ++ [(sender, seq, bs)]
  let own := xs.filter fun y => y.1 = sender
  s.putTafKept u (if own.length ≤ 64 then xs else (match own with | y :: _ => xs.erase y | [] => xs))

/-- A request reaches a station (R644, R645): a repeat is answered from the kept response. -/
def request (u typ sender : Nat) (bs : List Nat) (s : State) : State :=
  if !s.stationRuns u then s
  else match parseFrame bs with
  | none => s
  | some x =>
    if x.typ ≠ typ then s
    else match (s.getTafKept u).find? fun y => y.1 == sender && y.2.1 == x.seq with
      | some y => s.emit (.frame u y.2.2)
      | none =>
        let r := carryOut u x s
        let answer := taf 3 x.target x.seq x.off x.count r.1 r.2.1
        (keepResponse u sender x.seq answer r.2.2).emit (.frame u answer)

/-- TAF_READ_REQUEST and TAF_WRITE_REQUEST (R644, R645). -/
def execTafReadRequest (u : Fin 54) (sender : BitVec 16) (bytes : List Byte) (s : State) : Res :=
  .next (request u 1 sender.toNat (bytes.map BitVec.toNat) s)
def execTafWriteRequest (u : Fin 54) (sender : BitVec 16) (bytes : List Byte) (s : State) : Res :=
  .next (request u 2 sender.toNat (bytes.map BitVec.toNat) s)

/-- A response reaches a TMC, whose event it acknowledges, or the active RMC, whose request it answers (R645, R646). -/
def response (u : Nat) (bs : List Nat) (s : State) : State :=
  match parseFrame bs with
  | none => s
  | some x =>
    if x.typ ≠ 3 then s
    else if u < 44 then s.modTmcs u fun t => { t with events := t.events.filter fun e => e.1 ≠ x.seq }
    else if u = 54 + s.rack.planner.active ∧ (s.rack.planner.asks.any fun a => a.2.1 == x.seq) = true then
      s.modPlanner fun p => { p with asks := p.asks.filter fun a => a.2.1 ≠ x.seq, answer := bs }
    else s

def execTafResponse (u : Fin 56) (bytes : List Byte) (s : State) : Res := .next (response u (bytes.map BitVec.toNat) s)

/-- Where the RMC notes what a tray has reported: side-band states by port, then ATTN_N, presence by position, restarts and the absence of RMCs (R646, R647). -/
def knownKey (t kind i : Nat) : Nat := (t * 8 + kind) * 256 + i % 256

/-- The active RMC receives an event frame, notes it and acknowledges it (R646). -/
def event (t : Nat) (bs : List Nat) (s : State) : State :=
  match parseFrame bs with
  | none => s
  | some x =>
    if x.typ ≠ 4 ∨ s.rack.planner.haveActive = false then s
    else
      let k := x.data.getD 0 0 % 256
      let a := x.data.getD 1 0
      let note := fun (m : List (Nat × Nat)) =>
        if k = 1 ∨ k = 3 then mset 0 m (knownKey t k a) (x.data.getD 2 0 + 1)
        else if k = 2 ∨ k = 4 then mset 0 m (knownKey t k 0) (a + 1)
        else if k = 5 then mset 0 m (knownKey t k 0) 1 else m
      let s1 := s.modPlanner fun p => { p with known := note p.known }
      s1.emit (.frame (54 + s.rack.planner.active) (taf 3 x.target x.seq x.off x.count 0 []))

def execTafEvent (t : TmcId) (bytes : List Byte) (s : State) : Res := .next (event t (bytes.map BitVec.toNat) s)

/-- TAF_RETRY (R645, R646): an unanswered request or event is repeated, at most five times. -/
def retry (u number : Nat) (s : State) : State :=
  if u < 44 then
    match (s.getTmcs u).events.find? fun e => e.1 = number with
    | none => s
    | some e =>
      if e.2.1 < 5 then
        let b := taf 4 0 e.1 0 e.2.2.length 0 e.2.2
        ((s.modTmcs u fun x => { x with events := x.events.map fun y => if y.1 = number then (y.1, y.2.1 + 1, y.2.2) else y }).emit (.frame u b)).emit (.frame u b)
      else s.modTmcs u fun x => { x with events := x.events.filter fun y => y.1 ≠ number }
  else if u = 54 + s.rack.planner.active then
    match s.rack.planner.asks.find? fun a => a.2.1 == number with
    | none => s
    | some a =>
      if a.1 % 8 < 5 then
        (s.modPlanner fun p => { p with asks := p.asks.map fun y => if y.2.1 = number then (y.1 + 1, y.2.1, y.2.2) else y }).emit (.frame u a.2.2)
      else s.modPlanner fun p => { p with asks := p.asks.filter fun y => y.2.1 ≠ number }
  else s

def execTafRetry (u : Fin 56) (number : Word32) (s : State) : Res := .next (retry u number.toNat s)

/-! ## What a TMC sees -/

/-- The side-band pairs that a TMC watches (R647). -/
def sidebandPorts (t : Nat) : Nat := if t < 36 then 20 else 144

/-- SIDEBAND_CHANGE (R647). -/
def sidebandChange (t port pair : Nat) (s : State) : State :=
  let x := s.getTmcs t
  if !x.running || decide (sidebandPorts t ≤ port) || mget 0 x.sideband port == pair then s
  else sendEvent t [1, port, pair] (s.putTmcs t { x with sideband := mset 0 x.sideband port pair })

def execSidebandChange (t : TmcId) (port : BitVec 8) (pair : BitVec 2) (s : State) : Res := .next (sidebandChange t port.toNat pair.toNat s)

/-- ATTN_N_CHANGE (R601, R646). -/
def attnNChange (w : Nat) (s : State) : State :=
  let x := s.getTmcs w
  let a := (s.getAtns w).attnN
  if !x.running || x.attnSeen == a then s else sendEvent w [2, b2n a] (s.putTmcs w { x with attnSeen := a })

def execAttnNChange (w : WaferId) (s : State) : Res := .next (attnNChange w s)

/-- A 256-byte identity record can be read (R654, R655). -/
def recordOk (r : List Nat) : Bool :=
  r.length == 256 && r.take 4 == [0x43, 0x48, 0x49, 0x44] && ofLeBytes ((r.drop 0xFC).take 4) == crc32c (r.take 0xFC)

/-- The cable that a connector position calls for (R14, R15, R653): its kind, and the bytes 2 and 3 of its KIND_DATA. A side-stage cable names the wafer whose N or E
port it joins; an uplink's cable names nothing. -/
def cableAt (t pos : Nat) : Option (Nat × Nat × Nat) :=
  if t < 36 then
    if pos < 16 then some (4, t, pos)
    else if pos < 20 then some (5, if pos ≤ 17 then t else neighbour t pos, if pos = 16 ∨ pos = 18 then 0 else 1)
    else none
  else if pos % 72 < 36 ∧ pos < 144 then some (4, pos % 72, 2 * (t - 36) + pos / 72)
  else none

/-- What a TMC makes of a record: 1 read, 2 UNREADABLE, 3 misplaced (R655). -/
def identityCode (t pos : Nat) (r : List Nat) : Nat :=
  if !recordOk r then 2
  else match cableAt t pos with
    | none => 1
    | some (kind, a, b) => if r.getD 5 0 = kind ∧ r.getD 0x32 0 = a ∧ r.getD 0x33 0 = b then 1 else 3

/-- PRESENCE_CHANGE (R653-R656): reported in an event frame; the record is read at a gain. -/
def presenceChange (t pos : Nat) (present : Bool) (r : List Nat) (s : State) : State :=
  let x := s.getTmcs t
  if !x.running || mget false x.presence pos == present then s
  else sendEvent t [3, pos, b2n present] (s.putTmcs t { x with
    presence := mset false x.presence pos present, identity := mset 0 x.identity pos (if present then identityCode t pos r else 0) })

def execPresenceChange (t : TmcId) (pos : BitVec 8) (present : Bool) (record : List Byte) (s : State) : Res :=
  .next (presenceChange t pos.toNat present (record.map BitVec.toNat) s)

/-- The version of the image that a part runs. -/
def State.runningVer (s : State) (part unit : Nat) : Nat := let p := s.getFws (fwKey part unit); (p.slot p.running).ver

/-- A TMC starts again (R31, R645, R646): the tray keeps its state; kept responses and unacknowledged events are gone, and the numbering starts anywhere. -/
def tmcStart (t : Nat) (s : State) : State :=
  let v := s.runningVer 2 t
  let q := s.fresh.1 % 2 ^ 32
  let s1 := (s.fresh.2.putTafKept t []).modTmcs t fun x => { x with running := true, restarts := x.restarts + 1, hears0 := false, hears1 := false, absent := false, events := [], eventSeq := q }
  let s2 := if t < 36 ∧ s1.hostRuns t = true then windowWrite t 1 0x10800C [(15, v)] s1 else s1
  sendEvent t [4, v] s2

/-- TMC_RESTART (R31, R207). -/
def execTmcRestart (t : TmcId) (s : State) : Res := .next (tmcStart t s)

/-- A switch tray gets its power: both chips start (R16, R189). -/
def switchTrayOn (k : Nat) (s : State) : State :=
  if (s.getTmcs (36 + k)).powerOn then s
  else (chipStart (2 * k + 1) (chipStart (2 * k) s)).modTmcs (36 + k) fun x => { x with powerOn := true }

/-- STANDBY_RAIL_UP (R649, R742): the tray is seated, its TMC starts, and starts the tray where it was On and AutoStart holds. -/
def standbyRailUp (t bus : Nat) (s : State) : State :=
  if (s.getTmcs t).running && !(s.getWafers t).interlockOpen && (s.getWafers t).powered then s
  else
    let s1 := tmcStart t (if t < 36 then s.modWafers t fun x => { x with interlockOpen := false } else s)
    let x := s1.getTmcs t
    if x.autoStart && x.lastState then (if t < 36 then coldStart t bus s1 else switchTrayOn (t - 36) s1) else s1

def execStandbyRailUp (t : TmcId) (bus : BitVec 16) (s : State) : Res := .next (standbyRailUp t bus.toNat s)

/-! ## Spotlights (R652, R677) -/

def State.modSpots (s : State) (k : Nat) (g : Spot → Spot) : State := s.putSpots k (g (s.getSpots k))

/-- A unit that has a spotlight: a tray (0 to 43), a shelf (44 to 51), a CDU (52, 53), a BBU (100 + 4 h + b) or a rectifier module (200 + 6 h + m). -/
def hasSpot (u : Nat) : Bool := decide (u < 54) || (decide (100 ≤ u) && decide (u < 132)) || (decide (200 ≤ u) && decide (u < 248))

/-- The controller that drives a spotlight runs. -/
def State.spotDriven (s : State) (u : Nat) : Bool := decide (44 ≤ u) || (s.getTmcs u).running

/-- LocationIndicatorActive takes a value, with a new ETag. -/
def setSpot (u : Nat) (on : Bool) (s : State) : State :=
  (s.modSpots u fun x => { x with lit := on, since := if on && !x.lit then s.now else x.since }).putEtags (1000 + u) (s.getEtags (1000 + u) + 1)

/-- SPOTLIGHT_BUTTON: a press inverts the property. -/
def spotButton (u : Nat) (s : State) : State := if hasSpot u && s.spotDriven u then setSpot u (!(s.getSpots u).lit) s else s

def execSpotlightButton (u : BitVec 8) (s : State) : Res := .next (spotButton u.toNat s)

/-- SPOTLIGHT_TIMEOUT. -/
def spotTimeout (u : Nat) (s : State) : State :=
  let x := s.getSpots u
  if hasSpot u && s.spotDriven u && x.lit && x.timeout != 0 then setSpot u false s else s

def execSpotlightTimeout (u : BitVec 8) (s : State) : Res := .next (spotTimeout u.toNat s)

end Sys2Proof.Machine
end

