-- ==== Sys2Proof/Machine/Firmware.lean ====
section
/-!
DEFINITION. Installing and activating firmware (R657-R661, R669-R671). Open points are in log entry 33.
-/
namespace Sys2Proof.Machine

/-- The instance numbers of a part of R661: SMC and TMC by tray, optical engine (20 w + port), B72, shelf, rectifier module (6 h + m), BBU (4 h + b), CDU and RMC. -/
def fwUnits (part : Nat) : Nat :=
  match part with
  | 1 => 36
  | 2 => 44
  | 3 => 720
  | 4 => 16
  | 5 => 8
  | 6 => 48
  | 7 => 32
  | 8 => 2
  | 9 => 2
  | _ => 0

/-- The TMC through which a part's firmware is written, for the parts on trays (R31, R648, R657). -/
def fwTmc (part unit : Nat) : Option Nat :=
  match part with
  | 1 => some unit
  | 2 => some unit
  | 3 => some (unit / 20)
  | 4 => some (36 + unit / 2)
  | _ => none

/-- What writes a part's slots runs. -/
def State.fwWritable (s : State) (part unit : Nat) : Bool :=
  decide (unit < fwUnits part) && (match fwTmc part unit with | some t => (s.getTmcs t).running | none => true)

/-- Show an SMC's slots after a change. -/
def fwShow (part unit : Nat) (s : State) : State := if part = 1 then fwSync unit s else s

/-- The slot takes an install (R658): EMPTY, INSTALLED, PREVIOUS or BAD, with no slot of the part WRITING or TRIAL. -/
def FwPart.accepts (p : FwPart) (slot : Nat) : Bool :=
  let st := (p.slot slot).st
  (st == 0 || st == 2 || st == 5 || st == 6) && (p.find 1).isNone && (p.find 3).isNone

/-- An install begins: the slot is erased and written (R658). -/
def fwInstall (part unit slot ver : Nat) (digest : List Nat) (s : State) : State :=
  let k := fwKey part unit
  if s.fwWritable part unit && (s.getFws k).accepts slot then
    fwShow part unit (s.modFws k fun p => p.setSlot slot ⟨1, ver, digest⟩)
  else s

/-- FIRMWARE_INSTALL (R658). -/
def execFirmwareInstall (part : Fin 10) (unit : BitVec 12) (slot : Fin 2) (version : Word32) (digest : List Byte) (s : State) : Res :=
  .next (fwInstall part unit.toNat slot version.toNat (digest.map BitVec.toNat) s)

/-! ## Tasks (R669) -/

/-- Change the update tasks of a part that are not over. -/
def modTasks (part unit : Nat) (g : Task → Task) (s : State) : State :=
  s.modPlanner fun p => { p with tasks := p.tasks.map fun x => if x.part = part ∧ x.unit = unit ∧ (x.st = 0 ∨ x.st = 1 ∨ x.st = 4) then g x else x }

/-- An activation waits for its condition: its task is Pending; one that has no task gets one. -/
def fwPending (part unit slot : Nat) (s : State) : State :=
  let waits := fun (x : Task) => x.part == part && x.unit == unit && (x.st == 0 || x.st == 1 || x.st == 4)
  if s.rack.planner.tasks.any waits then modTasks part unit (fun x => if x.st = 1 then x else { x with st := 1, since := s.now }) s
  else s.modPlanner fun p => { p with tasks := p.tasks ++ [⟨p.nextTask, part, unit, slot, true, s.now, 1⟩], nextTask := p.nextTask + 1 }

/-! ## Activation (R657) -/

/-- The machine's limit with a rectifier module or a BBU away. -/
def State.holdsWithout (s t : State) (lim : State → Nat) : Bool := decide (s.planLoad ≤ lim t * 1000)

/-- What the table of R657 asks before a part may activate an image. -/
def State.mayActivate (s : State) (part unit : Nat) : Bool :=
  match part with
  | 3 => !s.inLive (unit / 20) (fun a => a.hasPort (unit / 20) (unit % 20)) && s.rd LNK_CFG_ADMIN_DOWN (unit / 20) (unit % 20) == 1
  | 4 => !bitAt (s.getActs (s.rack.planner.liveAct % 2)).planes unit && [0, 1].all (fun a => decide (s.chipActState unit a < 2)) && s.rack.planner.step != .draining
  | 6 => s.holdsWithout (shelfSync (unit / 6) (s.modShelves (unit / 6) fun x => { x with badModules := x.badModules ||| 2 ^ (unit % 6) })) State.limitAc
  | 7 => s.bbu (unit / 4) (unit % 4) == 4 && s.holdsWithout (shelfSync (unit / 4) (s.wr BBU_STAT_STATE (unit / 4) (unit % 4) 1)) State.limitRt
  | 8 => s.rd CDU_STAT_STATE (1 - unit) 0 == 1
  | 9 => unit != s.rack.planner.active
  | _ => true

/-- The part starts (R657): a TMC and a chip restart, a module goes offline, a BBU prechecks. An SMC runs the image from the wafer's next start on. -/
def partStart (part unit : Nat) (s : State) : State :=
  match part with
  | 2 => tmcStart unit s
  | 4 => chipStart unit s
  | 6 => shelfSync (unit / 6) (s.modShelves (unit / 6) fun x => { x with badModules := x.badModules ||| 2 ^ (unit % 6) })
  | 7 => shelfSync (unit / 4) ((s.wr BBU_STAT_STATE (unit / 4) (unit % 4) 1).wr BBU_STAT_PRECHECK_S (unit / 4) (unit % 4) 60)
  | _ => s

/-- Activate the image of a slot (R658): the slot is TRIAL, and the part starts from it. A restricted activation waits; for the active RMC the standby first takes over. -/
def activateSlot (part unit slot : Nat) (s : State) : State :=
  let k := fwKey part unit
  if ((s.getFws k).find 1).isSome ∨ ((s.getFws k).find 3).isSome then s
  else if !s.mayActivate part unit then
    let s1 := fwPending part unit slot s
    if part = 9 then s1.modPlanner fun p => { p with failover := true } else s1
  else
    let s1 := s.modFws k fun p => let q := p.setSlot slot { p.slot slot with st := 3 }; if part = 1 then q else { q with running := slot }
    fwShow part unit (partStart part unit (modTasks part unit (fun x => { x with st := 4 }) s1))

/-- Activate the slot that is in a state. -/
def activateIn (part unit st : Nat) (s : State) : State :=
  if !s.fwWritable part unit then s
  else match (s.getFws (fwKey part unit)).find st with
    | some i => activateSlot part unit i s
    | none => s

/-- FIRMWARE_ACTIVATE and FIRMWARE_ROLLBACK (R658). -/
def execFirmwareActivate (part : Fin 10) (unit : BitVec 12) (s : State) : Res := .next (activateIn part unit.toNat 2 s)
def execFirmwareRollback (part : Fin 10) (unit : BitVec 12) (s : State) : Res := .next (activateIn part unit.toNat 5 s)

/-- A slot is written and its digest checked (R658, R661): INSTALLED or BAD. An update to be activated at once goes on; on an SMC it warm starts the wafer (R668). -/
def fwWritten (part unit : Nat) (digest : List Nat) (s : State) : State :=
  let k := fwKey part unit
  let p := s.getFws k
  match p.find 1 with
  | none => s
  | some i =>
    if !s.fwWritable part unit then s
    else
      let ok := (p.slot i).digest == digest
      let s1 := fwShow part unit (fwJournal part unit i (if ok then 3 else 1) (p.slot p.running).ver (s.putFws k (p.setSlot i { p.slot i with st := if ok then 2 else 6 })))
      let now := s.rack.planner.tasks.any fun x => x.part == part && x.unit == unit && x.st == 0 && x.immediate
      if !ok then modTasks part unit (fun x => { x with st := 3 }) s1
      else if now then
        let s2 := activateSlot part unit i s1
        if part = 1 then warmStart1 unit s2 else s2
      else modTasks part unit (fun x => { x with st := 4 }) s1

/-- FIRMWARE_WRITE_DONE (R658). -/
def execFirmwareWriteDone (part : Fin 10) (unit : BitVec 12) (digest : List Byte) (s : State) : Res :=
  .next (fwWritten part unit.toNat (digest.map BitVec.toNat) s)

/-- A part other than an SMC ends its start check (R658); an SMC's is phase 0 of its wafer (R660). -/
def trialEnd (part unit : Nat) (pass : Bool) (s : State) : State :=
  let back := fun (t : State) => if part = 6 then shelfSync (unit / 6) (t.modShelves (unit / 6) fun x => { x with badModules := x.badModules &&& notBits 6 (2 ^ (unit % 6)) }) else t
  if part = 1 ∨ ((s.getFws (fwKey part unit)).find 3).isNone = true ∨ fwUnits part ≤ unit then s
  else if pass then back (modTasks part unit (fun x => { x with st := 2 }) (fwPass part unit s))
  else back (partStart part unit (modTasks part unit (fun x => { x with st := 3 }) (fwFail part unit s)))

/-- FIRMWARE_TRIAL_END (R658). -/
def execFirmwareTrialEnd (part : Fin 10) (unit : BitVec 12) (pass : Bool) (s : State) : Res := .next (trialEnd part unit.toNat pass s)

/-- UPDATE_TASK_TIMEOUT (R669): a task that has waited 24 h ends as Exception. -/
def taskTimeout (n : Nat) (s : State) : State :=
  s.modPlanner fun p => { p with tasks := p.tasks.map fun x => if x.num = n ∧ x.st = 1 then { x with st := 3 } else x }

def execUpdateTaskTimeout (task : BitVec 16) (s : State) : Res := .next (taskTimeout task.toNat s)

end Sys2Proof.Machine
end

