-- ==== Sys2Proof/Machine/Redfish.lean ====
section
/-!
DEFINITION. The Redfish service of the RMCs (R664-R668, R673, R674) and the check that caps follow the plan (R665). Open points are in log entry 34.
-/
namespace Sys2Proof.Machine

/-! ## Resources -/

/-- A number for each resource: its key among the ETags. Trays, shelves, CDUs, batteries and supplies share theirs with their spotlight. -/
def resKey : RfRes → Nat
  | .tank => 1
  | .tray t => 1000 + t.val
  | .shelf h => 1044 + h.val
  | .cdu c => 1052 + c.val
  | .battery h b => 1100 + 4 * h.val + b.val
  | .supply h m => 1200 + 6 * h.val + m.val
  | .sensors w => 100 + w.val
  | .rmc r => 10 + r.val
  | .journal r => 12 + r.val
  | .tmc t => 200 + t.val
  | .eventService => 2
  | .taskService => 3
  | .switchPort c p => 2000 + 72 * c.val + p.val
  | .endpointPort w p => 4000 + 20 * w.val + p.val
  | .firmware part u => 8192 + 4096 * part.val + u.toNat

/-- The unit that drives the spotlight of a resource. -/
def resSpot (x : RfRes) : Option Nat := if 1000 ≤ resKey x ∧ resKey x < 1248 then some (resKey x - 1000) else none

/-- What a resource shows: its properties, in the order of R667 and R668. -/
def State.contents (s : State) (x : RfRes) : List Nat :=
  let p := s.rack.planner
  let spot := fun (u : Nat) => let y := s.getSpots u; [b2n y.lit, y.timeout]
  match x with
  | .tank => [p.opLimit, p.rtGrace, b2n p.barrierBalance, p.coolantSet, p.machineNo, p.drainMaxMs, p.planId, p.planFaults, p.actFaults] ++ p.alarms
  | .tray t =>
    let y := s.getTmcs t
    let pw := s.getPlans t
    [b2n (if t.val < 36 then (s.getWafers t).powered else y.powerOn), b2n y.running, b2n y.autoStart] ++ spot t
      ++ (if t.val < 36 then [pw.rank, pw.floor, s.rd PWR_CAP_CAP_W t 0, s.rd PWR_CAP_REASON t 0, pw.overrides] else []) ++ y.identity.map fun i => i.1 * 4 + i.2
  | .sensors w => [s.rd THM_COOLANT_TRAY_IN w 0, s.rd THM_COOLANT_VALVE w 0, s.reg PWR_DRAW w 0, (List.range 288).foldl (fun m q => max m (s.rd THM_Q_TJ w q)) 0]
  | .rmc r => let y := s.getRmcs r; [s.runningVer 9 r, b2n (p.haveActive && p.active == r.val), y.timeSource, y.ptpProfile, y.ptpDomain, y.quality]
  | .tmc t => [s.runningVer 2 t, b2n (s.getTmcs t).running]
  | .journal _ => p.journal.flatMap JEntry.words ++ allWafers.flatMap fun w => (s.getJournals w).entries.flatMap JEntry.words
  | .switchPort c q => [s.reg B72_PORT c q, mget 0 (s.getTmcs (36 + c.val / 2)).sideband (c.val % 2 * 72 + q.val)]
  | .endpointPort w q => [s.reg LNK_STAT w q, mget 0 (s.getTmcs w).sideband q]
  | .shelf h => [s.reg SHF_STAT h 0, s.reg SHF_AC h 0, s.reg SHF_OUT h 0, s.reg SHF_ALLOT h 0, s.reg SHF_CHG h 0] ++ spot (44 + h)
  | .supply h m => [b2n (bitAt (s.getShelves h).badModules m)] ++ spot (200 + 6 * h + m)
  | .battery h b => [s.reg BBU_STAT h b, s.reg BBU_ENERGY h b, s.reg BBU_FLOW h b, b2n ((s.getShelves h).faulted.contains (mget 0 (s.getShelves h).serials b))] ++ spot (100 + 4 * h + b)
  | .cdu c => [s.reg CDU_STAT c 0, s.reg CDU_TEMP c 0, s.reg CDU_FLOW c 0, s.reg CDU_FAC c 0] ++ spot (52 + c)
  | .firmware part u => let y := s.getFws (fwKey part u.toNat); [y.a.st, y.a.ver, y.b.st, y.b.ver, y.running]
  | .eventService => p.subs.map fun y => y.1
  | .taskService => p.tasks.map fun y => y.num * 8 + y.st

/-- A new ETag of a resource. -/
def touch (x : RfRes) (s : State) : State := s.putEtags (resKey x) (s.getEtags (resKey x) + 1)

/-- REDFISH_GET (R664, R666): both RMCs serve reads. -/
def execRedfishGet (_r : RmcId) (x : RfRes) (s : State) : Res := .next (s.emit (.redfish 200 (s.getEtags (resKey x) :: s.contents x)))

/-- What a write answers: the standby refuses it with 503 (R664). -/
def rfWrite (r : Nat) (g : State → State) (s : State) : State :=
  if s.rack.planner.haveActive = false ∨ s.rack.planner.active ≠ r then s.emit (.redfish 503 []) else g s

/-! ## PATCH (R668, R674) -/

/-- A property belongs to a resource and the value lies in its range. -/
def propOk (x : RfRes) (p : RfProp) (v : Nat) : Bool :=
  match p, x with
  | .machinePowerLimitW, .tank => decide (v ≤ 756000)
  | .rideThroughGraceS, .tank => decide (v ≤ 20)
  | .barrierBalance, .tank => decide (v ≤ 1)
  | .coolantSetpointC, .tank => decide (30 ≤ v) && decide (v ≤ 45)
  | .machineNumber, .tank => decide (v ≤ 15)
  | .drainMaxMs, .tank => decide (1 ≤ v) && decide (v ≤ 255)
  | .shedRank, .tray t => decide (t.val < 36) && decide (v ≤ 3)
  | .floorW, .tray t => decide (t.val < 36) && decide (1500 ≤ v) && decide (v ≤ 20000)
  | .autoStart, .tray _ => decide (v ≤ 1)
  | .spotlightTimeoutS, .tray _ => decide (v ≤ 86400)
  | .locationIndicatorActive, y => (resSpot y).isSome && decide (v ≤ 1)
  | .timeSource, .rmc _ => decide (v ≤ 2)
  | .ptpProfile, .rmc _ => decide (v ≤ 1)
  | .ptpDomain, .rmc _ => decide (v ≤ 127)
  | _, _ => false

/-- The value that a request gives a property, else the one it has. -/
def propValue (ps : List (RfProp × Nat)) (p : RfProp) (old : Nat) : Nat := ps.foldl (fun v x => if x.1 = p then x.2 else v) old

/-- The PTP profile and domain go together: the default profile with 0 to 127, the other with 24 to 43. -/
def ptpOk (s : State) (x : RfRes) (ps : List (RfProp × Nat)) : Bool :=
  match x with
  | .rmc r =>
    let y := s.getRmcs r
    propValue ps .ptpProfile y.ptpProfile == 0 || (decide (24 ≤ propValue ps .ptpDomain y.ptpDomain) && decide (propValue ps .ptpDomain y.ptpDomain ≤ 43))
  | _ => true

/-- The active RMC writes the machine's number into its chips (R189). -/
def numberChips (n : Nat) (s : State) : State :=
  forEach (List.range 16) s fun c t =>
    if (t.getTmcs (36 + c / 2)).powerOn && (t.getTmcs (36 + c / 2)).running then (t.wr B72_ACT_CTL_MACHINE c 0 n).wr B72_ACT_STAT_MACHINE c 0 n else t

/-- Give a property its value. -/
def setProp (x : RfRes) (p : RfProp) (v : Nat) (s : State) : State :=
  match p, x with
  | .machinePowerLimitW, _ => s.modPlanner fun q => { q with opLimit := v }
  | .rideThroughGraceS, _ => s.modPlanner fun q => { q with rtGrace := v }
  | .barrierBalance, _ => s.modPlanner fun q => { q with barrierBalance := v == 1 }
  | .coolantSetpointC, _ => s.modPlanner fun q => { q with coolantSet := v }
  | .machineNumber, _ => numberChips v (s.modPlanner fun q => { q with machineNo := v })
  | .drainMaxMs, _ => s.modPlanner fun q => { q with drainMaxMs := v }
  | .shedRank, .tray t => s.modPlans t fun y => { y with rank := v }
  | .floorW, .tray t => s.modPlans t fun y => { y with floor := v }
  | .autoStart, .tray t => s.modTmcs t fun y => { y with autoStart := v == 1 }
  | .spotlightTimeoutS, .tray t => s.modSpots t fun y => { y with timeout := v }
  | .locationIndicatorActive, y => match resSpot y with | some u => if s.spotDriven u then setSpot u (v == 1) s else s | none => s
  | .timeSource, .rmc r => s.modRmcs r fun y => { y with timeSource := v }
  | .ptpProfile, .rmc r => s.modRmcs r fun y => { y with ptpProfile := v }
  | .ptpDomain, .rmc r => s.modRmcs r fun y => { y with ptpDomain := v }
  | _, _ => s

/-- A PATCH: 412 for an If-Match that no longer matches, 400 with nothing changed for a property or value out of range (R668, R674). A changed machine limit, rank or floor makes a
new plan. -/
def patch (x : RfRes) (ifMatch : Option Nat) (ps : List (RfProp × Nat)) (s : State) : State :=
  if (match ifMatch with | some e => e != s.getEtags (resKey x) | none => false) then s.emit (.redfish 412 [])
  else if !(ps.all fun p => propOk x p.1 p.2) || !ptpOk s x ps then s.emit (.redfish 400 [])
  else
    let s1 := touch x (forEach ps s fun p t => setProp x p.1 p.2 t)
    let s2 := if ps.any fun p => p.1 == .machinePowerLimitW || p.1 == .shedRank || p.1 == .floorW then replan s1 else s1
    s2.emit (.redfish 200 [s2.getEtags (resKey x)])

/-- REDFISH_PATCH (R668). -/
def execRedfishPatch (r : RmcId) (x : RfRes) (ifMatch : Option Word32) (ps : List (RfProp × Word32)) (s : State) : Res :=
  .next (rfWrite r (patch x (ifMatch.map BitVec.toNat) (ps.map fun p => (p.1, p.2.toNat))) s)

/-! ## Actions -/

/-- An action on a tray, through its TMC (R31, R648): refused while that does not run. -/
def trayAction (r t : Nat) (g : State → State) (s : State) : State :=
  rfWrite r (fun u => if (u.getTmcs t).running then (g u).emit (.redfish 204 []) else u.emit (.redfish 503 [])) s

/-- The tray's requested power state is stored before it is carried out (R649). -/
def storePower (t : Nat) (on : Bool) (s : State) : State := s.modTmcs t fun x => { x with lastState := on }

/-- Reset On (R667). -/
def resetOn (t bus : Nat) (s : State) : State := if t < 36 then coldStart t bus (storePower t true s) else switchTrayOn (t - 36) (storePower t true s)
def execResetOn (r : RmcId) (t : TmcId) (bus : BitVec 16) (s : State) : Res := .next (trayAction r t (resetOn t bus.toNat) s)

/-- Reset ForceOff (R649): the tray's power is removed. -/
def resetForceOff (t : Nat) (s : State) : State :=
  if t < 36 then (busUndervolt t false (storePower t false s)).modTmcs t fun x => { x with powerOn := false } else switchTrayOff (t - 36) (storePower t false s)
def execResetForceOff (r : RmcId) (t : TmcId) (s : State) : Res := .next (trayAction r t (resetForceOff t) s)

/-- Reset GracefulShutdown (R470, R649): a planned power-off. -/
def resetGraceful (t : Nat) (s : State) : State := if t < 36 then trayPowerOff t (storePower t false s) else switchTrayOff (t - 36) (storePower t false s)
def execResetGracefulShutdown (r : RmcId) (t : TmcId) (s : State) : Res := .next (trayAction r t (resetGraceful t) s)

/-- Reset PowerCycle (R668): it warm starts a wafer; a switch tray's chips start again. -/
def resetCycle (t : Nat) (s : State) : State :=
  if t < 36 then warmStart1 t s
  else if (s.getTmcs t).powerOn then switchTrayOn (t - 36) (switchTrayOff (t - 36) s) else s
def execResetPowerCycle (r : RmcId) (t : TmcId) (s : State) : Res := .next (trayAction r t (resetCycle t) s)

/-- The active RMC sends a request and waits for its response (R645). -/
def ask (station : Nat) (frame : Nat → List Nat) (s : State) : State :=
  let n := s.rack.planner.askSeq
  (s.modPlanner fun p => { p with askSeq := (n + 1) % 2 ^ 32, asks := p.asks ++ [(station * 8, n, frame n)] }).emit (.frame (54 + s.rack.planner.active) (frame n))

/-- WINDOW_ACCESS (R668): a tray access frame of TARGET 1; with data it writes, without it reads. -/
def windowAccess (w off count : Nat) (data : List Nat) (s : State) : State :=
  ask w (fun n => if data.isEmpty then taf 1 1 n off count 0 [] else taf 2 1 n off data.length 0 data) s

def execWindowAccess (r : RmcId) (w : WaferId) (off : BitVec 24) (count : BitVec 9) (data : List Word32) (s : State) : Res :=
  .next (rfWrite r (windowAccess w off.toNat count.toNat (data.map BitVec.toNat)) s)

/-- CLEAR_CELL_FAULT (R513, R668): the record of the BBU in a bay is cleared; it passes a later precheck. -/
def clearCellFault (h b : Nat) (s : State) : State :=
  (touch (.battery (Fin.ofNat 8 h) (Fin.ofNat 4 b)) (s.modShelves h fun x => { x with faulted := x.faulted.filter fun n => n ≠ mget 0 x.serials b })).emit (.redfish 204 [])

def execClearCellFault (r : RmcId) (h : ShelfId) (b : BbuId) (s : State) : Res := .next (rfWrite r (clearCellFault h b) s)

/-- SET_SECONDS (R618, R668): the seconds of an RMC that has heard no PTP; the phase stays that of its count. -/
def setSeconds (r n : Nat) (s : State) : State :=
  let x := s.getRmcs r
  let s1 := s.modRmcs r fun y => { y with givenSeconds := some n }
  let s2 := if x.lastSync.isSome then s1
    else s1.modRmcs r fun y =>
      let c := y.clock.adjust s.now 0 0
      { y with clock := { c with offset := c.offset + ((n : Int) - (c.read s.now / 1000000000 : Nat)) * 1000000000 } }
  (touch (.rmc (Fin.ofNat 2 r)) s2).emit (.redfish 204 [])

def execSetSeconds (r : RmcId) (seconds : BitVec 48) (s : State) : Res := .next (setSeconds r seconds.toNat s)

/-- FAILOVER (R668): the standby takes the active role at the next heartbeat. -/
def execFailover (r : RmcId) (s : State) : Res :=
  .next (rfWrite r (fun t => (t.modPlanner fun p => { p with failover := true }).emit (.redfish 204 [])) s)

/-- The slot that an update is written into: the one that the part does not run. -/
def FwPart.spare (p : FwPart) : Nat := if p.find 4 = some 0 then 1 else 0

/-- An update (R667, R668): a task is made, and the image goes into the spare slot; refused where the slot takes no install. -/
def update (part unit ver : Nat) (digest : List Nat) (immediate : Bool) (s : State) : State :=
  let p := s.getFws (fwKey part unit)
  if s.fwWritable part unit && p.accepts p.spare then
    let n := s.rack.planner.nextTask
    (fwInstall part unit p.spare ver digest (s.modPlanner fun q => { q with nextTask := n + 1, tasks := q.tasks ++ [⟨n, part, unit, p.spare, immediate, s.now, 0⟩] })).emit (.redfish 202 [n])
  else s.emit (.redfish 400 [])

/-- SIMPLE_UPDATE and MULTIPART_UPDATE (R667, R668). -/
def execSimpleUpdate (r : RmcId) (part : Fin 10) (unit : BitVec 12) (version : Word32) (digest : List Byte) (immediate : Bool) (s : State) : Res :=
  .next (rfWrite r (update part unit.toNat version.toNat (digest.map BitVec.toNat) immediate) s)
def execMultipartUpdate (r : RmcId) (part : Fin 10) (unit : BitVec 12) (version : Word32) (digest : List Byte) (immediate : Bool) (s : State) : Res :=
  .next (rfWrite r (update part unit.toNat version.toNat (digest.map BitVec.toNat) immediate) s)

/-- EVENT_SUBSCRIBE (R666): up to 16 subscriptions. -/
def subscribe (dest : Nat) (s : State) : State :=
  let p := s.rack.planner
  if 16 ≤ p.subs.length then s.emit (.redfish 400 [])
  else (touch .eventService (s.modPlanner fun q => { q with subs := q.subs ++ [(q.nextSub, dest)], nextSub := q.nextSub + 1 })).emit (.redfish 201 [p.nextSub])

def execEventSubscribe (r : RmcId) (dest : Word) (s : State) : Res := .next (rfWrite r (subscribe dest.toNat) s)

/-- EVENT_UNSUBSCRIBE (R666). -/
def unsubscribe (n : Nat) (s : State) : State :=
  if s.rack.planner.subs.any fun x => x.1 == n then
    (touch .eventService (s.modPlanner fun q => { q with subs := q.subs.filter fun x => x.1 ≠ n })).emit (.redfish 204 [])
  else s.emit (.redfish 404 [])

def execEventUnsubscribe (r : RmcId) (number : BitVec 16) (s : State) : Res := .next (rfWrite r (unsubscribe number.toNat) s)

/-! ## Cap consistency -/

/-- A wafer's cap differs from the RMC's last plan (R665). -/
def State.capDiffers (s : State) (w : Nat) : Bool :=
  let x := s.getPlans w
  s.rd PWR_CAP_CAP_W w 0 != x.written || s.rd PWR_CAP_REASON w 0 != x.reason || s.rd PWR_CAP_PLAN_ID w 0 != x.planNo

/-- CAP_CONSISTENCY_CHECK (R665, R673): an override is counted and the planned value written back. -/
def capCheck (s : State) : State :=
  if s.rack.planner.haveActive = false then s
  else forEach (allWafers.filter fun w => s.planned w && s.hostRuns w && s.capDiffers w) s fun w t =>
    let x := t.getPlans w
    capWrite w 1 (x.written + x.reason * 2 ^ 16 + x.planNo * 2 ^ 20) (t.putPlans w { x with overrides := x.overrides + 1 })

def execCapConsistencyCheck (s : State) : Res := .next (capCheck s)

end Sys2Proof.Machine
end

