-- ==== Sys2Proof/Machine/Dispatch.lean ====
section
/-!
DEFINITION. The command's meaning, one arm a command.
-/
namespace Sys2Proof.Machine

def exec (i : Instr) (s : State) : Host.Outcome State Fault Refusal :=
  match i with
  | .waferLoss w => Sys2Proof.Machine.execWaferLoss w s
  | .linkLossOfSignal e => Sys2Proof.Machine.execLinkLossOfSignal e s
  | .rmcDeclareWaferLost w => Sys2Proof.Machine.execRmcDeclareWaferLost w s
  | .rmcHeartbeat standbyHears tmcs => Sys2Proof.Machine.execRmcHeartbeat standbyHears tmcs s
  | .rmcTakeover => Sys2Proof.Machine.execRmcTakeover s
  | .tmcKeepaliveTick w trayIn valve => Sys2Proof.Machine.execTmcKeepaliveTick w trayIn valve s
  | .keepaliveCommit w ka => Sys2Proof.Machine.execKeepaliveCommit w ka s
  | .rmcsAbsent t => Sys2Proof.Machine.execRmcsAbsent t s
  | .registerWrite w path word ds => Sys2Proof.Machine.execRegisterWrite w path word ds s
  | .rcRead w path word bes => Sys2Proof.Machine.execRcRead w path word bes s
  | .wingsCopyDone w c => Sys2Proof.Machine.execWingsCopyDone w c s
  | .journalSpill w => Sys2Proof.Machine.execJournalSpill w s
  | .journalFetch w n => Sys2Proof.Machine.execJournalFetch w n s
  | .journalFetchDone w => Sys2Proof.Machine.execJournalFetchDone w s
  | .supplySettled w => Sys2Proof.Machine.execSupplySettled w s
  | .droopGateEngage w d => Sys2Proof.Machine.execDroopGateEngage w d s
  | .droopGateRelease w d => Sys2Proof.Machine.execDroopGateRelease w d s
  | .undervolt w d volt => Sys2Proof.Machine.execUndervolt w d volt s
  | .gateTimeout w d volt => Sys2Proof.Machine.execGateTimeout w d volt s
  | .intArithmetic w f u op rd ra rb => Sys2Proof.Machine.execIntArithmetic w f u op rd ra rb s
  | .logic w f u op rd ra rb => Sys2Proof.Machine.execLogic w f u op rd ra rb s
  | .compare w f u op rd ra rb => Sys2Proof.Machine.execCompare w f u op rd ra rb s
  | .branch w f u c target => Sys2Proof.Machine.execBranch w f u c target s
  | .time w f u rd => Sys2Proof.Machine.execTime w f u rd s
  | .tokens w f u rd => Sys2Proof.Machine.execTokens w f u rd s
  | .flags w f u rd => Sys2Proof.Machine.execFlags w f u rd s
  | .wait w f u word count => Sys2Proof.Machine.execWait w f u word count s
  | .mma w f u fa fb pair ta tb => Sys2Proof.Machine.execMma w f u fa fb pair ta tb s
  | .cvt w f u src dst td ta shift => Sys2Proof.Machine.execCvt w f u src dst td ta shift s
  | .vecAdd w f u bf td ta tb => Sys2Proof.Machine.execVecAdd w f u bf td ta tb s
  | .vecSub w f u bf td ta tb => Sys2Proof.Machine.execVecSub w f u bf td ta tb s
  | .vecMul w f u bf td ta tb => Sys2Proof.Machine.execVecMul w f u bf td ta tb s
  | .vecFma w f u bf td ta tb tc => Sys2Proof.Machine.execVecFma w f u bf td ta tb tc s
  | .vecMin w f u bf td ta tb => Sys2Proof.Machine.execVecMin w f u bf td ta tb s
  | .vecMax w f u bf td ta tb => Sys2Proof.Machine.execVecMax w f u bf td ta tb s
  | .vecCompare w f u bf td ta tb => Sys2Proof.Machine.execVecCompare w f u bf td ta tb s
  | .vecExp2 w f u bf td ta => Sys2Proof.Machine.execVecExp2 w f u bf td ta s
  | .vecRecip w f u bf td ta => Sys2Proof.Machine.execVecRecip w f u bf td ta s
  | .vecRsqrt w f u bf td ta => Sys2Proof.Machine.execVecRsqrt w f u bf td ta s
  | .vecReduce w f u bf td ta => Sys2Proof.Machine.execVecReduce w f u bf td ta s
  | .ld w f u rd addr ecc => Sys2Proof.Machine.execLd w f u rd addr ecc s
  | .st w f u rs addr ecc => Sys2Proof.Machine.execSt w f u rs addr ecc s
  | .tld w f u td addr ecc => Sys2Proof.Machine.execTld w f u td addr ecc s
  | .tst w f u ts addr ecc => Sys2Proof.Machine.execTst w f u ts addr ecc s
  | .lget w f u dest off ret len => Sys2Proof.Machine.execLget w f u dest off ret len s
  | .send w f u rank addr src len => Sys2Proof.Machine.execSend w f u rank addr src len s
  | .fetch w f u rank addr ret len => Sys2Proof.Machine.execFetch w f u rank addr ret len s
  | .signal w f u rank word => Sys2Proof.Machine.execSignal w f u rank word s
  | .push w f u d rd rs => Sys2Proof.Machine.execPush w f u d rd rs s
  | .pop w f u => Sys2Proof.Machine.execPop w f u s
  | .steal w f u => Sys2Proof.Machine.execSteal w f u s
  | .stealRetry w f u => Sys2Proof.Machine.execStealRetry w f u s
  | .lput w f u dest off src len => Sys2Proof.Machine.execLput w f u dest off src len s
  | .xput w f u dest addr src len => Sys2Proof.Machine.execXput w f u dest addr src len s
  | .atomAdd w f u wide dest off rs => Sys2Proof.Machine.execAtomAdd w f u wide dest off rs s
  | .atomMin w f u wide dest off rs => Sys2Proof.Machine.execAtomMin w f u wide dest off rs s
  | .atomMax w f u wide dest off rs => Sys2Proof.Machine.execAtomMax w f u wide dest off rs s
  | .atomOr w f u wide dest off rs => Sys2Proof.Machine.execAtomOr w f u wide dest off rs s
  | .atomSwap w f u wide dest off rs => Sys2Proof.Machine.execAtomSwap w f u wide dest off rs s
  | .semaTake w f u rs => Sys2Proof.Machine.execSemaTake w f u rs s
  | .semaGive w f u rs => Sys2Proof.Machine.execSemaGive w f u rs s
  | .spadScrubLine w f u line ecc => Sys2Proof.Machine.execSpadScrubLine w f u line ecc s
  | .routerForward w f e input p ecc => Sys2Proof.Machine.execRouterForward w f e input p ecc s
  | .outputArbitration w f e out => Sys2Proof.Machine.execOutputArbitration w f e out s
  | .creditReturn w f e out vc => Sys2Proof.Machine.execCreditReturn w f e out vc s
  | .injectionArbitration w f => Sys2Proof.Machine.execInjectionArbitration w f s
  | .sendDelivery w f p => Sys2Proof.Machine.execSendDelivery w f p s
  | .fetchReq w f p ecc => Sys2Proof.Machine.execFetchReq w f p ecc s
  | .fetchData w f p => Sys2Proof.Machine.execFetchData w f p s
  | .signalDelivery w f p => Sys2Proof.Machine.execSignalDelivery w f p s
  | .lgetReq w f p ecc => Sys2Proof.Machine.execLgetReq w f p ecc s
  | .lgetData w f p => Sys2Proof.Machine.execLgetData w f p s
  | .lputPacket w f p ecc => Sys2Proof.Machine.execLputPacket w f p ecc s
  | .xputPacket w f p => Sys2Proof.Machine.execXputPacket w f p s
  | .atomPacket w f p ecc => Sys2Proof.Machine.execAtomPacket w f p ecc s
  | .stealReq w f p => Sys2Proof.Machine.execStealReq w f p s
  | .stealAns w f p => Sys2Proof.Machine.execStealAns w f p s
  | .tack w f p => Sys2Proof.Machine.execTack w f p s
  | .nack w f p => Sys2Proof.Machine.execNack w f p s
  | .mgmtRead w f p => Sys2Proof.Machine.execMgmtRead w f p s
  | .mgmtWrite w f p => Sys2Proof.Machine.execMgmtWrite w f p s
  | .mgmtReadData w f p => Sys2Proof.Machine.execMgmtReadData w f p s
  | .mgmtWriteDone w f p => Sys2Proof.Machine.execMgmtWriteDone w f p s
  | .mgmtAccError w f p => Sys2Proof.Machine.execMgmtAccError w f p s
  | .mgmtTake w sem src spart => Sys2Proof.Machine.execMgmtTake w sem src spart s
  | .mgmtGrant w f u sem slot => Sys2Proof.Machine.execMgmtGrant w f u sem slot s
  | .mgmtGive w sem => Sys2Proof.Machine.execMgmtGive w sem s
  | .mgmtConsume w sem src spart => Sys2Proof.Machine.execMgmtConsume w sem src spart s
  | .mgmtReturn w sem src spart => Sys2Proof.Machine.execMgmtReturn w sem src spart s
  | .cmdFwd w p q bytes => Sys2Proof.Machine.execCmdFwd w p q bytes s
  | .idleReport w p q seq src => Sys2Proof.Machine.execIdleReport w p q seq src s
  | .cmdEnd w p q seq status => Sys2Proof.Machine.execCmdEnd w p q seq status s
  | .pmtFwd w p v => Sys2Proof.Machine.execPmtFwd w p v s
  | .batchFwd w p off bytes => Sys2Proof.Machine.execBatchFwd w p off bytes s
  | .doneBits w p src off bytes => Sys2Proof.Machine.execDoneBits w p src off bytes s
  | .faultFwd w p cause => Sys2Proof.Machine.execFaultFwd w p cause s
  | .linkBlockTx l flits => Sys2Proof.Machine.execLinkBlockTx l flits s
  | .linkBlockRx l bytes => Sys2Proof.Machine.execLinkBlockRx l bytes s
  | .ackDeadline l => Sys2Proof.Machine.execAckDeadline l s
  | .linkFaultReplayLimit l => Sys2Proof.Machine.execLinkFaultReplayLimit l s
  | .linkFaultAckTimeout l => Sys2Proof.Machine.execLinkFaultAckTimeout l s
  | .identityBlock l ident => Sys2Proof.Machine.execIdentityBlock l ident s
  | .linkTrained l => Sys2Proof.Machine.execLinkTrained l s
  | .portAdminDown w p down => Sys2Proof.Machine.execPortAdminDown w p down s
  | .laneSymbolLoss l lane => Sys2Proof.Machine.execLaneSymbolLoss l lane s
  | .laneBerCheck l => Sys2Proof.Machine.execLaneBerCheck l s
  | .degradeRelock l => Sys2Proof.Machine.execDegradeRelock l s
  | .b72Forward c inp p => Sys2Proof.Machine.execB72Forward c inp p s
  | .retransmitTimeout w f dest cls spart count => Sys2Proof.Machine.execRetransmitTimeout w f dest cls spart count s
  | .tackTimer w f src cls spart => Sys2Proof.Machine.execTackTimer w f src cls spart s
  | .recalTrigger l lane => Sys2Proof.Machine.execRecalTrigger l lane s
  | .recalIdleSlot l => Sys2Proof.Machine.execRecalIdleSlot l s
  | .recalForced l => Sys2Proof.Machine.execRecalForced l s
  | .routeTableWrite w v => Sys2Proof.Machine.execRouteTableWrite w v s
  | .actChangeRequest c => Sys2Proof.Machine.execActChangeRequest c s
  | .actBuild es => Sys2Proof.Machine.execActBuild es s
  | .actCue time mid => Sys2Proof.Machine.execActCue time mid s
  | .elementQuiet d => Sys2Proof.Machine.execElementQuiet d s
  | .actFree => Sys2Proof.Machine.execActFree s
  | .drainDeadline => Sys2Proof.Machine.execDrainDeadline s
  | .unitPlannedReset u => Sys2Proof.Machine.execUnitPlannedReset u s
  | .b72Loss c => Sys2Proof.Machine.execB72Loss c s
  | .spineLoss w f => Sys2Proof.Machine.execSpineLoss w f s
  | .unitAdmit c => Sys2Proof.Machine.execUnitAdmit c s
  | .imageLoadStart w path => Sys2Proof.Machine.execImageLoadStart w path s
  | .imageLoadAbort w => Sys2Proof.Machine.execImageLoadAbort w s
  | .imageCheckDone w bad => Sys2Proof.Machine.execImageCheckDone w bad s
  | .imageExpansionDone w bad => Sys2Proof.Machine.execImageExpansionDone w bad s
  | .actsHandoverAck w => Sys2Proof.Machine.execActsHandoverAck w s
  | .actsAckTimeout w => Sys2Proof.Machine.execActsAckTimeout w s
  | .pushStart w bad => Sys2Proof.Machine.execPushStart w bad s
  | .pushAbort w => Sys2Proof.Machine.execPushAbort w s
  | .pushDone w => Sys2Proof.Machine.execPushDone w s
  | .cueStart w path v => Sys2Proof.Machine.execCueStart w path v s
  | .cueDisarm w path v => Sys2Proof.Machine.execCueDisarm w path v s
  | .rehearsalDone w c => Sys2Proof.Machine.execRehearsalDone w c s
  | .rehearsalTimeout w c => Sys2Proof.Machine.execRehearsalTimeout w c s
  | .cueApply w c => Sys2Proof.Machine.execCueApply w c s
  | .schedCueValue w c => Sys2Proof.Machine.execSchedCueValue w c s
  | .machineCueStart members time mid => Sys2Proof.Machine.execMachineCueStart members time mid s
  | .machineCueCheck => Sys2Proof.Machine.execMachineCueCheck s
  | .goFrame w bytes => Sys2Proof.Machine.execGoFrame w bytes s
  | .coldStart w bus => Sys2Proof.Machine.execColdStart w bus s
  | .warmStart w => Sys2Proof.Machine.execWarmStart w s
  | .bringupPhase0 w straps ledgerOk => Sys2Proof.Machine.execBringupPhase0 w straps ledgerOk s
  | .hostStartTestTimeout w => Sys2Proof.Machine.execHostStartTestTimeout w s
  | .bringupPhase1 w findings => Sys2Proof.Machine.execBringupPhase1 w findings s
  | .ppsLockTimeout w => Sys2Proof.Machine.execPpsLockTimeout w s
  | .bringupPhase2 w findings => Sys2Proof.Machine.execBringupPhase2 w findings s
  | .bringupPhase3 w findings => Sys2Proof.Machine.execBringupPhase3 w findings s
  | .portTrainTimeout w p => Sys2Proof.Machine.execPortTrainTimeout w p s
  | .bringupPhase4 w findings cals baseline => Sys2Proof.Machine.execBringupPhase4 w findings cals baseline s
  | .bringupDone w findings => Sys2Proof.Machine.execBringupDone w findings s
  | .phaseSlow w => Sys2Proof.Machine.execPhaseSlow w s
  | .ledgerFetch w slot => Sys2Proof.Machine.execLedgerFetch w slot s
  | .ledgerFetchDone w => Sys2Proof.Machine.execLedgerFetchDone w s
  | .fdrStart w path => Sys2Proof.Machine.execFdrStart w path s
  | .fdrAbort w => Sys2Proof.Machine.execFdrAbort w s
  | .fdrCommit w findings => Sys2Proof.Machine.execFdrCommit w findings s
  | .fieldRetestStart w f => Sys2Proof.Machine.execFieldRetestStart w f s
  | .fieldRetestDone w findings cals baseline => Sys2Proof.Machine.execFieldRetestDone w findings cals baseline s
  | .pchArbitration w f ch rs => Sys2Proof.Machine.execPchArbitration w f ch rs s
  | .loftScrubRead w f bank e => Sys2Proof.Machine.execLoftScrubRead w f bank e s
  | .scrubForcedSlot w f bank es => Sys2Proof.Machine.execScrubForcedSlot w f bank es s
  | .scrubLate w f bank => Sys2Proof.Machine.execScrubLate w f bank s
  | .rowSpareCopy w f row es => Sys2Proof.Machine.execRowSpareCopy w f row es s
  | .rowSpareForced w f row es => Sys2Proof.Machine.execRowSpareForced w f row es s
  | .quarterZeroed w q => Sys2Proof.Machine.execQuarterZeroed w q s
  | .apertureRead w off n e => Sys2Proof.Machine.execApertureRead w off n e s
  | .apertureWrite w off bs e => Sys2Proof.Machine.execApertureWrite w off bs e s
  | .doorbell w p q tail => Sys2Proof.Machine.execDoorbell w p q tail s
  | .commandTake w p badFill => Sys2Proof.Machine.execCommandTake w p badFill s
  | .commitInstant w p bad => Sys2Proof.Machine.execCommitInstant w p bad s
  | .commandComplete w p => Sys2Proof.Machine.execCommandComplete w p s
  | .slotJoin w slot => Sys2Proof.Machine.execSlotJoin w slot s
  | .slotLeave w slot => Sys2Proof.Machine.execSlotLeave w slot s
  | .stepBoundary w p => Sys2Proof.Machine.execStepBoundary w p s
  | .semaDecision w sem => Sys2Proof.Machine.execSemaDecision w sem s
  | .semaTenureEnd w sem => Sys2Proof.Machine.execSemaTenureEnd w sem s
  | .curtain w p => Sys2Proof.Machine.execCurtain w p s
  | .curtainDone w p => Sys2Proof.Machine.execCurtainDone w p s
  | .resetSeq w => Sys2Proof.Machine.execResetSeq w s
  | .preempt w p => Sys2Proof.Machine.execPreempt w p s
  | .resume w p => Sys2Proof.Machine.execResume w p s
  | .cutSurrenderTimeout w p => Sys2Proof.Machine.execCutSurrenderTimeout w p s
  | .cutComplete w p => Sys2Proof.Machine.execCutComplete w p s
  | .holdHaltDone w p => Sys2Proof.Machine.execHoldHaltDone w p s
  | .holdSurrenderTimeout w p => Sys2Proof.Machine.execHoldSurrenderTimeout w p s
  | .holdSaveDone w p => Sys2Proof.Machine.execHoldSaveDone w p s
  | .restoreDone w p bad => Sys2Proof.Machine.execRestoreDone w p bad s
  | .donationBound w p => Sys2Proof.Machine.execDonationBound w p s
  | .domainOnRequest w d => Sys2Proof.Machine.execDomainOnRequest w d s
  | .domainOffRequest w d => Sys2Proof.Machine.execDomainOffRequest w d s
  | .domainResetRequest w d => Sys2Proof.Machine.execDomainResetRequest w d s
  | .rampDone w d => Sys2Proof.Machine.execRampDone w d s
  | .isolDone w d => Sys2Proof.Machine.execIsolDone w d s
  | .drainDone w d => Sys2Proof.Machine.execDrainDone w d s
  | .offDwellDone w d => Sys2Proof.Machine.execOffDwellDone w d s
  | .noPowerGood w d volt => Sys2Proof.Machine.execNoPowerGood w d volt s
  | .overcurrent w d volt => Sys2Proof.Machine.execOvercurrent w d volt s
  | .regFail w d volt => Sys2Proof.Machine.execRegFail w d volt s
  | .supplyFaultRetry w d => Sys2Proof.Machine.execSupplyFaultRetry w d s
  | .parkDone w q k => Sys2Proof.Machine.execParkDone w q k s
  | .unparkDone w q k => Sys2Proof.Machine.execUnparkDone w q k s
  | .gateWaitClear w q => Sys2Proof.Machine.execGateWaitClear w q s
  | .busUndervolt w torn => Sys2Proof.Machine.execBusUndervolt w torn s
  | .ibcFault w k => Sys2Proof.Machine.execIbcFault w k s
  | .trayPowerOff w => Sys2Proof.Machine.execTrayPowerOff w s
  | .capWrite w path v => Sys2Proof.Machine.execCapWrite w path v s
  | .capLoopPeriod w => Sys2Proof.Machine.execCapLoopPeriod w s
  | .envelopeStep w => Sys2Proof.Machine.execEnvelopeStep w s
  | .energySample w bus ibcs xs => Sys2Proof.Machine.execEnergySample w bus ibcs xs s
  | .energyIntegrate w => Sys2Proof.Machine.execEnergyIntegrate w s
  | .droopGuardSample w q volt => Sys2Proof.Machine.execDroopGuardSample w q volt s
  | .droopGuardRelease w q => Sys2Proof.Machine.execDroopGuardRelease w q s
  | .currentGuardSample w q cur => Sys2Proof.Machine.execCurrentGuardSample w q cur s
  | .currentGuardRelease w q => Sys2Proof.Machine.execCurrentGuardRelease w q s
  | .telSnapshot w p => Sys2Proof.Machine.execTelSnapshot w p s
  | .barrierBalance dest sources => Sys2Proof.Machine.execBarrierBalance dest sources s
  | .bbuPresenceLoss h b => Sys2Proof.Machine.execBbuPresenceLoss h b s
  | .bbuInsertion h b serial => Sys2Proof.Machine.execBbuInsertion h b serial s
  | .bbuPrecheckDone h pass m => Sys2Proof.Machine.execBbuPrecheckDone h pass m s
  | .cellFault h b => Sys2Proof.Machine.execCellFault h b s
  | .bbuFull h b cap => Sys2Proof.Machine.execBbuFull h b cap s
  | .chargeHeadroom h load => Sys2Proof.Machine.execChargeHeadroom h load s
  | .chargeInhibit h busV => Sys2Proof.Machine.execChargeInhibit h busV s
  | .shelfReport h => Sys2Proof.Machine.execShelfReport h s
  | .shelfReportPeriodic h out busV vll ms => Sys2Proof.Machine.execShelfReportPeriodic h out busV vll ms s
  | .planRaiseCheck => Sys2Proof.Machine.execPlanRaiseCheck s
  | .acLoss shelves => Sys2Proof.Machine.execAcLoss shelves s
  | .rideThroughGrace => Sys2Proof.Machine.execRideThroughGrace s
  | .bbuReserveLow load => Sys2Proof.Machine.execBbuReserveLow load s
  | .acReturn shelves => Sys2Proof.Machine.execAcReturn shelves s
  | .shelfStaticFallback h => Sys2Proof.Machine.execShelfStaticFallback h s
  | .busbarCollapse busV => Sys2Proof.Machine.execBusbarCollapse busV s
  | .cduFailover c => Sys2Proof.Machine.execCduFailover c s
  | .coolantReport cdus inlets => Sys2Proof.Machine.execCoolantReport cdus inlets s
  | .trayInletOvertemp w => Sys2Proof.Machine.execTrayInletOvertemp w s
  | .flowLoss => Sys2Proof.Machine.execFlowLoss s
  | .flowLossPowerOff => Sys2Proof.Machine.execFlowLossPowerOff s
  | .levelAlarm level => Sys2Proof.Machine.execLevelAlarm level s
  | .levelLowPowerOff level => Sys2Proof.Machine.execLevelLowPowerOff level s
  | .thermalSample w qs fs => Sys2Proof.Machine.execThermalSample w qs fs s
  | .parkHottestEval w f => Sys2Proof.Machine.execParkHottestEval w f s
  | .rotationDue w p => Sys2Proof.Machine.execRotationDue w p s
  | .ghostLightEnter w => Sys2Proof.Machine.execGhostLightEnter w s
  | .ghostWarmAdjust w => Sys2Proof.Machine.execGhostWarmAdjust w s
  | .ghostWarmRotate w => Sys2Proof.Machine.execGhostWarmRotate w s
  | .ghostWake w => Sys2Proof.Machine.execGhostWake w s
  | .ageSampleDue w m => Sys2Proof.Machine.execAgeSampleDue w m s
  | .ageSampleForced w m => Sys2Proof.Machine.execAgeSampleForced w m s
  | .ageSampleDone w m transit => Sys2Proof.Machine.execAgeSampleDone w m transit s
  | .ageSampleLate w q => Sys2Proof.Machine.execAgeSampleLate w q s
  | .ageHourlyFit w => Sys2Proof.Machine.execAgeHourlyFit w s
  | .perstAssert w => Sys2Proof.Machine.execPerstAssert w s
  | .perstRelease w => Sys2Proof.Machine.execPerstRelease w s
  | .hotReset w => Sys2Proof.Machine.execHotReset w s
  | .flr w => Sys2Proof.Machine.execFlr w s
  | .pcieLinkUp w speed width => Sys2Proof.Machine.execPcieLinkUp w speed width s
  | .pmcsrWrite w d3hot pmeEn clearPme => Sys2Proof.Machine.execPmcsrWrite w d3hot pmeEn clearPme s
  | .msixEnable w enable => Sys2Proof.Machine.execMsixEnable w enable s
  | .msixUnmask w func vector => Sys2Proof.Machine.execMsixUnmask w func vector s
  | .busMasterEnable w on => Sys2Proof.Machine.execBusMasterEnable w on s
  | .dmaTailWrite w c v => Sys2Proof.Machine.execDmaTailWrite w c v s
  | .dmaEnable w c ringLog2 => Sys2Proof.Machine.execDmaEnable w c ringLog2 s
  | .dmaDisable w c => Sys2Proof.Machine.execDmaDisable w c s
  | .dmaResume w c => Sys2Proof.Machine.execDmaResume w c s
  | .dmaCompletion w c x => Sys2Proof.Machine.execDmaCompletion w c x s
  | .dmaCompletionTimeout w c => Sys2Proof.Machine.execDmaCompletionTimeout w c s
  | .dmaDescDone w c => Sys2Proof.Machine.execDmaDescDone w c s
  | .l1Entry w => Sys2Proof.Machine.execL1Entry w s
  | .pmeTurnOff w => Sys2Proof.Machine.execPmeTurnOff w s
  | .pmeRepeat w => Sys2Proof.Machine.execPmeRepeat w s
  | .atnTest w groups => Sys2Proof.Machine.execAtnTest w groups s
  | .atnUnmask w m v => Sys2Proof.Machine.execAtnUnmask w m v s
  | .msixCoalesceExpiry w => Sys2Proof.Machine.execMsixCoalesceExpiry w s
  | .msixSpacing w => Sys2Proof.Machine.execMsixSpacing w s
  | .tmcCoalesceExpiry w => Sys2Proof.Machine.execTmcCoalesceExpiry w s
  | .tmcSeenClear w v => Sys2Proof.Machine.execTmcSeenClear w v s
  | .ptpSync r offset utc leaps => Sys2Proof.Machine.execPtpSync r offset utc leaps s
  | .ppsEdge r offset => Sys2Proof.Machine.execPpsEdge r offset s
  | .rmcReferenceLoss r => Sys2Proof.Machine.execRmcReferenceLoss r s
  | .rmcReferenceReturn r offset => Sys2Proof.Machine.execRmcReferenceReturn r offset s
  | .markerSend => Sys2Proof.Machine.execMarkerSend s
  | .todSend step => Sys2Proof.Machine.execTodSend step s
  | .fanoutSwitch => Sys2Proof.Machine.execFanoutSwitch s
  | .marker w => Sys2Proof.Machine.execMarker w s
  | .todFrame w bytes => Sys2Proof.Machine.execTodFrame w bytes s
  | .markerMissing w => Sys2Proof.Machine.execMarkerMissing w s
  | .holdoverBoundExceeded u => Sys2Proof.Machine.execHoldoverBoundExceeded u s
  | .tafReadRequest u sender bytes => Sys2Proof.Machine.execTafReadRequest u sender bytes s
  | .tafWriteRequest u sender bytes => Sys2Proof.Machine.execTafWriteRequest u sender bytes s
  | .tafResponse u bytes => Sys2Proof.Machine.execTafResponse u bytes s
  | .tafEvent t bytes => Sys2Proof.Machine.execTafEvent t bytes s
  | .tafRetry u number => Sys2Proof.Machine.execTafRetry u number s
  | .sidebandChange t port pair => Sys2Proof.Machine.execSidebandChange t port pair s
  | .attnNChange w => Sys2Proof.Machine.execAttnNChange w s
  | .presenceChange t pos present record => Sys2Proof.Machine.execPresenceChange t pos present record s
  | .tmcRestart t => Sys2Proof.Machine.execTmcRestart t s
  | .standbyRailUp t bus => Sys2Proof.Machine.execStandbyRailUp t bus s
  | .spotlightButton u => Sys2Proof.Machine.execSpotlightButton u s
  | .spotlightTimeout u => Sys2Proof.Machine.execSpotlightTimeout u s
  | .firmwareInstall part unit slot version digest => Sys2Proof.Machine.execFirmwareInstall part unit slot version digest s
  | .firmwareWriteDone part unit digest => Sys2Proof.Machine.execFirmwareWriteDone part unit digest s
  | .firmwareActivate part unit => Sys2Proof.Machine.execFirmwareActivate part unit s
  | .firmwareRollback part unit => Sys2Proof.Machine.execFirmwareRollback part unit s
  | .updateTaskTimeout task => Sys2Proof.Machine.execUpdateTaskTimeout task s
  | .capConsistencyCheck => Sys2Proof.Machine.execCapConsistencyCheck s
  | .b72ActStateSet c v => Sys2Proof.Machine.execB72ActStateSet c v s
  | .redfishGet r x => Sys2Proof.Machine.execRedfishGet r x s
  | .redfishPatch r x ifMatch ps => Sys2Proof.Machine.execRedfishPatch r x ifMatch ps s
  | .resetOn r t bus => Sys2Proof.Machine.execResetOn r t bus s
  | .resetForceOff r t => Sys2Proof.Machine.execResetForceOff r t s
  | .resetGracefulShutdown r t => Sys2Proof.Machine.execResetGracefulShutdown r t s
  | .resetPowerCycle r t => Sys2Proof.Machine.execResetPowerCycle r t s
  | .windowAccess r w off count data => Sys2Proof.Machine.execWindowAccess r w off count data s
  | .clearCellFault r h b => Sys2Proof.Machine.execClearCellFault r h b s
  | .setSeconds r seconds => Sys2Proof.Machine.execSetSeconds r seconds s
  | .failover r => Sys2Proof.Machine.execFailover r s
  | .simpleUpdate r part unit version digest immediate => Sys2Proof.Machine.execSimpleUpdate r part unit version digest immediate s
  | .multipartUpdate r part unit version digest immediate => Sys2Proof.Machine.execMultipartUpdate r part unit version digest immediate s
  | .eventSubscribe r dest => Sys2Proof.Machine.execEventSubscribe r dest s
  | .eventUnsubscribe r number => Sys2Proof.Machine.execEventUnsubscribe r number s
  | .twiWrite w cmd bytes pec wakeUs => Sys2Proof.Machine.execTwiWrite w cmd bytes pec wakeUs s
  | .twiRead w bytes wakeUs => Sys2Proof.Machine.execTwiRead w bytes wakeUs s
  | .twiAon w => Sys2Proof.Machine.execTwiAon w s
  | .twiStretchTimeout w => Sys2Proof.Machine.execTwiStretchTimeout w s
  | .twiTargetBusReset w => Sys2Proof.Machine.execTwiTargetBusReset w s
  | .smcSleep w => Sys2Proof.Machine.execSmcSleep w s
  | .twiGo w v => Sys2Proof.Machine.execTwiGo w v s
  | .twiCtrlDone w result nackAt data => Sys2Proof.Machine.execTwiCtrlDone w result nackAt data s
  | .twiArbLost w => Sys2Proof.Machine.execTwiArbLost w s
  | .twiBusRecovery w seg ok => Sys2Proof.Machine.execTwiBusRecovery w seg ok s
  | .jtagIdcode w => Sys2Proof.Machine.execJtagIdcode w s
  | .jtagBypass w ir => Sys2Proof.Machine.execJtagBypass w ir s
  | .jtagSamplePreload w pins cells => Sys2Proof.Machine.execJtagSamplePreload w pins cells s
  | .jtagExtest w => Sys2Proof.Machine.execJtagExtest w s
  | .dpstat w => Sys2Proof.Machine.execDpstat w s
  | .dpaccNop w early => Sys2Proof.Machine.execDpaccNop w early s
  | .dpaccRead w word early => Sys2Proof.Machine.execDpaccRead w word early s
  | .dpaccWrite w word v early => Sys2Proof.Machine.execDpaccWrite w word v early s
  | .trst w => Sys2Proof.Machine.execTrst w s
  | .debugAttach w path v => Sys2Proof.Machine.execDebugAttach w path v s
  | .debugDetach w path v => Sys2Proof.Machine.execDebugDetach w path v s
  | .debugPresenceLost w => Sys2Proof.Machine.execDebugPresenceLost w s
  | .dbgHalt w => Sys2Proof.Machine.execDbgHalt w s
  | .dbgResume w => Sys2Proof.Machine.execDbgResume w s
  | .dbgStep w => Sys2Proof.Machine.execDbgStep w s
  | .coreHalted w f u => Sys2Proof.Machine.execCoreHalted w f u s
  | .dbgRegWrite w v => Sys2Proof.Machine.execDbgRegWrite w v s
  | .dbgMemWrite w v => Sys2Proof.Machine.execDbgMemWrite w v s
  | .dbgMemRead w => Sys2Proof.Machine.execDbgMemRead w s
  | .trayInterlockOpen w => Sys2Proof.Machine.execTrayInterlockOpen w s
  | .keepaliveTimeout w => Sys2Proof.Machine.execKeepaliveTimeout w s
  | .rectifierModuleFault h m => Sys2Proof.Machine.execRectifierModuleFault h m s
  | .firmwareTrialEnd part unit pass => Sys2Proof.Machine.execFirmwareTrialEnd part unit pass s
  | .machineCueArmTimeout => Sys2Proof.Machine.execMachineCueArmTimeout s
  | .insulationFault => Sys2Proof.Machine.execInsulationFault s
  | .pcieLinkRecovery w e => Sys2Proof.Machine.execPcieLinkRecovery w e s

end Sys2Proof.Machine
end

