-- ==== Sys2Proof/Machine/Step.lean ====
section
/-!
DEFINITION. One step of the machine: the command at the front of the queue acts on the state with the rest of the queue. On an empty queue the machine idles,
and one nanosecond passes (DESIGN CHOICE, log entry 1).
-/
namespace Sys2Proof.Machine

/-- An idle step: nothing is commanded and time passes. -/
def State.idle (s : State) : State := s.withNow (s.now + 1)

/-- One step. -/
def step (s : State) : Host.Outcome State Fault Refusal :=
  match s.pending with
  | [] => .next s.idle
  | c :: rest => exec c (s.withPending rest)

/-- The state with the command that a word spells put at the front of its queue; unchanged where the word spells none. -/
def State.withFetchWord (s : State) (nbits w : Nat) : State :=
  match decodeTableWord nbits w with
  | none => s
  | some c => s.withPending (c :: s.pending)

end Sys2Proof.Machine
end

