-- ==== Sys2Proof/Safety.lean ====
section
/-!
DEFINITION. What the statements say of a whole state: the canonical form of everything that State holds as a sparse map, so that equal maps are
equal data, and the groups of registers that the statements name.
-/
namespace Sys2Proof.Machine

/-- The keys of a map rise strictly. -/
def mrises {α : Type} : List (Nat × α) → Nat → Bool
  | [], _ => true
  | (k, _) :: r, lo => decide (lo ≤ k) && mrises r (k + 1)

/-- Every map of the group is in its canonical form. -/
def WinState.canon (x : WinState) : Bool :=
  mwf ({} : Latch) x.latches &&
  mwf ({} : Journal) x.journals &&
  mwf ({} : Atn) x.atns &&
  mwf ({} : Hif) x.hifs &&
  mwf ({} : Chan) x.chans &&
  mwf ({} : Clock) x.clocks &&
  mwf ({} : Rmc) x.rmcs

/-- Every map of the group is in its canonical form. -/
def JobState.canon (x : JobState) : Bool :=
  mwf ({} : Core) x.cores &&
  mwf ({} : Part) x.parts &&
  mwf ([] : List (Nat × Nat)) x.results &&
  mwf ({} : SeSlot) x.seSlots &&
  mwf ({} : Sema) x.semas

/-- Every map of the group is in its canonical form. -/
def NetState.canon (x : NetState) : Bool :=
  mwf ({} : SendStream) x.sends &&
  mwf ({} : RecvStream) x.recvs &&
  mwf ({} : ReplayTable) x.replays &&
  mwf ({} : LinkEnd) x.links &&
  mwf ({} : OutArb) x.arbs &&
  mwf ({} : Inject) x.injects &&
  mwf (0 : Nat) x.fabricCredits &&
  mwf (0 : Nat) x.groupPtr

/-- Every map of the group is in its canonical form. -/
def CueState.canon (x : CueState) : Bool :=
  mwf ({} : LoftSt) x.lofts &&
  mwf ({} : Pch) x.pchs &&
  mwf ({} : Shadow) x.shadows &&
  mwf ({} : Load) x.loads &&
  mwf ({} : Push) x.pushes &&
  mwf ({} : CueSlot) x.slots &&
  mwf ({} : CueUnit) x.cueUnits

/-- Every map of the group is in its canonical form. -/
def PowState.canon (x : PowState) : Bool :=
  mwf ({} : ParkQ) x.parks &&
  mwf ({} : DomX) x.doms &&
  mwf ({} : Ledger) x.ledgers &&
  mwf ({} : Bup) x.bups &&
  mwf ({} : Meter) x.meters &&
  mwf ({} : AgeMon) x.ageMons &&
  mwf ({} : AgeQ) x.ageQs &&
  mwf ({} : ThermCh) x.thermChs &&
  mwf ([] : List Nat) x.warming

/-- Every map of the group is in its canonical form. -/
def RackState.canon (x : RackState) : Bool :=
  mwf ({} : Wafer) x.wafers &&
  mwf ({} : Tmc) x.tmcs &&
  mwf ({} : Act) x.acts &&
  mwf ({} : FwPart) x.fws &&
  mwf ({} : Spot) x.spots &&
  mwf ({} : Twi) x.twis &&
  mwf ([] : List (Nat × Nat × List Nat)) x.tafKept &&
  mwf (0 : Nat) x.etags &&
  mwf ({} : PlanW) x.plans &&
  mwf ({} : Shelf) x.shelves

/-- The lofts' memory lists its bytes in rising order and none that is 0, what an unlisted byte reads as (log entry 5). -/
def Memory.wf (m : List Host.Cell) : Bool := mwf (0 : Byte) m

/-- Every sparse map of the state is in its canonical form: the lofts' memory, the registers and the wings by key, the maps of every group; and no loft line is
poisoned twice. -/
def State.canon (s : State) : Bool :=
  Memory.wf s.loft && mrises s.regs 0 && mrises s.wings 0 && decide s.loftPoison.Nodup &&
  s.win.canon && s.job.canon && s.net.canon && s.cue.canon && s.pow.canon && s.rack.canon

/-! ## What the statements say of a command -/

/-- A command answers a next state, and `P` holds of it. -/
def Completes (c : Instr) (s : State) (P : State → Prop) : Prop := ∃ t, exec c s = .next t ∧ P t

/-- The wafer's leaf cause `l` is set (R597). -/
def State.leafSet (s : State) (w : Nat) (l : Leaf) : Bool := bitAt (s.reg ATN_CAUSE w l.g) l.b

/-- The registers that raising a leaf may write: those of the attention tree, and of MSI-X and wake in the host interface. -/
def attentionRegs : List Reg :=
  [ATN_CAUSE, ATN_AGAIN, ATN_TMC_SEEN, ATN_GTIME, ATN_SUPPRESSED, ATN_PSRC, ATN_FSRC, ATN_CUE_SRC, HIF_MSIX_STAT, HIF_MSIX_PBA, HIF_WAKE]

/-- Every copy of every register but those of the list reads in `t` as in `s`. -/
def SameRegs (but : List Reg) (s t : State) : Prop := ∀ (r : Reg) (w i : Nat), r.id < 320 → r.id ∉ but.map (·.id) → t.reg r w i = s.reg r w i

/-- No loft byte and no poisoned line differs. -/
def SameLofts (s t : State) : Prop := (∀ w f off, t.loftByte w f off = s.loftByte w f off) ∧ ∀ w f off, t.poisoned w f off = s.poisoned w f off

/-- A core issues its next instruction and no debugger stops it there (R97, R113, R710, R711, R713). -/
def State.issues (s : State) (w f u : Nat) : Bool :=
  let c := s.core w f u
  s.canIssue w f u && (s.breakAt w f u c.pc).isNone && decide (c.pc < 3072) && !c.istorePoison.contains c.pc && !c.stepping

/-- A core that has gone to its next instruction. -/
def Core.went (c : Core) : Core := { c with pc := c.pc + 1, skipBreak := false }

/-- The packets of a source partition that wait for injection at an NI (R153). -/
def State.niQueue (s : State) (w f spart : Nat) : List Packet := mget [] (s.getInjects (niKey w f)).queues spart

/-- A sound packet arrives at the NI it is addressed to, which refuses it for nothing: it comes from the NI's own field, or it is the next of its stream, with
nothing early waiting and its TACK not due yet (R148, R193-R195). -/
def State.inOrder (s : State) (w f : Nat) (p : Packet) : Bool :=
  let st := s.getRecvs (recvKey w f (niOf p.src) (p.tseq / 2 ^ 30) p.spart)
  p.hcrcOk && p.pcrcOk && niOf p.dest == w + f * 64 && (s.nackReason w f p).isNone && (p.typ != 13 || mgmtKindKnown (p.aux % 256)) && decide (p.typ < 14) &&
    (niOf p.src == w + f * 64 || (st.expect == p.tseq % 2 ^ 30 && st.early.isEmpty && decide (st.unacked < 7)))

/-! ## What the frames say -/

/-- The parts of State beside its registers: the lofts, the wings, and every map of its groups, by their names there. -/
inductive Piece where
  | loft | wings | latches | journals | atns | hifs | chans | clocks | rmcs | cores | parts | results | seSlots | semas | sends | recvs | replays
  | links | arbs | injects | fabricCredits | groupPtr | lofts | pchs | shadows | loads | pushes | slots | cueUnits | parks | doms | ledgers | bups
  | meters | ageMons | ageQs | thermChs | warming | wafers | tmcs | acts | fws | spots | twis | tafKept | etags | plans | shelves | planner
deriving DecidableEq, Repr

/-- A part of State is the same in two states. -/
def Piece.same : Piece → State → State → Prop
  | .loft, s, t => SameLofts s t
  | .wings, s, t => t.wings = s.wings
  | .latches, s, t => t.win.latches = s.win.latches
  | .journals, s, t => t.win.journals = s.win.journals
  | .atns, s, t => t.win.atns = s.win.atns
  | .hifs, s, t => t.win.hifs = s.win.hifs
  | .chans, s, t => t.win.chans = s.win.chans
  | .clocks, s, t => t.win.clocks = s.win.clocks
  | .rmcs, s, t => t.win.rmcs = s.win.rmcs
  | .cores, s, t => t.job.cores = s.job.cores
  | .parts, s, t => t.job.parts = s.job.parts
  | .results, s, t => t.job.results = s.job.results
  | .seSlots, s, t => t.job.seSlots = s.job.seSlots
  | .semas, s, t => t.job.semas = s.job.semas
  | .sends, s, t => t.net.sends = s.net.sends
  | .recvs, s, t => t.net.recvs = s.net.recvs
  | .replays, s, t => t.net.replays = s.net.replays
  | .links, s, t => t.net.links = s.net.links
  | .arbs, s, t => t.net.arbs = s.net.arbs
  | .injects, s, t => t.net.injects = s.net.injects
  | .fabricCredits, s, t => t.net.fabricCredits = s.net.fabricCredits
  | .groupPtr, s, t => t.net.groupPtr = s.net.groupPtr
  | .lofts, s, t => t.cue.lofts = s.cue.lofts
  | .pchs, s, t => t.cue.pchs = s.cue.pchs
  | .shadows, s, t => t.cue.shadows = s.cue.shadows
  | .loads, s, t => t.cue.loads = s.cue.loads
  | .pushes, s, t => t.cue.pushes = s.cue.pushes
  | .slots, s, t => t.cue.slots = s.cue.slots
  | .cueUnits, s, t => t.cue.cueUnits = s.cue.cueUnits
  | .parks, s, t => t.pow.parks = s.pow.parks
  | .doms, s, t => t.pow.doms = s.pow.doms
  | .ledgers, s, t => t.pow.ledgers = s.pow.ledgers
  | .bups, s, t => t.pow.bups = s.pow.bups
  | .meters, s, t => t.pow.meters = s.pow.meters
  | .ageMons, s, t => t.pow.ageMons = s.pow.ageMons
  | .ageQs, s, t => t.pow.ageQs = s.pow.ageQs
  | .thermChs, s, t => t.pow.thermChs = s.pow.thermChs
  | .warming, s, t => t.pow.warming = s.pow.warming
  | .wafers, s, t => t.rack.wafers = s.rack.wafers
  | .tmcs, s, t => t.rack.tmcs = s.rack.tmcs
  | .acts, s, t => t.rack.acts = s.rack.acts
  | .fws, s, t => t.rack.fws = s.rack.fws
  | .spots, s, t => t.rack.spots = s.rack.spots
  | .twis, s, t => t.rack.twis = s.rack.twis
  | .tafKept, s, t => t.rack.tafKept = s.rack.tafKept
  | .etags, s, t => t.rack.etags = s.rack.etags
  | .plans, s, t => t.rack.plans = s.rack.plans
  | .shelves, s, t => t.rack.shelves = s.rack.shelves
  | .planner, s, t => t.rack.planner = s.rack.planner

/-- A command changes no part of State but those of the list, neither the queue nor the time. -/
def TouchesParts (ps : List Piece) (s t : State) : Prop := t.pending = s.pending ∧ t.now = s.now ∧ ∀ p, p ∉ ps → p.same s t

/-- A command changes no register and no part of State but those of the lists. -/
def Touches (regs : List Reg) (ps : List Piece) (s t : State) : Prop := TouchesParts ps s t ∧ SameRegs regs s t

/-- The registers that an instruction of a core may change, itself or through a fault of its command. -/
def coreRegs : List Reg :=
  [BUP_CORECOUNT, BUP_HOLEMAP, BUP_LDG_EPOCH, BUP_LDG_STAT, BUP_LOFT_DEAD_HI, BUP_LOFT_DEAD_LO, BUP_NEW, BUP_RETIRED_HI, BUP_RETIRED_LO, BUP_STAT, BUP_USABLE,
   CORE_CB_PEAK, CORE_ECC_CORR, CORE_FAULT, CORE_STAT, CORE_TOKENS, CQ_CTAIL, CQ_HWM, CUE_SSTAT, DBG_CORE_STAT, DBG_FHALT, DBG_HALT_CAP, DBG_PART_STAT,
   DBG_STAT, ID_JRNL_NEXT, ID_JRNL_OLDEST, ID_JRNL_STAT, IMG_ELAPSED, IMG_STAT, LOFT_EVENTS, LOFT_STAT, LOFT_WR_BYTES, NET_ACT_STAT, PRT_DONE_CMDS, PRT_STAT,
   PWR_DOM_STAT, PWR_PARK, PWR_PARK_TOTAL, PWR_SEQ_STAT, SEM_STAT, SPAD_CE, SPAD_EVENTS, SPAD_UE, SPAD_UE_CAP, TEL_CORE_WAIT, TEL_REASON_GTIME, TEL_REASON_TIME]

/-- The registers that a command to a job, or the end of one, may change. -/
def jobRegs : List Reg :=
  [AGE_LIFE, AGE_MON, AGE_STAT, B72_ACT_STAT, B72_PORT, BBU_ENERGY, BBU_FLOW, BBU_STAT, BUP_CORECOUNT, BUP_ELAPSED, BUP_HOLEMAP, BUP_LDG_EPOCH, BUP_LDG_STAT,
   BUP_LOFT_DEAD_HI, BUP_LOFT_DEAD_LO, BUP_NEW, BUP_RETEST_STAT, BUP_RETIRED_HI, BUP_RETIRED_LO, BUP_SKIP, BUP_STAT, BUP_USABLE, CORE_CB_PEAK, CORE_ECC_CORR,
   CORE_FAULT, CORE_STAT, CORE_TOKENS, CQ_CHEAD, CQ_CTAIL, CQ_DUP, CQ_HEAD, CQ_HWM, CQ_STALE, CQ_TAIL, CUE_CTRL, CUE_DUP, CUE_MID, CUE_SFAIL, CUE_SJSEQ,
   CUE_SOBJ, CUE_SSTAT, CUE_STIME, CUE_SUS, CUE_TIME, DBG_BP, DBG_CORE_STAT, DBG_CTL, DBG_FHALT, DBG_HALT_CAP, DBG_PART_STAT, DBG_STAT, DBG_WP_CFG,
   HIF_APT_CAP, HIF_DMA_BASE, HIF_DMA_BYTES, HIF_DMA_CFG, HIF_DMA_HEAD, HIF_DMA_STAT, HIF_DMA_TAIL, HIF_LINK, HIF_LINK_EVENTS, HIF_MSIX_ADDR, HIF_MSIX_DATA,
   HIF_MSIX_VCTL, ID_JRNL_NEXT, ID_JRNL_OLDEST, ID_JRNL_STAT, IMG_DIGEST, IMG_ELAPSED, IMG_FAIL_OFF, IMG_OBJECTS, IMG_PUSH_FAILED, IMG_PUSH_STAT, IMG_STAT,
   IMG_TAG, LNK_STAT, LOFT_CE, LOFT_EVENTS, LOFT_RD_BYTES, LOFT_SCRUB, LOFT_STAT, LOFT_UE, LOFT_UE_CAP, LOFT_WR_BYTES, NET_ACT_FREE_TIME, NET_ACT_STAT,
   NET_DROP_WAFER, PMT_DON, PMT_DONATIONS, PMT_DON_CUTS, PMT_LAST_SURR, PMT_LAST_US, PMT_REFUSED, PMT_SAVE_FIELD, PMT_STAT, PRT_DONE_CMDS, PRT_FAULT, PRT_STAT,
   PWR_CAP, PWR_CAP_EFF, PWR_DOM_REFUSED, PWR_DOM_STAT, PWR_OPP_STAT, PWR_PARK, PWR_PARK_TOTAL, PWR_QTRIM, PWR_SEQ_STAT, SEM_STAT, SEM_TABLE, SEM_VAL, SE_DONE,
   SE_STAT, SHF_AC, SHF_ALLOT, SHF_CHG, SHF_EVENTS, SHF_OUT, SHF_STAT, SPAD_CE, SPAD_EVENTS, SPAD_UE, SPAD_UE_CAP, SPN_DROP, SPN_DROP_CAP, SPN_STAT, TB_STAT,
   TEL_BAR_CMDS, TEL_BAR_LAST, TEL_BAR_WAIT, TEL_CORE_WAIT, TEL_OPS, TEL_REASON_GTIME, TEL_REASON_TIME, TEL_SLOTS, THM_GHOST_STAT, THM_ROT_STAT, TMC_REQ,
   TRN_FAIL, TRN_RETX]

end Sys2Proof.Machine
end

