-- ==== Sys2Proof/WellFormed.lean ====
section
/-!
DEFINITION. Which terms of `Instr` are commands: the ranges that the specification gives the operands and that their types do not already hold. The outside
sends well-formed commands only; a meaning is nevertheless total on every term.
-/
namespace Sys2Proof

/-- The header fields of a packet fit their widths and its payload is at most 512 bytes (R144, R145). -/
def Packet.ok (p : Packet) : Bool :=
  decide (p.act < 2) && decide (p.cls < 4) && decide (p.level < 2) && decide (p.dline < 2) && decide (p.typ < 16) && decide (p.rsvd < 4096) &&
  decide (p.dest < 2 ^ 23) && decide (p.src < 2 ^ 23) && decide (p.spart < 512) && decide (p.tseq < 2 ^ 32) && decide (p.addr < 2 ^ 40) &&
  decide (p.rid < 2 ^ 16) && decide (p.aux < 2 ^ 16) && decide (p.pcrc < 2 ^ 32) && decide (p.hcrc < 2 ^ 16) &&
  decide (p.payload.length ≤ 512) && p.payload.all (fun b => decide (b < 256))

/-- A change of the act names a unit of the machine (R12, R15, R17). -/
def ActChange.ok (c : ActChange) : Bool :=
  match c with
  | .dropWafer w => decide (w < 36)
  | .dropPlane p => decide (p < 16)
  | .dropSpine w f => decide (w < 36) && decide (f < 72)
  | .addWafer w => decide (w < 36)
  | .addPlane p => decide (p < 16)
  | .addSpine w f => decide (w < 36) && decide (f < 72)
  | .routes w => decide (w < 36)

/-- How many entries each kind of route table has (R217). -/
def routeSize (kind : Nat) : Nat :=
  match kind with
  | 0 => 144 | 1 => 84 | 2 => 16 | 3 => 2560 | 4 => 20 | 5 => 36 | 6 => 5184
  | _ => 0

/-- A route entry lies in its table (R217). -/
def RouteEntry.ok (e : RouteEntry) : Bool := decide (e.index.toNat < routeSize e.kind.val)

/-- A finding is of one of the kinds of R317. -/
def TestFinding.ok (f : TestFinding) : Bool := decide (1 ≤ f.kind.toNat) && decide (f.kind.toNat ≤ 19)

/-- A descriptor's fields fit the 32 bytes it is read from (R579); completion data is at most what one read request asks for. -/
def DmaArrival.ok (x : DmaArrival) : Bool :=
  match x with
  | .desc d => decide (d.haddr < 2 ^ 64) && decide (d.laddr < 2 ^ 47) && decide (d.len < 2 ^ 32) && decide (d.cookie < 2 ^ 32)
  | .data bytes => decide (1 ≤ bytes.length)
  | .error => true

/-- How many words one access of a path moves: up to 1,024 on PCIe, 1 to 8 on TWI, 1 at the prompter port (R50, R684, R706). -/
def pathOk (path : PathId) (n : Nat) : Bool :=
  decide (1 ≤ n) && decide (n ≤ [1024, 8, 1].getD path.val 1)

/-- A run of words lies in the 16 MiB of the window (R40). -/
def runOk (word : BitVec 22) (n : Nat) : Bool := decide (word.toNat + n ≤ 2 ^ 22)

/-- A memory request of 1 to 4,096 bytes inside the aperture (R23, R354). -/
def apertureOk (off : BitVec 36) (n : Nat) : Bool := decide (1 ≤ n) && decide (n ≤ 4096) && decide (off.toNat + n ≤ 2 ^ 36)

/-- A tray access frame fits an Ethernet payload (R643). -/
def frameOk (bytes : List Byte) : Bool := decide (bytes.length ≤ 1500)

/-- The well-formed commands. -/
def Instr.wf (i : Instr) : Bool :=
  match i with
  | .waferLoss _ => true
  | .linkLossOfSignal _ => true
  | .rmcDeclareWaferLost _ => true
  | .rmcHeartbeat _ _ => true
  | .rmcTakeover => true
  | .tmcKeepaliveTick _ _ _ => true
  | .keepaliveCommit _ _ => true
  | .rmcsAbsent _ => true
  | .registerWrite _ path word ds => pathOk path ds.length && runOk word ds.length && ds.all (fun d => d.1 != 0)
  | .rcRead _ path word bes => pathOk path bes.length && runOk word bes.length && bes.all (fun b => b != 0)
  | .wingsCopyDone _ _ => true
  | .journalSpill _ => true
  | .journalFetch _ _ => true
  | .journalFetchDone _ => true
  | .supplySettled _ => true
  | .droopGateEngage _ _ => true
  | .droopGateRelease _ _ => true
  | .undervolt _ _ _ => true
  | .gateTimeout _ _ _ => true
  | .intArithmetic _ _ _ _ _ _ _ => true
  | .logic _ _ _ _ _ _ _ => true
  | .compare _ _ _ _ _ _ _ => true
  | .branch _ _ _ _ _ => true
  | .time _ _ _ _ => true
  | .tokens _ _ _ _ => true
  | .flags _ _ _ _ => true
  | .wait _ _ _ _ _ => true
  | .mma _ _ _ _ _ _ _ _ => true
  | .cvt _ _ _ _ _ _ _ _ => true
  | .vecAdd _ _ _ _ _ _ _ => true
  | .vecSub _ _ _ _ _ _ _ => true
  | .vecMul _ _ _ _ _ _ _ => true
  | .vecFma _ _ _ _ _ _ _ _ => true
  | .vecMin _ _ _ _ _ _ _ => true
  | .vecMax _ _ _ _ _ _ _ => true
  | .vecCompare _ _ _ _ _ _ _ => true
  | .vecExp2 _ _ _ _ _ _ => true
  | .vecRecip _ _ _ _ _ _ => true
  | .vecRsqrt _ _ _ _ _ _ => true
  | .vecReduce _ _ _ _ _ _ => true
  | .ld _ _ _ _ _ _ => true
  | .st _ _ _ _ _ _ => true
  | .tld _ _ _ _ _ _ => true
  | .tst _ _ _ _ _ _ => true
  | .lget _ _ _ _ _ _ _ => true
  | .send _ _ _ _ _ _ _ => true
  | .fetch _ _ _ _ _ _ _ => true
  | .signal _ _ _ _ _ => true
  | .push _ _ _ _ _ _ => true
  | .pop _ _ _ => true
  | .steal _ _ _ => true
  | .stealRetry _ _ _ => true
  | .lput _ _ _ _ _ _ _ => true
  | .xput _ _ _ _ _ _ _ => true
  | .atomAdd _ _ _ _ _ _ _ => true
  | .atomMin _ _ _ _ _ _ _ => true
  | .atomMax _ _ _ _ _ _ _ => true
  | .atomOr _ _ _ _ _ _ _ => true
  | .atomSwap _ _ _ _ _ _ _ => true
  | .semaTake _ _ _ _ => true
  | .semaGive _ _ _ _ => true
  | .spadScrubLine _ _ _ _ _ => true
  | .routerForward _ _ _ _ p _ => p.ok
  | .outputArbitration _ _ _ _ => true
  | .creditReturn _ _ _ _ _ => true
  | .injectionArbitration _ _ => true
  | .sendDelivery _ _ p => p.ok
  | .fetchReq _ _ p _ => p.ok
  | .fetchData _ _ p => p.ok
  | .signalDelivery _ _ p => p.ok
  | .lgetReq _ _ p _ => p.ok
  | .lgetData _ _ p => p.ok
  | .lputPacket _ _ p _ => p.ok
  | .xputPacket _ _ p => p.ok
  | .atomPacket _ _ p _ => p.ok
  | .stealReq _ _ p => p.ok
  | .stealAns _ _ p => p.ok
  | .tack _ _ p => p.ok
  | .nack _ _ p => p.ok
  | .mgmtRead _ _ p => p.ok
  | .mgmtWrite _ _ p => p.ok
  | .mgmtReadData _ _ p => p.ok
  | .mgmtWriteDone _ _ p => p.ok
  | .mgmtAccError _ _ p => p.ok
  | .mgmtTake _ _ _ _ => true
  | .mgmtGrant _ _ _ _ _ => true
  | .mgmtGive _ _ => true
  | .mgmtConsume _ _ _ _ => true
  | .mgmtReturn _ _ _ _ => true
  | .cmdFwd _ _ _ bytes => decide (64 ≤ bytes.length) && decide (bytes.length ≤ 64 + 4096)
  | .idleReport _ _ _ _ _ => true
  | .cmdEnd _ _ _ _ _ => true
  | .pmtFwd _ _ _ => true
  | .batchFwd _ _ _ _ => true
  | .doneBits _ _ _ _ _ => true
  | .faultFwd _ _ _ => true
  | .linkBlockTx _ flits => decide (flits.length ≤ 16)
  | .linkBlockRx _ bytes => bytes.length == 544
  | .ackDeadline _ => true
  | .linkFaultReplayLimit _ => true
  | .linkFaultAckTimeout _ => true
  | .identityBlock _ _ => true
  | .linkTrained _ => true
  | .portAdminDown _ _ _ => true
  | .laneSymbolLoss _ _ => true
  | .laneBerCheck _ => true
  | .degradeRelock _ => true
  | .b72Forward _ _ p => p.ok
  | .retransmitTimeout _ _ _ _ _ _ => true
  | .tackTimer _ _ _ _ _ => true
  | .recalTrigger _ _ => true
  | .recalIdleSlot _ => true
  | .recalForced _ => true
  | .routeTableWrite _ _ => true
  | .actChangeRequest c => c.ok
  | .actBuild es => es.all RouteEntry.ok
  | .actCue _ _ => true
  | .elementQuiet _ => true
  | .actFree => true
  | .drainDeadline => true
  | .unitPlannedReset _ => true
  | .b72Loss _ => true
  | .spineLoss _ _ => true
  | .unitAdmit c => c.ok
  | .imageLoadStart _ _ => true
  | .imageLoadAbort _ => true
  | .imageCheckDone _ _ => true
  | .imageExpansionDone _ _ => true
  | .actsHandoverAck _ => true
  | .actsAckTimeout _ => true
  | .pushStart _ _ => true
  | .pushAbort _ => true
  | .pushDone _ => true
  | .cueStart _ _ _ => true
  | .cueDisarm _ _ _ => true
  | .rehearsalDone _ _ => true
  | .rehearsalTimeout _ _ => true
  | .cueApply _ _ => true
  | .schedCueValue _ _ => true
  | .machineCueStart _ _ _ => true
  | .machineCueCheck => true
  | .goFrame _ bytes => bytes.length == 16
  | .coldStart _ _ => true
  | .warmStart _ => true
  | .bringupPhase0 _ _ _ => true
  | .hostStartTestTimeout _ => true
  | .bringupPhase1 _ _ => true
  | .ppsLockTimeout _ => true
  | .bringupPhase2 _ _ => true
  | .bringupPhase3 _ _ => true
  | .portTrainTimeout _ _ => true
  | .bringupPhase4 _ _ _ _ => true
  | .bringupDone _ findings => findings.all TestFinding.ok
  | .phaseSlow _ => true
  | .ledgerFetch _ _ => true
  | .ledgerFetchDone _ => true
  | .fdrStart _ _ => true
  | .fdrAbort _ => true
  | .fdrCommit _ findings => findings.all TestFinding.ok
  | .fieldRetestStart _ _ => true
  | .fieldRetestDone _ findings _ _ => findings.all TestFinding.ok
  | .pchArbitration _ _ _ _ => true
  | .loftScrubRead _ _ _ _ => true
  | .scrubForcedSlot _ _ _ _ => true
  | .scrubLate _ _ _ => true
  | .rowSpareCopy _ _ _ _ => true
  | .rowSpareForced _ _ _ _ => true
  | .quarterZeroed _ _ => true
  | .apertureRead _ off n _ => apertureOk off n.toNat
  | .apertureWrite _ off bs _ => apertureOk off bs.length
  | .doorbell _ _ _ _ => true
  | .commandTake _ _ _ => true
  | .commitInstant _ _ _ => true
  | .commandComplete _ _ => true
  | .slotJoin _ _ => true
  | .slotLeave _ _ => true
  | .stepBoundary _ _ => true
  | .semaDecision _ _ => true
  | .semaTenureEnd _ _ => true
  | .curtain _ _ => true
  | .curtainDone _ _ => true
  | .resetSeq _ => true
  | .preempt _ _ => true
  | .resume _ _ => true
  | .cutSurrenderTimeout _ _ => true
  | .cutComplete _ _ => true
  | .holdHaltDone _ _ => true
  | .holdSurrenderTimeout _ _ => true
  | .holdSaveDone _ _ => true
  | .restoreDone _ _ _ => true
  | .donationBound _ _ => true
  | .domainOnRequest _ _ => true
  | .domainOffRequest _ _ => true
  | .domainResetRequest _ _ => true
  | .rampDone _ _ => true
  | .isolDone _ _ => true
  | .drainDone _ _ => true
  | .offDwellDone _ _ => true
  | .noPowerGood _ _ _ => true
  | .overcurrent _ _ _ => true
  | .regFail _ _ _ => true
  | .supplyFaultRetry _ _ => true
  | .parkDone _ _ _ => true
  | .unparkDone _ _ _ => true
  | .gateWaitClear _ _ => true
  | .busUndervolt _ _ => true
  | .ibcFault _ _ => true
  | .trayPowerOff _ => true
  | .capWrite _ _ _ => true
  | .capLoopPeriod _ => true
  | .envelopeStep _ => true
  | .energySample _ _ ibcs _ => ibcs.length == 4
  | .energyIntegrate _ => true
  | .droopGuardSample _ _ _ => true
  | .droopGuardRelease _ _ => true
  | .currentGuardSample _ _ _ => true
  | .currentGuardRelease _ _ => true
  | .telSnapshot _ _ => true
  | .barrierBalance _ _ => true
  | .bbuPresenceLoss _ _ => true
  | .bbuInsertion _ _ _ => true
  | .bbuPrecheckDone _ _ _ => true
  | .cellFault _ _ => true
  | .bbuFull _ _ _ => true
  | .chargeHeadroom _ _ => true
  | .chargeInhibit _ _ => true
  | .shelfReport _ => true
  | .shelfReportPeriodic _ _ _ _ _ => true
  | .planRaiseCheck => true
  | .acLoss _ => true
  | .rideThroughGrace => true
  | .bbuReserveLow _ => true
  | .acReturn _ => true
  | .shelfStaticFallback _ => true
  | .busbarCollapse _ => true
  | .cduFailover _ => true
  | .coolantReport _ _ => true
  | .trayInletOvertemp _ => true
  | .flowLoss => true
  | .flowLossPowerOff => true
  | .levelAlarm _ => true
  | .levelLowPowerOff _ => true
  | .thermalSample _ _ _ => true
  | .parkHottestEval _ _ => true
  | .rotationDue _ _ => true
  | .ghostLightEnter _ => true
  | .ghostWarmAdjust _ => true
  | .ghostWarmRotate _ => true
  | .ghostWake _ => true
  | .ageSampleDue _ _ => true
  | .ageSampleForced _ _ => true
  | .ageSampleDone _ _ _ => true
  | .ageSampleLate _ _ => true
  | .ageHourlyFit _ => true
  | .perstAssert _ => true
  | .perstRelease _ => true
  | .hotReset _ => true
  | .flr _ => true
  | .pcieLinkUp _ _ _ => true
  | .pmcsrWrite _ _ _ _ => true
  | .msixEnable _ _ => true
  | .msixUnmask _ _ _ => true
  | .busMasterEnable _ _ => true
  | .dmaTailWrite _ _ _ => true
  | .dmaEnable _ _ _ => true
  | .dmaDisable _ _ => true
  | .dmaResume _ _ => true
  | .dmaCompletion _ _ x => x.ok
  | .dmaCompletionTimeout _ _ => true
  | .dmaDescDone _ _ => true
  | .l1Entry _ => true
  | .pmeTurnOff _ => true
  | .pmeRepeat _ => true
  | .atnTest _ _ => true
  | .atnUnmask _ _ _ => true
  | .msixCoalesceExpiry _ => true
  | .msixSpacing _ => true
  | .tmcCoalesceExpiry _ => true
  | .tmcSeenClear _ _ => true
  | .ptpSync _ _ _ _ => true
  | .ppsEdge _ _ => true
  | .rmcReferenceLoss _ => true
  | .rmcReferenceReturn _ _ => true
  | .markerSend => true
  | .todSend _ => true
  | .fanoutSwitch => true
  | .marker _ => true
  | .todFrame _ bytes => bytes.length == 17
  | .markerMissing _ => true
  | .holdoverBoundExceeded _ => true
  | .tafReadRequest _ _ bytes => frameOk bytes
  | .tafWriteRequest _ _ bytes => frameOk bytes
  | .tafResponse _ bytes => frameOk bytes
  | .tafEvent _ bytes => frameOk bytes
  | .tafRetry _ _ => true
  | .sidebandChange _ _ _ => true
  | .attnNChange _ => true
  | .presenceChange _ _ _ record => record.isEmpty || record.length == 256
  | .tmcRestart _ => true
  | .standbyRailUp _ _ => true
  | .spotlightButton _ => true
  | .spotlightTimeout _ => true
  | .firmwareInstall _ _ _ _ digest => digest.length == 32
  | .firmwareWriteDone _ _ digest => digest.length == 32
  | .firmwareActivate _ _ => true
  | .firmwareRollback _ _ => true
  | .updateTaskTimeout _ => true
  | .capConsistencyCheck => true
  | .b72ActStateSet _ _ => true
  | .redfishGet _ _ => true
  | .redfishPatch _ _ _ _ => true
  | .resetOn _ _ _ => true
  | .resetForceOff _ _ => true
  | .resetGracefulShutdown _ _ => true
  | .resetPowerCycle _ _ => true
  | .windowAccess _ _ _ count data => decide (1 ≤ count.toNat) && decide (count.toNat ≤ 256) && decide (data.length ≤ 256)
  | .clearCellFault _ _ _ => true
  | .setSeconds _ _ => true
  | .failover _ => true
  | .simpleUpdate _ _ _ _ digest _ => digest.length == 32
  | .multipartUpdate _ _ _ _ digest _ => digest.length == 32
  | .eventSubscribe _ _ => true
  | .eventUnsubscribe _ _ => true
  | .twiWrite _ _ bytes _ wakeUs => decide (bytes.length ≤ 256) && decide (wakeUs.toNat ≤ 60)
  | .twiRead _ bytes wakeUs => decide (bytes.length ≤ 257) && decide (wakeUs.toNat ≤ 60)
  | .twiAon _ => true
  | .twiStretchTimeout _ => true
  | .twiTargetBusReset _ => true
  | .smcSleep _ => true
  | .twiGo _ _ => true
  | .twiCtrlDone _ _ _ data => decide (data.length ≤ 32)
  | .twiArbLost _ => true
  | .twiBusRecovery _ _ _ => true
  | .jtagIdcode _ => true
  | .jtagBypass _ _ => true
  | .jtagSamplePreload _ _ _ => true
  | .jtagExtest _ => true
  | .dpstat _ => true
  | .dpaccNop _ _ => true
  | .dpaccRead _ _ _ => true
  | .dpaccWrite _ _ _ _ => true
  | .trst _ => true
  | .debugAttach _ _ _ => true
  | .debugDetach _ _ _ => true
  | .debugPresenceLost _ => true
  | .dbgHalt _ => true
  | .dbgResume _ => true
  | .dbgStep _ => true
  | .coreHalted _ _ _ => true
  | .dbgRegWrite _ _ => true
  | .dbgMemWrite _ _ => true
  | .dbgMemRead _ => true
  | .trayInterlockOpen _ => true
  | .keepaliveTimeout _ => true
  | .rectifierModuleFault _ _ => true
  | .firmwareTrialEnd _ _ _ => true
  | .machineCueArmTimeout => true
  | .insulationFault => true
  | .pcieLinkRecovery _ _ => true

end Sys2Proof
end

