-- ==== Sys2Proof/Certificates/Slice0/Obligations.lean ====
section
/-!
DEFINITION. The statements about the machine, for the provers.
-/
open Sys2Proof Sys2Proof.Machine

/-- A step with a command at the front of the queue is that command carried out on the state with the rest of the queue. (01_machine.md, 02_window.md,
25_sequences.md.) -/
def Obligations.StepRunsTheFrontCommand : Prop :=
  ∀ (c : Instr) (rest : List Instr) (s : State), s.pending = c :: rest → step s = exec c (s.withPending rest)

/-- On an empty queue a step answers a next state in which one nanosecond has passed and nothing else is changed (the tick is a choice of the model, log entry
1). (R619.) -/
def Obligations.IdleStepPassesTime : Prop :=
  ∀ s : State, s.pending = [] → step s = .next (s.withNow (s.now + 1))

/-- Every sparse map of the state after reset is in its canonical form. (01_machine.md, R339.) -/
def Obligations.ResetIsCanonical : Prop :=
  State.reset.canon = true

/-- Whatever the command, and on an idle step, a step from a state whose loft memory, registers, wings and records are all in canonical form leads to such a
state, so that equal machines are equal data. (01_machine.md, R347, R48.) -/
def Obligations.StepKeepsCanonical : Prop :=
  ∀ s t : State, s.canon = true → step s = .next t → t.canon = true

/-- Every command, on every state and with every operand, answers a next state; it leaves the queue and the time alone, and what the machine has sent before it
stays sent. (25_sequences.md, 95_what_each_step_holds.md.) -/
def Obligations.EveryCommandAnswers : Prop :=
  ∀ (c : Instr) (s : State), Completes c s fun t => t.pending = s.pending ∧ t.now = s.now ∧ s.out <:+ t.out

/-- As many steps as the queue holds commands carry them out in their order, and leave an empty queue. (25_sequences.md, 01_machine.md.) -/
def Obligations.QueueDrainsInOrder : Prop :=
  ∀ s : State, ∃ t : State, Host.Core.run Sys2Proof.core s.pending.length s = .next t ∧ t.pending = [] ∧ t.now = s.now ∧ s.out <:+ t.out

/-- After reset no command waits, nothing has been sent and every byte of every loft reads 0; every domain of every wafer is OFF and no wafer is powered; the
registers named hold the values that the spec gives them. (R48, 14_power_domains.md, 15_capping_and_accounting.md, 17_immersion_thermal_ageing.md,
20_timebase.md, 12_partitions_and_serving.md, 03_handshake_timing.md.) -/
def Obligations.ResetValues : Prop :=
  let s := State.reset
  s.pending = [] ∧ s.out = [] ∧ (∀ w f off, s.loftByte w f off = 0 ∧ s.poisoned w f off = false) ∧ (∀ w d : Nat, s.domState w d = 0) ∧ (∀ w : Nat, (s.getWafers w).powered = false) ∧
  (∀ w : WaferId, s.rd PWR_CAP_CAP_W w 0 = 19000 ∧ s.rd PWR_CAP_EFF_EFF_W w 0 = 19000 ∧ s.rd TB_STAT_QUALITY w 0 = 2 ∧ s.rd THM_LIMITS_HOT_C w 0 = 80 ∧ s.rd THM_GHOST_ENABLE w 0 = 1 ∧
    s.rd AGE_CFG_EOL_PPM w 0 = 60000 ∧ s.rd TWI_CTRL_CFG_RETRY w 0 = 3 ∧ (∀ p : PartId, s.rd PRT_PRIO_PRIO w p = 8 ∧ s.partState w p = 0) ∧
    ∀ q : QuadId, s.rd AGE_LIFE_EST w q = 0xFFFF)

/-- A word written to a register replaces its RW bits, clears and sets by ones and replaces the wings of its ST bits; a word read answers the live value, or
the wings for ST bits under WINGS_VIEW, and clears RC bits; an access whose server is not ON, one to no register, a partial write and a write to a locked
ST register are discarded, captured and raised. The oldest entry of the ring that is not in flash is copied there; the commit of ID_JRNL_SEL starts a
fetch, which ends the one before it and holds the entry; the fetch ends with the entry's sixteen words, or with FUTURE or GONE. (R41, R43, R46, R48, R50,
R55, R57, R64.) -/
def Obligations.WindowAndJournal : Prop :=
  (∀ (w : WaferId) (path : PathId) (word : BitVec 22) (s : State), s.windowOpen w path = true →
     let off := word.toNat * 4
     let err := fun (kind write : Nat) (t : State) => t.rd ID_ERR_STAT_VALID w 0 = 1 ∧ t.rd ID_ERR_STAT_KIND w 0 = kind ∧ t.rd ID_ERR_STAT_PATH w 0 = path.val ∧
       t.rd ID_ERR_STAT_WRITE w 0 = write ∧ t.reg ID_ERR_ADDR w 0 = off % 2 ^ 24 ∧ t.rd ID_ERR_STAT_COUNT w 0 = satAdd ID_ERR_STAT_COUNT.width 0 1 ∧ t.leafSet w ⟨14, kind - 1⟩ = true ∧ t.wings = s.wings
     (∀ (v : Word32) (r : Reg) (i : Nat), s.unserved w off = false → regAt windowRegs off = some (r, i, false) → r.wide = false → r.sel = .none →
       (r.st = 0 ∨ s.stLocked w r i = false) → (actingRegs.find? fun x => x.1.id == r.id).isNone = true → r.reservedBits v.toNat = 0 →
       Completes (.registerWrite w path word [(15, v)]) s fun t =>
         t.reg r w i = ((((s.reg r w i &&& notBits 64 r.rw) ||| (v.toNat &&& r.rw)) &&& notBits 64 (v.toNat &&& r.w1c)) ||| (v.toNat &&& r.w1s)) ∧
         (r.st ≠ 0 → t.wreg r w i = (s.wreg r w i &&& notBits 64 r.st) ||| (v.toNat &&& r.st)) ∧ (r.st = 0 → t.wings = s.wings) ∧ t.out = s.out) ∧
     (∀ (r : Reg) (i : Nat), s.unserved w off = false → regAt windowRegs off = some (r, i, false) → r.wide = false → r.sel = .none →
       (shownRegs.find? fun x => x.1.id == r.id).isNone = true → Completes (.rcRead w path word [15]) s fun t =>
         t.out = .reply path.val w [((if r.st ≠ 0 ∧ s.rd ID_WINCTL_WINGS_VIEW w path = 1 ∧ s.slotHolds w 4 4 r i = false then
           (s.reg r w i &&& notBits 64 r.st) ||| (s.wreg r w i &&& r.st) else s.reg r w i) &&& notBits 64 r.wo) % 2 ^ 32] :: s.out ∧
         t.reg r w i = s.reg r w i &&& notBits 64 r.rc ∧ t.wings = s.wings) ∧
     (s.rd ID_ERR_STAT_VALID w 0 = 0 → s.rd ID_ERR_STAT_COUNT w 0 = 0 →
       (∀ v : Word32, s.unserved w off = true → Completes (.registerWrite w path word [(15, v)]) s (err 2 1)) ∧
       (s.unserved w off = true → Completes (.rcRead w path word [15]) s fun t => err 2 0 t ∧ .reply path.val w [0xDEAD0FF0] ∈ t.out) ∧
       (∀ v : Word32, s.unserved w off = false → regAt windowRegs off = none → Completes (.registerWrite w path word [(15, v)]) s (err 1 1)) ∧
       (∀ (be : BitVec 4) (v : Word32) (x : Reg × Nat × Bool), be ≠ 0 → be ≠ 15 → s.unserved w off = false → regAt windowRegs off = some x →
         Completes (.registerWrite w path word [(be, v)]) s fun t => err 3 1 t ∧ (x.1.id ∉ (ID_ERR_STAT :: ID_ERR_ADDR :: attentionRegs).map (·.id) → t.reg x.1 w x.2.1 = s.reg x.1 w x.2.1)) ∧
       (∀ (v : Word32) (r : Reg) (i : Nat), s.unserved w off = false → regAt windowRegs off = some (r, i, false) → r.wide = false → r.sel = .none → r.st ≠ 0 → s.stLocked w r i = true →
         Completes (.registerWrite w path word [(15, v)]) s (err 4 1)))) ∧
  (∀ (w : WaferId) (s : State),
     let j := s.getJournals w
     (∀ e, (j.entries.find? fun x => x.inRing && !x.inFlash) = some e → Completes (.journalSpill w) s fun t =>
       (∀ x ∈ (t.getJournals w).entries, x.seq = e.seq → x.inFlash = true) ∧ ((t.getJournals w).entries.map fun x => (x.seq, x.time, x.detail, x.digest)) = j.entries.map fun x => (x.seq, x.time, x.detail, x.digest)) ∧
     (∀ n : Word, Completes (.journalFetch w n) s fun t => t.reg ID_JRNL_SEL w 0 = n.toNat ∧ t.rd ID_JRNL_FETCH_BUSY w 0 = 1 ∧ (t.getJournals w).fetching = some n.toNat ∧
       (t.getJournals w).held = (j.entries.find? fun e => e.seq == n.toNat) ∧ (t.getJournals w).entries = j.entries) ∧
     (∀ n, j.fetching = some n →
       (∀ e, j.held = some e → Completes (.journalFetchDone w) s fun t => t.rd ID_JRNL_FETCH_BUSY w 0 = 0 ∧ t.rd ID_JRNL_FETCH_RESULT w 0 = 0 ∧
         ∀ i < 16, t.reg ID_JRNL_ENTRY w i = e.words.getD i 0 % 2 ^ 64) ∧
       (j.held = none → Completes (.journalFetchDone w) s fun t => t.rd ID_JRNL_FETCH_BUSY w 0 = 0 ∧ t.rd ID_JRNL_FETCH_RESULT w 0 = if j.next ≤ n then 2 else 1)))

/-- A read of an offset that holds no register, of one word or of an aligned pair, returns 0xDEAD_0BAD; a write changes no register but those that report the
error, no wings and no loft; either raises the HOST cause UNIMPL, and neither sends a completion error. (R47.) -/
def Obligations.UnimplementedOffsets : Prop :=
  ∀ (w : WaferId) (path : PathId) (word : BitVec 22) (s : State), s.windowOpen w path = true → s.unserved w (word.toNat * 4) = false → regAt windowRegs (word.toNat * 4) = none →
    let reported := fun (t : State) => t.leafSet w ⟨14, 0⟩ = true ∧ SameRegs (ID_ERR_STAT :: ID_ERR_ADDR :: attentionRegs) s t ∧ t.wings = s.wings ∧ SameLofts s t ∧
      ∃ new, t.out = new ++ s.out ∧ ∀ e ∈ new, ∀ n d, e ≠ .completion w n d
    (∀ be : BitVec 4, be ≠ 0 → Completes (.rcRead w path word [be]) s fun t => t.out.head? = some (.reply path.val w [0xDEAD0BAD]) ∧ reported t) ∧
    (word.toNat % 2 = 0 → regAt windowRegs (word.toNat * 4 + 4) = none → Completes (.rcRead w path word [15, 15]) s fun t =>
      t.out.head? = some (.reply path.val w [0xDEAD0BAD, 0xDEAD0BAD]) ∧ reported t) ∧
    (∀ (be : BitVec 4) (v : Word32), be ≠ 0 → Completes (.registerWrite w path word [(be, v)]) s reported) ∧
    (∀ v u : Word32, word.toNat % 2 = 0 → regAt windowRegs (word.toNat * 4 + 4) = none → Completes (.registerWrite w path word [(15, v), (15, u)]) s reported)

/-- An issued scalar instruction writes its result into its destination, a 64-bit one into a register pair, and goes on to the next index; every other part of
the core is as before, and a result for g0 is discarded. Results are modulo 2^32; Shifts are stated for distances below 32. A taken branch goes to its
target and any other to the next index; a WAIT whose signal word has reached the count goes on, and one whose word has not leaves the core at its index,
waiting. (R95, R107, R114, R115, 04_core.md, R96, R113.) -/
def Obligations.ScalarUnitAndControl : Prop :=
  (∀ (w : WaferId) (f : FieldId) (u : UnitId) (rd ra rb : Fin 32) (s : State), s.issues w f u = true →
     let c := s.core w f u
     let a := c.reg ra
     let b := c.reg rb
     let writes := fun (v : Nat) (t : State) => t.core w f u = (c.setReg rd v).went ∧ (t.core w f u).reg 0 = 0
     Completes (.intArithmetic w f u .add rd ra rb) s (writes ((a + b) % 2 ^ 32)) ∧
     Completes (.intArithmetic w f u .sub rd ra rb) s (writes ((a + (2 ^ 32 - b)) % 2 ^ 32)) ∧
     Completes (.intArithmetic w f u .mul rd ra rb) s (writes (a * b % 2 ^ 32)) ∧
     Completes (.logic w f u .and rd ra rb) s (writes (a &&& b)) ∧ Completes (.logic w f u .or rd ra rb) s (writes (a ||| b)) ∧
     Completes (.logic w f u .xor rd ra rb) s (writes (a ^^^ b)) ∧
     (b < 32 → Completes (.logic w f u .shiftLeft rd ra rb) s (writes (a * 2 ^ b % 2 ^ 32)) ∧ Completes (.logic w f u .shiftRight rd ra rb) s (writes (a / 2 ^ b))) ∧
     Completes (.compare w f u .eq rd ra rb) s (writes (if a = b then 1 else 0)) ∧ Completes (.compare w f u .ne rd ra rb) s (writes (if a = b then 0 else 1)) ∧
     Completes (.compare w f u .ltUnsigned rd ra rb) s (writes (if a < b then 1 else 0)) ∧
     Completes (.compare w f u .ltSigned rd ra rb) s (writes (if toInt 32 a < toInt 32 b then 1 else 0)) ∧
     (∀ n, Completes (.intArithmetic w f u (.other n) rd ra rb) s fun t => ∃ v, v < 2 ^ 32 ∧ writes v t) ∧
     (∀ n, Completes (.logic w f u (.other n) rd ra rb) s fun t => ∃ v, v < 2 ^ 32 ∧ writes v t) ∧
     (∀ n, Completes (.compare w f u (.other n) rd ra rb) s fun t => ∃ v, v < 2 ^ 32 ∧ writes v t) ∧
     Completes (.flags w f u rd) s (writes (b2n c.invalid + 2 * b2n c.overflow + 4 * b2n c.intSat + 8 * b2n c.inexact)) ∧
     Completes (.time w f u rd) s (fun t => t.core w f u = ((c.setReg rd (s.tbNow w % 2 ^ 32)).setReg ((rd + 1) % 32) (s.tbNow w / 2 ^ 32)).went) ∧
     Completes (.tokens w f u rd) s (fun t =>
       t.core w f u = ((c.setReg rd (s.rd CORE_TOKENS_COUNT w (coreIdx f u) % 2 ^ 32)).setReg ((rd + 1) % 32) (s.rd CORE_TOKENS_COUNT w (coreIdx f u) / 2 ^ 32)).went)) ∧
  (∀ (w : WaferId) (f : FieldId) (u : UnitId) (s : State), s.issues w f u = true →
     let c := s.core w f u
     (∀ (cond : BrCond) (target : BitVec 16), target.toNat < 3072 → Completes (.branch w f u cond target) s fun t =>
       t.core w f u = { c with skipBreak := false, pc := if c.taken cond then target.toNat else c.pc + 1 }) ∧
     (∀ (word : Fin 16) (count : Word32), count.toNat ≤ c.signal word → Completes (.wait w f u word count) s fun t => t.core w f u = c.went) ∧
     (∀ (word : Fin 16) (count : Word32), c.signal word < count.toNat → Completes (.wait w f u word count) s fun t =>
       t.core w f u = { c with skipBreak := false, wait := .signal word count.toNat, waitSince := s.now } ∧
       t.rd CORE_TOKENS_COUNT w (coreIdx f u) = s.rd CORE_TOKENS_COUNT w (coreIdx f u)))

/-- A vector operation on sound tensor registers leaves in each element of the destination the result for the elements of the same index, counts 8 tokens and
goes on; a reduction leaves the sum over the pairwise tree in element 0 (its place is a choice of the model, log entry 9). In MATRIX mode an allowed MMA on
sound registers leaves in each element of C, row by row, the products of the row of A and the column of B added to what C held, and counts the tokens of
its format; a conversion to a format without MX scales leaves in each element of the destination the converted element. (R98, R107, R108, R99, R100, R101,
R104.) -/
def Obligations.VectorAndMatrixUnits : Prop :=
  (∀ (w : WaferId) (f : FieldId) (u : UnitId) (bf : Bool) (td ta tb tc : Fin 8) (s : State), s.issues w f u = true → (s.core w f u).spadPoison = [] →
     let c := s.core w f u
     let nb := if bf then 16 else 32
     let a := fun (i : Nat) => c.elem (tensorBase ta) nb i
     let b := fun (i : Nat) => c.elem (tensorBase tb) nb i
     let d := fun (i : Nat) => c.elem (tensorBase tc) nb i
     let gives := fun (op : Nat → Nat × Flg) (t : State) => (∀ i < (if bf then 1024 else 512), (t.core w f u).elem (tensorBase td) nb i = (op i).1 % 2 ^ nb) ∧
       (t.core w f u).pc = c.pc + 1 ∧ t.rd CORE_TOKENS_COUNT w (coreIdx f u) = (s.rd CORE_TOKENS_COUNT w (coreIdx f u) + 8) % 2 ^ CORE_TOKENS_COUNT.width ∧
       (t.core w f u).invalid = (c.invalid || (List.range (if bf then 1024 else 512)).any fun i => (op i).2.invalid) ∧ (t.core w f u).g = c.g
     Completes (.vecAdd w f u bf td ta tb) s (gives fun i => vecAdd bf (a i) (b i)) ∧ Completes (.vecSub w f u bf td ta tb) s (gives fun i => vecSub bf (a i) (b i)) ∧
     Completes (.vecMul w f u bf td ta tb) s (gives fun i => vecMul bf (a i) (b i)) ∧
     Completes (.vecFma w f u bf td ta tb tc) s (gives fun i => vecFma bf (a i) (b i) (d i)) ∧
     Completes (.vecMin w f u bf td ta tb) s (gives fun i => vecPick true bf (a i) (b i)) ∧
     Completes (.vecMax w f u bf td ta tb) s (gives fun i => vecPick false bf (a i) (b i)) ∧
     Completes (.vecCompare w f u bf td ta tb) s (gives fun i => vecCmp bf (a i) (b i)) ∧ Completes (.vecExp2 w f u bf td ta) s (gives fun i => vecExp2 bf (a i)) ∧
     Completes (.vecRecip w f u bf td ta) s (gives fun i => vecRecip bf (a i)) ∧ Completes (.vecRsqrt w f u bf td ta) s (gives fun i => vecRsqrt bf (a i)) ∧
     Completes (.vecReduce w f u bf td ta) s (fun t => (t.core w f u).elem (tensorBase td) nb 0 = (treeSumF bf 11 ((List.range (if bf then 1024 else 512)).map a) {}).1 % 2 ^ nb ∧
       (t.core w f u).pc = c.pc + 1)) ∧
  (∀ (w : WaferId) (f : FieldId) (u : UnitId) (s : State), s.issues w f u = true → (s.core w f u).spadPoison = [] →
     let c := s.core w f u
     (∀ (xa xb : Fmt) (pair : Fin 4) (ta tb : Fin 8), bitAt c.mode 0 = false → fmtPair xa xb = true → ta.val / 2 ≠ pair.val → tb.val / 2 ≠ pair.val →
       Completes (.mma w f u xa xb pair ta tb) s fun t =>
         (∀ i < 24, ∀ j < 32, (t.core w f u).elem (tensorBase (2 * pair)) 32 (32 * i + j) =
           (c.mmaElem xa xb (tensorBase ta) (tensorBase tb) i j (c.elem (tensorBase (2 * pair)) 32 (32 * i + j))).1 % 2 ^ 32) ∧
         (t.core w f u).pc = c.pc + 1 ∧
         t.rd CORE_TOKENS_COUNT w (coreIdx f u) = (s.rd CORE_TOKENS_COUNT w (coreIdx f u) + (if xa = .bf16 ∨ xa = .fp16 then 64 else 32)) % 2 ^ CORE_TOKENS_COUNT.width) ∧
     (∀ (src dst : CvtFmt) (td ta : Fin 8) (shift : Fin 32), cvtLegal src dst = true → cvtMx dst = none →
       Completes (.cvt w f u src dst td ta shift) s fun t => (t.core w f u).pc = c.pc + 1 ∧
         ∀ i < 512, (t.core w f u).elem (tensorBase td) (cvtBits dst) i =
           (cvtOut dst (bitAt c.mode 1) shift (c.elem (tensorBase ta) (cvtBits src) i) (c.cvtIn src (tensorBase ta) i)).1 % 2 ^ cvtBits dst))

/-- LD, TLD, ST and TST on a sound, accessible range move exactly their 4 bytes or 2 KiB, and go on; every scratchpad byte outside the destination, and for LD
every byte, is as before. (R109, R351.) -/
def Obligations.LocalMemory : Prop :=
  ∀ (w : WaferId) (f : FieldId) (u : UnitId) (r : Fin 32) (tr : Fin 8) (addr : Word32) (s : State), s.issues w f u = true → (s.core w f u).spadPoison = [] →
    let c := s.core w f u
    let a := addr.toNat
    let moved := fun (dst src n : Nat) (t : State) => (t.core w f u).pc = c.pc + 1 ∧ (t.core w f u).g = c.g ∧ (∀ i < n, (t.core w f u).byte (dst + i) = c.byte (src + i)) ∧
      ∀ b, b < dst ∨ dst + n ≤ b → (t.core w f u).byte b = c.byte b
    (accessible a 4 = true → s.watchAt w f u a 4 1 = none → Completes (.ld w f u r addr .good) s fun t =>
      t.core w f u = (c.setReg r (ofLeBytes (c.bytes a 4))).went) ∧
    (accessible a 4 = true → s.watchAt w f u a 4 2 = none → Completes (.st w f u r addr .good) s fun t =>
      (t.core w f u).pc = c.pc + 1 ∧ (t.core w f u).g = c.g ∧ (t.core w f u).bytes a 4 = leBytes 4 (c.reg r) ∧ ∀ b, b < a ∨ a + 4 ≤ b → (t.core w f u).byte b = c.byte b) ∧
    (accessible a 0x800 = true → s.watchAt w f u a 0x800 1 = none → Completes (.tld w f u tr addr .good) s (moved (0x14000 + tr * 0x800) a 0x800)) ∧
    (accessible a 0x800 = true → s.watchAt w f u a 0x800 2 = none → Completes (.tst w f u tr addr .good) s (moved a (0x14000 + tr * 0x800) 0x800))

/-- An issued LGET, SEND, FETCH or SIGNAL puts the packets of its message, with the command's partition, at the end of its queue for injection, a peer being
named by its seat, and goes on. (R96, R123, R144, R215.) -/
def Obligations.MessagesOfACore : Prop :=
  ∀ (w : WaferId) (f : FieldId) (u : UnitId) (len : BitVec 16) (s : State) (p : Nat), s.issues w f u = true → (s.core w f u).part = some p → (s.core w f u).spadPoison = [] →
    let c := s.core w f u
    let n := len.toNat
    let queues := fun (ps : List Packet) (t : State) => t.core w f u = c.went ∧ t.niQueue w f p = s.niQueue w f p ++ ps
    4 ≤ n → n ≤ 4096 → n % 4 = 0 →
    (∀ (dest : BitVec 23) (off : BitVec 40) (ret : Word32), accessible ret.toNat n = true → Completes (.lget w f u dest off ret len) s
      (queues [{ typ := 4, dest := dest.toNat, src := physAddr w f u, spart := p, addr := off.toNat, aux := n / 4 - 1, payload := leBytes 4 ret.toNat }])) ∧
    (∀ (rank addr ret : Word32) (d : Nat), accessible addr.toNat n = true → accessible ret.toNat n = true → s.seatOf w p rank.toNat = some d →
      Completes (.fetch w f u rank addr ret len) s
        (queues [{ typ := 1, dest := d, src := physAddr w f u, spart := p, addr := addr.toNat, aux := n / 4 - 1, payload := leBytes 4 ret.toNat }])) ∧
    (∀ (rank addr src : Word32) (d : Nat), accessible addr.toNat n = true → accessible src.toNat n = true → s.seatOf w p rank.toNat = some d →
      Completes (.send w f u rank addr src len) s (queues ((List.range ((n + 511) / 512)).map fun i =>
        { typ := 0, cls := if 256 < n then 2 else 0, dest := d, src := physAddr w f u, spart := p, addr := addr.toNat + 512 * i
          payload := ((c.bytes src.toNat n).drop (512 * i)).take 512 }))) ∧
    (∀ (rank : Word32) (word : Fin 16) (d : Nat), s.seatOf w p rank.toNat = some d →
      Completes (.signal w f u rank word) s (queues [{ typ := 3, dest := d, src := physAddr w f u, spart := p, aux := word.val }]))

/-- PUSH adds its entry at the bottom of a deque that is not full and reads 1, and on a full one changes no deque and reads 0; POP starts the bottom entry of
the highest-priority non-empty deque as a task, or leaves the core idle; an idle core asks its next victim for an entry, and 64 tokens after a failed round
starts again at the first. (R116, R117.) -/
def Obligations.TasksAndStealing : Prop :=
  ∀ (w : WaferId) (f : FieldId) (u : UnitId) (s : State),
    let c := s.core w f u
    (∀ (d : Fin 4) (rd rs : Fin 32), s.issues w f u = true → c.deques.length = 4 →
      ((c.deques.getD d []).length < 64 → Completes (.push w f u d rd rs) s fun t =>
        t.core w f u = (({ c with deques := c.deques.set d (c.deques.getD d [] ++ [c.reg rs]) } : Core).setReg rd 1).went) ∧
      (64 ≤ (c.deques.getD d []).length → Completes (.push w f u d rd rs) s fun t => t.core w f u = (c.setReg rd 0).went)) ∧
    (∀ (d : Fin 4) (q : List Nat) (e : Nat), s.issues w f u = true → c.deques[d.val]? = some (q ++ [e]) → (∀ k < d.val, c.deques.getD k [] = []) →
      Completes (.pop w f u) s fun t => (t.core w f u).st = .run ∧ (t.core w f u).pc = e % 4096 ∧ (t.core w f u).reg 3 = e / 4096 % 2 ^ 20 ∧
        (t.core w f u).deques = c.deques.set d q) ∧
    (s.issues w f u = true → (∀ k < 4, c.deques.getD k [] = []) → Completes (.pop w f u) s fun t => (t.core w f u).st = .idle ∧ (t.core w f u).deques = c.deques) ∧
    (∀ (p : Nat) (v : Nat × Nat), c.st = .idle → c.part = some p → s.coreRuns w f u = true → (s.victims w f u)[c.stealAt]? = some v →
      Completes (.steal w f u) s fun t => t.core w f u = { c with st := .steal } ∧
        t.niQueue w f p = s.niQueue w f p ++ [{ typ := 9, dest := physAddr w v.1 v.2, src := physAddr w f u, spart := p }]) ∧
    (∀ (p : Nat) (v : Nat × Nat), c.st = .idle → c.part = some p → s.coreRuns w f u = true → (s.victims w f u)[0]? = some v → (s.victims w f u).length ≤ c.stealAt →
      Completes (.stealRetry w f u) s fun t => t.core w f u = { c with st := .steal, stealAt := 0 } ∧
        t.niQueue w f p = s.niQueue w f p ++ [{ typ := 9, dest := physAddr w v.1 v.2, src := physAddr w f u, spart := p }])

/-- Within the limits of the commit buffer, LPUT, XPUT, each remote atomic and GIVE add one entry at its end, write nothing outside the core and go on; TAKE
asks the semaphore's arbiter and waits at its index. (R119, R121, R391.) -/
def Obligations.CommitBuffer : Prop :=
  ∀ (w : WaferId) (f : FieldId) (u : UnitId) (s : State), s.issues w f u = true →
    let c := s.core w f u
    let adds := fun (e : CbEntry) (t : State) => t.core w f u = { c with cb := c.cb ++ [e] }.went ∧ t.net = s.net ∧ SameLofts s t
    (∀ (dest : BitVec 23) (off : BitVec 40) (addr src : Word32) (len : BitVec 16), 4 ≤ len.toNat → len.toNat ≤ 4096 → len.toNat % 4 = 0 →
      accessible src.toNat len.toNat = true → c.writes < 512 → c.cbBytes + len.toNat ≤ 32768 →
      Completes (.lput w f u dest off src len) s (adds (.lput dest.toNat off.toNat src.toNat len.toNat)) ∧
      Completes (.xput w f u dest addr src len) s (adds (.xput dest.toNat addr.toNat src.toNat len.toNat))) ∧
    (∀ (wide : Bool) (dest : BitVec 23) (off : BitVec 40) (rs : Fin 32), off.toNat % (if wide then 8 else 4) = 0 → c.atomics < 64 →
      let e := fun (op : Nat) => CbEntry.atom op wide dest.toNat off.toNat (if wide then c.reg rs + c.reg ((rs + 1) % 32) * 2 ^ 32 else c.reg rs)
      Completes (.atomAdd w f u wide dest off rs) s (adds (e 0)) ∧ Completes (.atomMin w f u wide dest off rs) s (adds (e 1)) ∧
      Completes (.atomMax w f u wide dest off rs) s (adds (e 2)) ∧ Completes (.atomOr w f u wide dest off rs) s (adds (e 3)) ∧
      Completes (.atomSwap w f u wide dest off rs) s (adds (e 4))) ∧
    (∀ rs : Fin 32, c.atomics < 64 → Completes (.semaGive w f u rs) s (adds (.give (c.reg rs % 1024) (bits (c.reg rs) 15 10)))) ∧
    (∀ (rs : Fin 32) (p : Nat), c.part = some p → Completes (.semaTake w f u rs) s fun t => (t.core w f u).wait = .sema (c.reg rs % 1024) (bits (c.reg rs) 15 10) ∧
      (t.core w f u).pc = c.pc ∧ (t.core w f u).st = .run ∧ ∃ q : Packet, t.niQueue w f p = s.niQueue w f p ++ [q] ∧ q.typ = 13 ∧ q.aux = 0x10 ∧ addrSlot q.dest = bits (c.reg rs) 15 10)

/-- With none captured before, an instruction that R125 faults leaves its cause and the unit in CORE_FAULT: a branch beyond the store, an inaccessible range,
an MMA in VECTOR mode, a write beyond the commit buffer, a 65th atomic, an illegal MMA pairing, a rank without a seat. A correctable word that the scrubber
meets in a running core's scratchpad is counted in SPAD_CE, one in its instruction store in CORE_ECC_CORR; the core itself is unchanged, and a sound line
changes nothing. (R113, R119, R125, R98, R109, R351, R353, R355.) -/
def Obligations.CoreFaultsAndScrubber : Prop :=
  (∀ (w : WaferId) (f : FieldId) (u : UnitId) (s : State), s.issues w f u = true → s.rd CORE_FAULT_VALID w f = 0 →
     let c := s.core w f u
     let faults := fun (cause : Nat) (t : State) => t.rd CORE_FAULT_VALID w f = 1 ∧ t.rd CORE_FAULT_CAUSE w f = cause ∧ t.rd CORE_FAULT_UNIT w f = u.val
     (∀ target : BitVec 16, 3072 ≤ target.toNat → Completes (.branch w f u .always target) s (faults 1)) ∧
     (∀ (r : Fin 32) (a : Word32) (e : Ecc), accessible a.toNat 4 = false → Completes (.ld w f u r a e) s (faults 2) ∧ Completes (.st w f u r a e) s (faults 2)) ∧
     (∀ (xa xb : Fmt) (pair : Fin 4) (ta tb : Fin 8), (bitAt c.mode 0 = true → Completes (.mma w f u xa xb pair ta tb) s (faults 3)) ∧
       (bitAt c.mode 0 = false → fmtPair xa xb = false → Completes (.mma w f u xa xb pair ta tb) s (faults 9))) ∧
     (∀ (dest : BitVec 23) (off : BitVec 40) (src : Word32), accessible src.toNat 4 = true →
       (512 ≤ c.writes → Completes (.lput w f u dest off src 4) s (faults 4)) ∧
       (c.writes < 512 → 32764 < c.cbBytes → Completes (.lput w f u dest off src 4) s (faults 5))) ∧
     (∀ rs : Fin 32, 64 ≤ c.atomics → Completes (.semaGive w f u rs) s (faults 6)) ∧
     (∀ (rank : Word32) (word : Fin 16) (p : Nat), c.part = some p → s.seatOf w p rank.toNat = none → Completes (.signal w f u rank word) s (faults 10))) ∧
  (∀ (w : WaferId) (f : FieldId) (u : UnitId) (line : BitVec 11) (i : Nat) (s : State), s.coreRuns w f u = true → line.toNat < 1920 →
     (line.toNat < 1536 → Completes (.spadScrubLine w f u line (.corrected i)) s fun t =>
       t.rd SPAD_CE_COUNT w f = satAdd SPAD_CE_COUNT.width (s.rd SPAD_CE_COUNT w f) 1 ∧ t.job = s.job) ∧
     (1536 ≤ line.toNat → Completes (.spadScrubLine w f u line (.corrected i)) s fun t =>
       t.rd CORE_ECC_CORR_COUNT w f = satAdd CORE_ECC_CORR_COUNT.width (s.rd CORE_ECC_CORR_COUNT w f) 1 ∧ t.job = s.job) ∧
     Completes (.spadScrubLine w f u line .good) s (fun t => t = s))

/-- A working element puts a sound packet that it routes at the end of the queue of its output; it discards and counts one with a bad header, a bad ECC word or
an act that does not route; a lone packet at an output passes flit by flit and goes on with its last flit; a returned credit frees one flit; and the only
packet that may be injected leaves its queue. (R142, R151, R152, R153, R155, R148.) -/
def Obligations.RoutersAndInjection : Prop :=
  ∀ (w : WaferId) (s : State),
    (∀ (f : FieldId) (e : NetElem) (input : BitVec 8) (p : Packet), s.spineWorks w f = true →
      (p.hcrcOk = true → addrValid p.dest = true → s.actRoutes w p.act = true → ∀ n up, s.routeAt w f e p = .out n up →
        Completes (.routerForward w f e input p .good) s fun t => ∃ x : Waiting,
          (t.getArbs (outKey w f (elemCode e) n)).queue = (s.getArbs (outKey w f (elemCode e) n)).queue ++ [x] ∧ x.input = input.toNat ∧ x.flits = flitsOf p ∧
          x.pkt.dest = p.dest ∧ x.pkt.payload = p.payload ∧ x.pkt.level = if up then 1 else p.level) ∧
      (p.hcrcOk = false → Completes (.routerForward w f e input p .good) s fun t =>
        t.rd SPN_DROP_CRC w f = satAdd SPN_DROP_CRC.width (s.rd SPN_DROP_CRC w f) 1 ∧ t.net.arbs = s.net.arbs) ∧
      (∀ i, Completes (.routerForward w f e input p (.bad i)) s fun t =>
        t.rd SPN_DROP_ECC w f = satAdd SPN_DROP_ECC.width (s.rd SPN_DROP_ECC w f) 1 ∧ t.net.arbs = s.net.arbs) ∧
      (p.hcrcOk = true → s.actRoutes w p.act = false → Completes (.routerForward w f e input p .good) s fun t =>
        t.rd SPN_DROP_NOROUTE w f = satAdd SPN_DROP_NOROUTE.width (s.rd SPN_DROP_NOROUTE w f) 1 ∧
        t.rd NET_DROP_WAFER_COUNT w 0 = satAdd NET_DROP_WAFER_COUNT.width (s.rd NET_DROP_WAFER_COUNT w 0) 1)) ∧
    (∀ (f : FieldId) (e : NetElem) (out : BitVec 8) (x : Waiting) (n : Nat), s.spineWorks w f = true →
      (s.getArbs (outKey w f (elemCode e) out.toNat)).queue = [x] → x.started = true → x.waited < 512 → x.pkt.cls < 4 → x.flits = n + 1 →
      Completes (.outputArbitration w f e out) s fun t =>
        (t.getArbs (outKey w f (elemCode e) out.toNat)).queue = (if n = 0 then [] else [{ x with flits := n, waited := 0 }]) ∧
        t.out = if n = 0 then .forwarded w f (elemCode e) out.toNat x.pkt :: s.out else s.out) ∧
    (∀ (f : FieldId) (e : NetElem) (out : BitVec 8) (vc : Fin 8), Completes (.creditReturn w f e out vc) s fun t =>
      t.usedCredits (outKey w f (elemCode e) out.toNat) vc = s.usedCredits (outKey w f (elemCode e) out.toNat) vc - 1) ∧
    (∀ (f : Fin 84) (q : Nat) (p : Packet) (rest : List Packet), (s.getInjects (niKey w f)).queues = [(q, p :: rest)] → s.headReady w f p = true →
      Completes (.injectionArbitration w f) s fun t => t.niQueue w f q = rest ∧
        (niOf p.dest = w + f * 64 → t.out = .packet w f (Packet.sealed { p with act := s.stamp w }) :: s.out) ∧
        (niOf p.dest ≠ w + f * 64 → (s.getSends (sendKey w f (niOf p.dest) p.cls p.spart)).unacked.length < s.rd TRN_CFG_WINDOW w 0 →
          (t.getSends (sendKey w f (niOf p.dest) p.cls p.spart)).unacked.length = (s.getSends (sendKey w f (niOf p.dest) p.cls p.spart)).unacked.length + 1 ∧
          (t.getSends (sendKey w f (niOf p.dest) p.cls p.spart)).next = ((s.getSends (sendKey w f (niOf p.dest) p.cls p.spart)).next + 1) % 2 ^ 30))

/-- A SEND, XPUT, FETCH_DATA or LGET_DATA packet writes exactly its bytes into the core's scratchpad; a FETCH_REQ is answered with the range; a SIGNAL adds 1
to its word, and ends the WAIT that it satisfies; a STEAL_REQ takes the top entry of the highest-priority non-empty deque; a STEAL_ANS with an entry starts
it as a task, an empty one leaves the core idle. (R146, R96, R116, R118.) -/
def Obligations.DeliveriesAtACore : Prop :=
  ∀ (w : WaferId) (f : Fin 84) (p : Packet) (s : State), f.val < 72 → s.inOrder w f p = true →
    let u := addrUnit p.dest
    let c := s.core w f u
    s.serve w f u = .live → c.spadPoison = [] →
    let writes := fun (t : State) => (∀ i < p.payload.length, (t.core w f u).byte (p.addr + i) = p.payload.getD i 0 % 256) ∧
      (∀ a, a < p.addr ∨ p.addr + p.payload.length ≤ a → (t.core w f u).byte a = c.byte a) ∧ (t.core w f u).g = c.g ∧ (t.core w f u).pc = c.pc
    (accessible p.addr p.payload.length = true → (p.typ = 0 → Completes (.sendDelivery w f p) s writes) ∧ (p.typ = 2 → Completes (.fetchData w f p) s writes) ∧
      (p.typ = 5 → Completes (.lgetData w f p) s writes) ∧ (p.typ = 7 → Completes (.xputPacket w f p) s writes)) ∧
    (p.typ = 1 → p.aux < 128 → Completes (.fetchReq w f p .good) s fun t => t.niQueue w f (s.unitPart w f u) = s.niQueue w f (s.unitPart w f u) ++
      [{ typ := 2, cls := 1, dest := p.src, src := physAddr w f u, spart := s.unitPart w f u, addr := fieldOf p.payload 0 4, payload := c.bytes p.addr ((p.aux + 1) * 4) }]) ∧
    (p.typ = 3 → c.wait = .none → Completes (.signalDelivery w f p) s fun t => t.core w f u = c.addSignal (p.aux % 16) ∧
      (t.core w f u).signal (p.aux % 16) = (c.signal (p.aux % 16) + 1) % 2 ^ 32) ∧
    (∀ k n, p.typ = 3 → p.aux % 16 = k → c.wait = .signal k n → n ≤ (c.signal k + 1) % 2 ^ 32 → c.stepping = false → Completes (.signalDelivery w f p) s fun t =>
      (t.core w f u).wait = .none ∧ (t.core w f u).pc = c.pc + 1) ∧
    (∀ (d e pt : Nat) (q : List Nat), p.typ = 9 → c.st ≠ .halt → c.part = some pt → d < 4 → c.deques[d]? = some (e :: q) → (∀ k < d, c.deques.getD k [] = []) →
      Completes (.stealReq w f p) s fun t => (t.core w f u).deques = c.deques.set d q ∧ t.niQueue w f (s.unitPart w f u) = s.niQueue w f (s.unitPart w f u) ++
        [{ typ := 10, cls := 1, dest := p.src, src := physAddr w f u, spart := s.unitPart w f u, aux := 1, payload := leBytes 4 e }]) ∧
    (∀ pt, p.typ = 10 → c.st = .steal → c.part = some pt →
      (p.aux = 1 → Completes (.stealAns w f p) s fun t => (t.core w f u).st = .run ∧ (t.core w f u).pc = fieldOf p.payload 0 4 % 4096 ∧
        (t.core w f u).reg 3 = fieldOf p.payload 0 4 / 4096 % 2 ^ 20 ∧ t.rd CORE_STEAL_OK_COUNT w f = satAdd CORE_STEAL_OK_COUNT.width (s.rd CORE_STEAL_OK_COUNT w f) 1) ∧
      (p.aux = 0 → Completes (.stealAns w f p) s fun t => (t.core w f u).st = .idle ∧ (t.core w f u).stealAt = c.stealAt + 1 ∧
        t.rd CORE_STEAL_MISS_COUNT w f = satAdd CORE_STEAL_MISS_COUNT.width (s.rd CORE_STEAL_MISS_COUNT w f) 1))

/-- At an ON loft that is not dead, on sound lines inside the sender's region, an LGET_REQ is answered with the bytes, an LPUT packet writes exactly its bytes,
and an ATOM applies its operation to exactly its word; an ATOM whose source and RID have been seen changes no byte and is counted. (R146, R347, R349, R95,
R197.) -/
def Obligations.DeliveriesAtALoft : Prop :=
  ∀ (w : WaferId) (f : Fin 84) (p : Packet) (o n : Nat) (s : State), f.val < 72 → s.inOrder w f p = true → addrUnit p.dest = 601 → s.loftOn w f = true → s.loftDead w f = false →
    s.loftRanges w f p n = some [(o, n)] → o + n ≤ 2 ^ 35 → n ≠ 0 → (∀ i < n, s.poisoned w f (o + i) = false) →
    let others := fun (t : State) => (∀ a, a < o ∨ o + n ≤ a → t.loftByte w f a = s.loftByte w f a) ∧
      ∀ w2 f2 a, f2 < 72 → a < 2 ^ 35 → (w2 ≠ w.val ∨ f2 ≠ f.val) → t.loftByte w2 f2 a = s.loftByte w2 f2 a
    let q := (s.localPart w p).getD noPart
    (p.typ = 4 → n = (p.aux + 1) * 4 → n ≤ 512 → Completes (.lgetReq w f p .good) s fun t => t.niQueue w f q = s.niQueue w f q ++
      [{ typ := 5, cls := 1, dest := p.src, src := physAddr w f 601, spart := q, addr := fieldOf p.payload 0 4, payload := s.loftBytes w f o n }] ∧ SameLofts s t) ∧
    (p.typ = 6 → p.payload.length = n → Completes (.lputPacket w f p .good) s fun t => (∀ i < n, t.loftByte w f (o + i) = p.payload.getD i 0 % 256) ∧ others t) ∧
    (p.typ = 8 → n = (if bitAt p.aux 4 then 8 else 4) → p.addr % n = 0 →
      ((s.getReplays (niKey w f)).pairs.contains (niOf p.src, p.rid) = false → Completes (.atomPacket w f p .good) s fun t =>
        let old := ofLeBytes (s.loftBytes w f o n)
        let v := fieldOf p.payload 0 n
        let new := if p.aux % 16 = 0 then (old + v) % 2 ^ (8 * n) else if p.aux % 16 = 1 then min old v else if p.aux % 16 = 2 then max old v
          else if p.aux % 16 = 3 then old ||| v else v
        t.loftBytes w f o n = leBytes n new ∧ others t) ∧
      ((s.getReplays (niKey w f)).pairs.contains (niOf p.src, p.rid) = true → Completes (.atomPacket w f p .good) s fun t =>
        t.rd TRN_ATOM_REPLAY_COUNT w 0 = satAdd TRN_ATOM_REPLAY_COUNT.width (s.rd TRN_ATOM_REPLAY_COUNT w 0) 1 ∧ SameLofts s t))

/-- A TACK takes from its stream every packet up to its count; a NACK of an unacknowledged packet ends its stream and is captured in TRN_FAIL; a retransmission
sends the packet again, stamped anew and counted, and after the last wait the stream ends; 200 ns after a delivery a TACK goes out. Where no partition is
the source. A READ or WRITE that reaches the management target of its own field's spine is answered at once, by READ_DATA, WRITE_DONE or ACC_ERROR to its
sender with its RID; one outside the field's own window is answered ACC_ERROR; an answer that reaches the window arbiter completes the access with the
words it carries (the RID carries the access path by a choice of the model, log entry 31). (R193, R194, R195, R196, R147.) -/
def Obligations.TransportAndManagementPackets : Prop :=
  (∀ (w : WaferId) (f : Fin 84) (s : State),
     (∀ p : Packet, p.typ = 11 → niOf p.dest = w + f * 64 → p.hcrcOk = true → p.pcrcOk = true → 288 ≤ p.spart →
       let k := sendKey w f (niOf p.src) (p.tseq / 2 ^ 30) p.spart
       (s.getSends k).waiting = [] → Completes (.tack w f p) s fun t =>
         (t.getSends k).unacked = (s.getSends k).unacked.filter fun u => decide (2 ^ 29 ≤ (p.tseq % 2 ^ 30 + 2 ^ 30 - u.pkt.tseq % 2 ^ 30) % 2 ^ 30)) ∧
     (∀ p : Packet, p.typ = 12 → niOf p.dest = w + f * 64 → p.hcrcOk = true → p.pcrcOk = true → 288 ≤ p.spart →
       let k := sendKey w f (niOf p.src) (p.tseq / 2 ^ 30) p.spart
       (∃ u ∈ (s.getSends k).unacked, u.pkt.tseq = p.tseq) → s.rd TRN_FAIL_VALID w 0 = 0 → Completes (.nack w f p) s fun t =>
         (t.getSends k).unacked = [] ∧ t.rd TRN_FAIL_VALID w 0 = 1 ∧ t.rd TRN_FAIL_REASON w 0 = p.aux % 2 ^ TRN_FAIL_REASON.width ∧
         t.rd TRN_FAIL_CLASS w 0 = p.tseq / 2 ^ 30 % 2 ^ TRN_FAIL_CLASS.width) ∧
     (∀ (dest : BitVec 23) (cls : Fin 4) (spart : BitVec 9) (count : BitVec 30) (u : Unacked),
       let k := sendKey w f (niOf dest.toNat) cls spart.toNat
       let tries := if s.rd TRN_CFG_RETRY_MAX w 0 = 0 then 8 else s.rd TRN_CFG_RETRY_MAX w 0
       (s.getSends k).unacked = [u] → u.pkt.tseq % 2 ^ 30 = count.toNat →
       (u.tries < tries → s.mayInject w u.pkt = true → Completes (.retransmitTimeout w f dest cls spart count) s fun t =>
         t.rd TRN_RETX_COUNT w 0 = satAdd TRN_RETX_COUNT.width (s.rd TRN_RETX_COUNT w 0) 1 ∧ ∃ v : Unacked, (t.getSends k).unacked = [v] ∧ v.tries = u.tries + 1 ∧
           v.pkt.act = s.stamp w ∧ v.pkt.payload = u.pkt.payload ∧ v.pkt.tseq = u.pkt.tseq) ∧
       (tries ≤ u.tries → 288 ≤ spart.toNat → s.rd TRN_FAIL_VALID w 0 = 0 → Completes (.retransmitTimeout w f dest cls spart count) s fun t =>
         (t.getSends k).unacked = [] ∧ t.rd TRN_FAIL_VALID w 0 = 1 ∧ t.rd TRN_FAIL_REASON w 0 = 0)) ∧
     (∀ (src : BitVec 23) (cls : Fin 4) (spart : BitVec 9), src.toNat % 64 = w.val →
       let k := recvKey w f (niOf src.toNat) cls spart.toNat
       (s.getRecvs k).unacked ≠ 0 → Completes (.tackTimer w f src cls spart) s fun t => (t.getRecvs k).unacked = 0 ∧
         ∃ q : Packet, t.out = .packet w f q :: s.out ∧ q.typ = 11 ∧ q.tseq = cls * 2 ^ 30 + ((s.getRecvs k).expect + 2 ^ 30 - 1) % 2 ^ 30)) ∧
  (∀ (w : WaferId) (f : Fin 84) (p : Packet) (s : State), s.inOrder w f p = true → p.typ = 13 →
     let answers := fun (kinds : List Nat) (t : State) => ∃ q : Packet, (t.niQueue w f noPart).getLast? = some q ∧ q.typ = 13 ∧ q.cls = 3 ∧ q.dest = p.src ∧ q.rid = p.rid ∧
       q.aux % 256 ∈ kinds
     (f.val < 72 → addrUnit p.dest = 602 → p.aux % 256 = 1 → Completes (.mgmtRead w f p) s (answers (if fieldWindow p.addr = some f.val then [3, 5] else [5]))) ∧
     (f.val < 72 → addrUnit p.dest = 602 → p.aux % 256 = 2 → Completes (.mgmtWrite w f p) s (answers (if fieldWindow p.addr = some f.val then [4, 5] else [5]))) ∧
     (f.val = s.hostField w → addrUnit p.dest = 1 →
       (p.aux % 256 = 3 → Completes (.mgmtReadData w f p) s fun t => ∃ ws, t.out = .reply (p.rid % 3) w ws :: s.out ∧ ws.length = p.aux / 256 % 256 ∧
         ∀ i < ws.length, ws.getD i 0 = fieldOf p.payload (4 * i) 4) ∧
       (p.aux % 256 = 4 → Completes (.mgmtWriteDone w f p) s fun t => t.out = .reply (p.rid % 3) w [] :: s.out) ∧
       (p.aux % 256 = 5 → Completes (.mgmtAccError w f p) s fun t => t.out = .reply (p.rid % 3) w [] :: s.out)))

/-- An end in service sends its flits in a new block with the next sequence number and keeps it for replay; a block whose code words cannot be corrected is
never used and is answered with a NAK; the expected block is accepted and the next one expected; an acknowledgement falls due at its deadline; 16 replays
of one block, an unanswered block and a loss of signal fault the link and empty its buffers. (R176, R177, R178, R179, R180, R181.) -/
def Obligations.LinkBlocksAndFaults : Prop :=
  ∀ (l : LinkRef) (s : State),
    let e := s.getLinks l.key
    let faulted := fun (t : State) => t.linkState l = 4 ∧ (t.getLinks l.key).replay = [] ∧ (t.getLinks l.key).replayAt = none ∧ (t.getLinks l.key).owed = []
    (∀ fs : List LinkFlit, s.carries l = true → e.degrading = false → e.replayAt = none → e.replay.length < 512 → fs.length ≤ 16 → e.creditFor fs = true →
      (∀ x ∈ fs, x.vc.toNat < l.vcs) → Completes (.linkBlockTx l fs) s fun t => (t.getLinks l.key).nextSeq = (e.nextSeq + 1) % 4096 ∧ (t.getLinks l.key).nakDue = false ∧
        ∃ b : Block, (t.getLinks l.key).replay = e.replay ++ [b] ∧ b.bseq = e.nextSeq ∧ t.out = .block l.key b.bytes :: s.out) ∧
    (s.linkState l = 1 → e.degrading = false → ∀ fs : List LinkFlit, Completes (.linkBlockTx l fs) s fun t => t = s.emit (.block l.key (identityBytes (s.ownIdentity l)))) ∧
    (∀ bytes : List Byte, s.carries l = true → e.degrading = false →
      let d := fecDecode (bytes.map BitVec.toNat)
      let h := BlockHead.decode (ofLeBytes ((d.bytes.drop 512).take 16))
      (d.good = false → Completes (.linkBlockRx l bytes) s fun t => (t.getLinks l.key).nakDue = true ∧ (t.getLinks l.key).expect = e.expect ∧ t.out = s.out) ∧
      (d.good = true → e.locked = true → h.bseq = e.expect → e.expect < 4096 → Completes (.linkBlockRx l bytes) s fun t =>
        (t.getLinks l.key).expect = (e.expect + 1) % 4096 ∧ (t.getLinks l.key).sinceAck = e.sinceAck + 1)) ∧
    (e.sinceAck ≠ 0 → Completes (.ackDeadline l) s fun t => t.getLinks l.key = { e with ackDue := true }) ∧
    (s.carries l = true → 16 ≤ e.replayRun → Completes (.linkFaultReplayLimit l) s faulted) ∧
    (s.carries l = true → e.replay ≠ [] → Completes (.linkFaultAckTimeout l) s faulted) ∧
    (s.linkState l = 1 ∨ s.carries l = true → Completes (.linkLossOfSignal l) s fun t => faulted t ∧ (t.getLinks l.key).los = true)

/-- The 8th identical identity in a row makes the peer known; a trained link is UP, or DEGRADED where the ledger names lanes of one half, and counts its blocks
from 0; a port held down is ADMIN_DOWN and one released trains; a failing lane takes the link to its sound half where DEGRADE_EN is set and it runs on 16
lanes, and faults it otherwise; after the relock it is DEGRADED and asks for a replay; a due group of lanes is recalibrated in an idle slot or by force,
and counted. (R182, R184, R185, R200, R208.) -/
def Obligations.LinkTrainingAndLanes : Prop :=
  ∀ (l : LinkRef) (s : State),
    let e := s.getLinks l.key
    (∀ (w : WaferId) (p : PortId) (ident : Word32), l = .port w p → s.linkState l = 1 → e.degrading = false → e.idWord = ident.toNat → e.idRun = 7 →
      Completes (.identityBlock l ident) s fun t => (t.getLinks l.key).peer = some ident.toNat ∧ t.reg LNK_PEER w p = ident.toNat % 2 ^ 19) ∧
    (∀ ident, s.linkState l = 1 → e.degrading = false → e.peer = some ident → Completes (.linkTrained l) s fun t =>
      t.linkState l = (if s.deadHalf l = none then 2 else 3) ∧ (t.getLinks l.key).nextSeq = 0 ∧ (t.getLinks l.key).expect = 0 ∧ (t.getLinks l.key).replay = [] ∧
      ∀ w p, l = .port w p → t.rd LNK_STAT_MISCABLED w p = b2n (contradicts l ident)) ∧
    (∀ (w : WaferId) (p : PortId), (s.rd LNK_STAT_STATE w p ≠ 0 → Completes (.portAdminDown w p true) s fun t => t.rd LNK_STAT_STATE w p = 5 ∧ t.rd LNK_CFG_ADMIN_DOWN w p = 1) ∧
      (s.rd LNK_STAT_STATE w p = 5 → s.domOn w (432 + p) = true → s.rd NET_SELF_STRAP_BAD w 0 = 0 → Completes (.portAdminDown w p false) s fun t =>
        t.rd LNK_STAT_STATE w p = 1 ∧ t.rd LNK_CFG_ADMIN_DOWN w p = 0)) ∧
    (∀ lane : LaneId, s.carries l = true → e.half = none →
      (s.linkCfg l LNK_CFG_DEGRADE_EN = 1 → e.failing = [] → Completes (.laneSymbolLoss l lane) s fun t => t.linkState l = 1 ∧ (t.getLinks l.key).degrading = true ∧
        (t.getLinks l.key).half = some (1 - lane.val / 8) ∧ (t.getLinks l.key).replay = e.replay) ∧
      (s.linkCfg l LNK_CFG_DEGRADE_EN = 0 → Completes (.laneSymbolLoss l lane) s fun t => t.linkState l = 4 ∧ (t.getLinks l.key).replay = [])) ∧
    ((∀ i < 16, mget 0 e.laneCorr i * 10 ^ s.linkCfg l LNK_CFG_LANE_BER_EXP ≤ e.laneBytes) → Completes (.laneBerCheck l) s fun t =>
      t.linkState l = s.linkState l ∧ (t.getLinks l.key).laneCorr = [] ∧ (t.getLinks l.key).laneBytes = 0 ∧ (t.getLinks l.key).failing = e.failing) ∧
    (∀ h, e.half = some h → e.degrading = true → Completes (.degradeRelock l) s fun t => t.linkState l = 3 ∧ (t.getLinks l.key).degrading = false ∧
      (t.getLinks l.key).nakDue = true ∧ (t.getLinks l.key).expect = e.expect ∧ (t.getLinks l.key).replay = e.replay) ∧
    (∀ lane : LaneId, Completes (.recalTrigger l lane) s fun t => lane.val / 4 ∈ (t.getLinks l.key).recalDue ∧ ∀ g ∈ e.recalDue, g ∈ (t.getLinks l.key).recalDue) ∧
    (∀ (g : Nat) (rest : List Nat), e.recalDue = g :: rest → s.carries l = true →
      (Completes (.recalIdleSlot l) s fun t => (t.getLinks l.key).recalDue = rest ∧ t.linkState l = s.linkState l ∧ ∀ w p, l = .port w p →
        t.rd LNK_EVENTS_RECAL_DONE w p = satAdd LNK_EVENTS_RECAL_DONE.width (s.rd LNK_EVENTS_RECAL_DONE w p) 1) ∧
      (e.lastForced = none → Completes (.recalForced l) s fun t => (t.getLinks l.key).recalDue = rest ∧ (t.getLinks l.key).lastForced = some s.now ∧ ∀ w p, l = .port w p →
        t.rd LNK_EVENTS_RECAL_FORCED w p = satAdd LNK_EVENTS_RECAL_FORCED.width (s.rd LNK_EVENTS_RECAL_FORCED w p) 1))

/-- A packet with a good header whose act is LOCKED or above leaves by the live port that its entry names, unchanged; one with a bad header, and one whose act
is not locked or whose entry is not valid, is discarded and counted. (R187, 22_two_wire_bus.md, R662, R663.) -/
def Obligations.B72Forwarding : Prop :=
  ∀ (c : PlaneId) (inp : ChipPort) (p : Packet) (s : State), s.chipPortUp c inp = true →
    (p.hcrcOk = false → Completes (.b72Forward c inp p) s fun t => t.rd B72_EVENTS_HCRC c 0 = satAdd B72_EVENTS_HCRC.width (s.rd B72_EVENTS_HCRC c 0) 1 ∧ t.out = s.out) ∧
    (p.hcrcOk = true → addrSlot p.dest < 36 →
      let k := p.act % 2 * 64 + addrSlot p.dest
      (s.chipActState c (p.act % 2) < 2 ∨ s.rd B72_RT_VALID c k = 0 → Completes (.b72Forward c inp p) s fun t =>
        t.rd B72_EVENTS_NOROUTE c 0 = satAdd B72_EVENTS_NOROUTE.width (s.rd B72_EVENTS_NOROUTE c 0) 1 ∧ t.out = s.out) ∧
      (2 ≤ s.chipActState c (p.act % 2) → s.rd B72_RT_VALID c k ≠ 0 → s.rd B72_RT_GROUP c k = 0 → s.rd B72_RT_PORT c k < 72 → s.chipPortUp c (s.rd B72_RT_PORT c k) = true →
        Completes (.b72Forward c inp p) s fun t => t.out = .linkPacket (36 + c) (s.rd B72_RT_PORT c k) p :: s.out))

/-- A heartbeat of the active RMC clears the missing count where the standby hears it and counts one that it misses; a keepalive commits both words into the
status registers; a TMC that hears no RMC for a second goes to its static cap; a wafer without keepalives reports its TMC lost; a lost supply leaves the
wafer unpowered; the active RMC takes a wafer of the live act for lost once and queues an act without it; the standby takes the active role after three
missing heartbeats. (R24, R26, R33, R39, R650.) -/
def Obligations.ManagementRedundancy : Prop :=
  ∀ (s : State),
    let p := s.rack.planner
    (∀ tmcs : List TmcId, (Completes (.rmcHeartbeat true tmcs) s fun t => t.rack.planner.missed = 0 ∧ t.rack.planner.haveActive = true ∧
        ∀ k ∈ tmcs, (s.getTmcs k).running = true → (if p.active = 0 then (t.getTmcs k).hears0 else (t.getTmcs k).hears1) = true) ∧
      Completes (.rmcHeartbeat false tmcs) s fun t => t.rack.planner.missed = min (p.missed + 1) 3 ∧ t.rack.planner.active = p.active) ∧
    (∀ (w : WaferId) (ka : Word32), Completes (.keepaliveCommit w ka) s fun t => t.rd NET_MGMT_TMC_SEEN w 0 = 1 ∧ t.rd THM_COOLANT_VALID w 0 = 1 ∧
      t.rd NET_MGMT_PLANNER_OK w 0 = s.rd TMC_KEEPALIVE0_PLANNER_OK w 0 ∧ t.rd NET_MGMT_ACTIVE_RMC w 0 = s.rd TMC_KEEPALIVE0_ACTIVE_RMC w 0 ∧
      t.rd NET_MGMT_RMC0_SEEN w 0 = s.rd TMC_KEEPALIVE0_RMC0_SEEN w 0 ∧ t.rd NET_MGMT_RMC1_SEEN w 0 = s.rd TMC_KEEPALIVE0_RMC1_SEEN w 0 ∧
      t.rd NET_MGMT_STATIC_CAP w 0 = s.rd TMC_KEEPALIVE0_STATIC_CAP w 0) ∧
    (∀ (w : WaferId) (trayIn : BitVec 12) (valve : BitVec 7), (s.getTmcs w).running = true → (s.getWafers w).powered = true → Completes (.tmcKeepaliveTick w trayIn valve) s fun t =>
      t.rd NET_MGMT_TMC_SEEN w 0 = 1 ∧ (t.getTmcs w).seq = ((s.getTmcs w).seq + 1) % 65536 ∧ (t.getTmcs w).valve = s.rd TMC_REQ_VALVE_PCT w 0) ∧
    (∀ k : TmcId, (s.getTmcs k).running = true → (s.getTmcs k).absent = false → (s.getTmcs k).hears0 = false → (s.getTmcs k).hears1 = false → Completes (.rmcsAbsent k) s fun t =>
      (t.getTmcs k).absent = true ∧ (t.getTmcs k).events.length = (s.getTmcs k).events.length + 1) ∧
    (∀ w : WaferId, s.rd NET_MGMT_TMC_SEEN w 0 = 1 → Completes (.keepaliveTimeout w) s fun t =>
      t.rd NET_MGMT_TMC_SEEN w 0 = 0 ∧ t.rd THM_COOLANT_VALID w 0 = 0 ∧ t.leafSet w Leaf.tmcLost = true) ∧
    (∀ w : WaferId, (s.getWafers w).powered = true → s.inLive w (fun a => a.hasWafer w) = true → Completes (.waferLoss w) s fun t => (t.getWafers w).powered = false) ∧
    (∀ w : WaferId, p.haveActive = true → bitAt (s.getActs (p.liveAct % 2)).wafers w = true → (s.getWafers w).declaredLost = false → p.queue.length < 16 →
      p.change ≠ some (.dropWafer w) → Completes (.rmcDeclareWaferLost w) s fun t => (t.getWafers w).declaredLost = true ∧ .dropWafer w ∈ t.rack.planner.queue) ∧
    (3 ≤ p.missed → Completes .rmcTakeover s fun t => t.rack.planner.active = 1 - p.active ∧ t.rack.planner.haveActive = true ∧ t.rack.planner.missed = 0)

/-- A committed route entry is stored in an act that is FREE or LOADING, which is LOADING from then on, and discarded with RT_BUSY otherwise; up to 16 changes
are queued, in order; the head of the queue is built into the act that is not live once nothing of that act is in use; the cue of a built act starts its
rehearsal; a unit that waits in rehearsal status is queued for admission. (R217, R218, R220, R223, R231, R232.) -/
def Obligations.ActTablesAndChanges : Prop :=
  ∀ (s : State),
    let p := s.rack.planner
    (∀ (w : WaferId) (v : Word),
      let act := s.rd NET_RT_SEL_ACT w 0
      let kind := s.rd NET_RT_SEL_KIND w 0
      let index := s.rd NET_RT_SEL_INDEX w 0
      let field := if kind = 0 ∨ kind = 6 then 0 else s.rd NET_RT_SEL_FIELD w 0
      (s.actState w act < 2 → routeOk kind index = true → Completes (.routeTableWrite w v) s fun t => t.route w kind act field index = v.toNat ∧ t.actState w act = 1) ∧
      (2 ≤ s.actState w act → Completes (.routeTableWrite w v) s fun t => t.leafSet w Leaf.rtBusy = true ∧ t.route w kind act field index = s.route w kind act field index)) ∧
    (∀ c : ActChange, p.haveActive = true →
      (p.queue.length < 16 → Completes (.actChangeRequest c) s fun t => t.rack.planner.queue = p.queue ++ [c] ∧ t.rack.planner.actFaults = p.actFaults) ∧
      (16 ≤ p.queue.length → Completes (.actChangeRequest c) s fun t => t.rack.planner.queue = p.queue ∧ t.rack.planner.actFaults = p.actFaults + 1)) ∧
    (∀ (es : List RouteEntry) (c : ActChange) (rest : List ActChange), p.haveActive = true → p.queue = c :: rest → (p.step = .none ∨ p.step = .built) →
      (∀ w < 36, s.actState w s.nextAct < 2) → (∀ k < 16, s.chipActState k s.nextAct < 2) → Completes (.actBuild es) s fun t =>
        t.rack.planner.step = .built ∧ t.rack.planner.change = some c ∧ t.rack.planner.queue = rest ∧ (t.getActs s.nextAct).gen = ((s.getActs (p.liveAct % 2)).gen + 1) % 2 ^ 32) ∧
    (∀ (time : BitVec 64) (mid : Word32), p.haveActive = true → p.step = .built → (∀ w < 36, ∀ a < 2, s.actState w a ≠ 4) →
      (∀ w < 36, s.reg NET_ACT_APPLY_TIME w 0 + 20000 ≤ time.toNat) → Completes (.actCue time mid) s fun t =>
        t.rack.planner.step = .rehearsing ∧ t.rack.planner.cueActive = true ∧ t.rack.planner.cueMid = mid.toNat ∧ t.rack.planner.cueMembers = (s.getActs s.nextAct).wafers) ∧
    (∀ c : ActChange, p.haveActive = true → s.awaits c = true → p.queue.length < 16 → p.change ≠ some c → Completes (.unitAdmit c) s fun t => c ∈ t.rack.planner.queue)

/-- A drained plane or wafer reports itself quiet; with every drain domain quiet, and at the deadline in any case, the old act is FREE on every chip and the
change is over; a B72 or spine that is lost is taken out of the running act; the TMC resets a B72 that no act uses, which then shows the machine's number.
(R221, R222, R226, R228, R229, R237.) -/
def Obligations.DrainAndLostUnits : Prop :=
  ∀ (s : State),
    let p := s.rack.planner
    let ended := fun (t : State) => t.rack.planner.step = .none ∧ t.rack.planner.change = none ∧ t.rack.planner.drainQuiet = [] ∧ ∀ c < 16, ∀ a < 2, t.chipActState c a ≠ 4
    (∀ c : PlaneId, s.chipActState c 0 = 4 ∨ s.chipActState c 1 = 4 → Completes (.elementQuiet (.plane c)) s fun t =>
      t.rd B72_ACT_STAT_LOCAL_QUIET c 0 = 1 ∧ c.val ∈ t.rack.planner.drainQuiet) ∧
    (∀ (w : WaferId) (a : Nat), s.drainingAct w = some a → s.holdsNone w a = true → s.rd NET_ACT_STAT_LOCAL_QUIET w 0 = 0 → Completes (.elementQuiet (.wafer w)) s fun t =>
      t.rd NET_ACT_STAT_LOCAL_QUIET w 0 = 1 ∧ t.leafSet w Leaf.localQuiet = true) ∧
    (p.haveActive = true → p.step = .draining → s.allQuiet = true → Completes .actFree s ended) ∧
    (p.haveActive = true → p.step = .draining → Completes .drainDeadline s ended) ∧
    (∀ c : PlaneId, Completes (.b72Loss c) s fun t => bitAt t.rack.planner.lostPlanes c = true ∧ (∀ q < 72, t.reg B72_PORT c q = B72_PORT.resetAt q) ∧
      (p.haveActive = true → bitAt (s.getActs (p.liveAct % 2)).planes c = true → p.queue.length < 16 → p.change ≠ some (.dropPlane c) → .dropPlane c ∈ t.rack.planner.queue)) ∧
    (∀ (w : WaferId) (f : FieldId), s.spineOn w f = false → s.inLive w (fun a => a.hasSpine w f) = true → p.haveActive = true → f.val ≠ hostBridge (s.rd BUP_STAT_HOST w 0) →
      p.queue.length < 16 → p.change ≠ some (.dropSpine w f) → Completes (.spineLoss w f) s fun t => .dropSpine w f ∈ t.rack.planner.queue ∧ t.getInjects (niKey w f) = {}) ∧
    (∀ c : PlaneId, bitAt (s.getActs (p.liveAct % 2)).planes c = false → (∀ a < 2, s.chipActState c a < 2) → p.step ≠ .draining → (s.getTmcs (36 + c.val / 2)).running = true →
      Completes (.unitPlannedReset (.chip c)) s fun t => bitAt t.rack.planner.lostPlanes c = false ∧ t.rd B72_ACT_STAT_MACHINE c 0 = p.machineNo % 16 ∧
        t.chipActState c 0 = 0 ∧ t.chipActState c 1 = 0)

/-- A load starts with its source and scope read from the control registers; an image that passes every check is expanded under the lock of its scope, and one
that fails a check fails the load with that check's error and step; an expanded image without ACTS section and CONST block completes the load, and one
whose ACTS section the active RMC takes does too; without that answer, or by an abort, the load fails. A push of a sound source starts with every
destination outside the act failed; it ends COMPLETE once nothing of it waits or is unacknowledged and no destination has failed, FAILED otherwise; an
abort ends it at once. (R256, R257, R259, R260, R262, R263, R258, R273, R350.) -/
def Obligations.LoadsAndPushes : Prop :=
  (∀ (w : WaferId) (s : State),
     let l := s.getLoads w
     (∀ path : PathId, s.loading w = false → Completes (.imageLoadStart w path) s fun t => t.rd IMG_STAT_STATE w 0 = 1 ∧ t.rd IMG_STAT_STEP w 0 = 1 ∧
       (t.getLoads w).field = s.rd IMG_CTL_FIELD w 0 ∧ (t.getLoads w).off = s.reg IMG_SRC_OFF w 0 ∧ (t.getLoads w).len = s.reg IMG_LEN w 0 ∧
       (t.getLoads w).part = s.rd IMG_CTL_PART w 0 ∧ (t.getLoads w).path = path.val) ∧
     (∀ path : PathId, s.loading w = true → Completes (.imageLoadStart w path) s fun t => t.leafSet w Leaf.imgBusy = true ∧ t.getLoads w = l) ∧
     (s.rd IMG_STAT_STATE w 0 = 1 →
       let img := s.source w
       let early := earlyChecks w s l img fun o n => s.sourceBad w none o n
       (early = none → formatChecks l img = none → preChecks w s l img = none → Completes (.imageCheckDone w none) s fun t => t.rd IMG_STAT_STATE w 0 = 2 ∧ t.rd IMG_STAT_STEP w 0 = 9 ∧
         t.rd IMG_OBJECTS_OBJECTS w 0 = imgObjects l.wafer img % 2 ^ IMG_OBJECTS_OBJECTS.width ∧ (t.getCueUnits w).loadLock = some (b2n l.wafer, l.part)) ∧
       (∀ e, early = some e → Completes (.imageCheckDone w none) s fun t => t.rd IMG_STAT_STATE w 0 = 4 ∧ t.rd IMG_STAT_ERR w 0 = e.code % 2 ^ IMG_STAT_ERR.width ∧
         t.rd IMG_STAT_STEP w 0 = e.step % 2 ^ IMG_STAT_STEP.width ∧ t.leafSet w Leaf.imgFail = true ∧ t.wings = s.wings)) ∧
     (s.rd IMG_STAT_STATE w 0 = 2 → s.sourceBad w none 0 l.len = false → imgBlocks (s.source w) = [] → sectOf (s.source w) 3 = none → Completes (.imageExpansionDone w none) s fun t =>
       t.rd IMG_STAT_STATE w 0 = 3 ∧ t.leafSet w Leaf.imgDone = true) ∧
     (s.rd IMG_STAT_STATE w 0 = 5 → s.rack.planner.haveActive = true → ∀ x, sectOf (s.source w) 3 = some x → Completes (.actsHandoverAck w) s fun t =>
       t.rd IMG_STAT_STATE w 0 = 3 ∧ mget [] t.rack.planner.handed w = sliceOf (s.source w) x.off x.len) ∧
     (s.rd IMG_STAT_STATE w 0 = 5 → Completes (.actsAckTimeout w) s fun t => t.rd IMG_STAT_STATE w 0 = 4 ∧ t.rd IMG_STAT_ERR w 0 = 22) ∧
     (s.loading w = true → Completes (.imageLoadAbort w) s fun t => t.rd IMG_STAT_STATE w 0 = 4 ∧ t.rd IMG_STAT_ERR w 0 = 25 ∧ t.leafSet w Leaf.imgFail = true)) ∧
  (∀ (w : WaferId) (s : State),
     let ended := fun (t : State) => t.rd IMG_PUSH_STAT_STATE w 0 = (if t.reg IMG_PUSH_FAILED w 0 = 0 then 2 else 3) ∧ t.leafSet w Leaf.pushDone = true ∧ t.getPushes w = {}
     (s.rd IMG_PUSH_STAT_STATE w 0 ≠ 1 → s.loftDead w (s.rd IMG_CTL_FIELD w 0) = false → s.loftOn w (s.rd IMG_CTL_FIELD w 0) = true →
       (∀ o ∈ linesOf (s.reg IMG_SRC_OFF w 0) (s.reg IMG_LEN w 0), s.poisoned w (s.rd IMG_CTL_FIELD w 0) o = false) → Completes (.pushStart w none) s fun t =>
         t.rd IMG_PUSH_STAT_STATE w 0 = 1 ∧ (t.getPushes w).len = s.reg IMG_LEN w 0 ∧ (t.getPushes w).dstField = s.rd IMG_PUSH_CTL_DST_FIELD w 0 ∧
         ∀ n < 36, bitAt (t.reg IMG_PUSH_FAILED w 0) n = (bitAt (s.reg IMG_PUSH_DST w 0) n && n != w.val && !s.inAct w n)) ∧
     (s.rd IMG_PUSH_STAT_STATE w 0 = 1 → Completes (.pushAbort w) s ended) ∧
     (s.rd IMG_PUSH_STAT_STATE w 0 = 1 → (∀ n < 36, s.pushLeft w n = false) → Completes (.pushDone w) s fun t => ended t ∧ t.reg IMG_PUSH_FAILED w 0 = s.reg IMG_PUSH_FAILED w 0))

/-- A start in slots 1 to 7 with no other cue under way and no load locked rehearses with the scope, partition and schedule written; a DISARM ends a slot that
waits, rehearses or is armed, and leaves any other alone; a cue that passes rehearsal is armed, and one that breaks a rule, or rehearses for too long,
fails with the rule and object and with its wings kept. (R276, R279, R282, R283, R287.) -/
def Obligations.CueStartsAndRehearsal : Prop :=
  ∀ (w : WaferId) (s : State),
    (∀ (path : PathId) (v : Word32), let c := bits v.toNat 2 0; let scope := bits v.toNat 5 4; let p := bits v.toNat 14 6
      c ≠ 0 → scope < 2 → (scope = 0 → p < 288) → bitAt v.toNat 17 = false → (∀ d < 8, s.rd CUE_SSTAT_STATE w d = 0 ∨ 5 ≤ s.rd CUE_SSTAT_STATE w d) → (s.getCueUnits w).loadLock = none →
      Completes (.cueStart w path v) s fun t => t.rd CUE_SSTAT_STATE w c = 2 ∧ t.rd CUE_SSTAT_SCOPE w c = scope ∧ t.rd CUE_SSTAT_PART w c = (if scope = 0 then p else 0) ∧
        t.rd CUE_SSTAT_SCHED w c = bits v.toNat 15 15 ∧ (t.getSlots (w.val * 8 + c)).time = s.reg CUE_TIME w 0 ∧ t.wings = s.wings) ∧
    (∀ (path : PathId) (v : Word32), let c := bits v.toNat 2 0
      (1 ≤ s.rd CUE_SSTAT_STATE w c → s.rd CUE_SSTAT_STATE w c ≤ 3 → Completes (.cueDisarm w path v) s fun t => t.rd CUE_SSTAT_STATE w c = 7 ∧
        t.rd CUE_SSTAT_DISARM_WHY w c = (if bits v.toNat 31 24 ≠ 0 ∧ s.rd CUE_SSTAT_SCOPE w c = 2 then 4 else 1) ∧ t.rd CUE_SFAIL_RULE w c = bits v.toNat 31 24 ∧
        t.leafSet w Leaf.cueDisarm = true ∧ t.wings = s.wings) ∧
      (s.rd CUE_SSTAT_STATE w c = 0 ∨ 3 < s.rd CUE_SSTAT_STATE w c → Completes (.cueDisarm w path v) s fun t => t.reg CUE_SSTAT w c = s.reg CUE_SSTAT w c ∧ t.wings = s.wings)) ∧
    (∀ c : Fin 8, s.rd CUE_SSTAT_STATE w c = 2 →
      let scope := s.rd CUE_SSTAT_SCOPE w c
      let p := s.rd CUE_SSTAT_PART w c
      let ch := s.cueChanges w scope p
      let x : Reh := ⟨w, scope, p, c, ch, s, s.afterCue w ch⟩
      (x.verdict = none → Completes (.rehearsalDone w c) s fun t => t.rd CUE_SSTAT_STATE w c = 3 ∧ t.rd CUE_SFAIL_OBJECTS w c = min (countObjs ch) 8191 ∧ t.wings = s.wings) ∧
      ∀ e, x.verdict = some e → Completes (.rehearsalDone w c) s fun t => t.rd CUE_SSTAT_STATE w c = 6 ∧ t.rd CUE_SFAIL_RULE w c = e.rule % 2 ^ CUE_SFAIL_RULE.width ∧
        t.rd CUE_SFAIL_OBJ_KIND w c = e.kind % 2 ^ CUE_SFAIL_OBJ_KIND.width ∧ t.leafSet w Leaf.cueFail = true ∧ t.wings = s.wings) ∧
    (∀ c : Fin 8, 1 ≤ s.rd CUE_SSTAT_STATE w c → s.rd CUE_SSTAT_STATE w c ≤ 2 → Completes (.rehearsalTimeout w c) s fun t =>
      t.rd CUE_SSTAT_STATE w c = 6 ∧ t.rd CUE_SFAIL_RULE w c = 20 ∧ t.leafSet w Leaf.cueFail = true ∧ t.wings = s.wings)

/-- An armed cue applies when its partitions stand between steps, or when the counter reaches its value: the changed registers and their wings exchange roles;
a machine cue without its go frame is disarmed at its value and changes nothing; when the wings are copied the cue is done, with every wings copy of its
scope as live. (R49, R275, R283, R284, R286, R34.) -/
def Obligations.CuesApply : Prop :=
  ∀ (w : WaferId) (c : Fin 8) (s : State),
    let scope := s.rd CUE_SSTAT_SCOPE w c
    let p := s.rd CUE_SSTAT_PART w c
    let slot := s.getSlots (w.val * 8 + c.val)
    let ch := s.cueChanges w scope p
    let special := [PRT_DEF.id, PRT_QMASK.id, NET_SEAT_DATA.id, PROG_PTR.id, NET_ACT_STAMP.id, NET_ACT_GEN.id, PWR_OPPOINT.id, THM_GHOST.id]
    let plain := (∀ o ∈ ch, o.1.id ∉ special) ∧ (ch.map fun o => o.1.key w o.2).Nodup
    let applied := fun (t : State) => t.rd CUE_SSTAT_STATE w c = 4 ∧ t.reg CUE_STIME w c = s.tbNow w ∧ ∀ o ∈ ch,
      t.reg o.1 w o.2 = (s.reg o.1 w o.2 &&& notBits 64 o.1.st) ||| (s.wreg o.1 w o.2 &&& o.1.st) ∧
      t.wreg o.1 w o.2 = (s.wreg o.1 w o.2 &&& notBits 64 o.1.st) ||| (s.reg o.1 w o.2 &&& o.1.st)
    (s.rd CUE_SSTAT_STATE w c = 3 → s.rd CUE_SSTAT_SCHED w c = 0 → (∀ r ∈ slot.waitParts, (s.part w r).cmd = none) → plain → Completes (.cueApply w c) s applied) ∧
    (s.rd CUE_SSTAT_STATE w c = 3 → s.rd CUE_SSTAT_SCHED w c = 1 → slot.time ≤ s.tbNow w →
      (scope ≠ 2 ∨ slot.go = true → plain → Completes (.schedCueValue w c) s applied) ∧
      (scope = 2 → slot.go = false → Completes (.schedCueValue w c) s fun t => t.rd CUE_SSTAT_STATE w c = 7 ∧ t.rd CUE_SFAIL_RULE w c = 24 ∧ t.leafSet w Leaf.cueDisarm = true ∧
        t.wings = s.wings ∧ (t.getWafers w).outOfStep = (s.rack.planner.goSent.contains slot.mid || (s.getWafers w).outOfStep))) ∧
    (s.rd CUE_SSTAT_STATE w c = 4 → Completes (.wingsCopyDone w c) s fun t => t.rd CUE_SSTAT_STATE w c = 5 ∧ t.leafSet w Leaf.cueDone = true ∧
      ∀ o ∈ s.scopeObjs w scope p, t.wreg o.1 w o.2 = s.reg o.1 w o.2)

/-- The active RMC starts slot 0 of every powered member with one value and one identifier; once every member has armed or failed, sound checks send one go
frame to every tray and a failed one disarms every member that armed with its code; a member that does not arm in time disarms the others; a go frame that
names the cue in time lets it apply, and a damaged one is counted. (R288, R289, R34, R630.) -/
def Obligations.MachineCues : Prop :=
  ∀ s : State, s.rack.planner.haveActive = true →
    let p := s.rack.planner
    let ws := State.memberList p.cueMembers
    let armed := ws.filter fun w => s.rd CUE_SSTAT_STATE w 0 == 3 && (s.getSlots (w * 8)).mid == p.cueMid
    let frames := fun (t : State) => t.out.filter fun e => match e with | .timeFrame _ _ => true | _ => false
    let disarmed := fun (code : Nat) (t : State) => t.rack.planner.cueActive = false ∧ frames t = frames s ∧ ∀ w ∈ armed, t.rd CUE_SSTAT_STATE w 0 = 7 ∧ t.rd CUE_SFAIL_RULE w 0 = code
    (∀ (members : BitVec 36) (time : BitVec 64) (mid : Word32), p.rotation = none → Completes (.machineCueStart members time mid) s fun t =>
      t.rack.planner.cueActive = true ∧ t.rack.planner.cueMid = mid.toNat ∧ t.rack.planner.cueTime = time.toNat ∧ t.rack.planner.cueMembers = members.toNat ∧
      ∀ w ∈ State.memberList members.toNat, (s.getWafers w).powered = true → t.reg CUE_TIME w 0 = time.toNat ∧ t.reg CUE_MID w 0 = mid.toNat ∧ t.rd CUE_CTRL_SCOPE w 0 = 2) ∧
    (p.cueActive = true → (∀ w ∈ ws, s.rd CUE_SSTAT_STATE w 0 ≠ 1 ∧ s.rd CUE_SSTAT_STATE w 0 ≠ 2) →
      (s.machineCheck = 0 → (s.getRmcs p.active).clock.read s.now + 100000 < p.cueTime → Completes .machineCueCheck s fun t =>
        t.rack.planner.cueActive = false ∧ p.cueMid ∈ t.rack.planner.goSent ∧ ∀ tray < 44, .timeFrame tray (timeFrame 2 (leBytes 4 p.cueMid ++ leBytes 8 p.cueTime)) ∈ t.out) ∧
      (s.machineCheck ≠ 0 → Completes .machineCueCheck s (disarmed s.machineCheck))) ∧
    (p.cueActive = true → (∃ w ∈ ws, s.rd CUE_SSTAT_STATE w 0 ≠ 3) → Completes .machineCueArmTimeout s (disarmed 22)) ∧
    (∀ (w : WaferId) (bytes : List Byte),
      (∀ b, frameBody 2 16 (bytes.map BitVec.toNat) = some b → 1 ≤ s.rd CUE_SSTAT_STATE w 0 → s.rd CUE_SSTAT_STATE w 0 ≤ 3 → ofLeBytes (b.take 4) = (s.getSlots (w.val * 8)).mid →
        ofLeBytes (b.drop 4) = (s.getSlots (w.val * 8)).time → s.tbNow w + 100000 ≤ (s.getSlots (w.val * 8)).time → Completes (.goFrame w bytes) s fun t => (t.getSlots (w.val * 8)).go = true) ∧
      (frameBody 2 16 (bytes.map BitVec.toNat) = none → Completes (.goFrame w bytes) s fun t =>
        t.rd TB_EVENTS_FRAME_ERR w 0 = satAdd TB_EVENTS_FRAME_ERR.width (s.rd TB_EVENTS_FRAME_ERR w 0) 1))

/-- A TAKE waits behind the others, and is counted where the lease table is full; a decision grants the winner, or the tenured partition's next TAKE, one unit
and a lease, and sends the grant; a grant ends the core's wait and makes a lease of its command, and one that no core waits for is sent back; GIVE adds a
unit; CONSUME ends a lease and RETURN ends it and gives its unit back. (R391, R392, R393.) -/
def Obligations.Semaphores : Prop :=
  ∀ (w : WaferId) (n : SemId) (s : State),
    let m := s.getSemas (semaKey w n)
    let count := s.rd SEM_VAL_COUNT w n
    (∀ (src : BitVec 23) (spart : BitVec 9), Completes (.mgmtTake w n src spart) s fun t =>
      (t.getSemas (semaKey w n)).waiters = m.waiters ++ [⟨semaPart (addrSlot src.toNat) spart.toNat, src.toNat, s.now⟩] ∧ t.rd SEM_VAL_COUNT w n = count ∧
      t.rd SEM_STAT_WAITING w n = min (m.waiters.length + 1) 65535 ∧ t.rd SEM_TABLE_FULL_EVENTS w 0 =
        if 4096 ≤ s.rd SEM_TABLE_LEASES w 0 then satAdd SEM_TABLE_FULL_EVENTS.width (s.rd SEM_TABLE_FULL_EVENTS w 0) 1 else s.rd SEM_TABLE_FULL_EVENTS w 0) ∧
    (∀ x, count ≠ 0 → s.rd SEM_TABLE_LEASES w 0 < 4096 → m.waiters ≠ [] → (match m.tenure with | some p => m.waiters.find? fun y => y.part == p | none => s.semaWinner m.waiters) = some x →
      Completes (.semaDecision w n) s fun t => t.rd SEM_VAL_COUNT w n = count - 1 ∧ (t.getSemas (semaKey w n)).leases = m.leases ++ [x.part] ∧
        (t.getSemas (semaKey w n)).waiters = m.waiters.erase x ∧ t.rd SEM_TABLE_LEASES w 0 = s.rd SEM_TABLE_LEASES w 0 + 1 ∧
        (t.getSemas (semaKey w n)).tenure = (if (∃ y ∈ m.waiters.erase x, y.part = x.part) ∧ count ≠ 1 then some x.part else none) ∧
        ∃ q, t.niQueue w (82 + s.rd NET_SELF_HOST_FIELD w 0) noPart = s.niQueue w (82 + s.rd NET_SELF_HOST_FIELD w 0) noPart ++ [q] ∧ q.dest = x.core ∧ q.aux = 0x11 ∧ q.addr = semOffset n) ∧
    (count = 0 → s.donees w n = [] → Completes (.semaDecision w n) s fun t => t = s) ∧
    (Completes (.semaTenureEnd w n) s fun t => (t.getSemas (semaKey w n)).tenure = none ∧ (t.getSemas (semaKey w n)).waiters = m.waiters ∧ (t.getSemas (semaKey w n)).leases = m.leases) ∧
    (∀ (f : FieldId) (u : UnitId) (slot : WaferId), let c := s.core w f u
      (∀ p, c.part = some p → c.wait = .sema n slot → c.stepping = false → Completes (.mgmtGrant w f u n slot) s fun t => (t.core w f u).wait = .none ∧ (t.core w f u).pc = c.pc + 1 ∧
        (t.part w p).leases = (s.part w p).leases ++ [slot.val * 1024 + n.val]) ∧
      (∀ p, c.part = some p → c.wait ≠ .sema n slot → Completes (.mgmtGrant w f u n slot) s fun t => t.core w f u = c ∧
        ∃ q, t.niQueue w f p = s.niQueue w f p ++ [q] ∧ q.dest = s.arbiter slot ∧ q.aux = 0x14 ∧ q.addr = semOffset n)) ∧
    (count < 65535 → Completes (.mgmtGive w n) s fun t => t.rd SEM_VAL_COUNT w n = count + 1 ∧ t.getSemas (semaKey w n) = m) ∧
    (∀ (src : BitVec 23) (spart : BitVec 9), let part := semaPart (addrSlot src.toNat) spart.toNat
      part ∈ m.leases → (Completes (.mgmtConsume w n src spart) s fun t => (t.getSemas (semaKey w n)).leases = m.leases.erase part ∧ t.rd SEM_VAL_COUNT w n = count ∧
          t.rd SEM_TABLE_LEASES w 0 = s.rd SEM_TABLE_LEASES w 0 - 1) ∧
        (count < 65535 → Completes (.mgmtReturn w n src spart) s fun t => (t.getSemas (semaKey w n)).leases = m.leases.erase part ∧ t.rd SEM_VAL_COUNT w n = count + 1 ∧
          t.rd SEM_TABLE_LEASES w 0 = s.rd SEM_TABLE_LEASES w 0 - 1))

/-- A doorbell moves the tail or is discarded for the first reason that applies; the Serving Engine takes the next entry and answers a malformed, a repeated or
a stale one with a record, and otherwise runs it on the cores of the partition; a follower runs the entry that its lead sends. (R379, R380, R381, R382,
R384.) -/
def Obligations.DoorbellsAndTaking : Prop :=
  ∀ (w : WaferId) (p : PartId) (s : State),
    (∀ (q : Fin 64) (tail : Word32), let i := queueIdx p q; let fwd := fun (a b : Nat) => (a + 2 ^ 32 - b) % 2 ^ 32
      let reason := if s.defined w p = false ∨ s.rd PRT_QCFG_QUEUES w p ≤ q then 1 else if s.partState w p = 3 ∨ s.partState w p = 4 then 2
        else if s.ringSize w p < fwd tail.toNat (s.reg CQ_HEAD w i) ∨ 2 ^ 31 ≤ fwd tail.toNat (s.reg CQ_TAIL w i) then 3 else if s.stepQueue w p = some q.val then 4
        else if s.isLead w p = false then 5 else 0
      (reason = 0 → Completes (.doorbell w p q tail) s fun t => t.rd CQ_TAIL_COUNT w i = tail.toNat) ∧
      (reason ≠ 0 → Completes (.doorbell w p q tail) s fun t => t.reg CQ_TAIL w i = s.reg CQ_TAIL w i ∧ t.leafSet w Leaf.badDoorbell = true ∧
        (s.rd CQ_BADDB_VALID w 0 = 0 → t.rd CQ_BADDB_VALID w 0 = 1 ∧ t.rd CQ_BADDB_PART w 0 = p.val ∧ t.rd CQ_BADDB_QUEUE w 0 = q.val ∧ t.rd CQ_BADDB_REASON w 0 = reason))) ∧
    (s.mayTake w p = true → ∀ q < 64, s.pickQueue w p = some q → mfind (s.part w p).cut q = none → s.stepQueue w p ≠ some q →
      let i := queueIdx p q
      let bs := padTo 64 (seRead w p (s.entryOff w p q (s.reg CQ_HEAD w i)) 64 s).1
      let c := entryOf q bs
      let took := fun (t : State) => t.rd CQ_HEAD_COUNT w i = (s.rd CQ_HEAD_COUNT w i + 1) % 2 ^ 32
      let answered := fun (t : State) => took t ∧ (t.part w p).cmd = none ∧ t.rd CQ_CTAIL_COUNT w i = (s.rd CQ_CTAIL_COUNT w i + 1) % 2 ^ 32 ∧ t.leafSet w Leaf.cmdDone = true
      (s.entryBad w p c bs = true → Completes (.commandTake w p none) s answered) ∧
      (s.entryBad w p c bs = false → c.seq ≤ s.rd CQ_HWM_SEQ w i → mfind (s.results w p q) c.seq ≠ none → Completes (.commandTake w p none) s fun t =>
        answered t ∧ t.rd CQ_DUP_COUNT w i = satAdd CQ_DUP_COUNT.width (s.rd CQ_DUP_COUNT w i) 1) ∧
      (s.entryBad w p c bs = false → c.seq ≤ s.rd CQ_HWM_SEQ w i → mfind (s.results w p q) c.seq = none → Completes (.commandTake w p none) s fun t =>
        answered t ∧ t.rd CQ_STALE_COUNT w i = satAdd CQ_STALE_COUNT.width (s.rd CQ_STALE_COUNT w i) 1) ∧
      (s.entryBad w p c bs = false → s.rd CQ_HWM_SEQ w i < c.seq → Completes (.commandTake w p none) s fun t =>
        took t ∧ (t.part w p).cmd = some c ∧ t.partState w p = 2 ∧ ∀ x ∈ s.cmdCores w p, let k := t.core w x.1 x.2.1
          k.part = some p.val ∧ k.cb = [] ∧ k.mode = s.reg CORE_MODE w x.1 ∧ (bitAt c.flags 0 = true → k.st = .run ∧ k.pc = c.entry))) ∧
    (∀ (q : Fin 64) (bytes : List Byte), s.defined w p = true → s.isLead w p = false → s.partState w p = 1 → s.pmt w p = 0 → (s.part w p).cmd = none →
      let bs := bytes.map BitVec.toNat
      let c : Cmd := { entryOf q bs with step := bitAt (fieldOf bs 6 2) 1 }
      Completes (.cmdFwd w p q bytes) s fun t => (t.part w p).cmd = some c ∧ t.partState w p = 2 ∧ ∀ x ∈ s.cmdCores w p, (t.core w x.1 x.2.1).part = some p.val)

/-- With every core idle a single-wafer command commits and its commit buffers empty, and a follower reports to its lead; the lead notes each report; the end
that the lead sends commits the follower's part or discards it with the status; a committed command with nothing left to drain leaves its leases, its
result, the high-water mark and its completion record. (R383, R384, R385.) -/
def Obligations.CommitAndCompletion : Prop :=
  ∀ (w : WaferId) (p : PartId) (s : State) (c : Cmd), (s.part w p).cmd = some c →
    let pt := s.part w p
    let i := queueIdx p c.queue
    (c.committed = false → s.partState w p = 2 → s.coresIdle w p = true →
      (s.isLead w p = true → s.peersOf w p = [] → Completes (.commitInstant w p none) s fun t =>
        (∃ d, (t.part w p).cmd = some d ∧ d.committed = true ∧ d.commitTime = s.tbNow w ∧ d.seq = c.seq ∧ d.queue = c.queue) ∧
        ∀ x ∈ s.cmdCores w p, (s.core w x.1 x.2.1).part = some p.val → (t.core w x.1 x.2.1).cb = []) ∧
      (∀ l, s.isLead w p = false → s.leadOf w p = some l → w.val ∉ pt.reported → Completes (.commitInstant w p none) s fun t => (t.part w p).cmd = some c ∧
        (t.part w p).reported = pt.reported ++ [w.val] ∧ ∃ k ∈ t.niQueue w (s.home w p) p, k.aux = 0x21 ∧ k.addr = c.queue)) ∧
    (∀ (q : Fin 64) (seq : BitVec 48) (src : WaferId), s.isLead w p = true → c.queue = q.val → c.seq = seq.toNat → c.committed = false → src.val ∉ pt.reported →
      Completes (.idleReport w p q seq src) s fun t => (t.part w p).reported = pt.reported ++ [src.val] ∧ (t.part w p).cmd = some c) ∧
    (∀ (q : Fin 64) (seq : BitVec 48) (status : Byte), s.isLead w p = false → c.queue = q.val → c.seq = seq.toNat → c.committed = false →
      (status = 0 → Completes (.cmdEnd w p q seq status) s fun t => ∃ d, (t.part w p).cmd = some d ∧ d.committed = true ∧ d.commitTime = s.tbNow w ∧ d.seq = c.seq) ∧
      (status ≠ 0 → Completes (.cmdEnd w p q seq status) s fun t => (t.part w p).cmd = none ∧ t.partState w p ≠ 2 ∧
        (t.results w p q).head? = some (c.seq, status.toNat + 256 * c.flagBits))) ∧
    (c.committed = true → c.step = false → c.seq < 2 ^ 48 → c.queue < 64 → s.draining w p = false → s.isLead w p = true → s.peersOf w p = [] → s.partState w p = 2 → pt.phase = .none → pt.donating = false →
      Completes (.commandComplete w p) s fun t => (t.part w p).cmd = none ∧ (t.part w p).leases = [] ∧ t.partState w p = 1 ∧ t.reg CQ_HWM w i = max (s.reg CQ_HWM w i) c.seq ∧
        (t.results w p c.queue).head? = some (c.seq, c.status + 256 * c.flagBits) ∧ t.rd CQ_CTAIL_COUNT w i = (s.rd CQ_CTAIL_COUNT w i + 1) % 2 ^ 32 ∧ t.leafSet w Leaf.cmdDone = true)

/-- JOIN and LEAVE move a slot as the table of its state says, refused ones are counted; a boundary frees leaving slots, lets a joining one in and makes the
next step due over the active ones; a follower takes the batch that its lead sends, and a lead the done bits of its followers. (R386, R387, R388, R390.) -/
def Obligations.SlotsAndSteps : Prop :=
  ∀ (w : WaferId) (s : State),
    (∀ slot : BitVec 13, let p := s.rd SE_SEL_PART w 0; let n := slot.toNat; let x := s.slot w p n
      let refused := fun (t : State) => t.rd SE_REFUSED_COUNT w p = satAdd SE_REFUSED_COUNT.width (s.rd SE_REFUSED_COUNT w p) 1 ∧ t.slot w p n = x
      (s.isLead w p = true → x.st = .free → Completes (.slotJoin w slot) s fun t => t.slot w p n = { st := .joining, tag := s.reg SE_SLOT_TAG w p }) ∧
      (s.isLead w p = false ∨ x.st ≠ .free → Completes (.slotJoin w slot) s refused) ∧
      (s.isLead w p = true → x.st = .active → Completes (.slotLeave w slot) s fun t => t.slot w p n = { x with st := .leaving }) ∧
      (s.isLead w p = true → x.st = .joining ∨ x.st = .done → Completes (.slotLeave w slot) s fun t => (t.slot w p n).st = .free) ∧
      (s.isLead w p = true → x.st = .leaving → Completes (.slotLeave w slot) s fun t => t = s) ∧
      (s.isLead w p = false ∨ x.st = .free → Completes (.slotLeave w slot) s refused)) ∧
    (∀ p : PartId, s.atBoundary w p = true → (s.part w p).stepRan = false → s.cueBlocks w p = false → (s.part w p).rotationDue = false →
      (s.slots w p ≠ [] → (∀ x ∈ s.slots w p, x.2.st = .active) → Completes (.stepBoundary w p) s fun t => (t.part w p).stepDue = true ∧ (t.part w p).batch = (s.slots w p).length) ∧
      (∀ (n : Nat) (x : SeSlot), s.slots w p = [(n, x)] → x.st = .joining → Completes (.stepBoundary w p) s fun t =>
        (t.slot w p n).st = .active ∧ (t.part w p).stepDue = true ∧ (t.part w p).batch = 1) ∧
      (∀ (n : Nat) (x : SeSlot), s.slots w p = [(n, x)] → x.st = .leaving → Completes (.stepBoundary w p) s fun t => t.slots w p = [] ∧ (t.part w p).stepDue = false)) ∧
    (∀ (p : PartId) (off : BitVec 20) (bytes : List Byte), let bs := bytes.map BitVec.toNat
      s.isLead w p = false → s.defined w p = true → off = 0x40 → Completes (.batchFwd w p off bytes) s fun t => (t.part w p).batch = fieldOf bs 8 4) ∧
    (∀ (p : PartId) (src : WaferId) (off : BitVec 10) (bytes : List Byte), s.isLead w p = true → Completes (.doneBits w p src off bytes) s fun t =>
      (t.part w p).peersReady = (src.val * 2 + off.toNat / 512 % 2) :: (s.part w p).peersReady)

/-- A forwarded fault faults a follower with its cause and a lead with PEER_FAULT; RESET_SEQ clears an idle, empty queue's high-water mark and record; a
curtain discards a command that has not committed, empties the queues and zeroes the quarters one after another, and ends with every slot free and the
partition idle. (R375, R376, R395, R411, R346.) -/
def Obligations.CurtainsAndFaults : Prop :=
  ∀ (w : WaferId) (p : PartId) (s : State),
    (∀ cause : BitVec 3, s.defined w p = true → s.partState w p = 1 ∨ s.partState w p = 2 → Completes (.faultFwd w p cause) s fun t => t.partState w p = 3 ∧
      t.rd PRT_FAULT_CAUSE w p = (if s.isLead w p then 6 else cause.toNat) ∧ t.leafSet w Leaf.partFault = true) ∧
    (let r := s.rd CQ_SEL_PART w 0; let q := s.rd CQ_SEL_QUEUE w 0; let i := queueIdx r q
      s.partState w r = 1 ∨ s.partState w r = 0 → s.reg CQ_HEAD w i = s.reg CQ_TAIL w i → mfind (s.part w r).cut q = none → Completes (.resetSeq w) s fun t =>
        t.reg CQ_HWM w i = 0 ∧ t.results w r q = []) ∧
    (s.defined w p = true → s.partState w p ≠ 4 →
      ((∀ c, (s.part w p).cmd = some c → c.committed = false) → Completes (.curtain w p) s fun t => t.partState w p = 4 ∧ (t.part w p).cmd = none ∧ (t.part w p).zeroing = s.quads w p ∧ t.pmt w p = 0 ∧
        ∀ q < 64, t.reg CQ_HEAD w (queueIdx p q) = 0 ∧ t.reg CQ_TAIL w (queueIdx p q) = 0 ∧ t.reg CQ_CTAIL w (queueIdx p q) = 0 ∧ t.reg CQ_CHEAD w (queueIdx p q) = 0) ∧
      (∀ c, (s.part w p).cmd = some c → c.committed = true → Completes (.curtain w p) s fun t => t.partState w p = 4 ∧ (t.part w p).cmd = some c)) ∧
    (s.defined w p = false ∨ s.partState w p = 4 → Completes (.curtain w p) s fun t => t = s) ∧
    (∀ q : QuadId, (allParts.find? fun r => (s.part w r).zeroing.contains q.val) = some p.val → (∀ x ∈ (s.part w p).zeroing, x / 4 = q.val / 4 → q.val ≤ x) → Completes (.quarterZeroed w q) s fun t =>
      q.val ∉ (t.part w p).zeroing ∧ ∀ off, quarterBase (q.val % 4) ≤ off → off < quarterBase (q.val % 4) + quarterSize → t.loftByte w (q.val / 4) off = 0 ∧ t.poisoned w (q.val / 4) off = false) ∧
    (s.partState w p = 4 → (s.part w p).cmd = none → (s.part w p).zeroing = [] → Completes (.curtainDone w p) s fun t =>
      t.partState w p = 1 ∧ t.slots w p = [] ∧ (t.part w p).stepDue = false ∧ t.leafSet w Leaf.curtainDone = true)

/-- A cold start begins phase 0 on the host field that the boot record selects; a warm start and a power-off take the wafer down in order, and an undervoltage
of the bus at once; each phase that passes its tests sets its ready bit, and the next begins; an unreadable ledger stops bring-up, and a failed start test
goes to the other host field; late phases, ports and clocks are noted and bring-up goes on. (R301, R302, R303, R304, R305, R306, R307, R308, R309, R470,
R471.) -/
def Obligations.StartsAndPhases : Prop :=
  ∀ (w : WaferId) (s : State),
    let h := s.rd NET_SELF_HOST_FIELD w 0
    let ready := fun (n : Nat) (t : State) => t.rd BUP_STAT_READY w 0 = s.rd BUP_STAT_READY w 0 ||| 2 ^ n ∧ t.rd BUP_STAT_PHASE w 0 = n + 1 ∧ t.leafSet w Leaf.phaseDone = true
    let trial := (s.getFws (fwKey 1 w)).find 3 = some (s.getFws (fwKey 1 w)).running
    (∀ (bus : BitVec 16) (k : Nat), (s.getWafers w).powered = false → (s.getWafers w).interlockOpen = false → (s.getTmcs w).running = true → (s.getLedgers w).boot = some k →
      Completes (.coldStart w bus) s fun t => (t.getWafers w).powered = true ∧ t.rd BUP_STAT_START_KIND w 0 = 0 ∧ t.rd BUP_STAT_PHASE w 0 = 0 ∧ t.rd BUP_STAT_READY w 0 = 0 ∧
        t.rd BUP_STAT_HOST w 0 = k ∧ (t.getBups w).starting = true) ∧
    ((s.getWafers w).powered = true → (s.getWafers w).downSeq ≠ some 0 → Completes (.warmStart w) s fun t => t.rd BUP_STAT_READY w 0 = 0 ∧
      ((t.getWafers w).downSeq = some 1 ∨ t.rd BUP_STAT_START_KIND w 0 = 1)) ∧
    ((s.getWafers w).powered = true → Completes (.trayPowerOff w) s fun t => (t.getWafers w).powered = false ∨ (t.getWafers w).downSeq = some 0) ∧
    (∀ torn : Bool, (s.getWafers w).powered = true → Completes (.busUndervolt w torn) s fun t => (t.getWafers w).powered = false ∧ t.allOff w = true ∧
      (t.getLedgers w).slots = if torn = true ∧ (s.getLedgers w).slots.length < 65536 then (s.getLedgers w).slots ++ [{ torn := true }] else (s.getLedgers w).slots) ∧
    (∀ straps : BitVec 7, s.inPhase w 0 = true → s.domState w (452 + h) = 3 →
      let l := ((agreeFlags w ((readStraps w straps.toNat s).modLedgers w fun l => { l with openBank := none, bad := false })).getLedgers w)
      (l.hostDead h = false → l.retired (hostBridge h) = false → Completes (.bringupPhase0 w straps true) s fun t => ready 0 t ∧ t.rd NET_SELF_SLOT w 0 = straps.toNat % 64 ∧ (t.getHifs w).termination = true) ∧
      (Completes (.bringupPhase0 w straps false) s fun t => t.rd BUP_STAT_PHASE w 0 = 6 ∧ t.rd BUP_STAT_STOP w 0 = 1 ∧ t.leafSet w Leaf.stopped = true)) ∧
    (s.inPhase w 0 = true → ¬ trial → Completes (.hostStartTestTimeout w) s fun t => (t.getLedgers w).h0Live = ((s.getLedgers w).h0Live && h != 0) ∧
      (t.getLedgers w).h1Live = ((s.getLedgers w).h1Live && h != 1) ∧ (((h = 0 ∧ (s.getLedgers w).h1Live = true) ∨ (h = 1 ∧ (s.getLedgers w).h0Live = true)) →
        t.rd BUP_STAT_HOST w 0 = 1 - h ∧ t.rd BUP_STAT_PHASE w 0 = 0 ∧ (t.getBups w).starting = true)) ∧
    (s.inPhase w 1 = true → s.rd TB_STAT_QUALITY w 0 ≠ 0 → Completes (.ppsLockTimeout w) s fun t => (t.getBups w).ppsTimeout = true ∧ t.rd TB_STAT_QUALITY w 0 = 2) ∧
    (∀ xs, s.inPhase w 1 = true → s.domsReady w (s.usableDoms w 288 72) = true → s.rd TB_STAT_QUALITY w 0 = 0 →
      ((dropCondemned w (addFindings w 1 xs (failedDoms w 1 objSpine 3 288 72 id s))).getLedgers w).retired (hostBridge h) = false →
      Completes (.bringupPhase1 w xs) s fun t => ready 1 t ∧ t.rd BUP_STAT_PPS_LOCKED w 0 = 1) ∧
    (∀ xs, s.inPhase w 2 = true → s.domsReady w (s.usableDoms w 360 72) = true → Completes (.bringupPhase2 w xs) s (ready 2)) ∧
    (∀ xs, s.inPhase w 3 = true → s.domsReady w (s.usableDoms w 432 20) = true → (∀ d ∈ s.usableDoms w 432 20, s.portSettled w (d - 432) = true) →
      Completes (.bringupPhase3 w xs) s (ready 3)) ∧
    (∀ p : PortId, s.inPhase w 3 = true → s.rd LNK_STAT_STATE w p = 1 → Completes (.portTrainTimeout w p) s fun t => p.val ∈ (t.getBups w).portsOut) ∧
    (∀ xs cs ms, s.inPhase w 4 = true → (s.getBups w).powering = false → Completes (.bringupPhase4 w xs cs ms) s fun t => (t.getBups w).powering = true ∧ t.rd BUP_STAT_PHASE w 0 = 4) ∧
    (∀ xs, s.inPhase w 4 = true → (s.getBups w).powering = true → s.domsReady w (s.usableDoms w 0 288) = true → Completes (.bringupDone w xs) s fun t => ready 4 t ∧ (t.getBups w).starting = false) ∧
    ((s.getBups w).starting = true → s.rd BUP_STAT_PHASE w 0 ≤ 4 → (s.getBups w).slow = false → ¬ trial → Completes (.phaseSlow w) s fun t =>
      (t.getBups w).slow = true ∧ t.leafSet w Leaf.phaseSlow = true ∧ t.rd BUP_STAT_PHASE w 0 = s.rd BUP_STAT_PHASE w 0)

/-- A ledger fetch ends with the eight words of its slot, or says that the slot is empty or torn; a factory-depth retest starts only under its conditions, an
abort leaves the old bank, and a commit starts a new epoch with what it found; a field retest starts only under its conditions, zeroes the loft and ends
passed or retired. (R319, R324, R325, R326, R327.) -/
def Obligations.LedgerAndRetests : Prop :=
  ∀ (w : WaferId) (s : State),
    let l := s.getLedgers w
    (∀ slot : BitVec 16, Completes (.ledgerFetch w slot) s fun t => t.reg BUP_LDG_SEL w 0 = slot.toNat ∧ t.rd BUP_LDG_FETCH_BUSY w 0 = 1 ∧ (t.getLedgers w).fetching = some slot.toNat) ∧
    (∀ k, l.fetching = some k →
      (l.slots[k]? = none → Completes (.ledgerFetchDone w) s fun t => t.rd BUP_LDG_FETCH_BUSY w 0 = 0 ∧ t.rd BUP_LDG_FETCH_RESULT w 0 = 1) ∧
      (∀ x, l.slots[k]? = some x → x.torn = true → Completes (.ledgerFetchDone w) s fun t => t.rd BUP_LDG_FETCH_BUSY w 0 = 0 ∧ t.rd BUP_LDG_FETCH_RESULT w 0 = 2) ∧
      (∀ x, l.slots[k]? = some x → x.torn = false → Completes (.ledgerFetchDone w) s fun t => t.rd BUP_LDG_FETCH_BUSY w 0 = 0 ∧ t.rd BUP_LDG_FETCH_RESULT w 0 = 0 ∧
        ∀ i < 8, t.reg BUP_LDG_ENTRY w i = (entryWords k x).getD i 0 % 2 ^ 64)) ∧
    (∀ path : PathId, s.rd BUP_FDR_STAT_STATE w 0 ≠ 1 →
      (s.fdrAllowed w = true → Completes (.fdrStart w path) s fun t => t.rd BUP_FDR_STAT_STATE w 0 = 1 ∧ t.rd BUP_STAT_PHASE w 0 = 7 ∧ (t.getLedgers w).openBank = some [] ∧
        (t.getLedgers w).slots = l.slots ∧ t.reg BUP_FDR_ARM w 0 = 0) ∧
      (s.fdrAllowed w = false → Completes (.fdrStart w path) s fun t => t.rd BUP_FDR_STAT_STATE w 0 = 4 ∧ t.getLedgers w = l ∧ t.leafSet w Leaf.fdrDone = true)) ∧
    (s.rd BUP_FDR_STAT_STATE w 0 = 1 →
      (Completes (.fdrAbort w) s fun t => t.rd BUP_FDR_STAT_STATE w 0 = 3 ∧ t.getLedgers w = l ∧ t.rd BUP_STAT_PHASE w 0 = (if l.bad then 6 else 5) ∧ t.leafSet w Leaf.fdrDone = true) ∧
      (Completes (.fdrCommit w []) s fun t => t.rd BUP_FDR_STAT_STATE w 0 = 2 ∧ (t.getLedgers w).epoch = l.epoch + 1 ∧ (t.getLedgers w).slots = [])) ∧
    (∀ f : BitVec 7, s.rd BUP_RETEST_STAT_STATE w 0 ≠ 1 →
      (s.retestAllowed w f.toNat = true → Completes (.fieldRetestStart w f) s fun t => t.rd BUP_RETEST_STAT_STATE w 0 = 1 ∧ t.rd BUP_RETEST_STAT_FIELD w 0 = f.toNat ∧ t.rd BUP_STAT_RETEST w 0 = 1) ∧
      (s.retestAllowed w f.toNat = false → Completes (.fieldRetestStart w f) s fun t => t.rd BUP_RETEST_STAT_STATE w 0 = 4 ∧ t.rd BUP_RETEST_STAT_FIELD w 0 = f.toNat)) ∧
    (∀ xs cs ms, let f := s.rd BUP_RETEST_STAT_FIELD w 0
      s.rd BUP_RETEST_STAT_STATE w 0 = 1 → Completes (.fieldRetestDone w xs cs ms) s fun t => t.rd BUP_RETEST_STAT_STATE w 0 = (if (t.getLedgers w).retired f then 3 else 2) ∧
        t.rd BUP_STAT_RETEST w 0 = 0 ∧ t.leafSet w Leaf.retestDone = true ∧ ∀ off < 0x600000000, t.loftByte w f off = 0)

/-- A request is refused for the first reason that applies; otherwise a cut puts the command back at the head of its queue, a hold halts it, a committed
command drains first and an idle partition stops; resume restarts a stopped partition, restores a held command, or lets a latched fault take effect; a
follower does what its lead forwards. (R413, R416, R417, R420, R424, R430, R446.) -/
def Obligations.PreemptAndResume : Prop :=
  ∀ (w : WaferId) (p : PartId) (s : State),
    let st := s.partState w p
    let hold := s.rd PMT_MODE_MODE w p = 1
    let refused := fun (reason : Nat) (t : State) => t.pmt w p = s.pmt w p ∧ t.partState w p = st ∧ t.leafSet w Leaf.pmtRefused = true ∧
      (s.rd PMT_REFUSED_VALID w 0 = 0 → t.rd PMT_REFUSED_VALID w 0 = 1 ∧ t.rd PMT_REFUSED_REASON w 0 = reason ∧ t.rd PMT_REFUSED_PART w 0 = p.val)
    let stopping := fun (t : State) => t.pmt w p = 1 ∧ t.partState w p = 1 ∧ (t.part w p).phase = .surrender ∧ (t.part w p).endCode = 7 ∧ (t.part w p).discardAccept = true
    (s.defined w p = false → Completes (.preempt w p) s (refused 1) ∧ Completes (.resume w p) s (refused 1)) ∧
    (s.defined w p = true → s.isLead w p = false → Completes (.preempt w p) s (refused 3) ∧ Completes (.resume w p) s (refused 3)) ∧
    (s.defined w p = true → s.isLead w p = true → (st = 3 ∨ st = 4 ∨ s.pmt w p ≠ 0 → Completes (.preempt w p) s (refused 2)) ∧
      (s.pmt w p = 0 → st = 3 → s.rd PMT_STAT_LAST_END w p = 7 → Completes (.resume w p) s (refused 5)) ∧
      (s.pmt w p ≠ 2 → s.pmt w p ≠ 5 → ¬ (s.pmt w p = 0 ∧ st = 3 ∧ s.rd PMT_STAT_LAST_END w p = 7) → Completes (.resume w p) s (refused 4)) ∧
      (st ≠ 3 → st ≠ 4 → s.pmt w p = 0 → (∀ x ∈ s.cmdCores w p, (s.core w x.1 x.2.1).faultHeld = false) →
        ((s.part w p).cmd = none → Completes (.preempt w p) s stopping) ∧
        ∀ c, (s.part w p).cmd = some c →
          (c.committed = true → Completes (.preempt w p) s fun t => t.pmt w p = (if hold then 3 else 1) ∧ (t.part w p).phase = .draining ∧ (t.part w p).cmd = some c) ∧
          (c.committed = false → ¬ hold → Completes (.preempt w p) s fun t => t.pmt w p = 1 ∧ t.partState w p = 1 ∧ (t.part w p).phase = .surrender ∧ (t.part w p).endCode = 1 ∧
            (t.part w p).cmd = none ∧ mfind (t.part w p).cut c.queue = some { c with committed := false, peerLost := false } ∧ (t.part w p).leases = []) ∧
          (c.committed = false → hold → s.deadLoftIn w p = false → Completes (.preempt w p) s fun t => t.pmt w p = 3 ∧ t.partState w p = 5 ∧ (t.part w p).phase = .holdHalt ∧ (t.part w p).cmd = some c) ∧
          (c.committed = false → hold → s.deadLoftIn w p = true → Completes (.preempt w p) s fun t => t.pmt w p = 1 ∧ (t.part w p).endCode = 3 ∧ t.rd PMT_STAT_HTC_WHY w p = 2)) ∧
      (s.pmt w p = 2 → Completes (.resume w p) s fun t => t.pmt w p = 0 ∧ t.partState w p = 1 ∧ (t.part w p).discardAccept = false ∧ t.leafSet w Leaf.pmtResumed = true) ∧
      (s.pmt w p = 5 → s.rd PMT_STAT_FAULT_PENDING w p = 0 → s.rd PMT_STAT_CMD_SAVED w p = 1 → Completes (.resume w p) s fun t =>
        t.pmt w p = 6 ∧ (t.part w p).phase = .restoring ∧ t.leafSet w Leaf.pmtResumed = true) ∧
      (s.pmt w p = 5 → s.rd PMT_STAT_FAULT_PENDING w p = 1 → Completes (.resume w p) s fun t => t.partState w p = 3 ∧ t.rd PRT_FAULT_CAUSE w p = s.rd PMT_STAT_FAULT_CAUSE w p)) ∧
    (s.pmt w p = 0 → st = 1 → (s.part w p).cmd = none → (∀ x ∈ s.cmdCores w p, (s.core w x.1 x.2.1).faultHeld = false) → Completes (.pmtFwd w p 1) s stopping) ∧
    (s.pmt w p = 2 → Completes (.pmtFwd w p 2) s fun t => t.pmt w p = 0 ∧ t.partState w p = 1 ∧ t.leafSet w Leaf.pmtResumed = true)

/-- A surrender that takes too long resets the streams that hold packets; a cut is complete when nothing is unacknowledged; the cores of a held command halt, a
hold whose surrender takes too long becomes a cut, and one that has saved its cores is HELD; a restore sets the cores running again, or faults the
partition for a bad line; a donation that runs out of time is cut. (R420, R424, R430, R431, R435.) -/
def Obligations.HoldsAndDonations : Prop :=
  ∀ (w : WaferId) (p : PartId) (s : State),
    let pt := s.part w p
    (pt.phase = .surrender → Completes (.cutSurrenderTimeout w p) s fun t => t.rd PMT_LAST_SURR_RESET w p = min (s.net.sends.filter fun x =>
      streamNi x.1 / 128 = w && (s.fields w p).contains (streamNi x.1 % 128) && streamPart x.1 == p.val && !x.2.unacked.isEmpty).length 65535) ∧
    (pt.phase = .surrender → s.linkCredits w p = 0 → s.partState w p ≠ 3 → s.peersStopped w p = true → Completes (.cutComplete w p) s fun t =>
      t.pmt w p = 2 ∧ t.rd PMT_STAT_LAST_END w p = pt.endCode % 8 ∧ t.rd PMT_STAT_CMD_SAVED w p = 0 ∧ (t.part w p).phase = .none ∧ t.rd PMT_SAVE_FIELD_FIELD w p = s.home w p ∧
      t.rd PMT_SAVE_FIELD_VALID w p = 1 ∧ t.leafSet w Leaf.pmtDone = true) ∧
    (pt.phase = .holdHalt → pt.cmd ≠ none → Completes (.holdHaltDone w p) s fun t => (t.part w p).cmd = pt.cmd ∧ ((t.part w p).phase = .holdSurrender ∨ (t.part w p).phase = .holdSave ∧ t.pmt w p = 4) ∧
      ∀ x ∈ s.cmdCores w p, (s.core w x.1 x.2.1).part = some p.val → (t.core w x.1 x.2.1).st = .halt) ∧
    (pt.phase = .holdSurrender → Completes (.holdSurrenderTimeout w p) s fun t => t.pmt w p = 1 ∧ (t.part w p).phase = .surrender ∧ (t.part w p).endCode = 3 ∧ t.rd PMT_STAT_HTC_WHY w p = 1) ∧
    (pt.phase = .holdSave → s.peersStopped w p = true → pt.cmd ≠ none → Completes (.holdSaveDone w p) s fun t => t.pmt w p = 5 ∧ t.rd PMT_STAT_CMD_SAVED w p = 1 ∧
      t.rd PMT_STAT_LAST_END w p = 2 ∧ (t.part w p).held = true ∧ (t.part w p).phase = .none ∧ (t.part w p).cmd = pt.cmd ∧ (t.part w p).leases = pt.leases ∧ t.leafSet w Leaf.pmtDone = true) ∧
    (pt.phase = .restoring → (∀ q ∈ s.quads w p, s.unparked w q = true) →
      (∀ (f : FieldId) (u : UnitId) (k : Core), s.slotBad w p = none → pt.savedCores = [(coreKey w f u, k)] → pt.donating = false → Completes (.restoreDone w p none) s fun t =>
        t.pmt w p = 0 ∧ t.partState w p = 2 ∧ t.rd PMT_STAT_CMD_SAVED w p = 0 ∧ (t.part w p).cmd = pt.cmd ∧ (t.core w f u).st = k.before) ∧
      (∀ (f : FieldId) (off : BitVec 40), s.partState w p = 5 → s.pmt w p = 6 → Completes (.restoreDone w p (some (f, off))) s fun t => t.partState w p = 3 ∧ t.rd PRT_FAULT_CAUSE w p = 4)) ∧
    (∀ c, pt.donating = true → pt.cmd = some c → c.committed = false → Completes (.donationBound w p) s fun t => t.pmt w p = 1 ∧ (t.part w p).endCode = 6 ∧ (t.part w p).donating = false ∧
      (t.part w p).cmd = none ∧ mfind (t.part w p).cut c.queue = some { c with committed := false, peerLost := false } ∧
      t.rd PMT_DON_CUTS_COUNT w 0 = satAdd PMT_DON_CUTS_COUNT.width (s.rd PMT_DON_CUTS_COUNT w 0) 1 ∧ t.leafSet w Leaf.donationCut = true)

/-- A request that breaks a check is refused with the first reason that applies, captured and raised; ON takes a domain that is OFF into RAMP, OFF and RESET
take one that is ON into DRAIN; RAMP, ISOL and DRAIN end in ISOL, ON and OFF, an OFF domain waits out its dwell, and a retry that is owed asks for ON; a
loft reaches ON with every byte zero. (R456, R457, R458, R460, R463.) -/
def Obligations.DomainRequestsAndSteps : Prop :=
  ∀ (w : WaferId) (s : State),
    let ok := (s.getWafers w).downSeq = none
    (∀ d : BitVec 9, let n := d.toNat
      let refused := fun (req : Nat) (t : State) => t.reg PWR_DOM_STAT w n = s.reg PWR_DOM_STAT w n ∧ t.leafSet w Leaf.reqRefused = true ∧
        (s.rd PWR_DOM_REFUSED_VALID w 0 = 0 → t.rd PWR_DOM_REFUSED_VALID w 0 = 1 ∧ t.rd PWR_DOM_REFUSED_DOMAIN w 0 = n ∧ t.rd PWR_DOM_REFUSED_REQ w 0 = req ∧ t.rd PWR_DOM_REFUSED_REASON w 0 = s.refusal w n req)
      (s.refusal w n 1 ≠ 0 → Completes (.domainOnRequest w d) s (refused 1)) ∧ (s.refusal w n 2 ≠ 0 → Completes (.domainOffRequest w d) s (refused 2)) ∧
      (s.refusal w n 3 ≠ 0 → Completes (.domainResetRequest w d) s (refused 3)) ∧
      (s.refusal w n 1 = 0 → s.domState w n = 0 → (s.getDoms (domKey w n)).dwelling = false → s.rd PWR_SEQ_STAT_RAMPING w 0 < 16 → ok →
        Completes (.domainOnRequest w d) s fun t => t.domState w n = 1 ∧ t.rd PWR_DOM_STAT_PENDING w n = 0) ∧
      (s.refusal w n 1 = 0 → s.domState w n = 4 → Completes (.domainOnRequest w d) s fun t => t.domState w n = 4 ∧ t.rd PWR_DOM_STAT_PENDING w n = 1) ∧
      (s.refusal w n 2 = 0 → s.domState w n = 3 → n < 288 ∨ 360 ≤ n → Completes (.domainOffRequest w d) s fun t => t.domState w n = 4 ∧ t.rd PWR_DOM_STAT_PENDING w n = 0) ∧
      (s.refusal w n 2 = 0 → s.domState w n = 0 → Completes (.domainOffRequest w d) s fun t => t.domState w n = 0 ∧ t.rd PWR_DOM_STAT_PENDING w n = 0) ∧
      (s.refusal w n 3 = 0 → s.domState w n = 3 → n < 288 ∨ 360 ≤ n → Completes (.domainResetRequest w d) s fun t => t.domState w n = 4 ∧ t.rd PWR_DOM_STAT_PENDING w n = 3)) ∧
    (∀ d : DomId, let x := s.getDoms (domKey w d); let pd := s.rd PWR_DOM_STAT_PENDING w d
      (s.domState w d = 1 → s.goingDown w d = false → pd ≠ 2 → pd ≠ 3 → Completes (.rampDone w d) s fun t => t.domState w d = 2) ∧
      (s.domState w d = 2 → s.goingDown w d = false → pd ≠ 2 → pd ≠ 3 → x.downWhenIdle = false → Completes (.isolDone w d) s fun t => t.domState w d = 3 ∧ t.rd PWR_DOM_STAT_FAULT w d = 0 ∧
        (360 ≤ d.val → d.val < 432 → ∀ off < 0x600000000, t.loftByte w (d.val - 360) off = 0)) ∧
      (s.domState w d = 4 → ok → Completes (.drainDone w d) s fun t => t.domState w d = 0 ∧ (t.getDoms (domKey w d)).dwelling = true ∧
        t.rd PWR_DOM_STAT_PENDING w d = if pd = 1 ∨ pd = 3 then 1 else 0) ∧
      (x.dwelling = true → s.domState w d = 0 → pd = 1 → s.refusal w d 1 = 0 → s.rd PWR_SEQ_STAT_RAMPING w 0 < 16 → ok → Completes (.offDwellDone w d) s fun t =>
        t.domState w d = 1 ∧ (t.getDoms (domKey w d)).dwelling = false) ∧
      (x.dwelling = true → pd = 0 → Completes (.offDwellDone w d) s fun t => t.domState w d = s.domState w d ∧ (t.getDoms (domKey w d)).dwelling = false) ∧
      (x.retryOwed = true → s.domState w d = 0 → d.val < 288 ∨ 360 ≤ d.val → s.refusal w d 1 = 0 → x.dwelling = false → s.rd PWR_SEQ_STAT_RAMPING w 0 < 16 → ok →
        Completes (.supplyFaultRetry w d) s fun t => t.domState w d = 1 ∧ (t.getDoms (domKey w d)).retryOwed = false))

/-- A supply fault of any kind takes its domain to OFF, is counted, captured and raised; one of a host field warm starts the wafer, and one of the always-on
domain takes its power; droop gates engage and release; a group that parks or unparks reaches its depth, and a GATE request that waited begins once its
cores qualify; a lost IBC is shown and raised. (R462, R463, R466, R471, R76, R78, R79.) -/
def Obligations.SupplyFaultsGatesAndParks : Prop :=
  ∀ (w : WaferId) (s : State),
    (∀ (d : DomId) (volt : BitVec 12), (s.getWafers w).powered = true → s.domState w d ≠ 0 →
      let faulted := fun (kind : Nat) (t : State) => t.domState w d = 0 ∧ t.rd PWR_DOM_STAT_FAULT w d = 1 ∧ t.leafSet w Leaf.supplyFault = true ∧
        t.rd PWR_FAULTS_COUNT w 0 = satAdd PWR_FAULTS_COUNT.width (s.rd PWR_FAULTS_COUNT w 0) 1 ∧
        (s.rd PWR_FAULT_CAP_VALID w 0 = 0 → t.rd PWR_FAULT_CAP_VALID w 0 = 1 ∧ t.rd PWR_FAULT_CAP_DOMAIN w 0 = d.val ∧ t.rd PWR_FAULT_CAP_KIND w 0 = kind ∧ t.rd PWR_FAULT_CAP_VOLT w 0 = volt.toNat)
      (d.val < 452 → (s.getWafers w).downSeq = none →
        Completes (.undervolt w d volt) s (faulted 1) ∧ Completes (.overcurrent w d volt) s (faulted 3) ∧ Completes (.regFail w d volt) s (faulted 5) ∧
        (s.domState w d = 1 → Completes (.noPowerGood w d volt) s (faulted 4)) ∧
        ((d.val < 288 ∧ (s.getDoms (domKey w d)).gated = true) ∨ (288 ≤ d.val ∧ d.val < 360 ∧ s.rd SPN_STAT_GATED w (d.val - 288) = 1) → Completes (.gateTimeout w d volt) s (faulted 2))) ∧
      (d.val = 452 ∨ d.val = 453 → Completes (.undervolt w d volt) s fun t => t.rd BUP_STAT_START_KIND w 0 = 1 ∧ t.rd BUP_STAT_READY w 0 = 0) ∧
      (d.val = 454 → Completes (.undervolt w d volt) s fun t => (t.getWafers w).powered = false)) ∧
    (Completes (.supplySettled w) s fun t => t.rd PWR_OPP_STAT_IN_TRANSITION w 0 = 0 ∧ t.rd PWR_OPP_STAT_POINT w 0 = s.rd PWR_OPP_STAT_POINT w 0) ∧
    (∀ d : DomId, (d.val < 288 → s.domState w d = 3 → (s.getDoms (domKey w d)).gated = false → Completes (.droopGateEngage w d) s fun t => (t.getDoms (domKey w d)).gated = true ∧
        t.rd PWR_QRATE_GATED w d = 1 ∧ t.rd PWR_GATE_EVENTS_COUNT w 0 = satAdd PWR_GATE_EVENTS_COUNT.width (s.rd PWR_GATE_EVENTS_COUNT w 0) 1) ∧
      (288 ≤ d.val → d.val < 360 → s.domState w d = 3 → s.rd SPN_STAT_GATED w (d.val - 288) = 0 → Completes (.droopGateEngage w d) s fun t => t.rd SPN_STAT_GATED w (d.val - 288) = 1 ∧
        t.rd PWR_GATE_EVENTS_COUNT w 0 = satAdd PWR_GATE_EVENTS_COUNT.width (s.rd PWR_GATE_EVENTS_COUNT w 0) 1) ∧
      (d.val < 288 → Completes (.droopGateRelease w d) s fun t => (t.getDoms (domKey w d)).gated = false) ∧
      (288 ≤ d.val → d.val < 360 → Completes (.droopGateRelease w d) s fun t => t.rd SPN_STAT_GATED w (d.val - 288) = 0)) ∧
    (∀ (q : QuadId) (k : Fin 9), let pk := s.getParks (parkKey w q); let moving := bitAt (s.rd PWR_PARK_MOVING w q) k
      (moving = true → bitAt pk.toGate k = true → Completes (.parkDone w q k) s fun t => t.groupDepth w q k = 2) ∧
      (moving = true → bitAt pk.toGate k = false → bitAt pk.toRetain k = true → Completes (.parkDone w q k) s fun t => t.groupDepth w q k = 1) ∧
      (moving = true → bitAt pk.toGate k = false → bitAt pk.toRetain k = false → Completes (.unparkDone w q k) s fun t => t.groupDepth w q k = 0) ∧
      (s.domState w q = 3 → moving = false → bitAt pk.wantGate k = true → s.groupDepth w q k ≠ 2 → s.groupGateOk w q k = true → Completes (.gateWaitClear w q) s fun t =>
        bitAt (t.rd PWR_PARK_MOVING w q) k = true ∧ bitAt (t.getParks (parkKey w q)).toGate k = true)) ∧
    (∀ i : Fin 4, s.rd PWR_IBC_FAULT w i = 0 → Completes (.ibcFault w i) s fun t => t.rd PWR_IBC_FAULT w i = 1 ∧ t.rd PWR_IBC_OK w i = 0 ∧ t.leafSet w Leaf.ibcFault = true)

/-- A write of the cap clamps it and brings the effective cap up to date as the lowest limit in force; a sample of a quadrant is shown and charged to its
holder, and the fourth missing one is raised; whole millijoules enter the counters; the loop shows draw and setpoint and begins a new period; a sample
above the envelope is counted and raised; a snapshot copies every counter; the RMC moves plan cap between wafers of a job. A sample of a quadrant that is
low twice or far too low parks its two highest running groups, and one of too much current its highest; a guard that may release lets one group go. (R482,
R483, R485, R487, R491, R495, R503, R505, R489.) -/
def Obligations.CappingAndGuards : Prop :=
  (∀ (w : WaferId) (s : State),
     let m := s.getMeters w
     (∀ (path : PathId) (v : Word32), let cap := max 1500 (min 20000 (bits v.toNat 15 0)); let r := bits v.toNat 18 16
       Completes (.capWrite w path v) s fun t => t.rd PWR_CAP_CAP_W w 0 = cap ∧ t.rd PWR_CAP_REASON w 0 = (if r = 0 ∨ r = 3 ∨ r = 4 then r else 0) ∧ t.rd PWR_CAP_PLAN_ID w 0 = bits v.toNat 31 20 ∧
         t.rd PWR_CAP_EFF_EFF_W w 0 = (lowestLimit (t.capLimits w)).1 ∧ t.rd PWR_CAP_EFF_EFF_W w 0 ≤ 20000 ∧ (path.val = 1 → (t.getWafers w).planCap = cap) ∧
         (t.rd PWR_CAP_EFF_EFF_W w 0 ≠ s.rd PWR_CAP_EFF_EFF_W w 0 → t.leafSet w Leaf.capChanged = true)) ∧
     (∀ (bus : BitVec 16) (x : EnergySample), let d := x.dom.val
       (x.missing = false → Completes (.energySample w bus [] [x]) s fun t => t.rd PWR_BUS_BUS w 0 = bus.toNat % 2 ^ PWR_BUS_BUS.width ∧ t.rd PWR_DOM_MEAS_CURRENT w d = x.cur.toNat ∧
         t.rd PWR_DOM_MEAS_VOLT w d = x.volt.toNat ∧ (d < 288 → mget 0 (t.getMeters w).period (s.holder w d) = mget 0 m.period (s.holder w d) + x.volt.toNat * x.cur.toNat)) ∧
       (x.missing = true → mget 0 m.missed d = 3 → Completes (.energySample w bus [] [x]) s fun t => t.leafSet w Leaf.sensorLost = true ∧ t.reg PWR_DOM_MEAS w d = s.reg PWR_DOM_MEAS w d)) ∧
     (Completes (.energyIntegrate w) s fun t => (∀ x ∈ (t.getMeters w).acc, x.2 < 100000000) ∧
       ∀ h v, h < 6 → m.acc = [(h, v)] → t.rd TEL_WE_OVERHEAD_MJ w 0 = (s.rd TEL_WE_OVERHEAD_MJ w 0 + v / 100000000) % 2 ^ TEL_WE_OVERHEAD_MJ.width) ∧
     (Completes (.capLoopPeriod w) s fun t => (t.getMeters w).period = [] ∧ (t.getMeters w).standing = (mget 0 m.period 0 :: m.standing).take 100 ∧
       t.rd PWR_DRAW_DRAW_W w 0 = min (m.period.foldl (fun n x => n + x.2) 0 / 10000000) (2 ^ PWR_DRAW_DRAW_W.width - 1) ∧
       t.rd PWR_DRAW_SETPOINT_W w 0 = min (s.setpoint w) (2 ^ PWR_DRAW_SETPOINT_W.width - 1)) ∧
     (20000 * 1000000 < m.sample.foldl (fun n x => n + x.2) 0 → Completes (.envelopeStep w) s fun t => t.leafSet w Leaf.envelope = true ∧
       t.rd PWR_GUARDS_ENVELOPE w 0 = satAdd PWR_GUARDS_ENVELOPE.width (s.rd PWR_GUARDS_ENVELOPE w 0) 1) ∧
     (∀ p : BitVec 9, p.toNat < 288 → Completes (.telSnapshot w p) s fun t => t.rd TEL_SEL_PART w 0 = p.toNat ∧ t.reg TEL_SNAP_TIME w 0 = s.tbNow w ∧
       ∀ r ∈ telRegs, ∀ i < r.2, t.reg r.1 w i = (accrue w s).reg r.1 w ((p.toNat + 1) * 64 + i)) ∧
     (∀ (v : WaferId) (b : BitVec 8), let a := s.rd PWR_CAP_CAP_W w 0; let c := s.rd PWR_CAP_CAP_W v 0; let n := min (min b.toNat 250) (min (20000 - a) (c - 1500))
       s.rack.planner.barrierBalance = true → s.rack.planner.haveActive = true → v ≠ w → 1500 ≤ a → c ≤ 20000 → n ≠ 0 → Completes (.barrierBalance w [(v, b)]) s fun t =>
         t.rd PWR_CAP_CAP_W w 0 = a + n ∧ t.rd PWR_CAP_CAP_W v 0 = c - n ∧ (t.getWafers w).planCap = a + n ∧ (t.getWafers v).planCap = c - n)) ∧
  (∀ (w : WaferId) (q : QuadId) (s : State),
     let x := s.getParks (parkKey w q)
     let low := fun (volt : BitVec 12) => volt.toNat + s.rd PWR_DROOP_CFG_MARGIN_MV w 0 < s.targetSupply w q
     (∀ volt : BitVec 12, Completes (.droopGuardSample w q volt) s fun t => let y := t.getParks (parkKey w q)
       y.low = decide (low volt) ∧ y.good = decide (s.targetSupply w q ≤ volt.toNat + 20) ∧
       y.droop = if s.domState w q = 3 ∧ ((low volt ∧ x.low = true) ∨ volt.toNat ≤ 500) then x.droop ||| s.topGroups w q 2 else x.droop) ∧
     (Completes (.droopGuardRelease w q) s fun t => (t.getParks (parkKey w q)).droop = if x.good then dropLow x.droop else x.droop) ∧
     (∀ cur : BitVec 20, Completes (.currentGuardSample w q cur) s fun t => (t.getParks (parkKey w q)).cool = decide (cur.toNat < 120000) ∧
       (t.getParks (parkKey w q)).cur = if s.domState w q = 3 ∧ 140000 < cur.toNat then x.cur ||| s.topGroups w q 1 else x.cur) ∧
     (Completes (.currentGuardRelease w q) s fun t => (t.getParks (parkKey w q)).cur = if x.cool then dropLow x.cur else x.cur))

/-- A BBU that loses presence is ABSENT and a loss while charging is counted; an inserted one is in PRECHECK for 60 s, and leaves it for CHARGE_LIM, or for
FAULT where it fails or its serial carries a recorded fault; a collapse of current is a cell fault and is recorded; a full BBU is READY with its measured
capacity; the headroom is shared among the BBUs that charge; a shelf on AC loss or low busbar inhibits all charging; AC lost and returned, a module fault,
the static fallback and an insulation alarm show as the rules say; the collapse of the busbar takes every consumer down. (R507, R508, R509, R510, R511,
R512, R513, R514, R515, R524.) -/
def Obligations.ShelvesAndBbus : Prop :=
  ∀ (h : ShelfId) (b : BbuId) (s : State),
    (s.bbu h b ≠ 0 → Completes (.bbuPresenceLoss h b) s fun t => t.bbu h b = 0 ∧ t.reg BBU_ENERGY h b = 0 ∧ t.rd SHF_STAT_BBU_USABLE h 0 = t.usableBbus h ∧
      (s.bbu h b = 2 ∨ s.bbu h b = 3 → t.rd SHF_EVENTS_PRES_LOSS_CHG h 0 = satAdd SHF_EVENTS_PRES_LOSS_CHG.width (s.rd SHF_EVENTS_PRES_LOSS_CHG h 0) 1)) ∧
    (∀ serial : Word, s.bbu h b = 0 → Completes (.bbuInsertion h b serial) s fun t => t.bbu h b = 1 ∧ t.rd BBU_STAT_PRECHECK_S h b = 60 ∧
      mget 0 (t.getShelves h).serials b = serial.toNat) ∧
    (∀ (pass : Bool) (m : BbuMeas), s.bbu h m.bbu = 1 → let good := pass = true ∧ mget 0 (s.getShelves h).serials m.bbu ∉ (s.getShelves h).faulted
      Completes (.bbuPrecheckDone h pass m) s fun t => (good → t.bbu h m.bbu = 2 ∧ t.rd BBU_ENERGY_E_KJ h m.bbu = m.energy.toNat) ∧
        (¬ good → t.bbu h m.bbu = 6 ∧ t.rd BBU_STAT_FAULT_KIND h m.bbu = 2)) ∧
    (s.bbu h b = 2 ∨ s.bbu h b = 3 ∨ s.bbu h b = 5 → Completes (.cellFault h b) s fun t => t.bbu h b = 6 ∧ t.rd BBU_STAT_FAULT_KIND h b = 1 ∧
      t.rd SHF_EVENTS_CELL_FAULTS h 0 = satAdd SHF_EVENTS_CELL_FAULTS.width (s.rd SHF_EVENTS_CELL_FAULTS h 0) 1 ∧
      mget 0 (s.getShelves h).serials b ∈ (t.getShelves h).faulted) ∧
    (∀ cap : BitVec 16, s.bbu h b = 2 ∨ s.bbu h b = 3 → Completes (.bbuFull h b cap) s fun t => t.bbu h b = 4 ∧ t.rd BBU_ENERGY_E_KJ h b = cap.toNat ∧
      t.rd BBU_ENERGY_CAP_KJ h b = cap.toNat ∧ t.rd BBU_STAT_REPLACE h b = b2n (decide (cap.toNat < 648))) ∧
    (∀ load : BitVec 20, let static := s.rd SHF_STAT_STATIC h 0 = 1
      let room := if static then s.fallbackLimit h - s.rd SHF_OUT_OUT_W h 0 else s.limitAc - load.toNat
      let charging := fun (t : State) (k : Nat) => allBbus.filter fun x => t.bbu k x == 2 || t.bbu k x == 3
      ((∃ k < 8, s.inhibits k = true) ∨ room = 0 ∨ s.acOk h = false → Completes (.chargeHeadroom h load) s fun t => t.rd SHF_CHG_CHG_W h 0 = 0 ∧ t.bbu h b ≠ 3) ∧
      ((∀ k < 8, s.inhibits k = false) → room ≠ 0 → s.acOk h = true → Completes (.chargeHeadroom h load) s fun t =>
        let n := if static then (charging t h).length else sumOf allShelves fun k => (charging t k).length
        t.rd SHF_CHG_CHG_W h 0 = sumOf (charging t h) fun x => min (room / max 1 n) (if t.bbu h x = 2 then 1000 else 4500))) ∧
    (∀ busV : BitVec 10, Completes (.chargeInhibit h busV) s fun t => t.rd SHF_OUT_BUS_V h 0 = busV.toNat ∧
      ∀ k < 8, t.rd SHF_STAT_CHG_INHIBIT k 0 = b2n (allShelves.any t.inhibits) ∧ (allShelves.any t.inhibits = true → t.rd SHF_CHG_CHG_W k 0 = 0 ∧ t.bbu k b ≠ 3)) ∧
    (∀ v : BitVec 10, s.rd SHF_STAT_STATE h 0 ≠ 0 → s.acOk h = true → Completes (.acLoss [(h, v)]) s fun t => t.acOk h = false ∧ t.rd SHF_AC_V_LL h 0 = v.toNat ∧
      t.rd SHF_STAT_STATE h 0 = 2 ∧ t.rd SHF_EVENTS_AC_LOSSES h 0 = satAdd SHF_EVENTS_AC_LOSSES.width (s.rd SHF_EVENTS_AC_LOSSES h 0) 1 ∧
      (s.bbu h b = 2 ∨ s.bbu h b = 3 ∨ s.bbu h b = 4 → t.bbu h b = 5) ∧ ∀ k < 8, t.rd SHF_STAT_CHG_INHIBIT k 0 = 1 ∧ t.bbu k b ≠ 3) ∧
    (∀ v : BitVec 10, s.acOk h = false → Completes (.acReturn [(h, v)]) s fun t => t.acOk h = true ∧ t.rd SHF_AC_V_LL h 0 = v.toNat ∧
      t.rd SHF_STAT_STATE h 0 = if t.rectifier h < s.rd SHF_OUT_OUT_W h 0 then 3 else 1) ∧
    (∀ m : Fin 6, s.rd SHF_STAT_STATE h 0 ≠ 0 → Completes (.rectifierModuleFault h m) s fun t => t.rd SHF_STAT_MODULES_OK h 0 = 6 - popCount 6 ((s.getShelves h).badModules ||| 2 ^ m.val) ∧
      t.rd SHF_STAT_STATE h 0 = if s.acOk h = false then 2 else if t.rectifier h < s.rd SHF_OUT_OUT_W h 0 then 3 else 1) ∧
    (s.rack.planner.haveActive = false → s.rd SHF_STAT_STATE h 0 ≠ 0 → Completes (.shelfStaticFallback h) s fun t => t.rd SHF_STAT_STATIC h 0 = 1) ∧
    (Completes .insulationFault s fun t => 1 ∈ t.rack.planner.alarms ∧ t.out = .event 2 1 :: s.out ∧ SameRegs [] s t) ∧
    (∀ busV : BitVec 10, busV.toNat < 700 → Completes (.busbarCollapse busV) s fun t => t.rd SHF_OUT_BUS_V h 0 = busV.toNat ∧ t.rack.planner.haveActive = false ∧
      (∀ w : WaferId, (t.getWafers w).powered = false) ∧ (∀ u : TmcId, (t.getTmcs u).running = false) ∧ (∀ c : CduId, t.rd CDU_STAT_STATE c 0 = 0))

/-- After a shelf report the planned load is within the machine limit, or the shortfall is counted as a plan fault, and every cap that can be written is; a
raising step is taken only where the plan keeps 2,000 W free; with AC lost everywhere past the grace every cap is 1,500 W, and at the reserve the trays and
CDUs go off; a lost CDU leaves its flow to the other; a hotter inlet lowers its COOLANT limit at once, and loss of flow every limit; a tray at 60 degrees,
lost cooling and a low level power trays off; an open interlock stops its tray; the standby RMC takes the role and the plan over. (R517, R519, R520, R522,
R523, R532, R534, R536, R537, R741, R26.) -/
def Obligations.PlanAndCooling : Prop :=
  ∀ s : State,
    let written := fun (t : State) => ∀ w < 36, t.planned w = true → (t.getPlans w).written = (t.getPlans w).cap
    let fits := fun (t : State) => (t.planLoad ≤ t.limit * 1000 ∨ t.rack.planner.planFaults = s.rack.planner.planFaults + 1) ∧ written t
    let off := fun (t : State) => ∀ w : WaferId, (t.getWafers w).powered = false ∨ (t.getWafers w).downSeq = some 0
    let allOff := fun (t : State) => off t ∧ ∀ k < 8, (t.getTmcs (36 + k)).powerOn = false
    let active := s.rack.planner.haveActive = true
    (∀ h : ShelfId, active → s.anyAc = true → Completes (.shelfReport h) s fits) ∧
    (∀ (h : ShelfId) (out : BitVec 17) (busV vll : BitVec 10) (ms : List BbuMeas), Completes (.shelfReportPeriodic h out busV vll ms) s fun t =>
      t.rd SHF_OUT_OUT_W h 0 = out.toNat ∧ t.rd SHF_OUT_BUS_V h 0 = busV.toNat ∧ t.rd SHF_AC_V_LL h 0 = vll.toNat ∧ (active → s.anyAc = true → fits t)) ∧
    (Completes .planRaiseCheck s fun t => (t.planLoad = s.planLoad ∨ t.planLoad + 2000000 ≤ t.limit * 1000) ∧
      ∀ w : Nat, active → s.anyAc = true → (∀ x < 36, (s.getPlans x).scaled = none) → (s.shedOrder.reverse.find? fun v => (s.getPlans v).shed) = some w →
        (s.modPlans w fun x => { x with shed := false, rack := x.unshed }).fitsRaise = true →
        (t.getPlans w).shed = false ∧ (t.getPlans w).rack = (s.getPlans w).unshed ∧ (t.getPlans w).written = (t.getPlans w).cap) ∧
    (active → s.anyAc = false → s.rack.planner.graceOver = false → Completes .rideThroughGrace s fun t => t.rack.planner.graceOver = true ∧
      ∀ w < 36, s.planned w = true → (t.getPlans w).cap = 1500 ∧ (t.getPlans w).written = 1500) ∧
    (∀ load : BitVec 20, active → s.anyAc = false → sumOf allShelves s.usableEnergy * 1000 ≤ 10 * load.toNat → Completes (.bbuReserveLow load) s fun t =>
      allOff t ∧ ∀ c : CduId, t.rd CDU_STAT_STATE c 0 = 0) ∧
    (∀ c : CduId, Completes (.cduFailover c) s fun t => t.rd CDU_STAT_STATE c 0 = 3 ∧ t.rd CDU_FLOW_FLOW c 0 = 0 ∧ t.rd CDU_STAT_PUMP c 0 = 0 ∧
      (s.rd CDU_STAT_STATE (1 - c.val) 0 = 1 ∨ s.rd CDU_STAT_STATE (1 - c.val) 0 = 2 → t.rd CDU_FLOW_FLOW (1 - c.val) 0 = 2400)) ∧
    (∀ (m : CduMeas) (inlets : List (WaferId × BitVec 12)), Completes (.coolantReport [m] inlets) s fun t => t.rd CDU_TEMP_SUPPLY m.cdu 0 = m.supply.toNat ∧
      t.rd CDU_FLOW_FLOW m.cdu 0 = m.flow.toNat ∧ t.rd CDU_FLOW_LEVEL m.cdu 0 = m.level.toNat ∧ t.rd CDU_FAC_FAC_IN m.cdu 0 = m.facIn.toNat) ∧
    (∀ (ms : List CduMeas) (w : WaferId) (inlet : BitVec 12), active → Completes (.coolantReport ms [(w, inlet)]) s fun t => (t.getPlans w).inlet = inlet.toNat ∧ written t ∧
      (limitBelow (coolantLimit inlet.toNat t.tankFlow) (s.getPlans w).coolant = true → (t.getPlans w).coolant = coolantLimit inlet.toNat t.tankFlow)) ∧
    (∀ w : WaferId, 960 ≤ (s.getPlans w).inlet ∨ 960 ≤ s.rd THM_COOLANT_TRAY_IN w 0 → Completes (.trayInletOvertemp w) s fun t =>
      (t.getWafers w).powered = false ∨ (t.getWafers w).downSeq = some 0) ∧
    (s.tankFlow < 200 → active → Completes .flowLoss s fun t => written t ∧ ∀ w < 36, (t.getPlans w).coolant = some 1500) ∧
    (active → s.tankFlow < 200 ∨ 960 ≤ s.rd CDU_TEMP_SUPPLY 0 0 ∨ 960 ≤ s.rd CDU_TEMP_SUPPLY 1 0 → Completes .flowLossPowerOff s allOff) ∧
    (∀ level : BitVec 7, level.toNat < 95 → active → Completes (.levelAlarm level) s fun t => 2 ∈ t.rack.planner.alarms ∧ ∀ c : CduId, t.rd CDU_FLOW_LEVEL c 0 = level.toNat ∧
      (s.rd CDU_STAT_STATE c 0 = 1 → t.rd CDU_STAT_STATE c 0 = 2)) ∧
    (∀ level : BitVec 7, level.toNat < 90 → active → Completes (.levelLowPowerOff level) s fun t => allOff t ∧ ∀ c : CduId, t.rd CDU_FLOW_LEVEL c 0 = level.toNat) ∧
    (∀ w : WaferId, Completes (.trayInterlockOpen w) s fun t => (t.getWafers w).powered = false ∧ (t.getWafers w).interlockOpen = true ∧ (t.getTmcs w).running = false) ∧
    (3 ≤ s.rack.planner.missed ∨ s.rack.planner.failover = true → Completes .rmcTakeover s fun t => let p := s.rack.planner; let q := t.rack.planner
      q.active = 1 - p.active ∧ q.haveActive = true ∧ q.missed = 0 ∧ q.failover = false ∧ written t ∧ q.planId ≠ p.planId ∧
      q.queue = (if p.step = .writing then p.change.toList else []) ++ p.queue)

/-- A pseudo-channel grants a request that has waited 20 us, the longest first, or else the first kind, the highest priority among partitions; a scrubber reads
the lines of its bank in turn, finds poison and errors by the code, and begins a new pass after the last; a forced slot scrubs 16 lines and is counted; a
late pass is shown and raised; a row copied onto a spare row is served from it, counted and raised. While the link is in L0 and the function in D0, an
access within one line of a valid page of a working loft reads the bytes there and writes those enabled, and no others; a poisoned line fails a read and
discards a partial write, and a whole write clears its poison; a page that cannot be reached reads as the rule says and takes no write; each failure is
captured and raises APT_ERR. (R348, R354, R356, R347, R349, R358, R359, R576.) -/
def Obligations.LoftUpkeepAndAperture : Prop :=
  (∀ (w : WaferId) (f : FieldId) (s : State), s.loftOn w f = true →
     let l := fun (t : State) => t.getLofts (fieldKey w f)
     let pos := fun (t : State) (bank : Nat) => mget 0 (l t).scrub bank
     (∀ (ch : Fin 32) (rs : List PchReq), rs ≠ [] → let aged := fun (r : PchReq) => (r.cls = 2 ∨ r.cls = 3) ∧ 20000 ≤ r.waited.toNat
       Completes (.pchArbitration w f ch rs) s fun t => ∃ r ∈ rs, (t.getPchs (fieldKey w f * 32 + ch)).holder = some (r.cls.val, r.part.val) ∧
         ((∃ x ∈ rs, aged x) → aged r ∧ ∀ x ∈ rs, aged x → x.waited.toNat ≤ r.waited.toNat) ∧
         ((∀ x ∈ rs, ¬ aged x) → ∀ x ∈ rs, r.cls ≤ x.cls ∧ (r.cls = 2 → x.cls = 2 → s.rd PRT_PRIO_PRIO w x.part ≤ s.rd PRT_PRIO_PRIO w r.part))) ∧
     (s.loftDead w f = false → ∀ (bank : BitVec 9) (b : Nat), b = bank.toNat →
       (∀ e : Ecc, Completes (.loftScrubRead w f bank e) s fun t => pos t b = (if pos s b + 1 = bankLines then 0 else pos s b + 1) ∧
         mget 0 (l t).passes b = mget 0 (l s).passes b + (if pos s b + 1 = bankLines then 1 else 0) ∧
         (∀ i, e = .bad i → t.poisoned w f (bankLine b (pos s b) * 64) = true)) ∧
       (∀ es : List Ecc, pos s b + 16 < bankLines → Completes (.scrubForcedSlot w f bank es) s fun t => pos t b = pos s b + 16 ∧
         t.rd LOFT_SCRUB_FORCED w f = satAdd LOFT_SCRUB_FORCED.width (s.rd LOFT_SCRUB_FORCED w f) 1) ∧
       (b ∉ (l s).lateBanks → Completes (.scrubLate w f bank) s fun t => b ∈ (l t).lateBanks ∧ t.rd LOFT_STAT_SCRUB_LATE w f = 1 ∧ t.leafSet w Leaf.scrubLate = true)) ∧
     (s.loftDead w f = false → ∀ (row : BitVec 21) (es : List Ecc) (r : Nat), r = row.toNat → r ∈ (l s).copies →
       let spared := fun (t : State) => mget 0 (l t).spares (bankOf r) = mget 0 (l s).spares (bankOf r) + 1 ∧ r ∉ (l t).copies ∧ r ∈ (l t).sparedRows ∧
         t.rd LOFT_STAT_SPARES_USED w f = satAdd LOFT_STAT_SPARES_USED.width (s.rd LOFT_STAT_SPARES_USED w f) 1 ∧ t.leafSet w Leaf.spareUsed = true
       Completes (.rowSpareCopy w f row es) s spared ∧
       Completes (.rowSpareForced w f row es) s (fun t => spared t ∧ t.rd LOFT_SCRUB_FORCED w f = satAdd LOFT_SCRUB_FORCED.width (s.rd LOFT_SCRUB_FORCED w f) 1))) ∧
  (∀ (w : WaferId) (off : BitVec 36) (n : BitVec 13) (bs : List (Bool × Byte)) (s : State), s.apertureOpen w = true → bs.length = n.toNat → n ≠ 0 →
       off.toNat % 64 + n.toNat ≤ 64 → s.apertureWaits w off.toNat n.toNat = false →
     let failed := fun (reason : Nat) (write : Bool) (t : State) => t.leafSet w Leaf.aptErr = true ∧ t.rd HIF_APT_CAP_VALID w 0 = 1 ∧ (s.rd HIF_APT_CAP_VALID w 0 = 0 →
       t.rd HIF_APT_CAP_OFFSET w 0 = off.toNat ∧ t.rd HIF_APT_CAP_REASON w 0 = reason ∧ t.rd HIF_APT_CAP_WRITE w 0 = b2n write)
     (∀ r, s.apertureAt w off.toNat = .error r →
       (∀ e : Ecc, Completes (.apertureRead w off n e) s fun t => failed r false t ∧ SameLofts s t ∧
         t.out.head? = some (.completion w 0 (wordBytes (if r = 0 then 0xDEAD0BAD else 0xDEAD0FF0) off.toNat n.toNat))) ∧
       (∀ e : Ecc, Completes (.apertureWrite w off bs e) s fun t => failed r true t ∧ SameLofts s t)) ∧
     (∀ f o, s.apertureAt w off.toNat = .ok (f, o) → s.poisoned w f o = true →
       (∀ e : Ecc, Completes (.apertureRead w off n e) s fun t => failed 2 false t ∧ SameLofts s t ∧ t.out.head? = some (.completion w 1 [])) ∧
       (∀ e : Ecc, (bs.length ≠ 64 ∨ ∃ b ∈ bs, b.1 = false) → Completes (.apertureWrite w off bs e) s fun t => failed 2 true t ∧ SameLofts s t ∧
         t.rd LOFT_EVENTS_POISON_WR w f = satAdd LOFT_EVENTS_POISON_WR.width (s.rd LOFT_EVENTS_POISON_WR w f) 1) ∧
       (∀ e : Ecc, bs.length = 64 → (∀ b ∈ bs, b.1 = true) → Completes (.apertureWrite w off bs e) s fun t => t.poisoned w f o = false ∧
         t.loftBytes w f o 64 = bs.map fun b => b.2.toNat)) ∧
     (∀ f o, s.apertureAt w off.toNat = .ok (f, o) → s.poisoned w f o = false →
       (Completes (.apertureRead w off n .good) s fun t => SameLofts s t ∧ t.out = .completion w 0 (s.loftBytes w f o n.toNat) :: s.out) ∧
       (Completes (.apertureWrite w off bs .good) s fun t =>
         (∀ i < bs.length, t.loftByte w f (o + i) = match bs[i]? with | some (true, b) => b.toNat | _ => s.loftByte w f (o + i)) ∧
         ∀ k, (∀ i < bs.length, k ≠ loftKey w f (o + i)) → mget 0 t.loft k = mget 0 s.loft k) ∧
       (Completes (.apertureRead w off n (.bad 0)) s fun t => t.poisoned w f o = true ∧ failed 2 false t)))

/-- A sample shows each quadrant's junction temperature and valid sensors, and one at the junction limit parks every running group; park-hottest takes one more
group, asks for a rotation where the channel rotates, and lets one go after 10 ms of coolness; a rotation that is due is noted, or skipped while no RMC is
active; an idle wafer enters ghost light with every group parked, warms up to eight more groups while cold and fewer while above its limit, and leaves it
on a wake. A sample that is due starts where nothing disturbs its quadrant; a forced one starts and is counted; one done gives its monitor the drift from
its reference and its quality; a late one is raised; every hour each sampled quadrant gains a point of stress and drift, and its remaining life is unknown
below 500 hours of stress. (R540, R541, R542, R544, R548, R549, R550, R553, R554, R555.) -/
def Obligations.HeatGhostLightAndAgeing : Prop :=
  (∀ (w : WaferId) (s : State),
     let park := fun (t : State) (q : Nat) => t.getParks (parkKey w q)
     (∀ x : QuadTemp, Completes (.thermalSample w [x] []) s fun t => let q := x.quad.val
       t.tj w q = quadTj x ∧ (1360 ≤ quadTj x → s.domState w q = 3 → (park t q).jlim = (park s q).jlim ||| s.topGroups w q 9 ∧ ((park s q).jlim = 0 → t.leafSet w Leaf.junction = true)) ∧
       (quadTj x < 1360 → (park t q).jlim = (park s q).jlim)) ∧
     (∀ x : FieldTemp, Completes (.thermalSample w [] [x]) s fun t => t.rd THM_CH_STAT_SPINE_TJ w x.field = x.spine.toNat ∧ t.rd THM_CH_STAT_LOFT_T w x.field = x.loft.toNat) ∧
     (∀ f : FieldId, let q := 4 * f.val + s.hottest w f
       let rotates := s.rd THM_CH_CFG_MODE w f = 1 ∧ ∃ k < 4, (s.rotatingPart w (4 * f.val + k)).isSome = true
       (s.hotC w ≤ s.tj w q → ¬ rotates → Completes (.parkHottestEval w f) s fun t => (park t q).hot = (park s q).hot ||| s.topGroups w q 1) ∧
       (∀ p, s.hotC w ≤ s.tj w q → rotates → s.rotatingPart w q = some p → Completes (.parkHottestEval w f) s fun t => (t.part w p).rotationDue = true ∧ (t.part w p).earlyRotation = true ∧
         (s.tj w q < s.hotC w + 32 → (s.getThermChs (fieldKey w f)).askedAt = none → (park t q).hot = (park s q).hot)) ∧
       (s.tj w q < s.hotC w → s.tj w q < s.coolC w → (s.getThermChs (fieldKey w f)).coolSince = none → Completes (.parkHottestEval w f) s fun t =>
         (t.getThermChs (fieldKey w f)).coolSince = some s.now) ∧
       (∀ a k, s.tj w q < s.hotC w → s.tj w q < s.coolC w → (s.getThermChs (fieldKey w f)).coolSince = some a → a + 10000000 ≤ s.now →
         ((List.range 4).find? fun j => (park s (4 * f.val + j)).hot != 0) = some k → Completes (.parkHottestEval w f) s fun t =>
           (park t (4 * f.val + k)).hot = dropLow (park s (4 * f.val + k)).hot)) ∧
     (∀ p : PartId, s.defined w p = true → s.rd THM_ROT_ENABLE w p = 1 → s.isLead w p = true →
       ((s.peersOf w p = [] ∨ s.rd NET_MGMT_PLANNER_OK w 0 = 1) → Completes (.rotationDue w p) s fun t => (t.part w p).rotationDue = true) ∧
       (s.peersOf w p ≠ [] → s.rd NET_MGMT_PLANNER_OK w 0 = 0 → Completes (.rotationDue w p) s fun t => t.rd THM_ROT_STAT_SKIPPED w p =
         satAdd THM_ROT_STAT_SKIPPED.width (s.rd THM_ROT_STAT_SKIPPED w p) 1 ∧ (t.part w p).rotationDue = (s.part w p).rotationDue)) ∧
     (s.rd THM_GHOST_ENABLE w 0 = 1 → s.rd THM_GHOST_STAT_STATE w 0 ≠ 2 → s.waferIdle w = true → Completes (.ghostLightEnter w) s fun t => t.rd THM_GHOST_STAT_STATE w 0 = 2 ∧
       t.rd THM_GHOST_STAT_ENTRIES w 0 = satAdd THM_GHOST_STAT_ENTRIES.width (s.rd THM_GHOST_STAT_ENTRIES w 0) 1 ∧ t.rd TMC_REQ_VALVE_PCT w 0 = 25 ∧
       ∀ q < 288, (park t q).ghost = 0x1FF ∧ (park t q).ghostGate = 0) ∧
     (s.rd THM_GHOST_STAT_STATE w 0 = 2 → let warm := s.getWarming w
       ((∃ q < 288, s.domState w q = 3 ∧ s.tj w q < s.rd THM_GHOST_FLOOR_C w 0 * 16) → s.sampleDraw w < s.ghostLimit w → Completes (.ghostWarmAdjust w) s fun t =>
         t.getWarming w = warm ++ ((((s.warmOrder w).filter fun g => !warm.contains (Group.key g)).take 8).map Group.key) ∧
         t.rd THM_GHOST_STAT_WARM_GROUPS w 0 = (t.getWarming w).length % 2 ^ THM_GHOST_STAT_WARM_GROUPS.width) ∧
       (s.ghostLimit w < s.sampleDraw w → Completes (.ghostWarmAdjust w) s fun t => t.getWarming w = warm.filter fun k => !(warm.reverse.take 8).contains k) ∧
       (∀ k r, warm = k :: r → warm.Nodup → (∃ g ∈ s.warmOrder w, Group.key g ∉ warm) → Completes (.ghostWarmRotate w) s fun t =>
         k ∉ t.getWarming w ∧ (t.getWarming w).length = warm.length) ∧
       (Completes (.ghostWake w) s fun t => t.rd THM_GHOST_STAT_STATE w 0 = 0 ∧ t.rd TMC_REQ_VALVE_PCT w 0 = 100 ∧ t.getWarming w = [] ∧
         ∀ q < 288, (park t q).ghost = 0 ∧ (park t q).ghostGate = 0))) ∧
  (∀ (w : WaferId) (m : Fin 1152) (q : QuadId) (s : State),
     let mon := fun (t : State) => t.getAgeMons (ageKey w m)
     (s.disturbed w (m.val / 4) = false → (mon s).running = false → Completes (.ageSampleDue w m) s fun t => (mon t).running = true ∧ (mon t).forced = false) ∧
     (s.domState w (m.val / 4) = 3 → (mon s).running = false → Completes (.ageSampleForced w m) s fun t => (mon t).running = true ∧ (mon t).forced = true ∧
       t.rd AGE_STAT_FORCED w 0 = satAdd AGE_STAT_FORCED.width (s.rd AGE_STAT_FORCED w 0) 1) ∧
     (∀ transit : Word32, (mon s).running = true → let bad := (mon s).forced && ((mon s).disturbed || s.disturbed w (m.val / 4))
       Completes (.ageSampleDone w m transit) s fun t => (mon t).running = false ∧ (mon t).transit = transit.toNat ∧ t.rd AGE_MON_QUALITY w m = b2n bad ∧ t.rd AGE_MON_AGE_S w m = 0 ∧
         t.rd AGE_MON_DRIFT w m = ofInt 20 (driftPpm transit.toNat ((mon s).ref.getD transit.toNat)) ∧
         (bad = true → t.rd AGE_STAT_DISTURBED w 0 = satAdd AGE_STAT_DISTURBED.width (s.rd AGE_STAT_DISTURBED w 0) 1)) ∧
     (s.domState w q = 3 → Completes (.ageSampleLate w q) s fun t => t.leafSet w Leaf.sampleLate = true) ∧
     ((∃ i < 4, s.rd AGE_MON_QUALITY w (4 * q.val + i) ≠ 2) → let a := s.getAgeQs (parkKey w q)
       Completes (.ageHourlyFit w) s fun t => (t.getAgeQs (parkKey w q)).points = a.points ++ [(a.stress, (s.drift w q).toNat)] ∧ (t.getAgeQs (parkKey w q)).hourStart = a.stress ∧
         (a.stress < 500 * stressHour → t.rd AGE_LIFE_EST w q = 0xFFFF)))

/-- PERST#, a hot reset and a function level reset each take away MSI-X enable, masks, Bus Master Enable and the DMA channels, and keep PME_En and PME_Status;
PERST# leaves PERST asserted, and a hot reset and an FLR leave the function in D0. PERST# released withdraws WAKE# and keeps PME_Status; the link comes up
with the negotiated speed and width once the function has its termination; PMCSR sets the device state and clears PME_Status on request; L1, L2/L3 Ready,
recovery and its end move the link state; PM_PME repeats in D3hot while PME_Status is set. (R573, R586, R572, R587, R588, R589, R595.) -/
def Obligations.PcieFunctionAndLink : Prop :=
  (∀ (w : WaferId) (s : State),
     let reset := fun t : State => (t.getHifs w).msixEnable = false ∧ (t.getHifs w).funcMask = false ∧ (t.getHifs w).pmeEn = (s.getHifs w).pmeEn ∧
       t.rd HIF_WAKE_PME_STATUS w 0 = s.rd HIF_WAKE_PME_STATUS w 0 ∧ t.rd HIF_LINK_BME w 0 = 0 ∧ t.rd HIF_MSIX_PBA_PENDING w 0 = 0 ∧
       ∀ c : ChanId, t.reg HIF_DMA_CFG w c = 0 ∧ t.reg HIF_DMA_HEAD w c = 0 ∧ t.reg HIF_DMA_TAIL w c = 0 ∧ t.rd HIF_DMA_STAT_STATE w c = 0
     Completes (.perstAssert w) s (fun t => reset t ∧ t.rd HIF_LINK_PERST w 0 = 1) ∧
     Completes (.hotReset w) s (fun t => reset t ∧ t.rd HIF_LINK_DSTATE w 0 = 0 ∧ t.rd HIF_LINK_STATE w 0 = 0) ∧
     Completes (.flr w) s (fun t => reset t ∧ t.rd HIF_LINK_DSTATE w 0 = 0 ∧ t.rd HIF_LINK_STATE w 0 = s.rd HIF_LINK_STATE w 0)) ∧
  (∀ (w : WaferId) (s : State),
     (s.rd HIF_LINK_PERST w 0 = 1 → Completes (.perstRelease w) s fun t => t.rd HIF_LINK_PERST w 0 = 0 ∧ t.rd HIF_LINK_DSTATE w 0 = 0 ∧
       t.rd HIF_WAKE_WAKE_ASSERTED w 0 = 0 ∧ t.rd HIF_WAKE_PME_STATUS w 0 = s.rd HIF_WAKE_PME_STATUS w 0 ∧
       t.rd HIF_LINK_STATE w 0 = if (s.getHifs w).termination then 1 else 0) ∧
     (∀ (speed : BitVec 3) (width : BitVec 5), (s.getHifs w).termination = true → s.rd HIF_LINK_PERST w 0 = 0 →
       Completes (.pcieLinkUp w speed width) s fun t => t.rd HIF_LINK_STATE w 0 = 2 ∧ t.rd HIF_LINK_SPEED w 0 = speed.toNat ∧ t.rd HIF_LINK_WIDTH w 0 = width.toNat) ∧
     (∀ d3hot pmeEn clearPme : Bool, s.rd HIF_LINK_DSTATE w 0 ≠ 2 → Completes (.pmcsrWrite w d3hot pmeEn clearPme) s fun t =>
       t.rd HIF_LINK_DSTATE w 0 = (if d3hot then 1 else 0) ∧ (t.getHifs w).pmeEn = pmeEn ∧
       t.rd HIF_WAKE_PME_STATUS w 0 = if clearPme then 0 else s.rd HIF_WAKE_PME_STATUS w 0) ∧
     (s.rd HIF_LINK_STATE w 0 = 2 → s.rd HIF_LINK_DSTATE w 0 = 0 → s.rd HIF_MSIX_PBA_PENDING w 0 = 0 → (∀ c < 4, (s.getChans (key2 w c)).live = []) →
       Completes (.l1Entry w) s fun t => t.rd HIF_LINK_STATE w 0 = 3) ∧
     Completes (.pmeTurnOff w) s (fun t => t.rd HIF_LINK_STATE w 0 = 6 ∧ (t.getHifs w).l23Ready = true) ∧
     (s.rd HIF_LINK_DSTATE w 0 = 1 → s.rd HIF_WAKE_PME_STATUS w 0 = 1 → Completes (.pmeRepeat w) s fun t => t = s.emit (.pme w)) ∧
     (s.rd HIF_LINK_STATE w 0 = 2 → Completes (.pcieLinkRecovery w .recovery) s fun t => t.rd HIF_LINK_STATE w 0 = 7) ∧
     (s.rd HIF_LINK_STATE w 0 = 7 → Completes (.pcieLinkRecovery w .backToL0) s fun t => t.rd HIF_LINK_STATE w 0 = 2) ∧
     (s.rd HIF_LINK_STATE w 0 = 3 → Completes (.pcieLinkRecovery w .exitL1) s fun t => t.rd HIF_LINK_STATE w 0 = 2) ∧
     (s.rd HIF_LINK_STATE w 0 ≠ 0 → Completes (.pcieLinkRecovery w .down) s fun t => t.rd HIF_LINK_STATE w 0 = 0 ∧ t.rd HIF_LINK_WIDTH w 0 = 0))

/-- MSI-X enable, the function and vector masks and Bus Master Enable take the values written; the message of a first enable goes out when ATN_SUMMARY is
nonzero and nothing masks it. ATN_TEST sets TEST in each named group and no leaf to 0; the mask registers take what is written; the host timer ends at its
expiry, and with nothing pending the expiry is only counted; 1 µs after a message no event is held back; the TMC timer ends at its expiry and asserts
ATTN_N where a seen group is unmasked; writing 1 to a seen bit clears it, and ATTN_N falls once no unmasked group is seen. (R583, R585, R600, R597, R598,
R599, R601, R603.) -/
def Obligations.InterruptsAndAttention : Prop :=
  (∀ (w : WaferId) (s : State),
     (∀ on : Bool, Completes (.msixEnable w on) s fun t => (t.getHifs w).msixEnable = on) ∧
     (s.atnSummary w ≠ 0 → (s.getHifs w).msixEnable = false → (s.getHifs w).funcMask = false → s.rd HIF_MSIX_VCTL_MASK w 0 = 0 → s.rd HIF_LINK_DSTATE w 0 = 0 →
       s.rd HIF_LINK_BME w 0 = 1 → Completes (.msixEnable w true) s fun t => t.out = .msix w (s.reg HIF_MSIX_ADDR w 0) (s.reg HIF_MSIX_DATA w 0) :: s.out) ∧
     (∀ func vector : Bool, Completes (.msixUnmask w func vector) s fun t => (t.getHifs w).funcMask = func ∧ t.rd HIF_MSIX_VCTL_MASK w 0 = (if vector then 1 else 0)) ∧
     (∀ on : Bool, Completes (.busMasterEnable w on) s fun t => t.rd HIF_LINK_BME w 0 = (if on then 1 else 0))) ∧
  (∀ (w : WaferId) (s : State),
     (∀ groups : BitVec 16, Completes (.atnTest w groups) s fun t => (∀ g < 16, bitAt groups.toNat g = true → t.leafSet w (Leaf.test g) = true) ∧
       ∀ g b, b < 64 → s.leafSet w ⟨g, b⟩ = true → t.leafSet w ⟨g, b⟩ = true) ∧
     (∀ (g : Fin 16) (v : Word32), Completes (.atnUnmask w (.leaf g) v) s fun t => t.reg ATN_LMASK w g = v.toNat) ∧
     (∀ v : Word32, Completes (.atnUnmask w .host v) s fun t => t.reg ATN_MASK w 0 = v.toNat % 2 ^ 16) ∧
     (∀ v : Word32, Completes (.atnUnmask w .tmc v) s fun t => t.reg ATN_TMC_MASK w 0 = v.toNat % 2 ^ 16) ∧
     ((s.getAtns w).hostTimer.isSome = true → Completes (.msixCoalesceExpiry w) s fun t => (t.getAtns w).hostTimer = none ∧
       (s.atnSummary w = 0 → t.rd ATN_SUPPRESSED_COUNT w 0 = min (s.rd ATN_SUPPRESSED_COUNT w 0 + 1) (2 ^ 32 - 1) ∧ t.out = s.out)) ∧
     ((s.getAtns w).heldEvent = false → Completes (.msixSpacing w) s fun t => (t.getAtns w).spacing = false ∧ t.out = s.out) ∧
     ((s.getAtns w).tmcTimer.isSome = true → Completes (.tmcCoalesceExpiry w) s fun t => (t.getAtns w).tmcTimer = none ∧
       (t.getAtns w).attnN = ((s.getAtns w).attnN || s.reg ATN_TMC_SEEN w 0 &&& notBits 16 (s.reg ATN_TMC_MASK w 0) != 0)) ∧
     (∀ v : BitVec 16, Completes (.tmcSeenClear w v) s fun t => t.reg ATN_TMC_SEEN w 0 = s.reg ATN_TMC_SEEN w 0 &&& notBits 16 v.toNat ∧
       (t.reg ATN_TMC_SEEN w 0 &&& notBits 16 (s.reg ATN_TMC_MASK w 0) = 0 → (t.getAtns w).attnN = false)))

/-- Enabling a channel with a legal ring clears its counts and leaves it IDLE; disabling stops it and drops its work; a TAIL that gives more than the ring is
discarded with DMA_ERR and any other is taken; RESUME leaves HALTED; a descriptor that arrives joins the work; one that ends with an error is counted in
HEAD, halts the channel and raises DMA_ERR. (R578, R579, R580, R581, R595.) -/
def Obligations.DmaChannels : Prop :=
  ∀ (w : WaferId) (c : ChanId) (s : State),
    (∀ log2 : BitVec 4, 4 ≤ log2.toNat → s.rd HIF_DMA_CFG_ENABLE w c = 0 → Completes (.dmaEnable w c log2) s fun t =>
      t.rd HIF_DMA_CFG_ENABLE w c = 1 ∧ t.rd HIF_DMA_CFG_RING_LOG2 w c = log2.toNat ∧ t.reg HIF_DMA_HEAD w c = 0 ∧ t.reg HIF_DMA_TAIL w c = 0 ∧ t.rd HIF_DMA_STAT_STATE w c = 2) ∧
    (∀ log2 : BitVec 4, log2.toNat < 4 → Completes (.dmaEnable w c log2) s fun t => t.leafSet w Leaf.dmaErr = true ∧ t.rd HIF_DMA_STAT_STATE w c = s.rd HIF_DMA_STAT_STATE w c) ∧
    Completes (.dmaDisable w c) s (fun t => t.rd HIF_DMA_CFG_ENABLE w c = 0 ∧ t.rd HIF_DMA_STAT_STATE w c = 0 ∧ t.reg HIF_DMA_HEAD w c = 0 ∧ (t.getChans (key2 w c)).live = []) ∧
    (∀ v : Word32, s.rd HIF_DMA_STAT_STATE w c ≠ 0 → s.dmaRingSize w c < (v.toNat + 2 ^ 32 - s.reg HIF_DMA_HEAD w c) % 2 ^ 32 →
      Completes (.dmaTailWrite w c v) s fun t => t.leafSet w Leaf.dmaErr = true ∧ t.reg HIF_DMA_TAIL w c = s.reg HIF_DMA_TAIL w c) ∧
    (∀ v : Word32, s.rd HIF_DMA_STAT_STATE w c ≠ 0 → (v.toNat + 2 ^ 32 - s.reg HIF_DMA_HEAD w c) % 2 ^ 32 ≤ s.dmaRingSize w c →
      Completes (.dmaTailWrite w c v) s fun t => t.reg HIF_DMA_TAIL w c = v.toNat) ∧
    (s.rd HIF_DMA_STAT_STATE w c = 3 → Completes (.dmaResume w c) s fun t => t.rd HIF_DMA_STAT_STATE w c = if s.dmaGiven w c = 0 then 2 else 1) ∧
    (∀ d : DmaDesc, s.rd HIF_DMA_STAT_STATE w c = 1 → (s.getChans (key2 w c)).live.length < s.dmaGiven w c → Completes (.dmaCompletion w c (.desc d)) s fun t =>
      (t.getChans (key2 w c)).live = (s.getChans (key2 w c)).live ++ [(d, 0)]) ∧
    (∀ (d : DmaDesc) (n : Nat) (rest : List (DmaDesc × Nat)), s.rd HIF_DMA_STAT_STATE w c = 1 → (s.getChans (key2 w c)).live = (d, n) :: rest →
      let ended := fun (code : Nat) (t : State) => t.rd HIF_DMA_HEAD_COUNT w c = (s.rd HIF_DMA_HEAD_COUNT w c + 1) % 2 ^ 32 ∧ t.rd HIF_DMA_STAT_LAST_CODE w c = code ∧
        t.rd HIF_DMA_STAT_STATE w c = 3 ∧ t.leafSet w Leaf.dmaErr = true ∧ (t.getChans (key2 w c)).live = rest
      Completes (.dmaCompletionTimeout w c) s (ended 3) ∧ Completes (.dmaCompletion w c .error) s (ended 2) ∧ (dmaOk d = false → Completes (.dmaDescDone w c) s (ended 1)))

/-- A Sync, an edge of the PPS and a returned reference are measured: within 50 ns for 60 s the RMC is LOCKED, otherwise an RMC that was LOCKED is in HOLDOVER;
its time steps forward only beyond 1 ms with no scheduled cue armed, and is never set back; a lost reference ends LOCKED; markers and one sound TOD frame
for each tray go out; the fan-out switches; a bound above 1 ms frees an RMC. A sound TOD frame gives the wafer the RMC's quality and a bad one is counted;
a marker near the expected instant gives the offset, and locks the wafer where it is within 10 ns under a LOCKED RMC; one outside or missing is counted,
and the second in a row ends LOCKED; two markers 1 s apart with a frame between them reacquire; an allowed step moves the counter forward by the whole
offset; a bound above 1 ms frees the wafer. (R619, R620, R621, R622, R628, R624, R625, R626, R627.) -/
def Obligations.TimeOfRmcsAndWafers : Prop :=
  (∀ (r : RmcId) (s : State),
     let x := s.getRmcs r
     let measured := fun (off : Int) (t : State) => let y := t.getRmcs r
       y.lastRef = s.now ∧ y.lockRun = (if off.natAbs ≤ 50 then some (x.lockRun.getD s.now) else none) ∧
       (∀ a, x.lockRun = some a → off.natAbs ≤ 50 → a + 60000000000 ≤ s.now → y.quality = 0) ∧ (50 < off.natAbs → y.quality = if x.quality = 0 then 1 else x.quality) ∧
       (off ≤ 1000000 → y.clock.read s.now = x.clock.read s.now) ∧
       (1000000 < off → s.anySchedArmed = false → y.clock.read s.now = (x.clock.read s.now + off.natAbs) % 2 ^ 64) ∧
       (1000000 < off → s.anySchedArmed = true → y.clock.read s.now = x.clock.read s.now ∧ y.clock.ppb = 20000)
     (∀ (off : Word) (utc : BitVec 16) (leaps : BitVec 2), Completes (.ptpSync r off utc leaps) s fun t => measured off.toInt t ∧ (t.getRmcs r).lastSync = some s.now ∧
       (t.getRmcs r).utc = utc.toNat ∧ (t.getRmcs r).leaps = leaps.toNat) ∧
     (∀ off : Word, Completes (.ppsEdge r off) s fun t => measured off.toInt t ∧ (t.getRmcs r).lastPps = some s.now) ∧
     (∀ off : Word, Completes (.rmcReferenceReturn r off) s (measured off.toInt)) ∧
     (Completes (.rmcReferenceLoss r) s fun t => (t.getRmcs r).quality = (if x.quality = 0 then 1 else x.quality) ∧ (t.getRmcs r).lockRun = none ∧
       (t.getRmcs r).clock.read s.now = x.clock.read s.now) ∧
     (s.rack.planner.haveActive = true → Completes .markerSend s fun t => t.out = .marker s.fanRmc :: s.out) ∧
     (s.rack.planner.haveActive = true → ∀ step : BitVec 36, Completes (.todSend step) s fun t => t.out.length = s.out.length + 44 ∧
       ∀ tray < 44, ∃ bs b, .timeFrame tray bs ∈ t.out ∧ frameBody 1 17 bs = some b ∧ ofLeBytes (b.take 6) = ((s.getRmcs s.fanRmc).clock.read s.now / 1000000000 + 1) % 2 ^ 48) ∧
     (Completes .fanoutSwitch s fun t => t.fanRmc = 1 - s.fanRmc) ∧
     (1000000 < x.bound s.now → x.quality = 1 → Completes (.holdoverBoundExceeded (.rmc r)) s fun t => (t.getRmcs r).quality = 2)) ∧
  (∀ (w : WaferId) (s : State),
     let c := s.getClocks w
     let off := s.markerOffset w
     let missed := fun (t : State) => t.rd TB_EVENTS_MISSED w 0 = satAdd TB_EVENTS_MISSED.width (s.rd TB_EVENTS_MISSED w 0) 1 ∧ t.rd TB_STAT_PPS_OK w 0 = 0 ∧
       (c.missed = 1 → t.leafSet w Leaf.ppsLost = true ∧ (t.getClocks w).acquired = false ∧ (s.rd TB_STAT_QUALITY w 0 ≠ 2 → t.rd TB_STAT_QUALITY w 0 = 1 ∧ t.rd TB_STAT_HOLD_SRC w 0 = 2))
     (∀ bytes : List Byte,
       (frameBody 1 17 (bytes.map BitVec.toNat) = none → Completes (.todFrame w bytes) s fun t => t.rd TB_EVENTS_FRAME_ERR w 0 = satAdd TB_EVENTS_FRAME_ERR.width (s.rd TB_EVENTS_FRAME_ERR w 0) 1 ∧
         SameRegs [TB_EVENTS] s t) ∧
       (∀ b, frameBody 1 17 (bytes.map BitVec.toNat) = some b → Completes (.todFrame w bytes) s fun t => let q := b.getD 6 0 % 4
         t.rd TB_STAT_TOD_OK w 0 = 1 ∧ t.rd TB_STAT_RMC_QUALITY w 0 = q ∧ (t.getClocks w).todSeconds = ofLeBytes (b.take 6) ∧ (t.getClocks w).todSince = true ∧
         (s.rd TB_STAT_QUALITY w 0 = 0 → q ≠ 0 → t.rd TB_STAT_QUALITY w 0 = 1 ∧ t.rd TB_STAT_HOLD_SRC w 0 = 1 ∧ t.leafSet w Leaf.quality = true))) ∧
     (s.follows w = true → off.natAbs ≤ 2000 → Completes (.marker w) s fun t => t.reg TB_OFFSET w 0 = satOffset off ∧ t.rd TB_STAT_PPS_OK w 0 = 1 ∧ (t.getClocks w).missed = 0 ∧ t.tbNow w = s.tbNow w ∧
       (off.natAbs ≤ 10 → s.rd TB_STAT_RMC_QUALITY w 0 = 0 → t.rd TB_STAT_QUALITY w 0 = 0)) ∧
     (s.follows w = true → 2000 < off.natAbs → Completes (.marker w) s missed) ∧
     (Completes (.markerMissing w) s fun t => missed t ∧ (t.getClocks w).marker = none) ∧
     (∀ m, s.follows w = false → c.acquired = false → c.marker = some m → m + 999975000 ≤ s.tbNow w → s.tbNow w ≤ m + 1000025000 → c.todSince = true → Completes (.marker w) s fun t =>
       (t.getClocks w).acquired = true ∧ t.rd TB_EVENTS_REACQ w 0 = satAdd TB_EVENTS_REACQ.width (s.rd TB_EVENTS_REACQ w 0) 1 ∧ t.reg TB_OFFSET w 0 = satOffset off) ∧
     (s.follows w = false → c.acquired = true → 1000000 < off → s.mayStep w = true → Completes (.marker w) s fun t => t.tbNow w = (s.tbNow w + off.natAbs) % 2 ^ 64 ∧
       t.rd TB_EVENTS_STEPS w 0 = satAdd TB_EVENTS_STEPS.width (s.rd TB_EVENTS_STEPS w 0) 1 ∧ t.reg TB_LAST_STEP w 0 = off.natAbs % 2 ^ 64 ∧ t.rd TB_STAT_STEP_WAIT w 0 = 0 ∧
       t.leafSet w Leaf.timeStep = true) ∧
     (s.follows w = false → c.acquired = true → 1000000 < off → s.mayStep w = false → Completes (.marker w) s fun t => t.tbNow w = s.tbNow w ∧ t.rd TB_STAT_STEP_WAIT w 0 = 1 ∧
       t.reg TB_SLEW w 0 = 20000) ∧
     (1000000 < s.tbBound w → s.rd TB_STAT_QUALITY w 0 = 1 → Completes (.holdoverBoundExceeded (.wafer w)) s fun t => t.rd TB_STAT_QUALITY w 0 = 2 ∧ t.rd TB_STAT_HOLD_SRC w 0 = 2 ∧
       t.leafSet w Leaf.quality = true))

/-- A request is carried out once and answered, and a repeat is answered from what was kept; a response ends what it answers; an event is noted and
acknowledged; what is unanswered is repeated up to five times; a change of a side-band pair, of ATTN_N or of presence is reported in an event; a TMC that
starts has a new state and the tray follows its stored power state; a button inverts a spotlight and its timeout ends it; a write of B72_ACT_CTL sets a
chip's stamp, number and act. (R644, R645, R646, R647, R648, R649, R652, R653, R655, R662.) -/
def Obligations.TrayFramesAndControllers : Prop :=
  ∀ s : State,
    let told := fun (u : Nat) (words : List Nat) (t : State) => ((s.getTmcs u).eventSeq, 0, words) ∈ (t.getTmcs u).events ∧
      t.out = .frame u (taf 4 0 (s.getTmcs u).eventSeq 0 words.length 0 words) :: .frame u (taf 4 0 (s.getTmcs u).eventSeq 0 words.length 0 words) :: s.out
    (∀ (u : Fin 54) (sender : BitVec 16) (bytes : List Byte) (x : Frame) (typ : Nat) (c : Instr), (typ = 1 ∧ c = .tafReadRequest u sender bytes) ∨ (typ = 2 ∧ c = .tafWriteRequest u sender bytes) →
      s.stationRuns u = true → parseFrame (bytes.map BitVec.toNat) = some x → x.typ = typ →
      let kept := (s.getTafKept u).find? fun y => y.1 == sender.toNat && y.2.1 == x.seq
      (∀ y, kept = some y → Completes c s fun t => t = s.emit (.frame u y.2.2)) ∧
      (kept = none → Completes c s fun t => t.out.head? = some (.frame u (taf 3 x.target x.seq x.off x.count (carryOut u x s).1 (carryOut u x s).2.1))) ∧
      (∀ h : ShelfId, kept = none → u.val = 44 + h.val → x.ok = true → x.target = 4 →
        (typ = 1 → x.off = 0 → x.count = 1 → Completes c s fun t => t.out = .frame u (taf 3 4 x.seq 0 1 0 [s.reg SHF_STAT h 0 % 2 ^ 32]) :: s.out) ∧
        (∀ v, typ = 2 → x.off = 0xC → x.data = [v] → Completes c s fun t => t.rd SHF_ALLOT_ALLOT_W h 0 = bits v 16 0 ∧ t.rd SHF_ALLOT_PLAN_ID h 0 = bits v 28 17 ∧ t.rd SHF_STAT_STATIC h 0 = 0))) ∧
    (∀ (u : TmcId) (bytes : List Byte) (x : Frame), parseFrame (bytes.map BitVec.toNat) = some x → x.typ = 3 → Completes (.tafResponse (u.castLE (by decide)) bytes) s fun t =>
      (t.getTmcs u).events = (s.getTmcs u).events.filter fun e => e.1 ≠ x.seq) ∧
    (∀ (u : TmcId) (bytes : List Byte) (x : Frame), parseFrame (bytes.map BitVec.toNat) = some x → x.typ = 4 → s.rack.planner.haveActive = true → Completes (.tafEvent u bytes) s fun t =>
      t.out = .frame (54 + s.rack.planner.active) (taf 3 x.target x.seq x.off x.count 0 []) :: s.out ∧
      (x.data.getD 0 0 % 256 = 1 → mget 0 t.rack.planner.known (knownKey u 1 (x.data.getD 1 0)) = x.data.getD 2 0 + 1)) ∧
    (∀ (u : TmcId) (number : Word32) (e : Nat × Nat × List Nat), ((s.getTmcs u).events.find? fun y => y.1 = number.toNat) = some e →
      (e.2.1 < 5 → Completes (.tafRetry (u.castLE (by decide)) number) s fun t => t.out = .frame u (taf 4 0 e.1 0 e.2.2.length 0 e.2.2) :: .frame u (taf 4 0 e.1 0 e.2.2.length 0 e.2.2) :: s.out ∧
        (number.toNat, e.2.1 + 1, e.2.2) ∈ (t.getTmcs u).events) ∧
      (5 ≤ e.2.1 → Completes (.tafRetry (u.castLE (by decide)) number) s fun t => ∀ y ∈ (t.getTmcs u).events, y.1 ≠ number.toNat)) ∧
    (∀ (u : TmcId) (port : BitVec 8) (pair : BitVec 2), (s.getTmcs u).running = true → port.toNat < sidebandPorts u → mget 0 (s.getTmcs u).sideband port.toNat ≠ pair.toNat →
      Completes (.sidebandChange u port pair) s fun t => mget 0 (t.getTmcs u).sideband port.toNat = pair.toNat ∧ told u [1, port.toNat, pair.toNat] t) ∧
    (∀ w : WaferId, (s.getTmcs w).running = true → (s.getTmcs w).attnSeen ≠ (s.getAtns w).attnN → Completes (.attnNChange w) s fun t =>
      (t.getTmcs w).attnSeen = (s.getAtns w).attnN ∧ told w [2, b2n (s.getAtns w).attnN] t) ∧
    (∀ (u : TmcId) (pos : BitVec 8) (present : Bool) (record : List Byte), (s.getTmcs u).running = true → mget false (s.getTmcs u).presence pos.toNat ≠ present →
      Completes (.presenceChange u pos present record) s fun t => mget false (t.getTmcs u).presence pos.toNat = present ∧ told u [3, pos.toNat, b2n present] t ∧
        mget 0 (t.getTmcs u).identity pos.toNat = if present then identityCode u pos.toNat (record.map BitVec.toNat) else 0) ∧
    (∀ u : TmcId, Completes (.tmcRestart u) s fun t => (t.getTmcs u).running = true ∧ (t.getTmcs u).restarts = (s.getTmcs u).restarts + 1 ∧ (t.getTmcs u).hears0 = false ∧
      (t.getTmcs u).hears1 = false ∧ t.getTafKept u = []) ∧
    (∀ (u : TmcId) (bus : BitVec 16), (s.getTmcs u).running = false ∨ (s.getWafers u).interlockOpen = true ∨ (s.getWafers u).powered = false →
      Completes (.standbyRailUp u bus) s fun t => (t.getTmcs u).running = true ∧ (u.val < 36 → (t.getWafers u).interlockOpen = false) ∧
        ((s.getTmcs u).autoStart = true → (s.getTmcs u).lastState = true → (u.val < 36 → (t.getWafers u).powered = true) ∧ (36 ≤ u.val → (t.getTmcs u).powerOn = true))) ∧
    (∀ u : BitVec 8, hasSpot u.toNat = true → s.spotDriven u.toNat = true →
      (Completes (.spotlightButton u) s fun t => (t.getSpots u.toNat).lit = !(s.getSpots u.toNat).lit ∧ t.getEtags (1000 + u.toNat) = s.getEtags (1000 + u.toNat) + 1) ∧
      ((s.getSpots u.toNat).lit = true → (s.getSpots u.toNat).timeout ≠ 0 → Completes (.spotlightTimeout u) s fun t => (t.getSpots u.toNat).lit = false)) ∧
    (∀ (c : PlaneId) (v : Word32), (s.getTmcs (36 + c.val / 2)).powerOn = true → (s.getTmcs (36 + c.val / 2)).running = true → Completes (.b72ActStateSet c v) s fun t =>
      t.rd B72_ACT_STAT_STAMP c 0 = bits v.toNat 0 0 ∧ t.rd B72_ACT_STAT_MACHINE c 0 = bits v.toNat 19 16 ∧ (bits v.toNat 6 4 ≤ 4 → t.chipActState c (bits v.toNat 1 1) = bits v.toNat 6 4))

/-- An install writes a slot that takes one; a written slot is INSTALLED where its digest agrees and BAD where not; an installed or a previous image that may
be activated is on TRIAL and, on every part but an SMC, runs; a trial that passes leaves the slot ACTIVE and the old one PREVIOUS, and one that fails
leaves it BAD with the old one running; a task that has waited 24 h ends as an exception. (R657, R658, R661, R669.) -/
def Obligations.FirmwareSlots : Prop :=
  ∀ (part : Fin 10) (unit : BitVec 12) (s : State),
    let k := fwKey part unit.toNat
    let p := s.getFws k
    let slot := fun (t : State) (i : Nat) => (t.getFws k).slot i
    s.fwWritable part unit.toNat = true →
    (∀ (i : Fin 2) (ver : Word32) (digest : List Byte), p.accepts i = true → Completes (.firmwareInstall part unit i ver digest) s fun t =>
      slot t i = ⟨1, ver.toNat, digest.map BitVec.toNat⟩ ∧ slot t (1 - i.val) = p.slot (1 - i.val)) ∧
    (∀ (i : Nat) (digest : List Byte), p.find 1 = some i → (∀ x ∈ s.rack.planner.tasks, x.immediate = false) → Completes (.firmwareWriteDone part unit digest) s fun t =>
      (slot t i).st = if (p.slot i).digest = digest.map BitVec.toNat then 2 else 6) ∧
    (p.find 1 = none → p.find 3 = none → s.mayActivate part unit.toNat = true →
      let trial := fun (i : Nat) (t : State) => (slot t i).st = 3 ∧ (slot t i).ver = (p.slot i).ver ∧ (part ≠ 1 → (t.getFws k).running = i) ∧ (part = 1 → (t.getFws k).running = p.running)
      (∀ i, p.find 2 = some i → Completes (.firmwareActivate part unit) s (trial i)) ∧ (∀ i, p.find 5 = some i → Completes (.firmwareRollback part unit) s (trial i))) ∧
    (∀ i, part ≠ 1 → p.find 3 = some i →
      (Completes (.firmwareTrialEnd part unit true) s fun t => (slot t i).st = 4 ∧ (t.getFws k).running = i ∧ (slot t (1 - i)).st = if (p.slot (1 - i)).st = 4 then 5 else (p.slot (1 - i)).st) ∧
      (Completes (.firmwareTrialEnd part unit false) s fun t => (slot t i).st = 6 ∧ (t.getFws k).running = 1 - i)) ∧
    (∀ n : BitVec 16, Completes (.updateTaskTimeout n) s fun t => t.rack.planner.tasks = s.rack.planner.tasks.map fun x => if x.num = n.toNat ∧ x.st = 1 then { x with st := 3 } else x)

/-- A read answers a resource's ETag and contents and changes nothing; the standby refuses every write; a PATCH with a stale ETag, or with a value out of
range, changes nothing, and any other gives the properties their values; Reset actions store and carry out the power state through a running TMC; window
accesses go out as frames; the other actions do what they name; a cap that differs from the plan is counted and written back. (R649, R664, R665, R666,
R667, R668, R669, R674, R31, R513.) -/
def Obligations.RedfishService : Prop :=
  ∀ (r : RmcId) (s : State),
    let p := s.rack.planner
    let active := p.haveActive = true ∧ p.active = r.val
    let ok := fun (code : Nat) (t : State) => ∃ xs, t.out.head? = some (.redfish code xs)
    (∀ x : RfRes, Completes (.redfishGet r x) s fun t => t = s.emit (.redfish 200 (s.getEtags (resKey x) :: s.contents x))) ∧
    (¬ active → ∀ (t : TmcId) (bus : BitVec 16) (x : RfRes) (e : Option Word32) (ps : List (RfProp × Word32)) (n : BitVec 16), ∀ c ∈ [Instr.redfishPatch r x e ps, .resetOn r t bus, .resetForceOff r t,
      .resetGracefulShutdown r t, .resetPowerCycle r t, .failover r, .eventUnsubscribe r n], Completes c s fun u => u = s.emit (.redfish 503 [])) ∧
    (active →
      (∀ (x : RfRes) (e : Word32) (ps : List (RfProp × Word32)), e.toNat ≠ s.getEtags (resKey x) → Completes (.redfishPatch r x (some e) ps) s fun t => t = s.emit (.redfish 412 [])) ∧
      (∀ (x : RfRes) (q : RfProp) (v : Word32), propOk x q v.toNat = false → Completes (.redfishPatch r x none [(q, v)]) s fun t => t = s.emit (.redfish 400 [])) ∧
      (∀ v : Word32,
        (v.toNat ≤ 756000 → Completes (.redfishPatch r .tank none [(.machinePowerLimitW, v)]) s fun t => t.rack.planner.opLimit = v.toNat ∧ ok 200 t ∧ t.getEtags 1 = s.getEtags 1 + 1) ∧
        (v.toNat ≤ 20 → Completes (.redfishPatch r .tank none [(.rideThroughGraceS, v)]) s fun t => t.rack.planner.rtGrace = v.toNat) ∧
        (30 ≤ v.toNat → v.toNat ≤ 45 → Completes (.redfishPatch r .tank none [(.coolantSetpointC, v)]) s fun t => t.rack.planner.coolantSet = v.toNat) ∧
        (1 ≤ v.toNat → v.toNat ≤ 255 → Completes (.redfishPatch r .tank none [(.drainMaxMs, v)]) s fun t => t.rack.planner.drainMaxMs = v.toNat) ∧
        (∀ t : TmcId, t.val < 36 → 1500 ≤ v.toNat → v.toNat ≤ 20000 → Completes (.redfishPatch r (.tray t) none [(.floorW, v)]) s fun u => (u.getPlans t).floor = v.toNat)) ∧
      (∀ t : TmcId, (s.getTmcs t).running = true →
        (∀ bus : BitVec 16, (s.getWafers t).interlockOpen = false → Completes (.resetOn r t bus) s fun u => ok 204 u ∧ (u.getTmcs t).lastState = true ∧
          if t.val < 36 then (u.getWafers t).powered = true else (u.getTmcs t).powerOn = true) ∧
        (Completes (.resetForceOff r t) s fun u => ok 204 u ∧ (u.getTmcs t).lastState = false ∧ (u.getTmcs t).powerOn = false ∧ (t.val < 36 → (u.getWafers t).powered = false)) ∧
        (Completes (.resetGracefulShutdown r t) s fun u => ok 204 u ∧ (u.getTmcs t).lastState = false ∧
          if t.val < 36 then (u.getWafers t).powered = false ∨ (u.getWafers t).downSeq = some 0 else (u.getTmcs t).powerOn = false) ∧
        (t.val < 36 → (s.getWafers t).powered = true → (s.getWafers t).downSeq ≠ some 0 → Completes (.resetPowerCycle r t) s fun u => ok 204 u ∧ u.rd BUP_STAT_READY t 0 = 0 ∧
          ((u.getWafers t).downSeq = some 1 ∨ u.rd BUP_STAT_START_KIND t 0 = 1)) ∧
        (∀ k, t.val = 36 + k → (s.getTmcs t).powerOn = true → Completes (.resetPowerCycle r t) s fun u => ok 204 u ∧ (u.getTmcs t).powerOn = true ∧ u.chipActState (2 * k) 0 = 0 ∧ u.chipActState (2 * k + 1) 1 = 0)) ∧
      (∀ t : TmcId, (s.getTmcs t).running = false → Completes (.resetForceOff r t) s fun u => u = s.emit (.redfish 503 [])) ∧
      (∀ (w : WaferId) (off : BitVec 24) (count : BitVec 9) (data : List Word32), Completes (.windowAccess r w off count data) s fun t =>
        let f := if data.isEmpty then taf 1 1 p.askSeq off.toNat count.toNat 0 [] else taf 2 1 p.askSeq off.toNat data.length 0 (data.map BitVec.toNat)
        t.out = .frame (54 + p.active) f :: s.out ∧ t.rack.planner.asks = p.asks ++ [(w.val * 8, p.askSeq, f)]) ∧
      (∀ (h : ShelfId) (b : BbuId), Completes (.clearCellFault r h b) s fun t => mget 0 (s.getShelves h).serials b ∉ (t.getShelves h).faulted ∧ ok 204 t) ∧
      (∀ n : BitVec 48, n.toNat < 2 ^ 34 → (s.getRmcs r).lastSync = none → Completes (.setSeconds r n) s fun t => (t.getRmcs r).clock.read s.now / 1000000000 = n.toNat ∧
        (t.getRmcs r).clock.read s.now % 1000000000 = (s.getRmcs r).clock.read s.now % 1000000000) ∧
      (Completes (.failover r) s fun t => t.rack.planner.failover = true ∧ ok 204 t) ∧
      (∀ (part : Fin 10) (unit : BitVec 12) (ver : Word32) (digest : List Byte) (now : Bool) (c : Instr), c = .simpleUpdate r part unit ver digest now ∨ c = .multipartUpdate r part unit ver digest now →
        let f := s.getFws (fwKey part unit.toNat)
        (s.fwWritable part unit.toNat = true → f.accepts f.spare = true → Completes c s fun t => ((t.getFws (fwKey part unit.toNat)).slot f.spare) = ⟨1, ver.toNat, digest.map BitVec.toNat⟩ ∧
          t.rack.planner.tasks = p.tasks ++ [⟨p.nextTask, part, unit.toNat, f.spare, now, s.now, 0⟩] ∧ t.out.head? = some (.redfish 202 [p.nextTask])) ∧
        (s.fwWritable part unit.toNat = false → Completes c s fun t => t = s.emit (.redfish 400 []))) ∧
      (∀ dest : Word, p.subs.length < 16 → Completes (.eventSubscribe r dest) s fun t => t.rack.planner.subs = p.subs ++ [(p.nextSub, dest.toNat)] ∧ t.out = .redfish 201 [p.nextSub] :: s.out) ∧
      (∀ dest : Word, 16 ≤ p.subs.length → Completes (.eventSubscribe r dest) s fun t => t = s.emit (.redfish 400 [])) ∧
      (∀ n : BitVec 16, (∃ x ∈ p.subs, x.1 = n.toNat) → Completes (.eventUnsubscribe r n) s fun t => (∀ x ∈ t.rack.planner.subs, x.1 ≠ n.toNat) ∧ ok 204 t)) ∧
    (∀ w : WaferId, p.haveActive = true → s.planned w = true → s.hostRuns w = true → s.capDiffers w = true → 1500 ≤ (s.getPlans w).written → (s.getPlans w).written ≤ 20000 →
      Completes .capConsistencyCheck s fun t => t.rd PWR_CAP_CAP_W w 0 = (s.getPlans w).written ∧ (t.getPlans w).overrides = (s.getPlans w).overrides + 1)

/-- A WRITE that is in range and whose PEC agrees carries its words into the window once, whatever number of times its tag repeats; a READ answers the words of
the window with count and PEC; the result of every transaction shows, and what is refused or repeated is counted; the always-on status is served whenever
the wafer is powered; a stretched-out transaction is discarded and raised. GO starts the transaction that the registers describe, and is discarded while
one is in progress; a transaction ends with its result, its data in the buffer and its cause raised; a lost arbitration is retried at most RETRY times; a
recovery ends the transaction on its segment, the third within a second marks the segment STUCK, and one that succeeds there frees it. (R684, R685, R686,
R687, R688, R689, R691, R692, R693.) -/
def Obligations.TwoWireBus : Prop :=
  (∀ (w : WaferId) (us : BitVec 16) (s : State), (s.getWafers w).powered = true →
     let s0 := smcWake w us.toNat s
     let ended := fun (result : Nat) (f : Fld) (t : State) => t.rd TWI_TGT_STAT_LAST_RESULT w 0 = result ∧ t.rd f w 0 = satAdd f.width (s.rd f w 0) 1 ∧
       SameRegs [TWI_TGT_STAT, TWI_TGT_EVENTS] s t ∧ t.out = s.out
     (∀ (cmd : Byte) (bytes : List Byte) (pec : Option Byte), let bs := bytes.map BitVec.toNat
       let c := Instr.twiWrite w cmd bytes pec us
       let good := pec = some (BitVec.ofNat 8 (crc8 (0x58 :: 0x10 :: bs))) ∨ (pec = none ∧ s.rd TWI_TGT_CFG_PEC_REQ w 0 = 0)
       let tag := bs.getD 1 0; let off := ofLeBytes ((bs.drop 2).take 3)
       (cmd ≠ 0x10 → Completes c s (ended 2 TWI_TGT_EVENTS_BAD_CMD)) ∧
       (cmd = 0x10 → s.hostRuns w = false → Completes c s (ended 3 TWI_TGT_EVENTS_BAD_CMD)) ∧
       (cmd = 0x10 → s.hostRuns w = true → writeOk bs = false → Completes c s (ended 2 TWI_TGT_EVENTS_BAD_CMD)) ∧
       (cmd = 0x10 → s.hostRuns w = true → writeOk bs = true → ¬ good → Completes c s (ended 1 TWI_TGT_EVENTS_PEC_BAD)) ∧
       (cmd = 0x10 → s.hostRuns w = true → writeOk bs = true → good → tag ≠ 0 → (s.getTwis w).last = some (tag, off, bs.drop 6) → Completes c s (ended 5 TWI_TGT_EVENTS_DUP)) ∧
       (cmd = 0x10 → s.hostRuns w = true → writeOk bs = true → good → (tag = 0 ∨ (s.getTwis w).last ≠ some (tag, off, bs.drop 6)) → Completes c s fun t => t.rd TWI_TGT_STAT_LAST_RESULT w 0 = 0 ∧
         SameRegs [TWI_TGT_STAT] (windowWrite w 1 off ((dwords (bs.drop 6)).map fun v => (15, v)) s0) t ∧ (tag ≠ 0 → (t.getTwis w).last = some (tag, off, bs.drop 6) ∧ t.rd TWI_TGT_STAT_LAST_TAG w 0 = tag))) ∧
     (∀ bytes : List Byte, let bs := bytes.map BitVec.toNat
       (s.hostRuns w = false → Completes (.twiRead w bytes us) s (ended 3 TWI_TGT_EVENTS_BAD_CMD)) ∧
       (s.hostRuns w = true → readOk bs = false → Completes (.twiRead w bytes us) s (ended 2 TWI_TGT_EVENTS_BAD_CMD)) ∧
       (s.hostRuns w = true → readOk bs = true → let n := bs.getD 5 0
         let data := 4 * n :: (windowRead w 1 (ofLeBytes ((bs.drop 1).take 3)) (List.replicate n 15) s0).1.flatMap (leBytes 4)
         Completes (.twiRead w bytes us) s fun t => t.rd TWI_TGT_STAT_LAST_RESULT w 0 = 0 ∧ t.out.head? = some (.twi w (data ++ [crc8 ([0x58, 0x11] ++ bs ++ [0x59] ++ data)])))) ∧
     (Completes (.twiAon w) s fun t => t = s.emit (.twi w (8 :: s.aonStatus w))) ∧
     (s.hostRuns w = true → Completes (.twiStretchTimeout w) s fun t => t.rd TWI_TGT_STAT_LAST_RESULT w 0 = 4 ∧ t.rd TWI_TGT_STAT_STATE w 0 = 0 ∧ t.leafSet w Leaf.stretchTimeout = true ∧
       t.rd TWI_TGT_EVENTS_STRETCH_TO w 0 = satAdd TWI_TGT_EVENTS_STRETCH_TO.width (s.rd TWI_TGT_EVENTS_STRETCH_TO w 0) 1 ∧ SameRegs (TWI_TGT_STAT :: TWI_TGT_EVENTS :: attentionRegs) s t) ∧
     (Completes (.twiTargetBusReset w) s fun t => t.rd TWI_TGT_STAT_STATE w 0 = 0 ∧ SameRegs [TWI_TGT_STAT] s t) ∧
     (s.hostRuns w = true → Completes (.smcSleep w) s fun t => (t.getTwis w).asleep = true ∧ SameRegs [] s t)) ∧
  (∀ (w : WaferId) (s : State),
     let busy := s.rd TWI_CTRL_STAT_BUSY w 0
     let seg := s.rd TWI_CTRL_CFG_SEGMENT w 0
     let stuck := s.rd TWI_CTRL_STAT_STUCK w 0
     let ended := fun (result : Nat) (leaf : Leaf) (t : State) => t.rd TWI_CTRL_STAT_BUSY w 0 = 0 ∧ t.rd TWI_CTRL_STAT_RESULT w 0 = result ∧ t.leafSet w leaf = true
     (∀ v : Word32,
       (busy = 0 → seg ≤ 8 → bitAt stuck seg = false → Completes (.twiGo w v) s fun t => t.rd TWI_CTRL_STAT_BUSY w 0 = 1 ∧ t.rd TWI_CTRL_STAT_RETRIES w 0 = 0 ∧
         t.rd TWI_CTRL_CMD_WLEN w 0 = bits v.toNat 13 8 ∧ t.rd TWI_CTRL_CMD_RLEN w 0 = bits v.toNat 19 14 ∧ ∃ bs, t.out = .twi w bs :: s.out ∧ bs.length = min 32 (bits v.toNat 13 8)) ∧
       (busy = 0 → seg ≤ 8 → bitAt stuck seg = true → Completes (.twiGo w v) s (ended 4 Leaf.busStuck)) ∧
       (busy = 1 ∨ 8 < seg → Completes (.twiGo w v) s fun t => SameRegs [TWI_CTRL_CMD] s t ∧ t.out = s.out)) ∧
     (∀ (result : Fin 6) (nackAt : BitVec 6) (data : List Byte), busy = 1 → Completes (.twiCtrlDone w result nackAt data) s fun t =>
       ended result (match result.val with | 1 => Leaf.ctrlNack | 2 => Leaf.ctrlNack | 3 => Leaf.arbLost | 4 => Leaf.busStuck | _ => Leaf.ctrlDone) t ∧
       (result = 2 → t.rd TWI_CTRL_STAT_NACK_AT w 0 = nackAt.toNat) ∧
       (∀ i, result = 0 → i < data.length → i < 32 → i < s.rd TWI_CTRL_CMD_RLEN w 0 → t.reg TWI_CTRL_BUF w (i / 4) / 256 ^ (i % 4) % 256 = (data.getD i 0).toNat) ∧
       (result ≠ 0 → ∀ i, t.reg TWI_CTRL_BUF w i = s.reg TWI_CTRL_BUF w i)) ∧
     (busy = 1 → s.rd TWI_CTRL_STAT_RETRIES w 0 < s.rd TWI_CTRL_CFG_RETRY w 0 → Completes (.twiArbLost w) s fun t => t.rd TWI_CTRL_STAT_BUSY w 0 = 1 ∧
       t.rd TWI_CTRL_STAT_RETRIES w 0 = s.rd TWI_CTRL_STAT_RETRIES w 0 + 1 ∧ t.leafSet w Leaf.arbLost = true) ∧
     (busy = 1 → s.rd TWI_CTRL_CFG_RETRY w 0 ≤ s.rd TWI_CTRL_STAT_RETRIES w 0 → Completes (.twiArbLost w) s (ended 3 Leaf.arbLost)) ∧
     (∀ (g : Fin 9) (ok : Bool),
       (bitAt stuck g = true → ok = true → Completes (.twiBusRecovery w g ok) s fun t => bitAt (t.rd TWI_CTRL_STAT_STUCK w 0) g = false) ∧
       (bitAt stuck g = false → 2 ≤ ((s.getTwis w).recoveries.filter fun y => y.1 = g.val ∧ s.now < y.2 + 1000000000).length → Completes (.twiBusRecovery w g ok) s fun t =>
         bitAt (t.rd TWI_CTRL_STAT_STUCK w 0) g = true) ∧
       (bitAt stuck g = false → busy = 1 → seg = g.val → Completes (.twiBusRecovery w g ok) s (ended 4 Leaf.busStuck))))

/-- IDCODE, BYPASS, SAMPLE/PRELOAD, EXTEST and DPSTAT select their instruction and shift out what the rules give; a DPACC scan captures the previous result and
carries its request out in the window, unless the access before it still runs or no host field does; TRST resets the port and detaches its debugger. (R702,
R703, R704, R705, R707, R723.) -/
def Obligations.PrompterPort : Prop :=
  ∀ (w : WaferId) (s : State), (s.getWafers w).powered = true →
    let shown := fun (ir n v : Nat) (t : State) => (t.getTwis w).ir = ir ∧ t.out = .jtag w n v :: s.out ∧ t.rd DBG_STAT_PRESENT w 0 = 1 ∧ SameRegs [DBG_STAT] s t
    (Completes (.jtagIdcode w) s (shown 2 32 0x146529D3)) ∧
    (∀ ir : BitVec 5, ir ∉ [0, 1, 2, 8, 9] → Completes (.jtagBypass w ir) s (shown 0x1F 1 0)) ∧
    (∀ pins cells : BitVec 96, Completes (.jtagSamplePreload w pins cells) s fun t => shown 1 96 pins.toNat t ∧ (t.getTwis w).cells = cells.toNat) ∧
    (Completes (.jtagExtest w) s fun t => (t.getTwis w).ir = (if s.hostRuns w then 0x1F else 0) ∧ (t.getTwis w).driving = !s.hostRuns w) ∧
    (Completes (.dpstat w) s (shown 9 64 (ofLeBytes (s.aonStatus w)))) ∧
    (let asked := fun (t : State) => .jtag w 64 (s.dpCaptured w false) ∈ t.out
     let s1 := (setIr w 8 (s.wr DBG_STAT_PRESENT w 0 1)).emit (.jtag w 64 (s.dpCaptured w false))
     (s.hostRuns w = true → Completes (.dpaccNop w false) s fun t => asked t ∧ (t.getTwis w).ir = 8 ∧ (t.getTwis w).dpAck = 0 ∧ (t.getTwis w).dpOp = 0 ∧ (t.getTwis w).dpData = 0) ∧
     (∀ (word : BitVec 22) (v : Word32), s.hostRuns w = true →
       (Completes (.dpaccRead w word false) s fun t => asked t ∧ (t.getTwis w).dpOp = 1 ∧ ((t.getTwis w).dpAck = 0 ∨ (t.getTwis w).dpAck = 2) ∧
         (t.getTwis w).dpData = (windowRead w 2 (word.toNat * 4) [15] s1).1.getD 0 0) ∧
       (Completes (.dpaccWrite w word v false) s fun t => asked t ∧ (t.getTwis w).dpOp = 2 ∧ ((t.getTwis w).dpAck = 0 ∨ (t.getTwis w).dpAck = 2) ∧
         SameRegs [] (windowWrite w 2 (word.toNat * 4) [(15, v.toNat)] s1) t)) ∧
     (∀ (word : BitVec 22) (v : Word32), ∀ c ∈ [Instr.dpaccNop w true, .dpaccRead w word true, .dpaccWrite w word v true], Completes c s fun t => shown 8 64 (1 + (s.getTwis w).dpOp * 4) t ∧
       (t.getTwis w).dpAck = (s.getTwis w).dpAck ∧ (t.getTwis w).dpOp = (s.getTwis w).dpOp ∧ (t.getTwis w).dpData = (s.getTwis w).dpData) ∧
     (∀ (word : BitVec 22) (v : Word32), s.hostRuns w = false → ∀ c ∈ [Instr.dpaccNop w false, .dpaccRead w word false, .dpaccWrite w word v false], Completes c s fun t =>
       shown 8 64 (3 + (s.getTwis w).dpOp * 4) t ∧ (t.getTwis w).dpAck = 3)) ∧
    (Completes (.trst w) s fun t => (t.getTwis w).ir = 2 ∧ (s.rd DBG_STAT_PATH w 0 = 2 → s.rd DBG_STAT_ATTACHED w 0 = 1 → t.rd DBG_STAT_ATTACHED w 0 = 0))

/-- Attach and detach show and are raised, and a detach without KEEP disarms the comparators; a halt stops an idle core at once and asks a running one; a
halted core resumes or steps from where it was; registers are written while halted and memory at the address that DBG_MEM_ADDR gives, which advances under
AUTOINC; a core out of reach, a core not halted and an address out of range refuse the access with their codes. (R707, R708, R709, R710, R711, R715, R717,
R725.) -/
def Obligations.DebuggingCores : Prop :=
  ∀ (w : WaferId) (s : State),
    let x := s.dbgCore w
    let i := coreIdx x.1 x.2
    let core := fun (t : State) => t.core w x.1 x.2
    let err := fun (code : Nat) (t : State) => t.rd DBG_CORE_STAT_ACC_ERR w i = code
    let refused := fun (code : Nat) (t : State) => err code t ∧ core t = core s
    let reach := s.dbgReach w x.1 x.2 = true
    let a := s.rd DBG_MEM_ADDR_ADDR w i / 8 * 8
    let space := s.rd DBG_MEM_ADDR_SPACE w i
    let moved := fun (t : State) => t.rd DBG_MEM_ADDR_ADDR w i = if s.rd DBG_MEM_ADDR_AUTOINC w i = 1 then (s.rd DBG_MEM_ADDR_ADDR w i + 8) % 2 ^ 17 else s.rd DBG_MEM_ADDR_ADDR w i
    (∀ (path : PathId) (v : Word32),
      (Completes (.debugAttach w path v) s fun t => t.rd DBG_STAT_ATTACHED w 0 = 1 ∧ t.rd DBG_STAT_PATH w 0 = path.val ∧ t.rd DBG_CTL_KEEP w 0 = bits v.toNat 1 1 ∧
        (s.rd DBG_STAT_ATTACHED w 0 = 0 → t.leafSet w Leaf.attach = true)) ∧
      (s.rd DBG_STAT_ATTACHED w 0 = 1 → Completes (.debugDetach w path v) s fun t => t.rd DBG_STAT_ATTACHED w 0 = 0 ∧ t.leafSet w Leaf.attach = true ∧
        (bits v.toNat 1 1 = 0 → ∀ n, bitAt (t.reg DBG_BP w n) 31 = false ∧ bitAt (t.reg DBG_WP_CFG w n) 31 = false) ∧ (bits v.toNat 1 1 = 1 → t.job.cores = s.job.cores))) ∧
    (Completes (.debugPresenceLost w) s fun t => t.rd DBG_STAT_PRESENT w 0 = 0 ∧ (s.rd DBG_STAT_PATH w 0 = 2 → t.rd DBG_STAT_ATTACHED w 0 = 0)) ∧
    (s.dbgBcast w = true → Completes (.dbgHalt w) s fun t => ∀ y ∈ s.dbgTargets w, (s.core w y.1 y.2).st = .idle → (t.core w y.1 y.2).st = .halt) ∧
    (s.dbgBcast w = false →
      (¬ reach → Completes (.dbgHalt w) s (refused 3) ∧ Completes (.dbgResume w) s (refused 3) ∧ Completes (.dbgStep w) s (refused 3)) ∧
      (reach → (core s).st = .idle → Completes (.dbgHalt w) s fun t => (core t).st = .halt ∧ (core t).reason = 1 ∧ t.rd DBG_CORE_STAT_STATE w i = 2 ∧ err 0 t ∧ t.leafSet w Leaf.halted = true) ∧
      (reach → (core s).st = .run → (core s).haltReq = none → Completes (.dbgHalt w) s fun t => (core t).haltReq = some 1 ∧ t.rd DBG_CORE_STAT_STATE w i = 1 ∧ err 0 t) ∧
      (reach → (core s).st = .halt → (core s).reason ≠ 0 → (core s).faultHeld = false →
        (Completes (.dbgResume w) s fun t => (core t).st = (core s).before ∧ (core t).reason = 0 ∧ (core t).stepping = false ∧ t.rd DBG_CORE_STAT_STATE w i = 0 ∧ err 0 t) ∧
        (Completes (.dbgStep w) s fun t => (core t).st = (core s).before ∧ (core t).stepping = true ∧ t.rd DBG_CORE_STAT_STATE w i = 3 ∧ err 0 t))) ∧
    (∀ (f : FieldId) (u : UnitId) (n : Nat), let c := s.core w f u
      c.haltReq = some n → (c.st = .idle ∨ (c.st = .run ∧ s.breakAt w f u c.pc = none)) → Completes (.coreHalted w f u) s fun t => (t.core w f u).st = .halt ∧ (t.core w f u).reason = n ∧
        (t.core w f u).before = c.st ∧ t.leafSet w Leaf.halted = true) ∧
    (∀ v : Word32, (¬ reach → Completes (.dbgRegWrite w v) s (refused 3)) ∧ (reach → (core s).st ≠ .halt → Completes (.dbgRegWrite w v) s (refused 1)) ∧
      (reach → (core s).st = .halt → Completes (.dbgRegWrite w v) s fun t => err 0 t ∧ core t = (core s).setDbgReg (s.rd DBG_REG_SEL_INDEX w i) v.toNat)) ∧
    (∀ v : Word, (¬ reach → Completes (.dbgMemWrite w v) s (refused 3)) ∧ (reach → memInRange space a = false → Completes (.dbgMemWrite w v) s (refused 2)) ∧
      (reach → memInRange space a = true → space = 0 → Completes (.dbgMemWrite w v) s fun t => err 0 t ∧ moved t ∧ core t = (core s).deliver a (leBytes 8 v.toNat)) ∧
      (reach → memInRange space a = true → space = 1 → (core s).st = .halt → Completes (.dbgMemWrite w v) s fun t => err 0 t ∧ moved t ∧ core t = (core s).setInstr (a / 8) v.toNat)) ∧
    (reach → memInRange space a = true → Completes (.dbgMemRead w) s fun t => err 0 t ∧ moved t ∧ core t = core s ∧
      t.out = .reply 3 w [if space = 0 then ofLeBytes ((core s).bytes a 8) else (core s).instr (a / 8)] :: s.out)

/-- A core that was asked to halt and reaches a boundary halts there and is asked no longer: with a breakpoint at the boundary the reason recorded is
BREAKPOINT, and without one the reason of the request; at a core that is halted already a further request changes neither the core nor what was recorded of
its halt. (R717.) -/
def Obligations.ACoreHaltsOnce : Prop :=
  ∀ (w : WaferId) (f : FieldId) (u : UnitId) (s : State),
    let c := s.core w f u
    let i := coreIdx f u
    let halted := fun (reason : Nat) (t : State) => (t.core w f u).st = .halt ∧ (t.core w f u).haltReq = none ∧ (t.core w f u).reason = reason ∧
      t.rd DBG_CORE_STAT_STATE w i = 2 ∧ t.rd DBG_CORE_STAT_REASON w i = reason % 8 ∧ (s.rd DBG_HALT_CAP_VALID w 0 = 0 → t.rd DBG_HALT_CAP_REASON w 0 = reason % 8)
    (∀ r n, c.st = .run → c.wait = .none → c.skipBreak = false → c.haltReq = some r → s.breakAt w f u c.pc = some n → Completes (.coreHalted w f u) s fun t =>
      halted 3 t ∧ t.leafSet w Leaf.breakpoint = true ∧ t.rd DBG_CORE_STAT_HIT w i = n % 4) ∧
    (∀ r, c.st = .run → c.haltReq = some r → s.breakAt w f u c.pc = none → Completes (.coreHalted w f u) s (halted r)) ∧
    (c.st = .halt → Completes (.coreHalted w f u) s fun t => t = s) ∧
    (c.st = .halt → s.dbgBcast w = false → s.dbgCore w = (f.val, u.val) → Completes (.dbgHalt w) s fun t => t.job = s.job ∧ SameRegs [DBG_CORE_STAT] s t ∧ t.out = s.out ∧
      t.rd DBG_CORE_STAT_STATE w i = s.rd DBG_CORE_STAT_STATE w i ∧ t.rd DBG_CORE_STAT_REASON w i = s.rd DBG_CORE_STAT_REASON w i ∧ t.rd DBG_CORE_STAT_HIT w i = s.rd DBG_CORE_STAT_HIT w i)

/-- Each of these commands changes no register and no part of the state but those listed for it; a delivery and an access of the window may change any
register, and are held to their parts of the state only. (04_core.md, 05_wafer_network.md, 06_links_and_planes.md, 07_routing_and_acts.md, 11_memory.md,
02_window.md, R391.) -/
def Obligations.FramesOfCoresAndNetwork : Prop :=
  ∀ (c : Instr) (s t : State), exec c s = .next t →
    match c with
    | .routerForward .. => Touches (NET_DROP_WAFER :: SPN_DROP :: SPN_DROP_CAP :: SPN_ECC_CORR :: attentionRegs) [.atns, .links, .arbs] s t
    | .outputArbitration .. => Touches [SPN_FLITS, SPN_STARVE] [.links, .arbs, .fabricCredits] s t
    | .creditReturn .. => Touches [] [.fabricCredits] s t
    | .injectionArbitration .. => Touches (NET_DROP_WAFER :: SPN_DROP :: SPN_DROP_CAP :: SPN_STARVE :: attentionRegs) [.atns, .sends, .injects, .fabricCredits] s t
    | .linkBlockTx .. => Touches [LNK_RETRY] [.links] s t
    | .linkBlockRx .. => Touches (LNK_STAT :: LNK_PEER :: LNK_FEC_CORR :: LNK_FEC_BAD :: LNK_RETRY :: LNK_LANE_CORR :: B72_PORT :: attentionRegs) [.atns, .links] s t
    | .ackDeadline .. => Touches [] [.links] s t
    | .linkFaultReplayLimit .. => Touches (LNK_STAT :: LNK_EVENTS :: B72_PORT :: attentionRegs) [.atns, .links] s t
    | .linkFaultAckTimeout .. => Touches (LNK_STAT :: LNK_EVENTS :: B72_PORT :: attentionRegs) [.atns, .links] s t
    | .linkLossOfSignal .. => Touches (LNK_STAT :: LNK_EVENTS :: B72_PORT :: attentionRegs) [.atns, .links] s t
    | .identityBlock .. => Touches (LNK_STAT :: LNK_PEER :: B72_PORT :: attentionRegs) [.atns, .links] s t
    | .linkTrained .. => Touches (LNK_STAT :: B72_PORT :: attentionRegs) [.atns, .links] s t
    | .portAdminDown .. => Touches (LNK_STAT :: LNK_CFG :: B72_PORT :: attentionRegs) [.atns, .links] s t
    | .laneSymbolLoss .. => Touches (LNK_STAT :: LNK_EVENTS :: B72_PORT :: attentionRegs) [.atns, .links] s t
    | .laneBerCheck .. => Touches (LNK_STAT :: LNK_EVENTS :: B72_PORT :: attentionRegs) [.atns, .links] s t
    | .degradeRelock .. => Touches (LNK_STAT :: B72_PORT :: attentionRegs) [.atns, .links] s t
    | .recalTrigger .. => Touches [] [.links] s t
    | .recalIdleSlot .. => Touches [LNK_EVENTS] [.links] s t
    | .recalForced .. => Touches [LNK_EVENTS] [.links] s t
    | .b72Forward .. => Touches [B72_EVENTS] [.links, .groupPtr] s t
    | .pchArbitration .. => Touches [] [.pchs] s t
    | .loftScrubRead .. => Touches (attentionRegs ++ jobRegs) [.loft, .journals, .atns, .lofts, .doms, .ledgers] s t
    | .scrubForcedSlot .. => Touches (attentionRegs ++ jobRegs) [.loft, .journals, .atns, .lofts, .doms, .ledgers] s t
    | .scrubLate .. => Touches (LOFT_STAT :: LOFT_SCRUB :: attentionRegs) [.atns, .lofts] s t
    | .rowSpareCopy .. => Touches (attentionRegs ++ jobRegs) [.loft, .journals, .atns, .lofts, .doms, .ledgers] s t
    | .rowSpareForced .. => Touches (attentionRegs ++ jobRegs) [.loft, .journals, .atns, .lofts, .doms, .ledgers] s t
    | .apertureRead .. => Touches (attentionRegs ++ jobRegs) [.loft, .journals, .atns, .lofts, .doms, .ledgers] s t
    | .apertureWrite .. => Touches (attentionRegs ++ jobRegs) [.loft, .wings, .journals, .atns, .lofts, .slots, .cueUnits, .doms, .ledgers] s t
    | .intArithmetic .. => Touches (attentionRegs ++ coreRegs) [.loft, .wings, .journals, .atns, .cores, .parts, .results, .semas, .sends, .injects, .slots, .cueUnits, .parks, .doms, .ledgers, .bups, .meters] s t
    | .logic .. => Touches (attentionRegs ++ coreRegs) [.loft, .wings, .journals, .atns, .cores, .parts, .results, .semas, .sends, .injects, .slots, .cueUnits, .parks, .doms, .ledgers, .bups, .meters] s t
    | .compare .. => Touches (attentionRegs ++ coreRegs) [.loft, .wings, .journals, .atns, .cores, .parts, .results, .semas, .sends, .injects, .slots, .cueUnits, .parks, .doms, .ledgers, .bups, .meters] s t
    | .branch .. => Touches (attentionRegs ++ coreRegs) [.loft, .wings, .journals, .atns, .cores, .parts, .results, .semas, .sends, .injects, .slots, .cueUnits, .parks, .doms, .ledgers, .bups, .meters] s t
    | .time .. => Touches (attentionRegs ++ coreRegs) [.loft, .wings, .journals, .atns, .cores, .parts, .results, .semas, .sends, .injects, .slots, .cueUnits, .parks, .doms, .ledgers, .bups, .meters] s t
    | .tokens .. => Touches (attentionRegs ++ coreRegs) [.loft, .wings, .journals, .atns, .cores, .parts, .results, .semas, .sends, .injects, .slots, .cueUnits, .parks, .doms, .ledgers, .bups, .meters] s t
    | .flags .. => Touches (attentionRegs ++ coreRegs) [.loft, .wings, .journals, .atns, .cores, .parts, .results, .semas, .sends, .injects, .slots, .cueUnits, .parks, .doms, .ledgers, .bups, .meters] s t
    | .wait .. => Touches (attentionRegs ++ coreRegs) [.loft, .wings, .journals, .atns, .cores, .parts, .results, .semas, .sends, .injects, .slots, .cueUnits, .parks, .doms, .ledgers, .bups, .meters] s t
    | .mma .. => Touches (attentionRegs ++ coreRegs) [.loft, .wings, .journals, .atns, .cores, .parts, .results, .semas, .sends, .injects, .slots, .cueUnits, .parks, .doms, .ledgers, .bups, .meters] s t
    | .cvt .. => Touches (attentionRegs ++ coreRegs) [.loft, .wings, .journals, .atns, .cores, .parts, .results, .semas, .sends, .injects, .slots, .cueUnits, .parks, .doms, .ledgers, .bups, .meters] s t
    | .vecAdd .. => Touches (attentionRegs ++ coreRegs) [.loft, .wings, .journals, .atns, .cores, .parts, .results, .semas, .sends, .injects, .slots, .cueUnits, .parks, .doms, .ledgers, .bups, .meters] s t
    | .vecSub .. => Touches (attentionRegs ++ coreRegs) [.loft, .wings, .journals, .atns, .cores, .parts, .results, .semas, .sends, .injects, .slots, .cueUnits, .parks, .doms, .ledgers, .bups, .meters] s t
    | .vecMul .. => Touches (attentionRegs ++ coreRegs) [.loft, .wings, .journals, .atns, .cores, .parts, .results, .semas, .sends, .injects, .slots, .cueUnits, .parks, .doms, .ledgers, .bups, .meters] s t
    | .vecFma .. => Touches (attentionRegs ++ coreRegs) [.loft, .wings, .journals, .atns, .cores, .parts, .results, .semas, .sends, .injects, .slots, .cueUnits, .parks, .doms, .ledgers, .bups, .meters] s t
    | .vecMin .. => Touches (attentionRegs ++ coreRegs) [.loft, .wings, .journals, .atns, .cores, .parts, .results, .semas, .sends, .injects, .slots, .cueUnits, .parks, .doms, .ledgers, .bups, .meters] s t
    | .vecMax .. => Touches (attentionRegs ++ coreRegs) [.loft, .wings, .journals, .atns, .cores, .parts, .results, .semas, .sends, .injects, .slots, .cueUnits, .parks, .doms, .ledgers, .bups, .meters] s t
    | .vecCompare .. => Touches (attentionRegs ++ coreRegs) [.loft, .wings, .journals, .atns, .cores, .parts, .results, .semas, .sends, .injects, .slots, .cueUnits, .parks, .doms, .ledgers, .bups, .meters] s t
    | .vecExp2 .. => Touches (attentionRegs ++ coreRegs) [.loft, .wings, .journals, .atns, .cores, .parts, .results, .semas, .sends, .injects, .slots, .cueUnits, .parks, .doms, .ledgers, .bups, .meters] s t
    | .vecRecip .. => Touches (attentionRegs ++ coreRegs) [.loft, .wings, .journals, .atns, .cores, .parts, .results, .semas, .sends, .injects, .slots, .cueUnits, .parks, .doms, .ledgers, .bups, .meters] s t
    | .vecRsqrt .. => Touches (attentionRegs ++ coreRegs) [.loft, .wings, .journals, .atns, .cores, .parts, .results, .semas, .sends, .injects, .slots, .cueUnits, .parks, .doms, .ledgers, .bups, .meters] s t
    | .vecReduce .. => Touches (attentionRegs ++ coreRegs) [.loft, .wings, .journals, .atns, .cores, .parts, .results, .semas, .sends, .injects, .slots, .cueUnits, .parks, .doms, .ledgers, .bups, .meters] s t
    | .ld .. => Touches (attentionRegs ++ coreRegs) [.loft, .wings, .journals, .atns, .cores, .parts, .results, .semas, .sends, .injects, .slots, .cueUnits, .parks, .doms, .ledgers, .bups, .meters] s t
    | .st .. => Touches (attentionRegs ++ coreRegs) [.loft, .wings, .journals, .atns, .cores, .parts, .results, .semas, .sends, .injects, .slots, .cueUnits, .parks, .doms, .ledgers, .bups, .meters] s t
    | .tld .. => Touches (attentionRegs ++ coreRegs) [.loft, .wings, .journals, .atns, .cores, .parts, .results, .semas, .sends, .injects, .slots, .cueUnits, .parks, .doms, .ledgers, .bups, .meters] s t
    | .tst .. => Touches (attentionRegs ++ coreRegs) [.loft, .wings, .journals, .atns, .cores, .parts, .results, .semas, .sends, .injects, .slots, .cueUnits, .parks, .doms, .ledgers, .bups, .meters] s t
    | .lget .. => Touches (attentionRegs ++ coreRegs) [.loft, .wings, .journals, .atns, .cores, .parts, .results, .semas, .sends, .injects, .slots, .cueUnits, .parks, .doms, .ledgers, .bups, .meters] s t
    | .send .. => Touches (attentionRegs ++ coreRegs) [.loft, .wings, .journals, .atns, .cores, .parts, .results, .semas, .sends, .injects, .slots, .cueUnits, .parks, .doms, .ledgers, .bups, .meters] s t
    | .fetch .. => Touches (attentionRegs ++ coreRegs) [.loft, .wings, .journals, .atns, .cores, .parts, .results, .semas, .sends, .injects, .slots, .cueUnits, .parks, .doms, .ledgers, .bups, .meters] s t
    | .signal .. => Touches (attentionRegs ++ coreRegs) [.loft, .wings, .journals, .atns, .cores, .parts, .results, .semas, .sends, .injects, .slots, .cueUnits, .parks, .doms, .ledgers, .bups, .meters] s t
    | .push .. => Touches (attentionRegs ++ coreRegs) [.loft, .wings, .journals, .atns, .cores, .parts, .results, .semas, .sends, .injects, .slots, .cueUnits, .parks, .doms, .ledgers, .bups, .meters] s t
    | .pop .. => Touches (attentionRegs ++ coreRegs) [.loft, .wings, .journals, .atns, .cores, .parts, .results, .semas, .sends, .injects, .slots, .cueUnits, .parks, .doms, .ledgers, .bups, .meters] s t
    | .steal .. => Touches [CORE_STAT] [.cores, .injects] s t
    | .stealRetry .. => Touches [CORE_STAT] [.cores, .injects] s t
    | .lput .. => Touches (attentionRegs ++ coreRegs) [.loft, .wings, .journals, .atns, .cores, .parts, .results, .semas, .sends, .injects, .slots, .cueUnits, .parks, .doms, .ledgers, .bups, .meters] s t
    | .xput .. => Touches (attentionRegs ++ coreRegs) [.loft, .wings, .journals, .atns, .cores, .parts, .results, .semas, .sends, .injects, .slots, .cueUnits, .parks, .doms, .ledgers, .bups, .meters] s t
    | .atomAdd .. => Touches (attentionRegs ++ coreRegs) [.loft, .wings, .journals, .atns, .cores, .parts, .results, .semas, .sends, .injects, .slots, .cueUnits, .parks, .doms, .ledgers, .bups, .meters] s t
    | .atomMin .. => Touches (attentionRegs ++ coreRegs) [.loft, .wings, .journals, .atns, .cores, .parts, .results, .semas, .sends, .injects, .slots, .cueUnits, .parks, .doms, .ledgers, .bups, .meters] s t
    | .atomMax .. => Touches (attentionRegs ++ coreRegs) [.loft, .wings, .journals, .atns, .cores, .parts, .results, .semas, .sends, .injects, .slots, .cueUnits, .parks, .doms, .ledgers, .bups, .meters] s t
    | .atomOr .. => Touches (attentionRegs ++ coreRegs) [.loft, .wings, .journals, .atns, .cores, .parts, .results, .semas, .sends, .injects, .slots, .cueUnits, .parks, .doms, .ledgers, .bups, .meters] s t
    | .atomSwap .. => Touches (attentionRegs ++ coreRegs) [.loft, .wings, .journals, .atns, .cores, .parts, .results, .semas, .sends, .injects, .slots, .cueUnits, .parks, .doms, .ledgers, .bups, .meters] s t
    | .semaTake .. => Touches (attentionRegs ++ coreRegs) [.loft, .wings, .journals, .atns, .cores, .parts, .results, .semas, .sends, .injects, .slots, .cueUnits, .parks, .doms, .ledgers, .bups, .meters] s t
    | .semaGive .. => Touches (attentionRegs ++ coreRegs) [.loft, .wings, .journals, .atns, .cores, .parts, .results, .semas, .sends, .injects, .slots, .cueUnits, .parks, .doms, .ledgers, .bups, .meters] s t
    | .spadScrubLine .. => Touches (attentionRegs ++ coreRegs) [.journals, .atns, .cores, .doms, .ledgers, .bups] s t
    | .mgmtTake .. => Touches [SEM_STAT, SEM_TABLE] [.semas] s t
    | .semaDecision .. => Touches (attentionRegs ++ jobRegs) [.loft, .wings, .atns, .cores, .parts, .results, .semas, .sends, .injects, .slots, .cueUnits, .parks, .doms, .meters] s t
    | .semaTenureEnd .. => Touches [] [.semas] s t
    | .mgmtGrant .. => Touches (CORE_STAT :: CORE_TOKENS :: SEM_STAT :: TEL_CORE_WAIT :: DBG_STAT :: DBG_CORE_STAT :: DBG_HALT_CAP :: DBG_FHALT :: DBG_PART_STAT :: attentionRegs) [.atns, .cores, .parts, .semas, .injects] s t
    | .mgmtGive .. => Touches [SEM_VAL] [] s t
    | .mgmtConsume .. => Touches [SEM_VAL, SEM_STAT, SEM_TABLE] [.semas] s t
    | .mgmtReturn .. => Touches [SEM_VAL, SEM_STAT, SEM_TABLE] [.semas] s t
    | .retransmitTimeout .. => Touches (attentionRegs ++ jobRegs) [.loft, .wings, .atns, .cores, .parts, .results, .semas, .sends, .recvs, .injects, .fabricCredits, .slots, .cueUnits, .parks, .doms, .meters] s t
    | .tackTimer .. => Touches (NET_DROP_WAFER :: SPN_DROP :: SPN_DROP_CAP :: attentionRegs) [.atns, .recvs, .injects, .fabricCredits] s t
    | .journalSpill .. => Touches [ID_JRNL_NEXT, ID_JRNL_OLDEST, ID_JRNL_STAT] [.journals] s t
    | .journalFetch .. => Touches [ID_JRNL_SEL, ID_JRNL_FETCH] [.journals] s t
    | .journalFetchDone .. => Touches [ID_JRNL_FETCH, ID_JRNL_ENTRY] [.journals] s t
    | .registerWrite .. => TouchesParts [.loft, .wings, .latches, .journals, .atns, .hifs, .chans, .clocks, .rmcs, .cores, .parts, .results, .seSlots, .semas, .sends, .recvs, .replays, .links, .arbs, .injects, .fabricCredits, .groupPtr, .lofts, .pchs, .shadows, .loads, .pushes, .slots, .cueUnits, .parks, .doms, .ledgers, .bups, .meters, .ageMons, .ageQs, .thermChs, .warming, .wafers, .tmcs, .acts, .fws, .spots, .twis, .tafKept, .etags, .plans, .shelves, .planner] s t
    | .rcRead .. => TouchesParts [.latches, .atns] s t
    | .sendDelivery .. => TouchesParts [.loft, .wings, .latches, .journals, .atns, .hifs, .chans, .clocks, .rmcs, .cores, .parts, .results, .seSlots, .semas, .sends, .recvs, .replays, .links, .arbs, .injects, .fabricCredits, .groupPtr, .lofts, .pchs, .shadows, .loads, .pushes, .slots, .cueUnits, .parks, .doms, .ledgers, .bups, .meters, .ageMons, .ageQs, .thermChs, .warming, .wafers, .tmcs, .acts, .fws, .spots, .twis, .tafKept, .etags, .plans, .shelves, .planner] s t
    | .fetchReq .. => TouchesParts [.loft, .wings, .latches, .journals, .atns, .hifs, .chans, .clocks, .rmcs, .cores, .parts, .results, .seSlots, .semas, .sends, .recvs, .replays, .links, .arbs, .injects, .fabricCredits, .groupPtr, .lofts, .pchs, .shadows, .loads, .pushes, .slots, .cueUnits, .parks, .doms, .ledgers, .bups, .meters, .ageMons, .ageQs, .thermChs, .warming, .wafers, .tmcs, .acts, .fws, .spots, .twis, .tafKept, .etags, .plans, .shelves, .planner] s t
    | .fetchData .. => TouchesParts [.loft, .wings, .latches, .journals, .atns, .hifs, .chans, .clocks, .rmcs, .cores, .parts, .results, .seSlots, .semas, .sends, .recvs, .replays, .links, .arbs, .injects, .fabricCredits, .groupPtr, .lofts, .pchs, .shadows, .loads, .pushes, .slots, .cueUnits, .parks, .doms, .ledgers, .bups, .meters, .ageMons, .ageQs, .thermChs, .warming, .wafers, .tmcs, .acts, .fws, .spots, .twis, .tafKept, .etags, .plans, .shelves, .planner] s t
    | .signalDelivery .. => TouchesParts [.loft, .wings, .latches, .journals, .atns, .hifs, .chans, .clocks, .rmcs, .cores, .parts, .results, .seSlots, .semas, .sends, .recvs, .replays, .links, .arbs, .injects, .fabricCredits, .groupPtr, .lofts, .pchs, .shadows, .loads, .pushes, .slots, .cueUnits, .parks, .doms, .ledgers, .bups, .meters, .ageMons, .ageQs, .thermChs, .warming, .wafers, .tmcs, .acts, .fws, .spots, .twis, .tafKept, .etags, .plans, .shelves, .planner] s t
    | .lgetReq .. => TouchesParts [.loft, .wings, .latches, .journals, .atns, .hifs, .chans, .clocks, .rmcs, .cores, .parts, .results, .seSlots, .semas, .sends, .recvs, .replays, .links, .arbs, .injects, .fabricCredits, .groupPtr, .lofts, .pchs, .shadows, .loads, .pushes, .slots, .cueUnits, .parks, .doms, .ledgers, .bups, .meters, .ageMons, .ageQs, .thermChs, .warming, .wafers, .tmcs, .acts, .fws, .spots, .twis, .tafKept, .etags, .plans, .shelves, .planner] s t
    | .lgetData .. => TouchesParts [.loft, .wings, .latches, .journals, .atns, .hifs, .chans, .clocks, .rmcs, .cores, .parts, .results, .seSlots, .semas, .sends, .recvs, .replays, .links, .arbs, .injects, .fabricCredits, .groupPtr, .lofts, .pchs, .shadows, .loads, .pushes, .slots, .cueUnits, .parks, .doms, .ledgers, .bups, .meters, .ageMons, .ageQs, .thermChs, .warming, .wafers, .tmcs, .acts, .fws, .spots, .twis, .tafKept, .etags, .plans, .shelves, .planner] s t
    | .lputPacket .. => TouchesParts [.loft, .wings, .latches, .journals, .atns, .hifs, .chans, .clocks, .rmcs, .cores, .parts, .results, .seSlots, .semas, .sends, .recvs, .replays, .links, .arbs, .injects, .fabricCredits, .groupPtr, .lofts, .pchs, .shadows, .loads, .pushes, .slots, .cueUnits, .parks, .doms, .ledgers, .bups, .meters, .ageMons, .ageQs, .thermChs, .warming, .wafers, .tmcs, .acts, .fws, .spots, .twis, .tafKept, .etags, .plans, .shelves, .planner] s t
    | .xputPacket .. => TouchesParts [.loft, .wings, .latches, .journals, .atns, .hifs, .chans, .clocks, .rmcs, .cores, .parts, .results, .seSlots, .semas, .sends, .recvs, .replays, .links, .arbs, .injects, .fabricCredits, .groupPtr, .lofts, .pchs, .shadows, .loads, .pushes, .slots, .cueUnits, .parks, .doms, .ledgers, .bups, .meters, .ageMons, .ageQs, .thermChs, .warming, .wafers, .tmcs, .acts, .fws, .spots, .twis, .tafKept, .etags, .plans, .shelves, .planner] s t
    | .atomPacket .. => TouchesParts [.loft, .wings, .latches, .journals, .atns, .hifs, .chans, .clocks, .rmcs, .cores, .parts, .results, .seSlots, .semas, .sends, .recvs, .replays, .links, .arbs, .injects, .fabricCredits, .groupPtr, .lofts, .pchs, .shadows, .loads, .pushes, .slots, .cueUnits, .parks, .doms, .ledgers, .bups, .meters, .ageMons, .ageQs, .thermChs, .warming, .wafers, .tmcs, .acts, .fws, .spots, .twis, .tafKept, .etags, .plans, .shelves, .planner] s t
    | .stealReq .. => TouchesParts [.loft, .wings, .latches, .journals, .atns, .hifs, .chans, .clocks, .rmcs, .cores, .parts, .results, .seSlots, .semas, .sends, .recvs, .replays, .links, .arbs, .injects, .fabricCredits, .groupPtr, .lofts, .pchs, .shadows, .loads, .pushes, .slots, .cueUnits, .parks, .doms, .ledgers, .bups, .meters, .ageMons, .ageQs, .thermChs, .warming, .wafers, .tmcs, .acts, .fws, .spots, .twis, .tafKept, .etags, .plans, .shelves, .planner] s t
    | .stealAns .. => TouchesParts [.loft, .wings, .latches, .journals, .atns, .hifs, .chans, .clocks, .rmcs, .cores, .parts, .results, .seSlots, .semas, .sends, .recvs, .replays, .links, .arbs, .injects, .fabricCredits, .groupPtr, .lofts, .pchs, .shadows, .loads, .pushes, .slots, .cueUnits, .parks, .doms, .ledgers, .bups, .meters, .ageMons, .ageQs, .thermChs, .warming, .wafers, .tmcs, .acts, .fws, .spots, .twis, .tafKept, .etags, .plans, .shelves, .planner] s t
    | .tack .. => Touches (NET_DROP_WAFER :: SPN_DROP :: SPN_DROP_CAP :: PMT_STAT :: attentionRegs) [.atns, .parts, .sends, .fabricCredits] s t
    | .nack .. => Touches (attentionRegs ++ jobRegs) [.loft, .wings, .atns, .cores, .parts, .results, .semas, .sends, .recvs, .injects, .slots, .cueUnits, .parks, .doms, .meters] s t
    | .mgmtRead .. => TouchesParts [.loft, .wings, .latches, .journals, .atns, .hifs, .chans, .clocks, .rmcs, .cores, .parts, .results, .seSlots, .semas, .sends, .recvs, .replays, .links, .arbs, .injects, .fabricCredits, .groupPtr, .lofts, .pchs, .shadows, .loads, .pushes, .slots, .cueUnits, .parks, .doms, .ledgers, .bups, .meters, .ageMons, .ageQs, .thermChs, .warming, .wafers, .tmcs, .acts, .fws, .spots, .twis, .tafKept, .etags, .plans, .shelves, .planner] s t
    | .mgmtWrite .. => TouchesParts [.loft, .wings, .latches, .journals, .atns, .hifs, .chans, .clocks, .rmcs, .cores, .parts, .results, .seSlots, .semas, .sends, .recvs, .replays, .links, .arbs, .injects, .fabricCredits, .groupPtr, .lofts, .pchs, .shadows, .loads, .pushes, .slots, .cueUnits, .parks, .doms, .ledgers, .bups, .meters, .ageMons, .ageQs, .thermChs, .warming, .wafers, .tmcs, .acts, .fws, .spots, .twis, .tafKept, .etags, .plans, .shelves, .planner] s t
    | .mgmtReadData .. => TouchesParts [.loft, .wings, .latches, .journals, .atns, .hifs, .chans, .clocks, .rmcs, .cores, .parts, .results, .seSlots, .semas, .sends, .recvs, .replays, .links, .arbs, .injects, .fabricCredits, .groupPtr, .lofts, .pchs, .shadows, .loads, .pushes, .slots, .cueUnits, .parks, .doms, .ledgers, .bups, .meters, .ageMons, .ageQs, .thermChs, .warming, .wafers, .tmcs, .acts, .fws, .spots, .twis, .tafKept, .etags, .plans, .shelves, .planner] s t
    | .mgmtWriteDone .. => TouchesParts [.loft, .wings, .latches, .journals, .atns, .hifs, .chans, .clocks, .rmcs, .cores, .parts, .results, .seSlots, .semas, .sends, .recvs, .replays, .links, .arbs, .injects, .fabricCredits, .groupPtr, .lofts, .pchs, .shadows, .loads, .pushes, .slots, .cueUnits, .parks, .doms, .ledgers, .bups, .meters, .ageMons, .ageQs, .thermChs, .warming, .wafers, .tmcs, .acts, .fws, .spots, .twis, .tafKept, .etags, .plans, .shelves, .planner] s t
    | .mgmtAccError .. => TouchesParts [.loft, .wings, .latches, .journals, .atns, .hifs, .chans, .clocks, .rmcs, .cores, .parts, .results, .seSlots, .semas, .sends, .recvs, .replays, .links, .arbs, .injects, .fabricCredits, .groupPtr, .lofts, .pchs, .shadows, .loads, .pushes, .slots, .cueUnits, .parks, .doms, .ledgers, .bups, .meters, .ageMons, .ageQs, .thermChs, .warming, .wafers, .tmcs, .acts, .fws, .spots, .twis, .tafKept, .etags, .plans, .shelves, .planner] s t
    | _ => True

/-- Each of these commands changes no register and no part of the state but those listed for it; starts, losses of units and cues may change any register, and
are held to their parts of the state only. (07_routing_and_acts.md, 08_set_images.md, 09_wings_and_cue.md, 10_bringup_and_ledger.md,
12_partitions_and_serving.md, 13_preemption.md, 14_power_domains.md, 15_capping_and_accounting.md.) -/
def Obligations.FramesOfJobsCuesAndActs : Prop :=
  ∀ (c : Instr) (s t : State), exec c s = .next t →
    match c with
    | .preempt .. => Touches (attentionRegs ++ jobRegs) [.loft, .wings, .atns, .cores, .parts, .results, .semas, .sends, .injects, .slots, .cueUnits, .parks, .doms, .meters] s t
    | .resume .. => Touches (attentionRegs ++ jobRegs) [.loft, .wings, .atns, .cores, .parts, .results, .semas, .sends, .injects, .slots, .cueUnits, .parks, .doms, .meters, .warming, .wafers] s t
    | .cutSurrenderTimeout .. => Touches [PMT_LAST_SURR] [.sends, .recvs] s t
    | .cutComplete .. => Touches (NET_ACT_STAT :: IMG_STAT :: IMG_ELAPSED :: CUE_SSTAT :: LOFT_EVENTS :: LOFT_WR_BYTES :: PMT_STAT :: PMT_LAST_US :: PMT_SAVE_FIELD :: attentionRegs) [.loft, .wings, .atns, .parts, .slots, .cueUnits] s t
    | .holdHaltDone .. => Touches (attentionRegs ++ jobRegs) [.cores, .parts, .semas, .sends, .injects, .parks, .doms, .meters] s t
    | .holdSurrenderTimeout .. => Touches (attentionRegs ++ jobRegs) [.cores, .parts, .semas, .sends, .injects, .parks, .doms, .meters] s t
    | .holdSaveDone .. => Touches (attentionRegs ++ jobRegs) [.loft, .wings, .atns, .cores, .parts, .semas, .sends, .injects, .slots, .cueUnits, .parks, .doms, .meters] s t
    | .restoreDone .. => Touches (attentionRegs ++ jobRegs) [.loft, .wings, .journals, .atns, .cores, .parts, .results, .semas, .sends, .injects, .lofts, .slots, .cueUnits, .parks, .doms, .ledgers, .meters] s t
    | .donationBound .. => Touches (attentionRegs ++ jobRegs) [.atns, .cores, .parts, .semas, .sends, .injects, .parks, .doms, .meters] s t
    | .pmtFwd .. => Touches (attentionRegs ++ jobRegs) [.loft, .wings, .atns, .cores, .parts, .results, .semas, .sends, .injects, .slots, .cueUnits, .parks, .doms, .meters] s t
    | .doorbell .. => Touches (CQ_TAIL :: CQ_BADDB :: PWR_PARK :: TEL_REASON_TIME :: TEL_REASON_GTIME :: THM_GHOST_STAT :: TMC_REQ :: attentionRegs) [.atns, .parks, .meters, .warming, .wafers] s t
    | .commandTake .. => Touches (attentionRegs ++ jobRegs) [.loft, .wings, .journals, .atns, .cores, .parts, .results, .semas, .sends, .injects, .lofts, .slots, .cueUnits, .parks, .doms, .ledgers, .meters] s t
    | .cmdFwd .. => Touches (attentionRegs ++ jobRegs) [.loft, .wings, .journals, .atns, .cores, .parts, .results, .semas, .sends, .injects, .lofts, .slots, .cueUnits, .parks, .doms, .ledgers, .meters] s t
    | .commitInstant .. => Touches (attentionRegs ++ jobRegs) [.loft, .wings, .journals, .atns, .cores, .parts, .results, .semas, .sends, .injects, .slots, .cueUnits, .parks, .doms, .ledgers, .bups, .meters] s t
    | .idleReport .. => Touches [] [.parts] s t
    | .cmdEnd .. => Touches (attentionRegs ++ jobRegs) [.loft, .wings, .journals, .atns, .cores, .parts, .results, .semas, .sends, .injects, .slots, .cueUnits, .parks, .doms, .ledgers, .bups, .meters] s t
    | .commandComplete .. => Touches (attentionRegs ++ jobRegs) [.loft, .wings, .atns, .cores, .parts, .results, .semas, .sends, .recvs, .injects, .slots, .cueUnits, .parks, .doms, .meters] s t
    | .slotJoin .. => Touches [SE_STAT, SE_REFUSED, SE_DONE] [.seSlots] s t
    | .slotLeave .. => Touches [SE_STAT, SE_REFUSED, SE_DONE] [.seSlots] s t
    | .batchFwd .. => Touches (NET_ACT_STAT :: IMG_STAT :: IMG_ELAPSED :: CUE_SSTAT :: LOFT_EVENTS :: LOFT_WR_BYTES :: attentionRegs) [.loft, .wings, .atns, .parts, .slots, .cueUnits] s t
    | .doneBits .. => Touches (NET_ACT_STAT :: IMG_STAT :: IMG_ELAPSED :: CUE_SSTAT :: LOFT_EVENTS :: LOFT_RD_BYTES :: LOFT_WR_BYTES :: attentionRegs) [.loft, .wings, .atns, .parts, .slots, .cueUnits] s t
    | .faultFwd .. => Touches (attentionRegs ++ jobRegs) [.loft, .wings, .atns, .cores, .parts, .results, .semas, .sends, .injects, .slots, .cueUnits, .parks, .doms, .meters] s t
    | .resetSeq .. => Touches [CQ_HWM] [.results] s t
    | .quarterZeroed .. => Touches [LOFT_STAT] [.loft, .parts] s t
    | .curtainDone .. => Touches (PRT_STAT :: SE_STAT :: SE_DONE :: attentionRegs) [.atns, .parts, .seSlots] s t
    | .imageLoadStart .. => Touches (IMG_STAT :: IMG_FAIL_OFF :: PWR_PARK :: TEL_REASON_TIME :: TEL_REASON_GTIME :: THM_GHOST_STAT :: TMC_REQ :: attentionRegs) [.atns, .loads, .parks, .meters, .warming, .wafers] s t
    | .imageLoadAbort .. => Touches (NET_ACT_STAT :: IMG_STAT :: IMG_ELAPSED :: CUE_SSTAT :: attentionRegs) [.wings, .atns, .slots, .cueUnits] s t
    | .imageCheckDone .. => Touches (attentionRegs ++ jobRegs) [.loft, .wings, .journals, .atns, .lofts, .loads, .slots, .cueUnits, .doms, .ledgers] s t
    | .pushStart .. => Touches (attentionRegs ++ jobRegs) [.loft, .journals, .atns, .injects, .lofts, .pushes, .parks, .doms, .ledgers, .meters, .warming, .wafers] s t
    | .pushAbort .. => Touches (IMG_PUSH_STAT :: IMG_PUSH_FAILED :: attentionRegs) [.atns, .injects, .pushes] s t
    | .pushDone .. => Touches (IMG_PUSH_STAT :: IMG_PUSH_FAILED :: attentionRegs) [.atns, .pushes] s t
    | .domainOnRequest .. => Touches (LNK_STAT :: PWR_DOM_REFUSED :: PWR_SEQ_STAT :: PWR_PARK_TOTAL :: PWR_DOM_STAT :: PWR_PARK :: TEL_REASON_TIME :: TEL_REASON_GTIME :: B72_PORT :: attentionRegs) [.atns, .links, .parks, .doms, .meters] s t
    | .domainOffRequest .. => Touches (LNK_STAT :: PWR_DOM_REFUSED :: PWR_SEQ_STAT :: PWR_PARK_TOTAL :: PWR_DOM_STAT :: PWR_PARK :: TEL_REASON_TIME :: TEL_REASON_GTIME :: B72_PORT :: attentionRegs) [.atns, .links, .parks, .doms, .meters] s t
    | .domainResetRequest .. => Touches (LNK_STAT :: PWR_DOM_REFUSED :: PWR_SEQ_STAT :: PWR_PARK_TOTAL :: PWR_DOM_STAT :: PWR_PARK :: TEL_REASON_TIME :: TEL_REASON_GTIME :: B72_PORT :: attentionRegs) [.atns, .links, .parks, .doms, .meters] s t
    | .rampDone .. => Touches (PWR_DOM_REFUSED :: PWR_SEQ_STAT :: PWR_DOM_STAT :: attentionRegs) [.atns] s t
    | .isolDone .. => TouchesParts [.loft, .atns, .cores, .sends, .recvs, .links, .arbs, .injects, .fabricCredits, .parks, .doms, .meters, .planner] s t
    | .offDwellDone .. => Touches (PWR_DOM_REFUSED :: PWR_SEQ_STAT :: PWR_DOM_STAT :: attentionRegs) [.atns, .doms] s t
    | .supplyFaultRetry .. => Touches (LNK_STAT :: PWR_DOM_REFUSED :: PWR_SEQ_STAT :: PWR_PARK_TOTAL :: PWR_DOM_STAT :: PWR_PARK :: TEL_REASON_TIME :: TEL_REASON_GTIME :: B72_PORT :: attentionRegs) [.atns, .links, .parks, .doms, .meters] s t
    | .supplySettled .. => Touches [PWR_OPP_STAT] [] s t
    | .droopGateEngage .. => Touches [PWR_GATE_EVENTS, PWR_QRATE, SPN_STAT, TEL_REASON_TIME, TEL_REASON_GTIME] [.doms, .meters] s t
    | .droopGateRelease .. => Touches [SPN_STAT, TEL_REASON_TIME, TEL_REASON_GTIME] [.doms, .meters] s t
    | .parkDone .. => Touches [CORE_STAT, PWR_PARK_TOTAL, PWR_PARK, TEL_REASON_TIME, TEL_REASON_GTIME] [.cores, .parks, .meters] s t
    | .unparkDone .. => Touches [CORE_STAT, CORE_TOKENS, PWR_PARK_TOTAL, PWR_PARK, TEL_REASON_TIME, TEL_REASON_GTIME] [.cores, .parks, .meters] s t
    | .gateWaitClear .. => Touches [PWR_PARK] [.parks] s t
    | .capWrite .. => Touches (ID_JRNL_NEXT :: ID_JRNL_OLDEST :: ID_JRNL_STAT :: PWR_CAP :: PWR_CAP_EFF :: TEL_REASON_TIME :: TEL_REASON_GTIME :: attentionRegs) [.journals, .atns, .meters, .wafers] s t
    | .ibcFault .. => Touches (ID_JRNL_NEXT :: ID_JRNL_OLDEST :: ID_JRNL_STAT :: PWR_IBC :: PWR_CAP_EFF :: TEL_REASON_TIME :: TEL_REASON_GTIME :: attentionRegs) [.journals, .atns, .meters] s t
    | .energySample .. => Touches (PWR_IBC :: PWR_BUS :: PWR_DOM_MEAS :: attentionRegs) [.atns, .meters] s t
    | .energyIntegrate .. => Touches [TEL_PE, TEL_PE_TOTAL, TEL_WE, TEL_WE_OVERHEAD] [.meters] s t
    | .capLoopPeriod .. => Touches (PWR_PARK :: PWR_CAP_EFF :: PWR_DRAW :: PWR_PART_ALLOT :: TEL_REASON_TIME :: TEL_REASON_GTIME :: attentionRegs) [.atns, .parks, .meters] s t
    | .envelopeStep .. => Touches (PWR_PARK :: PWR_CAP_EFF :: PWR_GUARDS :: PWR_PART_ALLOT :: TEL_REASON_TIME :: TEL_REASON_GTIME :: attentionRegs) [.atns, .parks, .meters] s t
    | .droopGuardSample .. => Touches [PWR_PARK, PWR_GUARDS, TEL_REASON_TIME, TEL_REASON_GTIME, THM_HOT_STAT] [.parks, .meters] s t
    | .droopGuardRelease .. => Touches [PWR_PARK, PWR_GUARDS, TEL_REASON_TIME, TEL_REASON_GTIME, THM_HOT_STAT] [.parks, .meters] s t
    | .currentGuardSample .. => Touches [PWR_PARK, PWR_GUARDS, TEL_REASON_TIME, TEL_REASON_GTIME, THM_HOT_STAT] [.parks, .meters] s t
    | .currentGuardRelease .. => Touches [PWR_PARK, PWR_GUARDS, TEL_REASON_TIME, TEL_REASON_GTIME, THM_HOT_STAT] [.parks, .meters] s t
    | .telSnapshot .. => TouchesParts [.meters] s t
    | .barrierBalance .. => Touches (ID_JRNL_NEXT :: ID_JRNL_OLDEST :: ID_JRNL_STAT :: PWR_CAP :: PWR_CAP_EFF :: TEL_REASON_TIME :: TEL_REASON_GTIME :: attentionRegs) [.journals, .atns, .meters, .wafers, .plans] s t
    | .drainDone .. => TouchesParts [.loft, .wings, .latches, .journals, .atns, .hifs, .chans, .clocks, .cores, .parts, .results, .seSlots, .semas, .sends, .recvs, .replays, .links, .arbs, .injects, .fabricCredits, .lofts, .pchs, .shadows, .loads, .pushes, .slots, .cueUnits, .parks, .doms, .ledgers, .bups, .meters, .thermChs, .warming, .wafers, .fws, .twis] s t
    | .coldStart .. => TouchesParts [.loft, .wings, .latches, .journals, .atns, .hifs, .chans, .clocks, .cores, .parts, .results, .seSlots, .semas, .sends, .recvs, .replays, .links, .arbs, .injects, .fabricCredits, .lofts, .pchs, .shadows, .loads, .pushes, .slots, .cueUnits, .parks, .doms, .ledgers, .bups, .meters, .thermChs, .warming, .wafers, .tmcs, .fws] s t
    | .warmStart .. => TouchesParts [.loft, .wings, .latches, .journals, .atns, .hifs, .chans, .clocks, .cores, .parts, .results, .seSlots, .semas, .sends, .recvs, .replays, .links, .arbs, .injects, .fabricCredits, .lofts, .pchs, .shadows, .loads, .pushes, .slots, .cueUnits, .parks, .doms, .ledgers, .bups, .meters, .thermChs, .warming, .wafers, .fws, .twis] s t
    | .trayPowerOff .. => TouchesParts [.loft, .wings, .latches, .journals, .atns, .hifs, .chans, .clocks, .cores, .parts, .results, .seSlots, .semas, .sends, .recvs, .replays, .links, .arbs, .injects, .fabricCredits, .lofts, .pchs, .shadows, .loads, .pushes, .slots, .cueUnits, .parks, .doms, .ledgers, .bups, .meters, .thermChs, .warming, .wafers, .tmcs, .fws, .twis] s t
    | .busUndervolt .. => TouchesParts [.loft, .wings, .latches, .journals, .atns, .hifs, .chans, .clocks, .cores, .parts, .results, .seSlots, .semas, .sends, .recvs, .replays, .links, .arbs, .injects, .fabricCredits, .lofts, .pchs, .shadows, .loads, .pushes, .slots, .cueUnits, .parks, .doms, .ledgers, .bups, .meters, .thermChs, .warming, .wafers, .twis] s t
    | .undervolt .. => TouchesParts [.loft, .wings, .latches, .journals, .atns, .hifs, .chans, .clocks, .cores, .parts, .results, .seSlots, .semas, .sends, .recvs, .replays, .links, .arbs, .injects, .fabricCredits, .lofts, .pchs, .shadows, .loads, .pushes, .slots, .cueUnits, .parks, .doms, .ledgers, .bups, .meters, .thermChs, .warming, .wafers, .fws, .twis] s t
    | .gateTimeout .. => TouchesParts [.loft, .wings, .latches, .journals, .atns, .hifs, .chans, .clocks, .cores, .parts, .results, .seSlots, .semas, .sends, .recvs, .replays, .links, .arbs, .injects, .fabricCredits, .lofts, .pchs, .shadows, .loads, .pushes, .slots, .cueUnits, .parks, .doms, .ledgers, .bups, .meters, .thermChs, .warming, .wafers, .fws, .twis] s t
    | .overcurrent .. => TouchesParts [.loft, .wings, .latches, .journals, .atns, .hifs, .chans, .clocks, .cores, .parts, .results, .seSlots, .semas, .sends, .recvs, .replays, .links, .arbs, .injects, .fabricCredits, .lofts, .pchs, .shadows, .loads, .pushes, .slots, .cueUnits, .parks, .doms, .ledgers, .bups, .meters, .thermChs, .warming, .wafers, .fws, .twis] s t
    | .noPowerGood .. => TouchesParts [.loft, .wings, .latches, .journals, .atns, .hifs, .chans, .clocks, .cores, .parts, .results, .seSlots, .semas, .sends, .recvs, .replays, .links, .arbs, .injects, .fabricCredits, .lofts, .pchs, .shadows, .loads, .pushes, .slots, .cueUnits, .parks, .doms, .ledgers, .bups, .meters, .thermChs, .warming, .wafers, .fws, .twis] s t
    | .regFail .. => TouchesParts [.loft, .wings, .latches, .journals, .atns, .hifs, .chans, .clocks, .cores, .parts, .results, .seSlots, .semas, .sends, .recvs, .replays, .links, .arbs, .injects, .fabricCredits, .lofts, .pchs, .shadows, .loads, .pushes, .slots, .cueUnits, .parks, .doms, .ledgers, .bups, .meters, .thermChs, .warming, .wafers, .fws, .twis] s t
    | .bringupPhase0 .. => TouchesParts [.loft, .wings, .latches, .journals, .atns, .hifs, .chans, .clocks, .cores, .parts, .results, .seSlots, .semas, .sends, .recvs, .replays, .links, .arbs, .injects, .fabricCredits, .lofts, .pchs, .shadows, .loads, .pushes, .slots, .cueUnits, .parks, .doms, .ledgers, .bups, .meters, .thermChs, .warming, .wafers, .fws, .twis, .planner] s t
    | .hostStartTestTimeout .. => TouchesParts [.loft, .wings, .latches, .journals, .atns, .hifs, .chans, .clocks, .cores, .parts, .results, .seSlots, .semas, .sends, .recvs, .replays, .links, .arbs, .injects, .fabricCredits, .lofts, .pchs, .shadows, .loads, .pushes, .slots, .cueUnits, .parks, .doms, .ledgers, .bups, .meters, .thermChs, .warming, .fws, .planner] s t
    | .ppsLockTimeout .. => Touches (TB_STAT :: TB_HOLD_START :: attentionRegs) [.atns, .bups] s t
    | .bringupPhase1 .. => TouchesParts [.loft, .wings, .latches, .journals, .atns, .hifs, .chans, .clocks, .cores, .parts, .results, .seSlots, .semas, .sends, .recvs, .replays, .links, .arbs, .injects, .fabricCredits, .lofts, .pchs, .shadows, .loads, .pushes, .slots, .cueUnits, .parks, .doms, .ledgers, .bups, .meters, .thermChs, .warming, .wafers, .fws, .twis] s t
    | .bringupPhase2 .. => Touches (attentionRegs ++ jobRegs) [.journals, .atns, .hifs, .chans, .cores, .sends, .recvs, .links, .arbs, .injects, .fabricCredits, .parks, .doms, .ledgers, .bups, .meters] s t
    | .bringupPhase3 .. => Touches (attentionRegs ++ jobRegs) [.journals, .atns, .hifs, .chans, .cores, .sends, .recvs, .links, .arbs, .injects, .fabricCredits, .parks, .doms, .ledgers, .bups, .meters] s t
    | .portTrainTimeout .. => Touches [] [.bups] s t
    | .bringupPhase4 .. => Touches (PWR_OPP_STAT :: PWR_QTRIM :: BUP_STAT :: BUP_NEW :: BUP_LDG_STAT :: BUP_LDG_EPOCH :: BUP_SKIP :: PWR_DOM_REFUSED :: PWR_SEQ_STAT :: PWR_DOM_STAT :: AGE_STAT :: AGE_MON :: attentionRegs) [.atns, .ledgers, .bups, .ageMons, .ageQs] s t
    | .bringupDone .. => Touches (attentionRegs ++ jobRegs) [.journals, .atns, .hifs, .chans, .cores, .sends, .recvs, .links, .arbs, .injects, .fabricCredits, .parks, .doms, .ledgers, .bups, .meters, .wafers] s t
    | .phaseSlow .. => TouchesParts [.loft, .wings, .latches, .journals, .atns, .hifs, .chans, .clocks, .cores, .parts, .results, .seSlots, .semas, .sends, .recvs, .replays, .links, .arbs, .injects, .fabricCredits, .lofts, .pchs, .shadows, .loads, .pushes, .slots, .cueUnits, .parks, .doms, .ledgers, .bups, .meters, .thermChs, .warming, .fws, .planner] s t
    | .ledgerFetch .. => Touches [BUP_LDG_SEL, BUP_LDG_FETCH] [.ledgers] s t
    | .ledgerFetchDone .. => Touches [BUP_LDG_FETCH, BUP_LDG_ENTRY] [.ledgers] s t
    | .fdrStart .. => Touches (BUP_STAT :: BUP_LDG_STAT :: BUP_LDG_EPOCH :: BUP_FDR_ARM :: BUP_FDR_STAT :: attentionRegs) [.atns, .ledgers, .bups] s t
    | .fdrAbort .. => Touches (ID_JRNL_NEXT :: ID_JRNL_OLDEST :: ID_JRNL_STAT :: BUP_STAT :: BUP_FDR_STAT :: attentionRegs) [.journals, .atns] s t
    | .fdrCommit .. => TouchesParts [.loft, .wings, .latches, .journals, .atns, .hifs, .chans, .clocks, .cores, .parts, .results, .seSlots, .semas, .sends, .recvs, .replays, .links, .arbs, .injects, .fabricCredits, .lofts, .pchs, .shadows, .loads, .pushes, .slots, .cueUnits, .parks, .doms, .ledgers, .bups, .meters, .thermChs, .warming, .wafers, .fws, .twis] s t
    | .fieldRetestStart .. => Touches (LNK_STAT :: BUP_STAT :: BUP_RETEST_STAT :: PWR_DOM_REFUSED :: PWR_SEQ_STAT :: PWR_PARK_TOTAL :: PWR_DOM_STAT :: PWR_PARK :: TEL_REASON_TIME :: TEL_REASON_GTIME :: B72_PORT :: attentionRegs) [.atns, .links, .parks, .doms, .bups, .meters] s t
    | .fieldRetestDone .. => Touches (attentionRegs ++ jobRegs) [.loft, .journals, .atns, .cores, .links, .parks, .doms, .ledgers, .meters, .ageMons, .ageQs, .planner] s t
    | .cueStart .. => Touches (attentionRegs ++ jobRegs) [.journals, .atns, .parts, .slots, .parks, .meters, .warming, .wafers] s t
    | .cueDisarm .. => Touches (attentionRegs ++ jobRegs) [.journals, .atns, .parts, .slots, .parks, .meters, .warming, .wafers] s t
    | .rehearsalDone .. => TouchesParts [.wings, .journals, .atns, .parts, .slots, .cueUnits, .meters] s t
    | .rehearsalTimeout .. => Touches (ID_JRNL_NEXT :: ID_JRNL_OLDEST :: ID_JRNL_STAT :: NET_ACT_STAT :: CUE_SSTAT :: CUE_SFAIL :: CUE_SOBJ :: CUE_SUS :: CUE_SJSEQ :: TEL_REASON_TIME :: TEL_REASON_GTIME :: THM_ROT_STAT :: attentionRegs) [.journals, .atns, .parts, .slots, .meters] s t
    | .cueApply .. => TouchesParts [.loft, .wings, .atns, .cores, .parts, .results, .semas, .sends, .recvs, .links, .injects, .shadows, .slots, .cueUnits, .parks, .doms, .meters, .warming, .wafers, .planner] s t
    | .schedCueValue .. => TouchesParts [.loft, .wings, .journals, .atns, .cores, .parts, .results, .semas, .sends, .recvs, .links, .injects, .shadows, .slots, .cueUnits, .parks, .doms, .meters, .warming, .wafers, .planner] s t
    | .wingsCopyDone .. => Touches (ID_JRNL_NEXT :: ID_JRNL_OLDEST :: ID_JRNL_STAT :: CUE_SSTAT :: CUE_SJSEQ :: THM_ROT_STAT :: attentionRegs) [.wings, .journals, .atns, .parts, .slots, .cueUnits, .ageQs] s t
    | .imageExpansionDone .. => Touches (attentionRegs ++ jobRegs) [.loft, .wings, .journals, .atns, .parts, .lofts, .shadows, .slots, .cueUnits, .parks, .doms, .ledgers, .meters, .warming, .wafers] s t
    | .actsHandoverAck .. => Touches (attentionRegs ++ jobRegs) [.journals, .atns, .parts, .slots, .cueUnits, .parks, .meters, .warming, .wafers, .planner] s t
    | .actsAckTimeout .. => Touches (NET_ACT_STAT :: IMG_STAT :: IMG_FAIL_OFF :: IMG_ELAPSED :: CUE_SSTAT :: attentionRegs) [.wings, .atns, .slots, .cueUnits] s t
    | .machineCueStart .. => Touches (attentionRegs ++ jobRegs) [.journals, .atns, .parts, .slots, .parks, .meters, .warming, .wafers, .planner] s t
    | .machineCueCheck .. => Touches (attentionRegs ++ jobRegs) [.journals, .atns, .parts, .slots, .parks, .meters, .warming, .wafers, .planner] s t
    | .machineCueArmTimeout .. => Touches (attentionRegs ++ jobRegs) [.journals, .atns, .parts, .slots, .parks, .meters, .warming, .wafers, .planner] s t
    | .goFrame .. => Touches [TB_EVENTS] [.slots] s t
    | .stepBoundary .. => Touches (attentionRegs ++ jobRegs) [.loft, .wings, .journals, .atns, .parts, .seSlots, .injects, .slots, .cueUnits, .parks, .meters, .ageQs, .warming, .wafers, .planner] s t
    | .curtain .. => Touches (attentionRegs ++ jobRegs) [.wings, .journals, .atns, .cores, .parts, .semas, .sends, .recvs, .injects, .slots, .cueUnits, .parks, .doms, .meters] s t
    | .rmcHeartbeat .. => Touches [] [.tmcs, .planner] s t
    | .keepaliveCommit .. => Touches (NET_MGMT :: ID_JRNL_NEXT :: ID_JRNL_OLDEST :: ID_JRNL_STAT :: PWR_CAP_EFF :: TEL_REASON_TIME :: TEL_REASON_GTIME :: THM_COOLANT :: TMC_KEEPALIVE1 :: attentionRegs) [.journals, .atns, .parts, .meters] s t
    | .tmcKeepaliveTick .. => Touches (NET_MGMT :: ID_JRNL_NEXT :: ID_JRNL_OLDEST :: ID_JRNL_STAT :: PWR_CAP_EFF :: TEL_REASON_TIME :: TEL_REASON_GTIME :: THM_COOLANT :: TMC_KEEPALIVE0 :: TMC_KEEPALIVE1 :: attentionRegs) [.journals, .atns, .parts, .meters, .tmcs] s t
    | .rmcsAbsent .. => Touches (NET_MGMT :: ID_JRNL_NEXT :: ID_JRNL_OLDEST :: ID_JRNL_STAT :: PWR_CAP_EFF :: TEL_REASON_TIME :: TEL_REASON_GTIME :: THM_COOLANT :: TMC_KEEPALIVE0 :: TMC_KEEPALIVE1 :: attentionRegs) [.journals, .atns, .parts, .meters, .tmcs] s t
    | .keepaliveTimeout .. => Touches (NET_MGMT :: THM_COOLANT :: attentionRegs) [.atns] s t
    | .routeTableWrite .. => Touches (NET_ACT_STAT :: NET_RT_DATA :: attentionRegs) [.atns] s t
    | .actChangeRequest .. => Touches [] [.planner] s t
    | .actBuild .. => TouchesParts [.atns, .acts, .planner] s t
    | .actCue .. => Touches (attentionRegs ++ jobRegs) [.wings, .journals, .atns, .parts, .slots, .parks, .meters, .warming, .wafers, .planner] s t
    | .elementQuiet .. => Touches (NET_ACT_STAT :: B72_ACT_STAT :: attentionRegs) [.atns, .planner] s t
    | .actFree .. => Touches (attentionRegs ++ jobRegs) [.atns, .links, .arbs, .parks, .doms, .meters, .planner] s t
    | .drainDeadline .. => Touches (attentionRegs ++ jobRegs) [.atns, .links, .arbs, .parks, .doms, .meters, .planner] s t
    | .waferLoss .. => TouchesParts [.loft, .wings, .latches, .journals, .atns, .hifs, .chans, .clocks, .cores, .parts, .results, .seSlots, .semas, .sends, .recvs, .replays, .links, .arbs, .injects, .fabricCredits, .lofts, .pchs, .shadows, .loads, .pushes, .slots, .cueUnits, .parks, .doms, .ledgers, .bups, .meters, .thermChs, .warming, .wafers, .twis] s t
    | .rmcDeclareWaferLost .. => Touches [] [.wafers, .planner] s t
    | .b72Loss .. => TouchesParts [.links, .groupPtr, .planner] s t
    | .spineLoss .. => Touches [] [.sends, .recvs, .arbs, .injects, .fabricCredits, .planner] s t
    | .unitPlannedReset .. => TouchesParts [.atns, .links, .groupPtr, .parks, .doms, .meters, .planner] s t
    | .unitAdmit .. => Touches [] [.wafers, .planner] s t
    | _ => True

/-- Each of these commands changes no register and no part of the state but those listed for it; what carries an access into the window, starts a unit or
powers it off may change any register, and is held to its parts of the state only. (16_rack_power.md, 17_immersion_thermal_ageing.md, 18_host_interface.md,
19_attention.md, 20_timebase.md, 21_tray_and_rack_management.md, 22_two_wire_bus.md, 23_prompter_port.md.) -/
def Obligations.FramesOfPortsAndRack : Prop :=
  ∀ (c : Instr) (s t : State), exec c s = .next t →
    match c with
    | .atnTest .. => Touches attentionRegs [.atns] s t
    | .atnUnmask .. => Touches (ATN_MASK :: ATN_TMC_MASK :: ATN_LMASK :: attentionRegs) [.atns] s t
    | .msixCoalesceExpiry .. => Touches attentionRegs [.atns] s t
    | .msixSpacing .. => Touches attentionRegs [.atns] s t
    | .tmcCoalesceExpiry .. => Touches [] [.atns] s t
    | .tmcSeenClear .. => Touches attentionRegs [.atns] s t
    | .perstAssert .. => Touches (HIF_LINK :: HIF_LINK_EVENTS :: HIF_MSIX_ADDR :: HIF_MSIX_DATA :: HIF_MSIX_VCTL :: HIF_DMA_BASE :: HIF_DMA_CFG :: HIF_DMA_TAIL :: HIF_DMA_HEAD :: HIF_DMA_STAT :: HIF_DMA_BYTES :: attentionRegs) [.hifs, .chans] s t
    | .perstRelease .. => Touches (HIF_LINK :: attentionRegs) [.hifs] s t
    | .hotReset .. => Touches (HIF_LINK :: HIF_LINK_EVENTS :: HIF_MSIX_ADDR :: HIF_MSIX_DATA :: HIF_MSIX_VCTL :: HIF_DMA_BASE :: HIF_DMA_CFG :: HIF_DMA_TAIL :: HIF_DMA_HEAD :: HIF_DMA_STAT :: HIF_DMA_BYTES :: attentionRegs) [.hifs, .chans] s t
    | .flr .. => Touches (HIF_LINK :: HIF_LINK_EVENTS :: HIF_MSIX_ADDR :: HIF_MSIX_DATA :: HIF_MSIX_VCTL :: HIF_DMA_BASE :: HIF_DMA_CFG :: HIF_DMA_TAIL :: HIF_DMA_HEAD :: HIF_DMA_STAT :: HIF_DMA_BYTES :: attentionRegs) [.hifs, .chans] s t
    | .pcieLinkUp .. => Touches [HIF_LINK] [] s t
    | .pmcsrWrite .. => Touches (HIF_LINK :: HIF_DMA_STAT :: attentionRegs) [.atns, .hifs] s t
    | .msixEnable .. => Touches attentionRegs [.atns, .hifs] s t
    | .msixUnmask .. => Touches (HIF_MSIX_VCTL :: attentionRegs) [.atns, .hifs] s t
    | .busMasterEnable .. => Touches (HIF_LINK :: HIF_DMA_STAT :: attentionRegs) [.atns] s t
    | .dmaTailWrite .. => Touches (HIF_DMA_TAIL :: HIF_DMA_STAT :: attentionRegs) [.atns] s t
    | .dmaEnable .. => Touches (HIF_DMA_CFG :: HIF_DMA_TAIL :: HIF_DMA_HEAD :: HIF_DMA_STAT :: HIF_DMA_BYTES :: attentionRegs) [.atns, .chans] s t
    | .dmaDisable .. => Touches [HIF_DMA_CFG, HIF_DMA_TAIL, HIF_DMA_HEAD, HIF_DMA_STAT] [.chans] s t
    | .dmaResume .. => Touches [HIF_DMA_STAT] [] s t
    | .dmaCompletion .. => Touches (NET_ACT_STAT :: IMG_STAT :: IMG_ELAPSED :: CUE_SSTAT :: LOFT_EVENTS :: LOFT_WR_BYTES :: HIF_DMA_HEAD :: HIF_DMA_STAT :: HIF_DMA_BYTES :: attentionRegs) [.loft, .wings, .atns, .chans, .slots, .cueUnits] s t
    | .dmaCompletionTimeout .. => Touches (HIF_DMA_HEAD :: HIF_DMA_STAT :: attentionRegs) [.atns, .chans] s t
    | .dmaDescDone .. => Touches (LOFT_RD_BYTES :: HIF_DMA_HEAD :: HIF_DMA_STAT :: HIF_DMA_BYTES :: attentionRegs) [.atns, .chans] s t
    | .l1Entry .. => Touches [HIF_LINK] [.hifs] s t
    | .pmeTurnOff .. => Touches [HIF_LINK] [.hifs] s t
    | .pmeRepeat .. => Touches [] [] s t
    | .pcieLinkRecovery .. => Touches [HIF_LINK, HIF_LINK_EVENTS] [] s t
    | .thermalSample .. => Touches (PWR_PARK :: PWR_GUARDS :: TEL_REASON_TIME :: TEL_REASON_GTIME :: THM_HOT_STAT :: THM_CH_STAT :: THM_Q :: attentionRegs) [.atns, .parks, .meters, .ageQs] s t
    | .parkHottestEval .. => Touches (PWR_PARK :: PWR_GUARDS :: TEL_REASON_TIME :: TEL_REASON_GTIME :: THM_HOT_STAT :: THM_Q :: attentionRegs) [.atns, .parts, .parks, .meters, .thermChs] s t
    | .rotationDue .. => Touches [THM_ROT_STAT] [.parts] s t
    | .ghostLightEnter .. => Touches [PWR_PARK, TEL_REASON_TIME, TEL_REASON_GTIME, THM_GHOST_STAT, TMC_REQ] [.parks, .meters] s t
    | .ghostWarmAdjust .. => Touches (PWR_PARK :: TEL_REASON_TIME :: TEL_REASON_GTIME :: THM_GHOST_STAT :: attentionRegs) [.atns, .parks, .meters, .warming] s t
    | .ghostWarmRotate .. => Touches [PWR_PARK, TEL_REASON_TIME, TEL_REASON_GTIME] [.parks, .meters, .warming] s t
    | .ghostWake .. => Touches [PWR_PARK, TEL_REASON_TIME, TEL_REASON_GTIME, THM_GHOST_STAT, TMC_REQ] [.parks, .meters, .warming, .wafers] s t
    | .ageSampleDue .. => Touches [] [.ageMons] s t
    | .ageSampleForced .. => Touches [AGE_STAT] [.ageMons] s t
    | .ageSampleDone .. => Touches [AGE_STAT, AGE_MON] [.ageMons, .ageQs] s t
    | .ageSampleLate .. => Touches attentionRegs [.atns] s t
    | .ageHourlyFit .. => Touches (attentionRegs ++ jobRegs) [.journals, .atns, .doms, .ledgers, .ageQs] s t
    | .ptpSync .. => Touches [] [.rmcs] s t
    | .ppsEdge .. => Touches [] [.rmcs] s t
    | .rmcReferenceLoss .. => Touches [] [.rmcs] s t
    | .rmcReferenceReturn .. => Touches [] [.rmcs] s t
    | .markerSend .. => Touches [] [.rmcs] s t
    | .todSend .. => Touches [] [] s t
    | .fanoutSwitch .. => Touches [] [.planner] s t
    | .marker .. => Touches (TB_STAT :: TB_OFFSET :: TB_SLEW :: TB_UTC :: TB_EVENTS :: TB_LAST_STEP :: TB_STEP_TIME :: TB_HOLD_START :: attentionRegs) [.atns, .clocks] s t
    | .markerMissing .. => Touches (TB_STAT :: TB_SLEW :: TB_EVENTS :: TB_HOLD_START :: attentionRegs) [.atns, .clocks] s t
    | .todFrame .. => Touches (TB_STAT :: TB_EVENTS :: TB_HOLD_START :: attentionRegs) [.atns, .clocks] s t
    | .holdoverBoundExceeded .. => Touches (TB_STAT :: TB_HOLD_START :: attentionRegs) [.atns, .rmcs] s t
    | .bbuPresenceLoss .. => Touches [SHF_STAT, SHF_EVENTS, BBU_STAT, BBU_ENERGY, BBU_FLOW] [.shelves] s t
    | .bbuInsertion .. => Touches [BBU_STAT] [.shelves] s t
    | .bbuPrecheckDone .. => Touches [SHF_STAT, BBU_STAT, BBU_ENERGY, BBU_FLOW] [] s t
    | .cellFault .. => Touches [SHF_STAT, SHF_EVENTS, BBU_STAT] [.shelves] s t
    | .bbuFull .. => Touches [SHF_STAT, BBU_STAT, BBU_ENERGY] [] s t
    | .chargeHeadroom .. => Touches [SHF_STAT, SHF_CHG, BBU_STAT] [] s t
    | .chargeInhibit .. => Touches [SHF_STAT, SHF_OUT, SHF_CHG, BBU_STAT] [] s t
    | .shelfReport .. => Touches (ID_JRNL_NEXT :: ID_JRNL_OLDEST :: ID_JRNL_STAT :: PWR_CAP :: PWR_CAP_EFF :: TEL_REASON_TIME :: TEL_REASON_GTIME :: SHF_STAT :: SHF_ALLOT :: attentionRegs) [.journals, .atns, .meters, .wafers, .tmcs, .plans, .planner] s t
    | .shelfReportPeriodic .. => Touches (attentionRegs ++ jobRegs) [.journals, .atns, .meters, .wafers, .tmcs, .plans, .planner] s t
    | .planRaiseCheck .. => Touches (ID_JRNL_NEXT :: ID_JRNL_OLDEST :: ID_JRNL_STAT :: PWR_CAP :: PWR_CAP_EFF :: TEL_REASON_TIME :: TEL_REASON_GTIME :: SHF_STAT :: SHF_ALLOT :: attentionRegs) [.journals, .atns, .meters, .wafers, .tmcs, .plans, .planner] s t
    | .acLoss .. => Touches [SHF_STAT, SHF_AC, SHF_CHG, SHF_EVENTS, BBU_STAT] [] s t
    | .rideThroughGrace .. => Touches (ID_JRNL_NEXT :: ID_JRNL_OLDEST :: ID_JRNL_STAT :: PWR_CAP :: PWR_CAP_EFF :: TEL_REASON_TIME :: TEL_REASON_GTIME :: SHF_STAT :: SHF_ALLOT :: attentionRegs) [.journals, .atns, .meters, .wafers, .tmcs, .plans, .planner] s t
    | .bbuReserveLow .. => TouchesParts [.loft, .wings, .latches, .journals, .atns, .hifs, .chans, .clocks, .cores, .parts, .results, .seSlots, .semas, .sends, .recvs, .replays, .links, .arbs, .injects, .fabricCredits, .groupPtr, .lofts, .pchs, .shadows, .loads, .pushes, .slots, .cueUnits, .parks, .doms, .ledgers, .bups, .meters, .thermChs, .warming, .wafers, .tmcs, .fws, .twis, .planner] s t
    | .acReturn .. => Touches [SHF_STAT, SHF_AC, SHF_CHG, SHF_EVENTS, BBU_STAT] [] s t
    | .shelfStaticFallback .. => Touches [SHF_STAT] [] s t
    | .busbarCollapse .. => TouchesParts [.loft, .wings, .latches, .journals, .atns, .hifs, .chans, .clocks, .cores, .parts, .results, .seSlots, .semas, .sends, .recvs, .replays, .links, .arbs, .injects, .fabricCredits, .groupPtr, .lofts, .pchs, .shadows, .loads, .pushes, .slots, .cueUnits, .parks, .doms, .ledgers, .bups, .meters, .thermChs, .warming, .wafers, .tmcs, .twis, .planner] s t
    | .rectifierModuleFault .. => Touches [SHF_STAT, SHF_CHG, SHF_EVENTS, BBU_STAT] [.shelves] s t
    | .insulationFault .. => Touches [] [.planner] s t
    | .cduFailover .. => Touches [CDU_STAT, CDU_FLOW] [] s t
    | .coolantReport .. => Touches (ID_JRNL_NEXT :: ID_JRNL_OLDEST :: ID_JRNL_STAT :: PWR_CAP :: PWR_CAP_EFF :: TEL_REASON_TIME :: TEL_REASON_GTIME :: SHF_STAT :: SHF_ALLOT :: CDU_STAT :: CDU_TEMP :: CDU_FLOW :: CDU_FAC :: attentionRegs) [.journals, .atns, .meters, .wafers, .tmcs, .plans, .planner] s t
    | .trayInletOvertemp .. => TouchesParts [.loft, .wings, .latches, .journals, .atns, .hifs, .chans, .clocks, .cores, .parts, .results, .seSlots, .semas, .sends, .recvs, .replays, .links, .arbs, .injects, .fabricCredits, .lofts, .pchs, .shadows, .loads, .pushes, .slots, .cueUnits, .parks, .doms, .ledgers, .bups, .meters, .thermChs, .warming, .wafers, .tmcs, .fws, .twis] s t
    | .flowLoss .. => Touches (ID_JRNL_NEXT :: ID_JRNL_OLDEST :: ID_JRNL_STAT :: PWR_CAP :: PWR_CAP_EFF :: TEL_REASON_TIME :: TEL_REASON_GTIME :: SHF_STAT :: SHF_ALLOT :: attentionRegs) [.journals, .atns, .meters, .wafers, .tmcs, .plans, .planner] s t
    | .flowLossPowerOff .. => TouchesParts [.loft, .wings, .latches, .journals, .atns, .hifs, .chans, .clocks, .cores, .parts, .results, .seSlots, .semas, .sends, .recvs, .replays, .links, .arbs, .injects, .fabricCredits, .groupPtr, .lofts, .pchs, .shadows, .loads, .pushes, .slots, .cueUnits, .parks, .doms, .ledgers, .bups, .meters, .thermChs, .warming, .wafers, .tmcs, .fws, .twis, .planner] s t
    | .levelAlarm .. => Touches [CDU_STAT, CDU_FLOW] [.planner] s t
    | .levelLowPowerOff .. => TouchesParts [.loft, .wings, .latches, .journals, .atns, .hifs, .chans, .clocks, .cores, .parts, .results, .seSlots, .semas, .sends, .recvs, .replays, .links, .arbs, .injects, .fabricCredits, .groupPtr, .lofts, .pchs, .shadows, .loads, .pushes, .slots, .cueUnits, .parks, .doms, .ledgers, .bups, .meters, .thermChs, .warming, .wafers, .tmcs, .fws, .twis, .planner] s t
    | .trayInterlockOpen .. => TouchesParts [.loft, .wings, .latches, .journals, .atns, .hifs, .chans, .clocks, .cores, .parts, .results, .seSlots, .semas, .sends, .recvs, .replays, .links, .arbs, .injects, .fabricCredits, .lofts, .pchs, .shadows, .loads, .pushes, .slots, .cueUnits, .parks, .doms, .ledgers, .bups, .meters, .thermChs, .warming, .wafers, .tmcs, .twis] s t
    | .rmcTakeover .. => Touches (ID_JRNL_NEXT :: ID_JRNL_OLDEST :: ID_JRNL_STAT :: PWR_CAP :: PWR_CAP_EFF :: TEL_REASON_TIME :: TEL_REASON_GTIME :: SHF_STAT :: SHF_ALLOT :: attentionRegs) [.journals, .atns, .meters, .wafers, .tmcs, .plans, .planner] s t
    | .dbgHalt .. => Touches (CORE_STAT :: SEM_STAT :: TEL_CORE_WAIT :: DBG_STAT :: DBG_CORE_STAT :: DBG_HALT_CAP :: DBG_FHALT :: DBG_PART_STAT :: attentionRegs) [.atns, .cores, .semas] s t
    | .dbgResume .. => Touches (attentionRegs ++ jobRegs) [.loft, .wings, .atns, .cores, .parts, .results, .semas, .sends, .injects, .slots, .cueUnits, .parks, .doms, .meters] s t
    | .dbgStep .. => Touches (attentionRegs ++ jobRegs) [.loft, .wings, .atns, .cores, .parts, .results, .semas, .sends, .injects, .slots, .cueUnits, .parks, .doms, .meters] s t
    | .coreHalted .. => Touches (CORE_STAT :: SEM_STAT :: TEL_CORE_WAIT :: DBG_STAT :: DBG_CORE_STAT :: DBG_HALT_CAP :: DBG_FHALT :: DBG_PART_STAT :: attentionRegs) [.atns, .cores, .semas] s t
    | .debugAttach .. => Touches (attentionRegs ++ jobRegs) [.loft, .wings, .atns, .cores, .parts, .results, .semas, .sends, .injects, .slots, .cueUnits, .parks, .doms, .meters] s t
    | .debugDetach .. => Touches (attentionRegs ++ jobRegs) [.loft, .wings, .atns, .cores, .parts, .results, .semas, .sends, .injects, .slots, .cueUnits, .parks, .doms, .meters] s t
    | .debugPresenceLost .. => Touches (attentionRegs ++ jobRegs) [.loft, .wings, .atns, .cores, .parts, .results, .semas, .sends, .injects, .slots, .cueUnits, .parks, .doms, .meters] s t
    | .dbgRegWrite .. => Touches [CORE_STAT, DBG_CORE_STAT] [.cores] s t
    | .dbgMemRead .. => Touches [DBG_CORE_STAT, DBG_MEM_ADDR] [] s t
    | .dbgMemWrite .. => Touches [CORE_STAT, DBG_CORE_STAT, DBG_MEM_ADDR] [.cores] s t
    | .twiGo .. => Touches (TWI_CTRL_CMD :: TWI_CTRL_STAT :: attentionRegs) [.atns] s t
    | .twiCtrlDone .. => Touches (TWI_CTRL_STAT :: TWI_CTRL_BUF :: attentionRegs) [.atns] s t
    | .twiArbLost .. => Touches (TWI_CTRL_STAT :: attentionRegs) [.atns] s t
    | .twiBusRecovery .. => Touches (TWI_CTRL_STAT :: attentionRegs) [.atns, .twis] s t
    | .twiTargetBusReset .. => Touches [TWI_TGT_STAT] [] s t
    | .smcSleep .. => Touches [] [.twis] s t
    | .twiStretchTimeout .. => Touches (TWI_TGT_STAT :: TWI_TGT_EVENTS :: attentionRegs) [.atns, .wafers] s t
    | .twiAon .. => Touches [] [] s t
    | .twiWrite .. => TouchesParts [.loft, .wings, .latches, .journals, .atns, .hifs, .chans, .clocks, .rmcs, .cores, .parts, .results, .seSlots, .semas, .sends, .recvs, .replays, .links, .arbs, .injects, .fabricCredits, .groupPtr, .lofts, .pchs, .shadows, .loads, .pushes, .slots, .cueUnits, .parks, .doms, .ledgers, .bups, .meters, .ageMons, .ageQs, .thermChs, .warming, .wafers, .tmcs, .acts, .fws, .spots, .twis, .tafKept, .etags, .plans, .shelves, .planner] s t
    | .twiRead .. => TouchesParts [.latches, .atns, .twis] s t
    | .jtagIdcode .. => Touches [DBG_STAT] [.twis] s t
    | .jtagBypass .. => Touches [DBG_STAT] [.twis] s t
    | .jtagSamplePreload .. => Touches [DBG_STAT] [.twis] s t
    | .jtagExtest .. => Touches [DBG_STAT] [.twis] s t
    | .dpstat .. => Touches [DBG_STAT] [.twis] s t
    | .dpaccNop .. => TouchesParts [.loft, .wings, .latches, .journals, .atns, .hifs, .chans, .clocks, .rmcs, .cores, .parts, .results, .seSlots, .semas, .sends, .recvs, .replays, .links, .arbs, .injects, .fabricCredits, .groupPtr, .lofts, .pchs, .shadows, .loads, .pushes, .slots, .cueUnits, .parks, .doms, .ledgers, .bups, .meters, .ageMons, .ageQs, .thermChs, .warming, .wafers, .tmcs, .acts, .fws, .spots, .twis, .tafKept, .etags, .plans, .shelves, .planner] s t
    | .dpaccRead .. => TouchesParts [.loft, .wings, .latches, .journals, .atns, .hifs, .chans, .clocks, .rmcs, .cores, .parts, .results, .seSlots, .semas, .sends, .recvs, .replays, .links, .arbs, .injects, .fabricCredits, .groupPtr, .lofts, .pchs, .shadows, .loads, .pushes, .slots, .cueUnits, .parks, .doms, .ledgers, .bups, .meters, .ageMons, .ageQs, .thermChs, .warming, .wafers, .tmcs, .acts, .fws, .spots, .twis, .tafKept, .etags, .plans, .shelves, .planner] s t
    | .dpaccWrite .. => TouchesParts [.loft, .wings, .latches, .journals, .atns, .hifs, .chans, .clocks, .rmcs, .cores, .parts, .results, .seSlots, .semas, .sends, .recvs, .replays, .links, .arbs, .injects, .fabricCredits, .groupPtr, .lofts, .pchs, .shadows, .loads, .pushes, .slots, .cueUnits, .parks, .doms, .ledgers, .bups, .meters, .ageMons, .ageQs, .thermChs, .warming, .wafers, .tmcs, .acts, .fws, .spots, .twis, .tafKept, .etags, .plans, .shelves, .planner] s t
    | .trst .. => Touches (attentionRegs ++ jobRegs) [.loft, .wings, .atns, .cores, .parts, .results, .semas, .sends, .injects, .slots, .cueUnits, .parks, .doms, .meters, .twis] s t
    | .b72ActStateSet .. => Touches [B72_ACT_STAT, B72_ACT_CTL] [.wings] s t
    | .tafReadRequest .. => TouchesParts [.loft, .wings, .latches, .journals, .atns, .hifs, .chans, .clocks, .rmcs, .cores, .parts, .results, .seSlots, .semas, .sends, .recvs, .replays, .links, .arbs, .injects, .fabricCredits, .groupPtr, .lofts, .pchs, .shadows, .loads, .pushes, .slots, .cueUnits, .parks, .doms, .ledgers, .bups, .meters, .ageMons, .ageQs, .thermChs, .warming, .wafers, .tmcs, .acts, .fws, .spots, .twis, .tafKept, .etags, .plans, .shelves, .planner] s t
    | .tafWriteRequest .. => TouchesParts [.loft, .wings, .latches, .journals, .atns, .hifs, .chans, .clocks, .rmcs, .cores, .parts, .results, .seSlots, .semas, .sends, .recvs, .replays, .links, .arbs, .injects, .fabricCredits, .groupPtr, .lofts, .pchs, .shadows, .loads, .pushes, .slots, .cueUnits, .parks, .doms, .ledgers, .bups, .meters, .ageMons, .ageQs, .thermChs, .warming, .wafers, .tmcs, .acts, .fws, .spots, .twis, .tafKept, .etags, .plans, .shelves, .planner] s t
    | .tafResponse .. => Touches [] [.tmcs, .planner] s t
    | .tafEvent .. => Touches [] [.planner] s t
    | .tafRetry .. => Touches [] [.tmcs, .planner] s t
    | .sidebandChange .. => Touches [] [.tmcs] s t
    | .attnNChange .. => Touches [] [.tmcs] s t
    | .presenceChange .. => Touches [] [.tmcs] s t
    | .tmcRestart .. => TouchesParts [.loft, .wings, .latches, .journals, .atns, .hifs, .chans, .clocks, .rmcs, .cores, .parts, .results, .seSlots, .semas, .sends, .recvs, .replays, .links, .arbs, .injects, .fabricCredits, .groupPtr, .lofts, .pchs, .shadows, .loads, .pushes, .slots, .cueUnits, .parks, .doms, .ledgers, .bups, .meters, .ageMons, .ageQs, .thermChs, .warming, .wafers, .tmcs, .acts, .fws, .spots, .twis, .tafKept, .etags, .plans, .shelves, .planner] s t
    | .standbyRailUp .. => TouchesParts [.loft, .wings, .latches, .journals, .atns, .hifs, .chans, .clocks, .rmcs, .cores, .parts, .results, .seSlots, .semas, .sends, .recvs, .replays, .links, .arbs, .injects, .fabricCredits, .groupPtr, .lofts, .pchs, .shadows, .loads, .pushes, .slots, .cueUnits, .parks, .doms, .ledgers, .bups, .meters, .ageMons, .ageQs, .thermChs, .warming, .wafers, .tmcs, .acts, .fws, .spots, .twis, .tafKept, .etags, .plans, .shelves, .planner] s t
    | .spotlightButton .. => Touches [] [.spots, .etags] s t
    | .spotlightTimeout .. => Touches [] [.spots, .etags] s t
    | .firmwareInstall .. => Touches [ID_SMC_FW, FW_SMC_SLOT, FW_SMC_VER] [.fws] s t
    | .firmwareActivate .. => TouchesParts [.loft, .wings, .latches, .journals, .atns, .hifs, .chans, .clocks, .rmcs, .cores, .parts, .results, .seSlots, .semas, .sends, .recvs, .replays, .links, .arbs, .injects, .fabricCredits, .groupPtr, .lofts, .pchs, .shadows, .loads, .pushes, .slots, .cueUnits, .parks, .doms, .ledgers, .bups, .meters, .ageMons, .ageQs, .thermChs, .warming, .wafers, .tmcs, .acts, .fws, .spots, .twis, .tafKept, .etags, .plans, .shelves, .planner] s t
    | .firmwareRollback .. => TouchesParts [.loft, .wings, .latches, .journals, .atns, .hifs, .chans, .clocks, .rmcs, .cores, .parts, .results, .seSlots, .semas, .sends, .recvs, .replays, .links, .arbs, .injects, .fabricCredits, .groupPtr, .lofts, .pchs, .shadows, .loads, .pushes, .slots, .cueUnits, .parks, .doms, .ledgers, .bups, .meters, .ageMons, .ageQs, .thermChs, .warming, .wafers, .tmcs, .acts, .fws, .spots, .twis, .tafKept, .etags, .plans, .shelves, .planner] s t
    | .firmwareWriteDone .. => TouchesParts [.loft, .wings, .latches, .journals, .atns, .hifs, .chans, .clocks, .rmcs, .cores, .parts, .results, .seSlots, .semas, .sends, .recvs, .replays, .links, .arbs, .injects, .fabricCredits, .groupPtr, .lofts, .pchs, .shadows, .loads, .pushes, .slots, .cueUnits, .parks, .doms, .ledgers, .bups, .meters, .ageMons, .ageQs, .thermChs, .warming, .wafers, .tmcs, .acts, .fws, .spots, .twis, .tafKept, .etags, .plans, .shelves, .planner] s t
    | .firmwareTrialEnd .. => TouchesParts [.loft, .wings, .latches, .journals, .atns, .hifs, .chans, .clocks, .rmcs, .cores, .parts, .results, .seSlots, .semas, .sends, .recvs, .replays, .links, .arbs, .injects, .fabricCredits, .groupPtr, .lofts, .pchs, .shadows, .loads, .pushes, .slots, .cueUnits, .parks, .doms, .ledgers, .bups, .meters, .ageMons, .ageQs, .thermChs, .warming, .wafers, .tmcs, .acts, .fws, .spots, .twis, .tafKept, .etags, .plans, .shelves, .planner] s t
    | .updateTaskTimeout .. => Touches [] [.planner] s t
    | .redfishGet .. => Touches [] [] s t
    | .redfishPatch .. => Touches (ID_JRNL_NEXT :: ID_JRNL_OLDEST :: ID_JRNL_STAT :: PWR_CAP :: PWR_CAP_EFF :: TEL_REASON_TIME :: TEL_REASON_GTIME :: SHF_STAT :: SHF_ALLOT :: B72_ACT_STAT :: B72_ACT_CTL :: attentionRegs) [.journals, .atns, .rmcs, .meters, .wafers, .tmcs, .spots, .etags, .plans, .planner] s t
    | .resetOn .. => TouchesParts [.loft, .wings, .latches, .journals, .atns, .hifs, .chans, .clocks, .cores, .parts, .results, .seSlots, .semas, .sends, .recvs, .replays, .links, .arbs, .injects, .fabricCredits, .groupPtr, .lofts, .pchs, .shadows, .loads, .pushes, .slots, .cueUnits, .parks, .doms, .ledgers, .bups, .meters, .thermChs, .warming, .wafers, .tmcs, .fws, .planner] s t
    | .resetForceOff .. => TouchesParts [.loft, .wings, .latches, .journals, .atns, .hifs, .chans, .clocks, .cores, .parts, .results, .seSlots, .semas, .sends, .recvs, .replays, .links, .arbs, .injects, .fabricCredits, .groupPtr, .lofts, .pchs, .shadows, .loads, .pushes, .slots, .cueUnits, .parks, .doms, .ledgers, .bups, .meters, .thermChs, .warming, .wafers, .tmcs, .twis, .planner] s t
    | .resetGracefulShutdown .. => TouchesParts [.loft, .wings, .latches, .journals, .atns, .hifs, .chans, .clocks, .cores, .parts, .results, .seSlots, .semas, .sends, .recvs, .replays, .links, .arbs, .injects, .fabricCredits, .groupPtr, .lofts, .pchs, .shadows, .loads, .pushes, .slots, .cueUnits, .parks, .doms, .ledgers, .bups, .meters, .thermChs, .warming, .wafers, .tmcs, .fws, .twis, .planner] s t
    | .resetPowerCycle .. => TouchesParts [.loft, .wings, .latches, .journals, .atns, .hifs, .chans, .clocks, .cores, .parts, .results, .seSlots, .semas, .sends, .recvs, .replays, .links, .arbs, .injects, .fabricCredits, .groupPtr, .lofts, .pchs, .shadows, .loads, .pushes, .slots, .cueUnits, .parks, .doms, .ledgers, .bups, .meters, .thermChs, .warming, .wafers, .tmcs, .fws, .twis, .planner] s t
    | .windowAccess .. => Touches [] [.planner] s t
    | .clearCellFault .. => Touches [] [.etags, .shelves] s t
    | .setSeconds .. => Touches [] [.rmcs, .etags] s t
    | .failover .. => Touches [] [.planner] s t
    | .simpleUpdate .. => Touches [ID_SMC_FW, FW_SMC_SLOT, FW_SMC_VER] [.fws, .planner] s t
    | .multipartUpdate .. => Touches [ID_SMC_FW, FW_SMC_SLOT, FW_SMC_VER] [.fws, .planner] s t
    | .eventSubscribe .. => Touches [] [.etags, .planner] s t
    | .eventUnsubscribe .. => Touches [] [.etags, .planner] s t
    | .capConsistencyCheck .. => Touches (ID_JRNL_NEXT :: ID_JRNL_OLDEST :: ID_JRNL_STAT :: PWR_CAP :: PWR_CAP_EFF :: TEL_REASON_TIME :: TEL_REASON_GTIME :: attentionRegs) [.journals, .atns, .meters, .wafers, .plans] s t
    | _ => True
end

