-- ==== Sys2Proof/Laws/State.lean ====
section
/-!
SUPPORT. What each writer of a field of State leaves in every field, one lemma a pair, all true by definition.
-/
namespace Sys2Proof.Machine

@[simp] theorem State.withPending_pending (s : State) (v : List Instr) : (s.withPending v).pending = v := rfl
@[simp] theorem State.withPending_now (s : State) (v : List Instr) : (s.withPending v).now = s.now := rfl
@[simp] theorem State.withPending_freeCtr (s : State) (v : List Instr) : (s.withPending v).freeCtr = s.freeCtr := rfl
@[simp] theorem State.withPending_out (s : State) (v : List Instr) : (s.withPending v).out = s.out := rfl
@[simp] theorem State.withPending_regs (s : State) (v : List Instr) : (s.withPending v).regs = s.regs := rfl
@[simp] theorem State.withPending_wings (s : State) (v : List Instr) : (s.withPending v).wings = s.wings := rfl
@[simp] theorem State.withPending_loft (s : State) (v : List Instr) : (s.withPending v).loft = s.loft := rfl
@[simp] theorem State.withPending_loftPoison (s : State) (v : List Instr) : (s.withPending v).loftPoison = s.loftPoison := rfl
@[simp] theorem State.withPending_win (s : State) (v : List Instr) : (s.withPending v).win = s.win := rfl
@[simp] theorem State.withPending_job (s : State) (v : List Instr) : (s.withPending v).job = s.job := rfl
@[simp] theorem State.withPending_net (s : State) (v : List Instr) : (s.withPending v).net = s.net := rfl
@[simp] theorem State.withPending_cue (s : State) (v : List Instr) : (s.withPending v).cue = s.cue := rfl
@[simp] theorem State.withPending_pow (s : State) (v : List Instr) : (s.withPending v).pow = s.pow := rfl
@[simp] theorem State.withPending_rack (s : State) (v : List Instr) : (s.withPending v).rack = s.rack := rfl
@[simp] theorem State.withNow_pending (s : State) (v : Nat) : (s.withNow v).pending = s.pending := rfl
@[simp] theorem State.withNow_now (s : State) (v : Nat) : (s.withNow v).now = v := rfl
@[simp] theorem State.withNow_freeCtr (s : State) (v : Nat) : (s.withNow v).freeCtr = s.freeCtr := rfl
@[simp] theorem State.withNow_out (s : State) (v : Nat) : (s.withNow v).out = s.out := rfl
@[simp] theorem State.withNow_regs (s : State) (v : Nat) : (s.withNow v).regs = s.regs := rfl
@[simp] theorem State.withNow_wings (s : State) (v : Nat) : (s.withNow v).wings = s.wings := rfl
@[simp] theorem State.withNow_loft (s : State) (v : Nat) : (s.withNow v).loft = s.loft := rfl
@[simp] theorem State.withNow_loftPoison (s : State) (v : Nat) : (s.withNow v).loftPoison = s.loftPoison := rfl
@[simp] theorem State.withNow_win (s : State) (v : Nat) : (s.withNow v).win = s.win := rfl
@[simp] theorem State.withNow_job (s : State) (v : Nat) : (s.withNow v).job = s.job := rfl
@[simp] theorem State.withNow_net (s : State) (v : Nat) : (s.withNow v).net = s.net := rfl
@[simp] theorem State.withNow_cue (s : State) (v : Nat) : (s.withNow v).cue = s.cue := rfl
@[simp] theorem State.withNow_pow (s : State) (v : Nat) : (s.withNow v).pow = s.pow := rfl
@[simp] theorem State.withNow_rack (s : State) (v : Nat) : (s.withNow v).rack = s.rack := rfl
@[simp] theorem State.withFreeCtr_pending (s : State) (v : Nat) : (s.withFreeCtr v).pending = s.pending := rfl
@[simp] theorem State.withFreeCtr_now (s : State) (v : Nat) : (s.withFreeCtr v).now = s.now := rfl
@[simp] theorem State.withFreeCtr_freeCtr (s : State) (v : Nat) : (s.withFreeCtr v).freeCtr = v := rfl
@[simp] theorem State.withFreeCtr_out (s : State) (v : Nat) : (s.withFreeCtr v).out = s.out := rfl
@[simp] theorem State.withFreeCtr_regs (s : State) (v : Nat) : (s.withFreeCtr v).regs = s.regs := rfl
@[simp] theorem State.withFreeCtr_wings (s : State) (v : Nat) : (s.withFreeCtr v).wings = s.wings := rfl
@[simp] theorem State.withFreeCtr_loft (s : State) (v : Nat) : (s.withFreeCtr v).loft = s.loft := rfl
@[simp] theorem State.withFreeCtr_loftPoison (s : State) (v : Nat) : (s.withFreeCtr v).loftPoison = s.loftPoison := rfl
@[simp] theorem State.withFreeCtr_win (s : State) (v : Nat) : (s.withFreeCtr v).win = s.win := rfl
@[simp] theorem State.withFreeCtr_job (s : State) (v : Nat) : (s.withFreeCtr v).job = s.job := rfl
@[simp] theorem State.withFreeCtr_net (s : State) (v : Nat) : (s.withFreeCtr v).net = s.net := rfl
@[simp] theorem State.withFreeCtr_cue (s : State) (v : Nat) : (s.withFreeCtr v).cue = s.cue := rfl
@[simp] theorem State.withFreeCtr_pow (s : State) (v : Nat) : (s.withFreeCtr v).pow = s.pow := rfl
@[simp] theorem State.withFreeCtr_rack (s : State) (v : Nat) : (s.withFreeCtr v).rack = s.rack := rfl
@[simp] theorem State.withOut_pending (s : State) (v : List Emit) : (s.withOut v).pending = s.pending := rfl
@[simp] theorem State.withOut_now (s : State) (v : List Emit) : (s.withOut v).now = s.now := rfl
@[simp] theorem State.withOut_freeCtr (s : State) (v : List Emit) : (s.withOut v).freeCtr = s.freeCtr := rfl
@[simp] theorem State.withOut_out (s : State) (v : List Emit) : (s.withOut v).out = v := rfl
@[simp] theorem State.withOut_regs (s : State) (v : List Emit) : (s.withOut v).regs = s.regs := rfl
@[simp] theorem State.withOut_wings (s : State) (v : List Emit) : (s.withOut v).wings = s.wings := rfl
@[simp] theorem State.withOut_loft (s : State) (v : List Emit) : (s.withOut v).loft = s.loft := rfl
@[simp] theorem State.withOut_loftPoison (s : State) (v : List Emit) : (s.withOut v).loftPoison = s.loftPoison := rfl
@[simp] theorem State.withOut_win (s : State) (v : List Emit) : (s.withOut v).win = s.win := rfl
@[simp] theorem State.withOut_job (s : State) (v : List Emit) : (s.withOut v).job = s.job := rfl
@[simp] theorem State.withOut_net (s : State) (v : List Emit) : (s.withOut v).net = s.net := rfl
@[simp] theorem State.withOut_cue (s : State) (v : List Emit) : (s.withOut v).cue = s.cue := rfl
@[simp] theorem State.withOut_pow (s : State) (v : List Emit) : (s.withOut v).pow = s.pow := rfl
@[simp] theorem State.withOut_rack (s : State) (v : List Emit) : (s.withOut v).rack = s.rack := rfl
@[simp] theorem State.withRegs_pending (s : State) (v : List (Nat × Word)) : (s.withRegs v).pending = s.pending := rfl
@[simp] theorem State.withRegs_now (s : State) (v : List (Nat × Word)) : (s.withRegs v).now = s.now := rfl
@[simp] theorem State.withRegs_freeCtr (s : State) (v : List (Nat × Word)) : (s.withRegs v).freeCtr = s.freeCtr := rfl
@[simp] theorem State.withRegs_out (s : State) (v : List (Nat × Word)) : (s.withRegs v).out = s.out := rfl
@[simp] theorem State.withRegs_regs (s : State) (v : List (Nat × Word)) : (s.withRegs v).regs = v := rfl
@[simp] theorem State.withRegs_wings (s : State) (v : List (Nat × Word)) : (s.withRegs v).wings = s.wings := rfl
@[simp] theorem State.withRegs_loft (s : State) (v : List (Nat × Word)) : (s.withRegs v).loft = s.loft := rfl
@[simp] theorem State.withRegs_loftPoison (s : State) (v : List (Nat × Word)) : (s.withRegs v).loftPoison = s.loftPoison := rfl
@[simp] theorem State.withRegs_win (s : State) (v : List (Nat × Word)) : (s.withRegs v).win = s.win := rfl
@[simp] theorem State.withRegs_job (s : State) (v : List (Nat × Word)) : (s.withRegs v).job = s.job := rfl
@[simp] theorem State.withRegs_net (s : State) (v : List (Nat × Word)) : (s.withRegs v).net = s.net := rfl
@[simp] theorem State.withRegs_cue (s : State) (v : List (Nat × Word)) : (s.withRegs v).cue = s.cue := rfl
@[simp] theorem State.withRegs_pow (s : State) (v : List (Nat × Word)) : (s.withRegs v).pow = s.pow := rfl
@[simp] theorem State.withRegs_rack (s : State) (v : List (Nat × Word)) : (s.withRegs v).rack = s.rack := rfl
@[simp] theorem State.withWings_pending (s : State) (v : List (Nat × Word)) : (s.withWings v).pending = s.pending := rfl
@[simp] theorem State.withWings_now (s : State) (v : List (Nat × Word)) : (s.withWings v).now = s.now := rfl
@[simp] theorem State.withWings_freeCtr (s : State) (v : List (Nat × Word)) : (s.withWings v).freeCtr = s.freeCtr := rfl
@[simp] theorem State.withWings_out (s : State) (v : List (Nat × Word)) : (s.withWings v).out = s.out := rfl
@[simp] theorem State.withWings_regs (s : State) (v : List (Nat × Word)) : (s.withWings v).regs = s.regs := rfl
@[simp] theorem State.withWings_wings (s : State) (v : List (Nat × Word)) : (s.withWings v).wings = v := rfl
@[simp] theorem State.withWings_loft (s : State) (v : List (Nat × Word)) : (s.withWings v).loft = s.loft := rfl
@[simp] theorem State.withWings_loftPoison (s : State) (v : List (Nat × Word)) : (s.withWings v).loftPoison = s.loftPoison := rfl
@[simp] theorem State.withWings_win (s : State) (v : List (Nat × Word)) : (s.withWings v).win = s.win := rfl
@[simp] theorem State.withWings_job (s : State) (v : List (Nat × Word)) : (s.withWings v).job = s.job := rfl
@[simp] theorem State.withWings_net (s : State) (v : List (Nat × Word)) : (s.withWings v).net = s.net := rfl
@[simp] theorem State.withWings_cue (s : State) (v : List (Nat × Word)) : (s.withWings v).cue = s.cue := rfl
@[simp] theorem State.withWings_pow (s : State) (v : List (Nat × Word)) : (s.withWings v).pow = s.pow := rfl
@[simp] theorem State.withWings_rack (s : State) (v : List (Nat × Word)) : (s.withWings v).rack = s.rack := rfl
@[simp] theorem State.withLoft_pending (s : State) (v : List Host.Cell) : (s.withLoft v).pending = s.pending := rfl
@[simp] theorem State.withLoft_now (s : State) (v : List Host.Cell) : (s.withLoft v).now = s.now := rfl
@[simp] theorem State.withLoft_freeCtr (s : State) (v : List Host.Cell) : (s.withLoft v).freeCtr = s.freeCtr := rfl
@[simp] theorem State.withLoft_out (s : State) (v : List Host.Cell) : (s.withLoft v).out = s.out := rfl
@[simp] theorem State.withLoft_regs (s : State) (v : List Host.Cell) : (s.withLoft v).regs = s.regs := rfl
@[simp] theorem State.withLoft_wings (s : State) (v : List Host.Cell) : (s.withLoft v).wings = s.wings := rfl
@[simp] theorem State.withLoft_loft (s : State) (v : List Host.Cell) : (s.withLoft v).loft = v := rfl
@[simp] theorem State.withLoft_loftPoison (s : State) (v : List Host.Cell) : (s.withLoft v).loftPoison = s.loftPoison := rfl
@[simp] theorem State.withLoft_win (s : State) (v : List Host.Cell) : (s.withLoft v).win = s.win := rfl
@[simp] theorem State.withLoft_job (s : State) (v : List Host.Cell) : (s.withLoft v).job = s.job := rfl
@[simp] theorem State.withLoft_net (s : State) (v : List Host.Cell) : (s.withLoft v).net = s.net := rfl
@[simp] theorem State.withLoft_cue (s : State) (v : List Host.Cell) : (s.withLoft v).cue = s.cue := rfl
@[simp] theorem State.withLoft_pow (s : State) (v : List Host.Cell) : (s.withLoft v).pow = s.pow := rfl
@[simp] theorem State.withLoft_rack (s : State) (v : List Host.Cell) : (s.withLoft v).rack = s.rack := rfl
@[simp] theorem State.withLoftPoison_pending (s : State) (v : List Nat) : (s.withLoftPoison v).pending = s.pending := rfl
@[simp] theorem State.withLoftPoison_now (s : State) (v : List Nat) : (s.withLoftPoison v).now = s.now := rfl
@[simp] theorem State.withLoftPoison_freeCtr (s : State) (v : List Nat) : (s.withLoftPoison v).freeCtr = s.freeCtr := rfl
@[simp] theorem State.withLoftPoison_out (s : State) (v : List Nat) : (s.withLoftPoison v).out = s.out := rfl
@[simp] theorem State.withLoftPoison_regs (s : State) (v : List Nat) : (s.withLoftPoison v).regs = s.regs := rfl
@[simp] theorem State.withLoftPoison_wings (s : State) (v : List Nat) : (s.withLoftPoison v).wings = s.wings := rfl
@[simp] theorem State.withLoftPoison_loft (s : State) (v : List Nat) : (s.withLoftPoison v).loft = s.loft := rfl
@[simp] theorem State.withLoftPoison_loftPoison (s : State) (v : List Nat) : (s.withLoftPoison v).loftPoison = v := rfl
@[simp] theorem State.withLoftPoison_win (s : State) (v : List Nat) : (s.withLoftPoison v).win = s.win := rfl
@[simp] theorem State.withLoftPoison_job (s : State) (v : List Nat) : (s.withLoftPoison v).job = s.job := rfl
@[simp] theorem State.withLoftPoison_net (s : State) (v : List Nat) : (s.withLoftPoison v).net = s.net := rfl
@[simp] theorem State.withLoftPoison_cue (s : State) (v : List Nat) : (s.withLoftPoison v).cue = s.cue := rfl
@[simp] theorem State.withLoftPoison_pow (s : State) (v : List Nat) : (s.withLoftPoison v).pow = s.pow := rfl
@[simp] theorem State.withLoftPoison_rack (s : State) (v : List Nat) : (s.withLoftPoison v).rack = s.rack := rfl
theorem State.putLatches_eq (s : State) (k : Nat) (v : Latch) : s.putLatches k v = s.withLatches (mset {} s.win.latches k v) := rfl
@[simp] theorem State.withLatches_pending (s : State) (v : List (Nat × Latch)) : (s.withLatches v).pending = s.pending := rfl
@[simp] theorem State.withLatches_now (s : State) (v : List (Nat × Latch)) : (s.withLatches v).now = s.now := rfl
@[simp] theorem State.withLatches_freeCtr (s : State) (v : List (Nat × Latch)) : (s.withLatches v).freeCtr = s.freeCtr := rfl
@[simp] theorem State.withLatches_out (s : State) (v : List (Nat × Latch)) : (s.withLatches v).out = s.out := rfl
@[simp] theorem State.withLatches_regs (s : State) (v : List (Nat × Latch)) : (s.withLatches v).regs = s.regs := rfl
@[simp] theorem State.withLatches_wings (s : State) (v : List (Nat × Latch)) : (s.withLatches v).wings = s.wings := rfl
@[simp] theorem State.withLatches_loft (s : State) (v : List (Nat × Latch)) : (s.withLatches v).loft = s.loft := rfl
@[simp] theorem State.withLatches_loftPoison (s : State) (v : List (Nat × Latch)) : (s.withLatches v).loftPoison = s.loftPoison := rfl
@[simp] theorem State.withLatches_job (s : State) (v : List (Nat × Latch)) : (s.withLatches v).job = s.job := rfl
@[simp] theorem State.withLatches_net (s : State) (v : List (Nat × Latch)) : (s.withLatches v).net = s.net := rfl
@[simp] theorem State.withLatches_cue (s : State) (v : List (Nat × Latch)) : (s.withLatches v).cue = s.cue := rfl
@[simp] theorem State.withLatches_pow (s : State) (v : List (Nat × Latch)) : (s.withLatches v).pow = s.pow := rfl
@[simp] theorem State.withLatches_rack (s : State) (v : List (Nat × Latch)) : (s.withLatches v).rack = s.rack := rfl
@[simp] theorem State.withLatches_latches (s : State) (v : List (Nat × Latch)) : (s.withLatches v).win.latches = v := rfl
@[simp] theorem State.withLatches_journals (s : State) (v : List (Nat × Latch)) : (s.withLatches v).win.journals = s.win.journals := rfl
@[simp] theorem State.withLatches_atns (s : State) (v : List (Nat × Latch)) : (s.withLatches v).win.atns = s.win.atns := rfl
@[simp] theorem State.withLatches_hifs (s : State) (v : List (Nat × Latch)) : (s.withLatches v).win.hifs = s.win.hifs := rfl
@[simp] theorem State.withLatches_chans (s : State) (v : List (Nat × Latch)) : (s.withLatches v).win.chans = s.win.chans := rfl
@[simp] theorem State.withLatches_clocks (s : State) (v : List (Nat × Latch)) : (s.withLatches v).win.clocks = s.win.clocks := rfl
@[simp] theorem State.withLatches_rmcs (s : State) (v : List (Nat × Latch)) : (s.withLatches v).win.rmcs = s.win.rmcs := rfl
theorem State.putJournals_eq (s : State) (k : Nat) (v : Journal) : s.putJournals k v = s.withJournals (mset {} s.win.journals k v) := rfl
@[simp] theorem State.withJournals_pending (s : State) (v : List (Nat × Journal)) : (s.withJournals v).pending = s.pending := rfl
@[simp] theorem State.withJournals_now (s : State) (v : List (Nat × Journal)) : (s.withJournals v).now = s.now := rfl
@[simp] theorem State.withJournals_freeCtr (s : State) (v : List (Nat × Journal)) : (s.withJournals v).freeCtr = s.freeCtr := rfl
@[simp] theorem State.withJournals_out (s : State) (v : List (Nat × Journal)) : (s.withJournals v).out = s.out := rfl
@[simp] theorem State.withJournals_regs (s : State) (v : List (Nat × Journal)) : (s.withJournals v).regs = s.regs := rfl
@[simp] theorem State.withJournals_wings (s : State) (v : List (Nat × Journal)) : (s.withJournals v).wings = s.wings := rfl
@[simp] theorem State.withJournals_loft (s : State) (v : List (Nat × Journal)) : (s.withJournals v).loft = s.loft := rfl
@[simp] theorem State.withJournals_loftPoison (s : State) (v : List (Nat × Journal)) : (s.withJournals v).loftPoison = s.loftPoison := rfl
@[simp] theorem State.withJournals_job (s : State) (v : List (Nat × Journal)) : (s.withJournals v).job = s.job := rfl
@[simp] theorem State.withJournals_net (s : State) (v : List (Nat × Journal)) : (s.withJournals v).net = s.net := rfl
@[simp] theorem State.withJournals_cue (s : State) (v : List (Nat × Journal)) : (s.withJournals v).cue = s.cue := rfl
@[simp] theorem State.withJournals_pow (s : State) (v : List (Nat × Journal)) : (s.withJournals v).pow = s.pow := rfl
@[simp] theorem State.withJournals_rack (s : State) (v : List (Nat × Journal)) : (s.withJournals v).rack = s.rack := rfl
@[simp] theorem State.withJournals_latches (s : State) (v : List (Nat × Journal)) : (s.withJournals v).win.latches = s.win.latches := rfl
@[simp] theorem State.withJournals_journals (s : State) (v : List (Nat × Journal)) : (s.withJournals v).win.journals = v := rfl
@[simp] theorem State.withJournals_atns (s : State) (v : List (Nat × Journal)) : (s.withJournals v).win.atns = s.win.atns := rfl
@[simp] theorem State.withJournals_hifs (s : State) (v : List (Nat × Journal)) : (s.withJournals v).win.hifs = s.win.hifs := rfl
@[simp] theorem State.withJournals_chans (s : State) (v : List (Nat × Journal)) : (s.withJournals v).win.chans = s.win.chans := rfl
@[simp] theorem State.withJournals_clocks (s : State) (v : List (Nat × Journal)) : (s.withJournals v).win.clocks = s.win.clocks := rfl
@[simp] theorem State.withJournals_rmcs (s : State) (v : List (Nat × Journal)) : (s.withJournals v).win.rmcs = s.win.rmcs := rfl
theorem State.putAtns_eq (s : State) (k : Nat) (v : Atn) : s.putAtns k v = s.withAtns (mset {} s.win.atns k v) := rfl
@[simp] theorem State.withAtns_pending (s : State) (v : List (Nat × Atn)) : (s.withAtns v).pending = s.pending := rfl
@[simp] theorem State.withAtns_now (s : State) (v : List (Nat × Atn)) : (s.withAtns v).now = s.now := rfl
@[simp] theorem State.withAtns_freeCtr (s : State) (v : List (Nat × Atn)) : (s.withAtns v).freeCtr = s.freeCtr := rfl
@[simp] theorem State.withAtns_out (s : State) (v : List (Nat × Atn)) : (s.withAtns v).out = s.out := rfl
@[simp] theorem State.withAtns_regs (s : State) (v : List (Nat × Atn)) : (s.withAtns v).regs = s.regs := rfl
@[simp] theorem State.withAtns_wings (s : State) (v : List (Nat × Atn)) : (s.withAtns v).wings = s.wings := rfl
@[simp] theorem State.withAtns_loft (s : State) (v : List (Nat × Atn)) : (s.withAtns v).loft = s.loft := rfl
@[simp] theorem State.withAtns_loftPoison (s : State) (v : List (Nat × Atn)) : (s.withAtns v).loftPoison = s.loftPoison := rfl
@[simp] theorem State.withAtns_job (s : State) (v : List (Nat × Atn)) : (s.withAtns v).job = s.job := rfl
@[simp] theorem State.withAtns_net (s : State) (v : List (Nat × Atn)) : (s.withAtns v).net = s.net := rfl
@[simp] theorem State.withAtns_cue (s : State) (v : List (Nat × Atn)) : (s.withAtns v).cue = s.cue := rfl
@[simp] theorem State.withAtns_pow (s : State) (v : List (Nat × Atn)) : (s.withAtns v).pow = s.pow := rfl
@[simp] theorem State.withAtns_rack (s : State) (v : List (Nat × Atn)) : (s.withAtns v).rack = s.rack := rfl
@[simp] theorem State.withAtns_latches (s : State) (v : List (Nat × Atn)) : (s.withAtns v).win.latches = s.win.latches := rfl
@[simp] theorem State.withAtns_journals (s : State) (v : List (Nat × Atn)) : (s.withAtns v).win.journals = s.win.journals := rfl
@[simp] theorem State.withAtns_atns (s : State) (v : List (Nat × Atn)) : (s.withAtns v).win.atns = v := rfl
@[simp] theorem State.withAtns_hifs (s : State) (v : List (Nat × Atn)) : (s.withAtns v).win.hifs = s.win.hifs := rfl
@[simp] theorem State.withAtns_chans (s : State) (v : List (Nat × Atn)) : (s.withAtns v).win.chans = s.win.chans := rfl
@[simp] theorem State.withAtns_clocks (s : State) (v : List (Nat × Atn)) : (s.withAtns v).win.clocks = s.win.clocks := rfl
@[simp] theorem State.withAtns_rmcs (s : State) (v : List (Nat × Atn)) : (s.withAtns v).win.rmcs = s.win.rmcs := rfl
theorem State.putHifs_eq (s : State) (k : Nat) (v : Hif) : s.putHifs k v = s.withHifs (mset {} s.win.hifs k v) := rfl
@[simp] theorem State.withHifs_pending (s : State) (v : List (Nat × Hif)) : (s.withHifs v).pending = s.pending := rfl
@[simp] theorem State.withHifs_now (s : State) (v : List (Nat × Hif)) : (s.withHifs v).now = s.now := rfl
@[simp] theorem State.withHifs_freeCtr (s : State) (v : List (Nat × Hif)) : (s.withHifs v).freeCtr = s.freeCtr := rfl
@[simp] theorem State.withHifs_out (s : State) (v : List (Nat × Hif)) : (s.withHifs v).out = s.out := rfl
@[simp] theorem State.withHifs_regs (s : State) (v : List (Nat × Hif)) : (s.withHifs v).regs = s.regs := rfl
@[simp] theorem State.withHifs_wings (s : State) (v : List (Nat × Hif)) : (s.withHifs v).wings = s.wings := rfl
@[simp] theorem State.withHifs_loft (s : State) (v : List (Nat × Hif)) : (s.withHifs v).loft = s.loft := rfl
@[simp] theorem State.withHifs_loftPoison (s : State) (v : List (Nat × Hif)) : (s.withHifs v).loftPoison = s.loftPoison := rfl
@[simp] theorem State.withHifs_job (s : State) (v : List (Nat × Hif)) : (s.withHifs v).job = s.job := rfl
@[simp] theorem State.withHifs_net (s : State) (v : List (Nat × Hif)) : (s.withHifs v).net = s.net := rfl
@[simp] theorem State.withHifs_cue (s : State) (v : List (Nat × Hif)) : (s.withHifs v).cue = s.cue := rfl
@[simp] theorem State.withHifs_pow (s : State) (v : List (Nat × Hif)) : (s.withHifs v).pow = s.pow := rfl
@[simp] theorem State.withHifs_rack (s : State) (v : List (Nat × Hif)) : (s.withHifs v).rack = s.rack := rfl
@[simp] theorem State.withHifs_latches (s : State) (v : List (Nat × Hif)) : (s.withHifs v).win.latches = s.win.latches := rfl
@[simp] theorem State.withHifs_journals (s : State) (v : List (Nat × Hif)) : (s.withHifs v).win.journals = s.win.journals := rfl
@[simp] theorem State.withHifs_atns (s : State) (v : List (Nat × Hif)) : (s.withHifs v).win.atns = s.win.atns := rfl
@[simp] theorem State.withHifs_hifs (s : State) (v : List (Nat × Hif)) : (s.withHifs v).win.hifs = v := rfl
@[simp] theorem State.withHifs_chans (s : State) (v : List (Nat × Hif)) : (s.withHifs v).win.chans = s.win.chans := rfl
@[simp] theorem State.withHifs_clocks (s : State) (v : List (Nat × Hif)) : (s.withHifs v).win.clocks = s.win.clocks := rfl
@[simp] theorem State.withHifs_rmcs (s : State) (v : List (Nat × Hif)) : (s.withHifs v).win.rmcs = s.win.rmcs := rfl
theorem State.putChans_eq (s : State) (k : Nat) (v : Chan) : s.putChans k v = s.withChans (mset {} s.win.chans k v) := rfl
@[simp] theorem State.withChans_pending (s : State) (v : List (Nat × Chan)) : (s.withChans v).pending = s.pending := rfl
@[simp] theorem State.withChans_now (s : State) (v : List (Nat × Chan)) : (s.withChans v).now = s.now := rfl
@[simp] theorem State.withChans_freeCtr (s : State) (v : List (Nat × Chan)) : (s.withChans v).freeCtr = s.freeCtr := rfl
@[simp] theorem State.withChans_out (s : State) (v : List (Nat × Chan)) : (s.withChans v).out = s.out := rfl
@[simp] theorem State.withChans_regs (s : State) (v : List (Nat × Chan)) : (s.withChans v).regs = s.regs := rfl
@[simp] theorem State.withChans_wings (s : State) (v : List (Nat × Chan)) : (s.withChans v).wings = s.wings := rfl
@[simp] theorem State.withChans_loft (s : State) (v : List (Nat × Chan)) : (s.withChans v).loft = s.loft := rfl
@[simp] theorem State.withChans_loftPoison (s : State) (v : List (Nat × Chan)) : (s.withChans v).loftPoison = s.loftPoison := rfl
@[simp] theorem State.withChans_job (s : State) (v : List (Nat × Chan)) : (s.withChans v).job = s.job := rfl
@[simp] theorem State.withChans_net (s : State) (v : List (Nat × Chan)) : (s.withChans v).net = s.net := rfl
@[simp] theorem State.withChans_cue (s : State) (v : List (Nat × Chan)) : (s.withChans v).cue = s.cue := rfl
@[simp] theorem State.withChans_pow (s : State) (v : List (Nat × Chan)) : (s.withChans v).pow = s.pow := rfl
@[simp] theorem State.withChans_rack (s : State) (v : List (Nat × Chan)) : (s.withChans v).rack = s.rack := rfl
@[simp] theorem State.withChans_latches (s : State) (v : List (Nat × Chan)) : (s.withChans v).win.latches = s.win.latches := rfl
@[simp] theorem State.withChans_journals (s : State) (v : List (Nat × Chan)) : (s.withChans v).win.journals = s.win.journals := rfl
@[simp] theorem State.withChans_atns (s : State) (v : List (Nat × Chan)) : (s.withChans v).win.atns = s.win.atns := rfl
@[simp] theorem State.withChans_hifs (s : State) (v : List (Nat × Chan)) : (s.withChans v).win.hifs = s.win.hifs := rfl
@[simp] theorem State.withChans_chans (s : State) (v : List (Nat × Chan)) : (s.withChans v).win.chans = v := rfl
@[simp] theorem State.withChans_clocks (s : State) (v : List (Nat × Chan)) : (s.withChans v).win.clocks = s.win.clocks := rfl
@[simp] theorem State.withChans_rmcs (s : State) (v : List (Nat × Chan)) : (s.withChans v).win.rmcs = s.win.rmcs := rfl
theorem State.putClocks_eq (s : State) (k : Nat) (v : Clock) : s.putClocks k v = s.withClocks (mset {} s.win.clocks k v) := rfl
@[simp] theorem State.withClocks_pending (s : State) (v : List (Nat × Clock)) : (s.withClocks v).pending = s.pending := rfl
@[simp] theorem State.withClocks_now (s : State) (v : List (Nat × Clock)) : (s.withClocks v).now = s.now := rfl
@[simp] theorem State.withClocks_freeCtr (s : State) (v : List (Nat × Clock)) : (s.withClocks v).freeCtr = s.freeCtr := rfl
@[simp] theorem State.withClocks_out (s : State) (v : List (Nat × Clock)) : (s.withClocks v).out = s.out := rfl
@[simp] theorem State.withClocks_regs (s : State) (v : List (Nat × Clock)) : (s.withClocks v).regs = s.regs := rfl
@[simp] theorem State.withClocks_wings (s : State) (v : List (Nat × Clock)) : (s.withClocks v).wings = s.wings := rfl
@[simp] theorem State.withClocks_loft (s : State) (v : List (Nat × Clock)) : (s.withClocks v).loft = s.loft := rfl
@[simp] theorem State.withClocks_loftPoison (s : State) (v : List (Nat × Clock)) : (s.withClocks v).loftPoison = s.loftPoison := rfl
@[simp] theorem State.withClocks_job (s : State) (v : List (Nat × Clock)) : (s.withClocks v).job = s.job := rfl
@[simp] theorem State.withClocks_net (s : State) (v : List (Nat × Clock)) : (s.withClocks v).net = s.net := rfl
@[simp] theorem State.withClocks_cue (s : State) (v : List (Nat × Clock)) : (s.withClocks v).cue = s.cue := rfl
@[simp] theorem State.withClocks_pow (s : State) (v : List (Nat × Clock)) : (s.withClocks v).pow = s.pow := rfl
@[simp] theorem State.withClocks_rack (s : State) (v : List (Nat × Clock)) : (s.withClocks v).rack = s.rack := rfl
@[simp] theorem State.withClocks_latches (s : State) (v : List (Nat × Clock)) : (s.withClocks v).win.latches = s.win.latches := rfl
@[simp] theorem State.withClocks_journals (s : State) (v : List (Nat × Clock)) : (s.withClocks v).win.journals = s.win.journals := rfl
@[simp] theorem State.withClocks_atns (s : State) (v : List (Nat × Clock)) : (s.withClocks v).win.atns = s.win.atns := rfl
@[simp] theorem State.withClocks_hifs (s : State) (v : List (Nat × Clock)) : (s.withClocks v).win.hifs = s.win.hifs := rfl
@[simp] theorem State.withClocks_chans (s : State) (v : List (Nat × Clock)) : (s.withClocks v).win.chans = s.win.chans := rfl
@[simp] theorem State.withClocks_clocks (s : State) (v : List (Nat × Clock)) : (s.withClocks v).win.clocks = v := rfl
@[simp] theorem State.withClocks_rmcs (s : State) (v : List (Nat × Clock)) : (s.withClocks v).win.rmcs = s.win.rmcs := rfl
theorem State.putRmcs_eq (s : State) (k : Nat) (v : Rmc) : s.putRmcs k v = s.withRmcs (mset {} s.win.rmcs k v) := rfl
@[simp] theorem State.withRmcs_pending (s : State) (v : List (Nat × Rmc)) : (s.withRmcs v).pending = s.pending := rfl
@[simp] theorem State.withRmcs_now (s : State) (v : List (Nat × Rmc)) : (s.withRmcs v).now = s.now := rfl
@[simp] theorem State.withRmcs_freeCtr (s : State) (v : List (Nat × Rmc)) : (s.withRmcs v).freeCtr = s.freeCtr := rfl
@[simp] theorem State.withRmcs_out (s : State) (v : List (Nat × Rmc)) : (s.withRmcs v).out = s.out := rfl
@[simp] theorem State.withRmcs_regs (s : State) (v : List (Nat × Rmc)) : (s.withRmcs v).regs = s.regs := rfl
@[simp] theorem State.withRmcs_wings (s : State) (v : List (Nat × Rmc)) : (s.withRmcs v).wings = s.wings := rfl
@[simp] theorem State.withRmcs_loft (s : State) (v : List (Nat × Rmc)) : (s.withRmcs v).loft = s.loft := rfl
@[simp] theorem State.withRmcs_loftPoison (s : State) (v : List (Nat × Rmc)) : (s.withRmcs v).loftPoison = s.loftPoison := rfl
@[simp] theorem State.withRmcs_job (s : State) (v : List (Nat × Rmc)) : (s.withRmcs v).job = s.job := rfl
@[simp] theorem State.withRmcs_net (s : State) (v : List (Nat × Rmc)) : (s.withRmcs v).net = s.net := rfl
@[simp] theorem State.withRmcs_cue (s : State) (v : List (Nat × Rmc)) : (s.withRmcs v).cue = s.cue := rfl
@[simp] theorem State.withRmcs_pow (s : State) (v : List (Nat × Rmc)) : (s.withRmcs v).pow = s.pow := rfl
@[simp] theorem State.withRmcs_rack (s : State) (v : List (Nat × Rmc)) : (s.withRmcs v).rack = s.rack := rfl
@[simp] theorem State.withRmcs_latches (s : State) (v : List (Nat × Rmc)) : (s.withRmcs v).win.latches = s.win.latches := rfl
@[simp] theorem State.withRmcs_journals (s : State) (v : List (Nat × Rmc)) : (s.withRmcs v).win.journals = s.win.journals := rfl
@[simp] theorem State.withRmcs_atns (s : State) (v : List (Nat × Rmc)) : (s.withRmcs v).win.atns = s.win.atns := rfl
@[simp] theorem State.withRmcs_hifs (s : State) (v : List (Nat × Rmc)) : (s.withRmcs v).win.hifs = s.win.hifs := rfl
@[simp] theorem State.withRmcs_chans (s : State) (v : List (Nat × Rmc)) : (s.withRmcs v).win.chans = s.win.chans := rfl
@[simp] theorem State.withRmcs_clocks (s : State) (v : List (Nat × Rmc)) : (s.withRmcs v).win.clocks = s.win.clocks := rfl
@[simp] theorem State.withRmcs_rmcs (s : State) (v : List (Nat × Rmc)) : (s.withRmcs v).win.rmcs = v := rfl
theorem State.putCores_eq (s : State) (k : Nat) (v : Core) : s.putCores k v = s.withCores (mset {} s.job.cores k v) := rfl
@[simp] theorem State.withCores_pending (s : State) (v : List (Nat × Core)) : (s.withCores v).pending = s.pending := rfl
@[simp] theorem State.withCores_now (s : State) (v : List (Nat × Core)) : (s.withCores v).now = s.now := rfl
@[simp] theorem State.withCores_freeCtr (s : State) (v : List (Nat × Core)) : (s.withCores v).freeCtr = s.freeCtr := rfl
@[simp] theorem State.withCores_out (s : State) (v : List (Nat × Core)) : (s.withCores v).out = s.out := rfl
@[simp] theorem State.withCores_regs (s : State) (v : List (Nat × Core)) : (s.withCores v).regs = s.regs := rfl
@[simp] theorem State.withCores_wings (s : State) (v : List (Nat × Core)) : (s.withCores v).wings = s.wings := rfl
@[simp] theorem State.withCores_loft (s : State) (v : List (Nat × Core)) : (s.withCores v).loft = s.loft := rfl
@[simp] theorem State.withCores_loftPoison (s : State) (v : List (Nat × Core)) : (s.withCores v).loftPoison = s.loftPoison := rfl
@[simp] theorem State.withCores_win (s : State) (v : List (Nat × Core)) : (s.withCores v).win = s.win := rfl
@[simp] theorem State.withCores_net (s : State) (v : List (Nat × Core)) : (s.withCores v).net = s.net := rfl
@[simp] theorem State.withCores_cue (s : State) (v : List (Nat × Core)) : (s.withCores v).cue = s.cue := rfl
@[simp] theorem State.withCores_pow (s : State) (v : List (Nat × Core)) : (s.withCores v).pow = s.pow := rfl
@[simp] theorem State.withCores_rack (s : State) (v : List (Nat × Core)) : (s.withCores v).rack = s.rack := rfl
@[simp] theorem State.withCores_cores (s : State) (v : List (Nat × Core)) : (s.withCores v).job.cores = v := rfl
@[simp] theorem State.withCores_parts (s : State) (v : List (Nat × Core)) : (s.withCores v).job.parts = s.job.parts := rfl
@[simp] theorem State.withCores_results (s : State) (v : List (Nat × Core)) : (s.withCores v).job.results = s.job.results := rfl
@[simp] theorem State.withCores_seSlots (s : State) (v : List (Nat × Core)) : (s.withCores v).job.seSlots = s.job.seSlots := rfl
@[simp] theorem State.withCores_semas (s : State) (v : List (Nat × Core)) : (s.withCores v).job.semas = s.job.semas := rfl
theorem State.putParts_eq (s : State) (k : Nat) (v : Part) : s.putParts k v = s.withParts (mset {} s.job.parts k v) := rfl
@[simp] theorem State.withParts_pending (s : State) (v : List (Nat × Part)) : (s.withParts v).pending = s.pending := rfl
@[simp] theorem State.withParts_now (s : State) (v : List (Nat × Part)) : (s.withParts v).now = s.now := rfl
@[simp] theorem State.withParts_freeCtr (s : State) (v : List (Nat × Part)) : (s.withParts v).freeCtr = s.freeCtr := rfl
@[simp] theorem State.withParts_out (s : State) (v : List (Nat × Part)) : (s.withParts v).out = s.out := rfl
@[simp] theorem State.withParts_regs (s : State) (v : List (Nat × Part)) : (s.withParts v).regs = s.regs := rfl
@[simp] theorem State.withParts_wings (s : State) (v : List (Nat × Part)) : (s.withParts v).wings = s.wings := rfl
@[simp] theorem State.withParts_loft (s : State) (v : List (Nat × Part)) : (s.withParts v).loft = s.loft := rfl
@[simp] theorem State.withParts_loftPoison (s : State) (v : List (Nat × Part)) : (s.withParts v).loftPoison = s.loftPoison := rfl
@[simp] theorem State.withParts_win (s : State) (v : List (Nat × Part)) : (s.withParts v).win = s.win := rfl
@[simp] theorem State.withParts_net (s : State) (v : List (Nat × Part)) : (s.withParts v).net = s.net := rfl
@[simp] theorem State.withParts_cue (s : State) (v : List (Nat × Part)) : (s.withParts v).cue = s.cue := rfl
@[simp] theorem State.withParts_pow (s : State) (v : List (Nat × Part)) : (s.withParts v).pow = s.pow := rfl
@[simp] theorem State.withParts_rack (s : State) (v : List (Nat × Part)) : (s.withParts v).rack = s.rack := rfl
@[simp] theorem State.withParts_cores (s : State) (v : List (Nat × Part)) : (s.withParts v).job.cores = s.job.cores := rfl
@[simp] theorem State.withParts_parts (s : State) (v : List (Nat × Part)) : (s.withParts v).job.parts = v := rfl
@[simp] theorem State.withParts_results (s : State) (v : List (Nat × Part)) : (s.withParts v).job.results = s.job.results := rfl
@[simp] theorem State.withParts_seSlots (s : State) (v : List (Nat × Part)) : (s.withParts v).job.seSlots = s.job.seSlots := rfl
@[simp] theorem State.withParts_semas (s : State) (v : List (Nat × Part)) : (s.withParts v).job.semas = s.job.semas := rfl
theorem State.putResults_eq (s : State) (k : Nat) (v : (List (Nat × Nat))) : s.putResults k v = s.withResults (mset [] s.job.results k v) := rfl
@[simp] theorem State.withResults_pending (s : State) (v : List (Nat × List (Nat × Nat))) : (s.withResults v).pending = s.pending := rfl
@[simp] theorem State.withResults_now (s : State) (v : List (Nat × List (Nat × Nat))) : (s.withResults v).now = s.now := rfl
@[simp] theorem State.withResults_freeCtr (s : State) (v : List (Nat × List (Nat × Nat))) : (s.withResults v).freeCtr = s.freeCtr := rfl
@[simp] theorem State.withResults_out (s : State) (v : List (Nat × List (Nat × Nat))) : (s.withResults v).out = s.out := rfl
@[simp] theorem State.withResults_regs (s : State) (v : List (Nat × List (Nat × Nat))) : (s.withResults v).regs = s.regs := rfl
@[simp] theorem State.withResults_wings (s : State) (v : List (Nat × List (Nat × Nat))) : (s.withResults v).wings = s.wings := rfl
@[simp] theorem State.withResults_loft (s : State) (v : List (Nat × List (Nat × Nat))) : (s.withResults v).loft = s.loft := rfl
@[simp] theorem State.withResults_loftPoison (s : State) (v : List (Nat × List (Nat × Nat))) : (s.withResults v).loftPoison = s.loftPoison := rfl
@[simp] theorem State.withResults_win (s : State) (v : List (Nat × List (Nat × Nat))) : (s.withResults v).win = s.win := rfl
@[simp] theorem State.withResults_net (s : State) (v : List (Nat × List (Nat × Nat))) : (s.withResults v).net = s.net := rfl
@[simp] theorem State.withResults_cue (s : State) (v : List (Nat × List (Nat × Nat))) : (s.withResults v).cue = s.cue := rfl
@[simp] theorem State.withResults_pow (s : State) (v : List (Nat × List (Nat × Nat))) : (s.withResults v).pow = s.pow := rfl
@[simp] theorem State.withResults_rack (s : State) (v : List (Nat × List (Nat × Nat))) : (s.withResults v).rack = s.rack := rfl
@[simp] theorem State.withResults_cores (s : State) (v : List (Nat × List (Nat × Nat))) : (s.withResults v).job.cores = s.job.cores := rfl
@[simp] theorem State.withResults_parts (s : State) (v : List (Nat × List (Nat × Nat))) : (s.withResults v).job.parts = s.job.parts := rfl
@[simp] theorem State.withResults_results (s : State) (v : List (Nat × List (Nat × Nat))) : (s.withResults v).job.results = v := rfl
@[simp] theorem State.withResults_seSlots (s : State) (v : List (Nat × List (Nat × Nat))) : (s.withResults v).job.seSlots = s.job.seSlots := rfl
@[simp] theorem State.withResults_semas (s : State) (v : List (Nat × List (Nat × Nat))) : (s.withResults v).job.semas = s.job.semas := rfl
theorem State.putSeSlots_eq (s : State) (k : Nat) (v : SeSlot) : s.putSeSlots k v = s.withSeSlots (mset {} s.job.seSlots k v) := rfl
@[simp] theorem State.withSeSlots_pending (s : State) (v : List (Nat × SeSlot)) : (s.withSeSlots v).pending = s.pending := rfl
@[simp] theorem State.withSeSlots_now (s : State) (v : List (Nat × SeSlot)) : (s.withSeSlots v).now = s.now := rfl
@[simp] theorem State.withSeSlots_freeCtr (s : State) (v : List (Nat × SeSlot)) : (s.withSeSlots v).freeCtr = s.freeCtr := rfl
@[simp] theorem State.withSeSlots_out (s : State) (v : List (Nat × SeSlot)) : (s.withSeSlots v).out = s.out := rfl
@[simp] theorem State.withSeSlots_regs (s : State) (v : List (Nat × SeSlot)) : (s.withSeSlots v).regs = s.regs := rfl
@[simp] theorem State.withSeSlots_wings (s : State) (v : List (Nat × SeSlot)) : (s.withSeSlots v).wings = s.wings := rfl
@[simp] theorem State.withSeSlots_loft (s : State) (v : List (Nat × SeSlot)) : (s.withSeSlots v).loft = s.loft := rfl
@[simp] theorem State.withSeSlots_loftPoison (s : State) (v : List (Nat × SeSlot)) : (s.withSeSlots v).loftPoison = s.loftPoison := rfl
@[simp] theorem State.withSeSlots_win (s : State) (v : List (Nat × SeSlot)) : (s.withSeSlots v).win = s.win := rfl
@[simp] theorem State.withSeSlots_net (s : State) (v : List (Nat × SeSlot)) : (s.withSeSlots v).net = s.net := rfl
@[simp] theorem State.withSeSlots_cue (s : State) (v : List (Nat × SeSlot)) : (s.withSeSlots v).cue = s.cue := rfl
@[simp] theorem State.withSeSlots_pow (s : State) (v : List (Nat × SeSlot)) : (s.withSeSlots v).pow = s.pow := rfl
@[simp] theorem State.withSeSlots_rack (s : State) (v : List (Nat × SeSlot)) : (s.withSeSlots v).rack = s.rack := rfl
@[simp] theorem State.withSeSlots_cores (s : State) (v : List (Nat × SeSlot)) : (s.withSeSlots v).job.cores = s.job.cores := rfl
@[simp] theorem State.withSeSlots_parts (s : State) (v : List (Nat × SeSlot)) : (s.withSeSlots v).job.parts = s.job.parts := rfl
@[simp] theorem State.withSeSlots_results (s : State) (v : List (Nat × SeSlot)) : (s.withSeSlots v).job.results = s.job.results := rfl
@[simp] theorem State.withSeSlots_seSlots (s : State) (v : List (Nat × SeSlot)) : (s.withSeSlots v).job.seSlots = v := rfl
@[simp] theorem State.withSeSlots_semas (s : State) (v : List (Nat × SeSlot)) : (s.withSeSlots v).job.semas = s.job.semas := rfl
theorem State.putSemas_eq (s : State) (k : Nat) (v : Sema) : s.putSemas k v = s.withSemas (mset {} s.job.semas k v) := rfl
@[simp] theorem State.withSemas_pending (s : State) (v : List (Nat × Sema)) : (s.withSemas v).pending = s.pending := rfl
@[simp] theorem State.withSemas_now (s : State) (v : List (Nat × Sema)) : (s.withSemas v).now = s.now := rfl
@[simp] theorem State.withSemas_freeCtr (s : State) (v : List (Nat × Sema)) : (s.withSemas v).freeCtr = s.freeCtr := rfl
@[simp] theorem State.withSemas_out (s : State) (v : List (Nat × Sema)) : (s.withSemas v).out = s.out := rfl
@[simp] theorem State.withSemas_regs (s : State) (v : List (Nat × Sema)) : (s.withSemas v).regs = s.regs := rfl
@[simp] theorem State.withSemas_wings (s : State) (v : List (Nat × Sema)) : (s.withSemas v).wings = s.wings := rfl
@[simp] theorem State.withSemas_loft (s : State) (v : List (Nat × Sema)) : (s.withSemas v).loft = s.loft := rfl
@[simp] theorem State.withSemas_loftPoison (s : State) (v : List (Nat × Sema)) : (s.withSemas v).loftPoison = s.loftPoison := rfl
@[simp] theorem State.withSemas_win (s : State) (v : List (Nat × Sema)) : (s.withSemas v).win = s.win := rfl
@[simp] theorem State.withSemas_net (s : State) (v : List (Nat × Sema)) : (s.withSemas v).net = s.net := rfl
@[simp] theorem State.withSemas_cue (s : State) (v : List (Nat × Sema)) : (s.withSemas v).cue = s.cue := rfl
@[simp] theorem State.withSemas_pow (s : State) (v : List (Nat × Sema)) : (s.withSemas v).pow = s.pow := rfl
@[simp] theorem State.withSemas_rack (s : State) (v : List (Nat × Sema)) : (s.withSemas v).rack = s.rack := rfl
@[simp] theorem State.withSemas_cores (s : State) (v : List (Nat × Sema)) : (s.withSemas v).job.cores = s.job.cores := rfl
@[simp] theorem State.withSemas_parts (s : State) (v : List (Nat × Sema)) : (s.withSemas v).job.parts = s.job.parts := rfl
@[simp] theorem State.withSemas_results (s : State) (v : List (Nat × Sema)) : (s.withSemas v).job.results = s.job.results := rfl
@[simp] theorem State.withSemas_seSlots (s : State) (v : List (Nat × Sema)) : (s.withSemas v).job.seSlots = s.job.seSlots := rfl
@[simp] theorem State.withSemas_semas (s : State) (v : List (Nat × Sema)) : (s.withSemas v).job.semas = v := rfl
theorem State.putSends_eq (s : State) (k : Nat) (v : SendStream) : s.putSends k v = s.withSends (mset {} s.net.sends k v) := rfl
@[simp] theorem State.withSends_pending (s : State) (v : List (Nat × SendStream)) : (s.withSends v).pending = s.pending := rfl
@[simp] theorem State.withSends_now (s : State) (v : List (Nat × SendStream)) : (s.withSends v).now = s.now := rfl
@[simp] theorem State.withSends_freeCtr (s : State) (v : List (Nat × SendStream)) : (s.withSends v).freeCtr = s.freeCtr := rfl
@[simp] theorem State.withSends_out (s : State) (v : List (Nat × SendStream)) : (s.withSends v).out = s.out := rfl
@[simp] theorem State.withSends_regs (s : State) (v : List (Nat × SendStream)) : (s.withSends v).regs = s.regs := rfl
@[simp] theorem State.withSends_wings (s : State) (v : List (Nat × SendStream)) : (s.withSends v).wings = s.wings := rfl
@[simp] theorem State.withSends_loft (s : State) (v : List (Nat × SendStream)) : (s.withSends v).loft = s.loft := rfl
@[simp] theorem State.withSends_loftPoison (s : State) (v : List (Nat × SendStream)) : (s.withSends v).loftPoison = s.loftPoison := rfl
@[simp] theorem State.withSends_win (s : State) (v : List (Nat × SendStream)) : (s.withSends v).win = s.win := rfl
@[simp] theorem State.withSends_job (s : State) (v : List (Nat × SendStream)) : (s.withSends v).job = s.job := rfl
@[simp] theorem State.withSends_cue (s : State) (v : List (Nat × SendStream)) : (s.withSends v).cue = s.cue := rfl
@[simp] theorem State.withSends_pow (s : State) (v : List (Nat × SendStream)) : (s.withSends v).pow = s.pow := rfl
@[simp] theorem State.withSends_rack (s : State) (v : List (Nat × SendStream)) : (s.withSends v).rack = s.rack := rfl
@[simp] theorem State.withSends_sends (s : State) (v : List (Nat × SendStream)) : (s.withSends v).net.sends = v := rfl
@[simp] theorem State.withSends_recvs (s : State) (v : List (Nat × SendStream)) : (s.withSends v).net.recvs = s.net.recvs := rfl
@[simp] theorem State.withSends_replays (s : State) (v : List (Nat × SendStream)) : (s.withSends v).net.replays = s.net.replays := rfl
@[simp] theorem State.withSends_links (s : State) (v : List (Nat × SendStream)) : (s.withSends v).net.links = s.net.links := rfl
@[simp] theorem State.withSends_arbs (s : State) (v : List (Nat × SendStream)) : (s.withSends v).net.arbs = s.net.arbs := rfl
@[simp] theorem State.withSends_injects (s : State) (v : List (Nat × SendStream)) : (s.withSends v).net.injects = s.net.injects := rfl
@[simp] theorem State.withSends_fabricCredits (s : State) (v : List (Nat × SendStream)) : (s.withSends v).net.fabricCredits = s.net.fabricCredits := rfl
@[simp] theorem State.withSends_groupPtr (s : State) (v : List (Nat × SendStream)) : (s.withSends v).net.groupPtr = s.net.groupPtr := rfl
theorem State.putRecvs_eq (s : State) (k : Nat) (v : RecvStream) : s.putRecvs k v = s.withRecvs (mset {} s.net.recvs k v) := rfl
@[simp] theorem State.withRecvs_pending (s : State) (v : List (Nat × RecvStream)) : (s.withRecvs v).pending = s.pending := rfl
@[simp] theorem State.withRecvs_now (s : State) (v : List (Nat × RecvStream)) : (s.withRecvs v).now = s.now := rfl
@[simp] theorem State.withRecvs_freeCtr (s : State) (v : List (Nat × RecvStream)) : (s.withRecvs v).freeCtr = s.freeCtr := rfl
@[simp] theorem State.withRecvs_out (s : State) (v : List (Nat × RecvStream)) : (s.withRecvs v).out = s.out := rfl
@[simp] theorem State.withRecvs_regs (s : State) (v : List (Nat × RecvStream)) : (s.withRecvs v).regs = s.regs := rfl
@[simp] theorem State.withRecvs_wings (s : State) (v : List (Nat × RecvStream)) : (s.withRecvs v).wings = s.wings := rfl
@[simp] theorem State.withRecvs_loft (s : State) (v : List (Nat × RecvStream)) : (s.withRecvs v).loft = s.loft := rfl
@[simp] theorem State.withRecvs_loftPoison (s : State) (v : List (Nat × RecvStream)) : (s.withRecvs v).loftPoison = s.loftPoison := rfl
@[simp] theorem State.withRecvs_win (s : State) (v : List (Nat × RecvStream)) : (s.withRecvs v).win = s.win := rfl
@[simp] theorem State.withRecvs_job (s : State) (v : List (Nat × RecvStream)) : (s.withRecvs v).job = s.job := rfl
@[simp] theorem State.withRecvs_cue (s : State) (v : List (Nat × RecvStream)) : (s.withRecvs v).cue = s.cue := rfl
@[simp] theorem State.withRecvs_pow (s : State) (v : List (Nat × RecvStream)) : (s.withRecvs v).pow = s.pow := rfl
@[simp] theorem State.withRecvs_rack (s : State) (v : List (Nat × RecvStream)) : (s.withRecvs v).rack = s.rack := rfl
@[simp] theorem State.withRecvs_sends (s : State) (v : List (Nat × RecvStream)) : (s.withRecvs v).net.sends = s.net.sends := rfl
@[simp] theorem State.withRecvs_recvs (s : State) (v : List (Nat × RecvStream)) : (s.withRecvs v).net.recvs = v := rfl
@[simp] theorem State.withRecvs_replays (s : State) (v : List (Nat × RecvStream)) : (s.withRecvs v).net.replays = s.net.replays := rfl
@[simp] theorem State.withRecvs_links (s : State) (v : List (Nat × RecvStream)) : (s.withRecvs v).net.links = s.net.links := rfl
@[simp] theorem State.withRecvs_arbs (s : State) (v : List (Nat × RecvStream)) : (s.withRecvs v).net.arbs = s.net.arbs := rfl
@[simp] theorem State.withRecvs_injects (s : State) (v : List (Nat × RecvStream)) : (s.withRecvs v).net.injects = s.net.injects := rfl
@[simp] theorem State.withRecvs_fabricCredits (s : State) (v : List (Nat × RecvStream)) : (s.withRecvs v).net.fabricCredits = s.net.fabricCredits := rfl
@[simp] theorem State.withRecvs_groupPtr (s : State) (v : List (Nat × RecvStream)) : (s.withRecvs v).net.groupPtr = s.net.groupPtr := rfl
theorem State.putReplays_eq (s : State) (k : Nat) (v : ReplayTable) : s.putReplays k v = s.withReplays (mset {} s.net.replays k v) := rfl
@[simp] theorem State.withReplays_pending (s : State) (v : List (Nat × ReplayTable)) : (s.withReplays v).pending = s.pending := rfl
@[simp] theorem State.withReplays_now (s : State) (v : List (Nat × ReplayTable)) : (s.withReplays v).now = s.now := rfl
@[simp] theorem State.withReplays_freeCtr (s : State) (v : List (Nat × ReplayTable)) : (s.withReplays v).freeCtr = s.freeCtr := rfl
@[simp] theorem State.withReplays_out (s : State) (v : List (Nat × ReplayTable)) : (s.withReplays v).out = s.out := rfl
@[simp] theorem State.withReplays_regs (s : State) (v : List (Nat × ReplayTable)) : (s.withReplays v).regs = s.regs := rfl
@[simp] theorem State.withReplays_wings (s : State) (v : List (Nat × ReplayTable)) : (s.withReplays v).wings = s.wings := rfl
@[simp] theorem State.withReplays_loft (s : State) (v : List (Nat × ReplayTable)) : (s.withReplays v).loft = s.loft := rfl
@[simp] theorem State.withReplays_loftPoison (s : State) (v : List (Nat × ReplayTable)) : (s.withReplays v).loftPoison = s.loftPoison := rfl
@[simp] theorem State.withReplays_win (s : State) (v : List (Nat × ReplayTable)) : (s.withReplays v).win = s.win := rfl
@[simp] theorem State.withReplays_job (s : State) (v : List (Nat × ReplayTable)) : (s.withReplays v).job = s.job := rfl
@[simp] theorem State.withReplays_cue (s : State) (v : List (Nat × ReplayTable)) : (s.withReplays v).cue = s.cue := rfl
@[simp] theorem State.withReplays_pow (s : State) (v : List (Nat × ReplayTable)) : (s.withReplays v).pow = s.pow := rfl
@[simp] theorem State.withReplays_rack (s : State) (v : List (Nat × ReplayTable)) : (s.withReplays v).rack = s.rack := rfl
@[simp] theorem State.withReplays_sends (s : State) (v : List (Nat × ReplayTable)) : (s.withReplays v).net.sends = s.net.sends := rfl
@[simp] theorem State.withReplays_recvs (s : State) (v : List (Nat × ReplayTable)) : (s.withReplays v).net.recvs = s.net.recvs := rfl
@[simp] theorem State.withReplays_replays (s : State) (v : List (Nat × ReplayTable)) : (s.withReplays v).net.replays = v := rfl
@[simp] theorem State.withReplays_links (s : State) (v : List (Nat × ReplayTable)) : (s.withReplays v).net.links = s.net.links := rfl
@[simp] theorem State.withReplays_arbs (s : State) (v : List (Nat × ReplayTable)) : (s.withReplays v).net.arbs = s.net.arbs := rfl
@[simp] theorem State.withReplays_injects (s : State) (v : List (Nat × ReplayTable)) : (s.withReplays v).net.injects = s.net.injects := rfl
@[simp] theorem State.withReplays_fabricCredits (s : State) (v : List (Nat × ReplayTable)) : (s.withReplays v).net.fabricCredits = s.net.fabricCredits := rfl
@[simp] theorem State.withReplays_groupPtr (s : State) (v : List (Nat × ReplayTable)) : (s.withReplays v).net.groupPtr = s.net.groupPtr := rfl
theorem State.putLinks_eq (s : State) (k : Nat) (v : LinkEnd) : s.putLinks k v = s.withLinks (mset {} s.net.links k v) := rfl
@[simp] theorem State.withLinks_pending (s : State) (v : List (Nat × LinkEnd)) : (s.withLinks v).pending = s.pending := rfl
@[simp] theorem State.withLinks_now (s : State) (v : List (Nat × LinkEnd)) : (s.withLinks v).now = s.now := rfl
@[simp] theorem State.withLinks_freeCtr (s : State) (v : List (Nat × LinkEnd)) : (s.withLinks v).freeCtr = s.freeCtr := rfl
@[simp] theorem State.withLinks_out (s : State) (v : List (Nat × LinkEnd)) : (s.withLinks v).out = s.out := rfl
@[simp] theorem State.withLinks_regs (s : State) (v : List (Nat × LinkEnd)) : (s.withLinks v).regs = s.regs := rfl
@[simp] theorem State.withLinks_wings (s : State) (v : List (Nat × LinkEnd)) : (s.withLinks v).wings = s.wings := rfl
@[simp] theorem State.withLinks_loft (s : State) (v : List (Nat × LinkEnd)) : (s.withLinks v).loft = s.loft := rfl
@[simp] theorem State.withLinks_loftPoison (s : State) (v : List (Nat × LinkEnd)) : (s.withLinks v).loftPoison = s.loftPoison := rfl
@[simp] theorem State.withLinks_win (s : State) (v : List (Nat × LinkEnd)) : (s.withLinks v).win = s.win := rfl
@[simp] theorem State.withLinks_job (s : State) (v : List (Nat × LinkEnd)) : (s.withLinks v).job = s.job := rfl
@[simp] theorem State.withLinks_cue (s : State) (v : List (Nat × LinkEnd)) : (s.withLinks v).cue = s.cue := rfl
@[simp] theorem State.withLinks_pow (s : State) (v : List (Nat × LinkEnd)) : (s.withLinks v).pow = s.pow := rfl
@[simp] theorem State.withLinks_rack (s : State) (v : List (Nat × LinkEnd)) : (s.withLinks v).rack = s.rack := rfl
@[simp] theorem State.withLinks_sends (s : State) (v : List (Nat × LinkEnd)) : (s.withLinks v).net.sends = s.net.sends := rfl
@[simp] theorem State.withLinks_recvs (s : State) (v : List (Nat × LinkEnd)) : (s.withLinks v).net.recvs = s.net.recvs := rfl
@[simp] theorem State.withLinks_replays (s : State) (v : List (Nat × LinkEnd)) : (s.withLinks v).net.replays = s.net.replays := rfl
@[simp] theorem State.withLinks_links (s : State) (v : List (Nat × LinkEnd)) : (s.withLinks v).net.links = v := rfl
@[simp] theorem State.withLinks_arbs (s : State) (v : List (Nat × LinkEnd)) : (s.withLinks v).net.arbs = s.net.arbs := rfl
@[simp] theorem State.withLinks_injects (s : State) (v : List (Nat × LinkEnd)) : (s.withLinks v).net.injects = s.net.injects := rfl
@[simp] theorem State.withLinks_fabricCredits (s : State) (v : List (Nat × LinkEnd)) : (s.withLinks v).net.fabricCredits = s.net.fabricCredits := rfl
@[simp] theorem State.withLinks_groupPtr (s : State) (v : List (Nat × LinkEnd)) : (s.withLinks v).net.groupPtr = s.net.groupPtr := rfl
theorem State.putArbs_eq (s : State) (k : Nat) (v : OutArb) : s.putArbs k v = s.withArbs (mset {} s.net.arbs k v) := rfl
@[simp] theorem State.withArbs_pending (s : State) (v : List (Nat × OutArb)) : (s.withArbs v).pending = s.pending := rfl
@[simp] theorem State.withArbs_now (s : State) (v : List (Nat × OutArb)) : (s.withArbs v).now = s.now := rfl
@[simp] theorem State.withArbs_freeCtr (s : State) (v : List (Nat × OutArb)) : (s.withArbs v).freeCtr = s.freeCtr := rfl
@[simp] theorem State.withArbs_out (s : State) (v : List (Nat × OutArb)) : (s.withArbs v).out = s.out := rfl
@[simp] theorem State.withArbs_regs (s : State) (v : List (Nat × OutArb)) : (s.withArbs v).regs = s.regs := rfl
@[simp] theorem State.withArbs_wings (s : State) (v : List (Nat × OutArb)) : (s.withArbs v).wings = s.wings := rfl
@[simp] theorem State.withArbs_loft (s : State) (v : List (Nat × OutArb)) : (s.withArbs v).loft = s.loft := rfl
@[simp] theorem State.withArbs_loftPoison (s : State) (v : List (Nat × OutArb)) : (s.withArbs v).loftPoison = s.loftPoison := rfl
@[simp] theorem State.withArbs_win (s : State) (v : List (Nat × OutArb)) : (s.withArbs v).win = s.win := rfl
@[simp] theorem State.withArbs_job (s : State) (v : List (Nat × OutArb)) : (s.withArbs v).job = s.job := rfl
@[simp] theorem State.withArbs_cue (s : State) (v : List (Nat × OutArb)) : (s.withArbs v).cue = s.cue := rfl
@[simp] theorem State.withArbs_pow (s : State) (v : List (Nat × OutArb)) : (s.withArbs v).pow = s.pow := rfl
@[simp] theorem State.withArbs_rack (s : State) (v : List (Nat × OutArb)) : (s.withArbs v).rack = s.rack := rfl
@[simp] theorem State.withArbs_sends (s : State) (v : List (Nat × OutArb)) : (s.withArbs v).net.sends = s.net.sends := rfl
@[simp] theorem State.withArbs_recvs (s : State) (v : List (Nat × OutArb)) : (s.withArbs v).net.recvs = s.net.recvs := rfl
@[simp] theorem State.withArbs_replays (s : State) (v : List (Nat × OutArb)) : (s.withArbs v).net.replays = s.net.replays := rfl
@[simp] theorem State.withArbs_links (s : State) (v : List (Nat × OutArb)) : (s.withArbs v).net.links = s.net.links := rfl
@[simp] theorem State.withArbs_arbs (s : State) (v : List (Nat × OutArb)) : (s.withArbs v).net.arbs = v := rfl
@[simp] theorem State.withArbs_injects (s : State) (v : List (Nat × OutArb)) : (s.withArbs v).net.injects = s.net.injects := rfl
@[simp] theorem State.withArbs_fabricCredits (s : State) (v : List (Nat × OutArb)) : (s.withArbs v).net.fabricCredits = s.net.fabricCredits := rfl
@[simp] theorem State.withArbs_groupPtr (s : State) (v : List (Nat × OutArb)) : (s.withArbs v).net.groupPtr = s.net.groupPtr := rfl
theorem State.putInjects_eq (s : State) (k : Nat) (v : Inject) : s.putInjects k v = s.withInjects (mset {} s.net.injects k v) := rfl
@[simp] theorem State.withInjects_pending (s : State) (v : List (Nat × Inject)) : (s.withInjects v).pending = s.pending := rfl
@[simp] theorem State.withInjects_now (s : State) (v : List (Nat × Inject)) : (s.withInjects v).now = s.now := rfl
@[simp] theorem State.withInjects_freeCtr (s : State) (v : List (Nat × Inject)) : (s.withInjects v).freeCtr = s.freeCtr := rfl
@[simp] theorem State.withInjects_out (s : State) (v : List (Nat × Inject)) : (s.withInjects v).out = s.out := rfl
@[simp] theorem State.withInjects_regs (s : State) (v : List (Nat × Inject)) : (s.withInjects v).regs = s.regs := rfl
@[simp] theorem State.withInjects_wings (s : State) (v : List (Nat × Inject)) : (s.withInjects v).wings = s.wings := rfl
@[simp] theorem State.withInjects_loft (s : State) (v : List (Nat × Inject)) : (s.withInjects v).loft = s.loft := rfl
@[simp] theorem State.withInjects_loftPoison (s : State) (v : List (Nat × Inject)) : (s.withInjects v).loftPoison = s.loftPoison := rfl
@[simp] theorem State.withInjects_win (s : State) (v : List (Nat × Inject)) : (s.withInjects v).win = s.win := rfl
@[simp] theorem State.withInjects_job (s : State) (v : List (Nat × Inject)) : (s.withInjects v).job = s.job := rfl
@[simp] theorem State.withInjects_cue (s : State) (v : List (Nat × Inject)) : (s.withInjects v).cue = s.cue := rfl
@[simp] theorem State.withInjects_pow (s : State) (v : List (Nat × Inject)) : (s.withInjects v).pow = s.pow := rfl
@[simp] theorem State.withInjects_rack (s : State) (v : List (Nat × Inject)) : (s.withInjects v).rack = s.rack := rfl
@[simp] theorem State.withInjects_sends (s : State) (v : List (Nat × Inject)) : (s.withInjects v).net.sends = s.net.sends := rfl
@[simp] theorem State.withInjects_recvs (s : State) (v : List (Nat × Inject)) : (s.withInjects v).net.recvs = s.net.recvs := rfl
@[simp] theorem State.withInjects_replays (s : State) (v : List (Nat × Inject)) : (s.withInjects v).net.replays = s.net.replays := rfl
@[simp] theorem State.withInjects_links (s : State) (v : List (Nat × Inject)) : (s.withInjects v).net.links = s.net.links := rfl
@[simp] theorem State.withInjects_arbs (s : State) (v : List (Nat × Inject)) : (s.withInjects v).net.arbs = s.net.arbs := rfl
@[simp] theorem State.withInjects_injects (s : State) (v : List (Nat × Inject)) : (s.withInjects v).net.injects = v := rfl
@[simp] theorem State.withInjects_fabricCredits (s : State) (v : List (Nat × Inject)) : (s.withInjects v).net.fabricCredits = s.net.fabricCredits := rfl
@[simp] theorem State.withInjects_groupPtr (s : State) (v : List (Nat × Inject)) : (s.withInjects v).net.groupPtr = s.net.groupPtr := rfl
theorem State.putFabricCredits_eq (s : State) (k : Nat) (v : Nat) : s.putFabricCredits k v = s.withFabricCredits (mset 0 s.net.fabricCredits k v) := rfl
@[simp] theorem State.withFabricCredits_pending (s : State) (v : List (Nat × Nat)) : (s.withFabricCredits v).pending = s.pending := rfl
@[simp] theorem State.withFabricCredits_now (s : State) (v : List (Nat × Nat)) : (s.withFabricCredits v).now = s.now := rfl
@[simp] theorem State.withFabricCredits_freeCtr (s : State) (v : List (Nat × Nat)) : (s.withFabricCredits v).freeCtr = s.freeCtr := rfl
@[simp] theorem State.withFabricCredits_out (s : State) (v : List (Nat × Nat)) : (s.withFabricCredits v).out = s.out := rfl
@[simp] theorem State.withFabricCredits_regs (s : State) (v : List (Nat × Nat)) : (s.withFabricCredits v).regs = s.regs := rfl
@[simp] theorem State.withFabricCredits_wings (s : State) (v : List (Nat × Nat)) : (s.withFabricCredits v).wings = s.wings := rfl
@[simp] theorem State.withFabricCredits_loft (s : State) (v : List (Nat × Nat)) : (s.withFabricCredits v).loft = s.loft := rfl
@[simp] theorem State.withFabricCredits_loftPoison (s : State) (v : List (Nat × Nat)) : (s.withFabricCredits v).loftPoison = s.loftPoison := rfl
@[simp] theorem State.withFabricCredits_win (s : State) (v : List (Nat × Nat)) : (s.withFabricCredits v).win = s.win := rfl
@[simp] theorem State.withFabricCredits_job (s : State) (v : List (Nat × Nat)) : (s.withFabricCredits v).job = s.job := rfl
@[simp] theorem State.withFabricCredits_cue (s : State) (v : List (Nat × Nat)) : (s.withFabricCredits v).cue = s.cue := rfl
@[simp] theorem State.withFabricCredits_pow (s : State) (v : List (Nat × Nat)) : (s.withFabricCredits v).pow = s.pow := rfl
@[simp] theorem State.withFabricCredits_rack (s : State) (v : List (Nat × Nat)) : (s.withFabricCredits v).rack = s.rack := rfl
@[simp] theorem State.withFabricCredits_sends (s : State) (v : List (Nat × Nat)) : (s.withFabricCredits v).net.sends = s.net.sends := rfl
@[simp] theorem State.withFabricCredits_recvs (s : State) (v : List (Nat × Nat)) : (s.withFabricCredits v).net.recvs = s.net.recvs := rfl
@[simp] theorem State.withFabricCredits_replays (s : State) (v : List (Nat × Nat)) : (s.withFabricCredits v).net.replays = s.net.replays := rfl
@[simp] theorem State.withFabricCredits_links (s : State) (v : List (Nat × Nat)) : (s.withFabricCredits v).net.links = s.net.links := rfl
@[simp] theorem State.withFabricCredits_arbs (s : State) (v : List (Nat × Nat)) : (s.withFabricCredits v).net.arbs = s.net.arbs := rfl
@[simp] theorem State.withFabricCredits_injects (s : State) (v : List (Nat × Nat)) : (s.withFabricCredits v).net.injects = s.net.injects := rfl
@[simp] theorem State.withFabricCredits_fabricCredits (s : State) (v : List (Nat × Nat)) : (s.withFabricCredits v).net.fabricCredits = v := rfl
@[simp] theorem State.withFabricCredits_groupPtr (s : State) (v : List (Nat × Nat)) : (s.withFabricCredits v).net.groupPtr = s.net.groupPtr := rfl
theorem State.putGroupPtr_eq (s : State) (k : Nat) (v : Nat) : s.putGroupPtr k v = s.withGroupPtr (mset 0 s.net.groupPtr k v) := rfl
@[simp] theorem State.withGroupPtr_pending (s : State) (v : List (Nat × Nat)) : (s.withGroupPtr v).pending = s.pending := rfl
@[simp] theorem State.withGroupPtr_now (s : State) (v : List (Nat × Nat)) : (s.withGroupPtr v).now = s.now := rfl
@[simp] theorem State.withGroupPtr_freeCtr (s : State) (v : List (Nat × Nat)) : (s.withGroupPtr v).freeCtr = s.freeCtr := rfl
@[simp] theorem State.withGroupPtr_out (s : State) (v : List (Nat × Nat)) : (s.withGroupPtr v).out = s.out := rfl
@[simp] theorem State.withGroupPtr_regs (s : State) (v : List (Nat × Nat)) : (s.withGroupPtr v).regs = s.regs := rfl
@[simp] theorem State.withGroupPtr_wings (s : State) (v : List (Nat × Nat)) : (s.withGroupPtr v).wings = s.wings := rfl
@[simp] theorem State.withGroupPtr_loft (s : State) (v : List (Nat × Nat)) : (s.withGroupPtr v).loft = s.loft := rfl
@[simp] theorem State.withGroupPtr_loftPoison (s : State) (v : List (Nat × Nat)) : (s.withGroupPtr v).loftPoison = s.loftPoison := rfl
@[simp] theorem State.withGroupPtr_win (s : State) (v : List (Nat × Nat)) : (s.withGroupPtr v).win = s.win := rfl
@[simp] theorem State.withGroupPtr_job (s : State) (v : List (Nat × Nat)) : (s.withGroupPtr v).job = s.job := rfl
@[simp] theorem State.withGroupPtr_cue (s : State) (v : List (Nat × Nat)) : (s.withGroupPtr v).cue = s.cue := rfl
@[simp] theorem State.withGroupPtr_pow (s : State) (v : List (Nat × Nat)) : (s.withGroupPtr v).pow = s.pow := rfl
@[simp] theorem State.withGroupPtr_rack (s : State) (v : List (Nat × Nat)) : (s.withGroupPtr v).rack = s.rack := rfl
@[simp] theorem State.withGroupPtr_sends (s : State) (v : List (Nat × Nat)) : (s.withGroupPtr v).net.sends = s.net.sends := rfl
@[simp] theorem State.withGroupPtr_recvs (s : State) (v : List (Nat × Nat)) : (s.withGroupPtr v).net.recvs = s.net.recvs := rfl
@[simp] theorem State.withGroupPtr_replays (s : State) (v : List (Nat × Nat)) : (s.withGroupPtr v).net.replays = s.net.replays := rfl
@[simp] theorem State.withGroupPtr_links (s : State) (v : List (Nat × Nat)) : (s.withGroupPtr v).net.links = s.net.links := rfl
@[simp] theorem State.withGroupPtr_arbs (s : State) (v : List (Nat × Nat)) : (s.withGroupPtr v).net.arbs = s.net.arbs := rfl
@[simp] theorem State.withGroupPtr_injects (s : State) (v : List (Nat × Nat)) : (s.withGroupPtr v).net.injects = s.net.injects := rfl
@[simp] theorem State.withGroupPtr_fabricCredits (s : State) (v : List (Nat × Nat)) : (s.withGroupPtr v).net.fabricCredits = s.net.fabricCredits := rfl
@[simp] theorem State.withGroupPtr_groupPtr (s : State) (v : List (Nat × Nat)) : (s.withGroupPtr v).net.groupPtr = v := rfl
theorem State.putLofts_eq (s : State) (k : Nat) (v : LoftSt) : s.putLofts k v = s.withLofts (mset {} s.cue.lofts k v) := rfl
@[simp] theorem State.withLofts_pending (s : State) (v : List (Nat × LoftSt)) : (s.withLofts v).pending = s.pending := rfl
@[simp] theorem State.withLofts_now (s : State) (v : List (Nat × LoftSt)) : (s.withLofts v).now = s.now := rfl
@[simp] theorem State.withLofts_freeCtr (s : State) (v : List (Nat × LoftSt)) : (s.withLofts v).freeCtr = s.freeCtr := rfl
@[simp] theorem State.withLofts_out (s : State) (v : List (Nat × LoftSt)) : (s.withLofts v).out = s.out := rfl
@[simp] theorem State.withLofts_regs (s : State) (v : List (Nat × LoftSt)) : (s.withLofts v).regs = s.regs := rfl
@[simp] theorem State.withLofts_wings (s : State) (v : List (Nat × LoftSt)) : (s.withLofts v).wings = s.wings := rfl
@[simp] theorem State.withLofts_loft (s : State) (v : List (Nat × LoftSt)) : (s.withLofts v).loft = s.loft := rfl
@[simp] theorem State.withLofts_loftPoison (s : State) (v : List (Nat × LoftSt)) : (s.withLofts v).loftPoison = s.loftPoison := rfl
@[simp] theorem State.withLofts_win (s : State) (v : List (Nat × LoftSt)) : (s.withLofts v).win = s.win := rfl
@[simp] theorem State.withLofts_job (s : State) (v : List (Nat × LoftSt)) : (s.withLofts v).job = s.job := rfl
@[simp] theorem State.withLofts_net (s : State) (v : List (Nat × LoftSt)) : (s.withLofts v).net = s.net := rfl
@[simp] theorem State.withLofts_pow (s : State) (v : List (Nat × LoftSt)) : (s.withLofts v).pow = s.pow := rfl
@[simp] theorem State.withLofts_rack (s : State) (v : List (Nat × LoftSt)) : (s.withLofts v).rack = s.rack := rfl
@[simp] theorem State.withLofts_lofts (s : State) (v : List (Nat × LoftSt)) : (s.withLofts v).cue.lofts = v := rfl
@[simp] theorem State.withLofts_pchs (s : State) (v : List (Nat × LoftSt)) : (s.withLofts v).cue.pchs = s.cue.pchs := rfl
@[simp] theorem State.withLofts_shadows (s : State) (v : List (Nat × LoftSt)) : (s.withLofts v).cue.shadows = s.cue.shadows := rfl
@[simp] theorem State.withLofts_loads (s : State) (v : List (Nat × LoftSt)) : (s.withLofts v).cue.loads = s.cue.loads := rfl
@[simp] theorem State.withLofts_pushes (s : State) (v : List (Nat × LoftSt)) : (s.withLofts v).cue.pushes = s.cue.pushes := rfl
@[simp] theorem State.withLofts_slots (s : State) (v : List (Nat × LoftSt)) : (s.withLofts v).cue.slots = s.cue.slots := rfl
@[simp] theorem State.withLofts_cueUnits (s : State) (v : List (Nat × LoftSt)) : (s.withLofts v).cue.cueUnits = s.cue.cueUnits := rfl
theorem State.putPchs_eq (s : State) (k : Nat) (v : Pch) : s.putPchs k v = s.withPchs (mset {} s.cue.pchs k v) := rfl
@[simp] theorem State.withPchs_pending (s : State) (v : List (Nat × Pch)) : (s.withPchs v).pending = s.pending := rfl
@[simp] theorem State.withPchs_now (s : State) (v : List (Nat × Pch)) : (s.withPchs v).now = s.now := rfl
@[simp] theorem State.withPchs_freeCtr (s : State) (v : List (Nat × Pch)) : (s.withPchs v).freeCtr = s.freeCtr := rfl
@[simp] theorem State.withPchs_out (s : State) (v : List (Nat × Pch)) : (s.withPchs v).out = s.out := rfl
@[simp] theorem State.withPchs_regs (s : State) (v : List (Nat × Pch)) : (s.withPchs v).regs = s.regs := rfl
@[simp] theorem State.withPchs_wings (s : State) (v : List (Nat × Pch)) : (s.withPchs v).wings = s.wings := rfl
@[simp] theorem State.withPchs_loft (s : State) (v : List (Nat × Pch)) : (s.withPchs v).loft = s.loft := rfl
@[simp] theorem State.withPchs_loftPoison (s : State) (v : List (Nat × Pch)) : (s.withPchs v).loftPoison = s.loftPoison := rfl
@[simp] theorem State.withPchs_win (s : State) (v : List (Nat × Pch)) : (s.withPchs v).win = s.win := rfl
@[simp] theorem State.withPchs_job (s : State) (v : List (Nat × Pch)) : (s.withPchs v).job = s.job := rfl
@[simp] theorem State.withPchs_net (s : State) (v : List (Nat × Pch)) : (s.withPchs v).net = s.net := rfl
@[simp] theorem State.withPchs_pow (s : State) (v : List (Nat × Pch)) : (s.withPchs v).pow = s.pow := rfl
@[simp] theorem State.withPchs_rack (s : State) (v : List (Nat × Pch)) : (s.withPchs v).rack = s.rack := rfl
@[simp] theorem State.withPchs_lofts (s : State) (v : List (Nat × Pch)) : (s.withPchs v).cue.lofts = s.cue.lofts := rfl
@[simp] theorem State.withPchs_pchs (s : State) (v : List (Nat × Pch)) : (s.withPchs v).cue.pchs = v := rfl
@[simp] theorem State.withPchs_shadows (s : State) (v : List (Nat × Pch)) : (s.withPchs v).cue.shadows = s.cue.shadows := rfl
@[simp] theorem State.withPchs_loads (s : State) (v : List (Nat × Pch)) : (s.withPchs v).cue.loads = s.cue.loads := rfl
@[simp] theorem State.withPchs_pushes (s : State) (v : List (Nat × Pch)) : (s.withPchs v).cue.pushes = s.cue.pushes := rfl
@[simp] theorem State.withPchs_slots (s : State) (v : List (Nat × Pch)) : (s.withPchs v).cue.slots = s.cue.slots := rfl
@[simp] theorem State.withPchs_cueUnits (s : State) (v : List (Nat × Pch)) : (s.withPchs v).cue.cueUnits = s.cue.cueUnits := rfl
theorem State.putShadows_eq (s : State) (k : Nat) (v : Shadow) : s.putShadows k v = s.withShadows (mset {} s.cue.shadows k v) := rfl
@[simp] theorem State.withShadows_pending (s : State) (v : List (Nat × Shadow)) : (s.withShadows v).pending = s.pending := rfl
@[simp] theorem State.withShadows_now (s : State) (v : List (Nat × Shadow)) : (s.withShadows v).now = s.now := rfl
@[simp] theorem State.withShadows_freeCtr (s : State) (v : List (Nat × Shadow)) : (s.withShadows v).freeCtr = s.freeCtr := rfl
@[simp] theorem State.withShadows_out (s : State) (v : List (Nat × Shadow)) : (s.withShadows v).out = s.out := rfl
@[simp] theorem State.withShadows_regs (s : State) (v : List (Nat × Shadow)) : (s.withShadows v).regs = s.regs := rfl
@[simp] theorem State.withShadows_wings (s : State) (v : List (Nat × Shadow)) : (s.withShadows v).wings = s.wings := rfl
@[simp] theorem State.withShadows_loft (s : State) (v : List (Nat × Shadow)) : (s.withShadows v).loft = s.loft := rfl
@[simp] theorem State.withShadows_loftPoison (s : State) (v : List (Nat × Shadow)) : (s.withShadows v).loftPoison = s.loftPoison := rfl
@[simp] theorem State.withShadows_win (s : State) (v : List (Nat × Shadow)) : (s.withShadows v).win = s.win := rfl
@[simp] theorem State.withShadows_job (s : State) (v : List (Nat × Shadow)) : (s.withShadows v).job = s.job := rfl
@[simp] theorem State.withShadows_net (s : State) (v : List (Nat × Shadow)) : (s.withShadows v).net = s.net := rfl
@[simp] theorem State.withShadows_pow (s : State) (v : List (Nat × Shadow)) : (s.withShadows v).pow = s.pow := rfl
@[simp] theorem State.withShadows_rack (s : State) (v : List (Nat × Shadow)) : (s.withShadows v).rack = s.rack := rfl
@[simp] theorem State.withShadows_lofts (s : State) (v : List (Nat × Shadow)) : (s.withShadows v).cue.lofts = s.cue.lofts := rfl
@[simp] theorem State.withShadows_pchs (s : State) (v : List (Nat × Shadow)) : (s.withShadows v).cue.pchs = s.cue.pchs := rfl
@[simp] theorem State.withShadows_shadows (s : State) (v : List (Nat × Shadow)) : (s.withShadows v).cue.shadows = v := rfl
@[simp] theorem State.withShadows_loads (s : State) (v : List (Nat × Shadow)) : (s.withShadows v).cue.loads = s.cue.loads := rfl
@[simp] theorem State.withShadows_pushes (s : State) (v : List (Nat × Shadow)) : (s.withShadows v).cue.pushes = s.cue.pushes := rfl
@[simp] theorem State.withShadows_slots (s : State) (v : List (Nat × Shadow)) : (s.withShadows v).cue.slots = s.cue.slots := rfl
@[simp] theorem State.withShadows_cueUnits (s : State) (v : List (Nat × Shadow)) : (s.withShadows v).cue.cueUnits = s.cue.cueUnits := rfl
theorem State.putLoads_eq (s : State) (k : Nat) (v : Load) : s.putLoads k v = s.withLoads (mset {} s.cue.loads k v) := rfl
@[simp] theorem State.withLoads_pending (s : State) (v : List (Nat × Load)) : (s.withLoads v).pending = s.pending := rfl
@[simp] theorem State.withLoads_now (s : State) (v : List (Nat × Load)) : (s.withLoads v).now = s.now := rfl
@[simp] theorem State.withLoads_freeCtr (s : State) (v : List (Nat × Load)) : (s.withLoads v).freeCtr = s.freeCtr := rfl
@[simp] theorem State.withLoads_out (s : State) (v : List (Nat × Load)) : (s.withLoads v).out = s.out := rfl
@[simp] theorem State.withLoads_regs (s : State) (v : List (Nat × Load)) : (s.withLoads v).regs = s.regs := rfl
@[simp] theorem State.withLoads_wings (s : State) (v : List (Nat × Load)) : (s.withLoads v).wings = s.wings := rfl
@[simp] theorem State.withLoads_loft (s : State) (v : List (Nat × Load)) : (s.withLoads v).loft = s.loft := rfl
@[simp] theorem State.withLoads_loftPoison (s : State) (v : List (Nat × Load)) : (s.withLoads v).loftPoison = s.loftPoison := rfl
@[simp] theorem State.withLoads_win (s : State) (v : List (Nat × Load)) : (s.withLoads v).win = s.win := rfl
@[simp] theorem State.withLoads_job (s : State) (v : List (Nat × Load)) : (s.withLoads v).job = s.job := rfl
@[simp] theorem State.withLoads_net (s : State) (v : List (Nat × Load)) : (s.withLoads v).net = s.net := rfl
@[simp] theorem State.withLoads_pow (s : State) (v : List (Nat × Load)) : (s.withLoads v).pow = s.pow := rfl
@[simp] theorem State.withLoads_rack (s : State) (v : List (Nat × Load)) : (s.withLoads v).rack = s.rack := rfl
@[simp] theorem State.withLoads_lofts (s : State) (v : List (Nat × Load)) : (s.withLoads v).cue.lofts = s.cue.lofts := rfl
@[simp] theorem State.withLoads_pchs (s : State) (v : List (Nat × Load)) : (s.withLoads v).cue.pchs = s.cue.pchs := rfl
@[simp] theorem State.withLoads_shadows (s : State) (v : List (Nat × Load)) : (s.withLoads v).cue.shadows = s.cue.shadows := rfl
@[simp] theorem State.withLoads_loads (s : State) (v : List (Nat × Load)) : (s.withLoads v).cue.loads = v := rfl
@[simp] theorem State.withLoads_pushes (s : State) (v : List (Nat × Load)) : (s.withLoads v).cue.pushes = s.cue.pushes := rfl
@[simp] theorem State.withLoads_slots (s : State) (v : List (Nat × Load)) : (s.withLoads v).cue.slots = s.cue.slots := rfl
@[simp] theorem State.withLoads_cueUnits (s : State) (v : List (Nat × Load)) : (s.withLoads v).cue.cueUnits = s.cue.cueUnits := rfl
theorem State.putPushes_eq (s : State) (k : Nat) (v : Push) : s.putPushes k v = s.withPushes (mset {} s.cue.pushes k v) := rfl
@[simp] theorem State.withPushes_pending (s : State) (v : List (Nat × Push)) : (s.withPushes v).pending = s.pending := rfl
@[simp] theorem State.withPushes_now (s : State) (v : List (Nat × Push)) : (s.withPushes v).now = s.now := rfl
@[simp] theorem State.withPushes_freeCtr (s : State) (v : List (Nat × Push)) : (s.withPushes v).freeCtr = s.freeCtr := rfl
@[simp] theorem State.withPushes_out (s : State) (v : List (Nat × Push)) : (s.withPushes v).out = s.out := rfl
@[simp] theorem State.withPushes_regs (s : State) (v : List (Nat × Push)) : (s.withPushes v).regs = s.regs := rfl
@[simp] theorem State.withPushes_wings (s : State) (v : List (Nat × Push)) : (s.withPushes v).wings = s.wings := rfl
@[simp] theorem State.withPushes_loft (s : State) (v : List (Nat × Push)) : (s.withPushes v).loft = s.loft := rfl
@[simp] theorem State.withPushes_loftPoison (s : State) (v : List (Nat × Push)) : (s.withPushes v).loftPoison = s.loftPoison := rfl
@[simp] theorem State.withPushes_win (s : State) (v : List (Nat × Push)) : (s.withPushes v).win = s.win := rfl
@[simp] theorem State.withPushes_job (s : State) (v : List (Nat × Push)) : (s.withPushes v).job = s.job := rfl
@[simp] theorem State.withPushes_net (s : State) (v : List (Nat × Push)) : (s.withPushes v).net = s.net := rfl
@[simp] theorem State.withPushes_pow (s : State) (v : List (Nat × Push)) : (s.withPushes v).pow = s.pow := rfl
@[simp] theorem State.withPushes_rack (s : State) (v : List (Nat × Push)) : (s.withPushes v).rack = s.rack := rfl
@[simp] theorem State.withPushes_lofts (s : State) (v : List (Nat × Push)) : (s.withPushes v).cue.lofts = s.cue.lofts := rfl
@[simp] theorem State.withPushes_pchs (s : State) (v : List (Nat × Push)) : (s.withPushes v).cue.pchs = s.cue.pchs := rfl
@[simp] theorem State.withPushes_shadows (s : State) (v : List (Nat × Push)) : (s.withPushes v).cue.shadows = s.cue.shadows := rfl
@[simp] theorem State.withPushes_loads (s : State) (v : List (Nat × Push)) : (s.withPushes v).cue.loads = s.cue.loads := rfl
@[simp] theorem State.withPushes_pushes (s : State) (v : List (Nat × Push)) : (s.withPushes v).cue.pushes = v := rfl
@[simp] theorem State.withPushes_slots (s : State) (v : List (Nat × Push)) : (s.withPushes v).cue.slots = s.cue.slots := rfl
@[simp] theorem State.withPushes_cueUnits (s : State) (v : List (Nat × Push)) : (s.withPushes v).cue.cueUnits = s.cue.cueUnits := rfl
theorem State.putSlots_eq (s : State) (k : Nat) (v : CueSlot) : s.putSlots k v = s.withSlots (mset {} s.cue.slots k v) := rfl
@[simp] theorem State.withSlots_pending (s : State) (v : List (Nat × CueSlot)) : (s.withSlots v).pending = s.pending := rfl
@[simp] theorem State.withSlots_now (s : State) (v : List (Nat × CueSlot)) : (s.withSlots v).now = s.now := rfl
@[simp] theorem State.withSlots_freeCtr (s : State) (v : List (Nat × CueSlot)) : (s.withSlots v).freeCtr = s.freeCtr := rfl
@[simp] theorem State.withSlots_out (s : State) (v : List (Nat × CueSlot)) : (s.withSlots v).out = s.out := rfl
@[simp] theorem State.withSlots_regs (s : State) (v : List (Nat × CueSlot)) : (s.withSlots v).regs = s.regs := rfl
@[simp] theorem State.withSlots_wings (s : State) (v : List (Nat × CueSlot)) : (s.withSlots v).wings = s.wings := rfl
@[simp] theorem State.withSlots_loft (s : State) (v : List (Nat × CueSlot)) : (s.withSlots v).loft = s.loft := rfl
@[simp] theorem State.withSlots_loftPoison (s : State) (v : List (Nat × CueSlot)) : (s.withSlots v).loftPoison = s.loftPoison := rfl
@[simp] theorem State.withSlots_win (s : State) (v : List (Nat × CueSlot)) : (s.withSlots v).win = s.win := rfl
@[simp] theorem State.withSlots_job (s : State) (v : List (Nat × CueSlot)) : (s.withSlots v).job = s.job := rfl
@[simp] theorem State.withSlots_net (s : State) (v : List (Nat × CueSlot)) : (s.withSlots v).net = s.net := rfl
@[simp] theorem State.withSlots_pow (s : State) (v : List (Nat × CueSlot)) : (s.withSlots v).pow = s.pow := rfl
@[simp] theorem State.withSlots_rack (s : State) (v : List (Nat × CueSlot)) : (s.withSlots v).rack = s.rack := rfl
@[simp] theorem State.withSlots_lofts (s : State) (v : List (Nat × CueSlot)) : (s.withSlots v).cue.lofts = s.cue.lofts := rfl
@[simp] theorem State.withSlots_pchs (s : State) (v : List (Nat × CueSlot)) : (s.withSlots v).cue.pchs = s.cue.pchs := rfl
@[simp] theorem State.withSlots_shadows (s : State) (v : List (Nat × CueSlot)) : (s.withSlots v).cue.shadows = s.cue.shadows := rfl
@[simp] theorem State.withSlots_loads (s : State) (v : List (Nat × CueSlot)) : (s.withSlots v).cue.loads = s.cue.loads := rfl
@[simp] theorem State.withSlots_pushes (s : State) (v : List (Nat × CueSlot)) : (s.withSlots v).cue.pushes = s.cue.pushes := rfl
@[simp] theorem State.withSlots_slots (s : State) (v : List (Nat × CueSlot)) : (s.withSlots v).cue.slots = v := rfl
@[simp] theorem State.withSlots_cueUnits (s : State) (v : List (Nat × CueSlot)) : (s.withSlots v).cue.cueUnits = s.cue.cueUnits := rfl
theorem State.putCueUnits_eq (s : State) (k : Nat) (v : CueUnit) : s.putCueUnits k v = s.withCueUnits (mset {} s.cue.cueUnits k v) := rfl
@[simp] theorem State.withCueUnits_pending (s : State) (v : List (Nat × CueUnit)) : (s.withCueUnits v).pending = s.pending := rfl
@[simp] theorem State.withCueUnits_now (s : State) (v : List (Nat × CueUnit)) : (s.withCueUnits v).now = s.now := rfl
@[simp] theorem State.withCueUnits_freeCtr (s : State) (v : List (Nat × CueUnit)) : (s.withCueUnits v).freeCtr = s.freeCtr := rfl
@[simp] theorem State.withCueUnits_out (s : State) (v : List (Nat × CueUnit)) : (s.withCueUnits v).out = s.out := rfl
@[simp] theorem State.withCueUnits_regs (s : State) (v : List (Nat × CueUnit)) : (s.withCueUnits v).regs = s.regs := rfl
@[simp] theorem State.withCueUnits_wings (s : State) (v : List (Nat × CueUnit)) : (s.withCueUnits v).wings = s.wings := rfl
@[simp] theorem State.withCueUnits_loft (s : State) (v : List (Nat × CueUnit)) : (s.withCueUnits v).loft = s.loft := rfl
@[simp] theorem State.withCueUnits_loftPoison (s : State) (v : List (Nat × CueUnit)) : (s.withCueUnits v).loftPoison = s.loftPoison := rfl
@[simp] theorem State.withCueUnits_win (s : State) (v : List (Nat × CueUnit)) : (s.withCueUnits v).win = s.win := rfl
@[simp] theorem State.withCueUnits_job (s : State) (v : List (Nat × CueUnit)) : (s.withCueUnits v).job = s.job := rfl
@[simp] theorem State.withCueUnits_net (s : State) (v : List (Nat × CueUnit)) : (s.withCueUnits v).net = s.net := rfl
@[simp] theorem State.withCueUnits_pow (s : State) (v : List (Nat × CueUnit)) : (s.withCueUnits v).pow = s.pow := rfl
@[simp] theorem State.withCueUnits_rack (s : State) (v : List (Nat × CueUnit)) : (s.withCueUnits v).rack = s.rack := rfl
@[simp] theorem State.withCueUnits_lofts (s : State) (v : List (Nat × CueUnit)) : (s.withCueUnits v).cue.lofts = s.cue.lofts := rfl
@[simp] theorem State.withCueUnits_pchs (s : State) (v : List (Nat × CueUnit)) : (s.withCueUnits v).cue.pchs = s.cue.pchs := rfl
@[simp] theorem State.withCueUnits_shadows (s : State) (v : List (Nat × CueUnit)) : (s.withCueUnits v).cue.shadows = s.cue.shadows := rfl
@[simp] theorem State.withCueUnits_loads (s : State) (v : List (Nat × CueUnit)) : (s.withCueUnits v).cue.loads = s.cue.loads := rfl
@[simp] theorem State.withCueUnits_pushes (s : State) (v : List (Nat × CueUnit)) : (s.withCueUnits v).cue.pushes = s.cue.pushes := rfl
@[simp] theorem State.withCueUnits_slots (s : State) (v : List (Nat × CueUnit)) : (s.withCueUnits v).cue.slots = s.cue.slots := rfl
@[simp] theorem State.withCueUnits_cueUnits (s : State) (v : List (Nat × CueUnit)) : (s.withCueUnits v).cue.cueUnits = v := rfl
theorem State.putParks_eq (s : State) (k : Nat) (v : ParkQ) : s.putParks k v = s.withParks (mset {} s.pow.parks k v) := rfl
@[simp] theorem State.withParks_pending (s : State) (v : List (Nat × ParkQ)) : (s.withParks v).pending = s.pending := rfl
@[simp] theorem State.withParks_now (s : State) (v : List (Nat × ParkQ)) : (s.withParks v).now = s.now := rfl
@[simp] theorem State.withParks_freeCtr (s : State) (v : List (Nat × ParkQ)) : (s.withParks v).freeCtr = s.freeCtr := rfl
@[simp] theorem State.withParks_out (s : State) (v : List (Nat × ParkQ)) : (s.withParks v).out = s.out := rfl
@[simp] theorem State.withParks_regs (s : State) (v : List (Nat × ParkQ)) : (s.withParks v).regs = s.regs := rfl
@[simp] theorem State.withParks_wings (s : State) (v : List (Nat × ParkQ)) : (s.withParks v).wings = s.wings := rfl
@[simp] theorem State.withParks_loft (s : State) (v : List (Nat × ParkQ)) : (s.withParks v).loft = s.loft := rfl
@[simp] theorem State.withParks_loftPoison (s : State) (v : List (Nat × ParkQ)) : (s.withParks v).loftPoison = s.loftPoison := rfl
@[simp] theorem State.withParks_win (s : State) (v : List (Nat × ParkQ)) : (s.withParks v).win = s.win := rfl
@[simp] theorem State.withParks_job (s : State) (v : List (Nat × ParkQ)) : (s.withParks v).job = s.job := rfl
@[simp] theorem State.withParks_net (s : State) (v : List (Nat × ParkQ)) : (s.withParks v).net = s.net := rfl
@[simp] theorem State.withParks_cue (s : State) (v : List (Nat × ParkQ)) : (s.withParks v).cue = s.cue := rfl
@[simp] theorem State.withParks_rack (s : State) (v : List (Nat × ParkQ)) : (s.withParks v).rack = s.rack := rfl
@[simp] theorem State.withParks_parks (s : State) (v : List (Nat × ParkQ)) : (s.withParks v).pow.parks = v := rfl
@[simp] theorem State.withParks_doms (s : State) (v : List (Nat × ParkQ)) : (s.withParks v).pow.doms = s.pow.doms := rfl
@[simp] theorem State.withParks_ledgers (s : State) (v : List (Nat × ParkQ)) : (s.withParks v).pow.ledgers = s.pow.ledgers := rfl
@[simp] theorem State.withParks_bups (s : State) (v : List (Nat × ParkQ)) : (s.withParks v).pow.bups = s.pow.bups := rfl
@[simp] theorem State.withParks_meters (s : State) (v : List (Nat × ParkQ)) : (s.withParks v).pow.meters = s.pow.meters := rfl
@[simp] theorem State.withParks_ageMons (s : State) (v : List (Nat × ParkQ)) : (s.withParks v).pow.ageMons = s.pow.ageMons := rfl
@[simp] theorem State.withParks_ageQs (s : State) (v : List (Nat × ParkQ)) : (s.withParks v).pow.ageQs = s.pow.ageQs := rfl
@[simp] theorem State.withParks_thermChs (s : State) (v : List (Nat × ParkQ)) : (s.withParks v).pow.thermChs = s.pow.thermChs := rfl
@[simp] theorem State.withParks_warming (s : State) (v : List (Nat × ParkQ)) : (s.withParks v).pow.warming = s.pow.warming := rfl
theorem State.putDoms_eq (s : State) (k : Nat) (v : DomX) : s.putDoms k v = s.withDoms (mset {} s.pow.doms k v) := rfl
@[simp] theorem State.withDoms_pending (s : State) (v : List (Nat × DomX)) : (s.withDoms v).pending = s.pending := rfl
@[simp] theorem State.withDoms_now (s : State) (v : List (Nat × DomX)) : (s.withDoms v).now = s.now := rfl
@[simp] theorem State.withDoms_freeCtr (s : State) (v : List (Nat × DomX)) : (s.withDoms v).freeCtr = s.freeCtr := rfl
@[simp] theorem State.withDoms_out (s : State) (v : List (Nat × DomX)) : (s.withDoms v).out = s.out := rfl
@[simp] theorem State.withDoms_regs (s : State) (v : List (Nat × DomX)) : (s.withDoms v).regs = s.regs := rfl
@[simp] theorem State.withDoms_wings (s : State) (v : List (Nat × DomX)) : (s.withDoms v).wings = s.wings := rfl
@[simp] theorem State.withDoms_loft (s : State) (v : List (Nat × DomX)) : (s.withDoms v).loft = s.loft := rfl
@[simp] theorem State.withDoms_loftPoison (s : State) (v : List (Nat × DomX)) : (s.withDoms v).loftPoison = s.loftPoison := rfl
@[simp] theorem State.withDoms_win (s : State) (v : List (Nat × DomX)) : (s.withDoms v).win = s.win := rfl
@[simp] theorem State.withDoms_job (s : State) (v : List (Nat × DomX)) : (s.withDoms v).job = s.job := rfl
@[simp] theorem State.withDoms_net (s : State) (v : List (Nat × DomX)) : (s.withDoms v).net = s.net := rfl
@[simp] theorem State.withDoms_cue (s : State) (v : List (Nat × DomX)) : (s.withDoms v).cue = s.cue := rfl
@[simp] theorem State.withDoms_rack (s : State) (v : List (Nat × DomX)) : (s.withDoms v).rack = s.rack := rfl
@[simp] theorem State.withDoms_parks (s : State) (v : List (Nat × DomX)) : (s.withDoms v).pow.parks = s.pow.parks := rfl
@[simp] theorem State.withDoms_doms (s : State) (v : List (Nat × DomX)) : (s.withDoms v).pow.doms = v := rfl
@[simp] theorem State.withDoms_ledgers (s : State) (v : List (Nat × DomX)) : (s.withDoms v).pow.ledgers = s.pow.ledgers := rfl
@[simp] theorem State.withDoms_bups (s : State) (v : List (Nat × DomX)) : (s.withDoms v).pow.bups = s.pow.bups := rfl
@[simp] theorem State.withDoms_meters (s : State) (v : List (Nat × DomX)) : (s.withDoms v).pow.meters = s.pow.meters := rfl
@[simp] theorem State.withDoms_ageMons (s : State) (v : List (Nat × DomX)) : (s.withDoms v).pow.ageMons = s.pow.ageMons := rfl
@[simp] theorem State.withDoms_ageQs (s : State) (v : List (Nat × DomX)) : (s.withDoms v).pow.ageQs = s.pow.ageQs := rfl
@[simp] theorem State.withDoms_thermChs (s : State) (v : List (Nat × DomX)) : (s.withDoms v).pow.thermChs = s.pow.thermChs := rfl
@[simp] theorem State.withDoms_warming (s : State) (v : List (Nat × DomX)) : (s.withDoms v).pow.warming = s.pow.warming := rfl
theorem State.putLedgers_eq (s : State) (k : Nat) (v : Ledger) : s.putLedgers k v = s.withLedgers (mset {} s.pow.ledgers k v) := rfl
@[simp] theorem State.withLedgers_pending (s : State) (v : List (Nat × Ledger)) : (s.withLedgers v).pending = s.pending := rfl
@[simp] theorem State.withLedgers_now (s : State) (v : List (Nat × Ledger)) : (s.withLedgers v).now = s.now := rfl
@[simp] theorem State.withLedgers_freeCtr (s : State) (v : List (Nat × Ledger)) : (s.withLedgers v).freeCtr = s.freeCtr := rfl
@[simp] theorem State.withLedgers_out (s : State) (v : List (Nat × Ledger)) : (s.withLedgers v).out = s.out := rfl
@[simp] theorem State.withLedgers_regs (s : State) (v : List (Nat × Ledger)) : (s.withLedgers v).regs = s.regs := rfl
@[simp] theorem State.withLedgers_wings (s : State) (v : List (Nat × Ledger)) : (s.withLedgers v).wings = s.wings := rfl
@[simp] theorem State.withLedgers_loft (s : State) (v : List (Nat × Ledger)) : (s.withLedgers v).loft = s.loft := rfl
@[simp] theorem State.withLedgers_loftPoison (s : State) (v : List (Nat × Ledger)) : (s.withLedgers v).loftPoison = s.loftPoison := rfl
@[simp] theorem State.withLedgers_win (s : State) (v : List (Nat × Ledger)) : (s.withLedgers v).win = s.win := rfl
@[simp] theorem State.withLedgers_job (s : State) (v : List (Nat × Ledger)) : (s.withLedgers v).job = s.job := rfl
@[simp] theorem State.withLedgers_net (s : State) (v : List (Nat × Ledger)) : (s.withLedgers v).net = s.net := rfl
@[simp] theorem State.withLedgers_cue (s : State) (v : List (Nat × Ledger)) : (s.withLedgers v).cue = s.cue := rfl
@[simp] theorem State.withLedgers_rack (s : State) (v : List (Nat × Ledger)) : (s.withLedgers v).rack = s.rack := rfl
@[simp] theorem State.withLedgers_parks (s : State) (v : List (Nat × Ledger)) : (s.withLedgers v).pow.parks = s.pow.parks := rfl
@[simp] theorem State.withLedgers_doms (s : State) (v : List (Nat × Ledger)) : (s.withLedgers v).pow.doms = s.pow.doms := rfl
@[simp] theorem State.withLedgers_ledgers (s : State) (v : List (Nat × Ledger)) : (s.withLedgers v).pow.ledgers = v := rfl
@[simp] theorem State.withLedgers_bups (s : State) (v : List (Nat × Ledger)) : (s.withLedgers v).pow.bups = s.pow.bups := rfl
@[simp] theorem State.withLedgers_meters (s : State) (v : List (Nat × Ledger)) : (s.withLedgers v).pow.meters = s.pow.meters := rfl
@[simp] theorem State.withLedgers_ageMons (s : State) (v : List (Nat × Ledger)) : (s.withLedgers v).pow.ageMons = s.pow.ageMons := rfl
@[simp] theorem State.withLedgers_ageQs (s : State) (v : List (Nat × Ledger)) : (s.withLedgers v).pow.ageQs = s.pow.ageQs := rfl
@[simp] theorem State.withLedgers_thermChs (s : State) (v : List (Nat × Ledger)) : (s.withLedgers v).pow.thermChs = s.pow.thermChs := rfl
@[simp] theorem State.withLedgers_warming (s : State) (v : List (Nat × Ledger)) : (s.withLedgers v).pow.warming = s.pow.warming := rfl
theorem State.putBups_eq (s : State) (k : Nat) (v : Bup) : s.putBups k v = s.withBups (mset {} s.pow.bups k v) := rfl
@[simp] theorem State.withBups_pending (s : State) (v : List (Nat × Bup)) : (s.withBups v).pending = s.pending := rfl
@[simp] theorem State.withBups_now (s : State) (v : List (Nat × Bup)) : (s.withBups v).now = s.now := rfl
@[simp] theorem State.withBups_freeCtr (s : State) (v : List (Nat × Bup)) : (s.withBups v).freeCtr = s.freeCtr := rfl
@[simp] theorem State.withBups_out (s : State) (v : List (Nat × Bup)) : (s.withBups v).out = s.out := rfl
@[simp] theorem State.withBups_regs (s : State) (v : List (Nat × Bup)) : (s.withBups v).regs = s.regs := rfl
@[simp] theorem State.withBups_wings (s : State) (v : List (Nat × Bup)) : (s.withBups v).wings = s.wings := rfl
@[simp] theorem State.withBups_loft (s : State) (v : List (Nat × Bup)) : (s.withBups v).loft = s.loft := rfl
@[simp] theorem State.withBups_loftPoison (s : State) (v : List (Nat × Bup)) : (s.withBups v).loftPoison = s.loftPoison := rfl
@[simp] theorem State.withBups_win (s : State) (v : List (Nat × Bup)) : (s.withBups v).win = s.win := rfl
@[simp] theorem State.withBups_job (s : State) (v : List (Nat × Bup)) : (s.withBups v).job = s.job := rfl
@[simp] theorem State.withBups_net (s : State) (v : List (Nat × Bup)) : (s.withBups v).net = s.net := rfl
@[simp] theorem State.withBups_cue (s : State) (v : List (Nat × Bup)) : (s.withBups v).cue = s.cue := rfl
@[simp] theorem State.withBups_rack (s : State) (v : List (Nat × Bup)) : (s.withBups v).rack = s.rack := rfl
@[simp] theorem State.withBups_parks (s : State) (v : List (Nat × Bup)) : (s.withBups v).pow.parks = s.pow.parks := rfl
@[simp] theorem State.withBups_doms (s : State) (v : List (Nat × Bup)) : (s.withBups v).pow.doms = s.pow.doms := rfl
@[simp] theorem State.withBups_ledgers (s : State) (v : List (Nat × Bup)) : (s.withBups v).pow.ledgers = s.pow.ledgers := rfl
@[simp] theorem State.withBups_bups (s : State) (v : List (Nat × Bup)) : (s.withBups v).pow.bups = v := rfl
@[simp] theorem State.withBups_meters (s : State) (v : List (Nat × Bup)) : (s.withBups v).pow.meters = s.pow.meters := rfl
@[simp] theorem State.withBups_ageMons (s : State) (v : List (Nat × Bup)) : (s.withBups v).pow.ageMons = s.pow.ageMons := rfl
@[simp] theorem State.withBups_ageQs (s : State) (v : List (Nat × Bup)) : (s.withBups v).pow.ageQs = s.pow.ageQs := rfl
@[simp] theorem State.withBups_thermChs (s : State) (v : List (Nat × Bup)) : (s.withBups v).pow.thermChs = s.pow.thermChs := rfl
@[simp] theorem State.withBups_warming (s : State) (v : List (Nat × Bup)) : (s.withBups v).pow.warming = s.pow.warming := rfl
theorem State.putMeters_eq (s : State) (k : Nat) (v : Meter) : s.putMeters k v = s.withMeters (mset {} s.pow.meters k v) := rfl
@[simp] theorem State.withMeters_pending (s : State) (v : List (Nat × Meter)) : (s.withMeters v).pending = s.pending := rfl
@[simp] theorem State.withMeters_now (s : State) (v : List (Nat × Meter)) : (s.withMeters v).now = s.now := rfl
@[simp] theorem State.withMeters_freeCtr (s : State) (v : List (Nat × Meter)) : (s.withMeters v).freeCtr = s.freeCtr := rfl
@[simp] theorem State.withMeters_out (s : State) (v : List (Nat × Meter)) : (s.withMeters v).out = s.out := rfl
@[simp] theorem State.withMeters_regs (s : State) (v : List (Nat × Meter)) : (s.withMeters v).regs = s.regs := rfl
@[simp] theorem State.withMeters_wings (s : State) (v : List (Nat × Meter)) : (s.withMeters v).wings = s.wings := rfl
@[simp] theorem State.withMeters_loft (s : State) (v : List (Nat × Meter)) : (s.withMeters v).loft = s.loft := rfl
@[simp] theorem State.withMeters_loftPoison (s : State) (v : List (Nat × Meter)) : (s.withMeters v).loftPoison = s.loftPoison := rfl
@[simp] theorem State.withMeters_win (s : State) (v : List (Nat × Meter)) : (s.withMeters v).win = s.win := rfl
@[simp] theorem State.withMeters_job (s : State) (v : List (Nat × Meter)) : (s.withMeters v).job = s.job := rfl
@[simp] theorem State.withMeters_net (s : State) (v : List (Nat × Meter)) : (s.withMeters v).net = s.net := rfl
@[simp] theorem State.withMeters_cue (s : State) (v : List (Nat × Meter)) : (s.withMeters v).cue = s.cue := rfl
@[simp] theorem State.withMeters_rack (s : State) (v : List (Nat × Meter)) : (s.withMeters v).rack = s.rack := rfl
@[simp] theorem State.withMeters_parks (s : State) (v : List (Nat × Meter)) : (s.withMeters v).pow.parks = s.pow.parks := rfl
@[simp] theorem State.withMeters_doms (s : State) (v : List (Nat × Meter)) : (s.withMeters v).pow.doms = s.pow.doms := rfl
@[simp] theorem State.withMeters_ledgers (s : State) (v : List (Nat × Meter)) : (s.withMeters v).pow.ledgers = s.pow.ledgers := rfl
@[simp] theorem State.withMeters_bups (s : State) (v : List (Nat × Meter)) : (s.withMeters v).pow.bups = s.pow.bups := rfl
@[simp] theorem State.withMeters_meters (s : State) (v : List (Nat × Meter)) : (s.withMeters v).pow.meters = v := rfl
@[simp] theorem State.withMeters_ageMons (s : State) (v : List (Nat × Meter)) : (s.withMeters v).pow.ageMons = s.pow.ageMons := rfl
@[simp] theorem State.withMeters_ageQs (s : State) (v : List (Nat × Meter)) : (s.withMeters v).pow.ageQs = s.pow.ageQs := rfl
@[simp] theorem State.withMeters_thermChs (s : State) (v : List (Nat × Meter)) : (s.withMeters v).pow.thermChs = s.pow.thermChs := rfl
@[simp] theorem State.withMeters_warming (s : State) (v : List (Nat × Meter)) : (s.withMeters v).pow.warming = s.pow.warming := rfl
theorem State.putAgeMons_eq (s : State) (k : Nat) (v : AgeMon) : s.putAgeMons k v = s.withAgeMons (mset {} s.pow.ageMons k v) := rfl
@[simp] theorem State.withAgeMons_pending (s : State) (v : List (Nat × AgeMon)) : (s.withAgeMons v).pending = s.pending := rfl
@[simp] theorem State.withAgeMons_now (s : State) (v : List (Nat × AgeMon)) : (s.withAgeMons v).now = s.now := rfl
@[simp] theorem State.withAgeMons_freeCtr (s : State) (v : List (Nat × AgeMon)) : (s.withAgeMons v).freeCtr = s.freeCtr := rfl
@[simp] theorem State.withAgeMons_out (s : State) (v : List (Nat × AgeMon)) : (s.withAgeMons v).out = s.out := rfl
@[simp] theorem State.withAgeMons_regs (s : State) (v : List (Nat × AgeMon)) : (s.withAgeMons v).regs = s.regs := rfl
@[simp] theorem State.withAgeMons_wings (s : State) (v : List (Nat × AgeMon)) : (s.withAgeMons v).wings = s.wings := rfl
@[simp] theorem State.withAgeMons_loft (s : State) (v : List (Nat × AgeMon)) : (s.withAgeMons v).loft = s.loft := rfl
@[simp] theorem State.withAgeMons_loftPoison (s : State) (v : List (Nat × AgeMon)) : (s.withAgeMons v).loftPoison = s.loftPoison := rfl
@[simp] theorem State.withAgeMons_win (s : State) (v : List (Nat × AgeMon)) : (s.withAgeMons v).win = s.win := rfl
@[simp] theorem State.withAgeMons_job (s : State) (v : List (Nat × AgeMon)) : (s.withAgeMons v).job = s.job := rfl
@[simp] theorem State.withAgeMons_net (s : State) (v : List (Nat × AgeMon)) : (s.withAgeMons v).net = s.net := rfl
@[simp] theorem State.withAgeMons_cue (s : State) (v : List (Nat × AgeMon)) : (s.withAgeMons v).cue = s.cue := rfl
@[simp] theorem State.withAgeMons_rack (s : State) (v : List (Nat × AgeMon)) : (s.withAgeMons v).rack = s.rack := rfl
@[simp] theorem State.withAgeMons_parks (s : State) (v : List (Nat × AgeMon)) : (s.withAgeMons v).pow.parks = s.pow.parks := rfl
@[simp] theorem State.withAgeMons_doms (s : State) (v : List (Nat × AgeMon)) : (s.withAgeMons v).pow.doms = s.pow.doms := rfl
@[simp] theorem State.withAgeMons_ledgers (s : State) (v : List (Nat × AgeMon)) : (s.withAgeMons v).pow.ledgers = s.pow.ledgers := rfl
@[simp] theorem State.withAgeMons_bups (s : State) (v : List (Nat × AgeMon)) : (s.withAgeMons v).pow.bups = s.pow.bups := rfl
@[simp] theorem State.withAgeMons_meters (s : State) (v : List (Nat × AgeMon)) : (s.withAgeMons v).pow.meters = s.pow.meters := rfl
@[simp] theorem State.withAgeMons_ageMons (s : State) (v : List (Nat × AgeMon)) : (s.withAgeMons v).pow.ageMons = v := rfl
@[simp] theorem State.withAgeMons_ageQs (s : State) (v : List (Nat × AgeMon)) : (s.withAgeMons v).pow.ageQs = s.pow.ageQs := rfl
@[simp] theorem State.withAgeMons_thermChs (s : State) (v : List (Nat × AgeMon)) : (s.withAgeMons v).pow.thermChs = s.pow.thermChs := rfl
@[simp] theorem State.withAgeMons_warming (s : State) (v : List (Nat × AgeMon)) : (s.withAgeMons v).pow.warming = s.pow.warming := rfl
theorem State.putAgeQs_eq (s : State) (k : Nat) (v : AgeQ) : s.putAgeQs k v = s.withAgeQs (mset {} s.pow.ageQs k v) := rfl
@[simp] theorem State.withAgeQs_pending (s : State) (v : List (Nat × AgeQ)) : (s.withAgeQs v).pending = s.pending := rfl
@[simp] theorem State.withAgeQs_now (s : State) (v : List (Nat × AgeQ)) : (s.withAgeQs v).now = s.now := rfl
@[simp] theorem State.withAgeQs_freeCtr (s : State) (v : List (Nat × AgeQ)) : (s.withAgeQs v).freeCtr = s.freeCtr := rfl
@[simp] theorem State.withAgeQs_out (s : State) (v : List (Nat × AgeQ)) : (s.withAgeQs v).out = s.out := rfl
@[simp] theorem State.withAgeQs_regs (s : State) (v : List (Nat × AgeQ)) : (s.withAgeQs v).regs = s.regs := rfl
@[simp] theorem State.withAgeQs_wings (s : State) (v : List (Nat × AgeQ)) : (s.withAgeQs v).wings = s.wings := rfl
@[simp] theorem State.withAgeQs_loft (s : State) (v : List (Nat × AgeQ)) : (s.withAgeQs v).loft = s.loft := rfl
@[simp] theorem State.withAgeQs_loftPoison (s : State) (v : List (Nat × AgeQ)) : (s.withAgeQs v).loftPoison = s.loftPoison := rfl
@[simp] theorem State.withAgeQs_win (s : State) (v : List (Nat × AgeQ)) : (s.withAgeQs v).win = s.win := rfl
@[simp] theorem State.withAgeQs_job (s : State) (v : List (Nat × AgeQ)) : (s.withAgeQs v).job = s.job := rfl
@[simp] theorem State.withAgeQs_net (s : State) (v : List (Nat × AgeQ)) : (s.withAgeQs v).net = s.net := rfl
@[simp] theorem State.withAgeQs_cue (s : State) (v : List (Nat × AgeQ)) : (s.withAgeQs v).cue = s.cue := rfl
@[simp] theorem State.withAgeQs_rack (s : State) (v : List (Nat × AgeQ)) : (s.withAgeQs v).rack = s.rack := rfl
@[simp] theorem State.withAgeQs_parks (s : State) (v : List (Nat × AgeQ)) : (s.withAgeQs v).pow.parks = s.pow.parks := rfl
@[simp] theorem State.withAgeQs_doms (s : State) (v : List (Nat × AgeQ)) : (s.withAgeQs v).pow.doms = s.pow.doms := rfl
@[simp] theorem State.withAgeQs_ledgers (s : State) (v : List (Nat × AgeQ)) : (s.withAgeQs v).pow.ledgers = s.pow.ledgers := rfl
@[simp] theorem State.withAgeQs_bups (s : State) (v : List (Nat × AgeQ)) : (s.withAgeQs v).pow.bups = s.pow.bups := rfl
@[simp] theorem State.withAgeQs_meters (s : State) (v : List (Nat × AgeQ)) : (s.withAgeQs v).pow.meters = s.pow.meters := rfl
@[simp] theorem State.withAgeQs_ageMons (s : State) (v : List (Nat × AgeQ)) : (s.withAgeQs v).pow.ageMons = s.pow.ageMons := rfl
@[simp] theorem State.withAgeQs_ageQs (s : State) (v : List (Nat × AgeQ)) : (s.withAgeQs v).pow.ageQs = v := rfl
@[simp] theorem State.withAgeQs_thermChs (s : State) (v : List (Nat × AgeQ)) : (s.withAgeQs v).pow.thermChs = s.pow.thermChs := rfl
@[simp] theorem State.withAgeQs_warming (s : State) (v : List (Nat × AgeQ)) : (s.withAgeQs v).pow.warming = s.pow.warming := rfl
theorem State.putThermChs_eq (s : State) (k : Nat) (v : ThermCh) : s.putThermChs k v = s.withThermChs (mset {} s.pow.thermChs k v) := rfl
@[simp] theorem State.withThermChs_pending (s : State) (v : List (Nat × ThermCh)) : (s.withThermChs v).pending = s.pending := rfl
@[simp] theorem State.withThermChs_now (s : State) (v : List (Nat × ThermCh)) : (s.withThermChs v).now = s.now := rfl
@[simp] theorem State.withThermChs_freeCtr (s : State) (v : List (Nat × ThermCh)) : (s.withThermChs v).freeCtr = s.freeCtr := rfl
@[simp] theorem State.withThermChs_out (s : State) (v : List (Nat × ThermCh)) : (s.withThermChs v).out = s.out := rfl
@[simp] theorem State.withThermChs_regs (s : State) (v : List (Nat × ThermCh)) : (s.withThermChs v).regs = s.regs := rfl
@[simp] theorem State.withThermChs_wings (s : State) (v : List (Nat × ThermCh)) : (s.withThermChs v).wings = s.wings := rfl
@[simp] theorem State.withThermChs_loft (s : State) (v : List (Nat × ThermCh)) : (s.withThermChs v).loft = s.loft := rfl
@[simp] theorem State.withThermChs_loftPoison (s : State) (v : List (Nat × ThermCh)) : (s.withThermChs v).loftPoison = s.loftPoison := rfl
@[simp] theorem State.withThermChs_win (s : State) (v : List (Nat × ThermCh)) : (s.withThermChs v).win = s.win := rfl
@[simp] theorem State.withThermChs_job (s : State) (v : List (Nat × ThermCh)) : (s.withThermChs v).job = s.job := rfl
@[simp] theorem State.withThermChs_net (s : State) (v : List (Nat × ThermCh)) : (s.withThermChs v).net = s.net := rfl
@[simp] theorem State.withThermChs_cue (s : State) (v : List (Nat × ThermCh)) : (s.withThermChs v).cue = s.cue := rfl
@[simp] theorem State.withThermChs_rack (s : State) (v : List (Nat × ThermCh)) : (s.withThermChs v).rack = s.rack := rfl
@[simp] theorem State.withThermChs_parks (s : State) (v : List (Nat × ThermCh)) : (s.withThermChs v).pow.parks = s.pow.parks := rfl
@[simp] theorem State.withThermChs_doms (s : State) (v : List (Nat × ThermCh)) : (s.withThermChs v).pow.doms = s.pow.doms := rfl
@[simp] theorem State.withThermChs_ledgers (s : State) (v : List (Nat × ThermCh)) : (s.withThermChs v).pow.ledgers = s.pow.ledgers := rfl
@[simp] theorem State.withThermChs_bups (s : State) (v : List (Nat × ThermCh)) : (s.withThermChs v).pow.bups = s.pow.bups := rfl
@[simp] theorem State.withThermChs_meters (s : State) (v : List (Nat × ThermCh)) : (s.withThermChs v).pow.meters = s.pow.meters := rfl
@[simp] theorem State.withThermChs_ageMons (s : State) (v : List (Nat × ThermCh)) : (s.withThermChs v).pow.ageMons = s.pow.ageMons := rfl
@[simp] theorem State.withThermChs_ageQs (s : State) (v : List (Nat × ThermCh)) : (s.withThermChs v).pow.ageQs = s.pow.ageQs := rfl
@[simp] theorem State.withThermChs_thermChs (s : State) (v : List (Nat × ThermCh)) : (s.withThermChs v).pow.thermChs = v := rfl
@[simp] theorem State.withThermChs_warming (s : State) (v : List (Nat × ThermCh)) : (s.withThermChs v).pow.warming = s.pow.warming := rfl
theorem State.putWarming_eq (s : State) (k : Nat) (v : (List Nat)) : s.putWarming k v = s.withWarming (mset [] s.pow.warming k v) := rfl
@[simp] theorem State.withWarming_pending (s : State) (v : List (Nat × List Nat)) : (s.withWarming v).pending = s.pending := rfl
@[simp] theorem State.withWarming_now (s : State) (v : List (Nat × List Nat)) : (s.withWarming v).now = s.now := rfl
@[simp] theorem State.withWarming_freeCtr (s : State) (v : List (Nat × List Nat)) : (s.withWarming v).freeCtr = s.freeCtr := rfl
@[simp] theorem State.withWarming_out (s : State) (v : List (Nat × List Nat)) : (s.withWarming v).out = s.out := rfl
@[simp] theorem State.withWarming_regs (s : State) (v : List (Nat × List Nat)) : (s.withWarming v).regs = s.regs := rfl
@[simp] theorem State.withWarming_wings (s : State) (v : List (Nat × List Nat)) : (s.withWarming v).wings = s.wings := rfl
@[simp] theorem State.withWarming_loft (s : State) (v : List (Nat × List Nat)) : (s.withWarming v).loft = s.loft := rfl
@[simp] theorem State.withWarming_loftPoison (s : State) (v : List (Nat × List Nat)) : (s.withWarming v).loftPoison = s.loftPoison := rfl
@[simp] theorem State.withWarming_win (s : State) (v : List (Nat × List Nat)) : (s.withWarming v).win = s.win := rfl
@[simp] theorem State.withWarming_job (s : State) (v : List (Nat × List Nat)) : (s.withWarming v).job = s.job := rfl
@[simp] theorem State.withWarming_net (s : State) (v : List (Nat × List Nat)) : (s.withWarming v).net = s.net := rfl
@[simp] theorem State.withWarming_cue (s : State) (v : List (Nat × List Nat)) : (s.withWarming v).cue = s.cue := rfl
@[simp] theorem State.withWarming_rack (s : State) (v : List (Nat × List Nat)) : (s.withWarming v).rack = s.rack := rfl
@[simp] theorem State.withWarming_parks (s : State) (v : List (Nat × List Nat)) : (s.withWarming v).pow.parks = s.pow.parks := rfl
@[simp] theorem State.withWarming_doms (s : State) (v : List (Nat × List Nat)) : (s.withWarming v).pow.doms = s.pow.doms := rfl
@[simp] theorem State.withWarming_ledgers (s : State) (v : List (Nat × List Nat)) : (s.withWarming v).pow.ledgers = s.pow.ledgers := rfl
@[simp] theorem State.withWarming_bups (s : State) (v : List (Nat × List Nat)) : (s.withWarming v).pow.bups = s.pow.bups := rfl
@[simp] theorem State.withWarming_meters (s : State) (v : List (Nat × List Nat)) : (s.withWarming v).pow.meters = s.pow.meters := rfl
@[simp] theorem State.withWarming_ageMons (s : State) (v : List (Nat × List Nat)) : (s.withWarming v).pow.ageMons = s.pow.ageMons := rfl
@[simp] theorem State.withWarming_ageQs (s : State) (v : List (Nat × List Nat)) : (s.withWarming v).pow.ageQs = s.pow.ageQs := rfl
@[simp] theorem State.withWarming_thermChs (s : State) (v : List (Nat × List Nat)) : (s.withWarming v).pow.thermChs = s.pow.thermChs := rfl
@[simp] theorem State.withWarming_warming (s : State) (v : List (Nat × List Nat)) : (s.withWarming v).pow.warming = v := rfl
theorem State.putWafers_eq (s : State) (k : Nat) (v : Wafer) : s.putWafers k v = s.withWafers (mset {} s.rack.wafers k v) := rfl
@[simp] theorem State.withWafers_pending (s : State) (v : List (Nat × Wafer)) : (s.withWafers v).pending = s.pending := rfl
@[simp] theorem State.withWafers_now (s : State) (v : List (Nat × Wafer)) : (s.withWafers v).now = s.now := rfl
@[simp] theorem State.withWafers_freeCtr (s : State) (v : List (Nat × Wafer)) : (s.withWafers v).freeCtr = s.freeCtr := rfl
@[simp] theorem State.withWafers_out (s : State) (v : List (Nat × Wafer)) : (s.withWafers v).out = s.out := rfl
@[simp] theorem State.withWafers_regs (s : State) (v : List (Nat × Wafer)) : (s.withWafers v).regs = s.regs := rfl
@[simp] theorem State.withWafers_wings (s : State) (v : List (Nat × Wafer)) : (s.withWafers v).wings = s.wings := rfl
@[simp] theorem State.withWafers_loft (s : State) (v : List (Nat × Wafer)) : (s.withWafers v).loft = s.loft := rfl
@[simp] theorem State.withWafers_loftPoison (s : State) (v : List (Nat × Wafer)) : (s.withWafers v).loftPoison = s.loftPoison := rfl
@[simp] theorem State.withWafers_win (s : State) (v : List (Nat × Wafer)) : (s.withWafers v).win = s.win := rfl
@[simp] theorem State.withWafers_job (s : State) (v : List (Nat × Wafer)) : (s.withWafers v).job = s.job := rfl
@[simp] theorem State.withWafers_net (s : State) (v : List (Nat × Wafer)) : (s.withWafers v).net = s.net := rfl
@[simp] theorem State.withWafers_cue (s : State) (v : List (Nat × Wafer)) : (s.withWafers v).cue = s.cue := rfl
@[simp] theorem State.withWafers_pow (s : State) (v : List (Nat × Wafer)) : (s.withWafers v).pow = s.pow := rfl
@[simp] theorem State.withWafers_wafers (s : State) (v : List (Nat × Wafer)) : (s.withWafers v).rack.wafers = v := rfl
@[simp] theorem State.withWafers_tmcs (s : State) (v : List (Nat × Wafer)) : (s.withWafers v).rack.tmcs = s.rack.tmcs := rfl
@[simp] theorem State.withWafers_acts (s : State) (v : List (Nat × Wafer)) : (s.withWafers v).rack.acts = s.rack.acts := rfl
@[simp] theorem State.withWafers_fws (s : State) (v : List (Nat × Wafer)) : (s.withWafers v).rack.fws = s.rack.fws := rfl
@[simp] theorem State.withWafers_spots (s : State) (v : List (Nat × Wafer)) : (s.withWafers v).rack.spots = s.rack.spots := rfl
@[simp] theorem State.withWafers_twis (s : State) (v : List (Nat × Wafer)) : (s.withWafers v).rack.twis = s.rack.twis := rfl
@[simp] theorem State.withWafers_tafKept (s : State) (v : List (Nat × Wafer)) : (s.withWafers v).rack.tafKept = s.rack.tafKept := rfl
@[simp] theorem State.withWafers_etags (s : State) (v : List (Nat × Wafer)) : (s.withWafers v).rack.etags = s.rack.etags := rfl
@[simp] theorem State.withWafers_plans (s : State) (v : List (Nat × Wafer)) : (s.withWafers v).rack.plans = s.rack.plans := rfl
@[simp] theorem State.withWafers_shelves (s : State) (v : List (Nat × Wafer)) : (s.withWafers v).rack.shelves = s.rack.shelves := rfl
@[simp] theorem State.withWafers_planner (s : State) (v : List (Nat × Wafer)) : (s.withWafers v).rack.planner = s.rack.planner := rfl
theorem State.putTmcs_eq (s : State) (k : Nat) (v : Tmc) : s.putTmcs k v = s.withTmcs (mset {} s.rack.tmcs k v) := rfl
@[simp] theorem State.withTmcs_pending (s : State) (v : List (Nat × Tmc)) : (s.withTmcs v).pending = s.pending := rfl
@[simp] theorem State.withTmcs_now (s : State) (v : List (Nat × Tmc)) : (s.withTmcs v).now = s.now := rfl
@[simp] theorem State.withTmcs_freeCtr (s : State) (v : List (Nat × Tmc)) : (s.withTmcs v).freeCtr = s.freeCtr := rfl
@[simp] theorem State.withTmcs_out (s : State) (v : List (Nat × Tmc)) : (s.withTmcs v).out = s.out := rfl
@[simp] theorem State.withTmcs_regs (s : State) (v : List (Nat × Tmc)) : (s.withTmcs v).regs = s.regs := rfl
@[simp] theorem State.withTmcs_wings (s : State) (v : List (Nat × Tmc)) : (s.withTmcs v).wings = s.wings := rfl
@[simp] theorem State.withTmcs_loft (s : State) (v : List (Nat × Tmc)) : (s.withTmcs v).loft = s.loft := rfl
@[simp] theorem State.withTmcs_loftPoison (s : State) (v : List (Nat × Tmc)) : (s.withTmcs v).loftPoison = s.loftPoison := rfl
@[simp] theorem State.withTmcs_win (s : State) (v : List (Nat × Tmc)) : (s.withTmcs v).win = s.win := rfl
@[simp] theorem State.withTmcs_job (s : State) (v : List (Nat × Tmc)) : (s.withTmcs v).job = s.job := rfl
@[simp] theorem State.withTmcs_net (s : State) (v : List (Nat × Tmc)) : (s.withTmcs v).net = s.net := rfl
@[simp] theorem State.withTmcs_cue (s : State) (v : List (Nat × Tmc)) : (s.withTmcs v).cue = s.cue := rfl
@[simp] theorem State.withTmcs_pow (s : State) (v : List (Nat × Tmc)) : (s.withTmcs v).pow = s.pow := rfl
@[simp] theorem State.withTmcs_wafers (s : State) (v : List (Nat × Tmc)) : (s.withTmcs v).rack.wafers = s.rack.wafers := rfl
@[simp] theorem State.withTmcs_tmcs (s : State) (v : List (Nat × Tmc)) : (s.withTmcs v).rack.tmcs = v := rfl
@[simp] theorem State.withTmcs_acts (s : State) (v : List (Nat × Tmc)) : (s.withTmcs v).rack.acts = s.rack.acts := rfl
@[simp] theorem State.withTmcs_fws (s : State) (v : List (Nat × Tmc)) : (s.withTmcs v).rack.fws = s.rack.fws := rfl
@[simp] theorem State.withTmcs_spots (s : State) (v : List (Nat × Tmc)) : (s.withTmcs v).rack.spots = s.rack.spots := rfl
@[simp] theorem State.withTmcs_twis (s : State) (v : List (Nat × Tmc)) : (s.withTmcs v).rack.twis = s.rack.twis := rfl
@[simp] theorem State.withTmcs_tafKept (s : State) (v : List (Nat × Tmc)) : (s.withTmcs v).rack.tafKept = s.rack.tafKept := rfl
@[simp] theorem State.withTmcs_etags (s : State) (v : List (Nat × Tmc)) : (s.withTmcs v).rack.etags = s.rack.etags := rfl
@[simp] theorem State.withTmcs_plans (s : State) (v : List (Nat × Tmc)) : (s.withTmcs v).rack.plans = s.rack.plans := rfl
@[simp] theorem State.withTmcs_shelves (s : State) (v : List (Nat × Tmc)) : (s.withTmcs v).rack.shelves = s.rack.shelves := rfl
@[simp] theorem State.withTmcs_planner (s : State) (v : List (Nat × Tmc)) : (s.withTmcs v).rack.planner = s.rack.planner := rfl
theorem State.putActs_eq (s : State) (k : Nat) (v : Act) : s.putActs k v = s.withActs (mset {} s.rack.acts k v) := rfl
@[simp] theorem State.withActs_pending (s : State) (v : List (Nat × Act)) : (s.withActs v).pending = s.pending := rfl
@[simp] theorem State.withActs_now (s : State) (v : List (Nat × Act)) : (s.withActs v).now = s.now := rfl
@[simp] theorem State.withActs_freeCtr (s : State) (v : List (Nat × Act)) : (s.withActs v).freeCtr = s.freeCtr := rfl
@[simp] theorem State.withActs_out (s : State) (v : List (Nat × Act)) : (s.withActs v).out = s.out := rfl
@[simp] theorem State.withActs_regs (s : State) (v : List (Nat × Act)) : (s.withActs v).regs = s.regs := rfl
@[simp] theorem State.withActs_wings (s : State) (v : List (Nat × Act)) : (s.withActs v).wings = s.wings := rfl
@[simp] theorem State.withActs_loft (s : State) (v : List (Nat × Act)) : (s.withActs v).loft = s.loft := rfl
@[simp] theorem State.withActs_loftPoison (s : State) (v : List (Nat × Act)) : (s.withActs v).loftPoison = s.loftPoison := rfl
@[simp] theorem State.withActs_win (s : State) (v : List (Nat × Act)) : (s.withActs v).win = s.win := rfl
@[simp] theorem State.withActs_job (s : State) (v : List (Nat × Act)) : (s.withActs v).job = s.job := rfl
@[simp] theorem State.withActs_net (s : State) (v : List (Nat × Act)) : (s.withActs v).net = s.net := rfl
@[simp] theorem State.withActs_cue (s : State) (v : List (Nat × Act)) : (s.withActs v).cue = s.cue := rfl
@[simp] theorem State.withActs_pow (s : State) (v : List (Nat × Act)) : (s.withActs v).pow = s.pow := rfl
@[simp] theorem State.withActs_wafers (s : State) (v : List (Nat × Act)) : (s.withActs v).rack.wafers = s.rack.wafers := rfl
@[simp] theorem State.withActs_tmcs (s : State) (v : List (Nat × Act)) : (s.withActs v).rack.tmcs = s.rack.tmcs := rfl
@[simp] theorem State.withActs_acts (s : State) (v : List (Nat × Act)) : (s.withActs v).rack.acts = v := rfl
@[simp] theorem State.withActs_fws (s : State) (v : List (Nat × Act)) : (s.withActs v).rack.fws = s.rack.fws := rfl
@[simp] theorem State.withActs_spots (s : State) (v : List (Nat × Act)) : (s.withActs v).rack.spots = s.rack.spots := rfl
@[simp] theorem State.withActs_twis (s : State) (v : List (Nat × Act)) : (s.withActs v).rack.twis = s.rack.twis := rfl
@[simp] theorem State.withActs_tafKept (s : State) (v : List (Nat × Act)) : (s.withActs v).rack.tafKept = s.rack.tafKept := rfl
@[simp] theorem State.withActs_etags (s : State) (v : List (Nat × Act)) : (s.withActs v).rack.etags = s.rack.etags := rfl
@[simp] theorem State.withActs_plans (s : State) (v : List (Nat × Act)) : (s.withActs v).rack.plans = s.rack.plans := rfl
@[simp] theorem State.withActs_shelves (s : State) (v : List (Nat × Act)) : (s.withActs v).rack.shelves = s.rack.shelves := rfl
@[simp] theorem State.withActs_planner (s : State) (v : List (Nat × Act)) : (s.withActs v).rack.planner = s.rack.planner := rfl
theorem State.putFws_eq (s : State) (k : Nat) (v : FwPart) : s.putFws k v = s.withFws (mset {} s.rack.fws k v) := rfl
@[simp] theorem State.withFws_pending (s : State) (v : List (Nat × FwPart)) : (s.withFws v).pending = s.pending := rfl
@[simp] theorem State.withFws_now (s : State) (v : List (Nat × FwPart)) : (s.withFws v).now = s.now := rfl
@[simp] theorem State.withFws_freeCtr (s : State) (v : List (Nat × FwPart)) : (s.withFws v).freeCtr = s.freeCtr := rfl
@[simp] theorem State.withFws_out (s : State) (v : List (Nat × FwPart)) : (s.withFws v).out = s.out := rfl
@[simp] theorem State.withFws_regs (s : State) (v : List (Nat × FwPart)) : (s.withFws v).regs = s.regs := rfl
@[simp] theorem State.withFws_wings (s : State) (v : List (Nat × FwPart)) : (s.withFws v).wings = s.wings := rfl
@[simp] theorem State.withFws_loft (s : State) (v : List (Nat × FwPart)) : (s.withFws v).loft = s.loft := rfl
@[simp] theorem State.withFws_loftPoison (s : State) (v : List (Nat × FwPart)) : (s.withFws v).loftPoison = s.loftPoison := rfl
@[simp] theorem State.withFws_win (s : State) (v : List (Nat × FwPart)) : (s.withFws v).win = s.win := rfl
@[simp] theorem State.withFws_job (s : State) (v : List (Nat × FwPart)) : (s.withFws v).job = s.job := rfl
@[simp] theorem State.withFws_net (s : State) (v : List (Nat × FwPart)) : (s.withFws v).net = s.net := rfl
@[simp] theorem State.withFws_cue (s : State) (v : List (Nat × FwPart)) : (s.withFws v).cue = s.cue := rfl
@[simp] theorem State.withFws_pow (s : State) (v : List (Nat × FwPart)) : (s.withFws v).pow = s.pow := rfl
@[simp] theorem State.withFws_wafers (s : State) (v : List (Nat × FwPart)) : (s.withFws v).rack.wafers = s.rack.wafers := rfl
@[simp] theorem State.withFws_tmcs (s : State) (v : List (Nat × FwPart)) : (s.withFws v).rack.tmcs = s.rack.tmcs := rfl
@[simp] theorem State.withFws_acts (s : State) (v : List (Nat × FwPart)) : (s.withFws v).rack.acts = s.rack.acts := rfl
@[simp] theorem State.withFws_fws (s : State) (v : List (Nat × FwPart)) : (s.withFws v).rack.fws = v := rfl
@[simp] theorem State.withFws_spots (s : State) (v : List (Nat × FwPart)) : (s.withFws v).rack.spots = s.rack.spots := rfl
@[simp] theorem State.withFws_twis (s : State) (v : List (Nat × FwPart)) : (s.withFws v).rack.twis = s.rack.twis := rfl
@[simp] theorem State.withFws_tafKept (s : State) (v : List (Nat × FwPart)) : (s.withFws v).rack.tafKept = s.rack.tafKept := rfl
@[simp] theorem State.withFws_etags (s : State) (v : List (Nat × FwPart)) : (s.withFws v).rack.etags = s.rack.etags := rfl
@[simp] theorem State.withFws_plans (s : State) (v : List (Nat × FwPart)) : (s.withFws v).rack.plans = s.rack.plans := rfl
@[simp] theorem State.withFws_shelves (s : State) (v : List (Nat × FwPart)) : (s.withFws v).rack.shelves = s.rack.shelves := rfl
@[simp] theorem State.withFws_planner (s : State) (v : List (Nat × FwPart)) : (s.withFws v).rack.planner = s.rack.planner := rfl
theorem State.putSpots_eq (s : State) (k : Nat) (v : Spot) : s.putSpots k v = s.withSpots (mset {} s.rack.spots k v) := rfl
@[simp] theorem State.withSpots_pending (s : State) (v : List (Nat × Spot)) : (s.withSpots v).pending = s.pending := rfl
@[simp] theorem State.withSpots_now (s : State) (v : List (Nat × Spot)) : (s.withSpots v).now = s.now := rfl
@[simp] theorem State.withSpots_freeCtr (s : State) (v : List (Nat × Spot)) : (s.withSpots v).freeCtr = s.freeCtr := rfl
@[simp] theorem State.withSpots_out (s : State) (v : List (Nat × Spot)) : (s.withSpots v).out = s.out := rfl
@[simp] theorem State.withSpots_regs (s : State) (v : List (Nat × Spot)) : (s.withSpots v).regs = s.regs := rfl
@[simp] theorem State.withSpots_wings (s : State) (v : List (Nat × Spot)) : (s.withSpots v).wings = s.wings := rfl
@[simp] theorem State.withSpots_loft (s : State) (v : List (Nat × Spot)) : (s.withSpots v).loft = s.loft := rfl
@[simp] theorem State.withSpots_loftPoison (s : State) (v : List (Nat × Spot)) : (s.withSpots v).loftPoison = s.loftPoison := rfl
@[simp] theorem State.withSpots_win (s : State) (v : List (Nat × Spot)) : (s.withSpots v).win = s.win := rfl
@[simp] theorem State.withSpots_job (s : State) (v : List (Nat × Spot)) : (s.withSpots v).job = s.job := rfl
@[simp] theorem State.withSpots_net (s : State) (v : List (Nat × Spot)) : (s.withSpots v).net = s.net := rfl
@[simp] theorem State.withSpots_cue (s : State) (v : List (Nat × Spot)) : (s.withSpots v).cue = s.cue := rfl
@[simp] theorem State.withSpots_pow (s : State) (v : List (Nat × Spot)) : (s.withSpots v).pow = s.pow := rfl
@[simp] theorem State.withSpots_wafers (s : State) (v : List (Nat × Spot)) : (s.withSpots v).rack.wafers = s.rack.wafers := rfl
@[simp] theorem State.withSpots_tmcs (s : State) (v : List (Nat × Spot)) : (s.withSpots v).rack.tmcs = s.rack.tmcs := rfl
@[simp] theorem State.withSpots_acts (s : State) (v : List (Nat × Spot)) : (s.withSpots v).rack.acts = s.rack.acts := rfl
@[simp] theorem State.withSpots_fws (s : State) (v : List (Nat × Spot)) : (s.withSpots v).rack.fws = s.rack.fws := rfl
@[simp] theorem State.withSpots_spots (s : State) (v : List (Nat × Spot)) : (s.withSpots v).rack.spots = v := rfl
@[simp] theorem State.withSpots_twis (s : State) (v : List (Nat × Spot)) : (s.withSpots v).rack.twis = s.rack.twis := rfl
@[simp] theorem State.withSpots_tafKept (s : State) (v : List (Nat × Spot)) : (s.withSpots v).rack.tafKept = s.rack.tafKept := rfl
@[simp] theorem State.withSpots_etags (s : State) (v : List (Nat × Spot)) : (s.withSpots v).rack.etags = s.rack.etags := rfl
@[simp] theorem State.withSpots_plans (s : State) (v : List (Nat × Spot)) : (s.withSpots v).rack.plans = s.rack.plans := rfl
@[simp] theorem State.withSpots_shelves (s : State) (v : List (Nat × Spot)) : (s.withSpots v).rack.shelves = s.rack.shelves := rfl
@[simp] theorem State.withSpots_planner (s : State) (v : List (Nat × Spot)) : (s.withSpots v).rack.planner = s.rack.planner := rfl
theorem State.putTwis_eq (s : State) (k : Nat) (v : Twi) : s.putTwis k v = s.withTwis (mset {} s.rack.twis k v) := rfl
@[simp] theorem State.withTwis_pending (s : State) (v : List (Nat × Twi)) : (s.withTwis v).pending = s.pending := rfl
@[simp] theorem State.withTwis_now (s : State) (v : List (Nat × Twi)) : (s.withTwis v).now = s.now := rfl
@[simp] theorem State.withTwis_freeCtr (s : State) (v : List (Nat × Twi)) : (s.withTwis v).freeCtr = s.freeCtr := rfl
@[simp] theorem State.withTwis_out (s : State) (v : List (Nat × Twi)) : (s.withTwis v).out = s.out := rfl
@[simp] theorem State.withTwis_regs (s : State) (v : List (Nat × Twi)) : (s.withTwis v).regs = s.regs := rfl
@[simp] theorem State.withTwis_wings (s : State) (v : List (Nat × Twi)) : (s.withTwis v).wings = s.wings := rfl
@[simp] theorem State.withTwis_loft (s : State) (v : List (Nat × Twi)) : (s.withTwis v).loft = s.loft := rfl
@[simp] theorem State.withTwis_loftPoison (s : State) (v : List (Nat × Twi)) : (s.withTwis v).loftPoison = s.loftPoison := rfl
@[simp] theorem State.withTwis_win (s : State) (v : List (Nat × Twi)) : (s.withTwis v).win = s.win := rfl
@[simp] theorem State.withTwis_job (s : State) (v : List (Nat × Twi)) : (s.withTwis v).job = s.job := rfl
@[simp] theorem State.withTwis_net (s : State) (v : List (Nat × Twi)) : (s.withTwis v).net = s.net := rfl
@[simp] theorem State.withTwis_cue (s : State) (v : List (Nat × Twi)) : (s.withTwis v).cue = s.cue := rfl
@[simp] theorem State.withTwis_pow (s : State) (v : List (Nat × Twi)) : (s.withTwis v).pow = s.pow := rfl
@[simp] theorem State.withTwis_wafers (s : State) (v : List (Nat × Twi)) : (s.withTwis v).rack.wafers = s.rack.wafers := rfl
@[simp] theorem State.withTwis_tmcs (s : State) (v : List (Nat × Twi)) : (s.withTwis v).rack.tmcs = s.rack.tmcs := rfl
@[simp] theorem State.withTwis_acts (s : State) (v : List (Nat × Twi)) : (s.withTwis v).rack.acts = s.rack.acts := rfl
@[simp] theorem State.withTwis_fws (s : State) (v : List (Nat × Twi)) : (s.withTwis v).rack.fws = s.rack.fws := rfl
@[simp] theorem State.withTwis_spots (s : State) (v : List (Nat × Twi)) : (s.withTwis v).rack.spots = s.rack.spots := rfl
@[simp] theorem State.withTwis_twis (s : State) (v : List (Nat × Twi)) : (s.withTwis v).rack.twis = v := rfl
@[simp] theorem State.withTwis_tafKept (s : State) (v : List (Nat × Twi)) : (s.withTwis v).rack.tafKept = s.rack.tafKept := rfl
@[simp] theorem State.withTwis_etags (s : State) (v : List (Nat × Twi)) : (s.withTwis v).rack.etags = s.rack.etags := rfl
@[simp] theorem State.withTwis_plans (s : State) (v : List (Nat × Twi)) : (s.withTwis v).rack.plans = s.rack.plans := rfl
@[simp] theorem State.withTwis_shelves (s : State) (v : List (Nat × Twi)) : (s.withTwis v).rack.shelves = s.rack.shelves := rfl
@[simp] theorem State.withTwis_planner (s : State) (v : List (Nat × Twi)) : (s.withTwis v).rack.planner = s.rack.planner := rfl
theorem State.putTafKept_eq (s : State) (k : Nat) (v : (List (Nat × Nat × List Nat))) : s.putTafKept k v = s.withTafKept (mset [] s.rack.tafKept k v) := rfl
@[simp] theorem State.withTafKept_pending (s : State) (v : List (Nat × List (Nat × Nat × List Nat))) : (s.withTafKept v).pending = s.pending := rfl
@[simp] theorem State.withTafKept_now (s : State) (v : List (Nat × List (Nat × Nat × List Nat))) : (s.withTafKept v).now = s.now := rfl
@[simp] theorem State.withTafKept_freeCtr (s : State) (v : List (Nat × List (Nat × Nat × List Nat))) : (s.withTafKept v).freeCtr = s.freeCtr := rfl
@[simp] theorem State.withTafKept_out (s : State) (v : List (Nat × List (Nat × Nat × List Nat))) : (s.withTafKept v).out = s.out := rfl
@[simp] theorem State.withTafKept_regs (s : State) (v : List (Nat × List (Nat × Nat × List Nat))) : (s.withTafKept v).regs = s.regs := rfl
@[simp] theorem State.withTafKept_wings (s : State) (v : List (Nat × List (Nat × Nat × List Nat))) : (s.withTafKept v).wings = s.wings := rfl
@[simp] theorem State.withTafKept_loft (s : State) (v : List (Nat × List (Nat × Nat × List Nat))) : (s.withTafKept v).loft = s.loft := rfl
@[simp] theorem State.withTafKept_loftPoison (s : State) (v : List (Nat × List (Nat × Nat × List Nat))) : (s.withTafKept v).loftPoison = s.loftPoison := rfl
@[simp] theorem State.withTafKept_win (s : State) (v : List (Nat × List (Nat × Nat × List Nat))) : (s.withTafKept v).win = s.win := rfl
@[simp] theorem State.withTafKept_job (s : State) (v : List (Nat × List (Nat × Nat × List Nat))) : (s.withTafKept v).job = s.job := rfl
@[simp] theorem State.withTafKept_net (s : State) (v : List (Nat × List (Nat × Nat × List Nat))) : (s.withTafKept v).net = s.net := rfl
@[simp] theorem State.withTafKept_cue (s : State) (v : List (Nat × List (Nat × Nat × List Nat))) : (s.withTafKept v).cue = s.cue := rfl
@[simp] theorem State.withTafKept_pow (s : State) (v : List (Nat × List (Nat × Nat × List Nat))) : (s.withTafKept v).pow = s.pow := rfl
@[simp] theorem State.withTafKept_wafers (s : State) (v : List (Nat × List (Nat × Nat × List Nat))) : (s.withTafKept v).rack.wafers = s.rack.wafers := rfl
@[simp] theorem State.withTafKept_tmcs (s : State) (v : List (Nat × List (Nat × Nat × List Nat))) : (s.withTafKept v).rack.tmcs = s.rack.tmcs := rfl
@[simp] theorem State.withTafKept_acts (s : State) (v : List (Nat × List (Nat × Nat × List Nat))) : (s.withTafKept v).rack.acts = s.rack.acts := rfl
@[simp] theorem State.withTafKept_fws (s : State) (v : List (Nat × List (Nat × Nat × List Nat))) : (s.withTafKept v).rack.fws = s.rack.fws := rfl
@[simp] theorem State.withTafKept_spots (s : State) (v : List (Nat × List (Nat × Nat × List Nat))) : (s.withTafKept v).rack.spots = s.rack.spots := rfl
@[simp] theorem State.withTafKept_twis (s : State) (v : List (Nat × List (Nat × Nat × List Nat))) : (s.withTafKept v).rack.twis = s.rack.twis := rfl
@[simp] theorem State.withTafKept_tafKept (s : State) (v : List (Nat × List (Nat × Nat × List Nat))) : (s.withTafKept v).rack.tafKept = v := rfl
@[simp] theorem State.withTafKept_etags (s : State) (v : List (Nat × List (Nat × Nat × List Nat))) : (s.withTafKept v).rack.etags = s.rack.etags := rfl
@[simp] theorem State.withTafKept_plans (s : State) (v : List (Nat × List (Nat × Nat × List Nat))) : (s.withTafKept v).rack.plans = s.rack.plans := rfl
@[simp] theorem State.withTafKept_shelves (s : State) (v : List (Nat × List (Nat × Nat × List Nat))) : (s.withTafKept v).rack.shelves = s.rack.shelves := rfl
@[simp] theorem State.withTafKept_planner (s : State) (v : List (Nat × List (Nat × Nat × List Nat))) : (s.withTafKept v).rack.planner = s.rack.planner := rfl
theorem State.putEtags_eq (s : State) (k : Nat) (v : Nat) : s.putEtags k v = s.withEtags (mset 0 s.rack.etags k v) := rfl
@[simp] theorem State.withEtags_pending (s : State) (v : List (Nat × Nat)) : (s.withEtags v).pending = s.pending := rfl
@[simp] theorem State.withEtags_now (s : State) (v : List (Nat × Nat)) : (s.withEtags v).now = s.now := rfl
@[simp] theorem State.withEtags_freeCtr (s : State) (v : List (Nat × Nat)) : (s.withEtags v).freeCtr = s.freeCtr := rfl
@[simp] theorem State.withEtags_out (s : State) (v : List (Nat × Nat)) : (s.withEtags v).out = s.out := rfl
@[simp] theorem State.withEtags_regs (s : State) (v : List (Nat × Nat)) : (s.withEtags v).regs = s.regs := rfl
@[simp] theorem State.withEtags_wings (s : State) (v : List (Nat × Nat)) : (s.withEtags v).wings = s.wings := rfl
@[simp] theorem State.withEtags_loft (s : State) (v : List (Nat × Nat)) : (s.withEtags v).loft = s.loft := rfl
@[simp] theorem State.withEtags_loftPoison (s : State) (v : List (Nat × Nat)) : (s.withEtags v).loftPoison = s.loftPoison := rfl
@[simp] theorem State.withEtags_win (s : State) (v : List (Nat × Nat)) : (s.withEtags v).win = s.win := rfl
@[simp] theorem State.withEtags_job (s : State) (v : List (Nat × Nat)) : (s.withEtags v).job = s.job := rfl
@[simp] theorem State.withEtags_net (s : State) (v : List (Nat × Nat)) : (s.withEtags v).net = s.net := rfl
@[simp] theorem State.withEtags_cue (s : State) (v : List (Nat × Nat)) : (s.withEtags v).cue = s.cue := rfl
@[simp] theorem State.withEtags_pow (s : State) (v : List (Nat × Nat)) : (s.withEtags v).pow = s.pow := rfl
@[simp] theorem State.withEtags_wafers (s : State) (v : List (Nat × Nat)) : (s.withEtags v).rack.wafers = s.rack.wafers := rfl
@[simp] theorem State.withEtags_tmcs (s : State) (v : List (Nat × Nat)) : (s.withEtags v).rack.tmcs = s.rack.tmcs := rfl
@[simp] theorem State.withEtags_acts (s : State) (v : List (Nat × Nat)) : (s.withEtags v).rack.acts = s.rack.acts := rfl
@[simp] theorem State.withEtags_fws (s : State) (v : List (Nat × Nat)) : (s.withEtags v).rack.fws = s.rack.fws := rfl
@[simp] theorem State.withEtags_spots (s : State) (v : List (Nat × Nat)) : (s.withEtags v).rack.spots = s.rack.spots := rfl
@[simp] theorem State.withEtags_twis (s : State) (v : List (Nat × Nat)) : (s.withEtags v).rack.twis = s.rack.twis := rfl
@[simp] theorem State.withEtags_tafKept (s : State) (v : List (Nat × Nat)) : (s.withEtags v).rack.tafKept = s.rack.tafKept := rfl
@[simp] theorem State.withEtags_etags (s : State) (v : List (Nat × Nat)) : (s.withEtags v).rack.etags = v := rfl
@[simp] theorem State.withEtags_plans (s : State) (v : List (Nat × Nat)) : (s.withEtags v).rack.plans = s.rack.plans := rfl
@[simp] theorem State.withEtags_shelves (s : State) (v : List (Nat × Nat)) : (s.withEtags v).rack.shelves = s.rack.shelves := rfl
@[simp] theorem State.withEtags_planner (s : State) (v : List (Nat × Nat)) : (s.withEtags v).rack.planner = s.rack.planner := rfl
theorem State.putPlans_eq (s : State) (k : Nat) (v : PlanW) : s.putPlans k v = s.withPlans (mset {} s.rack.plans k v) := rfl
@[simp] theorem State.withPlans_pending (s : State) (v : List (Nat × PlanW)) : (s.withPlans v).pending = s.pending := rfl
@[simp] theorem State.withPlans_now (s : State) (v : List (Nat × PlanW)) : (s.withPlans v).now = s.now := rfl
@[simp] theorem State.withPlans_freeCtr (s : State) (v : List (Nat × PlanW)) : (s.withPlans v).freeCtr = s.freeCtr := rfl
@[simp] theorem State.withPlans_out (s : State) (v : List (Nat × PlanW)) : (s.withPlans v).out = s.out := rfl
@[simp] theorem State.withPlans_regs (s : State) (v : List (Nat × PlanW)) : (s.withPlans v).regs = s.regs := rfl
@[simp] theorem State.withPlans_wings (s : State) (v : List (Nat × PlanW)) : (s.withPlans v).wings = s.wings := rfl
@[simp] theorem State.withPlans_loft (s : State) (v : List (Nat × PlanW)) : (s.withPlans v).loft = s.loft := rfl
@[simp] theorem State.withPlans_loftPoison (s : State) (v : List (Nat × PlanW)) : (s.withPlans v).loftPoison = s.loftPoison := rfl
@[simp] theorem State.withPlans_win (s : State) (v : List (Nat × PlanW)) : (s.withPlans v).win = s.win := rfl
@[simp] theorem State.withPlans_job (s : State) (v : List (Nat × PlanW)) : (s.withPlans v).job = s.job := rfl
@[simp] theorem State.withPlans_net (s : State) (v : List (Nat × PlanW)) : (s.withPlans v).net = s.net := rfl
@[simp] theorem State.withPlans_cue (s : State) (v : List (Nat × PlanW)) : (s.withPlans v).cue = s.cue := rfl
@[simp] theorem State.withPlans_pow (s : State) (v : List (Nat × PlanW)) : (s.withPlans v).pow = s.pow := rfl
@[simp] theorem State.withPlans_wafers (s : State) (v : List (Nat × PlanW)) : (s.withPlans v).rack.wafers = s.rack.wafers := rfl
@[simp] theorem State.withPlans_tmcs (s : State) (v : List (Nat × PlanW)) : (s.withPlans v).rack.tmcs = s.rack.tmcs := rfl
@[simp] theorem State.withPlans_acts (s : State) (v : List (Nat × PlanW)) : (s.withPlans v).rack.acts = s.rack.acts := rfl
@[simp] theorem State.withPlans_fws (s : State) (v : List (Nat × PlanW)) : (s.withPlans v).rack.fws = s.rack.fws := rfl
@[simp] theorem State.withPlans_spots (s : State) (v : List (Nat × PlanW)) : (s.withPlans v).rack.spots = s.rack.spots := rfl
@[simp] theorem State.withPlans_twis (s : State) (v : List (Nat × PlanW)) : (s.withPlans v).rack.twis = s.rack.twis := rfl
@[simp] theorem State.withPlans_tafKept (s : State) (v : List (Nat × PlanW)) : (s.withPlans v).rack.tafKept = s.rack.tafKept := rfl
@[simp] theorem State.withPlans_etags (s : State) (v : List (Nat × PlanW)) : (s.withPlans v).rack.etags = s.rack.etags := rfl
@[simp] theorem State.withPlans_plans (s : State) (v : List (Nat × PlanW)) : (s.withPlans v).rack.plans = v := rfl
@[simp] theorem State.withPlans_shelves (s : State) (v : List (Nat × PlanW)) : (s.withPlans v).rack.shelves = s.rack.shelves := rfl
@[simp] theorem State.withPlans_planner (s : State) (v : List (Nat × PlanW)) : (s.withPlans v).rack.planner = s.rack.planner := rfl
theorem State.putShelves_eq (s : State) (k : Nat) (v : Shelf) : s.putShelves k v = s.withShelves (mset {} s.rack.shelves k v) := rfl
@[simp] theorem State.withShelves_pending (s : State) (v : List (Nat × Shelf)) : (s.withShelves v).pending = s.pending := rfl
@[simp] theorem State.withShelves_now (s : State) (v : List (Nat × Shelf)) : (s.withShelves v).now = s.now := rfl
@[simp] theorem State.withShelves_freeCtr (s : State) (v : List (Nat × Shelf)) : (s.withShelves v).freeCtr = s.freeCtr := rfl
@[simp] theorem State.withShelves_out (s : State) (v : List (Nat × Shelf)) : (s.withShelves v).out = s.out := rfl
@[simp] theorem State.withShelves_regs (s : State) (v : List (Nat × Shelf)) : (s.withShelves v).regs = s.regs := rfl
@[simp] theorem State.withShelves_wings (s : State) (v : List (Nat × Shelf)) : (s.withShelves v).wings = s.wings := rfl
@[simp] theorem State.withShelves_loft (s : State) (v : List (Nat × Shelf)) : (s.withShelves v).loft = s.loft := rfl
@[simp] theorem State.withShelves_loftPoison (s : State) (v : List (Nat × Shelf)) : (s.withShelves v).loftPoison = s.loftPoison := rfl
@[simp] theorem State.withShelves_win (s : State) (v : List (Nat × Shelf)) : (s.withShelves v).win = s.win := rfl
@[simp] theorem State.withShelves_job (s : State) (v : List (Nat × Shelf)) : (s.withShelves v).job = s.job := rfl
@[simp] theorem State.withShelves_net (s : State) (v : List (Nat × Shelf)) : (s.withShelves v).net = s.net := rfl
@[simp] theorem State.withShelves_cue (s : State) (v : List (Nat × Shelf)) : (s.withShelves v).cue = s.cue := rfl
@[simp] theorem State.withShelves_pow (s : State) (v : List (Nat × Shelf)) : (s.withShelves v).pow = s.pow := rfl
@[simp] theorem State.withShelves_wafers (s : State) (v : List (Nat × Shelf)) : (s.withShelves v).rack.wafers = s.rack.wafers := rfl
@[simp] theorem State.withShelves_tmcs (s : State) (v : List (Nat × Shelf)) : (s.withShelves v).rack.tmcs = s.rack.tmcs := rfl
@[simp] theorem State.withShelves_acts (s : State) (v : List (Nat × Shelf)) : (s.withShelves v).rack.acts = s.rack.acts := rfl
@[simp] theorem State.withShelves_fws (s : State) (v : List (Nat × Shelf)) : (s.withShelves v).rack.fws = s.rack.fws := rfl
@[simp] theorem State.withShelves_spots (s : State) (v : List (Nat × Shelf)) : (s.withShelves v).rack.spots = s.rack.spots := rfl
@[simp] theorem State.withShelves_twis (s : State) (v : List (Nat × Shelf)) : (s.withShelves v).rack.twis = s.rack.twis := rfl
@[simp] theorem State.withShelves_tafKept (s : State) (v : List (Nat × Shelf)) : (s.withShelves v).rack.tafKept = s.rack.tafKept := rfl
@[simp] theorem State.withShelves_etags (s : State) (v : List (Nat × Shelf)) : (s.withShelves v).rack.etags = s.rack.etags := rfl
@[simp] theorem State.withShelves_plans (s : State) (v : List (Nat × Shelf)) : (s.withShelves v).rack.plans = s.rack.plans := rfl
@[simp] theorem State.withShelves_shelves (s : State) (v : List (Nat × Shelf)) : (s.withShelves v).rack.shelves = v := rfl
@[simp] theorem State.withShelves_planner (s : State) (v : List (Nat × Shelf)) : (s.withShelves v).rack.planner = s.rack.planner := rfl
@[simp] theorem State.withPlanner_pending (s : State) (v : Planner) : (s.withPlanner v).pending = s.pending := rfl
@[simp] theorem State.withPlanner_now (s : State) (v : Planner) : (s.withPlanner v).now = s.now := rfl
@[simp] theorem State.withPlanner_freeCtr (s : State) (v : Planner) : (s.withPlanner v).freeCtr = s.freeCtr := rfl
@[simp] theorem State.withPlanner_out (s : State) (v : Planner) : (s.withPlanner v).out = s.out := rfl
@[simp] theorem State.withPlanner_regs (s : State) (v : Planner) : (s.withPlanner v).regs = s.regs := rfl
@[simp] theorem State.withPlanner_wings (s : State) (v : Planner) : (s.withPlanner v).wings = s.wings := rfl
@[simp] theorem State.withPlanner_loft (s : State) (v : Planner) : (s.withPlanner v).loft = s.loft := rfl
@[simp] theorem State.withPlanner_loftPoison (s : State) (v : Planner) : (s.withPlanner v).loftPoison = s.loftPoison := rfl
@[simp] theorem State.withPlanner_win (s : State) (v : Planner) : (s.withPlanner v).win = s.win := rfl
@[simp] theorem State.withPlanner_job (s : State) (v : Planner) : (s.withPlanner v).job = s.job := rfl
@[simp] theorem State.withPlanner_net (s : State) (v : Planner) : (s.withPlanner v).net = s.net := rfl
@[simp] theorem State.withPlanner_cue (s : State) (v : Planner) : (s.withPlanner v).cue = s.cue := rfl
@[simp] theorem State.withPlanner_pow (s : State) (v : Planner) : (s.withPlanner v).pow = s.pow := rfl
@[simp] theorem State.withPlanner_wafers (s : State) (v : Planner) : (s.withPlanner v).rack.wafers = s.rack.wafers := rfl
@[simp] theorem State.withPlanner_tmcs (s : State) (v : Planner) : (s.withPlanner v).rack.tmcs = s.rack.tmcs := rfl
@[simp] theorem State.withPlanner_acts (s : State) (v : Planner) : (s.withPlanner v).rack.acts = s.rack.acts := rfl
@[simp] theorem State.withPlanner_fws (s : State) (v : Planner) : (s.withPlanner v).rack.fws = s.rack.fws := rfl
@[simp] theorem State.withPlanner_spots (s : State) (v : Planner) : (s.withPlanner v).rack.spots = s.rack.spots := rfl
@[simp] theorem State.withPlanner_twis (s : State) (v : Planner) : (s.withPlanner v).rack.twis = s.rack.twis := rfl
@[simp] theorem State.withPlanner_tafKept (s : State) (v : Planner) : (s.withPlanner v).rack.tafKept = s.rack.tafKept := rfl
@[simp] theorem State.withPlanner_etags (s : State) (v : Planner) : (s.withPlanner v).rack.etags = s.rack.etags := rfl
@[simp] theorem State.withPlanner_plans (s : State) (v : Planner) : (s.withPlanner v).rack.plans = s.rack.plans := rfl
@[simp] theorem State.withPlanner_shelves (s : State) (v : Planner) : (s.withPlanner v).rack.shelves = s.rack.shelves := rfl
@[simp] theorem State.withPlanner_planner (s : State) (v : Planner) : (s.withPlanner v).rack.planner = v := rfl

end Sys2Proof.Machine
end

