-- ==== Sys2Proof/Laws/Store.lean ====
section
/-!
SUPPORT. Sparse maps: what a write leaves at every key, and that every operation on a map keeps its canonical form.
-/
namespace Sys2Proof.Machine

variable {α : Type}

@[simp] theorem key2_inj (a b c d : Nat) : key2 a b = key2 c d ↔ a = c ∧ b = d := Nat.pair_eq_pair

@[simp] theorem key3_inj (a b c d e f : Nat) : key3 a b c = key3 d e f ↔ a = d ∧ b = e ∧ c = f := by
  simp [key3, Nat.pair_eq_pair]

theorem mget_mdel (d : α) (m : List (Nat × α)) (x z : Nat) : mget d (mdel m x) z = if z = x then d else mget d m z := by
  induction m with
  | nil => simp [mdel, mget]
  | cons a m ih =>
    obtain ⟨k, v⟩ := a
    by_cases h : k = x
    · subst h
      simp only [mdel, if_true, ih]
      by_cases hz : z = k
      · simp only [hz, if_true]
      · simp only [hz, if_false, mget, Ne.symm hz]
    · by_cases hz : k = z
      · subst hz; simp [mdel, mget, h]
      · simp [mdel, mget, h, hz, ih]

theorem mget_mins (d : α) (m : List (Nat × α)) (x z : Nat) (y : α) (h : ∀ v, (x, v) ∉ m) :
    mget d (mins x y m) z = if z = x then y else mget d m z := by
  induction m with
  | nil => simp [mins, mget, eq_comm]
  | cons a m ih =>
    obtain ⟨k, v⟩ := a
    have hk : k ≠ x := fun e => h v (by simp [e])
    have ih' := ih (fun v hv => h v (List.mem_cons_of_mem _ hv))
    unfold mins
    split
    · simp [mget, eq_comm]
    · by_cases hz : k = z
      · subst hz; simp [mget, hk]
      · simp [mget, hz, ih']

theorem mdel_not_mem (m : List (Nat × α)) (x : Nat) (v : α) : (x, v) ∉ mdel m x := by
  induction m with
  | nil => simp [mdel]
  | cons a m ih =>
    obtain ⟨k, w⟩ := a
    unfold mdel
    split
    · exact ih
    · rename_i h
      simp only [List.mem_cons, Prod.mk.injEq, not_or, not_and]
      exact ⟨fun e => absurd e.symm h, ih⟩

/-- What a map holds after one of its keys is written. -/
@[simp] theorem mget_mset [DecidableEq α] (d : α) (m : List (Nat × α)) (x z : Nat) (y : α) :
    mget d (mset d m x y) z = if z = x then y else mget d m z := by
  unfold mset
  split
  · rename_i h; subst h; exact mget_mdel y m x z
  · rw [mget_mins d _ x z y (mdel_not_mem m x), mget_mdel]; split <;> rfl

/-- A write leaves every other key, whatever default either reads. -/
theorem mget_mset_ne [DecidableEq α] (d e : α) (m : List (Nat × α)) (x z : Nat) (y : α) (h : z ≠ x) : mget d (mset e m x y) z = mget d m z := by
  unfold mset
  split
  · rw [mget_mdel, if_neg h]
  · rw [mget_mins d _ x z y (mdel_not_mem m x), mget_mdel, if_neg h, if_neg h]

theorem mget_filter (d : α) (m : List (Nat × α)) (p : Nat → Bool) (z : Nat) :
    mget d (m.filter fun c => p c.1) z = if p z then mget d m z else d := by
  induction m with
  | nil => simp [mget]
  | cons a m ih =>
    obtain ⟨k, v⟩ := a
    by_cases hp : p k
    · simp only [List.filter_cons, hp, if_true, mget, ih]
      by_cases hz : k = z
      · subst hz; simp [hp]
      · simp [hz]
    · simp only [List.filter_cons, hp, mget, if_false, Bool.false_eq_true, ih]
      by_cases hz : k = z
      · subst hz; simp [hp]
      · simp [hz]

theorem mget_mmap [DecidableEq α] (d : α) (g : Nat → α → α) (m : List (Nat × α)) (z : Nat) (h : mwfFrom d m 0 = true) (hd : g z d = d) :
    mget d (mmap d g m) z = g z (mget d m z) := by
  revert h
  generalize 0 = lo
  induction m generalizing lo with
  | nil => intro; simp [mmap, mget, hd]
  | cons a m ih =>
    obtain ⟨k, v⟩ := a
    intro h
    simp only [mwfFrom, Bool.and_eq_true, decide_eq_true_eq] at h
    have ih' := ih (k + 1) h.2
    have low : ∀ (r : List (Nat × α)) (j : Nat), mwfFrom d r j = true → z < j → mget d r z = d := by
      intro r
      induction r with
      | nil => intro j _ _; rfl
      | cons b r ihr =>
        obtain ⟨k2, v2⟩ := b
        intro j hj hz
        simp only [mwfFrom, Bool.and_eq_true, decide_eq_true_eq] at hj
        have : k2 ≠ z := by omega
        simp [mget, this, ihr (k2 + 1) hj.2 (by omega)]
    by_cases hz : k = z
    · subst hz
      have e := low m (k + 1) h.2 (by omega)
      unfold mmap
      split
      · rename_i hg; rw [ih', e, hd]; simp [mget, hg]
      · simp [mget]
    · unfold mmap
      split
      · rw [ih']; simp [mget, hz]
      · simp [mget, hz, ih']

/-! ## The canonical form -/

theorem mwfFrom_mono [DecidableEq α] (d : α) (m : List (Nat × α)) (lo lo2 : Nat) (hl : lo2 ≤ lo) (h : mwfFrom d m lo = true) : mwfFrom d m lo2 = true := by
  cases m with
  | nil => rfl
  | cons a m =>
    obtain ⟨k, v⟩ := a
    simp only [mwfFrom, Bool.and_eq_true, decide_eq_true_eq] at h ⊢
    exact ⟨⟨by omega, h.1.2⟩, h.2⟩

theorem mwfFrom_mdel [DecidableEq α] (d : α) (m : List (Nat × α)) (x lo : Nat) (h : mwfFrom d m lo = true) : mwfFrom d (mdel m x) lo = true := by
  induction m generalizing lo with
  | nil => rfl
  | cons a m ih =>
    obtain ⟨k, v⟩ := a
    simp only [mwfFrom, Bool.and_eq_true, decide_eq_true_eq] at h
    unfold mdel
    split
    · exact mwfFrom_mono d _ (k + 1) lo (by omega) (ih _ h.2)
    · simp only [mwfFrom, Bool.and_eq_true, decide_eq_true_eq]
      exact ⟨h.1, ih _ h.2⟩

theorem mwfFrom_mins [DecidableEq α] (d : α) (m : List (Nat × α)) (x lo : Nat) (y : α) (hy : y ≠ d) (hx : lo ≤ x) (hn : ∀ v, (x, v) ∉ m)
    (h : mwfFrom d m lo = true) : mwfFrom d (mins x y m) lo = true := by
  induction m generalizing lo with
  | nil => simp [mins, mwfFrom, hy, hx]
  | cons a m ih =>
    obtain ⟨k, v⟩ := a
    simp only [mwfFrom, Bool.and_eq_true, decide_eq_true_eq] at h
    have hk : k ≠ x := fun e => hn v (by simp [e])
    unfold mins
    split
    · simp only [mwfFrom, Bool.and_eq_true, decide_eq_true_eq]
      exact ⟨⟨hx, hy⟩, ⟨by omega, h.1.2⟩, h.2⟩
    · simp only [mwfFrom, Bool.and_eq_true, decide_eq_true_eq]
      exact ⟨h.1, ih (k + 1) (by omega) (fun v hv => hn v (List.mem_cons_of_mem _ hv)) h.2⟩

/-- A write keeps the canonical form. -/
theorem mwf_mset [DecidableEq α] (d : α) (m : List (Nat × α)) (x : Nat) (y : α) (h : mwf d m = true) : mwf d (mset d m x y) = true := by
  unfold mwf mset at *
  split
  · exact mwfFrom_mdel d m x 0 h
  · rename_i hy
    exact mwfFrom_mins d _ x 0 y hy (by omega) (mdel_not_mem m x) (mwfFrom_mdel d m x 0 h)

theorem mwfFrom_filter [DecidableEq α] (d : α) (m : List (Nat × α)) (p : Nat × α → Bool) (lo : Nat) (h : mwfFrom d m lo = true) :
    mwfFrom d (m.filter p) lo = true := by
  induction m generalizing lo with
  | nil => rfl
  | cons a m ih =>
    obtain ⟨k, v⟩ := a
    simp only [mwfFrom, Bool.and_eq_true, decide_eq_true_eq] at h
    rw [List.filter_cons]
    split
    · simp only [mwfFrom, Bool.and_eq_true, decide_eq_true_eq]
      exact ⟨h.1, ih _ h.2⟩
    · exact mwfFrom_mono d _ (k + 1) lo (by omega) (ih _ h.2)

/-- Dropping entries keeps the canonical form. -/
theorem mwf_filter [DecidableEq α] (d : α) (m : List (Nat × α)) (p : Nat × α → Bool) (h : mwf d m = true) : mwf d (m.filter p) = true :=
  mwfFrom_filter d m p 0 h

theorem mwfFrom_mmap [DecidableEq α] (d : α) (g : Nat → α → α) (m : List (Nat × α)) (lo : Nat) (h : mwfFrom d m lo = true) : mwfFrom d (mmap d g m) lo = true := by
  induction m generalizing lo with
  | nil => rfl
  | cons a m ih =>
    obtain ⟨k, v⟩ := a
    simp only [mwfFrom, Bool.and_eq_true, decide_eq_true_eq] at h
    unfold mmap
    split
    · exact mwfFrom_mono d _ (k + 1) lo (by omega) (ih _ h.2)
    · simp only [mwfFrom, Bool.and_eq_true, decide_eq_true_eq]
      exact ⟨⟨h.1.1, by assumption⟩, ih _ h.2⟩

/-- Changing the listed values keeps the canonical form. -/
theorem mwf_mmap [DecidableEq α] (d : α) (g : Nat → α → α) (m : List (Nat × α)) (h : mwf d m = true) : mwf d (mmap d g m) = true :=
  mwfFrom_mmap d g m 0 h

theorem mrises_mono (m : List (Nat × α)) (lo lo2 : Nat) (hl : lo2 ≤ lo) (h : mrises m lo = true) : mrises m lo2 = true := by
  cases m with
  | nil => rfl
  | cons a m =>
    obtain ⟨k, v⟩ := a
    simp only [mrises, Bool.and_eq_true, decide_eq_true_eq] at h ⊢
    exact ⟨by omega, h.2⟩

theorem mrises_mdel (m : List (Nat × α)) (x lo : Nat) (h : mrises m lo = true) : mrises (mdel m x) lo = true := by
  induction m generalizing lo with
  | nil => rfl
  | cons a m ih =>
    obtain ⟨k, v⟩ := a
    simp only [mrises, Bool.and_eq_true, decide_eq_true_eq] at h
    unfold mdel
    split
    · exact mrises_mono _ (k + 1) lo (by omega) (ih _ h.2)
    · simp only [mrises, Bool.and_eq_true, decide_eq_true_eq]
      exact ⟨h.1, ih _ h.2⟩

theorem mrises_mins (m : List (Nat × α)) (x lo : Nat) (y : α) (hx : lo ≤ x) (hn : ∀ v, (x, v) ∉ m) (h : mrises m lo = true) :
    mrises (mins x y m) lo = true := by
  induction m generalizing lo with
  | nil => simp [mins, mrises, hx]
  | cons a m ih =>
    obtain ⟨k, v⟩ := a
    simp only [mrises, Bool.and_eq_true, decide_eq_true_eq] at h
    have hk : k ≠ x := fun e => hn v (by simp [e])
    unfold mins
    split
    · simp only [mrises, Bool.and_eq_true, decide_eq_true_eq]
      exact ⟨hx, by omega, h.2⟩
    · simp only [mrises, Bool.and_eq_true, decide_eq_true_eq]
      exact ⟨h.1, ih (k + 1) (by omega) (fun v hv => hn v (List.mem_cons_of_mem _ hv)) h.2⟩

theorem mrises_mset [DecidableEq α] (d : α) (m : List (Nat × α)) (x : Nat) (y : α) (h : mrises m 0 = true) : mrises (mset d m x y) 0 = true := by
  unfold mset
  split
  · exact mrises_mdel m x 0 h
  · exact mrises_mins _ x 0 y (by omega) (mdel_not_mem m x) (mrises_mdel m x 0 h)

theorem mrises_filter (m : List (Nat × α)) (p : Nat × α → Bool) (lo : Nat) (h : mrises m lo = true) : mrises (m.filter p) lo = true := by
  induction m generalizing lo with
  | nil => rfl
  | cons a m ih =>
    obtain ⟨k, v⟩ := a
    simp only [mrises, Bool.and_eq_true, decide_eq_true_eq] at h
    rw [List.filter_cons]
    split
    · simp only [mrises, Bool.and_eq_true, decide_eq_true_eq]
      exact ⟨h.1, ih _ h.2⟩
    · exact mrises_mono _ (k + 1) lo (by omega) (ih _ h.2)

end Sys2Proof.Machine
end

