-- ==== Sys2Proof/Laws/Keeps.lean ====
section
/-!
SUPPORT. What an operation may change. `Keeps m s t` says that `t` comes from `s` by an operation that may write only what the mask `m` names: one bit
for each map of State and one for each register. It never touches the queue or the time, adds to what has been sent, and keeps the canonical form.
One lemma for each shared operation follows, file by file.
-/
namespace Sys2Proof.Machine
set_option linter.unusedTactic false
set_option linter.unreachableTactic false

/-- `t` comes from `s` by writing only what the mask names. -/
structure Keeps (m : Nat) (s t : State) : Prop where
  pending : t.pending = s.pending
  now : t.now = s.now
  out : s.out <:+ t.out
  freeCtr : s.freeCtr ≤ t.freeCtr
  canon : s.canon = true → t.canon = true
  loft : m.testBit 0 = false → t.loft = s.loft ∧ t.loftPoison = s.loftPoison
  wings : m.testBit 1 = false → t.wings = s.wings
  latches : m.testBit 2 = false → t.win.latches = s.win.latches
  journals : m.testBit 3 = false → t.win.journals = s.win.journals
  atns : m.testBit 4 = false → t.win.atns = s.win.atns
  hifs : m.testBit 5 = false → t.win.hifs = s.win.hifs
  chans : m.testBit 6 = false → t.win.chans = s.win.chans
  clocks : m.testBit 7 = false → t.win.clocks = s.win.clocks
  rmcs : m.testBit 8 = false → t.win.rmcs = s.win.rmcs
  cores : m.testBit 9 = false → t.job.cores = s.job.cores
  parts : m.testBit 10 = false → t.job.parts = s.job.parts
  results : m.testBit 11 = false → t.job.results = s.job.results
  seSlots : m.testBit 12 = false → t.job.seSlots = s.job.seSlots
  semas : m.testBit 13 = false → t.job.semas = s.job.semas
  sends : m.testBit 14 = false → t.net.sends = s.net.sends
  recvs : m.testBit 15 = false → t.net.recvs = s.net.recvs
  replays : m.testBit 16 = false → t.net.replays = s.net.replays
  links : m.testBit 17 = false → t.net.links = s.net.links
  arbs : m.testBit 18 = false → t.net.arbs = s.net.arbs
  injects : m.testBit 19 = false → t.net.injects = s.net.injects
  fabricCredits : m.testBit 20 = false → t.net.fabricCredits = s.net.fabricCredits
  groupPtr : m.testBit 21 = false → t.net.groupPtr = s.net.groupPtr
  lofts : m.testBit 22 = false → t.cue.lofts = s.cue.lofts
  pchs : m.testBit 23 = false → t.cue.pchs = s.cue.pchs
  shadows : m.testBit 24 = false → t.cue.shadows = s.cue.shadows
  loads : m.testBit 25 = false → t.cue.loads = s.cue.loads
  pushes : m.testBit 26 = false → t.cue.pushes = s.cue.pushes
  slots : m.testBit 27 = false → t.cue.slots = s.cue.slots
  cueUnits : m.testBit 28 = false → t.cue.cueUnits = s.cue.cueUnits
  parks : m.testBit 29 = false → t.pow.parks = s.pow.parks
  doms : m.testBit 30 = false → t.pow.doms = s.pow.doms
  ledgers : m.testBit 31 = false → t.pow.ledgers = s.pow.ledgers
  bups : m.testBit 32 = false → t.pow.bups = s.pow.bups
  meters : m.testBit 33 = false → t.pow.meters = s.pow.meters
  ageMons : m.testBit 34 = false → t.pow.ageMons = s.pow.ageMons
  ageQs : m.testBit 35 = false → t.pow.ageQs = s.pow.ageQs
  thermChs : m.testBit 36 = false → t.pow.thermChs = s.pow.thermChs
  warming : m.testBit 37 = false → t.pow.warming = s.pow.warming
  wafers : m.testBit 38 = false → t.rack.wafers = s.rack.wafers
  tmcs : m.testBit 39 = false → t.rack.tmcs = s.rack.tmcs
  acts : m.testBit 40 = false → t.rack.acts = s.rack.acts
  fws : m.testBit 41 = false → t.rack.fws = s.rack.fws
  spots : m.testBit 42 = false → t.rack.spots = s.rack.spots
  twis : m.testBit 43 = false → t.rack.twis = s.rack.twis
  tafKept : m.testBit 44 = false → t.rack.tafKept = s.rack.tafKept
  etags : m.testBit 45 = false → t.rack.etags = s.rack.etags
  plans : m.testBit 46 = false → t.rack.plans = s.rack.plans
  shelves : m.testBit 47 = false → t.rack.shelves = s.rack.shelves
  planner : m.testBit 48 = false → t.rack.planner = s.rack.planner
  regs : ∀ (r : Reg) (w i : Nat), r.id < 320 → m.testBit (64 + r.id) = false → t.reg r w i = s.reg r w i

/-- The mask bit of a register. -/
def regBit (r : Reg) : Nat := if r.id < 320 then 2 ^ (64 + r.id) else 0

/-- The number with the low `n` bits set. -/
def lowMask (n : Nat) : Nat := 2 ^ n - 1

/-- The mask of every register. -/
def anyReg : Nat := lowMask 320 <<< 64

theorem lowMask_bit (n j : Nat) : (lowMask n <<< 64).testBit (64 + j) = decide (j < n) := by
  rw [Nat.testBit_shiftLeft, lowMask, Nat.testBit_two_pow_sub_one]; simp

theorem anyReg_bit {j : Nat} (h : j < 320) : anyReg.testBit (64 + j) = true := (lowMask_bit 320 j).trans (decide_eq_true h)

theorem testBit_of_sub {a b : Nat} (h : a ||| b = b) {i : Nat} (hi : b.testBit i = false) : a.testBit i = false := by
  have := congrArg (fun x => Nat.testBit x i) h
  simp only [Nat.testBit_or, hi, Bool.or_false] at this
  exact this

theorem regBit_sub {M : Nat} (h : anyReg ||| M = M) (r : Reg) : regBit r ||| M = M := by
  apply Nat.eq_of_testBit_eq
  intro i
  rw [Nat.testBit_or]
  by_cases hi : (regBit r).testBit i = true
  · have : M.testBit i = true := by
      unfold regBit at hi
      split at hi
      · rw [Nat.testBit_two_pow] at hi
        have e : 64 + r.id = i := by simpa using hi
        have h2 := congrArg (fun x => Nat.testBit x i) h
        simp only [Nat.testBit_or] at h2
        have h3 : anyReg.testBit i = true := by
          subst e
          exact anyReg_bit (by assumption)
        rw [h3] at h2; simpa using h2.symm
      · simp at hi
    simp [this]
  · simp [Bool.eq_false_iff.mpr hi]

theorem sub_right (a b : Nat) : b ||| (a ||| b) = a ||| b := by rw [Nat.or_comm, Nat.or_assoc, Nat.or_self]

theorem sub_left {c a b : Nat} (h : c ||| a = a) : c ||| (a ||| b) = a ||| b := by rw [← Nat.or_assoc, h]

theorem sub_or {a b M : Nat} (h : a ||| M = M) (h2 : b ||| M = M) : (a ||| b) ||| M = M := by rw [Nat.or_assoc, h2, h]

theorem sub_trans {a b c : Nat} (h : a ||| b = b) (h2 : b ||| c = c) : a ||| c = c := by
  rw [← h2, ← Nat.or_assoc, h]

theorem sub_zero (M : Nat) : 0 ||| M = M := Nat.zero_or M

theorem sub_refl (M : Nat) : M ||| M = M := Nat.or_self M

theorem Keeps.refl (m : Nat) (s : State) : Keeps m s s := by
  constructor <;> intros <;> first | rfl | exact ⟨rfl, rfl⟩ | exact List.suffix_rfl | exact Nat.le_refl _ | assumption

theorem Keeps.next {m M : Nat} {a b c : State} (h2 : Keeps m b c) (hm : m ||| M = M) (h1 : Keeps M a b) : Keeps M a c where
  pending := h2.pending.trans h1.pending
  now := h2.now.trans h1.now
  out := h1.out.trans h2.out
  freeCtr := Nat.le_trans h1.freeCtr h2.freeCtr
  canon h := h2.canon (h1.canon h)
  loft h := ⟨(h2.loft (testBit_of_sub hm h)).1.trans (h1.loft h).1, (h2.loft (testBit_of_sub hm h)).2.trans (h1.loft h).2⟩
  wings h := (h2.wings (testBit_of_sub hm h)).trans (h1.wings h)
  latches h := (h2.latches (testBit_of_sub hm h)).trans (h1.latches h)
  journals h := (h2.journals (testBit_of_sub hm h)).trans (h1.journals h)
  atns h := (h2.atns (testBit_of_sub hm h)).trans (h1.atns h)
  hifs h := (h2.hifs (testBit_of_sub hm h)).trans (h1.hifs h)
  chans h := (h2.chans (testBit_of_sub hm h)).trans (h1.chans h)
  clocks h := (h2.clocks (testBit_of_sub hm h)).trans (h1.clocks h)
  rmcs h := (h2.rmcs (testBit_of_sub hm h)).trans (h1.rmcs h)
  cores h := (h2.cores (testBit_of_sub hm h)).trans (h1.cores h)
  parts h := (h2.parts (testBit_of_sub hm h)).trans (h1.parts h)
  results h := (h2.results (testBit_of_sub hm h)).trans (h1.results h)
  seSlots h := (h2.seSlots (testBit_of_sub hm h)).trans (h1.seSlots h)
  semas h := (h2.semas (testBit_of_sub hm h)).trans (h1.semas h)
  sends h := (h2.sends (testBit_of_sub hm h)).trans (h1.sends h)
  recvs h := (h2.recvs (testBit_of_sub hm h)).trans (h1.recvs h)
  replays h := (h2.replays (testBit_of_sub hm h)).trans (h1.replays h)
  links h := (h2.links (testBit_of_sub hm h)).trans (h1.links h)
  arbs h := (h2.arbs (testBit_of_sub hm h)).trans (h1.arbs h)
  injects h := (h2.injects (testBit_of_sub hm h)).trans (h1.injects h)
  fabricCredits h := (h2.fabricCredits (testBit_of_sub hm h)).trans (h1.fabricCredits h)
  groupPtr h := (h2.groupPtr (testBit_of_sub hm h)).trans (h1.groupPtr h)
  lofts h := (h2.lofts (testBit_of_sub hm h)).trans (h1.lofts h)
  pchs h := (h2.pchs (testBit_of_sub hm h)).trans (h1.pchs h)
  shadows h := (h2.shadows (testBit_of_sub hm h)).trans (h1.shadows h)
  loads h := (h2.loads (testBit_of_sub hm h)).trans (h1.loads h)
  pushes h := (h2.pushes (testBit_of_sub hm h)).trans (h1.pushes h)
  slots h := (h2.slots (testBit_of_sub hm h)).trans (h1.slots h)
  cueUnits h := (h2.cueUnits (testBit_of_sub hm h)).trans (h1.cueUnits h)
  parks h := (h2.parks (testBit_of_sub hm h)).trans (h1.parks h)
  doms h := (h2.doms (testBit_of_sub hm h)).trans (h1.doms h)
  ledgers h := (h2.ledgers (testBit_of_sub hm h)).trans (h1.ledgers h)
  bups h := (h2.bups (testBit_of_sub hm h)).trans (h1.bups h)
  meters h := (h2.meters (testBit_of_sub hm h)).trans (h1.meters h)
  ageMons h := (h2.ageMons (testBit_of_sub hm h)).trans (h1.ageMons h)
  ageQs h := (h2.ageQs (testBit_of_sub hm h)).trans (h1.ageQs h)
  thermChs h := (h2.thermChs (testBit_of_sub hm h)).trans (h1.thermChs h)
  warming h := (h2.warming (testBit_of_sub hm h)).trans (h1.warming h)
  wafers h := (h2.wafers (testBit_of_sub hm h)).trans (h1.wafers h)
  tmcs h := (h2.tmcs (testBit_of_sub hm h)).trans (h1.tmcs h)
  acts h := (h2.acts (testBit_of_sub hm h)).trans (h1.acts h)
  fws h := (h2.fws (testBit_of_sub hm h)).trans (h1.fws h)
  spots h := (h2.spots (testBit_of_sub hm h)).trans (h1.spots h)
  twis h := (h2.twis (testBit_of_sub hm h)).trans (h1.twis h)
  tafKept h := (h2.tafKept (testBit_of_sub hm h)).trans (h1.tafKept h)
  etags h := (h2.etags (testBit_of_sub hm h)).trans (h1.etags h)
  plans h := (h2.plans (testBit_of_sub hm h)).trans (h1.plans h)
  shelves h := (h2.shelves (testBit_of_sub hm h)).trans (h1.shelves h)
  planner h := (h2.planner (testBit_of_sub hm h)).trans (h1.planner h)
  regs r w i hr h := (h2.regs r w i hr (testBit_of_sub hm h)).trans (h1.regs r w i hr h)

/-- A wider mask. -/
theorem Keeps.widen {m M : Nat} {a b : State} (h : Keeps m a b) (hm : m ||| M = M) : Keeps M a b := Keeps.next h hm (Keeps.refl M a)

theorem Keeps.ite {M : Nat} {a b c : State} {p : Prop} [Decidable p] (h1 : Keeps M a b) (h2 : Keeps M a c) : Keeps M a (if p then b else c) := by
  split
  · exact h1
  · exact h2

theorem Keeps.foldl {α : Type} {M : Nat} (g : State → α → State) (hg : ∀ x t, Keeps M t (g t x)) (xs : List α) {a b : State} (h : Keeps M a b) :
    Keeps M a (xs.foldl g b) := by
  induction xs generalizing b with
  | nil => exact h
  | cons x xs ih => exact ih (Keeps.next (hg x b) (sub_refl M) h)

theorem forEach_keeps {α : Type} {M : Nat} {g : α → State → State} (hg : ∀ x t, Keeps M t (g x t)) (xs : List α) {a b : State} (h : Keeps M a b) :
    Keeps M a (forEach xs b g) := Keeps.foldl _ hg xs h

theorem forEach_keeps_mem {α : Type} {M : Nat} {g : α → State → State} (xs : List α) (hg : ∀ x ∈ xs, ∀ t, Keeps M t (g x t)) {a b : State} (h : Keeps M a b) :
    Keeps M a (forEach xs b g) := by
  unfold forEach
  induction xs generalizing b with
  | nil => exact h
  | cons x xs ih =>
    exact ih (fun y hy => hg y (List.mem_cons_of_mem _ hy)) (Keeps.next (hg x (by simp) b) (sub_refl M) h)

theorem State.when_keeps {M : Nat} {g : State → State} (hg : ∀ t, Keeps M t (g t)) {c : Bool} {a b : State} (h : Keeps M a b) : Keeps M a (b.when c g) := by
  unfold State.when
  split
  · exact Keeps.next (hg b) (sub_refl M) h
  · exact h

/-! ## The writers -/

/-- The canonical form after a write of one map of a group, or of a plain field. -/
theorem canon_iff (s : State) : s.canon = true ↔ (Memory.wf s.loft = true ∧ mrises s.regs 0 = true ∧ mrises s.wings 0 = true ∧ s.loftPoison.Nodup ∧
    s.win.canon = true ∧ s.job.canon = true ∧ s.net.canon = true ∧ s.cue.canon = true ∧ s.pow.canon = true ∧ s.rack.canon = true) := by
  simp [State.canon, and_assoc]

theorem State.withFreeCtr_keeps (s : State) (v : Nat) (h : s.freeCtr ≤ v) : Keeps 0 s (s.withFreeCtr v) := by
  constructor <;> (intros; first | rfl | exact ⟨rfl, rfl⟩ | exact List.suffix_rfl | exact Nat.le_refl _ | assumption)

theorem State.emit_keeps (s : State) (e : Emit) : Keeps 0 s (s.emit e) := by
  constructor <;> intros <;> first | rfl | exact ⟨rfl, rfl⟩ | exact List.suffix_cons _ _ | exact Nat.le_refl _ | assumption

theorem State.fresh_keeps (s : State) : Keeps 0 s s.fresh.2 := State.withFreeCtr_keeps s _ (Nat.le_succ _)

theorem State.withWings_keeps (s : State) (v : List (Nat × Word)) (hv : mrises s.wings 0 = true → mrises v 0 = true) : Keeps 2 s (s.withWings v) := by
  constructor
  case canon =>
    intro h; rw [canon_iff] at h ⊢
    obtain ⟨h1, h2, h3, h4⟩ := h
    exact ⟨h1, h2, hv h3, h4⟩
  case wings => intro h; exact absurd h (by decide)
  all_goals intros; first | rfl | exact ⟨rfl, rfl⟩ | exact List.suffix_rfl | exact Nat.le_refl _ | assumption

theorem State.withLoft_keeps (s : State) (v : List Host.Cell) (hv : Memory.wf s.loft = true → Memory.wf v = true) : Keeps 1 s (s.withLoft v) := by
  constructor
  case canon =>
    intro h; rw [canon_iff] at h ⊢
    exact ⟨hv h.1, h.2⟩
  case loft => intro h; exact absurd h (by decide)
  all_goals intros; first | rfl | exact ⟨rfl, rfl⟩ | exact List.suffix_rfl | exact Nat.le_refl _ | assumption

theorem State.withLoftPoison_keeps (s : State) (v : List Nat) (hv : s.loftPoison.Nodup → v.Nodup) : Keeps 1 s (s.withLoftPoison v) := by
  constructor
  case canon =>
    intro h; rw [canon_iff] at h ⊢
    obtain ⟨h1, h2, h3, h4, h5⟩ := h
    exact ⟨h1, h2, h3, hv h4, h5⟩
  case loft => intro h; exact absurd h (by decide)
  all_goals intros; first | rfl | exact ⟨rfl, rfl⟩ | exact List.suffix_rfl | exact Nat.le_refl _ | assumption

theorem State.withRegs_keeps (s : State) (v : List (Nat × Word)) (hv : mrises s.regs 0 = true → mrises v 0 = true) : Keeps anyReg s (s.withRegs v) := by
  constructor
  case canon =>
    intro h; rw [canon_iff] at h ⊢
    obtain ⟨h1, h2, h3⟩ := h
    exact ⟨h1, hv h2, h3⟩
  case regs =>
    intro r w i hr h
    rw [anyReg_bit hr] at h
    exact absurd h (by decide)
  all_goals intros; first | rfl | exact ⟨rfl, rfl⟩ | exact List.suffix_rfl | exact Nat.le_refl _ | assumption

/-- A write of one register's copy, at every register and copy. -/
theorem State.reg_setReg (s : State) (r : Reg) (w i v : Nat) (q : Reg) (x j : Nat) (hd : q.id = r.id → q.resetAt j = r.resetAt j) :
    (s.setReg r w i v).reg q x j = if q.id = r.id ∧ x = w ∧ j = i then v % 2 ^ 64 else s.reg q x j := by
  unfold State.reg State.setReg
  simp only [State.withRegs_regs]
  by_cases hq : q.id = r.id ∧ x = w ∧ j = i
  · obtain ⟨h1, h2, h3⟩ := hq
    subst h2; subst h3
    have : Reg.key q x j = Reg.key r x j := by simp [Reg.key, h1]
    rw [hd h1, this, mget_mset]
    simp [h1]
  · have hk : Reg.key q x j ≠ Reg.key r w i := by
      intro h; apply hq; simpa [Reg.key] using h
    have hq' : ¬ (q.id = r.id ∧ x = w ∧ j = i) := hq
    rw [if_neg hq']
    congr 1
    by_cases hid : q.id = r.id
    · have gen : ∀ (d e : Word) (m : List (Nat × Word)), mget d (mset e m (r.key w i) (BitVec.ofNat 64 v)) (q.key x j) = mget d m (q.key x j) := by
        intro d e m
        exact mget_mset_ne d e m _ _ _ hk
      exact gen _ _ _
    · exact mget_mset_ne _ _ _ _ _ _ hk

theorem State.setReg_keeps (s : State) (r : Reg) (w i v : Nat) : Keeps (regBit r) s (s.setReg r w i v) := by
  constructor
  case canon =>
    intro h; rw [canon_iff] at h ⊢
    obtain ⟨h1, h2, h3⟩ := h
    exact ⟨h1, mrises_mset _ _ _ _ h2, h3⟩
  case regs =>
    intro q x j hq h
    have hne : q.id ≠ r.id := by
      intro e
      rw [regBit, if_pos (e ▸ hq), Nat.testBit_two_pow] at h
      simp [e] at h
    have hk : Reg.key q x j ≠ Reg.key r w i := by
      intro e; apply hne; have := e; simp only [Reg.key, key3_inj] at this; exact this.1
    unfold State.reg State.setReg
    simp only [State.withRegs_regs]
    rw [mget_mset_ne _ _ _ _ _ _ hk]
  all_goals intros; first | rfl | exact ⟨rfl, rfl⟩ | exact List.suffix_rfl | exact Nat.le_refl _ | assumption

theorem State.setWreg_keeps (s : State) (r : Reg) (w i v : Nat) : Keeps 2 s (s.setWreg r w i v) :=
  State.withWings_keeps s _ (mrises_mset _ _ _ _)

theorem State.wr_keeps (s : State) (f : Fld) (w i v : Nat) : Keeps (regBit f.reg) s (s.wr f w i v) := State.setReg_keeps s _ _ _ _

theorem State.bump_keeps (s : State) (f : Fld) (w i n : Nat) : Keeps (regBit f.reg) s (s.bump f w i n) := State.wr_keeps s _ _ _ _

theorem State.incWrap_keeps (s : State) (f : Fld) (w i n : Nat) : Keeps (regBit f.reg) s (s.incWrap f w i n) := State.wr_keeps s _ _ _ _

theorem State.wrSat_keeps (s : State) (f : Fld) (w i v : Nat) : Keeps (regBit f.reg) s (s.wrSat f w i v) := State.wr_keeps s _ _ _ _

theorem State.setSrc_keeps (s : State) (r : Reg) (w n : Nat) : Keeps (regBit r) s (s.setSrc r w n) := State.setReg_keeps s _ _ _ _

theorem State.wrW_keeps (s : State) (f : Fld) (w i v : Nat) : Keeps 2 s (s.wrW f w i v) := State.setWreg_keeps s _ _ _ _

theorem State.withLatches_keeps (s : State) (v : List (Nat × Latch)) (hv : mwf ({} : Latch) s.win.latches = true → mwf ({} : Latch) v = true) : Keeps 0x4 s (s.withLatches v) := by
  constructor
  case canon =>
    intro h; rw [canon_iff] at h ⊢
    obtain ⟨h1, h2, h3, h4, h5, h6, h7, h8, h9, h10⟩ := h
    have hg : (s.withLatches v).win.canon = true := by
      have hh := h5
      simp only [WinState.canon, Bool.and_eq_true] at hh ⊢
      exact ⟨⟨⟨⟨⟨⟨hv hh.1.1.1.1.1.1, hh.1.1.1.1.1.2⟩, hh.1.1.1.1.2⟩, hh.1.1.1.2⟩, hh.1.1.2⟩, hh.1.2⟩, hh.2⟩
    exact ⟨h1, h2, h3, h4, hg, h6, h7, h8, h9, h10⟩
  case latches => intro h; exact absurd h (by decide)
  all_goals intros; first | rfl | exact ⟨rfl, rfl⟩ | exact List.suffix_rfl | exact Nat.le_refl _ | assumption

theorem State.putLatches_keeps (s : State) (k : Nat) (v : Latch) : Keeps 0x4 s (s.putLatches k v) :=
  State.withLatches_keeps s _ (mwf_mset _ _ _ _)

@[simp] theorem State.getLatches_putLatches (s : State) (k j : Nat) (v : Latch) : (s.putLatches k v).getLatches j = if j = k then v else s.getLatches j := by
  simp [State.getLatches, State.putLatches]

theorem State.withJournals_keeps (s : State) (v : List (Nat × Journal)) (hv : mwf ({} : Journal) s.win.journals = true → mwf ({} : Journal) v = true) : Keeps 0x8 s (s.withJournals v) := by
  constructor
  case canon =>
    intro h; rw [canon_iff] at h ⊢
    obtain ⟨h1, h2, h3, h4, h5, h6, h7, h8, h9, h10⟩ := h
    have hg : (s.withJournals v).win.canon = true := by
      have hh := h5
      simp only [WinState.canon, Bool.and_eq_true] at hh ⊢
      exact ⟨⟨⟨⟨⟨⟨hh.1.1.1.1.1.1, hv hh.1.1.1.1.1.2⟩, hh.1.1.1.1.2⟩, hh.1.1.1.2⟩, hh.1.1.2⟩, hh.1.2⟩, hh.2⟩
    exact ⟨h1, h2, h3, h4, hg, h6, h7, h8, h9, h10⟩
  case journals => intro h; exact absurd h (by decide)
  all_goals intros; first | rfl | exact ⟨rfl, rfl⟩ | exact List.suffix_rfl | exact Nat.le_refl _ | assumption

theorem State.putJournals_keeps (s : State) (k : Nat) (v : Journal) : Keeps 0x8 s (s.putJournals k v) :=
  State.withJournals_keeps s _ (mwf_mset _ _ _ _)

@[simp] theorem State.getJournals_putJournals (s : State) (k j : Nat) (v : Journal) : (s.putJournals k v).getJournals j = if j = k then v else s.getJournals j := by
  simp [State.getJournals, State.putJournals]

theorem State.withAtns_keeps (s : State) (v : List (Nat × Atn)) (hv : mwf ({} : Atn) s.win.atns = true → mwf ({} : Atn) v = true) : Keeps 0x10 s (s.withAtns v) := by
  constructor
  case canon =>
    intro h; rw [canon_iff] at h ⊢
    obtain ⟨h1, h2, h3, h4, h5, h6, h7, h8, h9, h10⟩ := h
    have hg : (s.withAtns v).win.canon = true := by
      have hh := h5
      simp only [WinState.canon, Bool.and_eq_true] at hh ⊢
      exact ⟨⟨⟨⟨⟨⟨hh.1.1.1.1.1.1, hh.1.1.1.1.1.2⟩, hv hh.1.1.1.1.2⟩, hh.1.1.1.2⟩, hh.1.1.2⟩, hh.1.2⟩, hh.2⟩
    exact ⟨h1, h2, h3, h4, hg, h6, h7, h8, h9, h10⟩
  case atns => intro h; exact absurd h (by decide)
  all_goals intros; first | rfl | exact ⟨rfl, rfl⟩ | exact List.suffix_rfl | exact Nat.le_refl _ | assumption

theorem State.putAtns_keeps (s : State) (k : Nat) (v : Atn) : Keeps 0x10 s (s.putAtns k v) :=
  State.withAtns_keeps s _ (mwf_mset _ _ _ _)

@[simp] theorem State.getAtns_putAtns (s : State) (k j : Nat) (v : Atn) : (s.putAtns k v).getAtns j = if j = k then v else s.getAtns j := by
  simp [State.getAtns, State.putAtns]

theorem State.withHifs_keeps (s : State) (v : List (Nat × Hif)) (hv : mwf ({} : Hif) s.win.hifs = true → mwf ({} : Hif) v = true) : Keeps 0x20 s (s.withHifs v) := by
  constructor
  case canon =>
    intro h; rw [canon_iff] at h ⊢
    obtain ⟨h1, h2, h3, h4, h5, h6, h7, h8, h9, h10⟩ := h
    have hg : (s.withHifs v).win.canon = true := by
      have hh := h5
      simp only [WinState.canon, Bool.and_eq_true] at hh ⊢
      exact ⟨⟨⟨⟨⟨⟨hh.1.1.1.1.1.1, hh.1.1.1.1.1.2⟩, hh.1.1.1.1.2⟩, hv hh.1.1.1.2⟩, hh.1.1.2⟩, hh.1.2⟩, hh.2⟩
    exact ⟨h1, h2, h3, h4, hg, h6, h7, h8, h9, h10⟩
  case hifs => intro h; exact absurd h (by decide)
  all_goals intros; first | rfl | exact ⟨rfl, rfl⟩ | exact List.suffix_rfl | exact Nat.le_refl _ | assumption

theorem State.putHifs_keeps (s : State) (k : Nat) (v : Hif) : Keeps 0x20 s (s.putHifs k v) :=
  State.withHifs_keeps s _ (mwf_mset _ _ _ _)

@[simp] theorem State.getHifs_putHifs (s : State) (k j : Nat) (v : Hif) : (s.putHifs k v).getHifs j = if j = k then v else s.getHifs j := by
  simp [State.getHifs, State.putHifs]

theorem State.withChans_keeps (s : State) (v : List (Nat × Chan)) (hv : mwf ({} : Chan) s.win.chans = true → mwf ({} : Chan) v = true) : Keeps 0x40 s (s.withChans v) := by
  constructor
  case canon =>
    intro h; rw [canon_iff] at h ⊢
    obtain ⟨h1, h2, h3, h4, h5, h6, h7, h8, h9, h10⟩ := h
    have hg : (s.withChans v).win.canon = true := by
      have hh := h5
      simp only [WinState.canon, Bool.and_eq_true] at hh ⊢
      exact ⟨⟨⟨⟨⟨⟨hh.1.1.1.1.1.1, hh.1.1.1.1.1.2⟩, hh.1.1.1.1.2⟩, hh.1.1.1.2⟩, hv hh.1.1.2⟩, hh.1.2⟩, hh.2⟩
    exact ⟨h1, h2, h3, h4, hg, h6, h7, h8, h9, h10⟩
  case chans => intro h; exact absurd h (by decide)
  all_goals intros; first | rfl | exact ⟨rfl, rfl⟩ | exact List.suffix_rfl | exact Nat.le_refl _ | assumption

theorem State.putChans_keeps (s : State) (k : Nat) (v : Chan) : Keeps 0x40 s (s.putChans k v) :=
  State.withChans_keeps s _ (mwf_mset _ _ _ _)

@[simp] theorem State.getChans_putChans (s : State) (k j : Nat) (v : Chan) : (s.putChans k v).getChans j = if j = k then v else s.getChans j := by
  simp [State.getChans, State.putChans]

theorem State.withClocks_keeps (s : State) (v : List (Nat × Clock)) (hv : mwf ({} : Clock) s.win.clocks = true → mwf ({} : Clock) v = true) : Keeps 0x80 s (s.withClocks v) := by
  constructor
  case canon =>
    intro h; rw [canon_iff] at h ⊢
    obtain ⟨h1, h2, h3, h4, h5, h6, h7, h8, h9, h10⟩ := h
    have hg : (s.withClocks v).win.canon = true := by
      have hh := h5
      simp only [WinState.canon, Bool.and_eq_true] at hh ⊢
      exact ⟨⟨⟨⟨⟨⟨hh.1.1.1.1.1.1, hh.1.1.1.1.1.2⟩, hh.1.1.1.1.2⟩, hh.1.1.1.2⟩, hh.1.1.2⟩, hv hh.1.2⟩, hh.2⟩
    exact ⟨h1, h2, h3, h4, hg, h6, h7, h8, h9, h10⟩
  case clocks => intro h; exact absurd h (by decide)
  all_goals intros; first | rfl | exact ⟨rfl, rfl⟩ | exact List.suffix_rfl | exact Nat.le_refl _ | assumption

theorem State.putClocks_keeps (s : State) (k : Nat) (v : Clock) : Keeps 0x80 s (s.putClocks k v) :=
  State.withClocks_keeps s _ (mwf_mset _ _ _ _)

@[simp] theorem State.getClocks_putClocks (s : State) (k j : Nat) (v : Clock) : (s.putClocks k v).getClocks j = if j = k then v else s.getClocks j := by
  simp [State.getClocks, State.putClocks]

theorem State.withRmcs_keeps (s : State) (v : List (Nat × Rmc)) (hv : mwf ({} : Rmc) s.win.rmcs = true → mwf ({} : Rmc) v = true) : Keeps 0x100 s (s.withRmcs v) := by
  constructor
  case canon =>
    intro h; rw [canon_iff] at h ⊢
    obtain ⟨h1, h2, h3, h4, h5, h6, h7, h8, h9, h10⟩ := h
    have hg : (s.withRmcs v).win.canon = true := by
      have hh := h5
      simp only [WinState.canon, Bool.and_eq_true] at hh ⊢
      exact ⟨⟨⟨⟨⟨⟨hh.1.1.1.1.1.1, hh.1.1.1.1.1.2⟩, hh.1.1.1.1.2⟩, hh.1.1.1.2⟩, hh.1.1.2⟩, hh.1.2⟩, hv hh.2⟩
    exact ⟨h1, h2, h3, h4, hg, h6, h7, h8, h9, h10⟩
  case rmcs => intro h; exact absurd h (by decide)
  all_goals intros; first | rfl | exact ⟨rfl, rfl⟩ | exact List.suffix_rfl | exact Nat.le_refl _ | assumption

theorem State.putRmcs_keeps (s : State) (k : Nat) (v : Rmc) : Keeps 0x100 s (s.putRmcs k v) :=
  State.withRmcs_keeps s _ (mwf_mset _ _ _ _)

@[simp] theorem State.getRmcs_putRmcs (s : State) (k j : Nat) (v : Rmc) : (s.putRmcs k v).getRmcs j = if j = k then v else s.getRmcs j := by
  simp [State.getRmcs, State.putRmcs]

theorem State.withCores_keeps (s : State) (v : List (Nat × Core)) (hv : mwf ({} : Core) s.job.cores = true → mwf ({} : Core) v = true) : Keeps 0x200 s (s.withCores v) := by
  constructor
  case canon =>
    intro h; rw [canon_iff] at h ⊢
    obtain ⟨h1, h2, h3, h4, h5, h6, h7, h8, h9, h10⟩ := h
    have hg : (s.withCores v).job.canon = true := by
      have hh := h6
      simp only [JobState.canon, Bool.and_eq_true] at hh ⊢
      exact ⟨⟨⟨⟨hv hh.1.1.1.1, hh.1.1.1.2⟩, hh.1.1.2⟩, hh.1.2⟩, hh.2⟩
    exact ⟨h1, h2, h3, h4, h5, hg, h7, h8, h9, h10⟩
  case cores => intro h; exact absurd h (by decide)
  all_goals intros; first | rfl | exact ⟨rfl, rfl⟩ | exact List.suffix_rfl | exact Nat.le_refl _ | assumption

theorem State.putCores_keeps (s : State) (k : Nat) (v : Core) : Keeps 0x200 s (s.putCores k v) :=
  State.withCores_keeps s _ (mwf_mset _ _ _ _)

@[simp] theorem State.getCores_putCores (s : State) (k j : Nat) (v : Core) : (s.putCores k v).getCores j = if j = k then v else s.getCores j := by
  simp [State.getCores, State.putCores]

theorem State.withParts_keeps (s : State) (v : List (Nat × Part)) (hv : mwf ({} : Part) s.job.parts = true → mwf ({} : Part) v = true) : Keeps 0x400 s (s.withParts v) := by
  constructor
  case canon =>
    intro h; rw [canon_iff] at h ⊢
    obtain ⟨h1, h2, h3, h4, h5, h6, h7, h8, h9, h10⟩ := h
    have hg : (s.withParts v).job.canon = true := by
      have hh := h6
      simp only [JobState.canon, Bool.and_eq_true] at hh ⊢
      exact ⟨⟨⟨⟨hh.1.1.1.1, hv hh.1.1.1.2⟩, hh.1.1.2⟩, hh.1.2⟩, hh.2⟩
    exact ⟨h1, h2, h3, h4, h5, hg, h7, h8, h9, h10⟩
  case parts => intro h; exact absurd h (by decide)
  all_goals intros; first | rfl | exact ⟨rfl, rfl⟩ | exact List.suffix_rfl | exact Nat.le_refl _ | assumption

theorem State.putParts_keeps (s : State) (k : Nat) (v : Part) : Keeps 0x400 s (s.putParts k v) :=
  State.withParts_keeps s _ (mwf_mset _ _ _ _)

@[simp] theorem State.getParts_putParts (s : State) (k j : Nat) (v : Part) : (s.putParts k v).getParts j = if j = k then v else s.getParts j := by
  simp [State.getParts, State.putParts]

theorem State.withResults_keeps (s : State) (v : List (Nat × List (Nat × Nat))) (hv : mwf ([] : List (Nat × Nat)) s.job.results = true → mwf ([] : List (Nat × Nat)) v = true) : Keeps 0x800 s (s.withResults v) := by
  constructor
  case canon =>
    intro h; rw [canon_iff] at h ⊢
    obtain ⟨h1, h2, h3, h4, h5, h6, h7, h8, h9, h10⟩ := h
    have hg : (s.withResults v).job.canon = true := by
      have hh := h6
      simp only [JobState.canon, Bool.and_eq_true] at hh ⊢
      exact ⟨⟨⟨⟨hh.1.1.1.1, hh.1.1.1.2⟩, hv hh.1.1.2⟩, hh.1.2⟩, hh.2⟩
    exact ⟨h1, h2, h3, h4, h5, hg, h7, h8, h9, h10⟩
  case results => intro h; exact absurd h (by decide)
  all_goals intros; first | rfl | exact ⟨rfl, rfl⟩ | exact List.suffix_rfl | exact Nat.le_refl _ | assumption

theorem State.putResults_keeps (s : State) (k : Nat) (v : (List (Nat × Nat))) : Keeps 0x800 s (s.putResults k v) :=
  State.withResults_keeps s _ (mwf_mset _ _ _ _)

@[simp] theorem State.getResults_putResults (s : State) (k j : Nat) (v : (List (Nat × Nat))) : (s.putResults k v).getResults j = if j = k then v else s.getResults j := by
  simp [State.getResults, State.putResults]

theorem State.withSeSlots_keeps (s : State) (v : List (Nat × SeSlot)) (hv : mwf ({} : SeSlot) s.job.seSlots = true → mwf ({} : SeSlot) v = true) : Keeps 0x1000 s (s.withSeSlots v) := by
  constructor
  case canon =>
    intro h; rw [canon_iff] at h ⊢
    obtain ⟨h1, h2, h3, h4, h5, h6, h7, h8, h9, h10⟩ := h
    have hg : (s.withSeSlots v).job.canon = true := by
      have hh := h6
      simp only [JobState.canon, Bool.and_eq_true] at hh ⊢
      exact ⟨⟨⟨⟨hh.1.1.1.1, hh.1.1.1.2⟩, hh.1.1.2⟩, hv hh.1.2⟩, hh.2⟩
    exact ⟨h1, h2, h3, h4, h5, hg, h7, h8, h9, h10⟩
  case seSlots => intro h; exact absurd h (by decide)
  all_goals intros; first | rfl | exact ⟨rfl, rfl⟩ | exact List.suffix_rfl | exact Nat.le_refl _ | assumption

theorem State.putSeSlots_keeps (s : State) (k : Nat) (v : SeSlot) : Keeps 0x1000 s (s.putSeSlots k v) :=
  State.withSeSlots_keeps s _ (mwf_mset _ _ _ _)

@[simp] theorem State.getSeSlots_putSeSlots (s : State) (k j : Nat) (v : SeSlot) : (s.putSeSlots k v).getSeSlots j = if j = k then v else s.getSeSlots j := by
  simp [State.getSeSlots, State.putSeSlots]

theorem State.withSemas_keeps (s : State) (v : List (Nat × Sema)) (hv : mwf ({} : Sema) s.job.semas = true → mwf ({} : Sema) v = true) : Keeps 0x2000 s (s.withSemas v) := by
  constructor
  case canon =>
    intro h; rw [canon_iff] at h ⊢
    obtain ⟨h1, h2, h3, h4, h5, h6, h7, h8, h9, h10⟩ := h
    have hg : (s.withSemas v).job.canon = true := by
      have hh := h6
      simp only [JobState.canon, Bool.and_eq_true] at hh ⊢
      exact ⟨⟨⟨⟨hh.1.1.1.1, hh.1.1.1.2⟩, hh.1.1.2⟩, hh.1.2⟩, hv hh.2⟩
    exact ⟨h1, h2, h3, h4, h5, hg, h7, h8, h9, h10⟩
  case semas => intro h; exact absurd h (by decide)
  all_goals intros; first | rfl | exact ⟨rfl, rfl⟩ | exact List.suffix_rfl | exact Nat.le_refl _ | assumption

theorem State.putSemas_keeps (s : State) (k : Nat) (v : Sema) : Keeps 0x2000 s (s.putSemas k v) :=
  State.withSemas_keeps s _ (mwf_mset _ _ _ _)

@[simp] theorem State.getSemas_putSemas (s : State) (k j : Nat) (v : Sema) : (s.putSemas k v).getSemas j = if j = k then v else s.getSemas j := by
  simp [State.getSemas, State.putSemas]

theorem State.withSends_keeps (s : State) (v : List (Nat × SendStream)) (hv : mwf ({} : SendStream) s.net.sends = true → mwf ({} : SendStream) v = true) : Keeps 0x4000 s (s.withSends v) := by
  constructor
  case canon =>
    intro h; rw [canon_iff] at h ⊢
    obtain ⟨h1, h2, h3, h4, h5, h6, h7, h8, h9, h10⟩ := h
    have hg : (s.withSends v).net.canon = true := by
      have hh := h7
      simp only [NetState.canon, Bool.and_eq_true] at hh ⊢
      exact ⟨⟨⟨⟨⟨⟨⟨hv hh.1.1.1.1.1.1.1, hh.1.1.1.1.1.1.2⟩, hh.1.1.1.1.1.2⟩, hh.1.1.1.1.2⟩, hh.1.1.1.2⟩, hh.1.1.2⟩, hh.1.2⟩, hh.2⟩
    exact ⟨h1, h2, h3, h4, h5, h6, hg, h8, h9, h10⟩
  case sends => intro h; exact absurd h (by decide)
  all_goals intros; first | rfl | exact ⟨rfl, rfl⟩ | exact List.suffix_rfl | exact Nat.le_refl _ | assumption

theorem State.putSends_keeps (s : State) (k : Nat) (v : SendStream) : Keeps 0x4000 s (s.putSends k v) :=
  State.withSends_keeps s _ (mwf_mset _ _ _ _)

@[simp] theorem State.getSends_putSends (s : State) (k j : Nat) (v : SendStream) : (s.putSends k v).getSends j = if j = k then v else s.getSends j := by
  simp [State.getSends, State.putSends]

theorem State.withRecvs_keeps (s : State) (v : List (Nat × RecvStream)) (hv : mwf ({} : RecvStream) s.net.recvs = true → mwf ({} : RecvStream) v = true) : Keeps 0x8000 s (s.withRecvs v) := by
  constructor
  case canon =>
    intro h; rw [canon_iff] at h ⊢
    obtain ⟨h1, h2, h3, h4, h5, h6, h7, h8, h9, h10⟩ := h
    have hg : (s.withRecvs v).net.canon = true := by
      have hh := h7
      simp only [NetState.canon, Bool.and_eq_true] at hh ⊢
      exact ⟨⟨⟨⟨⟨⟨⟨hh.1.1.1.1.1.1.1, hv hh.1.1.1.1.1.1.2⟩, hh.1.1.1.1.1.2⟩, hh.1.1.1.1.2⟩, hh.1.1.1.2⟩, hh.1.1.2⟩, hh.1.2⟩, hh.2⟩
    exact ⟨h1, h2, h3, h4, h5, h6, hg, h8, h9, h10⟩
  case recvs => intro h; exact absurd h (by decide)
  all_goals intros; first | rfl | exact ⟨rfl, rfl⟩ | exact List.suffix_rfl | exact Nat.le_refl _ | assumption

theorem State.putRecvs_keeps (s : State) (k : Nat) (v : RecvStream) : Keeps 0x8000 s (s.putRecvs k v) :=
  State.withRecvs_keeps s _ (mwf_mset _ _ _ _)

@[simp] theorem State.getRecvs_putRecvs (s : State) (k j : Nat) (v : RecvStream) : (s.putRecvs k v).getRecvs j = if j = k then v else s.getRecvs j := by
  simp [State.getRecvs, State.putRecvs]

theorem State.withReplays_keeps (s : State) (v : List (Nat × ReplayTable)) (hv : mwf ({} : ReplayTable) s.net.replays = true → mwf ({} : ReplayTable) v = true) : Keeps 0x10000 s (s.withReplays v) := by
  constructor
  case canon =>
    intro h; rw [canon_iff] at h ⊢
    obtain ⟨h1, h2, h3, h4, h5, h6, h7, h8, h9, h10⟩ := h
    have hg : (s.withReplays v).net.canon = true := by
      have hh := h7
      simp only [NetState.canon, Bool.and_eq_true] at hh ⊢
      exact ⟨⟨⟨⟨⟨⟨⟨hh.1.1.1.1.1.1.1, hh.1.1.1.1.1.1.2⟩, hv hh.1.1.1.1.1.2⟩, hh.1.1.1.1.2⟩, hh.1.1.1.2⟩, hh.1.1.2⟩, hh.1.2⟩, hh.2⟩
    exact ⟨h1, h2, h3, h4, h5, h6, hg, h8, h9, h10⟩
  case replays => intro h; exact absurd h (by decide)
  all_goals intros; first | rfl | exact ⟨rfl, rfl⟩ | exact List.suffix_rfl | exact Nat.le_refl _ | assumption

theorem State.putReplays_keeps (s : State) (k : Nat) (v : ReplayTable) : Keeps 0x10000 s (s.putReplays k v) :=
  State.withReplays_keeps s _ (mwf_mset _ _ _ _)

@[simp] theorem State.getReplays_putReplays (s : State) (k j : Nat) (v : ReplayTable) : (s.putReplays k v).getReplays j = if j = k then v else s.getReplays j := by
  simp [State.getReplays, State.putReplays]

theorem State.withLinks_keeps (s : State) (v : List (Nat × LinkEnd)) (hv : mwf ({} : LinkEnd) s.net.links = true → mwf ({} : LinkEnd) v = true) : Keeps 0x20000 s (s.withLinks v) := by
  constructor
  case canon =>
    intro h; rw [canon_iff] at h ⊢
    obtain ⟨h1, h2, h3, h4, h5, h6, h7, h8, h9, h10⟩ := h
    have hg : (s.withLinks v).net.canon = true := by
      have hh := h7
      simp only [NetState.canon, Bool.and_eq_true] at hh ⊢
      exact ⟨⟨⟨⟨⟨⟨⟨hh.1.1.1.1.1.1.1, hh.1.1.1.1.1.1.2⟩, hh.1.1.1.1.1.2⟩, hv hh.1.1.1.1.2⟩, hh.1.1.1.2⟩, hh.1.1.2⟩, hh.1.2⟩, hh.2⟩
    exact ⟨h1, h2, h3, h4, h5, h6, hg, h8, h9, h10⟩
  case links => intro h; exact absurd h (by decide)
  all_goals intros; first | rfl | exact ⟨rfl, rfl⟩ | exact List.suffix_rfl | exact Nat.le_refl _ | assumption

theorem State.putLinks_keeps (s : State) (k : Nat) (v : LinkEnd) : Keeps 0x20000 s (s.putLinks k v) :=
  State.withLinks_keeps s _ (mwf_mset _ _ _ _)

@[simp] theorem State.getLinks_putLinks (s : State) (k j : Nat) (v : LinkEnd) : (s.putLinks k v).getLinks j = if j = k then v else s.getLinks j := by
  simp [State.getLinks, State.putLinks]

theorem State.withArbs_keeps (s : State) (v : List (Nat × OutArb)) (hv : mwf ({} : OutArb) s.net.arbs = true → mwf ({} : OutArb) v = true) : Keeps 0x40000 s (s.withArbs v) := by
  constructor
  case canon =>
    intro h; rw [canon_iff] at h ⊢
    obtain ⟨h1, h2, h3, h4, h5, h6, h7, h8, h9, h10⟩ := h
    have hg : (s.withArbs v).net.canon = true := by
      have hh := h7
      simp only [NetState.canon, Bool.and_eq_true] at hh ⊢
      exact ⟨⟨⟨⟨⟨⟨⟨hh.1.1.1.1.1.1.1, hh.1.1.1.1.1.1.2⟩, hh.1.1.1.1.1.2⟩, hh.1.1.1.1.2⟩, hv hh.1.1.1.2⟩, hh.1.1.2⟩, hh.1.2⟩, hh.2⟩
    exact ⟨h1, h2, h3, h4, h5, h6, hg, h8, h9, h10⟩
  case arbs => intro h; exact absurd h (by decide)
  all_goals intros; first | rfl | exact ⟨rfl, rfl⟩ | exact List.suffix_rfl | exact Nat.le_refl _ | assumption

theorem State.putArbs_keeps (s : State) (k : Nat) (v : OutArb) : Keeps 0x40000 s (s.putArbs k v) :=
  State.withArbs_keeps s _ (mwf_mset _ _ _ _)

@[simp] theorem State.getArbs_putArbs (s : State) (k j : Nat) (v : OutArb) : (s.putArbs k v).getArbs j = if j = k then v else s.getArbs j := by
  simp [State.getArbs, State.putArbs]

theorem State.withInjects_keeps (s : State) (v : List (Nat × Inject)) (hv : mwf ({} : Inject) s.net.injects = true → mwf ({} : Inject) v = true) : Keeps 0x80000 s (s.withInjects v) := by
  constructor
  case canon =>
    intro h; rw [canon_iff] at h ⊢
    obtain ⟨h1, h2, h3, h4, h5, h6, h7, h8, h9, h10⟩ := h
    have hg : (s.withInjects v).net.canon = true := by
      have hh := h7
      simp only [NetState.canon, Bool.and_eq_true] at hh ⊢
      exact ⟨⟨⟨⟨⟨⟨⟨hh.1.1.1.1.1.1.1, hh.1.1.1.1.1.1.2⟩, hh.1.1.1.1.1.2⟩, hh.1.1.1.1.2⟩, hh.1.1.1.2⟩, hv hh.1.1.2⟩, hh.1.2⟩, hh.2⟩
    exact ⟨h1, h2, h3, h4, h5, h6, hg, h8, h9, h10⟩
  case injects => intro h; exact absurd h (by decide)
  all_goals intros; first | rfl | exact ⟨rfl, rfl⟩ | exact List.suffix_rfl | exact Nat.le_refl _ | assumption

theorem State.putInjects_keeps (s : State) (k : Nat) (v : Inject) : Keeps 0x80000 s (s.putInjects k v) :=
  State.withInjects_keeps s _ (mwf_mset _ _ _ _)

@[simp] theorem State.getInjects_putInjects (s : State) (k j : Nat) (v : Inject) : (s.putInjects k v).getInjects j = if j = k then v else s.getInjects j := by
  simp [State.getInjects, State.putInjects]

theorem State.withFabricCredits_keeps (s : State) (v : List (Nat × Nat)) (hv : mwf (0 : Nat) s.net.fabricCredits = true → mwf (0 : Nat) v = true) : Keeps 0x100000 s (s.withFabricCredits v) := by
  constructor
  case canon =>
    intro h; rw [canon_iff] at h ⊢
    obtain ⟨h1, h2, h3, h4, h5, h6, h7, h8, h9, h10⟩ := h
    have hg : (s.withFabricCredits v).net.canon = true := by
      have hh := h7
      simp only [NetState.canon, Bool.and_eq_true] at hh ⊢
      exact ⟨⟨⟨⟨⟨⟨⟨hh.1.1.1.1.1.1.1, hh.1.1.1.1.1.1.2⟩, hh.1.1.1.1.1.2⟩, hh.1.1.1.1.2⟩, hh.1.1.1.2⟩, hh.1.1.2⟩, hv hh.1.2⟩, hh.2⟩
    exact ⟨h1, h2, h3, h4, h5, h6, hg, h8, h9, h10⟩
  case fabricCredits => intro h; exact absurd h (by decide)
  all_goals intros; first | rfl | exact ⟨rfl, rfl⟩ | exact List.suffix_rfl | exact Nat.le_refl _ | assumption

theorem State.putFabricCredits_keeps (s : State) (k : Nat) (v : Nat) : Keeps 0x100000 s (s.putFabricCredits k v) :=
  State.withFabricCredits_keeps s _ (mwf_mset _ _ _ _)

@[simp] theorem State.getFabricCredits_putFabricCredits (s : State) (k j : Nat) (v : Nat) : (s.putFabricCredits k v).getFabricCredits j = if j = k then v else s.getFabricCredits j := by
  simp [State.getFabricCredits, State.putFabricCredits]

theorem State.withGroupPtr_keeps (s : State) (v : List (Nat × Nat)) (hv : mwf (0 : Nat) s.net.groupPtr = true → mwf (0 : Nat) v = true) : Keeps 0x200000 s (s.withGroupPtr v) := by
  constructor
  case canon =>
    intro h; rw [canon_iff] at h ⊢
    obtain ⟨h1, h2, h3, h4, h5, h6, h7, h8, h9, h10⟩ := h
    have hg : (s.withGroupPtr v).net.canon = true := by
      have hh := h7
      simp only [NetState.canon, Bool.and_eq_true] at hh ⊢
      exact ⟨⟨⟨⟨⟨⟨⟨hh.1.1.1.1.1.1.1, hh.1.1.1.1.1.1.2⟩, hh.1.1.1.1.1.2⟩, hh.1.1.1.1.2⟩, hh.1.1.1.2⟩, hh.1.1.2⟩, hh.1.2⟩, hv hh.2⟩
    exact ⟨h1, h2, h3, h4, h5, h6, hg, h8, h9, h10⟩
  case groupPtr => intro h; exact absurd h (by decide)
  all_goals intros; first | rfl | exact ⟨rfl, rfl⟩ | exact List.suffix_rfl | exact Nat.le_refl _ | assumption

theorem State.putGroupPtr_keeps (s : State) (k : Nat) (v : Nat) : Keeps 0x200000 s (s.putGroupPtr k v) :=
  State.withGroupPtr_keeps s _ (mwf_mset _ _ _ _)

@[simp] theorem State.getGroupPtr_putGroupPtr (s : State) (k j : Nat) (v : Nat) : (s.putGroupPtr k v).getGroupPtr j = if j = k then v else s.getGroupPtr j := by
  simp [State.getGroupPtr, State.putGroupPtr]

theorem State.withLofts_keeps (s : State) (v : List (Nat × LoftSt)) (hv : mwf ({} : LoftSt) s.cue.lofts = true → mwf ({} : LoftSt) v = true) : Keeps 0x400000 s (s.withLofts v) := by
  constructor
  case canon =>
    intro h; rw [canon_iff] at h ⊢
    obtain ⟨h1, h2, h3, h4, h5, h6, h7, h8, h9, h10⟩ := h
    have hg : (s.withLofts v).cue.canon = true := by
      have hh := h8
      simp only [CueState.canon, Bool.and_eq_true] at hh ⊢
      exact ⟨⟨⟨⟨⟨⟨hv hh.1.1.1.1.1.1, hh.1.1.1.1.1.2⟩, hh.1.1.1.1.2⟩, hh.1.1.1.2⟩, hh.1.1.2⟩, hh.1.2⟩, hh.2⟩
    exact ⟨h1, h2, h3, h4, h5, h6, h7, hg, h9, h10⟩
  case lofts => intro h; exact absurd h (by decide)
  all_goals intros; first | rfl | exact ⟨rfl, rfl⟩ | exact List.suffix_rfl | exact Nat.le_refl _ | assumption

theorem State.putLofts_keeps (s : State) (k : Nat) (v : LoftSt) : Keeps 0x400000 s (s.putLofts k v) :=
  State.withLofts_keeps s _ (mwf_mset _ _ _ _)

@[simp] theorem State.getLofts_putLofts (s : State) (k j : Nat) (v : LoftSt) : (s.putLofts k v).getLofts j = if j = k then v else s.getLofts j := by
  simp [State.getLofts, State.putLofts]

theorem State.withPchs_keeps (s : State) (v : List (Nat × Pch)) (hv : mwf ({} : Pch) s.cue.pchs = true → mwf ({} : Pch) v = true) : Keeps 0x800000 s (s.withPchs v) := by
  constructor
  case canon =>
    intro h; rw [canon_iff] at h ⊢
    obtain ⟨h1, h2, h3, h4, h5, h6, h7, h8, h9, h10⟩ := h
    have hg : (s.withPchs v).cue.canon = true := by
      have hh := h8
      simp only [CueState.canon, Bool.and_eq_true] at hh ⊢
      exact ⟨⟨⟨⟨⟨⟨hh.1.1.1.1.1.1, hv hh.1.1.1.1.1.2⟩, hh.1.1.1.1.2⟩, hh.1.1.1.2⟩, hh.1.1.2⟩, hh.1.2⟩, hh.2⟩
    exact ⟨h1, h2, h3, h4, h5, h6, h7, hg, h9, h10⟩
  case pchs => intro h; exact absurd h (by decide)
  all_goals intros; first | rfl | exact ⟨rfl, rfl⟩ | exact List.suffix_rfl | exact Nat.le_refl _ | assumption

theorem State.putPchs_keeps (s : State) (k : Nat) (v : Pch) : Keeps 0x800000 s (s.putPchs k v) :=
  State.withPchs_keeps s _ (mwf_mset _ _ _ _)

@[simp] theorem State.getPchs_putPchs (s : State) (k j : Nat) (v : Pch) : (s.putPchs k v).getPchs j = if j = k then v else s.getPchs j := by
  simp [State.getPchs, State.putPchs]

theorem State.withShadows_keeps (s : State) (v : List (Nat × Shadow)) (hv : mwf ({} : Shadow) s.cue.shadows = true → mwf ({} : Shadow) v = true) : Keeps 0x1000000 s (s.withShadows v) := by
  constructor
  case canon =>
    intro h; rw [canon_iff] at h ⊢
    obtain ⟨h1, h2, h3, h4, h5, h6, h7, h8, h9, h10⟩ := h
    have hg : (s.withShadows v).cue.canon = true := by
      have hh := h8
      simp only [CueState.canon, Bool.and_eq_true] at hh ⊢
      exact ⟨⟨⟨⟨⟨⟨hh.1.1.1.1.1.1, hh.1.1.1.1.1.2⟩, hv hh.1.1.1.1.2⟩, hh.1.1.1.2⟩, hh.1.1.2⟩, hh.1.2⟩, hh.2⟩
    exact ⟨h1, h2, h3, h4, h5, h6, h7, hg, h9, h10⟩
  case shadows => intro h; exact absurd h (by decide)
  all_goals intros; first | rfl | exact ⟨rfl, rfl⟩ | exact List.suffix_rfl | exact Nat.le_refl _ | assumption

theorem State.putShadows_keeps (s : State) (k : Nat) (v : Shadow) : Keeps 0x1000000 s (s.putShadows k v) :=
  State.withShadows_keeps s _ (mwf_mset _ _ _ _)

@[simp] theorem State.getShadows_putShadows (s : State) (k j : Nat) (v : Shadow) : (s.putShadows k v).getShadows j = if j = k then v else s.getShadows j := by
  simp [State.getShadows, State.putShadows]

theorem State.withLoads_keeps (s : State) (v : List (Nat × Load)) (hv : mwf ({} : Load) s.cue.loads = true → mwf ({} : Load) v = true) : Keeps 0x2000000 s (s.withLoads v) := by
  constructor
  case canon =>
    intro h; rw [canon_iff] at h ⊢
    obtain ⟨h1, h2, h3, h4, h5, h6, h7, h8, h9, h10⟩ := h
    have hg : (s.withLoads v).cue.canon = true := by
      have hh := h8
      simp only [CueState.canon, Bool.and_eq_true] at hh ⊢
      exact ⟨⟨⟨⟨⟨⟨hh.1.1.1.1.1.1, hh.1.1.1.1.1.2⟩, hh.1.1.1.1.2⟩, hv hh.1.1.1.2⟩, hh.1.1.2⟩, hh.1.2⟩, hh.2⟩
    exact ⟨h1, h2, h3, h4, h5, h6, h7, hg, h9, h10⟩
  case loads => intro h; exact absurd h (by decide)
  all_goals intros; first | rfl | exact ⟨rfl, rfl⟩ | exact List.suffix_rfl | exact Nat.le_refl _ | assumption

theorem State.putLoads_keeps (s : State) (k : Nat) (v : Load) : Keeps 0x2000000 s (s.putLoads k v) :=
  State.withLoads_keeps s _ (mwf_mset _ _ _ _)

@[simp] theorem State.getLoads_putLoads (s : State) (k j : Nat) (v : Load) : (s.putLoads k v).getLoads j = if j = k then v else s.getLoads j := by
  simp [State.getLoads, State.putLoads]

theorem State.withPushes_keeps (s : State) (v : List (Nat × Push)) (hv : mwf ({} : Push) s.cue.pushes = true → mwf ({} : Push) v = true) : Keeps 0x4000000 s (s.withPushes v) := by
  constructor
  case canon =>
    intro h; rw [canon_iff] at h ⊢
    obtain ⟨h1, h2, h3, h4, h5, h6, h7, h8, h9, h10⟩ := h
    have hg : (s.withPushes v).cue.canon = true := by
      have hh := h8
      simp only [CueState.canon, Bool.and_eq_true] at hh ⊢
      exact ⟨⟨⟨⟨⟨⟨hh.1.1.1.1.1.1, hh.1.1.1.1.1.2⟩, hh.1.1.1.1.2⟩, hh.1.1.1.2⟩, hv hh.1.1.2⟩, hh.1.2⟩, hh.2⟩
    exact ⟨h1, h2, h3, h4, h5, h6, h7, hg, h9, h10⟩
  case pushes => intro h; exact absurd h (by decide)
  all_goals intros; first | rfl | exact ⟨rfl, rfl⟩ | exact List.suffix_rfl | exact Nat.le_refl _ | assumption

theorem State.putPushes_keeps (s : State) (k : Nat) (v : Push) : Keeps 0x4000000 s (s.putPushes k v) :=
  State.withPushes_keeps s _ (mwf_mset _ _ _ _)

@[simp] theorem State.getPushes_putPushes (s : State) (k j : Nat) (v : Push) : (s.putPushes k v).getPushes j = if j = k then v else s.getPushes j := by
  simp [State.getPushes, State.putPushes]

theorem State.withSlots_keeps (s : State) (v : List (Nat × CueSlot)) (hv : mwf ({} : CueSlot) s.cue.slots = true → mwf ({} : CueSlot) v = true) : Keeps 0x8000000 s (s.withSlots v) := by
  constructor
  case canon =>
    intro h; rw [canon_iff] at h ⊢
    obtain ⟨h1, h2, h3, h4, h5, h6, h7, h8, h9, h10⟩ := h
    have hg : (s.withSlots v).cue.canon = true := by
      have hh := h8
      simp only [CueState.canon, Bool.and_eq_true] at hh ⊢
      exact ⟨⟨⟨⟨⟨⟨hh.1.1.1.1.1.1, hh.1.1.1.1.1.2⟩, hh.1.1.1.1.2⟩, hh.1.1.1.2⟩, hh.1.1.2⟩, hv hh.1.2⟩, hh.2⟩
    exact ⟨h1, h2, h3, h4, h5, h6, h7, hg, h9, h10⟩
  case slots => intro h; exact absurd h (by decide)
  all_goals intros; first | rfl | exact ⟨rfl, rfl⟩ | exact List.suffix_rfl | exact Nat.le_refl _ | assumption

theorem State.putSlots_keeps (s : State) (k : Nat) (v : CueSlot) : Keeps 0x8000000 s (s.putSlots k v) :=
  State.withSlots_keeps s _ (mwf_mset _ _ _ _)

@[simp] theorem State.getSlots_putSlots (s : State) (k j : Nat) (v : CueSlot) : (s.putSlots k v).getSlots j = if j = k then v else s.getSlots j := by
  simp [State.getSlots, State.putSlots]

theorem State.withCueUnits_keeps (s : State) (v : List (Nat × CueUnit)) (hv : mwf ({} : CueUnit) s.cue.cueUnits = true → mwf ({} : CueUnit) v = true) : Keeps 0x10000000 s (s.withCueUnits v) := by
  constructor
  case canon =>
    intro h; rw [canon_iff] at h ⊢
    obtain ⟨h1, h2, h3, h4, h5, h6, h7, h8, h9, h10⟩ := h
    have hg : (s.withCueUnits v).cue.canon = true := by
      have hh := h8
      simp only [CueState.canon, Bool.and_eq_true] at hh ⊢
      exact ⟨⟨⟨⟨⟨⟨hh.1.1.1.1.1.1, hh.1.1.1.1.1.2⟩, hh.1.1.1.1.2⟩, hh.1.1.1.2⟩, hh.1.1.2⟩, hh.1.2⟩, hv hh.2⟩
    exact ⟨h1, h2, h3, h4, h5, h6, h7, hg, h9, h10⟩
  case cueUnits => intro h; exact absurd h (by decide)
  all_goals intros; first | rfl | exact ⟨rfl, rfl⟩ | exact List.suffix_rfl | exact Nat.le_refl _ | assumption

theorem State.putCueUnits_keeps (s : State) (k : Nat) (v : CueUnit) : Keeps 0x10000000 s (s.putCueUnits k v) :=
  State.withCueUnits_keeps s _ (mwf_mset _ _ _ _)

@[simp] theorem State.getCueUnits_putCueUnits (s : State) (k j : Nat) (v : CueUnit) : (s.putCueUnits k v).getCueUnits j = if j = k then v else s.getCueUnits j := by
  simp [State.getCueUnits, State.putCueUnits]

theorem State.withParks_keeps (s : State) (v : List (Nat × ParkQ)) (hv : mwf ({} : ParkQ) s.pow.parks = true → mwf ({} : ParkQ) v = true) : Keeps 0x20000000 s (s.withParks v) := by
  constructor
  case canon =>
    intro h; rw [canon_iff] at h ⊢
    obtain ⟨h1, h2, h3, h4, h5, h6, h7, h8, h9, h10⟩ := h
    have hg : (s.withParks v).pow.canon = true := by
      have hh := h9
      simp only [PowState.canon, Bool.and_eq_true] at hh ⊢
      exact ⟨⟨⟨⟨⟨⟨⟨⟨hv hh.1.1.1.1.1.1.1.1, hh.1.1.1.1.1.1.1.2⟩, hh.1.1.1.1.1.1.2⟩, hh.1.1.1.1.1.2⟩, hh.1.1.1.1.2⟩, hh.1.1.1.2⟩, hh.1.1.2⟩, hh.1.2⟩, hh.2⟩
    exact ⟨h1, h2, h3, h4, h5, h6, h7, h8, hg, h10⟩
  case parks => intro h; exact absurd h (by decide)
  all_goals intros; first | rfl | exact ⟨rfl, rfl⟩ | exact List.suffix_rfl | exact Nat.le_refl _ | assumption

theorem State.putParks_keeps (s : State) (k : Nat) (v : ParkQ) : Keeps 0x20000000 s (s.putParks k v) :=
  State.withParks_keeps s _ (mwf_mset _ _ _ _)

@[simp] theorem State.getParks_putParks (s : State) (k j : Nat) (v : ParkQ) : (s.putParks k v).getParks j = if j = k then v else s.getParks j := by
  simp [State.getParks, State.putParks]

theorem State.withDoms_keeps (s : State) (v : List (Nat × DomX)) (hv : mwf ({} : DomX) s.pow.doms = true → mwf ({} : DomX) v = true) : Keeps 0x40000000 s (s.withDoms v) := by
  constructor
  case canon =>
    intro h; rw [canon_iff] at h ⊢
    obtain ⟨h1, h2, h3, h4, h5, h6, h7, h8, h9, h10⟩ := h
    have hg : (s.withDoms v).pow.canon = true := by
      have hh := h9
      simp only [PowState.canon, Bool.and_eq_true] at hh ⊢
      exact ⟨⟨⟨⟨⟨⟨⟨⟨hh.1.1.1.1.1.1.1.1, hv hh.1.1.1.1.1.1.1.2⟩, hh.1.1.1.1.1.1.2⟩, hh.1.1.1.1.1.2⟩, hh.1.1.1.1.2⟩, hh.1.1.1.2⟩, hh.1.1.2⟩, hh.1.2⟩, hh.2⟩
    exact ⟨h1, h2, h3, h4, h5, h6, h7, h8, hg, h10⟩
  case doms => intro h; exact absurd h (by decide)
  all_goals intros; first | rfl | exact ⟨rfl, rfl⟩ | exact List.suffix_rfl | exact Nat.le_refl _ | assumption

theorem State.putDoms_keeps (s : State) (k : Nat) (v : DomX) : Keeps 0x40000000 s (s.putDoms k v) :=
  State.withDoms_keeps s _ (mwf_mset _ _ _ _)

@[simp] theorem State.getDoms_putDoms (s : State) (k j : Nat) (v : DomX) : (s.putDoms k v).getDoms j = if j = k then v else s.getDoms j := by
  simp [State.getDoms, State.putDoms]

theorem State.withLedgers_keeps (s : State) (v : List (Nat × Ledger)) (hv : mwf ({} : Ledger) s.pow.ledgers = true → mwf ({} : Ledger) v = true) : Keeps 0x80000000 s (s.withLedgers v) := by
  constructor
  case canon =>
    intro h; rw [canon_iff] at h ⊢
    obtain ⟨h1, h2, h3, h4, h5, h6, h7, h8, h9, h10⟩ := h
    have hg : (s.withLedgers v).pow.canon = true := by
      have hh := h9
      simp only [PowState.canon, Bool.and_eq_true] at hh ⊢
      exact ⟨⟨⟨⟨⟨⟨⟨⟨hh.1.1.1.1.1.1.1.1, hh.1.1.1.1.1.1.1.2⟩, hv hh.1.1.1.1.1.1.2⟩, hh.1.1.1.1.1.2⟩, hh.1.1.1.1.2⟩, hh.1.1.1.2⟩, hh.1.1.2⟩, hh.1.2⟩, hh.2⟩
    exact ⟨h1, h2, h3, h4, h5, h6, h7, h8, hg, h10⟩
  case ledgers => intro h; exact absurd h (by decide)
  all_goals intros; first | rfl | exact ⟨rfl, rfl⟩ | exact List.suffix_rfl | exact Nat.le_refl _ | assumption

theorem State.putLedgers_keeps (s : State) (k : Nat) (v : Ledger) : Keeps 0x80000000 s (s.putLedgers k v) :=
  State.withLedgers_keeps s _ (mwf_mset _ _ _ _)

@[simp] theorem State.getLedgers_putLedgers (s : State) (k j : Nat) (v : Ledger) : (s.putLedgers k v).getLedgers j = if j = k then v else s.getLedgers j := by
  simp [State.getLedgers, State.putLedgers]

theorem State.withBups_keeps (s : State) (v : List (Nat × Bup)) (hv : mwf ({} : Bup) s.pow.bups = true → mwf ({} : Bup) v = true) : Keeps 0x100000000 s (s.withBups v) := by
  constructor
  case canon =>
    intro h; rw [canon_iff] at h ⊢
    obtain ⟨h1, h2, h3, h4, h5, h6, h7, h8, h9, h10⟩ := h
    have hg : (s.withBups v).pow.canon = true := by
      have hh := h9
      simp only [PowState.canon, Bool.and_eq_true] at hh ⊢
      exact ⟨⟨⟨⟨⟨⟨⟨⟨hh.1.1.1.1.1.1.1.1, hh.1.1.1.1.1.1.1.2⟩, hh.1.1.1.1.1.1.2⟩, hv hh.1.1.1.1.1.2⟩, hh.1.1.1.1.2⟩, hh.1.1.1.2⟩, hh.1.1.2⟩, hh.1.2⟩, hh.2⟩
    exact ⟨h1, h2, h3, h4, h5, h6, h7, h8, hg, h10⟩
  case bups => intro h; exact absurd h (by decide)
  all_goals intros; first | rfl | exact ⟨rfl, rfl⟩ | exact List.suffix_rfl | exact Nat.le_refl _ | assumption

theorem State.putBups_keeps (s : State) (k : Nat) (v : Bup) : Keeps 0x100000000 s (s.putBups k v) :=
  State.withBups_keeps s _ (mwf_mset _ _ _ _)

@[simp] theorem State.getBups_putBups (s : State) (k j : Nat) (v : Bup) : (s.putBups k v).getBups j = if j = k then v else s.getBups j := by
  simp [State.getBups, State.putBups]

theorem State.withMeters_keeps (s : State) (v : List (Nat × Meter)) (hv : mwf ({} : Meter) s.pow.meters = true → mwf ({} : Meter) v = true) : Keeps 0x200000000 s (s.withMeters v) := by
  constructor
  case canon =>
    intro h; rw [canon_iff] at h ⊢
    obtain ⟨h1, h2, h3, h4, h5, h6, h7, h8, h9, h10⟩ := h
    have hg : (s.withMeters v).pow.canon = true := by
      have hh := h9
      simp only [PowState.canon, Bool.and_eq_true] at hh ⊢
      exact ⟨⟨⟨⟨⟨⟨⟨⟨hh.1.1.1.1.1.1.1.1, hh.1.1.1.1.1.1.1.2⟩, hh.1.1.1.1.1.1.2⟩, hh.1.1.1.1.1.2⟩, hv hh.1.1.1.1.2⟩, hh.1.1.1.2⟩, hh.1.1.2⟩, hh.1.2⟩, hh.2⟩
    exact ⟨h1, h2, h3, h4, h5, h6, h7, h8, hg, h10⟩
  case meters => intro h; exact absurd h (by decide)
  all_goals intros; first | rfl | exact ⟨rfl, rfl⟩ | exact List.suffix_rfl | exact Nat.le_refl _ | assumption

theorem State.putMeters_keeps (s : State) (k : Nat) (v : Meter) : Keeps 0x200000000 s (s.putMeters k v) :=
  State.withMeters_keeps s _ (mwf_mset _ _ _ _)

@[simp] theorem State.getMeters_putMeters (s : State) (k j : Nat) (v : Meter) : (s.putMeters k v).getMeters j = if j = k then v else s.getMeters j := by
  simp [State.getMeters, State.putMeters]

theorem State.withAgeMons_keeps (s : State) (v : List (Nat × AgeMon)) (hv : mwf ({} : AgeMon) s.pow.ageMons = true → mwf ({} : AgeMon) v = true) : Keeps 0x400000000 s (s.withAgeMons v) := by
  constructor
  case canon =>
    intro h; rw [canon_iff] at h ⊢
    obtain ⟨h1, h2, h3, h4, h5, h6, h7, h8, h9, h10⟩ := h
    have hg : (s.withAgeMons v).pow.canon = true := by
      have hh := h9
      simp only [PowState.canon, Bool.and_eq_true] at hh ⊢
      exact ⟨⟨⟨⟨⟨⟨⟨⟨hh.1.1.1.1.1.1.1.1, hh.1.1.1.1.1.1.1.2⟩, hh.1.1.1.1.1.1.2⟩, hh.1.1.1.1.1.2⟩, hh.1.1.1.1.2⟩, hv hh.1.1.1.2⟩, hh.1.1.2⟩, hh.1.2⟩, hh.2⟩
    exact ⟨h1, h2, h3, h4, h5, h6, h7, h8, hg, h10⟩
  case ageMons => intro h; exact absurd h (by decide)
  all_goals intros; first | rfl | exact ⟨rfl, rfl⟩ | exact List.suffix_rfl | exact Nat.le_refl _ | assumption

theorem State.putAgeMons_keeps (s : State) (k : Nat) (v : AgeMon) : Keeps 0x400000000 s (s.putAgeMons k v) :=
  State.withAgeMons_keeps s _ (mwf_mset _ _ _ _)

@[simp] theorem State.getAgeMons_putAgeMons (s : State) (k j : Nat) (v : AgeMon) : (s.putAgeMons k v).getAgeMons j = if j = k then v else s.getAgeMons j := by
  simp [State.getAgeMons, State.putAgeMons]

theorem State.withAgeQs_keeps (s : State) (v : List (Nat × AgeQ)) (hv : mwf ({} : AgeQ) s.pow.ageQs = true → mwf ({} : AgeQ) v = true) : Keeps 0x800000000 s (s.withAgeQs v) := by
  constructor
  case canon =>
    intro h; rw [canon_iff] at h ⊢
    obtain ⟨h1, h2, h3, h4, h5, h6, h7, h8, h9, h10⟩ := h
    have hg : (s.withAgeQs v).pow.canon = true := by
      have hh := h9
      simp only [PowState.canon, Bool.and_eq_true] at hh ⊢
      exact ⟨⟨⟨⟨⟨⟨⟨⟨hh.1.1.1.1.1.1.1.1, hh.1.1.1.1.1.1.1.2⟩, hh.1.1.1.1.1.1.2⟩, hh.1.1.1.1.1.2⟩, hh.1.1.1.1.2⟩, hh.1.1.1.2⟩, hv hh.1.1.2⟩, hh.1.2⟩, hh.2⟩
    exact ⟨h1, h2, h3, h4, h5, h6, h7, h8, hg, h10⟩
  case ageQs => intro h; exact absurd h (by decide)
  all_goals intros; first | rfl | exact ⟨rfl, rfl⟩ | exact List.suffix_rfl | exact Nat.le_refl _ | assumption

theorem State.putAgeQs_keeps (s : State) (k : Nat) (v : AgeQ) : Keeps 0x800000000 s (s.putAgeQs k v) :=
  State.withAgeQs_keeps s _ (mwf_mset _ _ _ _)

@[simp] theorem State.getAgeQs_putAgeQs (s : State) (k j : Nat) (v : AgeQ) : (s.putAgeQs k v).getAgeQs j = if j = k then v else s.getAgeQs j := by
  simp [State.getAgeQs, State.putAgeQs]

theorem State.withThermChs_keeps (s : State) (v : List (Nat × ThermCh)) (hv : mwf ({} : ThermCh) s.pow.thermChs = true → mwf ({} : ThermCh) v = true) : Keeps 0x1000000000 s (s.withThermChs v) := by
  constructor
  case canon =>
    intro h; rw [canon_iff] at h ⊢
    obtain ⟨h1, h2, h3, h4, h5, h6, h7, h8, h9, h10⟩ := h
    have hg : (s.withThermChs v).pow.canon = true := by
      have hh := h9
      simp only [PowState.canon, Bool.and_eq_true] at hh ⊢
      exact ⟨⟨⟨⟨⟨⟨⟨⟨hh.1.1.1.1.1.1.1.1, hh.1.1.1.1.1.1.1.2⟩, hh.1.1.1.1.1.1.2⟩, hh.1.1.1.1.1.2⟩, hh.1.1.1.1.2⟩, hh.1.1.1.2⟩, hh.1.1.2⟩, hv hh.1.2⟩, hh.2⟩
    exact ⟨h1, h2, h3, h4, h5, h6, h7, h8, hg, h10⟩
  case thermChs => intro h; exact absurd h (by decide)
  all_goals intros; first | rfl | exact ⟨rfl, rfl⟩ | exact List.suffix_rfl | exact Nat.le_refl _ | assumption

theorem State.putThermChs_keeps (s : State) (k : Nat) (v : ThermCh) : Keeps 0x1000000000 s (s.putThermChs k v) :=
  State.withThermChs_keeps s _ (mwf_mset _ _ _ _)

@[simp] theorem State.getThermChs_putThermChs (s : State) (k j : Nat) (v : ThermCh) : (s.putThermChs k v).getThermChs j = if j = k then v else s.getThermChs j := by
  simp [State.getThermChs, State.putThermChs]

theorem State.withWarming_keeps (s : State) (v : List (Nat × List Nat)) (hv : mwf ([] : List Nat) s.pow.warming = true → mwf ([] : List Nat) v = true) : Keeps 0x2000000000 s (s.withWarming v) := by
  constructor
  case canon =>
    intro h; rw [canon_iff] at h ⊢
    obtain ⟨h1, h2, h3, h4, h5, h6, h7, h8, h9, h10⟩ := h
    have hg : (s.withWarming v).pow.canon = true := by
      have hh := h9
      simp only [PowState.canon, Bool.and_eq_true] at hh ⊢
      exact ⟨⟨⟨⟨⟨⟨⟨⟨hh.1.1.1.1.1.1.1.1, hh.1.1.1.1.1.1.1.2⟩, hh.1.1.1.1.1.1.2⟩, hh.1.1.1.1.1.2⟩, hh.1.1.1.1.2⟩, hh.1.1.1.2⟩, hh.1.1.2⟩, hh.1.2⟩, hv hh.2⟩
    exact ⟨h1, h2, h3, h4, h5, h6, h7, h8, hg, h10⟩
  case warming => intro h; exact absurd h (by decide)
  all_goals intros; first | rfl | exact ⟨rfl, rfl⟩ | exact List.suffix_rfl | exact Nat.le_refl _ | assumption

theorem State.putWarming_keeps (s : State) (k : Nat) (v : (List Nat)) : Keeps 0x2000000000 s (s.putWarming k v) :=
  State.withWarming_keeps s _ (mwf_mset _ _ _ _)

@[simp] theorem State.getWarming_putWarming (s : State) (k j : Nat) (v : (List Nat)) : (s.putWarming k v).getWarming j = if j = k then v else s.getWarming j := by
  simp [State.getWarming, State.putWarming]

theorem State.withWafers_keeps (s : State) (v : List (Nat × Wafer)) (hv : mwf ({} : Wafer) s.rack.wafers = true → mwf ({} : Wafer) v = true) : Keeps 0x4000000000 s (s.withWafers v) := by
  constructor
  case canon =>
    intro h; rw [canon_iff] at h ⊢
    obtain ⟨h1, h2, h3, h4, h5, h6, h7, h8, h9, h10⟩ := h
    have hg : (s.withWafers v).rack.canon = true := by
      have hh := h10
      simp only [RackState.canon, Bool.and_eq_true] at hh ⊢
      exact ⟨⟨⟨⟨⟨⟨⟨⟨⟨hv hh.1.1.1.1.1.1.1.1.1, hh.1.1.1.1.1.1.1.1.2⟩, hh.1.1.1.1.1.1.1.2⟩, hh.1.1.1.1.1.1.2⟩, hh.1.1.1.1.1.2⟩, hh.1.1.1.1.2⟩, hh.1.1.1.2⟩, hh.1.1.2⟩, hh.1.2⟩, hh.2⟩
    exact ⟨h1, h2, h3, h4, h5, h6, h7, h8, h9, hg⟩
  case wafers => intro h; exact absurd h (by decide)
  all_goals intros; first | rfl | exact ⟨rfl, rfl⟩ | exact List.suffix_rfl | exact Nat.le_refl _ | assumption

theorem State.putWafers_keeps (s : State) (k : Nat) (v : Wafer) : Keeps 0x4000000000 s (s.putWafers k v) :=
  State.withWafers_keeps s _ (mwf_mset _ _ _ _)

@[simp] theorem State.getWafers_putWafers (s : State) (k j : Nat) (v : Wafer) : (s.putWafers k v).getWafers j = if j = k then v else s.getWafers j := by
  simp [State.getWafers, State.putWafers]

theorem State.withTmcs_keeps (s : State) (v : List (Nat × Tmc)) (hv : mwf ({} : Tmc) s.rack.tmcs = true → mwf ({} : Tmc) v = true) : Keeps 0x8000000000 s (s.withTmcs v) := by
  constructor
  case canon =>
    intro h; rw [canon_iff] at h ⊢
    obtain ⟨h1, h2, h3, h4, h5, h6, h7, h8, h9, h10⟩ := h
    have hg : (s.withTmcs v).rack.canon = true := by
      have hh := h10
      simp only [RackState.canon, Bool.and_eq_true] at hh ⊢
      exact ⟨⟨⟨⟨⟨⟨⟨⟨⟨hh.1.1.1.1.1.1.1.1.1, hv hh.1.1.1.1.1.1.1.1.2⟩, hh.1.1.1.1.1.1.1.2⟩, hh.1.1.1.1.1.1.2⟩, hh.1.1.1.1.1.2⟩, hh.1.1.1.1.2⟩, hh.1.1.1.2⟩, hh.1.1.2⟩, hh.1.2⟩, hh.2⟩
    exact ⟨h1, h2, h3, h4, h5, h6, h7, h8, h9, hg⟩
  case tmcs => intro h; exact absurd h (by decide)
  all_goals intros; first | rfl | exact ⟨rfl, rfl⟩ | exact List.suffix_rfl | exact Nat.le_refl _ | assumption

theorem State.putTmcs_keeps (s : State) (k : Nat) (v : Tmc) : Keeps 0x8000000000 s (s.putTmcs k v) :=
  State.withTmcs_keeps s _ (mwf_mset _ _ _ _)

@[simp] theorem State.getTmcs_putTmcs (s : State) (k j : Nat) (v : Tmc) : (s.putTmcs k v).getTmcs j = if j = k then v else s.getTmcs j := by
  simp [State.getTmcs, State.putTmcs]

theorem State.withActs_keeps (s : State) (v : List (Nat × Act)) (hv : mwf ({} : Act) s.rack.acts = true → mwf ({} : Act) v = true) : Keeps 0x10000000000 s (s.withActs v) := by
  constructor
  case canon =>
    intro h; rw [canon_iff] at h ⊢
    obtain ⟨h1, h2, h3, h4, h5, h6, h7, h8, h9, h10⟩ := h
    have hg : (s.withActs v).rack.canon = true := by
      have hh := h10
      simp only [RackState.canon, Bool.and_eq_true] at hh ⊢
      exact ⟨⟨⟨⟨⟨⟨⟨⟨⟨hh.1.1.1.1.1.1.1.1.1, hh.1.1.1.1.1.1.1.1.2⟩, hv hh.1.1.1.1.1.1.1.2⟩, hh.1.1.1.1.1.1.2⟩, hh.1.1.1.1.1.2⟩, hh.1.1.1.1.2⟩, hh.1.1.1.2⟩, hh.1.1.2⟩, hh.1.2⟩, hh.2⟩
    exact ⟨h1, h2, h3, h4, h5, h6, h7, h8, h9, hg⟩
  case acts => intro h; exact absurd h (by decide)
  all_goals intros; first | rfl | exact ⟨rfl, rfl⟩ | exact List.suffix_rfl | exact Nat.le_refl _ | assumption

theorem State.putActs_keeps (s : State) (k : Nat) (v : Act) : Keeps 0x10000000000 s (s.putActs k v) :=
  State.withActs_keeps s _ (mwf_mset _ _ _ _)

@[simp] theorem State.getActs_putActs (s : State) (k j : Nat) (v : Act) : (s.putActs k v).getActs j = if j = k then v else s.getActs j := by
  simp [State.getActs, State.putActs]

theorem State.withFws_keeps (s : State) (v : List (Nat × FwPart)) (hv : mwf ({} : FwPart) s.rack.fws = true → mwf ({} : FwPart) v = true) : Keeps 0x20000000000 s (s.withFws v) := by
  constructor
  case canon =>
    intro h; rw [canon_iff] at h ⊢
    obtain ⟨h1, h2, h3, h4, h5, h6, h7, h8, h9, h10⟩ := h
    have hg : (s.withFws v).rack.canon = true := by
      have hh := h10
      simp only [RackState.canon, Bool.and_eq_true] at hh ⊢
      exact ⟨⟨⟨⟨⟨⟨⟨⟨⟨hh.1.1.1.1.1.1.1.1.1, hh.1.1.1.1.1.1.1.1.2⟩, hh.1.1.1.1.1.1.1.2⟩, hv hh.1.1.1.1.1.1.2⟩, hh.1.1.1.1.1.2⟩, hh.1.1.1.1.2⟩, hh.1.1.1.2⟩, hh.1.1.2⟩, hh.1.2⟩, hh.2⟩
    exact ⟨h1, h2, h3, h4, h5, h6, h7, h8, h9, hg⟩
  case fws => intro h; exact absurd h (by decide)
  all_goals intros; first | rfl | exact ⟨rfl, rfl⟩ | exact List.suffix_rfl | exact Nat.le_refl _ | assumption

theorem State.putFws_keeps (s : State) (k : Nat) (v : FwPart) : Keeps 0x20000000000 s (s.putFws k v) :=
  State.withFws_keeps s _ (mwf_mset _ _ _ _)

@[simp] theorem State.getFws_putFws (s : State) (k j : Nat) (v : FwPart) : (s.putFws k v).getFws j = if j = k then v else s.getFws j := by
  simp [State.getFws, State.putFws]

theorem State.withSpots_keeps (s : State) (v : List (Nat × Spot)) (hv : mwf ({} : Spot) s.rack.spots = true → mwf ({} : Spot) v = true) : Keeps 0x40000000000 s (s.withSpots v) := by
  constructor
  case canon =>
    intro h; rw [canon_iff] at h ⊢
    obtain ⟨h1, h2, h3, h4, h5, h6, h7, h8, h9, h10⟩ := h
    have hg : (s.withSpots v).rack.canon = true := by
      have hh := h10
      simp only [RackState.canon, Bool.and_eq_true] at hh ⊢
      exact ⟨⟨⟨⟨⟨⟨⟨⟨⟨hh.1.1.1.1.1.1.1.1.1, hh.1.1.1.1.1.1.1.1.2⟩, hh.1.1.1.1.1.1.1.2⟩, hh.1.1.1.1.1.1.2⟩, hv hh.1.1.1.1.1.2⟩, hh.1.1.1.1.2⟩, hh.1.1.1.2⟩, hh.1.1.2⟩, hh.1.2⟩, hh.2⟩
    exact ⟨h1, h2, h3, h4, h5, h6, h7, h8, h9, hg⟩
  case spots => intro h; exact absurd h (by decide)
  all_goals intros; first | rfl | exact ⟨rfl, rfl⟩ | exact List.suffix_rfl | exact Nat.le_refl _ | assumption

theorem State.putSpots_keeps (s : State) (k : Nat) (v : Spot) : Keeps 0x40000000000 s (s.putSpots k v) :=
  State.withSpots_keeps s _ (mwf_mset _ _ _ _)

@[simp] theorem State.getSpots_putSpots (s : State) (k j : Nat) (v : Spot) : (s.putSpots k v).getSpots j = if j = k then v else s.getSpots j := by
  simp [State.getSpots, State.putSpots]

theorem State.withTwis_keeps (s : State) (v : List (Nat × Twi)) (hv : mwf ({} : Twi) s.rack.twis = true → mwf ({} : Twi) v = true) : Keeps 0x80000000000 s (s.withTwis v) := by
  constructor
  case canon =>
    intro h; rw [canon_iff] at h ⊢
    obtain ⟨h1, h2, h3, h4, h5, h6, h7, h8, h9, h10⟩ := h
    have hg : (s.withTwis v).rack.canon = true := by
      have hh := h10
      simp only [RackState.canon, Bool.and_eq_true] at hh ⊢
      exact ⟨⟨⟨⟨⟨⟨⟨⟨⟨hh.1.1.1.1.1.1.1.1.1, hh.1.1.1.1.1.1.1.1.2⟩, hh.1.1.1.1.1.1.1.2⟩, hh.1.1.1.1.1.1.2⟩, hh.1.1.1.1.1.2⟩, hv hh.1.1.1.1.2⟩, hh.1.1.1.2⟩, hh.1.1.2⟩, hh.1.2⟩, hh.2⟩
    exact ⟨h1, h2, h3, h4, h5, h6, h7, h8, h9, hg⟩
  case twis => intro h; exact absurd h (by decide)
  all_goals intros; first | rfl | exact ⟨rfl, rfl⟩ | exact List.suffix_rfl | exact Nat.le_refl _ | assumption

theorem State.putTwis_keeps (s : State) (k : Nat) (v : Twi) : Keeps 0x80000000000 s (s.putTwis k v) :=
  State.withTwis_keeps s _ (mwf_mset _ _ _ _)

@[simp] theorem State.getTwis_putTwis (s : State) (k j : Nat) (v : Twi) : (s.putTwis k v).getTwis j = if j = k then v else s.getTwis j := by
  simp [State.getTwis, State.putTwis]

theorem State.withTafKept_keeps (s : State) (v : List (Nat × List (Nat × Nat × List Nat))) (hv : mwf ([] : List (Nat × Nat × List Nat)) s.rack.tafKept = true → mwf ([] : List (Nat × Nat × List Nat)) v = true) : Keeps 0x100000000000 s (s.withTafKept v) := by
  constructor
  case canon =>
    intro h; rw [canon_iff] at h ⊢
    obtain ⟨h1, h2, h3, h4, h5, h6, h7, h8, h9, h10⟩ := h
    have hg : (s.withTafKept v).rack.canon = true := by
      have hh := h10
      simp only [RackState.canon, Bool.and_eq_true] at hh ⊢
      exact ⟨⟨⟨⟨⟨⟨⟨⟨⟨hh.1.1.1.1.1.1.1.1.1, hh.1.1.1.1.1.1.1.1.2⟩, hh.1.1.1.1.1.1.1.2⟩, hh.1.1.1.1.1.1.2⟩, hh.1.1.1.1.1.2⟩, hh.1.1.1.1.2⟩, hv hh.1.1.1.2⟩, hh.1.1.2⟩, hh.1.2⟩, hh.2⟩
    exact ⟨h1, h2, h3, h4, h5, h6, h7, h8, h9, hg⟩
  case tafKept => intro h; exact absurd h (by decide)
  all_goals intros; first | rfl | exact ⟨rfl, rfl⟩ | exact List.suffix_rfl | exact Nat.le_refl _ | assumption

theorem State.putTafKept_keeps (s : State) (k : Nat) (v : (List (Nat × Nat × List Nat))) : Keeps 0x100000000000 s (s.putTafKept k v) :=
  State.withTafKept_keeps s _ (mwf_mset _ _ _ _)

@[simp] theorem State.getTafKept_putTafKept (s : State) (k j : Nat) (v : (List (Nat × Nat × List Nat))) : (s.putTafKept k v).getTafKept j = if j = k then v else s.getTafKept j := by
  simp [State.getTafKept, State.putTafKept]

theorem State.withEtags_keeps (s : State) (v : List (Nat × Nat)) (hv : mwf (0 : Nat) s.rack.etags = true → mwf (0 : Nat) v = true) : Keeps 0x200000000000 s (s.withEtags v) := by
  constructor
  case canon =>
    intro h; rw [canon_iff] at h ⊢
    obtain ⟨h1, h2, h3, h4, h5, h6, h7, h8, h9, h10⟩ := h
    have hg : (s.withEtags v).rack.canon = true := by
      have hh := h10
      simp only [RackState.canon, Bool.and_eq_true] at hh ⊢
      exact ⟨⟨⟨⟨⟨⟨⟨⟨⟨hh.1.1.1.1.1.1.1.1.1, hh.1.1.1.1.1.1.1.1.2⟩, hh.1.1.1.1.1.1.1.2⟩, hh.1.1.1.1.1.1.2⟩, hh.1.1.1.1.1.2⟩, hh.1.1.1.1.2⟩, hh.1.1.1.2⟩, hv hh.1.1.2⟩, hh.1.2⟩, hh.2⟩
    exact ⟨h1, h2, h3, h4, h5, h6, h7, h8, h9, hg⟩
  case etags => intro h; exact absurd h (by decide)
  all_goals intros; first | rfl | exact ⟨rfl, rfl⟩ | exact List.suffix_rfl | exact Nat.le_refl _ | assumption

theorem State.putEtags_keeps (s : State) (k : Nat) (v : Nat) : Keeps 0x200000000000 s (s.putEtags k v) :=
  State.withEtags_keeps s _ (mwf_mset _ _ _ _)

@[simp] theorem State.getEtags_putEtags (s : State) (k j : Nat) (v : Nat) : (s.putEtags k v).getEtags j = if j = k then v else s.getEtags j := by
  simp [State.getEtags, State.putEtags]

theorem State.withPlans_keeps (s : State) (v : List (Nat × PlanW)) (hv : mwf ({} : PlanW) s.rack.plans = true → mwf ({} : PlanW) v = true) : Keeps 0x400000000000 s (s.withPlans v) := by
  constructor
  case canon =>
    intro h; rw [canon_iff] at h ⊢
    obtain ⟨h1, h2, h3, h4, h5, h6, h7, h8, h9, h10⟩ := h
    have hg : (s.withPlans v).rack.canon = true := by
      have hh := h10
      simp only [RackState.canon, Bool.and_eq_true] at hh ⊢
      exact ⟨⟨⟨⟨⟨⟨⟨⟨⟨hh.1.1.1.1.1.1.1.1.1, hh.1.1.1.1.1.1.1.1.2⟩, hh.1.1.1.1.1.1.1.2⟩, hh.1.1.1.1.1.1.2⟩, hh.1.1.1.1.1.2⟩, hh.1.1.1.1.2⟩, hh.1.1.1.2⟩, hh.1.1.2⟩, hv hh.1.2⟩, hh.2⟩
    exact ⟨h1, h2, h3, h4, h5, h6, h7, h8, h9, hg⟩
  case plans => intro h; exact absurd h (by decide)
  all_goals intros; first | rfl | exact ⟨rfl, rfl⟩ | exact List.suffix_rfl | exact Nat.le_refl _ | assumption

theorem State.putPlans_keeps (s : State) (k : Nat) (v : PlanW) : Keeps 0x400000000000 s (s.putPlans k v) :=
  State.withPlans_keeps s _ (mwf_mset _ _ _ _)

@[simp] theorem State.getPlans_putPlans (s : State) (k j : Nat) (v : PlanW) : (s.putPlans k v).getPlans j = if j = k then v else s.getPlans j := by
  simp [State.getPlans, State.putPlans]

theorem State.withShelves_keeps (s : State) (v : List (Nat × Shelf)) (hv : mwf ({} : Shelf) s.rack.shelves = true → mwf ({} : Shelf) v = true) : Keeps 0x800000000000 s (s.withShelves v) := by
  constructor
  case canon =>
    intro h; rw [canon_iff] at h ⊢
    obtain ⟨h1, h2, h3, h4, h5, h6, h7, h8, h9, h10⟩ := h
    have hg : (s.withShelves v).rack.canon = true := by
      have hh := h10
      simp only [RackState.canon, Bool.and_eq_true] at hh ⊢
      exact ⟨⟨⟨⟨⟨⟨⟨⟨⟨hh.1.1.1.1.1.1.1.1.1, hh.1.1.1.1.1.1.1.1.2⟩, hh.1.1.1.1.1.1.1.2⟩, hh.1.1.1.1.1.1.2⟩, hh.1.1.1.1.1.2⟩, hh.1.1.1.1.2⟩, hh.1.1.1.2⟩, hh.1.1.2⟩, hh.1.2⟩, hv hh.2⟩
    exact ⟨h1, h2, h3, h4, h5, h6, h7, h8, h9, hg⟩
  case shelves => intro h; exact absurd h (by decide)
  all_goals intros; first | rfl | exact ⟨rfl, rfl⟩ | exact List.suffix_rfl | exact Nat.le_refl _ | assumption

theorem State.putShelves_keeps (s : State) (k : Nat) (v : Shelf) : Keeps 0x800000000000 s (s.putShelves k v) :=
  State.withShelves_keeps s _ (mwf_mset _ _ _ _)

@[simp] theorem State.getShelves_putShelves (s : State) (k j : Nat) (v : Shelf) : (s.putShelves k v).getShelves j = if j = k then v else s.getShelves j := by
  simp [State.getShelves, State.putShelves]

theorem State.withPlanner_keeps (s : State) (v : Planner) : Keeps 0x1000000000000 s (s.withPlanner v) := by
  constructor
  case planner => intro h; exact absurd h (by decide)
  all_goals intros; first | rfl | exact ⟨rfl, rfl⟩ | exact List.suffix_rfl | exact Nat.le_refl _ | assumption

theorem State.modAtns_keeps (s : State) (k : Nat) (g : Atn → Atn) : Keeps 0x10 s (s.modAtns k g) := State.putAtns_keeps s _ _

theorem State.modHifs_keeps (s : State) (k : Nat) (g : Hif → Hif) : Keeps 0x20 s (s.modHifs k g) := State.putHifs_keeps s _ _

theorem State.modChans_keeps (s : State) (k : Nat) (g : Chan → Chan) : Keeps 0x40 s (s.modChans k g) := State.putChans_keeps s _ _

theorem State.modCores_keeps (s : State) (k : Nat) (g : Core → Core) : Keeps 0x200 s (s.modCores k g) := State.putCores_keeps s _ _

theorem State.modParts_keeps (s : State) (k : Nat) (g : Part → Part) : Keeps 0x400 s (s.modParts k g) := State.putParts_keeps s _ _

theorem State.modLinks_keeps (s : State) (k : Nat) (g : LinkEnd → LinkEnd) : Keeps 0x20000 s (s.modLinks k g) := State.putLinks_keeps s _ _

theorem State.modTmcs_keeps (s : State) (k : Nat) (g : Tmc → Tmc) : Keeps 0x8000000000 s (s.modTmcs k g) := State.putTmcs_keeps s _ _

theorem State.modWafers_keeps (s : State) (k : Nat) (g : Wafer → Wafer) : Keeps 0x4000000000 s (s.modWafers k g) := State.putWafers_keeps s _ _

theorem State.modPlanner_keeps (s : State) (g : Planner → Planner) : Keeps 0x1000000000000 s (s.modPlanner g) := State.withPlanner_keeps s _

end Sys2Proof.Machine
end

