-- ==== Sys2Proof/Laws/KeepsOps.lean ====
section
/-!
SUPPORT. What each operation of Machine/Ops.lean may change.
-/
namespace Sys2Proof.Machine
set_option linter.unusedTactic false
set_option linter.unreachableTactic false
set_option Elab.async false

theorem State.msixSync_keeps (s : Sys2Proof.Machine.State) (w : ℕ) : Keeps 0x400000000000000000000000000000000000000000000000000000000000000000000000000 s (State.msixSync s w) := by
  unfold State.msixSync
  repeat' first
    | with_reducible exact Keeps.refl _ _
    | with_reducible apply Keeps.ite
    | (with_reducible apply Keeps.next (State.wr_keeps ..)); decide +kernel
    | with_reducible apply Keeps.foldl
    | (intro _; beta_reduce)
    | split
    | dsimp only

theorem State.msixPend_keeps (s : Sys2Proof.Machine.State) (w : ℕ) (b : Bool) : Keeps 0x4400000000000000000000000000000000000000000000000000000000000000000000000000 s (State.msixPend s w b) := by
  unfold State.msixPend
  repeat' first
    | with_reducible exact Keeps.refl _ _
    | with_reducible apply Keeps.ite
    | (with_reducible apply Keeps.next (State.wr_keeps ..)); decide +kernel
    | (with_reducible apply Keeps.next (State.msixSync_keeps ..)); decide +kernel
    | with_reducible apply Keeps.foldl
    | (intro _; beta_reduce)
    | split
    | dsimp only

theorem State.sendMsix_keeps (s : Sys2Proof.Machine.State) (w : ℕ) : Keeps 0x4400000000000000000000000000000000000000000000000000000000000000000000000010 s (State.sendMsix s w) := by
  unfold State.sendMsix
  repeat' first
    | with_reducible exact Keeps.refl _ _
    | with_reducible apply Keeps.ite
    | (with_reducible apply Keeps.next (State.msixPend_keeps ..)); decide +kernel
    | (with_reducible apply Keeps.next (State.bump_keeps ..)); decide +kernel
    | (with_reducible apply Keeps.next (State.emit_keeps ..)); decide +kernel
    | (with_reducible apply Keeps.next (State.modAtns_keeps ..)); decide +kernel
    | with_reducible apply Keeps.foldl
    | (intro _; beta_reduce)
    | split
    | dsimp only

theorem State.hostEvent_keeps (s : Sys2Proof.Machine.State) (w : ℕ) : Keeps 0x4400000000000000000000000000000000000000000000000000000000000000000000000010 s (State.hostEvent s w) := by
  unfold State.hostEvent
  repeat' first
    | with_reducible exact Keeps.refl _ _
    | with_reducible apply Keeps.ite
    | (with_reducible apply Keeps.next (State.sendMsix_keeps ..)); decide +kernel
    | (with_reducible apply Keeps.next (State.putAtns_keeps ..)); decide +kernel
    | with_reducible apply Keeps.foldl
    | (intro _; beta_reduce)
    | split
    | dsimp only

theorem State.tmcEvent_keeps (s : Sys2Proof.Machine.State) (w : ℕ) (g : ℕ) : Keeps 0x8000000000000000000000000000000000000000000000000000000000000000000000000000010 s (State.tmcEvent s w g) := by
  unfold State.tmcEvent
  repeat' first
    | with_reducible exact Keeps.refl _ _
    | with_reducible apply Keeps.ite
    | (with_reducible apply Keeps.next (State.setReg_keeps ..)); decide +kernel
    | (with_reducible apply Keeps.next (State.putAtns_keeps ..)); decide +kernel
    | with_reducible apply Keeps.foldl
    | (intro _; beta_reduce)
    | split
    | dsimp only

theorem State.raiseBare_keeps (s : Sys2Proof.Machine.State) (w : ℕ) (l : Sys2Proof.Machine.Leaf) : Keeps 0x14c004400000000000000000000000000000000000000000000000000000000000000000000000010 s (State.raiseBare s w l) := by
  unfold State.raiseBare
  repeat' first
    | with_reducible exact Keeps.refl _ _
    | with_reducible apply Keeps.ite
    | (with_reducible apply Keeps.next (State.tmcEvent_keeps ..)); decide +kernel
    | (with_reducible apply Keeps.next (State.hostEvent_keeps ..)); decide +kernel
    | (with_reducible apply Keeps.next (State.setReg_keeps ..)); decide +kernel
    | with_reducible apply Keeps.foldl
    | (intro _; beta_reduce)
    | split
    | dsimp only

theorem State.wakeEvent_keeps (s : Sys2Proof.Machine.State) (w : ℕ) (g : ℕ) : Keeps 0x14c004600000000000000000000000000000000000000000000000000000000000000000000000010 s (State.wakeEvent s w g) := by
  unfold State.wakeEvent
  repeat' first
    | with_reducible exact Keeps.refl _ _
    | with_reducible apply Keeps.ite
    | (with_reducible apply Keeps.next (State.raiseBare_keeps ..)); decide +kernel
    | (with_reducible apply Keeps.next (State.emit_keeps ..)); decide +kernel
    | (with_reducible apply Keeps.next (State.wr_keeps ..)); decide +kernel
    | with_reducible apply Keeps.foldl
    | (intro _; beta_reduce)
    | split
    | dsimp only

theorem State.wakeCheck_keeps (s : Sys2Proof.Machine.State) (w : ℕ) (g : ℕ) (before : ℕ) : Keeps 0x14c004600000000000000000000000000000000000000000000000000000000000000000000000010 s (State.wakeCheck s w g before) := by
  unfold State.wakeCheck
  repeat' first
    | with_reducible exact Keeps.refl _ _
    | with_reducible apply Keeps.ite
    | (with_reducible apply Keeps.next (State.wakeEvent_keeps ..)); decide +kernel
    | with_reducible apply Keeps.foldl
    | (intro _; beta_reduce)
    | split
    | dsimp only

theorem State.raise_keeps (s : Sys2Proof.Machine.State) (w : ℕ) (l : Sys2Proof.Machine.Leaf) : Keeps 0x14c004600000000000000000000000000000000000000000000000000000000000000000000000010 s (State.raise s w l) := by
  unfold State.raise
  repeat' first
    | with_reducible exact Keeps.refl _ _
    | with_reducible apply Keeps.ite
    | (with_reducible apply Keeps.next (State.raiseBare_keeps ..)); decide +kernel
    | (with_reducible apply Keeps.next (State.wakeCheck_keeps ..)); decide +kernel
    | with_reducible apply Keeps.foldl
    | (intro _; beta_reduce)
    | split
    | dsimp only

theorem State.raiseP_keeps (s : Sys2Proof.Machine.State) (w : ℕ) (p : ℕ) (l : Sys2Proof.Machine.Leaf) : Keeps 0x34c004600000000000000000000000000000000000000000000000000000000000000000000000010 s (State.raiseP s w p l) := by
  unfold State.raiseP
  repeat' first
    | with_reducible exact Keeps.refl _ _
    | with_reducible apply Keeps.ite
    | (with_reducible apply Keeps.next (State.setSrc_keeps ..)); decide +kernel
    | (with_reducible apply Keeps.next (State.raise_keeps ..)); decide +kernel
    | with_reducible apply Keeps.foldl
    | (intro _; beta_reduce)
    | split
    | dsimp only

theorem State.raiseF_keeps (s : Sys2Proof.Machine.State) (w : ℕ) (f : ℕ) (l : Sys2Proof.Machine.Leaf) : Keeps 0x54c004600000000000000000000000000000000000000000000000000000000000000000000000010 s (State.raiseF s w f l) := by
  unfold State.raiseF
  repeat' first
    | with_reducible exact Keeps.refl _ _
    | with_reducible apply Keeps.ite
    | (with_reducible apply Keeps.next (State.raise_keeps ..)); decide +kernel
    | (with_reducible apply Keeps.next (State.setSrc_keeps ..)); decide +kernel
    | with_reducible apply Keeps.foldl
    | (intro _; beta_reduce)
    | split
    | dsimp only

theorem State.raiseS_keeps (s : Sys2Proof.Machine.State) (w : ℕ) (c : ℕ) (l : Sys2Proof.Machine.Leaf) : Keeps 0x94c004600000000000000000000000000000000000000000000000000000000000000000000000010 s (State.raiseS s w c l) := by
  unfold State.raiseS
  repeat' first
    | with_reducible exact Keeps.refl _ _
    | with_reducible apply Keeps.ite
    | (with_reducible apply Keeps.next (State.raise_keeps ..)); decide +kernel
    | (with_reducible apply Keeps.next (State.setSrc_keeps ..)); decide +kernel
    | with_reducible apply Keeps.foldl
    | (intro _; beta_reduce)
    | split
    | dsimp only

theorem State.jrnlSync_keeps (s : Sys2Proof.Machine.State) (w : ℕ) : Keeps 0x70000000000000000000 s (State.jrnlSync s w) := by
  unfold State.jrnlSync
  repeat' first
    | with_reducible exact Keeps.refl _ _
    | with_reducible apply Keeps.ite
    | (with_reducible apply Keeps.next (State.wr_keeps ..)); decide +kernel
    | (with_reducible apply Keeps.next (State.setReg_keeps ..)); decide +kernel
    | with_reducible apply Keeps.foldl
    | (intro _; beta_reduce)
    | split
    | dsimp only

theorem State.journalAt_keeps (s : Sys2Proof.Machine.State) (time : ℕ) (w : ℕ) (kind : ℕ) (source : ℕ) (scope : ℕ) (outcome : ℕ) (scopeId : ℕ) (detail : List ℕ) (digest : List ℕ) : Keeps 0x14c004600000000000000000000000000000000000000000000000000000070000000000000000018 s (State.journalAt s time w kind source scope outcome scopeId detail digest) := by
  unfold State.journalAt
  repeat' first
    | with_reducible exact Keeps.refl _ _
    | with_reducible apply Keeps.ite
    | (with_reducible apply Keeps.next (State.raise_keeps ..)); decide +kernel
    | (with_reducible apply Keeps.next (State.putJournals_keeps ..)); decide +kernel
    | (with_reducible apply Keeps.next (State.jrnlSync_keeps ..)); decide +kernel
    | (with_reducible apply Keeps.next (State.bump_keeps ..)); decide +kernel
    | with_reducible apply Keeps.foldl
    | (intro _; beta_reduce)
    | split
    | dsimp only

theorem State.journal_keeps (s : Sys2Proof.Machine.State) (w : ℕ) (kind : ℕ) (source : ℕ) (scope : ℕ) (outcome : ℕ) (scopeId : ℕ) (detail : List ℕ) (digest : List ℕ) : Keeps 0x14c004600000000000000000000000000000000000000000000000000000070000000000000000018 s (State.journal s w kind source scope outcome scopeId detail digest) := by
  unfold State.journal
  repeat' first
    | with_reducible exact Keeps.refl _ _
    | with_reducible apply Keeps.ite
    | (with_reducible apply Keeps.next (State.journalAt_keeps ..)); decide +kernel
    | with_reducible apply Keeps.foldl
    | (intro _; beta_reduce)
    | split
    | dsimp only

end Sys2Proof.Machine
end

