-- ==== Sys2Proof/Laws/KeepsAttention.lean ====
section
/-!
SUPPORT. What each operation of Machine/Attention.lean may change.
-/
namespace Sys2Proof.Machine
set_option linter.unusedTactic false
set_option linter.unreachableTactic false
set_option Elab.async false

theorem State.attnRelease_keeps (s : Sys2Proof.Machine.State) (w : ℕ) : Keeps 0x10 s (State.attnRelease s w) := by
  unfold State.attnRelease
  repeat' first
    | with_reducible exact Keeps.refl _ _
    | with_reducible apply Keeps.ite
    | (with_reducible apply Keeps.next (State.putAtns_keeps ..)); decide +kernel
    | with_reducible apply Keeps.foldl
    | (intro _; beta_reduce)
    | split
    | dsimp only

theorem leafMaskWrite_keeps (w : ℕ) (g : ℕ) (v : ℕ) (s : Sys2Proof.Machine.State) : Keeps 0x1cc004600000000000000000000000000000000000000000000000000000000000000000000000010 s (leafMaskWrite w g v s) := by
  unfold leafMaskWrite
  repeat' first
    | with_reducible exact Keeps.refl _ _
    | with_reducible apply Keeps.ite
    | (with_reducible apply Keeps.next (State.tmcEvent_keeps ..)); decide +kernel
    | (with_reducible apply Keeps.next (State.setReg_keeps ..)); decide +kernel
    | (with_reducible apply Keeps.next (State.hostEvent_keeps ..)); decide +kernel
    | (with_reducible apply Keeps.next (State.wakeCheck_keeps ..)); decide +kernel
    | with_reducible apply Keeps.foldl
    | (intro _; beta_reduce)
    | split
    | dsimp only

theorem hostMaskWrite_keeps (w : ℕ) (v : ℕ) (s : Sys2Proof.Machine.State) : Keeps 0x14c804600000000000000000000000000000000000000000000000000000000000000000000000010 s (hostMaskWrite w v s) := by
  unfold hostMaskWrite
  repeat' first
    | with_reducible exact Keeps.refl _ _
    | with_reducible apply forEach_keeps
    | with_reducible apply Keeps.ite
    | (with_reducible apply Keeps.next (State.setReg_keeps ..)); decide +kernel
    | (with_reducible apply Keeps.next (State.hostEvent_keeps ..)); decide +kernel
    | (with_reducible apply Keeps.next (State.wakeCheck_keeps ..)); decide +kernel
    | with_reducible apply Keeps.foldl
    | (intro _; beta_reduce)
    | split
    | dsimp only

theorem tmcMaskWrite_keeps (w : ℕ) (v : ℕ) (s : Sys2Proof.Machine.State) : Keeps 0x9000000000000000000000000000000000000000000000000000000000000000000000000000010 s (tmcMaskWrite w v s) := by
  unfold tmcMaskWrite
  repeat' first
    | with_reducible exact Keeps.refl _ _
    | with_reducible apply forEach_keeps
    | with_reducible apply Keeps.ite
    | (with_reducible apply Keeps.next (State.tmcEvent_keeps ..)); decide +kernel
    | (with_reducible apply Keeps.next (State.attnRelease_keeps ..)); decide +kernel
    | (with_reducible apply Keeps.next (State.setReg_keeps ..)); decide +kernel
    | with_reducible apply Keeps.foldl
    | (intro _; beta_reduce)
    | split
    | dsimp only

theorem atnTest_keeps (w : ℕ) (groups : ℕ) (s : Sys2Proof.Machine.State) : Keeps 0x14c004600000000000000000000000000000000000000000000000000000000000000000000000010 s (atnTest w groups s) := by
  unfold atnTest
  repeat' first
    | with_reducible exact Keeps.refl _ _
    | with_reducible apply forEach_keeps
    | with_reducible apply Keeps.ite
    | (with_reducible apply Keeps.next (State.raise_keeps ..)); decide +kernel
    | with_reducible apply Keeps.foldl
    | (intro _; beta_reduce)
    | split
    | dsimp only

theorem tmcSeenClear_keeps (w : ℕ) (v : ℕ) (s : Sys2Proof.Machine.State) : Keeps 0x8000000000000000000000000000000000000000000000000000000000000000000000000000010 s (tmcSeenClear w v s) := by
  unfold tmcSeenClear
  repeat' first
    | with_reducible exact Keeps.refl _ _
    | with_reducible apply Keeps.ite
    | (with_reducible apply Keeps.next (State.setReg_keeps ..)); decide +kernel
    | (with_reducible apply Keeps.next (State.attnRelease_keeps ..)); decide +kernel
    | with_reducible apply Keeps.foldl
    | (intro _; beta_reduce)
    | split
    | dsimp only

theorem msixExpiry_keeps (w : ℕ) (s : Sys2Proof.Machine.State) : Keeps 0x20004400000000000000000000000000000000000000000000000000000000000000000000000010 s (msixExpiry w s) := by
  unfold msixExpiry
  repeat' first
    | with_reducible exact Keeps.refl _ _
    | with_reducible apply Keeps.ite
    | (with_reducible apply Keeps.next (State.sendMsix_keeps ..)); decide +kernel
    | (with_reducible apply Keeps.next (State.bump_keeps ..)); decide +kernel
    | (with_reducible apply Keeps.next (State.putAtns_keeps ..)); decide +kernel
    | with_reducible apply Keeps.foldl
    | (intro _; beta_reduce)
    | split
    | dsimp only

theorem msixSpacing_keeps (w : ℕ) (s : Sys2Proof.Machine.State) : Keeps 0x4400000000000000000000000000000000000000000000000000000000000000000000000010 s (msixSpacing w s) := by
  unfold msixSpacing
  repeat' first
    | with_reducible exact Keeps.refl _ _
    | with_reducible apply Keeps.ite
    | (with_reducible apply Keeps.next (State.sendMsix_keeps ..)); decide +kernel
    | (with_reducible apply Keeps.next (State.putAtns_keeps ..)); decide +kernel
    | with_reducible apply Keeps.foldl
    | (intro _; beta_reduce)
    | split
    | dsimp only

theorem tmcExpiry_keeps (w : ℕ) (s : Sys2Proof.Machine.State) : Keeps 0x10 s (tmcExpiry w s) := by
  unfold tmcExpiry
  repeat' first
    | with_reducible exact Keeps.refl _ _
    | with_reducible apply Keeps.ite
    | (with_reducible apply Keeps.next (State.putAtns_keeps ..)); decide +kernel
    | with_reducible apply Keeps.foldl
    | (intro _; beta_reduce)
    | split
    | dsimp only

theorem atnStart_keeps (w : ℕ) (s : Sys2Proof.Machine.State) : Keeps 0xecf800000000000000000000000000000000000000000000000000000000000000000000000000010 s (atnStart w s) := by
  unfold atnStart
  repeat' first
    | with_reducible exact Keeps.refl _ _
    | with_reducible apply forEach_keeps
    | with_reducible apply Keeps.ite
    | (with_reducible apply Keeps.next (State.setReg_keeps ..)); decide +kernel
    | (with_reducible apply Keeps.next (State.putAtns_keeps ..)); decide +kernel
    | with_reducible apply Keeps.foldl
    | (intro _; beta_reduce)
    | split
    | dsimp only

end Sys2Proof.Machine
end

