-- ==== Sys2Proof/Laws/KeepsLoft.lean ====
section
/-!
SUPPORT. What each operation of Machine/Loft.lean may change.
-/
namespace Sys2Proof.Machine
set_option linter.unusedTactic false
set_option linter.unreachableTactic false
set_option Elab.async false

theorem State.modLofts_keeps (s : Sys2Proof.Machine.State) (k : ℕ) (g : Sys2Proof.Machine.LoftSt → Sys2Proof.Machine.LoftSt) : Keeps 0x400000 s (State.modLofts s k g) := by
  unfold State.modLofts
  repeat' first
    | with_reducible exact Keeps.refl _ _
    | with_reducible apply Keeps.ite
    | (with_reducible apply Keeps.next (State.putLofts_keeps ..)); decide +kernel
    | with_reducible apply Keeps.foldl
    | (intro _; beta_reduce)
    | split
    | dsimp only

theorem State.modLoads_keeps (s : Sys2Proof.Machine.State) (k : ℕ) (g : Sys2Proof.Machine.Load → Sys2Proof.Machine.Load) : Keeps 0x2000000 s (State.modLoads s k g) := by
  unfold State.modLoads
  repeat' first
    | with_reducible exact Keeps.refl _ _
    | with_reducible apply Keeps.ite
    | (with_reducible apply Keeps.next (State.putLoads_keeps ..)); decide +kernel
    | with_reducible apply Keeps.foldl
    | (intro _; beta_reduce)
    | split
    | dsimp only

theorem State.modSlots_keeps (s : Sys2Proof.Machine.State) (k : ℕ) (g : Sys2Proof.Machine.CueSlot → Sys2Proof.Machine.CueSlot) : Keeps 0x8000000 s (State.modSlots s k g) := by
  unfold State.modSlots
  repeat' first
    | with_reducible exact Keeps.refl _ _
    | with_reducible apply Keeps.ite
    | (with_reducible apply Keeps.next (State.putSlots_keeps ..)); decide +kernel
    | with_reducible apply Keeps.foldl
    | (intro _; beta_reduce)
    | split
    | dsimp only

theorem State.modCueUnits_keeps (s : Sys2Proof.Machine.State) (k : ℕ) (g : Sys2Proof.Machine.CueUnit → Sys2Proof.Machine.CueUnit) : Keeps 0x10000000 s (State.modCueUnits s k g) := by
  unfold State.modCueUnits
  repeat' first
    | with_reducible exact Keeps.refl _ _
    | with_reducible apply Keeps.ite
    | (with_reducible apply Keeps.next (State.putCueUnits_keeps ..)); decide +kernel
    | with_reducible apply Keeps.foldl
    | (intro _; beta_reduce)
    | split
    | dsimp only

theorem State.liveToWings_keeps (s : Sys2Proof.Machine.State) (w : ℕ) (os : List Sys2Proof.Machine.StObj) : Keeps 0x2 s (State.liveToWings s w os) := by
  unfold State.liveToWings
  repeat' first
    | with_reducible exact Keeps.refl _ _
    | with_reducible apply forEach_keeps
    | with_reducible apply Keeps.ite
    | (with_reducible apply Keeps.next (State.setWreg_keeps ..)); (first | decide +kernel | exact sub_right _ _ | exact sub_refl _ | exact sub_left (by decide +kernel) | exact regBit_sub (by decide +kernel) _ | exact sub_or (by decide +kernel) (regBit_sub (by decide +kernel) _))
    | with_reducible apply Keeps.foldl
    | (intro _; beta_reduce)
    | split
    | dsimp only

theorem lockStamp_keeps (w : ℕ) (c : ℕ) (s : Sys2Proof.Machine.State) : Keeps 0x800000000000000000000008000000 s (lockStamp w c s) := by
  unfold lockStamp
  repeat' first
    | with_reducible exact Keeps.refl _ _
    | with_reducible apply Keeps.ite
    | (with_reducible apply Keeps.next (State.wr_keeps ..)); decide +kernel
    | (with_reducible apply Keeps.next (State.modSlots_keeps ..)); decide +kernel
    | with_reducible apply Keeps.foldl
    | (intro _; beta_reduce)
    | split
    | dsimp only

theorem leaveWaiting_keeps (w : ℕ) (s : Sys2Proof.Machine.State) : Keeps 0x20000000800000000000000000000008000000 s (leaveWaiting w s) := by
  unfold leaveWaiting
  repeat' first
    | with_reducible exact Keeps.refl _ _
    | with_reducible apply forEach_keeps
    | with_reducible apply Keeps.ite
    | (with_reducible apply Keeps.next (lockStamp_keeps ..)); decide +kernel
    | (with_reducible apply Keeps.next (State.wr_keeps ..)); decide +kernel
    | with_reducible apply Keeps.foldl
    | (intro _; beta_reduce)
    | split
    | dsimp only

theorem imgFail_keeps (w : ℕ) (err : ℕ) (s : Sys2Proof.Machine.State) : Keeps 0x14c004600000000000000000000000000000000000020009000800000000000000000000018000012 s (imgFail w err s) := by
  unfold imgFail
  repeat' first
    | with_reducible exact Keeps.refl _ _
    | with_reducible apply Keeps.ite
    | (with_reducible apply Keeps.next (leaveWaiting_keeps ..)); decide +kernel
    | (with_reducible apply Keeps.next (State.wr_keeps ..)); decide +kernel
    | (with_reducible apply Keeps.next (State.liveToWings_keeps ..)); decide +kernel
    | (with_reducible apply Keeps.next (State.raise_keeps ..)); decide +kernel
    | (with_reducible apply Keeps.next (State.wrSat_keeps ..)); decide +kernel
    | (with_reducible apply Keeps.next (State.modCueUnits_keeps ..)); decide +kernel
    | with_reducible apply Keeps.foldl
    | (intro _; beta_reduce)
    | split
    | dsimp only

theorem sourceHit_keeps (w : ℕ) (f : ℕ) (off : ℕ) (n : ℕ) (s : Sys2Proof.Machine.State) : Keeps 0x14c004600000000000000000000000000000000000020009000800000000000000000000018000012 s (sourceHit w f off n s) := by
  unfold sourceHit
  repeat' first
    | with_reducible exact Keeps.refl _ _
    | with_reducible apply Keeps.ite
    | (with_reducible apply Keeps.next (imgFail_keeps ..)); decide +kernel
    | with_reducible apply Keeps.foldl
    | (intro _; beta_reduce)
    | split
    | dsimp only

theorem storeBytes_keeps (w f off : Nat) (bs : List Nat) (s : State) : Keeps 0x1 s (storeBytes w f off bs s) := by
  unfold storeBytes
  refine State.withLoft_keeps s _ ?_
  generalize s.loft = m
  intro h
  induction bs.zipIdx generalizing m with
  | nil => exact h
  | cons x xs ih => exact ih _ (mwf_mset _ _ _ _ h)

theorem State.poisonLine_keeps (s : State) (w f off : Nat) : Keeps 0x1 s (State.poisonLine s w f off) := by
  unfold State.poisonLine
  split
  · exact Keeps.refl _ _
  · rename_i h
    refine State.withLoftPoison_keeps s _ (fun hn => List.nodup_cons.mpr ⟨?_, hn⟩)
    simpa [State.poisoned] using h

theorem writeLine_keeps (w f off : Nat) (bs : List Nat) (line : Nat) (s : State) : Keeps 0x400000000000000000000000000000000000000000001 s (writeLine w f off bs line s) := by
  unfold writeLine
  dsimp only
  split
  · split
    · exact Keeps.next (storeBytes_keeps ..) (by decide +kernel) (Keeps.widen (State.withLoftPoison_keeps s _ (fun h => h.filter _)) (by decide +kernel))
    · exact Keeps.widen (State.bump_keeps ..) (by decide +kernel)
  · exact Keeps.widen (storeBytes_keeps ..) (by decide +kernel)

theorem loftWrite_keeps (w : ℕ) (f : ℕ) (off : ℕ) (bs : List ℕ) (s : Sys2Proof.Machine.State) : Keeps 0x14c004600000000000000000000000000010400000020009000800000000000000000000018000013 s (loftWrite w f off bs s) := by
  unfold loftWrite
  repeat' first
    | with_reducible exact Keeps.refl _ _
    | with_reducible apply forEach_keeps
    | with_reducible apply Keeps.ite
    | (with_reducible apply Keeps.next (writeLine_keeps ..)); decide +kernel
    | (with_reducible apply Keeps.next (State.incWrap_keeps ..)); decide +kernel
    | (with_reducible apply Keeps.next (sourceHit_keeps ..)); decide +kernel
    | (with_reducible apply Keeps.next (State.bump_keeps ..)); decide +kernel
    | with_reducible apply Keeps.foldl
    | (intro _; beta_reduce)
    | split
    | dsimp only

theorem loftCountRead_keeps (w : ℕ) (f : ℕ) (n : ℕ) (s : Sys2Proof.Machine.State) : Keeps 0x8000000000000000000000000000000000000000000000 s (loftCountRead w f n s) := by
  unfold loftCountRead
  repeat' first
    | with_reducible exact Keeps.refl _ _
    | with_reducible apply Keeps.ite
    | (with_reducible apply Keeps.next (State.incWrap_keeps ..)); decide +kernel
    | with_reducible apply Keeps.foldl
    | (intro _; beta_reduce)
    | split
    | dsimp only

theorem zeroLoft_keeps (w f off n : Nat) (s : State) : Keeps 0x1 s (zeroLoft w f off n s) := by
  unfold zeroLoft
  exact Keeps.next (State.withLoftPoison_keeps _ _ (fun h => h.filter _)) (by decide +kernel) (State.withLoft_keeps s _ (fun h => mwf_filter _ _ _ h))

theorem writePieces_keeps (w f : Nat) (ps : List (Nat × Nat)) (bs : List Nat) (s : State) : Keeps 0x14c004600000000000000000000000000010400000020009000800000000000000000000018000013 s (writePieces w f ps bs s) := by
  induction ps generalizing bs s with
  | nil => exact Keeps.refl _ _
  | cons x ps ih => exact Keeps.next (ih _ _) (sub_refl _) (Keeps.widen (loftWrite_keeps ..) (by decide +kernel))

theorem rangeError_keeps (w : ℕ) (f : ℕ) (p : ℕ) (addr : ℕ) (kind : ℕ) (s : Sys2Proof.Machine.State) : Keeps 0x54c004600000000000000000000000000001400000000000000000000000000000000000000000010 s (rangeError w f p addr kind s) := by
  unfold rangeError
  repeat' first
    | with_reducible exact Keeps.refl _ _
    | with_reducible apply Keeps.ite
    | (with_reducible apply Keeps.next (State.raiseF_keeps ..)); decide +kernel
    | (with_reducible apply Keeps.next (State.bump_keeps ..)); decide +kernel
    | (with_reducible apply Keeps.next (State.wr_keeps ..)); decide +kernel
    | with_reducible apply Keeps.foldl
    | (intro _; beta_reduce)
    | split
    | dsimp only

end Sys2Proof.Machine
end

