-- ==== Sys2Proof/Laws/KeepsHostIf.lean ====
section
/-!
SUPPORT. What each operation of Machine/HostIf.lean may change.
-/
namespace Sys2Proof.Machine
set_option linter.unusedTactic false
set_option linter.unreachableTactic false
set_option Elab.async false

theorem State.chanSync_keeps (s : Sys2Proof.Machine.State) (w : ℕ) (c : ℕ) : Keeps 0x80000000000000000000000000000000000000000000000000000000000000000000000000000 s (State.chanSync s w c) := by
  unfold State.chanSync
  repeat' first
    | with_reducible exact Keeps.refl _ _
    | with_reducible apply Keeps.ite
    | (with_reducible apply Keeps.next (State.wr_keeps ..)); decide +kernel
    | with_reducible apply Keeps.foldl
    | (intro _; beta_reduce)
    | split
    | dsimp only

theorem State.chansSync_keeps (s : Sys2Proof.Machine.State) (w : ℕ) : Keeps 0x80000000000000000000000000000000000000000000000000000000000000000000000000000 s (State.chansSync s w) := by
  unfold State.chansSync
  repeat' first
    | with_reducible exact Keeps.refl _ _
    | with_reducible apply forEach_keeps
    | with_reducible apply Keeps.ite
    | (with_reducible apply Keeps.next (State.chanSync_keeps ..)); decide +kernel
    | with_reducible apply Keeps.foldl
    | (intro _; beta_reduce)
    | split
    | dsimp only

theorem chanAbort_keeps (w : ℕ) (c : ℕ) (s : Sys2Proof.Machine.State) : Keeps 0x40 s (chanAbort w c s) := by
  unfold chanAbort
  repeat' first
    | with_reducible exact Keeps.refl _ _
    | with_reducible apply Keeps.ite
    | (with_reducible apply Keeps.next (State.putChans_keeps ..)); decide +kernel
    | with_reducible apply Keeps.foldl
    | (intro _; beta_reduce)
    | split
    | dsimp only

theorem chanReset_keeps (w : ℕ) (c : ℕ) (s : Sys2Proof.Machine.State) : Keeps 0x1f8000000000000000000000000000000000000000000000000000000000000000000000000040 s (chanReset w c s) := by
  unfold chanReset
  repeat' first
    | with_reducible exact Keeps.refl _ _
    | with_reducible apply Keeps.ite
    | (with_reducible apply Keeps.next (chanAbort_keeps ..)); decide +kernel
    | (with_reducible apply Keeps.next (State.setReg_keeps ..)); decide +kernel
    | with_reducible apply Keeps.foldl
    | (intro _; beta_reduce)
    | split
    | dsimp only

theorem hifReset_keeps (w : ℕ) (s : Sys2Proof.Machine.State) : Keeps 0x1ffc40000000000000000000000000000000000000000000000000000000000000000000000060 s (hifReset w s) := by
  unfold hifReset
  repeat' first
    | with_reducible exact Keeps.refl _ _
    | with_reducible apply forEach_keeps
    | with_reducible apply Keeps.ite
    | (with_reducible apply Keeps.next (State.wr_keeps ..)); decide +kernel
    | (with_reducible apply Keeps.next (State.setReg_keeps ..)); decide +kernel
    | (with_reducible apply Keeps.next (chanReset_keeps ..)); decide +kernel
    | (with_reducible apply Keeps.next (State.modHifs_keeps ..)); decide +kernel
    | (with_reducible apply Keeps.next (State.msixSync_keeps ..)); decide +kernel
    | with_reducible apply Keeps.foldl
    | (intro _; beta_reduce)
    | split
    | dsimp only

theorem pcieLinkDown_keeps (w : ℕ) (s : Sys2Proof.Machine.State) : Keeps 0xc0000000000000000000000000000000000000000000000000000000000000000000000000 s (pcieLinkDown w s) := by
  unfold pcieLinkDown
  repeat' first
    | with_reducible exact Keeps.refl _ _
    | with_reducible apply Keeps.ite
    | (with_reducible apply Keeps.next (State.wr_keeps ..)); decide +kernel
    | (with_reducible apply Keeps.next (State.bump_keeps ..)); decide +kernel
    | with_reducible apply Keeps.foldl
    | (intro _; beta_reduce)
    | split
    | dsimp only

theorem pcieLost_keeps (w : ℕ) (s : Sys2Proof.Machine.State) : Keeps 0x1ffcc0000000000000000000000000000000000000000000000000000000000000000000000060 s (pcieLost w s) := by
  unfold pcieLost
  repeat' first
    | with_reducible exact Keeps.refl _ _
    | with_reducible apply Keeps.ite
    | (with_reducible apply Keeps.next (State.wr_keeps ..)); decide +kernel
    | (with_reducible apply Keeps.next (State.modHifs_keeps ..)); decide +kernel
    | (with_reducible apply Keeps.next (hifReset_keeps ..)); decide +kernel
    | (with_reducible apply Keeps.next (pcieLinkDown_keeps ..)); decide +kernel
    | with_reducible apply Keeps.foldl
    | (intro _; beta_reduce)
    | split
    | dsimp only

theorem perstAssert_keeps (w : ℕ) (s : Sys2Proof.Machine.State) : Keeps 0x1ffcc0000000000000000000000000000000000000000000000000000000000000000000000060 s (perstAssert w s) := by
  unfold perstAssert
  repeat' first
    | with_reducible exact Keeps.refl _ _
    | with_reducible apply Keeps.ite
    | (with_reducible apply Keeps.next (State.wr_keeps ..)); decide +kernel
    | (with_reducible apply Keeps.next (State.bump_keeps ..)); decide +kernel
    | (with_reducible apply Keeps.next (hifReset_keeps ..)); decide +kernel
    | (with_reducible apply Keeps.next (pcieLinkDown_keeps ..)); decide +kernel
    | with_reducible apply Keeps.foldl
    | (intro _; beta_reduce)
    | split
    | dsimp only

theorem perstRelease_keeps (w : ℕ) (s : Sys2Proof.Machine.State) : Keeps 0x240000000000000000000000000000000000000000000000000000000000000000000000020 s (perstRelease w s) := by
  unfold perstRelease
  repeat' first
    | with_reducible exact Keeps.refl _ _
    | with_reducible apply Keeps.ite
    | (with_reducible apply Keeps.next (State.wr_keeps ..)); decide +kernel
    | (with_reducible apply Keeps.next (State.modHifs_keeps ..)); decide +kernel
    | with_reducible apply Keeps.foldl
    | (intro _; beta_reduce)
    | split
    | dsimp only

theorem hotReset_keeps (w : ℕ) (s : Sys2Proof.Machine.State) : Keeps 0x1ffcc0000000000000000000000000000000000000000000000000000000000000000000000060 s (hotReset w s) := by
  unfold hotReset
  repeat' first
    | with_reducible exact Keeps.refl _ _
    | with_reducible apply Keeps.ite
    | (with_reducible apply Keeps.next (State.wr_keeps ..)); decide +kernel
    | (with_reducible apply Keeps.next (State.bump_keeps ..)); decide +kernel
    | (with_reducible apply Keeps.next (hifReset_keeps ..)); decide +kernel
    | (with_reducible apply Keeps.next (pcieLinkDown_keeps ..)); decide +kernel
    | with_reducible apply Keeps.foldl
    | (intro _; beta_reduce)
    | split
    | dsimp only

theorem flr_keeps (w : ℕ) (s : Sys2Proof.Machine.State) : Keeps 0x1ffcc0000000000000000000000000000000000000000000000000000000000000000000000060 s (flr w s) := by
  unfold flr
  repeat' first
    | with_reducible exact Keeps.refl _ _
    | with_reducible apply Keeps.ite
    | (with_reducible apply Keeps.next (State.wr_keeps ..)); decide +kernel
    | (with_reducible apply Keeps.next (State.bump_keeps ..)); decide +kernel
    | (with_reducible apply Keeps.next (hifReset_keeps ..)); decide +kernel
    | with_reducible apply Keeps.foldl
    | (intro _; beta_reduce)
    | split
    | dsimp only

theorem pcieLinkUp_keeps (w : ℕ) (speed : ℕ) (width : ℕ) (s : Sys2Proof.Machine.State) : Keeps 0x40000000000000000000000000000000000000000000000000000000000000000000000000 s (pcieLinkUp w speed width s) := by
  unfold pcieLinkUp
  repeat' first
    | with_reducible exact Keeps.refl _ _
    | with_reducible apply Keeps.ite
    | (with_reducible apply Keeps.next (State.wr_keeps ..)); decide +kernel
    | with_reducible apply Keeps.foldl
    | (intro _; beta_reduce)
    | split
    | dsimp only

theorem pmcsrWrite_keeps (w : ℕ) (d3hot : Bool) (pmeEn : Bool) (clearPme : Bool) (s : Sys2Proof.Machine.State) : Keeps 0x84640000000000000000000000000000000000000000000000000000000000000000000000030 s (pmcsrWrite w d3hot pmeEn clearPme s) := by
  unfold pmcsrWrite
  repeat' first
    | with_reducible exact Keeps.refl _ _
    | with_reducible apply Keeps.ite
    | (with_reducible apply Keeps.next (State.wr_keeps ..)); decide +kernel
    | (with_reducible apply Keeps.next (State.sendMsix_keeps ..)); decide +kernel
    | (with_reducible apply Keeps.next (State.modHifs_keeps ..)); decide +kernel
    | (with_reducible apply Keeps.next (State.chansSync_keeps ..)); decide +kernel
    | with_reducible apply Keeps.foldl
    | (intro _; beta_reduce)
    | split
    | dsimp only

theorem msixEnable_keeps (w : ℕ) (on : Bool) (s : Sys2Proof.Machine.State) : Keeps 0x4400000000000000000000000000000000000000000000000000000000000000000000000030 s (msixEnable w on s) := by
  unfold msixEnable
  repeat' first
    | with_reducible exact Keeps.refl _ _
    | with_reducible apply Keeps.ite
    | (with_reducible apply Keeps.next (State.sendMsix_keeps ..)); decide +kernel
    | (with_reducible apply Keeps.next (State.modHifs_keeps ..)); decide +kernel
    | (with_reducible apply Keeps.next (State.msixSync_keeps ..)); decide +kernel
    | with_reducible apply Keeps.foldl
    | (intro _; beta_reduce)
    | split
    | dsimp only

theorem msixMask_keeps (w : ℕ) (func : Bool) (vector : Bool) (s : Sys2Proof.Machine.State) : Keeps 0x6400000000000000000000000000000000000000000000000000000000000000000000000030 s (msixMask w func vector s) := by
  unfold msixMask
  repeat' first
    | with_reducible exact Keeps.refl _ _
    | with_reducible apply Keeps.ite
    | (with_reducible apply Keeps.next (State.sendMsix_keeps ..)); decide +kernel
    | (with_reducible apply Keeps.next (State.modHifs_keeps ..)); decide +kernel
    | (with_reducible apply Keeps.next (State.msixSync_keeps ..)); decide +kernel
    | (with_reducible apply Keeps.next (State.wr_keeps ..)); decide +kernel
    | with_reducible apply Keeps.foldl
    | (intro _; beta_reduce)
    | split
    | dsimp only

theorem busMaster_keeps (w : ℕ) (on : Bool) (s : Sys2Proof.Machine.State) : Keeps 0x84440000000000000000000000000000000000000000000000000000000000000000000000010 s (busMaster w on s) := by
  unfold busMaster
  repeat' first
    | with_reducible exact Keeps.refl _ _
    | with_reducible apply Keeps.ite
    | (with_reducible apply Keeps.next (State.wr_keeps ..)); decide +kernel
    | (with_reducible apply Keeps.next (State.sendMsix_keeps ..)); decide +kernel
    | (with_reducible apply Keeps.next (State.chansSync_keeps ..)); decide +kernel
    | with_reducible apply Keeps.foldl
    | (intro _; beta_reduce)
    | split
    | dsimp only

theorem dmaTail_keeps (w : ℕ) (c : ℕ) (v : ℕ) (s : Sys2Proof.Machine.State) : Keeps 0x14c0a4600000000000000000000000000000000000000000000000000000000000000000000000010 s (dmaTail w c v s) := by
  unfold dmaTail
  repeat' first
    | with_reducible exact Keeps.refl _ _
    | with_reducible apply Keeps.ite
    | (with_reducible apply Keeps.next (State.raise_keeps ..)); decide +kernel
    | (with_reducible apply Keeps.next (State.setReg_keeps ..)); decide +kernel
    | (with_reducible apply Keeps.next (State.chanSync_keeps ..)); decide +kernel
    | with_reducible apply Keeps.foldl
    | (intro _; beta_reduce)
    | split
    | dsimp only

theorem dmaEnable_keeps (w : ℕ) (c : ℕ) (log2 : ℕ) (s : Sys2Proof.Machine.State) : Keeps 0x14c1f4600000000000000000000000000000000000000000000000000000000000000000000000050 s (dmaEnable w c log2 s) := by
  unfold dmaEnable
  repeat' first
    | with_reducible exact Keeps.refl _ _
    | with_reducible apply Keeps.ite
    | (with_reducible apply Keeps.next (State.raise_keeps ..)); decide +kernel
    | (with_reducible apply Keeps.next (State.wr_keeps ..)); decide +kernel
    | (with_reducible apply Keeps.next (State.setReg_keeps ..)); decide +kernel
    | (with_reducible apply Keeps.next (State.chanSync_keeps ..)); decide +kernel
    | (with_reducible apply Keeps.next (State.putChans_keeps ..)); decide +kernel
    | with_reducible apply Keeps.foldl
    | (intro _; beta_reduce)
    | split
    | dsimp only

theorem dmaDisable_keeps (w : ℕ) (c : ℕ) (s : Sys2Proof.Machine.State) : Keeps 0xf0000000000000000000000000000000000000000000000000000000000000000000000000040 s (dmaDisable w c s) := by
  unfold dmaDisable
  repeat' first
    | with_reducible exact Keeps.refl _ _
    | with_reducible apply Keeps.ite
    | (with_reducible apply Keeps.next (chanAbort_keeps ..)); decide +kernel
    | (with_reducible apply Keeps.next (State.wr_keeps ..)); decide +kernel
    | (with_reducible apply Keeps.next (State.setReg_keeps ..)); decide +kernel
    | with_reducible apply Keeps.foldl
    | (intro _; beta_reduce)
    | split
    | dsimp only

theorem dmaResume_keeps (w : ℕ) (c : ℕ) (s : Sys2Proof.Machine.State) : Keeps 0x80000000000000000000000000000000000000000000000000000000000000000000000000000 s (dmaResume w c s) := by
  unfold dmaResume
  repeat' first
    | with_reducible exact Keeps.refl _ _
    | with_reducible apply Keeps.ite
    | (with_reducible apply Keeps.next (State.chanSync_keeps ..)); decide +kernel
    | (with_reducible apply Keeps.next (State.wr_keeps ..)); decide +kernel
    | with_reducible apply Keeps.foldl
    | (intro _; beta_reduce)
    | split
    | dsimp only

theorem dmaEnd_keeps (w : ℕ) (c : ℕ) (code : ℕ) (s : Sys2Proof.Machine.State) : Keeps 0x14c0c4600000000000000000000000000000000000000000000000000000000000000000000000050 s (dmaEnd w c code s) := by
  unfold dmaEnd
  repeat' first
    | with_reducible exact Keeps.refl _ _
    | with_reducible apply Keeps.ite
    | (with_reducible apply Keeps.next (State.incWrap_keeps ..)); decide +kernel
    | (with_reducible apply Keeps.next (State.raise_keeps ..)); decide +kernel
    | (with_reducible apply Keeps.next (State.modChans_keeps ..)); decide +kernel
    | (with_reducible apply Keeps.next (State.chanSync_keeps ..)); decide +kernel
    | (with_reducible apply Keeps.next (State.emit_keeps ..)); decide +kernel
    | (with_reducible apply Keeps.next (State.wr_keeps ..)); decide +kernel
    | with_reducible apply Keeps.foldl
    | (intro _; beta_reduce)
    | split
    | dsimp only

theorem dmaToHost_keeps (w : ℕ) (c : ℕ) (d : Sys2Proof.DmaDesc) (s : Sys2Proof.Machine.State) : Keeps 0x14c1c4600000000000000000000000000008000000000000000000000000000000000000000000050 s (dmaToHost w c d s) := by
  unfold dmaToHost
  repeat' first
    | with_reducible exact Keeps.refl _ _
    | with_reducible apply Keeps.ite
    | (with_reducible apply Keeps.next (loftCountRead_keeps ..)); decide +kernel
    | (with_reducible apply Keeps.next (dmaEnd_keeps ..)); decide +kernel
    | (with_reducible apply Keeps.next (State.incWrap_keeps ..)); decide +kernel
    | (with_reducible apply Keeps.next (State.emit_keeps ..)); decide +kernel
    | with_reducible apply Keeps.foldl
    | (intro _; beta_reduce)
    | split
    | dsimp only

theorem dmaReadFails_keeps (w : ℕ) (c : ℕ) (code : ℕ) (s : Sys2Proof.Machine.State) : Keeps 0x14c0c4600000000000000000000000000000000000000000000000000000000000000000000000050 s (dmaReadFails w c code s) := by
  unfold dmaReadFails
  repeat' first
    | with_reducible exact Keeps.refl _ _
    | with_reducible apply Keeps.ite
    | (with_reducible apply Keeps.next (State.modChans_keeps ..)); decide +kernel
    | (with_reducible apply Keeps.next (dmaEnd_keeps ..)); decide +kernel
    | with_reducible apply Keeps.foldl
    | (intro _; beta_reduce)
    | split
    | dsimp only

theorem dmaArrive_keeps (w : ℕ) (c : ℕ) (x : Sys2Proof.DmaArrival) (s : Sys2Proof.Machine.State) : Keeps 0x14c1c4600000000000000000000000000010400000020009000800000000000000000000018000053 s (dmaArrive w c x s) := by
  unfold dmaArrive
  repeat' first
    | with_reducible exact Keeps.refl _ _
    | with_reducible apply Keeps.ite
    | (with_reducible apply Keeps.next (dmaReadFails_keeps ..)); decide +kernel
    | (with_reducible apply Keeps.next (State.modChans_keeps ..)); decide +kernel
    | (with_reducible apply Keeps.next (dmaEnd_keeps ..)); decide +kernel
    | (with_reducible apply Keeps.next (State.incWrap_keeps ..)); decide +kernel
    | (with_reducible apply Keeps.next (loftWrite_keeps ..)); decide +kernel
    | (with_reducible apply Keeps.next (State.putChans_keeps ..)); decide +kernel
    | with_reducible apply Keeps.foldl
    | (intro _; beta_reduce)
    | split
    | dsimp only

theorem dmaDone_keeps (w : ℕ) (c : ℕ) (s : Sys2Proof.Machine.State) : Keeps 0x14c1c4600000000000000000000000000008000000000000000000000000000000000000000000050 s (dmaDone w c s) := by
  unfold dmaDone
  repeat' first
    | with_reducible exact Keeps.refl _ _
    | with_reducible apply Keeps.ite
    | (with_reducible apply Keeps.next (dmaToHost_keeps ..)); decide +kernel
    | (with_reducible apply Keeps.next (dmaEnd_keeps ..)); decide +kernel
    | with_reducible apply Keeps.foldl
    | (intro _; beta_reduce)
    | split
    | dsimp only

theorem dmaTimeout_keeps (w : ℕ) (c : ℕ) (s : Sys2Proof.Machine.State) : Keeps 0x14c0c4600000000000000000000000000000000000000000000000000000000000000000000000050 s (dmaTimeout w c s) := by
  unfold dmaTimeout
  repeat' first
    | with_reducible exact Keeps.refl _ _
    | with_reducible apply Keeps.ite
    | (with_reducible apply Keeps.next (dmaReadFails_keeps ..)); decide +kernel
    | with_reducible apply Keeps.foldl
    | (intro _; beta_reduce)
    | split
    | dsimp only

theorem l1Entry_keeps (w : ℕ) (s : Sys2Proof.Machine.State) : Keeps 0x40000000000000000000000000000000000000000000000000000000000000000000000020 s (l1Entry w s) := by
  unfold l1Entry
  repeat' first
    | with_reducible exact Keeps.refl _ _
    | with_reducible apply Keeps.ite
    | (with_reducible apply Keeps.next (State.wr_keeps ..)); decide +kernel
    | (with_reducible apply Keeps.next (State.modHifs_keeps ..)); decide +kernel
    | with_reducible apply Keeps.foldl
    | (intro _; beta_reduce)
    | split
    | dsimp only

theorem pmeTurnOff_keeps (w : ℕ) (s : Sys2Proof.Machine.State) : Keeps 0x40000000000000000000000000000000000000000000000000000000000000000000000020 s (pmeTurnOff w s) := by
  unfold pmeTurnOff
  repeat' first
    | with_reducible exact Keeps.refl _ _
    | with_reducible apply Keeps.ite
    | (with_reducible apply Keeps.next (State.wr_keeps ..)); decide +kernel
    | (with_reducible apply Keeps.next (State.modHifs_keeps ..)); decide +kernel
    | with_reducible apply Keeps.foldl
    | (intro _; beta_reduce)
    | split
    | dsimp only

theorem pmeRepeat_keeps (w : ℕ) (s : Sys2Proof.Machine.State) : Keeps 0x0 s (pmeRepeat w s) := by
  unfold pmeRepeat
  repeat' first
    | with_reducible exact Keeps.refl _ _
    | with_reducible apply Keeps.ite
    | (with_reducible apply Keeps.next (State.emit_keeps ..)); decide +kernel
    | with_reducible apply Keeps.foldl
    | (intro _; beta_reduce)
    | split
    | dsimp only

theorem pcieEvent_keeps (w : ℕ) (e : Sys2Proof.PcieEvent) (s : Sys2Proof.Machine.State) : Keeps 0xc0000000000000000000000000000000000000000000000000000000000000000000000000 s (pcieEvent w e s) := by
  unfold pcieEvent
  repeat' first
    | with_reducible exact Keeps.refl _ _
    | with_reducible apply Keeps.ite
    | (with_reducible apply Keeps.next (State.wr_keeps ..)); decide +kernel
    | (with_reducible apply Keeps.next (State.bump_keeps ..)); decide +kernel
    | (with_reducible apply Keeps.next (pcieLinkDown_keeps ..)); decide +kernel
    | with_reducible apply Keeps.foldl
    | (intro _; beta_reduce)
    | split
    | dsimp only

end Sys2Proof.Machine
end

