-- ==== Sys2Proof/Laws/KeepsPackets.lean ====
section
/-!
SUPPORT. What each operation of Machine/Packets.lean may change.
-/
namespace Sys2Proof.Machine
set_option linter.unusedTactic false
set_option linter.unreachableTactic false
set_option Elab.async false

theorem enqueue_keeps (w : ℕ) (f : ℕ) (p : Sys2Proof.Packet) (s : Sys2Proof.Machine.State) : Keeps 0x80000 s (enqueue w f p s) := by
  unfold enqueue
  repeat' first
    | with_reducible exact Keeps.refl _ _
    | with_reducible apply Keeps.ite
    | (with_reducible apply Keeps.next (State.putInjects_keeps ..)); decide +kernel
    | with_reducible apply Keeps.foldl
    | (intro _; beta_reduce)
    | split
    | dsimp only

theorem dropPacket_keeps (w : ℕ) (f : ℕ) (reason : ℕ) (p : Sys2Proof.Packet) (s : Sys2Proof.Machine.State) : Keeps 0x14c004600000000000000000000000000000000000000000000000034000000000000000000000010 s (dropPacket w f reason p s) := by
  unfold dropPacket
  repeat' first
    | with_reducible exact Keeps.refl _ _
    | with_reducible apply Keeps.ite
    | (with_reducible apply Keeps.next (State.raise_keeps ..)); decide +kernel
    | (with_reducible apply Keeps.next (State.bump_keeps ..)); decide +kernel
    | (with_reducible apply Keeps.next (State.wr_keeps ..)); decide +kernel
    | with_reducible apply Keeps.foldl
    | (intro _; beta_reduce)
    | split
    | dsimp only

theorem State.useCredits_keeps (s : Sys2Proof.Machine.State) (key : ℕ) (vc : ℕ) (n : ℕ) : Keeps 0x100000 s (State.useCredits s key vc n) := by
  unfold State.useCredits
  repeat' first
    | with_reducible exact Keeps.refl _ _
    | with_reducible apply Keeps.ite
    | (with_reducible apply Keeps.next (State.putFabricCredits_keeps ..)); decide +kernel
    | with_reducible apply Keeps.foldl
    | (intro _; beta_reduce)
    | split
    | dsimp only

theorem emitOn_keeps (w : ℕ) (f : ℕ) (port : ℕ) (p : Sys2Proof.Packet) (s : Sys2Proof.Machine.State) : Keeps 0x14c004600000000000000000000000000000000000000000000000034000000000000000000100010 s (emitOn w f port p s) := by
  unfold emitOn
  repeat' first
    | with_reducible exact Keeps.refl _ _
    | with_reducible apply Keeps.ite
    | (with_reducible apply Keeps.next (dropPacket_keeps ..)); decide +kernel
    | (with_reducible apply Keeps.next (State.useCredits_keeps ..)); decide +kernel
    | (with_reducible apply Keeps.next (State.emit_keeps ..)); decide +kernel
    | with_reducible apply Keeps.foldl
    | (intro _; beta_reduce)
    | split
    | dsimp only

theorem sendLoose_keeps (w : ℕ) (f : ℕ) (p : Sys2Proof.Packet) (s : Sys2Proof.Machine.State) : Keeps 0x14c004600000000000000000000000000000000000000000000000034000000000000000000180010 s (sendLoose w f p s) := by
  unfold sendLoose
  repeat' first
    | with_reducible exact Keeps.refl _ _
    | with_reducible apply Keeps.ite
    | (with_reducible apply Keeps.next (State.putInjects_keeps ..)); decide +kernel
    | (with_reducible apply Keeps.next (emitOn_keeps ..)); decide +kernel
    | (with_reducible apply Keeps.next (State.emit_keeps ..)); decide +kernel
    | with_reducible apply Keeps.foldl
    | (intro _; beta_reduce)
    | split
    | dsimp only

theorem streamSend_keeps (w : ℕ) (f : ℕ) (p : Sys2Proof.Packet) (s : Sys2Proof.Machine.State) : Keeps 0x14c004600000000000000000000000000000000000000000000000034000000000000000000104010 s (streamSend w f p s) := by
  unfold streamSend
  repeat' first
    | with_reducible exact Keeps.refl _ _
    | with_reducible apply Keeps.ite
    | (with_reducible apply Keeps.next (emitOn_keeps ..)); decide +kernel
    | (with_reducible apply Keeps.next (State.putSends_keeps ..)); decide +kernel
    | (with_reducible apply Keeps.next (State.emit_keeps ..)); decide +kernel
    | with_reducible apply Keeps.foldl
    | (intro _; beta_reduce)
    | split
    | dsimp only

theorem sendMsg_keeps (w : ℕ) (f : ℕ) (p : Sys2Proof.Packet) (bs : List ℕ) (s : Sys2Proof.Machine.State) : Keeps 0x80000 s (sendMsg w f p bs s) := by
  unfold sendMsg
  repeat' first
    | with_reducible exact Keeps.refl _ _
    | with_reducible apply forEach_keeps
    | with_reducible apply Keeps.ite
    | (with_reducible apply Keeps.next (enqueue_keeps ..)); decide +kernel
    | with_reducible apply Keeps.foldl
    | (intro _; beta_reduce)
    | split
    | dsimp only

theorem resetSends_keeps (sel : ℕ → Bool) (s : Sys2Proof.Machine.State) : Keeps 0x4000 s (resetSends sel s) := by
  unfold resetSends
  repeat' first
    | with_reducible exact Keeps.refl _ _
    | with_reducible apply Keeps.ite
    | (with_reducible apply Keeps.next (State.withSends_keeps _ _ (fun h => mwf_filter _ _ _ h))); decide +kernel
    | (with_reducible apply Keeps.next (State.withSends_keeps _ _ (fun h => mwf_mmap _ _ _ h))); decide +kernel
    | with_reducible apply Keeps.foldl
    | (intro _; beta_reduce)
    | split
    | dsimp only

theorem resetRecvs_keeps (sel : ℕ → Bool) (s : Sys2Proof.Machine.State) : Keeps 0x8000 s (resetRecvs sel s) := by
  unfold resetRecvs
  repeat' first
    | with_reducible exact Keeps.refl _ _
    | with_reducible apply Keeps.ite
    | (with_reducible apply Keeps.next (State.withRecvs_keeps _ _ (fun h => mwf_filter _ _ _ h))); decide +kernel
    | (with_reducible apply Keeps.next (State.withRecvs_keeps _ _ (fun h => mwf_mmap _ _ _ h))); decide +kernel
    | with_reducible apply Keeps.foldl
    | (intro _; beta_reduce)
    | split
    | dsimp only

end Sys2Proof.Machine
end

