-- ==== Sys2Proof/Laws/KeepsCores.lean ====
section
/-!
SUPPORT. What each operation of Machine/Cores.lean may change.
-/
namespace Sys2Proof.Machine
set_option linter.unusedTactic false
set_option linter.unreachableTactic false
set_option Elab.async false

theorem State.setCore_keeps (s : Sys2Proof.Machine.State) (w : ℕ) (f : ℕ) (u : ℕ) (c : Sys2Proof.Machine.Core) : Keeps 0x400000000000000000000200 s (State.setCore s w f u c) := by
  unfold State.setCore
  repeat' first
    | with_reducible exact Keeps.refl _ _
    | with_reducible apply Keeps.ite
    | (with_reducible apply Keeps.next (State.wr_keeps ..)); decide +kernel
    | (with_reducible apply Keeps.next (State.putCores_keeps ..)); decide +kernel
    | with_reducible apply Keeps.foldl
    | (intro _; beta_reduce)
    | split
    | dsimp only

theorem State.modCore_keeps (s : Sys2Proof.Machine.State) (w : ℕ) (f : ℕ) (u : ℕ) (g : Sys2Proof.Machine.Core → Sys2Proof.Machine.Core) : Keeps 0x400000000000000000000200 s (State.modCore s w f u g) := by
  unfold State.modCore
  repeat' first
    | with_reducible exact Keeps.refl _ _
    | with_reducible apply Keeps.ite
    | (with_reducible apply Keeps.next (State.setCore_keeps ..)); decide +kernel
    | with_reducible apply Keeps.foldl
    | (intro _; beta_reduce)
    | split
    | dsimp only

theorem State.addTokens_keeps (s : Sys2Proof.Machine.State) (w : ℕ) (f : ℕ) (u : ℕ) (n : ℕ) : Keeps 0x800000000000000000000000 s (State.addTokens s w f u n) := by
  unfold State.addTokens
  repeat' first
    | with_reducible exact Keeps.refl _ _
    | with_reducible apply Keeps.ite
    | (with_reducible apply Keeps.next (State.incWrap_keeps ..)); decide +kernel
    | with_reducible apply Keeps.foldl
    | (intro _; beta_reduce)
    | split
    | dsimp only

theorem State.initCore_keeps (s : Sys2Proof.Machine.State) (w : ℕ) (f : ℕ) (u : ℕ) : Keeps 0xc00000000000000000000200 s (State.initCore s w f u) := by
  unfold State.initCore
  repeat' first
    | with_reducible exact Keeps.refl _ _
    | with_reducible apply Keeps.ite
    | (with_reducible apply Keeps.next (State.setCore_keeps ..)); decide +kernel
    | (with_reducible apply Keeps.next (State.setReg_keeps ..)); decide +kernel
    | with_reducible apply Keeps.foldl
    | (intro _; beta_reduce)
    | split
    | dsimp only

theorem State.clearCore_keeps (s : Sys2Proof.Machine.State) (w : ℕ) (f : ℕ) (u : ℕ) (st : Sys2Proof.Machine.CoreSt) : Keeps 0x400000000000000000000200 s (State.clearCore s w f u st) := by
  unfold State.clearCore
  repeat' first
    | with_reducible exact Keeps.refl _ _
    | with_reducible apply Keeps.ite
    | (with_reducible apply Keeps.next (State.setCore_keeps ..)); decide +kernel
    | with_reducible apply Keeps.foldl
    | (intro _; beta_reduce)
    | split
    | dsimp only

theorem State.haltSync_keeps (s : Sys2Proof.Machine.State) (w : ℕ) (f : ℕ) (p : Option ℕ) : Keeps 0x500100000000000000000000000000000000000000000000000000000000000000000000000000000000000000000 s (State.haltSync s w f p) := by
  unfold State.haltSync
  repeat' first
    | with_reducible exact Keeps.refl _ _
    | with_reducible apply Keeps.ite
    | (with_reducible apply Keeps.next (State.setReg_keeps ..)); decide +kernel
    | (with_reducible apply Keeps.next (State.wr_keeps ..)); decide +kernel
    | with_reducible apply Keeps.foldl
    | (intro _; beta_reduce)
    | split
    | dsimp only

theorem withdrawTake_keeps (w : ℕ) (f : ℕ) (u : ℕ) (s : Sys2Proof.Machine.State) : Keeps 0x800000000000000000000000000000000000000000000002000 s (withdrawTake w f u s) := by
  unfold withdrawTake
  repeat' first
    | with_reducible exact Keeps.refl _ _
    | with_reducible apply Keeps.ite
    | (with_reducible apply Keeps.next (State.putSemas_keeps ..)); decide +kernel
    | (with_reducible apply Keeps.next (State.wrSat_keeps ..)); decide +kernel
    | with_reducible apply Keeps.foldl
    | (intro _; beta_reduce)
    | split
    | dsimp only

theorem endWait_keeps (w : ℕ) (f : ℕ) (u : ℕ) (s : Sys2Proof.Machine.State) : Keeps 0x100000000000000000000000000000000000000000400000000000000000000200 s (endWait w f u s) := by
  unfold endWait
  repeat' first
    | with_reducible exact Keeps.refl _ _
    | with_reducible apply Keeps.ite
    | (with_reducible apply Keeps.next (State.incWrap_keeps ..)); decide +kernel
    | (with_reducible apply Keeps.next (State.modCore_keeps ..)); decide +kernel
    | with_reducible apply Keeps.foldl
    | (intro _; beta_reduce)
    | split
    | dsimp only

theorem haltCore_keeps (w : ℕ) (f : ℕ) (u : ℕ) (reason : ℕ) (hit : ℕ) (s : Sys2Proof.Machine.State) : Keeps 0x58090000000014c004600000000100000000000000800000000000000000000000000400000000000000000002210 s (haltCore w f u reason hit s) := by
  unfold haltCore
  repeat' first
    | with_reducible exact Keeps.refl _ _
    | with_reducible apply forEach_keeps
    | with_reducible apply Keeps.ite
    | (with_reducible apply Keeps.next (State.raise_keeps ..)); decide +kernel
    | (with_reducible apply Keeps.next (State.wr_keeps ..)); decide +kernel
    | (with_reducible apply Keeps.next (State.haltSync_keeps ..)); decide +kernel
    | (with_reducible apply Keeps.next (State.setCore_keeps ..)); decide +kernel
    | (with_reducible apply Keeps.next (endWait_keeps ..)); decide +kernel
    | (with_reducible apply Keeps.next (withdrawTake_keeps ..)); decide +kernel
    | (with_reducible apply Keeps.next (State.putCores_keeps ..)); decide +kernel
    | with_reducible apply Keeps.foldl
    | (intro _; beta_reduce)
    | split
    | dsimp only

theorem endHalt_keeps (w : ℕ) (f : ℕ) (u : ℕ) (s : Sys2Proof.Machine.State) : Keeps 0x500900000000000000000000000000000000000000000000000000000000000000000400000000000000000000200 s (endHalt w f u s) := by
  unfold endHalt
  repeat' first
    | with_reducible exact Keeps.refl _ _
    | with_reducible apply Keeps.ite
    | (with_reducible apply Keeps.next (State.haltSync_keeps ..)); decide +kernel
    | (with_reducible apply Keeps.next (State.setCore_keeps ..)); decide +kernel
    | (with_reducible apply Keeps.next (State.bump_keeps ..)); decide +kernel
    | (with_reducible apply Keeps.next (State.wr_keeps ..)); decide +kernel
    | with_reducible apply Keeps.foldl
    | (intro _; beta_reduce)
    | split
    | dsimp only

end Sys2Proof.Machine
end

