-- ==== Sys2Proof/Laws/KeepsDomains.lean ====
section
/-!
SUPPORT. What each operation of Machine/Domains.lean may change.
-/
namespace Sys2Proof.Machine
set_option linter.unusedTactic false
set_option linter.unreachableTactic false
set_option Elab.async false

theorem State.modDoms_keeps (s : Sys2Proof.Machine.State) (k : ℕ) (g : Sys2Proof.Machine.DomX → Sys2Proof.Machine.DomX) : Keeps 0x40000000 s (State.modDoms s k g) := by
  unfold State.modDoms
  repeat' first
    | with_reducible exact Keeps.refl _ _
    | with_reducible apply Keeps.ite
    | (with_reducible apply Keeps.next (State.putDoms_keeps ..)); decide +kernel
    | with_reducible apply Keeps.foldl
    | (intro _; beta_reduce)
    | split
    | dsimp only

theorem State.modParks_keeps (s : Sys2Proof.Machine.State) (k : ℕ) (g : Sys2Proof.Machine.ParkQ → Sys2Proof.Machine.ParkQ) : Keeps 0x20000000 s (State.modParks s k g) := by
  unfold State.modParks
  repeat' first
    | with_reducible exact Keeps.refl _ _
    | with_reducible apply Keeps.ite
    | (with_reducible apply Keeps.next (State.putParks_keeps ..)); decide +kernel
    | with_reducible apply Keeps.foldl
    | (intro _; beta_reduce)
    | split
    | dsimp only

theorem State.setDom_keeps (s : Sys2Proof.Machine.State) (w : ℕ) (d : ℕ) (st : ℕ) : Keeps 0x1020000000000000000000000000000000000000000000000000000000000 s (State.setDom s w d st) := by
  unfold State.setDom
  repeat' first
    | with_reducible exact Keeps.refl _ _
    | with_reducible apply Keeps.ite
    | (with_reducible apply Keeps.next (State.wr_keeps ..)); decide +kernel
    | with_reducible apply Keeps.foldl
    | (intro _; beta_reduce)
    | split
    | dsimp only

theorem accrue_keeps (w : ℕ) (s : Sys2Proof.Machine.State) : Keeps 0x6000000000000000000000000000000000000000000000000000000200000000 s (accrue w s) := by
  unfold accrue
  repeat' first
    | with_reducible exact Keeps.refl _ _
    | with_reducible apply forEach_keeps
    | with_reducible apply State.when_keeps
    | with_reducible apply Keeps.ite
    | (with_reducible apply Keeps.next (State.incWrap_keeps ..)); decide +kernel
    | (with_reducible apply Keeps.next (State.putMeters_keeps ..)); decide +kernel
    | with_reducible apply Keeps.foldl
    | (intro _; beta_reduce)
    | split
    | dsimp only

theorem State.wrBit_keeps (s : Sys2Proof.Machine.State) (f : Sys2Proof.Machine.Fld) (w : ℕ) (i : ℕ) (b : ℕ) (v : Bool) : Keeps (regBit f.reg) s (State.wrBit s f w i b v) := by
  unfold State.wrBit
  repeat' first
    | with_reducible exact Keeps.refl _ _
    | with_reducible apply Keeps.ite
    | (with_reducible apply Keeps.next (State.wr_keeps ..)); (first | decide +kernel | exact sub_right _ _ | exact sub_refl _ | exact sub_left (by decide +kernel) | exact regBit_sub (by decide +kernel) _ | exact sub_or (by decide +kernel) (regBit_sub (by decide +kernel) _))
    | with_reducible apply Keeps.foldl
    | (intro _; beta_reduce)
    | split
    | dsimp only

theorem evalGroup_keeps (w : ℕ) (q : ℕ) (k : ℕ) (s : Sys2Proof.Machine.State) : Keeps 0x4000000000000000000000000000000000000000000000000000020000000 s (evalGroup w q k s) := by
  unfold evalGroup
  repeat' first
    | with_reducible exact Keeps.refl _ _
    | with_reducible apply Keeps.ite
    | (with_reducible apply Keeps.next (State.wrBit_keeps ..)); decide +kernel
    | (with_reducible apply Keeps.next (State.modParks_keeps ..)); decide +kernel
    | with_reducible apply Keeps.foldl
    | (intro _; beta_reduce)
    | split
    | dsimp only

theorem evalPark_keeps (w : ℕ) (q : ℕ) (s : Sys2Proof.Machine.State) : Keeps 0x4000000000000000000000000000000000000000000000000000020000000 s (evalPark w q s) := by
  unfold evalPark
  repeat' first
    | with_reducible exact Keeps.refl _ _
    | with_reducible apply forEach_keeps
    | with_reducible apply Keeps.ite
    | (with_reducible apply Keeps.next (evalGroup_keeps ..)); decide +kernel
    | (with_reducible apply Keeps.next (State.wr_keeps ..)); decide +kernel
    | with_reducible apply Keeps.foldl
    | (intro _; beta_reduce)
    | split
    | dsimp only

theorem setParkReq_keeps (w : ℕ) (q : ℕ) (g : Sys2Proof.Machine.ParkQ → Sys2Proof.Machine.ParkQ) (s : Sys2Proof.Machine.State) : Keeps 0x6004000000000000000000000000000000000000000000000000000220000000 s (setParkReq w q g s) := by
  unfold setParkReq
  repeat' first
    | with_reducible exact Keeps.refl _ _
    | with_reducible apply Keeps.ite
    | (with_reducible apply Keeps.next (evalPark_keeps ..)); decide +kernel
    | (with_reducible apply Keeps.next (accrue_keeps ..)); decide +kernel
    | (with_reducible apply Keeps.next (State.modParks_keeps ..)); decide +kernel
    | with_reducible apply Keeps.foldl
    | (intro _; beta_reduce)
    | split
    | dsimp only

theorem setDepth_keeps (w : ℕ) (q : ℕ) (k : ℕ) (depth : ℕ) (s0 : Sys2Proof.Machine.State) : Keeps 0x6004040000000000000000000000000000000000000000000000000220000000 s0 (setDepth w q k depth s0) := by
  unfold setDepth
  repeat' first
    | with_reducible exact Keeps.refl _ _
    | with_reducible apply Keeps.ite
    | (with_reducible apply Keeps.next (State.wr_keeps ..)); decide +kernel
    | (with_reducible apply Keeps.next (accrue_keeps ..)); decide +kernel
    | (with_reducible apply Keeps.next (State.wrBit_keeps ..)); decide +kernel
    | (with_reducible apply Keeps.next (State.modParks_keeps ..)); decide +kernel
    | with_reducible apply Keeps.foldl
    | (intro _; beta_reduce)
    | split
    | dsimp only

theorem parkDone_keeps (w : ℕ) (q : ℕ) (k : ℕ) (s : Sys2Proof.Machine.State) : Keeps 0x6004040000000000000000000000000000000000400000000000000220000200 s (parkDone w q k s) := by
  unfold parkDone
  repeat' first
    | with_reducible exact Keeps.refl _ _
    | with_reducible apply forEach_keeps
    | with_reducible apply Keeps.ite
    | (with_reducible apply Keeps.next (evalPark_keeps ..)); decide +kernel
    | (with_reducible apply Keeps.next (State.setCore_keeps ..)); decide +kernel
    | (with_reducible apply Keeps.next (setDepth_keeps ..)); decide +kernel
    | with_reducible apply Keeps.foldl
    | (intro _; beta_reduce)
    | split
    | dsimp only

theorem unparkDone_keeps (w : ℕ) (q : ℕ) (k : ℕ) (s : Sys2Proof.Machine.State) : Keeps 0x6004040000000000000000000000000000000000c00000000000000220000200 s (unparkDone w q k s) := by
  unfold unparkDone
  repeat' first
    | with_reducible exact Keeps.refl _ _
    | with_reducible apply forEach_keeps
    | with_reducible apply Keeps.ite
    | (with_reducible apply Keeps.next (evalPark_keeps ..)); decide +kernel
    | (with_reducible apply Keeps.next (setDepth_keeps ..)); decide +kernel
    | (with_reducible apply Keeps.next (State.initCore_keeps ..)); decide +kernel
    | (with_reducible apply Keeps.next (State.modCore_keeps ..)); decide +kernel
    | with_reducible apply Keeps.foldl
    | (intro _; beta_reduce)
    | split
    | dsimp only

theorem leaveOn_keeps (w : ℕ) (q : ℕ) (s : Sys2Proof.Machine.State) : Keeps 0x6004040000000000000000000000000000000000000000000000000220000000 s (leaveOn w q s) := by
  unfold leaveOn
  repeat' first
    | with_reducible exact Keeps.refl _ _
    | with_reducible apply forEach_keeps
    | with_reducible apply Keeps.ite
    | (with_reducible apply Keeps.next (setDepth_keeps ..)); decide +kernel
    | (with_reducible apply Keeps.next (State.setReg_keeps ..)); decide +kernel
    | (with_reducible apply Keeps.next (State.modParks_keeps ..)); decide +kernel
    | with_reducible apply Keeps.foldl
    | (intro _; beta_reduce)
    | split
    | dsimp only

theorem ghostExit_keeps (w : ℕ) (s : Sys2Proof.Machine.State) : Keeps 0x2000000000000001000006004000000000000000000000000000000000000000000000000006220000000 s (ghostExit w s) := by
  unfold ghostExit
  repeat' first
    | with_reducible exact Keeps.refl _ _
    | with_reducible apply forEach_keeps
    | with_reducible apply Keeps.ite
    | (with_reducible apply Keeps.next (setParkReq_keeps ..)); decide +kernel
    | (with_reducible apply Keeps.next (State.putWarming_keeps ..)); decide +kernel
    | (with_reducible apply Keeps.next (State.wr_keeps ..)); decide +kernel
    | (with_reducible apply Keeps.next (State.modWafers_keeps ..)); decide +kernel
    | with_reducible apply Keeps.foldl
    | (intro _; beta_reduce)
    | split
    | dsimp only

end Sys2Proof.Machine
end

