-- ==== Sys2Proof/Laws/KeepsLedger.lean ====
section
/-!
SUPPORT. What each operation of Machine/Ledger.lean may change.
-/
namespace Sys2Proof.Machine
set_option linter.unusedTactic false
set_option linter.unreachableTactic false
set_option Elab.async false

theorem State.modLedgers_keeps (s : Sys2Proof.Machine.State) (k : ℕ) (g : Sys2Proof.Machine.Ledger → Sys2Proof.Machine.Ledger) : Keeps 0x80000000 s (State.modLedgers s k g) := by
  unfold State.modLedgers
  repeat' first
    | with_reducible exact Keeps.refl _ _
    | with_reducible apply Keeps.ite
    | (with_reducible apply Keeps.next (State.putLedgers_keeps ..)); decide +kernel
    | with_reducible apply Keeps.foldl
    | (intro _; beta_reduce)
    | split
    | dsimp only

theorem State.modBups_keeps (s : Sys2Proof.Machine.State) (k : ℕ) (g : Sys2Proof.Machine.Bup → Sys2Proof.Machine.Bup) : Keeps 0x100000000 s (State.modBups s k g) := by
  unfold State.modBups
  repeat' first
    | with_reducible exact Keeps.refl _ _
    | with_reducible apply Keeps.ite
    | (with_reducible apply Keeps.next (State.putBups_keeps ..)); decide +kernel
    | with_reducible apply Keeps.foldl
    | (intro _; beta_reduce)
    | split
    | dsimp only

theorem setSkips_keeps (w : ℕ) (f : ℕ) (s : Sys2Proof.Machine.State) : Keeps 0x20000000000000000000000000000000000000000000 s (setSkips w f s) := by
  unfold setSkips
  repeat' first
    | with_reducible exact Keeps.refl _ _
    | with_reducible apply forEach_keeps
    | with_reducible apply Keeps.ite
    | (with_reducible apply Keeps.next (State.setReg_keeps ..)); decide +kernel
    | with_reducible apply Keeps.foldl
    | (intro _; beta_reduce)
    | split
    | dsimp only

theorem setHoles_keeps (w : ℕ) (f : ℕ) (s : Sys2Proof.Machine.State) : Keeps 0x40000000000000000000000000000000000000000000 s (setHoles w f s) := by
  unfold setHoles
  repeat' first
    | with_reducible exact Keeps.refl _ _
    | with_reducible apply forEach_keeps
    | with_reducible apply Keeps.ite
    | (with_reducible apply Keeps.next (State.setReg_keeps ..)); decide +kernel
    | with_reducible apply Keeps.foldl
    | (intro _; beta_reduce)
    | split
    | dsimp only

theorem blockDomain_keeps (w : ℕ) (d : ℕ) (s : Sys2Proof.Machine.State) : Keeps 0x1020000000000000000000000000000000000000000000000000040000000 s (blockDomain w d s) := by
  unfold blockDomain
  repeat' first
    | with_reducible exact Keeps.refl _ _
    | with_reducible apply Keeps.ite
    | (with_reducible apply Keeps.next (State.modDoms_keeps ..)); decide +kernel
    | (with_reducible apply Keeps.next (State.wr_keeps ..)); decide +kernel
    | (with_reducible apply Keeps.next (State.setDom_keeps ..)); decide +kernel
    | with_reducible apply Keeps.foldl
    | (intro _; beta_reduce)
    | split
    | dsimp only

theorem deriveLists_keeps (w : ℕ) (s : Sys2Proof.Machine.State) : Keeps 0x14c0046000000000000010200000000000000c00fc800000000000000000000000000000040000010 s (deriveLists w s) := by
  unfold deriveLists
  repeat' first
    | with_reducible exact Keeps.refl _ _
    | with_reducible apply forEach_keeps
    | with_reducible apply State.when_keeps
    | with_reducible apply Keeps.ite
    | (with_reducible apply Keeps.next (State.raise_keeps ..)); decide +kernel
    | (with_reducible apply Keeps.next (State.setReg_keeps ..)); decide +kernel
    | (with_reducible apply Keeps.next (setHoles_keeps ..)); decide +kernel
    | (with_reducible apply Keeps.next (State.wr_keeps ..)); decide +kernel
    | (with_reducible apply Keeps.next (blockDomain_keeps ..)); decide +kernel
    | (with_reducible apply Keeps.next (State.modDoms_keeps ..)); decide +kernel
    | with_reducible apply Keeps.foldl
    | (intro _; beta_reduce)
    | split
    | dsimp only

theorem ledgerSync_keeps (w : ℕ) (s : Sys2Proof.Machine.State) : Keeps 0x300800000000000000000000000000000000000000 s (ledgerSync w s) := by
  unfold ledgerSync
  repeat' first
    | with_reducible exact Keeps.refl _ _
    | with_reducible apply Keeps.ite
    | (with_reducible apply Keeps.next (State.wr_keeps ..)); decide +kernel
    | (with_reducible apply Keeps.next (State.wrSat_keeps ..)); decide +kernel
    | with_reducible apply Keeps.foldl
    | (intro _; beta_reduce)
    | split
    | dsimp only

theorem appendFinding_keeps (w : ℕ) (x : Sys2Proof.Machine.Finding) (s : Sys2Proof.Machine.State) : Keeps 0x14c004600000000000000000000000000000000302800000000000000000000000000000080000010 s (appendFinding w x s) := by
  unfold appendFinding
  repeat' first
    | with_reducible exact Keeps.refl _ _
    | with_reducible apply Keeps.ite
    | (with_reducible apply Keeps.next (ledgerSync_keeps ..)); decide +kernel
    | (with_reducible apply Keeps.next (State.raise_keeps ..)); decide +kernel
    | (with_reducible apply Keeps.next (State.putLedgers_keeps ..)); decide +kernel
    | (with_reducible apply Keeps.next (State.bump_keeps ..)); decide +kernel
    | with_reducible apply Keeps.foldl
    | (intro _; beta_reduce)
    | split
    | dsimp only

theorem closeEdit_keeps (w : ℕ) (phase : ℕ) (s : Sys2Proof.Machine.State) : Keeps 0x14c004600000000000000000000000000000000000000000000000000000070000000000080000018 s (closeEdit w phase s) := by
  unfold closeEdit
  repeat' first
    | with_reducible exact Keeps.refl _ _
    | with_reducible apply Keeps.ite
    | (with_reducible apply Keeps.next (State.journal_keeps ..)); decide +kernel
    | (with_reducible apply Keeps.next (State.modLedgers_keeps ..)); decide +kernel
    | with_reducible apply Keeps.foldl
    | (intro _; beta_reduce)
    | split
    | dsimp only

theorem runtimeFinding_keeps (w : ℕ) (ty : ℕ) (kind : ℕ) (ob : ℕ) (sig : ℕ) (s : Sys2Proof.Machine.State) : Keeps 0x14c0046000000000000010200000000000000c03fe8000000000000000000700000000000c0000018 s (runtimeFinding w ty kind ob sig s) := by
  unfold runtimeFinding
  repeat' first
    | with_reducible exact Keeps.refl _ _
    | with_reducible apply Keeps.ite
    | (with_reducible apply Keeps.next (State.raise_keeps ..)); decide +kernel
    | (with_reducible apply Keeps.next (closeEdit_keeps ..)); decide +kernel
    | (with_reducible apply Keeps.next (deriveLists_keeps ..)); decide +kernel
    | (with_reducible apply Keeps.next (appendFinding_keeps ..)); decide +kernel
    | with_reducible apply Keeps.foldl
    | (intro _; beta_reduce)
    | split
    | dsimp only

theorem spadUncorrectable_keeps (w : ℕ) (f : ℕ) (u : ℕ) (mem : ℕ) (foundBy : ℕ) (line : ℕ) (s : Sys2Proof.Machine.State) : Keeps 0x54c0046000000000000010200000000000c00c03fe8000000000000000000700000000001c0000018 s (spadUncorrectable w f u mem foundBy line s) := by
  unfold spadUncorrectable
  repeat' first
    | with_reducible exact Keeps.refl _ _
    | with_reducible apply Keeps.ite
    | (with_reducible apply Keeps.next (State.withFreeCtr_keeps _ _ (Nat.le_add_right _ _)) (sub_zero _))
    | (with_reducible apply Keeps.next (State.putBups_keeps ..)); decide +kernel
    | (with_reducible apply Keeps.next (State.wr_keeps ..)); decide +kernel
    | (with_reducible apply Keeps.next (State.raiseF_keeps ..)); decide +kernel
    | (with_reducible apply Keeps.next (State.bump_keeps ..)); decide +kernel
    | (with_reducible apply Keeps.next (runtimeFinding_keeps ..)); decide +kernel
    | with_reducible apply Keeps.foldl
    | (intro _; beta_reduce)
    | split
    | dsimp only

theorem loftRetire_keeps (w : ℕ) (f : ℕ) (s : Sys2Proof.Machine.State) : Keeps 0x14c0046000000000000010200000000000000c03fe8000000000000000000700000000000c0000018 s (loftRetire w f s) := by
  unfold loftRetire
  repeat' first
    | with_reducible exact Keeps.refl _ _
    | with_reducible apply Keeps.ite
    | (with_reducible apply Keeps.next (State.fresh_keeps ..)); decide +kernel
    | (with_reducible apply Keeps.next (runtimeFinding_keeps ..)); decide +kernel
    | with_reducible apply Keeps.foldl
    | (intro _; beta_reduce)
    | split
    | dsimp only

theorem spareTrigger_keeps (w : ℕ) (f : ℕ) (row : ℕ) (s : Sys2Proof.Machine.State) : Keeps 0x14c0046000000000000010200000000000000c03fe8000000000000000000700000000000c0400018 s (spareTrigger w f row s) := by
  unfold spareTrigger
  repeat' first
    | with_reducible exact Keeps.refl _ _
    | with_reducible apply Keeps.ite
    | (with_reducible apply Keeps.next (State.putLofts_keeps ..)); decide +kernel
    | (with_reducible apply Keeps.next (loftRetire_keeps ..)); decide +kernel
    | with_reducible apply Keeps.foldl
    | (intro _; beta_reduce)
    | split
    | dsimp only

theorem loftCorrected_keeps (w : ℕ) (f : ℕ) (off : ℕ) (s : Sys2Proof.Machine.State) : Keeps 0x14c0046000000000000010200000000000001c03fe8000000000000000000700000000000c0400018 s (loftCorrected w f off s) := by
  unfold loftCorrected
  repeat' first
    | with_reducible exact Keeps.refl _ _
    | with_reducible apply Keeps.ite
    | (with_reducible apply Keeps.next (State.putLofts_keeps ..)); decide +kernel
    | (with_reducible apply Keeps.next (State.bump_keeps ..)); decide +kernel
    | (with_reducible apply Keeps.next (spareTrigger_keeps ..)); decide +kernel
    | with_reducible apply Keeps.foldl
    | (intro _; beta_reduce)
    | split
    | dsimp only

theorem loftUncorrectable_keeps (w : ℕ) (f : ℕ) (off : ℕ) (source : ℕ) (part : ℕ) (s : Sys2Proof.Machine.State) : Keeps 0x54c004600000000000001020000000000000ac03fe8000000000000000000700000000000c0400019 s (loftUncorrectable w f off source part s) := by
  unfold loftUncorrectable
  repeat' first
    | with_reducible exact Keeps.refl _ _
    | with_reducible apply Keeps.ite
    | (with_reducible apply Keeps.next (State.poisonLine_keeps ..)); decide +kernel
    | (with_reducible apply Keeps.next (State.bump_keeps ..)); decide +kernel
    | (with_reducible apply Keeps.next (spareTrigger_keeps ..)); decide +kernel
    | (with_reducible apply Keeps.next (State.raiseF_keeps ..)); decide +kernel
    | (with_reducible apply Keeps.next (State.wr_keeps ..)); decide +kernel
    | (with_reducible apply Keeps.next (State.modLofts_keeps ..)); decide +kernel
    | with_reducible apply Keeps.foldl
    | (intro _; beta_reduce)
    | split
    | dsimp only

end Sys2Proof.Machine
end

