-- ==== Sys2Proof/Laws/KeepsJobs.lean ====
section
/-!
SUPPORT. What each operation of Machine/Jobs.lean may change.
-/
namespace Sys2Proof.Machine
set_option linter.unusedTactic false
set_option linter.unreachableTactic false
set_option Elab.async false

theorem State.modPart_keeps (s : Sys2Proof.Machine.State) (w : ℕ) (p : ℕ) (g : Sys2Proof.Machine.Part → Sys2Proof.Machine.Part) : Keeps 0x400 s (State.modPart s w p g) := by
  unfold State.modPart
  repeat' first
    | with_reducible exact Keeps.refl _ _
    | with_reducible apply Keeps.ite
    | (with_reducible apply Keeps.next (State.putParts_keeps ..)); decide +kernel
    | with_reducible apply Keeps.foldl
    | (intro _; beta_reduce)
    | split
    | dsimp only

theorem State.setPartState_keeps (s : Sys2Proof.Machine.State) (w : ℕ) (p : ℕ) (st : ℕ) : Keeps 0x20000000000000000000000000000000000000000000000000 s (State.setPartState s w p st) := by
  unfold State.setPartState
  repeat' first
    | with_reducible exact Keeps.refl _ _
    | with_reducible apply Keeps.ite
    | (with_reducible apply Keeps.next (State.wr_keeps ..)); decide +kernel
    | with_reducible apply Keeps.foldl
    | (intro _; beta_reduce)
    | split
    | dsimp only

theorem sendMgmt_keeps (w : ℕ) (f : ℕ) (src : ℕ) (dest : ℕ) (spart : ℕ) (kind : ℕ) (val : ℕ) (addr : ℕ) (bs : List ℕ) (s : Sys2Proof.Machine.State) : Keeps 0x80000 s (sendMgmt w f src dest spart kind val addr bs s) := by
  unfold sendMgmt
  repeat' first
    | with_reducible exact Keeps.refl _ _
    | with_reducible apply forEach_keeps
    | with_reducible apply Keeps.ite
    | (with_reducible apply Keeps.next (enqueue_keeps ..)); decide +kernel
    | with_reducible apply Keeps.foldl
    | (intro _; beta_reduce)
    | split
    | dsimp only

theorem sendPeer_keeps (w : ℕ) (p : ℕ) (peer : ℕ × ℕ) (kind : ℕ) (val : ℕ) (addr : ℕ) (bs : List ℕ) (s : Sys2Proof.Machine.State) : Keeps 0x80000 s (sendPeer w p peer kind val addr bs s) := by
  unfold sendPeer
  repeat' first
    | with_reducible exact Keeps.refl _ _
    | with_reducible apply Keeps.ite
    | (with_reducible apply Keeps.next (sendMgmt_keeps ..)); decide +kernel
    | with_reducible apply Keeps.foldl
    | (intro _; beta_reduce)
    | split
    | dsimp only

theorem returnLeases_keeps (w : ℕ) (p : ℕ) (s : Sys2Proof.Machine.State) : Keeps 0x80400 s (returnLeases w p s) := by
  unfold returnLeases
  repeat' first
    | with_reducible exact Keeps.refl _ _
    | with_reducible apply forEach_keeps
    | with_reducible apply Keeps.ite
    | (with_reducible apply Keeps.next (sendMgmt_keeps ..)); decide +kernel
    | (with_reducible apply Keeps.next (State.modPart_keeps ..)); decide +kernel
    | with_reducible apply Keeps.foldl
    | (intro _; beta_reduce)
    | split
    | dsimp only

theorem consumeLeases_keeps (w : ℕ) (p : ℕ) (s : Sys2Proof.Machine.State) : Keeps 0x80400 s (consumeLeases w p s) := by
  unfold consumeLeases
  repeat' first
    | with_reducible exact Keeps.refl _ _
    | with_reducible apply forEach_keeps
    | with_reducible apply Keeps.ite
    | (with_reducible apply Keeps.next (sendMgmt_keeps ..)); decide +kernel
    | (with_reducible apply Keeps.next (State.modPart_keeps ..)); decide +kernel
    | with_reducible apply Keeps.foldl
    | (intro _; beta_reduce)
    | split
    | dsimp only

theorem leaveCmd_keeps (w : ℕ) (f : ℕ) (u : ℕ) (s : Sys2Proof.Machine.State) : Keeps 0x500900000000000000000000000100000000000000800000000000000000000000000400000000000000000002200 s (leaveCmd w f u s) := by
  unfold leaveCmd
  repeat' first
    | with_reducible exact Keeps.refl _ _
    | with_reducible apply Keeps.ite
    | (with_reducible apply Keeps.next (endHalt_keeps ..)); decide +kernel
    | (with_reducible apply Keeps.next (State.setCore_keeps ..)); decide +kernel
    | (with_reducible apply Keeps.next (endWait_keeps ..)); decide +kernel
    | (with_reducible apply Keeps.next (withdrawTake_keeps ..)); decide +kernel
    | with_reducible apply Keeps.foldl
    | (intro _; beta_reduce)
    | split
    | dsimp only

theorem quadIdle_keeps (w : ℕ) (q : ℕ) (s : Sys2Proof.Machine.State) : Keeps 0x6005060000000000000000000000000000000000000000000000000260000000 s (quadIdle w q s) := by
  unfold quadIdle
  repeat' first
    | with_reducible exact Keeps.refl _ _
    | with_reducible apply Keeps.ite
    | (with_reducible apply Keeps.next (evalPark_keeps ..)); decide +kernel
    | (with_reducible apply Keeps.next (leaveOn_keeps ..)); decide +kernel
    | (with_reducible apply Keeps.next (State.modDoms_keeps ..)); decide +kernel
    | (with_reducible apply Keeps.next (State.setDom_keeps ..)); decide +kernel
    | with_reducible apply Keeps.foldl
    | (intro _; beta_reduce)
    | split
    | dsimp only

theorem endCores_keeps (w : ℕ) (p : ℕ) (s : Sys2Proof.Machine.State) : Keeps 0x500900000000000000000000000106005060000000800000000000000000000000000400000000000000260002200 s (endCores w p s) := by
  unfold endCores
  repeat' first
    | with_reducible exact Keeps.refl _ _
    | with_reducible apply forEach_keeps
    | with_reducible apply Keeps.ite
    | (with_reducible apply Keeps.next (quadIdle_keeps ..)); decide +kernel
    | (with_reducible apply Keeps.next (leaveCmd_keeps ..)); decide +kernel
    | with_reducible apply Keeps.foldl
    | (intro _; beta_reduce)
    | split
    | dsimp only

theorem withdrawQueued_keeps (w : ℕ) (p : ℕ) (s : Sys2Proof.Machine.State) : Keeps 0x84000 s (withdrawQueued w p s) := by
  unfold withdrawQueued
  repeat' first
    | with_reducible exact Keeps.refl _ _
    | with_reducible apply forEach_keeps
    | with_reducible apply Keeps.ite
    | (with_reducible apply Keeps.next (State.withSends_keeps _ _ (fun h => mwf_filter _ _ _ h))); decide +kernel
    | (with_reducible apply Keeps.next (State.withSends_keeps _ _ (fun h => mwf_mmap _ _ _ h))); decide +kernel
    | (with_reducible apply Keeps.next (State.putInjects_keeps ..)); decide +kernel
    | with_reducible apply Keeps.foldl
    | (intro _; beta_reduce)
    | split
    | dsimp only

theorem discardCmd_keeps (w : ℕ) (p : ℕ) (s : Sys2Proof.Machine.State) : Keeps 0x500900000000000000000000000106005060000000800000000000000000000000000400000000000000260086600 s (discardCmd w p s) := by
  unfold discardCmd
  repeat' first
    | with_reducible exact Keeps.refl _ _
    | with_reducible apply Keeps.ite
    | (with_reducible apply Keeps.next (returnLeases_keeps ..)); decide +kernel
    | (with_reducible apply Keeps.next (withdrawQueued_keeps ..)); decide +kernel
    | (with_reducible apply Keeps.next (State.modPart_keeps ..)); decide +kernel
    | (with_reducible apply Keeps.next (endCores_keeps ..)); decide +kernel
    | with_reducible apply Keeps.foldl
    | (intro _; beta_reduce)
    | split
    | dsimp only

theorem ringWrite_keeps (w : ℕ) (p : ℕ) (off : ℕ) (bs : List ℕ) (s : Sys2Proof.Machine.State) : Keeps 0x14c004600000000000000000000000000010400000020009000800000000000000000000018000013 s (ringWrite w p off bs s) := by
  unfold ringWrite
  repeat' first
    | with_reducible exact Keeps.refl _ _
    | with_reducible apply Keeps.ite
    | (with_reducible apply Keeps.next (writePieces_keeps ..)); decide +kernel
    | with_reducible apply Keeps.foldl
    | (intro _; beta_reduce)
    | split
    | dsimp only

theorem writeRecord_keeps (w : ℕ) (p : ℕ) (q : ℕ) (seq : ℕ) (status : ℕ) (flags : ℕ) (time : ℕ) (s : Sys2Proof.Machine.State) : Keeps 0x34c004600000000000000000000010100010400000020009000800000000000000000000018000013 s (writeRecord w p q seq status flags time s) := by
  unfold writeRecord
  repeat' first
    | with_reducible exact Keeps.refl _ _
    | with_reducible apply Keeps.ite
    | (with_reducible apply Keeps.next (State.raiseP_keeps ..)); decide +kernel
    | (with_reducible apply Keeps.next (State.bump_keeps ..)); decide +kernel
    | (with_reducible apply Keeps.next (State.incWrap_keeps ..)); decide +kernel
    | (with_reducible apply Keeps.next (ringWrite_keeps ..)); decide +kernel
    | with_reducible apply Keeps.foldl
    | (intro _; beta_reduce)
    | split
    | dsimp only

theorem recordResult_keeps (w : ℕ) (p : ℕ) (q : ℕ) (seq : ℕ) (code : ℕ) (s : Sys2Proof.Machine.State) : Keeps 0x20000000000000000000000000000000000000000000000000800 s (recordResult w p q seq code s) := by
  unfold recordResult
  repeat' first
    | with_reducible exact Keeps.refl _ _
    | with_reducible apply Keeps.ite
    | (with_reducible apply Keeps.next (State.setReg_keeps ..)); decide +kernel
    | (with_reducible apply Keeps.next (State.putResults_keeps ..)); decide +kernel
    | with_reducible apply Keeps.foldl
    | (intro _; beta_reduce)
    | split
    | dsimp only

theorem finishCmd_keeps (w : ℕ) (p : ℕ) (c : Sys2Proof.Machine.Cmd) (time : ℕ) (s : Sys2Proof.Machine.State) : Keeps 0x34c004600000000000000000000030120010400000020009000800000000000000000000018000c13 s (finishCmd w p c time s) := by
  unfold finishCmd
  repeat' first
    | with_reducible exact Keeps.refl _ _
    | with_reducible apply Keeps.ite
    | (with_reducible apply Keeps.next (writeRecord_keeps ..)); decide +kernel
    | (with_reducible apply Keeps.next (State.modPart_keeps ..)); decide +kernel
    | (with_reducible apply Keeps.next (State.setPartState_keeps ..)); decide +kernel
    | (with_reducible apply Keeps.next (recordResult_keeps ..)); decide +kernel
    | with_reducible apply Keeps.foldl
    | (intro _; beta_reduce)
    | split
    | dsimp only

theorem requeue_keeps (w : ℕ) (p : ℕ) (c : Sys2Proof.Machine.Cmd) (s : Sys2Proof.Machine.State) : Keeps 0x4020000000000000000000000000000000000000000000000400 s (requeue w p c s) := by
  unfold requeue
  repeat' first
    | with_reducible exact Keeps.refl _ _
    | with_reducible apply Keeps.ite
    | (with_reducible apply Keeps.next (State.incWrap_keeps ..)); decide +kernel
    | (with_reducible apply Keeps.next (State.modPart_keeps ..)); decide +kernel
    | (with_reducible apply Keeps.next (State.setPartState_keeps ..)); decide +kernel
    | with_reducible apply Keeps.foldl
    | (intro _; beta_reduce)
    | split
    | dsimp only

theorem cutRunning_keeps (w : ℕ) (p : ℕ) (s : Sys2Proof.Machine.State) : Keeps 0x500900000000000000000000000106005060000004820000000000000000000000000400000000000000260086600 s (cutRunning w p s) := by
  unfold cutRunning
  repeat' first
    | with_reducible exact Keeps.refl _ _
    | with_reducible apply Keeps.ite
    | (with_reducible apply Keeps.next (requeue_keeps ..)); decide +kernel
    | (with_reducible apply Keeps.next (discardCmd_keeps ..)); decide +kernel
    | with_reducible apply Keeps.foldl
    | (intro _; beta_reduce)
    | split
    | dsimp only

theorem failLocal_keeps (w : ℕ) (p : ℕ) (status : ℕ) (s : Sys2Proof.Machine.State) : Keeps 0x50090000000034c004600000000106005060000030920010400000020009000800000400000000000000278086e13 s (failLocal w p status s) := by
  unfold failLocal
  repeat' first
    | with_reducible exact Keeps.refl _ _
    | with_reducible apply Keeps.ite
    | (with_reducible apply Keeps.next (discardCmd_keeps ..)); decide +kernel
    | (with_reducible apply Keeps.next (finishCmd_keeps ..)); decide +kernel
    | with_reducible apply Keeps.foldl
    | (intro _; beta_reduce)
    | split
    | dsimp only

theorem failCmd_keeps (w : ℕ) (p : ℕ) (status : ℕ) (s : Sys2Proof.Machine.State) : Keeps 0x50090000000034c004600000000106005060000030920010400000020009000800000400000000000000278086e13 s (failCmd w p status s) := by
  unfold failCmd
  repeat' first
    | with_reducible exact Keeps.refl _ _
    | with_reducible apply forEach_keeps
    | with_reducible apply Keeps.ite
    | (with_reducible apply Keeps.next (failLocal_keeps ..)); decide +kernel
    | (with_reducible apply Keeps.next (sendPeer_keeps ..)); decide +kernel
    | with_reducible apply Keeps.foldl
    | (intro _; beta_reduce)
    | split
    | dsimp only

theorem captureFault_keeps (w : ℕ) (f : ℕ) (u : ℕ) (cause : ℕ) (s : Sys2Proof.Machine.State) : Keeps 0x10000000000000000000000 s (captureFault w f u cause s) := by
  unfold captureFault
  repeat' first
    | with_reducible exact Keeps.refl _ _
    | with_reducible apply Keeps.ite
    | (with_reducible apply Keeps.next (State.wr_keeps ..)); decide +kernel
    | (with_reducible apply Keeps.next (State.bump_keeps ..)); decide +kernel
    | with_reducible apply Keeps.foldl
    | (intro _; beta_reduce)
    | split
    | dsimp only

theorem coreFault_keeps (w : ℕ) (f : ℕ) (u : ℕ) (cause : ℕ) (s : Sys2Proof.Machine.State) : Keeps 0x58090000000034c004600000000106005060000030920010400000020009000800000410000000000000278086e13 s (coreFault w f u cause s) := by
  unfold coreFault
  repeat' first
    | with_reducible exact Keeps.refl _ _
    | with_reducible apply Keeps.ite
    | (with_reducible apply Keeps.next (haltCore_keeps ..)); decide +kernel
    | (with_reducible apply Keeps.next (failCmd_keeps ..)); decide +kernel
    | (with_reducible apply Keeps.next (State.modCore_keeps ..)); decide +kernel
    | (with_reducible apply Keeps.next (captureFault_keeps ..)); decide +kernel
    | with_reducible apply Keeps.foldl
    | (intro _; beta_reduce)
    | split
    | dsimp only

theorem spadFault_keeps (w : ℕ) (f : ℕ) (u : ℕ) (foundBy : ℕ) (word : ℕ) (s : Sys2Proof.Machine.State) : Keeps 0x58090000000074c0046000000001060050600000309200d04c03fe8200090008000004100700000000003f8086e1b s (spadFault w f u foundBy word s) := by
  unfold spadFault
  repeat' first
    | with_reducible exact Keeps.refl _ _
    | with_reducible apply Keeps.ite
    | (with_reducible apply Keeps.next (coreFault_keeps ..)); decide +kernel
    | (with_reducible apply Keeps.next (spadUncorrectable_keeps ..)); decide +kernel
    | with_reducible apply Keeps.foldl
    | (intro _; beta_reduce)
    | split
    | dsimp only

theorem enterFaulted_keeps (w : ℕ) (p : ℕ) (cause : ℕ) (s : Sys2Proof.Machine.State) : Keeps 0x50090000000034c0046000000001060050600800309a0010400000020009000800000400000000000000278086e13 s (enterFaulted w p cause s) := by
  unfold enterFaulted
  repeat' first
    | with_reducible exact Keeps.refl _ _
    | with_reducible apply Keeps.ite
    | (with_reducible apply Keeps.next (State.raiseP_keeps ..)); decide +kernel
    | (with_reducible apply Keeps.next (State.wr_keeps ..)); decide +kernel
    | (with_reducible apply Keeps.next (State.modPart_keeps ..)); decide +kernel
    | (with_reducible apply Keeps.next (failLocal_keeps ..)); decide +kernel
    | (with_reducible apply Keeps.next (State.setPartState_keeps ..)); decide +kernel
    | with_reducible apply Keeps.foldl
    | (intro _; beta_reduce)
    | split
    | dsimp only

theorem faultOne_keeps (w : ℕ) (p : ℕ) (cause : ℕ) (s : Sys2Proof.Machine.State) : Keeps 0x50090000000034c0046000000001060050600800309a0010400000020009000800000400000000000000278086e13 s (faultOne w p cause s) := by
  unfold faultOne
  repeat' first
    | with_reducible exact Keeps.refl _ _
    | with_reducible apply Keeps.ite
    | (with_reducible apply Keeps.next (enterFaulted_keeps ..)); decide +kernel
    | (with_reducible apply Keeps.next (State.wr_keeps ..)); decide +kernel
    | with_reducible apply Keeps.foldl
    | (intro _; beta_reduce)
    | split
    | dsimp only

theorem partFault_keeps (w : ℕ) (p : ℕ) (cause : ℕ) (s : Sys2Proof.Machine.State) : Keeps 0x50090000000034c0046000000001060050600800309a0010400000020009000800000400000000000000278086e13 s (partFault w p cause s) := by
  unfold partFault
  repeat' first
    | with_reducible exact Keeps.refl _ _
    | with_reducible apply forEach_keeps
    | with_reducible apply Keeps.ite
    | (with_reducible apply Keeps.next (faultOne_keeps ..)); decide +kernel
    | (with_reducible apply Keeps.next (sendPeer_keeps ..)); decide +kernel
    | with_reducible apply Keeps.foldl
    | (intro _; beta_reduce)
    | split
    | dsimp only

end Sys2Proof.Machine
end

