-- ==== Sys2Proof/Laws/KeepsNetwork.lean ====
section
/-!
SUPPORT. What each operation of Machine/Network.lean may change.
-/
namespace Sys2Proof.Machine
set_option linter.unusedTactic false
set_option linter.unreachableTactic false
set_option Elab.async false

theorem State.setActState_keeps (s : Sys2Proof.Machine.State) (w : ℕ) (act : ℕ) (v : ℕ) : Keeps 0x800000000000000000000000000000 s (State.setActState s w act v) := by
  unfold State.setActState
  repeat' first
    | with_reducible exact Keeps.refl _ _
    | with_reducible apply Keeps.ite
    | (with_reducible apply Keeps.next (State.wr_keeps ..)); decide +kernel
    | with_reducible apply Keeps.foldl
    | (intro _; beta_reduce)
    | split
    | dsimp only

theorem oweCredit_keeps (key : ℕ) (vc : ℕ) (n : ℕ) (s : Sys2Proof.Machine.State) : Keeps 0x20000 s (oweCredit key vc n s) := by
  unfold oweCredit
  repeat' first
    | with_reducible exact Keeps.refl _ _
    | with_reducible apply Keeps.ite
    | (with_reducible apply Keeps.next (State.modLinks_keeps ..)); decide +kernel
    | with_reducible apply Keeps.foldl
    | (intro _; beta_reduce)
    | split
    | dsimp only

theorem routerForward_keeps (w : ℕ) (f : ℕ) (e : Sys2Proof.NetElem) (input : ℕ) (p : Sys2Proof.Packet) (ecc : Sys2Proof.Ecc) (s : Sys2Proof.Machine.State) : Keeps 0x14c004600000000000000000000000000000000000000000000000074000000000000000000060010 s (routerForward w f e input p ecc s) := by
  unfold routerForward
  repeat' first
    | with_reducible exact Keeps.refl _ _
    | with_reducible apply Keeps.ite
    | (with_reducible apply Keeps.next (dropPacket_keeps ..)); decide +kernel
    | (with_reducible apply Keeps.next (oweCredit_keeps ..)); decide +kernel
    | (with_reducible apply Keeps.next (State.bump_keeps ..)); decide +kernel
    | (with_reducible apply Keeps.next (State.putArbs_keeps ..)); decide +kernel
    | with_reducible apply Keeps.foldl
    | (intro _; beta_reduce)
    | split
    | dsimp only

theorem outputArbitration_keeps (w : ℕ) (f : ℕ) (e : Sys2Proof.NetElem) (out : ℕ) (s : Sys2Proof.Machine.State) : Keeps 0x180000000000000000000160000 s (outputArbitration w f e out s) := by
  unfold outputArbitration
  repeat' first
    | with_reducible exact Keeps.refl _ _
    | with_reducible apply Keeps.ite
    | (with_reducible apply Keeps.next (State.bump_keeps ..)); decide +kernel
    | (with_reducible apply Keeps.next (State.useCredits_keeps ..)); decide +kernel
    | (with_reducible apply Keeps.next (oweCredit_keeps ..)); decide +kernel
    | (with_reducible apply Keeps.next (State.incWrap_keeps ..)); decide +kernel
    | (with_reducible apply Keeps.next (State.emit_keeps ..)); decide +kernel
    | (with_reducible apply Keeps.next (State.putArbs_keeps ..)); decide +kernel
    | with_reducible apply Keeps.foldl
    | (intro _; beta_reduce)
    | split
    | dsimp only

theorem creditReturn_keeps (w : ℕ) (f : ℕ) (e : Sys2Proof.NetElem) (out : ℕ) (vc : ℕ) (s : Sys2Proof.Machine.State) : Keeps 0x100000 s (creditReturn w f e out vc s) := by
  unfold creditReturn
  repeat' first
    | with_reducible exact Keeps.refl _ _
    | with_reducible apply Keeps.ite
    | (with_reducible apply Keeps.next (State.putFabricCredits_keeps ..)); decide +kernel
    | with_reducible apply Keeps.foldl
    | (intro _; beta_reduce)
    | split
    | dsimp only

theorem injectionArbitration_keeps (w : ℕ) (f : ℕ) (s : Sys2Proof.Machine.State) : Keeps 0x14c004600000000000000000000000000000000000000000000000134000000000000000000184010 s (injectionArbitration w f s) := by
  unfold injectionArbitration
  repeat' first
    | with_reducible exact Keeps.refl _ _
    | with_reducible apply Keeps.ite
    | (with_reducible apply Keeps.next (State.bump_keeps ..)); decide +kernel
    | (with_reducible apply Keeps.next (State.putInjects_keeps ..)); decide +kernel
    | (with_reducible apply Keeps.next (streamSend_keeps ..)); decide +kernel
    | with_reducible apply Keeps.foldl
    | (intro _; beta_reduce)
    | split
    | dsimp only

end Sys2Proof.Machine
end

