-- ==== Sys2Proof/Laws/KeepsLinks.lean ====
section
/-!
SUPPORT. What each operation of Machine/Links.lean may change.
-/
namespace Sys2Proof.Machine
set_option linter.unusedTactic false
set_option linter.unreachableTactic false
set_option Elab.async false

theorem setLinkState_keeps (l : Sys2Proof.LinkRef) (v : ℕ) (s : Sys2Proof.Machine.State) : Keeps 0x80000014c004600000000000000000000000000000000000000000000000200000000000000000000000010 s (setLinkState l v s) := by
  unfold setLinkState
  repeat' first
    | with_reducible exact Keeps.refl _ _
    | with_reducible apply Keeps.ite
    | (with_reducible apply Keeps.next (State.raise_keeps ..)); decide +kernel
    | (with_reducible apply Keeps.next (State.wr_keeps ..)); decide +kernel
    | with_reducible apply Keeps.foldl
    | (intro _; beta_reduce)
    | split
    | dsimp only

theorem setMiscabled_keeps (l : Sys2Proof.LinkRef) (v : Bool) (s : Sys2Proof.Machine.State) : Keeps 0x80000014c004600000000000000000000000000000000000000000000000200000000000000000000000010 s (setMiscabled l v s) := by
  unfold setMiscabled
  repeat' first
    | with_reducible exact Keeps.refl _ _
    | with_reducible apply Keeps.ite
    | (with_reducible apply Keeps.next (State.raise_keeps ..)); decide +kernel
    | (with_reducible apply Keeps.next (State.wr_keeps ..)); decide +kernel
    | with_reducible apply Keeps.foldl
    | (intro _; beta_reduce)
    | split
    | dsimp only

theorem bumpPort_keeps (l : Sys2Proof.LinkRef) (f : Sys2Proof.Machine.Fld) (n : ℕ) (s : Sys2Proof.Machine.State) : Keeps (regBit f.reg) s (bumpPort l f n s) := by
  unfold bumpPort
  repeat' first
    | with_reducible exact Keeps.refl _ _
    | with_reducible apply Keeps.ite
    | (with_reducible apply Keeps.next (State.bump_keeps ..)); (first | decide +kernel | exact sub_right _ _ | exact sub_refl _ | exact sub_left (by decide +kernel) | exact regBit_sub (by decide +kernel) _ | exact sub_or (by decide +kernel) (regBit_sub (by decide +kernel) _))
    | with_reducible apply Keeps.foldl
    | (intro _; beta_reduce)
    | split
    | dsimp only

theorem startTraining_keeps (l : Sys2Proof.LinkRef) (s : Sys2Proof.Machine.State) : Keeps 0x80000014c004600000000000000000000000000000000000000000000000200000000000000000000020010 s (startTraining l s) := by
  unfold startTraining
  repeat' first
    | with_reducible exact Keeps.refl _ _
    | with_reducible apply Keeps.ite
    | (with_reducible apply Keeps.next (setLinkState_keeps ..)); decide +kernel
    | (with_reducible apply Keeps.next (State.putLinks_keeps ..)); decide +kernel
    | with_reducible apply Keeps.foldl
    | (intro _; beta_reduce)
    | split
    | dsimp only

theorem linkFault_keeps (l : Sys2Proof.LinkRef) (s : Sys2Proof.Machine.State) : Keeps 0x80000014c004600000000000000000000000000000000000000000000008200000000000000000000020010 s (linkFault l s) := by
  unfold linkFault
  repeat' first
    | with_reducible exact Keeps.refl _ _
    | with_reducible apply Keeps.ite
    | (with_reducible apply Keeps.next (setLinkState_keeps ..)); decide +kernel
    | (with_reducible apply Keeps.next (bumpPort_keeps ..)); decide +kernel
    | (with_reducible apply Keeps.next (State.putLinks_keeps ..)); decide +kernel
    | with_reducible apply Keeps.foldl
    | (intro _; beta_reduce)
    | split
    | dsimp only

theorem linkDown_keeps (l : Sys2Proof.LinkRef) (st : ℕ) (s : Sys2Proof.Machine.State) : Keeps 0x80000014c004600000000000000000000000000000000000000000000000200000000000000000000020010 s (linkDown l st s) := by
  unfold linkDown
  repeat' first
    | with_reducible exact Keeps.refl _ _
    | with_reducible apply Keeps.ite
    | (with_reducible apply Keeps.next (setLinkState_keeps ..)); decide +kernel
    | (with_reducible apply Keeps.next (State.putLinks_keeps ..)); decide +kernel
    | with_reducible apply Keeps.foldl
    | (intro _; beta_reduce)
    | split
    | dsimp only

theorem linkTx_keeps (l : Sys2Proof.LinkRef) (fs : List Sys2Proof.LinkFlit) (s : Sys2Proof.Machine.State) : Keeps 0x4000000000000000000000020000 s (linkTx l fs s) := by
  unfold linkTx
  repeat' first
    | with_reducible exact Keeps.refl _ _
    | with_reducible apply Keeps.ite
    | (with_reducible apply Keeps.next (bumpPort_keeps ..)); decide +kernel
    | (with_reducible apply Keeps.next (State.emit_keeps ..)); decide +kernel
    | (with_reducible apply Keeps.next (State.putLinks_keeps ..)); decide +kernel
    | with_reducible apply Keeps.foldl
    | (intro _; beta_reduce)
    | split
    | dsimp only

theorem countFixed_keeps (l : Sys2Proof.LinkRef) (fixed : List ℕ) (s : Sys2Proof.Machine.State) : Keeps 0x11000000000000000000000020000 s (countFixed l fixed s) := by
  unfold countFixed
  repeat' first
    | with_reducible exact Keeps.refl _ _
    | with_reducible apply forEach_keeps
    | with_reducible apply Keeps.ite
    | (with_reducible apply Keeps.next (bumpPort_keeps ..)); decide +kernel
    | (with_reducible apply Keeps.next (State.bump_keeps ..)); decide +kernel
    | (with_reducible apply Keeps.next (State.putLinks_keeps ..)); decide +kernel
    | with_reducible apply Keeps.foldl
    | (intro _; beta_reduce)
    | split
    | dsimp only

theorem takeAck_keeps (l : Sys2Proof.LinkRef) (h : Sys2Proof.Machine.BlockHead) (s : Sys2Proof.Machine.State) : Keeps 0x4000000000000000000000020000 s (takeAck l h s) := by
  unfold takeAck
  repeat' first
    | with_reducible exact Keeps.refl _ _
    | with_reducible apply Keeps.ite
    | (with_reducible apply Keeps.next (bumpPort_keeps ..)); decide +kernel
    | (with_reducible apply Keeps.next (State.putLinks_keeps ..)); decide +kernel
    | with_reducible apply Keeps.foldl
    | (intro _; beta_reduce)
    | split
    | dsimp only

theorem takeBlock_keeps (l : Sys2Proof.LinkRef) (bs : List ℕ) (s : Sys2Proof.Machine.State) : Keeps 0x4000000000000000000000020000 s (takeBlock l bs s) := by
  unfold takeBlock
  repeat' first
    | with_reducible exact Keeps.refl _ _
    | with_reducible apply Keeps.ite
    | (with_reducible apply Keeps.next (State.emit_keeps ..)); decide +kernel
    | (with_reducible apply Keeps.next (State.putLinks_keeps ..)); decide +kernel
    | (with_reducible apply Keeps.next (takeAck_keeps ..)); decide +kernel
    | with_reducible apply Keeps.foldl
    | (intro _; beta_reduce)
    | split
    | dsimp only

theorem takeIdentity_keeps (l : Sys2Proof.LinkRef) (ident : ℕ) (s : Sys2Proof.Machine.State) : Keeps 0x800000000000000000000000000000000000000000000000000000000000400000000000000000000020000 s (takeIdentity l ident s) := by
  unfold takeIdentity
  repeat' first
    | with_reducible exact Keeps.refl _ _
    | with_reducible apply Keeps.ite
    | (with_reducible apply Keeps.next (State.wr_keeps ..)); decide +kernel
    | (with_reducible apply Keeps.next (State.putLinks_keeps ..)); decide +kernel
    | (with_reducible apply Keeps.next (State.setReg_keeps ..)); decide +kernel
    | with_reducible apply Keeps.foldl
    | (intro _; beta_reduce)
    | split
    | dsimp only

theorem linkRx_keeps (l : Sys2Proof.LinkRef) (block : List ℕ) (s : Sys2Proof.Machine.State) : Keeps 0x80000014c004600000000000000000000000000000000000000000000017600000000000000000000020010 s (linkRx l block s) := by
  unfold linkRx
  repeat' first
    | with_reducible exact Keeps.refl _ _
    | with_reducible apply Keeps.ite
    | (with_reducible apply Keeps.next (countFixed_keeps ..)); decide +kernel
    | (with_reducible apply Keeps.next (takeBlock_keeps ..)); decide +kernel
    | (with_reducible apply Keeps.next (takeIdentity_keeps ..)); decide +kernel
    | (with_reducible apply Keeps.next (startTraining_keeps ..)); decide +kernel
    | (with_reducible apply Keeps.next (State.putLinks_keeps ..)); decide +kernel
    | (with_reducible apply Keeps.next (bumpPort_keeps ..)); decide +kernel
    | with_reducible apply Keeps.foldl
    | (intro _; beta_reduce)
    | split
    | dsimp only

theorem ackDeadline_keeps (l : Sys2Proof.LinkRef) (s : Sys2Proof.Machine.State) : Keeps 0x20000 s (ackDeadline l s) := by
  unfold ackDeadline
  repeat' first
    | with_reducible exact Keeps.refl _ _
    | with_reducible apply Keeps.ite
    | (with_reducible apply Keeps.next (State.putLinks_keeps ..)); decide +kernel
    | with_reducible apply Keeps.foldl
    | (intro _; beta_reduce)
    | split
    | dsimp only

theorem replayLimit_keeps (l : Sys2Proof.LinkRef) (s : Sys2Proof.Machine.State) : Keeps 0x80000014c004600000000000000000000000000000000000000000000008200000000000000000000020010 s (replayLimit l s) := by
  unfold replayLimit
  repeat' first
    | with_reducible exact Keeps.refl _ _
    | with_reducible apply Keeps.ite
    | (with_reducible apply Keeps.next (linkFault_keeps ..)); decide +kernel
    | with_reducible apply Keeps.foldl
    | (intro _; beta_reduce)
    | split
    | dsimp only

theorem ackTimeout_keeps (l : Sys2Proof.LinkRef) (s : Sys2Proof.Machine.State) : Keeps 0x80000014c004600000000000000000000000000000000000000000000008200000000000000000000020010 s (ackTimeout l s) := by
  unfold ackTimeout
  repeat' first
    | with_reducible exact Keeps.refl _ _
    | with_reducible apply Keeps.ite
    | (with_reducible apply Keeps.next (linkFault_keeps ..)); decide +kernel
    | with_reducible apply Keeps.foldl
    | (intro _; beta_reduce)
    | split
    | dsimp only

theorem lossOfSignal_keeps (l : Sys2Proof.LinkRef) (s : Sys2Proof.Machine.State) : Keeps 0x80000014c004600000000000000000000000000000000000000000000008200000000000000000000020010 s (lossOfSignal l s) := by
  unfold lossOfSignal
  repeat' first
    | with_reducible exact Keeps.refl _ _
    | with_reducible apply Keeps.ite
    | (with_reducible apply Keeps.next (linkFault_keeps ..)); decide +kernel
    | (with_reducible apply Keeps.next (State.modLinks_keeps ..)); decide +kernel
    | with_reducible apply Keeps.foldl
    | (intro _; beta_reduce)
    | split
    | dsimp only

theorem linkTrained_keeps (l : Sys2Proof.LinkRef) (s : Sys2Proof.Machine.State) : Keeps 0x80000014c004600000000000000000000000000000000000000000000000200000000000000000000020010 s (linkTrained l s) := by
  unfold linkTrained
  repeat' first
    | with_reducible exact Keeps.refl _ _
    | with_reducible apply Keeps.ite
    | (with_reducible apply Keeps.next (setMiscabled_keeps ..)); decide +kernel
    | (with_reducible apply Keeps.next (setLinkState_keeps ..)); decide +kernel
    | (with_reducible apply Keeps.next (State.putLinks_keeps ..)); decide +kernel
    | (with_reducible apply Keeps.next (State.wr_keeps ..)); decide +kernel
    | with_reducible apply Keeps.foldl
    | (intro _; beta_reduce)
    | split
    | dsimp only

theorem adminDown_keeps (w : ℕ) (p : ℕ) (down : Bool) (s : Sys2Proof.Machine.State) : Keeps 0x80000014c004600000000000000000000000000000000000000000000000a00000000000000000000020010 s (adminDown w p down s) := by
  unfold adminDown
  repeat' first
    | with_reducible exact Keeps.refl _ _
    | with_reducible apply Keeps.ite
    | (with_reducible apply Keeps.next (linkDown_keeps ..)); decide +kernel
    | (with_reducible apply Keeps.next (startTraining_keeps ..)); decide +kernel
    | (with_reducible apply Keeps.next (State.wr_keeps ..)); decide +kernel
    | with_reducible apply Keeps.foldl
    | (intro _; beta_reduce)
    | split
    | dsimp only

theorem laneOut_keeps (lane : ℕ) (l : Sys2Proof.LinkRef) (s : Sys2Proof.Machine.State) : Keeps 0x200000000000000000000020000 s (laneOut lane l s) := by
  unfold laneOut
  repeat' first
    | with_reducible exact Keeps.refl _ _
    | with_reducible apply Keeps.ite
    | (with_reducible apply Keeps.next (State.modLinks_keeps ..)); decide +kernel
    | (with_reducible apply Keeps.next (State.wr_keeps ..)); decide +kernel
    | with_reducible apply Keeps.foldl
    | (intro _; beta_reduce)
    | split
    | dsimp only

theorem degradeEnd_keeps (half : Option ℕ) (l : Sys2Proof.LinkRef) (s : Sys2Proof.Machine.State) : Keeps 0x80000014c004600000000000000000000000000000000000000000000008200000000000000000000020010 s (degradeEnd half l s) := by
  unfold degradeEnd
  repeat' first
    | with_reducible exact Keeps.refl _ _
    | with_reducible apply Keeps.ite
    | (with_reducible apply Keeps.next (linkFault_keeps ..)); decide +kernel
    | (with_reducible apply Keeps.next (State.modLinks_keeps ..)); decide +kernel
    | (with_reducible apply Keeps.next (setLinkState_keeps ..)); decide +kernel
    | (with_reducible apply Keeps.next (bumpPort_keeps ..)); decide +kernel
    | with_reducible apply Keeps.foldl
    | (intro _; beta_reduce)
    | split
    | dsimp only

theorem laneFails_keeps (l : Sys2Proof.LinkRef) (lane : ℕ) (s : Sys2Proof.Machine.State) : Keeps 0x80000014c004600000000000000000000000000000000000000000000008200000000000000000000020010 s (laneFails l lane s) := by
  unfold laneFails
  repeat' first
    | with_reducible exact Keeps.refl _ _
    | with_reducible apply forEach_keeps
    | with_reducible apply Keeps.ite
    | (with_reducible apply Keeps.next (laneOut_keeps ..)); decide +kernel
    | (with_reducible apply Keeps.next (degradeEnd_keeps ..)); decide +kernel
    | with_reducible apply Keeps.foldl
    | (intro _; beta_reduce)
    | split
    | dsimp only

theorem berCheck_keeps (l : Sys2Proof.LinkRef) (s : Sys2Proof.Machine.State) : Keeps 0x80000014c004600000000000000000000000000000000000000000000008200000000000000000000020010 s (berCheck l s) := by
  unfold berCheck
  repeat' first
    | with_reducible exact Keeps.refl _ _
    | with_reducible apply forEach_keeps
    | with_reducible apply Keeps.ite
    | (with_reducible apply Keeps.next (laneFails_keeps ..)); decide +kernel
    | (with_reducible apply Keeps.next (State.putLinks_keeps ..)); decide +kernel
    | with_reducible apply Keeps.foldl
    | (intro _; beta_reduce)
    | split
    | dsimp only

theorem degradeRelock_keeps (l : Sys2Proof.LinkRef) (s : Sys2Proof.Machine.State) : Keeps 0x80000014c004600000000000000000000000000000000000000000000000200000000000000000000020010 s (degradeRelock l s) := by
  unfold degradeRelock
  repeat' first
    | with_reducible exact Keeps.refl _ _
    | with_reducible apply Keeps.ite
    | (with_reducible apply Keeps.next (setLinkState_keeps ..)); decide +kernel
    | (with_reducible apply Keeps.next (State.putLinks_keeps ..)); decide +kernel
    | (with_reducible apply Keeps.next (State.wr_keeps ..)); decide +kernel
    | with_reducible apply Keeps.foldl
    | (intro _; beta_reduce)
    | split
    | dsimp only

theorem recalTrigger_keeps (l : Sys2Proof.LinkRef) (lane : ℕ) (s : Sys2Proof.Machine.State) : Keeps 0x20000 s (recalTrigger l lane s) := by
  unfold recalTrigger
  repeat' first
    | with_reducible exact Keeps.refl _ _
    | with_reducible apply Keeps.ite
    | (with_reducible apply Keeps.next (State.modLinks_keeps ..)); decide +kernel
    | with_reducible apply Keeps.foldl
    | (intro _; beta_reduce)
    | split
    | dsimp only

theorem recalibrate_keeps (l : Sys2Proof.LinkRef) (s : Sys2Proof.Machine.State) : Keeps 0x8000000000000000000000020000 s (recalibrate l s) := by
  unfold recalibrate
  repeat' first
    | with_reducible exact Keeps.refl _ _
    | with_reducible apply Keeps.ite
    | (with_reducible apply Keeps.next (State.modLinks_keeps ..)); decide +kernel
    | (with_reducible apply Keeps.next (bumpPort_keeps ..)); decide +kernel
    | with_reducible apply Keeps.foldl
    | (intro _; beta_reduce)
    | split
    | dsimp only

theorem recalIdle_keeps (l : Sys2Proof.LinkRef) (s : Sys2Proof.Machine.State) : Keeps 0x8000000000000000000000020000 s (recalIdle l s) := by
  unfold recalIdle
  repeat' first
    | with_reducible exact Keeps.refl _ _
    | with_reducible apply Keeps.ite
    | (with_reducible apply Keeps.next (recalibrate_keeps ..)); decide +kernel
    | with_reducible apply Keeps.foldl
    | (intro _; beta_reduce)
    | split
    | dsimp only

theorem recalForced_keeps (l : Sys2Proof.LinkRef) (s : Sys2Proof.Machine.State) : Keeps 0x8000000000000000000000020000 s (recalForced l s) := by
  unfold recalForced
  repeat' first
    | with_reducible exact Keeps.refl _ _
    | with_reducible apply Keeps.ite
    | (with_reducible apply Keeps.next (recalibrate_keeps ..)); decide +kernel
    | (with_reducible apply Keeps.next (bumpPort_keeps ..)); decide +kernel
    | (with_reducible apply Keeps.next (State.putLinks_keeps ..)); decide +kernel
    | with_reducible apply Keeps.foldl
    | (intro _; beta_reduce)
    | split
    | dsimp only

theorem State.setChipActState_keeps (s : Sys2Proof.Machine.State) (c : ℕ) (act : ℕ) (v : ℕ) : Keeps 0x40000000000000000000000000000000000000000000000000000000000000000000000000000000000000 s (State.setChipActState s c act v) := by
  unfold State.setChipActState
  repeat' first
    | with_reducible exact Keeps.refl _ _
    | with_reducible apply Keeps.ite
    | (with_reducible apply Keeps.next (State.wr_keeps ..)); decide +kernel
    | with_reducible apply Keeps.foldl
    | (intro _; beta_reduce)
    | split
    | dsimp only

theorem b72Forward_keeps (c : ℕ) (inp : ℕ) (p : Sys2Proof.Packet) (s : Sys2Proof.Machine.State) : Keeps 0x100000000000000000000000000000000000000000000000000000000000000000000000000000000220000 s (b72Forward c inp p s) := by
  unfold b72Forward
  repeat' first
    | with_reducible exact Keeps.refl _ _
    | with_reducible apply Keeps.ite
    | (with_reducible apply Keeps.next (oweCredit_keeps ..)); decide +kernel
    | (with_reducible apply Keeps.next (State.putGroupPtr_keeps ..)); decide +kernel
    | (with_reducible apply Keeps.next (State.bump_keeps ..)); decide +kernel
    | (with_reducible apply Keeps.next (State.emit_keeps ..)); decide +kernel
    | with_reducible apply Keeps.foldl
    | (intro _; beta_reduce)
    | split
    | dsimp only

end Sys2Proof.Machine
end

