-- ==== Sys2Proof/Laws/KeepsPreempt.lean ====
section
/-!
SUPPORT. What each operation of Machine/Preempt.lean may change.
-/
namespace Sys2Proof.Machine
set_option linter.unusedTactic false
set_option linter.unreachableTactic false
set_option Elab.async false

theorem State.setPmt_keeps (s : Sys2Proof.Machine.State) (w : ℕ) (p : ℕ) (st : ℕ) : Keeps 0x80000000000000000000000000000000000000000000000000000000 s (State.setPmt s w p st) := by
  unfold State.setPmt
  repeat' first
    | with_reducible exact Keeps.refl _ _
    | with_reducible apply Keeps.ite
    | (with_reducible apply Keeps.next (State.wr_keeps ..)); decide +kernel
    | with_reducible apply Keeps.foldl
    | (intro _; beta_reduce)
    | split
    | dsimp only

theorem resetStream_keeps (w : ℕ) (srcNi : ℕ) (destNi : ℕ) (cls : ℕ) (spart : ℕ) (s : Sys2Proof.Machine.State) : Keeps 0xc000 s (resetStream w srcNi destNi cls spart s) := by
  unfold resetStream
  repeat' first
    | with_reducible exact Keeps.refl _ _
    | with_reducible apply Keeps.ite
    | (with_reducible apply Keeps.next (resetSends_keeps ..)); decide +kernel
    | (with_reducible apply Keeps.next (resetRecvs_keeps ..)); decide +kernel
    | with_reducible apply Keeps.foldl
    | (intro _; beta_reduce)
    | split
    | dsimp only

theorem resetUnacked_keeps (w : ℕ) (p : ℕ) (s : Sys2Proof.Machine.State) : Keeps 0x20000000000000000000000000000000000000000000000000000c000 s (resetUnacked w p s) := by
  unfold resetUnacked
  repeat' first
    | with_reducible exact Keeps.refl _ _
    | with_reducible apply forEach_keeps
    | with_reducible apply Keeps.ite
    | (with_reducible apply Keeps.next (State.withRecvs_keeps _ _ (fun h => mwf_filter _ _ _ h))); decide +kernel
    | (with_reducible apply Keeps.next (State.withRecvs_keeps _ _ (fun h => mwf_mmap _ _ _ h))); decide +kernel
    | (with_reducible apply Keeps.next (State.wrSat_keeps ..)); decide +kernel
    | (with_reducible apply Keeps.next (resetStream_keeps ..)); decide +kernel
    | with_reducible apply Keeps.foldl
    | (intro _; beta_reduce)
    | split
    | dsimp only

theorem writeRecords_keeps (w : ℕ) (p : ℕ) (s : Sys2Proof.Machine.State) : Keeps 0x14c004600000000000000000400000000010400000020009000800000000000000000000018000013 s (writeRecords w p s) := by
  unfold writeRecords
  repeat' first
    | with_reducible exact Keeps.refl _ _
    | with_reducible apply forEach_keeps
    | with_reducible apply Keeps.ite
    | (with_reducible apply Keeps.next (loftWrite_keeps ..)); decide +kernel
    | (with_reducible apply Keeps.next (State.wr_keeps ..)); decide +kernel
    | with_reducible apply Keeps.foldl
    | (intro _; beta_reduce)
    | split
    | dsimp only

theorem readRecords_keeps (w : ℕ) (p : ℕ) (s : Sys2Proof.Machine.State) : Keeps 0x400034000000000000000000000000000000000000000000000000400 s (readRecords w p s) := by
  unfold readRecords
  repeat' first
    | with_reducible exact Keeps.refl _ _
    | with_reducible apply forEach_keeps
    | with_reducible apply Keeps.ite
    | (with_reducible apply Keeps.next (State.setReg_keeps ..)); decide +kernel
    | (with_reducible apply Keeps.next (State.modPart_keeps ..)); decide +kernel
    | (with_reducible apply Keeps.next (State.wr_keeps ..)); decide +kernel
    | with_reducible apply Keeps.foldl
    | (intro _; beta_reduce)
    | split
    | dsimp only

theorem holdHaltCore_keeps (w : ℕ) (f : ℕ) (u : ℕ) (s : Sys2Proof.Machine.State) : Keeps 0x500900000000000000000000000100000000000000800000000000000000000000000400000000000000000002200 s (holdHaltCore w f u s) := by
  unfold holdHaltCore
  repeat' first
    | with_reducible exact Keeps.refl _ _
    | with_reducible apply Keeps.ite
    | (with_reducible apply Keeps.next (endHalt_keeps ..)); decide +kernel
    | (with_reducible apply Keeps.next (endWait_keeps ..)); decide +kernel
    | (with_reducible apply Keeps.next (State.modCore_keeps ..)); decide +kernel
    | (with_reducible apply Keeps.next (withdrawTake_keeps ..)); decide +kernel
    | with_reducible apply Keeps.foldl
    | (intro _; beta_reduce)
    | split
    | dsimp only

theorem reachStopped_keeps (w : ℕ) (p : ℕ) (s : Sys2Proof.Machine.State) : Keeps 0x34c004600000000000000000580000000010400000020009000800000000000000000000018000413 s (reachStopped w p s) := by
  unfold reachStopped
  repeat' first
    | with_reducible exact Keeps.refl _ _
    | with_reducible apply Keeps.ite
    | (with_reducible apply Keeps.next (State.raiseP_keeps ..)); decide +kernel
    | (with_reducible apply Keeps.next (State.wrSat_keeps ..)); decide +kernel
    | (with_reducible apply Keeps.next (State.wr_keeps ..)); decide +kernel
    | (with_reducible apply Keeps.next (writeRecords_keeps ..)); decide +kernel
    | (with_reducible apply Keeps.next (State.setPmt_keeps ..)); decide +kernel
    | (with_reducible apply Keeps.next (State.modPart_keeps ..)); decide +kernel
    | with_reducible apply Keeps.foldl
    | (intro _; beta_reduce)
    | split
    | dsimp only

theorem beginCut_keeps (w : ℕ) (p : ℕ) (endCode : ℕ) (s : Sys2Proof.Machine.State) : Keeps 0x500900000000000000000000000106005060280004820000000000000000000000000400000000000000260086600 s (beginCut w p endCode s) := by
  unfold beginCut
  repeat' first
    | with_reducible exact Keeps.refl _ _
    | with_reducible apply Keeps.ite
    | (with_reducible apply Keeps.next (State.wrSat_keeps ..)); decide +kernel
    | (with_reducible apply Keeps.next (State.wr_keeps ..)); decide +kernel
    | (with_reducible apply Keeps.next (withdrawQueued_keeps ..)); decide +kernel
    | (with_reducible apply Keeps.next (State.setPmt_keeps ..)); decide +kernel
    | (with_reducible apply Keeps.next (cutRunning_keeps ..)); decide +kernel
    | (with_reducible apply Keeps.next (State.modPart_keeps ..)); decide +kernel
    | (with_reducible apply Keeps.next (State.setPartState_keeps ..)); decide +kernel
    | with_reducible apply Keeps.foldl
    | (intro _; beta_reduce)
    | split
    | dsimp only

theorem beginStop_keeps (w : ℕ) (p : ℕ) (s : Sys2Proof.Machine.State) : Keeps 0x500900000000000000000000000106005060280004820000000000000000000000000400000000000000260086600 s (beginStop w p s) := by
  unfold beginStop
  repeat' first
    | with_reducible exact Keeps.refl _ _
    | with_reducible apply Keeps.ite
    | (with_reducible apply Keeps.next (beginCut_keeps ..)); decide +kernel
    | with_reducible apply Keeps.foldl
    | (intro _; beta_reduce)
    | split
    | dsimp only

theorem surrenderCheck_keeps (w : ℕ) (p : ℕ) (s : Sys2Proof.Machine.State) : Keeps 0x80000000000000000000000000000000000000000000000000000400 s (surrenderCheck w p s) := by
  unfold surrenderCheck
  repeat' first
    | with_reducible exact Keeps.refl _ _
    | with_reducible apply Keeps.ite
    | (with_reducible apply Keeps.next (State.setPmt_keeps ..)); decide +kernel
    | (with_reducible apply Keeps.next (State.modPart_keeps ..)); decide +kernel
    | with_reducible apply Keeps.foldl
    | (intro _; beta_reduce)
    | split
    | dsimp only

theorem faultHeldFirst_keeps (w : ℕ) (p : ℕ) (s : Sys2Proof.Machine.State) : Keeps 0x50090000000034c004600000000106005060000030920010400000020009000800000400000000000000278086e13 s (faultHeldFirst w p s) := by
  unfold faultHeldFirst
  repeat' first
    | with_reducible exact Keeps.refl _ _
    | with_reducible apply Keeps.ite
    | (with_reducible apply Keeps.next (failCmd_keeps ..)); decide +kernel
    | with_reducible apply Keeps.foldl
    | (intro _; beta_reduce)
    | split
    | dsimp only

theorem startPreempt_keeps (w : ℕ) (p : ℕ) (s : Sys2Proof.Machine.State) : Keeps 0x50090000000034c004600000000106005060380034920010400000020009000800000400000000000000278086e13 s (startPreempt w p s) := by
  unfold startPreempt
  repeat' first
    | with_reducible exact Keeps.refl _ _
    | with_reducible apply Keeps.ite
    | (with_reducible apply Keeps.next (State.wr_keeps ..)); decide +kernel
    | (with_reducible apply Keeps.next (beginStop_keeps ..)); decide +kernel
    | (with_reducible apply Keeps.next (beginCut_keeps ..)); decide +kernel
    | (with_reducible apply Keeps.next (State.setPmt_keeps ..)); decide +kernel
    | (with_reducible apply Keeps.next (faultHeldFirst_keeps ..)); decide +kernel
    | (with_reducible apply Keeps.next (State.modPart_keeps ..)); decide +kernel
    | (with_reducible apply Keeps.next (State.setPartState_keeps ..)); decide +kernel
    | with_reducible apply Keeps.foldl
    | (intro _; beta_reduce)
    | split
    | dsimp only

theorem pmtRefuse_keeps (w : ℕ) (p : ℕ) (reason : ℕ) (s : Sys2Proof.Machine.State) : Keeps 0x34c004600000000000000004000000000000000000000000000000000000000000000000000000010 s (pmtRefuse w p reason s) := by
  unfold pmtRefuse
  repeat' first
    | with_reducible exact Keeps.refl _ _
    | with_reducible apply Keeps.ite
    | (with_reducible apply Keeps.next (State.raiseP_keeps ..)); decide +kernel
    | (with_reducible apply Keeps.next (State.wr_keeps ..)); decide +kernel
    | with_reducible apply Keeps.foldl
    | (intro _; beta_reduce)
    | split
    | dsimp only

theorem forwardPmt_keeps (w : ℕ) (p : ℕ) (v : ℕ) (s : Sys2Proof.Machine.State) : Keeps 0x80000 s (forwardPmt w p v s) := by
  unfold forwardPmt
  repeat' first
    | with_reducible exact Keeps.refl _ _
    | with_reducible apply forEach_keeps
    | with_reducible apply Keeps.ite
    | (with_reducible apply Keeps.next (sendPeer_keeps ..)); decide +kernel
    | with_reducible apply Keeps.foldl
    | (intro _; beta_reduce)
    | split
    | dsimp only

theorem preempt_keeps (w : ℕ) (p : ℕ) (s : Sys2Proof.Machine.State) : Keeps 0x50090000000034c004600000000106005064380034920010400000020009000800000400000000000000278086e13 s (preempt w p s) := by
  unfold preempt
  repeat' first
    | with_reducible exact Keeps.refl _ _
    | with_reducible apply Keeps.ite
    | (with_reducible apply Keeps.next (startPreempt_keeps ..)); decide +kernel
    | (with_reducible apply Keeps.next (forwardPmt_keeps ..)); decide +kernel
    | (with_reducible apply Keeps.next (pmtRefuse_keeps ..)); decide +kernel
    | with_reducible apply Keeps.foldl
    | (intro _; beta_reduce)
    | split
    | dsimp only

theorem drainEnded_keeps (w : ℕ) (p : ℕ) (s : Sys2Proof.Machine.State) : Keeps 0x500900000000000000000000000106005060380004820000000000000000000000000400000000000000260086600 s (drainEnded w p s) := by
  unfold drainEnded
  repeat' first
    | with_reducible exact Keeps.refl _ _
    | with_reducible apply Keeps.ite
    | (with_reducible apply Keeps.next (State.wrSat_keeps ..)); decide +kernel
    | (with_reducible apply Keeps.next (beginStop_keeps ..)); decide +kernel
    | (with_reducible apply Keeps.next (State.modPart_keeps ..)); decide +kernel
    | with_reducible apply Keeps.foldl
    | (intro _; beta_reduce)
    | split
    | dsimp only

theorem holdHalted_keeps (w : ℕ) (p : ℕ) (s : Sys2Proof.Machine.State) : Keeps 0x500900000000000000000000000106005060280004820000000000000000000000000400000000000000260086600 s (holdHalted w p s) := by
  unfold holdHalted
  repeat' first
    | with_reducible exact Keeps.refl _ _
    | with_reducible apply forEach_keeps
    | with_reducible apply Keeps.ite
    | (with_reducible apply Keeps.next (State.wrSat_keeps ..)); decide +kernel
    | (with_reducible apply Keeps.next (beginStop_keeps ..)); decide +kernel
    | (with_reducible apply Keeps.next (surrenderCheck_keeps ..)); decide +kernel
    | (with_reducible apply Keeps.next (State.wr_keeps ..)); decide +kernel
    | (with_reducible apply Keeps.next (holdHaltCore_keeps ..)); decide +kernel
    | (with_reducible apply Keeps.next (State.modPart_keeps ..)); decide +kernel
    | with_reducible apply Keeps.foldl
    | (intro _; beta_reduce)
    | split
    | dsimp only

theorem holdTimeout_keeps (w : ℕ) (p : ℕ) (s : Sys2Proof.Machine.State) : Keeps 0x500900000000000000000000000106005060280004820000000000000000000000000400000000000000260086600 s (holdTimeout w p s) := by
  unfold holdTimeout
  repeat' first
    | with_reducible exact Keeps.refl _ _
    | with_reducible apply Keeps.ite
    | (with_reducible apply Keeps.next (State.wr_keeps ..)); decide +kernel
    | (with_reducible apply Keeps.next (beginCut_keeps ..)); decide +kernel
    | with_reducible apply Keeps.foldl
    | (intro _; beta_reduce)
    | split
    | dsimp only

theorem holdSaved_keeps (w : ℕ) (p : ℕ) (s : Sys2Proof.Machine.State) : Keeps 0x50090000000034c004600000000106005060780004820010400000020009000800000400000000000000278086613 s (holdSaved w p s) := by
  unfold holdSaved
  repeat' first
    | with_reducible exact Keeps.refl _ _
    | with_reducible apply forEach_keeps
    | with_reducible apply Keeps.ite
    | (with_reducible apply Keeps.next (State.raiseP_keeps ..)); decide +kernel
    | (with_reducible apply Keeps.next (State.wrSat_keeps ..)); decide +kernel
    | (with_reducible apply Keeps.next (setParkReq_keeps ..)); decide +kernel
    | (with_reducible apply Keeps.next (State.wr_keeps ..)); decide +kernel
    | (with_reducible apply Keeps.next (writeRecords_keeps ..)); decide +kernel
    | (with_reducible apply Keeps.next (beginStop_keeps ..)); decide +kernel
    | (with_reducible apply Keeps.next (State.setPmt_keeps ..)); decide +kernel
    | (with_reducible apply Keeps.next (State.modPart_keeps ..)); decide +kernel
    | (with_reducible apply Keeps.next (loftWrite_keeps ..)); decide +kernel
    | with_reducible apply Keeps.foldl
    | (intro _; beta_reduce)
    | split
    | dsimp only

theorem unparkHold_keeps (w : ℕ) (p : ℕ) (s : Sys2Proof.Machine.State) : Keeps 0x6004000000000000000000000000000000000000000000000000000220000000 s (unparkHold w p s) := by
  unfold unparkHold
  repeat' first
    | with_reducible exact Keeps.refl _ _
    | with_reducible apply forEach_keeps
    | with_reducible apply Keeps.ite
    | (with_reducible apply Keeps.next (setParkReq_keeps ..)); decide +kernel
    | with_reducible apply Keeps.foldl
    | (intro _; beta_reduce)
    | split
    | dsimp only

theorem discardHeld_keeps (w : ℕ) (p : ℕ) (s : Sys2Proof.Machine.State) : Keeps 0x500900000000000000000000000106005060080004820000000000000000000000000400000000000000260086600 s (discardHeld w p s) := by
  unfold discardHeld
  repeat' first
    | with_reducible exact Keeps.refl _ _
    | with_reducible apply Keeps.ite
    | (with_reducible apply Keeps.next (State.wr_keeps ..)); decide +kernel
    | (with_reducible apply Keeps.next (requeue_keeps ..)); decide +kernel
    | (with_reducible apply Keeps.next (discardCmd_keeps ..)); decide +kernel
    | with_reducible apply Keeps.foldl
    | (intro _; beta_reduce)
    | split
    | dsimp only

theorem latchedFault_keeps (w : ℕ) (p : ℕ) (s : Sys2Proof.Machine.State) : Keeps 0x50090000000034c0046000000001060050600800309a0010400000020009000800000400000000000000278086e13 s (latchedFault w p s) := by
  unfold latchedFault
  repeat' first
    | with_reducible exact Keeps.refl _ _
    | with_reducible apply Keeps.ite
    | (with_reducible apply Keeps.next (enterFaulted_keeps ..)); decide +kernel
    | (with_reducible apply Keeps.next (State.wr_keeps ..)); decide +kernel
    | (with_reducible apply Keeps.next (State.modPart_keeps ..)); decide +kernel
    | (with_reducible apply Keeps.next (unparkHold_keeps ..)); decide +kernel
    | with_reducible apply Keeps.foldl
    | (intro _; beta_reduce)
    | split
    | dsimp only

theorem cutTimeout_keeps (w : ℕ) (p : ℕ) (s : Sys2Proof.Machine.State) : Keeps 0x20000000000000000000000000000000000000000000000000000c000 s (cutTimeout w p s) := by
  unfold cutTimeout
  repeat' first
    | with_reducible exact Keeps.refl _ _
    | with_reducible apply Keeps.ite
    | (with_reducible apply Keeps.next (resetUnacked_keeps ..)); decide +kernel
    | with_reducible apply Keeps.foldl
    | (intro _; beta_reduce)
    | split
    | dsimp only

theorem cutComplete_keeps (w : ℕ) (p : ℕ) (s : Sys2Proof.Machine.State) : Keeps 0x34c004600000000000000000580000000010400000020009000800000000000000000000018000413 s (cutComplete w p s) := by
  unfold cutComplete
  repeat' first
    | with_reducible exact Keeps.refl _ _
    | with_reducible apply Keeps.ite
    | (with_reducible apply Keeps.next (State.wr_keeps ..)); decide +kernel
    | (with_reducible apply Keeps.next (reachStopped_keeps ..)); decide +kernel
    | (with_reducible apply Keeps.next (State.setPmt_keeps ..)); decide +kernel
    | (with_reducible apply Keeps.next (State.modPart_keeps ..)); decide +kernel
    | with_reducible apply Keeps.foldl
    | (intro _; beta_reduce)
    | split
    | dsimp only

theorem restart_keeps (w : ℕ) (p : ℕ) (s : Sys2Proof.Machine.State) : Keeps 0x34c004600000000006004000480034020000000000000000000000000000000000000000220000410 s (restart w p s) := by
  unfold restart
  repeat' first
    | with_reducible exact Keeps.refl _ _
    | with_reducible apply Keeps.ite
    | (with_reducible apply Keeps.next (State.raiseP_keeps ..)); decide +kernel
    | (with_reducible apply Keeps.next (readRecords_keeps ..)); decide +kernel
    | (with_reducible apply Keeps.next (State.setPmt_keeps ..)); decide +kernel
    | (with_reducible apply Keeps.next (State.modPart_keeps ..)); decide +kernel
    | (with_reducible apply Keeps.next (State.setPartState_keeps ..)); decide +kernel
    | (with_reducible apply Keeps.next (unparkHold_keeps ..)); decide +kernel
    | with_reducible apply Keeps.foldl
    | (intro _; beta_reduce)
    | split
    | dsimp only

theorem beginRestore_keeps (w : ℕ) (p : ℕ) (st : ℕ) (s : Sys2Proof.Machine.State) : Keeps 0x6004000080000000000000000000000000000000000000000000000220000400 s (beginRestore w p st s) := by
  unfold beginRestore
  repeat' first
    | with_reducible exact Keeps.refl _ _
    | with_reducible apply Keeps.ite
    | (with_reducible apply Keeps.next (State.setPmt_keeps ..)); decide +kernel
    | (with_reducible apply Keeps.next (State.modPart_keeps ..)); decide +kernel
    | (with_reducible apply Keeps.next (unparkHold_keeps ..)); decide +kernel
    | with_reducible apply Keeps.foldl
    | (intro _; beta_reduce)
    | split
    | dsimp only

theorem resumeOne_keeps (w : ℕ) (p : ℕ) (s : Sys2Proof.Machine.State) : Keeps 0x50090000000034c0046000000001060050604800349a0010400000020009000800000400000000000000278086e13 s (resumeOne w p s) := by
  unfold resumeOne
  repeat' first
    | with_reducible exact Keeps.refl _ _
    | with_reducible apply Keeps.ite
    | (with_reducible apply Keeps.next (beginRestore_keeps ..)); decide +kernel
    | (with_reducible apply Keeps.next (State.raiseP_keeps ..)); decide +kernel
    | (with_reducible apply Keeps.next (latchedFault_keeps ..)); decide +kernel
    | (with_reducible apply Keeps.next (restart_keeps ..)); decide +kernel
    | with_reducible apply Keeps.foldl
    | (intro _; beta_reduce)
    | split
    | dsimp only

theorem resume_keeps (w : ℕ) (p : ℕ) (s : Sys2Proof.Machine.State) : Keeps 0x50090000200034c0046000010001060050644800349a0010400000020009000800000400000000000006278086e13 s (resume w p s) := by
  unfold resume
  repeat' first
    | with_reducible exact Keeps.refl _ _
    | with_reducible apply Keeps.ite
    | (with_reducible apply Keeps.next (forwardPmt_keeps ..)); decide +kernel
    | (with_reducible apply Keeps.next (pmtRefuse_keeps ..)); decide +kernel
    | (with_reducible apply Keeps.next (resumeOne_keeps ..)); decide +kernel
    | (with_reducible apply Keeps.next (ghostExit_keeps ..)); decide +kernel
    | with_reducible apply Keeps.foldl
    | (intro _; beta_reduce)
    | split
    | dsimp only

theorem restoreDone_keeps (w : ℕ) (p : ℕ) (bad : Option (ℕ × ℕ)) (s : Sys2Proof.Machine.State) : Keeps 0x50090000000074c0046000000001060050600800309a0018ec03fe8200090008000004000700000000002f8486e1b s (restoreDone w p bad s) := by
  unfold restoreDone
  repeat' first
    | with_reducible exact Keeps.refl _ _
    | with_reducible apply forEach_keeps
    | with_reducible apply Keeps.ite
    | (with_reducible apply Keeps.next (loftCountRead_keeps ..)); decide +kernel
    | (with_reducible apply Keeps.next (State.wr_keeps ..)); decide +kernel
    | (with_reducible apply Keeps.next (State.setCore_keeps ..)); decide +kernel
    | (with_reducible apply Keeps.next (State.setPmt_keeps ..)); decide +kernel
    | (with_reducible apply Keeps.next (partFault_keeps ..)); decide +kernel
    | (with_reducible apply Keeps.next (State.modPart_keeps ..)); decide +kernel
    | (with_reducible apply Keeps.next (loftUncorrectable_keeps ..)); decide +kernel
    | (with_reducible apply Keeps.next (State.setPartState_keeps ..)); decide +kernel
    | with_reducible apply Keeps.foldl
    | (intro _; beta_reduce)
    | split
    | dsimp only

theorem donateOne_keeps (w : ℕ) (p : ℕ) (s : Sys2Proof.Machine.State) : Keeps 0x50090000000034c0046000000001060050600800309a0010400000020009000800000400000000000000278086e13 s (donateOne w p s) := by
  unfold donateOne
  repeat' first
    | with_reducible exact Keeps.refl _ _
    | with_reducible apply Keeps.ite
    | (with_reducible apply Keeps.next (beginRestore_keeps ..)); decide +kernel
    | (with_reducible apply Keeps.next (latchedFault_keeps ..)); decide +kernel
    | (with_reducible apply Keeps.next (State.modPart_keeps ..)); decide +kernel
    | with_reducible apply Keeps.foldl
    | (intro _; beta_reduce)
    | split
    | dsimp only

theorem donate_keeps (w : ℕ) (p : ℕ) (sem : ℕ) (slot : ℕ) (s : Sys2Proof.Machine.State) : Keeps 0x50090000000034c0046000000001060050618800309a0010400000020009000800000400000000000000278086e13 s (donate w p sem slot s) := by
  unfold donate
  repeat' first
    | with_reducible exact Keeps.refl _ _
    | with_reducible apply forEach_keeps
    | with_reducible apply Keeps.ite
    | (with_reducible apply Keeps.next (State.raiseP_keeps ..)); decide +kernel
    | (with_reducible apply Keeps.next (State.bump_keeps ..)); decide +kernel
    | (with_reducible apply Keeps.next (donateOne_keeps ..)); decide +kernel
    | (with_reducible apply Keeps.next (latchedFault_keeps ..)); decide +kernel
    | (with_reducible apply Keeps.next (State.wr_keeps ..)); decide +kernel
    | with_reducible apply Keeps.foldl
    | (intro _; beta_reduce)
    | split
    | dsimp only

theorem donated_keeps (w : ℕ) (p : ℕ) (s : Sys2Proof.Machine.State) : Keeps 0x34c004600000000006004000480000000010400000020009000800000000000000000000238000413 s (donated w p s) := by
  unfold donated
  repeat' first
    | with_reducible exact Keeps.refl _ _
    | with_reducible apply forEach_keeps
    | with_reducible apply Keeps.ite
    | (with_reducible apply Keeps.next (State.raiseP_keeps ..)); decide +kernel
    | (with_reducible apply Keeps.next (setParkReq_keeps ..)); decide +kernel
    | (with_reducible apply Keeps.next (State.wr_keeps ..)); decide +kernel
    | (with_reducible apply Keeps.next (writeRecords_keeps ..)); decide +kernel
    | (with_reducible apply Keeps.next (State.setPmt_keeps ..)); decide +kernel
    | (with_reducible apply Keeps.next (State.modPart_keeps ..)); decide +kernel
    | with_reducible apply Keeps.foldl
    | (intro _; beta_reduce)
    | split
    | dsimp only

theorem donationBound_keeps (w : ℕ) (p : ℕ) (s : Sys2Proof.Machine.State) : Keeps 0x50090000000034c004600000000106005062280004820000000000000000000000000400000000000000260086610 s (donationBound w p s) := by
  unfold donationBound
  repeat' first
    | with_reducible exact Keeps.refl _ _
    | with_reducible apply forEach_keeps
    | with_reducible apply Keeps.ite
    | (with_reducible apply Keeps.next (State.raiseP_keeps ..)); decide +kernel
    | (with_reducible apply Keeps.next (beginCut_keeps ..)); decide +kernel
    | (with_reducible apply Keeps.next (State.modPart_keeps ..)); decide +kernel
    | (with_reducible apply Keeps.next (State.bump_keeps ..)); decide +kernel
    | with_reducible apply Keeps.foldl
    | (intro _; beta_reduce)
    | split
    | dsimp only

theorem abortPreempt_keeps (w : ℕ) (p : ℕ) (s : Sys2Proof.Machine.State) : Keeps 0x6004000480000000000000000000000000000000000000000000000220000400 s (abortPreempt w p s) := by
  unfold abortPreempt
  repeat' first
    | with_reducible exact Keeps.refl _ _
    | with_reducible apply Keeps.ite
    | (with_reducible apply Keeps.next (State.wr_keeps ..)); decide +kernel
    | (with_reducible apply Keeps.next (State.setPmt_keeps ..)); decide +kernel
    | (with_reducible apply Keeps.next (State.modPart_keeps ..)); decide +kernel
    | (with_reducible apply Keeps.next (unparkHold_keeps ..)); decide +kernel
    | with_reducible apply Keeps.foldl
    | (intro _; beta_reduce)
    | split
    | dsimp only

theorem heldCueCut_keeps (w : ℕ) (p : ℕ) (s : Sys2Proof.Machine.State) : Keeps 0x500900000000000000000000000106005060080004820000000000000000000000000400000000000000260086600 s (heldCueCut w p s) := by
  unfold heldCueCut
  repeat' first
    | with_reducible exact Keeps.refl _ _
    | with_reducible apply Keeps.ite
    | (with_reducible apply Keeps.next (discardHeld_keeps ..)); decide +kernel
    | (with_reducible apply Keeps.next (State.wr_keeps ..)); decide +kernel
    | (with_reducible apply Keeps.next (State.setPartState_keeps ..)); decide +kernel
    | with_reducible apply Keeps.foldl
    | (intro _; beta_reduce)
    | split
    | dsimp only

theorem pmtForwarded_keeps (w : ℕ) (p : ℕ) (v : ℕ) (s : Sys2Proof.Machine.State) : Keeps 0x50090000000034c0046000000001060050607800349a0010400000020009000800000400000000000000278086e13 s (pmtForwarded w p v s) := by
  unfold pmtForwarded
  repeat' first
    | with_reducible exact Keeps.refl _ _
    | with_reducible apply Keeps.ite
    | (with_reducible apply Keeps.next (startPreempt_keeps ..)); decide +kernel
    | (with_reducible apply Keeps.next (resumeOne_keeps ..)); decide +kernel
    | with_reducible apply Keeps.foldl
    | (intro _; beta_reduce)
    | split
    | dsimp only

end Sys2Proof.Machine
end

