-- ==== Sys2Proof/Laws/KeepsServing.lean ====
section
/-!
SUPPORT. What each operation of Machine/Serving.lean may change.
-/
namespace Sys2Proof.Machine
set_option linter.unusedTactic false
set_option linter.unreachableTactic false
set_option Elab.async false

theorem badDoorbell_keeps (w : ℕ) (p : ℕ) (q : ℕ) (reason : ℕ) (s : Sys2Proof.Machine.State) : Keeps 0x34c004600000000000000000000400000000000000000000000000000000000000000000000000010 s (badDoorbell w p q reason s) := by
  unfold badDoorbell
  repeat' first
    | with_reducible exact Keeps.refl _ _
    | with_reducible apply Keeps.ite
    | (with_reducible apply Keeps.next (State.raiseP_keeps ..)); decide +kernel
    | (with_reducible apply Keeps.next (State.wr_keeps ..)); decide +kernel
    | with_reducible apply Keeps.foldl
    | (intro _; beta_reduce)
    | split
    | dsimp only

theorem doorbell_keeps (w : ℕ) (p : ℕ) (q : ℕ) (tail : ℕ) (s : Sys2Proof.Machine.State) : Keeps 0x200034c004600001000006004000000408000000000000000000000000000000000000000006220000010 s (doorbell w p q tail s) := by
  unfold doorbell
  repeat' first
    | with_reducible exact Keeps.refl _ _
    | with_reducible apply Keeps.ite
    | (with_reducible apply Keeps.next (State.wr_keeps ..)); decide +kernel
    | (with_reducible apply Keeps.next (badDoorbell_keeps ..)); decide +kernel
    | (with_reducible apply Keeps.next (ghostExit_keeps ..)); decide +kernel
    | with_reducible apply Keeps.foldl
    | (intro _; beta_reduce)
    | split
    | dsimp only

theorem seRead_keeps (w : ℕ) (p : ℕ) (off : ℕ) (n : ℕ) (s : Sys2Proof.Machine.State) : Keeps 0x8000000000000000000000000000000000000000000000 s (seRead w p off n s).2 := by
  unfold seRead
  try dsimp only
  repeat' first
    | with_reducible exact Keeps.refl _ _
    | with_reducible apply Keeps.ite
    | (with_reducible apply Keeps.next (State.withFreeCtr_keeps _ _ (Nat.le_add_right _ _)) (sub_zero _))
    | (with_reducible apply Keeps.next (loftCountRead_keeps ..)); decide +kernel
    | with_reducible apply Keeps.foldl
    | (intro _; beta_reduce)
    | split
    | dsimp only

theorem startCore_keeps (w : ℕ) (p : ℕ) (c : Sys2Proof.Machine.Cmd) (desc : List ℕ) (f : ℕ) (u : ℕ) (rank : ℕ) (s : Sys2Proof.Machine.State) : Keeps 0x100000000000000000000000400000000000000000000200 s (startCore w p c desc f u rank s) := by
  unfold startCore
  repeat' first
    | with_reducible exact Keeps.refl _ _
    | with_reducible apply Keeps.ite
    | (with_reducible apply Keeps.next (State.withFreeCtr_keeps _ _ (Nat.le_add_right _ _)) (sub_zero _))
    | (with_reducible apply Keeps.next (State.setCore_keeps ..)); decide +kernel
    | (with_reducible apply Keeps.next (State.bump_keeps ..)); decide +kernel
    | with_reducible apply Keeps.foldl
    | (intro _; beta_reduce)
    | split
    | dsimp only

theorem startCmd_keeps (w : ℕ) (p : ℕ) (c : Sys2Proof.Machine.Cmd) (desc : List ℕ) (badFill : Option (ℕ × ℕ × ℕ)) (s : Sys2Proof.Machine.State) : Keeps 0x58090000000074c004600000000106005060000030920110ec03fe8200090008000004100700000000002f8486e1b s (startCmd w p c desc badFill s) := by
  unfold startCmd
  repeat' first
    | with_reducible exact Keeps.refl _ _
    | with_reducible apply forEach_keeps
    | with_reducible apply Keeps.ite
    | (with_reducible apply Keeps.next (startCore_keeps ..)); decide +kernel
    | (with_reducible apply Keeps.next (accrue_keeps ..)); decide +kernel
    | (with_reducible apply Keeps.next (coreFault_keeps ..)); decide +kernel
    | (with_reducible apply Keeps.next (State.modPart_keeps ..)); decide +kernel
    | (with_reducible apply Keeps.next (loftUncorrectable_keeps ..)); decide +kernel
    | (with_reducible apply Keeps.next (State.setPartState_keeps ..)); decide +kernel
    | with_reducible apply Keeps.foldl
    | (intro _; beta_reduce)
    | split
    | dsimp only

theorem dispatch_keeps (w : ℕ) (p : ℕ) (c : Sys2Proof.Machine.Cmd) (raw : List ℕ) (badFill : Option (ℕ × ℕ × ℕ)) (s : Sys2Proof.Machine.State) : Keeps 0x58090000000074c004600000000106005060000030920118ec03fe8200090008000004100700000000002f8486e1b s (dispatch w p c raw badFill s) := by
  unfold dispatch
  repeat' first
    | with_reducible exact Keeps.refl _ _
    | with_reducible apply forEach_keeps
    | with_reducible apply Keeps.ite
    | (with_reducible apply Keeps.next (startCmd_keeps ..)); decide +kernel
    | (with_reducible apply Keeps.next (seRead_keeps ..)); decide +kernel
    | (with_reducible apply Keeps.next (sendPeer_keeps ..)); decide +kernel
    | with_reducible apply Keeps.foldl
    | (intro _; beta_reduce)
    | split
    | dsimp only

theorem blockedQuads_keeps (w : ℕ) (p : ℕ) (s : Sys2Proof.Machine.State) : Keeps 0x34c004600000000000000000000000000000000000000000000000000000000000000000000000410 s (blockedQuads w p s) := by
  unfold blockedQuads
  repeat' first
    | with_reducible exact Keeps.refl _ _
    | with_reducible apply Keeps.ite
    | (with_reducible apply Keeps.next (State.raiseP_keeps ..)); decide +kernel
    | (with_reducible apply Keeps.next (State.modPart_keeps ..)); decide +kernel
    | with_reducible apply Keeps.foldl
    | (intro _; beta_reduce)
    | split
    | dsimp only

theorem skipFull_keeps (w : ℕ) (p : ℕ) (s : Sys2Proof.Machine.State) : Keeps 0x34c004600000000000000000000000000000000000000000000000000000000000000000000000410 s (skipFull w p s) := by
  unfold skipFull
  repeat' first
    | with_reducible exact Keeps.refl _ _
    | with_reducible apply Keeps.ite
    | (with_reducible apply Keeps.next (State.raiseP_keeps ..)); decide +kernel
    | (with_reducible apply Keeps.next (State.modPart_keeps ..)); decide +kernel
    | with_reducible apply Keeps.foldl
    | (intro _; beta_reduce)
    | split
    | dsimp only

theorem answer_keeps (w : ℕ) (p : ℕ) (c : Sys2Proof.Machine.Cmd) (status : ℕ) (flags : ℕ) (s : Sys2Proof.Machine.State) : Keeps 0x34c004600000000000000000000010100010400000020009000800000000000000000000018000013 s (answer w p c status flags s) := by
  unfold answer
  repeat' first
    | with_reducible exact Keeps.refl _ _
    | with_reducible apply Keeps.ite
    | (with_reducible apply Keeps.next (writeRecord_keeps ..)); decide +kernel
    | with_reducible apply Keeps.foldl
    | (intro _; beta_reduce)
    | split
    | dsimp only

theorem checkEntry_keeps (w : ℕ) (p : ℕ) (c : Sys2Proof.Machine.Cmd) (bs : List ℕ) (badFill : Option (ℕ × ℕ × ℕ)) (s : Sys2Proof.Machine.State) : Keeps 0x58090000000074c004600000000106005060000330920118ec03fe8200090008000004100700000000002f8486e1b s (checkEntry w p c bs badFill s) := by
  unfold checkEntry
  repeat' first
    | with_reducible exact Keeps.refl _ _
    | with_reducible apply Keeps.ite
    | (with_reducible apply Keeps.next (State.bump_keeps ..)); decide +kernel
    | (with_reducible apply Keeps.next (dispatch_keeps ..)); decide +kernel
    | (with_reducible apply Keeps.next (State.modPart_keeps ..)); decide +kernel
    | (with_reducible apply Keeps.next (answer_keeps ..)); decide +kernel
    | with_reducible apply Keeps.foldl
    | (intro _; beta_reduce)
    | split
    | dsimp only

theorem snd_mk_keeps {α : Type} (x : α) {M : Nat} {s t : State} (h : Keeps M s t) : Keeps M s (x, t).2 := h

theorem stepCmd_keeps (w p q : Nat) (s : State) : Keeps 0x8000000000000000000000000000000000000000000000 s (stepCmd w p q s).2 := by
  unfold stepCmd
  exact snd_mk_keeps _ (seRead_keeps w p (s.reg PRT_SE_BASE w p) 64 s)

theorem commandTake_keeps (w : ℕ) (p : ℕ) (badFill : Option (ℕ × ℕ × ℕ)) (s0 : Sys2Proof.Machine.State) : Keeps 0x58090000000074c004600000000106005060000334920118ec03fe8200090008000004100700000000002f8486e1b s0 (commandTake w p badFill s0) := by
  unfold commandTake
  repeat' first
    | with_reducible exact Keeps.refl _ _
    | with_reducible apply Keeps.ite
    | (with_reducible apply Keeps.next (blockedQuads_keeps ..)); decide +kernel
    | (with_reducible apply Keeps.next (stepCmd_keeps ..)); decide +kernel
    | (with_reducible apply Keeps.next (State.incWrap_keeps ..)); decide +kernel
    | (with_reducible apply Keeps.next (skipFull_keeps ..)); decide +kernel
    | (with_reducible apply Keeps.next (checkEntry_keeps ..)); decide +kernel
    | (with_reducible apply Keeps.next (dispatch_keeps ..)); decide +kernel
    | (with_reducible apply Keeps.next (State.modPart_keeps ..)); decide +kernel
    | (with_reducible apply Keeps.next (seRead_keeps ..)); decide +kernel
    | with_reducible apply Keeps.foldl
    | (intro _; beta_reduce)
    | split
    | dsimp only

theorem cmdForwarded_keeps (w : ℕ) (p : ℕ) (q : ℕ) (bs : List ℕ) (s : Sys2Proof.Machine.State) : Keeps 0x58090000000074c00460000000010600506000003c920110ec03fe8200090008000004100700000000002f8486e1b s (cmdForwarded w p q bs s) := by
  unfold cmdForwarded
  repeat' first
    | with_reducible exact Keeps.refl _ _
    | with_reducible apply Keeps.ite
    | (with_reducible apply Keeps.next (State.incWrap_keeps ..)); decide +kernel
    | (with_reducible apply Keeps.next (startCmd_keeps ..)); decide +kernel
    | with_reducible apply Keeps.foldl
    | (intro _; beta_reduce)
    | split
    | dsimp only

theorem drainCore_keeps (w f u p : Nat) (c : Core) (xs : List CbEntry) (s : State) : Keeps 0x80000 s (drainCore w f u p c xs s).1 := by
  induction xs generalizing s with
  | nil => exact Keeps.refl _ _
  | cons x xs ih =>
    cases x <;> simp only [drainCore]
    · split
      · exact Keeps.refl _ _
      · exact Keeps.next (ih _) (sub_refl _) (Keeps.widen (sendMsg_keeps ..) (by decide +kernel))
    · split
      · exact Keeps.refl _ _
      · exact Keeps.next (ih _) (sub_refl _) (Keeps.widen (sendMsg_keeps ..) (by decide +kernel))
    · exact Keeps.next (ih _) (sub_refl _) (Keeps.next (enqueue_keeps ..) (by decide +kernel) (Keeps.widen (State.putInjects_keeps ..) (by decide +kernel)))
    · exact Keeps.next (ih _) (sub_refl _) (Keeps.widen (sendMgmt_keeps ..) (by decide +kernel))

theorem commitPart_keeps (w : ℕ) (p : ℕ) (c : Sys2Proof.Machine.Cmd) (time : ℕ) (s : Sys2Proof.Machine.State) : Keeps 0x50090000000074c0046000000001660050600800309a00d04c03fe8200090008000004000700000000003f8086e1b s (commitPart w p c time s) := by
  unfold commitPart
  repeat' first
    | with_reducible exact Keeps.refl _ _
    | with_reducible apply forEach_keeps
    | with_reducible apply Keeps.ite
    | (with_reducible apply Keeps.next (State.incWrap_keeps ..)); decide +kernel
    | (with_reducible apply Keeps.next (State.modCore_keeps ..)); decide +kernel
    | (with_reducible apply Keeps.next (drainCore_keeps ..)); decide +kernel
    | (with_reducible apply Keeps.next (spadUncorrectable_keeps ..)); decide +kernel
    | (with_reducible apply Keeps.next (partFault_keeps ..)); decide +kernel
    | (with_reducible apply Keeps.next (State.modPart_keeps ..)); decide +kernel
    | with_reducible apply Keeps.foldl
    | (intro _; beta_reduce)
    | split
    | dsimp only

theorem barrierCount_keeps (w : ℕ) (p : ℕ) (last : ℕ) (lead : Bool) (s : Sys2Proof.Machine.State) : Keeps 0x680000000000000000000000000000000000000000000000000000000000000000 s (barrierCount w p last lead s) := by
  unfold barrierCount
  repeat' first
    | with_reducible exact Keeps.refl _ _
    | with_reducible apply Keeps.ite
    | (with_reducible apply Keeps.next (State.incWrap_keeps ..)); decide +kernel
    | with_reducible apply Keeps.foldl
    | (intro _; beta_reduce)
    | split
    | dsimp only

theorem markBad_keeps (w : ℕ) (p : ℕ) (bad : Option (ℕ × ℕ × ℕ)) (s : Sys2Proof.Machine.State) : Keeps 0x400000000000000000000200 s (markBad w p bad s) := by
  unfold markBad
  repeat' first
    | with_reducible exact Keeps.refl _ _
    | with_reducible apply Keeps.ite
    | (with_reducible apply Keeps.next (State.modCore_keeps ..)); decide +kernel
    | with_reducible apply Keeps.foldl
    | (intro _; beta_reduce)
    | split
    | dsimp only

theorem commitInstant_keeps (w : ℕ) (p : ℕ) (bad : Option (ℕ × ℕ × ℕ)) (s : Sys2Proof.Machine.State) : Keeps 0x50090000000074c0046000000007e60050600800309a00d04c03fe8200090008000004000700000000003f8086e1b s (commitInstant w p bad s) := by
  unfold commitInstant
  repeat' first
    | with_reducible exact Keeps.refl _ _
    | with_reducible apply forEach_keeps
    | with_reducible apply Keeps.ite
    | (with_reducible apply Keeps.next (commitPart_keeps ..)); decide +kernel
    | (with_reducible apply Keeps.next (markBad_keeps ..)); decide +kernel
    | (with_reducible apply Keeps.next (State.modPart_keeps ..)); decide +kernel
    | (with_reducible apply Keeps.next (barrierCount_keeps ..)); decide +kernel
    | (with_reducible apply Keeps.next (sendPeer_keeps ..)); decide +kernel
    | with_reducible apply Keeps.foldl
    | (intro _; beta_reduce)
    | split
    | dsimp only

theorem idleReport_keeps (w : ℕ) (p : ℕ) (q : ℕ) (seq : ℕ) (src : ℕ) (s : Sys2Proof.Machine.State) : Keeps 0x400 s (idleReport w p q seq src s) := by
  unfold idleReport
  repeat' first
    | with_reducible exact Keeps.refl _ _
    | with_reducible apply Keeps.ite
    | (with_reducible apply Keeps.next (State.modPart_keeps ..)); decide +kernel
    | with_reducible apply Keeps.foldl
    | (intro _; beta_reduce)
    | split
    | dsimp only

theorem cmdEnd_keeps (w : ℕ) (p : ℕ) (q : ℕ) (seq : ℕ) (status : ℕ) (s : Sys2Proof.Machine.State) : Keeps 0x50090000000074c0046000000007e60050600800309a00d04c03fe8200090008000004000700000000003f8086e1b s (cmdEnd w p q seq status s) := by
  unfold cmdEnd
  repeat' first
    | with_reducible exact Keeps.refl _ _
    | with_reducible apply Keeps.ite
    | (with_reducible apply Keeps.next (commitPart_keeps ..)); decide +kernel
    | (with_reducible apply Keeps.next (failLocal_keeps ..)); decide +kernel
    | (with_reducible apply Keeps.next (barrierCount_keeps ..)); decide +kernel
    | with_reducible apply Keeps.foldl
    | (intro _; beta_reduce)
    | split
    | dsimp only

theorem sendDone_keeps (w : ℕ) (p : ℕ) (s : Sys2Proof.Machine.State) : Keeps 0x14c004600000000000000000000000000018400000020009000800000000000000000000018080013 s (sendDone w p s) := by
  unfold sendDone
  repeat' first
    | with_reducible exact Keeps.refl _ _
    | with_reducible apply forEach_keeps
    | with_reducible apply Keeps.ite
    | (with_reducible apply Keeps.next (ringWrite_keeps ..)); decide +kernel
    | (with_reducible apply Keeps.next (seRead_keeps ..)); decide +kernel
    | (with_reducible apply Keeps.next (sendPeer_keeps ..)); decide +kernel
    | with_reducible apply Keeps.foldl
    | (intro _; beta_reduce)
    | split
    | dsimp only

theorem completeCores_keeps (w : ℕ) (p : ℕ) (s : Sys2Proof.Machine.State) : Keeps 0x500900000000000000000000000106005060000000800000000000000000000000000400000000000000260002200 s (completeCores w p s) := by
  unfold completeCores
  repeat' first
    | with_reducible exact Keeps.refl _ _
    | with_reducible apply Keeps.ite
    | (with_reducible apply Keeps.next (endCores_keeps ..)); decide +kernel
    | with_reducible apply Keeps.foldl
    | (intro _; beta_reduce)
    | split
    | dsimp only

theorem resetStreams_keeps (w : ℕ) (p : ℕ) (s : Sys2Proof.Machine.State) : Keeps 0xc000 s (resetStreams w p s) := by
  unfold resetStreams
  repeat' first
    | with_reducible exact Keeps.refl _ _
    | with_reducible apply Keeps.ite
    | (with_reducible apply Keeps.next (resetSends_keeps ..)); decide +kernel
    | (with_reducible apply Keeps.next (resetRecvs_keeps ..)); decide +kernel
    | with_reducible apply Keeps.foldl
    | (intro _; beta_reduce)
    | split
    | dsimp only

theorem resetPart_keeps (w : ℕ) (p : ℕ) (s : Sys2Proof.Machine.State) : Keeps 0x5c00000008000000000000000000040000000000000000008c600 s (resetPart w p s) := by
  unfold resetPart
  repeat' first
    | with_reducible exact Keeps.refl _ _
    | with_reducible apply forEach_keeps
    | with_reducible apply Keeps.ite
    | (with_reducible apply Keeps.next (State.setReg_keeps ..)); decide +kernel
    | (with_reducible apply Keeps.next (withdrawQueued_keeps ..)); decide +kernel
    | (with_reducible apply Keeps.next (State.setCore_keeps ..)); decide +kernel
    | (with_reducible apply Keeps.next (State.wr_keeps ..)); decide +kernel
    | (with_reducible apply Keeps.next (resetStreams_keeps ..)); decide +kernel
    | (with_reducible apply Keeps.next (State.modPart_keeps ..)); decide +kernel
    | with_reducible apply Keeps.foldl
    | (intro _; beta_reduce)
    | split
    | dsimp only

theorem commandComplete_keeps (w : ℕ) (p : ℕ) (s : Sys2Proof.Machine.State) : Keeps 0x50090000000034c00460000000010600506078007c92001848000002000900080000040000000000000027808ee13 s (commandComplete w p s) := by
  unfold commandComplete
  repeat' first
    | with_reducible exact Keeps.refl _ _
    | with_reducible apply Keeps.ite
    | (with_reducible apply Keeps.next (drainEnded_keeps ..)); decide +kernel
    | (with_reducible apply Keeps.next (consumeLeases_keeps ..)); decide +kernel
    | (with_reducible apply Keeps.next (completeCores_keeps ..)); decide +kernel
    | (with_reducible apply Keeps.next (resetPart_keeps ..)); decide +kernel
    | (with_reducible apply Keeps.next (sendDone_keeps ..)); decide +kernel
    | (with_reducible apply Keeps.next (donated_keeps ..)); decide +kernel
    | (with_reducible apply Keeps.next (State.modPart_keeps ..)); decide +kernel
    | (with_reducible apply Keeps.next (finishCmd_keeps ..)); decide +kernel
    | with_reducible apply Keeps.foldl
    | (intro _; beta_reduce)
    | split
    | dsimp only

theorem seSync_keeps (w : ℕ) (p : ℕ) (s : Sys2Proof.Machine.State) : Keeps 0x11000000000000000000000000000000000000000000000000000000 s (seSync w p s) := by
  unfold seSync
  repeat' first
    | with_reducible exact Keeps.refl _ _
    | with_reducible apply forEach_keeps
    | with_reducible apply Keeps.ite
    | (with_reducible apply Keeps.next (State.setReg_keeps ..)); decide +kernel
    | (with_reducible apply Keeps.next (State.wr_keeps ..)); decide +kernel
    | with_reducible apply Keeps.foldl
    | (intro _; beta_reduce)
    | split
    | dsimp only

theorem slotRefused_keeps (w : ℕ) (p : ℕ) (s : Sys2Proof.Machine.State) : Keeps 0x8000000000000000000000000000000000000000000000000000000 s (slotRefused w p s) := by
  unfold slotRefused
  repeat' first
    | with_reducible exact Keeps.refl _ _
    | with_reducible apply Keeps.ite
    | (with_reducible apply Keeps.next (State.bump_keeps ..)); decide +kernel
    | with_reducible apply Keeps.foldl
    | (intro _; beta_reduce)
    | split
    | dsimp only

theorem slotJoin_keeps (w : ℕ) (p : ℕ) (n : ℕ) (s : Sys2Proof.Machine.State) : Keeps 0x19000000000000000000000000000000000000000000000000001000 s (slotJoin w p n s) := by
  unfold slotJoin
  repeat' first
    | with_reducible exact Keeps.refl _ _
    | with_reducible apply Keeps.ite
    | (with_reducible apply Keeps.next (State.putSeSlots_keeps ..)); decide +kernel
    | (with_reducible apply Keeps.next (slotRefused_keeps ..)); decide +kernel
    | (with_reducible apply Keeps.next (seSync_keeps ..)); decide +kernel
    | with_reducible apply Keeps.foldl
    | (intro _; beta_reduce)
    | split
    | dsimp only

theorem slotLeave_keeps (w : ℕ) (p : ℕ) (n : ℕ) (s : Sys2Proof.Machine.State) : Keeps 0x19000000000000000000000000000000000000000000000000001000 s (slotLeave w p n s) := by
  unfold slotLeave
  repeat' first
    | with_reducible exact Keeps.refl _ _
    | with_reducible apply Keeps.ite
    | (with_reducible apply Keeps.next (State.putSeSlots_keeps ..)); decide +kernel
    | (with_reducible apply Keeps.next (slotRefused_keeps ..)); decide +kernel
    | (with_reducible apply Keeps.next (seSync_keeps ..)); decide +kernel
    | with_reducible apply Keeps.foldl
    | (intro _; beta_reduce)
    | split
    | dsimp only

theorem applyDone_keeps (w : ℕ) (p : ℕ) (s : Sys2Proof.Machine.State) : Keeps 0x34c004600000000000000000000000000018400000020009000800000000000000000000018001013 s (applyDone w p s) := by
  unfold applyDone
  repeat' first
    | with_reducible exact Keeps.refl _ _
    | with_reducible apply forEach_keeps
    | with_reducible apply Keeps.ite
    | (with_reducible apply Keeps.next (State.raiseP_keeps ..)); decide +kernel
    | (with_reducible apply Keeps.next (State.putSeSlots_keeps ..)); decide +kernel
    | (with_reducible apply Keeps.next (ringWrite_keeps ..)); decide +kernel
    | (with_reducible apply Keeps.next (seRead_keeps ..)); decide +kernel
    | with_reducible apply Keeps.foldl
    | (intro _; beta_reduce)
    | split
    | dsimp only

theorem admitSlots_keeps (w : ℕ) (p : ℕ) (s : Sys2Proof.Machine.State) : Keeps 0x1000 s (admitSlots w p s) := by
  unfold admitSlots
  repeat' first
    | with_reducible exact Keeps.refl _ _
    | with_reducible apply forEach_keeps
    | with_reducible apply Keeps.ite
    | (with_reducible apply Keeps.next (State.putSeSlots_keeps ..)); decide +kernel
    | with_reducible apply Keeps.foldl
    | (intro _; beta_reduce)
    | split
    | dsimp only

theorem writeBatch_keeps (w : ℕ) (p : ℕ) (s : Sys2Proof.Machine.State) : Keeps 0x14c004600000000000000000000000000010400000020009000800000000000000000000018081413 s (writeBatch w p s) := by
  unfold writeBatch
  repeat' first
    | with_reducible exact Keeps.refl _ _
    | with_reducible apply forEach_keeps
    | with_reducible apply Keeps.ite
    | (with_reducible apply Keeps.next (State.putSeSlots_keeps ..)); decide +kernel
    | (with_reducible apply Keeps.next (ringWrite_keeps ..)); decide +kernel
    | (with_reducible apply Keeps.next (State.modPart_keeps ..)); decide +kernel
    | (with_reducible apply Keeps.next (sendPeer_keeps ..)); decide +kernel
    | with_reducible apply Keeps.foldl
    | (intro _; beta_reduce)
    | split
    | dsimp only

theorem boundarySlots_keeps (w : ℕ) (p : ℕ) (s : Sys2Proof.Machine.State) : Keeps 0x34c004600000000000000000011000000018400000020009000800000000000000000000018001413 s (boundarySlots w p s) := by
  unfold boundarySlots
  repeat' first
    | with_reducible exact Keeps.refl _ _
    | with_reducible apply Keeps.ite
    | (with_reducible apply Keeps.next (applyDone_keeps ..)); decide +kernel
    | (with_reducible apply Keeps.next (State.modPart_keeps ..)); decide +kernel
    | (with_reducible apply Keeps.next (admitSlots_keeps ..)); decide +kernel
    | (with_reducible apply Keeps.next (seSync_keeps ..)); decide +kernel
    | with_reducible apply Keeps.foldl
    | (intro _; beta_reduce)
    | split
    | dsimp only

theorem batchForwarded_keeps (w : ℕ) (p : ℕ) (off : ℕ) (bs : List ℕ) (s : Sys2Proof.Machine.State) : Keeps 0x14c004600000000000000000000000000010400000020009000800000000000000000000018000413 s (batchForwarded w p off bs s) := by
  unfold batchForwarded
  repeat' first
    | with_reducible exact Keeps.refl _ _
    | with_reducible apply Keeps.ite
    | (with_reducible apply Keeps.next (ringWrite_keeps ..)); decide +kernel
    | (with_reducible apply Keeps.next (State.modPart_keeps ..)); decide +kernel
    | with_reducible apply Keeps.foldl
    | (intro _; beta_reduce)
    | split
    | dsimp only

theorem doneBits_keeps (w : ℕ) (p : ℕ) (src : ℕ) (off : ℕ) (bs : List ℕ) (s : Sys2Proof.Machine.State) : Keeps 0x14c004600000000000000000000000000018400000020009000800000000000000000000018000413 s (doneBits w p src off bs s) := by
  unfold doneBits
  repeat' first
    | with_reducible exact Keeps.refl _ _
    | with_reducible apply Keeps.ite
    | (with_reducible apply Keeps.next (ringWrite_keeps ..)); decide +kernel
    | (with_reducible apply Keeps.next (State.modPart_keeps ..)); decide +kernel
    | (with_reducible apply Keeps.next (seRead_keeps ..)); decide +kernel
    | with_reducible apply Keeps.foldl
    | (intro _; beta_reduce)
    | split
    | dsimp only

theorem faultForwarded_keeps (w : ℕ) (p : ℕ) (cause : ℕ) (s : Sys2Proof.Machine.State) : Keeps 0x50090000000034c0046000000001060050600800309a0010400000020009000800000400000000000000278086e13 s (faultForwarded w p cause s) := by
  unfold faultForwarded
  repeat' first
    | with_reducible exact Keeps.refl _ _
    | with_reducible apply forEach_keeps
    | with_reducible apply Keeps.ite
    | (with_reducible apply Keeps.next (faultOne_keeps ..)); decide +kernel
    | (with_reducible apply Keeps.next (sendPeer_keeps ..)); decide +kernel
    | with_reducible apply Keeps.foldl
    | (intro _; beta_reduce)
    | split
    | dsimp only

theorem resetSeq_keeps (w : ℕ) (p : ℕ) (q : ℕ) (s : Sys2Proof.Machine.State) : Keeps 0x20000000000000000000000000000000000000000000000000800 s (resetSeq w p q s) := by
  unfold resetSeq
  repeat' first
    | with_reducible exact Keeps.refl _ _
    | with_reducible apply Keeps.ite
    | (with_reducible apply Keeps.next (State.setReg_keeps ..)); decide +kernel
    | (with_reducible apply Keeps.next (State.putResults_keeps ..)); decide +kernel
    | with_reducible apply Keeps.foldl
    | (intro _; beta_reduce)
    | split
    | dsimp only

theorem curtainDrop_keeps (w : ℕ) (p : ℕ) (s : Sys2Proof.Machine.State) : Keeps 0x50090000000000000000000000010600506048005c8a000008000000000000000000040000000000000026008e600 s (curtainDrop w p s) := by
  unfold curtainDrop
  repeat' first
    | with_reducible exact Keeps.refl _ _
    | with_reducible apply forEach_keeps
    | with_reducible apply Keeps.ite
    | (with_reducible apply Keeps.next (resetPart_keeps ..)); decide +kernel
    | (with_reducible apply Keeps.next (State.wr_keeps ..)); decide +kernel
    | (with_reducible apply Keeps.next (abortPreempt_keeps ..)); decide +kernel
    | (with_reducible apply Keeps.next (discardCmd_keeps ..)); decide +kernel
    | (with_reducible apply Keeps.next (sendPeer_keeps ..)); decide +kernel
    | (with_reducible apply Keeps.next (State.setPartState_keeps ..)); decide +kernel
    | with_reducible apply Keeps.foldl
    | (intro _; beta_reduce)
    | split
    | dsimp only

theorem quarterZeroed_keeps (w : ℕ) (q : ℕ) (s : Sys2Proof.Machine.State) : Keeps 0x80000000000000000000000000000000000000000401 s (quarterZeroed w q s) := by
  unfold quarterZeroed
  repeat' first
    | with_reducible exact Keeps.refl _ _
    | with_reducible apply Keeps.ite
    | (with_reducible apply Keeps.next (zeroLoft_keeps ..)); decide +kernel
    | (with_reducible apply Keeps.next (State.wr_keeps ..)); decide +kernel
    | (with_reducible apply Keeps.next (State.modPart_keeps ..)); decide +kernel
    | with_reducible apply Keeps.foldl
    | (intro _; beta_reduce)
    | split
    | dsimp only

theorem curtainDone_keeps (w : ℕ) (p : ℕ) (s : Sys2Proof.Machine.State) : Keeps 0x34c004600000000000000000011000020000000000000000000000000000000000000000000001410 s (curtainDone w p s) := by
  unfold curtainDone
  repeat' first
    | with_reducible exact Keeps.refl _ _
    | with_reducible apply forEach_keeps
    | with_reducible apply Keeps.ite
    | (with_reducible apply Keeps.next (State.raiseP_keeps ..)); decide +kernel
    | (with_reducible apply Keeps.next (State.putSeSlots_keeps ..)); decide +kernel
    | (with_reducible apply Keeps.next (State.modPart_keeps ..)); decide +kernel
    | (with_reducible apply Keeps.next (State.setPartState_keeps ..)); decide +kernel
    | (with_reducible apply Keeps.next (seSync_keeps ..)); decide +kernel
    | with_reducible apply Keeps.foldl
    | (intro _; beta_reduce)
    | split
    | dsimp only

end Sys2Proof.Machine
end

