-- ==== Sys2Proof/Laws/KeepsImages.lean ====
section
/-!
SUPPORT. What each operation of Machine/Images.lean may change.
-/
namespace Sys2Proof.Machine
set_option linter.unusedTactic false
set_option linter.unreachableTactic false
set_option Elab.async false

theorem imageStart_keeps (w : ℕ) (path : ℕ) (s : Sys2Proof.Machine.State) : Keeps 0x200014c004600001000006004000000000000000000000000005000000000000000000000006222000010 s (imageStart w path s) := by
  unfold imageStart
  repeat' first
    | with_reducible exact Keeps.refl _ _
    | with_reducible apply Keeps.ite
    | (with_reducible apply Keeps.next (State.wr_keeps ..)); decide +kernel
    | (with_reducible apply Keeps.next (State.raise_keeps ..)); decide +kernel
    | (with_reducible apply Keeps.next (State.setReg_keeps ..)); decide +kernel
    | (with_reducible apply Keeps.next (State.putLoads_keeps ..)); decide +kernel
    | (with_reducible apply Keeps.next (ghostExit_keeps ..)); decide +kernel
    | with_reducible apply Keeps.foldl
    | (intro _; beta_reduce)
    | split
    | dsimp only

theorem failLoad_keeps (w : ℕ) (e : Sys2Proof.Machine.ImgErr) (s : Sys2Proof.Machine.State) : Keeps 0x14c00460000000000000000000000000000000000002000d000800000000000000000000018000012 s (failLoad w e s) := by
  unfold failLoad
  repeat' first
    | with_reducible exact Keeps.refl _ _
    | with_reducible apply Keeps.ite
    | (with_reducible apply Keeps.next (State.wr_keeps ..)); decide +kernel
    | (with_reducible apply Keeps.next (imgFail_keeps ..)); decide +kernel
    | (with_reducible apply Keeps.next (State.setReg_keeps ..)); decide +kernel
    | with_reducible apply Keeps.foldl
    | (intro _; beta_reduce)
    | split
    | dsimp only

theorem showDigest_keeps (w : ℕ) (img : List ℕ) (s : Sys2Proof.Machine.State) : Keeps 0x30000000000000000000000000000000000 s (showDigest w img s) := by
  unfold showDigest
  repeat' first
    | with_reducible exact Keeps.refl _ _
    | with_reducible apply forEach_keeps
    | with_reducible apply Keeps.ite
    | (with_reducible apply Keeps.next (State.setReg_keeps ..)); decide +kernel
    | with_reducible apply Keeps.foldl
    | (intro _; beta_reduce)
    | split
    | dsimp only

theorem imageCheck_keeps (w : ℕ) (bad : Option ℕ) (s0 : Sys2Proof.Machine.State) : Keeps 0x54c004600000000000001020000000000008ac03fe82003f0008000000000700000000000da40001b s0 (imageCheck w bad s0) := by
  unfold imageCheck
  repeat' first
    | with_reducible exact Keeps.refl _ _
    | with_reducible apply Keeps.ite
    | (with_reducible apply Keeps.next (State.wr_keeps ..)); decide +kernel
    | (with_reducible apply Keeps.next (loftCountRead_keeps ..)); decide +kernel
    | (with_reducible apply Keeps.next (failLoad_keeps ..)); decide +kernel
    | (with_reducible apply Keeps.next (showDigest_keeps ..)); decide +kernel
    | (with_reducible apply Keeps.next (State.putLoads_keeps ..)); decide +kernel
    | (with_reducible apply Keeps.next (State.modCueUnits_keeps ..)); decide +kernel
    | (with_reducible apply Keeps.next (loftUncorrectable_keeps ..)); decide +kernel
    | with_reducible apply Keeps.foldl
    | (intro _; beta_reduce)
    | split
    | dsimp only

theorem emptyChart_keeps (w : ℕ) (p : ℕ) (s : Sys2Proof.Machine.State) : Keeps 0x2 s (emptyChart w p s) := by
  unfold emptyChart
  repeat' first
    | with_reducible exact Keeps.refl _ _
    | with_reducible apply forEach_keeps
    | with_reducible apply Keeps.ite
    | (with_reducible apply Keeps.next (State.setWreg_keeps ..)); (first | decide +kernel | exact sub_right _ _ | exact sub_refl _ | exact sub_left (by decide +kernel) | exact regBit_sub (by decide +kernel) _ | exact sub_or (by decide +kernel) (regBit_sub (by decide +kernel) _))
    | with_reducible apply Keeps.foldl
    | (intro _; beta_reduce)
    | split
    | dsimp only

theorem stageChart_keeps (w : ℕ) (c : Sys2Proof.Machine.ImgChart) (s : Sys2Proof.Machine.State) : Keeps 0x2 s (stageChart w c s) := by
  unfold stageChart
  repeat' first
    | with_reducible exact Keeps.refl _ _
    | with_reducible apply forEach_keeps
    | with_reducible apply Keeps.ite
    | (with_reducible apply Keeps.next (State.setWreg_keeps ..)); decide +kernel
    | with_reducible apply Keeps.foldl
    | (intro _; beta_reduce)
    | split
    | dsimp only

theorem stagePrograms_keeps (w : ℕ) (pl : List Sys2Proof.Machine.Placement) (pg : List Sys2Proof.Machine.ImgProg) (f : ℕ) (s : Sys2Proof.Machine.State) : Keeps 0x1000002 s (stagePrograms w pl pg f s) := by
  unfold stagePrograms
  repeat' first
    | with_reducible exact Keeps.refl _ _
    | with_reducible apply Keeps.ite
    | (with_reducible apply Keeps.next (State.setWreg_keeps ..)); decide +kernel
    | (with_reducible apply Keeps.next (State.putShadows_keeps ..)); decide +kernel
    | with_reducible apply Keeps.foldl
    | (intro _; beta_reduce)
    | split
    | dsimp only

theorem writeConst_keeps (w : ℕ) (img : List ℕ) (b : Sys2Proof.Machine.ImgBlock) (s : Sys2Proof.Machine.State) : Keeps 0x14c004600000000000000000000000000010400000020009000800000000000000000000018000013 s (writeConst w img b s) := by
  unfold writeConst
  repeat' first
    | with_reducible exact Keeps.refl _ _
    | with_reducible apply forEach_keeps
    | with_reducible apply Keeps.ite
    | (with_reducible apply Keeps.next (loftWrite_keeps ..)); decide +kernel
    | with_reducible apply Keeps.foldl
    | (intro _; beta_reduce)
    | split
    | dsimp only

theorem expand_keeps (w : ℕ) (l : Sys2Proof.Machine.Load) (img : List ℕ) (s : Sys2Proof.Machine.State) : Keeps 0x14c004600000000000000000000000000010400000020009000800000000000000000000019000013 s (expand w l img s) := by
  unfold expand
  repeat' first
    | with_reducible exact Keeps.refl _ _
    | with_reducible apply forEach_keeps
    | with_reducible apply Keeps.ite
    | (with_reducible apply Keeps.next (stageChart_keeps ..)); (first | decide +kernel | exact sub_right _ _ | exact sub_refl _ | exact sub_left (by decide +kernel) | exact regBit_sub (by decide +kernel) _ | exact sub_or (by decide +kernel) (regBit_sub (by decide +kernel) _))
    | (with_reducible apply Keeps.next (State.setWreg_keeps ..)); (first | decide +kernel | exact sub_right _ _ | exact sub_refl _ | exact sub_left (by decide +kernel) | exact regBit_sub (by decide +kernel) _ | exact sub_or (by decide +kernel) (regBit_sub (by decide +kernel) _))
    | (with_reducible apply Keeps.next (stagePrograms_keeps ..)); (first | decide +kernel | exact sub_right _ _ | exact sub_refl _ | exact sub_left (by decide +kernel) | exact regBit_sub (by decide +kernel) _ | exact sub_or (by decide +kernel) (regBit_sub (by decide +kernel) _))
    | (with_reducible apply Keeps.next (emptyChart_keeps ..)); (first | decide +kernel | exact sub_right _ _ | exact sub_refl _ | exact sub_left (by decide +kernel) | exact regBit_sub (by decide +kernel) _ | exact sub_or (by decide +kernel) (regBit_sub (by decide +kernel) _))
    | (with_reducible apply Keeps.next (writeConst_keeps ..)); (first | decide +kernel | exact sub_right _ _ | exact sub_refl _ | exact sub_left (by decide +kernel) | exact regBit_sub (by decide +kernel) _ | exact sub_or (by decide +kernel) (regBit_sub (by decide +kernel) _))
    | with_reducible apply Keeps.foldl
    | (intro _; beta_reduce)
    | split
    | dsimp only

theorem noteDigest_keeps (w : ℕ) (l : Sys2Proof.Machine.Load) (s : Sys2Proof.Machine.State) : Keeps 0x10000000 s (noteDigest w l s) := by
  unfold noteDigest
  repeat' first
    | with_reducible exact Keeps.refl _ _
    | with_reducible apply Keeps.ite
    | (with_reducible apply Keeps.next (State.modCueUnits_keeps ..)); decide +kernel
    | with_reducible apply Keeps.foldl
    | (intro _; beta_reduce)
    | split
    | dsimp only

theorem loadDone_keeps (w : ℕ) (s : Sys2Proof.Machine.State) : Keeps 0x14c004600000000000000000000000000000000000020009000800000000000000000000018000010 s (loadDone w s) := by
  unfold loadDone
  repeat' first
    | with_reducible exact Keeps.refl _ _
    | with_reducible apply Keeps.ite
    | (with_reducible apply Keeps.next (leaveWaiting_keeps ..)); decide +kernel
    | (with_reducible apply Keeps.next (State.wr_keeps ..)); decide +kernel
    | (with_reducible apply Keeps.next (State.raise_keeps ..)); decide +kernel
    | (with_reducible apply Keeps.next (noteDigest_keeps ..)); decide +kernel
    | (with_reducible apply Keeps.next (State.wrSat_keeps ..)); decide +kernel
    | (with_reducible apply Keeps.next (State.modCueUnits_keeps ..)); decide +kernel
    | with_reducible apply Keeps.foldl
    | (intro _; beta_reduce)
    | split
    | dsimp only

theorem endPush_keeps (w : ℕ) (failed : ℕ) (s : Sys2Proof.Machine.State) : Keeps 0x14c004600000000000000000000000000000000000000600000000000000000000000000004000010 s (endPush w failed s) := by
  unfold endPush
  repeat' first
    | with_reducible exact Keeps.refl _ _
    | with_reducible apply Keeps.ite
    | (with_reducible apply Keeps.next (State.raise_keeps ..)); decide +kernel
    | (with_reducible apply Keeps.next (State.putPushes_keeps ..)); decide +kernel
    | (with_reducible apply Keeps.next (State.setReg_keeps ..)); decide +kernel
    | (with_reducible apply Keeps.next (State.wr_keeps ..)); decide +kernel
    | with_reducible apply Keeps.foldl
    | (intro _; beta_reduce)
    | split
    | dsimp only

theorem withdrawPush_keeps (w : ℕ) (s : Sys2Proof.Machine.State) : Keeps 0x80000 s (withdrawPush w s) := by
  unfold withdrawPush
  repeat' first
    | with_reducible exact Keeps.refl _ _
    | with_reducible apply Keeps.ite
    | (with_reducible apply Keeps.next (State.putInjects_keeps ..)); decide +kernel
    | with_reducible apply Keeps.foldl
    | (intro _; beta_reduce)
    | split
    | dsimp only

theorem pushStart_keeps (w : ℕ) (bad : Option ℕ) (s : Sys2Proof.Machine.State) : Keeps 0x200054c004600001000006005020000000000008ac03fe8006000000000000000700000000062e4480019 s (pushStart w bad s) := by
  unfold pushStart
  repeat' first
    | with_reducible exact Keeps.refl _ _
    | with_reducible apply forEach_keeps
    | with_reducible apply Keeps.ite
    | (with_reducible apply Keeps.next (loftCountRead_keeps ..)); decide +kernel
    | (with_reducible apply Keeps.next (enqueue_keeps ..)); decide +kernel
    | (with_reducible apply Keeps.next (State.putPushes_keeps ..)); decide +kernel
    | (with_reducible apply Keeps.next (ghostExit_keeps ..)); decide +kernel
    | (with_reducible apply Keeps.next (State.wr_keeps ..)); decide +kernel
    | (with_reducible apply Keeps.next (State.setReg_keeps ..)); decide +kernel
    | (with_reducible apply Keeps.next (endPush_keeps ..)); decide +kernel
    | (with_reducible apply Keeps.next (loftUncorrectable_keeps ..)); decide +kernel
    | with_reducible apply Keeps.foldl
    | (intro _; beta_reduce)
    | split
    | dsimp only

theorem pushAbort_keeps (w : ℕ) (s : Sys2Proof.Machine.State) : Keeps 0x14c004600000000000000000000000000000000000000600000000000000000000000000004080010 s (pushAbort w s) := by
  unfold pushAbort
  repeat' first
    | with_reducible exact Keeps.refl _ _
    | with_reducible apply Keeps.ite
    | (with_reducible apply Keeps.next (withdrawPush_keeps ..)); decide +kernel
    | (with_reducible apply Keeps.next (endPush_keeps ..)); decide +kernel
    | with_reducible apply Keeps.foldl
    | (intro _; beta_reduce)
    | split
    | dsimp only

theorem pushDone_keeps (w : ℕ) (s : Sys2Proof.Machine.State) : Keeps 0x14c004600000000000000000000000000000000000000600000000000000000000000000004000010 s (pushDone w s) := by
  unfold pushDone
  repeat' first
    | with_reducible exact Keeps.refl _ _
    | with_reducible apply Keeps.ite
    | (with_reducible apply Keeps.next (endPush_keeps ..)); decide +kernel
    | with_reducible apply Keeps.foldl
    | (intro _; beta_reduce)
    | split
    | dsimp only

end Sys2Proof.Machine
end

