-- ==== Sys2Proof/Laws/KeepsPower.lean ====
section
/-!
SUPPORT. What each operation of Machine/Power.lean may change.
-/
namespace Sys2Proof.Machine
set_option linter.unusedTactic false
set_option linter.unreachableTactic false
set_option Elab.async false

theorem refuseReq_keeps (w : ℕ) (d : ℕ) (req : ℕ) (reason : ℕ) (s : Sys2Proof.Machine.State) : Keeps 0x14c004600000000000000010000000000000000000000000000000000000000000000000000000010 s (refuseReq w d req reason s) := by
  unfold refuseReq
  repeat' first
    | with_reducible exact Keeps.refl _ _
    | with_reducible apply Keeps.ite
    | (with_reducible apply Keeps.next (State.raise_keeps ..)); decide +kernel
    | (with_reducible apply Keeps.next (State.wr_keeps ..)); decide +kernel
    | with_reducible apply Keeps.foldl
    | (intro _; beta_reduce)
    | split
    | dsimp only

theorem clearSpine_keeps (w : ℕ) (f : ℕ) (s : Sys2Proof.Machine.State) : Keeps 0x1cc000 s (clearSpine w f s) := by
  unfold clearSpine
  repeat' first
    | with_reducible exact Keeps.refl _ _
    | with_reducible apply Keeps.ite
    | (with_reducible apply Keeps.next (State.withFabricCredits_keeps _ _ (fun h => mwf_filter _ _ _ h))); decide +kernel
    | (with_reducible apply Keeps.next (State.withFabricCredits_keeps _ _ (fun h => mwf_mmap _ _ _ h))); decide +kernel
    | (with_reducible apply Keeps.next (resetSends_keeps ..)); decide +kernel
    | (with_reducible apply Keeps.next (State.putInjects_keeps ..)); decide +kernel
    | (with_reducible apply Keeps.next (State.withArbs_keeps _ _ (fun h => mwf_filter _ _ _ h))); decide +kernel
    | (with_reducible apply Keeps.next (State.withArbs_keeps _ _ (fun h => mwf_mmap _ _ _ h))); decide +kernel
    | (with_reducible apply Keeps.next (resetRecvs_keeps ..)); decide +kernel
    | with_reducible apply Keeps.foldl
    | (intro _; beta_reduce)
    | split
    | dsimp only

theorem clearTables_keeps (w : ℕ) (f : ℕ) (s : Sys2Proof.Machine.State) : Keeps 0xffffffffffffffffffffffffffffffffffffffffffffffffffffffffffffffffffffffffffffffff0000000000000000 s (clearTables w f s) := by
  unfold clearTables
  repeat' first
    | with_reducible exact Keeps.refl _ _
    | with_reducible apply Keeps.ite
    | (with_reducible apply Keeps.next (State.withRegs_keeps _ _ (fun h => mrises_filter _ _ _ h))); decide +kernel
    | with_reducible apply Keeps.foldl
    | (intro _; beta_reduce)
    | split
    | dsimp only

theorem enterOn_keeps (w : ℕ) (d : ℕ) (s : Sys2Proof.Machine.State) : Keeps 0xffffffffffffffffffffffffffffffffffffffffffffffffffffffffffffffffffffffffffffffff00010002601ec211 s (enterOn w d s) := by
  unfold enterOn
  repeat' first
    | with_reducible exact Keeps.refl _ _
    | with_reducible apply forEach_keeps
    | with_reducible apply Keeps.ite
    | (with_reducible apply Keeps.next (State.modPlanner_keeps ..)); decide +kernel
    | (with_reducible apply Keeps.next (setParkReq_keeps ..)); decide +kernel
    | (with_reducible apply Keeps.next (zeroLoft_keeps ..)); decide +kernel
    | (with_reducible apply Keeps.next (quadIdle_keeps ..)); decide +kernel
    | (with_reducible apply Keeps.next (State.initCore_keeps ..)); decide +kernel
    | (with_reducible apply Keeps.next (clearTables_keeps ..)); decide +kernel
    | (with_reducible apply Keeps.next (startTraining_keeps ..)); decide +kernel
    | (with_reducible apply Keeps.next (clearSpine_keeps ..)); decide +kernel
    | (with_reducible apply Keeps.next (State.wr_keeps ..)); decide +kernel
    | (with_reducible apply Keeps.next (State.setDom_keeps ..)); decide +kernel
    | with_reducible apply Keeps.foldl
    | (intro _; beta_reduce)
    | split
    | dsimp only

theorem leaveDom_keeps (w : ℕ) (d : ℕ) (s : Sys2Proof.Machine.State) : Keeps 0x80000014c004600000000006004040000000000000000000000000000000200000000000000000220020010 s (leaveDom w d s) := by
  unfold leaveDom
  repeat' first
    | with_reducible exact Keeps.refl _ _
    | with_reducible apply Keeps.ite
    | (with_reducible apply Keeps.next (leaveOn_keeps ..)); decide +kernel
    | (with_reducible apply Keeps.next (linkDown_keeps ..)); decide +kernel
    | with_reducible apply Keeps.foldl
    | (intro _; beta_reduce)
    | split
    | dsimp only

theorem loseDom_keeps (w : ℕ) (d : ℕ) (s : Sys2Proof.Machine.State) : Keeps 0x84000000000000000401cc200 s (loseDom w d s) := by
  unfold loseDom
  repeat' first
    | with_reducible exact Keeps.refl _ _
    | with_reducible apply forEach_keeps
    | with_reducible apply Keeps.ite
    | (with_reducible apply Keeps.next (State.setCore_keeps ..)); decide +kernel
    | (with_reducible apply Keeps.next (State.modDoms_keeps ..)); decide +kernel
    | (with_reducible apply Keeps.next (clearSpine_keeps ..)); decide +kernel
    | (with_reducible apply Keeps.next (State.wr_keeps ..)); decide +kernel
    | with_reducible apply Keeps.foldl
    | (intro _; beta_reduce)
    | split
    | dsimp only

theorem startDrain_keeps (w : ℕ) (d : ℕ) (s : Sys2Proof.Machine.State) : Keeps 0x80000014c004600000000006005060000000000000000000000000000000200000000000000000220020010 s (startDrain w d s) := by
  unfold startDrain
  repeat' first
    | with_reducible exact Keeps.refl _ _
    | with_reducible apply Keeps.ite
    | (with_reducible apply Keeps.next (leaveDom_keeps ..)); decide +kernel
    | (with_reducible apply Keeps.next (State.setDom_keeps ..)); decide +kernel
    | with_reducible apply Keeps.foldl
    | (intro _; beta_reduce)
    | split
    | dsimp only

theorem takeDown_keeps (w : ℕ) (d : ℕ) (s : Sys2Proof.Machine.State) : Keeps 0x80000014c004600000000006005060000000000000000000000000000000200000000000000000220020010 s (takeDown w d s) := by
  unfold takeDown
  repeat' first
    | with_reducible exact Keeps.refl _ _
    | with_reducible apply Keeps.ite
    | (with_reducible apply Keeps.next (startDrain_keeps ..)); decide +kernel
    | (with_reducible apply Keeps.next (State.wr_keeps ..)); decide +kernel
    | with_reducible apply Keeps.foldl
    | (intro _; beta_reduce)
    | split
    | dsimp only

theorem spineStep_keeps (w : ℕ) (f : ℕ) (s : Sys2Proof.Machine.State) : Keeps 0x80000014c004600000000006005060000000000000000000000000000000200000000000000000260020010 s (spineStep w f s) := by
  unfold spineStep
  repeat' first
    | with_reducible exact Keeps.refl _ _
    | with_reducible apply forEach_keeps
    | with_reducible apply Keeps.ite
    | (with_reducible apply Keeps.next (State.modDoms_keeps ..)); decide +kernel
    | (with_reducible apply Keeps.next (startDrain_keeps ..)); decide +kernel
    | (with_reducible apply Keeps.next (takeDown_keeps ..)); decide +kernel
    | (with_reducible apply Keeps.next (State.wr_keeps ..)); decide +kernel
    | with_reducible apply Keeps.foldl
    | (intro _; beta_reduce)
    | split
    | dsimp only

theorem spineOff_keeps (w : ℕ) (f : ℕ) (req : ℕ) (s : Sys2Proof.Machine.State) : Keeps 0x80000014c004600000000006005060000000000000000000000000000000200000000000000000260020010 s (spineOff w f req s) := by
  unfold spineOff
  repeat' first
    | with_reducible exact Keeps.refl _ _
    | with_reducible apply Keeps.ite
    | (with_reducible apply Keeps.next (State.modDoms_keeps ..)); decide +kernel
    | (with_reducible apply Keeps.next (State.wr_keeps ..)); decide +kernel
    | (with_reducible apply Keeps.next (spineStep_keeps ..)); decide +kernel
    | with_reducible apply Keeps.foldl
    | (intro _; beta_reduce)
    | split
    | dsimp only

theorem downStep_keeps (w : ℕ) (s : Sys2Proof.Machine.State) : Keeps 0x80000014c004600000000006005060000000000000000000000000000000200000000000000000220020010 s (downStep w s) := by
  unfold downStep
  repeat' first
    | with_reducible exact Keeps.refl _ _
    | with_reducible apply forEach_keeps
    | with_reducible apply Keeps.ite
    | (with_reducible apply Keeps.next (takeDown_keeps ..)); decide +kernel
    | with_reducible apply Keeps.foldl
    | (intro _; beta_reduce)
    | split
    | dsimp only

theorem tryRamp_keeps (w : ℕ) (d : ℕ) (s : Sys2Proof.Machine.State) : Keeps 0x14c004600000000000001030000000000000000000000000000000000000000000000000000000010 s (tryRamp w d s) := by
  unfold tryRamp
  repeat' first
    | with_reducible exact Keeps.refl _ _
    | with_reducible apply Keeps.ite
    | (with_reducible apply Keeps.next (State.wr_keeps ..)); decide +kernel
    | (with_reducible apply Keeps.next (refuseReq_keeps ..)); decide +kernel
    | (with_reducible apply Keeps.next (State.setDom_keeps ..)); decide +kernel
    | with_reducible apply Keeps.foldl
    | (intro _; beta_reduce)
    | split
    | dsimp only

theorem admitWaiting_keeps (w : ℕ) (s : Sys2Proof.Machine.State) : Keeps 0x14c004600000000000001030000000000000000000000000000000000000000000000000000000010 s (admitWaiting w s) := by
  unfold admitWaiting
  repeat' first
    | with_reducible exact Keeps.refl _ _
    | with_reducible apply forEach_keeps
    | with_reducible apply Keeps.ite
    | (with_reducible apply Keeps.next (tryRamp_keeps ..)); decide +kernel
    | with_reducible apply Keeps.foldl
    | (intro _; beta_reduce)
    | split
    | dsimp only

theorem latchReq_keeps (w : ℕ) (d : ℕ) (req : ℕ) (s : Sys2Proof.Machine.State) : Keeps 0x80000014c004600000000006005070000000000000000000000000000000200000000000000000260020010 s (latchReq w d req s) := by
  unfold latchReq
  repeat' first
    | with_reducible exact Keeps.refl _ _
    | with_reducible apply forEach_keeps
    | with_reducible apply Keeps.ite
    | (with_reducible apply Keeps.next (State.modDoms_keeps ..)); decide +kernel
    | (with_reducible apply Keeps.next (startDrain_keeps ..)); decide +kernel
    | (with_reducible apply Keeps.next (spineOff_keeps ..)); decide +kernel
    | (with_reducible apply Keeps.next (State.wr_keeps ..)); decide +kernel
    | (with_reducible apply Keeps.next (tryRamp_keeps ..)); decide +kernel
    | with_reducible apply Keeps.foldl
    | (intro _; beta_reduce)
    | split
    | dsimp only

theorem domRequest_keeps (w : ℕ) (d : ℕ) (req : ℕ) (s : Sys2Proof.Machine.State) : Keeps 0x80000014c004600000000006005070000000000000000000000000000000200000000000000000260020010 s (domRequest w d req s) := by
  unfold domRequest
  repeat' first
    | with_reducible exact Keeps.refl _ _
    | with_reducible apply Keeps.ite
    | (with_reducible apply Keeps.next (refuseReq_keeps ..)); decide +kernel
    | (with_reducible apply Keeps.next (latchReq_keeps ..)); decide +kernel
    | with_reducible apply Keeps.foldl
    | (intro _; beta_reduce)
    | split
    | dsimp only

theorem moveEnd_keeps {w : ℕ} {d : ℕ} {go : Sys2Proof.Machine.State → Sys2Proof.Machine.State} {M : Nat} (hm : 0x14c004600000000000001030000000000000000000000000000000000000000000000000000000010 ||| M = M) (hg : ∀ t, Keeps M t (go t)) {s0 s1 : State} (h : Keeps M s0 s1) : Keeps M s0 (moveEnd w d go s1) := by
  unfold moveEnd
  repeat' first
    | with_reducible exact h
    | with_reducible apply Keeps.next (hg ..) (sub_refl _)
    | with_reducible exact Keeps.refl _ _
    | with_reducible apply Keeps.ite
    | (with_reducible apply Keeps.next (State.wr_keeps ..)); exact sub_trans (by decide +kernel) hm
    | (with_reducible apply Keeps.next (refuseReq_keeps ..)); exact sub_trans (by decide +kernel) hm
    | (with_reducible apply Keeps.next (State.setDom_keeps ..)); exact sub_trans (by decide +kernel) hm
    | with_reducible apply Keeps.foldl
    | (intro _; beta_reduce)
    | split
    | dsimp only

theorem rampDone_keeps (w : ℕ) (d : ℕ) (s : Sys2Proof.Machine.State) : Keeps 0x14c004600000000000001030000000000000000000000000000000000000000000000000000000010 s (rampDone w d s) := by
  unfold rampDone
  repeat' first
    | with_reducible exact Keeps.refl _ _
    | with_reducible apply Keeps.ite
    | (with_reducible apply moveEnd_keeps); decide +kernel; skip
    | (with_reducible apply Keeps.next (admitWaiting_keeps ..)); decide +kernel
    | (with_reducible apply Keeps.next (State.setDom_keeps ..)); decide +kernel
    | with_reducible apply Keeps.foldl
    | (intro _; beta_reduce)
    | split
    | dsimp only

theorem returnChildren_keeps (w : ℕ) (d : ℕ) (s : Sys2Proof.Machine.State) : Keeps 0x80000014c004600000000006005070000000000000000000000000000000200000000000000000260020010 s (returnChildren w d s) := by
  unfold returnChildren
  repeat' first
    | with_reducible exact Keeps.refl _ _
    | with_reducible apply forEach_keeps
    | with_reducible apply Keeps.ite
    | (with_reducible apply Keeps.next (domRequest_keeps ..)); decide +kernel
    | (with_reducible apply Keeps.next (State.modDoms_keeps ..)); decide +kernel
    | with_reducible apply Keeps.foldl
    | (intro _; beta_reduce)
    | split
    | dsimp only

theorem isolDone_keeps (w : ℕ) (d : ℕ) (s : Sys2Proof.Machine.State) : Keeps 0xffffffffffffffffffffffffffffffffffffffffffffffffffffffffffffffffffffffffffffffff00010002601ec211 s (isolDone w d s) := by
  unfold isolDone
  repeat' first
    | with_reducible exact Keeps.refl _ _
    | with_reducible apply Keeps.ite
    | (with_reducible apply Keeps.next (returnChildren_keeps ..)); decide +kernel
    | (with_reducible apply Keeps.next (enterOn_keeps ..)); decide +kernel
    | (with_reducible apply moveEnd_keeps); decide +kernel; skip
    | with_reducible apply Keeps.foldl
    | (intro _; beta_reduce)
    | split
    | dsimp only

theorem reachOff_keeps (w : ℕ) (d : ℕ) (s : Sys2Proof.Machine.State) : Keeps 0x80000014c0046000000000060050600000000000000000000000000000002084000000000000002601ec210 s (reachOff w d s) := by
  unfold reachOff
  repeat' first
    | with_reducible exact Keeps.refl _ _
    | with_reducible apply Keeps.ite
    | (with_reducible apply Keeps.next (State.modDoms_keeps ..)); decide +kernel
    | (with_reducible apply Keeps.next (spineStep_keeps ..)); decide +kernel
    | (with_reducible apply Keeps.next (State.wr_keeps ..)); decide +kernel
    | (with_reducible apply Keeps.next (State.setDom_keeps ..)); decide +kernel
    | (with_reducible apply Keeps.next (loseDom_keeps ..)); decide +kernel
    | with_reducible apply Keeps.foldl
    | (intro _; beta_reduce)
    | split
    | dsimp only

theorem dwellDone_keeps (w : ℕ) (d : ℕ) (s : Sys2Proof.Machine.State) : Keeps 0x14c004600000000000001030000000000000000000000000000000000000000000000000040000010 s (dwellDone w d s) := by
  unfold dwellDone
  repeat' first
    | with_reducible exact Keeps.refl _ _
    | with_reducible apply Keeps.ite
    | (with_reducible apply Keeps.next (State.modDoms_keeps ..)); decide +kernel
    | (with_reducible apply Keeps.next (tryRamp_keeps ..)); decide +kernel
    | with_reducible apply Keeps.foldl
    | (intro _; beta_reduce)
    | split
    | dsimp only

theorem retireSpines_keeps (w : ℕ) (s : Sys2Proof.Machine.State) : Keeps 0x80000014c004600000000006005060000000000000000000000000000000200000000000000000260020010 s (retireSpines w s) := by
  unfold retireSpines
  repeat' first
    | with_reducible exact Keeps.refl _ _
    | with_reducible apply forEach_keeps
    | with_reducible apply Keeps.ite
    | (with_reducible apply Keeps.next (spineOff_keeps ..)); decide +kernel
    | with_reducible apply Keeps.foldl
    | (intro _; beta_reduce)
    | split
    | dsimp only

theorem forceOne_keeps (w : ℕ) (d : ℕ) (s : Sys2Proof.Machine.State) : Keeps 0x80000014c1ffec00000000060050600000000000000000000000000000002084000000000000002601ec270 s (forceOne w d s) := by
  unfold forceOne
  repeat' first
    | with_reducible exact Keeps.refl _ _
    | with_reducible apply Keeps.ite
    | (with_reducible apply Keeps.next (pcieLost_keeps ..)); decide +kernel
    | (with_reducible apply Keeps.next (State.modDoms_keeps ..)); decide +kernel
    | (with_reducible apply Keeps.next (State.wr_keeps ..)); decide +kernel
    | (with_reducible apply Keeps.next (leaveDom_keeps ..)); decide +kernel
    | (with_reducible apply Keeps.next (State.setDom_keeps ..)); decide +kernel
    | (with_reducible apply Keeps.next (loseDom_keeps ..)); decide +kernel
    | with_reducible apply Keeps.foldl
    | (intro _; beta_reduce)
    | split
    | dsimp only

theorem forceDown_keeps (w : ℕ) (d : ℕ) (s : Sys2Proof.Machine.State) : Keeps 0x80000014c1ffec00000000060050700000000000000000000000000000002084000000000000002601ec270 s (forceDown w d s) := by
  unfold forceDown
  repeat' first
    | with_reducible exact Keeps.refl _ _
    | with_reducible apply forEach_keeps
    | with_reducible apply Keeps.ite
    | (with_reducible apply Keeps.next (forceOne_keeps ..)); decide +kernel
    | (with_reducible apply Keeps.next (admitWaiting_keeps ..)); decide +kernel
    | with_reducible apply Keeps.foldl
    | (intro _; beta_reduce)
    | split
    | dsimp only

theorem forceAll_keeps (w : ℕ) (s : Sys2Proof.Machine.State) : Keeps 0x80000014c1ffec00000000060050600000000000000000000000000000002084000000000000002601ec270 s (forceAll w s) := by
  unfold forceAll
  repeat' first
    | with_reducible exact Keeps.refl _ _
    | with_reducible apply forEach_keeps
    | with_reducible apply Keeps.ite
    | (with_reducible apply Keeps.next (forceOne_keeps ..)); decide +kernel
    | with_reducible apply Keeps.foldl
    | (intro _; beta_reduce)
    | split
    | dsimp only

theorem cutJob_keeps (w : ℕ) (p : ℕ) (s : Sys2Proof.Machine.State) : Keeps 0x500900000000000000000000000106005060000004820000000000000000000000000400000000000000260086600 s (cutJob w p s) := by
  unfold cutJob
  repeat' first
    | with_reducible exact Keeps.refl _ _
    | with_reducible apply forEach_keeps
    | with_reducible apply Keeps.ite
    | (with_reducible apply Keeps.next (cutRunning_keeps ..)); decide +kernel
    | with_reducible apply Keeps.foldl
    | (intro _; beta_reduce)
    | split
    | dsimp only

theorem recordFault_keeps (w : ℕ) (d : ℕ) (kind : ℕ) (volt : ℕ) (s : Sys2Proof.Machine.State) : Keeps 0x14c004600000000000001380000000000000000000000000000000000000000000000000040000010 s (recordFault w d kind volt s) := by
  unfold recordFault
  repeat' first
    | with_reducible exact Keeps.refl _ _
    | with_reducible apply Keeps.ite
    | (with_reducible apply Keeps.next (State.wr_keeps ..)); decide +kernel
    | (with_reducible apply Keeps.next (State.raise_keeps ..)); decide +kernel
    | (with_reducible apply Keeps.next (State.bump_keeps ..)); decide +kernel
    | (with_reducible apply Keeps.next (State.setReg_keeps ..)); decide +kernel
    | (with_reducible apply Keeps.next (State.putDoms_keeps ..)); decide +kernel
    | with_reducible apply Keeps.foldl
    | (intro _; beta_reduce)
    | split
    | dsimp only

theorem runtimeOpen_keeps (w : ℕ) (ty : ℕ) (kind : ℕ) (ob : ℕ) (s : Sys2Proof.Machine.State) : Keeps 0x14c0046000000000000010200000000000000c03fe8000000000000000000700000000000c0000018 s (runtimeOpen w ty kind ob s) := by
  unfold runtimeOpen
  repeat' first
    | with_reducible exact Keeps.refl _ _
    | with_reducible apply Keeps.ite
    | (with_reducible apply Keeps.next (State.fresh_keeps ..)); decide +kernel
    | (with_reducible apply Keeps.next (runtimeFinding_keeps ..)); decide +kernel
    | with_reducible apply Keeps.foldl
    | (intro _; beta_reduce)
    | split
    | dsimp only

theorem afterFault_keeps (w : ℕ) (d : ℕ) (s : Sys2Proof.Machine.State) : Keeps 0x80000014c0046000000000000010200000000000000c03fe8000000000002000000700000000000c0000018 s (afterFault w d s) := by
  unfold afterFault
  repeat' first
    | with_reducible exact Keeps.refl _ _
    | with_reducible apply Keeps.ite
    | (with_reducible apply Keeps.next (setLinkState_keeps ..)); decide +kernel
    | (with_reducible apply Keeps.next (runtimeOpen_keeps ..)); decide +kernel
    | (with_reducible apply Keeps.next (State.modDoms_keeps ..)); decide +kernel
    | (with_reducible apply Keeps.next (State.wr_keeps ..)); decide +kernel
    | with_reducible apply Keeps.foldl
    | (intro _; beta_reduce)
    | split
    | dsimp only

theorem raiseBlocked_keeps (w : ℕ) (d : ℕ) (was : ℕ) (s : Sys2Proof.Machine.State) : Keeps 0x14c004600000000000000000000000000000000000000000000000000000000000000000000000010 s (raiseBlocked w d was s) := by
  unfold raiseBlocked
  repeat' first
    | with_reducible exact Keeps.refl _ _
    | with_reducible apply Keeps.ite
    | (with_reducible apply Keeps.next (State.raise_keeps ..)); decide +kernel
    | with_reducible apply Keeps.foldl
    | (intro _; beta_reduce)
    | split
    | dsimp only

theorem supplyFault_keeps (w : ℕ) (d : ℕ) (kind : ℕ) (volt : ℕ) (s : Sys2Proof.Machine.State) : Keeps 0x50090080000014c1ffec00000001060053f00000048200000c03fe8000000000002084000700000000002e01ee678 s (supplyFault w d kind volt s) := by
  unfold supplyFault
  repeat' first
    | with_reducible exact Keeps.refl _ _
    | with_reducible apply forEach_keeps
    | with_reducible apply Keeps.ite
    | (with_reducible apply Keeps.next (forceDown_keeps ..)); decide +kernel
    | (with_reducible apply Keeps.next (afterFault_keeps ..)); decide +kernel
    | (with_reducible apply Keeps.next (raiseBlocked_keeps ..)); decide +kernel
    | (with_reducible apply Keeps.next (recordFault_keeps ..)); decide +kernel
    | (with_reducible apply Keeps.next (cutJob_keeps ..)); decide +kernel
    | (with_reducible apply Keeps.next (State.wr_keeps ..)); decide +kernel
    | with_reducible apply Keeps.foldl
    | (intro _; beta_reduce)
    | split
    | dsimp only

theorem faultRetry_keeps (w : ℕ) (d : ℕ) (s : Sys2Proof.Machine.State) : Keeps 0x80000014c004600000000006005070000000000000000000000000000000200000000000000000260020010 s (faultRetry w d s) := by
  unfold faultRetry
  repeat' first
    | with_reducible exact Keeps.refl _ _
    | with_reducible apply Keeps.ite
    | (with_reducible apply Keeps.next (domRequest_keeps ..)); decide +kernel
    | (with_reducible apply Keeps.next (State.putDoms_keeps ..)); decide +kernel
    | with_reducible apply Keeps.foldl
    | (intro _; beta_reduce)
    | split
    | dsimp only

theorem gateEngage_keeps (w : ℕ) (d : ℕ) (s0 : Sys2Proof.Machine.State) : Keeps 0x6000000000000000000000000000000000000008005000000000000240000000 s0 (gateEngage w d s0) := by
  unfold gateEngage
  repeat' first
    | with_reducible exact Keeps.refl _ _
    | with_reducible apply Keeps.ite
    | (with_reducible apply Keeps.next (State.wr_keeps ..)); decide +kernel
    | (with_reducible apply Keeps.next (accrue_keeps ..)); decide +kernel
    | (with_reducible apply Keeps.next (State.bump_keeps ..)); decide +kernel
    | (with_reducible apply Keeps.next (State.modDoms_keeps ..)); decide +kernel
    | with_reducible apply Keeps.foldl
    | (intro _; beta_reduce)
    | split
    | dsimp only

theorem gateRelease_keeps (w : ℕ) (d : ℕ) (s0 : Sys2Proof.Machine.State) : Keeps 0x6000000000000000000000000000000000000008000000000000000240000000 s0 (gateRelease w d s0) := by
  unfold gateRelease
  repeat' first
    | with_reducible exact Keeps.refl _ _
    | with_reducible apply Keeps.ite
    | (with_reducible apply Keeps.next (accrue_keeps ..)); decide +kernel
    | (with_reducible apply Keeps.next (State.modDoms_keeps ..)); decide +kernel
    | (with_reducible apply Keeps.next (State.wr_keeps ..)); decide +kernel
    | with_reducible apply Keeps.foldl
    | (intro _; beta_reduce)
    | split
    | dsimp only

end Sys2Proof.Machine
end

