-- ==== Sys2Proof/Laws/KeepsCapping.lean ====
section
/-!
SUPPORT. What each operation of Machine/Capping.lean may change.
-/
namespace Sys2Proof.Machine
set_option linter.unusedTactic false
set_option linter.unreachableTactic false
set_option Elab.async false

theorem State.modMeters_keeps (s : Sys2Proof.Machine.State) (k : ℕ) (g : Sys2Proof.Machine.Meter → Sys2Proof.Machine.Meter) : Keeps 0x200000000 s (State.modMeters s k g) := by
  unfold State.modMeters
  repeat' first
    | with_reducible exact Keeps.refl _ _
    | with_reducible apply Keeps.ite
    | (with_reducible apply Keeps.next (State.putMeters_keeps ..)); decide +kernel
    | with_reducible apply Keeps.foldl
    | (intro _; beta_reduce)
    | split
    | dsimp only

theorem capUpdate_keeps (w : ℕ) (source : ℕ) (clamped : ℕ) (s0 : Sys2Proof.Machine.State) : Keeps 0x14c004600000000006010000000000000000000000000000000000000000070000000000200000018 s0 (capUpdate w source clamped s0) := by
  unfold capUpdate
  repeat' first
    | with_reducible exact Keeps.refl _ _
    | with_reducible apply Keeps.ite
    | (with_reducible apply Keeps.next (State.raise_keeps ..)); decide +kernel
    | (with_reducible apply Keeps.next (accrue_keeps ..)); decide +kernel
    | (with_reducible apply Keeps.next (State.journal_keeps ..)); decide +kernel
    | (with_reducible apply Keeps.next (State.wr_keeps ..)); decide +kernel
    | with_reducible apply Keeps.foldl
    | (intro _; beta_reduce)
    | split
    | dsimp only

theorem capWrite_keeps (w : ℕ) (path : ℕ) (v : ℕ) (s : Sys2Proof.Machine.State) : Keeps 0x14c004600000000006018000000000000000000000000000000000000000070000000004200000018 s (capWrite w path v s) := by
  unfold capWrite
  repeat' first
    | with_reducible exact Keeps.refl _ _
    | with_reducible apply Keeps.ite
    | (with_reducible apply Keeps.next (State.modWafers_keeps ..)); decide +kernel
    | (with_reducible apply Keeps.next (capUpdate_keeps ..)); decide +kernel
    | (with_reducible apply Keeps.next (State.wr_keeps ..)); decide +kernel
    | with_reducible apply Keeps.foldl
    | (intro _; beta_reduce)
    | split
    | dsimp only

theorem ibcFault_keeps (w : ℕ) (i : ℕ) (s : Sys2Proof.Machine.State) : Keeps 0x14c004600000000006010400000000000000000000000000000000000000070000000000200000018 s (ibcFault w i s) := by
  unfold ibcFault
  repeat' first
    | with_reducible exact Keeps.refl _ _
    | with_reducible apply Keeps.ite
    | (with_reducible apply Keeps.next (State.raise_keeps ..)); decide +kernel
    | (with_reducible apply Keeps.next (State.wr_keeps ..)); decide +kernel
    | (with_reducible apply Keeps.next (capUpdate_keeps ..)); decide +kernel
    | with_reducible apply Keeps.foldl
    | (intro _; beta_reduce)
    | split
    | dsimp only

theorem chargeSample_keeps (w : ℕ) (x : Sys2Proof.EnergySample) (s : Sys2Proof.Machine.State) : Keeps 0x14c004600000000000002000000000000000000000000000000000000000000000000000200000010 s (chargeSample w x s) := by
  unfold chargeSample
  repeat' first
    | with_reducible exact Keeps.refl _ _
    | with_reducible apply Keeps.ite
    | (with_reducible apply Keeps.next (State.raise_keeps ..)); decide +kernel
    | (with_reducible apply Keeps.next (State.wr_keeps ..)); decide +kernel
    | (with_reducible apply Keeps.next (State.putMeters_keeps ..)); decide +kernel
    | with_reducible apply Keeps.foldl
    | (intro _; beta_reduce)
    | split
    | dsimp only

theorem energySample_keeps (w : ℕ) (bus : ℕ) (ibcs : List ℕ) (xs : List Sys2Proof.EnergySample) (s : Sys2Proof.Machine.State) : Keeps 0x14c004600000000000002c00000000000000000000000000000000000000000000000000200000010 s (energySample w bus ibcs xs s) := by
  unfold energySample
  repeat' first
    | with_reducible exact Keeps.refl _ _
    | with_reducible apply forEach_keeps
    | with_reducible apply Keeps.ite
    | (with_reducible apply Keeps.next (chargeSample_keeps ..)); decide +kernel
    | (with_reducible apply Keeps.next (State.wr_keeps ..)); decide +kernel
    | (with_reducible apply Keeps.next (State.modMeters_keeps ..)); decide +kernel
    | with_reducible apply Keeps.foldl
    | (intro _; beta_reduce)
    | split
    | dsimp only

theorem energyIntegrate_keeps (w : ℕ) (s : Sys2Proof.Machine.State) : Keeps 0x1818000000000000000000000000000000000000000000000000000000200000000 s (energyIntegrate w s) := by
  unfold energyIntegrate
  repeat' first
    | with_reducible exact Keeps.refl _ _
    | with_reducible apply forEach_keeps
    | with_reducible apply Keeps.ite
    | (with_reducible apply Keeps.next (State.incWrap_keeps ..)); decide +kernel
    | (with_reducible apply Keeps.next (State.putMeters_keeps ..)); decide +kernel
    | with_reducible apply Keeps.foldl
    | (intro _; beta_reduce)
    | split
    | dsimp only

theorem capPark_keeps (w : ℕ) (g : Sys2Proof.Machine.Group) (s : Sys2Proof.Machine.State) : Keeps 0x6004000000000000000000000000000000000000000000000000000220000000 s (capPark w g s) := by
  unfold capPark
  repeat' first
    | with_reducible exact Keeps.refl _ _
    | with_reducible apply Keeps.ite
    | (with_reducible apply Keeps.next (setParkReq_keeps ..)); decide +kernel
    | (with_reducible apply Keeps.next (State.modMeters_keeps ..)); decide +kernel
    | with_reducible apply Keeps.foldl
    | (intro _; beta_reduce)
    | split
    | dsimp only

theorem capRelease_keeps (w : ℕ) (g : Sys2Proof.Machine.Group) (s : Sys2Proof.Machine.State) : Keeps 0x6004000000000000000000000000000000000000000000000000000220000000 s (capRelease w g s) := by
  unfold capRelease
  repeat' first
    | with_reducible exact Keeps.refl _ _
    | with_reducible apply Keeps.ite
    | (with_reducible apply Keeps.next (setParkReq_keeps ..)); decide +kernel
    | (with_reducible apply Keeps.next (State.modMeters_keeps ..)); decide +kernel
    | with_reducible apply Keeps.foldl
    | (intro _; beta_reduce)
    | split
    | dsimp only

theorem parkOver_keeps (w : Nat) (xs : List (Load1 × Nat)) (left : Nat) (s : State) : Keeps 0x6004000000000000000000000000000000000000000000000000000220000000 s (parkOver w xs left s) := by
  induction xs generalizing left s with
  | nil => exact Keeps.refl _ _
  | cons x xs ih => exact Keeps.next (ih _ _) (sub_refl _) (forEach_keeps (fun _ _ => Keeps.widen (capPark_keeps ..) (by decide +kernel)) _ (Keeps.refl _ _))

theorem releaseUnder_keeps (w hyst : Nat) (xs : List (Load1 × Nat)) (left : Nat) (s : State) : Keeps 0x6004000000000000000000000000000000000000000000000000000220000000 s (releaseUnder w hyst xs left s) := by
  induction xs generalizing left s with
  | nil => exact Keeps.refl _ _
  | cons x xs ih =>
    exact Keeps.next (ih _ _) (sub_refl _) (forEach_keeps (fun _ _ => Keeps.widen (capRelease_keeps ..) (by decide +kernel)) _
      (Keeps.widen (State.putMeters_keeps ..) (by decide +kernel)))

theorem dwellSwap_keeps (w : ℕ) (p : ℕ) (s : Sys2Proof.Machine.State) : Keeps 0x6004000000000000000000000000000000000000000000000000000220000000 s (dwellSwap w p s) := by
  unfold dwellSwap
  repeat' first
    | with_reducible exact Keeps.refl _ _
    | with_reducible apply forEach_keeps
    | with_reducible apply Keeps.ite
    | (with_reducible apply Keeps.next (capRelease_keeps ..)); decide +kernel
    | (with_reducible apply Keeps.next (capPark_keeps ..)); decide +kernel
    | with_reducible apply Keeps.foldl
    | (intro _; beta_reduce)
    | split
    | dsimp only

theorem guardSync_keeps (w : ℕ) (s : Sys2Proof.Machine.State) : Keeps 0x4000000100000000000000000000000000000000000000000000000000000000000000 s (guardSync w s) := by
  unfold guardSync
  repeat' first
    | with_reducible exact Keeps.refl _ _
    | with_reducible apply Keeps.ite
    | (with_reducible apply Keeps.next (State.wr_keeps ..)); decide +kernel
    | with_reducible apply Keeps.foldl
    | (intro _; beta_reduce)
    | split
    | dsimp only

theorem loopSync_keeps (w : ℕ) (xs : List (Sys2Proof.Machine.Load1 × ℕ)) (s : Sys2Proof.Machine.State) : Keeps 0x410000000000000000000000000000000000000000000000000000000000000 s (loopSync w xs s) := by
  unfold loopSync
  repeat' first
    | with_reducible exact Keeps.refl _ _
    | with_reducible apply forEach_keeps
    | with_reducible apply Keeps.ite
    | (with_reducible apply Keeps.next (State.wr_keeps ..)); decide +kernel
    | (with_reducible apply Keeps.next (State.wrSat_keeps ..)); decide +kernel
    | with_reducible apply Keeps.foldl
    | (intro _; beta_reduce)
    | split
    | dsimp only

theorem capLoop_keeps (w : ℕ) (s0 : Sys2Proof.Machine.State) : Keeps 0x14c004600000000006494000000000000000000000000000000000000000000000000000220000010 s0 (capLoop w s0) := by
  unfold capLoop
  repeat' first
    | with_reducible exact Keeps.refl _ _
    | with_reducible apply forEach_keeps
    | with_reducible apply Keeps.ite
    | (with_reducible apply Keeps.next (State.raise_keeps ..)); decide +kernel
    | (with_reducible apply Keeps.next (State.modMeters_keeps ..)); decide +kernel
    | (with_reducible apply Keeps.next (accrue_keeps ..)); decide +kernel
    | (with_reducible apply Keeps.next (parkOver_keeps ..)); decide +kernel
    | (with_reducible apply Keeps.next (loopSync_keeps ..)); decide +kernel
    | (with_reducible apply Keeps.next (State.wrSat_keeps ..)); decide +kernel
    | (with_reducible apply Keeps.next (dwellSwap_keeps ..)); decide +kernel
    | (with_reducible apply Keeps.next (State.putMeters_keeps ..)); decide +kernel
    | (with_reducible apply Keeps.next (releaseUnder_keeps ..)); decide +kernel
    | with_reducible apply Keeps.foldl
    | (intro _; beta_reduce)
    | split
    | dsimp only

theorem envelopeStep_keeps (w : ℕ) (s : Sys2Proof.Machine.State) : Keeps 0x14c004600000000006514000000000000000000000000000000000000000000000000000220000010 s (envelopeStep w s) := by
  unfold envelopeStep
  repeat' first
    | with_reducible exact Keeps.refl _ _
    | with_reducible apply Keeps.ite
    | (with_reducible apply Keeps.next (State.raise_keeps ..)); decide +kernel
    | (with_reducible apply Keeps.next (parkOver_keeps ..)); decide +kernel
    | (with_reducible apply Keeps.next (State.bump_keeps ..)); decide +kernel
    | (with_reducible apply Keeps.next (loopSync_keeps ..)); decide +kernel
    | with_reducible apply Keeps.foldl
    | (intro _; beta_reduce)
    | split
    | dsimp only

theorem pointRaise_keeps (w : ℕ) (old : ℕ) (new : ℕ) (s : Sys2Proof.Machine.State) : Keeps 0x6414000000000000000000000000000000000000000000000000000220000000 s (pointRaise w old new s) := by
  unfold pointRaise
  repeat' first
    | with_reducible exact Keeps.refl _ _
    | with_reducible apply Keeps.ite
    | (with_reducible apply Keeps.next (parkOver_keeps ..)); decide +kernel
    | (with_reducible apply Keeps.next (loopSync_keeps ..)); decide +kernel
    | with_reducible apply Keeps.foldl
    | (intro _; beta_reduce)
    | split
    | dsimp only

theorem droopSample_keeps (w : ℕ) (q : ℕ) (volt : ℕ) (s : Sys2Proof.Machine.State) : Keeps 0x4000006104000000000000000000000000000000000000000000000000000220000000 s (droopSample w q volt s) := by
  unfold droopSample
  repeat' first
    | with_reducible exact Keeps.refl _ _
    | with_reducible apply Keeps.ite
    | (with_reducible apply Keeps.next (setParkReq_keeps ..)); decide +kernel
    | (with_reducible apply Keeps.next (guardSync_keeps ..)); decide +kernel
    | (with_reducible apply Keeps.next (State.modParks_keeps ..)); decide +kernel
    | with_reducible apply Keeps.foldl
    | (intro _; beta_reduce)
    | split
    | dsimp only

theorem droopRelease_keeps (w : ℕ) (q : ℕ) (s : Sys2Proof.Machine.State) : Keeps 0x4000006104000000000000000000000000000000000000000000000000000220000000 s (droopRelease w q s) := by
  unfold droopRelease
  repeat' first
    | with_reducible exact Keeps.refl _ _
    | with_reducible apply Keeps.ite
    | (with_reducible apply Keeps.next (setParkReq_keeps ..)); decide +kernel
    | (with_reducible apply Keeps.next (guardSync_keeps ..)); decide +kernel
    | with_reducible apply Keeps.foldl
    | (intro _; beta_reduce)
    | split
    | dsimp only

theorem currentSample_keeps (w : ℕ) (q : ℕ) (cur : ℕ) (s : Sys2Proof.Machine.State) : Keeps 0x4000006104000000000000000000000000000000000000000000000000000220000000 s (currentSample w q cur s) := by
  unfold currentSample
  repeat' first
    | with_reducible exact Keeps.refl _ _
    | with_reducible apply Keeps.ite
    | (with_reducible apply Keeps.next (setParkReq_keeps ..)); decide +kernel
    | (with_reducible apply Keeps.next (guardSync_keeps ..)); decide +kernel
    | (with_reducible apply Keeps.next (State.modParks_keeps ..)); decide +kernel
    | with_reducible apply Keeps.foldl
    | (intro _; beta_reduce)
    | split
    | dsimp only

theorem currentRelease_keeps (w : ℕ) (q : ℕ) (s : Sys2Proof.Machine.State) : Keeps 0x4000006104000000000000000000000000000000000000000000000000000220000000 s (currentRelease w q s) := by
  unfold currentRelease
  repeat' first
    | with_reducible exact Keeps.refl _ _
    | with_reducible apply Keeps.ite
    | (with_reducible apply Keeps.next (setParkReq_keeps ..)); decide +kernel
    | (with_reducible apply Keeps.next (guardSync_keeps ..)); decide +kernel
    | with_reducible apply Keeps.foldl
    | (intro _; beta_reduce)
    | split
    | dsimp only

theorem telSnapshot_keeps (w : ℕ) (p : ℕ) (s0 : Sys2Proof.Machine.State) : Keeps 0xffffffffffffffffffffffffffffffffffffffffffffffffffffffffffffffffffffffffffffffff0000000200000000 s0 (telSnapshot w p s0) := by
  unfold telSnapshot
  repeat' first
    | with_reducible exact Keeps.refl _ _
    | with_reducible apply forEach_keeps
    | with_reducible apply Keeps.ite
    | (with_reducible apply Keeps.next (State.setReg_keeps ..)); (first | decide +kernel | exact sub_right _ _ | exact sub_refl _ | exact sub_left (by decide +kernel) | exact regBit_sub (by decide +kernel) _ | exact sub_or (by decide +kernel) (regBit_sub (by decide +kernel) _))
    | (with_reducible apply Keeps.next (accrue_keeps ..)); (first | decide +kernel | exact sub_right _ _ | exact sub_refl _ | exact sub_left (by decide +kernel) | exact regBit_sub (by decide +kernel) _ | exact sub_or (by decide +kernel) (regBit_sub (by decide +kernel) _))
    | (with_reducible apply Keeps.next (State.wr_keeps ..)); (first | decide +kernel | exact sub_right _ _ | exact sub_refl _ | exact sub_left (by decide +kernel) | exact regBit_sub (by decide +kernel) _ | exact sub_or (by decide +kernel) (regBit_sub (by decide +kernel) _))
    | with_reducible apply Keeps.foldl
    | (intro _; beta_reduce)
    | split
    | dsimp only

theorem telReset_keeps (w : ℕ) (p : ℕ) (s : Sys2Proof.Machine.State) : Keeps 0xffffffffffffffffffffffffffffffffffffffffffffffffffffffffffffffffffffffffffffffff0000000000000000 s (telReset w p s) := by
  unfold telReset
  repeat' first
    | with_reducible exact Keeps.refl _ _
    | with_reducible apply forEach_keeps
    | with_reducible apply Keeps.ite
    | (with_reducible apply Keeps.next (State.setReg_keeps ..)); (first | decide +kernel | exact sub_right _ _ | exact sub_refl _ | exact sub_left (by decide +kernel) | exact regBit_sub (by decide +kernel) _ | exact sub_or (by decide +kernel) (regBit_sub (by decide +kernel) _))
    | with_reducible apply Keeps.foldl
    | (intro _; beta_reduce)
    | split
    | dsimp only

theorem planCapTo_keeps (w : ℕ) (cap : ℕ) (s : Sys2Proof.Machine.State) : Keeps 0x14c004600000000006018000000000000000000000000000000000000000070000000404200000018 s (planCapTo w cap s) := by
  unfold planCapTo
  repeat' first
    | with_reducible exact Keeps.refl _ _
    | with_reducible apply Keeps.ite
    | (with_reducible apply Keeps.next (capWrite_keeps ..)); decide +kernel
    | (with_reducible apply Keeps.next (State.putPlans_keeps ..)); decide +kernel
    | with_reducible apply Keeps.foldl
    | (intro _; beta_reduce)
    | split
    | dsimp only

theorem barrierBalance_keeps (to_ : ℕ) (from_ : List (ℕ × ℕ)) (s : Sys2Proof.Machine.State) : Keeps 0x14c004600000000006018000000000000000000000000000000000000000070000000404200000018 s (barrierBalance to_ from_ s) := by
  unfold barrierBalance
  repeat' first
    | with_reducible exact Keeps.refl _ _
    | with_reducible apply forEach_keeps
    | with_reducible apply Keeps.ite
    | (with_reducible apply Keeps.next (planCapTo_keeps ..)); decide +kernel
    | with_reducible apply Keeps.foldl
    | (intro _; beta_reduce)
    | split
    | dsimp only

end Sys2Proof.Machine
end

