-- ==== Sys2Proof/Laws/KeepsThermal.lean ====
section
/-!
SUPPORT. What each operation of Machine/Thermal.lean may change.
-/
namespace Sys2Proof.Machine
set_option linter.unusedTactic false
set_option linter.unreachableTactic false
set_option Elab.async false

theorem State.modAgeMons_keeps (s : Sys2Proof.Machine.State) (k : ℕ) (g : Sys2Proof.Machine.AgeMon → Sys2Proof.Machine.AgeMon) : Keeps 0x400000000 s (State.modAgeMons s k g) := by
  unfold State.modAgeMons
  repeat' first
    | with_reducible exact Keeps.refl _ _
    | with_reducible apply Keeps.ite
    | (with_reducible apply Keeps.next (State.putAgeMons_keeps ..)); decide +kernel
    | with_reducible apply Keeps.foldl
    | (intro _; beta_reduce)
    | split
    | dsimp only

theorem State.modAgeQs_keeps (s : Sys2Proof.Machine.State) (k : ℕ) (g : Sys2Proof.Machine.AgeQ → Sys2Proof.Machine.AgeQ) : Keeps 0x800000000 s (State.modAgeQs s k g) := by
  unfold State.modAgeQs
  repeat' first
    | with_reducible exact Keeps.refl _ _
    | with_reducible apply Keeps.ite
    | (with_reducible apply Keeps.next (State.putAgeQs_keeps ..)); decide +kernel
    | with_reducible apply Keeps.foldl
    | (intro _; beta_reduce)
    | split
    | dsimp only

theorem State.modThermChs_keeps (s : Sys2Proof.Machine.State) (k : ℕ) (g : Sys2Proof.Machine.ThermCh → Sys2Proof.Machine.ThermCh) : Keeps 0x1000000000 s (State.modThermChs s k g) := by
  unfold State.modThermChs
  repeat' first
    | with_reducible exact Keeps.refl _ _
    | with_reducible apply Keeps.ite
    | (with_reducible apply Keeps.next (State.putThermChs_keeps ..)); decide +kernel
    | with_reducible apply Keeps.foldl
    | (intro _; beta_reduce)
    | split
    | dsimp only

theorem heatSync_keeps (w : ℕ) (q : ℕ) (s : Sys2Proof.Machine.State) : Keeps 0x44000000100000000000000000000000000000000000000000000000000000000000000 s (heatSync w q s) := by
  unfold heatSync
  repeat' first
    | with_reducible exact Keeps.refl _ _
    | with_reducible apply Keeps.ite
    | (with_reducible apply Keeps.next (guardSync_keeps ..)); decide +kernel
    | (with_reducible apply Keeps.next (State.wr_keeps ..)); decide +kernel
    | with_reducible apply Keeps.foldl
    | (intro _; beta_reduce)
    | split
    | dsimp only

theorem quadSample_keeps (w : ℕ) (x : Sys2Proof.QuadTemp) (s : Sys2Proof.Machine.State) : Keeps 0x14c004600040000000000000000000000000000000000000000000000000000000000000800000010 s (quadSample w x s) := by
  unfold quadSample
  repeat' first
    | with_reducible exact Keeps.refl _ _
    | with_reducible apply Keeps.ite
    | (with_reducible apply Keeps.next (State.raise_keeps ..)); decide +kernel
    | (with_reducible apply Keeps.next (State.putAgeQs_keeps ..)); decide +kernel
    | (with_reducible apply Keeps.next (State.wr_keeps ..)); decide +kernel
    | with_reducible apply Keeps.foldl
    | (intro _; beta_reduce)
    | split
    | dsimp only

theorem junctionLimit_keeps (w : ℕ) (q : ℕ) (s : Sys2Proof.Machine.State) : Keeps 0x14c004600044000006104000000000000000000000000000000000000000000000000000220000010 s (junctionLimit w q s) := by
  unfold junctionLimit
  repeat' first
    | with_reducible exact Keeps.refl _ _
    | with_reducible apply Keeps.ite
    | (with_reducible apply Keeps.next (setParkReq_keeps ..)); decide +kernel
    | (with_reducible apply Keeps.next (State.raise_keeps ..)); decide +kernel
    | (with_reducible apply Keeps.next (State.bump_keeps ..)); decide +kernel
    | (with_reducible apply Keeps.next (heatSync_keeps ..)); decide +kernel
    | with_reducible apply Keeps.foldl
    | (intro _; beta_reduce)
    | split
    | dsimp only

theorem thermalSample_keeps (w : ℕ) (qs : List Sys2Proof.QuadTemp) (fs : List Sys2Proof.FieldTemp) (s : Sys2Proof.Machine.State) : Keeps 0x14c004600064000006104000000000000000000000000000000000000000000000000000a20000010 s (thermalSample w qs fs s) := by
  unfold thermalSample
  repeat' first
    | with_reducible exact Keeps.refl _ _
    | with_reducible apply forEach_keeps
    | with_reducible apply Keeps.ite
    | (with_reducible apply Keeps.next (quadSample_keeps ..)); decide +kernel
    | (with_reducible apply Keeps.next (junctionLimit_keeps ..)); decide +kernel
    | (with_reducible apply Keeps.next (State.wr_keeps ..)); decide +kernel
    | with_reducible apply Keeps.foldl
    | (intro _; beta_reduce)
    | split
    | dsimp only

theorem askRotation_keeps (w : ℕ) (f : ℕ) (q : ℕ) (s : Sys2Proof.Machine.State) : Keeps 0x1000000400 s (askRotation w f q s) := by
  unfold askRotation
  repeat' first
    | with_reducible exact Keeps.refl _ _
    | with_reducible apply Keeps.ite
    | (with_reducible apply Keeps.next (State.modThermChs_keeps ..)); decide +kernel
    | (with_reducible apply Keeps.next (State.modParts_keeps ..)); decide +kernel
    | with_reducible apply Keeps.foldl
    | (intro _; beta_reduce)
    | split
    | dsimp only

theorem hotStep_keeps (w : ℕ) (f : ℕ) (q : ℕ) (s : Sys2Proof.Machine.State) : Keeps 0x14c004600044000006104000000000000000000000000000000000000000000000000000220000010 s (hotStep w f q s) := by
  unfold hotStep
  repeat' first
    | with_reducible exact Keeps.refl _ _
    | with_reducible apply Keeps.ite
    | (with_reducible apply Keeps.next (setParkReq_keeps ..)); decide +kernel
    | (with_reducible apply Keeps.next (State.raise_keeps ..)); decide +kernel
    | (with_reducible apply Keeps.next (heatSync_keeps ..)); decide +kernel
    | with_reducible apply Keeps.foldl
    | (intro _; beta_reduce)
    | split
    | dsimp only

theorem hotRelease_keeps (w : ℕ) (f : ℕ) (s : Sys2Proof.Machine.State) : Keeps 0x44000006104000000000000000000000000000000000000000000000000000220000000 s (hotRelease w f s) := by
  unfold hotRelease
  repeat' first
    | with_reducible exact Keeps.refl _ _
    | with_reducible apply Keeps.ite
    | (with_reducible apply Keeps.next (setParkReq_keeps ..)); decide +kernel
    | (with_reducible apply Keeps.next (heatSync_keeps ..)); decide +kernel
    | with_reducible apply Keeps.foldl
    | (intro _; beta_reduce)
    | split
    | dsimp only

theorem parkHottest_keeps (w : ℕ) (f : ℕ) (s : Sys2Proof.Machine.State) : Keeps 0x14c004600044000006104000000000000000000000000000000000000000000000000001220000410 s (parkHottest w f s) := by
  unfold parkHottest
  repeat' first
    | with_reducible exact Keeps.refl _ _
    | with_reducible apply Keeps.ite
    | (with_reducible apply Keeps.next (hotRelease_keeps ..)); decide +kernel
    | (with_reducible apply Keeps.next (askRotation_keeps ..)); decide +kernel
    | (with_reducible apply Keeps.next (hotStep_keeps ..)); decide +kernel
    | (with_reducible apply Keeps.next (State.putThermChs_keeps ..)); decide +kernel
    | with_reducible apply Keeps.foldl
    | (intro _; beta_reduce)
    | split
    | dsimp only

theorem rotationDue_keeps (w : ℕ) (p : ℕ) (s : Sys2Proof.Machine.State) : Keeps 0x100000000000000000000000000000000000000000000000000000000000000000000400 s (rotationDue w p s) := by
  unfold rotationDue
  repeat' first
    | with_reducible exact Keeps.refl _ _
    | with_reducible apply Keeps.ite
    | (with_reducible apply Keeps.next (State.bump_keeps ..)); decide +kernel
    | (with_reducible apply Keeps.next (State.modPart_keeps ..)); decide +kernel
    | with_reducible apply Keeps.foldl
    | (intro _; beta_reduce)
    | split
    | dsimp only

theorem ghostEnter_keeps (w : ℕ) (s : Sys2Proof.Machine.State) : Keeps 0x2000000000000001000006004000000000000000000000000000000000000000000000000000220000000 s (ghostEnter w s) := by
  unfold ghostEnter
  repeat' first
    | with_reducible exact Keeps.refl _ _
    | with_reducible apply forEach_keeps
    | with_reducible apply Keeps.ite
    | (with_reducible apply Keeps.next (setParkReq_keeps ..)); decide +kernel
    | (with_reducible apply Keeps.next (State.wr_keeps ..)); decide +kernel
    | (with_reducible apply Keeps.next (State.bump_keeps ..)); decide +kernel
    | with_reducible apply Keeps.foldl
    | (intro _; beta_reduce)
    | split
    | dsimp only

theorem warmStart_keeps (w : ℕ) (g : Sys2Proof.Machine.Group) (s : Sys2Proof.Machine.State) : Keeps 0x6004000000000000000000000000000000000000000000000000002220000000 s (warmStart w g s) := by
  unfold warmStart
  repeat' first
    | with_reducible exact Keeps.refl _ _
    | with_reducible apply Keeps.ite
    | (with_reducible apply Keeps.next (setParkReq_keeps ..)); decide +kernel
    | (with_reducible apply Keeps.next (State.putWarming_keeps ..)); decide +kernel
    | with_reducible apply Keeps.foldl
    | (intro _; beta_reduce)
    | split
    | dsimp only

theorem warmStop_keeps (w : ℕ) (g : Sys2Proof.Machine.Group) (s : Sys2Proof.Machine.State) : Keeps 0x6004000000000000000000000000000000000000000000000000002220000000 s (warmStop w g s) := by
  unfold warmStop
  repeat' first
    | with_reducible exact Keeps.refl _ _
    | with_reducible apply Keeps.ite
    | (with_reducible apply Keeps.next (setParkReq_keeps ..)); decide +kernel
    | (with_reducible apply Keeps.next (State.putWarming_keeps ..)); decide +kernel
    | with_reducible apply Keeps.foldl
    | (intro _; beta_reduce)
    | split
    | dsimp only

theorem warmAdjust_keeps (w : ℕ) (s : Sys2Proof.Machine.State) : Keeps 0x14c004600001000006004000000000000000000000000000000000000000000000000002220000010 s (warmAdjust w s) := by
  unfold warmAdjust
  repeat' first
    | with_reducible exact Keeps.refl _ _
    | with_reducible apply forEach_keeps
    | with_reducible apply Keeps.ite
    | (with_reducible apply Keeps.next (State.raise_keeps ..)); decide +kernel
    | (with_reducible apply Keeps.next (warmStop_keeps ..)); decide +kernel
    | (with_reducible apply Keeps.next (warmStart_keeps ..)); decide +kernel
    | (with_reducible apply Keeps.next (State.wr_keeps ..)); decide +kernel
    | with_reducible apply Keeps.foldl
    | (intro _; beta_reduce)
    | split
    | dsimp only

theorem warmRotate_keeps (w : ℕ) (s : Sys2Proof.Machine.State) : Keeps 0x6004000000000000000000000000000000000000000000000000002220000000 s (warmRotate w s) := by
  unfold warmRotate
  repeat' first
    | with_reducible exact Keeps.refl _ _
    | with_reducible apply forEach_keeps
    | with_reducible apply Keeps.ite
    | (with_reducible apply Keeps.next (warmStop_keeps ..)); decide +kernel
    | (with_reducible apply Keeps.next (warmStart_keeps ..)); decide +kernel
    | with_reducible apply Keeps.foldl
    | (intro _; beta_reduce)
    | split
    | dsimp only

theorem ageDue_keeps (w : ℕ) (m : ℕ) (s : Sys2Proof.Machine.State) : Keeps 0x400000000 s (ageDue w m s) := by
  unfold ageDue
  repeat' first
    | with_reducible exact Keeps.refl _ _
    | with_reducible apply Keeps.ite
    | (with_reducible apply Keeps.next (State.modAgeMons_keeps ..)); decide +kernel
    | with_reducible apply Keeps.foldl
    | (intro _; beta_reduce)
    | split
    | dsimp only

theorem ageForced_keeps (w : ℕ) (m : ℕ) (s : Sys2Proof.Machine.State) : Keeps 0x400000000000000000000000000000000000000000000000000000000000000400000000 s (ageForced w m s) := by
  unfold ageForced
  repeat' first
    | with_reducible exact Keeps.refl _ _
    | with_reducible apply Keeps.ite
    | (with_reducible apply Keeps.next (State.bump_keeps ..)); decide +kernel
    | (with_reducible apply Keeps.next (State.modAgeMons_keeps ..)); decide +kernel
    | with_reducible apply Keeps.foldl
    | (intro _; beta_reduce)
    | split
    | dsimp only

theorem ageRecord_keeps (w : ℕ) (m : ℕ) (transit : ℕ) (bad : Bool) (s : Sys2Proof.Machine.State) : Keeps 0x1400000000000000000000000000000000000000000000000000000000000000c00000000 s (ageRecord w m transit bad s) := by
  unfold ageRecord
  repeat' first
    | with_reducible exact Keeps.refl _ _
    | with_reducible apply Keeps.ite
    | (with_reducible apply Keeps.next (State.modAgeQs_keeps ..)); decide +kernel
    | (with_reducible apply Keeps.next (State.wr_keeps ..)); decide +kernel
    | (with_reducible apply Keeps.next (State.bump_keeps ..)); decide +kernel
    | (with_reducible apply Keeps.next (State.putAgeMons_keeps ..)); decide +kernel
    | with_reducible apply Keeps.foldl
    | (intro _; beta_reduce)
    | split
    | dsimp only

theorem ageDone_keeps (w : ℕ) (m : ℕ) (transit : ℕ) (s : Sys2Proof.Machine.State) : Keeps 0x1400000000000000000000000000000000000000000000000000000000000000c00000000 s (ageDone w m transit s) := by
  unfold ageDone
  repeat' first
    | with_reducible exact Keeps.refl _ _
    | with_reducible apply Keeps.ite
    | (with_reducible apply Keeps.next (ageRecord_keeps ..)); decide +kernel
    | with_reducible apply Keeps.foldl
    | (intro _; beta_reduce)
    | split
    | dsimp only

theorem ageLate_keeps (w : ℕ) (q : ℕ) (s : Sys2Proof.Machine.State) : Keeps 0x14c004600000000000000000000000000000000000000000000000000000000000000000000000010 s (ageLate w q s) := by
  unfold ageLate
  repeat' first
    | with_reducible exact Keeps.refl _ _
    | with_reducible apply Keeps.ite
    | (with_reducible apply Keeps.next (State.raise_keeps ..)); decide +kernel
    | with_reducible apply Keeps.foldl
    | (intro _; beta_reduce)
    | split
    | dsimp only

theorem ageBaseline_keeps (w : ℕ) (m : ℕ) (transit : ℕ) (s : Sys2Proof.Machine.State) : Keeps 0x1400000000000000000000000000000000000000000000000000000000000000c00000000 s (ageBaseline w m transit s) := by
  unfold ageBaseline
  repeat' first
    | with_reducible exact Keeps.refl _ _
    | with_reducible apply Keeps.ite
    | (with_reducible apply Keeps.next (ageRecord_keeps ..)); decide +kernel
    | (with_reducible apply Keeps.next (State.putAgeMons_keeps ..)); decide +kernel
    | with_reducible apply Keeps.foldl
    | (intro _; beta_reduce)
    | split
    | dsimp only

theorem trimCheck_keeps (w : ℕ) (q : ℕ) (s : Sys2Proof.Machine.State) : Keeps 0x800000000 s (trimCheck w q s) := by
  unfold trimCheck
  repeat' first
    | with_reducible exact Keeps.refl _ _
    | with_reducible apply Keeps.ite
    | (with_reducible apply Keeps.next (State.modAgeQs_keeps ..)); decide +kernel
    | with_reducible apply Keeps.foldl
    | (intro _; beta_reduce)
    | split
    | dsimp only

theorem ageHour_keeps (w : ℕ) (q : ℕ) (s : Sys2Proof.Machine.State) : Keeps 0x14c0046008000000000010200000000000000c03fe8000000000000000000700000000008c0000018 s (ageHour w q s) := by
  unfold ageHour
  repeat' first
    | with_reducible exact Keeps.refl _ _
    | with_reducible apply Keeps.ite
    | (with_reducible apply Keeps.next (State.modAgeQs_keeps ..)); decide +kernel
    | (with_reducible apply Keeps.next (State.raise_keeps ..)); decide +kernel
    | (with_reducible apply Keeps.next (State.fresh_keeps ..)); decide +kernel
    | (with_reducible apply Keeps.next (raiseBlocked_keeps ..)); decide +kernel
    | (with_reducible apply Keeps.next (State.wr_keeps ..)); decide +kernel
    | (with_reducible apply Keeps.next (runtimeOpen_keeps ..)); decide +kernel
    | (with_reducible apply Keeps.next (State.putAgeQs_keeps ..)); decide +kernel
    | with_reducible apply Keeps.foldl
    | (intro _; beta_reduce)
    | split
    | dsimp only

theorem ageHourly_keeps (w : ℕ) (s : Sys2Proof.Machine.State) : Keeps 0x14c0046008000000000010200000000000000c03fe8000000000000000000700000000008c0000018 s (ageHourly w s) := by
  unfold ageHourly
  repeat' first
    | with_reducible exact Keeps.refl _ _
    | with_reducible apply forEach_keeps
    | with_reducible apply Keeps.ite
    | (with_reducible apply Keeps.next (ageHour_keeps ..)); decide +kernel
    | with_reducible apply Keeps.foldl
    | (intro _; beta_reduce)
    | split
    | dsimp only

end Sys2Proof.Machine
end

