-- ==== Sys2Proof/Laws/KeepsTimebase.lean ====
section
/-!
SUPPORT. What each operation of Machine/Timebase.lean may change.
-/
namespace Sys2Proof.Machine
set_option linter.unusedTactic false
set_option linter.unreachableTactic false
set_option Elab.async false

theorem State.modClocks_keeps (s : Sys2Proof.Machine.State) (k : ℕ) (g : Sys2Proof.Machine.Clock → Sys2Proof.Machine.Clock) : Keeps 0x80 s (State.modClocks s k g) := by
  unfold State.modClocks
  repeat' first
    | with_reducible exact Keeps.refl _ _
    | with_reducible apply Keeps.ite
    | (with_reducible apply Keeps.next (State.putClocks_keeps ..)); decide +kernel
    | with_reducible apply Keeps.foldl
    | (intro _; beta_reduce)
    | split
    | dsimp only

theorem State.modRmcs_keeps (s : Sys2Proof.Machine.State) (k : ℕ) (g : Sys2Proof.Machine.Rmc → Sys2Proof.Machine.Rmc) : Keeps 0x100 s (State.modRmcs s k g) := by
  unfold State.modRmcs
  repeat' first
    | with_reducible exact Keeps.refl _ _
    | with_reducible apply Keeps.ite
    | (with_reducible apply Keeps.next (State.putRmcs_keeps ..)); decide +kernel
    | with_reducible apply Keeps.foldl
    | (intro _; beta_reduce)
    | split
    | dsimp only

theorem rmcFollow_keeps (r : ℕ) (offset : ℤ) (s : Sys2Proof.Machine.State) : Keeps 0x100 s (rmcFollow r offset s) := by
  unfold rmcFollow
  repeat' first
    | with_reducible exact Keeps.refl _ _
    | with_reducible apply Keeps.ite
    | (with_reducible apply Keeps.next (State.modRmcs_keeps ..)); decide +kernel
    | with_reducible apply Keeps.foldl
    | (intro _; beta_reduce)
    | split
    | dsimp only

theorem rmcMeasure_keeps (r : ℕ) (offset : ℤ) (s : Sys2Proof.Machine.State) : Keeps 0x100 s (rmcMeasure r offset s) := by
  unfold rmcMeasure
  repeat' first
    | with_reducible exact Keeps.refl _ _
    | with_reducible apply Keeps.ite
    | (with_reducible apply Keeps.next (State.putRmcs_keeps ..)); decide +kernel
    | (with_reducible apply Keeps.next (rmcFollow_keeps ..)); decide +kernel
    | with_reducible apply Keeps.foldl
    | (intro _; beta_reduce)
    | split
    | dsimp only

theorem ptpSync_keeps (r : ℕ) (offset : ℤ) (utc : ℕ) (leaps : ℕ) (s : Sys2Proof.Machine.State) : Keeps 0x100 s (ptpSync r offset utc leaps s) := by
  unfold ptpSync
  repeat' first
    | with_reducible exact Keeps.refl _ _
    | with_reducible apply Keeps.ite
    | (with_reducible apply Keeps.next (rmcMeasure_keeps ..)); decide +kernel
    | (with_reducible apply Keeps.next (State.modRmcs_keeps ..)); decide +kernel
    | with_reducible apply Keeps.foldl
    | (intro _; beta_reduce)
    | split
    | dsimp only

theorem ppsEdge_keeps (r : ℕ) (offset : ℤ) (s : Sys2Proof.Machine.State) : Keeps 0x100 s (ppsEdge r offset s) := by
  unfold ppsEdge
  repeat' first
    | with_reducible exact Keeps.refl _ _
    | with_reducible apply Keeps.ite
    | (with_reducible apply Keeps.next (rmcMeasure_keeps ..)); decide +kernel
    | (with_reducible apply Keeps.next (State.modRmcs_keeps ..)); decide +kernel
    | with_reducible apply Keeps.foldl
    | (intro _; beta_reduce)
    | split
    | dsimp only

theorem referenceLoss_keeps (r : ℕ) (s : Sys2Proof.Machine.State) : Keeps 0x100 s (referenceLoss r s) := by
  unfold referenceLoss
  repeat' first
    | with_reducible exact Keeps.refl _ _
    | with_reducible apply Keeps.ite
    | (with_reducible apply Keeps.next (State.modRmcs_keeps ..)); decide +kernel
    | with_reducible apply Keeps.foldl
    | (intro _; beta_reduce)
    | split
    | dsimp only

theorem markerSend_keeps (s : Sys2Proof.Machine.State) : Keeps 0x100 s (markerSend s) := by
  unfold markerSend
  repeat' first
    | with_reducible exact Keeps.refl _ _
    | with_reducible apply Keeps.ite
    | (with_reducible apply Keeps.next (State.modRmcs_keeps ..)); decide +kernel
    | (with_reducible apply Keeps.next (State.emit_keeps ..)); decide +kernel
    | with_reducible apply Keeps.foldl
    | (intro _; beta_reduce)
    | split
    | dsimp only

theorem todSend_keeps (step : ℕ) (s : Sys2Proof.Machine.State) : Keeps 0x0 s (todSend step s) := by
  unfold todSend
  repeat' first
    | with_reducible exact Keeps.refl _ _
    | with_reducible apply forEach_keeps
    | with_reducible apply Keeps.ite
    | (with_reducible apply Keeps.next (State.emit_keeps ..)); decide +kernel
    | with_reducible apply Keeps.foldl
    | (intro _; beta_reduce)
    | split
    | dsimp only

theorem setQuality_keeps (w : ℕ) (q : ℕ) (src : ℕ) (s : Sys2Proof.Machine.State) : Keeps 0x20214c004600000000000000000000000000000000000000000000000000000000000000000000000010 s (setQuality w q src s) := by
  unfold setQuality
  repeat' first
    | with_reducible exact Keeps.refl _ _
    | with_reducible apply Keeps.ite
    | (with_reducible apply Keeps.next (State.raise_keeps ..)); decide +kernel
    | (with_reducible apply Keeps.next (State.setReg_keeps ..)); decide +kernel
    | (with_reducible apply Keeps.next (State.wr_keeps ..)); decide +kernel
    | with_reducible apply Keeps.foldl
    | (intro _; beta_reduce)
    | split
    | dsimp only

theorem holdQuality_keeps (w : ℕ) (src : ℕ) (s : Sys2Proof.Machine.State) : Keeps 0x20214c004600000000000000000000000000000000000000000000000000000000000000000000000010 s (holdQuality w src s) := by
  unfold holdQuality
  repeat' first
    | with_reducible exact Keeps.refl _ _
    | with_reducible apply Keeps.ite
    | (with_reducible apply Keeps.next (setQuality_keeps ..)); decide +kernel
    | with_reducible apply Keeps.foldl
    | (intro _; beta_reduce)
    | split
    | dsimp only

theorem showSlew_keeps (w : ℕ) (slewing : Bool) (s : Sys2Proof.Machine.State) : Keeps 0xa000000000000000000000000000000000000000000000000000000000000000000000000000000000 s (showSlew w slewing s) := by
  unfold showSlew
  repeat' first
    | with_reducible exact Keeps.refl _ _
    | with_reducible apply Keeps.ite
    | (with_reducible apply Keeps.next (State.setReg_keeps ..)); decide +kernel
    | (with_reducible apply Keeps.next (State.wr_keeps ..)); decide +kernel
    | with_reducible apply Keeps.foldl
    | (intro _; beta_reduce)
    | split
    | dsimp only

theorem takeUtc_keeps (w : ℕ) (s : Sys2Proof.Machine.State) : Keeps 0x20000000000000000000000000000000000000000000000000000000000000000000000000000000000 s (takeUtc w s) := by
  unfold takeUtc
  repeat' first
    | with_reducible exact Keeps.refl _ _
    | with_reducible apply Keeps.ite
    | (with_reducible apply Keeps.next (State.setReg_keeps ..)); decide +kernel
    | with_reducible apply Keeps.foldl
    | (intro _; beta_reduce)
    | split
    | dsimp only

theorem slew_keeps (w : ℕ) (offset : ℤ) (fast : Bool) (s : Sys2Proof.Machine.State) : Keeps 0xa000000000000000000000000000000000000000000000000000000000000000000000000000000080 s (slew w offset fast s) := by
  unfold slew
  repeat' first
    | with_reducible exact Keeps.refl _ _
    | with_reducible apply Keeps.ite
    | (with_reducible apply Keeps.next (State.modClocks_keeps ..)); decide +kernel
    | (with_reducible apply Keeps.next (showSlew_keeps ..)); decide +kernel
    | with_reducible apply Keeps.foldl
    | (intro _; beta_reduce)
    | split
    | dsimp only

theorem markerAcquired_keeps (w : ℕ) (first : Bool) (s : Sys2Proof.Machine.State) : Keeps 0x3ce14c004600000000000000000000000000000000000000000000000000000000000000000000000090 s (markerAcquired w first s) := by
  unfold markerAcquired
  repeat' first
    | with_reducible exact Keeps.refl _ _
    | with_reducible apply Keeps.ite
    | (with_reducible apply Keeps.next (State.raise_keeps ..)); decide +kernel
    | (with_reducible apply Keeps.next (State.setReg_keeps ..)); decide +kernel
    | (with_reducible apply Keeps.next (showSlew_keeps ..)); decide +kernel
    | (with_reducible apply Keeps.next (State.modClocks_keeps ..)); decide +kernel
    | (with_reducible apply Keeps.next (holdQuality_keeps ..)); decide +kernel
    | (with_reducible apply Keeps.next (setQuality_keeps ..)); decide +kernel
    | (with_reducible apply Keeps.next (State.wr_keeps ..)); decide +kernel
    | (with_reducible apply Keeps.next (State.bump_keeps ..)); decide +kernel
    | (with_reducible apply Keeps.next (slew_keeps ..)); decide +kernel
    | with_reducible apply Keeps.foldl
    | (intro _; beta_reduce)
    | split
    | dsimp only

theorem markerLost_keeps (w : ℕ) (s : Sys2Proof.Machine.State) : Keeps 0x24a14c004600000000000000000000000000000000000000000000000000000000000000000000000090 s (markerLost w s) := by
  unfold markerLost
  repeat' first
    | with_reducible exact Keeps.refl _ _
    | with_reducible apply Keeps.ite
    | (with_reducible apply Keeps.next (State.raise_keeps ..)); decide +kernel
    | (with_reducible apply Keeps.next (showSlew_keeps ..)); decide +kernel
    | (with_reducible apply Keeps.next (State.modClocks_keeps ..)); decide +kernel
    | (with_reducible apply Keeps.next (setQuality_keeps ..)); decide +kernel
    | (with_reducible apply Keeps.next (State.putClocks_keeps ..)); decide +kernel
    | (with_reducible apply Keeps.next (State.bump_keeps ..)); decide +kernel
    | (with_reducible apply Keeps.next (State.wr_keeps ..)); decide +kernel
    | with_reducible apply Keeps.foldl
    | (intro _; beta_reduce)
    | split
    | dsimp only

theorem markerFollow_keeps (w : ℕ) (s : Sys2Proof.Machine.State) : Keeps 0x24e14c004600000000000000000000000000000000000000000000000000000000000000000000000090 s (markerFollow w s) := by
  unfold markerFollow
  repeat' first
    | with_reducible exact Keeps.refl _ _
    | with_reducible apply Keeps.ite
    | (with_reducible apply Keeps.next (markerLost_keeps ..)); decide +kernel
    | (with_reducible apply Keeps.next (State.modClocks_keeps ..)); decide +kernel
    | (with_reducible apply Keeps.next (State.setReg_keeps ..)); decide +kernel
    | (with_reducible apply Keeps.next (holdQuality_keeps ..)); decide +kernel
    | (with_reducible apply Keeps.next (setQuality_keeps ..)); decide +kernel
    | (with_reducible apply Keeps.next (State.wr_keeps ..)); decide +kernel
    | (with_reducible apply Keeps.next (slew_keeps ..)); decide +kernel
    | with_reducible apply Keeps.foldl
    | (intro _; beta_reduce)
    | split
    | dsimp only

theorem marker_keeps (w : ℕ) (s : Sys2Proof.Machine.State) : Keeps 0x3ee14c004600000000000000000000000000000000000000000000000000000000000000000000000090 s (marker w s) := by
  unfold marker
  repeat' first
    | with_reducible exact Keeps.refl _ _
    | with_reducible apply Keeps.ite
    | (with_reducible apply Keeps.next (markerAcquired_keeps ..)); decide +kernel
    | (with_reducible apply Keeps.next (State.modClocks_keeps ..)); decide +kernel
    | (with_reducible apply Keeps.next (markerFollow_keeps ..)); decide +kernel
    | (with_reducible apply Keeps.next (State.bump_keeps ..)); decide +kernel
    | (with_reducible apply Keeps.next (State.wr_keeps ..)); decide +kernel
    | (with_reducible apply Keeps.next (takeUtc_keeps ..)); decide +kernel
    | with_reducible apply Keeps.foldl
    | (intro _; beta_reduce)
    | split
    | dsimp only

theorem markerMissing_keeps (w : ℕ) (s : Sys2Proof.Machine.State) : Keeps 0x24a14c004600000000000000000000000000000000000000000000000000000000000000000000000090 s (markerMissing w s) := by
  unfold markerMissing
  repeat' first
    | with_reducible exact Keeps.refl _ _
    | with_reducible apply Keeps.ite
    | (with_reducible apply Keeps.next (markerLost_keeps ..)); decide +kernel
    | (with_reducible apply Keeps.next (State.modClocks_keeps ..)); decide +kernel
    | with_reducible apply Keeps.foldl
    | (intro _; beta_reduce)
    | split
    | dsimp only

theorem todFrame_keeps (w : ℕ) (bs : List ℕ) (s : Sys2Proof.Machine.State) : Keeps 0x24214c004600000000000000000000000000000000000000000000000000000000000000000000000090 s (todFrame w bs s) := by
  unfold todFrame
  repeat' first
    | with_reducible exact Keeps.refl _ _
    | with_reducible apply Keeps.ite
    | (with_reducible apply Keeps.next (State.modClocks_keeps ..)); decide +kernel
    | (with_reducible apply Keeps.next (setQuality_keeps ..)); decide +kernel
    | (with_reducible apply Keeps.next (State.wr_keeps ..)); decide +kernel
    | (with_reducible apply Keeps.next (State.bump_keeps ..)); decide +kernel
    | with_reducible apply Keeps.foldl
    | (intro _; beta_reduce)
    | split
    | dsimp only

theorem boundExceeded_keeps (u : Sys2Proof.TimeUnit) (s : Sys2Proof.Machine.State) : Keeps 0x20214c004600000000000000000000000000000000000000000000000000000000000000000000000110 s (boundExceeded u s) := by
  unfold boundExceeded
  repeat' first
    | with_reducible exact Keeps.refl _ _
    | with_reducible apply Keeps.ite
    | (with_reducible apply Keeps.next (State.modRmcs_keeps ..)); decide +kernel
    | (with_reducible apply Keeps.next (setQuality_keeps ..)); decide +kernel
    | with_reducible apply Keeps.foldl
    | (intro _; beta_reduce)
    | split
    | dsimp only

theorem tbCold_keeps (w : ℕ) (s : Sys2Proof.Machine.State) : Keeps 0x80 s (tbCold w s) := by
  unfold tbCold
  repeat' first
    | with_reducible exact Keeps.refl _ _
    | with_reducible apply Keeps.ite
    | (with_reducible apply Keeps.next (State.putClocks_keeps ..)); decide +kernel
    | with_reducible apply Keeps.foldl
    | (intro _; beta_reduce)
    | split
    | dsimp only

theorem tbWarm_keeps (w : ℕ) (s : Sys2Proof.Machine.State) : Keeps 0x20a14c004600000000000000000000000000000000000000000000000000000000000000000000000090 s (tbWarm w s) := by
  unfold tbWarm
  repeat' first
    | with_reducible exact Keeps.refl _ _
    | with_reducible apply Keeps.ite
    | (with_reducible apply Keeps.next (showSlew_keeps ..)); decide +kernel
    | (with_reducible apply Keeps.next (State.modClocks_keeps ..)); decide +kernel
    | (with_reducible apply Keeps.next (setQuality_keeps ..)); decide +kernel
    | (with_reducible apply Keeps.next (State.wr_keeps ..)); decide +kernel
    | with_reducible apply Keeps.foldl
    | (intro _; beta_reduce)
    | split
    | dsimp only

end Sys2Proof.Machine
end

