-- ==== Sys2Proof/Laws/KeepsBringup.lean ====
section
/-!
SUPPORT. What each operation of Machine/Bringup.lean may change.
-/
namespace Sys2Proof.Machine
set_option linter.unusedTactic false
set_option linter.unreachableTactic false
set_option Elab.async false

theorem fwJournal_keeps (part : ℕ) (inst : ℕ) (slot : ℕ) (outcome : ℕ) (old : ℕ) (s : Sys2Proof.Machine.State) : Keeps 0x14c004600000000000000000000000000000000000000000000000000000070000001000000000018 s (fwJournal part inst slot outcome old s) := by
  unfold fwJournal
  repeat' first
    | with_reducible exact Keeps.refl _ _
    | with_reducible apply Keeps.ite
    | (with_reducible apply Keeps.next (State.modPlanner_keeps ..)); decide +kernel
    | (with_reducible apply Keeps.next (State.journal_keeps ..)); decide +kernel
    | with_reducible apply Keeps.foldl
    | (intro _; beta_reduce)
    | split
    | dsimp only

theorem fwSync_keeps (w : ℕ) (s : Sys2Proof.Machine.State) : Keeps 0x18000000000000000000000000000000000000000000000000000000000000000000400000000000000000 s (fwSync w s) := by
  unfold fwSync
  repeat' first
    | with_reducible exact Keeps.refl _ _
    | with_reducible apply forEach_keeps
    | with_reducible apply Keeps.ite
    | (with_reducible apply Keeps.next (State.wr_keeps ..)); decide +kernel
    | (with_reducible apply Keeps.next (State.setReg_keeps ..)); decide +kernel
    | with_reducible apply Keeps.foldl
    | (intro _; beta_reduce)
    | split
    | dsimp only

theorem State.modFws_keeps (s : Sys2Proof.Machine.State) (k : ℕ) (g : Sys2Proof.Machine.FwPart → Sys2Proof.Machine.FwPart) : Keeps 0x20000000000 s (State.modFws s k g) := by
  unfold State.modFws
  repeat' first
    | with_reducible exact Keeps.refl _ _
    | with_reducible apply Keeps.ite
    | (with_reducible apply Keeps.next (State.putFws_keeps ..)); decide +kernel
    | with_reducible apply Keeps.foldl
    | (intro _; beta_reduce)
    | split
    | dsimp only

theorem fwPass_keeps (part : ℕ) (inst : ℕ) (s : Sys2Proof.Machine.State) : Keeps 0x14c004600000000000000000000000000000000000000000000000000000070000001020000000018 s (fwPass part inst s) := by
  unfold fwPass
  repeat' first
    | with_reducible exact Keeps.refl _ _
    | with_reducible apply Keeps.ite
    | (with_reducible apply Keeps.next (State.putFws_keeps ..)); decide +kernel
    | (with_reducible apply Keeps.next (fwJournal_keeps ..)); decide +kernel
    | with_reducible apply Keeps.foldl
    | (intro _; beta_reduce)
    | split
    | dsimp only

theorem fwFail_keeps (part : ℕ) (inst : ℕ) (s : Sys2Proof.Machine.State) : Keeps 0x14c004600000000000000000000000000000000000000000000000000000070000001020000000018 s (fwFail part inst s) := by
  unfold fwFail
  repeat' first
    | with_reducible exact Keeps.refl _ _
    | with_reducible apply Keeps.ite
    | (with_reducible apply Keeps.next (State.putFws_keeps ..)); decide +kernel
    | (with_reducible apply Keeps.next (fwJournal_keeps ..)); decide +kernel
    | with_reducible apply Keeps.foldl
    | (intro _; beta_reduce)
    | split
    | dsimp only

theorem bootSlot_keeps (w : ℕ) (s : Sys2Proof.Machine.State) : Keeps 0x20000000000 s (bootSlot w s) := by
  unfold bootSlot
  repeat' first
    | with_reducible exact Keeps.refl _ _
    | with_reducible apply Keeps.ite
    | (with_reducible apply Keeps.next (State.modFws_keeps ..)); decide +kernel
    | with_reducible apply Keeps.foldl
    | (intro _; beta_reduce)
    | split
    | dsimp only

theorem resetRegs_keeps (w : ℕ) (keep : List Sys2Proof.Machine.Reg) (s : Sys2Proof.Machine.State) : Keeps 0xffffffffffffffffffffffffffffffffffffffffffffffffffffffffffffffffffffffffffffffff0000000000000002 s (resetRegs w keep s) := by
  unfold resetRegs
  repeat' first
    | with_reducible exact Keeps.refl _ _
    | with_reducible apply Keeps.ite
    | (with_reducible apply Keeps.next (State.withWings_keeps _ _ (fun h => mrises_filter _ _ _ h))); decide +kernel
    | (with_reducible apply Keeps.next (State.withRegs_keeps _ _ (fun h => mrises_filter _ _ _ h))); decide +kernel
    | with_reducible apply Keeps.foldl
    | (intro _; beta_reduce)
    | split
    | dsimp only

theorem dropRunning_keeps (w : Nat) (s : State) : Keeps 0x323fdffe75 s (dropRunning w s) := by
  unfold dropRunning
  refine Keeps.next (State.withAtns_keeps _ _ (fun h => mwf_filter _ _ _ h)) (by decide +kernel) ?_
  refine Keeps.next (State.withChans_keeps _ _ (fun h => mwf_filter _ _ _ h)) (by decide +kernel) ?_
  refine Keeps.next (State.withHifs_keeps _ _ (fun h => mwf_mmap _ _ _ h)) (by decide +kernel) ?_
  refine Keeps.next (State.withLatches_keeps _ _ (fun h => mwf_filter _ _ _ h)) (by decide +kernel) ?_
  refine Keeps.next (State.withWarming_keeps _ _ (fun h => mwf_filter _ _ _ h)) (by decide +kernel) ?_
  refine Keeps.next (State.withThermChs_keeps _ _ (fun h => mwf_filter _ _ _ h)) (by decide +kernel) ?_
  refine Keeps.next (State.withMeters_keeps _ _ (fun h => mwf_filter _ _ _ h)) (by decide +kernel) ?_
  refine Keeps.next (State.withParks_keeps _ _ (fun h => mwf_filter _ _ _ h)) (by decide +kernel) ?_
  refine Keeps.next (State.withLoftPoison_keeps _ _ (fun h => h.filter _)) (by decide +kernel) ?_
  refine Keeps.next (State.withLoft_keeps _ _ (fun h => mwf_filter _ _ _ h)) (by decide +kernel) ?_
  refine Keeps.next (State.withPchs_keeps _ _ (fun h => mwf_filter _ _ _ h)) (by decide +kernel) ?_
  refine Keeps.next (State.withLofts_keeps _ _ (fun h => mwf_filter _ _ _ h)) (by decide +kernel) ?_
  refine Keeps.next (State.withCueUnits_keeps _ _ (fun h => mwf_filter _ _ _ h)) (by decide +kernel) ?_
  refine Keeps.next (State.withSlots_keeps _ _ (fun h => mwf_filter _ _ _ h)) (by decide +kernel) ?_
  refine Keeps.next (State.withPushes_keeps _ _ (fun h => mwf_filter _ _ _ h)) (by decide +kernel) ?_
  refine Keeps.next (State.withLoads_keeps _ _ (fun h => mwf_filter _ _ _ h)) (by decide +kernel) ?_
  refine Keeps.next (State.withShadows_keeps _ _ (fun h => mwf_filter _ _ _ h)) (by decide +kernel) ?_
  refine Keeps.next (resetRecvs_keeps ..) (by decide +kernel) ?_
  refine Keeps.next (resetSends_keeps ..) (by decide +kernel) ?_
  refine Keeps.next (State.withReplays_keeps _ _ (fun h => mwf_filter _ _ _ h)) (by decide +kernel) ?_
  refine Keeps.next (State.withInjects_keeps _ _ (fun h => mwf_filter _ _ _ h)) (by decide +kernel) ?_
  refine Keeps.next (State.withFabricCredits_keeps _ _ (fun h => mwf_filter _ _ _ h)) (by decide +kernel) ?_
  refine Keeps.next (State.withArbs_keeps _ _ (fun h => mwf_filter _ _ _ h)) (by decide +kernel) ?_
  refine Keeps.next (State.withLinks_keeps _ _ (fun h => mwf_filter _ _ _ h)) (by decide +kernel) ?_
  refine Keeps.next (State.withSemas_keeps _ _ (fun h => mwf_filter _ _ _ h)) (by decide +kernel) ?_
  refine Keeps.next (State.withSeSlots_keeps _ _ (fun h => mwf_filter _ _ _ h)) (by decide +kernel) ?_
  refine Keeps.next (State.withResults_keeps _ _ (fun h => mwf_filter _ _ _ h)) (by decide +kernel) ?_
  refine Keeps.next (State.withParts_keeps _ _ (fun h => mwf_filter _ _ _ h)) (by decide +kernel) ?_
  refine Keeps.next (State.withCores_keeps _ _ (fun h => mwf_filter _ _ _ h)) (by decide +kernel) ?_
  exact Keeps.refl _ _

theorem trimDoms_keeps (w : ℕ) (cold : Bool) (s : Sys2Proof.Machine.State) : Keeps 0x40000000 s (trimDoms w cold s) := by
  unfold trimDoms
  repeat' first
    | with_reducible exact Keeps.refl _ _
    | with_reducible apply Keeps.ite
    | (with_reducible apply Keeps.next (State.withDoms_keeps _ _ (fun h => mwf_filter _ _ _ h))); decide +kernel
    | (with_reducible apply Keeps.next (State.withDoms_keeps _ _ (fun h => mwf_mmap _ _ _ h))); decide +kernel
    | with_reducible apply Keeps.foldl
    | (intro _; beta_reduce)
    | split
    | dsimp only

theorem journalStart_keeps (w : ℕ) (cold : Bool) (s : Sys2Proof.Machine.State) : Keeps 0x170000000000000000008 s (journalStart w cold s) := by
  unfold journalStart
  repeat' first
    | with_reducible exact Keeps.refl _ _
    | with_reducible apply Keeps.ite
    | (with_reducible apply Keeps.next (State.wr_keeps ..)); decide +kernel
    | (with_reducible apply Keeps.next (State.putJournals_keeps ..)); decide +kernel
    | (with_reducible apply Keeps.next (State.jrnlSync_keeps ..)); decide +kernel
    | with_reducible apply Keeps.foldl
    | (intro _; beta_reduce)
    | split
    | dsimp only

theorem resetWafer_keeps (w : ℕ) (cold : Bool) (s : Sys2Proof.Machine.State) : Keeps 0xffffffffffffffffffffffffffffffffffffffffffffffffffffffffffffffffffffffffffffffff00000032ffdffe7f s (resetWafer w cold s) := by
  unfold resetWafer
  repeat' first
    | with_reducible exact Keeps.refl _ _
    | with_reducible apply forEach_keeps
    | with_reducible apply Keeps.ite
    | (with_reducible apply Keeps.next (atnStart_keeps ..)); decide +kernel
    | (with_reducible apply Keeps.next (State.wr_keeps ..)); decide +kernel
    | (with_reducible apply Keeps.next (trimDoms_keeps ..)); decide +kernel
    | (with_reducible apply Keeps.next (State.modLedgers_keeps ..)); decide +kernel
    | (with_reducible apply Keeps.next (resetRegs_keeps ..)); decide +kernel
    | (with_reducible apply Keeps.next (journalStart_keeps ..)); decide +kernel
    | (with_reducible apply Keeps.next (dropRunning_keeps ..)); decide +kernel
    | with_reducible apply Keeps.foldl
    | (intro _; beta_reduce)
    | split
    | dsimp only

theorem stopBringup_keeps (w : ℕ) (code : ℕ) (s : Sys2Proof.Machine.State) : Keeps 0x14c004600000000000000000000000000000000000800000000000000000000000000000100000010 s (stopBringup w code s) := by
  unfold stopBringup
  repeat' first
    | with_reducible exact Keeps.refl _ _
    | with_reducible apply Keeps.ite
    | (with_reducible apply Keeps.next (State.raise_keeps ..)); decide +kernel
    | (with_reducible apply Keeps.next (State.wr_keeps ..)); decide +kernel
    | (with_reducible apply Keeps.next (State.modBups_keeps ..)); decide +kernel
    | with_reducible apply Keeps.foldl
    | (intro _; beta_reduce)
    | split
    | dsimp only

theorem startHost_keeps (w : ℕ) (h : ℕ) (s : Sys2Proof.Machine.State) : Keeps 0x80000014c1ffec00000000060050700000000000000000008000000000002084000000100000203601ec270 s (startHost w h s) := by
  unfold startHost
  repeat' first
    | with_reducible exact Keeps.refl _ _
    | with_reducible apply Keeps.ite
    | (with_reducible apply Keeps.next (forceOne_keeps ..)); decide +kernel
    | (with_reducible apply Keeps.next (bootSlot_keeps ..)); decide +kernel
    | (with_reducible apply Keeps.next (State.wr_keeps ..)); decide +kernel
    | (with_reducible apply Keeps.next (tryRamp_keeps ..)); decide +kernel
    | (with_reducible apply Keeps.next (State.modBups_keeps ..)); decide +kernel
    | with_reducible apply Keeps.foldl
    | (intro _; beta_reduce)
    | split
    | dsimp only

theorem startSelected_keeps (w : ℕ) (s : Sys2Proof.Machine.State) : Keeps 0x80000014c1ffec00000000060050700000000000000000008000000000002084000000100000203601ec270 s (startSelected w s) := by
  unfold startSelected
  repeat' first
    | with_reducible exact Keeps.refl _ _
    | with_reducible apply Keeps.ite
    | (with_reducible apply Keeps.next (State.wr_keeps ..)); decide +kernel
    | (with_reducible apply Keeps.next (startHost_keeps ..)); decide +kernel
    | (with_reducible apply Keeps.next (State.modBups_keeps ..)); decide +kernel
    | with_reducible apply Keeps.foldl
    | (intro _; beta_reduce)
    | split
    | dsimp only

theorem startWafer_keeps (w : ℕ) (kind : Option ℕ) (s : Sys2Proof.Machine.State) : Keeps 0xffffffffffffffffffffffffffffffffffffffffffffffffffffffffffffffffffffffffffffffff00000233ffdffeff s (startWafer w kind s) := by
  unfold startWafer
  repeat' first
    | with_reducible exact Keeps.refl _ _
    | with_reducible apply State.when_keeps
    | with_reducible apply Keeps.ite
    | (with_reducible apply Keeps.next (tbCold_keeps ..)); decide +kernel
    | (with_reducible apply Keeps.next (startSelected_keeps ..)); decide +kernel
    | (with_reducible apply Keeps.next (State.putBups_keeps ..)); decide +kernel
    | (with_reducible apply Keeps.next (tbWarm_keeps ..)); decide +kernel
    | (with_reducible apply Keeps.next (State.wr_keeps ..)); decide +kernel
    | (with_reducible apply Keeps.next (State.setReg_keeps ..)); decide +kernel
    | (with_reducible apply Keeps.next (resetWafer_keeps ..)); decide +kernel
    | (with_reducible apply Keeps.next (capUpdate_keeps ..)); decide +kernel
    | with_reducible apply Keeps.foldl
    | (intro _; beta_reduce)
    | split
    | dsimp only

theorem unpower_keeps (w : ℕ) (s : Sys2Proof.Machine.State) : Keeps 0xffffffffffffffffffffffffffffffffffffffffffffffffffffffffffffffffffffffffffffffff00000873ffdffeff s (unpower w s) := by
  unfold unpower
  repeat' first
    | with_reducible exact Keeps.refl _ _
    | with_reducible apply Keeps.ite
    | (with_reducible apply Keeps.next (tbCold_keeps ..)); decide +kernel
    | (with_reducible apply Keeps.next (State.putBups_keeps ..)); decide +kernel
    | (with_reducible apply Keeps.next (pcieLost_keeps ..)); decide +kernel
    | (with_reducible apply Keeps.next (State.modWafers_keeps ..)); decide +kernel
    | (with_reducible apply Keeps.next (State.putTwis_keeps ..)); decide +kernel
    | (with_reducible apply Keeps.next (resetWafer_keeps ..)); decide +kernel
    | with_reducible apply Keeps.foldl
    | (intro _; beta_reduce)
    | split
    | dsimp only

theorem finishDown_keeps (w : ℕ) (s : Sys2Proof.Machine.State) : Keeps 0xffffffffffffffffffffffffffffffffffffffffffffffffffffffffffffffffffffffffffffffff00000a73ffdffeff s (finishDown w s) := by
  unfold finishDown
  repeat' first
    | with_reducible exact Keeps.refl _ _
    | with_reducible apply Keeps.ite
    | (with_reducible apply Keeps.next (startWafer_keeps ..)); decide +kernel
    | (with_reducible apply Keeps.next (State.modWafers_keeps ..)); decide +kernel
    | (with_reducible apply Keeps.next (unpower_keeps ..)); decide +kernel
    | with_reducible apply Keeps.foldl
    | (intro _; beta_reduce)
    | split
    | dsimp only

theorem settle_keeps (w : ℕ) (s : Sys2Proof.Machine.State) : Keeps 0xffffffffffffffffffffffffffffffffffffffffffffffffffffffffffffffffffffffffffffffff00000a73ffdffeff s (settle w s) := by
  unfold settle
  repeat' first
    | with_reducible exact Keeps.refl _ _
    | with_reducible apply Keeps.ite
    | (with_reducible apply Keeps.next (finishDown_keeps ..)); decide +kernel
    | (with_reducible apply Keeps.next (downStep_keeps ..)); decide +kernel
    | with_reducible apply Keeps.foldl
    | (intro _; beta_reduce)
    | split
    | dsimp only

theorem takeWaferDown_keeps (w : ℕ) (n : ℕ) (s : Sys2Proof.Machine.State) : Keeps 0xffffffffffffffffffffffffffffffffffffffffffffffffffffffffffffffffffffffffffffffff00000a73ffdffeff s (takeWaferDown w n s) := by
  unfold takeWaferDown
  repeat' first
    | with_reducible exact Keeps.refl _ _
    | with_reducible apply Keeps.ite
    | (with_reducible apply Keeps.next (State.modWafers_keeps ..)); decide +kernel
    | (with_reducible apply Keeps.next (settle_keeps ..)); decide +kernel
    | with_reducible apply Keeps.foldl
    | (intro _; beta_reduce)
    | split
    | dsimp only

theorem drainDone_keeps (w : ℕ) (d : ℕ) (s : Sys2Proof.Machine.State) : Keeps 0xffffffffffffffffffffffffffffffffffffffffffffffffffffffffffffffffffffffffffffffff00000a73ffdffeff s (drainDone w d s) := by
  unfold drainDone
  repeat' first
    | with_reducible exact Keeps.refl _ _
    | with_reducible apply Keeps.ite
    | (with_reducible apply Keeps.next (reachOff_keeps ..)); decide +kernel
    | (with_reducible apply Keeps.next (settle_keeps ..)); decide +kernel
    | (with_reducible apply Keeps.next (admitWaiting_keeps ..)); decide +kernel
    | (with_reducible apply Keeps.next (tryRamp_keeps ..)); decide +kernel
    | with_reducible apply Keeps.foldl
    | (intro _; beta_reduce)
    | split
    | dsimp only

theorem coldStart_keeps (w : ℕ) (bus : ℕ) (s : Sys2Proof.Machine.State) : Keeps 0xffffffffffffffffffffffffffffffffffffffffffffffffffffffffffffffffffffffffffffffff000002f3ffdffeff s (coldStart w bus s) := by
  unfold coldStart
  repeat' first
    | with_reducible exact Keeps.refl _ _
    | with_reducible apply forEach_keeps
    | with_reducible apply Keeps.ite
    | (with_reducible apply Keeps.next (startWafer_keeps ..)); decide +kernel
    | (with_reducible apply Keeps.next (State.wr_keeps ..)); decide +kernel
    | (with_reducible apply Keeps.next (State.modTmcs_keeps ..)); decide +kernel
    | (with_reducible apply Keeps.next (State.modWafers_keeps ..)); decide +kernel
    | with_reducible apply Keeps.foldl
    | (intro _; beta_reduce)
    | split
    | dsimp only

theorem endPhaseEdit_keeps (w : ℕ) (s : Sys2Proof.Machine.State) : Keeps 0x14c004600000000000000000000000000000000000000000000000000000070000000000080000018 s (endPhaseEdit w s) := by
  unfold endPhaseEdit
  repeat' first
    | with_reducible exact Keeps.refl _ _
    | with_reducible apply Keeps.ite
    | (with_reducible apply Keeps.next (closeEdit_keeps ..)); decide +kernel
    | with_reducible apply Keeps.foldl
    | (intro _; beta_reduce)
    | split
    | dsimp only

theorem warmStart1_keeps (w : ℕ) (s : Sys2Proof.Machine.State) : Keeps 0xffffffffffffffffffffffffffffffffffffffffffffffffffffffffffffffffffffffffffffffff00000a73ffdffeff s (warmStart1 w s) := by
  unfold warmStart1
  repeat' first
    | with_reducible exact Keeps.refl _ _
    | with_reducible apply forEach_keeps
    | with_reducible apply Keeps.ite
    | (with_reducible apply Keeps.next (takeWaferDown_keeps ..)); decide +kernel
    | (with_reducible apply Keeps.next (pcieLost_keeps ..)); decide +kernel
    | (with_reducible apply Keeps.next (State.wr_keeps ..)); decide +kernel
    | (with_reducible apply Keeps.next (endPhaseEdit_keeps ..)); decide +kernel
    | (with_reducible apply Keeps.next (State.modBups_keeps ..)); decide +kernel
    | with_reducible apply Keeps.foldl
    | (intro _; beta_reduce)
    | split
    | dsimp only

theorem trayPowerOff_keeps (w : ℕ) (s : Sys2Proof.Machine.State) : Keeps 0xffffffffffffffffffffffffffffffffffffffffffffffffffffffffffffffffffffffffffffffff00000af3ffdffeff s (trayPowerOff w s) := by
  unfold trayPowerOff
  repeat' first
    | with_reducible exact Keeps.refl _ _
    | with_reducible apply Keeps.ite
    | (with_reducible apply Keeps.next (State.modTmcs_keeps ..)); decide +kernel
    | (with_reducible apply Keeps.next (takeWaferDown_keeps ..)); decide +kernel
    | (with_reducible apply Keeps.next (State.modBups_keeps ..)); decide +kernel
    | with_reducible apply Keeps.foldl
    | (intro _; beta_reduce)
    | split
    | dsimp only

theorem busUndervolt_keeps (w : ℕ) (torn : Bool) (s : Sys2Proof.Machine.State) : Keeps 0xffffffffffffffffffffffffffffffffffffffffffffffffffffffffffffffffffffffffffffffff00000873ffdffeff s (busUndervolt w torn s) := by
  unfold busUndervolt
  repeat' first
    | with_reducible exact Keeps.refl _ _
    | with_reducible apply State.when_keeps
    | with_reducible apply Keeps.ite
    | (with_reducible apply Keeps.next (forceAll_keeps ..)); decide +kernel
    | (with_reducible apply Keeps.next (State.modLedgers_keeps ..)); decide +kernel
    | (with_reducible apply Keeps.next (unpower_keeps ..)); decide +kernel
    | with_reducible apply Keeps.foldl
    | (intro _; beta_reduce)
    | split
    | dsimp only

theorem anyFault_keeps (w : ℕ) (d : ℕ) (kind : ℕ) (volt : ℕ) (s : Sys2Proof.Machine.State) : Keeps 0xffffffffffffffffffffffffffffffffffffffffffffffffffffffffffffffffffffffffffffffff00000a73ffdffeff s (anyFault w d kind volt s) := by
  unfold anyFault
  repeat' first
    | with_reducible exact Keeps.refl _ _
    | with_reducible apply forEach_keeps
    | with_reducible apply Keeps.ite
    | (with_reducible apply Keeps.next (forceAll_keeps ..)); decide +kernel
    | (with_reducible apply Keeps.next (startWafer_keeps ..)); decide +kernel
    | (with_reducible apply Keeps.next (recordFault_keeps ..)); decide +kernel
    | (with_reducible apply Keeps.next (cutJob_keeps ..)); decide +kernel
    | (with_reducible apply Keeps.next (supplyFault_keeps ..)); decide +kernel
    | (with_reducible apply Keeps.next (pcieLost_keeps ..)); decide +kernel
    | (with_reducible apply Keeps.next (endPhaseEdit_keeps ..)); decide +kernel
    | (with_reducible apply Keeps.next (settle_keeps ..)); decide +kernel
    | (with_reducible apply Keeps.next (unpower_keeps ..)); decide +kernel
    | with_reducible apply Keeps.foldl
    | (intro _; beta_reduce)
    | split
    | dsimp only

theorem gateTimeout_keeps (w : ℕ) (d : ℕ) (volt : ℕ) (s : Sys2Proof.Machine.State) : Keeps 0xffffffffffffffffffffffffffffffffffffffffffffffffffffffffffffffffffffffffffffffff00000a73ffdffeff s (gateTimeout w d volt s) := by
  unfold gateTimeout
  repeat' first
    | with_reducible exact Keeps.refl _ _
    | with_reducible apply Keeps.ite
    | (with_reducible apply Keeps.next (anyFault_keeps ..)); decide +kernel
    | with_reducible apply Keeps.foldl
    | (intro _; beta_reduce)
    | split
    | dsimp only

theorem addFindings_keeps (w : ℕ) (phase : ℕ) (xs : List Sys2Proof.TestFinding) (s : Sys2Proof.Machine.State) : Keeps 0x14c004600000000000000000000000000000000302800000000000000000000000000000080000010 s (addFindings w phase xs s) := by
  unfold addFindings
  repeat' first
    | with_reducible exact Keeps.refl _ _
    | with_reducible apply forEach_keeps
    | with_reducible apply Keeps.ite
    | (with_reducible apply Keeps.next (appendFinding_keeps ..)); decide +kernel
    | with_reducible apply Keeps.foldl
    | (intro _; beta_reduce)
    | split
    | dsimp only

theorem openFinding_keeps (w : ℕ) (phase : ℕ) (ty : ℕ) (kind : ℕ) (ob : ℕ) (s : Sys2Proof.Machine.State) : Keeps 0x14c004600000000000000000000000000000000302800000000000000000000000000000080000010 s (openFinding w phase ty kind ob s) := by
  unfold openFinding
  repeat' first
    | with_reducible exact Keeps.refl _ _
    | with_reducible apply Keeps.ite
    | (with_reducible apply Keeps.next (State.fresh_keeps ..)); decide +kernel
    | (with_reducible apply Keeps.next (appendFinding_keeps ..)); decide +kernel
    | with_reducible apply Keeps.foldl
    | (intro _; beta_reduce)
    | split
    | dsimp only

theorem powerUp_keeps (w : ℕ) (ds : List ℕ) (s : Sys2Proof.Machine.State) : Keeps 0x14c004600000000000001030000000000000000000000000000000000000000000000000000000010 s (powerUp w ds s) := by
  unfold powerUp
  repeat' first
    | with_reducible exact Keeps.refl _ _
    | with_reducible apply forEach_keeps
    | with_reducible apply Keeps.ite
    | (with_reducible apply Keeps.next (State.wr_keeps ..)); decide +kernel
    | (with_reducible apply Keeps.next (admitWaiting_keeps ..)); decide +kernel
    | with_reducible apply Keeps.foldl
    | (intro _; beta_reduce)
    | split
    | dsimp only

theorem dropCondemned_keeps (w : ℕ) (s : Sys2Proof.Machine.State) : Keeps 0x80000014c1ffec00000000060050700000000000000000000000000000002084000000000000002601ec270 s (dropCondemned w s) := by
  unfold dropCondemned
  repeat' first
    | with_reducible exact Keeps.refl _ _
    | with_reducible apply forEach_keeps
    | with_reducible apply Keeps.ite
    | (with_reducible apply Keeps.next (forceDown_keeps ..)); decide +kernel
    | with_reducible apply Keeps.foldl
    | (intro _; beta_reduce)
    | split
    | dsimp only

theorem failedDoms_keeps (w : ℕ) (phase : ℕ) (ty : ℕ) (kind : ℕ) (lo : ℕ) (n : ℕ) (object : ℕ → ℕ) (s : Sys2Proof.Machine.State) : Keeps 0x14c004600000000000000000000000000000000302800000000000000000000000000000080000010 s (failedDoms w phase ty kind lo n object s) := by
  unfold failedDoms
  repeat' first
    | with_reducible exact Keeps.refl _ _
    | with_reducible apply forEach_keeps
    | with_reducible apply Keeps.ite
    | (with_reducible apply Keeps.next (openFinding_keeps ..)); decide +kernel
    | with_reducible apply Keeps.foldl
    | (intro _; beta_reduce)
    | split
    | dsimp only

theorem phaseReady_keeps (w : ℕ) (n : ℕ) (s : Sys2Proof.Machine.State) : Keeps 0x14c004600000000000000000000000000000000001800000000000000000070000000000180000018 s (phaseReady w n s) := by
  unfold phaseReady
  repeat' first
    | with_reducible exact Keeps.refl _ _
    | with_reducible apply Keeps.ite
    | (with_reducible apply Keeps.next (State.raise_keeps ..)); decide +kernel
    | (with_reducible apply Keeps.next (closeEdit_keeps ..)); decide +kernel
    | (with_reducible apply Keeps.next (State.wr_keeps ..)); decide +kernel
    | (with_reducible apply Keeps.next (State.wrSat_keeps ..)); decide +kernel
    | (with_reducible apply Keeps.next (State.modBups_keeps ..)); decide +kernel
    | with_reducible apply Keeps.foldl
    | (intro _; beta_reduce)
    | split
    | dsimp only

theorem hostCondemned_keeps (w : ℕ) (phase : ℕ) (s : Sys2Proof.Machine.State) : Keeps 0xffffffffffffffffffffffffffffffffffffffffffffffffffffffffffffffffffffffffffffffff00000a73ffdffeff s (hostCondemned w phase s) := by
  unfold hostCondemned
  repeat' first
    | with_reducible exact Keeps.refl _ _
    | with_reducible apply forEach_keeps
    | with_reducible apply Keeps.ite
    | (with_reducible apply Keeps.next (forceOne_keeps ..)); decide +kernel
    | (with_reducible apply Keeps.next (deriveLists_keeps ..)); decide +kernel
    | (with_reducible apply Keeps.next (closeEdit_keeps ..)); decide +kernel
    | (with_reducible apply Keeps.next (takeWaferDown_keeps ..)); decide +kernel
    | (with_reducible apply Keeps.next (pcieLost_keeps ..)); decide +kernel
    | (with_reducible apply Keeps.next (State.wr_keeps ..)); decide +kernel
    | (with_reducible apply Keeps.next (stopBringup_keeps ..)); decide +kernel
    | (with_reducible apply Keeps.next (State.modLedgers_keeps ..)); decide +kernel
    | (with_reducible apply Keeps.next (openFinding_keeps ..)); decide +kernel
    | (with_reducible apply Keeps.next (State.modBups_keeps ..)); decide +kernel
    | with_reducible apply Keeps.foldl
    | (intro _; beta_reduce)
    | split
    | dsimp only

theorem readStraps_keeps (w : ℕ) (straps : ℕ) (s : Sys2Proof.Machine.State) : Keeps 0x10000000000000000 s (readStraps w straps s) := by
  unfold readStraps
  repeat' first
    | with_reducible exact Keeps.refl _ _
    | with_reducible apply Keeps.ite
    | (with_reducible apply Keeps.next (State.wr_keeps ..)); decide +kernel
    | with_reducible apply Keeps.foldl
    | (intro _; beta_reduce)
    | split
    | dsimp only

theorem agreeFlags_keeps (w : ℕ) (s : Sys2Proof.Machine.State) : Keeps 0x14c004600000000000000000000000000000000302800000000000000000000000000000080000010 s (agreeFlags w s) := by
  unfold agreeFlags
  repeat' first
    | with_reducible exact Keeps.refl _ _
    | with_reducible apply forEach_keeps
    | with_reducible apply Keeps.ite
    | (with_reducible apply Keeps.next (State.modLedgers_keeps ..)); decide +kernel
    | (with_reducible apply Keeps.next (openFinding_keeps ..)); decide +kernel
    | with_reducible apply Keeps.foldl
    | (intro _; beta_reduce)
    | split
    | dsimp only

theorem phase0Ready_keeps (w : ℕ) (s : Sys2Proof.Machine.State) : Keeps 0x1800014c0046400000000000010200000000000000e03fd8000000000000000000704000010201c0000038 s (phase0Ready w s) := by
  unfold phase0Ready
  repeat' first
    | with_reducible exact Keeps.refl _ _
    | with_reducible apply forEach_keeps
    | with_reducible apply Keeps.ite
    | (with_reducible apply Keeps.next (State.wr_keeps ..)); decide +kernel
    | (with_reducible apply Keeps.next (ledgerSync_keeps ..)); decide +kernel
    | (with_reducible apply Keeps.next (State.raise_keeps ..)); decide +kernel
    | (with_reducible apply Keeps.next (deriveLists_keeps ..)); decide +kernel
    | (with_reducible apply Keeps.next (fwSync_keeps ..)); decide +kernel
    | (with_reducible apply Keeps.next (State.modHifs_keeps ..)); decide +kernel
    | (with_reducible apply Keeps.next (phaseReady_keeps ..)); decide +kernel
    | (with_reducible apply Keeps.next (setSkips_keeps ..)); decide +kernel
    | (with_reducible apply Keeps.next (fwPass_keeps ..)); decide +kernel
    | with_reducible apply Keeps.foldl
    | (intro _; beta_reduce)
    | split
    | dsimp only

theorem phase0_keeps (w : ℕ) (straps : ℕ) (ledgerOk : Bool) (s : Sys2Proof.Machine.State) : Keeps 0xffffffffffffffffffffffffffffffffffffffffffffffffffffffffffffffffffffffffffffffff00010a73ffdffeff s (phase0 w straps ledgerOk s) := by
  unfold phase0
  repeat' first
    | with_reducible exact Keeps.refl _ _
    | with_reducible apply Keeps.ite
    | (with_reducible apply Keeps.next (agreeFlags_keeps ..)); decide +kernel
    | (with_reducible apply Keeps.next (phase0Ready_keeps ..)); decide +kernel
    | (with_reducible apply Keeps.next (stopBringup_keeps ..)); decide +kernel
    | (with_reducible apply Keeps.next (State.modLedgers_keeps ..)); decide +kernel
    | (with_reducible apply Keeps.next (hostCondemned_keeps ..)); decide +kernel
    | (with_reducible apply Keeps.next (readStraps_keeps ..)); decide +kernel
    | (with_reducible apply Keeps.next (powerUp_keeps ..)); decide +kernel
    | with_reducible apply Keeps.foldl
    | (intro _; beta_reduce)
    | split
    | dsimp only

theorem hostTestFails_keeps (w : ℕ) (s : Sys2Proof.Machine.State) : Keeps 0xffffffffffffffffffffffffffffffffffffffffffffffffffffffffffffffffffffffffffffffff00010233ffdffeff s (hostTestFails w s) := by
  unfold hostTestFails
  repeat' first
    | with_reducible exact Keeps.refl _ _
    | with_reducible apply Keeps.ite
    | (with_reducible apply Keeps.next (startWafer_keeps ..)); decide +kernel
    | (with_reducible apply Keeps.next (forceOne_keeps ..)); decide +kernel
    | (with_reducible apply Keeps.next (closeEdit_keeps ..)); decide +kernel
    | (with_reducible apply Keeps.next (fwFail_keeps ..)); decide +kernel
    | (with_reducible apply Keeps.next (State.modLedgers_keeps ..)); decide +kernel
    | (with_reducible apply Keeps.next (startHost_keeps ..)); decide +kernel
    | (with_reducible apply Keeps.next (State.modBups_keeps ..)); decide +kernel
    | with_reducible apply Keeps.foldl
    | (intro _; beta_reduce)
    | split
    | dsimp only

theorem ppsTimeout_keeps (w : ℕ) (s : Sys2Proof.Machine.State) : Keeps 0x20214c004600000000000000000000000000000000000000000000000000000000000000000100000010 s (ppsTimeout w s) := by
  unfold ppsTimeout
  repeat' first
    | with_reducible exact Keeps.refl _ _
    | with_reducible apply Keeps.ite
    | (with_reducible apply Keeps.next (setQuality_keeps ..)); decide +kernel
    | (with_reducible apply Keeps.next (State.modBups_keeps ..)); decide +kernel
    | with_reducible apply Keeps.foldl
    | (intro _; beta_reduce)
    | split
    | dsimp only

theorem phase1_keeps (w : ℕ) (xs : List Sys2Proof.TestFinding) (s : Sys2Proof.Machine.State) : Keeps 0xffffffffffffffffffffffffffffffffffffffffffffffffffffffffffffffffffffffffffffffff00000a73ffdffeff s (phase1 w xs s) := by
  unfold phase1
  repeat' first
    | with_reducible exact Keeps.refl _ _
    | with_reducible apply Keeps.ite
    | (with_reducible apply Keeps.next (dropCondemned_keeps ..)); decide +kernel
    | (with_reducible apply Keeps.next (State.wr_keeps ..)); decide +kernel
    | (with_reducible apply Keeps.next (phaseReady_keeps ..)); decide +kernel
    | (with_reducible apply Keeps.next (addFindings_keeps ..)); decide +kernel
    | (with_reducible apply Keeps.next (hostCondemned_keeps ..)); decide +kernel
    | (with_reducible apply Keeps.next (failedDoms_keeps ..)); decide +kernel
    | (with_reducible apply Keeps.next (powerUp_keeps ..)); decide +kernel
    | with_reducible apply Keeps.foldl
    | (intro _; beta_reduce)
    | split
    | dsimp only

theorem phase2_keeps (w : ℕ) (xs : List Sys2Proof.TestFinding) (s : Sys2Proof.Machine.State) : Keeps 0x80000014c1ffec00000000060050700000000000000003038000000000002084000700000000003e01ec278 s (phase2 w xs s) := by
  unfold phase2
  repeat' first
    | with_reducible exact Keeps.refl _ _
    | with_reducible apply Keeps.ite
    | (with_reducible apply Keeps.next (dropCondemned_keeps ..)); decide +kernel
    | (with_reducible apply Keeps.next (addFindings_keeps ..)); decide +kernel
    | (with_reducible apply Keeps.next (phaseReady_keeps ..)); decide +kernel
    | (with_reducible apply Keeps.next (failedDoms_keeps ..)); decide +kernel
    | (with_reducible apply Keeps.next (powerUp_keeps ..)); decide +kernel
    | with_reducible apply Keeps.foldl
    | (intro _; beta_reduce)
    | split
    | dsimp only

theorem phase3_keeps (w : ℕ) (xs : List Sys2Proof.TestFinding) (s : Sys2Proof.Machine.State) : Keeps 0x80000014c1ffec00000000060050700000000000000003038000000000002084000700000000003e01ec278 s (phase3 w xs s) := by
  unfold phase3
  repeat' first
    | with_reducible exact Keeps.refl _ _
    | with_reducible apply Keeps.ite
    | (with_reducible apply Keeps.next (dropCondemned_keeps ..)); decide +kernel
    | (with_reducible apply Keeps.next (addFindings_keeps ..)); decide +kernel
    | (with_reducible apply Keeps.next (phaseReady_keeps ..)); decide +kernel
    | (with_reducible apply Keeps.next (failedDoms_keeps ..)); decide +kernel
    | with_reducible apply Keeps.foldl
    | (intro _; beta_reduce)
    | split
    | dsimp only

theorem portTrainTimeout_keeps (w : ℕ) (p : ℕ) (s : Sys2Proof.Machine.State) : Keeps 0x100000000 s (portTrainTimeout w p s) := by
  unfold portTrainTimeout
  repeat' first
    | with_reducible exact Keeps.refl _ _
    | with_reducible apply Keeps.ite
    | (with_reducible apply Keeps.next (State.modBups_keeps ..)); decide +kernel
    | with_reducible apply Keeps.foldl
    | (intro _; beta_reduce)
    | split
    | dsimp only

theorem calibrate_keeps (w : ℕ) (phase : ℕ) (c : Sys2Proof.Calibration) (s : Sys2Proof.Machine.State) : Keeps 0x14c004600000000000000000000000000000000302800000000000000002000000000000880000010 s (calibrate w phase c s) := by
  unfold calibrate
  repeat' first
    | with_reducible exact Keeps.refl _ _
    | with_reducible apply Keeps.ite
    | (with_reducible apply Keeps.next (trimCheck_keeps ..)); decide +kernel
    | (with_reducible apply Keeps.next (openFinding_keeps ..)); decide +kernel
    | (with_reducible apply Keeps.next (State.setReg_keeps ..)); decide +kernel
    | with_reducible apply Keeps.foldl
    | (intro _; beta_reduce)
    | split
    | dsimp only

theorem trimLimited_keeps (w : ℕ) (s : Sys2Proof.Machine.State) : Keeps 0x800000000000000000000 s (trimLimited w s) := by
  unfold trimLimited
  repeat' first
    | with_reducible exact Keeps.refl _ _
    | with_reducible apply Keeps.ite
    | (with_reducible apply Keeps.next (State.wr_keeps ..)); decide +kernel
    | with_reducible apply Keeps.foldl
    | (intro _; beta_reduce)
    | split
    | dsimp only

theorem phase4Steps_keeps (w : ℕ) (phase : ℕ) (sel : ℕ → Bool) (xs : List Sys2Proof.TestFinding) (cs : List Sys2Proof.Calibration) (ms : List Sys2Proof.MonSample) (s : Sys2Proof.Machine.State) : Keeps 0x14c004601400000000001030000000000000020302800000000000000002800000000000c80000010 s (phase4Steps w phase sel xs cs ms s) := by
  unfold phase4Steps
  repeat' first
    | with_reducible exact Keeps.refl _ _
    | with_reducible apply forEach_keeps
    | with_reducible apply Keeps.ite
    | (with_reducible apply Keeps.next (ageBaseline_keeps ..)); decide +kernel
    | (with_reducible apply Keeps.next (trimLimited_keeps ..)); decide +kernel
    | (with_reducible apply Keeps.next (calibrate_keeps ..)); decide +kernel
    | (with_reducible apply Keeps.next (addFindings_keeps ..)); decide +kernel
    | (with_reducible apply Keeps.next (setSkips_keeps ..)); decide +kernel
    | (with_reducible apply Keeps.next (powerUp_keeps ..)); decide +kernel
    | with_reducible apply Keeps.foldl
    | (intro _; beta_reduce)
    | split
    | dsimp only

theorem phase4_keeps (w : ℕ) (xs : List Sys2Proof.TestFinding) (cs : List Sys2Proof.Calibration) (ms : List Sys2Proof.MonSample) (s : Sys2Proof.Machine.State) : Keeps 0x14c004601400000000001030000000000000020302800000000000000002800000000000d80000010 s (phase4 w xs cs ms s) := by
  unfold phase4
  repeat' first
    | with_reducible exact Keeps.refl _ _
    | with_reducible apply Keeps.ite
    | (with_reducible apply Keeps.next (phase4Steps_keeps ..)); decide +kernel
    | (with_reducible apply Keeps.next (State.modBups_keeps ..)); decide +kernel
    | with_reducible apply Keeps.foldl
    | (intro _; beta_reduce)
    | split
    | dsimp only

theorem markUnused_keeps (w : ℕ) (f : ℕ) (s : Sys2Proof.Machine.State) : Keeps 0x400000000000000000000200 s (markUnused w f s) := by
  unfold markUnused
  repeat' first
    | with_reducible exact Keeps.refl _ _
    | with_reducible apply forEach_keeps
    | with_reducible apply Keeps.ite
    | (with_reducible apply Keeps.next (State.setCore_keeps ..)); decide +kernel
    | with_reducible apply Keeps.foldl
    | (intro _; beta_reduce)
    | split
    | dsimp only

theorem bringupDone_keeps (w : ℕ) (xs : List Sys2Proof.TestFinding) (s : Sys2Proof.Machine.State) : Keeps 0x80000014c1ffec00000000060050700000000000000c03ff8000000000002084000700000000043e01ec278 s (bringupDone w xs s) := by
  unfold bringupDone
  repeat' first
    | with_reducible exact Keeps.refl _ _
    | with_reducible apply forEach_keeps
    | with_reducible apply Keeps.ite
    | (with_reducible apply Keeps.next (markUnused_keeps ..)); decide +kernel
    | (with_reducible apply Keeps.next (dropCondemned_keeps ..)); decide +kernel
    | (with_reducible apply Keeps.next (deriveLists_keeps ..)); decide +kernel
    | (with_reducible apply Keeps.next (State.modWafers_keeps ..)); decide +kernel
    | (with_reducible apply Keeps.next (phaseReady_keeps ..)); decide +kernel
    | (with_reducible apply Keeps.next (addFindings_keeps ..)); decide +kernel
    | (with_reducible apply Keeps.next (failedDoms_keeps ..)); decide +kernel
    | (with_reducible apply Keeps.next (State.modBups_keeps ..)); decide +kernel
    | with_reducible apply Keeps.foldl
    | (intro _; beta_reduce)
    | split
    | dsimp only

theorem phaseSlow_keeps (w : ℕ) (s : Sys2Proof.Machine.State) : Keeps 0xffffffffffffffffffffffffffffffffffffffffffffffffffffffffffffffffffffffffffffffff00010233ffdffeff s (phaseSlow w s) := by
  unfold phaseSlow
  repeat' first
    | with_reducible exact Keeps.refl _ _
    | with_reducible apply Keeps.ite
    | (with_reducible apply Keeps.next (State.raise_keeps ..)); decide +kernel
    | (with_reducible apply Keeps.next (hostTestFails_keeps ..)); decide +kernel
    | (with_reducible apply Keeps.next (State.modBups_keeps ..)); decide +kernel
    | with_reducible apply Keeps.foldl
    | (intro _; beta_reduce)
    | split
    | dsimp only

theorem ledgerFetch_keeps (w : ℕ) (slot : ℕ) (s : Sys2Proof.Machine.State) : Keeps 0xc00000000000000000000000000000000080000000 s (ledgerFetch w slot s) := by
  unfold ledgerFetch
  repeat' first
    | with_reducible exact Keeps.refl _ _
    | with_reducible apply Keeps.ite
    | (with_reducible apply Keeps.next (State.wr_keeps ..)); decide +kernel
    | (with_reducible apply Keeps.next (State.modLedgers_keeps ..)); decide +kernel
    | (with_reducible apply Keeps.next (State.setReg_keeps ..)); decide +kernel
    | with_reducible apply Keeps.foldl
    | (intro _; beta_reduce)
    | split
    | dsimp only

theorem ledgerFetched_keeps (w : ℕ) (s : Sys2Proof.Machine.State) : Keeps 0x1800000000000000000000000000000000080000000 s (ledgerFetched w s) := by
  unfold ledgerFetched
  repeat' first
    | with_reducible exact Keeps.refl _ _
    | with_reducible apply forEach_keeps
    | with_reducible apply Keeps.ite
    | (with_reducible apply Keeps.next (State.setReg_keeps ..)); decide +kernel
    | (with_reducible apply Keeps.next (State.putLedgers_keeps ..)); decide +kernel
    | (with_reducible apply Keeps.next (State.wr_keeps ..)); decide +kernel
    | with_reducible apply Keeps.foldl
    | (intro _; beta_reduce)
    | split
    | dsimp only

theorem fdrStart_keeps (w : ℕ) (path : ℕ) (s : Sys2Proof.Machine.State) : Keeps 0x14c00460000000000000000000000000000000c300800000000000000000000000000000180000010 s (fdrStart w path s) := by
  unfold fdrStart
  repeat' first
    | with_reducible exact Keeps.refl _ _
    | with_reducible apply Keeps.ite
    | (with_reducible apply Keeps.next (ledgerSync_keeps ..)); decide +kernel
    | (with_reducible apply Keeps.next (State.wr_keeps ..)); decide +kernel
    | (with_reducible apply Keeps.next (State.raise_keeps ..)); decide +kernel
    | (with_reducible apply Keeps.next (State.modLedgers_keeps ..)); decide +kernel
    | (with_reducible apply Keeps.next (State.setReg_keeps ..)); decide +kernel
    | (with_reducible apply Keeps.next (State.modBups_keeps ..)); decide +kernel
    | with_reducible apply Keeps.foldl
    | (intro _; beta_reduce)
    | split
    | dsimp only

theorem fdrJournal_keeps (w : ℕ) (outcome : ℕ) (added : ℕ) (used : ℕ) (epoch : ℕ) (s : Sys2Proof.Machine.State) : Keeps 0x14c004600000000000000000000000000000000000000000000000000000070000000000000000018 s (fdrJournal w outcome added used epoch s) := by
  unfold fdrJournal
  repeat' first
    | with_reducible exact Keeps.refl _ _
    | with_reducible apply Keeps.ite
    | (with_reducible apply Keeps.next (State.journal_keeps ..)); decide +kernel
    | with_reducible apply Keeps.foldl
    | (intro _; beta_reduce)
    | split
    | dsimp only

theorem fdrAbort_keeps (w : ℕ) (s : Sys2Proof.Machine.State) : Keeps 0x14c004600000000000000000000000000000008000800000000000000000070000000000000000018 s (fdrAbort w s) := by
  unfold fdrAbort
  repeat' first
    | with_reducible exact Keeps.refl _ _
    | with_reducible apply Keeps.ite
    | (with_reducible apply Keeps.next (State.wr_keeps ..)); decide +kernel
    | (with_reducible apply Keeps.next (State.raise_keeps ..)); decide +kernel
    | (with_reducible apply Keeps.next (fdrJournal_keeps ..)); decide +kernel
    | with_reducible apply Keeps.foldl
    | (intro _; beta_reduce)
    | split
    | dsimp only

theorem fdrCommit_keeps (w : ℕ) (xs : List Sys2Proof.TestFinding) (s : Sys2Proof.Machine.State) : Keeps 0xffffffffffffffffffffffffffffffffffffffffffffffffffffffffffffffffffffffffffffffff00000a73ffdffeff s (fdrCommit w xs s) := by
  unfold fdrCommit
  repeat' first
    | with_reducible exact Keeps.refl _ _
    | with_reducible apply Keeps.ite
    | (with_reducible apply Keeps.next (State.wr_keeps ..)); decide +kernel
    | (with_reducible apply Keeps.next (State.raise_keeps ..)); decide +kernel
    | (with_reducible apply Keeps.next (fdrJournal_keeps ..)); decide +kernel
    | (with_reducible apply Keeps.next (State.putLedgers_keeps ..)); decide +kernel
    | (with_reducible apply Keeps.next (takeWaferDown_keeps ..)); decide +kernel
    | (with_reducible apply Keeps.next (pcieLost_keeps ..)); decide +kernel
    | (with_reducible apply Keeps.next (State.modLedgers_keeps ..)); decide +kernel
    | (with_reducible apply Keeps.next (addFindings_keeps ..)); decide +kernel
    | with_reducible apply Keeps.foldl
    | (intro _; beta_reduce)
    | split
    | dsimp only

theorem retestStart_keeps (w : ℕ) (f : ℕ) (s : Sys2Proof.Machine.State) : Keeps 0x80000014c004600000000006005070000000000000010000800000000000200000000000000000360020010 s (retestStart w f s) := by
  unfold retestStart
  repeat' first
    | with_reducible exact Keeps.refl _ _
    | with_reducible apply forEach_keeps
    | with_reducible apply Keeps.ite
    | (with_reducible apply Keeps.next (domRequest_keeps ..)); decide +kernel
    | (with_reducible apply Keeps.next (State.modDoms_keeps ..)); decide +kernel
    | (with_reducible apply Keeps.next (State.wr_keeps ..)); decide +kernel
    | (with_reducible apply Keeps.next (powerUp_keeps ..)); decide +kernel
    | (with_reducible apply Keeps.next (State.modBups_keeps ..)); decide +kernel
    | with_reducible apply Keeps.foldl
    | (intro _; beta_reduce)
    | split
    | dsimp only

theorem retestDone_keeps (w : ℕ) (xs : List Sys2Proof.TestFinding) (cs : List Sys2Proof.Calibration) (ms : List Sys2Proof.MonSample) (s : Sys2Proof.Machine.State) : Keeps 0x80000014c0046014000000060050700000000000000f03fe800000000000200c02870000001000ee0020219 s (retestDone w xs cs ms s) := by
  unfold retestDone
  repeat' first
    | with_reducible exact Keeps.refl _ _
    | with_reducible apply forEach_keeps
    | with_reducible apply Keeps.ite
    | (with_reducible apply Keeps.next (State.raise_keeps ..)); decide +kernel
    | (with_reducible apply Keeps.next (markUnused_keeps ..)); decide +kernel
    | (with_reducible apply Keeps.next (closeEdit_keeps ..)); decide +kernel
    | (with_reducible apply Keeps.next (State.initCore_keeps ..)); decide +kernel
    | (with_reducible apply Keeps.next (State.wr_keeps ..)); decide +kernel
    | (with_reducible apply Keeps.next (phase4Steps_keeps ..)); decide +kernel
    | (with_reducible apply Keeps.next (State.modPlanner_keeps ..)); decide +kernel
    | (with_reducible apply Keeps.next (zeroLoft_keeps ..)); decide +kernel
    | (with_reducible apply Keeps.next (deriveLists_keeps ..)); decide +kernel
    | (with_reducible apply Keeps.next (State.wrSat_keeps ..)); decide +kernel
    | (with_reducible apply Keeps.next (retireSpines_keeps ..)); decide +kernel
    | with_reducible apply Keeps.foldl
    | (intro _; beta_reduce)
    | split
    | dsimp only

end Sys2Proof.Machine
end

