-- ==== Sys2Proof/Laws/KeepsCues.lean ====
section
/-!
SUPPORT. What each operation of Machine/Cues.lean may change.
-/
namespace Sys2Proof.Machine
set_option linter.unusedTactic false
set_option linter.unreachableTactic false
set_option Elab.async false

theorem swapObj_keeps (w : ℕ) (o : Sys2Proof.Machine.StObj) (s : Sys2Proof.Machine.State) : Keeps 0xffffffffffffffffffffffffffffffffffffffffffffffffffffffffffffffffffffffffffffffff0000000000000002 s (swapObj w o s) := by
  unfold swapObj
  repeat' first
    | with_reducible exact Keeps.refl _ _
    | with_reducible apply Keeps.ite
    | (with_reducible apply Keeps.next (State.setReg_keeps ..)); (first | decide +kernel | exact sub_right _ _ | exact sub_refl _ | exact sub_left (by decide +kernel) | exact regBit_sub (by decide +kernel) _ | exact sub_or (by decide +kernel) (regBit_sub (by decide +kernel) _))
    | (with_reducible apply Keeps.next (State.setWreg_keeps ..)); (first | decide +kernel | exact sub_right _ _ | exact sub_refl _ | exact sub_left (by decide +kernel) | exact regBit_sub (by decide +kernel) _ | exact sub_or (by decide +kernel) (regBit_sub (by decide +kernel) _))
    | with_reducible apply Keeps.foldl
    | (intro _; beta_reduce)
    | split
    | dsimp only

theorem State.afterCue_keeps (s : Sys2Proof.Machine.State) (w : ℕ) (ch : List Sys2Proof.Machine.StObj) : Keeps 0xffffffffffffffffffffffffffffffffffffffffffffffffffffffffffffffffffffffffffffffff0000000000000002 s (State.afterCue s w ch) := by
  unfold State.afterCue
  repeat' first
    | with_reducible exact Keeps.refl _ _
    | with_reducible apply forEach_keeps
    | with_reducible apply Keeps.ite
    | (with_reducible apply Keeps.next (State.wr_keeps ..)); decide +kernel
    | (with_reducible apply Keeps.next (swapObj_keeps ..)); decide +kernel
    | with_reducible apply Keeps.foldl
    | (intro _; beta_reduce)
    | split
    | dsimp only

theorem schedSync_keeps (w : ℕ) (s : Sys2Proof.Machine.State) : Keeps 0x2000000000000000000000000000000000000000000000000000000000000000000000000000000000 s (schedSync w s) := by
  unfold schedSync
  repeat' first
    | with_reducible exact Keeps.refl _ _
    | with_reducible apply Keeps.ite
    | (with_reducible apply Keeps.next (State.wr_keeps ..)); decide +kernel
    | with_reducible apply Keeps.foldl
    | (intro _; beta_reduce)
    | split
    | dsimp only

theorem journalCue_keeps (w : ℕ) (c : ℕ) (outcome : ℕ) (time : ℕ) (id : ℕ) (s : Sys2Proof.Machine.State) : Keeps 0x14c004600000000000000000000000000000000000400000000000000000070000000000000000018 s (journalCue w c outcome time id s) := by
  unfold journalCue
  repeat' first
    | with_reducible exact Keeps.refl _ _
    | with_reducible apply Keeps.ite
    | (with_reducible apply Keeps.next (State.setReg_keeps ..)); decide +kernel
    | (with_reducible apply Keeps.next (State.journalAt_keeps ..)); decide +kernel
    | with_reducible apply Keeps.foldl
    | (intro _; beta_reduce)
    | split
    | dsimp only

theorem unlockAct_keeps (w : ℕ) (c : ℕ) (s : Sys2Proof.Machine.State) : Keeps 0x800000000000000000000008000000 s (unlockAct w c s) := by
  unfold unlockAct
  repeat' first
    | with_reducible exact Keeps.refl _ _
    | with_reducible apply Keeps.ite
    | (with_reducible apply Keeps.next (State.setActState_keeps ..)); decide +kernel
    | (with_reducible apply Keeps.next (State.modSlots_keeps ..)); decide +kernel
    | with_reducible apply Keeps.foldl
    | (intro _; beta_reduce)
    | split
    | dsimp only

theorem noteTime_keeps (w : ℕ) (c : ℕ) (s : Sys2Proof.Machine.State) : Keeps 0x100000000000000000000000000000000000000 s (noteTime w c s) := by
  unfold noteTime
  repeat' first
    | with_reducible exact Keeps.refl _ _
    | with_reducible apply Keeps.ite
    | (with_reducible apply Keeps.next (State.wrSat_keeps ..)); decide +kernel
    | with_reducible apply Keeps.foldl
    | (intro _; beta_reduce)
    | split
    | dsimp only

theorem rotationSkipped_keeps (w : ℕ) (p : ℕ) (s : Sys2Proof.Machine.State) : Keeps 0x100000006000000000000000000000000000000000000000000000000000000200000400 s (rotationSkipped w p s) := by
  unfold rotationSkipped
  repeat' first
    | with_reducible exact Keeps.refl _ _
    | with_reducible apply Keeps.ite
    | (with_reducible apply Keeps.next (State.bump_keeps ..)); decide +kernel
    | (with_reducible apply Keeps.next (accrue_keeps ..)); decide +kernel
    | (with_reducible apply Keeps.next (State.modPart_keeps ..)); decide +kernel
    | with_reducible apply Keeps.foldl
    | (intro _; beta_reduce)
    | split
    | dsimp only

theorem dropRotation_keeps (w : ℕ) (c : ℕ) (s : Sys2Proof.Machine.State) : Keeps 0x100000006000000000000000000000000000000000000000000000000000000208000400 s (dropRotation w c s) := by
  unfold dropRotation
  repeat' first
    | with_reducible exact Keeps.refl _ _
    | with_reducible apply Keeps.ite
    | (with_reducible apply Keeps.next (State.modSlots_keeps ..)); decide +kernel
    | (with_reducible apply Keeps.next (rotationSkipped_keeps ..)); decide +kernel
    | with_reducible apply Keeps.foldl
    | (intro _; beta_reduce)
    | split
    | dsimp only

theorem failCue_keeps (w : ℕ) (c : ℕ) (e : Sys2Proof.Machine.CueErr) (s : Sys2Proof.Machine.State) : Keeps 0x94c0046001000000060000000000000000000000005e0000000800000000070000000000208000418 s (failCue w c e s) := by
  unfold failCue
  repeat' first
    | with_reducible exact Keeps.refl _ _
    | with_reducible apply Keeps.ite
    | (with_reducible apply Keeps.next (State.setReg_keeps ..)); decide +kernel
    | (with_reducible apply Keeps.next (journalCue_keeps ..)); decide +kernel
    | (with_reducible apply Keeps.next (noteTime_keeps ..)); decide +kernel
    | (with_reducible apply Keeps.next (State.modSlots_keeps ..)); decide +kernel
    | (with_reducible apply Keeps.next (unlockAct_keeps ..)); decide +kernel
    | (with_reducible apply Keeps.next (State.raiseS_keeps ..)); decide +kernel
    | (with_reducible apply Keeps.next (dropRotation_keeps ..)); decide +kernel
    | (with_reducible apply Keeps.next (State.wr_keeps ..)); decide +kernel
    | with_reducible apply Keeps.foldl
    | (intro _; beta_reduce)
    | split
    | dsimp only

theorem disarm_keeps (w : ℕ) (c : ℕ) (why : ℕ) (rule : ℕ) (s : Sys2Proof.Machine.State) : Keeps 0x294c004600100000006000000000000000000000000560000000800000000070000000000208000418 s (disarm w c why rule s) := by
  unfold disarm
  repeat' first
    | with_reducible exact Keeps.refl _ _
    | with_reducible apply Keeps.ite
    | (with_reducible apply Keeps.next (journalCue_keeps ..)); decide +kernel
    | (with_reducible apply Keeps.next (noteTime_keeps ..)); decide +kernel
    | (with_reducible apply Keeps.next (schedSync_keeps ..)); decide +kernel
    | (with_reducible apply Keeps.next (State.modSlots_keeps ..)); decide +kernel
    | (with_reducible apply Keeps.next (unlockAct_keeps ..)); decide +kernel
    | (with_reducible apply Keeps.next (State.raiseS_keeps ..)); decide +kernel
    | (with_reducible apply Keeps.next (dropRotation_keeps ..)); decide +kernel
    | (with_reducible apply Keeps.next (State.wr_keeps ..)); decide +kernel
    | with_reducible apply Keeps.foldl
    | (intro _; beta_reduce)
    | split
    | dsimp only

theorem beginCue_keeps (w : ℕ) (c : ℕ) (scope : ℕ) (p : ℕ) (sched : ℕ) (source : ℕ) (time : ℕ) (mid : ℕ) (rotation : Option ℕ) (s0 : Sys2Proof.Machine.State) : Keeps 0x200094c0046001010000060040000000000000000000007e0000000800000000070000000006228000418 s0 (beginCue w c scope p sched source time mid rotation s0) := by
  unfold beginCue
  repeat' first
    | with_reducible exact Keeps.refl _ _
    | with_reducible apply Keeps.ite
    | (with_reducible apply Keeps.next (State.setReg_keeps ..)); decide +kernel
    | (with_reducible apply Keeps.next (failCue_keeps ..)); decide +kernel
    | (with_reducible apply Keeps.next (lockStamp_keeps ..)); decide +kernel
    | (with_reducible apply Keeps.next (State.putSlots_keeps ..)); decide +kernel
    | (with_reducible apply Keeps.next (ghostExit_keeps ..)); decide +kernel
    | with_reducible apply Keeps.foldl
    | (intro _; beta_reduce)
    | split
    | dsimp only

theorem ownCue_keeps (w : ℕ) (scope : ℕ) (p : ℕ) (rotation : Option ℕ) (s : Sys2Proof.Machine.State) : Keeps 0x200094c0046001010000060040000000000000000000007e0000000800000000070000000006228000418 s (ownCue w scope p rotation s) := by
  unfold ownCue
  repeat' first
    | with_reducible exact Keeps.refl _ _
    | with_reducible apply Keeps.ite
    | (with_reducible apply Keeps.next (State.raise_keeps ..)); decide +kernel
    | (with_reducible apply Keeps.next (beginCue_keeps ..)); decide +kernel
    | with_reducible apply Keeps.foldl
    | (intro _; beta_reduce)
    | split
    | dsimp only

theorem startCue_keeps (w : ℕ) (path : ℕ) (s : Sys2Proof.Machine.State) : Keeps 0x200094c0046001010000060040000000000000000000007e4000000800000000070000000006228000418 s (startCue w path s) := by
  unfold startCue
  repeat' first
    | with_reducible exact Keeps.refl _ _
    | with_reducible apply Keeps.ite
    | (with_reducible apply Keeps.next (State.raise_keeps ..)); decide +kernel
    | (with_reducible apply Keeps.next (beginCue_keeps ..)); decide +kernel
    | (with_reducible apply Keeps.next (State.bump_keeps ..)); decide +kernel
    | with_reducible apply Keeps.foldl
    | (intro _; beta_reduce)
    | split
    | dsimp only

theorem cueCtrl_keeps (w : ℕ) (path : ℕ) (v : ℕ) (s : Sys2Proof.Machine.State) : Keeps 0x200294c0046001010000060040000000000000000000007e4800000800000000070000000006228000418 s (cueCtrl w path v s) := by
  unfold cueCtrl
  repeat' first
    | with_reducible exact Keeps.refl _ _
    | with_reducible apply Keeps.ite
    | (with_reducible apply Keeps.next (disarm_keeps ..)); decide +kernel
    | (with_reducible apply Keeps.next (State.setReg_keeps ..)); decide +kernel
    | (with_reducible apply Keeps.next (startCue_keeps ..)); decide +kernel
    | with_reducible apply Keeps.foldl
    | (intro _; beta_reduce)
    | split
    | dsimp only

theorem rehearsalDone_keeps (w : ℕ) (c : ℕ) (s : Sys2Proof.Machine.State) : Keeps 0xffffffffffffffffffffffffffffffffffffffffffffffffffffffffffffffffffffffffffffffff000000021800041a s (rehearsalDone w c s) := by
  unfold rehearsalDone
  repeat' first
    | with_reducible exact Keeps.refl _ _
    | with_reducible apply Keeps.ite
    | (with_reducible apply Keeps.next (State.afterCue_keeps ..)); decide +kernel
    | (with_reducible apply Keeps.next (failCue_keeps ..)); decide +kernel
    | (with_reducible apply Keeps.next (noteTime_keeps ..)); decide +kernel
    | (with_reducible apply Keeps.next (schedSync_keeps ..)); decide +kernel
    | (with_reducible apply Keeps.next (State.setReg_keeps ..)); decide +kernel
    | (with_reducible apply Keeps.next (State.modCueUnits_keeps ..)); decide +kernel
    | (with_reducible apply Keeps.next (State.modSlots_keeps ..)); decide +kernel
    | (with_reducible apply Keeps.next (State.wr_keeps ..)); decide +kernel
    | with_reducible apply Keeps.foldl
    | (intro _; beta_reduce)
    | split
    | dsimp only

theorem rehearsalTimeout_keeps (w : ℕ) (c : ℕ) (s : Sys2Proof.Machine.State) : Keeps 0x94c0046001000000060000000000000000000000005e0000000800000000070000000000208000418 s (rehearsalTimeout w c s) := by
  unfold rehearsalTimeout
  repeat' first
    | with_reducible exact Keeps.refl _ _
    | with_reducible apply Keeps.ite
    | (with_reducible apply Keeps.next (failCue_keeps ..)); decide +kernel
    | with_reducible apply Keeps.foldl
    | (intro _; beta_reduce)
    | split
    | dsimp only

theorem showAct_keeps (w : ℕ) (r : Sys2Proof.Machine.Act) (s : Sys2Proof.Machine.State) : Keeps 0xe0000000000000000 s (showAct w r s) := by
  unfold showAct
  repeat' first
    | with_reducible exact Keeps.refl _ _
    | with_reducible apply Keeps.ite
    | (with_reducible apply Keeps.next (State.setReg_keeps ..)); decide +kernel
    | with_reducible apply Keeps.foldl
    | (intro _; beta_reduce)
    | split
    | dsimp only

theorem admitStreams_keeps (w : ℕ) (new : ℕ → Bool) (s : Sys2Proof.Machine.State) : Keeps 0xc000 s (admitStreams w new s) := by
  unfold admitStreams
  repeat' first
    | with_reducible exact Keeps.refl _ _
    | with_reducible apply Keeps.ite
    | (with_reducible apply Keeps.next (resetSends_keeps ..)); decide +kernel
    | (with_reducible apply Keeps.next (resetRecvs_keeps ..)); decide +kernel
    | with_reducible apply Keeps.foldl
    | (intro _; beta_reduce)
    | split
    | dsimp only

theorem stampApply_keeps (w : ℕ) (time : ℕ) (s : Sys2Proof.Machine.State) : Keeps 0x50090000000034c0046000000001060050600800309a001040000002000900c8000004000001e000100027808ee13 s (stampApply w time s) := by
  unfold stampApply
  repeat' first
    | with_reducible exact Keeps.refl _ _
    | with_reducible apply forEach_keeps
    | with_reducible apply Keeps.ite
    | (with_reducible apply Keeps.next (State.modPlanner_keeps ..)); decide +kernel
    | (with_reducible apply Keeps.next (State.wr_keeps ..)); decide +kernel
    | (with_reducible apply Keeps.next (State.fresh_keeps ..)); decide +kernel
    | (with_reducible apply Keeps.next (admitStreams_keeps ..)); decide +kernel
    | (with_reducible apply Keeps.next (State.setActState_keeps ..)); decide +kernel
    | (with_reducible apply Keeps.next (partFault_keeps ..)); decide +kernel
    | (with_reducible apply Keeps.next (showAct_keeps ..)); decide +kernel
    | (with_reducible apply Keeps.next (State.setReg_keeps ..)); decide +kernel
    | with_reducible apply Keeps.foldl
    | (intro _; beta_reduce)
    | split
    | dsimp only

theorem partChanged_keeps (w : ℕ) (p : ℕ) (defined0 : Bool) (job0 : ℕ) (defOrChart : Bool) (s : Sys2Proof.Machine.State) : Keeps 0xffffffffffffffffffffffffffffffffffffffffffffffffffffffffffffffffffffffffffffffff000000000000c000 s (partChanged w p defined0 job0 defOrChart s) := by
  unfold partChanged
  repeat' first
    | with_reducible exact Keeps.refl _ _
    | with_reducible apply Keeps.ite
    | (with_reducible apply Keeps.next (telReset_keeps ..)); decide +kernel
    | (with_reducible apply Keeps.next (State.wr_keeps ..)); decide +kernel
    | (with_reducible apply Keeps.next (resetStreams_keeps ..)); decide +kernel
    | (with_reducible apply Keeps.next (State.setPartState_keeps ..)); decide +kernel
    | with_reducible apply Keeps.foldl
    | (intro _; beta_reduce)
    | split
    | dsimp only

theorem holderChanged_keeps (w : ℕ) (q : ℕ) (s : Sys2Proof.Machine.State) : Keeps 0x80000014c004600000000006005070000000000000000000000000000000200000000000000000260020010 s (holderChanged w q s) := by
  unfold holderChanged
  repeat' first
    | with_reducible exact Keeps.refl _ _
    | with_reducible apply forEach_keeps
    | with_reducible apply Keeps.ite
    | (with_reducible apply Keeps.next (setParkReq_keeps ..)); decide +kernel
    | (with_reducible apply Keeps.next (domRequest_keeps ..)); decide +kernel
    | (with_reducible apply Keeps.next (capRelease_keeps ..)); decide +kernel
    | with_reducible apply Keeps.foldl
    | (intro _; beta_reduce)
    | split
    | dsimp only

theorem pointChanged_keeps (w : ℕ) (old : ℕ) (s : Sys2Proof.Machine.State) : Keeps 0x6414000000000000000000000000000000000000000800000000000220000000 s (pointChanged w old s) := by
  unfold pointChanged
  repeat' first
    | with_reducible exact Keeps.refl _ _
    | with_reducible apply Keeps.ite
    | (with_reducible apply Keeps.next (pointRaise_keeps ..)); decide +kernel
    | (with_reducible apply Keeps.next (State.wr_keeps ..)); decide +kernel
    | with_reducible apply Keeps.foldl
    | (intro _; beta_reduce)
    | split
    | dsimp only

theorem programLive_keeps (w : ℕ) (f : ℕ) (s : Sys2Proof.Machine.State) : Keeps 0x400000000000000001000200 s (programLive w f s) := by
  unfold programLive
  repeat' first
    | with_reducible exact Keeps.refl _ _
    | with_reducible apply forEach_keeps
    | with_reducible apply Keeps.ite
    | (with_reducible apply Keeps.next (State.putShadows_keeps ..)); decide +kernel
    | (with_reducible apply Keeps.next (State.modCore_keeps ..)); decide +kernel
    | with_reducible apply Keeps.foldl
    | (intro _; beta_reduce)
    | split
    | dsimp only

theorem applyCue_keeps (w : ℕ) (c : ℕ) (s0 : Sys2Proof.Machine.State) : Keeps 0xffffffffffffffffffffffffffffffffffffffffffffffffffffffffffffffffffffffffffffffff00010062790aee13 s0 (applyCue w c s0) := by
  unfold applyCue
  repeat' first
    | with_reducible exact Keeps.refl _ _
    | with_reducible apply forEach_keeps
    | with_reducible apply Keeps.ite
    | (with_reducible apply Keeps.next (programLive_keeps ..)); decide +kernel
    | (with_reducible apply Keeps.next (accrue_keeps ..)); decide +kernel
    | (with_reducible apply Keeps.next (cutRunning_keeps ..)); decide +kernel
    | (with_reducible apply Keeps.next (State.modWafers_keeps ..)); decide +kernel
    | (with_reducible apply Keeps.next (State.modSlots_keeps ..)); decide +kernel
    | (with_reducible apply Keeps.next (partChanged_keeps ..)); decide +kernel
    | (with_reducible apply Keeps.next (pointChanged_keeps ..)); decide +kernel
    | (with_reducible apply Keeps.next (holderChanged_keeps ..)); decide +kernel
    | (with_reducible apply Keeps.next (State.afterCue_keeps ..)); decide +kernel
    | (with_reducible apply Keeps.next (heldCueCut_keeps ..)); decide +kernel
    | (with_reducible apply Keeps.next (stampApply_keeps ..)); decide +kernel
    | (with_reducible apply Keeps.next (schedSync_keeps ..)); decide +kernel
    | (with_reducible apply Keeps.next (ghostExit_keeps ..)); decide +kernel
    | (with_reducible apply Keeps.next (State.modCueUnits_keeps ..)); decide +kernel
    | (with_reducible apply Keeps.next (State.setReg_keeps ..)); decide +kernel
    | (with_reducible apply Keeps.next (swapObj_keeps ..)); decide +kernel
    | (with_reducible apply Keeps.next (State.wr_keeps ..)); decide +kernel
    | with_reducible apply Keeps.foldl
    | (intro _; beta_reduce)
    | split
    | dsimp only

theorem cueApply_keeps (w : ℕ) (c : ℕ) (s : Sys2Proof.Machine.State) : Keeps 0xffffffffffffffffffffffffffffffffffffffffffffffffffffffffffffffffffffffffffffffff00010062790aee13 s (cueApply w c s) := by
  unfold cueApply
  repeat' first
    | with_reducible exact Keeps.refl _ _
    | with_reducible apply Keeps.ite
    | (with_reducible apply Keeps.next (applyCue_keeps ..)); decide +kernel
    | with_reducible apply Keeps.foldl
    | (intro _; beta_reduce)
    | split
    | dsimp only

theorem schedCueValue_keeps (w : ℕ) (c : ℕ) (s : Sys2Proof.Machine.State) : Keeps 0xffffffffffffffffffffffffffffffffffffffffffffffffffffffffffffffffffffffffffffffff00010062790aee1b s (schedCueValue w c s) := by
  unfold schedCueValue
  repeat' first
    | with_reducible exact Keeps.refl _ _
    | with_reducible apply Keeps.ite
    | (with_reducible apply Keeps.next (disarm_keeps ..)); decide +kernel
    | (with_reducible apply Keeps.next (applyCue_keeps ..)); decide +kernel
    | (with_reducible apply Keeps.next (State.modWafers_keeps ..)); decide +kernel
    | with_reducible apply Keeps.foldl
    | (intro _; beta_reduce)
    | split
    | dsimp only

theorem rotationDone_keeps (w : ℕ) (p : ℕ) (s : Sys2Proof.Machine.State) : Keeps 0x100000000000000000000000000000000000000000000000000000000000000800000400 s (rotationDone w p s) := by
  unfold rotationDone
  repeat' first
    | with_reducible exact Keeps.refl _ _
    | with_reducible apply forEach_keeps
    | with_reducible apply Keeps.ite
    | (with_reducible apply Keeps.next (State.bump_keeps ..)); decide +kernel
    | (with_reducible apply Keeps.next (State.putAgeQs_keeps ..)); decide +kernel
    | (with_reducible apply Keeps.next (State.modPart_keeps ..)); decide +kernel
    | with_reducible apply Keeps.foldl
    | (intro _; beta_reduce)
    | split
    | dsimp only

theorem wingsCopyDone_keeps (w : ℕ) (c : ℕ) (s : Sys2Proof.Machine.State) : Keeps 0x94c00460010000000000000000000000000000000042000000000000000007000000000081800041a s (wingsCopyDone w c s) := by
  unfold wingsCopyDone
  repeat' first
    | with_reducible exact Keeps.refl _ _
    | with_reducible apply Keeps.ite
    | (with_reducible apply Keeps.next (State.liveToWings_keeps ..)); decide +kernel
    | (with_reducible apply Keeps.next (rotationDone_keeps ..)); decide +kernel
    | (with_reducible apply Keeps.next (journalCue_keeps ..)); decide +kernel
    | (with_reducible apply Keeps.next (State.modCueUnits_keeps ..)); decide +kernel
    | (with_reducible apply Keeps.next (State.modSlots_keeps ..)); decide +kernel
    | (with_reducible apply Keeps.next (State.raiseS_keeps ..)); decide +kernel
    | (with_reducible apply Keeps.next (State.wr_keeps ..)); decide +kernel
    | with_reducible apply Keeps.foldl
    | (intro _; beta_reduce)
    | split
    | dsimp only

end Sys2Proof.Machine
end

