-- ==== Sys2Proof/Laws/KeepsSteps.lean ====
section
/-!
SUPPORT. What each operation of Machine/Steps.lean may change.
-/
namespace Sys2Proof.Machine
set_option linter.unusedTactic false
set_option linter.unreachableTactic false
set_option Elab.async false

theorem loadComplete_keeps (w : ℕ) (s : Sys2Proof.Machine.State) : Keeps 0x200094c0046001010000060040000000000000000000007e0009000800000000070000000006238000418 s (loadComplete w s) := by
  unfold loadComplete
  repeat' first
    | with_reducible exact Keeps.refl _ _
    | with_reducible apply Keeps.ite
    | (with_reducible apply Keeps.next (ownCue_keeps ..)); decide +kernel
    | (with_reducible apply Keeps.next (loadDone_keeps ..)); decide +kernel
    | with_reducible apply Keeps.foldl
    | (intro _; beta_reduce)
    | split
    | dsimp only

theorem imageExpanded_keeps (w : ℕ) (bad : Option ℕ) (s0 : Sys2Proof.Machine.State) : Keeps 0x2000d4c004600101000006005020000000000010ec03fefe000d0008000000000700000000062f940041b s0 (imageExpanded w bad s0) := by
  unfold imageExpanded
  repeat' first
    | with_reducible exact Keeps.refl _ _
    | with_reducible apply Keeps.ite
    | (with_reducible apply Keeps.next (State.wr_keeps ..)); decide +kernel
    | (with_reducible apply Keeps.next (failLoad_keeps ..)); decide +kernel
    | (with_reducible apply Keeps.next (loadComplete_keeps ..)); decide +kernel
    | (with_reducible apply Keeps.next (expand_keeps ..)); decide +kernel
    | (with_reducible apply Keeps.next (loftUncorrectable_keeps ..)); decide +kernel
    | with_reducible apply Keeps.foldl
    | (intro _; beta_reduce)
    | split
    | dsimp only

theorem actsHandoverAck_keeps (w : ℕ) (s : Sys2Proof.Machine.State) : Keeps 0x200094c0046001010000060040000000000000000000007e0009000800000000070000001006238000418 s (actsHandoverAck w s) := by
  unfold actsHandoverAck
  repeat' first
    | with_reducible exact Keeps.refl _ _
    | with_reducible apply Keeps.ite
    | (with_reducible apply Keeps.next (State.modPlanner_keeps ..)); decide +kernel
    | (with_reducible apply Keeps.next (loadComplete_keeps ..)); decide +kernel
    | with_reducible apply Keeps.foldl
    | (intro _; beta_reduce)
    | split
    | dsimp only

theorem actsAckTimeout_keeps (w : ℕ) (s : Sys2Proof.Machine.State) : Keeps 0x14c00460000000000000000000000000000000000002000d000800000000000000000000018000012 s (actsAckTimeout w s) := by
  unfold actsAckTimeout
  repeat' first
    | with_reducible exact Keeps.refl _ _
    | with_reducible apply Keeps.ite
    | (with_reducible apply Keeps.next (failLoad_keeps ..)); decide +kernel
    | with_reducible apply Keeps.foldl
    | (intro _; beta_reduce)
    | split
    | dsimp only

theorem machineCueStart_keeps (members : ℕ) (time : ℕ) (mid : ℕ) (s : Sys2Proof.Machine.State) : Keeps 0x200294c0046001010000060040000000000000000000007e7800000800000000070000001006228000418 s (machineCueStart members time mid s) := by
  unfold machineCueStart
  repeat' first
    | with_reducible exact Keeps.refl _ _
    | with_reducible apply forEach_keeps
    | with_reducible apply Keeps.ite
    | (with_reducible apply Keeps.next (State.modPlanner_keeps ..)); decide +kernel
    | (with_reducible apply Keeps.next (State.setReg_keeps ..)); decide +kernel
    | (with_reducible apply Keeps.next (cueCtrl_keeps ..)); decide +kernel
    | (with_reducible apply Keeps.next (State.modSlots_keeps ..)); decide +kernel
    | with_reducible apply Keeps.foldl
    | (intro _; beta_reduce)
    | split
    | dsimp only

theorem machineDisarm_keeps (code : ℕ) (s : Sys2Proof.Machine.State) : Keeps 0x200294c0046001010000060040000000000000000000007e4800000800000000070000001006228000418 s (machineDisarm code s) := by
  unfold machineDisarm
  repeat' first
    | with_reducible exact Keeps.refl _ _
    | with_reducible apply forEach_keeps
    | with_reducible apply Keeps.ite
    | (with_reducible apply Keeps.next (State.modPlanner_keeps ..)); decide +kernel
    | (with_reducible apply Keeps.next (cueCtrl_keeps ..)); decide +kernel
    | with_reducible apply Keeps.foldl
    | (intro _; beta_reduce)
    | split
    | dsimp only

theorem machineCueCheck_keeps (s : Sys2Proof.Machine.State) : Keeps 0x200294c0046001010000060040000000000000000000007e4800000800000000070000001006228000418 s (machineCueCheck s) := by
  unfold machineCueCheck
  repeat' first
    | with_reducible exact Keeps.refl _ _
    | with_reducible apply forEach_keeps
    | with_reducible apply Keeps.ite
    | (with_reducible apply Keeps.next (State.modPlanner_keeps ..)); decide +kernel
    | (with_reducible apply Keeps.next (State.emit_keeps ..)); decide +kernel
    | (with_reducible apply Keeps.next (machineDisarm_keeps ..)); decide +kernel
    | with_reducible apply Keeps.foldl
    | (intro _; beta_reduce)
    | split
    | dsimp only

theorem machineCueArmTimeout_keeps (s : Sys2Proof.Machine.State) : Keeps 0x200294c0046001010000060040000000000000000000007e4800000800000000070000001006228000418 s (machineCueArmTimeout s) := by
  unfold machineCueArmTimeout
  repeat' first
    | with_reducible exact Keeps.refl _ _
    | with_reducible apply Keeps.ite
    | (with_reducible apply Keeps.next (machineDisarm_keeps ..)); decide +kernel
    | with_reducible apply Keeps.foldl
    | (intro _; beta_reduce)
    | split
    | dsimp only

theorem goFrame_keeps (w : ℕ) (bs : List ℕ) (s : Sys2Proof.Machine.State) : Keeps 0x40000000000000000000000000000000000000000000000000000000000000000000000000008000000 s (goFrame w bs s) := by
  unfold goFrame
  repeat' first
    | with_reducible exact Keeps.refl _ _
    | with_reducible apply Keeps.ite
    | (with_reducible apply Keeps.next (State.modSlots_keeps ..)); decide +kernel
    | (with_reducible apply Keeps.next (State.bump_keeps ..)); decide +kernel
    | with_reducible apply Keeps.foldl
    | (intro _; beta_reduce)
    | split
    | dsimp only

theorem stageSegs_keeps (w : ℕ) (p : ℕ) (es : List ℕ) (s : Sys2Proof.Machine.State) : Keeps 0x2 s (stageSegs w p es s) := by
  unfold stageSegs
  repeat' first
    | with_reducible exact Keeps.refl _ _
    | with_reducible apply forEach_keeps
    | with_reducible apply Keeps.ite
    | (with_reducible apply Keeps.next (State.setWreg_keeps ..)); decide +kernel
    | with_reducible apply Keeps.foldl
    | (intro _; beta_reduce)
    | split
    | dsimp only

theorem rotate_keeps (w : ℕ) (p : ℕ) (s : Sys2Proof.Machine.State) : Keeps 0x200094c0046001010000060040000000000000000000007e0000000800000000070000001006a2800041a s (rotate w p s) := by
  unfold rotate
  repeat' first
    | with_reducible exact Keeps.refl _ _
    | with_reducible apply forEach_keeps
    | with_reducible apply Keeps.ite
    | (with_reducible apply Keeps.next (State.modPlanner_keeps ..)); decide +kernel
    | (with_reducible apply Keeps.next (ownCue_keeps ..)); decide +kernel
    | (with_reducible apply Keeps.next (State.bump_keeps ..)); decide +kernel
    | (with_reducible apply Keeps.next (State.raise_keeps ..)); decide +kernel
    | (with_reducible apply Keeps.next (accrue_keeps ..)); decide +kernel
    | (with_reducible apply Keeps.next (State.putAgeQs_keeps ..)); decide +kernel
    | (with_reducible apply Keeps.next (State.modPart_keeps ..)); decide +kernel
    | (with_reducible apply Keeps.next (rotationSkipped_keeps ..)); decide +kernel
    | (with_reducible apply Keeps.next (stageSegs_keeps ..)); decide +kernel
    | with_reducible apply Keeps.foldl
    | (intro _; beta_reduce)
    | split
    | dsimp only

theorem stepBoundary_keeps (w : ℕ) (p : ℕ) (s : Sys2Proof.Machine.State) : Keeps 0x2000b4c0046001010000060040000110000000184000007e0009000800000000070000001006a3808141b s (stepBoundary w p s) := by
  unfold stepBoundary
  repeat' first
    | with_reducible exact Keeps.refl _ _
    | with_reducible apply Keeps.ite
    | (with_reducible apply Keeps.next (rotate_keeps ..)); decide +kernel
    | (with_reducible apply Keeps.next (writeBatch_keeps ..)); decide +kernel
    | (with_reducible apply Keeps.next (boundarySlots_keeps ..)); decide +kernel
    | with_reducible apply Keeps.foldl
    | (intro _; beta_reduce)
    | split
    | dsimp only

theorem curtain_keeps (w : ℕ) (p : ℕ) (s : Sys2Proof.Machine.State) : Keeps 0x50090000000294c00460010000010600506048005c8a000008000056000900080000040007000000000027808e61a s (curtain w p s) := by
  unfold curtain
  repeat' first
    | with_reducible exact Keeps.refl _ _
    | with_reducible apply forEach_keeps
    | with_reducible apply Keeps.ite
    | (with_reducible apply Keeps.next (imgFail_keeps ..)); decide +kernel
    | (with_reducible apply Keeps.next (disarm_keeps ..)); decide +kernel
    | (with_reducible apply Keeps.next (curtainDrop_keeps ..)); decide +kernel
    | with_reducible apply Keeps.foldl
    | (intro _; beta_reduce)
    | split
    | dsimp only

end Sys2Proof.Machine
end

