-- ==== Sys2Proof/Laws/KeepsActs.lean ====
section
/-!
SUPPORT. What each operation of Machine/Acts.lean may change.
-/
namespace Sys2Proof.Machine
set_option linter.unusedTactic false
set_option linter.unreachableTactic false
set_option Elab.async false

theorem rmcHeartbeat_keeps (standbyHears : Bool) (tmcs : List ℕ) (s : Sys2Proof.Machine.State) : Keeps 0x1008000000000 s (rmcHeartbeat standbyHears tmcs s) := by
  unfold rmcHeartbeat
  repeat' first
    | with_reducible exact Keeps.refl _ _
    | with_reducible apply forEach_keeps
    | with_reducible apply Keeps.ite
    | (with_reducible apply Keeps.next (State.modPlanner_keeps ..)); decide +kernel
    | (with_reducible apply Keeps.next (State.modTmcs_keeps ..)); decide +kernel
    | with_reducible apply Keeps.foldl
    | (intro _; beta_reduce)
    | split
    | dsimp only

theorem keepaliveCommit_keeps (w : ℕ) (ka : ℕ) (s : Sys2Proof.Machine.State) : Keeps 0x100014c004600008000006010000000000000000000000000000000000000000070100000000200000418 s (keepaliveCommit w ka s) := by
  unfold keepaliveCommit
  repeat' first
    | with_reducible exact Keeps.refl _ _
    | with_reducible apply forEach_keeps
    | with_reducible apply Keeps.ite
    | (with_reducible apply Keeps.next (State.raise_keeps ..)); decide +kernel
    | (with_reducible apply Keeps.next (accrue_keeps ..)); decide +kernel
    | (with_reducible apply Keeps.next (State.bump_keeps ..)); decide +kernel
    | (with_reducible apply Keeps.next (State.wr_keeps ..)); decide +kernel
    | (with_reducible apply Keeps.next (State.modPart_keeps ..)); decide +kernel
    | (with_reducible apply Keeps.next (capUpdate_keeps ..)); decide +kernel
    | (with_reducible apply Keeps.next (State.setReg_keeps ..)); decide +kernel
    | with_reducible apply Keeps.foldl
    | (intro _; beta_reduce)
    | split
    | dsimp only

theorem writeKeepalive_keeps (w : ℕ) (trayIn : ℕ) (valve : ℕ) (s : Sys2Proof.Machine.State) : Keeps 0x180014c004600008000006010000000000000000000000000000000000000000070100000008200000418 s (writeKeepalive w trayIn valve s) := by
  unfold writeKeepalive
  repeat' first
    | with_reducible exact Keeps.refl _ _
    | with_reducible apply Keeps.ite
    | (with_reducible apply Keeps.next (State.modTmcs_keeps ..)); decide +kernel
    | (with_reducible apply Keeps.next (keepaliveCommit_keeps ..)); decide +kernel
    | (with_reducible apply Keeps.next (State.setReg_keeps ..)); decide +kernel
    | with_reducible apply Keeps.foldl
    | (intro _; beta_reduce)
    | split
    | dsimp only

theorem keepaliveTick_keeps (w : ℕ) (trayIn : ℕ) (valve : ℕ) (s : Sys2Proof.Machine.State) : Keeps 0x180014c004600008000006010000000000000000000000000000000000000000070100000008200000418 s (keepaliveTick w trayIn valve s) := by
  unfold keepaliveTick
  repeat' first
    | with_reducible exact Keeps.refl _ _
    | with_reducible apply Keeps.ite
    | (with_reducible apply Keeps.next (State.modTmcs_keeps ..)); decide +kernel
    | (with_reducible apply Keeps.next (writeKeepalive_keeps ..)); decide +kernel
    | with_reducible apply Keeps.foldl
    | (intro _; beta_reduce)
    | split
    | dsimp only

theorem sendEvent_keeps (t : ℕ) (words : List ℕ) (s : Sys2Proof.Machine.State) : Keeps 0x8000000000 s (sendEvent t words s) := by
  unfold sendEvent
  repeat' first
    | with_reducible exact Keeps.refl _ _
    | with_reducible apply Keeps.ite
    | (with_reducible apply Keeps.next (State.modTmcs_keeps ..)); decide +kernel
    | (with_reducible apply Keeps.next (State.emit_keeps ..)); decide +kernel
    | with_reducible apply Keeps.foldl
    | (intro _; beta_reduce)
    | split
    | dsimp only

theorem rmcsAbsent_keeps (t : ℕ) (s : Sys2Proof.Machine.State) : Keeps 0x180014c004600008000006010000000000000000000000000000000000000000070100000008200000418 s (rmcsAbsent t s) := by
  unfold rmcsAbsent
  repeat' first
    | with_reducible exact Keeps.refl _ _
    | with_reducible apply Keeps.ite
    | (with_reducible apply Keeps.next (State.modTmcs_keeps ..)); decide +kernel
    | (with_reducible apply Keeps.next (writeKeepalive_keeps ..)); decide +kernel
    | (with_reducible apply Keeps.next (sendEvent_keeps ..)); decide +kernel
    | with_reducible apply Keeps.foldl
    | (intro _; beta_reduce)
    | split
    | dsimp only

theorem keepaliveTimeout_keeps (w : ℕ) (s : Sys2Proof.Machine.State) : Keeps 0x14c004600008000000000000000000000000000000000000000000000000000100000000000000010 s (keepaliveTimeout w s) := by
  unfold keepaliveTimeout
  repeat' first
    | with_reducible exact Keeps.refl _ _
    | with_reducible apply Keeps.ite
    | (with_reducible apply Keeps.next (State.raise_keeps ..)); decide +kernel
    | (with_reducible apply Keeps.next (State.wr_keeps ..)); decide +kernel
    | with_reducible apply Keeps.foldl
    | (intro _; beta_reduce)
    | split
    | dsimp only

theorem routeWrite_keeps (w : ℕ) (kind : ℕ) (act : ℕ) (field : ℕ) (index : ℕ) (v : ℕ) (s : Sys2Proof.Machine.State) : Keeps 0x14c004600000000000000000000000000000000000000000040800000000000000000000000000010 s (routeWrite w kind act field index v s) := by
  unfold routeWrite
  repeat' first
    | with_reducible exact Keeps.refl _ _
    | with_reducible apply Keeps.ite
    | (with_reducible apply Keeps.next (State.raise_keeps ..)); decide +kernel
    | (with_reducible apply Keeps.next (State.setReg_keeps ..)); decide +kernel
    | (with_reducible apply Keeps.next (State.setActState_keeps ..)); decide +kernel
    | with_reducible apply Keeps.foldl
    | (intro _; beta_reduce)
    | split
    | dsimp only

theorem routeTableWrite_keeps (w : ℕ) (v : ℕ) (s : Sys2Proof.Machine.State) : Keeps 0x14c004600000000000000000000000000000000000000000040800000000000000000000000000010 s (routeTableWrite w v s) := by
  unfold routeTableWrite
  repeat' first
    | with_reducible exact Keeps.refl _ _
    | with_reducible apply Keeps.ite
    | (with_reducible apply Keeps.next (routeWrite_keeps ..)); decide +kernel
    | with_reducible apply Keeps.foldl
    | (intro _; beta_reduce)
    | split
    | dsimp only

theorem queueChange_keeps (c : Sys2Proof.ActChange) (s : Sys2Proof.Machine.State) : Keeps 0x1000000000000 s (queueChange c s) := by
  unfold queueChange
  repeat' first
    | with_reducible exact Keeps.refl _ _
    | with_reducible apply Keeps.ite
    | (with_reducible apply Keeps.next (State.modPlanner_keeps ..)); decide +kernel
    | with_reducible apply Keeps.foldl
    | (intro _; beta_reduce)
    | split
    | dsimp only

theorem queueOnce_keeps (c : Sys2Proof.ActChange) (s : Sys2Proof.Machine.State) : Keeps 0x1000000000000 s (queueOnce c s) := by
  unfold queueOnce
  repeat' first
    | with_reducible exact Keeps.refl _ _
    | with_reducible apply Keeps.ite
    | (with_reducible apply Keeps.next (queueChange_keeps ..)); decide +kernel
    | with_reducible apply Keeps.foldl
    | (intro _; beta_reduce)
    | split
    | dsimp only

theorem emptyAct_keeps (w : ℕ) (act : ℕ) (s : Sys2Proof.Machine.State) : Keeps 0xffffffffffffffffffffffffffffffffffffffffffffffffffffffffffffffffffffffffffffffff0000000000000000 s (emptyAct w act s) := by
  unfold emptyAct
  repeat' first
    | with_reducible exact Keeps.refl _ _
    | with_reducible apply Keeps.ite
    | (with_reducible apply Keeps.next (State.withRegs_keeps _ _ (fun h => mrises_filter _ _ _ h))); decide +kernel
    | with_reducible apply Keeps.foldl
    | (intro _; beta_reduce)
    | split
    | dsimp only

theorem writeSkips_keeps (w : ℕ) (act : ℕ) (wafers : ℕ) (s : Sys2Proof.Machine.State) : Keeps 0x14c004600000000000000000000000000000000000000000040800000000000000000000000000010 s (writeSkips w act wafers s) := by
  unfold writeSkips
  repeat' first
    | with_reducible exact Keeps.refl _ _
    | with_reducible apply forEach_keeps
    | with_reducible apply Keeps.ite
    | (with_reducible apply Keeps.next (routeWrite_keeps ..)); decide +kernel
    | with_reducible apply Keeps.foldl
    | (intro _; beta_reduce)
    | split
    | dsimp only

theorem writeChip_keeps (c : ℕ) (act : ℕ) (wafers : ℕ) (s : Sys2Proof.Machine.State) : Keeps 0x240000000000000000000000000000000000000000000000000000000000000000000000000000000000000 s (writeChip c act wafers s) := by
  unfold writeChip
  repeat' first
    | with_reducible exact Keeps.refl _ _
    | with_reducible apply forEach_keeps
    | with_reducible apply Keeps.ite
    | (with_reducible apply Keeps.next (State.setChipActState_keeps ..)); decide +kernel
    | (with_reducible apply Keeps.next (State.setReg_keeps ..)); decide +kernel
    | with_reducible apply Keeps.foldl
    | (intro _; beta_reduce)
    | split
    | dsimp only

theorem actBuild_keeps (es : List (ℕ × ℕ × ℕ × ℕ × ℕ)) (s : Sys2Proof.Machine.State) : Keeps 0xffffffffffffffffffffffffffffffffffffffffffffffffffffffffffffffffffffffffffffffff0001010000000010 s (actBuild es s) := by
  unfold actBuild
  repeat' first
    | with_reducible exact Keeps.refl _ _
    | with_reducible apply forEach_keeps
    | with_reducible apply Keeps.ite
    | (with_reducible apply Keeps.next (State.modPlanner_keeps ..)); decide +kernel
    | (with_reducible apply Keeps.next (routeWrite_keeps ..)); decide +kernel
    | (with_reducible apply Keeps.next (writeSkips_keeps ..)); decide +kernel
    | (with_reducible apply Keeps.next (State.putActs_keeps ..)); decide +kernel
    | (with_reducible apply Keeps.next (emptyAct_keeps ..)); decide +kernel
    | (with_reducible apply Keeps.next (writeChip_keeps ..)); decide +kernel
    | with_reducible apply Keeps.foldl
    | (intro _; beta_reduce)
    | split
    | dsimp only

theorem actCue_keeps (time : ℕ) (mid : ℕ) (s : Sys2Proof.Machine.State) : Keeps 0x200294c0046001010000060040000000000000000000007e780000080000000007000000100622800041a s (actCue time mid s) := by
  unfold actCue
  repeat' first
    | with_reducible exact Keeps.refl _ _
    | with_reducible apply forEach_keeps
    | with_reducible apply Keeps.ite
    | (with_reducible apply Keeps.next (State.modPlanner_keeps ..)); decide +kernel
    | (with_reducible apply Keeps.next (State.setWreg_keeps ..)); decide +kernel
    | (with_reducible apply Keeps.next (machineCueStart_keeps ..)); decide +kernel
    | with_reducible apply Keeps.foldl
    | (intro _; beta_reduce)
    | split
    | dsimp only

theorem elementQuiet_keeps (d : Sys2Proof.DrainDom) (s : Sys2Proof.Machine.State) : Keeps 0x4000014c004600000000000000000000000000000000000000000000800000000000000001000000000010 s (elementQuiet d s) := by
  unfold elementQuiet
  repeat' first
    | with_reducible exact Keeps.refl _ _
    | with_reducible apply Keeps.ite
    | (with_reducible apply Keeps.next (State.modPlanner_keeps ..)); decide +kernel
    | (with_reducible apply Keeps.next (State.raise_keeps ..)); decide +kernel
    | (with_reducible apply Keeps.next (State.wr_keeps ..)); decide +kernel
    | with_reducible apply Keeps.foldl
    | (intro _; beta_reduce)
    | split
    | dsimp only

theorem purgeAct_keeps (w : ℕ) (act : ℕ) (s : Sys2Proof.Machine.State) : Keeps 0x14c004600000000000000000000000000000000000000000000000034000000000000000000040010 s (purgeAct w act s) := by
  unfold purgeAct
  repeat' first
    | with_reducible exact Keeps.refl _ _
    | with_reducible apply forEach_keeps
    | with_reducible apply Keeps.ite
    | (with_reducible apply Keeps.next (dropPacket_keeps ..)); decide +kernel
    | (with_reducible apply Keeps.next (State.putArbs_keeps ..)); decide +kernel
    | with_reducible apply Keeps.foldl
    | (intro _; beta_reduce)
    | split
    | dsimp only

theorem freeOld_keeps (late : Bool) (s : Sys2Proof.Machine.State) : Keeps 0x84000014c004600000000006005060000000000000000000000000010800234000000000001000260060010 s (freeOld late s) := by
  unfold freeOld
  repeat' first
    | with_reducible exact Keeps.refl _ _
    | with_reducible apply forEach_keeps
    | with_reducible apply Keeps.ite
    | (with_reducible apply Keeps.next (State.modPlanner_keeps ..)); decide +kernel
    | (with_reducible apply Keeps.next (State.wrSat_keeps ..)); decide +kernel
    | (with_reducible apply Keeps.next (State.raise_keeps ..)); decide +kernel
    | (with_reducible apply Keeps.next (State.wr_keeps ..)); decide +kernel
    | (with_reducible apply Keeps.next (State.setChipActState_keeps ..)); decide +kernel
    | (with_reducible apply Keeps.next (retireSpines_keeps ..)); decide +kernel
    | (with_reducible apply Keeps.next (State.setActState_keeps ..)); decide +kernel
    | (with_reducible apply Keeps.next (State.setReg_keeps ..)); decide +kernel
    | (with_reducible apply Keeps.next (purgeAct_keeps ..)); decide +kernel
    | with_reducible apply Keeps.foldl
    | (intro _; beta_reduce)
    | split
    | dsimp only

theorem actFree_keeps (s : Sys2Proof.Machine.State) : Keeps 0x84000014c004600000000006005060000000000000000000000000010800234000000000001000260060010 s (actFree s) := by
  unfold actFree
  repeat' first
    | with_reducible exact Keeps.refl _ _
    | with_reducible apply Keeps.ite
    | (with_reducible apply Keeps.next (freeOld_keeps ..)); decide +kernel
    | with_reducible apply Keeps.foldl
    | (intro _; beta_reduce)
    | split
    | dsimp only

theorem waferLoss_keeps (w : ℕ) (s : Sys2Proof.Machine.State) : Keeps 0xffffffffffffffffffffffffffffffffffffffffffffffffffffffffffffffffffffffffffffffff00000873ffdffeff s (waferLoss w s) := by
  unfold waferLoss
  repeat' first
    | with_reducible exact Keeps.refl _ _
    | with_reducible apply Keeps.ite
    | (with_reducible apply Keeps.next (forceAll_keeps ..)); decide +kernel
    | (with_reducible apply Keeps.next (unpower_keeps ..)); decide +kernel
    | with_reducible apply Keeps.foldl
    | (intro _; beta_reduce)
    | split
    | dsimp only

theorem declareLost_keeps (w : ℕ) (s : Sys2Proof.Machine.State) : Keeps 0x1004000000000 s (declareLost w s) := by
  unfold declareLost
  repeat' first
    | with_reducible exact Keeps.refl _ _
    | with_reducible apply Keeps.ite
    | (with_reducible apply Keeps.next (queueOnce_keeps ..)); decide +kernel
    | (with_reducible apply Keeps.next (State.modWafers_keeps ..)); decide +kernel
    | with_reducible apply Keeps.foldl
    | (intro _; beta_reduce)
    | split
    | dsimp only

theorem chipReset_keeps (c : Nat) (s : State) : Keeps 0xffffffffffffffffffffffffffffffffffffffffffffffffffffffffffffffffffffffffffffffff0001000000220000 s (chipReset c s) := by
  unfold chipReset
  refine Keeps.next (State.modPlanner_keeps ..) (by decide +kernel) ?_
  refine Keeps.next (State.withGroupPtr_keeps _ _ (fun h => mwf_filter _ _ _ h)) (by decide +kernel) ?_
  refine Keeps.next (State.withLinks_keeps _ _ (fun h => mwf_filter _ _ _ h)) (by decide +kernel) ?_
  exact Keeps.widen (State.withRegs_keeps _ _ (fun h => mrises_filter _ _ _ h)) (by decide +kernel)

theorem chipStart_keeps (c : ℕ) (s : Sys2Proof.Machine.State) : Keeps 0xffffffffffffffffffffffffffffffffffffffffffffffffffffffffffffffffffffffffffffffff0001000000220000 s (chipStart c s) := by
  unfold chipStart
  repeat' first
    | with_reducible exact Keeps.refl _ _
    | with_reducible apply Keeps.ite
    | (with_reducible apply Keeps.next (State.wr_keeps ..)); decide +kernel
    | (with_reducible apply Keeps.next (chipReset_keeps ..)); decide +kernel
    | with_reducible apply Keeps.foldl
    | (intro _; beta_reduce)
    | split
    | dsimp only

theorem b72Loss_keeps (c : ℕ) (s : Sys2Proof.Machine.State) : Keeps 0xffffffffffffffffffffffffffffffffffffffffffffffffffffffffffffffffffffffffffffffff0001000000220000 s (b72Loss c s) := by
  unfold b72Loss
  repeat' first
    | with_reducible exact Keeps.refl _ _
    | with_reducible apply Keeps.ite
    | (with_reducible apply Keeps.next (State.modPlanner_keeps ..)); decide +kernel
    | (with_reducible apply Keeps.next (queueOnce_keeps ..)); decide +kernel
    | (with_reducible apply Keeps.next (chipReset_keeps ..)); decide +kernel
    | with_reducible apply Keeps.foldl
    | (intro _; beta_reduce)
    | split
    | dsimp only

theorem spineLoss_keeps (w : ℕ) (f : ℕ) (s : Sys2Proof.Machine.State) : Keeps 0x10000001cc000 s (spineLoss w f s) := by
  unfold spineLoss
  repeat' first
    | with_reducible exact Keeps.refl _ _
    | with_reducible apply Keeps.ite
    | (with_reducible apply Keeps.next (queueOnce_keeps ..)); decide +kernel
    | (with_reducible apply Keeps.next (clearSpine_keeps ..)); decide +kernel
    | with_reducible apply Keeps.foldl
    | (intro _; beta_reduce)
    | split
    | dsimp only

theorem unitPlannedReset_keeps (u : Sys2Proof.ResetUnit) (s : Sys2Proof.Machine.State) : Keeps 0xffffffffffffffffffffffffffffffffffffffffffffffffffffffffffffffffffffffffffffffff0001000260220010 s (unitPlannedReset u s) := by
  unfold unitPlannedReset
  repeat' first
    | with_reducible exact Keeps.refl _ _
    | with_reducible apply Keeps.ite
    | (with_reducible apply Keeps.next (State.modPlanner_keeps ..)); decide +kernel
    | (with_reducible apply Keeps.next (domRequest_keeps ..)); decide +kernel
    | (with_reducible apply Keeps.next (chipStart_keeps ..)); decide +kernel
    | with_reducible apply Keeps.foldl
    | (intro _; beta_reduce)
    | split
    | dsimp only

theorem unitAdmit_keeps (c : Sys2Proof.ActChange) (s : Sys2Proof.Machine.State) : Keeps 0x1004000000000 s (unitAdmit c s) := by
  unfold unitAdmit
  repeat' first
    | with_reducible exact Keeps.refl _ _
    | with_reducible apply Keeps.ite
    | (with_reducible apply Keeps.next (State.modPlanner_keeps ..)); decide +kernel
    | (with_reducible apply Keeps.next (queueOnce_keeps ..)); decide +kernel
    | (with_reducible apply Keeps.next (State.modWafers_keeps ..)); decide +kernel
    | with_reducible apply Keeps.foldl
    | (intro _; beta_reduce)
    | split
    | dsimp only

end Sys2Proof.Machine
end

