-- ==== Sys2Proof/Laws/KeepsAperture.lean ====
section
/-!
SUPPORT. What each operation of Machine/Aperture.lean may change.
-/
namespace Sys2Proof.Machine
set_option linter.unusedTactic false
set_option linter.unreachableTactic false
set_option Elab.async false

theorem State.modPchs_keeps (s : Sys2Proof.Machine.State) (k : ℕ) (g : Sys2Proof.Machine.Pch → Sys2Proof.Machine.Pch) : Keeps 0x800000 s (State.modPchs s k g) := by
  unfold State.modPchs
  repeat' first
    | with_reducible exact Keeps.refl _ _
    | with_reducible apply Keeps.ite
    | (with_reducible apply Keeps.next (State.putPchs_keeps ..)); decide +kernel
    | with_reducible apply Keeps.foldl
    | (intro _; beta_reduce)
    | split
    | dsimp only

theorem pchArbitration_keeps (w : ℕ) (f : ℕ) (ch : ℕ) (rs : List Sys2Proof.PchReq) (s : Sys2Proof.Machine.State) : Keeps 0x800000 s (pchArbitration w f ch rs s) := by
  unfold pchArbitration
  repeat' first
    | with_reducible exact Keeps.refl _ _
    | with_reducible apply Keeps.ite
    | (with_reducible apply Keeps.next (State.modPchs_keeps ..)); decide +kernel
    | with_reducible apply Keeps.foldl
    | (intro _; beta_reduce)
    | split
    | dsimp only

theorem scrubSync_keeps (w : ℕ) (f : ℕ) (s : Sys2Proof.Machine.State) : Keeps 0x2080000000000000000000000000000000000000000000 s (scrubSync w f s) := by
  unfold scrubSync
  repeat' first
    | with_reducible exact Keeps.refl _ _
    | with_reducible apply Keeps.ite
    | (with_reducible apply Keeps.next (State.wr_keeps ..)); decide +kernel
    | (with_reducible apply Keeps.next (State.wrSat_keeps ..)); decide +kernel
    | with_reducible apply Keeps.foldl
    | (intro _; beta_reduce)
    | split
    | dsimp only

theorem scrubLine_keeps (w : ℕ) (f : ℕ) (bank : ℕ) (e : Sys2Proof.Ecc) (s : Sys2Proof.Machine.State) : Keeps 0x54c004600000000000001020000000000000bc03fe8000000000000000000700000000000c0400019 s (scrubLine w f bank e s) := by
  unfold scrubLine
  repeat' first
    | with_reducible exact Keeps.refl _ _
    | with_reducible apply Keeps.ite
    | (with_reducible apply Keeps.next (loftCorrected_keeps ..)); decide +kernel
    | (with_reducible apply Keeps.next (loftUncorrectable_keeps ..)); decide +kernel
    | (with_reducible apply Keeps.next (State.modLofts_keeps ..)); decide +kernel
    | with_reducible apply Keeps.foldl
    | (intro _; beta_reduce)
    | split
    | dsimp only

theorem scrubLate_keeps (w : ℕ) (f : ℕ) (bank : ℕ) (s : Sys2Proof.Machine.State) : Keeps 0x54c004600000000000000000000000000002080000000000000000000000000000000000000400010 s (scrubLate w f bank s) := by
  unfold scrubLate
  repeat' first
    | with_reducible exact Keeps.refl _ _
    | with_reducible apply Keeps.ite
    | (with_reducible apply Keeps.next (State.putLofts_keeps ..)); decide +kernel
    | (with_reducible apply Keeps.next (State.raiseF_keeps ..)); decide +kernel
    | (with_reducible apply Keeps.next (scrubSync_keeps ..)); decide +kernel
    | with_reducible apply Keeps.foldl
    | (intro _; beta_reduce)
    | split
    | dsimp only

theorem spareCopy_keeps (w : ℕ) (f : ℕ) (row : ℕ) (es : List Sys2Proof.Ecc) (s : Sys2Proof.Machine.State) : Keeps 0x54c004600000000000001020000000000000bc03fe8000000000000000000700000000000c0400019 s (spareCopy w f row es s) := by
  unfold spareCopy
  repeat' first
    | with_reducible exact Keeps.refl _ _
    | with_reducible apply forEach_keeps
    | with_reducible apply Keeps.ite
    | (with_reducible apply Keeps.next (State.wrSat_keeps ..)); decide +kernel
    | (with_reducible apply Keeps.next (State.bump_keeps ..)); decide +kernel
    | (with_reducible apply Keeps.next (State.raiseF_keeps ..)); decide +kernel
    | (with_reducible apply Keeps.next (State.wr_keeps ..)); decide +kernel
    | (with_reducible apply Keeps.next (loftRetire_keeps ..)); decide +kernel
    | (with_reducible apply Keeps.next (loftUncorrectable_keeps ..)); decide +kernel
    | (with_reducible apply Keeps.next (State.modLofts_keeps ..)); decide +kernel
    | with_reducible apply Keeps.foldl
    | (intro _; beta_reduce)
    | split
    | dsimp only

theorem apertureError_keeps (w : ℕ) (off : ℕ) (reason : ℕ) (write : Bool) (s : Sys2Proof.Machine.State) : Keeps 0x14c004600000000000000000000000000200000000000000000000000000000000000000000000010 s (apertureError w off reason write s) := by
  unfold apertureError
  repeat' first
    | with_reducible exact Keeps.refl _ _
    | with_reducible apply Keeps.ite
    | (with_reducible apply Keeps.next (State.raise_keeps ..)); decide +kernel
    | (with_reducible apply Keeps.next (State.wr_keeps ..)); decide +kernel
    | with_reducible apply Keeps.foldl
    | (intro _; beta_reduce)
    | split
    | dsimp only

theorem apertureRead_keeps (w : ℕ) (off : ℕ) (n : ℕ) (e : Sys2Proof.Ecc) (s : Sys2Proof.Machine.State) : Keeps 0x54c004600000000000001020000000000208bc03fe8000000000000000000700000000000c0400019 s (apertureRead w off n e s) := by
  unfold apertureRead
  repeat' first
    | with_reducible exact Keeps.refl _ _
    | with_reducible apply forEach_keeps
    | with_reducible apply Keeps.ite
    | (with_reducible apply Keeps.next (loftCountRead_keeps ..)); decide +kernel
    | (with_reducible apply Keeps.next (loftCorrected_keeps ..)); decide +kernel
    | (with_reducible apply Keeps.next (State.emit_keeps ..)); decide +kernel
    | (with_reducible apply Keeps.next (apertureError_keeps ..)); decide +kernel
    | (with_reducible apply Keeps.next (loftUncorrectable_keeps ..)); decide +kernel
    | with_reducible apply Keeps.foldl
    | (intro _; beta_reduce)
    | split
    | dsimp only

theorem apertureWrite_keeps (w : ℕ) (off : ℕ) (bs : List (Bool × ℕ)) (e : Sys2Proof.Ecc) (s : Sys2Proof.Machine.State) : Keeps 0x54c004600000000000001020000000000210fc03fe8200090008000000000700000000000d840001b s (apertureWrite w off bs e s) := by
  unfold apertureWrite
  repeat' first
    | with_reducible exact Keeps.refl _ _
    | with_reducible apply forEach_keeps
    | with_reducible apply Keeps.ite
    | (with_reducible apply Keeps.next (loftCorrected_keeps ..)); decide +kernel
    | (with_reducible apply Keeps.next (State.bump_keeps ..)); decide +kernel
    | (with_reducible apply Keeps.next (loftWrite_keeps ..)); decide +kernel
    | (with_reducible apply Keeps.next (apertureError_keeps ..)); decide +kernel
    | (with_reducible apply Keeps.next (loftUncorrectable_keeps ..)); decide +kernel
    | with_reducible apply Keeps.foldl
    | (intro _; beta_reduce)
    | split
    | dsimp only

end Sys2Proof.Machine
end

