-- ==== Sys2Proof/Laws/KeepsOperands.lean ====
section
/-!
SUPPORT. What each operation of Machine/Operands.lean may change.
-/
namespace Sys2Proof.Machine
set_option linter.unusedTactic false
set_option linter.unreachableTactic false
set_option Elab.async false

theorem readChecked_keeps {w : ℕ} {f : ℕ} {u : ℕ} {a : ℕ} {n : ℕ} {e : Sys2Proof.Ecc} {k : Sys2Proof.Machine.State → Sys2Proof.Machine.State} {M : Nat} (hm : 0x58090000000074c0046000000001060050600000309200f04c03fe8200090008000004100700000000003f8086e1b ||| M = M) (hg : ∀ t, Keeps M t (k t)) {s0 s1 : State} (h : Keeps M s0 s1) : Keeps M s0 (readChecked w f u a n e s1 k) := by
  unfold readChecked
  repeat' first
    | with_reducible exact h
    | with_reducible apply Keeps.next (hg ..) (sub_refl _)
    | with_reducible exact Keeps.refl _ _
    | with_reducible apply Keeps.ite
    | (with_reducible apply Keeps.next (State.bump_keeps ..)); exact sub_trans (by decide +kernel) hm
    | (with_reducible apply Keeps.next (spadFault_keeps ..)); exact sub_trans (by decide +kernel) hm
    | with_reducible apply Keeps.foldl
    | (intro _; beta_reduce)
    | split
    | dsimp only

theorem writeChecked_keeps {w : ℕ} {f : ℕ} {u : ℕ} {a : ℕ} {bs : List ℕ} {e : Sys2Proof.Ecc} {k : Sys2Proof.Machine.State → Sys2Proof.Machine.State} {M : Nat} (hm : 0x58090000000074c0046000000001060050600000309200f04c03fe8200090008000004100700000000003f8086e1b ||| M = M) (hg : ∀ t, Keeps M t (k t)) {s0 s1 : State} (h : Keeps M s0 s1) : Keeps M s0 (writeChecked w f u a bs e s1 k) := by
  unfold writeChecked
  repeat' first
    | with_reducible exact h
    | with_reducible apply Keeps.next (hg ..) (sub_refl _)
    | with_reducible exact Keeps.refl _ _
    | with_reducible apply Keeps.ite
    | (with_reducible apply Keeps.next (State.bump_keeps ..)); exact sub_trans (by decide +kernel) hm
    | (with_reducible apply Keeps.next (State.modCore_keeps ..)); exact sub_trans (by decide +kernel) hm
    | (with_reducible apply Keeps.next (spadFault_keeps ..)); exact sub_trans (by decide +kernel) hm
    | with_reducible apply Keeps.foldl
    | (intro _; beta_reduce)
    | split
    | dsimp only

end Sys2Proof.Machine
end

