-- ==== Sys2Proof/Laws/KeepsFlags.lean ====
section
/-!
SUPPORT. What each operation of Machine/Flags.lean may change.
-/
namespace Sys2Proof.Machine
set_option linter.unusedTactic false
set_option linter.unreachableTactic false
set_option Elab.async false

theorem advance_keeps (w : ℕ) (f : ℕ) (u : ℕ) (s : Sys2Proof.Machine.State) : Keeps 0x400000000000000000000200 s (advance w f u s) := by
  unfold advance
  repeat' first
    | with_reducible exact Keeps.refl _ _
    | with_reducible apply Keeps.ite
    | (with_reducible apply Keeps.next (State.modCore_keeps ..)); decide +kernel
    | with_reducible apply Keeps.foldl
    | (intro _; beta_reduce)
    | split
    | dsimp only

theorem stepEnd_keeps (w : ℕ) (f : ℕ) (u : ℕ) (s : Sys2Proof.Machine.State) : Keeps 0x58090000000014c004600000000100000000000000800000000000000000000000000400000000000000000002210 s (stepEnd w f u s) := by
  unfold stepEnd
  repeat' first
    | with_reducible exact Keeps.refl _ _
    | with_reducible apply Keeps.ite
    | (with_reducible apply Keeps.next (haltCore_keeps ..)); decide +kernel
    | with_reducible apply Keeps.foldl
    | (intro _; beta_reduce)
    | split
    | dsimp only

theorem issue_keeps {w : ℕ} {f : ℕ} {u : ℕ} {body : Sys2Proof.Machine.State → Sys2Proof.Machine.State} {M : Nat} (hm : 0x58090000000074c0046000000001060050600000309200d04c03fe8200090008000004100700000000003f8086e1b ||| M = M) (hg : ∀ t, Keeps M t (body t)) {s0 s1 : State} (h : Keeps M s0 s1) : Keeps M s0 (issue w f u body s1) := by
  unfold issue
  repeat' first
    | with_reducible exact h
    | with_reducible apply Keeps.next (hg ..) (sub_refl _)
    | with_reducible exact Keeps.refl _ _
    | with_reducible apply Keeps.ite
    | (with_reducible apply Keeps.next (haltCore_keeps ..)); exact sub_trans (by decide +kernel) hm
    | (with_reducible apply Keeps.next (coreFault_keeps ..)); exact sub_trans (by decide +kernel) hm
    | (with_reducible apply Keeps.next (State.modCore_keeps ..)); exact sub_trans (by decide +kernel) hm
    | (with_reducible apply Keeps.next (stepEnd_keeps ..)); exact sub_trans (by decide +kernel) hm
    | (with_reducible apply Keeps.next (spadUncorrectable_keeps ..)); exact sub_trans (by decide +kernel) hm
    | with_reducible apply Keeps.foldl
    | (intro _; beta_reduce)
    | split
    | dsimp only

theorem openTokens_keeps (w : ℕ) (f : ℕ) (u : ℕ) (s : Sys2Proof.Machine.State) : Keeps 0x800000000000000000000000 s (openTokens w f u s) := by
  unfold openTokens
  repeat' first
    | with_reducible exact Keeps.refl _ _
    | with_reducible apply Keeps.ite
    | (with_reducible apply Keeps.next (State.fresh_keeps ..)); decide +kernel
    | (with_reducible apply Keeps.next (State.addTokens_keeps ..)); decide +kernel
    | with_reducible apply Keeps.foldl
    | (intro _; beta_reduce)
    | split
    | dsimp only

theorem writeReg_keeps (w : ℕ) (f : ℕ) (u : ℕ) (rd : ℕ) (v : ℕ) (s : Sys2Proof.Machine.State) : Keeps 0xc00000000000000000000200 s (writeReg w f u rd v s) := by
  unfold writeReg
  repeat' first
    | with_reducible exact Keeps.refl _ _
    | with_reducible apply Keeps.ite
    | (with_reducible apply Keeps.next (openTokens_keeps ..)); decide +kernel
    | (with_reducible apply Keeps.next (State.modCore_keeps ..)); decide +kernel
    | with_reducible apply Keeps.foldl
    | (intro _; beta_reduce)
    | split
    | dsimp only

theorem writePair_keeps (w : ℕ) (f : ℕ) (u : ℕ) (rd : ℕ) (v : ℕ) (s : Sys2Proof.Machine.State) : Keeps 0xc00000000000000000000200 s (writePair w f u rd v s) := by
  unfold writePair
  repeat' first
    | with_reducible exact Keeps.refl _ _
    | with_reducible apply Keeps.ite
    | (with_reducible apply Keeps.next (openTokens_keeps ..)); decide +kernel
    | (with_reducible apply Keeps.next (State.modCore_keeps ..)); decide +kernel
    | with_reducible apply Keeps.foldl
    | (intro _; beta_reduce)
    | split
    | dsimp only

theorem watched_keeps (w : ℕ) (f : ℕ) (u : ℕ) (a : ℕ) (n : ℕ) (kind : ℕ) (s : Sys2Proof.Machine.State) : Keeps 0x58090000000014c004600000000100000000000000800000000000000000000000000400000000000000000002210 s (watched w f u a n kind s) := by
  unfold watched
  repeat' first
    | with_reducible exact Keeps.refl _ _
    | with_reducible apply Keeps.ite
    | (with_reducible apply Keeps.next (haltCore_keeps ..)); decide +kernel
    | with_reducible apply Keeps.foldl
    | (intro _; beta_reduce)
    | split
    | dsimp only

theorem writeTensor_keeps (w : ℕ) (f : ℕ) (u : ℕ) (td : ℕ) (bs : List ℕ) (fl : Sys2Proof.Machine.Flg) (tokens : ℕ) (s : Sys2Proof.Machine.State) : Keeps 0xc00000000000000000000200 s (writeTensor w f u td bs fl tokens s) := by
  unfold writeTensor
  repeat' first
    | with_reducible exact Keeps.refl _ _
    | with_reducible apply Keeps.ite
    | (with_reducible apply Keeps.next (State.modCore_keeps ..)); decide +kernel
    | (with_reducible apply Keeps.next (State.addTokens_keeps ..)); decide +kernel
    | with_reducible apply Keeps.foldl
    | (intro _; beta_reduce)
    | split
    | dsimp only

theorem tensorChecked_keeps {w : ℕ} {f : ℕ} {u : ℕ} {ranges : List (ℕ × ℕ)} {k : Sys2Proof.Machine.State → Sys2Proof.Machine.State} {M : Nat} (hm : 0x58090000000074c0046000000001060050600000309200d04c03fe8200090008000004100700000000003f8086e1b ||| M = M) (hg : ∀ t, Keeps M t (k t)) {s0 s1 : State} (h : Keeps M s0 s1) : Keeps M s0 (tensorChecked w f u ranges s1 k) := by
  unfold tensorChecked
  repeat' first
    | with_reducible exact h
    | with_reducible apply Keeps.next (hg ..) (sub_refl _)
    | with_reducible exact Keeps.refl _ _
    | with_reducible apply Keeps.ite
    | (with_reducible apply Keeps.next (spadFault_keeps ..)); exact sub_trans (by decide +kernel) hm
    | with_reducible apply Keeps.foldl
    | (intro _; beta_reduce)
    | split
    | dsimp only

theorem vecOp_keeps (w : ℕ) (f : ℕ) (u : ℕ) (bf : Bool) (td : ℕ) (srcs : List ℕ) (op : List ℕ → ℕ × Sys2Proof.Machine.Flg) (s : Sys2Proof.Machine.State) : Keeps 0x58090000000074c0046000000001060050600000309200d04c03fe820009000800000c100700000000003f8086e1b s (vecOp w f u bf td srcs op s) := by
  unfold vecOp
  repeat' first
    | with_reducible exact Keeps.refl _ _
    | with_reducible apply Keeps.ite
    | (with_reducible apply tensorChecked_keeps); decide +kernel; skip
    | (with_reducible apply Keeps.next (writeTensor_keeps ..)); decide +kernel
    | with_reducible apply Keeps.foldl
    | (intro _; beta_reduce)
    | split
    | dsimp only

end Sys2Proof.Machine
end

