-- ==== Sys2Proof/Laws/KeepsCoreOps.lean ====
section
/-!
SUPPORT. What each operation of Machine/CoreOps.lean may change.
-/
namespace Sys2Proof.Machine
set_option linter.unusedTactic false
set_option linter.unreachableTactic false
set_option Elab.async false

theorem branch_keeps (w : ℕ) (f : ℕ) (u : ℕ) (c : Sys2Proof.BrCond) (target : ℕ) (s : Sys2Proof.Machine.State) : Keeps 0x58090000000034c004600000000106005060000030920010400000020009000800000c10000000000000278086e13 s (branch w f u c target s) := by
  unfold branch
  repeat' first
    | with_reducible exact Keeps.refl _ _
    | with_reducible apply Keeps.ite
    | (with_reducible apply Keeps.next (advance_keeps ..)); decide +kernel
    | (with_reducible apply Keeps.next (coreFault_keeps ..)); decide +kernel
    | (with_reducible apply Keeps.next (openTokens_keeps ..)); decide +kernel
    | (with_reducible apply Keeps.next (State.modCore_keeps ..)); decide +kernel
    | with_reducible apply Keeps.foldl
    | (intro _; beta_reduce)
    | split
    | dsimp only

theorem waitOn_keeps (w : ℕ) (f : ℕ) (u : ℕ) (word : ℕ) (count : ℕ) (s : Sys2Proof.Machine.State) : Keeps 0xc00000000000000000000200 s (waitOn w f u word count s) := by
  unfold waitOn
  repeat' first
    | with_reducible exact Keeps.refl _ _
    | with_reducible apply Keeps.ite
    | (with_reducible apply Keeps.next (advance_keeps ..)); decide +kernel
    | (with_reducible apply Keeps.next (openTokens_keeps ..)); decide +kernel
    | (with_reducible apply Keeps.next (State.modCore_keeps ..)); decide +kernel
    | with_reducible apply Keeps.foldl
    | (intro _; beta_reduce)
    | split
    | dsimp only

theorem mma_keeps (w : ℕ) (f : ℕ) (u : ℕ) (xa : Sys2Proof.Fmt) (xb : Sys2Proof.Fmt) (pair : ℕ) (ta : ℕ) (tb : ℕ) (s : Sys2Proof.Machine.State) : Keeps 0x58090000000074c0046000000001060050600000309200d04c03fe820009000800000c100700000000003f8086e1b s (mma w f u xa xb pair ta tb s) := by
  unfold mma
  repeat' first
    | with_reducible exact Keeps.refl _ _
    | with_reducible apply Keeps.ite
    | (with_reducible apply tensorChecked_keeps); decide +kernel; skip
    | (with_reducible apply Keeps.next (coreFault_keeps ..)); decide +kernel
    | (with_reducible apply Keeps.next (writeTensor_keeps ..)); decide +kernel
    | (with_reducible apply Keeps.next (State.modCore_keeps ..)); decide +kernel
    | with_reducible apply Keeps.foldl
    | (intro _; beta_reduce)
    | split
    | dsimp only

theorem cvt_keeps (w : ℕ) (f : ℕ) (u : ℕ) (src : Sys2Proof.CvtFmt) (dst : Sys2Proof.CvtFmt) (td : ℕ) (ta : ℕ) (sh : ℕ) (s : Sys2Proof.Machine.State) : Keeps 0x58090000000074c0046000000001060050600000309200d04c03fe820009000800000c100700000000003f8086e1b s (cvt w f u src dst td ta sh s) := by
  unfold cvt
  repeat' first
    | with_reducible exact Keeps.refl _ _
    | with_reducible apply Keeps.ite
    | (with_reducible apply tensorChecked_keeps); decide +kernel; skip
    | (with_reducible apply Keeps.next (coreFault_keeps ..)); decide +kernel
    | (with_reducible apply Keeps.next (openTokens_keeps ..)); decide +kernel
    | (with_reducible apply Keeps.next (State.modCore_keeps ..)); decide +kernel
    | with_reducible apply Keeps.foldl
    | (intro _; beta_reduce)
    | split
    | dsimp only

theorem vecReduce_keeps (w : ℕ) (f : ℕ) (u : ℕ) (bf : Bool) (td : ℕ) (ta : ℕ) (s : Sys2Proof.Machine.State) : Keeps 0x58090000000074c0046000000001060050600000309200d04c03fe820009000800000c100700000000003f8086e1b s (vecReduce w f u bf td ta s) := by
  unfold vecReduce
  repeat' first
    | with_reducible exact Keeps.refl _ _
    | with_reducible apply Keeps.ite
    | (with_reducible apply tensorChecked_keeps); decide +kernel; skip
    | (with_reducible apply Keeps.next (writeTensor_keeps ..)); decide +kernel
    | with_reducible apply Keeps.foldl
    | (intro _; beta_reduce)
    | split
    | dsimp only

theorem load_keeps (w : ℕ) (f : ℕ) (u : ℕ) (rd : ℕ) (a : ℕ) (e : Sys2Proof.Ecc) (s : Sys2Proof.Machine.State) : Keeps 0x58090000000074c0046000000001060050600000309200f04c03fe820009000800000c100700000000003f8086e1b s (load w f u rd a e s) := by
  unfold load
  repeat' first
    | with_reducible exact Keeps.refl _ _
    | with_reducible apply Keeps.ite
    | (with_reducible apply readChecked_keeps); decide +kernel; skip
    | (with_reducible apply Keeps.next (writeReg_keeps ..)); decide +kernel
    | (with_reducible apply Keeps.next (coreFault_keeps ..)); decide +kernel
    | (with_reducible apply Keeps.next (watched_keeps ..)); decide +kernel
    | with_reducible apply Keeps.foldl
    | (intro _; beta_reduce)
    | split
    | dsimp only

theorem store_keeps (w : ℕ) (f : ℕ) (u : ℕ) (rs : ℕ) (a : ℕ) (e : Sys2Proof.Ecc) (s : Sys2Proof.Machine.State) : Keeps 0x58090000000074c0046000000001060050600000309200f04c03fe820009000800000c100700000000003f8086e1b s (store w f u rs a e s) := by
  unfold store
  repeat' first
    | with_reducible exact Keeps.refl _ _
    | with_reducible apply Keeps.ite
    | (with_reducible apply Keeps.next (advance_keeps ..)); decide +kernel
    | (with_reducible apply writeChecked_keeps); decide +kernel; skip
    | (with_reducible apply Keeps.next (coreFault_keeps ..)); decide +kernel
    | (with_reducible apply Keeps.next (openTokens_keeps ..)); decide +kernel
    | (with_reducible apply Keeps.next (watched_keeps ..)); decide +kernel
    | with_reducible apply Keeps.foldl
    | (intro _; beta_reduce)
    | split
    | dsimp only

theorem loadTensor_keeps (w : ℕ) (f : ℕ) (u : ℕ) (td : ℕ) (a : ℕ) (e : Sys2Proof.Ecc) (s : Sys2Proof.Machine.State) : Keeps 0x58090000000074c0046000000001060050600000309200f04c03fe820009000800000c100700000000003f8086e1b s (loadTensor w f u td a e s) := by
  unfold loadTensor
  repeat' first
    | with_reducible exact Keeps.refl _ _
    | with_reducible apply Keeps.ite
    | (with_reducible apply readChecked_keeps); decide +kernel; skip
    | (with_reducible apply Keeps.next (coreFault_keeps ..)); decide +kernel
    | (with_reducible apply Keeps.next (openTokens_keeps ..)); decide +kernel
    | (with_reducible apply Keeps.next (State.modCore_keeps ..)); decide +kernel
    | (with_reducible apply Keeps.next (watched_keeps ..)); decide +kernel
    | with_reducible apply Keeps.foldl
    | (intro _; beta_reduce)
    | split
    | dsimp only

theorem storeTensor_keeps (w : ℕ) (f : ℕ) (u : ℕ) (ts : ℕ) (a : ℕ) (e : Sys2Proof.Ecc) (s : Sys2Proof.Machine.State) : Keeps 0x58090000000074c0046000000001060050600000309200f04c03fe820009000800000c100700000000003f8086e1b s (storeTensor w f u ts a e s) := by
  unfold storeTensor
  repeat' first
    | with_reducible exact Keeps.refl _ _
    | with_reducible apply Keeps.ite
    | (with_reducible apply Keeps.next (advance_keeps ..)); decide +kernel
    | (with_reducible apply writeChecked_keeps); decide +kernel; skip
    | (with_reducible apply tensorChecked_keeps); decide +kernel; skip
    | (with_reducible apply Keeps.next (coreFault_keeps ..)); decide +kernel
    | (with_reducible apply Keeps.next (openTokens_keeps ..)); decide +kernel
    | (with_reducible apply Keeps.next (watched_keeps ..)); decide +kernel
    | with_reducible apply Keeps.foldl
    | (intro _; beta_reduce)
    | split
    | dsimp only

theorem lget_keeps (w : ℕ) (f : ℕ) (u : ℕ) (dest : ℕ) (off : ℕ) (ret : ℕ) (len : ℕ) (s : Sys2Proof.Machine.State) : Keeps 0x58090000000034c004600000000106005060000030920010400000020009000800000c10000000000000278086e13 s (lget w f u dest off ret len s) := by
  unfold lget
  repeat' first
    | with_reducible exact Keeps.refl _ _
    | with_reducible apply Keeps.ite
    | (with_reducible apply Keeps.next (sendMsg_keeps ..)); decide +kernel
    | (with_reducible apply Keeps.next (advance_keeps ..)); decide +kernel
    | (with_reducible apply Keeps.next (coreFault_keeps ..)); decide +kernel
    | (with_reducible apply Keeps.next (openTokens_keeps ..)); decide +kernel
    | with_reducible apply Keeps.foldl
    | (intro _; beta_reduce)
    | split
    | dsimp only

theorem toRank_keeps {w : ℕ} {f : ℕ} {u : ℕ} {rank : ℕ} {k : ℕ → Sys2Proof.Machine.State → Sys2Proof.Machine.State} {M : Nat} (hm : 0x58090000000034c004600000000106005060000030920010400000020009000800000410000000000000278086e13 ||| M = M) (hg : ∀ x0 t, Keeps M t (k x0 t)) {s0 s1 : State} (h : Keeps M s0 s1) : Keeps M s0 (toRank w f u rank s1 k) := by
  unfold toRank
  repeat' first
    | with_reducible exact h
    | with_reducible apply Keeps.next (hg ..) (sub_refl _)
    | with_reducible exact Keeps.refl _ _
    | with_reducible apply Keeps.ite
    | (with_reducible apply Keeps.next (coreFault_keeps ..)); exact sub_trans (by decide +kernel) hm
    | with_reducible apply Keeps.foldl
    | (intro _; beta_reduce)
    | split
    | dsimp only

theorem send_keeps (w : ℕ) (f : ℕ) (u : ℕ) (rank : ℕ) (a : ℕ) (src : ℕ) (len : ℕ) (s : Sys2Proof.Machine.State) : Keeps 0x58090000000074c0046000000001060050600000309200f04c03fe820009000800000c100700000000003f8086e1b s (send w f u rank a src len s) := by
  unfold send
  repeat' first
    | with_reducible exact Keeps.refl _ _
    | with_reducible apply Keeps.ite
    | (with_reducible apply Keeps.next (sendMsg_keeps ..)); decide +kernel
    | (with_reducible apply readChecked_keeps); decide +kernel; skip
    | (with_reducible apply Keeps.next (advance_keeps ..)); decide +kernel
    | (with_reducible apply Keeps.next (coreFault_keeps ..)); decide +kernel
    | (with_reducible apply toRank_keeps); decide +kernel; skip
    | (with_reducible apply Keeps.next (openTokens_keeps ..)); decide +kernel
    | with_reducible apply Keeps.foldl
    | (intro _; beta_reduce)
    | split
    | dsimp only

theorem fetch_keeps (w : ℕ) (f : ℕ) (u : ℕ) (rank : ℕ) (a : ℕ) (ret : ℕ) (len : ℕ) (s : Sys2Proof.Machine.State) : Keeps 0x58090000000034c004600000000106005060000030920010400000020009000800000c10000000000000278086e13 s (fetch w f u rank a ret len s) := by
  unfold fetch
  repeat' first
    | with_reducible exact Keeps.refl _ _
    | with_reducible apply Keeps.ite
    | (with_reducible apply Keeps.next (sendMsg_keeps ..)); decide +kernel
    | (with_reducible apply Keeps.next (advance_keeps ..)); decide +kernel
    | (with_reducible apply Keeps.next (coreFault_keeps ..)); decide +kernel
    | (with_reducible apply toRank_keeps); decide +kernel; skip
    | (with_reducible apply Keeps.next (openTokens_keeps ..)); decide +kernel
    | with_reducible apply Keeps.foldl
    | (intro _; beta_reduce)
    | split
    | dsimp only

theorem signal_keeps (w : ℕ) (f : ℕ) (u : ℕ) (rank : ℕ) (word : ℕ) (s : Sys2Proof.Machine.State) : Keeps 0x58090000000034c004600000000106005060000030920010400000020009000800000c10000000000000278086e13 s (signal w f u rank word s) := by
  unfold signal
  repeat' first
    | with_reducible exact Keeps.refl _ _
    | with_reducible apply Keeps.ite
    | (with_reducible apply Keeps.next (advance_keeps ..)); decide +kernel
    | (with_reducible apply Keeps.next (enqueue_keeps ..)); decide +kernel
    | (with_reducible apply toRank_keeps); decide +kernel; skip
    | (with_reducible apply Keeps.next (openTokens_keeps ..)); decide +kernel
    | with_reducible apply Keeps.foldl
    | (intro _; beta_reduce)
    | split
    | dsimp only

theorem push_keeps (w : ℕ) (f : ℕ) (u : ℕ) (d : ℕ) (rd : ℕ) (rs : ℕ) (s : Sys2Proof.Machine.State) : Keeps 0xc00000000000000000000200 s (push w f u d rd rs s) := by
  unfold push
  repeat' first
    | with_reducible exact Keeps.refl _ _
    | with_reducible apply Keeps.ite
    | (with_reducible apply Keeps.next (writeReg_keeps ..)); decide +kernel
    | (with_reducible apply Keeps.next (State.setCore_keeps ..)); decide +kernel
    | with_reducible apply Keeps.foldl
    | (intro _; beta_reduce)
    | split
    | dsimp only

theorem pop_keeps (w : ℕ) (f : ℕ) (u : ℕ) (s : Sys2Proof.Machine.State) : Keeps 0xc00000000000000000000200 s (pop w f u s) := by
  unfold pop
  repeat' first
    | with_reducible exact Keeps.refl _ _
    | with_reducible apply Keeps.ite
    | (with_reducible apply Keeps.next (State.setCore_keeps ..)); decide +kernel
    | (with_reducible apply Keeps.next (openTokens_keeps ..)); decide +kernel
    | with_reducible apply Keeps.foldl
    | (intro _; beta_reduce)
    | split
    | dsimp only

theorem stealNext_keeps (w : ℕ) (f : ℕ) (u : ℕ) (s : Sys2Proof.Machine.State) : Keeps 0x400000000000000000080200 s (stealNext w f u s) := by
  unfold stealNext
  repeat' first
    | with_reducible exact Keeps.refl _ _
    | with_reducible apply Keeps.ite
    | (with_reducible apply Keeps.next (enqueue_keeps ..)); decide +kernel
    | (with_reducible apply Keeps.next (State.setCore_keeps ..)); decide +kernel
    | with_reducible apply Keeps.foldl
    | (intro _; beta_reduce)
    | split
    | dsimp only

theorem stealRetry_keeps (w : ℕ) (f : ℕ) (u : ℕ) (s : Sys2Proof.Machine.State) : Keeps 0x400000000000000000080200 s (stealRetry w f u s) := by
  unfold stealRetry
  repeat' first
    | with_reducible exact Keeps.refl _ _
    | with_reducible apply Keeps.ite
    | (with_reducible apply Keeps.next (State.setCore_keeps ..)); decide +kernel
    | (with_reducible apply Keeps.next (stealNext_keeps ..)); decide +kernel
    | with_reducible apply Keeps.foldl
    | (intro _; beta_reduce)
    | split
    | dsimp only

theorem State.peak_keeps (s : Sys2Proof.Machine.State) (x : Sys2Proof.Machine.Fld) (w : ℕ) (i : ℕ) (v : ℕ) : Keeps (regBit x.reg) s (State.peak s x w i v) := by
  unfold State.peak
  repeat' first
    | with_reducible exact Keeps.refl _ _
    | with_reducible apply Keeps.ite
    | (with_reducible apply Keeps.next (State.wr_keeps ..)); (first | decide +kernel | exact sub_right _ _ | exact sub_refl _ | exact sub_left (by decide +kernel) | exact regBit_sub (by decide +kernel) _ | exact sub_or (by decide +kernel) (regBit_sub (by decide +kernel) _))
    | with_reducible apply Keeps.foldl
    | (intro _; beta_reduce)
    | split
    | dsimp only

theorem cbAdd_keeps (w : ℕ) (f : ℕ) (u : ℕ) (e : Sys2Proof.Machine.CbEntry) (s : Sys2Proof.Machine.State) : Keeps 0xc20000000000000000000200 s (cbAdd w f u e s) := by
  unfold cbAdd
  repeat' first
    | with_reducible exact Keeps.refl _ _
    | with_reducible apply Keeps.ite
    | (with_reducible apply Keeps.next (State.peak_keeps ..)); decide +kernel
    | (with_reducible apply Keeps.next (openTokens_keeps ..)); decide +kernel
    | (with_reducible apply Keeps.next (State.modCore_keeps ..)); decide +kernel
    | with_reducible apply Keeps.foldl
    | (intro _; beta_reduce)
    | split
    | dsimp only

theorem outWrite_keeps (w : ℕ) (f : ℕ) (u : ℕ) (src : ℕ) (len : ℕ) (e : Sys2Proof.Machine.CbEntry) (s : Sys2Proof.Machine.State) : Keeps 0x58090000000034c004600000000106005060000030920010400000020009000800000c30000000000000278086e13 s (outWrite w f u src len e s) := by
  unfold outWrite
  repeat' first
    | with_reducible exact Keeps.refl _ _
    | with_reducible apply Keeps.ite
    | (with_reducible apply Keeps.next (coreFault_keeps ..)); decide +kernel
    | (with_reducible apply Keeps.next (cbAdd_keeps ..)); decide +kernel
    | with_reducible apply Keeps.foldl
    | (intro _; beta_reduce)
    | split
    | dsimp only

theorem atomic_keeps (w : ℕ) (f : ℕ) (u : ℕ) (op : ℕ) (wide : Bool) (dest : ℕ) (off : ℕ) (rs : ℕ) (s : Sys2Proof.Machine.State) : Keeps 0x58090000000034c004600000000106005060000030920010400000020009000800000c30000000000000278086e13 s (atomic w f u op wide dest off rs s) := by
  unfold atomic
  repeat' first
    | with_reducible exact Keeps.refl _ _
    | with_reducible apply Keeps.ite
    | (with_reducible apply Keeps.next (coreFault_keeps ..)); decide +kernel
    | (with_reducible apply Keeps.next (cbAdd_keeps ..)); decide +kernel
    | with_reducible apply Keeps.foldl
    | (intro _; beta_reduce)
    | split
    | dsimp only

theorem sendTake_keeps (w : ℕ) (f : ℕ) (u : ℕ) (sem : ℕ) (slot : ℕ) (s : Sys2Proof.Machine.State) : Keeps 0x400000000000000000080200 s (sendTake w f u sem slot s) := by
  unfold sendTake
  repeat' first
    | with_reducible exact Keeps.refl _ _
    | with_reducible apply Keeps.ite
    | (with_reducible apply Keeps.next (sendMgmt_keeps ..)); decide +kernel
    | (with_reducible apply Keeps.next (State.modCore_keeps ..)); decide +kernel
    | with_reducible apply Keeps.foldl
    | (intro _; beta_reduce)
    | split
    | dsimp only

theorem semaTake_keeps (w : ℕ) (f : ℕ) (u : ℕ) (rs : ℕ) (s : Sys2Proof.Machine.State) : Keeps 0x400000000000000000080200 s (semaTake w f u rs s) := by
  unfold semaTake
  repeat' first
    | with_reducible exact Keeps.refl _ _
    | with_reducible apply Keeps.ite
    | (with_reducible apply Keeps.next (sendTake_keeps ..)); decide +kernel
    | with_reducible apply Keeps.foldl
    | (intro _; beta_reduce)
    | split
    | dsimp only

theorem semaGive_keeps (w : ℕ) (f : ℕ) (u : ℕ) (rs : ℕ) (s : Sys2Proof.Machine.State) : Keeps 0x58090000000034c004600000000106005060000030920010400000020009000800000c30000000000000278086e13 s (semaGive w f u rs s) := by
  unfold semaGive
  repeat' first
    | with_reducible exact Keeps.refl _ _
    | with_reducible apply Keeps.ite
    | (with_reducible apply Keeps.next (coreFault_keeps ..)); decide +kernel
    | (with_reducible apply Keeps.next (cbAdd_keeps ..)); decide +kernel
    | with_reducible apply Keeps.foldl
    | (intro _; beta_reduce)
    | split
    | dsimp only

theorem spadScrub_keeps (w : ℕ) (f : ℕ) (u : ℕ) (line : ℕ) (e : Sys2Proof.Ecc) (s : Sys2Proof.Machine.State) : Keeps 0x54c0046000000000000010200000000001e00c03fe8000000000000006000700000000001c0000218 s (spadScrub w f u line e s) := by
  unfold spadScrub
  repeat' first
    | with_reducible exact Keeps.refl _ _
    | with_reducible apply Keeps.ite
    | (with_reducible apply Keeps.next (State.modCore_keeps ..)); decide +kernel
    | (with_reducible apply Keeps.next (State.bump_keeps ..)); decide +kernel
    | (with_reducible apply Keeps.next (spadUncorrectable_keeps ..)); decide +kernel
    | with_reducible apply Keeps.foldl
    | (intro _; beta_reduce)
    | split
    | dsimp only

end Sys2Proof.Machine
end

