-- ==== Sys2Proof/Laws/KeepsRack.lean ====
section
/-!
SUPPORT. What each operation of Machine/Rack.lean may change.
-/
namespace Sys2Proof.Machine
set_option linter.unusedTactic false
set_option linter.unreachableTactic false
set_option Elab.async false

theorem State.modPlans_keeps (s : Sys2Proof.Machine.State) (k : ℕ) (g : Sys2Proof.Machine.PlanW → Sys2Proof.Machine.PlanW) : Keeps 0x400000000000 s (State.modPlans s k g) := by
  unfold State.modPlans
  repeat' first
    | with_reducible exact Keeps.refl _ _
    | with_reducible apply Keeps.ite
    | (with_reducible apply Keeps.next (State.putPlans_keeps ..)); decide +kernel
    | with_reducible apply Keeps.foldl
    | (intro _; beta_reduce)
    | split
    | dsimp only

theorem State.modShelves_keeps (s : Sys2Proof.Machine.State) (k : ℕ) (g : Sys2Proof.Machine.Shelf → Sys2Proof.Machine.Shelf) : Keeps 0x800000000000 s (State.modShelves s k g) := by
  unfold State.modShelves
  repeat' first
    | with_reducible exact Keeps.refl _ _
    | with_reducible apply Keeps.ite
    | (with_reducible apply Keeps.next (State.putShelves_keeps ..)); decide +kernel
    | with_reducible apply Keeps.foldl
    | (intro _; beta_reduce)
    | split
    | dsimp only

theorem shelfSync_keeps (h : ℕ) (s : Sys2Proof.Machine.State) : Keeps 0x2000000000000000000000000000000000000000000000000000000000000000000 s (shelfSync h s) := by
  unfold shelfSync
  repeat' first
    | with_reducible exact Keeps.refl _ _
    | with_reducible apply Keeps.ite
    | (with_reducible apply Keeps.next (State.wr_keeps ..)); decide +kernel
    | with_reducible apply Keeps.foldl
    | (intro _; beta_reduce)
    | split
    | dsimp only

theorem moveBbus_keeps (h : ℕ) (from_ : List ℕ) (dest : ℕ) (s : Sys2Proof.Machine.State) : Keeps 0x80000000000000000000000000000000000000000000000000000000000000000000 s (moveBbus h from_ dest s) := by
  unfold moveBbus
  repeat' first
    | with_reducible exact Keeps.refl _ _
    | with_reducible apply forEach_keeps
    | with_reducible apply Keeps.ite
    | (with_reducible apply Keeps.next (State.wr_keeps ..)); decide +kernel
    | with_reducible apply Keeps.foldl
    | (intro _; beta_reduce)
    | split
    | dsimp only

theorem stopCharge_keeps (h : ℕ) (s : Sys2Proof.Machine.State) : Keeps 0xa0000000000000000000000000000000000000000000000000000000000000000000 s (stopCharge h s) := by
  unfold stopCharge
  repeat' first
    | with_reducible exact Keeps.refl _ _
    | with_reducible apply Keeps.ite
    | (with_reducible apply Keeps.next (moveBbus_keeps ..)); decide +kernel
    | (with_reducible apply Keeps.next (State.wr_keeps ..)); decide +kernel
    | with_reducible apply Keeps.foldl
    | (intro _; beta_reduce)
    | split
    | dsimp only

theorem inhibitSync_keeps (s : Sys2Proof.Machine.State) : Keeps 0xa2000000000000000000000000000000000000000000000000000000000000000000 s (inhibitSync s) := by
  unfold inhibitSync
  repeat' first
    | with_reducible exact Keeps.refl _ _
    | with_reducible apply forEach_keeps
    | with_reducible apply Keeps.ite
    | (with_reducible apply Keeps.next (State.wr_keeps ..)); decide +kernel
    | (with_reducible apply Keeps.next (stopCharge_keeps ..)); decide +kernel
    | with_reducible apply Keeps.foldl
    | (intro _; beta_reduce)
    | split
    | dsimp only

theorem shelfState_keeps (h : ℕ) (s : Sys2Proof.Machine.State) : Keeps 0xe2000000000000000000000000000000000000000000000000000000000000000000 s (shelfState h s) := by
  unfold shelfState
  repeat' first
    | with_reducible exact Keeps.refl _ _
    | with_reducible apply State.when_keeps
    | with_reducible apply Keeps.ite
    | (with_reducible apply Keeps.next (moveBbus_keeps ..)); decide +kernel
    | (with_reducible apply Keeps.next (State.bump_keeps ..)); decide +kernel
    | (with_reducible apply Keeps.next (State.wr_keeps ..)); decide +kernel
    | with_reducible apply Keeps.foldl
    | (intro _; beta_reduce)
    | split
    | dsimp only

theorem bbuLost_keeps (h : ℕ) (b : ℕ) (s : Sys2Proof.Machine.State) : Keeps 0x3c2000000000000000000000000000000000000000000000000000000800000000000 s (bbuLost h b s) := by
  unfold bbuLost
  repeat' first
    | with_reducible exact Keeps.refl _ _
    | with_reducible apply State.when_keeps
    | with_reducible apply Keeps.ite
    | (with_reducible apply Keeps.next (State.setReg_keeps ..)); decide +kernel
    | (with_reducible apply Keeps.next (State.bump_keeps ..)); decide +kernel
    | (with_reducible apply Keeps.next (State.modShelves_keeps ..)); decide +kernel
    | (with_reducible apply Keeps.next (shelfSync_keeps ..)); decide +kernel
    | with_reducible apply Keeps.foldl
    | (intro _; beta_reduce)
    | split
    | dsimp only

theorem bbuInserted_keeps (h : ℕ) (b : ℕ) (serial : ℕ) (s : Sys2Proof.Machine.State) : Keeps 0x80000000000000000000000000000000000000000000000000000000800000000000 s (bbuInserted h b serial s) := by
  unfold bbuInserted
  repeat' first
    | with_reducible exact Keeps.refl _ _
    | with_reducible apply Keeps.ite
    | (with_reducible apply Keeps.next (State.setReg_keeps ..)); decide +kernel
    | (with_reducible apply Keeps.next (State.wr_keeps ..)); decide +kernel
    | (with_reducible apply Keeps.next (State.modShelves_keeps ..)); decide +kernel
    | with_reducible apply Keeps.foldl
    | (intro _; beta_reduce)
    | split
    | dsimp only

theorem bbuEnergy_keeps (h : ℕ) (b : ℕ) (energy : ℕ) (cap : ℕ) (s : Sys2Proof.Machine.State) : Keeps 0x180000000000000000000000000000000000000000000000000000000000000000000 s (bbuEnergy h b energy cap s) := by
  unfold bbuEnergy
  repeat' first
    | with_reducible exact Keeps.refl _ _
    | with_reducible apply Keeps.ite
    | (with_reducible apply Keeps.next (State.wrSat_keeps ..)); decide +kernel
    | (with_reducible apply Keeps.next (State.wr_keeps ..)); decide +kernel
    | with_reducible apply Keeps.foldl
    | (intro _; beta_reduce)
    | split
    | dsimp only

theorem bbuMeasured_keeps (h : ℕ) (m : Sys2Proof.BbuMeas) (s : Sys2Proof.Machine.State) : Keeps 0x380000000000000000000000000000000000000000000000000000000000000000000 s (bbuMeasured h m s) := by
  unfold bbuMeasured
  repeat' first
    | with_reducible exact Keeps.refl _ _
    | with_reducible apply Keeps.ite
    | (with_reducible apply Keeps.next (State.wr_keeps ..)); decide +kernel
    | (with_reducible apply Keeps.next (bbuEnergy_keeps ..)); decide +kernel
    | with_reducible apply Keeps.foldl
    | (intro _; beta_reduce)
    | split
    | dsimp only

theorem precheckDone_keeps (h : ℕ) (pass : Bool) (m : Sys2Proof.BbuMeas) (s : Sys2Proof.Machine.State) : Keeps 0x382000000000000000000000000000000000000000000000000000000000000000000 s (precheckDone h pass m s) := by
  unfold precheckDone
  repeat' first
    | with_reducible exact Keeps.refl _ _
    | with_reducible apply Keeps.ite
    | (with_reducible apply Keeps.next (bbuMeasured_keeps ..)); decide +kernel
    | (with_reducible apply Keeps.next (State.wr_keeps ..)); decide +kernel
    | (with_reducible apply Keeps.next (shelfSync_keeps ..)); decide +kernel
    | with_reducible apply Keeps.foldl
    | (intro _; beta_reduce)
    | split
    | dsimp only

theorem cellFault_keeps (h : ℕ) (b : ℕ) (s : Sys2Proof.Machine.State) : Keeps 0xc2000000000000000000000000000000000000000000000000000000800000000000 s (cellFault h b s) := by
  unfold cellFault
  repeat' first
    | with_reducible exact Keeps.refl _ _
    | with_reducible apply Keeps.ite
    | (with_reducible apply Keeps.next (State.bump_keeps ..)); decide +kernel
    | (with_reducible apply Keeps.next (State.wr_keeps ..)); decide +kernel
    | (with_reducible apply Keeps.next (State.modShelves_keeps ..)); decide +kernel
    | (with_reducible apply Keeps.next (shelfSync_keeps ..)); decide +kernel
    | with_reducible apply Keeps.foldl
    | (intro _; beta_reduce)
    | split
    | dsimp only

theorem bbuFull_keeps (h : ℕ) (b : ℕ) (cap : ℕ) (s : Sys2Proof.Machine.State) : Keeps 0x182000000000000000000000000000000000000000000000000000000000000000000 s (bbuFull h b cap s) := by
  unfold bbuFull
  repeat' first
    | with_reducible exact Keeps.refl _ _
    | with_reducible apply Keeps.ite
    | (with_reducible apply Keeps.next (bbuEnergy_keeps ..)); decide +kernel
    | (with_reducible apply Keeps.next (State.wr_keeps ..)); decide +kernel
    | (with_reducible apply Keeps.next (shelfSync_keeps ..)); decide +kernel
    | with_reducible apply Keeps.foldl
    | (intro _; beta_reduce)
    | split
    | dsimp only

theorem chargeHeadroom_keeps (h : ℕ) (load : ℕ) (s0 : Sys2Proof.Machine.State) : Keeps 0xa2000000000000000000000000000000000000000000000000000000000000000000 s0 (chargeHeadroom h load s0) := by
  unfold chargeHeadroom
  repeat' first
    | with_reducible exact Keeps.refl _ _
    | with_reducible apply forEach_keeps
    | with_reducible apply Keeps.ite
    | (with_reducible apply Keeps.next (State.wr_keeps ..)); decide +kernel
    | (with_reducible apply Keeps.next (stopCharge_keeps ..)); decide +kernel
    | (with_reducible apply Keeps.next (inhibitSync_keeps ..)); decide +kernel
    | with_reducible apply Keeps.foldl
    | (intro _; beta_reduce)
    | split
    | dsimp only

theorem chargeInhibit_keeps (h : ℕ) (busV : ℕ) (s : Sys2Proof.Machine.State) : Keeps 0xaa000000000000000000000000000000000000000000000000000000000000000000 s (chargeInhibit h busV s) := by
  unfold chargeInhibit
  repeat' first
    | with_reducible exact Keeps.refl _ _
    | with_reducible apply Keeps.ite
    | (with_reducible apply Keeps.next (State.wr_keeps ..)); decide +kernel
    | (with_reducible apply Keeps.next (inhibitSync_keeps ..)); decide +kernel
    | with_reducible apply Keeps.foldl
    | (intro _; beta_reduce)
    | split
    | dsimp only

theorem shedFloors_keeps (ws : List ℕ) (s : Sys2Proof.Machine.State) : Keeps 0x400000000000 s (shedFloors ws s) := by
  unfold shedFloors
  repeat' first
    | with_reducible exact Keeps.refl _ _
    | with_reducible apply forEach_keeps
    | with_reducible apply Keeps.ite
    | (with_reducible apply Keeps.next (State.modPlans_keeps ..)); decide +kernel
    | with_reducible apply Keeps.foldl
    | (intro _; beta_reduce)
    | split
    | dsimp only

theorem shedScale_keeps (s : Sys2Proof.Machine.State) : Keeps 0x400000000000 s (shedScale s) := by
  unfold shedScale
  repeat' first
    | with_reducible exact Keeps.refl _ _
    | with_reducible apply forEach_keeps
    | with_reducible apply Keeps.ite
    | (with_reducible apply Keeps.next (State.modPlans_keeps ..)); decide +kernel
    | with_reducible apply Keeps.foldl
    | (intro _; beta_reduce)
    | split
    | dsimp only

theorem shed_keeps (s : Sys2Proof.Machine.State) : Keeps 0x1400000000000 s (shed s) := by
  unfold shed
  repeat' first
    | with_reducible exact Keeps.refl _ _
    | with_reducible apply Keeps.ite
    | (with_reducible apply Keeps.next (State.modPlanner_keeps ..)); decide +kernel
    | (with_reducible apply Keeps.next (shedScale_keeps ..)); decide +kernel
    | (with_reducible apply Keeps.next (shedFloors_keeps ..)); decide +kernel
    | (with_reducible apply Keeps.next (State.emit_keeps ..)); decide +kernel
    | with_reducible apply Keeps.foldl
    | (intro _; beta_reduce)
    | split
    | dsimp only

theorem planWrite_keeps (w : ℕ) (s : Sys2Proof.Machine.State) : Keeps 0x14c00460000000000601800000000000000000000000000000000000000007000000040c200000018 s (planWrite w s) := by
  unfold planWrite
  repeat' first
    | with_reducible exact Keeps.refl _ _
    | with_reducible apply Keeps.ite
    | (with_reducible apply Keeps.next (State.modTmcs_keeps ..)); decide +kernel
    | (with_reducible apply Keeps.next (State.modPlans_keeps ..)); decide +kernel
    | (with_reducible apply Keeps.next (capWrite_keeps ..)); decide +kernel
    | with_reducible apply Keeps.foldl
    | (intro _; beta_reduce)
    | split
    | dsimp only

theorem newPlan_keeps (ws : List ℕ) (s : Sys2Proof.Machine.State) : Keeps 0x14c00460000001200601800000000000000000000000000000000000000007000000140c200000018 s (newPlan ws s) := by
  unfold newPlan
  repeat' first
    | with_reducible exact Keeps.refl _ _
    | with_reducible apply forEach_keeps
    | with_reducible apply Keeps.ite
    | (with_reducible apply Keeps.next (State.modPlanner_keeps ..)); decide +kernel
    | (with_reducible apply Keeps.next (State.wrSat_keeps ..)); decide +kernel
    | (with_reducible apply Keeps.next (planWrite_keeps ..)); decide +kernel
    | (with_reducible apply Keeps.next (State.wr_keeps ..)); decide +kernel
    | with_reducible apply Keeps.foldl
    | (intro _; beta_reduce)
    | split
    | dsimp only

theorem commitPlan_keeps (s : Sys2Proof.Machine.State) : Keeps 0x14c00460000001200601800000000000000000000000000000000000000007000000140c200000018 s (commitPlan s) := by
  unfold commitPlan
  repeat' first
    | with_reducible exact Keeps.refl _ _
    | with_reducible apply Keeps.ite
    | (with_reducible apply Keeps.next (newPlan_keeps ..)); decide +kernel
    | with_reducible apply Keeps.foldl
    | (intro _; beta_reduce)
    | split
    | dsimp only

theorem replan_keeps (s : Sys2Proof.Machine.State) : Keeps 0x14c00460000001200601800000000000000000000000000000000000000007000000140c200000018 s (replan s) := by
  unfold replan
  repeat' first
    | with_reducible exact Keeps.refl _ _
    | with_reducible apply Keeps.ite
    | (with_reducible apply Keeps.next (State.modPlanner_keeps ..)); decide +kernel
    | (with_reducible apply Keeps.next (commitPlan_keeps ..)); decide +kernel
    | (with_reducible apply Keeps.next (shed_keeps ..)); decide +kernel
    | with_reducible apply Keeps.foldl
    | (intro _; beta_reduce)
    | split
    | dsimp only

theorem shelfReport_keeps (h : ℕ) (out : ℕ) (busV : ℕ) (vll : ℕ) (ms : List Sys2Proof.BbuMeas) (s : Sys2Proof.Machine.State) : Keeps 0x14c0046000003fe00601800000000000000000000000000000000000000007000000140c200000018 s (shelfReport h out busV vll ms s) := by
  unfold shelfReport
  repeat' first
    | with_reducible exact Keeps.refl _ _
    | with_reducible apply forEach_keeps
    | with_reducible apply Keeps.ite
    | (with_reducible apply Keeps.next (bbuMeasured_keeps ..)); decide +kernel
    | (with_reducible apply Keeps.next (State.wr_keeps ..)); decide +kernel
    | (with_reducible apply Keeps.next (replan_keeps ..)); decide +kernel
    | (with_reducible apply Keeps.next (shelfState_keeps ..)); decide +kernel
    | (with_reducible apply Keeps.next (shelfSync_keeps ..)); decide +kernel
    | (with_reducible apply Keeps.next (inhibitSync_keeps ..)); decide +kernel
    | with_reducible apply Keeps.foldl
    | (intro _; beta_reduce)
    | split
    | dsimp only

theorem raiseStep_keeps (s : Sys2Proof.Machine.State) : Keeps 0x400000000000 s (raiseStep s) := by
  unfold raiseStep
  repeat' first
    | with_reducible exact Keeps.refl _ _
    | with_reducible apply forEach_keeps
    | with_reducible apply Keeps.ite
    | (with_reducible apply Keeps.next (State.modPlans_keeps ..)); decide +kernel
    | with_reducible apply Keeps.foldl
    | (intro _; beta_reduce)
    | split
    | dsimp only

theorem planRaise_keeps (s : Sys2Proof.Machine.State) : Keeps 0x14c00460000001200601800000000000000000000000000000000000000007000000140c200000018 s (planRaise s) := by
  unfold planRaise
  repeat' first
    | with_reducible exact Keeps.refl _ _
    | with_reducible apply Keeps.ite
    | (with_reducible apply Keeps.next (commitPlan_keeps ..)); decide +kernel
    | (with_reducible apply Keeps.next (raiseStep_keeps ..)); decide +kernel
    | with_reducible apply Keeps.foldl
    | (intro _; beta_reduce)
    | split
    | dsimp only

theorem acLoss_keeps (xs : List (ℕ × ℕ)) (s : Sys2Proof.Machine.State) : Keeps 0xe6000000000000000000000000000000000000000000000000000000000000000000 s (acLoss xs s) := by
  unfold acLoss
  repeat' first
    | with_reducible exact Keeps.refl _ _
    | with_reducible apply forEach_keeps
    | with_reducible apply Keeps.ite
    | (with_reducible apply Keeps.next (State.bump_keeps ..)); decide +kernel
    | (with_reducible apply Keeps.next (State.wr_keeps ..)); decide +kernel
    | (with_reducible apply Keeps.next (shelfState_keeps ..)); decide +kernel
    | (with_reducible apply Keeps.next (shelfSync_keeps ..)); decide +kernel
    | (with_reducible apply Keeps.next (inhibitSync_keeps ..)); decide +kernel
    | with_reducible apply Keeps.foldl
    | (intro _; beta_reduce)
    | split
    | dsimp only

theorem graceEnd_keeps (s : Sys2Proof.Machine.State) : Keeps 0x14c00460000001200601800000000000000000000000000000000000000007000000140c200000018 s (graceEnd s) := by
  unfold graceEnd
  repeat' first
    | with_reducible exact Keeps.refl _ _
    | with_reducible apply forEach_keeps
    | with_reducible apply Keeps.ite
    | (with_reducible apply Keeps.next (State.modPlanner_keeps ..)); decide +kernel
    | (with_reducible apply Keeps.next (commitPlan_keeps ..)); decide +kernel
    | (with_reducible apply Keeps.next (State.modPlans_keeps ..)); decide +kernel
    | with_reducible apply Keeps.foldl
    | (intro _; beta_reduce)
    | split
    | dsimp only

theorem switchTrayOff_keeps (k : ℕ) (s : Sys2Proof.Machine.State) : Keeps 0xffffffffffffffffffffffffffffffffffffffffffffffffffffffffffffffffffffffffffffffff0001008000220000 s (switchTrayOff k s) := by
  unfold switchTrayOff
  repeat' first
    | with_reducible exact Keeps.refl _ _
    | with_reducible apply Keeps.ite
    | (with_reducible apply Keeps.next (State.modTmcs_keeps ..)); decide +kernel
    | (with_reducible apply Keeps.next (chipReset_keeps ..)); decide +kernel
    | with_reducible apply Keeps.foldl
    | (intro _; beta_reduce)
    | split
    | dsimp only

theorem cduOff_keeps (c : ℕ) (code : ℕ) (s : Sys2Proof.Machine.State) : Keeps 0xa000000000000000000000000000000000000000000000000000000000000000000000000 s (cduOff c code s) := by
  unfold cduOff
  repeat' first
    | with_reducible exact Keeps.refl _ _
    | with_reducible apply Keeps.ite
    | (with_reducible apply Keeps.next (State.wr_keeps ..)); decide +kernel
    | with_reducible apply Keeps.foldl
    | (intro _; beta_reduce)
    | split
    | dsimp only

theorem allTraysOff_keeps (s : Sys2Proof.Machine.State) : Keeps 0xffffffffffffffffffffffffffffffffffffffffffffffffffffffffffffffffffffffffffffffff00010af3fffffeff s (allTraysOff s) := by
  unfold allTraysOff
  repeat' first
    | with_reducible exact Keeps.refl _ _
    | with_reducible apply forEach_keeps
    | with_reducible apply Keeps.ite
    | (with_reducible apply Keeps.next (trayPowerOff_keeps ..)); decide +kernel
    | (with_reducible apply Keeps.next (switchTrayOff_keeps ..)); decide +kernel
    | with_reducible apply Keeps.foldl
    | (intro _; beta_reduce)
    | split
    | dsimp only

theorem reserveLow_keeps (load : ℕ) (s : Sys2Proof.Machine.State) : Keeps 0xffffffffffffffffffffffffffffffffffffffffffffffffffffffffffffffffffffffffffffffff00010af3fffffeff s (reserveLow load s) := by
  unfold reserveLow
  repeat' first
    | with_reducible exact Keeps.refl _ _
    | with_reducible apply forEach_keeps
    | with_reducible apply Keeps.ite
    | (with_reducible apply Keeps.next (allTraysOff_keeps ..)); decide +kernel
    | (with_reducible apply Keeps.next (cduOff_keeps ..)); decide +kernel
    | with_reducible apply Keeps.foldl
    | (intro _; beta_reduce)
    | split
    | dsimp only

theorem acReturn_keeps (xs : List (ℕ × ℕ)) (s : Sys2Proof.Machine.State) : Keeps 0xe6000000000000000000000000000000000000000000000000000000000000000000 s (acReturn xs s) := by
  unfold acReturn
  repeat' first
    | with_reducible exact Keeps.refl _ _
    | with_reducible apply forEach_keeps
    | with_reducible apply Keeps.ite
    | (with_reducible apply Keeps.next (State.wr_keeps ..)); decide +kernel
    | (with_reducible apply Keeps.next (shelfState_keeps ..)); decide +kernel
    | (with_reducible apply Keeps.next (shelfSync_keeps ..)); decide +kernel
    | (with_reducible apply Keeps.next (inhibitSync_keeps ..)); decide +kernel
    | with_reducible apply Keeps.foldl
    | (intro _; beta_reduce)
    | split
    | dsimp only

theorem busCollapse_keeps (busV : ℕ) (s : Sys2Proof.Machine.State) : Keeps 0xffffffffffffffffffffffffffffffffffffffffffffffffffffffffffffffffffffffffffffffff000108f3fffffeff s (busCollapse busV s) := by
  unfold busCollapse
  repeat' first
    | with_reducible exact Keeps.refl _ _
    | with_reducible apply forEach_keeps
    | with_reducible apply Keeps.ite
    | (with_reducible apply Keeps.next (State.modPlanner_keeps ..)); decide +kernel
    | (with_reducible apply Keeps.next (State.modTmcs_keeps ..)); decide +kernel
    | (with_reducible apply Keeps.next (switchTrayOff_keeps ..)); decide +kernel
    | (with_reducible apply Keeps.next (cduOff_keeps ..)); decide +kernel
    | (with_reducible apply Keeps.next (inhibitSync_keeps ..)); decide +kernel
    | (with_reducible apply Keeps.next (busUndervolt_keeps ..)); decide +kernel
    | (with_reducible apply Keeps.next (State.wr_keeps ..)); decide +kernel
    | with_reducible apply Keeps.foldl
    | (intro _; beta_reduce)
    | split
    | dsimp only

theorem moduleFault_keeps (h : ℕ) (m : ℕ) (s : Sys2Proof.Machine.State) : Keeps 0xe2000000000000000000000000000000000000000000000000000000800000000000 s (moduleFault h m s) := by
  unfold moduleFault
  repeat' first
    | with_reducible exact Keeps.refl _ _
    | with_reducible apply Keeps.ite
    | (with_reducible apply Keeps.next (shelfState_keeps ..)); decide +kernel
    | (with_reducible apply Keeps.next (State.modShelves_keeps ..)); decide +kernel
    | (with_reducible apply Keeps.next (shelfSync_keeps ..)); decide +kernel
    | with_reducible apply Keeps.foldl
    | (intro _; beta_reduce)
    | split
    | dsimp only

theorem alarm_keeps (code : ℕ) (s : Sys2Proof.Machine.State) : Keeps 0x1000000000000 s (alarm code s) := by
  unfold alarm
  repeat' first
    | with_reducible exact Keeps.refl _ _
    | with_reducible apply Keeps.ite
    | (with_reducible apply Keeps.next (State.modPlanner_keeps ..)); decide +kernel
    | (with_reducible apply Keeps.next (State.emit_keeps ..)); decide +kernel
    | with_reducible apply Keeps.foldl
    | (intro _; beta_reduce)
    | split
    | dsimp only

theorem cduFailover_keeps (c : ℕ) (s : Sys2Proof.Machine.State) : Keeps 0xa000000000000000000000000000000000000000000000000000000000000000000000000 s (cduFailover c s) := by
  unfold cduFailover
  repeat' first
    | with_reducible exact Keeps.refl _ _
    | with_reducible apply Keeps.ite
    | (with_reducible apply Keeps.next (State.wr_keeps ..)); decide +kernel
    | (with_reducible apply Keeps.next (cduOff_keeps ..)); decide +kernel
    | with_reducible apply Keeps.foldl
    | (intro _; beta_reduce)
    | split
    | dsimp only

theorem cduMeasured_keeps (m : Sys2Proof.CduMeas) (s : Sys2Proof.Machine.State) : Keeps 0x1e000000000000000000000000000000000000000000000000000000000000000000000000 s (cduMeasured m s) := by
  unfold cduMeasured
  repeat' first
    | with_reducible exact Keeps.refl _ _
    | with_reducible apply Keeps.ite
    | (with_reducible apply Keeps.next (State.wr_keeps ..)); decide +kernel
    | with_reducible apply Keeps.foldl
    | (intro _; beta_reduce)
    | split
    | dsimp only

theorem coolantReport_keeps (ms : List Sys2Proof.CduMeas) (inlets : List (ℕ × ℕ)) (s : Sys2Proof.Machine.State) : Keeps 0x14c00461e00001200601800000000000000000000000000000000000000007000000140c200000018 s (coolantReport ms inlets s) := by
  unfold coolantReport
  repeat' first
    | with_reducible exact Keeps.refl _ _
    | with_reducible apply forEach_keeps
    | with_reducible apply Keeps.ite
    | (with_reducible apply Keeps.next (commitPlan_keeps ..)); decide +kernel
    | (with_reducible apply Keeps.next (State.modPlans_keeps ..)); decide +kernel
    | (with_reducible apply Keeps.next (cduMeasured_keeps ..)); decide +kernel
    | with_reducible apply Keeps.foldl
    | (intro _; beta_reduce)
    | split
    | dsimp only

theorem inletOvertemp_keeps (w : ℕ) (s : Sys2Proof.Machine.State) : Keeps 0xffffffffffffffffffffffffffffffffffffffffffffffffffffffffffffffffffffffffffffffff00000af3ffdffeff s (inletOvertemp w s) := by
  unfold inletOvertemp
  repeat' first
    | with_reducible exact Keeps.refl _ _
    | with_reducible apply Keeps.ite
    | (with_reducible apply Keeps.next (trayPowerOff_keeps ..)); decide +kernel
    | with_reducible apply Keeps.foldl
    | (intro _; beta_reduce)
    | split
    | dsimp only

theorem flowLoss_keeps (s : Sys2Proof.Machine.State) : Keeps 0x14c00460000001200601800000000000000000000000000000000000000007000000140c200000018 s (flowLoss s) := by
  unfold flowLoss
  repeat' first
    | with_reducible exact Keeps.refl _ _
    | with_reducible apply forEach_keeps
    | with_reducible apply Keeps.ite
    | (with_reducible apply Keeps.next (State.modPlans_keeps ..)); decide +kernel
    | (with_reducible apply Keeps.next (commitPlan_keeps ..)); decide +kernel
    | with_reducible apply Keeps.foldl
    | (intro _; beta_reduce)
    | split
    | dsimp only

theorem flowOff_keeps (s : Sys2Proof.Machine.State) : Keeps 0xffffffffffffffffffffffffffffffffffffffffffffffffffffffffffffffffffffffffffffffff00010af3fffffeff s (flowOff s) := by
  unfold flowOff
  repeat' first
    | with_reducible exact Keeps.refl _ _
    | with_reducible apply Keeps.ite
    | (with_reducible apply Keeps.next (allTraysOff_keeps ..)); decide +kernel
    | with_reducible apply Keeps.foldl
    | (intro _; beta_reduce)
    | split
    | dsimp only

theorem setLevel_keeps (level : ℕ) (s : Sys2Proof.Machine.State) : Keeps 0x8000000000000000000000000000000000000000000000000000000000000000000000000 s (setLevel level s) := by
  unfold setLevel
  repeat' first
    | with_reducible exact Keeps.refl _ _
    | with_reducible apply forEach_keeps
    | with_reducible apply Keeps.ite
    | (with_reducible apply Keeps.next (State.wr_keeps ..)); decide +kernel
    | with_reducible apply Keeps.foldl
    | (intro _; beta_reduce)
    | split
    | dsimp only

theorem levelAlarm_keeps (level : ℕ) (s : Sys2Proof.Machine.State) : Keeps 0xa000000000000000000000000000000000000000000000000000000000001000000000000 s (levelAlarm level s) := by
  unfold levelAlarm
  repeat' first
    | with_reducible exact Keeps.refl _ _
    | with_reducible apply forEach_keeps
    | with_reducible apply Keeps.ite
    | (with_reducible apply Keeps.next (alarm_keeps ..)); decide +kernel
    | (with_reducible apply Keeps.next (State.wr_keeps ..)); decide +kernel
    | (with_reducible apply Keeps.next (setLevel_keeps ..)); decide +kernel
    | with_reducible apply Keeps.foldl
    | (intro _; beta_reduce)
    | split
    | dsimp only

theorem levelOff_keeps (level : ℕ) (s : Sys2Proof.Machine.State) : Keeps 0xffffffffffffffffffffffffffffffffffffffffffffffffffffffffffffffffffffffffffffffff00010af3fffffeff s (levelOff level s) := by
  unfold levelOff
  repeat' first
    | with_reducible exact Keeps.refl _ _
    | with_reducible apply Keeps.ite
    | (with_reducible apply Keeps.next (setLevel_keeps ..)); decide +kernel
    | (with_reducible apply Keeps.next (allTraysOff_keeps ..)); decide +kernel
    | with_reducible apply Keeps.foldl
    | (intro _; beta_reduce)
    | split
    | dsimp only

theorem interlockOpen_keeps (w : ℕ) (s : Sys2Proof.Machine.State) : Keeps 0xffffffffffffffffffffffffffffffffffffffffffffffffffffffffffffffffffffffffffffffff000008f3ffdffeff s (interlockOpen w s) := by
  unfold interlockOpen
  repeat' first
    | with_reducible exact Keeps.refl _ _
    | with_reducible apply Keeps.ite
    | (with_reducible apply Keeps.next (State.modTmcs_keeps ..)); decide +kernel
    | (with_reducible apply Keeps.next (State.modWafers_keeps ..)); decide +kernel
    | (with_reducible apply Keeps.next (busUndervolt_keeps ..)); decide +kernel
    | with_reducible apply Keeps.foldl
    | (intro _; beta_reduce)
    | split
    | dsimp only

theorem rmcTakeover_keeps (s : Sys2Proof.Machine.State) : Keeps 0x14c00460000001200601800000000000000000000000000000000000000007000000140c200000018 s (rmcTakeover s) := by
  unfold rmcTakeover
  repeat' first
    | with_reducible exact Keeps.refl _ _
    | with_reducible apply Keeps.ite
    | (with_reducible apply Keeps.next (State.modPlanner_keeps ..)); decide +kernel
    | (with_reducible apply Keeps.next (newPlan_keeps ..)); decide +kernel
    | (with_reducible apply Keeps.next (replan_keeps ..)); decide +kernel
    | with_reducible apply Keeps.foldl
    | (intro _; beta_reduce)
    | split
    | dsimp only

end Sys2Proof.Machine
end

