-- ==== Sys2Proof/Laws/KeepsDebug.lean ====
section
/-!
SUPPORT. What each operation of Machine/Debug.lean may change.
-/
namespace Sys2Proof.Machine
set_option linter.unusedTactic false
set_option linter.unreachableTactic false
set_option Elab.async false

theorem accErr_keeps (w : ℕ) (code : ℕ) (s : Sys2Proof.Machine.State) : Keeps 0x800000000000000000000000000000000000000000000000000000000000000000000000000000000000000000 s (accErr w code s) := by
  unfold accErr
  repeat' first
    | with_reducible exact Keeps.refl _ _
    | with_reducible apply Keeps.ite
    | (with_reducible apply Keeps.next (State.wr_keeps ..)); decide +kernel
    | with_reducible apply Keeps.foldl
    | (intro _; beta_reduce)
    | split
    | dsimp only

theorem haltAsk_keeps (w : ℕ) (f : ℕ) (u : ℕ) (s : Sys2Proof.Machine.State) : Keeps 0x58090000000014c004600000000100000000000000800000000000000000000000000400000000000000000002210 s (haltAsk w f u s) := by
  unfold haltAsk
  repeat' first
    | with_reducible exact Keeps.refl _ _
    | with_reducible apply Keeps.ite
    | (with_reducible apply Keeps.next (haltCore_keeps ..)); decide +kernel
    | (with_reducible apply Keeps.next (State.setCore_keeps ..)); decide +kernel
    | (with_reducible apply Keeps.next (State.wr_keeps ..)); decide +kernel
    | with_reducible apply Keeps.foldl
    | (intro _; beta_reduce)
    | split
    | dsimp only

theorem resumeCore_keeps (w : ℕ) (f : ℕ) (u : ℕ) (stepping : Bool) (s : Sys2Proof.Machine.State) : Keeps 0x50090000000034c004600000000106005060000030920010400000020009000800000400000000000000278086e13 s (resumeCore w f u stepping s) := by
  unfold resumeCore
  repeat' first
    | with_reducible exact Keeps.refl _ _
    | with_reducible apply Keeps.ite
    | (with_reducible apply Keeps.next (State.haltSync_keeps ..)); decide +kernel
    | (with_reducible apply Keeps.next (failCmd_keeps ..)); decide +kernel
    | (with_reducible apply Keeps.next (State.setCore_keeps ..)); decide +kernel
    | (with_reducible apply Keeps.next (State.wr_keeps ..)); decide +kernel
    | with_reducible apply Keeps.foldl
    | (intro _; beta_reduce)
    | split
    | dsimp only

theorem dbgControl_keeps {w : ℕ} {act : ℕ → ℕ → Sys2Proof.Machine.State → Sys2Proof.Machine.State} {M : Nat} (hm : 0x800000000000000000000000000000000000000000000000000000000000000000000000000000000000000000 ||| M = M) (hg : ∀ x0 x1 t, Keeps M t (act x0 x1 t)) {s0 s1 : State} (h : Keeps M s0 s1) : Keeps M s0 (dbgControl w act s1) := by
  unfold dbgControl
  repeat' first
    | with_reducible exact h
    | with_reducible apply Keeps.next (hg ..) (sub_refl _)
    | with_reducible exact Keeps.refl _ _
    | with_reducible apply forEach_keeps
    | with_reducible apply Keeps.ite
    | (with_reducible apply Keeps.next (accErr_keeps ..)); exact sub_trans (by decide +kernel) hm
    | with_reducible apply Keeps.foldl
    | (intro _; beta_reduce)
    | split
    | dsimp only

theorem coreHalted_keeps (w : ℕ) (f : ℕ) (u : ℕ) (s : Sys2Proof.Machine.State) : Keeps 0x58090000000014c004600000000100000000000000800000000000000000000000000400000000000000000002210 s (coreHalted w f u s) := by
  unfold coreHalted
  repeat' first
    | with_reducible exact Keeps.refl _ _
    | with_reducible apply Keeps.ite
    | (with_reducible apply Keeps.next (haltCore_keeps ..)); decide +kernel
    | with_reducible apply Keeps.foldl
    | (intro _; beta_reduce)
    | split
    | dsimp only

theorem disarmAll_keeps (w : ℕ) (r : Sys2Proof.Machine.Reg) (s : Sys2Proof.Machine.State) : Keeps (regBit r) s (disarmAll w r s) := by
  unfold disarmAll
  repeat' first
    | with_reducible exact Keeps.refl _ _
    | with_reducible apply forEach_keeps
    | with_reducible apply Keeps.ite
    | (with_reducible apply Keeps.next (State.setReg_keeps ..)); (first | decide +kernel | exact sub_right _ _ | exact sub_refl _ | exact sub_left (by decide +kernel) | exact regBit_sub (by decide +kernel) _ | exact sub_or (by decide +kernel) (regBit_sub (by decide +kernel) _))
    | with_reducible apply Keeps.foldl
    | (intro _; beta_reduce)
    | split
    | dsimp only

theorem dbgDetach_keeps (w : ℕ) (s : Sys2Proof.Machine.State) : Keeps 0x55098000000034c004600000000106005060000030920010400000020009000800000400000000000000278086e13 s (dbgDetach w s) := by
  unfold dbgDetach
  repeat' first
    | with_reducible exact Keeps.refl _ _
    | with_reducible apply forEach_keeps
    | with_reducible apply Keeps.ite
    | (with_reducible apply Keeps.next (State.raise_keeps ..)); decide +kernel
    | (with_reducible apply Keeps.next (disarmAll_keeps ..)); decide +kernel
    | (with_reducible apply Keeps.next (State.wr_keeps ..)); decide +kernel
    | (with_reducible apply Keeps.next (resumeCore_keeps ..)); decide +kernel
    | with_reducible apply Keeps.foldl
    | (intro _; beta_reduce)
    | split
    | dsimp only

theorem dbgCtl_keeps (w : ℕ) (path : ℕ) (v : ℕ) (s : Sys2Proof.Machine.State) : Keeps 0x55098000000034c004600000000106005060000030920010400000020009000800000400000000000000278086e13 s (dbgCtl w path v s) := by
  unfold dbgCtl
  repeat' first
    | with_reducible exact Keeps.refl _ _
    | with_reducible apply Keeps.ite
    | (with_reducible apply Keeps.next (State.raise_keeps ..)); decide +kernel
    | (with_reducible apply Keeps.next (State.wr_keeps ..)); decide +kernel
    | (with_reducible apply Keeps.next (dbgDetach_keeps ..)); decide +kernel
    | with_reducible apply Keeps.foldl
    | (intro _; beta_reduce)
    | split
    | dsimp only

theorem portDetach_keeps (w : ℕ) (s : Sys2Proof.Machine.State) : Keeps 0x55098000000034c004600000000106005060000030920010400000020009000800000400000000000000278086e13 s (portDetach w s) := by
  unfold portDetach
  repeat' first
    | with_reducible exact Keeps.refl _ _
    | with_reducible apply Keeps.ite
    | (with_reducible apply Keeps.next (dbgDetach_keeps ..)); decide +kernel
    | with_reducible apply Keeps.foldl
    | (intro _; beta_reduce)
    | split
    | dsimp only

theorem comparatorWrite_keeps (w : ℕ) (r : Sys2Proof.Machine.Reg) (n : ℕ) (v : ℕ) (s : Sys2Proof.Machine.State) : Keeps (regBit r) s (comparatorWrite w r n v s) := by
  unfold comparatorWrite
  repeat' first
    | with_reducible exact Keeps.refl _ _
    | with_reducible apply forEach_keeps
    | with_reducible apply Keeps.ite
    | (with_reducible apply Keeps.next (State.setReg_keeps ..)); (first | decide +kernel | exact sub_right _ _ | exact sub_refl _ | exact sub_left (by decide +kernel) | exact regBit_sub (by decide +kernel) _ | exact sub_or (by decide +kernel) (regBit_sub (by decide +kernel) _))
    | with_reducible apply Keeps.foldl
    | (intro _; beta_reduce)
    | split
    | dsimp only

theorem dbgRegRead_keeps (w : ℕ) (s : Sys2Proof.Machine.State) : Keeps 0x800000000000000000000000000000000000000000000000000000000000000000000000000000000000000000 s (dbgRegRead w s).2 := by
  unfold dbgRegRead
  try dsimp only
  repeat' first
    | with_reducible exact Keeps.refl _ _
    | with_reducible apply Keeps.ite
    | (with_reducible apply Keeps.next (accErr_keeps ..)); decide +kernel
    | with_reducible apply Keeps.foldl
    | (intro _; beta_reduce)
    | split
    | dsimp only

theorem dbgRegWrite_keeps (w : ℕ) (v : ℕ) (s : Sys2Proof.Machine.State) : Keeps 0x800000000000000000000000000000000000000000000000000000000000000000400000000000000000000200 s (dbgRegWrite w v s) := by
  unfold dbgRegWrite
  repeat' first
    | with_reducible exact Keeps.refl _ _
    | with_reducible apply Keeps.ite
    | (with_reducible apply Keeps.next (accErr_keeps ..)); decide +kernel
    | (with_reducible apply Keeps.next (State.setCore_keeps ..)); decide +kernel
    | with_reducible apply Keeps.foldl
    | (intro _; beta_reduce)
    | split
    | dsimp only

theorem autoInc_keeps (w : ℕ) (s : Sys2Proof.Machine.State) : Keeps 0x4000000000000000000000000000000000000000000000000000000000000000000000000000000000000000000 s (autoInc w s) := by
  unfold autoInc
  repeat' first
    | with_reducible exact Keeps.refl _ _
    | with_reducible apply Keeps.ite
    | (with_reducible apply Keeps.next (State.wr_keeps ..)); decide +kernel
    | with_reducible apply Keeps.foldl
    | (intro _; beta_reduce)
    | split
    | dsimp only

theorem dbgMemPeek_keeps (w : ℕ) (s : Sys2Proof.Machine.State) : Keeps 0x800000000000000000000000000000000000000000000000000000000000000000000000000000000000000000 s (dbgMemPeek w s).2 := by
  unfold dbgMemPeek
  try dsimp only
  repeat' first
    | with_reducible exact Keeps.refl _ _
    | with_reducible apply Keeps.ite
    | (with_reducible apply Keeps.next (accErr_keeps ..)); decide +kernel
    | with_reducible apply Keeps.foldl
    | (intro _; beta_reduce)
    | split
    | dsimp only

theorem dbgMemRead_keeps (w : ℕ) (s : Sys2Proof.Machine.State) : Keeps 0x4800000000000000000000000000000000000000000000000000000000000000000000000000000000000000000 s (dbgMemRead w s).2 := by
  unfold dbgMemRead
  try dsimp only
  repeat' first
    | with_reducible exact Keeps.refl _ _
    | with_reducible apply Keeps.ite
    | (with_reducible apply Keeps.next (autoInc_keeps ..)); decide +kernel
    | (with_reducible apply Keeps.next (dbgMemPeek_keeps ..)); decide +kernel
    | with_reducible apply Keeps.foldl
    | (intro _; beta_reduce)
    | split
    | dsimp only

theorem dbgMemWrite_keeps (w : ℕ) (v : ℕ) (s : Sys2Proof.Machine.State) : Keeps 0x4800000000000000000000000000000000000000000000000000000000000000000400000000000000000000200 s (dbgMemWrite w v s) := by
  unfold dbgMemWrite
  repeat' first
    | with_reducible exact Keeps.refl _ _
    | with_reducible apply Keeps.ite
    | (with_reducible apply Keeps.next (accErr_keeps ..)); decide +kernel
    | (with_reducible apply Keeps.next (State.setCore_keeps ..)); decide +kernel
    | (with_reducible apply Keeps.next (autoInc_keeps ..)); decide +kernel
    | with_reducible apply Keeps.foldl
    | (intro _; beta_reduce)
    | split
    | dsimp only

end Sys2Proof.Machine
end

