-- ==== Sys2Proof/Laws/KeepsSemas.lean ====
section
/-!
SUPPORT. What each operation of Machine/Semas.lean may change.
-/
namespace Sys2Proof.Machine
set_option linter.unusedTactic false
set_option linter.unreachableTactic false
set_option Elab.async false

theorem sendArbiter_keeps (w : ℕ) (dest : ℕ) (kind : ℕ) (val : ℕ) (addr : ℕ) (bs : List ℕ) (s : Sys2Proof.Machine.State) : Keeps 0x80000 s (sendArbiter w dest kind val addr bs s) := by
  unfold sendArbiter
  repeat' first
    | with_reducible exact Keeps.refl _ _
    | with_reducible apply Keeps.ite
    | (with_reducible apply Keeps.next (enqueue_keeps ..)); decide +kernel
    | with_reducible apply Keeps.foldl
    | (intro _; beta_reduce)
    | split
    | dsimp only

theorem semaAdd_keeps (w : ℕ) (n : ℕ) (s : Sys2Proof.Machine.State) : Keeps 0x400000000000000000000000000000000000000000000000000 s (semaAdd w n s) := by
  unfold semaAdd
  repeat' first
    | with_reducible exact Keeps.refl _ _
    | with_reducible apply Keeps.ite
    | (with_reducible apply Keeps.next (State.fresh_keeps ..)); decide +kernel
    | (with_reducible apply Keeps.next (State.wr_keeps ..)); decide +kernel
    | with_reducible apply Keeps.foldl
    | (intro _; beta_reduce)
    | split
    | dsimp only

theorem semaSync_keeps (w : ℕ) (n : ℕ) (s : Sys2Proof.Machine.State) : Keeps 0x800000000000000000000000000000000000000000000000000 s (semaSync w n s) := by
  unfold semaSync
  repeat' first
    | with_reducible exact Keeps.refl _ _
    | with_reducible apply Keeps.ite
    | (with_reducible apply Keeps.next (State.wrSat_keeps ..)); decide +kernel
    | with_reducible apply Keeps.foldl
    | (intro _; beta_reduce)
    | split
    | dsimp only

theorem mgmtTake_keeps (w : ℕ) (n : ℕ) (src : ℕ) (spart : ℕ) (s : Sys2Proof.Machine.State) : Keeps 0x1800000000000000000000000000000000000000000000002000 s (mgmtTake w n src spart s) := by
  unfold mgmtTake
  repeat' first
    | with_reducible exact Keeps.refl _ _
    | with_reducible apply Keeps.ite
    | (with_reducible apply Keeps.next (semaSync_keeps ..)); decide +kernel
    | (with_reducible apply Keeps.next (State.putSemas_keeps ..)); decide +kernel
    | (with_reducible apply Keeps.next (State.bump_keeps ..)); decide +kernel
    | with_reducible apply Keeps.foldl
    | (intro _; beta_reduce)
    | split
    | dsimp only

theorem semaGrant_keeps (w : ℕ) (n : ℕ) (x : Sys2Proof.Machine.Waiter) (s : Sys2Proof.Machine.State) : Keeps 0x1c00000000000000000000000000000000000000000000082000 s (semaGrant w n x s) := by
  unfold semaGrant
  repeat' first
    | with_reducible exact Keeps.refl _ _
    | with_reducible apply Keeps.ite
    | (with_reducible apply Keeps.next (State.wr_keeps ..)); decide +kernel
    | (with_reducible apply Keeps.next (sendArbiter_keeps ..)); decide +kernel
    | (with_reducible apply Keeps.next (semaSync_keeps ..)); decide +kernel
    | (with_reducible apply Keeps.next (State.putSemas_keeps ..)); decide +kernel
    | with_reducible apply Keeps.foldl
    | (intro _; beta_reduce)
    | split
    | dsimp only

theorem semaDecision_keeps (w : ℕ) (n : ℕ) (s : Sys2Proof.Machine.State) : Keeps 0x50090000000034c004600000000106005061880031da0010400000020009000800000400000000000000278086e13 s (semaDecision w n s) := by
  unfold semaDecision
  repeat' first
    | with_reducible exact Keeps.refl _ _
    | with_reducible apply forEach_keeps
    | with_reducible apply Keeps.ite
    | (with_reducible apply Keeps.next (State.putSemas_keeps ..)); decide +kernel
    | (with_reducible apply Keeps.next (donate_keeps ..)); decide +kernel
    | (with_reducible apply Keeps.next (semaGrant_keeps ..)); decide +kernel
    | with_reducible apply Keeps.foldl
    | (intro _; beta_reduce)
    | split
    | dsimp only

theorem mgmtGrant_keeps (w : ℕ) (f : ℕ) (u : ℕ) (sem : ℕ) (slot : ℕ) (s : Sys2Proof.Machine.State) : Keeps 0x58090000000014c004600000000100000000000000800000000000000000000000000c00000000000000000082610 s (mgmtGrant w f u sem slot s) := by
  unfold mgmtGrant
  repeat' first
    | with_reducible exact Keeps.refl _ _
    | with_reducible apply Keeps.ite
    | (with_reducible apply Keeps.next (haltCore_keeps ..)); decide +kernel
    | (with_reducible apply Keeps.next (State.fresh_keeps ..)); decide +kernel
    | (with_reducible apply Keeps.next (sendMgmt_keeps ..)); decide +kernel
    | (with_reducible apply Keeps.next (endWait_keeps ..)); decide +kernel
    | (with_reducible apply Keeps.next (State.modCore_keeps ..)); decide +kernel
    | (with_reducible apply Keeps.next (State.addTokens_keeps ..)); decide +kernel
    | (with_reducible apply Keeps.next (State.modPart_keeps ..)); decide +kernel
    | with_reducible apply Keeps.foldl
    | (intro _; beta_reduce)
    | split
    | dsimp only

theorem leaseEnd_keeps (w : ℕ) (n : ℕ) (part : ℕ) (back : Bool) (s : Sys2Proof.Machine.State) : Keeps 0x1c00000000000000000000000000000000000000000000002000 s (leaseEnd w n part back s) := by
  unfold leaseEnd
  repeat' first
    | with_reducible exact Keeps.refl _ _
    | with_reducible apply Keeps.ite
    | (with_reducible apply Keeps.next (semaAdd_keeps ..)); decide +kernel
    | (with_reducible apply Keeps.next (semaSync_keeps ..)); decide +kernel
    | (with_reducible apply Keeps.next (State.putSemas_keeps ..)); decide +kernel
    | (with_reducible apply Keeps.next (State.wr_keeps ..)); decide +kernel
    | with_reducible apply Keeps.foldl
    | (intro _; beta_reduce)
    | split
    | dsimp only

end Sys2Proof.Machine
end

