-- ==== Sys2Proof/Laws/KeepsTransport.lean ====
section
/-!
SUPPORT. What each operation of Machine/Transport.lean may change.
-/
namespace Sys2Proof.Machine
set_option linter.unusedTactic false
set_option linter.unreachableTactic false
set_option Elab.async false

theorem captureStream_keeps (w : ℕ) (destNi : ℕ) (cls : ℕ) (reason : ℕ) (s : Sys2Proof.Machine.State) : Keeps 0x14c004600000000000000000000000000000000000000000000400000000000000000000000000010 s (captureStream w destNi cls reason s) := by
  unfold captureStream
  repeat' first
    | with_reducible exact Keeps.refl _ _
    | with_reducible apply Keeps.ite
    | (with_reducible apply Keeps.next (State.raise_keeps ..)); decide +kernel
    | (with_reducible apply Keeps.next (State.wr_keeps ..)); decide +kernel
    | with_reducible apply Keeps.foldl
    | (intro _; beta_reduce)
    | split
    | dsimp only

theorem pushStreamEnds_keeps (w : ℕ) (f : ℕ) (destNi : ℕ) (cls : ℕ) (spart : ℕ) (s : Sys2Proof.Machine.State) : Keeps 0x400000000000000000000000000000080000 s (pushStreamEnds w f destNi cls spart s) := by
  unfold pushStreamEnds
  repeat' first
    | with_reducible exact Keeps.refl _ _
    | with_reducible apply Keeps.ite
    | (with_reducible apply Keeps.next (State.putInjects_keeps ..)); decide +kernel
    | (with_reducible apply Keeps.next (State.setReg_keeps ..)); decide +kernel
    | with_reducible apply Keeps.foldl
    | (intro _; beta_reduce)
    | split
    | dsimp only

theorem afterAck_keeps (w : ℕ) (spart : ℕ) (s : Sys2Proof.Machine.State) : Keeps 0x80000000000000000000000000000000000000000000000000000400 s (afterAck w spart s) := by
  unfold afterAck
  repeat' first
    | with_reducible exact Keeps.refl _ _
    | with_reducible apply Keeps.ite
    | (with_reducible apply Keeps.next (surrenderCheck_keeps ..)); decide +kernel
    | with_reducible apply Keeps.foldl
    | (intro _; beta_reduce)
    | split
    | dsimp only

theorem retransmit_keeps (w : ℕ) (f : ℕ) (destNi : ℕ) (cls : ℕ) (spart : ℕ) (count : ℕ) (s : Sys2Proof.Machine.State) : Keeps 0x50090000000034c0046000000001060050600800309a0010400000020409000c4003440000000000000027818ee13 s (retransmit w f destNi cls spart count s) := by
  unfold retransmit
  repeat' first
    | with_reducible exact Keeps.refl _ _
    | with_reducible apply Keeps.ite
    | (with_reducible apply Keeps.next (captureStream_keeps ..)); decide +kernel
    | (with_reducible apply Keeps.next (State.bump_keeps ..)); decide +kernel
    | (with_reducible apply Keeps.next (emitOn_keeps ..)); decide +kernel
    | (with_reducible apply Keeps.next (State.putSends_keeps ..)); decide +kernel
    | (with_reducible apply Keeps.next (partFault_keeps ..)); decide +kernel
    | (with_reducible apply Keeps.next (pushStreamEnds_keeps ..)); decide +kernel
    | (with_reducible apply Keeps.next (afterAck_keeps ..)); decide +kernel
    | (with_reducible apply Keeps.next (resetStream_keeps ..)); decide +kernel
    | with_reducible apply Keeps.foldl
    | (intro _; beta_reduce)
    | split
    | dsimp only

theorem releaseWaiting_keeps (w : ℕ) (f : ℕ) (k : ℕ) (s : Sys2Proof.Machine.State) : Keeps 0x14c004600000000000000000000000000000000000000000000000034000000000000000000104010 s (releaseWaiting w f k s) := by
  unfold releaseWaiting
  repeat' first
    | with_reducible exact Keeps.refl _ _
    | with_reducible apply forEach_keeps
    | with_reducible apply Keeps.ite
    | (with_reducible apply Keeps.next (streamSend_keeps ..)); decide +kernel
    | (with_reducible apply Keeps.next (State.putSends_keeps ..)); decide +kernel
    | with_reducible apply Keeps.foldl
    | (intro _; beta_reduce)
    | split
    | dsimp only

theorem tackArrives_keeps (w : ℕ) (f : ℕ) (p : Sys2Proof.Packet) (s : Sys2Proof.Machine.State) : Keeps 0x14c004600000000000000000080000000000000000000000000000034000000000000000000104410 s (tackArrives w f p s) := by
  unfold tackArrives
  repeat' first
    | with_reducible exact Keeps.refl _ _
    | with_reducible apply Keeps.ite
    | (with_reducible apply Keeps.next (State.putSends_keeps ..)); decide +kernel
    | (with_reducible apply Keeps.next (releaseWaiting_keeps ..)); decide +kernel
    | (with_reducible apply Keeps.next (afterAck_keeps ..)); decide +kernel
    | with_reducible apply Keeps.foldl
    | (intro _; beta_reduce)
    | split
    | dsimp only

theorem nackArrives_keeps (w : ℕ) (f : ℕ) (p : Sys2Proof.Packet) (s : Sys2Proof.Machine.State) : Keeps 0x50090000000034c004600000000106005060080030920010400000020409000c0000040000000000000027808ee13 s (nackArrives w f p s) := by
  unfold nackArrives
  repeat' first
    | with_reducible exact Keeps.refl _ _
    | with_reducible apply Keeps.ite
    | (with_reducible apply Keeps.next (failCmd_keeps ..)); decide +kernel
    | (with_reducible apply Keeps.next (captureStream_keeps ..)); decide +kernel
    | (with_reducible apply Keeps.next (pushStreamEnds_keeps ..)); decide +kernel
    | (with_reducible apply Keeps.next (afterAck_keeps ..)); decide +kernel
    | (with_reducible apply Keeps.next (State.modPart_keeps ..)); decide +kernel
    | (with_reducible apply Keeps.next (resetStream_keeps ..)); decide +kernel
    | with_reducible apply Keeps.foldl
    | (intro _; beta_reduce)
    | split
    | dsimp only

theorem sendTackFor_keeps (w : ℕ) (f : ℕ) (srcNi : ℕ) (cls : ℕ) (spart : ℕ) (s : Sys2Proof.Machine.State) : Keeps 0x14c004600000000000000000000000000000000000000000000000034000000000000000000188010 s (sendTackFor w f srcNi cls spart s) := by
  unfold sendTackFor
  repeat' first
    | with_reducible exact Keeps.refl _ _
    | with_reducible apply Keeps.ite
    | (with_reducible apply Keeps.next (sendLoose_keeps ..)); decide +kernel
    | (with_reducible apply Keeps.next (State.putRecvs_keeps ..)); decide +kernel
    | with_reducible apply Keeps.foldl
    | (intro _; beta_reduce)
    | split
    | dsimp only

theorem tackTimer_keeps (w : ℕ) (f : ℕ) (srcNi : ℕ) (cls : ℕ) (spart : ℕ) (s : Sys2Proof.Machine.State) : Keeps 0x14c004600000000000000000000000000000000000000000000000034000000000000000000188010 s (tackTimer w f srcNi cls spart s) := by
  unfold tackTimer
  repeat' first
    | with_reducible exact Keeps.refl _ _
    | with_reducible apply Keeps.ite
    | (with_reducible apply Keeps.next (sendTackFor_keeps ..)); decide +kernel
    | with_reducible apply Keeps.foldl
    | (intro _; beta_reduce)
    | split
    | dsimp only

theorem sendNack_keeps (w : ℕ) (f : ℕ) (reason : ℕ) (p : Sys2Proof.Packet) (s : Sys2Proof.Machine.State) : Keeps 0x14c004600000000000000000000000000000000000000000000000034000000000000000000180010 s (sendNack w f reason p s) := by
  unfold sendNack
  repeat' first
    | with_reducible exact Keeps.refl _ _
    | with_reducible apply Keeps.ite
    | (with_reducible apply Keeps.next (sendLoose_keeps ..)); decide +kernel
    | with_reducible apply Keeps.foldl
    | (intro _; beta_reduce)
    | split
    | dsimp only

theorem deliverEarly_keeps {w f k : Nat} {deliver : Packet → State → State} {M : Nat} (hm : 0x8000 ||| M = M) (hg : ∀ x t, Keeps M t (deliver x t)) {n : Nat}
    {s0 s1 : State} (h : Keeps M s0 s1) : Keeps M s0 (deliverEarly w f k deliver n s1) := by
  induction n generalizing s1 with
  | zero => exact h
  | succ n ih =>
    unfold deliverEarly
    dsimp only
    split
    · exact h
    · exact ih (Keeps.next (hg ..) (sub_refl _) (Keeps.next (State.putRecvs_keeps ..) (sub_trans (by decide +kernel) hm) h))

theorem arrive_keeps {w : ℕ} {f : ℕ} {deliver : Sys2Proof.Packet → Sys2Proof.Machine.State → Sys2Proof.Machine.State} {p : Sys2Proof.Packet} {M : Nat} (hm : 0x14c004600000000000000000000000000000000000000000000180034000000000000000000188010 ||| M = M) (hg : ∀ x0 t, Keeps M t (deliver x0 t)) {s0 s1 : State} (h : Keeps M s0 s1) : Keeps M s0 (arrive w f deliver p s1) := by
  unfold arrive
  repeat' first
    | with_reducible exact h
    | with_reducible apply Keeps.next (hg ..) (sub_refl _)
    | with_reducible exact Keeps.refl _ _
    | with_reducible apply Keeps.ite
    | (with_reducible apply Keeps.next (dropPacket_keeps ..)); exact sub_trans (by decide +kernel) hm
    | (with_reducible apply Keeps.next (State.putRecvs_keeps ..)); exact sub_trans (by decide +kernel) hm
    | (with_reducible apply Keeps.next (sendTackFor_keeps ..)); exact sub_trans (by decide +kernel) hm
    | (with_reducible apply Keeps.next (sendNack_keeps ..)); exact sub_trans (by decide +kernel) hm
    | (with_reducible apply Keeps.next (State.bump_keeps ..)); exact sub_trans (by decide +kernel) hm
    | (with_reducible apply deliverEarly_keeps); exact sub_trans (by decide +kernel) hm; skip
    | with_reducible apply Keeps.foldl
    | (intro _; beta_reduce)
    | split
    | dsimp only

theorem toScratch_keeps (w : ℕ) (f : ℕ) (u : ℕ) (a : ℕ) (bs : List ℕ) (s : Sys2Proof.Machine.State) : Keeps 0x14c004600000000000000000000000000010400000020009000800000400000000000000018000213 s (toScratch w f u a bs s) := by
  unfold toScratch
  repeat' first
    | with_reducible exact Keeps.refl _ _
    | with_reducible apply Keeps.ite
    | (with_reducible apply Keeps.next (State.modCore_keeps ..)); decide +kernel
    | (with_reducible apply Keeps.next (loftWrite_keeps ..)); decide +kernel
    | with_reducible apply Keeps.foldl
    | (intro _; beta_reduce)
    | split
    | dsimp only

theorem respond_keeps (w : ℕ) (f : ℕ) (p : Sys2Proof.Packet) (bs : List ℕ) (s : Sys2Proof.Machine.State) : Keeps 0x80000 s (respond w f p bs s) := by
  unfold respond
  repeat' first
    | with_reducible exact Keeps.refl _ _
    | with_reducible apply forEach_keeps
    | with_reducible apply Keeps.ite
    | (with_reducible apply Keeps.next (enqueue_keeps ..)); decide +kernel
    | with_reducible apply Keeps.foldl
    | (intro _; beta_reduce)
    | split
    | dsimp only

theorem fetchServed_keeps (w : ℕ) (f : ℕ) (p : Sys2Proof.Packet) (ecc : Sys2Proof.Ecc) (s : Sys2Proof.Machine.State) : Keeps 0x58090000000074c0046000000001060050600000309200f04c03fe8200090008000004100700000000003f8086e1b s (fetchServed w f p ecc s) := by
  unfold fetchServed
  repeat' first
    | with_reducible exact Keeps.refl _ _
    | with_reducible apply Keeps.ite
    | (with_reducible apply Keeps.next (State.modCore_keeps ..)); decide +kernel
    | (with_reducible apply Keeps.next (State.bump_keeps ..)); decide +kernel
    | (with_reducible apply Keeps.next (respond_keeps ..)); decide +kernel
    | (with_reducible apply Keeps.next (spadFault_keeps ..)); decide +kernel
    | with_reducible apply Keeps.foldl
    | (intro _; beta_reduce)
    | split
    | dsimp only

theorem signalDelivered_keeps (w : ℕ) (f : ℕ) (p : Sys2Proof.Packet) (s : Sys2Proof.Machine.State) : Keeps 0x58090000000014c004600000000100000000000000800010400000020009000800000c00000000000000018002213 s (signalDelivered w f p s) := by
  unfold signalDelivered
  repeat' first
    | with_reducible exact Keeps.refl _ _
    | with_reducible apply Keeps.ite
    | (with_reducible apply Keeps.next (advance_keeps ..)); decide +kernel
    | (with_reducible apply Keeps.next (endWait_keeps ..)); decide +kernel
    | (with_reducible apply Keeps.next (openTokens_keeps ..)); decide +kernel
    | (with_reducible apply Keeps.next (State.modCore_keeps ..)); decide +kernel
    | (with_reducible apply Keeps.next (stepEnd_keeps ..)); decide +kernel
    | (with_reducible apply Keeps.next (loftWrite_keeps ..)); decide +kernel
    | with_reducible apply Keeps.foldl
    | (intro _; beta_reduce)
    | split
    | dsimp only

theorem stealServed_keeps (w : ℕ) (f : ℕ) (p : Sys2Proof.Packet) (s : Sys2Proof.Machine.State) : Keeps 0x400000000000000000080600 s (stealServed w f p s) := by
  unfold stealServed
  repeat' first
    | with_reducible exact Keeps.refl _ _
    | with_reducible apply Keeps.ite
    | (with_reducible apply Keeps.next (enqueue_keeps ..)); decide +kernel
    | (with_reducible apply Keeps.next (State.setCore_keeps ..)); decide +kernel
    | (with_reducible apply Keeps.next (State.modPart_keeps ..)); decide +kernel
    | with_reducible apply Keeps.foldl
    | (intro _; beta_reduce)
    | split
    | dsimp only

theorem stealAnswered_keeps (w : ℕ) (f : ℕ) (p : Sys2Proof.Packet) (s : Sys2Proof.Machine.State) : Keeps 0x580000000000000000000600 s (stealAnswered w f p s) := by
  unfold stealAnswered
  repeat' first
    | with_reducible exact Keeps.refl _ _
    | with_reducible apply Keeps.ite
    | (with_reducible apply Keeps.next (State.bump_keeps ..)); decide +kernel
    | (with_reducible apply Keeps.next (State.setCore_keeps ..)); decide +kernel
    | (with_reducible apply Keeps.next (State.modPart_keeps ..)); decide +kernel
    | with_reducible apply Keeps.foldl
    | (intro _; beta_reduce)
    | split
    | dsimp only

theorem loftEcc_keeps (w : ℕ) (f : ℕ) (source : ℕ) (part : ℕ) (lines : List ℕ) (e : Sys2Proof.Ecc) (s : Sys2Proof.Machine.State) : Keeps 0x54c004600000000000001020000000000000bc03fe8000000000000000000700000000000c0400019 s (loftEcc w f source part lines e s) := by
  unfold loftEcc
  repeat' first
    | with_reducible exact Keeps.refl _ _
    | with_reducible apply Keeps.ite
    | (with_reducible apply Keeps.next (loftCorrected_keeps ..)); decide +kernel
    | (with_reducible apply Keeps.next (loftUncorrectable_keeps ..)); decide +kernel
    | with_reducible apply Keeps.foldl
    | (intro _; beta_reduce)
    | split
    | dsimp only

theorem lgetServed_keeps (w : ℕ) (f : ℕ) (p : Sys2Proof.Packet) (ecc : Sys2Proof.Ecc) (s : Sys2Proof.Machine.State) : Keeps 0x50090000000074c004600000000106005060000030920019fc03fe8200090008000004000700000000002f8486e1b s (lgetServed w f p ecc s) := by
  unfold lgetServed
  repeat' first
    | with_reducible exact Keeps.refl _ _
    | with_reducible apply Keeps.ite
    | (with_reducible apply Keeps.next (loftCountRead_keeps ..)); decide +kernel
    | (with_reducible apply Keeps.next (failCmd_keeps ..)); decide +kernel
    | (with_reducible apply Keeps.next (respond_keeps ..)); decide +kernel
    | (with_reducible apply Keeps.next (rangeError_keeps ..)); decide +kernel
    | (with_reducible apply Keeps.next (loftEcc_keeps ..)); decide +kernel
    | with_reducible apply Keeps.foldl
    | (intro _; beta_reduce)
    | split
    | dsimp only

theorem lputServed_keeps (w : ℕ) (f : ℕ) (p : Sys2Proof.Packet) (ecc : Sys2Proof.Ecc) (s : Sys2Proof.Machine.State) : Keeps 0x54c004600000000000001020000000000011fc03fe8200090008000000000700000000000d840001b s (lputServed w f p ecc s) := by
  unfold lputServed
  repeat' first
    | with_reducible exact Keeps.refl _ _
    | with_reducible apply Keeps.ite
    | (with_reducible apply Keeps.next (writePieces_keeps ..)); decide +kernel
    | (with_reducible apply Keeps.next (State.bump_keeps ..)); decide +kernel
    | (with_reducible apply Keeps.next (rangeError_keeps ..)); decide +kernel
    | (with_reducible apply Keeps.next (loftEcc_keeps ..)); decide +kernel
    | with_reducible apply Keeps.foldl
    | (intro _; beta_reduce)
    | split
    | dsimp only

theorem atomServed_keeps (w : ℕ) (f : ℕ) (p : Sys2Proof.Packet) (ecc : Sys2Proof.Ecc) (s : Sys2Proof.Machine.State) : Keeps 0x54c004600000000000001020000000000011fc03fe820009000a000000000700000000000d841001b s (atomServed w f p ecc s) := by
  unfold atomServed
  repeat' first
    | with_reducible exact Keeps.refl _ _
    | with_reducible apply Keeps.ite
    | (with_reducible apply Keeps.next (writePieces_keeps ..)); decide +kernel
    | (with_reducible apply Keeps.next (State.bump_keeps ..)); decide +kernel
    | (with_reducible apply Keeps.next (State.putReplays_keeps ..)); decide +kernel
    | (with_reducible apply Keeps.next (rangeError_keeps ..)); decide +kernel
    | (with_reducible apply Keeps.next (loftEcc_keeps ..)); decide +kernel
    | with_reducible apply Keeps.foldl
    | (intro _; beta_reduce)
    | split
    | dsimp only

theorem deliverData_keeps (w f : Nat) (p : Packet) (ecc : Ecc) (s : State) : Keeps 0x58090000000074c0046000000001060050600000309200f9fc03fe820009000a00000d900700000000003f8496e1b s (deliverData w f p ecc s) := by
  unfold deliverData
  dsimp only
  refine Keeps.ite (Keeps.refl _ _) ?_
  generalize p.typ = n
  rcases n with _ | _ | _ | _ | _ | _ | _ | _ | _ | _ | _ | n
  · exact Keeps.widen (toScratch_keeps ..) (by decide +kernel)
  · exact Keeps.widen (fetchServed_keeps ..) (by decide +kernel)
  · exact Keeps.widen (toScratch_keeps ..) (by decide +kernel)
  · exact Keeps.widen (signalDelivered_keeps ..) (by decide +kernel)
  · exact Keeps.ite (Keeps.widen (lgetServed_keeps ..) (by decide +kernel)) (Keeps.refl _ _)
  · exact Keeps.widen (toScratch_keeps ..) (by decide +kernel)
  · exact Keeps.ite (Keeps.widen (lputServed_keeps ..) (by decide +kernel)) (Keeps.refl _ _)
  · exact Keeps.widen (toScratch_keeps ..) (by decide +kernel)
  · exact Keeps.ite (Keeps.widen (atomServed_keeps ..) (by decide +kernel)) (Keeps.refl _ _)
  · exact Keeps.widen (stealServed_keeps ..) (by decide +kernel)
  · exact Keeps.widen (stealAnswered_keeps ..) (by decide +kernel)
  · exact Keeps.refl _ _

end Sys2Proof.Machine
end

