-- ==== Sys2Proof/Laws/KeepsTwi.lean ====
section
/-!
SUPPORT. What each operation of Machine/Twi.lean may change.
-/
namespace Sys2Proof.Machine
set_option linter.unusedTactic false
set_option linter.unreachableTactic false
set_option Elab.async false

theorem State.modTwis_keeps (s : Sys2Proof.Machine.State) (k : ℕ) (g : Sys2Proof.Machine.Twi → Sys2Proof.Machine.Twi) : Keeps 0x80000000000 s (State.modTwis s k g) := by
  unfold State.modTwis
  repeat' first
    | with_reducible exact Keeps.refl _ _
    | with_reducible apply Keeps.ite
    | (with_reducible apply Keeps.next (State.putTwis_keeps ..)); decide +kernel
    | with_reducible apply Keeps.foldl
    | (intro _; beta_reduce)
    | split
    | dsimp only

theorem ctrlEnd_keeps (w : ℕ) (result : ℕ) (nackAt : ℕ) (leaf : Sys2Proof.Machine.Leaf) (s : Sys2Proof.Machine.State) : Keeps 0x2000000014c004600000000000000000000000000000000000000000000000000000000000000000000000010 s (ctrlEnd w result nackAt leaf s) := by
  unfold ctrlEnd
  repeat' first
    | with_reducible exact Keeps.refl _ _
    | with_reducible apply Keeps.ite
    | (with_reducible apply Keeps.next (State.raise_keeps ..)); decide +kernel
    | (with_reducible apply Keeps.next (State.wr_keeps ..)); decide +kernel
    | with_reducible apply Keeps.foldl
    | (intro _; beta_reduce)
    | split
    | dsimp only

theorem twiCmd_keeps (w : ℕ) (v : ℕ) (s : Sys2Proof.Machine.State) : Keeps 0x3000000014c004600000000000000000000000000000000000000000000000000000000000000000000000010 s (twiCmd w v s) := by
  unfold twiCmd
  repeat' first
    | with_reducible exact Keeps.refl _ _
    | with_reducible apply Keeps.ite
    | (with_reducible apply Keeps.next (State.setReg_keeps ..)); decide +kernel
    | (with_reducible apply Keeps.next (ctrlEnd_keeps ..)); decide +kernel
    | (with_reducible apply Keeps.next (State.emit_keeps ..)); decide +kernel
    | (with_reducible apply Keeps.next (State.wr_keeps ..)); decide +kernel
    | with_reducible apply Keeps.foldl
    | (intro _; beta_reduce)
    | split
    | dsimp only

theorem bufBytes_keeps (w : ℕ) (bs : List ℕ) (s : Sys2Proof.Machine.State) : Keeps 0x40000000000000000000000000000000000000000000000000000000000000000000000000000000000000000 s (bufBytes w bs s) := by
  unfold bufBytes
  repeat' first
    | with_reducible exact Keeps.refl _ _
    | with_reducible apply forEach_keeps
    | with_reducible apply Keeps.ite
    | (with_reducible apply Keeps.next (State.setReg_keeps ..)); decide +kernel
    | with_reducible apply Keeps.foldl
    | (intro _; beta_reduce)
    | split
    | dsimp only

theorem ctrlDone_keeps (w : ℕ) (result : ℕ) (nackAt : ℕ) (data : List ℕ) (s : Sys2Proof.Machine.State) : Keeps 0x6000000014c004600000000000000000000000000000000000000000000000000000000000000000000000010 s (ctrlDone w result nackAt data s) := by
  unfold ctrlDone
  repeat' first
    | with_reducible exact Keeps.refl _ _
    | with_reducible apply Keeps.ite
    | (with_reducible apply Keeps.next (bufBytes_keeps ..)); decide +kernel
    | (with_reducible apply Keeps.next (ctrlEnd_keeps ..)); decide +kernel
    | with_reducible apply Keeps.foldl
    | (intro _; beta_reduce)
    | split
    | dsimp only

theorem arbLost_keeps (w : ℕ) (s : Sys2Proof.Machine.State) : Keeps 0x2000000014c004600000000000000000000000000000000000000000000000000000000000000000000000010 s (arbLost w s) := by
  unfold arbLost
  repeat' first
    | with_reducible exact Keeps.refl _ _
    | with_reducible apply Keeps.ite
    | (with_reducible apply Keeps.next (State.raise_keeps ..)); decide +kernel
    | (with_reducible apply Keeps.next (ctrlEnd_keeps ..)); decide +kernel
    | (with_reducible apply Keeps.next (State.wr_keeps ..)); decide +kernel
    | with_reducible apply Keeps.foldl
    | (intro _; beta_reduce)
    | split
    | dsimp only

theorem busRecovery_keeps (w : ℕ) (seg : ℕ) (ok : Bool) (s : Sys2Proof.Machine.State) : Keeps 0x2000000014c004600000000000000000000000000000000000000000000000000000000000000080000000010 s (busRecovery w seg ok s) := by
  unfold busRecovery
  repeat' first
    | with_reducible exact Keeps.refl _ _
    | with_reducible apply Keeps.ite
    | (with_reducible apply Keeps.next (ctrlEnd_keeps ..)); decide +kernel
    | (with_reducible apply Keeps.next (State.modTwis_keeps ..)); decide +kernel
    | (with_reducible apply Keeps.next (State.wr_keeps ..)); decide +kernel
    | with_reducible apply Keeps.foldl
    | (intro _; beta_reduce)
    | split
    | dsimp only

theorem stretchTimeout_keeps (w : ℕ) (s : Sys2Proof.Machine.State) : Keeps 0x600000014c004600000000000000000000000000000000000000000000000000000000000000004000000010 s (stretchTimeout w s) := by
  unfold stretchTimeout
  repeat' first
    | with_reducible exact Keeps.refl _ _
    | with_reducible apply Keeps.ite
    | (with_reducible apply Keeps.next (State.wr_keeps ..)); decide +kernel
    | (with_reducible apply Keeps.next (State.raise_keeps ..)); decide +kernel
    | (with_reducible apply Keeps.next (State.modWafers_keeps ..)); decide +kernel
    | (with_reducible apply Keeps.next (State.bump_keeps ..)); decide +kernel
    | with_reducible apply Keeps.foldl
    | (intro _; beta_reduce)
    | split
    | dsimp only

end Sys2Proof.Machine
end

