-- ==== Sys2Proof/Laws/KeepsWindow.lean ====
section
/-!
SUPPORT. What each operation of Machine/Window.lean may change.
-/
namespace Sys2Proof.Machine
set_option linter.unusedTactic false
set_option linter.unreachableTactic false
set_option Elab.async false

theorem accessError_keeps (w : ℕ) (path : ℕ) (kind : ℕ) (off : ℕ) (write : Bool) (s : Sys2Proof.Machine.State) : Keeps 0x14c004600000000000000000000000000000000000000000000000000000006000000000000000010 s (accessError w path kind off write s) := by
  unfold accessError
  repeat' first
    | with_reducible exact Keeps.refl _ _
    | with_reducible apply Keeps.ite
    | (with_reducible apply Keeps.next (State.raise_keeps ..)); decide +kernel
    | (with_reducible apply Keeps.next (State.setReg_keeps ..)); decide +kernel
    | (with_reducible apply Keeps.next (State.bump_keeps ..)); decide +kernel
    | with_reducible apply Keeps.foldl
    | (intro _; beta_reduce)
    | split
    | dsimp only

theorem journalSpill_keeps (w : ℕ) (s : Sys2Proof.Machine.State) : Keeps 0x70000000000000000008 s (journalSpill w s) := by
  unfold journalSpill
  repeat' first
    | with_reducible exact Keeps.refl _ _
    | with_reducible apply Keeps.ite
    | (with_reducible apply Keeps.next (State.putJournals_keeps ..)); decide +kernel
    | (with_reducible apply Keeps.next (State.jrnlSync_keeps ..)); decide +kernel
    | with_reducible apply Keeps.foldl
    | (intro _; beta_reduce)
    | split
    | dsimp only

theorem journalFetch_keeps (w : ℕ) (n : ℕ) (s : Sys2Proof.Machine.State) : Keeps 0x180000000000000000008 s (journalFetch w n s) := by
  unfold journalFetch
  repeat' first
    | with_reducible exact Keeps.refl _ _
    | with_reducible apply Keeps.ite
    | (with_reducible apply Keeps.next (State.wr_keeps ..)); decide +kernel
    | (with_reducible apply Keeps.next (State.putJournals_keeps ..)); decide +kernel
    | (with_reducible apply Keeps.next (State.setReg_keeps ..)); decide +kernel
    | with_reducible apply Keeps.foldl
    | (intro _; beta_reduce)
    | split
    | dsimp only

theorem journalFetched_keeps (w : ℕ) (s : Sys2Proof.Machine.State) : Keeps 0x300000000000000000008 s (journalFetched w s) := by
  unfold journalFetched
  repeat' first
    | with_reducible exact Keeps.refl _ _
    | with_reducible apply forEach_keeps
    | with_reducible apply Keeps.ite
    | (with_reducible apply Keeps.next (State.wr_keeps ..)); decide +kernel
    | (with_reducible apply Keeps.next (State.putJournals_keeps ..)); decide +kernel
    | (with_reducible apply Keeps.next (State.setReg_keeps ..)); decide +kernel
    | with_reducible apply Keeps.foldl
    | (intro _; beta_reduce)
    | split
    | dsimp only

theorem shows_keeps (g : Nat → Nat → State → Nat) (w path i : Nat) (s : State) : Keeps 0xffffffffffffffffffffffffffffffffffffffffffffffffffffffffffffffffffffffffffffffff0000000000000000 s (shows g w path i s).2 := Keeps.refl _ _

theorem showsFree_keeps (f : Fld) (on : Nat → Nat → State → Bool) (w path i : Nat) (s : State) : Keeps 0xffffffffffffffffffffffffffffffffffffffffffffffffffffffffffffffffffffffffffffffff0000000000000000 s (showsFree f on w path i s).2 := by
  unfold showsFree
  split
  · exact Keeps.widen (State.fresh_keeps s) (by decide +kernel)
  · exact Keeps.refl _ _

theorem shownRegs_keeps : ∀ x ∈ shownRegs, ∀ (w path i : Nat) (s : State), Keeps 0xffffffffffffffffffffffffffffffffffffffffffffffffffffffffffffffffffffffffffffffff0000000000000000 s (x.2 w path i s).2 :=
  (List.forall_mem_cons.mpr ⟨shows_keeps _,
    (List.forall_mem_cons.mpr ⟨fun _ _ _ _ => snd_mk_keeps _ (Keeps.refl _ _),
    (List.forall_mem_cons.mpr ⟨shows_keeps _,
    (List.forall_mem_cons.mpr ⟨shows_keeps _,
    (List.forall_mem_cons.mpr ⟨shows_keeps _,
    (List.forall_mem_cons.mpr ⟨shows_keeps _,
    (List.forall_mem_cons.mpr ⟨shows_keeps _,
    (List.forall_mem_cons.mpr ⟨shows_keeps _,
    (List.forall_mem_cons.mpr ⟨shows_keeps _,
    (List.forall_mem_cons.mpr ⟨shows_keeps _,
    (List.forall_mem_cons.mpr ⟨shows_keeps _,
    (List.forall_mem_cons.mpr ⟨showsFree_keeps _ _,
    (List.forall_mem_cons.mpr ⟨showsFree_keeps _ _,
    (List.forall_mem_cons.mpr ⟨showsFree_keeps _ _,
    (List.forall_mem_cons.mpr ⟨shows_keeps _,
    (List.forall_mem_cons.mpr ⟨shows_keeps _,
    (List.forall_mem_cons.mpr ⟨shows_keeps _,
    (List.forall_mem_cons.mpr ⟨shows_keeps _,
    (List.forall_mem_cons.mpr ⟨fun _ _ _ _ => Keeps.widen (dbgRegRead_keeps ..) (by decide +kernel),
    (List.forall_mem_cons.mpr ⟨fun _ _ _ _ => snd_mk_keeps _ (Keeps.refl _ _),
    (List.forall_mem_cons.mpr ⟨fun _ _ _ _ => Keeps.widen (dbgMemPeek_keeps ..) (by decide +kernel),
    (List.forall_mem_nil _)⟩)⟩)⟩)⟩)⟩)⟩)⟩)⟩)⟩)⟩)⟩)⟩)⟩)⟩)⟩)⟩)⟩)⟩)⟩)⟩)⟩)

theorem readReg_keeps (w path : Nat) (r : Reg) (i : Nat) (s : State) : Keeps 0xffffffffffffffffffffffffffffffffffffffffffffffffffffffffffffffffffffffffffffffff0000000000000000 s (readReg w path r i s).2 := by
  unfold readReg
  split
  · rename_i x hx
    have h := shownRegs_keeps x (List.mem_of_find?_eq_some hx) w path i s
    dsimp only
    split
    · exact h
    · exact Keeps.next (State.setReg_keeps ..) (regBit_sub (by decide +kernel) _) h
  · dsimp only
    split
    · exact Keeps.refl _ _
    · exact Keeps.widen (State.setReg_keeps ..) (regBit_sub (by decide +kernel) _)

theorem readPlace_keeps (w : ℕ) (path : ℕ) (r : Sys2Proof.Machine.Reg) (i : ℕ) (s : Sys2Proof.Machine.State) : Keeps 0xffffffffffffffffffffffffffffffffffffffffffffffffffffffffffffffffffffffffffffffff0000000000000000 s (readPlace w path r i s).2 := by
  unfold readPlace
  try dsimp only
  repeat' first
    | with_reducible exact Keeps.refl _ _
    | with_reducible apply Keeps.ite
    | (with_reducible apply Keeps.next (readReg_keeps ..)); (first | decide +kernel | exact sub_right _ _ | exact sub_refl _ | exact sub_left (by decide +kernel) | exact regBit_sub (by decide +kernel) _ | exact sub_or (by decide +kernel) (regBit_sub (by decide +kernel) _))
    | with_reducible apply Keeps.foldl
    | (intro _; beta_reduce)
    | split
    | dsimp only

theorem storeReg_keeps (w : Nat) (r : Reg) (i v : Nat) (s : State) : Keeps (0x2 ||| regBit r) s (storeReg w r i v s) := by
  unfold storeReg
  dsimp only
  have h : ∀ x, Keeps (0x2 ||| regBit r) s (if x = s.reg r w i then s else s.setReg r w i x) := by
    intro x
    split
    · exact Keeps.refl _ _
    · exact Keeps.widen (State.setReg_keeps ..) (sub_right _ _)
  split
  · exact h _
  · exact Keeps.next (State.setWreg_keeps ..) (sub_left (by decide +kernel)) (h _)


theorem bupCtl_keeps (w : ℕ) (path : ℕ) (v : ℕ) (s : Sys2Proof.Machine.State) : Keeps 0xffffffffffffffffffffffffffffffffffffffffffffffffffffffffffffffffffffffffffffffff00000a73ffdffeff s (bupCtl w path v s) := by
  unfold bupCtl
  repeat' first
    | with_reducible exact Keeps.refl _ _
    | with_reducible apply State.when_keeps
    | with_reducible apply Keeps.ite
    | (with_reducible apply Keeps.next (fdrAbort_keeps ..)); decide +kernel
    | (with_reducible apply Keeps.next (warmStart1_keeps ..)); decide +kernel
    | (with_reducible apply Keeps.next (fdrStart_keeps ..)); decide +kernel
    | (with_reducible apply Keeps.next (retestStart_keeps ..)); decide +kernel
    | with_reducible apply Keeps.foldl
    | (intro _; beta_reduce)
    | split
    | dsimp only

theorem dmaCfg_keeps (w : ℕ) (c : ℕ) (v : ℕ) (s : Sys2Proof.Machine.State) : Keeps 0x14c1f4600000000000000000000000000000000000000000000000000000000000000000000000050 s (dmaCfg w c v s) := by
  unfold dmaCfg
  repeat' first
    | with_reducible exact Keeps.refl _ _
    | with_reducible apply State.when_keeps
    | with_reducible apply Keeps.ite
    | (with_reducible apply Keeps.next (State.wr_keeps ..)); decide +kernel
    | (with_reducible apply Keeps.next (dmaEnable_keeps ..)); decide +kernel
    | (with_reducible apply Keeps.next (dmaDisable_keeps ..)); decide +kernel
    | (with_reducible apply Keeps.next (dmaResume_keeps ..)); decide +kernel
    | with_reducible apply Keeps.foldl
    | (intro _; beta_reduce)
    | split
    | dsimp only

theorem dbgCoreCtl_keeps (w : ℕ) (v : ℕ) (s : Sys2Proof.Machine.State) : Keeps 0x58090000000034c004600000000106005060000030920010400000020009000800000400000000000000278086e13 s (dbgCoreCtl w v s) := by
  unfold dbgCoreCtl
  repeat' first
    | with_reducible exact Keeps.refl _ _
    | with_reducible apply State.when_keeps
    | with_reducible apply Keeps.ite
    | (with_reducible apply Keeps.next (resumeCore_keeps ..)); decide +kernel
    | (with_reducible apply dbgControl_keeps); decide +kernel; skip
    | (with_reducible apply Keeps.next (haltAsk_keeps ..)); decide +kernel
    | with_reducible apply Keeps.foldl
    | (intro _; beta_reduce)
    | split
    | dsimp only

theorem storeReg_any (w : Nat) (r : Reg) (i v : Nat) (s : State) : Keeps 0xffffffffffffffffffffffffffffffffffffffffffffffffffffffffffffffffffffffffffffffffffffffffffffffff s (storeReg w r i v s) :=
  Keeps.widen (storeReg_keeps ..) (sub_or (by decide +kernel) (regBit_sub (by decide +kernel) _))

theorem andThen_any (w : Nat) (r : Reg) (i v bit : Nat) (g : State → State) (hg : ∀ t, Keeps 0xffffffffffffffffffffffffffffffffffffffffffffffffffffffffffffffffffffffffffffffffffffffffffffffff t (g t)) (s : State) : Keeps 0xffffffffffffffffffffffffffffffffffffffffffffffffffffffffffffffffffffffffffffffffffffffffffffffff s (andThen w r i v bit g s) :=
  State.when_keeps hg (storeReg_any w r i v s)

theorem clearCount_keeps (r : Reg) (c : Fld) (w path i v : Nat) (s : State) : Keeps 0xffffffffffffffffffffffffffffffffffffffffffffffffffffffffffffffffffffffffffffffffffffffffffffffff s (clearCount r c w path i v s) :=
  State.when_keeps (fun _ => Keeps.widen (State.wr_keeps ..) (regBit_sub (by decide +kernel) _)) (storeReg_any w r i v s)

theorem fdrArm_keeps (w _path i v : Nat) (s : State) : Keeps 0xffffffffffffffffffffffffffffffffffffffffffffffffffffffffffffffffffffffffffffffffffffffffffffffff s ((storeReg w BUP_FDR_ARM i v s).modBups w fun b => { b with armTime := s.now }) :=
  Keeps.next (State.modBups_keeps _ _ _) (by decide +kernel) (storeReg_any _ _ _ _ _)

theorem lnkCfg_keeps (w _path p v : Nat) (s : State) : Keeps 0xffffffffffffffffffffffffffffffffffffffffffffffffffffffffffffffffffffffffffffffffffffffffffffffff s
    (if s.rd LNK_CFG_ADMIN_DOWN w p = v % 2 then s.setReg LNK_CFG w p (putBits (v &&& LNK_CFG.rw) 0 0 (s.rd LNK_CFG_ADMIN_DOWN w p))
      else adminDown w p (bitAt v 0) (s.setReg LNK_CFG w p (putBits (v &&& LNK_CFG.rw) 0 0 (s.rd LNK_CFG_ADMIN_DOWN w p)))) := by
  have h : ∀ x, Keeps 0xffffffffffffffffffffffffffffffffffffffffffffffffffffffffffffffffffffffffffffffffffffffffffffffff s (s.setReg LNK_CFG w p x) := fun x => Keeps.widen (State.setReg_keeps ..) (by decide +kernel)
  split
  · exact h _
  · exact Keeps.next (adminDown_keeps ..) (by decide +kernel) (h _)

theorem actingRegs_keeps : ∀ x ∈ actingRegs, ∀ (w path i v : Nat) (s : State), Keeps 0xffffffffffffffffffffffffffffffffffffffffffffffffffffffffffffffffffffffffffffffffffffffffffffffff s (x.2 w path i v s) :=
  (List.forall_mem_cons.mpr ⟨clearCount_keeps _ _,
    (List.forall_mem_cons.mpr ⟨clearCount_keeps _ _,
    (List.forall_mem_cons.mpr ⟨fun _ _ _ _ _ => Keeps.widen (journalFetch_keeps ..) (by decide +kernel),
    (List.forall_mem_cons.mpr ⟨fun _ _ _ _ _ => Keeps.widen (hostMaskWrite_keeps ..) (by decide +kernel),
    (List.forall_mem_cons.mpr ⟨fun _ _ _ _ _ => Keeps.widen (tmcMaskWrite_keeps ..) (by decide +kernel),
    (List.forall_mem_cons.mpr ⟨fun _ _ _ _ _ => Keeps.widen (leafMaskWrite_keeps ..) (by decide +kernel),
    (List.forall_mem_cons.mpr ⟨fun _ _ _ _ _ => Keeps.widen (tmcSeenClear_keeps ..) (by decide +kernel),
    (List.forall_mem_cons.mpr ⟨fun _ _ _ _ _ => Keeps.widen (atnTest_keeps ..) (by decide +kernel),
    (List.forall_mem_cons.mpr ⟨fun _ _ _ _ _ => Keeps.widen (cueCtrl_keeps ..) (by decide +kernel),
    (List.forall_mem_cons.mpr ⟨fun _ _ _ _ _ => State.when_keeps (fun _ => Keeps.widen (imgFail_keeps ..) (by decide +kernel)) (andThen_any _ _ _ _ _ _ (fun _ => Keeps.widen (imageStart_keeps ..) (by decide +kernel)) _),
    (List.forall_mem_cons.mpr ⟨fun _ _ _ _ _ => State.when_keeps (fun _ => Keeps.widen (pushAbort_keeps ..) (by decide +kernel)) (andThen_any _ _ _ _ _ _ (fun _ => Keeps.widen (pushStart_keeps ..) (by decide +kernel)) _),
    (List.forall_mem_cons.mpr ⟨fun _ _ _ _ _ => Keeps.widen (bupCtl_keeps ..) (by decide +kernel),
    (List.forall_mem_cons.mpr ⟨fdrArm_keeps,
    (List.forall_mem_cons.mpr ⟨fun _ _ _ _ _ => Keeps.widen (ledgerFetch_keeps ..) (by decide +kernel),
    (List.forall_mem_cons.mpr ⟨fun _ _ _ _ _ => State.when_keeps (fun _ => Keeps.widen (curtain_keeps ..) (by decide +kernel)) (Keeps.refl _ _),
    (List.forall_mem_cons.mpr ⟨fun _ _ _ _ _ => State.when_keeps (fun _ => Keeps.widen (resetSeq_keeps ..) (by decide +kernel)) (Keeps.refl _ _),
    (List.forall_mem_cons.mpr ⟨fun _ _ _ _ _ => State.when_keeps (fun _ => Keeps.widen (slotLeave_keeps ..) (by decide +kernel)) (State.when_keeps (fun _ => Keeps.widen (slotJoin_keeps ..) (by decide +kernel)) (Keeps.refl _ _)),
    (List.forall_mem_cons.mpr ⟨fun _ _ _ _ _ => State.when_keeps (fun _ => Keeps.widen (resume_keeps ..) (by decide +kernel)) (State.when_keeps (fun _ => Keeps.widen (preempt_keeps ..) (by decide +kernel)) (Keeps.refl _ _)),
    (List.forall_mem_cons.mpr ⟨fun _ _ _ _ _ => Keeps.widen (domRequest_keeps ..) (by decide +kernel),
    (List.forall_mem_cons.mpr ⟨fun _ _ _ _ _ => Keeps.widen (capWrite_keeps ..) (by decide +kernel),
    (List.forall_mem_cons.mpr ⟨fun _ _ _ _ _ => Keeps.widen (telSnapshot_keeps ..) (by decide +kernel),
    (List.forall_mem_cons.mpr ⟨fun _ _ _ _ _ => State.when_keeps (fun _ => Keeps.widen (ghostExit_keeps ..) (by decide +kernel)) (Keeps.refl _ _),
    (List.forall_mem_cons.mpr ⟨fun _ _ _ _ _ => Keeps.widen (dmaCfg_keeps ..) (by decide +kernel),
    (List.forall_mem_cons.mpr ⟨fun _ _ _ _ _ => Keeps.widen (dmaTail_keeps ..) (by decide +kernel),
    (List.forall_mem_cons.mpr ⟨fun _ _ _ _ _ => Keeps.widen (msixMask_keeps ..) (by decide +kernel),
    (List.forall_mem_cons.mpr ⟨fun _ _ _ _ _ => Keeps.widen (routeTableWrite_keeps ..) (by decide +kernel),
    (List.forall_mem_cons.mpr ⟨lnkCfg_keeps,
    (List.forall_mem_cons.mpr ⟨fun _ _ _ _ _ => Keeps.widen (keepaliveCommit_keeps ..) (by decide +kernel),
    (List.forall_mem_cons.mpr ⟨fun _ _ _ _ _ => Keeps.widen (twiCmd_keeps ..) (by decide +kernel),
    (List.forall_mem_cons.mpr ⟨fun _ _ _ _ _ => Keeps.widen (dbgCtl_keeps ..) (by decide +kernel),
    (List.forall_mem_cons.mpr ⟨fun _ _ _ _ _ => Keeps.widen (dbgCoreCtl_keeps ..) (by decide +kernel),
    (List.forall_mem_cons.mpr ⟨fun _ _ _ _ _ => Keeps.widen (dbgRegWrite_keeps ..) (by decide +kernel),
    (List.forall_mem_cons.mpr ⟨fun _ _ _ _ _ => Keeps.widen (dbgMemWrite_keeps ..) (by decide +kernel),
    (List.forall_mem_cons.mpr ⟨fun _ _ _ _ _ => Keeps.widen (comparatorWrite_keeps ..) (by decide +kernel),
    (List.forall_mem_cons.mpr ⟨fun _ _ _ _ _ => Keeps.widen (comparatorWrite_keeps ..) (by decide +kernel),
    (List.forall_mem_cons.mpr ⟨fun _ _ _ _ _ => Keeps.widen (comparatorWrite_keeps ..) (by decide +kernel),
    (List.forall_mem_nil _)⟩)⟩)⟩)⟩)⟩)⟩)⟩)⟩)⟩)⟩)⟩)⟩)⟩)⟩)⟩)⟩)⟩)⟩)⟩)⟩)⟩)⟩)⟩)⟩)⟩)⟩)⟩)⟩)⟩)⟩)⟩)⟩)⟩)⟩)⟩)⟩)

theorem commitReg_keeps (w path off : Nat) (r : Reg) (i v : Nat) (s : State) : Keeps 0xffffffffffffffffffffffffffffffffffffffffffffffffffffffffffffffffffffffffffffffffffffffffffffffff s (commitReg w path off r i v s) := by
  unfold commitReg
  split
  · exact Keeps.widen (accessError_keeps ..) (by decide +kernel)
  · dsimp only
    refine State.when_keeps (fun _ => Keeps.widen (accessError_keeps ..) (by decide +kernel)) ?_
    split
    · rename_i x hx
      exact actingRegs_keeps x (List.mem_of_find?_eq_some hx) _ _ _ _ _
    · exact storeReg_any _ _ _ _ _

theorem writePlace_keeps (w : ℕ) (path : ℕ) (off : ℕ) (r : Sys2Proof.Machine.Reg) (i : ℕ) (v : ℕ) (s : Sys2Proof.Machine.State) : Keeps 0xffffffffffffffffffffffffffffffffffffffffffffffffffffffffffffffffffffffffffffffffffffffffffffffff s (writePlace w path off r i v s) := by
  unfold writePlace
  repeat' first
    | with_reducible exact Keeps.refl _ _
    | with_reducible apply State.when_keeps
    | with_reducible apply Keeps.ite
    | (with_reducible apply Keeps.next (accessError_keeps ..)); (first | decide +kernel | exact sub_right _ _ | exact sub_refl _ | exact sub_left (by decide +kernel) | exact regBit_sub (by decide +kernel) _ | exact sub_or (by decide +kernel) (regBit_sub (by decide +kernel) _))
    | (with_reducible apply Keeps.next (commitReg_keeps ..)); (first | decide +kernel | exact sub_right _ _ | exact sub_refl _ | exact sub_left (by decide +kernel) | exact regBit_sub (by decide +kernel) _ | exact sub_or (by decide +kernel) (regBit_sub (by decide +kernel) _))
    | with_reducible apply Keeps.foldl
    | (intro _; beta_reduce)
    | split
    | dsimp only

theorem State.modLatches_keeps (s : Sys2Proof.Machine.State) (k : ℕ) (g : Sys2Proof.Machine.Latch → Sys2Proof.Machine.Latch) : Keeps 0x4 s (State.modLatches s k g) := by
  unfold State.modLatches
  repeat' first
    | with_reducible exact Keeps.refl _ _
    | with_reducible apply Keeps.ite
    | (with_reducible apply Keeps.next (State.putLatches_keeps ..)); decide +kernel
    | with_reducible apply Keeps.foldl
    | (intro _; beta_reduce)
    | split
    | dsimp only

theorem afterHigh_keeps (w : ℕ) (r : Sys2Proof.Machine.Reg) (s : Sys2Proof.Machine.State) : Keeps 0x4000000000000000000000000000000000000000000000000000000000000000000000000000000000000000000 s (afterHigh w r s) := by
  unfold afterHigh
  repeat' first
    | with_reducible exact Keeps.refl _ _
    | with_reducible apply Keeps.ite
    | (with_reducible apply Keeps.next (autoInc_keeps ..)); decide +kernel
    | with_reducible apply Keeps.foldl
    | (intro _; beta_reduce)
    | split
    | dsimp only

theorem readWord_keeps (w : ℕ) (path : ℕ) (off : ℕ) (captured : Option (ℕ × ℕ)) (s : Sys2Proof.Machine.State) : Keeps 0xffffffffffffffffffffffffffffffffffffffffffffffffffffffffffffffffffffffffffffffff0000000000000014 s (readWord w path off captured s).2 := by
  unfold readWord
  try dsimp only
  repeat' first
    | with_reducible exact Keeps.refl _ _
    | with_reducible apply Keeps.ite
    | (with_reducible apply Keeps.next (State.modLatches_keeps ..)); (first | decide +kernel | exact sub_right _ _ | exact sub_refl _ | exact sub_left (by decide +kernel) | exact regBit_sub (by decide +kernel) _ | exact sub_or (by decide +kernel) (regBit_sub (by decide +kernel) _))
    | (with_reducible apply Keeps.next (afterHigh_keeps ..)); (first | decide +kernel | exact sub_right _ _ | exact sub_refl _ | exact sub_left (by decide +kernel) | exact regBit_sub (by decide +kernel) _ | exact sub_or (by decide +kernel) (regBit_sub (by decide +kernel) _))
    | (with_reducible apply Keeps.next (readPlace_keeps ..)); (first | decide +kernel | exact sub_right _ _ | exact sub_refl _ | exact sub_left (by decide +kernel) | exact regBit_sub (by decide +kernel) _ | exact sub_or (by decide +kernel) (regBit_sub (by decide +kernel) _))
    | (with_reducible apply Keeps.next (accessError_keeps ..)); (first | decide +kernel | exact sub_right _ _ | exact sub_refl _ | exact sub_left (by decide +kernel) | exact regBit_sub (by decide +kernel) _ | exact sub_or (by decide +kernel) (regBit_sub (by decide +kernel) _))
    | with_reducible apply Keeps.foldl
    | (intro _; beta_reduce)
    | split
    | dsimp only

theorem takeCaptured_keeps (w : ℕ) (path : ℕ) (s : Sys2Proof.Machine.State) : Keeps 0x4 s (takeCaptured w path s).2 := by
  unfold takeCaptured
  try dsimp only
  repeat' first
    | with_reducible exact Keeps.refl _ _
    | with_reducible apply Keeps.ite
    | (with_reducible apply Keeps.next (State.putLatches_keeps ..)); decide +kernel
    | with_reducible apply Keeps.foldl
    | (intro _; beta_reduce)
    | split
    | dsimp only

theorem read4_keeps (w : ℕ) (path : ℕ) (off : ℕ) (be : ℕ) (s : Sys2Proof.Machine.State) : Keeps 0xffffffffffffffffffffffffffffffffffffffffffffffffffffffffffffffffffffffffffffffff0000000000000014 s (read4 w path off be s).2 := by
  unfold read4
  try dsimp only
  repeat' first
    | with_reducible exact Keeps.refl _ _
    | with_reducible apply Keeps.ite
    | (with_reducible apply Keeps.next (readWord_keeps ..)); decide +kernel
    | (with_reducible apply Keeps.next (takeCaptured_keeps ..)); decide +kernel
    | with_reducible apply Keeps.foldl
    | (intro _; beta_reduce)
    | split
    | dsimp only

theorem read8_keeps (w : ℕ) (path : ℕ) (off : ℕ) (s0 : Sys2Proof.Machine.State) : Keeps 0xffffffffffffffffffffffffffffffffffffffffffffffffffffffffffffffffffffffffffffffff0000000000000014 s0 (read8 w path off s0).2 := by
  unfold read8
  try dsimp only
  repeat' first
    | with_reducible exact Keeps.refl _ _
    | with_reducible apply Keeps.ite
    | (with_reducible apply Keeps.next (readWord_keeps ..)); (first | decide +kernel | exact sub_right _ _ | exact sub_refl _ | exact sub_left (by decide +kernel) | exact regBit_sub (by decide +kernel) _ | exact sub_or (by decide +kernel) (regBit_sub (by decide +kernel) _))
    | (with_reducible apply Keeps.next (afterHigh_keeps ..)); (first | decide +kernel | exact sub_right _ _ | exact sub_refl _ | exact sub_left (by decide +kernel) | exact regBit_sub (by decide +kernel) _ | exact sub_or (by decide +kernel) (regBit_sub (by decide +kernel) _))
    | (with_reducible apply Keeps.next (readPlace_keeps ..)); (first | decide +kernel | exact sub_right _ _ | exact sub_refl _ | exact sub_left (by decide +kernel) | exact regBit_sub (by decide +kernel) _ | exact sub_or (by decide +kernel) (regBit_sub (by decide +kernel) _))
    | (with_reducible apply Keeps.next (accessError_keeps ..)); (first | decide +kernel | exact sub_right _ _ | exact sub_refl _ | exact sub_left (by decide +kernel) | exact regBit_sub (by decide +kernel) _ | exact sub_or (by decide +kernel) (regBit_sub (by decide +kernel) _))
    | (with_reducible apply Keeps.next (takeCaptured_keeps ..)); (first | decide +kernel | exact sub_right _ _ | exact sub_refl _ | exact sub_left (by decide +kernel) | exact regBit_sub (by decide +kernel) _ | exact sub_or (by decide +kernel) (regBit_sub (by decide +kernel) _))
    | with_reducible apply Keeps.foldl
    | (intro _; beta_reduce)
    | split
    | dsimp only

theorem writeWord_keeps (w : ℕ) (path : ℕ) (off : ℕ) (v : ℕ) (s : Sys2Proof.Machine.State) : Keeps 0xffffffffffffffffffffffffffffffffffffffffffffffffffffffffffffffffffffffffffffffffffffffffffffffff s (writeWord w path off v s) := by
  unfold writeWord
  repeat' first
    | with_reducible exact Keeps.refl _ _
    | with_reducible apply Keeps.ite
    | (with_reducible apply Keeps.next (writePlace_keeps ..)); (first | decide +kernel | exact sub_right _ _ | exact sub_refl _ | exact sub_left (by decide +kernel) | exact regBit_sub (by decide +kernel) _ | exact sub_or (by decide +kernel) (regBit_sub (by decide +kernel) _))
    | (with_reducible apply Keeps.next (State.modLatches_keeps ..)); (first | decide +kernel | exact sub_right _ _ | exact sub_refl _ | exact sub_left (by decide +kernel) | exact regBit_sub (by decide +kernel) _ | exact sub_or (by decide +kernel) (regBit_sub (by decide +kernel) _))
    | (with_reducible apply Keeps.next (accessError_keeps ..)); (first | decide +kernel | exact sub_right _ _ | exact sub_refl _ | exact sub_left (by decide +kernel) | exact regBit_sub (by decide +kernel) _ | exact sub_or (by decide +kernel) (regBit_sub (by decide +kernel) _))
    | with_reducible apply Keeps.foldl
    | (intro _; beta_reduce)
    | split
    | dsimp only

theorem write4_keeps (w : ℕ) (path : ℕ) (off : ℕ) (be : ℕ) (v : ℕ) (s0 : Sys2Proof.Machine.State) : Keeps 0xffffffffffffffffffffffffffffffffffffffffffffffffffffffffffffffffffffffffffffffffffffffffffffffff s0 (write4 w path off be v s0) := by
  unfold write4
  repeat' first
    | with_reducible exact Keeps.refl _ _
    | with_reducible apply Keeps.ite
    | (with_reducible apply Keeps.next (writeWord_keeps ..)); decide +kernel
    | (with_reducible apply Keeps.next (accessError_keeps ..)); decide +kernel
    | (with_reducible apply Keeps.next (takeCaptured_keeps ..)); decide +kernel
    | with_reducible apply Keeps.foldl
    | (intro _; beta_reduce)
    | split
    | dsimp only

theorem write8_keeps (w : ℕ) (path : ℕ) (off : ℕ) (lo : ℕ) (hi : ℕ) (s0 : Sys2Proof.Machine.State) : Keeps 0xffffffffffffffffffffffffffffffffffffffffffffffffffffffffffffffffffffffffffffffffffffffffffffffff s0 (write8 w path off lo hi s0) := by
  unfold write8
  repeat' first
    | with_reducible exact Keeps.refl _ _
    | with_reducible apply Keeps.ite
    | (with_reducible apply Keeps.next (writePlace_keeps ..)); (first | decide +kernel | exact sub_right _ _ | exact sub_refl _ | exact sub_left (by decide +kernel) | exact regBit_sub (by decide +kernel) _ | exact sub_or (by decide +kernel) (regBit_sub (by decide +kernel) _))
    | (with_reducible apply Keeps.next (writeWord_keeps ..)); (first | decide +kernel | exact sub_right _ _ | exact sub_refl _ | exact sub_left (by decide +kernel) | exact regBit_sub (by decide +kernel) _ | exact sub_or (by decide +kernel) (regBit_sub (by decide +kernel) _))
    | (with_reducible apply Keeps.next (accessError_keeps ..)); (first | decide +kernel | exact sub_right _ _ | exact sub_refl _ | exact sub_left (by decide +kernel) | exact regBit_sub (by decide +kernel) _ | exact sub_or (by decide +kernel) (regBit_sub (by decide +kernel) _))
    | (with_reducible apply Keeps.next (takeCaptured_keeps ..)); (first | decide +kernel | exact sub_right _ _ | exact sub_refl _ | exact sub_left (by decide +kernel) | exact regBit_sub (by decide +kernel) _ | exact sub_or (by decide +kernel) (regBit_sub (by decide +kernel) _))
    | with_reducible apply Keeps.foldl
    | (intro _; beta_reduce)
    | split
    | dsimp only

theorem readWords_keeps (n w path off : Nat) (bes : List Nat) (s : State) : Keeps 0xffffffffffffffffffffffffffffffffffffffffffffffffffffffffffffffffffffffffffffffff0000000000000014 s (readWords n w path off bes s).2 := by
  induction n generalizing off bes s with
  | zero => exact Keeps.refl _ _
  | succ n ih =>
    match bes with
    | [] => exact Keeps.refl _ _
    | [b] => exact Keeps.next (ih _ _ _) (sub_refl _) (Keeps.widen (read4_keeps ..) (by decide +kernel))
    | b :: c :: bs =>
      simp only [readWords]
      split
      · exact Keeps.next (ih _ _ _) (sub_refl _) (Keeps.widen (read8_keeps ..) (by decide +kernel))
      · exact Keeps.next (ih _ _ _) (sub_refl _) (Keeps.widen (read4_keeps ..) (by decide +kernel))

theorem writeWords_keeps (n w path off : Nat) (ds : List (Nat × Nat)) (s : State) : Keeps 0xffffffffffffffffffffffffffffffffffffffffffffffffffffffffffffffffffffffffffffffffffffffffffffffff s (writeWords n w path off ds s) := by
  induction n generalizing off ds s with
  | zero => exact Keeps.refl _ _
  | succ n ih =>
    match ds with
    | [] => exact Keeps.refl _ _
    | [b] => exact Keeps.next (ih _ _ _) (sub_refl _) (Keeps.widen (write4_keeps ..) (by decide +kernel))
    | b :: c :: bs =>
      simp only [writeWords]
      split
      · exact Keeps.next (ih _ _ _) (sub_refl _) (Keeps.widen (write8_keeps ..) (by decide +kernel))
      · exact Keeps.next (ih _ _ _) (sub_refl _) (Keeps.widen (write4_keeps ..) (by decide +kernel))

theorem windowRead_keeps (w : ℕ) (path : ℕ) (off : ℕ) (bes : List ℕ) (s : Sys2Proof.Machine.State) : Keeps 0xffffffffffffffffffffffffffffffffffffffffffffffffffffffffffffffffffffffffffffffff0000000000000014 s (windowRead w path off bes s).2 := by
  unfold windowRead
  try dsimp only
  repeat' first
    | with_reducible exact Keeps.refl _ _
    | with_reducible apply Keeps.ite
    | (with_reducible apply Keeps.next (accessError_keeps ..)); decide +kernel
    | (with_reducible apply Keeps.next (readWords_keeps ..)); decide +kernel
    | with_reducible apply Keeps.foldl
    | (intro _; beta_reduce)
    | split
    | dsimp only

theorem windowWrite_keeps (w : ℕ) (path : ℕ) (off : ℕ) (ds : List (ℕ × ℕ)) (s : Sys2Proof.Machine.State) : Keeps 0xffffffffffffffffffffffffffffffffffffffffffffffffffffffffffffffffffffffffffffffffffffffffffffffff s (windowWrite w path off ds s) := by
  unfold windowWrite
  repeat' first
    | with_reducible exact Keeps.refl _ _
    | with_reducible apply Keeps.ite
    | (with_reducible apply Keeps.next (accessError_keeps ..)); decide +kernel
    | (with_reducible apply Keeps.next (State.emit_keeps ..)); decide +kernel
    | (with_reducible apply Keeps.next (writeWords_keeps ..)); decide +kernel
    | with_reducible apply Keeps.foldl
    | (intro _; beta_reduce)
    | split
    | dsimp only

theorem registerRead_keeps (w : ℕ) (path : ℕ) (off : ℕ) (bes : List ℕ) (s : Sys2Proof.Machine.State) : Keeps 0xffffffffffffffffffffffffffffffffffffffffffffffffffffffffffffffffffffffffffffffff0000000000000014 s (registerRead w path off bes s) := by
  unfold registerRead
  repeat' first
    | with_reducible exact Keeps.refl _ _
    | with_reducible apply Keeps.ite
    | (with_reducible apply Keeps.next (windowRead_keeps ..)); decide +kernel
    | (with_reducible apply Keeps.next (State.emit_keeps ..)); decide +kernel
    | with_reducible apply Keeps.foldl
    | (intro _; beta_reduce)
    | split
    | dsimp only

end Sys2Proof.Machine
end

