-- ==== Sys2Proof/Laws/KeepsDeliver.lean ====
section
/-!
SUPPORT. What each operation of Machine/Deliver.lean may change.
-/
namespace Sys2Proof.Machine
set_option linter.unusedTactic false
set_option linter.unreachableTactic false
set_option Elab.async false

theorem mgmtAnswer_keeps (w : ℕ) (f : ℕ) (kind : ℕ) (val : ℕ) (p : Sys2Proof.Packet) (bs : List ℕ) (s : Sys2Proof.Machine.State) : Keeps 0x80000 s (mgmtAnswer w f kind val p bs s) := by
  unfold mgmtAnswer
  repeat' first
    | with_reducible exact Keeps.refl _ _
    | with_reducible apply Keeps.ite
    | (with_reducible apply Keeps.next (enqueue_keeps ..)); decide +kernel
    | with_reducible apply Keeps.foldl
    | (intro _; beta_reduce)
    | split
    | dsimp only

theorem mgmtRead_keeps (w : ℕ) (f : ℕ) (p : Sys2Proof.Packet) (s : Sys2Proof.Machine.State) : Keeps 0xffffffffffffffffffffffffffffffffffffffffffffffffffffffffffffffffffffffffffffffff0000000000080014 s (mgmtRead w f p s) := by
  unfold mgmtRead
  repeat' first
    | with_reducible exact Keeps.refl _ _
    | with_reducible apply Keeps.ite
    | (with_reducible apply Keeps.next (mgmtAnswer_keeps ..)); decide +kernel
    | (with_reducible apply Keeps.next (accessError_keeps ..)); decide +kernel
    | (with_reducible apply Keeps.next (readWords_keeps ..)); decide +kernel
    | with_reducible apply Keeps.foldl
    | (intro _; beta_reduce)
    | split
    | dsimp only

theorem mgmtWrite_keeps (w : ℕ) (f : ℕ) (p : Sys2Proof.Packet) (s : Sys2Proof.Machine.State) : Keeps 0xffffffffffffffffffffffffffffffffffffffffffffffffffffffffffffffffffffffffffffffffffffffffffffffff s (mgmtWrite w f p s) := by
  unfold mgmtWrite
  repeat' first
    | with_reducible exact Keeps.refl _ _
    | with_reducible apply Keeps.ite
    | (with_reducible apply Keeps.next (mgmtAnswer_keeps ..)); decide +kernel
    | (with_reducible apply Keeps.next (accessError_keeps ..)); decide +kernel
    | (with_reducible apply Keeps.next (writeWords_keeps ..)); decide +kernel
    | with_reducible apply Keeps.foldl
    | (intro _; beta_reduce)
    | split
    | dsimp only

theorem deliverMgmt_keeps (w : ℕ) (f : ℕ) (p : Sys2Proof.Packet) (s : Sys2Proof.Machine.State) : Keeps 0xffffffffffffffffffffffffffffffffffffffffffffffffffffffffffffffffffffffffffffffffffffffffffffffff s (deliverMgmt w f p s) := by
  unfold deliverMgmt
  repeat' first
    | with_reducible exact Keeps.refl _ _
    | with_reducible apply Keeps.ite
    | (with_reducible apply Keeps.next (mgmtWrite_keeps ..)); decide +kernel
    | (with_reducible apply Keeps.next (State.emit_keeps ..)); decide +kernel
    | (with_reducible apply Keeps.next (mgmtRead_keeps ..)); decide +kernel
    | with_reducible apply Keeps.foldl
    | (intro _; beta_reduce)
    | split
    | dsimp only

theorem deliverAny_keeps (w : ℕ) (f : ℕ) (now : Sys2Proof.Packet) (ecc : Sys2Proof.Ecc) (p : Sys2Proof.Packet) (s : Sys2Proof.Machine.State) : Keeps 0xffffffffffffffffffffffffffffffffffffffffffffffffffffffffffffffffffffffffffffffffffffffffffffffff s (deliverAny w f now ecc p s) := by
  unfold deliverAny
  repeat' first
    | with_reducible exact Keeps.refl _ _
    | with_reducible apply Keeps.ite
    | (with_reducible apply Keeps.next (deliverData_keeps ..)); decide +kernel
    | (with_reducible apply Keeps.next (deliverMgmt_keeps ..)); decide +kernel
    | with_reducible apply Keeps.foldl
    | (intro _; beta_reduce)
    | split
    | dsimp only

theorem arrives_keeps (w : ℕ) (f : ℕ) (typ : ℕ) (p : Sys2Proof.Packet) (ecc : Sys2Proof.Ecc) (s : Sys2Proof.Machine.State) : Keeps 0xffffffffffffffffffffffffffffffffffffffffffffffffffffffffffffffffffffffffffffffffffffffffffffffff s (arrives w f typ p ecc s) := by
  unfold arrives
  repeat' first
    | with_reducible exact Keeps.refl _ _
    | with_reducible apply Keeps.ite
    | (with_reducible apply Keeps.next (deliverAny_keeps ..)); decide +kernel
    | (with_reducible apply arrive_keeps); decide +kernel; skip
    | with_reducible apply Keeps.foldl
    | (intro _; beta_reduce)
    | split
    | dsimp only

theorem mgmtArrives_keeps (w : ℕ) (f : ℕ) (kind : ℕ) (p : Sys2Proof.Packet) (s : Sys2Proof.Machine.State) : Keeps 0xffffffffffffffffffffffffffffffffffffffffffffffffffffffffffffffffffffffffffffffffffffffffffffffff s (mgmtArrives w f kind p s) := by
  unfold mgmtArrives
  repeat' first
    | with_reducible exact Keeps.refl _ _
    | with_reducible apply Keeps.ite
    | (with_reducible apply Keeps.next (arrives_keeps ..)); decide +kernel
    | with_reducible apply Keeps.foldl
    | (intro _; beta_reduce)
    | split
    | dsimp only

theorem answerArrives_keeps {w : ℕ} {f : ℕ} {typ : ℕ} {g : Sys2Proof.Packet → Sys2Proof.Machine.State → Sys2Proof.Machine.State} {p : Sys2Proof.Packet} {M : Nat} (hm : 0x14c004600000000000000000000000000000000000000000000000034000000000000000000000010 ||| M = M) (hg : ∀ x0 t, Keeps M t (g x0 t)) {s0 s1 : State} (h : Keeps M s0 s1) : Keeps M s0 (answerArrives w f typ g p s1) := by
  unfold answerArrives
  repeat' first
    | with_reducible exact h
    | with_reducible apply Keeps.next (hg ..) (sub_refl _)
    | with_reducible exact Keeps.refl _ _
    | with_reducible apply Keeps.ite
    | (with_reducible apply Keeps.next (dropPacket_keeps ..)); exact sub_trans (by decide +kernel) hm
    | with_reducible apply Keeps.foldl
    | (intro _; beta_reduce)
    | split
    | dsimp only

end Sys2Proof.Machine
end

