-- ==== Sys2Proof/Laws/KeepsPorts.lean ====
section
/-!
SUPPORT. What each operation of Machine/Ports.lean may change.
-/
namespace Sys2Proof.Machine
set_option linter.unusedTactic false
set_option linter.unreachableTactic false
set_option Elab.async false

theorem tgtEnd_keeps (w : ℕ) (result : ℕ) (s : Sys2Proof.Machine.State) : Keeps 0x6000000000000000000000000000000000000000000000000000000000000000000000000000000000000000 s (tgtEnd w result s) := by
  unfold tgtEnd
  repeat' first
    | with_reducible exact Keeps.refl _ _
    | with_reducible apply Keeps.ite
    | (with_reducible apply Keeps.next (State.wr_keeps ..)); decide +kernel
    | (with_reducible apply Keeps.next (State.bump_keeps ..)); decide +kernel
    | with_reducible apply Keeps.foldl
    | (intro _; beta_reduce)
    | split
    | dsimp only

theorem smcWake_keeps (w : ℕ) (us : ℕ) (s : Sys2Proof.Machine.State) : Keeps 0x2000000000000000000000000000000000000000000000000000000000000000000000000000080000000000 s (smcWake w us s) := by
  unfold smcWake
  repeat' first
    | with_reducible exact Keeps.refl _ _
    | with_reducible apply Keeps.ite
    | (with_reducible apply Keeps.next (State.wrSat_keeps ..)); decide +kernel
    | (with_reducible apply Keeps.next (State.modTwis_keeps ..)); decide +kernel
    | with_reducible apply Keeps.foldl
    | (intro _; beta_reduce)
    | split
    | dsimp only

theorem tgtWrite_keeps (w : ℕ) (bs : List ℕ) (s : Sys2Proof.Machine.State) : Keeps 0xffffffffffffffffffffffffffffffffffffffffffffffffffffffffffffffffffffffffffffffffffffffffffffffff s (tgtWrite w bs s) := by
  unfold tgtWrite
  repeat' first
    | with_reducible exact Keeps.refl _ _
    | with_reducible apply Keeps.ite
    | (with_reducible apply Keeps.next (State.wr_keeps ..)); decide +kernel
    | (with_reducible apply Keeps.next (tgtEnd_keeps ..)); decide +kernel
    | (with_reducible apply Keeps.next (State.modTwis_keeps ..)); decide +kernel
    | (with_reducible apply Keeps.next (windowWrite_keeps ..)); decide +kernel
    | with_reducible apply Keeps.foldl
    | (intro _; beta_reduce)
    | split
    | dsimp only

theorem twiWrite_keeps (w : ℕ) (cmd : ℕ) (bs : List ℕ) (pec : Option ℕ) (us : ℕ) (s : Sys2Proof.Machine.State) : Keeps 0xffffffffffffffffffffffffffffffffffffffffffffffffffffffffffffffffffffffffffffffffffffffffffffffff s (twiWrite w cmd bs pec us s) := by
  unfold twiWrite
  repeat' first
    | with_reducible exact Keeps.refl _ _
    | with_reducible apply Keeps.ite
    | (with_reducible apply Keeps.next (smcWake_keeps ..)); decide +kernel
    | (with_reducible apply Keeps.next (tgtEnd_keeps ..)); decide +kernel
    | (with_reducible apply Keeps.next (tgtWrite_keeps ..)); decide +kernel
    | with_reducible apply Keeps.foldl
    | (intro _; beta_reduce)
    | split
    | dsimp only

theorem twiRead_keeps (w : ℕ) (bs : List ℕ) (us : ℕ) (s : Sys2Proof.Machine.State) : Keeps 0xffffffffffffffffffffffffffffffffffffffffffffffffffffffffffffffffffffffffffffffff0000080000000014 s (twiRead w bs us s) := by
  unfold twiRead
  repeat' first
    | with_reducible exact Keeps.refl _ _
    | with_reducible apply Keeps.ite
    | (with_reducible apply Keeps.next (smcWake_keeps ..)); decide +kernel
    | (with_reducible apply Keeps.next (tgtEnd_keeps ..)); decide +kernel
    | (with_reducible apply Keeps.next (windowRead_keeps ..)); decide +kernel
    | (with_reducible apply Keeps.next (State.emit_keeps ..)); decide +kernel
    | with_reducible apply Keeps.foldl
    | (intro _; beta_reduce)
    | split
    | dsimp only

theorem scan_keeps {w : ℕ} {g : Sys2Proof.Machine.State → Sys2Proof.Machine.State} {M : Nat} (hm : 0x100000000000000000000000000000000000000000000000000000000000000000000000000000000000000000 ||| M = M) (hg : ∀ t, Keeps M t (g t)) {s0 s1 : State} (h : Keeps M s0 s1) : Keeps M s0 (scan w g s1) := by
  unfold scan
  repeat' first
    | with_reducible exact h
    | with_reducible apply Keeps.next (hg ..) (sub_refl _)
    | with_reducible exact Keeps.refl _ _
    | with_reducible apply Keeps.ite
    | (with_reducible apply Keeps.next (State.wr_keeps ..)); exact sub_trans (by decide +kernel) hm
    | with_reducible apply Keeps.foldl
    | (intro _; beta_reduce)
    | split
    | dsimp only

theorem setIr_keeps (w : ℕ) (ir : ℕ) (s : Sys2Proof.Machine.State) : Keeps 0x80000000000 s (setIr w ir s) := by
  unfold setIr
  repeat' first
    | with_reducible exact Keeps.refl _ _
    | with_reducible apply Keeps.ite
    | (with_reducible apply Keeps.next (State.modTwis_keeps ..)); decide +kernel
    | with_reducible apply Keeps.foldl
    | (intro _; beta_reduce)
    | split
    | dsimp only

theorem jtagBypass_keeps (w : ℕ) (ir : ℕ) (s : Sys2Proof.Machine.State) : Keeps 0x100000000000000000000000000000000000000000000000000000000000000000000000000000080000000000 s (jtagBypass w ir s) := by
  unfold jtagBypass
  repeat' first
    | with_reducible exact Keeps.refl _ _
    | with_reducible apply Keeps.ite
    | (with_reducible apply scan_keeps); decide +kernel; skip
    | (with_reducible apply Keeps.next (setIr_keeps ..)); decide +kernel
    | (with_reducible apply Keeps.next (State.emit_keeps ..)); decide +kernel
    | with_reducible apply Keeps.foldl
    | (intro _; beta_reduce)
    | split
    | dsimp only

theorem dpResult_keeps (w : ℕ) (ack : ℕ) (op : ℕ) (data : ℕ) (s : Sys2Proof.Machine.State) : Keeps 0x80000000000 s (dpResult w ack op data s) := by
  unfold dpResult
  repeat' first
    | with_reducible exact Keeps.refl _ _
    | with_reducible apply Keeps.ite
    | (with_reducible apply Keeps.next (State.modTwis_keeps ..)); decide +kernel
    | with_reducible apply Keeps.foldl
    | (intro _; beta_reduce)
    | split
    | dsimp only

theorem dpacc_keeps (w : ℕ) (op : ℕ) (off : ℕ) (v : ℕ) (early : Bool) (s : Sys2Proof.Machine.State) : Keeps 0xffffffffffffffffffffffffffffffffffffffffffffffffffffffffffffffffffffffffffffffffffffffffffffffff s (dpacc w op off v early s) := by
  unfold dpacc
  repeat' first
    | with_reducible exact Keeps.refl _ _
    | with_reducible apply Keeps.ite
    | (with_reducible apply scan_keeps); decide +kernel; skip
    | (with_reducible apply Keeps.next (dpResult_keeps ..)); decide +kernel
    | (with_reducible apply Keeps.next (setIr_keeps ..)); decide +kernel
    | (with_reducible apply Keeps.next (windowRead_keeps ..)); decide +kernel
    | (with_reducible apply Keeps.next (State.emit_keeps ..)); decide +kernel
    | (with_reducible apply Keeps.next (windowWrite_keeps ..)); decide +kernel
    | with_reducible apply Keeps.foldl
    | (intro _; beta_reduce)
    | split
    | dsimp only

end Sys2Proof.Machine
end

