-- ==== Sys2Proof/Laws/KeepsTrays.lean ====
section
/-!
SUPPORT. What each operation of Machine/Trays.lean may change.
-/
namespace Sys2Proof.Machine
set_option linter.unusedTactic false
set_option linter.unreachableTactic false
set_option Elab.async false

theorem readUnit_keeps (rs : List Sys2Proof.Machine.Reg) (u : ℕ) (off : ℕ) (s : Sys2Proof.Machine.State) : Keeps 0xffffffffffffffffffffffffffffffffffffffffffffffffffffffffffffffffffffffffffffffff0000000000000000 s (readUnit rs u off s).2 := by
  unfold readUnit
  try dsimp only
  repeat' first
    | with_reducible exact Keeps.refl _ _
    | with_reducible apply Keeps.ite
    | (with_reducible apply Keeps.next (State.setReg_keeps ..)); (first | decide +kernel | exact sub_right _ _ | exact sub_refl _ | exact sub_left (by decide +kernel) | exact regBit_sub (by decide +kernel) _ | exact sub_or (by decide +kernel) (regBit_sub (by decide +kernel) _))
    | (with_reducible apply Keeps.next (State.fresh_keeps ..)); (first | decide +kernel | exact sub_right _ _ | exact sub_refl _ | exact sub_left (by decide +kernel) | exact regBit_sub (by decide +kernel) _ | exact sub_or (by decide +kernel) (regBit_sub (by decide +kernel) _))
    | with_reducible apply Keeps.foldl
    | (intro _; beta_reduce)
    | split
    | dsimp only

theorem b72ActCtl_keeps (c : ℕ) (v : ℕ) (s : Sys2Proof.Machine.State) : Keeps 0xc0000000000000000000000000000000000000000000000000000000000000000000000000000000000002 s (b72ActCtl c v s) := by
  unfold b72ActCtl
  repeat' first
    | with_reducible exact Keeps.refl _ _
    | with_reducible apply State.when_keeps
    | with_reducible apply Keeps.ite
    | (with_reducible apply Keeps.next (State.wr_keeps ..)); decide +kernel
    | (with_reducible apply Keeps.next (State.setChipActState_keeps ..)); decide +kernel
    | (with_reducible apply Keeps.next (storeReg_keeps ..)); decide +kernel
    | with_reducible apply Keeps.foldl
    | (intro _; beta_reduce)
    | split
    | dsimp only

theorem chipTable_keeps {c : ℕ} {act : ℕ} {g : Sys2Proof.Machine.State → Sys2Proof.Machine.State} {M : Nat} (hm : 0x100000000000000000000000000000000000000000000000000000000000000000000000000000000000000 ||| M = M) (hg : ∀ t, Keeps M t (g t)) {s0 s1 : State} (h : Keeps M s0 s1) : Keeps M s0 (chipTable c act g s1) := by
  unfold chipTable
  repeat' first
    | with_reducible exact h
    | with_reducible apply Keeps.next (hg ..) (sub_refl _)
    | with_reducible exact Keeps.refl _ _
    | with_reducible apply Keeps.ite
    | (with_reducible apply Keeps.next (State.bump_keeps ..)); exact sub_trans (by decide +kernel) hm
    | with_reducible apply Keeps.foldl
    | (intro _; beta_reduce)
    | split
    | dsimp only

theorem writeUnit_keeps (rs : List Sys2Proof.Machine.Reg) (u : ℕ) (off : ℕ) (v : ℕ) (s : Sys2Proof.Machine.State) : Keeps 0xffffffffffffffffffffffffffffffffffffffffffffffffffffffffffffffffffffffffffffffff0000000000000002 s (writeUnit rs u off v s) := by
  unfold writeUnit
  repeat' first
    | with_reducible exact Keeps.refl _ _
    | with_reducible apply Keeps.ite
    | (with_reducible apply Keeps.next (storeReg_keeps ..)); (first | decide +kernel | exact sub_right _ _ | exact sub_refl _ | exact sub_left (by decide +kernel) | exact regBit_sub (by decide +kernel) _ | exact sub_or (by decide +kernel) (regBit_sub (by decide +kernel) _))
    | (with_reducible apply Keeps.next (b72ActCtl_keeps ..)); (first | decide +kernel | exact sub_right _ _ | exact sub_refl _ | exact sub_left (by decide +kernel) | exact regBit_sub (by decide +kernel) _ | exact sub_or (by decide +kernel) (regBit_sub (by decide +kernel) _))
    | (with_reducible apply Keeps.next (State.wr_keeps ..)); (first | decide +kernel | exact sub_right _ _ | exact sub_refl _ | exact sub_left (by decide +kernel) | exact regBit_sub (by decide +kernel) _ | exact sub_or (by decide +kernel) (regBit_sub (by decide +kernel) _))
    | (with_reducible apply chipTable_keeps); (first | decide +kernel | exact sub_right _ _ | exact sub_refl _ | exact sub_left (by decide +kernel) | exact regBit_sub (by decide +kernel) _ | exact sub_or (by decide +kernel) (regBit_sub (by decide +kernel) _)); skip
    | with_reducible apply Keeps.foldl
    | (intro _; beta_reduce)
    | split
    | dsimp only

theorem readUnits_keeps (rs : List Reg) (u n off : Nat) (s : State) : Keeps 0xffffffffffffffffffffffffffffffffffffffffffffffffffffffffffffffffffffffffffffffff0000000000000000 s (readUnits rs u n off s).2 := by
  induction n generalizing off s with
  | zero => exact Keeps.refl _ _
  | succ n ih => exact Keeps.next (ih _ _) (sub_refl _) (Keeps.widen (readUnit_keeps ..) (by decide +kernel))

theorem onUnit_keeps (rs : List Sys2Proof.Machine.Reg) (u : ℕ) (x : Sys2Proof.Machine.Frame) (s : Sys2Proof.Machine.State) : Keeps 0xffffffffffffffffffffffffffffffffffffffffffffffffffffffffffffffffffffffffffffffff0000000000000002 s (onUnit rs u x s).2.2 := by
  unfold onUnit
  try dsimp only
  repeat' first
    | with_reducible exact Keeps.refl _ _
    | with_reducible apply forEach_keeps
    | with_reducible apply Keeps.ite
    | (with_reducible apply Keeps.next (readUnits_keeps ..)); decide +kernel
    | (with_reducible apply Keeps.next (writeUnit_keeps ..)); decide +kernel
    | with_reducible apply Keeps.foldl
    | (intro _; beta_reduce)
    | split
    | dsimp only

theorem carryOut_keeps (u : ℕ) (x : Sys2Proof.Machine.Frame) (s : Sys2Proof.Machine.State) : Keeps 0xffffffffffffffffffffffffffffffffffffffffffffffffffffffffffffffffffffffffffffffffffffffffffffffff s (carryOut u x s).2.2 := by
  unfold carryOut
  try dsimp only
  repeat' first
    | with_reducible exact Keeps.refl _ _
    | with_reducible apply Keeps.ite
    | (with_reducible apply Keeps.next (State.withFreeCtr_keeps _ _ (Nat.le_add_right _ _)) (sub_zero _))
    | (with_reducible apply Keeps.next (onUnit_keeps ..)); decide +kernel
    | (with_reducible apply Keeps.next (windowRead_keeps ..)); decide +kernel
    | (with_reducible apply Keeps.next (windowWrite_keeps ..)); decide +kernel
    | with_reducible apply Keeps.foldl
    | (intro _; beta_reduce)
    | split
    | dsimp only

theorem keepResponse_keeps (u : ℕ) (sender : ℕ) (seq : ℕ) (bs : List ℕ) (s : Sys2Proof.Machine.State) : Keeps 0x100000000000 s (keepResponse u sender seq bs s) := by
  unfold keepResponse
  repeat' first
    | with_reducible exact Keeps.refl _ _
    | with_reducible apply Keeps.ite
    | (with_reducible apply Keeps.next (State.putTafKept_keeps ..)); decide +kernel
    | with_reducible apply Keeps.foldl
    | (intro _; beta_reduce)
    | split
    | dsimp only

theorem request_keeps (u : ℕ) (typ : ℕ) (sender : ℕ) (bs : List ℕ) (s : Sys2Proof.Machine.State) : Keeps 0xffffffffffffffffffffffffffffffffffffffffffffffffffffffffffffffffffffffffffffffffffffffffffffffff s (request u typ sender bs s) := by
  unfold request
  repeat' first
    | with_reducible exact Keeps.refl _ _
    | with_reducible apply Keeps.ite
    | (with_reducible apply Keeps.next (State.emit_keeps ..)); decide +kernel
    | (with_reducible apply Keeps.next (keepResponse_keeps ..)); decide +kernel
    | (with_reducible apply Keeps.next (carryOut_keeps ..)); decide +kernel
    | with_reducible apply Keeps.foldl
    | (intro _; beta_reduce)
    | split
    | dsimp only

theorem response_keeps (u : ℕ) (bs : List ℕ) (s : Sys2Proof.Machine.State) : Keeps 0x1008000000000 s (response u bs s) := by
  unfold response
  repeat' first
    | with_reducible exact Keeps.refl _ _
    | with_reducible apply Keeps.ite
    | (with_reducible apply Keeps.next (State.modPlanner_keeps ..)); decide +kernel
    | (with_reducible apply Keeps.next (State.modTmcs_keeps ..)); decide +kernel
    | with_reducible apply Keeps.foldl
    | (intro _; beta_reduce)
    | split
    | dsimp only

theorem event_keeps (t : ℕ) (bs : List ℕ) (s : Sys2Proof.Machine.State) : Keeps 0x1000000000000 s (event t bs s) := by
  unfold event
  repeat' first
    | with_reducible exact Keeps.refl _ _
    | with_reducible apply Keeps.ite
    | (with_reducible apply Keeps.next (State.modPlanner_keeps ..)); decide +kernel
    | (with_reducible apply Keeps.next (State.emit_keeps ..)); decide +kernel
    | with_reducible apply Keeps.foldl
    | (intro _; beta_reduce)
    | split
    | dsimp only

theorem retry_keeps (u : ℕ) (number : ℕ) (s : Sys2Proof.Machine.State) : Keeps 0x1008000000000 s (retry u number s) := by
  unfold retry
  repeat' first
    | with_reducible exact Keeps.refl _ _
    | with_reducible apply Keeps.ite
    | (with_reducible apply Keeps.next (State.modPlanner_keeps ..)); decide +kernel
    | (with_reducible apply Keeps.next (State.modTmcs_keeps ..)); decide +kernel
    | (with_reducible apply Keeps.next (State.emit_keeps ..)); decide +kernel
    | with_reducible apply Keeps.foldl
    | (intro _; beta_reduce)
    | split
    | dsimp only

theorem sidebandChange_keeps (t : ℕ) (port : ℕ) (pair : ℕ) (s : Sys2Proof.Machine.State) : Keeps 0x8000000000 s (sidebandChange t port pair s) := by
  unfold sidebandChange
  repeat' first
    | with_reducible exact Keeps.refl _ _
    | with_reducible apply Keeps.ite
    | (with_reducible apply Keeps.next (State.putTmcs_keeps ..)); decide +kernel
    | (with_reducible apply Keeps.next (sendEvent_keeps ..)); decide +kernel
    | with_reducible apply Keeps.foldl
    | (intro _; beta_reduce)
    | split
    | dsimp only

theorem attnNChange_keeps (w : ℕ) (s : Sys2Proof.Machine.State) : Keeps 0x8000000000 s (attnNChange w s) := by
  unfold attnNChange
  repeat' first
    | with_reducible exact Keeps.refl _ _
    | with_reducible apply Keeps.ite
    | (with_reducible apply Keeps.next (State.putTmcs_keeps ..)); decide +kernel
    | (with_reducible apply Keeps.next (sendEvent_keeps ..)); decide +kernel
    | with_reducible apply Keeps.foldl
    | (intro _; beta_reduce)
    | split
    | dsimp only

theorem presenceChange_keeps (t : ℕ) (pos : ℕ) (present : Bool) (r : List ℕ) (s : Sys2Proof.Machine.State) : Keeps 0x8000000000 s (presenceChange t pos present r s) := by
  unfold presenceChange
  repeat' first
    | with_reducible exact Keeps.refl _ _
    | with_reducible apply Keeps.ite
    | (with_reducible apply Keeps.next (State.putTmcs_keeps ..)); decide +kernel
    | (with_reducible apply Keeps.next (sendEvent_keeps ..)); decide +kernel
    | with_reducible apply Keeps.foldl
    | (intro _; beta_reduce)
    | split
    | dsimp only

theorem tmcStart_keeps (t : ℕ) (s : Sys2Proof.Machine.State) : Keeps 0xffffffffffffffffffffffffffffffffffffffffffffffffffffffffffffffffffffffffffffffffffffffffffffffff s (tmcStart t s) := by
  unfold tmcStart
  repeat' first
    | with_reducible exact Keeps.refl _ _
    | with_reducible apply Keeps.ite
    | (with_reducible apply Keeps.next (State.modTmcs_keeps ..)); decide +kernel
    | (with_reducible apply Keeps.next (State.fresh_keeps ..)); decide +kernel
    | (with_reducible apply Keeps.next (State.putTafKept_keeps ..)); decide +kernel
    | (with_reducible apply Keeps.next (sendEvent_keeps ..)); decide +kernel
    | (with_reducible apply Keeps.next (windowWrite_keeps ..)); decide +kernel
    | with_reducible apply Keeps.foldl
    | (intro _; beta_reduce)
    | split
    | dsimp only

theorem switchTrayOn_keeps (k : ℕ) (s : Sys2Proof.Machine.State) : Keeps 0xffffffffffffffffffffffffffffffffffffffffffffffffffffffffffffffffffffffffffffffff0001008000220000 s (switchTrayOn k s) := by
  unfold switchTrayOn
  repeat' first
    | with_reducible exact Keeps.refl _ _
    | with_reducible apply Keeps.ite
    | (with_reducible apply Keeps.next (State.modTmcs_keeps ..)); decide +kernel
    | (with_reducible apply Keeps.next (chipStart_keeps ..)); decide +kernel
    | with_reducible apply Keeps.foldl
    | (intro _; beta_reduce)
    | split
    | dsimp only

theorem standbyRailUp_keeps (t : ℕ) (bus : ℕ) (s : Sys2Proof.Machine.State) : Keeps 0xffffffffffffffffffffffffffffffffffffffffffffffffffffffffffffffffffffffffffffffffffffffffffffffff s (standbyRailUp t bus s) := by
  unfold standbyRailUp
  repeat' first
    | with_reducible exact Keeps.refl _ _
    | with_reducible apply Keeps.ite
    | (with_reducible apply Keeps.next (coldStart_keeps ..)); decide +kernel
    | (with_reducible apply Keeps.next (switchTrayOn_keeps ..)); decide +kernel
    | (with_reducible apply Keeps.next (State.modWafers_keeps ..)); decide +kernel
    | (with_reducible apply Keeps.next (tmcStart_keeps ..)); decide +kernel
    | with_reducible apply Keeps.foldl
    | (intro _; beta_reduce)
    | split
    | dsimp only

theorem State.modSpots_keeps (s : Sys2Proof.Machine.State) (k : ℕ) (g : Sys2Proof.Machine.Spot → Sys2Proof.Machine.Spot) : Keeps 0x40000000000 s (State.modSpots s k g) := by
  unfold State.modSpots
  repeat' first
    | with_reducible exact Keeps.refl _ _
    | with_reducible apply Keeps.ite
    | (with_reducible apply Keeps.next (State.putSpots_keeps ..)); decide +kernel
    | with_reducible apply Keeps.foldl
    | (intro _; beta_reduce)
    | split
    | dsimp only

theorem setSpot_keeps (u : ℕ) (on : Bool) (s : Sys2Proof.Machine.State) : Keeps 0x240000000000 s (setSpot u on s) := by
  unfold setSpot
  repeat' first
    | with_reducible exact Keeps.refl _ _
    | with_reducible apply Keeps.ite
    | (with_reducible apply Keeps.next (State.modSpots_keeps ..)); decide +kernel
    | (with_reducible apply Keeps.next (State.putEtags_keeps ..)); decide +kernel
    | with_reducible apply Keeps.foldl
    | (intro _; beta_reduce)
    | split
    | dsimp only

theorem spotButton_keeps (u : ℕ) (s : Sys2Proof.Machine.State) : Keeps 0x240000000000 s (spotButton u s) := by
  unfold spotButton
  repeat' first
    | with_reducible exact Keeps.refl _ _
    | with_reducible apply Keeps.ite
    | (with_reducible apply Keeps.next (setSpot_keeps ..)); decide +kernel
    | with_reducible apply Keeps.foldl
    | (intro _; beta_reduce)
    | split
    | dsimp only

theorem spotTimeout_keeps (u : ℕ) (s : Sys2Proof.Machine.State) : Keeps 0x240000000000 s (spotTimeout u s) := by
  unfold spotTimeout
  repeat' first
    | with_reducible exact Keeps.refl _ _
    | with_reducible apply Keeps.ite
    | (with_reducible apply Keeps.next (setSpot_keeps ..)); decide +kernel
    | with_reducible apply Keeps.foldl
    | (intro _; beta_reduce)
    | split
    | dsimp only

end Sys2Proof.Machine
end

