-- ==== Sys2Proof/Laws/KeepsFirmware.lean ====
section
/-!
SUPPORT. What each operation of Machine/Firmware.lean may change.
-/
namespace Sys2Proof.Machine
set_option linter.unusedTactic false
set_option linter.unreachableTactic false
set_option Elab.async false

theorem fwShow_keeps (part : ℕ) (unit : ℕ) (s : Sys2Proof.Machine.State) : Keeps 0x18000000000000000000000000000000000000000000000000000000000000000000400000000000000000 s (fwShow part unit s) := by
  unfold fwShow
  repeat' first
    | with_reducible exact Keeps.refl _ _
    | with_reducible apply Keeps.ite
    | (with_reducible apply Keeps.next (fwSync_keeps ..)); decide +kernel
    | with_reducible apply Keeps.foldl
    | (intro _; beta_reduce)
    | split
    | dsimp only

theorem fwInstall_keeps (part : ℕ) (unit : ℕ) (slot : ℕ) (ver : ℕ) (digest : List ℕ) (s : Sys2Proof.Machine.State) : Keeps 0x18000000000000000000000000000000000000000000000000000000000000000000400000020000000000 s (fwInstall part unit slot ver digest s) := by
  unfold fwInstall
  repeat' first
    | with_reducible exact Keeps.refl _ _
    | with_reducible apply Keeps.ite
    | (with_reducible apply Keeps.next (fwShow_keeps ..)); decide +kernel
    | (with_reducible apply Keeps.next (State.modFws_keeps ..)); decide +kernel
    | with_reducible apply Keeps.foldl
    | (intro _; beta_reduce)
    | split
    | dsimp only

theorem modTasks_keeps (part : ℕ) (unit : ℕ) (g : Sys2Proof.Machine.Task → Sys2Proof.Machine.Task) (s : Sys2Proof.Machine.State) : Keeps 0x1000000000000 s (modTasks part unit g s) := by
  unfold modTasks
  repeat' first
    | with_reducible exact Keeps.refl _ _
    | with_reducible apply Keeps.ite
    | (with_reducible apply Keeps.next (State.modPlanner_keeps ..)); decide +kernel
    | with_reducible apply Keeps.foldl
    | (intro _; beta_reduce)
    | split
    | dsimp only

theorem fwPending_keeps (part : ℕ) (unit : ℕ) (slot : ℕ) (s : Sys2Proof.Machine.State) : Keeps 0x1000000000000 s (fwPending part unit slot s) := by
  unfold fwPending
  repeat' first
    | with_reducible exact Keeps.refl _ _
    | with_reducible apply Keeps.ite
    | (with_reducible apply Keeps.next (State.modPlanner_keeps ..)); decide +kernel
    | (with_reducible apply Keeps.next (modTasks_keeps ..)); decide +kernel
    | with_reducible apply Keeps.foldl
    | (intro _; beta_reduce)
    | split
    | dsimp only

theorem partStart_keeps (part : ℕ) (unit : ℕ) (s : Sys2Proof.Machine.State) : Keeps 0xffffffffffffffffffffffffffffffffffffffffffffffffffffffffffffffffffffffffffffffffffffffffffffffff s (partStart part unit s) := by
  unfold partStart
  repeat' first
    | with_reducible exact Keeps.refl _ _
    | with_reducible apply Keeps.ite
    | (with_reducible apply Keeps.next (State.wr_keeps ..)); decide +kernel
    | (with_reducible apply Keeps.next (tmcStart_keeps ..)); decide +kernel
    | (with_reducible apply Keeps.next (State.modShelves_keeps ..)); decide +kernel
    | (with_reducible apply Keeps.next (shelfSync_keeps ..)); decide +kernel
    | (with_reducible apply Keeps.next (chipStart_keeps ..)); decide +kernel
    | with_reducible apply Keeps.foldl
    | (intro _; beta_reduce)
    | split
    | dsimp only

theorem activateSlot_keeps (part : ℕ) (unit : ℕ) (slot : ℕ) (s : Sys2Proof.Machine.State) : Keeps 0xffffffffffffffffffffffffffffffffffffffffffffffffffffffffffffffffffffffffffffffffffffffffffffffff s (activateSlot part unit slot s) := by
  unfold activateSlot
  repeat' first
    | with_reducible exact Keeps.refl _ _
    | with_reducible apply Keeps.ite
    | (with_reducible apply Keeps.next (State.modPlanner_keeps ..)); decide +kernel
    | (with_reducible apply Keeps.next (fwShow_keeps ..)); decide +kernel
    | (with_reducible apply Keeps.next (partStart_keeps ..)); decide +kernel
    | (with_reducible apply Keeps.next (fwPending_keeps ..)); decide +kernel
    | (with_reducible apply Keeps.next (modTasks_keeps ..)); decide +kernel
    | (with_reducible apply Keeps.next (State.modFws_keeps ..)); decide +kernel
    | with_reducible apply Keeps.foldl
    | (intro _; beta_reduce)
    | split
    | dsimp only

theorem activateIn_keeps (part : ℕ) (unit : ℕ) (st : ℕ) (s : Sys2Proof.Machine.State) : Keeps 0xffffffffffffffffffffffffffffffffffffffffffffffffffffffffffffffffffffffffffffffffffffffffffffffff s (activateIn part unit st s) := by
  unfold activateIn
  repeat' first
    | with_reducible exact Keeps.refl _ _
    | with_reducible apply Keeps.ite
    | (with_reducible apply Keeps.next (activateSlot_keeps ..)); decide +kernel
    | with_reducible apply Keeps.foldl
    | (intro _; beta_reduce)
    | split
    | dsimp only

theorem fwWritten_keeps (part : ℕ) (unit : ℕ) (digest : List ℕ) (s : Sys2Proof.Machine.State) : Keeps 0xffffffffffffffffffffffffffffffffffffffffffffffffffffffffffffffffffffffffffffffffffffffffffffffff s (fwWritten part unit digest s) := by
  unfold fwWritten
  repeat' first
    | with_reducible exact Keeps.refl _ _
    | with_reducible apply Keeps.ite
    | (with_reducible apply Keeps.next (State.putFws_keeps ..)); decide +kernel
    | (with_reducible apply Keeps.next (fwShow_keeps ..)); decide +kernel
    | (with_reducible apply Keeps.next (activateSlot_keeps ..)); decide +kernel
    | (with_reducible apply Keeps.next (fwJournal_keeps ..)); decide +kernel
    | (with_reducible apply Keeps.next (warmStart1_keeps ..)); decide +kernel
    | (with_reducible apply Keeps.next (modTasks_keeps ..)); decide +kernel
    | with_reducible apply Keeps.foldl
    | (intro _; beta_reduce)
    | split
    | dsimp only

theorem trialEnd_keeps (part : ℕ) (unit : ℕ) (pass : Bool) (s : Sys2Proof.Machine.State) : Keeps 0xffffffffffffffffffffffffffffffffffffffffffffffffffffffffffffffffffffffffffffffffffffffffffffffff s (trialEnd part unit pass s) := by
  unfold trialEnd
  repeat' first
    | with_reducible exact Keeps.refl _ _
    | with_reducible apply Keeps.ite
    | (with_reducible apply Keeps.next (partStart_keeps ..)); decide +kernel
    | (with_reducible apply Keeps.next (fwFail_keeps ..)); decide +kernel
    | (with_reducible apply Keeps.next (modTasks_keeps ..)); decide +kernel
    | (with_reducible apply Keeps.next (fwPass_keeps ..)); decide +kernel
    | (with_reducible apply Keeps.next (State.modShelves_keeps ..)); decide +kernel
    | (with_reducible apply Keeps.next (shelfSync_keeps ..)); decide +kernel
    | with_reducible apply Keeps.foldl
    | (intro _; beta_reduce)
    | split
    | dsimp only

theorem taskTimeout_keeps (n : ℕ) (s : Sys2Proof.Machine.State) : Keeps 0x1000000000000 s (taskTimeout n s) := by
  unfold taskTimeout
  repeat' first
    | with_reducible exact Keeps.refl _ _
    | with_reducible apply Keeps.ite
    | (with_reducible apply Keeps.next (State.modPlanner_keeps ..)); decide +kernel
    | with_reducible apply Keeps.foldl
    | (intro _; beta_reduce)
    | split
    | dsimp only

end Sys2Proof.Machine
end

