-- ==== Sys2Proof/Laws/KeepsRedfish.lean ====
section
/-!
SUPPORT. What each operation of Machine/Redfish.lean may change.
-/
namespace Sys2Proof.Machine
set_option linter.unusedTactic false
set_option linter.unreachableTactic false
set_option Elab.async false

theorem touch_keeps (x : Sys2Proof.RfRes) (s : Sys2Proof.Machine.State) : Keeps 0x200000000000 s (touch x s) := by
  unfold touch
  repeat' first
    | with_reducible exact Keeps.refl _ _
    | with_reducible apply Keeps.ite
    | (with_reducible apply Keeps.next (State.putEtags_keeps ..)); decide +kernel
    | with_reducible apply Keeps.foldl
    | (intro _; beta_reduce)
    | split
    | dsimp only

theorem rfWrite_keeps {r : ℕ} {g : Sys2Proof.Machine.State → Sys2Proof.Machine.State} {M : Nat} (hm : 0x0 ||| M = M) (hg : ∀ t, Keeps M t (g t)) {s0 s1 : State} (h : Keeps M s0 s1) : Keeps M s0 (rfWrite r g s1) := by
  unfold rfWrite
  repeat' first
    | with_reducible exact h
    | with_reducible apply Keeps.next (hg ..) (sub_refl _)
    | with_reducible exact Keeps.refl _ _
    | with_reducible apply Keeps.ite
    | (with_reducible apply Keeps.next (State.emit_keeps ..)); exact sub_trans (by decide +kernel) hm
    | with_reducible apply Keeps.foldl
    | (intro _; beta_reduce)
    | split
    | dsimp only

theorem numberChips_keeps (n : ℕ) (s : Sys2Proof.Machine.State) : Keeps 0xc0000000000000000000000000000000000000000000000000000000000000000000000000000000000000 s (numberChips n s) := by
  unfold numberChips
  repeat' first
    | with_reducible exact Keeps.refl _ _
    | with_reducible apply forEach_keeps
    | with_reducible apply Keeps.ite
    | (with_reducible apply Keeps.next (State.wr_keeps ..)); decide +kernel
    | with_reducible apply Keeps.foldl
    | (intro _; beta_reduce)
    | split
    | dsimp only

theorem setProp_keeps (x : Sys2Proof.RfRes) (p : Sys2Proof.RfProp) (v : ℕ) (s : Sys2Proof.Machine.State) : Keeps 0xc0000000000000000000000000000000000000000000000000000000000000000000000001648000000100 s (setProp x p v s) := by
  unfold setProp
  repeat' first
    | with_reducible exact Keeps.refl _ _
    | with_reducible apply Keeps.ite
    | (with_reducible apply Keeps.next (setSpot_keeps ..)); decide +kernel
    | (with_reducible apply Keeps.next (State.modPlanner_keeps ..)); decide +kernel
    | (with_reducible apply Keeps.next (State.modSpots_keeps ..)); decide +kernel
    | (with_reducible apply Keeps.next (State.modTmcs_keeps ..)); decide +kernel
    | (with_reducible apply Keeps.next (State.modRmcs_keeps ..)); decide +kernel
    | (with_reducible apply Keeps.next (State.modPlans_keeps ..)); decide +kernel
    | (with_reducible apply Keeps.next (numberChips_keeps ..)); decide +kernel
    | with_reducible apply Keeps.foldl
    | (intro _; beta_reduce)
    | split
    | dsimp only

theorem patch_keeps (x : Sys2Proof.RfRes) (ifMatch : Option ℕ) (ps : List (Sys2Proof.RfProp × ℕ)) (s : Sys2Proof.Machine.State) : Keeps 0xc000014c00460000001200601800000000000000000000000000000000000000007000000164c200000118 s (patch x ifMatch ps s) := by
  unfold patch
  repeat' first
    | with_reducible exact Keeps.refl _ _
    | with_reducible apply forEach_keeps
    | with_reducible apply Keeps.ite
    | (with_reducible apply Keeps.next (touch_keeps ..)); decide +kernel
    | (with_reducible apply Keeps.next (replan_keeps ..)); decide +kernel
    | (with_reducible apply Keeps.next (setProp_keeps ..)); decide +kernel
    | (with_reducible apply Keeps.next (State.emit_keeps ..)); decide +kernel
    | with_reducible apply Keeps.foldl
    | (intro _; beta_reduce)
    | split
    | dsimp only

theorem trayAction_keeps {r : ℕ} {t : ℕ} {g : Sys2Proof.Machine.State → Sys2Proof.Machine.State} {M : Nat} (hm : 0x0 ||| M = M) (hg : ∀ t, Keeps M t (g t)) {s0 s1 : State} (h : Keeps M s0 s1) : Keeps M s0 (trayAction r t g s1) := by
  unfold trayAction
  repeat' first
    | with_reducible exact h
    | with_reducible apply Keeps.next (hg ..) (sub_refl _)
    | with_reducible exact Keeps.refl _ _
    | with_reducible apply Keeps.ite
    | (with_reducible apply Keeps.next (State.emit_keeps ..)); exact sub_trans (by decide +kernel) hm
    | (with_reducible apply rfWrite_keeps); exact sub_trans (by decide +kernel) hm; skip
    | with_reducible apply Keeps.foldl
    | (intro _; beta_reduce)
    | split
    | dsimp only

theorem storePower_keeps (t : ℕ) (on : Bool) (s : Sys2Proof.Machine.State) : Keeps 0x8000000000 s (storePower t on s) := by
  unfold storePower
  repeat' first
    | with_reducible exact Keeps.refl _ _
    | with_reducible apply Keeps.ite
    | (with_reducible apply Keeps.next (State.modTmcs_keeps ..)); decide +kernel
    | with_reducible apply Keeps.foldl
    | (intro _; beta_reduce)
    | split
    | dsimp only

theorem resetOn_keeps (t : ℕ) (bus : ℕ) (s : Sys2Proof.Machine.State) : Keeps 0xffffffffffffffffffffffffffffffffffffffffffffffffffffffffffffffffffffffffffffffff000102f3fffffeff s (resetOn t bus s) := by
  unfold resetOn
  repeat' first
    | with_reducible exact Keeps.refl _ _
    | with_reducible apply Keeps.ite
    | (with_reducible apply Keeps.next (storePower_keeps ..)); decide +kernel
    | (with_reducible apply Keeps.next (coldStart_keeps ..)); decide +kernel
    | (with_reducible apply Keeps.next (switchTrayOn_keeps ..)); decide +kernel
    | with_reducible apply Keeps.foldl
    | (intro _; beta_reduce)
    | split
    | dsimp only

theorem resetForceOff_keeps (t : ℕ) (s : Sys2Proof.Machine.State) : Keeps 0xffffffffffffffffffffffffffffffffffffffffffffffffffffffffffffffffffffffffffffffff000108f3fffffeff s (resetForceOff t s) := by
  unfold resetForceOff
  repeat' first
    | with_reducible exact Keeps.refl _ _
    | with_reducible apply Keeps.ite
    | (with_reducible apply Keeps.next (storePower_keeps ..)); decide +kernel
    | (with_reducible apply Keeps.next (State.modTmcs_keeps ..)); decide +kernel
    | (with_reducible apply Keeps.next (switchTrayOff_keeps ..)); decide +kernel
    | (with_reducible apply Keeps.next (busUndervolt_keeps ..)); decide +kernel
    | with_reducible apply Keeps.foldl
    | (intro _; beta_reduce)
    | split
    | dsimp only

theorem resetGraceful_keeps (t : ℕ) (s : Sys2Proof.Machine.State) : Keeps 0xffffffffffffffffffffffffffffffffffffffffffffffffffffffffffffffffffffffffffffffff00010af3fffffeff s (resetGraceful t s) := by
  unfold resetGraceful
  repeat' first
    | with_reducible exact Keeps.refl _ _
    | with_reducible apply Keeps.ite
    | (with_reducible apply Keeps.next (storePower_keeps ..)); decide +kernel
    | (with_reducible apply Keeps.next (trayPowerOff_keeps ..)); decide +kernel
    | (with_reducible apply Keeps.next (switchTrayOff_keeps ..)); decide +kernel
    | with_reducible apply Keeps.foldl
    | (intro _; beta_reduce)
    | split
    | dsimp only

theorem resetCycle_keeps (t : ℕ) (s : Sys2Proof.Machine.State) : Keeps 0xffffffffffffffffffffffffffffffffffffffffffffffffffffffffffffffffffffffffffffffff00010af3fffffeff s (resetCycle t s) := by
  unfold resetCycle
  repeat' first
    | with_reducible exact Keeps.refl _ _
    | with_reducible apply Keeps.ite
    | (with_reducible apply Keeps.next (switchTrayOn_keeps ..)); decide +kernel
    | (with_reducible apply Keeps.next (switchTrayOff_keeps ..)); decide +kernel
    | (with_reducible apply Keeps.next (warmStart1_keeps ..)); decide +kernel
    | with_reducible apply Keeps.foldl
    | (intro _; beta_reduce)
    | split
    | dsimp only

theorem ask_keeps (station : ℕ) (frame : ℕ → List ℕ) (s : Sys2Proof.Machine.State) : Keeps 0x1000000000000 s (ask station frame s) := by
  unfold ask
  repeat' first
    | with_reducible exact Keeps.refl _ _
    | with_reducible apply Keeps.ite
    | (with_reducible apply Keeps.next (State.modPlanner_keeps ..)); decide +kernel
    | (with_reducible apply Keeps.next (State.emit_keeps ..)); decide +kernel
    | with_reducible apply Keeps.foldl
    | (intro _; beta_reduce)
    | split
    | dsimp only

theorem windowAccess_keeps (w : ℕ) (off : ℕ) (count : ℕ) (data : List ℕ) (s : Sys2Proof.Machine.State) : Keeps 0x1000000000000 s (windowAccess w off count data s) := by
  unfold windowAccess
  repeat' first
    | with_reducible exact Keeps.refl _ _
    | with_reducible apply Keeps.ite
    | (with_reducible apply Keeps.next (ask_keeps ..)); decide +kernel
    | with_reducible apply Keeps.foldl
    | (intro _; beta_reduce)
    | split
    | dsimp only

theorem clearCellFault_keeps (h : ℕ) (b : ℕ) (s : Sys2Proof.Machine.State) : Keeps 0xa00000000000 s (clearCellFault h b s) := by
  unfold clearCellFault
  repeat' first
    | with_reducible exact Keeps.refl _ _
    | with_reducible apply Keeps.ite
    | (with_reducible apply Keeps.next (touch_keeps ..)); decide +kernel
    | (with_reducible apply Keeps.next (State.emit_keeps ..)); decide +kernel
    | (with_reducible apply Keeps.next (State.modShelves_keeps ..)); decide +kernel
    | with_reducible apply Keeps.foldl
    | (intro _; beta_reduce)
    | split
    | dsimp only

theorem setSeconds_keeps (r : ℕ) (n : ℕ) (s : Sys2Proof.Machine.State) : Keeps 0x200000000100 s (setSeconds r n s) := by
  unfold setSeconds
  repeat' first
    | with_reducible exact Keeps.refl _ _
    | with_reducible apply Keeps.ite
    | (with_reducible apply Keeps.next (State.modRmcs_keeps ..)); decide +kernel
    | (with_reducible apply Keeps.next (touch_keeps ..)); decide +kernel
    | (with_reducible apply Keeps.next (State.emit_keeps ..)); decide +kernel
    | with_reducible apply Keeps.foldl
    | (intro _; beta_reduce)
    | split
    | dsimp only

theorem update_keeps (part : ℕ) (unit : ℕ) (ver : ℕ) (digest : List ℕ) (immediate : Bool) (s : Sys2Proof.Machine.State) : Keeps 0x18000000000000000000000000000000000000000000000000000000000000000000400001020000000000 s (update part unit ver digest immediate s) := by
  unfold update
  repeat' first
    | with_reducible exact Keeps.refl _ _
    | with_reducible apply Keeps.ite
    | (with_reducible apply Keeps.next (State.modPlanner_keeps ..)); decide +kernel
    | (with_reducible apply Keeps.next (fwInstall_keeps ..)); decide +kernel
    | (with_reducible apply Keeps.next (State.emit_keeps ..)); decide +kernel
    | with_reducible apply Keeps.foldl
    | (intro _; beta_reduce)
    | split
    | dsimp only

theorem subscribe_keeps (dest : ℕ) (s : Sys2Proof.Machine.State) : Keeps 0x1200000000000 s (subscribe dest s) := by
  unfold subscribe
  repeat' first
    | with_reducible exact Keeps.refl _ _
    | with_reducible apply Keeps.ite
    | (with_reducible apply Keeps.next (State.modPlanner_keeps ..)); decide +kernel
    | (with_reducible apply Keeps.next (touch_keeps ..)); decide +kernel
    | (with_reducible apply Keeps.next (State.emit_keeps ..)); decide +kernel
    | with_reducible apply Keeps.foldl
    | (intro _; beta_reduce)
    | split
    | dsimp only

theorem unsubscribe_keeps (n : ℕ) (s : Sys2Proof.Machine.State) : Keeps 0x1200000000000 s (unsubscribe n s) := by
  unfold unsubscribe
  repeat' first
    | with_reducible exact Keeps.refl _ _
    | with_reducible apply Keeps.ite
    | (with_reducible apply Keeps.next (State.modPlanner_keeps ..)); decide +kernel
    | (with_reducible apply Keeps.next (touch_keeps ..)); decide +kernel
    | (with_reducible apply Keeps.next (State.emit_keeps ..)); decide +kernel
    | with_reducible apply Keeps.foldl
    | (intro _; beta_reduce)
    | split
    | dsimp only

theorem capCheck_keeps (s : Sys2Proof.Machine.State) : Keeps 0x14c004600000000006018000000000000000000000000000000000000000070000000404200000018 s (capCheck s) := by
  unfold capCheck
  repeat' first
    | with_reducible exact Keeps.refl _ _
    | with_reducible apply forEach_keeps
    | with_reducible apply Keeps.ite
    | (with_reducible apply Keeps.next (capWrite_keeps ..)); decide +kernel
    | (with_reducible apply Keeps.next (State.putPlans_keeps ..)); decide +kernel
    | with_reducible apply Keeps.foldl
    | (intro _; beta_reduce)
    | split
    | dsimp only

end Sys2Proof.Machine
end

