-- ==== Sys2Proof/Laws/Ops.lean ====
section
/-!
SUPPORT. What a register's field reads after a write: of the field itself, of another field, of another register or copy; and that a raise of a leaf sets the leaf.
-/
namespace Sys2Proof.Machine

theorem putBits_testBit (v hi lo x i : Nat) (h : lo ≤ hi) :
    (putBits v hi lo x).testBit i = if lo ≤ i ∧ i ≤ hi then x.testBit (i - lo) else v.testBit i := by
  have hn : 0 < 2 ^ (hi + 1 - lo) := Nat.two_pow_pos _
  have hlo : 0 < 2 ^ lo := Nat.two_pow_pos _
  have e : putBits v hi lo x = 2 ^ lo * (2 ^ (hi + 1 - lo) * (v / 2 ^ lo / 2 ^ (hi + 1 - lo)) + x % 2 ^ (hi + 1 - lo)) + v % 2 ^ lo := by
    unfold putBits
    simp only [Nat.shiftRight_eq_div_pow]
    have e1 := Nat.div_add_mod v (2 ^ lo)
    have e2 := Nat.div_add_mod (v / 2 ^ lo) (2 ^ (hi + 1 - lo))
    have e3 : v = 2 ^ lo * (2 ^ (hi + 1 - lo) * (v / 2 ^ lo / 2 ^ (hi + 1 - lo))) + v / 2 ^ lo % 2 ^ (hi + 1 - lo) * 2 ^ lo + v % 2 ^ lo := by
      conv_lhs => rw [← e1, ← e2]
      ring
    have e4 : v - v / 2 ^ lo % 2 ^ (hi + 1 - lo) * 2 ^ lo = 2 ^ lo * (2 ^ (hi + 1 - lo) * (v / 2 ^ lo / 2 ^ (hi + 1 - lo))) + v % 2 ^ lo := by
      conv_lhs => rw [e3]
      have e5 : (2 ^ lo * (2 ^ (hi + 1 - lo) * (v / 2 ^ lo / 2 ^ (hi + 1 - lo))) + v / 2 ^ lo % 2 ^ (hi + 1 - lo) * 2 ^ lo + v % 2 ^ lo) / 2 ^ lo % 2 ^ (hi + 1 - lo) =
          v / 2 ^ lo % 2 ^ (hi + 1 - lo) := by rw [← e3]
      rw [e5]
      omega
    rw [e4]
    ring
  rw [e, Nat.testBit_two_pow_mul_add _ (Nat.mod_lt _ hlo)]
  by_cases h1 : i < lo
  · rw [if_pos h1, if_neg (by omega), Nat.testBit_mod_two_pow]
    simp [h1]
  · rw [if_neg h1, Nat.testBit_two_pow_mul_add _ (Nat.mod_lt _ hn)]
    by_cases h2 : i ≤ hi
    · rw [if_pos (by omega), if_pos ⟨by omega, h2⟩, Nat.testBit_mod_two_pow]
      have : i - lo < hi + 1 - lo := by omega
      simp [this]
    · rw [if_neg (by omega), if_neg (by omega), Nat.testBit_div_two_pow, Nat.testBit_div_two_pow]
      congr 1
      omega

theorem bits_testBit (v hi lo i : Nat) : (bits v hi lo).testBit i = (decide (i < hi + 1 - lo) && v.testBit (lo + i)) := by
  unfold bits
  rw [Nat.testBit_mod_two_pow, Nat.testBit_shiftRight]

/-- A field reads what was written to it, cut to its width. -/
theorem bits_putBits_same (v hi lo x : Nat) (h : lo ≤ hi) : bits (putBits v hi lo x) hi lo = x % 2 ^ (hi + 1 - lo) := by
  apply Nat.eq_of_testBit_eq
  intro i
  rw [bits_testBit, putBits_testBit _ _ _ _ _ h, Nat.testBit_mod_two_pow]
  by_cases hi2 : i < hi + 1 - lo
  · rw [if_pos ⟨by omega, by omega⟩]; simp [hi2]
  · simp [hi2]

/-- A field apart from the one that was written reads as before. -/
theorem bits_putBits_disj (v hi lo x hi2 lo2 : Nat) (h : lo ≤ hi) (hd : hi2 < lo ∨ hi < lo2) : bits (putBits v hi lo x) hi2 lo2 = bits v hi2 lo2 := by
  apply Nat.eq_of_testBit_eq
  intro i
  rw [bits_testBit, bits_testBit, putBits_testBit _ _ _ _ _ h]
  by_cases hi3 : i < hi2 + 1 - lo2
  · rw [if_neg (by omega)]
  · simp [hi3]

theorem bits_mod (v hi lo : Nat) (h : hi < 64) : bits (v % 2 ^ 64) hi lo = bits v hi lo := by
  apply Nat.eq_of_testBit_eq
  intro i
  rw [bits_testBit, bits_testBit, Nat.testBit_mod_two_pow]
  by_cases hi3 : i < hi + 1 - lo
  · have : lo + i < 64 := by omega
    simp [this]
  · simp [hi3]

/-! ## Registers -/

theorem State.reg_setReg_same (s : State) (r : Reg) (w i v : Nat) : (s.setReg r w i v).reg r w i = v % 2 ^ 64 := by
  rw [State.reg_setReg s r w i v r w i (fun _ => rfl)]; simp

theorem State.reg_setReg_ne (s : State) (r q : Reg) (w i v x j : Nat) (h : q.id ≠ r.id ∨ x ≠ w ∨ j ≠ i) : (s.setReg r w i v).reg q x j = s.reg q x j := by
  have hk : Reg.key q x j ≠ Reg.key r w i := by
    intro e
    simp only [Reg.key, key3_inj] at e
    rcases h with h | h | h
    · exact h e.1
    · exact h e.2.1
    · exact h e.2.2
  unfold State.reg State.setReg
  simp only [State.withRegs_regs]
  rw [mget_mset_ne _ _ _ _ _ _ hk]

/-- A field reads what was written to it. -/
theorem State.rd_wr_same (s : State) (f : Fld) (w i v : Nat) (h : f.lo ≤ f.hi) (h2 : f.hi < 64) : (s.wr f w i v).rd f w i = v % 2 ^ (f.hi + 1 - f.lo) := by
  unfold State.rd State.wr
  rw [State.reg_setReg_same, bits_mod _ _ _ h2, bits_putBits_same _ _ _ _ h]

/-- A field of another register, unit or copy reads as before. -/
theorem State.rd_wr_ne (s : State) (f g : Fld) (w i v x j : Nat) (h : g.reg.id ≠ f.reg.id ∨ x ≠ w ∨ j ≠ i) : (s.wr f w i v).rd g x j = s.rd g x j := by
  unfold State.rd State.wr
  rw [State.reg_setReg_ne _ _ _ _ _ _ _ _ h]

theorem State.rd_wr_id (s : State) (f g : Fld) (w i v x j : Nat) (h : g.reg.id ≠ f.reg.id) : (s.wr f w i v).rd g x j = s.rd g x j := State.rd_wr_ne _ _ _ _ _ _ _ _ (Or.inl h)

theorem State.reg_setReg_id (s : State) (r q : Reg) (w i v x j : Nat) (h : q.id ≠ r.id) : (s.setReg r w i v).reg q x j = s.reg q x j := State.reg_setReg_ne _ _ _ _ _ _ _ _ (Or.inl h)

theorem State.reg_wr_id (s : State) (f : Fld) (q : Reg) (w i v x j : Nat) (h : q.id ≠ f.reg.id) : (s.wr f w i v).reg q x j = s.reg q x j := State.reg_setReg_ne _ _ _ _ _ _ _ _ (Or.inl h)

theorem State.rd_setReg_id (s : State) (r : Reg) (g : Fld) (w i v x j : Nat) (h : g.reg.id ≠ r.id) : (s.setReg r w i v).rd g x j = s.rd g x j := by
  unfold State.rd
  rw [State.reg_setReg_id _ _ _ _ _ _ _ _ h]

/-- Another field of the same register reads as before. -/
theorem State.rd_wr_field (s : State) (f g : Fld) (w i v : Nat) (hr : g.reg = f.reg) (hf : f.lo ≤ f.hi) (hg : g.hi < 64) (h : g.hi < f.lo ∨ f.hi < g.lo) :
    (s.wr f w i v).rd g w i = s.rd g w i := by
  unfold State.rd State.wr
  rw [hr, State.reg_setReg_same, bits_mod _ _ _ hg, bits_putBits_disj _ _ _ _ _ _ hf h]

theorem State.rd_setReg_same (s : State) (f : Fld) (w i v : Nat) (h : f.hi < 64) : (s.setReg f.reg w i v).rd f w i = bits v f.hi f.lo := by
  unfold State.rd
  rw [State.reg_setReg_same, bits_mod _ _ _ h]

theorem State.rd_setReg_ne (s : State) (r : Reg) (g : Fld) (w i v x j : Nat) (h : g.reg.id ≠ r.id ∨ x ≠ w ∨ j ≠ i) : (s.setReg r w i v).rd g x j = s.rd g x j := by
  unfold State.rd
  rw [State.reg_setReg_ne _ _ _ _ _ _ _ _ h]

theorem State.reg_wr_ne (s : State) (f : Fld) (q : Reg) (w i v x j : Nat) (h : q.id ≠ f.reg.id ∨ x ≠ w ∨ j ≠ i) : (s.wr f w i v).reg q x j = s.reg q x j :=
  State.reg_setReg_ne _ _ _ _ _ _ _ _ h

/-- A field of a register that an operation's mask leaves out reads as before. -/
theorem Keeps.rd {m : Nat} {s t : State} (h : Keeps m s t) (f : Fld) (w i : Nat) (h1 : f.reg.id < 320) (h2 : m.testBit (64 + f.reg.id) = false) : t.rd f w i = s.rd f w i := by
  unfold State.rd
  rw [h.regs f.reg w i h1 h2]

/-! ## Writes that leave registers and records alone -/

@[simp] theorem State.reg_emit (s : State) (e : Emit) (r : Reg) (w i : Nat) : (s.emit e).reg r w i = s.reg r w i := rfl
@[simp] theorem State.rd_emit (s : State) (e : Emit) (f : Fld) (w i : Nat) : (s.emit e).rd f w i = s.rd f w i := rfl
@[simp] theorem State.reg_putLatches (s : State) (k : Nat) (v : Latch) (r : Reg) (w i : Nat) : (s.putLatches k v).reg r w i = s.reg r w i := rfl
@[simp] theorem State.rd_putLatches (s : State) (k : Nat) (v : Latch) (f : Fld) (w i : Nat) : (s.putLatches k v).rd f w i = s.rd f w i := rfl
@[simp] theorem State.getLatches_setReg (s : State) (r : Reg) (w i v k : Nat) : (s.setReg r w i v).getLatches k = s.getLatches k := rfl
@[simp] theorem State.getLatches_wr (s : State) (f : Fld) (w i v k : Nat) : (s.wr f w i v).getLatches k = s.getLatches k := rfl
@[simp] theorem State.getLatches_emit (s : State) (e : Emit) (k : Nat) : (s.emit e).getLatches k = s.getLatches k := rfl
theorem Keeps.getLatches {m : Nat} {s t : State} (h : Keeps m s t) (hm : m.testBit 2 = false) (k : Nat) : t.getLatches k = s.getLatches k := by
  unfold State.getLatches; rw [h.latches hm]
@[simp] theorem State.reg_putJournals (s : State) (k : Nat) (v : Journal) (r : Reg) (w i : Nat) : (s.putJournals k v).reg r w i = s.reg r w i := rfl
@[simp] theorem State.rd_putJournals (s : State) (k : Nat) (v : Journal) (f : Fld) (w i : Nat) : (s.putJournals k v).rd f w i = s.rd f w i := rfl
@[simp] theorem State.getJournals_setReg (s : State) (r : Reg) (w i v k : Nat) : (s.setReg r w i v).getJournals k = s.getJournals k := rfl
@[simp] theorem State.getJournals_wr (s : State) (f : Fld) (w i v k : Nat) : (s.wr f w i v).getJournals k = s.getJournals k := rfl
@[simp] theorem State.getJournals_emit (s : State) (e : Emit) (k : Nat) : (s.emit e).getJournals k = s.getJournals k := rfl
theorem Keeps.getJournals {m : Nat} {s t : State} (h : Keeps m s t) (hm : m.testBit 3 = false) (k : Nat) : t.getJournals k = s.getJournals k := by
  unfold State.getJournals; rw [h.journals hm]
@[simp] theorem State.reg_putAtns (s : State) (k : Nat) (v : Atn) (r : Reg) (w i : Nat) : (s.putAtns k v).reg r w i = s.reg r w i := rfl
@[simp] theorem State.rd_putAtns (s : State) (k : Nat) (v : Atn) (f : Fld) (w i : Nat) : (s.putAtns k v).rd f w i = s.rd f w i := rfl
@[simp] theorem State.getAtns_setReg (s : State) (r : Reg) (w i v k : Nat) : (s.setReg r w i v).getAtns k = s.getAtns k := rfl
@[simp] theorem State.getAtns_wr (s : State) (f : Fld) (w i v k : Nat) : (s.wr f w i v).getAtns k = s.getAtns k := rfl
@[simp] theorem State.getAtns_emit (s : State) (e : Emit) (k : Nat) : (s.emit e).getAtns k = s.getAtns k := rfl
theorem Keeps.getAtns {m : Nat} {s t : State} (h : Keeps m s t) (hm : m.testBit 4 = false) (k : Nat) : t.getAtns k = s.getAtns k := by
  unfold State.getAtns; rw [h.atns hm]
@[simp] theorem State.reg_putHifs (s : State) (k : Nat) (v : Hif) (r : Reg) (w i : Nat) : (s.putHifs k v).reg r w i = s.reg r w i := rfl
@[simp] theorem State.rd_putHifs (s : State) (k : Nat) (v : Hif) (f : Fld) (w i : Nat) : (s.putHifs k v).rd f w i = s.rd f w i := rfl
@[simp] theorem State.getHifs_setReg (s : State) (r : Reg) (w i v k : Nat) : (s.setReg r w i v).getHifs k = s.getHifs k := rfl
@[simp] theorem State.getHifs_wr (s : State) (f : Fld) (w i v k : Nat) : (s.wr f w i v).getHifs k = s.getHifs k := rfl
@[simp] theorem State.getHifs_emit (s : State) (e : Emit) (k : Nat) : (s.emit e).getHifs k = s.getHifs k := rfl
theorem Keeps.getHifs {m : Nat} {s t : State} (h : Keeps m s t) (hm : m.testBit 5 = false) (k : Nat) : t.getHifs k = s.getHifs k := by
  unfold State.getHifs; rw [h.hifs hm]
@[simp] theorem State.reg_putChans (s : State) (k : Nat) (v : Chan) (r : Reg) (w i : Nat) : (s.putChans k v).reg r w i = s.reg r w i := rfl
@[simp] theorem State.rd_putChans (s : State) (k : Nat) (v : Chan) (f : Fld) (w i : Nat) : (s.putChans k v).rd f w i = s.rd f w i := rfl
@[simp] theorem State.getChans_setReg (s : State) (r : Reg) (w i v k : Nat) : (s.setReg r w i v).getChans k = s.getChans k := rfl
@[simp] theorem State.getChans_wr (s : State) (f : Fld) (w i v k : Nat) : (s.wr f w i v).getChans k = s.getChans k := rfl
@[simp] theorem State.getChans_emit (s : State) (e : Emit) (k : Nat) : (s.emit e).getChans k = s.getChans k := rfl
theorem Keeps.getChans {m : Nat} {s t : State} (h : Keeps m s t) (hm : m.testBit 6 = false) (k : Nat) : t.getChans k = s.getChans k := by
  unfold State.getChans; rw [h.chans hm]
@[simp] theorem State.reg_putClocks (s : State) (k : Nat) (v : Clock) (r : Reg) (w i : Nat) : (s.putClocks k v).reg r w i = s.reg r w i := rfl
@[simp] theorem State.rd_putClocks (s : State) (k : Nat) (v : Clock) (f : Fld) (w i : Nat) : (s.putClocks k v).rd f w i = s.rd f w i := rfl
@[simp] theorem State.getClocks_setReg (s : State) (r : Reg) (w i v k : Nat) : (s.setReg r w i v).getClocks k = s.getClocks k := rfl
@[simp] theorem State.getClocks_wr (s : State) (f : Fld) (w i v k : Nat) : (s.wr f w i v).getClocks k = s.getClocks k := rfl
@[simp] theorem State.getClocks_emit (s : State) (e : Emit) (k : Nat) : (s.emit e).getClocks k = s.getClocks k := rfl
theorem Keeps.getClocks {m : Nat} {s t : State} (h : Keeps m s t) (hm : m.testBit 7 = false) (k : Nat) : t.getClocks k = s.getClocks k := by
  unfold State.getClocks; rw [h.clocks hm]
@[simp] theorem State.reg_putRmcs (s : State) (k : Nat) (v : Rmc) (r : Reg) (w i : Nat) : (s.putRmcs k v).reg r w i = s.reg r w i := rfl
@[simp] theorem State.rd_putRmcs (s : State) (k : Nat) (v : Rmc) (f : Fld) (w i : Nat) : (s.putRmcs k v).rd f w i = s.rd f w i := rfl
@[simp] theorem State.getRmcs_setReg (s : State) (r : Reg) (w i v k : Nat) : (s.setReg r w i v).getRmcs k = s.getRmcs k := rfl
@[simp] theorem State.getRmcs_wr (s : State) (f : Fld) (w i v k : Nat) : (s.wr f w i v).getRmcs k = s.getRmcs k := rfl
@[simp] theorem State.getRmcs_emit (s : State) (e : Emit) (k : Nat) : (s.emit e).getRmcs k = s.getRmcs k := rfl
theorem Keeps.getRmcs {m : Nat} {s t : State} (h : Keeps m s t) (hm : m.testBit 8 = false) (k : Nat) : t.getRmcs k = s.getRmcs k := by
  unfold State.getRmcs; rw [h.rmcs hm]
@[simp] theorem State.reg_putCores (s : State) (k : Nat) (v : Core) (r : Reg) (w i : Nat) : (s.putCores k v).reg r w i = s.reg r w i := rfl
@[simp] theorem State.rd_putCores (s : State) (k : Nat) (v : Core) (f : Fld) (w i : Nat) : (s.putCores k v).rd f w i = s.rd f w i := rfl
@[simp] theorem State.getCores_setReg (s : State) (r : Reg) (w i v k : Nat) : (s.setReg r w i v).getCores k = s.getCores k := rfl
@[simp] theorem State.getCores_wr (s : State) (f : Fld) (w i v k : Nat) : (s.wr f w i v).getCores k = s.getCores k := rfl
@[simp] theorem State.getCores_emit (s : State) (e : Emit) (k : Nat) : (s.emit e).getCores k = s.getCores k := rfl
theorem Keeps.getCores {m : Nat} {s t : State} (h : Keeps m s t) (hm : m.testBit 9 = false) (k : Nat) : t.getCores k = s.getCores k := by
  unfold State.getCores; rw [h.cores hm]
@[simp] theorem State.reg_putParts (s : State) (k : Nat) (v : Part) (r : Reg) (w i : Nat) : (s.putParts k v).reg r w i = s.reg r w i := rfl
@[simp] theorem State.rd_putParts (s : State) (k : Nat) (v : Part) (f : Fld) (w i : Nat) : (s.putParts k v).rd f w i = s.rd f w i := rfl
@[simp] theorem State.getParts_setReg (s : State) (r : Reg) (w i v k : Nat) : (s.setReg r w i v).getParts k = s.getParts k := rfl
@[simp] theorem State.getParts_wr (s : State) (f : Fld) (w i v k : Nat) : (s.wr f w i v).getParts k = s.getParts k := rfl
@[simp] theorem State.getParts_emit (s : State) (e : Emit) (k : Nat) : (s.emit e).getParts k = s.getParts k := rfl
theorem Keeps.getParts {m : Nat} {s t : State} (h : Keeps m s t) (hm : m.testBit 10 = false) (k : Nat) : t.getParts k = s.getParts k := by
  unfold State.getParts; rw [h.parts hm]
@[simp] theorem State.reg_putResults (s : State) (k : Nat) (v : (List (Nat × Nat))) (r : Reg) (w i : Nat) : (s.putResults k v).reg r w i = s.reg r w i := rfl
@[simp] theorem State.rd_putResults (s : State) (k : Nat) (v : (List (Nat × Nat))) (f : Fld) (w i : Nat) : (s.putResults k v).rd f w i = s.rd f w i := rfl
@[simp] theorem State.getResults_setReg (s : State) (r : Reg) (w i v k : Nat) : (s.setReg r w i v).getResults k = s.getResults k := rfl
@[simp] theorem State.getResults_wr (s : State) (f : Fld) (w i v k : Nat) : (s.wr f w i v).getResults k = s.getResults k := rfl
@[simp] theorem State.getResults_emit (s : State) (e : Emit) (k : Nat) : (s.emit e).getResults k = s.getResults k := rfl
theorem Keeps.getResults {m : Nat} {s t : State} (h : Keeps m s t) (hm : m.testBit 11 = false) (k : Nat) : t.getResults k = s.getResults k := by
  unfold State.getResults; rw [h.results hm]
@[simp] theorem State.reg_putSeSlots (s : State) (k : Nat) (v : SeSlot) (r : Reg) (w i : Nat) : (s.putSeSlots k v).reg r w i = s.reg r w i := rfl
@[simp] theorem State.rd_putSeSlots (s : State) (k : Nat) (v : SeSlot) (f : Fld) (w i : Nat) : (s.putSeSlots k v).rd f w i = s.rd f w i := rfl
@[simp] theorem State.getSeSlots_setReg (s : State) (r : Reg) (w i v k : Nat) : (s.setReg r w i v).getSeSlots k = s.getSeSlots k := rfl
@[simp] theorem State.getSeSlots_wr (s : State) (f : Fld) (w i v k : Nat) : (s.wr f w i v).getSeSlots k = s.getSeSlots k := rfl
@[simp] theorem State.getSeSlots_emit (s : State) (e : Emit) (k : Nat) : (s.emit e).getSeSlots k = s.getSeSlots k := rfl
theorem Keeps.getSeSlots {m : Nat} {s t : State} (h : Keeps m s t) (hm : m.testBit 12 = false) (k : Nat) : t.getSeSlots k = s.getSeSlots k := by
  unfold State.getSeSlots; rw [h.seSlots hm]
@[simp] theorem State.reg_putSemas (s : State) (k : Nat) (v : Sema) (r : Reg) (w i : Nat) : (s.putSemas k v).reg r w i = s.reg r w i := rfl
@[simp] theorem State.rd_putSemas (s : State) (k : Nat) (v : Sema) (f : Fld) (w i : Nat) : (s.putSemas k v).rd f w i = s.rd f w i := rfl
@[simp] theorem State.getSemas_setReg (s : State) (r : Reg) (w i v k : Nat) : (s.setReg r w i v).getSemas k = s.getSemas k := rfl
@[simp] theorem State.getSemas_wr (s : State) (f : Fld) (w i v k : Nat) : (s.wr f w i v).getSemas k = s.getSemas k := rfl
@[simp] theorem State.getSemas_emit (s : State) (e : Emit) (k : Nat) : (s.emit e).getSemas k = s.getSemas k := rfl
theorem Keeps.getSemas {m : Nat} {s t : State} (h : Keeps m s t) (hm : m.testBit 13 = false) (k : Nat) : t.getSemas k = s.getSemas k := by
  unfold State.getSemas; rw [h.semas hm]
@[simp] theorem State.reg_putSends (s : State) (k : Nat) (v : SendStream) (r : Reg) (w i : Nat) : (s.putSends k v).reg r w i = s.reg r w i := rfl
@[simp] theorem State.rd_putSends (s : State) (k : Nat) (v : SendStream) (f : Fld) (w i : Nat) : (s.putSends k v).rd f w i = s.rd f w i := rfl
@[simp] theorem State.getSends_setReg (s : State) (r : Reg) (w i v k : Nat) : (s.setReg r w i v).getSends k = s.getSends k := rfl
@[simp] theorem State.getSends_wr (s : State) (f : Fld) (w i v k : Nat) : (s.wr f w i v).getSends k = s.getSends k := rfl
@[simp] theorem State.getSends_emit (s : State) (e : Emit) (k : Nat) : (s.emit e).getSends k = s.getSends k := rfl
theorem Keeps.getSends {m : Nat} {s t : State} (h : Keeps m s t) (hm : m.testBit 14 = false) (k : Nat) : t.getSends k = s.getSends k := by
  unfold State.getSends; rw [h.sends hm]
@[simp] theorem State.reg_putRecvs (s : State) (k : Nat) (v : RecvStream) (r : Reg) (w i : Nat) : (s.putRecvs k v).reg r w i = s.reg r w i := rfl
@[simp] theorem State.rd_putRecvs (s : State) (k : Nat) (v : RecvStream) (f : Fld) (w i : Nat) : (s.putRecvs k v).rd f w i = s.rd f w i := rfl
@[simp] theorem State.getRecvs_setReg (s : State) (r : Reg) (w i v k : Nat) : (s.setReg r w i v).getRecvs k = s.getRecvs k := rfl
@[simp] theorem State.getRecvs_wr (s : State) (f : Fld) (w i v k : Nat) : (s.wr f w i v).getRecvs k = s.getRecvs k := rfl
@[simp] theorem State.getRecvs_emit (s : State) (e : Emit) (k : Nat) : (s.emit e).getRecvs k = s.getRecvs k := rfl
theorem Keeps.getRecvs {m : Nat} {s t : State} (h : Keeps m s t) (hm : m.testBit 15 = false) (k : Nat) : t.getRecvs k = s.getRecvs k := by
  unfold State.getRecvs; rw [h.recvs hm]
@[simp] theorem State.reg_putReplays (s : State) (k : Nat) (v : ReplayTable) (r : Reg) (w i : Nat) : (s.putReplays k v).reg r w i = s.reg r w i := rfl
@[simp] theorem State.rd_putReplays (s : State) (k : Nat) (v : ReplayTable) (f : Fld) (w i : Nat) : (s.putReplays k v).rd f w i = s.rd f w i := rfl
@[simp] theorem State.getReplays_setReg (s : State) (r : Reg) (w i v k : Nat) : (s.setReg r w i v).getReplays k = s.getReplays k := rfl
@[simp] theorem State.getReplays_wr (s : State) (f : Fld) (w i v k : Nat) : (s.wr f w i v).getReplays k = s.getReplays k := rfl
@[simp] theorem State.getReplays_emit (s : State) (e : Emit) (k : Nat) : (s.emit e).getReplays k = s.getReplays k := rfl
theorem Keeps.getReplays {m : Nat} {s t : State} (h : Keeps m s t) (hm : m.testBit 16 = false) (k : Nat) : t.getReplays k = s.getReplays k := by
  unfold State.getReplays; rw [h.replays hm]
@[simp] theorem State.reg_putLinks (s : State) (k : Nat) (v : LinkEnd) (r : Reg) (w i : Nat) : (s.putLinks k v).reg r w i = s.reg r w i := rfl
@[simp] theorem State.rd_putLinks (s : State) (k : Nat) (v : LinkEnd) (f : Fld) (w i : Nat) : (s.putLinks k v).rd f w i = s.rd f w i := rfl
@[simp] theorem State.getLinks_setReg (s : State) (r : Reg) (w i v k : Nat) : (s.setReg r w i v).getLinks k = s.getLinks k := rfl
@[simp] theorem State.getLinks_wr (s : State) (f : Fld) (w i v k : Nat) : (s.wr f w i v).getLinks k = s.getLinks k := rfl
@[simp] theorem State.getLinks_emit (s : State) (e : Emit) (k : Nat) : (s.emit e).getLinks k = s.getLinks k := rfl
theorem Keeps.getLinks {m : Nat} {s t : State} (h : Keeps m s t) (hm : m.testBit 17 = false) (k : Nat) : t.getLinks k = s.getLinks k := by
  unfold State.getLinks; rw [h.links hm]
@[simp] theorem State.reg_putArbs (s : State) (k : Nat) (v : OutArb) (r : Reg) (w i : Nat) : (s.putArbs k v).reg r w i = s.reg r w i := rfl
@[simp] theorem State.rd_putArbs (s : State) (k : Nat) (v : OutArb) (f : Fld) (w i : Nat) : (s.putArbs k v).rd f w i = s.rd f w i := rfl
@[simp] theorem State.getArbs_setReg (s : State) (r : Reg) (w i v k : Nat) : (s.setReg r w i v).getArbs k = s.getArbs k := rfl
@[simp] theorem State.getArbs_wr (s : State) (f : Fld) (w i v k : Nat) : (s.wr f w i v).getArbs k = s.getArbs k := rfl
@[simp] theorem State.getArbs_emit (s : State) (e : Emit) (k : Nat) : (s.emit e).getArbs k = s.getArbs k := rfl
theorem Keeps.getArbs {m : Nat} {s t : State} (h : Keeps m s t) (hm : m.testBit 18 = false) (k : Nat) : t.getArbs k = s.getArbs k := by
  unfold State.getArbs; rw [h.arbs hm]
@[simp] theorem State.reg_putInjects (s : State) (k : Nat) (v : Inject) (r : Reg) (w i : Nat) : (s.putInjects k v).reg r w i = s.reg r w i := rfl
@[simp] theorem State.rd_putInjects (s : State) (k : Nat) (v : Inject) (f : Fld) (w i : Nat) : (s.putInjects k v).rd f w i = s.rd f w i := rfl
@[simp] theorem State.getInjects_setReg (s : State) (r : Reg) (w i v k : Nat) : (s.setReg r w i v).getInjects k = s.getInjects k := rfl
@[simp] theorem State.getInjects_wr (s : State) (f : Fld) (w i v k : Nat) : (s.wr f w i v).getInjects k = s.getInjects k := rfl
@[simp] theorem State.getInjects_emit (s : State) (e : Emit) (k : Nat) : (s.emit e).getInjects k = s.getInjects k := rfl
theorem Keeps.getInjects {m : Nat} {s t : State} (h : Keeps m s t) (hm : m.testBit 19 = false) (k : Nat) : t.getInjects k = s.getInjects k := by
  unfold State.getInjects; rw [h.injects hm]
@[simp] theorem State.reg_putFabricCredits (s : State) (k : Nat) (v : Nat) (r : Reg) (w i : Nat) : (s.putFabricCredits k v).reg r w i = s.reg r w i := rfl
@[simp] theorem State.rd_putFabricCredits (s : State) (k : Nat) (v : Nat) (f : Fld) (w i : Nat) : (s.putFabricCredits k v).rd f w i = s.rd f w i := rfl
@[simp] theorem State.getFabricCredits_setReg (s : State) (r : Reg) (w i v k : Nat) : (s.setReg r w i v).getFabricCredits k = s.getFabricCredits k := rfl
@[simp] theorem State.getFabricCredits_wr (s : State) (f : Fld) (w i v k : Nat) : (s.wr f w i v).getFabricCredits k = s.getFabricCredits k := rfl
@[simp] theorem State.getFabricCredits_emit (s : State) (e : Emit) (k : Nat) : (s.emit e).getFabricCredits k = s.getFabricCredits k := rfl
theorem Keeps.getFabricCredits {m : Nat} {s t : State} (h : Keeps m s t) (hm : m.testBit 20 = false) (k : Nat) : t.getFabricCredits k = s.getFabricCredits k := by
  unfold State.getFabricCredits; rw [h.fabricCredits hm]
@[simp] theorem State.reg_putGroupPtr (s : State) (k : Nat) (v : Nat) (r : Reg) (w i : Nat) : (s.putGroupPtr k v).reg r w i = s.reg r w i := rfl
@[simp] theorem State.rd_putGroupPtr (s : State) (k : Nat) (v : Nat) (f : Fld) (w i : Nat) : (s.putGroupPtr k v).rd f w i = s.rd f w i := rfl
@[simp] theorem State.getGroupPtr_setReg (s : State) (r : Reg) (w i v k : Nat) : (s.setReg r w i v).getGroupPtr k = s.getGroupPtr k := rfl
@[simp] theorem State.getGroupPtr_wr (s : State) (f : Fld) (w i v k : Nat) : (s.wr f w i v).getGroupPtr k = s.getGroupPtr k := rfl
@[simp] theorem State.getGroupPtr_emit (s : State) (e : Emit) (k : Nat) : (s.emit e).getGroupPtr k = s.getGroupPtr k := rfl
theorem Keeps.getGroupPtr {m : Nat} {s t : State} (h : Keeps m s t) (hm : m.testBit 21 = false) (k : Nat) : t.getGroupPtr k = s.getGroupPtr k := by
  unfold State.getGroupPtr; rw [h.groupPtr hm]
@[simp] theorem State.reg_putLofts (s : State) (k : Nat) (v : LoftSt) (r : Reg) (w i : Nat) : (s.putLofts k v).reg r w i = s.reg r w i := rfl
@[simp] theorem State.rd_putLofts (s : State) (k : Nat) (v : LoftSt) (f : Fld) (w i : Nat) : (s.putLofts k v).rd f w i = s.rd f w i := rfl
@[simp] theorem State.getLofts_setReg (s : State) (r : Reg) (w i v k : Nat) : (s.setReg r w i v).getLofts k = s.getLofts k := rfl
@[simp] theorem State.getLofts_wr (s : State) (f : Fld) (w i v k : Nat) : (s.wr f w i v).getLofts k = s.getLofts k := rfl
@[simp] theorem State.getLofts_emit (s : State) (e : Emit) (k : Nat) : (s.emit e).getLofts k = s.getLofts k := rfl
theorem Keeps.getLofts {m : Nat} {s t : State} (h : Keeps m s t) (hm : m.testBit 22 = false) (k : Nat) : t.getLofts k = s.getLofts k := by
  unfold State.getLofts; rw [h.lofts hm]
@[simp] theorem State.reg_putPchs (s : State) (k : Nat) (v : Pch) (r : Reg) (w i : Nat) : (s.putPchs k v).reg r w i = s.reg r w i := rfl
@[simp] theorem State.rd_putPchs (s : State) (k : Nat) (v : Pch) (f : Fld) (w i : Nat) : (s.putPchs k v).rd f w i = s.rd f w i := rfl
@[simp] theorem State.getPchs_setReg (s : State) (r : Reg) (w i v k : Nat) : (s.setReg r w i v).getPchs k = s.getPchs k := rfl
@[simp] theorem State.getPchs_wr (s : State) (f : Fld) (w i v k : Nat) : (s.wr f w i v).getPchs k = s.getPchs k := rfl
@[simp] theorem State.getPchs_emit (s : State) (e : Emit) (k : Nat) : (s.emit e).getPchs k = s.getPchs k := rfl
theorem Keeps.getPchs {m : Nat} {s t : State} (h : Keeps m s t) (hm : m.testBit 23 = false) (k : Nat) : t.getPchs k = s.getPchs k := by
  unfold State.getPchs; rw [h.pchs hm]
@[simp] theorem State.reg_putShadows (s : State) (k : Nat) (v : Shadow) (r : Reg) (w i : Nat) : (s.putShadows k v).reg r w i = s.reg r w i := rfl
@[simp] theorem State.rd_putShadows (s : State) (k : Nat) (v : Shadow) (f : Fld) (w i : Nat) : (s.putShadows k v).rd f w i = s.rd f w i := rfl
@[simp] theorem State.getShadows_setReg (s : State) (r : Reg) (w i v k : Nat) : (s.setReg r w i v).getShadows k = s.getShadows k := rfl
@[simp] theorem State.getShadows_wr (s : State) (f : Fld) (w i v k : Nat) : (s.wr f w i v).getShadows k = s.getShadows k := rfl
@[simp] theorem State.getShadows_emit (s : State) (e : Emit) (k : Nat) : (s.emit e).getShadows k = s.getShadows k := rfl
theorem Keeps.getShadows {m : Nat} {s t : State} (h : Keeps m s t) (hm : m.testBit 24 = false) (k : Nat) : t.getShadows k = s.getShadows k := by
  unfold State.getShadows; rw [h.shadows hm]
@[simp] theorem State.reg_putLoads (s : State) (k : Nat) (v : Load) (r : Reg) (w i : Nat) : (s.putLoads k v).reg r w i = s.reg r w i := rfl
@[simp] theorem State.rd_putLoads (s : State) (k : Nat) (v : Load) (f : Fld) (w i : Nat) : (s.putLoads k v).rd f w i = s.rd f w i := rfl
@[simp] theorem State.getLoads_setReg (s : State) (r : Reg) (w i v k : Nat) : (s.setReg r w i v).getLoads k = s.getLoads k := rfl
@[simp] theorem State.getLoads_wr (s : State) (f : Fld) (w i v k : Nat) : (s.wr f w i v).getLoads k = s.getLoads k := rfl
@[simp] theorem State.getLoads_emit (s : State) (e : Emit) (k : Nat) : (s.emit e).getLoads k = s.getLoads k := rfl
theorem Keeps.getLoads {m : Nat} {s t : State} (h : Keeps m s t) (hm : m.testBit 25 = false) (k : Nat) : t.getLoads k = s.getLoads k := by
  unfold State.getLoads; rw [h.loads hm]
@[simp] theorem State.reg_putPushes (s : State) (k : Nat) (v : Push) (r : Reg) (w i : Nat) : (s.putPushes k v).reg r w i = s.reg r w i := rfl
@[simp] theorem State.rd_putPushes (s : State) (k : Nat) (v : Push) (f : Fld) (w i : Nat) : (s.putPushes k v).rd f w i = s.rd f w i := rfl
@[simp] theorem State.getPushes_setReg (s : State) (r : Reg) (w i v k : Nat) : (s.setReg r w i v).getPushes k = s.getPushes k := rfl
@[simp] theorem State.getPushes_wr (s : State) (f : Fld) (w i v k : Nat) : (s.wr f w i v).getPushes k = s.getPushes k := rfl
@[simp] theorem State.getPushes_emit (s : State) (e : Emit) (k : Nat) : (s.emit e).getPushes k = s.getPushes k := rfl
theorem Keeps.getPushes {m : Nat} {s t : State} (h : Keeps m s t) (hm : m.testBit 26 = false) (k : Nat) : t.getPushes k = s.getPushes k := by
  unfold State.getPushes; rw [h.pushes hm]
@[simp] theorem State.reg_putSlots (s : State) (k : Nat) (v : CueSlot) (r : Reg) (w i : Nat) : (s.putSlots k v).reg r w i = s.reg r w i := rfl
@[simp] theorem State.rd_putSlots (s : State) (k : Nat) (v : CueSlot) (f : Fld) (w i : Nat) : (s.putSlots k v).rd f w i = s.rd f w i := rfl
@[simp] theorem State.getSlots_setReg (s : State) (r : Reg) (w i v k : Nat) : (s.setReg r w i v).getSlots k = s.getSlots k := rfl
@[simp] theorem State.getSlots_wr (s : State) (f : Fld) (w i v k : Nat) : (s.wr f w i v).getSlots k = s.getSlots k := rfl
@[simp] theorem State.getSlots_emit (s : State) (e : Emit) (k : Nat) : (s.emit e).getSlots k = s.getSlots k := rfl
theorem Keeps.getSlots {m : Nat} {s t : State} (h : Keeps m s t) (hm : m.testBit 27 = false) (k : Nat) : t.getSlots k = s.getSlots k := by
  unfold State.getSlots; rw [h.slots hm]
@[simp] theorem State.reg_putCueUnits (s : State) (k : Nat) (v : CueUnit) (r : Reg) (w i : Nat) : (s.putCueUnits k v).reg r w i = s.reg r w i := rfl
@[simp] theorem State.rd_putCueUnits (s : State) (k : Nat) (v : CueUnit) (f : Fld) (w i : Nat) : (s.putCueUnits k v).rd f w i = s.rd f w i := rfl
@[simp] theorem State.getCueUnits_setReg (s : State) (r : Reg) (w i v k : Nat) : (s.setReg r w i v).getCueUnits k = s.getCueUnits k := rfl
@[simp] theorem State.getCueUnits_wr (s : State) (f : Fld) (w i v k : Nat) : (s.wr f w i v).getCueUnits k = s.getCueUnits k := rfl
@[simp] theorem State.getCueUnits_emit (s : State) (e : Emit) (k : Nat) : (s.emit e).getCueUnits k = s.getCueUnits k := rfl
theorem Keeps.getCueUnits {m : Nat} {s t : State} (h : Keeps m s t) (hm : m.testBit 28 = false) (k : Nat) : t.getCueUnits k = s.getCueUnits k := by
  unfold State.getCueUnits; rw [h.cueUnits hm]
@[simp] theorem State.reg_putParks (s : State) (k : Nat) (v : ParkQ) (r : Reg) (w i : Nat) : (s.putParks k v).reg r w i = s.reg r w i := rfl
@[simp] theorem State.rd_putParks (s : State) (k : Nat) (v : ParkQ) (f : Fld) (w i : Nat) : (s.putParks k v).rd f w i = s.rd f w i := rfl
@[simp] theorem State.getParks_setReg (s : State) (r : Reg) (w i v k : Nat) : (s.setReg r w i v).getParks k = s.getParks k := rfl
@[simp] theorem State.getParks_wr (s : State) (f : Fld) (w i v k : Nat) : (s.wr f w i v).getParks k = s.getParks k := rfl
@[simp] theorem State.getParks_emit (s : State) (e : Emit) (k : Nat) : (s.emit e).getParks k = s.getParks k := rfl
theorem Keeps.getParks {m : Nat} {s t : State} (h : Keeps m s t) (hm : m.testBit 29 = false) (k : Nat) : t.getParks k = s.getParks k := by
  unfold State.getParks; rw [h.parks hm]
@[simp] theorem State.reg_putDoms (s : State) (k : Nat) (v : DomX) (r : Reg) (w i : Nat) : (s.putDoms k v).reg r w i = s.reg r w i := rfl
@[simp] theorem State.rd_putDoms (s : State) (k : Nat) (v : DomX) (f : Fld) (w i : Nat) : (s.putDoms k v).rd f w i = s.rd f w i := rfl
@[simp] theorem State.getDoms_setReg (s : State) (r : Reg) (w i v k : Nat) : (s.setReg r w i v).getDoms k = s.getDoms k := rfl
@[simp] theorem State.getDoms_wr (s : State) (f : Fld) (w i v k : Nat) : (s.wr f w i v).getDoms k = s.getDoms k := rfl
@[simp] theorem State.getDoms_emit (s : State) (e : Emit) (k : Nat) : (s.emit e).getDoms k = s.getDoms k := rfl
theorem Keeps.getDoms {m : Nat} {s t : State} (h : Keeps m s t) (hm : m.testBit 30 = false) (k : Nat) : t.getDoms k = s.getDoms k := by
  unfold State.getDoms; rw [h.doms hm]
@[simp] theorem State.reg_putLedgers (s : State) (k : Nat) (v : Ledger) (r : Reg) (w i : Nat) : (s.putLedgers k v).reg r w i = s.reg r w i := rfl
@[simp] theorem State.rd_putLedgers (s : State) (k : Nat) (v : Ledger) (f : Fld) (w i : Nat) : (s.putLedgers k v).rd f w i = s.rd f w i := rfl
@[simp] theorem State.getLedgers_setReg (s : State) (r : Reg) (w i v k : Nat) : (s.setReg r w i v).getLedgers k = s.getLedgers k := rfl
@[simp] theorem State.getLedgers_wr (s : State) (f : Fld) (w i v k : Nat) : (s.wr f w i v).getLedgers k = s.getLedgers k := rfl
@[simp] theorem State.getLedgers_emit (s : State) (e : Emit) (k : Nat) : (s.emit e).getLedgers k = s.getLedgers k := rfl
theorem Keeps.getLedgers {m : Nat} {s t : State} (h : Keeps m s t) (hm : m.testBit 31 = false) (k : Nat) : t.getLedgers k = s.getLedgers k := by
  unfold State.getLedgers; rw [h.ledgers hm]
@[simp] theorem State.reg_putBups (s : State) (k : Nat) (v : Bup) (r : Reg) (w i : Nat) : (s.putBups k v).reg r w i = s.reg r w i := rfl
@[simp] theorem State.rd_putBups (s : State) (k : Nat) (v : Bup) (f : Fld) (w i : Nat) : (s.putBups k v).rd f w i = s.rd f w i := rfl
@[simp] theorem State.getBups_setReg (s : State) (r : Reg) (w i v k : Nat) : (s.setReg r w i v).getBups k = s.getBups k := rfl
@[simp] theorem State.getBups_wr (s : State) (f : Fld) (w i v k : Nat) : (s.wr f w i v).getBups k = s.getBups k := rfl
@[simp] theorem State.getBups_emit (s : State) (e : Emit) (k : Nat) : (s.emit e).getBups k = s.getBups k := rfl
theorem Keeps.getBups {m : Nat} {s t : State} (h : Keeps m s t) (hm : m.testBit 32 = false) (k : Nat) : t.getBups k = s.getBups k := by
  unfold State.getBups; rw [h.bups hm]
@[simp] theorem State.reg_putMeters (s : State) (k : Nat) (v : Meter) (r : Reg) (w i : Nat) : (s.putMeters k v).reg r w i = s.reg r w i := rfl
@[simp] theorem State.rd_putMeters (s : State) (k : Nat) (v : Meter) (f : Fld) (w i : Nat) : (s.putMeters k v).rd f w i = s.rd f w i := rfl
@[simp] theorem State.getMeters_setReg (s : State) (r : Reg) (w i v k : Nat) : (s.setReg r w i v).getMeters k = s.getMeters k := rfl
@[simp] theorem State.getMeters_wr (s : State) (f : Fld) (w i v k : Nat) : (s.wr f w i v).getMeters k = s.getMeters k := rfl
@[simp] theorem State.getMeters_emit (s : State) (e : Emit) (k : Nat) : (s.emit e).getMeters k = s.getMeters k := rfl
theorem Keeps.getMeters {m : Nat} {s t : State} (h : Keeps m s t) (hm : m.testBit 33 = false) (k : Nat) : t.getMeters k = s.getMeters k := by
  unfold State.getMeters; rw [h.meters hm]
@[simp] theorem State.reg_putAgeMons (s : State) (k : Nat) (v : AgeMon) (r : Reg) (w i : Nat) : (s.putAgeMons k v).reg r w i = s.reg r w i := rfl
@[simp] theorem State.rd_putAgeMons (s : State) (k : Nat) (v : AgeMon) (f : Fld) (w i : Nat) : (s.putAgeMons k v).rd f w i = s.rd f w i := rfl
@[simp] theorem State.getAgeMons_setReg (s : State) (r : Reg) (w i v k : Nat) : (s.setReg r w i v).getAgeMons k = s.getAgeMons k := rfl
@[simp] theorem State.getAgeMons_wr (s : State) (f : Fld) (w i v k : Nat) : (s.wr f w i v).getAgeMons k = s.getAgeMons k := rfl
@[simp] theorem State.getAgeMons_emit (s : State) (e : Emit) (k : Nat) : (s.emit e).getAgeMons k = s.getAgeMons k := rfl
theorem Keeps.getAgeMons {m : Nat} {s t : State} (h : Keeps m s t) (hm : m.testBit 34 = false) (k : Nat) : t.getAgeMons k = s.getAgeMons k := by
  unfold State.getAgeMons; rw [h.ageMons hm]
@[simp] theorem State.reg_putAgeQs (s : State) (k : Nat) (v : AgeQ) (r : Reg) (w i : Nat) : (s.putAgeQs k v).reg r w i = s.reg r w i := rfl
@[simp] theorem State.rd_putAgeQs (s : State) (k : Nat) (v : AgeQ) (f : Fld) (w i : Nat) : (s.putAgeQs k v).rd f w i = s.rd f w i := rfl
@[simp] theorem State.getAgeQs_setReg (s : State) (r : Reg) (w i v k : Nat) : (s.setReg r w i v).getAgeQs k = s.getAgeQs k := rfl
@[simp] theorem State.getAgeQs_wr (s : State) (f : Fld) (w i v k : Nat) : (s.wr f w i v).getAgeQs k = s.getAgeQs k := rfl
@[simp] theorem State.getAgeQs_emit (s : State) (e : Emit) (k : Nat) : (s.emit e).getAgeQs k = s.getAgeQs k := rfl
theorem Keeps.getAgeQs {m : Nat} {s t : State} (h : Keeps m s t) (hm : m.testBit 35 = false) (k : Nat) : t.getAgeQs k = s.getAgeQs k := by
  unfold State.getAgeQs; rw [h.ageQs hm]
@[simp] theorem State.reg_putThermChs (s : State) (k : Nat) (v : ThermCh) (r : Reg) (w i : Nat) : (s.putThermChs k v).reg r w i = s.reg r w i := rfl
@[simp] theorem State.rd_putThermChs (s : State) (k : Nat) (v : ThermCh) (f : Fld) (w i : Nat) : (s.putThermChs k v).rd f w i = s.rd f w i := rfl
@[simp] theorem State.getThermChs_setReg (s : State) (r : Reg) (w i v k : Nat) : (s.setReg r w i v).getThermChs k = s.getThermChs k := rfl
@[simp] theorem State.getThermChs_wr (s : State) (f : Fld) (w i v k : Nat) : (s.wr f w i v).getThermChs k = s.getThermChs k := rfl
@[simp] theorem State.getThermChs_emit (s : State) (e : Emit) (k : Nat) : (s.emit e).getThermChs k = s.getThermChs k := rfl
theorem Keeps.getThermChs {m : Nat} {s t : State} (h : Keeps m s t) (hm : m.testBit 36 = false) (k : Nat) : t.getThermChs k = s.getThermChs k := by
  unfold State.getThermChs; rw [h.thermChs hm]
@[simp] theorem State.reg_putWarming (s : State) (k : Nat) (v : (List Nat)) (r : Reg) (w i : Nat) : (s.putWarming k v).reg r w i = s.reg r w i := rfl
@[simp] theorem State.rd_putWarming (s : State) (k : Nat) (v : (List Nat)) (f : Fld) (w i : Nat) : (s.putWarming k v).rd f w i = s.rd f w i := rfl
@[simp] theorem State.getWarming_setReg (s : State) (r : Reg) (w i v k : Nat) : (s.setReg r w i v).getWarming k = s.getWarming k := rfl
@[simp] theorem State.getWarming_wr (s : State) (f : Fld) (w i v k : Nat) : (s.wr f w i v).getWarming k = s.getWarming k := rfl
@[simp] theorem State.getWarming_emit (s : State) (e : Emit) (k : Nat) : (s.emit e).getWarming k = s.getWarming k := rfl
theorem Keeps.getWarming {m : Nat} {s t : State} (h : Keeps m s t) (hm : m.testBit 37 = false) (k : Nat) : t.getWarming k = s.getWarming k := by
  unfold State.getWarming; rw [h.warming hm]
@[simp] theorem State.reg_putWafers (s : State) (k : Nat) (v : Wafer) (r : Reg) (w i : Nat) : (s.putWafers k v).reg r w i = s.reg r w i := rfl
@[simp] theorem State.rd_putWafers (s : State) (k : Nat) (v : Wafer) (f : Fld) (w i : Nat) : (s.putWafers k v).rd f w i = s.rd f w i := rfl
@[simp] theorem State.getWafers_setReg (s : State) (r : Reg) (w i v k : Nat) : (s.setReg r w i v).getWafers k = s.getWafers k := rfl
@[simp] theorem State.getWafers_wr (s : State) (f : Fld) (w i v k : Nat) : (s.wr f w i v).getWafers k = s.getWafers k := rfl
@[simp] theorem State.getWafers_emit (s : State) (e : Emit) (k : Nat) : (s.emit e).getWafers k = s.getWafers k := rfl
theorem Keeps.getWafers {m : Nat} {s t : State} (h : Keeps m s t) (hm : m.testBit 38 = false) (k : Nat) : t.getWafers k = s.getWafers k := by
  unfold State.getWafers; rw [h.wafers hm]
@[simp] theorem State.reg_putTmcs (s : State) (k : Nat) (v : Tmc) (r : Reg) (w i : Nat) : (s.putTmcs k v).reg r w i = s.reg r w i := rfl
@[simp] theorem State.rd_putTmcs (s : State) (k : Nat) (v : Tmc) (f : Fld) (w i : Nat) : (s.putTmcs k v).rd f w i = s.rd f w i := rfl
@[simp] theorem State.getTmcs_setReg (s : State) (r : Reg) (w i v k : Nat) : (s.setReg r w i v).getTmcs k = s.getTmcs k := rfl
@[simp] theorem State.getTmcs_wr (s : State) (f : Fld) (w i v k : Nat) : (s.wr f w i v).getTmcs k = s.getTmcs k := rfl
@[simp] theorem State.getTmcs_emit (s : State) (e : Emit) (k : Nat) : (s.emit e).getTmcs k = s.getTmcs k := rfl
theorem Keeps.getTmcs {m : Nat} {s t : State} (h : Keeps m s t) (hm : m.testBit 39 = false) (k : Nat) : t.getTmcs k = s.getTmcs k := by
  unfold State.getTmcs; rw [h.tmcs hm]
@[simp] theorem State.reg_putActs (s : State) (k : Nat) (v : Act) (r : Reg) (w i : Nat) : (s.putActs k v).reg r w i = s.reg r w i := rfl
@[simp] theorem State.rd_putActs (s : State) (k : Nat) (v : Act) (f : Fld) (w i : Nat) : (s.putActs k v).rd f w i = s.rd f w i := rfl
@[simp] theorem State.getActs_setReg (s : State) (r : Reg) (w i v k : Nat) : (s.setReg r w i v).getActs k = s.getActs k := rfl
@[simp] theorem State.getActs_wr (s : State) (f : Fld) (w i v k : Nat) : (s.wr f w i v).getActs k = s.getActs k := rfl
@[simp] theorem State.getActs_emit (s : State) (e : Emit) (k : Nat) : (s.emit e).getActs k = s.getActs k := rfl
theorem Keeps.getActs {m : Nat} {s t : State} (h : Keeps m s t) (hm : m.testBit 40 = false) (k : Nat) : t.getActs k = s.getActs k := by
  unfold State.getActs; rw [h.acts hm]
@[simp] theorem State.reg_putFws (s : State) (k : Nat) (v : FwPart) (r : Reg) (w i : Nat) : (s.putFws k v).reg r w i = s.reg r w i := rfl
@[simp] theorem State.rd_putFws (s : State) (k : Nat) (v : FwPart) (f : Fld) (w i : Nat) : (s.putFws k v).rd f w i = s.rd f w i := rfl
@[simp] theorem State.getFws_setReg (s : State) (r : Reg) (w i v k : Nat) : (s.setReg r w i v).getFws k = s.getFws k := rfl
@[simp] theorem State.getFws_wr (s : State) (f : Fld) (w i v k : Nat) : (s.wr f w i v).getFws k = s.getFws k := rfl
@[simp] theorem State.getFws_emit (s : State) (e : Emit) (k : Nat) : (s.emit e).getFws k = s.getFws k := rfl
theorem Keeps.getFws {m : Nat} {s t : State} (h : Keeps m s t) (hm : m.testBit 41 = false) (k : Nat) : t.getFws k = s.getFws k := by
  unfold State.getFws; rw [h.fws hm]
@[simp] theorem State.reg_putSpots (s : State) (k : Nat) (v : Spot) (r : Reg) (w i : Nat) : (s.putSpots k v).reg r w i = s.reg r w i := rfl
@[simp] theorem State.rd_putSpots (s : State) (k : Nat) (v : Spot) (f : Fld) (w i : Nat) : (s.putSpots k v).rd f w i = s.rd f w i := rfl
@[simp] theorem State.getSpots_setReg (s : State) (r : Reg) (w i v k : Nat) : (s.setReg r w i v).getSpots k = s.getSpots k := rfl
@[simp] theorem State.getSpots_wr (s : State) (f : Fld) (w i v k : Nat) : (s.wr f w i v).getSpots k = s.getSpots k := rfl
@[simp] theorem State.getSpots_emit (s : State) (e : Emit) (k : Nat) : (s.emit e).getSpots k = s.getSpots k := rfl
theorem Keeps.getSpots {m : Nat} {s t : State} (h : Keeps m s t) (hm : m.testBit 42 = false) (k : Nat) : t.getSpots k = s.getSpots k := by
  unfold State.getSpots; rw [h.spots hm]
@[simp] theorem State.reg_putTwis (s : State) (k : Nat) (v : Twi) (r : Reg) (w i : Nat) : (s.putTwis k v).reg r w i = s.reg r w i := rfl
@[simp] theorem State.rd_putTwis (s : State) (k : Nat) (v : Twi) (f : Fld) (w i : Nat) : (s.putTwis k v).rd f w i = s.rd f w i := rfl
@[simp] theorem State.getTwis_setReg (s : State) (r : Reg) (w i v k : Nat) : (s.setReg r w i v).getTwis k = s.getTwis k := rfl
@[simp] theorem State.getTwis_wr (s : State) (f : Fld) (w i v k : Nat) : (s.wr f w i v).getTwis k = s.getTwis k := rfl
@[simp] theorem State.getTwis_emit (s : State) (e : Emit) (k : Nat) : (s.emit e).getTwis k = s.getTwis k := rfl
theorem Keeps.getTwis {m : Nat} {s t : State} (h : Keeps m s t) (hm : m.testBit 43 = false) (k : Nat) : t.getTwis k = s.getTwis k := by
  unfold State.getTwis; rw [h.twis hm]
@[simp] theorem State.reg_putTafKept (s : State) (k : Nat) (v : (List (Nat × Nat × List Nat))) (r : Reg) (w i : Nat) : (s.putTafKept k v).reg r w i = s.reg r w i := rfl
@[simp] theorem State.rd_putTafKept (s : State) (k : Nat) (v : (List (Nat × Nat × List Nat))) (f : Fld) (w i : Nat) : (s.putTafKept k v).rd f w i = s.rd f w i := rfl
@[simp] theorem State.getTafKept_setReg (s : State) (r : Reg) (w i v k : Nat) : (s.setReg r w i v).getTafKept k = s.getTafKept k := rfl
@[simp] theorem State.getTafKept_wr (s : State) (f : Fld) (w i v k : Nat) : (s.wr f w i v).getTafKept k = s.getTafKept k := rfl
@[simp] theorem State.getTafKept_emit (s : State) (e : Emit) (k : Nat) : (s.emit e).getTafKept k = s.getTafKept k := rfl
theorem Keeps.getTafKept {m : Nat} {s t : State} (h : Keeps m s t) (hm : m.testBit 44 = false) (k : Nat) : t.getTafKept k = s.getTafKept k := by
  unfold State.getTafKept; rw [h.tafKept hm]
@[simp] theorem State.reg_putEtags (s : State) (k : Nat) (v : Nat) (r : Reg) (w i : Nat) : (s.putEtags k v).reg r w i = s.reg r w i := rfl
@[simp] theorem State.rd_putEtags (s : State) (k : Nat) (v : Nat) (f : Fld) (w i : Nat) : (s.putEtags k v).rd f w i = s.rd f w i := rfl
@[simp] theorem State.getEtags_setReg (s : State) (r : Reg) (w i v k : Nat) : (s.setReg r w i v).getEtags k = s.getEtags k := rfl
@[simp] theorem State.getEtags_wr (s : State) (f : Fld) (w i v k : Nat) : (s.wr f w i v).getEtags k = s.getEtags k := rfl
@[simp] theorem State.getEtags_emit (s : State) (e : Emit) (k : Nat) : (s.emit e).getEtags k = s.getEtags k := rfl
theorem Keeps.getEtags {m : Nat} {s t : State} (h : Keeps m s t) (hm : m.testBit 45 = false) (k : Nat) : t.getEtags k = s.getEtags k := by
  unfold State.getEtags; rw [h.etags hm]
@[simp] theorem State.reg_putPlans (s : State) (k : Nat) (v : PlanW) (r : Reg) (w i : Nat) : (s.putPlans k v).reg r w i = s.reg r w i := rfl
@[simp] theorem State.rd_putPlans (s : State) (k : Nat) (v : PlanW) (f : Fld) (w i : Nat) : (s.putPlans k v).rd f w i = s.rd f w i := rfl
@[simp] theorem State.getPlans_setReg (s : State) (r : Reg) (w i v k : Nat) : (s.setReg r w i v).getPlans k = s.getPlans k := rfl
@[simp] theorem State.getPlans_wr (s : State) (f : Fld) (w i v k : Nat) : (s.wr f w i v).getPlans k = s.getPlans k := rfl
@[simp] theorem State.getPlans_emit (s : State) (e : Emit) (k : Nat) : (s.emit e).getPlans k = s.getPlans k := rfl
theorem Keeps.getPlans {m : Nat} {s t : State} (h : Keeps m s t) (hm : m.testBit 46 = false) (k : Nat) : t.getPlans k = s.getPlans k := by
  unfold State.getPlans; rw [h.plans hm]
@[simp] theorem State.reg_putShelves (s : State) (k : Nat) (v : Shelf) (r : Reg) (w i : Nat) : (s.putShelves k v).reg r w i = s.reg r w i := rfl
@[simp] theorem State.rd_putShelves (s : State) (k : Nat) (v : Shelf) (f : Fld) (w i : Nat) : (s.putShelves k v).rd f w i = s.rd f w i := rfl
@[simp] theorem State.getShelves_setReg (s : State) (r : Reg) (w i v k : Nat) : (s.setReg r w i v).getShelves k = s.getShelves k := rfl
@[simp] theorem State.getShelves_wr (s : State) (f : Fld) (w i v k : Nat) : (s.wr f w i v).getShelves k = s.getShelves k := rfl
@[simp] theorem State.getShelves_emit (s : State) (e : Emit) (k : Nat) : (s.emit e).getShelves k = s.getShelves k := rfl
theorem Keeps.getShelves {m : Nat} {s t : State} (h : Keeps m s t) (hm : m.testBit 47 = false) (k : Nat) : t.getShelves k = s.getShelves k := by
  unfold State.getShelves; rw [h.shelves hm]

/-! ## Attention -/

theorem bitAt_testBit (v i : Nat) : bitAt v i = v.testBit i := by
  unfold bitAt
  rw [Nat.testBit_eq_decide_div_mod_eq, Nat.shiftRight_eq_div_pow]
  rfl

theorem State.raiseBare_cause (s : State) (w : Nat) (l : Leaf) (g : Nat) :
    (s.raiseBare w l).reg ATN_CAUSE w g = s.reg ATN_CAUSE w g ∨
      (g = l.g ∧ (s.raiseBare w l).reg ATN_CAUSE w g = (s.reg ATN_CAUSE w g ||| 2 ^ l.b) % 2 ^ 64) := by
  unfold State.raiseBare
  dsimp only
  have hg : ∀ (t : State) (v : Nat), (t.setReg ATN_GTIME w l.g v).reg ATN_CAUSE w g = t.reg ATN_CAUSE w g :=
    fun t v => State.reg_setReg_ne _ _ _ _ _ _ _ _ (Or.inl (by decide))
  have ha : ∀ (t : State) (v : Nat), (t.setReg ATN_AGAIN w 0 v).reg ATN_CAUSE w g = t.reg ATN_CAUSE w g :=
    fun t v => State.reg_setReg_ne _ _ _ _ _ _ _ _ (Or.inl (by decide))
  have hh : ∀ (t : State), (t.hostEvent w).reg ATN_CAUSE w g = t.reg ATN_CAUSE w g :=
    fun t => (State.hostEvent_keeps t w).regs _ _ _ (by decide) (by decide +kernel)
  have ht : ∀ (t : State), (t.tmcEvent w l.g).reg ATN_CAUSE w g = t.reg ATN_CAUSE w g :=
    fun t => (State.tmcEvent_keeps t w l.g).regs _ _ _ (by decide) (by decide +kernel)
  have hs : ((s.setReg ATN_GTIME w l.g (s.tbNow w)).setReg ATN_CAUSE w l.g (s.reg ATN_CAUSE w l.g ||| 2 ^ l.b)).reg ATN_CAUSE w g = s.reg ATN_CAUSE w g ∨
      (g = l.g ∧ ((s.setReg ATN_GTIME w l.g (s.tbNow w)).setReg ATN_CAUSE w l.g (s.reg ATN_CAUSE w l.g ||| 2 ^ l.b)).reg ATN_CAUSE w g =
        (s.reg ATN_CAUSE w g ||| 2 ^ l.b) % 2 ^ 64) := by
    by_cases e : g = l.g
    · subst e; exact Or.inr ⟨rfl, State.reg_setReg_same _ _ _ _ _⟩
    · left; rw [State.reg_setReg_ne _ _ _ _ _ _ _ _ (Or.inr (Or.inr e)), hg]
  split
  · left; rw [ha, hg]
  · split
    · exact hs
    · split
      · split
        · exact hs
        · rw [hh]; exact hs
      · rw [ht]
        split
        · exact hs
        · rw [hh]; exact hs

/-- A raise sets no leaf to 0. -/
theorem State.raiseBare_mono (s : State) (w : Nat) (l m : Leaf) (h : s.leafSet w m = true) (hb : m.b < 64) : (s.raiseBare w l).leafSet w m = true := by
  unfold State.leafSet at *
  rw [bitAt_testBit] at *
  rcases State.raiseBare_cause s w l m.g with e | ⟨_, e⟩
  · rw [e]; exact h
  · rw [e, Nat.testBit_mod_two_pow, Nat.testBit_or, h]; simp [hb]

theorem State.raiseBare_sets (s : State) (w : Nat) (l : Leaf) (hb : l.b < 64) : (s.raiseBare w l).leafSet w l = true := by
  unfold State.leafSet
  by_cases h : bitAt (s.reg ATN_CAUSE w l.g) l.b = true
  · exact State.raiseBare_mono s w l l h hb
  · have hg : ∀ (t : State) (v : Nat), (t.setReg ATN_CAUSE w l.g v).reg ATN_CAUSE w l.g = v % 2 ^ 64 := fun t v => State.reg_setReg_same _ _ _ _ _
    have hh : ∀ (t : State), (t.hostEvent w).reg ATN_CAUSE w l.g = t.reg ATN_CAUSE w l.g :=
      fun t => (State.hostEvent_keeps t w).regs _ _ _ (by decide) (by decide +kernel)
    have ht : ∀ (t : State), (t.tmcEvent w l.g).reg ATN_CAUSE w l.g = t.reg ATN_CAUSE w l.g :=
      fun t => (State.tmcEvent_keeps t w l.g).regs _ _ _ (by decide) (by decide +kernel)
    have key : bitAt ((s.reg ATN_CAUSE w l.g ||| 2 ^ l.b) % 2 ^ 64) l.b = true := by
      rw [bitAt_testBit, Nat.testBit_mod_two_pow, Nat.testBit_or, Nat.testBit_two_pow]; simp [hb]
    unfold State.raiseBare
    dsimp only
    rw [if_neg h]
    split
    · rw [hg]; exact key
    · split
      · split
        · rw [hg]; exact key
        · rw [hh, hg]; exact key
      · rw [ht]
        split
        · rw [hg]; exact key
        · rw [hh, hg]; exact key

theorem State.leafSet_wr (t : State) (f : Fld) (w x i v : Nat) (m : Leaf) (hf : f.reg.id ≠ ATN_CAUSE.id) : (t.wr f x i v).leafSet w m = t.leafSet w m := by
  unfold State.leafSet
  rw [State.reg_wr_ne _ _ _ _ _ _ _ _ (Or.inl (Ne.symm hf))]

theorem State.leafSet_emit (t : State) (e : Emit) (w : Nat) (m : Leaf) : (t.emit e).leafSet w m = t.leafSet w m := rfl

theorem leafSet_ite {p : Prop} [Decidable p] {a b : State} {w : Nat} {m : Leaf} (ha : a.leafSet w m = true) (hb : b.leafSet w m = true) :
    (if p then a else b).leafSet w m = true := by
  split
  · exact ha
  · exact hb

theorem State.wakeEvent_mono (s : State) (w g : Nat) (m : Leaf) (h : s.leafSet w m = true) (hb : m.b < 64) : (s.wakeEvent w g).leafSet w m = true := by
  unfold State.wakeEvent
  have h1 : (s.wr HIF_WAKE_GROUPS w 0 (s.rd HIF_WAKE_GROUPS w 0 ||| 2 ^ g)).leafSet w m = true := by
    rw [State.leafSet_wr _ _ _ _ _ _ _ (by decide)]; exact h
  generalize s.wr HIF_WAKE_GROUPS w 0 (s.rd HIF_WAKE_GROUPS w 0 ||| 2 ^ g) = s1 at h1 ⊢
  have h2 : ((s1.wr HIF_WAKE_PME_STATUS w 0 1).raiseBare w Leaf.wake).leafSet w m = true := by
    apply State.raiseBare_mono _ _ _ _ _ hb
    rw [State.leafSet_wr _ _ _ _ _ _ _ (by decide)]; exact h1
  dsimp only
  generalize (s1.wr HIF_WAKE_PME_STATUS w 0 1).raiseBare w Leaf.wake = s2 at h2 ⊢
  have h3 : ∀ v, (s2.wr HIF_WAKE_SIGNAL w 0 v).leafSet w m = true := by
    intro v; rw [State.leafSet_wr _ _ _ _ _ _ _ (by decide)]; exact h2
  have hw : ∀ (t : State) (v : Nat), t.leafSet w m = true → (t.wr HIF_WAKE_GROUPS w 0 v).leafSet w m = true := by
    intro t v ht; rw [State.leafSet_wr _ _ _ _ _ _ _ (by decide)]; exact ht
  have h4 : (if s2.rd HIF_LINK_DSTATE w 0 = 2 then
      if (s2.rd HIF_LINK_PERST w 0 == 1) = true then (s2.wr HIF_WAKE_SIGNAL w 0 1).wr HIF_WAKE_WAKE_ASSERTED w 0 1 else s2
      else (s2.wr HIF_WAKE_SIGNAL w 0 2).emit (.pme w)).leafSet w m = true := by
    refine leafSet_ite (leafSet_ite ?_ h2) ?_
    · rw [State.leafSet_wr _ _ _ _ _ _ _ (by decide)]; exact h3 1
    · rw [State.leafSet_emit]; exact h3 2
  exact leafSet_ite h1 (leafSet_ite (hw _ _ h4) h4)

theorem State.wakeCheck_mono (s : State) (w g before : Nat) (m : Leaf) (h : s.leafSet w m = true) (hb : m.b < 64) : (s.wakeCheck w g before).leafSet w m = true := by
  unfold State.wakeCheck
  exact leafSet_ite (State.wakeEvent_mono s w g m h hb) h

/-- A raise sets its leaf (R597). -/
theorem State.raise_sets (s : State) (w : Nat) (l : Leaf) (hb : l.b < 64) : (s.raise w l).leafSet w l = true := by
  unfold State.raise
  exact State.wakeCheck_mono _ _ _ _ _ (State.raiseBare_sets s w l hb) hb

/-- A raise sets no leaf to 0 (R597). -/
theorem State.raise_mono (s : State) (w : Nat) (l m : Leaf) (h : s.leafSet w m = true) (hb : m.b < 64) : (s.raise w l).leafSet w m = true := by
  unfold State.raise
  exact State.wakeCheck_mono _ _ _ _ _ (State.raiseBare_mono s w l m h hb) hb

end Sys2Proof.Machine
end

