-- ==== Sys2Proof/Tests/Slice0.lean ====
section
/-!
SUPPORT. The tests of the first slice: for each statement a state that meets its hypotheses, a term that each check of well-formedness refuses, and commands whose results
the specification works out as examples.
-/
set_option Elab.async false
open Sys2Proof Sys2Proof.Machine

/-! The checks of well-formedness: for each, a term just inside it and one just outside. -/
namespace Sys2Proof.Tests

/-- Every field of a packet at the greatest value of its width (R145). -/
def fullPacket : Packet := { act := 1, cls := 3, level := 1, dline := 1, typ := 15, rsvd := 4095, dest := 2 ^ 23 - 1, src := 2 ^ 23 - 1, spart := 511, tseq := 2 ^ 32 - 1, addr := 2 ^ 40 - 1,
                             rid := 2 ^ 16 - 1, aux := 2 ^ 16 - 1, pcrc := 2 ^ 32 - 1, hcrc := 2 ^ 16 - 1, payload := List.replicate 512 255 }

theorem test_packet_inside : fullPacket.ok = true := by decide +kernel
theorem test_packet_act_outside : Packet.ok { act := 2 } = false := by decide
theorem test_packet_cls_outside : Packet.ok { cls := 4 } = false := by decide
theorem test_packet_level_outside : Packet.ok { level := 2 } = false := by decide
theorem test_packet_dline_outside : Packet.ok { dline := 2 } = false := by decide
theorem test_packet_typ_outside : Packet.ok { typ := 16 } = false := by decide
theorem test_packet_rsvd_outside : Packet.ok { rsvd := 4096 } = false := by decide
theorem test_packet_dest_outside : Packet.ok { dest := 2 ^ 23 } = false := by decide
theorem test_packet_src_outside : Packet.ok { src := 2 ^ 23 } = false := by decide
theorem test_packet_spart_outside : Packet.ok { spart := 512 } = false := by decide
theorem test_packet_tseq_outside : Packet.ok { tseq := 2 ^ 32 } = false := by decide
theorem test_packet_addr_outside : Packet.ok { addr := 2 ^ 40 } = false := by decide
theorem test_packet_rid_outside : Packet.ok { rid := 2 ^ 16 } = false := by decide
theorem test_packet_aux_outside : Packet.ok { aux := 2 ^ 16 } = false := by decide
theorem test_packet_pcrc_outside : Packet.ok { pcrc := 2 ^ 32 } = false := by decide
theorem test_packet_hcrc_outside : Packet.ok { hcrc := 2 ^ 16 } = false := by decide
theorem test_packet_payload_outside : Packet.ok { payload := List.replicate 513 0 } = false := by decide +kernel
theorem test_packet_byte_outside : Packet.ok { payload := [256] } = false := by decide

theorem test_wf_forward : Instr.wf (.routerForward 3 10 .router 0 { typ := 16 } .good) = false := by decide
theorem test_wf_path : pathOk 0 1024 = true ∧ pathOk 0 1025 = false ∧ pathOk 0 0 = false ∧ pathOk 1 8 = true ∧ pathOk 1 9 = false ∧ pathOk 2 1 = true ∧ pathOk 2 2 = false := by decide
theorem test_wf_run : runOk 0x3FFFFF 1 = true ∧ runOk 0x3FFFFF 2 = false := by decide
theorem test_wf_write : Instr.wf (.registerWrite 3 0 0x3FFFFF [(15, 1)]) = true ∧ Instr.wf (.registerWrite 3 0 0x3FFFFF [(15, 1), (15, 1)]) = false ∧
    Instr.wf (.registerWrite 3 0 0 [(0, 1)]) = false ∧ Instr.wf (.registerWrite 3 0 0 []) = false := by decide
theorem test_wf_read : Instr.wf (.rcRead 3 1 0 [15]) = true ∧ Instr.wf (.rcRead 3 1 0 [0]) = false ∧ Instr.wf (.rcRead 3 1 0 []) = false ∧
    Instr.wf (.rcRead 3 0 0x3FFFFF [1, 1]) = false := by decide
theorem test_wf_act_change : ActChange.ok (.dropWafer 35) = true ∧ ActChange.ok (.dropWafer 36) = false ∧ ActChange.ok (.dropPlane 16) = false ∧
    ActChange.ok (.dropSpine 36 0) = false ∧ ActChange.ok (.dropSpine 0 72) = false ∧ ActChange.ok (.addWafer 36) = false ∧ ActChange.ok (.addPlane 16) = false ∧
    ActChange.ok (.addSpine 36 0) = false ∧ ActChange.ok (.addSpine 0 72) = false ∧ ActChange.ok (.routes 36) = false := by decide
theorem test_wf_change_commands : Instr.wf (.actChangeRequest (.dropPlane 16)) = false ∧ Instr.wf (.unitAdmit (.addSpine 36 0)) = false := by decide
theorem test_wf_routes : Instr.wf (.actBuild [{ w := 3, kind := 6, field := 0, index := 5183, entry := 0 }]) = true ∧
    Instr.wf (.actBuild [{ w := 3, kind := 6, field := 0, index := 5184, entry := 0 }]) = false ∧ Instr.wf (.actBuild [{ w := 3, kind := 0, field := 0, index := 144, entry := 0 }]) = false ∧
    Instr.wf (.actBuild [{ w := 3, kind := 1, field := 0, index := 84, entry := 0 }]) = false ∧ Instr.wf (.actBuild [{ w := 3, kind := 2, field := 0, index := 16, entry := 0 }]) = false ∧
    Instr.wf (.actBuild [{ w := 3, kind := 3, field := 0, index := 2560, entry := 0 }]) = false ∧ Instr.wf (.actBuild [{ w := 3, kind := 4, field := 0, index := 20, entry := 0 }]) = false ∧
    Instr.wf (.actBuild [{ w := 3, kind := 5, field := 0, index := 36, entry := 0 }]) = false := by decide
theorem test_wf_findings : TestFinding.ok { objType := 0, kind := 19, object := 0, signature := 0 } = true ∧ TestFinding.ok { objType := 0, kind := 20, object := 0, signature := 0 } = false ∧
    Instr.wf (.bringupDone 3 [{ objType := 0, kind := 0, object := 0, signature := 0 }]) = false ∧
    Instr.wf (.fdrCommit 3 [{ objType := 0, kind := 20, object := 0, signature := 0 }]) = false ∧
    Instr.wf (.fieldRetestDone 3 [{ objType := 0, kind := 20, object := 0, signature := 0 }] [] []) = false := by decide
theorem test_wf_descriptor : DmaArrival.ok (.desc { haddr := 2 ^ 64 - 1, laddr := 2 ^ 47 - 1, len := 2 ^ 32 - 1, dir := true, irq := true, rsvd := true, cookie := 2 ^ 32 - 1 }) = true ∧
    DmaArrival.ok (.desc { haddr := 2 ^ 64, laddr := 0, len := 0, dir := true, irq := true, rsvd := true, cookie := 0 }) = false ∧
    DmaArrival.ok (.desc { haddr := 0, laddr := 2 ^ 47, len := 0, dir := true, irq := true, rsvd := true, cookie := 0 }) = false ∧
    DmaArrival.ok (.desc { haddr := 0, laddr := 0, len := 2 ^ 32, dir := true, irq := true, rsvd := true, cookie := 0 }) = false ∧
    DmaArrival.ok (.desc { haddr := 0, laddr := 0, len := 0, dir := true, irq := true, rsvd := true, cookie := 2 ^ 32 }) = false ∧
    Instr.wf (.dmaCompletion 3 0 (.data [])) = false ∧ Instr.wf (.dmaCompletion 3 0 (.data [1])) = true := by decide
theorem test_wf_aperture : apertureOk 0xFFFFFFFFF 1 = true ∧ apertureOk 0xFFFFFFFFF 2 = false ∧ apertureOk 0 0 = false ∧ apertureOk 0 4096 = true ∧ apertureOk 0 4097 = false ∧
    Instr.wf (.apertureRead 3 0xFFFFFFFFF 2 .good) = false ∧ Instr.wf (.apertureWrite 3 0 [] .good) = false := by decide
theorem test_wf_frames : frameOk (List.replicate 1500 0) = true ∧ frameOk (List.replicate 1501 0) = false := by decide +kernel
theorem test_wf_frame_commands : Instr.wf (.tafReadRequest 0 0 (List.replicate 1501 0)) = false ∧ Instr.wf (.tafWriteRequest 0 0 (List.replicate 1501 0)) = false ∧
    Instr.wf (.tafResponse 0 (List.replicate 1501 0)) = false ∧ Instr.wf (.tafEvent 0 (List.replicate 1501 0)) = false := by decide +kernel
theorem test_wf_command_block : Instr.wf (.cmdFwd 3 5 0 (List.replicate 64 0)) = true ∧ Instr.wf (.cmdFwd 3 5 0 (List.replicate 63 0)) = false := by decide
theorem test_wf_command_arguments : Instr.wf (.cmdFwd 3 5 0 (List.replicate 4161 0)) = false := by decide +kernel
theorem test_wf_link_blocks : Instr.wf (.linkBlockTx (.port 3 0) (List.replicate 16 { kind := 0, vc := 0, data := 0 })) = true ∧
    Instr.wf (.linkBlockTx (.port 3 0) (List.replicate 17 { kind := 0, vc := 0, data := 0 })) = false := by decide
theorem test_wf_link_bytes : Instr.wf (.linkBlockRx (.port 3 0) (List.replicate 544 0)) = true ∧ Instr.wf (.linkBlockRx (.port 3 0) (List.replicate 543 0)) = false := by decide +kernel
theorem test_wf_go_and_tod : Instr.wf (.goFrame 3 (List.replicate 16 0)) = true ∧ Instr.wf (.goFrame 3 (List.replicate 17 0)) = false ∧ Instr.wf (.todFrame 3 (List.replicate 16 0)) = false := by decide
theorem test_wf_energy : Instr.wf (.energySample 3 0 [0, 0, 0, 0] []) = true ∧ Instr.wf (.energySample 3 0 [0, 0, 0] []) = false := by decide
theorem test_wf_presence : Instr.wf (.presenceChange 0 0 true []) = true ∧ Instr.wf (.presenceChange 0 0 true [0]) = false := by decide
theorem test_wf_digests : Instr.wf (.firmwareInstall 1 0 0 0 (List.replicate 31 0)) = false ∧ Instr.wf (.firmwareWriteDone 1 0 []) = false ∧
    Instr.wf (.simpleUpdate 0 1 0 0 [] true) = false ∧ Instr.wf (.multipartUpdate 0 1 0 0 [] true) = false := by decide
theorem test_wf_window_access : Instr.wf (.windowAccess 0 3 0 256 []) = true ∧ Instr.wf (.windowAccess 0 3 0 0 []) = false ∧ Instr.wf (.windowAccess 0 3 0 257 []) = false := by decide
theorem test_wf_window_data : Instr.wf (.windowAccess 0 3 0 1 (List.replicate 257 0)) = false := by decide +kernel
theorem test_wf_two_wire : Instr.wf (.twiWrite 3 0 [] none 60) = true ∧ Instr.wf (.twiWrite 3 0 [] none 61) = false ∧ Instr.wf (.twiRead 3 [] 61) = false ∧
    Instr.wf (.twiCtrlDone 3 0 0 (List.replicate 33 0)) = false := by decide
theorem test_wf_two_wire_lengths : Instr.wf (.twiWrite 3 0 (List.replicate 257 0) none 0) = false ∧ Instr.wf (.twiRead 3 (List.replicate 258 0) 0) = false := by decide +kernel

end Sys2Proof.Tests

/-! Witnesses of the statements, and the states they use. -/
namespace Sys2Proof.Tests

/-- The state after a command; the same state if it answered none. -/
def after (c : Instr) (s : State) : State := match exec c s with | .next t => t | _ => s

/-- A wafer whose quadrants, spine and loft of field 10 are ON, with a core of field 10 as given. -/
def coreState (c : Core) : State :=
  ((((((State.reset.wr PWR_DOM_STAT_STATE 3 40 3).wr PWR_DOM_STAT_STATE 3 41 3).wr PWR_DOM_STAT_STATE 3 42 3).wr PWR_DOM_STAT_STATE 3 43 3).wr
    PWR_DOM_STAT_STATE 3 298 3).wr PWR_DOM_STAT_STATE 3 370 3).setCore 3 10 27 c

/-- The bytes other than 0 of a partition image of one STRUCT record (R241-R246), with their places: PRT_PRIO of partition 5 becomes 9. The check values and the digest
were computed outside the model, with another CRC-32C and SHA-256. -/
def testImage : List (Nat × Nat) :=
    [(0, 70), (1, 69), (2, 82), (3, 65), (4, 72), (5, 83), (6, 69), (7, 84), (8, 1), (13, 1), (16, 128), (17, 1), (25, 1), (26, 1), (29, 1), (32, 5), (48, 255), (212, 107), (213, 138), (214, 207), (215, 63), (216, 77), (220, 202), (221, 48)] ++
    [(222, 120), (223, 137), (224, 99), (225, 88), (226, 74), (227, 190), (228, 52), (229, 170), (230, 79), (231, 94), (232, 86), (233, 125), (234, 188), (235, 173), (236, 192), (237, 180), (238, 145), (239, 235), (240, 58), (241, 245), (242, 21), (243, 27), (244, 106), (245, 85)] ++
    [(246, 13), (247, 17), (248, 67), (249, 45), (250, 117), (251, 64), (252, 212), (253, 222), (254, 32), (255, 16), (256, 1), (264, 64), (265, 1), (272, 16), (280, 217), (281, 248), (282, 73), (283, 34), (284, 1), (320, 68), (321, 1), (322, 11), (324, 4), (328, 9)]

/-- A wafer whose loft of field 10 holds the image, and whose loader is to check it. -/
def loadState : State :=
  (((coreState {}).withLoft (testImage.map fun x => (loftKey 3 10 (0x580000000 + x.1), BitVec.ofNat 8 x.2))).putLoads 3 { field := 10, off := 0x580000000, len := 384, part := 5 }).wr IMG_STAT_STATE 3 0 1

/-- A lead partition 7 of the quadrants of field 10, with one queue. -/
def jobState : State :=
  ((((((coreState {}).setReg PRT_DEF 3 7 (0x10000 + 3 * 2 ^ 17)).setReg PRT_QMASK 3 64 0xF00).wr PRT_STAT_STATE 3 7 1).wr PRT_QCFG_QUEUES 3 7 2).wr PRT_QCFG_RING_LOG2 3 7 4).wr
    PRT_QCFG_RING_FIELD 3 7 10

/-- A wafer in a phase of bring-up with 72 domains from `lo` ON. -/
def phaseState (n lo : Nat) : State :=
  ((((State.reset.withRegs ((List.range 72).map fun i => (PWR_DOM_STAT.key 3 (lo + i), 3))).modWafers 3 fun x => { x with powered := true }).modBups 3 fun b =>
    { b with starting := true, powering := true }).wr BUP_STAT_PHASE 3 0 n).wr TB_STAT_QUALITY 3 0 0

end Sys2Proof.Tests
open Sys2Proof.Tests


theorem witness_StepRunsTheFrontCommand : (State.reset.withPending [.markerSend]).pending = .markerSend :: [] := rfl

theorem witness_IdleStepPassesTime : State.reset.pending = [] := rfl

theorem witness_StepKeepsCanonical : State.reset.canon = true ∧ step State.reset = .next (State.reset.withNow 1) := ⟨by decide +kernel, rfl⟩

theorem witness_ResetValues : State.reset.rd PWR_CAP_CAP_W 7 0 = 19000 := by decide +kernel

theorem witness_WindowAndJournal :
    let s := (State.reset.modWafers 3 fun x => { x with powered := true }).wr BUP_STAT_READY 3 0 1
    let u := s.wr CUE_SSTAT_STATE 3 1 3 |>.wr CUE_SSTAT_SCOPE 3 1 1
    let t := after (.registerWrite 3 1 (BitVec.ofNat 22 (0xB0144 / 4)) [(15, 9)]) s
    s.windowOpen 3 1 = true ∧ s.unserved 3 0xB0144 = false ∧ (regAt windowRegs 0xB0144).map (fun x => (x.1.id, x.2)) = some (PRT_PRIO.id, 5, false) ∧ PRT_PRIO.wide = false ∧
    s.stLocked 3 PRT_PRIO 5 = false ∧ u.stLocked 3 PRT_PRIO 5 = true ∧ (actingRegs.find? fun x => x.1.id == PRT_PRIO.id).isNone = true ∧ PRT_PRIO.reservedBits 9 = 0 ∧
    (shownRegs.find? fun x => x.1.id == PRT_PRIO.id).isNone = true ∧ s.rd ID_ERR_STAT_VALID 3 0 = 0 ∧ s.rd ID_ERR_STAT_COUNT 3 0 = 0 ∧ s.unserved 3 0x200000 = true ∧
    (regAt windowRegs 0x1FFFFC).isNone = true ∧ s.unserved 3 0x1FFFFC = false ∧ t.wreg PRT_PRIO 3 5 = 9 ∧ t.reg PRT_PRIO 3 5 = 8 ∧
    (after (.registerWrite 3 1 (BitVec.ofNat 22 (0xB0144 / 4)) [(15, 9)]) u).rd ID_ERR_STAT_KIND 3 0 = 4 ∧
    (after (.registerWrite 3 1 (BitVec.ofNat 22 (0xB0144 / 4)) [(3, 9)]) s).rd ID_ERR_STAT_KIND 3 0 = 3 := by decide +kernel

theorem witness_WindowAndJournal_JournalFetches :
    let s := State.reset.journal 3 1 0 1 0 0 [1, 2, 3] []
    let f := after (.journalFetch 3 0) s
    ((s.getJournals 3).entries.find? fun x => x.inRing && !x.inFlash).isSome = true ∧ (f.getJournals 3).fetching = some 0 ∧ (f.getJournals 3).held.isSome = true ∧
    ((after (.journalFetch 3 7) s).getJournals 3).held = none ∧ (after (.journalFetchDone 3) f).reg ID_JRNL_ENTRY 3 4 = 0x401 ||| (s.quality 3 * 256) ∧
    (after (.journalFetchDone 3) (after (.journalFetch 3 7) s)).rd ID_JRNL_FETCH_RESULT 3 0 = 2 := by decide +kernel

theorem witness_UnimplementedOffsets :
    let s := (State.reset.modWafers 3 fun x => { x with powered := true }).wr BUP_STAT_READY 3 0 1
    let word : BitVec 22 := BitVec.ofNat 22 (0x1FFFF8 / 4)
    s.windowOpen 3 1 = true ∧ s.unserved 3 (word.toNat * 4) = false ∧ (regAt windowRegs (word.toNat * 4)).isNone = true ∧ word.toNat % 2 = 0 ∧
    (regAt windowRegs (word.toNat * 4 + 4)).isNone = true := by decide +kernel

theorem witness_ScalarUnitAndControl :
    let s := coreState { st := .run, g := [(1, 0xFFFFFFFF), (2, 2), (4, 6)], inexact := true }
    s.issues 3 10 27 = true ∧ (s.core 3 10 27).reg 2 < 32 ∧ ((after (.intArithmetic 3 10 27 .add 5 1 2) s).core 3 10 27).reg 5 = 1 ∧
    ((after (.intArithmetic 3 10 27 .sub 5 2 1) s).core 3 10 27).reg 5 = 3 ∧ ((after (.logic 3 10 27 .shiftRight 5 1 4) s).core 3 10 27).reg 5 = 0x3FFFFFF ∧
    ((after (.compare 3 10 27 .ltSigned 5 1 2) s).core 3 10 27).reg 5 = 1 ∧ ((after (.flags 3 10 27 5) s).core 3 10 27).reg 5 = 8 := by decide +kernel

theorem witness_ScalarUnitAndControl_BranchAndWait :
    let s := coreState { st := .run, signals := [(3, 5)], g := [(1, 1)] }
    s.issues 3 10 27 = true ∧ (3071#16).toNat < 3072 ∧ (5#32).toNat ≤ (s.core 3 10 27).signal 3 ∧ (s.core 3 10 27).signal 3 < (6#32).toNat ∧
    ((after (.branch 3 10 27 (.nonzero 1) 3071) s).core 3 10 27).pc = 3071 ∧ ((after (.wait 3 10 27 3 6) s).core 3 10 27).wait = .signal 3 6 := by decide +kernel

theorem witness_VectorAndMatrixUnits :
    let s := coreState { st := .run }
    s.issues 3 10 27 = true ∧ (s.core 3 10 27).spadPoison = [] := by decide +kernel

theorem witness_VectorAndMatrixUnits_MatrixStepAndConversion :
    let s := coreState { st := .run }
    s.issues 3 10 27 = true ∧ (s.core 3 10 27).spadPoison = [] ∧ bitAt (s.core 3 10 27).mode 0 = false ∧ fmtPair .e4m3 .e5m2 = true ∧ (2 : Fin 8).val / 2 ≠ (0 : Fin 4).val ∧
    (4 : Fin 8).val / 2 ≠ (0 : Fin 4).val ∧ cvtLegal .fp32 .bf16 = true ∧ cvtMx .bf16 = none := by decide +kernel

theorem witness_LocalMemory :
    let s := coreState { st := .run, g := [(1, 0x01020304)], spad := [(0x100, 7)] }
    s.issues 3 10 27 = true ∧ (s.core 3 10 27).spadPoison = [] ∧ accessible 0x12BFC 4 = true ∧ accessible 0x13000 4 = false ∧ accessible 0x12400 0x800 = true ∧
    s.watchAt 3 10 27 0x100 4 1 = none ∧ s.watchAt 3 10 27 0x100 4 2 = none ∧ s.watchAt 3 10 27 0x100 0x800 1 = none ∧ s.watchAt 3 10 27 0x100 0x800 2 = none := by decide +kernel

theorem witness_MessagesOfACore :
    let c0 : Core := { st := .run, part := some 7, spad := [(0x100, 7)] }
    let s := (coreState c0).setReg NET_SEAT_DATA 3 (seatIdx 7 true 0) (1 + 2 ^ 37) |>.setReg NET_SEAT_DATA 3 (seatIdx 7 false 0) (1 * 2 ^ 20 + 3 * 2 ^ 28 + 10 * 2 ^ 34)
    let t := after (.send 3 10 27 0 0x200 0x100 600) s
    s.issues 3 10 27 = true ∧ (s.core 3 10 27).part = some 7 ∧ (s.core 3 10 27).spadPoison = [] ∧ 4 ≤ (600#16).toNat ∧ (600#16).toNat ≤ 4096 ∧ (600#16).toNat % 4 = 0 ∧
    accessible 0x100 600 = true ∧ accessible 0x200 600 = true ∧ s.seatOf 3 7 0 = some (physAddr 3 10 24) ∧
    (t.niQueue 3 10 7).map (fun p => (p.cls, p.addr, p.payload.length)) = [(2, 0x200, 512), (2, 0x400, 88)] ∧ (t.core 3 10 27).pc = 1 := by decide +kernel

theorem witness_TasksAndStealing :
    let s := coreState { st := .run, deques := [[], [1, 0x5007], [], []], g := [(1, 9)] }
    let c1 : Core := { st := .idle, part := some 7, mode := 0x10, stealAt := 1 }
    let i := (((coreState c1).setCore 3 10 28 { rank := 1 }).setReg NET_SEAT_DATA 3 (seatIdx 7 true 0) (2 + 2 ^ 37)).setReg NET_SEAT_DATA 3 (seatIdx 7 false 0)
      (2 * 2 ^ 20 + 3 * 2 ^ 28 + 10 * 2 ^ 34)
    let j := i.setCore 3 10 27 { c1 with stealAt := 0 }
    let full := coreState { st := .run, deques := [[], [], List.replicate 64 0, []] }
    s.issues 3 10 27 = true ∧ (s.core 3 10 27).deques.length = 4 ∧ ((s.core 3 10 27).deques.getD 2 []).length < 64 ∧ full.issues 3 10 27 = true ∧
    64 ≤ ((full.core 3 10 27).deques.getD 2 []).length ∧ (s.core 3 10 27).deques[1]? = some ([1] ++ [0x5007]) ∧ (∀ k < 1, (s.core 3 10 27).deques.getD k [] = []) ∧
    ((after (.pop 3 10 27) s).core 3 10 27).pc = 7 ∧ ((after (.pop 3 10 27) s).core 3 10 27).reg 3 = 5 ∧
    (coreState { st := .run }).issues 3 10 27 = true ∧ (∀ k < 4, ((coreState { st := .run }).core 3 10 27).deques.getD k [] = []) ∧
    (i.core 3 10 27).st = .idle ∧ (i.core 3 10 27).part = some 7 ∧ i.coreRuns 3 10 27 = true ∧ (j.victims 3 10 27)[(j.core 3 10 27).stealAt]? = some (10, 25) ∧
    (i.victims 3 10 27).length ≤ 1 ∧ (i.victims 3 10 27)[0]? = some (10, 25) ∧ ((after (.stealRetry 3 10 27) i).core 3 10 27).st = .steal := by decide +kernel

theorem witness_CommitBuffer :
    let s := coreState { st := .run, part := some 7, g := [(1, 0x0C05)] }
    s.issues 3 10 27 = true ∧ 4 ≤ (4096#16).toNat ∧ (4096#16).toNat ≤ 4096 ∧ (4096#16).toNat % 4 = 0 ∧ accessible 0x100 4096 = true ∧ (s.core 3 10 27).writes < 512 ∧
    (s.core 3 10 27).cbBytes + 4096 ≤ 32768 ∧ (8#40).toNat % 8 = 0 ∧ (s.core 3 10 27).atomics < 64 ∧ (s.core 3 10 27).part = some 7 ∧
    ((after (.semaTake 3 10 27 1) s).core 3 10 27).wait = .sema 5 3 ∧ ((after (.semaTake 3 10 27 1) s).niQueue 3 10 7).length = 1 ∧
    ((after (.atomOr 3 10 27 false 0 8 1) s).core 3 10 27).atomics = 1 := by decide +kernel

theorem witness_CoreFaultsAndScrubber :
    let s := coreState { st := .run, mode := 1, part := some 7 }
    let m := coreState { st := .run, mode := 0 }
    let g := coreState { st := .run, cb := List.replicate 64 (.give 0 0) }
    let b := coreState { st := .run, cb := List.replicate 8 (.lput 0 0 0 4096) }
    let n := coreState { st := .run, cb := List.replicate 512 (.lput 0 0 0 4) }
    s.issues 3 10 27 = true ∧ s.rd CORE_FAULT_VALID 3 10 = 0 ∧ 3072 ≤ (3072#16).toNat ∧ accessible 0x12BFD 4 = false ∧ bitAt (s.core 3 10 27).mode 0 = true ∧
    m.issues 3 10 27 = true ∧ bitAt (m.core 3 10 27).mode 0 = false ∧ fmtPair .int8 .bf16 = false ∧ accessible 0x100 4 = true ∧
    n.issues 3 10 27 = true ∧ 512 ≤ (n.core 3 10 27).writes ∧ b.issues 3 10 27 = true ∧ (b.core 3 10 27).writes < 512 ∧ 32764 < (b.core 3 10 27).cbBytes ∧
    g.issues 3 10 27 = true ∧ 64 ≤ (g.core 3 10 27).atomics ∧ s.seatOf 3 7 0 = none ∧ (s.core 3 10 27).part = some 7 ∧
    (after (.semaGive 3 10 27 1) g).rd CORE_FAULT_CAUSE 3 10 = 6 ∧ (after (.signal 3 10 27 0 1) s).rd CORE_FAULT_CAUSE 3 10 = 10 := by decide +kernel

theorem witness_CoreFaultsAndScrubber_ScrubberOfACore : (coreState { st := .run }).coreRuns 3 10 27 = true ∧ (1919#11).toNat < 1920 ∧ (1535#11).toNat < 1536 ∧ 1536 ≤ (1919#11).toNat := by decide +kernel

theorem witness_RoutersAndInjection :
    let p0 : Packet := Packet.sealed { dest := physAddr 3 10 600, payload := [1, 2] }
    let p1 : Packet := { p0 with hcrc := 0 }
    let s := (coreState {}).wr NET_ACT_STAT_A_STATE 3 0 3
    let x : Waiting := { input := 2, vc := 0, flits := 1, started := true, pkt := p0 }
    let a := s.putArbs (outKey 3 10 96 0) { s.getArbs 0 with queue := [x] }
    let i := (coreState {}).putInjects (niKey 3 10) { queues := [(7, [p0])] }
    let o : Packet := { p0 with dest := physAddr 3 11 600 }
    let j := (coreState {}).putInjects (niKey 3 10) { queues := [(7, [o])] }
    s.spineWorks 3 10 = true ∧ p0.hcrcOk = true ∧ addrValid p0.dest = true ∧ s.actRoutes 3 p0.act = true ∧ s.routeAt 3 10 (.niBridge false) p0 = .out 0 false ∧
    p1.hcrcOk = false ∧ (coreState {}).actRoutes 3 p0.act = false ∧ a.spineWorks 3 10 = true ∧ (a.getArbs (outKey 3 10 96 0)).queue = [x] ∧ x.started = true ∧
    x.waited < 512 ∧ x.pkt.cls < 4 ∧ x.flits = 0 + 1 ∧ (i.getInjects (niKey 3 10)).queues = [(7, p0 :: [])] ∧ i.headReady 3 10 p0 = true ∧ niOf p0.dest = 3 + 10 * 64 ∧
    (after (.outputArbitration 3 10 (.niBridge false) 0) a).out = [.forwarded 3 10 96 0 p0] ∧ (after (.injectionArbitration 3 10) i).out.length = 1 ∧
    j.headReady 3 10 o = true ∧ niOf o.dest ≠ 3 + 10 * 64 ∧ (j.getSends (sendKey 3 10 (niOf o.dest) 0 511)).unacked.length < j.rd TRN_CFG_WINDOW 3 0 := by decide +kernel

theorem witness_DeliveriesAtACore :
    let s := fun (c : Core) => ((coreState c).wr PRT_DEF_VALID 3 7 1).setReg PRT_QMASK 3 (7 * 9 + 1) 0xF00
    let p := fun (typ aux : Nat) => Packet.sealed { typ := typ, aux := aux, dest := physAddr 3 10 27, src := physAddr 3 10 28, addr := 0x100, spart := 7, payload := [4, 3, 2, 1] }
    let c : Core := { st := .run, part := some 7, wait := .signal 5 1 }
    let v : Core := { st := .run, part := some 7, deques := [[], [9, 8], [], []] }
    let st : Core := { st := .steal, part := some 7 }
    (∀ k ∈ [0, 1, 2, 3, 5, 7, 9], (s v).inOrder 3 10 (p k 0) = true) ∧ (s v).serve 3 10 27 = .live ∧ (s c).inOrder 3 10 (p 3 5) = true ∧ (s c).serve 3 10 27 = .live ∧
    (s st).inOrder 3 10 (p 10 1) = true ∧ (s st).inOrder 3 10 (p 10 0) = true ∧ (s st).serve 3 10 27 = .live ∧ ((s v).core 3 10 27).spadPoison = [] ∧ accessible 0x100 4 = true ∧
    ((s v).core 3 10 27).deques[1]? = some (9 :: [8]) ∧ (∀ k < 1, ((s v).core 3 10 27).deques.getD k [] = []) ∧ 1 ≤ (((s c).core 3 10 27).signal 5 + 1) % 2 ^ 32 ∧
    ((s c).core 3 10 27).stepping = false ∧ ((after (.sendDelivery 3 10 (p 0 0)) (s v)).core 3 10 27).bytes 0x100 4 = [4, 3, 2, 1] ∧
    ((after (.signalDelivery 3 10 (p 3 5)) (s c)).core 3 10 27).pc = 1 ∧ ((after (.stealReq 3 10 (p 9 0)) (s v)).core 3 10 27).deques = [[], [8], [], []] ∧
    ((after (.stealAns 3 10 (p 10 1)) (s st)).core 3 10 27).pc = 0x304 := by decide +kernel

theorem witness_DeliveriesAtALoft :
    let s := ((coreState {}).wr PRT_DEF_VALID 3 7 1).setReg PRT_QMASK 3 (7 * 9 + 1) 0xF00
    let p := fun (typ aux : Nat) => Packet.sealed { typ := typ, aux := aux, dest := physAddr 3 10 601, src := physAddr 3 10 28, addr := 0x100, spart := 7, rid := 5, payload := [4, 3, 2, 1] }
    let r := s.putReplays (niKey 3 10) { pairs := [(niOf (physAddr 3 10 28), 5)] }
    (∀ k ∈ [4, 6, 8], s.inOrder 3 10 (p k 0) = true ∧ s.loftRanges 3 10 (p k 0) 4 = some [(0x10000100, 4)]) ∧ r.inOrder 3 10 (p 8 0) = true ∧ addrUnit (physAddr 3 10 601) = 601 ∧
    s.loftOn 3 10 = true ∧ s.loftDead 3 10 = false ∧ (∀ i < 4, s.poisoned 3 10 (0x10000100 + i) = false) ∧ (s.getReplays (niKey 3 10)).pairs.contains (niOf (physAddr 3 10 28), 5) = false ∧
    (r.getReplays (niKey 3 10)).pairs.contains (niOf (physAddr 3 10 28), 5) = true ∧ r.loftOn 3 10 = true ∧ r.loftRanges 3 10 (p 8 0) 4 = some [(0x10000100, 4)] ∧
    (after (.lputPacket 3 10 (p 6 0) .good) s).loftBytes 3 10 0x100000FE 6 = [0, 0, 4, 3, 2, 1] ∧
    (after (.atomPacket 3 10 (p 8 0) .good) (after (.atomPacket 3 10 (p 8 0) .good) s)).loftBytes 3 10 0x10000100 4 = [4, 3, 2, 1] := by decide +kernel

theorem witness_TransportAndManagementPackets :
    let ni := 3 + 11 * 64
    let u : Unacked := ⟨{ tseq := 2 ^ 30 + 9, dest := physAddr 3 11 600 }, 31, 7⟩
    let v : Unacked := ⟨{ tseq := 2 ^ 30 + 9, dest := physAddr 3 11 600 }, 31, 8⟩
    let p := fun (typ : Nat) => Packet.sealed { typ := typ, dest := physAddr 3 10 600, src := physAddr 3 11 600, spart := 511, tseq := 2 ^ 30 + 9, aux := 1 }
    let s := (coreState {}).putSends (sendKey 3 10 ni 1 511) { unacked := [u] }
    let l := (coreState {}).putSends (sendKey 3 10 ni 1 511) { unacked := [v] }
    let r := (coreState {}).putRecvs (recvKey 3 10 ni 1 511) { unacked := 2, expect := 5 }
    (p 11).hcrcOk = true ∧ (p 11).pcrcOk = true ∧ (p 12).hcrcOk = true ∧ niOf (p 11).dest = 3 + 10 * 64 ∧ (s.getSends (sendKey 3 10 (niOf (p 11).src) 1 511)).waiting = [] ∧
    (∃ x ∈ (s.getSends (sendKey 3 10 (niOf (p 12).src) 1 511)).unacked, x.pkt.tseq = (p 12).tseq) ∧ s.rd TRN_FAIL_VALID 3 0 = 0 ∧
    (s.getSends (sendKey 3 10 (niOf ni) 1 511)).unacked = [u] ∧ u.tries < 8 ∧ s.rd TRN_CFG_RETRY_MAX 3 0 = 8 ∧ s.mayInject 3 u.pkt = true ∧
    (l.getSends (sendKey 3 10 (niOf ni) 1 511)).unacked = [v] ∧ 8 ≤ v.tries ∧ ni % 64 = 3 ∧ (r.getRecvs (recvKey 3 10 (niOf ni) 1 511)).unacked ≠ 0 ∧
    ((after (.tack 3 10 (p 11)) s).getSends (sendKey 3 10 ni 1 511)).unacked = [] ∧ (after (.nack 3 10 (p 12)) s).rd TRN_FAIL_REASON 3 0 = 1 ∧
    (after (.tackTimer 3 10 707 1 511) r).out.length = 1 := by decide +kernel

theorem witness_TransportAndManagementPackets_ManagementPackets :
    let p := fun (f u kind : Nat) => Packet.sealed { typ := 13, cls := 3, dest := physAddr 3 f u, src := physAddr 3 82 1, spart := 511, addr := 0x200000 + 10 * 0x20000, rid := 4, aux := kind + 256, payload := [1, 2, 3, 4] }
    let s := coreState {}
    s.inOrder 3 10 (p 10 602 1) = true ∧ s.inOrder 3 10 (p 10 602 2) = true ∧ fieldWindow (p 10 602 1).addr = some 10 ∧ s.hostField 3 = 82 ∧
    (∀ k ∈ [3, 4, 5], s.inOrder 3 82 (p 82 1 k) = true) ∧ addrUnit (p 82 1 3).dest = 1 ∧ (p 82 1 3).aux % 256 = 3 ∧
    (after (.mgmtReadData 3 82 (p 82 1 3)) s).out = [.reply 1 3 [0x04030201]] := by decide +kernel

theorem witness_LinkBlocksAndFaults :
    let up := State.reset.wr LNK_STAT_STATE 3 5 2
    let b : Block := { bseq := 7, bytes := [] }
    let s := up.putLinks (portKey 3 5) { locked := true, expect := 4095, sinceAck := 3, replayRun := 16, replay := [b] }
    let u := up.putLinks (portKey 3 5) { locked := true }
    let q := State.reset.wr B72_PORT_STATE 2 3 1
    u.carries (.port 3 5) = true ∧ (u.getLinks (LinkRef.port 3 5).key).degrading = false ∧ (u.getLinks (LinkRef.port 3 5).key).replayAt = none ∧
    (u.getLinks (LinkRef.port 3 5).key).replay.length < 512 ∧ (u.getLinks (LinkRef.port 3 5).key).creditFor [] = true ∧ q.linkState (.chip 2 3) = 1 ∧
    (q.getLinks (LinkRef.chip 2 3).key).degrading = false ∧ s.carries (.port 3 5) = true ∧ (s.getLinks (LinkRef.port 3 5).key).sinceAck ≠ 0 ∧
    16 ≤ (s.getLinks (LinkRef.port 3 5).key).replayRun ∧ (s.getLinks (LinkRef.port 3 5).key).replay ≠ [] ∧
    ((after (.linkBlockTx (.port 3 5) []) u).getLinks (portKey 3 5)).nextSeq = 1 ∧ (after (.linkFaultReplayLimit (.port 3 5)) s).linkState (.port 3 5) = 4 := by decide +kernel

theorem witness_LinkBlocksAndFaults_blocks :
    (fecDecode (List.replicate 32 9 ++ List.replicate 512 0)).good = false ∧ (fecDecode (fecEncode (List.replicate 528 0))).good = true ∧
    (BlockHead.decode (ofLeBytes (((fecDecode (fecEncode (List.replicate 528 0))).bytes.drop 512).take 16))).bseq = 0 := by decide +kernel

theorem witness_LinkTrainingAndLanes :
    let k := portKey 3 5
    let tr := (State.reset.wr LNK_STAT_STATE 3 5 1).putLinks k { idWord := 0x0D1A, idRun := 7, peer := some 0x0316 }
    let up := (State.reset.wr LNK_STAT_STATE 3 5 2).putLinks k { recalDue := [1, 3] }
    let dn := ((State.reset.wr LNK_STAT_STATE 3 5 5).wr PWR_DOM_STAT_STATE 3 437 3).wr NET_SELF_STRAP_BAD 3 0 0
    let dg := State.reset.putLinks k { half := some 1, degrading := true }
    tr.linkState (.port 3 5) = 1 ∧ (tr.getLinks (LinkRef.port 3 5).key).idWord = (0x0D1A#32).toNat ∧ (tr.getLinks (LinkRef.port 3 5).key).idRun = 7 ∧
    (tr.getLinks (LinkRef.port 3 5).key).peer = some 0x0316 ∧ dn.rd LNK_STAT_STATE 3 5 ≠ 0 ∧ dn.rd LNK_STAT_STATE 3 5 = 5 ∧ dn.domOn 3 (432 + 5) = true ∧
    dn.rd NET_SELF_STRAP_BAD 3 0 = 0 ∧ up.carries (.port 3 5) = true ∧ (up.getLinks (LinkRef.port 3 5).key).half = none ∧ up.linkCfg (.port 3 5) LNK_CFG_DEGRADE_EN = 1 ∧
    (up.wr LNK_CFG_DEGRADE_EN 3 5 0).linkCfg (.port 3 5) LNK_CFG_DEGRADE_EN = 0 ∧ (up.getLinks (LinkRef.port 3 5).key).failing = [] ∧
    (∀ i < 16, mget 0 (up.getLinks (LinkRef.port 3 5).key).laneCorr i * 10 ^ up.linkCfg (.port 3 5) LNK_CFG_LANE_BER_EXP ≤ (up.getLinks (LinkRef.port 3 5).key).laneBytes) ∧
    (dg.getLinks (LinkRef.port 3 5).key).half = some 1 ∧ (dg.getLinks (LinkRef.port 3 5).key).degrading = true ∧ (up.getLinks (LinkRef.port 3 5).key).recalDue = 1 :: [3] ∧
    (up.getLinks (LinkRef.port 3 5).key).lastForced = none ∧ (after (.identityBlock (.port 3 5) 0x0D1A) tr).reg LNK_PEER 3 5 = 0x0D1A ∧
    (after (.linkTrained (.port 3 5)) tr).linkState (.port 3 5) = 2 ∧ ((after (.laneSymbolLoss (.port 3 5) 9) up).getLinks k).half = some 0 ∧
    (after (.laneSymbolLoss (.port 3 5) 9) (up.wr LNK_CFG_DEGRADE_EN 3 5 0)).linkState (.port 3 5) = 4 ∧ (after (.degradeRelock (.port 3 5)) dg).linkState (.port 3 5) = 3 ∧
    (after (.portAdminDown 3 5 true) dn).rd LNK_STAT_STATE 3 5 = 5 ∧ (after (.portAdminDown 3 5 false) dn).rd LNK_STAT_STATE 3 5 = 1 := by decide +kernel

theorem witness_B72Forwarding :
    let p : Packet := Packet.sealed { dest := physAddr 9 10 27, payload := [1] }
    let s := (((State.reset.wr B72_PORT_STATE 2 3 2).wr B72_PORT_STATE 2 9 2).wr B72_ACT_STAT_A_STATE 2 0 3).wr B72_RT_VALID 2 9 1 |>.wr B72_RT_PORT 2 9 9
    s.chipPortUp 2 3 = true ∧ p.hcrcOk = true ∧ ({ p with hcrc := p.hcrc + 1 } : Packet).hcrcOk = false ∧ addrSlot p.dest < 36 ∧ s.rd B72_RT_VALID 2 10 = 0 ∧
    2 ≤ s.chipActState 2 (p.act % 2) ∧ s.rd B72_RT_VALID 2 9 ≠ 0 ∧ s.rd B72_RT_GROUP 2 9 = 0 ∧ s.rd B72_RT_PORT 2 9 < 72 ∧ s.chipPortUp 2 (s.rd B72_RT_PORT 2 9) = true ∧
    (after (.b72Forward 2 3 p) s).out = [.linkPacket 38 9 p] := by decide +kernel

theorem witness_ManagementRedundancy :
    let s := (((State.reset.putTmcs 3 { running := true }).putWafers 3 { powered := true }).wr NET_MGMT_TMC_SEEN 3 0 1).wr NET_ACT_STAT_A_STATE 3 0 3 |>.putActs 0 { wafers := 8 }
    let m := s.modPlanner fun p => { p with missed := 3 }
    (s.getTmcs 3).running = true ∧ (s.getWafers 3).powered = true ∧ (s.getTmcs 3).absent = false ∧ (s.getTmcs 3).hears0 = false ∧ (s.getTmcs 3).hears1 = false ∧
    s.rd NET_MGMT_TMC_SEEN 3 0 = 1 ∧ s.inLive 3 (fun a => a.hasWafer 3) = true ∧ s.rack.planner.haveActive = true ∧ bitAt (s.getActs (s.rack.planner.liveAct % 2)).wafers 3 = true ∧
    (s.getWafers 3).declaredLost = false ∧ s.rack.planner.queue.length < 16 ∧ s.rack.planner.change ≠ some (.dropWafer 3) ∧ 3 ≤ m.rack.planner.missed ∧
    (after (.rmcDeclareWaferLost 3) s).rack.planner.queue = [.dropWafer 3] ∧ (after .rmcTakeover m).rack.planner.active = 1 := by decide +kernel

theorem witness_ActTablesAndChanges :
    let s := (State.reset.wr NET_RT_SEL_KIND 3 0 3).wr NET_RT_SEL_INDEX 3 0 2559
    let b := s.wr NET_ACT_STAT_A_STATE 3 0 3
    let q := State.reset.modPlanner fun p => { p with queue := [.dropPlane 2] }
    let r := State.reset.modPlanner fun p => { p with step := .built }
    let u := State.reset.modPlanner fun p => { p with rehearsalUnits := [2] }
    let f := State.reset.modPlanner fun p => { p with queue := List.replicate 16 (.dropPlane 2) }
    s.actState 3 (s.rd NET_RT_SEL_ACT 3 0) < 2 ∧ routeOk (s.rd NET_RT_SEL_KIND 3 0) (s.rd NET_RT_SEL_INDEX 3 0) = true ∧ 2 ≤ b.actState 3 (b.rd NET_RT_SEL_ACT 3 0) ∧
    s.rack.planner.haveActive = true ∧ s.rack.planner.queue.length < 16 ∧ 16 ≤ f.rack.planner.queue.length ∧ f.rack.planner.haveActive = true ∧
    q.rack.planner.queue = .dropPlane 2 :: [] ∧ q.rack.planner.haveActive = true ∧ q.rack.planner.step = .none ∧ (∀ w < 36, q.actState w q.nextAct < 2) ∧
    (∀ k < 16, q.chipActState k q.nextAct < 2) ∧ r.rack.planner.step = .built ∧ r.rack.planner.haveActive = true ∧ (∀ w < 36, ∀ a < 2, r.actState w a ≠ 4) ∧
    (∀ w < 36, r.reg NET_ACT_APPLY_TIME w 0 + 20000 ≤ (20000#64).toNat) ∧ u.awaits (.addPlane 2) = true ∧ u.rack.planner.change ≠ some (.addPlane 2) ∧
    (after (.routeTableWrite 3 0x7F) s).route 3 3 0 0 2559 = 0x7F ∧ (after (.actCue 20000 5) r).rack.planner.step = .rehearsing ∧
    (after (.unitAdmit (.addPlane 2)) u).rack.planner.queue = [.addPlane 2] := by decide +kernel

theorem witness_DrainAndLostUnits :
    let s := (State.reset.wr B72_ACT_STAT_A_STATE 2 0 4).wr NET_ACT_STAT_A_STATE 3 0 4
    let d := State.reset.modPlanner fun p => { p with step := .draining }
    let l := ((State.reset.wr B72_ACT_STAT_A_STATE 2 0 3).putActs 0 { planes := 4, wafers := 8 }).wr NET_ACT_STAT_A_STATE 3 0 3
    let r := State.reset.putTmcs 37 { running := true }
    s.chipActState 2 0 = 4 ∧ s.drainingAct 3 = some 0 ∧ s.holdsNone 3 0 = true ∧ s.rd NET_ACT_STAT_LOCAL_QUIET 3 0 = 0 ∧ d.rack.planner.haveActive = true ∧
    d.rack.planner.step = .draining ∧ d.allQuiet = true ∧ bitAt (l.getActs (l.rack.planner.liveAct % 2)).planes 2 = true ∧ l.rack.planner.queue.length < 16 ∧
    l.rack.planner.haveActive = true ∧ l.rack.planner.change ≠ some (.dropPlane 2) ∧ l.spineOn 3 10 = false ∧ l.inLive 3 (fun a => a.hasSpine 3 10) = true ∧
    (10 : FieldId).val ≠ hostBridge (l.rd BUP_STAT_HOST 3 0) ∧ l.rack.planner.change ≠ some (.dropSpine 3 10) ∧ bitAt (r.getActs (r.rack.planner.liveAct % 2)).planes 2 = false ∧
    (∀ a < 2, r.chipActState 2 a < 2) ∧ r.rack.planner.step ≠ .draining ∧ (r.getTmcs (36 + 2 / 2)).running = true ∧
    (after (.b72Loss 2) l).rack.planner.queue = [.dropPlane 2] ∧ (after (.spineLoss 3 10) l).rack.planner.queue = [.dropSpine 3 10] ∧
    (after (.elementQuiet (.plane 2)) s).rd B72_ACT_STAT_LOCAL_QUIET 2 0 = 1 := by decide +kernel

theorem witness_LoadsAndPushes :
    let s := loadState
    let e := after (.imageCheckDone 3 none) s
    s.rd IMG_STAT_STATE 3 0 = 1 ∧ earlyChecks 3 s (s.getLoads 3) (s.source 3) (fun o n => s.sourceBad 3 none o n) = none ∧
    formatChecks (s.getLoads 3) (s.source 3) = none ∧ preChecks 3 s (s.getLoads 3) (s.source 3) = none ∧ e.rd IMG_STAT_STATE 3 0 = 2 := by decide +kernel

theorem witness_LoadsAndPushes_expansion :
    let s := loadState.wr IMG_STAT_STATE 3 0 2
    let b := (coreState {}).wr IMG_STAT_STATE 3 0 1
    s.loading 3 = true ∧ State.reset.loading 3 = false ∧ b.rd IMG_STAT_STATE 3 0 = 1 ∧
    earlyChecks 3 b (b.getLoads 3) (b.source 3) (fun o n => b.sourceBad 3 none o n) = some ⟨1, 1, 0, 0⟩ ∧ s.rd IMG_STAT_STATE 3 0 = 2 ∧
    s.sourceBad 3 none 0 (s.getLoads 3).len = false ∧ imgBlocks (s.source 3) = [] ∧ sectOf (s.source 3) 3 = none ∧
    (after (.imageExpansionDone 3 none) s).rdW PRT_PRIO_PRIO 3 5 = 9 := by decide +kernel

theorem witness_LoadsAndPushes_handover :
    let img := List.replicate 26 0 ++ [1, 0] ++ List.replicate 228 0 ++ leBytes 2 3 ++ List.replicate 6 0 ++ leBytes 8 320 ++ leBytes 8 16 ++ List.replicate 104 7
    let s := ((storeBytes 3 10 0x580000000 img (coreState {})).putLoads 3 { field := 10, off := 0x580000000, len := 384, part := 5 }).wr IMG_STAT_STATE 3 0 5
    s.rd IMG_STAT_STATE 3 0 = 5 ∧ s.rack.planner.haveActive = true ∧ (sectOf (s.source 3) 3).isSome = true ∧
    mget [] (after (.actsHandoverAck 3) s).rack.planner.handed 3 = List.replicate 16 7 := by decide +kernel

theorem witness_LoadsAndPushes_Pushes :
    let s := ((((coreState {}).wr IMG_CTL_FIELD 3 0 10).setReg IMG_SRC_OFF 3 0 0x580000000).setReg IMG_LEN 3 0 600).setReg IMG_PUSH_DST 3 0 0x30 |>.setReg NET_MEMBERS_LO 3 0 0x10
    let r := after (.pushStart 3 none) s
    s.rd IMG_PUSH_STAT_STATE 3 0 ≠ 1 ∧ s.loftDead 3 (s.rd IMG_CTL_FIELD 3 0) = false ∧ s.loftOn 3 (s.rd IMG_CTL_FIELD 3 0) = true ∧
    (∀ o ∈ linesOf (s.reg IMG_SRC_OFF 3 0) (s.reg IMG_LEN 3 0), s.poisoned 3 (s.rd IMG_CTL_FIELD 3 0) o = false) ∧ r.rd IMG_PUSH_STAT_STATE 3 0 = 1 ∧
    r.reg IMG_PUSH_FAILED 3 0 = 0x20 ∧ (r.niQueue 3 82 noPart).length = 2 ∧ (State.reset.wr IMG_PUSH_STAT_STATE 3 0 1).rd IMG_PUSH_STAT_STATE 3 0 = 1 ∧
    (∀ n < 36, (State.reset.wr IMG_PUSH_STAT_STATE 3 0 1).pushLeft 3 n = false) ∧ (after (.pushAbort 3) r).rd IMG_PUSH_STAT_STATE 3 0 = 3 := by decide +kernel

theorem witness_CueStartsAndRehearsal :
    let v : Word32 := 0x10141
    let s := State.reset
    let t := after (.cueStart 3 1 v) s
    let x (t : State) : Reh := ⟨3, 0, 5, 1, t.cueChanges 3 0 5, t, t.afterCue 3 (t.cueChanges 3 0 5)⟩
    let late := after (.cueStart 3 1 (v ||| 0x8000)) s
    bits v.toNat 2 0 ≠ 0 ∧ bits v.toNat 5 4 < 2 ∧ bits v.toNat 14 6 = 5 ∧ bitAt v.toNat 17 = false ∧ (∀ d < 8, s.rd CUE_SSTAT_STATE 3 d = 0) ∧ (s.getCueUnits 3).loadLock = none ∧
    t.rd CUE_SSTAT_STATE 3 1 = 2 ∧ t.reg CUE_SSTAT 3 1 = 0x10142 ∧ (x t).verdict = none ∧ (x late).verdict = some ⟨19, 7, 0⟩ ∧
    (after (.rehearsalDone 3 1) t).rd CUE_SSTAT_STATE 3 1 = 3 ∧ (after (.rehearsalDone 3 1) late).rd CUE_SSTAT_STATE 3 1 = 6 ∧
    (after (.rehearsalDone 3 1) late).rd CUE_SFAIL_RULE 3 1 = 19 ∧ (after (.cueDisarm 3 1 0x20001) t).rd CUE_SSTAT_STATE 3 1 = 7 ∧
    (after (.cueDisarm 3 1 0x20001) t).rd CUE_SSTAT_DISARM_WHY 3 1 = 1 ∧ (after (.rehearsalTimeout 3 1) t).rd CUE_SFAIL_RULE 3 1 = 20 := by decide +kernel

theorem witness_CuesApply :
    let s := ((State.reset.setReg CUE_SSTAT 3 1 0x143).wrW PRT_PRIO_PRIO 3 5 9)
    let special := [PRT_DEF.id, PRT_QMASK.id, NET_SEAT_DATA.id, PROG_PTR.id, NET_ACT_STAMP.id, NET_ACT_GEN.id, PWR_OPPOINT.id, THM_GHOST.id]
    let ch := s.cueChanges 3 0 5
    let d := State.reset.setReg CUE_SSTAT 3 1 0x8143
    let m := State.reset.setReg CUE_SSTAT 3 0 0x8023
    s.rd CUE_SSTAT_STATE 3 1 = 3 ∧ s.rd CUE_SSTAT_SCHED 3 1 = 0 ∧ (s.getSlots 25).waitParts = [] ∧ ch.length = 1 ∧ (∀ o ∈ ch, o.1.id ∉ special) ∧ (ch.map fun o => o.1.key 3 o.2).Nodup ∧
    d.rd CUE_SSTAT_STATE 3 1 = 3 ∧ d.rd CUE_SSTAT_SCHED 3 1 = 1 ∧ (d.getSlots 25).time ≤ d.tbNow 3 ∧ d.rd CUE_SSTAT_SCOPE 3 1 = 0 ∧ d.cueChanges 3 0 5 = [] ∧
    m.rd CUE_SSTAT_STATE 3 0 = 3 ∧ m.rd CUE_SSTAT_SCHED 3 0 = 1 ∧ m.rd CUE_SSTAT_SCOPE 3 0 = 2 ∧ (m.getSlots 24).go = false ∧ (m.getSlots 24).time ≤ m.tbNow 3 ∧
    (after (.schedCueValue 3 0) m).rd CUE_SSTAT_STATE 3 0 = 7 ∧ (after (.cueApply 3 1) s).rd PRT_PRIO_PRIO 3 5 = 9 ∧
    (after (.wingsCopyDone 3 1) (after (.cueApply 3 1) s)).rdW PRT_PRIO_PRIO 3 5 = 9 := by decide +kernel

theorem witness_MachineCues :
    let s := after (.machineCueStart 8 1000000 7) (State.reset.modWafers 3 fun x => { x with powered := true })
    let a := s.wr CUE_SSTAT_STATE 3 0 3
    let f := after .machineCueCheck a
    let bytes := (timeFrame 2 (leBytes 4 7 ++ leBytes 8 1000000)).map (BitVec.ofNat 8)
    State.reset.rack.planner.haveActive = true ∧ State.reset.rack.planner.rotation = none ∧ s.rd CUE_SSTAT_STATE 3 0 = 2 ∧ s.rack.planner.cueActive = true ∧
    a.rack.planner.haveActive = true ∧ State.memberList a.rack.planner.cueMembers = [3] ∧ a.machineCheck = 0 ∧
    (a.getRmcs a.rack.planner.active).clock.read a.now + 100000 < a.rack.planner.cueTime ∧ f.out.length = a.out.length + 44 ∧
    (s.wr CUE_SSTAT_STATE 3 0 6).machineCheck = 22 ∧ frameBody 2 16 (bytes.map BitVec.toNat) = some (leBytes 4 7 ++ leBytes 8 1000000) ∧
    a.rd CUE_SSTAT_STATE 3 0 = 3 ∧ (a.getSlots 24).mid = 7 ∧ (a.getSlots 24).time = 1000000 ∧ a.tbNow 3 + 100000 ≤ 1000000 ∧ frameBody 2 16 [] = none ∧
    ((after (.goFrame 3 bytes) a).getSlots 24).go = true ∧ (after .machineCueArmTimeout s).rack.planner.cueActive = false := by decide +kernel

theorem witness_Semaphores :
    let src : BitVec 23 := BitVec.ofNat 23 (physAddr 3 10 27)
    let s := after (.mgmtTake 3 5 src 7) (State.reset.wr SEM_VAL_COUNT 3 5 2)
    let g := after (.semaDecision 3 5) s
    let c := coreState { st := .run, part := some 7, wait := .sema 5 3 }
    let d := coreState { st := .run, part := some 7 }
    s.rd SEM_VAL_COUNT 3 5 = 2 ∧ s.rd SEM_TABLE_LEASES 3 0 < 4096 ∧ (s.getSemas (semaKey 3 5)).waiters ≠ [] ∧ (s.getSemas (semaKey 3 5)).tenure = none ∧
    s.semaWinner (s.getSemas (semaKey 3 5)).waiters = some ⟨semaPart 3 7, src.toNat, 0⟩ ∧ g.rd SEM_VAL_COUNT 3 5 = 1 ∧ semaPart 3 7 ∈ (g.getSemas (semaKey 3 5)).leases ∧
    State.reset.rd SEM_VAL_COUNT 3 5 = 0 ∧ State.reset.donees 3 5 = [] ∧ (c.core 3 10 27).part = some 7 ∧ (c.core 3 10 27).wait = .sema 5 3 ∧ (c.core 3 10 27).stepping = false ∧
    (d.core 3 10 27).wait ≠ .sema 5 3 ∧ ((after (.mgmtGrant 3 10 27 5 3) d).niQueue 3 10 7).length = 1 ∧ ((after (.mgmtGrant 3 10 27 5 3) c).core 3 10 27).wait = .none ∧
    (after (.mgmtReturn 3 5 src 7) g).rd SEM_VAL_COUNT 3 5 = 2 ∧ (after (.mgmtConsume 3 5 src 7) g).rd SEM_VAL_COUNT 3 5 = 1 := by decide +kernel

theorem witness_DoorbellsAndTaking :
    let s := jobState
    let e := storeBytes 3 10 0x10000000 (leBytes 6 5 ++ leBytes 2 1 ++ leBytes 2 40) (s.wr CQ_TAIL_COUNT 3 (queueIdx 7 0) 1)
    let bs := padTo 64 (seRead 3 7 (e.entryOff 3 7 0 0) 64 e).1
    let f := s.wr PRT_DEF_LEAD_SLOT 3 7 4
    s.defined 3 7 = true ∧ s.rd PRT_QCFG_QUEUES 3 7 = 2 ∧ s.ringSize 3 7 = 16 ∧ s.stepQueue 3 7 = none ∧ s.isLead 3 7 = true ∧
    (after (.doorbell 3 7 0 1) s).rd CQ_TAIL_COUNT 3 (queueIdx 7 0) = 1 ∧ (after (.doorbell 3 7 0 17) s).rd CQ_BADDB_REASON 3 0 = 3 ∧
    e.mayTake 3 7 = true ∧ e.pickQueue 3 7 = some 0 ∧ mfind (e.part 3 7).cut 0 = none ∧ e.entryBad 3 7 (entryOf 0 bs) bs = false ∧ (entryOf 0 bs).seq = 5 ∧
    e.rd CQ_HWM_SEQ 3 (queueIdx 7 0) = 0 ∧ f.isLead 3 7 = false ∧ f.partState 3 7 = 1 ∧ f.pmt 3 7 = 0 ∧ (f.part 3 7).cmd = none := by decide +kernel

theorem witness_DoorbellsAndTaking_answers :
    let s := jobState.wr CQ_TAIL_COUNT 3 (queueIdx 7 0) 1
    let e := (storeBytes 3 10 0x10000000 (leBytes 6 5 ++ leBytes 2 1 ++ leBytes 2 40) s).wr CQ_HWM_SEQ 3 (queueIdx 7 0) 6
    let d := e.putResults (resultKey 3 7 0) [(5, 0)]
    let bs := padTo 64 (seRead 3 7 (s.entryOff 3 7 0 0) 64 s).1
    s.mayTake 3 7 = true ∧ s.entryBad 3 7 (entryOf 0 bs) bs = true ∧ (after (.commandTake 3 7 none) s).rd CQ_CTAIL_COUNT 3 (queueIdx 7 0) = 1 ∧
    (after (.commandTake 3 7 none) e).rd CQ_STALE_COUNT 3 (queueIdx 7 0) = 1 ∧ (after (.commandTake 3 7 none) d).rd CQ_DUP_COUNT 3 (queueIdx 7 0) = 1 := by decide +kernel

theorem witness_CommitAndCompletion :
    let c : Cmd := { queue := 1, seq := 5, flags := 0, entry := 0, arg := 0 }
    let s := (jobState.modPart 3 7 fun x => { x with cmd := some c }).wr PRT_STAT_STATE 3 7 2
    let m := after (.commitInstant 3 7 none) s
    let f := s.wr PRT_DEF_LEAD_SLOT 3 7 4 |>.setReg PRT_DEF 4 9 (0x10000 + 4 * 2 ^ 17)
    (s.part 3 7).cmd = some c ∧ s.partState 3 7 = 2 ∧ s.coresIdle 3 7 = true ∧ s.isLead 3 7 = true ∧ s.peersOf 3 7 = [] ∧ (m.part 3 7).cmd = some { c with committed := true } ∧
    m.draining 3 7 = false ∧ (m.part 3 7).phase = .none ∧ (m.part 3 7).donating = false ∧ (after (.commandComplete 3 7) m).reg CQ_HWM 3 (queueIdx 7 1) = 5 ∧
    f.isLead 3 7 = false ∧ f.leadOf 3 7 = some (4, 9) ∧ f.coresIdle 3 7 = true ∧ (f.part 3 7).cmd = some c ∧ ((after (.commitInstant 3 7 none) f).niQueue 3 10 7).length = 1 ∧
    ((after (.cmdEnd 3 7 1 5 3) f).part 3 7).cmd = none := by decide +kernel

theorem witness_SlotsAndSteps :
    let s := jobState.wr SE_SEL_PART 3 0 7 |>.wr PRT_SE_ENABLE 3 7 1
    let j := after (.slotJoin 3 5) s
    let a := after (.stepBoundary 3 7) j
    s.isLead 3 7 = true ∧ (s.slot 3 7 5).st = .free ∧ (j.slot 3 7 5).st = .joining ∧ j.atBoundary 3 7 = true ∧ (j.part 3 7).stepRan = false ∧ j.cueBlocks 3 7 = false ∧
    (j.part 3 7).rotationDue = false ∧ (j.slots 3 7).length = 1 ∧ (a.slot 3 7 5).st = .active ∧ (a.part 3 7).stepDue = true ∧
    ((after (.slotLeave 3 5) a).slot 3 7 5).st = .leaving ∧ (after (.slotJoin 3 5) a).rd SE_REFUSED_COUNT 3 7 = 1 ∧
    (s.wr PRT_DEF_LEAD_SLOT 3 7 4).isLead 3 7 = false := by decide +kernel

theorem witness_CurtainsAndFaults :
    let s := jobState
    let t := (s.modPart 3 7 fun x => { x with zeroing := [40, 41, 42, 43] }).wr PRT_STAT_STATE 3 7 4
    let z := s.wr PRT_STAT_STATE 3 7 4
    let m := s.modPart 3 7 fun x => { x with cmd := some { queue := 1, seq := 5, flags := 0, entry := 0, arg := 0, committed := true } }
    s.defined 3 7 = true ∧ s.partState 3 7 = 1 ∧ (after (.faultFwd 3 7 2) s).partState 3 7 = 3 ∧ State.reset.partState 3 0 = 0 ∧ (s.part 3 7).cmd = none ∧
    (m.part 3 7).cmd.map Cmd.committed = some true ∧ (after (.curtain 3 7) m).partState 3 7 = 4 ∧
    (allParts.find? fun r => (t.part 3 r).zeroing.contains 40) = some 7 ∧ ((after (.quarterZeroed 3 40) t).part 3 7).zeroing = [41, 42, 43] ∧
    (z.part 3 7).zeroing = [] ∧ (z.part 3 7).cmd = none ∧ (after (.curtainDone 3 7) z).partState 3 7 = 1 := by decide +kernel

theorem witness_StartsAndPhases :
    let s := State.reset
    let p (n : Nat) : State := ((s.modWafers 3 fun x => { x with powered := true }).modBups 3 fun b => { b with starting := true }).wr BUP_STAT_PHASE 3 0 n
    let h := (p 0).wr PWR_DOM_STAT_STATE 3 452 3
    let t := p 3 |>.wr LNK_STAT_STATE 3 2 1
    (s.getWafers 3).powered = false ∧ (s.getWafers 3).interlockOpen = false ∧ (s.getTmcs 3).running = true ∧ (s.getLedgers 3).boot = some 0 ∧ ((p 0).getWafers 3).powered = true ∧
    ((p 0).getWafers 3).downSeq = none ∧ h.inPhase 3 0 = true ∧ h.rd NET_SELF_HOST_FIELD 3 0 = 0 ∧ h.domState 3 452 = 3 ∧ (h.getLedgers 3).h1Live = true ∧
    (h.getFws (fwKey 1 3)).find 3 ≠ some (h.getFws (fwKey 1 3)).running ∧ (p 1).inPhase 3 1 = true ∧ ((p 1).wr TB_STAT_QUALITY 3 0 2).rd TB_STAT_QUALITY 3 0 ≠ 0 ∧
    t.inPhase 3 3 = true ∧ t.rd LNK_STAT_STATE 3 2 = 1 ∧ (p 4).inPhase 3 4 = true ∧ ((p 4).getBups 3).powering = false ∧ ((p 4).getBups 3).slow = false ∧
    ((after (.phaseSlow 3) (p 4)).getBups 3).slow = true := by decide +kernel

theorem witness_StartsAndPhases_phase0 :
    let s := (((State.reset.modWafers 3 fun x => { x with powered := true }).modBups 3 fun b => { b with starting := true }).wr BUP_STAT_PHASE 3 0 0).wr PWR_DOM_STAT_STATE 3 452 3
    let l := ((agreeFlags 3 ((readStraps 3 0x4D s).modLedgers 3 fun l => { l with openBank := none, bad := false })).getLedgers 3)
    l.hostDead 0 = false ∧ l.retired (hostBridge 0) = false := by decide +kernel

theorem witness_StartsAndPhases_phase1 :
    let s := phaseState 1 288
    s.inPhase 3 1 = true ∧ s.domsReady 3 (s.usableDoms 3 288 72) = true ∧ s.rd TB_STAT_QUALITY 3 0 = 0 := by decide +kernel

theorem witness_StartsAndPhases_bridge :
    ((dropCondemned 3 (addFindings 3 1 [] (failedDoms 3 1 objSpine 3 288 72 id (phaseState 1 288)))).getLedgers 3).retired (hostBridge 0) = false := by
  have same : ∀ (xs : List Nat) (s : State) (g : Nat → State → State), (∀ x ∈ xs, g x s = s) → forEach xs s g = s := by
    intro xs s g h
    induction xs with
    | nil => rfl
    | cons x r ih =>
      show forEach r (g x s) g = s
      rw [h x (by simp)]
      exact ih fun y hy => h y (by simp [hy])
  have sound : ∀ d ∈ (phaseState 1 288).usableDoms 3 288 72, (phaseState 1 288).domFailed 3 d = false := by decide +kernel
  have free : ∀ d ∈ List.range 452, ((phaseState 1 288).getLedgers 3).blocks d = false := by decide +kernel
  have one : failedDoms 3 1 objSpine 3 288 72 id (phaseState 1 288) = phaseState 1 288 := same _ _ _ fun d hd => by simp [sound d hd]
  have two : dropCondemned 3 (phaseState 1 288) = phaseState 1 288 := same _ _ _ fun d hd => by simp [free d hd]
  rw [one]
  show ((dropCondemned 3 (phaseState 1 288)).getLedgers 3).retired (hostBridge 0) = false
  rw [two]
  decide +kernel

theorem witness_StartsAndPhases_phase2 :
    let s := phaseState 2 360
    s.inPhase 3 2 = true ∧ s.domsReady 3 (s.usableDoms 3 360 72) = true := by decide +kernel

theorem witness_StartsAndPhases_phase3 :
    let r := ((phaseState 3 380).withRegs ((List.range 20).map fun i => (PWR_DOM_STAT.key 3 (432 + i), BitVec.ofNat 64 (2 ^ PWR_DOM_STAT_FAULT.lo)))).wr BUP_STAT_PHASE 3 0 3
    r.inPhase 3 3 = true ∧ r.domsReady 3 (r.usableDoms 3 432 20) = true ∧ (∀ d ∈ r.usableDoms 3 432 20, r.portSettled 3 (d - 432) = true) := by decide +kernel

theorem witness_StartsAndPhases_done :
    let s := ((phaseState 4 0).withRegs ((List.range 288).map fun i => (PWR_DOM_STAT.key 3 i, 3))).wr BUP_STAT_PHASE 3 0 4
    s.inPhase 3 4 = true ∧ (s.getBups 3).powering = true ∧ s.domsReady 3 (s.usableDoms 3 0 288) = true := by decide +kernel

theorem witness_LedgerAndRetests :
    let s := State.reset
    let f := after (.ledgerFetch 3 0) (s.modLedgers 3 fun l => { l with slots := [{ objType := 1, kind := 2 }, { torn := true }] })
    let a := ((s.setReg BUP_FDR_ARM 3 0 0xFAC70000).wr BUP_STAT_READY 3 0 31)
    let r := (after (.fdrStart 3 1) a)
    (f.getLedgers 3).fetching = some 0 ∧ ((f.getLedgers 3).slots[0]?.map (·.torn)) = some false ∧ ((f.getLedgers 3).slots[1]?.map (·.torn)) = some true ∧
    (f.getLedgers 3).slots[2]?.isNone = true ∧ a.rd BUP_FDR_STAT_STATE 3 0 ≠ 1 ∧ a.fdrAllowed 3 = true ∧ s.fdrAllowed 3 = false ∧ r.rd BUP_FDR_STAT_STATE 3 0 = 1 ∧
    (after (.fdrAbort 3) r).rd BUP_FDR_STAT_STATE 3 0 = 3 ∧ s.retestAllowed 3 7 = false ∧ s.rd BUP_RETEST_STAT_STATE 3 0 ≠ 1 ∧
    (s.wr BUP_RETEST_STAT_STATE 3 0 1).rd BUP_RETEST_STAT_STATE 3 0 = 1 := by decide +kernel

theorem witness_LedgerAndRetests_allowed : (State.reset.wr BUP_STAT_READY 3 0 31).retestAllowed 3 7 = true := by decide +kernel

theorem witness_PreemptAndResume :
    let s := jobState
    State.reset.defined 3 7 = false ∧ s.defined 3 7 = true ∧ s.isLead 3 7 = true ∧ (s.wr PRT_DEF_LEAD_SLOT 3 7 4).isLead 3 7 = false ∧ s.partState 3 7 = 1 ∧ s.pmt 3 7 = 0 ∧
    s.cmdCores 3 7 = [] ∧ (s.part 3 7).cmd = none ∧ (s.wr PRT_STAT_STATE 3 7 3).partState 3 7 = 3 ∧ (s.wr PMT_STAT_LAST_END 3 7 7).rd PMT_STAT_LAST_END 3 7 = 7 := by decide +kernel

theorem witness_PreemptAndResume_running :
    let c : Cmd := { queue := 1, seq := 5, flags := 0, entry := 0, arg := 0 }
    let r := (jobState.modPart 3 7 fun x => { x with cmd := some c }).wr PRT_STAT_STATE 3 7 2
    let d := (jobState.modPart 3 7 fun x => { x with cmd := some { c with committed := true } }).wr PRT_STAT_STATE 3 7 2
    let h := r.wr PMT_MODE_MODE 3 7 1
    (r.part 3 7).cmd = some c ∧ r.rd PMT_MODE_MODE 3 7 ≠ 1 ∧ r.partState 3 7 = 2 ∧ r.cmdCores 3 7 = [] ∧ (d.part 3 7).cmd.map Cmd.committed = some true ∧
    h.rd PMT_MODE_MODE 3 7 = 1 ∧ h.deadLoftIn 3 7 = false ∧ (h.wr LOFT_STAT_DEAD 3 10 1).deadLoftIn 3 7 = true ∧ (after (.preempt 3 7) h).partState 3 7 = 5 := by decide +kernel

theorem witness_PreemptAndResume_resume :
    let held := ((jobState.wr PMT_STAT_STATE 3 7 5).wr PMT_STAT_CMD_SAVED 3 7 1).wr PRT_STAT_STATE 3 7 5
    held.pmt 3 7 = 5 ∧ held.rd PMT_STAT_FAULT_PENDING 3 7 = 0 ∧ held.rd PMT_STAT_CMD_SAVED 3 7 = 1 ∧ (held.wr PMT_STAT_FAULT_PENDING 3 7 1).rd PMT_STAT_FAULT_PENDING 3 7 = 1 ∧
    (jobState.wr PMT_STAT_STATE 3 7 2).pmt 3 7 = 2 ∧ (after (.resume 3 7) held).pmt 3 7 = 6 := by decide +kernel

theorem witness_HoldsAndDonations :
    let c : Cmd := { queue := 1, seq := 5, flags := 0, entry := 0, arg := 0 }
    let s (ph : PmtPhase) : State := (jobState.modPart 3 7 fun x => { x with cmd := some c, phase := ph, endCode := 1 }).wr PRT_STAT_STATE 3 7 5
    ((s .surrender).part 3 7).phase = .surrender ∧ (s .surrender).linkCredits 3 7 = 0 ∧ (s .surrender).peersStopped 3 7 = true ∧ (s .surrender).partState 3 7 = 5 ∧
    ((s .holdHalt).part 3 7).cmd = some c ∧ (after (.holdHaltDone 3 7) (s .holdHalt)).pmt 3 7 = 4 ∧ ((s .holdSurrender).part 3 7).phase = .holdSurrender := by decide +kernel

theorem witness_HoldsAndDonations_restore :
    let c : Cmd := { queue := 1, seq := 5, flags := 0, entry := 0, arg := 0 }
    let s := (jobState.modPart 3 7 fun x => { x with cmd := some c, phase := .restoring }).wr PRT_STAT_STATE 3 7 5
    let r := s.modPart 3 7 fun x => { x with savedCores := [(coreKey 3 10 27, { before := .run })] }
    let d := s.modPart 3 7 fun x => { x with donating := true }
    (r.part 3 7).phase = .restoring ∧ (∀ q ∈ r.quads 3 7, r.unparked 3 q = true) ∧ r.slotBad 3 7 = none ∧ (r.part 3 7).savedCores.map Prod.fst = [coreKey 3 10 27] ∧
    (r.part 3 7).donating = false ∧ (r.wr PMT_STAT_STATE 3 7 6).pmt 3 7 = 6 ∧ (d.part 3 7).donating = true := by decide +kernel

theorem witness_DomainRequestsAndSteps :
    let s := (State.reset.wr PWR_DOM_STAT_STATE 3 298 3).wr PWR_DOM_STAT_STATE 3 41 3
    let o := State.reset.wr PWR_DOM_STAT_STATE 3 298 3
    let m (n : Nat) : State := o.wr PWR_DOM_STAT_STATE 3 40 n
    let dw := (o.modDoms (domKey 3 40) fun x => { x with dwelling := true }).wr PWR_DOM_STAT_PENDING 3 40 1
    (s.getWafers 3).downSeq = none ∧ State.reset.refusal 3 40 1 = 5 ∧ State.reset.refusal 3 500 2 = 7 ∧ State.reset.refusal 3 452 3 = 2 ∧ s.refusal 3 40 1 = 0 ∧ s.domState 3 40 = 0 ∧
    (s.getDoms (domKey 3 40)).dwelling = false ∧ s.rd PWR_SEQ_STAT_RAMPING 3 0 < 16 ∧ (m 4).refusal 3 40 1 = 0 ∧ (m 4).domState 3 40 = 4 ∧ s.refusal 3 41 2 = 0 ∧ s.domState 3 41 = 3 ∧
    s.refusal 3 40 2 = 0 ∧ s.refusal 3 41 3 = 0 ∧ (m 1).goingDown 3 40 = false ∧ (m 1).rd PWR_DOM_STAT_PENDING 3 40 = 0 ∧ ((m 2).getDoms (domKey 3 40)).downWhenIdle = false ∧
    (dw.getDoms (domKey 3 40)).dwelling = true ∧ dw.rd PWR_DOM_STAT_PENDING 3 40 = 1 ∧ dw.refusal 3 40 1 = 0 ∧
    ((o.modDoms (domKey 3 40) fun x => { x with retryOwed := true }).getDoms (domKey 3 40)).retryOwed = true ∧ (after (.domainOnRequest 3 40) s).domState 3 40 = 1 ∧
    (after (.domainResetRequest 3 41) s).rd PWR_DOM_STAT_PENDING 3 41 = 3 ∧ (after (.offDwellDone 3 40) dw).domState 3 40 = 1 := by decide +kernel

theorem witness_SupplyFaultsGatesAndParks :
    let s := State.reset.modWafers 3 fun x => { x with powered := true }
    let q := s.wr PWR_DOM_STAT_STATE 3 40 3
    let g := q.modDoms (domKey 3 40) fun x => { x with gated := true }
    let sp := s.wr PWR_DOM_STAT_STATE 3 298 3
    let mv := q.wr PWR_PARK_MOVING 3 40 1
    let pk := mv.modParks (parkKey 3 40) fun x => { x with toGate := 1, smc := 1 }
    let rt := mv.modParks (parkKey 3 40) fun x => { x with toRetain := 1 }
    (q.getWafers 3).powered = true ∧ q.domState 3 40 = 3 ∧ (q.getWafers 3).downSeq = none ∧ q.rd PWR_FAULT_CAP_VALID 3 0 = 0 ∧ (s.wr PWR_DOM_STAT_STATE 3 40 1).domState 3 40 = 1 ∧
    (g.getDoms (domKey 3 40)).gated = true ∧ (sp.wr SPN_STAT_GATED 3 10 1).rd SPN_STAT_GATED 3 10 = 1 ∧ (s.wr PWR_DOM_STAT_STATE 3 452 3).domState 3 452 = 3 ∧ s.domState 3 454 = 3 ∧
    sp.domState 3 298 = 3 ∧ sp.rd SPN_STAT_GATED 3 10 = 0 ∧ (q.getDoms (domKey 3 40)).gated = false ∧ bitAt (mv.rd PWR_PARK_MOVING 3 40) 0 = true ∧
    bitAt (pk.getParks (parkKey 3 40)).toGate 0 = true ∧ bitAt (rt.getParks (parkKey 3 40)).toRetain 0 = true ∧ bitAt (mv.getParks (parkKey 3 40)).toGate 0 = false ∧
    bitAt (mv.getParks (parkKey 3 40)).toRetain 0 = false ∧ s.rd PWR_IBC_FAULT 3 1 = 0 := by decide +kernel

theorem witness_SupplyFaultsGatesAndParks_wait :
    let s := (State.reset.wr PWR_DOM_STAT_STATE 3 40 3).modParks (parkKey 3 40) fun x => { x with smc := 1 }
    s.domState 3 40 = 3 ∧ bitAt (s.rd PWR_PARK_MOVING 3 40) 0 = false ∧ bitAt (s.getParks (parkKey 3 40)).wantGate 0 = true ∧ s.groupDepth 3 40 0 ≠ 2 ∧ s.groupGateOk 3 40 0 = true ∧
    bitAt ((after (.gateWaitClear 3 40) s).getParks (parkKey 3 40)).toGate 0 = true := by decide +kernel

theorem witness_CappingAndGuards :
    let s := State.reset
    let x : EnergySample := { dom := 40, volt := 550, cur := 1000, temp := 40, leak := 0, mem := 0, idle := 0, traffic := [], missing := false }
    let b := (s.modPlanner fun p => { p with barrierBalance := true })
    let a := after (.energySample 3 54 [] [x]) s
    x.missing = false ∧ mget 0 ((s.modMeters 3 fun m => { m with missed := [(40, 3)] }).getMeters 3).missed 40 = 3 ∧ mget 0 (a.getMeters 3).period 0 = 550000 ∧
    (a.getMeters 3).acc ≠ [] ∧ 20000 * 1000000 < ((s.modMeters 3 fun m => { m with sample := [(0, 20000000001)] }).getMeters 3).sample.foldl (fun n x => n + x.2) 0 ∧
    b.rack.planner.barrierBalance = true ∧ b.rack.planner.haveActive = true ∧ 1500 ≤ b.rd PWR_CAP_CAP_W 3 0 ∧ b.rd PWR_CAP_CAP_W 4 0 ≤ 20000 ∧
    (b.wr PWR_CAP_CAP_W 3 0 10000).rd PWR_CAP_CAP_W 3 0 = 10000 ∧ (after (.capWrite 3 1 0x12C) s).rd PWR_CAP_CAP_W 3 0 = 1500 ∧
    (after (.capWrite 3 1 0x2EE0) s).rd PWR_CAP_EFF_EFF_W 3 0 = 12000 := by decide +kernel

theorem witness_ShelvesAndBbus :
    let s := State.reset
    let m : BbuMeas := { bbu := 1, energy := 700, cap := 810, current := 0, temp := 30, left := 0 }
    let on := fun (n : Nat) => (((s.wr SHF_STAT_STATE 2 0 1).wr SHF_AC_AC_OK 2 0 1).wr SHF_STAT_MODULES_OK 2 0 6).wr BBU_STAT_STATE 2 1 n |>.wr SHF_OUT_BUS_V 2 0 795
    (on 3).bbu 2 1 ≠ 0 ∧ (on 3).bbu 2 1 = 3 ∧ s.bbu 2 1 = 0 ∧ (on 1).bbu 2 m.bbu = 1 ∧ mget 0 ((on 1).getShelves 2).serials m.bbu ∉ ((on 1).getShelves 2).faulted ∧
    (on 5).bbu 2 1 = 5 ∧ (on 2).bbu 2 1 = 2 ∧ (∀ k < 8, (on 3).inhibits k = false) ∧ (on 3).limitAc - (90000#20).toNat ≠ 0 ∧ (on 3).rd SHF_STAT_STATIC 2 0 = 0 ∧
    (on 3).acOk 2 = true ∧ (on 3).rd SHF_STAT_STATE 2 0 ≠ 0 ∧ s.acOk 2 = false ∧ (699#10).toNat < 700 ∧
    (s.modPlanner fun p => { p with haveActive := false }).rack.planner.haveActive = false ∧
    ((on 3).wr SHF_OUT_BUS_V 2 0 779).inhibits 2 = true ∧ ((after (.chargeHeadroom 2 90000) (on 3)).rd SHF_CHG_CHG_W 2 0 = 4500) := by decide +kernel

theorem witness_PlanAndCooling :
    let s := State.reset
    let ac := s.wr SHF_AC_AC_OK 2 0 1
    let shed := ((ac.wr SHF_STAT_STATE 2 0 1).wr SHF_STAT_MODULES_OK 2 0 6).wr BBU_STAT_STATE 2 0 4 |>.wr BBU_ENERGY_E_KJ 2 0 810 |>.modWafers 9 (fun x => { x with powered := true }) |>.modTmcs 9
      (fun x => { x with running := true }) |>.modPlans 9 fun x => { x with shed := true, rack := 3000, unshed := 12000 }
    let m : CduMeas := { cdu := 1, pump := 50, supply := 560, ret := 640, flow := 1200, level := 98, facIn := 400, facOut := 500 }
    s.rack.planner.haveActive = true ∧ ac.anyAc = true ∧ s.anyAc = false ∧ s.rack.planner.graceOver = false ∧ sumOf allShelves s.usableEnergy * 1000 ≤ 10 * (0#20).toNat ∧
    (∀ x < 36, (shed.getPlans x).scaled = none) ∧ (shed.shedOrder.reverse.find? fun v => (shed.getPlans v).shed) = some 9 ∧ shed.planned 9 = true ∧
    (shed.modPlans 9 fun x => { x with shed := false, rack := x.unshed }).fitsRaise = true ∧ (s.wr CDU_STAT_STATE 0 0 1).rd CDU_STAT_STATE (1 - (1 : CduId).val) 0 = 1 ∧
    (after (.coolantReport [m] []) s).tankFlow = 1200 ∧ limitBelow (coolantLimit 800 1200) (s.getPlans 9).coolant = true ∧
    960 ≤ ((s.modPlans 9 fun x => { x with inlet := 960 }).getPlans 9).inlet ∧ s.tankFlow < 200 ∧ (94#7).toNat < 95 ∧ (89#7).toNat < 90 ∧
    (s.modPlanner fun p => { p with failover := true }).rack.planner.failover = true := by decide +kernel

theorem witness_LoftUpkeepAndAperture :
    let s := coreState {}
    let x : PchReq := { cls := 2, part := 5, waited := 30000 }
    let b := s.putLofts (fieldKey 3 10) { copies := [70] }
    s.loftOn 3 10 = true ∧ s.loftDead 3 10 = false ∧ [x] ≠ [] ∧ mget 0 (s.getLofts (fieldKey 3 10)).scrub 5 + 16 < bankLines ∧ 5 ∉ (s.getLofts (fieldKey 3 10)).lateBanks ∧
    b.loftOn 3 10 = true ∧ b.loftDead 3 10 = false ∧ 70 ∈ (b.getLofts (fieldKey 3 10)).copies ∧
    ((after (.pchArbitration 3 10 4 [{ x with cls := 0 }, x, { x with waited := 40000, part := 6 }]) s).getPchs (fieldKey 3 10 * 32 + 4)).holder = some (2, 6) := by decide +kernel

theorem witness_LoftUpkeepAndAperture_TheAperture :
    let base := ((coreState {}).wr HIF_LINK_STATE 3 0 2).wr PWR_DOM_STAT_STATE 3 (288 + hostBridge 0) 3
    let s := ((base.wr HIF_APT_VALID 3 0 1).wr HIF_APT_FIELD 3 0 10).wr HIF_APT_PAGE 3 0 2
    let p := s.withLoftPoison [lineKey 3 10 0x2000040]
    s.apertureOpen 3 = true ∧ [(true, (7 : Byte)), (false, 8)].length = (2#13).toNat ∧ (2#13) ≠ 0 ∧ (0x48#36).toNat % 64 + (2#13).toNat ≤ 64 ∧
    s.apertureWaits 3 0x48 2 = false ∧ p.apertureWaits 3 0x48 2 = false ∧ base.apertureWaits 3 0x48 2 = false ∧ base.apertureOpen 3 = true ∧
    (match base.apertureAt 3 0x48 with | .error r => decide (r = 0) | .ok _ => false) = true ∧ (match s.apertureAt 3 0x48 with | .ok x => decide (x = (10, 0x2000048)) | .error _ => false) = true ∧
    p.poisoned 3 10 0x2000048 = true ∧ s.poisoned 3 10 0x2000048 = false ∧ base.rd HIF_APT_CAP_VALID 3 0 = 0 ∧
    (after (.apertureWrite 3 0x48 [(true, 7), (false, 8)] .good) s).loftByte 3 10 0x2000048 = 7 := by decide +kernel

theorem witness_HeatGhostLightAndAgeing :
    let s := coreState {}
    let x : QuadTemp := { quad := 40, t0 := 1361, t1 := 1300, t2 := 1310, t3 := 1305 }
    let hot := s.wr THM_Q_TJ 3 40 1345
    let cool := (s.putThermChs (fieldKey 3 10) { coolSince := some 0 }).withNow 10000000 |>.putParks (parkKey 3 41) { hot := 6 }
    let rot := ((hot.setReg PRT_DEF 3 5 (0x10000 + 3 * 2 ^ 17)).wr PRT_DEF_LEAD_SLOT 3 5 3).setReg PRT_QMASK 3 46 0x100 |>.wr THM_ROT_ENABLE 3 5 1 |>.wr THM_CH_CFG_MODE 3 10 1
    quadTj x = 1361 ∧ s.domState 3 40 = 3 ∧ hot.hottest 3 10 = 0 ∧ hot.hotC 3 ≤ hot.tj 3 40 ∧ hot.rd THM_CH_CFG_MODE 3 10 = 0 ∧ s.tj 3 40 < s.coolC 3 ∧
    (s.getThermChs (fieldKey 3 10)).coolSince = none ∧ (cool.getThermChs (fieldKey 3 10)).coolSince = some 0 ∧ 0 + 10000000 ≤ cool.now ∧ cool.hottest 3 10 = 0 ∧ cool.tj 3 40 < cool.coolC 3 ∧
    ((List.range 4).find? fun j => (cool.getParks (parkKey 3 (40 + j))).hot != 0) = some 1 ∧ rot.rotatingPart 3 40 = some 5 ∧ rot.rd THM_CH_CFG_MODE 3 10 = 1 ∧ rot.hotC 3 ≤ rot.tj 3 40 ∧
    rot.defined 3 5 = true ∧ rot.isLead 3 5 = true ∧ rot.rd THM_ROT_ENABLE 3 5 = 1 ∧ rot.peersOf 3 5 = [] := by decide +kernel

theorem witness_HeatGhostLightAndAgeing_ghost :
    let s := coreState {}
    let idle := s.wr BUP_STAT_READY 3 0 16
    let g := s.wr THM_GHOST_STAT_STATE 3 0 2
    let h := g.putWarming 3 [360, 361]
    idle.rd THM_GHOST_ENABLE 3 0 = 1 ∧ idle.rd THM_GHOST_STAT_STATE 3 0 ≠ 2 ∧ idle.waferIdle 3 = true ∧ g.rd THM_GHOST_STAT_STATE 3 0 = 2 ∧ g.domState 3 40 = 3 ∧
    g.tj 3 40 < g.rd THM_GHOST_FLOOR_C 3 0 * 16 ∧ g.sampleDraw 3 < g.ghostLimit 3 ∧ h.getWarming 3 = 360 :: [361] ∧ (h.getWarming 3).Nodup ∧
    (40, 2) ∈ h.warmOrder 3 ∧ Group.key (40, 2) ∉ h.getWarming 3 := by decide +kernel

theorem witness_HeatGhostLightAndAgeing_Ageing :
    let s := coreState {}
    let r := s.putAgeMons (ageKey 3 160) { running := true, forced := true, disturbed := true }
    s.disturbed 3 40 = false ∧ (s.getAgeMons (ageKey 3 160)).running = false ∧ s.domState 3 40 = 3 ∧ (r.getAgeMons (ageKey 3 160)).running = true ∧
    (s.wr AGE_MON_QUALITY 3 161 0).rd AGE_MON_QUALITY 3 (4 * 40 + 1) ≠ 2 ∧ (s.getAgeQs (parkKey 3 40)).stress < 500 * stressHour := by decide +kernel

theorem witness_PcieFunctionAndLink_PcieLinkAndPowerStates :
    (State.reset.wr HIF_LINK_PERST 3 0 1).rd HIF_LINK_PERST 3 0 = 1 ∧
    ((State.reset.putHifs 3 { termination := true }).getHifs 3).termination = true ∧ State.reset.rd HIF_LINK_PERST 3 0 = 0 ∧
    State.reset.rd HIF_LINK_DSTATE 3 0 ≠ 2 ∧
    (State.reset.wr HIF_LINK_STATE 3 0 2).rd HIF_LINK_STATE 3 0 = 2 ∧ State.reset.rd HIF_MSIX_PBA_PENDING 3 0 = 0 ∧
    (∀ c < 4, (State.reset.getChans (key2 3 c)).live = []) ∧
    ((State.reset.wr HIF_LINK_DSTATE 3 0 1).wr HIF_WAKE_PME_STATUS 3 0 1).rd HIF_LINK_DSTATE 3 0 = 1 ∧
    ((State.reset.wr HIF_LINK_DSTATE 3 0 1).wr HIF_WAKE_PME_STATUS 3 0 1).rd HIF_WAKE_PME_STATUS 3 0 = 1 ∧
    (State.reset.wr HIF_LINK_STATE 3 0 7).rd HIF_LINK_STATE 3 0 = 7 ∧ (State.reset.wr HIF_LINK_STATE 3 0 3).rd HIF_LINK_STATE 3 0 = 3 := by decide +kernel

theorem witness_InterruptsAndAttention :
    let s := ((State.reset.wr HIF_LINK_BME 3 0 1).setReg HIF_MSIX_VCTL 3 0 0).setReg ATN_CAUSE 3 3 1 |>.setReg ATN_MASK 3 0 0 |>.setReg ATN_LMASK 3 3 0
    s.atnSummary 3 ≠ 0 ∧ (s.getHifs 3).msixEnable = false ∧ (s.getHifs 3).funcMask = false ∧ s.rd HIF_MSIX_VCTL_MASK 3 0 = 0 ∧ s.rd HIF_LINK_DSTATE 3 0 = 0 ∧
    s.rd HIF_LINK_BME 3 0 = 1 := by decide +kernel

theorem witness_InterruptsAndAttention_AttentionCommands :
    ((State.reset.putAtns 3 { hostTimer := some 4 }).getAtns 3).hostTimer.isSome = true ∧ (State.reset.putAtns 3 { hostTimer := some 4 }).atnSummary 3 = 0 ∧
    ((State.reset.putAtns 3 { spacing := true }).getAtns 3).heldEvent = false ∧ ((State.reset.putAtns 3 { tmcTimer := some 1 }).getAtns 3).tmcTimer.isSome = true ∧
    bitAt (8#16).toNat 3 = true ∧ ((State.reset.setReg ATN_CAUSE 3 2 1).leafSet 3 ⟨2, 0⟩) = true := by decide +kernel

theorem witness_DmaChannels :
    let run := (State.reset.wr HIF_DMA_STAT_STATE 3 1 1).setReg HIF_DMA_TAIL 3 1 1
    let bad : DmaDesc := ⟨1, 0, 4, false, false, false, 0⟩
    4 ≤ (4#4).toNat ∧ State.reset.rd HIF_DMA_CFG_ENABLE 3 1 = 0 ∧ (3#4).toNat < 4 ∧ run.rd HIF_DMA_STAT_STATE 3 1 ≠ 0 ∧
    run.dmaRingSize 3 1 < ((2#32).toNat + 2 ^ 32 - run.reg HIF_DMA_HEAD 3 1) % 2 ^ 32 ∧ ((1#32).toNat + 2 ^ 32 - run.reg HIF_DMA_HEAD 3 1) % 2 ^ 32 ≤ run.dmaRingSize 3 1 ∧
    (State.reset.wr HIF_DMA_STAT_STATE 3 1 3).rd HIF_DMA_STAT_STATE 3 1 = 3 ∧ run.rd HIF_DMA_STAT_STATE 3 1 = 1 ∧ (run.getChans (key2 3 1)).live.length < run.dmaGiven 3 1 ∧
    ((run.putChans (key2 3 1) { live := [(bad, 0)] }).getChans (key2 3 1)).live = (bad, 0) :: [] ∧ dmaOk bad = false := by decide +kernel

theorem witness_TimeOfRmcsAndWafers :
    let s := State.reset
    let l := (s.putRmcs 1 { quality := 1, lockRun := some 0 }).withNow 60000000000
    let h := (s.putRmcs 1 { quality := 1, lastRef := 0 }).withNow 500000000000000
    (l.getRmcs 1).lockRun = some 0 ∧ (50#64).toInt.natAbs ≤ 50 ∧ 0 + 60000000000 ≤ l.now ∧ 50 < (51#64).toInt.natAbs ∧ (1000000#64).toInt ≤ 1000000 ∧
    1000000 < (1000001#64).toInt ∧ s.anySchedArmed = false ∧
    ((s.wr NET_MGMT_PLANNER_OK 7 0 1).wr TB_STAT_SCHED_ARMED 7 0 1).anySchedArmed = true ∧ s.rack.planner.haveActive = true ∧
    1000000 < (h.getRmcs 1).bound h.now ∧ (h.getRmcs 1).quality = 1 := by decide +kernel

theorem witness_TimeOfRmcsAndWafers_WaferTime :
    let s := ((State.reset.wr TB_STAT_QUALITY 3 0 0).wr TB_STAT_RMC_QUALITY 3 0 0).putClocks 3 { todSeconds := 5, todSince := true }
    let at_ := fun (n : Nat) => s.withNow n
    let f : List Byte := (timeFrame 1 (leBytes 6 5 ++ [1, 37, 0] ++ leBytes 4 50)).map (BitVec.ofNat 8)
    let free := s.wr TB_STAT_QUALITY 3 0 2
    let re := (free.putClocks 3 { todSeconds := 5, todSince := true, marker := some 4000000000 }).withNow 5000000000
    let st := (free.putClocks 3 { todSeconds := 5, todSince := true, todStep := true, acquired := true }).withNow 4998000000
    (frameBody 1 17 []).isNone = true ∧ (frameBody 1 17 (f.map BitVec.toNat)).map (fun b => b.getD 6 0 % 4) = some 1 ∧ s.rd TB_STAT_QUALITY 3 0 = 0 ∧
    (at_ 5000000000).follows 3 = true ∧ (at_ 5000000000).markerOffset 3 = 0 ∧ s.rd TB_STAT_RMC_QUALITY 3 0 = 0 ∧ 2000 < ((at_ 5000002001).markerOffset 3).natAbs ∧
    re.follows 3 = false ∧ 4000000000 + 999975000 ≤ re.tbNow 3 ∧ re.tbNow 3 ≤ 4000000000 + 1000025000 ∧
    st.follows 3 = false ∧ 1000000 < st.markerOffset 3 ∧ st.mayStep 3 = true ∧ (st.wr TB_STAT_SCHED_ARMED 3 0 1).mayStep 3 = false ∧
    1000000 < (s.wr TB_STAT_QUALITY 3 0 1).tbBound 3 ∧ (after (.marker 3) st).tbNow 3 = 5000000000 := by decide +kernel

theorem witness_TrayFramesAndControllers :
    let s := State.reset
    let f := fun (b : List Nat) => (b.map (BitVec.ofNat 8) : List Byte).map BitVec.toNat
    let rd := taf 1 4 9 0 1 0 []
    let wr := taf 2 4 10 0xC 1 0 [0x2F00B]
    parseFrame (f rd) = some ⟨1, 4, 9, 0, 1, 0, []⟩ ∧ Frame.ok ⟨1, 4, 9, 0, 1, 0, []⟩ = true ∧
    parseFrame (f wr) = some ⟨2, 4, 10, 0xC, 1, 0, [0x2F00B]⟩ ∧ Frame.ok ⟨2, 4, 10, 0xC, 1, 0, [0x2F00B]⟩ = true ∧ s.stationRuns 46 = true ∧
    ((s.getTafKept 46).find? fun y => y.1 == 5 && y.2.1 == 9).isNone = true ∧ (parseFrame (f (taf 3 0 1 0 0 0 []))).map (fun x => x.typ) = some 3 := by decide +kernel

theorem witness_TrayFramesAndControllers_events :
    let s := State.reset
    let f := fun (b : List Nat) => (b.map (BitVec.ofNat 8) : List Byte).map BitVec.toNat
    let ev := s.modTmcs 7 fun x => { x with events := [(3, 0, [5]), (4, 5, [5])] }
    (parseFrame (f (taf 4 0 1 0 3 0 [1, 5, 2]))).map (fun x => (x.typ, x.data)) = some (4, [1, 5, 2]) ∧ s.rack.planner.haveActive = true ∧
    ((ev.getTmcs 7).events.find? fun y => y.1 = 3) = some (3, 0, [5]) ∧ ((ev.getTmcs 7).events.find? fun y => y.1 = 4) = some (4, 5, [5]) ∧
    (s.getTmcs 7).running = true ∧ 3 < sidebandPorts 7 ∧ mget 0 (s.getTmcs 7).sideband 3 ≠ 2 ∧ mget false (s.getTmcs 7).presence 3 ≠ true ∧
    ((s.modTmcs 7 fun x => { x with attnSeen := true }).getTmcs 7).attnSeen ≠ (s.getAtns 7).attnN ∧ (s.getWafers 7).powered = false ∧ hasSpot 46 = true ∧ s.spotDriven 46 = true ∧
    ((s.putSpots 46 { lit := true, timeout := 9 }).getSpots 46).timeout ≠ 0 ∧ ((s.modTmcs 38 fun x => { x with powerOn := true }).getTmcs (36 + 5 / 2)).powerOn = true ∧
    (s.getTmcs 38).running = true := by decide +kernel

theorem witness_FirmwareSlots :
    let s := State.reset
    let k := fwKey 2 7
    let st := fun (n : Nat) => s.putFws k { b := ⟨n, 9, [1]⟩ }
    s.fwWritable 2 7 = true ∧ (s.getFws k).accepts 1 = true ∧ ((st 1).getFws k).find 1 = some 1 ∧ (∀ x ∈ (st 1).rack.planner.tasks, x.immediate = false) ∧
    ((st 2).getFws k).find 1 = none ∧ ((st 2).getFws k).find 3 = none ∧ (st 2).mayActivate 2 7 = true ∧ ((st 2).getFws k).find 2 = some 1 ∧ ((st 5).getFws k).find 5 = some 1 ∧
    ((st 3).getFws k).find 3 = some 1 ∧ (st 3).fwWritable 2 7 = true := by decide +kernel

theorem witness_RedfishService :
    let s := State.reset
    let p := s.rack.planner
    let on := ((s.modWafers 7 fun x => { x with powered := true }).wr BUP_STAT_READY 7 0 1).modPlans 7 fun x => { x with written := 12000 }
    p.haveActive = true ∧ p.active = (0 : RmcId).val ∧ p.active ≠ (1 : RmcId).val ∧ (5#32).toNat ≠ s.getEtags (resKey .tank) ∧ propOk .tank .coolantSetpointC 46 = false ∧
    (s.getTmcs 7).running = true ∧ (s.getWafers 7).interlockOpen = false ∧ (on.getWafers 7).powered = true ∧ (on.getWafers 7).downSeq ≠ some 0 ∧
    ((s.modTmcs 40 fun x => { x with powerOn := true }).getTmcs 40).powerOn = true ∧ ((s.modTmcs 7 fun x => { x with running := false }).getTmcs 7).running = false ∧
    (s.getRmcs 0).lastSync = none ∧ s.fwWritable 2 7 = true ∧ (s.getFws (fwKey 2 7)).accepts (s.getFws (fwKey 2 7)).spare = true ∧ s.fwWritable 2 44 = false ∧ p.subs.length < 16 ∧
    16 ≤ ((s.modPlanner fun q => { q with subs := List.replicate 16 (1, 1) }).rack.planner.subs).length ∧ on.planned 7 = true ∧ on.hostRuns 7 = true ∧ on.capDiffers 7 = true ∧
    (on.getPlans 7).written = 12000 := by decide +kernel

theorem witness_TwoWireBus :
    let s := (State.reset.modWafers 3 fun x => { x with powered := true })
    let h := s.wr BUP_STAT_READY 3 0 1
    let bs : List Nat := [9, 7, 0x00, 0x03, 0x04, 0, 0xE0, 0x2E, 0, 0]
    let d := h.modTwis 3 fun x => { x with last := some (7, 0x40300, [0xE0, 0x2E, 0, 0]) }
    let b : List Byte := bs.map (BitVec.ofNat 8)
    (s.getWafers 3).powered = true ∧ s.hostRuns 3 = false ∧ h.hostRuns 3 = true ∧ writeOk bs = true ∧ writeOk [] = false ∧ (h.wr TWI_TGT_CFG_PEC_REQ 3 0 0).rd TWI_TGT_CFG_PEC_REQ 3 0 = 0 ∧ bs.getD 1 0 ≠ 0 ∧
    (d.getTwis 3).last = some (bs.getD 1 0, ofLeBytes ((bs.drop 2).take 3), bs.drop 6) ∧ (h.getTwis 3).last ≠ some (bs.getD 1 0, ofLeBytes ((bs.drop 2).take 3), bs.drop 6) ∧
    readOk [5, 0, 3, 4, 0, 1] = true ∧ readOk [] = false ∧ (after (.twiWrite 3 0x10 b (some (BitVec.ofNat 8 (crc8 (0x58 :: 0x10 :: bs)))) 0) h).rd PWR_CAP_CAP_W 3 0 = 12000 := by decide +kernel

theorem witness_TwoWireBus_TwoWireController :
    let s := State.reset
    let b := (s.wr TWI_CTRL_STAT_BUSY 3 0 1).wr TWI_CTRL_CMD_RLEN 3 0 4
    let r := (s.modTwis 3 fun x => { x with recoveries := [(2, 0), (2, 0)] })
    s.rd TWI_CTRL_STAT_BUSY 3 0 = 0 ∧ s.rd TWI_CTRL_CFG_SEGMENT 3 0 ≤ 8 ∧ bitAt (s.rd TWI_CTRL_STAT_STUCK 3 0) (s.rd TWI_CTRL_CFG_SEGMENT 3 0) = false ∧
    bitAt ((s.wr TWI_CTRL_STAT_STUCK 3 0 1).rd TWI_CTRL_STAT_STUCK 3 0) 0 = true ∧ b.rd TWI_CTRL_STAT_BUSY 3 0 = 1 ∧ 1 < b.rd TWI_CTRL_CMD_RLEN 3 0 ∧
    b.rd TWI_CTRL_STAT_RETRIES 3 0 < b.rd TWI_CTRL_CFG_RETRY 3 0 ∧ (b.wr TWI_CTRL_CFG_RETRY 3 0 0).rd TWI_CTRL_CFG_RETRY 3 0 ≤ b.rd TWI_CTRL_STAT_RETRIES 3 0 ∧
    2 ≤ ((r.getTwis 3).recoveries.filter fun y => y.1 = 2 ∧ r.now < y.2 + 1000000000).length ∧ b.rd TWI_CTRL_CFG_SEGMENT 3 0 = 8 := by decide +kernel

theorem witness_PrompterPort :
    let s := (State.reset.modWafers 3 fun x => { x with powered := true })
    let h := s.wr BUP_STAT_READY 3 0 1
    let a := (s.wr DBG_STAT_PATH 3 0 2).wr DBG_STAT_ATTACHED 3 0 1
    (s.getWafers 3).powered = true ∧ (5#5) ∉ [(0#5), 1, 2, 8, 9] ∧ h.hostRuns 3 = true ∧ s.hostRuns 3 = false ∧ a.rd DBG_STAT_PATH 3 0 = 2 ∧ a.rd DBG_STAT_ATTACHED 3 0 = 1 ∧
    ((after (.dpaccRead 3 0 false) h).getTwis 3).dpData = h.reg ID_CHIP 3 0 := by decide +kernel

theorem witness_DebuggingCores :
    let sel := fun (c : Core) => ((coreState c).wr DBG_SEL_FIELD 3 0 10).wr DBG_SEL_UNIT 3 0 27
    let s := sel { st := .run }
    let h := sel { st := .halt, reason := 1, before := .run }
    s.dbgCore 3 = (10, 27) ∧ s.dbgReach 3 10 27 = true ∧ (sel { st := .idle }).dbgReach 3 10 27 = true ∧ ((sel { st := .idle }).core 3 10 27).st = .idle ∧
    (sel { st := .off }).dbgReach 3 10 27 = false ∧ s.dbgBcast 3 = false ∧ (s.core 3 10 27).st = .run ∧ (s.core 3 10 27).haltReq = none ∧ h.dbgReach 3 10 27 = true ∧
    (h.core 3 10 27).st = .halt ∧ (h.core 3 10 27).reason ≠ 0 ∧ (h.core 3 10 27).faultHeld = false ∧ s.rd DBG_STAT_ATTACHED 3 0 = 0 ∧
    (s.wr DBG_STAT_ATTACHED 3 0 1).rd DBG_STAT_ATTACHED 3 0 = 1 := by decide +kernel

theorem witness_DebuggingCores_memory :
    let sel := fun (c : Core) => ((coreState c).wr DBG_SEL_FIELD 3 0 10).wr DBG_SEL_UNIT 3 0 27
    let q := sel { st := .run, haltReq := some 1 }
    let h := sel { st := .halt, reason := 1, before := .run }
    let i := coreIdx 10 27
    (q.core 3 10 27).haltReq = some 1 ∧ (q.core 3 10 27).st = .run ∧ q.breakAt 3 10 27 (q.core 3 10 27).pc = none ∧ memInRange (h.rd DBG_MEM_ADDR_SPACE 3 i) (h.rd DBG_MEM_ADDR_ADDR 3 i / 8 * 8) = true ∧
    h.rd DBG_MEM_ADDR_SPACE 3 i = 0 ∧ (h.wr DBG_MEM_ADDR_SPACE 3 i 1).rd DBG_MEM_ADDR_SPACE 3 i = 1 ∧
    memInRange ((h.wr DBG_MEM_ADDR_ADDR 3 i 0x18000).rd DBG_MEM_ADDR_SPACE 3 i) ((h.wr DBG_MEM_ADDR_ADDR 3 i 0x18000).rd DBG_MEM_ADDR_ADDR 3 i / 8 * 8) = false ∧
    (after (.dbgMemWrite 3 0x1122334455667788) h).dbgCore 3 = (10, 27) ∧ ((after (.dbgMemWrite 3 0x1122334455667788) h).core 3 10 27).bytes 0 8 = leBytes 8 0x1122334455667788 := by decide +kernel

theorem witness_ACoreHaltsOnce :
    let sel := fun (c : Core) => ((coreState c).wr DBG_SEL_FIELD 3 0 10).wr DBG_SEL_UNIT 3 0 27
    let q := sel { st := .run, haltReq := some 1, pc := 7 }
    let b := (q.wr DBG_BP_ENABLE 3 (coreIdx 10 27 * 4 + 2) 1).wr DBG_BP_INDEX 3 (coreIdx 10 27 * 4 + 2) 7
    let h := sel { st := .halt, reason := 1 }
    (b.core 3 10 27).st = .run ∧ (b.core 3 10 27).wait = .none ∧ (b.core 3 10 27).skipBreak = false ∧ (b.core 3 10 27).haltReq = some 1 ∧
    b.breakAt 3 10 27 (b.core 3 10 27).pc = some 2 ∧ q.breakAt 3 10 27 (q.core 3 10 27).pc = none ∧ b.rd DBG_HALT_CAP_VALID 3 0 = 0 ∧ (h.core 3 10 27).st = .halt ∧ h.dbgBcast 3 = false ∧
    h.dbgCore 3 = (10, 27) := by decide +kernel

theorem witness_FramesOfCoresAndNetwork : exec (.ackDeadline (.port 3 5)) State.reset = .next (after (.ackDeadline (.port 3 5)) State.reset) := by rfl

theorem witness_FramesOfJobsCuesAndActs : exec (.idleReport 3 5 0 0 4) State.reset = .next (after (.idleReport 3 5 0 0 4) State.reset) := by rfl

theorem witness_FramesOfPortsAndRack : exec (.msixSpacing 3) State.reset = .next (after (.msixSpacing 3) State.reset) := by rfl
end

section
/-!
SUPPORT. Rules of registers and wings that the laws leave out, what a raise sends, and what an access error leaves (R65, R585, R588).
-/
set_option Elab.async false
namespace Sys2Proof.Machine

/-! ## Registers and wings -/

theorem State.reg_lt (s : State) (r : Reg) (w i : Nat) : s.reg r w i < 2 ^ 64 := BitVec.isLt _

theorem State.wreg_lt (s : State) (r : Reg) (w i : Nat) : s.wreg r w i < 2 ^ 64 := BitVec.isLt _

@[simp] theorem State.wreg_setReg (s : State) (r q : Reg) (w i v x j : Nat) : (s.setReg r w i v).wreg q x j = s.wreg q x j := rfl

@[simp] theorem State.reg_setWreg (s : State) (r q : Reg) (w i v x j : Nat) : (s.setWreg r w i v).reg q x j = s.reg q x j := rfl

/-- A wings copy reads what was written to it. -/
theorem State.wreg_setWreg_same (s : State) (r : Reg) (w i v : Nat) : (s.setWreg r w i v).wreg r w i = v % 2 ^ 64 := by
  simp [State.wreg, State.setWreg]

/-- Another wings copy reads as before. -/
theorem State.wreg_setWreg_ne (s : State) (r q : Reg) (w i v x j : Nat) (h : q.key x j ≠ r.key w i) : (s.setWreg r w i v).wreg q x j = s.wreg q x j := by
  simp only [State.wreg, State.setWreg, State.withWings_wings, mget_mset_ne _ _ _ _ _ _ h]

/-- Another live copy reads as before. -/
theorem State.reg_setReg_key (s : State) (r q : Reg) (w i v x j : Nat) (h : q.key x j ≠ r.key w i) : (s.setReg r w i v).reg q x j = s.reg q x j := by
  simp only [State.reg, State.setReg, State.withRegs_regs, mget_mset_ne _ _ _ _ _ _ h]

theorem Keeps.wreg {m : Nat} {s t : State} (h : Keeps m s t) (hm : m.testBit 1 = false) (r : Reg) (w i : Nat) : t.wreg r w i = s.wreg r w i := by
  unfold State.wreg; rw [h.wings hm]

theorem Keeps.sameLofts {m : Nat} {s t : State} (h : Keeps m s t) (hm : m.testBit 0 = false) : SameLofts s t := by
  obtain ⟨hbytes, hpoison⟩ := h.loft hm
  exact ⟨fun _ _ _ => by unfold State.loftByte; rw [hbytes], fun _ _ _ => by unfold State.poisoned; rw [hpoison]⟩

theorem Keeps.sameRegs {m : Nat} {s t : State} (h : Keeps m s t) (but : List Reg) (hm : ∀ i < 320, i ∉ but.map (·.id) → m.testBit (64 + i) = false) : SameRegs but s t :=
  fun r w i hr hb => h.regs r w i hr (hm r.id hr hb)

theorem notBits_lt (v : Nat) : notBits 64 v < 2 ^ 64 := Nat.xor_lt_two_pow (by decide) (Nat.mod_lt _ (by decide))

/-- Clearing no bit of a 64-bit value leaves it. -/
theorem and_notBits_zero {v : Nat} (h : v < 2 ^ 64) : v &&& notBits 64 0 = v := by
  have e : notBits 64 0 = 2 ^ 64 - 1 := by decide
  rw [e, Nat.and_two_pow_sub_one_eq_mod, Nat.mod_eq_of_lt h]

/-- A value with some bits replaced stays within 64 bits. -/
theorem mergeBits_lt {a b m : Nat} (hb : b < 2 ^ 64) : (a &&& notBits 64 m) ||| (b &&& m) < 2 ^ 64 :=
  Nat.or_lt_two_pow (Nat.and_lt_two_pow _ (notBits_lt m)) (lt_of_le_of_lt Nat.and_le_left hb)

/-! ## What a raise sends -/

/-- The messages by which the attention tree signals: MSI-X and PM_PME (R585, R588). -/
def Emit.isSignal : Emit → Bool
  | .msix _ _ _ => true
  | .pme _ => true
  | _ => false

/-- Between two states only signals of the attention tree have been sent. -/
def SendsSignals (s t : State) : Prop := ∃ new, t.out = new ++ s.out ∧ ∀ e ∈ new, e.isSignal = true

theorem SendsSignals.of_out {s t : State} (h : t.out = s.out) : SendsSignals s t := ⟨[], h, by simp⟩

theorem SendsSignals.refl (s : State) : SendsSignals s s := .of_out rfl

theorem SendsSignals.trans {s t u : State} (h1 : SendsSignals s t) (h2 : SendsSignals t u) : SendsSignals s u := by
  obtain ⟨a, ha, hsa⟩ := h1
  obtain ⟨b, hb, hsb⟩ := h2
  refine ⟨b ++ a, by rw [hb, ha, List.append_assoc], fun e he => ?_⟩
  rcases List.mem_append.mp he with h | h
  · exact hsb e h
  · exact hsa e h

theorem SendsSignals.emit {s t : State} (h : SendsSignals s t) {e : Emit} (he : e.isSignal = true) : SendsSignals s (t.emit e) :=
  h.trans ⟨[e], rfl, by simpa using he⟩

theorem SendsSignals.ite {s t u : State} {p : Prop} [Decidable p] (h1 : SendsSignals s t) (h2 : SendsSignals s u) : SendsSignals s (if p then t else u) := by
  split
  · exact h1
  · exact h2

theorem SendsSignals.setReg {s t : State} (h : SendsSignals s t) (r : Reg) (w i v : Nat) : SendsSignals s (t.setReg r w i v) := h.trans (.of_out rfl)

theorem SendsSignals.wr {s t : State} (h : SendsSignals s t) (f : Fld) (w i v : Nat) : SendsSignals s (t.wr f w i v) := h.setReg _ _ _ _

theorem SendsSignals.putAtns {s t : State} (h : SendsSignals s t) (k : Nat) (a : Atn) : SendsSignals s (t.putAtns k a) := h.trans (.of_out rfl)

theorem SendsSignals.msixPend {s t : State} (h : SendsSignals s t) (w : Nat) (b : Bool) : SendsSignals s (t.msixPend w b) :=
  (((h.wr _ _ _ _).wr _ _ _ _).wr _ _ _ _).wr _ _ _ _

theorem State.sendMsix_signals (s : State) (w : Nat) : SendsSignals s (s.sendMsix w) := by
  unfold State.sendMsix
  have hsent : ∀ addr data, SendsSignals s ((s.bump HIF_MSIX_STAT_SENT w 0 1).emit (.msix w addr data)) :=
    fun _ _ => ((SendsSignals.refl s).wr _ _ _ _).emit rfl
  exact .ite (.refl s) (.ite ((SendsSignals.refl s).msixPend w true) (((hsent _ _).msixPend w false).putAtns _ _))

theorem State.hostEvent_signals (s : State) (w : Nat) : SendsSignals s (s.hostEvent w) := by
  have hput : ∀ a, SendsSignals s (s.putAtns w a) := fun a => (SendsSignals.refl s).putAtns w a
  unfold State.hostEvent
  exact .ite (.refl s) (.ite (.ite (hput _) (s.sendMsix_signals w)) (hput _))

theorem State.tmcEvent_signals (s : State) (w g : Nat) : SendsSignals s (s.tmcEvent w g) := by
  have hseen := (SendsSignals.refl s).setReg ATN_TMC_SEEN w 0 (s.reg ATN_TMC_SEEN w 0 ||| 2 ^ g)
  unfold State.tmcEvent
  exact .ite hseen (hseen.putAtns _ _)

theorem State.raiseBare_signals (s : State) (w : Nat) (l : Leaf) : SendsSignals s (s.raiseBare w l) := by
  have htime := (SendsSignals.refl s).setReg ATN_GTIME w l.g (s.tbNow w)
  have hset := htime.setReg ATN_CAUSE w l.g (s.reg ATN_CAUSE w l.g ||| 2 ^ l.b)
  have hhost := SendsSignals.ite (p := bitAt (s.reg ATN_MASK w 0) l.g = true) hset (hset.trans (State.hostEvent_signals _ w))
  unfold State.raiseBare
  exact .ite (htime.setReg _ _ _ _) (.ite hset (.ite hhost (hhost.trans (State.tmcEvent_signals _ w l.g))))

theorem State.wakeEvent_signals (s : State) (w g : Nat) : SendsSignals s (s.wakeEvent w g) := by
  have hgroup := (SendsSignals.refl s).wr HIF_WAKE_GROUPS w 0 (s.rd HIF_WAKE_GROUPS w 0 ||| 2 ^ g)
  have hwake := (hgroup.wr HIF_WAKE_PME_STATUS w 0 1).trans (State.raiseBare_signals _ w Leaf.wake)
  unfold State.wakeEvent
  have hsignal := fun (p q : Prop) [Decidable p] [Decidable q] =>
    SendsSignals.ite (p := p) (.ite (p := q) ((hwake.wr HIF_WAKE_SIGNAL w 0 1).wr HIF_WAKE_WAKE_ASSERTED w 0 1) hwake) ((hwake.wr HIF_WAKE_SIGNAL w 0 2).emit (e := .pme w) rfl)
  exact .ite hgroup (.ite ((hsignal _ _).wr _ _ _ _) (hsignal _ _))

/-- Raising a leaf sends nothing but signals (R585, R588). -/
theorem State.raise_signals (s : State) (w : Nat) (l : Leaf) : SendsSignals s (s.raise w l) := by
  unfold State.raise State.wakeCheck
  exact .ite ((s.raiseBare_signals w l).trans (State.wakeEvent_signals _ w l.g)) (s.raiseBare_signals w l)

/-! ## Access errors -/

/-- An access error as it stands in the registers of `t`, reached from `s`: the captured access, the count of the first error, the leaf of its kind, and no change
of the wings (R65). -/
def ErrorCaptured (w path kind off write : Nat) (s t : State) : Prop :=
  t.rd ID_ERR_STAT_VALID w 0 = 1 ∧ t.rd ID_ERR_STAT_KIND w 0 = kind ∧ t.rd ID_ERR_STAT_PATH w 0 = path ∧ t.rd ID_ERR_STAT_WRITE w 0 = write ∧
    t.reg ID_ERR_ADDR w 0 = off % 2 ^ 24 ∧ t.rd ID_ERR_STAT_COUNT w 0 = satAdd ID_ERR_STAT_COUNT.width 0 1 ∧ t.leafSet w ⟨14, kind - 1⟩ = true ∧ t.wings = s.wings

theorem accessError_signals (w path kind off : Nat) (write : Bool) (s : State) : SendsSignals s (accessError w path kind off write s) := by
  unfold accessError
  exact ((SendsSignals.ite (.refl s) (((SendsSignals.refl s).setReg _ _ _ _).setReg _ _ _ _)).wr _ _ _ _).trans (State.raise_signals _ w _)

theorem accessError_leafSet (w path kind off : Nat) (write : Bool) (s : State) (h : kind ≤ 64) : (accessError w path kind off write s).leafSet w ⟨14, kind - 1⟩ = true :=
  State.raise_sets _ _ _ (show kind - 1 < 64 by omega)

theorem accessError_wings (w path kind off : Nat) (write : Bool) (s : State) : (accessError w path kind off write s).wings = s.wings :=
  (accessError_keeps w path kind off write s).wings (by decide +kernel)

/-- An access error changes no register but those of the error and of the attention tree. -/
theorem accessError_sameRegs (w path kind off : Nat) (write : Bool) (s : State) : SameRegs (ID_ERR_STAT :: ID_ERR_ADDR :: attentionRegs) s (accessError w path kind off write s) :=
  (accessError_keeps w path kind off write s).sameRegs _ (by decide +kernel)

/-- The fields of the capture word that an access error writes. -/
theorem errStat_fields (kind path : Nat) (write : Bool) (hk : kind < 16) (hp : path < 8) :
    let v := 1 + kind * 16 + path * 256 + b2n write * 2048
    bits v 0 0 = 1 ∧ bits v 7 4 = kind ∧ bits v 10 8 = path ∧ bits v 11 11 = b2n write ∧ bits v 31 16 = 0 := by
  have hw : b2n write < 2 := by cases write <;> decide
  simp only [bits, Nat.shiftRight_eq_div_pow]
  omega

/-- The first access error is captured whole and counted (R65). -/
theorem accessError_captures (w path kind off : Nat) (write : Bool) (s : State) (hv : s.rd ID_ERR_STAT_VALID w 0 = 0) (hk : kind < 16) (hp : path < 8) :
    ErrorCaptured w path kind off (b2n write) s (accessError w path kind off write s) := by
  obtain ⟨fvalid, fkind, fpath, fwrite, fcount⟩ := errStat_fields kind path write hk hp
  generalize hword : 1 + kind * 16 + path * 256 + b2n write * 2048 = v at fvalid fkind fpath fwrite fcount
  let s1 := (s.setReg ID_ERR_STAT w 0 v).setReg ID_ERR_ADDR w 0 (off % 2 ^ 24)
  have hs1 : ∀ f : Fld, f.reg = ID_ERR_STAT → f.hi < 64 → s1.rd f w 0 = bits v f.hi f.lo := fun f hf hh => by
    rw [State.rd_setReg_id _ _ _ _ _ _ _ _ (by rw [hf]; decide), ← hf, State.rd_setReg_same _ _ _ _ _ hh]
  have hE : accessError w path kind off write s = (s1.bump ID_ERR_STAT_COUNT w 0 1).raise w ⟨14, kind - 1⟩ := by
    unfold accessError; rw [if_neg (by omega), hword]
  have hfield : ∀ f : Fld, f.reg = ID_ERR_STAT → f.hi < 16 → (accessError w path kind off write s).rd f w 0 = bits v f.hi f.lo := fun f hf hh => by
    rw [hE, (State.raise_keeps _ _ _).rd f w 0 (by rw [hf]; decide) (by rw [hf]; decide +kernel), State.bump,
      State.rd_wr_field _ _ _ _ _ _ hf (by decide) (by omega) (Or.inl hh), hs1 f hf (by omega)]
  refine ⟨(hfield ID_ERR_STAT_VALID rfl (by decide)).trans fvalid, (hfield ID_ERR_STAT_KIND rfl (by decide)).trans fkind, (hfield ID_ERR_STAT_PATH rfl (by decide)).trans fpath,
    (hfield ID_ERR_STAT_WRITE rfl (by decide)).trans fwrite, ?_, ?_, accessError_leafSet w path kind off write s (by omega), accessError_wings ..⟩
  · rw [hE, (State.raise_keeps _ _ _).regs ID_ERR_ADDR w 0 (by decide) (by decide +kernel), State.bump, State.reg_wr_id _ _ _ _ _ _ _ _ (by decide),
      State.reg_setReg_same]
    omega
  · rw [hE, (State.raise_keeps _ _ _).rd ID_ERR_STAT_COUNT w 0 (by decide) (by decide +kernel), State.bump, State.rd_wr_same _ _ _ _ _ (by decide) (by decide),
      hs1 _ rfl (by decide)]
    show satAdd ID_ERR_STAT_COUNT.width (bits v 31 16) 1 % _ = _
    rw [fcount]; decide

end Sys2Proof.Machine
end

section
/-!
SUPPORT. What one access of the window comes to, and what it does to one register (R41-R50).
-/
set_option Elab.async false
namespace Sys2Proof.Machine

/-! ## Accesses of the window

A 4-byte access first takes the word that its path's latch has captured, so each lemma below names the state by the latches `m` that this leaves. -/

theorem exec_registerWrite (w : WaferId) (path : PathId) (word : BitVec 22) (ds : List (BitVec 4 × Word32)) (s : State) :
    exec (.registerWrite w path word ds) s = .next (windowWrite w path (word.toNat * 4) (ds.map fun d => (d.1.toNat, d.2.toNat)) s) := rfl

theorem exec_rcRead (w : WaferId) (path : PathId) (word : BitVec 22) (bes : List (BitVec 4)) (s : State) :
    exec (.rcRead w path word bes) s = .next (registerRead w path (word.toNat * 4) (bes.map BitVec.toNat) s) := rfl

theorem takeCaptured_eq (w path : Nat) (s : State) : ∃ m, (takeCaptured w path s).2 = s.withLatches m := by
  unfold takeCaptured
  dsimp only
  split
  · exact ⟨_, rfl⟩
  · exact ⟨s.win.latches, rfl⟩

theorem State.unserved_withLatches (s : State) (m : List (Nat × Latch)) (w off : Nat) : (s.withLatches m).unserved w off = s.unserved w off := rfl

section Requests
variable {w path off : Nat} {s : State} (hopen : s.windowOpen w path = true)
include hopen

theorem windowWrite_one (be v : Nat) : windowWrite w path off [(be, v)] s = write4 w path off be v s := by
  simp [windowWrite, hopen, writeWords]

theorem windowWrite_pair (h8 : off % 8 = 0) (lo hi : Nat) : windowWrite w path off [(15, lo), (15, hi)] s = write8 w path off lo hi s := by
  simp [windowWrite, hopen, writeWords, h8]

theorem registerRead_one (be : Nat) : registerRead w path off [be] s = (read4 w path off be s).2.emit (.reply path w [(read4 w path off be s).1]) := by
  simp [registerRead, windowRead, hopen, readWords]

theorem registerRead_pair (h8 : off % 8 = 0) :
    registerRead w path off [15, 15] s = (read8 w path off s).2.emit (.reply path w [(read8 w path off s).1.1, (read8 w path off s).1.2]) := by
  simp [registerRead, windowRead, hopen, readWords, h8]

end Requests

section OneWord
variable (w path : Nat) {off be : Nat} {s : State} (hbe : be ≠ 0)
include hbe

theorem write4_unserved (v : Nat) (hs : s.unserved w off = true) : ∃ m, write4 w path off be v s = accessError w path 2 off true (s.withLatches m) := by
  obtain ⟨m, hm⟩ := takeCaptured_eq w path s
  exact ⟨m, by simp [write4, hbe, hm, writeWord, State.unserved_withLatches, hs]⟩

theorem write4_unimplemented (v : Nat) (hs : s.unserved w off = false) (hr : regAt windowRegs off = none) :
    ∃ m, write4 w path off be v s = accessError w path 1 off true (s.withLatches m) := by
  obtain ⟨m, hm⟩ := takeCaptured_eq w path s
  exact ⟨m, by simp [write4, hbe, hm, writeWord, State.unserved_withLatches, hs, hr]⟩

theorem write4_partial (v : Nat) (h15 : be ≠ 15) (hs : s.unserved w off = false) {x : Reg × Nat × Bool} (hr : regAt windowRegs off = some x) :
    ∃ m, write4 w path off be v s = accessError w path 3 off true (s.withLatches m) := by
  obtain ⟨m, hm⟩ := takeCaptured_eq w path s
  exact ⟨m, by simp [write4, hbe, h15, hm, State.unserved_withLatches, hs, hr]⟩

theorem read4_unserved (hs : s.unserved w off = true) : ∃ m, read4 w path off be s = (unservedWord, accessError w path 2 off false (s.withLatches m)) := by
  obtain ⟨m, hm⟩ := takeCaptured_eq w path s
  exact ⟨m, by simp [read4, hbe, hm, readWord, State.unserved_withLatches, hs]⟩

theorem read4_unimplemented (hs : s.unserved w off = false) (hr : regAt windowRegs off = none) :
    ∃ m, read4 w path off be s = (unimplWord, accessError w path 1 off false (s.withLatches m)) := by
  obtain ⟨m, hm⟩ := takeCaptured_eq w path s
  exact ⟨m, by simp [read4, hbe, hm, readWord, State.unserved_withLatches, hs, hr]⟩

end OneWord

section Pair
variable (w path : Nat) {off : Nat} {s : State} (hs : s.unserved w off = false) (hlo : regAt windowRegs off = none) (hhi : regAt windowRegs (off + 4) = none)
include hs hlo hhi

theorem write8_unimplemented (lo hi : Nat) : ∃ m, write8 w path off lo hi s = accessError w path 1 off true (s.withLatches m) := by
  obtain ⟨m, hm⟩ := takeCaptured_eq w path s
  exact ⟨m, by simp [write8, hm, State.unserved_withLatches, hs, hlo, hhi]⟩

theorem read8_unimplemented : ∃ m, read8 w path off s = ((unimplWord, unimplWord), accessError w path 1 off false (s.withLatches m)) := by
  obtain ⟨m, hm⟩ := takeCaptured_eq w path s
  exact ⟨m, by simp [read8, hm, State.unserved_withLatches, hs, hlo, hhi]⟩

end Pair

section OneRegister
variable (w path : Nat) {off i : Nat} {r : Reg} {s : State} (hs : s.unserved w off = false) (hr : regAt windowRegs off = some (r, i, false))
  (hwide : r.wide = false) (hsel : r.sel = .none)
include hs hr hwide hsel

/-- A whole word written to a 32-bit register that no selection banks is committed to its copy. -/
theorem write4_commits (v : Nat) : ∃ m, write4 w path off 15 v s = commitReg w path off r i v (s.withLatches m) := by
  obtain ⟨m, hm⟩ := takeCaptured_eq w path s
  exact ⟨m, by simp [write4, hm, writeWord, State.unserved_withLatches, hs, hr, hwide, writePlace, State.bank, hsel]⟩

/-- A word read from a 32-bit register that no selection banks is its copy's value. -/
theorem read4_reads : ∃ m, read4 w path off 15 s = ((readReg w path r i (s.withLatches m)).1 % 2 ^ 32, (readReg w path r i (s.withLatches m)).2) := by
  obtain ⟨m, hm⟩ := takeCaptured_eq w path s
  exact ⟨m, by simp [read4, hm, readWord, State.unserved_withLatches, hs, hr, hwide, readPlace, State.bank, hsel]⟩

end OneRegister

/-! ## One register -/

/-- A staged copy that a cue or a load locks takes no write (R50). -/
theorem commitReg_locked (w path off : Nat) (r : Reg) (i v : Nat) (s : State) (hst : r.st ≠ 0) (hl : s.stLocked w r i = true) :
    commitReg w path off r i v s = accessError w path 4 off true s := if_pos ⟨hst, hl⟩

/-- A copy that is not locked, of a register whose write only stores, stores a value without reserved bits (R48). -/
theorem commitReg_stores (w path off : Nat) (r : Reg) (i v : Nat) (s : State) (hl : r.st = 0 ∨ s.stLocked w r i = false)
    (ha : (actingRegs.find? fun x => x.1.id == r.id) = none) (hres : r.reservedBits v = 0) : commitReg w path off r i v s = storeReg w r i v s := by
  have hfree : ¬ (r.st ≠ 0 ∧ s.stLocked w r i = true) := by
    rintro ⟨hst, hlock⟩
    rcases hl with h | h
    · exact hst h
    · rw [hlock] at h; exact absurd h (by decide)
  simp [commitReg, hfree, ha, hres, State.when]

/-- What the live value of a register becomes by a write, by its access types (R48). -/
def Reg.stored (r : Reg) (old v : Nat) : Nat := (((old &&& notBits 64 r.rw) ||| (v &&& r.rw)) &&& notBits 64 (v &&& r.w1c)) ||| (v &&& r.w1s)

theorem Reg.stored_lt (r : Reg) (old : Nat) {v : Nat} (hv : v < 2 ^ 64) : r.stored old v < 2 ^ 64 :=
  Nat.or_lt_two_pow (Nat.and_lt_two_pow _ (notBits_lt _)) (lt_of_le_of_lt Nat.and_le_left hv)

/-- A stored write replaces the RW bits of the live copy, and clears and sets by ones (R48). -/
theorem storeReg_reg (w : Nat) (r : Reg) (i : Nat) {v : Nat} (s : State) (hv : v < 2 ^ 64) : (storeReg w r i v s).reg r w i = r.stored (s.reg r w i) v := by
  have hlive : (if r.stored (s.reg r w i) v = s.reg r w i then s else s.setReg r w i (r.stored (s.reg r w i) v)).reg r w i = r.stored (s.reg r w i) v := by
    split
    · next h => exact h.symm
    · rw [State.reg_setReg_same, Nat.mod_eq_of_lt (r.stored_lt _ hv)]
  unfold storeReg
  by_cases hst : r.st = 0
  · simp only [if_pos hst]; exact hlive
  · simp only [if_neg hst, State.reg_setWreg]; exact hlive

theorem storeReg_unstaged_wings (w : Nat) (r : Reg) (i v : Nat) (s : State) (hst : r.st = 0) : (storeReg w r i v s).wings = s.wings := by
  unfold storeReg
  simp only [if_pos hst]
  split <;> rfl

/-- A stored write replaces the ST bits of the wings copy (R48). -/
theorem storeReg_staged_wreg (w : Nat) (r : Reg) (i : Nat) {v : Nat} (s : State) (hv : v < 2 ^ 64) (hst : r.st ≠ 0) :
    (storeReg w r i v s).wreg r w i = (s.wreg r w i &&& notBits 64 r.st) ||| (v &&& r.st) := by
  unfold storeReg
  simp only [if_neg hst, State.wreg_setWreg_same]
  rw [Nat.mod_eq_of_lt (mergeBits_lt hv)]
  split <;> rfl

theorem storeReg_out (w : Nat) (r : Reg) (i v : Nat) (s : State) : (storeReg w r i v s).out = s.out := by
  unfold storeReg
  dsimp only
  split <;> split <;> rfl

/-- What a read of a register shows before its WO bits are left out: the live copy, or the wings for ST bits where the path views them (R48, R60). -/
def State.viewed (s : State) (w path : Nat) (r : Reg) (i : Nat) : Nat :=
  if s.viewsWings w path r i then (s.reg r w i &&& notBits 64 r.st) ||| (s.wreg r w i &&& r.st) else s.reg r w i

section Stored
variable (w path : Nat) {r : Reg} (i : Nat) (s : State) (h : (shownRegs.find? fun x => x.1.id == r.id) = none)
include h

theorem readReg_value : (readReg w path r i s).1 = s.viewed w path r i &&& notBits 64 r.wo := by
  simp [readReg, h, State.viewed]

/-- A read clears the RC bits of the live copy (R48). -/
theorem readReg_reg : (readReg w path r i s).2.reg r w i = s.reg r w i &&& notBits 64 r.rc := by
  simp only [readReg, h]
  split
  · next hrc => rw [hrc, and_notBits_zero (s.reg_lt r w i)]
  · rw [State.reg_setReg_same, Nat.mod_eq_of_lt (Nat.and_lt_two_pow _ (notBits_lt _))]

theorem readReg_wings : (readReg w path r i s).2.wings = s.wings := by
  simp only [readReg, h]
  split <;> rfl

theorem readReg_out : (readReg w path r i s).2.out = s.out := by
  simp only [readReg, h]
  split <;> rfl

end Stored

theorem mem_of_regAt {rs : List Reg} {off : Nat} {x : Reg × Nat × Bool} (h : regAt rs off = some x) : x.1 ∈ rs := by
  obtain ⟨r, hr, hx⟩ := List.exists_of_findSome?_eq_some h
  obtain ⟨_, _, rfl⟩ := Option.map_eq_some_iff.mp hx
  exact hr

theorem windowRegs_id_lt : ∀ r ∈ windowRegs, r.id < 320 := by decide +kernel

end Sys2Proof.Machine
end

section
/-!
PROOF. Accesses to unimplemented offsets (R47).
-/
set_option Elab.async false
namespace Sys2Proof.Machine

/-! ## Unimplemented offsets -/

/-- What a statement asks of a state that reports an access to no register (R47): the leaf UNIMPL, and otherwise only what the error itself writes and sends. -/
def UnimplReported (w : Nat) (s t : State) : Prop :=
  t.leafSet w ⟨14, 0⟩ = true ∧ SameRegs (ID_ERR_STAT :: ID_ERR_ADDR :: attentionRegs) s t ∧ t.wings = s.wings ∧ SameLofts s t ∧
    ∃ new, t.out = new ++ s.out ∧ ∀ e ∈ new, ∀ n d, e ≠ .completion w n d

/-- A signal is no completion. -/
theorem SendsSignals.no_completion {s t : State} (h : SendsSignals s t) (w : Nat) : ∃ new, t.out = new ++ s.out ∧ ∀ e ∈ new, ∀ n d, e ≠ .completion w n d := by
  obtain ⟨new, hout, hsignal⟩ := h
  refine ⟨new, hout, fun e he n d hc => ?_⟩
  rw [hc] at he
  exact Bool.false_ne_true (hsignal _ he)

theorem accessError_reportsUnimpl (w path off : Nat) (write : Bool) (s : State) (m : List (Nat × Latch)) :
    UnimplReported w s (accessError w path 1 off write (s.withLatches m)) :=
  ⟨accessError_leafSet w path 1 off write _ (by decide), accessError_sameRegs w path 1 off write (s.withLatches m), accessError_wings ..,
    (accessError_keeps w path 1 off write (s.withLatches m)).sameLofts (by decide +kernel), (accessError_signals w path 1 off write (s.withLatches m)).no_completion w⟩

theorem UnimplReported.emit_reply {w path : Nat} {s t : State} (h : UnimplReported w s t) (data : List Nat) : UnimplReported w s (t.emit (.reply path w data)) := by
  obtain ⟨hleaf, hregs, hwings, hlofts, new, hout, hnew⟩ := h
  refine ⟨hleaf, hregs, hwings, hlofts, .reply path w data :: new, congrArg (List.cons _) hout, fun e he => ?_⟩
  rcases List.mem_cons.mp he with rfl | he
  · intro n d hc; cases hc
  · exact hnew e he

theorem byteEnables_toNat_ne {be : BitVec 4} {n : Nat} (hn : n < 16) (h : be ≠ BitVec.ofNat 4 n) : be.toNat ≠ n := fun e =>
  h (BitVec.eq_of_toNat_eq (by rw [e, BitVec.toNat_ofNat, Nat.mod_eq_of_lt hn]))

end Sys2Proof.Machine

open Sys2Proof Sys2Proof.Machine

/-- Settles O9: each of the four accesses comes to one access error of kind UNIMPL, and a read answers with its word besides. -/
theorem unimplementedOffsets : Obligations.UnimplementedOffsets := by
  intro w path word s hopen hs hr
  have heven : word.toNat % 2 = 0 → word.toNat * 4 % 8 = 0 := by omega
  refine ⟨fun be hbe => ?_, fun h2 hr2 => ?_, fun be v hbe => ?_, fun v u h2 hr2 => ?_⟩
  · obtain ⟨m, hm⟩ := read4_unimplemented w path (byteEnables_toNat_ne (by decide) hbe) hs hr
    refine ⟨_, exec_rcRead .., ?_⟩
    simp only [List.map_cons, List.map_nil, registerRead_one hopen, hm]
    exact ⟨rfl, (accessError_reportsUnimpl w path _ false s m).emit_reply _⟩
  · obtain ⟨m, hm⟩ := read8_unimplemented w path hs hr hr2
    refine ⟨_, exec_rcRead .., ?_⟩
    change (registerRead w path _ [15, 15] s).out.head? = _ ∧ UnimplReported w s (registerRead w path _ [15, 15] s)
    rw [registerRead_pair hopen (heven h2), hm]
    exact ⟨rfl, (accessError_reportsUnimpl w path _ false s m).emit_reply _⟩
  · obtain ⟨m, hm⟩ := write4_unimplemented w path (byteEnables_toNat_ne (by decide) hbe) v.toNat hs hr
    refine ⟨_, exec_registerWrite .., ?_⟩
    simp only [List.map_cons, List.map_nil, windowWrite_one hopen, hm]
    exact accessError_reportsUnimpl w path _ true s m
  · obtain ⟨m, hm⟩ := write8_unimplemented w path hs hr hr2 v.toNat u.toNat
    refine ⟨_, exec_registerWrite .., ?_⟩
    change UnimplReported w s (windowWrite w path _ [(15, v.toNat), (15, u.toNat)] s)
    rw [windowWrite_pair hopen (heven h2), hm]
    exact accessError_reportsUnimpl w path _ true s m

end

section
/-!
PROOF. Accesses of the window, and the commands of the journal (R41-R64).
-/
set_option Elab.async false
namespace Sys2Proof.Machine

/-! ## The journal's commands -/

theorem exec_journalSpill (w : WaferId) (s : State) : exec (.journalSpill w) s = .next (journalSpill w s) := rfl

theorem exec_journalFetch (w : WaferId) (n : Word) (s : State) : exec (.journalFetch w n) s = .next (journalFetch w n.toNat s) := rfl

theorem exec_journalFetchDone (w : WaferId) (s : State) : exec (.journalFetchDone w) s = .next (journalFetched w s) := rfl

theorem State.getJournals_putJournals_same (s : State) (w : Nat) (j : Journal) : (s.putJournals w j).getJournals w = j := by
  simp [State.getJournals, State.putJournals]

/-- A journal's entries with those of a sequence number marked as in flash. -/
def markInFlash (n : Nat) (es : List JEntry) : List JEntry := es.map fun x => if x.seq = n then { x with inFlash := true } else x

/-- The spill marks the oldest entry of the ring that is not in flash (R55). -/
theorem journalSpill_entries (w : Nat) (s : State) {e : JEntry} (he : ((s.getJournals w).entries.find? fun x => x.inRing && !x.inFlash) = some e) :
    ((journalSpill w s).getJournals w).entries = markInFlash e.seq (s.getJournals w).entries := by
  simp only [journalSpill, he]
  rw [(State.jrnlSync_keeps _ w).getJournals (by decide +kernel), State.getJournals_putJournals_same]
  rfl

theorem markInFlash_inFlash {n : Nat} {es : List JEntry} : ∀ x ∈ markInFlash n es, x.seq = n → x.inFlash = true := by
  intro x hx hn
  obtain ⟨y, _, rfl⟩ := List.mem_map.mp hx
  split
  · rfl
  · next h => rw [if_neg h] at hn; exact absurd hn h

theorem markInFlash_content (n : Nat) (es : List JEntry) :
    ((markInFlash n es).map fun x => (x.seq, x.time, x.detail, x.digest)) = es.map fun x => (x.seq, x.time, x.detail, x.digest) := by
  rw [markInFlash, List.map_map]
  refine List.map_congr_left fun x _ => ?_
  dsimp only [Function.comp]
  split <;> rfl

theorem journalFetch_getJournals (w n : Nat) (s : State) :
    (journalFetch w n s).getJournals w = { s.getJournals w with fetching := some n, held := (s.getJournals w).entries.find? fun e => e.seq == n } := by
  rw [journalFetch, State.getJournals_putJournals_same]

theorem journalFetch_sel (w n : Nat) (s : State) (hn : n < 2 ^ 64) : (journalFetch w n s).reg ID_JRNL_SEL w 0 = n := by
  rw [journalFetch, State.reg_putJournals, State.reg_wr_id _ _ _ _ _ _ _ _ (by decide), State.reg_setReg_same, Nat.mod_eq_of_lt hn]

theorem journalFetch_busy (w n : Nat) (s : State) : (journalFetch w n s).rd ID_JRNL_FETCH_BUSY w 0 = 1 := by
  rw [journalFetch, State.rd_putJournals, State.rd_wr_same _ _ _ _ _ (by decide) (by decide)]
  rfl

/-- The registers as a fetch that ends leaves its result: no longer busy, with the code of R57. -/
def fetchResult (w code : Nat) (s : State) : State := (s.wr ID_JRNL_FETCH_BUSY w 0 0).wr ID_JRNL_FETCH_RESULT w 0 code

theorem fetchResult_busy (w code : Nat) (s : State) : (fetchResult w code s).rd ID_JRNL_FETCH_BUSY w 0 = 0 := by
  rw [fetchResult, State.rd_wr_field _ ID_JRNL_FETCH_RESULT ID_JRNL_FETCH_BUSY _ _ _ rfl (by decide) (by decide) (by decide),
    State.rd_wr_same _ _ _ _ _ (by decide) (by decide)]
  rfl

theorem fetchResult_code (w : Nat) {code : Nat} (s : State) (h : code < 4) : (fetchResult w code s).rd ID_JRNL_FETCH_RESULT w 0 = code := by
  rw [fetchResult, State.rd_wr_same _ _ _ _ _ (by decide) (by decide)]
  exact Nat.mod_eq_of_lt h

/-- Words written one by one to the copies of a register. -/
def writeCopies (r : Reg) (w : Nat) (xs : List (Nat × Nat)) (s : State) : State := forEach xs s fun x t => t.setReg r w x.1 x.2

theorem writeCopies_reg_ne (r q : Reg) (w : Nat) (xs : List (Nat × Nat)) (s : State) (x i : Nat) (h : q.id ≠ r.id ∨ i ∉ xs.map (·.1)) :
    (writeCopies r w xs s).reg q x i = s.reg q x i := by
  induction xs generalizing s with
  | nil => rfl
  | cons y ys ih =>
    have hne : q.id ≠ r.id ∨ x ≠ w ∨ i ≠ y.1 := h.imp_right fun hi => Or.inr fun e => hi (e ▸ List.mem_cons_self ..)
    calc (writeCopies r w (y :: ys) s).reg q x i = (writeCopies r w ys (s.setReg r w y.1 y.2)).reg q x i := rfl
      _ = (s.setReg r w y.1 y.2).reg q x i := ih _ (h.imp_right fun hi he => hi (List.mem_cons_of_mem _ he))
      _ = s.reg q x i := State.reg_setReg_ne _ _ _ _ _ _ _ _ hne

theorem writeCopies_reg (r : Reg) (w : Nat) {xs : List (Nat × Nat)} (s : State) (hd : (xs.map (·.1)).Nodup) {i v : Nat} (h : (i, v) ∈ xs) :
    (writeCopies r w xs s).reg r w i = v % 2 ^ 64 := by
  induction xs generalizing s with
  | nil => cases h
  | cons y ys ih =>
    obtain ⟨hy, hys⟩ := List.nodup_cons.mp hd
    rcases List.mem_cons.mp h with rfl | h
    · exact (writeCopies_reg_ne r r w ys _ w i (Or.inr hy)).trans (State.reg_setReg_same _ _ _ _ _)
    · exact ih (s.setReg r w y.1 y.2) hys h

theorem JEntry.words_length (e : JEntry) : e.words.length = 16 := by simp [JEntry.words]

theorem JEntry.words_mem_zip (e : JEntry) {i : Nat} (hi : i < 16) : (i, e.words.getD i 0) ∈ (List.range 16).zip e.words := by
  have hlen := e.words_length
  refine List.mem_iff_getElem.mpr ⟨i, by simpa [hlen] using hi, ?_⟩
  simp [List.getD_eq_getElem?_getD, List.getElem?_eq_getElem (hlen.symm ▸ hi)]

/-- The state in which a fetch that ends writes its result: the unit holds no fetch and no entry any more. -/
def fetchEnded (w : Nat) (s : State) : State := s.putJournals w { s.getJournals w with fetching := none, held := none }

theorem journalFetched_held (w : Nat) (s : State) {n : Nat} {e : JEntry} (hf : (s.getJournals w).fetching = some n) (hh : (s.getJournals w).held = some e) :
    journalFetched w s = writeCopies ID_JRNL_ENTRY w ((List.range 16).zip e.words) (fetchResult w 0 (fetchEnded w s)) := by
  simp only [journalFetched, hf, hh]
  rfl

theorem journalFetched_absent (w : Nat) (s : State) {n : Nat} (hf : (s.getJournals w).fetching = some n) (hh : (s.getJournals w).held = none) :
    journalFetched w s = fetchResult w (if (s.getJournals w).next ≤ n then 2 else 1) (fetchEnded w s) := by
  simp only [journalFetched, hf, hh]
  rfl

/-! ## The clauses of the window and the journal -/

theorem Completes.imp {c : Instr} {s : State} {P Q : State → Prop} (h : Completes c s P) (hPQ : ∀ t, P t → Q t) : Completes c s Q := by
  obtain ⟨t, ht, hP⟩ := h
  exact ⟨t, ht, hPQ t hP⟩

section Clauses
variable {w : WaferId} {path : PathId} {word : BitVec 22} {s : State} (hopen : s.windowOpen w path = true)
include hopen

/-- A one-word write that comes to an access error. -/
theorem completes_write_error {be : BitVec 4} {v : Word32} {kind : Nat} (hv : s.rd ID_ERR_STAT_VALID w 0 = 0) (hk : kind < 16)
    (h : ∃ m, write4 w path (word.toNat * 4) be.toNat v.toNat s = accessError w path kind (word.toNat * 4) true (s.withLatches m)) :
    Completes (.registerWrite w path word [(be, v)]) s fun t =>
      ErrorCaptured w path kind (word.toNat * 4) 1 s t ∧ SameRegs (ID_ERR_STAT :: ID_ERR_ADDR :: attentionRegs) s t := by
  obtain ⟨m, hm⟩ := h
  refine ⟨_, exec_registerWrite .., ?_⟩
  simp only [List.map_cons, List.map_nil, windowWrite_one hopen, hm]
  exact ⟨accessError_captures w path kind _ true (s.withLatches m) hv hk (by omega), accessError_sameRegs w path kind _ true (s.withLatches m)⟩

/-- A one-word read of an offset that is not served: the access error, and the word of R41. -/
theorem completes_read_unserved (hv : s.rd ID_ERR_STAT_VALID w 0 = 0) (hs : s.unserved w (word.toNat * 4) = true) :
    Completes (.rcRead w path word [15]) s fun t => ErrorCaptured w path 2 (word.toNat * 4) 0 s t ∧ .reply path.val w [0xDEAD0FF0] ∈ t.out := by
  obtain ⟨m, hm⟩ := read4_unserved w path (be := 15) (by decide) hs
  refine ⟨_, exec_rcRead .., ?_⟩
  change ErrorCaptured w path 2 (word.toNat * 4) 0 s (registerRead w path _ [15] s) ∧ _ ∈ (registerRead w path _ [15] s).out
  rw [registerRead_one hopen, hm]
  exact ⟨accessError_captures w path 2 _ false (s.withLatches m) hv (by decide) (by omega), List.mem_cons_self ..⟩

section Register
variable {r : Reg} {i : Nat} (hs : s.unserved w (word.toNat * 4) = false) (hr : regAt windowRegs (word.toNat * 4) = some (r, i, false)) (hwide : r.wide = false)
  (hsel : r.sel = .none)
include hs hr hwide hsel

/-- A one-word write of a register that only stores (R48). -/
theorem completes_write_stores (v : Word32) (hl : r.st = 0 ∨ s.stLocked w r i = false) (ha : (actingRegs.find? fun x => x.1.id == r.id) = none)
    (hres : r.reservedBits v.toNat = 0) : Completes (.registerWrite w path word [(15, v)]) s fun t =>
      t.reg r w i = r.stored (s.reg r w i) v.toNat ∧ (r.st ≠ 0 → t.wreg r w i = (s.wreg r w i &&& notBits 64 r.st) ||| (v.toNat &&& r.st)) ∧
        (r.st = 0 → t.wings = s.wings) ∧ t.out = s.out := by
  obtain ⟨m, hm⟩ := write4_commits w path hs hr hwide hsel v.toNat
  have hstore : windowWrite w path (word.toNat * 4) [(15, v.toNat)] s = storeReg w r i v.toNat (s.withLatches m) := by
    rw [windowWrite_one hopen, hm]; exact commitReg_stores w path _ r i _ (s.withLatches m) hl ha hres
  have hv : v.toNat < 2 ^ 64 := by omega
  refine ⟨_, (exec_registerWrite ..).trans (congrArg _ hstore), storeReg_reg w r i (s.withLatches m) hv, storeReg_staged_wreg w r i (s.withLatches m) hv,
    storeReg_unstaged_wings w r i _ (s.withLatches m), storeReg_out w r i _ (s.withLatches m)⟩

/-- A one-word read of a register that shows what it stores (R48, R60). -/
theorem completes_read_stored (hshow : (shownRegs.find? fun x => x.1.id == r.id) = none) : Completes (.rcRead w path word [15]) s fun t =>
    t.out = .reply path.val w [(s.viewed w path r i &&& notBits 64 r.wo) % 2 ^ 32] :: s.out ∧ t.reg r w i = s.reg r w i &&& notBits 64 r.rc ∧ t.wings = s.wings := by
  obtain ⟨m, hm⟩ := read4_reads w path hs hr hwide hsel
  have hread : registerRead w path (word.toNat * 4) [15] s =
      (readReg w path r i (s.withLatches m)).2.emit (.reply path w [(s.viewed w path r i &&& notBits 64 r.wo) % 2 ^ 32]) := by
    rw [registerRead_one hopen, hm, readReg_value w path i _ hshow]
    rfl
  exact ⟨_, (exec_rcRead ..).trans (congrArg _ hread), congrArg (List.cons _) (readReg_out w path i (s.withLatches m) hshow), readReg_reg w path i (s.withLatches m) hshow,
    readReg_wings w path i (s.withLatches m) hshow⟩

end Register

end Clauses

/-- The clauses' own spelling of the view of R48. -/
theorem State.viewed_eq (s : State) (w path : Nat) (r : Reg) (i : Nat) :
    s.viewed w path r i = if r.st ≠ 0 ∧ s.rd ID_WINCTL_WINGS_VIEW w path = 1 ∧ s.slotHolds w 4 4 r i = false then
      (s.reg r w i &&& notBits 64 r.st) ||| (s.wreg r w i &&& r.st) else s.reg r w i := by
  simp [State.viewed, State.viewsWings, and_assoc]

section JournalClauses
variable (w : WaferId) (s : State)

theorem completes_spill {e : JEntry} (he : ((s.getJournals w).entries.find? fun x => x.inRing && !x.inFlash) = some e) : Completes (.journalSpill w) s fun t =>
    (∀ x ∈ (t.getJournals w).entries, x.seq = e.seq → x.inFlash = true) ∧
      ((t.getJournals w).entries.map fun x => (x.seq, x.time, x.detail, x.digest)) = (s.getJournals w).entries.map fun x => (x.seq, x.time, x.detail, x.digest) := by
  refine ⟨_, exec_journalSpill w s, ?_⟩
  simp only [journalSpill_entries w s he]
  exact ⟨markInFlash_inFlash, markInFlash_content _ _⟩

theorem completes_fetch (n : Word) : Completes (.journalFetch w n) s fun t => t.reg ID_JRNL_SEL w 0 = n.toNat ∧ t.rd ID_JRNL_FETCH_BUSY w 0 = 1 ∧
    (t.getJournals w).fetching = some n.toNat ∧ (t.getJournals w).held = ((s.getJournals w).entries.find? fun e => e.seq == n.toNat) ∧
      (t.getJournals w).entries = (s.getJournals w).entries := by
  refine ⟨_, exec_journalFetch w n s, journalFetch_sel w _ s n.isLt, journalFetch_busy w _ s, ?_⟩
  rw [journalFetch_getJournals]
  exact ⟨rfl, rfl, rfl⟩

variable {n : Nat} (hf : (s.getJournals w).fetching = some n)
include hf

theorem completes_fetch_held {e : JEntry} (hh : (s.getJournals w).held = some e) : Completes (.journalFetchDone w) s fun t =>
    t.rd ID_JRNL_FETCH_BUSY w 0 = 0 ∧ t.rd ID_JRNL_FETCH_RESULT w 0 = 0 ∧ ∀ i < 16, t.reg ID_JRNL_ENTRY w i = e.words.getD i 0 % 2 ^ 64 := by
  have hlen := e.words_length
  have hkeys : ((List.range 16).zip e.words).map (·.1) = List.range 16 := List.map_fst_zip (by simp [hlen])
  have hfetch : ∀ f : Fld, f.reg = ID_JRNL_FETCH → (journalFetched w s).rd f w 0 = (fetchResult w 0 (fetchEnded w s)).rd f w 0 := fun f hreg => by
    rw [journalFetched_held w s hf hh, State.rd, writeCopies_reg_ne _ _ _ _ _ _ _ (Or.inl (by rw [hreg]; decide)), State.rd]
  refine ⟨_, exec_journalFetchDone w s, (hfetch _ rfl).trans (fetchResult_busy ..), (hfetch _ rfl).trans (fetchResult_code _ _ (by decide)), fun i hi => ?_⟩
  rw [journalFetched_held w s hf hh]
  exact writeCopies_reg _ _ _ (hkeys ▸ List.nodup_range) (e.words_mem_zip hi)

theorem completes_fetch_absent (hh : (s.getJournals w).held = none) : Completes (.journalFetchDone w) s fun t =>
    t.rd ID_JRNL_FETCH_BUSY w 0 = 0 ∧ t.rd ID_JRNL_FETCH_RESULT w 0 = if (s.getJournals w).next ≤ n then 2 else 1 := by
  refine ⟨_, exec_journalFetchDone w s, ?_⟩
  rw [journalFetched_absent w s hf hh]
  exact ⟨fetchResult_busy .., fetchResult_code _ _ (by split <;> decide)⟩

end JournalClauses

end Sys2Proof.Machine

open Sys2Proof Sys2Proof.Machine

/-- Settles O8, clause by clause: a served access stores or reads, any other comes to one access error (the capture overwrites the count, so that it need not have been 0),
and the journal's commands write what they name. -/
theorem windowAndJournal : Obligations.WindowAndJournal := by
  refine ⟨fun w path word s hopen => ⟨?_, ?_, ?_⟩, fun w s => ⟨fun e he => completes_spill w s he, completes_fetch w s,
    fun n hf => ⟨fun e hh => completes_fetch_held w s hf hh, completes_fetch_absent w s hf⟩⟩⟩
  · intro v r i hs hr hwide hsel hl ha hres
    exact completes_write_stores hopen hs hr hwide hsel v hl (Option.isNone_iff_eq_none.mp ha) hres
  · intro r i hs hr hwide hsel hshow
    have h := completes_read_stored hopen hs hr hwide hsel (Option.isNone_iff_eq_none.mp hshow)
    rw [State.viewed_eq] at h
    exact h
  · intro hv _
    refine ⟨fun v hs => ?_, fun hs => ?_, fun v hs hr => ?_, fun be v x hbe h15 hs hr => ?_, fun v r i hs hr hwide hsel hst hlock => ?_⟩
    · exact (completes_write_error (be := 15) hopen hv (by decide) (write4_unserved w path (by decide) v.toNat hs)).imp fun t h => h.1
    · exact completes_read_unserved hopen hv hs
    · exact (completes_write_error (be := 15) hopen hv (by decide) (write4_unimplemented w path (by decide) v.toNat hs hr)).imp fun t h => h.1
    · have hpart := write4_partial w path (byteEnables_toNat_ne (by decide) hbe) v.toNat (byteEnables_toNat_ne (by decide) h15) hs hr
      exact (completes_write_error hopen hv (by decide) hpart).imp fun t h => ⟨h.1, h.2 x.1 w x.2.1 (windowRegs_id_lt _ (mem_of_regAt hr))⟩
    · obtain ⟨m, hm⟩ := write4_commits w path hs hr hwide hsel v.toNat
      have hlocked := hm.trans (commitReg_locked w path _ r i v.toNat (s.withLatches m) hst hlock)
      exact (completes_write_error (be := 15) hopen hv (by decide) ⟨m, hlocked⟩).imp fun t h => h.1

end

section
/-!
PROOF. The apply instant of a cue, a machine cue without its go frame, and the copying of the wings (R49, R283-R287).
-/
set_option Elab.async false
namespace Sys2Proof.Machine

/-! ## Staged objects -/

/-- The registers of which a cue's scope holds copies (R274). -/
def stagedRegs : List Reg := partRegs ++ fieldRegs ++ waferRegs ++ [PRT_QMASK, NET_SEAT_DATA, PROG_PTR, NET_ACT_STAMP, NET_ACT_GEN]

/-- A staged register is known by its number. -/
theorem stagedRegs_eq_of_id : ∀ a ∈ stagedRegs, ∀ b ∈ stagedRegs, a.id = b.id → a = b := by decide

theorem stagedRegs_id_lt : ∀ r ∈ stagedRegs, r.id < 320 := by decide

theorem mem_stagedRegs_of_part {r : Reg} (h : r ∈ partRegs) : r ∈ stagedRegs := by simp [stagedRegs, h]

theorem mem_stagedRegs_of_field {r : Reg} (h : r ∈ fieldRegs) : r ∈ stagedRegs := by simp [stagedRegs, h]

theorem mem_stagedRegs_of_wafer {r : Reg} (h : r ∈ waferRegs) : r ∈ stagedRegs := by simp [stagedRegs, h]

theorem qmask_staged : PRT_QMASK ∈ stagedRegs := by decide

theorem progPtr_staged : PROG_PTR ∈ stagedRegs := by decide

theorem State.chartObjs_staged (s : State) (w p : Nat) : ∀ o ∈ s.chartObjs w p, o.1 ∈ stagedRegs := by
  have hseat : NET_SEAT_DATA ∈ stagedRegs := by decide
  intro o ho
  rcases List.mem_cons.mp ho with rfl | ho
  · exact hseat
  · obtain ⟨i, _, rfl⟩ := List.mem_map.mp ho
    exact hseat

theorem State.partObjs_staged (s : State) (w p : Nat) : ∀ o ∈ s.partObjs w p, o.1 ∈ stagedRegs := by
  intro o ho
  simp only [State.partObjs, List.mem_append, List.mem_map, List.mem_flatMap] at ho
  rcases ho with (((⟨r, hr, rfl⟩ | ⟨i, _, rfl⟩) | ⟨f, _, ho⟩) | ho) | ⟨f, _, ho⟩
  · exact mem_stagedRegs_of_part hr
  · exact qmask_staged
  · split at ho
    · obtain ⟨r, hr, rfl⟩ := List.mem_map.mp ho
      exact mem_stagedRegs_of_field hr
    · cases ho
  · exact s.chartObjs_staged w p o ho
  · split at ho
    · rw [List.mem_singleton.mp ho]; exact progPtr_staged
    · cases ho

theorem State.waferObjs_staged (s : State) (w : Nat) (stamp : Bool) : ∀ o ∈ s.waferObjs w stamp, o.1 ∈ stagedRegs := by
  intro o ho
  simp only [State.waferObjs, List.mem_append, List.mem_map, List.mem_flatMap, List.mem_cons] at ho
  rcases ho with ((⟨r, hr, rfl⟩ | ho) | ⟨f, _, rfl | ⟨r, hr, rfl⟩⟩) | ⟨p, _, (⟨r, hr, rfl⟩ | ⟨i, _, rfl⟩) | ho⟩
  · exact mem_stagedRegs_of_wafer hr
  · have hpair : ∀ x ∈ [((NET_ACT_STAMP, 0) : StObj), (NET_ACT_GEN, 0)], x.1 ∈ stagedRegs := by decide
    split at ho
    · exact hpair o ho
    · cases ho
  · exact progPtr_staged
  · exact mem_stagedRegs_of_field hr
  · exact mem_stagedRegs_of_part hr
  · exact qmask_staged
  · exact s.chartObjs_staged w p o ho

theorem State.scopeObjs_staged (s : State) (w scope p : Nat) : ∀ o ∈ s.scopeObjs w scope p, o.1 ∈ stagedRegs := by
  unfold State.scopeObjs
  split
  · exact s.partObjs_staged w p
  · exact s.waferObjs_staged w true

theorem State.cueChanges_staged (s : State) (w scope p : Nat) : ∀ o ∈ s.cueChanges w scope p, o.1 ∈ stagedRegs :=
  fun o ho => s.scopeObjs_staged w scope p o (List.mem_filter.mp ho).1

/-- An operation whose mask leaves out the staged registers leaves their live copies. -/
theorem Keeps.staged {m : Nat} {s t : State} (h : Keeps m s t) (hm : ∀ r ∈ stagedRegs, m.testBit (64 + r.id) = false) {r : Reg} (hr : r ∈ stagedRegs) (w i : Nat) :
    t.reg r w i = s.reg r w i := h.regs r w i (stagedRegs_id_lt r hr) (hm r hr)

/-! ## The exchange of roles (R49) -/

/-- The key of an object's copies. -/
def objKey (w : Nat) (o : StObj) : Nat := o.1.key w o.2

/-- The copies of an object in `t` are those in `s` with the ST bits exchanged. -/
def Exchanged (w : Nat) (o : StObj) (s t : State) : Prop :=
  t.reg o.1 w o.2 = (s.reg o.1 w o.2 &&& notBits 64 o.1.st) ||| (s.wreg o.1 w o.2 &&& o.1.st) ∧
    t.wreg o.1 w o.2 = (s.wreg o.1 w o.2 &&& notBits 64 o.1.st) ||| (s.reg o.1 w o.2 &&& o.1.st)

theorem swapObj_exchanges (w : Nat) (o : StObj) (s : State) : Exchanged w o s (swapObj w o s) := by
  constructor
  · rw [swapObj, State.reg_setWreg, State.reg_setReg_same, Nat.mod_eq_of_lt (mergeBits_lt (s.wreg_lt ..))]
  · rw [swapObj, State.wreg_setWreg_same, Nat.mod_eq_of_lt (mergeBits_lt (s.reg_lt ..))]

theorem swapObj_other (w : Nat) (o : StObj) (s : State) {q : Reg} {x j : Nat} (h : q.key x j ≠ objKey w o) :
    (swapObj w o s).reg q x j = s.reg q x j ∧ (swapObj w o s).wreg q x j = s.wreg q x j :=
  ⟨State.reg_setReg_key s o.1 q w o.2 _ x j h, State.wreg_setWreg_ne _ o.1 q w o.2 _ x j h⟩

/-- Exchanging objects leaves the copies of every other key. -/
theorem swapObjs_other (w : Nat) (ch : List StObj) (s : State) {q : Reg} {x j : Nat} (h : q.key x j ∉ ch.map (objKey w)) :
    (forEach ch s (swapObj w)).reg q x j = s.reg q x j ∧ (forEach ch s (swapObj w)).wreg q x j = s.wreg q x j := by
  induction ch generalizing s with
  | nil => exact ⟨rfl, rfl⟩
  | cons o os ih =>
    obtain ⟨ho, hos⟩ := not_or.mp (mt List.mem_cons.mpr h)
    obtain ⟨hreg, hwreg⟩ := swapObj_other w o s ho
    obtain ⟨ihreg, ihwreg⟩ := ih (swapObj w o s) hos
    exact ⟨ihreg.trans hreg, ihwreg.trans hwreg⟩

/-- Exchanging objects of distinct keys exchanges each of them. -/
theorem swapObjs_exchange (w : Nat) {ch : List StObj} (s : State) (hd : (ch.map (objKey w)).Nodup) {o : StObj} (ho : o ∈ ch) : Exchanged w o s (forEach ch s (swapObj w)) := by
  induction ch generalizing s with
  | nil => cases ho
  | cons a os ih =>
    obtain ⟨ha, hos⟩ := List.nodup_cons.mp hd
    rcases List.mem_cons.mp ho with rfl | ho
    · obtain ⟨hreg, hwreg⟩ := swapObjs_other w os (swapObj w o s) ha
      obtain ⟨hlive, hwing⟩ := swapObj_exchanges w o s
      exact ⟨hreg.trans hlive, hwreg.trans hwing⟩
    · have hne : objKey w o ≠ objKey w a := fun e => ha (e ▸ List.mem_map_of_mem ho)
      obtain ⟨hreg, hwreg⟩ := swapObj_other w a s hne
      have hx := ih (swapObj w a s) hos ho
      unfold Exchanged at hx ⊢
      rw [hreg, hwreg] at hx
      exact hx

/-- Exchanging objects leaves a register of which there is none among them. -/
theorem swapObjs_reg_id (w : Nat) (ch : List StObj) (s : State) {q : Reg} (x j : Nat) (h : ∀ o ∈ ch, o.1.id ≠ q.id) : (forEach ch s (swapObj w)).reg q x j = s.reg q x j := by
  refine (swapObjs_other w ch s fun hm => ?_).1
  obtain ⟨o, ho, he⟩ := List.mem_map.mp hm
  simp only [objKey, Reg.key, key3_inj] at he
  exact h o ho he.1

/-! ## A cue that changes registers alone -/

/-- The registers whose change brings more than the exchange of copies: definitions, quadrants, charts, programs, the act stamp pair, the operating point and ghost light. -/
def specialIds : List Nat := [PRT_DEF.id, PRT_QMASK.id, NET_SEAT_DATA.id, PROG_PTR.id, NET_ACT_STAMP.id, NET_ACT_GEN.id, PWR_OPPOINT.id, THM_GHOST.id]

section Plain
variable {ch : List StObj} (h : ∀ o ∈ ch, o.1.id ∉ specialIds)
include h

theorem isReg_of_plain {r : Reg} (hr : r.id ∈ specialIds) {o : StObj} (ho : o ∈ ch) : isReg r o = false := by
  refine beq_eq_false_iff_ne.mpr fun e => h o ho ?_
  rw [e]; exact hr

theorem any_isReg_of_plain {r : Reg} (hr : r.id ∈ specialIds) : ch.any (isReg r) = false :=
  List.any_eq_false.mpr fun o ho => by simp [isReg_of_plain h hr ho]

theorem filterMap_isReg_of_plain {r : Reg} (hr : r.id ∈ specialIds) (g : StObj → Nat) : (ch.filterMap fun o => if isReg r o then some (g o) else none) = [] :=
  List.filterMap_eq_nil_iff.mpr fun o ho => by simp [isReg_of_plain h hr ho]

theorem chartsIn_of_plain : chartsIn ch = [] := by rw [chartsIn, filterMap_isReg_of_plain h (by decide)]; rfl

theorem quadSetsIn_of_plain : quadSetsIn ch = [] := by rw [quadSetsIn, filterMap_isReg_of_plain h (by decide)]; rfl

theorem progsIn_of_plain : progsIn ch = [] := filterMap_isReg_of_plain h (by decide) _

theorem reseated_of_plain : reseated ch = [] := by rw [reseated, chartsIn_of_plain h, quadSetsIn_of_plain h]; rfl

theorem stampsIn_of_plain : stampsIn ch = false :=
  List.any_eq_false.mpr fun o ho => by simp [isReg_of_plain h (r := NET_ACT_STAMP) (by decide) ho, isReg_of_plain h (r := NET_ACT_GEN) (by decide) ho]

theorem defs_of_plain (p : StObj → Bool) : (ch.any fun o => isReg PRT_DEF o && p o) = false :=
  List.any_eq_false.mpr fun o ho => by simp [isReg_of_plain h (r := PRT_DEF) (by decide) ho]

end Plain

/-- The slot of a cue that has applied: in COPYING, with the instant, and with nothing left to wait for. -/
def slotApplied (w c time : Nat) (s : State) : State :=
  ((s.wr CUE_SSTAT_STATE w c 4).setReg CUE_STIME w c time).modSlots (w * 8 + c) fun y => { y with waitParts := [], go := false, lockedAct := none }

/-- What the cue unit and the wafer keep of a machine cue that has applied (R277, R34). -/
def machineApplied (w scope mid : Nat) (s : State) : State :=
  if scope = 2 then (s.modCueUnits w fun u => { u with lastMid := some mid }).modWafers w fun x => { x with outOfStep := false } else s

/-- The end of the apply instant, after the exchange of roles. -/
def closeApply (w c scope mid time : Nat) (s : State) : State := schedSync w (machineApplied w scope mid (slotApplied w c time s))

theorem machineApplied_keeps (w scope mid : Nat) (s : State) : Keeps 0x4010000000 s (machineApplied w scope mid s) := by
  unfold machineApplied
  exact .ite (.next (State.modWafers_keeps ..) (by decide +kernel) (.widen (State.modCueUnits_keeps ..) (by decide +kernel))) (.refl _ _)

theorem slotApplied_rd (w c time : Nat) (s : State) (f : Fld) (x i : Nat) (h : f.reg.id ≠ CUE_SSTAT.id ∧ f.reg.id ≠ CUE_STIME.id) :
    (slotApplied w c time s).rd f x i = s.rd f x i :=
  (State.rd_setReg_id _ _ _ _ _ _ _ _ h.2).trans (State.rd_wr_id _ _ _ _ _ _ _ _ h.1)

theorem forEach_nil {α : Type} (s : State) (g : α → State → State) : forEach [] s g = s := rfl

/-- The objects that a slot's cue changes (R275). -/
def State.slotChanges (s : State) (w c : Nat) : List StObj := s.cueChanges w (s.rd CUE_SSTAT_SCOPE w c) (s.rd CUE_SSTAT_PART w c)

/-- The state in which a cue's copies have exchanged roles: throttling is charged first (R490). -/
def State.exchanged (s : State) (w c : Nat) : State := forEach (s.slotChanges w c) (accrue w s) (swapObj w)

/-- A cue that changes no special register leaves ghost light as it is. -/
theorem exchanged_ghost (w c time : Nat) (s : State) (h : ∀ o ∈ s.slotChanges w c, o.1.id ∉ specialIds) :
    (slotApplied w c time (s.exchanged w c)).rd THM_GHOST_ENABLE w 0 = (accrue w s).rd THM_GHOST_ENABLE w 0 := by
  have hother : ∀ o ∈ s.slotChanges w c, o.1.id ≠ THM_GHOST.id := fun o ho e => h o ho (by rw [e]; decide)
  rw [slotApplied_rd _ _ _ _ _ _ _ (by decide), State.rd, State.exchanged, swapObjs_reg_id (q := THM_GHOST_ENABLE.reg) w _ _ w 0 hother, State.rd]

/-- The apply instant of a cue that changes no special register: throttling is charged, the copies exchange roles, and the slot closes. -/
theorem applyCue_of_plain (w c : Nat) (s : State) (h : ∀ o ∈ s.slotChanges w c, o.1.id ∉ specialIds) :
    applyCue w c s = closeApply w c (s.rd CUE_SSTAT_SCOPE w c) (s.getSlots (w * 8 + c)).mid (s.tbNow w) (s.exchanged w c) := by
  have hghost : ¬ ((accrue w s).rd THM_GHOST_ENABLE w 0 = 1 ∧ (slotApplied w c (s.tbNow w) (s.exchanged w c)).rd THM_GHOST_ENABLE w 0 = 0) := by
    rw [exchanged_ghost w c _ s h]; omega
  unfold slotApplied State.exchanged at hghost
  unfold State.slotChanges at h hghost
  have hdefs : ((s.cueChanges w (s.rd CUE_SSTAT_SCOPE w c) (s.rd CUE_SSTAT_PART w c)).all fun o => !isReg PRT_DEF o) = true :=
    List.all_eq_true.mpr fun o ho => by rw [isReg_of_plain h (by decide) ho]; rfl
  simp only [applyCue, Reh.touches, reseated_of_plain h, progsIn_of_plain h, quadSetsIn_of_plain h, stampsIn_of_plain h, defs_of_plain h, hdefs,
    any_isReg_of_plain h (r := PWR_OPPOINT) (by decide), List.filter_nil, List.contains_nil, List.any_nil, Bool.or_false, Bool.and_false, List.filter_false, List.isEmpty_nil,
    if_true, and_self, List.zipIdx_nil, List.map_nil, Bool.false_eq_true, if_false, forEach_nil, if_neg hghost]
  rfl

/-! ## What the apply instant leaves -/

theorem closeApply_keeps (w c scope mid time : Nat) (s : State) :
    Keeps (2 ^ (64 + TB_STAT.id) ||| regBit CUE_SSTAT ||| regBit CUE_STIME ||| 0x4018000000) s (closeApply w c scope mid time s) := by
  have hslot : Keeps (regBit CUE_SSTAT ||| regBit CUE_STIME ||| 0x8000000) s (slotApplied w c time s) :=
    .next (State.modSlots_keeps ..) (by decide +kernel) (.next (State.setReg_keeps ..) (by decide +kernel) (.widen (State.wr_keeps ..) (by decide +kernel)))
  exact .next (schedSync_keeps ..) (by decide +kernel) (.next (machineApplied_keeps ..) (by decide +kernel) (hslot.widen (by decide +kernel)))

theorem closeApply_state (w c scope mid time : Nat) (s : State) : (closeApply w c scope mid time s).rd CUE_SSTAT_STATE w c = 4 := by
  rw [closeApply, (schedSync_keeps ..).rd _ _ _ (by decide) (by decide +kernel), (machineApplied_keeps ..).rd _ _ _ (by decide) (by decide +kernel)]
  exact (State.rd_setReg_id _ _ _ _ _ _ _ _ (by decide)).trans (State.rd_wr_same _ _ _ _ _ (by decide) (by decide))

theorem closeApply_time (w c scope mid : Nat) {time : Nat} (s : State) (ht : time < 2 ^ 64) : (closeApply w c scope mid time s).reg CUE_STIME w c = time := by
  rw [closeApply, (schedSync_keeps ..).regs _ _ _ (by decide) (by decide +kernel), (machineApplied_keeps ..).regs _ _ _ (by decide) (by decide +kernel)]
  exact (State.reg_setReg_same _ _ _ _ _).trans (Nat.mod_eq_of_lt ht)

theorem ofInt_lt (n : Nat) (x : Int) : ofInt n x < 2 ^ n := by
  have hpos : (0 : Int) < ((2 ^ n : Nat) : Int) := by exact_mod_cast Nat.two_pow_pos n
  have hlt := Int.emod_lt_of_pos x hpos
  have hnn := Int.emod_nonneg x hpos.ne'
  unfold ofInt
  omega

theorem State.tbNow_lt (s : State) (w : Nat) : s.tbNow w < 2 ^ 64 := ofInt_lt 64 _

/-- A cue has applied: its slot is in COPYING with the instant, and every object that it changes has exchanged its copies (R49, R283, R286). -/
def CueApplied (w c : Nat) (s t : State) : Prop :=
  t.rd CUE_SSTAT_STATE w c = 4 ∧ t.reg CUE_STIME w c = s.tbNow w ∧ ∀ o ∈ s.slotChanges w c, Exchanged w o s t

theorem applyCue_applies (w c : Nat) (s : State) (h : ∀ o ∈ s.slotChanges w c, o.1.id ∉ specialIds) (hd : ((s.slotChanges w c).map (objKey w)).Nodup) :
    CueApplied w c s (applyCue w c s) := by
  rw [applyCue_of_plain w c s h]
  refine ⟨closeApply_state .., closeApply_time _ _ _ _ _ (s.tbNow_lt w), fun o ho => ?_⟩
  have hstaged := s.cueChanges_staged w _ _ o ho
  have hclose := closeApply_keeps w c (s.rd CUE_SSTAT_SCOPE w c) (s.getSlots (w * 8 + c)).mid (s.tbNow w) (s.exchanged w c)
  have hx : Exchanged w o (accrue w s) (s.exchanged w c) := swapObjs_exchange w _ hd ho
  unfold Exchanged at hx ⊢
  rwa [hclose.staged (by decide +kernel) hstaged, hclose.wreg (by decide +kernel), ← (accrue_keeps w s).staged (by decide +kernel) hstaged, ← (accrue_keeps w s).wreg (by decide +kernel)]

/-! ## A machine cue without its go frame -/

theorem State.leafSet_of_keeps {m : Nat} {s t : State} (h : Keeps m s t) (hm : m.testBit (64 + ATN_CAUSE.id) = false) (w : Nat) (l : Leaf) : t.leafSet w l = s.leafSet w l := by
  unfold State.leafSet
  rw [h.regs _ _ _ (by decide) hm]

theorem State.raiseS_sets (s : State) (w c : Nat) (l : Leaf) (hb : l.b < 64) : (s.raiseS w c l).leafSet w l = true := State.raise_sets _ w l hb

/-- What disarming an armed slot writes into its registers (R287). -/
def slotDisarmed (w c why rule : Nat) (s : State) : State := ((s.wr CUE_SSTAT_STATE w c 7).wr CUE_SSTAT_DISARM_WHY w c why).wr CUE_SFAIL_RULE w c rule

/-- What else a slot that is disarmed gives up: the act that it locked, its rotation, and what it waits for. -/
def slotReleased (w c : Nat) (s : State) : State := (dropRotation w c (unlockAct w c s)).modSlots (w * 8 + c) fun x => { x with waitParts := [], go := false }

/-- The end of a disarm: the journal entry, the leaf and the status of scheduled cues. -/
def disarmReported (w c : Nat) (s : State) : State := schedSync w ((journalCue w c 2 (s.tbNow w) 0 s).raiseS w c Leaf.cueDisarm)

theorem disarm_armed (w c why rule : Nat) (s : State) (h : s.rd CUE_SSTAT_STATE w c = 3) :
    disarm w c why rule s = disarmReported w c (slotReleased w c (slotDisarmed w c why rule s)) := by
  simp only [disarm, h]
  rfl

theorem slotReleased_keeps (w c : Nat) (s : State) : Keeps 0x100000006000000000000000000000000000000000800000000000000000000208000400 s (slotReleased w c s) :=
  .next (State.modSlots_keeps ..) (by decide +kernel) (.next (dropRotation_keeps ..) (by decide +kernel) (.widen (unlockAct_keeps ..) (by decide +kernel)))

theorem disarmReported_keeps (w c : Nat) (s : State) :
    Keeps 0x294c004600000000000000000000000000000000000400000000000000000070000000000000000018 s (disarmReported w c s) :=
  .next (schedSync_keeps ..) (by decide +kernel) (.next (State.raiseS_keeps ..) (by decide +kernel) (.widen (journalCue_keeps ..) (by decide +kernel)))

theorem disarmReported_leaf (w c : Nat) (s : State) : (disarmReported w c s).leafSet w Leaf.cueDisarm = true := by
  rw [disarmReported, State.leafSet_of_keeps (schedSync_keeps ..) (by decide +kernel)]
  exact State.raiseS_sets _ _ _ _ (by decide)

theorem slotDisarmed_state (w c why rule : Nat) (s : State) : (slotDisarmed w c why rule s).rd CUE_SSTAT_STATE w c = 7 := by
  rw [slotDisarmed, State.rd_wr_id _ _ _ _ _ _ _ _ (by decide), State.rd_wr_field _ CUE_SSTAT_DISARM_WHY CUE_SSTAT_STATE _ _ _ rfl (by decide) (by decide) (by decide)]
  exact State.rd_wr_same _ _ _ _ _ (by decide) (by decide)

theorem slotDisarmed_rule (w c why : Nat) {rule : Nat} (s : State) (h : rule < 2 ^ CUE_SFAIL_RULE.width) : (slotDisarmed w c why rule s).rd CUE_SFAIL_RULE w c = rule := by
  rw [slotDisarmed, State.rd_wr_same _ _ _ _ _ (by decide) (by decide)]
  exact Nat.mod_eq_of_lt h

/-- A field that neither the release of a slot nor the report of its end writes. -/
theorem disarm_rd (w c : Nat) (s : State) (f : Fld) (hf : f.reg = CUE_SSTAT ∨ f.reg = CUE_SFAIL) : (disarmReported w c (slotReleased w c s)).rd f w c = s.rd f w c := by
  have hid : f.reg.id < 320 := by rcases hf with h | h <;> rw [h] <;> decide
  rw [(disarmReported_keeps ..).rd f w c hid (by rcases hf with h | h <;> rw [h] <;> decide +kernel),
    (slotReleased_keeps ..).rd f w c hid (by rcases hf with h | h <;> rw [h] <;> decide +kernel)]

/-- An armed slot that is disarmed ends with its rule, raises CUE_DISARM and keeps the wings and the wafer's record (R287). -/
theorem disarm_of_armed (w c why : Nat) {rule : Nat} (s : State) (h : s.rd CUE_SSTAT_STATE w c = 3) (hr : rule < 2 ^ CUE_SFAIL_RULE.width) :
    (disarm w c why rule s).rd CUE_SSTAT_STATE w c = 7 ∧ (disarm w c why rule s).rd CUE_SFAIL_RULE w c = rule ∧ (disarm w c why rule s).leafSet w Leaf.cueDisarm = true ∧
      (disarm w c why rule s).wings = s.wings ∧ (disarm w c why rule s).getWafers w = s.getWafers w := by
  have hkeeps := disarm_keeps w c why rule s
  refine ⟨?_, ?_, ?_, hkeeps.wings (by decide +kernel), hkeeps.getWafers (by decide +kernel) w⟩ <;> rw [disarm_armed w c why rule s h]
  · exact (disarm_rd w c _ _ (Or.inl rfl)).trans (slotDisarmed_state w c why rule s)
  · exact (disarm_rd w c _ _ (Or.inr rfl)).trans (slotDisarmed_rule w c why s hr)
  · exact disarmReported_leaf w c _

theorem State.getWafers_modWafers_same (s : State) (w : Nat) (g : Wafer → Wafer) : (s.modWafers w g).getWafers w = g (s.getWafers w) := by
  simp [State.getWafers, State.modWafers, State.putWafers]

/-- The record of a wafer that missed a go frame: out of step where the frame was sent (R34). -/
def missedGo (w mid : Nat) (s : State) : State := if s.rack.planner.goSent.contains mid then s.modWafers w fun x => { x with outOfStep := true } else s

theorem missedGo_keeps (w mid : Nat) (s : State) : Keeps 0x4000000000 s (missedGo w mid s) := .ite (State.modWafers_keeps ..) (.refl _ _)

theorem missedGo_outOfStep (w mid : Nat) (s : State) :
    ((missedGo w mid s).getWafers w).outOfStep = (s.rack.planner.goSent.contains mid || (s.getWafers w).outOfStep) := by
  unfold missedGo
  split
  · next h => rw [State.getWafers_modWafers_same, h]; rfl
  · next h => rw [Bool.eq_false_iff.mpr h]; rfl

/-! ## Copying the wings (R49, R286) -/

/-- Copying live values into the wings makes every copied object's wings its live value. -/
theorem liveToWings_wreg (w : Nat) (os : List StObj) (s : State) {o : StObj} (hreg : ∀ a ∈ os, a.1.id = o.1.id → a.1 = o.1)
    (h : o ∈ os ∨ s.wreg o.1 w o.2 = s.reg o.1 w o.2) : (s.liveToWings w os).wreg o.1 w o.2 = s.reg o.1 w o.2 := by
  induction os generalizing s with
  | nil => exact h.resolve_left (List.not_mem_nil)
  | cons a os ih =>
    obtain ⟨ha, hos⟩ := List.forall_mem_cons.mp hreg
    refine ih (s.setWreg a.1 w a.2 (s.reg a.1 w a.2)) hos ?_
    by_cases hk : o.1.key w o.2 = a.1.key w a.2
    · right
      simp only [Reg.key, key3_inj, true_and] at hk
      obtain ⟨hid, hcopy⟩ := hk
      rw [ha hid.symm, ← hcopy, State.wreg_setWreg_same, Nat.mod_eq_of_lt (s.reg_lt ..), State.reg_setWreg]
    · rcases h with h | h
      · exact Or.inl ((List.mem_cons.mp h).resolve_left fun e => hk (e ▸ rfl))
      · exact Or.inr ((State.wreg_setWreg_ne _ _ _ _ _ _ _ _ hk).trans h)

/-- The state in which a cue's wings are copied and its slot is APPLIED. -/
def wingsCopied (w c : Nat) (s : State) : State := (s.liveToWings w (s.scopeObjs w (s.rd CUE_SSTAT_SCOPE w c) (s.rd CUE_SSTAT_PART w c))).wr CUE_SSTAT_STATE w c 5

/-- Beside the copies, the end of the copying writes the journal entry, the digests and a rotation's record, and raises CUE_DONE. -/
theorem wingsCopyDone_of_copying (w c : Nat) (s : State) (h : s.rd CUE_SSTAT_STATE w c = 4) :
    ∃ u, Keeps 0x14c004600100000000000000000000000000000000400000000000000000070000000000818000418 (wingsCopied w c s) u ∧ wingsCopyDone w c s = u.raiseS w c Leaf.cueDone := by
  unfold wingsCopyDone
  rw [if_neg (not_not.mpr h)]
  refine ⟨_, ?_, rfl⟩
  have hjournal := fun time id (g : CueUnit → CueUnit) =>
    Keeps.next (M := 0x14c004600100000000000000000000000000000000400000000000000000070000000000818000418) (State.modCueUnits_keeps _ w g) (by decide +kernel)
      ((journalCue_keeps w c 0 time id (wingsCopied w c s)).widen (by decide +kernel))
  split
  · exact .next (State.modSlots_keeps ..) (by decide +kernel) (.next (rotationDone_keeps ..) (by decide +kernel) (hjournal _ _ _))
  · exact hjournal _ _ _

/-- A cue whose wings are copied is APPLIED and raises CUE_DONE, with the wings of its scope as live (R49, R286). -/
theorem wingsCopyDone_done (w c : Nat) (s : State) (h : s.rd CUE_SSTAT_STATE w c = 4) :
    (wingsCopyDone w c s).rd CUE_SSTAT_STATE w c = 5 ∧ (wingsCopyDone w c s).leafSet w Leaf.cueDone = true ∧
      ∀ o ∈ s.scopeObjs w (s.rd CUE_SSTAT_SCOPE w c) (s.rd CUE_SSTAT_PART w c), (wingsCopyDone w c s).wreg o.1 w o.2 = s.reg o.1 w o.2 := by
  obtain ⟨u, hu, heq⟩ := wingsCopyDone_of_copying w c s h
  have hraise := State.raiseS_keeps u w c Leaf.cueDone
  rw [heq]
  refine ⟨?_, State.raiseS_sets _ _ _ _ (by decide), fun o ho => ?_⟩
  · rw [hraise.rd _ _ _ (by decide) (by decide +kernel), hu.rd _ _ _ (by decide) (by decide +kernel)]
    exact State.rd_wr_same _ _ _ _ _ (by decide) (by decide)
  · have hstaged := s.scopeObjs_staged w (s.rd CUE_SSTAT_SCOPE w c) (s.rd CUE_SSTAT_PART w c)
    rw [hraise.wreg (by decide +kernel), hu.wreg (by decide +kernel)]
    exact liveToWings_wreg w _ s (fun a ha => stagedRegs_eq_of_id _ (hstaged a ha) _ (hstaged o ho)) (Or.inl ho)

/-! ## The commands -/

theorem exec_cueApply (w : WaferId) (c : Fin 8) (s : State) : exec (.cueApply w c) s = .next (cueApply w c s) := rfl

theorem exec_schedCueValue (w : WaferId) (c : Fin 8) (s : State) : exec (.schedCueValue w c) s = .next (schedCueValue w c s) := rfl

theorem exec_wingsCopyDone (w : WaferId) (c : Fin 8) (s : State) : exec (.wingsCopyDone w c) s = .next (wingsCopyDone w c s) := rfl

/-- An armed immediate cue applies where no partition that it waits for runs a command (R283). -/
theorem cueApply_between_steps (w c : Nat) (s : State) (hst : s.rd CUE_SSTAT_STATE w c = 3) (hsched : s.rd CUE_SSTAT_SCHED w c = 0)
    (hwait : ∀ r ∈ (s.getSlots (w * 8 + c)).waitParts, (s.part w r).cmd = none) : cueApply w c s = applyCue w c s :=
  if_pos ⟨hst, hsched, List.all_eq_true.mpr fun r hr => by rw [hwait r hr]; rfl⟩

section Scheduled
variable (w c : Nat) (s : State) (hst : s.rd CUE_SSTAT_STATE w c = 3) (hsched : s.rd CUE_SSTAT_SCHED w c = 1) (htime : (s.getSlots (w * 8 + c)).time ≤ s.tbNow w)
include hst hsched htime

/-- At its value an armed cue applies, a machine cue only with its go frame (R284, R34). -/
theorem schedCueValue_applies (hgo : s.rd CUE_SSTAT_SCOPE w c ≠ 2 ∨ (s.getSlots (w * 8 + c)).go = true) : schedCueValue w c s = applyCue w c s := by
  have hdue : ¬ (s.rd CUE_SSTAT_STATE w c ≠ 3 ∨ s.rd CUE_SSTAT_SCHED w c = 0 ∨ s.tbNow w < (s.getSlots (w * 8 + c)).time) := by omega
  have hgoes : ¬ (s.rd CUE_SSTAT_SCOPE w c = 2 ∧ (s.getSlots (w * 8 + c)).go = false) := by
    rintro ⟨hscope, hfalse⟩
    rcases hgo with h | h
    · exact h hscope
    · rw [h] at hfalse; cases hfalse
  exact (if_neg hdue).trans (if_neg hgoes)

/-- At its value a machine cue without its go frame is disarmed with NO_GO (R34). -/
theorem schedCueValue_disarms (hscope : s.rd CUE_SSTAT_SCOPE w c = 2) (hgo : (s.getSlots (w * 8 + c)).go = false) :
    schedCueValue w c s = disarm w c 2 24 (missedGo w (s.getSlots (w * 8 + c)).mid s) := by
  have hdue : ¬ (s.rd CUE_SSTAT_STATE w c ≠ 3 ∨ s.rd CUE_SSTAT_SCHED w c = 0 ∨ s.tbNow w < (s.getSlots (w * 8 + c)).time) := by omega
  exact (if_neg hdue).trans (if_pos ⟨hscope, hgo⟩)

end Scheduled

end Sys2Proof.Machine

open Sys2Proof Sys2Proof.Machine

/-- Settles O29: an apply instant without special registers is the exchange of roles and the slot's end, and a missed go frame is a disarm. -/
theorem cuesApply : Obligations.CuesApply := by
  refine fun w c s => ⟨fun hst hsched hwait hplain => ?_, fun hst hsched htime => ⟨fun hgo hplain => ?_, fun hscope hgo => ?_⟩, fun hst =>
    ⟨_, exec_wingsCopyDone w c s, wingsCopyDone_done w c s hst⟩⟩
  · exact ⟨_, (exec_cueApply w c s).trans (congrArg _ (cueApply_between_steps w c s hst hsched hwait)), applyCue_applies w c s hplain.1 hplain.2⟩
  · exact ⟨_, (exec_schedCueValue w c s).trans (congrArg _ (schedCueValue_applies w c s hst hsched htime hgo)), applyCue_applies w c s hplain.1 hplain.2⟩
  · have hmissed := missedGo_keeps w (s.getSlots (w * 8 + c)).mid s
    have harmed := (hmissed.rd CUE_SSTAT_STATE w c (by decide) (by decide +kernel)).trans hst
    obtain ⟨hstate, hrule, hleaf, hwings, hwafer⟩ := disarm_of_armed w c 2 (rule := 24) _ harmed (by decide)
    refine ⟨_, (exec_schedCueValue w c s).trans (congrArg _ (schedCueValue_disarms w c s hst hsched htime hscope hgo)), hstate, hrule, hleaf,
      hwings.trans (hmissed.wings (by decide +kernel)), ?_⟩
    rw [hwafer]
    exact missedGo_outOfStep w _ s

end

section
/-!
SUPPORT. How a core issues an instruction: the state in which the instruction's effect begins, what it leaves of the core, and which parts of State writing a core leaves
alone (R86, R97, R113, R710, R711).
-/
set_option Elab.async false
namespace Sys2Proof.Machine

/-! ## Writing a core -/

@[simp] theorem State.core_setCore (s : State) (w f u : Nat) (c : Core) : (s.setCore w f u c).core w f u = c := by
  unfold State.core State.setCore
  rw [State.getCores_wr, State.getCores_wr, State.getCores_wr, State.getCores_wr, State.getCores_putCores, if_pos rfl]

@[simp] theorem State.core_modCore (s : State) (w f u : Nat) (g : Core → Core) : (s.modCore w f u g).core w f u = g (s.core w f u) := s.core_setCore w f u _

@[simp] theorem State.core_addTokens (s : State) (w f u n x y z : Nat) : (s.addTokens w f u n).core x y z = s.core x y z := s.getCores_wr _ _ _ _ _

@[simp] theorem State.core_openTokens (w f u : Nat) (s : State) (x y z : Nat) : (openTokens w f u s).core x y z = s.core x y z := s.fresh.2.core_addTokens ..

/-- Writing a core writes no register but its CORE_STAT. -/
theorem State.reg_setCore (s : State) (w f u : Nat) (c : Core) {r : Reg} (x i : Nat) (h : r.id ≠ CORE_STAT.id) : (s.setCore w f u c).reg r x i = s.reg r x i := by
  unfold State.setCore
  have hwr := fun (t : State) (y : Fld) (hy : y.reg = CORE_STAT) (v : Nat) => State.reg_wr_id t y r w (coreIdx f u) v x i (hy ▸ h)
  rw [hwr _ _ rfl, hwr _ _ rfl, hwr _ _ rfl, hwr _ _ rfl, State.reg_putCores]

/-- Counting tokens writes no register but CORE_TOKENS. -/
theorem State.reg_openTokens (w f u : Nat) (s : State) {r : Reg} (x i : Nat) (h : r.id ≠ CORE_TOKENS.id) : (openTokens w f u s).reg r x i = s.reg r x i :=
  State.reg_wr_id _ CORE_TOKENS_COUNT r _ _ _ x i h

theorem State.rd_modCore (s : State) (w f u : Nat) (g : Core → Core) {y : Fld} (x i : Nat) (h : y.reg.id ≠ CORE_STAT.id) : (s.modCore w f u g).rd y x i = s.rd y x i := by
  unfold State.rd
  rw [State.modCore, State.reg_setCore _ _ _ _ _ _ _ h]

theorem State.getInjects_setCore (s : State) (w f u : Nat) (c : Core) (k : Nat) : (s.setCore w f u c).getInjects k = s.getInjects k :=
  (s.setCore_keeps w f u c).getInjects (by decide +kernel) k

theorem State.niQueue_setCore (s : State) (w f u : Nat) (c : Core) (x y p : Nat) : (s.setCore w f u c).niQueue x y p = s.niQueue x y p := by
  unfold State.niQueue
  rw [State.getInjects_setCore]

theorem State.niQueue_openTokens (w f u : Nat) (s : State) (x y p : Nat) : (openTokens w f u s).niQueue x y p = s.niQueue x y p := by
  unfold State.niQueue
  rw [(openTokens_keeps w f u s).getInjects (by decide +kernel)]

/-! ## Issuing -/

/-- A core whose instruction has been issued and has not done anything yet. -/
def Core.begun (c : Core) : Core := { c with skipBreak := false }

/-- The state in which the effect of an issued instruction begins. -/
def State.begun (s : State) (w f u : Nat) : State := s.modCore w f u Core.begun

@[simp] theorem State.core_begun (s : State) (w f u : Nat) : (s.begun w f u).core w f u = (s.core w f u).begun := s.core_modCore ..

theorem State.issues_iff (s : State) (w f u : Nat) : s.issues w f u = true ↔
    s.canIssue w f u = true ∧ s.breakAt w f u (s.core w f u).pc = none ∧ (s.core w f u).pc < 3072 ∧ (s.core w f u).istorePoison.contains (s.core w f u).pc = false ∧
      (s.core w f u).stepping = false := by
  simp [State.issues, and_assoc]

/-- Where no breakpoint, missing or poisoned instruction stops a core, issuing is the instruction's effect (R97, R113, R713). -/
theorem issue_of_issues {w f u : Nat} (body : State → State) {s : State} (h : s.issues w f u = true) : issue w f u body s = stepEnd w f u (body (s.begun w f u)) := by
  obtain ⟨hcan, hbreak, hpc, hsound, -⟩ := (s.issues_iff w f u).mp h
  have hnone : (if (s.core w f u).skipBreak then none else s.breakAt w f u (s.core w f u).pc) = none := by rw [hbreak, ite_self]
  unfold issue
  simp only [hcan, Bool.not_true, Bool.false_eq_true, if_false, hnone, hsound, if_neg (Nat.not_le.mpr hpc)]
  rfl

theorem State.issues_run {s : State} {w f u : Nat} (h : s.issues w f u = true) : (s.core w f u).st = .run := by
  have hcan := ((s.issues_iff w f u).mp h).1
  simp only [State.canIssue, Bool.and_eq_true, beq_iff_eq] at hcan
  exact hcan.1.1

theorem stepEnd_of_not_stepping {w f u : Nat} {s : State} (h : (s.core w f u).stepping = false) : stepEnd w f u s = s := by
  simp [stepEnd, h]

/-- What an instruction of a core comes to: it is enough to say what its effect leaves of the core, which keeps `stepping`, and what it does besides. -/
theorem completes_of_issue {c : Instr} {s : State} {w f u : Nat} {body : State → State} {P : State → Prop} (hexec : exec c s = .next (issue w f u body s))
    (h : s.issues w f u = true) {c' : Core} (hcore : (body (s.begun w f u)).core w f u = c') (hstep : c'.stepping = (s.core w f u).stepping)
    (hP : P (body (s.begun w f u))) : Completes c s P := by
  obtain ⟨-, -, -, -, hstill⟩ := (s.issues_iff w f u).mp h
  refine ⟨_, hexec, ?_⟩
  rwa [issue_of_issues body h, stepEnd_of_not_stepping (by rw [hcore, hstep, hstill])]

/-! ## What a core reads once its instruction has begun -/

section
variable (c : Core)

@[simp] theorem Core.begun_reg (r : Nat) : c.begun.reg r = c.reg r := rfl
@[simp] theorem Core.begun_flags : c.begun.flags = c.flags := rfl
@[simp] theorem Core.begun_signal (k : Nat) : c.begun.signal k = c.signal k := rfl
@[simp] theorem Core.begun_part : c.begun.part = c.part := rfl
@[simp] theorem Core.begun_spart : c.begun.spart = c.spart := rfl
@[simp] theorem Core.begun_mode : c.begun.mode = c.mode := rfl
@[simp] theorem Core.begun_deques : c.begun.deques = c.deques := rfl
@[simp] theorem Core.begun_spadPoison : c.begun.spadPoison = c.spadPoison := rfl
@[simp] theorem Core.begun_byte (a : Nat) : c.begun.byte a = c.byte a := rfl
@[simp] theorem Core.begun_bytes (a n : Nat) : c.begun.bytes a n = c.bytes a n := rfl
@[simp] theorem Core.begun_elem (base nb i : Nat) : c.begun.elem base nb i = c.elem base nb i := rfl
@[simp] theorem Core.begun_writes : c.begun.writes = c.writes := rfl
@[simp] theorem Core.begun_atomics : c.begun.atomics = c.atomics := rfl
@[simp] theorem Core.begun_cbBytes : c.begun.cbBytes = c.cbBytes := rfl

theorem Core.begun_taken (b : BrCond) : c.begun.taken b = c.taken b := by cases b <;> rfl

theorem Core.reg_zero : c.reg 0 = 0 := rfl

theorem Core.reg_lt (r : Nat) : c.reg r < 2 ^ 32 := by
  unfold Core.reg
  split
  · decide
  · split
    · exact BitVec.isLt _
    · split
      · decide
      · exact Nat.mod_lt _ (by decide)

theorem Core.setReg_stepping (r v : Nat) : (c.setReg r v).stepping = c.stepping := by
  unfold Core.setReg
  split <;> rfl

/-- A register written by an instruction that goes on. -/
theorem Core.begun_setReg_went (r v : Nat) : ({ c.begun.setReg r v with pc := c.begun.pc + 1 } : Core) = (c.setReg r v).went := by
  unfold Core.setReg
  split <;> rfl

end

end Sys2Proof.Machine

end

section
/-!
PROOF. The scalar unit, branches and waits (R95, R96, R107, R113-R115).
-/
set_option Elab.async false
namespace Sys2Proof.Machine

/-! ## The scalar operations (R95) -/

theorem notBits_of_lt {n b : Nat} (hb : b < 2 ^ n) : notBits n b = 2 ^ n - (b + 1) := by
  apply Nat.eq_of_testBit_eq
  intro i
  rw [notBits, Nat.mod_eq_of_lt hb, Nat.testBit_xor, Nat.testBit_two_pow_sub_one, Nat.testBit_two_pow_sub_succ hb]
  by_cases hi : i < n
  · simp [hi]
  · simp [hi, Nat.testBit_lt_two_pow (hb.trans_le (Nat.pow_le_pow_right (by decide) (Nat.not_lt.mp hi)))]

theorem intOp_sub (a : Nat) {b : Nat} (hb : b < 2 ^ 32) : intOp .sub a b = (a + (2 ^ 32 - b)) % 2 ^ 32 := by
  simp only [intOp, notBits_of_lt hb]
  congr 1
  omega

theorem logicOp_shiftLeft (a : Nat) {b : Nat} (hb : b < 32) : logicOp .shiftLeft a b = a * 2 ^ b % 2 ^ 32 := by
  simp only [logicOp, Nat.mod_eq_of_lt hb, Nat.shiftLeft_eq]

theorem logicOp_shiftRight (a : Nat) {b : Nat} (hb : b < 32) : logicOp .shiftRight a b = a / 2 ^ b := by
  simp only [logicOp, Nat.mod_eq_of_lt hb, Nat.shiftRight_eq_div_pow]

theorem b2n_decide (p : Prop) [Decidable p] : b2n (decide p) = if p then 1 else 0 := by
  by_cases h : p <;> simp [b2n, h]

theorem cmpOp_eq (a b : Nat) : cmpOp .eq a b = if a = b then 1 else 0 := b2n_decide (a = b)

theorem cmpOp_ne (a b : Nat) : cmpOp .ne a b = if a = b then 0 else 1 := by
  by_cases h : a = b <;> simp [cmpOp, b2n, h]

theorem Core.flags_sum (c : Core) : c.flags = b2n c.invalid + 2 * b2n c.overflow + 4 * b2n c.intSat + 8 * b2n c.inexact := by
  unfold Core.flags
  ring

/-! ## Registers written by an instruction -/

/-- An instruction has written `v` into its register and gone on; g0 still reads 0 (R114). -/
def WroteReg (w f u rd v : Nat) (s t : State) : Prop := t.core w f u = ((s.core w f u).setReg rd v).went ∧ (t.core w f u).reg 0 = 0

theorem core_writeReg_begun (w f u rd v : Nat) (s : State) : (writeReg w f u rd v (s.begun w f u)).core w f u = ((s.core w f u).setReg rd v).went := by
  rw [writeReg, State.core_openTokens, State.core_modCore, State.core_begun, Core.begun_setReg_went]

/-- An instruction whose effect is one register write. -/
theorem completes_writeReg {c : Instr} {s : State} {w f u rd x : Nat} {v : State → Nat} (hexec : exec c s = .next (issue w f u (fun t => writeReg w f u rd (v t) t) s))
    (h : s.issues w f u = true) (hv : v (s.begun w f u) = x) : Completes c s (WroteReg w f u rd x s) := by
  have hcore : (writeReg w f u rd (v (s.begun w f u)) (s.begun w f u)).core w f u = ((s.core w f u).setReg rd x).went := by rw [hv, core_writeReg_begun]
  exact completes_of_issue hexec h hcore ((s.core w f u).setReg_stepping rd x) ⟨hcore, Core.reg_zero _⟩

section
variable {w : WaferId} {f : FieldId} {u : UnitId} {rd : Fin 32} {s : State} (h : s.issues w f u = true)
include h

theorem completes_intArithmetic {op : IntOp} {ra rb : Fin 32} {x : Nat} (hx : intOp op ((s.core w f u).reg ra) ((s.core w f u).reg rb) = x) :
    Completes (.intArithmetic w f u op rd ra rb) s (WroteReg w f u rd x s) :=
  completes_writeReg (v := fun t => intOp op ((t.core w f u).reg ra) ((t.core w f u).reg rb)) rfl h (by rw [State.core_begun]; exact hx)

theorem completes_logic {op : LogicOp} {ra rb : Fin 32} {x : Nat} (hx : logicOp op ((s.core w f u).reg ra) ((s.core w f u).reg rb) = x) :
    Completes (.logic w f u op rd ra rb) s (WroteReg w f u rd x s) :=
  completes_writeReg (v := fun t => logicOp op ((t.core w f u).reg ra) ((t.core w f u).reg rb)) rfl h (by rw [State.core_begun]; exact hx)

theorem completes_compare {op : CmpOp} {ra rb : Fin 32} {x : Nat} (hx : cmpOp op ((s.core w f u).reg ra) ((s.core w f u).reg rb) = x) :
    Completes (.compare w f u op rd ra rb) s (WroteReg w f u rd x s) :=
  completes_writeReg (v := fun t => cmpOp op ((t.core w f u).reg ra) ((t.core w f u).reg rb)) rfl h (by rw [State.core_begun]; exact hx)

theorem completes_flags : Completes (.flags w f u rd) s (WroteReg w f u rd (s.core w f u).flags s) :=
  completes_writeReg (v := fun t => (t.core w f u).flags) rfl h (by rw [State.core_begun]; rfl)

end

/-- An instruction whose effect is one write of a register pair, low word first (R115). -/
theorem completes_writePair {c : Instr} {s : State} {w f u rd x : Nat} {v : State → Nat} (hexec : exec c s = .next (issue w f u (fun t => writePair w f u rd (v t) t) s))
    (h : s.issues w f u = true) (hv : v (s.begun w f u) = x) :
    Completes c s fun t => t.core w f u = (((s.core w f u).setReg rd (x % 2 ^ 32)).setReg ((rd + 1) % 32) (x / 2 ^ 32)).went := by
  have hcore : (writePair w f u rd (v (s.begun w f u)) (s.begun w f u)).core w f u =
      (((s.core w f u).setReg rd (x % 2 ^ 32)).setReg ((rd + 1) % 32) (x / 2 ^ 32)).went := by
    rw [hv, writePair, State.core_openTokens, State.core_modCore, State.core_begun, Core.setPair, Nat.shiftRight_eq_div_pow]
    unfold Core.setReg
    split <;> split <;> rfl
  exact completes_of_issue hexec h hcore (((Core.setReg_stepping _ _ _)).trans (Core.setReg_stepping _ _ _)) hcore

theorem State.tbNow_begun (s : State) (w f u : Nat) (x : Nat) : (s.begun w f u).tbNow x = s.tbNow x := by
  have hkeeps := State.modCore_keeps s w f u Core.begun
  unfold State.tbNow State.begun
  rw [hkeeps.getClocks (by decide +kernel), hkeeps.now]

/-- The whole of a register that is one field. -/
theorem State.rd_tokens (s : State) (w i : Nat) : s.rd CORE_TOKENS_COUNT w i = s.reg CORE_TOKENS w i := Nat.mod_eq_of_lt (s.reg_lt CORE_TOKENS w i)

section
variable {w : WaferId} {f : FieldId} {u : UnitId} {s : State} (h : s.issues w f u = true)
include h

theorem completes_time (rd : Fin 32) : Completes (.time w f u rd) s fun t =>
    t.core w f u = (((s.core w f u).setReg rd (s.tbNow w % 2 ^ 32)).setReg ((rd + 1) % 32) (s.tbNow w / 2 ^ 32)).went :=
  completes_writePair (v := fun t => t.tbNow w) rfl h (s.tbNow_begun w f u w)

theorem completes_tokens (rd : Fin 32) : Completes (.tokens w f u rd) s fun t => t.core w f u =
    (((s.core w f u).setReg rd (s.rd CORE_TOKENS_COUNT w (coreIdx f u) % 2 ^ 32)).setReg ((rd + 1) % 32) (s.rd CORE_TOKENS_COUNT w (coreIdx f u) / 2 ^ 32)).went :=
  completes_writePair (v := fun t => t.reg CORE_TOKENS w (coreIdx f u)) rfl h ((State.reg_setCore _ _ _ _ _ _ _ (by decide)).trans (s.rd_tokens w _).symm)

/-! ## Branches and waits -/

theorem completes_branch (b : BrCond) (target : BitVec 16) (ht : target.toNat < 3072) : Completes (.branch w f u b target) s fun t =>
    t.core w f u = { s.core w f u with skipBreak := false, pc := if (s.core w f u).taken b then target.toNat else (s.core w f u).pc + 1 } := by
  have hcore : (branch w f u b target.toNat (s.begun w f u)).core w f u =
      { s.core w f u with skipBreak := false, pc := if (s.core w f u).taken b then target.toNat else (s.core w f u).pc + 1 } := by
    unfold branch
    rw [State.core_begun, Core.begun_taken]
    split
    · rw [if_neg (Nat.not_le.mpr ht), State.core_openTokens, State.core_modCore, State.core_begun]
      rfl
    · rw [State.core_openTokens, advance, State.core_modCore, State.core_begun]
      rfl
  exact completes_of_issue rfl h hcore rfl hcore

theorem completes_wait_reached {word : Fin 16} {count : Word32} (hc : count.toNat ≤ (s.core w f u).signal word) :
    Completes (.wait w f u word count) s fun t => t.core w f u = (s.core w f u).went := by
  have hcore : (waitOn w f u word count.toNat (s.begun w f u)).core w f u = (s.core w f u).went := by
    unfold waitOn
    rw [State.core_begun, Core.begun_signal, if_pos hc, State.core_openTokens, advance, State.core_modCore, State.core_begun]
    rfl
  exact completes_of_issue rfl h hcore rfl hcore

theorem completes_wait_waits {word : Fin 16} {count : Word32} (hc : (s.core w f u).signal word < count.toNat) : Completes (.wait w f u word count) s fun t =>
    t.core w f u = { s.core w f u with skipBreak := false, wait := .signal word count.toNat, waitSince := s.now } ∧
      t.rd CORE_TOKENS_COUNT w (coreIdx f u) = s.rd CORE_TOKENS_COUNT w (coreIdx f u) := by
  have hnow : (s.begun w f u).now = s.now := (State.modCore_keeps s w f u Core.begun).now
  have hwaits : waitOn w f u word count.toNat (s.begun w f u) = (s.begun w f u).modCore w f u fun c => { c with wait := .signal word count.toNat, waitSince := s.now } := by
    unfold waitOn
    rw [State.core_begun, Core.begun_signal, if_neg (Nat.not_le.mpr hc), hnow]
  have hcore : (waitOn w f u word count.toNat (s.begun w f u)).core w f u =
      { s.core w f u with skipBreak := false, wait := .signal word count.toNat, waitSince := s.now } := by
    rw [hwaits, State.core_modCore, State.core_begun]
    rfl
  refine completes_of_issue rfl h hcore rfl ⟨hcore, ?_⟩
  rw [hwaits, State.rd_modCore _ _ _ _ _ _ _ (by decide), State.begun, State.rd_modCore _ _ _ _ _ _ _ (by decide)]

end

end Sys2Proof.Machine

open Sys2Proof Sys2Proof.Machine

/-- Settles O10: a scalar instruction is one register write at its core, and a branch or a wait changes only where the core goes on or what it waits for. -/
theorem scalarUnitAndControl : Obligations.ScalarUnitAndControl := by
  refine ⟨fun w f u rd ra rb s h => ?_, fun w f u s h =>
    ⟨fun b target ht => completes_branch h b target ht, fun word count hc => completes_wait_reached h hc, fun word count hc => completes_wait_waits h hc⟩⟩
  have hb := (s.core w f u).reg_lt rb
  exact ⟨completes_intArithmetic h rfl, completes_intArithmetic h (intOp_sub _ hb), completes_intArithmetic h rfl,
    completes_logic h rfl, completes_logic h rfl, completes_logic h rfl,
    fun hlt => ⟨completes_logic h (logicOp_shiftLeft _ hlt), completes_logic h (logicOp_shiftRight _ hlt)⟩,
    completes_compare h (cmpOp_eq _ _), completes_compare h (cmpOp_ne _ _), completes_compare h (b2n_decide _), completes_compare h (b2n_decide _),
    fun n => (completes_intArithmetic h rfl).imp fun t ht => ⟨_, Nat.mod_lt _ (by decide), ht⟩,
    fun n => (completes_logic h rfl).imp fun t ht => ⟨_, Nat.mod_lt _ (by decide), ht⟩,
    fun n => (completes_compare h rfl).imp fun t ht => ⟨_, Nat.mod_lt _ (by decide), ht⟩,
    Core.flags_sum _ ▸ completes_flags h, completes_time h rd, completes_tokens h rd⟩

end

section
/-!
SUPPORT. The bytes of a core's scratchpad after a delivery (R109, R351), and the elements of a tensor register that packed bytes give (R100).
-/
set_option Elab.async false
namespace Sys2Proof.Machine

/-! ## Maps whose unlisted keys read an open value -/

theorem mget_eq_mfind {α : Type} (d : α) (m : List (Nat × α)) (x : Nat) : mget d m x = (mfind m x).getD d := by
  induction m with
  | nil => rfl
  | cons a m ih =>
    simp only [mget, mfind]
    split
    · rfl
    · exact ih

/-- What a map lists is what it reads when its values are options and an unlisted key reads none. -/
theorem mfind_eq_mget {α : Type} (m : List (Nat × α)) (x : Nat) : mfind m x = mget none (m.map fun a => (a.1, some a.2)) x := by
  induction m with
  | nil => rfl
  | cons a m ih =>
    simp only [List.map_cons, mget, mfind]
    split
    · rfl
    · exact ih

theorem mfind_mput {α : Type} (m : List (Nat × α)) (k : Nat) (v : α) (x : Nat) : mfind (mput m k v) x = if x = k then some v else mfind m x := by
  have hdel : ∀ m : List (Nat × α), (mdel m k).map (fun a => (a.1, some a.2)) = mdel (m.map fun a => (a.1, some a.2)) k := fun m => by
    induction m with
    | nil => rfl
    | cons a m ih => by_cases h : a.1 = k <;> simp [mdel, h, ih]
  have hins : ∀ m : List (Nat × α), (mins k v m).map (fun a => (a.1, some a.2)) = mins k (some v) (m.map fun a => (a.1, some a.2)) := fun m => by
    induction m with
    | nil => rfl
    | cons a m ih => by_cases h : k < a.1 <;> simp [mins, h, ih]
  rw [mfind_eq_mget, mput, hins, hdel, mget_mins _ _ _ _ _ (mdel_not_mem _ k), mget_mdel, mfind_eq_mget]
  split <;> rfl

/-! ## One register, one byte -/

/-- A register reads what was written to it (R114). -/
theorem Core.reg_setReg_same (c : Core) {r : Nat} (v : Nat) (h : r ≠ 0) : (c.setReg r v).reg r = v % 2 ^ 32 := by
  simp only [Core.reg, Core.setReg, if_neg h, mfind_mput, if_true, BitVec.toNat_ofNat]

theorem Core.byte_seedless (c : Core) (h : c.seed = none) (b : Nat) : c.byte b = (mget (0 : Byte) c.spad b).toNat := by
  rw [mget_eq_mfind, Core.byte, h]
  cases mfind c.spad b <;> rfl

theorem Core.byte_lt (c : Core) (b : Nat) : c.byte b < 256 := by
  unfold Core.byte
  split
  · exact BitVec.isLt _
  · split
    · decide
    · exact Nat.mod_lt _ (by decide)

theorem Core.setByte_seed (c : Core) (a v : Nat) : (c.setByte a v).seed = c.seed := rfl

/-- A byte of the scratchpad reads what was written to it, and every other byte as before. -/
theorem Core.byte_setByte (c : Core) (a v b : Nat) : (c.setByte a v).byte b = if b = a then v % 256 else c.byte b := by
  rcases hs : c.seed with _ | k
  · have hspad : (c.setByte a v).spad = mset (0 : Byte) c.spad a (BitVec.ofNat 8 v) := by simp only [Core.setByte, hs]
    rw [Core.byte_seedless (c.setByte a v) hs, Core.byte_seedless c hs, hspad, mget_mset]
    split
    · exact BitVec.toNat_ofNat v 8
    · rfl
  · have hspad : (c.setByte a v).spad = mput c.spad a (BitVec.ofNat 8 v) := by simp only [Core.setByte, hs]
    rw [Core.byte, hspad, mfind_mput, Core.setByte_seed]
    by_cases hb : b = a
    · simp only [if_pos hb]
      exact BitVec.toNat_ofNat v 8
    · simp only [if_neg hb]
      rfl

/-! ## Ranges of bytes -/

/-- Bytes written differ from the core before in the scratchpad alone. -/
theorem Core.setBytes_eq (c : Core) (a : Nat) (bs : List Nat) : ∃ m, c.setBytes a bs = { c with spad := m } := by
  induction bs generalizing c a with
  | nil => exact ⟨c.spad, rfl⟩
  | cons x bs ih =>
    obtain ⟨m, hm⟩ := ih (c.setByte a x) (a + 1)
    exact ⟨m, hm⟩

/-- A range of bytes reads what was written to it, and every other byte as before. -/
theorem Core.byte_setBytes (c : Core) (a : Nat) (bs : List Nat) (b : Nat) :
    (c.setBytes a bs).byte b = if a ≤ b ∧ b < a + bs.length then bs.getD (b - a) 0 % 256 else c.byte b := by
  induction bs generalizing c a with
  | nil => rw [if_neg (by simp)]; rfl
  | cons x bs ih =>
    rw [Core.setBytes, ih, Core.byte_setByte, List.length_cons]
    by_cases hb : b = a
    · rw [if_neg (by omega), if_pos hb, if_pos (by omega), hb, Nat.sub_self, List.getD_cons_zero]
    · by_cases hin : a + 1 ≤ b ∧ b < a + 1 + bs.length
      · rw [if_pos hin, if_pos (by omega), show b - a = b - (a + 1) + 1 by omega, List.getD_cons_succ]
      · rw [if_neg hin, if_neg hb, if_neg (by omega)]

theorem Core.bytes_length (c : Core) (a n : Nat) : (c.bytes a n).length = n := by simp [Core.bytes]

theorem Core.bytes_getD (c : Core) (a : Nat) {n k : Nat} (h : k < n) : (c.bytes a n).getD k 0 = c.byte (a + k) := by
  simp [Core.bytes, List.getD_eq_getElem?_getD, h]

/-! ## Deliveries -/

/-- The bytes of `bs`, delivered at `a`, that fall into word `k`. -/
def wordPart (a : Nat) (bs : List Nat) (k : Nat) : List Nat := (bs.drop (max a (8 * k) - a)).take (min (a + bs.length) (8 * k + 8) - max a (8 * k))

/-- One word of a delivery into a scratchpad without poison. -/
def Core.setWord (a : Nat) (bs : List Nat) (c : Core) (k : Nat) : Core := c.setBytes (max a (8 * k)) (wordPart a bs k)

theorem Core.setWord_eq (a : Nat) (bs : List Nat) (c : Core) (k : Nat) : ∃ m, c.setWord a bs k = { c with spad := m } := c.setBytes_eq ..

theorem Core.byte_setWord (a : Nat) (bs : List Nat) (c : Core) (k b : Nat) :
    (c.setWord a bs k).byte b = if (a ≤ b ∧ b < a + bs.length) ∧ b / 8 = k then bs.getD (b - a) 0 % 256 else c.byte b := by
  have hlen : (wordPart a bs k).length = min (a + bs.length) (8 * k + 8) - max a (8 * k) := by
    rw [wordPart, List.length_take, List.length_drop]
    omega
  rw [Core.setWord, Core.byte_setBytes, hlen]
  by_cases hin : (a ≤ b ∧ b < a + bs.length) ∧ b / 8 = k
  · rw [if_pos hin, if_pos (by omega), wordPart]
    have hoff : max a (8 * k) - a + (b - max a (8 * k)) = b - a := by omega
    simp only [List.getD_eq_getElem?_getD]
    rw [List.getElem?_take_of_lt (by omega), List.getElem?_drop, hoff]
  · rw [if_neg hin, if_neg (by omega)]

/-- Without poison a delivery writes its words one after another (R351). -/
theorem Core.deliver_words (c : Core) (a : Nat) (bs : List Nat) (h : c.spadPoison = []) : c.deliver a bs = (wordsOf a bs.length).foldl (Core.setWord a bs) c := by
  unfold Core.deliver
  induction wordsOf a bs.length generalizing c with
  | nil => rfl
  | cons k ks ih =>
    obtain ⟨m, hm⟩ := Core.setWord_eq a bs c k
    simp only [List.foldl_cons]
    rw [← ih _ (by rw [hm]; exact h), h]
    rfl

theorem foldl_setWord_eq (a : Nat) (bs ks : List Nat) (c : Core) : ∃ m, ks.foldl (Core.setWord a bs) c = { c with spad := m } := by
  induction ks generalizing c with
  | nil => exact ⟨c.spad, rfl⟩
  | cons k ks ih =>
    obtain ⟨m, hm⟩ := ih (c.setWord a bs k)
    obtain ⟨m', hm'⟩ := Core.setWord_eq a bs c k
    exact ⟨m, by rw [List.foldl_cons, hm, hm']⟩

theorem byte_foldl_setWord (a : Nat) (bs ks : List Nat) (c : Core) (b : Nat) :
    (ks.foldl (Core.setWord a bs) c).byte b = if (a ≤ b ∧ b < a + bs.length) ∧ b / 8 ∈ ks then bs.getD (b - a) 0 % 256 else c.byte b := by
  induction ks generalizing c with
  | nil => simp
  | cons k ks ih =>
    rw [List.foldl_cons, ih, Core.byte_setWord]
    simp only [List.mem_cons]
    split_ifs <;> tauto

/-- The words of a range are those of its bytes. -/
theorem mem_wordsOf {a n b : Nat} (ha : a ≤ b) (hb : b < a + n) : b / 8 ∈ wordsOf a n := by
  rw [wordsOf, if_neg (by omega), List.mem_map]
  exact ⟨b / 8 - a / 8, List.mem_range.mpr (by omega), by omega⟩

section
variable (c : Core) (a : Nat) (bs : List Nat) (h : c.spadPoison = [])
include h

/-- A delivery into a scratchpad without poison changes the scratchpad's bytes alone. -/
theorem Core.deliver_eq : ∃ m, c.deliver a bs = { c with spad := m } := by
  rw [c.deliver_words a bs h]
  exact foldl_setWord_eq a bs _ c

/-- A delivery into a scratchpad without poison leaves its bytes in its range, and every other byte as before (R351). -/
theorem Core.byte_deliver (b : Nat) : (c.deliver a bs).byte b = if a ≤ b ∧ b < a + bs.length then bs.getD (b - a) 0 % 256 else c.byte b := by
  rw [c.deliver_words a bs h, byte_foldl_setWord]
  by_cases hin : a ≤ b ∧ b < a + bs.length
  · rw [if_pos hin, if_pos ⟨hin, mem_wordsOf hin.1 hin.2⟩]
  · rw [if_neg hin, if_neg fun hc => hin hc.1]

theorem Core.byte_deliver_inside {k : Nat} (hk : k < bs.length) : (c.deliver a bs).byte (a + k) = bs.getD k 0 % 256 := by
  rw [c.byte_deliver a bs h, if_pos ⟨by omega, by omega⟩, Nat.add_sub_cancel_left]

theorem Core.byte_deliver_outside {b : Nat} (hb : b < a ∨ a + bs.length ≤ b) : (c.deliver a bs).byte b = c.byte b := by
  rw [c.byte_deliver a bs h, if_neg (by omega)]

end

end Sys2Proof.Machine

end

section
/-!
SUPPORT. Elements packed into bytes, low bits first, and the elements that a core reads of bytes (R98, R100).
-/
set_option Elab.async false
namespace Sys2Proof.Machine

/-! ## Numbers and their bytes -/

theorem leBytes_length (n v : Nat) : (leBytes n v).length = n := by
  induction n generalizing v with
  | zero => rfl
  | succ n ih => rw [leBytes, List.length_cons, ih]

/-- A bit of a number of bytes is the bit of its byte. -/
theorem ofLeBytes_testBit (l : List Nat) (j : Nat) : (ofLeBytes l).testBit j = (l.getD (j / 8) 0).testBit (j % 8) := by
  induction l generalizing j with
  | nil => simp [ofLeBytes]
  | cons b r ih =>
    rw [ofLeBytes, Nat.add_comm, show (256 : Nat) = 2 ^ 8 from rfl, Nat.testBit_two_pow_mul_add _ (Nat.mod_lt _ (by decide))]
    by_cases hj : j < 8
    · rw [if_pos hj, Nat.testBit_mod_two_pow, Nat.div_eq_of_lt hj, Nat.mod_eq_of_lt hj]
      simp [hj]
    · rw [if_neg hj, ih, show j / 8 = (j - 8) / 8 + 1 by omega, List.getD_cons_succ, show (j - 8) % 8 = j % 8 by omega]

theorem ofLeBytes_append (xs ys : List Nat) : ofLeBytes (xs ++ ys) = ofLeBytes xs + 256 ^ xs.length * ofLeBytes ys := by
  induction xs with
  | nil => simp [ofLeBytes]
  | cons x xs ih =>
    simp only [List.cons_append, ofLeBytes, ih, List.length_cons, pow_succ]
    ring

theorem ofLeBytes_leBytes (n v : Nat) : ofLeBytes (leBytes n v) = v % 256 ^ n := by
  induction n generalizing v with
  | zero => simp [leBytes, ofLeBytes, Nat.mod_one]
  | succ n ih => rw [leBytes, ofLeBytes, ih, Nat.mod_mod, pow_succ, Nat.mul_comm (256 ^ n), Nat.mod_mul]

/-! ## Packed codes -/

/-- The number that codes of `nb` bits make, low bits first (R100). -/
def packed (nb : Nat) : List Nat → Nat
  | [] => 0
  | c :: cs => c % 2 ^ nb + 2 ^ nb * packed nb cs

theorem packed_lt (nb : Nat) (cs : List Nat) : packed nb cs < 2 ^ (nb * cs.length) := by
  induction cs with
  | nil => simp [packed]
  | cons c cs ih =>
    have hc : c % 2 ^ nb < 2 ^ nb := Nat.mod_lt _ (Nat.two_pow_pos nb)
    rw [packed, List.length_cons, Nat.mul_succ, Nat.add_comm (nb * cs.length), pow_add]
    calc c % 2 ^ nb + 2 ^ nb * packed nb cs < 2 ^ nb * (packed nb cs + 1) := by rw [Nat.mul_succ]; omega
      _ ≤ 2 ^ nb * 2 ^ (nb * cs.length) := Nat.mul_le_mul_left _ ih

/-- Code `i` of packed codes. -/
theorem packed_code (nb : Nat) (cs : List Nat) (i : Nat) : (packed nb cs >>> (nb * i)) % 2 ^ nb = cs.getD i 0 % 2 ^ nb := by
  induction cs generalizing i with
  | nil => simp [packed]
  | cons c cs ih =>
    have hc : c % 2 ^ nb < 2 ^ nb := Nat.mod_lt _ (Nat.two_pow_pos nb)
    cases i with
    | zero => simp [packed]
    | succ i =>
      have hrest : packed nb (c :: cs) >>> nb = packed nb cs := by
        rw [packed, Nat.shiftRight_eq_div_pow, Nat.add_mul_div_left _ _ (Nat.two_pow_pos nb), Nat.div_eq_of_lt hc, Nat.zero_add]
      rw [Nat.mul_succ, Nat.add_comm, Nat.shiftRight_add, hrest, ih, List.getD_cons_succ]

theorem packBits_eq (nb : Nat) (cs : List Nat) : packBits nb cs = leBytes ((nb * cs.length + 7) / 8) (packed nb cs) := by
  have hfold : ∀ cs : List Nat, cs.foldr (fun c n => n * 2 ^ nb + c % 2 ^ nb) 0 = packed nb cs := fun cs => by
    induction cs with
    | nil => rfl
    | cons c cs ih => rw [List.foldr_cons, ih, packed, Nat.add_comm, Nat.mul_comm]
  rw [packBits, List.foldl_reverse, hfold]

theorem packBits_length (nb : Nat) (cs : List Nat) : (packBits nb cs).length = (nb * cs.length + 7) / 8 := by rw [packBits_eq, leBytes_length]

theorem ofLeBytes_packBits (nb : Nat) (cs : List Nat) : ofLeBytes (packBits nb cs) = packed nb cs := by
  rw [packBits_eq, ofLeBytes_leBytes, show (256 : Nat) = 2 ^ 8 from rfl, ← pow_mul]
  exact Nat.mod_eq_of_lt ((packed_lt nb cs).trans_le (Nat.pow_le_pow_right (by decide) (by omega)))

/-- Words of 32 bits, one after another, are packed codes. -/
theorem ofLeBytes_words (cs : List Nat) : ofLeBytes (cs.flatMap (leBytes 4)) = packed 32 cs := by
  induction cs with
  | nil => rfl
  | cons c cs ih =>
    rw [List.flatMap_cons, ofLeBytes_append, ih, ofLeBytes_leBytes, leBytes_length, packed, show (256 : Nat) ^ 4 = 2 ^ 32 from rfl]

theorem words_length (cs : List Nat) : (cs.flatMap (leBytes 4)).length = 4 * cs.length := by
  simp [List.length_flatMap, leBytes_length, Nat.mul_comm]

/-! ## Elements of a tensor register -/

/-- A bit of an element is a bit of the byte it lies in (R100). -/
theorem Core.elem_testBit (c : Core) (base i : Nat) {nb : Nat} (hnb : nb ≤ 33) (j : Nat) :
    (c.elem base nb i).testBit j = (decide (j < nb) && (c.byte (base + (nb * i + j) / 8)).testBit ((nb * i + j) % 8)) := by
  simp only [Core.elem, Nat.testBit_mod_two_pow, Nat.testBit_shiftRight]
  generalize nb * i = n
  by_cases hj : j < nb
  · rw [ofLeBytes_testBit, c.bytes_getD _ (by omega), show base + n / 8 + (n % 8 + j) / 8 = base + (n + j) / 8 by omega,
      show (n % 8 + j) % 8 = (n + j) % 8 by omega]
  · simp [hj]

/-- An element of bytes that a core holds. -/
theorem Core.elem_of_bytes (c : Core) {base nb i : Nat} {bs : List Nat} (hnb : nb ≤ 33) (hfit : nb * (i + 1) ≤ 8 * bs.length)
    (hbytes : ∀ k < bs.length, c.byte (base + k) = bs.getD k 0 % 256) : c.elem base nb i = (ofLeBytes bs >>> (nb * i)) % 2 ^ nb := by
  apply Nat.eq_of_testBit_eq
  intro j
  rw [c.elem_testBit base i hnb, Nat.testBit_mod_two_pow, Nat.testBit_shiftRight, ofLeBytes_testBit]
  by_cases hj : j < nb
  · rw [Nat.mul_succ] at hfit
    rw [hbytes _ (by omega), show (256 : Nat) = 2 ^ 8 from rfl, Nat.testBit_mod_two_pow, decide_eq_true (show (nb * i + j) % 8 < 8 by omega), Bool.true_and]
  · simp [hj]

/-- A 32-bit element is the number of its four bytes. -/
theorem Core.elem_word (c : Core) (base i : Nat) : c.elem base 32 i = ofLeBytes (c.bytes (base + 4 * i) 4) := by
  apply Nat.eq_of_testBit_eq
  intro j
  rw [c.elem_testBit base i (by decide), ofLeBytes_testBit]
  by_cases hj : j < 32
  · rw [c.bytes_getD _ (by omega), show base + (32 * i + j) / 8 = base + 4 * i + j / 8 by omega, show (32 * i + j) % 8 = j % 8 by omega, decide_eq_true hj,
      Bool.true_and]
  · have hout : (c.bytes (base + 4 * i) 4).getD (j / 8) 0 = 0 := List.getD_eq_default _ _ (by rw [Core.bytes_length]; omega)
    rw [hout]
    simp [hj]

/-- An element read after a delivery is that of the bytes delivered (R100). -/
theorem Core.elem_deliver (c : Core) {base nb i : Nat} {bs : List Nat} (h : c.spadPoison = []) (hnb : nb ≤ 33) (hfit : nb * (i + 1) ≤ 8 * bs.length) :
    (c.deliver base bs).elem base nb i = (ofLeBytes bs >>> (nb * i)) % 2 ^ nb :=
  Core.elem_of_bytes _ hnb hfit fun _ hk => c.byte_deliver_inside base bs h hk

/-- An element read after packed codes were delivered is its code (R100). -/
theorem Core.elem_deliver_packBits (c : Core) {base nb i : Nat} {cs : List Nat} (h : c.spadPoison = []) (hnb : nb ≤ 33) (hi : i < cs.length) :
    (c.deliver base (packBits nb cs)).elem base nb i = cs.getD i 0 % 2 ^ nb := by
  have hle : nb * (i + 1) ≤ nb * cs.length := Nat.mul_le_mul_left nb hi
  rw [c.elem_deliver h hnb (by rw [packBits_length]; omega), ofLeBytes_packBits, packed_code]

/-- An element read after words were delivered is its word (R100). -/
theorem Core.elem_deliver_words (c : Core) {base i : Nat} {cs : List Nat} (h : c.spadPoison = []) (hi : i < cs.length) :
    (c.deliver base (cs.flatMap (leBytes 4))).elem base 32 i = cs.getD i 0 % 2 ^ 32 := by
  rw [c.elem_deliver h (by decide) (by rw [words_length]; omega), ofLeBytes_words, packed_code]

end Sys2Proof.Machine

end

section
/-!
PROOF. The vector and matrix units and conversions (R98-R108).
-/
set_option Elab.async false
namespace Sys2Proof.Machine

/-! ## Shared operations of the two units -/

/-- Without poison in the scratchpad an operation reads its tensor registers (R351). -/
theorem tensorChecked_sound {w f u : Nat} (ranges : List (Nat × Nat)) {s : State} (k : State → State) (h : (s.core w f u).spadPoison = []) :
    tensorChecked w f u ranges s k = k s := by
  have hnone : (ranges.find? fun x => (s.core w f u).poisonIn x.1 x.2) = none := by simp [Core.poisonIn, h]
  unfold tensorChecked
  rw [hnone]

/-- A core that an operation leaves at an index, with the flags of its results (R107). -/
def Core.flagged (c : Core) (fl : Flg) (n : Nat) : Core := { c.stick fl with pc := n }

section
variable (c : Core) (fl : Flg) (n : Nat)

@[simp] theorem Core.flagged_elem (base nb i : Nat) : (c.flagged fl n).elem base nb i = c.elem base nb i := rfl
@[simp] theorem Core.flagged_pc : (c.flagged fl n).pc = n := rfl
@[simp] theorem Core.flagged_invalid : (c.flagged fl n).invalid = (c.invalid || fl.invalid) := rfl
@[simp] theorem Core.flagged_g : (c.flagged fl n).g = c.g := rfl
@[simp] theorem Core.flagged_stepping : (c.flagged fl n).stepping = c.stepping := rfl

end

theorem core_writeTensor (w f u td : Nat) (bs : List Nat) (fl : Flg) (n : Nat) (s : State) : (writeTensor w f u td bs fl n s).core w f u =
    ((s.core w f u).deliver (tensorBase td) bs).flagged fl ((s.core w f u).pc + 1) := by
  rw [writeTensor, State.core_addTokens, State.core_modCore]
  rfl

theorem stepping_deliver (c : Core) (a : Nat) (bs : List Nat) (h : c.spadPoison = []) : (c.deliver a bs).stepping = c.stepping := by
  obtain ⟨m, hm⟩ := c.deliver_eq a bs h
  rw [hm]

theorem stepping_writeTensor {w f u : Nat} (td : Nat) (bs : List Nat) (fl : Flg) (n : Nat) {s : State} (h : (s.core w f u).spadPoison = []) :
    ((writeTensor w f u td bs fl n s).core w f u).stepping = (s.core w f u).stepping := by
  rw [core_writeTensor, Core.flagged_stepping, stepping_deliver _ _ _ h]

/-- A tensor register's write counts its tokens (R86). -/
theorem rd_tokens_writeTensor (w f u td : Nat) (bs : List Nat) (fl : Flg) (n : Nat) (s : State) : (writeTensor w f u td bs fl n s).rd CORE_TOKENS_COUNT w (coreIdx f u) =
    (s.rd CORE_TOKENS_COUNT w (coreIdx f u) + n) % 2 ^ CORE_TOKENS_COUNT.width := by
  rw [writeTensor, State.addTokens, State.incWrap, State.rd_wr_same _ _ _ _ _ (by decide) (by decide), State.rd_modCore _ _ _ _ _ _ _ (by decide)]
  rfl

theorem State.rd_tokens_begun (s : State) (w f u i : Nat) : (s.begun w f u).rd CORE_TOKENS_COUNT w i = s.rd CORE_TOKENS_COUNT w i :=
  State.rd_modCore _ _ _ _ _ _ _ (by decide)

/-- The INVALID flag of several results is that of any of them (R107). -/
theorem orFlags_invalid (xs : List (Nat × Flg)) : (orFlags xs).invalid = xs.any fun x => x.2.invalid := by
  have hacc : ∀ a : Flg, (xs.foldl (fun a x => a.or x.2) a).invalid = (a.invalid || xs.any fun x => x.2.invalid) := by
    induction xs with
    | nil => simp
    | cons x xs ih => intro a; rw [List.foldl_cons, ih, List.any_cons, ← Bool.or_assoc]; rfl
  rw [orFlags, hacc, Bool.false_or]

theorem Core.deliver_nil (c : Core) (a : Nat) : c.deliver a [] = c := rfl

theorem getD_map_range {α : Type} (g : Nat → α) {n i : Nat} (d : α) (hi : i < n) : ((List.range n).map g).getD i d = g i := by
  simp [List.getD_eq_getElem?_getD, hi]

/-! ## Vector operations (R107, R108) -/

/-- The bits of an element, and the elements of a tensor register (R108). -/
theorem vecFmt_width (bf : Bool) : (vecFmt bf).width = if bf then 16 else 32 := by cases bf <;> rfl

theorem vecCount_eq (bf : Bool) : vecCount bf = if bf then 1024 else 512 := rfl

/-- A vector operation has left `op i` in element `i` of its destination, with its tokens and the flag INVALID, and gone on. -/
def VecGave (w f u : Nat) (bf : Bool) (td : Nat) (op : Nat → Nat × Flg) (s t : State) : Prop :=
  (∀ i < (if bf then 1024 else 512), (t.core w f u).elem (tensorBase td) (if bf then 16 else 32) i = (op i).1 % 2 ^ (if bf then 16 else 32)) ∧
    (t.core w f u).pc = (s.core w f u).pc + 1 ∧
    t.rd CORE_TOKENS_COUNT w (coreIdx f u) = (s.rd CORE_TOKENS_COUNT w (coreIdx f u) + 8) % 2 ^ CORE_TOKENS_COUNT.width ∧
    (t.core w f u).invalid = ((s.core w f u).invalid || (List.range (if bf then 1024 else 512)).any fun i => (op i).2.invalid) ∧ (t.core w f u).g = (s.core w f u).g

/-- Packed results written to a tensor register. -/
theorem writeTensor_gives {w f u : Nat} (td : Nat) (bf : Bool) {s : State} (op : Nat → Nat × Flg) (h : (s.core w f u).spadPoison = []) :
    VecGave w f u bf td op s (writeTensor w f u td (packBits (vecFmt bf).width (((List.range (vecCount bf)).map op).map (·.1))) (orFlags ((List.range (vecCount bf)).map op))
      vecTokens s) := by
  rw [vecFmt_width, vecCount_eq]
  generalize hnb : (if bf then 16 else 32) = nb
  have hnb33 : nb ≤ 33 := by rw [← hnb]; split <;> decide
  generalize hn : (if bf then 1024 else 512) = n
  unfold VecGave
  rw [hnb, hn, core_writeTensor]
  obtain ⟨m, hm⟩ := (s.core w f u).deliver_eq (tensorBase td) (packBits nb (((List.range n).map op).map (·.1))) h
  refine ⟨fun i hi => ?_, rfl, rd_tokens_writeTensor .., ?_, by rw [Core.flagged_g, hm]⟩
  · rw [Core.flagged_elem, Core.elem_deliver_packBits _ h hnb33 (by simpa using hi), List.map_map, getD_map_range _ _ hi]
    rfl
  · rw [Core.flagged_invalid, hm, orFlags_invalid, List.any_map]
    rfl

theorem VecGave.of_begun {w f u td : Nat} {bf : Bool} {op : Nat → Nat × Flg} {s t : State} (h : VecGave w f u bf td op (s.begun w f u) t) : VecGave w f u bf td op s t := by
  unfold VecGave at h ⊢
  rwa [State.core_begun, State.rd_tokens_begun] at h

/-- An element-wise vector operation on sound tensor registers (R108). -/
theorem completes_vecOp {c : Instr} {w f u td : Nat} {bf : Bool} {srcs : List Nat} {op : List Nat → Nat × Flg} {s : State}
    (hexec : exec c s = .next (issue w f u (vecOp w f u bf td srcs op) s)) (h : s.issues w f u = true) (hp : (s.core w f u).spadPoison = []) :
    Completes c s (VecGave w f u bf td (fun i => op (srcs.map fun t => (s.core w f u).elem (tensorBase t) (if bf then 16 else 32) i)) s) := by
  have hp' : ((s.begun w f u).core w f u).spadPoison = [] := by rw [State.core_begun]; exact hp
  have hbody : vecOp w f u bf td srcs op (s.begun w f u) = _ := tensorChecked_sound _ _ hp'
  refine completes_of_issue hexec h rfl ?_ ?_
  · rw [hbody, stepping_writeTensor _ _ _ _ hp', State.core_begun]
    rfl
  · rw [hbody]
    have hgives := writeTensor_gives td bf (fun i => op (srcs.map fun t => ((s.begun w f u).core w f u).elem (tensorBase t) (vecFmt bf).width i)) hp'
    simp only [State.core_begun, Core.begun_elem, vecFmt_width] at hgives ⊢
    exact hgives.of_begun

/-- An operation on the elements of one tensor register. -/
theorem completes_vecOp_one {c : Instr} {w f u td ta : Nat} {bf : Bool} {s : State} (op : Nat → Nat × Flg)
    (hexec : exec c s = .next (issue w f u (vecOp w f u bf td [ta] fun x => op (x.getD 0 0)) s)) (h : s.issues w f u = true) (hp : (s.core w f u).spadPoison = []) :
    Completes c s (VecGave w f u bf td (fun i => op ((s.core w f u).elem (tensorBase ta) (if bf then 16 else 32) i)) s) := completes_vecOp hexec h hp

/-- An operation on the elements of the same index of two tensor registers. -/
theorem completes_vecOp_two {c : Instr} {w f u td ta tb : Nat} {bf : Bool} {s : State} (op : Nat → Nat → Nat × Flg)
    (hexec : exec c s = .next (issue w f u (vecOp w f u bf td [ta, tb] fun x => op (x.getD 0 0) (x.getD 1 0)) s)) (h : s.issues w f u = true)
    (hp : (s.core w f u).spadPoison = []) :
    Completes c s (VecGave w f u bf td (fun i => op ((s.core w f u).elem (tensorBase ta) (if bf then 16 else 32) i)
      ((s.core w f u).elem (tensorBase tb) (if bf then 16 else 32) i)) s) := completes_vecOp hexec h hp

/-- A reduction leaves the sum over the pairwise tree in element 0 (R108). -/
theorem completes_vecReduce {w : WaferId} {f : FieldId} {u : UnitId} (bf : Bool) (td ta : Fin 8) {s : State} (h : s.issues w f u = true)
    (hp : (s.core w f u).spadPoison = []) : Completes (.vecReduce w f u bf td ta) s fun t =>
      (t.core w f u).elem (tensorBase td) (if bf then 16 else 32) 0 =
        (treeSumF bf 11 ((List.range (if bf then 1024 else 512)).map fun i => (s.core w f u).elem (tensorBase ta) (if bf then 16 else 32) i) {}).1 % 2 ^ (if bf then 16 else 32) ∧
      (t.core w f u).pc = (s.core w f u).pc + 1 := by
  have hp' : ((s.begun w f u).core w f u).spadPoison = [] := by rw [State.core_begun]; exact hp
  have hbody : vecReduce w f u bf td ta (s.begun w f u) = _ := tensorChecked_sound _ _ hp'
  refine completes_of_issue rfl h rfl ?_ ?_
  · rw [hbody, stepping_writeTensor _ _ _ _ hp', State.core_begun]
    rfl
  · rw [hbody, core_writeTensor]
    refine ⟨?_, by rw [State.core_begun]; rfl⟩
    simp only [Core.vec, State.core_begun, Core.begun_elem, vecFmt_width, vecCount_eq]
    generalize (treeSumF bf 11 _ {}) = r
    rw [Core.flagged_elem, Core.elem_deliver (nb := if bf then 16 else 32) (s.core w f u).begun hp (by split <;> decide) (by rw [leBytes_length]; cases bf <;> decide),
      ofLeBytes_leBytes]
    cases bf <;> simp

/-! ## The matrix step (R98-R101) -/

@[simp] theorem Core.begun_block (c : Core) (base : Nat) (x : Fmt) (r b : Nat) : c.begun.block base x r b = c.block base x r b := rfl

@[simp] theorem Core.begun_scale (c : Core) (base : Nat) (x : Fmt) (r b : Nat) : c.begun.scale base x r b = c.scale base x r b := rfl

theorem Core.begun_mma (c : Core) (xa xb : Fmt) (pair ta tb : Nat) : c.begun.mma xa xb pair ta tb = c.mma xa xb pair ta tb := by
  simp only [Core.mma, Core.mmaElem, Core.begun_block, Core.begun_scale, Core.begun_bytes]

/-- Element `j` of row `i` of C after a matrix step (R100). -/
theorem Core.mma_getD (c : Core) (xa xb : Fmt) (pair ta tb : Nat) {i j : Nat} (hi : i < 24) (hj : j < 32) : ((c.mma xa xb pair ta tb).map (·.1)).getD (32 * i + j) 0 =
    (c.mmaElem xa xb (tensorBase ta) (tensorBase tb) i j (c.elem (tensorBase (2 * pair)) 32 (32 * i + j))).1 := by
  rw [Core.mma, List.map_map, getD_map_range _ _ (by omega), Core.elem_word, Function.comp_apply, show (32 * i + j) / 32 = i by omega, show (32 * i + j) % 32 = j by omega]

theorem fmtTokens_eq (x : Fmt) : fmtTokens x = if x = .bf16 ∨ x = .fp16 then 64 else 32 := by cases x <;> rfl

/-- The state in which an allowed matrix step writes C: the operations are counted. -/
def mmaCounted (w f u : Nat) (xa : Fmt) (s : State) : State := s.modCore w f u fun c => { c with ops := c.ops + 2 * 768 * fmtK xa }

/-- In MATRIX mode an allowed pairing and register use writes C and counts the format's tokens (R98-R101). -/
theorem mma_allowed {w f u pair ta tb : Nat} {xa xb : Fmt} {s : State} (hp : (s.core w f u).spadPoison = []) (hmode : bitAt (s.core w f u).mode 0 = false)
    (hpair : fmtPair xa xb = true) (ha : ta / 2 ≠ pair) (hb : tb / 2 ≠ pair) : mma w f u xa xb pair ta tb s =
      writeTensor w f u (2 * pair) (((s.core w f u).mma xa xb pair ta tb).flatMap fun r => leBytes 4 r.1) (orFlags ((s.core w f u).mma xa xb pair ta tb)) (fmtTokens xa)
        (mmaCounted w f u xa s) := by
  unfold mma
  simp only [hmode, hpair, Bool.false_eq_true, if_false, Bool.not_true, Bool.false_or, beq_iff_eq, Bool.or_eq_true, ha, hb, or_self]
  exact tensorChecked_sound _ _ hp

/-! ## Conversions (R104) -/

theorem cvtBits_le (x : CvtFmt) : cvtBits x ≤ 33 := by cases x <;> decide

theorem Core.begun_cvt (c : Core) (src dst : CvtFmt) (ta sh : Nat) : c.begun.cvt src dst ta sh = c.cvt src dst ta sh := rfl

/-- The result of element `i` of a conversion to a format without scales (R104). -/
def Core.cvtResult (c : Core) (src dst : CvtFmt) (ta sh i : Nat) : Nat × Flg :=
  cvtOut dst (bitAt c.mode 1) sh (c.elem (tensorBase ta) (cvtBits src) i) (c.cvtIn src (tensorBase ta) i)

theorem Core.cvt_unscaled (c : Core) {src dst : CvtFmt} (ta sh : Nat) (hmx : cvtMx dst = none) : c.cvt src dst ta sh =
    (packBits (cvtBits dst) (((List.range 512).map (c.cvtResult src dst ta sh)).map (·.1)), [], orFlags ((List.range 512).map (c.cvtResult src dst ta sh))) := by
  unfold Core.cvt
  rw [hmx]
  simp only [List.map_map]
  rfl

/-- A legal conversion to a format without scales is one delivery (R104). -/
theorem core_cvt {w f u ta sh : Nat} (td : Nat) {src dst : CvtFmt} {s : State} {bs : List Nat} {fl : Flg} (hp : (s.core w f u).spadPoison = [])
    (hlegal : cvtLegal src dst = true) (hcvt : (s.core w f u).cvt src dst ta sh = (bs, [], fl)) :
    (cvt w f u src dst td ta sh s).core w f u = ((s.core w f u).deliver (tensorBase td) bs).flagged fl ((s.core w f u).pc + 1) := by
  obtain ⟨m, hm⟩ := (s.core w f u).deliver_eq (tensorBase td) bs hp
  unfold cvt
  rw [hlegal, Bool.not_true, if_neg Bool.false_ne_true, tensorChecked_sound _ _ hp, hcvt, State.core_openTokens, State.core_modCore, Core.deliver_nil, hm]
  rfl

/-! ## The commands -/

section
variable {w : WaferId} {f : FieldId} {u : UnitId} {s : State} (h : s.issues w f u = true) (hp : (s.core w f u).spadPoison = [])
include h hp

theorem completes_mma {xa xb : Fmt} {pair : Fin 4} {ta tb : Fin 8} (hmode : bitAt (s.core w f u).mode 0 = false) (hpair : fmtPair xa xb = true)
    (ha : ta.val / 2 ≠ pair.val) (hb : tb.val / 2 ≠ pair.val) : Completes (.mma w f u xa xb pair ta tb) s fun t =>
      (∀ i < 24, ∀ j < 32, (t.core w f u).elem (tensorBase (2 * pair)) 32 (32 * i + j) =
        ((s.core w f u).mmaElem xa xb (tensorBase ta) (tensorBase tb) i j ((s.core w f u).elem (tensorBase (2 * pair)) 32 (32 * i + j))).1 % 2 ^ 32) ∧
      (t.core w f u).pc = (s.core w f u).pc + 1 ∧
      t.rd CORE_TOKENS_COUNT w (coreIdx f u) =
        (s.rd CORE_TOKENS_COUNT w (coreIdx f u) + (if xa = .bf16 ∨ xa = .fp16 then 64 else 32)) % 2 ^ CORE_TOKENS_COUNT.width := by
  have hbegun := s.core_begun w f u
  have hcounted : (mmaCounted w f u xa (s.begun w f u)).core w f u = { (s.core w f u).begun with ops := (s.core w f u).ops + 2 * 768 * fmtK xa } := by
    rw [mmaCounted, State.core_modCore, hbegun]
    rfl
  have hp' : ((mmaCounted w f u xa (s.begun w f u)).core w f u).spadPoison = [] := by rw [hcounted]; exact hp
  have hbody := mma_allowed (xa := xa) (xb := xb) (pair := pair) (ta := ta) (tb := tb) (s := s.begun w f u) (by rw [hbegun]; exact hp) (by rw [hbegun]; exact hmode) hpair ha hb
  rw [hbegun, Core.begun_mma] at hbody
  refine completes_of_issue rfl h rfl ?_ ?_
  · rw [hbody, stepping_writeTensor _ _ _ _ hp', hcounted]
    rfl
  · rw [hbody]
    refine ⟨fun i hi j hj => ?_, ?_, ?_⟩
    · have hlen : 32 * i + j < (((s.core w f u).mma xa xb pair ta tb).map (·.1)).length := by simp only [Core.mma, List.length_map, List.length_range]; omega
      have hwords := Core.elem_deliver_words (base := tensorBase (2 * pair)) _ hp' hlen
      rw [Core.mma_getD _ _ _ _ _ _ hi hj, List.flatMap_map] at hwords
      rw [core_writeTensor, Core.flagged_elem, hwords]
    · rw [core_writeTensor, hcounted]
      rfl
    · rw [rd_tokens_writeTensor, mmaCounted, State.rd_modCore _ _ _ _ _ _ _ (by decide), State.rd_tokens_begun, fmtTokens_eq]

theorem completes_cvt {src dst : CvtFmt} {td ta : Fin 8} {shift : Fin 32} (hlegal : cvtLegal src dst = true) (hmx : cvtMx dst = none) :
    Completes (.cvt w f u src dst td ta shift) s fun t => (t.core w f u).pc = (s.core w f u).pc + 1 ∧
      ∀ i < 512, (t.core w f u).elem (tensorBase td) (cvtBits dst) i =
        (cvtOut dst (bitAt (s.core w f u).mode 1) shift ((s.core w f u).elem (tensorBase ta) (cvtBits src) i) ((s.core w f u).cvtIn src (tensorBase ta) i)).1 % 2 ^ cvtBits dst := by
  have hbegun := s.core_begun w f u
  have hcore := core_cvt (s := s.begun w f u) td (by rw [hbegun]; exact hp) hlegal (by rw [hbegun, Core.begun_cvt]; exact (s.core w f u).cvt_unscaled ta shift hmx)
  rw [hbegun] at hcore
  refine completes_of_issue rfl h hcore (by rw [Core.flagged_stepping, stepping_deliver (s.core w f u).begun _ _ hp]; rfl) ⟨by rw [hcore, Core.flagged_pc]; rfl, fun i hi => ?_⟩
  rw [hcore, Core.flagged_elem, Core.elem_deliver_packBits (s.core w f u).begun hp (cvtBits_le dst) (by simpa using hi), List.map_map, getD_map_range _ _ hi]
  rfl

end

end Sys2Proof.Machine

open Sys2Proof Sys2Proof.Machine

/-- Settles O11: each unit's operation packs its results into the bytes of one delivery, and an element read of them is its result. -/
theorem vectorAndMatrixUnits : Obligations.VectorAndMatrixUnits := by
  refine ⟨fun w f u bf td ta tb tc s h hp => ?_, fun w f u s h hp =>
    ⟨fun xa xb pair ta tb hmode hpair ha hb => completes_mma h hp hmode hpair ha hb, fun src dst td ta shift hlegal hmx => completes_cvt h hp hlegal hmx⟩⟩
  exact ⟨completes_vecOp_two (vecAdd bf) rfl h hp, completes_vecOp_two (vecSub bf) rfl h hp, completes_vecOp_two (vecMul bf) rfl h hp,
    completes_vecOp (srcs := [ta, tb, tc]) (op := fun x => vecFma bf (x.getD 0 0) (x.getD 1 0) (x.getD 2 0)) rfl h hp,
    completes_vecOp_two (vecPick true bf) rfl h hp, completes_vecOp_two (vecPick false bf) rfl h hp, completes_vecOp_two (vecCmp bf) rfl h hp,
    completes_vecOp_one (vecExp2 bf) rfl h hp, completes_vecOp_one (vecRecip bf) rfl h hp, completes_vecOp_one (vecRsqrt bf) rfl h hp, completes_vecReduce bf td ta h hp⟩

end

section
/-!
PROOF. Loads and stores of the scratchpad (R109, R351).
-/
set_option Elab.async false
namespace Sys2Proof.Machine

/-! ## Checked accesses of a sound scratchpad -/

theorem readChecked_sound {w f u : Nat} (a n : Nat) {s : State} (k : State → State) (h : (s.core w f u).spadPoison = []) : readChecked w f u a n .good s k = k s := by
  have hnone : ((wordsOf a n).find? fun x => (s.core w f u).spadPoison.contains x) = none := by simp [h]
  simp only [readChecked, hnone]

theorem writeChecked_sound {w f u : Nat} (a : Nat) (bs : List Nat) {s : State} (k : State → State) (h : (s.core w f u).spadPoison = []) :
    writeChecked w f u a bs .good s k = k (s.modCore w f u fun c => c.deliver a bs) := by
  have hnone : ((partWords a bs.length).find? fun x => (s.core w f u).spadPoison.contains x) = none := by simp [h]
  simp only [writeChecked, hnone]

/-- What leaves the watchpoints' registers alone leaves their matches. -/
theorem Keeps.watchAt {m : Nat} {s t : State} (h : Keeps m s t) (haddr : m.testBit (64 + DBG_WP_ADDR.id) = false) (hcfg : m.testBit (64 + DBG_WP_CFG.id) = false)
    (w f u a n kind : Nat) : t.watchAt w f u a n kind = s.watchAt w f u a n kind := by
  have hbase := fun i => h.rd DBG_WP_ADDR_BASE w i (by decide) haddr
  have hfield := fun (y : Fld) (hy : y.reg = DBG_WP_CFG) i => h.rd y w i (by rw [hy]; decide) (by rw [hy]; exact hcfg)
  simp only [State.watchAt, hbase, hfield DBG_WP_CFG_ENABLE rfl, hfield DBG_WP_CFG_KIND rfl, hfield DBG_WP_CFG_LEN rfl]

/-- An access that no watchpoint matches ends as it is (R713). -/
theorem watched_none {w f u a n kind : Nat} {s : State} (h : s.watchAt w f u a n kind = none) : watched w f u a n kind s = s := by rw [watched, h]

/-- The mask of a core's write and of the count of its tokens. -/
def coreMask : Nat := regBit CORE_STAT ||| regBit CORE_TOKENS ||| 0x200

theorem State.begun_keeps (s : State) (w f u : Nat) : Keeps coreMask s (s.begun w f u) := (s.modCore_keeps w f u _).widen (by decide +kernel)

/-- An access whose write of the core is all it does, and that no watchpoint matches. -/
theorem watched_begun {w f u a n kind : Nat} {s t : State} (h : s.watchAt w f u a n kind = none) (ht : Keeps coreMask (s.begun w f u) t) : watched w f u a n kind t = t :=
  watched_none (((ht.next (by decide +kernel) (s.begun_keeps w f u)).watchAt (by decide +kernel) (by decide +kernel) ..).trans h)

/-! ## What a store leaves -/

/-- A core has gone on with the bytes `bs` at `a` in its scratchpad and every other byte and register as before. -/
def Landed (a : Nat) (bs : List Nat) (c c' : Core) : Prop :=
  c'.pc = c.pc + 1 ∧ c'.g = c.g ∧ (∀ k < bs.length, c'.byte (a + k) = bs.getD k 0 % 256) ∧ ∀ b, b < a ∨ a + bs.length ≤ b → c'.byte b = c.byte b

theorem landed_deliver {c : Core} (a : Nat) (bs : List Nat) (h : c.spadPoison = []) : Landed a bs c { c.begun.deliver a bs with pc := c.pc + 1 } := by
  obtain ⟨m, hm⟩ := c.begun.deliver_eq a bs h
  exact ⟨rfl, by rw [hm]; rfl, fun k hk => c.begun.byte_deliver_inside a bs h hk, fun b hb => c.begun.byte_deliver_outside a bs h hb⟩

theorem leBytes_lt (n v : Nat) : ∀ x ∈ leBytes n v, x < 256 := by
  induction n generalizing v with
  | zero => simp [leBytes]
  | succ n ih =>
    simp only [leBytes, List.mem_cons, forall_eq_or_imp]
    exact ⟨Nat.mod_lt _ (by decide), ih _⟩

/-- The bytes that have landed read as they were written. -/
theorem Landed.bytes {a : Nat} {bs : List Nat} {c c' : Core} (h : Landed a bs c c') (hbs : ∀ x ∈ bs, x < 256) : c'.bytes a bs.length = bs := by
  obtain ⟨-, -, hin, -⟩ := h
  refine List.ext_getElem (c'.bytes_length a _) fun k _ hk => ?_
  have hread := hin k hk
  rw [List.getD_eq_getElem _ _ hk, Nat.mod_eq_of_lt (hbs _ (List.getElem_mem hk))] at hread
  simpa [Core.bytes] using hread

/-- A copy of `n` bytes that has landed. -/
theorem Landed.copy {dst src n : Nat} {c c' : Core} (h : Landed dst (c.bytes src n) c c') : c'.pc = c.pc + 1 ∧ c'.g = c.g ∧
    (∀ i < n, c'.byte (dst + i) = c.byte (src + i)) ∧ ∀ b, b < dst ∨ dst + n ≤ b → c'.byte b = c.byte b := by
  obtain ⟨hpc, hg, hin, hout⟩ := h
  rw [Core.bytes_length] at hin hout
  refine ⟨hpc, hg, fun i hi => ?_, hout⟩
  rw [hin i hi, c.bytes_getD _ hi, Nat.mod_eq_of_lt (c.byte_lt _)]

/-- An instruction whose effect on its core is one delivery. -/
theorem completes_landed {i : Instr} {s : State} {w f u a : Nat} {bs : List Nat} {body : State → State} (hexec : exec i s = .next (issue w f u body s))
    (h : s.issues w f u = true) (hp : (s.core w f u).spadPoison = [])
    (hcore : (body (s.begun w f u)).core w f u = { (s.core w f u).begun.deliver a bs with pc := (s.core w f u).pc + 1 }) :
    Completes i s fun t => Landed a bs (s.core w f u) (t.core w f u) :=
  completes_of_issue hexec h hcore (stepping_deliver (s.core w f u).begun a bs hp) (by rw [hcore]; exact landed_deliver a bs hp)

/-! ## The commands -/

section
variable {w : WaferId} {f : FieldId} {u : UnitId} {addr : Word32} {s : State} (h : s.issues w f u = true) (hp : (s.core w f u).spadPoison = [])
include h hp

theorem completes_ld {rd : Fin 32} (hacc : accessible addr.toNat 4 = true) (hwatch : s.watchAt w f u addr.toNat 4 1 = none) :
    Completes (.ld w f u rd addr .good) s fun t => t.core w f u = ((s.core w f u).setReg rd (ofLeBytes ((s.core w f u).bytes addr.toNat 4))).went := by
  have hbegun := s.core_begun w f u
  have hbody : load w f u rd addr.toNat .good (s.begun w f u) = writeReg w f u rd (ofLeBytes ((s.core w f u).bytes addr.toNat 4)) (s.begun w f u) := by
    unfold load
    rw [hacc, Bool.not_true, if_neg Bool.false_ne_true, readChecked_sound _ _ _ (by rw [hbegun]; exact hp), hbegun, Core.begun_bytes,
      watched_begun hwatch ((writeReg_keeps ..).widen (by decide +kernel))]
  have hcore := core_writeReg_begun w f u rd (ofLeBytes ((s.core w f u).bytes addr.toNat 4)) s
  rw [← hbody] at hcore
  exact completes_of_issue rfl h hcore (Core.setReg_stepping _ _ _) hcore

omit h in
/-- What a store does once its bytes are written: it goes on. -/
theorem core_stored {a n : Nat} {bs : List Nat} (hwatch : s.watchAt w f u a n 2 = none) :
    (watched w f u a n 2 (openTokens w f u (advance w f u ((s.begun w f u).modCore w f u fun c => c.deliver a bs)))).core w f u =
      { (s.core w f u).begun.deliver a bs with pc := (s.core w f u).pc + 1 } := by
  obtain ⟨m, hm⟩ := (s.core w f u).begun.deliver_eq a bs hp
  rw [watched_begun hwatch (.next (openTokens_keeps ..) (by decide +kernel) (.next (advance_keeps ..) (by decide +kernel) (.widen (State.modCore_keeps ..) (by decide +kernel)))),
    State.core_openTokens, advance, State.core_modCore, State.core_modCore, s.core_begun, hm]
  rfl

theorem completes_st {rs : Fin 32} (hacc : accessible addr.toNat 4 = true) (hwatch : s.watchAt w f u addr.toNat 4 2 = none) :
    Completes (.st w f u rs addr .good) s fun t => Landed addr.toNat (leBytes 4 ((s.core w f u).reg rs)) (s.core w f u) (t.core w f u) := by
  have hbegun := s.core_begun w f u
  refine completes_landed rfl h hp ?_
  unfold store
  rw [hacc, Bool.not_true, if_neg Bool.false_ne_true, writeChecked_sound _ _ _ (by rw [hbegun]; exact hp), hbegun, Core.begun_reg]
  exact core_stored hp hwatch

theorem completes_tld {td : Fin 8} (hacc : accessible addr.toNat 0x800 = true) (hwatch : s.watchAt w f u addr.toNat 0x800 1 = none) :
    Completes (.tld w f u td addr .good) s fun t => Landed (tensorBase td) ((s.core w f u).bytes addr.toNat 0x800) (s.core w f u) (t.core w f u) := by
  have hbegun := s.core_begun w f u
  refine completes_landed rfl h hp ?_
  unfold loadTensor
  rw [hacc, Bool.not_true, if_neg Bool.false_ne_true, readChecked_sound _ _ _ (by rw [hbegun]; exact hp),
    watched_begun hwatch (.next (openTokens_keeps ..) (by decide +kernel) (.widen (State.modCore_keeps ..) (by decide +kernel))),
    State.core_openTokens, State.core_modCore, hbegun, Core.begun_bytes]
  rfl

theorem completes_tst {ts : Fin 8} (hacc : accessible addr.toNat 0x800 = true) (hwatch : s.watchAt w f u addr.toNat 0x800 2 = none) :
    Completes (.tst w f u ts addr .good) s fun t => Landed addr.toNat ((s.core w f u).bytes (tensorBase ts) 0x800) (s.core w f u) (t.core w f u) := by
  have hbegun := s.core_begun w f u
  have hp' : ((s.begun w f u).core w f u).spadPoison = [] := by rw [hbegun]; exact hp
  refine completes_landed rfl h hp ?_
  unfold storeTensor
  rw [hacc, Bool.not_true, if_neg Bool.false_ne_true, tensorChecked_sound _ _ hp', writeChecked_sound _ _ _ hp', hbegun, Core.begun_bytes]
  exact core_stored hp hwatch

end

end Sys2Proof.Machine

open Sys2Proof Sys2Proof.Machine

/-- Settles O12: a load of a register is one register write, and each of the others one delivery of the bytes it moves. -/
theorem localMemory : Obligations.LocalMemory := by
  refine fun w f u r tr addr s h hp => ⟨fun hacc hwatch => completes_ld h hp hacc hwatch, fun hacc hwatch => ?_,
    fun hacc hwatch => (completes_tld h hp hacc hwatch).imp fun t ht => ht.copy, fun hacc hwatch => (completes_tst h hp hacc hwatch).imp fun t ht => ht.copy⟩
  refine (completes_st h hp hacc hwatch).imp fun t ht => ?_
  have hbytes := ht.bytes (leBytes_lt _ _)
  obtain ⟨hpc, hg, -, hout⟩ := ht
  rw [leBytes_length] at hbytes hout
  exact ⟨hpc, hg, hbytes, hout⟩

end

section
/-!
PROOF. The messages of a core: LGET, SEND, FETCH and SIGNAL (R96, R123, R144, R153, R215).
-/
set_option Elab.async false
namespace Sys2Proof.Machine

/-! ## Queues for injection -/

/-- A packet goes to the end of its partition's queue (R153). -/
theorem niQueue_enqueue (w f : Nat) (q : Packet) (s : State) : (enqueue w f q s).niQueue w f q.spart = s.niQueue w f q.spart ++ [q] := by
  unfold State.niQueue enqueue
  rw [State.getInjects_putInjects, if_pos rfl, mget_mset, if_pos rfl]

theorem core_enqueue (w f : Nat) (q : Packet) (s : State) (x y z : Nat) : (enqueue w f q s).core x y z = s.core x y z :=
  (enqueue_keeps w f q s).getCores (by decide +kernel) _

/-- Packets of one partition go to the end of its queue in their order. -/
theorem niQueue_forEach_enqueue (w f p : Nat) (ps : List Packet) (s : State) (hps : ∀ q ∈ ps, q.spart = p) :
    (forEach ps s (enqueue w f)).niQueue w f p = s.niQueue w f p ++ ps := by
  induction ps generalizing s with
  | nil => exact (List.append_nil _).symm
  | cons q ps ih =>
    obtain ⟨hq, hrest⟩ := List.forall_mem_cons.mp hps
    have hqueue := niQueue_enqueue w f q s
    rw [hq] at hqueue
    exact (ih (enqueue w f q s) hrest).trans (by rw [hqueue, List.append_assoc, List.singleton_append])

theorem core_forEach_enqueue (w f : Nat) (ps : List Packet) (s : State) (x y z : Nat) : (forEach ps s (enqueue w f)).core x y z = s.core x y z :=
  (forEach_keeps (M := 0x80000) (fun q t => enqueue_keeps w f q t) ps (.refl _ s)).getCores (by decide +kernel) _

/-! ## Segments -/

/-- Segment `i` of a message (R144). -/
def segment (p : Packet) (bs : List Nat) (i : Nat) : Packet := { p with addr := p.addr + 512 * i, payload := (bs.drop (512 * i)).take 512 }

theorem segmentFrom_eq (fuel : Nat) (p : Packet) (bs : List Nat) (hne : 1 ≤ bs.length) (hfuel : bs.length ≤ 512 * fuel) :
    segmentFrom fuel p bs = (List.range ((bs.length + 511) / 512)).map (segment p bs) := by
  induction fuel generalizing p bs with
  | zero => omega
  | succ n ih =>
    rw [segmentFrom]
    by_cases hlast : bs.length ≤ 512
    · rw [if_pos hlast, show (bs.length + 511) / 512 = 1 by omega]
      rfl
    · have hlen : (bs.drop 512).length = bs.length - 512 := List.length_drop
      rw [if_neg hlast, ih _ _ (by omega) (by omega), show (bs.length + 511) / 512 = ((bs.drop 512).length + 511) / 512 + 1 by omega, List.range_succ_eq_map,
        List.map_cons, List.map_map]
      refine congrArg₂ List.cons rfl (List.map_congr_left fun i _ => ?_)
      simp only [segment, Function.comp_apply, List.drop_drop, Nat.succ_eq_add_one, Nat.mul_succ, Nat.add_assoc, Nat.add_comm 512]

/-- A message is cut into segments of 512 bytes (R144). -/
theorem segmentMsg_eq (p : Packet) (bs : List Nat) (hne : 1 ≤ bs.length) : segmentMsg p bs = (List.range ((bs.length + 511) / 512)).map (segment p bs) :=
  segmentFrom_eq _ p bs hne (by omega)

theorem segmentMsg_word (p : Packet) (v : Nat) : segmentMsg p (leBytes 4 v) = [{ p with payload := leBytes 4 v }] := rfl

theorem segmentMsg_spart (p : Packet) (bs : List Nat) (hne : 1 ≤ bs.length) : ∀ q ∈ segmentMsg p bs, q.spart = p.spart := by
  rw [segmentMsg_eq p bs hne]
  intro q hq
  obtain ⟨i, -, rfl⟩ := List.mem_map.mp hq
  rfl

/-! ## Seats -/

section
variable {s t : State} (h : Keeps coreMask s t)
include h

theorem Keeps.chart (w i : Nat) : t.reg NET_SEAT_DATA w i = s.reg NET_SEAT_DATA w i := h.regs _ w i (by decide) (by decide +kernel)

theorem Keeps.segs (w p : Nat) : t.segs false w p = s.segs false w p := by
  simp only [State.segs, State.seatCount, h.chart, Bool.false_eq_true, if_false]

theorem Keeps.seatUnit (w : Nat) (g : Seg) (r : Nat) : t.seatUnit w g r = s.seatUnit w g r := by
  have hroute := fun i => h.regs NET_RT_DATA w i (by decide) (by decide +kernel)
  have hstamp := h.rd NET_ACT_STAT_STAMP w 0 (by decide) (by decide +kernel)
  have hskip : ∀ slot field c, t.skipMap w slot field c = s.skipMap w slot field c := fun slot field c => by
    simp only [State.skipMap, State.route, State.stamp, hroute, hstamp]
  unfold State.seatUnit
  simp only [hskip]

/-- A write of a core leaves the seats of the charts (R215). -/
theorem Keeps.seatOf (w p r : Nat) : t.seatOf w p r = s.seatOf w p r := by
  unfold State.seatOf State.nRanks
  rw [h.chart, h.segs]
  simp only [h.seatUnit]

end

/-! ## Messages -/

/-- A core has gone on with the packets `ps` at the end of its partition's queue. -/
def Queued (w f u p : Nat) (ps : List Packet) (s t : State) : Prop := t.core w f u = (s.core w f u).went ∧ t.niQueue w f p = s.niQueue w f p ++ ps

/-- An instruction whose effect is to queue packets. -/
theorem completes_queued {i : Instr} {s : State} {w f u p : Nat} {ps : List Packet} {body : State → State} (hexec : exec i s = .next (issue w f u body s))
    (h : s.issues w f u = true) (hps : ∀ q ∈ ps, q.spart = p)
    (hbody : body (s.begun w f u) = openTokens w f u (advance w f u (forEach ps (s.begun w f u) (enqueue w f)))) : Completes i s (Queued w f u p ps s) := by
  have hcore : (body (s.begun w f u)).core w f u = (s.core w f u).went := by
    rw [hbody, State.core_openTokens, advance, State.core_modCore, core_forEach_enqueue, State.core_begun]
    rfl
  refine completes_of_issue hexec h hcore rfl ⟨hcore, ?_⟩
  rw [hbody, State.niQueue_openTokens, advance, State.modCore, State.niQueue_setCore, niQueue_forEach_enqueue w f p ps _ hps, State.begun, State.modCore, State.niQueue_setCore]

theorem lenOk_of {n : Nat} (h4 : 4 ≤ n) (hmax : n ≤ 4096) (hmod : n % 4 = 0) : lenOk n = true := by simp [lenOk, h4, hmax, hmod]

theorem toRank_seated {w f u p rank d : Nat} {s : State} (k : Nat → State → State) (hpart : (s.core w f u).part = some p) (hseat : s.seatOf w p rank = some d) :
    toRank w f u rank s k = k d s := by
  simp only [toRank, hpart, hseat]

/-- An instruction to a rank that has a seat addresses the seat (R96, R215). -/
theorem toRank_begun {w f u p rank d : Nat} {s : State} (k : Nat → State → State) (hpart : (s.core w f u).part = some p) (hseat : s.seatOf w p rank = some d) :
    toRank w f u rank (s.begun w f u) k = k d (s.begun w f u) :=
  toRank_seated k ((congrArg Core.part (s.core_begun w f u)).trans hpart) (((s.begun_keeps w f u).seatOf w p rank).trans hseat)

theorem Core.spart_of_part {c : Core} {p : Nat} (h : c.part = some p) : c.spart = p := by rw [Core.spart, h]; rfl

section
variable {w : WaferId} {f : FieldId} {u : UnitId} {p : Nat} {s : State} (h : s.issues w f u = true) (hpart : (s.core w f u).part = some p)
include h hpart

theorem completes_lget {dest : BitVec 23} {off : BitVec 40} {ret : Word32} {len : BitVec 16} (hlen : lenOk len.toNat = true) (hret : accessible ret.toNat len.toNat = true) :
    Completes (.lget w f u dest off ret len) s (Queued w f u p
      [{ typ := 4, dest := dest.toNat, src := physAddr w f u, spart := p, addr := off.toNat, aux := len.toNat / 4 - 1, payload := leBytes 4 ret.toNat }] s) := by
  refine completes_queued rfl h (by simp) ?_
  unfold lget
  rw [hlen, hret, s.core_begun, Core.begun_spart, Core.spart_of_part hpart]
  rfl

theorem completes_fetch_peer {rank addr ret : Word32} {len : BitVec 16} {d : Nat} (hlen : lenOk len.toNat = true) (haddr : accessible addr.toNat len.toNat = true)
    (hret : accessible ret.toNat len.toNat = true) (hseat : s.seatOf w p rank.toNat = some d) :
    Completes (.fetch w f u rank addr ret len) s (Queued w f u p
      [{ typ := 1, dest := d, src := physAddr w f u, spart := p, addr := addr.toNat, aux := len.toNat / 4 - 1, payload := leBytes 4 ret.toNat }] s) := by
  refine completes_queued rfl h (by simp) ?_
  unfold fetch
  rw [hlen, haddr, hret, Bool.not_true, if_neg Bool.false_ne_true, Bool.or_self, if_neg Bool.false_ne_true, toRank_begun _ hpart hseat, s.core_begun, Core.begun_spart,
    Core.spart_of_part hpart]
  rfl

theorem completes_signal_peer {rank : Word32} {word : Fin 16} {d : Nat} (hseat : s.seatOf w p rank.toNat = some d) :
    Completes (.signal w f u rank word) s (Queued w f u p [{ typ := 3, dest := d, src := physAddr w f u, spart := p, aux := word.val }] s) := by
  refine completes_queued rfl h (by simp) ?_
  unfold signal
  rw [toRank_begun _ hpart hseat, s.core_begun, Core.begun_spart, Core.spart_of_part hpart]
  rfl

theorem completes_send_peer {rank addr src : Word32} {len : BitVec 16} {d : Nat} (hp : (s.core w f u).spadPoison = []) (h1 : 1 ≤ len.toNat) (hlen : lenOk len.toNat = true)
    (haddr : accessible addr.toNat len.toNat = true) (hsrc : accessible src.toNat len.toNat = true) (hseat : s.seatOf w p rank.toNat = some d) :
    Completes (.send w f u rank addr src len) s (Queued w f u p ((List.range ((len.toNat + 511) / 512)).map fun i =>
      { typ := 0, cls := if 256 < len.toNat then 2 else 0, dest := d, src := physAddr w f u, spart := p, addr := addr.toNat + 512 * i
        payload := (((s.core w f u).bytes src.toNat len.toNat).drop (512 * i)).take 512 }) s) := by
  have hbegun := s.core_begun w f u
  have hsegs := segmentMsg_eq { typ := 0, cls := msgClass len.toNat, dest := d, src := physAddr w f u, spart := p, addr := addr.toNat }
    ((s.core w f u).bytes src.toNat len.toNat) (by rw [Core.bytes_length]; exact h1)
  rw [Core.bytes_length] at hsegs
  refine completes_queued rfl h (fun q hq => ?_) ?_
  · obtain ⟨i, -, rfl⟩ := List.mem_map.mp hq
    rfl
  · unfold send
    rw [hlen, haddr, hsrc, Bool.not_true, if_neg Bool.false_ne_true, Bool.or_self, if_neg Bool.false_ne_true, toRank_begun _ hpart hseat,
      readChecked_sound _ _ _ (by rw [hbegun]; exact hp)]
    simp only [hbegun, Core.begun_spart, Core.begun_bytes, Core.spart_of_part hpart, sendMsg, Core.bytes_length, hsegs]
    rfl

end

end Sys2Proof.Machine

open Sys2Proof Sys2Proof.Machine

/-- Settles O13: each of the four queues the segments of one message and goes on. -/
theorem messagesOfACore : Obligations.MessagesOfACore := by
  intro w f u len s p h hpart hp c n queues h4 hmax hmod
  have hlen := lenOk_of h4 hmax hmod
  exact ⟨fun dest off ret hret => completes_lget h hpart hlen hret, fun rank addr ret d haddr hret hseat => completes_fetch_peer h hpart hlen haddr hret hseat,
    fun rank addr src d haddr hsrc hseat => completes_send_peer h hpart hp (Nat.le_trans (by decide) h4) hlen haddr hsrc hseat,
    fun rank word d hseat => completes_signal_peer h hpart hseat⟩

end

section
/-!
PROOF. Deques, tasks and stealing (R116, R117).
-/
set_option Elab.async false
namespace Sys2Proof.Machine

/-! ## What writing a core leaves -/

theorem State.setCore_keepsMask (s : State) (w f u : Nat) (c : Core) : Keeps coreMask s (s.setCore w f u c) := (s.setCore_keeps w f u c).widen (by decide +kernel)

section
variable {s t : State} (h : Keeps coreMask s t)
include h

/-- A write of a core leaves whether a core's group runs (R78, R459, R466). -/
theorem Keeps.coreRuns (w f u : Nat) : t.coreRuns w f u = s.coreRuns w f u := by
  have hskip : ∀ c, t.skipRow w f c = s.skipRow w f c := fun c => by unfold State.skipRow; rw [h.regs BUP_SKIP w _ (by decide) (by decide +kernel)]
  have hrow : t.logicalRow w f u = s.logicalRow w f u := by unfold State.logicalRow; rw [hskip]
  have hdom : ∀ q, t.domState w q = s.domState w q := fun q => h.rd PWR_DOM_STAT_STATE w q (by decide) (by decide +kernel)
  have hdoms := h.getDoms (by decide +kernel)
  have hpark := fun (y : Fld) (hy : y.reg = PWR_PARK) q => h.rd y w q (by rw [hy]; decide) (by rw [hy]; decide +kernel)
  have hdepth : ∀ q k, t.groupDepth w q k = s.groupDepth w q k := fun q k => by
    unfold State.groupDepth
    rw [hpark PWR_PARK_GATE rfl, hpark PWR_PARK_RETAIN rfl]
  unfold State.coreRuns State.quadOfUnit State.groupOfUnit
  rw [hrow]
  simp only [hdom, hdoms, hdepth, hpark PWR_PARK_MOVING rfl]

theorem Keeps.localSeats (w p : Nat) : t.localSeats w p = s.localSeats w p := by
  unfold State.localSeats
  rw [h.segs]
  simp only [h.seatUnit]

/-- The victims of a core depend on its partition, its rank and its radius (R117). -/
theorem Keeps.victims {w f u : Nat} (hpart : (t.core w f u).part = (s.core w f u).part) (hrank : (t.core w f u).rank = (s.core w f u).rank)
    (hmode : (t.core w f u).mode = (s.core w f u).mode) : t.victims w f u = s.victims w f u := by
  unfold State.victims
  simp only [hpart, hrank, hmode, h.localSeats]

end

/-! ## Deques (R116) -/

section
variable {c : Core}

theorem Core.topDeque_eq_some {d : Fin 4} {q : List Nat} {e : Nat} (hd : c.deques[d.val]? = some (q ++ [e])) (hlower : ∀ k < d.val, c.deques.getD k [] = []) :
    c.topDeque = some d.val := by
  have hfull : c.deques.getD d.val [] = q ++ [e] := by rw [List.getD_eq_getElem?_getD, hd]; rfl
  refine List.find?_range_eq_some.mpr ⟨by rw [hfull]; simp, List.mem_range.mpr d.isLt, fun k hk => ?_⟩
  rw [hlower k hk]
  rfl

theorem Core.topDeque_eq_none (hempty : ∀ k < 4, c.deques.getD k [] = []) : c.topDeque = none := by
  refine List.find?_eq_none.mpr fun k hk => ?_
  rw [hempty k (List.mem_range.mp hk)]
  decide

theorem Core.startTask_reg (e : Nat) : (c.startTask e).reg 3 = e / 4096 % 2 ^ 20 := by
  show (c.setReg 3 (bits e 31 12)).reg 3 = _
  rw [Core.reg_setReg_same _ _ (by decide), bits, Nat.shiftRight_eq_div_pow]
  exact Nat.mod_eq_of_lt ((Nat.mod_lt _ (by decide)).trans (by decide))

end

/-- A core with an entry added at the bottom of a deque. -/
def Core.pushed (c : Core) (d e : Nat) : Core := { c with deques := c.deques.set d (c.deques.getD d [] ++ [e]) }

theorem push_of_room {w f u d : Nat} (rd rs : Nat) {s : State} (hroom : ((s.core w f u).deques.getD d []).length < 64) :
    push w f u d rd rs s = writeReg w f u rd 1 (s.setCore w f u ((s.core w f u).pushed d ((s.core w f u).reg rs))) := if_neg (Nat.not_le.mpr hroom)

theorem push_of_full {w f u d : Nat} (rd rs : Nat) {s : State} (hfull : 64 ≤ ((s.core w f u).deques.getD d []).length) :
    push w f u d rd rs s = writeReg w f u rd 0 s := if_pos hfull

/-! ## The commands -/

section
variable {w : WaferId} {f : FieldId} {u : UnitId} {s : State} (h : s.issues w f u = true)
include h

theorem completes_push {d : Fin 4} {rd rs : Fin 32} (hroom : ((s.core w f u).deques.getD d []).length < 64) : Completes (.push w f u d rd rs) s fun t =>
    t.core w f u = (((s.core w f u).pushed d ((s.core w f u).reg rs)).setReg rd 1).went := by
  have hcore : (push w f u d rd rs (s.begun w f u)).core w f u = (((s.core w f u).pushed d ((s.core w f u).reg rs)).setReg rd 1).went := by
    rw [push_of_room _ _ (by rw [s.core_begun]; exact hroom), writeReg, State.core_openTokens, State.core_modCore, State.core_setCore, s.core_begun]
    exact ((s.core w f u).pushed d ((s.core w f u).reg rs)).begun_setReg_went rd 1
  exact completes_of_issue rfl h hcore (Core.setReg_stepping _ rd 1) hcore

theorem completes_push_full {d : Fin 4} {rd rs : Fin 32} (hfull : 64 ≤ ((s.core w f u).deques.getD d []).length) :
    Completes (.push w f u d rd rs) s fun t => t.core w f u = ((s.core w f u).setReg rd 0).went := by
  have hcore : (push w f u d rd rs (s.begun w f u)).core w f u = ((s.core w f u).setReg rd 0).went := by
    rw [push_of_full _ _ (by rw [s.core_begun]; exact hfull), core_writeReg_begun]
  exact completes_of_issue rfl h hcore (Core.setReg_stepping _ rd 0) hcore

theorem completes_pop {d : Fin 4} {q : List Nat} {e : Nat} (hd : (s.core w f u).deques[d.val]? = some (q ++ [e]))
    (hlower : ∀ k < d.val, (s.core w f u).deques.getD k [] = []) : Completes (.pop w f u) s fun t => (t.core w f u).st = .run ∧ (t.core w f u).pc = e % 4096 ∧
      (t.core w f u).reg 3 = e / 4096 % 2 ^ 20 ∧ (t.core w f u).deques = (s.core w f u).deques.set d q := by
  have htop : (s.core w f u).begun.topDeque = some d.val := Core.topDeque_eq_some (c := s.core w f u) hd hlower
  have hfull : (s.core w f u).deques.getD d.val [] = q ++ [e] := by rw [List.getD_eq_getElem?_getD, hd]; rfl
  have hcore : (pop w f u (s.begun w f u)).core w f u = Core.startTask { (s.core w f u).begun with deques := (s.core w f u).deques.set d q } e := by
    simp only [pop, s.core_begun, htop, Core.begun_deques, hfull, List.dropLast_concat, List.getLastD_concat, State.core_openTokens, State.core_setCore]
  refine completes_of_issue rfl h hcore rfl ?_
  rw [hcore]
  exact ⟨rfl, rfl, Core.startTask_reg e, rfl⟩

theorem completes_pop_empty (hempty : ∀ k < 4, (s.core w f u).deques.getD k [] = []) :
    Completes (.pop w f u) s fun t => (t.core w f u).st = .idle ∧ (t.core w f u).deques = (s.core w f u).deques := by
  have htop : (s.core w f u).begun.topDeque = none := Core.topDeque_eq_none (c := s.core w f u) hempty
  have hcore : (pop w f u (s.begun w f u)).core w f u = { (s.core w f u).begun with st := .idle, stealAt := 0, pc := (s.core w f u).pc + 1 } := by
    simp only [pop, s.core_begun, htop, State.core_openTokens, State.core_setCore]
    rfl
  refine completes_of_issue rfl h hcore rfl ?_
  rw [hcore]
  exact ⟨rfl, rfl⟩

end

/-! ## Stealing (R117) -/

/-- A core waits for the victim `v` that it has asked for an entry. -/
def Asked (w f u p : Nat) (v : Nat × Nat) (c : Core) (s t : State) : Prop := t.core w f u = { c with st := .steal } ∧
  t.niQueue w f p = s.niQueue w f p ++ [{ typ := 9, dest := physAddr w v.1 v.2, src := physAddr w f u, spart := p }]

theorem stealNext_asks {w f u p : Nat} {v : Nat × Nat} {s : State} (hst : (s.core w f u).st = .idle) (hpart : (s.core w f u).part = some p)
    (hruns : s.coreRuns w f u = true) (hv : (s.victims w f u)[(s.core w f u).stealAt]? = some v) : Asked w f u p v (s.core w f u) s (stealNext w f u s) := by
  have hgoes : ¬ ((s.core w f u).st ≠ .idle ∨ (s.core w f u).part.isNone ∨ !s.coreRuns w f u) := by simp [hst, hpart, hruns]
  have hasks : stealNext w f u s = enqueue w f { typ := 9, dest := physAddr w v.1 v.2, src := physAddr w f u, spart := p }
      (s.setCore w f u { s.core w f u with st := .steal }) := by
    unfold stealNext
    simp only [if_neg hgoes, hv, Core.spart_of_part hpart]
  rw [hasks]
  exact ⟨(core_enqueue ..).trans (State.core_setCore ..), (niQueue_enqueue ..).trans (by rw [State.niQueue_setCore])⟩

/-- 64 tokens after a failed round a core asks the first victim again. -/
theorem stealRetry_asks {w f u p : Nat} {v : Nat × Nat} {s : State} (hst : (s.core w f u).st = .idle) (hpart : (s.core w f u).part = some p)
    (hruns : s.coreRuns w f u = true) (hv : (s.victims w f u)[0]? = some v) (hfailed : (s.victims w f u).length ≤ (s.core w f u).stealAt) :
    Asked w f u p v { s.core w f u with stealAt := 0 } s (stealRetry w f u s) := by
  have hkeeps := s.setCore_keepsMask w f u { s.core w f u with stealAt := 0 }
  have hcore := s.core_setCore w f u { s.core w f u with stealAt := 0 }
  have hvictims := hkeeps.victims (by rw [hcore]) (by rw [hcore]) (by rw [hcore])
  have hasks := stealNext_asks (v := v) (by rw [hcore]; exact hst) (by rw [hcore]; exact hpart) ((hkeeps.coreRuns w f u).trans hruns) (by rw [hcore, hvictims]; exact hv)
  rw [hcore] at hasks
  unfold stealRetry
  rw [if_pos ⟨hst, hfailed⟩]
  obtain ⟨hasking, hqueue⟩ := hasks
  exact ⟨hasking, hqueue.trans (by rw [State.niQueue_setCore])⟩

end Sys2Proof.Machine

open Sys2Proof Sys2Proof.Machine

/-- Settles O14: PUSH and POP work on the bottom ends of the deques, and a steal request goes to the victim that the core's place in its round names. -/
theorem tasksAndStealing : Obligations.TasksAndStealing := by
  refine fun w f u s => ⟨fun d rd rs h _ => ⟨completes_push h, completes_push_full h⟩, fun d q e h hd hlower => completes_pop h hd hlower,
    fun h hempty => completes_pop_empty h hempty, fun p v hst hpart hruns hv => ⟨_, rfl, stealNext_asks hst hpart hruns hv⟩,
    fun p v hst hpart hruns hv hfailed => ⟨_, rfl, stealRetry_asks hst hpart hruns hv hfailed⟩⟩

end

section
/-!
PROOF. What enters the commit buffer, and a TAKE (R119, R121, R391).
-/
set_option Elab.async false
namespace Sys2Proof.Machine

/-! ## Entries -/

theorem State.net_wr (s : State) (x : Fld) (w i v : Nat) : (s.wr x w i v).net = s.net := rfl

theorem State.net_putCores (s : State) (k : Nat) (c : Core) : (s.putCores k c).net = s.net := rfl

theorem State.net_setCore (s : State) (w f u : Nat) (c : Core) : (s.setCore w f u c).net = s.net := by
  unfold State.setCore
  rw [State.net_wr, State.net_wr, State.net_wr, State.net_wr, State.net_putCores]

theorem State.net_openTokens (w f u : Nat) (s : State) : (openTokens w f u s).net = s.net := by
  rw [openTokens, State.addTokens, State.incWrap, State.net_wr]
  rfl

theorem State.net_peak (s : State) (x : Fld) (w i v : Nat) : (s.peak x w i v).net = s.net := by
  unfold State.peak
  split
  · rw [State.net_wr]
  · rfl

theorem State.core_peak (s : State) (x : Fld) (w i v a b c : Nat) : (s.peak x w i v).core a b c = s.core a b c := by
  unfold State.peak
  split
  · exact s.getCores_wr _ _ _ _ _
  · rfl

/-- An entry is added at the end, and the core goes on (R119). -/
theorem core_cbAdd (w f u : Nat) (e : CbEntry) (s : State) :
    (cbAdd w f u e s).core w f u = { s.core w f u with cb := (s.core w f u).cb ++ [e], pc := (s.core w f u).pc + 1 } := by
  rw [cbAdd, State.core_openTokens, State.core_peak, State.core_peak, State.core_peak, State.core_modCore]

theorem net_cbAdd (w f u : Nat) (e : CbEntry) (s : State) : (cbAdd w f u e s).net = s.net := by
  rw [cbAdd, State.net_openTokens, State.net_peak, State.net_peak, State.net_peak, State.modCore, State.net_setCore]

/-- A core has gone on with the entry `e` at the end of its commit buffer, and nothing was written outside it. -/
def Added (w f u : Nat) (e : CbEntry) (s t : State) : Prop :=
  t.core w f u = { s.core w f u with cb := (s.core w f u).cb ++ [e] }.went ∧ t.net = s.net ∧ SameLofts s t

/-- An instruction whose effect is one entry of the commit buffer. -/
theorem completes_cbAdd {i : Instr} {s : State} {w f u : Nat} {e : CbEntry} {body : State → State} (hexec : exec i s = .next (issue w f u body s))
    (h : s.issues w f u = true) (hbody : body (s.begun w f u) = cbAdd w f u e (s.begun w f u)) : Completes i s (Added w f u e s) := by
  have hcore : (body (s.begun w f u)).core w f u = { s.core w f u with cb := (s.core w f u).cb ++ [e] }.went := by
    rw [hbody, core_cbAdd, s.core_begun]
    rfl
  refine completes_of_issue hexec h hcore rfl ⟨hcore, ?_, ?_⟩
  · rw [hbody, net_cbAdd, State.begun, State.modCore, State.net_setCore]
  · rw [hbody]
    exact (Keeps.next (M := coreMask ||| regBit CORE_CB_PEAK) (cbAdd_keeps w f u e (s.begun w f u)) (by decide +kernel) ((s.begun_keeps w f u).widen (by decide +kernel))).sameLofts
      (by decide +kernel)

/-! ## The limits of the commit buffer -/

section
variable {w f u : Nat} {s : State}

theorem outWrite_adds {src len : Nat} (e : CbEntry) (hlen : lenOk len = true) (hsrc : accessible src len = true) (hwrites : (s.core w f u).writes < 512)
    (hbytes : (s.core w f u).cbBytes + len ≤ 32768) : outWrite w f u src len e s = cbAdd w f u e s := by
  simp only [outWrite, hlen, hsrc, Bool.not_true, Bool.false_eq_true, if_false, if_neg (Nat.not_le.mpr hwrites), if_neg (Nat.not_lt.mpr hbytes)]

theorem atomic_adds {op dest off rs : Nat} {wide : Bool} (hoff : off % (if wide then 8 else 4) = 0) (hatomics : (s.core w f u).atomics < 64) :
    atomic w f u op wide dest off rs s =
      cbAdd w f u (.atom op wide dest off (if wide then (s.core w f u).reg rs + (s.core w f u).reg ((rs + 1) % 32) * 2 ^ 32 else (s.core w f u).reg rs)) s := by
  simp only [atomic, if_neg (not_not.mpr hoff), if_neg (Nat.not_le.mpr hatomics)]

theorem semaGive_adds {rs : Nat} (hatomics : (s.core w f u).atomics < 64) :
    semaGive w f u rs s = cbAdd w f u (.give ((s.core w f u).reg rs % 1024) (bits ((s.core w f u).reg rs) 15 10)) s := if_neg (Nat.not_le.mpr hatomics)

end

/-! ## The commands -/

section
variable {w : WaferId} {f : FieldId} {u : UnitId} {s : State} (h : s.issues w f u = true)
include h

/-- An outbound write within the limits (R119, R121). -/
theorem completes_outWrite {i : Instr} {src len : Nat} {e : CbEntry} (hexec : exec i s = .next (issue w f u (outWrite w f u src len e) s)) (hlen : lenOk len = true)
    (hsrc : accessible src len = true) (hwrites : (s.core w f u).writes < 512) (hbytes : (s.core w f u).cbBytes + len ≤ 32768) : Completes i s (Added w f u e s) :=
  completes_cbAdd hexec h (outWrite_adds e hlen hsrc (by rw [s.core_begun]; exact hwrites) (by rw [s.core_begun]; exact hbytes))

/-- A remote atomic within the limit (R119, R121). -/
theorem completes_atomic {i : Instr} {op dest off rs : Nat} {wide : Bool} (hexec : exec i s = .next (issue w f u (atomic w f u op wide dest off rs) s))
    (hoff : off % (if wide then 8 else 4) = 0) (hatomics : (s.core w f u).atomics < 64) : Completes i s
      (Added w f u (.atom op wide dest off (if wide then (s.core w f u).reg rs + (s.core w f u).reg ((rs + 1) % 32) * 2 ^ 32 else (s.core w f u).reg rs)) s) :=
  completes_cbAdd hexec h ((atomic_adds hoff (by rw [s.core_begun]; exact hatomics)).trans (by rw [s.core_begun]; rfl))

theorem completes_semaGive {rs : Fin 32} (hatomics : (s.core w f u).atomics < 64) : Completes (.semaGive w f u rs) s
    (Added w f u (.give ((s.core w f u).reg rs % 1024) (bits ((s.core w f u).reg rs) 15 10)) s) :=
  completes_cbAdd rfl h ((semaGive_adds (by rw [s.core_begun]; exact hatomics)).trans (by rw [s.core_begun]; rfl))

/-- The TAKE that a core sends for a semaphore of a wafer slot (R391). -/
def takePacket (s : State) (w f u p sem slot : Nat) : Packet :=
  { typ := 13, cls := 3, dest := s.arbiter slot, src := physAddr w f u, spart := p, addr := semOffset sem, aux := 0x10 }

omit h in
theorem sendTake_eq {w f u p : Nat} {s : State} (hpart : (s.core w f u).part = some p) (sem slot : Nat) : sendTake w f u sem slot s =
    (enqueue w f (takePacket s w f u p sem slot) s).modCore w f u fun c => { c with wait := .sema sem slot, waitSince := s.now, beforeTake := false } := by
  unfold sendTake
  rw [Core.spart_of_part hpart]
  rfl

omit h in
theorem addrSlot_arbiter (s : State) {slot : Nat} (hslot : slot < 64) : addrSlot (s.arbiter slot) = slot := by
  unfold addrSlot State.arbiter physAddr
  omega

theorem completes_semaTake {rs : Fin 32} {p : Nat} (hpart : (s.core w f u).part = some p) : Completes (.semaTake w f u rs) s fun t =>
    (t.core w f u).wait = .sema ((s.core w f u).reg rs % 1024) (bits ((s.core w f u).reg rs) 15 10) ∧ (t.core w f u).pc = (s.core w f u).pc ∧ (t.core w f u).st = .run ∧
      ∃ q : Packet, t.niQueue w f p = s.niQueue w f p ++ [q] ∧ q.typ = 13 ∧ q.aux = 0x10 ∧ addrSlot q.dest = bits ((s.core w f u).reg rs) 15 10 := by
  have hbody : semaTake w f u rs (s.begun w f u) = _ :=
    sendTake_eq ((congrArg Core.part (s.core_begun w f u)).trans hpart) (((s.begun w f u).core w f u).reg rs % 1024) (bits (((s.begun w f u).core w f u).reg rs) 15 10)
  rw [s.core_begun, Core.begun_reg] at hbody
  refine completes_of_issue rfl h rfl ?_ ?_
  · rw [hbody, State.core_modCore, core_enqueue, s.core_begun]
    rfl
  · rw [hbody, State.core_modCore, core_enqueue, s.core_begun]
    refine ⟨rfl, rfl, s.issues_run h, takePacket (s.begun w f u) w f u p ((s.core w f u).reg rs % 1024) (bits ((s.core w f u).reg rs) 15 10), ?_, rfl, rfl,
      addrSlot_arbiter _ (Nat.mod_lt _ (by decide))⟩
    rw [State.modCore, State.niQueue_setCore]
    refine (niQueue_enqueue ..).trans ?_
    rw [State.begun, State.modCore, State.niQueue_setCore]
    rfl

end

end Sys2Proof.Machine

open Sys2Proof Sys2Proof.Machine

/-- Settles O15: within the limits each instruction is one entry of the commit buffer, and a TAKE is one packet to the arbiter. -/
theorem commitBuffer : Obligations.CommitBuffer := by
  refine fun w f u s h => ⟨fun dest off addr src len h4 hmax hmod hsrc hwrites hbytes => ?_, fun wide dest off rs hoff hatomics => ?_,
    fun rs hatomics => completes_semaGive h hatomics, fun rs p hpart => completes_semaTake h hpart⟩
  · have hlen := lenOk_of h4 hmax hmod
    exact ⟨completes_outWrite h rfl hlen hsrc hwrites hbytes, completes_outWrite h rfl hlen hsrc hwrites hbytes⟩
  · exact ⟨completes_atomic h rfl hoff hatomics, completes_atomic h rfl hoff hatomics, completes_atomic h rfl hoff hatomics, completes_atomic h rfl hoff hatomics,
      completes_atomic h rfl hoff hatomics⟩

end

section
/-!
PROOF. The faults of a core and the scrubber (R98, R109, R113, R119, R125, R351, R353, R355).
-/
set_option Elab.async false
namespace Sys2Proof.Machine

/-! ## The capture of a fault -/

/-- The field's capture holds a fault of unit `u` (R125, CORE_FAULT). -/
def Captured (w f u cause : Nat) (t : State) : Prop :=
  t.rd CORE_FAULT_VALID w f = 1 ∧ t.rd CORE_FAULT_CAUSE w f = cause ∧ t.rd CORE_FAULT_UNIT w f = u

/-- What leaves CORE_FAULT alone leaves the capture. -/
theorem Captured.keeps {m w f u cause : Nat} {s t : State} (hs : Captured w f u cause s) (h : Keeps m s t) (hm : m.testBit (64 + CORE_FAULT.id) = false) :
    Captured w f u cause t := by
  have hfield := fun (y : Fld) (hy : y.reg = CORE_FAULT) => h.rd y w f (by rw [hy]; decide) (by rw [hy]; exact hm)
  unfold Captured
  rw [hfield CORE_FAULT_VALID rfl, hfield CORE_FAULT_CAUSE rfl, hfield CORE_FAULT_UNIT rfl]
  exact hs

/-- The first fault of a field is captured with its cause and its unit. -/
theorem captured_captureFault {w f u cause : Nat} {s : State} (hv : s.rd CORE_FAULT_VALID w f = 0) (hcause : cause < 16) (hu : u < 1024) :
    Captured w f u cause (captureFault w f u cause s) := by
  have hvalid : (s.bump CORE_FAULT_COUNT w f 1).rd CORE_FAULT_VALID w f = 0 :=
    (State.rd_wr_field s CORE_FAULT_COUNT CORE_FAULT_VALID w f _ rfl (by decide) (by decide) (by decide)).trans hv
  unfold captureFault
  simp only [hvalid, zero_ne_one, if_false]
  refine ⟨State.rd_wr_same _ _ _ _ _ (by decide) (by decide), ?_, ?_⟩
  · rw [State.rd_wr_field _ CORE_FAULT_VALID CORE_FAULT_CAUSE _ _ _ rfl (by decide) (by decide) (by decide),
      State.rd_wr_field _ CORE_FAULT_UNIT CORE_FAULT_CAUSE _ _ _ rfl (by decide) (by decide) (by decide), State.rd_wr_same _ _ _ _ _ (by decide) (by decide)]
    exact Nat.mod_eq_of_lt hcause
  · rw [State.rd_wr_field _ CORE_FAULT_VALID CORE_FAULT_UNIT _ _ _ rfl (by decide) (by decide) (by decide), State.rd_wr_same _ _ _ _ _ (by decide) (by decide)]
    exact Nat.mod_eq_of_lt hu

/-- A core's fault captures itself, whether the core ends its command, halts or belongs to no partition. -/
theorem captured_coreFault {w f u cause : Nat} {s : State} (hv : s.rd CORE_FAULT_VALID w f = 0) (hcause : cause < 16) (hu : u < 1024) :
    Captured w f u cause (coreFault w f u cause s) := by
  have hcap := captured_captureFault hv hcause hu
  have hcore := fun g => hcap.keeps (State.modCore_keeps _ w f u g) (by decide +kernel)
  unfold coreFault
  simp only
  split
  · exact hcore _
  · split
    · exact (hcore _).keeps (haltCore_keeps ..) (by decide +kernel)
    · exact (hcore _).keeps (failCmd_keeps ..) (by decide +kernel)

/-! ## Instructions that fault -/

section
variable {w : WaferId} {f : FieldId} {u : UnitId} {s : State} (h : s.issues w f u = true) (hv : s.rd CORE_FAULT_VALID w f = 0)
include h hv

/-- An instruction whose effect is a fault. -/
theorem completes_fault {i : Instr} {cause : Nat} {body : State → State} (hexec : exec i s = .next (issue w f u body s)) (hcause : cause < 16)
    (hbody : body (s.begun w f u) = coreFault w f u cause (s.begun w f u)) : Completes i s (Captured w f u cause) := by
  have hbegun : (s.begun w f u).rd CORE_FAULT_VALID w f = 0 := (s.rd_modCore w f u _ _ _ (by decide)).trans hv
  refine ⟨_, hexec, ?_⟩
  rw [issue_of_issues body h, hbody]
  exact (captured_coreFault hbegun hcause (u.isLt.trans (by decide))).keeps (stepEnd_keeps ..) (by decide +kernel)

/-- A branch beyond the store (R113). -/
theorem completes_branch_fault {target : BitVec 16} (htarget : 3072 ≤ target.toNat) : Completes (.branch w f u .always target) s (Captured w f u 1) :=
  completes_fault h hv rfl (by decide) (if_pos htarget)

/-- A load and a store of an inaccessible range (R109). -/
theorem completes_ld_fault {r : Fin 32} {a : Word32} {e : Ecc} (hacc : accessible a.toNat 4 = false) : Completes (.ld w f u r a e) s (Captured w f u 2) :=
  completes_fault h hv rfl (by decide) (by rw [load, hacc]; rfl)

theorem completes_st_fault {r : Fin 32} {a : Word32} {e : Ecc} (hacc : accessible a.toNat 4 = false) : Completes (.st w f u r a e) s (Captured w f u 2) :=
  completes_fault h hv rfl (by decide) (by rw [store, hacc]; rfl)

/-- An MMA in VECTOR mode (R98), and one of formats that do not pair. -/
theorem completes_mma_mode_fault {xa xb : Fmt} {pair : Fin 4} {ta tb : Fin 8} (hmode : bitAt (s.core w f u).mode 0 = true) :
    Completes (.mma w f u xa xb pair ta tb) s (Captured w f u 3) :=
  completes_fault h hv rfl (by decide) (by rw [mma, s.core_begun]; exact if_pos hmode)

theorem completes_mma_pair_fault {xa xb : Fmt} {pair : Fin 4} {ta tb : Fin 8} (hmode : bitAt (s.core w f u).mode 0 = false) (hfmt : fmtPair xa xb = false) :
    Completes (.mma w f u xa xb pair ta tb) s (Captured w f u 9) :=
  completes_fault h hv rfl (by decide) (by simp [mma, hmode, hfmt])

/-- An outbound write beyond the commit buffer's entries, and one beyond its bytes (R119). -/
theorem completes_lput_writes_fault {dest : BitVec 23} {off : BitVec 40} {src : Word32} (hsrc : accessible src.toNat 4 = true) (hwrites : 512 ≤ (s.core w f u).writes) :
    Completes (.lput w f u dest off src 4) s (Captured w f u 4) :=
  completes_fault h hv rfl (by decide) (by simp [outWrite, hsrc, hwrites, lenOk])

theorem completes_lput_bytes_fault {dest : BitVec 23} {off : BitVec 40} {src : Word32} (hsrc : accessible src.toNat 4 = true) (hwrites : (s.core w f u).writes < 512)
    (hbytes : 32764 < (s.core w f u).cbBytes) : Completes (.lput w f u dest off src 4) s (Captured w f u 5) :=
  completes_fault h hv rfl (by decide) (by
    have hfull : 32768 < (s.core w f u).cbBytes + 4 := by omega
    simp [outWrite, hsrc, hwrites, hfull, lenOk])

/-- An atomic beyond the 64 of the commit buffer (R119). -/
theorem completes_semaGive_fault {rs : Fin 32} (hatomics : 64 ≤ (s.core w f u).atomics) : Completes (.semaGive w f u rs) s (Captured w f u 6) :=
  completes_fault h hv rfl (by decide) (by rw [semaGive, s.core_begun]; exact if_pos hatomics)

omit h hv in
theorem toRank_unseated {w f u p rank : Nat} {s : State} (k : Nat → State → State) (hpart : (s.core w f u).part = some p) (hseat : s.seatOf w p rank = none) :
    toRank w f u rank s k = coreFault w f u 10 s := by
  simp only [toRank, hpart, hseat]

/-- A SIGNAL to a rank without a seat (R215). -/
theorem completes_signal_fault {rank : Word32} {word : Fin 16} {p : Nat} (hpart : (s.core w f u).part = some p) (hseat : s.seatOf w p rank.toNat = none) :
    Completes (.signal w f u rank word) s (Captured w f u 10) :=
  completes_fault h hv rfl (by decide)
    (toRank_unseated _ ((congrArg Core.part (s.core_begun w f u)).trans hpart) (((s.begun_keeps w f u).seatOf w p _).trans hseat))

end

/-! ## The scrubber -/

theorem satAdd_lt (k v n : Nat) : satAdd k v n < 2 ^ k := by
  have hpos := Nat.two_pow_pos k
  unfold satAdd
  omega

/-- A counting field holds its saturated sum. -/
theorem State.rd_bump_same (s : State) (y : Fld) (w i n : Nat) (h : y.lo ≤ y.hi) (h2 : y.hi < 64) : (s.bump y w i n).rd y w i = satAdd y.width (s.rd y w i) n := by
  rw [State.bump, State.rd_wr_same _ _ _ _ _ h h2]
  exact Nat.mod_eq_of_lt (satAdd_lt ..)

theorem State.job_bump (s : State) (y : Fld) (w i n : Nat) : (s.bump y w i n).job = s.job := rfl

/-- A command that counts one event, in a field, and leaves the cores. -/
theorem completes_counted {i : Instr} {s : State} {y : Fld} {w f : Nat} (hexec : exec i s = .next (s.bump y w f 1)) (h : y.lo ≤ y.hi) (h2 : y.hi < 64) :
    Completes i s fun t => t.rd y w f = satAdd y.width (s.rd y w f) 1 ∧ t.job = s.job := ⟨_, hexec, s.rd_bump_same y w f 1 h h2, s.job_bump y w f 1⟩

theorem exec_spadScrubLine (w : WaferId) (f : FieldId) (u : UnitId) (line : BitVec 11) (e : Ecc) (s : State) :
    exec (.spadScrubLine w f u line e) s = .next (spadScrub w f u line.toNat e s) := rfl

section
variable {w f u line : Nat} {s : State} (hruns : s.coreRuns w f u = true)
include hruns

/-- The scrubber of a running core, by the store that holds the line (R351, R353, R355). -/
theorem spadScrub_spad_corrected (i : Nat) (hline : line < 1536) : spadScrub w f u line (.corrected i) s = s.bump SPAD_CE_COUNT w f 1 := by
  simp [spadScrub, hruns, hline, show ¬1920 ≤ line by omega]

theorem spadScrub_istore_corrected (i : Nat) (hline : 1536 ≤ line) (hlast : line < 1920) :
    spadScrub w f u line (.corrected i) s = s.bump CORE_ECC_CORR_COUNT w f 1 := by
  simp [spadScrub, hruns, Nat.not_le.mpr hlast, Nat.not_lt.mpr hline]

omit hruns in
theorem spadScrub_good : spadScrub w f u line .good s = s := by
  unfold spadScrub
  simp only [ite_self]

end

end Sys2Proof.Machine

open Sys2Proof Sys2Proof.Machine

/-- Settles O16: each of the instructions is one fault, which its field captures, and a scrubbed word is one count. -/
theorem coreFaultsAndScrubber : Obligations.CoreFaultsAndScrubber := by
  refine ⟨fun w f u s h hv => ⟨fun _ => completes_branch_fault h hv, fun r a e hacc => ⟨completes_ld_fault h hv hacc, completes_st_fault h hv hacc⟩,
    fun xa xb pair ta tb => ⟨completes_mma_mode_fault h hv, completes_mma_pair_fault h hv⟩,
    fun dest off src hsrc => ⟨completes_lput_writes_fault h hv hsrc, completes_lput_bytes_fault h hv hsrc⟩,
    fun rs => completes_semaGive_fault h hv, fun rank word p => completes_signal_fault h hv⟩, fun w f u line i s hruns hlast => ⟨fun hline => ?_, fun hline => ?_, ?_⟩⟩
  · exact completes_counted (by rw [exec_spadScrubLine, spadScrub_spad_corrected hruns i hline]) (by decide) (by decide)
  · exact completes_counted (by rw [exec_spadScrubLine, spadScrub_istore_corrected hruns i hline hlast]) (by decide) (by decide)
  · exact ⟨s, by rw [exec_spadScrubLine, spadScrub_good], rfl⟩

end

section
/-!
PROOF. Routers, output arbiters, hop credits and injection (R142, R148, R151-R153, R155).
-/
set_option Elab.async false
namespace Sys2Proof.Machine

/-! ## Discards -/

/-- The counter of a discard reason (R148, R155, R167). -/
def dropCounter (r : Nat) : Fld := if r = 0 then SPN_DROP_CRC else if r = 1 then SPN_DROP_ECC else if r = 2 then SPN_DROP_NOROUTE else SPN_DROP_PORT_DOWN

/-- A discard counted at the spine and on the wafer. -/
def State.dropCounted (s : State) (w f r : Nat) : State := (s.bump (dropCounter r) w f 1).bump NET_DROP_WAFER_COUNT w 0 1

/-- The mask of what follows a counted discard: the capture, and what a raise may write. -/
def dropCaptureMask : Nat := 0x14c004600000000000000000000000000000000000000000000000000000000000000000000000010 ||| regBit SPN_DROP_CAP

theorem dropPacket_captures (w f r : Nat) (p : Packet) (s : State) : Keeps dropCaptureMask (s.dropCounted w f r) (dropPacket w f r p s) := by
  have hcounted : dropPacket w f r p s =
      if (s.dropCounted w f r).rd SPN_DROP_CAP_VALID w f = 1 then s.dropCounted w f r
      else (((((s.dropCounted w f r).wr SPN_DROP_CAP_DEST w f p.dest).wr SPN_DROP_CAP_ACT w f p.act).wr SPN_DROP_CAP_REASON w f r).wr SPN_DROP_CAP_VALID w f 1).raise w
        Leaf.spineDrop := by
    have hcounter : (if r = 0 then s.bump SPN_DROP_CRC w f 1 else if r = 1 then s.bump SPN_DROP_ECC w f 1 else if r = 2 then s.bump SPN_DROP_NOROUTE w f 1
        else s.bump SPN_DROP_PORT_DOWN w f 1) = s.bump (dropCounter r) w f 1 := by
      unfold dropCounter
      split_ifs <;> rfl
    simp only [dropPacket, hcounter]
    rfl
  have hwr := fun (t : State) (y : Fld) (hy : y.reg = SPN_DROP_CAP) v => (t.wr_keeps y w f v).widen (M := dropCaptureMask) (by rw [hy]; decide +kernel)
  rw [hcounted]
  refine .ite (.refl ..) (.next (State.raise_keeps ..) (by decide +kernel) ?_)
  exact .next (hwr _ _ rfl _) (sub_refl _) (.next (hwr _ _ rfl _) (sub_refl _) (.next (hwr _ _ rfl _) (sub_refl _) (hwr _ _ rfl _)))

theorem dropCounter_reg (r : Nat) : (dropCounter r).reg = SPN_DROP := by
  unfold dropCounter
  split_ifs <;> rfl

theorem rd_dropPacket {r : Nat} {y : Fld} (w f : Nat) (p : Packet) (s : State) (hy : dropCounter r = y) (hlo : y.lo ≤ y.hi) (hhi : y.hi < 64) :
    (dropPacket w f r p s).rd y w f = satAdd y.width (s.rd y w f) 1 := by
  have hreg : y.reg = SPN_DROP := hy ▸ dropCounter_reg r
  rw [(dropPacket_captures w f r p s).rd y w f (by rw [hreg]; decide) (by rw [hreg]; decide +kernel), State.dropCounted, hy, State.bump,
    State.rd_wr_id _ _ _ _ _ _ _ _ (by rw [hreg]; decide), State.rd_bump_same _ _ _ _ _ hlo hhi]

theorem rd_dropPacket_wafer (w f r : Nat) (p : Packet) (s : State) :
    (dropPacket w f r p s).rd NET_DROP_WAFER_COUNT w 0 = satAdd NET_DROP_WAFER_COUNT.width (s.rd NET_DROP_WAFER_COUNT w 0) 1 := by
  rw [(dropPacket_captures w f r p s).rd NET_DROP_WAFER_COUNT w 0 (by decide) (by decide +kernel), State.dropCounted, State.rd_bump_same _ _ _ _ _ (by decide) (by decide),
    State.bump, State.rd_wr_id _ _ _ _ _ _ _ _ (by rw [dropCounter_reg]; decide)]

/-- What an element does with a packet that it discards: the credits of a link's receiver are owed again (R181). -/
def discard (w f : Nat) (e : NetElem) (r : Nat) (p : Packet) (s : State) : State :=
  match bridgeIn e with
  | some q => oweCredit (portKey w q) (linkVc q p) (flitsOf p) (dropPacket w f r p s)
  | none => dropPacket w f r p s

theorem discard_keeps (w f : Nat) (e : NetElem) (r : Nat) (p : Packet) (s : State) : Keeps 0x20000 (dropPacket w f r p s) (discard w f e r p s) := by
  unfold discard
  split
  · exact oweCredit_keeps ..
  · exact .refl ..

theorem arbs_discard (w f : Nat) (e : NetElem) (r : Nat) (p : Packet) (s : State) : (discard w f e r p s).net.arbs = s.net.arbs :=
  ((discard_keeps w f e r p s).arbs (by decide)).trans ((dropPacket_keeps w f r p s).arbs (by decide +kernel))

theorem rd_discard {r : Nat} {y : Fld} (w f : Nat) (e : NetElem) (p : Packet) (s : State) (hy : dropCounter r = y) (hlo : y.lo ≤ y.hi) (hhi : y.hi < 64) :
    (discard w f e r p s).rd y w f = satAdd y.width (s.rd y w f) 1 := by
  have hreg : y.reg = SPN_DROP := hy ▸ dropCounter_reg r
  exact ((discard_keeps w f e r p s).rd y w f (by rw [hreg]; decide) (by rw [hreg]; decide +kernel)).trans (rd_dropPacket w f p s hy hlo hhi)

theorem rd_discard_wafer (w f : Nat) (e : NetElem) (r : Nat) (p : Packet) (s : State) :
    (discard w f e r p s).rd NET_DROP_WAFER_COUNT w 0 = satAdd NET_DROP_WAFER_COUNT.width (s.rd NET_DROP_WAFER_COUNT w 0) 1 :=
  ((discard_keeps w f e r p s).rd NET_DROP_WAFER_COUNT w 0 (by decide) (by decide +kernel)).trans (rd_dropPacket_wafer w f r p s)

/-! ## The element's decision -/

section
variable {w f : Nat} {e : NetElem} {input : Nat} {p : Packet} {s : State} (hworks : s.spineWorks w f = true)
include hworks

theorem routerForward_badEcc (i : Nat) : routerForward w f e input p (.bad i) s = discard w f e 1 p s := by
  simp only [routerForward, hworks, Bool.not_true, Bool.false_eq_true, if_false, if_true]
  cases hb : bridgeIn e <;> simp only [discard, hb]

theorem routerForward_badHeader (hcrc : p.hcrcOk = false) : routerForward w f e input p .good s = discard w f e 0 p s := by
  simp only [routerForward, hworks, hcrc, Bool.not_true, Bool.not_false, Bool.false_eq_true, if_false, if_true]
  cases hb : bridgeIn e <;> simp only [discard, hb]

theorem routerForward_deadAct (hcrc : p.hcrcOk = true) (hact : s.actRoutes w p.act = false) : routerForward w f e input p .good s = discard w f e 2 p s := by
  simp only [routerForward, hworks, hcrc, hact, Bool.not_true, Bool.not_false, Bool.or_true, Bool.false_eq_true, if_false, if_true]
  cases hb : bridgeIn e <;> simp only [discard, hb]

/-- A sound packet that the element routes waits at the end of its output's queue. -/
theorem routerForward_routed {n k : Nat} {up : Bool} (hk : outKey w f (elemCode e) n = k) (hcrc : p.hcrcOk = true) (haddr : addrValid p.dest = true)
    (hact : s.actRoutes w p.act = true) (hroute : s.routeAt w f e p = .out n up) : ∃ x : Waiting,
      routerForward w f e input p .good s = s.putArbs k { s.getArbs k with queue := (s.getArbs k).queue ++ [x] } ∧
      x.input = input ∧ x.flits = flitsOf x.pkt ∧ x.pkt = dlineAt w e n (if up then { p with level := 1 } else p) := by
  simp only [routerForward, hworks, hcrc, haddr, hact, hroute, hk, Bool.not_true, Bool.or_self, Bool.false_eq_true, if_false]
  exact ⟨_, rfl, rfl, rfl, rfl⟩

end

/-- A link bridge changes DLINE alone (R190). -/
theorem dlineAt_eq (w : Nat) (e : NetElem) (out : Nat) (p : Packet) : ∃ d, dlineAt w e out p = { p with dline := d } := by
  unfold dlineAt
  split
  · split_ifs
    · exact ⟨_, rfl⟩
    · exact ⟨p.dline, rfl⟩
  · dsimp only
    split_ifs
    · exact ⟨_, rfl⟩
    · exact ⟨p.dline, rfl⟩
  · exact ⟨p.dline, rfl⟩

theorem completes_routed {w : WaferId} {f : FieldId} {e : NetElem} {input : BitVec 8} {p : Packet} {n k : Nat} {up : Bool} {s : State} (hk : outKey w f (elemCode e) n = k)
    (hworks : s.spineWorks w f = true) (hcrc : p.hcrcOk = true) (haddr : addrValid p.dest = true) (hact : s.actRoutes w p.act = true)
    (hroute : s.routeAt w f e p = .out n up) : Completes (.routerForward w f e input p .good) s fun t => ∃ x : Waiting,
      (t.getArbs k).queue = (s.getArbs k).queue ++ [x] ∧ x.input = input.toNat ∧ x.flits = flitsOf p ∧
      x.pkt.dest = p.dest ∧ x.pkt.payload = p.payload ∧ x.pkt.level = if up then 1 else p.level := by
  obtain ⟨x, hforward, hinput, hflits, hpkt⟩ := routerForward_routed (input := input.toNat) hworks hk hcrc haddr hact hroute
  obtain ⟨d, hd⟩ := dlineAt_eq w e n (if up then { p with level := 1 } else p)
  rw [hd] at hpkt
  refine ⟨_, congrArg Host.Outcome.next hforward, x, ?_, hinput, ?_, ?_⟩
  · rw [State.getArbs_putArbs, if_pos rfl]
  · rw [hflits, hpkt]
    cases up <;> rfl
  · rw [hpkt]
    cases up <;> exact ⟨rfl, rfl, rfl⟩

/-! ## The output arbiter -/

theorem State.arbWeight_pos (s : State) (w c : Nat) : s.arbWeight w c ≠ 0 := by
  unfold State.arbWeight
  omega

/-- Alone, a packet of a class below management's passes in its class's turn, in a new round where its class has no flits left. -/
theorem State.arbPick_bulk (s : State) (w : Nat) (a : OutArb) {x : Waiting} (hwaited : x.waited < 512) (hcls : x.pkt.cls < 3) :
    ∃ left, s.arbPick w a [x] = (some x, left) := by
  have hclasses : ∀ c < 3, ([1, 0, 2].filter fun d => c == d) = [c] := by decide
  have hfind : ([x].find? fun y => decide (512 ≤ y.waited)) = none := by simp [hwaited]
  have hmgmt : ([x].filter fun y => y.pkt.cls == 3) = [] := by simp; omega
  have hrest : ([x].filter fun y => y.pkt.cls != 3) = [x] := by simp; omega
  have hhere : ([1, 0, 2].filter fun c => [x].any fun y => y.pkt.cls == c) = [x.pkt.cls] := by
    simp only [List.any_cons, List.any_nil, Bool.or_false, hclasses _ hcls]
  have hpick : ∀ n, pickInput ([x].filter fun y => y.pkt.cls == x.pkt.cls) n = some x := fun n => by simp [pickInput]
  unfold State.arbPick
  simp only [hfind, hmgmt, hrest, hhere, List.isEmpty_nil, Bool.not_true, Bool.false_and, Bool.false_eq_true, if_false, List.all_cons, List.all_nil, Bool.and_true,
    List.foldl_cons, List.foldl_nil, beq_iff_eq]
  by_cases hzero : mget 0 a.left x.pkt.cls = 0
  · have hfresh : (mget 0 (mset 0 [] x.pkt.cls (s.arbWeight w x.pkt.cls)) x.pkt.cls != 0) = true := by rw [mget_mset, if_pos rfl]; exact bne_iff_ne.mpr (s.arbWeight_pos w _)
    simp only [if_pos hzero, List.find?_cons, hfresh, hpick]
    exact ⟨_, rfl⟩
  · simp only [if_neg hzero, List.find?_cons, bne_iff_ne.mpr hzero, hpick]
    exact ⟨_, rfl⟩

theorem State.arbPick_mgmt (s : State) (w : Nat) (a : OutArb) {x : Waiting} (hwaited : x.waited < 512) (hcls : x.pkt.cls = 3) : s.arbPick w a [x] = (some x, a.left) := by
  simp [State.arbPick, Nat.not_le.mpr hwaited, hcls, pickInput]

/-- What waits alone and is not starved takes the flit time, whatever its class (R152). -/
theorem State.arbPick_alone (s : State) (w : Nat) (a : OutArb) {x : Waiting} (hwaited : x.waited < 512) (hcls : x.pkt.cls < 4) :
    ∃ left, s.arbPick w a [x] = (some x, left) := by
  rcases Nat.lt_succ_iff_lt_or_eq.mp hcls with hbulk | hmgmt
  · exact s.arbPick_bulk w a hwaited hbulk
  · exact ⟨_, s.arbPick_mgmt w a hwaited hmgmt⟩

/-- A flit of `x` leaves output `k` of an element, whose arbiter becomes `a`: it takes a credit of its VC, is counted, and frees its place at a link's receiver
(R151, R181). -/
def passFlit (w f : Nat) (e : NetElem) (k : Nat) (x : Waiting) (a : OutArb) (s : State) : State :=
  let t := ((s.putArbs k a).useCredits k x.vc 1).incWrap SPN_FLITS_COUNT w (f * 4 + x.pkt.cls % 4) 1
  match bridgeIn e with
  | some q => oweCredit (portKey w q) x.inVc 1 t
  | none => t

theorem getArbs_passFlit (w f : Nat) (e : NetElem) (k : Nat) (x : Waiting) (a : OutArb) (s : State) : (passFlit w f e k x a s).getArbs k = a := by
  have hput : (s.putArbs k a).getArbs k = a := by rw [State.getArbs_putArbs, if_pos rfl]
  unfold passFlit
  dsimp only
  split
  · exact ((oweCredit_keeps ..).getArbs (by decide) _).trans hput
  · exact hput

theorem out_passFlit (w f : Nat) (e : NetElem) (k : Nat) (x : Waiting) (a : OutArb) (s : State) : (passFlit w f e k x a s).out = s.out := by
  unfold passFlit
  dsimp only
  split <;> rfl

section
variable {w f k n : Nat} {e : NetElem} {x : Waiting} {s : State} (hworks : s.spineWorks w f = true) (hqueue : (s.getArbs k).queue = [x]) (hstarted : x.started = true)
  (hwaited : x.waited < 512) (hcls : x.pkt.cls < 4) (hflits : x.flits = n + 1)
include hworks hqueue hstarted hwaited hcls hflits

/-- A lone packet whose head has passed sends one flit, and goes on with its last one. -/
theorem outputArbitration_alone {out : Nat} (hk : outKey w f (elemCode e) out = k) : ∃ a : OutArb,
    a.queue = (if n = 0 then [] else [{ x with flits := n, waited := 0 }]) ∧
    outputArbitration w f e out s = if n = 0 then (passFlit w f e k x a s).emit (.forwarded w f (elemCode e) out x.pkt) else passFlit w f e k x a s := by
  obtain ⟨left, hpick⟩ := s.arbPick_alone w (s.getArbs k) hwaited hcls
  have hpass : s.canPass k (s.getArbs k) x = true := by simp only [State.canPass, hstarted, Bool.true_or]
  have hstill : ({ x with flits := n, started := true, waited := 0 } : Waiting) = { x with flits := n, waited := 0 } := by rw [← hstarted]
  simp only [outputArbitration, hk, hworks, hqueue, List.filter_cons, List.filter_nil, hpass, if_true, hpick, hflits, Nat.add_sub_cancel, if_neg (Nat.not_le.mpr hwaited),
    List.erase_cons_head, List.map_nil, hstill, Bool.not_true, Bool.false_eq_true, if_false]
  exact ⟨_, rfl, rfl⟩

theorem outputArbitration_leaves {out : Nat} (hk : outKey w f (elemCode e) out = k) :
    ((outputArbitration w f e out s).getArbs k).queue = (if n = 0 then [] else [{ x with flits := n, waited := 0 }]) ∧
      (outputArbitration w f e out s).out = if n = 0 then .forwarded w f (elemCode e) out x.pkt :: s.out else s.out := by
  obtain ⟨a, hleft, harb⟩ := outputArbitration_alone hworks hqueue hstarted hwaited hcls hflits hk
  rw [harb, ← hleft, ← out_passFlit w f e k x a s]
  split
  · rw [State.getArbs_emit, getArbs_passFlit]
    exact ⟨rfl, rfl⟩
  · rw [getArbs_passFlit]
    exact ⟨rfl, rfl⟩

end

theorem completes_creditReturn (w : WaferId) (f : FieldId) (e : NetElem) (out : BitVec 8) (vc : Fin 8) (s : State) : Completes (.creditReturn w f e out vc) s fun t =>
    t.usedCredits (outKey w f (elemCode e) out.toNat) vc = s.usedCredits (outKey w f (elemCode e) out.toNat) vc - 1 :=
  ⟨_, rfl, (State.getFabricCredits_putFabricCredits ..).trans (if_pos rfl)⟩

/-! ## Injection -/

/-- The mask of what injection writes before the packet is sent: the queues and the count of starved queues. -/
def injectMask : Nat := 0x80000 ||| regBit SPN_STARVE

section
variable {w f q : Nat} {p : Packet} {rest : List Packet} {s : State} (hqueues : (s.getInjects (niKey w f)).queues = [(q, p :: rest)]) (hready : s.headReady w f p = true)
include hqueues hready

/-- The only queue wins, aged or not (R153). -/
theorem State.injectWinner_only : ∃ aged, s.injectWinner w f = some (q, aged) := by
  have htop : (s.injectPrio w q == [q].foldl (fun n q => max n (s.injectPrio w q)) 0) = true := by simp
  unfold State.injectWinner
  generalize (if s.rd NET_INJ_AGE_AGE_US w 0 = 0 then 10 else s.rd NET_INJ_AGE_AGE_US w 0) * 1000 = age
  simp only [hqueues, List.filter_cons, List.filter_nil, List.head?_cons, hready, if_true, List.map_cons, List.map_nil, htop]
  split_ifs
  · exact ⟨true, rfl⟩
  · by_cases hnext : (s.getInjects (niKey w f)).pointer < q
    · simp only [List.foldl_nil, List.find?_cons, hnext, decide_true]
      exact ⟨false, rfl⟩
    · simp only [List.foldl_nil, List.find?_cons, hnext, decide_false]
      exact ⟨false, rfl⟩

/-- The head of the only queue leaves it and is sent. -/
theorem injectionArbitration_only : ∃ t, injectionArbitration w f s = streamSend w f p t ∧ Keeps injectMask s t ∧ t.niQueue w f q = rest ∧ t.out = s.out := by
  obtain ⟨aged, hwin⟩ := State.injectWinner_only hqueues hready
  have hhead : mget [] (s.getInjects (niKey w f)).queues q = p :: rest := by rw [hqueues, mget, if_pos rfl]
  unfold injectionArbitration
  simp only [hwin, hhead]
  refine ⟨_, rfl, .next (State.putInjects_keeps ..) (by decide +kernel) ?_, ?_, ?_⟩
  · exact .ite ((State.bump_keeps ..).widen (by decide +kernel)) (.refl ..)
  · rw [State.niQueue, State.getInjects_putInjects, if_pos rfl, mget_mset, if_pos rfl]
  · cases aged <;> rfl

end

/-- A packet to the NI's own field is turned around (R138). -/
theorem streamSend_own {w f : Nat} {p : Packet} {s : State} (hown : niOf p.dest = w + f * 64) :
    streamSend w f p s = s.emit (.packet w f (Packet.sealed { p with act := s.stamp w })) := by
  rw [streamSend, if_pos hown]

/-- Within the window a packet takes the stream's next TSEQ and is held until it is acknowledged (R191, R192). -/
theorem getSends_streamSend {w f k : Nat} {p : Packet} {s : State} (hk : sendKey w f (niOf p.dest) p.cls p.spart = k) (haway : niOf p.dest ≠ w + f * 64)
    (hroom : (s.getSends k).unacked.length < s.rd TRN_CFG_WINDOW w 0) : ((streamSend w f p s).getSends k).unacked.length = (s.getSends k).unacked.length + 1 ∧
      ((streamSend w f p s).getSends k).next = ((s.getSends k).next + 1) % 2 ^ 30 := by
  have hopen : ¬ max 1 (s.rd TRN_CFG_WINDOW w 0) ≤ (s.getSends k).unacked.length := by omega
  unfold streamSend
  simp only [if_neg haway, hk, if_neg hopen]
  rw [(emitOn_keeps ..).getSends (by decide +kernel), State.getSends_putSends, if_pos rfl]
  exact ⟨List.length_append, rfl⟩

end Sys2Proof.Machine

open Sys2Proof Sys2Proof.Machine

/-- Settles O17: an element queues or discards, an output passes one flit of the packet that waits alone, and an NI sends the head of its only queue. -/
theorem routersAndInjection : Obligations.RoutersAndInjection := by
  refine fun w s => ⟨fun f e input p hworks =>
      ⟨fun hcrc haddr hact n up hroute => completes_routed rfl hworks hcrc haddr hact hroute, fun hcrc => ?_, fun i => ?_, fun hcrc hact => ?_⟩,
    fun f e out x n hworks hqueue hstarted hwaited hcls hflits => ⟨_, rfl, outputArbitration_leaves hworks hqueue hstarted hwaited hcls hflits rfl⟩,
    fun f e out vc => completes_creditReturn w f e out vc s, fun f q p rest hqueues hready => ?_⟩
  · exact ⟨_, congrArg Host.Outcome.next (routerForward_badHeader hworks hcrc), rd_discard w f e p s rfl (by decide) (by decide), arbs_discard ..⟩
  · exact ⟨_, congrArg Host.Outcome.next (routerForward_badEcc hworks i), rd_discard w f e p s rfl (by decide) (by decide), arbs_discard ..⟩
  · exact ⟨_, congrArg Host.Outcome.next (routerForward_deadAct hworks hcrc hact), rd_discard w f e p s rfl (by decide) (by decide), rd_discard_wafer ..⟩
  · obtain ⟨t, harb, hkeeps, hrest, hout⟩ := injectionArbitration_only hqueues hready
    have hsends := hkeeps.getSends (by decide +kernel) (sendKey w f (niOf p.dest) p.cls p.spart)
    have hwindow := hkeeps.rd TRN_CFG_WINDOW w 0 (by decide) (by decide +kernel)
    have hstamp : t.stamp w = s.stamp w := hkeeps.rd NET_ACT_STAT_STAMP w 0 (by decide) (by decide +kernel)
    refine ⟨_, congrArg Host.Outcome.next harb, ?_, fun hown => ?_, fun haway hroom => ?_⟩
    · rw [State.niQueue, (streamSend_keeps ..).getInjects (by decide +kernel)]
      exact hrest
    · rw [streamSend_own hown, hstamp, ← hout]
      rfl
    · rw [← hsends] at hroom ⊢
      exact getSends_streamSend rfl haway (hwindow ▸ hroom)

end

section
/-!
SUPPORT. Packets that arrive in the order of their stream (R148, R193): the state in which what such a packet carries happens, and what it reads as before.
-/
set_option Elab.async false
namespace Sys2Proof.Machine

/-- The state in which what a packet in order carries happens: its stream has counted it, unless it comes from the NI's own field (R138, R193). -/
def State.received (s : State) (w f : Nat) (p : Packet) : State :=
  let k := recvKey w f (niOf p.src) (p.tseq / 2 ^ 30) p.spart
  if niOf p.src = w + f * 64 then s
  else s.putRecvs k { s.getRecvs k with expect := ((s.getRecvs k).expect + 1) % 2 ^ 30, unacked := (s.getRecvs k).unacked + 1 }

/-- The mask of what the answer of a steal counts: the steal counters and the partitions' records. -/
def stealMask : Nat := 0x400 ||| regBit CORE_STEAL_OK ||| regBit CORE_STEAL_MISS

/-- The mask of what may have been written when a delivery takes effect: the receive streams, the atomics applied, and what a steal counts. -/
def arrivalMask : Nat := 0x18000 ||| stealMask

theorem State.received_keeps (s : State) (w f : Nat) (p : Packet) : Keeps 0x8000 s (s.received w f p) := by
  unfold State.received
  exact .ite (.refl ..) (State.putRecvs_keeps ..)

theorem State.received_arrival (s : State) (w f : Nat) (p : Packet) : Keeps arrivalMask s (s.received w f p) := (s.received_keeps w f p).widen (by decide +kernel)

theorem State.received_core (s : State) (w f : Nat) (p : Packet) (x y z : Nat) : (s.received w f p).core x y z = s.core x y z :=
  (s.received_keeps w f p).getCores (by decide) _

theorem State.received_niQueue (s : State) (w f : Nat) (p : Packet) (x y z : Nat) : (s.received w f p).niQueue x y z = s.niQueue x y z := by
  unfold State.niQueue
  rw [(s.received_keeps w f p).getInjects (by decide)]

/-! ## Arrivals -/

section
variable {w f : Nat} {p : Packet} {s : State} (h : s.inOrder w f p = true)
include h

/-- A packet in order is delivered, and its delivery is all that happens: nothing waits behind it, and its TACK is not due (R193, R194). -/
theorem arrive_inOrder {deliver : Packet → State → State} {m : Nat} (hkeeps : Keeps m (s.received w f p) (deliver p (s.received w f p))) (hm : m.testBit 15 = false) :
    arrive w f deliver p s = deliver p (s.received w f p) := by
  simp only [State.inOrder, Bool.and_eq_true, Bool.or_eq_true, beq_iff_eq, bne_iff_ne, Option.isNone_iff_eq_none, List.isEmpty_iff, decide_eq_true_eq] at h
  obtain ⟨⟨⟨⟨⟨⟨hhead, hpay⟩, -⟩, hnack⟩, hkind⟩, htyp⟩, hstream⟩ := h
  have hsound : ¬ (!p.hcrcOk || !p.pcrcOk || decide (14 ≤ p.typ) || (p.typ == 13 && !mgmtKindKnown (p.aux % 256))) = true := by
    simp only [hhead, hpay, Bool.not_true, Bool.false_or, Bool.or_eq_true, decide_eq_true_eq, Bool.and_eq_true, beq_iff_eq, Bool.not_eq_true', not_or, not_and, Nat.not_le]
    exact ⟨htyp, fun h13 hbad => by rcases hkind with hne | hok; exacts [hne h13, by simp [hok] at hbad]⟩
  unfold arrive
  rw [if_neg hsound, hnack]
  unfold State.received at hkeeps ⊢
  dsimp only at hkeeps ⊢
  generalize recvKey w f (niOf p.src) (p.tseq / 2 ^ 30) p.spart = k at hkeeps hstream ⊢
  by_cases hown : niOf p.src = w + f * 64
  · simp only [if_pos hown]
  · obtain ⟨⟨hexpect, hearly⟩, hunacked⟩ := hstream.resolve_left hown
    have hahead : (p.tseq % 2 ^ 30 + 2 ^ 30 - (s.getRecvs k).expect) % 2 ^ 30 = 0 := by omega
    have hcount := hkeeps.getRecvs hm k
    simp only [if_neg hown, State.getRecvs_putRecvs, if_true, hearly] at hcount ⊢
    simp only [hahead, List.length_nil, deliverEarly, if_true, hcount, if_neg (show ¬ 8 ≤ (s.getRecvs k).unacked + 1 by omega)]

/-- What a command of a packet in order comes to, where its delivery leads to `t`. -/
theorem completes_delivered {i : Instr} {typ m : Nat} {ecc : Ecc} {t : State} {P : State → Prop} (hexec : exec i s = .next (arrives w f typ p ecc s)) (htyp : p.typ = typ)
    (hdata : typ ≠ 13) (hdeliver : deliverData w f p ecc (s.received w f p) = t) (hkeeps : Keeps m (s.received w f p) t) (hm : m.testBit 15 = false) (hP : P t) :
    Completes i s P := by
  have hany : deliverAny w f p ecc p (s.received w f p) = t := by rw [deliverAny, if_neg (htyp ▸ hdata), if_pos rfl, hdeliver]
  have hdest : niOf p.dest = w + f * 64 := by
    simp only [State.inOrder, Bool.and_eq_true, beq_iff_eq] at h
    obtain ⟨⟨⟨⟨⟨-, hdest⟩, -⟩, -⟩, -⟩, -⟩ := h
    exact hdest
  have harrive := arrive_inOrder h (deliver := deliverAny w f p ecc) (hany ▸ hkeeps) hm
  refine ⟨t, ?_, hP⟩
  rw [hexec, arrives, if_pos ⟨htyp, hdest⟩, harrive, hany]

end

/-! ## What a delivered packet does at a compute field, by its type (R146) -/

section
variable {w f : Nat} {p : Packet} {ecc : Ecc} {s : State} (hf : f < 72)
include hf

theorem deliverData_scratch (htyp : p.typ = 0 ∨ p.typ = 2 ∨ p.typ = 5 ∨ p.typ = 7) :
    deliverData w f p ecc s = toScratch w f (addrUnit p.dest) p.addr p.payload s := by
  rcases htyp with h | h | h | h <;> simp only [deliverData, if_neg (Nat.not_le.mpr hf), h]

theorem deliverData_fetch (htyp : p.typ = 1) : deliverData w f p ecc s = fetchServed w f p ecc s := by simp only [deliverData, if_neg (Nat.not_le.mpr hf), htyp]

theorem deliverData_signal (htyp : p.typ = 3) : deliverData w f p ecc s = signalDelivered w f p s := by simp only [deliverData, if_neg (Nat.not_le.mpr hf), htyp]

theorem deliverData_stealReq (htyp : p.typ = 9) : deliverData w f p ecc s = stealServed w f p s := by simp only [deliverData, if_neg (Nat.not_le.mpr hf), htyp]

theorem deliverData_stealAns (htyp : p.typ = 10) : deliverData w f p ecc s = stealAnswered w f p s := by simp only [deliverData, if_neg (Nat.not_le.mpr hf), htyp]

variable (hunit : addrUnit p.dest = 601) (hon : s.loftOn w f = true)
include hunit hon

theorem deliverData_lget (htyp : p.typ = 4) : deliverData w f p ecc s = lgetServed w f p ecc s := by
  simp only [deliverData, if_neg (Nat.not_le.mpr hf), htyp, hunit, hon, true_or, and_self, if_true]

theorem deliverData_lput (htyp : p.typ = 6) : deliverData w f p ecc s = lputServed w f p ecc s := by
  simp only [deliverData, if_neg (Nat.not_le.mpr hf), htyp, hunit, hon, true_or, and_self, if_true]

theorem deliverData_atom (htyp : p.typ = 8) : deliverData w f p ecc s = atomServed w f p ecc s := by
  simp only [deliverData, if_neg (Nat.not_le.mpr hf), htyp, hunit, hon, true_or, and_self, if_true]

end

/-! ## What reads as before -/

section
variable {s t : State} (h : Keeps arrivalMask s t)
include h

theorem Keeps.rd_def {y : Fld} (hy : y.reg = PRT_DEF) (w p : Nat) : t.rd y w p = s.rd y w p := h.rd y w p (by rw [hy]; decide) (by rw [hy]; decide +kernel)

theorem Keeps.quadOf (w p q : Nat) : t.quadOf false w p q = s.quadOf false w p q := by
  simp only [State.quadOf, h.regs PRT_QMASK w _ (by decide) (by decide +kernel), Bool.false_eq_true, if_false]

theorem Keeps.partOfCore (w f u : Nat) : t.partOfCore w f u = s.partOfCore w f u := by
  have hskip : ∀ c, t.skipRow w f c = s.skipRow w f c := fun c => by unfold State.skipRow; rw [h.regs BUP_SKIP w _ (by decide) (by decide +kernel)]
  simp only [State.partOfCore, State.logicalRow, State.partOfQuad, hskip, h.rd_def (y := PRT_DEF_VALID) rfl, h.quadOf]

theorem Keeps.unitPart (w f u : Nat) : t.unitPart w f u = s.unitPart w f u := by rw [State.unitPart, h.partOfCore, State.unitPart]

/-- How a core's packets are served depends on the core and on its partition's hold (R420, R429). -/
theorem Keeps.serve {w f u : Nat} (hcore : t.core w f u = s.core w f u)
    (hparts : ∀ q, (t.part w q).held = (s.part w q).held ∧ (t.part w q).discardAccept = (s.part w q).discardAccept) : t.serve w f u = s.serve w f u := by
  simp only [State.serve, h.partOfCore, hcore, fun q => (hparts q).1, fun q => (hparts q).2]

theorem Keeps.localPart (w : Nat) (p : Packet) : t.localPart w p = s.localPart w p := by
  simp only [State.localPart, State.defined, h.rd_def (y := PRT_DEF_VALID) rfl, h.rd_def (y := PRT_DEF_JOB_ID) rfl, h.rd_def (y := PRT_DEF_LEAD_SLOT) rfl]

theorem Keeps.regionMap (w f p off n : Nat) : t.regionMap w f p off n = s.regionMap w f p off n := by
  have hquarters : t.quartersOf w p f = s.quartersOf w p f := by simp only [State.quartersOf, h.quadOf]
  unfold State.regionMap
  rw [hquarters, h.rd LOFT_STG_PART_PART w f (by decide) (by decide +kernel)]

theorem Keeps.loftRanges (w f : Nat) (p : Packet) (n : Nat) : t.loftRanges w f p n = s.loftRanges w f p n := by
  unfold State.loftRanges
  rw [h.localPart]
  cases s.localPart w p with
  | none => rfl
  | some q => simp only [h.regionMap]

theorem Keeps.loftOn (w f : Nat) : t.loftOn w f = s.loftOn w f := by
  simp only [State.loftOn, State.domOn, h.rd PWR_DOM_STAT_STATE w _ (by decide) (by decide +kernel)]

theorem Keeps.loftDead (w f : Nat) : t.loftDead w f = s.loftDead w f := by
  simp only [State.loftDead, h.rd LOFT_STAT_DEAD w f (by decide) (by decide +kernel)]

end

/-! ## A message of one packet -/

theorem segmentMsg_short (p : Packet) (bs : List Nat) (hne : 1 ≤ bs.length) (hmax : bs.length ≤ 512) : segmentMsg p bs = [{ p with payload := bs }] := by
  rw [segmentMsg_eq p bs hne, show (bs.length + 511) / 512 = 1 by omega]
  simp [segment, List.take_of_length_le hmax]

/-- An answer of at most 512 bytes is one packet at the end of its queue (R144, R153). -/
theorem niQueue_respond (w f : Nat) (p : Packet) (bs : List Nat) (s : State) (hne : 1 ≤ bs.length) (hmax : bs.length ≤ 512) :
    (respond w f p bs s).niQueue w f p.spart = s.niQueue w f p.spart ++ [{ p with cls := 1, payload := bs }] := by
  rw [respond, segmentMsg_short _ _ hne hmax]
  exact niQueue_enqueue w f { p with cls := 1, payload := bs } s

end Sys2Proof.Machine

end

section
/-!
PROOF. What a packet does at a core that is served live (R96, R116-R118, R146).
-/
set_option Elab.async false
namespace Sys2Proof.Machine

/-! ## The deliveries, for a live core -/

section
variable {w f u : Nat} {p : Packet} {s : State} (hu : addrUnit p.dest = u) (hlive : s.serve w f u = .live)

include hlive in
theorem toScratch_live {bs : List Nat} {a : Nat} (hacc : accessible a bs.length = true) :
    toScratch w f u a bs s = s.modCore w f u fun c => c.deliver a bs := by
  simp only [toScratch, hacc, hlive, Bool.not_true, Bool.false_eq_true, if_false]

include hu hlive

theorem fetchServed_live (hp : (s.core w f u).spadPoison = []) : fetchServed w f p .good s =
    respond w f { typ := 2, dest := p.src, src := physAddr w f u, spart := s.unitPart w f u, addr := fieldOf p.payload 0 4 }
      ((s.core w f u).bytes p.addr ((p.aux + 1) * 4)) s := by
  have hnone : ((wordsOf p.addr ((p.aux + 1) * 4)).find? fun k => (s.core w f u).spadPoison.contains k) = none := by simp [hp]
  simp only [fetchServed, hu, hlive, hnone]

theorem signalDelivered_unawaited (hwait : (s.core w f u).wait = .none) : signalDelivered w f p s = s.modCore w f u fun c => c.addSignal (p.aux % 16) := by
  simp only [signalDelivered, hu, hlive, State.core_modCore, Core.addSignal, hwait]

/-- A core whose WAIT the signal satisfies ends the wait and goes on (R96). -/
theorem signalDelivered_reached {n : Nat} (hwait : (s.core w f u).wait = .signal (p.aux % 16) n)
    (hcount : n ≤ ((s.core w f u).addSignal (p.aux % 16)).signal (p.aux % 16)) : signalDelivered w f p s =
      stepEnd w f u (openTokens w f u (advance w f u (endWait w f u (s.modCore w f u fun c => c.addSignal (p.aux % 16))))) := by
  have hstill : ((s.core w f u).addSignal (p.aux % 16)).wait = .signal (p.aux % 16) n := hwait
  simp only [signalDelivered, hu, hlive, State.core_modCore, hstill, true_and, if_pos hcount]

/-- The top entry of the first deque that holds one is given away, and counted (R116). -/
theorem stealServed_gives {d e pt : Nat} {q : List Nat} (hst : (s.core w f u).st ≠ .halt) (hpart : (s.core w f u).part = some pt)
    (htop : (s.core w f u).topDeque = some d) (hd : (s.core w f u).deques.getD d [] = e :: q) : stealServed w f p s =
      enqueue w f { typ := 10, cls := 1, dest := p.src, src := physAddr w f u, spart := s.unitPart w f u, aux := 1, payload := leBytes 4 e }
        ((s.setCore w f u { s.core w f u with deques := (s.core w f u).deques.set d q }).modPart w pt fun x => { x with stealing := x.stealing + 1 }) := by
  have hgive : s.serve w f u = .live ∧ (s.core w f u).st ≠ .halt ∧ (s.core w f u).part.isSome = true :=
    ⟨hlive, hst, by rw [hpart]; rfl⟩
  simp only [stealServed, hu, if_pos hgive, htop]
  simp only [hd, hpart, List.drop_one, List.tail_cons, List.headD_cons]

end

/-- What a steal's answer counts before the core takes it (R117). -/
def stealCounted (w f pt : Nat) (got : Bool) (s : State) : State :=
  if got then (s.bump CORE_STEAL_OK_COUNT w f 1).modPart w pt fun x => { x with stealing := x.stealing - 1 } else s.bump CORE_STEAL_MISS_COUNT w f 1

theorem stealCounted_keeps (w f pt : Nat) (got : Bool) (s : State) : Keeps stealMask s (stealCounted w f pt got s) := by
  unfold stealCounted
  refine .ite (.next (State.modPart_keeps ..) (by decide +kernel) ((State.bump_keeps ..).widen (by decide +kernel))) ((State.bump_keeps ..).widen (by decide +kernel))

theorem stealCounted_core (w f pt : Nat) (got : Bool) (s : State) (x y z : Nat) : (stealCounted w f pt got s).core x y z = s.core x y z :=
  (stealCounted_keeps w f pt got s).getCores (by decide +kernel) _

/-- Counting changes how no core is served. -/
theorem stealCounted_serve (w f pt : Nat) (got : Bool) (s : State) (x y z : Nat) : (stealCounted w f pt got s).serve x y z = s.serve x y z := by
  refine ((stealCounted_keeps w f pt got s).widen (by decide +kernel) : Keeps arrivalMask _ _).serve (stealCounted_core ..) fun q => ?_
  unfold stealCounted
  cases got
  · exact ⟨rfl, rfl⟩
  · simp only [if_true, State.modPart, State.part, State.getParts_putParts]
    split
    · rename_i hkey
      rw [hkey]
      exact ⟨rfl, rfl⟩
    · exact ⟨rfl, rfl⟩

section
variable {w f u pt : Nat} {p : Packet} {s : State} (hu : addrUnit p.dest = u) (hlive : s.serve w f u = .live) (hst : (s.core w f u).st = .steal)
  (hpart : (s.core w f u).part = some pt)
include hu hlive hst hpart

theorem stealAnswered_entry (haux : p.aux = 1) : stealAnswered w f p s = (stealCounted w f pt true s).setCore w f u
    { (s.core w f u).startTask (fieldOf p.payload 0 4) with stealAt := 0 } := by
  have hserve := (stealCounted_serve w f pt true s w f u).trans hlive
  simp only [stealCounted, if_true] at hserve
  simp [stealAnswered, stealCounted, hu, hpart, haux, hst, hserve]

theorem stealAnswered_empty (haux : p.aux = 0) : stealAnswered w f p s = (stealCounted w f pt false s).setCore w f u
    { s.core w f u with st := .idle, stealAt := (s.core w f u).stealAt + 1 } := by
  have hserve := (stealCounted_serve w f pt false s w f u).trans hlive
  simp only [stealCounted, Bool.false_eq_true, if_false] at hserve
  simp [stealAnswered, stealCounted, hu, hpart, haux, hst, hserve]

end

/-! ## Cores after a delivery -/

/-- A core's scratchpad holds the payload of a packet at its address, and all else of it is as before. -/
theorem Core.deliver_writes {c : Core} (a : Nat) (bs : List Nat) (h : c.spadPoison = []) : (∀ i < bs.length, (c.deliver a bs).byte (a + i) = bs.getD i 0 % 256) ∧
    (∀ b, b < a ∨ a + bs.length ≤ b → (c.deliver a bs).byte b = c.byte b) ∧ (c.deliver a bs).g = c.g ∧ (c.deliver a bs).pc = c.pc := by
  obtain ⟨m, hm⟩ := c.deliver_eq a bs h
  exact ⟨fun i hi => c.byte_deliver_inside a bs h hi, fun b hb => c.byte_deliver_outside a bs h hb, by rw [hm], by rw [hm]⟩

theorem Core.signal_addSignal (c : Core) (k : Nat) : (c.addSignal k).signal k = (c.signal k + 1) % 2 ^ 32 := by
  simp [Core.signal, Core.addSignal]

/-- The end of a wait leaves of the core all but the wait. -/
theorem core_endWait (w f u : Nat) (s : State) : (endWait w f u s).core w f u = { s.core w f u with wait := .none } := by
  unfold endWait
  dsimp only
  split
  · rename_i hnone
    rw [← hnone]
  · rw [State.core_modCore]
  · rw [State.core_modCore]
    rfl

/-- The first deque that holds an entry, by its top one. -/
theorem Core.topDeque_of_top {c : Core} {d e : Nat} {q : List Nat} (hd4 : d < 4) (hd : c.deques[d]? = some (e :: q)) (hlower : ∀ k < d, c.deques.getD k [] = []) :
    c.topDeque = some d :=
  Core.topDeque_eq_some (d := ⟨d, hd4⟩) (hd.trans (congrArg some (List.dropLast_append_getLast (List.cons_ne_nil e q)).symm)) hlower

/-! ## The commands -/

section
variable {w : WaferId} {f : Fin 84} {u : Nat} {p : Packet} {s : State} (hf : f.val < 72) (h : s.inOrder w f p = true) (hu : addrUnit p.dest = u)
  (hlive : s.serve w f u = .live)

include hlive in
/-- Counting an arrival changes how no core is served. -/
theorem received_live : (s.received w f p).serve w f u = .live :=
  ((s.received_arrival w f p).serve (s.received_core ..) fun q => by rw [State.part, (s.received_keeps w f p).getParts (by decide)]; exact ⟨rfl, rfl⟩).trans hlive

include hf h hu hlive

theorem completes_scratchWrite {i : Instr} {typ : Nat} (hacc : accessible p.addr p.payload.length = true)
    (hexec : exec i s = .next (arrives w f typ p .good s)) (htyp : p.typ = typ) (hkind : typ = 0 ∨ typ = 2 ∨ typ = 5 ∨ typ = 7) :
    Completes i s fun t => t.core w f u = (s.core w f u).deliver p.addr p.payload := by
  have hdeliver : deliverData w f p .good (s.received w f p) = (s.received w f p).modCore w f u fun c => c.deliver p.addr p.payload := by
    rw [deliverData_scratch hf (htyp ▸ hkind), hu, toScratch_live (received_live hlive) hacc]
  refine completes_delivered h hexec htyp (by omega) hdeliver (State.modCore_keeps ..) (by decide +kernel) ?_
  rw [State.core_modCore, State.received_core]

theorem completes_fetchReq_live (hp : (s.core w f u).spadPoison = []) (htyp : p.typ = 1) (hmax : p.aux < 128) :
    Completes (.fetchReq w f p .good) s fun t => t.niQueue w f (s.unitPart w f u) = s.niQueue w f (s.unitPart w f u) ++
      [{ typ := 2, cls := 1, dest := p.src, src := physAddr w f u, spart := s.unitPart w f u, addr := fieldOf p.payload 0 4
         payload := (s.core w f u).bytes p.addr ((p.aux + 1) * 4) }] := by
  have hcore := s.received_core w f p w f u
  have hdeliver := deliverData_fetch (w := w) (ecc := .good) (s := s.received w f p) hf htyp
  rw [fetchServed_live hu (received_live hlive) (by rw [hcore]; exact hp), hcore, (s.received_arrival w f p).unitPart] at hdeliver
  have hlen := (s.core w f u).bytes_length p.addr ((p.aux + 1) * 4)
  refine completes_delivered h rfl htyp (by decide) hdeliver (respond_keeps ..) (by decide) ?_
  exact (niQueue_respond _ _ _ _ _ (by omega) (by omega)).trans (by rw [State.received_niQueue])

theorem completes_signal_unawaited (htyp : p.typ = 3) (hwait : (s.core w f u).wait = .none) : Completes (.signalDelivery w f p) s fun t =>
    t.core w f u = (s.core w f u).addSignal (p.aux % 16) := by
  have hcore := s.received_core w f p w f u
  have hdeliver := deliverData_signal (w := w) (ecc := .good) (s := s.received w f p) hf htyp
  rw [signalDelivered_unawaited hu (received_live hlive) (by rw [hcore]; exact hwait)] at hdeliver
  refine completes_delivered h rfl htyp (by decide) hdeliver (State.modCore_keeps ..) (by decide +kernel) ?_
  rw [State.core_modCore, hcore]

theorem completes_signal_reached {n : Nat} (htyp : p.typ = 3) (hwait : (s.core w f u).wait = .signal (p.aux % 16) n)
    (hcount : n ≤ ((s.core w f u).signal (p.aux % 16) + 1) % 2 ^ 32) (hstep : (s.core w f u).stepping = false) :
    Completes (.signalDelivery w f p) s fun t => (t.core w f u).wait = .none ∧ (t.core w f u).pc = (s.core w f u).pc + 1 := by
  have hcore := s.received_core w f p w f u
  have hdeliver := deliverData_signal (w := w) (ecc := .good) (s := s.received w f p) hf htyp
  have hafter : (openTokens w f u (advance w f u (endWait w f u ((s.received w f p).modCore w f u fun c => c.addSignal (p.aux % 16))))).core w f u =
      { (s.core w f u).addSignal (p.aux % 16) with wait := .none, pc := (s.core w f u).pc + 1 } := by
    rw [State.core_openTokens, advance, State.core_modCore, core_endWait, State.core_modCore, hcore]
    rfl
  rw [signalDelivered_reached hu (received_live hlive) (by rw [hcore]; exact hwait) (by rw [hcore, Core.signal_addSignal]; exact hcount),
    stepEnd_of_not_stepping (by rw [hafter]; exact hstep)] at hdeliver
  refine completes_delivered h (m := coreMask ||| regBit TEL_CORE_WAIT) rfl htyp (by decide) hdeliver ?_ (by decide +kernel) (by rw [hafter]; exact ⟨rfl, rfl⟩)
  exact .next (openTokens_keeps ..) (by decide +kernel) (.next (advance_keeps ..) (by decide +kernel) (.next (endWait_keeps ..) (by decide +kernel)
    ((State.modCore_keeps ..).widen (by decide +kernel))))

theorem completes_stealReq_gives {d e pt : Nat} {q : List Nat} (htyp : p.typ = 9) (hst : (s.core w f u).st ≠ .halt)
    (hpart : (s.core w f u).part = some pt) (hd4 : d < 4) (hd : (s.core w f u).deques[d]? = some (e :: q))
    (hlower : ∀ k < d, (s.core w f u).deques.getD k [] = []) : Completes (.stealReq w f p) s fun t =>
      (t.core w f u).deques = (s.core w f u).deques.set d q ∧
      t.niQueue w f (s.unitPart w f u) = s.niQueue w f (s.unitPart w f u) ++
        [{ typ := 10, cls := 1, dest := p.src, src := physAddr w f u, spart := s.unitPart w f u, aux := 1, payload := leBytes 4 e }] := by
  have hcore := s.received_core w f p w f u
  have hdeliver := deliverData_stealReq (w := w) (ecc := .good) (s := s.received w f p) hf htyp
  rw [stealServed_gives hu (received_live hlive) (by rw [hcore]; exact hst) (by rw [hcore]; exact hpart) (by rw [hcore]; exact Core.topDeque_of_top hd4 hd hlower)
    (by rw [hcore, List.getD_eq_getElem?_getD, hd]; rfl), hcore, (s.received_arrival w f p).unitPart] at hdeliver
  have hmod := fun (t : State) g => t.modPart_keeps w pt g
  refine completes_delivered h (m := coreMask ||| 0x80400) rfl htyp (by decide) hdeliver ?_ (by decide +kernel) ⟨?_, ?_⟩
  · exact .next (enqueue_keeps ..) (by decide +kernel) (.next (hmod _ _) (by decide +kernel) ((State.setCore_keepsMask ..).widen (by decide +kernel)))
  · rw [core_enqueue, State.core, (hmod _ _).getCores (by decide)]
    exact congrArg Core.deques (State.core_setCore ..)
  · refine (niQueue_enqueue ..).trans (congrArg (· ++ _) ?_)
    rw [State.niQueue, (hmod _ _).getInjects (by decide)]
    exact (State.niQueue_setCore ..).trans (State.received_niQueue ..)

omit hu hlive in
/-- What the answer of a steal comes to, where its core becomes `c` and its counts are made. -/
theorem completes_stealAns {pt : Nat} {got : Bool} {c : Core} {y : Fld} (htyp : p.typ = 10) (hy : y.reg.id ≠ CORE_STAT.id)
    (hanswer : stealAnswered w f p (s.received w f p) = (stealCounted w f pt got (s.received w f p)).setCore w f u c) :
    Completes (.stealAns w f p) s fun t => t.core w f u = c ∧ t.rd y w f = (stealCounted w f pt got (s.received w f p)).rd y w f := by
  have hdeliver := (deliverData_stealAns (w := w) (ecc := .good) (s := s.received w f p) hf htyp).trans hanswer
  refine completes_delivered h (m := coreMask ||| stealMask) rfl htyp (by decide) hdeliver ?_ (by decide +kernel) ⟨State.core_setCore .., ?_⟩
  · exact .next (State.setCore_keepsMask ..) (by decide +kernel) ((stealCounted_keeps ..).widen (by decide +kernel))
  · rw [State.rd, State.reg_setCore _ _ _ _ _ _ _ hy, State.rd]

theorem completes_stealAns_entry {pt : Nat} (htyp : p.typ = 10) (hst : (s.core w f u).st = .steal) (hpart : (s.core w f u).part = some pt)
    (haux : p.aux = 1) : Completes (.stealAns w f p) s fun t =>
      t.core w f u = { (s.core w f u).startTask (fieldOf p.payload 0 4) with stealAt := 0 } ∧
      t.rd CORE_STEAL_OK_COUNT w f = satAdd CORE_STEAL_OK_COUNT.width (s.rd CORE_STEAL_OK_COUNT w f) 1 := by
  have hcore := s.received_core w f p w f u
  have hanswer := stealAnswered_entry hu (received_live hlive) (by rw [hcore]; exact hst) (by rw [hcore]; exact hpart) haux
  have hcount : (stealCounted w f pt true (s.received w f p)).rd CORE_STEAL_OK_COUNT w f = satAdd CORE_STEAL_OK_COUNT.width (s.rd CORE_STEAL_OK_COUNT w f) 1 := by
    rw [← (s.received_keeps w f p).rd CORE_STEAL_OK_COUNT w f (by decide) (by decide +kernel), stealCounted, if_pos rfl, State.modPart, State.rd_putParts]
    exact State.rd_bump_same _ _ _ _ _ (by decide) (by decide)
  rw [hcore] at hanswer
  exact (completes_stealAns hf h htyp (by decide) hanswer).imp fun t ⟨hc, hrd⟩ => ⟨hc, hrd.trans hcount⟩

theorem completes_stealAns_empty {pt : Nat} (htyp : p.typ = 10) (hst : (s.core w f u).st = .steal) (hpart : (s.core w f u).part = some pt)
    (haux : p.aux = 0) : Completes (.stealAns w f p) s fun t =>
      t.core w f u = { s.core w f u with st := .idle, stealAt := (s.core w f u).stealAt + 1 } ∧
      t.rd CORE_STEAL_MISS_COUNT w f = satAdd CORE_STEAL_MISS_COUNT.width (s.rd CORE_STEAL_MISS_COUNT w f) 1 := by
  have hcore := s.received_core w f p w f u
  have hanswer := stealAnswered_empty hu (received_live hlive) (by rw [hcore]; exact hst) (by rw [hcore]; exact hpart) haux
  have hcount : (stealCounted w f pt false (s.received w f p)).rd CORE_STEAL_MISS_COUNT w f = satAdd CORE_STEAL_MISS_COUNT.width (s.rd CORE_STEAL_MISS_COUNT w f) 1 := by
    rw [← (s.received_keeps w f p).rd CORE_STEAL_MISS_COUNT w f (by decide) (by decide +kernel), stealCounted, if_neg Bool.false_ne_true]
    exact State.rd_bump_same _ _ _ _ _ (by decide) (by decide)
  rw [hcore] at hanswer
  exact (completes_stealAns hf h htyp (by decide) hanswer).imp fun t ⟨hc, hrd⟩ => ⟨hc, hrd.trans hcount⟩

end

end Sys2Proof.Machine

open Sys2Proof Sys2Proof.Machine

/-- Settles O18: each packet is delivered at once, and what it does is one write of the core, one packet in answer, or both. -/
theorem deliveriesAtACore : Obligations.DeliveriesAtACore := by
  intro w f p s hf h u c hlive hp writes
  refine ⟨fun hacc => ?_, fun htyp hmax => completes_fetchReq_live hf h rfl hlive hp htyp hmax, fun htyp hwait => ?_, fun k n htyp hk hwait hcount hstep => ?_,
    fun d e pt q htyp hst hpart hd4 hd hlower => completes_stealReq_gives hf h rfl hlive htyp hst hpart hd4 hd hlower,
    fun pt htyp hst hpart => ⟨fun haux => ?_, fun haux => ?_⟩⟩
  · have hwrites : ∀ t : State, t.core w f u = c.deliver p.addr p.payload → writes t := fun t ht => by
      simp only [writes, ht]
      exact Core.deliver_writes p.addr p.payload hp
    have hone := fun {i : Instr} {typ : Nat} hexec htyp hkind =>
      (completes_scratchWrite (i := i) (typ := typ) hf h rfl hlive hacc hexec htyp hkind).imp hwrites
    exact ⟨fun htyp => hone rfl htyp (by decide), fun htyp => hone rfl htyp (by decide), fun htyp => hone rfl htyp (by decide), fun htyp => hone rfl htyp (by decide)⟩
  · refine (completes_signal_unawaited hf h rfl hlive htyp hwait).imp fun t ht => ⟨ht, ?_⟩
    rw [ht, Core.signal_addSignal]
  · subst hk
    exact completes_signal_reached hf h rfl hlive htyp hwait hcount hstep
  · refine (completes_stealAns_entry hf h rfl hlive htyp hst hpart haux).imp fun t ⟨ht, hcount⟩ => ?_
    rw [ht]
    exact ⟨rfl, rfl, Core.startTask_reg _, hcount⟩
  · refine (completes_stealAns_empty hf h rfl hlive htyp hst hpart haux).imp fun t ⟨ht, hcount⟩ => ?_
    rw [ht]
    exact ⟨rfl, rfl, hcount⟩

end

section
/-!
SUPPORT. The bytes of a loft after a write into it (R339, R347, R349).
-/
set_option Elab.async false
namespace Sys2Proof.Machine

/-! ## Bytes by their key -/

/-- The byte at a key of the lofts' memory. -/
def State.byteAt (s : State) (x : Nat) : Nat := (mget (0 : Byte) s.loft x).toNat

theorem State.loftByte_eq (s : State) (w f a : Nat) : s.loftByte w f a = s.byteAt (loftKey w f a) := rfl

theorem Keeps.byteAt {m : Nat} {s t : State} (h : Keeps m s t) (hm : m.testBit 0 = false) (x : Nat) : t.byteAt x = s.byteAt x := by
  rw [State.byteAt, (h.loft hm).1, State.byteAt]

theorem loftKey_add (w f o i : Nat) : loftKey w f (o + i) = loftKey w f o + i := (Nat.add_assoc ..).symm

theorem loftKey_from_zero (w f a : Nat) : loftKey w f a = loftKey w f 0 + a := by rw [← loftKey_add, Nat.zero_add]

/-! ## Stored bytes -/

theorem mget_storeBytes (w f off : Nat) (bs : List Nat) (m : List Host.Cell) (n x : Nat) :
    (mget (0 : Byte) ((bs.zipIdx n).foldl (fun m bi => mset (0 : Byte) m (loftKey w f (off + bi.2)) (BitVec.ofNat 8 bi.1)) m) x).toNat =
      if loftKey w f off + n ≤ x ∧ x < loftKey w f off + n + bs.length then bs.getD (x - (loftKey w f off + n)) 0 % 256 else (mget (0 : Byte) m x).toNat := by
  induction bs generalizing m n with
  | nil => rw [if_neg (by simp)]; rfl
  | cons b bs ih =>
    rw [List.zipIdx_cons, List.foldl_cons, ih, mget_mset, loftKey_add, List.length_cons]
    by_cases hx : x = loftKey w f off + n
    · rw [if_neg (by omega), if_pos hx, if_pos (by omega), hx, Nat.sub_self, List.getD_cons_zero]
      exact BitVec.toNat_ofNat b 8
    · by_cases hin : loftKey w f off + (n + 1) ≤ x ∧ x < loftKey w f off + (n + 1) + bs.length
      · rw [if_pos hin, if_pos (by omega), show x - (loftKey w f off + n) = x - (loftKey w f off + (n + 1)) + 1 by omega, List.getD_cons_succ]
      · rw [if_neg hin, if_neg hx, if_neg (by omega)]

theorem byteAt_storeBytes (w f off : Nat) (bs : List Nat) (s : State) (x : Nat) : (storeBytes w f off bs s).byteAt x =
    if loftKey w f off ≤ x ∧ x < loftKey w f off + bs.length then bs.getD (x - loftKey w f off) 0 % 256 else s.byteAt x := by
  have hread := mget_storeBytes w f off bs s.loft 0 x
  rwa [Nat.add_zero] at hread

theorem poisoned_storeBytes (w f off : Nat) (bs : List Nat) (s : State) (x y a : Nat) : (storeBytes w f off bs s).poisoned x y a = s.poisoned x y a := rfl

/-! ## Lines (R339, R349) -/

/-- The bytes of `bs`, written at `off`, that fall into the line at `line`. -/
def linePart (off : Nat) (bs : List Nat) (line : Nat) : List Nat := (bs.drop (max off line - off)).take (min (off + bs.length) (line + 64) - max off line)

theorem linePart_length (off : Nat) (bs : List Nat) (line : Nat) : (linePart off bs line).length = min (off + bs.length) (line + 64) - max off line := by
  rw [linePart, List.length_take, List.length_drop]
  omega

theorem writeLine_sound {w f off line : Nat} {bs : List Nat} {s : State} (h : s.poisoned w f line = false) :
    writeLine w f off bs line s = storeBytes w f (max off line) (linePart off bs line) s := by
  simp only [writeLine, h, Bool.false_eq_true, if_false]
  rfl

theorem byteAt_writeLine {w f off line : Nat} {bs : List Nat} {s : State} (h : s.poisoned w f line = false) (x : Nat) : (writeLine w f off bs line s).byteAt x =
    if (loftKey w f off ≤ x ∧ x < loftKey w f off + bs.length) ∧ loftKey w f line ≤ x ∧ x < loftKey w f line + 64 then bs.getD (x - loftKey w f off) 0 % 256
    else s.byteAt x := by
  have hkey := loftKey_from_zero w f
  rw [writeLine_sound h, byteAt_storeBytes, linePart_length, hkey (max off line), hkey off, hkey line]
  by_cases hin : (loftKey w f 0 + off ≤ x ∧ x < loftKey w f 0 + off + bs.length) ∧ loftKey w f 0 + line ≤ x ∧ x < loftKey w f 0 + line + 64
  · rw [if_pos hin, if_pos (by omega), linePart]
    have hoff : max off line - off + (x - (loftKey w f 0 + max off line)) = x - (loftKey w f 0 + off) := by omega
    simp only [List.getD_eq_getElem?_getD]
    rw [List.getElem?_take_of_lt (by omega), List.getElem?_drop, hoff]
  · rw [if_neg hin, if_neg (by omega)]

theorem poisoned_writeLine {w f off line : Nat} {bs : List Nat} {s : State} (h : s.poisoned w f line = false) (a : Nat) :
    (writeLine w f off bs line s).poisoned w f a = s.poisoned w f a := by rw [writeLine_sound h, poisoned_storeBytes]

/-- Lines without poison, written one after another, hold the bytes that fall into them. -/
theorem byteAt_writeLines {w f off : Nat} {bs : List Nat} (ls : List Nat) {s : State} (h : ∀ l ∈ ls, s.poisoned w f l = false) (x : Nat) :
    (forEach ls s (writeLine w f off bs)).byteAt x =
      if (loftKey w f off ≤ x ∧ x < loftKey w f off + bs.length) ∧ ∃ l ∈ ls, loftKey w f l ≤ x ∧ x < loftKey w f l + 64 then
        bs.getD (x - loftKey w f off) 0 % 256
      else s.byteAt x := by
  induction ls generalizing s with
  | nil => rw [if_neg (by simp)]; rfl
  | cons l ls ih =>
    obtain ⟨hl, hrest⟩ := List.forall_mem_cons.mp h
    have hstep := ih (s := writeLine w f off bs l s) fun k hk => (poisoned_writeLine hl k).trans (hrest k hk)
    refine hstep.trans ?_
    rw [byteAt_writeLine hl]
    simp only [List.mem_cons, exists_eq_or_imp]
    by_cases hin : loftKey w f off ≤ x ∧ x < loftKey w f off + bs.length
    · by_cases hhere : loftKey w f l ≤ x ∧ x < loftKey w f l + 64
      · simp only [hin, hhere, true_and, true_or, and_self, if_true, ite_self]
      · simp only [hin, hhere, true_and, false_or, if_false]
    · simp only [hin, false_and, if_false]

theorem mem_linesOf {off n a : Nat} (ha : off ≤ a) (hb : a < off + n) : a / 64 * 64 ∈ linesOf off n := by
  rw [linesOf, if_neg (by omega), List.mem_map]
  exact ⟨a / 64 - off / 64, List.mem_range.mpr (by omega), by omega⟩

/-- A line of a range is sound where the bytes of the range are. -/
theorem poisoned_linesOf {w f o n : Nat} {s : State} (h : ∀ i < n, s.poisoned w f (o + i) = false) : ∀ l ∈ linesOf o n, s.poisoned w f l = false := by
  intro l hl
  unfold linesOf at hl
  split at hl
  · cases hl
  · obtain ⟨i, hi, rfl⟩ := List.mem_map.mp hl
    have hi := List.mem_range.mp hi
    have hline : lineKey w f ((o / 64 + i) * 64) = lineKey w f (o + (max o ((o / 64 + i) * 64) - o)) := by
      unfold lineKey loftKey
      omega
    have hbyte := h (max o ((o / 64 + i) * 64) - o) (by omega)
    rwa [State.poisoned, ← hline] at hbyte

/-! ## Writes into a working loft -/

/-- A write into sound lines leaves its bytes in its range, and every other byte of every loft as before (R347). -/
theorem byteAt_loftWrite {w f off : Nat} {bs : List Nat} {s : State} (hdead : s.loftDead w f = false)
    (hsound : ∀ i < bs.length, s.poisoned w f (off + i) = false) (x : Nat) : (loftWrite w f off bs s).byteAt x =
      if loftKey w f off ≤ x ∧ x < loftKey w f off + bs.length then bs.getD (x - loftKey w f off) 0 % 256 else s.byteAt x := by
  have hlines : (loftWrite w f off bs s).byteAt x = (forEach (linesOf off bs.length) s (writeLine w f off bs)).byteAt x := by
    simp only [loftWrite, hdead, Bool.false_eq_true, if_false]
    rw [(sourceHit_keeps ..).byteAt (by decide +kernel), (State.incWrap_keeps ..).byteAt (by decide +kernel)]
  rw [hlines, byteAt_writeLines _ (poisoned_linesOf hsound)]
  by_cases hin : loftKey w f off ≤ x ∧ x < loftKey w f off + bs.length
  · have hline : ∃ l ∈ linesOf off bs.length, loftKey w f l ≤ x ∧ x < loftKey w f l + 64 := by
      rw [loftKey_from_zero w f off] at hin
      refine ⟨_, mem_linesOf (a := x - loftKey w f 0) (by omega) (by omega), ?_⟩
      rw [loftKey_from_zero]
      omega
    rw [if_pos ⟨hin, hline⟩, if_pos hin]
  · rw [if_neg fun hc => hin hc.1, if_neg hin]

/-- Bytes stored at an offset of a loft: its range holds them, and every other byte of it and of the other lofts is as before. -/
def Stored (w f o : Nat) (bs : List Nat) (s t : State) : Prop :=
  (∀ i < bs.length, t.loftByte w f (o + i) = bs.getD i 0 % 256) ∧ (∀ a, a < o ∨ o + bs.length ≤ a → t.loftByte w f a = s.loftByte w f a) ∧
    ∀ w2 f2 a, f2 < 72 → a < 2 ^ 35 → (w2 ≠ w ∨ f2 ≠ f) → t.loftByte w2 f2 a = s.loftByte w2 f2 a

/-- A write into sound lines stores its bytes and no others, since lofts lie 2^35 keys apart. -/
theorem stored_loftWrite {w f o : Nat} {bs : List Nat} {s : State} (hf : f < 72) (hend : o + bs.length ≤ 2 ^ 35) (hdead : s.loftDead w f = false)
    (hsound : ∀ i < bs.length, s.poisoned w f (o + i) = false) : Stored w f o bs s (loftWrite w f o bs s) := by
  refine ⟨fun i hi => ?_, fun a ha => ?_, fun w2 f2 a hf2 ha hother => ?_⟩
  · rw [State.loftByte_eq, byteAt_loftWrite hdead hsound, loftKey_add, if_pos ⟨by omega, by omega⟩, Nat.add_sub_cancel_left]
  · rw [State.loftByte_eq, byteAt_loftWrite hdead hsound, if_neg (by unfold loftKey; omega), State.loftByte_eq]
  · rw [State.loftByte_eq, byteAt_loftWrite hdead hsound, if_neg (by unfold loftKey fieldKey; omega), State.loftByte_eq]

/-- What has been written before into no loft leaves what is stored. -/
theorem Stored.after {w f o : Nat} {bs : List Nat} {r s t : State} (h : Stored w f o bs s t) (hsame : SameLofts r s) : Stored w f o bs r t := by
  obtain ⟨hin, hout, hother⟩ := h
  obtain ⟨hbytes, -⟩ := hsame
  exact ⟨hin, fun a ha => (hout a ha).trans (hbytes ..), fun w2 f2 a hf2 ha hne => (hother w2 f2 a hf2 ha hne).trans (hbytes ..)⟩

/-- Bytes that are stored read as they were written. -/
theorem Stored.bytes {w f o : Nat} {bs : List Nat} {s t : State} (h : Stored w f o bs s t) (hbs : ∀ x ∈ bs, x < 256) : t.loftBytes w f o bs.length = bs := by
  obtain ⟨hin, -, -⟩ := h
  refine List.ext_getElem (by simp [State.loftBytes]) fun k _ hk => ?_
  have hread := hin k hk
  rw [List.getD_eq_getElem _ _ hk, Nat.mod_eq_of_lt (hbs _ (List.getElem_mem hk))] at hread
  simpa [State.loftBytes] using hread

end Sys2Proof.Machine

end

section
/-!
PROOF. What a packet does at a loft (R95, R146, R197, R347, R349).
-/
set_option Elab.async false
namespace Sys2Proof.Machine

/-! ## The deliveries, for one sound range -/

theorem State.loftBytes_length (s : State) (w f o n : Nat) : (s.loftBytes w f o n).length = n := by simp [State.loftBytes]

theorem readPieces_one (s : State) (w f o n : Nat) : s.readPieces w f [(o, n)] = s.loftBytes w f o n := List.append_nil _

theorem writePieces_one {w f o n : Nat} {bs : List Nat} (h : bs.length = n) (s : State) : writePieces w f [(o, n)] bs s = loftWrite w f o bs s := by
  rw [writePieces, writePieces, List.take_of_length_le h.le]

theorem piecesLines_sound {w f o n : Nat} {s : State} (h : ∀ i < n, s.poisoned w f (o + i) = false) : ((piecesLines [(o, n)]).any fun l => s.poisoned w f l) = false := by
  rw [piecesLines, List.flatMap_cons, List.flatMap_nil, List.append_nil, List.any_eq_false]
  intro l hl
  rw [poisoned_linesOf h l hl]
  decide

/-- A packet's access to `n` bytes at `o` of an ON loft that is not dead, inside its sender's region and on sound lines (R343, R349, R357, R359). -/
structure SoundAccess (w f o n : Nat) (p : Packet) (s : State) : Prop where
  on : s.loftOn w f = true
  alive : s.loftDead w f = false
  range : s.loftRanges w f p n = some [(o, n)]
  sound : ∀ i < n, s.poisoned w f (o + i) = false

theorem SoundAccess.keeps {w f o n : Nat} {p : Packet} {s t : State} (ha : SoundAccess w f o n p s) (h : Keeps arrivalMask s t) : SoundAccess w f o n p t where
  on := (h.loftOn w f).trans ha.on
  alive := (h.loftDead w f).trans ha.alive
  range := (h.loftRanges w f p n).trans ha.range
  sound i hi := ((h.sameLofts (by decide +kernel)).2 w f (o + i)).trans (ha.sound i hi)

/-- The state in which an ATOM is applied: its source and RID are noted among the last 1,024 (R197). -/
def State.atomNoted (s : State) (w f : Nat) (p : Packet) : State :=
  let pairs := (s.getReplays (niKey w f)).pairs
  s.putReplays (niKey w f) { pairs := (pairs ++ [(niOf p.src, p.rid)]).drop (pairs.length + 1 - 1024) }

theorem State.atomNoted_keeps (s : State) (w f : Nat) (p : Packet) : Keeps 0x10000 s (s.atomNoted w f p) := State.putReplays_keeps ..

/-- The bytes that an ATOM writes: its operation applied to the word that stands there (R95). -/
def State.atomBytes (s : State) (w f o n : Nat) (p : Packet) : List Nat :=
  leBytes n (atomResult (p.aux % 16) n (ofLeBytes (s.loftBytes w f o n)) (fieldOf p.payload 0 n))

/-- The operation of an ATOM by its number: add, minimum, maximum, or, and swap for any other one (R95). -/
theorem atomResult_eq (op b old v : Nat) : atomResult op b old v =
    if op = 0 then (old + v) % 2 ^ (8 * b) else if op = 1 then min old v else if op = 2 then max old v else if op = 3 then old ||| v else v := by
  unfold atomResult
  split
  · rfl
  · rfl
  · rfl
  · rfl
  · rename_i h0 h1 h2 h3
    rw [if_neg h0, if_neg h1, if_neg h2, if_neg h3]

/-- The mask of what an ATOM writes: its note, and what a write into a loft may write. -/
def atomMask : Nat := 0x14c004600000000000000000000000000010400000020009000800000000000000000000018000013 ||| 0x10000

theorem atomServed_replayed {w f : Nat} {p : Packet} {s : State} (hseen : (s.getReplays (niKey w f)).pairs.contains (niOf p.src, p.rid) = true) :
    atomServed w f p .good s = s.bump TRN_ATOM_REPLAY_COUNT w 0 1 := by
  simp only [atomServed, hseen, if_true]

section
variable {w f o n : Nat} {p : Packet} {s : State} (ha : SoundAccess w f o n p s)
include ha

theorem lgetServed_sound (hn : n = (p.aux + 1) * 4) : lgetServed w f p .good s =
    respond w f { typ := 5, dest := p.src, src := physAddr w f 601, spart := (s.localPart w p).getD noPart, addr := fieldOf p.payload 0 4 } (s.loftBytes w f o n)
      (loftCountRead w f n s) := by
  simp only [lgetServed, ← hn, ha.range, ha.alive, loftEcc, piecesLines_sound ha.sound, readPieces_one, Bool.false_eq_true, if_false]

theorem lputServed_sound (hlen : p.payload.length = n) : lputServed w f p .good s = loftWrite w f o p.payload s := by
  simp only [lputServed, hlen, ha.range, ha.alive, loftEcc, writePieces_one hlen, Bool.false_eq_true, if_false]

/-- The first ATOM of its source and RID is noted and applied (R95, R197). -/
theorem atomServed_first (hn : n = if bitAt p.aux 4 then 8 else 4) (halign : p.addr % n = 0)
    (hnew : (s.getReplays (niKey w f)).pairs.contains (niOf p.src, p.rid) = false) :
    atomServed w f p .good s = loftWrite w f o (s.atomBytes w f o n p) (s.atomNoted w f p) := by
  have hkeeps := s.atomNoted_keeps w f p
  have ha' := ha.keeps (hkeeps.widen (by decide +kernel))
  have hread : (s.atomNoted w f p).loftBytes w f o n = s.loftBytes w f o n := by simp only [State.loftBytes, (hkeeps.sameLofts (by decide)).1]
  have hnoted : s.putReplays (niKey w f) { pairs := ((s.getReplays (niKey w f)).pairs ++ [(niOf p.src, p.rid)]).drop ((s.getReplays (niKey w f)).pairs.length + 1 - 1024) } =
      s.atomNoted w f p := rfl
  simp only [atomServed, hnew, ← hn, hnoted, halign, ha'.range, ha'.alive, loftEcc, piecesLines_sound ha'.sound, readPieces_one, hread, State.atomBytes,
    writePieces_one (leBytes_length ..), Bool.false_eq_true, ne_eq, not_true, if_false]

end

/-! ## The commands -/

section
variable {w : WaferId} {f : Fin 84} {p : Packet} {o n : Nat} {s : State} (hf : f.val < 72) (h : s.inOrder w f p = true) (hunit : addrUnit p.dest = 601)
include hf h hunit

theorem completes_atom_replayed (hon : s.loftOn w f = true) (htyp : p.typ = 8) (hseen : (s.getReplays (niKey w f)).pairs.contains (niOf p.src, p.rid) = true) :
    Completes (.atomPacket w f p .good) s fun t =>
      t.rd TRN_ATOM_REPLAY_COUNT w 0 = satAdd TRN_ATOM_REPLAY_COUNT.width (s.rd TRN_ATOM_REPLAY_COUNT w 0) 1 ∧ SameLofts s t := by
  have hreceived := s.received_keeps w f p
  have hbump := (s.received w f p).bump_keeps TRN_ATOM_REPLAY_COUNT w 0 1
  have hdeliver := (deliverData_atom (ecc := .good) hf hunit (((s.received_arrival w f p).loftOn w f).trans hon) htyp).trans
    (atomServed_replayed (by rw [hreceived.getReplays (by decide)]; exact hseen))
  refine completes_delivered h rfl htyp (by decide) hdeliver hbump (by decide +kernel) ⟨?_, ?_⟩
  · rw [State.rd_bump_same _ _ _ _ _ (by decide) (by decide), hreceived.rd TRN_ATOM_REPLAY_COUNT w 0 (by decide) (by decide +kernel)]
  · exact (hbump.next (M := 0x8000 ||| regBit TRN_ATOM_REPLAY_COUNT.reg) (by decide +kernel) (hreceived.widen (by decide +kernel))).sameLofts (by decide +kernel)

variable (ha : SoundAccess w f o n p s)
include ha

theorem completes_lgetReq_sound (htyp : p.typ = 4) (hn : n = (p.aux + 1) * 4) (hmax : n ≤ 512) : Completes (.lgetReq w f p .good) s fun t =>
    t.niQueue w f ((s.localPart w p).getD noPart) = s.niQueue w f ((s.localPart w p).getD noPart) ++
      [{ typ := 5, cls := 1, dest := p.src, src := physAddr w f 601, spart := (s.localPart w p).getD noPart, addr := fieldOf p.payload 0 4
         payload := s.loftBytes w f o n }] ∧ SameLofts s t := by
  have hreceived := s.received_keeps w f p
  have ha' := ha.keeps (s.received_arrival w f p)
  have hread : (s.received w f p).loftBytes w f o n = s.loftBytes w f o n := by simp only [State.loftBytes, (hreceived.sameLofts (by decide)).1]
  have hdeliver := (deliverData_lget (ecc := .good) hf hunit ha'.on htyp).trans (lgetServed_sound ha' hn)
  rw [hread, (s.received_arrival w f p).localPart] at hdeliver
  have hcount := loftCountRead_keeps w f n (s.received w f p)
  have hlen := s.loftBytes_length w f o n
  have hkeeps := fun q bs => (respond_keeps w f q bs (loftCountRead w f n (s.received w f p))).next (M := 0x80000 ||| regBit LOFT_RD_BYTES) (by decide +kernel)
    (hcount.widen (by decide +kernel))
  refine completes_delivered h rfl htyp (by decide) hdeliver (hkeeps ..) (by decide +kernel) ⟨?_, ?_⟩
  · refine (niQueue_respond _ _ _ _ _ (by omega) (by omega)).trans (congrArg (· ++ _) ?_)
    rw [State.niQueue, hcount.getInjects (by decide +kernel)]
    exact s.received_niQueue ..
  · exact ((hkeeps ..).next (M := 0x88000 ||| regBit LOFT_RD_BYTES) (by decide +kernel) (hreceived.widen (by decide +kernel))).sameLofts (by decide +kernel)

variable (hend : o + n ≤ 2 ^ 35)
include hend

theorem completes_lputPacket_sound (htyp : p.typ = 6) (hlen : p.payload.length = n) : Completes (.lputPacket w f p .good) s (Stored w f o p.payload s) := by
  have ha' := ha.keeps (s.received_arrival w f p)
  have hdeliver := (deliverData_lput (ecc := .good) hf hunit ha'.on htyp).trans (lputServed_sound ha' hlen)
  refine completes_delivered h rfl htyp (by decide) hdeliver (loftWrite_keeps ..) (by decide +kernel) ?_
  subst hlen
  exact (stored_loftWrite hf hend ha'.alive ha'.sound).after ((s.received_keeps w f p).sameLofts (by decide))

theorem completes_atom_first (htyp : p.typ = 8) (hn : n = if bitAt p.aux 4 then 8 else 4) (halign : p.addr % n = 0)
    (hnew : (s.getReplays (niKey w f)).pairs.contains (niOf p.src, p.rid) = false) : Completes (.atomPacket w f p .good) s (Stored w f o (s.atomBytes w f o n p) s) := by
  have hreceived := s.received_keeps w f p
  have ha' := ha.keeps (s.received_arrival w f p)
  have hnoted := (s.received w f p).atomNoted_keeps w f p
  have ha'' := ha'.keeps (hnoted.widen (by decide +kernel))
  have hsame := (hnoted.next (M := 0x18000) (by decide) (hreceived.widen (by decide))).sameLofts (by decide)
  have hread : (s.received w f p).atomBytes w f o n p = s.atomBytes w f o n p := by
    simp only [State.atomBytes, State.loftBytes, (hreceived.sameLofts (by decide)).1]
  have hdeliver := (deliverData_atom (ecc := .good) hf hunit ha'.on htyp).trans (atomServed_first ha' hn halign (by rw [hreceived.getReplays (by decide)]; exact hnew))
  rw [hread] at hdeliver
  have hlen : (s.atomBytes w f o n p).length = n := leBytes_length ..
  have hkeeps := fun bs => (loftWrite_keeps w f o bs _).next (M := atomMask) (by decide +kernel) (hnoted.widen (by decide +kernel))
  refine completes_delivered h rfl htyp (by decide) hdeliver (hkeeps _) (by decide +kernel) ?_
  exact (stored_loftWrite hf (by rw [hlen]; exact hend) ha''.alive (by rw [hlen]; exact ha''.sound)).after hsame

end

end Sys2Proof.Machine

open Sys2Proof Sys2Proof.Machine

/-- Settles O19: each packet is delivered at once; an LGET_REQ is answered, and an LPUT or a new ATOM is one write of the loft. -/
theorem deliveriesAtALoft : Obligations.DeliveriesAtALoft := by
  intro w f p o n s hf h hunit hon hdead hrange hend _ hsound others q
  have ha : SoundAccess w f o n p s := ⟨hon, hdead, hrange, hsound⟩
  refine ⟨fun htyp hn hmax => completes_lgetReq_sound hf h hunit ha htyp hn hmax, fun htyp hlen => ?_, fun htyp hn halign => ⟨fun hnew => ?_, fun hseen => ?_⟩⟩
  · have hstored := completes_lputPacket_sound hf h hunit ha hend htyp hlen
    subst hlen
    exact hstored
  · have hlen : (s.atomBytes w f o n p).length = n := leBytes_length ..
    refine (completes_atom_first hf h hunit ha hend htyp hn halign hnew).imp fun t ht => ?_
    have hbytes := ht.bytes (leBytes_lt _ _)
    obtain ⟨-, hout, hother⟩ := ht
    rw [hlen] at hbytes hout
    exact ⟨hbytes.trans (by rw [State.atomBytes, atomResult_eq]), hout, hother⟩
  · exact completes_atom_replayed hf h hunit hon htyp hseen

end

section
/-!
SUPPORT. The two ends of a link: their keys and states, what an operation at one end leaves of the other, and the counters of a port (R14, R15, R180, R208).
-/
set_option Elab.async false
namespace Sys2Proof.Machine

/-! ## Keys and records of link ends -/

theorem State.getLinks_putLinks_same (s : State) (k : Nat) (v : LinkEnd) : (s.putLinks k v).getLinks k = v := (s.getLinks_putLinks k k v).trans (if_pos rfl)

theorem State.out_putLinks (s : State) (k : Nat) (v : LinkEnd) : (s.putLinks k v).out = s.out := rfl

theorem linkKey_injective : Function.Injective LinkRef.key := by
  rintro (⟨w, p⟩ | ⟨c, p⟩) (⟨x, q⟩ | ⟨d, q⟩) h <;> simp only [LinkRef.key, portKey, chipPortKey] at h
  · obtain rfl : w = x := Fin.ext (by omega)
    obtain rfl : p = q := Fin.ext (by omega)
    rfl
  · omega
  · omega
  · obtain rfl : c = d := Fin.ext (by omega)
    obtain rfl : p = q := Fin.ext (by omega)
    rfl

theorem linkKey_ne {l q : LinkRef} (h : q ≠ l) : l.key ≠ q.key := fun hkey => h (linkKey_injective hkey).symm

/-- No cable leads back to its own end (R14, R15). -/
theorem linkPeer_ne {l q : LinkRef} (h : l.peer = some q) : q ≠ l := by
  rintro rfl
  rcases q with ⟨w, p⟩ | ⟨c, p⟩
  · simp only [LinkRef.peer] at h
    split at h
    · simp at h
    · simp only [Option.some.injEq, LinkRef.port.injEq] at h
      obtain ⟨-, hside⟩ := h
      have hport := congrArg Fin.val hside
      have hp := p.isLt
      simp only [Fin.ofNat, oppositePort] at hport
      split_ifs at hport <;> omega
  · simp only [LinkRef.peer] at h
    split at h <;> simp at h

/-! ## States of links -/

theorem State.carries_iff (s : State) (l : LinkRef) : s.carries l = true ↔ s.linkState l = 2 ∨ s.linkState l = 3 := by simp [State.carries]

theorem Keeps.linkState {m : Nat} {s t : State} (h : Keeps m s t) (hport : m.testBit (64 + LNK_STAT.id) = false) (hchip : m.testBit (64 + B72_PORT.id) = false)
    (l : LinkRef) : t.linkState l = s.linkState l := by
  cases l with
  | port w p => exact h.rd LNK_STAT_STATE w p (by decide) hport
  | chip c p => exact h.rd B72_PORT_STATE c p (by decide) hchip

theorem Keeps.carries {m : Nat} {s t : State} (h : Keeps m s t) (hport : m.testBit (64 + LNK_STAT.id) = false) (hchip : m.testBit (64 + B72_PORT.id) = false)
    (l : LinkRef) : t.carries l = s.carries l := by simp only [State.carries, h.linkState hport hchip]

theorem Keeps.linkCfg {m : Nat} {s t : State} (h : Keeps m s t) (hm : m.testBit (64 + LNK_CFG.id) = false) (l : LinkRef) {y : Fld} (hy : y.reg = LNK_CFG) :
    t.linkCfg l y = s.linkCfg l y := by
  unfold State.linkCfg
  split
  · exact h.rd y _ _ (by rw [hy]; decide) (by rw [hy]; exact hm)
  · rfl

@[simp] theorem State.linkState_putLinks (s : State) (k : Nat) (v : LinkEnd) (l : LinkRef) : (s.putLinks k v).linkState l = s.linkState l :=
  (s.putLinks_keeps k v).linkState (by decide) (by decide) l

@[simp] theorem State.carries_putLinks (s : State) (k : Nat) (v : LinkEnd) (l : LinkRef) : (s.putLinks k v).carries l = s.carries l :=
  (s.putLinks_keeps k v).carries (by decide) (by decide) l

/-- The other fields of LNK_STAT leave every link's state (R208). -/
theorem State.linkState_wr_stat (s : State) {y : Fld} (hy : y.reg = LNK_STAT) (hlo : 2 < y.lo) (hhi : y.lo ≤ y.hi) (w p v : Nat) (l : LinkRef) :
    (s.wr y w p v).linkState l = s.linkState l := by
  cases l with
  | port x q =>
    by_cases hsame : x.val = w ∧ q.val = p
    · obtain ⟨rfl, rfl⟩ := hsame
      exact s.rd_wr_field y LNK_STAT_STATE x q v hy.symm hhi (by decide) (.inl hlo)
    · exact s.rd_wr_ne y LNK_STAT_STATE w p v x q (.inr (by omega))
  | chip c q => exact s.rd_wr_id y B72_PORT_STATE w p v c q (by rw [hy]; decide)

/-- A link's state reads what was set. -/
theorem linkState_setLinkState (l : LinkRef) {v : Nat} (hv : v < 8) (s : State) : (setLinkState l v s).linkState l = v := by
  unfold setLinkState
  split
  · assumption
  · cases l with
    | port w p =>
      have hraise := (State.raise_keeps (s.wr LNK_STAT_STATE w p v) w (Leaf.port p)).rd LNK_STAT_STATE w p (by decide) (by decide +kernel)
      exact hraise.trans ((s.rd_wr_same LNK_STAT_STATE w p v (by decide) (by decide)).trans (Nat.mod_eq_of_lt hv))
    | chip c p => exact (s.rd_wr_same B72_PORT_STATE c p v (by decide) (by decide)).trans (Nat.mod_eq_of_lt hv)

/-- Setting one link's state leaves the others' (R208). -/
theorem linkState_setLinkState_ne {l q : LinkRef} (h : q ≠ l) (v : Nat) (s : State) : (setLinkState q v s).linkState l = s.linkState l := by
  have hkey := linkKey_ne h
  unfold setLinkState
  split
  · rfl
  · cases q with
    | port w p =>
      refine ((State.raise_keeps (s.wr LNK_STAT_STATE w p v) w (Leaf.port p)).linkState (by decide +kernel) (by decide +kernel) l).trans ?_
      cases l with
      | port x r =>
        simp only [LinkRef.key, portKey] at hkey
        exact s.rd_wr_ne LNK_STAT_STATE LNK_STAT_STATE w p v x r (.inr (by omega))
      | chip c r => exact s.rd_wr_id LNK_STAT_STATE B72_PORT_STATE w p v c r (by decide)
    | chip c p =>
      cases l with
      | port x r => exact s.rd_wr_id B72_PORT_STATE LNK_STAT_STATE c p v x r (by decide)
      | chip d r =>
        simp only [LinkRef.key, chipPortKey] at hkey
        exact s.rd_wr_ne B72_PORT_STATE B72_PORT_STATE c p v d r (.inr (by omega))

@[simp] theorem getLinks_setLinkState (l : LinkRef) (v : Nat) (s : State) (k : Nat) : (setLinkState l v s).getLinks k = s.getLinks k :=
  (setLinkState_keeps l v s).getLinks (by decide +kernel) k

/-! ## The counters of a port -/

/-- Counting touches registers alone. -/
@[simp] theorem getLinks_bumpPort (l : LinkRef) (y : Fld) (n : Nat) (s : State) (k : Nat) : (bumpPort l y n s).getLinks k = s.getLinks k := by cases l <;> rfl

@[simp] theorem out_bumpPort (l : LinkRef) (y : Fld) (n : Nat) (s : State) : (bumpPort l y n s).out = s.out := by cases l <;> rfl

theorem rd_bumpPort {l : LinkRef} {w : WaferId} {p : PortId} (hl : l = .port w p) (y : Fld) (n : Nat) (s : State) (hlo : y.lo ≤ y.hi) (hhi : y.hi < 64) :
    (bumpPort l y n s).rd y w p = satAdd y.width (s.rd y w p) n := by
  subst hl
  exact s.rd_bump_same y w p n hlo hhi

/-! ## A fault -/

/-- What a fault leaves of an end: its failing lanes, what is due for recalibration, and whether it hears its peer (R180). -/
def LinkEnd.afterFault (e : LinkEnd) : LinkEnd := { failing := e.failing, recalDue := e.recalDue, lastForced := e.lastForced, los := e.los }

theorem linkState_linkFault (l : LinkRef) (s : State) : (linkFault l s).linkState l = 4 := linkState_setLinkState l (by decide) _

theorem getLinks_linkFault (l : LinkRef) (s : State) (k : Nat) : (linkFault l s).getLinks k = if k = l.key then (s.getLinks l.key).afterFault else s.getLinks k := by
  simp only [linkFault, getLinks_setLinkState, getLinks_bumpPort, State.getLinks_putLinks, LinkEnd.afterFault]

/-! ## The other end -/

/-- A link end is as before. -/
def SameEnd (l : LinkRef) (s t : State) : Prop := t.linkState l = s.linkState l ∧ t.getLinks l.key = s.getLinks l.key

theorem SameEnd.refl (l : LinkRef) (s : State) : SameEnd l s s := ⟨rfl, rfl⟩

theorem SameEnd.trans {l : LinkRef} {s t u : State} (h : SameEnd l s t) (h2 : SameEnd l t u) : SameEnd l s u := ⟨h2.1.trans h.1, h2.2.trans h.2⟩

theorem sameEnd_putLinks {l q : LinkRef} (h : q ≠ l) (v : LinkEnd) (s : State) : SameEnd l s (s.putLinks q.key v) :=
  ⟨s.linkState_putLinks .., by rw [State.getLinks_putLinks, if_neg (linkKey_ne h)]⟩

theorem sameEnd_setLinkState {l q : LinkRef} (h : q ≠ l) (v : Nat) (s : State) : SameEnd l s (setLinkState q v s) :=
  ⟨linkState_setLinkState_ne h v s, getLinks_setLinkState ..⟩

theorem sameEnd_bumpPort {y : Fld} (hy : y.reg = LNK_EVENTS) (l q : LinkRef) (n : Nat) (s : State) : SameEnd l s (bumpPort q y n s) := by
  have hkeeps := bumpPort_keeps q y n s
  rw [hy] at hkeeps
  exact ⟨hkeeps.linkState (by decide +kernel) (by decide +kernel) l, getLinks_bumpPort ..⟩

theorem sameEnd_linkFault {l q : LinkRef} (h : q ≠ l) (s : State) : SameEnd l s (linkFault q s) :=
  ((sameEnd_putLinks h _ s).trans (sameEnd_bumpPort rfl l q 1 _)).trans (sameEnd_setLinkState h 4 _)

/-- What is done at both ends of a link leaves an end as it was done there, where the operation leaves the ends it is not done at. -/
theorem sameEnd_bothEnds {l : LinkRef} {g : LinkRef → State → State} (hg : ∀ q t, q ≠ l → SameEnd l t (g q t)) (s : State) :
    SameEnd l (g l s) (forEach (l :: l.peer.toList) s g) := by
  cases hpeer : l.peer with
  | none => exact .refl ..
  | some q => exact hg q (g l s) (linkPeer_ne hpeer)

end Sys2Proof.Machine

end

section
/-!
PROOF. Blocks of a link, their retry, and what faults it (R176-R181, R184).
-/
set_option Elab.async false
namespace Sys2Proof.Machine

/-! ## Sending -/

/-- A training end sends its identity, whatever waits (R184). -/
theorem linkTx_training {l : LinkRef} {s : State} (hstate : s.linkState l = 1) (hdeg : (s.getLinks l.key).degrading = false) (fs : List LinkFlit) :
    linkTx l fs s = s.emit (.block l.key (identityBytes (s.ownIdentity l))) := by
  simp only [linkTx, hstate, hdeg, Bool.not_false, and_self, if_true]

section
variable {l : LinkRef} {fs : List LinkFlit} {s : State} (hcarries : s.carries l = true) (hdeg : (s.getLinks l.key).degrading = false)
include hcarries

theorem linkState_ne_of_carries {n : Nat} (h : n < 2 ∨ 3 < n) : s.linkState l ≠ n := by
  have hstate := (s.carries_iff l).mp hcarries
  omega

include hdeg

/-- An end that replays nothing, whose buffer has room and whose peer has credits for the flits, sends them in a new block and keeps it (R177, R181). -/
theorem linkTx_new (hreplay : (s.getLinks l.key).replayAt = none) (hroom : (s.getLinks l.key).replay.length < 512) (hlen : fs.length ≤ 16)
    (hcredit : (s.getLinks l.key).creditFor fs = true) (hvcs : ∀ x ∈ fs, x.vc.toNat < l.vcs) : ∃ (bytes : List Nat) (t : State),
      linkTx l fs s = t.emit (.block l.key bytes) ∧ t.out = s.out ∧ (t.getLinks l.key).nextSeq = ((s.getLinks l.key).nextSeq + 1) % 4096 ∧
      (t.getLinks l.key).nakDue = false ∧ (t.getLinks l.key).replay = (s.getLinks l.key).replay ++ [⟨(s.getLinks l.key).nextSeq, bytes⟩] := by
  have hstate : s.linkState l ≠ 1 := linkState_ne_of_carries hcarries (by decide)
  have hknown : (fs.any fun f => decide (l.vcs ≤ f.vc.toNat)) = false := by
    simp only [List.any_eq_false, decide_eq_true_eq, Nat.not_le]
    exact hvcs
  simp only [linkTx, hstate, hcarries, hdeg, hreplay, hcredit, hknown, false_and, if_false, Bool.not_true, Bool.or_self, Bool.or_false, Bool.false_eq_true,
    if_neg (Nat.not_le.mpr hroom), decide_eq_true_eq, if_neg (Nat.not_lt.mpr hlen)]
  refine ⟨_, _, rfl, ?_⟩
  split <;> simp only [getLinks_bumpPort, out_bumpPort, State.getLinks_putLinks_same, State.out_putLinks, and_self]

end

/-! ## Receiving -/

/-- Counting corrected bytes leaves all of an end but its lanes' counts. -/
theorem getLinks_countFixed (l : LinkRef) (fixed : List Nat) (s : State) : ∃ (corr : List (Nat × Nat)) (n : Nat),
    (countFixed l fixed s).getLinks l.key = { s.getLinks l.key with laneCorr := corr, laneBytes := n } := by
  cases l with
  | port w p =>
    have hcount := fun (g : Nat → Nat) t => forEach_keeps (g := fun j u => u.bump LNK_LANE_CORR_COUNT w (g j) 1) (fun _ u => u.bump_keeps ..) fixed (.refl _ t)
    exact ⟨_, _, ((hcount _ _).getLinks (by decide +kernel) _).trans (s.getLinks_putLinks_same ..)⟩
  | chip c p => exact ⟨_, _, s.getLinks_putLinks_same ..⟩

theorem carries_countFixed (l : LinkRef) (fixed : List Nat) (s : State) : (countFixed l fixed s).carries l = s.carries l :=
  (countFixed_keeps l fixed s).carries (by decide +kernel) (by decide +kernel) l

/-- An ACK or NAK concerns the sending half: what the end expects and owes an ACK for is as before (R177, R179). -/
theorem takeAck_receiving (l : LinkRef) (h : BlockHead) (s : State) : ((takeAck l h s).getLinks l.key).expect = (s.getLinks l.key).expect ∧
    ((takeAck l h s).getLinks l.key).sinceAck = (s.getLinks l.key).sinceAck := by
  unfold takeAck
  dsimp only
  split
  · simp only [State.getLinks_putLinks_same, and_self]
  · split
    · generalize unackedBlocks (s.getLinks l.key).replay h.ackSeq = rest
      split_ifs <;> simp only [getLinks_bumpPort, State.getLinks_putLinks_same, and_self]
    · exact ⟨rfl, rfl⟩

/-- A block in order is accepted, and the next one is expected (R178). -/
theorem takeBlock_inOrder {l : LinkRef} {bs : List Nat} {s : State} (hseq : (BlockHead.decode (ofLeBytes ((bs.drop 512).take 16))).bseq = (s.getLinks l.key).expect) :
    ((takeBlock l bs s).getLinks l.key).expect = ((s.getLinks l.key).expect + 1) % 4096 ∧
    ((takeBlock l bs s).getLinks l.key).sinceAck = (s.getLinks l.key).sinceAck + 1 := by
  unfold takeBlock
  dsimp only
  rw [if_pos (by rw [hseq]; omega)]
  generalize BlockHead.decode (ofLeBytes ((bs.drop 512).take 16)) = h
  split
  · simp only [takeAck_receiving, State.getLinks_putLinks_same, takeCredit, and_self]
  · simp only [State.getLinks_emit, takeAck_receiving, State.getLinks_putLinks_same, takeCredit, and_self]

section
variable {l : LinkRef} {block : List Nat} {s : State} (hcarries : s.carries l = true) (hdeg : (s.getLinks l.key).degrading = false)
include hcarries hdeg

/-- A block that cannot be corrected is counted, and a NAK falls due (R176, R179). -/
theorem linkRx_bad (hbad : (fecDecode block).good = false) : ∃ e : LinkEnd, linkRx l block s = bumpPort l LNK_FEC_BAD_COUNT 1 (s.putLinks l.key e) ∧
    e.nakDue = true ∧ e.expect = (s.getLinks l.key).expect := by
  have htrain : s.linkState l ≠ 4 := linkState_ne_of_carries hcarries (by decide)
  simp only [linkRx, if_neg htrain, hdeg, hcarries, hbad, Bool.not_true, Bool.not_false, Bool.false_eq_true, and_false, or_self, if_false, if_true, Bool.or_true]
  exact ⟨_, rfl, rfl, rfl⟩

/-- A good block of an end with FEC lock is taken, with its corrected bytes counted (R175, R178). -/
theorem linkRx_good (hgood : (fecDecode block).good = true) (hlocked : (s.getLinks l.key).locked = true) : ∃ t : State, linkRx l block s = takeBlock l (fecDecode block).bytes t ∧
    (t.getLinks l.key).expect = (s.getLinks l.key).expect ∧ (t.getLinks l.key).sinceAck = (s.getLinks l.key).sinceAck := by
  have htrain : s.linkState l ≠ 4 := linkState_ne_of_carries hcarries (by decide)
  simp only [linkRx, if_neg htrain, hdeg, hcarries, hgood, hlocked, carries_countFixed, State.carries_putLinks, Bool.not_true, Bool.false_eq_true, and_false, or_self,
    if_false, if_true]
  refine ⟨_, rfl, ?_⟩
  generalize hput : s.putLinks l.key _ = t
  obtain ⟨corr, n, hcount⟩ := getLinks_countFixed l (fecDecode block).fixed t
  rw [hcount, ← hput, State.getLinks_putLinks_same]
  exact ⟨rfl, rfl⟩

end

/-! ## Faults -/

/-- A faulted link: its buffers are empty (R180). -/
theorem faulted_linkFault (l : LinkRef) (s : State) : (linkFault l s).linkState l = 4 ∧ ((linkFault l s).getLinks l.key).replay = [] ∧
    ((linkFault l s).getLinks l.key).replayAt = none ∧ ((linkFault l s).getLinks l.key).owed = [] := by
  rw [getLinks_linkFault, if_pos rfl]
  exact ⟨linkState_linkFault l s, rfl, rfl, rfl⟩

theorem replayLimit_reached {l : LinkRef} {s : State} (hcarries : s.carries l = true) (hrun : 16 ≤ (s.getLinks l.key).replayRun) : replayLimit l s = linkFault l s := by
  simp only [replayLimit, hcarries, hrun, decide_true, Bool.and_self, if_true]

theorem ackTimeout_unanswered {l : LinkRef} {s : State} (hcarries : s.carries l = true) (hreplay : (s.getLinks l.key).replay ≠ []) : ackTimeout l s = linkFault l s := by
  simp only [ackTimeout, hcarries, List.isEmpty_eq_false_iff.mpr hreplay, Bool.not_false, Bool.and_self, if_true]

end Sys2Proof.Machine

open Sys2Proof Sys2Proof.Machine

/-- Settles O21: a block sent or taken is one write of the end, and each of the three causes is one fault of the link. -/
theorem linkBlocksAndFaults : Obligations.LinkBlocksAndFaults := by
  refine fun l s => ⟨fun fs hcarries hdeg hreplay hroom hlen hcredit hvcs => ?_, fun hstate hdeg fs => ⟨_, rfl, linkTx_training hstate hdeg fs⟩,
    fun bytes hcarries hdeg => ⟨fun hbad => ?_, fun hgood hlocked hseq _ => ?_⟩, fun hsince => ?_,
    fun hcarries hrun => ⟨_, congrArg Host.Outcome.next (replayLimit_reached hcarries hrun), faulted_linkFault l s⟩,
    fun hcarries hreplay => ⟨_, congrArg Host.Outcome.next (ackTimeout_unanswered hcarries hreplay), faulted_linkFault l s⟩, fun hlink => ?_⟩
  · obtain ⟨bytes, t, htx, hout, hnext, hnak, hkept⟩ := linkTx_new hcarries hdeg hreplay hroom hlen hcredit hvcs
    exact ⟨_, congrArg Host.Outcome.next htx, hnext, hnak, ⟨_, bytes⟩, hkept, rfl, congrArg (_ :: ·) hout⟩
  · obtain ⟨e, hrx, hnak, hexpect⟩ := linkRx_bad hcarries hdeg hbad
    refine ⟨_, congrArg Host.Outcome.next hrx, ?_⟩
    simp only [getLinks_bumpPort, State.getLinks_putLinks_same, out_bumpPort]
    exact ⟨hnak, hexpect, rfl⟩
  · obtain ⟨t, hrx, hsame, hsince⟩ := linkRx_good hcarries hdeg hgood hlocked
    rw [← hsame, ← hsince]
    exact ⟨_, congrArg Host.Outcome.next hrx, takeBlock_inOrder (hseq.trans hsame.symm)⟩
  · exact ⟨_, congrArg Host.Outcome.next (if_neg hsince), s.getLinks_putLinks_same ..⟩
  · refine ⟨_, congrArg Host.Outcome.next (if_pos hlink), faulted_linkFault l _, ?_⟩
    rw [getLinks_linkFault, if_pos rfl, State.modLinks, State.getLinks_putLinks_same]
    rfl

end

section
/-!
PROOF. Training, lanes and recalibration of a link (R182, R184, R185, R200, R208).
-/
set_option Elab.async false
namespace Sys2Proof.Machine

/-! ## Training -/

/-- The 8th identical identity in a row (R184). -/
theorem takeIdentity_known {w : WaferId} {p : PortId} {ident : Nat} {s : State} (hstate : s.linkState (.port w p) = 1)
    (hdeg : (s.getLinks (LinkRef.port w p).key).degrading = false) (hword : (s.getLinks (LinkRef.port w p).key).idWord = ident)
    (hrun : (s.getLinks (LinkRef.port w p).key).idRun = 7) : ∃ t : State, takeIdentity (.port w p) ident s = t.setReg LNK_PEER w p (ident % 2 ^ 19) ∧
      (t.getLinks (LinkRef.port w p).key).peer = some ident := by
  simp only [takeIdentity, hstate, hdeg, hword, hrun]
  refine ⟨_, rfl, ?_⟩
  rw [State.getLinks_putLinks_same]
  rfl

theorem exec_identityBlock_training {l : LinkRef} {s : State} (h : s.linkState l = 1) (ident : Word32) :
    exec (.identityBlock l ident) s = .next (takeIdentity l ident.toNat s) := by
  show Host.Outcome.next (takeIdentity l ident.toNat (if s.linkState l = 4 then startTraining l s else s)) = _
  rw [if_neg (by omega)]

theorem rd_setLinkState_miscabled (w : WaferId) (p : PortId) (v : Nat) (s : State) :
    (setLinkState (.port w p) v s).rd LNK_STAT_MISCABLED w p = s.rd LNK_STAT_MISCABLED w p := by
  unfold setLinkState
  split
  · rfl
  · exact ((State.raise_keeps ..).rd LNK_STAT_MISCABLED w p (by decide) (by decide +kernel)).trans
      (s.rd_wr_field LNK_STAT_STATE LNK_STAT_MISCABLED w p v rfl (by decide) (by decide) (.inr (by decide)))

theorem rd_setMiscabled (w : WaferId) (p : PortId) (b : Bool) (s : State) : (setMiscabled (.port w p) b s).rd LNK_STAT_MISCABLED w p = b2n b := by
  simp only [setMiscabled]
  split
  · assumption
  · refine ((State.raise_keeps ..).rd LNK_STAT_MISCABLED w p (by decide) (by decide +kernel)).trans
      ((s.rd_wr_same LNK_STAT_MISCABLED w p (b2n b) (by decide) (by decide)).trans ?_)
    cases b <;> rfl

theorem getLinks_setMiscabled (l : LinkRef) (b : Bool) (s : State) (k : Nat) : (setMiscabled l b s).getLinks k = s.getLinks k :=
  (setMiscabled_keeps l b s).getLinks (by decide +kernel) k

/-- The record of an end that has just trained, toward a peer `ident`, on the half that its ledger leaves it (R185, R306). -/
def LinkEnd.trained (e : LinkEnd) (ident : Nat) (half : Option Nat) : LinkEnd :=
  { locked := true, peer := some ident, half := half, recalDue := e.recalDue, lastForced := e.lastForced }

theorem linkTrained_known {l : LinkRef} {ident : Nat} {s : State} (hstate : s.linkState l = 1) (hdeg : (s.getLinks l.key).degrading = false)
    (hpeer : (s.getLinks l.key).peer = some ident) : ∃ t : State, linkTrained l s = setLinkState l (if (s.deadHalf l).isSome then 3 else 2) t ∧
      t.getLinks l.key = (s.getLinks l.key).trained ident (s.deadHalf l) ∧
      ∀ (w : WaferId) (p : PortId), l = .port w p → t.rd LNK_STAT_MISCABLED w p = b2n (contradicts l ident) := by
  simp only [linkTrained, hpeer, hstate, hdeg, ne_eq, not_true, Bool.false_eq_true, or_self, if_false]
  refine ⟨_, rfl, ?_, ?_⟩
  · cases l <;> simp only [State.getLinks_wr, getLinks_setMiscabled, State.getLinks_putLinks_same, LinkEnd.trained]
  · rintro w p rfl
    refine (State.rd_wr_field _ LNK_STAT_HALF LNK_STAT_MISCABLED w p _ rfl (by decide) (by decide) (.inl (by decide))).trans
      ((State.rd_wr_field _ LNK_STAT_LANE_OK LNK_STAT_MISCABLED w p _ rfl (by decide) (by decide) (.inl (by decide))).trans (rd_setMiscabled ..))

/-! ## A port held down -/

section
variable (w : WaferId) (p : PortId) (s : State)

theorem rd_stat_adminWrite (v : Nat) : (s.wr LNK_CFG_ADMIN_DOWN w p v).rd LNK_STAT_STATE w p = s.rd LNK_STAT_STATE w p := s.rd_wr_id _ _ _ _ _ _ _ (by decide)

theorem rd_adminWrite (down : Bool) : (s.wr LNK_CFG_ADMIN_DOWN w p (b2n down)).rd LNK_CFG_ADMIN_DOWN w p = b2n down := by
  rw [State.rd_wr_same _ _ _ _ _ (by decide) (by decide)]
  cases down <;> rfl

theorem adminDown_down (h : s.rd LNK_STAT_STATE w p ≠ 0) : adminDown w p true s = linkDown (.port w p) 5 (s.wr LNK_CFG_ADMIN_DOWN w p (b2n true)) := by
  simp only [adminDown, rd_stat_adminWrite, if_neg h, if_true, Fin.ofNat_val_eq_self]

/-- A released port of a wafer with good straps trains, where its domain is ON (R20, R208). -/
theorem adminDown_released (h : s.rd LNK_STAT_STATE w p = 5) (hon : s.domOn w (432 + p) = true) (hstraps : s.rd NET_SELF_STRAP_BAD w 0 = 0) : ∃ e : LinkEnd,
    adminDown w p false s = setLinkState (.port w p) 1 ((s.wr LNK_CFG_ADMIN_DOWN w p (b2n false)).putLinks (LinkRef.port w p).key e) := by
  have hon' : (s.wr LNK_CFG_ADMIN_DOWN w p (b2n false)).domOn w (432 + p) = true := by
    rw [State.domOn, State.rd_wr_id _ _ _ _ _ _ _ _ (by decide)]
    exact hon
  have htrain : (s.wr LNK_CFG_ADMIN_DOWN w p (b2n false)).mayTrain (.port w p) = true := by
    simp only [State.mayTrain, hon', rd_adminWrite, State.rd_wr_id _ LNK_CFG_ADMIN_DOWN NET_SELF_STRAP_BAD _ _ _ _ _ (by decide), hstraps]
    rfl
  simp only [adminDown, rd_stat_adminWrite, if_pos h, Bool.false_eq_true, if_false, Fin.ofNat_val_eq_self, startTraining, htrain, Bool.not_true]
  exact ⟨_, rfl⟩

/-- What a port's state becomes leaves what software holds (R208). -/
theorem rd_admin_setLinkState (l : LinkRef) (v : Nat) : (setLinkState l v s).rd LNK_CFG_ADMIN_DOWN w p = s.rd LNK_CFG_ADMIN_DOWN w p :=
  (setLinkState_keeps l v s).rd LNK_CFG_ADMIN_DOWN w p (by decide) (by decide +kernel)

theorem rd_admin_putLinks (k : Nat) (e : LinkEnd) : (s.putLinks k e).rd LNK_CFG_ADMIN_DOWN w p = s.rd LNK_CFG_ADMIN_DOWN w p :=
  (s.putLinks_keeps k e).rd LNK_CFG_ADMIN_DOWN w p (by decide) (by decide)

end

/-! ## Lanes -/

theorem linkState_laneOut (lane : Nat) (q l : LinkRef) (s : State) : (laneOut lane q s).linkState l = s.linkState l := by
  cases q with
  | port w p => exact (State.linkState_wr_stat _ rfl (by decide) (by decide) ..).trans (s.linkState_putLinks ..)
  | chip c p => exact s.linkState_putLinks ..

theorem getLinks_laneOut (lane : Nat) (q : LinkRef) (s : State) (k : Nat) : (laneOut lane q s).getLinks k =
    if k = q.key then
      { s.getLinks q.key with failing := if (s.getLinks q.key).failing.contains lane then (s.getLinks q.key).failing else (s.getLinks q.key).failing ++ [lane] }
    else s.getLinks k := by
  cases q <;> exact s.getLinks_putLinks ..

theorem sameEnd_laneOut (lane : Nat) {l q : LinkRef} (h : q ≠ l) (s : State) : SameEnd l s (laneOut lane q s) :=
  ⟨linkState_laneOut .., by rw [getLinks_laneOut, if_neg (linkKey_ne h)]⟩

/-- The record of an end that leaves for one half of its lanes (R182). -/
def LinkEnd.toHalf (e : LinkEnd) (h : Nat) : LinkEnd := { e with half := some h, degrading := true, locked := false, goodRun := 0, badRun := 0 }

theorem linkState_degradeEnd_half (h : Nat) (l : LinkRef) (s : State) : (degradeEnd (some h) l s).linkState l = 1 := linkState_setLinkState l (by decide) _

theorem getLinks_degradeEnd_half (h : Nat) (l : LinkRef) (s : State) : (degradeEnd (some h) l s).getLinks l.key = (s.getLinks l.key).toHalf h := by
  simp only [degradeEnd, getLinks_setLinkState, getLinks_bumpPort, State.modLinks, State.getLinks_putLinks_same, LinkEnd.toHalf]

theorem sameEnd_degradeEnd (half : Option Nat) {l q : LinkRef} (h : q ≠ l) (s : State) : SameEnd l s (degradeEnd half q s) := by
  cases half with
  | none => exact sameEnd_linkFault h s
  | some x => exact ((sameEnd_putLinks h _ s).trans (sameEnd_bumpPort rfl l q 1 _)).trans (sameEnd_setLinkState h 1 _)

/-- An end on which lane `lane` alone is failing goes on with the half that does not hold it (R182). -/
theorem soundHalf_of_one {e : LinkEnd} {lane : Nat} (hlane : lane < 16) (h : e.failing = [lane]) : e.soundHalf = some (1 - lane / 8) := by
  simp only [LinkEnd.soundHalf, h, List.all_cons, List.all_nil, Bool.and_true, decide_eq_true_eq]
  split_ifs
  · exact congrArg some (by omega)
  · exact congrArg some (by omega)
  · omega

/-- The half on which a link goes on when lane `lane` fails, if it may (R182). -/
def State.halfAfter (s : State) (l : LinkRef) (lane : Nat) : Option Nat :=
  if s.linkCfg l LNK_CFG_DEGRADE_EN = 1 then (laneOut lane l s |>.getLinks l.key).soundHalf else none

/-- A lane fails on a link that carries blocks on 16 lanes: both ends take it out, and both leave for the sound half or fault (R182). -/
theorem laneFails_full {l : LinkRef} {s : State} (lane : Nat) (hcarries : s.carries l = true) (hhalf : (s.getLinks l.key).half = none) : ∃ t : State,
    SameEnd l (laneOut lane l s) t ∧ SameEnd l (degradeEnd (s.halfAfter l lane) l t) (laneFails l lane s) := by
  have hout : SameEnd l (laneOut lane l s) (forEach (l :: l.peer.toList) s (laneOut lane)) := sameEnd_bothEnds (fun q t h => sameEnd_laneOut lane h t) s
  have hcfg : (forEach (l :: l.peer.toList) s (laneOut lane)).linkCfg l LNK_CFG_DEGRADE_EN = s.linkCfg l LNK_CFG_DEGRADE_EN :=
    (forEach_keeps (fun q t => laneOut_keeps lane q t) _ (.refl _ s)).linkCfg (by decide +kernel) l rfl
  refine ⟨_, hout, ?_⟩
  have hends := sameEnd_bothEnds (l := l) (fun q t h => sameEnd_degradeEnd (s.halfAfter l lane) h t) (forEach (l :: l.peer.toList) s (laneOut lane))
  obtain ⟨hstate, hend⟩ := hout
  have hcarries' : (forEach (l :: l.peer.toList) s (laneOut lane)).carries l = true := by
    rw [State.carries, hstate, linkState_laneOut]
    exact hcarries
  have hnone : ((laneOut lane l s).getLinks l.key).half.isNone = true := by rw [getLinks_laneOut, if_pos rfl, hhalf]; rfl
  simp only [laneFails, hcarries', hhalf, hcfg, hend, hnone, and_true, Bool.not_true, Bool.or_self, Bool.false_eq_true, if_false]
  exact hends

theorem berCheck_sound {l : LinkRef} {s : State}
    (h : ∀ i < 16, mget 0 (s.getLinks l.key).laneCorr i * 10 ^ s.linkCfg l LNK_CFG_LANE_BER_EXP ≤ (s.getLinks l.key).laneBytes) :
    berCheck l s = s.putLinks l.key { s.getLinks l.key with laneCorr := [], laneBytes := 0 } := by
  have hnone : ((List.range 16).filter fun i =>
      decide ((s.getLinks l.key).laneBytes < mget 0 (s.getLinks l.key).laneCorr i * 10 ^ s.linkCfg l LNK_CFG_LANE_BER_EXP)) = [] := by
    simp only [List.filter_eq_nil_iff, List.mem_range, decide_eq_true_eq, Nat.not_lt]
    exact h
  simp only [berCheck, hnone, forEach_nil]

theorem degradeRelock_half {l : LinkRef} {h : Nat} {s : State} (hhalf : (s.getLinks l.key).half = some h) (hdeg : (s.getLinks l.key).degrading = true) :
    ∃ t : State, degradeRelock l s = setLinkState l 3 t ∧
      t.getLinks l.key = { s.getLinks l.key with degrading := false, locked := true, nakDue := true, laneCorr := [], laneBytes := 0 } := by
  simp only [degradeRelock, hhalf, hdeg, Bool.not_true, Bool.false_eq_true, if_false]
  refine ⟨_, rfl, ?_⟩
  cases l <;> simp only [State.getLinks_wr, State.getLinks_putLinks_same]

/-! ## Recalibration -/

theorem getLinks_recalibrate (l : LinkRef) (s : State) : (recalibrate l s).getLinks l.key = { s.getLinks l.key with recalDue := (s.getLinks l.key).recalDue.drop 1 } := by
  rw [recalibrate, getLinks_bumpPort, State.modLinks, State.getLinks_putLinks_same]

theorem recalIdle_due {l : LinkRef} {s : State} (hdue : (s.getLinks l.key).recalDue ≠ []) (hcarries : s.carries l = true) : recalIdle l s = recalibrate l s := by
  simp only [recalIdle, List.isEmpty_eq_false_iff.mpr hdue, hcarries, Bool.not_true, Bool.or_self, Bool.false_eq_true, if_false]

theorem recalForced_due {l : LinkRef} {s : State} (hdue : (s.getLinks l.key).recalDue ≠ []) (hcarries : s.carries l = true)
    (hfirst : (s.getLinks l.key).lastForced = none) : recalForced l s =
      bumpPort l LNK_EVENTS_RECAL_FORCED 1 (recalibrate l (s.putLinks l.key { s.getLinks l.key with lastForced := some s.now })) := by
  simp only [recalForced, List.isEmpty_eq_false_iff.mpr hdue, hcarries, hfirst, Bool.not_true, Bool.or_self, Bool.false_eq_true, if_false]

theorem mem_recalTrigger (l : LinkRef) (lane : Nat) (s : State) : lane / 4 ∈ ((recalTrigger l lane s).getLinks l.key).recalDue ∧
    ∀ g ∈ (s.getLinks l.key).recalDue, g ∈ ((recalTrigger l lane s).getLinks l.key).recalDue := by
  simp only [recalTrigger, State.modLinks, State.getLinks_putLinks_same]
  split
  · rename_i hdue
    exact ⟨List.contains_iff_mem.mp hdue, fun _ hg => hg⟩
  · exact ⟨List.mem_append_right _ (List.mem_singleton_self _), fun _ hg => List.mem_append_left _ hg⟩

/-! ## The commands -/

section
variable {l : LinkRef} {s : State}

theorem completes_identityBlock_known {w : WaferId} {p : PortId} {ident : Word32} (hl : l = .port w p) (hstate : s.linkState l = 1)
    (hdeg : (s.getLinks l.key).degrading = false) (hword : (s.getLinks l.key).idWord = ident.toNat) (hrun : (s.getLinks l.key).idRun = 7) :
    Completes (.identityBlock l ident) s fun t => (t.getLinks l.key).peer = some ident.toNat ∧ t.reg LNK_PEER w p = ident.toNat % 2 ^ 19 := by
  subst hl
  obtain ⟨t, htake, hpeer⟩ := takeIdentity_known hstate hdeg hword hrun
  refine ⟨_, (exec_identityBlock_training hstate ident).trans (congrArg Host.Outcome.next htake), hpeer, ?_⟩
  rw [State.reg_setReg_same]
  omega

theorem completes_linkTrained_known {ident : Nat} (hstate : s.linkState l = 1) (hdeg : (s.getLinks l.key).degrading = false)
    (hpeer : (s.getLinks l.key).peer = some ident) : Completes (.linkTrained l) s fun t =>
      t.linkState l = (if s.deadHalf l = none then 2 else 3) ∧ (t.getLinks l.key).nextSeq = 0 ∧ (t.getLinks l.key).expect = 0 ∧ (t.getLinks l.key).replay = [] ∧
      ∀ (w : WaferId) (p : PortId), l = .port w p → t.rd LNK_STAT_MISCABLED w p = b2n (contradicts l ident) := by
  obtain ⟨t, htrained, hend, hcabled⟩ := linkTrained_known hstate hdeg hpeer
  refine ⟨_, congrArg Host.Outcome.next htrained, ?_⟩
  simp only [getLinks_setLinkState, hend]
  refine ⟨?_, rfl, rfl, rfl, ?_⟩
  · cases s.deadHalf l with
    | none => exact linkState_setLinkState (v := 2) l (by decide) t
    | some _ => exact linkState_setLinkState (v := 3) l (by decide) t
  · rintro w p rfl
    exact (rd_setLinkState_miscabled ..).trans (hcabled w p rfl)

theorem completes_portAdminDown (w : WaferId) (p : PortId) (h : s.rd LNK_STAT_STATE w p ≠ 0) : Completes (.portAdminDown w p true) s fun t =>
    t.rd LNK_STAT_STATE w p = 5 ∧ t.rd LNK_CFG_ADMIN_DOWN w p = 1 := by
  refine ⟨_, congrArg Host.Outcome.next (adminDown_down w p s h), linkState_setLinkState (.port w p) (by decide) _, ?_⟩
  rw [linkDown, rd_admin_setLinkState, rd_admin_putLinks, rd_adminWrite]
  rfl

theorem completes_portAdminRelease (w : WaferId) (p : PortId) (h : s.rd LNK_STAT_STATE w p = 5) (hon : s.domOn w (432 + p) = true)
    (hstraps : s.rd NET_SELF_STRAP_BAD w 0 = 0) : Completes (.portAdminDown w p false) s fun t =>
      t.rd LNK_STAT_STATE w p = 1 ∧ t.rd LNK_CFG_ADMIN_DOWN w p = 0 := by
  obtain ⟨e, hreleased⟩ := adminDown_released w p s h hon hstraps
  refine ⟨_, congrArg Host.Outcome.next hreleased, linkState_setLinkState (.port w p) (by decide) _, ?_⟩
  rw [rd_admin_setLinkState, rd_admin_putLinks, rd_adminWrite]
  rfl

theorem completes_laneSymbolLoss_degrades (lane : LaneId) (hcarries : s.carries l = true) (hhalf : (s.getLinks l.key).half = none)
    (henabled : s.linkCfg l LNK_CFG_DEGRADE_EN = 1) (hsound : (s.getLinks l.key).failing = []) : Completes (.laneSymbolLoss l lane) s fun t =>
      t.linkState l = 1 ∧ (t.getLinks l.key).degrading = true ∧ (t.getLinks l.key).half = some (1 - lane.val / 8) ∧
      (t.getLinks l.key).replay = (s.getLinks l.key).replay := by
  obtain ⟨t, ⟨-, hout⟩, hstate, hend⟩ := laneFails_full lane.val hcarries hhalf
  have hfailing : ((laneOut lane.val l s).getLinks l.key).failing = [lane.val] := by
    rw [getLinks_laneOut, if_pos rfl, hsound]
    rfl
  have hafter : s.halfAfter l lane.val = some (1 - lane.val / 8) := by rw [State.halfAfter, if_pos henabled, soundHalf_of_one lane.isLt hfailing]
  rw [hafter] at hstate hend
  refine ⟨_, rfl, hstate.trans (linkState_degradeEnd_half ..), ?_⟩
  rw [hend, getLinks_degradeEnd_half, hout, getLinks_laneOut, if_pos rfl]
  exact ⟨rfl, rfl, rfl⟩

theorem completes_laneSymbolLoss_faults (lane : LaneId) (hcarries : s.carries l = true) (hhalf : (s.getLinks l.key).half = none)
    (hdisabled : s.linkCfg l LNK_CFG_DEGRADE_EN = 0) : Completes (.laneSymbolLoss l lane) s fun t => t.linkState l = 4 ∧ (t.getLinks l.key).replay = [] := by
  obtain ⟨t, -, hstate, hend⟩ := laneFails_full lane.val hcarries hhalf
  have hafter : s.halfAfter l lane.val = none := by rw [State.halfAfter, if_neg (by omega)]
  rw [hafter] at hstate hend
  refine ⟨_, rfl, hstate.trans (linkState_linkFault ..), ?_⟩
  rw [hend, degradeEnd, getLinks_linkFault, if_pos rfl]
  rfl

theorem completes_laneBerCheck_sound (h : ∀ i < 16, mget 0 (s.getLinks l.key).laneCorr i * 10 ^ s.linkCfg l LNK_CFG_LANE_BER_EXP ≤ (s.getLinks l.key).laneBytes) :
    Completes (.laneBerCheck l) s fun t => t.linkState l = s.linkState l ∧ (t.getLinks l.key).laneCorr = [] ∧ (t.getLinks l.key).laneBytes = 0 ∧
      (t.getLinks l.key).failing = (s.getLinks l.key).failing := by
  refine ⟨_, congrArg Host.Outcome.next (berCheck_sound h), s.linkState_putLinks .., ?_⟩
  rw [State.getLinks_putLinks_same]
  exact ⟨rfl, rfl, rfl⟩

theorem completes_degradeRelock {h : Nat} (hhalf : (s.getLinks l.key).half = some h) (hdeg : (s.getLinks l.key).degrading = true) :
    Completes (.degradeRelock l) s fun t => t.linkState l = 3 ∧ (t.getLinks l.key).degrading = false ∧ (t.getLinks l.key).nakDue = true ∧
      (t.getLinks l.key).expect = (s.getLinks l.key).expect ∧ (t.getLinks l.key).replay = (s.getLinks l.key).replay := by
  obtain ⟨t, hrelock, hend⟩ := degradeRelock_half hhalf hdeg
  refine ⟨_, congrArg Host.Outcome.next hrelock, linkState_setLinkState l (by decide) t, ?_⟩
  rw [getLinks_setLinkState, hend]
  exact ⟨rfl, rfl, rfl, rfl⟩

variable {g : Nat} {rest : List Nat} (hdue : (s.getLinks l.key).recalDue = g :: rest) (hcarries : s.carries l = true)
include hdue hcarries

theorem completes_recalIdleSlot : Completes (.recalIdleSlot l) s fun t => (t.getLinks l.key).recalDue = rest ∧ t.linkState l = s.linkState l ∧
    ∀ (w : WaferId) (p : PortId), l = .port w p → t.rd LNK_EVENTS_RECAL_DONE w p = satAdd LNK_EVENTS_RECAL_DONE.width (s.rd LNK_EVENTS_RECAL_DONE w p) 1 := by
  refine ⟨_, congrArg Host.Outcome.next (recalIdle_due (by simp [hdue]) hcarries), ?_, (recalibrate_keeps l s).linkState (by decide +kernel) (by decide +kernel) l, ?_⟩
  · rw [getLinks_recalibrate, hdue]
    rfl
  · intro w p hl
    exact (rd_bumpPort hl _ 1 _ (by decide) (by decide)).trans (congrArg (satAdd _ · 1) ((s.modLinks_keeps ..).rd LNK_EVENTS_RECAL_DONE w p (by decide) (by decide)))

theorem completes_recalForced (hfirst : (s.getLinks l.key).lastForced = none) : Completes (.recalForced l) s fun t => (t.getLinks l.key).recalDue = rest ∧
    (t.getLinks l.key).lastForced = some s.now ∧
    ∀ (w : WaferId) (p : PortId), l = .port w p → t.rd LNK_EVENTS_RECAL_FORCED w p = satAdd LNK_EVENTS_RECAL_FORCED.width (s.rd LNK_EVENTS_RECAL_FORCED w p) 1 := by
  refine ⟨_, congrArg Host.Outcome.next (recalForced_due (by simp [hdue]) hcarries hfirst), ?_, ?_, ?_⟩
  · rw [getLinks_bumpPort, getLinks_recalibrate, State.getLinks_putLinks_same, hdue]
    rfl
  · rw [getLinks_bumpPort, getLinks_recalibrate, State.getLinks_putLinks_same]
  · intro w p hl
    refine (rd_bumpPort hl _ 1 _ (by decide) (by decide)).trans (congrArg (satAdd _ · 1) ?_)
    subst hl
    exact State.rd_wr_field _ LNK_EVENTS_RECAL_DONE LNK_EVENTS_RECAL_FORCED w p _ rfl (by decide) (by decide) (.inl (by decide))

end

end Sys2Proof.Machine

open Sys2Proof Sys2Proof.Machine

/-- Settles O22: training, a relock and a recalibration are each one write of the end and at most one change of its state; a failing lane is taken out at both ends,
and the peer's part in it leaves this end as it is. -/
theorem linkTrainingAndLanes : Obligations.LinkTrainingAndLanes := fun l s =>
  ⟨fun _ _ _ hl hstate hdeg hword hrun => completes_identityBlock_known hl hstate hdeg hword hrun,
    fun _ hstate hdeg hpeer => completes_linkTrained_known hstate hdeg hpeer,
    fun w p => ⟨completes_portAdminDown w p, completes_portAdminRelease w p⟩,
    fun lane hcarries hhalf => ⟨completes_laneSymbolLoss_degrades lane hcarries hhalf, completes_laneSymbolLoss_faults lane hcarries hhalf⟩,
    completes_laneBerCheck_sound, fun _ hhalf hdeg => completes_degradeRelock hhalf hdeg, fun lane => ⟨_, rfl, mem_recalTrigger l lane s⟩,
    fun _ _ hdue hcarries => ⟨completes_recalIdleSlot hdue hcarries, completes_recalForced hdue hcarries⟩⟩

end

section
/-!
PROOF. What a B72 does with a packet (R187, R188, R225, R663).
-/
set_option Elab.async false
namespace Sys2Proof.Machine

/-- A packet for a wafer of this machine enters it as it is (R188). -/
theorem enterMachine_local {p : Packet} (h : addrSlot p.dest < 36) (c : Nat) (s : State) : enterMachine c p s = p := by
  unfold enterMachine
  exact if_neg (by omega)

theorem oweCredit_out (k vc n : Nat) (s : State) : (oweCredit k vc n s).out = s.out := by
  unfold oweCredit
  split <;> rfl

/-- What is owed to a sender has no part in whether an end relocks after a degrade. -/
theorem getLinks_oweCredit_degrading (k vc n : Nat) (s : State) (j : Nat) : ((oweCredit k vc n s).getLinks j).degrading = (s.getLinks j).degrading := by
  unfold oweCredit
  split
  · rfl
  · rw [State.modLinks, State.getLinks_putLinks]
    split
    · rename_i hkey
      rw [hkey]
    · rfl

section
variable (k vc n : Nat) (s : State) (c : Nat)

theorem rd_oweCredit (y : Fld) (i : Nat) (hy : y.reg.id < 320) : (oweCredit k vc n s).rd y c i = s.rd y c i :=
  (oweCredit_keeps k vc n s).rd y c i hy (Nat.testBit_lt_two_pow (lt_of_lt_of_le (by decide : 0x20000 < 2 ^ 64) (Nat.pow_le_pow_right (by decide) (by omega))))

theorem chipPortUp_oweCredit (p : Nat) : (oweCredit k vc n s).chipPortUp c p = s.chipPortUp c p := by
  simp only [State.chipPortUp, getLinks_oweCredit_degrading, rd_oweCredit _ _ _ _ _ B72_PORT_STATE _ (by decide)]

theorem chipActState_oweCredit (act : Nat) : (oweCredit k vc n s).chipActState c act = s.chipActState c act := by
  simp only [State.chipActState, rd_oweCredit _ _ _ _ _ B72_ACT_STAT_A_STATE _ (by decide), rd_oweCredit _ _ _ _ _ B72_ACT_STAT_B_STATE _ (by decide)]

end

theorem chipRoute_invalid {c act slot : Nat} {s : State} (h : s.rd B72_RT_VALID c (act * 64 + slot) = 0) : s.chipRoute c act slot = none := by
  unfold State.chipRoute
  exact if_pos h

/-- An entry that names no uplink group gives its port, while that is up (R187). -/
theorem chipRoute_port {c act slot : Nat} {s : State} (hvalid : s.rd B72_RT_VALID c (act * 64 + slot) ≠ 0) (hgroup : s.rd B72_RT_GROUP c (act * 64 + slot) = 0)
    (hport : s.rd B72_RT_PORT c (act * 64 + slot) < 72) (hup : s.chipPortUp c (s.rd B72_RT_PORT c (act * 64 + slot)) = true) :
    s.chipRoute c act slot = some (s.rd B72_RT_PORT c (act * 64 + slot), none) := by
  unfold State.chipRoute
  rw [if_neg hvalid]
  dsimp only
  rw [if_pos hgroup, if_pos ⟨hport, hup⟩]

/-- The state in which a B72 forwards a packet: the place that it took at the input port is owed back (R181). -/
def State.chipTook (s : State) (c inp : Nat) (p : Packet) : State := oweCredit (chipPortKey c inp) (p.cls % 4) (flitsOf p) s

section
variable {c inp : Nat} {p : Packet} {s : State} (hin : s.chipPortUp c inp = true)
include hin

theorem b72Forward_badHeader (hcrc : p.hcrcOk = false) : b72Forward c inp p s = (s.chipTook c inp p).bump B72_EVENTS_HCRC c 0 1 := by
  simp only [b72Forward, hin, hcrc, State.chipTook, Bool.not_true, Bool.not_false, Bool.false_eq_true, if_false, if_true]

variable (hcrc : p.hcrcOk = true) (hlocal : addrSlot p.dest < 36)
include hcrc hlocal

theorem b72Forward_noRoute (hroute : s.chipActState c (p.act % 2) < 2 ∨ (s.chipTook c inp p).chipRoute c (p.act % 2) (addrSlot p.dest) = none) :
    b72Forward c inp p s = (s.chipTook c inp p).bump B72_EVENTS_NOROUTE c 0 1 := by
  have hnone : (if 2 ≤ s.chipActState c (p.act % 2) then (s.chipTook c inp p).chipRoute c (p.act % 2) (addrSlot p.dest) else none) = none := by
    split
    · exact hroute.resolve_left (by omega)
    · rfl
  unfold State.chipTook at hnone
  simp only [b72Forward, hin, hcrc, State.chipTook, enterMachine_local hlocal, chipActState_oweCredit, hnone, Bool.not_true, Bool.false_eq_true, if_false]

theorem b72Forward_routed {port : Nat} (hact : 2 ≤ s.chipActState c (p.act % 2)) (hroute : (s.chipTook c inp p).chipRoute c (p.act % 2) (addrSlot p.dest) = some (port, none)) :
    b72Forward c inp p s = (s.chipTook c inp p).emit (.linkPacket (36 + c) port p) := by
  unfold State.chipTook at hroute
  simp only [b72Forward, hin, hcrc, State.chipTook, enterMachine_local hlocal, chipActState_oweCredit, if_pos hact, hroute, Bool.not_true, Bool.false_eq_true, if_false]

end

/-- A discard of a B72 is counted, and nothing leaves. -/
theorem chipTook_counted (y : Fld) (hy : y.reg.id < 320) (hlo : y.lo ≤ y.hi) (hhi : y.hi < 64) (c inp : Nat) (p : Packet) (s : State) :
    ((s.chipTook c inp p).bump y c 0 1).rd y c 0 = satAdd y.width (s.rd y c 0) 1 ∧ ((s.chipTook c inp p).bump y c 0 1).out = s.out := by
  refine ⟨?_, oweCredit_out ..⟩
  rw [State.rd_bump_same _ _ _ _ _ hlo hhi, State.chipTook, rd_oweCredit _ _ _ _ _ _ _ hy]

end Sys2Proof.Machine

open Sys2Proof Sys2Proof.Machine

/-- Settles O23: a packet whose entry names a live port is sent on there, and any other is one count of its discard. -/
theorem b72Forwarding : Obligations.B72Forwarding := by
  intro c inp p s hin
  have hread := fun y i => rd_oweCredit (chipPortKey c inp) (p.cls % 4) (flitsOf p) s c y i
  refine ⟨fun hcrc => ⟨_, congrArg Host.Outcome.next (b72Forward_badHeader hin hcrc), chipTook_counted _ (by decide) (by decide) (by decide) ..⟩,
    fun hcrc hlocal => ⟨fun hnone => ?_, fun hact hvalid hgroup hport hup => ?_⟩⟩
  · refine ⟨_, congrArg Host.Outcome.next (b72Forward_noRoute hin hcrc hlocal (hnone.imp_right fun hinvalid => chipRoute_invalid ?_)),
      chipTook_counted _ (by decide) (by decide) (by decide) ..⟩
    exact (hread B72_RT_VALID _ (by decide)).trans hinvalid
  · have hsame := hread B72_RT_PORT (p.act % 2 * 64 + addrSlot p.dest) (by decide)
    rw [← hsame] at hport hup ⊢
    refine ⟨_, congrArg Host.Outcome.next (b72Forward_routed hin hcrc hlocal hact (chipRoute_port ?_ ?_ hport ?_)), congrArg (_ :: ·) (oweCredit_out ..)⟩
    · exact fun h => hvalid ((hread B72_RT_VALID _ (by decide)).symm.trans h)
    · exact (hread B72_RT_GROUP _ (by decide)).trans hgroup
    · exact (chipPortUp_oweCredit ..).trans hup

end

section
/-!
PROOF. Route tables and the making of an act (R217, R218, R220, R223, R231, R232).
-/
set_option Elab.async false
namespace Sys2Proof.Machine

/-! ## Route entries -/

/-- A wafer's act is in the state that was set. -/
theorem State.actState_setActState_same (s : State) (w act v : Nat) (hv : v < 8) : (s.setActState w act v).actState w act = v := by
  unfold State.actState State.setActState
  split
  · exact (s.rd_wr_same NET_ACT_STAT_A_STATE w 0 v (by decide) (by decide)).trans (Nat.mod_eq_of_lt hv)
  · exact (s.rd_wr_same NET_ACT_STAT_B_STATE w 0 v (by decide) (by decide)).trans (Nat.mod_eq_of_lt hv)

theorem State.actState_setReg_id (s : State) {r : Reg} (hr : NET_ACT_STAT.id ≠ r.id) (x i v w act : Nat) : (s.setReg r x i v).actState w act = s.actState w act := by
  unfold State.actState
  rw [State.rd_setReg_id _ _ NET_ACT_STAT_A_STATE _ _ _ _ _ hr, State.rd_setReg_id _ _ NET_ACT_STAT_B_STATE _ _ _ _ _ hr]

section
variable (w kind act field index v : Nat) {s : State}

/-- An act that is LOCKED or above takes no entry (R218). -/
theorem routeWrite_busy (h : 2 ≤ s.actState w act) : routeWrite w kind act field index v s = s.raise w Leaf.rtBusy := if_pos h

/-- An act that is FREE or LOADING takes the entry and is LOADING (R218). -/
theorem routeWrite_stored (hact : s.actState w act < 2) (hok : routeOk kind index = true) : routeWrite w kind act field index v s =
    (s.setActState w act 1).setReg NET_RT_DATA w (rtIdx kind act (if kind = 0 ∨ kind = 6 then 0 else field) index) v :=
  (if_neg (Nat.not_le.mpr hact)).trans (if_pos hok)

theorem route_raise (l : Leaf) : (s.raise w l).route w kind act field index = s.route w kind act field index :=
  (s.raise_keeps w l).regs NET_RT_DATA w _ (by decide) (by decide +kernel)

end

section
variable {w : WaferId} {s : State}

theorem completes_routeTableWrite_stored (v : Word) (hact : s.actState w (s.rd NET_RT_SEL_ACT w 0) < 2)
    (hok : routeOk (s.rd NET_RT_SEL_KIND w 0) (s.rd NET_RT_SEL_INDEX w 0) = true) : Completes (.routeTableWrite w v) s fun t =>
      t.route w (s.rd NET_RT_SEL_KIND w 0) (s.rd NET_RT_SEL_ACT w 0)
        (if s.rd NET_RT_SEL_KIND w 0 = 0 ∨ s.rd NET_RT_SEL_KIND w 0 = 6 then 0 else s.rd NET_RT_SEL_FIELD w 0) (s.rd NET_RT_SEL_INDEX w 0) = v.toNat ∧
      t.actState w (s.rd NET_RT_SEL_ACT w 0) = 1 := by
  refine ⟨_, congrArg Host.Outcome.next (routeWrite_stored w _ _ _ _ v.toNat hact hok), ?_, ?_⟩
  · exact (State.reg_setReg_same ..).trans (Nat.mod_eq_of_lt v.isLt)
  · rw [State.actState_setReg_id _ (by decide), State.actState_setActState_same _ _ _ _ (by decide)]

theorem completes_routeTableWrite_busy (v : Word) (field : Nat) (hact : 2 ≤ s.actState w (s.rd NET_RT_SEL_ACT w 0)) :
    Completes (.routeTableWrite w v) s fun t => t.leafSet w Leaf.rtBusy = true ∧
      t.route w (s.rd NET_RT_SEL_KIND w 0) (s.rd NET_RT_SEL_ACT w 0) field (s.rd NET_RT_SEL_INDEX w 0) =
        s.route w (s.rd NET_RT_SEL_KIND w 0) (s.rd NET_RT_SEL_ACT w 0) field (s.rd NET_RT_SEL_INDEX w 0) :=
  ⟨_, congrArg Host.Outcome.next (routeWrite_busy w _ _ _ _ v.toNat hact), s.raise_sets w _ (by decide), route_raise ..⟩

end

/-! ## The queue of changes -/

section
variable {c : ActChange} {s : State}

theorem queueChange_room (h : s.rack.planner.queue.length < 16) : queueChange c s = s.modPlanner fun p => { p with queue := p.queue ++ [c] } := if_pos h

theorem queueChange_full (h : 16 ≤ s.rack.planner.queue.length) : queueChange c s = s.modPlanner fun p => { p with actFaults := p.actFaults + 1 } :=
  if_neg (Nat.not_lt.mpr h)

/-- A change that is not under way is in the queue afterwards, were it there before or not. -/
theorem mem_queueOnce (hroom : s.rack.planner.queue.length < 16) (hchange : s.rack.planner.change ≠ some c) : c ∈ (queueOnce c s).rack.planner.queue := by
  unfold queueOnce
  split
  · rename_i hskip
    exact List.contains_iff_mem.mp (hskip.resolve_right fun h => hchange h.1)
  · rw [queueChange_room hroom]
    exact List.mem_append_right _ (List.mem_singleton_self c)

theorem exec_actChangeRequest_active (h : s.rack.planner.haveActive = true) : exec (.actChangeRequest c) s = .next (queueChange c s) :=
  congrArg Host.Outcome.next (if_pos h)

theorem completes_actChangeRequest_room (hactive : s.rack.planner.haveActive = true) (hroom : s.rack.planner.queue.length < 16) :
    Completes (.actChangeRequest c) s fun t =>
      t.rack.planner.queue = s.rack.planner.queue ++ [c] ∧ t.rack.planner.actFaults = s.rack.planner.actFaults :=
  ⟨_, (exec_actChangeRequest_active hactive).trans (congrArg Host.Outcome.next (queueChange_room hroom)), rfl, rfl⟩

theorem completes_actChangeRequest_full (hactive : s.rack.planner.haveActive = true) (hfull : 16 ≤ s.rack.planner.queue.length) :
    Completes (.actChangeRequest c) s fun t =>
      t.rack.planner.queue = s.rack.planner.queue ∧ t.rack.planner.actFaults = s.rack.planner.actFaults + 1 :=
  ⟨_, (exec_actChangeRequest_active hactive).trans (congrArg Host.Outcome.next (queueChange_full hfull)), rfl, rfl⟩

/-- Admitting a unit that waits queues its change, on a state with the same queue and the same change under way (R232, R234). -/
theorem unitAdmit_awaited (hactive : s.rack.planner.haveActive = true) (hawaits : s.awaits c = true) : ∃ t : State,
    unitAdmit c s = queueOnce c t ∧ t.rack.planner.queue = s.rack.planner.queue ∧ t.rack.planner.change = s.rack.planner.change := by
  simp only [unitAdmit, hactive, hawaits, Bool.not_true, Bool.or_self, Bool.false_eq_true, if_false]
  refine ⟨_, rfl, ?_⟩
  cases c <;> exact ⟨rfl, rfl⟩

theorem completes_unitAdmit (hactive : s.rack.planner.haveActive = true) (hawaits : s.awaits c = true) (hroom : s.rack.planner.queue.length < 16)
    (hchange : s.rack.planner.change ≠ some c) : Completes (.unitAdmit c) s fun t => c ∈ t.rack.planner.queue := by
  obtain ⟨t, hadmit, hqueue, hkept⟩ := unitAdmit_awaited hactive hawaits
  exact ⟨_, congrArg Host.Outcome.next hadmit, mem_queueOnce (hqueue ▸ hroom) (hkept ▸ hchange)⟩

end

/-! ## Building an act -/

theorem memberList_lt {mask w : Nat} (h : w ∈ State.memberList mask) : w < 36 := List.mem_range.mp (List.mem_filter.mp h).1

/-- The act that a change makes of the running one, or of none (R220, R226). -/
def State.builtAct (s : State) (c : ActChange) : Act :=
  { s.changed c (if s.anyLive then s.getActs (s.rack.planner.liveAct % 2) else { planes := 0xFFFF }) with
    gen := ((s.getActs (s.rack.planner.liveAct % 2)).gen + 1) % 2 ^ 32 }

/-- The state in which the tables of a built act are filled: the act is recorded, and its change has left the queue. -/
def State.actPlanned (s : State) (c : ActChange) (rest : List ActChange) : State :=
  (s.putActs s.nextAct (s.builtAct c)).modPlanner fun q =>
    { q with queue := rest, change := some c, step := .built, handed := q.handed.filter fun x => !bitAt (s.builtAct c).wafers x.1 }

/-- Some unit of an act uses the act bit still: it is LOCKED or above there (R220). -/
def State.bitInUse (s : State) (r : Act) : Bool :=
  (State.memberList r.wafers).any (fun w => 2 ≤ s.actState w s.nextAct) || (List.range 16).any fun k => bitAt r.planes k && 2 ≤ s.chipActState k s.nextAct

/-- Fill the tables of an act: on every member its on-wafer entries, then those that a load handed over, and on every plane the wafers (R220, R253). -/
def fillTables (es : List (Nat × Nat × Nat × Nat × Nat)) (handed : List (Nat × List Nat)) (act : Nat) (r : Act) (s : State) : State :=
  let filled := forEach (State.memberList r.wafers) s fun w u =>
    let own := (es.filter fun e => e.1 == w).map fun e => e.2
    forEach (own ++ handedEntries (mget [] handed w)) (writeSkips w act r.wafers (emptyAct w act u)) fun e u => routeWrite w e.1 act e.2.1 e.2.2.1 e.2.2.2 u
  forEach ((List.range 16).filter (bitAt r.planes)) filled fun k u => writeChip k act r.wafers u

section
variable (es : List (Nat × Nat × Nat × Nat × Nat)) (handed : List (Nat × List Nat)) (act : Nat) (r : Act) (s : State)

/-- Filling tables writes registers, and the attention records where an entry is refused, alone. -/
theorem fillTables_keeps : Keeps (anyReg ||| 2 ^ 4) s (fillTables es handed act r s) := by
  have hstart : ∀ (w : Nat) (u : State), Keeps (anyReg ||| 2 ^ 4) u (writeSkips w act r.wafers (emptyAct w act u)) := fun w u =>
    (writeSkips_keeps ..).next (by decide +kernel) ((emptyAct_keeps ..).widen (by decide +kernel))
  have hentry : ∀ (w : Nat) (e : Nat × Nat × Nat × Nat) (u : State), Keeps (anyReg ||| 2 ^ 4) u (routeWrite w e.1 act e.2.1 e.2.2.1 e.2.2.2 u) := fun _ _ _ =>
    (routeWrite_keeps ..).widen (by decide +kernel)
  exact forEach_keeps (fun _ _ => (writeChip_keeps ..).widen (by decide +kernel)) _
    (forEach_keeps (fun w u => forEach_keeps (hentry w) _ (hstart w u)) _ (.refl _ s))

theorem planner_fillTables : (fillTables es handed act r s).rack.planner = s.rack.planner :=
  (fillTables_keeps es handed act r s).planner (by decide +kernel)

theorem getActs_fillTables (k : Nat) : (fillTables es handed act r s).getActs k = s.getActs k :=
  (fillTables_keeps es handed act r s).getActs (by decide +kernel) k

end

section
variable {s : State} {c : ActChange} {rest : List ActChange}

theorem bitInUse_false (r : Act) (hwafers : ∀ w < 36, s.actState w s.nextAct < 2) (hchips : ∀ k < 16, s.chipActState k s.nextAct < 2) : s.bitInUse r = false := by
  simp only [State.bitInUse, Bool.or_eq_false_iff, List.any_eq_false, Bool.and_eq_true, decide_eq_true_eq, not_and, Nat.not_le]
  exact ⟨fun w hw => hwafers w (memberList_lt hw), fun k hk _ => hchips k (List.mem_range.mp hk)⟩

theorem actBuild_cons (es : List (Nat × Nat × Nat × Nat × Nat)) (hqueue : s.rack.planner.queue = c :: rest) : actBuild es s =
    if !s.rack.planner.haveActive || s.rack.planner.step = .draining || s.rack.planner.step = .rehearsing || s.rack.planner.step = .rehearsed ||
      s.bitInUse (s.builtAct c) then s
    else fillTables es s.rack.planner.handed s.nextAct (s.builtAct c) (s.actPlanned c rest) := by
  unfold actBuild
  simp only [hqueue]
  rfl

variable (hactive : s.rack.planner.haveActive = true)
include hactive

/-- The change at the head of the queue is built where none is under way beyond its build and the act bit is free (R220). -/
theorem actBuild_free (es : List (Nat × Nat × Nat × Nat × Nat)) (hqueue : s.rack.planner.queue = c :: rest)
    (hstep : s.rack.planner.step = .none ∨ s.rack.planner.step = .built) (hfree : s.bitInUse (s.builtAct c) = false) :
    actBuild es s = fillTables es s.rack.planner.handed s.nextAct (s.builtAct c) (s.actPlanned c rest) := by
  rw [actBuild_cons es hqueue, hactive, hfree]
  rcases hstep with h | h <;> rw [h] <;> rfl

theorem completes_actBuild (es : List RouteEntry) (hqueue : s.rack.planner.queue = c :: rest)
    (hstep : s.rack.planner.step = .none ∨ s.rack.planner.step = .built) (hwafers : ∀ w < 36, s.actState w s.nextAct < 2)
    (hchips : ∀ k < 16, s.chipActState k s.nextAct < 2) : Completes (.actBuild es) s fun t =>
      t.rack.planner.step = .built ∧ t.rack.planner.change = some c ∧ t.rack.planner.queue = rest ∧
      (t.getActs s.nextAct).gen = ((s.getActs (s.rack.planner.liveAct % 2)).gen + 1) % 2 ^ 32 := by
  refine ⟨_, congrArg Host.Outcome.next (actBuild_free hactive _ hqueue hstep (bitInUse_false _ hwafers hchips)), ?_⟩
  simp only [planner_fillTables, getActs_fillTables]
  exact ⟨rfl, rfl, rfl, congrArg Act.gen ((s.getActs_putActs s.nextAct s.nextAct (s.builtAct c)).trans (if_pos rfl))⟩

end

/-! ## Cueing an act -/

/-- A machine-scope cue leaves its identifier, its time and its members with the active RMC (R288). -/
theorem machineCueStart_active (members time mid : Nat) {s : State} (h : s.rack.planner.haveActive = true) : ∃ t : State,
    machineCueStart members time mid s =
      t.modPlanner fun p => { p with cueMid := mid, cueTime := time, cueActive := true, cueMembers := members, rotation := none } := by
  rw [machineCueStart, h]
  exact ⟨_, rfl⟩

/-- The state in which the slots of a cued act are started: its bit and generation are staged on every member (R220). -/
def State.actStaged (s : State) : State :=
  forEach (State.memberList (s.getActs s.nextAct).wafers) s fun w u =>
    (u.setWreg NET_ACT_STAMP w 0 s.nextAct).setWreg NET_ACT_GEN w 0 (s.getActs s.nextAct).gen

theorem planner_actStaged (s : State) : s.actStaged.rack.planner = s.rack.planner :=
  (forEach_keeps (M := 2) (fun w u => (State.setWreg_keeps ..).next (by decide) ((State.setWreg_keeps ..).widen (by decide))) _ (.refl 2 s)).planner (by decide)

section
variable {s : State} {time : Nat} (hactive : s.rack.planner.haveActive = true) (hstep : s.rack.planner.step = .built)
  (hdrained : ∀ w < 36, ∀ a < 2, s.actState w a ≠ 4) (hlater : ∀ w < 36, s.reg NET_ACT_APPLY_TIME w 0 + 20000 ≤ time)
include hactive hstep hdrained hlater

/-- A built act is cued once no wafer drains and 20 us after the last act applied (R220, R223). -/
theorem actCue_built (mid : Nat) : actCue time mid s =
    (machineCueStart (s.getActs s.nextAct).wafers time mid s.actStaged).modPlanner fun q => { q with step := .rehearsing } := by
  have hdrain : ((State.memberList (s.getActs s.nextAct).wafers).any fun w => [0, 1].any fun a => s.actState w a == 4) = false := by
    simp only [List.any_eq_false, List.any_eq_true, beq_iff_eq, not_exists, not_and]
    exact fun w hw a ha => hdrained w (memberList_lt hw) a (List.mem_range.mp (show a ∈ List.range 2 from ha))
  have hearly : ((State.memberList (s.getActs s.nextAct).wafers).any fun w =>
      (s.liveAct? w).isSome && decide (time < s.reg NET_ACT_APPLY_TIME w 0 + 20000)) = false := by
    simp only [List.any_eq_false, Bool.and_eq_true, decide_eq_true_eq, not_and, Nat.not_lt]
    exact fun w hw _ => hlater w (memberList_lt hw)
  simp only [actCue, hactive, hstep, hdrain, hearly, Bool.not_true, bne_self_eq_false, Bool.or_self, Bool.false_eq_true, if_false, State.actStaged]

theorem planner_actCue (mid : Nat) : (actCue time mid s).rack.planner.step = .rehearsing ∧ (actCue time mid s).rack.planner.cueActive = true ∧
    (actCue time mid s).rack.planner.cueMid = mid ∧ (actCue time mid s).rack.planner.cueMembers = (s.getActs s.nextAct).wafers := by
  obtain ⟨t, ht⟩ := machineCueStart_active (s.getActs s.nextAct).wafers time mid ((congrArg _ (planner_actStaged s)).trans hactive)
  rw [actCue_built hactive hstep hdrained hlater, ht]
  exact ⟨rfl, rfl, rfl, rfl⟩

end

end Sys2Proof.Machine

open Sys2Proof Sys2Proof.Machine

/-- Settles O25: a route entry is one write of its table or one raise; the steps of a change are read off the planner, which filling the tables and staging the
act leave alone. -/
theorem actTablesAndChanges : Obligations.ActTablesAndChanges := fun _ =>
  ⟨fun _ v => ⟨completes_routeTableWrite_stored v, completes_routeTableWrite_busy v _⟩,
    fun _ hactive => ⟨completes_actChangeRequest_room hactive, completes_actChangeRequest_full hactive⟩,
    fun es _ _ hactive hqueue hstep hwafers hchips => completes_actBuild hactive es hqueue hstep hwafers hchips,
    fun _ mid hactive hstep hdrained hlater => ⟨_, rfl, planner_actCue hactive hstep hdrained hlater mid.toNat⟩,
    fun _ hactive hawaits hroom hchange => completes_unitAdmit hactive hawaits hroom hchange⟩

end

section
/-!
PROOF. Starting, disarming and rehearsing a cue (R276, R279, R282, R283, R287).
-/
set_option Elab.async false
namespace Sys2Proof.Machine

/-! ## Fields of a word that is masked -/

theorem bits_and (a b hi lo : Nat) : bits (a &&& b) hi lo = bits a hi lo &&& bits b hi lo := by
  simp [bits, Nat.shiftRight_and_distrib, Nat.and_mod_two_pow]

theorem bits_or (a b hi lo : Nat) : bits (a ||| b) hi lo = bits a hi lo ||| bits b hi lo := by
  simp [bits, Nat.shiftRight_or_distrib, Nat.or_mod_two_pow]

/-- A mask whose bits of a field are all ones leaves the field. -/
theorem bits_and_ones (v : Nat) {m hi lo : Nat} (hm : bits m hi lo = 2 ^ (hi + 1 - lo) - 1) : bits (v &&& m) hi lo = bits v hi lo := by
  rw [bits_and, hm, Nat.and_two_pow_sub_one_eq_mod]
  exact Nat.mod_mod _ _

/-- Bits set outside a field leave the field. -/
theorem bits_or_zeros (v : Nat) {k hi lo : Nat} (hk : bits k hi lo = 0) : bits (v ||| k) hi lo = bits v hi lo := by
  rw [bits_or, hk, Nat.or_zero]

theorem bitAt_or (a b i : Nat) : bitAt (a ||| b) i = (bitAt a i || bitAt b i) := by simp only [bitAt_testBit, Nat.testBit_or]

theorem bitAt_and (a b i : Nat) : bitAt (a &&& b) i = (bitAt a i && bitAt b i) := by simp only [bitAt_testBit, Nat.testBit_and]

/-! ## Writes of CUE_CTRL (R276, R287) -/

section Control
variable {w path v : Nat} {s : State}

/-- The state in which a write of CUE_CTRL has stored its fields. -/
def ctrlWritten (w v : Nat) (s : State) : State := s.setReg CUE_CTRL w 0 (v &&& CUE_CTRL.rw)

theorem rd_ctrlWritten_ctrl {f : Fld} (hf : f.reg = CUE_CTRL) (hhi : f.hi < 64) (hrw : bits CUE_CTRL.rw f.hi f.lo = 2 ^ (f.hi + 1 - f.lo) - 1) :
    (ctrlWritten w v s).rd f w 0 = bits v f.hi f.lo := by
  rw [ctrlWritten, ← hf, State.rd_setReg_same _ _ _ _ _ hhi, hf, bits_and_ones v hrw]

theorem reg_ctrlWritten {r : Reg} (h : r.id ≠ CUE_CTRL.id) (x i : Nat) : (ctrlWritten w v s).reg r x i = s.reg r x i := State.reg_setReg_id _ _ _ _ _ _ _ _ h

theorem rd_ctrlWritten {f : Fld} (h : f.reg.id ≠ CUE_CTRL.id) (x i : Nat) : (ctrlWritten w v s).rd f x i = s.rd f x i := State.rd_setReg_id _ _ _ _ _ _ _ _ h

theorem cueCtrl_start (hstart : bitAt v 16 = true) (hdisarm : bitAt v 17 = false) : cueCtrl w path v s = startCue w path (ctrlWritten w v s) := by
  unfold cueCtrl ctrlWritten
  simp only [hstart, hdisarm, if_true, Bool.false_eq_true, if_false]

/-- The reason that a DISARM shows: a rule given for a machine cue is the RMC's (R287). -/
def disarmWhy (s : State) (w c rule : Nat) : Nat := if rule ≠ 0 ∧ s.rd CUE_SSTAT_SCOPE w c = 2 then 4 else 1

theorem disarmWhy_lt (s : State) (w c rule : Nat) : disarmWhy s w c rule < 16 := by
  unfold disarmWhy
  split <;> decide

theorem cueCtrl_disarm (hstart : bitAt v 16 = false) (hdisarm : bitAt v 17 = true) :
    cueCtrl w path v s = disarm w (bits v 2 0) (disarmWhy s w (bits v 2 0) (bits v 31 24)) (bits v 31 24) (ctrlWritten w v s) := by
  unfold disarmWhy
  rw [← rd_ctrlWritten (w := w) (v := v) (s := s) (f := CUE_SSTAT_SCOPE) (by decide)]
  unfold cueCtrl ctrlWritten
  simp only [hstart, hdisarm, if_true, Bool.false_eq_true, if_false]

end Control

/-! ## Starting (R276, R278) -/

/-- The word that CUE_SSTAT shows of a cue that rehearses. -/
def startWord (scope p sched source : Nat) : Nat := 2 + scope * 2 ^ 4 + p * 2 ^ 6 + sched * 2 ^ 15 + source * 2 ^ 16

theorem startWord_fields {scope p sched source : Nat} (hscope : scope < 4) (hp : p < 512) (hsched : sched < 2) :
    bits (startWord scope p sched source) 2 0 = 2 ∧ bits (startWord scope p sched source) 5 4 = scope ∧ bits (startWord scope p sched source) 14 6 = p ∧
      bits (startWord scope p sched source) 15 15 = sched := by
  simp only [startWord, bits, Nat.shiftRight_eq_div_pow]
  omega

/-- The state in which a slot's cue has begun to rehearse, before an act that it stamps is locked. -/
def slotStarted (w c scope p sched source time mid : Nat) (rotation : Option Nat) (s : State) : State :=
  (((((s.setReg CUE_SSTAT w c (startWord scope p sched source)).setReg CUE_SFAIL w c 0).setReg CUE_SOBJ w c 0).setReg CUE_SUS w c 0).setReg CUE_STIME w c 0).putSlots
    (w * 8 + c) { time := time, mid := mid, started := s.now, startTb := s.tbNow w, rotation := rotation, waitParts := rotation.toList }

section Start
variable {w : Nat} {s : State}

/-- With no other cue under way and no load locked, a cue rehearses at once. -/
theorem beginCue_rehearses (c scope p sched source time mid : Nat) (rotation : Option Nat)
    (hfree : ∀ d < 8, s.rd CUE_SSTAT_STATE w d = 0 ∨ 5 ≤ s.rd CUE_SSTAT_STATE w d) (hload : (s.getCueUnits w).loadLock = none) :
    beginCue w c scope p sched source time mid rotation s = lockStamp w c (slotStarted w c scope p sched source time mid rotation (ghostExit w s)) := by
  have hghost := ghostExit_keeps w s
  have hbusy : ((List.range 8).any fun d => d != c && decide (1 ≤ (ghostExit w s).rd CUE_SSTAT_STATE w d ∧ (ghostExit w s).rd CUE_SSTAT_STATE w d ≤ 4)
      && (ghostExit w s).scopesMeet w scope p ((ghostExit w s).rd CUE_SSTAT_SCOPE w d) ((ghostExit w s).rd CUE_SSTAT_PART w d)) = false := by
    refine List.any_eq_false.mpr fun d hd => ?_
    have hidle : ¬ (1 ≤ s.rd CUE_SSTAT_STATE w d ∧ s.rd CUE_SSTAT_STATE w d ≤ 4) := by
      have := hfree d (List.mem_range.mp hd)
      omega
    rw [hghost.rd CUE_SSTAT_STATE w d (by decide) (by decide +kernel), decide_eq_false hidle, Bool.and_false, Bool.false_and]
    exact Bool.false_ne_true
  have hlock : ((ghostExit w s).getCueUnits w).loadLock = none := by rw [hghost.getCueUnits (by decide +kernel), hload]
  unfold beginCue
  simp only [hbusy, hlock, Bool.false_and, Bool.false_eq_true, if_false]
  rfl

/-- A start in slots 1 to 7 with a scope and partition of the wafer, in a slot that no cue holds, begins the cue written in CUE_CTRL, CUE_TIME and CUE_MID. -/
theorem startCue_begins {c scope p : Nat} (path : Nat) (hc : s.rd CUE_CTRL_SLOT w 0 = c) (hscope : s.rd CUE_CTRL_SCOPE w 0 = scope) (hp : s.rd CUE_CTRL_PART w 0 = p)
    (hslot : c ≠ 0) (hlocal : scope < 2) (hpart : scope = 0 → p < 288) (hfree : s.rd CUE_SSTAT_STATE w c = 0 ∨ 5 ≤ s.rd CUE_SSTAT_STATE w c) :
    startCue w path s =
      beginCue w c scope (if scope = 0 then p else 0) (s.rd CUE_CTRL_SCHED w 0) path (s.reg CUE_TIME w 0) (s.reg CUE_MID w 0) none s := by
  have hgood : ¬ (scope = 3 ∨ (scope = 0 ∧ 287 < p) ∨ (c = 0 ∧ scope ≠ 2) ∨ (c ≠ 0 ∧ scope = 2) ∨
      (1 ≤ s.rd CUE_SSTAT_STATE w c ∧ s.rd CUE_SSTAT_STATE w c ≤ 4) ∨ (scope = 2 ∧ s.rd CUE_CTRL_SCHED w 0 = 0)) := by omega
  have hmachine : ¬ (scope = 2 ∧ (s.getCueUnits w).lastMid = some (s.reg CUE_MID w 0)) := by omega
  unfold startCue
  rw [hc, hscope, hp, if_neg hgood, if_neg hmachine]

/-- A change of a slot that keeps its value. -/
theorem modSlots_time (k j : Nat) {g : CueSlot → CueSlot} (hg : ∀ x, (g x).time = x.time) : ((s.modSlots j g).getSlots k).time = (s.getSlots k).time := by
  refine (congrArg CueSlot.time (s.getSlots_putSlots j k _)).trans ?_
  split
  · next h => rw [hg, h]
  · rfl

theorem lockStamp_time (c k : Nat) : ((lockStamp w c s).getSlots k).time = (s.getSlots k).time := by
  have hlock : ∀ (f : Fld) (x : Option Nat), (((s.wr f w 0 2).modSlots (w * 8 + c) fun y => { y with lockedAct := x }).getSlots k).time = (s.getSlots k).time :=
    fun f x => modSlots_time k _ fun _ => rfl
  unfold lockStamp
  dsimp only
  split <;> split
  · exact hlock _ _
  · rfl
  · exact hlock _ _
  · rfl

/-- A cue that has begun to rehearse shows its scope, partition and schedule, and holds its value (R276). -/
def Rehearses (w c scope p sched time : Nat) (t : State) : Prop :=
  t.rd CUE_SSTAT_STATE w c = 2 ∧ t.rd CUE_SSTAT_SCOPE w c = scope ∧ t.rd CUE_SSTAT_PART w c = p ∧ t.rd CUE_SSTAT_SCHED w c = sched ∧ (t.getSlots (w * 8 + c)).time = time

theorem slotStarted_rehearses (c source time mid : Nat) {scope p sched : Nat} (rotation : Option Nat) (hscope : scope < 4) (hp : p < 512) (hsched : sched < 2) :
    Rehearses w c scope p sched time (lockStamp w c (slotStarted w c scope p sched source time mid rotation s)) := by
  obtain ⟨hstate, hsc, hpart, hsch⟩ := startWord_fields (source := source) hscope hp hsched
  have hlock := lockStamp_keeps w c (slotStarted w c scope p sched source time mid rotation s)
  have hfield : ∀ f : Fld, f.reg = CUE_SSTAT → f.hi < 64 →
      (lockStamp w c (slotStarted w c scope p sched source time mid rotation s)).rd f w c = bits (startWord scope p sched source) f.hi f.lo := fun f hf hhi => by
    have hne : ∀ r : Reg, r.id ≠ CUE_SSTAT.id → f.reg.id ≠ r.id := fun r hr => by rw [hf]; exact hr.symm
    rw [hlock.rd f w c (by rw [hf]; decide) (by rw [hf]; decide +kernel), slotStarted, State.rd_putSlots, State.rd_setReg_id _ _ _ _ _ _ _ _ (hne _ (by decide)),
      State.rd_setReg_id _ _ _ _ _ _ _ _ (hne _ (by decide)), State.rd_setReg_id _ _ _ _ _ _ _ _ (hne _ (by decide)),
      State.rd_setReg_id _ _ _ _ _ _ _ _ (hne _ (by decide)), ← hf, State.rd_setReg_same _ _ _ _ _ hhi]
  refine ⟨(hfield _ rfl (by decide)).trans hstate, (hfield _ rfl (by decide)).trans hsc, (hfield _ rfl (by decide)).trans hpart,
    (hfield _ rfl (by decide)).trans hsch, ?_⟩
  rw [lockStamp_time, slotStarted, State.getSlots_putSlots, if_pos rfl]

end Start

theorem completes_cueStart (w : WaferId) (path : PathId) (v : Word32) (s : State) {c scope p : Nat} (hc : bits v.toNat 2 0 = c) (hscope : bits v.toNat 5 4 = scope)
    (hp : bits v.toNat 14 6 = p) (hslot : c ≠ 0) (hlocal : scope < 2) (hpart : scope = 0 → p < 288) (hdisarm : bitAt v.toNat 17 = false)
    (hfree : ∀ d < 8, s.rd CUE_SSTAT_STATE w d = 0 ∨ 5 ≤ s.rd CUE_SSTAT_STATE w d) (hload : (s.getCueUnits w).loadLock = none) :
    Completes (.cueStart w path v) s fun t =>
      Rehearses w c scope (if scope = 0 then p else 0) (bits v.toNat 15 15) (s.reg CUE_TIME w 0) t ∧ t.wings = s.wings := by
  have hkeeps := cueCtrl_keeps w path (v.toNat ||| 0x10000) s
  refine ⟨_, rfl, ?_, hkeeps.wings (by decide +kernel)⟩
  have hstart : bitAt (v.toNat ||| 0x10000) 16 = true := by rw [bitAt_or, show bitAt 0x10000 16 = true by decide, Bool.or_true]
  have hkept : bitAt (v.toNat ||| 0x10000) 17 = false := by rw [bitAt_or, hdisarm]; decide
  have hfield : ∀ f : Fld, f.reg = CUE_CTRL → f.hi < 64 → bits CUE_CTRL.rw f.hi f.lo = 2 ^ (f.hi + 1 - f.lo) - 1 → bits 0x10000 f.hi f.lo = 0 →
      (ctrlWritten w (v.toNat ||| 0x10000) s).rd f w 0 = bits v.toNat f.hi f.lo := fun f hf hhi hrw hclear => by
    rw [rd_ctrlWritten_ctrl hf hhi hrw, bits_or_zeros _ hclear]
  have hsched : bits v.toNat 15 15 < 2 := Nat.mod_lt _ (by decide)
  have hc8 : c < 8 := hc ▸ Nat.mod_lt _ (by decide)
  have hstate : ∀ d, (ctrlWritten w (v.toNat ||| 0x10000) s).rd CUE_SSTAT_STATE w d = s.rd CUE_SSTAT_STATE w d := rd_ctrlWritten (by decide) w
  rw [cueCtrl_start hstart hkept,
    startCue_begins path ((hfield CUE_CTRL_SLOT rfl (by decide) (by decide) (by decide)).trans hc) ((hfield CUE_CTRL_SCOPE rfl (by decide) (by decide) (by decide)).trans hscope)
      ((hfield CUE_CTRL_PART rfl (by decide) (by decide) (by decide)).trans hp) hslot hlocal hpart (by rw [hstate]; exact hfree c hc8),
    hfield CUE_CTRL_SCHED rfl (by decide) (by decide) (by decide), reg_ctrlWritten (by decide),
    beginCue_rehearses (s := ctrlWritten w _ s) _ _ _ _ _ _ _ _ (fun d hd => by rw [hstate]; exact hfree d hd) hload]
  exact slotStarted_rehearses _ _ _ _ _ (by omega) (by split <;> omega) hsched

/-! ## Disarming (R287) -/

section Disarm
variable (w c why rule : Nat) (s : State)

/-- The state in which a slot is disarmed: a slot that is not armed yet notes its time. -/
def disarmNoted (w c : Nat) (s : State) : State := if s.rd CUE_SSTAT_STATE w c = 3 then s else noteTime w c s

theorem disarmNoted_keeps : Keeps (regBit CUE_SUS) s (disarmNoted w c s) := .ite (.refl ..) ((noteTime_keeps ..).widen (by decide +kernel))

theorem disarm_idle (h : s.rd CUE_SSTAT_STATE w c = 0 ∨ 3 < s.rd CUE_SSTAT_STATE w c) : disarm w c why rule s = s := if_pos h

/-- A slot that waits, rehearses or is armed is disarmed in three steps: its registers, what it holds, the report. -/
theorem disarm_active (h1 : 1 ≤ s.rd CUE_SSTAT_STATE w c) (h3 : s.rd CUE_SSTAT_STATE w c ≤ 3) :
    disarm w c why rule s = disarmReported w c (slotReleased w c (slotDisarmed w c why rule (disarmNoted w c s))) := if_neg (by omega)

theorem slotDisarmed_why (h : why < 16) : (slotDisarmed w c why rule s).rd CUE_SSTAT_DISARM_WHY w c = why := by
  rw [slotDisarmed, State.rd_wr_id _ _ _ _ _ _ _ _ (by decide), State.rd_wr_same _ _ _ _ _ (by decide) (by decide)]
  exact Nat.mod_eq_of_lt h

/-- A slot that a DISARM has ended, with its reason and rule (R287). -/
def Disarmed (w c why rule : Nat) (t : State) : Prop :=
  t.rd CUE_SSTAT_STATE w c = 7 ∧ t.rd CUE_SSTAT_DISARM_WHY w c = why ∧ t.rd CUE_SFAIL_RULE w c = rule ∧ t.leafSet w Leaf.cueDisarm = true

variable {why rule}

theorem disarm_disarms (h1 : 1 ≤ s.rd CUE_SSTAT_STATE w c) (h3 : s.rd CUE_SSTAT_STATE w c ≤ 3) (hwhy : why < 16) (hrule : rule < 2 ^ CUE_SFAIL_RULE.width) :
    Disarmed w c why rule (disarm w c why rule s) := by
  rw [disarm_active w c why rule s h1 h3]
  exact ⟨(disarm_rd w c _ _ (Or.inl rfl)).trans (slotDisarmed_state ..), (disarm_rd w c _ _ (Or.inl rfl)).trans (slotDisarmed_why w c why rule _ hwhy),
    (disarm_rd w c _ _ (Or.inr rfl)).trans (slotDisarmed_rule w c why _ hrule), disarmReported_leaf w c _⟩

end Disarm

/-- The word of CUE_CTRL that the command CUE_DISARM writes: DISARM set and START clear. -/
def disarmWord (v : Nat) : Nat := (v &&& notBits 32 0x10000) ||| 0x20000

theorem cueCtrl_disarmWord (w path v : Nat) (s : State) : cueCtrl w path (disarmWord v) s =
    disarm w (bits v 2 0) (disarmWhy s w (bits v 2 0) (bits v 31 24)) (bits v 31 24) (ctrlWritten w (disarmWord v) s) := by
  have hslot : bits (disarmWord v) 2 0 = bits v 2 0 := (bits_or_zeros _ (by decide)).trans (bits_and_ones v (by decide))
  have hrule : bits (disarmWord v) 31 24 = bits v 31 24 := (bits_or_zeros _ (by decide)).trans (bits_and_ones v (by decide))
  have hstart : bitAt (disarmWord v) 16 = false := by
    rw [disarmWord, bitAt_or, bitAt_and, show bitAt (notBits 32 0x10000) 16 = false by decide, Bool.and_false]
    decide
  have hdisarm : bitAt (disarmWord v) 17 = true := by
    rw [disarmWord, bitAt_or, show bitAt 0x20000 17 = true by decide, Bool.or_true]
  rw [cueCtrl_disarm hstart hdisarm, hslot, hrule]

section DisarmCommand
variable (w : WaferId) (path : PathId) (v : Word32) (s : State)

theorem exec_cueDisarm : exec (.cueDisarm w path v) s = .next (cueCtrl w path (disarmWord v.toNat) s) := rfl

theorem cueDisarm_wings : (cueCtrl w path (disarmWord v.toNat) s).wings = s.wings := (cueCtrl_keeps ..).wings (by decide +kernel)

theorem completes_cueDisarm {c : Nat} (hc : bits v.toNat 2 0 = c) (h1 : 1 ≤ s.rd CUE_SSTAT_STATE w c) (h3 : s.rd CUE_SSTAT_STATE w c ≤ 3) :
    Completes (.cueDisarm w path v) s fun t => Disarmed w c (disarmWhy s w c (bits v.toNat 31 24)) (bits v.toNat 31 24) t ∧ t.wings = s.wings := by
  refine ⟨_, exec_cueDisarm w path v s, ?_, cueDisarm_wings w path v s⟩
  have hstate := rd_ctrlWritten (w := w) (v := disarmWord v.toNat) (s := s) (f := CUE_SSTAT_STATE) (by decide) w c
  rw [cueCtrl_disarmWord, hc]
  exact disarm_disarms w c _ (hstate ▸ h1) (hstate ▸ h3) (disarmWhy_lt ..) (Nat.mod_lt _ (by decide))

theorem completes_cueDisarm_idle {c : Nat} (hc : bits v.toNat 2 0 = c) (h : s.rd CUE_SSTAT_STATE w c = 0 ∨ 3 < s.rd CUE_SSTAT_STATE w c) :
    Completes (.cueDisarm w path v) s fun t => t.reg CUE_SSTAT w c = s.reg CUE_SSTAT w c ∧ t.wings = s.wings := by
  refine ⟨_, exec_cueDisarm w path v s, ?_, cueDisarm_wings w path v s⟩
  rw [cueCtrl_disarmWord, hc, disarm_idle w c _ _ _ (by rw [rd_ctrlWritten (by decide)]; exact h), reg_ctrlWritten (by decide)]

end DisarmCommand

/-! ## The end of rehearsal (R279, R282, R283) -/

/-- A slot whose cue has failed rehearsal, with the rule and the kind of object (R282). -/
def CueFailed (w c : Nat) (e : CueErr) (s t : State) : Prop :=
  t.rd CUE_SSTAT_STATE w c = 6 ∧ t.rd CUE_SFAIL_RULE w c = e.rule % 2 ^ CUE_SFAIL_RULE.width ∧ t.rd CUE_SFAIL_OBJ_KIND w c = e.kind % 2 ^ CUE_SFAIL_OBJ_KIND.width ∧
    t.leafSet w Leaf.cueFail = true ∧ t.wings = s.wings

section Failure
variable (w c : Nat) (e : CueErr) (s : State)

/-- What a failure writes into the registers of its slot (R282). -/
def slotFailed (w c : Nat) (e : CueErr) (s : State) : State :=
  ((((noteTime w c s).wr CUE_SSTAT_STATE w c 6).wr CUE_SFAIL_RULE w c e.rule).wr CUE_SFAIL_OBJ_KIND w c e.kind).setReg CUE_SOBJ w c e.id

/-- Beside its slot's registers, a failure gives up what the slot holds, writes the journal entry and raises CUE_FAIL. -/
theorem failCue_raises : ∃ u, Keeps 0x14c004600100000006000000000000000000000000400000000800000000070000000000208000418 (slotFailed w c e s) u ∧ failCue w c e s = u.raiseS w c Leaf.cueFail :=
  ⟨_, .next (journalCue_keeps ..) (by decide +kernel) (.next (State.modSlots_keeps ..) (by decide +kernel)
    (.next (dropRotation_keeps ..) (by decide +kernel) (.widen (unlockAct_keeps ..) (by decide +kernel)))), rfl⟩

theorem slotFailed_fields : (slotFailed w c e s).rd CUE_SSTAT_STATE w c = 6 ∧ (slotFailed w c e s).rd CUE_SFAIL_RULE w c = e.rule % 2 ^ CUE_SFAIL_RULE.width ∧
    (slotFailed w c e s).rd CUE_SFAIL_OBJ_KIND w c = e.kind % 2 ^ CUE_SFAIL_OBJ_KIND.width := by
  have hobj : ∀ (t : State) (f : Fld), f.reg.id ≠ CUE_SOBJ.id → (t.setReg CUE_SOBJ w c e.id).rd f w c = t.rd f w c := fun t f h => t.rd_setReg_id _ _ _ _ _ _ _ h
  refine ⟨?_, ?_, ?_⟩
  · rw [slotFailed, hobj _ _ (by decide), State.rd_wr_id _ _ _ _ _ _ _ _ (by decide), State.rd_wr_id _ _ _ _ _ _ _ _ (by decide)]
    exact State.rd_wr_same _ _ _ _ _ (by decide) (by decide)
  · rw [slotFailed, hobj _ _ (by decide), State.rd_wr_field _ CUE_SFAIL_OBJ_KIND CUE_SFAIL_RULE _ _ _ rfl (by decide) (by decide) (by decide)]
    exact State.rd_wr_same _ _ _ _ _ (by decide) (by decide)
  · rw [slotFailed, hobj _ _ (by decide)]
    exact State.rd_wr_same _ _ _ _ _ (by decide) (by decide)

theorem failCue_fails : CueFailed w c e s (failCue w c e s) := by
  obtain ⟨u, hu, heq⟩ := failCue_raises w c e s
  obtain ⟨hstate, hrule, hkind⟩ := slotFailed_fields w c e s
  have hraise := State.raiseS_keeps u w c Leaf.cueFail
  have hfield : ∀ f : Fld, f.reg = CUE_SSTAT ∨ f.reg = CUE_SFAIL → (failCue w c e s).rd f w c = (slotFailed w c e s).rd f w c := fun f hf => by
    have hid : f.reg.id < 320 := by rcases hf with h | h <;> rw [h] <;> decide
    rw [heq, hraise.rd f w c hid (by rcases hf with h | h <;> rw [h] <;> decide +kernel), hu.rd f w c hid (by rcases hf with h | h <;> rw [h] <;> decide +kernel)]
  refine ⟨(hfield _ (Or.inl rfl)).trans hstate, (hfield _ (Or.inr rfl)).trans hrule, (hfield _ (Or.inr rfl)).trans hkind, ?_,
    (failCue_keeps w c e s).wings (by decide +kernel)⟩
  rw [heq]
  exact State.raiseS_sets _ _ _ _ (by decide)

end Failure

section Rehearsal
variable (w c : Nat) (s : State)

/-- What the rehearsal of a slot's cue looks at: the state that the cue finds and the one that it would leave (R279, R280). -/
def State.rehearsal (s : State) (w c : Nat) : Reh :=
  ⟨w, s.rd CUE_SSTAT_SCOPE w c, s.rd CUE_SSTAT_PART w c, c, s.slotChanges w c, s, s.afterCue w (s.slotChanges w c)⟩

/-- What rehearsal leaves whatever its verdict: the number of objects (R275) and the digests of the charts of the scope (R280). -/
def rehearsed (w c : Nat) (s : State) : State :=
  (s.wr CUE_SFAIL_OBJECTS w c (min (countObjs (s.slotChanges w c)) 8191)).modCueUnits w fun u => { u with
    chartDigests := (if s.rd CUE_SSTAT_SCOPE w c = 0 then [s.rd CUE_SSTAT_PART w c] else allParts).foldl (fun m q => mset 0 m q (s.chartDigest w q)) u.chartDigests }

theorem rehearsed_objects : (rehearsed w c s).rd CUE_SFAIL_OBJECTS w c = min (countObjs (s.slotChanges w c)) 8191 := by
  have hcount : ∀ n : Nat, min n 8191 % 2 ^ (CUE_SFAIL_OBJECTS.hi + 1 - CUE_SFAIL_OBJECTS.lo) = min n 8191 := fun n => by
    show min n 8191 % 8192 = min n 8191
    omega
  rw [rehearsed, State.modCueUnits, State.rd_putCueUnits, State.rd_wr_same _ _ _ _ _ (by decide) (by decide), hcount]

theorem rehearsed_keeps : Keeps (regBit CUE_SFAIL ||| 0x10000000) s (rehearsed w c s) :=
  .next (State.modCueUnits_keeps ..) (by decide +kernel) (.widen (State.wr_keeps ..) (by decide +kernel))

/-- A cue that has passed rehearsal is armed. -/
def cueArmed (w c : Nat) (s : State) : State := (noteTime w c s).wr CUE_SSTAT_STATE w c 3

theorem cueArmed_state : (cueArmed w c s).rd CUE_SSTAT_STATE w c = 3 := State.rd_wr_same _ _ _ _ _ (by decide) (by decide)

theorem cueArmed_keeps : Keeps (regBit CUE_SUS ||| regBit CUE_SSTAT) s (cueArmed w c s) :=
  .next (State.wr_keeps ..) (by decide +kernel) (.widen (noteTime_keeps ..) (by decide +kernel))

variable (hst : s.rd CUE_SSTAT_STATE w c = 2)
include hst

/-- A cue that breaks a rule fails with it (R279, R282). -/
theorem rehearsalDone_fails {e : CueErr} (h : (s.rehearsal w c).verdict = some e) : rehearsalDone w c s = failCue w c e (rehearsed w c s) := by
  unfold State.rehearsal State.slotChanges at h
  simp only [rehearsalDone, hst, ne_eq, not_true_eq_false, if_false, h]
  rfl

/-- A cue that breaks no rule is armed, and then shows its value or waits for its partitions (R283, R284). -/
theorem rehearsalDone_arms (h : (s.rehearsal w c).verdict = none) :
    Keeps (2 ^ (64 + TB_STAT.id) ||| regBit CUE_STIME ||| 0x8000000) (cueArmed w c (rehearsed w c s)) (rehearsalDone w c s) := by
  unfold State.rehearsal State.slotChanges at h
  simp only [rehearsalDone, hst, ne_eq, not_true_eq_false, if_false, h]
  exact .ite (.next (schedSync_keeps ..) (by decide +kernel) (.widen (State.setReg_keeps ..) (by decide +kernel))) (.widen (State.modSlots_keeps ..) (by decide +kernel))

end Rehearsal

section Commands
variable (w : WaferId) (c : Fin 8) (s : State)

theorem completes_rehearsal_passed (hst : s.rd CUE_SSTAT_STATE w c = 2) (h : (s.rehearsal w c).verdict = none) : Completes (.rehearsalDone w c) s fun t =>
    t.rd CUE_SSTAT_STATE w c = 3 ∧ t.rd CUE_SFAIL_OBJECTS w c = min (countObjs (s.slotChanges w c)) 8191 ∧ t.wings = s.wings := by
  have hdone := rehearsalDone_arms w c s hst h
  have harmed := cueArmed_keeps w c (rehearsed w c s)
  refine ⟨_, rfl, ?_, ?_, ?_⟩
  · rw [hdone.rd _ _ _ (by decide) (by decide +kernel), cueArmed_state]
  · rw [hdone.rd _ _ _ (by decide) (by decide +kernel), harmed.rd _ _ _ (by decide) (by decide +kernel), rehearsed_objects]
  · rw [hdone.wings (by decide +kernel), harmed.wings (by decide +kernel), (rehearsed_keeps ..).wings (by decide +kernel)]

theorem completes_rehearsal_failed (hst : s.rd CUE_SSTAT_STATE w c = 2) {e : CueErr} (h : (s.rehearsal w c).verdict = some e) :
    Completes (.rehearsalDone w c) s (CueFailed w c e s) := by
  obtain ⟨hstate, hrule, hkind, hleaf, hwings⟩ := failCue_fails w c e (rehearsed w c s)
  exact ⟨_, congrArg Host.Outcome.next (rehearsalDone_fails w c s hst h), hstate, hrule, hkind, hleaf, hwings.trans ((rehearsed_keeps w c s).wings (by decide +kernel))⟩

theorem completes_rehearsalTimeout (h1 : 1 ≤ s.rd CUE_SSTAT_STATE w c) (h2 : s.rd CUE_SSTAT_STATE w c ≤ 2) :
    Completes (.rehearsalTimeout w c) s (CueFailed w c ⟨20, 7, 0⟩ s) := by
  have hlate : rehearsalTimeout w c s = failCue w c ⟨20, 7, 0⟩ s := if_pos (by omega)
  exact ⟨_, congrArg Host.Outcome.next hlate, failCue_fails w c _ s⟩

end Commands

end Sys2Proof.Machine

open Sys2Proof Sys2Proof.Machine

/-- Settles O28: a start writes the slot's status word and its value, a DISARM is a disarm of the slot that CUE_CTRL names, and a verdict or the timeout is the write
of the slot's end. -/
theorem cueStartsAndRehearsal : Obligations.CueStartsAndRehearsal := by
  refine fun w s => ⟨fun path v hslot hlocal hpart hdisarm hfree hload => ?_, fun path v => ⟨fun h1 h3 => ?_, completes_cueDisarm_idle w path v s rfl⟩,
    fun c hst => ⟨completes_rehearsal_passed w c s hst, fun e => completes_rehearsal_failed w c s hst⟩, fun c h1 h2 => ?_⟩
  · refine (completes_cueStart w path v s rfl rfl rfl hslot hlocal hpart hdisarm hfree hload).imp fun t h => ?_
    obtain ⟨⟨hstate, hscope, hp, hsched, htime⟩, hwings⟩ := h
    exact ⟨hstate, hscope, hp, hsched, htime, hwings⟩
  · refine (completes_cueDisarm w path v s rfl h1 h3).imp fun t h => ?_
    obtain ⟨⟨hstate, hwhy, hrule, hleaf⟩, hwings⟩ := h
    exact ⟨hstate, hwhy, hrule, hleaf, hwings⟩
  · refine (completes_rehearsalTimeout w c s h1 h2).imp fun t h => ?_
    obtain ⟨hstate, hrule, _, hleaf, hwings⟩ := h
    exact ⟨hstate, hrule, hleaf, hwings⟩

end

section
/-!
PROOF. Machine-scope cues and the go frame (R34, R288, R289, R630).
-/
set_option Elab.async false
namespace Sys2Proof.Machine

/-! ## One operation for each element of a list -/

section ForEach
variable {α : Type} {g : α → State → State}

/-- An operation for each element of a list, which makes `Q` of its element into `P` and leaves both of every other element, leaves `P` of all of them. -/
theorem forEach_establishes {Q P : α → State → Prop} (hdone : ∀ a t, Q a t → P a (g a t)) (hbefore : ∀ a b t, a ≠ b → Q a t → Q a (g b t))
    (hafter : ∀ a b t, a ≠ b → P a t → P a (g b t)) {xs : List α} (hd : xs.Nodup) {s : State} (hs : ∀ a ∈ xs, Q a s) : ∀ a ∈ xs, P a (forEach xs s g) := by
  have hlater : ∀ (ys : List α) (t : State) (a : α), a ∉ ys → P a t → P a (forEach ys t g) := fun ys => by
    induction ys with
    | nil => exact fun t a _ h => h
    | cons b ys ih =>
      intro t a ha h
      obtain ⟨hb, hys⟩ := not_or.mp (mt List.mem_cons.mpr ha)
      exact ih (g b t) a hys (hafter a b t hb h)
  induction xs generalizing s with
  | nil => exact fun a ha => absurd ha List.not_mem_nil
  | cons b xs ih =>
    obtain ⟨hb, hxs⟩ := List.nodup_cons.mp hd
    intro a ha
    rcases List.mem_cons.mp ha with rfl | ha
    · exact hlater xs _ a hb (hdone a s (hs a List.mem_cons_self))
    · exact ih hxs (fun x hx => hbefore x b s (fun e => hb (e ▸ hx)) (hs x (List.mem_cons_of_mem _ hx))) a ha

theorem forEach_signals (hg : ∀ a t, SendsSignals t (g a t)) (xs : List α) (s : State) : SendsSignals s (forEach xs s g) := by
  induction xs generalizing s with
  | nil => exact .refl s
  | cons a xs ih => exact (hg a s).trans (ih (g a s))

end ForEach

/-- Signals add nothing to the messages of another kind. -/
theorem SendsSignals.filter_out {s t : State} (h : SendsSignals s t) {q : Emit → Bool} (hq : ∀ e, e.isSignal = true → q e = false) : t.out.filter q = s.out.filter q := by
  obtain ⟨new, hout, hnew⟩ := h
  rw [hout, List.filter_append, List.filter_eq_nil_iff.mpr fun e he => by rw [hq e (hnew e he)]; exact Bool.false_ne_true, List.nil_append]

theorem memberList_nodup (mask : Nat) : (State.memberList mask).Nodup := List.Nodup.filter _ List.nodup_range

/-! ## A disarm beyond its own slot -/

section Beyond
variable (w c : Nat) (s : State)

theorem State.when_signals {s t : State} {b : Bool} {g : State → State} (h : SendsSignals s t) (hg : ∀ u, SendsSignals u (g u)) : SendsSignals s (t.when b g) :=
  .ite (h.trans (hg t)) h

theorem accrue_signals : SendsSignals s (accrue w s) := by
  unfold accrue
  have hcount : ∀ (f : Fld) (i n : Nat) (t : State), SendsSignals t (t.incWrap f w i n) := fun _ _ _ t => .of_out rfl
  refine .ite (.refl s) (SendsSignals.trans (t := s.putMeters w _) (.of_out rfl) (forEach_signals (fun p t => ?_) _ _))
  exact forEach_signals (fun r t => State.when_signals (State.when_signals (.refl t) (hcount _ _ _)) (hcount _ _ _)) _ _

theorem State.journalAt_signals (time kind source scope outcome scopeId : Nat) (detail digest : List Nat) :
    SendsSignals s (s.journalAt time w kind source scope outcome scopeId detail digest) := by
  have hsync : ∀ j, SendsSignals s ((s.putJournals w j).jrnlSync w) := fun _ => .of_out rfl
  unfold State.journalAt
  exact .ite (((hsync _).wr ..).trans (State.raise_signals ..)) (hsync _)

theorem slotReleased_signals : SendsSignals s (slotReleased w c s) := by
  have hunlock : SendsSignals s (unlockAct w c s) := by
    unfold unlockAct State.setActState
    split
    · split_ifs <;> exact .of_out rfl
    · exact .refl s
  have hdrop : ∀ t : State, SendsSignals t (dropRotation w c t) := fun t => by
    unfold dropRotation
    split
    · exact (accrue_signals w t).trans (.of_out rfl)
    · exact .refl t
  exact (hunlock.trans (hdrop _)).trans (.of_out rfl)

theorem disarmReported_signals : SendsSignals s (disarmReported w c s) := by
  have hjournal : SendsSignals s (journalCue w c 2 (s.tbNow w) 0 s) := (State.journalAt_signals ..).setReg ..
  exact (hjournal.trans ((SendsSignals.setReg (.refl _) ..).trans (State.raise_signals ..))).trans (.of_out rfl)

theorem ctrlWritten_signals (v : Nat) : SendsSignals s (ctrlWritten w v s) := (SendsSignals.refl s).setReg _ _ _ _

/-- A disarm sends nothing but signals. -/
theorem disarm_signals (why rule : Nat) : SendsSignals s (disarm w c why rule s) := by
  by_cases hidle : s.rd CUE_SSTAT_STATE w c = 0 ∨ 3 < s.rd CUE_SSTAT_STATE w c
  · rw [disarm_idle w c why rule s hidle]
    exact .refl s
  · rw [disarm_active w c why rule s (by omega) (by omega)]
    have hnoted : SendsSignals s (disarmNoted w c s) := .ite (.refl s) (.of_out rfl)
    have hended : SendsSignals s (slotDisarmed w c why rule (disarmNoted w c s)) := ((hnoted.wr ..).wr ..).wr ..
    exact (hended.trans (slotReleased_signals ..)).trans (disarmReported_signals ..)

/-- A disarm leaves the status of another wafer's slots. -/
theorem disarm_other (why rule : Nat) {x : Nat} (i : Nat) (hx : x ≠ w) {f : Fld} (hf : f.reg = CUE_SSTAT ∨ f.reg = CUE_SFAIL) :
    (disarm w c why rule s).rd f x i = s.rd f x i := by
  by_cases hidle : s.rd CUE_SSTAT_STATE w c = 0 ∨ 3 < s.rd CUE_SSTAT_STATE w c
  · rw [disarm_idle w c why rule s hidle]
  · have hid : f.reg.id < 320 := by rcases hf with h | h <;> rw [h] <;> decide
    rw [disarm_active w c why rule s (by omega) (by omega), (disarmReported_keeps ..).rd f x i hid (by rcases hf with h | h <;> rw [h] <;> decide +kernel),
      (slotReleased_keeps ..).rd f x i hid (by rcases hf with h | h <;> rw [h] <;> decide +kernel), slotDisarmed, State.rd_wr_ne _ _ _ _ _ _ _ _ (Or.inr (Or.inl hx)),
      State.rd_wr_ne _ _ _ _ _ _ _ _ (Or.inr (Or.inl hx)), State.rd_wr_ne _ _ _ _ _ _ _ _ (Or.inr (Or.inl hx)),
      (disarmNoted_keeps w c s).rd f x i hid (by rcases hf with h | h <;> rw [h] <;> decide +kernel)]

end Beyond

/-! ## Starting slot 0 of every member (R288) -/

/-- The active RMC's writes that start slot 0 of a member. -/
def memberStarted (time mid w : Nat) (s : State) : State := cueCtrl w 1 (0x10000 + 0x8000 + 0x20) ((s.setReg CUE_TIME w 0 time).setReg CUE_MID w 0 mid)

/-- A member's start registers hold a machine cue. -/
def MemberTold (time mid w : Nat) (s : State) : Prop := s.reg CUE_TIME w 0 = time ∧ s.reg CUE_MID w 0 = mid ∧ s.rd CUE_CTRL_SCOPE w 0 = 2

section Members
variable (time mid w : Nat) (s : State)

/-- Starting a member writes its start registers, and beside them only what the start of a cue may change. -/
theorem memberStarted_reg {r : Reg} (hr : r = CUE_TIME ∨ r = CUE_MID ∨ r = CUE_CTRL) (x i : Nat) : (memberStarted time mid w s).reg r x i =
    (ctrlWritten w 0x18020 ((s.setReg CUE_TIME w 0 time).setReg CUE_MID w 0 mid)).reg r x i := by
  rw [memberStarted, cueCtrl_start (by decide) (by decide)]
  exact (startCue_keeps ..).regs r x i (by rcases hr with h | h | h <;> rw [h] <;> decide) (by rcases hr with h | h | h <;> rw [h] <;> decide +kernel)

theorem memberStarted_told (htime : time < 2 ^ 64) (hmid : mid < 2 ^ 64) : MemberTold time mid w (memberStarted time mid w s) := by
  have hreg := fun (r : Reg) hr => memberStarted_reg time mid w s (r := r) hr w 0
  refine ⟨?_, ?_, ?_⟩
  · rw [hreg _ (Or.inl rfl), reg_ctrlWritten (by decide), State.reg_setReg_id _ _ _ _ _ _ _ _ (by decide), State.reg_setReg_same, Nat.mod_eq_of_lt htime]
  · rw [hreg _ (Or.inr (Or.inl rfl)), reg_ctrlWritten (by decide), State.reg_setReg_same, Nat.mod_eq_of_lt hmid]
  · have hscope := (rd_ctrlWritten_ctrl (w := w) (v := 0x18020) (s := (s.setReg CUE_TIME w 0 time).setReg CUE_MID w 0 mid) (f := CUE_CTRL_SCOPE) rfl (by decide) (by decide))
    exact ((congrArg (bits · 5 4) (hreg _ (Or.inr (Or.inr rfl)))).trans hscope).trans (by decide)

/-- Starting another member leaves a member's start registers. -/
theorem memberStarted_other {x : Nat} (hx : x ≠ w) (h : MemberTold time mid x s) : MemberTold time mid x (memberStarted time mid w s) := by
  have hreg : ∀ r : Reg, r = CUE_TIME ∨ r = CUE_MID ∨ r = CUE_CTRL → (memberStarted time mid w s).reg r x 0 = s.reg r x 0 := fun r hr => by
    rw [memberStarted_reg time mid w s hr, ctrlWritten, State.reg_setReg_ne _ _ _ _ _ _ _ _ (Or.inr (Or.inl hx)), State.reg_setReg_ne _ _ _ _ _ _ _ _ (Or.inr (Or.inl hx)),
      State.reg_setReg_ne _ _ _ _ _ _ _ _ (Or.inr (Or.inl hx))]
  obtain ⟨htime, hmid, hscope⟩ := h
  exact ⟨(hreg _ (Or.inl rfl)).trans htime, (hreg _ (Or.inr (Or.inl rfl))).trans hmid, (congrArg (bits · 5 4) (hreg _ (Or.inr (Or.inr rfl)))).trans hscope⟩

theorem memberStarted_keeps : Keeps 0x200294c0046001010000060040000000000000000000007e7800000800000000070000000006228000418 s (memberStarted time mid w s) :=
  .next (cueCtrl_keeps ..) (by decide +kernel) (.next (State.setReg_keeps ..) (by decide +kernel) (.widen (State.setReg_keeps ..) (by decide +kernel)))

end Members

/-- The members on which a machine cue starts: those that are powered. -/
def State.startMembers (s : State) (members : Nat) : List Nat := (State.memberList members).filter fun w => (s.getWafers w).powered

/-- What the active RMC keeps of a machine cue that it has started (R288). -/
def Planner.cueStarted (members time mid : Nat) (p : Planner) : Planner :=
  { p with cueMid := mid, cueTime := time, cueActive := true, cueMembers := members, rotation := none }

section StartAll
variable (members time mid : Nat) {s : State}

theorem machineCueStart_members (hactive : s.rack.planner.haveActive = true) (hrot : s.rack.planner.rotation = none) : machineCueStart members time mid s =
    (forEach (s.startMembers members) s (memberStarted time mid)).modPlanner (Planner.cueStarted members time mid) := by
  have hplanner : (forEach (s.startMembers members) s (memberStarted time mid)).rack.planner = s.rack.planner :=
    (forEach_keeps (memberStarted_keeps time mid) _ (.refl _ s)).planner (by decide +kernel)
  have hnone : (forEach (s.startMembers members) s (memberStarted time mid)).rack.planner.rotation = none := by rw [hplanner, hrot]
  unfold memberStarted State.startMembers at hnone
  simp only [machineCueStart, hactive, hnone, Bool.not_true, Bool.false_eq_true, if_false]
  rfl

theorem machineCueStart_told (htime : time < 2 ^ 64) (hmid : mid < 2 ^ 64) :
    ∀ w ∈ s.startMembers members, MemberTold time mid w (forEach (s.startMembers members) s (memberStarted time mid)) :=
  forEach_establishes (Q := fun _ _ => True) (fun w t _ => memberStarted_told time mid w t htime hmid) (fun _ _ _ _ _ => trivial)
    (fun _ x t hne h => memberStarted_other time mid x t hne h) ((memberList_nodup members).filter _) fun _ _ => trivial

end StartAll

/-! ## Disarming the members that armed (R289) -/

/-- The members whose slot 0 is armed for the machine cue under way. -/
def State.armedMembers (s : State) : List Nat :=
  (State.memberList s.rack.planner.cueMembers).filter fun w => s.rd CUE_SSTAT_STATE w 0 == 3 && (s.getSlots (w * 8)).mid == s.rack.planner.cueMid

/-- The word of CUE_CTRL that disarms slot 0 with a code. -/
def codeWord (code : Nat) : Nat := code * 2 ^ 24 + 0x20000 + 0x8000 + 0x20

theorem codeWord_fields {code : Nat} (h : code < 256) :
    bits (codeWord code) 2 0 = 0 ∧ bits (codeWord code) 31 24 = code ∧ bitAt (codeWord code) 16 = false ∧ bitAt (codeWord code) 17 = true := by
  simp only [codeWord, bits, bitAt, Nat.shiftRight_eq_div_pow, beq_eq_false_iff_ne, beq_iff_eq]
  omega

/-- The active RMC's write that disarms slot 0 of a member with a code. -/
def memberDisarmed (code w : Nat) (s : State) : State := cueCtrl w 1 (codeWord code) s

/-- A member's slot 0 has ended with a code. -/
def MemberEnded (code w : Nat) (s : State) : Prop := s.rd CUE_SSTAT_STATE w 0 = 7 ∧ s.rd CUE_SFAIL_RULE w 0 = code

section Disarm
variable {code : Nat} (hcode : code < 256) (w : Nat) (s : State)
include hcode

theorem memberDisarmed_eq : memberDisarmed code w s = disarm w 0 (disarmWhy s w 0 code) code (ctrlWritten w (codeWord code) s) := by
  obtain ⟨hslot, hrule, hstart, hdisarm⟩ := codeWord_fields hcode
  rw [memberDisarmed, cueCtrl_disarm hstart hdisarm, hslot, hrule]

theorem memberDisarmed_ended (h : s.rd CUE_SSTAT_STATE w 0 = 3) : MemberEnded code w (memberDisarmed code w s) := by
  have harmed : (ctrlWritten w (codeWord code) s).rd CUE_SSTAT_STATE w 0 = 3 := (rd_ctrlWritten (by decide) w 0).trans h
  obtain ⟨hstate, _, hrule, _⟩ := disarm_disarms w 0 (ctrlWritten w (codeWord code) s) (by omega) (by omega) (disarmWhy_lt s w 0 code) (rule := code) hcode
  rw [memberDisarmed_eq hcode]
  exact ⟨hstate, hrule⟩

/-- Disarming another member leaves the status of a member's slot 0. -/
theorem memberDisarmed_other {x : Nat} (hx : x ≠ w) {f : Fld} (hf : f.reg = CUE_SSTAT ∨ f.reg = CUE_SFAIL) : (memberDisarmed code w s).rd f x 0 = s.rd f x 0 := by
  rw [memberDisarmed_eq hcode, disarm_other w 0 _ _ code 0 hx hf, rd_ctrlWritten (by rcases hf with h | h <;> rw [h] <;> decide)]

theorem memberDisarmed_signals : SendsSignals s (memberDisarmed code w s) := by
  rw [memberDisarmed_eq hcode]
  exact (ctrlWritten_signals ..).trans (disarm_signals ..)

/-- A machine cue that comes to nothing: it is over, nothing but signals has been sent, and every member that armed has ended with the code (R289). -/
def MachineDisarmed (code : Nat) (s t : State) : Prop :=
  t.rack.planner.cueActive = false ∧ SendsSignals s t ∧ ∀ w ∈ s.armedMembers, MemberEnded code w t

theorem machineDisarm_disarms : MachineDisarmed code s (machineDisarm code s) := by
  have hended : ∀ w ∈ s.armedMembers, MemberEnded code w (forEach s.armedMembers s (memberDisarmed code)) := by
    refine forEach_establishes (Q := fun w t => t.rd CUE_SSTAT_STATE w 0 = 3) (fun w t h => memberDisarmed_ended hcode w t h)
      (fun _ x t hne h => (memberDisarmed_other hcode x t hne (Or.inl rfl)).trans h) (fun w x t hne h => ?_) ((memberList_nodup _).filter _) fun w hw => ?_
    · obtain ⟨hstate, hrule⟩ := h
      exact ⟨(memberDisarmed_other hcode x t hne (Or.inl rfl)).trans hstate, (memberDisarmed_other hcode x t hne (Or.inr rfl)).trans hrule⟩
    · exact beq_iff_eq.mp (Bool.and_eq_true_iff.mp (List.mem_filter.mp hw).2).1
  exact ⟨rfl, (forEach_signals (fun w t => memberDisarmed_signals hcode w t) s.armedMembers s).trans (.of_out rfl), hended⟩

end Disarm

/-! ## The machine-wide checks (R288, R289) -/

theorem machineCheck_lt (s : State) : s.machineCheck < 256 := by
  unfold State.machineCheck
  dsimp only
  split_ifs <;> decide

/-- The message that carries the go frame of the machine cue under way to a tray (R630). -/
def Planner.goMessage (p : Planner) (tray : Nat) : Emit := .timeFrame tray (timeFrame 2 (leBytes 4 p.cueMid ++ leBytes 8 p.cueTime))

/-- What the active RMC keeps of a machine cue whose go frame it has sent (R288). -/
def Planner.goGiven (p q : Planner) : Planner :=
  { q with cueActive := false, goSent := p.cueMid :: q.goSent.take 15, step := if q.step = .rehearsing then .rehearsed else q.step }

section Check
variable {s : State} (hactive : s.rack.planner.haveActive = true) (hcue : s.rack.planner.cueActive = true)
include hactive hcue

section AllEnded
variable (hended : ∀ w ∈ State.memberList s.rack.planner.cueMembers, s.rd CUE_SSTAT_STATE w 0 ≠ 1 ∧ s.rd CUE_SSTAT_STATE w 0 ≠ 2)
include hended

theorem machineCueCheck_proceeds : machineCueCheck s = if s.machineCheck ≠ 0 then machineDisarm s.machineCheck s
    else if (s.getRmcs s.rack.planner.active).clock.read s.now + 100000 < s.rack.planner.cueTime then
      (forEach (List.range 44) s fun tray t => t.emit (s.rack.planner.goMessage tray)).modPlanner s.rack.planner.goGiven
    else s.modPlanner fun q => { q with cueActive := false, step := if q.step = .rehearsing then .built else q.step } := by
  have hnone : ((State.memberList s.rack.planner.cueMembers).any fun w => s.rd CUE_SSTAT_STATE w 0 == 1 || s.rd CUE_SSTAT_STATE w 0 == 2) = false :=
    List.any_eq_false.mpr fun w hw => by simp [hended w hw]
  simp only [machineCueCheck, hactive, hcue, hnone, Bool.not_true, Bool.or_self, Bool.false_eq_true, if_false]
  rfl

/-- With sound checks and the value far enough ahead, the go frame goes to every tray (R288, R630). -/
theorem completes_machineCueCheck_go (hsound : s.machineCheck = 0)
    (htime : (s.getRmcs s.rack.planner.active).clock.read s.now + 100000 < s.rack.planner.cueTime) : Completes .machineCueCheck s fun t =>
      t.rack.planner.cueActive = false ∧ s.rack.planner.cueMid ∈ t.rack.planner.goSent ∧ ∀ tray < 44, s.rack.planner.goMessage tray ∈ t.out := by
  refine ⟨_, congrArg Host.Outcome.next ((machineCueCheck_proceeds hactive hcue hended).trans ((if_neg (not_not.mpr hsound)).trans (if_pos htime))), rfl,
    List.mem_cons_self, fun tray htray => ?_⟩
  exact forEach_establishes (Q := fun _ _ => True) (P := fun tray t => s.rack.planner.goMessage tray ∈ t.out) (fun _ _ _ => List.mem_cons_self) (fun _ _ _ _ _ => trivial)
    (fun _ _ _ _ h => List.mem_cons_of_mem _ h) List.nodup_range (fun _ _ => trivial) tray (List.mem_range.mpr htray)

theorem completes_machineCueCheck_failed (hfailed : s.machineCheck ≠ 0) : Completes .machineCueCheck s (MachineDisarmed s.machineCheck s) :=
  ⟨_, congrArg Host.Outcome.next ((machineCueCheck_proceeds hactive hcue hended).trans (if_pos hfailed)), machineDisarm_disarms (machineCheck_lt s) s⟩

end AllEnded

theorem completes_machineCueArmTimeout (hlate : ∃ w ∈ State.memberList s.rack.planner.cueMembers, s.rd CUE_SSTAT_STATE w 0 ≠ 3) :
    Completes .machineCueArmTimeout s (MachineDisarmed 22 s) := by
  obtain ⟨w, hw, hst⟩ := hlate
  have hany : ((State.memberList s.rack.planner.cueMembers).any fun w => s.rd CUE_SSTAT_STATE w 0 != 3) = true := List.any_eq_true.mpr ⟨w, hw, bne_iff_ne.mpr hst⟩
  exact ⟨_, congrArg Host.Outcome.next (if_pos ⟨hactive, hcue, hany⟩), machineDisarm_disarms (by decide) s⟩

end Check

/-! ## The go frame (R34, R630) -/

section GoFrame
variable (w : WaferId) (bytes : List Byte) {s : State}

theorem completes_goFrame_counts {b : List Nat} (hframe : frameBody 2 16 (bytes.map BitVec.toNat) = some b) (h1 : 1 ≤ s.rd CUE_SSTAT_STATE w 0)
    (h3 : s.rd CUE_SSTAT_STATE w 0 ≤ 3) (hmid : ofLeBytes (b.take 4) = (s.getSlots (w.val * 8)).mid) (htime : ofLeBytes (b.drop 4) = (s.getSlots (w.val * 8)).time)
    (hahead : s.tbNow w + 100000 ≤ (s.getSlots (w.val * 8)).time) : Completes (.goFrame w bytes) s fun t => (t.getSlots (w.val * 8)).go = true := by
  have hgo : goFrame w (bytes.map BitVec.toNat) s = s.modSlots (w.val * 8) fun x => { x with go := true } := by
    simp only [goFrame, hframe]
    exact if_pos ⟨h1, h3, hmid, htime, hahead⟩
  refine ⟨_, congrArg Host.Outcome.next hgo, ?_⟩
  exact congrArg CueSlot.go ((s.getSlots_putSlots _ _ _).trans (if_pos rfl))

theorem completes_goFrame_damaged (hframe : frameBody 2 16 (bytes.map BitVec.toNat) = none) : Completes (.goFrame w bytes) s fun t =>
    t.rd TB_EVENTS_FRAME_ERR w 0 = satAdd TB_EVENTS_FRAME_ERR.width (s.rd TB_EVENTS_FRAME_ERR w 0) 1 := by
  have hbump : goFrame w (bytes.map BitVec.toNat) s = s.bump TB_EVENTS_FRAME_ERR w 0 1 := by simp only [goFrame, hframe]
  exact ⟨_, congrArg Host.Outcome.next hbump, s.rd_bump_same _ _ _ _ (by decide) (by decide)⟩

end GoFrame

theorem completes_machineCueStart (members : BitVec 36) (time : BitVec 64) (mid : Word32) {s : State} (hactive : s.rack.planner.haveActive = true)
    (hrot : s.rack.planner.rotation = none) : Completes (.machineCueStart members time mid) s fun t =>
      t.rack.planner.cueActive = true ∧ t.rack.planner.cueMid = mid.toNat ∧ t.rack.planner.cueTime = time.toNat ∧ t.rack.planner.cueMembers = members.toNat ∧
        ∀ w ∈ s.startMembers members.toNat, MemberTold time.toNat mid.toNat w t :=
  ⟨_, congrArg Host.Outcome.next (machineCueStart_members _ _ _ hactive hrot), rfl, rfl, rfl, rfl,
    machineCueStart_told members.toNat time.toNat mid.toNat time.isLt (lt_trans mid.isLt (by decide))⟩

end Sys2Proof.Machine

open Sys2Proof Sys2Proof.Machine

/-- Settles O30: a start is one write of each powered member's start registers, a failed check and a late member are one disarm of each armed member (another member's
status is left alone, and only signals are sent), and a go frame is one mark or one count. -/
theorem machineCues : Obligations.MachineCues := by
  intro s hactive p ws armed frames disarmed
  have hdisarmed : ∀ code t, MachineDisarmed code s t → disarmed code t := fun code t h => by
    obtain ⟨hover, hsignals, hended⟩ := h
    refine ⟨hover, hsignals.filter_out fun e he => ?_, hended⟩
    cases e with
    | timeFrame tray bytes => exact absurd he Bool.false_ne_true
    | _ => rfl
  refine ⟨fun members time mid hrot => ?_, fun hcue hended => ⟨fun hsound htime => ?_, fun hfailed => ?_⟩, fun hcue hlate => ?_,
    fun w bytes => ⟨fun b hframe h1 h3 hmid htime hahead => ?_, completes_goFrame_damaged w bytes⟩⟩
  · refine (completes_machineCueStart members time mid hactive hrot).imp fun t h => ?_
    obtain ⟨hcue, hmid, htime, hmembers, htold⟩ := h
    exact ⟨hcue, hmid, htime, hmembers, fun w hw hpowered => htold w (List.mem_filter.mpr ⟨hw, hpowered⟩)⟩
  · exact completes_machineCueCheck_go hactive hcue hended hsound htime
  · exact (completes_machineCueCheck_failed hactive hcue hended hfailed).imp (hdisarmed _)
  · exact (completes_machineCueArmTimeout hactive hcue hlate).imp (hdisarmed _)
  · exact completes_goFrame_counts w bytes hframe h1 h3 hmid htime hahead

end

section
/-!
PROOF. Starts and take-downs of a wafer: what stands after each of them (R301, R303, R309, R470, R471).
-/
set_option Elab.async false
namespace Sys2Proof.Machine

/-! ## Records of a wafer, and a mask that leaves one register out -/

theorem State.getLedgers_modLedgers_same (s : State) (w : Nat) (g : Ledger → Ledger) : (s.modLedgers w g).getLedgers w = g (s.getLedgers w) :=
  (s.getLedgers_putLedgers _ _ _).trans (if_pos rfl)

theorem State.getBups_modBups_same (s : State) (w : Nat) (g : Bup → Bup) : (s.modBups w g).getBups w = g (s.getBups w) :=
  (s.getBups_putBups _ _ _).trans (if_pos rfl)

theorem State.getHifs_modHifs_same (s : State) (w : Nat) (g : Hif → Hif) : (s.modHifs w g).getHifs w = g (s.getHifs w) :=
  (s.getHifs_putHifs _ _ _).trans (if_pos rfl)

theorem State.rd_modBups (s : State) (k : Nat) (g : Bup → Bup) (f : Fld) (w i : Nat) : (s.modBups k g).rd f w i = s.rd f w i := rfl

/-- The mask of everything but BUP_STAT. -/
def allButStat : Nat := (2 ^ 384 - 1) ^^^ regBit BUP_STAT

theorem Keeps.rdStat {s t : State} (h : Keeps allButStat s t) {f : Fld} (hf : f.reg = BUP_STAT) (w i : Nat) : t.rd f w i = s.rd f w i :=
  h.rd f w i (hf ▸ (by decide)) (hf ▸ (by decide +kernel))

/-! ## The registers and the ledger after a reset (R301) -/

/-- What of the registers a start leaves: another unit's, those outside the window, and those it keeps. -/
def keptKey (w : Nat) (keep : List Reg) (z : Nat) : Bool :=
  (Nat.unpair (Nat.unpair z).2).1 != w || !((Nat.unpair z).1 == 307 || windowRegs.any fun r => r.id == (Nat.unpair z).1) || (keep.map fun r => r.id).contains (Nat.unpair z).1

theorem resetRegs_regs (w : Nat) (keep : List Reg) (s : State) : (resetRegs w keep s).regs = s.regs.filter fun x => keptKey w keep x.1 := rfl

/-- A register of the wafer that the start does not keep reads its reset value. -/
theorem reg_resetRegs (s : State) (w : Nat) {keep : List Reg} {r : Reg} (hown : (windowRegs.any fun q => q.id == r.id) = true)
    (hkeep : (keep.map fun q => q.id).contains r.id = false) (i : Nat) : (resetRegs w keep s).reg r w i = r.resetAt i % 2 ^ 64 := by
  have hkey : keptKey w keep (r.key w i) = false := by
    simp only [keptKey, Reg.key, key3, Nat.unpair_pair, hown, hkeep, bne_self_eq_false, Bool.or_true, Bool.not_true, Bool.or_false]
  unfold State.reg
  rw [resetRegs_regs, mget_filter, hkey]
  exact BitVec.toNat_ofNat _ _

/-- What a start changes, but for the registers that it resets and the ledger. -/
def resetMask (cold : Bool) : Nat :=
  (0x327fdffe7d ||| regBit HIF_LINK ||| regBit NET_MGMT ||| 0x170000000000000000008 ||| 0xecf800000000000000000000000000000000000000000000000000000000000000000000000000010) |||
    (if cold then 0 else regBit THM_GHOST_STAT ||| regBit PWR_DOM_STAT)

/-- The list of registers that a start keeps. -/
def keptBy (cold : Bool) : List Reg := if cold then keptCold else keptWarm

/-- What a start leaves of a ledger: no count of the edit that ran, no running fetch, and after a cold start no volatile finding. -/
def Ledger.restarted (cold : Bool) (l : Ledger) : Ledger :=
  { l with vols := if cold then [] else l.vols, added := 0, first := none, volAdded := false, fetching := none }

/-- A start up to the journal: the registers are reset, and what the wafer ran is dropped. -/
def resetBegun (w : Nat) (cold : Bool) (s : State) : State :=
  let s1 := (trimDoms w cold (dropRunning w (resetRegs w (keptBy cold) s))).wr HIF_LINK_PERST w 0 (s.rd HIF_LINK_PERST w 0)
  if cold then s1 else
    forEach allDomains (s1.wr THM_GHOST_STAT_ENTRIES w 0 (s.rd THM_GHOST_STAT_ENTRIES w 0)) fun d t => (t.wr PWR_DOM_STAT_PENDING w d 0).wr PWR_DOM_STAT_HALTED w d 0

section Reset
variable (w : Nat) (cold : Bool) (s : State)

theorem resetWafer_eq : resetWafer w cold s =
    atnStart w (((journalStart w cold (resetBegun w cold s)).modLedgers w (Ledger.restarted cold)).wr NET_MGMT_REHEARSAL_STATUS w 0 1) := rfl

theorem resetBegun_keeps : Keeps (resetMask cold) (resetRegs w (keptBy cold) s) (resetBegun w cold s) := by
  have hdropped : ∀ t v, Keeps (resetMask cold) t ((trimDoms w cold (dropRunning w t)).wr HIF_LINK_PERST w 0 v) := fun t v =>
    .next (State.wr_keeps ..) (sub_left (by decide +kernel)) (.next (trimDoms_keeps ..) (sub_left (by decide +kernel)) (.widen (dropRunning_keeps ..) (sub_left (by decide +kernel))))
  unfold resetBegun
  cases cold with
  | true => exact hdropped _ _
  | false =>
    refine forEach_keeps (fun d t => ?_) _ (.next (State.wr_keeps ..) (by decide +kernel) (hdropped _ _))
    exact .next (State.wr_keeps ..) (by decide +kernel) (.widen (State.wr_keeps ..) (by decide +kernel))

theorem journalStart_resetMask : Keeps (resetMask cold) s (journalStart w cold s) := .widen (journalStart_keeps ..) (sub_left (by decide +kernel))

theorem resetWafer_keepsRegs : Keeps (0x80000000 ||| resetMask cold) (resetRegs w (keptBy cold) s) (resetWafer w cold s) := by
  have hmask : ∀ {m}, m ||| resetMask cold = resetMask cold → m ||| (0x80000000 ||| resetMask cold) = 0x80000000 ||| resetMask cold := fun h => sub_trans h (sub_right ..)
  rw [resetWafer_eq]
  refine .next (atnStart_keeps ..) (hmask (sub_left (by decide +kernel))) (.next (State.wr_keeps ..) (hmask (sub_left (by decide +kernel)))
    (.next (State.modLedgers_keeps ..) (sub_left (sub_refl _)) (.widen ?_ (hmask (sub_refl _)))))
  exact .next (journalStart_resetMask ..) (sub_refl _) (resetBegun_keeps ..)

/-- A register that the start neither keeps nor writes later reads its reset value. -/
theorem reg_resetWafer {r : Reg} (hid : r.id < 320) (hmask : (0x80000000 ||| resetMask cold).testBit (64 + r.id) = false)
    (hown : (windowRegs.any fun q => q.id == r.id) = true) (hkeep : ((keptBy cold).map fun q => q.id).contains r.id = false) (i : Nat) :
    (resetWafer w cold s).reg r w i = r.resetAt i % 2 ^ 64 :=
  ((resetWafer_keepsRegs w cold s).regs r w i hid hmask).trans (reg_resetRegs s w hown hkeep i)

/-- Every field of BUP_STAT is 0 after a reset. -/
theorem rdStat_resetWafer {f : Fld} (hf : f.reg = BUP_STAT) : (resetWafer w cold s).rd f w 0 = 0 := by
  have hreg : (resetWafer w cold s).reg BUP_STAT w 0 = 0 := by
    cases cold <;> exact reg_resetWafer w _ s (by decide) (by decide +kernel) (by decide +kernel) (by decide +kernel) 0
  unfold State.rd
  rw [hf, hreg]
  simp [bits]

/-- Every domain but the always-on one is OFF after a cold reset (R480). -/
theorem domState_resetWafer_cold {d : Nat} (hd : d < 454) : (resetWafer w true s).domState w d = 0 := by
  have hreg : (resetWafer w true s).reg PWR_DOM_STAT w d = PWR_DOM_STAT.resetAt d % 2 ^ 64 :=
    reg_resetWafer w true s (by decide) (by decide +kernel) (by decide +kernel) (by decide +kernel) d
  have hkind : domKind d < 8 := by unfold domKind; split_ifs <;> decide
  unfold State.domState State.rd
  rw [show PWR_DOM_STAT_STATE.reg = PWR_DOM_STAT from rfl, hreg, Reg.resetAt, if_pos rfl, if_neg (by omega)]
  interval_cases domKind d <;> decide

theorem getLedgers_resetWafer : (resetWafer w cold s).getLedgers w = (s.getLedgers w).restarted cold := by
  have hbegun := Keeps.next (journalStart_resetMask w cold _) (sub_refl _) (resetBegun_keeps w cold s)
  have hsame : (journalStart w cold (resetBegun w cold s)).getLedgers w = s.getLedgers w := by
    cases cold <;> exact (hbegun.getLedgers (by decide +kernel) w).trans rfl
  rw [resetWafer_eq, (atnStart_keeps ..).getLedgers (by decide +kernel), State.getLedgers_wr, State.getLedgers_modLedgers_same, hsame]

end Reset

/-! ## Releasing a host field (R303, R309) -/

/-- The registers that show a start of host field `h` in phase 0. -/
def hostChosen (w h : Nat) (s : State) : State := (((s.wr NET_SELF_HOST_FIELD w 0 h).wr BUP_STAT_HOST w 0 h).wr BUP_STAT_PHASE w 0 0).wr BUP_STAT_READY w 0 0

/-- Wafer `w` has begun phase 0 of a start of the given kind on host field `h`. -/
def Begun (w h kind : Nat) (t : State) : Prop :=
  t.rd BUP_STAT_START_KIND w 0 = kind ∧ t.rd BUP_STAT_PHASE w 0 = 0 ∧ t.rd BUP_STAT_READY w 0 = 0 ∧ t.rd BUP_STAT_HOST w 0 = h ∧ (t.getBups w).starting = true

section Host
variable (w h : Nat) (s : State)

theorem startHost_keepsChosen : Keeps allButStat (hostChosen w h s) (startHost w h s) := by
  unfold startHost
  exact .next (tryRamp_keeps ..) (by decide +kernel) (.next (State.wr_keeps ..) (by decide +kernel) (.next (forceOne_keeps ..) (by decide +kernel)
    (.next (State.modBups_keeps ..) (by decide +kernel) (.widen (bootSlot_keeps ..) (by decide +kernel)))))

theorem starting_startHost : ((startHost w h s).getBups w).starting = true := by
  unfold startHost
  rw [(tryRamp_keeps ..).getBups (by decide +kernel), State.getBups_wr, (forceOne_keeps ..).getBups (by decide +kernel), State.getBups_modBups_same]

/-- Releasing a host field begins phase 0 on it and leaves the kind of the start. -/
theorem startHost_begun (hh : h < 2) : Begun w h (s.rd BUP_STAT_START_KIND w 0) (startHost w h s) := by
  have hkeeps := startHost_keepsChosen w h s
  refine ⟨?_, ?_, ?_, ?_, starting_startHost w h s⟩ <;> rw [hkeeps.rdStat rfl, hostChosen]
  · simp (disch := decide) only [State.rd_wr_field, State.rd_wr_id]
  · simp (disch := decide) only [State.rd_wr_field, State.rd_wr_same]
    rfl
  · simp (disch := decide) only [State.rd_wr_same]
    rfl
  · simp (disch := decide) only [State.rd_wr_field, State.rd_wr_same]
    exact Nat.mod_eq_of_lt hh

end Host

theorem Ledger.boot_lt {l : Ledger} {h : Nat} (hboot : l.boot = some h) : h < 2 := by
  unfold Ledger.boot at hboot
  split_ifs at hboot <;> (injection hboot; omega)

/-! ## A start (R301, R303, R308) -/

/-- The record of bring-up with which a start at `now` begins; a change of host field goes on with the start that began. -/
def Bup.restarted (kind : Option Nat) (now : Nat) (b : Bup) : Bup :=
  if kind.isNone then { h0Failed := b.h0Failed, h1Failed := b.h1Failed, startTime := b.startTime } else { startTime := now }

/-- A start once the wafer is reset and the kind of the start is shown. -/
def kindShown (w : Nat) (kind : Option Nat) (s : State) : State :=
  ((resetWafer w (kind = some 0) s).putBups w ((s.getBups w).restarted kind (resetWafer w (kind = some 0) s).now)).wr
    BUP_STAT_START_KIND w 0 (kind.getD (s.rd BUP_STAT_START_KIND w 0))

/-- The same; the start after a factory-depth retest keeps the retest's status. -/
def restartShown (w : Nat) (kind : Option Nat) (s : State) : State :=
  (kindShown w kind s).when (kind == some 2) fun t => t.setReg BUP_FDR_STAT w 0 (s.reg BUP_FDR_STAT w 0)

/-- The state in which a start selects its host field: the timebase is started and the cap in effect. -/
def restartReady (w : Nat) (kind : Option Nat) (s : State) : State :=
  capUpdate w 3 0 (if kind = some 0 then tbCold w (restartShown w kind s) else tbWarm w (restartShown w kind s))

/-- What the timebase and the cap change at a start. -/
def readyMask : Nat := 0x20a14c004600000000000000000000000000000000000000000000000000000000000000000000000090 |||
  0x14c004600000000006010000000000000000000000000000000000000000070000000000200000018

section Start
variable (w : Nat) (kind : Option Nat) (s : State)

theorem startWafer_eq : startWafer w kind s = startSelected w (restartReady w kind s) := rfl

theorem restartReady_keeps : Keeps readyMask (restartShown w kind s) (restartReady w kind s) :=
  .next (capUpdate_keeps ..) (by decide +kernel) (.ite ((tbCold_keeps ..).widen (by decide +kernel)) ((tbWarm_keeps ..).widen (by decide +kernel)))

theorem restartReady_keepsShown : Keeps (regBit BUP_FDR_STAT ||| readyMask) (kindShown w kind s) (restartReady w kind s) :=
  .next (restartReady_keeps ..) (sub_right ..) (State.when_keeps (fun t => (State.setReg_keeps t ..).widen (by decide +kernel)) (.refl _ _))

theorem getLedgers_restartReady : (restartReady w kind s).getLedgers w = (s.getLedgers w).restarted (kind = some 0) := by
  rw [(restartReady_keepsShown ..).getLedgers (by decide +kernel), kindShown, State.getLedgers_wr, (State.putBups_keeps ..).getLedgers (by decide +kernel), getLedgers_resetWafer]

/-- A field of BUP_STAT beside the kind of the start is 0 when the host field is selected. -/
theorem rdStat_restartReady {f : Fld} (hf : f.reg = BUP_STAT) (hhi : f.hi < 64) (hkind : f.hi < 9 ∨ 10 < f.lo) : (restartReady w kind s).rd f w 0 = 0 := by
  rw [(restartReady_keepsShown ..).rd f _ _ (hf ▸ (by decide)) (hf ▸ (by decide +kernel)), kindShown, State.rd_wr_field _ _ f _ _ _ hf (by decide) hhi hkind,
    State.rd_putBups, rdStat_resetWafer w _ s hf]

/-- The kind of a start as BUP_STAT shows it: its own, or that of the start which it continues. -/
theorem startKind_restartReady : (restartReady w kind s).rd BUP_STAT_START_KIND w 0 = kind.getD (s.rd BUP_STAT_START_KIND w 0) % 4 := by
  rw [(restartReady_keepsShown ..).rd _ _ _ (by decide) (by decide +kernel)]
  exact State.rd_wr_same _ _ _ _ _ (by decide) (by decide)

theorem startSelected_of_boot {h : Nat} (hboot : (s.getLedgers w).boot = some h) : startSelected w s = startHost w h s := by simp only [startSelected, hboot]

theorem startSelected_of_none (hboot : (s.getLedgers w).boot = none) :
    startSelected w s = ((s.wr BUP_STAT_STOP w 0 3).wr BUP_STAT_PHASE w 0 6).modBups w fun b => { b with starting := false } := by simp only [startSelected, hboot]

/-- A start with a live host field begins phase 0 on the one that the boot record selects. -/
theorem startWafer_begun {h : Nat} (hboot : (s.getLedgers w).boot = some h) : Begun w h (kind.getD (s.rd BUP_STAT_START_KIND w 0) % 4) (startWafer w kind s) := by
  have hsame : ((restartReady w kind s).getLedgers w).boot = some h := by rw [getLedgers_restartReady]; exact hboot
  rw [startWafer_eq, startSelected_of_boot w _ hsame, ← startKind_restartReady]
  exact startHost_begun w h _ (Ledger.boot_lt hboot)

/-- Whether or not a host field is live, nothing is ready after a start, and the kind of the start shows. -/
theorem startWafer_shows : (startWafer w kind s).rd BUP_STAT_READY w 0 = 0 ∧ (startWafer w kind s).rd BUP_STAT_START_KIND w 0 = kind.getD (s.rd BUP_STAT_START_KIND w 0) % 4 := by
  cases hboot : (s.getLedgers w).boot with
  | some h =>
    obtain ⟨hkind, _, hready, _⟩ := startWafer_begun w kind s hboot
    exact ⟨hready, hkind⟩
  | none =>
    have hnone : ((restartReady w kind s).getLedgers w).boot = none := by rw [getLedgers_restartReady]; exact hboot
    rw [startWafer_eq, startSelected_of_none w _ hnone, State.rd_modBups, State.rd_modBups]
    refine ⟨?_, ?_⟩
    · simp (disch := decide) only [State.rd_wr_field]
      exact rdStat_restartReady w kind s rfl (by decide) (by decide)
    · simp (disch := decide) only [State.rd_wr_field]
      exact startKind_restartReady w kind s

/-- The start after a factory-depth retest shows the retest's status as before. -/
theorem rdFdr_startWafer {f : Fld} (hf : f.reg = BUP_FDR_STAT) (hhi : f.hi < 64) : (startWafer w (some 2) s).rd f w 0 = s.rd f w 0 := by
  have hid : f.reg.id < 320 := hf ▸ (by decide)
  rw [startWafer_eq, (startSelected_keeps ..).rd f _ _ hid (hf ▸ (by decide +kernel)), (restartReady_keeps ..).rd f _ _ hid (hf ▸ (by decide +kernel))]
  show ((kindShown w (some 2) s).setReg BUP_FDR_STAT w 0 (s.reg BUP_FDR_STAT w 0)).rd f w 0 = s.rd f w 0
  rw [← hf, State.rd_setReg_same _ _ _ _ _ hhi]
  rfl

theorem getLedgers_startWafer : (startWafer w kind s).getLedgers w = (s.getLedgers w).restarted (kind = some 0) := by
  rw [startWafer_eq, (startSelected_keeps ..).getLedgers (by decide +kernel), getLedgers_restartReady]

end Start

/-! ## Cold start (R301, R303) -/

theorem coldStart_begun {w h : Nat} (bus : Nat) {s : State} (hoff : (s.getWafers w).powered = false) (hopen : (s.getWafers w).interlockOpen = false)
    (hruns : (s.getTmcs w).running = true) (hboot : (s.getLedgers w).boot = some h) :
    Begun w h 0 (coldStart w bus s) ∧ ((coldStart w bus s).getWafers w).powered = true := by
  obtain ⟨u, hfed, hboot, hstarted⟩ : ∃ u : State, (u.getWafers w).powered = true ∧ (u.getLedgers w).boot = some h ∧
      coldStart w bus s = forEach (List.range 4) ((startWafer w (some 0) u).wr PWR_BUS_BUS w 0 bus) fun i t => t.wr PWR_IBC_OK w i 1 := by
    refine ⟨(s.modWafers w fun x => { x with powered := true, downSeq := none, stretches := 0 }).modTmcs w fun t => { t with powerOn := true }, ?_, hboot, ?_⟩
    · rw [(State.modTmcs_keeps ..).getWafers (by decide +kernel), State.getWafers_modWafers_same]
    · exact if_neg (by simp [hoff, hopen, hruns])
  have hmeters : Keeps (regBit PWR_BUS ||| regBit PWR_IBC) (startWafer w (some 0) u) (coldStart w bus s) := hstarted ▸
    forEach_keeps (fun i t => (State.wr_keeps ..).widen (by decide +kernel)) _ ((State.wr_keeps ..).widen (by decide +kernel))
  have hstat : ∀ {f : Fld}, f.reg = BUP_STAT → (coldStart w bus s).rd f w 0 = (startWafer w (some 0) u).rd f w 0 := fun hf =>
    hmeters.rd _ _ _ (hf ▸ (by decide)) (hf ▸ (by decide +kernel))
  obtain ⟨hkind, hphase, hready, hhost, hstarting⟩ := startWafer_begun w (some 0) u hboot
  refine ⟨⟨(hstat rfl).trans hkind, (hstat rfl).trans hphase, (hstat rfl).trans hready, (hstat rfl).trans hhost, ?_⟩, ?_⟩
  · rw [hmeters.getBups (by decide +kernel), hstarting]
  · rw [hmeters.getWafers (by decide +kernel), (startWafer_keeps ..).getWafers (by decide +kernel), hfed]

/-! ## Loss of the supply (R455, R471) -/

section Unpower
variable (w : Nat) (s : State)

/-- The loss of the supply after the reset: the clock, the records of bring-up and of the two-wire bus, and the wafer's. -/
theorem unpower_keeps_reset : Keeps 0x84100000080 (resetWafer w true (pcieLost w s)) (unpower w s) := by
  unfold unpower
  exact .next (State.modWafers_keeps ..) (by decide +kernel) (.next (tbCold_keeps ..) (by decide +kernel) (.next (State.putTwis_keeps ..) (by decide +kernel)
    (.widen (State.putBups_keeps ..) (by decide +kernel))))

theorem powered_unpower : ((unpower w s).getWafers w).powered = false := congrArg Wafer.powered (State.getWafers_modWafers_same _ w _)

theorem allOff_unpower : (unpower w s).allOff w = true := by
  refine List.all_eq_true.mpr fun d hd => beq_iff_eq.mpr ?_
  exact ((unpower_keeps_reset w s).rd PWR_DOM_STAT_STATE w d (by decide) (by decide +kernel)).trans (domState_resetWafer_cold w _ (List.mem_range.mp hd))

theorem getLedgers_unpower : (unpower w s).getLedgers w = (s.getLedgers w).restarted true := by
  rw [(unpower_keeps_reset ..).getLedgers (by decide +kernel), getLedgers_resetWafer, (pcieLost_keeps ..).getLedgers (by decide +kernel)]

end Unpower

/-- What the ledger's slots are after a loss of the bus that tore the entry being programmed, where a slot was free (R328). -/
def tornSlots (torn : Bool) (slots : List Finding) : List Finding := if torn = true ∧ slots.length < 65536 then slots ++ [{ torn := true }] else slots

theorem busUndervolt_down {w : Nat} (torn : Bool) {s : State} (hon : (s.getWafers w).powered = true) :
    ((busUndervolt w torn s).getWafers w).powered = false ∧ (busUndervolt w torn s).allOff w = true ∧
      ((busUndervolt w torn s).getLedgers w).slots = tornSlots torn (s.getLedgers w).slots := by
  have hlost : busUndervolt w torn s = unpower w (forceAll w (s.when torn fun t => t.modLedgers w fun l =>
      if l.slots.length < 65536 then { l with slots := l.slots ++ [{ torn := true }] } else l)) := if_neg (by simp [hon])
  rw [hlost]
  refine ⟨powered_unpower .., allOff_unpower .., ?_⟩
  rw [getLedgers_unpower, (forceAll_keeps ..).getLedgers (by decide +kernel)]
  unfold tornSlots State.when Ledger.restarted
  cases torn with
  | true =>
    simp only [if_true, State.getLedgers_modLedgers_same, true_and]
    split_ifs <;> rfl
  | false => simp

/-! ## Take-downs in order (R470) -/

/-- The start that follows a take-down for `n`: a warm one, the one after a factory-depth retest, or the continued one on the other host field. -/
def startAfter (n : Nat) : Option Nat := if n = 1 then some 1 else if n = 3 then some 2 else none

/-- What a take-down may change before it has ended. -/
def downMask : Nat := 0x4000000000 ||| 0x80000014c004600000000006005060000000000000000000000000000000200000000000000000220020010

theorem finishDown_of_mark {w n : Nat} {s : State} (hmark : (s.getWafers w).downSeq = some n) : finishDown w s = if (!s.allOff w) = true then s
    else if n = 0 then unpower w (s.modWafers w fun x => { x with downSeq := none }) else startWafer w (startAfter n) (s.modWafers w fun x => { x with downSeq := none }) := by
  simp only [finishDown, hmark]
  rfl

/-- A take-down either waits, with its mark, for domains that are on, or has ended in the loss of power or the start that it was for. -/
theorem takeWaferDown_cases (w n : Nat) (s : State) : ∃ u, Keeps downMask s u ∧
    ((takeWaferDown w n s = u ∧ (u.getWafers w).downSeq = some n) ∨ takeWaferDown w n s = if n = 0 then unpower w u else startWafer w (startAfter n) u) := by
  have hstep := downStep_keeps w (s.modWafers w fun x => { x with downSeq := some n })
  have hmark := hstep.getWafers (by decide +kernel) w
  have hkeeps : Keeps downMask s _ := .next hstep (by decide +kernel) ((State.modWafers_keeps ..).widen (by decide +kernel))
  rw [State.getWafers_modWafers_same] at hmark
  have hend := finishDown_of_mark (congrArg Wafer.downSeq hmark)
  by_cases hon : (!(downStep w (s.modWafers w fun x => { x with downSeq := some n })).allOff w) = true
  · exact ⟨_, hkeeps, .inl ⟨hend.trans (if_pos hon), congrArg Wafer.downSeq hmark⟩⟩
  · exact ⟨_, .next (State.modWafers_keeps ..) (by decide +kernel) hkeeps, .inr (hend.trans (if_neg hon))⟩

theorem takeWaferDown_off (w : Nat) (s : State) : ((takeWaferDown w 0 s).getWafers w).powered = false ∨ ((takeWaferDown w 0 s).getWafers w).downSeq = some 0 := by
  obtain ⟨u, -, ⟨heq, hmark⟩ | heq⟩ := takeWaferDown_cases w 0 s
  · exact .inr (heq ▸ hmark)
  · exact .inl (heq ▸ powered_unpower w u)

theorem trayPowerOff_down {w : Nat} {s : State} (hon : (s.getWafers w).powered = true) :
    ((trayPowerOff w s).getWafers w).powered = false ∨ ((trayPowerOff w s).getWafers w).downSeq = some 0 := by
  unfold trayPowerOff
  rw [if_neg (by simp [hon])]
  exact takeWaferDown_off w _

/-- During a take-down for a warm start and after it nothing is ready. -/
theorem takeWaferDown_warm {w : Nat} {s : State} (hready : s.rd BUP_STAT_READY w 0 = 0) : (takeWaferDown w 1 s).rd BUP_STAT_READY w 0 = 0 ∧
    (((takeWaferDown w 1 s).getWafers w).downSeq = some 1 ∨ (takeWaferDown w 1 s).rd BUP_STAT_START_KIND w 0 = 1) := by
  obtain ⟨u, hkeeps, ⟨heq, hmark⟩ | heq⟩ := takeWaferDown_cases w 1 s
  · rw [heq]
    exact ⟨(hkeeps.rd _ _ _ (by decide) (by decide +kernel)).trans hready, .inl hmark⟩
  · obtain ⟨hnone, hkind⟩ := startWafer_shows w (some 1) u
    rw [heq]
    exact ⟨hnone, .inr hkind⟩

theorem warmStart_down {w : Nat} {s : State} (hon : (s.getWafers w).powered = true) (hstays : (s.getWafers w).downSeq ≠ some 0) :
    (warmStart1 w s).rd BUP_STAT_READY w 0 = 0 ∧ (((warmStart1 w s).getWafers w).downSeq = some 1 ∨ (warmStart1 w s).rd BUP_STAT_START_KIND w 0 = 1) := by
  have hdown : ∃ u : State, u.rd BUP_STAT_READY w 0 = 0 ∧ warmStart1 w s = takeWaferDown w 1 (forEach (List.range 454) u fun d t => t.wr PWR_DOM_STAT_PENDING w d 0) :=
    ⟨((pcieLost w (endPhaseEdit w s)).wr BUP_STAT_READY w 0 0).modBups w fun b => { b with starting := false },
      (State.rd_modBups ..).trans (State.rd_wr_same _ _ _ _ _ (by decide) (by decide)), if_neg (by simp [hon, hstays])⟩
  obtain ⟨u, hready, heq⟩ := hdown
  have hlatches : Keeps (regBit PWR_DOM_STAT) u (forEach (List.range 454) u fun d t => t.wr PWR_DOM_STAT_PENDING w d 0) :=
    forEach_keeps (fun d t => t.wr_keeps PWR_DOM_STAT_PENDING w d 0) _ (.refl _ _)
  rw [heq]
  exact takeWaferDown_warm ((hlatches.rd _ _ _ (by decide) (by decide +kernel)).trans hready)

/-- A take-down after a factory-depth retest leaves the retest's status and what it put into the ledger. -/
theorem takeWaferDown_fdr (w : Nat) (s : State) : (takeWaferDown w 3 s).rd BUP_FDR_STAT_STATE w 0 = s.rd BUP_FDR_STAT_STATE w 0 ∧
    ((takeWaferDown w 3 s).getLedgers w).epoch = (s.getLedgers w).epoch ∧ ((takeWaferDown w 3 s).getLedgers w).slots = (s.getLedgers w).slots := by
  obtain ⟨u, hkeeps, hend⟩ := takeWaferDown_cases w 3 s
  rw [← hkeeps.rd BUP_FDR_STAT_STATE w 0 (by decide) (by decide +kernel), ← hkeeps.getLedgers (by decide +kernel)]
  obtain ⟨heq, -⟩ | heq := hend
  · rw [heq]
    exact ⟨rfl, rfl, rfl⟩
  · have hstart : takeWaferDown w 3 s = startWafer w (some 2) u := heq
    rw [hstart, rdFdr_startWafer w u rfl (by decide), getLedgers_startWafer]
    exact ⟨rfl, rfl, rfl⟩

end Sys2Proof.Machine

end

section
/-!
PROOF. What the phases of bring-up show (R302 to R309): the ready bits, the findings that leave the progress of bring-up alone, and the leaves, which no raise sets to 0 (R597).
-/
set_option Elab.async false
namespace Sys2Proof.Machine

/-! ## Relations that every step of a loop keeps -/

theorem forEach_relates {α : Type} {R : State → State → Prop} (hrefl : ∀ t, R t t) (htrans : ∀ {a b c}, R a b → R b c → R a c) {g : α → State → State}
    (hg : ∀ x t, R t (g x t)) (xs : List α) (s : State) : R s (forEach xs s g) := by
  induction xs generalizing s with
  | nil => exact hrefl s
  | cons x xs ih => exact htrans (hg x s) (ih (g x s))

/-! ## Leaves that stay set (R597) -/

/-- No leaf of the wafer that is set in `s` is 0 in `t`. -/
structure KeepsLeaves (w : Nat) (s t : State) : Prop where
  set : ∀ l : Leaf, l.b < 64 → s.leafSet w l = true → t.leafSet w l = true

section Leaves
variable {w : Nat} {s t u : State}

theorem KeepsLeaves.refl (w : Nat) (s : State) : KeepsLeaves w s s := ⟨fun _ _ h => h⟩

theorem KeepsLeaves.trans (h1 : KeepsLeaves w s t) (h2 : KeepsLeaves w t u) : KeepsLeaves w s u := ⟨fun l hl h => h2.set l hl (h1.set l hl h)⟩

theorem KeepsLeaves.of_keeps {m : Nat} (h : Keeps m s t) (hm : m.testBit (64 + ATN_CAUSE.id) = false) : KeepsLeaves w s t :=
  ⟨fun l _ hs => (State.leafSet_of_keeps h hm w l).trans hs⟩

theorem KeepsLeaves.raise (h : KeepsLeaves w s t) (l : Leaf) : KeepsLeaves w s (t.raise w l) := ⟨fun m hm hs => t.raise_mono w l m (h.set m hm hs) hm⟩

theorem KeepsLeaves.ite {p : Prop} [Decidable p] (h1 : KeepsLeaves w s t) (h2 : KeepsLeaves w s u) : KeepsLeaves w s (if p then t else u) := by
  split
  · exact h1
  · exact h2

theorem KeepsLeaves.forEach {α : Type} {g : α → State → State} (hg : ∀ x t, KeepsLeaves w t (g x t)) (xs : List α) (s : State) : KeepsLeaves w s (forEach xs s g) :=
  forEach_relates (KeepsLeaves.refl w) KeepsLeaves.trans hg xs s

theorem State.journalAt_leaves (s : State) (time w kind source scope outcome scopeId : Nat) (detail digest : List Nat) :
    KeepsLeaves w s (s.journalAt time w kind source scope outcome scopeId detail digest) := by
  have hsync : ∀ j, Keeps 0x170000000000000000008 s ((s.putJournals w j).jrnlSync w) := fun j =>
    .next (State.jrnlSync_keeps ..) (by decide +kernel) ((State.putJournals_keeps ..).widen (by decide +kernel))
  unfold State.journalAt
  refine .ite (.raise (.of_keeps (.next (State.bump_keeps ..) ?_ (hsync _)) ?_) _) (.of_keeps (hsync _) ?_) <;> decide +kernel

theorem fwPass_leaves (w : Nat) (s : State) : KeepsLeaves w s (fwPass 1 w s) := by
  unfold fwPass
  dsimp only
  split
  · exact .refl w s
  · exact (KeepsLeaves.of_keeps (State.putFws_keeps s ..) (by decide +kernel)).trans (State.journalAt_leaves ..)

theorem tryRamp_leaves (w d : Nat) (s : State) : KeepsLeaves w s (tryRamp w d s) := by
  have hlatch : Keeps (regBit PWR_DOM_STAT) s (s.wr PWR_DOM_STAT_PENDING w d 0) := s.wr_keeps PWR_DOM_STAT_PENDING w d 0
  have hrefuse : ∀ req reason t, KeepsLeaves w t (refuseReq w d req reason t) := fun req reason t => by
    have hcapture : Keeps (regBit PWR_DOM_REFUSED) t (if t.rd PWR_DOM_REFUSED_VALID w 0 = 1 then t
        else (((t.wr PWR_DOM_REFUSED_DOMAIN w 0 d).wr PWR_DOM_REFUSED_REQ w 0 req).wr PWR_DOM_REFUSED_REASON w 0 reason).wr PWR_DOM_REFUSED_VALID w 0 1) :=
      .ite (.refl _ _) (.next (State.wr_keeps ..) (sub_refl _) (.next (State.wr_keeps ..) (sub_refl _) (.next (State.wr_keeps ..) (sub_refl _)
        (t.wr_keeps PWR_DOM_REFUSED_DOMAIN w 0 d))))
    exact (KeepsLeaves.of_keeps hcapture (by decide +kernel)).raise _
  unfold tryRamp
  refine .ite (.refl w s) (.ite ((KeepsLeaves.of_keeps hlatch (by decide +kernel)).trans (hrefuse ..)) ?_)
  exact .of_keeps (.next (State.setDom_keeps ..) (sub_refl _) (hlatch.widen (by decide +kernel))) (by decide +kernel)

theorem powerUp_leaves (w : Nat) (ds : List Nat) (s : State) : KeepsLeaves w s (powerUp w ds s) := by
  have hask : ∀ d t, KeepsLeaves w t (if t.domState w d = 0 ∧ t.domState w (t.parentOf w d) = 3 then
      (t.wr PWR_DOM_STAT_PENDING w d 1).wr PWR_DOM_STAT_FAULT w d 0 else t) := fun d t =>
    .ite (.of_keeps (.next (State.wr_keeps ..) (sub_refl _) (t.wr_keeps PWR_DOM_STAT_PENDING w d 1)) (by decide +kernel)) (.refl w t)
  exact (KeepsLeaves.forEach hask ds s).trans (.forEach (fun d t => tryRamp_leaves w d t) _ _)

end Leaves

/-! ## Findings leave the progress of bring-up alone -/

/-- A field of BUP_STAT other than VOLATILE and the dead flags, which follow the ledger (R337). -/
structure Fld.OfProgress (f : Fld) : Prop where
  reg : f.reg = BUP_STAT
  hi : f.hi < 64
  apart : f.hi < 17 ∨ 19 < f.lo

/-- BUP_STAT of the wafer shows the same progress of bring-up in both states. -/
structure SameProgress (w : Nat) (s t : State) : Prop where
  rd : ∀ f : Fld, f.OfProgress → t.rd f w 0 = s.rd f w 0

section Progress
variable {w : Nat} {s t u : State}

theorem SameProgress.refl (w : Nat) (s : State) : SameProgress w s s := ⟨fun _ _ => rfl⟩

theorem SameProgress.trans (h1 : SameProgress w s t) (h2 : SameProgress w t u) : SameProgress w s u := ⟨fun f hf => (h2.rd f hf).trans (h1.rd f hf)⟩

theorem SameProgress.of_keeps {m : Nat} (h : Keeps m s t) (hm : m ||| allButStat = allButStat) : SameProgress w s t := ⟨fun _ hf => (h.widen hm).rdStat hf.reg w 0⟩

theorem SameProgress.ite {p : Prop} [Decidable p] (h1 : SameProgress w s t) (h2 : SameProgress w s u) : SameProgress w s (if p then t else u) := by
  split
  · exact h1
  · exact h2

theorem SameProgress.forEach {α : Type} {g : α → State → State} (hg : ∀ x t, SameProgress w t (g x t)) (xs : List α) (s : State) : SameProgress w s (forEach xs s g) :=
  forEach_relates (SameProgress.refl w) SameProgress.trans hg xs s

/-- A field that follows the ledger is written. -/
theorem SameProgress.wr (h : SameProgress w s t) {f : Fld} (hreg : f.reg = BUP_STAT) (hle : f.lo ≤ f.hi) (hlo : 17 ≤ f.lo) (hhi : f.hi ≤ 19) (v : Nat) :
    SameProgress w s (t.wr f w 0 v) := by
  refine ⟨fun g hg => ?_⟩
  obtain ⟨greg, ghi, gapart⟩ := hg
  exact (t.rd_wr_field f g w 0 v (greg.trans hreg.symm) hle ghi (by omega)).trans (h.rd g ⟨greg, ghi, gapart⟩)

theorem SameProgress.raise (h : SameProgress w s t) (l : Leaf) : SameProgress w s (t.raise w l) := h.trans (.of_keeps (State.raise_keeps ..) (by decide +kernel))

theorem ledgerSync_progress (w : Nat) (s : State) : SameProgress w s (ledgerSync w s) := by
  unfold ledgerSync
  refine .wr (.of_keeps (.next (State.wr_keeps ..) ?_ (.next (State.wr_keeps ..) ?_ (.next (State.wrSat_keeps ..) ?_ ((State.wr_keeps ..).widen ?_)))) (sub_refl _)) rfl ?_ ?_ ?_ _ <;>
    decide +kernel

theorem appendFinding_progress (w : Nat) (x : Finding) (s : State) : SameProgress w s (appendFinding w x s) := by
  have hcount : ∀ l, SameProgress w s (if x.phase < 5 then (ledgerSync w (s.putLedgers w l)).bump BUP_NEW_START w 0 1
      else (ledgerSync w (s.putLedgers w l)).bump BUP_NEW_RUNTIME w 0 1) := fun l =>
    ((SameProgress.of_keeps (State.putLedgers_keeps s w l) (by decide +kernel)).trans (ledgerSync_progress w _)).trans
      (.ite (.of_keeps (State.bump_keeps ..) (by decide +kernel)) (.of_keeps (State.bump_keeps ..) (by decide +kernel)))
  have hnear : ∀ l (p : Prop) [Decidable p], SameProgress w s (if p then (_ : State).raise w Leaf.ledgerNear else _) := fun l p _ => .ite ((hcount l).raise _) (hcount l)
  unfold appendFinding
  exact .ite (.refl w s) (.ite ((hnear _ _).raise _) (hnear _ _))

theorem openFinding_progress (w phase ty kind ob : Nat) (s : State) : SameProgress w s (openFinding w phase ty kind ob s) :=
  (SameProgress.of_keeps (State.fresh_keeps s) (sub_zero _)).trans (appendFinding_progress ..)

theorem addFindings_progress (w phase : Nat) (xs : List TestFinding) (s : State) : SameProgress w s (addFindings w phase xs s) :=
  .forEach (fun _ t => .ite (appendFinding_progress ..) (.refl w t)) xs s

theorem failedDoms_progress (w phase ty kind lo n : Nat) (object : Nat → Nat) (s : State) : SameProgress w s (failedDoms w phase ty kind lo n object s) :=
  .forEach (fun _ t => .ite (openFinding_progress ..) (.refl w t)) _ s

theorem agreeFlags_progress (w : Nat) (s : State) : SameProgress w s (agreeFlags w s) :=
  .forEach (fun _ t => .ite (.of_keeps (State.modLedgers_keeps ..) (by decide +kernel)) (.ite (openFinding_progress ..) (.refl w t))) _ s

/-- The findings of a phase and the domains that they force down (R308). -/
theorem phaseFindings_progress (w phase ty kind lo n : Nat) (object : Nat → Nat) (xs : List TestFinding) (s : State) :
    SameProgress w s (dropCondemned w (addFindings w phase xs (failedDoms w phase ty kind lo n object s))) :=
  ((failedDoms_progress ..).trans (addFindings_progress ..)).trans (.of_keeps (dropCondemned_keeps ..) (by decide +kernel))

theorem calibrate_progress (w phase : Nat) (c : Calibration) (s : State) : SameProgress w s (calibrate w phase c s) := by
  have htrim : ∀ i v, SameProgress w s (s.setReg PWR_QTRIM w i v) := fun i v => .of_keeps (s.setReg_keeps PWR_QTRIM w i v) (by decide +kernel)
  unfold calibrate
  exact SameProgress.trans (.ite ((htrim _ _).trans (openFinding_progress ..)) (htrim _ _)) (.of_keeps (trimCheck_keeps ..) (by decide +kernel))

theorem phase4Steps_progress (w phase : Nat) (sel : Nat → Bool) (xs : List TestFinding) (cs : List Calibration) (ms : List MonSample) (s : State) :
    SameProgress w s (phase4Steps w phase sel xs cs ms s) := by
  unfold phase4Steps
  refine .trans (.trans (.trans (.trans (.trans (addFindings_progress ..) (.forEach (fun _ t => ?_) _ _)) (.forEach (fun _ t => calibrate_progress ..) _ _))
    (.forEach (fun _ t => ?_) _ _)) (.of_keeps (trimLimited_keeps ..) (by decide +kernel))) (.of_keeps (powerUp_keeps ..) (by decide +kernel))
  · exact .of_keeps (setSkips_keeps ..) (by decide +kernel)
  · exact .of_keeps (ageBaseline_keeps ..) (by decide +kernel)

theorem deriveLists_progress (w : Nat) (s : State) : SameProgress w s (deriveLists w s) := by
  have hdomain : ∀ (l : Ledger) d t, Keeps allButStat t (if l.blocks d = true then (if t.rd PWR_DOM_STAT_BLOCKED w d = 1 then t else blockDomain w d t)
      else (t.wr PWR_DOM_STAT_BLOCKED w d 0).when ((t.getDoms (domKey w d)).downWhenIdle) fun t => t.modDoms (domKey w d) fun x => { x with downWhenIdle := false }) := fun l d t =>
    .ite (.ite (.refl _ _) ((blockDomain_keeps ..).widen (by decide +kernel)))
      (State.when_keeps (fun u => (State.modDoms_keeps u ..).widen (by decide +kernel)) ((State.wr_keeps ..).widen (by decide +kernel)))
  have hraise : ∀ {t : State} (p : Prop) [Decidable p], Keeps allButStat s t → Keeps allButStat s (if p then t.raise w Leaf.belowGuarantee else t) := fun p _ h =>
    .ite (.next (State.raise_keeps ..) (by decide +kernel) h) h
  unfold deriveLists
  refine .wr (.wr (.of_keeps (forEach_keeps (hdomain _) _ (hraise _ ?_)) (sub_refl _)) rfl ?_ ?_ ?_ _) rfl ?_ ?_ ?_ _
  · iterate 6 refine .next (State.wr_keeps ..) (by decide +kernel) ?_
    refine forEach_keeps (fun f t => (State.wr_keeps ..).widen (by decide +kernel)) _ ?_
    iterate 4 refine .next (State.setReg_keeps ..) (by decide +kernel) ?_
    exact forEach_keeps (fun f t => (setHoles_keeps ..).widen (by decide +kernel)) _ (.refl _ _)
  all_goals decide
end Progress

/-! ## A phase that is ready (R302) -/

theorem State.rd_lt (s : State) (f : Fld) (w i : Nat) : s.rd f w i < 2 ^ (f.hi + 1 - f.lo) := Nat.mod_lt _ (Nat.two_pow_pos _)

/-- From `s` to `t` phase `n` has set its ready bit, the next phase shows, and PHASE_DONE is raised. -/
structure PhasePassed (w n : Nat) (s t : State) : Prop where
  ready : t.rd BUP_STAT_READY w 0 = s.rd BUP_STAT_READY w 0 ||| 2 ^ n
  phase : t.rd BUP_STAT_PHASE w 0 = n + 1
  leaf : t.leafSet w Leaf.phaseDone = true

section Ready
variable {w n : Nat} {s t u : State}

/-- What comes before the ready bit leaves the bits of the other phases. -/
theorem PhasePassed.after (h : PhasePassed w n t u) (hbefore : t.rd BUP_STAT_READY w 0 = s.rd BUP_STAT_READY w 0) : PhasePassed w n s u :=
  ⟨hbefore ▸ h.ready, h.phase, h.leaf⟩

theorem SameProgress.ready (h : SameProgress w s t) : t.rd BUP_STAT_READY w 0 = s.rd BUP_STAT_READY w 0 := h.rd _ ⟨rfl, by decide, by decide⟩

theorem SameProgress.phase (h : SameProgress w s t) : t.rd BUP_STAT_PHASE w 0 = s.rd BUP_STAT_PHASE w 0 := h.rd _ ⟨rfl, by decide, by decide⟩

/-- What follows the ready bit leaves BUP_STAT's progress and the leaf. -/
theorem PhasePassed.before (h : PhasePassed w n s t) (hstat : SameProgress w t u) (hleaves : KeepsLeaves w t u) : PhasePassed w n s u :=
  ⟨hstat.ready.trans h.ready, hstat.phase.trans h.phase, hleaves.set _ (by decide) h.leaf⟩

theorem PhasePassed.before_keeps (h : PhasePassed w n s t) {m : Nat} (hkeeps : Keeps m t u) (hstat : m ||| allButStat = allButStat)
    (hleaves : m.testBit (64 + ATN_CAUSE.id) = false) : PhasePassed w n s u := h.before (.of_keeps hkeeps hstat) (.of_keeps hkeeps hleaves)

theorem PhasePassed.raise (h : PhasePassed w n s t) (l : Leaf) : PhasePassed w n s (t.raise w l) := h.before (.raise (.refl w t) l) (.raise (.refl w t) l)

theorem PhasePassed.ite {p : Prop} [Decidable p] (h1 : PhasePassed w n s t) (h2 : PhasePassed w n s u) : PhasePassed w n s (if p then t else u) := by
  split
  · exact h1
  · exact h2

/-- The next domains are asked for. -/
theorem PhasePassed.powerUp (h : PhasePassed w n s t) (ds : List Nat) : PhasePassed w n s (powerUp w ds t) :=
  h.before (.of_keeps (powerUp_keeps ..) (by decide +kernel)) (powerUp_leaves w ds t)

/-- The ready bit and the next phase, once the phase's findings are recorded as one edit. -/
def readyShown (w n : Nat) (s : State) : State :=
  ((closeEdit w n s).wr BUP_STAT_READY w 0 ((closeEdit w n s).rd BUP_STAT_READY w 0 ||| 2 ^ n)).wr BUP_STAT_PHASE w 0 (n + 1)

theorem readyShown_keeps (w n : Nat) (s : State) : Keeps allButStat (readyShown w n s) (phaseReady w n s) := by
  unfold phaseReady
  exact .next (State.raise_keeps ..) (by decide +kernel) (.next (State.modBups_keeps ..) (by decide +kernel) ((State.wrSat_keeps ..).widen (by decide +kernel)))

theorem phaseReady_passed (w : Nat) {n : Nat} (hn : n < 5) (s : State) : PhasePassed w n s (phaseReady w n s) := by
  have hbit : 2 ^ n < 2 ^ 5 := Nat.pow_lt_pow_right (by decide) hn
  refine ⟨((readyShown_keeps ..).rdStat rfl w 0).trans ?_, ((readyShown_keeps ..).rdStat rfl w 0).trans ?_, State.raise_sets _ w _ (by decide)⟩
  · rw [readyShown, State.rd_wr_field _ BUP_STAT_PHASE BUP_STAT_READY _ _ _ rfl (by decide) (by decide) (by decide), State.rd_wr_same _ _ _ _ _ (by decide) (by decide),
      ((closeEdit_keeps ..).widen (by decide +kernel) : Keeps allButStat s (closeEdit w n s)).rdStat rfl]
    exact Nat.mod_eq_of_lt (Nat.or_lt_two_pow (s.rd_lt ..) hbit)
  · rw [readyShown, State.rd_wr_same _ _ _ _ _ (by decide) (by decide)]
    exact Nat.mod_eq_of_lt (show n + 1 < 8 by omega)

/-- The fields of BUP_STAT beside READY and PHASE show as before. -/
theorem rdStat_phaseReady {f : Fld} (hf : f.reg = BUP_STAT) (hhi : f.hi < 64) (hlo : 7 < f.lo) (w n : Nat) (s : State) : (phaseReady w n s).rd f w 0 = s.rd f w 0 := by
  rw [(readyShown_keeps ..).rdStat hf, readyShown, State.rd_wr_field _ BUP_STAT_PHASE f _ _ _ hf (by decide) hhi (.inr hlo),
    State.rd_wr_field _ BUP_STAT_READY f _ _ _ hf (by decide) hhi (.inr (lt_trans (by decide) hlo)),
    ((closeEdit_keeps ..).widen (by decide +kernel) : Keeps allButStat s (closeEdit w n s)).rdStat hf]

end Ready

end Sys2Proof.Machine

end

section
/-!
PROOF. The commands of bring-up (R301 to R309): the host field's start test, the five phases and their limits.
-/
set_option Elab.async false
namespace Sys2Proof.Machine

/-! ## The phase that runs -/

theorem State.inPhase_iff (s : State) (w n : Nat) : s.inPhase w n = true ↔
    (s.getBups w).starting = true ∧ s.rd BUP_STAT_PHASE w 0 = n ∧ (s.getWafers w).downSeq.isNone = true := by
  simp [State.inPhase, and_assoc]

/-- Bring-up that stops shows why, in phase 6 (R308). -/
theorem stopBringup_stops (w : Nat) {code : Nat} (hcode : code < 16) (s : State) : (stopBringup w code s).rd BUP_STAT_PHASE w 0 = 6 ∧
    (stopBringup w code s).rd BUP_STAT_STOP w 0 = code ∧ (stopBringup w code s).leafSet w Leaf.stopped = true := by
  have hends : Keeps allButStat ((s.wr BUP_STAT_STOP w 0 code).wr BUP_STAT_PHASE w 0 6) (stopBringup w code s) :=
    .next (State.raise_keeps ..) (by decide +kernel) ((State.modBups_keeps ..).widen (by decide +kernel))
  refine ⟨(hends.rdStat rfl w 0).trans ?_, (hends.rdStat rfl w 0).trans ?_, State.raise_sets _ w _ (by decide)⟩
  · rw [State.rd_wr_same _ _ _ _ _ (by decide) (by decide)]
    rfl
  · rw [State.rd_wr_field _ BUP_STAT_PHASE BUP_STAT_STOP _ _ _ rfl (by decide) (by decide) (by decide), State.rd_wr_same _ _ _ _ _ (by decide) (by decide)]
    exact Nat.mod_eq_of_lt hcode

/-! ## Phase 0 (R303) -/

section Phase0
variable (w : Nat) (s : State)

theorem phase0Ready_passed : PhasePassed w 0 s (phase0Ready w s) := by
  have hlists : SameProgress w s (deriveLists w (ledgerSync w (forEach allFields s fun f t => setSkips w f t))) :=
    ((SameProgress.forEach (fun f t => .of_keeps (setSkips_keeps w f t) (by decide +kernel)) _ s).trans (ledgerSync_progress ..)).trans (deriveLists_progress ..)
  have hraised : ∀ {t : State} (p : Prop) [Decidable p] (l : Leaf), PhasePassed w 0 s t → PhasePassed w 0 s (if p then t.raise w l else t) := fun _ _ l h => .ite (h.raise l) h
  have hended : ∀ {t : State} (g : Hif → Hif), PhasePassed w 0 s t → PhasePassed w 0 s (t.modHifs w g) := fun g h =>
    h.before_keeps (State.modHifs_keeps ..) (by decide +kernel) (by decide +kernel)
  have hpolls : ∀ {t : State} (p : Prop) [Decidable p], PhasePassed w 0 s t → PhasePassed w 0 s (if p then t.wr HIF_LINK_STATE w 0 1 else t) := fun _ _ h =>
    .ite (h.before_keeps (State.wr_keeps ..) (by decide +kernel) (by decide +kernel)) h
  have htried : ∀ {t : State} (p : Prop) [Decidable p], PhasePassed w 0 s t → PhasePassed w 0 s (if p then fwPass 1 w t else t) := fun _ _ h =>
    .ite (h.before (.of_keeps (fwPass_keeps ..) (by decide +kernel)) (fwPass_leaves ..)) h
  unfold phase0Ready
  exact (htried _ (hpolls _ (hended _ (hraised _ _ (hraised _ _ ((phaseReady_passed w (by decide) _).after hlists.ready)))))).before_keeps (fwSync_keeps ..)
    (by decide +kernel) (by decide +kernel)

theorem phase0Ready_termination : ((phase0Ready w s).getHifs w).termination = true := by
  have htried : ∀ {t : State} (p : Prop) [Decidable p], (if p then fwPass 1 w t else t).getHifs w = t.getHifs w := fun p _ => by
    split
    · exact (fwPass_keeps ..).getHifs (by decide +kernel) w
    · rfl
  have hpolls : ∀ {t : State} (p : Prop) [Decidable p], (if p then t.wr HIF_LINK_STATE w 0 1 else t).getHifs w = t.getHifs w := fun p _ => by split <;> rfl
  unfold phase0Ready
  rw [(fwSync_keeps ..).getHifs (by decide +kernel), htried, hpolls, State.getHifs_modHifs_same]

/-- The straps as NET_SELF shows them (R20). -/
theorem rdSlot_readStraps (straps : Nat) : (readStraps w straps s).rd NET_SELF_SLOT w 0 = straps % 64 := by
  simp (disch := decide) only [readStraps, State.rd_wr_field, State.rd_wr_same]
  exact Nat.mod_mod _ 64

/-- The state of phase 0 with the straps read and a readable ledger in agreement with the boot flags (R303, R309). -/
def State.agreed (w straps : Nat) (s : State) : State := agreeFlags w ((readStraps w straps s).modLedgers w fun l => { l with openBank := none, bad := false })

variable {w s} {h : Nat} (straps : Nat) (hphase : s.inPhase w 0 = true) (hhost : s.rd NET_SELF_HOST_FIELD w 0 = h) (hon : s.domState w (452 + h) = 3)
include hphase hhost hon

theorem phase0_sound (hlive : ((s.agreed w straps).getLedgers w).hostDead h = false) (hbridge : ((s.agreed w straps).getLedgers w).retired (hostBridge h) = false) :
    PhasePassed w 0 s (phase0 w straps true s) ∧ (phase0 w straps true s).rd NET_SELF_SLOT w 0 = straps % 64 ∧ ((phase0 w straps true s).getHifs w).termination = true := by
  have hready : phase0 w straps true s = powerUp w ((phase0Ready w (s.agreed w straps)).usableDoms w 288 72) (phase0Ready w (s.agreed w straps)) := by
    subst hhost
    unfold State.agreed at hlive hbridge
    simp [phase0, hphase, hon, hlive, hbridge, State.agreed]
  have hstraps : SameProgress w s (s.agreed w straps) :=
    (SameProgress.of_keeps (.next (State.modLedgers_keeps ..) (by decide +kernel) ((readStraps_keeps ..).widen (by decide +kernel))) (sub_refl _)).trans (agreeFlags_progress ..)
  rw [hready]
  refine ⟨((phase0Ready_passed ..).after hstraps.ready).powerUp _, ?_, ?_⟩
  · rw [(powerUp_keeps ..).rd _ _ _ (by decide) (by decide +kernel), (phase0Ready_keeps ..).rd _ _ _ (by decide) (by decide +kernel), State.agreed,
      (agreeFlags_keeps ..).rd _ _ _ (by decide) (by decide +kernel), (State.modLedgers_keeps ..).rd _ _ _ (by decide) (by decide +kernel), rdSlot_readStraps]
  · rw [(powerUp_keeps ..).getHifs (by decide +kernel), phase0Ready_termination]

/-- A ledger that cannot be read stops bring-up (R308). -/
theorem phase0_badLedger : (phase0 w straps false s).rd BUP_STAT_PHASE w 0 = 6 ∧ (phase0 w straps false s).rd BUP_STAT_STOP w 0 = 1 ∧
    (phase0 w straps false s).leafSet w Leaf.stopped = true := by
  have hstop : ∃ u, phase0 w straps false s = stopBringup w 1 u := ⟨_, by
    subst hhost
    exact (if_neg (by simp [hphase, hon])).trans (if_pos rfl)⟩
  obtain ⟨u, hu⟩ := hstop
  exact hu ▸ stopBringup_stops w (by decide) u

end Phase0

/-! ## The start test of a host field (R303, R309) -/

/-- The boot record after host field `h` has failed its start test. -/
def Ledger.condemn (h : Nat) (l : Ledger) : Ledger := { l with h0Live := l.h0Live && h != 0, h1Live := l.h1Live && h != 1 }

theorem Ledger.boot_condemn {l : Ledger} {h : Nat} (hother : (h = 0 ∧ l.h1Live = true) ∨ (h = 1 ∧ l.h0Live = true)) : (l.condemn h).boot = some (1 - h) := by
  rcases hother with ⟨rfl, hlive⟩ | ⟨rfl, hlive⟩ <;> simp [Ledger.condemn, Ledger.boot, hlive]

theorem closeEdit_flags (w phase : Nat) (s : State) : ((closeEdit w phase s).getLedgers w).h0Live = (s.getLedgers w).h0Live ∧
    ((closeEdit w phase s).getLedgers w).h1Live = (s.getLedgers w).h1Live := by
  unfold closeEdit
  dsimp only
  split
  · exact ⟨rfl, rfl⟩
  · rw [State.getLedgers_modLedgers_same, (State.journal_keeps ..).getLedgers (by decide +kernel)]
    exact ⟨rfl, rfl⟩

theorem hostTestFails_moves {w h : Nat} {s : State} (hphase : s.inPhase w 0 = true) (hhost : s.rd NET_SELF_HOST_FIELD w 0 = h)
    (htrial : (s.getFws (fwKey 1 w)).find 3 ≠ some (s.getFws (fwKey 1 w)).running) :
    ((hostTestFails w s).getLedgers w).h0Live = ((s.getLedgers w).h0Live && h != 0) ∧ ((hostTestFails w s).getLedgers w).h1Live = ((s.getLedgers w).h1Live && h != 1) ∧
      ((h = 0 ∧ (s.getLedgers w).h1Live = true) ∨ (h = 1 ∧ (s.getLedgers w).h0Live = true) → (hostTestFails w s).rd BUP_STAT_HOST w 0 = 1 - h ∧
        (hostTestFails w s).rd BUP_STAT_PHASE w 0 = 0 ∧ ((hostTestFails w s).getBups w).starting = true) := by
  obtain ⟨u, hflag0, hflag1, heq⟩ : ∃ u : State, (u.getLedgers w).h0Live = ((s.getLedgers w).condemn h).h0Live ∧
      (u.getLedgers w).h1Live = ((s.getLedgers w).condemn h).h1Live ∧ hostTestFails w s = startWafer w none u := by
    refine ⟨forceOne w (452 + h) (closeEdit w 0 ((s.modLedgers w (Ledger.condemn h)).modBups w fun b =>
      { b with h0Failed := b.h0Failed || h == 0, h1Failed := b.h1Failed || h == 1 })), ?_, ?_, ?_⟩
    · rw [(forceOne_keeps ..).getLedgers (by decide +kernel), (closeEdit_flags ..).1, (State.modBups_keeps ..).getLedgers (by decide +kernel), State.getLedgers_modLedgers_same]
    · rw [(forceOne_keeps ..).getLedgers (by decide +kernel), (closeEdit_flags ..).2, (State.modBups_keeps ..).getLedgers (by decide +kernel), State.getLedgers_modLedgers_same]
    · subst hhost
      simp only [hostTestFails, hphase, Bool.not_true, Bool.false_eq_true, if_false, htrial]
      rfl
  have hboot : (u.getLedgers w).boot = ((s.getLedgers w).condemn h).boot := by unfold Ledger.boot; rw [hflag0, hflag1]
  rw [heq, getLedgers_startWafer]
  refine ⟨hflag0, hflag1, fun hother => ?_⟩
  obtain ⟨_, hphase, _, hhost, hstarting⟩ := startWafer_begun w none u (hboot.trans (Ledger.boot_condemn hother))
  exact ⟨hhost, hphase, hstarting⟩

/-! ## Phase 1 (R304) -/

theorem setQuality_shows (w src : Nat) {q : Nat} (hq : q < 4) (s : State) : (setQuality w q src s).rd TB_STAT_QUALITY w 0 = q := by
  have hshown : (((s.wr TB_STAT_QUALITY w 0 q).wr TB_STAT_HOLD_SRC w 0 src)).rd TB_STAT_QUALITY w 0 = q := by
    simp (disch := decide) only [State.rd_wr_field, State.rd_wr_same]
    exact Nat.mod_eq_of_lt hq
  have hends : Keeps (regBit TB_HOLD_START ||| 0x14c004600000000000000000000000000000000000000000000000000000000000000000000000010)
      ((s.wr TB_STAT_QUALITY w 0 q).wr TB_STAT_HOLD_SRC w 0 src) (setQuality w q src s) := by
    have hstart := Keeps.ite (p := s.rd TB_STAT_QUALITY w 0 = 0 ∧ q ≠ 0)
      (((s.wr TB_STAT_QUALITY w 0 q).wr TB_STAT_HOLD_SRC w 0 src).setReg_keeps TB_HOLD_START w 0 (s.getClocks w).lastLocked) (Keeps.refl (regBit TB_HOLD_START) _)
    unfold setQuality
    exact .ite (hstart.widen (by decide +kernel)) (.next (State.raise_keeps ..) (by decide +kernel) (hstart.widen (by decide +kernel)))
  exact (hends.rd _ _ _ (by decide) (by decide +kernel)).trans hshown

theorem ppsTimeout_free {w : Nat} {s : State} (hphase : s.inPhase w 1 = true) (hfree : s.rd TB_STAT_QUALITY w 0 ≠ 0) :
    ((ppsTimeout w s).getBups w).ppsTimeout = true ∧ (ppsTimeout w s).rd TB_STAT_QUALITY w 0 = 2 := by
  have hnoted : ((s.modBups w fun b => { b with ppsTimeout := true }).getBups w).ppsTimeout = true := by rw [State.getBups_modBups_same]
  unfold ppsTimeout
  rw [if_neg (by simp [hphase, hfree])]
  dsimp only
  split_ifs with hshown
  · exact ⟨hnoted, hshown⟩
  · exact ⟨by rw [(setQuality_keeps ..).getBups (by decide +kernel), hnoted], setQuality_shows w 2 (by decide) _⟩

/-- What the findings of a phase and the domains that they force down may change. -/
theorem phaseFindings_keeps (w phase ty kind lo n : Nat) (object : Nat → Nat) (xs : List TestFinding) (s : State) :
    Keeps (0x80000014c1ffec00000000060050700000000000000000000000000000002084000000000000002601ec270 |||
      0x14c004600000000000000000000000000000000302800000000000000000000000000000080000010) s (dropCondemned w (addFindings w phase xs (failedDoms w phase ty kind lo n object s))) :=
  .next (dropCondemned_keeps ..) (by decide +kernel) (.next (addFindings_keeps ..) (by decide +kernel) ((failedDoms_keeps ..).widen (by decide +kernel)))

theorem phase1_passed {w : Nat} (xs : List TestFinding) {s : State} (hphase : s.inPhase w 1 = true) (hdoms : s.domsReady w (s.usableDoms w 288 72) = true)
    (hlocked : s.rd TB_STAT_QUALITY w 0 = 0)
    (hbridge : ((dropCondemned w (addFindings w 1 xs (failedDoms w 1 objSpine 3 288 72 id s))).getLedgers w).retired (hostBridge (s.rd NET_SELF_HOST_FIELD w 0)) = false) :
    PhasePassed w 1 s (phase1 w xs s) ∧ (phase1 w xs s).rd BUP_STAT_PPS_LOCKED w 0 = 1 := by
  obtain ⟨u, hsame, hhost, hu⟩ : ∃ u, SameProgress w s u ∧ u.rd NET_SELF_HOST_FIELD w 0 = s.rd NET_SELF_HOST_FIELD w 0 ∧
      u = dropCondemned w (addFindings w 1 xs (failedDoms w 1 objSpine 3 288 72 id s)) :=
    ⟨_, phaseFindings_progress .., (phaseFindings_keeps ..).rd _ _ _ (by decide) (by decide +kernel), rfl⟩
  have hready : phase1 w xs s = powerUp w ((phaseReady w 1 (u.wr BUP_STAT_PPS_LOCKED w 0 1)).usableDoms w 360 72) (phaseReady w 1 (u.wr BUP_STAT_PPS_LOCKED w 0 1)) := by
    have hstays : (((u.wr BUP_STAT_PPS_LOCKED w 0 1).getLedgers w).retired (hostBridge ((u.wr BUP_STAT_PPS_LOCKED w 0 1).rd NET_SELF_HOST_FIELD w 0))) = false := by
      rw [State.rd_wr_id _ _ _ _ _ _ _ _ (by decide), hhost, State.getLedgers_wr, hu, hbridge]
    unfold phase1
    rw [if_neg (by simp [hphase, hdoms, hlocked]), ← hu, hlocked]
    exact if_neg (Bool.eq_false_iff.mp hstays)
  rw [hready]
  refine ⟨((phaseReady_passed w (by decide) _).after ?_).powerUp _, ?_⟩
  · rw [State.rd_wr_field _ BUP_STAT_PPS_LOCKED BUP_STAT_READY _ _ _ rfl (by decide) (by decide) (by decide), hsame.ready]
  · rw [(powerUp_keeps ..).rd _ _ _ (by decide) (by decide +kernel), rdStat_phaseReady rfl (by decide) (by decide), State.rd_wr_same _ _ _ _ _ (by decide) (by decide)]
    rfl

/-! ## Phases 2 and 3 (R305, R306) -/

theorem phase2_passed {w : Nat} (xs : List TestFinding) {s : State} (hphase : s.inPhase w 2 = true) (hdoms : s.domsReady w (s.usableDoms w 360 72) = true) :
    PhasePassed w 2 s (phase2 w xs s) := by
  have hfound := phaseFindings_progress w 2 objLoft 9 360 72 id xs s
  unfold phase2
  rw [if_neg (by simp [hphase, hdoms])]
  exact ((phaseReady_passed w (by decide) _).after hfound.ready).powerUp _

theorem phase3_passed {w : Nat} (xs : List TestFinding) {s : State} (hphase : s.inPhase w 3 = true) (hdoms : s.domsReady w (s.usableDoms w 432 20) = true)
    (hports : ∀ d ∈ s.usableDoms w 432 20, s.portSettled w (d - 432) = true) : PhasePassed w 3 s (phase3 w xs s) := by
  have hfound := phaseFindings_progress w 3 objPort 11 432 20 id xs s
  have hsettled : ((s.usableDoms w 432 20).all fun d => s.portSettled w (d - 432)) = true := List.all_eq_true.mpr hports
  unfold phase3
  rw [if_neg (by simp only [hphase, hdoms, hsettled]; decide)]
  exact (phaseReady_passed w (by decide) _).after hfound.ready

theorem portTrainTimeout_noted {w p : Nat} {s : State} (hphase : s.inPhase w 3 = true) (htraining : s.rd LNK_STAT_STATE w p = 1) :
    p ∈ ((portTrainTimeout w p s).getBups w).portsOut := by
  unfold portTrainTimeout
  rw [if_pos ⟨hphase, htraining⟩, State.getBups_modBups_same]
  dsimp only
  split
  · next h => exact List.contains_iff_mem.mp h
  · simp

/-! ## Phase 4 and the end of bring-up (R307) -/

theorem phase4_powers {w : Nat} (xs : List TestFinding) (cs : List Calibration) (ms : List MonSample) {s : State} (hphase : s.inPhase w 4 = true)
    (hnew : (s.getBups w).powering = false) : ((phase4 w xs cs ms s).getBups w).powering = true ∧ (phase4 w xs cs ms s).rd BUP_STAT_PHASE w 0 = 4 := by
  unfold phase4
  rw [if_neg (by simp [hphase, hnew]), State.getBups_modBups_same, State.rd_modBups, (phase4Steps_progress ..).phase]
  exact ⟨rfl, ((s.inPhase_iff w 4).mp hphase).2.1⟩

theorem bringupDone_passed {w : Nat} (xs : List TestFinding) {s : State} (hphase : s.inPhase w 4 = true) (hpowering : (s.getBups w).powering = true)
    (hdoms : s.domsReady w (s.usableDoms w 0 288) = true) : PhasePassed w 4 s (bringupDone w xs s) ∧ ((bringupDone w xs s).getBups w).starting = false := by
  have hfound : ∀ object, SameProgress w s (forEach allFields (deriveLists w (dropCondemned w (addFindings w 4 xs (failedDoms w 4 objQuad 16 0 288 object s))))
      fun f t => markUnused w f t) := fun object =>
    ((phaseFindings_progress ..).trans (deriveLists_progress ..)).trans (.forEach (fun f t => .of_keeps (markUnused_keeps ..) (by decide +kernel)) _ _)
  unfold bringupDone
  rw [if_neg (by simp [hphase, hpowering, hdoms])]
  refine ⟨?_, ?_⟩
  · exact (((phaseReady_passed w (by decide) _).after (hfound _).ready).before_keeps (State.modBups_keeps ..) (by decide +kernel) (by decide +kernel)).before_keeps
      (State.modWafers_keeps ..) (by decide +kernel) (by decide +kernel)
  · rw [(State.modWafers_keeps ..).getBups (by decide +kernel), State.getBups_modBups_same]

/-- A late phase is noted, and bring-up goes on (R302). -/
theorem phaseSlow_noted {w : Nat} {s : State} (hstarting : (s.getBups w).starting = true) (hphase : s.rd BUP_STAT_PHASE w 0 ≤ 4) (hnew : (s.getBups w).slow = false)
    (htrial : (s.getFws (fwKey 1 w)).find 3 ≠ some (s.getFws (fwKey 1 w)).running) :
    ((phaseSlow w s).getBups w).slow = true ∧ (phaseSlow w s).leafSet w Leaf.phaseSlow = true ∧ (phaseSlow w s).rd BUP_STAT_PHASE w 0 = s.rd BUP_STAT_PHASE w 0 := by
  have hraise := State.raise_keeps (s.modBups w fun b => { b with slow := true }) w Leaf.phaseSlow
  have hnoted : phaseSlow w s = (s.modBups w fun b => { b with slow := true }).raise w Leaf.phaseSlow := by
    unfold phaseSlow
    rw [if_neg (by simp [hstarting, hphase, hnew])]
    refine if_neg fun h => htrial ?_
    rw [hraise.getFws (by decide +kernel), (State.modBups_keeps ..).getFws (by decide +kernel)] at h
    exact h.2
  rw [hnoted]
  refine ⟨?_, State.raise_sets _ w _ (by decide), ?_⟩
  · rw [hraise.getBups (by decide +kernel), State.getBups_modBups_same]
  · rw [hraise.rd _ _ _ (by decide) (by decide +kernel), State.rd_modBups]

end Sys2Proof.Machine

open Sys2Proof Sys2Proof.Machine

/-- Settles O36: a start follows the boot record through the reset of the wafer, a take-down waits or ends in its start or in the loss of power, and each phase sets its ready
bit after findings that leave the progress of bring-up alone and before steps that set no leaf to 0. -/
theorem startsAndPhases : Obligations.StartsAndPhases := by
  intro w s h ready trial
  have hpassed : ∀ {n t}, PhasePassed w n s t → ready n t := fun hp => ⟨hp.ready, hp.phase, hp.leaf⟩
  refine ⟨fun bus k hoff hclosed hruns hboot => ?_, fun hon hstays => ⟨_, rfl, warmStart_down hon hstays⟩, fun hon => ⟨_, rfl, trayPowerOff_down hon⟩,
    fun torn hon => ⟨_, rfl, busUndervolt_down torn hon⟩, fun straps hphase hdom => ⟨fun hlive hbridge => ?_, ⟨_, rfl, phase0_badLedger _ hphase rfl hdom⟩⟩,
    fun hphase htrial => ⟨_, rfl, hostTestFails_moves hphase rfl htrial⟩, fun hphase hfree => ⟨_, rfl, ppsTimeout_free hphase hfree⟩,
    fun xs hphase hdoms hlocked hbridge => ?_, fun xs hphase hdoms => ⟨_, rfl, hpassed (phase2_passed xs hphase hdoms)⟩,
    fun xs hphase hdoms hports => ⟨_, rfl, hpassed (phase3_passed xs hphase hdoms hports)⟩, fun p hphase htraining => ⟨_, rfl, portTrainTimeout_noted hphase htraining⟩,
    fun xs cs ms hphase hnew => ⟨_, rfl, phase4_powers xs cs ms hphase hnew⟩, fun xs hphase hpowering hdoms => ?_,
    fun hstarting hphase hnew htrial => ⟨_, rfl, phaseSlow_noted hstarting hphase hnew htrial⟩⟩
  · obtain ⟨⟨hkind, hphase, hready, hhost, hstarting⟩, hpowered⟩ := coldStart_begun bus.toNat hoff hclosed hruns hboot
    exact ⟨_, rfl, hpowered, hkind, hphase, hready, hhost, hstarting⟩
  · obtain ⟨hp, hslot, hterm⟩ := phase0_sound straps.toNat hphase rfl hdom hlive hbridge
    exact ⟨_, rfl, hpassed hp, hslot, hterm⟩
  · obtain ⟨hp, hpps⟩ := phase1_passed xs hphase hdoms hlocked hbridge
    exact ⟨_, rfl, hpassed hp, hpps⟩
  · obtain ⟨hp, hstarting⟩ := bringupDone_passed xs hphase hpowering hdoms
    exact ⟨_, rfl, hpassed hp, hstarting⟩

end

section
/-!
PROOF. Fetches of the ledger and the two retests (R319, R324 to R327).
-/
set_option Elab.async false
namespace Sys2Proof.Machine

/-! ## Ledger fetches (R319) -/

theorem ledgerFetch_runs (w : Nat) {slot : Nat} (hslot : slot < 2 ^ 64) (s : State) : (ledgerFetch w slot s).reg BUP_LDG_SEL w 0 = slot ∧
    (ledgerFetch w slot s).rd BUP_LDG_FETCH_BUSY w 0 = 1 ∧ ((ledgerFetch w slot s).getLedgers w).fetching = some slot := by
  have hledger := State.modLedgers_keeps ((s.setReg BUP_LDG_SEL w 0 slot).wr BUP_LDG_FETCH_BUSY w 0 1) w fun l => { l with fetching := some slot }
  unfold ledgerFetch
  refine ⟨?_, ?_, ?_⟩
  · rw [hledger.regs _ _ _ (by decide) (by decide +kernel), State.reg_wr_id _ _ _ _ _ _ _ _ (by decide), State.reg_setReg_same]
    exact Nat.mod_eq_of_lt hslot
  · rw [hledger.rd _ _ _ (by decide) (by decide +kernel), State.rd_wr_same _ _ _ _ _ (by decide) (by decide)]
    rfl
  · rw [State.getLedgers_modLedgers_same]

/-- The registers as a ledger fetch that ends leaves its result: no longer busy, with the code of BUP_LDG_FETCH. -/
def ledgerResult (w code : Nat) (s : State) : State := (s.wr BUP_LDG_FETCH_BUSY w 0 0).wr BUP_LDG_FETCH_RESULT w 0 code

theorem ledgerResult_shows (w : Nat) {code : Nat} (hcode : code < 4) (s : State) :
    (ledgerResult w code s).rd BUP_LDG_FETCH_BUSY w 0 = 0 ∧ (ledgerResult w code s).rd BUP_LDG_FETCH_RESULT w 0 = code := by
  refine ⟨?_, ?_⟩ <;> rw [ledgerResult]
  · rw [State.rd_wr_field _ BUP_LDG_FETCH_RESULT BUP_LDG_FETCH_BUSY _ _ _ rfl (by decide) (by decide) (by decide), State.rd_wr_same _ _ _ _ _ (by decide) (by decide)]
    rfl
  · rw [State.rd_wr_same _ _ _ _ _ (by decide) (by decide)]
    exact Nat.mod_eq_of_lt hcode

theorem entryWords_length (slot : Nat) (x : Finding) : (entryWords slot x).length = 8 := by simp [entryWords]

theorem entryWords_mem_zip (slot : Nat) (x : Finding) {i : Nat} (hi : i < 8) : (i, (entryWords slot x).getD i 0) ∈ (List.range 8).zip (entryWords slot x) := by
  have hlen := entryWords_length slot x
  refine List.mem_iff_getElem.mpr ⟨i, by simpa [hlen] using hi, ?_⟩
  simp [List.getD_eq_getElem?_getD, List.getElem?_eq_getElem (hlen.symm ▸ hi)]

section Fetched
variable {w k : Nat} {s : State} (hfetching : (s.getLedgers w).fetching = some k)
include hfetching

theorem ledgerFetched_empty (hslot : (s.getLedgers w).slots[k]? = none) :
    (ledgerFetched w s).rd BUP_LDG_FETCH_BUSY w 0 = 0 ∧ (ledgerFetched w s).rd BUP_LDG_FETCH_RESULT w 0 = 1 := by
  have hended : ledgerFetched w s = ledgerResult w 1 (s.putLedgers w { s.getLedgers w with fetching := none }) := by
    simp only [ledgerFetched, hfetching, hslot]
    rfl
  exact hended ▸ ledgerResult_shows w (by decide) _

variable {x : Finding} (hslot : (s.getLedgers w).slots[k]? = some x)
include hslot

theorem ledgerFetched_torn (htorn : x.torn = true) :
    (ledgerFetched w s).rd BUP_LDG_FETCH_BUSY w 0 = 0 ∧ (ledgerFetched w s).rd BUP_LDG_FETCH_RESULT w 0 = 2 := by
  have hended : ledgerFetched w s = ledgerResult w 2 (s.putLedgers w { s.getLedgers w with fetching := none }) := by
    simp only [ledgerFetched, hfetching, hslot, htorn]
    rfl
  exact hended ▸ ledgerResult_shows w (by decide) _

theorem ledgerFetched_sound (hsound : x.torn = false) :
    (ledgerFetched w s).rd BUP_LDG_FETCH_BUSY w 0 = 0 ∧ (ledgerFetched w s).rd BUP_LDG_FETCH_RESULT w 0 = 0 ∧
      ∀ i < 8, (ledgerFetched w s).reg BUP_LDG_ENTRY w i = (entryWords k x).getD i 0 % 2 ^ 64 := by
  obtain ⟨u, hended⟩ : ∃ u, ledgerFetched w s = writeCopies BUP_LDG_ENTRY w ((List.range 8).zip (entryWords k x)) (ledgerResult w 0 u) := by
    refine ⟨s.putLedgers w { s.getLedgers w with fetching := none }, ?_⟩
    simp only [ledgerFetched, hfetching, hslot, hsound]
    rfl
  have hcopies : (((List.range 8).zip (entryWords k x)).map (·.1)).Nodup := by
    rw [List.map_fst_zip (by simp [entryWords_length])]
    exact List.nodup_range
  obtain ⟨hbusy, hresult⟩ := ledgerResult_shows w (code := 0) (by decide) u
  rw [hended]
  unfold State.rd at hbusy hresult ⊢
  rw [writeCopies_reg_ne _ _ _ _ _ _ _ (.inl (by decide)), writeCopies_reg_ne _ _ _ _ _ _ _ (.inl (by decide))]
  exact ⟨hbusy, hresult, fun i hi => writeCopies_reg _ _ _ hcopies (entryWords_mem_zip k x hi)⟩

end Fetched

/-! ## The factory-depth retest (R324, R325, R326) -/

section Fdr
variable {w : Nat} {s : State}

theorem fdrStart_begins (path : Nat) (hidle : s.rd BUP_FDR_STAT_STATE w 0 ≠ 1) (hallowed : s.fdrAllowed w = true) :
    (fdrStart w path s).rd BUP_FDR_STAT_STATE w 0 = 1 ∧ (fdrStart w path s).rd BUP_STAT_PHASE w 0 = 7 ∧ ((fdrStart w path s).getLedgers w).openBank = some [] ∧
      ((fdrStart w path s).getLedgers w).slots = (s.getLedgers w).slots ∧ (fdrStart w path s).reg BUP_FDR_ARM w 0 = 0 := by
  obtain ⟨u, hu, hstarted⟩ : ∃ u, u = (((s.setReg BUP_FDR_ARM w 0 0).wr BUP_FDR_STAT_STATE w 0 1).wr BUP_FDR_STAT_PERCENT w 0 0).wr BUP_STAT_PHASE w 0 7 ∧
      fdrStart w path s = ledgerSync w ((u.modLedgers w fun l => { l with openBank := some [] }).modBups w fun b => { b with fdrPath := path }) := by
    refine ⟨_, rfl, ?_⟩
    simp only [fdrStart, hidle, hallowed, Bool.not_true, Bool.false_eq_true, if_false]
  have hopened : Keeps 0x180000000 u ((u.modLedgers w fun l => { l with openBank := some [] }).modBups w fun b => { b with fdrPath := path }) :=
    .next (State.modBups_keeps ..) (by decide +kernel) ((State.modLedgers_keeps ..).widen (by decide +kernel))
  have hledger : (fdrStart w path s).getLedgers w = { s.getLedgers w with openBank := some [] } := by
    rw [hstarted, (ledgerSync_keeps ..).getLedgers (by decide +kernel), (State.modBups_keeps ..).getLedgers (by decide +kernel), State.getLedgers_modLedgers_same, hu]
    rfl
  rw [hledger, hstarted]
  refine ⟨?_, ?_, rfl, rfl, ?_⟩
  · rw [(ledgerSync_keeps ..).rd _ _ _ (by decide) (by decide +kernel), hopened.rd _ _ _ (by decide) (by decide +kernel), hu]
    simp (disch := decide) only [State.rd_wr_id, State.rd_wr_field, State.rd_wr_same]
    rfl
  · rw [(ledgerSync_progress ..).phase, hopened.rd _ _ _ (by decide) (by decide +kernel), hu, State.rd_wr_same _ _ _ _ _ (by decide) (by decide)]
    rfl
  · rw [(ledgerSync_keeps ..).regs _ _ _ (by decide) (by decide +kernel), hopened.regs _ _ _ (by decide) (by decide +kernel), hu]
    simp (disch := decide) only [State.reg_wr_id, State.reg_setReg_same]
    rfl

theorem fdrStart_refused (path : Nat) (hidle : s.rd BUP_FDR_STAT_STATE w 0 ≠ 1) (hrefused : s.fdrAllowed w = false) :
    (fdrStart w path s).rd BUP_FDR_STAT_STATE w 0 = 4 ∧ (fdrStart w path s).getLedgers w = s.getLedgers w ∧ (fdrStart w path s).leafSet w Leaf.fdrDone = true := by
  have hended : fdrStart w path s = ((s.setReg BUP_FDR_ARM w 0 0).wr BUP_FDR_STAT_STATE w 0 4).raise w Leaf.fdrDone := by
    simp only [fdrStart, hidle, hrefused, Bool.not_false, if_true, if_false]
  rw [hended]
  refine ⟨?_, (State.raise_keeps ..).getLedgers (by decide +kernel) w, State.raise_sets _ w _ (by decide)⟩
  rw [(State.raise_keeps ..).rd _ _ _ (by decide) (by decide +kernel), State.rd_wr_same _ _ _ _ _ (by decide) (by decide)]
  rfl

/-- An abort leaves the ledger as it was and shows the phase in which bring-up ended. -/
theorem fdrAbort_ends (hruns : s.rd BUP_FDR_STAT_STATE w 0 = 1) : (fdrAbort w s).rd BUP_FDR_STAT_STATE w 0 = 3 ∧ (fdrAbort w s).getLedgers w = s.getLedgers w ∧
    (fdrAbort w s).rd BUP_STAT_PHASE w 0 = (if (s.getLedgers w).bad then 6 else 5) ∧ (fdrAbort w s).leafSet w Leaf.fdrDone = true := by
  obtain ⟨u, hjournal, hended⟩ : ∃ u, Keeps 0x14c004600000000000000000000000000000000000000000000000000000070000000000000000018
      ((s.wr BUP_FDR_STAT_STATE w 0 3).wr BUP_STAT_PHASE w 0 (if (s.getLedgers w).bad then 6 else 5)) u ∧ fdrAbort w s = u.raise w Leaf.fdrDone :=
    ⟨_, fdrJournal_keeps .., if_neg (not_not.mpr hruns)⟩
  have hraise := State.raise_keeps u w Leaf.fdrDone
  rw [hended]
  refine ⟨?_, ?_, ?_, State.raise_sets _ w _ (by decide)⟩
  · rw [hraise.rd _ _ _ (by decide) (by decide +kernel), hjournal.rd _ _ _ (by decide) (by decide +kernel), State.rd_wr_id _ _ _ _ _ _ _ _ (by decide),
      State.rd_wr_same _ _ _ _ _ (by decide) (by decide)]
    rfl
  · rw [hraise.getLedgers (by decide +kernel), hjournal.getLedgers (by decide +kernel)]
    rfl
  · rw [hraise.rd _ _ _ (by decide) (by decide +kernel), hjournal.rd _ _ _ (by decide) (by decide +kernel), State.rd_wr_same _ _ _ _ _ (by decide) (by decide)]
    split <;> rfl

/-- A commit that found nothing starts an epoch with an empty bank (R325). -/
theorem fdrCommit_clean (hruns : s.rd BUP_FDR_STAT_STATE w 0 = 1) : (fdrCommit w [] s).rd BUP_FDR_STAT_STATE w 0 = 2 ∧
    ((fdrCommit w [] s).getLedgers w).epoch = (s.getLedgers w).epoch + 1 ∧ ((fdrCommit w [] s).getLedgers w).slots = [] := by
  obtain ⟨n, u, hu, hended⟩ : ∃ n u, u = (((s.putLedgers w { epoch := (s.getLedgers w).epoch + 1 }).modLedgers w fun l =>
      { l with added := 0, first := none, volAdded := false }).wr BUP_FDR_STAT_STATE w 0 2).wr BUP_FDR_STAT_PERCENT w 0 100 ∧
        fdrCommit w [] s = takeWaferDown w 3 (pcieLost w (fdrJournal w 0 n (s.getLedgers w).slots.length ((s.getLedgers w).epoch + 1) (u.raise w Leaf.fdrDone))) :=
    ⟨_, _, rfl, if_neg (not_not.mpr hruns)⟩
  have hreported : Keeps (0x1ffcc0000000000000000000000000000000000000000000000000000000000000000000000060 |||
      0x14c004600000000000000000000000000000000000000000000000000000070000000000000000018)
      u (pcieLost w (fdrJournal w 0 n (s.getLedgers w).slots.length ((s.getLedgers w).epoch + 1) (u.raise w Leaf.fdrDone))) :=
    .next (pcieLost_keeps ..) (by decide +kernel) (.next (fdrJournal_keeps ..) (by decide +kernel) ((State.raise_keeps ..).widen (by decide +kernel)))
  have hledger : u.getLedgers w = { epoch := (s.getLedgers w).epoch + 1 } := by
    rw [hu, State.getLedgers_wr, State.getLedgers_wr, State.getLedgers_modLedgers_same, State.getLedgers_putLedgers, if_pos rfl]
  obtain ⟨hstate, hepoch, hslots⟩ := takeWaferDown_fdr w (pcieLost w (fdrJournal w 0 n (s.getLedgers w).slots.length ((s.getLedgers w).epoch + 1) (u.raise w Leaf.fdrDone)))
  rw [hended, hstate, hepoch, hslots, hreported.rd _ _ _ (by decide) (by decide +kernel), hreported.getLedgers (by decide +kernel), hledger]
  refine ⟨?_, rfl, rfl⟩
  rw [hu]
  simp (disch := decide) only [State.rd_wr_field, State.rd_wr_same]
  rfl

end Fdr

/-! ## The start of a field retest (R327) -/

/-- The registers that show a running retest of field `f`. -/
def retestShown (w f : Nat) (s : State) : State :=
  (((s.wr BUP_RETEST_STAT_STATE w 0 1).wr BUP_RETEST_STAT_FIELD w 0 f).wr BUP_RETEST_STAT_NEW w 0 0).wr BUP_STAT_RETEST w 0 1

/-- What freeing the field's halted domains and asking for them may change. -/
def retestMask : Nat := 0x80000014c004600000000006005070000000000000000000000000000000200000000000000000260020010 |||
  0x14c004600000000000001030000000000000000000000000000000000000000000000000000000010 ||| 0x140000000

section Start
variable {w f : Nat} {s : State} (hidle : s.rd BUP_RETEST_STAT_STATE w 0 ≠ 1)
include hidle

theorem retestStart_keepsShown (hallowed : s.retestAllowed w f = true) : Keeps retestMask (retestShown w f s) (retestStart w f s) := by
  have hfreed : ∀ ds g, Keeps retestMask (retestShown w f s) (forEach ds ((retestShown w f s).modBups w g) fun d t => t.wr PWR_DOM_STAT_HALTED w d 0) := fun ds g =>
    forEach_keeps (fun d t => (t.wr_keeps PWR_DOM_STAT_HALTED w d 0).widen (by decide +kernel)) ds ((State.modBups_keeps ..).widen (by decide +kernel))
  unfold retestStart
  rw [if_neg hidle, if_neg (by simp [hallowed])]
  exact .ite (.next (powerUp_keeps ..) (by decide +kernel) (hfreed _ _))
    (.next (domRequest_keeps ..) (by decide +kernel) (.next (State.modDoms_keeps ..) (by decide +kernel) (hfreed _ _)))

variable (hf : f < 128)
include hf

theorem retestStart_begins (hallowed : s.retestAllowed w f = true) : (retestStart w f s).rd BUP_RETEST_STAT_STATE w 0 = 1 ∧
    (retestStart w f s).rd BUP_RETEST_STAT_FIELD w 0 = f ∧ (retestStart w f s).rd BUP_STAT_RETEST w 0 = 1 := by
  have hasked := retestStart_keepsShown hidle hallowed
  refine ⟨?_, ?_, ?_⟩ <;> rw [hasked.rd _ _ _ (by decide) (by decide +kernel), retestShown]
  · simp (disch := decide) only [State.rd_wr_id, State.rd_wr_field, State.rd_wr_same]
    rfl
  · simp (disch := decide) only [State.rd_wr_id, State.rd_wr_field, State.rd_wr_same]
    exact Nat.mod_eq_of_lt hf
  · rw [State.rd_wr_same _ _ _ _ _ (by decide) (by decide)]
    rfl

theorem retestStart_refused (hrefused : s.retestAllowed w f = false) : (retestStart w f s).rd BUP_RETEST_STAT_STATE w 0 = 4 ∧
    (retestStart w f s).rd BUP_RETEST_STAT_FIELD w 0 = f := by
  unfold retestStart
  rw [if_neg hidle, if_pos (by simp [hrefused])]
  refine ⟨?_, ?_⟩ <;> simp (disch := decide) only [State.rd_wr_field, State.rd_wr_same]
  · rfl
  · exact Nat.mod_eq_of_lt hf

end Start

/-! ## The end of a field retest (R327) -/

/-- A zeroed range of a loft reads 0 (R346). -/
theorem loftByte_zeroLoft (w f off n : Nat) (s : State) {a : Nat} (hlo : off ≤ a) (hhi : a < off + n) : (zeroLoft w f off n s).loftByte w f a = 0 := by
  have hread := mget_filter (0 : Byte) s.loft (fun k => decide (k < loftKey w f off) || decide (loftKey w f off + n ≤ k)) (loftKey w f a)
  have hin : ¬(loftKey w f a < loftKey w f off ∨ loftKey w f off + n ≤ loftKey w f a) := by unfold loftKey; omega
  rw [if_neg (by simpa using hin)] at hread
  exact congrArg BitVec.toNat hread

theorem Keeps.loftByte {m : Nat} {s t : State} (h : Keeps m s t) (hm : m.testBit 0 = false) (w f a : Nat) : t.loftByte w f a = s.loftByte w f a :=
  (h.sameLofts hm).1 w f a

/-- What the tests of a field may change. -/
def testedMask : Nat := 0x14c004601400000000001030000000000000020302800000000000000002800000000000c80000010 ||| 0xc00000000000000000000200 |||
  0x400000000000000000000200 ||| 0x14c0046000000000000010200000000000000c00fc800000000000000000000000000000040000010 |||
  0x14c004600000000000000000000000000000000000000000000000000000070000000000080000018

/-- What follows the verdict of a retest: the spines of retired fields, or the rehearsal that a field's return waits for. -/
def judgedMask : Nat := 0x80000014c004600000000006005060000000000000000000000000000000200000000000000000260020010 ||| 0x1000000000000

/-- The registers that show the verdict on field `f`: RETIRED where the ledger now retires it, otherwise PASSED. -/
def retestJudged (w f new : Nat) (s : State) : State :=
  ((s.wr BUP_RETEST_STAT_STATE w 0 (if (s.getLedgers w).retired f then 3 else 2)).wrSat BUP_RETEST_STAT_NEW w 0 new).wr BUP_STAT_RETEST w 0 0

theorem retestJudged_shows (w f new : Nat) (s : State) : (retestJudged w f new s).rd BUP_RETEST_STAT_STATE w 0 = (if (s.getLedgers w).retired f then 3 else 2) ∧
    (retestJudged w f new s).rd BUP_STAT_RETEST w 0 = 0 := by
  refine ⟨?_, ?_⟩ <;> rw [retestJudged, State.wrSat]
  · simp (disch := decide) only [State.rd_wr_id, State.rd_wr_field, State.rd_wr_same]
    split <;> rfl
  · rw [State.rd_wr_same _ _ _ _ _ (by decide) (by decide)]
    rfl

theorem retestJudged_keeps (w f new : Nat) (s : State) : Keeps (regBit BUP_STAT ||| regBit BUP_RETEST_STAT) s (retestJudged w f new s) :=
  .next (State.wr_keeps ..) (by decide +kernel) (.next (State.wrSat_keeps ..) (by decide +kernel) ((State.wr_keeps ..).widen (by decide +kernel)))

/-- The cores of the quadrants that a field's tests leave ON. -/
def retestCores (w f : Nat) (s : State) : State :=
  forEach (List.range 4) s fun k t => if t.domState w (4 * f + k) = 3 then forEach (t.quadUnits w (4 * f + k)) t fun u t => t.initCore w f u else t

/-- A field once its loft is zeroed, its tests are done and their findings recorded. -/
def retestTested (w f : Nat) (xs : List TestFinding) (cs : List Calibration) (ms : List MonSample) (s : State) : State :=
  closeEdit w 7 (markUnused w f (deriveLists w (retestCores w f
    (phase4Steps w 7 (fun g => g == f) (xs.filter fun x => objField x.object.toNat == f) cs ms (zeroLoft w f 0 0x600000000 s)))))

/-- What follows the verdict. -/
def retestSettled (w f : Nat) (retired : Bool) (s : State) : State :=
  if retired then retireSpines w s
  else s.modPlanner fun p => { p with rehearsalUnits := if p.rehearsalUnits.contains (100 + w * 72 + f) then p.rehearsalUnits else p.rehearsalUnits ++ [100 + w * 72 + f] }

section Done
variable {w f : Nat} (xs : List TestFinding) (cs : List Calibration) (ms : List MonSample) {s : State}

theorem retestTested_keeps : Keeps testedMask (zeroLoft w f 0 0x600000000 s) (retestTested w f xs cs ms s) := by
  have hcores : ∀ t : State, Keeps testedMask t (retestCores w f t) := fun t =>
    forEach_keeps (fun k t => .ite (forEach_keeps (fun u t => (State.initCore_keeps ..).widen (by decide +kernel)) _ (.refl _ t)) (.refl _ t)) _ (.refl _ t)
  exact .next (closeEdit_keeps ..) (by decide +kernel) (.next (markUnused_keeps ..) (by decide +kernel) (.next (deriveLists_keeps ..) (by decide +kernel)
    (.next (hcores _) (sub_refl _) ((phase4Steps_keeps ..).widen (by decide +kernel)))))

theorem retestSettled_keeps (retired : Bool) (t : State) : Keeps judgedMask t (retestSettled w f retired t) :=
  .ite ((retireSpines_keeps ..).widen (by decide +kernel)) ((State.modPlanner_keeps ..).widen (by decide +kernel))

/-- A retest zeroes the field's loft, tests the field, shows its verdict and raises RETEST_DONE. -/
theorem retestDone_of_running (hruns : s.rd BUP_RETEST_STAT_STATE w 0 = 1) (hfield : s.rd BUP_RETEST_STAT_FIELD w 0 = f) : ∃ u new retired,
    Keeps testedMask (zeroLoft w f 0 0x600000000 s) u ∧ retestDone w xs cs ms s = (retestSettled w f retired (retestJudged w f new u)).raise w Leaf.retestDone := by
  subst hfield
  exact ⟨_, _, _, retestTested_keeps xs cs ms, if_neg (not_not.mpr hruns)⟩

theorem retestDone_ends (hruns : s.rd BUP_RETEST_STAT_STATE w 0 = 1) (hfield : s.rd BUP_RETEST_STAT_FIELD w 0 = f) :
    (retestDone w xs cs ms s).rd BUP_RETEST_STAT_STATE w 0 = (if ((retestDone w xs cs ms s).getLedgers w).retired f then 3 else 2) ∧
      (retestDone w xs cs ms s).rd BUP_STAT_RETEST w 0 = 0 ∧ (retestDone w xs cs ms s).leafSet w Leaf.retestDone = true ∧
      ∀ off < 0x600000000, (retestDone w xs cs ms s).loftByte w f off = 0 := by
  obtain ⟨u, new, retired, htested, hended⟩ := retestDone_of_running xs cs ms hruns hfield
  have hsettled : Keeps (judgedMask ||| 0x14c004600000000000000000000000000000000000000000000000000000000000000000000000010) (retestJudged w f new u) (retestDone w xs cs ms s) :=
    hended ▸ .next (State.raise_keeps ..) (by decide +kernel) ((retestSettled_keeps ..).widen (by decide +kernel))
  have hledger : (retestDone w xs cs ms s).getLedgers w = u.getLedgers w := by
    rw [hsettled.getLedgers (by decide +kernel), (retestJudged_keeps ..).getLedgers (by decide +kernel)]
  obtain ⟨hstate, hretest⟩ := retestJudged_shows w f new u
  refine ⟨?_, ?_, hended ▸ State.raise_sets _ w _ (by decide), fun off hoff => ?_⟩
  · rw [hledger, hsettled.rd _ _ _ (by decide) (by decide +kernel), hstate]
  · rw [hsettled.rd _ _ _ (by decide) (by decide +kernel), hretest]
  · rw [hsettled.loftByte (by decide +kernel), (retestJudged_keeps ..).loftByte (by decide +kernel), htested.loftByte (by decide +kernel)]
    exact loftByte_zeroLoft w f 0 _ s (Nat.zero_le _) (by rwa [Nat.zero_add])

end Done

end Sys2Proof.Machine

open Sys2Proof Sys2Proof.Machine

/-- Settles O37: a fetch shows the slot that it was asked for, a retest starts by its conditions alone, and what follows a retest's verdict leaves the ledger, the status of the
retest and the zeroed loft alone. -/
theorem ledgerAndRetests : Obligations.LedgerAndRetests := by
  intro w s l
  refine ⟨fun slot => ⟨_, rfl, ledgerFetch_runs w (lt_trans slot.isLt (by decide)) s⟩, fun k hfetching => ⟨fun hslot => ⟨_, rfl, ledgerFetched_empty hfetching hslot⟩,
    fun x hslot htorn => ⟨_, rfl, ledgerFetched_torn hfetching hslot htorn⟩, fun x hslot hsound => ⟨_, rfl, ledgerFetched_sound hfetching hslot hsound⟩⟩,
    fun path hidle => ⟨fun hallowed => ⟨_, rfl, fdrStart_begins path.val hidle hallowed⟩, fun hrefused => ⟨_, rfl, fdrStart_refused path.val hidle hrefused⟩⟩,
    fun hruns => ⟨⟨_, rfl, fdrAbort_ends hruns⟩, ⟨_, rfl, fdrCommit_clean hruns⟩⟩,
    fun f hidle => ⟨fun hallowed => ⟨_, rfl, retestStart_begins hidle f.isLt hallowed⟩, fun hrefused => ⟨_, rfl, retestStart_refused hidle f.isLt hrefused⟩⟩,
    fun xs cs ms hruns => ⟨_, rfl, retestDone_ends xs cs ms hruns rfl⟩⟩

end

section
/-!
PROOF. Every command answers a state that comes from its own by shared operations, which keep every map canonical (R48, R347).
-/
set_option Elab.async false
namespace Sys2Proof.Machine

/-- One operation after another may write what either may write. -/
theorem Keeps.trans {m n : Nat} {s t u : State} (h1 : Keeps m s t) (h2 : Keeps n t u) : Keeps (m ||| n) s u :=
  h2.next (sub_right m n) (h1.widen (sub_left (sub_refl m)))

/-- An outcome is a next state, which comes from `s` by writing what some mask names. -/
def Answers (s : State) (o : Res) : Prop := ∃ t m, o = .next t ∧ Keeps m s t

theorem Answers.next {m : Nat} {s t : State} (h : Keeps m s t) : Answers s (.next t) := ⟨t, m, rfl, h⟩

/-- An operation that takes another one answers where that one keeps to a mask: its lemma holds of every mask that covers its own and the other's. -/
theorem Answers.around {b m : Nat} {s t : State} (h : ∀ M, b ||| M = M → m ||| M = M → Keeps M s t) : Answers s (.next t) :=
  .next (h (b ||| m) (sub_left (sub_refl b)) (sub_right b m))

section Around
variable {m : Nat} {s : State}

/-- An instruction of a core (R97). -/
theorem Answers.issue {w f u : Nat} {body : State → State} (h : ∀ t, Keeps m t (body t)) : Answers s (.next (issue w f u body s)) :=
  .around fun _ hb hm => issue_keeps hb (fun t => (h t).widen hm) (.refl _ s)

/-- A TACK or a NACK that arrives (R148). -/
theorem Answers.answer {w f typ : Nat} {p : Packet} {g : Packet → State → State} (h : ∀ x t, Keeps m t (g x t)) : Answers s (.next (answerArrives w f typ g p s)) :=
  .around fun _ hb hm => answerArrives_keeps hb (fun x t => (h x t).widen hm) (.refl _ s)

/-- A control of the debugger (R709). -/
theorem Answers.dbgControl {w : Nat} {act : Nat → Nat → State → State} (h : ∀ f u t, Keeps m t (act f u t)) : Answers s (.next (dbgControl w act s)) :=
  .around fun _ hb hm => dbgControl_keeps hb (fun f u t => (h f u t).widen hm) (.refl _ s)

/-- A scan of the prompter port (R702). -/
theorem Answers.scan {w : Nat} {g : State → State} (h : ∀ t, Keeps m t (g t)) : Answers s (.next (scan w g s)) :=
  .around fun _ hb hm => scan_keeps hb (fun t => (h t).widen hm) (.refl _ s)

/-- A write of a Redfish resource (R664). -/
theorem Answers.rfWrite {r : Nat} {g : State → State} (h : ∀ t, Keeps m t (g t)) : Answers s (.next (rfWrite r g s)) :=
  .around fun _ hb hm => rfWrite_keeps hb (fun t => (h t).widen hm) (.refl _ s)

/-- An action on a tray (R648). -/
theorem Answers.trayAction {r k : Nat} {g : State → State} (h : ∀ t, Keeps m t (g t)) : Answers s (.next (trayAction r k g s)) :=
  .around fun _ hb hm => trayAction_keeps hb (fun t => (h t).widen hm) (.refl _ s)

end Around

/-- What each command comes to, by the lemma about the operation that is its meaning. -/
theorem exec_answers (c : Instr) (s : State) : Answers s (exec c s) := by
  cases c with
  | waferLoss => exact .next (waferLoss_keeps ..)
  | linkLossOfSignal => exact .next (lossOfSignal_keeps ..)
  | rmcDeclareWaferLost => exact .next (declareLost_keeps ..)
  | rmcHeartbeat => exact .next (rmcHeartbeat_keeps ..)
  | rmcTakeover => exact .next (rmcTakeover_keeps ..)
  | tmcKeepaliveTick => exact .next (keepaliveTick_keeps ..)
  | keepaliveCommit => exact .next (keepaliveCommit_keeps ..)
  | rmcsAbsent => exact .next (rmcsAbsent_keeps ..)
  | registerWrite => exact .next (windowWrite_keeps ..)
  | rcRead => exact .next (registerRead_keeps ..)
  | wingsCopyDone => exact .next (wingsCopyDone_keeps ..)
  | journalSpill => exact .next (journalSpill_keeps ..)
  | journalFetch => exact .next (journalFetch_keeps ..)
  | journalFetchDone => exact .next (journalFetched_keeps ..)
  | supplySettled => exact .next (State.wr_keeps ..)
  | droopGateEngage => exact .next (gateEngage_keeps ..)
  | droopGateRelease => exact .next (gateRelease_keeps ..)
  | undervolt => exact .next (anyFault_keeps ..)
  | gateTimeout => exact .next (gateTimeout_keeps ..)
  | intArithmetic => exact .issue fun _ => writeReg_keeps ..
  | logic => exact .issue fun _ => writeReg_keeps ..
  | compare => exact .issue fun _ => writeReg_keeps ..
  | branch => exact .issue fun _ => branch_keeps ..
  | time => exact .issue fun _ => writePair_keeps ..
  | tokens => exact .issue fun _ => writePair_keeps ..
  | flags => exact .issue fun _ => writeReg_keeps ..
  | wait => exact .issue fun _ => waitOn_keeps ..
  | mma => exact .issue fun _ => mma_keeps ..
  | cvt => exact .issue fun _ => cvt_keeps ..
  | vecAdd => exact .issue fun _ => vecOp_keeps ..
  | vecSub => exact .issue fun _ => vecOp_keeps ..
  | vecMul => exact .issue fun _ => vecOp_keeps ..
  | vecFma => exact .issue fun _ => vecOp_keeps ..
  | vecMin => exact .issue fun _ => vecOp_keeps ..
  | vecMax => exact .issue fun _ => vecOp_keeps ..
  | vecCompare => exact .issue fun _ => vecOp_keeps ..
  | vecExp2 => exact .issue fun _ => vecOp_keeps ..
  | vecRecip => exact .issue fun _ => vecOp_keeps ..
  | vecRsqrt => exact .issue fun _ => vecOp_keeps ..
  | vecReduce => exact .issue fun _ => vecReduce_keeps ..
  | ld => exact .issue fun _ => load_keeps ..
  | st => exact .issue fun _ => store_keeps ..
  | tld => exact .issue fun _ => loadTensor_keeps ..
  | tst => exact .issue fun _ => storeTensor_keeps ..
  | lget => exact .issue fun _ => lget_keeps ..
  | send => exact .issue fun _ => send_keeps ..
  | fetch => exact .issue fun _ => fetch_keeps ..
  | signal => exact .issue fun _ => signal_keeps ..
  | push => exact .issue fun _ => push_keeps ..
  | pop => exact .issue fun _ => pop_keeps ..
  | steal => exact .next (stealNext_keeps ..)
  | stealRetry => exact .next (stealRetry_keeps ..)
  | lput => exact .issue fun _ => outWrite_keeps ..
  | xput => exact .issue fun _ => outWrite_keeps ..
  | atomAdd => exact .issue fun _ => atomic_keeps ..
  | atomMin => exact .issue fun _ => atomic_keeps ..
  | atomMax => exact .issue fun _ => atomic_keeps ..
  | atomOr => exact .issue fun _ => atomic_keeps ..
  | atomSwap => exact .issue fun _ => atomic_keeps ..
  | semaTake => exact .issue fun _ => semaTake_keeps ..
  | semaGive => exact .issue fun _ => semaGive_keeps ..
  | spadScrubLine => exact .next (spadScrub_keeps ..)
  | routerForward => exact .next (routerForward_keeps ..)
  | outputArbitration => exact .next (outputArbitration_keeps ..)
  | creditReturn => exact .next (creditReturn_keeps ..)
  | injectionArbitration => exact .next (injectionArbitration_keeps ..)
  | sendDelivery => exact .next (arrives_keeps ..)
  | fetchReq => exact .next (arrives_keeps ..)
  | fetchData => exact .next (arrives_keeps ..)
  | signalDelivery => exact .next (arrives_keeps ..)
  | lgetReq => exact .next (arrives_keeps ..)
  | lgetData => exact .next (arrives_keeps ..)
  | lputPacket => exact .next (arrives_keeps ..)
  | xputPacket => exact .next (arrives_keeps ..)
  | atomPacket => exact .next (arrives_keeps ..)
  | stealReq => exact .next (arrives_keeps ..)
  | stealAns => exact .next (arrives_keeps ..)
  | tack => exact .answer fun _ _ => tackArrives_keeps ..
  | nack => exact .answer fun _ _ => nackArrives_keeps ..
  | mgmtRead => exact .next (mgmtArrives_keeps ..)
  | mgmtWrite => exact .next (mgmtArrives_keeps ..)
  | mgmtReadData => exact .next (mgmtArrives_keeps ..)
  | mgmtWriteDone => exact .next (mgmtArrives_keeps ..)
  | mgmtAccError => exact .next (mgmtArrives_keeps ..)
  | mgmtTake => exact .next (mgmtTake_keeps ..)
  | mgmtGrant => exact .next (mgmtGrant_keeps ..)
  | mgmtGive => exact .next (semaAdd_keeps ..)
  | mgmtConsume => exact .next (leaseEnd_keeps ..)
  | mgmtReturn => exact .next (leaseEnd_keeps ..)
  | cmdFwd => exact .next (cmdForwarded_keeps ..)
  | idleReport => exact .next (idleReport_keeps ..)
  | cmdEnd => exact .next (cmdEnd_keeps ..)
  | pmtFwd => exact .next (pmtForwarded_keeps ..)
  | batchFwd => exact .next (batchForwarded_keeps ..)
  | doneBits => exact .next (doneBits_keeps ..)
  | faultFwd => exact .next (faultForwarded_keeps ..)
  | linkBlockTx => exact .next (linkTx_keeps ..)
  | linkBlockRx => exact .next (linkRx_keeps ..)
  | ackDeadline => exact .next (ackDeadline_keeps ..)
  | linkFaultReplayLimit => exact .next (replayLimit_keeps ..)
  | linkFaultAckTimeout => exact .next (ackTimeout_keeps ..)
  | identityBlock => exact .next (.trans (.ite (startTraining_keeps ..) (.refl ..)) (takeIdentity_keeps ..))
  | linkTrained => exact .next (linkTrained_keeps ..)
  | portAdminDown => exact .next (adminDown_keeps ..)
  | laneSymbolLoss => exact .next (laneFails_keeps ..)
  | laneBerCheck => exact .next (berCheck_keeps ..)
  | degradeRelock => exact .next (degradeRelock_keeps ..)
  | b72Forward => exact .next (b72Forward_keeps ..)
  | retransmitTimeout => exact .next (retransmit_keeps ..)
  | tackTimer => exact .next (tackTimer_keeps ..)
  | recalTrigger => exact .next (recalTrigger_keeps ..)
  | recalIdleSlot => exact .next (recalIdle_keeps ..)
  | recalForced => exact .next (recalForced_keeps ..)
  | routeTableWrite => exact .next (routeTableWrite_keeps ..)
  | actChangeRequest => exact .next (.ite (queueChange_keeps ..) (.refl ..))
  | actBuild => exact .next (actBuild_keeps ..)
  | actCue => exact .next (actCue_keeps ..)
  | elementQuiet => exact .next (elementQuiet_keeps ..)
  | actFree => exact .next (actFree_keeps ..)
  | drainDeadline => exact .next (.ite (freeOld_keeps ..) (.refl ..))
  | unitPlannedReset => exact .next (unitPlannedReset_keeps ..)
  | b72Loss => exact .next (b72Loss_keeps ..)
  | spineLoss => exact .next (spineLoss_keeps ..)
  | unitAdmit => exact .next (unitAdmit_keeps ..)
  | imageLoadStart => exact .next (imageStart_keeps ..)
  | imageLoadAbort => exact .next (imgFail_keeps ..)
  | imageCheckDone => exact .next (imageCheck_keeps ..)
  | imageExpansionDone => exact .next (imageExpanded_keeps ..)
  | actsHandoverAck => exact .next (actsHandoverAck_keeps ..)
  | actsAckTimeout => exact .next (actsAckTimeout_keeps ..)
  | pushStart => exact .next (pushStart_keeps ..)
  | pushAbort => exact .next (pushAbort_keeps ..)
  | pushDone => exact .next (pushDone_keeps ..)
  | cueStart => exact .next (cueCtrl_keeps ..)
  | cueDisarm => exact .next (cueCtrl_keeps ..)
  | rehearsalDone => exact .next (rehearsalDone_keeps ..)
  | rehearsalTimeout => exact .next (rehearsalTimeout_keeps ..)
  | cueApply => exact .next (cueApply_keeps ..)
  | schedCueValue => exact .next (schedCueValue_keeps ..)
  | machineCueStart => exact .next (machineCueStart_keeps ..)
  | machineCueCheck => exact .next (machineCueCheck_keeps ..)
  | goFrame => exact .next (goFrame_keeps ..)
  | coldStart => exact .next (coldStart_keeps ..)
  | warmStart => exact .next (warmStart1_keeps ..)
  | bringupPhase0 => exact .next (phase0_keeps ..)
  | hostStartTestTimeout => exact .next (hostTestFails_keeps ..)
  | bringupPhase1 => exact .next (phase1_keeps ..)
  | ppsLockTimeout => exact .next (ppsTimeout_keeps ..)
  | bringupPhase2 => exact .next (phase2_keeps ..)
  | bringupPhase3 => exact .next (phase3_keeps ..)
  | portTrainTimeout => exact .next (portTrainTimeout_keeps ..)
  | bringupPhase4 => exact .next (phase4_keeps ..)
  | bringupDone => exact .next (bringupDone_keeps ..)
  | phaseSlow => exact .next (phaseSlow_keeps ..)
  | ledgerFetch => exact .next (ledgerFetch_keeps ..)
  | ledgerFetchDone => exact .next (ledgerFetched_keeps ..)
  | fdrStart => exact .next (fdrStart_keeps ..)
  | fdrAbort => exact .next (fdrAbort_keeps ..)
  | fdrCommit => exact .next (fdrCommit_keeps ..)
  | fieldRetestStart => exact .next (retestStart_keeps ..)
  | fieldRetestDone => exact .next (retestDone_keeps ..)
  | pchArbitration => exact .next (pchArbitration_keeps ..)
  | loftScrubRead => exact .next (.ite ((scrubLine_keeps ..).trans (scrubSync_keeps ..)) (.refl ..))
  | scrubForcedSlot => exact .next (.ite (((State.bump_keeps ..).trans (forEach_keeps (fun _ _ => scrubLine_keeps ..) _ (.refl ..))).trans (scrubSync_keeps ..)) (.refl ..))
  | scrubLate => exact .next (scrubLate_keeps ..)
  | rowSpareCopy => exact .next (spareCopy_keeps ..)
  | rowSpareForced => exact .next (.ite ((State.bump_keeps ..).trans (spareCopy_keeps ..)) (.refl ..))
  | quarterZeroed => exact .next (quarterZeroed_keeps ..)
  | apertureRead => exact .next (apertureRead_keeps ..)
  | apertureWrite => exact .next (apertureWrite_keeps ..)
  | doorbell => exact .next (doorbell_keeps ..)
  | commandTake => exact .next (commandTake_keeps ..)
  | commitInstant => exact .next (commitInstant_keeps ..)
  | commandComplete => exact .next (commandComplete_keeps ..)
  | slotJoin => exact .next (slotJoin_keeps ..)
  | slotLeave => exact .next (slotLeave_keeps ..)
  | stepBoundary => exact .next (stepBoundary_keeps ..)
  | semaDecision => exact .next (semaDecision_keeps ..)
  | semaTenureEnd => exact .next (State.putSemas_keeps ..)
  | curtain => exact .next (curtain_keeps ..)
  | curtainDone => exact .next (curtainDone_keeps ..)
  | resetSeq => exact .next (resetSeq_keeps ..)
  | preempt => exact .next (preempt_keeps ..)
  | resume => exact .next (resume_keeps ..)
  | cutSurrenderTimeout => exact .next (cutTimeout_keeps ..)
  | cutComplete => exact .next (cutComplete_keeps ..)
  | holdHaltDone => exact .next (holdHalted_keeps ..)
  | holdSurrenderTimeout => exact .next (holdTimeout_keeps ..)
  | holdSaveDone => exact .next (holdSaved_keeps ..)
  | restoreDone => exact .next (restoreDone_keeps ..)
  | donationBound => exact .next (donationBound_keeps ..)
  | domainOnRequest => exact .next (domRequest_keeps ..)
  | domainOffRequest => exact .next (domRequest_keeps ..)
  | domainResetRequest => exact .next (domRequest_keeps ..)
  | rampDone => exact .next (rampDone_keeps ..)
  | isolDone => exact .next (isolDone_keeps ..)
  | drainDone => exact .next (drainDone_keeps ..)
  | offDwellDone => exact .next (dwellDone_keeps ..)
  | noPowerGood => exact .next (.ite (anyFault_keeps ..) (.refl ..))
  | overcurrent => exact .next (anyFault_keeps ..)
  | regFail => exact .next (anyFault_keeps ..)
  | supplyFaultRetry => exact .next (faultRetry_keeps ..)
  | parkDone => exact .next (parkDone_keeps ..)
  | unparkDone => exact .next (unparkDone_keeps ..)
  | gateWaitClear => exact .next (evalPark_keeps ..)
  | busUndervolt => exact .next (busUndervolt_keeps ..)
  | ibcFault => exact .next (ibcFault_keeps ..)
  | trayPowerOff => exact .next (trayPowerOff_keeps ..)
  | capWrite => exact .next (capWrite_keeps ..)
  | capLoopPeriod => exact .next (capLoop_keeps ..)
  | envelopeStep => exact .next (envelopeStep_keeps ..)
  | energySample => exact .next (energySample_keeps ..)
  | energyIntegrate => exact .next (energyIntegrate_keeps ..)
  | droopGuardSample => exact .next (droopSample_keeps ..)
  | droopGuardRelease => exact .next (droopRelease_keeps ..)
  | currentGuardSample => exact .next (currentSample_keeps ..)
  | currentGuardRelease => exact .next (currentRelease_keeps ..)
  | telSnapshot => exact .next (telSnapshot_keeps ..)
  | barrierBalance => exact .next (barrierBalance_keeps ..)
  | bbuPresenceLoss => exact .next (bbuLost_keeps ..)
  | bbuInsertion => exact .next (bbuInserted_keeps ..)
  | bbuPrecheckDone => exact .next (precheckDone_keeps ..)
  | cellFault => exact .next (cellFault_keeps ..)
  | bbuFull => exact .next (bbuFull_keeps ..)
  | chargeHeadroom => exact .next (chargeHeadroom_keeps ..)
  | chargeInhibit => exact .next (chargeInhibit_keeps ..)
  | shelfReport => exact .next (replan_keeps ..)
  | shelfReportPeriodic => exact .next (shelfReport_keeps ..)
  | planRaiseCheck => exact .next (planRaise_keeps ..)
  | acLoss => exact .next (acLoss_keeps ..)
  | rideThroughGrace => exact .next (graceEnd_keeps ..)
  | bbuReserveLow => exact .next (reserveLow_keeps ..)
  | acReturn => exact .next (acReturn_keeps ..)
  | shelfStaticFallback => exact .next (.ite (.refl ..) (State.wr_keeps ..))
  | busbarCollapse => exact .next (busCollapse_keeps ..)
  | cduFailover => exact .next (cduFailover_keeps ..)
  | coolantReport => exact .next (coolantReport_keeps ..)
  | trayInletOvertemp => exact .next (inletOvertemp_keeps ..)
  | flowLoss => exact .next (flowLoss_keeps ..)
  | flowLossPowerOff => exact .next (flowOff_keeps ..)
  | levelAlarm => exact .next (levelAlarm_keeps ..)
  | levelLowPowerOff => exact .next (levelOff_keeps ..)
  | thermalSample => exact .next (thermalSample_keeps ..)
  | parkHottestEval => exact .next (parkHottest_keeps ..)
  | rotationDue => exact .next (rotationDue_keeps ..)
  | ghostLightEnter => exact .next (ghostEnter_keeps ..)
  | ghostWarmAdjust => exact .next (warmAdjust_keeps ..)
  | ghostWarmRotate => exact .next (warmRotate_keeps ..)
  | ghostWake => exact .next (ghostExit_keeps ..)
  | ageSampleDue => exact .next (ageDue_keeps ..)
  | ageSampleForced => exact .next (ageForced_keeps ..)
  | ageSampleDone => exact .next (ageDone_keeps ..)
  | ageSampleLate => exact .next (ageLate_keeps ..)
  | ageHourlyFit => exact .next (ageHourly_keeps ..)
  | perstAssert => exact .next (perstAssert_keeps ..)
  | perstRelease => exact .next (perstRelease_keeps ..)
  | hotReset => exact .next (hotReset_keeps ..)
  | flr => exact .next (flr_keeps ..)
  | pcieLinkUp => exact .next (pcieLinkUp_keeps ..)
  | pmcsrWrite => exact .next (pmcsrWrite_keeps ..)
  | msixEnable => exact .next (msixEnable_keeps ..)
  | msixUnmask => exact .next (msixMask_keeps ..)
  | busMasterEnable => exact .next (busMaster_keeps ..)
  | dmaTailWrite => exact .next (dmaTail_keeps ..)
  | dmaEnable => exact .next (dmaEnable_keeps ..)
  | dmaDisable => exact .next (dmaDisable_keeps ..)
  | dmaResume => exact .next (dmaResume_keeps ..)
  | dmaCompletion => exact .next (dmaArrive_keeps ..)
  | dmaCompletionTimeout => exact .next (dmaTimeout_keeps ..)
  | dmaDescDone => exact .next (dmaDone_keeps ..)
  | l1Entry => exact .next (l1Entry_keeps ..)
  | pmeTurnOff => exact .next (pmeTurnOff_keeps ..)
  | pmeRepeat => exact .next (pmeRepeat_keeps ..)
  | atnTest => exact .next (atnTest_keeps ..)
  | atnUnmask w m v =>
    cases m with
    | leaf => exact .next (leafMaskWrite_keeps ..)
    | host => exact .next (hostMaskWrite_keeps ..)
    | tmc => exact .next (tmcMaskWrite_keeps ..)
  | msixCoalesceExpiry => exact .next (msixExpiry_keeps ..)
  | msixSpacing => exact .next (msixSpacing_keeps ..)
  | tmcCoalesceExpiry => exact .next (tmcExpiry_keeps ..)
  | tmcSeenClear => exact .next (tmcSeenClear_keeps ..)
  | ptpSync => exact .next (ptpSync_keeps ..)
  | ppsEdge => exact .next (ppsEdge_keeps ..)
  | rmcReferenceLoss => exact .next (referenceLoss_keeps ..)
  | rmcReferenceReturn => exact .next (rmcMeasure_keeps ..)
  | markerSend => exact .next (markerSend_keeps ..)
  | todSend => exact .next (todSend_keeps ..)
  | fanoutSwitch => exact .next (State.modPlanner_keeps ..)
  | marker => exact .next (marker_keeps ..)
  | todFrame => exact .next (todFrame_keeps ..)
  | markerMissing => exact .next (markerMissing_keeps ..)
  | holdoverBoundExceeded => exact .next (boundExceeded_keeps ..)
  | tafReadRequest => exact .next (request_keeps ..)
  | tafWriteRequest => exact .next (request_keeps ..)
  | tafResponse => exact .next (response_keeps ..)
  | tafEvent => exact .next (event_keeps ..)
  | tafRetry => exact .next (retry_keeps ..)
  | sidebandChange => exact .next (sidebandChange_keeps ..)
  | attnNChange => exact .next (attnNChange_keeps ..)
  | presenceChange => exact .next (presenceChange_keeps ..)
  | tmcRestart => exact .next (tmcStart_keeps ..)
  | standbyRailUp => exact .next (standbyRailUp_keeps ..)
  | spotlightButton => exact .next (spotButton_keeps ..)
  | spotlightTimeout => exact .next (spotTimeout_keeps ..)
  | firmwareInstall => exact .next (fwInstall_keeps ..)
  | firmwareWriteDone => exact .next (fwWritten_keeps ..)
  | firmwareActivate => exact .next (activateIn_keeps ..)
  | firmwareRollback => exact .next (activateIn_keeps ..)
  | updateTaskTimeout => exact .next (taskTimeout_keeps ..)
  | capConsistencyCheck => exact .next (capCheck_keeps ..)
  | b72ActStateSet => exact .next (.ite (b72ActCtl_keeps ..) (.refl ..))
  | redfishGet => exact .next (State.emit_keeps ..)
  | redfishPatch => exact .rfWrite fun _ => patch_keeps ..
  | resetOn => exact .trayAction fun _ => resetOn_keeps ..
  | resetForceOff => exact .trayAction fun _ => resetForceOff_keeps ..
  | resetGracefulShutdown => exact .trayAction fun _ => resetGraceful_keeps ..
  | resetPowerCycle => exact .trayAction fun _ => resetCycle_keeps ..
  | windowAccess => exact .rfWrite fun _ => windowAccess_keeps ..
  | clearCellFault => exact .rfWrite fun _ => clearCellFault_keeps ..
  | setSeconds => exact .next (setSeconds_keeps ..)
  | failover => exact .rfWrite fun _ => (State.modPlanner_keeps ..).trans (State.emit_keeps ..)
  | simpleUpdate => exact .rfWrite fun _ => update_keeps ..
  | multipartUpdate => exact .rfWrite fun _ => update_keeps ..
  | eventSubscribe => exact .rfWrite fun _ => subscribe_keeps ..
  | eventUnsubscribe => exact .rfWrite fun _ => unsubscribe_keeps ..
  | twiWrite => exact .next (twiWrite_keeps ..)
  | twiRead => exact .next (twiRead_keeps ..)
  | twiAon => exact .next (.ite (State.emit_keeps ..) (.refl ..))
  | twiStretchTimeout => exact .next (stretchTimeout_keeps ..)
  | twiTargetBusReset => exact .next (State.wr_keeps ..)
  | smcSleep => exact .next (.ite (State.modTwis_keeps ..) (.refl ..))
  | twiGo => exact .next (twiCmd_keeps ..)
  | twiCtrlDone => exact .next (ctrlDone_keeps ..)
  | twiArbLost => exact .next (arbLost_keeps ..)
  | twiBusRecovery => exact .next (busRecovery_keeps ..)
  | jtagIdcode => exact .scan fun _ => (setIr_keeps ..).trans (State.emit_keeps ..)
  | jtagBypass => exact .next (jtagBypass_keeps ..)
  | jtagSamplePreload => exact .scan fun _ => ((setIr_keeps ..).trans (State.modTwis_keeps ..)).trans (State.emit_keeps ..)
  | jtagExtest => exact .scan fun _ => setIr_keeps ..
  | dpstat => exact .scan fun _ => (setIr_keeps ..).trans (State.emit_keeps ..)
  | dpaccNop => exact .next (dpacc_keeps ..)
  | dpaccRead => exact .next (dpacc_keeps ..)
  | dpaccWrite => exact .next (dpacc_keeps ..)
  | trst => exact .next (.ite ((setIr_keeps ..).trans (portDetach_keeps ..)) (.refl ..))
  | debugAttach => exact .next (dbgCtl_keeps ..)
  | debugDetach => exact .next (dbgCtl_keeps ..)
  | debugPresenceLost => exact .next ((State.wr_keeps ..).trans (portDetach_keeps ..))
  | dbgHalt => exact .dbgControl fun _ _ _ => haltAsk_keeps ..
  | dbgResume => exact .dbgControl fun _ _ _ => resumeCore_keeps ..
  | dbgStep => exact .dbgControl fun _ _ _ => resumeCore_keeps ..
  | coreHalted => exact .next (coreHalted_keeps ..)
  | dbgRegWrite => exact .next (dbgRegWrite_keeps ..)
  | dbgMemWrite => exact .next (dbgMemWrite_keeps ..)
  | dbgMemRead => exact .next ((dbgMemRead_keeps ..).trans (State.emit_keeps ..))
  | trayInterlockOpen => exact .next (interlockOpen_keeps ..)
  | keepaliveTimeout => exact .next (keepaliveTimeout_keeps ..)
  | rectifierModuleFault => exact .next (moduleFault_keeps ..)
  | firmwareTrialEnd => exact .next (trialEnd_keeps ..)
  | machineCueArmTimeout => exact .next (machineCueArmTimeout_keeps ..)
  | insulationFault => exact .next (alarm_keeps ..)
  | pcieLinkRecovery => exact .next (pcieEvent_keeps ..)

/-- A command keeps every map canonical. -/
theorem exec_canon {c : Instr} {s t : State} (h : s.canon = true) (hexec : exec c s = .next t) : t.canon = true := by
  obtain ⟨u, m, hnext, hkeeps⟩ := exec_answers c s
  rw [hnext, Host.Outcome.next.injEq] at hexec
  exact hexec ▸ hkeeps.canon h

/-- An idle step moves the time alone. -/
theorem State.canon_idle (s : State) : s.idle.canon = s.canon := rfl

theorem State.canon_withPending (s : State) (cs : List Instr) : (s.withPending cs).canon = s.canon := rfl

end Sys2Proof.Machine

open Sys2Proof Sys2Proof.Machine

/-- Settles O3: every map of the reset state is empty. -/
theorem resetIsCanonical : Obligations.ResetIsCanonical := by
  unfold Obligations.ResetIsCanonical
  decide

/-- Settles O4: a command keeps every map canonical since each shared operation does, and an idle step moves the time alone. -/
theorem stepKeepsCanonical : Obligations.StepKeepsCanonical := by
  intro s t hcanon hstep
  cases hpending : s.pending with
  | nil =>
    simp only [step, hpending, Host.Outcome.next.injEq] at hstep
    exact hstep ▸ s.canon_idle.trans hcanon
  | cons c rest =>
    simp only [step, hpending] at hstep
    exact exec_canon ((s.canon_withPending rest).trans hcanon) hstep

end

section
/-!
SUPPORT. What finding an error in a loft leaves alone: the leaves that are set, the status of the loft beside DEAD, and the progress of its scrubbers (R349, R356, R357).
-/
set_option Elab.async false
namespace Sys2Proof.Machine

/-! ## Errors that are found -/

/-- A field of LOFT_STAT other than ON and DEAD. -/
structure Fld.OfLoftStat (y : Fld) : Prop where
  reg : y.reg = LOFT_STAT
  lo : 2 ≤ y.lo
  hi : y.hi < 64

/-- A finding may come between two states: no leaf of the wafer goes to 0 (R597), and the statuses of its lofts differ in DEAD at most (R357). -/
structure FindingNoted (w : Nat) (s t : State) : Prop where
  leaves : KeepsLeaves w s t
  stat : ∀ y : Fld, y.OfLoftStat → ∀ f, t.rd y w f = s.rd y w f

/-- The mask of everything but the leaves and the statuses of lofts. -/
def unnotedMask : Nat := (2 ^ 384 - 1) ^^^ (regBit ATN_CAUSE ||| regBit LOFT_STAT)

section Noted
variable {w : Nat} {s t u : State}

theorem FindingNoted.refl (w : Nat) (s : State) : FindingNoted w s s := ⟨.refl w s, fun _ _ _ => rfl⟩

theorem FindingNoted.trans (h1 : FindingNoted w s t) (h2 : FindingNoted w t u) : FindingNoted w s u :=
  ⟨h1.leaves.trans h2.leaves, fun y hy f => (h2.stat y hy f).trans (h1.stat y hy f)⟩

theorem FindingNoted.ite {p : Prop} [Decidable p] (h1 : FindingNoted w s t) (h2 : FindingNoted w s u) : FindingNoted w s (if p then t else u) := by
  split
  · exact h1
  · exact h2

theorem FindingNoted.forEach {α : Type} {g : α → State → State} (hg : ∀ x t, FindingNoted w t (g x t)) (xs : List α) (s : State) : FindingNoted w s (forEach xs s g) :=
  forEach_relates (FindingNoted.refl w) FindingNoted.trans hg xs s

theorem Keeps.rdLoftStat {m : Nat} (h : Keeps m s t) (hm : m.testBit (64 + LOFT_STAT.id) = false) {y : Fld} (hy : y.OfLoftStat) (f : Nat) : t.rd y w f = s.rd y w f :=
  h.rd y w f (by rw [hy.reg]; decide) (by rw [hy.reg]; exact hm)

theorem FindingNoted.of_keeps {m : Nat} (h : Keeps m s t) (hm : m ||| unnotedMask = unnotedMask) : FindingNoted w s t :=
  ⟨.of_keeps (h.widen hm) (by decide +kernel), fun _ hy f => (h.widen hm).rdLoftStat (by decide +kernel) hy f⟩

theorem FindingNoted.raise (h : FindingNoted w s t) (l : Leaf) : FindingNoted w s (t.raise w l) :=
  ⟨h.leaves.raise l, fun y hy f => ((State.raise_keeps t w l).rdLoftStat (by decide +kernel) hy f).trans (h.stat y hy f)⟩

theorem FindingNoted.wrDead (w f v : Nat) (s : State) : FindingNoted w s (s.wr LOFT_STAT_DEAD w f v) := by
  refine ⟨.of_keeps (State.wr_keeps ..) (by decide +kernel), fun y hy g => ?_⟩
  obtain ⟨hreg, hlo, hhi⟩ := hy
  by_cases hg : g = f
  · exact hg ▸ s.rd_wr_field LOFT_STAT_DEAD y w g v hreg (by decide) hhi (.inr hlo)
  · exact s.rd_wr_ne LOFT_STAT_DEAD y w f v w g (.inr (.inr hg))

theorem State.journal_noted (s : State) (kind source scope outcome scopeId : Nat) (detail digest : List Nat) :
    FindingNoted w s (s.journal w kind source scope outcome scopeId detail digest) :=
  ⟨s.journalAt_leaves .., fun _ hy f => (State.journal_keeps ..).rdLoftStat (by decide +kernel) hy f⟩

theorem appendFinding_noted (w : Nat) (x : Finding) (s : State) : FindingNoted w s (appendFinding w x s) := by
  have hcount : ∀ l, FindingNoted w s (if x.phase < 5 then (ledgerSync w (s.putLedgers w l)).bump BUP_NEW_START w 0 1
      else (ledgerSync w (s.putLedgers w l)).bump BUP_NEW_RUNTIME w 0 1) := fun l =>
    ((FindingNoted.of_keeps (s.putLedgers_keeps w l) (by decide +kernel)).trans (.of_keeps (ledgerSync_keeps ..) (by decide +kernel))).trans
      (.ite (.of_keeps (State.bump_keeps ..) (by decide +kernel)) (.of_keeps (State.bump_keeps ..) (by decide +kernel)))
  have hnear : ∀ l (p : Prop) [Decidable p], FindingNoted w s (if p then (_ : State).raise w Leaf.ledgerNear else _) := fun l p _ => .ite ((hcount l).raise _) (hcount l)
  unfold appendFinding
  exact .ite (.refl w s) (.ite ((hnear _ _).raise _) (hnear _ _))

theorem closeEdit_noted (w phase : Nat) (s : State) : FindingNoted w s (closeEdit w phase s) := by
  unfold closeEdit
  exact .ite (.refl w s) ((s.journal_noted ..).trans (.of_keeps (State.modLedgers_keeps ..) (by decide +kernel)))

theorem deriveLists_noted (w : Nat) (s : State) : FindingNoted w s (deriveLists w s) := by
  have hdomain : ∀ (l : Ledger) d t, FindingNoted w t (if l.blocks d = true then (if t.rd PWR_DOM_STAT_BLOCKED w d = 1 then t else blockDomain w d t)
      else (t.wr PWR_DOM_STAT_BLOCKED w d 0).when ((t.getDoms (domKey w d)).downWhenIdle) fun t => t.modDoms (domKey w d) fun x => { x with downWhenIdle := false }) := fun l d t =>
    .ite (.ite (.refl w t) (.of_keeps (blockDomain_keeps ..) (by decide +kernel))) (.of_keeps (State.when_keeps (M := unnotedMask)
      (fun u => (u.modDoms_keeps ..).widen (by decide +kernel)) ((State.wr_keeps ..).widen (by decide +kernel))) (sub_refl _))
  have hbelow : ∀ {t : State} (p : Prop) [Decidable p], FindingNoted w s t → FindingNoted w s (if p then t.raise w Leaf.belowGuarantee else t) := fun p _ h => .ite (h.raise _) h
  have hwr : ∀ {t : State} (y : Fld) (v : Nat), regBit y.reg ||| unnotedMask = unnotedMask → FindingNoted w s t → FindingNoted w s (t.wr y w 0 v) := fun y v hy h =>
    h.trans (.of_keeps (State.wr_keeps ..) hy)
  have hset : ∀ {t : State} (r : Reg) (v : Nat), regBit r ||| unnotedMask = unnotedMask → FindingNoted w s t → FindingNoted w s (t.setReg r w 0 v) := fun r v hr h =>
    h.trans (.of_keeps (State.setReg_keeps ..) hr)
  unfold deriveLists
  refine hwr _ _ (by decide +kernel) (hwr _ _ (by decide +kernel) (.trans (hbelow _ ?_) (.forEach (hdomain _) _ _)))
  iterate 6 refine hwr _ _ (by decide +kernel) ?_
  refine .trans ?_ (.forEach (fun f t => .wrDead w f _ t) _ _)
  iterate 4 refine hset _ _ (by decide +kernel) ?_
  exact .forEach (fun f t => .of_keeps (setHoles_keeps ..) (by decide +kernel)) _ s

theorem runtimeFinding_noted (w ty kind ob sig : Nat) (s : State) : FindingNoted w s (runtimeFinding w ty kind ob sig s) := by
  have hedited : ∀ x, FindingNoted w s (closeEdit w 5 (deriveLists w (appendFinding w x s))) := fun x =>
    ((appendFinding_noted ..).trans (deriveLists_noted ..)).trans (closeEdit_noted ..)
  unfold runtimeFinding
  exact .ite (.refl w s) (.ite ((hedited _).raise _) (hedited _))

theorem loftRetire_noted (w f : Nat) (s : State) : FindingNoted w s (loftRetire w f s) := by
  unfold loftRetire
  exact .ite ((FindingNoted.of_keeps s.fresh_keeps (sub_zero _)).trans (runtimeFinding_noted ..)) (.refl w s)

theorem spareTrigger_noted (w f row : Nat) (s : State) : FindingNoted w s (spareTrigger w f row s) := by
  unfold spareTrigger
  exact .trans (.ite (.refl w s) (.of_keeps (State.putLofts_keeps ..) (by decide +kernel))) (loftRetire_noted ..)

end Noted

end Sys2Proof.Machine
end

section
/-!
SUPPORT. What an error that a loft's code finds leaves of the loft's upkeep (R349, R354, R356).
-/
set_option Elab.async false
namespace Sys2Proof.Machine

theorem State.getLofts_modLofts_same (s : State) (k : Nat) (g : LoftSt → LoftSt) : (s.modLofts k g).getLofts k = g (s.getLofts k) := by
  rw [State.modLofts, State.getLofts_putLofts, if_pos rfl]

/-- Two records of a loft agree in the progress of its scrubbers and in the spare rows in use. -/
structure LoftSt.SameUpkeep (l m : LoftSt) : Prop where
  scrub : m.scrub = l.scrub
  passes : m.passes = l.passes
  spares : m.spares = l.spares

/-- An error in the loft of field `f` may be noted between two states: what a finding may do, and no change of the loft's upkeep. -/
structure ErrorNoted (w f : Nat) (s t : State) : Prop where
  finding : FindingNoted w s t
  upkeep : (s.getLofts (fieldKey w f)).SameUpkeep (t.getLofts (fieldKey w f))

section Errors
variable {w f : Nat} {s t u : State}

theorem LoftSt.SameUpkeep.of_eq {l m : LoftSt} (h : m = l) : l.SameUpkeep m := h ▸ ⟨rfl, rfl, rfl⟩

theorem LoftSt.SameUpkeep.trans {k l m : LoftSt} (h1 : k.SameUpkeep l) (h2 : l.SameUpkeep m) : k.SameUpkeep m :=
  ⟨h2.scrub.trans h1.scrub, h2.passes.trans h1.passes, h2.spares.trans h1.spares⟩

theorem ErrorNoted.refl (w f : Nat) (s : State) : ErrorNoted w f s s := ⟨.refl w s, .of_eq rfl⟩

theorem ErrorNoted.trans (h1 : ErrorNoted w f s t) (h2 : ErrorNoted w f t u) : ErrorNoted w f s u := ⟨h1.finding.trans h2.finding, h1.upkeep.trans h2.upkeep⟩

theorem ErrorNoted.of_keeps {m : Nat} (h : Keeps m s t) (hm : m ||| unnotedMask = unnotedMask) (hlofts : m.testBit 22 = false) : ErrorNoted w f s t :=
  ⟨.of_keeps h hm, .of_eq (h.getLofts hlofts _)⟩

theorem ErrorNoted.ite {p : Prop} [Decidable p] (h1 : ErrorNoted w f s t) (h2 : ErrorNoted w f s u) : ErrorNoted w f s (if p then t else u) := by
  split
  · exact h1
  · exact h2

/-- The record of a loft is written with the same upkeep. -/
theorem putLofts_noted (w f : Nat) (s : State) {l : LoftSt} (h : (s.getLofts (fieldKey w f)).SameUpkeep l) : ErrorNoted w f s (s.putLofts (fieldKey w f) l) :=
  ⟨.of_keeps (State.putLofts_keeps ..) (by decide +kernel), by rwa [State.getLofts_putLofts, if_pos rfl]⟩

theorem loftRetire_upkeep (w f : Nat) (s : State) : ErrorNoted w f s (loftRetire w f s) := ⟨loftRetire_noted .., .of_eq ((loftRetire_keeps ..).getLofts (by decide +kernel) _)⟩

theorem spareTrigger_upkeep (w f row : Nat) (s : State) : ErrorNoted w f s (spareTrigger w f row s) := by
  unfold spareTrigger
  refine .trans ?_ (loftRetire_upkeep ..)
  exact .ite (.refl w f s) (putLofts_noted w f s ⟨rfl, rfl, rfl⟩)

theorem loftCorrected_upkeep (w f off : Nat) (s : State) : ErrorNoted w f s (loftCorrected w f off s) := by
  have hcounted : ∀ ce, ErrorNoted w f s ((s.bump LOFT_CE_COUNT w f 1).putLofts (fieldKey w f) { s.getLofts (fieldKey w f) with ceLines := ce }) := fun ce =>
    .trans (.of_keeps (s.bump_keeps LOFT_CE_COUNT w f 1) (by decide +kernel) (by decide +kernel)) (putLofts_noted w f _ ⟨rfl, rfl, rfl⟩)
  unfold loftCorrected
  exact .ite ((hcounted _).trans (spareTrigger_upkeep ..)) (hcounted _)

/-- An uncorrectable line is poisoned, counted and captured, before its leaf is raised (R349). -/
def ueCaptured (w f off source part : Nat) (s : State) : State :=
  let s1 := (s.poisonLine w f off).bump LOFT_UE_COUNT w f 1
  if s1.rd LOFT_UE_CAP_VALID w f = 1 then s1
  else (((s1.wr LOFT_UE_CAP_LINE w f (off / 64)).wr LOFT_UE_CAP_SOURCE w f source).wr LOFT_UE_CAP_PART w f part).wr LOFT_UE_CAP_VALID w f 1

/-- The mask of the count and the capture of uncorrectable lines. -/
def ueMask : Nat := regBit LOFT_UE ||| regBit LOFT_UE_CAP

theorem ueCaptured_keeps (w f off source part : Nat) (s : State) : Keeps ueMask (s.poisonLine w f off) (ueCaptured w f off source part s) := by
  have hcount : Keeps ueMask (s.poisonLine w f off) ((s.poisonLine w f off).bump LOFT_UE_COUNT w f 1) := (State.bump_keeps ..).widen (by decide +kernel)
  unfold ueCaptured
  refine .ite hcount ?_
  iterate 4 refine .next (State.wr_keeps ..) (by decide +kernel) ?_
  exact hcount

theorem loftUncorrectable_eq (w f off source part : Nat) (s : State) : loftUncorrectable w f off source part s =
    spareTrigger w f (rowOf (off / 64)) (((ueCaptured w f off source part s).raiseF w f Leaf.loftUe).modLofts (fieldKey w f) fun l =>
      { l with ueLines := noteLine (off / 64) s.now l.ueLines }) := rfl

theorem raiseF_upkeep (w f : Nat) (l : Leaf) (s : State) : ErrorNoted w f s (s.raiseF w f l) :=
  ⟨(FindingNoted.of_keeps (State.setSrc_keeps s ATN_FSRC w f) (by decide +kernel)).raise l, .of_eq ((State.raiseF_keeps ..).getLofts (by decide +kernel) _)⟩

theorem loftUncorrectable_upkeep (w f off source part : Nat) (s : State) : ErrorNoted w f s (loftUncorrectable w f off source part s) := by
  rw [loftUncorrectable_eq]
  refine .trans ?_ (spareTrigger_upkeep ..)
  refine .trans ?_ (putLofts_noted w f _ ⟨rfl, rfl, rfl⟩)
  refine .trans (.trans (.of_keeps (s.poisonLine_keeps w f off) ?_ ?_) (.of_keeps (ueCaptured_keeps ..) ?_ ?_)) (raiseF_upkeep ..) <;> decide +kernel

theorem State.poisoned_poisonLine (s : State) (w f off : Nat) : (s.poisonLine w f off).poisoned w f off = true := by
  unfold State.poisonLine
  split
  · assumption
  · simp [State.poisoned]

/-- An uncorrectable line is poisoned (R349). -/
theorem loftUncorrectable_poisons (w f off source part : Nat) (s : State) : (loftUncorrectable w f off source part s).poisoned w f off = true := by
  have hrest : Keeps (ueMask ||| 0x54c004600000000000000000000000000000000000000000000000000000000000000000000000010 ||| 0x400000 |||
      0x14c0046000000000000010200000000000000c03fe8000000000000000000700000000000c0400018) (s.poisonLine w f off) (loftUncorrectable w f off source part s) :=
    (((ueCaptured_keeps ..).trans (State.raiseF_keeps ..)).trans (State.modLofts_keeps ..)).trans (spareTrigger_keeps ..)
  exact ((hrest.sameLofts (by decide +kernel)).2 w f off).trans (s.poisoned_poisonLine w f off)

end Errors

end Sys2Proof.Machine
end

section
/-!
PROOF. The upkeep of the lofts: the pseudo-channels' arbiters, the patrol scrub and row sparing (R348, R354, R356).
-/
set_option Elab.async false
namespace Sys2Proof.Machine

/-! ## Arbitration (R348) -/

theorem firstMax_isSome {α : Type} (v : α → Nat) {xs : List α} (h : xs ≠ []) : (firstMax v xs).isSome = true := by
  cases xs with
  | nil => exact absurd rfl h
  | cons x xs =>
    simp only [firstMax]
    split
    · split <;> rfl
    · rfl

theorem firstMax_eq_none {α : Type} {v : α → Nat} {xs : List α} (h : firstMax v xs = none) : xs = [] := by
  by_contra hne
  simpa [h] using firstMax_isSome v hne

/-- The first greatest element is one of the list, and none is greater. -/
theorem firstMax_spec {α : Type} {v : α → Nat} {xs : List α} {m : α} (h : firstMax v xs = some m) : m ∈ xs ∧ ∀ x ∈ xs, v x ≤ v m := by
  induction xs generalizing m with
  | nil => cases h
  | cons x xs ih =>
    simp only [firstMax] at h
    cases hrest : firstMax v xs with
    | none =>
      rw [hrest] at h
      obtain rfl : x = m := by simpa using h
      simp [firstMax_eq_none hrest]
    | some y =>
      obtain ⟨hmem, hmax⟩ := ih hrest
      rw [hrest] at h
      dsimp only at h
      split at h
      · obtain rfl : y = m := by simpa using h
        exact ⟨List.mem_cons_of_mem _ hmem, List.forall_mem_cons.mpr ⟨by omega, hmax⟩⟩
      · obtain rfl : x = m := by simpa using h
        exact ⟨List.mem_cons_self .., List.forall_mem_cons.mpr ⟨le_rfl, fun z hz => (hmax z hz).trans (by omega)⟩⟩

/-- A request that may take its turn out of order: of the third or fourth kind, after 20 us. -/
def AgedReq (r : PchReq) : Prop := (r.cls = 2 ∨ r.cls = 3) ∧ 20000 ≤ r.waited.toNat

/-- The rank by which a pseudo-channel grants requests that have not waited long: the kind, then the partition's priority, then its turn. -/
def State.pchRank (s : State) (w last : Nat) (r : PchReq) : Nat :=
  (4 - r.cls.val) * 100000 + if r.cls = 2 then s.rd PRT_PRIO_PRIO w r.part * 1000 + (288 - (r.part.val + 287 - last) % 288) else 0

/-- A rank that is not smaller: an earlier kind, or the same kind, and among partitions no lower priority. -/
theorem State.pchRank_le {s : State} {w last : Nat} {r x : PchReq} (h : s.pchRank w last x ≤ s.pchRank w last r) :
    r.cls ≤ x.cls ∧ (r.cls = 2 → x.cls = 2 → s.rd PRT_PRIO_PRIO w x.part ≤ s.rd PRT_PRIO_PRIO w r.part) := by
  have hprio : ∀ p, s.rd PRT_PRIO_PRIO w p < 16 := fun p => s.rd_lt PRT_PRIO_PRIO w p
  have hr := hprio r.part
  have hx := hprio x.part
  have hrc := r.cls.isLt
  have hxc := x.cls.isLt
  unfold State.pchRank at h
  refine ⟨Fin.le_def.mpr ?_, fun hr2 hx2 => ?_⟩
  · split at h <;> split at h <;> omega
  · rw [if_pos hr2, if_pos hx2, hr2, hx2] at h
    omega

/-- The request that a pseudo-channel grants: the longest of those that have waited 20 us, or else the first in rank. -/
theorem State.pchWinner_spec (s : State) (w last : Nat) {rs : List PchReq} (h : rs ≠ []) : ∃ r ∈ rs, s.pchWinner w last rs = some r ∧
    ((∃ x ∈ rs, AgedReq x) → AgedReq r ∧ ∀ x ∈ rs, AgedReq x → x.waited.toNat ≤ r.waited.toNat) ∧
    ((∀ x ∈ rs, ¬ AgedReq x) → ∀ x ∈ rs, s.pchRank w last x ≤ s.pchRank w last r) := by
  let aged := rs.filter fun r => (r.cls == 2 || r.cls == 3) && decide (20000 ≤ r.waited.toNat)
  have haged : ∀ x, x ∈ aged ↔ x ∈ rs ∧ AgedReq x := fun x => by simp [aged, AgedReq]
  have hwinner : s.pchWinner w last rs = match firstMax (fun r => r.waited.toNat) aged with
    | some r => some r
    | none => firstMax (s.pchRank w last) rs := rfl
  rw [hwinner]
  cases hlongest : firstMax (fun r : PchReq => r.waited.toNat) aged with
  | some r =>
    obtain ⟨hmem, hmax⟩ := firstMax_spec hlongest
    obtain ⟨hr, hold⟩ := (haged r).mp hmem
    exact ⟨r, hr, rfl, fun _ => ⟨hold, fun x hx hxa => hmax x ((haged x).mpr ⟨hx, hxa⟩)⟩, fun hnone => absurd hold (hnone r hr)⟩
  | none =>
    have hempty := firstMax_eq_none hlongest
    obtain ⟨r, hr⟩ := Option.isSome_iff_exists.mp (firstMax_isSome (s.pchRank w last) h)
    obtain ⟨hmem, hmax⟩ := firstMax_spec hr
    refine ⟨r, hmem, hr, fun ⟨x, hx, hxa⟩ => ?_, fun _ => hmax⟩
    have hin := (haged x).mpr ⟨hx, hxa⟩
    rw [hempty] at hin
    cases hin

theorem pchArbitration_grants {w f : Nat} (ch : Nat) {rs : List PchReq} {s : State} {r : PchReq} (hon : s.loftOn w f = true)
    (hwinner : s.pchWinner w (s.getPchs (fieldKey w f * 32 + ch)).last rs = some r) :
    ((pchArbitration w f ch rs s).getPchs (fieldKey w f * 32 + ch)).holder = some (r.cls.val, r.part.val) := by
  simp only [pchArbitration, hon, Bool.not_true, Bool.false_eq_true, if_false, hwinner, State.modPchs, State.getPchs_putPchs, if_true]

/-! ## Scrub (R354) -/

section Scrub
variable {w f : Nat} {s : State}

/-- What a scrubber does about what the code finds in its line. -/
def scrubFound (w f off : Nat) (e : Ecc) (s : State) : State :=
  match e with
  | .good => s
  | .corrected _ => if s.poisoned w f off then s else loftCorrected w f off s
  | .bad _ => if s.poisoned w f off then s else loftUncorrectable w f off 3 noPart s

/-- The next line of a bank's scrubber. -/
def State.scrubPos (s : State) (w f bank : Nat) : Nat := mget 0 (s.getLofts (fieldKey w f)).scrub bank

theorem scrubLine_eq (w f bank : Nat) (e : Ecc) (s : State) : scrubLine w f bank e s =
    (scrubFound w f (bankLine bank (s.scrubPos w f bank) * 64) e s).modLofts (fieldKey w f) fun x => { x with
      scrub := mset 0 x.scrub bank (if decide (s.scrubPos w f bank + 1 = bankLines) then 0 else s.scrubPos w f bank + 1)
      passes := if decide (s.scrubPos w f bank + 1 = bankLines) then mset 0 x.passes bank (mget 0 x.passes bank + 1) else x.passes
      lateBanks := if decide (s.scrubPos w f bank + 1 = bankLines) then x.lateBanks.filter (· != bank) else x.lateBanks } := by
  cases e <;> rfl

theorem scrubFound_upkeep (w f off : Nat) (e : Ecc) (s : State) : ErrorNoted w f s (scrubFound w f off e s) := by
  cases e with
  | good => exact .refl w f s
  | corrected i => exact .ite (.refl w f s) (loftCorrected_upkeep ..)
  | bad i => exact .ite (.refl w f s) (loftUncorrectable_upkeep ..)

theorem scrubFound_poisons (w f off i : Nat) (s : State) : (scrubFound w f off (.bad i) s).poisoned w f off = true := by
  unfold scrubFound
  dsimp only
  split
  · assumption
  · exact loftUncorrectable_poisons ..

/-- A scrubbed line is followed by the next of the bank, or by the first of a new pass. -/
theorem scrubLine_pos (w f bank : Nat) (e : Ecc) (s : State) :
    (scrubLine w f bank e s).scrubPos w f bank = if s.scrubPos w f bank + 1 = bankLines then 0 else s.scrubPos w f bank + 1 := by
  rw [State.scrubPos, scrubLine_eq, State.getLofts_modLofts_same, mget_mset, if_pos rfl]
  simp only [decide_eq_true_eq]

/-- The last line of a bank ends a pass, which is counted. -/
theorem scrubLine_passes (w f bank : Nat) (e : Ecc) (s : State) : mget 0 ((scrubLine w f bank e s).getLofts (fieldKey w f)).passes bank =
    mget 0 (s.getLofts (fieldKey w f)).passes bank + if s.scrubPos w f bank + 1 = bankLines then 1 else 0 := by
  rw [scrubLine_eq, State.getLofts_modLofts_same]
  dsimp only
  rw [(scrubFound_upkeep ..).upkeep.passes]
  by_cases hlast : s.scrubPos w f bank + 1 = bankLines
  · simp only [hlast, decide_true, if_true, mget_mset]
  · simp only [hlast, decide_false, Bool.false_eq_true, if_false, Nat.add_zero]

theorem scrubLine_poisons (w f bank i : Nat) (s : State) : (scrubLine w f bank (.bad i) s).poisoned w f (bankLine bank (s.scrubPos w f bank) * 64) = true := by
  rw [scrubLine_eq, ((State.modLofts_keeps ..).sameLofts (by decide)).2]
  exact scrubFound_poisons ..

theorem scrubLines_pos (w f bank : Nat) (es : List Ecc) (n : Nat) {s : State} (h : s.scrubPos w f bank + n < bankLines) :
    (forEach (List.range n) s fun i t => scrubLine w f bank (es.getD i .good) t).scrubPos w f bank = s.scrubPos w f bank + n := by
  induction n with
  | zero => rfl
  | succ n ih =>
    have hbefore := ih (by omega)
    rw [forEach, List.range_succ, List.foldl_append, List.foldl_cons, List.foldl_nil, scrubLine_pos]
    rw [forEach] at hbefore
    rw [hbefore, if_neg (by omega), Nat.add_assoc]

theorem scrubSync_forced (w f : Nat) (s : State) : (scrubSync w f s).rd LOFT_SCRUB_FORCED w f = s.rd LOFT_SCRUB_FORCED w f := by
  simp (disch := decide) only [scrubSync, State.wrSat, State.rd_wr_id, State.rd_wr_field]

theorem scrubSync_late (w f : Nat) (s : State) : (scrubSync w f s).rd LOFT_STAT_SCRUB_LATE w f = b2n !(s.getLofts (fieldKey w f)).lateBanks.isEmpty := by
  simp (disch := decide) only [scrubSync, State.rd_wr_same]
  cases (s.getLofts (fieldKey w f)).lateBanks.isEmpty <;> rfl

theorem scrubSync_getLofts (w f : Nat) (s : State) (k : Nat) : (scrubSync w f s).getLofts k = s.getLofts k := (scrubSync_keeps ..).getLofts (by decide +kernel) k

theorem State.scrubPos_scrubSync (s : State) (w f bank : Nat) : (scrubSync w f s).scrubPos w f bank = s.scrubPos w f bank := by
  rw [State.scrubPos, scrubSync_getLofts, State.scrubPos]

theorem State.scrubs_of (hon : s.loftOn w f = true) (halive : s.loftDead w f = false) : s.scrubs w f = true := by
  rw [State.scrubs, hon, halive]
  rfl

theorem scrubLate_shown {bank : Nat} (hscrubs : s.scrubs w f = true) (hnew : bank ∉ (s.getLofts (fieldKey w f)).lateBanks) :
    bank ∈ ((scrubLate w f bank s).getLofts (fieldKey w f)).lateBanks ∧ (scrubLate w f bank s).rd LOFT_STAT_SCRUB_LATE w f = 1 ∧
      (scrubLate w f bank s).leafSet w Leaf.scrubLate = true := by
  have hraise := State.raiseF_keeps (scrubSync w f (s.putLofts (fieldKey w f) { s.getLofts (fieldKey w f) with lateBanks := (s.getLofts (fieldKey w f)).lateBanks ++ [bank] }))
    w f Leaf.scrubLate
  unfold scrubLate
  dsimp only
  rw [if_neg (by simp [hscrubs, hnew])]
  refine ⟨?_, ?_, State.raise_sets _ w _ (by decide)⟩
  · rw [hraise.getLofts (by decide +kernel), scrubSync_getLofts, State.getLofts_putLofts, if_pos rfl]
    simp
  · rw [hraise.rd _ _ _ (by decide) (by decide +kernel), scrubSync_late, State.getLofts_putLofts, if_pos rfl]
    simp [b2n]

/-- A scrubber's read of its next line (R354). -/
theorem completes_loftScrubRead {w : WaferId} {f : FieldId} (hscrubs : s.scrubs w f = true) (bank : BitVec 9) (e : Ecc) : Completes (.loftScrubRead w f bank e) s fun t =>
    t.scrubPos w f bank.toNat = (if s.scrubPos w f bank.toNat + 1 = bankLines then 0 else s.scrubPos w f bank.toNat + 1) ∧
      mget 0 (t.getLofts (fieldKey w f)).passes bank.toNat =
        mget 0 (s.getLofts (fieldKey w f)).passes bank.toNat + (if s.scrubPos w f bank.toNat + 1 = bankLines then 1 else 0) ∧
      ∀ i, e = .bad i → t.poisoned w f (bankLine bank.toNat (s.scrubPos w f bank.toNat) * 64) = true := by
  refine ⟨_, congrArg Host.Outcome.next (if_pos hscrubs), ?_, ?_, ?_⟩
  · rw [State.scrubPos_scrubSync, scrubLine_pos]
  · rw [scrubSync_getLofts, scrubLine_passes]
  · rintro i rfl
    rw [((scrubSync_keeps ..).sameLofts (by decide +kernel)).2]
    exact scrubLine_poisons ..

/-- A forced slot scrubs 16 lines and is counted (R354). -/
theorem completes_scrubForcedSlot {w : WaferId} {f : FieldId} {bank : BitVec 9} (hscrubs : s.scrubs w f = true) (es : List Ecc)
    (hroom : s.scrubPos w f bank.toNat + 16 < bankLines) : Completes (.scrubForcedSlot w f bank es) s fun t =>
      t.scrubPos w f bank.toNat = s.scrubPos w f bank.toNat + 16 ∧
        t.rd LOFT_SCRUB_FORCED w f = satAdd LOFT_SCRUB_FORCED.width (s.rd LOFT_SCRUB_FORCED w f) 1 := by
  have hlines : ∀ u, Keeps 0x54c004600000000000001020000000000000bc03fe8000000000000000000700000000000c0400019 u
      (forEach (List.range 16) u fun i t => scrubLine w f bank.toNat (es.getD i .good) t) := fun u => forEach_keeps (fun i t => scrubLine_keeps ..) _ (.refl _ u)
  refine ⟨_, congrArg Host.Outcome.next (if_pos hscrubs), ?_, ?_⟩
  · have hpos : (s.bump LOFT_SCRUB_FORCED w f 1).scrubPos w f bank.toNat = s.scrubPos w f bank.toNat := by
      rw [State.scrubPos, (State.bump_keeps ..).getLofts (by decide +kernel), State.scrubPos]
    rw [State.scrubPos_scrubSync, scrubLines_pos _ _ _ _ _ (by rwa [hpos]), hpos]
  · rw [scrubSync_forced, (hlines _).rd _ _ _ (by decide) (by decide +kernel), State.rd_bump_same _ _ _ _ _ (by decide) (by decide)]

end Scrub

/-! ## Row sparing (R356) -/

/-- Row `r` of a loft is served by a spare row in `t`, and was copied onto it since `s`: its bank uses one more, and the copy is shown and raised. -/
structure Spared (w f r : Nat) (s t : State) : Prop where
  bank : mget 0 (t.getLofts (fieldKey w f)).spares (bankOf r) = mget 0 (s.getLofts (fieldKey w f)).spares (bankOf r) + 1
  copied : r ∉ (t.getLofts (fieldKey w f)).copies
  served : r ∈ (t.getLofts (fieldKey w f)).sparedRows
  used : t.rd LOFT_STAT_SPARES_USED w f = satAdd LOFT_STAT_SPARES_USED.width (s.rd LOFT_STAT_SPARES_USED w f) 1
  raised : t.leafSet w Leaf.spareUsed = true

section Sparing
variable {w f r : Nat} {s : State}

/-- The record of a loft after the copy of row `r`, which uses spare row `n` of its bank. -/
def LoftSt.afterCopy (x : LoftSt) (r n : Nat) : LoftSt := { x with
  copies := x.copies.filter (· != r), spares := mset 0 x.spares (bankOf r) n
  sparedRows := if x.sparedRows.contains r then x.sparedRows else x.sparedRows ++ [r], ceLines := x.ceLines.filter fun y => rowOf y.1 != r }

/-- The copy of a row is recorded, counted and raised. -/
def copyDone (w f r : Nat) (s : State) : State :=
  let used := mget 0 (s.getLofts (fieldKey w f)).spares (bankOf r) + 1
  let s1 := s.modLofts (fieldKey w f) fun x => x.afterCopy r used
  ((s1.wrSat LOFT_STAT_SPARES_USED w f (s1.rd LOFT_STAT_SPARES_USED w f + 1)).wr LOFT_STAT_SPARES_MAX w f (max used (s1.rd LOFT_STAT_SPARES_MAX w f))).raiseF w f
    Leaf.spareUsed

/-- A copy notes what the code finds in the row's 16 lines, and is then recorded, whereupon the loft may be retired (R356, R357). -/
theorem spareCopy_ends (es : List Ecc) (hscrubs : s.scrubs w f = true) (hcopy : r ∈ (s.getLofts (fieldKey w f)).copies) :
    ∃ u, ErrorNoted w f s u ∧ spareCopy w f r es s = loftRetire w f (copyDone w f r u) := by
  refine ⟨_, ?_, if_neg (by simp [hscrubs, hcopy])⟩
  refine forEach_relates (ErrorNoted.refl w f) ErrorNoted.trans (fun i t => .ite (.refl w f t) ?_) _ s
  split
  · exact .refl w f t
  · exact .of_keeps (t.bump_keeps LOFT_CE_COUNT w f 1) (by decide +kernel) (by decide +kernel)
  · exact loftUncorrectable_upkeep ..

theorem LoftSt.mem_afterCopy (x : LoftSt) (r n : Nat) : r ∈ (x.afterCopy r n).sparedRows := by
  unfold LoftSt.afterCopy
  dsimp only
  split
  · simpa using ‹x.sparedRows.contains r = true›
  · simp

theorem copyDone_getLofts (w f r : Nat) (s : State) : (copyDone w f r s).getLofts (fieldKey w f) =
    (s.getLofts (fieldKey w f)).afterCopy r (mget 0 (s.getLofts (fieldKey w f)).spares (bankOf r) + 1) := by
  unfold copyDone
  rw [(State.raiseF_keeps ..).getLofts (by decide +kernel), State.getLofts_wr, State.wrSat, State.getLofts_wr, State.getLofts_modLofts_same]

/-- A count that is written with its saturation is added to. -/
theorem State.wrSat_rd_add (s : State) (y : Fld) (w i n : Nat) : s.wrSat y w i (s.rd y w i + n) = s.bump y w i n := rfl

theorem copyDone_used (w f r : Nat) (s : State) :
    (copyDone w f r s).rd LOFT_STAT_SPARES_USED w f = satAdd LOFT_STAT_SPARES_USED.width (s.rd LOFT_STAT_SPARES_USED w f) 1 := by
  unfold copyDone
  rw [(State.raiseF_keeps ..).rd _ _ _ (by decide) (by decide +kernel), State.rd_wr_field _ LOFT_STAT_SPARES_MAX LOFT_STAT_SPARES_USED _ _ _ rfl (by decide) (by decide) (by decide),
    State.wrSat_rd_add, State.rd_bump_same _ _ _ _ _ (by decide) (by decide), (State.modLofts_keeps ..).rd _ _ _ (by decide) (by decide +kernel)]

theorem spareCopy_spares (es : List Ecc) (hscrubs : s.scrubs w f = true) (hcopy : r ∈ (s.getLofts (fieldKey w f)).copies) : Spared w f r s (spareCopy w f r es s) := by
  obtain ⟨u, hfound, hended⟩ := spareCopy_ends es hscrubs hcopy
  have hshown : LOFT_STAT_SPARES_USED.OfLoftStat := ⟨rfl, by decide, by decide⟩
  have hretire := loftRetire_noted w f (copyDone w f r u)
  have hrecord := ((loftRetire_keeps w f (copyDone w f r u)).getLofts (by decide +kernel) (fieldKey w f)).trans (copyDone_getLofts w f r u)
  rw [hended]
  refine ⟨?_, ?_, ?_, ?_, hretire.leaves.set _ (by decide) (State.raise_sets _ w _ (by decide))⟩
  · rw [hrecord, LoftSt.afterCopy, mget_mset, if_pos rfl, hfound.upkeep.spares]
  · rw [hrecord, LoftSt.afterCopy]
    simp
  · rw [hrecord]
    exact LoftSt.mem_afterCopy ..
  · rw [hretire.stat _ hshown, copyDone_used, hfound.finding.stat _ hshown]

/-- A count that precedes the copy leaves what it does. -/
theorem Spared.after_bump {y : Fld} {n : Nat} {t : State} (hy : y.reg.id ≠ LOFT_STAT.id) (h : Spared w f r (s.bump y w f n) t) : Spared w f r s t := by
  obtain ⟨hbank, hcopied, hserved, hused, hraised⟩ := h
  rw [State.bump, State.getLofts_wr] at hbank
  rw [State.bump, State.rd_wr_id _ _ _ _ _ _ _ _ (Ne.symm hy)] at hused
  exact ⟨hbank, hcopied, hserved, hused, hraised⟩

/-- A copy in a forced slot (R356). -/
theorem spareForced_spares (es : List Ecc) (hscrubs : s.scrubs w f = true) (hcopy : r ∈ (s.getLofts (fieldKey w f)).copies) :
    Spared w f r s (spareCopy w f r es (s.bump LOFT_SCRUB_FORCED w f 1)) ∧
      (spareCopy w f r es (s.bump LOFT_SCRUB_FORCED w f 1)).rd LOFT_SCRUB_FORCED w f = satAdd LOFT_SCRUB_FORCED.width (s.rd LOFT_SCRUB_FORCED w f) 1 := by
  have hcount := s.bump_keeps LOFT_SCRUB_FORCED w f 1
  have hstill : (s.bump LOFT_SCRUB_FORCED w f 1).scrubs w f = true := by
    rw [← hscrubs]
    simp only [State.scrubs, State.loftOn, State.domOn, State.loftDead, hcount.rd PWR_DOM_STAT_STATE _ _ (by decide) (by decide +kernel),
      hcount.rd LOFT_STAT_DEAD _ _ (by decide) (by decide +kernel)]
  have hcopied : r ∈ ((s.bump LOFT_SCRUB_FORCED w f 1).getLofts (fieldKey w f)).copies := by rwa [hcount.getLofts (by decide +kernel)]
  refine ⟨(spareCopy_spares es hstill hcopied).after_bump (by decide), ?_⟩
  rw [(spareCopy_keeps ..).rd LOFT_SCRUB_FORCED _ _ (by decide) (by decide +kernel), State.rd_bump_same _ _ _ _ _ (by decide) (by decide)]

theorem completes_rowSpareForced {w : WaferId} {f : FieldId} {row : BitVec 21} (es : List Ecc) (hscrubs : s.scrubs w f = true)
    (hcopy : row.toNat ∈ (s.getLofts (fieldKey w f)).copies) : Completes (.rowSpareForced w f row es) s fun t =>
      Spared w f row.toNat s t ∧ t.rd LOFT_SCRUB_FORCED w f = satAdd LOFT_SCRUB_FORCED.width (s.rd LOFT_SCRUB_FORCED w f) 1 :=
  ⟨_, congrArg Host.Outcome.next (if_pos (by simp [hscrubs, hcopy])), spareForced_spares es hscrubs hcopy⟩

end Sparing

end Sys2Proof.Machine
end

section
/-!
PROOF. The host's aperture: what an access within one line reads, writes and reports (R347, R349, R358, R359, R576).
-/
set_option Elab.async false
namespace Sys2Proof.Machine

/-! ## Failed accesses (R359) -/

/-- A failed access of the aperture is raised, and stands in the capture where that was free in `s`. -/
structure ApertureFailed (w off reason : Nat) (write : Bool) (s t : State) : Prop where
  raised : t.leafSet w Leaf.aptErr = true
  valid : t.rd HIF_APT_CAP_VALID w 0 = 1
  captured : s.rd HIF_APT_CAP_VALID w 0 = 0 → t.rd HIF_APT_CAP_OFFSET w 0 = off ∧ t.rd HIF_APT_CAP_REASON w 0 = reason ∧ t.rd HIF_APT_CAP_WRITE w 0 = b2n write

/-- The first failed access is captured. -/
def apertureCaptured (w off reason : Nat) (write : Bool) (s : State) : State :=
  if s.rd HIF_APT_CAP_VALID w 0 = 1 then s
  else (((s.wr HIF_APT_CAP_OFFSET w 0 off).wr HIF_APT_CAP_WRITE w 0 (b2n write)).wr HIF_APT_CAP_REASON w 0 reason).wr HIF_APT_CAP_VALID w 0 1

theorem apertureError_eq (w off reason : Nat) (write : Bool) (s : State) : apertureError w off reason write s = (apertureCaptured w off reason write s).raise w Leaf.aptErr := rfl

theorem apertureCaptured_valid (w off reason : Nat) (write : Bool) (s : State) : (apertureCaptured w off reason write s).rd HIF_APT_CAP_VALID w 0 = 1 := by
  unfold apertureCaptured
  split
  · assumption
  · rw [State.rd_wr_same _ _ _ _ _ (by decide) (by decide)]
    rfl

theorem apertureCaptured_fields {w off reason : Nat} {write : Bool} {s : State} (hoff : off < 2 ^ 36) (hreason : reason < 4) (hfree : s.rd HIF_APT_CAP_VALID w 0 = 0) :
    (apertureCaptured w off reason write s).rd HIF_APT_CAP_OFFSET w 0 = off ∧ (apertureCaptured w off reason write s).rd HIF_APT_CAP_REASON w 0 = reason ∧
      (apertureCaptured w off reason write s).rd HIF_APT_CAP_WRITE w 0 = b2n write := by
  rw [apertureCaptured, if_neg (by omega)]
  refine ⟨?_, ?_, ?_⟩ <;> simp (disch := decide) only [State.rd_wr_field, State.rd_wr_same]
  · exact Nat.mod_eq_of_lt hoff
  · exact Nat.mod_eq_of_lt hreason
  · cases write <;> rfl

theorem apertureError_fails {w off reason : Nat} (hoff : off < 2 ^ 36) (hreason : reason < 4) (write : Bool) (s : State) :
    ApertureFailed w off reason write s (apertureError w off reason write s) := by
  have hraise := State.raise_keeps (apertureCaptured w off reason write s) w Leaf.aptErr
  rw [apertureError_eq]
  refine ⟨State.raise_sets _ w _ (by decide), (hraise.rd _ _ _ (by decide) (by decide +kernel)).trans (apertureCaptured_valid ..), fun hfree => ?_⟩
  rw [hraise.rd HIF_APT_CAP_OFFSET _ _ (by decide) (by decide +kernel), hraise.rd HIF_APT_CAP_REASON _ _ (by decide) (by decide +kernel),
    hraise.rd HIF_APT_CAP_WRITE _ _ (by decide) (by decide +kernel)]
  exact apertureCaptured_fields hoff hreason hfree

theorem apertureError_sameLofts (w off reason : Nat) (write : Bool) (s : State) : SameLofts s (apertureError w off reason write s) :=
  (apertureError_keeps ..).sameLofts (by decide +kernel)

section Failed
variable {w off reason : Nat} {write : Bool} {r s t : State}

/-- What is done before the failure leaves the capture as it was. -/
theorem ApertureFailed.after {m : Nat} (h : ApertureFailed w off reason write s t) (hbefore : Keeps m r s) (hm : m.testBit (64 + HIF_APT_CAP.id) = false) :
    ApertureFailed w off reason write r t :=
  ⟨h.raised, h.valid, fun hfree => h.captured ((hbefore.rd HIF_APT_CAP_VALID _ _ (by decide) hm).trans hfree)⟩

theorem ApertureFailed.emit (h : ApertureFailed w off reason write s t) (e : Emit) : ApertureFailed w off reason write s (t.emit e) := ⟨h.raised, h.valid, h.captured⟩

end Failed

/-! ## The line of an access -/

theorem linesOf_within {off n : Nat} (hn : n ≠ 0) (hline : off % 64 + n ≤ 64) : linesOf off n = [off / 64 * 64] := by
  rw [linesOf, if_neg hn, show (off + n - 1) / 64 - off / 64 + 1 = 1 by omega]
  rfl

/-- An access within one line is one piece. -/
theorem linePieces_within {off n : Nat} (hn : n ≠ 0) (hline : off % 64 + n ≤ 64) : linePieces off n = [(off, n)] := by
  rw [linePieces, linesOf_within hn hline, List.map_cons, List.map_nil, show max off (off / 64 * 64) = off by omega,
    show min (off + n) (off / 64 * 64 + 64) - off = n by omega]

/-- What an access within one line does, it does once, at its offset. -/
theorem forEach_linePieces {off n : Nat} (hn : n ≠ 0) (hline : off % 64 + n ≤ 64) (s : State) (g : (Nat × Nat) × Nat → State → State) :
    forEach (linePieces off n).zipIdx s g = g ((off, n), 0) s := by
  rw [linePieces_within hn hline]
  rfl

/-- The offsets of one line share its poison. -/
theorem State.poisoned_line (s : State) (w f : Nat) {a b : Nat} (h : a / 64 = b / 64) : s.poisoned w f a = s.poisoned w f b := by
  have hline : lineKey w f a = lineKey w f b := by
    unfold lineKey loftKey
    omega
  rw [State.poisoned, hline, State.poisoned]

/-- Where the aperture reaches a loft, it works, and the offset keeps its place in the line (R358, R359). -/
theorem State.apertureAt_ok {s : State} {w off f o : Nat} (h : s.apertureAt w off = .ok (f, o)) : s.loftDead w f = false ∧ o % 64 = off % 64 := by
  unfold State.apertureAt at h
  dsimp only at h
  split at h
  · cases h
  · split at h
    · cases h
    · next halive =>
      simp only [Except.ok.injEq, Prod.mk.injEq] at h
      obtain ⟨hf, ho⟩ := h
      subst hf
      rw [not_or, Bool.not_eq_true] at halive
      exact ⟨halive.1, by omega⟩

theorem State.apertureAt_error {s : State} {w off r : Nat} (h : s.apertureAt w off = .error r) : r < 2 := by
  unfold State.apertureAt at h
  dsimp only at h
  split at h
  · cases h
    decide
  · split at h
    · cases h
      decide
    · cases h

/-! ## Reads -/

section Reads
variable {w off n f o : Nat} {s : State} (hopen : s.apertureOpen w = true) (hn : n ≠ 0) (hline : off % 64 + n ≤ 64) (hwaits : s.apertureWaits w off n = false)
include hopen hn hline hwaits

theorem apertureRead_served : ¬(!s.apertureOpen w || n == 0 || decide (4096 < n) || s.apertureWaits w off n) = true := by
  simp [hopen, hn, hwaits]
  omega

theorem apertureRead_unreached {r : Nat} (e : Ecc) (hat : s.apertureAt w off = .error r) : apertureRead w off n e s =
    (apertureError w off r false s).emit (.completion w 0 (wordBytes (if r = 0 then 0xDEAD0BAD else 0xDEAD0FF0) off n)) := by
  rw [apertureRead, if_neg (apertureRead_served hopen hn hline hwaits), forEach_linePieces hn hline]
  simp only [hat]

variable (hat : s.apertureAt w off = .ok (f, o))
include hat

theorem apertureRead_poisoned (e : Ecc) (hpoison : s.poisoned w f o = true) :
    apertureRead w off n e s = (apertureError w off 2 false s).emit (.completion w 1 []) := by
  rw [apertureRead, if_neg (apertureRead_served hopen hn hline hwaits), forEach_linePieces hn hline]
  simp only [hat, hpoison, if_true]

theorem apertureRead_sound (hpoison : s.poisoned w f o = false) :
    apertureRead w off n .good s = (loftCountRead w f n s).emit (.completion w 0 (s.loftBytes w f o n)) := by
  rw [apertureRead, if_neg (apertureRead_served hopen hn hline hwaits), forEach_linePieces hn hline]
  simp only [hat, hpoison, eccAt, Bool.false_eq_true, if_false]

theorem apertureRead_bad (hpoison : s.poisoned w f o = false) : apertureRead w off n (.bad 0) s =
    (apertureError w off 2 false (loftUncorrectable w f (o / 64 * 64) 2 noPart s)).emit (.completion w 1 []) := by
  have hpoisons : (loftUncorrectable w f (o / 64 * 64) 2 noPart s).poisoned w f o = true :=
    (State.poisoned_line _ w f (by omega)).trans (loftUncorrectable_poisons w f (o / 64 * 64) 2 noPart s)
  rw [apertureRead, if_neg (apertureRead_served hopen hn hline hwaits), forEach_linePieces hn hline]
  simp only [hat, hpoison, hpoisons, eccAt, Bool.false_eq_true, if_false, if_true]

end Reads

/-! ## Bytes with their enables (R347) -/

/-- The enabled bytes of `bs` stand at an offset of a loft in `t`, and every other byte of every loft is as in `s`. -/
def WroteEnabled (w f o : Nat) (bs : List (Bool × Nat)) (s t : State) : Prop :=
  ∀ x, t.byteAt x = if (loftKey w f o ≤ x ∧ x < loftKey w f o + bs.length) ∧ (bs.getD (x - loftKey w f o) (false, 0)).1 = true then
    (bs.getD (x - loftKey w f o) (false, 0)).2 % 256 else s.byteAt x

/-- One byte of an access is written where it is enabled. -/
def writeEnabled (w f o : Nat) (b : (Bool × Nat) × Nat) (s : State) : State := if b.1.1 then loftWrite w f (o + b.2) [b.1.2] s else s

section Enabled
variable {w f : Nat}

theorem poisoned_writeLines {off : Nat} {bs : List Nat} (ls : List Nat) {s : State} (h : ∀ l ∈ ls, s.poisoned w f l = false) (a : Nat) :
    (forEach ls s (writeLine w f off bs)).poisoned w f a = s.poisoned w f a := by
  induction ls generalizing s with
  | nil => rfl
  | cons l ls ih =>
    obtain ⟨hl, hrest⟩ := List.forall_mem_cons.mp h
    exact (ih (s := writeLine w f off bs l s) fun k hk => (poisoned_writeLine hl k).trans (hrest k hk)).trans (poisoned_writeLine hl a)

/-- A write into a loft that works, line by line. -/
theorem loftWrite_alive {off : Nat} {bs : List Nat} {s : State} (halive : s.loftDead w f = false) : loftWrite w f off bs s =
    sourceHit w f off bs.length ((forEach (linesOf off bs.length) s (writeLine w f off bs)).incWrap LOFT_WR_BYTES_COUNT w f bs.length) := by
  rw [loftWrite, if_neg (by simp [halive])]

/-- What a write into a loft counts, and what it means for an image that is being checked, changes no byte and no poison. -/
theorem loftWrite_sameLofts {off : Nat} {bs : List Nat} {s : State} (halive : s.loftDead w f = false) :
    SameLofts (forEach (linesOf off bs.length) s (writeLine w f off bs)) (loftWrite w f off bs s) := by
  rw [loftWrite_alive halive]
  exact ((State.incWrap_keeps _ LOFT_WR_BYTES_COUNT w f bs.length).trans (sourceHit_keeps ..)).sameLofts (by decide +kernel)

theorem poisoned_loftWrite {off : Nat} {bs : List Nat} {s : State} (halive : s.loftDead w f = false) (hsound : ∀ i < bs.length, s.poisoned w f (off + i) = false) (a : Nat) :
    (loftWrite w f off bs s).poisoned w f a = s.poisoned w f a :=
  ((loftWrite_sameLofts halive).2 w f a).trans (poisoned_writeLines _ (poisoned_linesOf hsound) a)

theorem loftDead_loftWrite (off : Nat) (bs : List Nat) (s : State) : (loftWrite w f off bs s).loftDead w f = s.loftDead w f := by
  rw [State.loftDead, (loftWrite_keeps ..).rd _ _ _ (by decide) (by decide +kernel), State.loftDead]

/-- A write of bytes that are all enabled. -/
theorem wroteEnabled_loftWrite {o : Nat} {bs : List (Bool × Nat)} {s : State} (halive : s.loftDead w f = false) (hsound : ∀ i < bs.length, s.poisoned w f (o + i) = false)
    (hall : ∀ b ∈ bs, b.1 = true) : WroteEnabled w f o bs s (loftWrite w f o (bs.map fun b => b.2) s) := by
  intro x
  rw [byteAt_loftWrite halive (by simpa using hsound), List.length_map]
  by_cases hin : loftKey w f o ≤ x ∧ x < loftKey w f o + bs.length
  · have hlt : x - loftKey w f o < bs.length := by omega
    rw [if_pos hin, List.getD_eq_getElem _ _ (by simpa using hlt), List.getD_eq_getElem _ _ hlt, if_pos ⟨hin, hall _ (List.getElem_mem hlt)⟩, List.getElem_map]
  · rw [if_neg hin, if_neg fun h => hin h.1]

theorem writeEnabled_step {o n : Nat} {b : Bool × Nat} {s : State} (halive : s.loftDead w f = false) (hsound : s.poisoned w f (o + n) = false) :
    (writeEnabled w f o (b, n) s).loftDead w f = false ∧ (∀ a, (writeEnabled w f o (b, n) s).poisoned w f a = s.poisoned w f a) ∧
      ∀ x, (writeEnabled w f o (b, n) s).byteAt x = if x = loftKey w f o + n ∧ b.1 = true then b.2 % 256 else s.byteAt x := by
  obtain ⟨en, v⟩ := b
  have hone : ∀ i < [v].length, s.poisoned w f (o + n + i) = false := fun i hi => by
    obtain rfl : i = 0 := by simpa using hi
    exact hsound
  cases en with
  | false => exact ⟨halive, fun _ => rfl, fun x => by rw [if_neg (by simp)]; rfl⟩
  | true =>
    refine ⟨(loftDead_loftWrite ..).trans halive, poisoned_loftWrite halive hone, fun x => (byteAt_loftWrite halive hone x).trans ?_⟩
    rw [loftKey_add, List.length_singleton]
    by_cases hx : x = loftKey w f o + n
    · rw [if_pos (by omega), if_pos ⟨hx, rfl⟩, hx, Nat.sub_self, List.getD_cons_zero]
    · rw [if_neg (by omega), if_neg fun h => hx h.1]

/-- Bytes written one by one, each where it is enabled. -/
theorem byteAt_writeEnabled {o : Nat} (bs : List (Bool × Nat)) {n : Nat} {s : State} (halive : s.loftDead w f = false)
    (hsound : ∀ i < bs.length, s.poisoned w f (o + (n + i)) = false) (x : Nat) : (forEach (bs.zipIdx n) s (writeEnabled w f o)).byteAt x =
      if (loftKey w f o + n ≤ x ∧ x < loftKey w f o + n + bs.length) ∧ (bs.getD (x - (loftKey w f o + n)) (false, 0)).1 = true then
        (bs.getD (x - (loftKey w f o + n)) (false, 0)).2 % 256 else s.byteAt x := by
  induction bs generalizing n s with
  | nil => rw [if_neg (by simp)]; rfl
  | cons b bs ih =>
    obtain ⟨halive', hpoison', hbyte⟩ := writeEnabled_step (n := n) (b := b) halive (hsound 0 (by simp))
    have hrest := ih (n := n + 1) halive' fun i hi => (hpoison' _).trans (by simpa [Nat.add_assoc, Nat.add_comm 1 i] using hsound (i + 1) (by simpa using hi))
    rw [List.zipIdx_cons]
    refine hrest.trans ?_
    rw [hbyte, List.length_cons]
    by_cases hx : x = loftKey w f o + n
    · rw [if_neg (by omega), hx, Nat.sub_self, List.getD_cons_zero]
      simp
    · by_cases hin : loftKey w f o + (n + 1) ≤ x ∧ x < loftKey w f o + (n + 1) + bs.length
      · rw [show x - (loftKey w f o + n) = x - (loftKey w f o + (n + 1)) + 1 by omega, List.getD_cons_succ]
        simp only [hin, hx, true_and, false_and, if_false, show loftKey w f o + n ≤ x ∧ x < loftKey w f o + n + (bs.length + 1) by omega]
      · rw [if_neg fun h => hin h.1, if_neg fun h => hx h.1, if_neg (by omega)]

/-- A write of all 64 bytes of a poisoned line clears its poison and stores them (R349). -/
theorem loftWrite_clears {o : Nat} {bs : List Nat} {s : State} (halive : s.loftDead w f = false) (hlen : bs.length = 64) (ho : o % 64 = 0)
    (hpoison : s.poisoned w f o = true) (hbs : ∀ b ∈ bs, b < 256) :
    (loftWrite w f o bs s).poisoned w f o = false ∧ (loftWrite w f o bs s).loftBytes w f o 64 = bs := by
  obtain ⟨hbytes, hpoisons⟩ := loftWrite_sameLofts (off := o) (bs := bs) halive
  have hlines : forEach (linesOf o bs.length) s (writeLine w f o bs) = storeBytes w f o bs (s.withLoftPoison (s.loftPoison.filter fun k => k ≠ lineKey w f o)) := by
    rw [linesOf_within (by omega) (by omega), show o / 64 * 64 = o by omega]
    simp [forEach, writeLine, hpoison, hlen, List.take_of_length_le]
  rw [hlines] at hbytes hpoisons
  refine ⟨?_, List.ext_getElem (by simp [State.loftBytes, hlen]) fun i _ hi => ?_⟩
  · rw [hpoisons, poisoned_storeBytes]
    simp [State.poisoned]
  · have hread := hbytes w f (o + i)
    rw [State.loftByte_eq (storeBytes ..), byteAt_storeBytes, loftKey_add, if_pos (by omega), Nat.add_sub_cancel_left, List.getD_eq_getElem _ _ hi,
      Nat.mod_eq_of_lt (hbs _ (List.getElem_mem hi))] at hread
    simpa [State.loftBytes] using hread

end Enabled

/-! ## Writes -/

section Writes
variable {w off f o : Nat} {bs : List (Bool × Nat)} {s : State} (hopen : s.apertureOpen w = true) (hn : bs.length ≠ 0) (hline : off % 64 + bs.length ≤ 64)
  (hwaits : s.apertureWaits w off bs.length = false)
include hopen hn hline hwaits

omit hline in
theorem apertureWrite_served : ¬(!s.apertureOpen w || bs.isEmpty || s.apertureWaits w off bs.length) = true := by
  simp [hopen, hwaits, List.length_eq_zero_iff.not.mp hn]

theorem apertureWrite_unreached {r : Nat} (e : Ecc) (hat : s.apertureAt w off = .error r) : apertureWrite w off bs e s = apertureError w off r true s := by
  rw [apertureWrite, if_neg (apertureWrite_served hopen hn hwaits), forEach_linePieces hn hline]
  simp only [hat]

variable (hat : s.apertureAt w off = .ok (f, o))
include hat

/-- A write of a whole line, whatever stands there. -/
theorem apertureWrite_whole (e : Ecc) (hlen : bs.length = 64) (hall : ∀ b ∈ bs, b.1 = true) : apertureWrite w off bs e s = loftWrite w f o (bs.map fun b => b.2) s := by
  rw [apertureWrite, if_neg (apertureWrite_served hopen hn hwaits), forEach_linePieces hn hline]
  have hwhole : (bs.length == 64 && bs.all fun b => b.1) = true := by simpa [hlen] using hall
  simp only [hat, Nat.sub_self, List.drop_zero, List.take_length, hwhole, Bool.true_or, if_true]

variable (hpart : (bs.length == 64 && bs.all fun b => b.1) = false)
include hpart

/-- A partial write into a poisoned line is discarded and counted (R349). -/
theorem apertureWrite_discarded (e : Ecc) (hpoison : s.poisoned w f o = true) :
    apertureWrite w off bs e s = apertureError w off 2 true (s.bump LOFT_EVENTS_POISON_WR w f 1) := by
  rw [apertureWrite, if_neg (apertureWrite_served hopen hn hwaits), forEach_linePieces hn hline]
  simp only [hat, Nat.sub_self, List.drop_zero, List.take_length, hpart, hpoison, Bool.false_or,
    Bool.false_eq_true, if_false, if_true]

/-- A partial write into a sound line writes its enabled bytes. -/
theorem apertureWrite_partial (hpoison : s.poisoned w f o = false) : apertureWrite w off bs .good s = forEach bs.zipIdx s (writeEnabled w f o) := by
  rw [apertureWrite, if_neg (apertureWrite_served hopen hn hwaits), forEach_linePieces hn hline]
  simp only [hat, Nat.sub_self, List.drop_zero, List.take_length, hpart, hpoison, eccAt,
    Bool.false_or, Bool.false_eq_true, if_false]
  rfl

omit hpart in
/-- A write into a sound line, whole or partial, leaves its enabled bytes there. -/
theorem apertureWrite_enabled (hpoison : s.poisoned w f o = false) : WroteEnabled w f o bs s (apertureWrite w off bs .good s) := by
  obtain ⟨halive, hplace⟩ := s.apertureAt_ok hat
  have hsound : ∀ i < bs.length, s.poisoned w f (o + i) = false := fun i hi => (s.poisoned_line w f (by omega)).trans hpoison
  cases hpart : bs.length == 64 && bs.all fun b => b.1 with
  | true =>
    obtain ⟨hlen, hall⟩ : bs.length = 64 ∧ ∀ b ∈ bs, b.1 = true := by simpa using hpart
    rw [apertureWrite_whole hopen hn hline hwaits hat .good hlen hall]
    exact wroteEnabled_loftWrite halive hsound hall
  | false =>
    rw [apertureWrite_partial hopen hn hline hwaits hat hpart hpoison]
    intro x
    have hbytes := byteAt_writeEnabled bs (n := 0) halive (by simpa using hsound) x
    rwa [Nat.add_zero] at hbytes

end Writes

/-- A byte reads as it was written where it was enabled, and every key apart from the bytes of the access holds what it held. -/
theorem WroteEnabled.bytes {w f o : Nat} {bs : List (Bool × Byte)} {s t : State} (h : WroteEnabled w f o (bs.map fun b => (b.1, b.2.toNat)) s t) :
    (∀ (i : Nat) (hi : i < bs.length), t.loftByte w f (o + i) = if bs[i].1 then bs[i].2.toNat else s.loftByte w f (o + i)) ∧
      ∀ k, (∀ i < bs.length, k ≠ loftKey w f (o + i)) → mget 0 t.loft k = mget 0 s.loft k := by
  refine ⟨fun i hi => ?_, fun k hk => BitVec.eq_of_toNat_eq ((h k).trans (if_neg fun hin => ?_))⟩
  · have hread := h (loftKey w f o + i)
    rw [Nat.add_sub_cancel_left, List.getD_eq_getElem _ _ (by simpa using hi), List.getElem_map] at hread
    rw [State.loftByte_eq, State.loftByte_eq, loftKey_add, hread]
    simp only [List.length_map, Nat.le_add_right, Nat.add_lt_add_iff_left, hi, true_and, Nat.mod_eq_of_lt bs[i].2.isLt]
  · obtain ⟨⟨hlo, hhi⟩, -⟩ := hin
    rw [List.length_map] at hhi
    exact hk (k - loftKey w f o) (by omega) (by rw [loftKey_add]; omega)

/-! ## The commands -/

section Commands
variable {w : WaferId} {off : BitVec 36} {n : BitVec 13} {bs : List (Bool × Byte)} {s : State} (hopen : s.apertureOpen w = true) (hn : n.toNat ≠ 0)
  (hline : off.toNat % 64 + n.toNat ≤ 64) (hwaits : s.apertureWaits w off.toNat n.toNat = false)

/-- The bytes of a write with their enables, as numbers. -/
def enabledBytes (bs : List (Bool × Byte)) : List (Bool × Nat) := bs.map fun b => (b.1, b.2.toNat)

theorem enabledBytes_length (bs : List (Bool × Byte)) : (enabledBytes bs).length = bs.length := List.length_map ..

include hopen hn hline hwaits

theorem completes_apertureRead_unreached (e : Ecc) {r : Nat} (hat : s.apertureAt w off.toNat = .error r) : Completes (.apertureRead w off n e) s fun t =>
    ApertureFailed w off.toNat r false s t ∧ SameLofts s t ∧
      t.out.head? = some (.completion w 0 (wordBytes (if r = 0 then 0xDEAD0BAD else 0xDEAD0FF0) off.toNat n.toNat)) :=
  ⟨_, congrArg Host.Outcome.next (apertureRead_unreached hopen hn hline hwaits e hat),
    (apertureError_fails off.isLt (by have := s.apertureAt_error hat; omega) false s).emit _, apertureError_sameLofts .., rfl⟩

section Reached
variable {f o : Nat} (hat : s.apertureAt w off.toNat = .ok (f, o))
include hat

theorem completes_apertureRead_poisoned (e : Ecc) (hpoison : s.poisoned w f o = true) : Completes (.apertureRead w off n e) s fun t =>
    ApertureFailed w off.toNat 2 false s t ∧ SameLofts s t ∧ t.out.head? = some (.completion w 1 []) :=
  ⟨_, congrArg Host.Outcome.next (apertureRead_poisoned hopen hn hline hwaits hat e hpoison), (apertureError_fails off.isLt (by decide) false s).emit _,
    apertureError_sameLofts .., rfl⟩

theorem completes_apertureRead_sound (hpoison : s.poisoned w f o = false) : Completes (.apertureRead w off n .good) s fun t =>
    SameLofts s t ∧ t.out = .completion w 0 (s.loftBytes w f o n.toNat) :: s.out :=
  ⟨_, congrArg Host.Outcome.next (apertureRead_sound hopen hn hline hwaits hat hpoison), (loftCountRead_keeps w f n.toNat s).sameLofts (by decide +kernel), rfl⟩

/-- A line found uncorrectable by a read is poisoned, and the read fails (R349). -/
theorem completes_apertureRead_bad (hpoison : s.poisoned w f o = false) : Completes (.apertureRead w off n (.bad 0)) s fun t =>
    t.poisoned w f o = true ∧ ApertureFailed w off.toNat 2 false s t := by
  refine ⟨_, congrArg Host.Outcome.next (apertureRead_bad hopen hn hline hwaits hat hpoison), ?_, ?_⟩
  · exact ((apertureError_sameLofts ..).2 w f o).trans ((State.poisoned_line _ w f (by omega)).trans (loftUncorrectable_poisons w f (o / 64 * 64) 2 noPart s))
  · exact ((apertureError_fails off.isLt (by decide) false _).after (loftUncorrectable_keeps ..) (by decide +kernel)).emit _

end Reached

end Commands

section WriteCommands
variable {w : WaferId} {off : BitVec 36} {bs : List (Bool × Byte)} {s : State} (hopen : s.apertureOpen w = true) (hn : (enabledBytes bs).length ≠ 0)
  (hline : off.toNat % 64 + (enabledBytes bs).length ≤ 64) (hwaits : s.apertureWaits w off.toNat (enabledBytes bs).length = false)
include hopen hn hline hwaits

theorem completes_apertureWrite_unreached (e : Ecc) {r : Nat} (hat : s.apertureAt w off.toNat = .error r) : Completes (.apertureWrite w off bs e) s fun t =>
    ApertureFailed w off.toNat r true s t ∧ SameLofts s t :=
  ⟨_, congrArg Host.Outcome.next (apertureWrite_unreached hopen hn hline hwaits e hat), apertureError_fails off.isLt (by have := s.apertureAt_error hat; omega) true s,
    apertureError_sameLofts ..⟩

variable {f o : Nat} (hat : s.apertureAt w off.toNat = .ok (f, o))
include hat

theorem completes_apertureWrite_discarded (e : Ecc) (hpart : bs.length ≠ 64 ∨ ∃ b ∈ bs, b.1 = false) (hpoison : s.poisoned w f o = true) :
    Completes (.apertureWrite w off bs e) s fun t => ApertureFailed w off.toNat 2 true s t ∧ SameLofts s t ∧
      t.rd LOFT_EVENTS_POISON_WR w f = satAdd LOFT_EVENTS_POISON_WR.width (s.rd LOFT_EVENTS_POISON_WR w f) 1 := by
  have hcount := s.bump_keeps LOFT_EVENTS_POISON_WR w f 1
  have hpartial : ((enabledBytes bs).length == 64 && (enabledBytes bs).all fun b => b.1) = false := by
    rw [Bool.and_eq_false_iff, beq_eq_false_iff_ne, enabledBytes_length]
    simpa [enabledBytes] using hpart
  refine ⟨_, congrArg Host.Outcome.next (apertureWrite_discarded hopen hn hline hwaits hat hpartial e hpoison),
    (apertureError_fails off.isLt (by decide) true _).after hcount (by decide +kernel), (hcount.trans (apertureError_keeps ..)).sameLofts (by decide +kernel), ?_⟩
  rw [(apertureError_keeps ..).rd _ _ _ (by decide) (by decide +kernel), State.rd_bump_same _ _ _ _ _ (by decide) (by decide)]

theorem completes_apertureWrite_clears (e : Ecc) (hlen : bs.length = 64) (hall : ∀ b ∈ bs, b.1 = true) (hpoison : s.poisoned w f o = true) :
    Completes (.apertureWrite w off bs e) s fun t => t.poisoned w f o = false ∧ t.loftBytes w f o 64 = bs.map fun b => b.2.toNat := by
  obtain ⟨halive, hplace⟩ := s.apertureAt_ok hat
  have hlength := enabledBytes_length bs
  have hwhole := apertureWrite_whole hopen hn hline hwaits hat e (hlength.trans hlen) (by simpa [enabledBytes] using hall)
  have hvalues : (enabledBytes bs).map (fun b => b.2) = bs.map fun b => b.2.toNat := List.map_map ..
  rw [hvalues] at hwhole
  refine ⟨_, congrArg Host.Outcome.next hwhole, loftWrite_clears halive (by simpa using hlen) (by omega) hpoison fun b hb => ?_⟩
  obtain ⟨x, -, rfl⟩ := List.mem_map.mp hb
  exact x.2.isLt

theorem completes_apertureWrite_sound (hpoison : s.poisoned w f o = false) : Completes (.apertureWrite w off bs .good) s (WroteEnabled w f o (enabledBytes bs) s) :=
  ⟨_, rfl, apertureWrite_enabled hopen hn hline hwaits hat hpoison⟩

end WriteCommands

end Sys2Proof.Machine

open Sys2Proof Sys2Proof.Machine

/-- Settles O45: an arbiter grants the request that its order puts first, a scrubber and the copy of a row change the loft's record beside what their errors note, and an access
of the aperture within one line is one piece, which fails, reads or writes as its line allows. -/
theorem loftUpkeepAndAperture : Obligations.LoftUpkeepAndAperture := by
  refine ⟨fun w f s hon => ⟨fun ch rs hrs => ?_, fun halive bank b hb => ?_, fun halive row es r hr hcopy => ?_⟩, fun w off n bs s hopen hlen hn hline hwaits => ?_⟩
  · obtain ⟨r, hr, hwinner, haged, hrank⟩ := s.pchWinner_spec w (s.getPchs (fieldKey w f * 32 + ch)).last hrs
    exact ⟨_, rfl, r, hr, pchArbitration_grants ch hon hwinner, haged, fun hnone x hx => State.pchRank_le (hrank hnone x hx)⟩
  · have hscrubs := State.scrubs_of hon halive
    subst hb
    exact ⟨fun e => completes_loftScrubRead hscrubs bank e, fun es hroom => completes_scrubForcedSlot hscrubs es hroom, fun hnew => ⟨_, rfl, scrubLate_shown hscrubs hnew⟩⟩
  · have hscrubs := State.scrubs_of hon halive
    subst hr
    obtain ⟨hbank, hcopied, hserved, hused, hraised⟩ := spareCopy_spares es hscrubs hcopy
    refine ⟨⟨_, rfl, hbank, hcopied, hserved, hused, hraised⟩, (completes_rowSpareForced es hscrubs hcopy).imp fun t ⟨hspared, hcount⟩ => ⟨?_, hcount⟩⟩
    obtain ⟨hbank, hcopied, hserved, hused, hraised⟩ := hspared
    exact ⟨hbank, hcopied, hserved, hused, hraised⟩
  · intro failed
    have hfailed : ∀ {reason write t}, ApertureFailed w off.toNat reason write s t → failed reason write t :=
      fun ⟨hraised, hvalid, hcaptured⟩ => ⟨hraised, hvalid, hcaptured⟩
    have hn' : n.toNat ≠ 0 := fun h => hn (BitVec.eq_of_toNat_eq h)
    have hbytes : (enabledBytes bs).length = n.toNat := (enabledBytes_length bs).trans hlen
    have hwn := hbytes ▸ hn'
    have hwline := hbytes ▸ hline
    have hwwaits := hbytes ▸ hwaits
    refine ⟨fun r hat => ⟨fun e => ?_, fun e => ?_⟩, fun f o hat hpoison => ⟨fun e => ?_, fun e hpart => ?_, fun e h64 hall => ?_⟩,
      fun f o hat hpoison => ⟨?_, ?_, ?_⟩⟩
    · exact (completes_apertureRead_unreached hopen hn' hline hwaits e hat).imp fun t ⟨hf, hrest⟩ => ⟨hfailed hf, hrest⟩
    · exact (completes_apertureWrite_unreached hopen hwn hwline hwwaits e hat).imp fun t ⟨hf, hsame⟩ => ⟨hfailed hf, hsame⟩
    · exact (completes_apertureRead_poisoned hopen hn' hline hwaits hat e hpoison).imp fun t ⟨hf, hrest⟩ => ⟨hfailed hf, hrest⟩
    · exact (completes_apertureWrite_discarded hopen hwn hwline hwwaits hat e hpart hpoison).imp fun t ⟨hf, hrest⟩ => ⟨hfailed hf, hrest⟩
    · exact completes_apertureWrite_clears hopen hwn hwline hwwaits hat e h64 hall hpoison
    · exact completes_apertureRead_sound hopen hn' hline hwaits hat hpoison
    · refine (completes_apertureWrite_sound hopen hwn hwline hwwaits hat hpoison).imp fun t ht => ?_
      obtain ⟨hin, hout⟩ := ht.bytes
      refine ⟨fun i hi => ?_, hout⟩
      rw [hin i hi, List.getElem?_eq_getElem hi]
      obtain ⟨en, b⟩ := bs[i]
      cases en <;> rfl
    · exact (completes_apertureRead_bad hopen hn' hline hwaits hat hpoison).imp fun t ⟨hp, hf⟩ => ⟨hp, hfailed hf⟩

end

section
/-!
SUPPORT. What reading a partition comes to after a write of its record or of registers, and which of its facts an operation leaves as they are (R372-R384).
-/
set_option Elab.async false
namespace Sys2Proof.Machine

/-! ## The record of a partition -/

@[simp] theorem State.part_modPart (s : State) (w p : Nat) (g : Part → Part) : (s.modPart w p g).part w p = g (s.part w p) := by
  simp [State.part, State.modPart]

@[simp] theorem State.part_wr (s : State) (y : Fld) (w i v x p : Nat) : (s.wr y w i v).part x p = s.part x p := rfl

@[simp] theorem State.reg_modPart (s : State) (w p : Nat) (g : Part → Part) (r : Reg) (x i : Nat) : (s.modPart w p g).reg r x i = s.reg r x i := rfl

@[simp] theorem State.rd_modPart (s : State) (w p : Nat) (g : Part → Part) (y : Fld) (x i : Nat) : (s.modPart w p g).rd y x i = s.rd y x i := rfl

@[simp] theorem State.core_modPart (s : State) (w p : Nat) (g : Part → Part) (x f u : Nat) : (s.modPart w p g).core x f u = s.core x f u := rfl

@[simp] theorem State.niQueue_modPart (s : State) (w p : Nat) (g : Part → Part) (x f r : Nat) : (s.modPart w p g).niQueue x f r = s.niQueue x f r := rfl

@[simp] theorem State.leafSet_modPart (s : State) (w p : Nat) (g : Part → Part) (x : Nat) (l : Leaf) : (s.modPart w p g).leafSet x l = s.leafSet x l := rfl

/-- A change that leaves a component of every record leaves it wherever it is read. -/
theorem State.part_modPart_component {α : Type} (s : State) (w p x r : Nat) {g : Part → Part} {c : Part → α} (h : ∀ y, c (g y) = c y) :
    c ((s.modPart w p g).part x r) = c (s.part x r) := by
  simp only [State.part, State.modPart, State.getParts_putParts]
  split
  · rename_i hkey
    rw [hkey]
    exact h _
  · rfl

/-! ## What an operation leaves -/

section
variable {m : Nat} {s t : State} (h : Keeps m s t)
include h

theorem Keeps.part (hm : m.testBit 10 = false) (w p : Nat) : t.part w p = s.part w p := h.getParts hm _

theorem Keeps.core (hm : m.testBit 9 = false) (w f u : Nat) : t.core w f u = s.core w f u := h.getCores hm _

theorem Keeps.results_eq (hm : m.testBit 11 = false) (w p q : Nat) : t.results w p q = s.results w p q := h.getResults hm _

theorem Keeps.slot (hm : m.testBit 12 = false) (w p n : Nat) : t.slot w p n = s.slot w p n := h.getSeSlots hm _

theorem Keeps.slots_eq (hm : m.testBit 12 = false) (w p : Nat) : t.slots w p = s.slots w p := by
  unfold State.slots
  rw [h.seSlots hm]

theorem Keeps.niQueue (hm : m.testBit 19 = false) (w f r : Nat) : t.niQueue w f r = s.niQueue w f r := by
  unfold State.niQueue
  rw [h.getInjects hm]

theorem Keeps.partState (hm : m.testBit (64 + PRT_STAT.id) = false) (w p : Nat) : t.partState w p = s.partState w p := h.rd PRT_STAT_STATE w p (by decide) hm

theorem Keeps.isLead (hm : m.testBit (64 + PRT_DEF.id) = false) (w p : Nat) : t.isLead w p = s.isLead w p := by
  unfold State.isLead
  rw [h.rd PRT_DEF_LEAD_SLOT w p (by decide) hm]

theorem Keeps.defined (hm : m.testBit (64 + PRT_DEF.id) = false) (w p : Nat) : t.defined w p = s.defined w p := by
  unfold State.defined
  rw [h.rd PRT_DEF_VALID w p (by decide) hm]

theorem Keeps.peersOf (hm : m.testBit (64 + PRT_DEF.id) = false) (w p : Nat) : t.peersOf w p = s.peersOf w p := by
  have hjob := fun x r => h.rd PRT_DEF_JOB_ID x r (by decide) hm
  have hlead := fun x r => h.rd PRT_DEF_LEAD_SLOT x r (by decide) hm
  simp only [State.peersOf, hjob, hlead, h.defined hm]

theorem Keeps.leadOf (hm : m.testBit (64 + PRT_DEF.id) = false) (w p : Nat) : t.leadOf w p = s.leadOf w p := by
  simp only [State.leadOf, h.isLead hm, h.peersOf hm, h.rd PRT_DEF_LEAD_SLOT _ _ (by decide) hm]

theorem Keeps.quadOf_live (hm : m.testBit (64 + PRT_QMASK.id) = false) (w p q : Nat) : t.quadOf false w p q = s.quadOf false w p q := by
  simp only [State.quadOf, Bool.false_eq_true, if_false, h.regs PRT_QMASK _ _ (by decide) hm]

theorem Keeps.quads (hm : m.testBit (64 + PRT_QMASK.id) = false) (w p : Nat) : t.quads w p = s.quads w p := by
  simp only [State.quads, h.quadOf_live hm]

theorem Keeps.home (hm : m.testBit (64 + PRT_QMASK.id) = false) (w p : Nat) : t.home w p = s.home w p := by
  simp only [State.home, State.fields, State.fieldInPart, h.quadOf_live hm]

end

/-! ## The state of a partition, and its leaves -/

/-- A partition shows the state that it is given (R375). -/
theorem State.partState_setPartState (s : State) (w p : Nat) {st : Nat} (h : st < 8) : (s.setPartState w p st).partState w p = st := by
  have hfield : ∀ (t : State) (y : Fld) (v : Nat), y.reg = PRT_STAT → PRT_STAT_STATE.hi < y.lo → y.lo ≤ y.hi → (t.wr y w p v).rd PRT_STAT_STATE w p = t.rd PRT_STAT_STATE w p :=
    fun t y v hy hlo hle => t.rd_wr_field _ _ _ _ _ hy.symm hle (by decide) (.inl hlo)
  have hshown : ((((s.wr PRT_STAT_STATE w p st).wr PRT_STAT_LEAD w p (b2n (s.isLead w p))).wr PRT_STAT_HOME w p (s.home w p))).rd PRT_STAT_STATE w p = st := by
    rw [hfield _ _ _ rfl (by decide) (by decide), hfield _ _ _ rfl (by decide) (by decide), State.rd_wr_same _ _ _ _ _ (by decide) (by decide)]
    exact Nat.mod_eq_of_lt h
  unfold State.setPartState State.partState
  dsimp only
  split
  all_goals rw [hfield _ _ _ rfl (by decide) (by decide), hfield _ _ _ rfl (by decide) (by decide), hshown]

theorem State.raiseP_sets (s : State) (w p : Nat) (l : Leaf) (hb : l.b < 64) : (s.raiseP w p l).leafSet w l = true := State.raise_sets _ w l hb

end Sys2Proof.Machine
end

section
/-!
PROOF. Semaphores and their arbiter (R391-R393).
-/
set_option Elab.async false
namespace Sys2Proof.Machine

theorem exec_mgmtTake (w : WaferId) (n : SemId) (src : BitVec 23) (spart : BitVec 9) (s : State) :
    exec (.mgmtTake w n src spart) s = .next (mgmtTake w n src.toNat spart.toNat s) := rfl

theorem exec_semaDecision (w : WaferId) (n : SemId) (s : State) : exec (.semaDecision w n) s = .next (semaDecision w n s) := rfl

theorem exec_semaTenureEnd (w : WaferId) (n : SemId) (s : State) :
    exec (.semaTenureEnd w n) s = .next (s.putSemas (semaKey w n) { s.getSemas (semaKey w n) with tenure := none }) := rfl

theorem exec_mgmtGrant (w : WaferId) (f : FieldId) (u : UnitId) (n : SemId) (slot : WaferId) (s : State) :
    exec (.mgmtGrant w f u n slot) s = .next (mgmtGrant w f u n slot s) := rfl

theorem exec_mgmtGive (w : WaferId) (n : SemId) (s : State) : exec (.mgmtGive w n) s = .next (semaAdd w n s) := rfl

theorem exec_mgmtConsume (w : WaferId) (n : SemId) (src : BitVec 23) (spart : BitVec 9) (s : State) :
    exec (.mgmtConsume w n src spart) s = .next (leaseEnd w n (semaPart (addrSlot src.toNat) spart.toNat) false s) := rfl

theorem exec_mgmtReturn (w : WaferId) (n : SemId) (src : BitVec 23) (spart : BitVec 9) (s : State) :
    exec (.mgmtReturn w n src spart) s = .next (leaseEnd w n (semaPart (addrSlot src.toNat) spart.toNat) true s) := rfl

/-! ## A semaphore's record and its registers -/

theorem State.getSemas_putSemas_same (s : State) (k : Nat) (m : Sema) : (s.putSemas k m).getSemas k = m := by
  rw [State.getSemas_putSemas, if_pos rfl]

theorem getSemas_semaSync (w n : Nat) (s : State) (k : Nat) : (semaSync w n s).getSemas k = s.getSemas k := (semaSync_keeps w n s).getSemas (by decide +kernel) k

theorem rd_semaSync (w n : Nat) (s : State) {y : Fld} (x i : Nat) (h : y.reg = SEM_VAL ∨ y.reg = SEM_TABLE) : (semaSync w n s).rd y x i = s.rd y x i := by
  refine (semaSync_keeps w n s).rd y x i ?_ ?_
  all_goals rcases h with h | h <;> rw [h] <;> decide +kernel

/-- SEM_STAT shows the TAKEs that wait, up to what its field can hold. -/
theorem semaSync_waiting (w n : Nat) (s : State) : (semaSync w n s).rd SEM_STAT_WAITING w n = min (s.getSemas (semaKey w n)).waiters.length 65535 := by
  unfold semaSync State.wrSat
  dsimp only
  rw [State.rd_wr_field _ SEM_STAT_LEASED SEM_STAT_WAITING _ _ _ rfl (by decide) (by decide) (.inr (by decide)), State.rd_wr_same _ _ _ _ _ (by decide) (by decide)]
  exact Nat.mod_eq_of_lt (lt_of_le_of_lt (Nat.min_le_right _ _) (by decide))

/-- A unit more in COUNT, while it is not full (R391). -/
theorem semaAdd_of_lt {w n : Nat} {s : State} (h : s.rd SEM_VAL_COUNT w n < 65535) : semaAdd w n s = s.wr SEM_VAL_COUNT w n (s.rd SEM_VAL_COUNT w n + 1) :=
  if_pos (by omega)

theorem rd_semaAdd {w n : Nat} {s : State} (h : s.rd SEM_VAL_COUNT w n < 65535) : (semaAdd w n s).rd SEM_VAL_COUNT w n = s.rd SEM_VAL_COUNT w n + 1 := by
  rw [semaAdd_of_lt h, State.rd_wr_same _ _ _ _ _ (by decide) (by decide)]
  exact Nat.mod_eq_of_lt (show _ < 65536 by omega)

theorem getSemas_semaAdd {w n : Nat} {s : State} (h : s.rd SEM_VAL_COUNT w n < 65535) (k : Nat) : (semaAdd w n s).getSemas k = s.getSemas k := by
  rw [semaAdd_of_lt h]
  rfl

theorem semaCount_lt (s : State) (w n : Nat) : s.rd SEM_VAL_COUNT w n < 65536 := Nat.mod_lt _ (by decide)

theorem semaLeases_lt (s : State) (w : Nat) : s.rd SEM_TABLE_LEASES w 0 < 8192 := Nat.mod_lt _ (by decide)

/-! ## TAKE -/

/-- A TAKE that finds the lease table full is counted (R393). -/
def takeCounted (w : Nat) (s : State) : State := if 4096 ≤ s.rd SEM_TABLE_LEASES w 0 then s.bump SEM_TABLE_FULL_EVENTS w 0 1 else s

theorem takeCounted_rd (w : Nat) (s : State) : (takeCounted w s).rd SEM_TABLE_FULL_EVENTS w 0 =
    if 4096 ≤ s.rd SEM_TABLE_LEASES w 0 then satAdd SEM_TABLE_FULL_EVENTS.width (s.rd SEM_TABLE_FULL_EVENTS w 0) 1 else s.rd SEM_TABLE_FULL_EVENTS w 0 := by
  unfold takeCounted
  split
  · exact State.rd_bump_same _ _ _ _ _ (by decide) (by decide)
  · rfl

theorem takeCounted_keeps (w : Nat) (s : State) : Keeps (regBit SEM_TABLE) s (takeCounted w s) := .ite (State.bump_keeps s SEM_TABLE_FULL_EVENTS w 0 1) (.refl _ _)

theorem mgmtTake_eq (w n src spart : Nat) (s : State) : mgmtTake w n src spart s = semaSync w n ((takeCounted w s).putSemas (semaKey w n)
    { s.getSemas (semaKey w n) with waiters := (s.getSemas (semaKey w n)).waiters ++ [⟨semaPart (addrSlot src) spart, src, s.now⟩] }) := rfl

/-! ## Grants -/

/-- The state in which a grant has been recorded and is still to be sent (R391). -/
def semaGranted (w n : Nat) (x : Waiter) (s : State) : State :=
  let m := s.getSemas (semaKey w n)
  let count := s.rd SEM_VAL_COUNT w n - 1
  let s1 := (s.wr SEM_VAL_COUNT w n count).putSemas (semaKey w n) { m with
    waiters := m.waiters.erase x, leases := m.leases ++ [x.part]
    tenure := if ((m.waiters.erase x).any fun y => y.part = x.part) ∧ count ≠ 0 then some x.part else none }
  semaSync w n (s1.wr SEM_TABLE_LEASES w 0 (s1.rd SEM_TABLE_LEASES w 0 + 1))

theorem semaGrant_eq (w n : Nat) (x : Waiter) (s : State) : semaGrant w n x s = sendArbiter w x.core 0x11 0 (semOffset n) [] (semaGranted w n x s) := rfl

theorem semaGranted_keeps (w n : Nat) (x : Waiter) (s : State) : Keeps (0x2000 ||| regBit SEM_VAL ||| regBit SEM_TABLE ||| regBit SEM_STAT) s (semaGranted w n x s) :=
  .next (semaSync_keeps ..) (by decide +kernel) (.next (State.wr_keeps ..) (by decide +kernel) (.next (State.putSemas_keeps ..) (by decide +kernel)
    ((State.wr_keeps ..).widen (by decide +kernel))))

theorem getSemas_semaGranted (w n : Nat) (x : Waiter) (s : State) : let m := s.getSemas (semaKey w n)
    (semaGranted w n x s).getSemas (semaKey w n) = { m with
      waiters := m.waiters.erase x, leases := m.leases ++ [x.part]
      tenure := if ((m.waiters.erase x).any fun y => y.part = x.part) ∧ s.rd SEM_VAL_COUNT w n - 1 ≠ 0 then some x.part else none } := by
  unfold semaGranted
  dsimp only
  rw [getSemas_semaSync, State.getSemas_wr, State.getSemas_putSemas_same]

theorem count_semaGranted (w n : Nat) (x : Waiter) (s : State) : (semaGranted w n x s).rd SEM_VAL_COUNT w n = s.rd SEM_VAL_COUNT w n - 1 := by
  have hlt := semaCount_lt s w n
  unfold semaGranted
  dsimp only
  rw [rd_semaSync _ _ _ _ _ (.inl rfl), State.rd_wr_id _ _ _ _ _ _ _ _ (by decide), State.rd_putSemas, State.rd_wr_same _ _ _ _ _ (by decide) (by decide)]
  exact Nat.mod_eq_of_lt (show _ < 65536 by omega)

theorem leases_semaGranted (w n : Nat) (x : Waiter) {s : State} (h : s.rd SEM_TABLE_LEASES w 0 < 4096) :
    (semaGranted w n x s).rd SEM_TABLE_LEASES w 0 = s.rd SEM_TABLE_LEASES w 0 + 1 := by
  unfold semaGranted
  dsimp only
  rw [rd_semaSync _ _ _ _ _ (.inr rfl), State.rd_wr_same _ _ _ _ _ (by decide) (by decide), State.rd_putSemas, State.rd_wr_id _ _ _ _ _ _ _ _ (by decide)]
  exact Nat.mod_eq_of_lt (show _ < 8192 by omega)

/-- The message of a wafer's window arbiter (R391). -/
def arbiterMsg (s : State) (w dest kind val addr : Nat) (bs : List Nat) : Packet :=
  { typ := 13, cls := 3, dest := dest, src := s.arbiter w, spart := noPart, addr := addr, aux := kind + val * 256, payload := bs }

theorem niQueue_sendArbiter (w dest kind val addr : Nat) (bs : List Nat) (s : State) :
    let f := 82 + s.rd NET_SELF_HOST_FIELD w 0
    (sendArbiter w dest kind val addr bs s).niQueue w f noPart = s.niQueue w f noPart ++ [arbiterMsg s w dest kind val addr bs] :=
  niQueue_enqueue w _ (arbiterMsg s w dest kind val addr bs) s

/-- What a grant to `x` shows (R391, R392): one unit less, its lease, the tenure if others of its partition wait and a unit is left, and the message to its core. -/
def GrantShown (w n : Nat) (x : Waiter) (s t : State) : Prop :=
  let m := s.getSemas (semaKey w n)
  let f := 82 + s.rd NET_SELF_HOST_FIELD w 0
  t.rd SEM_VAL_COUNT w n = s.rd SEM_VAL_COUNT w n - 1 ∧ (t.getSemas (semaKey w n)).leases = m.leases ++ [x.part] ∧
    (t.getSemas (semaKey w n)).waiters = m.waiters.erase x ∧ t.rd SEM_TABLE_LEASES w 0 = s.rd SEM_TABLE_LEASES w 0 + 1 ∧
    (t.getSemas (semaKey w n)).tenure = (if (∃ y ∈ m.waiters.erase x, y.part = x.part) ∧ s.rd SEM_VAL_COUNT w n ≠ 1 then some x.part else none) ∧
    ∃ q, t.niQueue w f noPart = s.niQueue w f noPart ++ [q] ∧ q.dest = x.core ∧ q.aux = 0x11 ∧ q.addr = semOffset n

theorem semaGrant_shown {w n : Nat} (x : Waiter) {s : State} (hcount : s.rd SEM_VAL_COUNT w n ≠ 0) (hroom : s.rd SEM_TABLE_LEASES w 0 < 4096) :
    GrantShown w n x s (semaGrant w n x s) := by
  rw [semaGrant_eq]
  have hsend := sendArbiter_keeps w x.core 0x11 0 (semOffset n) [] (semaGranted w n x s)
  have hk := semaGranted_keeps w n x s
  have hsemas := (hsend.getSemas (by decide +kernel) (semaKey w n)).trans (getSemas_semaGranted w n x s)
  refine ⟨?_, congrArg Sema.leases hsemas, congrArg Sema.waiters hsemas, ?_, (congrArg Sema.tenure hsemas).trans ?_, ?_⟩
  · rw [hsend.rd _ _ _ (by decide) (by decide +kernel), count_semaGranted]
  · rw [hsend.rd _ _ _ (by decide) (by decide +kernel), leases_semaGranted w n x hroom]
  · have hone : s.rd SEM_VAL_COUNT w n - 1 ≠ 0 ↔ s.rd SEM_VAL_COUNT w n ≠ 1 := by omega
    simp only [List.any_eq_true, decide_eq_true_eq, hone]
  · have hqueue := niQueue_sendArbiter w x.core 0x11 0 (semOffset n) [] (semaGranted w n x s)
    dsimp only at hqueue
    rw [hk.rd NET_SELF_HOST_FIELD w 0 (by decide) (by decide +kernel), hk.niQueue (by decide +kernel)] at hqueue
    exact ⟨_, hqueue, rfl, rfl, rfl⟩

/-- The TAKE that a decision grants next (R392). -/
def State.semaNext (s : State) (w n : Nat) : Option Waiter :=
  match (s.getSemas (semaKey w n)).tenure with
  | some p => (s.getSemas (semaKey w n)).waiters.find? fun y => y.part == p
  | none => s.semaWinner (s.getSemas (semaKey w n)).waiters

theorem semaDecision_grants {w n : Nat} {x : Waiter} {s : State} (hcount : s.rd SEM_VAL_COUNT w n ≠ 0) (hroom : s.rd SEM_TABLE_LEASES w 0 < 4096)
    (hwait : (s.getSemas (semaKey w n)).waiters ≠ []) (hx : s.semaNext w n = some x) : semaDecision w n s = semaGrant w n x s := by
  have hany : ¬ (s.getSemas (semaKey w n)).waiters.isEmpty = true := by simpa using hwait
  unfold semaDecision
  dsimp only
  rw [if_neg hany, if_neg hcount, if_neg (not_le.mpr hroom)]
  change (match s.semaNext w n with | some x => semaGrant w n x s | none => _) = _
  rw [hx]

/-- A decision on an empty semaphore whose leases start no donation changes nothing. -/
theorem semaDecision_empty {w n : Nat} {s : State} (hcount : s.rd SEM_VAL_COUNT w n = 0) (hdonees : s.donees w n = []) : semaDecision w n s = s := by
  unfold semaDecision
  dsimp only
  rw [if_pos hcount, hdonees, forEach_nil]
  split <;> rfl

/-! ## A grant at its core -/

/-- A waiting TAKE completes with a lease of its core's command (R391). -/
def grantTaken (w f u p sem slot : Nat) (s : State) : State :=
  (openTokens w f u ((endWait w f u s).modPart w p fun x => { x with leases := x.leases ++ [slot * 1024 + sem] })).modCore w f u fun c => { c with pc := c.pc + 1 }

theorem mgmtGrant_taken {w f u p sem slot : Nat} {s : State} (hpart : (s.core w f u).part = some p) (hwait : (s.core w f u).wait = .sema sem slot)
    (hstep : (s.core w f u).stepping = false) : mgmtGrant w f u sem slot s = grantTaken w f u p sem slot s := by
  simp only [mgmtGrant, hpart, hwait, hstep, Option.isSome_some, and_self, if_true, Bool.false_eq_true, if_false]
  rfl

theorem core_grantTaken (w f u p sem slot : Nat) (s : State) :
    (grantTaken w f u p sem slot s).core w f u = { s.core w f u with wait := .none, pc := (s.core w f u).pc + 1 } := by
  rw [grantTaken, State.core_modCore, State.core_openTokens, State.core_modPart, core_endWait]

theorem part_grantTaken (w f u p sem slot : Nat) (s : State) :
    (grantTaken w f u p sem slot s).part w p = { s.part w p with leases := (s.part w p).leases ++ [slot * 1024 + sem] } := by
  rw [grantTaken, (State.modCore_keeps ..).part (by decide +kernel), (openTokens_keeps ..).part (by decide +kernel), State.part_modPart, (endWait_keeps ..).part (by decide +kernel)]

/-- A MGMT packet without payload (R146, R147). -/
def mgmtMsg (w f src dest spart kind val addr : Nat) (payload : List Nat) : Packet :=
  { typ := 13, cls := 3, dest := dest, src := physAddr w f src, spart := spart, addr := addr, aux := kind + val * 256, payload := payload }

theorem sendMgmt_empty (w f src dest spart kind val addr : Nat) (s : State) :
    sendMgmt w f src dest spart kind val addr [] s = enqueue w f (mgmtMsg w f src dest spart kind val addr []) s := rfl

/-- A grant that no core waits for is sent back (R391). -/
theorem mgmtGrant_returned {w f u p sem slot : Nat} {s : State} (hpart : (s.core w f u).part = some p) (hwait : (s.core w f u).wait ≠ .sema sem slot) :
    mgmtGrant w f u sem slot s = enqueue w f (mgmtMsg w f u (s.arbiter slot) p 0x14 0 (semOffset sem) []) s := by
  simp only [mgmtGrant, hpart, hwait, and_false, if_false]
  exact sendMgmt_empty ..

/-! ## The end of a lease -/

/-- The state after a lease of a partition has ended, before its unit goes back (R391). -/
def leaseGone (w n part : Nat) (s : State) : State :=
  let s1 := semaSync w n (s.putSemas (semaKey w n) { s.getSemas (semaKey w n) with leases := (s.getSemas (semaKey w n)).leases.erase part })
  s1.wr SEM_TABLE_LEASES w 0 (s1.rd SEM_TABLE_LEASES w 0 - 1)

theorem leaseEnd_eq {w n part : Nat} {s : State} (h : part ∈ (s.getSemas (semaKey w n)).leases) (back : Bool) :
    leaseEnd w n part back s = if back then semaAdd w n (leaseGone w n part s) else leaseGone w n part s :=
  if_pos (List.contains_iff_mem.mpr h)

theorem getSemas_leaseGone (w n part : Nat) (s : State) :
    (leaseGone w n part s).getSemas (semaKey w n) = { s.getSemas (semaKey w n) with leases := (s.getSemas (semaKey w n)).leases.erase part } := by
  unfold leaseGone
  dsimp only
  rw [State.getSemas_wr, getSemas_semaSync, State.getSemas_putSemas_same]

theorem count_leaseGone (w n part : Nat) (s : State) : (leaseGone w n part s).rd SEM_VAL_COUNT w n = s.rd SEM_VAL_COUNT w n := by
  unfold leaseGone
  dsimp only
  rw [State.rd_wr_id _ _ _ _ _ _ _ _ (by decide), rd_semaSync _ _ _ _ _ (.inl rfl), State.rd_putSemas]

theorem leases_leaseGone (w n part : Nat) (s : State) : (leaseGone w n part s).rd SEM_TABLE_LEASES w 0 = s.rd SEM_TABLE_LEASES w 0 - 1 := by
  have hlt := semaLeases_lt s w
  unfold leaseGone
  dsimp only
  rw [State.rd_wr_same _ _ _ _ _ (by decide) (by decide), rd_semaSync _ _ _ _ _ (.inr rfl), State.rd_putSemas]
  exact Nat.mod_eq_of_lt (show _ < 8192 by omega)

end Sys2Proof.Machine

open Sys2Proof Sys2Proof.Machine

/-- Settles O31: a TAKE is one waiter more, a decision one grant, and the rest is a lease or a unit more or less. -/
theorem semaphores : Obligations.Semaphores := by
  intro w n s m count
  refine ⟨fun src spart => ?_, fun x hcount hroom hwait hx => ?_, fun hcount hdonees => ⟨_, exec_semaDecision .., semaDecision_empty hcount hdonees⟩, ?_,
    fun f u slot => ⟨fun p hpart hwait hstep => ?_, fun p hpart hwait => ?_⟩, fun hcount => ?_, fun src spart => ?_⟩
  · have htable := (State.putSemas_keeps (takeCounted w s) (semaKey w n) { m with waiters := m.waiters ++ [⟨semaPart (addrSlot src.toNat) spart.toNat, src.toNat, s.now⟩] })
    refine ⟨_, exec_mgmtTake .., ?_, ?_, ?_, ?_⟩
    all_goals rw [mgmtTake_eq]
    · rw [getSemas_semaSync, State.getSemas_putSemas_same]
    · rw [rd_semaSync _ _ _ _ _ (.inl rfl), htable.rd _ _ _ (by decide) (by decide +kernel), (takeCounted_keeps w s).rd _ _ _ (by decide) (by decide +kernel)]
    · rw [semaSync_waiting, State.getSemas_putSemas_same, List.length_append, List.length_singleton]
    · rw [rd_semaSync _ _ _ _ _ (.inr rfl), htable.rd _ _ _ (by decide) (by decide +kernel), takeCounted_rd]
  · exact ⟨_, exec_semaDecision .., semaDecision_grants hcount hroom hwait hx ▸ semaGrant_shown x hcount hroom⟩
  · refine ⟨_, exec_semaTenureEnd .., ?_⟩
    dsimp only
    rw [State.getSemas_putSemas_same]
    exact ⟨rfl, rfl, rfl⟩
  · refine ⟨_, exec_mgmtGrant .., ?_⟩
    dsimp only
    rw [mgmtGrant_taken hpart hwait hstep, core_grantTaken, part_grantTaken]
    exact ⟨rfl, rfl, rfl⟩
  · refine ⟨_, exec_mgmtGrant .., ?_⟩
    dsimp only
    rw [mgmtGrant_returned hpart hwait]
    exact ⟨core_enqueue .., _, niQueue_enqueue .., rfl, rfl, rfl⟩
  · exact ⟨_, exec_mgmtGive .., rd_semaAdd hcount, getSemas_semaAdd hcount _⟩
  · intro part hlease
    refine ⟨⟨_, exec_mgmtConsume .., ?_⟩, fun hcount => ⟨_, exec_mgmtReturn .., ?_⟩⟩
    all_goals dsimp only
    · rw [leaseEnd_eq hlease, if_neg Bool.false_ne_true, getSemas_leaseGone]
      exact ⟨rfl, count_leaseGone .., leases_leaseGone ..⟩
    · have hlt : (leaseGone w n part s).rd SEM_VAL_COUNT w n < 65535 := by rw [count_leaseGone]; exact hcount
      rw [leaseEnd_eq hlease, if_pos rfl, getSemas_semaAdd hlt, getSemas_leaseGone, rd_semaAdd hlt, count_leaseGone, semaAdd_of_lt hlt, State.rd_wr_id _ _ _ _ _ _ _ _ (by decide)]
      exact ⟨rfl, rfl, leases_leaseGone ..⟩

end

section
/-!
SUPPORT. The slot table of a Serving Engine: which of a partition's slots are listed after a slot is written or freed (R387).
-/
set_option Elab.async false
namespace Sys2Proof.Machine

/-! ## Maps as lists -/

theorem mdel_eq_filter {α : Type} (m : List (Nat × α)) (k : Nat) : mdel m k = m.filter fun c => decide (c.1 ≠ k) := by
  induction m with
  | nil => rfl
  | cons c m ih =>
    obtain ⟨a, v⟩ := c
    by_cases h : a = k <;> simp [mdel, h, ih]

/-- An inserted pair that a filter keeps stands alone where the filter keeps no other. -/
theorem filter_mins_alone {α : Type} {q : Nat × α → Bool} {m : List (Nat × α)} {k : Nat} {v : α} (hq : q (k, v) = true) (hm : m.filter q = []) :
    (mins k v m).filter q = [(k, v)] := by
  induction m with
  | nil => simp [mins, hq]
  | cons c m ih =>
    have hc := List.filter_eq_nil_iff.mp hm c List.mem_cons_self
    have hrest : m.filter q = [] := by rwa [List.filter_cons_of_neg hc] at hm
    unfold mins
    split
    · rw [List.filter_cons_of_pos hq, hm]
    · rw [List.filter_cons_of_neg hc, ih hrest]

/-! ## Slots -/

theorem seKey_div (w p : Nat) {n : Nat} (h : n < 8192) : seKey w p n / 8192 = partKey w p := by
  unfold seKey
  omega

theorem seKey_mod (w p : Nat) {n : Nat} (h : n < 8192) : seKey w p n % 8192 = n := by
  unfold seKey
  omega

theorem State.slot_putSeSlots_same (s : State) (w p n : Nat) (x : SeSlot) : (s.putSeSlots (seKey w p n) x).slot w p n = x := by
  rw [State.slot, State.getSeSlots_putSeSlots, if_pos rfl]

theorem State.slots_lt {s : State} {w p : Nat} {x : Nat × SeSlot} (h : x ∈ s.slots w p) : x.1 < 8192 := by
  obtain ⟨c, -, rfl⟩ := List.mem_map.mp h
  exact Nat.mod_lt _ (by decide)

/-- A slot that becomes FREE is listed no longer, and every other one as before. -/
theorem State.slots_free (s : State) (w p : Nat) {n : Nat} (h : n < 8192) :
    (s.putSeSlots (seKey w p n) {}).slots w p = (s.slots w p).filter fun x => decide (x.1 ≠ n) := by
  have hmap : (s.putSeSlots (seKey w p n) {}).job.seSlots = s.job.seSlots.filter fun c => decide (c.1 ≠ seKey w p n) := by
    rw [← mdel_eq_filter]
    show mset ({} : SeSlot) s.job.seSlots (seKey w p n) {} = _
    exact if_pos rfl
  have hkey : ∀ k, k / 8192 = partKey w p → (k ≠ seKey w p n ↔ k % 8192 ≠ n) := fun k hk => not_congr ⟨fun e => e ▸ seKey_mod w p h, fun e => by
    unfold seKey
    omega⟩
  simp only [State.slots, hmap, List.filter_map, List.filter_filter]
  congr 1
  refine List.filter_congr fun c _ => ?_
  by_cases hc : c.1 / 8192 = partKey w p
  · simp [hc, hkey c.1 hc]
  · simp [beq_false_of_ne hc]

/-- A slot that is written while it alone is listed stays the only one. -/
theorem State.slots_put_alone {s : State} {w p n : Nat} {x y : SeSlot} (hs : s.slots w p = [(n, x)]) (hy : y ≠ {}) :
    (s.putSeSlots (seKey w p n) y).slots w p = [(n, y)] := by
  have hn : n < 8192 := State.slots_lt (s := s) (w := w) (p := p) (x := (n, x)) (by rw [hs]; exact List.mem_singleton_self _)
  have hmap : (s.putSeSlots (seKey w p n) y).job.seSlots = mins (seKey w p n) y (mdel s.job.seSlots (seKey w p n)) := if_neg hy
  have hrest : (mdel s.job.seSlots (seKey w p n)).filter (fun c => c.1 / 8192 == partKey w p) = [] := by
    have hfree := s.slots_free w p hn
    rw [hs, List.filter_cons_of_neg (by simp), List.filter_nil] at hfree
    exact List.map_eq_nil_iff.mp hfree
  unfold State.slots
  rw [hmap, filter_mins_alone (by simp [seKey_div w p hn]) hrest, List.map_cons, List.map_nil, seKey_mod w p hn]

/-- Freeing each slot of a list leaves the others listed. -/
theorem slots_forEach_free (w p : Nat) (xs : List (Nat × SeSlot)) (s : State) (h : ∀ x ∈ xs, x.1 < 8192) :
    (forEach xs s fun x t => t.putSeSlots (seKey w p x.1) {}).slots w p = (s.slots w p).filter fun y => decide (y.1 ∉ xs.map (·.1)) := by
  induction xs generalizing s with
  | nil => exact (List.filter_eq_self.mpr fun _ _ => by simp).symm
  | cons x xs ih =>
    obtain ⟨hx, hxs⟩ := List.forall_mem_cons.mp h
    refine (ih _ hxs).trans ?_
    rw [s.slots_free w p hx, List.filter_filter]
    refine List.filter_congr fun y _ => ?_
    simp only [List.map_cons, List.mem_cons, not_or, Bool.decide_and, Bool.and_comm]

/-- Freeing every listed slot leaves none. -/
theorem slots_all_free (w p : Nat) (s : State) : (forEach (s.slots w p) s fun x t => t.putSeSlots (seKey w p x.1) {}).slots w p = [] := by
  rw [slots_forEach_free w p _ s fun x hx => State.slots_lt hx]
  refine List.filter_eq_nil_iff.mpr fun y hy => ?_
  simp only [decide_eq_true_eq, not_not]
  exact List.mem_map_of_mem hy

end Sys2Proof.Machine
end

section
/-!
PROOF. Partition faults, the sequence reset and the curtain (R346, R375, R376, R395, R411).
-/
set_option Elab.async false
namespace Sys2Proof.Machine

theorem exec_faultFwd (w : WaferId) (p : PartId) (cause : BitVec 3) (s : State) : exec (.faultFwd w p cause) s = .next (faultForwarded w p cause.toNat s) := rfl

theorem exec_resetSeq (w : WaferId) (s : State) : exec (.resetSeq w) s = .next (resetSeq w (s.rd CQ_SEL_PART w 0) (s.rd CQ_SEL_QUEUE w 0) s) := rfl

theorem exec_curtain (w : WaferId) (p : PartId) (s : State) : exec (.curtain w p) s = .next (curtain w p s) := rfl

theorem exec_quarterZeroed (w : WaferId) (q : QuadId) (s : State) : exec (.quarterZeroed w q) s = .next (quarterZeroed w q s) := rfl

theorem exec_curtainDone (w : WaferId) (p : PartId) (s : State) : exec (.curtainDone w p) s = .next (curtainDone w p s) := rfl

/-! ## Partition faults -/

/-- A partition enters FAULTED with its cause (R376). -/
def faultEntered (w p cause : Nat) (s : State) : State := (s.setPartState w p 3).wr PRT_FAULT_CAUSE w p cause

/-- A fault ends a pre-emption that is past its cut (R445). -/
def preemptEnded (w p : Nat) (s : State) : State :=
  let pm := s.rd PMT_STAT_STATE w p
  if pm = 0 ∨ pm = 1 then s
  else (((s.wr PMT_STAT_STATE w p 0).wr PMT_STAT_LAST_END w p 7).wr PMT_STAT_CMD_SAVED w p 0).modPart w p fun x => { x with
    phase := .none, held := false, donating := false, savedCores := [] }

theorem enterFaulted_eq (w p cause : Nat) (s : State) :
    enterFaulted w p cause s = (preemptEnded w p (faultEntered w p cause (failLocal w p 6 s))).raiseP w p Leaf.partFault := rfl

theorem preemptEnded_keeps (w p : Nat) (s : State) : Keeps (0x400 ||| regBit PMT_STAT) s (preemptEnded w p s) := by
  have hwr : ∀ (t : State) (y : Fld) (v : Nat), y.reg = PMT_STAT → Keeps (regBit PMT_STAT) t (t.wr y w p v) := fun t y v hy => hy ▸ t.wr_keeps y w p v
  unfold preemptEnded
  exact .ite (.refl _ _) (.next (State.modPart_keeps ..) (by decide +kernel) (.next (hwr _ PMT_STAT_CMD_SAVED _ rfl) (by decide +kernel)
    (.next (hwr _ PMT_STAT_LAST_END _ rfl) (by decide +kernel) ((hwr _ PMT_STAT_STATE _ rfl).widen (by decide +kernel)))))

/-- What a partition shows that has faulted (R376). -/
def FaultShown (w p cause : Nat) (t : State) : Prop := t.partState w p = 3 ∧ t.rd PRT_FAULT_CAUSE w p = cause ∧ t.leafSet w Leaf.partFault = true

theorem enterFaulted_shown (w p : Nat) {cause : Nat} (s : State) (h : cause < 8) : FaultShown w p cause (enterFaulted w p cause s) := by
  rw [enterFaulted_eq]
  generalize failLocal w p 6 s = s1
  have hend := preemptEnded_keeps w p (faultEntered w p cause s1)
  have hraise := (preemptEnded w p (faultEntered w p cause s1)).raiseP_keeps w p Leaf.partFault
  refine ⟨?_, ?_, State.raiseP_sets _ _ _ _ (by decide)⟩
  · rw [hraise.partState (by decide +kernel), hend.partState (by decide +kernel), faultEntered, ((s1.setPartState w p 3).wr_keeps ..).partState (by decide +kernel)]
    exact s1.partState_setPartState w p (by decide)
  · rw [hraise.rd _ _ _ (by decide) (by decide +kernel), hend.rd _ _ _ (by decide) (by decide +kernel), faultEntered, State.rd_wr_same _ _ _ _ _ (by decide) (by decide)]
    exact Nat.mod_eq_of_lt h

/-- A fault of an idle or running partition takes effect at once (R376). -/
theorem faultOne_of_active {w p : Nat} (cause : Nat) {s : State} (h : s.partState w p = 1 ∨ s.partState w p = 2) : faultOne w p cause s = enterFaulted w p cause s := by
  unfold faultOne
  dsimp only
  rw [if_neg (by omega), if_neg (by omega)]

theorem FaultShown.of_keeps {m w p cause : Nat} {s t : State} (hs : FaultShown w p cause s) (h : Keeps m s t) (hstat : m.testBit (64 + PRT_STAT.id) = false)
    (hfault : m.testBit (64 + PRT_FAULT.id) = false) (hcause : m.testBit (64 + ATN_CAUSE.id) = false) : FaultShown w p cause t := by
  obtain ⟨hstate, hshown, hleaf⟩ := hs
  exact ⟨(h.partState hstat w p).trans hstate, (h.rd PRT_FAULT_CAUSE w p (by decide) hfault).trans hshown, (State.leafSet_of_keeps h hcause w _).trans hleaf⟩

theorem faultForwarded_shown {w p cause : Nat} {s : State} (hcause : cause < 8) (hdef : s.defined w p = true) (h : s.partState w p = 1 ∨ s.partState w p = 2) :
    FaultShown w p (if s.isLead w p then 6 else cause) (faultForwarded w p cause s) := by
  cases hlead : s.isLead w p
  all_goals simp only [faultForwarded, hdef, hlead, Bool.not_true, Bool.false_eq_true, if_false, if_true, faultOne_of_active _ h]
  · exact enterFaulted_shown w p s hcause
  · exact (enterFaulted_shown w p s (by decide)).of_keeps (forEach_keeps (M := 0x80000) (fun x t => sendPeer_keeps ..) _ (.refl _ _)) (by decide +kernel) (by decide +kernel) (by decide +kernel)

/-! ## The sequence reset -/

theorem State.results_putResults_same (s : State) (w p q : Nat) (v : List (Nat × Nat)) : (s.putResults (resultKey w p q) v).results w p q = v := by
  rw [State.results, State.getResults_putResults, if_pos rfl]

theorem resetSeq_of_idle {w p q : Nat} {s : State} (hstate : s.partState w p = 1 ∨ s.partState w p = 0)
    (hempty : s.reg CQ_HEAD w (queueIdx p q) = s.reg CQ_TAIL w (queueIdx p q)) (hcut : mfind (s.part w p).cut q = none) :
    resetSeq w p q s = (s.setReg CQ_HWM w (queueIdx p q) 0).putResults (resultKey w p q) [] := by
  simp [resetSeq, hstate, hempty, hcut]

/-! ## What a curtain leaves of the partition's record -/

/-- A component of a partition's record that a skipped rotation leaves. -/
def LeftByRotation {α : Type} (c : Part → α) : Prop := ∀ y, c { y with rotationDue := true, rotating := false } = c y

theorem dropRotation_part {α : Type} {c : Part → α} (hc : LeftByRotation c) (w k : Nat) (s : State) (x r : Nat) : c ((dropRotation w k s).part x r) = c (s.part x r) := by
  unfold dropRotation
  split
  · rename_i p _
    rw [(State.modSlots_keeps ..).part (by decide +kernel)]
    unfold rotationSkipped
    rw [State.part_modPart_component _ _ _ _ _ hc, (State.bump_keeps ..).part (by decide +kernel), (accrue_keeps w s).part (by decide +kernel)]
  · rfl

/-- Disarming a cue leaves of every partition's record all but what a skipped rotation changes (R287, R547). -/
theorem disarm_part {α : Type} {c : Part → α} (hc : LeftByRotation c) (w k why rule : Nat) (s : State) (x r : Nat) : c ((disarm w k why rule s).part x r) = c (s.part x r) := by
  unfold disarm
  dsimp only
  split
  · rfl
  · have hnoted : ∀ p : Prop, [Decidable p] → (if p then s else noteTime w k s).part x r = s.part x r := fun p _ => by split <;> rfl
    rw [(schedSync_keeps ..).part (by decide +kernel), (State.raiseS_keeps ..).part (by decide +kernel), (journalCue_keeps ..).part (by decide +kernel),
      (State.modSlots_keeps ..).part (by decide +kernel), dropRotation_part hc, (unlockAct_keeps ..).part (by decide +kernel), State.part_wr, State.part_wr, State.part_wr, hnoted]

/-- The cues of a curtained partition that end with it, and its load (R293, R397). -/
def curtainCues (w p : Nat) (s : State) : State :=
  let s1 := forEach (List.range 8) s fun c t => if t.rd CUE_SSTAT_SCOPE w c = 0 ∧ t.rd CUE_SSTAT_PART w c = p then disarm w c 3 0 t else t
  let l := s1.getLoads w
  if s1.loading w = true ∧ l.wafer = false ∧ l.part = p then imgFail w 25 s1 else s1

theorem curtain_eq {w p : Nat} {s : State} (hdef : s.defined w p = true) (hstate : s.partState w p ≠ 4) : curtain w p s = curtainCues w p (curtainDrop w p s) :=
  if_neg (by simp [hdef, hstate])

/-- What the end of cues and loads at a curtain may change. -/
def cueEndMask : Nat := 0x294c00460010000000600000000000000000000000056000900080000000007000000000021800041a

theorem curtainCues_keeps (w p : Nat) (s : State) : Keeps cueEndMask s (curtainCues w p s) := by
  have hcues : Keeps cueEndMask s (forEach (List.range 8) s fun c t => if t.rd CUE_SSTAT_SCOPE w c = 0 ∧ t.rd CUE_SSTAT_PART w c = p then disarm w c 3 0 t else t) :=
    forEach_keeps (fun c t => .ite ((disarm_keeps ..).widen (by decide +kernel)) (.refl _ _)) _ (.refl _ _)
  exact .ite (.next (imgFail_keeps ..) (by decide +kernel) hcues) hcues

theorem curtainCues_part {α : Type} {c : Part → α} (hc : LeftByRotation c) (w p : Nat) (s : State) (x r : Nat) : c ((curtainCues w p s).part x r) = c (s.part x r) := by
  have hcues : c ((forEach (List.range 8) s fun k t => if t.rd CUE_SSTAT_SCOPE w k = 0 ∧ t.rd CUE_SSTAT_PART w k = p then disarm w k 3 0 t else t).part x r) = c (s.part x r) :=
    forEach_relates (R := fun a b => c (b.part x r) = c (a.part x r)) (fun _ => rfl) (fun h1 h2 => h2.trans h1) (fun k t => by split; exacts [disarm_part hc .., rfl]) _ s
  unfold curtainCues
  dsimp only
  split
  · rw [(imgFail_keeps ..).part (by decide +kernel), hcues]
  · exact hcues

/-! ## The drop of a curtain -/

/-- The state in which a curtain has ended the pre-emption and not yet the command (R395, R397). -/
def curtainShut (w p : Nat) (s : State) : State :=
  let s1 := s.setPartState w p 4
  let s2 := if s.isLead w p then forEach (s.peersOf w p) s1 fun x t => sendPeer w p x 0x26 6 x.2 [] t else s1
  (abortPreempt w p s2).wr PRT_FAULT_CAUSE w p 0

/-- The running command has reached its commit instant. -/
def Part.hasCommitted (x : Part) : Bool := match x.cmd with | some c => c.committed | none => false

theorem curtainDrop_eq (w p : Nat) (s : State) :
    curtainDrop w p s = if (s.part w p).hasCommitted then curtainShut w p s else resetPart w p (discardCmd w p (curtainShut w p s)) := rfl

theorem abortPreempt_part (w p : Nat) (s : State) : (abortPreempt w p s).part w p =
    { s.part w p with phase := .none, held := false, donating := false, savedCores := [], discardAccept := false, endCode := 0, cut := [] } := by
  have hpart := (unparkHold_keeps w p s).part (by decide +kernel) w p
  unfold abortPreempt
  dsimp only
  split
  · rw [State.part_modPart, hpart]
  · simp only [State.setPmt, State.part_wr, State.part_modPart, hpart]

/-- A curtain leaves no pre-emption (R444). -/
theorem abortPreempt_pmt (w p : Nat) (s : State) : (abortPreempt w p s).pmt w p = 0 := by
  have hfield : ∀ (t : State) (y : Fld) (v : Nat), y.reg = PMT_STAT → PMT_STAT_STATE.hi < y.lo → y.lo ≤ y.hi → (t.wr y w p v).pmt w p = t.pmt w p :=
    fun t y v hy hlo hle => t.rd_wr_field _ _ _ _ _ hy.symm hle (by decide) (.inl hlo)
  have hpmt : (unparkHold w p s).pmt w p = s.pmt w p := (unparkHold_keeps w p s).rd PMT_STAT_STATE w p (by decide) (by decide +kernel)
  unfold abortPreempt
  dsimp only
  split
  · rename_i hzero
    exact hpmt.trans hzero
  · rw [State.pmt, State.rd_wr_id _ _ _ _ _ _ _ _ (by decide)]
    change State.pmt _ w p = 0
    rw [hfield _ _ _ rfl (by decide) (by decide), hfield _ _ _ rfl (by decide) (by decide), hfield _ _ _ rfl (by decide) (by decide), hfield _ _ _ rfl (by decide) (by decide)]
    exact State.rd_wr_same _ _ _ _ _ (by decide) (by decide)

/-- What the beginning of a curtain may change. -/
def shutMask : Nat := 0x6004000480000000000000000000000000000000000000000000000220000400 ||| 0x80000 ||| regBit PRT_STAT ||| regBit PRT_FAULT

/-- The messages by which a curtain tells its job (R395). -/
theorem curtainTold_keeps (w p : Nat) (s : State) :
    Keeps (0x80000 ||| regBit PRT_STAT) s (if s.isLead w p then forEach (s.peersOf w p) (s.setPartState w p 4) fun x t => sendPeer w p x 0x26 6 x.2 [] t else s.setPartState w p 4) := by
  have hstate : Keeps (0x80000 ||| regBit PRT_STAT) s (s.setPartState w p 4) := (s.setPartState_keeps w p 4).widen (by decide +kernel)
  exact .ite (forEach_keeps (fun x t => (sendPeer_keeps ..).widen (by decide +kernel)) _ hstate) hstate

theorem curtainShut_keeps (w p : Nat) (s : State) : Keeps shutMask s (curtainShut w p s) :=
  .next (State.wr_keeps ..) (by decide +kernel) (.next (abortPreempt_keeps ..) (by decide +kernel) ((curtainTold_keeps w p s).widen (by decide +kernel)))

theorem curtainShut_cmd (w p : Nat) (s : State) : ((curtainShut w p s).part w p).cmd = (s.part w p).cmd := by
  unfold curtainShut
  dsimp only
  rw [State.part_wr, abortPreempt_part, (curtainTold_keeps w p s).part (by decide +kernel)]

theorem curtainShut_pmt (w p : Nat) (s : State) : (curtainShut w p s).pmt w p = 0 := by
  unfold curtainShut
  dsimp only
  rw [State.pmt, State.rd_wr_id _ _ _ _ _ _ _ _ (by decide)]
  exact abortPreempt_pmt w p _

theorem curtainShut_state (w p : Nat) (s : State) : (curtainShut w p s).partState w p = 4 := by
  unfold curtainShut
  dsimp only
  rw [(State.wr_keeps ..).partState (by decide +kernel), (abortPreempt_keeps ..).partState (by decide +kernel)]
  split
  · rw [(forEach_keeps (M := 0x80000) (fun x t => sendPeer_keeps ..) _ (.refl _ _)).partState (by decide +kernel)]
    exact s.partState_setPartState w p (by decide)
  · exact s.partState_setPartState w p (by decide)

/-! ## The reset behind a curtain -/

/-- An operation that keeps `I`, and under it leaves `P` wherever that holds and makes it true at one element of the list, leaves both at the end. -/
theorem forEach_reaches {α : Type} {g : α → State → State} {I P : State → Prop} (hinv : ∀ x t, I t → I (g x t)) (hkeep : ∀ x t, I t → P t → P (g x t))
    {xs : List α} {a : α} (ha : a ∈ xs) (hset : ∀ t, I t → P (g a t)) {s : State} (hs : I s) : P (forEach xs s g) := by
  have hlater : ∀ (ys : List α) (t : State), I t → P t → P (forEach ys t g) := fun ys => by
    induction ys with
    | nil => exact fun t _ h => h
    | cons y ys ih => exact fun t hi h => ih (g y t) (hinv y t hi) (hkeep y t hi h)
  induction xs generalizing s with
  | nil => exact absurd ha List.not_mem_nil
  | cons x xs ih =>
    rcases List.mem_cons.mp ha with rfl | ha
    · exact hlater xs _ (hinv a s hs) (hset s hs)
    · exact ih ha (hinv x s hs)

/-- The four counts of a queue become 0 (R395). -/
def queueZeroed (w i : Nat) (s : State) : State := (((s.setReg CQ_HEAD w i 0).setReg CQ_TAIL w i 0).setReg CQ_CTAIL w i 0).setReg CQ_CHEAD w i 0

def queueRegs : List Reg := [CQ_HEAD, CQ_TAIL, CQ_CTAIL, CQ_CHEAD]

theorem queueRegs_eq_of_id : ∀ a ∈ queueRegs, ∀ b ∈ queueRegs, a.id = b.id → a = b := by decide

theorem queueZeroed_reg (w i : Nat) (s : State) {r : Reg} (hr : r ∈ queueRegs) : (queueZeroed w i s).reg r w i = 0 := by
  simp only [queueRegs, List.mem_cons, List.not_mem_nil, or_false] at hr
  unfold queueZeroed
  rcases hr with rfl | rfl | rfl | rfl
  · rw [State.reg_setReg_id _ _ _ _ _ _ _ _ (by decide), State.reg_setReg_id _ _ _ _ _ _ _ _ (by decide), State.reg_setReg_id _ _ _ _ _ _ _ _ (by decide), State.reg_setReg_same, Nat.zero_mod]
  · rw [State.reg_setReg_id _ _ _ _ _ _ _ _ (by decide), State.reg_setReg_id _ _ _ _ _ _ _ _ (by decide), State.reg_setReg_same, Nat.zero_mod]
  · rw [State.reg_setReg_id _ _ _ _ _ _ _ _ (by decide), State.reg_setReg_same, Nat.zero_mod]
  · exact State.reg_setReg_same ..

theorem State.setReg_reg_zero {s : State} {r q : Reg} {w i j : Nat} (h : s.reg r w i = 0) (hid : r.id = q.id → j = i → r = q) : (s.setReg q w j 0).reg r w i = 0 := by
  by_cases hkey : r.id = q.id ∧ j = i
  · obtain ⟨hr, rfl⟩ := hkey
    rw [hid hr rfl, State.reg_setReg_same, Nat.zero_mod]
  · rw [State.reg_setReg_ne _ _ _ _ _ _ _ _ (by tauto)]
    exact h

theorem queueZeroed_keeps_zero (w j : Nat) (s : State) {r : Reg} {i : Nat} (hr : r ∈ queueRegs) (h : s.reg r w i = 0) : (queueZeroed w j s).reg r w i = 0 := by
  have hstep : ∀ (t : State) (q : Reg), q ∈ queueRegs → t.reg r w i = 0 → (t.setReg q w j 0).reg r w i = 0 := fun t q hq ht => State.setReg_reg_zero ht fun he _ => queueRegs_eq_of_id r hr q hq he
  exact hstep _ _ (by decide) (hstep _ _ (by decide) (hstep _ _ (by decide) (hstep _ _ (by decide) h)))

/-- What a curtain's reset has done before it marks the partition's record. -/
def partCleared (w p : Nat) (s : State) : State :=
  let s1 := forEach (s.quads w p) s fun q t => forEach (t.quadUnits w q) t fun u t =>
    let c := t.core w (q / 4) u
    if c.st = .off ∨ c.st = .unused then t
    else t.setCore w (q / 4) u { st := .idle, mode := c.mode, istore := c.istore, istorePoison := c.istorePoison, refill := c.refill }
  let s2 := forEach (List.range 64) (resetStreams w p (withdrawQueued w p s1)) fun q t => queueZeroed w (queueIdx p q) t
  forEach (s.fields w p) s2 fun f t => t.wr LOFT_STAT_ZEROING w f 1

theorem resetPart_eq (w p : Nat) (s : State) : resetPart w p s = (partCleared w p s).modPart w p fun x => { x with
    zeroing := s.quads w p, cmd := none, stealing := 0, skippedFull := [], nextQueue := 0, cut := [] } := rfl

theorem queuesZeroed_reg (w p : Nat) (s : State) {r : Reg} (hr : r ∈ queueRegs) {q : Nat} (hq : q < 64) :
    (forEach (List.range 64) s fun k t => queueZeroed w (queueIdx p k) t).reg r w (queueIdx p q) = 0 := by
  have hkeep : ∀ (k : Nat) (t : State), t.reg r w (queueIdx p q) = 0 → (queueZeroed w (queueIdx p k) t).reg r w (queueIdx p q) = 0 :=
    fun k t h => queueZeroed_keeps_zero w (queueIdx p k) t hr h
  have hset : ∀ t : State, (queueZeroed w (queueIdx p q) t).reg r w (queueIdx p q) = 0 := fun t => queueZeroed_reg w (queueIdx p q) t hr
  exact forEach_reaches (I := fun _ => True) (P := fun t => t.reg r w (queueIdx p q) = 0) (fun _ _ h => h) (fun k t _ h => hkeep k t h) (List.mem_range.mpr hq) (fun t _ => hset t) trivial

theorem zeroingShown_reg (w : Nat) (fs : List Nat) (s : State) {r : Reg} (hr : r ∈ queueRegs) (x i : Nat) :
    (forEach fs s fun f t => t.wr LOFT_STAT_ZEROING w f 1).reg r x i = s.reg r x i := by
  have hloft : Keeps (regBit LOFT_STAT) s (forEach fs s fun f t => t.wr LOFT_STAT_ZEROING w f 1) := forEach_keeps (fun f t => t.wr_keeps LOFT_STAT_ZEROING w f 1) fs (.refl _ _)
  simp only [queueRegs, List.mem_cons, List.not_mem_nil, or_false] at hr
  rcases hr with rfl | rfl | rfl | rfl <;> exact hloft.regs _ _ _ (by decide) (by decide +kernel)

theorem resetPart_reg (w p : Nat) (s : State) {r : Reg} (hr : r ∈ queueRegs) {q : Nat} (hq : q < 64) : (resetPart w p s).reg r w (queueIdx p q) = 0 := by
  rw [resetPart_eq, State.reg_modPart]
  exact (zeroingShown_reg w _ _ hr _ _).trans (queuesZeroed_reg w p _ hr hq)

/-- A curtain over a command that may be discarded begins to zero the partition's quarters, and nothing of the command is left (R395). -/
theorem resetPart_part (w p : Nat) (s : State) : ((resetPart w p s).part w p).cmd = none ∧ ((resetPart w p s).part w p).zeroing = s.quads w p := by
  rw [resetPart_eq, State.part_modPart]
  exact ⟨rfl, rfl⟩

/-- What a curtain shows that has discarded its partition's command (R395). -/
def CurtainDropped (w p : Nat) (s t : State) : Prop :=
  t.partState w p = 4 ∧ (t.part w p).cmd = none ∧ (t.part w p).zeroing = s.quads w p ∧ t.pmt w p = 0 ∧ ∀ q < 64, ∀ r ∈ queueRegs, t.reg r w (queueIdx p q) = 0

theorem curtainDrop_discards {w p : Nat} {s : State} (h : (s.part w p).hasCommitted = false) : CurtainDropped w p s (curtainDrop w p s) := by
  rw [curtainDrop_eq, if_neg (by rw [h]; exact Bool.false_ne_true)]
  have hdiscard := discardCmd_keeps w p (curtainShut w p s)
  have hreset := resetPart_keeps w p (discardCmd w p (curtainShut w p s))
  obtain ⟨hcmd, hzeroing⟩ := resetPart_part w p (discardCmd w p (curtainShut w p s))
  refine ⟨?_, hcmd, ?_, ?_, fun q hq r hr => resetPart_reg w p _ hr hq⟩
  · rw [hreset.partState (by decide +kernel), hdiscard.partState (by decide +kernel), curtainShut_state]
  · rw [hzeroing, hdiscard.quads (by decide +kernel), (curtainShut_keeps w p s).quads (by decide +kernel)]
  · rw [State.pmt, hreset.rd _ _ _ (by decide) (by decide +kernel), hdiscard.rd _ _ _ (by decide) (by decide +kernel)]
    exact curtainShut_pmt w p s

theorem CurtainDropped.cues {w p : Nat} {s t : State} (h : CurtainDropped w p s t) : CurtainDropped w p s (curtainCues w p t) := by
  obtain ⟨hstate, hcmd, hzeroing, hpmt, hqueues⟩ := h
  have hk := curtainCues_keeps w p t
  refine ⟨(hk.partState (by decide +kernel) w p).trans hstate, (curtainCues_part (c := Part.cmd) (fun _ => rfl) w p t w p).trans hcmd,
    (curtainCues_part (c := Part.zeroing) (fun _ => rfl) w p t w p).trans hzeroing, (hk.rd PMT_STAT_STATE w p (by decide) (by decide +kernel)).trans hpmt, fun q hq r hr => ?_⟩
  have hid : ∀ r ∈ queueRegs, r.id < 320 ∧ cueEndMask.testBit (64 + r.id) = false := by decide +kernel
  exact (hk.regs r w _ (hid r hr).1 (hid r hr).2).trans (hqueues q hq r hr)

/-- A curtain over a committed command leaves it to drain (R395). -/
theorem curtain_drains {w p : Nat} {s : State} (hdef : s.defined w p = true) (hstate : s.partState w p ≠ 4) (h : (s.part w p).hasCommitted = true) :
    (curtain w p s).partState w p = 4 ∧ ((curtain w p s).part w p).cmd = (s.part w p).cmd := by
  rw [curtain_eq hdef hstate, curtainDrop_eq, if_pos h, (curtainCues_keeps ..).partState (by decide +kernel), curtainCues_part (c := Part.cmd) (fun _ => rfl)]
  exact ⟨curtainShut_state w p s, curtainShut_cmd w p s⟩

/-! ## Zeroing -/

/-- A zeroed range of a loft holds no byte and no poison (R346). -/
theorem zeroLoft_zeroes (w f base n : Nat) (s : State) {off : Nat} (hlo : base ≤ off) (hhi : off < base + n) :
    (zeroLoft w f base n s).loftByte w f off = 0 ∧ (zeroLoft w f base n s).poisoned w f off = false := by
  have hkey : loftKey w f off = loftKey w f base + (off - base) := by
    unfold loftKey
    omega
  constructor
  · show (mget (0 : Byte) (s.loft.filter fun c => decide (c.1 < loftKey w f base) || decide (loftKey w f base + n ≤ c.1)) (loftKey w f off)).toNat = 0
    have hout : (decide (loftKey w f off < loftKey w f base) || decide (loftKey w f base + n ≤ loftKey w f off)) = false := by
      rw [Bool.or_eq_false_iff, decide_eq_false_iff_not, decide_eq_false_iff_not]
      omega
    rw [mget_filter (0 : Byte) s.loft (fun k => decide (k < loftKey w f base) || decide (loftKey w f base + n ≤ k)), hout]
    rfl
  · show (s.loftPoison.filter fun k => decide (k < loftKey w f base / 64) || decide ((loftKey w f base + n + 63) / 64 ≤ k)).contains (lineKey w f off) = false
    refine Bool.eq_false_iff.mpr (mt List.contains_iff_mem.mp fun hmem => ?_)
    have hout := (List.mem_filter.mp hmem).2
    rw [Bool.or_eq_true, decide_eq_true_eq, decide_eq_true_eq, lineKey] at hout
    omega

/-- What a quarter that has been zeroed leaves: its loft as zeroed, and the partition's list without it (R346). -/
theorem quarterZeroed_shown {w p q : Nat} {s : State} (hp : (allParts.find? fun r => (s.part w r).zeroing.contains q) = some p)
    (hfirst : ∀ x ∈ (s.part w p).zeroing, x / 4 = q / 4 → q ≤ x) :
    q ∉ ((quarterZeroed w q s).part w p).zeroing ∧ SameLofts (zeroLoft w (q / 4) (quarterBase (q % 4)) quarterSize s) (quarterZeroed w q s) := by
  have hnone : ¬ ((s.part w p).zeroing.any fun x => decide (x / 4 = q / 4) && decide (x < q)) = true := by
    simp only [List.any_eq_true, Bool.and_eq_true, decide_eq_true_eq, not_exists, not_and, not_lt]
    exact hfirst
  have hq : q ∉ (((zeroLoft w (q / 4) (quarterBase (q % 4)) quarterSize s).modPart w p fun x => { x with zeroing := x.zeroing.filter fun y => y ≠ q }).part w p).zeroing := by
    rw [State.part_modPart]
    simp
  simp only [quarterZeroed, hp, if_neg hnone]
  split
  · exact ⟨hq, fun _ _ _ => rfl, fun _ _ _ => rfl⟩
  · exact ⟨hq, fun _ _ _ => rfl, fun _ _ _ => rfl⟩

/-! ## The end of a curtain -/

/-- The state in which a curtain's end has freed the slots and forgotten the step (R395). -/
def slotsDropped (w p : Nat) (s : State) : State :=
  (seSync w p (forEach (s.slots w p) s fun x t => t.putSeSlots (seKey w p x.1) {})).modPart w p fun x => { x with stepDue := false, stepRan := false, batch := 0, peersReady := [] }

theorem curtainDone_eq {w p : Nat} {s : State} (hstate : s.partState w p = 4) (hcmd : (s.part w p).cmd = none) (hzeroing : (s.part w p).zeroing = []) :
    curtainDone w p s = ((slotsDropped w p s).setPartState w p 1).raiseP w p Leaf.curtainDone := by
  unfold curtainDone
  dsimp only
  rw [if_neg (by simp [hstate, hcmd, hzeroing])]
  rfl

theorem curtainDone_shown (w p : Nat) (s : State) : let t := ((slotsDropped w p s).setPartState w p 1).raiseP w p Leaf.curtainDone
    t.partState w p = 1 ∧ t.slots w p = [] ∧ (t.part w p).stepDue = false ∧ t.leafSet w Leaf.curtainDone = true := by
  have hraise := ((slotsDropped w p s).setPartState w p 1).raiseP_keeps w p Leaf.curtainDone
  have hset := (slotsDropped w p s).setPartState_keeps w p 1
  refine ⟨?_, ?_, ?_, State.raiseP_sets _ _ _ _ (by decide)⟩
  · rw [hraise.partState (by decide +kernel)]
    exact State.partState_setPartState _ w p (by decide)
  · rw [hraise.slots_eq (by decide +kernel), hset.slots_eq (by decide +kernel), slotsDropped, (State.modPart_keeps ..).slots_eq (by decide +kernel),
      (seSync_keeps ..).slots_eq (by decide +kernel), slots_all_free]
  · rw [hraise.part (by decide +kernel), hset.part (by decide +kernel), slotsDropped, State.part_modPart]

end Sys2Proof.Machine

open Sys2Proof Sys2Proof.Machine

/-- Settles O35: a fault is one entry into FAULTED, and a curtain ends the pre-emption, resets the partition where nothing of it has committed, and frees its slots at its end. -/
theorem curtainsAndFaults : Obligations.CurtainsAndFaults := by
  intro w p s
  refine ⟨fun cause hdef hstate => ⟨_, exec_faultFwd .., faultForwarded_shown cause.isLt hdef hstate⟩, ?_, fun hdef hstate => ⟨fun hcmd => ?_, fun c hcmd hcommitted => ?_⟩,
    fun hidle => ⟨_, exec_curtain .., if_pos hidle⟩, fun q hp hfirst => ⟨_, exec_quarterZeroed .., ?_⟩, fun hstate hcmd hzeroing => ⟨_, exec_curtainDone .., ?_⟩⟩
  · intro r q i hstate hempty hcut
    refine ⟨_, exec_resetSeq .., ?_⟩
    dsimp only
    rw [resetSeq_of_idle hstate hempty hcut, State.reg_putResults, State.reg_setReg_same, State.results_putResults_same]
    exact ⟨rfl, rfl⟩
  · have hnone : (s.part w p).hasCommitted = false := by
      unfold Part.hasCommitted
      split
      · rename_i c hc
        exact hcmd c hc
      · rfl
    obtain ⟨hshown, hdiscarded, hzeroing, hpmt, hqueues⟩ := (curtainDrop_discards hnone).cues
    refine ⟨_, exec_curtain .., ?_⟩
    dsimp only
    rw [curtain_eq hdef hstate]
    exact ⟨hshown, hdiscarded, hzeroing, hpmt, fun q hq =>
      ⟨hqueues q hq _ (by decide), hqueues q hq _ (by decide), hqueues q hq _ (by decide), hqueues q hq _ (by decide)⟩⟩
  · obtain ⟨hshown, hkept⟩ := curtain_drains hdef hstate (by rw [Part.hasCommitted, hcmd]; exact hcommitted)
    exact ⟨_, exec_curtain .., hshown, hkept.trans hcmd⟩
  · obtain ⟨hgone, hbytes, hpoison⟩ := quarterZeroed_shown hp hfirst
    refine ⟨hgone, fun off hlo hhi => ?_⟩
    rw [hbytes, hpoison]
    exact zeroLoft_zeroes w _ _ _ s hlo hhi
  · dsimp only
    rw [curtainDone_eq hstate hcmd hzeroing]
    exact curtainDone_shown w p s

end

section
/-!
PROOF. The slot table, step boundaries, and what a job's partitions tell each other of a step (R386-R390).
-/
set_option Elab.async false
namespace Sys2Proof.Machine

theorem exec_slotJoin (w : WaferId) (slot : BitVec 13) (s : State) : exec (.slotJoin w slot) s = .next (slotJoin w (s.rd SE_SEL_PART w 0) slot.toNat s) := rfl

theorem exec_slotLeave (w : WaferId) (slot : BitVec 13) (s : State) : exec (.slotLeave w slot) s = .next (slotLeave w (s.rd SE_SEL_PART w 0) slot.toNat s) := rfl

theorem exec_stepBoundary (w : WaferId) (p : PartId) (s : State) : exec (.stepBoundary w p) s = .next (stepBoundary w p s) := rfl

theorem exec_batchFwd (w : WaferId) (p : PartId) (off : BitVec 20) (bytes : List Byte) (s : State) :
    exec (.batchFwd w p off bytes) s = .next (batchForwarded w p off.toNat (bytes.map BitVec.toNat) s) := rfl

theorem exec_doneBits (w : WaferId) (p : PartId) (src : WaferId) (off : BitVec 10) (bytes : List Byte) (s : State) :
    exec (.doneBits w p src off bytes) s = .next (doneBits w p src off.toNat (bytes.map BitVec.toNat) s) := rfl

/-! ## JOIN and LEAVE -/

/-- A refused operation counts, and leaves the slot (R387). -/
theorem slotRefused_shown (w p n : Nat) (s : State) :
    (slotRefused w p s).rd SE_REFUSED_COUNT w p = satAdd SE_REFUSED_COUNT.width (s.rd SE_REFUSED_COUNT w p) 1 ∧ (slotRefused w p s).slot w p n = s.slot w p n :=
  ⟨State.rd_bump_same _ _ _ _ _ (by decide) (by decide), rfl⟩

/-- A slot that has been written shows what was written, whatever the counts show. -/
theorem slot_seSync_put (w p n : Nat) (x : SeSlot) (s : State) : (seSync w p (s.putSeSlots (seKey w p n) x)).slot w p n = x := by
  rw [(seSync_keeps ..).slot (by decide +kernel), State.slot_putSeSlots_same]

theorem slotJoin_free {w p n : Nat} {s : State} (hlead : s.isLead w p = true) (h : (s.slot w p n).st = .free) :
    slotJoin w p n s = seSync w p (s.putSeSlots (seKey w p n) { st := .joining, tag := s.reg SE_SLOT_TAG w p }) := by
  simp [slotJoin, hlead, h]

theorem slotJoin_refused {w p n : Nat} {s : State} (h : s.isLead w p = false ∨ (s.slot w p n).st ≠ .free) : slotJoin w p n s = slotRefused w p s := by
  rcases h with h | h <;> simp [slotJoin, h]

theorem slotLeave_active {w p n : Nat} {s : State} (hlead : s.isLead w p = true) (h : (s.slot w p n).st = .active) :
    slotLeave w p n s = seSync w p (s.putSeSlots (seKey w p n) { s.slot w p n with st := .leaving }) := by
  simp [slotLeave, hlead, h]

/-- A slot that is not in a batch is free at once (R387). -/
theorem slotLeave_waiting {w p n : Nat} {s : State} (hlead : s.isLead w p = true) (h : (s.slot w p n).st = .joining ∨ (s.slot w p n).st = .done) :
    slotLeave w p n s = seSync w p (s.putSeSlots (seKey w p n) {}) := by
  rcases h with h | h <;> simp [slotLeave, hlead, h]

theorem slotLeave_leaving {w p n : Nat} {s : State} (hlead : s.isLead w p = true) (h : (s.slot w p n).st = .leaving) : slotLeave w p n s = s := by
  simp [slotLeave, hlead, h]

theorem slotLeave_refused {w p n : Nat} {s : State} (h : s.isLead w p = false ∨ (s.slot w p n).st = .free) : slotLeave w p n s = slotRefused w p s := by
  cases hlead : s.isLead w p
  · simp [slotLeave, hlead]
  · simp [slotLeave, hlead, h.resolve_left (by rw [hlead]; decide)]

/-! ## Boundaries -/

theorem forEach_same {α : Type} {g : α → State → State} {xs : List α} {s : State} (h : ∀ x ∈ xs, ∀ t, g x t = t) : forEach xs s g = s := by
  induction xs with
  | nil => rfl
  | cons x xs ih =>
    obtain ⟨hx, hxs⟩ := List.forall_mem_cons.mp h
    exact (congrArg (forEach xs · g) (hx s)).trans (ih hxs)

theorem admitSlots_active {w p : Nat} {s : State} (h : ∀ x ∈ s.slots w p, x.2.st = .active) : admitSlots w p s = s := by
  have hfreed : (forEach (s.slots w p) s fun x t => if x.2.st = .leaving then t.putSeSlots (seKey w p x.1) {} else t) = s :=
    forEach_same fun x hx t => if_neg (by rw [h x hx]; decide)
  have hnone : ((s.slots w p).filter fun x => x.2.st == .joining) = [] := List.filter_eq_nil_iff.mpr fun x hx => by rw [h x hx]; decide
  unfold admitSlots
  dsimp only
  rw [hfreed, hnone, List.take_nil, forEach_nil]

/-- The only slot, which joins, becomes ACTIVE (R388): MAX_BATCH leaves room for one slot at least. -/
theorem admitSlots_joining {w p n : Nat} {x : SeSlot} {s : State} (hs : s.slots w p = [(n, x)]) (h : x.st = .joining) :
    admitSlots w p s = s.putSeSlots (seKey w p n) { x with st := .active, new := true } := by
  have hfreed : (forEach [(n, x)] s fun x t => if x.2.st = .leaving then t.putSeSlots (seKey w p x.1) {} else t) = s :=
    forEach_same fun y hy t => if_neg (by rw [List.mem_singleton.mp hy, h]; decide)
  have hlimit : ∀ k : Nat, (if k = 0 then 8192 else k) - 0 ≠ 0 := fun k => by split <;> omega
  obtain ⟨k, hk⟩ := Nat.exists_eq_succ_of_ne_zero (hlimit (s.rd PRT_SE_MAX_BATCH w p))
  unfold admitSlots
  dsimp only
  rw [hs, hfreed, hs, List.filter_cons_of_neg (by rw [h]; decide), List.filter_cons_of_pos (by rw [h]; decide), List.filter_nil, List.filter_nil, List.length_nil, hk,
    List.take_succ_cons, List.take_nil]
  rfl

theorem admitSlots_leaving {w p n : Nat} {x : SeSlot} {s : State} (hs : s.slots w p = [(n, x)]) (h : x.st = .leaving) :
    (admitSlots w p s).slots w p = [] := by
  have hfree : (s.putSeSlots (seKey w p n) {}).slots w p = [] := by
    have hall := slots_all_free w p s
    rwa [hs] at hall
  have hfreed : (forEach [(n, x)] s fun x t => if x.2.st = .leaving then t.putSeSlots (seKey w p x.1) {} else t) = s.putSeSlots (seKey w p n) {} := if_pos h
  unfold admitSlots
  dsimp only
  rw [hs, hfreed, hfree, List.filter_nil, List.filter_nil, List.take_nil, forEach_nil, hfree]

/-- The slots that a batch takes. -/
def State.activeSlots (s : State) (w p : Nat) : List (Nat × SeSlot) := (s.slots w p).filter fun x => x.2.st == .active

theorem writeBatch_none {w p : Nat} {s : State} (h : s.activeSlots w p = []) : writeBatch w p s = s := by
  unfold State.activeSlots at h
  simp [writeBatch, h]

/-- The batch in the ring's loft and on its way to the followers (R386, R390). -/
def batchSent (w p : Nat) (s : State) : State :=
  let act := s.activeSlots w p
  let base := s.reg PRT_SE_BASE w p
  let seq := s.rd CQ_HWM_SEQ w (queueIdx p (s.rd PRT_SE_STEP_Q w p)) + 1
  let header := leBytes 8 seq ++ leBytes 4 act.length ++ List.replicate 52 0
  let list := act.flatMap fun x => leBytes 8 (x.1 + 8192 * b2n x.2.new + x.2.tag * 2 ^ 32)
  let s1 := ringWrite w p (base + 0x480) list (ringWrite w p (base + 0x40) header s)
  forEach (s.peersOf w p) s1 fun x t =>
    let t1 := sendPeer w p x 0x24 0 0x40 header t
    forEach (List.range ((list.length + 511) / 512)) t1 fun k t => sendPeer w p x 0x24 0 (0x480 + 512 * k) ((list.drop (512 * k)).take 512) t

/-- A batch of ACTIVE slots makes the next step due (R388). -/
theorem writeBatch_due {w p : Nat} {s : State} (h : s.activeSlots w p ≠ []) :
    writeBatch w p s = (forEach (s.activeSlots w p) (batchSent w p s) fun x t => t.putSeSlots (seKey w p x.1) { x.2 with new := false }).modPart w p
      fun x => { x with stepDue := true, batch := (s.activeSlots w p).length } := if_neg (mt List.isEmpty_iff.mp h)

theorem writeBatch_part {w p : Nat} {s : State} (h : s.activeSlots w p ≠ []) :
    ((writeBatch w p s).part w p).stepDue = true ∧ ((writeBatch w p s).part w p).batch = (s.activeSlots w p).length := by
  rw [writeBatch_due h, State.part_modPart]
  exact ⟨rfl, rfl⟩

theorem writeBatch_slot_alone {w p n : Nat} {x : SeSlot} {s : State} (h : s.activeSlots w p = [(n, x)]) : ((writeBatch w p s).slot w p n).st = x.st := by
  rw [writeBatch_due (by rw [h]; exact List.cons_ne_nil _ _), (State.modPart_keeps ..).slot (by decide), h]
  have hput := congrArg SeSlot.st (State.slot_putSeSlots_same (batchSent w p s) w p n { x with new := false })
  exact hput

/-- A partition's record at a boundary, before its slots move. -/
def boundaryBegun (w p : Nat) (s : State) : State := s.modPart w p fun x => { x with stepRan := false, peersReady := [] }

theorem boundaryBegun_slots (w p : Nat) (s : State) : (boundaryBegun w p s).slots w p = s.slots w p := rfl

section
variable {w p : Nat} {s : State} (hat : s.atBoundary w p = true) (hran : (s.part w p).stepRan = false) (hcue : s.cueBlocks w p = false)
  (hrotation : (s.part w p).rotationDue = false)
include hat hran hcue hrotation

/-- At a boundary to which no step has run and for which no cue and no rotation waits, slots are let in and the next batch is written (R388). -/
theorem stepBoundary_eq : stepBoundary w p s = writeBatch w p (seSync w p (admitSlots w p (boundaryBegun w p s))) := by
  have hslots : boundarySlots w p s = seSync w p (admitSlots w p (boundaryBegun w p s)) := by
    unfold boundarySlots
    rw [if_neg (by rw [hran]; exact Bool.false_ne_true)]
    rfl
  have hkeeps : Keeps (0x1400 ||| regBit SE_STAT ||| regBit SE_DONE) s (boundarySlots w p s) := by
    rw [hslots]
    exact .next (seSync_keeps ..) (by decide +kernel) (.next (admitSlots_keeps ..) (by decide +kernel) ((State.modPart_keeps ..).widen (by decide +kernel)))
  have hfree : (boundarySlots w p s).cueBlocks w p = false := by
    unfold State.cueBlocks at hcue ⊢
    rw [hkeeps.slots (by decide +kernel)]
    exact hcue
  rw [hslots] at hfree
  simp only [stepBoundary, hat, hrotation, hfree, Bool.false_and, Bool.false_eq_true, if_true, if_false, hslots]

theorem stepBoundary_active (hne : s.slots w p ≠ []) (h : ∀ x ∈ s.slots w p, x.2.st = .active) :
    ((stepBoundary w p s).part w p).stepDue = true ∧ ((stepBoundary w p s).part w p).batch = (s.slots w p).length := by
  have hactive : (seSync w p (admitSlots w p (boundaryBegun w p s))).activeSlots w p = s.slots w p := by
    rw [State.activeSlots, (seSync_keeps ..).slots_eq (by decide +kernel), admitSlots_active (s := boundaryBegun w p s) h]
    exact List.filter_eq_self.mpr fun x hx => by rw [h x hx]; decide
  rw [stepBoundary_eq hat hran hcue hrotation, ← hactive]
  exact writeBatch_part (by rw [hactive]; exact hne)

theorem stepBoundary_joining {n : Nat} {x : SeSlot} (hs : s.slots w p = [(n, x)]) (h : x.st = .joining) :
    ((stepBoundary w p s).slot w p n).st = .active ∧ ((stepBoundary w p s).part w p).stepDue = true ∧ ((stepBoundary w p s).part w p).batch = 1 := by
  have hactive : (seSync w p (admitSlots w p (boundaryBegun w p s))).activeSlots w p = [(n, { x with st := .active, new := true })] := by
    rw [State.activeSlots, (seSync_keeps ..).slots_eq (by decide +kernel), admitSlots_joining (s := boundaryBegun w p s) hs h,
      State.slots_put_alone (s := boundaryBegun w p s) hs (by simp)]
    rfl
  have hne : (seSync w p (admitSlots w p (boundaryBegun w p s))).activeSlots w p ≠ [] := by rw [hactive]; exact List.cons_ne_nil _ _
  rw [stepBoundary_eq hat hran hcue hrotation]
  exact ⟨writeBatch_slot_alone hactive, (writeBatch_part hne).1, (writeBatch_part hne).2.trans (by rw [hactive]; rfl)⟩

theorem stepBoundary_leaving {n : Nat} {x : SeSlot} (hs : s.slots w p = [(n, x)]) (h : x.st = .leaving) :
    (stepBoundary w p s).slots w p = [] ∧ ((stepBoundary w p s).part w p).stepDue = false := by
  have hslots : (seSync w p (admitSlots w p (boundaryBegun w p s))).slots w p = [] := by
    rw [(seSync_keeps ..).slots_eq (by decide +kernel), admitSlots_leaving (s := boundaryBegun w p s) hs h]
  have hnotdue : (s.part w p).stepDue = false := by
    simp only [State.atBoundary, Bool.and_eq_true, Bool.not_eq_true'] at hat
    exact hat.1.1.2
  rw [stepBoundary_eq hat hran hcue hrotation, writeBatch_none (by rw [State.activeSlots, hslots, List.filter_nil])]
  refine ⟨hslots, ?_⟩
  rw [(seSync_keeps ..).part (by decide +kernel), (admitSlots_keeps ..).part (by decide +kernel), boundaryBegun, State.part_modPart]
  exact hnotdue

end

/-! ## Batches and done bits between the partitions of a job -/

theorem batchForwarded_header {w p : Nat} (bs : List Nat) {s : State} (hlead : s.isLead w p = false) (hdef : s.defined w p = true) :
    ((batchForwarded w p 0x40 bs s).part w p).batch = fieldOf bs 8 4 := by
  simp only [batchForwarded, hlead, hdef, Bool.not_true, Bool.or_self, Bool.false_eq_true, if_false, if_true, State.part_modPart]

theorem doneBits_ready {w p : Nat} (src off : Nat) (bs : List Nat) {s : State} (hlead : s.isLead w p = true) :
    ((doneBits w p src off bs s).part w p).peersReady = (src * 2 + off / 512 % 2) :: (s.part w p).peersReady := by
  simp only [doneBits, hlead, Bool.not_true, Bool.false_eq_true, if_false, State.part_modPart]
  rw [(ringWrite_keeps ..).part (by decide +kernel), (seRead_keeps ..).part (by decide +kernel)]

end Sys2Proof.Machine

open Sys2Proof Sys2Proof.Machine

/-- Settles O34: JOIN and LEAVE are one write of a slot or one count, and a boundary is one pass over the slots and at most one batch. -/
theorem slotsAndSteps : Obligations.SlotsAndSteps := by
  intro w s
  refine ⟨fun slot => ?_, fun p hat hran hcue hrotation => ⟨fun hne h => ?_, fun n x hs h => ?_, fun n x hs h => ?_⟩, fun p off bytes => ?_,
    fun p src off bytes hlead => ⟨_, exec_doneBits .., doneBits_ready _ _ _ hlead⟩⟩
  · intro p n x refused
    refine ⟨fun hlead h => ⟨_, exec_slotJoin .., ?_⟩, fun h => ⟨_, exec_slotJoin .., ?_⟩, fun hlead h => ⟨_, exec_slotLeave .., ?_⟩,
      fun hlead h => ⟨_, exec_slotLeave .., ?_⟩, fun hlead h => ⟨_, exec_slotLeave .., slotLeave_leaving hlead h⟩, fun h => ⟨_, exec_slotLeave .., ?_⟩⟩
    · exact (congrArg (State.slot · w p n) (slotJoin_free hlead h)).trans (slot_seSync_put ..)
    · exact slotJoin_refused h ▸ slotRefused_shown ..
    · exact (congrArg (State.slot · w p n) (slotLeave_active hlead h)).trans (slot_seSync_put ..)
    · exact congrArg SeSlot.st ((congrArg (State.slot · w p n) (slotLeave_waiting hlead h)).trans (slot_seSync_put ..))
    · exact slotLeave_refused h ▸ slotRefused_shown ..
  · exact ⟨_, exec_stepBoundary .., stepBoundary_active hat hran hcue hrotation hne h⟩
  · exact ⟨_, exec_stepBoundary .., stepBoundary_joining hat hran hcue hrotation hs h⟩
  · exact ⟨_, exec_stepBoundary .., stepBoundary_leaving hat hran hcue hrotation hs h⟩
  · intro bs hlead hdef hoff
    subst hoff
    exact ⟨_, exec_batchFwd .., batchForwarded_header bs hlead hdef⟩

end

section
/-!
PROOF. The commit instant of a command, what the partitions of its job report, and its completion (R383-R385).
-/
set_option Elab.async false
namespace Sys2Proof.Machine

theorem exec_commitInstant (w : WaferId) (p : PartId) (s : State) : exec (.commitInstant w p none) s = .next (commitInstant w p none s) := rfl

theorem exec_idleReport (w : WaferId) (p : PartId) (q : Fin 64) (seq : BitVec 48) (src : WaferId) (s : State) :
    exec (.idleReport w p q seq src) s = .next (idleReport w p q seq.toNat src s) := rfl

theorem exec_cmdEnd (w : WaferId) (p : PartId) (q : Fin 64) (seq : BitVec 48) (status : Byte) (s : State) :
    exec (.cmdEnd w p q seq status) s = .next (cmdEnd w p q seq.toNat status.toNat s) := rfl

theorem exec_commandComplete (w : WaferId) (p : PartId) (s : State) : exec (.commandComplete w p) s = .next (commandComplete w p s) := rfl

/-! ## A fault of a partition whose command has committed -/

/-- The partition runs `c`, which has committed at `time` (R383); its status may still change. -/
def Committed (w p : Nat) (c : Cmd) (time : Nat) (t : State) : Prop :=
  ∃ d, (t.part w p).cmd = some d ∧ d.committed = true ∧ d.commitTime = time ∧ d.seq = c.seq ∧ d.queue = c.queue

/-- Nothing of the cores and of the partition's command has changed. -/
def SameCommand (w p : Nat) (s t : State) : Prop := (∀ x f u, t.core x f u = s.core x f u) ∧ (t.part w p).cmd = (s.part w p).cmd

theorem SameCommand.trans {w p : Nat} {s t u : State} (h : SameCommand w p s t) (h' : SameCommand w p t u) : SameCommand w p s u :=
  ⟨fun x f v => (h'.1 x f v).trans (h.1 x f v), h'.2.trans h.2⟩

theorem SameCommand.of_keeps {m : Nat} {s t : State} (h : Keeps m s t) (hcores : m.testBit 9 = false) (hparts : m.testBit 10 = false) (w p : Nat) : SameCommand w p s t :=
  ⟨h.core hcores, congrArg Part.cmd (h.part hparts w p)⟩

theorem Committed.of_same {w p time : Nat} {c : Cmd} {s t : State} (hs : Committed w p c time s) (h : SameCommand w p s t) : Committed w p c time t := by
  obtain ⟨d, hd, hrest⟩ := hs
  exact ⟨d, h.2.trans hd, hrest⟩

theorem preemptEnded_same (w p : Nat) (s : State) : SameCommand w p s (preemptEnded w p s) := by
  refine ⟨(preemptEnded_keeps w p s).core (by decide +kernel), ?_⟩
  unfold preemptEnded
  dsimp only
  split
  · rfl
  · rw [State.part_modPart, State.part_wr, State.part_wr, State.part_wr]

/-- A committed command stays when its partition faults (R376). -/
theorem enterFaulted_same {w p : Nat} (cause : Nat) {c : Cmd} {time : Nat} {s : State} (h : Committed w p c time s) : SameCommand w p s (enterFaulted w p cause s) := by
  obtain ⟨d, hd, hcommitted, -⟩ := h
  have hlocal : failLocal w p 6 s = s := by simp [failLocal, hd, hcommitted]
  rw [enterFaulted_eq, hlocal]
  have hentered : SameCommand w p s (faultEntered w p cause s) :=
    (SameCommand.of_keeps (s.setPartState_keeps w p 3) (by decide) (by decide) w p).trans (.of_keeps (State.wr_keeps ..) (by decide) (by decide) w p)
  exact (hentered.trans (preemptEnded_same ..)).trans (.of_keeps (State.raiseP_keeps ..) (by decide +kernel) (by decide +kernel) w p)

theorem faultOne_same {w p : Nat} (cause : Nat) {c : Cmd} {time : Nat} {s : State} (h : Committed w p c time s) : SameCommand w p s (faultOne w p cause s) := by
  unfold faultOne
  dsimp only
  split
  · exact ⟨fun _ _ _ => rfl, rfl⟩
  split
  · split
    · exact ⟨fun _ _ _ => rfl, rfl⟩
    · exact ⟨fun _ _ _ => rfl, rfl⟩
  · exact enterFaulted_same cause h

theorem partFault_same {w p : Nat} (cause : Nat) {c : Cmd} {time : Nat} {s : State} (h : Committed w p c time s) : SameCommand w p s (partFault w p cause s) := by
  refine (faultOne_same cause h).trans ?_
  unfold partFault
  dsimp only
  split
  · exact .of_keeps (forEach_keeps (M := 0x80000) (fun x t => sendPeer_keeps ..) _ (.refl _ _)) (by decide) (by decide) w p
  · split
    · exact .of_keeps (sendPeer_keeps ..) (by decide) (by decide) w p
    · exact ⟨fun _ _ _ => rfl, rfl⟩

/-! ## The commit instant -/

/-- A core after the commit instant: its buffer's entries on their way, and the buffer empty (R122). -/
def coreDrained (w p : Nat) (x : Nat × Nat × Nat) (t : State) : State :=
  (drainCore w x.1 x.2.1 p (t.core w x.1 x.2.1) (t.core w x.1 x.2.1).cb t).1.modCore w x.1 x.2.1
    fun y => { y with cb := [], st := if y.st = .idle ∨ y.st = .steal then .commit else y.st }

/-- A word of a buffer's range was uncorrectable: the command ends with that status and the partition faults (R122). -/
def commitSpoilt (w p f u k : Nat) (t : State) : State :=
  partFault w p 5 ((spadUncorrectable w f u 0 2 (k / 8) t).modPart w p fun y => { y with cmd := y.cmd.map fun z => { z with status := 5 } })

def commitCore (w p : Nat) (x : Nat × Nat × Nat) (t : State) : State :=
  match (drainCore w x.1 x.2.1 p (t.core w x.1 x.2.1) (t.core w x.1 x.2.1).cb t).2 with
  | none => coreDrained w p x t
  | some k => commitSpoilt w p x.1 x.2.1 k (coreDrained w p x t)

/-- The partition's record and telemetry at the commit instant, before its cores drain (R383). -/
def commitMarked (w p : Nat) (c : Cmd) (time : Nat) (s : State) : State :=
  let cs := (s.cmdCores w p).filter fun x => (s.core w x.1 x.2.1).part == some p
  let s1 := s.incWrap TEL_OPS_COUNT w (telIdx p 0) (cs.foldl (fun n x => n + (s.core w x.1 x.2.1).ops) 0)
  let s2 := if c.step then s1.incWrap TEL_SLOTS_COUNT w (telIdx p 0) (s.part w p).batch else s1
  s2.modPart w p fun x => { x with cmd := some { c with committed := true, commitTime := time } }

theorem commitPart_eq (w p : Nat) (c : Cmd) (time : Nat) (s : State) : commitPart w p c time s =
    forEach ((s.cmdCores w p).filter fun x => (s.core w x.1 x.2.1).part == some p) (commitMarked w p c time s) (commitCore w p) := rfl

theorem commitMarked_committed (w p : Nat) (c : Cmd) (time : Nat) (s : State) : Committed w p c time (commitMarked w p c time s) := by
  unfold commitMarked
  dsimp only
  exact ⟨_, congrArg Part.cmd (State.part_modPart ..), rfl, rfl, rfl, rfl⟩

theorem State.core_modCore_cases (s : State) (w f u : Nat) (g : Core → Core) (x h v : Nat) :
    (s.modCore w f u g).core x h v = if coreKey x h v = coreKey w f u then g (s.core w f u) else s.core x h v := by
  unfold State.modCore State.core State.setCore
  rw [State.getCores_wr, State.getCores_wr, State.getCores_wr, State.getCores_wr, State.getCores_putCores]

theorem coreDrained_cmd (w p : Nat) (x : Nat × Nat × Nat) (t : State) : ((coreDrained w p x t).part w p).cmd = (t.part w p).cmd := by
  unfold coreDrained
  rw [(State.modCore_keeps ..).part (by decide +kernel), (drainCore_keeps ..).part (by decide)]

theorem coreDrained_cb_same (w p : Nat) (x : Nat × Nat × Nat) (t : State) : ((coreDrained w p x t).core w x.1 x.2.1).cb = [] := by
  rw [coreDrained, State.core_modCore]

theorem coreDrained_cb {w p : Nat} (x : Nat × Nat × Nat) {t : State} {f u : Nat} (h : (t.core w f u).cb = []) : ((coreDrained w p x t).core w f u).cb = [] := by
  rw [coreDrained, State.core_modCore_cases]
  split
  · rfl
  · rw [(drainCore_keeps ..).core (by decide)]
    exact h

theorem commitSpoilt_shape {w p time : Nat} {c : Cmd} (f u k : Nat) {t : State} (h : Committed w p c time t) :
    Committed w p c time (commitSpoilt w p f u k t) ∧ ∀ x g v, (commitSpoilt w p f u k t).core x g v = t.core x g v := by
  have hnoted := spadUncorrectable_keeps w f u 0 2 (k / 8) t
  obtain ⟨d, hd, hcommitted, htime, hseq, hqueue⟩ := h
  have hstatus : Committed w p c time ((spadUncorrectable w f u 0 2 (k / 8) t).modPart w p fun y => { y with cmd := y.cmd.map fun z => { z with status := 5 } }) := by
    refine ⟨{ d with status := 5 }, ?_, hcommitted, htime, hseq, hqueue⟩
    rw [State.part_modPart, hnoted.part (by decide +kernel), hd]
    rfl
  have hfault := partFault_same 5 hstatus
  exact ⟨hstatus.of_same hfault, fun x g v => (hfault.1 x g v).trans (hnoted.core (by decide +kernel) x g v)⟩

theorem coreDrained_committed {w p time : Nat} {c : Cmd} (x : Nat × Nat × Nat) {t : State} (h : Committed w p c time t) : Committed w p c time (coreDrained w p x t) := by
  obtain ⟨d, hd, hrest⟩ := h
  exact ⟨d, (coreDrained_cmd ..).trans hd, hrest⟩

/-- Each core's part of the commit instant keeps the committed command, and empties buffers only. -/
theorem commitCore_shape {w p time : Nat} {c : Cmd} (x : Nat × Nat × Nat) {t : State} (h : Committed w p c time t) :
    Committed w p c time (commitCore w p x t) ∧ ∀ y g v, (commitCore w p x t).core y g v = (coreDrained w p x t).core y g v := by
  unfold commitCore
  split
  · exact ⟨coreDrained_committed x h, fun _ _ _ => rfl⟩
  · exact commitSpoilt_shape _ _ _ (coreDrained_committed x h)

theorem commitPart_committed (w p : Nat) (c : Cmd) (time : Nat) (s : State) : Committed w p c time (commitPart w p c time s) := by
  rw [commitPart_eq]
  exact forEach_relates (R := fun a b => Committed w p c time a → Committed w p c time b) (fun _ h => h) (fun h1 h2 h => h2 (h1 h)) (fun x _ h => (commitCore_shape x h).1) _ _
    (commitMarked_committed w p c time s)

theorem commitPart_cb {w p : Nat} (c : Cmd) (time : Nat) {s : State} {x : Nat × Nat × Nat} (hx : x ∈ s.cmdCores w p) (hpart : (s.core w x.1 x.2.1).part = some p) :
    ((commitPart w p c time s).core w x.1 x.2.1).cb = [] := by
  rw [commitPart_eq]
  refine forEach_reaches (I := Committed w p c time) (P := fun t => (t.core w x.1 x.2.1).cb = []) (fun y _ h => (commitCore_shape y h).1) (fun y t hi h => ?_)
    (List.mem_filter.mpr ⟨hx, by simp [hpart]⟩) (fun t hi => ?_) (commitMarked_committed w p c time s)
  · rw [(commitCore_shape y hi).2]
    exact coreDrained_cb y h
  · rw [(commitCore_shape x hi).2]
    exact coreDrained_cb_same w p x t

/-- The partition's record with one wafer more that has reported its cores idle (R384). -/
def idleNoted (w p src : Nat) (s : State) : State := s.modPart w p fun x => { x with reported := x.reported ++ [src] }

section
variable {w p : Nat} {c : Cmd} {s : State} (hcmd : (s.part w p).cmd = some c) (hc : c.committed = false) (hstate : s.partState w p = 2) (hidle : s.coresIdle w p = true)
include hcmd hc hstate hidle

/-- With no other partition in its job, a partition with idle cores commits (R383). -/
theorem commitInstant_alone (hlead : s.isLead w p = true) (hpeers : s.peersOf w p = []) :
    ∃ s1, (∀ x r, s1.cmdCores x r = s.cmdCores x r) ∧ (∀ x f u, s1.core x f u = s.core x f u) ∧ commitInstant w p none s = commitPart w p c (s.tbNow w) s1 := by
  refine ⟨if (s.part w p).reported.contains w then s else s.modPart w p fun x => { x with reported := x.reported ++ [w], reportAt := s.now }, fun _ _ => ?_, fun _ _ _ => ?_, ?_⟩
  · split <;> rfl
  · split <;> rfl
  · simp only [commitInstant, hcmd, hc, hstate, hidle, hlead, hpeers, markBad, bne_self_eq_false, Bool.not_true, Bool.or_self, Bool.false_eq_true, if_false, if_true,
      List.all_nil, List.isEmpty_nil]

/-- A follower with idle cores tells its lead (R384). -/
theorem commitInstant_follower {l : Nat × Nat} (hlead : s.isLead w p = false) (hleadOf : s.leadOf w p = some l) (hnew : w ∉ (s.part w p).reported) :
    commitInstant w p none s =
      sendPeer w p l 0x21 0 c.queue (padTo 32 (leBytes 6 c.seq)) (s.modPart w p fun x => { x with reported := x.reported ++ [w], reportAt := s.now }) := by
  have hmine : (s.part w p).reported.contains w = false := by simpa using hnew
  simp only [commitInstant, hcmd, hc, hstate, hidle, hlead, hleadOf, hmine, bne_self_eq_false, Bool.not_true, Bool.not_false, Bool.or_self, Bool.false_eq_true, if_false, if_true]

end

/-- A message of one packet ends its network interface's queue. -/
theorem niQueue_sendMgmt (w f src dest spart kind val addr : Nat) {bs : List Nat} (hne : 1 ≤ bs.length) (hlen : bs.length ≤ 512) (s : State) :
    ({ typ := 13, cls := 3, dest := dest, src := physAddr w f src, spart := spart, addr := addr, aux := kind + val * 256, payload := bs } : Packet) ∈
      (sendMgmt w f src dest spart kind val addr bs s).niQueue w f spart := by
  have hseg : segmentMsg {} bs = [{ payload := bs }] := by
    rw [segmentMsg_eq _ _ hne, show (bs.length + 511) / 512 = 1 by omega]
    simp [segment, List.take_of_length_le hlen]
  have hbs : bs.isEmpty = false := by
    cases bs with
    | nil => exact absurd hne (by decide)
    | cons => rfl
  unfold sendMgmt
  rw [hbs, hseg]
  exact (niQueue_enqueue w f _ s).symm ▸ List.mem_append_right _ (List.mem_singleton_self _)

/-! ## The reports and the end of a command on a job -/

theorem idleReport_noted {w p src : Nat} {c : Cmd} {s : State} (hcmd : (s.part w p).cmd = some c) (hc : c.committed = false) (hlead : s.isLead w p = true)
    (hnew : src ∉ (s.part w p).reported) : idleReport w p c.queue c.seq src s = idleNoted w p src s := by
  simp [idleReport, hcmd, hc, hlead, hnew, idleNoted]

section
variable {w p : Nat} {c : Cmd} {s : State} (hcmd : (s.part w p).cmd = some c) (hc : c.committed = false) (hlead : s.isLead w p = false)
include hcmd hc hlead

/-- The lead's end of status 0 commits the follower's part (R384). -/
theorem cmdEnd_commits : cmdEnd w p c.queue c.seq 0 s = barrierCount w p 0 false (commitPart w p c (s.tbNow w) s) := by
  simp [cmdEnd, hcmd, hc, hlead]

/-- Another status discards it (R384). -/
theorem cmdEnd_discards {status : Nat} (h : status ≠ 0) :
    cmdEnd w p c.queue c.seq status s = finishCmd w p { c with status := status } (s.tbNow w) (discardCmd w p s) := by
  simp [cmdEnd, failLocal, hcmd, hc, hlead, h]

end

/-! ## What the end of a command leaves -/

theorem recordResult_results (w p q seq code : Nat) (s : State) : (recordResult w p q seq code s).results w p q = ((seq, code) :: s.results w p q).take 1024 := by
  have hput := State.results_putResults_same s w p q (((seq, code) :: s.results w p q).take 1024)
  unfold recordResult
  dsimp only
  split
  · exact hput
  · exact hput

/-- The high-water mark of a queue (R385). -/
theorem recordResult_hwm (w p q code : Nat) {seq : Nat} (s : State) (h : seq < 2 ^ 48) :
    (recordResult w p q seq code s).reg CQ_HWM w (queueIdx p q) = max (s.reg CQ_HWM w (queueIdx p q)) seq := by
  have hsame : (s.putResults (resultKey w p q) (((seq, code) :: s.results w p q).take 1024)).reg CQ_HWM w (queueIdx p q) = s.reg CQ_HWM w (queueIdx p q) := rfl
  unfold recordResult qIdx
  dsimp only
  rw [hsame]
  split
  · rw [State.reg_setReg_same, Nat.mod_eq_of_lt (by omega)]
    omega
  · rw [hsame]
    omega

/-- The state in which a command has ended and its partition still shows state 2. -/
def cmdCleared (w p : Nat) (c : Cmd) (time : Nat) (s : State) : State :=
  (writeRecord w p c.queue c.seq c.status c.flagBits time (recordResult w p c.queue c.seq (c.status + 256 * c.flagBits) s)).modPart w p
    fun x => { x with cmd := none, stepDue := x.stepDue && !c.step, stealing := 0, reported := [], peersReady := [] }

theorem finishCmd_eq (w p : Nat) (c : Cmd) (time : Nat) (s : State) :
    finishCmd w p c time s = if (cmdCleared w p c time s).partState w p = 2 then (cmdCleared w p c time s).setPartState w p 1 else cmdCleared w p c time s := rfl

theorem finishCmd_keeps_cleared (w p : Nat) (c : Cmd) (time : Nat) (s : State) : Keeps (regBit PRT_STAT) (cmdCleared w p c time s) (finishCmd w p c time s) := by
  rw [finishCmd_eq]
  exact .ite (State.setPartState_keeps ..) (.refl _ _)

theorem finishCmd_part (w p : Nat) (c : Cmd) (time : Nat) (s : State) :
    (finishCmd w p c time s).part w p = { s.part w p with cmd := none, stepDue := (s.part w p).stepDue && !c.step, stealing := 0, reported := [], peersReady := [] } := by
  rw [(finishCmd_keeps_cleared ..).part (by decide), cmdCleared, State.part_modPart, (writeRecord_keeps ..).part (by decide +kernel), (recordResult_keeps ..).part (by decide +kernel)]

theorem finishCmd_state_ne (w p : Nat) (c : Cmd) (time : Nat) (s : State) : (finishCmd w p c time s).partState w p ≠ 2 := by
  rw [finishCmd_eq]
  split
  · rw [State.partState_setPartState _ _ _ (by decide)]
    decide
  · assumption

theorem finishCmd_state {w p : Nat} (c : Cmd) (time : Nat) {s : State} (h : s.partState w p = 2) : (finishCmd w p c time s).partState w p = 1 := by
  have hrunning : (cmdCleared w p c time s).partState w p = 2 := by
    rw [cmdCleared, State.partState, State.rd_modPart]
    change State.partState _ w p = 2
    rw [(writeRecord_keeps ..).partState (by decide +kernel), (recordResult_keeps ..).partState (by decide +kernel)]
    exact h
  rw [finishCmd_eq, if_pos hrunning, State.partState_setPartState _ _ _ (by decide)]

theorem finishCmd_results (w p : Nat) (c : Cmd) (time : Nat) (s : State) :
    ((finishCmd w p c time s).results w p c.queue).head? = some (c.seq, c.status + 256 * c.flagBits) := by
  rw [(finishCmd_keeps_cleared ..).results_eq (by decide), cmdCleared, (State.modPart_keeps ..).results_eq (by decide), (writeRecord_keeps ..).results_eq (by decide +kernel),
    recordResult_results]
  rfl

theorem finishCmd_hwm (w p time : Nat) {c : Cmd} (s : State) (h : c.seq < 2 ^ 48) :
    (finishCmd w p c time s).reg CQ_HWM w (queueIdx p c.queue) = max (s.reg CQ_HWM w (queueIdx p c.queue)) c.seq := by
  rw [(finishCmd_keeps_cleared ..).regs CQ_HWM w _ (by decide) (by decide), cmdCleared, State.reg_modPart, (writeRecord_keeps ..).regs CQ_HWM w _ (by decide) (by decide +kernel),
    recordResult_hwm _ _ _ _ _ h]

/-- A lead's completion record is counted, and a doorbell rung for it (R385). -/
theorem writeRecord_lead {w p q : Nat} (seq status flags time : Nat) {s : State} (hlead : s.isLead w p = true) :
    (writeRecord w p q seq status flags time s).rd CQ_CTAIL_COUNT w (queueIdx p q) = (s.rd CQ_CTAIL_COUNT w (queueIdx p q) + 1) % 2 ^ 32 ∧
      (writeRecord w p q seq status flags time s).leafSet w Leaf.cmdDone = true := by
  unfold writeRecord qIdx
  simp only [hlead, Bool.not_true, Bool.false_eq_true, if_false]
  refine ⟨?_, State.raiseP_sets _ _ _ _ (by decide)⟩
  rw [(State.raiseP_keeps ..).rd CQ_CTAIL_COUNT _ _ (by decide) (by decide +kernel), (State.bump_keeps ..).rd CQ_CTAIL_COUNT _ _ (by decide) (by decide +kernel), State.incWrap,
    State.rd_wr_same _ _ _ _ _ (by decide) (by decide), (ringWrite_keeps ..).rd CQ_CTAIL_COUNT _ _ (by decide) (by decide +kernel)]
  rfl

theorem finishCmd_lead {w p : Nat} (c : Cmd) (time : Nat) {s : State} (hlead : s.isLead w p = true) :
    (finishCmd w p c time s).rd CQ_CTAIL_COUNT w (queueIdx p c.queue) = (s.rd CQ_CTAIL_COUNT w (queueIdx p c.queue) + 1) % 2 ^ 32 ∧
      (finishCmd w p c time s).leafSet w Leaf.cmdDone = true := by
  have hrecorded := recordResult_keeps w p c.queue c.seq (c.status + 256 * c.flagBits) s
  have hkeeps := finishCmd_keeps_cleared w p c time s
  obtain ⟨hcount, hleaf⟩ := writeRecord_lead (q := c.queue) c.seq c.status c.flagBits time ((hrecorded.isLead (by decide +kernel) w p).trans hlead)
  rw [hkeeps.rd CQ_CTAIL_COUNT _ _ (by decide) (by decide), State.leafSet_of_keeps hkeeps (by decide), cmdCleared, State.rd_modPart, State.leafSet_modPart]
  exact ⟨hcount.trans (by rw [hrecorded.rd CQ_CTAIL_COUNT _ _ (by decide) (by decide +kernel)]), hleaf⟩

/-! ## Completion -/

/-- The partition when its command completes: the leases consumed and its cores free of it (R385). -/
def completionBegun (w p : Nat) (s : State) : State := completeCores w p (consumeLeases w p s)

theorem completionBegun_part (w p : Nat) (s : State) : (completionBegun w p s).part w p = { s.part w p with leases := [] } := by
  have hsent : ∀ xs : List Nat, (forEach xs s fun k t => sendMgmt w (t.home w p) 600 (t.arbiter (k / 1024)) p 0x13 0 (semOffset (k % 1024)) [] t).part w p = s.part w p :=
    fun xs => (forEach_keeps (M := 0x80000) (fun k t => sendMgmt_keeps ..) xs (.refl _ _)).part (by decide) w p
  rw [completionBegun, (completeCores_keeps ..).part (by decide +kernel), consumeLeases, State.part_modPart, hsent]

theorem completionBegun_keeps (w p : Nat) (s : State) : ∃ m, Keeps m s (completionBegun w p s) ∧ m.testBit (64 + PRT_STAT.id) = false ∧ m.testBit (64 + PRT_DEF.id) = false ∧
    m.testBit (64 + CQ_HWM.id) = false ∧ m.testBit (64 + CQ_CTAIL.id) = false :=
  ⟨_, (consumeLeases_keeps w p s).trans (completeCores_keeps ..), by decide +kernel⟩

/-- A committed single-wafer command with nothing left to drain completes (R385). -/
theorem commandComplete_alone {w p : Nat} {c : Cmd} {s : State} (hcmd : (s.part w p).cmd = some c) (hc : c.committed = true) (hstep : c.step = false)
    (hdrain : s.draining w p = false) (hlead : s.isLead w p = true) (hpeers : s.peersOf w p = []) (hstate : s.partState w p = 2)
    (hphase : (s.part w p).phase = .none) (hdonating : (s.part w p).donating = false) :
    commandComplete w p s = finishCmd w p c c.commitTime (completionBegun w p s) := by
  obtain ⟨m, hkeeps, hprt, -⟩ := completionBegun_keeps w p s
  have hone := finishCmd_state c c.commitTime ((hkeeps.partState hprt w p).trans hstate)
  have hpart := (finishCmd_part w p c c.commitTime (completionBegun w p s)).trans (by rw [completionBegun_part])
  unfold completionBegun at hone hpart ⊢
  have hdonated : donated w p (finishCmd w p c c.commitTime (completeCores w p (consumeLeases w p s))) = finishCmd w p c c.commitTime (completeCores w p (consumeLeases w p s)) := by
    simp [donated, hpart, hdonating]
  have hended : drainEnded w p (finishCmd w p c c.commitTime (completeCores w p (consumeLeases w p s))) = finishCmd w p c c.commitTime (completeCores w p (consumeLeases w p s)) := by
    simp [drainEnded, hpart, hphase]
  simp [commandComplete, hcmd, hc, hstep, hdrain, hlead, hpeers, hdonated, hended, hone]

end Sys2Proof.Machine

open Sys2Proof Sys2Proof.Machine

/-- Settles O33: at the commit instant each core's buffer drains under a committed command, which no fault of a core takes back; an end is one record of the command's result. -/
theorem commitAndCompletion : Obligations.CommitAndCompletion := by
  intro w p s c hcmd pt i
  refine ⟨fun hc hstate hidle => ⟨fun hlead hpeers => ⟨_, exec_commitInstant .., ?_⟩, fun l hlead hleadOf hnew => ⟨_, exec_commitInstant .., ?_⟩⟩,
    fun q seq src hlead hq hseq hc hnew => ⟨_, exec_idleReport .., ?_⟩, fun q seq status hlead hq hseq hc => ⟨fun hzero => ⟨_, exec_cmdEnd .., ?_⟩, fun hne => ⟨_, exec_cmdEnd .., ?_⟩⟩,
    fun hc hstep hseq hqueue hdrain hlead hpeers hstate hphase hdonating => ⟨_, exec_commandComplete .., ?_⟩⟩
  · obtain ⟨s1, hcores, hcore, heq⟩ := commitInstant_alone hcmd hc hstate hidle hlead hpeers
    rw [heq]
    exact ⟨commitPart_committed .., fun x hx hpart => commitPart_cb c _ (by rwa [hcores]) (by rwa [hcore])⟩
  · rw [commitInstant_follower hcmd hc hstate hidle hlead hleadOf hnew]
    have hpart := (sendPeer_keeps w p l 0x21 0 c.queue (padTo 32 (leBytes 6 c.seq)) (s.modPart w p fun x => { x with reported := x.reported ++ [w.val], reportAt := s.now })).part (by decide) w p
    beta_reduce
    rw [hpart, State.part_modPart]
    have hlen : (padTo 32 (leBytes 6 c.seq)).length = 32 := rfl
    exact ⟨hcmd, rfl, _, niQueue_sendMgmt _ _ _ _ _ _ _ _ (by omega) (by omega) _, rfl, rfl⟩
  · rw [← hq, ← hseq, idleReport_noted hcmd hc hlead hnew, idleNoted]
    beta_reduce
    rw [State.part_modPart]
    exact ⟨rfl, hcmd⟩
  · subst hzero
    rw [← hq, ← hseq]
    obtain ⟨d, hd, hcommitted, htime, hsame, -⟩ := commitPart_committed w p c (s.tbNow w) s
    exact ⟨d, (congrArg (fun t : State => (t.part w p).cmd) (cmdEnd_commits hcmd hc hlead)).trans (by rw [(barrierCount_keeps ..).part (by decide +kernel)]; exact hd), hcommitted, htime, hsame⟩
  · rw [← hq, ← hseq, cmdEnd_discards hcmd hc hlead (by simpa [← BitVec.toNat_inj] using hne)]
    exact ⟨congrArg Part.cmd (finishCmd_part ..), finishCmd_state_ne w p _ _ _, finishCmd_results ..⟩
  · obtain ⟨m, hkeeps, hprt, hdef, hhwm, hctail⟩ := completionBegun_keeps w p s
    rw [commandComplete_alone hcmd hc hstep hdrain hlead hpeers hstate hphase hdonating]
    obtain ⟨hcount, hleaf⟩ := finishCmd_lead c c.commitTime ((hkeeps.isLead hdef w p).trans hlead)
    refine ⟨congrArg Part.cmd (finishCmd_part ..), ?_, finishCmd_state c _ ((hkeeps.partState hprt w p).trans hstate), ?_, finishCmd_results .., ?_, hleaf⟩
    · rw [finishCmd_part, completionBegun_part]
    · rw [finishCmd_hwm _ _ _ _ hseq, hkeeps.regs CQ_HWM _ _ (by decide) hhwm]
    · rw [hcount, hkeeps.rd CQ_CTAIL_COUNT _ _ (by decide) hctail]

end

section
/-!
PROOF. A command that is taken on a chart whose two seats are one core (R381, R384).
-/
set_option Elab.async false
namespace Sys2Proof.Machine

/-- Wafer 0's partition 0 is about to take its first command, from the staging window of field 0. Its chart is not well formed, which the statement does not ask: its two seats lie
at core 624 of field 0 (position 156 of quad 2, one row past a field) and at core 24 of field 1: the model keeps both under one key. The fields' CORE_MODE differ. -/
def seatsOnOneCore : State :=
  let chart := ((State.reset.setReg NET_SEAT_DATA 0 (seatIdx 0 true 0) (2 * 2 ^ 37 + 2)).setReg NET_SEAT_DATA 0 (seatIdx 0 false 0) (2 ^ 20 + 2 * 2 ^ 41 + 156 * 2 ^ 43)).setReg
    NET_SEAT_DATA 0 (seatIdx 0 false 1) (1 + 2 ^ 20 + 2 ^ 34)
  let ready := ((chart.wr PRT_DEF_VALID 0 0 1).wr PRT_STAT_STATE 0 0 1).wr PRT_QCFG_QUEUES 0 0 1
  let queued := ((ready.setReg PRT_QBASE 0 0 0x800000000).wr LOFT_STG_PART_PART 0 0 0).setReg CQ_TAIL 0 0 1
  (queued.setReg CORE_MODE 0 1 0).withLoft [(loftKey 0 0 0x580000000, 1)]

/-- The 64 bytes at the head of its queue. -/
def seatsOnOneCoreEntry : List Nat :=
  padTo 64 (seRead 0 0 (seatsOnOneCore.entryOff 0 0 0 (seatsOnOneCore.reg CQ_HEAD 0 (queueIdx 0 0))) 64 seatsOnOneCore).1

theorem seatsOnOneCore_cores : seatsOnOneCore.cmdCores 0 0 = [(0, 624, 0), (1, 24, 1)] := by decide +kernel

theorem seatsOnOneCore_core (t : State) : t.core 0 1 24 = t.core 0 0 624 := rfl

theorem seatsOnOneCore_modes : seatsOnOneCore.reg CORE_MODE 0 0 ≠ seatsOnOneCore.reg CORE_MODE 0 1 := by decide +kernel

theorem seatsOnOneCore_takes : seatsOnOneCore.mayTake 0 0 = true ∧ seatsOnOneCore.pickQueue 0 0 = some 0 ∧ mfind (seatsOnOneCore.part 0 0).cut 0 = none ∧
    seatsOnOneCore.stepQueue 0 0 ≠ some 0 := by decide +kernel

theorem seatsOnOneCore_entry : seatsOnOneCore.entryBad 0 0 (entryOf 0 seatsOnOneCoreEntry) seatsOnOneCoreEntry = false ∧
    seatsOnOneCore.rd CQ_HWM_SEQ 0 (queueIdx 0 0) < (entryOf 0 seatsOnOneCoreEntry).seq := by decide +kernel

end Sys2Proof.Machine

open Sys2Proof Sys2Proof.Machine

/-- Refutes O32: after a take on `seatsOnOneCore` each of the two seats would show the CORE_MODE of its own field, but they are one core and the fields' modes differ. -/
theorem not_doorbellsAndTaking : ¬ Obligations.DoorbellsAndTaking := by
  unfold Obligations.DoorbellsAndTaking
  intro h
  obtain ⟨-, htaking, -⟩ := h 0 0 seatsOnOneCore
  obtain ⟨hmay, hpick, hcut, hstep⟩ := seatsOnOneCore_takes
  obtain ⟨hgood, hnew⟩ := seatsOnOneCore_entry
  obtain ⟨-, -, -, hfresh⟩ := htaking hmay 0 (by decide) hpick hcut hstep
  obtain ⟨t, -, -, -, -, hcores⟩ := hfresh hgood hnew
  have hfirst : (t.core 0 0 624).mode = seatsOnOneCore.reg CORE_MODE 0 0 := (hcores (0, 624, 0) (seatsOnOneCore_cores ▸ List.mem_cons_self)).2.2.1
  have hsecond : (t.core 0 1 24).mode = seatsOnOneCore.reg CORE_MODE 0 1 := (hcores (1, 24, 1) (seatsOnOneCore_cores ▸ List.mem_cons_of_mem _ List.mem_cons_self)).2.2.1
  exact seatsOnOneCore_modes (hfirst.symm.trans ((congrArg Core.mode (seatsOnOneCore_core t)).symm.trans hsecond))

end

section
/-!
SUPPORT. What the operations of pre-emption leave of a partition's registers and record: a request, a cut, and the command that goes back to its queue
(R413-R424).
-/
set_option Elab.async false
namespace Sys2Proof.Machine

/-! ## Reads beside a write -/

/-- A field of another register, or of other bits of the register, reads as before in every copy. -/
theorem State.rd_wr_apart (s : State) (f g : Fld) (w i v x j : Nat)
    (h : g.reg.id ≠ f.reg.id ∨ g.reg = f.reg ∧ f.lo ≤ f.hi ∧ g.hi < 64 ∧ (g.hi < f.lo ∨ f.hi < g.lo)) : (s.wr f w i v).rd g x j = s.rd g x j := by
  by_cases hcopy : x = w ∧ j = i
  · obtain ⟨rfl, rfl⟩ := hcopy
    rcases h with h | ⟨hreg, hf, hg, hbits⟩
    · exact State.rd_wr_id _ _ _ _ _ _ _ _ h
    · exact State.rd_wr_field _ _ _ _ _ _ hreg hf hg hbits
  · exact State.rd_wr_ne _ _ _ _ _ _ _ _ (by tauto)

/-- A saturating write of a value that the field can hold shows the value. -/
theorem State.rd_wrSat_same (s : State) (f : Fld) (w i v : Nat) (h : f.lo ≤ f.hi) (h2 : f.hi < 64) : (s.wrSat f w i v).rd f w i = min v (2 ^ f.width - 1) := by
  rw [State.wrSat, State.rd_wr_same _ _ _ _ _ h h2]
  exact Nat.mod_eq_of_lt (lt_of_le_of_lt (Nat.min_le_right _ _) (Nat.sub_lt (Nat.two_pow_pos _) Nat.one_pos))

theorem State.rd_setPartState (s : State) (y : Fld) (w p st x i : Nat) (h : y.reg.id ≠ PRT_STAT.id) : (s.setPartState w p st).rd y x i = s.rd y x i := by
  have hwr : ∀ (t : State) (z : Fld) (v : Nat), z.reg = PRT_STAT → (t.wr z w p v).rd y x i = t.rd y x i := fun t z v hz => State.rd_wr_id _ _ _ _ _ _ _ _ (by rw [hz]; exact h)
  unfold State.setPartState
  dsimp only
  split
  all_goals rw [hwr _ _ _ rfl, hwr _ _ _ rfl, hwr _ _ _ rfl, hwr _ _ _ rfl, hwr _ _ _ rfl]

@[simp] theorem State.part_setPartState (s : State) (w p st x r : Nat) : (s.setPartState w p st).part x r = s.part x r :=
  (s.setPartState_keeps w p st).part (by decide) x r

@[simp] theorem State.core_setPartState (s : State) (w p st x f u : Nat) : (s.setPartState w p st).core x f u = s.core x f u :=
  (s.setPartState_keeps w p st).core (by decide) x f u

@[simp] theorem State.core_wr (s : State) (y : Fld) (w i v x f u : Nat) : (s.wr y w i v).core x f u = s.core x f u := rfl

/-! ## PMT_STAT.STATE and PRT_STAT.STATE -/

theorem State.pmt_wr (s : State) (y : Fld) (w i v x p : Nat)
    (h : PMT_STAT_STATE.reg.id ≠ y.reg.id ∨ PMT_STAT_STATE.reg = y.reg ∧ y.lo ≤ y.hi ∧ PMT_STAT_STATE.hi < 64 ∧ (PMT_STAT_STATE.hi < y.lo ∨ y.hi < PMT_STAT_STATE.lo)) :
    (s.wr y w i v).pmt x p = s.pmt x p := s.rd_wr_apart y PMT_STAT_STATE w i v x p h

theorem State.pmt_setPmt (s : State) (w p : Nat) {v : Nat} (h : v < 8) : (s.setPmt w p v).pmt w p = v := by
  rw [State.pmt, State.setPmt, State.rd_wr_same _ _ _ _ _ (by decide) (by decide)]
  exact Nat.mod_eq_of_lt h

@[simp] theorem State.pmt_modPart (s : State) (w p : Nat) (g : Part → Part) (x r : Nat) : (s.modPart w p g).pmt x r = s.pmt x r := rfl

@[simp] theorem State.pmt_setPartState (s : State) (w p st x r : Nat) : (s.setPartState w p st).pmt x r = s.pmt x r := s.rd_setPartState PMT_STAT_STATE w p st x r (by decide)

theorem State.partState_wr (s : State) (y : Fld) (w i v x p : Nat) (h : PRT_STAT.id ≠ y.reg.id) : (s.wr y w i v).partState x p = s.partState x p :=
  State.rd_wr_id _ _ _ _ _ _ _ _ h

@[simp] theorem State.partState_modPart (s : State) (w p : Nat) (g : Part → Part) (x r : Nat) : (s.modPart w p g).partState x r = s.partState x r := rfl

@[simp] theorem State.part_setPmt (s : State) (w p v x r : Nat) : (s.setPmt w p v).part x r = s.part x r := rfl

theorem Keeps.pmt {m : Nat} {s t : State} (h : Keeps m s t) (hm : m.testBit (64 + PMT_STAT.id) = false) (w p : Nat) : t.pmt w p = s.pmt w p :=
  h.rd PMT_STAT_STATE w p (by decide) hm

/-- A partition's record is changed on its own wafer only. -/
theorem State.part_modPart_ne (s : State) {w p x r : Nat} (g : Part → Part) (hx : x ≠ w) (hp : p < 288) (hr : r < 288) : (s.modPart w p g).part x r = s.part x r := by
  have hkey : partKey x r ≠ partKey w p := by
    unfold partKey
    omega
  simp only [State.part, State.modPart, State.getParts_putParts, if_neg hkey]

/-! ## Which cores a command has, and where its lofts are -/

section
variable {m : Nat} {s t : State} (h : Keeps m s t)
include h

/-- The units of a partition's command depend on its chart and on the skip map of the stamped act (R215). -/
theorem Keeps.cmdCores (hchart : m.testBit (64 + NET_SEAT_DATA.id) = false) (hroute : m.testBit (64 + NET_RT_DATA.id) = false) (hact : m.testBit (64 + NET_ACT_STAT.id) = false)
    (w p : Nat) : t.cmdCores w p = s.cmdCores w p := by
  have hseats := h.regs NET_SEAT_DATA w
  have hskip : ∀ slot field c, t.skipMap w slot field c = s.skipMap w slot field c := fun slot field c => by
    simp only [State.skipMap, State.route, State.stamp, h.regs NET_RT_DATA w _ (by decide) hroute, h.rd NET_ACT_STAT_STAMP w 0 (by decide) hact]
  have hsegs : t.segs false w p = s.segs false w p := by
    simp only [State.segs, State.seatCount, hseats _ (by decide) hchart, Bool.false_eq_true, if_false]
  have hunit : ∀ g r, t.seatUnit w g r = s.seatUnit w g r := fun g r => by
    simp only [State.seatUnit, hskip]
  unfold State.cmdCores State.localSeats
  rw [hsegs]
  simp only [hunit]

theorem Keeps.deadLoftIn (hquads : m.testBit (64 + PRT_QMASK.id) = false) (hloft : m.testBit (64 + LOFT_STAT.id) = false) (w p : Nat) :
    t.deadLoftIn w p = s.deadLoftIn w p := by
  simp only [State.deadLoftIn, State.fields, State.fieldInPart, State.loftDead, h.quadOf_live hquads, h.rd LOFT_STAT_DEAD _ _ (by decide) hloft]

end

/-! ## Messages to the other partitions of a job -/

section
variable (w p v : Nat) (s : State)

theorem forwardPmt_rd {y : Fld} (hid : y.reg.id < 320) (x i : Nat) : (forwardPmt w p v s).rd y x i = s.rd y x i := by
  have hmask : (2 ^ 19).testBit (64 + y.reg.id) = false := by
    rw [Nat.testBit_two_pow, decide_eq_false_iff_not]
    omega
  exact (forwardPmt_keeps w p v s).rd y x i hid hmask

@[simp] theorem forwardPmt_pmt (x r : Nat) : (forwardPmt w p v s).pmt x r = s.pmt x r := (forwardPmt_keeps w p v s).pmt (by decide +kernel) x r

@[simp] theorem forwardPmt_partState (x r : Nat) : (forwardPmt w p v s).partState x r = s.partState x r := (forwardPmt_keeps w p v s).partState (by decide +kernel) x r

@[simp] theorem forwardPmt_part (x r : Nat) : (forwardPmt w p v s).part x r = s.part x r := (forwardPmt_keeps w p v s).part (by decide +kernel) x r

@[simp] theorem forwardPmt_leafSet (x : Nat) (l : Leaf) : (forwardPmt w p v s).leafSet x l = s.leafSet x l :=
  State.leafSet_of_keeps (forwardPmt_keeps w p v s) (by decide +kernel) x l

end

section
variable (s : State) (w p : Nat) (l : Leaf)

@[simp] theorem State.pmt_raiseP (x r : Nat) : (s.raiseP w p l).pmt x r = s.pmt x r := (s.raiseP_keeps w p l).pmt (by decide +kernel) x r

@[simp] theorem State.partState_raiseP (x r : Nat) : (s.raiseP w p l).partState x r = s.partState x r := (s.raiseP_keeps w p l).partState (by decide +kernel) x r

@[simp] theorem State.part_raiseP (x r : Nat) : (s.raiseP w p l).part x r = s.part x r := (s.raiseP_keeps w p l).part (by decide +kernel) x r

end

/-! ## A command that goes back to the head of its queue -/

theorem returnLeases_part (w p : Nat) (s : State) : (returnLeases w p s).part w p = { s.part w p with leases := [] } := by
  have hsent : ∀ xs : List Nat, (forEach xs s fun k t => sendMgmt w (t.home w p) 600 (t.arbiter (k / 1024)) p 0x14 0 (semOffset (k % 1024)) [] t).part w p = s.part w p :=
    fun xs => (forEach_keeps (M := 0x80000) (fun k t => sendMgmt_keeps ..) xs (.refl _ _)).part (by decide) w p
  rw [returnLeases, State.part_modPart, hsent]

theorem discardCmd_part (w p : Nat) (s : State) : (discardCmd w p s).part w p =
    { s.part w p with leases := [], cmd := none, stealing := 0, reported := [], peersReady := [], savedCores := [], held := false } := by
  rw [discardCmd, State.part_modPart, returnLeases_part, (withdrawQueued_keeps ..).part (by decide), (endCores_keeps ..).part (by decide +kernel)]

/-- The command as it stands at the head of its queue again (R380). -/
def Cmd.uncommitted (c : Cmd) : Cmd := { c with committed := false, peerLost := false }

/-- A partition's record with a command back at the head of its queue (R380). -/
def Part.withCut (x : Part) (c : Cmd) : Part := { x with cut := (c.queue, c.uncommitted) :: x.cut.filter fun y => y.1 ≠ c.queue }

/-- Of the partitions' records, the return of a command to its queue changes no more than the list of cut commands (R380). -/
theorem requeue_part (w p : Nat) (c : Cmd) (s : State) (x r : Nat) : (requeue w p c s).part x r = (s.modPart w p fun y => y.withCut c).part x r := by
  have hhead : ∀ t : State, (if c.step then t else t.incWrap CQ_HEAD_COUNT w (qIdx p c.queue) (2 ^ 32 - 1)).part x r = t.part x r := fun t => by
    split
    · rfl
    · exact State.part_wr ..
  have hidle : ∀ t : State, (if t.partState w p = 2 then t.setPartState w p 1 else t).part x r = t.part x r := fun t => by
    split
    · exact t.part_setPartState ..
    · rfl
  exact (hidle _).trans (hhead _)

/-- A partition's record with its command cut (R420): its leases are gone too. -/
def Part.requeued (x : Part) (c : Cmd) : Part :=
  ({ x with leases := [], cmd := none, stealing := 0, reported := [], peersReady := [], savedCores := [], held := false } : Part).withCut c

/-- What a cut makes of a partition's record: a command that has committed stays. -/
def Part.cutRun (x : Part) : Part :=
  match x.cmd with
  | some c => if c.committed then x else x.requeued c
  | none => x

theorem cutRunning_part (w p : Nat) (s : State) : (cutRunning w p s).part w p = (s.part w p).cutRun := by
  unfold cutRunning Part.cutRun
  cases (s.part w p).cmd with
  | none => rfl
  | some c =>
    dsimp only
    split
    · rfl
    · rw [requeue_part, State.part_modPart, discardCmd_part]
      rfl

theorem Part.cutRun_running {x : Part} {c : Cmd} (h : x.cmd = some c) (hc : c.committed = false) : x.cutRun = x.requeued c := by
  simp [Part.cutRun, h, hc]

/-- A cut leaves the components of a partition's record that do not speak of its command. -/
theorem Part.cutRun_component {α : Type} {g : Part → α} (hg : ∀ (x : Part) (c : Cmd), g (x.requeued c) = g x) (x : Part) : g x.cutRun = g x := by
  unfold Part.cutRun
  split
  · split
    · rfl
    · exact hg x _
  · rfl

/-! ## The start of a cut -/

section
variable (w p endCode : Nat) (s : State)

theorem beginCut_part : (beginCut w p endCode s).part w p = { ({ s.part w p with discardAccept := true, endCode := endCode } : Part).cutRun with phase := .surrender } := by
  unfold beginCut
  dsimp only
  rw [State.part_modPart, State.part_wr, State.wrSat, State.part_wr, State.part_setPartState, State.part_wr, State.part_setPmt, (withdrawQueued_keeps ..).part (by decide),
    cutRunning_part, State.part_modPart]

theorem beginCut_pmt : (beginCut w p endCode s).pmt w p = 1 := by
  unfold beginCut State.wrSat
  dsimp only
  rw [State.pmt_modPart, State.pmt_wr _ _ _ _ _ _ _ (by decide), State.pmt_wr _ _ _ _ _ _ _ (by decide), State.pmt_setPartState, State.pmt_wr _ _ _ _ _ _ _ (by decide),
    State.pmt_setPmt _ _ _ (by decide)]

theorem beginCut_partState : (beginCut w p endCode s).partState w p = 1 := by
  unfold beginCut State.wrSat
  dsimp only
  rw [State.partState_modPart, State.partState_wr _ _ _ _ _ _ _ (by decide), State.partState_wr _ _ _ _ _ _ _ (by decide), State.partState_setPartState _ _ _ (by decide)]

/-- What the start of a cut shows (R420). -/
structure CutBegun (w p endCode : Nat) (t : State) : Prop where
  pmt : t.pmt w p = 1
  partState : t.partState w p = 1
  phase : (t.part w p).phase = .surrender
  endCode : (t.part w p).endCode = endCode
  discardAccept : (t.part w p).discardAccept = true

theorem beginCut_begun : CutBegun w p endCode (beginCut w p endCode s) := by
  refine ⟨beginCut_pmt .., beginCut_partState .., ?_, ?_, ?_⟩
  all_goals rw [beginCut_part]
  · exact Part.cutRun_component (g := Part.endCode) (fun _ _ => rfl) _
  · exact Part.cutRun_component (g := Part.discardAccept) (fun _ _ => rfl) _

end

/-- What the start of a cut shows stays as its job is told (R437). -/
theorem CutBegun.forwarded {w p endCode : Nat} {t : State} (h : CutBegun w p endCode t) (v : Nat) : CutBegun w p endCode (forwardPmt w p v t) := by
  refine ⟨?_, ?_, ?_, ?_, ?_⟩
  · rw [forwardPmt_pmt, h.pmt]
  · rw [forwardPmt_partState, h.partState]
  · rw [forwardPmt_part, h.phase]
  · rw [forwardPmt_part, h.endCode]
  · rw [forwardPmt_part, h.discardAccept]

/-- What a cut leaves of the command it discards (R420 step 2). -/
theorem beginCut_requeues {w p : Nat} (endCode : Nat) {c : Cmd} {s : State} (hcmd : (s.part w p).cmd = some c) (hc : c.committed = false) :
    ((beginCut w p endCode s).part w p).cmd = none ∧ mfind ((beginCut w p endCode s).part w p).cut c.queue = some c.uncommitted ∧
      ((beginCut w p endCode s).part w p).leases = [] := by
  have hfind : ∀ xs : List (Nat × Cmd), mfind ((c.queue, c.uncommitted) :: xs) c.queue = some c.uncommitted := fun xs => by simp [mfind]
  rw [beginCut_part, Part.cutRun_running (x := { s.part w p with discardAccept := true, endCode := endCode }) hcmd hc]
  exact ⟨rfl, hfind _, rfl⟩

/-- A partition of another wafer keeps its record when a command is cut. -/
theorem cutRunning_part_ne {w p x r : Nat} (s : State) (hx : x ≠ w) (hp : p < 288) (hr : r < 288) : (cutRunning w p s).part x r = s.part x r := by
  have hreturn : ∀ t : State, (returnLeases w p t).part x r = t.part x r := fun t => by
    rw [returnLeases, State.part_modPart_ne _ _ hx hp hr, (forEach_keeps (M := 0x80000) (fun k t => sendMgmt_keeps ..) _ (.refl _ _)).part (by decide)]
  have hdiscard : (discardCmd w p s).part x r = s.part x r := by
    rw [discardCmd, State.part_modPart_ne _ _ hx hp hr, hreturn, (withdrawQueued_keeps ..).part (by decide), (endCores_keeps ..).part (by decide +kernel)]
  have hrequeue : ∀ (c : Cmd) (t : State), (requeue w p c t).part x r = t.part x r := fun c t => by rw [requeue_part, State.part_modPart_ne _ _ hx hp hr]
  unfold cutRunning
  split
  · split
    · rfl
    · rw [hrequeue, hdiscard]
  · rfl

theorem beginCut_part_ne {w p x r : Nat} (endCode : Nat) (s : State) (hx : x ≠ w) (hp : p < 288) (hr : r < 288) : (beginCut w p endCode s).part x r = s.part x r := by
  unfold beginCut
  dsimp only
  rw [State.part_modPart_ne _ _ hx hp hr, State.part_wr, State.wrSat, State.part_wr, State.part_setPartState, State.part_wr, State.part_setPmt,
    (withdrawQueued_keeps ..).part (by decide), cutRunning_part_ne _ hx hp hr, State.part_modPart_ne _ _ hx hp hr]

theorem beginCut_pmt_ne {w p x r : Nat} (endCode : Nat) (s : State) (hx : x ≠ w) : (beginCut w p endCode s).pmt x r = s.pmt x r := by
  have hwr : ∀ (t : State) (y : Fld) (v : Nat), (t.wr y w p v).pmt x r = t.pmt x r := fun t y v => State.rd_wr_ne _ _ _ _ _ _ _ _ (.inr (.inl hx))
  unfold beginCut State.wrSat State.setPmt
  dsimp only
  rw [State.pmt_modPart, hwr, hwr, State.pmt_setPartState, hwr, hwr, (withdrawQueued_keeps ..).pmt (by decide), (cutRunning_keeps ..).pmt (by decide +kernel), State.pmt_modPart]

end Sys2Proof.Machine
end

section
/-!
PROOF. Requests, refusals and resume (R413, R416, R417, R420, R424, R427, R430, R446).
-/
set_option Elab.async false
namespace Sys2Proof.Machine

theorem exec_preempt (w : WaferId) (p : PartId) (s : State) : exec (.preempt w p) s = .next (preempt w p s) := rfl

theorem exec_resume (w : WaferId) (p : PartId) (s : State) : exec (.resume w p) s = .next (resume w p s) := rfl

theorem exec_pmtFwd (w : WaferId) (p : PartId) (v : BitVec 8) (s : State) : exec (.pmtFwd w p v) s = .next (pmtForwarded w p v.toNat s) := rfl

/-! ## Refusals -/

/-- The capture of a refused request (R413): the first one stands until it is cleared. -/
def refusalCaptured (w p reason : Nat) (s : State) : State :=
  if s.rd PMT_REFUSED_VALID w 0 = 1 then s
  else ((s.wr PMT_REFUSED_PART w 0 p).wr PMT_REFUSED_REASON w 0 reason).wr PMT_REFUSED_VALID w 0 1

theorem pmtRefuse_eq (w p reason : Nat) (s : State) : pmtRefuse w p reason s = (refusalCaptured w p reason s).raiseP w p Leaf.pmtRefused := rfl

/-- What a refused request shows (R413): the partition as before, the leaf, and the first refusal captured. -/
def RequestRefused (w p reason : Nat) (s t : State) : Prop :=
  t.pmt w p = s.pmt w p ∧ t.partState w p = s.partState w p ∧ t.leafSet w Leaf.pmtRefused = true ∧
    (s.rd PMT_REFUSED_VALID w 0 = 0 → t.rd PMT_REFUSED_VALID w 0 = 1 ∧ t.rd PMT_REFUSED_REASON w 0 = reason ∧ t.rd PMT_REFUSED_PART w 0 = p)

theorem refusalCaptured_fields {w p reason : Nat} {s : State} (hp : p < 512) (hr : reason < 8) (h : s.rd PMT_REFUSED_VALID w 0 = 0) :
    (refusalCaptured w p reason s).rd PMT_REFUSED_VALID w 0 = 1 ∧ (refusalCaptured w p reason s).rd PMT_REFUSED_REASON w 0 = reason ∧
      (refusalCaptured w p reason s).rd PMT_REFUSED_PART w 0 = p := by
  rw [refusalCaptured, if_neg (by omega)]
  refine ⟨State.rd_wr_same _ _ _ _ _ (by decide) (by decide), ?_, ?_⟩
  · rw [State.rd_wr_apart _ _ _ _ _ _ _ _ (by decide), State.rd_wr_same _ _ _ _ _ (by decide) (by decide)]
    exact Nat.mod_eq_of_lt hr
  · rw [State.rd_wr_apart _ _ _ _ _ _ _ _ (by decide), State.rd_wr_apart _ _ _ _ _ _ _ _ (by decide), State.rd_wr_same _ _ _ _ _ (by decide) (by decide)]
    exact Nat.mod_eq_of_lt hp

theorem pmtRefuse_refused {w p reason : Nat} (s : State) (hp : p < 512) (hr : reason < 8) : RequestRefused w p reason s (pmtRefuse w p reason s) := by
  have hk := pmtRefuse_keeps w p reason s
  have hraise := (refusalCaptured w p reason s).raiseP_keeps w p Leaf.pmtRefused
  refine ⟨hk.pmt (by decide +kernel) w p, hk.partState (by decide +kernel) w p, State.raiseP_sets _ _ _ _ (by decide), fun hfree => ?_⟩
  rw [pmtRefuse_eq, hraise.rd _ _ _ (by decide) (by decide +kernel), hraise.rd _ _ _ (by decide) (by decide +kernel), hraise.rd _ _ _ (by decide) (by decide +kernel)]
  exact refusalCaptured_fields hp hr hfree

theorem preempt_undefined {w p : Nat} {s : State} (h : s.defined w p = false) : preempt w p s = pmtRefuse w p 1 s := by simp [preempt, h]

theorem preempt_follower {w p : Nat} {s : State} (hdef : s.defined w p = true) (h : s.isLead w p = false) : preempt w p s = pmtRefuse w p 3 s := by simp [preempt, hdef, h]

theorem resume_undefined {w p : Nat} {s : State} (h : s.defined w p = false) : resume w p s = pmtRefuse w p 1 s := by simp [resume, h]

theorem resume_follower {w p : Nat} {s : State} (hdef : s.defined w p = true) (h : s.isLead w p = false) : resume w p s = pmtRefuse w p 3 s := by simp [resume, hdef, h]

section
variable {w p : Nat} {s : State} (hdef : s.defined w p = true) (hlead : s.isLead w p = true)
include hdef hlead

theorem preempt_state (h : s.partState w p = 3 ∨ s.partState w p = 4 ∨ s.pmt w p ≠ 0) : preempt w p s = pmtRefuse w p 2 s := by
  simp only [preempt, hdef, hlead, Bool.not_true, Bool.false_eq_true, if_false, if_pos h]

theorem preempt_accepted (h3 : s.partState w p ≠ 3) (h4 : s.partState w p ≠ 4) (hpmt : s.pmt w p = 0) : preempt w p s = forwardPmt w p 1 (startPreempt w p s) := by
  simp [preempt, hdef, hlead, h3, h4, hpmt]

theorem resume_faulted (h : s.pmt w p = 0 ∧ s.partState w p = 3 ∧ s.rd PMT_STAT_LAST_END w p = 7) : resume w p s = pmtRefuse w p 5 s := by
  simp only [resume, hdef, hlead, Bool.not_true, Bool.false_eq_true, if_false, if_pos h]

theorem resume_not_stopped (h2 : s.pmt w p ≠ 2) (h5 : s.pmt w p ≠ 5) (hfault : ¬ (s.pmt w p = 0 ∧ s.partState w p = 3 ∧ s.rd PMT_STAT_LAST_END w p = 7)) :
    resume w p s = pmtRefuse w p 4 s := by
  simp only [resume, hdef, hlead, Bool.not_true, Bool.false_eq_true, if_false, if_neg hfault, if_pos (And.intro h2 h5)]

theorem resume_accepted (h : s.pmt w p = 2 ∨ s.pmt w p = 5) : resume w p s = forwardPmt w p 2 (resumeOne w p (ghostExit w s)) := by
  have hne : s.pmt w p ≠ 0 := by omega
  have hone : ¬ (s.pmt w p ≠ 2 ∧ s.pmt w p ≠ 5) := by omega
  simp only [resume, hdef, hlead, Bool.not_true, Bool.false_eq_true, if_false, if_neg hone, hne, false_and]

end

/-! ## A request -/

/-- The partition with its request noted (R413). -/
def requestNoted (w p : Nat) (s : State) : State := (s.wr PMT_LAST_US_DRAIN_US w p 0).modPart w p fun x => { x with reqTime := s.now }

theorem requestNoted_keeps (w p : Nat) (s : State) : Keeps (0x400 ||| regBit PMT_LAST_US) s (requestNoted w p s) :=
  .next (State.modPart_keeps ..) (by decide +kernel) ((State.wr_keeps s PMT_LAST_US_DRAIN_US w p 0).widen (by decide +kernel))

/-- The state in which a request is carried out: nothing of the last pre-emption shows in HTC_WHY. -/
def requestBegun (w p : Nat) (s : State) : State := (requestNoted w p s).wr PMT_STAT_HTC_WHY w p 0

theorem requestBegun_part (w p : Nat) (s : State) : (requestBegun w p s).part w p = { s.part w p with reqTime := s.now } := by
  rw [requestBegun, State.part_wr, requestNoted, State.part_modPart, State.part_wr]

theorem requestBegun_deadLoftIn (w p : Nat) (s : State) : (requestBegun w p s).deadLoftIn w p = s.deadLoftIn w p :=
  (((requestNoted_keeps w p s).trans (State.wr_keeps _ PMT_STAT_HTC_WHY w p 0)).deadLoftIn (by decide +kernel) (by decide +kernel) w p)

/-- Where HALT_ON_FAULT holds no core, no command is discarded before the request (R716). -/
theorem faultHeldFirst_none {w p : Nat} {s : State} (h : ∀ x ∈ s.cmdCores w p, (s.core w x.1 x.2.1).faultHeld = false) :
    faultHeldFirst w p (requestNoted w p s) = requestNoted w p s := by
  have hk := requestNoted_keeps w p s
  have hnone : ¬ (((requestNoted w p s).cmdCores w p).any fun x =>
      ((requestNoted w p s).core w x.1 x.2.1).faultHeld && ((requestNoted w p s).core w x.1 x.2.1).part == some p) = true := by
    simp only [hk.cmdCores (by decide +kernel) (by decide +kernel) (by decide +kernel), hk.core (by decide +kernel), List.any_eq_true, Bool.and_eq_true, not_exists, not_and]
    intro x hx hheld
    exact absurd hheld (by simp [h x hx])
  exact if_neg hnone

/-- What a request does with the command that runs, in its live mode (R416, R417, R420, R424, R427). -/
def requestTaken (w p : Nat) (hold : Prop) [Decidable hold] (s : State) : State :=
  match (s.part w p).cmd with
  | none => beginStop w p s
  | some c =>
    if c.committed then (s.setPmt w p (if hold then 3 else 1)).modPart w p fun x => { x with phase := .draining }
    else if !hold then beginCut w p 1 s
    else if s.deadLoftIn w p then (beginCut w p 3 s).wr PMT_STAT_HTC_WHY w p 2
    else ((s.setPmt w p 3).setPartState w p 5).modPart w p fun x => { x with phase := .holdHalt }

theorem startPreempt_eq {w p : Nat} {s : State} (h : ∀ x ∈ s.cmdCores w p, (s.core w x.1 x.2.1).faultHeld = false) :
    startPreempt w p s = requestTaken w p (s.rd PMT_MODE_MODE w p = 1) (requestBegun w p s) := by
  change requestTaken w p (s.rd PMT_MODE_MODE w p = 1) ((faultHeldFirst w p (requestNoted w p s)).wr PMT_STAT_HTC_WHY w p 0) = _
  rw [faultHeldFirst_none h]
  rfl

section
variable {w p : Nat} {hold : Prop} [Decidable hold] {s : State}

theorem requestTaken_idle (hcmd : (s.part w p).cmd = none) : requestTaken w p hold s = beginStop w p s := by rw [requestTaken, hcmd]

variable {c : Cmd} (hcmd : (s.part w p).cmd = some c)
include hcmd

theorem requestTaken_drains (hc : c.committed = true) :
    requestTaken w p hold s = (s.setPmt w p (if hold then 3 else 1)).modPart w p fun x => { x with phase := .draining } := by
  simp only [requestTaken, hcmd, hc, if_true]

variable (hc : c.committed = false)
include hc

theorem requestTaken_cuts (h : ¬ hold) : requestTaken w p hold s = beginCut w p 1 s := by
  simp only [requestTaken, hcmd, hc, h, Bool.false_eq_true, if_false, decide_false, Bool.not_false, if_true]

theorem requestTaken_holds (h : hold) (hloft : s.deadLoftIn w p = false) :
    requestTaken w p hold s = ((s.setPmt w p 3).setPartState w p 5).modPart w p fun x => { x with phase := .holdHalt } := by
  simp only [requestTaken, hcmd, hc, h, hloft, Bool.false_eq_true, if_false, decide_true, Bool.not_true]

theorem requestTaken_deadLoft (h : hold) (hloft : s.deadLoftIn w p = true) : requestTaken w p hold s = (beginCut w p 3 s).wr PMT_STAT_HTC_WHY w p 2 := by
  simp only [requestTaken, hcmd, hc, h, hloft, Bool.false_eq_true, if_false, if_true, decide_true, Bool.not_true]

end

/-- An idle partition stops in either mode (R417). -/
theorem startPreempt_stops {w p : Nat} {s : State} (hheld : ∀ x ∈ s.cmdCores w p, (s.core w x.1 x.2.1).faultHeld = false) (hcmd : (s.part w p).cmd = none) :
    CutBegun w p 7 (startPreempt w p s) := by
  rw [startPreempt_eq hheld, requestTaken_idle (by rw [requestBegun_part]; exact hcmd)]
  exact beginCut_begun ..

section
variable {w p : Nat} {c : Cmd} {s : State} (hheld : ∀ x ∈ s.cmdCores w p, (s.core w x.1 x.2.1).faultHeld = false) (hcmd : (s.part w p).cmd = some c)
include hheld hcmd

/-- A committed command drains first (R416). -/
theorem startPreempt_drains (hc : c.committed = true) : let t := startPreempt w p s
    t.pmt w p = (if s.rd PMT_MODE_MODE w p = 1 then 3 else 1) ∧ (t.part w p).phase = .draining ∧ (t.part w p).cmd = some c := by
  have hbegun := requestBegun_part w p s
  dsimp only
  rw [startPreempt_eq hheld, requestTaken_drains (c := c) (by rw [hbegun]; exact hcmd) hc, State.pmt_modPart, State.pmt_setPmt _ _ _ (by split <;> decide), State.part_modPart,
    State.part_setPmt, hbegun]
  exact ⟨rfl, rfl, hcmd⟩

variable (hc : c.committed = false)
include hc

/-- In mode cut the command goes back to its queue (R420). -/
theorem startPreempt_cuts (h : ¬ s.rd PMT_MODE_MODE w p = 1) : let t := startPreempt w p s
    CutBegun w p 1 t ∧ (t.part w p).cmd = none ∧ mfind (t.part w p).cut c.queue = some c.uncommitted ∧ (t.part w p).leases = [] := by
  have hrun : ((requestBegun w p s).part w p).cmd = some c := by rw [requestBegun_part]; exact hcmd
  dsimp only
  rw [startPreempt_eq hheld, requestTaken_cuts hrun hc h]
  exact ⟨beginCut_begun .., beginCut_requeues 1 hrun hc⟩

/-- In mode hold the command's cores are to halt (R424). -/
theorem startPreempt_holds (h : s.rd PMT_MODE_MODE w p = 1) (hloft : s.deadLoftIn w p = false) : let t := startPreempt w p s
    t.pmt w p = 3 ∧ t.partState w p = 5 ∧ (t.part w p).phase = .holdHalt ∧ (t.part w p).cmd = some c := by
  have hbegun := requestBegun_part w p s
  dsimp only
  rw [startPreempt_eq hheld, requestTaken_holds (by rw [hbegun]; exact hcmd) hc h (by rw [requestBegun_deadLoftIn]; exact hloft), State.pmt_modPart, State.pmt_setPartState,
    State.pmt_setPmt _ _ _ (by decide), State.partState_modPart, State.partState_setPartState _ _ _ (by decide), State.part_modPart, State.part_setPartState, State.part_setPmt, hbegun]
  exact ⟨rfl, rfl, rfl, hcmd⟩

/-- A hold over a dead loft becomes a cut (R427). -/
theorem startPreempt_deadLoft (h : s.rd PMT_MODE_MODE w p = 1) (hloft : s.deadLoftIn w p = true) : let t := startPreempt w p s
    t.pmt w p = 1 ∧ (t.part w p).endCode = 3 ∧ t.rd PMT_STAT_HTC_WHY w p = 2 := by
  have hcut := beginCut_begun w p 3 (requestBegun w p s)
  dsimp only
  rw [startPreempt_eq hheld, requestTaken_deadLoft (by rw [requestBegun_part]; exact hcmd) hc h (by rw [requestBegun_deadLoftIn]; exact hloft),
    State.pmt_wr _ _ _ _ _ _ _ (by decide), State.rd_wr_same _ _ _ _ _ (by decide) (by decide), State.part_wr]
  exact ⟨hcut.pmt, hcut.endCode, rfl⟩

end

theorem pmtForwarded_request {w p : Nat} {s : State} (hpmt : s.pmt w p = 0) (hst : s.partState w p = 1) : pmtForwarded w p 1 s = startPreempt w p s := by
  simp [pmtForwarded, hpmt, hst]

/-! ## Resume -/

/-- What a partition shows whose dispatch has restarted (R430). -/
def Restarted (w p : Nat) (t : State) : Prop :=
  t.pmt w p = 0 ∧ t.partState w p = 1 ∧ (t.part w p).discardAccept = false ∧ t.leafSet w Leaf.pmtResumed = true

theorem restart_restarted (w p : Nat) (s : State) : Restarted w p (restart w p s) := by
  unfold restart
  dsimp only
  refine ⟨?_, ?_, ?_, State.raiseP_sets _ _ _ _ (by decide)⟩
  · rw [State.pmt_raiseP, State.pmt_setPartState, State.pmt_modPart, State.pmt_setPmt _ _ _ (by decide)]
  · rw [State.partState_raiseP, State.partState_setPartState _ _ _ (by decide)]
  · rw [State.part_raiseP, State.part_setPartState, State.part_modPart]

/-- A stopped partition restarts (R430). -/
theorem resumeOne_stopped {w p : Nat} {s : State} (h : s.pmt w p = 2) : Restarted w p (resumeOne w p s) := by
  rw [resumeOne, if_pos h]
  exact restart_restarted w p s

section
variable {w p : Nat} {s : State} (h : s.pmt w p = 5)
include h

/-- A held command begins to be restored (R430, R431). -/
theorem resumeOne_held (hfault : s.rd PMT_STAT_FAULT_PENDING w p = 0) (hsaved : s.rd PMT_STAT_CMD_SAVED w p = 1) : let t := resumeOne w p s
    t.pmt w p = 6 ∧ (t.part w p).phase = .restoring ∧ t.leafSet w Leaf.pmtResumed = true := by
  have heq : resumeOne w p s = (beginRestore w p 6 s).raiseP w p Leaf.pmtResumed := by simp [resumeOne, h, hfault, hsaved]
  dsimp only
  rw [heq, State.pmt_raiseP, State.part_raiseP, beginRestore, State.pmt_modPart, State.part_modPart, (unparkHold_keeps ..).pmt (by decide +kernel), State.pmt_setPmt _ _ _ (by decide)]
  exact ⟨rfl, rfl, State.raiseP_sets _ _ _ _ (by decide)⟩

/-- A fault latched while the partition was held takes effect (R446). -/
theorem resumeOne_latched (hfault : s.rd PMT_STAT_FAULT_PENDING w p = 1) : FaultShown w p (s.rd PMT_STAT_FAULT_CAUSE w p) (resumeOne w p s) := by
  have heq : resumeOne w p s = latchedFault w p s := by simp [resumeOne, h, hfault]
  rw [heq, latchedFault]
  exact (enterFaulted_shown w p _ (Nat.mod_lt _ (by decide))).of_keeps (unparkHold_keeps ..) (by decide +kernel) (by decide +kernel) (by decide +kernel)

end

/-- What ends ghost light leaves of a pre-emption's registers (R551). -/
theorem ghostExit_rd {y : Fld} (hy : y.reg = PMT_STAT) (w x p : Nat) (s : State) : (ghostExit w s).rd y x p = s.rd y x p :=
  (ghostExit_keeps w s).rd y x p (by rw [hy]; decide) (by rw [hy]; decide +kernel)

end Sys2Proof.Machine

open Sys2Proof Sys2Proof.Machine

/-- Settles O38: a request is one refusal or one start, which the running command and the live mode select, and resume is a restart, a restore or the fault that was latched. -/
theorem preemptAndResume : Obligations.PreemptAndResume := by
  intro w p s st hold refused stopping
  have hp : p.val < 512 := by omega
  have hrefused : ∀ reason < 8, refused reason (pmtRefuse w p reason s) := fun reason hr => pmtRefuse_refused s hp hr
  have hstops : ∀ t : State, CutBegun w p 7 t → stopping t := fun t h => ⟨h.pmt, h.partState, h.phase, h.endCode, h.discardAccept⟩
  refine ⟨fun hdef => ⟨⟨_, exec_preempt .., ?_⟩, ⟨_, exec_resume .., ?_⟩⟩, fun hdef hlead => ⟨⟨_, exec_preempt .., ?_⟩, ⟨_, exec_resume .., ?_⟩⟩,
    fun hdef hlead => ⟨fun hbusy => ⟨_, exec_preempt .., ?_⟩, fun hpmt hst hend => ⟨_, exec_resume .., ?_⟩, fun h2 h5 hend => ⟨_, exec_resume .., ?_⟩,
      fun h3 h4 hpmt hheld => ?_, fun hpmt => ⟨_, exec_resume .., ?_⟩, fun hpmt hfault hsaved => ⟨_, exec_resume .., ?_⟩, fun hpmt hfault => ⟨_, exec_resume .., ?_⟩⟩,
    fun hpmt hst hcmd hheld => ⟨_, exec_pmtFwd .., ?_⟩, fun hpmt => ⟨_, exec_pmtFwd .., ?_⟩⟩
  · exact preempt_undefined hdef ▸ hrefused 1 (by decide)
  · exact resume_undefined hdef ▸ hrefused 1 (by decide)
  · exact preempt_follower hdef hlead ▸ hrefused 3 (by decide)
  · exact resume_follower hdef hlead ▸ hrefused 3 (by decide)
  · exact preempt_state hdef hlead hbusy ▸ hrefused 2 (by decide)
  · exact resume_faulted hdef hlead ⟨hpmt, hst, hend⟩ ▸ hrefused 5 (by decide)
  · exact resume_not_stopped hdef hlead h2 h5 hend ▸ hrefused 4 (by decide)
  · have hstart : exec (.preempt w p) s = .next (forwardPmt w p 1 (startPreempt w p s)) := (exec_preempt w p s).trans (congrArg _ (preempt_accepted hdef hlead h3 h4 hpmt))
    refine ⟨fun hcmd => ⟨_, hstart, hstops _ ((startPreempt_stops hheld hcmd).forwarded 1)⟩, fun c hcmd => ⟨fun hc => ⟨_, hstart, ?_⟩, fun hc hmode => ⟨_, hstart, ?_⟩,
      fun hc hmode hloft => ⟨_, hstart, ?_⟩, fun hc hmode hloft => ⟨_, hstart, ?_⟩⟩⟩
    all_goals dsimp only
    all_goals simp only [forwardPmt_pmt, forwardPmt_partState, forwardPmt_part]
    · exact startPreempt_drains hheld hcmd hc
    · obtain ⟨hcut, hback⟩ := startPreempt_cuts hheld hcmd hc hmode
      exact ⟨hcut.pmt, hcut.partState, hcut.phase, hcut.endCode, hback⟩
    · exact startPreempt_holds hheld hcmd hc hmode hloft
    · rw [forwardPmt_rd _ _ _ _ (by decide)]
      exact startPreempt_deadLoft hheld hcmd hc hmode hloft
  · rw [resume_accepted hdef hlead (.inl hpmt)]
    obtain ⟨hended, hidle, hdelivers, hleaf⟩ := resumeOne_stopped ((ghostExit_rd rfl w w p s).trans hpmt)
    rw [forwardPmt_pmt, forwardPmt_partState, forwardPmt_part, forwardPmt_leafSet]
    exact ⟨hended, hidle, hdelivers, hleaf⟩
  · rw [resume_accepted hdef hlead (.inr hpmt)]
    dsimp only
    rw [forwardPmt_pmt, forwardPmt_part, forwardPmt_leafSet]
    exact resumeOne_held ((ghostExit_rd rfl w w p s).trans hpmt) ((ghostExit_rd rfl w w p s).trans hfault) ((ghostExit_rd rfl w w p s).trans hsaved)
  · obtain ⟨hfaulted, hcause, -⟩ := resumeOne_latched ((ghostExit_rd rfl w w p s).trans hpmt) ((ghostExit_rd rfl w w p s).trans hfault)
    rw [resume_accepted hdef hlead (.inr hpmt)]
    rw [forwardPmt_partState, forwardPmt_rd _ _ _ _ (by decide)]
    exact ⟨hfaulted, hcause.trans (ghostExit_rd rfl w w p s)⟩
  · exact pmtForwarded_request hpmt hst ▸ hstops _ (startPreempt_stops hheld hcmd)
  · obtain ⟨hended, hidle, -, hleaf⟩ := resumeOne_stopped hpmt
    exact ⟨hended, hidle, hleaf⟩
end

section
/-!
PROOF. How a cut, a hold, a restore and a donation go on and end (R420, R424, R430-R432, R435).
-/
set_option Elab.async false
namespace Sys2Proof.Machine

theorem exec_cutSurrenderTimeout (w : WaferId) (p : PartId) (s : State) : exec (.cutSurrenderTimeout w p) s = .next (cutTimeout w p s) := rfl

theorem exec_cutComplete (w : WaferId) (p : PartId) (s : State) : exec (.cutComplete w p) s = .next (cutComplete w p s) := rfl

theorem exec_holdHaltDone (w : WaferId) (p : PartId) (s : State) : exec (.holdHaltDone w p) s = .next (holdHalted w p s) := rfl

theorem exec_holdSurrenderTimeout (w : WaferId) (p : PartId) (s : State) : exec (.holdSurrenderTimeout w p) s = .next (holdTimeout w p s) := rfl

theorem exec_holdSaveDone (w : WaferId) (p : PartId) (s : State) : exec (.holdSaveDone w p) s = .next (holdSaved w p s) := rfl

theorem exec_restoreDone (w : WaferId) (p : PartId) (bad : Option (FieldId × BitVec 40)) (s : State) :
    exec (.restoreDone w p bad) s = .next (restoreDone w p (bad.map fun x => (x.1.val, x.2.toNat / 64 * 64)) s) := rfl

theorem exec_donationBound (w : WaferId) (p : PartId) (s : State) : exec (.donationBound w p) s = .next (donationBound w p s) := rfl

/-! ## The surrender of a cut -/

theorem cutTimeout_resets {w p : Nat} {s : State} (h : (s.part w p).phase = .surrender) : cutTimeout w p s = resetUnacked w p s := if_pos h

/-- PMT_LAST_SURR shows how many streams held packets that no one had acknowledged (R420 step 4). -/
theorem resetUnacked_counts (w p : Nat) (s : State) : (resetUnacked w p s).rd PMT_LAST_SURR_RESET w p = min (s.net.sends.filter fun x =>
    streamNi x.1 / 128 = w && (s.fields w p).contains (streamNi x.1 % 128) && streamPart x.1 == p && !x.2.unacked.isEmpty).length 65535 := by
  unfold resetUnacked
  exact State.rd_wrSat_same _ _ _ _ _ (by decide) (by decide)

theorem cutComplete_stops {w p : Nat} {s : State} (hphase : (s.part w p).phase = .surrender) (hcredits : s.linkCredits w p = 0) (hst : s.partState w p ≠ 3)
    (hpeers : s.peersStopped w p = true) : cutComplete w p s = reachStopped w p s := by
  simp [cutComplete, hphase, hcredits, hst, hpeers]

theorem State.home_lt (s : State) (w p : Nat) : s.home w p < 128 := by
  unfold State.home
  rcases hfields : s.fields w p with _ | ⟨f, fs⟩
  · decide
  · have hf : f ∈ allFields := List.mem_of_mem_filter (p := fun f => s.fieldInPart false w p f) (by
      change f ∈ s.fields w p
      rw [hfields]
      exact List.mem_cons_self)
    have := List.mem_range.mp hf
    exact lt_of_lt_of_le this (by decide)

/-- The records name the field they lie in (R421). -/
theorem writeRecords_field (w p : Nat) (s : State) : (writeRecords w p s).rd PMT_SAVE_FIELD_FIELD w p = s.home w p ∧ (writeRecords w p s).rd PMT_SAVE_FIELD_VALID w p = 1 := by
  unfold writeRecords
  dsimp only
  rw [State.rd_wr_apart _ PMT_SAVE_FIELD_VALID PMT_SAVE_FIELD_FIELD _ _ _ _ _ (by decide), State.rd_wr_same _ _ _ _ _ (by decide) (by decide),
    State.rd_wr_same _ _ _ _ _ (by decide) (by decide)]
  exact ⟨Nat.mod_eq_of_lt (s.home_lt w p), rfl⟩

/-- The partition's registers as its pre-emption ends in STOPPED (R420 step 5). -/
def stopShown (w p : Nat) (s : State) : State :=
  ((((writeRecords w p s).setPmt w p 2).wr PMT_STAT_CMD_SAVED w p 0).wr PMT_STAT_LAST_END w p (s.part w p).endCode).wrSat PMT_LAST_US_REQ_TO_FREE w p (s.usSince (s.part w p).reqTime)

theorem reachStopped_eq (w p : Nat) (s : State) : reachStopped w p s =
    ((stopShown w p s).modPart w p fun x => { x with phase := .none, savedCores := [], held := false, donating := false }).raiseP w p Leaf.pmtDone := rfl

theorem stopShown_pmt (w p : Nat) (s : State) : (stopShown w p s).pmt w p = 2 := by
  unfold stopShown State.wrSat
  rw [State.pmt_wr _ _ _ _ _ _ _ (by decide), State.pmt_wr _ _ _ _ _ _ _ (by decide), State.pmt_wr _ _ _ _ _ _ _ (by decide), State.pmt_setPmt _ _ _ (by decide)]

theorem stopShown_fields (w p : Nat) (s : State) :
    (stopShown w p s).rd PMT_STAT_LAST_END w p = (s.part w p).endCode % 8 ∧ (stopShown w p s).rd PMT_STAT_CMD_SAVED w p = 0 ∧
      (stopShown w p s).rd PMT_SAVE_FIELD_FIELD w p = s.home w p ∧ (stopShown w p s).rd PMT_SAVE_FIELD_VALID w p = 1 := by
  obtain ⟨hfield, hvalid⟩ := writeRecords_field w p s
  unfold stopShown State.wrSat State.setPmt
  refine ⟨?_, ?_, ?_, ?_⟩
  all_goals simp (disch := decide) only [State.rd_wr_apart, State.rd_wr_same, hfield, hvalid]
  all_goals rfl

/-! ## The halt of a held command -/

/-- Between two states a core's partition is as before, and so is all of a core but of the one at unit `u` of field `f`. -/
structure OneCore (w f u : Nat) (s t : State) : Prop where
  part : ∀ x g v, (t.core x g v).part = (s.core x g v).part
  others : ∀ x g v, coreKey x g v ≠ coreKey w f u → t.core x g v = s.core x g v

theorem OneCore.trans {w f u : Nat} {s t r : State} (h : OneCore w f u s t) (h' : OneCore w f u t r) : OneCore w f u s r :=
  ⟨fun x g v => (h'.part x g v).trans (h.part x g v), fun x g v hk => (h'.others x g v hk).trans (h.others x g v hk)⟩

theorem OneCore.of_keeps {m : Nat} {s t : State} (w f u : Nat) (h : Keeps m s t) (hm : m.testBit 9 = false) : OneCore w f u s t :=
  ⟨fun x g v => by rw [h.core hm], fun x g v _ => h.core hm x g v⟩

theorem OneCore.modCore {w f u : Nat} {g : Core → Core} (s : State) (hg : ∀ c, (g c).part = c.part) : OneCore w f u s (s.modCore w f u g) := by
  refine ⟨fun x h v => ?_, fun x h v hk => ?_⟩
  · rw [State.core_modCore_cases]
    split
    · rename_i hk
      rw [hg, State.core, State.core, hk]
    · rfl
  · rw [State.core_modCore_cases, if_neg hk]

theorem endWait_oneCore (w f u : Nat) (s : State) : OneCore w f u s (endWait w f u s) := by
  unfold endWait
  dsimp only
  split
  · exact .of_keeps w f u (.refl 0 s) (by decide)
  · exact .modCore s fun _ => rfl
  · exact OneCore.trans (.of_keeps w f u (State.wr_keeps ..) (by decide +kernel)) (.modCore _ fun _ => rfl)

theorem endHalt_oneCore (w f u : Nat) (s : State) : OneCore w f u s (endHalt w f u s) := by
  unfold endHalt
  dsimp only
  split
  · refine OneCore.trans (.modCore (g := fun c => { c with st := c.before, reason := 0, stepping := false, faultHeld := false, beforeTake := false }) s fun _ => rfl) ?_
    have hshown : ∀ (t : State) (q : Option Nat), OneCore w f u t (((t.wr DBG_CORE_STAT_STATE w (coreIdx f u) 0).wr DBG_CORE_STAT_REASON w (coreIdx f u) 0).haltSync w f q) :=
      fun t q => .of_keeps w f u (((t.wr_keeps DBG_CORE_STAT_STATE w (coreIdx f u) 0).trans (State.wr_keeps _ DBG_CORE_STAT_REASON w (coreIdx f u) 0)).trans
        (State.haltSync_keeps ..)) (by decide +kernel)
    split
    · split
      · exact hshown _ _
      · exact (hshown _ _).trans (.of_keeps w f u (State.bump_keeps _ DBG_PART_STAT_ENDED w _ 1) (by decide +kernel))
    · exact hshown _ _
  · split
    · exact (OneCore.modCore (g := fun c => { c with haltReq := none }) s fun _ => rfl).trans (.of_keeps w f u (State.wr_keeps _ DBG_CORE_STAT_STATE w _ 0) (by decide +kernel))
    · exact .of_keeps w f u (.refl 0 s) (by decide)

theorem holdHaltCore_oneCore (w f u : Nat) (s : State) : OneCore w f u s (holdHaltCore w f u s) := by
  unfold holdHaltCore
  refine OneCore.trans ?_ (.modCore _ fun _ => rfl)
  exact ((endHalt_oneCore w f u s).trans (.of_keeps w f u (withdrawTake_keeps ..) (by decide +kernel))).trans (endWait_oneCore ..)

theorem holdHaltCore_halts (w f u : Nat) (s : State) : ((holdHaltCore w f u s).core w f u).st = .halt := by
  rw [holdHaltCore, State.core_modCore]

/-- A core that has halted stays so while another halts (R424 step 2). -/
theorem holdHaltCore_halted {w x g v : Nat} (f u : Nat) {s : State} (h : (s.core x g v).st = .halt) : ((holdHaltCore w f u s).core x g v).st = .halt := by
  by_cases hk : coreKey x g v = coreKey w f u
  · have hhalts := holdHaltCore_halts w f u s
    rw [State.core, ← hk] at hhalts
    exact hhalts
  · rw [(holdHaltCore_oneCore w f u s).others x g v hk]
    exact h

/-- One core of the held command halts, if it still runs it (R424 step 2). -/
def haltHeld (w p : Nat) (x : Nat × Nat × Nat) (t : State) : State := if (t.core w x.1 x.2.1).part = some p then holdHaltCore w x.1 x.2.1 t else t

/-- Every core of a held command has halted. -/
def heldHalted (w p : Nat) (s : State) : State := forEach (s.cmdCores w p) s (haltHeld w p)

theorem heldHalted_part (w p : Nat) (s : State) (x r : Nat) : (heldHalted w p s).part x r = s.part x r :=
  (forEach_keeps (fun _ _ => .ite (holdHaltCore_keeps ..) (.refl _ _)) _ (.refl _ _)).part (by decide +kernel) x r

theorem heldHalted_halts {w p : Nat} {s : State} {x : Nat × Nat × Nat} (hx : x ∈ s.cmdCores w p) (hpart : (s.core w x.1 x.2.1).part = some p) :
    ((heldHalted w p s).core w x.1 x.2.1).st = .halt := by
  refine forEach_reaches (I := fun t => (t.core w x.1 x.2.1).part = some p) (P := fun t => (t.core w x.1 x.2.1).st = .halt) (fun y t hi => ?_) (fun y t _ h => ?_) hx (fun t hi => ?_) hpart
  · unfold haltHeld
    split
    · rw [(holdHaltCore_oneCore ..).part]
      exact hi
    · exact hi
  · unfold haltHeld
    split
    · exact holdHaltCore_halted _ _ h
    · exact h
  · rw [haltHeld, if_pos hi]
    exact holdHaltCore_halts ..

/-- The partition's cores have halted, and what it has still to surrender is counted (R424 steps 2 and 3). -/
def heldCounted (w p : Nat) (s : State) : State :=
  let s1 := heldHalted w p s
  (s1.wrSat PMT_LAST_SURR_WAITED w p (s1.linkCredits w p + s1.queuedPackets w p)).wr PMT_LAST_SURR_RESET w p 0

/-- The surrender of a hold has begun (R424 step 3). -/
def holdSurrendering (w p : Nat) (s : State) : State := (heldCounted w p s).modPart w p fun x => { x with phase := .holdSurrender }

theorem holdHalted_eq (w p : Nat) (s : State) : holdHalted w p s =
    if (s.part w p).phase ≠ .holdHalt then s
    else if ((heldCounted w p s).part w p).cmd.isNone then beginStop w p (heldCounted w p s) else surrenderCheck w p (holdSurrendering w p s) := rfl

theorem heldCounted_part (w p : Nat) (s : State) : (heldCounted w p s).part w p = s.part w p := by
  unfold heldCounted
  dsimp only
  rw [State.part_wr, State.wrSat, State.part_wr, heldHalted_part]

theorem holdSurrendering_part (w p : Nat) (s : State) : (holdSurrendering w p s).part w p = { s.part w p with phase := .holdSurrender } := by
  rw [holdSurrendering, State.part_modPart, heldCounted_part]

theorem holdSurrendering_core (w p : Nat) (s : State) (x f u : Nat) : (holdSurrendering w p s).core x f u = (heldHalted w p s).core x f u := by
  rw [holdSurrendering, State.core_modPart]
  unfold heldCounted
  dsimp only
  rw [State.core_wr, State.wrSat, State.core_wr]

theorem holdHalted_surrenders {w p : Nat} {s : State} (hphase : (s.part w p).phase = .holdHalt) (hcmd : (s.part w p).cmd ≠ none) :
    holdHalted w p s = surrenderCheck w p (holdSurrendering w p s) := by
  rw [holdHalted_eq, if_neg (not_not.mpr hphase), heldCounted_part, if_neg (mt Option.isNone_iff_eq_none.mp hcmd)]

/-- The end of a hold's surrender leaves the command and its cores (R424). -/
theorem surrenderCheck_shown {w p : Nat} {s : State} (h : (s.part w p).phase = .holdSurrender) :
    ((surrenderCheck w p s).part w p).cmd = (s.part w p).cmd ∧
      (((surrenderCheck w p s).part w p).phase = .holdSurrender ∨ ((surrenderCheck w p s).part w p).phase = .holdSave ∧ (surrenderCheck w p s).pmt w p = 4) := by
  unfold surrenderCheck
  split
  · rw [State.part_modPart, State.pmt_modPart, State.pmt_setPmt _ _ _ (by decide)]
    exact ⟨rfl, .inr ⟨rfl, rfl⟩⟩
  · exact ⟨rfl, .inl h⟩

theorem holdTimeout_cuts {w p : Nat} {s : State} (h : (s.part w p).phase = .holdSurrender) : holdTimeout w p s = (beginCut w p 3 s).wr PMT_STAT_HTC_WHY w p 1 :=
  if_neg (not_not.mpr h)

/-! ## The save of a held command -/

/-- The save slots are written, and the partition's record holds what they do not (R424 step 5). -/
def slotsSaved (w p : Nat) (s : State) : State :=
  let cs := (s.cmdCores w p).filter fun x => (s.core w x.1 x.2.1).part == some p
  (forEach cs s fun x t => loftWrite w x.1 (t.slotOfUnit w x.1 x.2.1) (t.core w x.1 x.2.1).image t).modPart w p fun y => { y with
    phase := .none, held := true, endCode := 2
    savedCores := cs.map fun x => (coreKey w x.1 x.2.1, s.core w x.1 x.2.1) }

/-- The partition shows HELD with its command saved (R424 step 6). -/
def holdShown (w p : Nat) (s : State) : State :=
  ((((writeRecords w p (slotsSaved w p s)).setPmt w p 5).wr PMT_STAT_CMD_SAVED w p 1).wr PMT_STAT_LAST_END w p 2).wrSat PMT_LAST_US_REQ_TO_FREE w p (s.usSince (s.part w p).reqTime)

/-- Every quadrant of the partition is asked to park (R424 step 6, R467). -/
def holdParked (w p : Nat) (s : State) : State := forEach (s.quads w p) s fun q t => setParkReq w q (fun k => { k with hold := 0x1FF }) t

theorem holdSaved_holds {w p : Nat} {s : State} (hphase : (s.part w p).phase = .holdSave) (hpeers : s.peersStopped w p = true) (hcmd : (s.part w p).cmd ≠ none) :
    holdSaved w p s = (holdParked w p (holdShown w p s)).raiseP w p Leaf.pmtDone := by
  have hsome : (s.part w p).cmd.isNone = false := Option.isNone_eq_false_iff.mpr (Option.isSome_iff_ne_none.mpr hcmd)
  simp only [holdSaved, hphase, hpeers, hsome, ne_eq, not_true_eq_false, Bool.not_true, Bool.false_eq_true, or_self, if_false]
  rfl

theorem holdParked_keeps (w p : Nat) (s : State) : Keeps 0x6004000000000000000000000000000000000000000000000000000220000000 s (holdParked w p s) :=
  forEach_keeps (fun _ _ => setParkReq_keeps ..) _ (.refl _ _)

theorem slotsSaved_part (w p : Nat) (s : State) : ((slotsSaved w p s).part w p).phase = .none ∧ ((slotsSaved w p s).part w p).held = true ∧
    ((slotsSaved w p s).part w p).cmd = (s.part w p).cmd ∧ ((slotsSaved w p s).part w p).leases = (s.part w p).leases := by
  have hwritten : ∀ xs : List (Nat × Nat × Nat), (forEach xs s fun x t => loftWrite w x.1 (t.slotOfUnit w x.1 x.2.1) (t.core w x.1 x.2.1).image t).part w p = s.part w p :=
    fun xs => (forEach_keeps (fun _ _ => loftWrite_keeps ..) xs (.refl _ _)).part (by decide +kernel) w p
  unfold slotsSaved
  dsimp only
  rw [State.part_modPart, hwritten]
  exact ⟨rfl, rfl, rfl, rfl⟩

theorem holdShown_part (w p : Nat) (s : State) : (holdShown w p s).part w p = (slotsSaved w p s).part w p := by
  rw [holdShown, State.wrSat, State.part_wr, State.part_wr, State.part_wr, State.part_setPmt, (writeRecords_keeps ..).part (by decide +kernel)]

theorem holdShown_fields (w p : Nat) (s : State) :
    (holdShown w p s).pmt w p = 5 ∧ (holdShown w p s).rd PMT_STAT_CMD_SAVED w p = 1 ∧ (holdShown w p s).rd PMT_STAT_LAST_END w p = 2 := by
  unfold holdShown State.wrSat State.setPmt State.pmt
  simp (disch := decide) only [State.rd_wr_apart, State.rd_wr_same]
  exact ⟨rfl, rfl, rfl⟩

/-! ## A restore -/

theorem coreKey_field (w : Nat) {f u : Nat} (hf : f < 72) (hu : u < 600) : coreKey w f u / 600 % 72 = f := by
  unfold coreKey
  omega

theorem coreKey_unit (w f : Nat) {u : Nat} (hu : u < 600) : coreKey w f u % 600 = u := by
  unfold coreKey
  omega

/-- A core has its state back from its save slot and goes on as it was (R430). -/
def coreRestored (w f u : Nat) (k : Core) (t : State) : State :=
  (loftCountRead w f 124128 t).setCore w f u { k.ofImage (t.loftBytes w f (t.slotOfUnit w f u) 124128) with st := k.before, reason := 0, wait := .none }

/-- The partition runs its restored command (R430). -/
def restoreShown (w p : Nat) (s : State) : State :=
  (((s.modPart w p fun y => { y with phase := .none, held := false, savedCores := [] }).wr PMT_STAT_CMD_SAVED w p 0).setPmt w p 0).setPartState w p 2

section
variable {w p : Nat} {s : State} (hphase : (s.part w p).phase = .restoring) (hunparked : ∀ q ∈ s.quads w p, s.unparked w q = true)
include hphase hunparked

/-- A restore of one core ends (R430, R431). -/
theorem restoreDone_runs {f u : Nat} {k : Core} (hf : f < 72) (hu : u < 600) (hgood : s.slotBad w p = none) (hsaved : (s.part w p).savedCores = [(coreKey w f u, k)])
    (hdonating : (s.part w p).donating = false) : restoreDone w p none s = restoreShown w p (coreRestored w f u k s) := by
  have hall : ((s.quads w p).all fun q => s.unparked w q) = true := List.all_eq_true.mpr hunparked
  simp only [restoreDone, hphase, hall, hgood, hsaved, hdonating, ne_eq, not_true_eq_false, Bool.not_true, Bool.false_eq_true, or_self, if_false]
  have hone : ∀ (g : Nat × Core → State → State) (x : Nat × Core), forEach [x] s g = g x s := fun _ _ => rfl
  rw [hone]
  dsimp only
  rw [coreKey_field w hf hu, coreKey_unit w f hu]
  rfl

/-- A restore that meets a bad line faults the partition (R432). -/
theorem restoreDone_faults (x : Nat × Nat) :
    restoreDone w p (some x) s = partFault w p 4 ((loftUncorrectable w x.1 x.2 4 p s).wr PMT_STAT_CMD_SAVED w p 0) := by
  have hall : ((s.quads w p).all fun q => s.unparked w q) = true := List.all_eq_true.mpr hunparked
  simp only [restoreDone, hphase, hall, ne_eq, not_true_eq_false, Bool.not_true, Bool.false_eq_true, or_self, if_false]

end

theorem restoreShown_fields (w p : Nat) (s : State) :
    (restoreShown w p s).pmt w p = 0 ∧ (restoreShown w p s).partState w p = 2 ∧ (restoreShown w p s).rd PMT_STAT_CMD_SAVED w p = 0 := by
  unfold restoreShown
  refine ⟨?_, State.partState_setPartState _ _ _ (by decide), ?_⟩
  · rw [State.pmt_setPartState, State.pmt_setPmt _ _ _ (by decide)]
  · rw [State.rd_setPartState _ _ _ _ _ _ _ (by decide), State.setPmt, State.rd_wr_apart _ _ _ _ _ _ _ _ (by decide), State.rd_wr_same _ _ _ _ _ (by decide) (by decide)]
    exact Nat.zero_mod _

theorem restoreShown_cmd (w p : Nat) (s : State) : ((restoreShown w p s).part w p).cmd = (s.part w p).cmd := by
  rw [restoreShown, State.part_setPartState, State.part_setPmt, State.part_wr, State.part_modPart]

theorem restoreShown_core (w p : Nat) (s : State) (x f u : Nat) : (restoreShown w p s).core x f u = s.core x f u := by
  rw [restoreShown, State.core_setPartState, State.setPmt, State.core_wr, State.core_wr, State.core_modPart]

theorem coreRestored_st (w f u : Nat) (k : Core) (s : State) : ((coreRestored w f u k s).core w f u).st = k.before := by
  rw [coreRestored, State.core_setCore]

theorem coreRestored_part (w f u : Nat) (k : Core) (s : State) (x r : Nat) : (coreRestored w f u k s).part x r = s.part x r := by
  rw [coreRestored, (State.setCore_keeps ..).part (by decide +kernel), (loftCountRead_keeps ..).part (by decide +kernel)]

/-- A partition that is being restored faults at once (R446). -/
theorem faultOne_of_restoring {w p : Nat} (cause : Nat) {s : State} (hst : s.partState w p = 5) (hpmt : s.pmt w p = 6) : faultOne w p cause s = enterFaulted w p cause s := by
  unfold State.pmt at hpmt
  simp [faultOne, hst, hpmt]

/-- A partition fault shows in the partition, whom ever it is told (R376). -/
theorem partFault_shown {w p cause : Nat} {s : State} (hcause : cause < 8) (h : faultOne w p cause s = enterFaulted w p cause s) : FaultShown w p cause (partFault w p cause s) := by
  have hone := enterFaulted_shown w p s hcause
  rw [← h] at hone
  unfold partFault
  dsimp only
  split
  · exact hone.of_keeps (forEach_keeps (M := 0x80000) (fun x t => sendPeer_keeps ..) _ (.refl _ _)) (by decide) (by decide) (by decide)
  · split
    · exact hone.of_keeps (sendPeer_keeps ..) (by decide) (by decide) (by decide)
    · exact hone

/-! ## The bound of a donation -/

/-- One partition of the job is cut, if it donates (R435, R438). -/
def donorCut (x : Nat × Nat) (t : State) : State :=
  if (t.part x.1 x.2).donating then beginCut x.1 x.2 6 (t.modPart x.1 x.2 fun y => { y with donating := false }) else t

theorem donationBound_cuts {w p : Nat} {c : Cmd} {s : State} (hdonating : (s.part w p).donating = true) (hcmd : (s.part w p).cmd = some c) (hc : c.committed = false) :
    donationBound w p s = ((forEach (s.peersOf w p) (donorCut (w, p) s) donorCut).bump PMT_DON_CUTS_COUNT w 0 1).raiseP w p Leaf.donationCut := by
  simp only [donationBound, hdonating, hcmd, hc, Bool.not_true, Bool.or_self, Bool.false_eq_true, if_false]
  rfl

theorem State.mem_peersOf {s : State} {w p : Nat} {x : Nat × Nat} (h : x ∈ s.peersOf w p) : x.1 ≠ w ∧ x.2 < 288 := by
  unfold State.peersOf at h
  obtain ⟨v, hv, hq⟩ := List.mem_filterMap.mp h
  obtain ⟨q, hfind, rfl⟩ := Option.map_eq_some_iff.mp hq
  exact ⟨by simpa using (List.mem_filter.mp hv).2, List.mem_range.mp (List.mem_of_find?_eq_some hfind)⟩

/-- What every element's operation leaves, all of them leave. -/
theorem forEach_leaves {α β : Type} {g : α → State → State} (c : State → β) (xs : List α) (s : State) (h : ∀ x ∈ xs, ∀ t, c (g x t) = c t) : c (forEach xs s g) = c s := by
  induction xs generalizing s with
  | nil => rfl
  | cons x xs ih =>
    obtain ⟨hx, hxs⟩ := List.forall_mem_cons.mp h
    exact (ih (g x s) hxs).trans (hx s)

theorem donorCut_part_ne {x : Nat × Nat} {w p : Nat} (t : State) (hx : x.1 ≠ w) (hx2 : x.2 < 288) (hp : p < 288) : (donorCut x t).part w p = t.part w p := by
  unfold donorCut
  split
  · rw [beginCut_part_ne _ _ hx.symm hx2 hp, State.part_modPart_ne _ _ hx.symm hx2 hp]
  · rfl

theorem donorCut_pmt_ne {x : Nat × Nat} {w : Nat} (p : Nat) (t : State) (hx : x.1 ≠ w) : (donorCut x t).pmt w p = t.pmt w p := by
  unfold donorCut
  split
  · rw [beginCut_pmt_ne _ _ hx.symm, State.pmt_modPart]
  · rfl

theorem donorCut_donCuts (x : Nat × Nat) (t : State) (w : Nat) : (donorCut x t).rd PMT_DON_CUTS_COUNT w 0 = t.rd PMT_DON_CUTS_COUNT w 0 := by
  unfold donorCut
  split
  · exact (beginCut_keeps ..).rd _ _ _ (by decide) (by decide +kernel)
  · rfl

/-- The cuts of the other partitions of a job leave this one's (R438). -/
theorem peersCut_leave {w p : Nat} (s t : State) (hp : p < 288) :
    (forEach (s.peersOf w p) t donorCut).part w p = t.part w p ∧ (forEach (s.peersOf w p) t donorCut).pmt w p = t.pmt w p :=
  ⟨forEach_leaves (State.part · w p) _ _ fun _ hx u => donorCut_part_ne u (State.mem_peersOf hx).1 (State.mem_peersOf hx).2 hp,
    forEach_leaves (State.pmt · w p) _ _ fun _ hx u => donorCut_pmt_ne p u (State.mem_peersOf hx).1⟩

/-- The partition's own donation is cut (R435). -/
theorem donorCut_same {w p : Nat} {c : Cmd} {s : State} (hdonating : (s.part w p).donating = true) (hcmd : (s.part w p).cmd = some c) (hc : c.committed = false) :
    CutBegun w p 6 (donorCut (w, p) s) ∧ ((donorCut (w, p) s).part w p).donating = false ∧ ((donorCut (w, p) s).part w p).cmd = none ∧
      mfind ((donorCut (w, p) s).part w p).cut c.queue = some c.uncommitted := by
  have heq : donorCut (w, p) s = beginCut w p 6 (s.modPart w p fun y => { y with donating := false }) := if_pos hdonating
  have hrun : ((s.modPart w p fun y => { y with donating := false }).part w p).cmd = some c := by rw [State.part_modPart]; exact hcmd
  obtain ⟨hnone, hcut, -⟩ := beginCut_requeues 6 hrun hc
  rw [heq]
  refine ⟨beginCut_begun .., ?_, hnone, hcut⟩
  rw [beginCut_part, State.part_modPart]
  exact Part.cutRun_component (g := Part.donating) (fun _ _ => rfl) _

/-! ## What the ends of the phases show -/

section
variable {w p : Nat} {s : State}

/-- A cut is complete once nothing is unacknowledged and every partition of the job has stopped (R420 step 5, R437). -/
theorem cutComplete_shown (hphase : (s.part w p).phase = .surrender) (hcredits : s.linkCredits w p = 0) (hst : s.partState w p ≠ 3) (hpeers : s.peersStopped w p = true) :
    let t := cutComplete w p s
    t.pmt w p = 2 ∧ t.rd PMT_STAT_LAST_END w p = (s.part w p).endCode % 8 ∧ t.rd PMT_STAT_CMD_SAVED w p = 0 ∧ (t.part w p).phase = .none ∧
      t.rd PMT_SAVE_FIELD_FIELD w p = s.home w p ∧ t.rd PMT_SAVE_FIELD_VALID w p = 1 ∧ t.leafSet w Leaf.pmtDone = true := by
  have hraise := State.raiseP_keeps ((stopShown w p s).modPart w p fun x => { x with phase := .none, savedCores := [], held := false, donating := false }) w p Leaf.pmtDone
  obtain ⟨hend, hsaved, hfield, hvalid⟩ := stopShown_fields w p s
  dsimp only
  rw [cutComplete_stops hphase hcredits hst hpeers, reachStopped_eq, State.pmt_raiseP, State.part_raiseP, hraise.rd _ _ _ (by decide) (by decide +kernel),
    hraise.rd _ _ _ (by decide) (by decide +kernel), hraise.rd _ _ _ (by decide) (by decide +kernel), hraise.rd _ _ _ (by decide) (by decide +kernel), State.part_modPart, State.pmt_modPart,
    State.rd_modPart, State.rd_modPart, State.rd_modPart, State.rd_modPart]
  exact ⟨stopShown_pmt .., hend, hsaved, rfl, hfield, hvalid, State.raiseP_sets _ _ _ _ (by decide)⟩

/-- Every core of a held command halts, and the command stays (R424 step 2). -/
theorem holdHalted_shown (hphase : (s.part w p).phase = .holdHalt) (hcmd : (s.part w p).cmd ≠ none) :
    let t := holdHalted w p s
    (t.part w p).cmd = (s.part w p).cmd ∧ ((t.part w p).phase = .holdSurrender ∨ (t.part w p).phase = .holdSave ∧ t.pmt w p = 4) ∧
      ∀ x ∈ s.cmdCores w p, (s.core w x.1 x.2.1).part = some p → (t.core w x.1 x.2.1).st = .halt := by
  have hsurrendering := holdSurrendering_part w p s
  obtain ⟨hkept, hnext⟩ := surrenderCheck_shown (congrArg Part.phase hsurrendering)
  dsimp only
  rw [holdHalted_surrenders hphase hcmd]
  refine ⟨by rw [hkept, hsurrendering], hnext, fun x hx hpart => ?_⟩
  rw [(surrenderCheck_keeps ..).core (by decide +kernel), holdSurrendering_core]
  exact heldHalted_halts hx hpart

/-- A hold whose surrender takes too long becomes a cut (R424 step 4). -/
theorem holdTimeout_shown (hphase : (s.part w p).phase = .holdSurrender) :
    let t := holdTimeout w p s
    t.pmt w p = 1 ∧ (t.part w p).phase = .surrender ∧ (t.part w p).endCode = 3 ∧ t.rd PMT_STAT_HTC_WHY w p = 1 := by
  have hcut := beginCut_begun w p 3 s
  dsimp only
  rw [holdTimeout_cuts hphase, State.pmt_wr _ _ _ _ _ _ _ (by decide), State.part_wr, State.rd_wr_same _ _ _ _ _ (by decide) (by decide)]
  exact ⟨hcut.pmt, hcut.phase, hcut.endCode, rfl⟩

/-- A hold that has saved its cores is HELD (R424 step 6). -/
theorem holdSaved_shown (hphase : (s.part w p).phase = .holdSave) (hpeers : s.peersStopped w p = true) (hcmd : (s.part w p).cmd ≠ none) :
    let t := holdSaved w p s
    t.pmt w p = 5 ∧ t.rd PMT_STAT_CMD_SAVED w p = 1 ∧ t.rd PMT_STAT_LAST_END w p = 2 ∧ (t.part w p).held = true ∧ (t.part w p).phase = .none ∧
      (t.part w p).cmd = (s.part w p).cmd ∧ (t.part w p).leases = (s.part w p).leases ∧ t.leafSet w Leaf.pmtDone = true := by
  have hparked := holdParked_keeps w p (holdShown w p s)
  have hraise := (holdParked w p (holdShown w p s)).raiseP_keeps w p Leaf.pmtDone
  obtain ⟨hheld, hsaved, hend⟩ := holdShown_fields w p s
  obtain ⟨hended, hkeeps, hkept, hleases⟩ := slotsSaved_part w p s
  dsimp only
  rw [holdSaved_holds hphase hpeers hcmd, State.pmt_raiseP, State.part_raiseP, hraise.rd _ _ _ (by decide) (by decide +kernel), hraise.rd _ _ _ (by decide) (by decide +kernel),
    hparked.pmt (by decide +kernel), hparked.part (by decide +kernel), hparked.rd _ _ _ (by decide) (by decide +kernel), hparked.rd _ _ _ (by decide) (by decide +kernel), holdShown_part]
  exact ⟨hheld, hsaved, hend, hkeeps, hended, hkept, hleases, State.raiseP_sets _ _ _ _ (by decide)⟩

/-- A restore sets the core of the held command running again (R430). -/
theorem restoreDone_shown {f u : Nat} {k : Core} (hphase : (s.part w p).phase = .restoring) (hunparked : ∀ q ∈ s.quads w p, s.unparked w q = true) (hf : f < 72) (hu : u < 600)
    (hgood : s.slotBad w p = none) (hsaved : (s.part w p).savedCores = [(coreKey w f u, k)]) (hdonating : (s.part w p).donating = false) :
    let t := restoreDone w p none s
    t.pmt w p = 0 ∧ t.partState w p = 2 ∧ t.rd PMT_STAT_CMD_SAVED w p = 0 ∧ (t.part w p).cmd = (s.part w p).cmd ∧ (t.core w f u).st = k.before := by
  obtain ⟨hended, hruns, hcleared⟩ := restoreShown_fields w p (coreRestored w f u k s)
  dsimp only
  rw [restoreDone_runs hphase hunparked hf hu hgood hsaved hdonating, restoreShown_cmd, coreRestored_part, restoreShown_core]
  exact ⟨hended, hruns, hcleared, rfl, coreRestored_st ..⟩

/-- A restore that meets a bad line ends in FAULTED with RESTORE_ECC (R432). -/
theorem restoreDone_faulted (hphase : (s.part w p).phase = .restoring) (hunparked : ∀ q ∈ s.quads w p, s.unparked w q = true) (hst : s.partState w p = 5) (hpmt : s.pmt w p = 6)
    (x : Nat × Nat) : FaultShown w p 4 (restoreDone w p (some x) s) := by
  have hnoted := loftUncorrectable_keeps w x.1 x.2 4 p s
  rw [restoreDone_faults hphase hunparked]
  refine partFault_shown (by decide) (faultOne_of_restoring 4 ?_ ?_)
  · rw [State.partState_wr _ _ _ _ _ _ _ (by decide), hnoted.partState (by decide +kernel), hst]
  · rw [State.pmt_wr _ _ _ _ _ _ _ (by decide), hnoted.pmt (by decide +kernel), hpmt]

/-- A donation that runs out of time is cut and counted (R435). -/
theorem donationBound_shown {c : Cmd} (hp : p < 288) (hdonating : (s.part w p).donating = true) (hcmd : (s.part w p).cmd = some c) (hc : c.committed = false) :
    let t := donationBound w p s
    t.pmt w p = 1 ∧ (t.part w p).endCode = 6 ∧ (t.part w p).donating = false ∧ (t.part w p).cmd = none ∧ mfind (t.part w p).cut c.queue = some c.uncommitted ∧
      t.rd PMT_DON_CUTS_COUNT w 0 = satAdd PMT_DON_CUTS_COUNT.width (s.rd PMT_DON_CUTS_COUNT w 0) 1 ∧ t.leafSet w Leaf.donationCut = true := by
  obtain ⟨hcut, hended, hnone, hback⟩ := donorCut_same hdonating hcmd hc
  obtain ⟨hpart, hpmt⟩ := peersCut_leave s (donorCut (w, p) s) hp
  have hcount : (forEach (s.peersOf w p) (donorCut (w, p) s) donorCut).rd PMT_DON_CUTS_COUNT w 0 = s.rd PMT_DON_CUTS_COUNT w 0 :=
    (forEach_leaves (State.rd · PMT_DON_CUTS_COUNT w 0) _ _ fun x _ u => donorCut_donCuts x u w).trans (donorCut_donCuts ..)
  dsimp only
  rw [donationBound_cuts hdonating hcmd hc, State.pmt_raiseP, State.part_raiseP, (State.raiseP_keeps ..).rd _ _ _ (by decide) (by decide +kernel),
    State.rd_bump_same _ _ _ _ _ (by decide) (by decide), hcount, State.bump, State.pmt_wr _ _ _ _ _ _ _ (by decide), State.part_wr, hpart, hpmt]
  exact ⟨hcut.pmt, hcut.endCode, hended, hnone, hback, rfl, State.raiseP_sets _ _ _ _ (by decide)⟩

end

end Sys2Proof.Machine

open Sys2Proof Sys2Proof.Machine

/-- Settles O39: each end of a phase is one change of the partition's own record and registers, which the rest of the command leaves. -/
theorem holdsAndDonations : Obligations.HoldsAndDonations := by
  intro w p s pt
  refine ⟨fun hphase => ⟨_, exec_cutSurrenderTimeout .., ?_⟩, fun hphase hcredits hst hpeers => ⟨_, exec_cutComplete .., cutComplete_shown hphase hcredits hst hpeers⟩,
    fun hphase hcmd => ⟨_, exec_holdHaltDone .., holdHalted_shown hphase hcmd⟩, fun hphase => ⟨_, exec_holdSurrenderTimeout .., holdTimeout_shown hphase⟩,
    fun hphase hpeers hcmd => ⟨_, exec_holdSaveDone .., holdSaved_shown hphase hpeers hcmd⟩,
    fun hphase hunparked => ⟨fun f u k hgood hsaved hdonating => ⟨_, exec_restoreDone .., ?_⟩, fun f off hst hpmt => ⟨_, exec_restoreDone .., ?_⟩⟩,
    fun c hdonating hcmd hc => ⟨_, exec_donationBound .., donationBound_shown p.isLt hdonating hcmd hc⟩⟩
  · exact cutTimeout_resets hphase ▸ resetUnacked_counts ..
  · exact restoreDone_shown hphase hunparked f.isLt u.isLt hgood hsaved hdonating
  · obtain ⟨hfaulted, hcause, -⟩ := restoreDone_faulted hphase hunparked hst hpmt (f.val, off.toNat / 64 * 64)
    exact ⟨hfaulted, hcause⟩

end

section
/-!
SUPPORT. A power domain's own copy of PWR_DOM_STAT and its record: which steps of the sequencer leave them, when a request passes the checks of R460, and when a domain
enters RAMP (R455-R460).
-/
set_option Elab.async false
namespace Sys2Proof.Machine

/-! ## Records of domains -/

@[simp] theorem State.getDoms_modDoms_same (s : State) (k : Nat) (g : DomX → DomX) : (s.modDoms k g).getDoms k = g (s.getDoms k) := by
  simp [State.modDoms]

theorem State.getDoms_modDoms_ne (s : State) {w c d : Nat} (g : DomX → DomX) (h : d ≠ c) : (s.modDoms (domKey w c) g).getDoms (domKey w d) = s.getDoms (domKey w d) := by
  have hkey : domKey w d ≠ domKey w c := by
    unfold domKey
    omega
  rw [State.modDoms, State.getDoms_putDoms, if_neg hkey]

@[simp] theorem State.rd_modDoms (s : State) (k : Nat) (g : DomX → DomX) (f : Fld) (w i : Nat) : (s.modDoms k g).rd f w i = s.rd f w i := rfl

@[simp] theorem State.domState_modDoms (s : State) (k : Nat) (g : DomX → DomX) (w d : Nat) : (s.modDoms k g).domState w d = s.domState w d := rfl

@[simp] theorem State.getDoms_setDom (s : State) (w d st k : Nat) : (s.setDom w d st).getDoms k = s.getDoms k :=
  (s.setDom_keeps w d st).getDoms (by decide +kernel) k

/-! ## PWR_DOM_STAT.STATE -/

/-- A field of PWR_DOM_STAT beside STATE. -/
structure Fld.OfDomStat (f : Fld) : Prop where
  reg : f.reg = PWR_DOM_STAT
  lo : 2 < f.lo
  hi : f.lo ≤ f.hi ∧ f.hi < 64

theorem pending_ofDomStat : PWR_DOM_STAT_PENDING.OfDomStat := ⟨rfl, by decide, by decide⟩

theorem fault_ofDomStat : PWR_DOM_STAT_FAULT.OfDomStat := ⟨rfl, by decide, by decide⟩

/-- A write of another field of a domain's copy leaves the state of every domain. -/
theorem State.domState_wr (s : State) {f : Fld} (hf : f.reg.id ≠ PWR_DOM_STAT.id ∨ f.OfDomStat) (w i v x d : Nat) : (s.wr f w i v).domState x d = s.domState x d := by
  refine s.rd_wr_apart f PWR_DOM_STAT_STATE w i v x d (hf.imp Ne.symm fun h => ⟨h.reg.symm, h.hi.1, by decide, .inl h.lo⟩)

@[simp] theorem State.domState_wrPending (s : State) (w i v x d : Nat) : (s.wr PWR_DOM_STAT_PENDING w i v).domState x d = s.domState x d :=
  s.domState_wr (.inr pending_ofDomStat) ..

/-- The counts of the sequencer follow the change of a domain's state. -/
def State.seqCounted (s : State) (w on ramp mv : Nat) : State := ((s.wr PWR_SEQ_STAT_ON w 0 on).wr PWR_SEQ_STAT_RAMPING w 0 ramp).wr PWR_SEQ_STAT_MOVING w 0 mv

theorem State.seqCounted_keeps (s : State) (w on ramp mv : Nat) : Keeps (regBit PWR_SEQ_STAT) s (s.seqCounted w on ramp mv) :=
  .next (State.wr_keeps ..) (sub_refl _) (.next (State.wr_keeps ..) (sub_refl _) (State.wr_keeps s PWR_SEQ_STAT_ON w 0 on))

/-- A domain that is in the state already stays as it is; otherwise STATE is written and the counts follow. -/
theorem State.setDom_cases (s : State) (w d st : Nat) : (s.domState w d = st ∧ s.setDom w d st = s) ∨
    ∃ on ramp mv, s.setDom w d st = (s.wr PWR_DOM_STAT_STATE w d st).seqCounted w on ramp mv := by
  by_cases h : s.domState w d = st
  · exact .inl ⟨h, if_pos h⟩
  · exact .inr ⟨_, _, _, if_neg h⟩

theorem State.domState_setDom (s : State) (w d : Nat) {st : Nat} (h : st < 8) : (s.setDom w d st).domState w d = st := by
  obtain ⟨hst, heq⟩ | ⟨on, ramp, mv, heq⟩ := s.setDom_cases w d st
  · rw [heq, hst]
  · rw [heq, State.domState, (State.seqCounted_keeps ..).rd _ _ _ (by decide) (by decide +kernel), State.rd_wr_same _ _ _ _ _ (by decide) (by decide)]
    exact Nat.mod_eq_of_lt h

theorem State.rd_setDom (s : State) (w d st : Nat) {f : Fld} (hf : f.OfDomStat) (x i : Nat) : (s.setDom w d st).rd f x i = s.rd f x i := by
  obtain ⟨-, heq⟩ | ⟨on, ramp, mv, heq⟩ := s.setDom_cases w d st
  · rw [heq]
  · rw [heq, (State.seqCounted_keeps ..).rd _ _ _ (hf.reg ▸ (by decide)) (hf.reg ▸ (by decide +kernel)),
      State.rd_wr_apart _ _ _ _ _ _ _ _ (.inr ⟨hf.reg, by decide, hf.hi.2, .inr hf.lo⟩)]

/-! ## What leaves a domain as it is -/

/-- What every element's operation keeps, all of them keep. -/
theorem forEach_holds {α : Type} {P : State → Prop} {g : α → State → State} {xs : List α} (hg : ∀ x ∈ xs, ∀ t, P t → P (g x t)) {s : State} (hs : P s) : P (forEach xs s g) := by
  induction xs generalizing s with
  | nil => exact hs
  | cons x xs ih =>
    obtain ⟨hx, hxs⟩ := List.forall_mem_cons.mp hg
    exact ih hxs (hx s hs)

/-- Domain `d` of wafer `w` stands in `t` as in `s`: its copy of PWR_DOM_STAT, and its record. -/
structure SameDom (w d : Nat) (s t : State) : Prop where
  stat : t.reg PWR_DOM_STAT w d = s.reg PWR_DOM_STAT w d
  record : t.getDoms (domKey w d) = s.getDoms (domKey w d)

section
variable {w d : Nat} {s t u : State}

theorem SameDom.refl (w d : Nat) (s : State) : SameDom w d s s := ⟨rfl, rfl⟩

theorem SameDom.trans (h1 : SameDom w d s t) (h2 : SameDom w d t u) : SameDom w d s u := ⟨h2.stat.trans h1.stat, h2.record.trans h1.record⟩

theorem SameDom.ite {p : Prop} [Decidable p] (h1 : SameDom w d s t) (h2 : SameDom w d s u) : SameDom w d s (if p then t else u) := by
  split
  · exact h1
  · exact h2

theorem SameDom.of_keeps {m : Nat} (h : Keeps m s t) (hm : m &&& (regBit PWR_DOM_STAT ||| 0x40000000) = 0) : SameDom w d s t := by
  have hbit : ∀ i, (regBit PWR_DOM_STAT ||| 0x40000000).testBit i = true → m.testBit i = false := fun i hi => by
    have hand := Nat.testBit_and m (regBit PWR_DOM_STAT ||| 0x40000000) i
    rw [hm, Nat.zero_testBit, hi, Bool.and_true] at hand
    exact hand.symm
  exact ⟨h.regs _ _ _ (by decide) (hbit _ (by decide +kernel)), h.getDoms (hbit _ (by decide +kernel)) _⟩

theorem SameDom.rd (h : SameDom w d s t) {f : Fld} (hf : f.reg = PWR_DOM_STAT) : t.rd f w d = s.rd f w d := by
  unfold State.rd
  rw [hf, h.stat]

theorem SameDom.domState (h : SameDom w d s t) : t.domState w d = s.domState w d := h.rd rfl

theorem SameDom.wr (s : State) {f : Fld} {c : Nat} (hc : d ≠ c) (v : Nat) : SameDom w d s (s.wr f w c v) := ⟨s.reg_wr_ne _ _ _ _ _ _ _ (.inr (.inr hc)), rfl⟩

theorem SameDom.modDoms (s : State) {c : Nat} (hc : d ≠ c) (g : DomX → DomX) : SameDom w d s (s.modDoms (domKey w c) g) := ⟨rfl, s.getDoms_modDoms_ne g hc⟩

theorem SameDom.setDom (s : State) {c : Nat} (hc : d ≠ c) (st : Nat) : SameDom w d s (s.setDom w c st) := by
  obtain ⟨-, heq⟩ | ⟨on, ramp, mv, heq⟩ := s.setDom_cases w c st
  · rw [heq]
    exact .refl ..
  · rw [heq]
    exact (SameDom.wr s hc st).trans (.of_keeps (State.seqCounted_keeps ..) (by decide +kernel))

/-- Operations that leave the domain as long as it stands as in `s` leave it all together. -/
theorem SameDom.forEach {α : Type} {g : α → State → State} {xs : List α} (hg : ∀ x ∈ xs, ∀ t, SameDom w d s t → SameDom w d t (g x t)) : SameDom w d s (forEach xs s g) :=
  forEach_holds (P := SameDom w d s) (fun x hx t ht => ht.trans (hg x hx t ht)) (.refl ..)

end

theorem refuseReq_sameDom (w c req reason : Nat) (s : State) (x d : Nat) : SameDom x d s (refuseReq w c req reason s) := .of_keeps (refuseReq_keeps ..) (by decide +kernel)

/-! ## RAMP (R456, R457) -/

/-- A domain that is not OFF, or still dwells there, does not enter RAMP. -/
theorem tryRamp_stays {w d : Nat} {s : State} (h : s.domState w d ≠ 0 ∨ (s.getDoms (domKey w d)).dwelling = true) : tryRamp w d s = s :=
  if_pos (by tauto)

theorem tryRamp_other {w d c : Nat} (s : State) (hc : d ≠ c) : SameDom w d s (tryRamp w c s) := by
  unfold tryRamp
  exact .ite (.refl ..) (.ite ((SameDom.wr s hc _).trans (refuseReq_sameDom ..)) ((SameDom.wr s hc _).trans (.setDom _ hc _)))

/-- Waiting domains that enter RAMP leave a domain that does not wait. -/
theorem admitWaiting_sameDom {w d : Nat} {s : State} (h : s.domState w d ≠ 0 ∨ (s.getDoms (domKey w d)).dwelling = true) : SameDom w d s (admitWaiting w s) := by
  refine .forEach fun c _ t ht => ?_
  by_cases hc : d = c
  · subst hc
    rw [tryRamp_stays (by rwa [ht.domState, ht.record])]
    exact .refl ..
  · exact tryRamp_other t hc

/-! ## The checks of a request (R460) -/

section
variable {m : Nat} {s t : State} (h : Keeps m s t)
include h

theorem Keeps.actState (hm : m.testBit (64 + NET_ACT_STAT.id) = false) (w a : Nat) : t.actState w a = s.actState w a := by
  simp only [State.actState, h.rd NET_ACT_STAT_A_STATE _ _ (by decide) hm, h.rd NET_ACT_STAT_B_STATE _ _ (by decide) hm]

theorem Keeps.liveAct (hm : m.testBit (64 + NET_ACT_STAT.id) = false) (w : Nat) : t.liveAct? w = s.liveAct? w := by
  simp only [State.liveAct?, h.actState hm]

theorem Keeps.inLive (hm : m.testBit (64 + NET_ACT_STAT.id) = false) (hacts : m.testBit 40 = false) (w : Nat) (g : Act → Bool) : t.inLive w g = s.inLive w g := by
  simp only [State.inLive, h.liveAct hm, h.getActs hacts]

theorem Keeps.otherBusy (hm : m.testBit (64 + NET_ACT_STAT.id) = false) (w : Nat) : t.otherBusy w = s.otherBusy w := by
  simp only [State.otherBusy, h.actState hm]

theorem Keeps.portInActs (hm : m.testBit (64 + NET_ACT_STAT.id) = false) (hacts : m.testBit 40 = false) (w p : Nat) : t.portInActs w p = s.portInActs w p := by
  simp only [State.portInActs, h.actState hm, h.getActs hacts]

theorem Keeps.partsOfField (hdef : m.testBit (64 + PRT_DEF.id) = false) (hquads : m.testBit (64 + PRT_QMASK.id) = false) (w f : Nat) : t.partsOfField w f = s.partsOfField w f := by
  simp only [State.partsOfField, State.fieldInPart, h.defined hdef, h.quadOf_live hquads]

theorem Keeps.partOfQuad (hdef : m.testBit (64 + PRT_DEF.id) = false) (hquads : m.testBit (64 + PRT_QMASK.id) = false) (w q : Nat) : t.partOfQuad w q = s.partOfQuad w q := by
  simp only [State.partOfQuad, h.rd PRT_DEF_VALID _ _ (by decide) hdef, h.quadOf_live hquads]

theorem Keeps.parentOf (hm : m.testBit (64 + NET_SELF.id) = false) (w d : Nat) : t.parentOf w d = s.parentOf w d := by
  simp only [State.parentOf, h.rd NET_SELF_HOST_FIELD w 0 (by decide) hm]

theorem Keeps.loftLoading (hstat : m.testBit (64 + IMG_STAT.id) = false) (hpush : m.testBit (64 + IMG_PUSH_STAT.id) = false) (hloads : m.testBit 25 = false)
    (hpushes : m.testBit 26 = false) (hloft : m.testBit 0 = false) (w f : Nat) : t.loftLoading w f = s.loftLoading w f := by
  have hsource : t.source w = s.source w := by
    simp only [State.source, State.loftBytes, h.getLoads hloads, h.loftByte hloft]
  simp only [State.loftLoading, State.loading, hsource, h.getLoads hloads, h.getPushes hpushes, h.rd IMG_STAT_STATE _ _ (by decide) hstat,
    h.rd IMG_PUSH_STAT_STATE _ _ (by decide) hpush]

end

/-- What the checks of a request read of the domains themselves. -/
structure SameChecks (w d : Nat) (s t : State) : Prop where
  blocked : t.rd PWR_DOM_STAT_BLOCKED w d = s.rd PWR_DOM_STAT_BLOCKED w d
  halted : t.rd PWR_DOM_STAT_HALTED w d = s.rd PWR_DOM_STAT_HALTED w d
  leaving : ∀ c, t.leaving w c = s.leaving w c

/-- Where nothing but the domains differs, and of them nothing that the checks read, a request is refused for the same reason. -/
theorem SameChecks.refusal {w d : Nat} {s t : State} (h : SameChecks w d s t) (hkeeps : Keeps (regBit PWR_DOM_STAT ||| 0x40000000) s t) (req : Nat) :
    t.refusal w d req = s.refusal w d req := by
  simp only [State.refusal, h.blocked, h.halted, h.leaving, hkeeps.inLive (by decide +kernel) (by decide +kernel), hkeeps.otherBusy (by decide +kernel),
    hkeeps.partsOfField (by decide +kernel) (by decide +kernel), hkeeps.partOfQuad (by decide +kernel) (by decide +kernel), hkeeps.parentOf (by decide +kernel),
    hkeeps.loftLoading (by decide +kernel) (by decide +kernel) (by decide +kernel) (by decide +kernel) (by decide +kernel),
    funext (hkeeps.portInActs (by decide +kernel) (by decide +kernel) w)]

theorem State.refusal_wrPending (s : State) (w c v d req : Nat) : (s.wr PWR_DOM_STAT_PENDING w c v).refusal w d req = s.refusal w d req := by
  refine SameChecks.refusal ⟨?_, ?_, fun x => ?_⟩ ((s.wr_keeps PWR_DOM_STAT_PENDING w c v).widen (by decide +kernel)) req
  · exact s.rd_wr_apart _ _ _ _ _ _ _ (.inr ⟨rfl, by decide, by decide, .inr (by decide)⟩)
  · exact s.rd_wr_apart _ _ _ _ _ _ _ (.inr ⟨rfl, by decide, by decide, .inr (by decide)⟩)
  · simp only [State.leaving, State.domState_wrPending, State.getDoms_wr]

theorem State.refusal_modDoms (s : State) (k : Nat) {g : DomX → DomX} (hg : ∀ x, (g x).spineDown = x.spineDown) (w d req : Nat) :
    (s.modDoms k g).refusal w d req = s.refusal w d req := by
  have hkeeps : Keeps (regBit PWR_DOM_STAT ||| 0x40000000) s (s.modDoms k g) := (s.modDoms_keeps k g).widen (by decide +kernel)
  refine SameChecks.refusal (s := s) (t := s.modDoms k g) ⟨rfl, rfl, fun x => ?_⟩ hkeeps req
  have hdown : ((s.modDoms k g).getDoms (domKey w x)).spineDown = (s.getDoms (domKey w x)).spineDown := by
    rw [State.modDoms, State.getDoms_putDoms]
    split
    next hkey => rw [hg, hkey]
    next => rfl
  simp only [State.leaving, State.domState_modDoms, hdown]

/-- Nothing keeps a domain in OFF from entering RAMP once ON is latched (R456, R457, R460). -/
structure State.MayRamp (s : State) (w d : Nat) : Prop where
  off : s.domState w d = 0
  dwelt : (s.getDoms (domKey w d)).dwelling = false
  place : s.rd PWR_SEQ_STAT_RAMPING w 0 < 16
  steady : (s.getWafers w).downSeq = none
  passes : s.refusal w d 1 = 0

theorem State.MayRamp.wrPending {s : State} {w d : Nat} (h : s.MayRamp w d) (v : Nat) : (s.wr PWR_DOM_STAT_PENDING w d v).MayRamp w d where
  off := (s.domState_wrPending ..).trans h.off
  dwelt := h.dwelt
  place := by
    rw [State.rd_wr_id _ _ _ _ _ _ _ _ (by decide)]
    exact h.place
  steady := h.steady
  passes := (s.refusal_wrPending ..).trans h.passes

/-- A domain with a latched ON enters RAMP, and its latch clears. -/
theorem tryRamp_enters {s : State} {w d : Nat} (h : s.MayRamp w d) (hpending : s.rd PWR_DOM_STAT_PENDING w d = 1) :
    (tryRamp w d s).domState w d = 1 ∧ (tryRamp w d s).rd PWR_DOM_STAT_PENDING w d = 0 ∧ (tryRamp w d s).getDoms (domKey w d) = s.getDoms (domKey w d) := by
  obtain ⟨hoff, hdwelt, hplace, hsteady, hpasses⟩ := h
  have henters : tryRamp w d s = (s.wr PWR_DOM_STAT_PENDING w d 0).setDom w d 1 := by
    unfold tryRamp
    dsimp only
    rw [if_neg (by simp [hoff, hpending, hdwelt, hsteady, hplace]), hpending, hpasses, if_neg (by simp)]
  rw [henters]
  refine ⟨State.domState_setDom _ _ _ (by decide), ?_, State.getDoms_setDom ..⟩
  rw [State.rd_setDom _ _ _ _ pending_ofDomStat]
  exact State.rd_wr_same _ _ _ _ _ (by decide) (by decide)

end Sys2Proof.Machine

end

section
/-!
PROOF. Requests for a power domain and the steps that follow them (R456, R457, R458, R460, R463).
-/
set_option Elab.async false
namespace Sys2Proof.Machine

/-! ## Refusals (R460) -/

theorem State.refusal_lt (s : State) (w d req : Nat) : s.refusal w d req < 8 := by
  have hstep : ∀ (p : Prop) [Decidable p] (a b : Nat), a < 8 → b < 8 → (if p then a else b) < 8 := fun p _ a b ha hb => by
    split
    · exact ha
    · exact hb
  unfold State.refusal
  iterate 9 refine hstep _ _ _ (by decide) ?_
  decide

/-- The first refused request is captured. -/
theorem refuseReq_captured {w d req reason : Nat} {s : State} (hd : d < 512) (hreq : req < 4) (hreason : reason < 8) (hfree : s.rd PWR_DOM_REFUSED_VALID w 0 = 0) :
    let t := refuseReq w d req reason s
    t.rd PWR_DOM_REFUSED_VALID w 0 = 1 ∧ t.rd PWR_DOM_REFUSED_DOMAIN w 0 = d ∧ t.rd PWR_DOM_REFUSED_REQ w 0 = req ∧ t.rd PWR_DOM_REFUSED_REASON w 0 = reason := by
  have hraise : ∀ (u : State) (f : Fld), f.reg = PWR_DOM_REFUSED → (u.raise w Leaf.reqRefused).rd f w 0 = u.rd f w 0 := fun u f hf =>
    (u.raise_keeps ..).rd f _ _ (hf ▸ (by decide)) (hf ▸ (by decide +kernel))
  unfold refuseReq
  dsimp only
  rw [if_neg (by omega), hraise _ _ rfl, hraise _ _ rfl, hraise _ _ rfl, hraise _ _ rfl]
  simp (disch := decide) only [State.rd_wr_same, State.rd_wr_field]
  exact ⟨rfl, Nat.mod_eq_of_lt hd, Nat.mod_eq_of_lt hreq, Nat.mod_eq_of_lt hreason⟩

/-- A refused request leaves its domain, and is captured and raised. -/
theorem domRequest_refused {w d req : Nat} {s : State} (hd : d < 512) (hreq : req < 4) (h : s.refusal w d req ≠ 0) : let t := domRequest w d req s
    t.reg PWR_DOM_STAT w d = s.reg PWR_DOM_STAT w d ∧ t.leafSet w Leaf.reqRefused = true ∧
      (s.rd PWR_DOM_REFUSED_VALID w 0 = 0 → t.rd PWR_DOM_REFUSED_VALID w 0 = 1 ∧ t.rd PWR_DOM_REFUSED_DOMAIN w 0 = d ∧ t.rd PWR_DOM_REFUSED_REQ w 0 = req ∧
        t.rd PWR_DOM_REFUSED_REASON w 0 = s.refusal w d req) := by
  have hrefused : domRequest w d req s = refuseReq w d req (s.refusal w d req) s := if_pos h
  dsimp only
  rw [hrefused]
  exact ⟨(refuseReq_sameDom ..).stat, State.raise_sets _ _ _ (by decide), refuseReq_captured hd hreq (s.refusal_lt w d req)⟩

/-! ## Requests that are carried out (R456) -/

section
variable {w d req : Nat} {s : State}

theorem domRequest_latches (h : s.refusal w d req = 0) : domRequest w d req s = latchReq w d req s := if_neg (not_not.mpr h)

theorem rd_wrPending (v : Nat) : (s.wr PWR_DOM_STAT_PENDING w d v).rd PWR_DOM_STAT_PENDING w d = v % 4 := State.rd_wr_same _ _ _ _ _ (by decide) (by decide)

theorem domRequest_ramps (h : s.MayRamp w d) : let t := domRequest w d 1 s
    t.domState w d = 1 ∧ t.rd PWR_DOM_STAT_PENDING w d = 0 ∧ t.getDoms (domKey w d) = s.getDoms (domKey w d) := by
  have hlatched : domRequest w d 1 s = tryRamp w d (s.wr PWR_DOM_STAT_PENDING w d 1) := by
    rw [domRequest_latches h.passes]
    simp only [latchReq, h.off]
    rfl
  dsimp only
  rw [hlatched]
  exact tryRamp_enters (h.wrPending 1) (rd_wrPending 1)

/-- ON waits in the latch of a domain in DRAIN. -/
theorem domRequest_waits (h : s.refusal w d 1 = 0) (hdrain : s.domState w d = 4) : domRequest w d 1 s = s.wr PWR_DOM_STAT_PENDING w d 1 := by
  rw [domRequest_latches h]
  simp only [latchReq, hdrain]

/-- OFF has no effect on a domain that is OFF. -/
theorem domRequest_off_noEffect (h : s.refusal w d 2 = 0) (hoff : s.domState w d = 0) : domRequest w d 2 s = s.wr PWR_DOM_STAT_PENDING w d 0 := by
  rw [domRequest_latches h]
  simp only [latchReq, hoff]
  rfl

theorem domState_startDrain : (startDrain w d s).domState w d = 4 := State.domState_setDom _ _ _ (by decide)

theorem rd_startDrain {f : Fld} (hf : f.OfDomStat) : (startDrain w d s).rd f w d = s.rd f w d := by
  rw [startDrain, State.rd_setDom _ _ _ _ hf, (leaveDom_keeps ..).rd _ _ _ (hf.reg ▸ (by decide)) (hf.reg ▸ (by decide +kernel))]

/-- OFF and RESET take a domain that is ON and has no children into DRAIN; a RESET stays latched. -/
theorem domRequest_drains (h : s.refusal w d req = 0) (hreq : req = 2 ∨ req = 3) (hon : s.domState w d = 3) (hkind : d < 288 ∨ 360 ≤ d) : let t := domRequest w d req s
    t.domState w d = 4 ∧ t.rd PWR_DOM_STAT_PENDING w d = if req = 3 then 3 else 0 := by
  have hdrains : domRequest w d req s = startDrain w d (s.wr PWR_DOM_STAT_PENDING w d (if req = 3 then 3 else 0)) := by
    rw [domRequest_latches h]
    simp only [latchReq, hon, if_neg (show ¬(288 ≤ d ∧ d < 360) by omega), if_neg (show ¬req = 1 by omega)]
  dsimp only
  rw [hdrains]
  refine ⟨domState_startDrain, ?_⟩
  rw [rd_startDrain pending_ofDomStat, rd_wrPending]
  rcases hreq with rfl | rfl <;> rfl

end

/-! ## The ends of RAMP and ISOL (R457, R458) -/

section
variable {w d : Nat} {s : State}

theorem moveEnd_goes {go : State → State} (hgoing : s.goingDown w d = false) (hoff : s.rd PWR_DOM_STAT_PENDING w d ≠ 2) (hreset : s.rd PWR_DOM_STAT_PENDING w d ≠ 3) :
    moveEnd w d go s = go (s.wr PWR_DOM_STAT_PENDING w d 0) := by
  simp [moveEnd, hgoing, hoff, hreset]

theorem rampDone_isolates (hramp : s.domState w d = 1) (hgoing : s.goingDown w d = false) (hoff : s.rd PWR_DOM_STAT_PENDING w d ≠ 2)
    (hreset : s.rd PWR_DOM_STAT_PENDING w d ≠ 3) : (rampDone w d s).domState w d = 2 := by
  have hisol : ((s.wr PWR_DOM_STAT_PENDING w d 0).setDom w d 2).domState w d = 2 := State.domState_setDom _ _ _ (by decide)
  rw [rampDone, if_neg (not_not.mpr hramp), moveEnd_goes hgoing hoff hreset, (admitWaiting_sameDom (.inl (by rw [hisol]; decide))).domState, hisol]

/-- A domain that has just reached ON, without a fault. -/
def onShown (w d : Nat) (s : State) : State := (s.setDom w d 3).wr PWR_DOM_STAT_FAULT w d 0

theorem quadIdle_sameDom (hidle : (s.getDoms (domKey w d)).downWhenIdle = false) : SameDom w d s (quadIdle w d s) := by
  have heval : SameDom w d s (evalPark w d s) := .of_keeps (evalPark_keeps ..) (by decide +kernel)
  have hstays : quadIdle w d s = evalPark w d s := if_neg (by simp [heval.record, hidle])
  exact hstays ▸ heval

theorem clearTables_sameDom (f : Nat) : SameDom w d s (clearTables w f s) := by
  refine ⟨?_, rfl⟩
  have hread := mget_filter (BitVec.ofNat 64 (PWR_DOM_STAT.resetAt d)) s.regs
    (fun k => !((Nat.unpair k).1 == NET_RT_DATA.id && (Nat.unpair (Nat.unpair k).2).1 == w && decide (1 ≤ (Nat.unpair (Nat.unpair k).2).2 % 8) &&
      decide ((Nat.unpair (Nat.unpair k).2).2 % 8 ≤ 5) && (Nat.unpair (Nat.unpair k).2).2 / 16 % 128 == f)) (PWR_DOM_STAT.key w d)
  have hkey : ((Nat.unpair (PWR_DOM_STAT.key w d)).1 == NET_RT_DATA.id) = false := by
    simp only [Reg.key, key3, Nat.unpair_pair]
    decide
  rw [hkey] at hread
  simp only [Bool.false_and, Bool.not_false, if_true] at hread
  exact congrArg BitVec.toNat hread

/-- What a domain holds at first is set up beside its state (R458). -/
theorem enterOn_sameDom (hidle : (s.getDoms (domKey w d)).downWhenIdle = false) : SameDom w d (onShown w d s) (enterOn w d s) := by
  have hrecord : (onShown w d s).getDoms (domKey w d) = s.getDoms (domKey w d) := State.getDoms_setDom ..
  have hcores : ∀ us, SameDom w d (onShown w d s) (forEach us (onShown w d s) fun u t => t.initCore w (d / 4) u) := fun us =>
    .of_keeps (forEach_keeps (fun u t => t.initCore_keeps w (d / 4) u) us (.refl _ _)) (by decide +kernel)
  unfold enterOn
  refine .ite ?_ (.ite ?_ (.ite (.of_keeps (zeroLoft_keeps ..) (by decide +kernel)) (.ite (.of_keeps (startTraining_keeps ..) (by decide +kernel)) (.refl ..))))
  · have hready := (hcores ((onShown w d s).quadUnits w d)).trans (.of_keeps (setParkReq_keeps w d
      (fun k => { k with smc := (forEach ((onShown w d s).quadUnits w d) (onShown w d s) fun u t => t.initCore w (d / 4) u).smcWant w d }) _) (by decide +kernel))
    exact hready.trans (quadIdle_sameDom (by rw [hready.record, hrecord, hidle]))
  · have hempty := (SameDom.of_keeps (w := w) (d := d) (clearSpine_keeps w (d - 288) (onShown w d s)) (by decide +kernel)).trans (clearTables_sameDom (d - 288))
    exact .ite hempty (hempty.trans (.of_keeps (State.modPlanner_keeps ..) (by decide +kernel)))

theorem enterOn_loft (hlo : 360 ≤ d) (hhi : d < 432) : enterOn w d s = zeroLoft w (d - 360) 0 0x600000000 (onShown w d s) := by
  unfold enterOn
  dsimp only
  rw [if_neg (by omega), if_neg (by omega), if_pos hhi]
  rfl

/-- A domain is ON and shows no fault. -/
structure State.Runs (s : State) (w d : Nat) : Prop where
  on : s.domState w d = 3
  fault : s.rd PWR_DOM_STAT_FAULT w d = 0

theorem State.Runs.sameDom {t : State} (h : s.Runs w d) (hsame : SameDom w d s t) : t.Runs w d := ⟨hsame.domState.trans h.on, (hsame.rd rfl).trans h.fault⟩

theorem onShown_runs : (onShown w d s).Runs w d where
  on := (State.domState_wr _ (.inr fault_ofDomStat) ..).trans (State.domState_setDom _ _ _ (by decide))
  fault := State.rd_wr_same _ _ _ _ _ (by decide) (by decide)

theorem State.Runs.wrPending (h : s.Runs w d) (c v : Nat) : (s.wr PWR_DOM_STAT_PENDING w c v).Runs w d where
  on := (s.domState_wrPending ..).trans h.on
  fault := (s.rd_wr_apart PWR_DOM_STAT_PENDING PWR_DOM_STAT_FAULT _ _ _ _ _ (.inr ⟨rfl, by decide, by decide, .inr (by decide)⟩)).trans h.fault

theorem State.Runs.tryRamp (h : s.Runs w d) (c : Nat) : (tryRamp w c s).Runs w d := by
  by_cases hc : d = c
  · rwa [← hc, tryRamp_stays (.inl (by rw [h.on]; decide))]
  · exact h.sameDom (tryRamp_other s hc)

/-- ON, latched for any domain, leaves a domain that runs. -/
theorem State.Runs.latchOn (h : s.Runs w d) (c : Nat) : (latchReq w c 1 s).Runs w d := by
  unfold latchReq
  split
  next => exact (h.wrPending c 1).tryRamp c
  next =>
    simp only [if_true]
    split
    · split
      · refine forEach_holds (P := (State.Runs · w d)) (fun x _ t ht => ?_) ⟨(h.wrPending c 0).on, (h.wrPending c 0).fault⟩
        split
        · exact (ht.wrPending x 1).tryRamp x
        · exact ht.wrPending x 1
        · exact ht
        · exact ht.wrPending x 0
      · exact h
    · exact h
  next => exact h.wrPending c 1

theorem State.Runs.requestOn (h : s.Runs w d) (c : Nat) : (domRequest w c 1 s).Runs w d := by
  unfold domRequest
  dsimp only
  split
  · exact h.sameDom (refuseReq_sameDom ..)
  · exact h.latchOn c

theorem State.Runs.returnChildren (h : s.Runs w d) (c : Nat) : (returnChildren w c s).Runs w d := by
  unfold Machine.returnChildren
  dsimp only
  split
  · exact h
  · exact forEach_holds (P := (State.Runs · w d)) (fun x _ t ht => ht.requestOn x) ⟨h.on, h.fault⟩

theorem isolDone_on (hisol : s.domState w d = 2) (hgoing : s.goingDown w d = false) (hoff : s.rd PWR_DOM_STAT_PENDING w d ≠ 2)
    (hreset : s.rd PWR_DOM_STAT_PENDING w d ≠ 3) (hidle : (s.getDoms (domKey w d)).downWhenIdle = false) : let t := isolDone w d s
    t.domState w d = 3 ∧ t.rd PWR_DOM_STAT_FAULT w d = 0 ∧ (360 ≤ d → d < 432 → ∀ off < 0x600000000, t.loftByte w (d - 360) off = 0) := by
  have hends : isolDone w d s = returnChildren w d (enterOn w d (s.wr PWR_DOM_STAT_PENDING w d 0)) := by
    rw [isolDone, if_neg (not_not.mpr hisol), moveEnd_goes hgoing hoff hreset]
  have henter : SameDom w d _ (enterOn w d (s.wr PWR_DOM_STAT_PENDING w d 0)) := enterOn_sameDom hidle
  have hruns := (onShown_runs.sameDom henter).returnChildren d
  dsimp only
  rw [hends]
  refine ⟨hruns.on, hruns.fault, fun hlo hhi off hlt => ?_⟩
  rw [(returnChildren_keeps ..).loftByte (by decide +kernel), enterOn_loft hlo hhi]
  exact loftByte_zeroLoft _ _ _ _ _ (Nat.zero_le _) (by omega)

end

/-! ## DRAIN and OFF (R457, R470) -/

section
variable {w d c : Nat} {s : State}

theorem startDrain_other (hc : d ≠ c) : SameDom w d s (startDrain w c s) :=
  (SameDom.of_keeps (leaveDom_keeps w c s) (by decide +kernel)).trans (.setDom _ hc _)

theorem takeDown_sameDom (hoff : s.domState w d = 0) : SameDom w d s (takeDown w c s) := by
  by_cases hc : d = c
  · subst hc
    simp only [takeDown, hoff]
    exact .refl ..
  · unfold takeDown
    split
    · exact (SameDom.wr s hc _).trans (startDrain_other hc)
    · exact .wr s hc _
    · exact .wr s hc _
    · exact .refl ..

/-- A spine that carries its take-down on leaves a domain that is OFF. -/
theorem spineStep_sameDom {f : Nat} (hf : d ≠ 288 + f) (hoff : s.domState w d = 0) : SameDom w d s (spineStep w f s) := by
  unfold spineStep
  dsimp only
  refine .ite (.refl ..) ?_
  split
  · exact .forEach fun c _ t h => takeDown_sameDom (h.domState.trans hoff)
  · exact ((SameDom.wr s hf _).trans (.modDoms _ hf _)).trans (startDrain_other hf)

/-- A domain that has just reached OFF: its contents are lost, and its dwell runs. -/
def offShown (w d : Nat) (s : State) : State :=
  ((loseDom w d (s.setDom w d 0)).wr PWR_DOM_STAT_PENDING w d (if s.rd PWR_DOM_STAT_PENDING w d = 1 ∨ s.rd PWR_DOM_STAT_PENDING w d = 3 then 1 else 0)).modDoms (domKey w d)
    fun x => { x with dwelling := true }

theorem domState_loseDom : (loseDom w d s).domState w d = s.domState w d := (loseDom_keeps ..).rd _ _ _ (by decide) (by decide +kernel)

theorem offShown_shows : (offShown w d s).domState w d = 0 ∧ ((offShown w d s).getDoms (domKey w d)).dwelling = true ∧
    (offShown w d s).rd PWR_DOM_STAT_PENDING w d = if s.rd PWR_DOM_STAT_PENDING w d = 1 ∨ s.rd PWR_DOM_STAT_PENDING w d = 3 then 1 else 0 := by
  refine ⟨?_, ?_, ?_⟩
  · rw [offShown, State.domState_modDoms, State.domState_wrPending, domState_loseDom]
    exact State.domState_setDom _ _ _ (by decide)
  · rw [offShown, State.getDoms_modDoms_same]
  · rw [offShown, State.rd_modDoms, rd_wrPending]
    split <;> rfl

theorem portField_lt (p : Nat) : portField p < 72 := by
  have hlisted : ∀ f ∈ [2, 4, 6, 26, 62, 69, 67, 65, 54, 18], f < 72 := by decide
  unfold portField
  rw [List.getD_eq_getElem?_getD]
  cases h : [2, 4, 6, 26, 62, 69, 67, 65, 54, 18][p / 2]? with
  | none => decide
  | some f => exact hlisted f (List.mem_of_getElem? h)

/-- The spine above a quadrant, a loft or a port. -/
theorem State.parentOf_spine (t : State) (hkind : d < 288 ∨ 360 ≤ d ∧ d < 452) : ∃ f < 72, t.parentOf w d = 288 + f := by
  have hport := portField_lt (d - 432)
  unfold State.parentOf
  split_ifs
  · exact ⟨d / 4, by omega, rfl⟩
  · omega
  · exact ⟨d - 360, by omega, by omega⟩
  · exact ⟨_, hport, rfl⟩
  · omega

theorem reachOff_sameDom : SameDom w d (offShown w d s) (reachOff w d s) := by
  unfold reachOff
  dsimp only
  split
  next hkind =>
    obtain ⟨f, hf, hparent⟩ := (offShown w d s).parentOf_spine (w := w) hkind
    have hspine : SameDom w d (offShown w d s) (spineStep w f (offShown w d s)) := spineStep_sameDom (by omega) offShown_shows.1
    have hfield : (offShown w d s).parentOf w d - 288 = f := by omega
    rw [← hfield] at hspine
    exact hspine
  next => exact .refl ..

theorem settle_steady (h : (s.getWafers w).downSeq = none) : settle w s = s := by
  have hstep : downStep w s = s := if_pos (by rw [h]; rfl)
  simp only [settle, hstep, finishDown, h]

theorem drainDone_off (hdrain : s.domState w d = 4) (hsteady : (s.getWafers w).downSeq = none) : let t := drainDone w d s
    t.domState w d = 0 ∧ (t.getDoms (domKey w d)).dwelling = true ∧
      t.rd PWR_DOM_STAT_PENDING w d = if s.rd PWR_DOM_STAT_PENDING w d = 1 ∨ s.rd PWR_DOM_STAT_PENDING w d = 3 then 1 else 0 := by
  obtain ⟨hoff, hdwell, hpending⟩ := offShown_shows (w := w) (d := d) (s := s)
  have hreach := reachOff_sameDom (w := w) (d := d) (s := s)
  have hwaits : (reachOff w d s).domState w d ≠ 0 ∨ ((reachOff w d s).getDoms (domKey w d)).dwelling = true := .inr (by rw [hreach.record, hdwell])
  have hends : drainDone w d s = admitWaiting w (reachOff w d s) := by
    rw [drainDone, if_neg (not_not.mpr hdrain), settle_steady (by rw [(reachOff_keeps ..).getWafers (by decide +kernel), hsteady]), tryRamp_stays hwaits]
  have hsame := hreach.trans (admitWaiting_sameDom hwaits)
  dsimp only
  rw [hends]
  exact ⟨hsame.domState.trans hoff, by rw [hsame.record, hdwell], (hsame.rd (f := PWR_DOM_STAT_PENDING) rfl).trans hpending⟩

/-! ## The end of the dwell, and the retry after a fault (R457, R463) -/

/-- A change of a domain's record that leaves what the checks read leaves it free to enter RAMP. -/
theorem State.MayRamp.modDoms {g : DomX → DomX} (hoff : s.domState w d = 0) (hdwelt : (g (s.getDoms (domKey w d))).dwelling = false)
    (hplace : s.rd PWR_SEQ_STAT_RAMPING w 0 < 16) (hsteady : (s.getWafers w).downSeq = none) (hpasses : s.refusal w d 1 = 0) (hg : ∀ x, (g x).spineDown = x.spineDown) :
    (s.modDoms (domKey w d) g).MayRamp w d where
  off := hoff
  dwelt := by rwa [State.getDoms_modDoms_same]
  place := hplace
  steady := hsteady
  passes := (s.refusal_modDoms _ hg ..).trans hpasses

theorem dwellDone_eq (hdwell : (s.getDoms (domKey w d)).dwelling = true) : dwellDone w d s = tryRamp w d (s.modDoms (domKey w d) fun x => { x with dwelling := false }) :=
  if_neg (by simp [hdwell])

theorem dwellDone_ramps (hdwell : (s.getDoms (domKey w d)).dwelling = true) (hoff : s.domState w d = 0) (hpending : s.rd PWR_DOM_STAT_PENDING w d = 1)
    (hpasses : s.refusal w d 1 = 0) (hplace : s.rd PWR_SEQ_STAT_RAMPING w 0 < 16) (hsteady : (s.getWafers w).downSeq = none) :
    (dwellDone w d s).domState w d = 1 ∧ ((dwellDone w d s).getDoms (domKey w d)).dwelling = false := by
  obtain ⟨hramp, -, hrecord⟩ := tryRamp_enters (.modDoms (g := fun x => { x with dwelling := false }) hoff rfl hplace hsteady hpasses fun _ => rfl) hpending
  rw [dwellDone_eq hdwell]
  exact ⟨hramp, by rw [hrecord, State.getDoms_modDoms_same]⟩

/-- A domain without a request stays in OFF once its dwell has passed. -/
theorem dwellDone_rests (hdwell : (s.getDoms (domKey w d)).dwelling = true) (hpending : s.rd PWR_DOM_STAT_PENDING w d = 0) :
    (dwellDone w d s).domState w d = s.domState w d ∧ ((dwellDone w d s).getDoms (domKey w d)).dwelling = false := by
  have hstays : dwellDone w d s = s.modDoms (domKey w d) fun x => { x with dwelling := false } :=
    (dwellDone_eq hdwell).trans (if_pos (.inr (.inl (by simp [hpending]))))
  rw [hstays]
  exact ⟨rfl, by rw [State.getDoms_modDoms_same]⟩

/-- The retry of a domain other than a spine asks for ON. -/
theorem faultRetry_ramps (howed : (s.getDoms (domKey w d)).retryOwed = true) (hoff : s.domState w d = 0) (hkind : d < 288 ∨ 360 ≤ d) (hpasses : s.refusal w d 1 = 0)
    (hdwelt : (s.getDoms (domKey w d)).dwelling = false) (hplace : s.rd PWR_SEQ_STAT_RAMPING w 0 < 16) (hsteady : (s.getWafers w).downSeq = none) :
    (faultRetry w d s).domState w d = 1 ∧ ((faultRetry w d s).getDoms (domKey w d)).retryOwed = false := by
  have hasks : faultRetry w d s = domRequest w d 1 (s.modDoms (domKey w d) fun x => { x with retryOwed := false }) :=
    if_neg (by simp only [howed, hoff, Bool.not_true, Bool.false_eq_true, ne_eq, not_true_eq_false, false_or]; omega)
  obtain ⟨hramp, -, hrecord⟩ := domRequest_ramps (.modDoms (g := fun x => { x with retryOwed := false }) hoff hdwelt hplace hsteady hpasses fun _ => rfl)
  rw [hasks]
  exact ⟨hramp, by rw [hrecord, State.getDoms_modDoms_same]⟩

end

end Sys2Proof.Machine

open Sys2Proof Sys2Proof.Machine

/-- Settles O40: what follows a request depends on its check and on the domain's state alone, and steps of other domains leave its copy of PWR_DOM_STAT and its record. -/
theorem domainRequestsAndSteps : Obligations.DomainRequestsAndSteps := by
  intro w s ok
  constructor
  · intro d n refused
    refine ⟨fun h => ⟨_, rfl, domRequest_refused d.isLt (by decide) h⟩, fun h => ⟨_, rfl, domRequest_refused d.isLt (by decide) h⟩,
      fun h => ⟨_, rfl, domRequest_refused d.isLt (by decide) h⟩, fun h hoff hdwelt hplace hsteady => ⟨_, rfl, ?_⟩, fun h hdrain => ⟨_, rfl, ?_⟩,
      fun h hon hkind => ⟨_, rfl, domRequest_drains h (.inl rfl) hon hkind⟩, fun h hoff => ⟨_, rfl, ?_⟩, fun h hon hkind => ⟨_, rfl, domRequest_drains h (.inr rfl) hon hkind⟩⟩
    · obtain ⟨hramp, hpending, -⟩ := domRequest_ramps ⟨hoff, hdwelt, hplace, hsteady, h⟩
      exact ⟨hramp, hpending⟩
    · rw [domRequest_waits h hdrain]
      exact ⟨(s.domState_wrPending ..).trans hdrain, rd_wrPending 1⟩
    · rw [domRequest_off_noEffect h hoff]
      exact ⟨(s.domState_wrPending ..).trans hoff, rd_wrPending 0⟩
  · intro d x pd
    exact ⟨fun hramp hgoing hoff hreset => ⟨_, rfl, rampDone_isolates hramp hgoing hoff hreset⟩,
      fun hisol hgoing hoff hreset hidle => ⟨_, rfl, isolDone_on hisol hgoing hoff hreset hidle⟩,
      fun hdrain hsteady => ⟨_, rfl, drainDone_off hdrain hsteady⟩,
      fun hdwell hoff hpending hpasses hplace hsteady => ⟨_, rfl, dwellDone_ramps hdwell hoff hpending hpasses hplace hsteady⟩,
      fun hdwell hpending => ⟨_, rfl, dwellDone_rests hdwell hpending⟩,
      fun howed hoff hkind hpasses hdwelt hplace hsteady => ⟨_, rfl, faultRetry_ramps howed hoff hkind hpasses hdwelt hplace hsteady⟩⟩

end

section
/-!
PROOF. Supply faults: which domain a fault takes to OFF, and what it counts, captures and raises (R79, R461-R463).
-/
set_option Elab.async false
namespace Sys2Proof.Machine

/-! ## Forced transitions (R461, R478) -/

section
variable {w d c : Nat} {s : State}

/-- A domain that a forced transition has brought to OFF. -/
def forcedOff (w d : Nat) (s : State) : State :=
  (loseDom w d ((leaveDom w d (s.wr PWR_DOM_STAT_PENDING w d 0)).setDom w d 0)).modDoms (domKey w d) fun x => { x with dwelling := true, spineDown := false, children := [] }

/-- A domain that is OFF loses its latch; any other is forced to OFF, and the host field's link goes down with it. -/
theorem forceOne_cases (w d : Nat) (s : State) : (s.domState w d = 0 ∧ forceOne w d s = s.wr PWR_DOM_STAT_PENDING w d 0) ∨
    s.domState w d ≠ 0 ∧ (forceOne w d s = forcedOff w d s ∨ forceOne w d s = pcieLost w (forcedOff w d s)) := by
  by_cases h : s.domState w d = 0
  · exact .inl ⟨h, if_pos h⟩
  · refine .inr ⟨h, ?_⟩
    rw [forceOne, if_neg h]
    dsimp only
    split
    · exact .inr rfl
    · exact .inl rfl

theorem pcieLost_sameDom : SameDom w d s (pcieLost c s) := .of_keeps (pcieLost_keeps ..) (by decide +kernel)

theorem loseDom_other (hc : d ≠ c) : SameDom w d s (loseDom w c s) := by
  unfold loseDom
  refine .ite (.trans ?_ (.modDoms _ hc _)) (.ite ?_ (.refl ..))
  · exact .of_keeps (forEach_keeps (fun u t => t.setCore_keeps ..) _ (.refl _ _)) (by decide +kernel)
  · exact .of_keeps (.next (State.wr_keeps ..) (by decide +kernel) ((clearSpine_keeps ..).widen (M := 0x1cc000 ||| regBit SPN_STAT) (by decide +kernel))) (by decide +kernel)

theorem forceOne_other (hc : d ≠ c) : SameDom w d s (forceOne w c s) := by
  have hoff : SameDom w d s (forcedOff w c s) :=
    ((((SameDom.wr s hc _).trans (.of_keeps (leaveDom_keeps ..) (by decide +kernel))).trans (.setDom _ hc _)).trans (loseDom_other hc)).trans (.modDoms _ hc _)
  obtain ⟨-, heq⟩ | ⟨-, heq | heq⟩ := forceOne_cases w c s
  all_goals rw [heq]
  · exact .wr s hc _
  · exact hoff
  · exact hoff.trans pcieLost_sameDom

theorem forceOne_off (hon : s.domState w d ≠ 0) : (forceOne w d s).domState w d = 0 ∧ ((forceOne w d s).getDoms (domKey w d)).dwelling = true := by
  have hoff : (forcedOff w d s).domState w d = 0 := by
    rw [forcedOff, State.domState_modDoms, domState_loseDom]
    exact State.domState_setDom _ _ _ (by decide)
  have hdwell : ((forcedOff w d s).getDoms (domKey w d)).dwelling = true := by rw [forcedOff, State.getDoms_modDoms_same]
  obtain ⟨hno, -⟩ | ⟨-, heq | heq⟩ := forceOne_cases w d s
  · exact absurd hno hon
  · rw [heq]
    exact ⟨hoff, hdwell⟩
  · have hsame : SameDom w d (forcedOff w d s) (pcieLost w (forcedOff w d s)) := pcieLost_sameDom
    rw [heq, hsame.domState, hsame.record]
    exact ⟨hoff, hdwell⟩

theorem mem_spineStages {f : Nat} (hf : f < 72) (h : c ∈ (spineStages f).flatten) : c < 288 ∨ 360 ≤ c := by
  simp only [spineStages, List.flatten_cons, List.flatten_nil, List.append_nil, List.mem_append, List.mem_map, List.mem_range, List.mem_singleton] at h
  obtain ⟨k, hk, rfl⟩ | ⟨p, -, rfl⟩ | rfl := h <;> omega

/-- A domain below the host fields is not among those below it (R450). -/
theorem State.ne_of_mem_below (hd : d < 452) (h : c ∈ s.below w d) : d ≠ c := by
  unfold State.below at h
  split at h
  next hspine =>
    have hkind := mem_spineStages (f := d - 288) (by omega) h
    omega
  next =>
    rw [if_neg (by omega), if_neg (by omega)] at h
    exact absurd h List.not_mem_nil

theorem forceDown_off (hd : d < 452) (hon : s.domState w d ≠ 0) : (forceDown w d s).domState w d = 0 := by
  have hbelow : SameDom w d s (forEach (s.below w d) s (forceOne w)) := .forEach fun c hc t _ => forceOne_other (State.ne_of_mem_below hd hc)
  obtain ⟨hoff, hdwell⟩ := forceOne_off (hbelow.domState ▸ hon)
  have heq : forceDown w d s = admitWaiting w (forceOne w d (forEach (s.below w d) s (forceOne w))) := by
    unfold forceDown
    dsimp only
    rw [if_neg (by omega)]
  rw [heq, (admitWaiting_sameDom (.inr hdwell)).domState, hoff]

end

/-! ## Leaves during a forced transition (R597) -/

theorem setLinkState_leaves (w : WaferId) (p : PortId) (v : Nat) (s : State) : KeepsLeaves w s (setLinkState (.port w p) v s) := by
  unfold setLinkState
  exact .ite (.refl ..) ((KeepsLeaves.of_keeps (s.wr_keeps LNK_STAT_STATE w p v) (by decide +kernel)).raise _)

theorem leaveDom_leaves (w : WaferId) (d : Nat) (s : State) : KeepsLeaves w s (leaveDom w d s) := by
  have hw : Fin.ofNat 36 w.val = w := Fin.ext (Nat.mod_eq_of_lt w.isLt)
  unfold leaveDom
  rw [hw]
  exact .ite (.of_keeps (leaveOn_keeps ..) (by decide +kernel)) (.ite ((KeepsLeaves.of_keeps (s.putLinks_keeps ..) (by decide +kernel)).trans (setLinkState_leaves ..)) (.refl ..))

theorem forceOne_leaves (w : WaferId) (d : Nat) (s : State) : KeepsLeaves w s (forceOne w d s) := by
  have hlatch : KeepsLeaves w s (s.wr PWR_DOM_STAT_PENDING w d 0) := .of_keeps (s.wr_keeps ..) (by decide +kernel)
  have hoff : KeepsLeaves w s (forcedOff w d s) := (hlatch.trans (leaveDom_leaves w d _)).trans
    (.of_keeps (m := 0x1020000000000000000000000000000000000000000000000000000000000 ||| 0x84000000000000000401cc200) (.next (State.modDoms_keeps ..) (by decide +kernel)
      (.next (loseDom_keeps ..) (by decide +kernel) ((State.setDom_keeps ..).widen (by decide +kernel)))) (by decide +kernel))
  obtain ⟨-, heq⟩ | ⟨-, heq | heq⟩ := forceOne_cases w d s
  all_goals rw [heq]
  · exact hlatch
  · exact hoff
  · exact hoff.trans (.of_keeps (pcieLost_keeps ..) (by decide +kernel))

theorem forceDown_leaves (w : WaferId) (d : Nat) (s : State) : KeepsLeaves w s (forceDown w d s) := by
  have hbelow : KeepsLeaves w s (forEach (s.below w d) s (forceOne w)) := .forEach (forceOne_leaves w) _ _
  unfold forceDown
  exact (KeepsLeaves.ite hbelow (hbelow.trans (forceOne_leaves w d _))).trans (.forEach (tryRamp_leaves w) _ _)

/-! ## The record of a fault (R462) -/

section
variable {w d kind volt : Nat} {s : State}

/-- The fault is counted: for the domain in the last day, and on the wafer. -/
def faultCounted (w d : Nat) (s : State) : State :=
  let times := s.now :: (s.getDoms (domKey w d)).faultTimes.filter fun t => s.now < t + 86400000000000
  ((s.putDoms (domKey w d) { s.getDoms (domKey w d) with faultTimes := times }).wr PWR_DOM_STAT_FAULTS_24H w d (min 3 times.length)).bump PWR_FAULTS_COUNT w 0 1

/-- The first fault is captured. -/
def faultCaptured (w d kind volt : Nat) (s : State) : State :=
  if s.rd PWR_FAULT_CAP_VALID w 0 = 1 then s
  else ((((s.wr PWR_FAULT_CAP_DOMAIN w 0 d).wr PWR_FAULT_CAP_KIND w 0 kind).wr PWR_FAULT_CAP_VOLT w 0 volt).wr PWR_FAULT_CAP_VALID w 0 1).setReg PWR_FAULT_TIME w 0 (s.tbNow w)

theorem recordFault_eq (w d kind volt : Nat) (s : State) : recordFault w d kind volt s = (faultCaptured w d kind volt (faultCounted w d s)).raise w Leaf.supplyFault := rfl

theorem faultCounted_keeps (w d : Nat) (s : State) : Keeps (0x40000000 ||| regBit PWR_DOM_STAT ||| regBit PWR_FAULTS) s (faultCounted w d s) :=
  .next (State.bump_keeps ..) (by decide +kernel) (.next (State.wr_keeps ..) (by decide +kernel) ((State.putDoms_keeps ..).widen (by decide +kernel)))

theorem faultCaptured_keeps (w d kind volt : Nat) (s : State) : Keeps (regBit PWR_FAULT_CAP ||| regBit PWR_FAULT_TIME) s (faultCaptured w d kind volt s) := by
  refine .ite (.refl ..) (.next (State.setReg_keeps ..) (by decide +kernel) ?_)
  exact .next (State.wr_keeps ..) (by decide +kernel) (.next (State.wr_keeps ..) (by decide +kernel) (.next (State.wr_keeps ..) (by decide +kernel)
    ((s.wr_keeps PWR_FAULT_CAP_DOMAIN w 0 d).widen (by decide +kernel))))

theorem recordFault_domState : (recordFault w d kind volt s).domState w d = s.domState w d := by
  have hcounted : (faultCounted w d s).domState w d = s.domState w d := by
    rw [faultCounted, State.bump, State.domState_wr _ (.inl (by decide)), State.domState_wr _ (.inr ⟨rfl, by decide, by decide⟩)]
    rfl
  have hcaptured := (faultCaptured_keeps w d kind volt (faultCounted w d s)).rd PWR_DOM_STAT_STATE w d (by decide) (by decide +kernel)
  exact ((State.raise_keeps ..).rd PWR_DOM_STAT_STATE w d (by decide) (by decide +kernel)).trans (hcaptured.trans hcounted)

theorem recordFault_count : (recordFault w d kind volt s).rd PWR_FAULTS_COUNT w 0 = satAdd PWR_FAULTS_COUNT.width (s.rd PWR_FAULTS_COUNT w 0) 1 := by
  rw [recordFault_eq, (State.raise_keeps ..).rd _ _ _ (by decide) (by decide +kernel), (faultCaptured_keeps ..).rd _ _ _ (by decide) (by decide +kernel), faultCounted,
    State.rd_bump_same _ _ _ _ _ (by decide) (by decide), State.rd_wr_id _ _ _ _ _ _ _ _ (by decide), State.rd_putDoms]

theorem recordFault_capture (hd : d < 512) (hkind : kind < 8) (hvolt : volt < 4096) (hfree : s.rd PWR_FAULT_CAP_VALID w 0 = 0) : let t := recordFault w d kind volt s
    t.rd PWR_FAULT_CAP_VALID w 0 = 1 ∧ t.rd PWR_FAULT_CAP_DOMAIN w 0 = d ∧ t.rd PWR_FAULT_CAP_KIND w 0 = kind ∧ t.rd PWR_FAULT_CAP_VOLT w 0 = volt := by
  have hraise : ∀ (u : State) (f : Fld), f.reg = PWR_FAULT_CAP → (u.raise w Leaf.supplyFault).rd f w 0 = u.rd f w 0 := fun u f hf =>
    (u.raise_keeps ..).rd f _ _ (hf ▸ (by decide)) (hf ▸ (by decide +kernel))
  have hfree' : ¬ (faultCounted w d s).rd PWR_FAULT_CAP_VALID w 0 = 1 := by
    rw [(faultCounted_keeps ..).rd _ _ _ (by decide) (by decide +kernel)]
    omega
  dsimp only
  rw [recordFault_eq, hraise _ _ rfl, hraise _ _ rfl, hraise _ _ rfl, hraise _ _ rfl, faultCaptured, if_neg hfree']
  simp (disch := decide) only [State.rd_setReg_id, State.rd_wr_same, State.rd_wr_field]
  exact ⟨rfl, Nat.mod_eq_of_lt hd, Nat.mod_eq_of_lt hkind, Nat.mod_eq_of_lt hvolt⟩

theorem recordFault_leaf : (recordFault w d kind volt s).leafSet w Leaf.supplyFault = true := State.raise_sets _ _ _ (by decide)

end

/-! ## The commands that a fault discards (R79) -/

/-- A domain that is not OFF is not OFF afterwards. -/
structure StaysUp (w d : Nat) (s t : State) : Prop where
  up : s.domState w d ≠ 0 → t.domState w d ≠ 0

section
variable {w d : Nat} {s t u : State}

theorem StaysUp.refl (w d : Nat) (s : State) : StaysUp w d s s := ⟨id⟩

theorem StaysUp.trans (h1 : StaysUp w d s t) (h2 : StaysUp w d t u) : StaysUp w d s u := ⟨h2.up ∘ h1.up⟩

theorem StaysUp.of_keeps {m : Nat} (h : Keeps m s t) (hm : m.testBit (64 + PWR_DOM_STAT.id) = false) : StaysUp w d s t :=
  ⟨fun hup => by rwa [State.domState, h.rd PWR_DOM_STAT_STATE w d (by decide) hm]⟩

theorem StaysUp.forEach {α : Type} {g : α → State → State} (hg : ∀ x t, StaysUp w d t (g x t)) (xs : List α) (s : State) : StaysUp w d s (forEach xs s g) :=
  forEach_relates (StaysUp.refl w d) StaysUp.trans hg xs s

/-- A change of any domain to a state other than OFF. -/
theorem StaysUp.setDom (s : State) (x c : Nat) {st : Nat} (hst : st < 8) (hon : st ≠ 0) : StaysUp w d s (s.setDom x c st) := by
  refine ⟨fun hup => ?_⟩
  by_cases hcopy : w = x ∧ d = c
  · obtain ⟨rfl, rfl⟩ := hcopy
    rwa [State.domState_setDom _ _ _ hst]
  · obtain ⟨-, heq⟩ | ⟨on, ramp, mv, heq⟩ := s.setDom_cases x c st
    · rwa [heq]
    · rwa [heq, State.domState, (State.seqCounted_keeps ..).rd _ _ _ (by decide) (by decide +kernel), State.rd_wr_ne _ _ _ _ _ _ _ _ (.inr (by tauto))]

theorem quadIdle_staysUp (x q : Nat) (s : State) : StaysUp w d s (quadIdle x q s) := by
  have heval : StaysUp w d s (evalPark x q s) := .of_keeps (evalPark_keeps ..) (by decide +kernel)
  unfold quadIdle
  dsimp only
  split
  · exact (heval.trans (.setDom _ x q (by decide) (by decide))).trans
      (.of_keeps (.next (State.modDoms_keeps ..) (by decide +kernel) ((leaveOn_keeps ..).widen (M := 0x6004040000000000000000000000000000000000000000000000000260000000) (by decide +kernel)))
        (by decide +kernel))
  · exact heval

theorem discardCmd_staysUp (x p : Nat) (s : State) : StaysUp w d s (discardCmd x p s) := by
  have hcores : StaysUp w d s (endCores x p s) := by
    unfold endCores
    exact (StaysUp.of_keeps (forEach_keeps (M := 0x500900000000000000000000000100000000000000800000000000000000000000000400000000000000000002200)
      (fun _ t => .ite (leaveCmd_keeps ..) (.refl ..)) _ (.refl ..)) (by decide +kernel)).trans (.forEach (quadIdle_staysUp x) _ _)
  have hrest : Keeps 0x84400 (endCores x p s) (discardCmd x p s) := by
    unfold discardCmd
    exact .next (State.modPart_keeps ..) (by decide +kernel) (.next (returnLeases_keeps ..) (by decide +kernel) ((withdrawQueued_keeps ..).widen (by decide +kernel)))
  exact hcores.trans (.of_keeps hrest (by decide +kernel))

theorem cutRunning_staysUp (x p : Nat) (s : State) : StaysUp w d s (cutRunning x p s) := by
  unfold cutRunning
  split
  · split
    · exact .refl ..
    · exact (discardCmd_staysUp x p s).trans (.of_keeps (requeue_keeps ..) (by decide +kernel))
  · exact .refl ..

theorem cutJob_staysUp (x p : Nat) (s : State) : StaysUp w d s (cutJob x p s) := by
  unfold cutJob
  refine StaysUp.forEach (fun y t => ?_) _ _
  exact cutRunning_staysUp y.1 y.2 t

end

/-! ## What follows a fault (R322, R463) -/

/-- The step of the derived lists for one domain (R451, R753). -/
def blockStep (w : Nat) (l : Ledger) (d : Nat) (t : State) : State :=
  if l.blocks d then (if t.rd PWR_DOM_STAT_BLOCKED w d = 1 then t else blockDomain w d t)
  else (t.wr PWR_DOM_STAT_BLOCKED w d 0).when ((t.getDoms (domKey w d)).downWhenIdle) fun t => t.modDoms (domKey w d) fun x => { x with downWhenIdle := false }

/-- The registers that the derived lists write beside those of the domains. -/
def listMask : Nat := 0xc00fc800000000000000000000000000000000000000

/-- What the writes of the lists, the raise and the step of each domain keep, the derived lists keep. -/
theorem deriveLists_holds {P : State → Prop} {w : Nat} {s : State} (hlists : ∀ t u, Keeps listMask t u → P t → P u) (hraise : ∀ t, P t → P (t.raise w Leaf.belowGuarantee))
    (hdomain : ∀ l d t, P t → P (blockStep w l d t)) (hs : P s) : P (deriveLists w s) := by
  have hwr : ∀ (t : State) (f : Fld) (i v : Nat), regBit f.reg ||| listMask = listMask → P t → P (t.wr f w i v) := fun t f i v hf => hlists _ _ ((t.wr_keeps f w i v).widen hf)
  have hset : ∀ (t : State) (r : Reg) (v : Nat), regBit r ||| listMask = listMask → P t → P (t.setReg r w 0 v) := fun t r v hr => hlists _ _ ((t.setReg_keeps r w 0 v).widen hr)
  have hbelow : ∀ (t : State) (p : Prop) [Decidable p], P t → P (if p then t.raise w Leaf.belowGuarantee else t) := fun t p _ ht => by
    split
    · exact hraise t ht
    · exact ht
  unfold deriveLists
  refine hwr _ _ _ _ ?_ (hwr _ _ _ _ ?_ (forEach_holds (fun d _ t ht => hdomain _ d t ht) (hbelow _ _ ?_)))
  · decide +kernel
  · decide +kernel
  · iterate 6 refine hwr _ _ _ _ (by decide +kernel) ?_
    refine forEach_holds (fun f _ t ht => hwr _ _ _ _ (by decide +kernel) ht) ?_
    iterate 4 refine hset _ _ _ (by decide +kernel) ?_
    exact forEach_holds (fun f _ t ht => hlists _ _ ((setHoles_keeps ..).widen (by decide +kernel)) ht) hs

/-- The domain is OFF and shows its fault. -/
structure State.Faulted (s : State) (w d : Nat) : Prop where
  off : s.domState w d = 0
  fault : s.rd PWR_DOM_STAT_FAULT w d = 1

section
variable {w d : Nat} {s t : State}

theorem State.Faulted.of_keeps {m : Nat} (h : s.Faulted w d) (hkeeps : Keeps m s t) (hm : m.testBit (64 + PWR_DOM_STAT.id) = false) : t.Faulted w d :=
  ⟨(hkeeps.rd PWR_DOM_STAT_STATE w d (by decide) hm).trans h.off, (hkeeps.rd PWR_DOM_STAT_FAULT w d (by decide) hm).trans h.fault⟩

theorem State.Faulted.sameDom (h : s.Faulted w d) (hsame : SameDom w d s t) : t.Faulted w d := ⟨hsame.domState.trans h.off, (hsame.rd rfl).trans h.fault⟩

/-- A field above FAULT is written. -/
theorem State.Faulted.wr (h : s.Faulted w d) {f : Fld} (hreg : f.reg = PWR_DOM_STAT) (hlo : 5 < f.lo) (hhi : f.lo ≤ f.hi ∧ f.hi < 64) (c v : Nat) :
    (s.wr f w c v).Faulted w d where
  off := (s.domState_wr (.inr ⟨hreg, by omega, hhi⟩) ..).trans h.off
  fault := (s.rd_wr_apart _ _ _ _ _ _ _ (.inr ⟨hreg.symm, hhi.1, by decide, .inl hlo⟩)).trans h.fault

theorem State.Faulted.blockDomain (h : s.Faulted w d) (c : Nat) : (blockDomain w c s).Faulted w d := by
  have hblocked := h.wr (f := PWR_DOM_STAT_BLOCKED) rfl (by decide) (by decide) c 1
  by_cases hc : d = c
  · subst hc
    have hstays : Machine.blockDomain w d s = s.wr PWR_DOM_STAT_BLOCKED w d 1 := by
      unfold Machine.blockDomain
      dsimp only
      rw [if_pos (.inl hblocked.off)]
    rwa [hstays]
  · refine hblocked.sameDom ?_
    unfold Machine.blockDomain
    exact .ite (.refl ..) (.ite (.ite (.setDom _ hc _) (.wr _ hc _)) (.modDoms _ hc _))

theorem State.Faulted.blockStep (h : s.Faulted w d) (l : Ledger) (c : Nat) : (blockStep w l c s).Faulted w d := by
  have hblocked := h.wr (f := PWR_DOM_STAT_BLOCKED) rfl (by decide) (by decide) c 0
  unfold Machine.blockStep
  split
  · split
    · exact h
    · exact h.blockDomain c
  · exact hblocked.of_keeps (State.when_keeps (fun t => t.modDoms_keeps ..) (.refl ..)) (by decide +kernel)

theorem State.Faulted.runtimeOpen (h : s.Faulted w d) (ty kind ob : Nat) : (runtimeOpen w ty kind ob s).Faulted w d := by
  have hadded : ∀ x, (deriveLists w (appendFinding w x s.fresh.2)).Faulted w d := fun x =>
    deriveLists_holds (P := (State.Faulted · w d)) (fun t u hkeeps ht => ht.of_keeps hkeeps (by decide +kernel)) (fun t ht => ht.of_keeps (State.raise_keeps ..) (by decide +kernel))
      (fun l c t ht => ht.blockStep l c) ((h.of_keeps s.fresh_keeps (by decide +kernel)).of_keeps (appendFinding_keeps ..) (by decide +kernel))
  have hclosed := fun x => (hadded x).of_keeps (closeEdit_keeps w 5 _) (by decide +kernel)
  unfold Machine.runtimeOpen runtimeFinding
  dsimp only
  split
  · exact h.of_keeps s.fresh_keeps (by decide +kernel)
  · split
    · exact (hclosed _).of_keeps (State.raise_keeps ..) (by decide +kernel)
    · exact hclosed _

theorem State.Faulted.afterFault (h : s.Faulted w d) : (afterFault w d s).Faulted w d := by
  have hretry : ∀ t : State, t.Faulted w d → (t.modDoms (domKey w d) fun x => { x with retryOwed := true }).Faulted w d := fun t ht =>
    ht.of_keeps (State.modDoms_keeps ..) (by decide +kernel)
  have hlink : ∀ l v, (setLinkState l v s).Faulted w d := fun l v => h.of_keeps (setLinkState_keeps ..) (by decide +kernel)
  have hport : ∀ (p : Prop) [Decidable p] l, (if p then setLinkState l 4 s else s).Faulted w d := fun p _ l => by
    split
    · exact hlink ..
    · exact h
  unfold Machine.afterFault
  dsimp only
  split
  · split
    · exact h.runtimeOpen ..
    · exact hretry s h
  · split
    · split
      · exact h.runtimeOpen ..
      · exact hretry s h
    · split
      · exact (hport _ _).wr rfl (by decide) (by decide) d 1
      · exact hretry _ (hport _ _)

end

theorem blockStep_leaves (w : Nat) (l : Ledger) (d : Nat) (s : State) : KeepsLeaves w s (blockStep w l d s) := by
  unfold blockStep
  refine .ite (.ite (.refl ..) (.of_keeps (blockDomain_keeps ..) (by decide +kernel))) (.of_keeps (m := 0x40000000 ||| regBit PWR_DOM_STAT) ?_ (by decide +kernel))
  exact State.when_keeps (fun t => (t.modDoms_keeps ..).widen (by decide +kernel)) ((s.wr_keeps ..).widen (by decide +kernel))

theorem appendFinding_leaves (w : Nat) (x : Finding) (s : State) : KeepsLeaves w s (appendFinding w x s) := by
  have hshown : ∀ l, KeepsLeaves w s (ledgerSync w (s.putLedgers w l)) := fun l =>
    (KeepsLeaves.of_keeps (s.putLedgers_keeps w l) (by decide +kernel)).trans (.of_keeps (ledgerSync_keeps ..) (by decide +kernel))
  have hcount : ∀ l, KeepsLeaves w s (if x.phase < 5 then (ledgerSync w (s.putLedgers w l)).bump BUP_NEW_START w 0 1 else (ledgerSync w (s.putLedgers w l)).bump BUP_NEW_RUNTIME w 0 1) :=
    fun l => (hshown l).trans (.ite (.of_keeps (State.bump_keeps ..) (by decide +kernel)) (.of_keeps (State.bump_keeps ..) (by decide +kernel)))
  have hnear : ∀ l (p : Prop) [Decidable p], KeepsLeaves w s (if p then (_ : State).raise w Leaf.ledgerNear else _) := fun l p _ => .ite ((hcount l).raise _) (hcount l)
  unfold appendFinding
  exact .ite (.refl w s) (.ite ((hnear _ _).raise _) (hnear _ _))

theorem closeEdit_leaves (w phase : Nat) (s : State) : KeepsLeaves w s (closeEdit w phase s) := by
  unfold closeEdit
  exact .ite (.refl ..) ((State.journalAt_leaves ..).trans (.of_keeps (State.modLedgers_keeps ..) (by decide +kernel)))

theorem deriveLists_leaves (w : Nat) (s : State) : KeepsLeaves w s (deriveLists w s) :=
  deriveLists_holds (P := KeepsLeaves w s) (fun _ _ hkeeps h => h.trans (.of_keeps hkeeps (by decide +kernel))) (fun _ h => h.raise _)
    (fun l d t h => h.trans (blockStep_leaves w l d t)) (.refl ..)

theorem runtimeOpen_leaves (w ty kind ob : Nat) (s : State) : KeepsLeaves w s (runtimeOpen w ty kind ob s) := by
  have hfresh : KeepsLeaves w s s.fresh.2 := .of_keeps s.fresh_keeps (by decide +kernel)
  have hclosed : ∀ x, KeepsLeaves w s (closeEdit w 5 (deriveLists w (appendFinding w x s.fresh.2))) := fun x =>
    ((hfresh.trans (appendFinding_leaves ..)).trans (deriveLists_leaves ..)).trans (closeEdit_leaves ..)
  unfold runtimeOpen runtimeFinding
  exact .ite hfresh (.ite ((hclosed _).raise _) (hclosed _))

theorem afterFault_leaves (w : WaferId) (d : Nat) (s : State) : KeepsLeaves w s (afterFault w d s) := by
  have hw : Fin.ofNat 36 w.val = w := Fin.ext (Nat.mod_eq_of_lt w.isLt)
  have hretry : ∀ t : State, KeepsLeaves w t (t.modDoms (domKey w d) fun x => { x with retryOwed := true }) := fun t => .of_keeps (State.modDoms_keeps ..) (by decide +kernel)
  have hport : KeepsLeaves w s (if 432 ≤ d then setLinkState (.port w (Fin.ofNat 20 (d - 432))) 4 s else s) := .ite (setLinkState_leaves ..) (.refl ..)
  unfold afterFault
  rw [hw]
  exact .ite (.ite (runtimeOpen_leaves ..) (hretry s)) (.ite (.ite (runtimeOpen_leaves ..) (hretry s))
    (.ite (hport.trans (.of_keeps (State.wr_keeps ..) (by decide +kernel))) (hport.trans (hretry _))))

theorem raiseBlocked_leaves (w d was : Nat) (s : State) : KeepsLeaves w s (raiseBlocked w d was s) := .ite ((KeepsLeaves.refl w s).raise _) (.refl ..)

/-! ## A supply fault (R462, R463) -/

/-- What follows the record of a fault: the domain goes down with those below it, and after bring-up the fault's finding or retry follows. -/
def faultHandled (w d was : Nat) (s : State) : State :=
  let t := (forceDown w d s).wr PWR_DOM_STAT_FAULT w d 1
  if t.rd BUP_STAT_PHASE w 0 < 5 then t else raiseBlocked w d was (afterFault w d t)

theorem supplyFault_eq (w d kind volt : Nat) (s : State) :
    supplyFault w d kind volt s = faultHandled w d (s.rd PWR_DOM_STAT_BLOCKED w d) (recordFault w d kind volt (forEach (s.partsOfDom w d) s (cutJob w))) := rfl

theorem faultHandled_faulted {w d : Nat} {s : State} (was : Nat) (hd : d < 452) (hon : s.domState w d ≠ 0) : (faultHandled w d was s).Faulted w d := by
  have hdown : ((forceDown w d s).wr PWR_DOM_STAT_FAULT w d 1).Faulted w d :=
    ⟨(State.domState_wr _ (.inr fault_ofDomStat) ..).trans (forceDown_off hd hon), State.rd_wr_same _ _ _ _ _ (by decide) (by decide)⟩
  unfold faultHandled
  dsimp only
  split
  · exact hdown
  · exact hdown.afterFault.of_keeps (raiseBlocked_keeps ..) (by decide +kernel)

theorem faultHandled_leaves (w : WaferId) (d was : Nat) (s : State) : KeepsLeaves w s (faultHandled w d was s) := by
  have hdown : KeepsLeaves w s ((forceDown w d s).wr PWR_DOM_STAT_FAULT w d 1) := (forceDown_leaves w d s).trans (.of_keeps (State.wr_keeps ..) (by decide +kernel))
  unfold faultHandled
  exact .ite hdown ((hdown.trans (afterFault_leaves ..)).trans (raiseBlocked_leaves ..))

/-- The mask of everything but the record of a wafer's faults. -/
def allButFaults : Nat := (2 ^ 384 - 1) ^^^ (regBit PWR_FAULTS ||| regBit PWR_FAULT_CAP)

theorem faultHandled_keeps (w d was : Nat) (s : State) : Keeps allButFaults s (faultHandled w d was s) := by
  have hdown : Keeps allButFaults s ((forceDown w d s).wr PWR_DOM_STAT_FAULT w d 1) :=
    .next (State.wr_keeps ..) (by decide +kernel) ((forceDown_keeps ..).widen (by decide +kernel))
  exact .ite hdown (.next (raiseBlocked_keeps ..) (by decide +kernel) (.next (afterFault_keeps ..) (by decide +kernel) hdown))

/-- What a supply fault of any kind shows. -/
structure SupplyFaulted (w d kind volt : Nat) (s t : State) : Prop where
  domain : t.Faulted w d
  leaf : t.leafSet w Leaf.supplyFault = true
  count : t.rd PWR_FAULTS_COUNT w 0 = satAdd PWR_FAULTS_COUNT.width (s.rd PWR_FAULTS_COUNT w 0) 1
  capture : s.rd PWR_FAULT_CAP_VALID w 0 = 0 →
    t.rd PWR_FAULT_CAP_VALID w 0 = 1 ∧ t.rd PWR_FAULT_CAP_DOMAIN w 0 = d ∧ t.rd PWR_FAULT_CAP_KIND w 0 = kind ∧ t.rd PWR_FAULT_CAP_VOLT w 0 = volt

theorem supplyFault_faulted {w : WaferId} {d kind volt : Nat} {s : State} (hd : d < 452) (hkind : kind < 8) (hvolt : volt < 4096) (hon : s.domState w d ≠ 0) :
    SupplyFaulted w d kind volt s (supplyFault w d kind volt s) := by
  have hcut : Keeps 0x500900000000000000000000000106005060000004820000000000000000000000000400000000000000260086600 s (forEach (s.partsOfDom w d) s (cutJob w)) :=
    forEach_keeps (fun p t => cutJob_keeps w p t) _ (.refl ..)
  have hup : StaysUp w d s (forEach (s.partsOfDom w d) s (cutJob w)) := .forEach (cutJob_staysUp w) _ _
  have hhandled := fun u => faultHandled_keeps w d (s.rd PWR_DOM_STAT_BLOCKED w d) u
  have hcap : ∀ (u : State) (f : Fld), f.reg = PWR_FAULT_CAP → (faultHandled w d (s.rd PWR_DOM_STAT_BLOCKED w d) u).rd f w 0 = u.rd f w 0 := fun u f hf =>
    (hhandled u).rd f _ _ (hf ▸ (by decide)) (hf ▸ (by decide +kernel))
  rw [supplyFault_eq]
  refine ⟨faultHandled_faulted _ hd (by rw [recordFault_domState]; exact hup.up hon), (faultHandled_leaves ..).set _ (by decide) recordFault_leaf, ?_, fun hfree => ?_⟩
  · rw [(hhandled _).rd _ _ _ (by decide) (by decide +kernel), recordFault_count, hcut.rd _ _ _ (by decide) (by decide +kernel)]
  · rw [hcap _ _ rfl, hcap _ _ rfl, hcap _ _ rfl, hcap _ _ rfl]
    exact recordFault_capture (by omega) hkind hvolt ((hcut.rd _ _ _ (by decide) (by decide +kernel)).trans hfree)

/-- A fault of a domain below the host fields, outside a take-down of the wafer. -/
theorem anyFault_faulted {w : WaferId} {d kind volt : Nat} {s : State} (hpowered : (s.getWafers w).powered = true) (hon : s.domState w d ≠ 0) (hd : d < 452) (hkind : kind < 8)
    (hvolt : volt < 4096) (hsteady : (s.getWafers w).downSeq = none) : SupplyFaulted w d kind volt s (anyFault w d kind volt s) := by
  have heq : anyFault w d kind volt s = supplyFault w d kind volt s := by
    rw [anyFault, if_neg (by simp [hpowered, hon]), if_pos hd, settle_steady (by rw [(supplyFault_keeps ..).getWafers (by decide +kernel), hsteady])]
  exact heq ▸ supplyFault_faulted hd hkind hvolt hon

/-- A fault of a host field's domain warm starts the wafer. -/
theorem anyFault_hostField {w d kind volt : Nat} {s : State} (hpowered : (s.getWafers w).powered = true) (hon : s.domState w d ≠ 0) (hd : d = 452 ∨ d = 453) :
    (anyFault w d kind volt s).rd BUP_STAT_START_KIND w 0 = 1 ∧ (anyFault w d kind volt s).rd BUP_STAT_READY w 0 = 0 := by
  have hstart : ∃ u, anyFault w d kind volt s = startWafer w (some 1) u := by
    rw [anyFault, if_neg (by simp [hpowered, hon]), if_neg (by omega), if_neg (by omega)]
    exact ⟨_, rfl⟩
  obtain ⟨u, heq⟩ := hstart
  obtain ⟨hready, hkind⟩ := startWafer_shows w (some 1) u
  exact heq ▸ ⟨hkind, hready⟩

/-- A fault of the always-on domain takes the wafer's power. -/
theorem anyFault_alwaysOn {w kind volt : Nat} {s : State} (hpowered : (s.getWafers w).powered = true) (hon : s.domState w 454 ≠ 0) :
    ((anyFault w 454 kind volt s).getWafers w).powered = false := by
  have heq : anyFault w 454 kind volt s = unpower w (forceAll w s) := by
    rw [anyFault, if_neg (by simp [hpowered, hon]), if_neg (by omega), if_pos rfl]
  exact heq ▸ powered_unpower ..

end Sys2Proof.Machine

end

section
/-!
PROOF. Droop gates, park groups and lost IBCs, and the statement about supply faults that rests on them (R76, R78, R79, R462, R463, R466, R471).
-/
set_option Elab.async false
namespace Sys2Proof.Machine

/-! ## Droop gates (R78, R79) -/

section
variable {w d : Nat} {s : State}

theorem accrue_sameDom (x : Nat) : SameDom w d s (accrue x s) := .of_keeps (accrue_keeps ..) (by decide +kernel)

/-- A closed droop gate is counted. -/
theorem rd_gateEvents_bump (t : State) : (t.bump PWR_GATE_EVENTS_COUNT w 0 1).rd PWR_GATE_EVENTS_COUNT w 0 = satAdd PWR_GATE_EVENTS_COUNT.width (t.rd PWR_GATE_EVENTS_COUNT w 0) 1 :=
  State.rd_bump_same _ _ _ _ _ (by decide) (by decide)

theorem gateEngage_quadrant (hd : d < 288) (hon : s.domState w d = 3) (hopen : (s.getDoms (domKey w d)).gated = false) : let t := gateEngage w d s
    (t.getDoms (domKey w d)).gated = true ∧ t.rd PWR_QRATE_GATED w d = 1 ∧
      t.rd PWR_GATE_EVENTS_COUNT w 0 = satAdd PWR_GATE_EVENTS_COUNT.width (s.rd PWR_GATE_EVENTS_COUNT w 0) 1 := by
  have hsame : SameDom w d s (accrue w s) := accrue_sameDom w
  have heq : gateEngage w d s =
      (((accrue w s).modDoms (domKey w d) fun x => { x with gated := true }).wr PWR_QRATE_GATED w d 1).bump PWR_GATE_EVENTS_COUNT w 0 1 := by
    unfold gateEngage
    dsimp only
    rw [if_neg (not_not.mpr (hsame.domState.trans hon)), if_pos hd, if_neg (by simp [hsame.record, hopen])]
  dsimp only
  rw [heq]
  refine ⟨?_, ?_, ?_⟩
  · rw [State.bump, State.getDoms_wr, State.getDoms_wr, State.getDoms_modDoms_same]
  · rw [State.bump, State.rd_wr_id _ _ _ _ _ _ _ _ (by decide), State.rd_wr_same _ _ _ _ _ (by decide) (by decide)]
    rfl
  · rw [rd_gateEvents_bump, State.rd_wr_id _ _ _ _ _ _ _ _ (by decide), State.rd_modDoms, (accrue_keeps ..).rd _ _ _ (by decide) (by decide +kernel)]

theorem gateEngage_spine (hlo : 288 ≤ d) (hhi : d < 360) (hon : s.domState w d = 3) (hopen : s.rd SPN_STAT_GATED w (d - 288) = 0) : let t := gateEngage w d s
    t.rd SPN_STAT_GATED w (d - 288) = 1 ∧ t.rd PWR_GATE_EVENTS_COUNT w 0 = satAdd PWR_GATE_EVENTS_COUNT.width (s.rd PWR_GATE_EVENTS_COUNT w 0) 1 := by
  have hsame : SameDom w d s (accrue w s) := accrue_sameDom w
  have hgate : (accrue w s).rd SPN_STAT_GATED w (d - 288) = 0 := ((accrue_keeps ..).rd _ _ _ (by decide) (by decide +kernel)).trans hopen
  have heq : gateEngage w d s = ((accrue w s).wr SPN_STAT_GATED w (d - 288) 1).bump PWR_GATE_EVENTS_COUNT w 0 1 := by
    unfold gateEngage
    dsimp only
    rw [if_neg (not_not.mpr (hsame.domState.trans hon)), if_neg (by omega), if_pos hhi, if_neg (by omega)]
  dsimp only
  rw [heq]
  refine ⟨?_, ?_⟩
  · rw [State.bump, State.rd_wr_id _ _ _ _ _ _ _ _ (by decide), State.rd_wr_same _ _ _ _ _ (by decide) (by decide)]
    rfl
  · rw [rd_gateEvents_bump, State.rd_wr_id _ _ _ _ _ _ _ _ (by decide), (accrue_keeps ..).rd _ _ _ (by decide) (by decide +kernel)]

/-- A gate that has been engaged for too long faults its domain. -/
theorem gateTimeout_engaged {volt : Nat} (h : (d < 288 ∧ (s.getDoms (domKey w d)).gated = true) ∨ 288 ≤ d ∧ d < 360 ∧ s.rd SPN_STAT_GATED w (d - 288) = 1) :
    gateTimeout w d volt s = anyFault w d 2 volt s := by
  refine if_pos ?_
  obtain ⟨hd, hgated⟩ | ⟨hlo, hhi, hgated⟩ := h
  · rw [if_pos hd, hgated]
  · rw [if_neg (by omega), hgated, decide_eq_true hhi]
    rfl

theorem gateRelease_quadrant (hd : d < 288) : ((gateRelease w d s).getDoms (domKey w d)).gated = false := by
  have heq : gateRelease w d s = (accrue w s).modDoms (domKey w d) fun x => { x with gated := false } := if_pos hd
  rw [heq, State.getDoms_modDoms_same]

theorem gateRelease_spine (hlo : 288 ≤ d) (hhi : d < 360) : (gateRelease w d s).rd SPN_STAT_GATED w (d - 288) = 0 := by
  have heq : gateRelease w d s = (accrue w s).wr SPN_STAT_GATED w (d - 288) 0 := (if_neg (by omega)).trans (if_pos hhi)
  rw [heq]
  exact State.rd_wr_same _ _ _ _ _ (by decide) (by decide)

end

/-! ## Single bits of a field -/

theorem bitAt_two_pow (n i : Nat) : bitAt (2 ^ n) i = decide (n = i) := by rw [bitAt_testBit, Nat.testBit_two_pow]

/-- The complement of one bit has every other bit of its width. -/
theorem bitAt_notBits {n i : Nat} (b : Nat) (hi : i < n) : bitAt (notBits n (2 ^ b)) i = !decide (b = i) := by
  rw [bitAt_testBit, notBits, Nat.testBit_xor, Nat.testBit_two_pow_sub_one, Nat.testBit_mod_two_pow, Nat.testBit_two_pow]
  simp [hi]

/-- After a write of bit `b` of a field, that bit is as written and the others are as before. -/
theorem State.bitAt_wrBit (s : State) (f : Fld) (w i b : Nat) (v : Bool) {k : Nat} (hf : f.lo ≤ f.hi ∧ f.hi < 64) (hk : k < f.width) :
    bitAt ((s.wrBit f w i b v).rd f w i) k = if k = b then v else bitAt (s.rd f w i) k := by
  have hmod : ∀ n, bitAt (n % 2 ^ (f.hi + 1 - f.lo)) k = bitAt n k := fun n => by
    rw [bitAt_testBit, bitAt_testBit, Nat.testBit_mod_two_pow, decide_eq_true (show k < f.hi + 1 - f.lo from hk), Bool.true_and]
  rw [State.wrBit, State.rd_wr_same _ _ _ _ _ hf.1 hf.2, hmod]
  cases v with
  | true =>
    rw [if_pos rfl, bitAt_or, bitAt_two_pow]
    rcases eq_or_ne k b with rfl | h
    · simp
    · simp [h, h.symm]
  | false =>
    rw [if_neg (by decide), bitAt_and, bitAt_notBits b hk]
    rcases eq_or_ne k b with rfl | h
    · simp
    · simp [h, h.symm]

theorem State.rd_wrBit_field (s : State) {f g : Fld} (w i b : Nat) (v : Bool) (hr : g.reg = f.reg) (hf : f.lo ≤ f.hi) (hg : g.hi < 64) (h : g.hi < f.lo ∨ f.hi < g.lo) :
    (s.wrBit f w i b v).rd g w i = s.rd g w i := State.rd_wr_field _ _ _ _ _ _ hr hf hg h

/-! ## Records of park requests -/

theorem State.getParks_modParks_same (s : State) (k : Nat) (g : ParkQ → ParkQ) : (s.modParks k g).getParks k = g (s.getParks k) := by
  simp [State.modParks]

theorem State.rd_modParks (s : State) (k : Nat) (g : ParkQ → ParkQ) (f : Fld) (w i : Nat) : (s.modParks k g).rd f w i = s.rd f w i := rfl

theorem State.groupDepth_modParks (s : State) (x : Nat) (g : ParkQ → ParkQ) (w q k : Nat) : (s.modParks x g).groupDepth w q k = s.groupDepth w q k := rfl

theorem State.getParks_wrBit (s : State) (f : Fld) (w i b : Nat) (v : Bool) (k : Nat) : (s.wrBit f w i b v).getParks k = s.getParks k := rfl

/-! ## The turn of a group (R467, R468) -/

/-- A group that begins a move to a depth. -/
def moveBegun (w q k want cur : Nat) (s : State) : State :=
  (s.wrBit PWR_PARK_MOVING w q k true).modParks (parkKey w q) fun x => { x with
    toRetain := if want = 1 ∧ cur = 0 then x.toRetain ||| 2 ^ k else x.toRetain &&& notBits 9 (2 ^ k)
    toGate := if want = 2 then x.toGate ||| 2 ^ k else x.toGate &&& notBits 9 (2 ^ k) }

/-- The depth at which a group is asked to be: GATE only where it is there already or its cores qualify (R466, R467). -/
def State.askedDepth (s : State) (w q k : Nat) : Nat :=
  if bitAt (s.getParks (parkKey w q)).wantGate k && (s.groupDepth w q k == 2 || s.groupGateOk w q k) then 2
  else if bitAt (s.getParks (parkKey w q)).wanted k then 1 else 0

theorem evalGroup_eq (w q k : Nat) (s : State) : evalGroup w q k s = if bitAt (s.rd PWR_PARK_MOVING w q) k then s
    else if s.askedDepth w q k = s.groupDepth w q k then s else moveBegun w q k (s.askedDepth w q k) (s.groupDepth w q k) s := rfl

/-- A group's turn leaves the state, or begins a move. -/
theorem evalGroup_cases (w q k : Nat) (s : State) : evalGroup w q k s = s ∨ ∃ want cur, evalGroup w q k s = moveBegun w q k want cur s := by
  rw [evalGroup_eq]
  split
  · exact .inl rfl
  · split
    · exact .inl rfl
    · exact .inr ⟨_, _, rfl⟩

/-! ## Depths of park groups (R466) -/

theorem Keeps.groupDepth {m : Nat} {s t : State} (h : Keeps m s t) (hm : m.testBit (64 + PWR_PARK.id) = false) (w q k : Nat) : t.groupDepth w q k = s.groupDepth w q k := by
  simp only [State.groupDepth, h.rd PWR_PARK_GATE w q (by decide) hm, h.rd PWR_PARK_RETAIN w q (by decide) hm]

section
variable {w q : Nat} {s : State}

/-- A write of another field of PWR_PARK leaves a quadrant's depths. -/
theorem State.groupDepth_wr (s : State) {f : Fld} (w q v k : Nat) (hreg : f.reg = PWR_PARK) (hf : f.lo ≤ f.hi) (hlo : 17 < f.lo) :
    (s.wr f w q v).groupDepth w q k = s.groupDepth w q k := by
  have hsame : ∀ g : Fld, g.reg = PWR_PARK → g.hi ≤ 17 → (s.wr f w q v).rd g w q = s.rd g w q := fun g hg hhi =>
    State.rd_wr_field _ _ _ _ _ _ (hg.trans hreg.symm) hf (by omega) (.inl (by omega))
  simp only [State.groupDepth, hsame PWR_PARK_GATE rfl (by decide), hsame PWR_PARK_RETAIN rfl (by decide)]

theorem evalGroup_groupDepth (x k : Nat) : (evalGroup w q x s).groupDepth w q k = s.groupDepth w q k := by
  obtain heq | ⟨want, cur, heq⟩ := evalGroup_cases w q x s
  · rw [heq]
  · rw [heq, moveBegun, State.groupDepth_modParks, State.wrBit, State.groupDepth_wr _ _ _ _ _ rfl (by decide) (by decide)]

theorem evalPark_groupDepth (k : Nat) : (evalPark w q s).groupDepth w q k = s.groupDepth w q k := by
  unfold evalPark
  split
  · rfl
  · exact (State.groupDepth_wr _ w q _ k rfl (by decide) (by decide)).trans
      (forEach_leaves (State.groupDepth · w q k) (List.range 9) s fun x _ t => evalGroup_groupDepth (s := t) x k)

/-- A group's bits of PWR_PARK for a depth, and no move in progress. -/
def depthShown (w q k depth : Nat) (s : State) : State :=
  ((s.wrBit PWR_PARK_RETAIN w q k (depth == 1)).wrBit PWR_PARK_GATE w q k (depth == 2)).wrBit PWR_PARK_MOVING w q k false

theorem setDepth_keeps_shown (w q k depth : Nat) (s : State) :
    Keeps (0x20000000 ||| regBit PWR_PARK_TOTAL) (depthShown w q k depth (accrue w s)) (setDepth w q k depth s) := by
  unfold setDepth
  dsimp only
  refine .next (State.modParks_keeps ..) (by decide +kernel) (.next (State.wr_keeps ..) (by decide +kernel) (.next (State.wr_keeps ..) (by decide +kernel) ?_))
  exact .refl ..

theorem setDepth_groupDepth {k depth : Nat} (hk : k < 9) (hdepth : depth ≤ 2) : (setDepth w q k depth s).groupDepth w q k = depth := by
  have hretain : bitAt ((depthShown w q k depth (accrue w s)).rd PWR_PARK_RETAIN w q) k = (depth == 1) := by
    rw [depthShown, State.rd_wrBit_field (f := PWR_PARK_MOVING) (g := PWR_PARK_RETAIN) _ _ _ _ _ rfl (by decide) (by decide) (by decide),
      State.rd_wrBit_field (f := PWR_PARK_GATE) (g := PWR_PARK_RETAIN) _ _ _ _ _ rfl (by decide) (by decide) (by decide), State.bitAt_wrBit _ _ _ _ _ _ (by decide) hk, if_pos rfl]
  have hgate : bitAt ((depthShown w q k depth (accrue w s)).rd PWR_PARK_GATE w q) k = (depth == 2) := by
    rw [depthShown, State.rd_wrBit_field (f := PWR_PARK_MOVING) (g := PWR_PARK_GATE) _ _ _ _ _ rfl (by decide) (by decide) (by decide), State.bitAt_wrBit _ _ _ _ _ _ (by decide) hk, if_pos rfl]
  rw [(setDepth_keeps_shown ..).groupDepth (by decide +kernel), State.groupDepth, hgate, hretain]
  interval_cases depth <;> rfl

/-! ## The ends of moves (R466, R468) -/

/-- The cores of a group that reaches GATE depth or leaves it, and the moves that follow, leave the depth of the group. -/
theorem groupDepth_settled {m k depth : Nat} {t : State} (hk : k < 9) (hdepth : depth ≤ 2) (hcores : Keeps m (setDepth w q k depth s) t)
    (hm : m.testBit (64 + PWR_PARK.id) = false) : (evalPark w q t).groupDepth w q k = depth := by
  rw [evalPark_groupDepth, hcores.groupDepth hm, setDepth_groupDepth hk hdepth]

theorem parkDone_gate {k : Nat} (hk : k < 9) (hmoving : bitAt (s.rd PWR_PARK_MOVING w q) k = true) (hgate : bitAt (s.getParks (parkKey w q)).toGate k = true) :
    (parkDone w q k s).groupDepth w q k = 2 := by
  unfold parkDone
  dsimp only
  rw [if_neg (by simp [hmoving]), if_pos hgate]
  exact groupDepth_settled hk (by decide) (forEach_keeps (fun u t => .ite (.refl ..) (t.setCore_keeps ..)) _ (.refl ..)) (by decide +kernel)

theorem parkDone_retain {k : Nat} (hk : k < 9) (hmoving : bitAt (s.rd PWR_PARK_MOVING w q) k = true) (hgate : bitAt (s.getParks (parkKey w q)).toGate k = false)
    (hretain : bitAt (s.getParks (parkKey w q)).toRetain k = true) : (parkDone w q k s).groupDepth w q k = 1 := by
  unfold parkDone
  dsimp only
  rw [if_neg (by simp [hmoving]), if_neg (by simp [hgate]), if_pos hretain]
  exact groupDepth_settled hk (by decide) (.refl 0 _) (Nat.zero_testBit _)

theorem unparkDone_runs {k : Nat} (hk : k < 9) (hmoving : bitAt (s.rd PWR_PARK_MOVING w q) k = true) (hgate : bitAt (s.getParks (parkKey w q)).toGate k = false)
    (hretain : bitAt (s.getParks (parkKey w q)).toRetain k = false) : (unparkDone w q k s).groupDepth w q k = 0 := by
  unfold unparkDone
  dsimp only
  rw [if_neg (by simp [hmoving, hgate, hretain])]
  refine groupDepth_settled (m := 0xc00000000000000000000200) hk (by decide) (.ite (forEach_keeps (fun u t => ?_) _ (.refl ..)) (.refl ..)) (by decide +kernel)
  exact .next (State.modCore_keeps ..) (by decide +kernel) (t.initCore_keeps ..)

/-! ## A GATE request that waited (R466) -/

/-- Group `k` is wanted at GATE depth and its cores qualify; a move of it that is in progress goes there. -/
structure State.GateDue (s : State) (w q k : Nat) : Prop where
  wanted : bitAt (s.getParks (parkKey w q)).wantGate k = true
  shallow : s.groupDepth w q k ≠ 2
  qualifies : s.groupGateOk w q k = true
  going : bitAt (s.rd PWR_PARK_MOVING w q) k = true → bitAt (s.getParks (parkKey w q)).toGate k = true

/-- Group `k` is on its way to GATE depth. -/
structure State.GateBegun (s : State) (w q k : Nat) : Prop where
  moving : bitAt (s.rd PWR_PARK_MOVING w q) k = true
  gate : bitAt (s.getParks (parkKey w q)).toGate k = true

theorem getParks_moveBegun (w q k want cur : Nat) (s : State) : (moveBegun w q k want cur s).getParks (parkKey w q) = { s.getParks (parkKey w q) with
    toRetain := if want = 1 ∧ cur = 0 then (s.getParks (parkKey w q)).toRetain ||| 2 ^ k else (s.getParks (parkKey w q)).toRetain &&& notBits 9 (2 ^ k)
    toGate := if want = 2 then (s.getParks (parkKey w q)).toGate ||| 2 ^ k else (s.getParks (parkKey w q)).toGate &&& notBits 9 (2 ^ k) } := by
  rw [moveBegun, State.getParks_modParks_same, State.getParks_wrBit]

theorem moving_moveBegun {k : Nat} (x want cur : Nat) (hk : k < 9) :
    bitAt ((moveBegun w q x want cur s).rd PWR_PARK_MOVING w q) k = if k = x then true else bitAt (s.rd PWR_PARK_MOVING w q) k := by
  rw [moveBegun, State.rd_modParks, State.bitAt_wrBit _ _ _ _ _ _ (by decide) hk]

theorem toGate_moveBegun_ne {k x : Nat} (want cur : Nat) (hk : k < 9) (hx : k ≠ x) :
    bitAt ((moveBegun w q x want cur s).getParks (parkKey w q)).toGate k = bitAt (s.getParks (parkKey w q)).toGate k := by
  have hset : bitAt (2 ^ x) k = false := by rw [bitAt_two_pow, decide_eq_false hx.symm]
  have hclear : bitAt (notBits 9 (2 ^ x)) k = true := by rw [bitAt_notBits x hk, decide_eq_false hx.symm, Bool.not_false]
  rw [getParks_moveBegun]
  dsimp only
  split
  · rw [bitAt_or, hset, Bool.or_false]
  · rw [bitAt_and, hclear, Bool.and_true]

theorem evalGroup_gateOk (x k : Nat) : (evalGroup w q x s).groupGateOk w q k = s.groupGateOk w q k := by
  have hkeeps := evalGroup_keeps w q x s
  have hgate : ∀ u, (evalGroup w q x s).gateOk w (q / 4) u = s.gateOk w (q / 4) u := fun u => by
    simp only [State.gateOk, hkeeps.core (by decide +kernel), hkeeps.getParts (by decide +kernel)]
  have hskip : ∀ f c, (evalGroup w q x s).skipRow w f c = s.skipRow w f c := fun f c => by
    rw [State.skipRow, hkeeps.regs BUP_SKIP _ _ (by decide) (by decide +kernel), State.skipRow]
  have hunits : (evalGroup w q x s).groupUnits w q k = s.groupUnits w q k := by
    simp only [State.groupUnits, State.unitAt, hskip]
  simp only [State.groupGateOk, hgate, hunits]

/-- The turn of a group that is due begins its move. -/
theorem State.GateDue.begins {k : Nat} (h : s.GateDue w q k) (hk : k < 9) : (evalGroup w q k s).GateBegun w q k := by
  obtain ⟨hwanted, hshallow, hqualifies, hgoing⟩ := h
  cases hmoving : bitAt (s.rd PWR_PARK_MOVING w q) k with
  | true =>
    have hstays : evalGroup w q k s = s := if_pos hmoving
    rw [hstays]
    exact ⟨hmoving, hgoing hmoving⟩
  | false =>
    have hbegins : evalGroup w q k s = moveBegun w q k 2 (s.groupDepth w q k) s := by
      have hasked : s.askedDepth w q k = 2 := if_pos (by rw [hwanted, hqualifies, Bool.or_true, Bool.and_true])
      rw [evalGroup_eq, if_neg (by simp [hmoving]), hasked, if_neg (Ne.symm hshallow)]
    rw [hbegins]
    refine ⟨by rw [moving_moveBegun _ _ _ hk, if_pos rfl], ?_⟩
    rw [getParks_moveBegun]
    dsimp only
    rw [if_pos rfl, bitAt_or, bitAt_two_pow, decide_eq_true rfl, Bool.or_true]

/-- The turn of another group leaves a group's own move. -/
theorem evalGroup_other {k x : Nat} (hk : k < 9) (hx : k ≠ x) :
    bitAt ((evalGroup w q x s).rd PWR_PARK_MOVING w q) k = bitAt (s.rd PWR_PARK_MOVING w q) k ∧
      bitAt ((evalGroup w q x s).getParks (parkKey w q)).toGate k = bitAt (s.getParks (parkKey w q)).toGate k := by
  obtain heq | ⟨want, cur, heq⟩ := evalGroup_cases w q x s
  · rw [heq]
    exact ⟨rfl, rfl⟩
  · rw [heq, moving_moveBegun _ _ _ hk, if_neg hx]
    exact ⟨rfl, toGate_moveBegun_ne want cur hk hx⟩

theorem evalGroup_wantGate (x : Nat) : ((evalGroup w q x s).getParks (parkKey w q)).wantGate = (s.getParks (parkKey w q)).wantGate := by
  obtain heq | ⟨want, cur, heq⟩ := evalGroup_cases w q x s
  · rw [heq]
  · rw [heq, getParks_moveBegun]
    rfl

theorem State.GateBegun.evalGroup {k : Nat} (h : s.GateBegun w q k) (hk : k < 9) (x : Nat) : (evalGroup w q x s).GateBegun w q k := by
  by_cases hx : k = x
  · subst hx
    have hstays : Machine.evalGroup w q k s = s := if_pos h.moving
    rwa [hstays]
  · obtain ⟨hmoving, hgate⟩ := evalGroup_other (w := w) (q := q) (s := s) hk hx
    exact ⟨hmoving.trans h.moving, hgate.trans h.gate⟩

theorem State.GateDue.evalGroup {k : Nat} (h : s.GateDue w q k) (hk : k < 9) (x : Nat) : (evalGroup w q x s).GateDue w q k where
  wanted := by rw [evalGroup_wantGate, h.wanted]
  shallow := by rw [evalGroup_groupDepth]; exact h.shallow
  qualifies := by rw [evalGroup_gateOk, h.qualifies]
  going := fun hmoving => by
    by_cases hx : k = x
    · subst hx
      exact (h.begins hk).gate
    · obtain ⟨hsame, hgate⟩ := evalGroup_other (w := w) (q := q) (s := s) hk hx
      exact hgate.trans (h.going (hsame ▸ hmoving))

/-- Whether some GATE request still waits shows beside the moves. -/
theorem State.GateBegun.wrWait {k : Nat} (h : s.GateBegun w q k) (v : Nat) : (s.wr PWR_PARK_GATE_WAIT w q v).GateBegun w q k where
  moving := by
    rw [State.rd_wr_field _ PWR_PARK_GATE_WAIT PWR_PARK_MOVING _ _ _ rfl (by decide) (by decide) (by decide)]
    exact h.moving
  gate := by
    rw [State.getParks_wr]
    exact h.gate

theorem evalPark_begins {k : Nat} (hk : k < 9) (hon : s.domState w q = 3) (hdue : s.GateDue w q k) : (evalPark w q s).GateBegun w q k := by
  have hturns : (forEach (List.range 9) s (Machine.evalGroup w q)).GateBegun w q k :=
    forEach_reaches (I := (State.GateDue · w q k)) (P := (State.GateBegun · w q k)) (fun x _ h => h.evalGroup hk x) (fun x _ _ h => h.evalGroup hk x) (List.mem_range.mpr hk)
      (fun _ h => h.begins hk) hdue
  unfold evalPark
  dsimp only
  rw [if_neg (not_not.mpr hon)]
  exact hturns.wrWait _

end

/-! ## Lost IBCs (R471) -/

theorem capUpdate_leaves (w source clamped : Nat) (s : State) : KeepsLeaves w s (capUpdate w source clamped s) := by
  have hshown : ∀ x : Nat × Nat × Nat, KeepsLeaves w s ((((accrue w s).wr PWR_CAP_EFF_EFF_W w 0 x.1).wr PWR_CAP_EFF_LIMIT w 0 x.2.1).wr PWR_CAP_EFF_REASON w 0 x.2.2) := fun x =>
    (KeepsLeaves.of_keeps (accrue_keeps w s) (by decide +kernel)).trans (.of_keeps (.next (State.wr_keeps ..) (sub_refl _) (.next (State.wr_keeps ..) (sub_refl _)
      (State.wr_keeps _ PWR_CAP_EFF_EFF_W ..))) (by decide +kernel))
  unfold capUpdate
  exact .ite (hshown _) (((hshown _).trans (State.journalAt_leaves ..)).raise _)

theorem ibcFault_shown {w i : Nat} {s : State} (hgood : s.rd PWR_IBC_FAULT w i = 0) : let t := ibcFault w i s
    t.rd PWR_IBC_FAULT w i = 1 ∧ t.rd PWR_IBC_OK w i = 0 ∧ t.leafSet w Leaf.ibcFault = true := by
  have hkept : ∀ (u : State) (f : Fld), f.reg = PWR_IBC → (capUpdate w 3 0 (u.raise w Leaf.ibcFault)).rd f w i = u.rd f w i := fun u f hf =>
    ((capUpdate_keeps ..).rd f _ _ (hf ▸ (by decide)) (hf ▸ (by decide +kernel))).trans ((u.raise_keeps ..).rd f _ _ (hf ▸ (by decide)) (hf ▸ (by decide +kernel)))
  have heq : ibcFault w i s = capUpdate w 3 0 (((s.wr PWR_IBC_OK w i 0).wr PWR_IBC_FAULT w i 1).raise w Leaf.ibcFault) := if_neg (by omega)
  dsimp only
  rw [heq, hkept _ _ rfl, hkept _ _ rfl]
  refine ⟨?_, ?_, (capUpdate_leaves ..).set _ (by decide) (State.raise_sets _ _ _ (by decide))⟩
  · exact State.rd_wr_same _ _ _ _ _ (by decide) (by decide)
  · rw [State.rd_wr_field _ PWR_IBC_FAULT PWR_IBC_OK _ _ _ rfl (by decide) (by decide) (by decide)]
    exact State.rd_wr_same _ _ _ _ _ (by decide) (by decide)

end Sys2Proof.Machine

open Sys2Proof Sys2Proof.Machine

/-- Settles O41: a supply fault is recorded once its commands are cut, and neither the forced transition nor the finding that follows brings the domain back; a move of a
park group changes no other group's bits. -/
theorem supplyFaultsGatesAndParks : Obligations.SupplyFaultsGatesAndParks := by
  intro w s
  refine ⟨fun d volt hpowered hon => ?_, ⟨_, rfl, ?_, ?_⟩, fun d => ?_, fun q k => ?_, fun i hgood => ⟨_, rfl, ibcFault_shown hgood⟩⟩
  · intro faulted
    refine ⟨fun hd hsteady => ?_, fun hd => ⟨_, rfl, anyFault_hostField hpowered hon hd⟩, fun hd => ⟨_, rfl, ?_⟩⟩
    · have hfaulted : ∀ kind < 8, faulted kind (anyFault w d kind volt.toNat s) := fun kind hkind => by
        obtain ⟨⟨hoff, hshown⟩, hleaf, hcount, hcapture⟩ := anyFault_faulted hpowered hon hd hkind volt.isLt hsteady
        exact ⟨hoff, hshown, hleaf, hcount, hcapture⟩
      refine ⟨⟨_, rfl, hfaulted 1 (by decide)⟩, ⟨_, rfl, hfaulted 3 (by decide)⟩, ⟨_, rfl, hfaulted 5 (by decide)⟩, fun hramp => ⟨_, rfl, ?_⟩, fun hgated => ⟨_, rfl, ?_⟩⟩
      · rw [if_pos hramp]
        exact hfaulted 4 (by decide)
      · rw [gateTimeout_engaged hgated]
        exact hfaulted 2 (by decide)
    · rw [hd] at hon ⊢
      exact anyFault_alwaysOn hpowered hon
  · exact State.rd_wr_same _ _ _ _ _ (by decide) (by decide)
  · exact State.rd_wr_field _ _ _ _ _ _ rfl (by decide) (by decide) (by decide)
  · exact ⟨fun hd hon hopen => ⟨_, rfl, gateEngage_quadrant hd hon hopen⟩, fun hlo hhi hon hopen => ⟨_, rfl, gateEngage_spine hlo hhi hon hopen⟩,
      fun hd => ⟨_, rfl, gateRelease_quadrant hd⟩, fun hlo hhi => ⟨_, rfl, gateRelease_spine hlo hhi⟩⟩
  · intro pk moving
    refine ⟨fun hmoving hgate => ⟨_, rfl, parkDone_gate k.isLt hmoving hgate⟩, fun hmoving hgate hretain => ⟨_, rfl, parkDone_retain k.isLt hmoving hgate hretain⟩,
      fun hmoving hgate hretain => ⟨_, rfl, unparkDone_runs k.isLt hmoving hgate hretain⟩, fun hon hmoving hwanted hshallow hqualifies => ⟨_, rfl, ?_⟩⟩
    obtain ⟨hbegun, hgate⟩ := evalPark_begins k.isLt hon ⟨hwanted, hshallow, hqualifies, fun h => absurd (hmoving.symm.trans h) (by decide)⟩
    exact ⟨hbegun, hgate⟩

end

section
/-!
PROOF. What a step is, and that every command answers a next state and leaves the queue and the time alone (R619).
-/
set_option Elab.async false
namespace Sys2Proof.Machine

/-- A next state that comes from `s` by shared operations has the queue and the time of `s`, and sends after what `s` has sent. -/
theorem Answers.keeps_queue {s : State} {o : Res} (h : Answers s o) : ∃ t, o = .next t ∧ t.pending = s.pending ∧ t.now = s.now ∧ s.out <:+ t.out := by
  obtain ⟨t, m, hnext, hkeeps⟩ := h
  exact ⟨t, hnext, hkeeps.pending, hkeeps.now, hkeeps.out⟩

theorem step_of_pending {s : State} {c : Instr} {rest : List Instr} (h : s.pending = c :: rest) : step s = exec c (s.withPending rest) := by
  rw [step, h]

theorem step_of_idle {s : State} (h : s.pending = []) : step s = .next s.idle := by
  rw [step, h]

end Sys2Proof.Machine

open Sys2Proof Sys2Proof.Machine

/-- Settles O1: the step takes the command at the front of the queue. -/
theorem stepRunsTheFrontCommand : Obligations.StepRunsTheFrontCommand := fun _ _ _ hpending => step_of_pending hpending

/-- Settles O2: on an empty queue the machine idles, and an idle step moves the time alone. -/
theorem idleStepPassesTime : Obligations.IdleStepPassesTime := fun _ hpending => step_of_idle hpending

/-- Settles O5: each command comes to shared operations, and none of them touches the queue or the time or takes back what was sent. -/
theorem everyCommandAnswers : Obligations.EveryCommandAnswers := fun c s => (exec_answers c s).keeps_queue

end

section
/-!
PROOF. The PCIe function: what its resets take away and keep, its link and its power states (R572, R573, R586-R589, R595).
-/
set_option Elab.async false
namespace Sys2Proof.Machine

/-! ## Resets (R573) -/

/-- The registers of a DMA channel that show that it is stopped. -/
def chanShown : List Reg := [HIF_DMA_CFG, HIF_DMA_HEAD, HIF_DMA_TAIL, HIF_DMA_STAT]

section
variable {w : Nat} {s t u : State}

theorem chanReset_shown (w c : Nat) (s : State) : ∀ r ∈ chanShown, (chanReset w c s).reg r w c = 0 := by
  simp (disch := decide) [chanShown, chanReset, State.reg_setReg_same, State.reg_setReg_id]

theorem chanReset_other {c d : Nat} (h : c ≠ d) (r : Reg) : (chanReset w d s).reg r w c = s.reg r w c := by
  have hne : ∀ (x : State) (q : Reg) (v : Nat), (x.setReg q w d v).reg r w c = x.reg r w c := fun x q v => State.reg_setReg_ne _ _ _ _ _ _ _ _ (.inr (.inr h))
  simp only [chanReset, hne]
  rfl

theorem chansReset_shown {c : Nat} (hc : c < 4) : ∀ r ∈ chanShown, (forEach (List.range 4) s (chanReset w)).reg r w c = 0 :=
  forEach_establishes (Q := fun _ _ => True) (P := fun c t => ∀ r ∈ chanShown, t.reg r w c = 0) (fun c t _ => chanReset_shown w c t) (fun _ _ _ _ _ => trivial)
    (fun _ _ _ hne h r hr => (chanReset_other hne r).trans (h r hr)) List.nodup_range (fun _ _ => trivial) c (List.mem_range.mpr hc)

/-- What every reset of the function takes away, and what it keeps (R573). -/
def FunctionReset (w : Nat) (s t : State) : Prop :=
  (t.getHifs w).msixEnable = false ∧ (t.getHifs w).funcMask = false ∧ (t.getHifs w).pmeEn = (s.getHifs w).pmeEn ∧
    t.rd HIF_WAKE_PME_STATUS w 0 = s.rd HIF_WAKE_PME_STATUS w 0 ∧ t.rd HIF_LINK_BME w 0 = 0 ∧ t.rd HIF_MSIX_PBA_PENDING w 0 = 0 ∧
    ∀ c : ChanId, t.reg HIF_DMA_CFG w c = 0 ∧ t.reg HIF_DMA_HEAD w c = 0 ∧ t.reg HIF_DMA_TAIL w c = 0 ∧ t.rd HIF_DMA_STAT_STATE w c = 0

/-- A reset of the function before its channels are stopped. -/
def functionCleared (w : Nat) (s : State) : State :=
  (((((s.modHifs w fun h => { h with msixEnable := false, funcMask := false, l1Asked := false }).setReg HIF_MSIX_ADDR w 0 0).setReg HIF_MSIX_DATA w 0 0).setReg
    HIF_MSIX_VCTL w 0 1).setReg HIF_MSIX_PBA w 0 0).wr HIF_LINK_BME w 0 0

theorem hifReset_eq (w : Nat) (s : State) : hifReset w s = (forEach (List.range 4) (functionCleared w s) (chanReset w)).msixSync w := rfl

theorem chansReset_keeps (w : Nat) (s : State) :
    Keeps 0x1f8000000000000000000000000000000000000000000000000000000000000000000000000040 s (forEach (List.range 4) s (chanReset w)) :=
  forEach_keeps (fun c t => chanReset_keeps w c t) _ (.refl _ _)

theorem hifReset_resets (w : Nat) (s : State) : FunctionReset w s (hifReset w s) := by
  have hhifs : (hifReset w s).getHifs w = { s.getHifs w with msixEnable := false, funcMask := false, l1Asked := false } := by
    rw [hifReset_eq, (State.msixSync_keeps ..).getHifs (by decide +kernel), (chansReset_keeps ..).getHifs (by decide +kernel), functionCleared]
    simp only [State.getHifs_wr, State.getHifs_setReg, State.getHifs_modHifs_same]
  have hkept : ∀ f : Fld, f = HIF_LINK_BME ∨ f = HIF_MSIX_PBA_PENDING → (hifReset w s).rd f w 0 = (functionCleared w s).rd f w 0 := by
    rintro f (rfl | rfl)
    all_goals rw [hifReset_eq, (State.msixSync_keeps ..).rd _ _ _ (by decide) (by decide +kernel), (chansReset_keeps ..).rd _ _ _ (by decide) (by decide +kernel)]
  refine ⟨by rw [hhifs], by rw [hhifs], by rw [hhifs], (hifReset_keeps w s).rd _ _ _ (by decide) (by decide +kernel), ?_, ?_, fun c => ?_⟩
  · rw [hkept _ (.inl rfl)]
    exact State.rd_wr_same _ _ _ _ _ (by decide) (by decide)
  · rw [hkept _ (.inr rfl), functionCleared, State.rd_wr_id _ _ _ _ _ _ _ _ (by decide)]
    exact State.rd_setReg_same _ _ _ _ _ (by decide)
  · have hzero : ∀ r ∈ chanShown, (hifReset w s).reg r w c = 0 := fun r hr => by
      rw [hifReset_eq, (State.msixSync_keeps ..).regs r w c ((by decide : ∀ r ∈ chanShown, r.id < 320) r hr) ((by decide +kernel : ∀ r ∈ chanShown,
        Nat.testBit 0x400000000000000000000000000000000000000000000000000000000000000000000000000 (64 + r.id) = false) r hr)]
      exact chansReset_shown c.isLt r hr
    refine ⟨hzero _ (by decide), hzero _ (by decide), hzero _ (by decide), ?_⟩
    rw [State.rd, show HIF_DMA_STAT_STATE.reg = HIF_DMA_STAT from rfl, hzero _ (by decide)]
    rfl

/-- A count of the reset before it. -/
theorem FunctionReset.of_counted {f : Fld} {v : Nat} (h : FunctionReset w (s.wr f w 0 v) t) (hf : f.reg.id ≠ HIF_WAKE.id) : FunctionReset w s t := by
  obtain ⟨henable, hmask, hpme, hstatus, hrest⟩ := h
  exact ⟨henable, hmask, hpme, hstatus.trans (State.rd_wr_id _ _ _ _ _ _ _ _ (Ne.symm hf)), hrest⟩

/-- A write of the link's other fields after it. -/
theorem FunctionReset.wr (h : FunctionReset w s t) {f : Fld} (v : Nat) (hreg : f.reg.id ∉ (chanShown ++ [HIF_WAKE, HIF_MSIX_PBA, HIF_LINK]).map (·.id) ∨ f.reg = HIF_LINK ∧ f.lo ≤ f.hi ∧ f.hi < 15) :
    FunctionReset w s (t.wr f w 0 v) := by
  obtain ⟨henable, hmask, hpme, hstatus, hbme, hpending, hchans⟩ := h
  have hid : ∀ r ∈ chanShown ++ [HIF_WAKE, HIF_MSIX_PBA], r.id ≠ f.reg.id := fun r hr heq => by
    rcases hreg with hreg | ⟨hlink, -⟩
    · exact hreg (List.mem_map.mpr ⟨r, List.mem_append.mpr ((List.mem_append.mp hr).imp_right (fun h => List.mem_append_left [HIF_LINK] h)), heq⟩)
    · exact (by decide : ∀ r ∈ chanShown ++ [HIF_WAKE, HIF_MSIX_PBA], r.id ≠ HIF_LINK.id) r hr (hlink ▸ heq)
  have hreg' : ∀ r ∈ chanShown ++ [HIF_WAKE, HIF_MSIX_PBA], ∀ i, (t.wr f w 0 v).reg r w i = t.reg r w i := fun r hr i => State.reg_wr_id _ _ _ _ _ _ _ _ (hid r hr)
  refine ⟨henable, hmask, hpme, ?_, ?_, ?_, fun c => ?_⟩
  · exact (congrArg (bits · _ _) (hreg' HIF_WAKE (by decide) 0)).trans hstatus
  · rcases hreg with hreg | ⟨hlink, hlo, hhi⟩
    · refine (State.rd_wr_id _ _ _ _ _ _ _ _ fun heq => hreg ?_).trans hbme
      exact List.mem_map.mpr ⟨HIF_LINK, by decide, heq⟩
    · exact (State.rd_wr_field _ _ _ _ _ _ hlink.symm hlo (by decide) (.inr hhi)).trans hbme
  · exact (congrArg (bits · _ _) (hreg' HIF_MSIX_PBA (by decide) 0)).trans hpending
  · obtain ⟨hcfg, hhead, htail, hstat⟩ := hchans c
    exact ⟨(hreg' _ (by decide) c).trans hcfg, (hreg' _ (by decide) c).trans hhead, (hreg' _ (by decide) c).trans htail,
      (congrArg (bits · _ _) (hreg' HIF_DMA_STAT (by decide) c)).trans hstat⟩

theorem FunctionReset.linkDown (h : FunctionReset w s t) : FunctionReset w s (pcieLinkDown w t) := by
  have hdown : ∀ x, FunctionReset w s x → FunctionReset w s (((x.wr HIF_LINK_STATE w 0 pcieDown).wr HIF_LINK_SPEED w 0 0).wr HIF_LINK_WIDTH w 0 0) := fun x hx =>
    ((hx.wr _ (.inr (by decide))).wr _ (.inr (by decide))).wr _ (.inr (by decide))
  unfold pcieLinkDown
  dsimp only
  split
  · exact hdown _ (h.wr _ (.inl (by decide)))
  · exact hdown _ h

theorem pcieLinkDown_shows (w : Nat) (s : State) : (pcieLinkDown w s).rd HIF_LINK_STATE w 0 = 0 ∧ (pcieLinkDown w s).rd HIF_LINK_WIDTH w 0 = 0 := by
  unfold pcieLinkDown
  simp (disch := decide) only [State.rd_wr_same, State.rd_wr_field]
  exact ⟨rfl, rfl⟩

/-- A reset that is counted. -/
theorem hifReset_counted (w : Nat) (s : State) : FunctionReset w s (hifReset w (s.bump HIF_LINK_EVENTS_RESETS w 0 1)) := (hifReset_resets w _).of_counted (by decide)

theorem perstAssert_resets (w : Nat) (s : State) : FunctionReset w s (perstAssert w s) := by
  have hreset := hifReset_counted w s
  unfold perstAssert
  dsimp only
  refine FunctionReset.wr ?_ _ (.inr (by decide))
  split
  · exact (hreset.wr _ (.inr (by decide))).wr _ (.inr (by decide))
  · exact hreset.linkDown.wr _ (.inr (by decide))

theorem hotReset_resets (w : Nat) (s : State) : FunctionReset w s (hotReset w s) := (hifReset_counted w s).linkDown.wr _ (.inr (by decide))

theorem flr_resets (w : Nat) (s : State) : FunctionReset w s (flr w s) := (hifReset_counted w s).wr _ (.inr (by decide))

theorem hotReset_shows (w : Nat) (s : State) : (hotReset w s).rd HIF_LINK_DSTATE w 0 = 0 ∧ (hotReset w s).rd HIF_LINK_STATE w 0 = 0 := by
  rw [hotReset, State.rd_wr_field _ HIF_LINK_DSTATE HIF_LINK_STATE _ _ _ rfl (by decide) (by decide) (by decide)]
  exact ⟨State.rd_wr_same _ _ _ _ _ (by decide) (by decide), (pcieLinkDown_shows ..).1⟩

/-- The channels' resets, of the link's register, write Bus Master Enable alone. -/
theorem hifReset_linkState (w : Nat) (s : State) : (hifReset w s).rd HIF_LINK_STATE w 0 = s.rd HIF_LINK_STATE w 0 := by
  rw [hifReset_eq, (State.msixSync_keeps ..).rd _ _ _ (by decide) (by decide +kernel), (chansReset_keeps ..).rd _ _ _ (by decide) (by decide +kernel), functionCleared]
  simp (disch := decide) only [State.rd_wr_field, State.rd_setReg_id]
  rfl

theorem flr_shows (w : Nat) (s : State) : (flr w s).rd HIF_LINK_DSTATE w 0 = 0 ∧ (flr w s).rd HIF_LINK_STATE w 0 = s.rd HIF_LINK_STATE w 0 := by
  refine ⟨State.rd_wr_same _ _ _ _ _ (by decide) (by decide), ?_⟩
  rw [flr, State.rd_wr_field _ HIF_LINK_DSTATE HIF_LINK_STATE _ _ _ rfl (by decide) (by decide) (by decide), hifReset_linkState, State.bump, State.rd_wr_id _ _ _ _ _ _ _ _ (by decide)]

/-! ## The link and the power states (R586-R589) -/

theorem State.rd_modHifs (s : State) (k : Nat) (g : Hif → Hif) (f : Fld) (w i : Nat) : (s.modHifs k g).rd f w i = s.rd f w i := State.rd_putHifs ..

/-- The function when PERST# has been released, before its link trains. -/
def perstReleased (w : Nat) (s : State) : State :=
  (((s.wr HIF_LINK_PERST w 0 0).wr HIF_WAKE_WAKE_ASSERTED w 0 0).wr HIF_LINK_DSTATE w 0 0).modHifs w fun h => { h with l23Ready := false }

theorem perstReleased_shows (w : Nat) (s : State) : let t := perstReleased w s
    t.rd HIF_LINK_PERST w 0 = 0 ∧ t.rd HIF_LINK_DSTATE w 0 = 0 ∧ t.rd HIF_WAKE_WAKE_ASSERTED w 0 = 0 ∧ t.rd HIF_WAKE_PME_STATUS w 0 = s.rd HIF_WAKE_PME_STATUS w 0 := by
  dsimp only [perstReleased]
  refine ⟨?_, ?_, ?_, ?_⟩
  · rw [State.rd_modHifs, State.rd_wr_field _ _ _ _ _ _ (by rfl) (by decide) (by decide) (by decide), State.rd_wr_id _ _ _ _ _ _ _ _ (by decide)]
    exact State.rd_wr_same _ _ _ _ _ (by decide) (by decide)
  · rw [State.rd_modHifs]
    exact State.rd_wr_same _ _ _ _ _ (by decide) (by decide)
  · rw [State.rd_modHifs, State.rd_wr_id _ _ _ _ _ _ _ _ (by decide)]
    exact State.rd_wr_same _ _ _ _ _ (by decide) (by decide)
  · rw [State.rd_modHifs, State.rd_wr_id _ _ _ _ _ _ _ _ (by decide), State.rd_wr_field _ _ _ _ _ _ (by rfl) (by decide) (by decide) (by decide),
      State.rd_wr_id _ _ _ _ _ _ _ _ (by decide)]

theorem perstReleased_termination (w : Nat) (s : State) : ((perstReleased w s).getHifs w).termination = (s.getHifs w).termination := by
  rw [perstReleased, State.getHifs_modHifs_same, State.getHifs_wr, State.getHifs_wr, State.getHifs_wr]

theorem perstRelease_eq (hperst : s.rd HIF_LINK_PERST w 0 = 1) :
    perstRelease w s = (perstReleased w s).wr HIF_LINK_STATE w 0 (if (s.getHifs w).termination then 1 else 0) := by
  rw [← perstReleased_termination w s, apply_ite ((perstReleased w s).wr HIF_LINK_STATE w 0)]
  exact if_neg (by omega)

theorem perstRelease_trains (hperst : s.rd HIF_LINK_PERST w 0 = 1) : let t := perstRelease w s
    t.rd HIF_LINK_PERST w 0 = 0 ∧ t.rd HIF_LINK_DSTATE w 0 = 0 ∧ t.rd HIF_WAKE_WAKE_ASSERTED w 0 = 0 ∧ t.rd HIF_WAKE_PME_STATUS w 0 = s.rd HIF_WAKE_PME_STATUS w 0 ∧
      t.rd HIF_LINK_STATE w 0 = if (s.getHifs w).termination then 1 else 0 := by
  obtain ⟨hreleased, hdstate, hwake, hstatus⟩ := perstReleased_shows w s
  dsimp only
  rw [perstRelease_eq hperst, State.rd_wr_field _ _ HIF_LINK_PERST _ _ _ (by rfl) (by decide) (by decide) (by decide),
    State.rd_wr_field _ _ HIF_LINK_DSTATE _ _ _ (by rfl) (by decide) (by decide) (by decide), State.rd_wr_id _ _ HIF_WAKE_WAKE_ASSERTED _ _ _ _ _ (by decide),
    State.rd_wr_id _ _ HIF_WAKE_PME_STATUS _ _ _ _ _ (by decide), State.rd_wr_same _ _ _ _ _ (by decide) (by decide)]
  refine ⟨hreleased, hdstate, hwake, hstatus, ?_⟩
  cases (s.getHifs w).termination <;> rfl

theorem pcieLinkUp_linked {speed width : Nat} (hterm : (s.getHifs w).termination = true) (hperst : s.rd HIF_LINK_PERST w 0 = 0) (hspeed : speed < 8) (hwidth : width < 32) :
    let t := pcieLinkUp w speed width s
    t.rd HIF_LINK_STATE w 0 = 2 ∧ t.rd HIF_LINK_SPEED w 0 = speed ∧ t.rd HIF_LINK_WIDTH w 0 = width := by
  dsimp only
  rw [pcieLinkUp, if_pos ⟨hterm, hperst⟩]
  simp (disch := decide) only [State.rd_wr_same, State.rd_wr_field]
  exact ⟨rfl, Nat.mod_eq_of_lt hspeed, Nat.mod_eq_of_lt hwidth⟩

/-- The link's state after a write of PMCSR that has set the device state. -/
def pmLinkMoved (w was : Nat) (d3hot : Bool) (s : State) : State :=
  if d3hot && was == 0 && s.rd HIF_LINK_STATE w 0 == pcieL0 then s.wr HIF_LINK_STATE w 0 3
  else if !d3hot && was == 1 && s.rd HIF_LINK_STATE w 0 == 3 then s.wr HIF_LINK_STATE w 0 pcieL0 else s

/-- PMCSR's own fields. -/
def pmcsrStored (w : Nat) (d3hot pmeEn clearPme : Bool) (s : State) : State :=
  let t := (s.wr HIF_LINK_DSTATE w 0 (b2n d3hot)).modHifs w fun h => { h with pmeEn := pmeEn }
  if clearPme then t.wr HIF_WAKE_PME_STATUS w 0 0 else t

theorem pmcsrStored_sets (w : Nat) (d3hot pmeEn clearPme : Bool) (s : State) : let t := pmcsrStored w d3hot pmeEn clearPme s
    t.rd HIF_LINK_DSTATE w 0 = (if d3hot then 1 else 0) ∧ (t.getHifs w).pmeEn = pmeEn ∧ t.rd HIF_WAKE_PME_STATUS w 0 = if clearPme then 0 else s.rd HIF_WAKE_PME_STATUS w 0 := by
  have hdstate : ((s.wr HIF_LINK_DSTATE w 0 (b2n d3hot)).modHifs w fun h => { h with pmeEn := pmeEn }).rd HIF_LINK_DSTATE w 0 = if d3hot then 1 else 0 := by
    rw [State.rd_modHifs, State.rd_wr_same _ _ _ _ _ (by decide) (by decide)]
    cases d3hot <;> rfl
  have hpme : (((s.wr HIF_LINK_DSTATE w 0 (b2n d3hot)).modHifs w fun h => { h with pmeEn := pmeEn }).getHifs w).pmeEn = pmeEn := by rw [State.getHifs_modHifs_same]
  dsimp only [pmcsrStored]
  cases clearPme with
  | true =>
    rw [if_pos rfl, State.rd_wr_id _ _ _ _ _ _ _ _ (by decide), State.getHifs_wr]
    exact ⟨hdstate, hpme, State.rd_wr_same _ _ _ _ _ (by decide) (by decide)⟩
  | false =>
    refine ⟨hdstate, hpme, ?_⟩
    rw [if_neg Bool.false_ne_true, State.rd_modHifs, State.rd_wr_id _ _ _ _ _ _ _ _ (by decide)]
    rfl

theorem pmLinkMoved_cases (w was : Nat) (d3hot : Bool) (s : State) : pmLinkMoved w was d3hot s = s ∨ ∃ v, pmLinkMoved w was d3hot s = s.wr HIF_LINK_STATE w 0 v := by
  unfold pmLinkMoved
  split
  · exact .inr ⟨_, rfl⟩
  · split
    · exact .inr ⟨_, rfl⟩
    · exact .inl rfl

theorem pmcsrWrite_keeps_moved {d3hot pmeEn clearPme : Bool} (hon : s.rd HIF_LINK_DSTATE w 0 ≠ 2) :
    Keeps (0x10 ||| regBit HIF_DMA_STAT ||| regBit HIF_MSIX_STAT ||| regBit HIF_MSIX_PBA) (pmLinkMoved w (s.rd HIF_LINK_DSTATE w 0) d3hot (pmcsrStored w d3hot pmeEn clearPme s))
      (pmcsrWrite w d3hot pmeEn clearPme s) := by
  unfold pmcsrWrite
  rw [if_neg hon]
  have hsync := (pmLinkMoved w (s.rd HIF_LINK_DSTATE w 0) d3hot (pmcsrStored w d3hot pmeEn clearPme s)).chansSync_keeps w
  exact .ite (.next (State.sendMsix_keeps ..) (by decide +kernel) (hsync.widen (by decide +kernel))) (hsync.widen (by decide +kernel))

theorem pmcsrWrite_sets {d3hot pmeEn clearPme : Bool} (hon : s.rd HIF_LINK_DSTATE w 0 ≠ 2) : let t := pmcsrWrite w d3hot pmeEn clearPme s
    t.rd HIF_LINK_DSTATE w 0 = (if d3hot then 1 else 0) ∧ (t.getHifs w).pmeEn = pmeEn ∧ t.rd HIF_WAKE_PME_STATUS w 0 = if clearPme then 0 else s.rd HIF_WAKE_PME_STATUS w 0 := by
  have hkeeps := pmcsrWrite_keeps_moved (d3hot := d3hot) (pmeEn := pmeEn) (clearPme := clearPme) hon
  dsimp only
  rw [hkeeps.rd _ _ _ (by decide) (by decide +kernel), hkeeps.getHifs (by decide +kernel), hkeeps.rd _ _ _ (by decide) (by decide +kernel)]
  have hmoved : ∀ x : State, (pmLinkMoved w (s.rd HIF_LINK_DSTATE w 0) d3hot x).rd HIF_LINK_DSTATE w 0 = x.rd HIF_LINK_DSTATE w 0 ∧
      (pmLinkMoved w (s.rd HIF_LINK_DSTATE w 0) d3hot x).getHifs w = x.getHifs w ∧
      (pmLinkMoved w (s.rd HIF_LINK_DSTATE w 0) d3hot x).rd HIF_WAKE_PME_STATUS w 0 = x.rd HIF_WAKE_PME_STATUS w 0 := fun x => by
    obtain heq | ⟨v, heq⟩ := pmLinkMoved_cases w (s.rd HIF_LINK_DSTATE w 0) d3hot x
    all_goals rw [heq]
    · exact ⟨rfl, rfl, rfl⟩
    · exact ⟨State.rd_wr_field _ _ _ _ _ _ rfl (by decide) (by decide) (by decide), rfl, State.rd_wr_id _ _ _ _ _ _ _ _ (by decide)⟩
  obtain ⟨hdstate, hhifs, hstatus⟩ := hmoved (pmcsrStored w d3hot pmeEn clearPme s)
  obtain ⟨hstored, hpme, hcleared⟩ := pmcsrStored_sets w d3hot pmeEn clearPme s
  rw [hdstate, hhifs, hstatus]
  exact ⟨hstored, hpme, hcleared⟩

/-- A write of the link's state. -/
theorem rd_linkState_wr (w v : Nat) (s : State) (hv : v < 16 := by decide) : (s.wr HIF_LINK_STATE w 0 v).rd HIF_LINK_STATE w 0 = v :=
  (State.rd_wr_same _ _ _ _ _ (by decide) (by decide)).trans (Nat.mod_eq_of_lt hv)

theorem l1Entry_enters (hstate : s.rd HIF_LINK_STATE w 0 = 2) (hdstate : s.rd HIF_LINK_DSTATE w 0 = 0) (hpending : s.rd HIF_MSIX_PBA_PENDING w 0 = 0)
    (hlive : ∀ c < 4, (s.getChans (key2 w c)).live = []) : (l1Entry w s).rd HIF_LINK_STATE w 0 = 3 := by
  have hidle : (List.range 4).all (fun c => (s.getChans (key2 w c)).live.isEmpty) = true :=
    List.all_eq_true.mpr fun c hc => List.isEmpty_iff.mpr (hlive c (List.mem_range.mp hc))
  rw [l1Entry, if_pos ⟨hstate, hdstate, hpending, hidle⟩]
  exact State.rd_wr_same _ _ _ _ _ (by decide) (by decide)

theorem pmeTurnOff_readies (w : Nat) (s : State) : (pmeTurnOff w s).rd HIF_LINK_STATE w 0 = 6 ∧ ((pmeTurnOff w s).getHifs w).l23Ready = true :=
  ⟨rd_linkState_wr w 6 _, by rw [pmeTurnOff, State.getHifs_wr, State.getHifs_modHifs_same]⟩

theorem pcieEvent_recovers (h : s.rd HIF_LINK_STATE w 0 = 2) : (pcieEvent w .recovery s).rd HIF_LINK_STATE w 0 = 7 := by
  rw [pcieEvent, if_pos (.inl h)]
  exact rd_linkState_wr w 7 _

theorem pcieEvent_backToL0 (h : s.rd HIF_LINK_STATE w 0 = 7) : (pcieEvent w .backToL0 s).rd HIF_LINK_STATE w 0 = 2 := by
  rw [pcieEvent, if_pos h]
  exact rd_linkState_wr w 2 _

theorem pcieEvent_exitL1 (h : s.rd HIF_LINK_STATE w 0 = 3) : (pcieEvent w .exitL1 s).rd HIF_LINK_STATE w 0 = 2 := by
  rw [pcieEvent, if_pos (.inl h)]
  exact rd_linkState_wr w 2 _

theorem pcieEvent_down (h : s.rd HIF_LINK_STATE w 0 ≠ 0) : pcieEvent w .down s = pcieLinkDown w s := if_neg h

end

end Sys2Proof.Machine

open Sys2Proof Sys2Proof.Machine

/-- Settles O47: every reset of the function goes through the same registers, and what follows it writes only other fields of the link's register. -/
theorem pcieFunctionAndLink : Obligations.PcieFunctionAndLink := by
  refine ⟨fun w s => ⟨⟨_, rfl, perstAssert_resets w s, ?_⟩, ⟨_, rfl, hotReset_resets w s, hotReset_shows w s⟩, ⟨_, rfl, flr_resets w s, flr_shows w s⟩⟩, fun w s => ?_⟩
  · exact State.rd_wr_same _ _ _ _ _ (by decide) (by decide)
  · refine ⟨fun hperst => ⟨_, rfl, perstRelease_trains hperst⟩, fun speed width hterm hperst => ⟨_, rfl, pcieLinkUp_linked hterm hperst speed.isLt width.isLt⟩,
      fun d3hot pmeEn clearPme hon => ⟨_, rfl, pmcsrWrite_sets hon⟩, fun hstate hdstate hpending hlive => ⟨_, rfl, l1Entry_enters hstate hdstate hpending hlive⟩,
      ⟨_, rfl, pmeTurnOff_readies ..⟩, fun hdstate hstatus => ⟨_, rfl, if_pos ⟨hdstate, hstatus⟩⟩, fun h => ⟨_, rfl, pcieEvent_recovers h⟩, fun h => ⟨_, rfl, pcieEvent_backToL0 h⟩,
      fun h => ⟨_, rfl, pcieEvent_exitL1 h⟩, fun h => ⟨_, rfl, ?_⟩⟩
    rw [pcieEvent_down h]
    exact pcieLinkDown_shows w s

end

section
/-!
PROOF. MSI-X and the attention tree: enabling and masking, the two coalescing timers, and the clearing of ATN_TMC_SEEN (R583, R585, R597-R603).
-/
set_option Elab.async false
namespace Sys2Proof.Machine

section
variable {w : Nat} {s t : State}

/-! ## MSI-X (R583, R585) -/

/-- Nothing keeps the function from sending its message (R583, R585). -/
structure MaySend (w : Nat) (s : State) : Prop where
  enabled : (s.getHifs w).msixEnable = true
  unmasked : (s.getHifs w).funcMask = false
  vector : s.rd HIF_MSIX_VCTL_MASK w 0 = 0
  awake : s.rd HIF_LINK_DSTATE w 0 = 0
  master : s.rd HIF_LINK_BME w 0 = 1

theorem State.out_wr (s : State) (f : Fld) (w i v : Nat) : (s.wr f w i v).out = s.out := rfl

theorem State.out_modAtns (s : State) (k : Nat) (g : Atn → Atn) : (s.modAtns k g).out = s.out := rfl

theorem State.out_modHifs (s : State) (k : Nat) (g : Hif → Hif) : (s.modHifs k g).out = s.out := rfl

theorem State.msixSync_out (s : State) (w : Nat) : (s.msixSync w).out = s.out := by
  unfold State.msixSync
  dsimp only
  rw [State.out_wr, State.out_wr, State.out_wr]

theorem State.msixPend_out (s : State) (w : Nat) (b : Bool) : (s.msixPend w b).out = s.out := by rw [State.msixPend, State.msixSync_out, State.out_wr]

theorem State.sendMsix_out (h : MaySend w s) : (s.sendMsix w).out = .msix w (s.reg HIF_MSIX_ADDR w 0) (s.reg HIF_MSIX_DATA w 0) :: s.out := by
  obtain ⟨henabled, hunmasked, hvector, hawake, hmaster⟩ := h
  unfold State.sendMsix
  dsimp only
  rw [if_neg (by simp [henabled]), if_neg (by simp [hunmasked, hvector, hawake, hmaster]), State.out_modAtns, State.msixPend_out]
  exact congrArg _ (State.out_wr ..)

/-- Of the attention state a message starts the spacing and nothing else. -/
theorem State.sendMsix_atns (s : State) (w : Nat) : ∃ b, (s.sendMsix w).getAtns w = { s.getAtns w with spacing := b } := by
  unfold State.sendMsix
  dsimp only
  split
  · exact ⟨_, rfl⟩
  · split
    · exact ⟨_, (State.msixPend_keeps ..).getAtns (by decide +kernel) _⟩
    · refine ⟨true, ?_⟩
      rw [State.modAtns, State.getAtns_putAtns, if_pos rfl, (State.msixPend_keeps ..).getAtns (by decide +kernel), State.getAtns_emit, (State.bump_keeps ..).getAtns (by decide +kernel)]

theorem State.atnSummary_of_keeps {m : Nat} (h : Keeps m s t) (hm : m.testBit (64 + ATN_CAUSE.id) = false ∧ m.testBit (64 + ATN_LMASK.id) = false ∧ m.testBit (64 + ATN_MASK.id) = false) :
    t.atnSummary w = s.atnSummary w := by
  simp only [State.atnSummary, State.atnPending, State.groupPending, h.regs _ _ _ (by decide) hm.1, h.regs _ _ _ (by decide) hm.2.1, h.regs _ _ _ (by decide) hm.2.2]

/-- MSI-X enable written, before a message. -/
def msixEnabled (w : Nat) (on : Bool) (s : State) : State := (s.modHifs w fun h => { h with msixEnable := on }).msixSync w

theorem msixEnabled_hifs (w : Nat) (on : Bool) (s : State) : (msixEnabled w on s).getHifs w = { s.getHifs w with msixEnable := on } := by
  rw [msixEnabled, (State.msixSync_keeps ..).getHifs (by decide +kernel), State.getHifs_modHifs_same]

theorem msixEnabled_keeps (w : Nat) (on : Bool) (s : State) : Keeps (0x20 ||| regBit HIF_MSIX_STAT) s (msixEnabled w on s) :=
  .next (State.msixSync_keeps ..) (by decide +kernel) ((State.modHifs_keeps ..).widen (by decide +kernel))

theorem msixEnable_takes (w : Nat) (on : Bool) (s : State) : ((msixEnable w on s).getHifs w).msixEnable = on := by
  have hsent : ∀ b : Bool, (if b = true then (msixEnabled w on s).sendMsix w else msixEnabled w on s).getHifs w = { s.getHifs w with msixEnable := on } := fun b => by
    cases b
    · exact msixEnabled_hifs w on s
    · exact ((State.sendMsix_keeps ..).getHifs (by decide +kernel) _).trans (msixEnabled_hifs w on s)
  exact congrArg Hif.msixEnable (hsent _)

theorem msixEnable_sends (hsummary : s.atnSummary w ≠ 0) (hwas : (s.getHifs w).msixEnable = false) (hmask : (s.getHifs w).funcMask = false)
    (hvector : s.rd HIF_MSIX_VCTL_MASK w 0 = 0) (hawake : s.rd HIF_LINK_DSTATE w 0 = 0) (hmaster : s.rd HIF_LINK_BME w 0 = 1) :
    (msixEnable w true s).out = .msix w (s.reg HIF_MSIX_ADDR w 0) (s.reg HIF_MSIX_DATA w 0) :: s.out := by
  have hk := msixEnabled_keeps w true s
  have hsend : msixEnable w true s = (msixEnabled w true s).sendMsix w :=
    if_pos (by rw [hwas, ← msixEnabled, State.atnSummary_of_keeps hk (by decide +kernel)]; simp [hsummary])
  have hmay : MaySend w (msixEnabled w true s) :=
    ⟨congrArg Hif.msixEnable (msixEnabled_hifs w true s), (congrArg Hif.funcMask (msixEnabled_hifs w true s)).trans hmask,
      (hk.rd _ _ _ (by decide) (by decide +kernel)).trans hvector, (hk.rd _ _ _ (by decide) (by decide +kernel)).trans hawake,
      (hk.rd _ _ _ (by decide) (by decide +kernel)).trans hmaster⟩
  rw [hsend, State.sendMsix_out hmay, hk.regs _ _ _ (by decide) (by decide +kernel), hk.regs _ _ _ (by decide) (by decide +kernel), msixEnabled, State.msixSync_out, State.out_modHifs]

/-- The masks written, before a message. -/
def msixMasked (w : Nat) (func vector : Bool) (s : State) : State := ((s.modHifs w fun h => { h with funcMask := func }).wr HIF_MSIX_VCTL_MASK w 0 (b2n vector)).msixSync w

theorem msixMasked_takes (w : Nat) (func vector : Bool) (s : State) :
    ((msixMasked w func vector s).getHifs w).funcMask = func ∧ (msixMasked w func vector s).rd HIF_MSIX_VCTL_MASK w 0 = if vector then 1 else 0 := by
  rw [msixMasked, (State.msixSync_keeps ..).getHifs (by decide +kernel), State.getHifs_wr, State.getHifs_modHifs_same,
    (State.msixSync_keeps ..).rd _ _ _ (by decide) (by decide +kernel), State.rd_wr_same _ _ _ _ _ (by decide) (by decide)]
  exact ⟨rfl, by cases vector <;> rfl⟩

theorem msixMask_takes (w : Nat) (func vector : Bool) (s : State) :
    ((msixMask w func vector s).getHifs w).funcMask = func ∧ (msixMask w func vector s).rd HIF_MSIX_VCTL_MASK w 0 = if vector then 1 else 0 := by
  have hkeeps : Keeps (0x10 ||| regBit HIF_MSIX_STAT ||| regBit HIF_MSIX_PBA) (msixMasked w func vector s) (msixMask w func vector s) :=
    .ite ((State.sendMsix_keeps ..).widen (by decide +kernel)) (.refl _ _)
  rw [hkeeps.getHifs (by decide +kernel), hkeeps.rd _ _ _ (by decide) (by decide +kernel)]
  exact msixMasked_takes w func vector s

theorem busMaster_takes (w : Nat) (on : Bool) (s : State) : (busMaster w on s).rd HIF_LINK_BME w 0 = if on then 1 else 0 := by
  have hkeeps : Keeps (0x10 ||| regBit HIF_DMA_STAT ||| regBit HIF_MSIX_STAT ||| regBit HIF_MSIX_PBA) (s.wr HIF_LINK_BME w 0 (b2n on)) (busMaster w on s) :=
    have hsync := ((s.wr HIF_LINK_BME w 0 (b2n on)).chansSync_keeps w).widen (by decide +kernel)
    .ite (.next (State.sendMsix_keeps ..) (by decide +kernel) hsync) hsync
  rw [hkeeps.rd _ _ _ (by decide) (by decide +kernel), State.rd_wr_same _ _ _ _ _ (by decide) (by decide)]
  cases on <;> rfl

/-! ## Tests and masks (R603, R598) -/

theorem atnTest_sets {groups g : Nat} (hg : g < 16) (hbit : bitAt groups g = true) : (atnTest w groups s).leafSet w (Leaf.test g) = true := by
  have hb : ∀ g, (Leaf.test g).b < 64 := fun _ => (by decide : 31 < 64)
  refine forEach_reaches (I := fun _ => True) (P := fun t => t.leafSet w (Leaf.test g) = true) (fun _ _ _ => trivial) (fun x t _ h => ?_) (List.mem_range.mpr hg) (fun t _ => ?_) trivial
  · exact leafSet_ite (t.raise_mono w _ _ h (hb g)) h
  · rw [if_pos hbit]
    exact t.raise_sets w _ (hb g)

theorem atnTest_leaves (w groups : Nat) (s : State) : KeepsLeaves w s (atnTest w groups s) :=
  .forEach (fun _ t => .ite (.raise (.refl w t) _) (.refl w t)) _ _

theorem leafMaskWrite_takes {g v : Nat} (hv : v < 2 ^ 32) : (leafMaskWrite w g v s).reg ATN_LMASK w g = v := by
  have hkeeps : Keeps (0x14c004600000000000000000000000000000000000000000000000000000000000000000000000010 ||| regBit ATN_TMC_SEEN) (s.setReg ATN_LMASK w g (v % 2 ^ 32)) (leafMaskWrite w g v s) := by
    refine .ite (.refl _ _) (.next (State.wakeCheck_keeps ..) (by decide +kernel) ?_)
    have hhost : Keeps (0x14c004600000000000000000000000000000000000000000000000000000000000000000000000010 ||| regBit ATN_TMC_SEEN) (s.setReg ATN_LMASK w g (v % 2 ^ 32))
        (if bitAt ((s.setReg ATN_LMASK w g (v % 2 ^ 32)).reg ATN_MASK w 0) g then s.setReg ATN_LMASK w g (v % 2 ^ 32) else (s.setReg ATN_LMASK w g (v % 2 ^ 32)).hostEvent w) :=
      .ite (.refl _ _) ((State.hostEvent_keeps ..).widen (by decide +kernel))
    exact .ite hhost (.next (State.tmcEvent_keeps ..) (by decide +kernel) hhost)
  rw [hkeeps.regs _ _ _ (by decide) (by decide +kernel), State.reg_setReg_same]
  omega

theorem hostMaskWrite_takes (w v : Nat) (s : State) : (hostMaskWrite w v s).reg ATN_MASK w 0 = v % 2 ^ 16 := by
  have hkeeps : Keeps 0x14c004600000000000000000000000000000000000000000000000000000000000000000000000010 (s.setReg ATN_MASK w 0 (v % 2 ^ 16)) (hostMaskWrite w v s) :=
    .ite (.refl _ _) (forEach_keeps (fun _ _ => .ite (State.wakeCheck_keeps ..) (.refl _ _)) _ ((State.hostEvent_keeps ..).widen (by decide +kernel)))
  rw [hkeeps.regs _ _ _ (by decide) (by decide +kernel), State.reg_setReg_same]
  omega

theorem tmcMaskWrite_takes (w v : Nat) (s : State) : (tmcMaskWrite w v s).reg ATN_TMC_MASK w 0 = v % 2 ^ 16 := by
  have hkeeps : Keeps 0x8000000000000000000000000000000000000000000000000000000000000000000000000000010 (s.setReg ATN_TMC_MASK w 0 (v % 2 ^ 16)) (tmcMaskWrite w v s) :=
    .next (State.attnRelease_keeps ..) (by decide +kernel) (forEach_keeps (fun _ _ => .ite (State.tmcEvent_keeps ..) (.refl _ _)) _ (.refl _ _))
  rw [hkeeps.regs _ _ _ (by decide) (by decide +kernel), State.reg_setReg_same]
  omega

/-! ## Timers (R600, R601) -/

/-- The host timer has ended. -/
def hostTimerEnded (w : Nat) (s : State) : State := s.putAtns w { s.getAtns w with hostTimer := none }

theorem msixExpiry_eq (h : (s.getAtns w).hostTimer.isSome = true) :
    msixExpiry w s = if s.atnSummary w = 0 then (hostTimerEnded w s).bump ATN_SUPPRESSED_COUNT w 0 1 else (hostTimerEnded w s).sendMsix w :=
  if_neg (by simp [Option.isSome_iff_ne_none.mp h])

theorem msixExpiry_ends (h : (s.getAtns w).hostTimer.isSome = true) : ((msixExpiry w s).getAtns w).hostTimer = none := by
  have hended : ((hostTimerEnded w s).getAtns w).hostTimer = none := by rw [hostTimerEnded, State.getAtns_putAtns, if_pos rfl]
  rw [msixExpiry_eq h]
  split
  · rw [(State.bump_keeps ..).getAtns (by decide +kernel)]
    exact hended
  · obtain ⟨b, hatns⟩ := (hostTimerEnded w s).sendMsix_atns w
    rw [hatns]
    exact hended

theorem msixExpiry_counts (h : (s.getAtns w).hostTimer.isSome = true) (hsummary : s.atnSummary w = 0) :
    (msixExpiry w s).rd ATN_SUPPRESSED_COUNT w 0 = min (s.rd ATN_SUPPRESSED_COUNT w 0 + 1) (2 ^ 32 - 1) ∧ (msixExpiry w s).out = s.out := by
  rw [msixExpiry_eq h, if_pos hsummary, State.rd_bump_same _ _ _ _ _ (by decide) (by decide)]
  exact ⟨rfl, rfl⟩

theorem msixSpacing_ends (h : (s.getAtns w).heldEvent = false) : ((msixSpacing w s).getAtns w).spacing = false ∧ (msixSpacing w s).out = s.out := by
  have heq : msixSpacing w s = s.putAtns w { s.getAtns w with spacing := false, heldEvent := false } := if_neg (by simp [h])
  rw [heq, State.getAtns_putAtns, if_pos rfl]
  exact ⟨rfl, rfl⟩

theorem tmcExpiry_ends (h : (s.getAtns w).tmcTimer.isSome = true) : ((tmcExpiry w s).getAtns w).tmcTimer = none ∧
    ((tmcExpiry w s).getAtns w).attnN = ((s.getAtns w).attnN || s.reg ATN_TMC_SEEN w 0 &&& notBits 16 (s.reg ATN_TMC_MASK w 0) != 0) := by
  rw [tmcExpiry, if_neg (by simp [Option.isSome_iff_ne_none.mp h]), State.getAtns_putAtns, if_pos rfl]
  exact ⟨rfl, rfl⟩

theorem tmcSeenClear_clears (w v : Nat) (s : State) : (tmcSeenClear w v s).reg ATN_TMC_SEEN w 0 = s.reg ATN_TMC_SEEN w 0 &&& notBits 16 v := by
  rw [tmcSeenClear, (State.attnRelease_keeps ..).regs _ _ _ (by decide) (by decide +kernel), State.reg_setReg_same]
  exact Nat.mod_eq_of_lt (Nat.lt_of_le_of_lt Nat.and_le_left (s.reg_lt ..))

theorem State.attnRelease_releases (h : s.reg ATN_TMC_SEEN w 0 &&& notBits 16 (s.reg ATN_TMC_MASK w 0) = 0) : ((s.attnRelease w).getAtns w).attnN = false := by
  unfold State.attnRelease
  cases hn : (s.getAtns w).attnN with
  | false => simp [hn]
  | true => simp [h, hn]

end

end Sys2Proof.Machine

open Sys2Proof Sys2Proof.Machine

/-- Settles O48: what a register write stores is kept by the message, the events and the wake that may follow it. -/
theorem interruptsAndAttention : Obligations.InterruptsAndAttention := by
  refine ⟨fun w s => ⟨fun on => ⟨_, rfl, msixEnable_takes w on s⟩,
    fun hsummary hwas hmask hvector hawake hmaster => ⟨_, rfl, msixEnable_sends hsummary hwas hmask hvector hawake hmaster⟩,
    fun func vector => ⟨_, rfl, msixMask_takes w func vector s⟩, fun on => ⟨_, rfl, busMaster_takes w on s⟩⟩, fun w s => ?_⟩
  refine ⟨fun groups => ⟨_, rfl, fun g hg hbit => atnTest_sets hg hbit, fun g b hb h => (atnTest_leaves w groups.toNat s).set ⟨g, b⟩ hb h⟩,
    fun g v => ⟨_, rfl, leafMaskWrite_takes v.isLt⟩, fun v => ⟨_, rfl, hostMaskWrite_takes w v.toNat s⟩, fun v => ⟨_, rfl, tmcMaskWrite_takes w v.toNat s⟩,
    fun h => ⟨_, rfl, msixExpiry_ends h, msixExpiry_counts h⟩, fun h => ⟨_, rfl, msixSpacing_ends h⟩, fun h => ⟨_, rfl, tmcExpiry_ends h⟩, fun v => ⟨_, rfl, tmcSeenClear_clears w v.toNat s, fun h => ?_⟩⟩
  have hkeeps := (s.setReg ATN_TMC_SEEN w 0 (s.reg ATN_TMC_SEEN w 0 &&& notBits 16 v.toNat)).attnRelease_keeps w
  refine State.attnRelease_releases ?_
  have hmask : (s.setReg ATN_TMC_SEEN w 0 (s.reg ATN_TMC_SEEN w 0 &&& notBits 16 v.toNat)).reg ATN_TMC_MASK w 0 = s.reg ATN_TMC_MASK w 0 := State.reg_setReg_id _ _ _ _ _ _ _ _ (by decide)
  rw [hmask, ← hkeeps.regs ATN_TMC_SEEN w 0 (by decide) (by decide +kernel)]
  exact h

end

section
/-!
PROOF. The DMA channels: their enabling and disabling, their tail, and the descriptors that end with an error (R578-R581, R595).
-/
set_option Elab.async false
namespace Sys2Proof.Machine

section
variable {w c : Nat} {s t : State}

/-- A write of a channel's state. -/
theorem rd_chanState_wr (w c v : Nat) (s : State) (hv : v < 4 := by decide) : (s.wr HIF_DMA_STAT_STATE w c v).rd HIF_DMA_STAT_STATE w c = v :=
  (State.rd_wr_same _ _ _ _ _ (by decide) (by decide)).trans (Nat.mod_eq_of_lt hv)

/-- A channel whose STATE follows its counts, before PAUSED does. -/
def State.chanMoved (s : State) (w c : Nat) : State :=
  if s.rd HIF_DMA_STAT_STATE w c = 1 ∨ s.rd HIF_DMA_STAT_STATE w c = 2 then s.wr HIF_DMA_STAT_STATE w c (if s.dmaGiven w c = 0 then 2 else 1) else s

theorem State.chanSync_eq (s : State) (w c : Nat) :
    s.chanSync w c = (s.chanMoved w c).wr HIF_DMA_STAT_PAUSED w c (b2n ((s.chanMoved w c).rd HIF_DMA_STAT_STATE w c == 1 && !(s.chanMoved w c).mayIssue w)) := rfl

/-- A running or idle channel shows whether it has work; the others keep their state (R583, R595). -/
theorem State.rd_chanSync_state (s : State) (w c : Nat) : (s.chanSync w c).rd HIF_DMA_STAT_STATE w c =
    if s.rd HIF_DMA_STAT_STATE w c = 1 ∨ s.rd HIF_DMA_STAT_STATE w c = 2 then (if s.dmaGiven w c = 0 then 2 else 1) else s.rd HIF_DMA_STAT_STATE w c := by
  have hlt : (if s.dmaGiven w c = 0 then 2 else 1) < 4 := by split <;> decide
  rw [State.chanSync_eq, State.rd_wr_field _ _ HIF_DMA_STAT_STATE _ _ _ (by rfl) (by decide) (by decide) (by decide), State.chanMoved, apply_ite (State.rd · HIF_DMA_STAT_STATE w c),
    rd_chanState_wr _ _ _ _ hlt]

theorem State.chanSync_reg (s : State) (w c : Nat) {r : Reg} (h : r.id ≠ HIF_DMA_STAT.id) (i : Nat) : (s.chanSync w c).reg r w i = s.reg r w i := by
  rw [State.chanSync_eq, State.reg_wr_id _ _ _ _ _ _ _ _ h, State.chanMoved, apply_ite (State.reg · r w i), State.reg_wr_id _ _ _ _ _ _ _ _ h, ite_self]

theorem State.rd_chanSync_lastCode (s : State) (w c : Nat) : (s.chanSync w c).rd HIF_DMA_STAT_LAST_CODE w c = s.rd HIF_DMA_STAT_LAST_CODE w c := by
  rw [State.chanSync_eq, State.rd_wr_field _ _ HIF_DMA_STAT_LAST_CODE _ _ _ (by rfl) (by decide) (by decide) (by decide), State.chanMoved,
    apply_ite (State.rd · HIF_DMA_STAT_LAST_CODE w c), State.rd_wr_field _ _ HIF_DMA_STAT_LAST_CODE _ _ _ (by rfl) (by decide) (by decide) (by decide), ite_self]

theorem State.chanSync_rd (s : State) (w c : Nat) {f : Fld} (h : f.reg.id ≠ HIF_DMA_STAT.id) (i : Nat) : (s.chanSync w c).rd f w i = s.rd f w i :=
  congrArg (bits · f.hi f.lo) (s.chanSync_reg w c h i)

theorem State.dmaGiven_eq (h : t.reg HIF_DMA_TAIL w c = s.reg HIF_DMA_TAIL w c) (h' : t.reg HIF_DMA_HEAD w c = s.reg HIF_DMA_HEAD w c) : t.dmaGiven w c = s.dmaGiven w c := by
  rw [State.dmaGiven, h, h', State.dmaGiven]

/-! ## Enabling, disabling and the tail (R578, R581) -/

/-- The configuration register after a write that enables the channel. -/
def chanConfigured (w c log2 : Nat) (s : State) : State := (s.wr HIF_DMA_CFG_ENABLE w c 1).wr HIF_DMA_CFG_RING_LOG2 w c log2

theorem chanConfigured_shows {log2 : Nat} (hlog : log2 < 16) :
    (chanConfigured w c log2 s).rd HIF_DMA_CFG_ENABLE w c = 1 ∧ (chanConfigured w c log2 s).rd HIF_DMA_CFG_RING_LOG2 w c = log2 := by
  rw [chanConfigured, State.rd_wr_field _ _ HIF_DMA_CFG_ENABLE _ _ _ (by rfl) (by decide) (by decide) (by decide), State.rd_wr_same _ _ _ _ _ (by decide) (by decide),
    State.rd_wr_same _ _ _ _ _ (by decide) (by decide)]
  exact ⟨rfl, Nat.mod_eq_of_lt hlog⟩

/-- The counts of a channel that is enabled anew. -/
def chanCounted (w c : Nat) (s : State) : State := ((s.setReg HIF_DMA_HEAD w c 0).setReg HIF_DMA_TAIL w c 0).setReg HIF_DMA_BYTES w c 0

theorem chanCounted_shows (w c : Nat) (s : State) : (chanCounted w c s).reg HIF_DMA_HEAD w c = 0 ∧ (chanCounted w c s).reg HIF_DMA_TAIL w c = 0 := by
  rw [chanCounted, State.reg_setReg_id _ _ HIF_DMA_HEAD _ _ _ _ _ (by decide), State.reg_setReg_id _ _ HIF_DMA_HEAD _ _ _ _ _ (by decide), State.reg_setReg_same,
    State.reg_setReg_id _ _ HIF_DMA_TAIL _ _ _ _ _ (by decide), State.reg_setReg_same]
  exact ⟨rfl, rfl⟩

/-- The channel once it is enabled anew. -/
def chanIdled (w c : Nat) (s : State) : State := (((chanCounted w c s).putChans (key2 w c) {}).wr HIF_DMA_STAT_STATE w c 2).wr HIF_DMA_STAT_LAST_CODE w c 0

theorem chanIdled_reg {r : Reg} (h : r.id ≠ HIF_DMA_STAT.id) : (chanIdled w c s).reg r w c = (chanCounted w c s).reg r w c := by
  rw [chanIdled, State.reg_wr_id _ _ _ _ _ _ _ _ h, State.reg_wr_id _ _ _ _ _ _ _ _ h]
  rfl

theorem dmaEnable_eq {log2 : Nat} (hlog : 4 ≤ log2) (hwas : s.rd HIF_DMA_CFG_ENABLE w c = 0) :
    dmaEnable w c log2 s = (chanIdled w c (chanConfigured w c log2 s)).chanSync w c := by
  rw [dmaEnable, if_neg (by omega), if_neg (by omega)]
  rfl

theorem dmaEnable_enables {log2 : Nat} (hlog : 4 ≤ log2) (hlt : log2 < 16) (hwas : s.rd HIF_DMA_CFG_ENABLE w c = 0) : let t := dmaEnable w c log2 s
    t.rd HIF_DMA_CFG_ENABLE w c = 1 ∧ t.rd HIF_DMA_CFG_RING_LOG2 w c = log2 ∧ t.reg HIF_DMA_HEAD w c = 0 ∧ t.reg HIF_DMA_TAIL w c = 0 ∧ t.rd HIF_DMA_STAT_STATE w c = 2 := by
  dsimp only
  rw [dmaEnable_eq hlog hwas]
  obtain ⟨henable, hring⟩ := chanConfigured_shows (w := w) (c := c) (s := s) hlt
  obtain ⟨hhead, htail⟩ := chanCounted_shows w c (chanConfigured w c log2 s)
  have hcfg : (chanIdled w c (chanConfigured w c log2 s)).reg HIF_DMA_CFG w c = (chanConfigured w c log2 s).reg HIF_DMA_CFG w c := by
    rw [chanIdled_reg (by decide), chanCounted, State.reg_setReg_id _ _ _ _ _ _ _ _ (by decide), State.reg_setReg_id _ _ _ _ _ _ _ _ (by decide),
      State.reg_setReg_id _ _ _ _ _ _ _ _ (by decide)]
  have hgiven : (chanIdled w c (chanConfigured w c log2 s)).dmaGiven w c = 0 := by
    rw [State.dmaGiven, chanIdled_reg (by decide), chanIdled_reg (by decide), hhead, htail]
    rfl
  have hidle : (chanIdled w c (chanConfigured w c log2 s)).rd HIF_DMA_STAT_STATE w c = 2 := by
    rw [chanIdled, State.rd_wr_field _ _ HIF_DMA_STAT_STATE _ _ _ (by rfl) (by decide) (by decide) (by decide)]
    exact rd_chanState_wr w c 2 _
  refine ⟨?_, ?_, ?_, ?_, ?_⟩
  · rw [State.chanSync_rd _ _ _ (by decide)]
    exact (congrArg (bits · 0 0) hcfg).trans henable
  · rw [State.chanSync_rd _ _ _ (by decide)]
    exact (congrArg (bits · 4 1) hcfg).trans hring
  · rw [State.chanSync_reg _ _ _ (by decide), chanIdled_reg (by decide), hhead]
  · rw [State.chanSync_reg _ _ _ (by decide), chanIdled_reg (by decide), htail]
  · rw [State.rd_chanSync_state, if_pos (.inr hidle), if_pos hgiven]

theorem dmaEnable_refuses {log2 : Nat} (hlog : log2 < 4) :
    (dmaEnable w c log2 s).leafSet w Leaf.dmaErr = true ∧ (dmaEnable w c log2 s).rd HIF_DMA_STAT_STATE w c = s.rd HIF_DMA_STAT_STATE w c := by
  have heq : dmaEnable w c log2 s = (chanConfigured w c log2 s).raise w Leaf.dmaErr := if_pos hlog
  rw [heq, (State.raise_keeps ..).rd _ _ _ (by decide) (by decide +kernel), chanConfigured, State.rd_wr_id _ _ _ _ _ _ _ _ (by decide), State.rd_wr_id _ _ _ _ _ _ _ _ (by decide)]
  exact ⟨State.raise_sets _ w _ (by decide), rfl⟩

/-- The disabled channel, before its state is shown. -/
def chanCleared (w c : Nat) (s : State) : State := (((chanAbort w c s).wr HIF_DMA_CFG_ENABLE w c 0).setReg HIF_DMA_HEAD w c 0).setReg HIF_DMA_TAIL w c 0

theorem dmaDisable_eq (w c : Nat) (s : State) : dmaDisable w c s = ((chanCleared w c s).wr HIF_DMA_STAT_STATE w c 0).wr HIF_DMA_STAT_PAUSED w c 0 := rfl

theorem dmaDisable_disables (w c : Nat) (s : State) : let t := dmaDisable w c s
    t.rd HIF_DMA_CFG_ENABLE w c = 0 ∧ t.rd HIF_DMA_STAT_STATE w c = 0 ∧ t.reg HIF_DMA_HEAD w c = 0 ∧ (t.getChans (key2 w c)).live = [] := by
  dsimp only
  rw [dmaDisable_eq]
  refine ⟨?_, ?_, ?_, ?_⟩
  · rw [State.rd_wr_id _ _ _ _ _ _ _ _ (by decide), State.rd_wr_id _ _ _ _ _ _ _ _ (by decide), chanCleared, State.rd_setReg_id _ _ _ _ _ _ _ _ (by decide),
      State.rd_setReg_id _ _ _ _ _ _ _ _ (by decide)]
    exact State.rd_wr_same _ _ _ _ _ (by decide) (by decide)
  · rw [State.rd_wr_field _ _ HIF_DMA_STAT_STATE _ _ _ (by rfl) (by decide) (by decide) (by decide)]
    exact rd_chanState_wr w c 0 _
  · rw [State.reg_wr_id _ _ _ _ _ _ _ _ (by decide), State.reg_wr_id _ _ _ _ _ _ _ _ (by decide), chanCleared, State.reg_setReg_id _ _ _ _ _ _ _ _ (by decide)]
    exact State.reg_setReg_same ..
  · rw [State.getChans_wr, State.getChans_wr, chanCleared, State.getChans_setReg, State.getChans_setReg, State.getChans_wr, chanAbort, State.getChans_putChans, if_pos rfl]

theorem dmaTail_refuses {v : Nat} (hstate : s.rd HIF_DMA_STAT_STATE w c ≠ 0) (hbeyond : s.dmaRingSize w c < (v + 2 ^ 32 - s.reg HIF_DMA_HEAD w c) % 2 ^ 32) :
    (dmaTail w c v s).leafSet w Leaf.dmaErr = true ∧ (dmaTail w c v s).reg HIF_DMA_TAIL w c = s.reg HIF_DMA_TAIL w c := by
  rw [dmaTail, if_neg (by exact hstate), if_pos hbeyond]
  exact ⟨State.raise_sets _ w _ (by decide), (State.raise_keeps ..).regs _ _ _ (by decide) (by decide +kernel)⟩

theorem dmaTail_takes {v : Nat} (hv : v < 2 ^ 32) (hstate : s.rd HIF_DMA_STAT_STATE w c ≠ 0) (hwithin : (v + 2 ^ 32 - s.reg HIF_DMA_HEAD w c) % 2 ^ 32 ≤ s.dmaRingSize w c) :
    (dmaTail w c v s).reg HIF_DMA_TAIL w c = v := by
  rw [dmaTail, if_neg (by exact hstate), if_neg (by omega), State.chanSync_reg _ _ _ (by decide), State.reg_setReg_same]
  omega

theorem dmaResume_resumes (hhalted : s.rd HIF_DMA_STAT_STATE w c = 3) : (dmaResume w c s).rd HIF_DMA_STAT_STATE w c = if s.dmaGiven w c = 0 then 2 else 1 := by
  have hrunning : (s.wr HIF_DMA_STAT_STATE w c chRunning).rd HIF_DMA_STAT_STATE w c = 1 := rd_chanState_wr w c 1 _
  rw [dmaResume, if_pos (by exact hhalted), State.rd_chanSync_state, if_pos (.inl hrunning),
    State.dmaGiven_eq (State.reg_wr_id _ _ _ _ _ _ _ _ (by decide)) (State.reg_wr_id _ _ _ _ _ _ _ _ (by decide))]

/-! ## Descriptors (R580, R581) -/

theorem dmaArrive_joins {d : DmaDesc} (hrunning : s.rd HIF_DMA_STAT_STATE w c = 1) (hroom : (s.getChans (key2 w c)).live.length < s.dmaGiven w c) :
    ((dmaArrive w c (.desc d) s).getChans (key2 w c)).live = (s.getChans (key2 w c)).live ++ [(d, 0)] := by
  rw [dmaArrive, if_neg (by simp [hrunning, chRunning]), if_neg (by omega), State.getChans_putChans, if_pos rfl]

/-- The oldest descriptor has ended with an error's code: HEAD counts it and the channel is HALTED. -/
def chanHalted (w c code : Nat) (rest : List (DmaDesc × Nat)) (s : State) : State :=
  let sent := s.emit (.hostWrite w (s.reg HIF_DMA_BASE w c + s.reg HIF_DMA_HEAD w c % s.dmaRingSize w c * 32 + 0x1C) (dmaStatus code))
  let counted := ((sent.modChans (key2 w c) fun ch => { ch with live := rest }).incWrap HIF_DMA_HEAD_COUNT w c 1).wr HIF_DMA_STAT_LAST_CODE w c code
  ((counted.chanSync w c).wr HIF_DMA_STAT_STATE w c 3).wr HIF_DMA_STAT_PAUSED w c 0

theorem chanHalted_shows {code : Nat} (hcode : code < 256) (rest : List (DmaDesc × Nat)) (s : State) : let t := chanHalted w c code rest s
    t.rd HIF_DMA_HEAD_COUNT w c = (s.rd HIF_DMA_HEAD_COUNT w c + 1) % 2 ^ 32 ∧ t.rd HIF_DMA_STAT_LAST_CODE w c = code ∧ t.rd HIF_DMA_STAT_STATE w c = 3 ∧
      (t.getChans (key2 w c)).live = rest := by
  dsimp only [chanHalted]
  refine ⟨?_, ?_, ?_, ?_⟩
  · rw [State.rd_wr_id _ _ _ _ _ _ _ _ (by decide), State.rd_wr_id _ _ _ _ _ _ _ _ (by decide), State.chanSync_rd _ _ _ (by decide), State.rd_wr_id _ _ _ _ _ _ _ _ (by decide),
      State.incWrap, State.rd_wr_same _ _ _ _ _ (by decide) (by decide)]
    rfl
  · rw [State.rd_wr_field _ _ HIF_DMA_STAT_LAST_CODE _ _ _ (by rfl) (by decide) (by decide) (by decide),
      State.rd_wr_field _ _ HIF_DMA_STAT_LAST_CODE _ _ _ (by rfl) (by decide) (by decide) (by decide), State.rd_chanSync_lastCode, State.rd_wr_same _ _ _ _ _ (by decide) (by decide)]
    exact Nat.mod_eq_of_lt hcode
  · rw [State.rd_wr_field _ _ HIF_DMA_STAT_STATE _ _ _ (by rfl) (by decide) (by decide) (by decide)]
    exact rd_chanState_wr w c 3 _
  · rw [State.getChans_wr, State.getChans_wr, (State.chanSync_keeps ..).getChans (by decide +kernel), State.getChans_wr, State.incWrap, State.getChans_wr, State.modChans,
      State.getChans_putChans, if_pos rfl]

/-- What the end of a descriptor with an error shows (R580, R581). -/
theorem dmaEnd_halts {code n : Nat} {d : DmaDesc} {rest : List (DmaDesc × Nat)} (hlive : (s.getChans (key2 w c)).live = (d, n) :: rest) (hcode : code ≠ 0) (hlt : code < 256) :
    let t := dmaEnd w c code s
    t.rd HIF_DMA_HEAD_COUNT w c = (s.rd HIF_DMA_HEAD_COUNT w c + 1) % 2 ^ 32 ∧ t.rd HIF_DMA_STAT_LAST_CODE w c = code ∧ t.rd HIF_DMA_STAT_STATE w c = 3 ∧
      t.leafSet w Leaf.dmaErr = true ∧ (t.getChans (key2 w c)).live = rest := by
  have heq : dmaEnd w c code s = (if d.irq then (chanHalted w c code rest s).raise w Leaf.dmaDone else chanHalted w c code rest s).raise w Leaf.dmaErr := by
    rw [dmaEnd, hlive]
    dsimp only
    rw [if_neg hcode, if_neg hcode]
    rfl
  have hkeeps : Keeps 0x14c004600000000000000000000000000000000000000000000000000000000000000000000000010 (chanHalted w c code rest s) (dmaEnd w c code s) := by
    rw [heq]
    exact .next (State.raise_keeps ..) (by decide +kernel) (.ite (State.raise_keeps ..) (.refl _ _))
  obtain ⟨hcount, hlast, hstate, hrest⟩ := chanHalted_shows (w := w) (c := c) hlt rest s
  dsimp only
  refine ⟨(hkeeps.rd _ _ _ (by decide) (by decide +kernel)).trans hcount, (hkeeps.rd _ _ _ (by decide) (by decide +kernel)).trans hlast,
    (hkeeps.rd _ _ _ (by decide) (by decide +kernel)).trans hstate, ?_, ?_⟩
  · rw [heq]
    exact State.raise_sets _ w _ (by decide)
  · rw [hkeeps.getChans (by decide +kernel)]
    exact hrest

theorem dmaReadFails_ends {code n : Nat} {d : DmaDesc} {rest : List (DmaDesc × Nat)} (hlive : (s.getChans (key2 w c)).live = (d, n) :: rest) :
    dmaReadFails w c code s = dmaEnd w c code s := by
  rw [dmaReadFails, hlive]
  rfl

end

end Sys2Proof.Machine

open Sys2Proof Sys2Proof.Machine

/-- Settles O49: every error ends the oldest descriptor alike (`dmaEnd_halts`); what is raised after that leaves the channel's registers. -/
theorem dmaChannels : Obligations.DmaChannels := by
  intro w c s
  refine ⟨fun log2 hlog hwas => ⟨_, rfl, dmaEnable_enables hlog log2.isLt hwas⟩, fun log2 hlog => ⟨_, rfl, dmaEnable_refuses hlog⟩, ⟨_, rfl, dmaDisable_disables w c s⟩,
    fun v hstate hbeyond => ⟨_, rfl, dmaTail_refuses hstate hbeyond⟩, fun v hstate hwithin => ⟨_, rfl, dmaTail_takes v.isLt hstate hwithin⟩,
    fun h => ⟨_, rfl, dmaResume_resumes h⟩, fun d hrunning hroom => ⟨_, rfl, dmaArrive_joins hrunning hroom⟩, fun d n rest hrunning hlive => ?_⟩
  refine ⟨⟨_, rfl, ?_⟩, ⟨_, rfl, ?_⟩, fun hbad => ⟨_, rfl, ?_⟩⟩
  · rw [dmaTimeout, if_pos (by exact hrunning), dmaReadFails_ends hlive]
    exact dmaEnd_halts hlive (by decide) (by decide)
  · rw [dmaArrive, if_neg (by simp [hrunning, chRunning])]
    dsimp only
    rw [dmaReadFails_ends hlive]
    exact dmaEnd_halts hlive (by decide) (by decide)
  · rw [dmaDone, if_neg (by simp [hrunning, chRunning]), hlive]
    dsimp only
    rw [if_pos (by rw [hbad]; rfl)]
    exact dmaEnd_halts hlive (by decide) (by decide)

end

section
/-!
PROOF. What a halt makes of its core, and that a halted core does not halt again (R710, R714, R717).
-/
set_option Elab.async false
namespace Sys2Proof.Machine

section
variable {w f u reason hit : Nat} {s t : State}

/-! ## The stages of a halt (R710, R714) -/

/-- A core whose wait has ended because it halts. -/
def haltWaited (w f u : Nat) (s : State) : State := endWait w f u (withdrawTake w f u s)

/-- What a halt makes of a core. -/
def Core.halted (c : Core) (reason : Nat) : Core :=
  { c with wait := .none, st := .halt, before := c.st, reason := reason, haltReq := none, stepping := false, beforeTake := match c.wait with | .sema _ _ => true | _ => false }

/-- The core has halted and shows it. -/
def haltStored (w f u reason hit : Nat) (s : State) : State :=
  ((((haltWaited w f u s).setCore w f u ((s.core w f u).halted reason)).wr DBG_CORE_STAT_STATE w (coreIdx f u) 2).wr DBG_CORE_STAT_REASON w (coreIdx f u) reason).wr
    DBG_CORE_STAT_HIT w (coreIdx f u) hit

/-- The first halt is captured. -/
def haltCaptured (w f u reason : Nat) (s : State) : State :=
  if s.rd DBG_HALT_CAP_VALID w 0 = 1 then s
  else (((s.wr DBG_HALT_CAP_FIELD w 0 f).wr DBG_HALT_CAP_UNIT w 0 u).wr DBG_HALT_CAP_REASON w 0 reason).wr DBG_HALT_CAP_VALID w 0 1

/-- The halt is counted and raised. -/
def haltRaised (w f reason : Nat) (part : Option Nat) (s : State) : State :=
  let halted := (s.haltSync w f part).raise w Leaf.halted
  if reason = 3 then halted.raise w Leaf.breakpoint else if reason = 4 then halted.raise w Leaf.watchpoint else halted

/-- Another core of the command is asked to halt. -/
def haltAsked (w f u p : Nat) (x : Nat × Core) (s : State) : State :=
  if x.1 / 43200 = w ∧ x.1 ≠ coreKey w f u ∧ x.2.part = some p ∧ x.2.st ≠ .halt ∧ x.2.haltReq = none then
    (s.putCores x.1 { x.2 with haltReq := some 5 }).wr DBG_CORE_STAT_STATE w (x.1 % 43200) 1
  else s

/-- The halt goes on to the other cores of the command. -/
def haltCascaded (w f u : Nat) (part : Option Nat) (s : State) : State :=
  match part with
  | none => s
  | some p => if s.rd DBG_PART_CTL_CASCADE w p = 1 then forEach s.job.cores s (haltAsked w f u p) else s

theorem core_haltWaited (w f u : Nat) (s : State) : (haltWaited w f u s).core w f u = { s.core w f u with wait := .none } := by
  rw [haltWaited, core_endWait, (withdrawTake_keeps ..).core (by decide +kernel)]

theorem haltCore_eq (h : (s.core w f u).st ≠ .halt) : haltCore w f u reason hit s =
    haltCascaded w f u (s.core w f u).part (haltRaised w f reason (s.core w f u).part (haltCaptured w f u reason (haltStored w f u reason hit s))) := by
  have hwaited := core_haltWaited w f u s
  unfold haltWaited at hwaited
  unfold haltCore
  dsimp only
  rw [if_neg h, hwaited]
  rfl

/-! ## What the stages leave -/

theorem haltCaptured_keeps (w f u reason : Nat) (s : State) : Keeps (regBit DBG_HALT_CAP) s (haltCaptured w f u reason s) := by
  refine .ite (.refl _ _) ?_
  exact .next (State.wr_keeps ..) (by decide +kernel) (.next (State.wr_keeps ..) (by decide +kernel) (.next (State.wr_keeps ..) (by decide +kernel) ((State.wr_keeps ..).widen (by decide +kernel))))

theorem haltRaised_keeps (w f reason : Nat) (part : Option Nat) (s : State) :
    Keeps (0x14c004600000000000000000000000000000000000000000000000000000000000000000000000010 ||| regBit DBG_STAT ||| regBit DBG_FHALT ||| regBit DBG_PART_STAT) s
      (haltRaised w f reason part s) := by
  have hraised : Keeps (0x14c004600000000000000000000000000000000000000000000000000000000000000000000000010 ||| regBit DBG_STAT ||| regBit DBG_FHALT ||| regBit DBG_PART_STAT) s
      ((s.haltSync w f part).raise w Leaf.halted) := .next (State.raise_keeps ..) (by decide +kernel) ((State.haltSync_keeps ..).widen (by decide +kernel))
  exact .ite (.next (State.raise_keeps ..) (by decide +kernel) hraised) (.ite (.next (State.raise_keeps ..) (by decide +kernel) hraised) hraised)

theorem haltAsked_core (p : Nat) (x : Nat × Core) (t : State) : (haltAsked w f u p x t).core w f u = t.core w f u := by
  unfold haltAsked
  split
  · next h =>
    obtain ⟨-, hkey, -⟩ := h
    rw [State.core_wr, State.core, State.getCores_putCores, if_neg (Ne.symm hkey)]
    rfl
  · rfl

theorem haltAsked_reg (p : Nat) (x : Nat × Core) (t : State) :
    (haltAsked w f u p x t).reg DBG_CORE_STAT w (coreIdx f u) = t.reg DBG_CORE_STAT w (coreIdx f u) := by
  unfold haltAsked
  split
  · next h =>
    obtain ⟨hw, hkey, -⟩ := h
    have hidx : coreIdx f u ≠ x.1 % 43200 := fun heq => hkey (by unfold coreKey; unfold coreIdx at heq; omega)
    rw [State.wr, State.reg_setReg_ne _ _ _ _ _ _ _ _ (.inr (.inr hidx)), State.reg_putCores]
  · rfl

theorem haltCascaded_keeps (w f u : Nat) (part : Option Nat) (s : State) : Keeps (0x200 ||| regBit DBG_CORE_STAT) s (haltCascaded w f u part s) := by
  unfold haltCascaded
  cases part with
  | none => exact .refl _ _
  | some p =>
    refine .ite (forEach_keeps (fun x t => .ite (.next (State.wr_keeps ..) (by decide +kernel) ((State.putCores_keeps ..).widen (by decide +kernel))) (.refl _ _)) _ (.refl _ _)) (.refl _ _)

/-- A cascade leaves the core that it comes from. -/
theorem haltCascaded_leaves {α : Type} (c : State → α) (h : ∀ p x t, c (haltAsked w f u p x t) = c t) (part : Option Nat) (s : State) : c (haltCascaded w f u part s) = c s := by
  unfold haltCascaded
  cases part with
  | none => rfl
  | some p =>
    dsimp only
    split
    · exact forEach_leaves c _ s fun x _ t => h p x t
    · rfl

/-! ## What a halt shows -/

theorem haltStored_core : (haltStored w f u reason hit s).core w f u = (s.core w f u).halted reason := by
  rw [haltStored, State.core_wr, State.core_wr, State.core_wr, State.core_setCore]

theorem haltStored_shows (w f u reason hit : Nat) (s : State) : let t := haltStored w f u reason hit s
    t.rd DBG_CORE_STAT_STATE w (coreIdx f u) = 2 ∧ t.rd DBG_CORE_STAT_REASON w (coreIdx f u) = reason % 8 ∧ t.rd DBG_CORE_STAT_HIT w (coreIdx f u) = hit % 4 := by
  dsimp only [haltStored]
  rw [State.rd_wr_field _ _ DBG_CORE_STAT_STATE _ _ _ (by rfl) (by decide) (by decide) (by decide),
    State.rd_wr_field _ _ DBG_CORE_STAT_STATE _ _ _ (by rfl) (by decide) (by decide) (by decide), State.rd_wr_same _ _ _ _ _ (by decide) (by decide),
    State.rd_wr_field _ _ DBG_CORE_STAT_REASON _ _ _ (by rfl) (by decide) (by decide) (by decide), State.rd_wr_same _ _ _ _ _ (by decide) (by decide),
    State.rd_wr_same _ _ _ _ _ (by decide) (by decide)]
  exact ⟨rfl, rfl, rfl⟩

theorem haltStored_keeps (w f u reason hit : Nat) (s : State) :
    Keeps (0x100000000000000000000000000000000000000000400000000000000000000200 ||| 0x800000000000000000000000000000000000000000000002000 ||| regBit DBG_CORE_STAT ||| 0x400000000000000000000200) s
      (haltStored w f u reason hit s) := by
  refine .next (State.wr_keeps ..) (by decide +kernel) (.next (State.wr_keeps ..) (by decide +kernel) (.next (State.wr_keeps ..) (by decide +kernel) ?_))
  exact .next (State.setCore_keeps ..) (by decide +kernel) (.next (endWait_keeps ..) (by decide +kernel) ((withdrawTake_keeps ..).widen (by decide +kernel)))

theorem haltCaptured_reason (h : s.rd DBG_HALT_CAP_VALID w 0 = 0) : (haltCaptured w f u reason s).rd DBG_HALT_CAP_REASON w 0 = reason % 8 := by
  rw [haltCaptured, if_neg (by omega), State.rd_wr_field _ _ DBG_HALT_CAP_REASON _ _ _ (by rfl) (by decide) (by decide) (by decide)]
  exact State.rd_wr_same _ _ _ _ _ (by decide) (by decide)

theorem haltRaised_leaf (w f : Nat) (part : Option Nat) (s : State) : (haltRaised w f 3 part s).leafSet w Leaf.breakpoint = true := by
  rw [haltRaised]
  exact State.raise_sets _ w _ (by decide)

/-- What a core shows that halts, and what the capture register keeps of the first halt. -/
theorem haltCore_shows (h : (s.core w f u).st ≠ .halt) : let t := haltCore w f u reason hit s
    t.core w f u = (s.core w f u).halted reason ∧ t.rd DBG_CORE_STAT_STATE w (coreIdx f u) = 2 ∧ t.rd DBG_CORE_STAT_REASON w (coreIdx f u) = reason % 8 ∧
      t.rd DBG_CORE_STAT_HIT w (coreIdx f u) = hit % 4 ∧ (s.rd DBG_HALT_CAP_VALID w 0 = 0 → t.rd DBG_HALT_CAP_REASON w 0 = reason % 8) ∧
      (reason = 3 → t.leafSet w Leaf.breakpoint = true) := by
  dsimp only
  rw [haltCore_eq h]
  have hcap := haltCaptured_keeps w f u reason (haltStored w f u reason hit s)
  have hraised := haltRaised_keeps w f reason (s.core w f u).part (haltCaptured w f u reason (haltStored w f u reason hit s))
  have hcascade := haltCascaded_keeps w f u (s.core w f u).part (haltRaised w f reason (s.core w f u).part (haltCaptured w f u reason (haltStored w f u reason hit s)))
  have hshown : ∀ fld : Fld, fld.reg = DBG_CORE_STAT → (haltCascaded w f u (s.core w f u).part (haltRaised w f reason (s.core w f u).part (haltCaptured w f u reason
      (haltStored w f u reason hit s)))).rd fld w (coreIdx f u) = (haltStored w f u reason hit s).rd fld w (coreIdx f u) := fun fld hreg => by
    rw [State.rd, State.rd, hreg, haltCascaded_leaves (State.reg · DBG_CORE_STAT w (coreIdx f u)) haltAsked_reg, hraised.regs _ _ _ (by decide) (by decide +kernel),
      hcap.regs _ _ _ (by decide) (by decide +kernel)]
  obtain ⟨hstate, hreason, hhit⟩ := haltStored_shows w f u reason hit s
  refine ⟨?_, (hshown _ rfl).trans hstate, (hshown _ rfl).trans hreason, (hshown _ rfl).trans hhit, fun hvalid => ?_, ?_⟩
  · rw [haltCascaded_leaves (State.core · w f u) haltAsked_core, hraised.core (by decide +kernel), hcap.core (by decide +kernel), haltStored_core]
  · rw [hcascade.rd _ _ _ (by decide) (by decide +kernel), hraised.rd _ _ _ (by decide) (by decide +kernel)]
    exact haltCaptured_reason ((haltStored_keeps w f u reason hit s).rd DBG_HALT_CAP_VALID w 0 (by decide) (by decide +kernel) |>.trans hvalid)
  · rintro rfl
    rw [State.leafSet_of_keeps hcascade (by decide +kernel)]
    exact haltRaised_leaf ..

theorem haltCore_halt (h : (s.core w f u).st = .halt) : haltCore w f u reason hit s = s := if_pos h

/-! ## The commands -/

theorem coreHalted_breaks {r n : Nat} (hrun : (s.core w f u).st = .run) (hwait : (s.core w f u).wait = .none) (hskip : (s.core w f u).skipBreak = false)
    (hreq : (s.core w f u).haltReq = some r) (hbreak : s.breakAt w f u (s.core w f u).pc = some n) : coreHalted w f u s = haltCore w f u 3 n s := by
  simp only [coreHalted, hreq, hrun, hwait, hskip, hbreak, Bool.not_false, and_self, if_true]

theorem coreHalted_asked {r : Nat} (hreq : (s.core w f u).haltReq = some r) (hbreak : (s.core w f u).st = .run → s.breakAt w f u (s.core w f u).pc = none) :
    coreHalted w f u s = haltCore w f u r 0 s := by
  have hnone : (if (s.core w f u).st = .run ∧ (s.core w f u).wait = .none ∧ !(s.core w f u).skipBreak then s.breakAt w f u (s.core w f u).pc else none) = none := by
    split
    · next h => exact hbreak h.1
    · rfl
  simp only [coreHalted, hreq, hnone]

theorem coreHalted_halt (h : (s.core w f u).st = .halt) : coreHalted w f u s = s := by
  cases hreq : (s.core w f u).haltReq with
  | none => simp only [coreHalted, hreq]
  | some r => rw [coreHalted_asked hreq fun hrun => absurd (h.symm.trans hrun) (by decide), haltCore_halt h]

theorem haltAsk_halt (h : (s.core w f u).st = .halt) : haltAsk w f u s = s := by
  simp only [haltAsk, h]

theorem State.job_wr (s : State) (f : Fld) (w i v : Nat) : (s.wr f w i v).job = s.job := rfl

/-- A halt asked of a halted core only shows the result of the access. -/
theorem dbgControl_halt (hbcast : s.dbgBcast w = false) (hsel : s.dbgCore w = (f, u)) (h : (s.core w f u).st = .halt) : ∃ code, dbgControl w (haltAsk w) s = s.wr DBG_CORE_STAT_ACC_ERR w (coreIdx f u) code := by
  have haccErr : ∀ code, accErr w code s = s.wr DBG_CORE_STAT_ACC_ERR w (coreIdx f u) code := fun code => by rw [accErr, hsel]
  unfold dbgControl
  rw [hbcast, hsel]
  dsimp only
  rw [if_neg Bool.false_ne_true]
  split
  · exact ⟨0, by rw [haccErr, haltAsk_halt ((congrArg Core.st (State.core_wr ..)).trans h)]⟩
  · exact ⟨3, haccErr 3⟩

end

end Sys2Proof.Machine

open Sys2Proof Sys2Proof.Machine

/-- Settles O57: `haltCore` writes the core and its status once (`haltCore_shows`), and what follows it leaves that core; at a halted core it is the identity. -/
theorem aCoreHaltsOnce : Obligations.ACoreHaltsOnce := by
  intro w f u s c i halted
  have hhalts : ∀ (reason hit : Nat) (t : State), c.st = .run → haltCore w f u reason hit s = t →
      halted reason t ∧ (reason = 3 → t.leafSet w Leaf.breakpoint = true) ∧ t.rd DBG_CORE_STAT_HIT w i = hit % 4 := by
    rintro reason hit t hrun rfl
    obtain ⟨hcore, hstate, hreason, hhit, hcap, hleaf⟩ := haltCore_shows (reason := reason) (hit := hit) (by rw [hrun]; decide : (s.core w f u).st ≠ .halt)
    exact ⟨⟨congrArg Core.st hcore, congrArg Core.haltReq hcore, congrArg Core.reason hcore, hstate, hreason, hcap⟩, hleaf, hhit⟩
  refine ⟨fun r n hrun hwait hskip hreq hbreak => ⟨_, rfl, ?_⟩, fun r hrun hreq hbreak => ⟨_, rfl, ?_⟩, fun hst => ⟨_, rfl, coreHalted_halt hst⟩, fun hst hbcast hsel => ⟨_, rfl, ?_⟩⟩
  · obtain ⟨hshown, hleaf, hhit⟩ := hhalts 3 n _ hrun (coreHalted_breaks hrun hwait hskip hreq hbreak).symm
    exact ⟨hshown, hleaf rfl, hhit⟩
  · exact (hhalts r 0 _ hrun (coreHalted_asked hreq fun _ => hbreak).symm).1
  · obtain ⟨code, heq⟩ := dbgControl_halt hbcast hsel hst
    rw [heq]
    refine ⟨State.job_wr .., fun r x j _ hr => State.reg_wr_id _ _ _ _ _ _ _ _ fun heq => hr (List.mem_singleton.mpr heq), State.out_wr .., ?_, ?_, ?_⟩
    all_goals exact State.rd_wr_field _ _ _ _ _ _ rfl (by decide) (by decide) (by decide)

end

section
/-!
PROOF. A broadcast halt where the map of the cores lists one core twice (R709, R710, R714).
-/
set_option Elab.async false
namespace Sys2Proof.Machine

/-- A debugger has selected wafer 0's partition 0 as a broadcast target, and the partition cascades a halt. Its chart gives it cores 24 and 25 of field 0, both idle. The map of the cores
is not canonical, which the statement does not ask: it lists core 25 a second time, as running. A cascade goes over the list's entries, so it writes the second one over the first. -/
def coreListedTwice : State :=
  let chart := (State.reset.setReg NET_SEAT_DATA 0 (seatIdx 0 true 0) (2 ^ 37 + 2)).setReg NET_SEAT_DATA 0 (seatIdx 0 false 0) (2 * 2 ^ 20)
  let selected := ((chart.wr DBG_SEL_BCAST 0 0 1).wr DBG_SEL_PART 0 0 0).wr DBG_PART_CTL_CASCADE 0 0 1
  selected.withCores [(24, { st := .idle, part := some 0 }), (25, { st := .idle, part := some 0 }), (25, { st := .run, part := some 0 })]

theorem coreListedTwice_selected : coreListedTwice.dbgBcast 0 = true ∧ (0, 25) ∈ coreListedTwice.dbgTargets 0 ∧ (coreListedTwice.core 0 0 25).st = .idle := by decide +kernel

/-- The first target's halt asks the second one to halt as if it were running; the second halt then finds it asked. -/
theorem coreListedTwice_runs : ((dbgControl 0 (haltAsk 0) coreListedTwice).core 0 0 25).st = .run := by decide +kernel

end Sys2Proof.Machine

open Sys2Proof Sys2Proof.Machine

/-- Refutes O56: in `coreListedTwice` an idle core that the broadcast halt names still runs after it. -/
theorem not_debuggingCores : ¬ Obligations.DebuggingCores := by
  unfold Obligations.DebuggingCores
  intro h
  obtain ⟨-, -, hbroadcast, -⟩ := h 0 coreListedTwice
  obtain ⟨hselected, htarget, hidle⟩ := coreListedTwice_selected
  obtain ⟨t, hexec, hhalted⟩ := hbroadcast hselected
  obtain rfl : dbgControl 0 (haltAsk 0) coreListedTwice = t := Host.Outcome.next.inj hexec
  exact absurd ((hhalted (0, 25) htarget hidle).symm.trans coreListedTwice_runs) (by decide)

end

section
/-!
SUPPORT. What the start of a tray management controller changes: its own record, the responses that it kept, and TMC_INFO of its wafer (R31, R645, R646).
-/
set_option Elab.async false
namespace Sys2Proof.Machine

/-- What a write of TMC_INFO may change: the latch, the register, and what an access error shows. -/
def tmcInfoMask : Nat := 0x6 ||| regBit TMC_INFO ||| 0x14c004600000000000000000000000000000000000000000000000000000006000000000000000010

theorem tmcInfo_served (w : Nat) (s : State) : s.unserved w 0x10800C = false := by
  have hat : regAt windowRegs 0x10800C = some (TMC_INFO, 0, false) := by decide +kernel
  have hfield : fieldWindow 0x10800C = none := by decide +kernel
  simp only [State.unserved, hfield, hat]
  rfl

theorem commitReg_tmcInfo_keeps (w path off v : Nat) (s : State) : Keeps tmcInfoMask s (commitReg w path off TMC_INFO 0 v s) := by
  have hplain : (actingRegs.find? fun x => x.1.id == TMC_INFO.id) = none := by decide +kernel
  unfold commitReg
  rw [if_neg (by simp [TMC_INFO]), hplain]
  exact .ite (.next (accessError_keeps ..) (by decide +kernel) ((storeReg_keeps ..).widen (by decide +kernel))) ((storeReg_keeps ..).widen (by decide +kernel))

/-- A word written to a register of 32 bits that no selection banks is a write of its copy. -/
theorem writeWord_commits {w path off v i : Nat} {r : Reg} {s : State} (hs : s.unserved w off = false) (hr : regAt windowRegs off = some (r, i, false)) (hwide : r.wide = false)
    (hsel : r.sel = .none) : writeWord w path off v s = commitReg w path off r i v s := by
  simp [writeWord, hs, hr, hwide, writePlace, State.bank, hsel]

theorem windowWrite_tmcInfo_keeps (w path v : Nat) {s : State} (hopen : s.windowOpen w path = true) : Keeps tmcInfoMask s (windowWrite w path 0x10800C [(15, v)] s) := by
  have hat : regAt windowRegs 0x10800C = some (TMC_INFO, 0, false) := by decide +kernel
  rw [windowWrite_one hopen, write4, if_neg (by decide), if_pos rfl, writeWord_commits (tmcInfo_served ..) hat rfl rfl]
  exact ((takeCaptured_keeps ..).trans (commitReg_tmcInfo_keeps ..)).widen (by decide +kernel)

/-- A TMC that has started again, before it reports. -/
def tmcReborn (t : Nat) (s : State) : State :=
  (s.fresh.2.putTafKept t []).modTmcs t fun x =>
    { x with running := true, restarts := x.restarts + 1, hears0 := false, hears1 := false, absent := false, events := [], eventSeq := s.fresh.1 % 2 ^ 32 }

/-- A wafer tray's TMC shows its image's version in the wafer's window. -/
def tmcShown (t v : Nat) (s : State) : State := if t < 36 ∧ s.hostRuns t = true then windowWrite t 1 0x10800C [(15, v)] s else s

theorem tmcStart_eq (t : Nat) (s : State) : tmcStart t s = sendEvent t [4, s.runningVer 2 t] (tmcShown t (s.runningVer 2 t) (tmcReborn t s)) := rfl

theorem tmcShown_keeps (t v : Nat) (s : State) : Keeps tmcInfoMask s (tmcShown t v s) := by
  unfold tmcShown
  split
  · next h => exact windowWrite_tmcInfo_keeps _ _ _ (by simp [State.windowOpen, h.2])
  · exact .refl _ _

theorem tmcReborn_keeps (t : Nat) (s : State) : Keeps 0x108000000000 s (tmcReborn t s) :=
  .next (State.modTmcs_keeps ..) (by decide +kernel) (.next (State.putTafKept_keeps ..) (by decide +kernel) (s.fresh_keeps.widen (by decide +kernel)))

/-- A TMC's start leaves the wafers, the firmware and everything else of the trays but its own record and its kept responses. -/
theorem tmcStart_keepsMost (t : Nat) (s : State) : Keeps (tmcInfoMask ||| 0x108000000000) s (tmcStart t s) := by
  rw [tmcStart_eq]
  exact .next (sendEvent_keeps ..) (by decide +kernel) (((tmcReborn_keeps ..).trans (tmcShown_keeps ..)).widen (by decide +kernel))

end Sys2Proof.Machine

end

section
/-!
PROOF. The firmware slots: what an install, its check, an activation and the end of a trial make of a part's two slots (R657, R658, R661, R669).
-/
set_option Elab.async false
namespace Sys2Proof.Machine

/-! ## The two slots of a part -/

theorem FwPart.slot_setSlot_same (p : FwPart) (i : Nat) (x : FwSlot) : (p.setSlot i x).slot i = x := by
  by_cases h : i = 0
  · simp [FwPart.slot, FwPart.setSlot, h]
  · simp [FwPart.slot, FwPart.setSlot, h]

/-- The part's other slot. -/
theorem FwPart.slot_setSlot_other (p : FwPart) {i : Nat} (hi : i < 2) (x : FwSlot) : (p.setSlot i x).slot (1 - i) = p.slot (1 - i) := by
  obtain rfl | rfl : i = 0 ∨ i = 1 := by omega
  · rfl
  · rfl

theorem FwPart.running_setSlot (p : FwPart) (i : Nat) (x : FwSlot) : (p.setSlot i x).running = p.running := by
  unfold FwPart.setSlot
  split <;> rfl

theorem FwPart.slot_running (p : FwPart) (i n : Nat) : ({ p with running := n } : FwPart).slot i = p.slot i := rfl

theorem FwPart.find_lt {p : FwPart} {st i : Nat} (h : p.find st = some i) : i < 2 := by
  have hmem : i = 0 ∨ i = 1 := by simpa using List.mem_of_find?_eq_some h
  omega

section
variable {part unit : Nat} {s : State}

theorem State.getFws_modFws_same (s : State) (k : Nat) (g : FwPart → FwPart) : (s.modFws k g).getFws k = g (s.getFws k) := (s.getFws_putFws _ _ _).trans (if_pos rfl)

/-! ## What leaves a part's slots -/

theorem partStart_getFws (part unit : Nat) (s : State) (k : Nat) : (partStart part unit s).getFws k = s.getFws k := by
  unfold partStart
  split
  · exact (tmcStart_keepsMost ..).getFws (by decide +kernel) k
  · exact (chipStart_keeps ..).getFws (by decide +kernel) k
  · exact (shelfSync_keeps ..).getFws (by decide +kernel) k
  · rw [(shelfSync_keeps ..).getFws (by decide +kernel), State.getFws_wr, State.getFws_wr]
  · rfl

theorem modTasks_getFws (part unit : Nat) (g : Task → Task) (s : State) (k : Nat) : (modTasks part unit g s).getFws k = s.getFws k := (modTasks_keeps ..).getFws (by decide +kernel) k

theorem fwShow_getFws (part unit : Nat) (s : State) (k : Nat) : (fwShow part unit s).getFws k = s.getFws k := (fwShow_keeps ..).getFws (by decide +kernel) k

theorem fwJournal_getFws (part inst slot outcome old : Nat) (s : State) (k : Nat) : (fwJournal part inst slot outcome old s).getFws k = s.getFws k :=
  (fwJournal_keeps ..).getFws (by decide +kernel) k

/-! ## Install and write (R658) -/

theorem fwInstall_installs {slot ver : Nat} {digest : List Nat} (hw : s.fwWritable part unit = true) (ha : (s.getFws (fwKey part unit)).accepts slot = true) :
    (fwInstall part unit slot ver digest s).getFws (fwKey part unit) = (s.getFws (fwKey part unit)).setSlot slot ⟨1, ver, digest⟩ := by
  rw [fwInstall, hw, ha, Bool.and_self, if_pos rfl, fwShow_getFws, State.getFws_modFws_same]

theorem fwWritten_checks {digest : List Nat} {i : Nat} (hw : s.fwWritable part unit = true) (hfind : (s.getFws (fwKey part unit)).find 1 = some i)
    (hlater : ∀ x ∈ s.rack.planner.tasks, x.immediate = false) : (fwWritten part unit digest s).getFws (fwKey part unit) =
      (s.getFws (fwKey part unit)).setSlot i { (s.getFws (fwKey part unit)).slot i with st := if ((s.getFws (fwKey part unit)).slot i).digest == digest then 2 else 6 } := by
  have hnow : (s.rack.planner.tasks.any fun x => x.part == part && x.unit == unit && x.st == 0 && x.immediate) = false :=
    List.any_eq_false.mpr fun x hx => by rw [hlater x hx, Bool.and_false]; exact Bool.false_ne_true
  unfold fwWritten
  simp only [hfind, hw, hnow, Bool.not_true, Bool.false_eq_true, if_false]
  split
  all_goals rw [modTasks_getFws, fwShow_getFws, fwJournal_getFws, State.getFws_putFws, if_pos rfl]

/-! ## Activation (R657) -/

/-- A part whose slot is on trial. -/
def FwPart.tried (part slot : Nat) (p : FwPart) : FwPart :=
  let q := p.setSlot slot { p.slot slot with st := 3 }
  if part = 1 then q else { q with running := slot }

theorem FwPart.tried_shows (part i : Nat) (p : FwPart) : ((p.tried part i).slot i).st = 3 ∧ ((p.tried part i).slot i).ver = (p.slot i).ver ∧
    (part ≠ 1 → (p.tried part i).running = i) ∧ (part = 1 → (p.tried part i).running = p.running) := by
  have hslot : (p.tried part i).slot i = { p.slot i with st := 3 } := by
    unfold FwPart.tried
    dsimp only
    split
    · exact p.slot_setSlot_same i _
    · exact p.slot_setSlot_same i _
  exact ⟨congrArg FwSlot.st hslot, (congrArg FwSlot.ver hslot :), fun h => congrArg FwPart.running (if_neg h), fun h => (congrArg FwPart.running (if_pos h)).trans (p.running_setSlot ..)⟩

theorem activateSlot_tries {slot : Nat} (hone : (s.getFws (fwKey part unit)).find 1 = none) (hthree : (s.getFws (fwKey part unit)).find 3 = none) (hmay : s.mayActivate part unit = true) :
    (activateSlot part unit slot s).getFws (fwKey part unit) = (s.getFws (fwKey part unit)).tried part slot := by
  unfold activateSlot
  simp only [hone, hthree, hmay, Option.isSome_none, Bool.false_eq_true, or_self, if_false, Bool.not_true]
  rw [fwShow_getFws, partStart_getFws, modTasks_getFws, State.getFws_modFws_same]
  rfl

theorem activateIn_tries {st i : Nat} (hw : s.fwWritable part unit = true) (hone : (s.getFws (fwKey part unit)).find 1 = none) (hthree : (s.getFws (fwKey part unit)).find 3 = none)
    (hmay : s.mayActivate part unit = true) (hfind : (s.getFws (fwKey part unit)).find st = some i) :
    (activateIn part unit st s).getFws (fwKey part unit) = (s.getFws (fwKey part unit)).tried part i := by
  simp only [activateIn, hw, hfind, Bool.not_true, Bool.false_eq_true, if_false]
  exact activateSlot_tries hone hthree hmay

/-! ## The end of a trial (R658) -/

/-- A part whose trial has passed. -/
def FwPart.passed (i : Nat) (p : FwPart) : FwPart :=
  { (p.setSlot i { p.slot i with st := 4 }).setSlot (1 - i) (if (p.slot (1 - i)).st = 4 then { p.slot (1 - i) with st := 5 } else p.slot (1 - i)) with running := i }

theorem FwPart.passed_shows (p : FwPart) {i : Nat} (hi : i < 2) : ((p.passed i).slot i).st = 4 ∧ (p.passed i).running = i ∧
    ((p.passed i).slot (1 - i)).st = if (p.slot (1 - i)).st = 4 then 5 else (p.slot (1 - i)).st := by
  have hother : 1 - (1 - i) = i := by omega
  refine ⟨?_, rfl, ?_⟩
  · rw [FwPart.passed, FwPart.slot_running, ← congrArg (FwPart.slot _) hother, FwPart.slot_setSlot_other _ (by omega), hother, FwPart.slot_setSlot_same]
  · rw [FwPart.passed, FwPart.slot_running, FwPart.slot_setSlot_same]
    exact apply_ite FwSlot.st _ _ _

theorem fwPass_getFws {i : Nat} (hfind : (s.getFws (fwKey part unit)).find 3 = some i) : (fwPass part unit s).getFws (fwKey part unit) = (s.getFws (fwKey part unit)).passed i := by
  simp only [fwPass, hfind]
  rw [fwJournal_getFws, State.getFws_putFws, if_pos rfl]
  rfl

theorem fwFail_getFws {i : Nat} (hfind : (s.getFws (fwKey part unit)).find 3 = some i) :
    (fwFail part unit s).getFws (fwKey part unit) = { (s.getFws (fwKey part unit)).setSlot i { (s.getFws (fwKey part unit)).slot i with st := 6 } with running := 1 - i } := by
  simp only [fwFail, hfind]
  rw [fwJournal_getFws, State.getFws_putFws, if_pos rfl]

/-- A rectifier module whose check has ended is back; other parts are as they are. -/
def moduleBack (part unit : Nat) (s : State) : State :=
  if part = 6 then shelfSync (unit / 6) (s.modShelves (unit / 6) fun x => { x with badModules := x.badModules &&& notBits 6 (2 ^ (unit % 6)) }) else s

theorem moduleBack_getFws (part unit : Nat) (s : State) (k : Nat) : (moduleBack part unit s).getFws k = s.getFws k := by
  unfold moduleBack
  split
  · exact (shelfSync_keeps ..).getFws (by decide +kernel) k
  · rfl

theorem trialEnd_eq {pass : Bool} (hpart : part ≠ 1) {i : Nat} (hfind : (s.getFws (fwKey part unit)).find 3 = some i) (hunit : unit < fwUnits part) :
    trialEnd part unit pass s = moduleBack part unit (if pass then modTasks part unit (fun x => { x with st := 2 }) (fwPass part unit s)
      else partStart part unit (modTasks part unit (fun x => { x with st := 3 }) (fwFail part unit s))) := by
  unfold trialEnd
  rw [if_neg (by simp [hpart, hfind]; omega)]
  cases pass <;> rfl

theorem trialEnd_passes (hpart : part ≠ 1) {i : Nat} (hfind : (s.getFws (fwKey part unit)).find 3 = some i) (hunit : unit < fwUnits part) :
    (trialEnd part unit true s).getFws (fwKey part unit) = (s.getFws (fwKey part unit)).passed i := by
  rw [trialEnd_eq hpart hfind hunit, moduleBack_getFws, if_pos rfl, modTasks_getFws, fwPass_getFws hfind]

theorem trialEnd_fails (hpart : part ≠ 1) {i : Nat} (hfind : (s.getFws (fwKey part unit)).find 3 = some i) (hunit : unit < fwUnits part) :
    (trialEnd part unit false s).getFws (fwKey part unit) =
      { (s.getFws (fwKey part unit)).setSlot i { (s.getFws (fwKey part unit)).slot i with st := 6 } with running := 1 - i } := by
  rw [trialEnd_eq hpart hfind hunit, moduleBack_getFws, if_neg Bool.false_ne_true, partStart_getFws, modTasks_getFws, fwFail_getFws hfind]

theorem State.fwWritable_unit (h : s.fwWritable part unit = true) : unit < fwUnits part := by
  unfold State.fwWritable at h
  exact of_decide_eq_true (Bool.and_eq_true_iff.mp h).1

end

end Sys2Proof.Machine

open Sys2Proof Sys2Proof.Machine

/-- Settles O52: each command writes the part's two slots once, and its start, its tasks and the journal leave them (`partStart_getFws`). -/
theorem firmwareSlots : Obligations.FirmwareSlots := by
  intro part unit s k p slot hw
  have hpart : part ≠ 1 → part.val ≠ 1 := fun h heq => h (Fin.ext heq)
  refine ⟨fun i ver digest ha => ⟨_, rfl, ?_⟩, fun i digest hfind hlater => ⟨_, rfl, ?_⟩, fun hone hthree hmay => ?_, fun i h1 hfind => ⟨⟨_, rfl, ?_⟩, ⟨_, rfl, ?_⟩⟩, fun n => ⟨_, rfl, rfl⟩⟩
  · have hfws := fwInstall_installs (ver := ver.toNat) (digest := digest.map BitVec.toNat) hw ha
    exact ⟨(congrArg (FwPart.slot · i) hfws).trans (p.slot_setSlot_same ..), (congrArg (FwPart.slot · (1 - i)) hfws).trans (p.slot_setSlot_other i.isLt _)⟩
  · refine (congrArg (fun q => (FwPart.slot q i).st) (fwWritten_checks hw hfind hlater)).trans ?_
    rw [FwPart.slot_setSlot_same]
    simp only [beq_iff_eq]
    rfl
  · intro trial
    have htried : ∀ (st i : Nat) (t : State), p.find st = some i → activateIn part unit.toNat st s = t → trial i t := by
      rintro st i t hfind rfl
      obtain ⟨hst, hver, hruns, hkept⟩ := FwPart.tried_shows part i p
      have hfws := activateIn_tries hw hone hthree hmay hfind
      refine ⟨(congrArg (fun q => (FwPart.slot q i).st) hfws).trans hst, (congrArg (fun q => (FwPart.slot q i).ver) hfws).trans hver,
        fun h => (congrArg FwPart.running hfws).trans (hruns (hpart h)), fun h => (congrArg FwPart.running hfws).trans (hkept (congrArg Fin.val h))⟩
    exact ⟨fun i hfind => ⟨_, rfl, htried 2 i _ hfind rfl⟩, fun i hfind => ⟨_, rfl, htried 5 i _ hfind rfl⟩⟩
  · have hfws := trialEnd_passes (hpart h1) hfind (State.fwWritable_unit hw)
    obtain ⟨hst, hruns, hother⟩ := p.passed_shows (FwPart.find_lt hfind)
    exact ⟨(congrArg (fun q => (FwPart.slot q i).st) hfws).trans hst, (congrArg FwPart.running hfws).trans hruns, (congrArg (fun q => (FwPart.slot q (1 - i)).st) hfws).trans hother⟩
  · have hfws := trialEnd_fails (hpart h1) hfind (State.fwWritable_unit hw)
    refine ⟨(congrArg (fun q => (FwPart.slot q i).st) hfws).trans ?_, congrArg FwPart.running hfws⟩
    rw [FwPart.slot_running, FwPart.slot_setSlot_same]

end

section
/-!
SUPPORT. What of DBG_STAT.ATTACHED the halts and the ends of commands leave (R707): they count halted cores in the same register.
-/
set_option Elab.async false
namespace Sys2Proof.Machine

/-- No wafer's DBG_STAT.ATTACHED differs. -/
structure SameAttached (s t : State) : Prop where
  same : ∀ w, t.rd DBG_STAT_ATTACHED w 0 = s.rd DBG_STAT_ATTACHED w 0

section
variable {s t u : State}

theorem SameAttached.refl (s : State) : SameAttached s s := ⟨fun _ => rfl⟩

theorem SameAttached.trans (h1 : SameAttached s t) (h2 : SameAttached t u) : SameAttached s u := ⟨fun w => (h2.same w).trans (h1.same w)⟩

theorem SameAttached.of_keeps {m : Nat} (h : Keeps m s t) (hm : m.testBit (64 + DBG_STAT.id) = false) : SameAttached s t := ⟨fun w => h.rd _ w 0 (by decide) hm⟩

theorem SameAttached.ite {p : Prop} [Decidable p] (h1 : SameAttached s t) (h2 : SameAttached s u) : SameAttached s (if p then t else u) := by
  split
  · exact h1
  · exact h2

theorem SameAttached.forEach {α : Type} {g : α → State → State} (hg : ∀ x t, SameAttached t (g x t)) (xs : List α) (s : State) : SameAttached s (forEach xs s g) :=
  forEach_relates SameAttached.refl SameAttached.trans hg xs s

theorem SameAttached.wr (h : SameAttached s t) (f : Fld) (hf : f.reg.id ≠ DBG_STAT.id ∨ f = DBG_STAT_HALTED) (w i v : Nat) : SameAttached s (t.wr f w i v) := by
  refine h.trans ⟨fun x => State.rd_wr_apart _ _ _ _ _ _ _ _ ?_⟩
  rcases hf with hf | rfl
  · exact .inl hf.symm
  · exact .inr (by decide)

theorem State.haltSync_attached (s : State) (w f : Nat) (p : Option Nat) : SameAttached s (s.haltSync w f p) := by
  have hfield : ∀ v, SameAttached s ((s.wr DBG_STAT_HALTED w 0 (s.haltedCores w).length).setReg DBG_FHALT w (f / 32) v) := fun v =>
    ((SameAttached.refl s).wr DBG_STAT_HALTED (.inr rfl) _ _ _).trans (.of_keeps (State.setReg_keeps ..) (by decide +kernel))
  unfold State.haltSync
  cases p with
  | none => exact hfield _
  | some q => exact (hfield _).wr _ (.inl (by decide)) _ _ _

theorem endHalt_attached (w f u : Nat) (s : State) : SameAttached s (endHalt w f u s) := by
  have hset : ∀ c, SameAttached s (s.setCore w f u c) := fun c => .of_keeps (State.setCore_keeps ..) (by decide +kernel)
  have hended : ∀ c p, SameAttached s ((((s.setCore w f u c).wr DBG_CORE_STAT_STATE w (coreIdx f u) 0).wr DBG_CORE_STAT_REASON w (coreIdx f u) 0).haltSync w f p) := fun c p =>
    (((hset c).wr _ (.inl (by decide)) _ _ _).wr _ (.inl (by decide)) _ _ _).trans (State.haltSync_attached ..)
  unfold endHalt
  refine .ite ?_ (.ite ((hset _).wr _ (.inl (by decide)) _ _ _) (.refl s))
  cases (s.core w f u).part with
  | none => exact hended _ _
  | some p => exact .ite (hended _ _) ((hended _ _).trans (.of_keeps (State.bump_keeps ..) (by decide +kernel)))

theorem leaveCmd_attached (w f u : Nat) (s : State) : SameAttached s (leaveCmd w f u s) :=
  (endHalt_attached w f u s).trans <| .of_keeps (m := 0x400000000000000000000200 ||| 0x100000000000000000000000000000000000000000400000000000000000000200 |||
    0x800000000000000000000000000000000000000000000002000) (.next (State.setCore_keeps ..) (by decide +kernel) (.next (endWait_keeps ..) (by decide +kernel)
      ((withdrawTake_keeps ..).widen (by decide +kernel)))) (by decide +kernel)

theorem endCores_attached (w p : Nat) (s : State) : SameAttached s (endCores w p s) := by
  unfold endCores
  refine .trans ?_ (.forEach (fun q t => .of_keeps (quadIdle_keeps w q t) (by decide +kernel)) _ _)
  refine .forEach (fun x t => ?_) _ _
  split
  · exact leaveCmd_attached w x.1 x.2.1 t
  · exact .refl t

theorem discardCmd_attached (w p : Nat) (s : State) : SameAttached s (discardCmd w p s) := by
  unfold discardCmd
  exact (endCores_attached w p s).trans (.of_keeps (m := 0x84400) (.next (State.modPart_keeps ..) (by decide +kernel) (.next (returnLeases_keeps ..) (by decide +kernel)
    ((withdrawQueued_keeps ..).widen (by decide +kernel)))) (by decide +kernel))

theorem failLocal_attached (w p status : Nat) (s : State) : SameAttached s (failLocal w p status s) := by
  unfold failLocal
  split
  · exact .ite (.refl s) ((discardCmd_attached w p s).trans (.of_keeps (finishCmd_keeps ..) (by decide +kernel)))
  · exact .refl s

theorem failCmd_attached (w p status : Nat) (s : State) : SameAttached s (failCmd w p status s) := by
  have hsent : ∀ (x p : Nat) (q : Nat) (bs : List Nat) (xs : List (Nat × Nat)) (t : State), SameAttached t (forEach xs t fun y z => sendPeer x p y 0x22 status q bs z) := fun x p q bs xs t =>
    .forEach (fun y z => .of_keeps (sendPeer_keeps ..) (by decide +kernel)) xs t
  have hlocal := failLocal_attached w p status s
  unfold failCmd
  dsimp only
  split
  · split
    · exact .ite hlocal (hlocal.trans (hsent ..))
    · exact hlocal
  · split
    · exact hlocal
    · split
      · exact hlocal
      · exact .ite hlocal (hlocal.trans ((failLocal_attached ..).trans (hsent ..)))

/-- A resume shows halts in DBG_STAT and leaves the debugger attached or not. -/
theorem resumeCore_attached (w f u : Nat) (stepping : Bool) (s : State) : SameAttached s (resumeCore w f u stepping s) := by
  have hresumed : ∀ (t : State) (c : Core) (v : Nat) (p : Option Nat),
      SameAttached t ((((t.setCore w f u c).wr DBG_CORE_STAT_STATE w (coreIdx f u) v).wr DBG_CORE_STAT_REASON w (coreIdx f u) 0).haltSync w f p) := fun t c v p =>
    (((SameAttached.of_keeps (State.setCore_keeps ..) (by decide +kernel)).wr _ (.inl (by decide)) _ _ _).wr _ (.inl (by decide)) _ _ _).trans (State.haltSync_attached ..)
  unfold resumeCore
  dsimp only
  refine .ite (.refl s) ?_
  split
  · exact .ite (failCmd_attached ..) ((failCmd_attached ..).trans (hresumed ..))
  · exact .ite (.refl s) (hresumed ..)

end

/-- After a detach no debugger is attached. -/
theorem dbgDetach_detaches (w : Nat) (s : State) : (dbgDetach w s).rd DBG_STAT_ATTACHED w 0 = 0 := by
  have hwritten : ((s.wr DBG_CTL_ATTACH w 0 0).wr DBG_STAT_ATTACHED w 0 0).rd DBG_STAT_ATTACHED w 0 = 0 := State.rd_wr_same _ _ _ _ _ (by decide) (by decide)
  unfold dbgDetach
  split
  · assumption
  · refine ((State.raise_keeps ..).rd _ _ _ (by decide) (by decide +kernel)).trans ?_
    split
    · exact hwritten
    · rw [(SameAttached.forEach (fun x t => resumeCore_attached ..) _ _).same w, (disarmAll_keeps ..).rd _ _ _ (by decide) (by decide +kernel),
        (disarmAll_keeps ..).rd _ _ _ (by decide) (by decide +kernel)]
      exact hwritten

end Sys2Proof.Machine

end

section
/-!
PROOF. The prompter port: what its instructions select and shift out, its accesses to the window, and TRST (R702-R705, R707, R723).
-/
set_option Elab.async false
namespace Sys2Proof.Machine

section
variable {w : Nat} {s : State}

theorem State.getTwis_modTwis_same (s : State) (k : Nat) (g : Twi → Twi) : (s.modTwis k g).getTwis k = g (s.getTwis k) := (s.getTwis_putTwis _ _ _).trans (if_pos rfl)

theorem State.out_modTwis (s : State) (k : Nat) (g : Twi → Twi) : (s.modTwis k g).out = s.out := rfl

theorem State.out_emit (s : State) (e : Emit) : (s.emit e).out = e :: s.out := rfl

theorem State.rd_modTwis (s : State) (k : Nat) (g : Twi → Twi) (f : Fld) (w i : Nat) : (s.modTwis k g).rd f w i = s.rd f w i := rfl

theorem State.reg_modTwis (s : State) (k : Nat) (g : Twi → Twi) (r : Reg) (w i : Nat) : (s.modTwis k g).reg r w i = s.reg r w i := rfl

/-- A scan of a powered wafer's port notes the prompter. -/
theorem scan_powered (g : State → State) (h : (s.getWafers w).powered = true) : scan w g s = g (s.wr DBG_STAT_PRESENT w 0 1) := if_pos h

/-- What a scan of the port shows: the instruction, the bits shifted out, and no register changed but DBG_STAT. -/
def PortShows (w : Nat) (s : State) (ir n v : Nat) (t : State) : Prop :=
  (t.getTwis w).ir = ir ∧ t.out = .jtag w n v :: s.out ∧ t.rd DBG_STAT_PRESENT w 0 = 1 ∧ SameRegs [DBG_STAT] s t

/-- Bits are shifted out of a port that a scan has written nothing of but the prompter's presence. -/
theorem portShows_emit {u : State} {ir n v : Nat} (hir : (u.getTwis w).ir = ir) (hout : u.out = s.out) (hregs : ∀ r x j, u.reg r x j = (s.wr DBG_STAT_PRESENT w 0 1).reg r x j) :
    PortShows w s ir n v (u.emit (.jtag w n v)) := by
  refine ⟨hir, congrArg (List.cons _) hout, ?_, fun r x j _ hr => ?_⟩
  · rw [State.rd_emit, State.rd, hregs]
    exact State.rd_wr_same s DBG_STAT_PRESENT w 0 1 (by decide) (by decide)
  · rw [State.reg_emit, hregs]
    exact State.reg_wr_id _ _ _ _ _ _ _ _ fun heq => hr (List.mem_singleton.mpr heq)

/-- A powered wafer's port with a prompter, and an instruction selected. -/
def portSelected (w ir : Nat) (s : State) : State := setIr w ir (s.wr DBG_STAT_PRESENT w 0 1)

theorem portSelected_twis (w ir : Nat) (s : State) : (portSelected w ir s).getTwis w = { s.getTwis w with ir := ir, driving := ir == 0 } := by
  rw [portSelected, setIr, State.getTwis_modTwis_same, State.getTwis_wr]

theorem portSelected_out (w ir : Nat) (s : State) : (portSelected w ir s).out = s.out := by rw [portSelected, setIr, State.out_modTwis, State.out_wr]

theorem portSelected_shows (w ir n v : Nat) (s : State) : PortShows w s ir n v ((portSelected w ir s).emit (.jtag w n v)) :=
  portShows_emit (congrArg Twi.ir (portSelected_twis ..)) (portSelected_out ..) fun _ _ _ => State.reg_modTwis ..

/-- A prompter's presence is no part of what a scan reads. -/
theorem present_keeps (w : Nat) (s : State) : Keeps (regBit DBG_STAT) s (s.wr DBG_STAT_PRESENT w 0 1) := (State.wr_keeps ..).widen (by decide +kernel)

theorem Keeps.hostRuns {m : Nat} {s t : State} (h : Keeps m s t) (hm : m.testBit 38 = false ∧ m.testBit (64 + BUP_STAT.id) = false) (w : Nat) : t.hostRuns w = s.hostRuns w := by
  rw [State.hostRuns, h.getWafers hm.1, h.rd _ _ _ (by decide) hm.2, State.hostRuns]

theorem Keeps.aonStatus {m : Nat} {s t : State} (h : Keeps m s t)
    (hm : m.testBit 38 = false ∧ m.testBit 31 = false ∧ m.testBit 32 = false ∧ m.testBit (64 + BUP_STAT.id) = false) (w : Nat) : t.aonStatus w = s.aonStatus w := by
  obtain ⟨hwafers, hledgers, hbups, hstat⟩ := hm
  have hshown : ∀ f : Fld, f.reg = BUP_STAT → t.rd f w 0 = s.rd f w 0 := fun f hf => h.rd f w 0 (by rw [hf]; decide) (by rw [hf]; exact hstat)
  simp only [State.aonStatus, State.seqState, h.hostRuns ⟨hwafers, hstat⟩, h.getWafers hwafers, h.getLedgers hledgers, h.getBups hbups, hshown BUP_STAT_HOST rfl,
    hshown BUP_STAT_START_KIND rfl, hshown BUP_STAT_STOP rfl, h.now]

/-! ## The instructions of the port (R702, R703) -/

theorem jtagExtest_selects (hpow : (s.getWafers w).powered = true) :
    let t := scan w (fun t => setIr w (if t.hostRuns w then 0x1F else 0) t) s
    (t.getTwis w).ir = (if s.hostRuns w then 0x1F else 0) ∧ (t.getTwis w).driving = !s.hostRuns w := by
  dsimp only
  rw [scan_powered _ hpow, (present_keeps w s).hostRuns (by decide +kernel), ← portSelected, portSelected_twis]
  refine ⟨rfl, ?_⟩
  cases s.hostRuns w <;> rfl

theorem jtagBypass_selects {ir : BitVec 5} (hpow : (s.getWafers w).powered = true) (hir : ir ∉ [0, 1, 2, 8, 9]) :
    jtagBypass w ir.toNat s = (portSelected w 0x1F s).emit (.jtag w 1 0) := by
  have hinstr : portInstr ir.toNat = false := by revert hir; revert ir; decide
  rw [jtagBypass, hinstr, if_neg Bool.false_ne_true]
  exact scan_powered _ hpow

/-! ## Accesses (R704, R705) -/

/-- A DPACC scan has shifted out the result of the access before. -/
def dpAsked (w : Nat) (early : Bool) (s : State) : State := (portSelected w 8 s).emit (.jtag w 64 (s.dpCaptured w early))

theorem dpCaptured_present (early : Bool) : (s.wr DBG_STAT_PRESENT w 0 1).dpCaptured w early = s.dpCaptured w early := by
  rw [State.dpCaptured, (present_keeps w s).hostRuns (by decide +kernel), State.getTwis_wr, State.dpCaptured]

theorem dpAsked_twis (early : Bool) : (dpAsked w early s).getTwis w = { s.getTwis w with ir := 8, driving := false } := by
  rw [dpAsked, State.getTwis_emit, portSelected_twis]
  rfl

theorem dpAsked_hostRuns (early : Bool) : (dpAsked w early s).hostRuns w = s.hostRuns w := by
  have hkeeps : Keeps (regBit DBG_STAT ||| 0x80000000000) s (dpAsked w early s) :=
    .next (State.emit_keeps ..) (by decide +kernel) (.next (setIr_keeps ..) (by decide +kernel) ((State.wr_keeps ..).widen (by decide +kernel)))
  exact hkeeps.hostRuns (by decide +kernel) w

theorem dpacc_early {op off v : Nat} (hpow : (s.getWafers w).powered = true) : dpacc w op off v true s = dpAsked w true s := by
  rw [dpacc, scan_powered _ hpow, dpCaptured_present, if_pos rfl]
  rfl

theorem dpacc_late {op off v : Nat} (hpow : (s.getWafers w).powered = true) : dpacc w op off v false s =
    if s.hostRuns w = false then dpResult w 3 op 0 (dpAsked w false s)
    else match op with
      | 1 => dpResult w (if accessFailed w (fun y => (windowRead w 2 off [15] y).2) (dpAsked w false s) then 2 else 0) 1 ((windowRead w 2 off [15] (dpAsked w false s)).1.getD 0 0)
          (windowRead w 2 off [15] (dpAsked w false s)).2
      | 2 => dpResult w (if accessFailed w (windowWrite w 2 off [(15, v)]) (dpAsked w false s) then 2 else 0) 2 0 (windowWrite w 2 off [(15, v)] (dpAsked w false s))
      | _ => dpResult w 0 0 0 (dpAsked w false s) := by
  have hruns := dpAsked_hostRuns (w := w) (s := s) false
  unfold dpAsked portSelected at hruns
  rw [dpacc, scan_powered _ hpow, dpCaptured_present, if_neg Bool.false_ne_true, hruns]
  rfl

theorem dpResult_twis (w ack op data : Nat) (t : State) : ((dpResult w ack op data t).getTwis w).dpAck = ack ∧ ((dpResult w ack op data t).getTwis w).dpOp = op ∧
    ((dpResult w ack op data t).getTwis w).dpData = data ∧ ((dpResult w ack op data t).getTwis w).ir = (t.getTwis w).ir := by
  rw [dpResult, State.getTwis_modTwis_same]
  exact ⟨rfl, rfl, rfl, rfl⟩

/-- What the scan has shifted out stays sent. -/
theorem dpAsked_sent {m : Nat} {t : State} (h : Keeps m (dpAsked w false s) t) (ack op data : Nat) : .jtag w 64 (s.dpCaptured w false) ∈ (dpResult w ack op data t).out := by
  rw [dpResult, State.out_modTwis]
  exact h.out.subset List.mem_cons_self

/-- The result that an access of the window leaves for the next scan. -/
theorem dpResult_answers {m : Nat} {t : State} (h : Keeps m (dpAsked w false s) t) (failed : Bool) (op data : Nat) : let u := dpResult w (if failed then 2 else 0) op data t
    .jtag w 64 (s.dpCaptured w false) ∈ u.out ∧ (u.getTwis w).dpOp = op ∧ ((u.getTwis w).dpAck = 0 ∨ (u.getTwis w).dpAck = 2) ∧ (u.getTwis w).dpData = data := by
  obtain ⟨hack, hop, hdata, -⟩ := dpResult_twis w (if failed then 2 else 0) op data t
  refine ⟨dpAsked_sent h _ _ _, hop, ?_, hdata⟩
  rw [hack]
  cases failed <;> decide

end

end Sys2Proof.Machine

open Sys2Proof Sys2Proof.Machine

/-- Settles O55: every scan selects its instruction and shifts out on `portSelected`; an access carries on from what a DPACC scan has shifted out (`dpAsked`). -/
theorem prompterPort : Obligations.PrompterPort := by
  intro w s hpow shown
  refine ⟨⟨_, rfl, ?_⟩, fun ir hir => ⟨_, rfl, ?_⟩, fun pins cells => ⟨_, rfl, ?_⟩, ⟨_, rfl, jtagExtest_selects hpow⟩, ⟨_, rfl, ?_⟩, ?_, ⟨_, rfl, ?_⟩⟩
  · rw [scan_powered _ hpow]
    exact portSelected_shows w 2 32 idcode s
  · rw [jtagBypass_selects hpow hir]
    exact portSelected_shows w 0x1F 1 0 s
  · rw [scan_powered _ hpow]
    have htwis : (((portSelected w 1 s).modTwis w fun x => { x with cells := cells.toNat }).getTwis w) = { s.getTwis w with ir := 1, driving := false, cells := cells.toNat } := by
      rw [State.getTwis_modTwis_same, portSelected_twis]
      rfl
    exact ⟨portShows_emit (congrArg Twi.ir htwis) ((State.out_modTwis ..).trans (portSelected_out ..)) fun _ _ _ => (State.reg_modTwis ..).trans (State.reg_modTwis ..), congrArg Twi.cells htwis⟩
  · rw [scan_powered _ hpow, (present_keeps w s).aonStatus (by decide +kernel)]
    exact portSelected_shows w 9 64 _ s
  · intro asked s1
    refine ⟨fun hruns => ⟨_, rfl, ?_⟩, fun word v hruns => ⟨⟨_, rfl, ?_⟩, ⟨_, rfl, ?_⟩⟩, fun word v c hc => ?_, fun word v hruns c hc => ?_⟩
    · rw [dpacc_late hpow, if_neg (by simp [hruns])]
      obtain ⟨hack, hop, hdata, hir⟩ := dpResult_twis w 0 0 0 (dpAsked w false s)
      exact ⟨dpAsked_sent (.refl 0 _) 0 0 0, hir.trans (congrArg Twi.ir (dpAsked_twis false)), hack, hop, hdata⟩
    · rw [dpacc_late hpow, if_neg (by simp [hruns])]
      exact dpResult_answers (windowRead_keeps ..) _ _ _
    · rw [dpacc_late hpow, if_neg (by simp [hruns])]
      obtain ⟨hsent, hop, hack, -⟩ := dpResult_answers (windowWrite_keeps w 2 (word.toNat * 4) [(15, v.toNat)] (dpAsked w false s))
        (accessFailed w (windowWrite w 2 (word.toNat * 4) [(15, v.toNat)]) (dpAsked w false s)) 2 0
      exact ⟨hsent, hop, hack, fun _ _ _ _ _ => State.reg_modTwis ..⟩
    · have hearly : ∀ op off v, shown 8 64 (1 + (s.getTwis w).dpOp * 4) (dpacc w op off v true s) ∧ ((dpacc w op off v true s).getTwis w).dpAck = (s.getTwis w).dpAck ∧
          ((dpacc w op off v true s).getTwis w).dpOp = (s.getTwis w).dpOp ∧ ((dpacc w op off v true s).getTwis w).dpData = (s.getTwis w).dpData := fun op off v => by
        rw [dpacc_early hpow, dpAsked_twis]
        exact ⟨portSelected_shows w 8 64 _ s, rfl, rfl, rfl⟩
      simp only [List.mem_cons, List.not_mem_nil, or_false] at hc
      rcases hc with rfl | rfl | rfl
      all_goals exact ⟨_, rfl, hearly ..⟩
    · have hlate : ∀ op off v, shown 8 64 (3 + (s.getTwis w).dpOp * 4) (dpacc w op off v false s) ∧ ((dpacc w op off v false s).getTwis w).dpAck = 3 := fun op off v => by
        rw [dpacc_late hpow, if_pos hruns]
        obtain ⟨hack, -, -, hir⟩ := dpResult_twis w 3 op 0 (dpAsked w false s)
        obtain ⟨hsel, hout, hpresent, hregs⟩ := portSelected_shows w 8 64 (s.dpCaptured w false) s
        have hcaptured : s.dpCaptured w false = 3 + (s.getTwis w).dpOp * 4 := by simp [State.dpCaptured, hruns]
        exact ⟨⟨hir.trans hsel, (State.out_modTwis ..).trans (hcaptured ▸ hout), (State.rd_modTwis ..).trans hpresent,
          fun r x j hr hne => (State.reg_modTwis ..).trans (hregs r x j hr hne)⟩, hack⟩
      simp only [List.mem_cons, List.not_mem_nil, or_false] at hc
      rcases hc with rfl | rfl | rfl
      all_goals exact ⟨_, rfl, hlate ..⟩
  · rw [if_pos hpow]
    refine ⟨?_, fun hpath _ => ?_⟩
    · have hkeeps : Keeps 0x55098000000034c004600000000106005060000030920010400000020009000800000400000000000000278086e13 (setIr w 2 s) (portDetach w (setIr w 2 s)) := portDetach_keeps ..
      rw [hkeeps.getTwis (by decide +kernel), setIr, State.getTwis_modTwis_same]
    · rw [portDetach, setIr, if_pos ((State.rd_modTwis ..).trans hpath)]
      exact dbgDetach_detaches ..

end

section
/-!
PROOF. The two-wire bus: the wafer's target, and its controller (R684-R693).
-/
set_option Elab.async false
namespace Sys2Proof.Machine

/-! ## Bytes -/

theorem crcBitMsb_lt (c : Nat) : crcBitMsb 8 0x07 c < 2 ^ 8 := by
  have hshift : c * 2 % 2 ^ 8 < 2 ^ 8 := Nat.mod_lt _ (by decide)
  unfold crcBitMsb
  dsimp only
  split
  · exact Nat.xor_lt_two_pow hshift (by decide)
  · exact hshift

theorem iterate_crcBitMsb_lt (n c : Nat) : iterate (crcBitMsb 8 0x07) (n + 1) c < 2 ^ 8 := by
  induction n generalizing c with
  | zero => exact crcBitMsb_lt c
  | succ n ih => exact ih (crcBitMsb 8 0x07 c)

theorem crc8_lt (bs : List Nat) : crc8 bs < 2 ^ 8 := by
  have hrun : ∀ c < 2 ^ 8, crcMsb 8 0x07 c bs < 2 ^ 8 := by
    induction bs with
    | nil => exact fun c hc => hc
    | cons b bs ih => exact fun c _ => ih _ (iterate_crcBitMsb_lt 7 _)
  exact hrun 0 (by decide)

/-- A byte of a number of bytes. -/
theorem ofLeBytes_byte (l : List Nat) (k : Nat) : ofLeBytes l / 256 ^ k % 256 = l.getD k 0 % 256 := by
  induction l generalizing k with
  | nil => simp [ofLeBytes]
  | cons b l ih =>
    cases k with
    | zero => simp [ofLeBytes, Nat.add_mod]
    | succ k =>
      have htail : (b % 256 + 256 * ofLeBytes l) / 256 = ofLeBytes l := by omega
      rw [ofLeBytes, pow_succ', ← Nat.div_div_eq_div_mul, htail, ih, List.getD_cons_succ]

theorem ofLeBytes_lt (l : List Nat) : ofLeBytes l < 256 ^ l.length := by
  induction l with
  | nil => decide
  | cons b l ih => rw [ofLeBytes, List.length_cons, pow_succ]; omega

theorem getD_map_toNat (bs : List Byte) (i : Nat) : (bs.map BitVec.toNat).getD i 0 = (bs.getD i 0).toNat := List.getD_map bs 0 BitVec.toNat

/-! ## Registers that agree -/

theorem SameRegs.trans {but : List Reg} {s t u : State} (h1 : SameRegs but s t) (h2 : SameRegs but t u) : SameRegs but s u :=
  fun r w i hr hb => (h2 r w i hr hb).trans (h1 r w i hr hb)

section
variable {w : Nat} {s t u : State}

/-! ## The target (R684-R689) -/

/-- A transaction of the target has ended with a result that is counted. -/
def TgtEnded (w result : Nat) (f : Fld) (s t : State) : Prop :=
  t.rd TWI_TGT_STAT_LAST_RESULT w 0 = result ∧ t.rd f w 0 = satAdd f.width (s.rd f w 0) 1 ∧ SameRegs [TWI_TGT_STAT, TWI_TGT_EVENTS] s t ∧ t.out = s.out

/-- The results that are counted, and where. -/
def tgtCounted : List (Nat × Fld) := [(1, TWI_TGT_EVENTS_PEC_BAD), (2, TWI_TGT_EVENTS_BAD_CMD), (3, TWI_TGT_EVENTS_BAD_CMD), (5, TWI_TGT_EVENTS_DUP)]

theorem tgtEnd_eq {result : Nat} {f : Fld} (h : (result, f) ∈ tgtCounted) (s : State) : tgtEnd w result s = (s.wr TWI_TGT_STAT_LAST_RESULT w 0 result).bump f w 0 1 := by
  simp only [tgtCounted, List.mem_cons, Prod.mk.injEq, List.not_mem_nil, or_false] at h
  rcases h with ⟨rfl, rfl⟩ | ⟨rfl, rfl⟩ | ⟨rfl, rfl⟩ | ⟨rfl, rfl⟩
  all_goals rfl

theorem smcWake_sameRegs (w us : Nat) (s : State) : SameRegs [TWI_TGT_STAT] s (smcWake w us s) := (smcWake_keeps w us s).sameRegs _ (by decide +kernel)

theorem smcWake_out (w us : Nat) (s : State) : (smcWake w us s).out = s.out := by
  unfold smcWake
  split
  · rw [State.wrSat, State.out_wr, State.out_modTwis]
  · rfl

theorem smcWake_last (w us : Nat) (s : State) : ((smcWake w us s).getTwis w).last = (s.getTwis w).last := by
  unfold smcWake
  split
  · rw [State.wrSat, State.getTwis_wr, State.getTwis_modTwis_same]
  · rfl

theorem tgtEnd_ended {result : Nat} {f : Fld} (h : (result, f) ∈ tgtCounted) (hregs : SameRegs [TWI_TGT_STAT] s t) (hout : t.out = s.out) : TgtEnded w result f s (tgtEnd w result t) := by
  have hfld : f.reg = TWI_TGT_EVENTS ∧ result < 8 ∧ f.lo ≤ f.hi ∧ f.hi < 64 := (by decide : ∀ x ∈ tgtCounted, x.2.reg = TWI_TGT_EVENTS ∧ x.1 < 8 ∧ x.2.lo ≤ x.2.hi ∧ x.2.hi < 64) _ h
  obtain ⟨hreg, hresult, hlo, hhi⟩ := hfld
  have hid : TWI_TGT_STAT_LAST_RESULT.reg.id ≠ f.reg.id := by rw [hreg]; decide
  rw [tgtEnd_eq h]
  refine ⟨?_, ?_, fun r x i hr hb => ?_, ?_⟩
  · rw [State.bump, State.rd_wr_id _ _ _ _ _ _ _ _ hid, State.rd_wr_same _ _ _ _ _ (by decide) (by decide)]
    exact Nat.mod_eq_of_lt hresult
  · rw [State.rd_bump_same _ _ _ _ _ hlo hhi, State.rd_wr_id _ _ _ _ _ _ _ _ hid.symm, State.rd, hregs f.reg w 0 (by rw [hreg]; decide) (by rw [hreg]; decide), ← State.rd]
  · have hne : r.id ≠ TWI_TGT_STAT.id ∧ r.id ≠ TWI_TGT_EVENTS.id := by simpa using hb
    rw [State.bump, State.reg_wr_id _ _ _ _ _ _ _ _ (by rw [hreg]; exact hne.2), State.reg_wr_id _ _ _ _ _ _ _ _ hne.1]
    exact hregs r x i hr (by simpa using hne.1)
  · rw [State.bump, State.out_wr, State.out_wr, hout]

theorem smcWake_ended {us result : Nat} {f : Fld} (h : (result, f) ∈ tgtCounted) : TgtEnded w result f s (tgtEnd w result (smcWake w us s)) :=
  tgtEnd_ended h (smcWake_sameRegs w us s) (smcWake_out w us s)

/-- A command to a powered wafer whose host field runs, with its bytes in range. -/
theorem twiWrite_checked {us : Nat} {bs : List Nat} (pec : Option Nat) (hpow : (s.getWafers w).powered = true) (hruns : s.hostRuns w = true) (hok : writeOk bs = true) :
    twiWrite w 0x10 bs pec us s = if pec = some (crc8 (0x58 :: 0x10 :: bs)) ∨ (pec = none ∧ s.rd TWI_TGT_CFG_PEC_REQ w 0 = 0) then tgtWrite w bs (smcWake w us s)
      else tgtEnd w 1 (smcWake w us s) := by
  have hreq : (smcWake w us s).rd TWI_TGT_CFG_PEC_REQ w 0 = s.rd TWI_TGT_CFG_PEC_REQ w 0 := (smcWake_keeps ..).rd _ _ _ (by decide) (by decide +kernel)
  have hlt := s.rd_lt TWI_TGT_CFG_PEC_REQ w 0
  simp only [twiWrite, hpow, hruns, hok, hreq, Bool.true_eq_false, if_false, ne_eq, not_true]
  cases pec with
  | none =>
    have hbit : s.rd TWI_TGT_CFG_PEC_REQ w 0 = 1 ↔ ¬ s.rd TWI_TGT_CFG_PEC_REQ w 0 = 0 := by
      have : s.rd TWI_TGT_CFG_PEC_REQ w 0 < 2 := hlt
      omega
    simp [hbit]
  | some p => simp

theorem tgtWrite_repeats {bs : List Nat} (htag : bs.getD 1 0 ≠ 0) (hlast : (s.getTwis w).last = some (bs.getD 1 0, ofLeBytes ((bs.drop 2).take 3), bs.drop 6)) : tgtWrite w bs s = tgtEnd w 5 s :=
  if_pos ⟨htag, hlast⟩

/-- A WRITE that the window has carried out. -/
def tgtWritten (w : Nat) (bs : List Nat) (s : State) : State :=
  (windowWrite w 1 (ofLeBytes ((bs.drop 2).take 3)) ((dwords (bs.drop 6)).map fun v => (15, v)) s).modTwis w fun x =>
    { x with last := if bs.getD 1 0 = 0 then x.last else some (bs.getD 1 0, ofLeBytes ((bs.drop 2).take 3), bs.drop 6) }

theorem tgtWrite_writes {bs : List Nat} (hnew : bs.getD 1 0 = 0 ∨ (s.getTwis w).last ≠ some (bs.getD 1 0, ofLeBytes ((bs.drop 2).take 3), bs.drop 6)) :
    tgtWrite w bs s = (if bs.getD 1 0 = 0 then tgtWritten w bs s else (tgtWritten w bs s).wr TWI_TGT_STAT_LAST_TAG w 0 (bs.getD 1 0)).wr TWI_TGT_STAT_LAST_RESULT w 0 0 :=
  if_neg (by tauto)

theorem tgtWrite_shows {bs : List Nat} (hbyte : bs.getD 1 0 < 256)
    (hnew : bs.getD 1 0 = 0 ∨ (s.getTwis w).last ≠ some (bs.getD 1 0, ofLeBytes ((bs.drop 2).take 3), bs.drop 6)) : let t := tgtWrite w bs s
    t.rd TWI_TGT_STAT_LAST_RESULT w 0 = 0 ∧ SameRegs [TWI_TGT_STAT] (windowWrite w 1 (ofLeBytes ((bs.drop 2).take 3)) ((dwords (bs.drop 6)).map fun v => (15, v)) s) t ∧
      (bs.getD 1 0 ≠ 0 → (t.getTwis w).last = some (bs.getD 1 0, ofLeBytes ((bs.drop 2).take 3), bs.drop 6) ∧ t.rd TWI_TGT_STAT_LAST_TAG w 0 = bs.getD 1 0) := by
  dsimp only
  rw [tgtWrite_writes hnew]
  refine ⟨State.rd_wr_same _ _ _ _ _ (by decide) (by decide), fun r x i _ hb => ?_, fun htag => ?_⟩
  · have hne : r.id ≠ TWI_TGT_STAT.id := fun heq => hb (List.mem_singleton.mpr heq)
    rw [State.reg_wr_id _ _ _ _ _ _ _ _ hne, apply_ite (State.reg · r x i), State.reg_wr_id _ _ _ _ _ _ _ _ hne, ite_self, tgtWritten, State.reg_modTwis]
  · rw [if_neg htag, State.getTwis_wr, State.getTwis_wr, tgtWritten, State.getTwis_modTwis_same, if_neg htag,
      State.rd_wr_field _ _ TWI_TGT_STAT_LAST_TAG _ _ _ (by rfl) (by decide) (by decide) (by decide), State.rd_wr_same _ _ _ _ _ (by decide) (by decide)]
    exact ⟨rfl, Nat.mod_eq_of_lt hbyte⟩

theorem twiRead_answers {us : Nat} {bs : List Nat} (hpow : (s.getWafers w).powered = true) (hruns : s.hostRuns w = true) (hok : readOk bs = true) :
    twiRead w bs us s = (tgtEnd w 0 (windowRead w 1 (ofLeBytes ((bs.drop 1).take 3)) (List.replicate (bs.getD 5 0) 15) (smcWake w us s)).2).emit (.twi w
      ((4 * bs.getD 5 0 :: (windowRead w 1 (ofLeBytes ((bs.drop 1).take 3)) (List.replicate (bs.getD 5 0) 15) (smcWake w us s)).1.flatMap (leBytes 4)) ++
        [crc8 ([0x58, 0x11] ++ bs ++ [0x59] ++
          (4 * bs.getD 5 0 :: (windowRead w 1 (ofLeBytes ((bs.drop 1).take 3)) (List.replicate (bs.getD 5 0) 15) (smcWake w us s)).1.flatMap (leBytes 4)))])) := by
  simp only [twiRead, hpow, hruns, hok, Bool.true_eq_false, if_false]

/-- A stretched-out transaction, before it is raised. -/
def stretchEnded (w : Nat) (s : State) : State :=
  (((s.bump TWI_TGT_EVENTS_STRETCH_TO w 0 1).modWafers w fun x => { x with stretches := min 0xFFFF (x.stretches + 1) }).wr TWI_TGT_STAT_STATE w 0 0).wr TWI_TGT_STAT_LAST_RESULT w 0 4

theorem stretchTimeout_eq (hruns : s.hostRuns w = true) : stretchTimeout w s = (stretchEnded w s).raise w Leaf.stretchTimeout := if_neg (by simp [hruns])

theorem State.rd_modWafers (s : State) (k : Nat) (g : Wafer → Wafer) (f : Fld) (w i : Nat) : (s.modWafers k g).rd f w i = s.rd f w i := State.rd_putWafers ..

theorem stretchEnded_shows (w : Nat) (s : State) : (stretchEnded w s).rd TWI_TGT_STAT_LAST_RESULT w 0 = 4 ∧ (stretchEnded w s).rd TWI_TGT_STAT_STATE w 0 = 0 ∧
    (stretchEnded w s).rd TWI_TGT_EVENTS_STRETCH_TO w 0 = satAdd TWI_TGT_EVENTS_STRETCH_TO.width (s.rd TWI_TGT_EVENTS_STRETCH_TO w 0) 1 := by
  refine ⟨State.rd_wr_same _ _ _ _ _ (by decide) (by decide), ?_, ?_⟩
  · rw [stretchEnded, State.rd_wr_field _ _ TWI_TGT_STAT_STATE _ _ _ (by rfl) (by decide) (by decide) (by decide)]
    exact State.rd_wr_same _ _ _ _ _ (by decide) (by decide)
  · rw [stretchEnded, State.rd_wr_id _ _ _ _ _ _ _ _ (by decide), State.rd_wr_id _ _ _ _ _ _ _ _ (by decide), State.rd_modWafers, State.rd_bump_same _ _ _ _ _ (by decide) (by decide)]

theorem stretchEnded_keeps (w : Nat) (s : State) : Keeps (0x4000000000 ||| regBit TWI_TGT_STAT ||| regBit TWI_TGT_EVENTS) s (stretchEnded w s) :=
  .next (State.wr_keeps ..) (by decide +kernel) (.next (State.wr_keeps ..) (by decide +kernel) (.next (State.modWafers_keeps ..) (by decide +kernel)
    ((State.bump_keeps ..).widen (by decide +kernel))))

theorem stretchTimeout_shows (hruns : s.hostRuns w = true) : let t := stretchTimeout w s
    t.rd TWI_TGT_STAT_LAST_RESULT w 0 = 4 ∧ t.rd TWI_TGT_STAT_STATE w 0 = 0 ∧ t.leafSet w Leaf.stretchTimeout = true ∧
      t.rd TWI_TGT_EVENTS_STRETCH_TO w 0 = satAdd TWI_TGT_EVENTS_STRETCH_TO.width (s.rd TWI_TGT_EVENTS_STRETCH_TO w 0) 1 ∧ SameRegs (TWI_TGT_STAT :: TWI_TGT_EVENTS :: attentionRegs) s t := by
  have hraised := State.raise_keeps (stretchEnded w s) w Leaf.stretchTimeout
  obtain ⟨hresult, hstate, hcount⟩ := stretchEnded_shows w s
  dsimp only
  rw [stretchTimeout_eq hruns]
  exact ⟨(hraised.rd _ _ _ (by decide) (by decide +kernel)).trans hresult, (hraised.rd _ _ _ (by decide) (by decide +kernel)).trans hstate, State.raise_sets _ w _ (by decide),
    (hraised.rd _ _ _ (by decide) (by decide +kernel)).trans hcount, ((stretchEnded_keeps w s).trans hraised).sameRegs _ (by decide +kernel)⟩

/-! ## The controller (R691-R693) -/

/-- A transaction of the controller has ended with a result and a cause. -/
def CtrlEnded (w result : Nat) (leaf : Leaf) (t : State) : Prop :=
  t.rd TWI_CTRL_STAT_BUSY w 0 = 0 ∧ t.rd TWI_CTRL_STAT_RESULT w 0 = result ∧ t.leafSet w leaf = true

theorem ctrlEnd_shows {result nackAt : Nat} {leaf : Leaf} (hresult : result < 8) (hnack : nackAt < 64) (hb : leaf.b < 64) (s : State) :
    CtrlEnded w result leaf (ctrlEnd w result nackAt leaf s) ∧ (ctrlEnd w result nackAt leaf s).rd TWI_CTRL_STAT_NACK_AT w 0 = nackAt := by
  unfold CtrlEnded ctrlEnd
  rw [(State.raise_keeps ..).rd TWI_CTRL_STAT_BUSY _ _ (by decide) (by decide +kernel), (State.raise_keeps ..).rd TWI_CTRL_STAT_RESULT _ _ (by decide) (by decide +kernel),
    (State.raise_keeps ..).rd TWI_CTRL_STAT_NACK_AT _ _ (by decide) (by decide +kernel),
    State.rd_wr_field _ _ TWI_CTRL_STAT_BUSY _ _ _ (by rfl) (by decide) (by decide) (by decide), State.rd_wr_field _ _ TWI_CTRL_STAT_BUSY _ _ _ (by rfl) (by decide) (by decide) (by decide),
    State.rd_wr_same _ TWI_CTRL_STAT_BUSY _ _ _ (by decide) (by decide), State.rd_wr_field _ _ TWI_CTRL_STAT_RESULT _ _ _ (by rfl) (by decide) (by decide) (by decide),
    State.rd_wr_same _ TWI_CTRL_STAT_RESULT _ _ _ (by decide) (by decide), State.rd_wr_same _ TWI_CTRL_STAT_NACK_AT _ _ _ (by decide) (by decide)]
  exact ⟨⟨rfl, Nat.mod_eq_of_lt hresult, State.raise_sets _ w _ hb⟩, Nat.mod_eq_of_lt hnack⟩

theorem ctrlEnd_stuck (result nackAt : Nat) (leaf : Leaf) (s : State) : (ctrlEnd w result nackAt leaf s).rd TWI_CTRL_STAT_STUCK w 0 = s.rd TWI_CTRL_STAT_STUCK w 0 := by
  rw [ctrlEnd, (State.raise_keeps ..).rd _ _ _ (by decide) (by decide +kernel), State.rd_wr_field _ _ TWI_CTRL_STAT_STUCK _ _ _ (by rfl) (by decide) (by decide) (by decide),
    State.rd_wr_field _ _ TWI_CTRL_STAT_STUCK _ _ _ (by rfl) (by decide) (by decide) (by decide),
    State.rd_wr_field _ _ TWI_CTRL_STAT_STUCK _ _ _ (by rfl) (by decide) (by decide) (by decide)]

/-- A write of TWI_CTRL_CMD has been stored. -/
def cmdStored (w v : Nat) (s : State) : State := s.setReg TWI_CTRL_CMD w 0 (v &&& TWI_CTRL_CMD.rw)

/-- A transaction of the controller begins. -/
def ctrlBegun (w : Nat) (s : State) : State :=
  (((s.wr TWI_CTRL_STAT_BUSY w 0 1).wr TWI_CTRL_STAT_RESULT w 0 0).wr TWI_CTRL_STAT_NACK_AT w 0 0).wr TWI_CTRL_STAT_RETRIES w 0 0

theorem cmdStored_rd (w v : Nat) (s : State) {f : Fld} (h : f.reg.id ≠ TWI_CTRL_CMD.id) : (cmdStored w v s).rd f w 0 = s.rd f w 0 := State.rd_setReg_id _ _ _ _ _ _ _ _ h

/-- The written length, of the value written. -/
theorem cmdStored_shows (w v : Nat) (s : State) : (cmdStored w (v ||| 2 ^ 31) s).rd TWI_CTRL_CMD_WLEN w 0 = bits v 13 8 ∧
    (cmdStored w (v ||| 2 ^ 31) s).rd TWI_CTRL_CMD_RLEN w 0 = bits v 19 14 := by
  have hfld : ∀ hi lo, bits TWI_CTRL_CMD.rw hi lo = 2 ^ (hi + 1 - lo) - 1 → bits (2 ^ 31) hi lo = 0 → hi < 64 → bits ((cmdStored w (v ||| 2 ^ 31) s).reg TWI_CTRL_CMD w 0) hi lo = bits v hi lo :=
    fun hi lo hones hzero h64 => by rw [cmdStored, State.reg_setReg_same, bits_mod _ _ _ h64, bits_and_ones _ hones, bits_or_zeros _ hzero]
  exact ⟨hfld 13 8 (by decide) (by decide) (by decide), hfld 19 14 (by decide) (by decide) (by decide)⟩

theorem ctrlBegun_shows (w : Nat) (s : State) : (ctrlBegun w s).rd TWI_CTRL_STAT_BUSY w 0 = 1 ∧ (ctrlBegun w s).rd TWI_CTRL_STAT_RETRIES w 0 = 0 ∧
    (ctrlBegun w s).rd TWI_CTRL_STAT_STUCK w 0 = s.rd TWI_CTRL_STAT_STUCK w 0 := by
  have hother : ∀ (t : State) (f g : Fld) (v : Nat), g.reg = f.reg → f.lo ≤ f.hi → g.hi < 64 → g.hi < f.lo ∨ f.hi < g.lo → (t.wr f w 0 v).rd g w 0 = t.rd g w 0 :=
    fun t f g v => State.rd_wr_field t f g w 0 v
  rw [ctrlBegun]
  refine ⟨?_, State.rd_wr_same _ _ _ _ _ (by decide) (by decide), ?_⟩
  · rw [hother _ _ _ _ (by rfl) (by decide) (by decide) (by decide), hother _ _ _ _ (by rfl) (by decide) (by decide) (by decide),
      hother _ _ _ _ (by rfl) (by decide) (by decide) (by decide), State.rd_wr_same _ _ _ _ _ (by decide) (by decide)]
    rfl
  · rw [hother _ _ _ _ (by rfl) (by decide) (by decide) (by decide), hother _ _ _ _ (by rfl) (by decide) (by decide) (by decide),
      hother _ _ _ _ (by rfl) (by decide) (by decide) (by decide), hother _ _ _ _ (by rfl) (by decide) (by decide) (by decide)]

theorem ctrlBegun_rd (w : Nat) (s : State) {f : Fld} (h : f.reg.id ≠ TWI_CTRL_STAT.id) : (ctrlBegun w s).rd f w 0 = s.rd f w 0 := by
  rw [ctrlBegun, State.rd_wr_id _ _ _ _ _ _ _ _ h, State.rd_wr_id _ _ _ _ _ _ _ _ h, State.rd_wr_id _ _ _ _ _ _ _ _ h, State.rd_wr_id _ _ _ _ _ _ _ _ h]

theorem ctrlBegun_out (w : Nat) (s : State) : (ctrlBegun w s).out = s.out := by rw [ctrlBegun, State.out_wr, State.out_wr, State.out_wr, State.out_wr]

/-- The bytes that a transaction begins with. -/
def ctrlSent (w : Nat) (s : State) : List Nat :=
  if s.rd TWI_CTRL_CMD_WLEN w 0 = 0 then [] else ((List.range 8).flatMap fun i => leBytes 4 (s.reg TWI_CTRL_BUF w i)).take (s.rd TWI_CTRL_CMD_WLEN w 0)

theorem ctrlSent_length (w : Nat) (s : State) : (ctrlSent w s).length = min 32 (s.rd TWI_CTRL_CMD_WLEN w 0) := by
  have hbytes : ((List.range 8).flatMap fun i => leBytes 4 (s.reg TWI_CTRL_BUF w i)).length = 32 := by simp [List.length_flatMap, leBytes_length]
  unfold ctrlSent
  split
  · next h => rw [h]; rfl
  · rw [List.length_take, hbytes, Nat.min_comm]

theorem bitAt_go (v : Nat) : bitAt (v ||| 2 ^ 31) 31 = true := by rw [bitAt_or, bitAt_two_pow]; simp

/-- GO with no transaction in progress. -/
theorem twiCmd_go {v : Nat} (hbusy : s.rd TWI_CTRL_STAT_BUSY w 0 = 0) (hseg : s.rd TWI_CTRL_CFG_SEGMENT w 0 ≤ 8) :
    twiCmd w (v ||| 2 ^ 31) s = if bitAt (s.rd TWI_CTRL_STAT_STUCK w 0) (s.rd TWI_CTRL_CFG_SEGMENT w 0) then ctrlEnd w 4 0 Leaf.busStuck (ctrlBegun w (cmdStored w (v ||| 2 ^ 31) s))
      else (ctrlBegun w (cmdStored w (v ||| 2 ^ 31) s)).emit (.twi w (ctrlSent w (ctrlBegun w (cmdStored w (v ||| 2 ^ 31) s)))) := by
  have hstuck := (ctrlBegun_shows w (cmdStored w (v ||| 2 ^ 31) s)).2.2
  rw [cmdStored_rd _ _ _ (by decide)] at hstuck
  have hsegment : (cmdStored w (v ||| 2 ^ 31) s).rd TWI_CTRL_CFG_SEGMENT w 0 = s.rd TWI_CTRL_CFG_SEGMENT w 0 := cmdStored_rd _ _ _ (by decide)
  have hidle : (cmdStored w (v ||| 2 ^ 31) s).rd TWI_CTRL_STAT_BUSY w 0 = s.rd TWI_CTRL_STAT_BUSY w 0 := cmdStored_rd _ _ _ (by decide)
  rw [twiCmd, ← cmdStored, hsegment, hidle, if_neg (by rw [bitAt_go, hbusy]; simp; omega), ← hstuck]
  rfl

/-- GO while a transaction is in progress, or on no segment, is stored and discarded. -/
theorem twiCmd_discarded {v : Nat} (h : s.rd TWI_CTRL_STAT_BUSY w 0 = 1 ∨ 8 < s.rd TWI_CTRL_CFG_SEGMENT w 0) : twiCmd w v s = cmdStored w v s := by
  have hsegment : (cmdStored w v s).rd TWI_CTRL_CFG_SEGMENT w 0 = s.rd TWI_CTRL_CFG_SEGMENT w 0 := cmdStored_rd _ _ _ (by decide)
  have hidle : (cmdStored w v s).rd TWI_CTRL_STAT_BUSY w 0 = s.rd TWI_CTRL_STAT_BUSY w 0 := cmdStored_rd _ _ _ (by decide)
  rw [twiCmd, ← cmdStored, hsegment, hidle, if_pos (.inr h)]

/-- A byte put into the buffer. -/
theorem bufBytes_byte {bs : List Nat} (hbytes : ∀ b ∈ bs, b < 256) {i : Nat} (hi : i < bs.length) (s : State) : (bufBytes w bs s).reg TWI_CTRL_BUF w (i / 4) / 256 ^ (i % 4) % 256 = bs.getD i 0 := by
  have hword : ∀ (j : Nat) (t : State), ∀ k, k / 4 = j → k < bs.length →
      (t.setReg TWI_CTRL_BUF w j (ofLeBytes ((bs.drop (4 * j)).take 4 ++ (leBytes 4 (t.reg TWI_CTRL_BUF w j)).drop ((bs.drop (4 * j)).take 4).length))).reg TWI_CTRL_BUF w j / 256 ^ (k % 4) % 256 =
        bs.getD k 0 := fun j t k hk hlt => by
    have hlen : ((bs.drop (4 * j)).take 4 ++ (leBytes 4 (t.reg TWI_CTRL_BUF w j)).drop ((bs.drop (4 * j)).take 4).length).length = 4 := by
      simp only [List.length_append, List.length_take, List.length_drop, leBytes_length]
      omega
    have hget : ((bs.drop (4 * j)).take 4 ++ (leBytes 4 (t.reg TWI_CTRL_BUF w j)).drop ((bs.drop (4 * j)).take 4).length).getD (k % 4) 0 = bs.getD k 0 := by
      rw [List.getD_append _ _ _ _ (by simp only [List.length_take, List.length_drop]; omega), List.getD_eq_getElem?_getD, List.getElem?_take, if_pos (by omega), List.getElem?_drop,
        show 4 * j + k % 4 = k by omega, ← List.getD_eq_getElem?_getD]
    have hsmall : bs.getD k 0 < 256 := by
      rw [List.getD_eq_getElem _ _ hlt]
      exact hbytes _ (List.getElem_mem hlt)
    have hlt64 : ofLeBytes ((bs.drop (4 * j)).take 4 ++ (leBytes 4 (t.reg TWI_CTRL_BUF w j)).drop ((bs.drop (4 * j)).take 4).length) < 2 ^ 64 :=
      lt_of_lt_of_le (ofLeBytes_lt _) (by rw [hlen]; decide)
    rw [State.reg_setReg_same, Nat.mod_eq_of_lt hlt64, ofLeBytes_byte, hget, Nat.mod_eq_of_lt hsmall]
  exact forEach_establishes (Q := fun _ _ => True) (P := fun j t => ∀ k, k / 4 = j → k < bs.length → t.reg TWI_CTRL_BUF w j / 256 ^ (k % 4) % 256 = bs.getD k 0)
    (fun j t _ => hword j t) (fun _ _ _ _ _ => trivial) (fun _ _ _ hne h k hk hlt => by rw [State.reg_setReg_ne _ _ _ _ _ _ _ _ (.inr (.inr hne))]; exact h k hk hlt)
    List.nodup_range (fun _ _ => trivial) (i / 4) (List.mem_range.mpr (by omega)) i rfl hi

/-- The cause that the end of a transaction raises. -/
def ctrlLeaf (result : Nat) : Leaf := match result with | 1 => Leaf.ctrlNack | 2 => Leaf.ctrlNack | 3 => Leaf.arbLost | 4 => Leaf.busStuck | _ => Leaf.ctrlDone

theorem ctrlLeaf_lt (result : Nat) : (ctrlLeaf result).b < 64 := by
  unfold ctrlLeaf
  split <;> decide

/-- What the data of a transaction leaves of the buffer. -/
def ctrlFilled (w result : Nat) (data : List Nat) (s : State) : State :=
  if result = 0 then bufBytes w (data.take (min 32 (s.rd TWI_CTRL_CMD_RLEN w 0))) s else s

theorem ctrlDone_eq {result nackAt : Nat} {data : List Nat} (hbusy : s.rd TWI_CTRL_STAT_BUSY w 0 = 1) :
    ctrlDone w result nackAt data s = ctrlEnd w result (if result = 2 then nackAt else 0) (ctrlLeaf result) (ctrlFilled w result data s) := if_neg (by omega)

theorem ctrlDone_buffer {result nackAt : Nat} {data : List Nat} (hbusy : s.rd TWI_CTRL_STAT_BUSY w 0 = 1) (i : Nat) :
    (ctrlDone w result nackAt data s).reg TWI_CTRL_BUF w i = (ctrlFilled w result data s).reg TWI_CTRL_BUF w i := by
  rw [ctrlDone_eq hbusy]
  exact (ctrlEnd_keeps ..).regs _ _ _ (by decide) (by decide +kernel)

theorem ctrlFilled_byte {data : List Nat} (hbytes : ∀ b ∈ data, b < 256) {i : Nat} (hi : i < data.length) (h32 : i < 32) (hlen : i < s.rd TWI_CTRL_CMD_RLEN w 0) :
    (ctrlFilled w 0 data s).reg TWI_CTRL_BUF w (i / 4) / 256 ^ (i % 4) % 256 = data.getD i 0 := by
  rw [ctrlFilled, if_pos rfl, bufBytes_byte (fun b hb => hbytes b (List.mem_of_mem_take hb)) (by rw [List.length_take]; omega), List.getD_eq_getElem?_getD, List.getElem?_take,
    if_pos (by omega), ← List.getD_eq_getElem?_getD]

theorem arbLost_retries (hbusy : s.rd TWI_CTRL_STAT_BUSY w 0 = 1) (hretry : s.rd TWI_CTRL_STAT_RETRIES w 0 < s.rd TWI_CTRL_CFG_RETRY w 0) : let t := arbLost w s
    t.rd TWI_CTRL_STAT_BUSY w 0 = 1 ∧ t.rd TWI_CTRL_STAT_RETRIES w 0 = s.rd TWI_CTRL_STAT_RETRIES w 0 + 1 ∧ t.leafSet w Leaf.arbLost = true := by
  have hlt : s.rd TWI_CTRL_CFG_RETRY w 0 < 16 := s.rd_lt ..
  dsimp only
  rw [arbLost, if_neg (by omega), if_pos hretry, (State.raise_keeps ..).rd TWI_CTRL_STAT_BUSY _ _ (by decide) (by decide +kernel),
    (State.raise_keeps ..).rd TWI_CTRL_STAT_RETRIES _ _ (by decide) (by decide +kernel), State.rd_wr_field _ _ TWI_CTRL_STAT_BUSY _ _ _ (by rfl) (by decide) (by decide) (by decide),
    State.rd_wr_same _ _ _ _ _ (by decide) (by decide)]
  exact ⟨hbusy, Nat.mod_eq_of_lt (by change _ < 16; omega), State.raise_sets _ w _ (by decide)⟩

theorem arbLost_ends (hbusy : s.rd TWI_CTRL_STAT_BUSY w 0 = 1) (hretry : s.rd TWI_CTRL_CFG_RETRY w 0 ≤ s.rd TWI_CTRL_STAT_RETRIES w 0) : arbLost w s = ctrlEnd w 3 0 Leaf.arbLost s := by
  rw [arbLost, if_neg (by omega), if_neg (by omega)]

/-! ## Recoveries (R692) -/

theorem busRecovery_frees {seg : Nat} (hseg : seg < 9) (hstuck : bitAt (s.rd TWI_CTRL_STAT_STUCK w 0) seg = true) :
    bitAt ((busRecovery w seg true s).rd TWI_CTRL_STAT_STUCK w 0) seg = false := by
  have hlt : s.rd TWI_CTRL_STAT_STUCK w 0 &&& notBits 9 (2 ^ seg) < 2 ^ 9 := lt_of_le_of_lt Nat.and_le_left (s.rd_lt TWI_CTRL_STAT_STUCK w 0)
  have heq : busRecovery w seg true s = (s.wr TWI_CTRL_STAT_STUCK w 0 (s.rd TWI_CTRL_STAT_STUCK w 0 &&& notBits 9 (2 ^ seg))).modTwis w fun x =>
      { x with recoveries := x.recoveries.filter fun y => y.1 ≠ seg } := by
    rw [busRecovery, if_pos hstuck]
    rfl
  rw [heq, State.rd_modTwis, State.rd_wr_same _ _ _ _ _ (by decide) (by decide)]
  change bitAt ((s.rd TWI_CTRL_STAT_STUCK w 0 &&& notBits 9 (2 ^ seg)) % 2 ^ 9) seg = false
  rw [Nat.mod_eq_of_lt hlt, bitAt_and, bitAt_notBits _ hseg]
  simp

/-- The recoveries of the last second, with one more. -/
def recoveriesWith (w seg : Nat) (s : State) : List (Nat × Nat) := (seg, s.now) :: (s.getTwis w).recoveries.filter fun y => decide (s.now < y.2 + 1000000000)

/-- A recovery of a segment that is not STUCK, before it ends a transaction there. -/
def recoveryNoted (w seg : Nat) (s : State) : State :=
  let s1 := s.modTwis w fun x => { x with recoveries := recoveriesWith w seg s }
  if 3 ≤ ((recoveriesWith w seg s).filter fun y => y.1 = seg).length then s1.wr TWI_CTRL_STAT_STUCK w 0 (s.rd TWI_CTRL_STAT_STUCK w 0 ||| 2 ^ seg) else s1

theorem busRecovery_eq {seg : Nat} {ok : Bool} (hstuck : bitAt (s.rd TWI_CTRL_STAT_STUCK w 0) seg = false) : busRecovery w seg ok s =
    if (recoveryNoted w seg s).rd TWI_CTRL_STAT_BUSY w 0 = 1 ∧ (recoveryNoted w seg s).rd TWI_CTRL_CFG_SEGMENT w 0 = seg then ctrlEnd w 4 0 Leaf.busStuck (recoveryNoted w seg s)
    else recoveryNoted w seg s := by
  rw [busRecovery, if_neg (by rw [hstuck]; exact Bool.false_ne_true)]
  rfl

theorem recoveryNoted_rd (w seg : Nat) (s : State) : (recoveryNoted w seg s).rd TWI_CTRL_STAT_BUSY w 0 = s.rd TWI_CTRL_STAT_BUSY w 0 ∧
    (recoveryNoted w seg s).rd TWI_CTRL_CFG_SEGMENT w 0 = s.rd TWI_CTRL_CFG_SEGMENT w 0 := by
  unfold recoveryNoted
  dsimp only
  split
  · rw [State.rd_wr_field _ _ TWI_CTRL_STAT_BUSY _ _ _ (by rfl) (by decide) (by decide) (by decide), State.rd_wr_id _ _ _ _ _ _ _ _ (by decide), State.rd_modTwis, State.rd_modTwis]
    exact ⟨rfl, rfl⟩
  · rw [State.rd_modTwis, State.rd_modTwis]
    exact ⟨rfl, rfl⟩

theorem recoveriesWith_length (w seg : Nat) (s : State) : ((recoveriesWith w seg s).filter fun y => y.1 = seg).length =
    ((s.getTwis w).recoveries.filter fun y => y.1 = seg ∧ s.now < y.2 + 1000000000).length + 1 := by
  rw [recoveriesWith, List.filter_cons_of_pos (by simp), List.length_cons, List.filter_filter]
  simp only [Bool.decide_and]

theorem busRecovery_sticks {seg : Nat} {ok : Bool} (hseg : seg < 9) (hstuck : bitAt (s.rd TWI_CTRL_STAT_STUCK w 0) seg = false)
    (hthird : 2 ≤ ((s.getTwis w).recoveries.filter fun y => y.1 = seg ∧ s.now < y.2 + 1000000000).length) : bitAt ((busRecovery w seg ok s).rd TWI_CTRL_STAT_STUCK w 0) seg = true := by
  have hlt : s.rd TWI_CTRL_STAT_STUCK w 0 ||| 2 ^ seg < 2 ^ 9 := Nat.or_lt_two_pow (s.rd_lt TWI_CTRL_STAT_STUCK w 0) (Nat.pow_lt_pow_right (by decide) hseg)
  have hnoted : bitAt ((recoveryNoted w seg s).rd TWI_CTRL_STAT_STUCK w 0) seg = true := by
    rw [recoveryNoted, if_pos (by rw [recoveriesWith_length]; omega), State.rd_wr_same _ _ _ _ _ (by decide) (by decide)]
    change bitAt ((s.rd TWI_CTRL_STAT_STUCK w 0 ||| 2 ^ seg) % 2 ^ 9) seg = true
    rw [Nat.mod_eq_of_lt hlt, bitAt_or, bitAt_two_pow]
    simp
  rw [busRecovery_eq hstuck]
  split
  · rw [ctrlEnd_stuck]
    exact hnoted
  · exact hnoted

theorem busRecovery_ends {seg : Nat} {ok : Bool} (hstuck : bitAt (s.rd TWI_CTRL_STAT_STUCK w 0) seg = false) (hbusy : s.rd TWI_CTRL_STAT_BUSY w 0 = 1)
    (hsegment : s.rd TWI_CTRL_CFG_SEGMENT w 0 = seg) : busRecovery w seg ok s = ctrlEnd w 4 0 Leaf.busStuck (recoveryNoted w seg s) := by
  obtain ⟨hb, hs⟩ := recoveryNoted_rd w seg s
  rw [busRecovery_eq hstuck, if_pos ⟨hb.trans hbusy, hs.trans hsegment⟩]

end

end Sys2Proof.Machine

open Sys2Proof Sys2Proof.Machine

/-- Settles O54: the target's ends are counted alike (`tgtEnd_ended`), and so are the controller's (`ctrlEnd_shows`); the window's part is the window's own write and read. -/
theorem twoWireBus : Obligations.TwoWireBus := by
  constructor
  · intro w us s hpow s0 ended
    have hself : SameRegs [TWI_TGT_STAT] s s := fun _ _ _ _ _ => rfl
    refine ⟨fun cmd bytes pec => ?_, fun bytes => ?_, ⟨_, rfl, if_pos hpow⟩, fun hruns => ⟨_, rfl, stretchTimeout_shows hruns⟩, ⟨_, rfl, State.rd_wr_same _ _ _ _ _ (by decide) (by decide),
      fun r x i _ hb => State.reg_wr_id _ _ _ _ _ _ _ _ fun heq => hb (List.mem_singleton.mpr heq)⟩, fun hruns => ⟨_, rfl, ?_⟩⟩
    · intro bs c good tag off
      have hgood : pec.map BitVec.toNat = some (crc8 (0x58 :: 0x10 :: bs)) ∨ (pec.map BitVec.toNat = none ∧ s.rd TWI_TGT_CFG_PEC_REQ w 0 = 0) ↔ good := by
        refine or_congr ?_ (and_congr Option.map_eq_none_iff Iff.rfl)
        have hcrc : (BitVec.ofNat 8 (crc8 (0x58 :: 0x10 :: bs))).toNat = crc8 (0x58 :: 0x10 :: bs) := Nat.mod_eq_of_lt (crc8_lt _)
        cases pec with
        | none => simp
        | some p =>
          rw [Option.map_some, Option.some.injEq, Option.some.injEq]
          exact ⟨fun h => BitVec.eq_of_toNat_eq (h.trans hcrc.symm), fun h => (congrArg BitVec.toNat h).trans hcrc⟩
      have hchecked : cmd = 0x10 → s.hostRuns w = true → writeOk bs = true →
          twiWrite w cmd.toNat bs (pec.map BitVec.toNat) us.toNat s = if good then tgtWrite w bs s0 else tgtEnd w 1 s0 := by
        rintro rfl hruns hok
        refine (twiWrite_checked _ hpow hruns hok).trans ?_
        simp only [hgood]
        rfl
      have hbyte : tag < 256 := by
        rw [show tag = (bytes.getD 1 0).toNat from getD_map_toNat bytes 1]
        exact (bytes.getD 1 0).isLt
      refine ⟨fun hcmd => ⟨_, rfl, ?_⟩, fun hcmd hruns => ⟨_, rfl, ?_⟩, fun hcmd hruns hbad => ⟨_, rfl, ?_⟩, fun hcmd hruns hok hpec => ⟨_, rfl, ?_⟩,
        fun hcmd hruns hok hpec htag hlast => ⟨_, rfl, ?_⟩, fun hcmd hruns hok hpec hnew => ⟨_, rfl, ?_⟩⟩
      · have hne : cmd.toNat ≠ 0x10 := fun heq => hcmd (BitVec.eq_of_toNat_eq heq)
        have heq : twiWrite w cmd.toNat bs (pec.map BitVec.toNat) us.toNat s = tgtEnd w 2 s := by rw [twiWrite, if_neg (by simp [hpow]), if_pos hne]
        rw [heq]
        exact tgtEnd_ended (by decide) hself rfl
      · subst hcmd
        have heq : twiWrite w (0x10 : Byte).toNat bs (pec.map BitVec.toNat) us.toNat s = tgtEnd w 3 s := by rw [twiWrite, if_neg (by simp [hpow]), if_neg (by decide), if_pos hruns]
        rw [heq]
        exact tgtEnd_ended (by decide) hself rfl
      · subst hcmd
        have heq : twiWrite w (0x10 : Byte).toNat bs (pec.map BitVec.toNat) us.toNat s = tgtEnd w 2 s0 := by
          rw [twiWrite, if_neg (by simp [hpow]), if_neg (by decide), if_neg (by simp [hruns])]
          exact if_pos hbad
        rw [heq]
        exact smcWake_ended (by decide)
      · rw [hchecked hcmd hruns hok, if_neg hpec]
        exact smcWake_ended (by decide)
      · rw [hchecked hcmd hruns hok, if_pos hpec, tgtWrite_repeats htag ((smcWake_last ..).trans hlast)]
        exact smcWake_ended (by decide)
      · rw [hchecked hcmd hruns hok, if_pos hpec]
        exact tgtWrite_shows hbyte (hnew.imp_right fun h => (smcWake_last w us.toNat s).symm ▸ h)
    · intro bs
      refine ⟨fun hruns => ⟨_, rfl, ?_⟩, fun hruns hbad => ⟨_, rfl, ?_⟩, fun hruns hok => ⟨_, rfl, ?_⟩⟩
      · have heq : twiRead w bs us.toNat s = tgtEnd w 3 s := by rw [twiRead, if_neg (by simp [hpow]), if_pos hruns]
        rw [heq]
        exact tgtEnd_ended (by decide) hself rfl
      · have heq : twiRead w bs us.toNat s = tgtEnd w 2 s0 := by
          rw [twiRead, if_neg (by simp [hpow]), if_neg (by simp [hruns])]
          exact if_pos hbad
        rw [heq]
        exact smcWake_ended (by decide)
      · rw [twiRead_answers hpow hruns hok]
        exact ⟨(State.rd_emit ..).trans (State.rd_wr_same _ _ _ _ _ (by decide) (by decide)), rfl⟩
    · rw [if_pos hruns]
      exact ⟨congrArg Twi.asleep (State.getTwis_modTwis_same ..), fun _ _ _ _ _ => State.reg_modTwis ..⟩
  · intro w s busy seg stuck ended
    refine ⟨fun v => ⟨fun hbusy hseg hfree => ⟨_, rfl, ?_⟩, fun hbusy hseg hstuck => ⟨_, rfl, ?_⟩, fun h => ⟨_, rfl, ?_⟩⟩, fun result nackAt data hbusy => ⟨_, rfl, ?_⟩,
      fun hbusy hretry => ⟨_, rfl, arbLost_retries hbusy hretry⟩, fun hbusy hretry => ⟨_, rfl, ?_⟩,
      fun g ok => ⟨fun hstuck hok => ⟨_, rfl, ?_⟩, fun hfree hthird => ⟨_, rfl, busRecovery_sticks g.isLt hfree hthird⟩, fun hfree hbusy hseg => ⟨_, rfl, ?_⟩⟩⟩
    · obtain ⟨hbegun, hretries, -⟩ := ctrlBegun_shows w (cmdStored w (v.toNat ||| 2 ^ 31) s)
      obtain ⟨hwlen, hrlen⟩ := cmdStored_shows w v.toNat s
      have hcmd : ∀ f : Fld, f.reg.id ≠ TWI_CTRL_STAT.id → (ctrlBegun w (cmdStored w (v.toNat ||| 2 ^ 31) s)).rd f w 0 = (cmdStored w (v.toNat ||| 2 ^ 31) s).rd f w 0 := fun f => ctrlBegun_rd w _
      rw [twiCmd_go hbusy hseg, if_neg (by rw [hfree]; exact Bool.false_ne_true)]
      refine ⟨(State.rd_emit ..).trans hbegun, (State.rd_emit ..).trans hretries, (State.rd_emit ..).trans ((hcmd _ (by decide)).trans hwlen),
        (State.rd_emit ..).trans ((hcmd _ (by decide)).trans hrlen), _, ?_, (ctrlSent_length w _).trans (by rw [hcmd _ (by decide), hwlen])⟩
      rw [State.out_emit, ctrlBegun_out]
      rfl
    · rw [twiCmd_go hbusy hseg, if_pos hstuck]
      exact (ctrlEnd_shows (by decide) (by decide) (by decide) _).1
    · rw [twiCmd_discarded h]
      exact ⟨fun r x i _ hb => State.reg_setReg_id _ _ _ _ _ _ _ _ fun heq => hb (List.mem_singleton.mpr heq), rfl⟩
    · have hnack : (if result.val = 2 then nackAt.toNat else 0) < 64 := by
        split
        · exact nackAt.isLt
        · decide
      have hbuffer := ctrlDone_buffer (result := result) (nackAt := nackAt.toNat) (data := data.map BitVec.toNat) hbusy
      obtain ⟨hended, hat⟩ := ctrlEnd_shows (w := w) (show result.val < 8 by omega) hnack (ctrlLeaf_lt result) (ctrlFilled w result (data.map BitVec.toNat) s)
      rw [← ctrlDone_eq hbusy] at hended hat
      refine ⟨hended, fun h2 => hat.trans (if_pos (congrArg Fin.val h2)), fun i hzero hi h32 hlen => ?_, fun hne i => ?_⟩
      · subst hzero
        have hbytes : ∀ b ∈ data.map BitVec.toNat, b < 256 := fun b hb => by
          obtain ⟨x, -, rfl⟩ := List.mem_map.mp hb
          exact x.isLt
        rw [hbuffer]
        exact (ctrlFilled_byte hbytes (by simpa using hi) h32 hlen).trans (getD_map_toNat data i)
      · rw [hbuffer, ctrlFilled, if_neg (show ¬ result.val = 0 from fun h => hne (Fin.ext h))]
    · rw [arbLost_ends hbusy hretry]
      exact (ctrlEnd_shows (by decide) (by decide) (by decide) _).1
    · subst hok
      exact busRecovery_frees g.isLt hstuck
    · rw [busRecovery_ends hfree hbusy hseg]
      exact (ctrlEnd_shows (by decide) (by decide) (by decide) _).1

end

section
/-!
PROOF. Time: the RMCs' references and frames, and what a wafer's counter and quality make of a frame or a marker (R619-R628).
-/
set_option Elab.async false
namespace Sys2Proof.Machine

/-! ## Counters (R624, R627) -/

theorem Clock.read_lt (c : Clock) (now : Nat) : c.read now < 2 ^ 64 := ofInt_lt 64 _

/-- A natural number taken to `n` bits. -/
theorem ofInt_natCast (n v : Nat) : ofInt n (v : Int) = v % 2 ^ n := by
  unfold ofInt
  exact_mod_cast Int.toNat_natCast _

theorem Clock.read_at (c : Clock) (now : Nat) (h : c.setAt = now) : c.read now = ofInt 64 (now + c.offset) := by
  simp [Clock.read, h]

/-- A new adjustment does not move the counter. -/
theorem Clock.read_adjust (c : Clock) (now : Nat) (ppb : Int) (span : Nat) : (c.adjust now ppb span).read now = c.read now := by
  rw [Clock.read_at (c.adjust now ppb span) now rfl, Clock.adjust, add_sub_cancel, ofInt_natCast, Nat.mod_eq_of_lt (c.read_lt now)]

theorem Clock.read_slewBy (c : Clock) (now : Nat) (off : Int) (fast : Bool) : (c.slewBy now off fast).read now = c.read now := c.read_adjust ..

theorem Clock.read_stepBy (c : Clock) (now n : Nat) : (c.stepBy now n).read now = (c.read now + n) % 2 ^ 64 := by
  rw [Clock.read_at (c.stepBy now n) now rfl, Clock.stepBy]
  have hoff : (now : Int) + ((c.adjust now 0 0).offset + n) = ((c.read now + n : Nat) : Int) := by
    simp only [Clock.adjust]
    push_cast
    ring
  exact (congrArg (ofInt 64) hoff).trans (ofInt_natCast 64 _)

/-! ## The RMCs (R619-R622, R628) -/

section
variable {r : Nat} {off : Int} {s : State}

theorem State.getRmcs_modRmcs_same (s : State) (k : Nat) (g : Rmc → Rmc) : (s.modRmcs k g).getRmcs k = g (s.getRmcs k) := (s.getRmcs_putRmcs _ _ _).trans (if_pos rfl)

/-- An RMC's clock after it has followed its reference. -/
def Rmc.followed (armed : Bool) (now : Nat) (off : Int) (c : Clock) : Clock :=
  if ms1 < off then (if armed then c.adjust now 20000 off.natAbs else c.stepBy now off.natAbs) else c.slewBy now off true

/-- The run of close measurements. -/
def Rmc.run (x : Rmc) (now : Nat) (off : Int) : Option Nat := if off.natAbs ≤ 50 then some (x.lockRun.getD now) else none

/-- An RMC after a measurement of its reference. -/
def Rmc.measured (armed : Bool) (now : Nat) (off : Int) (x : Rmc) : Rmc :=
  { x with
    lockRun := x.run now off
    lastRef := now
    quality := if (match x.run now off with | some t => decide (t + 60000000000 ≤ now) | none => false) then 0 else if x.quality = 0 then 1 else x.quality
    clock := Rmc.followed armed now off x.clock }

theorem State.anySchedArmed_of_keeps {m : Nat} {t : State} (h : Keeps m s t) (hm : m.testBit (64 + NET_MGMT.id) = false ∧ m.testBit (64 + TB_STAT.id) = false) :
    t.anySchedArmed = s.anySchedArmed := by
  simp only [State.anySchedArmed, h.rd NET_MGMT_PLANNER_OK _ _ (by decide) hm.1, h.rd TB_STAT_SCHED_ARMED _ _ (by decide) hm.2]

theorem rmcMeasure_getRmcs (r : Nat) (off : Int) (s : State) : (rmcMeasure r off s).getRmcs r = (s.getRmcs r).measured s.anySchedArmed s.now off := by
  have harmed : ∀ x, (s.putRmcs r x).anySchedArmed = s.anySchedArmed := fun x => State.anySchedArmed_of_keeps (State.putRmcs_keeps ..) (by decide)
  unfold rmcMeasure rmcFollow
  dsimp only
  rw [State.getRmcs_modRmcs_same, harmed, State.getRmcs_putRmcs, if_pos rfl]
  simp only [decide_eq_true_eq]
  rfl

/-- What a measurement shows of an RMC. -/
def RmcMeasured (now : Nat) (armed : Bool) (off : Int) (x y : Rmc) : Prop :=
  y.lastRef = now ∧ y.lockRun = (if off.natAbs ≤ 50 then some (x.lockRun.getD now) else none) ∧
    (∀ a, x.lockRun = some a → off.natAbs ≤ 50 → a + 60000000000 ≤ now → y.quality = 0) ∧ (50 < off.natAbs → y.quality = if x.quality = 0 then 1 else x.quality) ∧
    (off ≤ 1000000 → y.clock.read now = x.clock.read now) ∧ (1000000 < off → armed = false → y.clock.read now = (x.clock.read now + off.natAbs) % 2 ^ 64) ∧
    (1000000 < off → armed = true → y.clock.read now = x.clock.read now ∧ y.clock.ppb = 20000)

theorem Rmc.measured_shows (armed : Bool) (now : Nat) (off : Int) (x : Rmc) : RmcMeasured now armed off x (x.measured armed now off) := by
  refine ⟨rfl, rfl, fun a ha hclose hrun => ?_, fun hfar => ?_, fun hnear => ?_, fun hfar harmed => ?_, fun hfar harmed => ?_⟩
  · have hsome : x.run now off = some a := by rw [Rmc.run, if_pos hclose, ha]; rfl
    simp [Rmc.measured, hsome, hrun]
  · have hnone : x.run now off = none := if_neg (by omega)
    simp [Rmc.measured, hnone]
  · have hslew : Rmc.followed armed now off x.clock = x.clock.slewBy now off true := if_neg (by unfold ms1; omega)
    exact (congrArg (Clock.read · now) hslew).trans (Clock.read_slewBy ..)
  · have hstep : Rmc.followed armed now off x.clock = x.clock.stepBy now off.natAbs := by rw [Rmc.followed, if_pos (show ms1 < off from hfar), harmed, if_neg Bool.false_ne_true]
    exact (congrArg (Clock.read · now) hstep).trans (Clock.read_stepBy ..)
  · have hadjust : Rmc.followed armed now off x.clock = x.clock.adjust now 20000 off.natAbs := by rw [Rmc.followed, if_pos (show ms1 < off from hfar), harmed, if_pos rfl]
    exact ⟨(congrArg (Clock.read · now) hadjust).trans (Clock.read_adjust ..), congrArg Clock.ppb hadjust⟩

/-- A measurement after the time of its own kind has been noted. -/
theorem rmcMeasure_noted (r : Nat) (off : Int) (s : State) {g : Rmc → Rmc} (hclock : (g (s.getRmcs r)).clock = (s.getRmcs r).clock) (hrun : (g (s.getRmcs r)).lockRun = (s.getRmcs r).lockRun)
    (hquality : (g (s.getRmcs r)).quality = (s.getRmcs r).quality) : RmcMeasured s.now s.anySchedArmed off (s.getRmcs r) ((rmcMeasure r off (s.modRmcs r g)).getRmcs r) := by
  have harmed : (s.modRmcs r g).anySchedArmed = s.anySchedArmed := State.anySchedArmed_of_keeps (State.putRmcs_keeps ..) (by decide)
  rw [rmcMeasure_getRmcs, State.getRmcs_modRmcs_same, harmed]
  have hshows := Rmc.measured_shows s.anySchedArmed s.now off (g (s.getRmcs r))
  unfold RmcMeasured at hshows ⊢
  rw [hclock, hrun, hquality] at hshows
  exact hshows

/-! ## Frames of the fan-out (R620, R621) -/

theorem crcBitMsb16_lt (c : Nat) : crcBitMsb 16 0x1021 c < 2 ^ 16 := by
  have hshift : c * 2 % 2 ^ 16 < 2 ^ 16 := Nat.mod_lt _ (by decide)
  unfold crcBitMsb
  dsimp only
  split
  · exact Nat.xor_lt_two_pow hshift (by decide)
  · exact hshift

theorem iterate_crcBitMsb16_lt (n c : Nat) : iterate (crcBitMsb 16 0x1021) (n + 1) c < 2 ^ 16 := by
  induction n generalizing c with
  | zero => exact crcBitMsb16_lt c
  | succ n ih => exact ih (crcBitMsb 16 0x1021 c)

theorem crc16_lt (bs : List Nat) : crc16 bs < 2 ^ 16 := by
  have hrun : ∀ c < 2 ^ 16, crcMsb 16 0x1021 c bs < 2 ^ 16 := by
    induction bs with
    | nil => exact fun c hc => hc
    | cons b bs ih => exact fun c _ => ih _ (iterate_crcBitMsb16_lt 7 _)
  exact hrun 0xFFFF (by decide)

/-- A frame's body is its payload. -/
theorem frameBody_timeFrame (typ : Nat) {payload : List Nat} {n : Nat} (hn : payload.length = n) : frameBody typ (n + 4) (timeFrame typ payload) = some payload := by
  have hlen : ([0xA5, typ] ++ payload).length = n + 2 := by simp [hn]
  have hcrc : ofLeBytes (leBytes 2 (crc16 ([0xA5, typ] ++ payload))) = crc16 ([0xA5, typ] ++ payload) := (ofLeBytes_leBytes ..).trans (Nat.mod_eq_of_lt (crc16_lt _))
  have hhead : (timeFrame typ payload).take (n + 2) = [0xA5, typ] ++ payload := by rw [timeFrame, List.take_left' hlen]
  have htail : (timeFrame typ payload).drop (n + 2) = leBytes 2 (crc16 ([0xA5, typ] ++ payload)) := by rw [timeFrame, List.drop_left' hlen]
  have hall : (timeFrame typ payload).length = n + 4 := by rw [timeFrame, List.length_append, hlen, leBytes_length]
  have hbody : ((timeFrame typ payload).drop 2).take n = payload := by
    rw [timeFrame, List.append_assoc]
    exact List.take_left' hn
  have hcut : n + 4 - 2 = n + 2 := rfl
  rw [frameBody, if_pos ⟨hall, rfl, by rw [hcut, htail, hhead, hcrc]⟩, Nat.add_sub_cancel, hbody]

/-- One emission for each element of a list. -/
theorem forEach_emits {α : Type} (e : α → Emit) (xs : List α) (s : State) : (forEach xs s fun x t => t.emit (e x)).out = (xs.map e).reverse ++ s.out := by
  induction xs generalizing s with
  | nil => rfl
  | cons x xs ih =>
    rw [List.map_cons, List.reverse_cons, List.append_assoc]
    exact ih (s.emit (e x))

/-- A TOD frame for a tray. -/
def todFor (step : Nat) (s : State) (tray : Nat) : List Nat :=
  leBytes 6 ((s.getRmcs s.fanRmc).clock.read s.now / 1000000000 + 1) ++ [(s.getRmcs s.fanRmc).quality + s.fanRmc * 4 +
    b2n (decide (tray < 36) && bitAt step tray && s.rd TB_STAT_SCHED_ARMED tray 0 == 0) * 8 + (s.getRmcs s.fanRmc).leaps * 16] ++
    leBytes 2 (s.getRmcs s.fanRmc).utc ++ leBytes 4 (min ((s.getRmcs s.fanRmc).bound s.now) 0xFFFFFFFF)

theorem todSend_out {step : Nat} (hactive : s.rack.planner.haveActive = true) :
    (todSend step s).out = ((List.range 44).map fun tray => .timeFrame tray (timeFrame 1 (todFor step s tray))).reverse ++ s.out := by
  rw [todSend, hactive, Bool.not_true, if_neg Bool.false_ne_true]
  exact forEach_emits (fun tray => .timeFrame tray (timeFrame 1 (todFor step s tray))) _ s

theorem todFor_length (step : Nat) (s : State) (tray : Nat) : (todFor step s tray).length = 13 := by simp [todFor, leBytes_length]

theorem todFor_seconds (step : Nat) (s : State) (tray : Nat) :
    ofLeBytes ((todFor step s tray).take 6) = ((s.getRmcs s.fanRmc).clock.read s.now / 1000000000 + 1) % 2 ^ 48 := by
  rw [todFor, List.append_assoc, List.append_assoc, List.take_left' (leBytes_length ..), ofLeBytes_leBytes]
  rfl

theorem todSend_frames {step : Nat} (hactive : s.rack.planner.haveActive = true) : (todSend step s).out.length = s.out.length + 44 ∧
    ∀ tray < 44, ∃ bs b, .timeFrame tray bs ∈ (todSend step s).out ∧ frameBody 1 17 bs = some b ∧
      ofLeBytes (b.take 6) = ((s.getRmcs s.fanRmc).clock.read s.now / 1000000000 + 1) % 2 ^ 48 := by
  rw [todSend_out hactive]
  exact ⟨by simp [Nat.add_comm], fun tray htray => ⟨_, _, List.mem_append_left _ (List.mem_reverse.mpr (List.mem_map.mpr ⟨tray, List.mem_range.mpr htray, rfl⟩)),
    frameBody_timeFrame 1 (todFor_length ..), todFor_seconds ..⟩⟩

theorem referenceLoss_shows (r : Nat) (s : State) : ((referenceLoss r s).getRmcs r).quality = (if (s.getRmcs r).quality = 0 then 1 else (s.getRmcs r).quality) ∧
    ((referenceLoss r s).getRmcs r).lockRun = none ∧ ((referenceLoss r s).getRmcs r).clock.read s.now = (s.getRmcs r).clock.read s.now := by
  rw [referenceLoss, State.getRmcs_modRmcs_same]
  exact ⟨rfl, rfl, Clock.read_adjust ..⟩

theorem markerSend_out (hactive : s.rack.planner.haveActive = true) : (markerSend s).out = .marker s.fanRmc :: s.out := by
  rw [markerSend, if_pos hactive]
  rfl

theorem boundExceeded_rmc {r : RmcId} (hbound : 1000000 < (s.getRmcs r).bound s.now) (hhold : (s.getRmcs r).quality = 1) : ((boundExceeded (.rmc r) s).getRmcs r).quality = 2 := by
  have hfree : boundExceeded (.rmc r) s = s.modRmcs r fun x => { x with quality := 2 } := if_pos (And.intro hbound hhold)
  rw [hfree, State.getRmcs_modRmcs_same]

end

/-! ## Clocks and registers of a wafer's timebase -/

section
variable {w : Nat} {s : State}

theorem State.getClocks_modClocks_same (s : State) (w : Nat) (g : Clock → Clock) : (s.modClocks w g).getClocks w = g (s.getClocks w) := (s.getClocks_putClocks _ _ _).trans (if_pos rfl)

theorem State.reg_modClocks (s : State) (k : Nat) (g : Clock → Clock) (r : Reg) (w i : Nat) : (s.modClocks k g).reg r w i = s.reg r w i := rfl
theorem State.rd_modClocks (s : State) (k : Nat) (g : Clock → Clock) (f : Fld) (w i : Nat) : (s.modClocks k g).rd f w i = s.rd f w i := rfl
theorem State.leafSet_modClocks (s : State) (k : Nat) (g : Clock → Clock) (w : Nat) (l : Leaf) : (s.modClocks k g).leafSet w l = s.leafSet w l := rfl

theorem State.tbNow_modClocks (s : State) (w : Nat) (g : Clock → Clock) : (s.modClocks w g).tbNow w = (g (s.getClocks w)).read s.now :=
  congrArg (Clock.read · s.now) (s.getClocks_modClocks_same w g)

theorem State.tbNow_of_keeps {m : Nat} {t : State} (h : Keeps m s t) (hm : m.testBit 7 = false) (w : Nat) : t.tbNow w = s.tbNow w := by rw [State.tbNow, h.getClocks hm, h.now]; rfl

/-- A change of clock that moves no counter. -/
theorem State.tbNow_modClocks_same (s : State) (w : Nat) {g : Clock → Clock} (h : (g (s.getClocks w)).read s.now = (s.getClocks w).read s.now) : (s.modClocks w g).tbNow w = s.tbNow w :=
  (s.tbNow_modClocks w g).trans h

/-- A marker's offset rests on the clock's seconds, the cable's delay and the counter. -/
theorem State.markerOffset_of {t : State} (hsecs : (t.getClocks w).todSeconds = (s.getClocks w).todSeconds) (hdelay : t.rd TB_DELAY_DELAY_NS w 0 = s.rd TB_DELAY_DELAY_NS w 0)
    (hnow : t.tbNow w = s.tbNow w) : t.markerOffset w = s.markerOffset w := by unfold State.markerOffset; rw [hsecs, hdelay, hnow]

/-! ## Changes of quality (R622, R626) -/

theorem setQuality_ends (w q src : Nat) (s : State) : Keeps (regBit TB_HOLD_START ||| 0x14c004600000000000000000000000000000000000000000000000000000000000000000000000010)
    ((s.wr TB_STAT_QUALITY w 0 q).wr TB_STAT_HOLD_SRC w 0 src) (setQuality w q src s) := by
  have hstart := Keeps.ite (p := s.rd TB_STAT_QUALITY w 0 = 0 ∧ q ≠ 0)
    (((s.wr TB_STAT_QUALITY w 0 q).wr TB_STAT_HOLD_SRC w 0 src).setReg_keeps TB_HOLD_START w 0 (s.getClocks w).lastLocked) (Keeps.refl (regBit TB_HOLD_START) _)
  unfold setQuality
  exact .ite (hstart.widen (by decide +kernel)) (.next (State.raise_keeps ..) (by decide +kernel) (hstart.widen (by decide +kernel)))

/-- The fields of TB_STAT other than QUALITY and HOLD_SRC. -/
theorem setQuality_stat (w q src : Nat) (s : State) {g : Fld} (hr : g.reg = TB_STAT) (hg : (1 < g.lo ∧ g.hi < 4) ∨ (5 < g.lo ∧ g.hi < 64)) : (setQuality w q src s).rd g w 0 = s.rd g w 0 := by
  have hhi : g.hi < 64 := by omega
  have hid : g.reg.id = 261 := congrArg Reg.id hr
  calc (setQuality w q src s).rd g w 0 = ((s.wr TB_STAT_QUALITY w 0 q).wr TB_STAT_HOLD_SRC w 0 src).rd g w 0 := (setQuality_ends w q src s).rd g w 0 (by rw [hid]; decide) (by rw [hid]; decide +kernel)
    _ = (s.wr TB_STAT_QUALITY w 0 q).rd g w 0 := State.rd_wr_field _ _ _ _ _ _ hr (by decide) hhi (by simp only [TB_STAT_HOLD_SRC]; omega)
    _ = s.rd g w 0 := State.rd_wr_field _ _ _ _ _ _ hr (by decide) hhi (by simp only [TB_STAT_QUALITY]; omega)

theorem setQuality_holdSrc (w q : Nat) {src : Nat} (hsrc : src < 4) (s : State) : (setQuality w q src s).rd TB_STAT_HOLD_SRC w 0 = src := by
  rw [(setQuality_ends w q src s).rd _ _ _ (by decide) (by decide +kernel), State.rd_wr_same _ _ _ _ _ (by decide) (by decide)]
  exact Nat.mod_eq_of_lt hsrc

theorem setQuality_raises (w : Nat) {q : Nat} (src : Nat) (hchange : s.rd TB_STAT_QUALITY w 0 ≠ q) : (setQuality w q src s).leafSet w Leaf.quality = true := by
  rw [setQuality, if_neg hchange]
  exact State.raise_sets _ _ _ (by decide)

theorem setQuality_leaves (w q src : Nat) (s : State) : KeepsLeaves w s (setQuality w q src s) := by
  have hfields : KeepsLeaves w s ((s.wr TB_STAT_QUALITY w 0 q).wr TB_STAT_HOLD_SRC w 0 src) := .of_keeps ((State.wr_keeps ..).trans (State.wr_keeps ..)) (by decide +kernel)
  have hstart := hfields.trans (.ite (p := s.rd TB_STAT_QUALITY w 0 = 0 ∧ q ≠ 0)
    (.of_keeps (State.setReg_keeps _ TB_HOLD_START w 0 (s.getClocks w).lastLocked) (by decide +kernel)) (.refl w _))
  unfold setQuality
  exact .ite hstart (hstart.raise _)

theorem setQuality_getClocks (w q src : Nat) (s : State) (k : Nat) : (setQuality w q src s).getClocks k = s.getClocks k := (setQuality_keeps ..).getClocks (by decide +kernel) k

/-! ## Frames (R620-R622, R626) -/

theorem todFrame_bad (w : Nat) {bs : List Nat} (s : State) (hbad : frameBody 1 17 bs = none) :
    (todFrame w bs s).rd TB_EVENTS_FRAME_ERR w 0 = satAdd TB_EVENTS_FRAME_ERR.width (s.rd TB_EVENTS_FRAME_ERR w 0) 1 ∧ SameRegs [TB_EVENTS] s (todFrame w bs s) := by
  have hcount : todFrame w bs s = s.bump TB_EVENTS_FRAME_ERR w 0 1 := by rw [todFrame, hbad]
  rw [hcount]
  exact ⟨State.rd_bump_same _ _ _ _ _ (by decide) (by decide), (State.bump_keeps ..).sameRegs _ (by decide +kernel)⟩

/-- A wafer after the fields of a sound frame. -/
def todTaken (w : Nat) (b : List Nat) (s : State) : State :=
  (((s.modClocks w fun c => { c with
      todSince := true, todAt := some (s.tbNow w), todSeconds := ofLeBytes (b.take 6), todStep := bitAt (b.getD 6 0) 3, todUtc := ofLeBytes ((b.drop 7).take 2) + bits (b.getD 6 0) 5 4 * 2 ^ 16
      rmcBound := ofLeBytes ((b.drop 9).take 4) }).wr TB_STAT_TOD_OK w 0 1).wr TB_STAT_RMC_ID w 0 (bits (b.getD 6 0) 2 2)).wr TB_STAT_RMC_QUALITY w 0 (b.getD 6 0 % 4)

theorem todFrame_eq (w : Nat) {bs b : List Nat} (s : State) (hbody : frameBody 1 17 bs = some b) :
    todFrame w bs s = if (todTaken w b s).rd TB_STAT_QUALITY w 0 = 0 ∧ b.getD 6 0 % 4 ≠ 0 then setQuality w 1 1 (todTaken w b s) else todTaken w b s := by
  rw [todFrame, hbody]
  rfl

theorem todTaken_shows (w : Nat) (b : List Nat) (s : State) : (todTaken w b s).rd TB_STAT_TOD_OK w 0 = 1 ∧ (todTaken w b s).rd TB_STAT_RMC_QUALITY w 0 = b.getD 6 0 % 4 ∧
    (todTaken w b s).rd TB_STAT_QUALITY w 0 = s.rd TB_STAT_QUALITY w 0 ∧ ((todTaken w b s).getClocks w).todSeconds = ofLeBytes (b.take 6) ∧ ((todTaken w b s).getClocks w).todSince = true := by
  have hclock := s.getClocks_modClocks_same w fun c => { c with
      todSince := true, todAt := some (s.tbNow w), todSeconds := ofLeBytes (b.take 6), todStep := bitAt (b.getD 6 0) 3, todUtc := ofLeBytes ((b.drop 7).take 2) + bits (b.getD 6 0) 5 4 * 2 ^ 16
      rmcBound := ofLeBytes ((b.drop 9).take 4) }
  unfold todTaken
  refine ⟨?_, ?_, ?_, ?_, ?_⟩
  · rw [State.rd_wr_field _ _ _ _ _ _ (by rfl) (by decide) (by decide) (by decide), State.rd_wr_field _ _ _ _ _ _ (by rfl) (by decide) (by decide) (by decide),
      State.rd_wr_same _ _ _ _ _ (by decide) (by decide)]
    rfl
  · rw [State.rd_wr_same _ _ _ _ _ (by decide) (by decide)]
    exact Nat.mod_mod _ 4
  · rw [State.rd_wr_field _ _ _ _ _ _ (by rfl) (by decide) (by decide) (by decide), State.rd_wr_field _ _ _ _ _ _ (by rfl) (by decide) (by decide) (by decide),
      State.rd_wr_field _ _ _ _ _ _ (by rfl) (by decide) (by decide) (by decide), State.rd_modClocks]
  · rw [State.getClocks_wr, State.getClocks_wr, State.getClocks_wr, hclock]
  · rw [State.getClocks_wr, State.getClocks_wr, State.getClocks_wr, hclock]

theorem todFrame_sound (w : Nat) {bs b : List Nat} (s : State) (hbody : frameBody 1 17 bs = some b) :
    (todFrame w bs s).rd TB_STAT_TOD_OK w 0 = 1 ∧ (todFrame w bs s).rd TB_STAT_RMC_QUALITY w 0 = b.getD 6 0 % 4 ∧ ((todFrame w bs s).getClocks w).todSeconds = ofLeBytes (b.take 6) ∧
    ((todFrame w bs s).getClocks w).todSince = true ∧ (s.rd TB_STAT_QUALITY w 0 = 0 → b.getD 6 0 % 4 ≠ 0 →
      (todFrame w bs s).rd TB_STAT_QUALITY w 0 = 1 ∧ (todFrame w bs s).rd TB_STAT_HOLD_SRC w 0 = 1 ∧ (todFrame w bs s).leafSet w Leaf.quality = true) := by
  obtain ⟨hok, hrmc, hquality, hsecs, hsince⟩ := todTaken_shows w b s
  rw [todFrame_eq w s hbody]
  split_ifs with hends
  · refine ⟨(setQuality_stat _ _ _ _ rfl (by decide)).trans hok, (setQuality_stat _ _ _ _ rfl (by decide)).trans hrmc, ?_, ?_, fun _ _ => ⟨setQuality_shows _ _ (by decide) _,
      setQuality_holdSrc _ _ (by decide) _, setQuality_raises _ _ (by rw [hends.1]; decide)⟩⟩
    · rw [setQuality_getClocks, hsecs]
    · rw [setQuality_getClocks, hsince]
  · exact ⟨hok, hrmc, hsecs, hsince, fun hlocked hq => absurd ⟨hquality.trans hlocked, hq⟩ hends⟩

/-! ## Markers lost (R624, R626) -/

theorem showSlew_stat (w : Nat) (b : Bool) (s : State) {g : Fld} (hr : g.reg = TB_STAT) (hg : g.hi < 6 ∨ (6 < g.lo ∧ g.hi < 64)) : (showSlew w b s).rd g w 0 = s.rd g w 0 := by
  have hid : g.reg.id = 261 := congrArg Reg.id hr
  rw [showSlew, State.rd_wr_field _ _ _ _ _ _ hr (by decide) (by omega) (by simp only [TB_STAT_SLEWING]; omega), State.rd_setReg_id _ _ _ _ _ _ _ _ (by rw [hid]; decide)]

theorem showSlew_getClocks (w : Nat) (b : Bool) (s : State) (k : Nat) : (showSlew w b s).getClocks k = s.getClocks k := (showSlew_keeps ..).getClocks (by decide +kernel) k

theorem slew_stat (w : Nat) (off : Int) (fast : Bool) (s : State) {g : Fld} (hr : g.reg = TB_STAT) (hg : g.hi < 6 ∨ (6 < g.lo ∧ g.hi < 64)) : (slew w off fast s).rd g w 0 = s.rd g w 0 :=
  (showSlew_stat w _ _ hr hg).trans (State.rd_modClocks ..)

theorem slew_getClocks (w : Nat) (off : Int) (fast : Bool) (s : State) : (slew w off fast s).getClocks w = (s.getClocks w).slewBy s.now off fast := by
  rw [slew, showSlew_getClocks, State.getClocks_modClocks_same]

/-- A wafer that has counted a missed marker. -/
def markerMissed (w : Nat) (s : State) : State :=
  ((s.bump TB_EVENTS_MISSED w 0 1).wr TB_STAT_PPS_OK w 0 0).putClocks w { s.getClocks w with missed := (s.getClocks w).missed + 1 }

/-- A wafer that has raised the second missed marker in a row. -/
def ppsGone (w : Nat) (s : State) : State :=
  (showSlew w false (((markerMissed w s).modClocks w fun c => { (c.adjust s.now 0 0) with acquired := false }).raise w Leaf.ppsLost)).wr TB_STAT_TOD_OK w 0 (b2n (s.getClocks w).todSince)

theorem markerLost_eq (w : Nat) (s : State) : markerLost w s =
    if (s.getClocks w).missed + 1 = 2 then (if (ppsGone w s).rd TB_STAT_QUALITY w 0 = 2 then ppsGone w s else setQuality w 1 2 (ppsGone w s)) else markerMissed w s := rfl

theorem markerMissed_shows (w : Nat) (s : State) :
    (markerMissed w s).rd TB_EVENTS_MISSED w 0 = satAdd TB_EVENTS_MISSED.width (s.rd TB_EVENTS_MISSED w 0) 1 ∧ (markerMissed w s).rd TB_STAT_PPS_OK w 0 = 0 ∧
    (markerMissed w s).rd TB_STAT_QUALITY w 0 = s.rd TB_STAT_QUALITY w 0 := by
  unfold markerMissed
  simp only [State.rd_putClocks]
  refine ⟨?_, ?_, ?_⟩
  · rw [State.rd_wr_id _ _ _ _ _ _ _ _ (by decide), State.rd_bump_same _ _ _ _ _ (by decide) (by decide)]
  · rw [State.rd_wr_same _ _ _ _ _ (by decide) (by decide)]
    rfl
  · rw [State.rd_wr_field _ _ _ _ _ _ (by rfl) (by decide) (by decide) (by decide), State.bump, State.rd_wr_id _ _ _ _ _ _ _ _ (by decide)]

theorem ppsGone_shows (w : Nat) (s : State) :
    (ppsGone w s).rd TB_EVENTS_MISSED w 0 = satAdd TB_EVENTS_MISSED.width (s.rd TB_EVENTS_MISSED w 0) 1 ∧ (ppsGone w s).rd TB_STAT_PPS_OK w 0 = 0 ∧
    (ppsGone w s).rd TB_STAT_QUALITY w 0 = s.rd TB_STAT_QUALITY w 0 ∧ (ppsGone w s).leafSet w Leaf.ppsLost = true ∧ ((ppsGone w s).getClocks w).acquired = false := by
  obtain ⟨hmissed, hpps, hquality⟩ := markerMissed_shows w s
  have hraised := State.raise_keeps ((markerMissed w s).modClocks w fun c => { (c.adjust s.now 0 0) with acquired := false }) w Leaf.ppsLost
  unfold ppsGone
  refine ⟨?_, ?_, ?_, ?_, ?_⟩
  · rw [State.rd_wr_id _ _ _ _ _ _ _ _ (by decide), (showSlew_keeps ..).rd _ _ _ (by decide) (by decide +kernel), hraised.rd _ _ _ (by decide) (by decide +kernel), State.rd_modClocks, hmissed]
  · rw [State.rd_wr_field _ _ _ _ _ _ (by rfl) (by decide) (by decide) (by decide), showSlew_stat _ _ _ rfl (by decide), hraised.rd _ _ _ (by decide) (by decide +kernel), State.rd_modClocks, hpps]
  · rw [State.rd_wr_field _ _ _ _ _ _ (by rfl) (by decide) (by decide) (by decide), showSlew_stat _ _ _ rfl (by decide), hraised.rd _ _ _ (by decide) (by decide +kernel), State.rd_modClocks, hquality]
  · rw [State.leafSet_of_keeps (State.wr_keeps ..) (by decide +kernel), State.leafSet_of_keeps (showSlew_keeps ..) (by decide +kernel)]
    exact State.raise_sets _ _ _ (by decide)
  · rw [State.getClocks_wr, showSlew_getClocks, hraised.getClocks (by decide +kernel), State.getClocks_modClocks_same]

/-- What a missing or unusable marker shows. -/
def MarkerMissed (w : Nat) (s t : State) : Prop :=
  t.rd TB_EVENTS_MISSED w 0 = satAdd TB_EVENTS_MISSED.width (s.rd TB_EVENTS_MISSED w 0) 1 ∧ t.rd TB_STAT_PPS_OK w 0 = 0 ∧
    ((s.getClocks w).missed = 1 → t.leafSet w Leaf.ppsLost = true ∧ (t.getClocks w).acquired = false ∧ (s.rd TB_STAT_QUALITY w 0 ≠ 2 → t.rd TB_STAT_QUALITY w 0 = 1 ∧ t.rd TB_STAT_HOLD_SRC w 0 = 2))

theorem markerLost_shows (w : Nat) (s : State) : MarkerMissed w s (markerLost w s) := by
  obtain ⟨hmissed, hpps, hquality, hleaf, hacquired⟩ := ppsGone_shows w s
  unfold MarkerMissed
  rw [markerLost_eq]
  split_ifs with htwo hfree
  · exact ⟨hmissed, hpps, fun _ => ⟨hleaf, hacquired, fun hnot => absurd (hquality ▸ hfree) hnot⟩⟩
  · have hends := setQuality_keeps w 1 2 (ppsGone w s)
    refine ⟨(hends.rd _ _ _ (by decide) (by decide +kernel)).trans hmissed, (setQuality_stat _ _ _ _ rfl (by decide)).trans hpps, fun _ => ⟨?_, ?_, fun _ => ⟨setQuality_shows _ _ (by decide) _,
      setQuality_holdSrc _ _ (by decide) _⟩⟩⟩
    · exact (setQuality_leaves w 1 2 _).set _ (by decide) hleaf
    · rw [setQuality_getClocks, hacquired]
  · obtain ⟨h1, h2, -⟩ := markerMissed_shows w s
    exact ⟨h1, h2, fun hone => absurd (congrArg (· + 1) hone) htwo⟩

/-! ## The stages of a marker (R625, R627) -/

theorem setQuality_tbNow (w q src : Nat) (s : State) : (setQuality w q src s).tbNow w = s.tbNow w := State.tbNow_of_keeps (setQuality_keeps ..) (by decide +kernel) w

theorem slew_tbNow (w : Nat) (off : Int) (fast : Bool) (s : State) : (slew w off fast s).tbNow w = s.tbNow w :=
  (State.tbNow_of_keeps (showSlew_keeps ..) (by decide +kernel) w).trans (s.tbNow_modClocks_same w (Clock.read_slewBy ..))

/-- The registers of a marker that what follows it leaves alone. -/
structure SameMarkerRegs (w : Nat) (s t : State) : Prop where
  offset : t.reg TB_OFFSET w 0 = s.reg TB_OFFSET w 0
  pps : t.rd TB_STAT_PPS_OK w 0 = s.rd TB_STAT_PPS_OK w 0
  reacquired : t.rd TB_EVENTS_REACQ w 0 = s.rd TB_EVENTS_REACQ w 0

theorem SameMarkerRegs.trans {t u : State} (h1 : SameMarkerRegs w s t) (h2 : SameMarkerRegs w t u) : SameMarkerRegs w s u :=
  ⟨h2.offset.trans h1.offset, h2.pps.trans h1.pps, h2.reacquired.trans h1.reacquired⟩

theorem setQuality_markerRegs (w q src : Nat) (s : State) : SameMarkerRegs w s (setQuality w q src s) :=
  ⟨(setQuality_keeps ..).regs _ _ _ (by decide) (by decide +kernel), setQuality_stat _ _ _ _ rfl (by decide), (setQuality_keeps ..).rd _ _ _ (by decide) (by decide +kernel)⟩

theorem slew_markerRegs (w : Nat) (off : Int) (fast : Bool) (s : State) : SameMarkerRegs w s (slew w off fast s) :=
  ⟨(slew_keeps ..).regs _ _ _ (by decide) (by decide +kernel), slew_stat _ _ _ _ rfl (by decide), (slew_keeps ..).rd _ _ _ (by decide) (by decide +kernel)⟩

theorem State.modClocks_markerRegs (w : Nat) (g : Clock → Clock) (s : State) : SameMarkerRegs w s (s.modClocks w g) := ⟨rfl, rfl, rfl⟩

theorem State.stepWait_markerRegs (w v : Nat) (s : State) : SameMarkerRegs w s (s.wr TB_STAT_STEP_WAIT w 0 v) :=
  ⟨State.reg_wr_id _ _ _ _ _ _ _ _ (by decide), State.rd_wr_field _ _ _ _ _ _ (by rfl) (by decide) (by decide) (by decide), State.rd_wr_id _ _ _ _ _ _ _ _ (by decide)⟩

/-- A wafer that follows, with a usable marker's offset shown. -/
def markerShown (w : Nat) (off : Int) (s : State) : State :=
  ((s.setReg TB_OFFSET w 0 (satOffset off)).wr TB_STAT_PPS_OK w 0 1).modClocks w fun c => { c with missed := 0, lastOffset := off }

theorem satOffset_lt (off : Int) : satOffset off < 2 ^ 64 := (ofInt_lt 32 _).trans (by decide)

theorem markerShown_shows (w : Nat) (off : Int) (s : State) : (markerShown w off s).reg TB_OFFSET w 0 = satOffset off ∧ (markerShown w off s).rd TB_STAT_PPS_OK w 0 = 1 ∧
    ((markerShown w off s).getClocks w).missed = 0 ∧ (markerShown w off s).tbNow w = s.tbNow w ∧ (markerShown w off s).rd TB_STAT_RMC_QUALITY w 0 = s.rd TB_STAT_RMC_QUALITY w 0 := by
  unfold markerShown
  refine ⟨?_, ?_, ?_, ?_, ?_⟩
  · rw [State.reg_modClocks, State.reg_wr_id _ _ _ _ _ _ _ _ (by decide), State.reg_setReg_same, Nat.mod_eq_of_lt (satOffset_lt off)]
  · rw [State.rd_modClocks, State.rd_wr_same _ _ _ _ _ (by decide) (by decide)]
    rfl
  · rw [State.getClocks_modClocks_same]
  · exact (State.tbNow_modClocks_same _ w rfl).trans (State.tbNow_of_keeps ((State.setReg_keeps ..).trans (State.wr_keeps ..)) (by decide +kernel) w)
  · rw [State.rd_modClocks, State.rd_wr_field _ _ _ _ _ _ (by rfl) (by decide) (by decide) (by decide), State.rd_setReg_id _ _ _ _ _ _ _ _ (by decide)]

theorem markerFollow_eq (w : Nat) {off : Int} (s : State) (hoff : s.markerOffset w = off) (hnear : off.natAbs ≤ 2000) : markerFollow w s =
    if off.natAbs ≤ 10 then
      if (slew w off true (markerShown w off s)).rd TB_STAT_RMC_QUALITY w 0 = 0 then setQuality w 0 0 ((slew w off true (markerShown w off s)).modClocks w fun c => { c with lastLocked := s.tbNow w })
      else slew w off true (markerShown w off s)
    else holdQuality w 2 ((slew w off true (markerShown w off s)).modClocks w fun c => { c with acquired := true }) := by
  subst hoff
  exact if_neg (by omega)

/-- A usable marker at a wafer that follows. -/
theorem markerFollow_near (w : Nat) {off : Int} (s : State) (hoff : s.markerOffset w = off) (hnear : off.natAbs ≤ 2000) :
    (markerFollow w s).reg TB_OFFSET w 0 = satOffset off ∧ (markerFollow w s).rd TB_STAT_PPS_OK w 0 = 1 ∧ ((markerFollow w s).getClocks w).missed = 0 ∧
    (markerFollow w s).tbNow w = s.tbNow w ∧ (off.natAbs ≤ 10 → s.rd TB_STAT_RMC_QUALITY w 0 = 0 → (markerFollow w s).rd TB_STAT_QUALITY w 0 = 0) := by
  obtain ⟨hshown, hpps, hmissed, hnow, hrmc⟩ := markerShown_shows w off s
  have hslewed := slew_markerRegs w off true (markerShown w off s)
  have hclock : ((slew w off true (markerShown w off s)).getClocks w).missed = 0 := by
    rw [slew_getClocks]
    exact hmissed
  have hstill := (slew_tbNow w off true (markerShown w off s)).trans hnow
  have hquality : ∀ (q src : Nat) (g : Clock → Clock), (∀ c, (g c).missed = c.missed) → (∀ c n, (g c).read n = c.read n) →
      (setQuality w q src ((slew w off true (markerShown w off s)).modClocks w g)).reg TB_OFFSET w 0 = satOffset off ∧
      (setQuality w q src ((slew w off true (markerShown w off s)).modClocks w g)).rd TB_STAT_PPS_OK w 0 = 1 ∧
      ((setQuality w q src ((slew w off true (markerShown w off s)).modClocks w g)).getClocks w).missed = 0 ∧
      (setQuality w q src ((slew w off true (markerShown w off s)).modClocks w g)).tbNow w = s.tbNow w := by
    intro q src g hg hread
    have hregs := (hslewed.trans (State.modClocks_markerRegs w g _)).trans (setQuality_markerRegs w q src _)
    refine ⟨hregs.offset.trans hshown, hregs.pps.trans hpps, ?_, ?_⟩
    · rw [setQuality_getClocks, State.getClocks_modClocks_same, hg, hclock]
    · rw [setQuality_tbNow, State.tbNow_modClocks_same _ w (hread ..), hstill]
  rw [markerFollow_eq w s hoff hnear]
  split_ifs with hclose hlocked
  · obtain ⟨h1, h2, h3, h4⟩ := hquality 0 0 (fun c => { c with lastLocked := s.tbNow w }) (fun _ => rfl) (fun _ _ => rfl)
    exact ⟨h1, h2, h3, h4, fun _ _ => setQuality_shows w 0 (by decide) _⟩
  · refine ⟨hslewed.offset.trans hshown, hslewed.pps.trans hpps, hclock, hstill, fun _ hgood => absurd ?_ hlocked⟩
    rw [slew_stat _ _ _ _ rfl (by decide), hrmc, hgood]
  · obtain ⟨h1, h2, h3, h4⟩ := hquality _ 2 (fun c => { c with acquired := true }) (fun _ => rfl) (fun _ _ => rfl)
    exact ⟨h1, h2, h3, h4, fun hten => absurd hten hclose⟩

/-! ## Markers at a wafer that has reacquired (R627) -/

/-- A wafer that has reacquired, with the marker's offset shown. -/
def offsetNoted (w : Nat) (s : State) : State := (s.setReg TB_OFFSET w 0 (satOffset (s.markerOffset w))).modClocks w fun c => { c with lastOffset := s.markerOffset w }

/-- A wafer after the forward step of its counter. -/
def counterStepped (w n : Nat) (s : State) : State :=
  let s2 := s.modClocks w fun c => c.stepBy s.now n
  ((s2.bump TB_EVENTS_STEPS w 0 1).setReg TB_LAST_STEP w 0 n).setReg TB_STEP_TIME w 0 (s2.tbNow w)

theorem offsetNoted_offset (w : Nat) (s : State) : (offsetNoted w s).reg TB_OFFSET w 0 = satOffset (s.markerOffset w) := by
  rw [offsetNoted, State.reg_modClocks, State.reg_setReg_same, Nat.mod_eq_of_lt (satOffset_lt _)]

theorem offsetNoted_getClocks (w : Nat) (s : State) : (offsetNoted w s).getClocks w = { s.getClocks w with lastOffset := s.markerOffset w } := State.getClocks_modClocks_same _ w _

theorem offsetNoted_keeps (w : Nat) (s : State) : Keeps (regBit TB_OFFSET ||| 0x80) s (offsetNoted w s) := (State.setReg_keeps ..).trans (State.modClocks_keeps ..)

theorem offsetNoted_tbNow (w : Nat) (s : State) : (offsetNoted w s).tbNow w = s.tbNow w :=
  (State.tbNow_modClocks_same _ w rfl).trans (State.tbNow_of_keeps (State.setReg_keeps s TB_OFFSET w 0 _) (by decide +kernel) w)

theorem State.mayStep_of {t : State} (hstep : (t.getClocks w).todStep = (s.getClocks w).todStep) (hsince : (t.getClocks w).todSince = (s.getClocks w).todSince)
    (harmed : t.rd TB_STAT_SCHED_ARMED w 0 = s.rd TB_STAT_SCHED_ARMED w 0) : t.mayStep w = s.mayStep w := by unfold State.mayStep; rw [hstep, hsince, harmed]

theorem offsetNoted_mayStep (w : Nat) (s : State) : (offsetNoted w s).mayStep w = s.mayStep w := by
  refine State.mayStep_of ?_ ?_ ((offsetNoted_keeps w s).rd _ _ _ (by decide) (by decide +kernel)) <;> rw [offsetNoted_getClocks]

theorem markerAcquired_steps {w : Nat} (first : Bool) {s : State} (hfar : 1000000 < s.markerOffset w) (hmay : s.mayStep w = true) : markerAcquired w first s =
    holdQuality w 2 (((showSlew w false (counterStepped w (s.markerOffset w).natAbs (offsetNoted w s))).wr TB_STAT_STEP_WAIT w 0 0).raise w Leaf.timeStep) :=
  (if_pos (show ms1 < s.markerOffset w from hfar)).trans (if_pos ((offsetNoted_mayStep w s).trans hmay))

theorem markerAcquired_waits {w : Nat} (first : Bool) {s : State} (hfar : 1000000 < s.markerOffset w) (hmay : s.mayStep w = false) : markerAcquired w first s =
    holdQuality w 2 ((slew w (s.markerOffset w) false (offsetNoted w s)).wr TB_STAT_STEP_WAIT w 0 1) :=
  (if_pos (show ms1 < s.markerOffset w from hfar)).trans (if_neg (by rw [← Bool.not_eq_true] at hmay; exact (offsetNoted_mayStep w s).symm ▸ hmay))

theorem counterStepped_shows (w : Nat) (n : Nat) (s : State) : (counterStepped w n s).tbNow w = (s.tbNow w + n) % 2 ^ 64 ∧
    (counterStepped w n s).rd TB_EVENTS_STEPS w 0 = satAdd TB_EVENTS_STEPS.width (s.rd TB_EVENTS_STEPS w 0) 1 ∧ (counterStepped w n s).reg TB_LAST_STEP w 0 = n % 2 ^ 64 := by
  have hnow : (s.modClocks w fun c => c.stepBy s.now n).tbNow w = (s.tbNow w + n) % 2 ^ 64 := (State.tbNow_modClocks ..).trans (Clock.read_stepBy ..)
  have hregs : Keeps _ (s.modClocks w fun c => c.stepBy s.now n) (counterStepped w n s) := ((State.bump_keeps ..).trans (State.setReg_keeps ..)).trans (State.setReg_keeps ..)
  refine ⟨(State.tbNow_of_keeps hregs (by decide +kernel) w).trans hnow, ?_, ?_⟩
  · rw [counterStepped, State.rd_setReg_id _ _ _ _ _ _ _ _ (by decide), State.rd_setReg_id _ _ _ _ _ _ _ _ (by decide), State.rd_bump_same _ _ _ _ _ (by decide) (by decide), State.rd_modClocks]
  · rw [counterStepped, State.reg_setReg_id _ _ _ _ _ _ _ _ (by decide), State.reg_setReg_same]

theorem counterStepped_markerRegs (w n : Nat) (s : State) : SameMarkerRegs w s (counterStepped w n s) := by
  refine ⟨?_, ?_, ?_⟩
  · rw [counterStepped, State.reg_setReg_id _ _ _ _ _ _ _ _ (by decide), State.reg_setReg_id _ _ _ _ _ _ _ _ (by decide), State.bump, State.reg_wr_id _ _ _ _ _ _ _ _ (by decide), State.reg_modClocks]
  · rw [counterStepped, State.rd_setReg_id _ _ _ _ _ _ _ _ (by decide), State.rd_setReg_id _ _ _ _ _ _ _ _ (by decide), State.bump, State.rd_wr_id _ _ _ _ _ _ _ _ (by decide), State.rd_modClocks]
  · rw [counterStepped, State.rd_setReg_id _ _ _ _ _ _ _ _ (by decide), State.rd_setReg_id _ _ _ _ _ _ _ _ (by decide), State.bump,
      State.rd_wr_field _ _ _ _ _ _ (by rfl) (by decide) (by decide) (by decide), State.rd_modClocks]

theorem showSlew_markerRegs (w : Nat) (b : Bool) (s : State) : SameMarkerRegs w s (showSlew w b s) :=
  ⟨(showSlew_keeps ..).regs _ _ _ (by decide) (by decide +kernel), showSlew_stat _ _ _ rfl (by decide), (showSlew_keeps ..).rd _ _ _ (by decide) (by decide +kernel)⟩

theorem State.raise_markerRegs (w : Nat) (l : Leaf) (s : State) : SameMarkerRegs w s (s.raise w l) :=
  ⟨(State.raise_keeps ..).regs _ _ _ (by decide) (by decide +kernel), (State.raise_keeps ..).rd _ _ _ (by decide) (by decide +kernel), (State.raise_keeps ..).rd _ _ _ (by decide) (by decide +kernel)⟩

theorem markerAcquired_step {w : Nat} (first : Bool) {s : State} (hfar : 1000000 < s.markerOffset w) (hmay : s.mayStep w = true) :
    (markerAcquired w first s).tbNow w = (s.tbNow w + (s.markerOffset w).natAbs) % 2 ^ 64 ∧
    (markerAcquired w first s).rd TB_EVENTS_STEPS w 0 = satAdd TB_EVENTS_STEPS.width (s.rd TB_EVENTS_STEPS w 0) 1 ∧
    (markerAcquired w first s).reg TB_LAST_STEP w 0 = (s.markerOffset w).natAbs % 2 ^ 64 ∧ (markerAcquired w first s).rd TB_STAT_STEP_WAIT w 0 = 0 ∧
    (markerAcquired w first s).leafSet w Leaf.timeStep = true := by
  obtain ⟨hnow, hsteps, hlast⟩ := counterStepped_shows w (s.markerOffset w).natAbs (offsetNoted w s)
  have hends : Keeps _ (counterStepped w (s.markerOffset w).natAbs (offsetNoted w s)) (markerAcquired w first s) :=
    markerAcquired_steps first hfar hmay ▸ (((showSlew_keeps w false _).trans (State.wr_keeps _ TB_STAT_STEP_WAIT w 0 0)).trans (State.raise_keeps _ w Leaf.timeStep)).trans (holdQuality_keeps w 2 _)
  refine ⟨?_, ?_, (hends.regs _ _ _ (by decide) (by decide +kernel)).trans hlast, ?_, ?_⟩
  · rw [State.tbNow_of_keeps hends (by decide +kernel), hnow, offsetNoted_tbNow]
  · rw [hends.rd _ _ _ (by decide) (by decide +kernel), hsteps, (offsetNoted_keeps w s).rd _ _ _ (by decide) (by decide +kernel)]
  · rw [markerAcquired_steps first hfar hmay, holdQuality, setQuality_stat _ _ _ _ rfl (by decide), (State.raise_keeps ..).rd _ _ _ (by decide) (by decide +kernel),
      State.rd_wr_same _ _ _ _ _ (by decide) (by decide)]
    rfl
  · rw [markerAcquired_steps first hfar hmay]
    exact (setQuality_leaves ..).set _ (by decide) (State.raise_sets _ _ _ (by decide))

theorem markerAcquired_wait {w : Nat} (first : Bool) {s : State} (hfar : 1000000 < s.markerOffset w) (hmay : s.mayStep w = false) :
    (markerAcquired w first s).tbNow w = s.tbNow w ∧ (markerAcquired w first s).rd TB_STAT_STEP_WAIT w 0 = 1 ∧ (markerAcquired w first s).reg TB_SLEW w 0 = 20000 := by
  have hppb : ((s.getClocks w).slewBy s.now (s.markerOffset w) false).ppb = 20000 := by
    have hsign : ¬ s.markerOffset w < 0 ∧ ¬ s.markerOffset w = 0 := by omega
    simp [Clock.slewBy, Clock.adjust, hsign]
  have hclock : ((slew w (s.markerOffset w) false (offsetNoted w s)).getClocks w).ppb = 20000 := by
    rw [slew_getClocks, offsetNoted_getClocks, (offsetNoted_keeps w s).now]
    exact hppb
  have hslew : (slew w (s.markerOffset w) false (offsetNoted w s)).reg TB_SLEW w 0 = 20000 := by
    rw [slew, showSlew_getClocks] at hclock
    rw [slew, showSlew, State.reg_wr_id _ _ _ _ _ _ _ _ (by decide), State.reg_setReg_same, hclock]
    rfl
  rw [markerAcquired_waits first hfar hmay, holdQuality]
  refine ⟨?_, ?_, ?_⟩
  · rw [setQuality_tbNow, State.tbNow_of_keeps (State.wr_keeps ..) (by decide +kernel), slew_tbNow, offsetNoted_tbNow]
  · rw [setQuality_stat _ _ _ _ rfl (by decide), State.rd_wr_same _ _ _ _ _ (by decide) (by decide)]
    rfl
  · rw [(setQuality_keeps ..).regs _ _ _ (by decide) (by decide +kernel), State.reg_wr_id _ _ _ _ _ _ _ _ (by decide), hslew]

theorem holdQuality_markerRegs (w src : Nat) (s : State) : SameMarkerRegs w s (holdQuality w src s) := setQuality_markerRegs w _ src s

theorem holdQuality_getClocks (w src : Nat) (s : State) (k : Nat) : (holdQuality w src s).getClocks k = s.getClocks k := setQuality_getClocks ..

/-- A wafer that has reacquired at a marker within 1 ms. -/
def offsetNear (w : Nat) (s : State) : State := (offsetNoted w s).wr TB_STAT_STEP_WAIT w 0 0

theorem markerAcquired_near {w : Nat} (first : Bool) {s : State} (hnear : ¬ 1000000 < s.markerOffset w) : markerAcquired w first s =
    if !first ∧ (s.markerOffset w).natAbs ≤ 10 ∧ (offsetNear w s).rd TB_STAT_RMC_QUALITY w 0 = 0 then
      setQuality w 0 0 (slew w (s.markerOffset w) true ((offsetNear w s).modClocks w fun c => { c with lastLocked := s.tbNow w }))
    else holdQuality w (if (offsetNear w s).rd TB_STAT_RMC_QUALITY w 0 = 0 then 2 else (offsetNear w s).rd TB_STAT_HOLD_SRC w 0) (slew w (s.markerOffset w) false (offsetNear w s)) :=
  if_neg hnear

/-- Whatever follows, the offset stays shown and the wafer stays acquired. -/
theorem markerAcquired_stays (w : Nat) (first : Bool) (s : State) : SameMarkerRegs w (offsetNoted w s) (markerAcquired w first s) ∧
    ((markerAcquired w first s).getClocks w).acquired = (s.getClocks w).acquired := by
  have hnoted : ((offsetNoted w s).getClocks w).acquired = (s.getClocks w).acquired := by rw [offsetNoted_getClocks]
  by_cases hfar : 1000000 < s.markerOffset w
  · by_cases hmay : s.mayStep w = true
    · rw [markerAcquired_steps first hfar hmay]
      refine ⟨((((counterStepped_markerRegs ..).trans (showSlew_markerRegs ..)).trans (State.stepWait_markerRegs ..)).trans (State.raise_markerRegs ..)).trans (holdQuality_markerRegs ..), ?_⟩
      rw [holdQuality_getClocks, (State.raise_keeps ..).getClocks (by decide +kernel), State.getClocks_wr, showSlew_getClocks, counterStepped, State.getClocks_setReg, State.getClocks_setReg,
        State.bump, State.getClocks_wr, State.getClocks_modClocks_same]
      exact hnoted
    · rw [markerAcquired_waits first hfar (Bool.not_eq_true _ ▸ hmay)]
      refine ⟨((slew_markerRegs ..).trans (State.stepWait_markerRegs ..)).trans (holdQuality_markerRegs ..), ?_⟩
      rw [holdQuality_getClocks, State.getClocks_wr, slew_getClocks]
      exact hnoted
  · have hwait : SameMarkerRegs w (offsetNoted w s) (offsetNear w s) := State.stepWait_markerRegs w 0 (offsetNoted w s)
    rw [markerAcquired_near first hfar]
    split
    · refine ⟨((hwait.trans (State.modClocks_markerRegs ..)).trans (slew_markerRegs ..)).trans (setQuality_markerRegs ..), ?_⟩
      rw [setQuality_getClocks, slew_getClocks, State.getClocks_modClocks_same]
      exact hnoted
    · refine ⟨(hwait.trans (slew_markerRegs ..)).trans (holdQuality_markerRegs ..), ?_⟩
      rw [holdQuality_getClocks, slew_getClocks]
      exact hnoted

/-! ## Markers (R624-R627) -/

/-- The end of every marker. -/
def markerEnd (w : Nat) (s : State) : State :=
  s.modClocks w fun c => { c with marker := some (s.tbNow w), todSince := false, todSeconds := c.todSeconds + b2n (!c.todSince) }

theorem markerEnd_tbNow (w : Nat) (s : State) : (markerEnd w s).tbNow w = s.tbNow w := State.tbNow_modClocks_same _ w rfl

theorem markerEnd_clock (w : Nat) (s : State) : ((markerEnd w s).getClocks w).acquired = (s.getClocks w).acquired ∧ ((markerEnd w s).getClocks w).missed = (s.getClocks w).missed := by
  unfold markerEnd
  rw [State.getClocks_modClocks_same]
  exact ⟨rfl, rfl⟩

/-- A wafer that has lost LOCKED, at its marker. -/
def markerSeen (w : Nat) (s : State) : State := (takeUtc w s).wr TB_STAT_PPS_OK w 0 1

/-- A wafer at the first marker after its reacquisition. -/
def markerFirst (w : Nat) (s : State) : State := ((markerSeen w s).bump TB_EVENTS_REACQ w 0 1).modClocks w fun c => { c with acquired := true, missed := 0 }

/-- A wafer that has reacquired, as its marker finds it. -/
def markerAgain (w : Nat) (s : State) : State := (markerSeen w s).modClocks w fun c => { c with missed := 0 }

/-- A wafer after its marker but for the end of it. -/
def markerTaken (w : Nat) (s : State) : State :=
  if s.follows w then markerFollow w (takeUtc w s)
  else if (s.getClocks w).acquired then markerAcquired w false (markerAgain w s)
  else match (s.getClocks w).marker with
  | none => markerSeen w s
  | some m => if m + 999975000 ≤ s.tbNow w ∧ s.tbNow w ≤ m + 1000025000 ∧ (s.getClocks w).todSince then markerAcquired w true (markerFirst w s) else markerSeen w s

theorem marker_eq (w : Nat) (s : State) : marker w s = markerEnd w (markerTaken w s) := rfl

theorem marker_follows {w : Nat} {s : State} (h : s.follows w = true) : marker w s = markerEnd w (markerFollow w (takeUtc w s)) := by rw [marker_eq, markerTaken, if_pos h]

theorem marker_acquired {w : Nat} {s : State} (h : s.follows w = false) (hacq : (s.getClocks w).acquired = true) :
    marker w s = markerEnd w (markerAcquired w false (markerAgain w s)) := by rw [marker_eq, markerTaken, if_neg (Bool.eq_false_iff.mp h), if_pos hacq]

theorem marker_reacquires {w m : Nat} {s : State} (h : s.follows w = false) (hacq : (s.getClocks w).acquired = false) (hlast : (s.getClocks w).marker = some m)
    (hsecond : m + 999975000 ≤ s.tbNow w ∧ s.tbNow w ≤ m + 1000025000 ∧ (s.getClocks w).todSince = true) : marker w s = markerEnd w (markerAcquired w true (markerFirst w s)) := by
  simp only [marker_eq, markerTaken, if_neg (Bool.eq_false_iff.mp h), if_neg (Bool.eq_false_iff.mp hacq), hlast, if_pos hsecond]

theorem takeUtc_getClocks (w : Nat) (s : State) (k : Nat) : (takeUtc w s).getClocks k = s.getClocks k := (takeUtc_keeps ..).getClocks (by decide +kernel) k

theorem takeUtc_tbNow (w : Nat) (s : State) : (takeUtc w s).tbNow w = s.tbNow w := State.tbNow_of_keeps (takeUtc_keeps ..) (by decide +kernel) w

theorem takeUtc_markerOffset (w : Nat) (s : State) : (takeUtc w s).markerOffset w = s.markerOffset w :=
  State.markerOffset_of (by rw [takeUtc_getClocks]) ((takeUtc_keeps ..).rd _ _ _ (by decide) (by decide +kernel)) (takeUtc_tbNow w s)

theorem markerSeen_keeps (w : Nat) (s : State) : Keeps (regBit TB_UTC ||| regBit TB_STAT) s (markerSeen w s) := ((takeUtc_keeps w s).widen (by decide +kernel)).trans (State.wr_keeps (takeUtc w s) TB_STAT_PPS_OK w 0 1)

theorem markerSeen_getClocks (w : Nat) (s : State) (k : Nat) : (markerSeen w s).getClocks k = s.getClocks k := (markerSeen_keeps w s).getClocks (by decide +kernel) k

/-- A clock's change at a marker that moves neither the counter nor the seconds. -/
theorem State.markerOffset_modClocks (s : State) (w : Nat) {g : Clock → Clock} (hsecs : (g (s.getClocks w)).todSeconds = (s.getClocks w).todSeconds)
    (hread : (g (s.getClocks w)).read s.now = (s.getClocks w).read s.now) : (s.modClocks w g).markerOffset w = s.markerOffset w :=
  State.markerOffset_of (by rw [State.getClocks_modClocks_same, hsecs]) rfl (s.tbNow_modClocks_same w hread)

theorem State.markerOffset_of_keeps {m : Nat} {t : State} (h : Keeps m s t) (hm : m.testBit 7 = false ∧ m.testBit (64 + TB_DELAY.id) = false) (w : Nat) : t.markerOffset w = s.markerOffset w :=
  State.markerOffset_of (by rw [h.getClocks hm.1]) (h.rd _ _ _ (by decide) hm.2) (State.tbNow_of_keeps h hm.1 w)

theorem marker_near {w : Nat} {s : State} (h : s.follows w = true) (hnear : (s.markerOffset w).natAbs ≤ 2000) :
    (marker w s).reg TB_OFFSET w 0 = satOffset (s.markerOffset w) ∧ (marker w s).rd TB_STAT_PPS_OK w 0 = 1 ∧ ((marker w s).getClocks w).missed = 0 ∧ (marker w s).tbNow w = s.tbNow w ∧
    ((s.markerOffset w).natAbs ≤ 10 → s.rd TB_STAT_RMC_QUALITY w 0 = 0 → (marker w s).rd TB_STAT_QUALITY w 0 = 0) := by
  obtain ⟨hoff, hpps, hmissed, hnow, hlocks⟩ := markerFollow_near w (takeUtc w s) (takeUtc_markerOffset w s) hnear
  rw [marker_follows h]
  refine ⟨hoff, hpps, (markerEnd_clock ..).2.trans hmissed, (markerEnd_tbNow ..).trans (hnow.trans (takeUtc_tbNow w s)), fun hten hgood => ?_⟩
  exact hlocks hten (((takeUtc_keeps w s).rd _ _ _ (by decide) (by decide +kernel)).trans hgood)

theorem MarkerMissed.of_before {w : Nat} {s u t : State} (hevents : u.rd TB_EVENTS_MISSED w 0 = s.rd TB_EVENTS_MISSED w 0) (hstat : u.rd TB_STAT_QUALITY w 0 = s.rd TB_STAT_QUALITY w 0)
    (hclock : u.getClocks w = s.getClocks w) (h : MarkerMissed w u t) : MarkerMissed w s t := by
  unfold MarkerMissed at h ⊢
  rwa [hevents, hstat, hclock] at h

/-- The end of a marker that only its clock shows. -/
theorem MarkerMissed.modClocks {w : Nat} {s t : State} {g : Clock → Clock} (hg : (g (t.getClocks w)).acquired = (t.getClocks w).acquired) (h : MarkerMissed w s t) :
    MarkerMissed w s (t.modClocks w g) := by
  obtain ⟨hmissed, hpps, hsecond⟩ := h
  refine ⟨hmissed, hpps, fun hone => ?_⟩
  obtain ⟨hleaf, hacq, hquality⟩ := hsecond hone
  exact ⟨hleaf, by rw [State.getClocks_modClocks_same, hg, hacq], hquality⟩

theorem marker_outside {w : Nat} {s : State} (h : s.follows w = true) (hfar : 2000 < (s.markerOffset w).natAbs) : MarkerMissed w s (marker w s) := by
  have hlost : markerFollow w (takeUtc w s) = markerLost w (takeUtc w s) := if_pos ((takeUtc_markerOffset w s).symm ▸ hfar)
  rw [marker_follows h, hlost]
  exact ((markerLost_shows w _).of_before ((takeUtc_keeps w s).rd _ _ _ (by decide) (by decide +kernel)) ((takeUtc_keeps w s).rd _ _ _ (by decide) (by decide +kernel))
    (takeUtc_getClocks w s w)).modClocks rfl

theorem marker_reacquired {w m : Nat} {s : State} (h : s.follows w = false) (hacq : (s.getClocks w).acquired = false) (hlast : (s.getClocks w).marker = some m)
    (hsecond : m + 999975000 ≤ s.tbNow w ∧ s.tbNow w ≤ m + 1000025000 ∧ (s.getClocks w).todSince = true) :
    ((marker w s).getClocks w).acquired = true ∧ (marker w s).rd TB_EVENTS_REACQ w 0 = satAdd TB_EVENTS_REACQ.width (s.rd TB_EVENTS_REACQ w 0) 1 ∧
    (marker w s).reg TB_OFFSET w 0 = satOffset (s.markerOffset w) := by
  rw [marker_reacquires h hacq hlast hsecond]
  have hbumped : Keeps _ s ((markerSeen w s).bump TB_EVENTS_REACQ w 0 1) := (markerSeen_keeps w s).trans (State.bump_keeps ..)
  obtain ⟨hregs, hstays⟩ := markerAcquired_stays w true (markerFirst w s)
  refine ⟨?_, hregs.reacquired.trans ?_, hregs.offset.trans ?_⟩
  · rw [(markerEnd_clock ..).1, hstays, markerFirst, State.getClocks_modClocks_same]
  · rw [(offsetNoted_keeps ..).rd _ _ _ (by decide) (by decide +kernel), markerFirst, State.rd_modClocks, State.rd_bump_same _ _ _ _ _ (by decide) (by decide),
      (markerSeen_keeps w s).rd _ _ _ (by decide) (by decide +kernel)]
  · rw [offsetNoted_offset, markerFirst, State.markerOffset_modClocks _ w rfl rfl, State.markerOffset_of_keeps hbumped (by decide +kernel)]

section
variable {w : Nat} {s : State} (h : s.follows w = false) (hacq : (s.getClocks w).acquired = true) (hfar : 1000000 < s.markerOffset w)

theorem markerAgain_finds (w : Nat) (s : State) : (markerAgain w s).markerOffset w = s.markerOffset w ∧ (markerAgain w s).mayStep w = s.mayStep w ∧ (markerAgain w s).tbNow w = s.tbNow w ∧
    (markerAgain w s).rd TB_EVENTS_STEPS w 0 = s.rd TB_EVENTS_STEPS w 0 := by
  have hclock : (markerAgain w s).getClocks w = { s.getClocks w with missed := 0 } := by rw [markerAgain, State.getClocks_modClocks_same, markerSeen_getClocks]
  refine ⟨?_, State.mayStep_of (by rw [hclock]) (by rw [hclock]) ?_, ?_, (markerSeen_keeps w s).rd _ _ _ (by decide) (by decide +kernel)⟩
  · rw [markerAgain, State.markerOffset_modClocks _ w rfl rfl, State.markerOffset_of_keeps (markerSeen_keeps w s) (by decide +kernel)]
  · rw [markerAgain, State.rd_modClocks, markerSeen, State.rd_wr_field _ _ _ _ _ _ (by rfl) (by decide) (by decide) (by decide), (takeUtc_keeps w s).rd _ _ _ (by decide) (by decide +kernel)]
  · rw [markerAgain, State.tbNow_modClocks_same _ w rfl, State.tbNow_of_keeps (markerSeen_keeps w s) (by decide +kernel)]

include h hacq hfar

theorem marker_steps (hmay : s.mayStep w = true) : (marker w s).tbNow w = (s.tbNow w + (s.markerOffset w).natAbs) % 2 ^ 64 ∧
    (marker w s).rd TB_EVENTS_STEPS w 0 = satAdd TB_EVENTS_STEPS.width (s.rd TB_EVENTS_STEPS w 0) 1 ∧ (marker w s).reg TB_LAST_STEP w 0 = (s.markerOffset w).natAbs % 2 ^ 64 ∧
    (marker w s).rd TB_STAT_STEP_WAIT w 0 = 0 ∧ (marker w s).leafSet w Leaf.timeStep = true := by
  obtain ⟨hoff, hstep, hnow, hsteps⟩ := markerAgain_finds w s
  have hdone := markerAcquired_step (w := w) false (hoff.symm ▸ hfar) (hstep.trans hmay)
  rw [hoff, hnow, hsteps] at hdone
  rw [marker_acquired h hacq, markerEnd_tbNow]
  exact hdone

theorem marker_waits (hmay : s.mayStep w = false) : (marker w s).tbNow w = s.tbNow w ∧ (marker w s).rd TB_STAT_STEP_WAIT w 0 = 1 ∧ (marker w s).reg TB_SLEW w 0 = 20000 := by
  obtain ⟨hoff, hstep, hnow, -⟩ := markerAgain_finds w s
  have hdone := markerAcquired_wait (w := w) false (hoff.symm ▸ hfar) (hstep.trans hmay)
  rw [hnow] at hdone
  rw [marker_acquired h hacq, markerEnd_tbNow]
  exact hdone

end

theorem boundExceeded_wafer {w : WaferId} {s : State} (hbound : 1000000 < s.tbBound w) (hhold : s.rd TB_STAT_QUALITY w 0 = 1) :
    (boundExceeded (.wafer w) s).rd TB_STAT_QUALITY w 0 = 2 ∧ (boundExceeded (.wafer w) s).rd TB_STAT_HOLD_SRC w 0 = 2 ∧ (boundExceeded (.wafer w) s).leafSet w Leaf.quality = true := by
  have hfree : boundExceeded (.wafer w) s = setQuality w 2 2 s := if_pos (And.intro hbound hhold)
  rw [hfree]
  exact ⟨setQuality_shows _ _ (by decide) _, setQuality_holdSrc _ _ (by decide) _, setQuality_raises _ _ (by rw [hhold]; decide)⟩

theorem markerMissing_shows (w : Nat) (s : State) : MarkerMissed w s (markerMissing w s) ∧ ((markerMissing w s).getClocks w).marker = none := by
  refine ⟨(markerLost_shows w s).modClocks rfl, ?_⟩
  rw [markerMissing, State.getClocks_modClocks_same]

end

end Sys2Proof.Machine
open Sys2Proof Sys2Proof.Machine

/-- Settles O50: every measurement goes through the follow-up of an RMC, every marker through one of the cases of R624 to R627, and every change of quality through `setQuality`. -/
theorem timeOfRmcsAndWafers : Obligations.TimeOfRmcsAndWafers := by
  unfold Obligations.TimeOfRmcsAndWafers
  refine ⟨fun r s => ?_, fun w s => ?_⟩
  · intro x measured
    refine ⟨fun off utc leaps => ⟨_, rfl, ?_⟩, fun off => ⟨_, rfl, ?_⟩, fun off => ⟨_, rfl, ?_⟩, ⟨_, rfl, referenceLoss_shows r s⟩, fun hactive => ⟨_, rfl, markerSend_out hactive⟩,
      fun hactive step => ⟨_, rfl, todSend_frames hactive⟩, ⟨_, rfl, rfl⟩, fun hbound hhold => ⟨_, rfl, boundExceeded_rmc hbound hhold⟩⟩
    · have hnoted := rmcMeasure_getRmcs r off.toInt (s.modRmcs r fun x => { x with lastSync := some s.now, utc := utc.toNat, leaps := leaps.toNat })
      rw [State.getRmcs_modRmcs_same] at hnoted
      exact ⟨rmcMeasure_noted r off.toInt s rfl rfl rfl, congrArg Rmc.lastSync hnoted, congrArg Rmc.utc hnoted, congrArg Rmc.leaps hnoted⟩
    · have hnoted := rmcMeasure_getRmcs r off.toInt (s.modRmcs r fun x => { x with lastPps := some s.now })
      rw [State.getRmcs_modRmcs_same] at hnoted
      exact ⟨rmcMeasure_noted r off.toInt s rfl rfl rfl, congrArg Rmc.lastPps hnoted⟩
    · have hshows := Rmc.measured_shows s.anySchedArmed s.now off.toInt (s.getRmcs r)
      rw [← rmcMeasure_getRmcs] at hshows
      exact hshows
  · intro c off missed
    exact ⟨fun bytes => ⟨fun hbad => ⟨_, rfl, todFrame_bad w s hbad⟩, fun b hbody => ⟨_, rfl, todFrame_sound w s hbody⟩⟩, fun h hnear => ⟨_, rfl, marker_near h hnear⟩,
      fun h hfar => ⟨_, rfl, marker_outside h hfar⟩, ⟨_, rfl, markerMissing_shows w s⟩, fun m h hacq hlast hlo hhi hsince => ⟨_, rfl, marker_reacquired h hacq hlast ⟨hlo, hhi, hsince⟩⟩,
      fun h hacq hfar hmay => ⟨_, rfl, marker_steps h hacq hfar hmay⟩, fun h hacq hfar hmay => ⟨_, rfl, marker_waits h hacq hfar hmay⟩, fun hbound hhold => ⟨_, rfl, boundExceeded_wafer hbound hhold⟩⟩

end

section
/-!
SUPPORT. What a change of park requests leaves of them, and what the cap loop leaves of the energies charged (R465-R468, R485-R491).
-/
set_option Elab.async false
namespace Sys2Proof.Machine

/-! ## Park requests -/

/-- A quadrant's park requests but for the moves that have begun. -/
def SameRequests (k : Nat) (s t : State) : Prop := ∃ retain gate, t.getParks k = { s.getParks k with toRetain := retain, toGate := gate }

section
variable {w q k : Nat} {s t u : State}

theorem SameRequests.of_eq (h : t.getParks k = s.getParks k) : SameRequests k s t := ⟨_, _, h⟩

theorem SameRequests.trans (h1 : SameRequests k s t) (h2 : SameRequests k t u) : SameRequests k s u := by
  obtain ⟨_, _, h1⟩ := h1
  obtain ⟨retain, gate, h2⟩ := h2
  exact ⟨retain, gate, by rw [h2, h1]⟩

theorem State.getParks_modParks_ne (s : State) {x k : Nat} (g : ParkQ → ParkQ) (h : k ≠ x) : (s.modParks x g).getParks k = s.getParks k := by
  rw [State.modParks, State.getParks_putParks, if_neg h]

theorem evalGroup_requests (w q x : Nat) (s : State) : SameRequests k s (evalGroup w q x s) := by
  obtain heq | ⟨want, cur, heq⟩ := evalGroup_cases w q x s
  · exact .of_eq (by rw [heq])
  · rw [heq]
    by_cases hk : k = parkKey w q
    · subst hk
      exact ⟨_, _, getParks_moveBegun ..⟩
    · exact .of_eq (by rw [moveBegun, State.getParks_modParks_ne _ _ hk, State.getParks_wrBit])

theorem evalPark_requests (w q : Nat) (s : State) : SameRequests k s (evalPark w q s) := by
  unfold evalPark
  split
  · exact .of_eq rfl
  · dsimp only
    have hturns : SameRequests k s (forEach (List.range 9) s (evalGroup w q)) :=
      forEach_relates (R := SameRequests k) (fun _ => .of_eq rfl) SameRequests.trans (fun x t => evalGroup_requests w q x t) _ s
    exact hturns.trans (.of_eq (State.getParks_wr ..))

/-- A change of one quadrant's requests is that change, and the moves that follow. -/
theorem setParkReq_requests (w q : Nat) (g : ParkQ → ParkQ) (s : State) :
    ∃ retain gate, (setParkReq w q g s).getParks (parkKey w q) = { g (s.getParks (parkKey w q)) with toRetain := retain, toGate := gate } := by
  obtain ⟨retain, gate, h⟩ := evalPark_requests (k := parkKey w q) w q ((accrue w s).modParks (parkKey w q) g)
  rw [State.getParks_modParks_same, (accrue_keeps w s).getParks (by decide +kernel)] at h
  exact ⟨retain, gate, h⟩

theorem setParkReq_ne (g : ParkQ → ParkQ) (s : State) (h : k ≠ parkKey w q) : SameRequests k s (setParkReq w q g s) :=
  .trans (.of_eq (by rw [State.getParks_modParks_ne _ _ h, (accrue_keeps w s).getParks (by decide +kernel)])) (evalPark_requests w q _)

end

/-! ## Energies charged -/

/-- What the cap loop reads of a wafer's meter and leaves there. -/
structure SameCharges (w : Nat) (s t : State) : Prop where
  period : (t.getMeters w).period = (s.getMeters w).period
  standing : (t.getMeters w).standing = (s.getMeters w).standing

section
variable {w x : Nat} {s t u : State}

theorem SameCharges.refl (w : Nat) (s : State) : SameCharges w s s := ⟨rfl, rfl⟩

theorem SameCharges.trans (h1 : SameCharges w s t) (h2 : SameCharges w t u) : SameCharges w s u := ⟨h2.period.trans h1.period, h2.standing.trans h1.standing⟩

theorem SameCharges.of_keeps {m : Nat} (h : Keeps m s t) (hm : m.testBit 33 = false) : SameCharges w s t := by
  constructor <;> rw [h.getMeters hm]

theorem State.putMeters_charges {m : Meter} (hperiod : m.period = (s.getMeters x).period) (hstanding : m.standing = (s.getMeters x).standing) : SameCharges w s (s.putMeters x m) := by
  constructor <;> rw [State.getMeters_putMeters] <;> split
  · rename_i h
    rw [hperiod, h]
  · rfl
  · rename_i h
    rw [hstanding, h]
  · rfl

theorem accrue_charges (x : Nat) (s : State) : SameCharges w s (accrue x s) := by
  unfold accrue
  dsimp only
  split
  · exact .refl w s
  · refine (State.putMeters_charges (by rfl) (by rfl)).trans (forEach_relates (SameCharges.refl w) SameCharges.trans (fun p t => ?_) _ _)
    refine forEach_relates (SameCharges.refl w) SameCharges.trans (fun r t => ?_) _ t
    exact .of_keeps (State.when_keeps (fun t => (State.incWrap_keeps t TEL_REASON_GTIME_COUNT ..).widen (by decide +kernel))
      (State.when_keeps (M := regBit TEL_REASON_TIME ||| regBit TEL_REASON_GTIME) (fun t => (State.incWrap_keeps t TEL_REASON_TIME_COUNT ..).widen (by decide +kernel)) (.refl ..))) (by decide +kernel)

theorem setParkReq_charges (x q : Nat) (g : ParkQ → ParkQ) (s : State) : SameCharges w s (setParkReq x q g s) :=
  (accrue_charges x s).trans (.of_keeps ((State.modParks_keeps ..).trans (evalPark_keeps ..)) (by decide +kernel))

theorem capPark_charges (x : Nat) (g : Group) (s : State) : SameCharges w s (capPark x g s) := (State.putMeters_charges (by rfl) (by rfl)).trans (setParkReq_charges ..)

theorem capRelease_charges (x : Nat) (g : Group) (s : State) : SameCharges w s (capRelease x g s) := (State.putMeters_charges (by rfl) (by rfl)).trans (setParkReq_charges ..)

theorem parkOver_charges (x : Nat) (xs : List (Load1 × Nat)) (left : Nat) (s : State) : SameCharges w s (parkOver x xs left s) := by
  induction xs generalizing left s with
  | nil => exact .refl w s
  | cons y ys ih => exact (forEach_relates (SameCharges.refl w) SameCharges.trans (fun g t => capPark_charges x g t) _ s).trans (ih _ _)

theorem releaseUnder_charges (x hyst : Nat) (xs : List (Load1 × Nat)) (left : Nat) (s : State) : SameCharges w s (releaseUnder x hyst xs left s) := by
  induction xs generalizing left s with
  | nil => exact .refl w s
  | cons y ys ih =>
    exact ((State.putMeters_charges (by rfl) (by rfl)).trans (forEach_relates (SameCharges.refl w) SameCharges.trans (fun g t => capRelease_charges x g t) _ _)).trans (ih _ _)

theorem dwellSwap_charges (x p : Nat) (s : State) : SameCharges w s (dwellSwap x p s) := by
  unfold dwellSwap
  refine forEach_relates (SameCharges.refl w) SameCharges.trans (fun g t => SameCharges.trans ?_ (capRelease_charges ..)) _ s
  split
  · exact capPark_charges ..
  · exact .refl w t

end

end Sys2Proof.Machine

end

section
/-!
PROOF. The cap and its loop, the energies charged, the snapshot of telemetry, barrier balance and the guards (R482-R505).
-/
set_option Elab.async false
namespace Sys2Proof.Machine

/-! ## The effective cap (R481-R483) -/

theorem lowestLimit_le {x : Nat × Nat × Nat} {ls : List (Nat × Nat × Nat)} (hx : x ∈ ls) : (lowestLimit ls).1 ≤ x.1 := by
  have hcons : ∀ y z r, (lowestLimit (y :: z :: r)).1 ≤ y.1 ∧ (lowestLimit (y :: z :: r)).1 ≤ (lowestLimit (z :: r)).1 := fun y z r => by
    simp only [lowestLimit]
    split <;> omega
  induction ls with
  | nil => cases hx
  | cons y r ih =>
    cases r with
    | nil => rw [List.mem_singleton.mp hx]; rfl
    | cons z r =>
      obtain rfl | hx := List.mem_cons.mp hx
      · exact (hcons x z r).1
      · exact (hcons y z r).2.trans (ih hx)

section
variable {w : Nat} {s t : State}

theorem State.lowestLimit_capLimits (s : State) (w : Nat) : (lowestLimit (s.capLimits w)).1 ≤ 20000 :=
  lowestLimit_le (x := (20000, 3, 0)) (List.mem_append_right _ (List.mem_singleton_self _))

theorem Keeps.capLimits {m : Nat} (h : Keeps m s t) (hwafers : m.testBit 38 = false)
    (hregs : m.testBit (64 + PWR_CAP.id) = false ∧ m.testBit (64 + NET_MGMT.id) = false ∧ m.testBit (64 + PWR_IBC.id) = false) (w : Nat) : t.capLimits w = s.capLimits w := by
  simp only [State.capLimits, State.ibcsLost, h.rd PWR_CAP_CAP_W _ _ (by decide) hregs.1, h.rd PWR_CAP_REASON _ _ (by decide) hregs.1, h.rd NET_MGMT_STATIC_CAP _ _ (by decide) hregs.2.1,
    h.rd PWR_IBC_FAULT _ _ (by decide) hregs.2.2, h.getWafers hwafers]
  rfl

/-- A wafer that shows its lowest limit as the effective cap. -/
def capShown (w : Nat) (s : State) : State :=
  let x := lowestLimit ((accrue w s).capLimits w)
  (((accrue w s).wr PWR_CAP_EFF_EFF_W w 0 x.1).wr PWR_CAP_EFF_LIMIT w 0 x.2.1).wr PWR_CAP_EFF_REASON w 0 x.2.2

theorem capUpdate_ends (w source clamped : Nat) (s : State) :
    Keeps 0x14c004600000000000000000000000000000000000000000000000000000070000000000000000018 (capShown w s) (capUpdate w source clamped s) := by
  unfold capUpdate
  exact .ite (.refl ..) (.next (State.raise_keeps ..) (by decide +kernel) (State.journal_keeps ..))

theorem capUpdate_effective (w source clamped : Nat) (s : State) : (capUpdate w source clamped s).rd PWR_CAP_EFF_EFF_W w 0 = (lowestLimit (s.capLimits w)).1 := by
  have hlow := s.lowestLimit_capLimits w
  have hlimits : (accrue w s).capLimits w = s.capLimits w := (accrue_keeps w s).capLimits (by decide +kernel) (by decide +kernel) w
  rw [(capUpdate_ends ..).rd _ _ _ (by decide) (by decide +kernel), capShown, hlimits, State.rd_wr_field _ _ _ _ _ _ (by rfl) (by decide) (by decide) (by decide),
    State.rd_wr_field _ _ _ _ _ _ (by rfl) (by decide) (by decide) (by decide), State.rd_wr_same _ _ _ _ _ (by decide) (by decide)]
  exact Nat.mod_eq_of_lt (hlow.trans_lt (by decide))

theorem capUpdate_limits (w source clamped x : Nat) (s : State) : (capUpdate w source clamped s).capLimits x = s.capLimits x :=
  (capUpdate_keeps ..).capLimits (by decide +kernel) (by decide +kernel) x

theorem capUpdate_raises (w source clamped : Nat) (s : State) (hchange : (capUpdate w source clamped s).rd PWR_CAP_EFF_EFF_W w 0 ≠ s.rd PWR_CAP_EFF_EFF_W w 0) :
    (capUpdate w source clamped s).leafSet w Leaf.capChanged = true := by
  have hlimits : (accrue w s).capLimits w = s.capLimits w := (accrue_keeps w s).capLimits (by decide +kernel) (by decide +kernel) w
  have hold : (accrue w s).rd PWR_CAP_EFF_EFF_W w 0 = s.rd PWR_CAP_EFF_EFF_W w 0 := (accrue_keeps w s).rd _ _ _ (by decide) (by decide +kernel)
  rw [capUpdate_effective] at hchange
  unfold capUpdate
  dsimp only
  rw [if_neg fun hsame => hchange ((congrArg (fun l => (lowestLimit l).1) hlimits.symm).trans (hsame.1.trans hold))]
  exact State.raise_sets _ _ _ (by decide)

/-! ## A write of the cap (R482) -/

/-- The reason that a written cap shows. -/
def capReason (v : Nat) : Nat := if bits v 18 16 = 0 ∨ bits v 18 16 = 3 ∨ bits v 18 16 = 4 then bits v 18 16 else 0

/-- The cap that a written value asks for. -/
def capAsked (v : Nat) : Nat := max 1500 (min 20000 (bits v 15 0))

/-- A wafer that has taken a written cap. -/
def capTaken (w path v : Nat) (s : State) : State :=
  let s1 := ((s.wr PWR_CAP_CAP_W w 0 (capAsked v)).wr PWR_CAP_REASON w 0 (capReason v)).wr PWR_CAP_PLAN_ID w 0 (bits v 31 20)
  if path = 1 then s1.modWafers w fun x => { x with planCap := capAsked v } else s1

theorem capWrite_eq (w path v : Nat) (s : State) : capWrite w path v s = capUpdate w path (b2n (decide (capAsked v ≠ bits v 15 0))) (capTaken w path v s) := rfl

theorem capTaken_rd (w path v : Nat) (s : State) (f : Fld) (x : Nat) :
    (capTaken w path v s).rd f x 0 = (((s.wr PWR_CAP_CAP_W w 0 (capAsked v)).wr PWR_CAP_REASON w 0 (capReason v)).wr PWR_CAP_PLAN_ID w 0 (bits v 31 20)).rd f x 0 := by
  unfold capTaken
  dsimp only
  split
  · exact State.rd_modWafers ..
  · rfl

theorem capAsked_le (v : Nat) : capAsked v ≤ 20000 := by unfold capAsked; omega

theorem capTaken_shows (w path v : Nat) (s : State) : (capTaken w path v s).rd PWR_CAP_CAP_W w 0 = capAsked v ∧ (capTaken w path v s).rd PWR_CAP_REASON w 0 = capReason v ∧
    (capTaken w path v s).rd PWR_CAP_PLAN_ID w 0 = bits v 31 20 := by
  have hcap := capAsked_le v
  have hreason : capReason v < 2 ^ 3 := by unfold capReason; split <;> omega
  have hplan : bits v 31 20 < 2 ^ 12 := Nat.mod_lt _ (by decide)
  have hfits : capAsked v < 2 ^ 16 := hcap.trans_lt (by decide)
  simp only [capTaken_rd]
  refine ⟨?_, ?_, ?_⟩
  · rw [State.rd_wr_field _ _ _ _ _ _ (by rfl) (by decide) (by decide) (by decide), State.rd_wr_field _ _ _ _ _ _ (by rfl) (by decide) (by decide) (by decide),
      State.rd_wr_same _ _ _ _ _ (by decide) (by decide)]
    exact Nat.mod_eq_of_lt hfits
  · rw [State.rd_wr_field _ _ _ _ _ _ (by rfl) (by decide) (by decide) (by decide), State.rd_wr_same _ _ _ _ _ (by decide) (by decide)]
    exact Nat.mod_eq_of_lt hreason
  · rw [State.rd_wr_same _ _ _ _ _ (by decide) (by decide)]
    exact Nat.mod_eq_of_lt hplan

theorem capTaken_planCap (w v : Nat) (s : State) : ((capTaken w 1 v s).getWafers w).planCap = capAsked v := by
  rw [capTaken, if_pos rfl, State.getWafers_modWafers_same]

theorem capWrite_shows (w path v : Nat) (s : State) : (capWrite w path v s).rd PWR_CAP_CAP_W w 0 = capAsked v ∧ (capWrite w path v s).rd PWR_CAP_REASON w 0 = capReason v ∧
    (capWrite w path v s).rd PWR_CAP_PLAN_ID w 0 = bits v 31 20 := by
  obtain ⟨hcap, hreason, hplan⟩ := capTaken_shows w path v s
  rw [capWrite_eq]
  exact ⟨((capUpdate_keeps ..).rd _ _ _ (by decide) (by decide +kernel)).trans hcap, ((capUpdate_keeps ..).rd _ _ _ (by decide) (by decide +kernel)).trans hreason,
    ((capUpdate_keeps ..).rd _ _ _ (by decide) (by decide +kernel)).trans hplan⟩

theorem capWrite_planCap (w v : Nat) (s : State) : ((capWrite w 1 v s).getWafers w).planCap = capAsked v := by
  rw [capWrite_eq, (capUpdate_keeps ..).getWafers (by decide +kernel), capTaken_planCap]

theorem capWrite_effective (w path v : Nat) (s : State) : (capWrite w path v s).rd PWR_CAP_EFF_EFF_W w 0 = (lowestLimit ((capWrite w path v s).capLimits w)).1 := by
  rw [capWrite_eq, capUpdate_limits, capUpdate_effective]

theorem capWrite_raises (w path v : Nat) (s : State) (hchange : (capWrite w path v s).rd PWR_CAP_EFF_EFF_W w 0 ≠ s.rd PWR_CAP_EFF_EFF_W w 0) :
    (capWrite w path v s).leafSet w Leaf.capChanged = true := by
  have hold : (capTaken w path v s).rd PWR_CAP_EFF_EFF_W w 0 = s.rd PWR_CAP_EFF_EFF_W w 0 := by
    rw [capTaken_rd, State.rd_wr_id _ _ _ _ _ _ _ _ (by decide), State.rd_wr_id _ _ _ _ _ _ _ _ (by decide), State.rd_wr_id _ _ _ _ _ _ _ _ (by decide)]
  rw [capWrite_eq] at hchange ⊢
  exact capUpdate_raises _ _ _ _ (hold.symm ▸ hchange)

/-- A wafer's cap is not another's. -/
theorem capWrite_other {v : Nat} (path x : Nat) (s : State) (h : v ≠ w) : (capWrite w path x s).rd PWR_CAP_CAP_W v 0 = s.rd PWR_CAP_CAP_W v 0 ∧
    (capWrite w path x s).getWafers v = s.getWafers v := by
  constructor
  · rw [capWrite_eq, (capUpdate_keeps ..).rd _ _ _ (by decide) (by decide +kernel), capTaken_rd, State.rd_wr_ne _ _ _ _ _ _ _ _ (.inr (.inl h)), State.rd_wr_ne _ _ _ _ _ _ _ _ (.inr (.inl h)),
      State.rd_wr_ne _ _ _ _ _ _ _ _ (.inr (.inl h))]
  · rw [capWrite_eq, (capUpdate_keeps ..).getWafers (by decide +kernel), capTaken]
    split
    · rw [State.modWafers, State.getWafers_putWafers, if_neg h, State.getWafers_wr, State.getWafers_wr, State.getWafers_wr]
    · rw [State.getWafers_wr, State.getWafers_wr, State.getWafers_wr]

/-! ## Barrier balance (R495) -/

theorem planCapTo_shows (w : Nat) {cap : Nat} (hlo : 1500 ≤ cap) (hhi : cap ≤ 20000) (s : State) :
    (planCapTo w cap s).rd PWR_CAP_CAP_W w 0 = cap ∧ ((planCapTo w cap s).getWafers w).planCap = cap := by
  have hasked : capAsked (cap + s.rd PWR_CAP_REASON w 0 * 2 ^ 16 + s.rd PWR_CAP_PLAN_ID w 0 * 2 ^ 20) = cap := by
    have hlow : bits (cap + s.rd PWR_CAP_REASON w 0 * 2 ^ 16 + s.rd PWR_CAP_PLAN_ID w 0 * 2 ^ 20) 15 0 = cap := by
      simp only [bits, Nat.shiftRight_zero]
      omega
    rw [capAsked, hlow]
    omega
  rw [planCapTo]
  exact ⟨(capWrite_shows ..).1.trans hasked, (capWrite_planCap ..).trans hasked⟩

theorem planCapTo_other {v : Nat} (cap : Nat) (s : State) (h : v ≠ w) : (planCapTo w cap s).rd PWR_CAP_CAP_W v 0 = s.rd PWR_CAP_CAP_W v 0 ∧
    (planCapTo w cap s).getWafers v = s.getWafers v := capWrite_other 1 _ _ h

/-- The cap moved from `v` to `w`. -/
def balanced (w v b : Nat) (s : State) : Nat := min (min b 250) (min (20000 - s.rd PWR_CAP_CAP_W w 0) (s.rd PWR_CAP_CAP_W v 0 - 1500))

theorem barrierBalance_moves {v b : Nat} (hchosen : s.rack.planner.barrierBalance = true) (hactive : s.rack.planner.haveActive = true) (hne : v ≠ w)
    (hlo : 1500 ≤ s.rd PWR_CAP_CAP_W w 0) (hhi : s.rd PWR_CAP_CAP_W v 0 ≤ 20000) (hmoves : balanced w v b s ≠ 0) :
    (barrierBalance w [(v, b)] s).rd PWR_CAP_CAP_W w 0 = s.rd PWR_CAP_CAP_W w 0 + balanced w v b s ∧
    (barrierBalance w [(v, b)] s).rd PWR_CAP_CAP_W v 0 = s.rd PWR_CAP_CAP_W v 0 - balanced w v b s ∧
    ((barrierBalance w [(v, b)] s).getWafers w).planCap = s.rd PWR_CAP_CAP_W w 0 + balanced w v b s ∧
    ((barrierBalance w [(v, b)] s).getWafers v).planCap = s.rd PWR_CAP_CAP_W v 0 - balanced w v b s := by
  have heq : barrierBalance w [(v, b)] s = planCapTo w (s.rd PWR_CAP_CAP_W w 0 + balanced w v b s) (planCapTo v (s.rd PWR_CAP_CAP_W v 0 - balanced w v b s) s) := by
    rw [barrierBalance, if_neg (by simp [hchosen, hactive])]
    exact if_neg (not_or.mpr ⟨hne, hmoves⟩)
  have hbound : balanced w v b s ≤ 20000 - s.rd PWR_CAP_CAP_W w 0 ∧ balanced w v b s ≤ s.rd PWR_CAP_CAP_W v 0 - 1500 := by unfold balanced; omega
  rw [heq]
  obtain ⟨hto, hplanTo⟩ := planCapTo_shows w (cap := s.rd PWR_CAP_CAP_W w 0 + balanced w v b s) (by omega) (by omega) (planCapTo v (s.rd PWR_CAP_CAP_W v 0 - balanced w v b s) s)
  obtain ⟨hfrom, hplanFrom⟩ := planCapTo_shows v (cap := s.rd PWR_CAP_CAP_W v 0 - balanced w v b s) (by omega) (by omega) s
  obtain ⟨hcap, hwafer⟩ := planCapTo_other (w := w) (s.rd PWR_CAP_CAP_W w 0 + balanced w v b s) (planCapTo v (s.rd PWR_CAP_CAP_W v 0 - balanced w v b s) s) hne
  exact ⟨hto, hcap.trans hfrom, hplanTo, by rw [hwafer, hplanFrom]⟩

/-! ## Energy (R491, R503) -/

theorem State.getMeters_modMeters_same (s : State) (w : Nat) (g : Meter → Meter) : (s.modMeters w g).getMeters w = g (s.getMeters w) := (s.getMeters_putMeters _ _ _).trans (if_pos rfl)

theorem Keeps.holder {m : Nat} (h : Keeps m s t) (hdef : m.testBit (64 + PRT_DEF.id) = false) (hquads : m.testBit (64 + PRT_QMASK.id) = false) (w q : Nat) : t.holder w q = s.holder w q := by
  rw [State.holder, h.partOfQuad hdef hquads]
  rfl

/-- The meter after a sample that is there, and what it charges to a quadrant's holder. -/
theorem chargeSample_there {x : EnergySample} (hthere : x.missing = false) (s : State) : ∃ m,
    chargeSample w x s = (((s.putMeters w m).wr PWR_DOM_MEAS_VOLT w x.dom.val x.volt.toNat).wr PWR_DOM_MEAS_CURRENT w x.dom.val x.cur.toNat).wr PWR_DOM_MEAS_TEMP w x.dom.val x.temp.toNat ∧
    (x.dom.val < 288 → mget 0 m.period (s.holder w x.dom.val) = mget 0 (s.getMeters w).period (s.holder w x.dom.val) + x.volt.toNat * x.cur.toNat) := by
  unfold chargeSample
  dsimp only
  rw [if_neg (by simp [hthere]), if_neg (by simp [hthere])]
  refine ⟨_, rfl, fun hquad => ?_⟩
  have hkind : domKind x.dom.val = 0 := if_pos hquad
  simp [State.chargeOf, hkind, addAcc, State.sampleEnergy, hthere]

theorem chargeSample_fourth {x : EnergySample} {s : State} (hmissing : x.missing = true) (hfourth : mget 0 (s.getMeters w).missed x.dom.val = 3) :
    ∃ m, chargeSample w x s = (s.putMeters w m).raise w Leaf.sensorLost := by
  unfold chargeSample
  dsimp only
  rw [if_pos (by simp [hmissing, hfourth]), if_pos hmissing]
  exact ⟨_, rfl⟩

/-- A wafer that begins a sample. -/
def sampleBegun (w bus : Nat) (s : State) : State := (s.wr PWR_BUS_BUS w 0 bus).modMeters w fun m => { m with sample := [] }

theorem sampleBegun_keeps (w bus : Nat) (s : State) : Keeps (regBit PWR_BUS ||| 0x200000000) s (sampleBegun w bus s) := (State.wr_keeps s PWR_BUS_BUS w 0 bus).trans (State.putMeters_keeps ..)

theorem sampleBegun_meter (w bus : Nat) (s : State) : (sampleBegun w bus s).getMeters w = { s.getMeters w with sample := [] } := State.getMeters_modMeters_same ..

theorem energySample_one (w bus : Nat) (x : EnergySample) (s : State) : energySample w bus [] [x] s = chargeSample w x (sampleBegun w bus s) := rfl

theorem energySample_there {x : EnergySample} (bus : Nat) (hthere : x.missing = false) (s : State) :
    (energySample w bus [] [x] s).rd PWR_BUS_BUS w 0 = bus % 2 ^ PWR_BUS_BUS.width ∧ (energySample w bus [] [x] s).rd PWR_DOM_MEAS_CURRENT w x.dom.val = x.cur.toNat ∧
    (energySample w bus [] [x] s).rd PWR_DOM_MEAS_VOLT w x.dom.val = x.volt.toNat ∧ (x.dom.val < 288 →
      mget 0 ((energySample w bus [] [x] s).getMeters w).period (s.holder w x.dom.val) = mget 0 (s.getMeters w).period (s.holder w x.dom.val) + x.volt.toNat * x.cur.toNat) := by
  obtain ⟨m, heq, hperiod⟩ := chargeSample_there (w := w) hthere (sampleBegun w bus s)
  have hbus : (chargeSample w x (sampleBegun w bus s)).rd PWR_BUS_BUS w 0 = (sampleBegun w bus s).rd PWR_BUS_BUS w 0 := (chargeSample_keeps ..).rd _ _ _ (by decide) (by decide +kernel)
  have hholder : (sampleBegun w bus s).holder w x.dom.val = s.holder w x.dom.val := (sampleBegun_keeps w bus s).holder (by decide +kernel) (by decide +kernel) _ _
  rw [energySample_one]
  refine ⟨hbus.trans (State.rd_wr_same s PWR_BUS_BUS w 0 bus (by decide) (by decide)), ?_, ?_, fun hquad => ?_⟩
  · rw [heq, State.rd_wr_field _ _ _ _ _ _ (by rfl) (by decide) (by decide) (by decide), State.rd_wr_same _ _ _ _ _ (by decide) (by decide)]
    exact Nat.mod_eq_of_lt x.cur.isLt
  · rw [heq, State.rd_wr_field _ _ _ _ _ _ (by rfl) (by decide) (by decide) (by decide), State.rd_wr_field _ _ _ _ _ _ (by rfl) (by decide) (by decide) (by decide),
      State.rd_wr_same _ _ _ _ _ (by decide) (by decide)]
    exact Nat.mod_eq_of_lt x.volt.isLt
  · have hcharged := hperiod hquad
    rw [hholder, sampleBegun_meter] at hcharged
    rw [heq, State.getMeters_wr, State.getMeters_wr, State.getMeters_wr, State.getMeters_putMeters, if_pos rfl, hcharged]

theorem energySample_fourth {x : EnergySample} (bus : Nat) {s : State} (hmissing : x.missing = true) (hfourth : mget 0 (s.getMeters w).missed x.dom.val = 3) :
    (energySample w bus [] [x] s).leafSet w Leaf.sensorLost = true ∧ (energySample w bus [] [x] s).reg PWR_DOM_MEAS w x.dom.val = s.reg PWR_DOM_MEAS w x.dom.val := by
  obtain ⟨m, heq⟩ := chargeSample_fourth (w := w) (s := sampleBegun w bus s) hmissing (by rw [sampleBegun_meter]; exact hfourth)
  have hput := ((sampleBegun_keeps w bus s).trans (State.putMeters_keeps _ w m)).trans (State.raise_keeps _ w Leaf.sensorLost)
  rw [energySample_one, heq]
  exact ⟨State.raise_sets _ _ _ (by decide), hput.regs _ _ _ (by decide) (by decide +kernel)⟩

/-- The whole millijoules of one account's heading. -/
def integrateOne (w : Nat) (x : Nat × Nat) (t : State) : State :=
  if x.2 / 100000000 = 0 then t
  else if x.1 / 8 = 0 then (t.incWrap TEL_WE_MJ w (x.1 % 8) (x.2 / 100000000)).incWrap TEL_WE_OVERHEAD_MJ w 0 (x.2 / 100000000)
  else ((t.incWrap TEL_WE_MJ w (x.1 % 8) (x.2 / 100000000)).incWrap TEL_PE_MJ w (x.1 / 8 * 64 + x.1 % 8) (x.2 / 100000000)).incWrap TEL_PE_TOTAL_COUNT w (x.1 / 8 * 64) (x.2 / 100000000)

/-- A wafer whose accounts keep the fractions. -/
def fractionsKept (w : Nat) (s : State) : State :=
  s.putMeters w { s.getMeters w with acc := (s.getMeters w).acc.filterMap fun x => if x.2 % 100000000 = 0 then none else some (x.1, x.2 % 100000000) }

theorem energyIntegrate_eq (w : Nat) (s : State) : energyIntegrate w s = forEach (s.getMeters w).acc (fractionsKept w s) (integrateOne w) := rfl

theorem State.getMeters_incWrap (s : State) (f : Fld) (w i n k : Nat) : (s.incWrap f w i n).getMeters k = s.getMeters k := rfl

theorem integrateOne_meter (x : Nat × Nat) (t : State) : (integrateOne w x t).getMeters w = t.getMeters w := by
  unfold integrateOne
  split
  · rfl
  · split <;> simp only [State.getMeters_incWrap]

theorem energyIntegrate_fractions (w : Nat) (s : State) : ∀ x ∈ ((energyIntegrate w s).getMeters w).acc, x.2 < 100000000 := by
  have hmeter : (energyIntegrate w s).getMeters w = (fractionsKept w s).getMeters w := (congrArg (State.getMeters · w) (energyIntegrate_eq w s)).trans
    (forEach_leaves (State.getMeters · w) _ _ fun x _ t => integrateOne_meter x t)
  rw [hmeter, fractionsKept, State.getMeters_putMeters, if_pos rfl]
  intro x hx
  obtain ⟨y, -, hy⟩ := List.mem_filterMap.mp hx
  split at hy
  · cases hy
  · cases hy
    exact Nat.mod_lt _ (by decide)

theorem energyIntegrate_overhead {h v : Nat} (hheading : h < 6) (hacc : (s.getMeters w).acc = [(h, v)]) :
    (energyIntegrate w s).rd TEL_WE_OVERHEAD_MJ w 0 = (s.rd TEL_WE_OVERHEAD_MJ w 0 + v / 100000000) % 2 ^ TEL_WE_OVERHEAD_MJ.width := by
  have hone : energyIntegrate w s = integrateOne w (h, v) (fractionsKept w s) := by
    rw [energyIntegrate_eq, hacc]
    rfl
  have hkept : (fractionsKept w s).rd TEL_WE_OVERHEAD_MJ w 0 = s.rd TEL_WE_OVERHEAD_MJ w 0 := State.rd_putMeters ..
  rw [hone, integrateOne]
  dsimp only
  split
  · rename_i hzero
    rw [hkept, hzero, Nat.add_zero]
    exact (Nat.mod_eq_of_lt (s.rd_lt TEL_WE_OVERHEAD_MJ w 0)).symm
  · rw [if_pos (by omega), State.incWrap, State.rd_wr_same _ _ _ _ _ (by decide) (by decide), State.incWrap, State.rd_wr_id _ _ _ _ _ _ _ _ (by decide), hkept]
    rfl

/-! ## The cap loop and the envelope (R485-R487) -/

/-- A wafer that begins a period's turn of the loop. -/
def loopBegun (w : Nat) (s : State) : State :=
  (accrue w s).putMeters w { (accrue w s).getMeters w with standing := (mget 0 ((accrue w s).getMeters w).period 0 :: ((accrue w s).getMeters w).standing).take 100 }

/-- What the loop weighs. -/
def loopWeighed (w : Nat) (s : State) : List (Load1 × Nat) × Bool :=
  (loopBegun w s).allotments w ((loopBegun w s).rd PWR_OPP_STAT_POINT w 0) ((accrue w s).getMeters w).period

/-- A wafer whose loop has raised that the declared draws do not fit. -/
def loopRaised (w : Nat) (s : State) : State := if (loopWeighed w s).2 then (loopBegun w s).raise w Leaf.floorShort else loopBegun w s

/-- A wafer whose loop has parked groups, and released those that its hysteresis allows. -/
def loopReleased (w : Nat) (s : State) : State :=
  releaseUnder w ((if (loopRaised w s).rd PWR_LOOP_HYST_W w 0 = 0 then 300 else (loopRaised w s).rd PWR_LOOP_HYST_W w 0) * 10000000) (loopWeighed w s).1 64
    (parkOver w (loopWeighed w s).1 256 (loopRaised w s))

/-- A wafer whose loop has let groups take each other's place. -/
def loopParked (w : Nat) (s : State) : State := forEach (loopWeighed w s).1 (loopReleased w s) fun x t => dwellSwap w x.1.part t

/-- A wafer whose loop shows what it holds. -/
def loopShown (w : Nat) (s : State) : State := loopSync w (loopWeighed w s).1 (loopParked w s)

theorem capLoop_eq (w : Nat) (s : State) : capLoop w s =
    (((loopShown w s).wrSat PWR_DRAW_DRAW_W w 0 (((accrue w s).getMeters w).period.foldl (fun n x => n + x.2) 0 / 10000000)).wrSat PWR_DRAW_SETPOINT_W w 0
      ((loopShown w s).setpoint w)).modMeters w fun m => { m with period := [] } := by
  simp only [capLoop, loopShown, loopParked, loopReleased, loopRaised, loopWeighed, loopBegun]
  rfl

theorem loopRaised_keeps (w : Nat) (s : State) : Keeps 0x14c004600000000000000000000000000000000000000000000000000000000000000000000000010 (loopBegun w s) (loopRaised w s) :=
  .ite (State.raise_keeps ..) (.refl ..)

theorem loopParked_charges (w : Nat) (s : State) : SameCharges w (loopBegun w s) (loopParked w s) := by
  have hraised : SameCharges w (loopBegun w s) (loopRaised w s) := .of_keeps (loopRaised_keeps w s) (by decide +kernel)
  have hreleased : SameCharges w (loopRaised w s) (loopReleased w s) := (parkOver_charges w _ 256 (loopRaised w s)).trans (releaseUnder_charges ..)
  have hturns := forEach_relates (R := SameCharges w) (SameCharges.refl w) SameCharges.trans (fun (x : Load1 × Nat) t => dwellSwap_charges w x.1.part t) (loopWeighed w s).1 (loopReleased w s)
  exact (hraised.trans hreleased).trans hturns

theorem loopShown_charges (w : Nat) (s : State) : SameCharges w (loopBegun w s) (loopShown w s) := (loopParked_charges w s).trans (.of_keeps (loopSync_keeps ..) (by decide +kernel))

theorem loopParked_keeps (w : Nat) (s : State) : Keeps (0x14c004600000000000000000000000000000000000000000000000000000000000000000000000010 ||| 0x6004000000000000000000000000000000000000000000000000000220000000) s (loopParked w s) := by
  have hbegun : Keeps 0x6004000000000000000000000000000000000000000000000000000220000000 s (loopBegun w s) :=
    .next (State.putMeters_keeps ..) (by decide +kernel) ((accrue_keeps w s).widen (by decide +kernel))
  have hraised := (hbegun.trans (loopRaised_keeps w s)).trans (parkOver_keeps w (loopWeighed w s).1 256 (loopRaised w s))
  have hreleased : Keeps _ s (loopReleased w s) := hraised.trans (releaseUnder_keeps ..)
  rw [loopParked]
  exact forEach_keeps (fun (x : Load1 × Nat) t => (dwellSwap_keeps w x.1.part t).widen (by decide +kernel)) (loopWeighed w s).1 (hreleased.widen (by decide +kernel))

theorem State.getMeters_wrSat (s : State) (f : Fld) (w i v k : Nat) : (s.wrSat f w i v).getMeters k = s.getMeters k := State.getMeters_wr ..

/-- What the loop shows leaves the effective cap. -/
theorem loopSync_effective (w : Nat) (xs : List (Load1 × Nat)) (s : State) : (loopSync w xs s).rd PWR_CAP_EFF_EFF_W w 0 = s.rd PWR_CAP_EFF_EFF_W w 0 := by
  have hallot : ∀ (x : Load1 × Nat) t, Keeps (regBit PWR_PART_ALLOT) t ((t.wrSat PWR_PART_ALLOT_ALLOT_W w x.1.part (x.2 / 10000000)).wr PWR_PART_ALLOT_PARKED w x.1.part (t.capHeld w x.1.part).length) :=
    fun x t => ((State.wrSat_keeps t PWR_PART_ALLOT_ALLOT_W ..).trans (State.wr_keeps ..)).widen (by decide +kernel)
  have hallots : ∀ t, Keeps (regBit PWR_PART_ALLOT) t (forEach xs t fun x t => (t.wrSat PWR_PART_ALLOT_ALLOT_W w x.1.part (x.2 / 10000000)).wr PWR_PART_ALLOT_PARKED w x.1.part (t.capHeld w x.1.part).length) :=
    fun t => forEach_keeps hallot xs (.refl ..)
  rw [loopSync, (hallots _).rd _ _ _ (by decide) (by decide +kernel), State.rd_wr_field _ _ _ _ _ _ (by rfl) (by decide) (by decide) (by decide)]

theorem loopShown_setpoint (w : Nat) (s : State) : (loopShown w s).setpoint w = s.setpoint w := by
  rw [State.setpoint, State.setpoint, loopShown, loopSync_effective, (loopSync_keeps ..).rd PWR_LOOP_HEADROOM_W _ _ (by decide) (by decide +kernel),
    (loopParked_keeps w s).rd _ _ _ (by decide) (by decide +kernel), (loopParked_keeps w s).rd _ _ _ (by decide) (by decide +kernel)]

theorem capLoop_shows (w : Nat) (s : State) : ((capLoop w s).getMeters w).period = [] ∧ ((capLoop w s).getMeters w).standing = (mget 0 (s.getMeters w).period 0 :: (s.getMeters w).standing).take 100 ∧
    (capLoop w s).rd PWR_DRAW_DRAW_W w 0 = min ((s.getMeters w).period.foldl (fun n x => n + x.2) 0 / 10000000) (2 ^ PWR_DRAW_DRAW_W.width - 1) ∧
    (capLoop w s).rd PWR_DRAW_SETPOINT_W w 0 = min (s.setpoint w) (2 ^ PWR_DRAW_SETPOINT_W.width - 1) := by
  have haccrued := accrue_charges (w := w) w s
  have hbegun : ((loopBegun w s).getMeters w).standing = (mget 0 (s.getMeters w).period 0 :: (s.getMeters w).standing).take 100 := by
    rw [loopBegun, State.getMeters_putMeters, if_pos rfl, haccrued.period, haccrued.standing]
  rw [capLoop_eq, State.getMeters_modMeters_same, State.getMeters_wrSat, State.getMeters_wrSat]
  refine ⟨rfl, ?_, ?_, ?_⟩
  · exact (loopShown_charges w s).standing.trans hbegun
  · rw [State.modMeters, State.rd_putMeters, State.wrSat, State.rd_wr_field _ _ _ _ _ _ (by rfl) (by decide) (by decide) (by decide), State.rd_wrSat_same _ _ _ _ _ (by decide) (by decide), haccrued.period]
  · rw [State.modMeters, State.rd_putMeters, State.rd_wrSat_same _ _ _ _ _ (by decide) (by decide), loopShown_setpoint]

theorem envelopeStep_raises (hover : 20000 * 1000000 < (s.getMeters w).sample.foldl (fun n x => n + x.2) 0) : (envelopeStep w s).leafSet w Leaf.envelope = true ∧
    (envelopeStep w s).rd PWR_GUARDS_ENVELOPE w 0 = satAdd PWR_GUARDS_ENVELOPE.width (s.rd PWR_GUARDS_ENVELOPE w 0) 1 := by
  unfold envelopeStep
  dsimp only
  rw [if_neg (Nat.not_le.mpr hover)]
  refine ⟨(State.leafSet_of_keeps (loopSync_keeps ..) (by decide +kernel) ..).trans (State.raise_sets _ _ _ (by decide)), ?_⟩
  rw [(loopSync_keeps ..).rd _ _ _ (by decide) (by decide +kernel), (State.raise_keeps ..).rd _ _ _ (by decide) (by decide +kernel), State.rd_bump_same _ _ _ _ _ (by decide) (by decide),
    (parkOver_keeps ..).rd _ _ _ (by decide) (by decide +kernel)]

/-! ## The snapshot (R505) -/

/-- The copies of one counter into the snapshot. -/
def copyCounter (w : Nat) (val : Reg × Nat → Nat → Nat) (r : Reg × Nat) (s : State) : State := forEach (List.range r.2) s fun i t => t.setReg r.1 w i (val r i)

theorem copyCounter_other (val : Reg × Nat → Nat → Nat) {r : Reg × Nat} {q : Reg} (hne : q.id ≠ r.1.id) (i : Nat) (s : State) : (copyCounter w val r s).reg q w i = s.reg q w i :=
  forEach_leaves (State.reg · q w i) _ s fun _ _ _ => State.reg_setReg_id _ _ _ _ _ _ _ _ hne

theorem copyCounter_shows (val : Reg × Nat → Nat → Nat) (r : Reg × Nat) (s : State) : ∀ i < r.2, (copyCounter w val r s).reg r.1 w i = val r i % 2 ^ 64 := fun i hi =>
  forEach_establishes (Q := fun _ _ => True) (P := fun i t => t.reg r.1 w i = val r i % 2 ^ 64) (fun _ _ _ => State.reg_setReg_same ..) (fun _ _ _ _ _ => trivial)
    (fun _ _ _ hne h => (State.reg_setReg_ne _ _ _ _ _ _ _ _ (.inr (.inr hne))).trans h) List.nodup_range (fun _ _ => trivial) i (List.mem_range.mpr hi)

theorem copyCounters_show (val : Reg × Nat → Nat → Nat) {rs : List (Reg × Nat)} (hdistinct : rs.Pairwise fun a b => a.1.id ≠ b.1.id) (s : State) :
    ∀ r ∈ rs, ∀ i < r.2, (forEach rs s (copyCounter w val)).reg r.1 w i = val r i % 2 ^ 64 := by
  induction rs generalizing s with
  | nil => exact fun r hr => nomatch hr
  | cons a rs ih =>
    obtain ⟨hfirst, hrest⟩ := List.pairwise_cons.mp hdistinct
    intro r hr i hi
    obtain rfl | hr := List.mem_cons.mp hr
    · exact (forEach_leaves (State.reg · r.1 w i) rs _ fun b hb t => copyCounter_other val (hfirst b hb) i t).trans (copyCounter_shows val r s i hi)
    · exact ih hrest (copyCounter w val a s) r hr i hi

/-- A wafer that begins a snapshot. -/
def snapBegun (w p : Nat) (s : State) : State := (s.wr TEL_SEL_PART w 0 p).setReg TEL_SNAP_TIME w 0 (s.tbNow w)

/-- What a snapshot copies. -/
def snapValue (w p : Nat) (s : State) (r : Reg × Nat) (i : Nat) : Nat := if p < 288 then s.reg r.1 w ((p + 1) * 64 + i) else 0

theorem telSnapshot_eq (w p : Nat) (s : State) : telSnapshot w p s = forEach telRegs (snapBegun w p (accrue w s)) (copyCounter w (snapValue w p (accrue w s))) := rfl

theorem telSnapshot_shows {p : Nat} (hp : p < 288) (s : State) : (telSnapshot w p s).rd TEL_SEL_PART w 0 = p ∧ (telSnapshot w p s).reg TEL_SNAP_TIME w 0 = s.tbNow w ∧
    ∀ r ∈ telRegs, ∀ i < r.2, (telSnapshot w p s).reg r.1 w i = (accrue w s).reg r.1 w ((p + 1) * 64 + i) := by
  have hapart : ∀ q : Reg, q.id = TEL_SEL.id ∨ q.id = TEL_SNAP_TIME.id → (telSnapshot w p s).reg q w 0 = (snapBegun w p (accrue w s)).reg q w 0 := fun q hq => by
    have hids : ∀ r ∈ telRegs, r.1.id ≠ TEL_SEL.id ∧ r.1.id ≠ TEL_SNAP_TIME.id := by decide
    rw [telSnapshot_eq]
    refine forEach_leaves (State.reg · q w 0) _ _ fun r hr t => copyCounter_other _ (fun h => ?_) 0 t
    obtain ⟨hsel, htime⟩ := hids r hr
    exact hq.elim (fun hq => hsel (h ▸ hq)) (fun hq => htime (h ▸ hq))
  refine ⟨?_, ?_, fun r hr i hi => ?_⟩
  · have hsel : (telSnapshot w p s).rd TEL_SEL_PART w 0 = (snapBegun w p (accrue w s)).rd TEL_SEL_PART w 0 := congrArg (bits · 8 0) (hapart TEL_SEL (.inl rfl))
    rw [hsel, snapBegun, State.rd_setReg_id _ _ _ _ _ _ _ _ (by decide), State.rd_wr_same _ _ _ _ _ (by decide) (by decide)]
    exact Nat.mod_eq_of_lt (hp.trans (by decide))
  · rw [hapart _ (.inr rfl), snapBegun, State.reg_setReg_same, Nat.mod_eq_of_lt (State.tbNow_lt ..), State.tbNow_of_keeps (accrue_keeps ..) (by decide +kernel)]
  · rw [telSnapshot_eq, copyCounters_show _ (by decide) _ r hr i hi, snapValue, if_pos hp, Nat.mod_eq_of_lt (State.reg_lt ..)]

/-! ## The guards (R489) -/

theorem State.groupRuns_modParks {q x : Nat} {g : ParkQ → ParkQ} (hg : (g (s.getParks (parkKey w q))).wanted = (s.getParks (parkKey w q)).wanted) :
    (s.modParks (parkKey w q) g).groupRuns w (q, x) = s.groupRuns w (q, x) := by
  rw [State.groupRuns, State.getParks_modParks_same, hg]
  rfl

theorem State.topGroups_modParks {q n : Nat} {g : ParkQ → ParkQ} (hg : (g (s.getParks (parkKey w q))).wanted = (s.getParks (parkKey w q)).wanted) :
    (s.modParks (parkKey w q) g).topGroups w q n = s.topGroups w q n := by
  simp only [State.topGroups, State.groupRuns_modParks hg]

/-- A guard's requests, and the counts that follow. -/
theorem guardSync_requests (w q : Nat) (g : ParkQ → ParkQ) (s : State) :
    ∃ retain gate, (guardSync w (setParkReq w q g s)).getParks (parkKey w q) = { g (s.getParks (parkKey w q)) with toRetain := retain, toGate := gate } := by
  rw [(guardSync_keeps ..).getParks (by decide +kernel)]
  exact setParkReq_requests w q g s

/-- A quadrant that has taken a sample of its supply. -/
def droopSeen (w q volt : Nat) (s : State) : State :=
  s.modParks (parkKey w q) fun y => { y with low := decide (volt + s.rd PWR_DROOP_CFG_MARGIN_MV w 0 < s.targetSupply w q), good := decide (s.targetSupply w q ≤ volt + 20) }

theorem droopSample_eq (w q volt : Nat) (s : State) : droopSample w q volt s =
    if s.domState w q = 3 ∧ ((decide (volt + s.rd PWR_DROOP_CFG_MARGIN_MV w 0 < s.targetSupply w q) = true ∧ (s.getParks (parkKey w q)).low = true) ∨ volt ≤ 500) then
      guardSync w (setParkReq w q (fun y => { y with
        droop := y.droop ||| (droopSeen w q volt s).topGroups w q 2, guardAt := if (droopSeen w q volt s).topGroups w q 2 = 0 then y.guardAt else some s.now }) (droopSeen w q volt s))
    else droopSeen w q volt s := rfl

theorem droopSample_shows (w q volt : Nat) (s : State) : ((droopSample w q volt s).getParks (parkKey w q)).low = decide (volt + s.rd PWR_DROOP_CFG_MARGIN_MV w 0 < s.targetSupply w q) ∧
    ((droopSample w q volt s).getParks (parkKey w q)).good = decide (s.targetSupply w q ≤ volt + 20) ∧
    ((droopSample w q volt s).getParks (parkKey w q)).droop =
      if s.domState w q = 3 ∧ ((volt + s.rd PWR_DROOP_CFG_MARGIN_MV w 0 < s.targetSupply w q ∧ (s.getParks (parkKey w q)).low = true) ∨ volt ≤ 500)
      then (s.getParks (parkKey w q)).droop ||| s.topGroups w q 2 else (s.getParks (parkKey w q)).droop := by
  have hseen : (droopSeen w q volt s).getParks (parkKey w q) = { s.getParks (parkKey w q) with
      low := decide (volt + s.rd PWR_DROOP_CFG_MARGIN_MV w 0 < s.targetSupply w q), good := decide (s.targetSupply w q ≤ volt + 20) } := State.getParks_modParks_same ..
  have htop : (droopSeen w q volt s).topGroups w q 2 = s.topGroups w q 2 := State.topGroups_modParks rfl
  rw [droopSample_eq]
  simp only [decide_eq_true_eq]
  split
  · obtain ⟨retain, gate, hparks⟩ := guardSync_requests w q (fun y => { y with
      droop := y.droop ||| (droopSeen w q volt s).topGroups w q 2, guardAt := if (droopSeen w q volt s).topGroups w q 2 = 0 then y.guardAt else some s.now }) (droopSeen w q volt s)
    rw [hparks, htop, hseen]
    exact ⟨rfl, rfl, rfl⟩
  · rw [hseen]
    exact ⟨rfl, rfl, rfl⟩

theorem droopRelease_shows (w q : Nat) (s : State) : ((droopRelease w q s).getParks (parkKey w q)).droop =
    if (s.getParks (parkKey w q)).good then dropLow (s.getParks (parkKey w q)).droop else (s.getParks (parkKey w q)).droop := by
  unfold droopRelease
  split
  · obtain ⟨retain, gate, hparks⟩ := guardSync_requests w q (fun y => { y with droop := dropLow y.droop }) s
    rw [hparks]
  · rfl

theorem currentRelease_shows (w q : Nat) (s : State) : ((currentRelease w q s).getParks (parkKey w q)).cur =
    if (s.getParks (parkKey w q)).cool then dropLow (s.getParks (parkKey w q)).cur else (s.getParks (parkKey w q)).cur := by
  unfold currentRelease
  split
  · obtain ⟨retain, gate, hparks⟩ := guardSync_requests w q (fun y => { y with cur := dropLow y.cur }) s
    rw [hparks]
  · rfl

/-- A quadrant that has taken a sample of its current. -/
def currentSeen (w q cur : Nat) (s : State) : State := s.modParks (parkKey w q) fun y => { y with cool := decide (cur < 120000) }

theorem currentSample_eq (w q cur : Nat) (s : State) : currentSample w q cur s =
    if s.domState w q = 3 ∧ 140000 < cur then
      guardSync w (setParkReq w q (fun y => { y with
        cur := y.cur ||| (currentSeen w q cur s).topGroups w q 1, guardAt := if (currentSeen w q cur s).topGroups w q 1 = 0 then y.guardAt else some s.now }) (currentSeen w q cur s))
    else currentSeen w q cur s := rfl

theorem currentSample_shows (w q cur : Nat) (s : State) : ((currentSample w q cur s).getParks (parkKey w q)).cool = decide (cur < 120000) ∧
    ((currentSample w q cur s).getParks (parkKey w q)).cur =
      if s.domState w q = 3 ∧ 140000 < cur then (s.getParks (parkKey w q)).cur ||| s.topGroups w q 1 else (s.getParks (parkKey w q)).cur := by
  have hseen : (currentSeen w q cur s).getParks (parkKey w q) = { s.getParks (parkKey w q) with cool := decide (cur < 120000) } := State.getParks_modParks_same ..
  have htop : (currentSeen w q cur s).topGroups w q 1 = s.topGroups w q 1 := State.topGroups_modParks rfl
  rw [currentSample_eq]
  split
  · obtain ⟨retain, gate, hparks⟩ := guardSync_requests w q (fun y => { y with
      cur := y.cur ||| (currentSeen w q cur s).topGroups w q 1, guardAt := if (currentSeen w q cur s).topGroups w q 1 = 0 then y.guardAt else some s.now }) (currentSeen w q cur s)
    rw [hparks, htop, hseen]
    exact ⟨rfl, rfl⟩
  · rw [hseen]
    exact ⟨rfl, rfl⟩

end

end Sys2Proof.Machine
open Sys2Proof Sys2Proof.Machine

/-- Settles O42: the effective cap is the lowest limit after every change of one, the loop leaves the energies that it weighs, and a guard adds to its own requests only. -/
theorem cappingAndGuards : Obligations.CappingAndGuards := by
  unfold Obligations.CappingAndGuards
  refine ⟨fun w s => ?_, fun w q s => ?_⟩
  · intro m
    refine ⟨fun path v => ?_, fun bus x => ?_, ⟨_, rfl, energyIntegrate_fractions w s, fun h v hh hacc => energyIntegrate_overhead hh hacc⟩, ⟨_, rfl, capLoop_shows w s⟩,
      fun hover => ⟨_, rfl, envelopeStep_raises hover⟩, fun p hp => ⟨_, rfl, telSnapshot_shows hp s⟩, fun v b => ?_⟩
    · intro cap r
      obtain ⟨hcap, hreason, hplan⟩ := capWrite_shows w path v.toNat s
      refine ⟨_, rfl, hcap, hreason, hplan, capWrite_effective .., ?_, fun hpath => ?_, capWrite_raises _ _ _ s⟩
      · rw [capWrite_effective]
        exact State.lowestLimit_capLimits ..
      · rw [hpath]
        exact capWrite_planCap ..
    · intro d
      exact ⟨fun hthere => ⟨_, rfl, energySample_there bus.toNat hthere s⟩, fun hmissing hfourth => ⟨_, rfl, energySample_fourth bus.toNat hmissing hfourth⟩⟩
    · intro a c n hchosen hactive hne hlo hhi hmoves
      exact ⟨_, rfl, barrierBalance_moves hchosen hactive (fun h => hne (Fin.ext h)) hlo hhi hmoves⟩
  · intro x low
    refine ⟨fun volt => ⟨_, rfl, ?_⟩, ⟨_, rfl, droopRelease_shows w q s⟩, fun cur => ⟨_, rfl, currentSample_shows w q cur.toNat s⟩, ⟨_, rfl, currentRelease_shows w q s⟩⟩
    exact droopSample_shows w q volt.toNat s

end

section
/-!
SUPPORT. The shelves and their BBUs (R506-R516): what each operation of a shelf changes of its fields, and the registers of shelves and coolant units through a loss of supply.
-/
set_option Elab.async false
namespace Sys2Proof.Machine

/-! ## Registers of shelves and coolant units -/

/-- The registers of the shelves and of the coolant units, which no wafer's start and no chip's reset returns. -/
def unitId (i : Nat) : Bool := (decide (201 ≤ i) && decide (i ≤ 209)) || (decide (225 ≤ i) && decide (i ≤ 228))

/-- The registers of shelves and coolant units read in `t` as in `s`. -/
structure SameUnits (s t : State) : Prop where
  reg : ∀ (r : Reg) (k i : Nat), r.id < 320 → unitId r.id = true → t.reg r k i = s.reg r k i

section
variable {s t u : State}

theorem SameUnits.refl (s : State) : SameUnits s s := ⟨fun _ _ _ _ _ => rfl⟩

theorem SameUnits.trans (h1 : SameUnits s t) (h2 : SameUnits t u) : SameUnits s u := ⟨fun r k i hr hu => (h2.reg r k i hr hu).trans (h1.reg r k i hr hu)⟩

theorem SameUnits.of_keeps {m : Nat} (h : Keeps m s t) (hm : ∀ i < 320, unitId i = true → m.testBit (64 + i) = false) : SameUnits s t :=
  ⟨fun r k i hr hu => h.regs r k i hr (hm r.id hr hu)⟩

theorem SameUnits.rd (h : SameUnits s t) (f : Fld) (k i : Nat) (hr : f.reg.id < 320) (hu : unitId f.reg.id = true) : t.rd f k i = s.rd f k i := by
  unfold State.rd
  rw [h.reg f.reg k i hr hu]

theorem resetRegs_units (w : Nat) (keep : List Reg) (s : State) : SameUnits s (resetRegs w keep s) := by
  have houtside : ∀ i < 320, unitId i = true → (i == 307 || windowRegs.any fun r => r.id == i) = false := by decide +kernel
  refine ⟨fun r k i hr hu => ?_⟩
  have hkey : keptKey w keep (r.key k i) = true := by
    simp only [keptKey, Reg.key, key3, Nat.unpair_pair, houtside r.id hr hu, Bool.not_false, Bool.or_true, Bool.true_or]
  unfold State.reg
  rw [resetRegs_regs, mget_filter, if_pos hkey]

theorem unpower_units (w : Nat) (s : State) : SameUnits s (unpower w s) :=
  (((SameUnits.of_keeps (pcieLost_keeps w s) (by decide +kernel)).trans (resetRegs_units w _ _)).trans (.of_keeps (resetWafer_keepsRegs w true (pcieLost w s)) (by decide +kernel))).trans
    (.of_keeps (unpower_keeps_reset w s) (by decide +kernel))

theorem busUndervolt_units (w : Nat) (s : State) : SameUnits s (busUndervolt w false s) := by
  unfold busUndervolt
  split
  · exact .refl s
  · exact (SameUnits.of_keeps (forceAll_keeps w _) (by decide +kernel)).trans (unpower_units w _)

/-- The registers that a chip's reset leaves: another chip's, and those of other units. -/
def chipKept (c z : Nat) : Bool :=
  !(([B72_ACT_STAT, B72_ACT_CTL, B72_EVENTS, B72_RT, B72_UPGRP, B72_PORT].map fun r => r.id).contains (Nat.unpair z).1 && (Nat.unpair (Nat.unpair z).2).1 == c)

theorem chipReset_regs (c : Nat) (s : State) : (chipReset c s).regs = s.regs.filter fun x => chipKept c x.1 := rfl

theorem chipReset_units (c : Nat) (s : State) : SameUnits s (chipReset c s) := by
  have hids : ∀ i < 320, unitId i = true → ([B72_ACT_STAT, B72_ACT_CTL, B72_EVENTS, B72_RT, B72_UPGRP, B72_PORT].map fun r => r.id).contains i = false := by decide +kernel
  refine ⟨fun r k i hr hu => ?_⟩
  have hkey : chipKept c (r.key k i) = true := by simp only [chipKept, Reg.key, key3, Nat.unpair_pair, hids r.id hr hu, Bool.false_and, Bool.not_false]
  unfold State.reg
  rw [chipReset_regs, mget_filter, if_pos hkey]

theorem switchTrayOff_units (k : Nat) (s : State) : SameUnits s (switchTrayOff k s) :=
  ((chipReset_units _ s).trans (chipReset_units _ _)).trans (.of_keeps (State.modTmcs_keeps ..) (by decide +kernel))

/-! ## BBUs -/

section
variable {h k b c : Nat}

theorem State.rd_forEach_wr (F : Fld) (hF : F.lo ≤ F.hi ∧ F.hi < 64) {v : Nat} (hv : v < 2 ^ (F.hi + 1 - F.lo)) (xs : List Nat) (h c : Nat) (s : State) :
    (forEach xs s fun b t => t.wr F h b v).rd F h c = if c ∈ xs then v else s.rd F h c := by
  induction xs generalizing s with
  | nil => simp [forEach]
  | cons x xs ih =>
    refine (ih (s.wr F h x v)).trans ?_
    by_cases hx : c = x
    · subst hx
      rw [State.rd_wr_same _ _ _ _ _ hF.1 hF.2, Nat.mod_eq_of_lt hv, if_pos List.mem_cons_self, ite_self]
    · simp only [List.mem_cons, hx, false_or, State.rd_wr_ne _ _ _ _ _ _ _ _ (.inr (.inr hx))]

theorem State.bbu_lt (s : State) (h b : Nat) : s.bbu h b < 8 := s.rd_lt BBU_STAT_STATE h b

theorem Keeps.bbu {m : Nat} (hk : Keeps m s t) (hm : m.testBit (64 + BBU_STAT.id) = false) (h b : Nat) : t.bbu h b = s.bbu h b := hk.rd BBU_STAT_STATE h b (by decide) hm

theorem mem_allBbus (hb : b < 4) : b ∈ allBbus := List.mem_range.mpr hb

theorem mem_allShelves (hh : h < 8) : h ∈ allShelves := List.mem_range.mpr hh

theorem moveBbus_bbu (from_ : List Nat) {dest : Nat} (hdest : dest < 8) (hb : b < 4) : (moveBbus h from_ dest s).bbu h b = if from_.contains (s.bbu h b) = true then dest else s.bbu h b := by
  refine (State.rd_forEach_wr BBU_STAT_STATE (by decide) hdest _ h b s).trans ?_
  simp only [List.mem_filter, mem_allBbus hb, true_and]
  rfl

/-- A move of one shelf's BBUs leaves every register of another. -/
theorem moveBbus_other (from_ : List Nat) (dest : Nat) (hne : k ≠ h) (r : Reg) (i : Nat) : (moveBbus h from_ dest s).reg r k i = s.reg r k i :=
  forEach_leaves (State.reg · r k i) _ s fun _ _ _ => State.reg_wr_ne _ _ _ _ _ _ _ _ (.inr (.inl hne))

theorem stopCharge_other (hne : k ≠ h) (r : Reg) (i : Nat) : (stopCharge h s).reg r k i = s.reg r k i :=
  (State.reg_wr_ne _ _ _ _ _ _ _ _ (.inr (.inl hne))).trans (moveBbus_other _ _ hne r i)

theorem stopCharge_watts : (stopCharge h s).rd SHF_CHG_CHG_W h 0 = 0 := by
  rw [stopCharge, State.rd_wr_same _ _ _ _ _ (by decide) (by decide)]
  rfl

theorem stopCharge_bbu (hb : b < 4) : (stopCharge h s).bbu h b = if s.bbu h b = 3 then 4 else s.bbu h b := by
  rw [stopCharge, (State.wr_keeps ..).bbu (by decide +kernel), moveBbus_bbu [3] (by decide) hb]
  simp

theorem State.bbu_of_reg (hreg : t.reg BBU_STAT h b = s.reg BBU_STAT h b) : t.bbu h b = s.bbu h b := congrArg (bits · 2 0) hreg

/-! ## The charge-inhibit pair (R515) -/

/-- One shelf's turn as the pair is shown. -/
def inhibitOne (d : Bool) (h : Nat) (t : State) : State := if d then stopCharge h (t.wr SHF_STAT_CHG_INHIBIT h 0 (b2n d)) else t.wr SHF_STAT_CHG_INHIBIT h 0 (b2n d)

theorem inhibitSync_eq (s : State) : inhibitSync s = forEach allShelves s (inhibitOne (allShelves.any s.inhibits)) := rfl

theorem b2n_lt (d : Bool) : b2n d < 2 := by cases d <;> decide

theorem inhibitOne_other (d : Bool) (hne : k ≠ h) (r : Reg) (i : Nat) : (inhibitOne d h s).reg r k i = s.reg r k i := by
  unfold inhibitOne
  split
  · exact (stopCharge_other hne r i).trans (State.reg_wr_ne _ _ _ _ _ _ _ _ (.inr (.inl hne)))
  · exact State.reg_wr_ne _ _ _ _ _ _ _ _ (.inr (.inl hne))

theorem inhibitOne_shows (d : Bool) (h : Nat) (s : State) : (inhibitOne d h s).rd SHF_STAT_CHG_INHIBIT h 0 = b2n d ∧
    (d = true → (inhibitOne d h s).rd SHF_CHG_CHG_W h 0 = 0 ∧ ∀ b < 4, (inhibitOne d h s).bbu h b ≠ 3) := by
  have hshown : (s.wr SHF_STAT_CHG_INHIBIT h 0 (b2n d)).rd SHF_STAT_CHG_INHIBIT h 0 = b2n d := by
    rw [State.rd_wr_same _ _ _ _ _ (by decide) (by decide)]
    exact Nat.mod_eq_of_lt (b2n_lt d)
  unfold inhibitOne
  split
  · refine ⟨((stopCharge_keeps ..).rd _ _ _ (by decide) (by decide +kernel)).trans hshown, fun _ => ⟨stopCharge_watts, fun b hb => ?_⟩⟩
    rw [stopCharge_bbu hb]
    split <;> omega
  · exact ⟨hshown, fun hd => absurd hd ‹_›⟩

theorem inhibitSync_shows (hk : k < 8) : (inhibitSync s).rd SHF_STAT_CHG_INHIBIT k 0 = b2n (allShelves.any s.inhibits) ∧
    (allShelves.any s.inhibits = true → (inhibitSync s).rd SHF_CHG_CHG_W k 0 = 0 ∧ ∀ b < 4, (inhibitSync s).bbu k b ≠ 3) := by
  rw [inhibitSync_eq]
  refine forEach_establishes (Q := fun _ _ => True) (P := fun k t => t.rd SHF_STAT_CHG_INHIBIT k 0 = b2n (allShelves.any s.inhibits) ∧
    (allShelves.any s.inhibits = true → t.rd SHF_CHG_CHG_W k 0 = 0 ∧ ∀ b < 4, t.bbu k b ≠ 3)) (fun k t _ => inhibitOne_shows _ k t) (fun _ _ _ _ _ => trivial) ?_ List.nodup_range
    (fun _ _ => trivial) k (mem_allShelves hk)
  intro k h t hne hshows
  have hreg : ∀ (r : Reg) (i : Nat), (inhibitOne (allShelves.any s.inhibits) h t).reg r k i = t.reg r k i := fun r i => inhibitOne_other _ hne r i
  have hbbu : ∀ b, (inhibitOne (allShelves.any s.inhibits) h t).bbu k b = t.bbu k b := fun b => State.bbu_of_reg (hreg BBU_STAT b)
  simp only [hbbu]
  rw [State.rd, State.rd, hreg, hreg]
  exact hshows

/-- The pair leaves a BBU that does not charge, and where no shelf drives it every BBU. -/
theorem inhibitSync_bbu (hk : s.bbu k b ≠ 3 ∨ allShelves.any s.inhibits = false) : (inhibitSync s).bbu k b = s.bbu k b := by
  rw [inhibitSync_eq]
  refine forEach_holds (P := fun t => t.bbu k b = s.bbu k b) (fun h _ t ht => ?_) rfl
  have hshown : (t.wr SHF_STAT_CHG_INHIBIT h 0 (b2n (allShelves.any s.inhibits))).bbu k b = s.bbu k b := ((State.wr_keeps ..).bbu (by decide +kernel) k b).trans ht
  obtain hstays | hquiet := hk
  · unfold inhibitOne
    split
    · rw [← hshown]
      unfold stopCharge moveBbus
      refine ((State.wr_keeps ..).bbu (by decide +kernel) k b).trans ?_
      refine forEach_leaves (State.bbu · k b) _ _ fun x hx u => ?_
      refine State.rd_wr_ne _ _ _ _ _ _ _ _ (.inr ?_)
      by_contra hsame
      push Not at hsame
      obtain ⟨rfl, rfl⟩ := hsame
      exact hstays (hshown ▸ (by simpa using (List.mem_filter.mp hx).2))
    · exact hshown
  · rw [inhibitOne, hquiet, if_neg Bool.false_ne_true, ← hquiet]
    exact hshown

/-- The fields of SHF_STAT other than the pair's. -/
theorem inhibitSync_stat {F : Fld} (hr : F.reg = SHF_STAT) (hF : F.hi < 4 ∨ (4 < F.lo ∧ F.hi < 64)) (k : Nat) : (inhibitSync s).rd F k 0 = s.rd F k 0 := by
  rw [inhibitSync_eq]
  refine forEach_leaves (State.rd · F k 0) _ s fun h _ t => ?_
  have hid : F.reg.id = 201 := congrArg Reg.id hr
  have hshown : (t.wr SHF_STAT_CHG_INHIBIT h 0 (b2n (allShelves.any s.inhibits))).rd F k 0 = t.rd F k 0 :=
    State.rd_wr_apart _ _ _ _ _ _ _ _ (.inr ⟨hr, by decide, by omega, by simp only [SHF_STAT_CHG_INHIBIT]; omega⟩)
  unfold inhibitOne
  split
  · exact ((stopCharge_keeps ..).rd F k 0 (by rw [hid]; decide) (by rw [hid]; decide +kernel)).trans hshown
  · exact hshown

theorem inhibitSync_watts (hquiet : allShelves.any s.inhibits = false) (k : Nat) : (inhibitSync s).rd SHF_CHG_CHG_W k 0 = s.rd SHF_CHG_CHG_W k 0 := by
  rw [inhibitSync_eq, hquiet]
  exact forEach_leaves (State.rd · SHF_CHG_CHG_W k 0) _ s fun h _ t => State.rd_wr_id _ _ _ _ _ _ _ _ (by decide)

theorem State.inhibits_of (hstate : t.rd SHF_STAT_STATE k 0 = s.rd SHF_STAT_STATE k 0) (hac : t.rd SHF_AC_AC_OK k 0 = s.rd SHF_AC_AC_OK k 0)
    (hbus : t.rd SHF_OUT_BUS_V k 0 = s.rd SHF_OUT_BUS_V k 0) : t.inhibits k = s.inhibits k := by simp only [State.inhibits, State.acOk, hstate, hac, hbus]

/-- Showing the pair changes no shelf's reason to drive it. -/
theorem inhibitSync_inhibits : (inhibitSync s).inhibits = s.inhibits := funext fun k =>
  State.inhibits_of (inhibitSync_stat rfl (by decide) k) ((inhibitSync_keeps s).rd _ _ _ (by decide) (by decide +kernel)) ((inhibitSync_keeps s).rd _ _ _ (by decide) (by decide +kernel))

/-! ## What a shelf shows (R507, R533) -/

theorem State.usableBbus_le (s : State) (h : Nat) : s.usableBbus h ≤ 4 := (List.length_filter_le ..).trans (by decide)

theorem State.usableBbus_of (hbbu : ∀ b, t.bbu h b = s.bbu h b) : t.usableBbus h = s.usableBbus h := by
  have husable : t.usable h = s.usable h := funext fun b => by rw [State.usable, State.usable, hbbu]
  rw [State.usableBbus, husable]
  rfl

/-- The modules that a shelf shows as OK. -/
def State.modulesOk (s : State) (h : Nat) : Nat := if s.rd SHF_STAT_STATE h 0 = 0 then 0 else 6 - popCount 6 (s.getShelves h).badModules

theorem shelfSync_usable : (shelfSync h s).rd SHF_STAT_BBU_USABLE h 0 = (shelfSync h s).usableBbus h := by
  rw [State.usableBbus_of fun b => (shelfSync_keeps ..).bbu (by decide +kernel) h b, shelfSync, State.rd_wr_field _ _ _ _ _ _ (by rfl) (by decide) (by decide) (by decide),
    State.rd_wr_same _ _ _ _ _ (by decide) (by decide)]
  exact Nat.mod_eq_of_lt ((s.usableBbus_le h).trans_lt (by decide))

theorem shelfSync_modules : (shelfSync h s).rd SHF_STAT_MODULES_OK h 0 = s.modulesOk h := by
  have hlt : s.modulesOk h < 8 := by unfold State.modulesOk; split <;> omega
  rw [shelfSync, State.rd_wr_same _ _ _ _ _ (by decide) (by decide)]
  exact Nat.mod_eq_of_lt hlt

/-- The fields of SHF_STAT other than the counts. -/
theorem shelfSync_stat {F : Fld} (hr : F.reg = SHF_STAT) (hF : F.hi < 8) (k : Nat) : (shelfSync h s).rd F k 0 = s.rd F k 0 := by
  rw [shelfSync, State.rd_wr_apart _ _ _ _ _ _ _ _ (.inr ⟨hr, by decide, by omega, .inl (by simpa only [SHF_STAT_MODULES_OK] using hF)⟩),
    State.rd_wr_apart _ _ _ _ _ _ _ _ (.inr ⟨hr, by decide, by omega, .inl (by simp only [SHF_STAT_BBU_USABLE]; omega)⟩)]

theorem State.rectifier_of (hac : t.rd SHF_AC_AC_OK h 0 = s.rd SHF_AC_AC_OK h 0) (hmodules : t.rd SHF_STAT_MODULES_OK h 0 = s.rd SHF_STAT_MODULES_OK h 0) : t.rectifier h = s.rectifier h := by
  simp only [State.rectifier, State.acOk, hac, hmodules]
  rfl

/-- The state that a shelf shows for its load. -/
def State.shelfFor (s : State) (h : Nat) : Nat := if s.acOk h = false then 2 else if s.rectifier h < s.rd SHF_OUT_OUT_W h 0 then 3 else 1

theorem shelfState_lost (hon : s.rd SHF_STAT_STATE h 0 ≠ 0) (hac : s.acOk h = false) : shelfState h s = moveBbus h [2, 3, 4] 5 ((s.wr SHF_STAT_STATE h 0 2).wr SHF_CHG_CHG_W h 0 0) := by
  rw [shelfState, if_neg hon, if_pos (by rw [hac]; rfl)]

theorem shelfState_over (hon : s.rd SHF_STAT_STATE h 0 ≠ 0) (hac : s.acOk h = true) (hover : s.rectifier h < s.rd SHF_OUT_OUT_W h 0) : shelfState h s =
    moveBbus h [2, 3, 4] 5 ((s.when (s.rd SHF_STAT_STATE h 0 != 3) fun t => t.bump SHF_EVENTS_LIMIT_ENTRIES h 0 1).wr SHF_STAT_STATE h 0 3) := by
  rw [shelfState, if_neg hon, if_neg (by simp [hac]), if_pos hover]

theorem shelfState_within (hon : s.rd SHF_STAT_STATE h 0 ≠ 0) (hac : s.acOk h = true) (hover : ¬ s.rectifier h < s.rd SHF_OUT_OUT_W h 0) : shelfState h s =
    moveBbus h [5] 4 (s.wr SHF_STAT_STATE h 0 1) := by rw [shelfState, if_neg hon, if_neg (by simp [hac]), if_neg hover]

theorem moveBbus_rd (from_ : List Nat) (dest : Nat) (F : Fld) (hid : F.reg.id < 320) (hne : F.reg.id ≠ 207) (k i : Nat) : (moveBbus h from_ dest s).rd F k i = s.rd F k i := by
  have hbit : ∀ i < 320, i ≠ 207 → (regBit BBU_STAT).testBit (64 + i) = false := by decide +kernel
  exact ((moveBbus_keeps h from_ dest s).widen (M := regBit BBU_STAT) (by decide +kernel)).rd F k i hid (hbit _ hid hne)

theorem shelfState_shows (hon : s.rd SHF_STAT_STATE h 0 ≠ 0) : (shelfState h s).rd SHF_STAT_STATE h 0 = s.shelfFor h := by
  unfold State.shelfFor
  cases hac : s.acOk h with
  | false =>
    rw [shelfState_lost hon hac, moveBbus_rd _ _ _ (by decide) (by decide), State.rd_wr_id _ _ _ _ _ _ _ _ (by decide), State.rd_wr_same _ _ _ _ _ (by decide) (by decide)]
    rfl
  | true =>
    rw [if_neg (by decide)]
    split
    · rw [shelfState_over hon hac ‹_›, moveBbus_rd _ _ _ (by decide) (by decide), State.rd_wr_same _ _ _ _ _ (by decide) (by decide)]
      rfl
    · rw [shelfState_within hon hac ‹_›, moveBbus_rd _ _ _ (by decide) (by decide), State.rd_wr_same _ _ _ _ _ (by decide) (by decide)]
      rfl

/-- The other fields of SHF_STAT. -/
theorem shelfState_stat {F : Fld} (hr : F.reg = SHF_STAT) (hF : 2 < F.lo ∧ F.hi < 64) (k : Nat) : (shelfState h s).rd F k 0 = s.rd F k 0 := by
  have hid : F.reg.id = 201 := congrArg Reg.id hr
  have hstate : ∀ (u : State) v, (u.wr SHF_STAT_STATE h 0 v).rd F k 0 = u.rd F k 0 := fun u v =>
    State.rd_wr_apart _ _ _ _ _ _ _ _ (.inr ⟨hr, by decide, hF.2, .inr (by simpa only [SHF_STAT_STATE] using hF.1)⟩)
  have hmove : ∀ (u : State) from_ dest, (moveBbus h from_ dest u).rd F k 0 = u.rd F k 0 := fun u from_ dest => moveBbus_rd (s := u) from_ dest F (by rw [hid]; decide) (by rw [hid]; decide) k 0
  by_cases hon : s.rd SHF_STAT_STATE h 0 = 0
  · rw [shelfState, if_pos hon]
  cases hac : s.acOk h with
  | false => rw [shelfState_lost hon hac, hmove, State.rd_wr_id _ _ _ _ _ _ _ _ (by rw [hid]; decide), hstate]
  | true =>
    by_cases hover : s.rectifier h < s.rd SHF_OUT_OUT_W h 0
    · rw [shelfState_over hon hac hover, hmove, hstate, State.when]
      split
      · rw [State.bump, State.rd_wr_id _ _ _ _ _ _ _ _ (by rw [hid]; decide)]
      · rfl
    · rw [shelfState_within hon hac hover, hmove, hstate]

end

end

end Sys2Proof.Machine

end

section
/-!
PROOF. The shelves and their BBUs (R507-R515, R524): insertion, loss and faults of BBUs, charging, the AC and the busbar.
-/
set_option Elab.async false
namespace Sys2Proof.Machine

section
variable {s t : State} {h b : Nat}

theorem State.getShelves_modShelves_same (s : State) (h : Nat) (g : Shelf → Shelf) : (s.modShelves h g).getShelves h = g (s.getShelves h) := (s.getShelves_putShelves _ _ _).trans (if_pos rfl)

theorem State.rd_modShelves (s : State) (k : Nat) (g : Shelf → Shelf) (f : Fld) (w i : Nat) : (s.modShelves k g).rd f w i = s.rd f w i := rfl
theorem State.reg_modShelves (s : State) (k : Nat) (g : Shelf → Shelf) (r : Reg) (w i : Nat) : (s.modShelves k g).reg r w i = s.reg r w i := rfl

/-! ## BBUs (R510-R514) -/

/-- A shelf that has counted a loss of presence, where the BBU charged. -/
def lossCounted (h b : Nat) (s : State) : State := s.when (s.bbu h b == 2 || s.bbu h b == 3) fun t => t.bump SHF_EVENTS_PRES_LOSS_CHG h 0 1

/-- A bay that is empty. -/
def bayEmptied (h b : Nat) (s : State) : State :=
  ((((lossCounted h b s).setReg BBU_STAT h b 0).setReg BBU_ENERGY h b 0).setReg BBU_FLOW h b 0).modShelves h fun x => { x with serials := mset 0 x.serials b 0 }

theorem bbuLost_eq (hthere : s.bbu h b ≠ 0) : bbuLost h b s = shelfSync h (bayEmptied h b s) := if_neg hthere

theorem bayEmptied_shows (h b : Nat) (s : State) : (bayEmptied h b s).bbu h b = 0 ∧ (bayEmptied h b s).reg BBU_ENERGY h b = 0 ∧
    (s.bbu h b = 2 ∨ s.bbu h b = 3 → (bayEmptied h b s).rd SHF_EVENTS_PRES_LOSS_CHG h 0 = satAdd SHF_EVENTS_PRES_LOSS_CHG.width (s.rd SHF_EVENTS_PRES_LOSS_CHG h 0) 1) := by
  unfold bayEmptied
  refine ⟨?_, ?_, fun hcharging => ?_⟩
  · rw [State.bbu, State.rd_modShelves, State.rd_setReg_id _ _ _ _ _ _ _ _ (by decide), State.rd_setReg_id _ _ _ _ _ _ _ _ (by decide)]
    exact (State.rd_setReg_same _ BBU_STAT_STATE h b 0 (by decide)).trans (by decide)
  · rw [State.reg_modShelves, State.reg_setReg_id _ _ _ _ _ _ _ _ (by decide), State.reg_setReg_same]
    rfl
  · rw [State.rd_modShelves, State.rd_setReg_id _ _ _ _ _ _ _ _ (by decide), State.rd_setReg_id _ _ _ _ _ _ _ _ (by decide), State.rd_setReg_id _ _ _ _ _ _ _ _ (by decide), lossCounted, State.when,
      if_pos (by simpa using hcharging), State.rd_bump_same _ _ _ _ _ (by decide) (by decide)]

theorem bbuLost_shows (hthere : s.bbu h b ≠ 0) : (bbuLost h b s).bbu h b = 0 ∧ (bbuLost h b s).reg BBU_ENERGY h b = 0 ∧ (bbuLost h b s).rd SHF_STAT_BBU_USABLE h 0 = (bbuLost h b s).usableBbus h ∧
    (s.bbu h b = 2 ∨ s.bbu h b = 3 → (bbuLost h b s).rd SHF_EVENTS_PRES_LOSS_CHG h 0 = satAdd SHF_EVENTS_PRES_LOSS_CHG.width (s.rd SHF_EVENTS_PRES_LOSS_CHG h 0) 1) := by
  obtain ⟨hempty, henergy, hcount⟩ := bayEmptied_shows h b s
  have hsync := shelfSync_keeps h (bayEmptied h b s)
  rw [bbuLost_eq hthere]
  exact ⟨(hsync.bbu (by decide +kernel) h b).trans hempty, (hsync.regs _ _ _ (by decide) (by decide +kernel)).trans henergy, shelfSync_usable,
    fun hcharging => (hsync.rd _ _ _ (by decide) (by decide +kernel)).trans (hcount hcharging)⟩

theorem bbuInserted_shows {serial : Nat} (hempty : s.bbu h b = 0) : (bbuInserted h b serial s).bbu h b = 1 ∧ (bbuInserted h b serial s).rd BBU_STAT_PRECHECK_S h b = 60 ∧
    mget 0 ((bbuInserted h b serial s).getShelves h).serials b = serial := by
  have heq : bbuInserted h b serial s = (((s.setReg BBU_STAT h b 0).wr BBU_STAT_STATE h b 1).wr BBU_STAT_PRECHECK_S h b 60).modShelves h fun x => { x with serials := mset 0 x.serials b serial } :=
    if_neg (not_not.mpr hempty)
  rw [heq, State.getShelves_modShelves_same]
  refine ⟨?_, ?_, by rw [mget_mset, if_pos rfl]⟩
  · rw [State.bbu, State.rd_modShelves, State.rd_wr_field _ _ _ _ _ _ (by rfl) (by decide) (by decide) (by decide), State.rd_wr_same _ _ _ _ _ (by decide) (by decide)]
    rfl
  · rw [State.rd_modShelves, State.rd_wr_same _ _ _ _ _ (by decide) (by decide)]
    rfl

theorem bbuEnergy_shows {energy cap : Nat} (henergy : energy < 2 ^ 16) (hcap : cap < 2 ^ 16) (s : State) : (bbuEnergy h b energy cap s).rd BBU_ENERGY_E_KJ h b = energy ∧
    (bbuEnergy h b energy cap s).rd BBU_ENERGY_CAP_KJ h b = cap ∧ (bbuEnergy h b energy cap s).rd BBU_STAT_REPLACE h b = b2n (decide (cap < 648)) ∧
    (bbuEnergy h b energy cap s).bbu h b = s.bbu h b := by
  unfold bbuEnergy
  refine ⟨?_, ?_, ?_, ?_⟩
  · rw [State.rd_wr_id _ _ _ _ _ _ _ _ (by decide), State.wrSat, State.rd_wr_id _ _ _ _ _ _ _ _ (by decide), State.rd_wr_field _ _ _ _ _ _ (by rfl) (by decide) (by decide) (by decide),
      State.rd_wr_same _ _ _ _ _ (by decide) (by decide)]
    exact Nat.mod_eq_of_lt henergy
  · rw [State.rd_wr_id _ _ _ _ _ _ _ _ (by decide), State.wrSat, State.rd_wr_id _ _ _ _ _ _ _ _ (by decide), State.rd_wr_same _ _ _ _ _ (by decide) (by decide)]
    exact Nat.mod_eq_of_lt hcap
  · rw [State.rd_wr_same _ _ _ _ _ (by decide) (by decide)]
    exact Nat.mod_eq_of_lt (b2n_lt _)
  · rw [State.bbu, State.rd_wr_field _ _ _ _ _ _ (by rfl) (by decide) (by decide) (by decide), State.wrSat, State.rd_wr_field _ _ _ _ _ _ (by rfl) (by decide) (by decide) (by decide),
      State.rd_wr_id _ _ _ _ _ _ _ _ (by decide), State.rd_wr_id _ _ _ _ _ _ _ _ (by decide)]
    rfl

theorem bbuFull_shows {cap : Nat} (hcap : cap < 2 ^ 16) (hcharging : s.bbu h b = 2 ∨ s.bbu h b = 3) : (bbuFull h b cap s).bbu h b = 4 ∧ (bbuFull h b cap s).rd BBU_ENERGY_E_KJ h b = cap ∧
    (bbuFull h b cap s).rd BBU_ENERGY_CAP_KJ h b = cap ∧ (bbuFull h b cap s).rd BBU_STAT_REPLACE h b = b2n (decide (cap < 648)) := by
  obtain ⟨he, hc, hreplace, -⟩ := bbuEnergy_shows (h := h) (b := b) hcap hcap s
  have heq : bbuFull h b cap s = shelfSync h ((bbuEnergy h b cap cap s).wr BBU_STAT_STATE h b 4) := if_pos hcharging
  have hsync := shelfSync_keeps h ((bbuEnergy h b cap cap s).wr BBU_STAT_STATE h b 4)
  rw [heq]
  refine ⟨?_, ?_, ?_, ?_⟩
  · rw [hsync.bbu (by decide +kernel), State.bbu, State.rd_wr_same _ _ _ _ _ (by decide) (by decide)]
    rfl
  · rw [hsync.rd _ _ _ (by decide) (by decide +kernel), State.rd_wr_id _ _ _ _ _ _ _ _ (by decide), he]
  · rw [hsync.rd _ _ _ (by decide) (by decide +kernel), State.rd_wr_id _ _ _ _ _ _ _ _ (by decide), hc]
  · rw [hsync.rd _ _ _ (by decide) (by decide +kernel), State.rd_wr_field _ _ _ _ _ _ (by rfl) (by decide) (by decide) (by decide), hreplace]

theorem bbuMeasured_energy {m : BbuMeas} (hthere : s.bbu h m.bbu = 2) : (bbuMeasured h m s).rd BBU_ENERGY_E_KJ h m.bbu = m.energy.toNat ∧ (bbuMeasured h m s).bbu h m.bbu = 2 := by
  have heq : bbuMeasured h m s = bbuEnergy h m.bbu m.energy.toNat m.cap.toNat ((s.wr BBU_FLOW_CURRENT h m.bbu m.current.toNat).wr BBU_FLOW_TEMP h m.bbu m.temp.toNat) := by
    rw [bbuMeasured, hthere]
    rfl
  obtain ⟨he, -, -, hstate⟩ := bbuEnergy_shows (h := h) (b := m.bbu) m.energy.isLt m.cap.isLt ((s.wr BBU_FLOW_CURRENT h m.bbu m.current.toNat).wr BBU_FLOW_TEMP h m.bbu m.temp.toNat)
  rw [heq]
  refine ⟨he, hstate.trans ?_⟩
  rw [(State.wr_keeps ..).bbu (by decide +kernel), (State.wr_keeps ..).bbu (by decide +kernel), hthere]

/-- A BBU passes its precheck where it is sound and its serial number carries no recorded fault. -/
def PrecheckGood (h : Nat) (pass : Bool) (b : Nat) (s : State) : Prop := pass = true ∧ mget 0 (s.getShelves h).serials b ∉ (s.getShelves h).faulted

theorem precheckDone_good {pass : Bool} {m : BbuMeas} (hpre : s.bbu h m.bbu = 1) (hgood : PrecheckGood h pass m.bbu s) :
    (precheckDone h pass m s).bbu h m.bbu = 2 ∧ (precheckDone h pass m s).rd BBU_ENERGY_E_KJ h m.bbu = m.energy.toNat := by
  obtain ⟨hpass, hserial⟩ := hgood
  have heq : precheckDone h pass m s = shelfSync h (bbuMeasured h m ((s.wr BBU_STAT_PRECHECK_S h m.bbu 0).wr BBU_STAT_STATE h m.bbu 2)) := by
    unfold precheckDone
    dsimp only
    rw [if_neg (by omega), if_pos ⟨hpass, by simpa using hserial⟩]
  have hstate : ((s.wr BBU_STAT_PRECHECK_S h m.bbu 0).wr BBU_STAT_STATE h m.bbu 2).bbu h m.bbu = 2 := by
    rw [State.bbu, State.rd_wr_same _ _ _ _ _ (by decide) (by decide)]
    rfl
  obtain ⟨henergy, hstays⟩ := bbuMeasured_energy hstate
  have hsync := shelfSync_keeps h (bbuMeasured h m ((s.wr BBU_STAT_PRECHECK_S h m.bbu 0).wr BBU_STAT_STATE h m.bbu 2))
  rw [heq]
  exact ⟨(hsync.bbu (by decide +kernel) _ _).trans hstays, (hsync.rd _ _ _ (by decide) (by decide +kernel)).trans henergy⟩

theorem precheckDone_bad {pass : Bool} {m : BbuMeas} (hpre : s.bbu h m.bbu = 1) (hbad : ¬ PrecheckGood h pass m.bbu s) :
    (precheckDone h pass m s).bbu h m.bbu = 6 ∧ (precheckDone h pass m s).rd BBU_STAT_FAULT_KIND h m.bbu = 2 := by
  have heq : precheckDone h pass m s = ((s.wr BBU_STAT_PRECHECK_S h m.bbu 0).wr BBU_STAT_STATE h m.bbu 6).wr BBU_STAT_FAULT_KIND h m.bbu 2 := by
    unfold precheckDone
    dsimp only
    rw [if_neg (by omega), if_neg fun hgood => hbad ⟨hgood.1, by simpa using hgood.2⟩]
  rw [heq]
  refine ⟨?_, ?_⟩
  · rw [State.bbu, State.rd_wr_field _ _ _ _ _ _ (by rfl) (by decide) (by decide) (by decide), State.rd_wr_same _ _ _ _ _ (by decide) (by decide)]
    rfl
  · rw [State.rd_wr_same _ _ _ _ _ (by decide) (by decide)]
    rfl

/-- A shelf with a bay's serial number recorded. -/
def Shelf.recorded (b : Nat) (x : Shelf) : Shelf := { x with faulted := if x.faulted.contains (mget 0 x.serials b) then x.faulted else x.faulted ++ [mget 0 x.serials b] }

theorem Shelf.mem_recorded (b : Nat) (x : Shelf) : mget 0 x.serials b ∈ (x.recorded b).faulted := by
  unfold Shelf.recorded
  dsimp only
  split
  · exact List.contains_iff_mem.mp ‹_›
  · exact List.mem_append_right _ (List.mem_singleton_self _)

/-- A shelf that has recorded a cell fault. -/
def cellFaulted (h b : Nat) (s : State) : State :=
  (((s.wr BBU_STAT_STATE h b 6).wr BBU_STAT_FAULT_KIND h b 1).bump SHF_EVENTS_CELL_FAULTS h 0 1).modShelves h (Shelf.recorded b)

theorem cellFault_eq (hflows : s.bbu h b = 2 ∨ s.bbu h b = 3 ∨ s.bbu h b = 5) : cellFault h b s = shelfSync h (cellFaulted h b s) := if_pos hflows

theorem cellFault_shows (hflows : s.bbu h b = 2 ∨ s.bbu h b = 3 ∨ s.bbu h b = 5) : (cellFault h b s).bbu h b = 6 ∧ (cellFault h b s).rd BBU_STAT_FAULT_KIND h b = 1 ∧
    (cellFault h b s).rd SHF_EVENTS_CELL_FAULTS h 0 = satAdd SHF_EVENTS_CELL_FAULTS.width (s.rd SHF_EVENTS_CELL_FAULTS h 0) 1 ∧
    mget 0 (s.getShelves h).serials b ∈ ((cellFault h b s).getShelves h).faulted := by
  have hsync := shelfSync_keeps h (cellFaulted h b s)
  rw [cellFault_eq hflows, hsync.bbu (by decide +kernel), hsync.rd _ _ _ (by decide) (by decide +kernel), hsync.rd _ _ _ (by decide) (by decide +kernel), hsync.getShelves (by decide +kernel)]
  unfold cellFaulted
  refine ⟨?_, ?_, ?_, ?_⟩
  · rw [State.bbu, State.rd_modShelves, State.bump, State.rd_wr_id _ _ _ _ _ _ _ _ (by decide), State.rd_wr_field _ _ _ _ _ _ (by rfl) (by decide) (by decide) (by decide),
      State.rd_wr_same _ _ _ _ _ (by decide) (by decide)]
    rfl
  · rw [State.rd_modShelves, State.bump, State.rd_wr_id _ _ _ _ _ _ _ _ (by decide), State.rd_wr_same _ _ _ _ _ (by decide) (by decide)]
    rfl
  · rw [State.rd_modShelves, State.rd_bump_same _ _ _ _ _ (by decide) (by decide), State.rd_wr_id _ _ _ _ _ _ _ _ (by decide), State.rd_wr_id _ _ _ _ _ _ _ _ (by decide)]
  · rw [State.getShelves_modShelves_same, State.bump, State.getShelves_wr, State.getShelves_wr, State.getShelves_wr]
    exact Shelf.mem_recorded ..

/-! ## Charging (R515, R524) -/

/-- The headroom that a shelf may charge with. -/
def State.chargeRoom (s : State) (h load : Nat) : Nat := if s.rd SHF_STAT_STATIC h 0 = 1 then s.fallbackLimit h - s.rd SHF_OUT_OUT_W h 0 else s.limitAc - load

/-- The BBUs of a shelf that charge. -/
def State.charging (s : State) (k : Nat) : List Nat := allBbus.filter fun x => s.bbu k x == 2 || s.bbu k x == 3

/-- A shelf whose READY BBUs that are not full charge again. -/
def chargeAgain (h : Nat) (s : State) : State :=
  forEach (allBbus.filter fun b => s.bbu h b == 4 && decide (s.rd BBU_ENERGY_E_KJ h b < s.rd BBU_ENERGY_CAP_KJ h b)) s fun b t => t.wr BBU_STAT_STATE h b 3

/-- How many BBUs share the headroom. -/
def State.sharers (s : State) (h : Nat) (static : Prop) [Decidable static] : Nat := if static then (s.charging h).length else sumOf allShelves fun k => (s.charging k).length

/-- The watts that a shelf charges with. -/
def State.chargeWatts (s : State) (h room n : Nat) : Nat := sumOf (s.charging h) fun x => min (room / max 1 n) (if s.bbu h x = 2 then 1000 else 4500)

theorem chargeHeadroom_eq (h load : Nat) (s : State) : chargeHeadroom h load s =
    if (inhibitSync s).rd SHF_STAT_CHG_INHIBIT h 0 = 1 ∨ (inhibitSync s).chargeRoom h load = 0 ∨ !(inhibitSync s).acOk h then stopCharge h (inhibitSync s)
    else (chargeAgain h (inhibitSync s)).wr SHF_CHG_CHG_W h 0
      ((chargeAgain h (inhibitSync s)).chargeWatts h ((inhibitSync s).chargeRoom h load) ((chargeAgain h (inhibitSync s)).sharers h ((inhibitSync s).rd SHF_STAT_STATIC h 0 = 1))) := by
  simp only [chargeHeadroom, State.chargeRoom, State.chargeWatts, State.sharers, State.charging, chargeAgain, beq_iff_eq]
  rfl

theorem inhibitSync_acOk (s : State) (k : Nat) : (inhibitSync s).acOk k = s.acOk k := by rw [State.acOk, (inhibitSync_keeps s).rd _ _ _ (by decide) (by decide +kernel)]; rfl

theorem inhibitSync_rectifier (s : State) (k : Nat) : (inhibitSync s).rectifier k = s.rectifier k :=
  State.rectifier_of ((inhibitSync_keeps s).rd _ _ _ (by decide) (by decide +kernel)) (inhibitSync_stat rfl (by decide) k)

theorem inhibitSync_room (s : State) (h load : Nat) : (inhibitSync s).chargeRoom h load = s.chargeRoom h load := by
  have hac : (inhibitSync s).acOk = s.acOk := funext (inhibitSync_acOk s)
  have hrect : (inhibitSync s).rectifier = s.rectifier := funext (inhibitSync_rectifier s)
  simp only [State.chargeRoom, State.fallbackLimit, State.limitAc, hac, hrect, inhibitSync_stat (F := SHF_STAT_STATIC) rfl (by decide),
    (inhibitSync_keeps s).rd SHF_OUT_OUT_W _ _ (by decide) (by decide +kernel), (inhibitSync_keeps s).rd SHF_ALLOT_ALLOT_W _ _ (by decide) (by decide +kernel),
    (inhibitSync_keeps s).planner (by decide +kernel)]

theorem any_inhibits : allShelves.any s.inhibits = true ↔ ∃ k < 8, s.inhibits k = true := by simp [allShelves]

theorem chargeHeadroom_stops {load : Nat} (hh : h < 8) (hstop : (∃ k < 8, s.inhibits k = true) ∨ s.chargeRoom h load = 0 ∨ s.acOk h = false) :
    (chargeHeadroom h load s).rd SHF_CHG_CHG_W h 0 = 0 ∧ ∀ b < 4, (chargeHeadroom h load s).bbu h b ≠ 3 := by
  have hcond : (inhibitSync s).rd SHF_STAT_CHG_INHIBIT h 0 = 1 ∨ (inhibitSync s).chargeRoom h load = 0 ∨ !(inhibitSync s).acOk h := by
    rw [inhibitSync_room, inhibitSync_acOk, (inhibitSync_shows hh).1]
    refine hstop.imp (fun hdrive => ?_) (Or.imp_right fun hac => ?_)
    · rw [any_inhibits.mpr hdrive]
      rfl
    · rw [hac]
      rfl
  rw [chargeHeadroom_eq, if_pos hcond]
  refine ⟨stopCharge_watts, fun b hb => ?_⟩
  rw [stopCharge_bbu hb]
  split <;> omega

theorem sumOf_le {α : Type} {f : α → Nat} {c : Nat} (hf : ∀ x, f x ≤ c) (xs : List α) : sumOf xs f ≤ c * xs.length := by
  have hfrom : ∀ (ys : List α) n, ys.foldl (fun n x => n + f x) n ≤ n + c * ys.length := fun ys => by
    induction ys with
    | nil => exact fun n => Nat.le_refl _
    | cons y ys ih =>
      intro n
      have hy := hf y
      have hnext := ih (n + f y)
      simp only [List.foldl_cons, List.length_cons, Nat.mul_add, Nat.mul_one] at hnext ⊢
      omega
  exact (hfrom xs 0).trans (by omega)

theorem State.chargeWatts_le (s : State) (h room n : Nat) : s.chargeWatts h room n ≤ 18000 := by
  have hrate : ∀ x : Nat, min (room / max 1 n) (if s.bbu h x = 2 then 1000 else 4500) ≤ 4500 := fun x => (Nat.min_le_right _ _).trans (by split <;> omega)
  have hlen : (s.charging h).length ≤ 4 := (List.length_filter_le ..).trans (by decide)
  exact (sumOf_le hrate _).trans (by omega)

theorem chargeHeadroom_shares {load : Nat} (hh : h < 8) (hquiet : ∀ k < 8, s.inhibits k = false) (hroom : s.chargeRoom h load ≠ 0) (hac : s.acOk h = true) :
    (chargeHeadroom h load s).rd SHF_CHG_CHG_W h 0 =
      (chargeHeadroom h load s).chargeWatts h (s.chargeRoom h load) ((chargeHeadroom h load s).sharers h (s.rd SHF_STAT_STATIC h 0 = 1)) := by
  have hnone : allShelves.any s.inhibits = false := by
    rw [← Bool.not_eq_true, any_inhibits]
    rintro ⟨k, hk, hdrive⟩
    exact Bool.false_ne_true ((hquiet k hk).symm.trans hdrive)
  have hcond : ¬ ((inhibitSync s).rd SHF_STAT_CHG_INHIBIT h 0 = 1 ∨ (inhibitSync s).chargeRoom h load = 0 ∨ !(inhibitSync s).acOk h) := by
    rw [inhibitSync_room, inhibitSync_acOk, (inhibitSync_shows hh).1, hnone, hac]
    simpa [b2n] using hroom
  have hsame : ∀ v, ((chargeAgain h (inhibitSync s)).wr SHF_CHG_CHG_W h 0 v).bbu = (chargeAgain h (inhibitSync s)).bbu := fun v =>
    funext fun k => funext fun b => (State.wr_keeps ..).bbu (by decide +kernel) k b
  have hwatts : ∀ v room n, ((chargeAgain h (inhibitSync s)).wr SHF_CHG_CHG_W h 0 v).chargeWatts h room n = (chargeAgain h (inhibitSync s)).chargeWatts h room n := fun v room n => by
    simp only [State.chargeWatts, State.charging, hsame]
  have hsharers : ∀ v, ((chargeAgain h (inhibitSync s)).wr SHF_CHG_CHG_W h 0 v).sharers h (s.rd SHF_STAT_STATIC h 0 = 1) = (chargeAgain h (inhibitSync s)).sharers h (s.rd SHF_STAT_STATIC h 0 = 1) := fun v => by
    simp only [State.sharers, State.charging, hsame]
  rw [chargeHeadroom_eq, if_neg hcond, inhibitSync_room, hwatts, hsharers, State.rd_wr_same _ _ _ _ _ (by decide) (by decide)]
  simp only [inhibitSync_stat (F := SHF_STAT_STATIC) rfl (by decide)]
  exact Nat.mod_eq_of_lt ((State.chargeWatts_le ..).trans_lt (by decide))

theorem chargeInhibit_shows {busV : Nat} (hbus : busV < 2 ^ 10) (s : State) : (chargeInhibit h busV s).rd SHF_OUT_BUS_V h 0 = busV ∧
    ∀ k < 8, (chargeInhibit h busV s).rd SHF_STAT_CHG_INHIBIT k 0 = b2n (allShelves.any (chargeInhibit h busV s).inhibits) ∧
      (allShelves.any (chargeInhibit h busV s).inhibits = true → (chargeInhibit h busV s).rd SHF_CHG_CHG_W k 0 = 0 ∧ ∀ b < 4, (chargeInhibit h busV s).bbu k b ≠ 3) := by
  unfold chargeInhibit
  rw [inhibitSync_inhibits]
  refine ⟨?_, fun k hk => inhibitSync_shows hk⟩
  rw [(inhibitSync_keeps _).rd _ _ _ (by decide) (by decide +kernel), State.rd_wr_same _ _ _ _ _ (by decide) (by decide)]
  exact Nat.mod_eq_of_lt hbus

/-! ## The AC and the rectifiers (R507, R509) -/

/-- A shelf whose AC has been lost. -/
def acLost (h v : Nat) (s : State) : State := ((s.wr SHF_AC_AC_OK h 0 0).wr SHF_AC_V_LL h 0 v).bump SHF_EVENTS_AC_LOSSES h 0 1

theorem acLoss_eq {v : Nat} (hon : s.rd SHF_STAT_STATE h 0 ≠ 0) (hac : s.acOk h = true) : acLoss [(h, v)] s = inhibitSync (shelfSync h (shelfState h (acLost h v s))) :=
  congrArg inhibitSync (if_neg (by simp [hon, hac]))

theorem acLost_shows {v : Nat} (hv : v < 2 ^ 10) (s : State) : (acLost h v s).acOk h = false ∧ (acLost h v s).rd SHF_AC_V_LL h 0 = v ∧
    (acLost h v s).rd SHF_EVENTS_AC_LOSSES h 0 = satAdd SHF_EVENTS_AC_LOSSES.width (s.rd SHF_EVENTS_AC_LOSSES h 0) 1 ∧ (acLost h v s).rd SHF_STAT_STATE h 0 = s.rd SHF_STAT_STATE h 0 ∧
    ∀ b, (acLost h v s).bbu h b = s.bbu h b := by
  have hlost : Keeps _ s (acLost h v s) := ((State.wr_keeps s SHF_AC_AC_OK h 0 0).trans (State.wr_keeps _ SHF_AC_V_LL h 0 v)).trans (State.bump_keeps _ SHF_EVENTS_AC_LOSSES h 0 1)
  refine ⟨?_, ?_, ?_, hlost.rd _ _ _ (by decide) (by decide +kernel), fun b => hlost.bbu (by decide +kernel) h b⟩
  · rw [State.acOk, acLost, State.bump, State.rd_wr_id _ _ _ _ _ _ _ _ (by decide), State.rd_wr_field _ _ _ _ _ _ (by rfl) (by decide) (by decide) (by decide),
      State.rd_wr_same _ _ _ _ _ (by decide) (by decide)]
    rfl
  · rw [acLost, State.bump, State.rd_wr_id _ _ _ _ _ _ _ _ (by decide), State.rd_wr_same _ _ _ _ _ (by decide) (by decide)]
    exact Nat.mod_eq_of_lt hv
  · rw [acLost, State.rd_bump_same _ _ _ _ _ (by decide) (by decide), State.rd_wr_id _ _ _ _ _ _ _ _ (by decide), State.rd_wr_id _ _ _ _ _ _ _ _ (by decide)]

/-- A shelf that shows the loss of its AC. -/
def acLossShown (h v : Nat) (s : State) : State := shelfSync h (shelfState h (acLost h v s))

theorem acLossShown_eq {v : Nat} (hv : v < 2 ^ 10) (hon : s.rd SHF_STAT_STATE h 0 ≠ 0) :
    acLossShown h v s = shelfSync h (moveBbus h [2, 3, 4] 5 (((acLost h v s).wr SHF_STAT_STATE h 0 2).wr SHF_CHG_CHG_W h 0 0)) := by
  obtain ⟨hac, -, -, hstate, -⟩ := acLost_shows hv s
  rw [acLossShown, shelfState_lost (hstate ▸ hon) hac]

theorem acLossShown_keeps {v : Nat} (hv : v < 2 ^ 10) (hon : s.rd SHF_STAT_STATE h 0 ≠ 0) : Keeps (regBit SHF_STAT ||| regBit SHF_CHG ||| regBit BBU_STAT) (acLost h v s) (acLossShown h v s) := by
  rw [acLossShown_eq hv hon]
  exact .next (shelfSync_keeps ..) (by decide +kernel) (.next (moveBbus_keeps ..) (by decide +kernel) (.next (State.wr_keeps ..) (by decide +kernel) ((State.wr_keeps ..).widen (by decide +kernel))))

theorem acLossShown_shows {v : Nat} (hv : v < 2 ^ 10) (hon : s.rd SHF_STAT_STATE h 0 ≠ 0) : (acLossShown h v s).acOk h = false ∧ (acLossShown h v s).rd SHF_STAT_STATE h 0 = 2 ∧
    ∀ b < 4, (acLossShown h v s).bbu h b = if s.bbu h b = 2 ∨ s.bbu h b = 3 ∨ s.bbu h b = 4 then 5 else s.bbu h b := by
  obtain ⟨hac, -, -, hstate, hbbu⟩ := acLost_shows hv s
  refine ⟨?_, ?_, fun b hb => ?_⟩
  · rw [State.acOk, (acLossShown_keeps hv hon).rd _ _ _ (by decide) (by decide +kernel)]
    exact hac
  · rw [acLossShown, shelfSync_stat rfl (by decide), shelfState_shows (hstate ▸ hon), State.shelfFor, if_pos hac]
  · rw [acLossShown_eq hv hon, (shelfSync_keeps ..).bbu (by decide +kernel), moveBbus_bbu [2, 3, 4] (by decide) hb, (State.wr_keeps ..).bbu (by decide +kernel), (State.wr_keeps ..).bbu (by decide +kernel), hbbu]
    simp

theorem acLoss_shows {v : Nat} (hh : h < 8) (hv : v < 2 ^ 10) (hon : s.rd SHF_STAT_STATE h 0 ≠ 0) (hac : s.acOk h = true) : (acLoss [(h, v)] s).acOk h = false ∧
    (acLoss [(h, v)] s).rd SHF_AC_V_LL h 0 = v ∧ (acLoss [(h, v)] s).rd SHF_STAT_STATE h 0 = 2 ∧
    (acLoss [(h, v)] s).rd SHF_EVENTS_AC_LOSSES h 0 = satAdd SHF_EVENTS_AC_LOSSES.width (s.rd SHF_EVENTS_AC_LOSSES h 0) 1 ∧
    (∀ b < 4, s.bbu h b = 2 ∨ s.bbu h b = 3 ∨ s.bbu h b = 4 → (acLoss [(h, v)] s).bbu h b = 5) ∧
    ∀ k < 8, (acLoss [(h, v)] s).rd SHF_STAT_CHG_INHIBIT k 0 = 1 ∧ ∀ b < 4, (acLoss [(h, v)] s).bbu k b ≠ 3 := by
  obtain ⟨-, hll, hcount, -, -⟩ := acLost_shows (h := h) hv s
  obtain ⟨hlost, hstate, hbbu⟩ := acLossShown_shows hv hon
  have hkeeps := acLossShown_keeps (v := v) hv hon
  have hdrives : allShelves.any (acLossShown h v s).inhibits = true := any_inhibits.mpr ⟨h, hh, by rw [State.inhibits, hstate, hlost]; rfl⟩
  have heq : acLoss [(h, v)] s = inhibitSync (acLossShown h v s) := acLoss_eq hon hac
  have hsync := inhibitSync_keeps (acLossShown h v s)
  rw [heq]
  refine ⟨(inhibitSync_acOk ..).trans hlost, ?_, (inhibitSync_stat rfl (by decide) h).trans hstate, ?_, fun b hb hready => ?_, fun k hk => ?_⟩
  · rw [hsync.rd _ _ _ (by decide) (by decide +kernel), hkeeps.rd _ _ _ (by decide) (by decide +kernel), hll]
  · rw [hsync.rd _ _ _ (by decide) (by decide +kernel), hkeeps.rd _ _ _ (by decide) (by decide +kernel), hcount]
  · have hdischarges : (acLossShown h v s).bbu h b = 5 := (hbbu b hb).trans (if_pos hready)
    rw [inhibitSync_bbu (.inl (by omega)), hdischarges]
  · obtain ⟨hshown, hstops⟩ := inhibitSync_shows (s := acLossShown h v s) hk
    exact ⟨hshown.trans (by rw [hdrives]; rfl), (hstops hdrives).2⟩

/-- A shelf whose AC has returned. -/
def acBack (h v : Nat) (s : State) : State := shelfSync h (((s.wr SHF_AC_AC_OK h 0 1).wr SHF_AC_V_LL h 0 v).wr SHF_STAT_STATE h 0 1)

theorem acReturn_eq {v : Nat} (hac : s.acOk h = false) : acReturn [(h, v)] s = inhibitSync (shelfState h (acBack h v s)) :=
  congrArg inhibitSync (if_neg (by simp [hac]))

theorem acBack_shows {v : Nat} (hv : v < 2 ^ 10) (s : State) : (acBack h v s).acOk h = true ∧ (acBack h v s).rd SHF_AC_V_LL h 0 = v ∧ (acBack h v s).rd SHF_STAT_STATE h 0 = 1 ∧
    (acBack h v s).rd SHF_OUT_OUT_W h 0 = s.rd SHF_OUT_OUT_W h 0 := by
  have hsync := shelfSync_keeps h (((s.wr SHF_AC_AC_OK h 0 1).wr SHF_AC_V_LL h 0 v).wr SHF_STAT_STATE h 0 1)
  refine ⟨?_, ?_, ?_, ?_⟩
  · rw [State.acOk, acBack, hsync.rd _ _ _ (by decide) (by decide +kernel), State.rd_wr_id _ _ _ _ _ _ _ _ (by decide), State.rd_wr_field _ _ _ _ _ _ (by rfl) (by decide) (by decide) (by decide),
      State.rd_wr_same _ _ _ _ _ (by decide) (by decide)]
    rfl
  · rw [acBack, hsync.rd _ _ _ (by decide) (by decide +kernel), State.rd_wr_id _ _ _ _ _ _ _ _ (by decide), State.rd_wr_same _ _ _ _ _ (by decide) (by decide)]
    exact Nat.mod_eq_of_lt hv
  · rw [acBack, shelfSync_stat rfl (by decide), State.rd_wr_same _ _ _ _ _ (by decide) (by decide)]
    rfl
  · rw [acBack, hsync.rd _ _ _ (by decide) (by decide +kernel), State.rd_wr_id _ _ _ _ _ _ _ _ (by decide), State.rd_wr_id _ _ _ _ _ _ _ _ (by decide), State.rd_wr_id _ _ _ _ _ _ _ _ (by decide)]

theorem shelfState_rectifier (h : Nat) (s : State) : (shelfState h s).rectifier h = s.rectifier h :=
  State.rectifier_of ((shelfState_keeps ..).rd _ _ _ (by decide) (by decide +kernel)) (shelfState_stat rfl (by decide) h)

theorem acReturn_shows {v : Nat} (hv : v < 2 ^ 10) (hac : s.acOk h = false) : (acReturn [(h, v)] s).acOk h = true ∧ (acReturn [(h, v)] s).rd SHF_AC_V_LL h 0 = v ∧
    (acReturn [(h, v)] s).rd SHF_STAT_STATE h 0 = if (acReturn [(h, v)] s).rectifier h < s.rd SHF_OUT_OUT_W h 0 then 3 else 1 := by
  obtain ⟨hback, hll, hstate, hout⟩ := acBack_shows (h := h) hv s
  have hsync := inhibitSync_keeps (shelfState h (acBack h v s))
  have hshelf := shelfState_keeps h (acBack h v s)
  have hok : (shelfState h (acBack h v s)).acOk h = true := by
    rw [State.acOk, hshelf.rd _ _ _ (by decide) (by decide +kernel)]
    exact hback
  rw [acReturn_eq hac, inhibitSync_rectifier, shelfState_rectifier]
  refine ⟨(inhibitSync_acOk ..).trans hok, ?_, ?_⟩
  · rw [hsync.rd _ _ _ (by decide) (by decide +kernel), hshelf.rd _ _ _ (by decide) (by decide +kernel), hll]
  · rw [inhibitSync_stat rfl (by decide), shelfState_shows (by omega), State.shelfFor, if_neg (by simp [hback]), hout]

/-- A shelf that knows of one more bad module. -/
def moduleNoted (h m : Nat) (s : State) : State := shelfSync h (s.modShelves h fun x => { x with badModules := x.badModules ||| 2 ^ m })

theorem moduleFault_eq {m : Nat} (hon : s.rd SHF_STAT_STATE h 0 ≠ 0) : moduleFault h m s = shelfSync h (shelfState h (moduleNoted h m s)) := if_neg hon

theorem State.shelfFor_ne_zero (s : State) (h : Nat) : s.shelfFor h ≠ 0 := by
  unfold State.shelfFor
  split
  · decide
  · split <;> decide

theorem moduleFault_shows {m : Nat} (hon : s.rd SHF_STAT_STATE h 0 ≠ 0) : (moduleFault h m s).rd SHF_STAT_MODULES_OK h 0 = 6 - popCount 6 ((s.getShelves h).badModules ||| 2 ^ m) ∧
    (moduleFault h m s).rd SHF_STAT_STATE h 0 = if s.acOk h = false then 2 else if (moduleFault h m s).rectifier h < s.rd SHF_OUT_OUT_W h 0 then 3 else 1 := by
  have hbad : (moduleNoted h m s).getShelves h = { s.getShelves h with badModules := (s.getShelves h).badModules ||| 2 ^ m } := by
    rw [moduleNoted, (shelfSync_keeps ..).getShelves (by decide +kernel), State.getShelves_modShelves_same]
  have hnoted : Keeps _ s (moduleNoted h m s) := (State.putShelves_keeps s ..).trans (shelfSync_keeps ..)
  have hstate : (moduleNoted h m s).rd SHF_STAT_STATE h 0 = s.rd SHF_STAT_STATE h 0 := by rw [moduleNoted, shelfSync_stat rfl (by decide), State.rd_modShelves]
  have hfirst : (moduleNoted h m s).rd SHF_STAT_MODULES_OK h 0 = 6 - popCount 6 ((s.getShelves h).badModules ||| 2 ^ m) := by
    rw [moduleNoted, shelfSync_modules, State.modulesOk, State.rd_modShelves, if_neg hon, State.getShelves_modShelves_same]
  have hshown : (shelfState h (moduleNoted h m s)).rd SHF_STAT_STATE h 0 = (moduleNoted h m s).shelfFor h := shelfState_shows (hstate ▸ hon)
  have hmodules : (moduleFault h m s).rd SHF_STAT_MODULES_OK h 0 = 6 - popCount 6 ((s.getShelves h).badModules ||| 2 ^ m) := by
    rw [moduleFault_eq hon, shelfSync_modules, State.modulesOk, hshown, if_neg ((moduleNoted h m s).shelfFor_ne_zero h), (shelfState_keeps ..).getShelves (by decide +kernel), hbad]
  have hac : (moduleNoted h m s).acOk h = s.acOk h := by
    rw [State.acOk, hnoted.rd _ _ _ (by decide) (by decide +kernel)]
    rfl
  have hrectifier : (moduleFault h m s).rectifier h = (moduleNoted h m s).rectifier h := by
    refine State.rectifier_of ?_ (hmodules.trans hfirst.symm)
    rw [moduleFault_eq hon, (shelfSync_keeps ..).rd _ _ _ (by decide) (by decide +kernel), (shelfState_keeps ..).rd _ _ _ (by decide) (by decide +kernel)]
  refine ⟨hmodules, ?_⟩
  rw [hrectifier, moduleFault_eq hon, shelfSync_stat rfl (by decide), hshown, State.shelfFor, hac, hnoted.rd SHF_OUT_OUT_W _ _ (by decide) (by decide +kernel)]

/-! ## The busbar (R508) -/

theorem mem_addAlarm (code : Nat) (xs : List Nat) : code ∈ if xs.contains code then xs else xs ++ [code] := by
  split
  · exact List.contains_iff_mem.mp ‹_›
  · exact List.mem_append_right _ (List.mem_singleton_self _)

theorem alarm_shows (code : Nat) (s : State) : code ∈ (alarm code s).rack.planner.alarms ∧ (alarm code s).out = .event 2 code :: s.out ∧ SameRegs [] s (alarm code s) :=
  ⟨mem_addAlarm code s.rack.planner.alarms, rfl, (alarm_keeps code s).sameRegs _ (by decide +kernel)⟩

/-- The loss of one wafer's supply leaves another's record. -/
theorem busUndervolt_other {w v : Nat} (hne : v ≠ w) (s : State) : (busUndervolt w false s).getWafers v = s.getWafers v := by
  unfold busUndervolt
  split
  · rfl
  · rw [unpower, State.modWafers, State.getWafers_putWafers, if_neg hne, (tbCold_keeps ..).getWafers (by decide +kernel), (State.putTwis_keeps ..).getWafers (by decide +kernel), (State.putBups_keeps ..).getWafers (by decide +kernel),
      (resetWafer_keeps ..).getWafers (by decide +kernel), (pcieLost_keeps ..).getWafers (by decide +kernel), (forceAll_keeps ..).getWafers (by decide +kernel)]
    rfl

theorem busUndervolt_off (w : Nat) (s : State) : ((busUndervolt w false s).getWafers w).powered = false := by
  cases hon : (s.getWafers w).powered with
  | false => rw [busUndervolt, if_pos (by simp [hon]), hon]
  | true => exact (busUndervolt_down false hon).1

/-- The busbar's consumers, wafer by wafer. -/
def wafersLost (busV : Nat) (s : State) : State := forEach allWafers (forEach allShelves s fun h t => t.wr SHF_OUT_BUS_V h 0 busV) fun w t => busUndervolt w false t

/-- The busbar's consumers beside the wafers. -/
def unitsLost (busV : Nat) (s : State) : State := forEach [0, 1] (forEach (List.range 8) (wafersLost busV s) switchTrayOff) fun c t => cduOff c 0 t

/-- The management bay without power. -/
def bayLost (s : State) : State :=
  forEach (List.range 44) (s.modPlanner fun p => { p with haveActive := false }) fun t u => u.modTmcs t fun x => { x with running := false, hears0 := false, hears1 := false }

theorem busCollapse_eq {busV : Nat} (hlow : busV < 700) (s : State) : busCollapse busV s = inhibitSync (bayLost (unitsLost busV s)) := if_neg (by omega)

theorem wafersLost_off (busV : Nat) (s : State) (w : WaferId) : ((wafersLost busV s).getWafers w).powered = false :=
  forEach_establishes (Q := fun _ _ => True) (P := fun (w : Nat) t => (t.getWafers w).powered = false) (fun w t _ => busUndervolt_off w t) (fun _ _ _ _ _ => trivial)
    (fun a b t hne h => by rw [busUndervolt_other hne, h]) List.nodup_range (fun _ _ => trivial) w.val (List.mem_range.mpr w.isLt)

theorem unitsLost_keeps (busV : Nat) (s : State) : SameUnits (wafersLost busV s) (forEach (List.range 8) (wafersLost busV s) switchTrayOff) :=
  forEach_relates SameUnits.refl SameUnits.trans (fun k t => switchTrayOff_units k t) _ _

theorem cduOff_state {c code : Nat} (hcode : code < 8) (s : State) : (cduOff c code s).rd CDU_STAT_STATE c 0 = code := by
  rw [cduOff, State.rd_wr_id _ _ _ _ _ _ _ _ (by decide), State.rd_wr_field _ _ _ _ _ _ (by rfl) (by decide) (by decide) (by decide), State.rd_wr_same _ _ _ _ _ (by decide) (by decide)]
  exact Nat.mod_eq_of_lt hcode

theorem cduOff_other {c d : Nat} (code : Nat) (hne : d ≠ c) (s : State) (F : Fld) (i : Nat) : (cduOff c code s).rd F d i = s.rd F d i := by
  rw [cduOff, State.rd_wr_ne _ _ _ _ _ _ _ _ (.inr (.inl hne)), State.rd_wr_ne _ _ _ _ _ _ _ _ (.inr (.inl hne)), State.rd_wr_ne _ _ _ _ _ _ _ _ (.inr (.inl hne))]

theorem unitsLost_cdus (busV : Nat) (s : State) (c : CduId) : (unitsLost busV s).rd CDU_STAT_STATE c 0 = 0 :=
  forEach_establishes (Q := fun _ _ => True) (P := fun (c : Nat) t => t.rd CDU_STAT_STATE c 0 = 0) (fun c t _ => cduOff_state (by decide) t) (fun _ _ _ _ _ => trivial)
    (fun a b t hne h => (cduOff_other 0 hne t _ 0).trans h) (by decide) (fun _ _ => trivial) c.val (by fin_cases c <;> decide)

theorem unitsLost_bus {busV : Nat} (hh : h < 8) (hbus : busV < 2 ^ 10) (s : State) : (unitsLost busV s).rd SHF_OUT_BUS_V h 0 = busV := by
  have hshown : (forEach allShelves s fun h t => t.wr SHF_OUT_BUS_V h 0 busV).rd SHF_OUT_BUS_V h 0 = busV :=
    forEach_establishes (Q := fun _ _ => True) (P := fun (h : Nat) t => t.rd SHF_OUT_BUS_V h 0 = busV)
      (fun h t _ => (State.rd_wr_same _ _ _ _ _ (by decide) (by decide)).trans (Nat.mod_eq_of_lt hbus)) (fun _ _ _ _ _ => trivial)
      (fun a b t hne h => (State.rd_wr_ne _ _ _ _ _ _ _ _ (.inr (.inl hne))).trans h) List.nodup_range (fun _ _ => trivial) h (mem_allShelves hh)
  have hwafers : SameUnits _ (wafersLost busV s) := forEach_relates SameUnits.refl SameUnits.trans (fun w t => busUndervolt_units w t) allWafers _
  have hcdus : ∀ t, Keeps 0xa000000000000000000000000000000000000000000000000000000000000000000000000 t (forEach [0, 1] t fun c t => cduOff c 0 t) := fun t =>
    forEach_keeps (fun c t => (cduOff_keeps c 0 t).widen (by decide +kernel)) _ (.refl ..)
  rw [unitsLost, (hcdus _).rd _ _ _ (by decide) (by decide +kernel), (unitsLost_keeps busV s).rd _ _ _ (by decide) (by decide), hwafers.rd _ _ _ (by decide) (by decide), hshown]

theorem bayLost_keeps (s : State) : Keeps 0x1008000000000 s (bayLost s) :=
  forEach_keeps (fun t u => (State.modTmcs_keeps u t _).widen (by decide +kernel)) _ ((State.modPlanner_keeps ..).widen (by decide +kernel))

theorem bayLost_shows (s : State) : (bayLost s).rack.planner.haveActive = false ∧ ∀ u : TmcId, ((bayLost s).getTmcs u).running = false := by
  constructor
  · exact congrArg Planner.haveActive (forEach_leaves (fun t : State => t.rack.planner) (List.range 44) (s.modPlanner fun p => { p with haveActive := false }) fun t _ u => rfl)
  · intro u
    exact forEach_establishes (Q := fun _ _ => True) (P := fun (k : Nat) t => (t.getTmcs k).running = false) (fun k t _ => by rw [State.modTmcs, State.getTmcs_putTmcs, if_pos rfl]) (fun _ _ _ _ _ => trivial)
      (fun a b t hne h => by rw [State.modTmcs, State.getTmcs_putTmcs, if_neg hne, h]) List.nodup_range (fun _ _ => trivial) u.val (List.mem_range.mpr u.isLt)

theorem busCollapse_shows {busV : Nat} (hh : h < 8) (hlow : busV < 700) (s : State) : (busCollapse busV s).rd SHF_OUT_BUS_V h 0 = busV ∧ (busCollapse busV s).rack.planner.haveActive = false ∧
    (∀ w : WaferId, ((busCollapse busV s).getWafers w).powered = false) ∧ (∀ u : TmcId, ((busCollapse busV s).getTmcs u).running = false) ∧
    ∀ c : CduId, (busCollapse busV s).rd CDU_STAT_STATE c 0 = 0 := by
  have hsync := inhibitSync_keeps (bayLost (unitsLost busV s))
  have hbay := bayLost_keeps (unitsLost busV s)
  obtain ⟨hactive, htmcs⟩ := bayLost_shows (unitsLost busV s)
  have hunits : ∀ w, (unitsLost busV s).getWafers w = (wafersLost busV s).getWafers w := fun w =>
    (forEach_leaves (State.getWafers · w) [0, 1] _ fun c _ t => (cduOff_keeps c 0 t).getWafers (by decide +kernel) w).trans
      (forEach_leaves (State.getWafers · w) (List.range 8) (wafersLost busV s) fun k _ t => (switchTrayOff_keeps k t).getWafers (by decide +kernel) w)
  rw [busCollapse_eq hlow]
  refine ⟨?_, ?_, fun w => ?_, fun u => ?_, fun c => ?_⟩
  · rw [hsync.rd _ _ _ (by decide) (by decide +kernel), hbay.rd _ _ _ (by decide) (by decide +kernel), unitsLost_bus hh (by omega)]
  · rw [hsync.planner (by decide +kernel), hactive]
  · rw [hsync.getWafers (by decide +kernel), hbay.getWafers (by decide +kernel), hunits, wafersLost_off]
  · rw [hsync.getTmcs (by decide +kernel), htmcs]
  · rw [hsync.rd _ _ _ (by decide) (by decide +kernel), hbay.rd _ _ _ (by decide) (by decide +kernel), unitsLost_cdus]

end

end Sys2Proof.Machine
open Sys2Proof Sys2Proof.Machine

/-- Settles O43: the pair is shown on every shelf from the reasons of each, which its showing leaves, and a wafer's loss of supply touches no shelf and no other wafer's record. -/
theorem shelvesAndBbus : Obligations.ShelvesAndBbus := by
  unfold Obligations.ShelvesAndBbus
  intro h b s
  refine ⟨fun hthere => ⟨_, rfl, bbuLost_shows hthere⟩, fun serial hempty => ⟨_, rfl, bbuInserted_shows hempty⟩, fun pass m hpre => ?_, fun hflows => ⟨_, rfl, cellFault_shows hflows⟩,
    fun cap hcharging => ⟨_, rfl, bbuFull_shows cap.isLt hcharging⟩, fun load => ?_, fun busV => ⟨_, rfl, ?_⟩, fun v hon hac => ⟨_, rfl, ?_⟩, fun v hac => ⟨_, rfl, acReturn_shows v.isLt hac⟩,
    fun m hon => ⟨_, rfl, moduleFault_shows hon⟩, fun hnone hon => ⟨_, rfl, ?_⟩, ⟨_, rfl, alarm_shows 1 s⟩, fun busV hlow => ⟨_, rfl, busCollapse_shows h.isLt hlow s⟩⟩
  · intro good
    exact ⟨_, rfl, fun hgood => precheckDone_good hpre hgood, fun hbad => precheckDone_bad hpre hbad⟩
  · intro static room charging
    refine ⟨fun hstop => ⟨_, rfl, ?_⟩, fun hquiet hroom hac => ⟨_, rfl, chargeHeadroom_shares h.isLt hquiet hroom hac⟩⟩
    obtain ⟨hwatts, hbbus⟩ := chargeHeadroom_stops h.isLt hstop
    exact ⟨hwatts, hbbus b b.isLt⟩
  · obtain ⟨hbus, hshelves⟩ := chargeInhibit_shows (h := h) busV.isLt s
    refine ⟨hbus, fun k hk => ?_⟩
    obtain ⟨hshown, hstops⟩ := hshelves k hk
    exact ⟨hshown, fun hdrive => ⟨(hstops hdrive).1, (hstops hdrive).2 b b.isLt⟩⟩
  · obtain ⟨hlost, hll, hstate, hcount, hbbu, hpair⟩ := acLoss_shows h.isLt v.isLt hon hac
    exact ⟨hlost, hll, hstate, hcount, hbbu b b.isLt, fun k hk => ⟨(hpair k hk).1, (hpair k hk).2 b b.isLt⟩⟩
  · rw [if_neg (by simp [hnone, hon])]
    exact State.rd_wr_same s SHF_STAT_STATIC h 0 1 (by decide) (by decide)

end

section
/-!
SUPPORT. The power plan (R517-R520): what writing it leaves of the machine's load and limits, and that every cap which can be written is.
-/
set_option Elab.async false
namespace Sys2Proof.Machine

/-! ## What the plan rests on -/

/-- A wafer's plan but for what has been written of it. -/
def SamePlan (x y : PlanW) : Prop := ∃ a b c, y = { x with written := a, reason := b, planNo := c }

/-- The planned load and the limits of `t` rest on what those of `s` rest on. -/
structure SamePlans (s t : State) : Prop where
  plans : ∀ w, SamePlan (s.getPlans w) (t.getPlans w)
  powered : ∀ w, (t.getWafers w).powered = (s.getWafers w).powered
  running : ∀ k, (t.getTmcs k).running = (s.getTmcs k).running
  powerOn : ∀ k, (t.getTmcs k).powerOn = (s.getTmcs k).powerOn
  cdus : ∀ c, t.rd CDU_STAT_STATE c 0 = s.rd CDU_STAT_STATE c 0
  acOk : ∀ h, t.rd SHF_AC_AC_OK h 0 = s.rd SHF_AC_AC_OK h 0
  modules : ∀ h, t.rd SHF_STAT_MODULES_OK h 0 = s.rd SHF_STAT_MODULES_OK h 0
  bbus : ∀ h b, t.bbu h b = s.bbu h b
  energies : ∀ h b, t.rd BBU_ENERGY_E_KJ h b = s.rd BBU_ENERGY_E_KJ h b
  opLimit : t.rack.planner.opLimit = s.rack.planner.opLimit

section
variable {s t u : State} {w v : Nat}

theorem SamePlan.refl (x : PlanW) : SamePlan x x := ⟨_, _, _, rfl⟩

theorem SamePlan.trans {x y z : PlanW} (h1 : SamePlan x y) (h2 : SamePlan y z) : SamePlan x z := by
  obtain ⟨_, _, _, rfl⟩ := h1
  obtain ⟨a, b, c, rfl⟩ := h2
  exact ⟨a, b, c, rfl⟩

theorem SamePlan.cap {x y : PlanW} (h : SamePlan x y) : y.cap = x.cap := by
  obtain ⟨_, _, _, rfl⟩ := h
  rfl

theorem SamePlan.coolant {x y : PlanW} (h : SamePlan x y) : y.coolant = x.coolant := by
  obtain ⟨_, _, _, rfl⟩ := h
  rfl

theorem SamePlans.refl (s : State) : SamePlans s s := ⟨fun _ => .refl _, fun _ => rfl, fun _ => rfl, fun _ => rfl, fun _ => rfl, fun _ => rfl, fun _ => rfl, fun _ _ => rfl, fun _ _ => rfl, rfl⟩

theorem SamePlans.trans (h1 : SamePlans s t) (h2 : SamePlans t u) : SamePlans s u :=
  ⟨fun w => (h1.plans w).trans (h2.plans w), fun w => (h2.powered w).trans (h1.powered w), fun k => (h2.running k).trans (h1.running k), fun k => (h2.powerOn k).trans (h1.powerOn k),
    fun c => (h2.cdus c).trans (h1.cdus c), fun h => (h2.acOk h).trans (h1.acOk h), fun h => (h2.modules h).trans (h1.modules h), fun h b => (h2.bbus h b).trans (h1.bbus h b),
    fun h b => (h2.energies h b).trans (h1.energies h b), h2.opLimit.trans h1.opLimit⟩

theorem SamePlans.of_keeps {m : Nat} (h : Keeps m s t) (hmaps : m.testBit 46 = false ∧ m.testBit 38 = false ∧ m.testBit 39 = false ∧ m.testBit 48 = false)
    (hregs : m.testBit (64 + CDU_STAT.id) = false ∧ m.testBit (64 + SHF_AC.id) = false ∧ m.testBit (64 + SHF_STAT.id) = false ∧ m.testBit (64 + BBU_STAT.id) = false ∧
      m.testBit (64 + BBU_ENERGY.id) = false) : SamePlans s t := by
  obtain ⟨hplans, hwafers, htmcs, hplanner⟩ := hmaps
  obtain ⟨hcdu, hac, hstat, hbbu, henergy⟩ := hregs
  exact ⟨fun w => (h.getPlans hplans w).symm ▸ .refl _, fun w => by rw [h.getWafers hwafers], fun k => by rw [h.getTmcs htmcs], fun k => by rw [h.getTmcs htmcs],
    fun c => h.rd _ _ _ (by decide) hcdu, fun k => h.rd _ _ _ (by decide) hac, fun k => h.rd _ _ _ (by decide) hstat, fun k b => h.bbu hbbu k b, fun k b => h.rd _ _ _ (by decide) henergy,
    by rw [h.planner hplanner]⟩

theorem SamePlans.planned (h : SamePlans s t) (w : Nat) : t.planned w = s.planned w := by rw [State.planned, h.powered, h.running]; rfl

theorem SamePlans.cap (h : SamePlans s t) (w : Nat) : (t.getPlans w).cap = (s.getPlans w).cap := (h.plans w).cap

theorem SamePlans.planLoad (h : SamePlans s t) : t.planLoad = s.planLoad := by
  simp only [State.planLoad, State.loadWith, h.cap, h.powered, h.powerOn, h.cdus]

theorem SamePlans.limit (h : SamePlans s t) : t.limit = s.limit := by
  have hac : ∀ k, t.acOk k = s.acOk k := fun k => by rw [State.acOk, h.acOk]; rfl
  have hrect : t.rectifier = s.rectifier := funext fun k => State.rectifier_of (h.acOk k) (h.modules k)
  have husable : ∀ k, t.usable k = s.usable k := fun k => funext fun b => by rw [State.usable, State.usable, h.bbus]
  have hcount : t.usableBbus = s.usableBbus := funext fun k => State.usableBbus_of (h.bbus k)
  have henergy : t.usableEnergy = s.usableEnergy := funext fun k => by simp only [State.usableEnergy, husable, h.energies]
  simp only [State.limit, State.limitAc, State.limitRt, hrect, hcount, henergy, h.opLimit]

theorem SamePlans.fitsRaise (h : SamePlans s t) : t.fitsRaise = s.fitsRaise := by simp only [State.fitsRaise, h.planLoad, h.limit]

/-! ## Writing the plan (R520) -/

theorem State.getPlans_modPlans_same (s : State) (w : Nat) (g : PlanW → PlanW) : (s.modPlans w g).getPlans w = g (s.getPlans w) := (s.getPlans_putPlans _ _ _).trans (if_pos rfl)

theorem State.getPlans_modPlans_ne (s : State) {w v : Nat} (g : PlanW → PlanW) (h : v ≠ w) : (s.modPlans w g).getPlans v = s.getPlans v := (s.getPlans_putPlans _ _ _).trans (if_neg h)

/-- A write of a cap leaves whether its wafer has power. -/
theorem capWrite_powered (path x : Nat) (s : State) (v : Nat) : ((capWrite w path x s).getWafers v).powered = (s.getWafers v).powered := by
  by_cases hv : v = w
  · subst hv
    rw [capWrite_eq, (capUpdate_keeps ..).getWafers (by decide +kernel), capTaken]
    split
    · rw [State.getWafers_modWafers_same, State.getWafers_wr, State.getWafers_wr, State.getWafers_wr]
    · rw [State.getWafers_wr, State.getWafers_wr, State.getWafers_wr]
  · rw [(capWrite_other path x s hv).2]

/-- A wafer's plan as it goes out. -/
def planNoted (w : Nat) (s : State) : State :=
  (s.modPlans w fun x => { x with written := (s.getPlans w).cap, reason := s.capReason w, planNo := s.rack.planner.planId }).modTmcs w fun x => { x with absent := false }

theorem planWrite_eq (w : Nat) (s : State) : planWrite w s = capWrite w 1 ((s.getPlans w).cap + s.capReason w * 2 ^ 16 + s.rack.planner.planId * 2 ^ 20) (planNoted w s) := rfl

theorem planNoted_getPlans (w : Nat) (s : State) (v : Nat) : (planNoted w s).getPlans v =
    if v = w then { s.getPlans w with written := (s.getPlans w).cap, reason := s.capReason w, planNo := s.rack.planner.planId } else s.getPlans v := by
  rw [planNoted, (State.modTmcs_keeps ..).getPlans (by decide +kernel), State.modPlans, State.getPlans_putPlans]

theorem planWrite_getPlans (w : Nat) (s : State) (v : Nat) : (planWrite w s).getPlans v = (planNoted w s).getPlans v := by
  rw [planWrite_eq, (capWrite_keeps ..).getPlans (by decide +kernel)]

theorem planNoted_samePlans (w : Nat) (s : State) : SamePlans s (planNoted w s) := by
  have hplans : SamePlans s (s.modPlans w fun x => { x with written := (s.getPlans w).cap, reason := s.capReason w, planNo := s.rack.planner.planId }) := by
    refine ⟨fun v => ?_, fun _ => rfl, fun _ => rfl, fun _ => rfl, fun _ => rfl, fun _ => rfl, fun _ => rfl, fun _ _ => rfl, fun _ _ => rfl, rfl⟩
    by_cases hv : v = w
    · subst hv
      rw [State.getPlans_modPlans_same]
      exact ⟨_, _, _, rfl⟩
    · rw [State.getPlans_modPlans_ne _ _ hv]
      exact .refl _
  refine hplans.trans ⟨fun _ => .refl _, fun _ => rfl, fun k => ?_, fun k => ?_, fun _ => rfl, fun _ => rfl, fun _ => rfl, fun _ _ => rfl, fun _ _ => rfl, rfl⟩ <;>
  · rw [planNoted, State.modTmcs, State.getTmcs_putTmcs]
    split
    · rename_i hk
      rw [hk]
    · rfl

theorem capWrite_samePlans (w path x : Nat) (s : State) : SamePlans s (capWrite w path x s) := by
  have h := capWrite_keeps w path x s
  exact ⟨fun v => by rw [h.getPlans (by decide +kernel)]; exact .refl _, capWrite_powered path x s, fun k => by rw [h.getTmcs (by decide +kernel)], fun k => by rw [h.getTmcs (by decide +kernel)],
    fun c => h.rd _ _ _ (by decide) (by decide +kernel), fun k => h.rd _ _ _ (by decide) (by decide +kernel), fun k => h.rd _ _ _ (by decide) (by decide +kernel),
    fun k b => h.bbu (by decide +kernel) k b, fun k b => h.rd _ _ _ (by decide) (by decide +kernel), by rw [h.planner (by decide +kernel)]⟩

theorem planWrite_samePlans (w : Nat) (s : State) : SamePlans s (planWrite w s) := by
  rw [planWrite_eq]
  exact (planNoted_samePlans w s).trans (capWrite_samePlans ..)

/-- A wafer's cap in the plan has been written. -/
def State.Written (s : State) (w : Nat) : Prop := (s.getPlans w).written = (s.getPlans w).cap

theorem planWrite_written (w : Nat) (s : State) : (planWrite w s).Written w := by
  rw [State.Written, (planWrite_samePlans w s).cap, planWrite_getPlans, planNoted_getPlans, if_pos rfl]

/-- Writing one wafer's cap leaves what has been written of another. -/
theorem planWrite_stays (h : s.Written w) (v : Nat) : (planWrite v s).Written w := by
  by_cases hw : w = v
  · exact hw ▸ planWrite_written w s
  · rw [State.Written, planWrite_getPlans, planNoted_getPlans, if_neg hw]
    exact h

theorem forEach_planWrite_written {ws : List Nat} (hw : w ∈ ws ∨ s.Written w) : (forEach ws s planWrite).Written w :=
  hw.elim (fun hw => forEach_reaches (I := fun _ => True) (P := (State.Written · w)) (fun _ _ _ => trivial) (fun v _ _ h => planWrite_stays h v) hw (fun t _ => planWrite_written w t) trivial)
    (fun h => forEach_holds (P := (State.Written · w)) (fun v _ _ h => planWrite_stays h v) h)

/-- A plan under its new number. -/
def planNumbered (s : State) : State := s.modPlanner fun p => { p with planId := (p.planId + 1) % 4096, plannedShelves := (allShelves.filter s.acOk).length }

/-- The wafers of a plan whose caps fall. -/
def State.falls (s : State) (w : Nat) : Bool := decide ((s.getPlans w).cap < (s.getPlans w).written)

/-- A plan whose caps have gone out, the lowerings first. -/
def planSent (ws : List Nat) (s : State) : State :=
  forEach (ws.filter fun w => !(planNumbered s).falls w) (forEach (ws.filter (planNumbered s).falls) (planNumbered s) planWrite) planWrite

/-- A shelf's allotment. -/
def allotShelf (total load h : Nat) (t : State) : State :=
  ((t.wrSat SHF_ALLOT_ALLOT_W h 0 (if total = 0 then 0 else load * t.rectifier h / total)).wr SHF_ALLOT_PLAN_ID h 0 t.rack.planner.planId).wr SHF_STAT_STATIC h 0 0

theorem newPlan_eq (ws : List Nat) (s : State) : newPlan ws s =
    forEach allShelves (planSent ws s) (allotShelf (sumOf allShelves (planSent ws s).rectifier) ((planSent ws s).planLoad / 1000)) := rfl

theorem planNumbered_samePlans (s : State) : SamePlans s (planNumbered s) :=
  ⟨fun _ => .refl _, fun _ => rfl, fun _ => rfl, fun _ => rfl, fun _ => rfl, fun _ => rfl, fun _ => rfl, fun _ _ => rfl, fun _ _ => rfl, rfl⟩

theorem planSent_samePlans (ws : List Nat) (s : State) : SamePlans s (planSent ws s) :=
  ((planNumbered_samePlans s).trans (forEach_relates SamePlans.refl SamePlans.trans planWrite_samePlans _ _)).trans (forEach_relates SamePlans.refl SamePlans.trans planWrite_samePlans _ _)

theorem allotShelf_keeps (total load h : Nat) (t : State) : Keeps (regBit SHF_ALLOT ||| regBit SHF_STAT) t (allotShelf total load h t) :=
  .next (State.wr_keeps ..) (by decide +kernel) (.next (State.wr_keeps ..) (by decide +kernel) ((State.wrSat_keeps t SHF_ALLOT_ALLOT_W ..).widen (by decide +kernel)))

theorem allotShelf_samePlans (total load h : Nat) (t : State) : SamePlans t (allotShelf total load h t) := by
  have hk := allotShelf_keeps total load h t
  refine ⟨fun w => by rw [hk.getPlans (by decide +kernel)]; exact .refl _, fun w => by rw [hk.getWafers (by decide +kernel)], fun k => by rw [hk.getTmcs (by decide +kernel)],
    fun k => by rw [hk.getTmcs (by decide +kernel)], fun c => hk.rd _ _ _ (by decide) (by decide +kernel), fun k => hk.rd _ _ _ (by decide) (by decide +kernel), fun k => ?_,
    fun k b => hk.bbu (by decide +kernel) k b, fun k b => hk.rd _ _ _ (by decide) (by decide +kernel), by rw [hk.planner (by decide +kernel)]⟩
  rw [allotShelf, State.rd_wr_apart _ SHF_STAT_STATIC SHF_STAT_MODULES_OK _ _ _ _ _ (.inr ⟨rfl, by decide, by decide, by decide⟩), State.rd_wr_id _ _ _ _ _ _ _ _ (by decide), State.wrSat,
    State.rd_wr_id _ _ _ _ _ _ _ _ (by decide)]

theorem newPlan_samePlans (ws : List Nat) (s : State) : SamePlans s (newPlan ws s) := by
  rw [newPlan_eq]
  exact (planSent_samePlans ws s).trans (forEach_relates SamePlans.refl SamePlans.trans (fun h t => allotShelf_samePlans _ _ h t) _ _)

theorem newPlan_getPlans (ws : List Nat) (s : State) (w : Nat) : (newPlan ws s).getPlans w = (planSent ws s).getPlans w := by
  rw [newPlan_eq]
  exact forEach_leaves (State.getPlans · w) _ _ fun h _ t => (allotShelf_keeps _ _ h t).getPlans (by decide +kernel) w

/-- Every wafer that a plan names is written, and what has been written of the others stays. -/
theorem newPlan_written {ws : List Nat} (hw : w ∈ ws ∨ s.Written w) : (newPlan ws s).Written w := by
  have hsent : (planSent ws s).Written w := by
    refine forEach_planWrite_written ?_
    obtain hw | hw := hw
    · cases hfalls : (planNumbered s).falls w with
      | true => exact .inr (forEach_planWrite_written (.inl (List.mem_filter.mpr ⟨hw, hfalls⟩)))
      | false => exact .inl (List.mem_filter.mpr ⟨hw, by rw [hfalls]; rfl⟩)
    · exact .inr (forEach_planWrite_written (.inr hw))
  rw [State.Written, newPlan_getPlans]
  exact hsent

theorem forEach_planWrite_planner (ws : List Nat) (s : State) : (forEach ws s planWrite).rack.planner = s.rack.planner :=
  forEach_leaves (fun t : State => t.rack.planner) ws s fun w _ t => (planWrite_keeps w t).planner (by decide +kernel)

theorem newPlan_planner (ws : List Nat) (s : State) : (newPlan ws s).rack.planner =
    { s.rack.planner with planId := (s.rack.planner.planId + 1) % 4096, plannedShelves := (allShelves.filter s.acOk).length } := by
  have hallots : (newPlan ws s).rack.planner = (planSent ws s).rack.planner := by
    rw [newPlan_eq]
    exact forEach_leaves (fun t : State => t.rack.planner) _ _ fun h _ t => (allotShelf_keeps _ _ h t).planner (by decide +kernel)
  rw [hallots, planSent, forEach_planWrite_planner, forEach_planWrite_planner]
  rfl

/-! ## Committing the plan -/

theorem commitPlan_samePlans (s : State) : SamePlans s (commitPlan s) := by
  unfold commitPlan
  split
  · exact .refl s
  · exact newPlan_samePlans ..

theorem mem_planChanges (hw : w < 36) (hplanned : s.planned w = true) (hopen : ¬ s.Written w) : w ∈ s.planChanges :=
  List.mem_filter.mpr ⟨List.mem_range.mpr hw, by simp [hplanned, bne_iff_ne.mpr (fun h => hopen (Eq.symm h))]⟩

/-- Every cap that can be written is, once a plan is committed. -/
theorem commitPlan_written (hw : w < 36) (hplanned : s.planned w = true) : (commitPlan s).Written w := by
  have hlisted : w ∈ s.planChanges ∨ s.Written w := (Classical.em (s.Written w)).symm.imp_left (mem_planChanges hw hplanned)
  unfold commitPlan
  split
  · rename_i hempty
    exact hlisted.resolve_left fun h => List.ne_nil_of_mem h (List.isEmpty_iff.mp hempty)
  · exact newPlan_written hlisted

theorem commitPlan_planner (s : State) : ∃ n k, (commitPlan s).rack.planner = { s.rack.planner with planId := n, plannedShelves := k } ∧ (n = s.rack.planner.planId ∨ n = (s.rack.planner.planId + 1) % 4096) := by
  unfold commitPlan
  split
  · exact ⟨_, _, rfl, .inl rfl⟩
  · exact ⟨_, _, newPlan_planner .., .inr rfl⟩

/-- The caps that can be written have been. -/
def State.AllWritten (s : State) : Prop := ∀ w < 36, s.planned w = true → (s.getPlans w).written = (s.getPlans w).cap

theorem commitPlan_allWritten (s : State) : (commitPlan s).AllWritten := fun _ hw hplanned => commitPlan_written hw (((commitPlan_samePlans s).planned _).symm.trans hplanned)

end

end Sys2Proof.Machine

end

section
/-!
PROOF. The power plan, the coolant units and the takeover (R517-R537, R741, R26).
-/
set_option Elab.async false
namespace Sys2Proof.Machine

section
variable {s t : State} {w v : Nat}

/-! ## Shedding and raising (R519, R522, R523) -/

theorem shed_planner (s : State) : ∃ n, (shed s).rack.planner = { s.rack.planner with planFaults := n } := by
  have hfloors : (shedFloors s.shedOrder s).rack.planner = s.rack.planner := (shedFloors_keeps ..).planner (by decide +kernel)
  have hscaled : (shedScale (shedFloors s.shedOrder s)).rack.planner = s.rack.planner := ((shedScale_keeps ..).planner (by decide +kernel)).trans hfloors
  unfold shed
  dsimp only
  split
  · exact ⟨_, rfl⟩
  · split
    · exact ⟨_, hfloors⟩
    · split
      · exact ⟨_, hscaled⟩
      · refine ⟨s.rack.planner.planFaults + 1, ?_⟩
        change { (shedScale (shedFloors s.shedOrder s)).rack.planner with planFaults := (shedScale (shedFloors s.shedOrder s)).rack.planner.planFaults + 1 } = _
        rw [hscaled]

/-- After shedding the plan fits, or the shortfall is counted. -/
theorem shed_fits (s : State) : (shed s).planLoad ≤ (shed s).limit * 1000 ∨ (shed s).rack.planner.planFaults = s.rack.planner.planFaults + 1 := by
  have hfloors : (shedFloors s.shedOrder s).rack.planner = s.rack.planner := (shedFloors_keeps ..).planner (by decide +kernel)
  have hscaled : (shedScale (shedFloors s.shedOrder s)).rack.planner = s.rack.planner := ((shedScale_keeps ..).planner (by decide +kernel)).trans hfloors
  unfold shed
  dsimp only
  split
  · exact .inl ‹_›
  · split
    · exact .inl ‹_›
    · split
      · exact .inl ‹_›
      · exact .inr (congrArg (fun p : Planner => p.planFaults + 1) hscaled)

/-- A machine that has left the grace of a loss of AC. -/
def graceLeft (s : State) : State := s.modPlanner fun p => { p with graceOver := false }

theorem replan_eq (hactive : s.rack.planner.haveActive = true) (hac : s.anyAc = true) : replan s = commitPlan (shed (graceLeft s)) := by
  rw [replan, if_neg (by simp [hactive]), if_neg (by simp [hac])]
  rfl

/-- The plan fits the machine's limit or its shortfall is counted, and is written. -/
def PlanFits (faults : Nat) (t : State) : Prop := (t.planLoad ≤ t.limit * 1000 ∨ t.rack.planner.planFaults = faults + 1) ∧ t.AllWritten

/-- A plan that fits, or whose shortfall is counted, still does once it is committed. -/
theorem commitPlan_fits {faults : Nat} (hfits : s.planLoad ≤ s.limit * 1000 ∨ s.rack.planner.planFaults = faults + 1) : PlanFits faults (commitPlan s) := by
  obtain ⟨n, k, hplanner, -⟩ := commitPlan_planner s
  have hcommit : (commitPlan s).rack.planner.planFaults = s.rack.planner.planFaults := by rw [hplanner]
  have hsame := commitPlan_samePlans s
  refine And.intro ?_ (commitPlan_allWritten s)
  rw [hsame.planLoad, hsame.limit, hcommit]
  exact hfits

theorem graceLeft_planner (s : State) : (graceLeft s).rack.planner = { s.rack.planner with graceOver := false } := rfl

theorem graceLeft_planFaults (s : State) : (graceLeft s).rack.planner.planFaults = s.rack.planner.planFaults := rfl

theorem replan_fits (hactive : s.rack.planner.haveActive = true) (hac : s.anyAc = true) : PlanFits s.rack.planner.planFaults (replan s) := by
  have hfits := shed_fits (graceLeft s)
  rw [graceLeft_planFaults] at hfits
  rw [replan_eq hactive hac]
  exact commitPlan_fits hfits

/-- What a shelf measures, before the RMC takes it up. -/
def shelfSeen (h out busV vll : Nat) (ms : List BbuMeas) (s : State) : State :=
  inhibitSync (shelfSync h (shelfState h (forEach ms (((s.wr SHF_OUT_OUT_W h 0 out).wr SHF_OUT_BUS_V h 0 busV).wr SHF_AC_V_LL h 0 vll) (bbuMeasured h))))

/-- A shelf that has taken its three measurements. -/
def shelfTaken (h out busV vll : Nat) (s : State) : State := ((s.wr SHF_OUT_OUT_W h 0 out).wr SHF_OUT_BUS_V h 0 busV).wr SHF_AC_V_LL h 0 vll

theorem shelfSeen_keeps (h out busV vll : Nat) (ms : List BbuMeas) (s : State) :
    Keeps (regBit SHF_STAT ||| regBit SHF_CHG ||| regBit SHF_EVENTS ||| regBit BBU_STAT ||| regBit BBU_ENERGY ||| regBit BBU_FLOW) (shelfTaken h out busV vll s) (shelfSeen h out busV vll ms s) :=
  .next (inhibitSync_keeps ..) (by decide +kernel) (.next (shelfSync_keeps ..) (by decide +kernel) (.next (shelfState_keeps ..) (by decide +kernel)
    (forEach_keeps (fun m t => (bbuMeasured_keeps h m t).widen (by decide +kernel)) ms (.refl ..))))

theorem shelfTaken_keeps (h out busV vll : Nat) (s : State) : Keeps (regBit SHF_OUT ||| regBit SHF_AC) s (shelfTaken h out busV vll s) :=
  .next (State.wr_keeps ..) (by decide +kernel) (.next (State.wr_keeps ..) (by decide +kernel) ((State.wr_keeps s SHF_OUT_OUT_W h 0 out).widen (by decide +kernel)))

theorem shelfTaken_shows {h out busV vll : Nat} (hout : out < 2 ^ 17) (hbus : busV < 2 ^ 10) (hll : vll < 2 ^ 10) (s : State) : (shelfTaken h out busV vll s).rd SHF_OUT_OUT_W h 0 = out ∧
    (shelfTaken h out busV vll s).rd SHF_OUT_BUS_V h 0 = busV ∧ (shelfTaken h out busV vll s).rd SHF_AC_V_LL h 0 = vll ∧ ∀ k, (shelfTaken h out busV vll s).acOk k = s.acOk k := by
  unfold shelfTaken
  refine ⟨?_, ?_, ?_, fun k => ?_⟩
  · rw [State.rd_wr_id _ _ _ _ _ _ _ _ (by decide), State.rd_wr_field _ _ _ _ _ _ (by rfl) (by decide) (by decide) (by decide), State.rd_wr_same _ _ _ _ _ (by decide) (by decide)]
    exact Nat.mod_eq_of_lt hout
  · rw [State.rd_wr_id _ _ _ _ _ _ _ _ (by decide), State.rd_wr_same _ _ _ _ _ (by decide) (by decide)]
    exact Nat.mod_eq_of_lt hbus
  · rw [State.rd_wr_same _ _ _ _ _ (by decide) (by decide)]
    exact Nat.mod_eq_of_lt hll
  · rw [State.acOk, State.rd_wr_apart _ SHF_AC_V_LL SHF_AC_AC_OK _ _ _ _ _ (.inr ⟨rfl, by decide, by decide, by decide⟩), State.rd_wr_id _ _ _ _ _ _ _ _ (by decide),
      State.rd_wr_id _ _ _ _ _ _ _ _ (by decide)]
    rfl

theorem shelfReport_shows {h out busV vll : Nat} (hout : out < 2 ^ 17) (hbus : busV < 2 ^ 10) (hll : vll < 2 ^ 10) (ms : List BbuMeas) (s : State) :
    (shelfReport h out busV vll ms s).rd SHF_OUT_OUT_W h 0 = out ∧ (shelfReport h out busV vll ms s).rd SHF_OUT_BUS_V h 0 = busV ∧ (shelfReport h out busV vll ms s).rd SHF_AC_V_LL h 0 = vll ∧
    (s.rack.planner.haveActive = true → s.anyAc = true → PlanFits s.rack.planner.planFaults (shelfReport h out busV vll ms s)) := by
  obtain ⟨h1, h2, h3, hac⟩ := shelfTaken_shows (h := h) hout hbus hll s
  have hseen := shelfSeen_keeps h out busV vll ms s
  have hplan := replan_keeps (shelfSeen h out busV vll ms s)
  have heq : shelfReport h out busV vll ms s = replan (shelfSeen h out busV vll ms s) := by simp only [shelfReport, shelfSeen]
  have hplanner : (shelfSeen h out busV vll ms s).rack.planner = s.rack.planner := (hseen.planner (by decide +kernel)).trans ((shelfTaken_keeps h out busV vll s).planner (by decide +kernel))
  have hany : (shelfSeen h out busV vll ms s).anyAc = s.anyAc := by
    have hok : (shelfSeen h out busV vll ms s).acOk = s.acOk := funext fun k => by
      rw [← hac k, State.acOk, hseen.rd _ _ _ (by decide) (by decide +kernel)]
      rfl
    rw [State.anyAc, hok]
    rfl
  rw [heq]
  generalize shelfSeen h out busV vll ms s = u at hseen hplan hplanner hany ⊢
  refine ⟨?_, ?_, ?_, fun hactive hsome => ?_⟩
  · rw [hplan.rd _ _ _ (by decide) (by decide +kernel), hseen.rd _ _ _ (by decide) (by decide +kernel), h1]
  · rw [hplan.rd _ _ _ (by decide) (by decide +kernel), hseen.rd _ _ _ (by decide) (by decide +kernel), h2]
  · rw [hplan.rd _ _ _ (by decide) (by decide +kernel), hseen.rd _ _ _ (by decide) (by decide +kernel), h3]
  · rw [← hplanner]
    exact replan_fits (by rw [hplanner, hactive]) (hany.trans hsome)

/-- The raising step that is next, whether or not it fits. -/
def raised (s : State) : State :=
  if !(allWafers.filter fun w => (s.getPlans w).scaled.isSome).isEmpty then
    forEach (allWafers.filter fun w => (s.getPlans w).scaled.isSome) s fun w t => t.modPlans w fun x => { x with rack := x.scaled.getD x.rack, scaled := none }
  else match s.shedOrder.reverse.find? fun w => (s.getPlans w).shed with
    | some w => s.modPlans w fun x => { x with shed := false, rack := x.unshed }
    | none => match allWafers.find? fun w => raiseCoolant s.now (s.getPlans w) != s.getPlans w with
      | some w => s.modPlans w (raiseCoolant s.now)
      | none => s

theorem raiseStep_eq (s : State) : raiseStep s = if (raised s).fitsRaise then raised s else s := rfl

theorem planRaise_load (s : State) : (planRaise s).planLoad = s.planLoad ∨ (planRaise s).planLoad + 2000000 ≤ (planRaise s).limit * 1000 := by
  unfold planRaise
  split
  · exact .inl rfl
  · have hsame := commitPlan_samePlans (raiseStep s)
    rw [hsame.planLoad, hsame.limit, raiseStep_eq]
    split
    · rename_i hfits
      exact .inr (of_decide_eq_true hfits)
    · exact .inl rfl

/-- A wafer with its rack power's cap as it was before it was shed. -/
def unshedStep (w : Nat) (s : State) : State := s.modPlans w fun x => { x with shed := false, rack := x.unshed }

theorem raised_unsheds (hscaled : ∀ x < 36, (s.getPlans x).scaled = none) (hlast : (s.shedOrder.reverse.find? fun v => (s.getPlans v).shed) = some w) : raised s = unshedStep w s := by
  have hnone : (allWafers.filter fun w => (s.getPlans w).scaled.isSome) = [] := List.filter_eq_nil_iff.mpr fun x hx => by rw [hscaled x (List.mem_range.mp hx)]; exact Bool.false_ne_true
  simp only [raised, hnone, hlast]
  rfl

theorem mem_shedOrder (hw : w ∈ s.shedOrder) : w < 36 ∧ s.planned w = true := by
  obtain ⟨r, -, hw⟩ := List.mem_flatMap.mp hw
  obtain ⟨hlt, hw⟩ := List.mem_filter.mp hw
  exact ⟨List.mem_range.mp hlt, (Bool.and_eq_true _ _ ▸ hw).1⟩

theorem planRaise_unsheds (hactive : s.rack.planner.haveActive = true) (hac : s.anyAc = true) (hscaled : ∀ x < 36, (s.getPlans x).scaled = none)
    (hlast : (s.shedOrder.reverse.find? fun v => (s.getPlans v).shed) = some w) (hfits : (unshedStep w s).fitsRaise = true) :
    ((planRaise s).getPlans w).shed = false ∧ ((planRaise s).getPlans w).rack = (s.getPlans w).unshed ∧ ((planRaise s).getPlans w).written = ((planRaise s).getPlans w).cap := by
  have heq : planRaise s = commitPlan (unshedStep w s) := by
    rw [planRaise, if_neg (by simp [hactive, hac]), raiseStep_eq, raised_unsheds hscaled hlast, if_pos hfits]
  obtain ⟨hlt, hplanned⟩ := mem_shedOrder (List.mem_reverse.mp (List.mem_of_find?_eq_some hlast))
  obtain ⟨a, b, c, hplan⟩ := (commitPlan_samePlans (unshedStep w s)).plans w
  rw [heq]
  refine ⟨?_, ?_, commitPlan_written hlt hplanned⟩
  · rw [hplan, unshedStep, State.getPlans_modPlans_same]
  · rw [hplan, unshedStep, State.getPlans_modPlans_same]

/-! ## Losses of AC (R522) -/

theorem Keeps.planned {m : Nat} (h : Keeps m s t) (hm : m.testBit 38 = false ∧ m.testBit 39 = false) (w : Nat) : t.planned w = s.planned w := by
  rw [State.planned, h.getWafers hm.1, h.getTmcs hm.2]
  rfl

/-- A change of every plan of a list keeps everything but plans. -/
theorem forEach_modPlans_keeps (g : Nat → State → PlanW → PlanW) (ws : List Nat) (s : State) : Keeps 0x400000000000 s (forEach ws s fun w t => t.modPlans w (g w t)) :=
  forEach_keeps (fun w t => State.modPlans_keeps t w _) ws (.refl ..)

/-- What every change of a list of plans gives to a plan, and leaves there, holds of each of them. -/
theorem forEach_modPlans_reaches {P : PlanW → Prop} {g : Nat → State → PlanW → PlanW} (hgives : ∀ w t x, P (g w t x)) {ws : List Nat} (hw : w ∈ ws) (s : State) :
    P ((forEach ws s fun w t => t.modPlans w (g w t)).getPlans w) := by
  refine forEach_reaches (I := fun _ => True) (P := fun t => P (t.getPlans w)) (fun _ _ _ => trivial) (fun v t _ h => ?_) hw (fun t _ => ?_) trivial
  · by_cases hv : w = v
    · subst hv
      rw [State.getPlans_modPlans_same]
      exact hgives ..
    · rw [State.getPlans_modPlans_ne _ _ hv]
      exact h
  · rw [State.getPlans_modPlans_same]
    exact hgives ..

/-- What a change of a list of plans leaves of a plan. -/
theorem forEach_modPlans_holds {P : PlanW → Prop} {g : Nat → State → PlanW → PlanW} (hkeeps : ∀ w t x, P x → P (g w t x)) (ws : List Nat) (hs : P (s.getPlans w)) :
    P ((forEach ws s fun w t => t.modPlans w (g w t)).getPlans w) := by
  refine forEach_holds (P := fun t => P (t.getPlans w)) (fun v _ t h => ?_) hs
  by_cases hv : w = v
  · subst hv
    rw [State.getPlans_modPlans_same]
    exact hkeeps _ _ _ h
  · rw [State.getPlans_modPlans_ne _ _ hv]
    exact h

/-- A machine whose grace has ended: rack power's caps fall to 1,500 W. -/
def graceCapped (s : State) : State :=
  forEach (allWafers.filter s.planned) (s.modPlanner fun p => { p with graceOver := true }) fun w t => t.modPlans w fun x => { x with scaled := some (x.scaled.getD x.rack), rack := min x.rack 1500 }

/-- The COOLANT limits above them wait to be raised again. -/
def graceCooled (s : State) : State :=
  forEach (allWafers.filter s.planned) (graceCapped s) fun w t => t.modPlans w fun x => { x with coolant := x.coolant.bind fun c => if c ≤ 1500 then some c else none, better := some (x.coolant, t.now) }

theorem graceEnd_eq (hactive : s.rack.planner.haveActive = true) (hac : s.anyAc = false) (hgrace : s.rack.planner.graceOver = false) : graceEnd s = commitPlan (graceCooled s) :=
  if_neg (by simp [hactive, hac, hgrace])

theorem PlanW.cap_of_rack {x : PlanW} (h : x.rack ≤ 1500) : x.cap = 1500 := by
  unfold PlanW.cap
  split <;> omega

theorem graceEnd_shows (hactive : s.rack.planner.haveActive = true) (hac : s.anyAc = false) (hgrace : s.rack.planner.graceOver = false) : (graceEnd s).rack.planner.graceOver = true ∧
    ∀ w < 36, s.planned w = true → ((graceEnd s).getPlans w).cap = 1500 ∧ ((graceEnd s).getPlans w).written = 1500 := by
  have hcapped : Keeps 0x400000000000 (s.modPlanner fun p => { p with graceOver := true }) (graceCapped s) := forEach_modPlans_keeps (fun _ _ x => { x with scaled := some (x.scaled.getD x.rack), rack := min x.rack 1500 }) ..
  have hcooled : Keeps 0x400000000000 (graceCapped s) (graceCooled s) :=
    forEach_modPlans_keeps (fun _ t x => { x with coolant := x.coolant.bind fun c => if c ≤ 1500 then some c else none, better := some (x.coolant, t.now) }) ..
  obtain ⟨n, k, hplanner, -⟩ := commitPlan_planner (graceCooled s)
  rw [graceEnd_eq hactive hac hgrace]
  refine ⟨?_, fun w hw hplanned => ?_⟩
  · rw [hplanner]
    exact congrArg Planner.graceOver ((hcooled.planner (by decide +kernel)).trans (hcapped.planner (by decide +kernel)))
  · have hrack : ((graceCapped s).getPlans w).rack ≤ 1500 := forEach_modPlans_reaches (P := fun x => x.rack ≤ 1500) (g := fun _ _ x => { x with scaled := some (x.scaled.getD x.rack), rack := min x.rack 1500 })
      (fun _ _ _ => Nat.min_le_right ..) (List.mem_filter.mpr ⟨List.mem_range.mpr hw, hplanned⟩) _
    have hstays : ((graceCooled s).getPlans w).rack ≤ 1500 := forEach_modPlans_holds (P := fun x => x.rack ≤ 1500)
      (g := fun _ t x => { x with coolant := x.coolant.bind fun c => if c ≤ 1500 then some c else none, better := some (x.coolant, t.now) }) (fun _ _ _ h => h) _ hrack
    have hstill : (graceCooled s).planned w = true := (hcooled.planned (by decide +kernel) w).trans ((hcapped.planned (by decide +kernel) w).trans hplanned)
    have hcap := ((commitPlan_samePlans (graceCooled s)).cap w).trans (PlanW.cap_of_rack hstays)
    exact ⟨hcap, (commitPlan_written hw hstill).trans hcap⟩

/-! ## Power-offs (R470, R522, R537) -/

/-- A wafer is off or on its way down. -/
def State.OffOrDown (s : State) (w : Nat) : Prop := (s.getWafers w).powered = false ∨ (s.getWafers w).downSeq = some 0

theorem takeWaferDown_other (hne : v ≠ w) (s : State) : (takeWaferDown w 0 s).getWafers v = s.getWafers v := by
  have hstep := downStep_keeps w (s.modWafers w fun x => { x with downSeq := some 0 })
  have hmark := hstep.getWafers (by decide +kernel) w
  rw [State.getWafers_modWafers_same] at hmark
  have hkept : (downStep w (s.modWafers w fun x => { x with downSeq := some 0 })).getWafers v = s.getWafers v := by
    rw [hstep.getWafers (by decide +kernel), State.modWafers, State.getWafers_putWafers, if_neg hne]
  rw [takeWaferDown, settle, finishDown_of_mark (congrArg Wafer.downSeq hmark), if_pos rfl]
  split
  · exact hkept
  · rw [unpower, State.modWafers, State.getWafers_putWafers, if_neg hne, (tbCold_keeps ..).getWafers (by decide +kernel), (State.putTwis_keeps ..).getWafers (by decide +kernel),
      (State.putBups_keeps ..).getWafers (by decide +kernel), (resetWafer_keeps ..).getWafers (by decide +kernel), (pcieLost_keeps ..).getWafers (by decide +kernel), State.modWafers,
      State.getWafers_putWafers, if_neg hne, hkept]

/-- A tray as its power-off begins. -/
def trayDown (w : Nat) (s : State) : State := (s.modBups w fun b => { b with starting := false }).modTmcs w fun t => { t with powerOn := false }

theorem trayDown_keeps (w : Nat) (s : State) : Keeps 0x8100000000 s (trayDown w s) := .next (State.modTmcs_keeps ..) (by decide +kernel) ((State.modBups_keeps ..).widen (by decide +kernel))

theorem trayPowerOff_other (hne : v ≠ w) (s : State) : (trayPowerOff w s).getWafers v = s.getWafers v := by
  unfold trayPowerOff
  split
  · rfl
  · exact (takeWaferDown_other hne (trayDown w s)).trans ((trayDown_keeps w s).getWafers (by decide +kernel) v)

theorem trayPowerOff_offOrDown (w : Nat) (s : State) : (trayPowerOff w s).OffOrDown w := by
  cases hon : (s.getWafers w).powered with
  | false =>
    rw [trayPowerOff, if_pos (by simp [hon])]
    exact .inl hon
  | true => exact trayPowerOff_down hon

theorem takeWaferDown_units (w : Nat) (s : State) : SameUnits s (takeWaferDown w 0 s) := by
  obtain ⟨u, hkeeps, ⟨heq, -⟩ | heq⟩ := takeWaferDown_cases w 0 s
  · exact heq ▸ .of_keeps hkeeps (by decide +kernel)
  · rw [heq, if_pos rfl]
    exact (SameUnits.of_keeps hkeeps (by decide +kernel)).trans (unpower_units w u)

theorem trayPowerOff_units (w : Nat) (s : State) : SameUnits s (trayPowerOff w s) := by
  unfold trayPowerOff
  split
  · exact .refl s
  · exact (SameUnits.of_keeps (trayDown_keeps w s) (by decide +kernel)).trans (takeWaferDown_units w (trayDown w s))

theorem switchTrayOff_getTmcs (k : Nat) (s : State) (j : Nat) : (switchTrayOff k s).getTmcs j = if j = 36 + k then { s.getTmcs (36 + k) with powerOn := false } else s.getTmcs j := by
  rw [switchTrayOff, State.modTmcs, State.getTmcs_putTmcs, (chipReset_keeps ..).getTmcs (by decide +kernel), (chipReset_keeps ..).getTmcs (by decide +kernel),
    (chipReset_keeps ..).getTmcs (by decide +kernel), (chipReset_keeps ..).getTmcs (by decide +kernel)]

/-- Every tray is off or on its way down, and every switch tray is off. -/
def AllTraysOff (t : State) : Prop := (∀ w : WaferId, t.OffOrDown w) ∧ ∀ k < 8, (t.getTmcs (36 + k)).powerOn = false

theorem AllTraysOff.of_keeps {m : Nat} (h : Keeps m s t) (hm : m.testBit 38 = false ∧ m.testBit 39 = false) (hoff : AllTraysOff s) : AllTraysOff t := by
  unfold AllTraysOff State.OffOrDown at hoff ⊢
  simp only [h.getWafers hm.1, h.getTmcs hm.2]
  exact hoff

theorem allTraysOff_off (s : State) : AllTraysOff (allTraysOff s) := by
  refine ⟨fun w => ?_, fun k hk => ?_⟩
  · have hwafers : (forEach allWafers s trayPowerOff).OffOrDown w :=
      forEach_establishes (Q := fun _ _ => True) (P := fun (w : Nat) t => t.OffOrDown w) (fun w t _ => trayPowerOff_offOrDown w t) (fun _ _ _ _ _ => trivial)
        (fun a b t hne h => by unfold State.OffOrDown; rw [trayPowerOff_other hne]; exact h) List.nodup_range (fun _ _ => trivial) w.val (List.mem_range.mpr w.isLt)
    have hkept : (allTraysOff s).getWafers w = (forEach allWafers s trayPowerOff).getWafers w :=
      forEach_leaves (State.getWafers · w) (List.range 8) _ fun k _ t => (switchTrayOff_keeps k t).getWafers (by decide +kernel) w
    unfold State.OffOrDown
    rw [hkept]
    exact hwafers
  · exact forEach_establishes (Q := fun _ _ => True) (P := fun (k : Nat) t => (t.getTmcs (36 + k)).powerOn = false) (fun k t _ => by rw [switchTrayOff_getTmcs, if_pos rfl]) (fun _ _ _ _ _ => trivial)
      (fun a b t hne h => by rw [switchTrayOff_getTmcs, if_neg (by omega), h]) List.nodup_range (fun _ _ => trivial) k (List.mem_range.mpr hk)

theorem allTraysOff_units (s : State) : SameUnits s (allTraysOff s) :=
  (forEach_relates SameUnits.refl SameUnits.trans (fun w t => trayPowerOff_units w t) allWafers s).trans (forEach_relates SameUnits.refl SameUnits.trans (fun k t => switchTrayOff_units k t) _ _)

theorem reserveLow_shows {load : Nat} (hactive : s.rack.planner.haveActive = true) (hac : s.anyAc = false) (hlow : sumOf allShelves s.usableEnergy * 1000 ≤ 10 * load) :
    AllTraysOff (reserveLow load s) ∧ ∀ c : CduId, (reserveLow load s).rd CDU_STAT_STATE c 0 = 0 := by
  have heq : reserveLow load s = forEach [0, 1] (allTraysOff s) fun c t => if t.rd CDU_STAT_STATE c 0 = 0 then t else cduOff c 0 t := by
    rw [reserveLow, if_neg (by simp only [hactive, hac, not_or, not_lt]; exact ⟨by decide, by decide, hlow⟩)]
  have hkeeps : ∀ (c : Nat) (t : State), Keeps 0xa000000000000000000000000000000000000000000000000000000000000000000000000 t (if t.rd CDU_STAT_STATE c 0 = 0 then t else cduOff c 0 t) := fun c t =>
    .ite (.refl ..) ((cduOff_keeps c 0 t).widen (by decide +kernel))
  rw [heq]
  refine ⟨(allTraysOff_off s).of_keeps (forEach_keeps hkeeps _ (.refl ..)) (by decide +kernel), fun c => ?_⟩
  refine forEach_establishes (Q := fun _ _ => True) (P := fun (c : Nat) t => t.rd CDU_STAT_STATE c 0 = 0) (fun c t _ => ?_) (fun _ _ _ _ _ => trivial) (fun a b t hne h => ?_) (by decide)
    (fun _ _ => trivial) c.val (by fin_cases c <;> decide)
  · split
    · assumption
    · exact cduOff_state (by decide) t
  · split
    · exact h
    · exact (cduOff_other 0 hne t _ 0).trans h

/-! ## The coolant units (R534, R536, R537) -/

theorem cduOff_shows {c code : Nat} (hcode : code < 8) (s : State) : (cduOff c code s).rd CDU_STAT_STATE c 0 = code ∧ (cduOff c code s).rd CDU_FLOW_FLOW c 0 = 0 ∧
    (cduOff c code s).rd CDU_STAT_PUMP c 0 = 0 := by
  refine ⟨cduOff_state hcode s, ?_, ?_⟩
  · rw [cduOff, State.rd_wr_same _ _ _ _ _ (by decide) (by decide)]
    rfl
  · rw [cduOff, State.rd_wr_id _ _ _ _ _ _ _ _ (by decide), State.rd_wr_same _ _ _ _ _ (by decide) (by decide)]
    rfl

theorem cduFailover_shows (c : CduId) (s : State) : (cduFailover c s).rd CDU_STAT_STATE c 0 = 3 ∧ (cduFailover c s).rd CDU_FLOW_FLOW c 0 = 0 ∧ (cduFailover c s).rd CDU_STAT_PUMP c 0 = 0 ∧
    (s.rd CDU_STAT_STATE (1 - c.val) 0 = 1 ∨ s.rd CDU_STAT_STATE (1 - c.val) 0 = 2 → (cduFailover c s).rd CDU_FLOW_FLOW (1 - c.val) 0 = 2400) := by
  obtain ⟨hstate, hflow, hpump⟩ := cduOff_shows (c := c) (code := 3) (by decide) s
  have hother : 1 - c.val ≠ c.val := by omega
  unfold cduFailover
  dsimp only
  simp only [cduOff_other 3 hother]
  split
  · refine ⟨?_, ?_, ?_, fun _ => ?_⟩
    · rw [State.rd_wr_id _ _ _ _ _ _ _ _ (by decide), hstate]
    · rw [State.rd_wr_ne _ _ _ _ _ _ _ _ (.inr (.inl hother.symm)), hflow]
    · rw [State.rd_wr_id _ _ _ _ _ _ _ _ (by decide), hpump]
    · rw [State.rd_wr_same _ _ _ _ _ (by decide) (by decide)]
      rfl
  · exact ⟨hstate, hflow, hpump, fun hrunning => absurd hrunning ‹_›⟩

theorem cduMeasured_shows (m : CduMeas) (s : State) : (cduMeasured m s).rd CDU_TEMP_SUPPLY m.cdu 0 = m.supply.toNat ∧ (cduMeasured m s).rd CDU_FLOW_FLOW m.cdu 0 = m.flow.toNat ∧
    (cduMeasured m s).rd CDU_FLOW_LEVEL m.cdu 0 = m.level.toNat ∧ (cduMeasured m s).rd CDU_FAC_FAC_IN m.cdu 0 = m.facIn.toNat := by
  unfold cduMeasured
  dsimp only
  refine ⟨?_, ?_, ?_, ?_⟩
  · rw [State.rd_wr_id _ _ _ _ _ _ _ _ (by decide), State.rd_wr_id _ _ _ _ _ _ _ _ (by decide), State.rd_wr_id _ _ _ _ _ _ _ _ (by decide), State.rd_wr_id _ _ _ _ _ _ _ _ (by decide),
      State.rd_wr_id _ _ _ _ _ _ _ _ (by decide), State.rd_wr_id _ _ _ _ _ _ _ _ (by decide), State.rd_wr_field _ _ _ _ _ _ (by rfl) (by decide) (by decide) (by decide),
      State.rd_wr_same _ _ _ _ _ (by decide) (by decide)]
    exact Nat.mod_eq_of_lt m.supply.isLt
  · rw [State.rd_wr_id _ _ _ _ _ _ _ _ (by decide), State.rd_wr_id _ _ _ _ _ _ _ _ (by decide), State.rd_wr_same _ _ _ _ _ (by decide) (by decide)]
    exact Nat.mod_eq_of_lt m.flow.isLt
  · rw [State.rd_wr_id _ _ _ _ _ _ _ _ (by decide), State.rd_wr_id _ _ _ _ _ _ _ _ (by decide), State.rd_wr_field _ _ _ _ _ _ (by rfl) (by decide) (by decide) (by decide),
      State.rd_wr_id _ _ _ _ _ _ _ _ (by decide), State.rd_wr_id _ _ _ _ _ _ _ _ (by decide), State.rd_wr_same _ _ _ _ _ (by decide) (by decide)]
    exact Nat.mod_eq_of_lt m.level.isLt
  · rw [State.rd_wr_id _ _ _ _ _ _ _ _ (by decide), State.rd_wr_id _ _ _ _ _ _ _ _ (by decide), State.rd_wr_id _ _ _ _ _ _ _ _ (by decide),
      State.rd_wr_field _ _ _ _ _ _ (by rfl) (by decide) (by decide) (by decide), State.rd_wr_same _ _ _ _ _ (by decide) (by decide)]
    exact Nat.mod_eq_of_lt m.facIn.isLt

/-- A machine whose RMC knows the reported inlets. -/
def inletsKnown (inlets : List (Nat × Nat)) (s : State) : State := forEach inlets s fun x t => t.modPlans x.1 fun y => { y with inlet := x.2 }

/-- Every wafer's COOLANT limit follows. -/
def limitsFollowed (s : State) : State := forEach allWafers s fun w t => t.modPlans w (coolantFollow t.now t.tankFlow)

theorem coolantReport_eq (ms : List CduMeas) (inlets : List (Nat × Nat)) (s : State) : coolantReport ms inlets s =
    if !(forEach ms s cduMeasured).rack.planner.haveActive then forEach ms s cduMeasured else commitPlan (limitsFollowed (inletsKnown inlets (forEach ms s cduMeasured))) := rfl

theorem inletsKnown_keeps (inlets : List (Nat × Nat)) (s : State) : Keeps 0x400000000000 s (inletsKnown inlets s) := forEach_keeps (fun x t => State.modPlans_keeps t x.1 _) inlets (.refl ..)

theorem limitsFollowed_keeps (s : State) : Keeps 0x400000000000 s (limitsFollowed s) := forEach_modPlans_keeps (fun _ t => coolantFollow t.now t.tankFlow) ..

theorem commitPlan_cdus (s : State) (F : Fld) (c : Nat) (hF : F.reg.id = 225 ∨ F.reg.id = 226 ∨ F.reg.id = 227 ∨ F.reg.id = 228) : (commitPlan s).rd F c 0 = s.rd F c 0 := by
  have hbits : ∀ i < 320, i = 225 ∨ i = 226 ∨ i = 227 ∨ i = 228 → (0x14c00460000001200601800000000000000000000000000000000000000007000000140c200000018 : Nat).testBit (64 + i) = false := by decide +kernel
  exact (commitPlan_keeps s).rd F c 0 (by omega) (hbits _ (by omega) hF)

theorem coolantReport_cdus (ms : List CduMeas) (inlets : List (Nat × Nat)) (s : State) (F : Fld) (c : Nat) (hF : F.reg.id = 225 ∨ F.reg.id = 226 ∨ F.reg.id = 227 ∨ F.reg.id = 228) :
    (coolantReport ms inlets s).rd F c 0 = (forEach ms s cduMeasured).rd F c 0 := by
  have hbits : ∀ i < 320, (0x400000000000 : Nat).testBit (64 + i) = false := by decide +kernel
  rw [coolantReport_eq]
  split
  · rfl
  · rw [commitPlan_cdus _ _ _ hF, (limitsFollowed_keeps _).rd _ _ _ (by omega) (hbits _ (by omega)), (inletsKnown_keeps ..).rd _ _ _ (by omega) (hbits _ (by omega))]

theorem coolantFollow_inlet (now flow : Nat) (x : PlanW) : (coolantFollow now flow x).inlet = x.inlet := by
  unfold coolantFollow
  dsimp only
  split
  · rfl
  · split
    · rfl
    · split <;> rfl

theorem limitBelow_irrefl (l : Option Nat) : limitBelow l l = false := by cases l <;> simp [limitBelow]

/-- A lower limit is taken at once. -/
theorem coolantFollow_lowers (now flow : Nat) {x : PlanW} (hlower : limitBelow (coolantLimit x.inlet flow) x.coolant = true) : (coolantFollow now flow x).coolant = coolantLimit x.inlet flow := by
  have hne : coolantLimit x.inlet flow ≠ x.coolant := fun h => Bool.false_ne_true ((limitBelow_irrefl _).symm.trans (h ▸ hlower))
  unfold coolantFollow
  dsimp only
  rw [if_neg hne, if_pos hlower]

theorem limitsFollowed_getPlans (s : State) (hw : w < 36) : (limitsFollowed s).getPlans w = coolantFollow s.now s.tankFlow (s.getPlans w) := by
  have hsame : ∀ (t : State) (v : Nat) (g : PlanW → PlanW), (t.modPlans v g).now = t.now ∧ (t.modPlans v g).tankFlow = t.tankFlow := fun t v g => ⟨(State.modPlans_keeps t v g).now, rfl⟩
  have hdone := forEach_establishes (g := fun w (t : State) => t.modPlans w (coolantFollow t.now t.tankFlow))
    (Q := fun w t => t.getPlans w = s.getPlans w ∧ t.now = s.now ∧ t.tankFlow = s.tankFlow) (P := fun w t => t.getPlans w = coolantFollow s.now s.tankFlow (s.getPlans w))
    (fun w t ⟨hplan, hnow, hflow⟩ => by rw [State.getPlans_modPlans_same, hplan, hnow, hflow])
    (fun a b t hne ⟨hplan, hnow, hflow⟩ => ⟨(State.getPlans_modPlans_ne _ _ hne).trans hplan, (hsame ..).1.trans hnow, (hsame ..).2.trans hflow⟩)
    (fun a b t hne h => (State.getPlans_modPlans_ne _ _ hne).trans h) (xs := allWafers) List.nodup_range (s := s) (fun _ _ => ⟨rfl, rfl, rfl⟩)
  exact hdone w (List.mem_range.mpr hw)

theorem State.tankFlow_of (h : ∀ c, t.rd CDU_FLOW_FLOW c 0 = s.rd CDU_FLOW_FLOW c 0) : t.tankFlow = s.tankFlow := by rw [State.tankFlow, h, h]; rfl

theorem coolantReport_one {ms : List CduMeas} {inlet : Nat} (hw : w < 36) (hactive : s.rack.planner.haveActive = true) : ((coolantReport ms [(w, inlet)] s).getPlans w).inlet = inlet ∧
    (coolantReport ms [(w, inlet)] s).AllWritten ∧ (limitBelow (coolantLimit inlet (coolantReport ms [(w, inlet)] s).tankFlow) (s.getPlans w).coolant = true →
      ((coolantReport ms [(w, inlet)] s).getPlans w).coolant = coolantLimit inlet (coolantReport ms [(w, inlet)] s).tankFlow) := by
  have hmeasured : Keeps (regBit CDU_STAT ||| regBit CDU_TEMP ||| regBit CDU_FLOW ||| regBit CDU_FAC) s (forEach ms s cduMeasured) := forEach_keeps (fun m t => (cduMeasured_keeps m t).widen (by decide +kernel)) ms (.refl ..)
  have hflow : (coolantReport ms [(w, inlet)] s).tankFlow = (inletsKnown [(w, inlet)] (forEach ms s cduMeasured)).tankFlow := State.tankFlow_of fun c =>
    (coolantReport_cdus ms [(w, inlet)] s _ c (by decide)).trans ((inletsKnown_keeps ..).rd _ _ _ (by decide) (by decide +kernel)).symm
  have hplan : (inletsKnown [(w, inlet)] (forEach ms s cduMeasured)).getPlans w = { s.getPlans w with inlet := inlet } := by
    have hknown : ∀ u : State, inletsKnown [(w, inlet)] u = u.modPlans w fun y => { y with inlet := inlet } := fun _ => rfl
    rw [hknown, State.getPlans_modPlans_same, hmeasured.getPlans (by decide +kernel)]
  have heq : coolantReport ms [(w, inlet)] s = commitPlan (limitsFollowed (inletsKnown [(w, inlet)] (forEach ms s cduMeasured))) := by
    rw [coolantReport_eq, hmeasured.planner (by decide +kernel), hactive]
    rfl
  obtain ⟨a, b, c, hcommit⟩ := (commitPlan_samePlans (limitsFollowed (inletsKnown [(w, inlet)] (forEach ms s cduMeasured)))).plans w
  rw [limitsFollowed_getPlans _ hw, hplan, ← heq] at hcommit
  rw [hcommit, hflow]
  refine ⟨coolantFollow_inlet .., heq ▸ commitPlan_allWritten _, fun hlower => coolantFollow_lowers (x := { s.getPlans w with inlet := inlet }) _ _ hlower⟩

/-- Every COOLANT limit at its lowest. -/
def limitsLost (s : State) : State := forEach allWafers s fun w t => t.modPlans w fun x => { x with coolant := some 1500, better := none }

theorem limitsLost_coolant (hw : w < 36) (s : State) : ((limitsLost s).getPlans w).coolant = some 1500 :=
  forEach_modPlans_reaches (P := fun x => x.coolant = some 1500) (g := fun _ _ x => { x with coolant := some 1500, better := none }) (fun _ _ _ => rfl) (List.mem_range.mpr hw) s

theorem flowLoss_eq (hlow : s.tankFlow < 200) (hactive : s.rack.planner.haveActive = true) : flowLoss s = commitPlan (limitsLost s) :=
  if_neg (by simp only [hactive, not_or, not_le]; exact ⟨hlow, by decide⟩)

theorem flowLoss_shows (hlow : s.tankFlow < 200) (hactive : s.rack.planner.haveActive = true) : (flowLoss s).AllWritten ∧ ∀ w < 36, ((flowLoss s).getPlans w).coolant = some 1500 := by
  rw [flowLoss_eq hlow hactive]
  exact ⟨commitPlan_allWritten _, fun w hw => ((commitPlan_samePlans _).plans w).coolant.trans (limitsLost_coolant hw s)⟩

theorem flowOff_off (hactive : s.rack.planner.haveActive = true) (hlost : s.tankFlow < 200 ∨ 960 ≤ s.rd CDU_TEMP_SUPPLY 0 0 ∨ 960 ≤ s.rd CDU_TEMP_SUPPLY 1 0) : AllTraysOff (flowOff s) := by
  have heq : flowOff s = allTraysOff s := if_neg (by
    rintro (hnone | hcool)
    · simp [hactive] at hnone
    · omega)
  exact heq ▸ allTraysOff_off s

theorem inletOvertemp_down (hhot : 960 ≤ (s.getPlans w).inlet ∨ 960 ≤ s.rd THM_COOLANT_TRAY_IN w 0) : (inletOvertemp w s).OffOrDown w := by
  rw [inletOvertemp, if_pos hhot]
  exact trayPowerOff_offOrDown w s

theorem setLevel_shows {level : Nat} (hlevel : level < 2 ^ 7) (c : CduId) (s : State) : (setLevel level s).rd CDU_FLOW_LEVEL c 0 = level :=
  forEach_establishes (Q := fun _ _ => True) (P := fun (c : Nat) t => t.rd CDU_FLOW_LEVEL c 0 = level) (fun c t _ => (State.rd_wr_same _ _ _ _ _ (by decide) (by decide)).trans (Nat.mod_eq_of_lt hlevel))
    (fun _ _ _ _ _ => trivial) (fun a b t hne h => (State.rd_wr_ne _ _ _ _ _ _ _ _ (.inr (.inl hne))).trans h) (by decide) (fun _ _ => trivial) c.val (by fin_cases c <;> decide)

theorem setLevel_onlyLevel (level : Nat) (s : State) : Keeps (regBit CDU_FLOW) s (setLevel level s) := forEach_keeps (fun c t => State.wr_keeps t CDU_FLOW_LEVEL c 0 level) [0, 1] (.refl ..)

/-- The running CDUs show the level. -/
def levelShown (s : State) : State := forEach [0, 1] s fun c t => if t.rd CDU_STAT_STATE c 0 = 1 then t.wr CDU_STAT_STATE c 0 2 else t

theorem levelShown_keeps (s : State) : Keeps (regBit CDU_STAT) s (levelShown s) := forEach_keeps (fun c t => .ite (State.wr_keeps t CDU_STAT_STATE c 0 2) (.refl ..)) [0, 1] (.refl ..)

theorem levelShown_state (c : CduId) (s : State) (hrunning : s.rd CDU_STAT_STATE c 0 = 1) : (levelShown s).rd CDU_STAT_STATE c 0 = 2 := by
  refine forEach_establishes (Q := fun (c : Nat) t => s.rd CDU_STAT_STATE c 0 = 1 → t.rd CDU_STAT_STATE c 0 = 1) (P := fun (c : Nat) t => s.rd CDU_STAT_STATE c 0 = 1 → t.rd CDU_STAT_STATE c 0 = 2)
    (fun c t h hon => ?_) (fun a b t hne h hon => ?_) (fun a b t hne h hon => ?_) (by decide) (fun _ _ h => h) c.val (by fin_cases c <;> decide) hrunning
  · rw [if_pos (h hon), State.rd_wr_same _ _ _ _ _ (by decide) (by decide)]
    rfl
  all_goals
    split
    · rw [State.rd_wr_ne _ _ _ _ _ _ _ _ (.inr (.inl hne)), h hon]
    · exact h hon

theorem levelAlarm_shows {level : Nat} (hlow : level < 95) (hactive : s.rack.planner.haveActive = true) : 2 ∈ (levelAlarm level s).rack.planner.alarms ∧ ∀ c : CduId,
    (levelAlarm level s).rd CDU_FLOW_LEVEL c 0 = level ∧ (s.rd CDU_STAT_STATE c 0 = 1 → (levelAlarm level s).rd CDU_STAT_STATE c 0 = 2) := by
  have hset := setLevel_onlyLevel level s
  have heq : levelAlarm level s = alarm 2 (levelShown (setLevel level s)) := by
    exact if_neg (not_or.mpr ⟨by omega, by rw [hactive]; decide⟩)
  have halarm := alarm_keeps 2 (levelShown (setLevel level s))
  rw [heq]
  refine ⟨(alarm_shows 2 _).1, fun c => ⟨?_, fun hrunning => ?_⟩⟩
  · rw [halarm.rd _ _ _ (by decide) (by decide +kernel), (levelShown_keeps _).rd _ _ _ (by decide) (by decide +kernel), setLevel_shows (by omega)]
  · rw [halarm.rd _ _ _ (by decide) (by decide +kernel), levelShown_state c _ ((hset.rd _ _ _ (by decide) (by decide +kernel)).trans hrunning)]

theorem levelOff_shows {level : Nat} (hlow : level < 90) (hactive : s.rack.planner.haveActive = true) : AllTraysOff (levelOff level s) ∧ ∀ c : CduId, (levelOff level s).rd CDU_FLOW_LEVEL c 0 = level := by
  have heq : levelOff level s = allTraysOff (setLevel level s) := by
    exact if_neg (not_or.mpr ⟨by omega, by rw [hactive]; decide⟩)
  rw [heq]
  refine ⟨allTraysOff_off _, fun c => ?_⟩
  rw [(allTraysOff_units _).rd _ _ _ (by decide) (by decide), setLevel_shows (by omega)]

/-! ## The interlock and the takeover (R741, R26) -/

theorem interlockOpen_shows (w : Nat) (s : State) : ((interlockOpen w s).getWafers w).powered = false ∧ ((interlockOpen w s).getWafers w).interlockOpen = true ∧
    ((interlockOpen w s).getTmcs w).running = false := by
  have hwafer : (interlockOpen w s).getWafers w = { (busUndervolt w false s).getWafers w with interlockOpen := true } := by
    rw [interlockOpen, (State.modTmcs_keeps ..).getWafers (by decide +kernel), State.getWafers_modWafers_same]
  rw [hwafer, interlockOpen, State.modTmcs, State.getTmcs_putTmcs, if_pos rfl]
  exact ⟨busUndervolt_off w s, rfl, rfl⟩

/-- The role as the standby takes it. -/
def Planner.takenOver (q : Planner) : Planner :=
  { q with
    active := 1 - q.active, haveActive := true, missed := 0, failover := false, cueActive := false
    queue := (match q.step, q.change with | .writing, some c => [c] | _, _ => []) ++ q.queue
    change := if q.step = .writing then none else q.change
    step := match q.step with
      | .writing => .none
      | .rehearsing => .built
      | .rehearsed => .built
      | x => x }

theorem rmcTakeover_eq (h : 3 ≤ s.rack.planner.missed ∨ s.rack.planner.failover = true) : rmcTakeover s =
    replan (newPlan (allWafers.filter (s.modPlanner Planner.takenOver).planned) (s.modPlanner Planner.takenOver)) := by
  rw [rmcTakeover, if_neg fun ⟨hmissed, hfailover⟩ => h.elim (Nat.not_le.mpr hmissed) fun hset => Bool.false_ne_true (hfailover.symm.trans hset)]
  rfl

theorem Planner.takenOver_queue (q : Planner) : q.takenOver.queue = (if q.step = .writing then q.change.toList else []) ++ q.queue := by
  unfold Planner.takenOver
  cases hstep : q.step <;> cases hchange : q.change <;> simp

/-- What a new computation of the plan leaves of the RMC's state. -/
theorem replan_planner (s : State) : ∃ a b c d, (replan s).rack.planner = { s.rack.planner with graceOver := a, planFaults := b, planId := c, plannedShelves := d } ∧
    (c = s.rack.planner.planId ∨ c = (s.rack.planner.planId + 1) % 4096) := by
  by_cases hgo : s.rack.planner.haveActive = true ∧ s.anyAc = true
  · obtain ⟨n, k, hplanner, hnumber⟩ := commitPlan_planner (shed (graceLeft s))
    obtain ⟨f, hshed⟩ := shed_planner (graceLeft s)
    rw [hshed, graceLeft_planner] at hplanner hnumber
    rw [replan_eq hgo.1 hgo.2]
    exact ⟨false, f, n, k, hplanner, hnumber⟩
  · have hstays : replan s = s := by
      cases hactive : s.rack.planner.haveActive with
      | false => rw [replan, if_pos (by simp [hactive])]
      | true => rw [replan, if_neg (by simp [hactive]), if_pos (by simpa [hactive] using hgo)]
    rw [hstays]
    exact ⟨_, _, _, _, rfl, .inl rfl⟩

theorem replan_allWritten (h : s.AllWritten) : (replan s).AllWritten := by
  unfold replan
  split
  · exact h
  · split
    · exact h
    · exact commitPlan_allWritten _

theorem rmcTakeover_shows (h : 3 ≤ s.rack.planner.missed ∨ s.rack.planner.failover = true) : (rmcTakeover s).rack.planner.active = 1 - s.rack.planner.active ∧
    (rmcTakeover s).rack.planner.haveActive = true ∧ (rmcTakeover s).rack.planner.missed = 0 ∧ (rmcTakeover s).rack.planner.failover = false ∧ (rmcTakeover s).AllWritten ∧
    (rmcTakeover s).rack.planner.planId ≠ s.rack.planner.planId ∧
    (rmcTakeover s).rack.planner.queue = (if s.rack.planner.step = .writing then s.rack.planner.change.toList else []) ++ s.rack.planner.queue := by
  have hwritten : (newPlan (allWafers.filter (s.modPlanner Planner.takenOver).planned) (s.modPlanner Planner.takenOver)).AllWritten := fun w hw hplanned =>
    newPlan_written (.inl (List.mem_filter.mpr ⟨List.mem_range.mpr hw, ((newPlan_samePlans ..).planned w).symm.trans hplanned⟩))
  have hnew := newPlan_planner (allWafers.filter (s.modPlanner Planner.takenOver).planned) (s.modPlanner Planner.takenOver)
  obtain ⟨a, b, c, d, hplanner, hnumber⟩ := replan_planner (newPlan (allWafers.filter (s.modPlanner Planner.takenOver).planned) (s.modPlanner Planner.takenOver))
  have hrole : (s.modPlanner Planner.takenOver).rack.planner = s.rack.planner.takenOver := rfl
  rw [hnew, hrole] at hplanner hnumber
  rw [rmcTakeover_eq h, hplanner]
  refine ⟨rfl, rfl, rfl, rfl, replan_allWritten hwritten, ?_, Planner.takenOver_queue _⟩
  change c ≠ s.rack.planner.planId
  have hid : s.rack.planner.takenOver.planId = s.rack.planner.planId := rfl
  rw [hid] at hnumber
  simp only at hnumber
  omega

end

end Sys2Proof.Machine
open Sys2Proof Sys2Proof.Machine

/-- Settles O44: a committed plan leaves the load and the limits that it was made for, and every wafer that it names, or that needs no change, is written. -/
theorem planAndCooling : Obligations.PlanAndCooling := by
  unfold Obligations.PlanAndCooling
  intro s written fits off allOff active
  refine ⟨fun h hactive hac => ⟨_, rfl, replan_fits hactive hac⟩, fun h out busV vll ms => ⟨_, rfl, shelfReport_shows out.isLt busV.isLt vll.isLt ms s⟩, ⟨_, rfl, planRaise_load s, ?_⟩,
    fun hactive hac hgrace => ⟨_, rfl, graceEnd_shows hactive hac hgrace⟩, fun load hactive hac hlow => ⟨_, rfl, reserveLow_shows hactive hac hlow⟩, fun c => ⟨_, rfl, cduFailover_shows c s⟩,
    fun m inlets => ⟨_, rfl, ?_⟩, fun ms w inlet hactive => ⟨_, rfl, coolantReport_one w.isLt hactive⟩, fun w hhot => ⟨_, rfl, inletOvertemp_down hhot⟩,
    fun hlow hactive => ⟨_, rfl, flowLoss_shows hlow hactive⟩, fun hactive hlost => ⟨_, rfl, flowOff_off hactive hlost⟩, fun level hlow hactive => ⟨_, rfl, levelAlarm_shows hlow hactive⟩,
    fun level hlow hactive => ⟨_, rfl, levelOff_shows hlow hactive⟩, fun w => ⟨_, rfl, interlockOpen_shows w s⟩, fun h => ⟨_, rfl, rmcTakeover_shows h⟩⟩
  · exact fun w hactive hac hscaled hlast hfits => planRaise_unsheds hactive hac hscaled hlast hfits
  · obtain ⟨hsupply, hflow, hlevel, hfac⟩ := cduMeasured_shows m s
    have hcdus : ∀ (F : Fld), F.reg.id = 225 ∨ F.reg.id = 226 ∨ F.reg.id = 227 ∨ F.reg.id = 228 → ∀ inlets, (coolantReport [m] inlets s).rd F m.cdu 0 = (cduMeasured m s).rd F m.cdu 0 :=
      fun F hF inlets => coolantReport_cdus [m] inlets s F m.cdu hF
    exact ⟨(hcdus _ (by decide) _).trans hsupply, (hcdus _ (by decide) _).trans hflow, (hcdus _ (by decide) _).trans hlevel, (hcdus _ (by decide) _).trans hfac⟩

end

section
/-!
PROOF. Heat, ghost light and ageing (R540-R555): the sensors and the junction limit, park-hottest, the requests of ghost light with the groups that it warms, and
the monitors with the hour of each quadrant.
-/
set_option Elab.async false
namespace Sys2Proof.Machine

/-! ## Groups that run -/

section
variable {m : Nat} {s t : State}

theorem Keeps.groupRuns (h : Keeps m s t) (hstat : m.testBit (64 + PWR_DOM_STAT.id) = false) (hpark : m.testBit (64 + PWR_PARK.id) = false) (hparks : m.testBit 29 = false)
    (w : Nat) (g : Group) : t.groupRuns w g = s.groupRuns w g := by
  simp only [State.groupRuns, State.domState, h.rd PWR_DOM_STAT_STATE _ _ (by decide) hstat, h.groupDepth hpark, h.rd PWR_PARK_MOVING _ _ (by decide) hpark, h.getParks hparks]

theorem Keeps.topGroups (h : Keeps m s t) (hstat : m.testBit (64 + PWR_DOM_STAT.id) = false) (hpark : m.testBit (64 + PWR_PARK.id) = false) (hparks : m.testBit 29 = false)
    (w q n : Nat) : t.topGroups w q n = s.topGroups w q n := by
  simp only [State.topGroups, h.groupRuns hstat hpark hparks]

theorem Keeps.domState (h : Keeps m s t) (hstat : m.testBit (64 + PWR_DOM_STAT.id) = false) (w d : Nat) : t.domState w d = s.domState w d :=
  h.rd PWR_DOM_STAT_STATE w d (by decide) hstat

end

/-! ## Sensors and the junction limit (R540, R541) -/

theorem foldl_max_lt {α : Type} {n : Nat} {f : α → Nat} (hf : ∀ a, f a < n) (xs : List α) {m : Nat} (hm : m < n) : xs.foldl (fun m a => max m (f a)) m < n := by
  induction xs generalizing m with
  | nil => exact hm
  | cons a xs ih => exact ih (max_lt hm (hf a))

theorem quadTj_lt (x : QuadTemp) : quadTj x < 2 ^ 12 := by
  have hsub : ∀ i, (quadTemps x).getD i 0 < 2 ^ 12 := fun i =>
    match i with
    | 0 => x.t0.isLt
    | 1 => x.t1.isLt
    | 2 => x.t2.isLt
    | 3 => x.t3.isLt
    | _ + 4 => by simp [quadTemps]
  unfold quadTj
  dsimp only
  split
  · decide
  · exact foldl_max_lt hsub _ (by decide)

section
variable {w q : Nat} {s : State}

theorem forEach_one {α : Type} (x : α) (s : State) (g : α → State → State) : forEach [x] s g = g x s := by
  rw [forEach, List.foldl_cons, List.foldl_nil]

/-- What holds a quadrant's groups is shown beside its temperature. -/
theorem heatSync_tj (w q : Nat) (s : State) (x : Nat) : (heatSync w q s).tj w x = s.tj w x := by
  rw [State.tj, heatSync, (guardSync_keeps ..).rd THM_Q_TJ _ _ (by decide) (by decide +kernel), State.rd_wr_apart _ _ _ _ _ _ _ _ (by decide), State.rd_wr_apart _ _ _ _ _ _ _ _ (by decide)]
  rfl

/-- A quadrant's requests change, and what holds its groups is shown. -/
theorem heatSync_requests (w q : Nat) (g : ParkQ → ParkQ) (s : State) :
    ∃ retain gate, (heatSync w q (setParkReq w q g s)).getParks (parkKey w q) = { g (s.getParks (parkKey w q)) with toRetain := retain, toGate := gate } := by
  rw [(heatSync_keeps ..).getParks (by decide +kernel)]
  exact setParkReq_requests w q g s

/-- The junction limit's event, at the first group that it parks. -/
def junctionEvent (w q : Nat) (s : State) : State := if (s.getParks (parkKey w q)).jlim = 0 then (s.bump THM_HOT_STAT_JEVENTS w 0 1).raise w Leaf.junction else s

theorem junctionLimit_eq (w q : Nat) (s : State) : junctionLimit w q s =
    if s.domState w q ≠ 3 then s else heatSync w q (setParkReq w q (fun y => { y with jlim := y.jlim ||| s.topGroups w q 9 }) (junctionEvent w q s)) := rfl

theorem junctionEvent_keeps (w q : Nat) (s : State) : Keeps (regBit THM_HOT_STAT ||| 0x14c004600000000000000000000000000000000000000000000000000000000000000000000000010) s (junctionEvent w q s) :=
  .ite (((State.bump_keeps ..).trans (State.raise_keeps ..)).widen (by decide +kernel)) (.refl ..)

theorem junctionEvent_raises (h : (s.getParks (parkKey w q)).jlim = 0) : (junctionEvent w q s).leafSet w Leaf.junction = true := by
  rw [junctionEvent, if_pos h]
  exact State.raise_sets _ _ _ (by decide)

theorem junctionLimit_tj (w q : Nat) (s : State) (x : Nat) : (junctionLimit w q s).tj w x = s.tj w x := by
  rw [junctionLimit_eq]
  split
  · rfl
  · rw [heatSync_tj]
    exact ((junctionEvent_keeps ..).trans (setParkReq_keeps ..)).rd THM_Q_TJ _ _ (by decide) (by decide +kernel)

theorem junctionLimit_parks (hon : s.domState w q = 3) :
    ((junctionLimit w q s).getParks (parkKey w q)).jlim = (s.getParks (parkKey w q)).jlim ||| s.topGroups w q 9 ∧
    ((s.getParks (parkKey w q)).jlim = 0 → (junctionLimit w q s).leafSet w Leaf.junction = true) := by
  rw [junctionLimit_eq, if_neg (not_not.mpr hon)]
  refine ⟨?_, fun hfirst => ?_⟩
  · obtain ⟨retain, gate, hparks⟩ := heatSync_requests w q (fun y => { y with jlim := y.jlim ||| s.topGroups w q 9 }) (junctionEvent w q s)
    rw [hparks, (junctionEvent_keeps ..).getParks (by decide +kernel)]
  · rw [State.leafSet_of_keeps ((setParkReq_keeps ..).trans (heatSync_keeps ..)) (by decide +kernel)]
    exact junctionEvent_raises hfirst

/-- Each field's hottest quadrant is shown. -/
def hottestShown (w : Nat) (s : State) : State := forEach allFields s fun f t => t.wr THM_CH_STAT_HOTTEST w f (t.hottest w f)

theorem hottestShown_keeps (w : Nat) (s : State) : Keeps (regBit THM_CH_STAT) s (hottestShown w s) := forEach_keeps (fun f t => State.wr_keeps t THM_CH_STAT_HOTTEST w f _) _ (.refl ..)

theorem hottestShown_other {y : Fld} (hy : y.reg.id ≠ THM_CH_STAT_HOTTEST.reg.id ∨ y.reg = THM_CH_STAT_HOTTEST.reg ∧ THM_CH_STAT_HOTTEST.lo ≤ THM_CH_STAT_HOTTEST.hi ∧ y.hi < 64 ∧ (y.hi < THM_CH_STAT_HOTTEST.lo ∨ THM_CH_STAT_HOTTEST.hi < y.lo))
    (w x i : Nat) (s : State) : (hottestShown w s).rd y x i = s.rd y x i :=
  forEach_leaves (State.rd · y x i) allFields s fun _ _ _ => State.rd_wr_apart _ _ _ _ _ _ _ _ hy

/-- One field's sensors are shown. -/
def fieldShown (w : Nat) (x : FieldTemp) (s : State) : State := (s.wr THM_CH_STAT_SPINE_TJ w x.field x.spine.toNat).wr THM_CH_STAT_LOFT_T w x.field x.loft.toNat

/-- The junction limit of one quadrant, where its temperature calls for it. -/
def quadLimited (w q : Nat) (s : State) : State := if limit85 ≤ s.tj w q then junctionLimit w q s else s

/-- The junction limit of one field's hottest quadrant, where its spine or its loft calls for it. -/
def fieldLimited (w : Nat) (x : FieldTemp) (s : State) : State :=
  if limit85 ≤ x.spine.toNat ∨ limit95 ≤ x.loft.toNat then junctionLimit w (4 * x.field.val + s.hottest w x.field) s else s

theorem thermalSample_eq (w : Nat) (qs : List QuadTemp) (fs : List FieldTemp) (s : State) : thermalSample w qs fs s =
    forEach fs (forEach (qs.map fun x => x.quad.val) (hottestShown w (forEach fs (forEach qs s (quadSample w)) (fieldShown w))) (quadLimited w)) (fieldLimited w) := rfl

theorem thermalSample_quad (w : Nat) (x : QuadTemp) (s : State) : thermalSample w [x] [] s = quadLimited w x.quad (hottestShown w (quadSample w x s)) := by
  rw [thermalSample_eq, List.map_cons, List.map_nil, forEach_nil, forEach_nil, forEach_one, forEach_one]

theorem thermalSample_field (w : Nat) (x : FieldTemp) (s : State) : thermalSample w [] [x] s = fieldLimited w x (hottestShown w (fieldShown w x s)) := by
  rw [thermalSample_eq, List.map_nil, forEach_nil, forEach_nil, forEach_one, forEach_one]

theorem quadSample_tj (w : Nat) (x : QuadTemp) (s : State) : (quadSample w x s).tj w x.quad = quadTj x := by
  unfold quadSample State.tj
  dsimp only
  rw [State.rd_putAgeQs]
  generalize (List.range 4).foldl (fun n i => n + b2n (subValid (quadTemps x) i) * 2 ^ i) 0 = ok
  have hshown : ((s.wr THM_Q_TJ w x.quad.val (quadTj x)).wr THM_Q_SENSORS_OK w x.quad.val ok).rd THM_Q_TJ w x.quad.val = quadTj x := by
    rw [State.rd_wr_apart _ _ _ _ _ _ _ _ (by decide), State.rd_wr_same _ _ _ _ _ (by decide) (by decide)]
    exact Nat.mod_eq_of_lt (quadTj_lt x)
  split
  · rw [(State.raise_keeps ..).rd THM_Q_TJ _ _ (by decide) (by decide +kernel), hshown]
  · exact hshown

/-- What a quadrant's sample leaves: its temperature, and at the limit every running group parked. -/
def QuadShown (w : Nat) (x : QuadTemp) (s t : State) : Prop :=
  t.tj w x.quad = quadTj x ∧
  (1360 ≤ quadTj x → s.domState w x.quad = 3 →
    (t.getParks (parkKey w x.quad)).jlim = (s.getParks (parkKey w x.quad)).jlim ||| s.topGroups w x.quad 9 ∧
    ((s.getParks (parkKey w x.quad)).jlim = 0 → t.leafSet w Leaf.junction = true)) ∧
  (quadTj x < 1360 → (t.getParks (parkKey w x.quad)).jlim = (s.getParks (parkKey w x.quad)).jlim)

theorem thermalSample_quad_shows (w : Nat) (x : QuadTemp) (s : State) : QuadShown w x s (thermalSample w [x] [] s) := by
  have hbefore := (quadSample_keeps w x s).trans (hottestShown_keeps w (quadSample w x s))
  have htj : (hottestShown w (quadSample w x s)).tj w x.quad = quadTj x := (hottestShown_other (by decide) ..).trans (quadSample_tj w x s)
  rw [thermalSample_quad, quadLimited, htj]
  generalize hottestShown w (quadSample w x s) = u at hbefore htj
  have hdom := hbefore.domState (by decide +kernel) w x.quad
  have hparks := hbefore.getParks (by decide +kernel) (parkKey w x.quad)
  refine ⟨?_, fun hlimit hon => ?_, fun hcool => ?_⟩
  · split
    · exact (junctionLimit_tj ..).trans htj
    · exact htj
  · rw [if_pos (show limit85 ≤ quadTj x from hlimit), ← hparks, ← hbefore.topGroups (by decide +kernel) (by decide +kernel) (by decide +kernel)]
    exact junctionLimit_parks (hdom.trans hon)
  · rw [if_neg (show ¬ limit85 ≤ quadTj x from Nat.not_le.mpr hcool), hparks]

theorem thermalSample_field_shows (w : Nat) (x : FieldTemp) (s : State) : (thermalSample w [] [x] s).rd THM_CH_STAT_SPINE_TJ w x.field = x.spine.toNat ∧
    (thermalSample w [] [x] s).rd THM_CH_STAT_LOFT_T w x.field = x.loft.toNat := by
  have hlimit : ∀ y : Fld, y.reg.id = THM_CH_STAT.id → (thermalSample w [] [x] s).rd y w x.field = (hottestShown w (fieldShown w x s)).rd y w x.field := fun y hy => by
    rw [thermalSample_field, fieldLimited]
    split
    · exact (junctionLimit_keeps ..).rd y _ _ (by rw [hy]; decide) (by rw [hy]; decide +kernel)
    · rfl
  rw [hlimit _ rfl, hlimit _ rfl, hottestShown_other (by decide), hottestShown_other (by decide), fieldShown]
  constructor
  · rw [State.rd_wr_apart _ _ _ _ _ _ _ _ (by decide), State.rd_wr_same _ _ _ _ _ (by decide) (by decide)]
    exact Nat.mod_eq_of_lt x.spine.isLt
  · rw [State.rd_wr_same _ _ _ _ _ (by decide) (by decide)]
    exact Nat.mod_eq_of_lt x.loft.isLt

end

/-! ## Park-hottest (R542, R544) -/

section
variable {w f q : Nat} {s : State}

theorem hotStep_hot (w f q : Nat) (s : State) : ((hotStep w f q s).getParks (parkKey w q)).hot = (s.getParks (parkKey w q)).hot ||| s.topGroups w q 1 := by
  unfold hotStep
  dsimp only
  split
  · rename_i hnone
    rw [hnone, Nat.or_zero]
  · obtain ⟨retain, gate, hparks⟩ := heatSync_requests w q (fun y => { y with hot := y.hot ||| s.topGroups w q 1 })
      (if (List.range 4).all fun k => (s.getParks (parkKey w (4 * f + k))).hot == 0 then s.raise w Leaf.hotspot else s)
    rw [hparks]
    split
    · rw [(State.raise_keeps ..).getParks (by decide +kernel)]
    · rfl

theorem hotRelease_drops {k : Nat} (hk : ((List.range 4).find? fun j => (s.getParks (parkKey w (4 * f + j))).hot != 0) = some k) :
    ((hotRelease w f s).getParks (parkKey w (4 * f + k))).hot = dropLow (s.getParks (parkKey w (4 * f + k))).hot := by
  unfold hotRelease
  rw [hk]
  obtain ⟨retain, gate, hparks⟩ := heatSync_requests w (4 * f + k) (fun y => { y with hot := dropLow y.hot }) s
  exact congrArg ParkQ.hot hparks

theorem State.rotatingPart_of_keeps {m : Nat} {t : State} (h : Keeps m s t)
    (hdef : m.testBit (64 + PRT_DEF.id) = false) (hquads : m.testBit (64 + PRT_QMASK.id) = false) (hrot : m.testBit (64 + THM_ROT.id) = false) (w q : Nat) : t.rotatingPart w q = s.rotatingPart w q := by
  simp only [State.rotatingPart, h.partOfQuad hdef hquads, h.rd THM_ROT_ENABLE _ _ (by decide) hrot]

theorem askRotation_asks {p : Nat} (h : s.rotatingPart w q = some p) : ((askRotation w f q s).part w p).rotationDue = true ∧ ((askRotation w f q s).part w p).earlyRotation = true := by
  have hpart : (askRotation w f q s).part w p = { s.part w p with rotationDue := true, earlyRotation := true } := by
    unfold askRotation
    rw [h]
    dsimp only
    exact State.part_modPart s w p fun x => { x with rotationDue := true, earlyRotation := true }
  rw [hpart]
  exact ⟨rfl, rfl⟩

/-- The channel rotates: the mode of its field asks for it, and a partition of the field takes part. -/
def State.rotates (s : State) (w f : Nat) : Prop := s.rd THM_CH_CFG_MODE w f = 1 ∧ ∃ k < 4, (s.rotatingPart w (4 * f + k)).isSome = true

theorem State.rotates_iff (s : State) (w f : Nat) : s.rotates w f ↔ s.rd THM_CH_CFG_MODE w f = 1 ∧ ((List.range 4).any fun k => (s.rotatingPart w (4 * f + k)).isSome) = true := by
  simp [State.rotates]

/-- A request that was made 10 ms ago was not enough. -/
def State.rotationLate (s : State) (w f : Nat) : Bool :=
  match (s.getThermChs (fieldKey w f)).askedAt with
  | some a => decide (a + 10000000 ≤ s.now)
  | none => false

theorem parkHottest_hot (h : s.hotC w ≤ s.tj w (4 * f + s.hottest w f)) : parkHottest w f s =
    if s.rd THM_CH_CFG_MODE w f = 1 ∧ ((List.range 4).any fun k => (s.rotatingPart w (4 * f + k)).isSome) = true then
      if s.hotC w + 32 ≤ s.tj w (4 * f + s.hottest w f) ∨ s.rotationLate w f = true then
        hotStep w f (4 * f + s.hottest w f) (askRotation w f (4 * f + s.hottest w f) (s.modThermChs (fieldKey w f) fun c => { c with coolSince := none }))
      else askRotation w f (4 * f + s.hottest w f) (s.modThermChs (fieldKey w f) fun c => { c with coolSince := none })
    else hotStep w f (4 * f + s.hottest w f) (s.modThermChs (fieldKey w f) fun c => { c with coolSince := none }) := by
  unfold parkHottest
  dsimp only
  rw [if_pos h]
  rfl

theorem parkHottest_parks (h : s.hotC w ≤ s.tj w (4 * f + s.hottest w f)) (hfixed : ¬ s.rotates w f) :
    ((parkHottest w f s).getParks (parkKey w (4 * f + s.hottest w f))).hot = (s.getParks (parkKey w (4 * f + s.hottest w f))).hot ||| s.topGroups w (4 * f + s.hottest w f) 1 := by
  rw [parkHottest_hot h, if_neg (mt (s.rotates_iff w f).mpr hfixed), hotStep_hot, (State.modThermChs_keeps ..).getParks (by decide +kernel),
    (State.modThermChs_keeps ..).topGroups (by decide +kernel) (by decide +kernel) (by decide +kernel)]

theorem parkHottest_asks {p : Nat} (h : s.hotC w ≤ s.tj w (4 * f + s.hottest w f)) (hrotates : s.rotates w f) (hp : s.rotatingPart w (4 * f + s.hottest w f) = some p) :
    ((parkHottest w f s).part w p).rotationDue = true ∧ ((parkHottest w f s).part w p).earlyRotation = true ∧
    (s.tj w (4 * f + s.hottest w f) < s.hotC w + 32 → (s.getThermChs (fieldKey w f)).askedAt = none →
      ((parkHottest w f s).getParks (parkKey w (4 * f + s.hottest w f))).hot = (s.getParks (parkKey w (4 * f + s.hottest w f))).hot) := by
  have hwarm : Keeps 0x1000000000 s (s.modThermChs (fieldKey w f) fun c => { c with coolSince := none }) := State.modThermChs_keeps ..
  have hasks := askRotation_asks (f := f) ((State.rotatingPart_of_keeps hwarm (by decide +kernel) (by decide +kernel) (by decide +kernel) w _).trans hp)
  rw [parkHottest_hot h, if_pos ((s.rotates_iff w f).mp hrotates)]
  generalize (s.modThermChs (fieldKey w f) fun c => { c with coolSince := none }) = u at hwarm hasks
  rw [← and_assoc]
  refine ⟨?_, fun hmild hnew => ?_⟩
  · split
    · rw [(hotStep_keeps ..).part (by decide +kernel)]
      exact hasks
    · exact hasks
  · have hearly : s.rotationLate w f = false := by rw [State.rotationLate, hnew]
    rw [if_neg (by simp [hearly, hmild]), (hwarm.trans (askRotation_keeps ..)).getParks (by decide +kernel)]

theorem parkHottest_cool (hwarm : s.tj w (4 * f + s.hottest w f) < s.hotC w) (hcool : s.tj w (4 * f + s.hottest w f) < s.coolC w) : parkHottest w f s =
    match (s.getThermChs (fieldKey w f)).coolSince with
    | none => (s.modThermChs (fieldKey w f) fun c => { c with askedAt := none }).putThermChs (fieldKey w f) { coolSince := some s.now }
    | some a => if a + 10000000 ≤ s.now then
        hotRelease w f ((s.modThermChs (fieldKey w f) fun c => { c with askedAt := none }).putThermChs (fieldKey w f) { coolSince := some s.now })
      else s.modThermChs (fieldKey w f) fun c => { c with askedAt := none } := by
  unfold parkHottest
  dsimp only
  rw [if_neg (Nat.not_le.mpr hwarm), if_pos hcool]
  rfl

theorem parkHottest_cools (hwarm : s.tj w (4 * f + s.hottest w f) < s.hotC w) (hcool : s.tj w (4 * f + s.hottest w f) < s.coolC w)
    (hnew : (s.getThermChs (fieldKey w f)).coolSince = none) : ((parkHottest w f s).getThermChs (fieldKey w f)).coolSince = some s.now := by
  rw [parkHottest_cool hwarm hcool, hnew]
  simp only [State.getThermChs_putThermChs, if_pos]

theorem parkHottest_releases {a k : Nat} (hwarm : s.tj w (4 * f + s.hottest w f) < s.hotC w) (hcool : s.tj w (4 * f + s.hottest w f) < s.coolC w)
    (hsince : (s.getThermChs (fieldKey w f)).coolSince = some a) (hlong : a + 10000000 ≤ s.now)
    (hk : ((List.range 4).find? fun j => (s.getParks (parkKey w (4 * f + j))).hot != 0) = some k) :
    ((parkHottest w f s).getParks (parkKey w (4 * f + k))).hot = dropLow (s.getParks (parkKey w (4 * f + k))).hot := by
  rw [parkHottest_cool hwarm hcool, hsince]
  dsimp only
  rw [if_pos hlong]
  have hkept := (State.modThermChs_keeps s (fieldKey w f) fun c => { c with askedAt := none }).trans (State.putThermChs_keeps _ (fieldKey w f) { coolSince := some s.now })
  generalize ((s.modThermChs (fieldKey w f) fun c => { c with askedAt := none }).putThermChs (fieldKey w f) { coolSince := some s.now }) = u at hkept
  have hparks : ∀ x, u.getParks x = s.getParks x := hkept.getParks (by decide +kernel)
  rw [hotRelease_drops (by simpa only [hparks] using hk), hparks]

end

/-! ## Rotations that are due (R546, R548) -/

section
variable {w p : Nat} {s : State}

theorem rotationDue_noted (hdef : s.defined w p = true) (henable : s.rd THM_ROT_ENABLE w p = 1) (hlead : s.isLead w p = true)
    (h : s.peersOf w p = [] ∨ s.rd NET_MGMT_PLANNER_OK w 0 = 1) : ((rotationDue w p s).part w p).rotationDue = true := by
  have hgo : (!(s.peersOf w p).isEmpty && s.rd NET_MGMT_PLANNER_OK w 0 == 0) = false := by
    obtain h | h := h <;> simp [h]
  rw [rotationDue, if_neg (by simp [hdef, henable, hlead]), if_neg (by simp [hgo]), State.part_modPart]

theorem rotationDue_skipped (hdef : s.defined w p = true) (henable : s.rd THM_ROT_ENABLE w p = 1) (hlead : s.isLead w p = true)
    (hpeers : s.peersOf w p ≠ []) (hrmc : s.rd NET_MGMT_PLANNER_OK w 0 = 0) :
    (rotationDue w p s).rd THM_ROT_STAT_SKIPPED w p = satAdd THM_ROT_STAT_SKIPPED.width (s.rd THM_ROT_STAT_SKIPPED w p) 1 ∧
    ((rotationDue w p s).part w p).rotationDue = (s.part w p).rotationDue := by
  rw [rotationDue, if_neg (by simp [hdef, henable, hlead]), if_pos (by simp [hpeers, hrmc])]
  constructor
  · rw [(State.modPart_keeps ..).rd _ _ _ (by decide) (by decide +kernel), State.rd_bump_same _ _ _ _ _ (by decide) (by decide)]
  · rw [State.part_modPart, (State.bump_keeps ..).part (by decide +kernel)]

end

/-! ## Ghost light (R549-R551) -/

section
variable {w : Nat} {s : State}

theorem parkKey_inj {a b : Nat} (h : a ≠ b) : parkKey w a ≠ parkKey w b := by
  unfold parkKey
  omega

/-- A turn over all quadrants that makes each one's requests `P`, whatever they were. -/
theorem forEach_requests {g : State → Nat → ParkQ → ParkQ} {P : ParkQ → Prop} (hg : ∀ t q y, P (g t q y))
    (hmoves : ∀ y retain gate, P y → P { y with toRetain := retain, toGate := gate }) (s : State) :
    ∀ q < 288, P ((forEach (List.range 288) s fun q t => setParkReq w q (g t q) t).getParks (parkKey w q)) := by
  have hall := forEach_establishes (g := fun q t => setParkReq w q (g t q) t) (Q := fun _ _ => True) (P := fun q t => P (t.getParks (parkKey w q)))
    (fun q t _ => ?_) (fun _ _ _ _ _ => trivial) (fun a b t hne h => ?_) (List.nodup_range (n := 288)) (s := s) (fun _ _ => trivial)
  · exact fun q hq => hall q (List.mem_range.mpr hq)
  · obtain ⟨retain, gate, hparks⟩ := setParkReq_requests w q (g t q) t
    rw [hparks]
    exact hmoves _ _ _ (hg ..)
  · obtain ⟨retain, gate, hparks⟩ := setParkReq_ne (w := w) (q := b) (g t b) t (parkKey_inj (w := w) hne)
    rw [hparks]
    exact hmoves _ _ _ h

/-- Ghost light is shown: its state, one entry more, and the valve's request. -/
def ghostBegun (w : Nat) (s : State) : State := ((s.wr THM_GHOST_STAT_STATE w 0 2).bump THM_GHOST_STAT_ENTRIES w 0 1).wr TMC_REQ_VALVE_PCT w 0 25

/-- Every group of the wafer is parked for ghost light. -/
def ghostParked (w : Nat) (s : State) : State := forEach (List.range 288) s fun q t => setParkReq w q (fun k => { k with ghost := 0x1FF, ghostGate := 0 }) t

theorem ghostParked_keeps (w : Nat) (s : State) : Keeps 0x6004000000000000000000000000000000000000000000000000000220000000 s (ghostParked w s) :=
  forEach_keeps (fun q t => setParkReq_keeps w q _ t) _ (.refl ..)

theorem ghostEnter_eq (henable : s.rd THM_GHOST_ENABLE w 0 = 1) (hstate : s.rd THM_GHOST_STAT_STATE w 0 ≠ 2) (hidle : s.waferIdle w = true) :
    ghostEnter w s = ghostParked w (ghostBegun w s) := by
  rw [ghostEnter, if_neg (by simp [henable, hstate, hidle])]
  rfl

theorem ghostEnter_shows (henable : s.rd THM_GHOST_ENABLE w 0 = 1) (hstate : s.rd THM_GHOST_STAT_STATE w 0 ≠ 2) (hidle : s.waferIdle w = true) :
    (ghostEnter w s).rd THM_GHOST_STAT_STATE w 0 = 2 ∧
    (ghostEnter w s).rd THM_GHOST_STAT_ENTRIES w 0 = satAdd THM_GHOST_STAT_ENTRIES.width (s.rd THM_GHOST_STAT_ENTRIES w 0) 1 ∧ (ghostEnter w s).rd TMC_REQ_VALVE_PCT w 0 = 25 ∧
    ∀ q < 288, ((ghostEnter w s).getParks (parkKey w q)).ghost = 0x1FF ∧ ((ghostEnter w s).getParks (parkKey w q)).ghostGate = 0 := by
  rw [ghostEnter_eq henable hstate hidle]
  refine ⟨?_, ?_, ?_, forEach_requests (g := fun _ _ k => { k with ghost := 0x1FF, ghostGate := 0 }) (P := fun k => k.ghost = 0x1FF ∧ k.ghostGate = 0) (fun _ _ _ => ⟨rfl, rfl⟩) (fun _ _ _ h => h) _⟩
  · rw [(ghostParked_keeps ..).rd _ _ _ (by decide) (by decide +kernel), ghostBegun, State.rd_wr_apart _ _ _ _ _ _ _ _ (by decide), State.bump,
      State.rd_wr_apart _ _ _ _ _ _ _ _ (by decide), State.rd_wr_same _ _ _ _ _ (by decide) (by decide)]
    rfl
  · rw [(ghostParked_keeps ..).rd _ _ _ (by decide) (by decide +kernel), ghostBegun, State.rd_wr_apart _ _ _ _ _ _ _ _ (by decide),
      State.rd_bump_same _ _ _ _ _ (by decide) (by decide), State.rd_wr_apart _ _ _ _ _ _ _ _ (by decide)]
  · rw [(ghostParked_keeps ..).rd _ _ _ (by decide) (by decide +kernel), ghostBegun, State.rd_wr_same _ _ _ _ _ (by decide) (by decide)]
    rfl

/-- The end of ghost light is shown, and nothing warms. -/
def ghostEnded (w : Nat) (s : State) : State :=
  ((((s.modWafers w fun x => { x with idle := s.now }).wr THM_GHOST_STAT_STATE w 0 0).wr THM_GHOST_STAT_WARM_GROUPS w 0 0).wr TMC_REQ_VALVE_PCT w 0 100).putWarming w []

/-- Every request of ghost light is withdrawn. -/
def ghostUnparked (w : Nat) (s : State) : State := forEach (List.range 288) s fun q t => setParkReq w q (fun k => { k with ghost := 0, ghostGate := 0, smc := t.smcWant w q }) t

theorem ghostUnparked_keeps (w : Nat) (s : State) : Keeps 0x6004000000000000000000000000000000000000000000000000000220000000 s (ghostUnparked w s) :=
  forEach_keeps (fun q t => setParkReq_keeps w q _ t) _ (.refl ..)

theorem ghostExit_eq (hstate : s.rd THM_GHOST_STAT_STATE w 0 = 2) : ghostExit w s = ghostUnparked w (ghostEnded w s) := by
  unfold ghostExit
  dsimp only
  rw [if_neg (not_not.mpr hstate)]
  rfl

theorem ghostExit_shows (hstate : s.rd THM_GHOST_STAT_STATE w 0 = 2) :
    (ghostExit w s).rd THM_GHOST_STAT_STATE w 0 = 0 ∧ (ghostExit w s).rd TMC_REQ_VALVE_PCT w 0 = 100 ∧ (ghostExit w s).getWarming w = [] ∧
    ∀ q < 288, ((ghostExit w s).getParks (parkKey w q)).ghost = 0 ∧ ((ghostExit w s).getParks (parkKey w q)).ghostGate = 0 := by
  rw [ghostExit_eq hstate]
  refine ⟨?_, ?_, ?_, forEach_requests (g := fun t q k => { k with ghost := 0, ghostGate := 0, smc := t.smcWant w q }) (P := fun k => k.ghost = 0 ∧ k.ghostGate = 0) (fun _ _ _ => ⟨rfl, rfl⟩) (fun _ _ _ h => h) _⟩
  · rw [(ghostUnparked_keeps ..).rd _ _ _ (by decide) (by decide +kernel), ghostEnded, State.rd_putWarming, State.rd_wr_apart _ _ _ _ _ _ _ _ (by decide),
      State.rd_wr_apart _ _ _ _ _ _ _ _ (by decide), State.rd_wr_same _ _ _ _ _ (by decide) (by decide)]
    rfl
  · rw [(ghostUnparked_keeps ..).rd _ _ _ (by decide) (by decide +kernel), ghostEnded, State.rd_putWarming, State.rd_wr_same _ _ _ _ _ (by decide) (by decide)]
    rfl
  · rw [(ghostUnparked_keeps ..).getWarming (by decide +kernel), ghostEnded, State.getWarming_putWarming, if_pos rfl]

/-! ### The groups that warm -/

theorem warmStart_warming (w : Nat) (g : Group) (s : State) : (warmStart w g s).getWarming w = s.getWarming w ++ [Group.key g] := by
  rw [warmStart, State.getWarming_putWarming, if_pos rfl]

theorem warmStop_warming (w : Nat) (g : Group) (s : State) : (warmStop w g s).getWarming w = (s.getWarming w).filter (· ≠ Group.key g) := by
  rw [warmStop, State.getWarming_putWarming, if_pos rfl]

theorem warmStarts_warming (w : Nat) (gs : List Group) (s : State) : (forEach gs s (warmStart w)).getWarming w = s.getWarming w ++ gs.map Group.key := by
  induction gs generalizing s with
  | nil => rw [forEach_nil, List.map_nil, List.append_nil]
  | cons g gs ih => rw [show forEach (g :: gs) s (warmStart w) = forEach gs (warmStart w g s) (warmStart w) from rfl, ih, warmStart_warming, List.append_assoc, List.map_cons, List.singleton_append]

/-- The group of a key. -/
def groupOfKey (k : Nat) : Group := (k / 9, k % 9)

theorem key_groupOfKey (k : Nat) : Group.key (groupOfKey k) = k := Nat.div_add_mod' k 9

theorem warmStops_warming (w : Nat) (ks : List Nat) (s : State) :
    (forEach (ks.map groupOfKey) s (warmStop w)).getWarming w = (s.getWarming w).filter fun k => !ks.contains k := by
  induction ks generalizing s with
  | nil => simp [forEach_nil]
  | cons x ks ih =>
    rw [List.map_cons, show forEach (groupOfKey x :: ks.map groupOfKey) s (warmStop w) = forEach (ks.map groupOfKey) (warmStop w (groupOfKey x) s) (warmStop w) from rfl, ih,
      warmStop_warming, key_groupOfKey, List.filter_filter]
    refine List.filter_congr fun k _ => ?_
    simp [Bool.and_comm]

/-- The groups that start to warm and those that stop, of one adjustment. -/
def warmTurn (w : Nat) (more : List Group) (less : List Nat) (s : State) : State := forEach (less.map groupOfKey) (forEach more s (warmStart w)) (warmStop w)

theorem warmTurn_warming (w : Nat) (more : List Group) (less : List Nat) (s : State) :
    (warmTurn w more less s).getWarming w = (s.getWarming w ++ more.map Group.key).filter fun k => !less.contains k := by
  rw [warmTurn, warmStops_warming, warmStarts_warming]

/-- What warms is shown, and whether a cold wafer has no group left to warm. -/
def warmShown (w : Nat) (miss : Bool) (s : State) : State := (s.wr THM_GHOST_STAT_WARM_GROUPS w 0 (s.getWarming w).length).wr THM_GHOST_STAT_FLOOR_MISS w 0 (b2n miss)

/-- A missed floor is raised once. -/
def warmRaised (w : Nat) (miss : Bool) (was : Nat) (s : State) : State := if miss && was == 0 then s.raise w Leaf.ghostFloor else s

theorem warmRaised_keeps (w : Nat) (miss : Bool) (was : Nat) (s : State) : Keeps 0x14c004600000000000000000000000000000000000000000000000000000000000000000000000010 s (warmRaised w miss was s) :=
  .ite (State.raise_keeps ..) (.refl ..)

theorem warmShown_shows (w : Nat) (miss : Bool) (was : Nat) (s : State) : (warmRaised w miss was (warmShown w miss s)).getWarming w = s.getWarming w ∧
    (warmRaised w miss was (warmShown w miss s)).rd THM_GHOST_STAT_WARM_GROUPS w 0 = (s.getWarming w).length % 2 ^ THM_GHOST_STAT_WARM_GROUPS.width := by
  constructor
  · rw [(warmRaised_keeps ..).getWarming (by decide +kernel), warmShown, State.getWarming_wr, State.getWarming_wr]
  · rw [(warmRaised_keeps ..).rd _ _ _ (by decide) (by decide +kernel), warmShown, State.rd_wr_apart _ _ _ _ _ _ _ _ (by decide), State.rd_wr_same _ _ _ _ _ (by decide) (by decide)]
    rfl

/-- A quadrant that is ON is below the floor. -/
def State.cold (s : State) (w : Nat) : Bool := ((List.range 288).filter fun q => s.domState w q == 3).any fun q => decide (s.tj w q < s.rd THM_GHOST_FLOOR_C w 0 * 16)

/-- The mean of the quadrants that are ON is 3 degrees above the floor. -/
def State.warmEnough (s : State) (w : Nat) : Bool :=
  let on := (List.range 288).filter fun q => s.domState w q == 3
  !on.isEmpty && decide ((s.rd THM_GHOST_FLOOR_C w 0 * 16 + 48) * on.length < on.foldl (fun n q => n + s.tj w q) 0)

/-- The groups that an adjustment starts. -/
def State.warmMore (s : State) (w : Nat) : List Group :=
  if s.cold w && !decide (s.ghostLimit w < s.sampleDraw w) && decide (s.sampleDraw w < s.ghostLimit w) then
    ((s.warmOrder w).filter fun g => !(s.getWarming w).contains (Group.key g)).take 8
  else []

/-- The keys of the groups that an adjustment stops. -/
def State.warmLess (s : State) (w : Nat) : List Nat := if decide (s.ghostLimit w < s.sampleDraw w) || (s.warmEnough w && !s.cold w) then (s.getWarming w).reverse.take 8 else []

theorem warmAdjust_eq (hstate : s.rd THM_GHOST_STAT_STATE w 0 = 2) : warmAdjust w s =
    warmRaised w (s.cold w && (s.warmMore w).isEmpty) (s.rd THM_GHOST_STAT_FLOOR_MISS w 0)
      (warmShown w (s.cold w && (s.warmMore w).isEmpty) (warmTurn w (s.warmMore w) (s.warmLess w) s)) := by
  have hless : (s.warmLess w).map groupOfKey =
      if decide (s.ghostLimit w < s.sampleDraw w) || (s.warmEnough w && !s.cold w) then ((s.getWarming w).reverse.take 8).map fun k => ((k / 9, k % 9) : Group) else [] := by
    rw [State.warmLess, apply_ite (List.map groupOfKey)]
    rfl
  unfold warmAdjust
  dsimp only
  rw [if_neg (not_not.mpr hstate), warmTurn, hless]
  rfl

theorem warmAdjust_warming (hstate : s.rd THM_GHOST_STAT_STATE w 0 = 2) :
    (warmAdjust w s).getWarming w = (s.getWarming w ++ (s.warmMore w).map Group.key).filter (fun k => !(s.warmLess w).contains k) ∧
    (warmAdjust w s).rd THM_GHOST_STAT_WARM_GROUPS w 0 = ((warmAdjust w s).getWarming w).length % 2 ^ THM_GHOST_STAT_WARM_GROUPS.width := by
  obtain ⟨hwarming, hcount⟩ := warmShown_shows w (s.cold w && (s.warmMore w).isEmpty) (s.rd THM_GHOST_STAT_FLOOR_MISS w 0) (warmTurn w (s.warmMore w) (s.warmLess w) s)
  rw [warmAdjust_eq hstate, hcount, hwarming, warmTurn_warming]
  exact ⟨rfl, rfl⟩

theorem warmAdjust_starts (hstate : s.rd THM_GHOST_STAT_STATE w 0 = 2) (hcold : ∃ q < 288, s.domState w q = 3 ∧ s.tj w q < s.rd THM_GHOST_FLOOR_C w 0 * 16)
    (hbelow : s.sampleDraw w < s.ghostLimit w) : (warmAdjust w s).getWarming w =
      s.getWarming w ++ ((((s.warmOrder w).filter fun g => !(s.getWarming w).contains (Group.key g)).take 8).map Group.key) := by
  have hc : s.cold w = true := by
    obtain ⟨q, hq, hon, htj⟩ := hcold
    exact List.any_eq_true.mpr ⟨q, List.mem_filter.mpr ⟨List.mem_range.mpr hq, by simp [hon]⟩, decide_eq_true htj⟩
  have hless : s.warmLess w = [] := by simp [State.warmLess, hc, Nat.not_lt.mpr hbelow.le]
  have hmore : s.warmMore w = ((s.warmOrder w).filter fun g => !(s.getWarming w).contains (Group.key g)).take 8 := if_pos (by simp [hc, hbelow, hbelow.le])
  rw [(warmAdjust_warming hstate).1, hless, hmore]
  exact List.filter_eq_self.mpr fun _ _ => rfl

theorem warmAdjust_stops (hstate : s.rd THM_GHOST_STAT_STATE w 0 = 2) (habove : s.ghostLimit w < s.sampleDraw w) :
    (warmAdjust w s).getWarming w = (s.getWarming w).filter fun k => !((s.getWarming w).reverse.take 8).contains k := by
  have hless : s.warmLess w = (s.getWarming w).reverse.take 8 := if_pos (by simp [habove])
  have hmore : s.warmMore w = [] := if_neg (by simp [habove])
  rw [(warmAdjust_warming hstate).1, hless, hmore, List.map_nil, List.append_nil]

/-- The groups of the order that do not warm. -/
def State.freshGroups (s : State) (w : Nat) : List Group := (s.warmOrder w).filter fun g => !(s.getWarming w).contains (Group.key g)

/-- Those of them that come after the group that was started last. -/
def State.laterGroups (s : State) (w : Nat) : List Group :=
  (s.freshGroups w).filter fun g => match (s.getWarming w).getLast? with | some k => decide (k < Group.key g) | none => true

/-- The groups that a rotation starts. -/
def State.nextGroups (s : State) (w : Nat) : List Group := (s.laterGroups w ++ (s.freshGroups w).filter fun g => !(s.laterGroups w).contains g).take (s.getWarming w).length

theorem warmRotate_eq (hstate : s.rd THM_GHOST_STAT_STATE w 0 = 2) : warmRotate w s =
    forEach (s.nextGroups w) (forEach (((s.getWarming w).take (s.nextGroups w).length).map groupOfKey) s (warmStop w)) (warmStart w) := by
  unfold warmRotate
  dsimp only
  rw [if_neg (not_not.mpr hstate)]
  rfl

theorem mem_freshGroups {g : Group} : g ∈ s.freshGroups w ↔ g ∈ s.warmOrder w ∧ Group.key g ∉ s.getWarming w := by
  simp [State.freshGroups]

theorem nextGroups_fresh {g : Group} (hg : g ∈ s.nextGroups w) : g ∈ s.freshGroups w := by
  obtain hg | hg := List.mem_append.mp (List.mem_of_mem_take hg)
  · exact List.mem_of_mem_filter hg
  · exact List.mem_of_mem_filter hg

theorem nextGroups_length_pos {k : Nat} {r : List Nat} (hwarm : s.getWarming w = k :: r) (hfresh : ∃ g ∈ s.warmOrder w, Group.key g ∉ s.getWarming w) : 0 < (s.nextGroups w).length := by
  obtain ⟨g, hg, hcold⟩ := hfresh
  have hmem : g ∈ s.laterGroups w ++ (s.freshGroups w).filter fun g => !(s.laterGroups w).contains g := by
    by_cases hlater : g ∈ s.laterGroups w
    · exact List.mem_append.mpr (.inl hlater)
    · exact List.mem_append.mpr (.inr (List.mem_filter.mpr ⟨mem_freshGroups.mpr ⟨hg, hcold⟩, by simpa using hlater⟩))
  rw [State.nextGroups, List.length_take, hwarm, List.length_cons]
  exact lt_min (Nat.succ_pos _) (List.length_pos_of_mem hmem)

/-- Taking the first of distinct elements away leaves the rest. -/
theorem filter_not_take {xs : List Nat} (hd : xs.Nodup) (n : Nat) : (xs.filter fun k => !(xs.take n).contains k) = xs.drop n := by
  have hapart : ∀ k ∈ xs.drop n, k ∉ xs.take n := fun k hdrop htake => List.disjoint_take_drop hd (le_refl n) htake hdrop
  calc xs.filter (fun k => !(xs.take n).contains k)
      = (xs.take n ++ xs.drop n).filter fun k => !(xs.take n).contains k := by rw [List.take_append_drop]
    _ = xs.drop n := by
      rw [List.filter_append, List.filter_eq_nil_iff.mpr (by simp), List.nil_append, List.filter_eq_self.mpr (by simpa using hapart)]

theorem warmRotate_rotates {k : Nat} {r : List Nat} (hstate : s.rd THM_GHOST_STAT_STATE w 0 = 2) (hwarm : s.getWarming w = k :: r) (hd : (s.getWarming w).Nodup)
    (hfresh : ∃ g ∈ s.warmOrder w, Group.key g ∉ s.getWarming w) :
    k ∉ (warmRotate w s).getWarming w ∧ ((warmRotate w s).getWarming w).length = (s.getWarming w).length := by
  have hn := nextGroups_length_pos hwarm hfresh
  have hle : (s.nextGroups w).length ≤ (s.getWarming w).length := List.length_take_le ..
  rw [warmRotate_eq hstate, warmStarts_warming, warmStops_warming, filter_not_take hd]
  constructor
  · rw [List.mem_append, not_or]
    constructor
    · intro hk
      obtain ⟨n, hlen⟩ : ∃ n, (s.nextGroups w).length = n + 1 := ⟨_, (Nat.succ_pred_eq_of_pos hn).symm⟩
      rw [hwarm] at hd
      rw [hwarm, hlen, List.drop_succ_cons] at hk
      exact (List.nodup_cons.mp hd).1 (List.mem_of_mem_drop hk)
    · intro hk
      obtain ⟨g, hg, hkey⟩ := List.mem_map.mp hk
      exact (mem_freshGroups.mp (nextGroups_fresh hg)).2 (by rw [hkey, hwarm]; exact List.mem_cons_self)
  · rw [List.length_append, List.length_drop, List.length_map]
    omega

end

/-! ## Samples of the monitors (R553, R554) -/

section
variable {w m : Nat} {s : State}

theorem State.getAgeMons_modAgeMons_same (s : State) (k : Nat) (g : AgeMon → AgeMon) : (s.modAgeMons k g).getAgeMons k = g (s.getAgeMons k) := by
  rw [State.modAgeMons, State.getAgeMons_putAgeMons, if_pos rfl]

theorem State.getAgeQs_modAgeQs_same (s : State) (k : Nat) (g : AgeQ → AgeQ) : (s.modAgeQs k g).getAgeQs k = g (s.getAgeQs k) := by
  rw [State.modAgeQs, State.getAgeQs_putAgeQs, if_pos rfl]

theorem ageDue_starts (hquiet : s.disturbed w (m / 4) = false) (hidle : (s.getAgeMons (ageKey w m)).running = false) :
    ((ageDue w m s).getAgeMons (ageKey w m)).running = true ∧ ((ageDue w m s).getAgeMons (ageKey w m)).forced = false := by
  rw [ageDue, if_neg (by simp [hquiet, hidle]), State.getAgeMons_modAgeMons_same]
  exact ⟨rfl, rfl⟩

theorem ageForced_starts (hon : s.domState w (m / 4) = 3) (hidle : (s.getAgeMons (ageKey w m)).running = false) :
    ((ageForced w m s).getAgeMons (ageKey w m)).running = true ∧ ((ageForced w m s).getAgeMons (ageKey w m)).forced = true ∧
    (ageForced w m s).rd AGE_STAT_FORCED w 0 = satAdd AGE_STAT_FORCED.width (s.rd AGE_STAT_FORCED w 0) 1 := by
  rw [ageForced, if_neg (by simp [hon, hidle]), State.getAgeMons_modAgeMons_same, (State.modAgeMons_keeps ..).rd _ _ _ (by decide) (by decide +kernel)]
  exact ⟨rfl, rfl, State.rd_bump_same _ _ _ _ _ (by decide) (by decide)⟩

/-- A sample that is over, in its monitor. -/
def sampleKept (w m transit : Nat) (bad : Bool) (s : State) : State :=
  s.modAgeMons (ageKey w m) fun x => { x with transit := transit, lastAt := s.now, running := false, forced := false, disturbed := bad }

/-- A sample that is over, in the monitor's register. -/
def sampleShown (w m transit : Nat) (bad : Bool) (ref : Option Nat) (s : State) : State :=
  ((s.wr AGE_MON_DRIFT w m (ofInt 20 (driftPpm transit (ref.getD transit)))).wr AGE_MON_QUALITY w m (b2n bad)).wr AGE_MON_AGE_S w m 0

/-- A disturbed sample is counted, and a good one ends the wait of its quadrant. -/
def sampleCounted (w m : Nat) (bad : Bool) (now : Nat) (s : State) : State :=
  if bad then s.bump AGE_STAT_DISTURBED w 0 1 else s.modAgeQs (parkKey w (m / 4)) fun a => { a with goodAt := now, lateRaised := false }

theorem ageRecord_eq (w m transit : Nat) (bad : Bool) (s : State) : ageRecord w m transit bad s =
    sampleCounted w m bad s.now (sampleShown w m transit bad (s.getAgeMons (ageKey w m)).ref (sampleKept w m transit bad s)) := rfl

theorem sampleShown_keeps (w m transit : Nat) (bad : Bool) (ref : Option Nat) (s : State) : Keeps (regBit AGE_MON) s (sampleShown w m transit bad ref s) :=
  (((State.wr_keeps ..).trans (State.wr_keeps ..)).trans (State.wr_keeps ..)).widen (by decide +kernel)

theorem sampleCounted_keeps (w m : Nat) (bad : Bool) (now : Nat) (s : State) : Keeps (regBit AGE_STAT ||| 0x800000000) s (sampleCounted w m bad now s) :=
  .ite ((State.bump_keeps ..).widen (by decide +kernel)) ((State.modAgeQs_keeps ..).widen (by decide +kernel))

theorem ageRecord_shows (w m transit : Nat) (bad : Bool) (s : State) :
    ((ageRecord w m transit bad s).getAgeMons (ageKey w m)).running = false ∧ ((ageRecord w m transit bad s).getAgeMons (ageKey w m)).transit = transit ∧
    (ageRecord w m transit bad s).rd AGE_MON_QUALITY w m = b2n bad ∧ (ageRecord w m transit bad s).rd AGE_MON_AGE_S w m = 0 ∧
    (ageRecord w m transit bad s).rd AGE_MON_DRIFT w m = ofInt 20 (driftPpm transit ((s.getAgeMons (ageKey w m)).ref.getD transit)) ∧
    (bad = true → (ageRecord w m transit bad s).rd AGE_STAT_DISTURBED w 0 = satAdd AGE_STAT_DISTURBED.width (s.rd AGE_STAT_DISTURBED w 0) 1) := by
  have hmon : (ageRecord w m transit bad s).getAgeMons (ageKey w m) =
      { s.getAgeMons (ageKey w m) with transit := transit, lastAt := s.now, running := false, forced := false, disturbed := bad } := by
    rw [ageRecord_eq, (sampleCounted_keeps ..).getAgeMons (by decide +kernel), (sampleShown_keeps ..).getAgeMons (by decide +kernel), sampleKept, State.getAgeMons_modAgeMons_same]
  refine ⟨by rw [hmon], by rw [hmon], ?_, ?_, ?_, fun hbad => ?_⟩
  · rw [ageRecord_eq, (sampleCounted_keeps ..).rd _ _ _ (by decide) (by decide +kernel), sampleShown, State.rd_wr_apart _ _ _ _ _ _ _ _ (by decide), State.rd_wr_same _ _ _ _ _ (by decide) (by decide)]
    cases bad <;> rfl
  · rw [ageRecord_eq, (sampleCounted_keeps ..).rd _ _ _ (by decide) (by decide +kernel), sampleShown, State.rd_wr_same _ _ _ _ _ (by decide) (by decide)]
    rfl
  · rw [ageRecord_eq, (sampleCounted_keeps ..).rd _ _ _ (by decide) (by decide +kernel), sampleShown, State.rd_wr_apart _ _ _ _ _ _ _ _ (by decide), State.rd_wr_apart _ _ _ _ _ _ _ _ (by decide),
      State.rd_wr_same _ _ _ _ _ (by decide) (by decide)]
    exact Nat.mod_eq_of_lt (ofInt_lt ..)
  · rw [ageRecord_eq, sampleCounted, if_pos hbad, State.rd_bump_same _ _ _ _ _ (by decide) (by decide),
      (sampleShown_keeps ..).rd AGE_STAT_DISTURBED w 0 (by decide) (by decide +kernel), sampleKept, State.modAgeMons, State.rd_putAgeMons]

end

/-! ## The hour of each quadrant (R555) -/

section
variable {w q : Nat} {s : State}

/-- A quadrant's hour is counted: a point of stress and drift, and the stress from which the next hour counts. -/
def AgeQ.hourCounted (a : AgeQ) (drift : Nat) : AgeQ :=
  { a with points := a.points ++ [(a.stress, drift)], rates := ((a.stress - a.hourStart) :: a.rates).take 168, hourStart := a.stress }

/-- The remaining life is shown. -/
def lifeShown (w q : Nat) (life : Option Nat) (s : State) : State :=
  match life with
  | none => ((s.wr AGE_LIFE_EST w q 0xFFFF).wr AGE_LIFE_LOW w q 0xFFFF).wr AGE_LIFE_HIGH w q 0xFFFF
  | some e => ((s.fresh.2.fresh.2.wr AGE_LIFE_EST w q e).wr AGE_LIFE_LOW w q (min e s.fresh.1)).wr AGE_LIFE_HIGH w q (min 65534 (max e s.fresh.2.fresh.1))

/-- A life that is nearly over is raised once. -/
def lifeRaised (w q : Nat) (before : Bool) (s : State) : State :=
  if s.rd AGE_LIFE_EST w q ≠ 0xFFFF ∧ s.rd AGE_LIFE_EST w q < s.rd AGE_CFG_WARN w 0 * 100 ∧ !before then
    (s.raise w Leaf.lifeLow).modAgeQs (parkKey w q) fun a => { a with lifeRaised := true }
  else s

/-- A worn quadrant is blocked. -/
def wornBlocked (w q eol : Nat) (drift : Int) (high : Nat) (s : State) : State :=
  if decide ((eol : Int) ≤ drift) || (high != 0xFFFF && s.rd AGE_CFG_RETIRE w 0 != 0 && decide (high < s.rd AGE_CFG_RETIRE w 0 * 10)) then
    raiseBlocked w q (s.rd PWR_DOM_STAT_BLOCKED w q) (runtimeOpen w objQuad 19 (q / 4 + q % 4 * 128) s)
  else s

/-- A quadrant after its hour's count, with its remaining life shown. -/
def hourShown (w q : Nat) (s : State) : State :=
  lifeShown w q (((s.getAgeQs (parkKey w q)).hourCounted (s.drift w q).toNat).life (s.rd AGE_CFG_EOL_PPM w 0))
    (s.putAgeQs (parkKey w q) ((s.getAgeQs (parkKey w q)).hourCounted (s.drift w q).toNat))

theorem ageHour_eq (w q : Nat) (s : State) : ageHour w q s =
    wornBlocked w q (s.rd AGE_CFG_EOL_PPM w 0) (s.drift w q) ((hourShown w q s).rd AGE_LIFE_HIGH w q)
      (lifeRaised w q (s.getAgeQs (parkKey w q)).lifeRaised (hourShown w q s)) := rfl

theorem lifeShown_keeps (w q : Nat) (life : Option Nat) (s : State) : Keeps (regBit AGE_LIFE) s (lifeShown w q life s) := by
  have hwritten : ∀ (a b c : Nat) (t : State), Keeps (regBit AGE_LIFE) t (((t.wr AGE_LIFE_EST w q a).wr AGE_LIFE_LOW w q b).wr AGE_LIFE_HIGH w q c) := fun a b c t =>
    (((State.wr_keeps ..).trans (State.wr_keeps ..)).trans (State.wr_keeps ..)).widen (by decide +kernel)
  cases life with
  | none => exact hwritten _ _ _ s
  | some e => exact ((s.fresh_keeps.trans s.fresh.2.fresh_keeps).trans (hwritten e (min e s.fresh.1) (min 65534 (max e s.fresh.2.fresh.1)) s.fresh.2.fresh.2)).widen (by decide +kernel)

/-- Only the quadrant's own remaining life is written. -/
theorem lifeShown_other {j : Nat} (hne : j ≠ q) (y : Fld) (life : Option Nat) : (lifeShown w q life s).rd y w j = s.rd y w j := by
  have hwritten : ∀ (a b c : Nat) (t : State), (((t.wr AGE_LIFE_EST w q a).wr AGE_LIFE_LOW w q b).wr AGE_LIFE_HIGH w q c).rd y w j = t.rd y w j := fun a b c t => by
    rw [State.rd_wr_ne _ _ _ _ _ _ _ _ (.inr (.inr hne)), State.rd_wr_ne _ _ _ _ _ _ _ _ (.inr (.inr hne)), State.rd_wr_ne _ _ _ _ _ _ _ _ (.inr (.inr hne))]
  cases life with
  | none => exact hwritten _ _ _ s
  | some e => exact hwritten e (min e s.fresh.1) (min 65534 (max e s.fresh.2.fresh.1)) s.fresh.2.fresh.2

theorem lifeShown_unknown (w q : Nat) (s : State) : (lifeShown w q none s).rd AGE_LIFE_EST w q = 0xFFFF := by
  rw [lifeShown, State.rd_wr_apart _ _ _ _ _ _ _ _ (by decide), State.rd_wr_apart _ _ _ _ _ _ _ _ (by decide), State.rd_wr_same _ _ _ _ _ (by decide) (by decide)]
  rfl

theorem lifeRaised_keeps (w q : Nat) (before : Bool) (s : State) : Keeps 0x14c004600000000000000000000000000000000000000000000000000000000000000000800000010 s (lifeRaised w q before s) :=
  .ite (((State.raise_keeps ..).trans (State.modAgeQs_keeps ..)).widen (by decide +kernel)) (.refl ..)

/-- What the rest of the hour leaves of a quadrant's wear. -/
def SameWear (k : Nat) (s t : State) : Prop := ∃ raised, t.getAgeQs k = { s.getAgeQs k with lifeRaised := raised }

theorem lifeRaised_wear (w q : Nat) (before : Bool) (s : State) : SameWear (parkKey w q) s (lifeRaised w q before s) := by
  unfold lifeRaised
  split
  · exact ⟨true, by rw [State.getAgeQs_modAgeQs_same, (State.raise_keeps ..).getAgeQs (by decide +kernel)]⟩
  · exact ⟨_, rfl⟩

theorem lifeRaised_other {k : Nat} (hne : k ≠ parkKey w q) (before : Bool) (s : State) : (lifeRaised w q before s).getAgeQs k = s.getAgeQs k := by
  unfold lifeRaised
  split
  · rw [State.modAgeQs, State.getAgeQs_putAgeQs, if_neg hne, (State.raise_keeps ..).getAgeQs (by decide +kernel)]
  · rfl

theorem wornBlocked_keeps (w q eol : Nat) (drift : Int) (high : Nat) (s : State) :
    Keeps 0x14c0046000000000000010200000000000000c03fe8000000000000000000700000000000c0000018 s (wornBlocked w q eol drift high s) :=
  .ite (((runtimeOpen_keeps ..).trans (raiseBlocked_keeps ..)).widen (by decide +kernel)) (.refl ..)

theorem hourShown_other {j : Nat} (hne : j ≠ q) (s : State) :
    (hourShown w q s).getAgeQs (parkKey w j) = s.getAgeQs (parkKey w j) ∧ ∀ y, (hourShown w q s).rd y w j = s.rd y w j := by
  constructor
  · rw [hourShown, (lifeShown_keeps ..).getAgeQs (by decide +kernel), State.getAgeQs_putAgeQs, if_neg (parkKey_inj hne)]
  · intro y
    rw [hourShown, lifeShown_other hne, State.rd_putAgeQs]

theorem ageHour_other {j : Nat} (hne : j ≠ q) (s : State) :
    (ageHour w q s).getAgeQs (parkKey w j) = s.getAgeQs (parkKey w j) ∧ (ageHour w q s).rd AGE_LIFE_EST w j = s.rd AGE_LIFE_EST w j := by
  obtain ⟨hwear, hlife⟩ := hourShown_other (w := w) hne s
  rw [ageHour_eq]
  constructor
  · rw [(wornBlocked_keeps ..).getAgeQs (by decide +kernel), lifeRaised_other (parkKey_inj hne), hwear]
  · rw [((lifeRaised_keeps ..).trans (wornBlocked_keeps ..)).rd AGE_LIFE_EST w j (by decide) (by decide +kernel), hlife]

theorem ageHour_own (w q : Nat) (s : State) :
    ((ageHour w q s).getAgeQs (parkKey w q)).points = (s.getAgeQs (parkKey w q)).points ++ [((s.getAgeQs (parkKey w q)).stress, (s.drift w q).toNat)] ∧
    ((ageHour w q s).getAgeQs (parkKey w q)).hourStart = (s.getAgeQs (parkKey w q)).stress ∧
    ((s.getAgeQs (parkKey w q)).stress < 500 * stressHour → (ageHour w q s).rd AGE_LIFE_EST w q = 0xFFFF) := by
  have hshown : (hourShown w q s).getAgeQs (parkKey w q) = (s.getAgeQs (parkKey w q)).hourCounted (s.drift w q).toNat := by
    rw [hourShown, (lifeShown_keeps ..).getAgeQs (by decide +kernel), State.getAgeQs_putAgeQs, if_pos rfl]
  obtain ⟨raised, hwear⟩ := lifeRaised_wear w q (s.getAgeQs (parkKey w q)).lifeRaised (hourShown w q s)
  have hown : (ageHour w q s).getAgeQs (parkKey w q) = { (s.getAgeQs (parkKey w q)).hourCounted (s.drift w q).toNat with lifeRaised := raised } := by
    rw [ageHour_eq, (wornBlocked_keeps ..).getAgeQs (by decide +kernel), hwear, hshown]
  refine ⟨by rw [hown]; rfl, by rw [hown]; rfl, fun hyoung => ?_⟩
  have hlife : ((s.getAgeQs (parkKey w q)).hourCounted (s.drift w q).toNat).life (s.rd AGE_CFG_EOL_PPM w 0) = none := if_pos hyoung
  rw [ageHour_eq, ((lifeRaised_keeps ..).trans (wornBlocked_keeps ..)).rd AGE_LIFE_EST w q (by decide) (by decide +kernel), hourShown, hlife]
  exact lifeShown_unknown ..

/-- A quadrant has a sample. -/
def State.sampled (s : State) (w q : Nat) : Prop := ∃ i < 4, s.rd AGE_MON_QUALITY w (4 * q + i) ≠ 2

/-- The hour of a quadrant that has a sample. -/
def hourTurn (w q : Nat) (s : State) : State := if (List.range 4).any (fun i => s.rd AGE_MON_QUALITY w (4 * q + i) != 2) then ageHour w q s else s

theorem ageHourly_eq (w : Nat) (s : State) : ageHourly w s = forEach (List.range 288) s (hourTurn w) := rfl

theorem hourTurn_keeps (w q : Nat) (s : State) : Keeps 0x14c0046008000000000010200000000000000c03fe8000000000000000000700000000008c0000018 s (hourTurn w q s) := .ite (ageHour_keeps ..) (.refl ..)

theorem hourTurn_sampled (h : s.sampled w q) : hourTurn w q s = ageHour w q s := by
  obtain ⟨i, hi, hne⟩ := h
  exact if_pos (List.any_eq_true.mpr ⟨i, List.mem_range.mpr hi, by simpa using hne⟩)

theorem hourTurn_other {j : Nat} (hne : j ≠ q) (s : State) :
    (hourTurn w q s).getAgeQs (parkKey w j) = s.getAgeQs (parkKey w j) ∧ (hourTurn w q s).rd AGE_LIFE_EST w j = s.rd AGE_LIFE_EST w j := by
  unfold hourTurn
  split
  · exact ageHour_other hne s
  · exact ⟨rfl, rfl⟩

/-- The state of the hour, before quadrant `q` has its turn. -/
structure BeforeHour (w : Nat) (s : State) (q : Nat) (t : State) : Prop where
  wear : t.getAgeQs (parkKey w q) = s.getAgeQs (parkKey w q)
  monitors : ∀ y : Fld, y.reg = AGE_MON → ∀ i, t.rd y w i = s.rd y w i

/-- What the hour of quadrant `q` has left, if it has a sample. -/
def AfterHour (w : Nat) (s : State) (q : Nat) (t : State) : Prop := s.sampled w q →
  (t.getAgeQs (parkKey w q)).points = (s.getAgeQs (parkKey w q)).points ++ [((s.getAgeQs (parkKey w q)).stress, (s.drift w q).toNat)] ∧
  (t.getAgeQs (parkKey w q)).hourStart = (s.getAgeQs (parkKey w q)).stress ∧
  ((s.getAgeQs (parkKey w q)).stress < 500 * stressHour → t.rd AGE_LIFE_EST w q = 0xFFFF)

theorem BeforeHour.drift {t : State} (h : BeforeHour w s q t) : t.drift w q = s.drift w q := by
  simp only [State.drift, State.monitorDrift, h.wear, h.monitors AGE_MON_QUALITY rfl, h.monitors AGE_MON_DRIFT rfl]

theorem BeforeHour.turn {t : State} (h : BeforeHour w s q t) : AfterHour w s q (hourTurn w q t) := fun hsampled => by
  have hthere : t.sampled w q := by simpa only [State.sampled, h.monitors AGE_MON_QUALITY rfl] using hsampled
  have hown := ageHour_own w q t
  rw [h.wear, h.drift] at hown
  rwa [hourTurn_sampled hthere]

theorem ageHourly_hours (w : Nat) (s : State) : ∀ q < 288, AfterHour w s q (ageHourly w s) := by
  have hall := forEach_establishes (g := hourTurn w) (Q := BeforeHour w s) (P := AfterHour w s) (fun _ _ h => h.turn)
    (fun a b t hne h => ⟨(hourTurn_other hne t).1.trans h.wear, fun y hy i => ?_⟩)
    (fun a b t hne h hsampled => ?_) (List.nodup_range (n := 288)) (s := s) (fun _ _ => ⟨rfl, fun _ _ _ => rfl⟩)
  · exact fun q hq => hall q (List.mem_range.mpr hq)
  · rw [(hourTurn_keeps ..).rd y w i (by rw [hy]; decide) (by rw [hy]; decide +kernel), h.monitors y hy]
  · obtain ⟨hwear, hlife⟩ := hourTurn_other (w := w) hne t
    rw [hwear, hlife]
    exact h hsampled

end

end Sys2Proof.Machine
open Sys2Proof Sys2Proof.Machine

/-- Settles O46: each event changes the requests, the monitors and the wear of its own quadrant, and later turns over the other quadrants leave them. -/
theorem heatGhostLightAndAgeing : Obligations.HeatGhostLightAndAgeing := by
  unfold Obligations.HeatGhostLightAndAgeing
  refine ⟨fun w s => ?_, fun w m q s => ?_⟩
  · refine ⟨fun x => ?_, fun x => ⟨_, rfl, thermalSample_field_shows w x s⟩, fun f => ⟨?_, ?_, ?_, ?_⟩, fun p hdef henable hlead => ⟨?_, ?_⟩,
      fun henable hstate hidle => ⟨_, rfl, ghostEnter_shows henable hstate hidle⟩, fun hstate => ⟨?_, ?_, ?_, ⟨_, rfl, ghostExit_shows hstate⟩⟩⟩
    · obtain ⟨t, hnext, hshows⟩ : ∃ t, exec (.thermalSample w [x] []) s = .next t ∧ QuadShown w x s t := ⟨_, rfl, thermalSample_quad_shows w x s⟩
      exact ⟨t, hnext, hshows⟩
    · exact fun hhot hfixed => ⟨_, rfl, parkHottest_parks hhot hfixed⟩
    · exact fun p hhot hrotates hp => ⟨_, rfl, parkHottest_asks hhot hrotates hp⟩
    · exact fun hwarm hcool hnew => ⟨_, rfl, parkHottest_cools hwarm hcool hnew⟩
    · exact fun a k hwarm hcool hsince hlong hk => ⟨_, rfl, parkHottest_releases hwarm hcool hsince hlong hk⟩
    · exact fun h => ⟨_, rfl, rotationDue_noted hdef henable hlead h⟩
    · exact fun hpeers hrmc => ⟨_, rfl, rotationDue_skipped hdef henable hlead hpeers hrmc⟩
    · exact fun hcold hbelow => ⟨_, rfl, warmAdjust_starts hstate hcold hbelow, (warmAdjust_warming hstate).2⟩
    · exact fun habove => ⟨_, rfl, warmAdjust_stops hstate habove⟩
    · exact fun k r hwarm hd hfresh => ⟨_, rfl, warmRotate_rotates hstate hwarm hd hfresh⟩
  · refine ⟨fun hquiet hidle => ⟨_, rfl, ageDue_starts hquiet hidle⟩, fun hon hidle => ⟨_, rfl, ageForced_starts hon hidle⟩, fun transit hrunning => ⟨_, rfl, ?_⟩,
      fun hon => ⟨_, rfl, ?_⟩, fun hsampled => ⟨_, rfl, ageHourly_hours w s q q.isLt hsampled⟩⟩
    · rw [ageDone, if_pos hrunning]
      exact ageRecord_shows ..
    · rw [ageLate, if_pos hon]
      exact State.raise_sets _ _ _ (by decide)

end

section
/-!
PROOF. Tray access frames and the tray management controllers (R644-R655, R662): requests and what answers them, events with their repeats, what a TMC sees and reports,
its start, the spotlights, and a chip's act.
-/
set_option Elab.async false
namespace Sys2Proof.Machine

/-! ## Stored registers -/

/-- A write that only the access types decide, of any value: the register holds 64 bits of it. -/
theorem storeReg_holds (w : Nat) (r : Reg) (i v : Nat) (s : State) : (storeReg w r i v s).reg r w i = r.stored (s.reg r w i) v % 2 ^ 64 := by
  have hlive : (if r.stored (s.reg r w i) v = s.reg r w i then s else s.setReg r w i (r.stored (s.reg r w i) v)).reg r w i = r.stored (s.reg r w i) v % 2 ^ 64 := by
    split
    · next h => rw [h, Nat.mod_eq_of_lt (State.reg_lt ..)]
    · exact State.reg_setReg_same ..
  unfold storeReg
  by_cases hst : r.st = 0
  · simp only [if_pos hst]; exact hlive
  · simp only [if_neg hst, State.reg_setWreg]; exact hlive

/-- A field that is only written takes its bits of the value. -/
theorem storeReg_rd {r : Reg} {f : Fld} (hr : f.reg = r) (hhi : f.hi < 64) (hrw : bits r.rw f.hi f.lo = 2 ^ (f.hi + 1 - f.lo) - 1)
    (hkept : bits (notBits 64 r.rw) f.hi f.lo = 0) (hw1c : r.w1c = 0) (hw1s : r.w1s = 0) (hall : bits (notBits 64 0) f.hi f.lo = 2 ^ (f.hi + 1 - f.lo) - 1) (w i v : Nat) (s : State) :
    (storeReg w r i v s).rd f w i = bits v f.hi f.lo := by
  rw [State.rd, hr, storeReg_holds, bits_mod _ _ _ hhi, Reg.stored, hw1c, hw1s, Nat.and_zero, Nat.or_zero, bits_and_ones _ hall, bits_or, bits_and, hkept, Nat.and_zero,
    Nat.zero_or, bits_and_ones _ hrw]

/-! ## Requests (R644, R645) -/

section
variable {u typ sender : Nat} {bs : List Nat} {x : Frame} {s : State}

theorem request_repeat (hruns : s.stationRuns u = true) (hparse : parseFrame bs = some x) (htyp : x.typ = typ) {y : Nat × Nat × List Nat}
    (hkept : ((s.getTafKept u).find? fun y => y.1 == sender && y.2.1 == x.seq) = some y) : request u typ sender bs s = s.emit (.frame u y.2.2) := by
  rw [request, if_neg (by simp [hruns]), hparse]
  dsimp only
  rw [if_neg (not_not.mpr htyp), hkept]

/-- The frame that answers a request. -/
def answerOf (u : Nat) (x : Frame) (s : State) : List Nat := taf 3 x.target x.seq x.off x.count (carryOut u x s).1 (carryOut u x s).2.1

theorem request_new (hruns : s.stationRuns u = true) (hparse : parseFrame bs = some x) (htyp : x.typ = typ)
    (hkept : ((s.getTafKept u).find? fun y => y.1 == sender && y.2.1 == x.seq) = none) :
    request u typ sender bs s = (keepResponse u sender x.seq (answerOf u x s) (carryOut u x s).2.2).emit (.frame u (answerOf u x s)) := by
  rw [request, if_neg (by simp [hruns]), hparse]
  dsimp only
  rw [if_neg (not_not.mpr htyp), hkept]
  rfl

theorem keepResponse_out (u sender seq : Nat) (bs : List Nat) (s : State) : (keepResponse u sender seq bs s).out = s.out := rfl

/-- A frame to a shelf's own registers. -/
theorem carryOut_shelf {h : Nat} (hh : h < 8) (hok : x.ok = true) (htarget : x.target = 4) : carryOut (44 + h) x s = onUnit shelfRegs h x s := by
  rw [carryOut, if_neg (by simp [hok]), if_neg (by omega), if_pos (by omega), if_pos htarget, Nat.add_sub_cancel_left]

theorem shelfStat_read (h : Nat) (s : State) : readUnit shelfRegs h 0 s = (s.reg SHF_STAT h 0 % 2 ^ 32, s) := by
  have hat : regAt shelfRegs 0 = some (SHF_STAT, 0, false) := by decide +kernel
  have hall : notBits 32 SHF_STAT.wo = 2 ^ 32 - 1 := by decide
  rw [readUnit, hat]
  dsimp only
  rw [hall, Nat.and_two_pow_sub_one_eq_mod, if_pos (by rfl)]

theorem onUnit_shelfStat {h : Nat} (htyp : x.typ = 1) (hoff : x.off = 0) (hcount : x.count = 1) : onUnit shelfRegs h x s = (0, [s.reg SHF_STAT h 0 % 2 ^ 32], s) := by
  rw [onUnit, if_pos htyp, hoff, hcount]
  simp only [readUnits, shelfStat_read]

theorem shelfAllot_written (h v : Nat) (s : State) : writeUnit shelfRegs h 0xC v s = (storeReg h SHF_ALLOT 0 v s).wr SHF_STAT_STATIC h 0 0 := by
  have hat : regAt shelfRegs 0xC = some (SHF_ALLOT, 0, false) := by decide +kernel
  rw [writeUnit, hat]
  dsimp only
  rw [if_neg (by decide), if_neg (by decide), if_neg (by decide), if_pos rfl]

theorem onUnit_shelfAllot {h v : Nat} (htyp : x.typ = 2) (hoff : x.off = 0xC) (hdata : x.data = [v]) :
    onUnit shelfRegs h x s = (0, [], (storeReg h SHF_ALLOT 0 v s).wr SHF_STAT_STATIC h 0 0) := by
  rw [onUnit, if_neg (by omega), hoff, hdata, ← shelfAllot_written]
  rfl

theorem shelfAllot_shows (h v : Nat) (s : State) : ((storeReg h SHF_ALLOT 0 v s).wr SHF_STAT_STATIC h 0 0).rd SHF_ALLOT_ALLOT_W h 0 = bits v 16 0 ∧
    ((storeReg h SHF_ALLOT 0 v s).wr SHF_STAT_STATIC h 0 0).rd SHF_ALLOT_PLAN_ID h 0 = bits v 28 17 ∧
    ((storeReg h SHF_ALLOT 0 v s).wr SHF_STAT_STATIC h 0 0).rd SHF_STAT_STATIC h 0 = 0 := by
  refine ⟨?_, ?_, ?_⟩
  · rw [State.rd_wr_id _ _ _ _ _ _ _ _ (by decide), storeReg_rd (by rfl) (by decide) (by decide +kernel) (by decide +kernel) (by rfl) (by rfl) (by decide +kernel)]
    rfl
  · rw [State.rd_wr_id _ _ _ _ _ _ _ _ (by decide), storeReg_rd (by rfl) (by decide) (by decide +kernel) (by decide +kernel) (by rfl) (by rfl) (by decide +kernel)]
    rfl
  · rw [State.rd_wr_same _ _ _ _ _ (by decide) (by decide)]
    rfl

theorem shelfRead_out {h : Nat} (hcarry : carryOut u x s = onUnit shelfRegs h x s) (htyp : x.typ = 1) (hoff : x.off = 0) (hcount : x.count = 1) :
    ((keepResponse u sender x.seq (answerOf u x s) (carryOut u x s).2.2).emit (.frame u (answerOf u x s))).out =
      .frame u (taf 3 x.target x.seq 0 1 0 [s.reg SHF_STAT h 0 % 2 ^ 32]) :: s.out := by
  rw [State.out_emit, keepResponse_out, answerOf, hcarry, onUnit_shelfStat htyp hoff hcount, hoff, hcount]

theorem shelfWrite_shows {h v : Nat} (hcarry : carryOut u x s = onUnit shelfRegs h x s) (htyp : x.typ = 2) (hoff : x.off = 0xC) (hdata : x.data = [v]) :
    ((keepResponse u sender x.seq (answerOf u x s) (carryOut u x s).2.2).emit (.frame u (answerOf u x s))).rd SHF_ALLOT_ALLOT_W h 0 = bits v 16 0 ∧
    ((keepResponse u sender x.seq (answerOf u x s) (carryOut u x s).2.2).emit (.frame u (answerOf u x s))).rd SHF_ALLOT_PLAN_ID h 0 = bits v 28 17 ∧
    ((keepResponse u sender x.seq (answerOf u x s) (carryOut u x s).2.2).emit (.frame u (answerOf u x s))).rd SHF_STAT_STATIC h 0 = 0 := by
  simp only [State.rd_emit, (keepResponse_keeps ..).rd SHF_ALLOT_ALLOT_W _ _ (by decide) (by decide +kernel), (keepResponse_keeps ..).rd SHF_ALLOT_PLAN_ID _ _ (by decide) (by decide +kernel),
    (keepResponse_keeps ..).rd SHF_STAT_STATIC _ _ (by decide) (by decide +kernel), hcarry, onUnit_shelfAllot htyp hoff hdata]
  exact shelfAllot_shows h v s

end

/-! ## Responses, events and repeats (R645, R646) -/

section
variable {u : Nat} {bs : List Nat} {x : Frame} {s : State}

theorem State.getTmcs_modTmcs_same (s : State) (k : Nat) (g : Tmc → Tmc) : (s.modTmcs k g).getTmcs k = g (s.getTmcs k) := by
  rw [State.modTmcs, State.getTmcs_putTmcs, if_pos rfl]

theorem response_acknowledges (hu : u < 44) (hparse : parseFrame bs = some x) (htyp : x.typ = 3) :
    ((response u bs s).getTmcs u).events = (s.getTmcs u).events.filter fun e => e.1 ≠ x.seq := by
  rw [response, hparse]
  dsimp only
  rw [if_neg (not_not.mpr htyp), if_pos hu, State.getTmcs_modTmcs_same]

/-- What the RMC knows after an event. -/
def noted (t : Nat) (x : Frame) (m : List (Nat × Nat)) : List (Nat × Nat) :=
  if x.data.getD 0 0 % 256 = 1 ∨ x.data.getD 0 0 % 256 = 3 then mset 0 m (knownKey t (x.data.getD 0 0 % 256) (x.data.getD 1 0)) (x.data.getD 2 0 + 1)
  else if x.data.getD 0 0 % 256 = 2 ∨ x.data.getD 0 0 % 256 = 4 then mset 0 m (knownKey t (x.data.getD 0 0 % 256) 0) (x.data.getD 1 0 + 1)
  else if x.data.getD 0 0 % 256 = 5 then mset 0 m (knownKey t (x.data.getD 0 0 % 256) 0) 1 else m

theorem event_eq {t : Nat} (hparse : parseFrame bs = some x) (htyp : x.typ = 4) (hactive : s.rack.planner.haveActive = true) : event t bs s =
    (s.modPlanner fun p => { p with known := noted t x p.known }).emit (.frame (54 + s.rack.planner.active) (taf 3 x.target x.seq x.off x.count 0 [])) := by
  rw [event, hparse]
  dsimp only
  rw [if_neg (by simp [htyp, hactive])]
  rfl

theorem event_shows {t : Nat} (hparse : parseFrame bs = some x) (htyp : x.typ = 4) (hactive : s.rack.planner.haveActive = true) :
    (event t bs s).out = .frame (54 + s.rack.planner.active) (taf 3 x.target x.seq x.off x.count 0 []) :: s.out ∧
    (x.data.getD 0 0 % 256 = 1 → mget 0 (event t bs s).rack.planner.known (knownKey t 1 (x.data.getD 1 0)) = x.data.getD 2 0 + 1) := by
  have hknown : (event t bs s).rack.planner.known = noted t x s.rack.planner.known := by
    rw [event_eq hparse htyp hactive]
    rfl
  refine ⟨by rw [event_eq hparse htyp hactive]; rfl, fun hkind => ?_⟩
  rw [hknown, noted, if_pos (.inl hkind), hkind, mget_mset, if_pos rfl]

theorem retry_repeats {number : Nat} {e : Nat × Nat × List Nat} (hu : u < 44) (he : ((s.getTmcs u).events.find? fun y => y.1 = number) = some e) (hfew : e.2.1 < 5) :
    (retry u number s).out = .frame u (taf 4 0 e.1 0 e.2.2.length 0 e.2.2) :: .frame u (taf 4 0 e.1 0 e.2.2.length 0 e.2.2) :: s.out ∧
    (number, e.2.1 + 1, e.2.2) ∈ ((retry u number s).getTmcs u).events := by
  have hnumber : e.1 = number := by simpa using List.find?_some he
  rw [retry, if_pos hu, he]
  dsimp only
  rw [if_pos hfew]
  refine ⟨rfl, ?_⟩
  rw [State.getTmcs_emit, State.getTmcs_emit, State.getTmcs_modTmcs_same]
  exact List.mem_map.mpr ⟨e, List.mem_of_find?_eq_some he, by rw [if_pos hnumber, hnumber]⟩

theorem retry_drops {number : Nat} {e : Nat × Nat × List Nat} (hu : u < 44) (he : ((s.getTmcs u).events.find? fun y => y.1 = number) = some e) (hmany : 5 ≤ e.2.1) :
    ∀ y ∈ ((retry u number s).getTmcs u).events, y.1 ≠ number := by
  rw [retry, if_pos hu, he]
  dsimp only
  rw [if_neg (by omega), State.getTmcs_modTmcs_same]
  intro y hy
  simpa using (List.mem_filter.mp hy).2

end

/-! ## What a TMC sees and reports (R646, R647, R653) -/

section
variable {u : Nat} {s : State}

/-- What an event leaves: it is kept until it is acknowledged, and goes out to both RMC addresses. -/
def Told (u : Nat) (words : List Nat) (s t : State) : Prop := ((s.getTmcs u).eventSeq, 0, words) ∈ (t.getTmcs u).events ∧
  t.out = .frame u (taf 4 0 (s.getTmcs u).eventSeq 0 words.length 0 words) :: .frame u (taf 4 0 (s.getTmcs u).eventSeq 0 words.length 0 words) :: s.out

theorem sendEvent_getTmcs (u : Nat) (words : List Nat) (s : State) : (sendEvent u words s).getTmcs u =
    { s.getTmcs u with eventSeq := ((s.getTmcs u).eventSeq + 1) % 2 ^ 32, events := (s.getTmcs u).events ++ [((s.getTmcs u).eventSeq, 0, words)] } := by
  rw [sendEvent, State.getTmcs_emit, State.getTmcs_emit, State.getTmcs_modTmcs_same]

theorem sendEvent_told (u : Nat) (words : List Nat) {x : Tmc} (hseq : x.eventSeq = (s.getTmcs u).eventSeq) : Told u words s (sendEvent u words (s.putTmcs u x)) := by
  have hput : (s.putTmcs u x).getTmcs u = x := by rw [State.getTmcs_putTmcs, if_pos rfl]
  constructor
  · rw [sendEvent_getTmcs, hput, hseq]
    exact List.mem_append.mpr (.inr List.mem_cons_self)
  · rw [sendEvent, hput, hseq]
    rfl

theorem sidebandChange_shows {port pair : Nat} (hruns : (s.getTmcs u).running = true) (hport : port < sidebandPorts u) (hnew : mget 0 (s.getTmcs u).sideband port ≠ pair) :
    mget 0 ((sidebandChange u port pair s).getTmcs u).sideband port = pair ∧ Told u [1, port, pair] s (sidebandChange u port pair s) := by
  have heq : sidebandChange u port pair s = sendEvent u [1, port, pair] (s.putTmcs u { s.getTmcs u with sideband := mset 0 (s.getTmcs u).sideband port pair }) :=
    if_neg (by simp [hruns, hport, hnew])
  rw [heq]
  refine ⟨?_, sendEvent_told u _ rfl⟩
  rw [sendEvent_getTmcs, State.getTmcs_putTmcs, if_pos rfl]
  exact (mget_mset ..).trans (if_pos rfl)

theorem attnNChange_shows (hruns : (s.getTmcs u).running = true) (hnew : (s.getTmcs u).attnSeen ≠ (s.getAtns u).attnN) :
    ((attnNChange u s).getTmcs u).attnSeen = (s.getAtns u).attnN ∧ Told u [2, b2n (s.getAtns u).attnN] s (attnNChange u s) := by
  have heq : attnNChange u s = sendEvent u [2, b2n (s.getAtns u).attnN] (s.putTmcs u { s.getTmcs u with attnSeen := (s.getAtns u).attnN }) := if_neg (by simp [hruns, hnew])
  rw [heq]
  refine ⟨?_, sendEvent_told u _ rfl⟩
  rw [sendEvent_getTmcs, State.getTmcs_putTmcs, if_pos rfl]

theorem presenceChange_shows {pos : Nat} {present : Bool} (r : List Nat) (hruns : (s.getTmcs u).running = true) (hnew : mget false (s.getTmcs u).presence pos ≠ present) :
    mget false ((presenceChange u pos present r s).getTmcs u).presence pos = present ∧ Told u [3, pos, b2n present] s (presenceChange u pos present r s) ∧
    mget 0 ((presenceChange u pos present r s).getTmcs u).identity pos = if present then identityCode u pos r else 0 := by
  have heq : presenceChange u pos present r s = sendEvent u [3, pos, b2n present] (s.putTmcs u { s.getTmcs u with
      presence := mset false (s.getTmcs u).presence pos present, identity := mset 0 (s.getTmcs u).identity pos (if present then identityCode u pos r else 0) }) :=
    if_neg (by simp [hruns, hnew])
  rw [heq]
  refine ⟨?_, sendEvent_told u _ rfl, ?_⟩
  · rw [sendEvent_getTmcs, State.getTmcs_putTmcs, if_pos rfl]
    exact (mget_mset ..).trans (if_pos rfl)
  · rw [sendEvent_getTmcs, State.getTmcs_putTmcs, if_pos rfl]
    exact (mget_mset ..).trans (if_pos rfl)

end

/-! ## A TMC starts (R31, R649) -/

section
variable {u : Nat} {s : State}

/-- A TMC after its start, before its first event. -/
theorem tmcReborn_getTmcs (u : Nat) (s : State) : (tmcReborn u s).getTmcs u = { s.getTmcs u with
    running := true, restarts := (s.getTmcs u).restarts + 1, hears0 := false, hears1 := false, absent := false, events := [], eventSeq := s.fresh.1 % 2 ^ 32 } := by
  rw [tmcReborn, State.getTmcs_modTmcs_same]
  rfl

theorem tmcStart_getTmcs (u : Nat) (s : State) : ∃ n events, (tmcStart u s).getTmcs u = { s.getTmcs u with
    running := true, restarts := (s.getTmcs u).restarts + 1, hears0 := false, hears1 := false, absent := false, events := events, eventSeq := n } := by
  rw [tmcStart_eq, sendEvent_getTmcs, (tmcShown_keeps ..).getTmcs (by decide +kernel), tmcReborn_getTmcs]
  exact ⟨_, _, rfl⟩

theorem tmcStart_shows (u : Nat) (s : State) : ((tmcStart u s).getTmcs u).running = true ∧ ((tmcStart u s).getTmcs u).restarts = (s.getTmcs u).restarts + 1 ∧
    ((tmcStart u s).getTmcs u).hears0 = false ∧ ((tmcStart u s).getTmcs u).hears1 = false ∧ (tmcStart u s).getTafKept u = [] := by
  obtain ⟨n, events, htmc⟩ := tmcStart_getTmcs u s
  rw [htmc]
  refine ⟨rfl, rfl, rfl, rfl, ?_⟩
  rw [tmcStart_eq, (sendEvent_keeps ..).getTafKept (by decide +kernel), (tmcShown_keeps ..).getTafKept (by decide +kernel), tmcReborn, (State.modTmcs_keeps ..).getTafKept (by decide +kernel),
    State.getTafKept_putTafKept, if_pos rfl]

/-- A start leaves what a TMC stores of its tray. -/
theorem tmcStart_stored (u : Nat) (s : State) : ((tmcStart u s).getTmcs u).autoStart = (s.getTmcs u).autoStart ∧ ((tmcStart u s).getTmcs u).lastState = (s.getTmcs u).lastState := by
  obtain ⟨n, events, htmc⟩ := tmcStart_getTmcs u s
  rw [htmc]
  exact ⟨rfl, rfl⟩

/-- A wafer's tray whose feed the TMC has enabled. -/
def feedEnabled (u : Nat) (s : State) : State := (s.modWafers u fun x => { x with powered := true, downSeq := none, stretches := 0 }).modTmcs u fun t => { t with powerOn := true }

/-- The busbar and the converters of a tray are shown. -/
def feedShown (u bus : Nat) (s : State) : State := forEach (List.range 4) (s.wr PWR_BUS_BUS u 0 bus) fun i t => t.wr PWR_IBC_OK u i 1

theorem feedShown_keeps (u bus : Nat) (s : State) : Keeps (regBit PWR_BUS ||| regBit PWR_IBC) s (feedShown u bus s) :=
  forEach_keeps (fun i t => (State.wr_keeps t PWR_IBC_OK u i 1).widen (by decide +kernel)) _ ((State.wr_keeps ..).widen (by decide +kernel))

theorem coldStart_eq (bus : Nat) (s : State) : coldStart u bus s =
    if (s.getWafers u).powered ∨ (s.getWafers u).interlockOpen ∨ !(s.getTmcs u).running then s else feedShown u bus (startWafer u (some 0) (feedEnabled u s)) := rfl

/-- A start of the wafer leaves its TMC but for the feed that it has enabled. -/
theorem coldStart_getTmcs (bus : Nat) (s : State) : ∃ on, (coldStart u bus s).getTmcs u = { s.getTmcs u with powerOn := on } := by
  rw [coldStart_eq]
  split
  · exact ⟨_, rfl⟩
  · refine ⟨true, ?_⟩
    rw [(feedShown_keeps ..).getTmcs (by decide +kernel), (startWafer_keeps ..).getTmcs (by decide +kernel), feedEnabled, State.getTmcs_modTmcs_same, (State.modWafers_keeps ..).getTmcs (by decide +kernel)]

theorem coldStart_powers {bus : Nat} (hclosed : (s.getWafers u).interlockOpen = false) (hruns : (s.getTmcs u).running = true) :
    ((coldStart u bus s).getWafers u).interlockOpen = false ∧ ((coldStart u bus s).getWafers u).powered = true := by
  rw [coldStart_eq]
  split
  · next h => exact ⟨hclosed, by simpa [hclosed, hruns] using h⟩
  · have hwafer : (feedEnabled u s).getWafers u = { s.getWafers u with powered := true, downSeq := none, stretches := 0 } := by
      rw [feedEnabled, (State.modTmcs_keeps ..).getWafers (by decide +kernel), State.getWafers_modWafers_same]
    rw [(feedShown_keeps ..).getWafers (by decide +kernel), (startWafer_keeps ..).getWafers (by decide +kernel), hwafer]
    exact ⟨hclosed, rfl⟩

theorem switchTrayOn_getTmcs (k : Nat) (s : State) : (switchTrayOn k s).getTmcs (36 + k) = { s.getTmcs (36 + k) with powerOn := true } := by
  unfold switchTrayOn
  split
  · next h => rw [← h]
  · rw [State.getTmcs_modTmcs_same, (chipStart_keeps ..).getTmcs (by decide +kernel), (chipStart_keeps ..).getTmcs (by decide +kernel)]

/-- The same of a switch tray by its TMC's number. -/
theorem switchTrayOn_own (hu : ¬ u < 36) (s : State) : (switchTrayOn (u - 36) s).getTmcs u = { s.getTmcs u with powerOn := true } := by
  have hown := switchTrayOn_getTmcs (u - 36) s
  rwa [Nat.add_sub_cancel' (Nat.not_lt.mp hu)] at hown

/-- A tray that is seated: its interlock is closed, and its TMC starts. -/
def seated (u : Nat) (s : State) : State := tmcStart u (if u < 36 then s.modWafers u fun x => { x with interlockOpen := false } else s)

theorem standbyRailUp_eq {bus : Nat} (h : (s.getTmcs u).running = false ∨ (s.getWafers u).interlockOpen = true ∨ (s.getWafers u).powered = false) : standbyRailUp u bus s =
    if ((seated u s).getTmcs u).autoStart && ((seated u s).getTmcs u).lastState then
      (if u < 36 then coldStart u bus (seated u s) else switchTrayOn (u - 36) (seated u s))
    else seated u s := by
  have hdue : ¬ ((s.getTmcs u).running && !(s.getWafers u).interlockOpen && (s.getWafers u).powered) = true := by
    obtain h | h | h := h <;> simp [h]
  rw [standbyRailUp, if_neg hdue]
  rfl

theorem seated_shows (u : Nat) (s : State) : ((seated u s).getTmcs u).running = true ∧ (u < 36 → ((seated u s).getWafers u).interlockOpen = false) ∧
    ((seated u s).getTmcs u).autoStart = (s.getTmcs u).autoStart ∧ ((seated u s).getTmcs u).lastState = (s.getTmcs u).lastState := by
  have htmcs : (if u < 36 then s.modWafers u fun x => { x with interlockOpen := false } else s).getTmcs u = s.getTmcs u := by
    split
    · exact (State.modWafers_keeps ..).getTmcs (by decide +kernel) u
    · rfl
  obtain ⟨hauto, hlast⟩ := tmcStart_stored u (if u < 36 then s.modWafers u fun x => { x with interlockOpen := false } else s)
  refine ⟨(tmcStart_shows ..).1, fun hu => ?_, by rw [seated, hauto, htmcs], by rw [seated, hlast, htmcs]⟩
  rw [seated, (tmcStart_keepsMost ..).getWafers (by decide +kernel), if_pos hu, State.getWafers_modWafers_same]

theorem standbyRailUp_shows {bus : Nat} (h : (s.getTmcs u).running = false ∨ (s.getWafers u).interlockOpen = true ∨ (s.getWafers u).powered = false) :
    ((standbyRailUp u bus s).getTmcs u).running = true ∧ (u < 36 → ((standbyRailUp u bus s).getWafers u).interlockOpen = false) ∧
    ((s.getTmcs u).autoStart = true → (s.getTmcs u).lastState = true →
      (u < 36 → ((standbyRailUp u bus s).getWafers u).powered = true) ∧ (36 ≤ u → ((standbyRailUp u bus s).getTmcs u).powerOn = true)) := by
  obtain ⟨hruns, hclosed, hauto, hlast⟩ := seated_shows u s
  rw [standbyRailUp_eq h, hauto, hlast]
  generalize seated u s = t at hruns hclosed
  by_cases hstart : ((s.getTmcs u).autoStart && (s.getTmcs u).lastState) = true
  · rw [if_pos hstart]
    by_cases hu : u < 36
    · rw [if_pos hu]
      obtain ⟨on, htmc⟩ := coldStart_getTmcs (u := u) bus t
      obtain ⟨hclosed', hpowered⟩ := coldStart_powers (bus := bus) (hclosed hu) hruns
      exact ⟨by rw [htmc]; exact hruns, fun _ => hclosed', fun _ _ => ⟨fun _ => hpowered, fun hswitch => absurd hu (Nat.not_lt.mpr hswitch)⟩⟩
    · rw [if_neg hu]
      rw [switchTrayOn_own hu]
      exact ⟨hruns, fun hu' => absurd hu' hu, fun _ _ => ⟨fun hu' => absurd hu' hu, fun _ => rfl⟩⟩
  · rw [if_neg hstart]
    exact ⟨hruns, hclosed, fun ha hl => absurd (by rw [ha, hl]; rfl) hstart⟩

end

/-! ## Spotlights and the acts of chips (R652, R662) -/

section
variable {u : Nat} {s : State}

theorem setSpot_shows (u : Nat) (on : Bool) (s : State) : ((setSpot u on s).getSpots u).lit = on ∧ (setSpot u on s).getEtags (1000 + u) = s.getEtags (1000 + u) + 1 := by
  constructor
  · rw [setSpot, (State.putEtags_keeps ..).getSpots (by decide +kernel), State.modSpots, State.getSpots_putSpots, if_pos rfl]
  · rw [setSpot, State.getEtags_putEtags, if_pos rfl]

theorem spotButton_inverts (hspot : hasSpot u = true) (hdriven : s.spotDriven u = true) :
    ((spotButton u s).getSpots u).lit = !(s.getSpots u).lit ∧ (spotButton u s).getEtags (1000 + u) = s.getEtags (1000 + u) + 1 := by
  rw [spotButton, if_pos (by simp [hspot, hdriven])]
  exact setSpot_shows ..

theorem spotTimeout_ends (hspot : hasSpot u = true) (hdriven : s.spotDriven u = true) (hlit : (s.getSpots u).lit = true) (htimeout : (s.getSpots u).timeout ≠ 0) :
    ((spotTimeout u s).getSpots u).lit = false := by
  have heq : spotTimeout u s = setSpot u false s := if_pos (by simp [hspot, hdriven, hlit, htimeout])
  rw [heq]
  exact (setSpot_shows ..).1

/-- A chip's stamp and machine number are written. -/
def chipStamped (c v : Nat) (s : State) : State := ((storeReg c B72_ACT_CTL 0 v s).wr B72_ACT_STAT_STAMP c 0 (bits v 0 0)).wr B72_ACT_STAT_MACHINE c 0 (bits v 19 16)

/-- A chip's act takes a state; one that is DRAINING is not quiet yet. -/
def chipActTaken (c v : Nat) (s : State) : State :=
  (s.setChipActState c (bits v 1 1) (bits v 6 4)).when (bits v 6 4 == 4) fun t => t.wr B72_ACT_STAT_LOCAL_QUIET c 0 0

theorem b72ActCtl_eq (c v : Nat) (s : State) : b72ActCtl c v s = if 4 < bits v 6 4 then chipStamped c v s else chipActTaken c v (chipStamped c v s) := rfl

theorem bits_lt_width (v hi lo : Nat) : bits v hi lo < 2 ^ (hi + 1 - lo) := Nat.mod_lt _ (Nat.two_pow_pos _)

theorem chipStamped_shows (c v : Nat) (s : State) : (chipStamped c v s).rd B72_ACT_STAT_STAMP c 0 = bits v 0 0 ∧ (chipStamped c v s).rd B72_ACT_STAT_MACHINE c 0 = bits v 19 16 := by
  constructor
  · rw [chipStamped, State.rd_wr_apart _ _ _ _ _ _ _ _ (by decide), State.rd_wr_same _ _ _ _ _ (by decide) (by decide)]
    exact Nat.mod_eq_of_lt (bits_lt_width ..)
  · rw [chipStamped, State.rd_wr_same _ _ _ _ _ (by decide) (by decide)]
    exact Nat.mod_eq_of_lt (bits_lt_width ..)

/-- The state of an act and the quiet of a chip leave its stamp and its number. -/
theorem chipActTaken_other {f : Fld} (hf : f = B72_ACT_STAT_STAMP ∨ f = B72_ACT_STAT_MACHINE) (c v : Nat) (s : State) : (chipActTaken c v s).rd f c 0 = s.rd f c 0 := by
  have hact : (s.setChipActState c (bits v 1 1) (bits v 6 4)).rd f c 0 = s.rd f c 0 := by
    unfold State.setChipActState
    obtain rfl | rfl := hf <;> split <;> exact State.rd_wr_apart _ _ _ _ _ _ _ _ (by decide)
  unfold chipActTaken State.when
  split
  · obtain rfl | rfl := hf
    · exact (State.rd_wr_apart _ _ _ _ _ _ _ _ (by decide)).trans hact
    · exact (State.rd_wr_apart _ _ _ _ _ _ _ _ (by decide)).trans hact
  · exact hact

theorem chipActState_setChipActState (c act : Nat) {v : Nat} (hv : v < 8) (s : State) : (s.setChipActState c act v).chipActState c act = v := by
  unfold State.setChipActState State.chipActState
  split
  · rw [State.rd_wr_same _ _ _ _ _ (by decide) (by decide)]
    exact Nat.mod_eq_of_lt hv
  · rw [State.rd_wr_same _ _ _ _ _ (by decide) (by decide)]
    exact Nat.mod_eq_of_lt hv

theorem chipActState_quiet (c act x : Nat) (s : State) : (s.wr B72_ACT_STAT_LOCAL_QUIET c 0 x).chipActState c act = s.chipActState c act := by
  unfold State.chipActState
  rw [State.rd_wr_apart _ _ _ _ _ _ _ _ (by decide), State.rd_wr_apart _ _ _ _ _ _ _ _ (by decide)]

theorem b72ActCtl_shows (c v : Nat) (s : State) : (b72ActCtl c v s).rd B72_ACT_STAT_STAMP c 0 = bits v 0 0 ∧ (b72ActCtl c v s).rd B72_ACT_STAT_MACHINE c 0 = bits v 19 16 ∧
    (bits v 6 4 ≤ 4 → (b72ActCtl c v s).chipActState c (bits v 1 1) = bits v 6 4) := by
  obtain ⟨hstamp, hmachine⟩ := chipStamped_shows c v s
  rw [b72ActCtl_eq]
  by_cases hno : 4 < bits v 6 4
  · rw [if_pos hno]
    exact ⟨hstamp, hmachine, fun hle => absurd hno (Nat.not_lt.mpr hle)⟩
  · rw [if_neg hno]
    refine ⟨(chipActTaken_other (.inl rfl) ..).trans hstamp, (chipActTaken_other (.inr rfl) ..).trans hmachine, fun _ => ?_⟩
    unfold chipActTaken State.when
    split
    · rw [chipActState_quiet]
      exact chipActState_setChipActState _ _ (bits_lt_width ..) _
    · exact chipActState_setChipActState _ _ (bits_lt_width ..) _

end

end Sys2Proof.Machine
open Sys2Proof Sys2Proof.Machine

/-- Settles O51: a frame's clauses go through its parse, and a controller's through the one record that its event changes. -/
theorem trayFramesAndControllers : Obligations.TrayFramesAndControllers := by
  unfold Obligations.TrayFramesAndControllers
  intro s told
  refine ⟨fun u sender bytes x typ c hc hruns hparse htyp => ?_, fun u bytes x hparse htyp => ⟨_, rfl, response_acknowledges u.isLt hparse htyp⟩,
    fun u bytes x hparse htyp hactive => ⟨_, rfl, event_shows hparse htyp hactive⟩,
    fun u number e he => ⟨fun hfew => ⟨_, rfl, retry_repeats u.isLt he hfew⟩, fun hmany => ⟨_, rfl, retry_drops u.isLt he hmany⟩⟩,
    fun u port pair hruns hport hnew => ⟨_, rfl, sidebandChange_shows hruns hport hnew⟩, fun w hruns hnew => ⟨_, rfl, attnNChange_shows hruns hnew⟩,
    fun u pos present record hruns hnew => ⟨_, rfl, presenceChange_shows _ hruns hnew⟩, fun u => ⟨_, rfl, tmcStart_shows u s⟩, fun u bus h => ⟨_, rfl, standbyRailUp_shows h⟩,
    fun u hspot hdriven => ⟨⟨_, rfl, spotButton_inverts hspot hdriven⟩, fun hlit htimeout => ⟨_, rfl, spotTimeout_ends hspot hdriven hlit htimeout⟩⟩, fun c v hpower hruns => ⟨_, rfl, ?_⟩⟩
  · have hexec : exec c s = .next (request u typ sender.toNat (bytes.map BitVec.toNat) s) := by
      obtain ⟨rfl, rfl⟩ | ⟨rfl, rfl⟩ := hc <;> rfl
    intro kept
    refine ⟨fun y hy => ⟨_, hexec, request_repeat hruns hparse htyp hy⟩, fun hnew => ⟨_, hexec, ?_⟩, fun h hnew hu hok htarget => ⟨fun hread hoff hcount => ⟨_, hexec, ?_⟩, fun v hwrite hoff hdata => ⟨_, hexec, ?_⟩⟩⟩
    · rw [request_new hruns hparse htyp hnew]
      rfl
    · rw [request_new hruns hparse htyp hnew]
      exact (shelfRead_out (hu ▸ carryOut_shelf h.isLt hok htarget) (htyp.trans hread) hoff hcount).trans (by rw [htarget])
    · rw [request_new hruns hparse htyp hnew]
      exact shelfWrite_shows (hu ▸ carryOut_shelf h.isLt hok htarget) (htyp.trans hwrite) hoff hdata
  · rw [if_pos (by simp [hpower, hruns])]
    exact b72ActCtl_shows ..

end

section
/-!
PROOF. The Redfish service (R664-R669, R674): what the active RMC answers and what the standby refuses, properties, Reset actions, the other actions, and the check that
caps follow the plan.
-/
set_option Elab.async false
namespace Sys2Proof.Machine

/-! ## The roles (R664) -/

section
variable {r : Nat} {s : State} {c : Instr} {P : State → Prop}

theorem rfWrite_active {g : State → State} (hactive : s.rack.planner.haveActive = true ∧ s.rack.planner.active = r) : rfWrite r g s = g s := if_neg (by simp [hactive])

theorem rfWrite_standby {g : State → State} (hstandby : ¬ (s.rack.planner.haveActive = true ∧ s.rack.planner.active = r)) : rfWrite r g s = s.emit (.redfish 503 []) := by
  refine if_pos ?_
  cases hhave : s.rack.planner.haveActive with
  | false => exact .inl rfl
  | true => exact .inr fun hrole => hstandby ⟨hhave, hrole⟩

/-- What the active RMC does with a write is what the write does. -/
theorem completes_write {g : State → State} (hexec : exec c s = .next (rfWrite r g s)) (hactive : s.rack.planner.haveActive = true ∧ s.rack.planner.active = r) (h : P (g s)) : Completes c s P :=
  ⟨g s, by rw [hexec, rfWrite_active hactive], h⟩

theorem completes_refused {g : State → State} (hexec : exec c s = .next (rfWrite r g s)) (hstandby : ¬ (s.rack.planner.haveActive = true ∧ s.rack.planner.active = r)) :
    Completes c s fun u => u = s.emit (.redfish 503 []) :=
  ⟨_, hexec, rfWrite_standby hstandby⟩

/-- An action on a tray whose TMC runs is carried out, and answered. -/
theorem completes_action {t : Nat} {g : State → State} (hexec : exec c s = .next (trayAction r t g s)) (hactive : s.rack.planner.haveActive = true ∧ s.rack.planner.active = r)
    (hruns : (s.getTmcs t).running = true) (h : P ((g s).emit (.redfish 204 []))) : Completes c s P :=
  ⟨_, by rw [hexec, trayAction, rfWrite_active hactive, if_pos hruns], h⟩

theorem completes_unreached {t : Nat} {g : State → State} (hexec : exec c s = .next (trayAction r t g s)) (hactive : s.rack.planner.haveActive = true ∧ s.rack.planner.active = r)
    (hruns : (s.getTmcs t).running = false) : Completes c s fun u => u = s.emit (.redfish 503 []) :=
  ⟨_, hexec, by rw [trayAction, rfWrite_active hactive, if_neg (by simp [hruns])]⟩

end

/-- The last thing sent is an answer with this code. -/
def Answered (code : Nat) (t : State) : Prop := ∃ xs, t.out.head? = some (.redfish code xs)

theorem answered_emit (code : Nat) (xs : List Nat) (s : State) : Answered code (s.emit (.redfish code xs)) := ⟨xs, rfl⟩

/-! ## PATCH (R668, R674) -/

section
variable {x : RfRes} {q : RfProp} {v w : Nat} {s t u : State}

theorem patch_stale {e : Nat} (hstale : e ≠ s.getEtags (resKey x)) (ps : List (RfProp × Nat)) : patch x (some e) ps s = s.emit (.redfish 412 []) := by
  rw [patch, if_pos (by simpa using hstale)]

theorem patch_outOfRange (hrange : propOk x q v = false) : patch x none [(q, v)] s = s.emit (.redfish 400 []) := by
  rw [patch, if_neg (by simp), if_pos (by simp [hrange])]

/-- The plan follows a property that it rests on. -/
def patchPlanned (q : RfProp) (s : State) : State := if q == .machinePowerLimitW || q == .shedRank || q == .floorW then replan s else s

/-- A property with its value, a new ETag, and the plan that follows. -/
def patched (x : RfRes) (q : RfProp) (v : Nat) (s : State) : State := patchPlanned q (touch x (setProp x q v s))

theorem patch_one (hrange : propOk x q v = true) (hptp : ptpOk s x [(q, v)] = true) : patch x none [(q, v)] s =
    (patched x q v s).emit (.redfish 200 [(patched x q v s).getEtags (resKey x)]) := by
  have hplan : ([(q, v)].any fun p => p.1 == .machinePowerLimitW || p.1 == .shedRank || p.1 == .floorW) = (q == .machinePowerLimitW || q == .shedRank || q == .floorW) := by
    rw [List.any_cons, List.any_nil, Bool.or_false]
  rw [patch, if_neg (by simp), if_neg (by simp [hrange, hptp])]
  dsimp only
  rw [hplan, forEach_one]
  rfl

/-- What holds of the property with its value and of every answer holds of the PATCH. -/
theorem completes_patch {r : Nat} {c : Instr} {P : State → Prop} (hexec : exec c s = .next (rfWrite r (patch x none [(q, v)]) s))
    (hactive : s.rack.planner.haveActive = true ∧ s.rack.planner.active = r) (hrange : propOk x q v = true) (hptp : ptpOk s x [(q, v)] = true)
    (h : ∀ n, P ((patched x q v s).emit (.redfish 200 [n]))) : Completes c s P :=
  completes_write hexec hactive ((patch_one hrange hptp).symm ▸ h _)

theorem patchPlanned_keeps (q : RfProp) (s : State) : Keeps 0x14c00460000001200601800000000000000000000000000000000000000007000000140c200000018 s (patchPlanned q s) :=
  .ite (replan_keeps s) (.refl ..)

theorem patched_limit (v : Nat) (s : State) : (patched .tank .machinePowerLimitW v s).rack.planner.opLimit = v ∧ (patched .tank .machinePowerLimitW v s).getEtags 1 = s.getEtags 1 + 1 := by
  constructor
  · obtain ⟨a, b, c, d, hplanner, -⟩ := replan_planner (touch .tank (setProp .tank .machinePowerLimitW v s))
    rw [patched, patchPlanned, if_pos (by rfl), hplanner]
    rfl
  · rw [patched, (patchPlanned_keeps ..).getEtags (by decide +kernel), touch]
    exact (State.getEtags_putEtags ..).trans (if_pos rfl)

/-- Every wafer keeps the floor of its plan. -/
def SameFloors (s t : State) : Prop := ∀ w, (t.getPlans w).floor = (s.getPlans w).floor

theorem SameFloors.refl (s : State) : SameFloors s s := fun _ => rfl

theorem SameFloors.trans (h1 : SameFloors s t) (h2 : SameFloors t u) : SameFloors s u := fun w => (h2 w).trans (h1 w)

theorem SameFloors.of_keeps {m : Nat} (h : Keeps m s t) (hm : m.testBit 46 = false) : SameFloors s t := fun w => by rw [h.getPlans hm]

theorem SameFloors.of_samePlans (h : SamePlans s t) : SameFloors s t := fun w => by
  obtain ⟨a, b, c, hplan⟩ := h.plans w
  rw [hplan]

theorem modPlans_sameFloors {g : PlanW → PlanW} (hg : ∀ y, (g y).floor = y.floor) (w : Nat) (s : State) : SameFloors s (s.modPlans w g) := fun v => by
  by_cases hv : v = w
  · rw [hv, State.getPlans_modPlans_same, hg]
  · rw [State.getPlans_modPlans_ne _ _ hv]

theorem shedFloors_sameFloors (ws : List Nat) (s : State) : SameFloors s (shedFloors ws s) := by
  refine forEach_relates (R := SameFloors) SameFloors.refl SameFloors.trans (fun w t => ?_) ws s
  dsimp only
  split
  · exact .refl t
  · exact modPlans_sameFloors (by intro _; rfl) w t

theorem shedScale_sameFloors (s : State) : SameFloors s (shedScale s) :=
  forEach_relates (R := SameFloors) SameFloors.refl SameFloors.trans (fun w t => modPlans_sameFloors (by intro _; rfl) w t) _ s

theorem shed_sameFloors (s : State) : SameFloors s (shed s) := by
  unfold shed
  dsimp only
  split
  · exact .refl s
  · have hfloors := shedFloors_sameFloors s.shedOrder s
    split
    · exact hfloors
    · have hscaled := hfloors.trans (shedScale_sameFloors _)
      split
      · exact hscaled
      · exact hscaled.trans (.of_keeps ((State.modPlanner_keeps ..).trans (State.emit_keeps ..)) (by decide +kernel))

theorem replan_sameFloors (s : State) : SameFloors s (replan s) := by
  unfold replan
  split
  · exact .refl s
  · split
    · exact .refl s
    · exact ((SameFloors.of_keeps (State.modPlanner_keeps s _) (by decide +kernel)).trans (shed_sameFloors _)).trans (.of_samePlans (commitPlan_samePlans _))

theorem patched_floor (t : TmcId) (v : Nat) (s : State) : ((patched (.tray t) .floorW v s).getPlans t).floor = v := by
  rw [patched, patchPlanned, if_pos (by rfl), replan_sameFloors, touch, (State.putEtags_keeps ..).getPlans (by decide +kernel)]
  exact congrArg PlanW.floor (State.getPlans_modPlans_same s t fun y => { y with floor := v })

end

/-! ## Reset actions (R649, R667, R668) -/

section
variable {u : Nat} {s : State}

theorem storePower_getTmcs (u : Nat) (on : Bool) (s : State) : (storePower u on s).getTmcs u = { s.getTmcs u with lastState := on } := State.getTmcs_modTmcs_same ..

theorem resetOn_shows {bus : Nat} (hruns : (s.getTmcs u).running = true) (hclosed : (s.getWafers u).interlockOpen = false) : ((resetOn u bus s).getTmcs u).lastState = true ∧
    if u < 36 then ((resetOn u bus s).getWafers u).powered = true else ((resetOn u bus s).getTmcs u).powerOn = true := by
  have hstored := storePower_getTmcs u true s
  have hruns' : ((storePower u true s).getTmcs u).running = true := by rw [hstored, hruns]
  have hclosed' : ((storePower u true s).getWafers u).interlockOpen = false := by rw [(storePower_keeps ..).getWafers (by decide +kernel), hclosed]
  unfold resetOn
  by_cases hu : u < 36
  · obtain ⟨on, htmc⟩ := coldStart_getTmcs (u := u) bus (storePower u true s)
    obtain ⟨-, hpowered⟩ := coldStart_powers (bus := bus) hclosed' hruns'
    rw [if_pos hu, if_pos hu, htmc, hstored]
    exact ⟨rfl, hpowered⟩
  · rw [if_neg hu, if_neg hu, switchTrayOn_own hu, hstored]
    exact ⟨rfl, rfl⟩

theorem switchTrayOff_own (hu : ¬ u < 36) (s : State) : (switchTrayOff (u - 36) s).getTmcs u = { s.getTmcs u with powerOn := false } := by
  rw [switchTrayOff_getTmcs, Nat.add_sub_cancel' (Nat.not_lt.mp hu), if_pos rfl]

theorem resetForceOff_shows (u : Nat) (s : State) : ((resetForceOff u s).getTmcs u).lastState = false ∧ ((resetForceOff u s).getTmcs u).powerOn = false ∧
    (u < 36 → ((resetForceOff u s).getWafers u).powered = false) := by
  have hstored := storePower_getTmcs u false s
  unfold resetForceOff
  by_cases hu : u < 36
  · rw [if_pos hu, State.getTmcs_modTmcs_same, (busUndervolt_keeps ..).getTmcs (by decide +kernel), hstored, (State.modTmcs_keeps ..).getWafers (by decide +kernel)]
    exact ⟨rfl, rfl, fun _ => busUndervolt_off ..⟩
  · rw [if_neg hu, switchTrayOff_own hu, hstored]
    exact ⟨rfl, rfl, fun h => absurd h hu⟩

/-- A planned power-off leaves the power state that is stored of its tray. -/
theorem trayPowerOff_lastState (s : State) : ((trayPowerOff u s).getTmcs u).lastState = (s.getTmcs u).lastState := by
  unfold trayPowerOff
  split
  · rfl
  · rw [(takeWaferDown_keeps ..).getTmcs (by decide +kernel), State.getTmcs_modTmcs_same, (State.modBups_keeps ..).getTmcs (by decide +kernel)]

theorem resetGraceful_shows (u : Nat) (s : State) : ((resetGraceful u s).getTmcs u).lastState = false ∧
    if u < 36 then ((resetGraceful u s).getWafers u).powered = false ∨ ((resetGraceful u s).getWafers u).downSeq = some 0 else ((resetGraceful u s).getTmcs u).powerOn = false := by
  have hstored := storePower_getTmcs u false s
  unfold resetGraceful
  by_cases hu : u < 36
  · rw [if_pos hu, if_pos hu, trayPowerOff_lastState, hstored]
    exact ⟨rfl, trayPowerOff_offOrDown u _⟩
  · rw [if_neg hu, if_neg hu, switchTrayOff_own hu, hstored]
    exact ⟨rfl, rfl⟩

/-! ### The chips of a switch tray (R16, R189) -/

theorem chipReset_own {c : Nat} (s : State) (i : Nat) : (chipReset c s).reg B72_ACT_STAT c i = 0 := by
  have hkey : chipKept c (B72_ACT_STAT.key c i) = false := by
    simp only [chipKept, Reg.key, key3, Nat.unpair_pair, beq_self_eq_true, Bool.and_true]
    decide
  rw [State.reg, chipReset_regs, mget_filter, hkey]
  rfl

theorem chipReset_other {c d : Nat} (hne : d ≠ c) (r : Reg) (s : State) (i : Nat) : (chipReset c s).reg r d i = s.reg r d i := by
  have hkey : chipKept c (r.key d i) = true := by
    simp only [chipKept, Reg.key, key3, Nat.unpair_pair, beq_eq_false_iff_ne.mpr hne, Bool.and_false, Bool.not_false]
  rw [State.reg, chipReset_regs, mget_filter, if_pos hkey]
  rfl

/-- A chip that starts has its acts FREE. -/
theorem chipStart_free (c act : Nat) (s : State) : (chipStart c s).chipActState c act = 0 := by
  have hfield : ∀ f : Fld, f.reg = B72_ACT_STAT → (f.hi < B72_ACT_STAT_MACHINE.lo ∧ f.hi < 64) → (chipStart c s).rd f c 0 = 0 := fun f hreg ⟨hbelow, hhi⟩ => by
    rw [chipStart, State.rd_wr_apart _ _ _ _ _ _ _ _ (.inr ⟨hreg, by decide, hhi, .inl hbelow⟩), State.rd_wr_id _ _ _ _ _ _ _ _ (by rw [hreg]; decide), State.rd, hreg, chipReset_own]
    simp [bits]
  unfold State.chipActState
  rw [hfield _ rfl (by decide), hfield _ rfl (by decide), ite_self]

/-- Another chip keeps its acts. -/
theorem chipStart_other {c d : Nat} (hne : d ≠ c) (act : Nat) (s : State) : (chipStart c s).chipActState d act = s.chipActState d act := by
  have hfield : ∀ f : Fld, (chipStart c s).rd f d 0 = s.rd f d 0 := fun f => by
    rw [chipStart, State.rd_wr_ne _ _ _ _ _ _ _ _ (.inr (.inl hne)), State.rd_wr_ne _ _ _ _ _ _ _ _ (.inr (.inl hne)), State.rd, chipReset_other hne, State.rd]
  unfold State.chipActState
  rw [hfield, hfield]

theorem switchTrayOn_free {k : Nat} (hoff : (s.getTmcs (36 + k)).powerOn = false) (act : Nat) :
    (switchTrayOn k s).chipActState (2 * k) act = 0 ∧ (switchTrayOn k s).chipActState (2 * k + 1) act = 0 := by
  have heq : switchTrayOn k s = (chipStart (2 * k + 1) (chipStart (2 * k) s)).modTmcs (36 + k) fun x => { x with powerOn := true } := if_neg (by simp [hoff])
  have hacts : ∀ c, (switchTrayOn k s).chipActState c act = (chipStart (2 * k + 1) (chipStart (2 * k) s)).chipActState c act := fun c => by
    rw [heq]
    unfold State.chipActState
    rw [(State.modTmcs_keeps ..).rd _ _ _ (by decide) (by decide +kernel), (State.modTmcs_keeps ..).rd _ _ _ (by decide) (by decide +kernel)]
  rw [hacts, hacts, chipStart_other (by omega), chipStart_free, chipStart_free]
  exact ⟨rfl, rfl⟩

theorem resetCycle_wafer (hu : u < 36) (hon : (s.getWafers u).powered = true) (hstays : (s.getWafers u).downSeq ≠ some 0) :
    (resetCycle u s).rd BUP_STAT_READY u 0 = 0 ∧ (((resetCycle u s).getWafers u).downSeq = some 1 ∨ (resetCycle u s).rd BUP_STAT_START_KIND u 0 = 1) := by
  rw [resetCycle, if_pos hu]
  exact warmStart_down hon hstays

theorem resetCycle_switch {k : Nat} (hu : u = 36 + k) (hon : (s.getTmcs u).powerOn = true) : ((resetCycle u s).getTmcs u).powerOn = true ∧
    (resetCycle u s).chipActState (2 * k) 0 = 0 ∧ (resetCycle u s).chipActState (2 * k + 1) 1 = 0 := by
  subst hu
  have hoff : ((switchTrayOff k s).getTmcs (36 + k)).powerOn = false := by rw [switchTrayOff_getTmcs, if_pos rfl]
  rw [resetCycle, if_neg (by omega), if_pos hon, Nat.add_sub_cancel_left]
  exact ⟨by rw [switchTrayOn_getTmcs], (switchTrayOn_free hoff 0).1, (switchTrayOn_free hoff 1).2⟩

end

/-! ## The other actions (R613, R618, R665-R668) -/

section
variable {w : Nat} {s : State}

/-- The frame of a window access. -/
def windowFrame (n off count : Nat) (data : List Nat) : List Nat := if data.isEmpty then taf 1 1 n off count 0 [] else taf 2 1 n off data.length 0 data

theorem windowAccess_asks (w off count : Nat) (data : List Nat) (s : State) :
    (windowAccess w off count data s).out = .frame (54 + s.rack.planner.active) (windowFrame s.rack.planner.askSeq off count data) :: s.out ∧
    (windowAccess w off count data s).rack.planner.asks = s.rack.planner.asks ++ [(w * 8, s.rack.planner.askSeq, windowFrame s.rack.planner.askSeq off count data)] := ⟨rfl, rfl⟩

theorem clearCellFault_clears (h b : Nat) (s : State) : mget 0 (s.getShelves h).serials b ∉ ((clearCellFault h b s).getShelves h).faulted := by
  rw [clearCellFault, State.getShelves_emit, (touch_keeps ..).getShelves (by decide +kernel), State.getShelves_modShelves_same]
  exact fun hmem => by simpa using (List.mem_filter.mp hmem).2

/-- An RMC's clock with the seconds that it was given; its phase stays. -/
def Clock.withSeconds (c : Clock) (n now : Nat) : Clock :=
  let d := c.adjust now 0 0
  { d with offset := d.offset + ((n : Int) - (d.read now / 1000000000 : Nat)) * 1000000000 }

theorem Clock.read_withSeconds (c : Clock) {n : Nat} (now : Nat) (hn : n < 2 ^ 34) : (c.withSeconds n now).read now = n * 1000000000 + c.read now % 1000000000 := by
  have hread : (c.adjust now 0 0).read now = c.read now := c.read_adjust ..
  have hsum : (now : Int) + (c.withSeconds n now).offset = ((n * 1000000000 + c.read now % 1000000000 : Nat) : Int) := by
    have hsplit := Nat.div_add_mod (c.read now) 1000000000
    have hoffset : (c.withSeconds n now).offset = ((c.read now : Int) - now) + ((n : Int) - ((c.adjust now 0 0).read now / 1000000000 : Nat)) * 1000000000 := rfl
    rw [hoffset, hread]
    push_cast
    omega
  rw [Clock.read_at (c.withSeconds n now) now rfl, hsum, ofInt_natCast, Nat.mod_eq_of_lt]
  have hphase := Nat.mod_lt (c.read now) (show 0 < 1000000000 by decide)
  omega

/-- An RMC that has been given its seconds. -/
def Rmc.withSeconds (n now : Nat) (y : Rmc) : Rmc := { y with clock := y.clock.withSeconds n now }

theorem setSeconds_eq {r : Nat} (n : Nat) (hnone : (s.getRmcs r).lastSync = none) : setSeconds r n s =
    (touch (.rmc (Fin.ofNat 2 r)) ((s.modRmcs r fun y => { y with givenSeconds := some n }).modRmcs r (Rmc.withSeconds n s.now))).emit (.redfish 204 []) := by
  unfold setSeconds
  dsimp only
  rw [if_neg (by simp [hnone])]
  rfl

theorem setSeconds_clock {r : Nat} (n : Nat) (hnone : (s.getRmcs r).lastSync = none) : ((setSeconds r n s).getRmcs r).clock = (s.getRmcs r).clock.withSeconds n s.now := by
  rw [setSeconds_eq n hnone, State.getRmcs_emit, (touch_keeps ..).getRmcs (by decide +kernel), State.getRmcs_modRmcs_same, State.getRmcs_modRmcs_same]
  rfl

theorem setSeconds_reads {r n : Nat} (hn : n < 2 ^ 34) (hnone : (s.getRmcs r).lastSync = none) : ((setSeconds r n s).getRmcs r).clock.read s.now / 1000000000 = n ∧
    ((setSeconds r n s).getRmcs r).clock.read s.now % 1000000000 = (s.getRmcs r).clock.read s.now % 1000000000 := by
  rw [setSeconds_clock n hnone, Clock.read_withSeconds _ _ hn]
  omega

/-- A task that is made for an update. -/
def taskMade (part unit slot : Nat) (immediate : Bool) (s : State) : State :=
  s.modPlanner fun q => { q with nextTask := s.rack.planner.nextTask + 1, tasks := q.tasks ++ [⟨s.rack.planner.nextTask, part, unit, slot, immediate, s.now, 0⟩] }

theorem update_eq {part unit ver : Nat} {digest : List Nat} {immediate : Bool} (hwritable : s.fwWritable part unit = true)
    (htakes : (s.getFws (fwKey part unit)).accepts (s.getFws (fwKey part unit)).spare = true) : update part unit ver digest immediate s =
      (fwInstall part unit (s.getFws (fwKey part unit)).spare ver digest (taskMade part unit (s.getFws (fwKey part unit)).spare immediate s)).emit (.redfish 202 [s.rack.planner.nextTask]) := by
  rw [update, hwritable, htakes, Bool.and_self, if_pos rfl]
  rfl

theorem update_installs {part unit ver : Nat} {digest : List Nat} {immediate : Bool} (hwritable : s.fwWritable part unit = true)
    (htakes : (s.getFws (fwKey part unit)).accepts (s.getFws (fwKey part unit)).spare = true) :
    ((update part unit ver digest immediate s).getFws (fwKey part unit)).slot (s.getFws (fwKey part unit)).spare = ⟨1, ver, digest⟩ ∧
    (update part unit ver digest immediate s).rack.planner.tasks =
      s.rack.planner.tasks ++ [⟨s.rack.planner.nextTask, part, unit, (s.getFws (fwKey part unit)).spare, immediate, s.now, 0⟩] ∧
    (update part unit ver digest immediate s).out.head? = some (.redfish 202 [s.rack.planner.nextTask]) := by
  have hfws : (taskMade part unit (s.getFws (fwKey part unit)).spare immediate s).getFws (fwKey part unit) = s.getFws (fwKey part unit) :=
    (State.modPlanner_keeps ..).getFws (by decide +kernel) _
  have hplanner := (fwInstall_keeps part unit (s.getFws (fwKey part unit)).spare ver digest (taskMade part unit (s.getFws (fwKey part unit)).spare immediate s)).planner (by decide +kernel)
  rw [update_eq hwritable htakes]
  refine ⟨?_, ?_, rfl⟩
  · rw [State.getFws_emit, fwInstall_installs (s := taskMade part unit (s.getFws (fwKey part unit)).spare immediate s) hwritable (hfws.symm ▸ htakes), FwPart.slot_setSlot_same]
  · change (fwInstall part unit (s.getFws (fwKey part unit)).spare ver digest (taskMade part unit (s.getFws (fwKey part unit)).spare immediate s)).rack.planner.tasks = _
    rw [hplanner]
    rfl

theorem update_refused {part unit ver : Nat} {digest : List Nat} {immediate : Bool} (h : s.fwWritable part unit = false) :
    update part unit ver digest immediate s = s.emit (.redfish 400 []) := by
  rw [update, h, Bool.false_and]
  rfl

theorem subscribe_takes {dest : Nat} (h : s.rack.planner.subs.length < 16) : (subscribe dest s).rack.planner.subs = s.rack.planner.subs ++ [(s.rack.planner.nextSub, dest)] ∧
    (subscribe dest s).out = .redfish 201 [s.rack.planner.nextSub] :: s.out := by
  have heq : subscribe dest s = (touch .eventService (s.modPlanner fun q => { q with subs := q.subs ++ [(q.nextSub, dest)], nextSub := q.nextSub + 1 })).emit
      (.redfish 201 [s.rack.planner.nextSub]) := if_neg (Nat.not_le.mpr h)
  rw [heq]
  exact ⟨rfl, rfl⟩

theorem unsubscribe_takes {n : Nat} (h : ∃ x ∈ s.rack.planner.subs, x.1 = n) : (∀ x ∈ (unsubscribe n s).rack.planner.subs, x.1 ≠ n) ∧ Answered 204 (unsubscribe n s) := by
  obtain ⟨x, hx, hn⟩ := h
  have heq : unsubscribe n s = (touch .eventService (s.modPlanner fun q => { q with subs := q.subs.filter fun x => x.1 ≠ n })).emit (.redfish 204 []) :=
    if_pos (by exact List.any_eq_true.mpr ⟨x, hx, by simp [hn]⟩)
  rw [heq]
  refine ⟨fun y hy => ?_, answered_emit ..⟩
  have hmem : y ∈ s.rack.planner.subs.filter fun x => x.1 ≠ n := hy
  simpa using (List.mem_filter.mp hmem).2

/-! ### Caps that differ from the plan (R665) -/

/-- A wafer's planned cap is written back, and the override counted. -/
def capRestored (w : Nat) (s : State) : State :=
  capWrite w 1 ((s.getPlans w).written + (s.getPlans w).reason * 2 ^ 16 + (s.getPlans w).planNo * 2 ^ 20) (s.modPlans w fun x => { x with overrides := x.overrides + 1 })

theorem capCheck_eq (hactive : s.rack.planner.haveActive = true) :
    capCheck s = forEach (allWafers.filter fun w => s.planned w && s.hostRuns w && s.capDiffers w) s capRestored := by
  rw [capCheck, if_neg (by simp [hactive])]
  rfl

theorem capRestored_plans (w v : Nat) (s : State) : (capRestored w s).getPlans v = (s.modPlans w fun x => { x with overrides := x.overrides + 1 }).getPlans v :=
  (capWrite_keeps ..).getPlans (by decide +kernel) v

theorem capRestored_shows (hlo : 1500 ≤ (s.getPlans w).written) (hhi : (s.getPlans w).written ≤ 20000) :
    (capRestored w s).rd PWR_CAP_CAP_W w 0 = (s.getPlans w).written ∧ ((capRestored w s).getPlans w).overrides = (s.getPlans w).overrides + 1 := by
  have hasked : capAsked ((s.getPlans w).written + (s.getPlans w).reason * 2 ^ 16 + (s.getPlans w).planNo * 2 ^ 20) = (s.getPlans w).written := by
    have hlow : bits ((s.getPlans w).written + (s.getPlans w).reason * 2 ^ 16 + (s.getPlans w).planNo * 2 ^ 20) 15 0 = (s.getPlans w).written := by
      simp only [bits, Nat.shiftRight_zero]
      omega
    rw [capAsked, hlow]
    omega
  refine ⟨(capWrite_shows ..).1.trans hasked, ?_⟩
  rw [capRestored_plans, State.getPlans_modPlans_same]

theorem capRestored_other {v : Nat} (hne : v ≠ w) (s : State) : (capRestored w s).rd PWR_CAP_CAP_W v 0 = s.rd PWR_CAP_CAP_W v 0 ∧ (capRestored w s).getPlans v = s.getPlans v := by
  refine ⟨(capWrite_other _ _ _ hne).1, ?_⟩
  rw [capRestored_plans, State.getPlans_modPlans_ne _ _ hne]

theorem capCheck_restores (hactive : s.rack.planner.haveActive = true) (hw : w < 36) (hplanned : s.planned w = true) (hhost : s.hostRuns w = true) (hdiffers : s.capDiffers w = true)
    (hlo : 1500 ≤ (s.getPlans w).written) (hhi : (s.getPlans w).written ≤ 20000) :
    (capCheck s).rd PWR_CAP_CAP_W w 0 = (s.getPlans w).written ∧ ((capCheck s).getPlans w).overrides = (s.getPlans w).overrides + 1 := by
  have hmem : w ∈ allWafers.filter fun w => s.planned w && s.hostRuns w && s.capDiffers w := List.mem_filter.mpr ⟨List.mem_range.mpr hw, by simp [hplanned, hhost, hdiffers]⟩
  rw [capCheck_eq hactive]
  refine forEach_establishes (g := capRestored) (Q := fun v t => t.getPlans v = s.getPlans v)
    (P := fun v t => 1500 ≤ (s.getPlans v).written → (s.getPlans v).written ≤ 20000 →
      t.rd PWR_CAP_CAP_W v 0 = (s.getPlans v).written ∧ (t.getPlans v).overrides = (s.getPlans v).overrides + 1)
    (fun v t hsame hlo hhi => ?_) (fun v x t hne hsame => (capRestored_other hne t).2.trans hsame) (fun v x t hne h hlo hhi => ?_)
    (List.nodup_range.filter _) (fun _ _ => rfl) w hmem hlo hhi
  · rw [← hsame] at hlo hhi ⊢
    exact capRestored_shows hlo hhi
  · obtain ⟨hcap, hplan⟩ := capRestored_other hne t
    rw [hcap, hplan]
    exact h hlo hhi

end

end Sys2Proof.Machine
open Sys2Proof Sys2Proof.Machine

/-- Settles O53: the standby refuses every write before it is carried out, and each write of the active RMC changes the one record that it names and answers. -/
theorem redfishService : Obligations.RedfishService := by
  unfold Obligations.RedfishService
  intro r s p active ok
  refine ⟨fun x => ⟨_, rfl, rfl⟩, fun hstandby t bus x e ps n c hc => ?_, fun hactive => ⟨?_, ?_, fun v => ⟨?_, ?_, ?_, ?_, ?_⟩, fun t hruns => ⟨?_, ?_, ?_, ?_, ?_⟩, ?_, ?_, ?_, ?_, ?_, ?_, ?_, ?_, ?_⟩,
    fun w hactive hplanned hhost hdiffers hlo hhi => ⟨_, rfl, capCheck_restores hactive w.isLt hplanned hhost hdiffers hlo hhi⟩⟩
  · simp only [List.mem_cons, List.not_mem_nil, or_false] at hc
    obtain rfl | rfl | rfl | rfl | rfl | rfl | rfl := hc <;> exact completes_refused rfl hstandby
  · exact fun x e ps hstale => completes_write rfl hactive (patch_stale hstale _)
  · exact fun x q v hrange => completes_write rfl hactive (patch_outOfRange hrange)
  · intro hv
    obtain ⟨hlimit, hetag⟩ := patched_limit v.toNat s
    exact completes_patch rfl hactive (decide_eq_true hv) rfl fun n => ⟨hlimit, answered_emit .., hetag⟩
  · exact fun hv => completes_patch rfl hactive (decide_eq_true hv) rfl fun n => rfl
  · exact fun hlo hhi => completes_patch rfl hactive (by simp [propOk, hlo, hhi]) rfl fun n => rfl
  · exact fun hlo hhi => completes_patch rfl hactive (by simp [propOk, hlo, hhi]) rfl fun n => rfl
  · exact fun t ht hlo hhi => completes_patch rfl hactive (by simp [propOk, ht, hlo, hhi]) rfl fun n => patched_floor t v.toNat s
  · exact fun bus hclosed => completes_action rfl hactive hruns ⟨answered_emit .., resetOn_shows hruns hclosed⟩
  · exact completes_action rfl hactive hruns ⟨answered_emit .., resetForceOff_shows ..⟩
  · exact completes_action rfl hactive hruns ⟨answered_emit .., resetGraceful_shows ..⟩
  · exact fun ht hon hstays => completes_action rfl hactive hruns ⟨answered_emit .., resetCycle_wafer ht hon hstays⟩
  · exact fun k ht hon => completes_action rfl hactive hruns ⟨answered_emit .., resetCycle_switch ht hon⟩
  · exact fun t hstopped => completes_unreached rfl hactive hstopped
  · intro w off count data
    have hframe : windowFrame s.rack.planner.askSeq off.toNat count.toNat (data.map BitVec.toNat) =
        if data.isEmpty then taf 1 1 s.rack.planner.askSeq off.toNat count.toNat 0 [] else taf 2 1 s.rack.planner.askSeq off.toNat data.length 0 (data.map BitVec.toNat) := by
      rw [windowFrame, List.isEmpty_map, List.length_map]
    have hasks := windowAccess_asks w off.toNat count.toNat (data.map BitVec.toNat) s
    rw [hframe] at hasks
    exact completes_write rfl hactive hasks
  · exact fun h b => completes_write rfl hactive ⟨clearCellFault_clears h b s, answered_emit ..⟩
  · exact fun n hn hnone => ⟨_, rfl, setSeconds_reads hn hnone⟩
  · exact completes_write rfl hactive ⟨rfl, answered_emit ..⟩
  · intro part unit ver digest now c hc f
    have hexec : exec c s = .next (rfWrite r (update part unit.toNat ver.toNat (digest.map BitVec.toNat) now) s) := by
      obtain rfl | rfl := hc <;> rfl
    exact ⟨fun hwritable htakes => completes_write hexec hactive (update_installs hwritable htakes), fun hno => completes_write hexec hactive (update_refused hno)⟩
  · exact fun dest hfew => completes_write rfl hactive (subscribe_takes hfew)
  · exact fun dest hfull => completes_write rfl hactive (if_pos hfull)
  · exact fun n hn => completes_write rfl hactive (unsubscribe_takes hn)

end
